-- ==== Sys2Proof/Word.lean ====
section
/-! DEFINITION. The word types of the KL-1800 register fabric (R9) and the plainest arithmetic on them. -/

namespace Sys2Proof

/-- A register word: 32 bits, little-endian, bit 0 least significant (R9). -/
abbrev Word := BitVec 32

/-- One byte of DRAM or of a datagram. -/
abbrev Byte := BitVec 8

end Sys2Proof
end

