-- ==== Sys2Proof/Syntax.lean ====
section
/-! DEFINITION. The commands of the block: one constructor per row of the table of operations and events. -/

namespace Sys2Proof

/-- Who makes a register access (R34, R71). Only Marigold reaches the privileged view. -/
inductive Requester where
  | controlComplex | host | marigold | caravan
  deriving DecidableEq, Repr

/-- Where a session's datagrams go (R150): address family (4 or 6), address, UDP port, MAC address. -/
structure Reply where
  v6 : Bool
  addr : Nat
  port : Nat
  mac : Nat
  deriving DecidableEq, Repr

/-- What a received Ethernet frame holds behind its addresses and tag (R355), with the public header formats parsed (log entry 27): an ARP
request and a neighbour solicitation give the address asked for and the IP address of the one that asks; `ip` gives version 6 or 4,
addresses, the fragment's identification, offset in bytes and more-fragments flag, the protocol number and the bytes behind the IP header.
-/
inductive RxBody where
  | pause
  | arp (target sender : Nat)
  | solicit (target source : Nat)
  | ptp (kind : Nat)
  | ip (v6 : Bool) (src dst : Nat) (frag : Option (Nat × Nat × Bool)) (proto : Nat) (data : List Byte)
  | other
  deriving DecidableEq, Repr

/-- A received frame: whether its FCS is good, its length through the FCS, its VLAN identifier, its source MAC address, its
content, and its bytes from the destination address on, without the FCS. -/
structure RxFrame where
  fcsOk : Bool
  len : Nat
  vlan : Option Nat
  srcMac : Nat
  body : RxBody
  bytes : List Byte
  deriving DecidableEq, Repr

/-- How many bits differed at the points of one axis of an eye scan: at the centre, and outward from it on each side (R436). -/
structure ScanAxis where
  centre : Nat
  below : List Nat
  above : List Nat
  deriving DecidableEq, Repr

/-- The points of one eye: across, and up (R436). -/
structure EyeScan where
  phase : ScanAxis
  volt : ScanAxis
  deriving DecidableEq, Repr

/-- A PTP message as the port takes it (R387-R389): domain, source clock identity and port, sequence number, log interval,
correction in 2^-16 ns, seconds (48 bits) and nanoseconds of its timestamp, two-step flag. -/
structure PtpMsg where
  domain : Nat
  clock : Nat
  port : Nat
  seq : Nat
  interval : Int
  corr : Int
  sec : Nat
  ns : Nat
  twoStep : Bool
  requesting : Nat × Nat   -- the requesting port of a Delay_Resp: clock identity and port number
  deriving DecidableEq, Repr

/-- What an Announce message says (R388, R397): grandmaster identity, priorities, quality, steps removed, UTC offset and the flags
VALID, LI61, LI59. -/
structure AnnounceData where
  gm : Nat
  prio1 : Nat
  cls : Nat
  accuracy : Nat
  variance : Nat
  prio2 : Nat
  steps : Nat
  utc : Nat
  flags : Nat
  deriving DecidableEq, Repr

/-- A DIMM (R399): capacity in GiB, ranks, device width, SPD serial number, speed, refresh management support, whether it is a registered
module (not unbuffered or load-reduced), whether it has ECC, and the density of its dies in Gb. -/
structure Dimm where
  gib : Nat
  ranks : Nat
  width : Nat
  serial : Nat
  speed : Nat
  rfm : Bool
  registered : Bool
  ecc : Bool
  density : Nat
  deriving DecidableEq, Repr

/-- A copy of the metadata on a drive (R418): generation, serial number of the device that wrote it, next segment number, the numbers of the
segments that the drive holds, and the CRC-32C. -/
structure MetaCopy where
  gen : Nat
  serial : Nat
  next : Nat
  nums : List Nat
  crc : Nat
  deriving DecidableEq, Repr

/-- How a PMBus read comes out (R448): the tries that are not acknowledged or fail their PEC, and the word that the next one brings. -/
structure PmbRead where
  fails : Nat
  word : Nat
  deriving DecidableEq, Repr

/-- What a regulator answers when it is switched on (R448): the tries of OPERATION that are not acknowledged, and its STATUS_WORD. -/
structure RegAnswer where
  sent : Nat
  status : PmbRead
  deriving DecidableEq, Repr

/-- What the ECC finds in a line that is read (R406, R408), 0 to 5, and the bit of a corrected error. -/
structure EccFind where
  err : Nat
  bit : Nat
  deriving DecidableEq, Repr

/-- How the replays after a parity error go (R405): how many in a row fail, and the commands since the oldest that the driver may have
blocked. -/
structure Replays where
  fails : Nat
  since : Nat
  deriving DecidableEq, Repr

/-- A drive whose presence or link is lost (R417): which, and whether it is still present. -/
structure DriveLoss where
  drive : Nat
  present : Bool
  deriving DecidableEq, Repr

/-- A command of a drive that is late (R416): the instant at which it was issued, and whether its abort succeeds. -/
structure LateCommand where
  issued : Nat
  aborted : Bool
  deriving DecidableEq, Repr

/-- A regulator's answers to STATUS_WORD, READ_VOUT and VOUT_MODE (R448, R449). -/
structure RegRead where
  status : PmbRead
  vout : PmbRead
  mode : PmbRead
  deriving DecidableEq, Repr

/-- What a housekeeping round samples (R450): the 56 ring-oscillator sensors in 1/16 °C, the external inputs (12-bit code in
NTC mode, mV in voltage mode), the crack loops in 10 ohm, the tile input and the bank voltage in 10 mV, the 50 rail channels,
the DIMM temperatures of each channel in °C, and the answers of the regulators. -/
structure Round where
  sens : List Int
  ext : List Nat
  crack : List Nat
  sup : Nat
  hold : Nat
  rails : List Nat
  dimm : List (List Int)
  regs : List RegRead
  health : List Nat
  deriving DecidableEq, Repr

/-- Through which register a fence request comes (R48, R200, R349, R493): the FENCE register of page `code * 16 + index`,
SVC_UNIT_REQ for a unit, SLC_CL_FENCE of a ray cluster, or BKL_CH_REQ for a chain. -/
inductive FencePort where
  | page (n : Nat)
  | unit (n : Nat)
  | cluster (n : Nat)
  | chain (n : Nat)
  deriving DecidableEq, Repr

/-- The commands. `t` is the instant at which an event comes about, in units of 2^-32 ns since reset (log entry 9); `who` is the
requester of a register access; `data` is the word written, and in a 64-bit access of the host the two words (R38). -/
inductive Instr where
  /-- REGISTER_WRITE (R53). -/
  | registerWrite (who : Requester) (addr size : Nat) (data : BitVec 64)
  /-- IRQ_FORCE (R42). -/
  | irqForce (who : Requester) (page : Nat) (data : Word)
  /-- COMMIT_REQ (R60). -/
  | commitReq (who : Requester) (page : Nat) (data : Word)
  /-- COMMIT_CANCEL (R59). -/
  | commitCancel (who : Requester) (page : Nat) (data : Word)
  /-- COMMIT_TAKE_EFFECT (R61). -/
  | commitTakeEffect (page : Nat)
  /-- GCOMMIT_REQ (R66). -/
  | gcommitReq (who : Requester) (data : Word)
  /-- GCOMMIT_CANCEL (R64). -/
  | gcommitCancel (who : Requester) (data : Word)
  /-- DEV_INTC_EOI (R75). -/
  | devIntcEoi (who : Requester) (data : Word)
  /-- DEV_INTC_MASK_WRITE (R75). -/
  | devIntcMaskWrite (who : Requester) (half : Nat) (data : Word)
  /-- DEV_INTC_ROUTE_WRITE (R75). -/
  | devIntcRouteWrite (who : Requester) (index : Nat) (data : Word)
  /-- LINE_START (R89). -/
  | lineStart (t : Nat)
  /-- RAS_FRAME_DONE (R89). -/
  | rasFrameDone (t : Nat)
  /-- LATCH (R86). -/
  | latch (t : Nat)
  /-- RAS_FRAME_READ (R79). -/
  | rasFrameRead (t : Nat)
  /-- TRANSITION_FADE_OUT (R92). -/
  | transitionFadeOut (t : Nat)
  /-- TRANSITION_LENS_PARK (R92). -/
  | transitionLensPark (t : Nat)
  /-- TRANSITION_DISCHARGE (R92). -/
  | transitionDischarge (t : Nat)
  /-- TRANSITION_RETIME (R92). -/
  | transitionRetime (t : Nat)
  /-- TRANSITION_REACQUIRE_END (R92). -/
  | transitionReacquireEnd (t : Nat)
  /-- TRANSITION_FADE_IN (R92). -/
  | transitionFadeIn (t : Nat)
  /-- RAS_TRANSITION_DONE (R89). -/
  | rasTransitionDone (t : Nat)
  /-- CARAVAN_ARM (R97). -/
  | caravanArm (who : Requester) (entry : Nat) (data : Word)
  /-- CARAVAN_DISARM (R97). -/
  | caravanDisarm (who : Requester) (entry : Nat) (data : Word)
  /-- NOTIFY (R96). -/
  | crvNotify (entry t : Nat)
  /-- WRITE (R99). -/
  | crvWrite (entry t : Nat)
  /-- PIN_SET (R96). -/
  | pinSet (entry t : Nat)
  /-- PIN_PULSE (R96). -/
  | pinPulse (entry t : Nat)
  /-- PIN_PULSE_END (R96). -/
  | pinPulseEnd (pin t : Nat)
  /-- TIMESTAMP (R96). -/
  | timestamp (entry t : Nat)
  /-- SCN_ENABLE (R130). -/
  | scnEnable (who : Requester) (data : Word)
  /-- SCN_DISABLE (R131). -/
  | scnDisable (who : Requester) (data : Word)
  /-- SCN_STORE_RELEASE (R131). -/
  | scnStoreRelease (t : Nat)
  /-- SCN_QUERY_GO (R128). -/
  | scnQueryGo (who : Requester) (data : Word)
  /-- SCN_QUERY_DONE (R129). -/
  | scnQueryDone
  /-- STAGING_OPEN (R112). -/
  | stagingOpen
  /-- STAGING_CHANGE_RESUME (R118). -/
  | stagingChangeResume
  /-- WINDOW_FILL (R120). -/
  | windowFill (slice which plane bx brow : Nat)
  /-- DATAGRAM_RECEIVE (R137). -/
  | datagramReceive (source : Nat) (bytes : List Byte) (reply : Option Reply) (t : Nat)
  /-- DATAGRAM_APPLY (R140). -/
  | datagramApply (session : Nat)
  /-- KEY_ACCEPT (R145). -/
  | keyAccept (session : Nat)
  /-- DEFINE_PLANE (R138). -/
  | definePlane (session : Nat)
  /-- ALTER_PLANE (R138). -/
  | alterPlane (session : Nat)
  /-- WRITE_BLOCK (R139). -/
  | writeBlock (session : Nat)
  /-- COPY_REGION (R139). -/
  | copyRegion (session : Nat)
  /-- FILL_REGION (R139). -/
  | fillRegion (session : Nat)
  /-- GLYPH_RUN (R139). -/
  | glyphRun (session : Nat)
  /-- SET_DEPTH (R139). -/
  | setDepth (session : Nat)
  /-- COMMIT_FRAME (R146). -/
  | commitFrame (session : Nat)
  /-- NACK_SEND (R140). -/
  | nackSend (session t : Nat)
  /-- GAP_TIMEOUT (R140). -/
  | gapTimeout (session t : Nat)
  /-- REPORT (R151). -/
  | reportSend (session t : Nat)
  /-- INJECT_GO (R164). -/
  | injectGo (who : Requester) (data : Word)
  /-- ING_INJECT_DONE (R153). -/
  | ingInjectDone
  /-- ING_ENABLE (R164). -/
  | ingEnable (who : Requester) (data : Word)
  /-- ING_DISABLE (R164). -/
  | ingDisable (who : Requester) (data : Word)
  /-- SESSION_ENABLE (R164). -/
  | sessionEnable (who : Requester) (session : Nat) (data : Word)
  /-- SESSION_CLOSE (R134). -/
  | sessionClose (who : Requester) (session : Nat) (data : Word)
  /-- MBC_RING_TAIL (R160). -/
  | mbcRingTail (who : Requester) (engine : Nat) (data : Word)
  /-- DECODE (R160). -/
  | mbcDecodeJob (engine : Nat)
  /-- ENCODE (R160). -/
  | mbcEncodeJob (engine : Nat)
  /-- VERIFY (R160). -/
  | mbcVerifyJob (engine : Nat)
  /-- MBC_JOB_DONE (R160). -/
  | mbcJobDone (engine : Nat)
  /-- MBC_STOPPED (R161). -/
  | mbcStopped (engine : Nat)
  /-- RESUME_OUT (R161). -/
  | mbcResumeOut (who : Requester) (engine : Nat)
  /-- RESUME_IN (R161). -/
  | mbcResumeIn (who : Requester) (engine : Nat)
  /-- CANCEL (R161). -/
  | mbcCancel (who : Requester) (engine : Nat)
  /-- MBC_DISABLE (R167). -/
  | mbcDisable (who : Requester) (engine : Nat) (data : Word)
  /-- SYN_GRID_LOAD_GO (R197). -/
  | synGridLoadGo (who : Requester) (data : Word)
  /-- SYN_GRID_LOADED (R197). -/
  | synGridLoaded
  /-- PLANNING_START (R226). -/
  | planningStart (t : Nat)
  /-- PLC_COSTMAP_DONE (R230). -/
  | plcCostmapDone
  /-- CLUSTER_CLAIM (R234). -/
  | clusterClaim (cluster t : Nat)
  /-- TILE_START (R234). -/
  | tileStart (cluster t : Nat)
  /-- TILE_STEAL (R235). -/
  | tileSteal (cluster t : Nat)
  /-- REVOKE_ARRIVE (R237). -/
  | revokeArrive (cluster t : Nat)
  /-- RAY_RESULT_ADMIT (R206). -/
  | rayResultAdmit (frame region band col epoch sub line t : Nat)
  /-- RESIDUE_FAILURE (R191). -/
  | residueFailure (cluster t : Nat)
  /-- WINDOW_ECC_ERROR (R191). -/
  | windowEccError (slice addr : Nat) (corrected : Bool) (t : Nat)
  /-- SLICE_LOST (R244). -/
  | sliceLost (slice t : Nat)
  /-- OASIS_UNIT_WRITE (R215). -/
  | oasisUnitWrite (frame region band col t : Nat)
  /-- OASIS_CTRL_WRITE (R225). -/
  | oasisCtrlWrite (who : Requester) (data : Word)
  /-- BRC_LUT_LOAD_GO (R223). -/
  | brcLutLoadGo (who : Requester) (data : Word)
  /-- BRC_LUT_LOADED (R223). -/
  | brcLutLoaded
  /-- SNAP_GO (R220). -/
  | snapGo (who : Requester) (data : Word)
  /-- BRC_SNAP_DONE (R220). -/
  | brcSnapDone
  /-- PLC_HINT_GO (R252). -/
  | plcHintGo (who : Requester) (data : Word)
  /-- PLC_COSTMAP_GO (R230). -/
  | plcCostmapGo (who : Requester) (data : Word)
  /-- UNIT_MIGRATE (R247). -/
  | unitMigrate (addr dest t : Nat)
  /-- PLC_EVAC_DONE (R248). -/
  | plcEvacDone (t : Nat)
  /-- CACHE_READAHEAD (R250). -/
  | cacheReadahead (player t : Nat)
  /-- BARCHAN_RESTART (R227). -/
  | barchanRestart (t : Nat)
  /-- LYR_DONE_WRITE (R272). -/
  | lyrDoneWrite (who : Requester) (layer : Nat) (data : Word)
  /-- LYR_FAULT_DROP (R276). -/
  | lyrFaultDrop (layer t : Nat)
  /-- BLT_RING_TAIL (R291). -/
  | bltRingTail (who : Requester) (data : Word)
  /-- COPY (R288). -/
  | bltCopy (bursts t : Nat)
  /-- FILL (R286). -/
  | bltFill (bursts t : Nat)
  /-- GLYPH (R286). -/
  | bltGlyph (bursts t : Nat)
  /-- BLT_HELD (R294). -/
  | bltHeld
  /-- BLT_RELEASE (R294). -/
  | bltRelease (who : Requester) (data : Word)
  /-- BLT_DONE (R293). -/
  | bltDone
  /-- BLT_DISABLE (R293). -/
  | bltDisable (who : Requester) (data : Word)
  /-- PNL_RW_GO (R311). -/
  | pnlRwGo (who : Requester) (data : Word)
  /-- PNL_OD_LOAD_GO (R313). -/
  | pnlOdLoadGo (who : Requester) (data : Word)
  /-- PNL_OD_LOADED (R313). -/
  | pnlOdLoaded
  /-- LENS_ZERO_FIELD (R319). -/
  | lensZeroField (t : Nat)
  /-- UP (R321). -/
  | panelUp (who : Requester) (data : Word)
  /-- PANEL_RAIL_ON (R321). -/
  | panelRailOn (answer : RegAnswer) (t : Nat)
  /-- PANEL_CLEARING_END (R321). -/
  | panelClearingEnd (t : Nat)
  /-- DOWN (R322). -/
  | panelDown (who : Requester) (data : Word)
  /-- PANEL_RAIL_OFF (R322). -/
  | panelRailOff (t : Nat)
  /-- PNL_POWER_DONE (R329). -/
  | pnlPowerDone
  /-- DISCHARGE_TRIGGER (R323). -/
  | dischargeTrigger (who : Requester) (data : Word)
  /-- DISCHARGE_HOLD_EXPIRE (R323). -/
  | dischargeHoldExpire (t : Nat)
  /-- DISCHARGE_END (R323). -/
  | dischargeEnd (t : Nat)
  /-- BKL_SLOT (R337). -/
  | bklSlot (row t : Nat)
  /-- BKL_FADE_GO (R343). -/
  | bklFadeGo (who : Requester) (data : Word)
  /-- BKL_FADE_DONE (R343). -/
  | bklFadeDone (t : Nat)
  /-- WP_CYCLE (R347). -/
  | wpCycle (reads : List (Option (List Nat))) (t : Nat)
  /-- FRAME_RECEIVE (R355). -/
  | frameReceive (path : Nat) (frame : RxFrame) (t : Nat)
  /-- NPX_FRAG_TIMEOUT (R356). -/
  | npxFragTimeout (path t : Nat)
  /-- LINK_DOWN (R353). -/
  | linkDown (path : Nat) (aligned localFault remoteFault : Bool) (t : Nat)
  /-- LINK_UP (R353). -/
  | linkUp (path t : Nat)
  /-- TRANSMISSION_OPPORTUNITY (R361). -/
  | transmissionOpportunity (path t : Nat)
  /-- NPX_HTX_TAIL (R360). -/
  | npxHtxTail (who : Requester) (path : Nat) (data : Word)
  /-- NPX_HRX_TAIL (R379). -/
  | npxHrxTail (who : Requester) (path : Nat) (data : Word)
  /-- GCL_GO (R367). -/
  | gclGo (who : Requester) (path : Nat) (data : Word)
  /-- GCL_CANCEL (R367). -/
  | gclCancel (who : Requester) (path : Nat) (data : Word)
  /-- NPX_GCL_SWITCH (R367). -/
  | npxGclSwitch (path t : Nat)
  /-- HEARTBEAT (R370). -/
  | heartbeat (path : Nat) (mirror : Bool) (t : Nat)
  /-- HEARTBEAT_LOSS (R374). -/
  | heartbeatLoss (t : Nat)
  /-- GRANT_RELEASE (R374). -/
  | grantRelease (fault : Bool) (t : Nat)
  /-- GRANT (R374). -/
  | grant (t : Nat)
  /-- SNAPSHOT_SEND (R371). -/
  | snapshotSend (t : Nat)
  /-- SNAPSHOT_RECEIVE (R371). -/
  | snapshotReceive (good : Bool) (t : Nat)
  /-- FOV_STALE (R372). -/
  | fovStale (t : Nat)
  /-- STATE_RESTORE (R375). -/
  | stateRestore (t : Nat)
  /-- FOV_COLD (R378). -/
  | fovCold (t : Nat)
  /-- SWITCH (R374). -/
  | fovSwitch (who : Requester) (data : Word)
  /-- ILK_FORCE (R374). -/
  | ilkForce (a b : Bool) (t : Nat)
  /-- SYNC (R389). -/
  | ptpSync (path : Nat) (msg : PtpMsg) (t : Nat)
  /-- FOLLOW_UP (R389). -/
  | followUp (path : Nat) (msg : PtpMsg) (t : Nat)
  /-- DELAY_REQ (R388). -/
  | delayReq (path t : Nat)
  /-- DELAY_RESP (R389). -/
  | delayResp (path : Nat) (msg : PtpMsg) (t : Nat)
  /-- ANNOUNCE (R388). -/
  | ptpAnnounce (path : Nat) (msg : PtpMsg) (data : AnnounceData) (t : Nat)
  /-- PTP_TIMEOUT (R391). -/
  | ptpTimeout (path t : Nat)
  /-- TIM_NOW_READ (R397). -/
  | timNowRead (t : Nat)
  /-- DRAM_READ (R406). -/
  | dramRead (client : Nat) (realTime : Bool) (addr : Nat) (found : EccFind) (act : Option (Nat × Nat)) (idle : Bool) (t : Nat)
  /-- DRAM_WRITE (R402). -/
  | dramWrite (client : Nat) (realTime : Bool) (addr : Nat) (bytes : List Byte) (act : Option (Nat × Nat)) (idle : Bool) (t : Nat)
  /-- TREFI (R404). -/
  | trefi (channel t : Nat)
  /-- HARD_BOUNDARY (R404). -/
  | hardBoundary (channel : Nat) (raster : Bool) (t : Nat)
  /-- SOFT_BOUNDARY (R404). -/
  | softBoundary (channel t : Nat)
  /-- DMC_CA_PARITY (R405). -/
  | dmcCaParity (channel : Nat) (replays : Replays) (t : Nat)
  /-- SCRUB_READ (R408). -/
  | scrubRead (channel err bit t : Nat)
  /-- DRAM_TRAINING (R411). -/
  | dramTraining (channel : Nat) (modules : List Dimm) (temp : Int) (verify memory : Bool) (full : Option (List Nat)) (t : Nat)
  /-- DQS_DRIFT_CHECK (R413). -/
  | dqsDriftCheck (channel : Nat) (steps : Int) (t : Nat)
  /-- RESTORE (R412). -/
  | dmcRestore (who : Requester) (data : Word)
  /-- DIMM_PWR (R415). -/
  | dimmPwr (who : Requester) (channel : Nat) (data : Word)
  /-- DRIVE_INSERT (R417). -/
  | driveInsert (drive : Nat) (copies : List (Option MetaCopy)) (capacity : Nat) (format : Bool) (generation width health t : Nat)
  /-- DRIVE_SURPRISE_REMOVE (R417). -/
  | driveSurpriseRemove (loss : DriveLoss) (t : Nat)
  /-- NVME_COMMAND_TIMEOUT (R416). -/
  | nvmeCommandTimeout (drive : Nat) (late : LateCommand) (t : Nat)
  /-- INIT (R428). -/
  | driveInit (who : Requester) (drive : Nat) (data : Word)
  /-- SEGMENT_WRITE (R420). -/
  | segmentWrite (who : Requester) (data : Word)
  /-- QUERY (R427). -/
  | segmentQuery (who : Requester) (data : Word)
  /-- DELETE (R427). -/
  | segmentDelete (who : Requester) (data : Word)
  /-- PLAYBACK_GO (R422). -/
  | playbackGo (who : Requester) (player : Nat) (data : Word)
  /-- STOP (R422). -/
  | playbackStop (who : Requester) (player : Nat) (data : Word)
  /-- PLAYBACK_DELIVER (R422). -/
  | playbackDeliver (player t : Nat)
  /-- NVS_PB_DONE (R422). -/
  | nvsPbDone (player t : Nat)
  /-- NVS_PB_LOST (R423). -/
  | nvsPbLost (player t : Nat)
  /-- NVS_FALLBACK (R424). -/
  | nvsFallback (t : Nat)
  /-- NVS_FALLBACK_END (R424). -/
  | nvsFallbackEnd (t : Nat)
  /-- LANE_ENABLE (R431). -/
  | laneEnable (lane t : Nat)
  /-- LNK_LANE_READY (R431). -/
  | lnkLaneReady (lane tx rx0 rx1 t : Nat)
  /-- LNK_LANE_FAULT (R439). -/
  | lnkLaneFault (lane cause t : Nat)
  /-- LANE_RETRY (R439). -/
  | laneRetry (lane t : Nat)
  /-- RESTART (R440). -/
  | laneRestart (who : Requester) (lane : Nat) (data : Word)
  /-- SCAN_GO (R436). -/
  | scanGo (who : Requester) (lane : Nat) (data : Word)
  /-- LNK_SCAN_DONE (R436). -/
  | lnkScanDone (lane : Nat) (phase volt : List ScanAxis) (t : Nat)
  /-- EQ_SLEW_STEP (R438). -/
  | eqSlewStep (lane setting t : Nat)
  /-- MARIGOLD_RESTART (R443). -/
  | marigoldRestart (t : Nat)
  /-- STATUS (R445). -/
  | mbStatus (channel : Nat) (host : List Byte) (t : Nat)
  /-- LOG_READ (R507). -/
  | mbLogRead (channel : Nat) (host : List Byte) (t : Nat)
  /-- PRIV_WRITE (R445). -/
  | mbPrivWrite (channel : Nat) (host : List Byte) (t : Nat)
  /-- DOMAIN (R447). -/
  | mbDomain (channel : Nat) (host : List Byte) (answers : Bool) (t : Nat)
  /-- DOMAIN_UP (R447). -/
  | domainUp (domain t : Nat)
  /-- CAL_CAPTURE (R466). -/
  | mbCalCapture (channel : Nat) (host : List Byte) (t : Nat)
  /-- UPDATE_BEGIN (R484). -/
  | mbUpdateBegin (channel : Nat) (host : List Byte) (t : Nat)
  /-- UPDATE_BLOCK (R484). -/
  | mbUpdateBlock (channel : Nat) (host : List Byte) (t : Nat)
  /-- UPDATE_END (R484). -/
  | mbUpdateEnd (channel : Nat) (host : List Byte) (t : Nat)
  /-- ACTIVATE (R485). -/
  | mbActivate (channel : Nat) (host : List Byte) (t : Nat)
  /-- COMMIT (R485). -/
  | mbCommit (channel : Nat) (host : List Byte) (t : Nat)
  /-- ATTEST (R486). -/
  | mbAttest (channel : Nat) (host : List Byte) (t : Nat)
  /-- IDENTITY (R483). -/
  | mbIdentity (channel : Nat) (host : List Byte) (t : Nat)
  /-- KEY_LOAD (R488). -/
  | mbKeyLoad (channel : Nat) (host : List Byte) (t : Nat)
  /-- KEY_CLEAR (R483). -/
  | mbKeyClear (channel : Nat) (host : List Byte) (t : Nat)
  /-- OWNER_ENROL (R483). -/
  | mbOwnerEnrol (channel : Nat) (host : List Byte) (t : Nat)
  /-- OWNER_REVOKE (R483). -/
  | mbOwnerRevoke (channel : Nat) (host : List Byte) (t : Nat)
  /-- LIFECYCLE (R473). -/
  | mbLifecycle (channel : Nat) (host : List Byte) (t : Nat)
  /-- TEST_UNLOCK (R490). -/
  | mbTestUnlock (channel : Nat) (host : List Byte) (t : Nat)
  /-- MGT_CPX_RESTART (R467). -/
  | mgtCpxRestart (who : Requester) (data : Word)
  /-- CPX_WATCHDOG_EXPIRE (R467). -/
  | cpxWatchdogExpire (t : Nat)
  /-- MGT_CPX_KICK (R467). -/
  | mgtCpxKick (who : Requester) (data : Word)
  /-- HOUSEKEEPING_ROUND (R450). -/
  | housekeepingRound (round : Round) (t : Nat)
  /-- THROTTLE_GRACE_EXPIRE (R457). -/
  | throttleGraceExpire (t : Nat)
  /-- THROTTLE_HOLD_EXPIRE (R457). -/
  | throttleHoldExpire (t : Nat)
  /-- THM_SENS_CLR (R451). -/
  | thmSensClr (who : Requester) (data : Word)
  /-- PWR_BRACE (R460). -/
  | pwrBrace (volts t : Nat)
  /-- PWR_NORMAL (R460). -/
  | pwrNormal (t : Nat)
  /-- PWR_FAIL (R461). -/
  | pwrFail (volts t : Nat)
  /-- RESTART_AFTER_STOP (R461). -/
  | restartAfterStop (t : Nat)
  /-- HOLDUP_MEASURE (R462). -/
  | holdupMeasure (t : Nat)
  /-- PWR_HOLD_MEASURED (R462). -/
  | pwrHoldMeasured (t : Nat)
  /-- HOLDUP_MEASURE_TIMEOUT (R462). -/
  | holdupMeasureTimeout (t : Nat)
  /-- REGULATOR_ON (R449). -/
  | regulatorOn (answer : RegAnswer) (feeds : List Nat) (t : Nat)
  /-- FENCE (R493). -/
  | unitFence (who : Requester) (port : FencePort)
  /-- UNFENCE (R493). -/
  | unitUnfence (who : Requester) (port : FencePort)
  /-- TEST (R493). -/
  | unitTest (who : Requester) (port : FencePort)
  /-- FENCING_DRAINED (R494). -/
  | fencingDrained (unit t : Nat)
  /-- SVC_TEST_DONE (R496). -/
  | svcTestDone (unit result millis t : Nat)
  /-- LOG_APPEND (R505). -/
  | logAppend (t : Nat)
  /-- SVC_LOG_LOST (R506). -/
  | svcLogLost (source event severity : Nat) (data : List Byte) (t : Nat)
  /-- PORST_ASSERT (R515). -/
  | porstAssert (t : Nat)
  /-- RESET_RELEASE (R479). -/
  | resetRelease (kat : List Bool) (testMode : Bool) (t : Nat)
  /-- RECOVERY_GO (R481). -/
  | recoveryGo (who : Requester) (data : Word)
  /-- RESET_PTR (R491). -/
  | rcvResetPtr (who : Requester) (data : Word)
  /-- SEC_RCV_DATA (R481). -/
  | secRcvData (who : Requester) (data : Word)
  /-- SEC_KAT_GO (R491). -/
  | secKatGo (who : Requester) (data : Word)
  /-- CPX_IMAGE_RELEASE (R480). -/
  | cpxImageRelease (t : Nat)
  /-- START_UP (R519). -/
  | startUp (t : Nat)
  /-- SHDN_REQ (R520). -/
  | shdnReq (t : Nat)
  /-- SHUTDOWN_BIST (R498). -/
  | shutdownBist (t : Nat)
  /-- SHUTDOWN_COMPLETE (R520). -/
  | shutdownComplete (t : Nat)
  /-- HEP_PERST_N (R515). -/
  | hepPerstN (t : Nat)
  /-- SHDN_REQ_N_RELEASE (R520). -/
  | shdnReqNRelease (t : Nat)
  /-- CORE_POWER_ON_RESET (R461). -/
  | corePowerOnReset (t : Nat)
  /-- MARIGOLD_READY (R443). -/
  | marigoldReady (t : Nat)
  /-- NVS_SEGW_DONE (R427). -/
  | nvsSegwDone (t : Nat)
  /-- NVS_SEGOP_DONE (R427). -/
  | nvsSegopDone (t : Nat)
  /-- DIE_TO_DIE_DOWN (R385). -/
  | dieToDieDown (path t : Nat)
  /-- DIE_TO_DIE_UP (R385). -/
  | dieToDieUp (path t : Nat)
  /-- NOC_DOMAIN_LOST (R33). -/
  | nocDomainLost (t : Nat)
  /-- SEC_KAT_DONE (R491). -/
  | secKatDone (kat : List Bool) (t : Nat)
  deriving DecidableEq, Repr

end Sys2Proof
end

