-- ==== Sys2Proof/Decode.lean ====
section
/-! DEFINITION. The table of operations and events gives its rows no bits, so no word spells a command. -/

namespace Sys2Proof

/-- The command that a word spells by the table's bits: the table has no row with bits, so there is none. -/
def decodeTableWord (_nbits _w : Nat) : Option Instr := none

end Sys2Proof
end

