-- ==== Sys2Proof/Config.lean ====
section
/-! DEFINITION. What an implementation fixes and what the manual leaves open: opaque constants, of which nothing can be
proved beyond their type. Each is named in the assumption log. -/

namespace Sys2Proof.Config

/-- A value the manual leaves open, drawn by a counter of the state (log entry 6). -/
opaque freeValue : Nat → BitVec 64

/-- The bits of a DEFLATE stream that the device's encoder chooses for some data; `true` asks for dynamic tables
(R155 leaves the encoder free; log entry 8). -/
opaque deflateChoice : Bool → List Byte → List Bool

/-- The predictor byte the device chooses when it re-encodes an edited block (R116 names only the table mode; log entry 8). -/
opaque editPred : BitVec 8

/-- Barchan's prediction of a finish, in 2^-32 ns from now on: the planned work ahead in clocks, the tile itself last, and the
slice clock in MHz (R235 does not say how it is made; log entry 20). -/
opaque predictFinish : List Nat → Nat → Nat

/-- Bytes that a path die's forwarding queue to ingest holds before it is full (R357 gives no size; log entry 28). -/
opaque fwdQueueBytes : Nat

/-- Bytes of control complex memory, which Barchan interleaves over the channels (R24, R246 give no size; log entry 146). -/
opaque cpxBytes : Nat

/-- The errors that a pattern checker of a lane has counted between two instants (R434; log entry 163). -/
opaque prbsErrors : Nat → Nat → Nat → BitVec 32

/-- The main-die sensor nearest to a lane, modulo 48 (R437, R450 place neither; log entry 35). -/
opaque laneSensor : Nat → Nat

/-- The bit rate in kb/s to which a PCIe lane has trained (R429, R432; log entry 163). -/
opaque pcieRate : Nat → Nat

/-- The revisions of the main die, path die A and path die B, one byte each from bit 0 (R68: per device; log entry 41). -/
opaque devRev : BitVec 24

/-- The serial number of the device (R68: per device; log entry 41). -/
opaque serial : BitVec 64

end Sys2Proof.Config
end

