-- ==== Sys2Proof/Machine/Pq.lean ====
section
/-! DEFINITION. The BT.2100 PQ EOTF evaluated in fixed point with 192 fraction bits (R180): natural logarithm and
exponential by series, far below the half unit that rounding to the table's units decides on. -/

namespace Sys2Proof.Machine.Pq

/-- One, in 192 fraction bits. -/
def one : Nat := 2 ^ 192

/-- 2 * (t + t^3/3 + t^5/5 + ...) for a fixed-point t: `pw` is the running odd power, `k` its exponent. -/
def atanhSeries (t2 : Nat) : Nat → Nat → Nat → Nat
  | 0, _, _ => 0
  | n + 1, pw, k => pw / k + atanhSeries t2 n (pw * t2 / one) (k + 2)

/-- ln m for 1 <= m < 2 in fixed point. -/
def lnMant (m : Nat) : Nat :=
  let t := (m - one) * one / (m + one)
  2 * atanhSeries (t * t / one) 70 t 1

/-- ln 2. -/
def ln2 : Nat := 2 * atanhSeries ((one / 3) * (one / 3) / one) 70 (one / 3) 1

/-- ln of a positive fixed-point number. -/
def ln (a : Nat) : Int :=
  if a = 0 then 0
  else
    let e : Int := (Nat.log2 a : Int) - 192
    let m := if 0 ≤ e then a / 2 ^ e.toNat else a * 2 ^ (-e).toNat
    (lnMant m : Int) + e * ln2

/-- Taylor terms of exp r: `term` is r^k / k!. -/
def expSeries (r : Nat) : Nat → Nat → Nat → Nat
  | 0, _, _ => 0
  | n + 1, term, k => term + expSeries r n (term * r / one / (k + 1)) (k + 1)

/-- exp of a fixed-point number that is not positive. -/
def expNeg (x : Int) : Nat :=
  let n := ((-x) / ln2 + 1).toNat
  let r := (x + n * ln2).toNat
  expSeries r 60 one 0 / 2 ^ n

/-- The EOTF relative to 10,000 cd/m² for code `k` of 1,023, in fixed point: constants m1 = 2610/16384, m2 = 2523/32,
c1 = 107/128, c2 = 2413/128, c3 = 2392/128. -/
def eotf (k : Nat) : Nat :=
  if k = 0 then 0 else if 1023 ≤ k then one
  else
    let w := expNeg ((ln (k * one) - ln (1023 * one)) * 32 / 2523)
    let n := w - 107 * one / 128
    let d := 2413 * one / 128 - 2392 * w / 128
    if n = 0 then 0 else expNeg ((ln n - ln d) * 16384 / 2610)

/-- rnd_0 of E_PQ(k / 1023) x scale / peak (R180, R262). -/
def code (k scale peak : Nat) : Nat := if peak = 0 then 0 else (2 * (eotf k * 10000 * scale) + peak * one) / (2 * peak * one)

end Sys2Proof.Machine.Pq
end

