-- ==== Sys2Proof/Machine/Mbc.lean ====
section
/-! DEFINITION. The Mirinaben block container (R154-R157): header, prediction, raw DEFLATE, CRC-32C, and the checks of a
decoder in their order. Pure functions on byte lists. -/

namespace Sys2Proof.Machine

/-- Little-endian value of bytes. -/
def leNat : List Byte → Nat
  | [] => 0
  | b :: bs => b.toNat + 256 * leNat bs

/-- `n` bytes, least significant first. -/
def leBytes : Nat → Nat → List Byte
  | 0, _ => []
  | n + 1, v => BitVec.ofNat 8 v :: leBytes n (v / 256)

/-- Big-endian value of bytes. -/
def beNat (bs : List Byte) : Nat := bs.foldl (fun a b => a * 256 + b.toNat) 0

/-- `n` bytes, most significant first. -/
def beBytes (n v : Nat) : List Byte := (leBytes n v).reverse

/-- Bytes `off` to `off + n - 1`, short where the list ends. -/
def slice (bs : List Byte) (off n : Nat) : List Byte := (bs.drop off).take n

/-- Bits [hi:lo] of a number. -/
def bitsOf (v hi lo : Nat) : Nat := v / 2 ^ lo % 2 ^ (hi - lo + 1)

/-- One bit of a number. -/
def bitOf (v i : Nat) : Bool := v / 2 ^ i % 2 == 1

/-- One bit step of the reflected CRC-32C register (R156). -/
def crcStep (c : Nat) : Nat := if c % 2 = 1 then Nat.xor (c / 2) 0x82F63B78 else c / 2

/-- `n` bit steps. -/
def crcSteps : Nat → Nat → Nat
  | 0, c => c
  | n + 1, c => crcSteps n (crcStep c)

/-- CRC-32C of a byte list (R156). -/
def crc32c (bs : List Byte) : Nat :=
  Nat.xor (bs.foldl (fun c b => crcSteps 8 (Nat.xor c b.toNat)) 0xFFFFFFFF) 0xFFFFFFFF

/-- The bits of bytes, least significant bit of each byte first (RFC 1951). -/
def bitsOfBytes (bs : List Byte) : List Bool := bs.flatMap (fun b => (List.range 8).map (fun i => b.getLsbD i))

/-- Bits packed into bytes, padded with zeros. -/
def packBits : Nat → List Bool → List Byte
  | 0, _ => []
  | n + 1, bits =>
    BitVec.ofNat 8 ((bits.take 8).zipIdx.foldl (fun a p => a + (if p.1 then 2 ^ p.2 else 0)) 0) :: packBits n (bits.drop 8)

/-- A number read from the first `n` bits, least significant first; `none` where the bits end. -/
def takeBits : Nat → List Bool → Option (Nat × List Bool)
  | 0, bs => some (0, bs)
  | _ + 1, [] => none
  | n + 1, b :: bs => match takeBits n bs with
    | some (v, r) => some ((if b then 1 else 0) + 2 * v, r)
    | none => none

/-- How decoding a DEFLATE stream goes on or ends. -/
inductive Inflated where
  | more (out : List Byte) (rest : List Bool)   -- more blocks follow
  | done (out : List Byte) (rest : List Bool)   -- the last block has ended
  | short (out : List Byte)                     -- the bits ended
  | full (out : List Byte) (rest : List Bool)   -- the output space is used up
  | bad (code : Nat) (out : List Byte)          -- a violation
  deriving DecidableEq, Repr

/-- The number of codes of each length 1 to 15. -/
def lenCounts (lens : List Nat) : List Nat := (List.range 15).map (fun l => lens.countP (fun x => x == l + 1))

/-- The symbols ordered by code length, then by value. -/
def symbolsByLen (lens : List Nat) : List Nat :=
  (List.range 15).flatMap (fun l => (lens.zipIdx.filter (fun p => p.1 == l + 1)).map (fun p => p.2))

/-- Whether a set of code lengths is over-subscribed. -/
def overSubscribed (lens : List Nat) : Bool :=
  decide (2 ^ 15 < ((lenCounts lens).zipIdx.foldl (fun a p => a + p.1 * 2 ^ (14 - p.2)) 0))

/-- Outcome of reading one Huffman code. -/
inductive HuffRead where
  | sym (s : Nat) (rest : List Bool)
  | short
  | bad
  deriving DecidableEq, Repr

/-- Read one canonical Huffman code: `code`, `first` and `index` as the code grows bit by bit. -/
def huffRead (symbols : List Nat) : List Nat → Nat → Nat → Nat → List Bool → HuffRead
  | [], _, _, _, _ => .bad
  | _ :: _, _, _, _, [] => .short
  | cnt :: cs, code, first, index, b :: bs =>
    let code := code + (if b then 1 else 0)
    if code < first + cnt then
      (if first ≤ code then .sym (symbols.getD (index + (code - first)) 0) bs else .bad)
    else huffRead symbols cs (2 * code) (2 * (first + cnt)) (index + cnt) bs

/-- A Huffman table: the counts of each length and the ordered symbols. -/
abbrev HuffTab := List Nat × List Nat

def huffTab (lens : List Nat) : HuffTab := (lenCounts lens, symbolsByLen lens)

def HuffTab.read (t : HuffTab) (bits : List Bool) : HuffRead := huffRead t.2 t.1 0 0 0 bits

/-- Base and extra bits of length codes 257 to 285 (RFC 1951). -/
def lengthBase : List (Nat × Nat) :=
  [(3, 0), (4, 0), (5, 0), (6, 0), (7, 0), (8, 0), (9, 0), (10, 0), (11, 1), (13, 1), (15, 1), (17, 1), (19, 2), (23, 2),
   (27, 2), (31, 2), (35, 3), (43, 3), (51, 3), (59, 3), (67, 4), (83, 4), (99, 4), (115, 4), (131, 5), (163, 5), (195, 5),
   (227, 5), (258, 0)]

/-- Base and extra bits of distance codes 0 to 29 (RFC 1951). -/
def distBase : List (Nat × Nat) :=
  (1, 0) :: (2, 0) :: (List.range 28).map (fun k =>
    let e := k / 2
    ((2 + k % 2) * 2 ^ e + 1, e))

/-- Copy `n` bytes from `d` bytes back; `out` is newest first. -/
def copyBack : Nat → Nat → List Byte → List Byte
  | 0, _, out => out
  | n + 1, d, out => copyBack n d (out.getD (d - 1) 0 :: out)

/-- Whether a back-reference of `n` bytes from position `p`, `d` bytes back, stays within the row above the current one, where `row` is
the length of a row; 0 for no such bound (R155, R216). -/
def reachOk (row p d n : Nat) : Bool := row == 0 || (List.range n).all (fun i => decide ((p + i) / row * row ≤ p + i - d + row))

/-- One literal or match at a time, until the end-of-block code. -/
def inflateCodes (row : Nat) (lit dist : HuffTab) (limit : Nat) : Nat → List Byte → List Bool → Inflated
  | 0, out, _ => .bad 0x405 out
  | fuel + 1, out, bits =>
    match lit.read bits with
    | .short => .short out
    | .bad => .bad 0x405 out
    | .sym s r =>
      if s < 256 then
        (if limit ≤ out.length then .full out r else inflateCodes row lit dist limit fuel (BitVec.ofNat 8 s :: out) r)
      else if s = 256 then .more out r
      else match lengthBase[s - 257]? with
        | none => .bad 0x405 out
        | some (lb, le) => match takeBits le r with
          | none => .short out
          | some (lx, r) => match dist.read r with
            | .short => .short out
            | .bad => .bad 0x405 out
            | .sym ds r => match distBase[ds]? with
              | none => .bad 0x405 out
              | some (db, de) => match takeBits de r with
                | none => .short out
                | some (dx, r) =>
                  if out.length < db + dx ∨ !reachOk row out.length (db + dx) (lb + lx) then .bad 0x405 out
                  else if limit < out.length + (lb + lx) then .full (copyBack (limit - out.length) (db + dx) out) r
                  else inflateCodes row lit dist limit fuel (copyBack (lb + lx) (db + dx) out) r

/-- The fixed literal and distance code lengths (RFC 1951). -/
def fixedLit : List Nat := List.replicate 144 8 ++ List.replicate 112 9 ++ List.replicate 24 7 ++ List.replicate 8 8
def fixedDist : List Nat := List.replicate 30 5

/-- The order of the code length code lengths (RFC 1951). -/
def clOrder : List Nat := [16, 17, 18, 0, 8, 7, 9, 6, 10, 5, 11, 4, 12, 3, 13, 2, 14, 1, 15]

/-- Read `n` 3-bit code length code lengths. -/
def readCl : Nat → List Bool → Option (List Nat × List Bool)
  | 0, bits => some ([], bits)
  | n + 1, bits => match takeBits 3 bits with
    | none => none
    | some (v, r) => match readCl n r with
      | none => none
      | some (vs, r) => some (v :: vs, r)

/-- Outcome of reading the code lengths of a dynamic block. -/
inductive LensRead where
  | lens (l : List Nat) (rest : List Bool)
  | short
  | bad
  deriving DecidableEq, Repr

/-- Read code lengths until `n` are known; `acc` is newest first. -/
def readLens (t : HuffTab) (n : Nat) : Nat → List Nat → List Bool → LensRead
  | 0, _, _ => .bad
  | fuel + 1, acc, bits =>
    if n < acc.length then .bad else if acc.length = n then .lens acc.reverse bits
    else match t.read bits with
      | .short => .short
      | .bad => .bad
      | .sym s r =>
        if s < 16 then readLens t n fuel (s :: acc) r
        else if s = 16 then
          match acc, takeBits 2 r with
          | [], _ => .bad
          | _, none => .short
          | a :: _, some (x, r) => readLens t n fuel (List.replicate (3 + x) a ++ acc) r
        else if s = 17 then
          match takeBits 3 r with
          | none => .short
          | some (x, r) => readLens t n fuel (List.replicate (3 + x) 0 ++ acc) r
        else match takeBits 7 r with
          | none => .short
          | some (x, r) => readLens t n fuel (List.replicate (11 + x) 0 ++ acc) r

/-- A stored block's bytes, from byte-aligned bits. -/
def inflateStored (limit : Nat) : Nat → List Byte → List Bool → Inflated
  | 0, out, bits => .more out bits
  | n + 1, out, bits =>
    match takeBits 8 bits with
    | none => .short out
    | some (v, r) => if limit ≤ out.length then .full out r else inflateStored limit n (BitVec.ofNat 8 v :: out) r

/-- Blocks until the last one. `total` is the number of bits of the stream, which gives the byte alignment of a stored
block; `dyn` allows block type 10 (R155, R157 step 5); `row` bounds back-references (R216). -/
def inflateBlocks (row : Nat) (dyn : Bool) (limit total : Nat) : Nat → List Byte → List Bool → Inflated
  | 0, out, _ => .bad 0x405 out
  | fuel + 1, out, bits =>
    match takeBits 1 bits with
    | none => .short out
    | some (fin, r) => match takeBits 2 r with
      | none => .short out
      | some (ty, r) =>
        let res : Inflated :=
          if ty = 0 then
            let r := r.drop ((8 - (total - r.length) % 8) % 8)
            match takeBits 32 r with
            | none => .short out
            | some (v, r) =>
              if v % 65536 + v / 65536 ≠ 65535 then .bad 0x405 out else inflateStored limit (v % 65536) out r
          else if ty = 1 then inflateCodes row (huffTab fixedLit) (huffTab fixedDist) limit (r.length + 1) out r
          else if ty = 2 then
            if dyn then
              match takeBits 14 r with
              | none => .short out
              | some (h, r) =>
                let hlit := bitsOf h 4 0 + 257
                let hdist := bitsOf h 9 5 + 1
                match readCl (bitsOf h 13 10 + 4) r with
                | none => .short out
                | some (cl, r) =>
                  let cls := (List.range 19).map (fun s => cl.getD (clOrder.idxOf s) 0)
                  if overSubscribed cls then .bad 0x405 out
                  else match readLens (huffTab cls) (hlit + hdist) (hlit + hdist + 1) [] r with
                    | .short => .short out
                    | .bad => .bad 0x405 out
                    | .lens l r =>
                      if overSubscribed (l.take hlit) || overSubscribed (l.drop hlit) || decide (286 < hlit) || decide (30 < hdist)
                      then .bad 0x405 out
                      else inflateCodes row (huffTab (l.take hlit)) (huffTab (l.drop hlit)) limit (r.length + 1) out r
            else .bad 0x406 out
          else .bad 0x405 out
        match res with
        | .more o r => if fin = 1 then .done o r else inflateBlocks row dyn limit total fuel o r
        | x => x

/-- Decode a raw DEFLATE stream; `out` of the result is newest first. -/
def inflate (row : Nat) (dyn : Bool) (limit : Nat) (payload : List Byte) : Inflated :=
  let bits := bitsOfBytes payload
  inflateBlocks row dyn limit bits.length (bits.length + 1) [] bits

/-- Pixel size in bytes of a FORMAT (R154). -/
def pixelSize (fmt : Nat) : Nat := if fmt = 1 then 5 else if fmt = 2 then 4 else if fmt = 3 then 3 else 1

/-- The channels of one pixel (R154). -/
def channelsOf (fmt : Nat) (px : List Byte) : List Nat :=
  let v := leNat px
  if fmt = 1 then [bitsOf v 9 0, bitsOf v 19 10, bitsOf v 29 20, bitsOf v 39 30]
  else if fmt = 2 then [bitsOf v 9 0, bitsOf v 19 10, bitsOf v 29 20]
  else [bitsOf v 7 0, bitsOf v 15 8, bitsOf v 23 16]

/-- One pixel from its channels. -/
def pixelOf (fmt : Nat) (ch : List Nat) : List Byte :=
  let w := if fmt = 3 then 256 else 1024
  leBytes (pixelSize fmt) (ch.reverse.foldl (fun a c => a * w + c) 0)

/-- The prediction of one channel (R155). -/
def predict (pred k left up : Nat) : Nat :=
  let p := pred / 4 ^ k % 4
  if p = 0 then 0 else if p = 1 then left else if p = 2 then up else (left + up) / 2

/-- Predict along the pixels of a unit. `rev` reverses the prediction. `up` is the row above (raw values, from this
column on), `cur` the raw row so far, newest first, `done` the outputs, newest first. -/
def predictPixels (fmt pred width : Nat) (rev : Bool) : List (List Nat) → List (List Nat) → List (List Nat) → List (List Nat) → List (List Nat)
  | [], _, _, acc => acc.reverse
  | px :: rest, up, cur, acc =>
    let m := if fmt = 3 then 256 else 1024
    let left := cur.headD []
    let u := up.headD []
    let out := px.zipIdx.map (fun c =>
      let p := predict pred c.2 (left.getD c.2 0) (u.getD c.2 0)
      if rev then (c.1 + p) % m else (c.1 + m - p) % m)
    let raw := if rev then out else px
    let cur := raw :: cur
    if cur.length = width then predictPixels fmt pred width rev rest cur.reverse [] (out :: acc)
    else predictPixels fmt pred width rev rest up.tail cur (out :: acc)

/-- The bytes cut into pixels; a short tail is dropped. -/
def pixelsOf (fmt : Nat) : Nat → List Byte → List (List Nat)
  | 0, _ => []
  | n + 1, bs => channelsOf fmt (bs.take (pixelSize fmt)) :: pixelsOf fmt n (bs.drop (pixelSize fmt))

/-- Apply (`rev = false`) or reverse (`rev = true`) the prediction of R155 on whole pixels. -/
def applyPrediction (fmt pred width : Nat) (rev : Bool) (bs : List Byte) : List Byte :=
  if fmt = 0 ∨ pred = 0 then bs
  else
    let px := pixelsOf fmt (bs.length / pixelSize fmt) bs
    (predictPixels fmt pred width rev px [] [] []).flatMap (pixelOf fmt)

/-- The fields of a unit header (R154). -/
structure MbcHeader where
  mode : Nat
  trunc : Bool
  pred : Nat
  format : Nat
  rowPixels : Nat
  rawLen : Nat
  payloadLen : Nat
  deriving DecidableEq, Repr

/-- The header's bytes (R154). -/
def MbcHeader.bytes (h : MbcHeader) : List Byte :=
  [0x42, 0x4D, 0x01, BitVec.ofNat 8 (h.mode + (if h.trunc then 4 else 0)), BitVec.ofNat 8 h.pred, BitVec.ofNat 8 h.format]
    ++ leBytes 2 h.rowPixels ++ leBytes 4 h.rawLen ++ leBytes 4 h.payloadLen

/-- The rules of R154 on the combination of format, predictor, row length and raw length. -/
def headerRules (fmt pred rowPixels rawLen : Nat) : Bool :=
  decide (fmt ≤ 3) && (fmt != 0 || pred == 0) && (!(fmt == 2 || fmt == 3) || decide (pred < 64)) &&
    (fmt == 0 || (rowPixels != 0 && rawLen % (pixelSize fmt * rowPixels) == 0))

/-- The fields read from 16 header bytes, whatever they say. -/
def MbcHeader.read (bs : List Byte) : MbcHeader :=
  { mode := leNat (slice bs 3 1) % 4, trunc := bitOf (leNat (slice bs 3 1)) 2, pred := leNat (slice bs 4 1),
    format := leNat (slice bs 5 1), rowPixels := leNat (slice bs 6 2), rawLen := leNat (slice bs 8 4),
    payloadLen := leNat (slice bs 12 4) }

/-- Steps 1 to 4 of R157 on 16 header bytes; `known` is the unit length where the decoder knows it, `maxLen` the
longest unit it takes. Zero where every check passes. -/
def headerCheck (known : Option Nat) (maxLen : Option Nat) (bs : List Byte) : Nat :=
  let h := MbcHeader.read bs
  if leNat (slice bs 0 2) ≠ 0x4D42 then 0x401
  else if leNat (slice bs 2 1) ≠ 1 then 0x402
  else if 8 ≤ leNat (slice bs 3 1) ∨ h.mode = 3 ∨ !headerRules h.format h.pred h.rowPixels h.rawLen
      ∨ (h.mode = 0 ∧ h.payloadLen ≠ h.rawLen) ∨ (h.mode ≠ 0 ∧ h.payloadLen = 0)
      ∨ known.getD (h.payloadLen + 20) ≠ h.payloadLen + 20 ∨ maxLen.getD (h.payloadLen + 20) < h.payloadLen + 20 then 0x403
  else if h.rawLen = 0 ∨ 65536 < h.rawLen then 0x404
  else 0

/-- How a decode stands: `code` 0 with `stop` 0 is a good unit; `stop` 1 is out of space, 2 out of source (R161). -/
structure DecodeRes where
  code : Nat
  stop : Nat
  out : List Byte
  consumed : Nat
  deriving DecidableEq, Repr

/-- A stream that gives more than RAW_LEN bytes: a violation of step 5 further on in it comes before step 6 (R157). `raw` is the
output up to RAW_LEN. -/
def overrun (src payload : List Byte) (h : MbcHeader) (raw : List Byte) : DecodeRes :=
  let fail := fun (c : Nat) => { code := c, stop := 0, out := [], consumed := min src.length (h.payloadLen + 16) : DecodeRes }
  match inflate 0 (h.mode == 2) (2 ^ 64) payload with
  | .bad c _ => fail c
  | .short _ => if payload.length < h.payloadLen then { code := 0, stop := 2, out := raw, consumed := src.length } else fail 0x405
  | _ => fail 0x407

/-- Decode one unit from source bytes with `space` bytes of room (R157, R161). -/
def mbcDecode (known : Option Nat) (maxLen : Option Nat) (space : Nat) (src : List Byte) : DecodeRes :=
  if known.getD 20 < 20 then { code := 0x403, stop := 0, out := [], consumed := 0 }
  else if src.length < 16 then { code := 0, stop := 2, out := [], consumed := src.length }
  else
    let c := headerCheck known maxLen src
    let h := MbcHeader.read src
    if c ≠ 0 then { code := c, stop := 0, out := [], consumed := 16 }
    else
      let payload := slice src 16 h.payloadLen
      let px := pixelSize h.format
      let limit := min ((space + px - 1) / px * px) h.rawLen
      let undo := fun (o : List Byte) => applyPrediction h.format h.pred h.rowPixels true o
      let outOfSpace := fun (o : List Byte) (n : Nat) => { code := 0, stop := 1, out := (undo o).take space, consumed := n : DecodeRes }
      let finish := fun (o : List Byte) =>
        if space < o.length then outOfSpace o (16 + h.payloadLen)
        else if src.length < h.payloadLen + 20 then { code := 0, stop := 2, out := undo o, consumed := src.length }
        else
          let raw := undo o
          if leNat (slice src (16 + h.payloadLen) 4) = crc32c raw then
            { code := 0, stop := 0, out := raw, consumed := h.payloadLen + 20 : DecodeRes }
          else { code := 0x408, stop := 0, out := [], consumed := h.payloadLen + 20 }
      if h.mode = 0 then
        if space < payload.length then outOfSpace (payload.take limit) (16 + space)
        else if payload.length < h.payloadLen then { code := 0, stop := 2, out := undo payload, consumed := src.length }
        else finish payload
      else match inflate 0 (h.mode == 2) limit payload with
        | .bad code _ => { code := code, stop := 0, out := [], consumed := min src.length (h.payloadLen + 16) }
        | .short o =>
          if space < o.length then outOfSpace o.reverse src.length
          else if payload.length < h.payloadLen then { code := 0, stop := 2, out := undo o.reverse, consumed := src.length }
          else { code := 0x405, stop := 0, out := [], consumed := h.payloadLen + 16 }
        | .full o r =>
          if h.rawLen ≤ space then overrun src payload h (undo o.reverse)
          else outOfSpace o.reverse (16 + (8 * payload.length - r.length + 7) / 8)
        | .more o r | .done o r =>
          if o.length ≠ h.rawLen ∨ 8 ≤ r.length + 8 * (h.payloadLen - payload.length) then
            { code := 0x407, stop := 0, out := [], consumed := h.payloadLen + 16 }
          else finish o.reverse

/-- A whole unit decoded by an instance that knows its length; `none` on any failure (R157). -/
def mbcUnit (known : Option Nat) (maxLen : Option Nat) (src : List Byte) : DecodeRes :=
  let r := mbcDecode known maxLen 65536 src
  if r.stop = 0 then r else { code := 0x407, stop := 0, out := [], consumed := r.consumed }

/-- A unit as a row-by-row reader sees it: the code of the first failure and all output decoded before it, the output of
a unit whose check value fails included (R157, R218, R276). -/
def mbcPartial (known maxLen : Option Nat) (src : List Byte) : Nat × List Byte :=
  let r := mbcDecode known maxLen 65536 src
  if r.code = 0 then (if r.stop = 0 then 0 else 0x407, r.out)
  else if r.code < 0x405 then (r.code, [])
  else
    let h := MbcHeader.read src
    let payload := slice src 16 h.payloadLen
    let raw := if h.mode = 0 then payload else match inflate 0 (h.mode == 2) h.rawLen payload with
      | .more o _ | .done o _ | .short o | .full o _ | .bad _ o => o.reverse
    (r.code, applyPrediction h.format h.pred h.rowPixels true raw)

/-- Stored DEFLATE blocks of at most 65,535 bytes: the fall-back where the encoder's own stream would not decode back. -/
def storedBlocks : Nat → List Byte → List Byte
  | 0, bs => [0x01] ++ leBytes 2 bs.length ++ leBytes 2 (65535 - bs.length) ++ bs
  | n + 1, bs =>
    if bs.length ≤ 65535 then [0x01] ++ leBytes 2 bs.length ++ leBytes 2 (65535 - bs.length) ++ bs
    else [0x00, 0xFF, 0xFF, 0x00, 0x00] ++ bs.take 65535 ++ storedBlocks n (bs.drop 65535)

/-- The DEFLATE stream the encoder gives for some data: the device's own choice wherever it decodes back to the data
with the block types that the mode allows and within the bound of `row` (R155, R216), else stored blocks. -/
def deflate (row : Nat) (dyn : Bool) (data : List Byte) : List Byte :=
  let bits := Config.deflateChoice dyn data
  let bytes := packBits ((bits.length + 7) / 8) bits
  match inflate row dyn 65536 bytes with
  | .done o r => if o.reverse = data ∧ r.length < 8 then bytes else storedBlocks 2 data
  | _ => storedBlocks 2 data

/-- Encode raw data into a unit (R154, R155); back-references stay within `row` bytes of the row above, 0 for no bound (R216). -/
def mbcEncodeIn (row mode pred format rowPixels : Nat) (trunc : Bool) (raw : List Byte) : List Byte :=
  let p := applyPrediction format pred rowPixels false raw
  let payload := if mode = 0 then p else deflate row (mode == 2) p
  let h : MbcHeader :=
    { mode := mode, trunc := trunc, pred := pred, format := format, rowPixels := rowPixels, rawLen := raw.length,
      payloadLen := payload.length }
  h.bytes ++ payload ++ leBytes 4 (crc32c raw)

/-- Encode raw data into a unit without a bound beyond that of R155. -/
def mbcEncode (mode pred format rowPixels : Nat) (trunc : Bool) (raw : List Byte) : List Byte :=
  mbcEncodeIn 0 mode pred format rowPixels trunc raw

end Sys2Proof.Machine
end

