-- ==== Sys2Proof/Machine/Addr.lean ====
section
/-! DEFINITION. The unprivileged byte address of every register (R37 and the offset tables): page parameters are the
engine, slice, layer, channel, drive, lane or path number (`x` is 0 for path A, 1 for path B), `i` an array index. -/

namespace Sys2Proof.Machine.Reg

def devPart : Nat := 0x40
def devRev : Nat := 0x44
def devSerialLo : Nat := 0x48
def devSerialHi : Nat := 0x4C
def devGcommit : Nat := 0x50
def devGcommitStat : Nat := 0x54
def devGroupMembers : Nat := 0x58
def devGcommitCount : Nat := 0x5C
def devErrHead : Nat := 0x1040
def devErrLost : Nat := 0x1044
def devErrTotal : Nat := 0x1048
def devErrW0 (i : Nat) : Nat := 0x1100 + 0x10 * i
def devErrW1 (i : Nat) : Nat := 0x1104 + 0x10 * i
def devErrW2 (i : Nat) : Nat := 0x1108 + 0x10 * i
def devErrW3 (i : Nat) : Nat := 0x110C + 0x10 * i
def devIntcPendLo : Nat := 0x2040
def devIntcPendHi : Nat := 0x2044
def devIntcMaskLo : Nat := 0x2048
def devIntcMaskHi : Nat := 0x204C
def devIntcEoi : Nat := 0x2050
def devIntcTarget (i : Nat) : Nat := 0x2100 + 0x4 * i
def devIntcRoute (i : Nat) : Nat := 0x2800 + 0x4 * i
def rasVactive : Nat := 0x10040
def rasVblank : Nat := 0x10044
def rasHactive : Nat := 0x10048
def rasHfrontSync : Nat := 0x1004C
def rasHback : Nat := 0x10050
def rasRegions : Nat := 0x10054
def rasPeriodNs : Nat := 0x10058
def rasPeriodFrac : Nat := 0x1005C
def rasHorizon : Nat := 0x10060
def rasAlignSecLo : Nat := 0x10064
def rasAlignSecHi : Nat := 0x10068
def rasAlignNs : Nat := 0x1006C
def rasTrim : Nat := 0x10070
def rasVtotal : Nat := 0x10074
def rasHtotal : Nat := 0x10078
def rasLatch : Nat := 0x1007C
def rasLockCtrl : Nat := 0x10080
def rasLockStat : Nat := 0x10084
def rasPhaseErr : Nat := 0x10088
def rasFrameLo : Nat := 0x1008C
def rasFrameHi : Nat := 0x10090
def rasPos : Nat := 0x10094
def rasTransFade : Nat := 0x10098
def rasLmatch (i : Nat) : Nat := 0x1009C + 0x4 * i
def rasUnderrunCount : Nat := 0x100AC
def rasRelabelCount : Nat := 0x100B0
def rasCrvCtrl : Nat := 0x11040
def rasCrvArmed : Nat := 0x11044
def rasCrvLast : Nat := 0x11048
def rasCrvFiredCount : Nat := 0x1104C
def rasCrvLateCount : Nat := 0x11050
def rasCrvMissedCount : Nat := 0x11054
def rasCrvWfailCount : Nat := 0x11058
def rasCrvPins : Nat := 0x1105C
def rasCrvCapSecLo : Nat := 0x11060
def rasCrvCapSecHi : Nat := 0x11064
def rasCrvCapNs : Nat := 0x11068
def rasCrvCapIdx : Nat := 0x1106C
def scnCtrl : Nat := 0x20040
def scnStoreSize : Nat := 0x20044
def scnStoreReserve : Nat := 0x20048
def scnPlaneMask : Nat := 0x2004C
def scnDepthScale : Nat := 0x20050
def scnDepthOffset : Nat := 0x20054
def scnLinearPeak : Nat := 0x20058
def scnStatus : Nat := 0x2005C
def scnVersionFront : Nat := 0x20060
def scnVersionBack : Nat := 0x20064
def scnVersionPending : Nat := 0x20068
def scnVersionStage : Nat := 0x2006C
def scnStoreUsed : Nat := 0x20070
def scnStoreFree : Nat := 0x20074
def scnQuery : Nat := 0x20080
def scnQueryE (i : Nat) : Nat := 0x20084 + 0x4 * i
def scnQueryStat : Nat := 0x20094
def scnStat (i : Nat) : Nat := 0x20100 + 4 * i
def scnPlane (i : Nat) : Nat := 0x20400 + 0x4 * i
def scnWin (i : Nat) : Nat := 0x20800 + 0x4 * i
def ingCtrl : Nat := 0x30040
def ingNackTiming : Nat := 0x30044
def ingNackRetries : Nat := 0x30048
def ingReasmSize : Nat := 0x3004C
def ingStatus : Nat := 0x30050
def ingInjAddrLo : Nat := 0x30060
def ingInjAddrHi : Nat := 0x30064
def ingInjCtrl : Nat := 0x30068
def ingStat (i : Nat) : Nat := 0x30100 + 4 * i
def ingSCtrl (i : Nat) : Nat := 0x30400 + 0x30 * i
def ingSPlanes (i : Nat) : Nat := 0x30404 + 0x30 * i
def ingSState (i : Nat) : Nat := 0x30408 + 0x30 * i
def ingSExpLo (i : Nat) : Nat := 0x3040C + 0x30 * i
def ingSExpHi (i : Nat) : Nat := 0x30410 + 0x30 * i
def ingSFrameLo (i : Nat) : Nat := 0x30414 + 0x30 * i
def ingSCommitLo (i : Nat) : Nat := 0x30418 + 0x30 * i
def ingSRx (i : Nat) : Nat := 0x3041C + 0x30 * i
def ingSErr (i : Nat) : Nat := 0x30420 + 0x30 * i
def ingSNacked (i : Nat) : Nat := 0x30424 + 0x30 * i
def mbcCtrl (n : Nat) : Nat := 0x40040 + 0x1000 * n
def mbcRingLo (n : Nat) : Nat := 0x40044 + 0x1000 * n
def mbcRingHi (n : Nat) : Nat := 0x40048 + 0x1000 * n
def mbcRingSize (n : Nat) : Nat := 0x4004C + 0x1000 * n
def mbcRingTail (n : Nat) : Nat := 0x40050 + 0x1000 * n
def mbcRingHead (n : Nat) : Nat := 0x40054 + 0x1000 * n
def mbcJobStat (n : Nat) : Nat := 0x40058 + 0x1000 * n
def mbcInConsumed (n : Nat) : Nat := 0x4005C + 0x1000 * n
def mbcOutProduced (n : Nat) : Nat := 0x40060 + 0x1000 * n
def mbcResumeAddrLo (n : Nat) : Nat := 0x40064 + 0x1000 * n
def mbcResumeAddrHi (n : Nat) : Nat := 0x40068 + 0x1000 * n
def mbcResumeLen (n : Nat) : Nat := 0x4006C + 0x1000 * n
def mbcResume (n : Nat) : Nat := 0x40070 + 0x1000 * n
def mbcStat (n i : Nat) : Nat := 0x40100 + 0x1000 * n + 4 * i
def synCtrl : Nat := 0x50040
def synOutPeak : Nat := 0x50044
def synVbf : Nat := 0x50048
def synVbfDepth : Nat := 0x5004C
def synBudget : Nat := 0x50050
def synBdCtrl : Nat := 0x50054
def synStatus : Nat := 0x50060
def synStat (i : Nat) : Nat := 0x50100 + 4 * i
def synLnsCtrl : Nat := 0x51040
def synLnsPitchX : Nat := 0x51044
def synLnsPitchY : Nat := 0x51048
def synLnsLpitch : Nat := 0x5104C
def synLnsSlant : Nat := 0x51050
def synLnsOffset : Nat := 0x51054
def synLnsViews : Nat := 0x51058
def synLnsTanh : Nat := 0x5105C
def synLnsTanhWide : Nat := 0x51060
def synLnsTanv : Nat := 0x51064
def synLnsLpitchV : Nat := 0x51068
def synLnsOffsetV : Nat := 0x5106C
def synLnsGrid : Nat := 0x52040
def synGridLoadLo : Nat := 0x52044
def synGridLoadHi : Nat := 0x52048
def synGridLoadCtrl : Nat := 0x5204C
def synGridStat : Nat := 0x52050
def synGridDim0 : Nat := 0x52054
def synGridDim1 : Nat := 0x52058
def slcStatus (s : Nat) : Nat := 0x60040 + 0x1000 * s
def slcClock (s : Nat) : Nat := 0x60044 + 0x1000 * s
def slcStat (s i : Nat) : Nat := 0x60100 + 0x1000 * s + 4 * i
def slcClState (s i : Nat) : Nat := 0x60400 + 0x1000 * s + 0x80 * i
def slcClFence (s i : Nat) : Nat := 0x60404 + 0x1000 * s + 0x80 * i
def slcClTile (s i : Nat) : Nat := 0x60408 + 0x1000 * s + 0x80 * i
def slcClBudget (s i : Nat) : Nat := 0x6040C + 0x1000 * s + 0x80 * i
def slcClSamples (s i : Nat) : Nat := 0x60410 + 0x1000 * s + 0x80 * i
def slcClStatTiles (s i : Nat) : Nat := 0x60414 + 0x1000 * s + 0x80 * i
def slcClStatSamples (s i : Nat) : Nat := 0x60418 + 0x1000 * s + 0x80 * i
def slcClStatBusy (s i : Nat) : Nat := 0x6041C + 0x1000 * s + 0x80 * i
def slcClStatWait (s i : Nat) : Nat := 0x60420 + 0x1000 * s + 0x80 * i
def slcClStatBdCells (s i : Nat) : Nat := 0x60424 + 0x1000 * s + 0x80 * i
def slcClStatFaults (s i : Nat) : Nat := 0x60428 + 0x1000 * s + 0x80 * i
def brcCtrl : Nat := 0x70040
def brcGuard : Nat := 0x70044
def brcCompFloor : Nat := 0x70048
def brcMatrix0 : Nat := 0x7004C
def brcMatrix1 : Nat := 0x70050
def brcMatrix2 : Nat := 0x70054
def brcMatrix3 : Nat := 0x70058
def brcMatrix4 : Nat := 0x7005C
def brcGainRg : Nat := 0x70060
def brcGainB : Nat := 0x70064
def brcWpTrim : Nat := 0x70068
def brcLutSel : Nat := 0x7006C
def brcLutLoadLo : Nat := 0x70070
def brcLutLoadHi : Nat := 0x70074
def brcLutLoadCtrl : Nat := 0x70078
def brcLutStat : Nat := 0x7007C
def brcLastFrame : Nat := 0x70080
def brcLastMirage : Nat := 0x70084
def brcStat (i : Nat) : Nat := 0x70100 + 4 * i
def brcOasCtrl : Nat := 0x71040
def brcOasStatus : Nat := 0x71044
def brcOasUsed : Nat := 0x71048
def brcOasInst : Nat := 0x7104C
def brcSnapFrameLo : Nat := 0x71050
def brcSnapFrameHi : Nat := 0x71054
def brcSnapAddrLo : Nat := 0x71058
def brcSnapAddrHi : Nat := 0x7105C
def brcSnapLen : Nat := 0x71060
def brcSnapCtrl : Nat := 0x71064
def brcSnapStat : Nat := 0x71068
def brcOasStat (i : Nat) : Nat := 0x71100 + 4 * i
def plcCtrl : Nat := 0x80040
def plcLoad : Nat := 0x80044
def plcSteal : Nat := 0x80048
def plcPinBounds0 : Nat := 0x8004C
def plcPinBounds1 : Nat := 0x80050
def plcCache : Nat := 0x80054
def plcEvac : Nat := 0x80058
def plcHintRange : Nat := 0x8005C
def plcHintCtrl : Nat := 0x80060
def plcCostmapLo : Nat := 0x80064
def plcCostmapHi : Nat := 0x80068
def plcCostmapCtrl : Nat := 0x8006C
def plcSegPinValid : Nat := 0x80070
def plcStatus : Nat := 0x80080
def plcStripe0 : Nat := 0x80084
def plcStripe1 : Nat := 0x80088
def plcPressure : Nat := 0x8008C
def plcEvacStat : Nat := 0x80090
def plcStat (i : Nat) : Nat := 0x80100 + 4 * i
def plcSegPin (i : Nat) : Nat := 0x80200 + 0x4 * i
def lyrCtrl : Nat := 0x90040
def lyrOrder : Nat := 0x90044
def lyrBgRg : Nat := 0x90048
def lyrBgB : Nat := 0x9004C
def lyrBw : Nat := 0x90050
def lyrLensMap : Nat := 0x90054
def lyrStatus : Nat := 0x90060
def lyrBwEst : Nat := 0x90064
def lyrFlatRegions : Nat := 0x90068
def lyrStat (i : Nat) : Nat := 0x90100 + 4 * i
def lyrCover (i : Nat) : Nat := 0x90400 + 0x4 * i
def lyrAutoFlat (i : Nat) : Nat := 0x90500 + 0x4 * i
def lyrLCtrl (n : Nat) : Nat := 0x90040 + 0x1000 * n
def lyrLBase0Lo (n : Nat) : Nat := 0x90044 + 0x1000 * n
def lyrLBase0Hi (n : Nat) : Nat := 0x90048 + 0x1000 * n
def lyrLBase1Lo (n : Nat) : Nat := 0x9004C + 0x1000 * n
def lyrLBase1Hi (n : Nat) : Nat := 0x90050 + 0x1000 * n
def lyrLBase2Lo (n : Nat) : Nat := 0x90054 + 0x1000 * n
def lyrLBase2Hi (n : Nat) : Nat := 0x90058 + 0x1000 * n
def lyrLStride0 (n : Nat) : Nat := 0x9005C + 0x1000 * n
def lyrLStride1 (n : Nat) : Nat := 0x90060 + 0x1000 * n
def lyrLSurfSize (n : Nat) : Nat := 0x90064 + 0x1000 * n
def lyrLSrcPos (n : Nat) : Nat := 0x90068 + 0x1000 * n
def lyrLSrcSize (n : Nat) : Nat := 0x9006C + 0x1000 * n
def lyrLDstPos (n : Nat) : Nat := 0x90070 + 0x1000 * n
def lyrLDstSize (n : Nat) : Nat := 0x90074 + 0x1000 * n
def lyrLScale (n : Nat) : Nat := 0x90078 + 0x1000 * n
def lyrLTile (n : Nat) : Nat := 0x9007C + 0x1000 * n
def lyrLPeak (n : Nat) : Nat := 0x90080 + 0x1000 * n
def lyrLConst (n : Nat) : Nat := 0x90084 + 0x1000 * n
def lyrLToken (n : Nat) : Nat := 0x90088 + 0x1000 * n
def lyrLDone (n : Nat) : Nat := 0x9008C + 0x1000 * n
def lyrLStatus (n : Nat) : Nat := 0x90090 + 0x1000 * n
def lyrLStat (n i : Nat) : Nat := 0x90100 + 0x1000 * n + 4 * i
def lyrLHcoef (n i : Nat) : Nat := 0x90800 + 0x1000 * n + 0x4 * i
def lyrLVcoef (n i : Nat) : Nat := 0x90C00 + 0x1000 * n + 0x10 * i
def lyrLVcoef1 (n i : Nat) : Nat := 0x90C04 + 0x1000 * n + 0x10 * i
def lyrLVcoef2 (n i : Nat) : Nat := 0x90C08 + 0x1000 * n + 0x10 * i
def lyrLVcoef3 (n i : Nat) : Nat := 0x90C0C + 0x1000 * n + 0x10 * i
def bltCtrl : Nat := 0xA0040
def bltRingLo : Nat := 0xA0044
def bltRingHi : Nat := 0xA0048
def bltRingSize : Nat := 0xA004C
def bltRingTail : Nat := 0xA0050
def bltRingHead : Nat := 0xA0054
def bltStatus : Nat := 0xA0058
def bltRelease : Nat := 0xA005C
def bltPace : Nat := 0xA0060
def bltPaceEff : Nat := 0xA0064
def bltWinBaseLo : Nat := 0xA0068
def bltWinBaseHi : Nat := 0xA006C
def bltWinLimitLo : Nat := 0xA0070
def bltWinLimitHi : Nat := 0xA0074
def bltStat (i : Nat) : Nat := 0xA0100 + 4 * i
def pnlLinkCtrl : Nat := 0xB0040
def pnlLinkCfg : Nat := 0xB0044
def pnlLinkStatus : Nat := 0xB0048
def pnlStat (i : Nat) : Nat := 0xB0100 + 4 * i
def pnlLcdCtrl : Nat := 0xB1040
def pnlGateCfg : Nat := 0xB1044
def pnlGateCols : Nat := 0xB1048
def pnlOdLoadLo : Nat := 0xB104C
def pnlOdLoadHi : Nat := 0xB1050
def pnlOdLoadCtrl : Nat := 0xB1054
def pnlOdStat : Nat := 0xB1058
def pnlRwAddr : Nat := 0xB105C
def pnlRwData : Nat := 0xB1060
def pnlRwCtrl : Nat := 0xB1064
def pnlLcdStat (i : Nat) : Nat := 0xB1100 + 4 * i
def pnlLnsCtrl : Nat := 0xB2040
def pnlLnsGrid : Nat := 0xB2044
def pnlLnsStat : Nat := 0xB2048
def pnlLnsSel (i : Nat) : Nat := 0xB2100 + 0x4 * i
def pnlLnsSteady (i : Nat) : Nat := 0xB2180 + 0x4 * i
def pnlLnsTarget (i : Nat) : Nat := 0xB2400 + 0x4 * i
def pnlLnsState (i : Nat) : Nat := 0xB2600 + 0x4 * i
def pnlLnsRun (i : Nat) : Nat := 0xB2800 + 0x4 * i
def pnlLnsStatCnt (i : Nat) : Nat := 0xB2A00 + 4 * i
def pnlWfSel : Nat := 0xB3040
def pnlWfHdr : Nat := 0xB3044
def pnlWfStep (i : Nat) : Nat := 0xB3100 + 0x4 * i
def pnlPwrCtrl : Nat := 0xB4040
def pnlPwrState : Nat := 0xB4044
def pnlDischCfg : Nat := 0xB4048
def pnlRail (i : Nat) : Nat := 0xB4050 + 0x4 * i
def pnlCrackCfg (i : Nat) : Nat := 0xB4070 + 0x4 * i
def pnlCrackOhm (i : Nat) : Nat := 0xB4080 + 0x4 * i
def pnlCrackStat : Nat := 0xB4090
def bklCtrl : Nat := 0xC0040
def bklGrid : Nat := 0xC0044
def bklScan : Nat := 0xC0048
def bklDim : Nat := 0xC004C
def bklLevel : Nat := 0xC0050
def bklDerate : Nat := 0xC0054
def bklFade : Nat := 0xC0058
def bklWpTarget : Nat := 0xC005C
def bklWpCfg : Nat := 0xC0060
def bklSensAddr (i : Nat) : Nat := 0xC0064 + 0x4 * i
def bklChReq : Nat := 0xC006C
def bklStatus : Nat := 0xC0070
def bklFadeNow : Nat := 0xC0074
def bklDerateNow : Nat := 0xC0078
def bklChFencedLo : Nat := 0xC007C
def bklChFencedHi : Nat := 0xC0080
def bklStat (i : Nat) : Nat := 0xC0100 + 4 * i
def bklSensMat0 (i : Nat) : Nat := 0xC0200 + 0x14 * i
def bklSensMat1 (i : Nat) : Nat := 0xC0204 + 0x14 * i
def bklSensMat2 (i : Nat) : Nat := 0xC0208 + 0x14 * i
def bklSensMat3 (i : Nat) : Nat := 0xC020C + 0x14 * i
def bklSensMat4 (i : Nat) : Nat := 0xC0210 + 0x14 * i
def bklSensRead (i : Nat) : Nat := 0xC0300 + 0x4 * i
def bklPsf (i : Nat) : Nat := 0xC0400 + 0x4 * i
def npPortCtrl (x : Nat) : Nat := 0x100040 + 0x10000 * x
def npVlan (x : Nat) : Nat := 0x100044 + 0x10000 * x
def npMacLo (x : Nat) : Nat := 0x100048 + 0x10000 * x
def npMacHi (x : Nat) : Nat := 0x10004C + 0x10000 * x
def npMtu (x : Nat) : Nat := 0x100050 + 0x10000 * x
def npKstPort (x : Nat) : Nat := 0x100054 + 0x10000 * x
def npLoss (x : Nat) : Nat := 0x100058 + 0x10000 * x
def npPortStatus (x : Nat) : Nat := 0x10005C + 0x10000 * x
def npHrxLo (x : Nat) : Nat := 0x100070 + 0x10000 * x
def npHrxHi (x : Nat) : Nat := 0x100074 + 0x10000 * x
def npHrxSize (x : Nat) : Nat := 0x100078 + 0x10000 * x
def npHrxTail (x : Nat) : Nat := 0x10007C + 0x10000 * x
def npHrxHead (x : Nat) : Nat := 0x100080 + 0x10000 * x
def npHtxLo (x : Nat) : Nat := 0x100084 + 0x10000 * x
def npHtxHi (x : Nat) : Nat := 0x100088 + 0x10000 * x
def npHtxSize (x : Nat) : Nat := 0x10008C + 0x10000 * x
def npHtxTail (x : Nat) : Nat := 0x100090 + 0x10000 * x
def npHtxHead (x : Nat) : Nat := 0x100094 + 0x10000 * x
def npStat (x i : Nat) : Nat := 0x100100 + 0x10000 * x + 4 * i
def npMgmtPort (x i : Nat) : Nat := 0x100200 + 0x10000 * x + 0x4 * i
def npPolCong (x : Nat) : Nat := 0x101040 + 0x10000 * x
def npPolCir (x i : Nat) : Nat := 0x101100 + 0x10000 * x + 0x20 * i
def npPolCbs (x i : Nat) : Nat := 0x101104 + 0x10000 * x + 0x20 * i
def npPolPir (x i : Nat) : Nat := 0x101108 + 0x10000 * x + 0x20 * i
def npPolPbs (x i : Nat) : Nat := 0x10110C + 0x10000 * x + 0x20 * i
def npPolCtrl (x i : Nat) : Nat := 0x101110 + 0x10000 * x + 0x20 * i
def npPolStatGreen (x i : Nat) : Nat := 0x101114 + 0x10000 * x + 0x20 * i
def npPolStatYellow (x i : Nat) : Nat := 0x101118 + 0x10000 * x + 0x20 * i
def npPolStatDrop (x i : Nat) : Nat := 0x10111C + 0x10000 * x + 0x20 * i
def npEgMap (x : Nat) : Nat := 0x102040 + 0x10000 * x
def npQCfg (x i : Nat) : Nat := 0x102100 + 0x10000 * x + 0x20 * i
def npQCir (x i : Nat) : Nat := 0x102104 + 0x10000 * x + 0x20 * i
def npQCbs (x i : Nat) : Nat := 0x102108 + 0x10000 * x + 0x20 * i
def npQPir (x i : Nat) : Nat := 0x10210C + 0x10000 * x + 0x20 * i
def npQPbs (x i : Nat) : Nat := 0x102110 + 0x10000 * x + 0x20 * i
def npQCbkt (x i : Nat) : Nat := 0x102114 + 0x10000 * x + 0x20 * i
def npQPbkt (x i : Nat) : Nat := 0x102118 + 0x10000 * x + 0x20 * i
def npQStatTx (x i : Nat) : Nat := 0x10211C + 0x10000 * x + 0x20 * i
def npQDrop (x i : Nat) : Nat := 0x102400 + 0x10000 * x + 0x4 * i
def npGclCtrl (x : Nat) : Nat := 0x103040 + 0x10000 * x
def npGclCycle (x : Nat) : Nat := 0x103044 + 0x10000 * x
def npGclLen (x : Nat) : Nat := 0x103048 + 0x10000 * x
def npGclBaseSecLo (x : Nat) : Nat := 0x10304C + 0x10000 * x
def npGclBaseSecHi (x : Nat) : Nat := 0x103050 + 0x10000 * x
def npGclBaseNs (x : Nat) : Nat := 0x103054 + 0x10000 * x
def npGclStat (x : Nat) : Nat := 0x103058 + 0x10000 * x
def npGclStartSecLo (x : Nat) : Nat := 0x10305C + 0x10000 * x
def npGclStartSecHi (x : Nat) : Nat := 0x103060 + 0x10000 * x
def npGclStartNs (x : Nat) : Nat := 0x103064 + 0x10000 * x
def npGclStatOversize (x : Nat) : Nat := 0x103100 + 0x10000 * x
def npGclEntry (x i : Nat) : Nat := 0x103800 + 0x10000 * x + 0x4 * i
def npPtpCtrl (x : Nat) : Nat := 0x104040 + 0x10000 * x
def npPtpTimeout (x : Nat) : Nat := 0x104044 + 0x10000 * x
def npTsRxLat (x : Nat) : Nat := 0x104048 + 0x10000 * x
def npTsTxLat (x : Nat) : Nat := 0x10404C + 0x10000 * x
def npPtpAsym (x : Nat) : Nat := 0x104050 + 0x10000 * x
def npPtpStatus (x : Nat) : Nat := 0x104054 + 0x10000 * x
def npPtpOffset (x : Nat) : Nat := 0x104058 + 0x10000 * x
def npPtpDelay (x : Nat) : Nat := 0x10405C + 0x10000 * x
def npPtpParentLo (x : Nat) : Nat := 0x104060 + 0x10000 * x
def npPtpParentHi (x : Nat) : Nat := 0x104064 + 0x10000 * x
def npPtpParentPort (x : Nat) : Nat := 0x104068 + 0x10000 * x
def npPtpGmIdLo (x : Nat) : Nat := 0x10406C + 0x10000 * x
def npPtpGmIdHi (x : Nat) : Nat := 0x104070 + 0x10000 * x
def npPtpGmQuality (x : Nat) : Nat := 0x104074 + 0x10000 * x
def npPtpStat (x i : Nat) : Nat := 0x104100 + 0x10000 * x + 4 * i
def fovCtrl : Nat := 0x120040
def fovStatus : Nat := 0x120048
def fovLastSwitch : Nat := 0x12004C
def fovSwPhases : Nat := 0x120050
def fovSnapFrame : Nat := 0x120054
def fovCfgDigestA : Nat := 0x120058
def fovCfgDigestB : Nat := 0x12005C
def fovIp6 (i : Nat) : Nat := 0x120100 + 0x4 * i
def fovIp4 : Nat := 0x120140
def fovAddrValid : Nat := 0x120144
def fovStat (i : Nat) : Nat := 0x120200 + 4 * i
def timCtrl : Nat := 0x130040
def timStep : Nat := 0x130044
def timLock : Nat := 0x130048
def timServo : Nat := 0x13004C
def timHold : Nat := 0x130050
def timXoChan : Nat := 0x130054
def timStatus : Nat := 0x130058
def timNowSecLo : Nat := 0x13005C
def timNowSecHi : Nat := 0x130060
def timNowNs : Nat := 0x130064
def timNowFrac : Nat := 0x130068
def timOffset : Nat := 0x13006C
def timRate : Nat := 0x130070
def timHoldSec : Nat := 0x130074
def timUtc : Nat := 0x130078
def timXoT : Nat := 0x13007C
def timXoValid : Nat := 0x130080
def timXoBin (i : Nat) : Nat := 0x130100 + 0x4 * i
def timStat (i : Nat) : Nat := 0x130200 + 4 * i
def dmcChCtrl (c : Nat) : Nat := 0x140040 + 0x1000 * c
def dmcChWq (c : Nat) : Nat := 0x140044 + 0x1000 * c
def dmcChRh (c : Nat) : Nat := 0x140048 + 0x1000 * c
def dmcChStatus (c : Nat) : Nat := 0x14004C + 0x1000 * c
def dmcChTemp (c : Nat) : Nat := 0x140050 + 0x1000 * c
def dmcChErrLo (c : Nat) : Nat := 0x140054 + 0x1000 * c
def dmcChErrHi (c : Nat) : Nat := 0x140058 + 0x1000 * c
def dmcChErrInfo (c : Nat) : Nat := 0x14005C + 0x1000 * c
def dmcChSvc (c : Nat) : Nat := 0x140060 + 0x1000 * c
def dmcChStat (c i : Nat) : Nat := 0x140100 + 0x1000 * c + 4 * i
def dmcCfg : Nat := 0x14F040
def dmcRefresh : Nat := 0x14F044
def dmcScrub : Nat := 0x14F048
def dmcTrainCtrl : Nat := 0x14F04C
def dmcTrainIdx : Nat := 0x14F050
def dmcTrainData : Nat := 0x14F054
def dmcTrainStat : Nat := 0x14F058
def dmcActive : Nat := 0x14F05C
def nvsCtrl : Nat := 0x150040
def nvsFbSession : Nat := 0x150044
def nvsFbSeg : Nat := 0x150048
def nvsFbTime : Nat := 0x15004C
def nvsSegwLo : Nat := 0x150050
def nvsSegwHi : Nat := 0x150054
def nvsSegwLen : Nat := 0x150058
def nvsSegwCtrl : Nat := 0x15005C
def nvsSegwNum : Nat := 0x150060
def nvsSegop : Nat := 0x150064
def nvsSegopNum : Nat := 0x150068
def nvsSegopR (i : Nat) : Nat := 0x15006C + 0x4 * i
def nvsFree : Nat := 0x150080
def nvsSegments : Nat := 0x150084
def nvsPbCtrl (i : Nat) : Nat := 0x150200 + 0x20 * i
def nvsPbSeg (i : Nat) : Nat := 0x150204 + 0x20 * i
def nvsPbCount (i : Nat) : Nat := 0x150208 + 0x20 * i
def nvsPbStartLo (i : Nat) : Nat := 0x15020C + 0x20 * i
def nvsPbStartHi (i : Nat) : Nat := 0x150210 + 0x20 * i
def nvsPbLead (i : Nat) : Nat := 0x150214 + 0x20 * i
def nvsPbStat (i : Nat) : Nat := 0x150218 + 0x20 * i
def nvsPbFrame (i : Nat) : Nat := 0x15021C + 0x20 * i
def nvsDCtrl (d : Nat) : Nat := 0x150040 + 0x1000 * (d + 1)
def nvsDStatus (d : Nat) : Nat := 0x150044 + 0x1000 * (d + 1)
def nvsDCap (d : Nat) : Nat := 0x150048 + 0x1000 * (d + 1)
def nvsDUsed (d : Nat) : Nat := 0x15004C + 0x1000 * (d + 1)
def nvsDHealth (d : Nat) : Nat := 0x150050 + 0x1000 * (d + 1)
def nvsDStat (d i : Nat) : Nat := 0x150100 + 0x1000 * (d + 1) + 4 * i
def lnkCtrl : Nat := 0x160040
def lnkScanCfg : Nat := 0x160044
def lnkReady (i : Nat) : Nat := 0x160048 + 0x4 * i
def lnkStat (i : Nat) : Nat := 0x160100 + 4 * i
def lnkLCtrl (n : Nat) : Nat := 0x160000 + 0x1000 * (1 + n / 24) + 0x400 + 0x80 * (n % 24)
def lnkLStatus (n : Nat) : Nat := 0x160000 + 0x1000 * (1 + n / 24) + 0x404 + 0x80 * (n % 24)
def lnkLTxeq (n : Nat) : Nat := 0x160000 + 0x1000 * (1 + n / 24) + 0x408 + 0x80 * (n % 24)
def lnkLTxeqNow (n : Nat) : Nat := 0x160000 + 0x1000 * (1 + n / 24) + 0x40C + 0x80 * (n % 24)
def lnkLRxeq0 (n : Nat) : Nat := 0x160000 + 0x1000 * (1 + n / 24) + 0x410 + 0x80 * (n % 24)
def lnkLRxeq1 (n : Nat) : Nat := 0x160000 + 0x1000 * (1 + n / 24) + 0x414 + 0x80 * (n % 24)
def lnkLRxeq0Now (n : Nat) : Nat := 0x160000 + 0x1000 * (1 + n / 24) + 0x418 + 0x80 * (n % 24)
def lnkLRxeq1Now (n : Nat) : Nat := 0x160000 + 0x1000 * (1 + n / 24) + 0x41C + 0x80 * (n % 24)
def lnkLEye (n : Nat) : Nat := 0x160000 + 0x1000 * (1 + n / 24) + 0x420 + 0x80 * (n % 24)
def lnkLEyeInfo (n : Nat) : Nat := 0x160000 + 0x1000 * (1 + n / 24) + 0x424 + 0x80 * (n % 24)
def lnkLPrbsErr (n : Nat) : Nat := 0x160000 + 0x1000 * (1 + n / 24) + 0x428 + 0x80 * (n % 24)
def lnkLPrbsBits (n : Nat) : Nat := 0x160000 + 0x1000 * (1 + n / 24) + 0x42C + 0x80 * (n % 24)
def lnkLStatFaults (n : Nat) : Nat := 0x160000 + 0x1000 * (1 + n / 24) + 0x430 + 0x80 * (n % 24)
def mgtMgStatus : Nat := 0x180040
def mgtCpxCtrl : Nat := 0x180044
def mgtCpxStatus : Nat := 0x180048
def mgtCpxKick : Nat := 0x18004C
def mgtMbAddrLo (i : Nat) : Nat := 0x180100 + 0x20 * i
def mgtMbAddrHi (i : Nat) : Nat := 0x180104 + 0x20 * i
def mgtMbLen (i : Nat) : Nat := 0x180108 + 0x20 * i
def mgtMbRlen (i : Nat) : Nat := 0x18010C + 0x20 * i
def mgtMbCtrl (i : Nat) : Nat := 0x180110 + 0x20 * i
def mgtMbStatus (i : Nat) : Nat := 0x180114 + 0x20 * i
def pwrDomOn0 : Nat := 0x190040
def pwrDomOn1 : Nat := 0x190044
def pwrDomStat0 : Nat := 0x190048
def pwrDomStat1 : Nat := 0x19004C
def pwrSupCfg : Nat := 0x190050
def pwrSupTime : Nat := 0x190054
def pwrSupStat : Nat := 0x190058
def pwrHoldCap : Nat := 0x19005C
def pwrHoldV : Nat := 0x190060
def pwrHoldE : Nat := 0x190064
def pwrHoldReserve : Nat := 0x190068
def pwrHoldTest : Nat := 0x19006C
def pwrStoreEst (i : Nat) : Nat := 0x190070 + 0x4 * i
def pwrPmbCfg : Nat := 0x190080
def pwrReg (i : Nat) : Nat := 0x190100 + 0x4 * i
def pwrRegStat (i : Nat) : Nat := 0x190140 + 0x4 * i
def pwrStat (i : Nat) : Nat := 0x190200 + 4 * i
def thmCtrl : Nat := 0x1A0040
def thmTrip : Nat := 0x1A0044
def thmCrit : Nat := 0x1A0048
def thmGrace : Nat := 0x1A004C
def thmReq : Nat := 0x1A0050
def thmLvl (i : Nat) : Nat := 0x1A0054 + 0x4 * i
def thmBandCfg : Nat := 0x1A0064
def thmBandT0 : Nat := 0x1A0068
def thmBandT1 : Nat := 0x1A006C
def thmBand : Nat := 0x1A0070
def thmBroken0 : Nat := 0x1A0074
def thmBroken1 : Nat := 0x1A0078
def thmExtBroken : Nat := 0x1A007C
def thmSensClr : Nat := 0x1A0080
def thmRounds : Nat := 0x1A0084
def thmCh (i : Nat) : Nat := 0x1A0200 + 0x4 * i
def thmExtCfg (i : Nat) : Nat := 0x1A0400 + 0x4 * i
def calCtrl : Nat := 0x1B0040
def calStatus : Nat := 0x1B0044
def calTemp0 : Nat := 0x1B0048
def calTemp1 : Nat := 0x1B004C
def calCapStat : Nat := 0x1B0050
def calStat (i : Nat) : Nat := 0x1B0100 + 4 * i
def secLifecycle : Nat := 0x1C0040
def secCertified : Nat := 0x1C0044
def secBootNonce (i : Nat) : Nat := 0x1C0048 + 0x4 * i
def secSeq (i : Nat) : Nat := 0x1C0058 + 0x4 * i
def secArb (i : Nat) : Nat := 0x1C0068 + 0x4 * i
def secSlots : Nat := 0x1C0074
def secOwner : Nat := 0x1C0078
def secKeyrev : Nat := 0x1C007C
def secSelftest : Nat := 0x1C0080
def secKatCtrl : Nat := 0x1C0084
def secRcvCtrl : Nat := 0x1C0088
def secRcvData : Nat := 0x1C008C
def secDigest (i : Nat) : Nat := 0x1C0100 + 0x4 * i
def secStat (i : Nat) : Nat := 0x1C0200 + 4 * i
def secKeygen (i : Nat) : Nat := 0x1C0400 + 0x4 * i
def svcCtrl : Nat := 0x1D0040
def svcUnitReq : Nat := 0x1D0044
def svcStatus : Nat := 0x1D0048
def svcBistLast : Nat := 0x1D004C
def svcLogPos (i : Nat) : Nat := 0x1D0050 + 0x4 * i
def svcLogStaged : Nat := 0x1D0060
def svcLogChain (i : Nat) : Nat := 0x1D0080 + 0x4 * i
def svcStat (i : Nat) : Nat := 0x1D0100 + 4 * i
def svcUnit (i : Nat) : Nat := 0x1D0400 + 0x4 * i
def crvW (e w : Nat) : Nat :=
  if e < 32 then 0x11800 + 0x10 * e + 4 * w
  else if e < 272 then 0x12100 + 0x10 * (e - 32) + 4 * w
  else 0x13100 + 0x10 * (e - 272) + 4 * w

end Sys2Proof.Machine.Reg
end

