-- ==== Sys2Proof/Machine/RegDef.lean ====
section
/-! DEFINITION. How a register table of the manual is written down: fields with their type, range and zero rule
(R11, R12, R41, R57), rows with offset, stride and reset value, pages with their capabilities (R37, R43). -/

namespace Sys2Proof.Machine

/-- The type of a field (R11); `wo` is write-only. -/
inductive FieldKind where
  | rw | ro | wo | w1c | w1s | rws | prw
  deriving DecidableEq, Repr

/-- What a zero written to the field means (R57). -/
inductive ZeroRule where
  | allowed    -- a zero is an ordinary value (or a duration)
  | zeroSize   -- a zero is rejected with ZERO_SIZE
  | range      -- a zero is rejected with VALUE_RANGE
  deriving DecidableEq, Repr

/-- One field of a register: bits [hi:lo], its type, its range, its zero rule and the multiple it must be of. -/
structure FieldDef where
  hi : Nat
  lo : Nat
  kind : FieldKind
  min : Int
  max : Int
  zero : ZeroRule
  step : Nat
  signed : Bool
  deriving DecidableEq, Repr

/-- A field that takes every value its bits can hold. -/
def fAny (hi lo : Nat) (k : FieldKind) : FieldDef :=
  { hi := hi, lo := lo, kind := k, min := 0, max := 2 ^ (hi - lo + 1) - 1, zero := .allowed, step := 1, signed := false }

/-- A field with a range; zero below the range is VALUE_RANGE. -/
def fRng (hi lo : Nat) (k : FieldKind) (mn mx : Nat) : FieldDef :=
  { hi := hi, lo := lo, kind := k, min := mn, max := mx, zero := .range, step := 1, signed := false }

/-- A length, count or size: zero is ZERO_SIZE (R57). -/
def fLen (hi lo : Nat) (k : FieldKind) (mn mx : Nat) : FieldDef :=
  { hi := hi, lo := lo, kind := k, min := mn, max := mx, zero := .zeroSize, step := 1, signed := false }

/-- A length that must also be a multiple of `step`, otherwise ALIGNMENT. -/
def fLenStep (hi lo : Nat) (k : FieldKind) (mn mx step : Nat) : FieldDef :=
  { hi := hi, lo := lo, kind := k, min := mn, max := mx, zero := .zeroSize, step := step, signed := false }

/-- A two's complement field with a range. -/
def fSgn (hi lo : Nat) (k : FieldKind) (mn mx : Int) : FieldDef :=
  { hi := hi, lo := lo, kind := k, min := mn, max := mx, zero := .allowed, step := 1, signed := true }

/-- The low word of an address that must be a multiple of `step`, otherwise ALIGNMENT. -/
def fAlign (k : FieldKind) (step : Nat) : FieldDef :=
  { hi := 31, lo := 0, kind := k, min := 0, max := 4294967295, zero := .allowed, step := step, signed := false }

/-- One row of an offset table: `count` words at `base + i * stride`. -/
structure RegRow where
  name : String
  base : Nat
  stride : Nat
  count : Nat
  reset : Nat → Nat
  fields : List FieldDef

/-- A row of one word. -/
def row1 (name : String) (base reset : Nat) (fields : List FieldDef) : RegRow :=
  { name := name, base := base, stride := 4, count := 1, reset := fun _ => reset, fields := fields }

/-- A row of `count` words, all with one reset value. -/
def rowN (name : String) (base stride count reset : Nat) (fields : List FieldDef) : RegRow :=
  { name := name, base := base, stride := stride, count := count, reset := fun _ => reset, fields := fields }

/-- A row of words whose reset value depends on the index. -/
def rowF (name : String) (base stride count : Nat) (reset : Nat → Nat) (fields : List FieldDef) : RegRow :=
  { name := name, base := base, stride := stride, count := count, reset := reset, fields := fields }

/-- A page of the register space (R37, R43): its block code and index, the power domain of its instance (R17,
numbered as in R446), its capabilities, the mask of the events it raises in IRQ_STATUS, the service unit that its
instance is (R492), and its offset table. -/
structure PageDef where
  code : Nat
  index : Nat
  inst : Nat
  domain : Nat
  shadow : Bool
  group : Bool
  fenceable : Bool
  capBlock : Nat
  events : Nat
  unit : Option Nat
  rows : List RegRow

/-- Read-only words. -/
def roW : List FieldDef := [fAny 31 0 .ro]
/-- Plain read/write words. -/
def rwW : List FieldDef := [fAny 31 0 .rw]
/-- Shadowed words. -/
def rwsW : List FieldDef := [fAny 31 0 .rws]
/-- `n` consecutive read-only counters. -/
def counters (name : String) (base n : Nat) : RegRow := rowN name base 4 n 0 roW

end Sys2Proof.Machine
end

