-- ==== Sys2Proof/Machine/RegMapA.lean ====
section
/-! DEFINITION. The offset tables and field maps of groups DEV to SLC: R68-R75, R79-R80, R94-R95, R125-R127,
R163-R167, R193-R199. -/

namespace Sys2Proof.Machine
open FieldKind

/-- DEV identity and global commit page (R68, R70). -/
def rowsDevId : List RegRow := [
  row1 "DEV_PART" 0x40 0x4B4C1800 roW, row1 "DEV_REV" 0x44 0 [fAny 23 0 ro],
  row1 "DEV_SERIAL_LO" 0x48 0 roW, row1 "DEV_SERIAL_HI" 0x4C 0 roW,
  row1 "DEV_GCOMMIT" 0x50 0 [fAny 0 0 w1s, fAny 1 1 ro, fAny 2 2 w1c, fAny 3 3 w1s, fAny 31 16 ro],
  row1 "DEV_GCOMMIT_STAT" 0x54 0 [fAny 21 0 ro], row1 "DEV_GROUP_MEMBERS" 0x58 0x7FFF [fAny 14 0 ro],
  row1 "DEV_GCOMMIT_COUNT" 0x5C 0 roW]

/-- ERR aggregator page (R71, R72). -/
def rowsDevErr : List RegRow := [
  row1 "DEV_ERR_HEAD" 0x40 0 roW, row1 "DEV_ERR_LOST" 0x44 0 [fAny 0 0 w1c], row1 "DEV_ERR_TOTAL" 0x48 0 roW,
  rowN "DEV_ERR_W0" 0x100 0x10 64 0 [fAny 22 0 ro, fAny 26 24 ro, fAny 30 27 ro, fAny 23 23 ro, fAny 31 31 w1c],
  rowN "DEV_ERR_W1" 0x104 0x10 64 0 roW, rowN "DEV_ERR_W2" 0x108 0x10 64 0 roW, rowN "DEV_ERR_W3" 0x10C 0x10 64 0 roW]

/-- INTC page (R74). -/
def rowsDevIntc : List RegRow := [
  row1 "DEV_INTC_PEND_LO" 0x40 0 roW, row1 "DEV_INTC_PEND_HI" 0x44 0 roW,
  row1 "DEV_INTC_MASK_LO" 0x48 0xFFFFFFFF rwW, row1 "DEV_INTC_MASK_HI" 0x4C 0xFFFFFFFF rwW,
  row1 "DEV_INTC_EOI" 0x50 0 [fAny 5 0 wo],
  rowN "DEV_INTC_TARGET" 0x100 4 64 0 [fAny 0 0 rw, fAny 4 1 rw],
  rowN "DEV_INTC_ROUTE" 0x800 4 512 0 [fAny 5 0 rw, fAny 31 31 rw]]

/-- RAS timing page (R79, R80). -/
def rowsRasTiming : List RegRow := [
  row1 "RAS_VACTIVE" 0x40 0x1200 [fLen 15 0 rws 64 18432],
  row1 "RAS_VBLANK" 0x44 0x01401008 [fLen 9 0 rws 1 1023, fLen 19 10 rws 1 1023, fLen 29 20 rws 1 1023],
  row1 "RAS_HACTIVE" 0x48 0x8000 [fLenStep 15 0 rws 1024 32768 64],
  row1 "RAS_HFRONT_SYNC" 0x4C 0x01000200 [fLen 15 0 rws 1 8191, fLen 31 16 rws 1 8191],
  row1 "RAS_HBACK" 0x50 0x500 [fLen 15 0 rws 1 8191],
  row1 "RAS_REGIONS" 0x54 2 [{ fAny 1 0 rws with max := 2 }],
  row1 "RAS_PERIOD_NS" 0x58 0x00FE502A [fLen 31 0 rws 4166666 41666667],
  row1 "RAS_PERIOD_FRAC" 0x5C 0xAAAAAAAB rwsW,
  row1 "RAS_HORIZON" 0x60 0x40 [fLen 6 0 rws 16 64],
  row1 "RAS_ALIGN_SEC_LO" 0x64 0 rwsW, row1 "RAS_ALIGN_SEC_HI" 0x68 0 rwsW,
  row1 "RAS_ALIGN_NS" 0x6C 0 [{ fAny 29 0 rws with max := 999999999 }],
  row1 "RAS_TRIM" 0x70 0 [fSgn 15 0 rws (-32768) 32767],
  row1 "RAS_VTOTAL" 0x74 0x12201220 roW, row1 "RAS_HTOTAL" 0x78 0x88008800 roW, row1 "RAS_LATCH" 0x7C 0x11E0 [fAny 15 0 ro],
  row1 "RAS_LOCK_CTRL" 0x80 0x00640104 [fRng 7 0 rw 1 255, fAny 8 8 rw, fRng 23 16 rw 1 200],
  row1 "RAS_LOCK_STAT" 0x84 0 [fAny 1 0 ro, fAny 2 2 ro, fAny 6 4 ro], row1 "RAS_PHASE_ERR" 0x88 0 roW,
  row1 "RAS_FRAME_LO" 0x8C 0 roW, row1 "RAS_FRAME_HI" 0x90 0 roW, row1 "RAS_POS" 0x94 0 roW,
  row1 "RAS_TRANS_FADE" 0x98 0x00280028 [{ fAny 13 0 rw with max := 10000 }, { fAny 29 16 rw with max := 10000 }],
  rowN "RAS_LMATCH" 0x9C 4 4 0 [fAny 15 0 rw, fAny 30 30 rw, fAny 31 31 rw],
  row1 "RAS_UNDERRUN_COUNT" 0xAC 0 roW, row1 "RAS_RELABEL_COUNT" 0xB0 0 roW]

/-- The four words of a run of Caravan entries (R95). -/
def rowsCrvEntries (base n : Nat) : List RegRow := [
  rowN "RAS_CRV_W0" base 0x10 n 0 rwW, rowN "RAS_CRV_W1" (base + 4) 0x10 n 0 rwW,
  rowN "RAS_CRV_W2" (base + 8) 0x10 n 0 [fAny 19 0 rw, fAny 23 20 rw, fAny 24 24 rw, fAny 25 25 rw, fAny 31 31 rw],
  rowN "RAS_CRV_W3" (base + 12) 0x10 n 0 rwW]

/-- Caravan control page (R94). -/
def rowsCrvCtrl : List RegRow := [
  row1 "RAS_CRV_CTRL" 0x40 1 [fAny 0 0 rw], row1 "RAS_CRV_ARMED" 0x44 0 [fAny 9 0 ro], row1 "RAS_CRV_LAST" 0x48 0 [fAny 8 0 ro, fAny 31 16 ro],
  row1 "RAS_CRV_FIRED_COUNT" 0x4C 0 roW, row1 "RAS_CRV_LATE_COUNT" 0x50 0 roW, row1 "RAS_CRV_MISSED_COUNT" 0x54 0 roW,
  row1 "RAS_CRV_WFAIL_COUNT" 0x58 0 roW, row1 "RAS_CRV_PINS" 0x5C 0 [fAny 3 0 ro], row1 "RAS_CRV_CAP_SEC_LO" 0x60 0 roW,
  row1 "RAS_CRV_CAP_SEC_HI" 0x64 0 roW, row1 "RAS_CRV_CAP_NS" 0x68 0 roW, row1 "RAS_CRV_CAP_IDX" 0x6C 0 [fAny 8 0 ro]]
  ++ rowsCrvEntries 0x800 32

/-- SCN page (R125-R127). A zero in SCN_STORE_RESERVE is VALUE_RANGE (log entry 166). -/
def rowsScn : List RegRow := [
  row1 "SCN_CTRL" 0x40 0 [fAny 0 0 rw, fAny 1 1 rw], row1 "SCN_STORE_SIZE" 0x44 0x60 [fLen 10 0 rw 4 1536],
  row1 "SCN_STORE_RESERVE" 0x48 0x800 [fRng 15 0 rw 1 65535], row1 "SCN_PLANE_MASK" 0x4C 0xFFFFFFFF rwsW,
  row1 "SCN_DEPTH_SCALE" 0x50 0x1000 [{ fAny 15 0 rws with max := 16384 }], row1 "SCN_DEPTH_OFFSET" 0x54 0 [fAny 23 0 rws],
  row1 "SCN_LINEAR_PEAK" 0x58 0x3E8 [fRng 13 0 rws 1 10000],
  row1 "SCN_STATUS" 0x5C 0 [fAny 5 0 ro, fAny 10 8 ro, fAny 22 16 ro], row1 "SCN_VERSION_FRONT" 0x60 0 roW, row1 "SCN_VERSION_BACK" 0x64 0 roW,
  row1 "SCN_VERSION_PENDING" 0x68 0 roW, row1 "SCN_VERSION_STAGE" 0x6C 0 roW,
  row1 "SCN_STORE_USED" 0x70 0 roW, row1 "SCN_STORE_FREE" 0x74 0 roW,
  row1 "SCN_QUERY" 0x80 0 [fAny 7 0 rw, fAny 15 8 rw, fAny 20 16 rw, fAny 25 24 rw, fAny 31 31 w1s],
  rowN "SCN_QUERY_E" 0x84 4 4 0 roW, row1 "SCN_QUERY_STAT" 0x94 0 [fAny 1 0 ro],
  counters "SCN_STAT" 0x100 7, rowN "SCN_PLANE" 0x400 4 256 0 roW, rowN "SCN_WIN" 0x800 0x10 8 0 [fAny 11 0 ro, fAny 21 16 ro, fAny 31 31 ro],
  rowN "SCN_WIN1" 0x804 0x10 8 0 [fAny 10 0 ro], rowN "SCN_WIN2" 0x808 0x10 8 0 roW, rowN "SCN_WIN3" 0x80C 0x10 8 0 roW]

/-- ING page (R163, R164). -/
def rowsIng : List RegRow := [
  row1 "ING_CTRL" 0x40 0xF00 [fAny 0 0 rw, fAny 1 1 rw, fRng 15 8 rw 1 255],
  row1 "ING_NACK_TIMING" 0x44 0x01F40064 [fAny 15 0 rw, fRng 31 16 rw 1 65535],
  row1 "ING_NACK_RETRIES" 0x48 4 [fLen 3 0 rw 1 15], row1 "ING_REASM_SIZE" 0x4C 0x100 [fLen 11 0 rw 16 4095],
  row1 "ING_STATUS" 0x50 0 [fAny 0 0 ro, fAny 14 8 ro], row1 "ING_INJ_ADDR_LO" 0x60 0 [fAlign rw 4], row1 "ING_INJ_ADDR_HI" 0x64 0 rwW,
  row1 "ING_INJ_CTRL" 0x68 0 [fLen 13 0 rw 32 8936, fAny 21 16 rw, fAny 30 30 ro, fAny 31 31 w1s],
  counters "ING_STAT" 0x100 10,
  rowN "ING_S_CTRL" 0x400 0x30 64 0 [fAny 0 0 rw, fAny 1 1 rw, { fAny 3 2 rw with max := 2 }, fAny 4 4 rw, fAny 5 5 rw, fAny 9 8 ro],
  rowN "ING_S_PLANES" 0x404 0x30 64 0 rwW, rowN "ING_S_STATE" 0x408 0x30 64 0 [fAny 1 0 ro, fAny 8 8 ro],
  rowN "ING_S_EXP_LO" 0x40C 0x30 64 0 roW, rowN "ING_S_EXP_HI" 0x410 0x30 64 0 [fAny 15 0 ro],
  rowN "ING_S_FRAME_LO" 0x414 0x30 64 0 roW, rowN "ING_S_COMMIT_LO" 0x418 0x30 64 0 roW,
  rowN "ING_S_RX" 0x41C 0x30 64 0 roW, rowN "ING_S_ERR" 0x420 0x30 64 0 roW, rowN "ING_S_NACKED" 0x424 0x30 64 0 roW]

/-- MBC page (R166, R167). -/
def rowsMbc : List RegRow := [
  row1 "MBC_CTRL" 0x40 0 [fAny 0 0 rw], row1 "MBC_RING_LO" 0x44 0 [fAlign rw 64], row1 "MBC_RING_HI" 0x48 0 rwW,
  row1 "MBC_RING_SIZE" 0x4C 1 [fLen 12 0 rw 1 4096], row1 "MBC_RING_TAIL" 0x50 0 [fAny 11 0 rw],
  row1 "MBC_RING_HEAD" 0x54 0 [fAny 11 0 ro], row1 "MBC_JOB_STAT" 0x58 0 [fAny 2 0 ro, fAny 31 16 ro], row1 "MBC_IN_CONSUMED" 0x5C 0 roW,
  row1 "MBC_OUT_PRODUCED" 0x60 0 roW, row1 "MBC_RESUME_ADDR_LO" 0x64 0 rwW, row1 "MBC_RESUME_ADDR_HI" 0x68 0 rwW,
  row1 "MBC_RESUME_LEN" 0x6C 0 rwW, row1 "MBC_RESUME" 0x70 0 [fAny 2 0 wo], counters "MBC_STAT" 0x100 6]

/-- SYN global page (R193). -/
def rowsSynGlobal : List RegRow := [
  row1 "SYN_CTRL" 0x40 0 [fAny 0 0 rws], row1 "SYN_OUT_PEAK" 0x44 0x3E8 [fLen 13 0 rws 1 10000],
  row1 "SYN_VBF" 0x48 0x1001 [fAny 0 0 rws, fLen 12 8 rws 1 31],
  row1 "SYN_VBF_DEPTH" 0x4C 0x03E800FA [fRng 15 0 rws 1 32767, fRng 31 16 rws 1 32767],
  row1 "SYN_BUDGET" 0x50 0x00020120 [fLen 5 0 rws 1 32, fLen 13 8 rws 1 32, { fAny 17 16 rws with max := 2 }, { fAny 19 18 rws with max := 2 }],
  row1 "SYN_BD_CTRL" 0x54 1 [fAny 0 0 rws], row1 "SYN_STATUS" 0x60 0 [fAny 15 0 ro, fAny 21 16 ro, fAny 25 24 ro], counters "SYN_STAT" 0x100 9]

/-- SYN lens model page (R194). The lens pitches are lengths, so that 0 is VALUE_RANGE (R57; log entry 173). -/
def rowsSynLens : List RegRow := [
  row1 "SYN_LNS_CTRL" 0x40 0 [fAny 0 0 rws, fAny 1 1 rws, fAny 2 2 rws],
  row1 "SYN_LNS_PITCH_X" 0x44 0x131F9 [fLen 23 0 rws 1 16777215], row1 "SYN_LNS_PITCH_Y" 0x48 0x131F9 [fLen 23 0 rws 1 16777215],
  row1 "SYN_LNS_LPITCH" 0x4C 0x70A3D7 [fRng 25 0 rws 2097152 67108864],
  row1 "SYN_LNS_SLANT" 0x50 0x80000 [fSgn 31 0 rws (-8388608) 8388608], row1 "SYN_LNS_OFFSET" 0x54 0 rwsW,
  row1 "SYN_LNS_VIEWS" 0x58 0x1080 [fLen 7 0 rws 2 128, fLen 15 8 rws 2 16],
  row1 "SYN_LNS_TANH" 0x5C 0x5D2D [{ fAny 17 0 rws with max := 131072 }],
  row1 "SYN_LNS_TANH_WIDE" 0x60 0x93CD [{ fAny 17 0 rws with max := 131072 }],
  row1 "SYN_LNS_TANV" 0x64 0x5D2D [{ fAny 17 0 rws with max := 131072 }],
  row1 "SYN_LNS_LPITCH_V" 0x68 0x70A3D7 [fRng 25 0 rws 2097152 67108864], row1 "SYN_LNS_OFFSET_V" 0x6C 0 rwsW]

/-- SYN calibration grid page (R195). -/
def rowsSynGrid : List RegRow := [
  row1 "SYN_LNS_GRID" 0x40 0 [fAny 0 0 rws, fAny 1 1 rws], row1 "SYN_GRID_LOAD_LO" 0x44 0 [fAlign rw 64],
  row1 "SYN_GRID_LOAD_HI" 0x48 0 rwW,
  row1 "SYN_GRID_LOAD_CTRL" 0x4C 0x01200200 [fLen 9 0 rw 2 512, fLen 24 16 rw 2 288, fAny 28 28 rw, fAny 31 31 w1s],
  row1 "SYN_GRID_STAT" 0x50 0 [fAny 0 0 ro, fAny 1 1 ro, fAny 2 2 ro, fAny 31 16 ro],
  row1 "SYN_GRID_DIM0" 0x54 0 [fAny 9 0 ro, fAny 24 16 ro], row1 "SYN_GRID_DIM1" 0x58 0 [fAny 9 0 ro, fAny 24 16 ro]]

/-- SLC page (R199). -/
def rowsSlc : List RegRow := [
  row1 "SLC_STATUS" 0x40 0 [fAny 7 0 ro, fAny 23 16 ro], row1 "SLC_CLOCK" 0x44 0x5DC [fAny 11 0 ro], counters "SLC_STAT" 0x100 4,
  rowN "SLC_CL_STATE" 0x400 0x80 8 0 [fAny 2 0 ro], rowN "SLC_CL_FENCE" 0x404 0x80 8 0 [fAny 2 0 w1s],
  rowN "SLC_CL_TILE" 0x408 0x80 8 0 roW, rowN "SLC_CL_BUDGET" 0x40C 0x80 8 0 [fAny 5 0 ro, fAny 9 8 ro, fAny 16 16 ro], rowN "SLC_CL_SAMPLES" 0x410 0x80 8 0 roW,
  rowN "SLC_CL_STAT_TILES" 0x414 0x80 8 0 roW, rowN "SLC_CL_STAT_SAMPLES" 0x418 0x80 8 0 roW,
  rowN "SLC_CL_STAT_BUSY" 0x41C 0x80 8 0 roW, rowN "SLC_CL_STAT_WAIT" 0x420 0x80 8 0 roW,
  rowN "SLC_CL_STAT_BD_CELLS" 0x424 0x80 8 0 roW, rowN "SLC_CL_STAT_FAULTS" 0x428 0x80 8 0 roW]

end Sys2Proof.Machine
end

