-- ==== Sys2Proof/Machine/RegMapB.lean ====
section
/-! DEFINITION. The offset tables and field maps of groups BRC to BKL: R221-R225, R254-R255, R280-R281, R295-R296,
R325-R329, R348-R349. -/

namespace Sys2Proof.Machine
open FieldKind

/-- BRC output band page (R221, R222). -/
def rowsBrc : List RegRow := [
  row1 "BRC_CTRL" 0x40 0x17 [fAny 0 0 rws, fAny 1 1 rws, fAny 2 2 rws, { fAny 5 4 rws with max := 2 }],
  row1 "BRC_GUARD" 0x44 2 [fLen 3 0 rws 1 15], row1 "BRC_COMP_FLOOR" 0x48 0x100 [fRng 15 0 rws 1 16384],
  row1 "BRC_MATRIX0" 0x4C 0x4000 [fSgn 15 0 rws (-32768) 32767, fSgn 31 16 rws (-32768) 32767],
  row1 "BRC_MATRIX1" 0x50 0 [fSgn 15 0 rws (-32768) 32767, fSgn 31 16 rws (-32768) 32767],
  row1 "BRC_MATRIX2" 0x54 0x4000 [fSgn 15 0 rws (-32768) 32767, fSgn 31 16 rws (-32768) 32767],
  row1 "BRC_MATRIX3" 0x58 0 [fSgn 15 0 rws (-32768) 32767, fSgn 31 16 rws (-32768) 32767],
  row1 "BRC_MATRIX4" 0x5C 0x4000 [fSgn 15 0 rws (-32768) 32767],
  row1 "BRC_GAIN_RG" 0x60 0x80008000 rwsW, row1 "BRC_GAIN_B" 0x64 0x8000 [fAny 15 0 rws],
  row1 "BRC_WP_TRIM" 0x68 0 [fAny 9 0 ro, fAny 19 10 ro, fAny 29 20 ro], row1 "BRC_LUT_SEL" 0x6C 0 [fAny 0 0 rws, fAny 1 1 rws],
  row1 "BRC_LUT_LOAD_LO" 0x70 0 [fAlign rw 4], row1 "BRC_LUT_LOAD_HI" 0x74 0 rwW,
  row1 "BRC_LUT_LOAD_CTRL" 0x78 0 [fAny 0 0 rw, fAny 31 31 w1s], row1 "BRC_LUT_STAT" 0x7C 0 [fAny 2 0 ro, fAny 31 16 ro],
  row1 "BRC_LAST_FRAME" 0x80 0 roW, row1 "BRC_LAST_MIRAGE" 0x84 0 roW, counters "BRC_STAT" 0x100 6]

/-- BRC Oasis page (R225). -/
def rowsOasis : List RegRow := [
  row1 "BRC_OAS_CTRL" 0x40 1 [fAny 0 0 rw], row1 "BRC_OAS_STATUS" 0x44 2 [fAny 1 0 ro, fAny 20 16 ro], row1 "BRC_OAS_USED" 0x48 0 roW,
  row1 "BRC_OAS_INST" 0x4C 0xFFFF [fAny 15 0 ro], row1 "BRC_SNAP_FRAME_LO" 0x50 0 rwW, row1 "BRC_SNAP_FRAME_HI" 0x54 0 rwW,
  row1 "BRC_SNAP_ADDR_LO" 0x58 0 [fAlign rw 64], row1 "BRC_SNAP_ADDR_HI" 0x5C 0 rwW, row1 "BRC_SNAP_LEN" 0x60 0 rwW,
  row1 "BRC_SNAP_CTRL" 0x64 0 [fAny 1 0 rw, fAny 31 31 w1s], row1 "BRC_SNAP_STAT" 0x68 0 [fAny 3 0 ro, fAny 31 16 ro],
  counters "BRC_OAS_STAT" 0x100 7]

/-- PLC page (R254, R255). -/
def rowsPlc : List RegRow := [
  row1 "PLC_CTRL" 0x40 0x213F [fAny 0 0 rw, fAny 1 1 rw, fAny 2 2 rw, fAny 3 3 rw, fAny 4 4 rw, fAny 5 5 rw, fAny 6 6 rw,
    fLen 10 8 rw 1 4, fLen 14 12 rw 1 7],
  row1 "PLC_LOAD" 0x44 0x1E025860 [fRng 7 0 rw 50 100, { fAny 15 8 rw with max := 99 }, { fAny 23 16 rw with max := 50 },
    fLen 31 24 rw 1 255],
  row1 "PLC_STEAL" 0x48 0x004607D0 [fAny 15 0 rw, fRng 23 16 rw 1 100],
  row1 "PLC_PIN_BOUNDS0" 0x4C 0x100C0804 [fAny 5 0 rw, fAny 13 8 rw, fAny 21 16 rw, fAny 29 24 rw],
  row1 "PLC_PIN_BOUNDS1" 0x50 0x001C1814 [fAny 5 0 rw, fAny 13 8 rw, fAny 21 16 rw],
  row1 "PLC_CACHE" 0x54 0x07D00020 [{ fLen 9 0 rw 1 1024 with max := 1023 }, { fAny 31 16 rw with max := 60000 }],
  row1 "PLC_EVAC" 0x58 0x14 [fRng 5 0 rw 1 54], row1 "PLC_HINT_RANGE" 0x5C 0 [fAny 10 0 rw, fAny 26 16 rw],
  row1 "PLC_HINT_CTRL" 0x60 0 [fRng 7 0 rw 1 255, fLen 15 8 rw 1 255, fAny 31 31 w1s],
  row1 "PLC_COSTMAP_LO" 0x64 0 [fAlign rw 64], row1 "PLC_COSTMAP_HI" 0x68 0 rwW,
  row1 "PLC_COSTMAP_CTRL" 0x6C 0 [fAny 0 0 ro, fAny 31 31 w1s], row1 "PLC_SEG_PIN_VALID" 0x70 0 [fAny 15 0 rw],
  row1 "PLC_STATUS" 0x80 0 [fAny 6 0 ro, fAny 11 8 ro, fAny 19 16 ro, fAny 29 24 ro],
  row1 "PLC_STRIPE0" 0x84 0x100C0804 [fAny 5 0 ro, fAny 13 8 ro, fAny 21 16 ro, fAny 29 24 ro],
  row1 "PLC_STRIPE1" 0x88 0x001C1814 [fAny 5 0 ro, fAny 13 8 ro, fAny 21 16 ro],
  row1 "PLC_PRESSURE" 0x8C 0 roW, row1 "PLC_EVAC_STAT" 0x90 0 [fAny 4 0 ro, fAny 31 8 ro], counters "PLC_STAT" 0x100 11,
  rowN "PLC_SEG_PIN" 0x200 4 16 0 rwW]

/-- LYR global page (R280). -/
def rowsLyrGlobal : List RegRow := [
  row1 "LYR_CTRL" 0x40 0x300 [fAny 0 0 rws, fLen 11 8 rws 1 15],
  row1 "LYR_ORDER" 0x44 0x76543210 [fAny 2 0 rws, fAny 6 4 rws, fAny 10 8 rws, fAny 14 12 rws, fAny 18 16 rws,
    fAny 22 20 rws, fAny 26 24 rws, fAny 30 28 rws],
  row1 "LYR_BG_RG" 0x48 0 [fAny 13 0 rws, fAny 29 16 rws], row1 "LYR_BG_B" 0x4C 0 [fAny 13 0 rws],
  row1 "LYR_BW" 0x50 0x64 [fRng 9 0 rws 10 400],
  row1 "LYR_LENS_MAP" 0x54 0x21E00 [fAny 0 0 rws, fLen 15 8 rws 1 255, fLen 23 16 rws 1 255],
  row1 "LYR_STATUS" 0x60 0 [fAny 7 1 ro, fAny 15 9 ro, fAny 19 16 ro], row1 "LYR_BW_EST" 0x64 0 [fAny 15 0 ro],
  row1 "LYR_FLAT_REGIONS" 0x68 0 [fAny 11 0 ro],
  counters "LYR_STAT" 0x100 7, rowN "LYR_COVER" 0x400 4 64 0 roW, rowN "LYR_AUTO_FLAT" 0x500 4 64 0 roW]

/-- The reset word `k` of phase `ph` of a bilinear horizontal table: tap 3 is 4096 - 64 ph, tap 4 is 64 ph (R267). -/
def bilinearH (i : Nat) : Nat :=
  if i % 4 = 1 then (4096 - 64 * (i / 4)) * 65536 else if i % 4 = 2 then 64 * (i / 4) else 0

/-- The vertical table: taps 2 and 3 follow the same pattern (R267). -/
def bilinearV (i : Nat) : Nat :=
  if i % 4 = 1 then (4096 - 64 * (i / 4)) + 64 * (i / 4) * 65536 else 0

/-- LYR layer page (R281). VCOEF word 3 of a phase is reserved. -/
def rowsLyrLayer : List RegRow := [
  row1 "LYR_Ln_CTRL" 0x40 0 [fAny 0 0 rws, { fAny 7 4 rws with max := 9 }, fAny 8 8 rws, { fAny 10 9 rws with max := 2 },
    fAny 11 11 rws, fAny 12 12 rws, fAny 13 13 rws, fAny 14 14 rws],
  row1 "LYR_Ln_BASE0_LO" 0x44 0 [fAlign rws 64], row1 "LYR_Ln_BASE0_HI" 0x48 0 rwsW,
  row1 "LYR_Ln_BASE1_LO" 0x4C 0 [fAlign rws 64], row1 "LYR_Ln_BASE1_HI" 0x50 0 rwsW,
  row1 "LYR_Ln_BASE2_LO" 0x54 0 [fAlign rws 64], row1 "LYR_Ln_BASE2_HI" 0x58 0 rwsW,
  row1 "LYR_Ln_STRIDE0" 0x5C 0 [fLenStep 23 0 rws 1 16777215 64], row1 "LYR_Ln_STRIDE1" 0x60 0 [fLenStep 23 0 rws 1 16777215 64],
  row1 "LYR_Ln_SURF_SIZE" 0x64 0 [fLen 14 0 rws 1 16384, fLen 30 16 rws 1 16384],
  row1 "LYR_Ln_SRC_POS" 0x68 0 [{ fAny 14 0 rws with max := 16383 }, { fAny 30 16 rws with max := 16383 }],
  row1 "LYR_Ln_SRC_SIZE" 0x6C 0 [fLen 14 0 rws 1 16384, fLen 30 16 rws 1 16384],
  row1 "LYR_Ln_DST_POS" 0x70 0 [{ fAny 15 0 rws with max := 32767 }, { fAny 31 16 rws with max := 18431 }],
  row1 "LYR_Ln_DST_SIZE" 0x74 0 [fLen 15 0 rws 1 32768, fLen 31 16 rws 1 18432],
  row1 "LYR_Ln_SCALE" 0x78 2 [fLen 2 0 rws 2 6],
  row1 "LYR_Ln_TILE" 0x7C 0 [{ fAny 2 0 rws with max := 4 }, { fAny 5 4 rws with max := 2 }],
  row1 "LYR_Ln_PEAK" 0x80 0x3E8 [fRng 13 0 rws 1 10000], row1 "LYR_Ln_CONST" 0x84 0x3FF [fAny 9 0 rws],
  row1 "LYR_Ln_TOKEN" 0x88 0 [fAny 15 0 rws], row1 "LYR_Ln_DONE" 0x8C 0 [fAny 15 0 rw], row1 "LYR_Ln_STATUS" 0x90 0 [fAny 2 0 ro, fAny 6 4 ro, fAny 31 16 ro],
  counters "LYR_Ln_STAT" 0x100 4, rowF "LYR_Ln_HCOEF" 0x800 4 256 bilinearH rwsW,
  rowF "LYR_Ln_VCOEF" 0xC00 0x10 64 (fun i => bilinearV (4 * i)) rwsW,
  rowF "LYR_Ln_VCOEF1" 0xC04 0x10 64 (fun i => bilinearV (4 * i + 1)) rwsW,
  rowF "LYR_Ln_VCOEF2" 0xC08 0x10 64 (fun i => bilinearV (4 * i + 2)) rwsW,
  rowN "LYR_Ln_VCOEF3" 0xC0C 0x10 64 0 []]

/-- BLT page (R295, R296). -/
def rowsBlt : List RegRow := [
  row1 "BLT_CTRL" 0x40 0 [fAny 0 0 rw], row1 "BLT_RING_LO" 0x44 0 [fAlign rw 64], row1 "BLT_RING_HI" 0x48 0 rwW,
  row1 "BLT_RING_SIZE" 0x4C 1 [fLen 12 0 rw 1 4096], row1 "BLT_RING_TAIL" 0x50 0 [fAny 11 0 rw],
  row1 "BLT_RING_HEAD" 0x54 0 [fAny 11 0 ro], row1 "BLT_STATUS" 0x58 0 [fAny 1 0 ro, fAny 31 16 ro], row1 "BLT_RELEASE" 0x5C 0 [fAny 0 0 wo],
  row1 "BLT_PACE" 0x60 0x06420168 [fAny 15 0 rw, fAny 17 16 rw, fAny 31 20 rw], row1 "BLT_PACE_EFF" 0x64 0x168 [fAny 15 0 ro],
  row1 "BLT_WIN_BASE_LO" 0x68 0 [fAlign prw 4096], row1 "BLT_WIN_BASE_HI" 0x6C 0 [fAny 31 0 prw],
  row1 "BLT_WIN_LIMIT_LO" 0x70 0 [fAlign prw 4096], row1 "BLT_WIN_LIMIT_HI" 0x74 0 [fAny 31 0 prw],
  counters "BLT_STAT" 0x100 6]

/-- PNL link page (R325). -/
def rowsPnlLink : List RegRow := [
  row1 "PNL_LINK_CTRL" 0x40 0 [fAny 0 0 rw], row1 "PNL_LINK_CFG" 0x44 0x2000 [fLenStep 13 0 rws 256 8192 64],
  row1 "PNL_LINK_STATUS" 0x48 0 [fAny 2 0 ro, fAny 7 4 ro], counters "PNL_STAT" 0x100 5]

/-- PNL LCD drive page (R326). -/
def rowsPnlLcd : List RegRow := [
  row1 "PNL_LCD_CTRL" 0x40 1 [{ fAny 1 0 rws with max := 2 }, fAny 4 4 rws, fAny 5 5 rws],
  row1 "PNL_GATE_CFG" 0x44 0x20424 [fLen 3 0 rws 2 8, fAny 6 4 rws, fLen 15 8 rws 1 255, fLen 19 16 rws 1 15],
  row1 "PNL_GATE_COLS" 0x48 0x82000400 [fAny 15 0 rws, fAny 31 16 rws],
  row1 "PNL_OD_LOAD_LO" 0x4C 0 [fAlign rw 64], row1 "PNL_OD_LOAD_HI" 0x50 0 rwW,
  row1 "PNL_OD_LOAD_CTRL" 0x54 0 [fAny 0 0 rw, fAny 31 31 w1s], row1 "PNL_OD_STAT" 0x58 0 [fAny 2 0 ro, fAny 6 4 ro, fAny 31 16 ro],
  row1 "PNL_RW_ADDR" 0x5C 0 [fAny 15 0 rw, fAny 23 16 rw, fAny 27 24 rw], row1 "PNL_RW_DATA" 0x60 0 rwW,
  row1 "PNL_RW_CTRL" 0x64 0x4000 [fAny 0 0 w1s, fAny 14 8 ro], counters "PNL_LCD_STAT" 0x100 3]

/-- PNL lens drive page (R327). -/
def rowsPnlLens : List RegRow := [
  row1 "PNL_LNS_CTRL" 0x40 0x600 [fAny 0 0 rws, fLen 14 8 rws 1 64],
  row1 "PNL_LNS_GRID" 0x44 0x200040 [fLen 6 0 rws 1 64, fLen 21 16 rws 1 32], row1 "PNL_LNS_STAT" 0x48 0 [fAny 11 0 ro, fAny 27 16 ro, fAny 30 28 ro],
  rowN "PNL_LNS_SEL" 0x100 4 32 0 rwW, rowN "PNL_LNS_STEADY" 0x180 4 32 0 [fAny 19 0 rw],
  rowN "PNL_LNS_TARGET" 0x400 4 128 0xFFFFFFFF rwsW, rowN "PNL_LNS_STATE" 0x600 4 128 0xFFFFFFFF roW,
  rowN "PNL_LNS_RUN" 0x800 4 64 0 roW, counters "PNL_LNS_STAT_CNT" 0xA00 4]

/-- PNL waveform window (R328); the words shown are those of the waveform in PNL_WF_SEL. -/
def rowsPnlWave : List RegRow := [
  row1 "PNL_WF_SEL" 0x40 0 [fAny 6 0 rw], row1 "PNL_WF_HDR" 0x44 0 [fLen 6 0 rw 1 64, fAny 31 31 rw],
  rowN "PNL_WF_STEP" 0x100 4 64 0 [fAny 19 0 rw]]

/-- PNL power and crack page (R329). -/
def rowsPnlPower : List RegRow := [
  row1 "PNL_PWR_CTRL" 0x40 0 [fAny 2 0 w1s], row1 "PNL_PWR_STATE" 0x44 0 [fAny 2 0 ro, fAny 10 8 ro, fAny 16 16 ro],
  row1 "PNL_DISCH_CFG" 0x48 8 [fLen 4 0 prw 1 16],
  rowN "PNL_RAIL" 0x50 4 6 0x01010000 [fAny 6 0 prw, fAny 8 8 prw, fAny 23 16 prw, fAny 31 24 prw],
  rowF "PNL_CRACK_CFG" 0x70 4 4 (fun i => if i < 2 then 0x00190FA0 else 0x01190FA0)
    [fLen 15 0 rw 1 65535, fLen 23 16 rw 1 255, { fAny 25 24 prw with max := 2 }],
  rowN "PNL_CRACK_OHM" 0x80 4 4 0 roW, row1 "PNL_CRACK_STAT" 0x90 0 [fAny 3 0 ro]]

/-- BKL page (R348, R349). The identity sensor matrix is not given a unit in the manual (log entry 3). -/
def rowsBkl : List RegRow := [
  row1 "BKL_CTRL" 0x40 0x18 [fAny 0 0 rws, fAny 2 2 rws, fAny 3 3 rws, fAny 4 4 rws, fAny 5 5 rws, fAny 11 8 rws],
  row1 "BKL_GRID" 0x44 0x01200200 [fLen 9 0 rws 1 512, fLen 24 16 rws 18 288],
  row1 "BKL_SCAN" 0x48 0x07D00960 [fAny 12 0 rws, fAny 31 16 rws], row1 "BKL_DIM" 0x4C 0x00C02000 [fRng 15 0 rws 1 65535, fAny 23 16 rws],
  row1 "BKL_LEVEL" 0x50 0x100 [fRng 9 0 rws 1 1023, fAny 31 16 rws],
  row1 "BKL_DERATE" 0x54 0x8000143C [{ fAny 7 0 rws with max := 125 }, fRng 15 8 rws 1 255, fRng 31 16 rws 1 65535],
  row1 "BKL_FADE" 0x58 0x10000 [{ fAny 16 0 rw with max := 65536 }, { fAny 30 17 rw with max := 10000 }, fAny 31 31 w1s],
  row1 "BKL_WP_TARGET" 0x5C 0x40004000 [fRng 15 0 rws 1 65535, fRng 31 16 rws 1 65535],
  row1 "BKL_WP_CFG" 0x60 0x0100FF10 [fAny 7 0 rws, fAny 15 8 rws, fAny 31 16 rws],
  rowN "BKL_SENS_ADDR" 0x64 4 2 0 [fAny 6 0 rw, fAny 14 8 rw, fAny 22 16 rw, fAny 30 24 rw],
  row1 "BKL_CH_REQ" 0x6C 0 [{ fAny 5 0 rw with max := 35 }, fAny 9 8 w1s], row1 "BKL_STATUS" 0x70 0 [fAny 3 0 ro, fAny 15 8 ro, fAny 18 16 ro],
  row1 "BKL_FADE_NOW" 0x74 0x10000 [fAny 16 0 ro], row1 "BKL_DERATE_NOW" 0x78 0x10000 [fAny 16 0 ro, fAny 31 24 ro],
  row1 "BKL_CH_FENCED_LO" 0x7C 0 roW, row1 "BKL_CH_FENCED_HI" 0x80 0 [fAny 3 0 ro], counters "BKL_STAT" 0x100 4,
  rowN "BKL_SENS_MAT0" 0x200 0x14 8 0x4000 rwW, rowN "BKL_SENS_MAT1" 0x204 0x14 8 0 rwW, rowN "BKL_SENS_MAT2" 0x208 0x14 8 0x4000 rwW,
  rowN "BKL_SENS_MAT3" 0x20C 0x14 8 0 rwW, rowN "BKL_SENS_MAT4" 0x210 0x14 8 0x4000 [fAny 15 0 rw],
  rowN "BKL_SENS_READ" 0x300 4 8 0 [fAny 16 0 ro], rowF "BKL_PSF" 0x400 4 81 (fun i => if i = 0 then 65535 else 0) [fAny 15 0 rws]]

end Sys2Proof.Machine
end

