-- ==== Sys2Proof/Machine/RegMapC.lean ====
section
/-! DEFINITION. The offset tables and field maps of groups NPA to SVC: R379-R383, R397-R398, R425-R428, R441,
R467-R470, R491, R508. -/

namespace Sys2Proof.Machine
open FieldKind

/-- NPx port page (R379). -/
def rowsNpPort : List RegRow := [
  row1 "NPx_PORT_CTRL" 0x40 4 [fAny 0 0 rw, fAny 1 1 rw, fAny 2 2 rw, fAny 3 3 rw, fAny 4 4 rw],
  row1 "NPx_VLAN" 0x44 0 [fAny 11 0 rw], row1 "NPx_MAC_LO" 0x48 0 rwW, row1 "NPx_MAC_HI" 0x4C 0 [fAny 15 0 rw],
  row1 "NPx_MTU" 0x50 0x2400 [fLen 13 0 rw 1518 9216], row1 "NPx_KST_PORT" 0x54 0x1CE8 [fRng 15 0 rw 1 65535],
  row1 "NPx_LOSS" 0x58 0x32 [fRng 9 0 rw 10 1000], row1 "NPx_PORT_STATUS" 0x5C 0 [fAny 4 0 ro],
  row1 "NPx_HRX_LO" 0x70 0 [fAlign rw 64], row1 "NPx_HRX_HI" 0x74 0 rwW, row1 "NPx_HRX_SIZE" 0x78 1 [fLen 12 0 rw 1 4096],
  row1 "NPx_HRX_TAIL" 0x7C 0 [fAny 11 0 rw], row1 "NPx_HRX_HEAD" 0x80 0 [fAny 11 0 ro],
  row1 "NPx_HTX_LO" 0x84 0 [fAlign rw 64], row1 "NPx_HTX_HI" 0x88 0 rwW, row1 "NPx_HTX_SIZE" 0x8C 1 [fLen 12 0 rw 1 4096],
  row1 "NPx_HTX_TAIL" 0x90 0 [fAny 11 0 rw], row1 "NPx_HTX_HEAD" 0x94 0 [fAny 11 0 ro],
  counters "NPx_STAT" 0x100 16, rowN "NPx_MGMT_PORT" 0x200 4 16 0 [fAny 15 0 rw, fAny 16 16 rw, fAny 17 17 rw]]

/-- NPx policer page (R380). The threshold of POL_CONG is a size, so that 0 is VALUE_RANGE (R57; log entry 173). -/
def rowsNpPol : List RegRow := [
  row1 "NPx_POL_CONG" 0x40 0x200 [fRng 15 0 rw 1 4096],
  rowN "NPx_POL_CIR" 0x100 0x20 64 0x2710 [fRng 18 0 rw 1 400000], rowN "NPx_POL_CBS" 0x104 0x20 64 0x10000 [fLen 23 0 rw 1 16777215],
  rowN "NPx_POL_PIR" 0x108 0x20 64 0x4E20 [fRng 18 0 rw 1 400000], rowN "NPx_POL_PBS" 0x10C 0x20 64 0x20000 [fLen 23 0 rw 1 16777215],
  rowN "NPx_POL_CTRL" 0x110 0x20 64 0 [fAny 0 0 rw], rowN "NPx_POL_STAT_GREEN" 0x114 0x20 64 0 roW,
  rowN "NPx_POL_STAT_YELLOW" 0x118 0x20 64 0 roW, rowN "NPx_POL_STAT_DROP" 0x11C 0x20 64 0 roW]

/-- NPx queue and shaper page (R381). -/
def rowsNpQ : List RegRow := [
  row1 "NPx_EG_MAP" 0x40 0xF0D [fAny 3 0 rw, fAny 11 8 rw],
  rowF "NPx_Q_CFG" 0x100 0x20 16 (fun q => q / 2 + 0x1000) [fAny 2 0 rw, fRng 15 8 rw 1 255, fAny 16 16 rw],
  rowN "NPx_Q_CIR" 0x104 0x20 16 0x61A80 [fRng 18 0 rw 1 400000], rowN "NPx_Q_CBS" 0x108 0x20 16 0x10000 [fLen 23 0 rw 1 16777215],
  rowN "NPx_Q_PIR" 0x10C 0x20 16 0x61A80 [fRng 18 0 rw 1 400000], rowN "NPx_Q_PBS" 0x110 0x20 16 0x4000 [fLen 23 0 rw 1 16777215],
  rowN "NPx_Q_CBKT" 0x114 0x20 16 0x10000 roW, rowN "NPx_Q_PBKT" 0x118 0x20 16 0x4000 roW, rowN "NPx_Q_STAT_TX" 0x11C 0x20 16 0 roW,
  rowN "NPx_Q_DROP" 0x400 4 16 0 roW]

/-- NPx gate-list page (R382). -/
def rowsNpGcl : List RegRow := [
  row1 "NPx_GCL_CTRL" 0x40 0 [fAny 0 0 rw, fAny 30 30 w1s, fAny 31 31 w1s],
  row1 "NPx_GCL_CYCLE" 0x44 0x3E8 [fRng 31 0 rw 1000 1000000000], row1 "NPx_GCL_LEN" 0x48 1 [fLen 8 0 rw 1 256],
  row1 "NPx_GCL_BASE_SEC_LO" 0x4C 0 rwW, row1 "NPx_GCL_BASE_SEC_HI" 0x50 0 rwW,
  row1 "NPx_GCL_BASE_NS" 0x54 0 [{ fAny 29 0 rw with max := 999999999 }], row1 "NPx_GCL_STAT" 0x58 0 [fAny 2 0 ro, fAny 15 8 ro],
  row1 "NPx_GCL_START_SEC_LO" 0x5C 0 roW, row1 "NPx_GCL_START_SEC_HI" 0x60 0 roW, row1 "NPx_GCL_START_NS" 0x64 0 roW,
  row1 "NPx_GCL_STAT_OVERSIZE" 0x100 0 roW, rowN "NPx_GCL_ENTRY" 0x800 4 512 0 [fAny 7 0 rw, fLen 31 8 rw 1 16777215]]

/-- NPx time-stamping and PTP page (R398). -/
def rowsNpPtp : List RegRow := [
  row1 "NPx_PTP_CTRL" 0x40 0x7F0A [fAny 0 0 rw, { fAny 2 1 rw with max := 2 }, fAny 3 3 rw, fAny 4 4 rw, fAny 5 5 rw,
    { fAny 15 8 rw with max := 127 }],
  row1 "NPx_PTP_TIMEOUT" 0x44 0x70303 [fRng 3 0 rw 2 10, fRng 11 8 rw 2 15, fLen 20 16 rw 1 31],
  row1 "NPx_TS_RX_LAT" 0x48 0 [fAny 23 0 rw], row1 "NPx_TS_TX_LAT" 0x4C 0 [fAny 23 0 rw], row1 "NPx_PTP_ASYM" 0x50 0 rwW,
  row1 "NPx_PTP_STATUS" 0x54 0 [fAny 2 0 ro, fAny 9 8 ro], row1 "NPx_PTP_OFFSET" 0x58 0 roW, row1 "NPx_PTP_DELAY" 0x5C 0 roW,
  row1 "NPx_PTP_PARENT_LO" 0x60 0 roW, row1 "NPx_PTP_PARENT_HI" 0x64 0 roW, row1 "NPx_PTP_PARENT_PORT" 0x68 0 [fAny 15 0 ro],
  row1 "NPx_PTP_GM_ID_LO" 0x6C 0 roW, row1 "NPx_PTP_GM_ID_HI" 0x70 0 roW, row1 "NPx_PTP_GM_QUALITY" 0x74 0 roW,
  counters "NPx_PTP_STAT" 0x100 7]

/-- FOV page (R383). -/
def rowsFov : List RegRow := [
  row1 "FOV_CTRL" 0x40 1 [fAny 0 0 rw, fAny 8 8 w1s, fAny 9 9 w1s], row1 "FOV_STATUS" 0x48 0 [fAny 6 0 ro, fAny 12 8 ro],
  row1 "FOV_LAST_SWITCH" 0x4C 0 [fAny 4 0 ro, fAny 31 16 ro], row1 "FOV_SW_PHASES" 0x50 0 roW, row1 "FOV_SNAP_FRAME" 0x54 0 roW,
  row1 "FOV_CFG_DIGEST_A" 0x58 0 roW, row1 "FOV_CFG_DIGEST_B" 0x5C 0 roW, rowN "FOV_IP6" 0x100 4 16 0 rwW,
  row1 "FOV_IP4" 0x140 0 rwW, row1 "FOV_ADDR_VALID" 0x144 0 [fAny 3 0 rw, fAny 4 4 rw], counters "FOV_STAT" 0x200 5]

/-- TIM page (R397). -/
def rowsTim : List RegRow := [
  row1 "TIM_CTRL" 0x40 7 [fAny 0 0 rw, fAny 1 1 rw, fAny 2 2 rw, fAny 3 3 rw],
  row1 "TIM_STEP" 0x44 0x3E8 [fLen 19 0 rw 100 1000000], row1 "TIM_LOCK" 0x48 0x10001E [fLen 15 0 rw 1 65535, fLen 23 16 rw 1 255],
  row1 "TIM_SERVO" 0x4C 0x0CCD059A [fAny 15 0 rw, fAny 31 16 rw], row1 "TIM_HOLD" 0x50 0x10 [fLen 7 0 rw 1 255],
  row1 "TIM_XO_CHAN" 0x54 0 [fAny 3 0 rw, fAny 8 8 rw], row1 "TIM_STATUS" 0x58 0 [fAny 3 0 ro],
  row1 "TIM_NOW_SEC_LO" 0x5C 0 roW, row1 "TIM_NOW_SEC_HI" 0x60 0 roW, row1 "TIM_NOW_NS" 0x64 0 roW, row1 "TIM_NOW_FRAC" 0x68 0 [fAny 15 0 ro],
  row1 "TIM_OFFSET" 0x6C 0 roW, row1 "TIM_RATE" 0x70 0 roW, row1 "TIM_HOLD_SEC" 0x74 0 roW, row1 "TIM_UTC" 0x78 0 [fAny 18 0 ro],
  row1 "TIM_XO_T" 0x7C 0 [fAny 7 0 ro], row1 "TIM_XO_VALID" 0x80 0 rwW, rowN "TIM_XO_BIN" 0x100 4 32 0 rwW, counters "TIM_STAT" 0x200 4]

/-- DMC channel page (R425). -/
def rowsDmc : List RegRow := [
  row1 "DMC_CH_CTRL" 0x40 0x103 [fAny 0 0 rw, fAny 1 1 rw, fAny 8 8 rw],
  row1 "DMC_CH_WQ" 0x44 0x1030 [{ fLen 5 0 rw 2 64 with max := 63 }, fAny 13 8 rw],
  row1 "DMC_CH_RH" 0x48 0x32080800 [fLen 15 0 rw 256 32768, fLen 23 16 rw 1 255, fAny 31 24 rw],
  row1 "DMC_CH_STATUS" 0x4C 0 [fAny 3 0 ro, fAny 17 8 ro, fAny 24 20 ro], row1 "DMC_CH_TEMP" 0x50 0 [fAny 15 0 ro], row1 "DMC_CH_ERR_LO" 0x54 0 roW, row1 "DMC_CH_ERR_HI" 0x58 0 [fAny 5 0 ro],
  row1 "DMC_CH_ERR_INFO" 0x5C 0 [fAny 1 0 ro, fAny 31 8 ro], row1 "DMC_CH_SVC" 0x60 0 [fAny 15 0 ro], counters "DMC_CH_STAT" 0x100 13]

/-- DMC global page (R426). -/
def rowsDmcGlobal : List RegRow := [
  row1 "DMC_CFG" 0x40 0x255 [fRng 7 0 rw 80 95, fRng 15 8 rw 1 10],
  row1 "DMC_REFRESH" 0x44 0x103E8 [{ fAny 10 0 rw with max := 1500 }, fAny 16 16 rw],
  row1 "DMC_SCRUB" 0x48 0x04000018 [fAny 7 0 rw, fLen 31 16 rw 1 65535],
  row1 "DMC_TRAIN_CTRL" 0x4C 0 [fAny 0 0 rw, fAny 15 8 rw, fAny 16 16 w1s],
  row1 "DMC_TRAIN_IDX" 0x50 0 [{ fAny 3 0 rw with max := 11 }, { fAny 24 16 rw with max := 383 }],
  row1 "DMC_TRAIN_DATA" 0x54 0 rwW, row1 "DMC_TRAIN_STAT" 0x58 0 [fAny 11 0 ro, fAny 27 16 ro, fAny 31 31 ro], row1 "DMC_ACTIVE" 0x5C 0 [fAny 11 0 ro]]

/-- NVS global page (R427). -/
def rowsNvs : List RegRow := [
  row1 "NVS_CTRL" 0x40 0 [fAny 0 0 rw, fAny 1 1 rw], row1 "NVS_FB_SESSION" 0x44 0 [fAny 5 0 rw], row1 "NVS_FB_SEG" 0x48 0 rwW,
  row1 "NVS_FB_TIME" 0x4C 0x07D001F4 [fAny 15 0 rw, fAny 31 16 rw], row1 "NVS_SEGW_LO" 0x50 0 [fAlign rw 64],
  row1 "NVS_SEGW_HI" 0x54 0 rwW, row1 "NVS_SEGW_LEN" 0x58 0 [fLen 31 0 rw 64 4294967295],
  row1 "NVS_SEGW_CTRL" 0x5C 0 [fAny 31 31 w1s, fAny 30 16 ro, fAny 0 0 ro], row1 "NVS_SEGW_NUM" 0x60 0 roW,
  row1 "NVS_SEGOP" 0x64 0 [{ fAny 1 0 rw with max := 1 }, fAny 31 31 w1s], row1 "NVS_SEGOP_NUM" 0x68 0 rwW,
  rowN "NVS_SEGOP_R" 0x6C 4 3 0 roW, row1 "NVS_SEGOP_R3" 0x78 0 [fAny 1 0 ro], row1 "NVS_FREE" 0x80 0 roW, row1 "NVS_SEGMENTS" 0x84 0 roW,
  rowN "NVS_PB_CTRL" 0x200 0x20 4 0 [fAny 5 0 rw, fAny 8 8 rw, fAny 9 9 rw, fAny 30 30 w1s, fAny 31 31 w1s],
  rowN "NVS_PB_SEG" 0x204 0x20 4 0 rwW, rowN "NVS_PB_COUNT" 0x208 0x20 4 1 [fLen 15 0 rw 1 65535],
  rowN "NVS_PB_START_LO" 0x20C 0x20 4 0 rwW, rowN "NVS_PB_START_HI" 0x210 0x20 4 0 rwW,
  rowN "NVS_PB_LEAD" 0x214 0x20 4 2 [fLen 3 0 rw 1 8], rowN "NVS_PB_STAT" 0x218 0x20 4 0 [fAny 1 0 ro, fAny 31 16 ro], rowN "NVS_PB_FRAME" 0x21C 0x20 4 0 roW]

/-- NVS drive page (R428). -/
def rowsNvsDrive : List RegRow := [
  row1 "NVS_D_CTRL" 0x40 0 [fAny 0 0 w1s], row1 "NVS_D_STATUS" 0x44 0 [fAny 11 0 ro], row1 "NVS_D_CAP" 0x48 0 roW,
  row1 "NVS_D_USED" 0x4C 0 roW, row1 "NVS_D_HEALTH" 0x50 0 [fAny 23 0 ro], counters "NVS_D_STAT" 0x100 5]

/-- LNK global page (R441). -/
def rowsLnk : List RegRow := [
  row1 "LNK_CTRL" 0x40 2 [fAny 0 0 rw, fAny 1 1 rw], row1 "LNK_SCAN_CFG" 0x44 7 [fRng 3 0 rw 6 9, fAny 15 8 rw],
  rowN "LNK_READY" 0x48 4 2 0 roW, row1 "LNK_READY2" 0x50 0 [fAny 19 0 ro], counters "LNK_STAT" 0x100 3]

/-- A page of lane blocks (R441); lanes beyond 83 of page 4 have no block. -/
def rowsLnkLanes (n : Nat) : List RegRow := [
  rowN "LNK_Ln_CTRL" 0x400 0x80 n 0x100 [fAny 1 0 rw, fAny 5 4 rw, fAny 6 6 rw, fAny 8 8 rw, fAny 16 16 w1s, fAny 31 31 w1s],
  rowN "LNK_Ln_STATUS" 0x404 0x80 n 0 [fAny 6 0 ro, fAny 17 16 ro],
  rowN "LNK_Ln_TXEQ" 0x408 0x80 n 0x83304 [{ fAny 5 0 rw with max := 15 }, fRng 13 8 rw 24 63, { fAny 21 16 rw with max := 31 }],
  rowN "LNK_Ln_TXEQ_NOW" 0x40C 0x80 n 0x83304 [fAny 5 0 ro, fAny 13 8 ro, fAny 21 16 ro], rowN "LNK_Ln_RXEQ0" 0x410 0x80 n 0x1008 [fAny 4 0 rw, fAny 12 8 rw],
  rowN "LNK_Ln_RXEQ1" 0x414 0x80 n 0 rwW, rowN "LNK_Ln_RXEQ0_NOW" 0x418 0x80 n 0x1008 [fAny 4 0 ro, fAny 12 8 ro], rowN "LNK_Ln_RXEQ1_NOW" 0x41C 0x80 n 0 roW,
  rowN "LNK_Ln_EYE" 0x420 0x80 n 0 roW, rowN "LNK_Ln_EYE_INFO" 0x424 0x80 n 0 [fAny 23 0 ro], rowN "LNK_Ln_PRBS_ERR" 0x428 0x80 n 0 roW,
  rowN "LNK_Ln_PRBS_BITS" 0x42C 0x80 n 0 roW, rowN "LNK_Ln_STAT_FAULTS" 0x430 0x80 n 0 roW]

/-- MGT page (R467). -/
def rowsMgt : List RegRow := [
  row1 "MGT_MG_STATUS" 0x40 0 [fAny 24 0 ro], row1 "MGT_CPX_CTRL" 0x44 0x03E80000 [fAny 0 0 w1s, fAny 31 16 rw],
  row1 "MGT_CPX_STATUS" 0x48 0 [fAny 1 0 ro, fAny 15 8 ro], row1 "MGT_CPX_KICK" 0x4C 0 [fAny 0 0 wo],
  rowN "MGT_MB_ADDR_LO" 0x100 0x20 2 0 [fAlign rw 64], rowN "MGT_MB_ADDR_HI" 0x104 0x20 2 0 rwW,
  rowN "MGT_MB_LEN" 0x108 0x20 2 0 [fLen 15 0 rw 4 65535], rowN "MGT_MB_RLEN" 0x10C 0x20 2 0 [fAny 15 0 rw],
  rowN "MGT_MB_CTRL" 0x110 0x20 2 0 [fAny 0 0 w1s, fAny 1 1 ro, fAny 2 2 w1c], rowN "MGT_MB_STATUS" 0x114 0x20 2 0 roW]

/-- PWR page (R468). -/
def rowsPwr : List RegRow := [
  row1 "PWR_DOM_ON0" 0x40 3 [fAny 0 0 ro, fAny 31 1 prw], row1 "PWR_DOM_ON1" 0x44 0 [fAny 2 0 prw],
  row1 "PWR_DOM_STAT0" 0x48 3 roW, row1 "PWR_DOM_STAT1" 0x4C 0 [fAny 2 0 ro],
  row1 "PWR_SUP_CFG" 0x50 0x143FC438 [fAny 11 0 prw, fAny 23 12 prw, fLen 31 24 prw 1 255],
  row1 "PWR_SUP_TIME" 0x54 0x6414 [fAny 7 0 prw, fAny 23 8 prw], row1 "PWR_SUP_STAT" 0x58 0 [fAny 1 0 ro, fAny 27 16 ro], row1 "PWR_HOLD_CAP" 0x5C 0 [fAny 15 0 ro],
  row1 "PWR_HOLD_V" 0x60 0 [fAny 15 0 ro], row1 "PWR_HOLD_E" 0x64 0 roW, row1 "PWR_HOLD_RESERVE" 0x68 0x1388 [fAny 15 0 prw],
  row1 "PWR_HOLD_TEST" 0x6C 0x140A07D0 [fLen 11 0 prw 1 4095, fLen 23 16 prw 1 255, fLen 31 24 prw 1 255],
  rowF "PWR_STORE_EST" 0x70 4 4 (fun k => if k = 0 then 40 else if k = 1 then 600 else if k = 2 then 1200 else 1500) [fAny 15 0 prw],
  row1 "PWR_PMB_CFG" 0x80 0x103 [fAny 0 0 prw, fAny 1 1 prw, { fAny 9 8 prw with max := 1 }],
  rowN "PWR_REG" 0x100 4 16 0x01010100 [fAny 6 0 prw, fAny 8 8 prw, fAny 9 9 prw, fAny 15 12 prw, fAny 23 16 prw, fAny 31 24 prw],
  rowN "PWR_REG_STAT" 0x140 4 16 0 roW, counters "PWR_STAT" 0x200 4]

/-- THM page (R469). -/
def rowsThm : List RegRow := [
  row1 "THM_CTRL" 0x40 0x3601 [fAny 0 0 rw, fLen 11 8 rw 1 15, fLen 15 12 rw 1 15], row1 "THM_TRIP" 0x44 0x69645F5A [fAny 31 0 prw],
  row1 "THM_CRIT" 0x48 0x3766C [fAny 7 0 prw, fAny 15 8 prw, fLen 23 16 prw 1 20],
  row1 "THM_GRACE" 0x4C 0xA07D0 [fAny 15 0 prw, fRng 31 16 prw 1 600], row1 "THM_REQ" 0x50 0 [fAny 2 0 ro, fAny 6 4 ro, fAny 16 8 ro],
  rowF "THM_LVL" 0x54 4 4 (fun k => if k = 0 then 0x5A0185DC else if k = 1 then 0x50010546 else if k = 2 then 0x410084B0 else 0x320043E8)
    [fRng 11 0 prw 500 1500, fLen 17 12 prw 1 32, fRng 31 24 prw 10 100],
  row1 "THM_BAND_CFG" 0x64 0x10300 [fAny 3 0 rw, fAny 4 4 rw, fAny 10 8 rw, fLen 19 16 rw 1 15],
  row1 "THM_BAND_T0" 0x68 0x1E140A00 rwW, row1 "THM_BAND_T1" 0x6C 0x3C3228 [fAny 23 0 rw], row1 "THM_BAND" 0x70 3 [fAny 2 0 ro, fAny 15 8 ro],
  row1 "THM_BROKEN0" 0x74 0 roW, row1 "THM_BROKEN1" 0x78 0 [fAny 23 0 ro], row1 "THM_EXT_BROKEN" 0x7C 0 [fAny 15 0 ro],
  row1 "THM_SENS_CLR" 0x80 0 [fAny 0 0 w1s], row1 "THM_ROUNDS" 0x84 0 roW, rowN "THM_CH" 0x200 4 128 0 [fAny 18 0 ro],
  rowN "THM_EXT_CFG" 0x400 4 16 0 [{ fAny 1 0 rw with max := 2 }, fAny 15 4 rw, fAny 31 16 rw]]

/-- CAL page (R470). -/
def rowsCal : List RegRow := [
  row1 "CAL_CTRL" 0x40 0 [fAny 2 0 rw], row1 "CAL_STATUS" 0x44 0 [fAny 9 0 ro, fAny 31 16 ro], row1 "CAL_TEMP0" 0x48 0 roW, row1 "CAL_TEMP1" 0x4C 0 roW,
  row1 "CAL_CAP_STAT" 0x50 0 [fAny 0 0 ro, fAny 31 16 ro], counters "CAL_STAT" 0x100 3]

/-- SEC page (R491). -/
def rowsSec : List RegRow := [
  row1 "SEC_LIFECYCLE" 0x40 0 [fAny 1 0 ro, fAny 10 8 ro], row1 "SEC_CERTIFIED" 0x44 0 [fAny 8 0 ro], rowN "SEC_BOOT_NONCE" 0x48 4 4 0 roW,
  rowN "SEC_SEQ" 0x58 4 4 0 roW, rowN "SEC_ARB" 0x68 4 3 0 [fAny 6 0 ro], row1 "SEC_SLOTS" 0x74 0 [fAny 2 0 ro, fAny 6 4 ro, fAny 10 8 ro, fAny 21 16 ro], row1 "SEC_OWNER" 0x78 0 [fAny 7 0 ro],
  row1 "SEC_KEYREV" 0x7C 0 roW, row1 "SEC_SELFTEST" 0x80 0 [fAny 3 0 ro], row1 "SEC_KAT_CTRL" 0x84 0 [fAny 0 0 w1s],
  row1 "SEC_RCV_CTRL" 0x88 0 [fAny 0 0 w1s, fAny 1 1 w1s, fAny 31 16 ro], row1 "SEC_RCV_DATA" 0x8C 0 [fAny 31 0 wo],
  rowN "SEC_DIGEST" 0x100 4 32 0 roW, counters "SEC_STAT" 0x200 5, rowN "SEC_KEYGEN" 0x400 4 64 0 [fAny 15 0 ro]]

/-- SVC page (R508). A unit whose domain is off is OFF (R493). -/
def rowsSvc : List RegRow := [
  row1 "SVC_CTRL" 0x40 0x301 [fAny 0 0 prw, fAny 1 1 prw, fAny 2 2 prw, fLen 11 8 prw 1 15],
  row1 "SVC_UNIT_REQ" 0x44 0 [{ fAny 7 0 rw with max := 172 }, fAny 10 8 w1s], row1 "SVC_STATUS" 0x48 0 [fAny 0 0 ro, fAny 15 8 ro, fAny 23 16 ro, fAny 31 24 ro],
  row1 "SVC_BIST_LAST" 0x4C 0 roW, rowN "SVC_LOG_POS" 0x50 4 4 0 roW, row1 "SVC_LOG_STAGED" 0x60 0 [fAny 8 0 ro, fAny 31 16 ro],
  rowN "SVC_LOG_CHAIN" 0x80 4 8 0 roW, counters "SVC_STAT" 0x100 6, rowN "SVC_UNIT" 0x400 4 173 5 [fAny 2 0 ro, fAny 15 4 ro]]

end Sys2Proof.Machine
end

