-- ==== Sys2Proof/Machine/RegMap.lean ====
section
/-! DEFINITION. The pages of the register space (R37, R43, R63), the look-up of the register a word belongs to (R39),
and the reset value of every word (R12). -/

namespace Sys2Proof.Machine

/-- A page with no capability and no service unit. -/
def page (code index domain events : Nat) (rows : List RegRow) : PageDef :=
  { code := code, index := index, inst := 0, domain := domain, shadow := false, group := false, fenceable := false,
    capBlock := 0, events := events, unit := none, rows := rows }

/-- A page enrolled in the device-wide commit group (R63). -/
def groupPage (p : PageDef) : PageDef := { p with shadow := true, group := true }

/-- The page of a service unit (R492). -/
def unitPage (p : PageDef) (inst unit : Nat) : PageDef := { p with inst := inst, fenceable := true, unit := some unit }

/-- A path die's five pages (R37); die 0 is A. -/
def pathPages (x : Nat) : List PageDef :=
  [page (0x10 + x) 0 (32 + x) 0x7F rowsNpPort, page (0x10 + x) 1 (32 + x) 0 rowsNpPol, page (0x10 + x) 2 (32 + x) 0 rowsNpQ,
   page (0x10 + x) 3 (32 + x) 0 rowsNpGcl, page (0x10 + x) 4 (32 + x) 7 rowsNpPtp].map (fun p => unitPage p x (169 + x))

/-- The pages of one register group, by block code (R37). R17 names no domain for the global page and the lane-page headers of LNK: they are
pages of domain 3 (log entry 170). -/
def groupPages (code : Nat) : List PageDef :=
  if code = 0x00 then [page 0 0 3 3 rowsDevId, page 0 1 3 3 rowsDevErr, page 0 2 3 0 rowsDevIntc]
  else if code = 0x01 then [groupPage (page 1 0 5 0xF3F rowsRasTiming), page 1 1 5 0xF rowsCrvCtrl,
    page 1 2 5 0 (rowsCrvEntries 0x100 240), page 1 3 5 0 (rowsCrvEntries 0x100 240)]
  else if code = 0x02 then [{ groupPage (page 2 0 14 0x7F rowsScn) with capBlock := 1228 }]
  else if code = 0x03 then [page 3 0 14 0xFF rowsIng]
  else if code = 0x04 then (List.range 8).map (fun n => unitPage (page 4 n 15 0xF rowsMbc) n (72 + n))
  else if code = 0x05 then [groupPage (page 5 0 17 7 rowsSynGlobal), groupPage (page 5 1 17 0 rowsSynLens),
    groupPage (page 5 2 17 0 rowsSynGrid)]
  else if code = 0x06 then (List.range 8).map (fun s => unitPage (page 6 s (6 + s) 7 rowsSlc) s (64 + s))
  else if code = 0x07 then [{ page 7 0 16 0x1F rowsBrc with shadow := true }, page 7 1 16 7 rowsOasis]
  else if code = 0x08 then [page 8 0 17 0xFF rowsPlc]
  else if code = 0x09 then groupPage (page 9 0 18 0x3F rowsLyrGlobal)
    :: (List.range 7).map (fun n => unitPage (groupPage (page 9 (n + 1) 18 0 rowsLyrLayer)) (n + 1) (112 + n))
  else if code = 0x0A then [page 0xA 0 19 0xF rowsBlt]
  else if code = 0x0B then [{ page 0xB 0 20 3 rowsPnlLink with shadow := true }, { page 0xB 1 21 7 rowsPnlLcd with shadow := true },
    groupPage (page 0xB 2 22 3 rowsPnlLens), page 0xB 3 22 0 rowsPnlWave, page 0xB 4 21 0xF rowsPnlPower]
  else if code = 0x0C then [groupPage (page 0xC 0 23 0x1F rowsBkl)]
  else if code = 0x10 then pathPages 0
  else if code = 0x11 then pathPages 1
  else if code = 0x12 then [page 0x12 0 34 0x3F rowsFov]
  else if code = 0x13 then [page 0x13 0 5 3 rowsTim]
  else if code = 0x14 then (List.range 12).map (fun c => unitPage (page 0x14 c (24 + c / 2) 0xFF rowsDmc) c (119 + c))
  else if code = 0x15 then page 0x15 0 30 0x3F rowsNvs
    :: (List.range 2).map (fun d => unitPage (page 0x15 (d + 1) 30 7 rowsNvsDrive) d (131 + d))
  else if code = 0x16 then page 0x16 0 3 0xF rowsLnk
    :: ([24, 24, 24, 12].zipIdx).map (fun k => page 0x16 (k.2 + 1) 3 0 (rowsLnkLanes k.1))
  else if code = 0x17 then [page 0x17 0 31 0 []]
  else if code = 0x18 then [page 0x18 0 1 0xF rowsMgt]
  else if code = 0x19 then [page 0x19 0 0 0x3F rowsPwr]
  else if code = 0x1A then [page 0x1A 0 0 0x3F rowsThm]
  else if code = 0x1B then [page 0x1B 0 0 7 rowsCal]
  else if code = 0x1C then [page 0x1C 0 4 0x7F rowsSec]
  else if code = 0x1D then [page 0x1D 0 1 0xF rowsSvc]
  else []

/-- The global DMC page stands at index 15 of its group (R37), in domain 3 (log entry 138). -/
def dmcGlobalPage : PageDef := page 0x14 15 3 3 rowsDmcGlobal

/-- The page with block code `code` and page index `idx`, if the table of R37 lists one. -/
def pageDef (code idx : Nat) : Option PageDef :=
  if code = 0x14 ∧ idx = 15 then some dmcGlobalPage
  else if code = 0x09 then (groupPages 9)[idx]?
  else (groupPages code)[idx]?

/-- The page that holds unprivileged address `a`. -/
def pageOf (a : Nat) : Option PageDef :=
  if a < 0x400000 then pageDef (a / 0x10000) (a / 0x1000 % 16) else none

/-- The unprivileged base address of a page. -/
def PageDef.base (p : PageDef) : Nat := p.code * 0x10000 + p.index * 0x1000

/-- All pages, in address order. -/
def allPages : List PageDef :=
  (List.range 30).flatMap (fun c => if c = 0x14 then groupPages c ++ [dmcGlobalPage] else groupPages c)

/-- Whether a row covers the word at page offset `off`, and with which index. -/
def RegRow.index? (r : RegRow) (off : Nat) : Option Nat :=
  if r.base ≤ off ∧ (off - r.base) % r.stride = 0 ∧ (off - r.base) / r.stride < r.count then some ((off - r.base) / r.stride)
  else none

/-- The row that covers page offset `off`, with the index within it. -/
def rowFor : List RegRow → Nat → Option (RegRow × Nat)
  | [], _ => none
  | r :: rs, off => match r.index? off with
    | some i => some (r, i)
    | none => rowFor rs off

/-- The offset of the last word a page's table lists; the header ends at 0x3C (R39, R42). -/
def PageDef.lastListed (p : PageDef) : Nat :=
  p.rows.foldl (fun m r => max m (r.base + r.stride * (r.count - 1))) 0x3C

/-- The reset value of the word at unprivileged address `a` (R12); header words reset to zero (R42). -/
def resetWord (a : Nat) : Word :=
  match pageOf a with
  | none => 0
  | some p => match rowFor p.rows (a % 0x1000) with
    | some (r, i) => BitVec.ofNat 32 (r.reset i)
    | none => 0

end Sys2Proof.Machine
end

