-- ==== Sys2Proof/Machine/Sparse.lean ====
section
/-! DEFINITION. The canonical sparse map that holds registers, DRAM bytes and other sparse data: keys strictly rising,
no entry equal to what an unlisted key reads as. -/

namespace Sys2Proof.Machine

/-- A sparse map: what an unlisted key reads as is a parameter of every operation. -/
abbrev Sparse (α : Type) := List (Nat × α)

/-- Read one key. -/
def Sparse.get {α : Type} (dflt : Nat → α) : Sparse α → Nat → α
  | [], k => dflt k
  | (k', v) :: m, k => if k = k' then v else Sparse.get dflt m k

/-- Put a key that is not listed into its place. -/
def Sparse.put {α : Type} : Sparse α → Nat → α → Sparse α
  | [], k, v => [(k, v)]
  | (k', v') :: m, k, v => if k < k' then (k, v) :: (k', v') :: m else (k', v') :: Sparse.put m k v

/-- Write one key, keeping the canonical form. -/
def Sparse.set {α : Type} [DecidableEq α] (dflt : Nat → α) (m : Sparse α) (k : Nat) (v : α) : Sparse α :=
  if v = dflt k then m.filter (fun e => e.1 != k) else Sparse.put (m.filter (fun e => e.1 != k)) k v

/-- The keys rise strictly and all lie at or above `lo`, and no entry holds its key's default. -/
def Sparse.wfFrom {α : Type} [DecidableEq α] (dflt : Nat → α) : Nat → Sparse α → Bool
  | _, [] => true
  | lo, (k, v) :: m => decide (lo ≤ k) && !decide (v = dflt k) && Sparse.wfFrom dflt (k + 1) m

/-- The canonical form. -/
def Sparse.wf {α : Type} [DecidableEq α] (dflt : Nat → α) (m : Sparse α) : Bool := Sparse.wfFrom dflt 0 m

/-- Drop every key that `p` picks; such keys then read as their default. -/
def Sparse.drop {α : Type} (p : Nat → Bool) (m : Sparse α) : Sparse α := m.filter (fun e => !p e.1)

end Sys2Proof.Machine
end

