-- ==== Sys2Proof/Machine/StateCore.lean ====
section
/-! DEFINITION. The parts of the state that belong to the raster, the Caravan, the log and the outside of the package. -/

namespace Sys2Proof.Machine

/-- A set of raster timing values (R80) with the synthesis horizon. -/
structure Timing where
  vactive : Nat
  vfront : Nat
  vsync : Nat
  vback : Nat
  hactive : Nat
  hfront : Nat
  hsync : Nat
  hback : Nat
  regions : Nat
  periodNs : Nat
  periodFrac : Nat
  horizon : Nat
  deriving DecidableEq, Repr

/-- VTOTAL (R80). -/
def Timing.vtotal (t : Timing) : Nat := t.vactive + t.vfront + t.vsync + t.vback
/-- HTOTAL (R80). -/
def Timing.htotal (t : Timing) : Nat := t.hactive + t.hfront + t.hsync + t.hback
/-- LATCH = VTOTAL - HORIZON (R86). -/
def Timing.latch (t : Timing) : Nat := t.vtotal - t.horizon
/-- The frame period in units of 2^-32 ns (R78). -/
def Timing.period (t : Timing) : Nat := t.periodNs * 2 ^ 32 + t.periodFrac
/-- The number of scan regions: 1, 2 or 4 (R80). -/
def Timing.regionCount (t : Timing) : Nat := 2 ^ t.regions

/-- The reference configuration, which is also the reset value (R4, R79). -/
def Timing.reset : Timing :=
  { vactive := 4608, vfront := 8, vsync := 4, vback := 20, hactive := 32768, hfront := 512, hsync := 256, hback := 1280,
    regions := 2, periodNs := 16666666, periodFrac := 0xAAAAAAAB, horizon := 64 }

/-- One EVT_OUT pin: its base level, its present level and the end of the pulse that runs on it (R96). -/
structure EvtPin where
  base : Bool
  level : Bool
  pulseEnd : Option Nat
  deriving DecidableEq, Repr

/-- The raster engine (R77-R92). Instants are monotonic time since reset in units of 2^-32 ns. -/
structure Ras where
  frame : Nat
  line : Nat
  lineStart : Nat
  frameStart : Nat
  latched : Bool
  timing : Timing
  nextTiming : Option Timing    -- a seamless or HORIZON change, acting from the next line 0 (R88, R91)
  newTiming : Option Timing     -- a timing change that waits for the retime step (R92)
  transDue : Option Nat         -- the frame whose line 0 starts step 1
  skipFade : Bool               -- the retime runs with the backlight off (R84)
  slew : Int                    -- what a frame's period is offset by to pull the phase in (R84), in 2^-32 ns
  step : Nat                    -- RAS_LOCK_STAT.STEP
  stepEnd : Option Nat          -- instant at which the running fade ends
  stepFrames : Nat              -- line-0 starts counted in the running step
  holdFrames : Nat              -- line-0 starts after which step 5 ends in FREE or HOLDOVER (R92)
  lock : Nat                    -- RAS_LOCK_STAT.STATE
  good : Nat                    -- consecutive line-0 starts with |PHASE_ERR| < 50 ns
  acquired : Bool               -- ACQUIRE has been entered since FREE
  latchReqs : List Nat          -- pages that commit by themselves whose request came before the start of line LATCH (R86, R87)
  commitDue : List Nat          -- pages whose request was pending at the latch edge (R61, R86)
  underruns : Nat               -- lines repeated on line LATCH, whose event comes with the latch edge (R89, R90)
  deriving DecidableEq, Repr

def Ras.reset : Ras :=
  { frame := 0, line := 0, lineStart := 0, frameStart := 0, latched := false, timing := Timing.reset, nextTiming := none,
    newTiming := none, transDue := none, skipFade := false, slew := 0, step := 0, stepEnd := none, stepFrames := 0, holdFrames := 1, lock := 0, good := 0,
    acquired := false, latchReqs := [], commitDue := [], underruns := 0 }

/-- The Caravan dispatcher (R96, R98); the entries themselves are registers. -/
structure Crv where
  pins : List EvtPin
  firedNow : List Nat           -- periodic entries whose occurrence in this frame is over
  waiting : List (Int × Nat)    -- stamps reached in earlier frames that wait for the dispatcher: instant, entry (R98)
  lastIssue : Option Nat        -- instant of the last dispatch
  deriving DecidableEq, Repr

def Crv.reset : Crv :=
  { pins := List.replicate 4 { base := false, level := false, pulseEnd := none }, firedNow := [], waiting := [], lastIssue := none }

/-- A log entry before it gets its SEQ and CHAIN (R504); times in 2^-32 ns of device time. -/
structure LogEntry where
  time : Nat
  frame : Nat
  source : Nat
  event : Nat
  severity : Nat
  flags : Nat
  data : List Byte
  deriving DecidableEq, Repr

/-- The service log (R504-R506): staged entries oldest first, entries in flash oldest first with their SEQ, the next
SEQ and the head CHAIN. -/
structure Log where
  staged : List LogEntry
  flash : List (Nat × LogEntry × BitVec 256)
  nextSeq : Nat
  chain : BitVec 256
  retained : List LogEntry      -- held in the AON retention register (R443)
  deriving DecidableEq, Repr

def Log.reset : Log := { staged := [], flash := [], nextSeq := 0, chain := 0, retained := [] }

end Sys2Proof.Machine
end

