-- ==== Sys2Proof/Machine/StateScene.lean ====
section
/-! DEFINITION. The state of the scene store, the scene windows, ingest and the general MBC engines (R100-R167). -/

namespace Sys2Proof.Machine

/-- A block table entry (R109): `kind` is STATE (0 EMPTY, 1 STORED, 2 FILL, 3 BAD). -/
structure Entry where
  kind : Nat
  addr : Nat
  len : Nat
  texel : Nat
  version : Nat
  deriving DecidableEq, Repr

def Entry.empty : Entry := { kind := 0, addr := 0, len := 0, texel := 0, version := 0 }

/-- A table page: the 256 entries of one block row (R108), and where it stands in the region (R246). Entries that are not listed are
EMPTY and were last written in version `base` (R109). -/
structure TablePage where
  id : Nat
  addr : Nat
  base : Nat
  entries : Sparse Entry
  deriving DecidableEq, Repr

/-- A plane descriptor (R101). -/
structure PlaneDesc where
  en : Bool
  tf : Bool
  wblk : Nat
  hblk : Nat
  z : Int
  a : Int
  b : Int
  c : Int
  d : Int
  tu : Int
  tv : Int
  deriving DecidableEq, Repr

/-- A scene version (R111): its tag (the target while it is staging), its plane descriptors by plane, and its directory:
the table page of each block row, by plane * 144 + row (0 where the row has no page yet), and the VERSION that the EMPTY entries of a
row without a page hold (R109). -/
structure Version where
  tag : Nat
  planes : Sparse (Option PlaneDesc)
  dir : Sparse Nat
  blank : Sparse Nat
  tagged : List Nat              -- frames of the commands applied to it while staging (R148)
  deriving DecidableEq, Repr

/-- One window slot: the DRAM address of its unit, the decoded bytes and the moment of its last use (R119). -/
structure WinSlot where
  addr : Nat
  data : List Byte
  lastUse : Nat
  deriving DecidableEq, Repr

/-- A query in flight (R128). -/
structure ScnQuery where
  words : List Nat
  none : Bool
  deriving DecidableEq, Repr

/-- The scene store (R108-R131). -/
structure Scn where
  region : Option (List (Nat × Nat))   -- the region held: bytes on each channel (R130, R246)
  discard : Bool                 -- EN was cleared; versions go at the next latch
  release : Bool                 -- versions are gone; the region goes at the next blanking
  front : Option Version
  back : Option Version
  pendingV : List Version        -- oldest first
  staging : Option Version
  pages : List TablePage
  nextPage : Nat
  units : List (Nat × Nat)       -- (address, length) of the space that units and table pages hold, by rising address
  waiting : Option Nat           -- the session whose change waits for space (R118)
  query : Option ScnQuery
  heldLatch : Bool               -- the last latch held the front version
  heldShown : Bool               -- the frame on the panel shows a held version
  shown : Nat                    -- tag of the version that the frame on the panel shows
  windows : List (List WinSlot)  -- per slice
  wanted : List (List Nat)       -- per slice, units that its lanes wait for (R123, R191)
  useCount : Nat
  lowRaised : Bool
  deriving DecidableEq, Repr

def Scn.reset : Scn :=
  { region := none, discard := false, release := false, front := none, back := none, pendingV := [], staging := none,
    pages := [], nextPage := 1, units := [], waiting := none, query := none, heldLatch := false, heldShown := false, shown := 0,
    windows := List.replicate 8 [], wanted := List.replicate 8 [], useCount := 0, lowRaised := false }

/-- A stream key slot (R133, R488); `gen` 0 is a slot that has never been loaded. -/
structure KeySlot where
  loaded : Bool
  gen : Nat
  salt : List Byte
  key : BitVec 128
  deriving DecidableEq, Repr

/-- An authenticated UPDATE datagram (R135). -/
structure Dgram where
  seq : Nat
  frame : Nat
  base : Nat
  isKey : Bool
  count : Nat
  payload : List Byte
  deriving DecidableEq, Repr

/-- The open block of a session (R139). -/
structure OpenBlock where
  plane : Nat
  bx : Nat
  brow : Nat
  total : Nat
  data : List Byte
  deriving DecidableEq, Repr

/-- The datagram whose commands are being applied: what is left of its payload and its command count. -/
structure Applying where
  seq : Nat
  frame : Nat
  left : Nat
  payload : List Byte
  deriving DecidableEq, Repr

/-- One KST session (R132-R153). -/
structure Session where
  state : Nat                    -- 0 CLOSED, 1 WAIT_KEY, 2 ACTIVE
  exp : Nat
  buf : List Dgram               -- by rising SEQ
  applying : Option Applying
  opened : Option OpenBlock
  lastFrame : Nat
  egress : Nat
  reply : Option Reply
  gapAt : Option Nat
  nacks : Nat
  lastNack : Nat
  doneFrame : Option Nat
  repRx : Nat
  repAuth : Nat
  repDup : Nat
  repErr : Nat
  records : List (Nat × Nat)     -- oldest first, at most 8
  newestSlot : Nat
  report : Option (List Byte)    -- REPORT payload of the frame just ended, not yet sent (R151)
  keys : List KeySlot
  deriving DecidableEq, Repr

def KeySlot.reset : KeySlot := { loaded := false, gen := 0, salt := [], key := 0 }

def Session.reset : Session :=
  { state := 0, exp := 0, buf := [], applying := none, opened := none, lastFrame := 0, egress := 0,
    reply := none, gapAt := none, nacks := 0, lastNack := 0, doneFrame := none, repRx := 0, repAuth := 0, repDup := 0,
    repErr := 0, records := [], newestSlot := 0, report := none, keys := [KeySlot.reset, KeySlot.reset] }

/-- Ingest (R132-R153). -/
structure Ing where
  sessions : List Session        -- 64
  inject : Option (Nat × Bool × List Byte)   -- session, poisoned, bytes read (R153, R164)
  dropped : Bool                 -- a commit was dropped at this frame's latch (R151)
  repBad : Nat
  repMirage : Nat
  repLines : Nat
  deriving DecidableEq, Repr

def Ing.reset : Ing :=
  { sessions := List.replicate 64 Session.reset, inject := none, dropped := false, repBad := 0, repMirage := 0,
    repLines := 0 }

/-- The job of a general MBC engine (R160, R161): its descriptor words, the source bytes given so far, the destination
chunks given so far (address, space) and what has been written. -/
structure MbcJob where
  words : List Nat
  input : List Byte
  chunks : List (Nat × Nat)
  written : Nat
  poisoned : Bool
  deriving DecidableEq, Repr

/-- A general MBC engine; `state` is MBC_JOB_STAT.STATE. -/
structure MbcEng where
  state : Nat
  job : Option MbcJob
  fetched : Bool                 -- the head descriptor is in hand
  deriving DecidableEq, Repr

def MbcEng.reset : MbcEng := { state := 0, job := none, fetched := false }

end Sys2Proof.Machine
end

