-- ==== Sys2Proof/Machine/StateTiles.lean ====
section
/-! DEFINITION. The state of tiles, clusters, Barchan, the output band stage, the Oasis and the flat layers (R201-R282). -/

namespace Sys2Proof.Machine

/-- Where a tile stands (R206-R208, R234-R238). -/
inductive TileState where
  | queued     -- in a slice's queue
  | claimed    -- claimed next by its owner
  | started    -- its owner runs it
  | stopped    -- stopped by a residue failure; it has no owner
  | complete
  | dropped
  deriving DecidableEq, Repr

/-- What the output stage sends for a dropped tile: the rows of 10-bit codes that the Oasis holds for it in the frame before
(R208, R217), or nothing (R210). `rows` may be shorter than the tile where the read failed (R218). -/
structure Held where
  rows : List (List (List Nat))
  deriving DecidableEq, Repr

/-- A tile slot (R201-R208, R234-R238). A pair word of 7 * 2^48 has not been written (R205). -/
structure Tile where
  frame : Nat
  region : Nat
  band : Nat
  col : Nat
  state : TileState
  queue : Nat                    -- slice in whose queue it stands
  home : Nat                     -- slice whose window holds its blocks
  owner : Option Nat             -- cluster 8 * slice + index
  epoch : Nat
  steals : Nat
  remote : Bool                  -- taken by a cluster of another slice
  budget : Nat
  taps : Nat                     -- tap limit 1, 2 or 4
  planes : Nat                   -- taking-part planes
  merged : Bool
  startAt : Nat
  ran : Nat                      -- run time times clock in MHz up to `startAt`, over earlier clocks of the slice (R228)
  rays : Nat                     -- results admitted
  samples : Nat
  cells : Nat                    -- backdrop cells built
  cache : List (Int × Int)       -- backdrop cache, least recently used first (R186)
  part : Sparse Nat              -- composed subpixels + 1 whose pair is not complete
  pairs : Sparse Nat             -- pair words (R205)
  segs : Sparse (Nat × Nat)      -- zone statistics of each 64-column segment: largest and sum (R207)
  cover : Sparse Nat             -- lens regions: 1 every admitted subpixel flat-covered, 2 some not (R278)
  held : Option Held
  deriving DecidableEq, Repr

/-- A tile as a cluster holds it. -/
structure Hold where
  frame : Nat
  region : Nat
  band : Nat
  col : Nat
  epoch : Nat
  deriving DecidableEq, Repr

/-- A ray cluster: tiles claimed and not started, the tile it runs, revokes on their way to it (R234-R237). -/
structure Cluster where
  held : List Hold
  running : Option Hold
  revokes : List Hold
  since : Nat                    -- instant at which it began the tile it runs, or at which its clock last changed
  ran : Nat                      -- run time times clock in MHz up to `since` (R228)
  far : Bool                     -- the tile it runs samples another slice's window (R188)
  deriving DecidableEq, Repr

def Cluster.idle : Cluster := { held := [], running := none, revokes := [], since := 0, ran := 0, far := false }

/-- A cost map entry (R228-R230): `planes` is the number of taking-part planes the last measurement saw, none before one. -/
structure CostEntry where
  cost : Nat
  budget : Nat
  taps : Nat
  incomplete : Bool
  stolen : Bool
  remote : Bool
  planes : Option Nat
  deriving DecidableEq, Repr

/-- A plan (R226): the slice that owns each tile column, quality levels by tile position, plane budget and tap limit of the
positions that have a level, and of level 0, the channels whose units may move, and the highest level in it. -/
structure Plan where
  owner : List Nat
  levels : Sparse Nat
  sets : Sparse (Nat × Nat)
  set0 : Nat × Nat
  moves : List Nat
  lmax : Nat
  deriving DecidableEq, Repr

/-- An evacuation (R248). -/
structure Evac where
  channel : Nat
  until_ : Nat                   -- frame whose end frees the read slot
  cpx : Nat                      -- bytes of control complex memory still to be copied (R248)
  deriving DecidableEq, Repr

/-- A line of the content cache (R246, R250): segment, number of the line within it, moment of its last use, channel, and the address of its
bytes in the DRAM (R24). -/
structure CacheLine where
  seg : Nat
  line : Nat
  use : Nat
  chan : Nat
  addr : Nat
  deriving DecidableEq, Repr

/-- Barchan (R226-R258). -/
structure Plc where
  costs : Sparse CostEntry
  plan : Option Plan
  prep : Option Plan             -- built, in force from the latch
  planned : Bool                 -- planning has started since the last latch
  lows : Sparse Nat              -- passes in a row in which every run holding a band was at or below LOW
  hint : Option (Nat × Nat × Nat × Nat)    -- FIRST, LAST, MULT, plans left
  mapCopy : Option (Nat × List Byte)       -- address and words of a cost map copy being written (R230)
  evac : Option Evac
  evacWait : List Nat            -- channels whose fence waits (R258)
  restartEnd : Option Nat        -- Barchan restarts until this instant
  lost : List Nat                -- slices marked lost (R244)
  fills : List (List Nat)        -- window-fill reads by channel, of the last 64 frames, newest first
  freeing : List (Nat × Nat)     -- unit space to be freed at the next latch (R247)
  cache : List CacheLine
  cacheUse : Nat
  shown : List Nat               -- slice of each tile column in the current frame (R127)
  evacMoved : Nat                -- bytes moved by evacuations (R254)
  deriving DecidableEq, Repr

def Plc.reset : Plc :=
  { costs := [], plan := none, prep := none, planned := false, lows := [], hint := none, mapCopy := none,
    evac := none, evacWait := [], restartEnd := none, lost := [], fills := [], freeing := [], cache := [], cacheUse := 0, shown := [],
    evacMoved := 0 }

/-- An Oasis index entry (R215, R216): the channel that holds the unit (R246), the address of its unit space and the unit's length; its bytes
stand in the DRAM (R24). -/
structure OasEntry where
  frame : Nat
  valid : Bool
  rung : Nat
  channel : Nat
  addr : Nat
  len : Nat
  deriving DecidableEq, Repr

/-- The codes of a tile sent so far, row by row, each row a list of pixels of three codes at 10 bits (R215). -/
structure SentTile where
  frame : Nat
  region : Nat
  band : Nat
  col : Nat
  rows : List (List (List Nat))
  deriving DecidableEq, Repr

/-- A snapshot that is armed or running (R220, R225). -/
structure Snap where
  frame : Nat
  addr : Nat
  d : Nat
  capturing : Bool
  deriving DecidableEq, Repr

/-- The output band stage and the Oasis (R201-R225). `openCur` and `openNext` are the next bands whose windows open in the
current and in the next frame; `force` holds the BRC registers in force for the current frame (R213). -/
structure Brc where
  tiles : List Tile
  openCur : Nat
  openNext : Nat
  force : Sparse Word
  stats : Sparse (List (Nat × Nat))        -- zone statistics last shown, by tile position (R207, R208)
  mirage : Nat                   -- mirage bands of the current frame
  mirageFrame : Nat              -- mirage bands of the last complete frame
  stale : Bool                   -- a result was STALE in this frame
  luts : List (Option (List Nat))
  lutLoad : Option (Nat × Option (List Byte))
  oasis : List (Sparse OasEntry)
  oasOn : Bool                   -- OAS_CTRL.EN as the current frame took it
  oasFrom : Nat                  -- first frame in which the Oasis may be read (R225)
  oasInst : Nat                  -- Oasis instances that carry the current band's streams
  sent : List SentTile
  snap : Option Snap
  deriving DecidableEq, Repr

def Brc.reset : Brc :=
  { tiles := [], openCur := 0, openNext := 0, force := [], stats := [], mirage := 0, mirageFrame := 0, stale := false,
    luts := [none, none], lutLoad := none, oasis := [[], []], oasOn := true, oasFrom := 0, oasInst := 0, sent := [], snap := none }

/-- The layer settings of one frame (R271): the words of the LYR pages, OUT_PEAK, hidden layers, the layer whose decoder
carries each layer, and the layers whose data was found unusable for the frame (R276). -/
structure LaySet where
  frame : Nat
  regs : Sparse Word
  outPeak : Nat
  hidden : List Nat
  decoders : List Nat
  deriving DecidableEq, Repr

/-- The flat layers (R259-R282): settings of the frames in synthesis, hidden layers, and the state of each lens region. -/
structure Lyr where
  front : Option LaySet
  back : Option LaySet
  hidden : List Nat
  acc : Sparse Nat               -- lens regions in the current frame: 1 covered so far, 2 not (R278)
  covered : Sparse Nat           -- covered counts
  uncovered : Sparse Nat
  flat : Sparse Nat              -- 1 where derived FLAT
  waits : List Nat               -- layers that the pending group commit waits for (R76)
  doneSeen : List Nat            -- DONE of the seven layers at the start of line LATCH (R272, R282)
  deriving DecidableEq, Repr

def Lyr.reset : Lyr :=
  { front := none, back := none, hidden := [], acc := [], covered := [], uncovered := [], flat := [], waits := [], doneSeen := [] }

end Sys2Proof.Machine
end

