-- ==== Sys2Proof/Machine/StatePanel.lean ====
section
/-! DEFINITION. The state of the panel link, the lens layer, the panel rails and the backlight (R298-R351). -/

namespace Sys2Proof.Machine

/-- A lens region (R317, R318): the state held (0 FLAT, 1 LENS, 2 WIDE, 3 PARK), the running waveform (target, waveform
index, first frame, length, band), the queued target, and the waveform that ends with the current frame, whose last step the rows
after the latch line still get. A waveform index of 128 is a switch without a waveform. -/
structure LensReg where
  state : Nat
  run : Option (Nat × Nat × Nat × Nat × Nat)
  queued : Option Nat
  ending : Option (Nat × Nat × Nat × Nat × Nat)
  deriving DecidableEq, Repr

def LensReg.park : LensReg := { state := 3, run := none, queued := none, ending := none }

/-- An entry of the driver register-write queue (R311). -/
structure RegWrite where
  regions : Nat
  target : Nat
  addr : Nat
  data : Nat
  deriving DecidableEq, Repr

/-- A crack loop (R324): whether there has been an UP, baseline sum and count of rounds since, rounds in a row over a threshold,
broken. -/
structure Crack where
  live : Bool
  sum : Nat
  count : Nat
  overRounds : Nat
  broken : Bool
  deriving DecidableEq, Repr

def Crack.reset : Crack := { live := false, sum := 0, count := 0, overRounds := 0, broken := false }

/-- Panel drive (R298-R330). Instants are monotonic time in 2^-32 ns. -/
structure Pnl where
  force : Sparse Word            -- words of the link and LCD pages in force for the current frame (R213, R325, R326)
  fpol : Bool
  lfsr : List Nat                -- scrambler of each of the 52 lanes (R301)
  running : Bool                 -- the lanes send
  linkStart : Nat                -- instant at which the lanes began to send
  slots : List Nat               -- block slots that each of the 52 lanes has sent since then (R300)
  codes : List (List (Option Nat))   -- codes of the next line, by region and output; none where there are none (R306)
  repeated : Bool                -- a line of this frame has been sent with a repeat span
  queue : List RegWrite
  seq : List Nat                 -- SEQ of each control lane
  odBanks : List (Option (List Nat))
  odLoad : Option (Nat × Option (List Byte))
  odBand : Nat                   -- temperature band latched at line 0 (R313)
  lens : Sparse LensReg
  lensHold : Bool                -- no waveform starts: EN 0, a crack, or a transition before its retime (R319)
  lensOff : Bool                 -- a crack with policy 1 or a discharge holds the lens until UP
  zeroRows : List Nat            -- lens rows whose last LENS_ROW carried zero field because the drive is cut (R319)
  lensBand : Nat                 -- temperature band at the last latch of the lens layer (R317, R327)
  lensSkip : Bool                -- a crack with policy 1 came while OFF: the lens stays in PARK at the next UP (R324)
  wf : Sparse Word               -- waveform w: header at w * 65, step j at w * 65 + 1 + j (R328)
  rail : Nat                     -- rails switched on so far, in index order
  railAt : Nat                   -- instant of the last rail switch
  frames : Nat                   -- line-0 starts since CLEARING or FALLING began
  disch : Option Nat             -- instant of the discharge trigger
  dischRails : Bool              -- the rails have been switched off in the discharge
  dischEn : Bool
  fadeDue : Bool                 -- the panel came ON: the fade-in starts at the next line 0, that of the second normal frame (R518)
  doneDue : Bool                 -- UP or DOWN has completed and has not been reported
  cracks : List Crack
  deriving DecidableEq, Repr

def Pnl.reset : Pnl :=
  { force := [], fpol := false, lfsr := (List.range 52).map (fun l => 0x7FFF00 + l), running := false, linkStart := 0, slots := List.replicate 52 0, codes := [], repeated := false,
    queue := [], seq := [0, 0, 0, 0], odBanks := [none, none], odLoad := none, odBand := 0, lens := [], lensHold := true, lensOff := false, zeroRows := [],
    lensBand := 0, lensSkip := false,
    wf := [], rail := 0, railAt := 0, frames := 0, disch := none, dischRails := false, dischEn := false, fadeDue := false, doneDue := false,
    cracks := List.replicate 4 Crack.reset }

/-- A fade of the backlight factor in units of 2^-16 (R343, R344). -/
structure BklFade where
  start : Nat
  stop : Nat
  v0 : Nat
  v1 : Nat
  host : Bool
  deriving DecidableEq, Repr

/-- What a frame's zones and slots work with (R334, R340, R348): the words of the BKL page, the timing, s of R338, zone
levels and model levels by row * 512 + column. -/
structure BklSet where
  frame : Nat
  regs : Sparse Word
  timing : Timing
  gdiv : Nat
  levels : Sparse Nat
  model : Sparse Nat
  deriving DecidableEq, Repr

/-- The backlight (R331-R351). `sets` are newest first. -/
structure Bkl where
  sets : List BklSet
  fade : Option BklFade
  hostF : Nat                    -- factor in force before the transition, or before the panel went OFF (R344)
  hold : Bool                    -- every BKL_LAT is held high
  slotRows : List Nat            -- zone rows whose slots have started on this line
  fenced : List Nat              -- fenced chains
  reqs : List (Nat × Bool)       -- chain requests not taken up; true is UNFENCE
  dFrom : Nat                    -- derating: factor and target when the target last changed, rounds since then
  dTarget : Nat
  dRounds : Nat
  trims : Int × Int × Int        -- white-point trims; in force from the next latch
  deriving DecidableEq, Repr

def Bkl.reset : Bkl :=
  { sets := [], fade := none, hostF := 65536, hold := true, slotRows := [], fenced := [], reqs := [], dFrom := 65536,
    dTarget := 65536, dRounds := 0, trims := (0, 0, 0) }

end Sys2Proof.Machine
end

