-- ==== Sys2Proof/Machine/StateEdge.lean ====
section
/-! DEFINITION. The state of the blitter and of the serial lanes (R283-R297, R429-R441). -/

namespace Sys2Proof.Machine

/-- The descriptor that the blitter has taken from its ring (R291): its words as read, held by HOLD, checked, its outcome,
bursts done, and whether only its completion is left. -/
structure BltCur where
  words : List Nat
  held : Bool
  checked : Bool
  code : Nat
  empty : Bool
  px : Nat                       -- pixels whose traffic has been moved, and bytes moved of the next one's (R289)
  off : Nat
  win : Nat × Nat                -- the window that holds for it (R296)
  desc : Nat                     -- its address in the ring, and HEAD after it (R293)
  next : Nat
  fin : Bool
  deriving DecidableEq, Repr

/-- The blitter. -/
structure Blt where
  cur : Option BltCur
  deriving DecidableEq, Repr

def Blt.reset : Blt := { cur := none }

/-- What a DRAM controller sends to its DIMMs beyond reads and writes: the error status of the clock driver cleared and commands issued again
from the retry buffer (R405), and the refresh of a row's neighbours, by RFM or by an activate and a precharge of rows (R409). -/
inductive DdrCmd where
  | clearError
  | again (lines : List (Bool × Nat))
  | rfm (bank : Nat)
  | rows (bank : Nat) (rows : List Nat)
  deriving DecidableEq, Repr

/-- The NVMe commands that go to a drive (R416): `n` Reads or Writes at once; queues with their identifier, entries and MSI-X vector. -/
inductive NvmeCmd where
  | identify (cns : Nat)
  | setFeatures (id : Nat)
  | getFeatures (id : Nat)
  | createCq (id entries vector : Nat)
  | createSq (id entries : Nat)
  | deleteSq (id : Nat)
  | deleteCq (id : Nat)
  | getLog (page : Nat)
  | asyncEvent
  | abort
  | read (n : Nat)
  | write (n : Nat)
  | flush
  | deallocate
  | reset                        -- controller reset
  | shutdown                     -- normal shutdown notification
  deriving DecidableEq, Repr

end Sys2Proof.Machine
end

