-- ==== Sys2Proof/Machine/StateNet.lean ====
section
/-! DEFINITION. The state of the network paths, fail-over and device time (R352-R398). Bucket levels are in bytes times
8000 * 2^32, so that a rate in Mb/s fills them by whole numbers per 2^-32 ns. -/

namespace Sys2Proof.Machine

/-- A committed and a peak bucket as they stood at an instant (R358, R363). -/
structure Buckets where
  c : Int
  p : Int
  at_ : Nat
  deriving DecidableEq, Repr

/-- A bucket level of `n` bytes. -/
def bucketBytes (n : Nat) : Int := (n * (8000 * 2 ^ 32) : Nat)

/-- A frame in an egress queue: its content, its length through the FCS, and the ring descriptor it came from (R360). -/
inductive Egress where
  | raw (bytes : List Byte)                                    -- from the firmware transmit ring
  | kst (session type : Nat) (to_ : Reply) (bytes : List Byte) -- a KST datagram, with the address it goes to
  | delayReq (seq transport : Nat) (from_ : Nat × Nat) (to_ : Option (Nat × Nat))   -- PTP Delay_Req of a port; to the parent where it is unicast (R388)
  | arpReply (addr mac toIp toMac : Nat)                       -- address and MAC announced, and to whom (R355, R376)
  | advert (addr mac toIp toMac : Nat) (solicited : Bool)      -- a neighbour advertisement with the override flag
  deriving DecidableEq, Repr

structure EgFrame where
  frame : Egress
  len : Nat
  desc : Option Nat
  deriving DecidableEq, Repr

/-- An egress queue (R360-R363): its frames, the start and finish tag of its head or of the last frame it sent, its buckets. -/
structure EgQueue where
  frames : List EgFrame
  start : Rat
  finish : Rat
  bkt : Buckets
  deriving DecidableEq, Repr

def EgQueue.reset : EgQueue :=
  { frames := [], start := 0, finish := 0, bkt := { c := bucketBytes 0x10000, p := bucketBytes 0x4000, at_ := 0 } }

/-- A pre-filter (R357): the highest SEQ delivered and the recorded numbers within 4,096 of it. -/
structure PreFilter where
  high : Option Nat
  seen : List Nat
  deriving DecidableEq, Repr

/-- A reassembly context (R356): what its fragments share, its first fragment's instant, its parts by offset, its end. -/
structure Frag where
  v6 : Bool
  src : Nat
  dst : Nat
  id : Nat
  proto : Nat
  first : Nat
  parts : List (Nat × List Byte)
  total : Option Nat
  deriving DecidableEq, Repr

/-- A gate list (R365, R367): bank, cycle in ns, base and start in 2^-32 ns of device time, entries (gates, interval in ns). -/
structure GclList where
  bank : Nat
  cycle : Nat
  base : Nat
  start : Nat
  entries : List (Nat × Nat)
  deriving DecidableEq, Repr

/-- A datagram on its way to ingest, with the key generations of its handle (R357, R371). -/
structure Fwd where
  bytes : List Byte
  reply : Reply
  handle : Nat × Nat
  deriving DecidableEq, Repr

/-- A foreign master (R388): identity, port, its last Announce, the instants of its last two, and the log interval. -/
structure Foreign where
  clock : Nat
  port : Nat
  data : AnnounceData
  last : Nat
  prev : Option Nat
  interval : Int
  deriving DecidableEq, Repr

/-- A Sync sample: origin time, receive stamp and correction, in 2^-32 ns. -/
structure SyncSample where
  t1 : Int
  t2 : Int
  corr : Int
  deriving DecidableEq, Repr

/-- A PTP port (R388-R393). -/
structure Ptp where
  foreign : List Foreign
  parent : Option (Nat × Nat)
  waiting : Option (Nat × SyncSample × Nat)   -- two-step Sync: SEQ, sample without the Follow_Up, instant
  last : Option SyncSample
  held : Option SyncSample                     -- a sample that waits for the first d
  delays : List Rat                            -- newest first, in 2^-32 ns
  mean : Option Rat
  dreqSeq : Nat
  dreq : Option (Nat × Int)                    -- SEQ and t3 of the Delay_Req sent last
  dreqInterval : Option Int                    -- logMinDelayReqInterval of the last Delay_Resp (R388)
  dreqAt : Nat                                 -- instant from which the next Delay_Req may go
  syncInterval : Int
  annInterval : Int
  lastSync : Nat
  lastAnn : Nat
  deriving DecidableEq, Repr

def Ptp.reset : Ptp :=
  { foreign := [], parent := none, waiting := none, last := none, held := none, delays := [], mean := none, dreqSeq := 0, dreq := none,
    dreqInterval := none, dreqAt := 0,
    syncInterval := 0, annInterval := 0, lastSync := 0, lastAnn := 0 }

/-- A path die. -/
structure NetPath where
  pre : List PreFilter
  frags : List Frag
  pol : List Buckets
  queues : List EgQueue
  vt : List Rat
  busyUntil : Nat
  gclBank : Nat
  gclForce : Option GclList
  gclPend : Option GclList
  gclHold : Option (Nat × Nat)   -- entry kept over a step of the clock, and its end (R368)
  fwd : List Fwd
  handles : List (Nat × Nat)
  d2d : Bool                     -- the die-to-die interface is up
  faultAt : Option Nat           -- the PCS has been without alignment or in fault since (R353)
  goodAt : Option Nat            -- it has been aligned without fault since
  hrxLeft : Nat                  -- entries of the receive ring that the device may still fill (R379)
  servo : Rat × Nat              -- integ and good of the die while it does not hold the grant (R378)
  ptp : Ptp
  deriving DecidableEq, Repr

def PreFilter.empty : PreFilter := { high := none, seen := [] }

def NetPath.reset : NetPath :=
  { pre := List.replicate 64 PreFilter.empty, frags := [],
    pol := List.replicate 64 { c := bucketBytes 0x10000, p := bucketBytes 0x20000, at_ := 0 },
    queues := List.replicate 16 EgQueue.reset, vt := List.replicate 8 0, busyUntil := 0, gclBank := 0, gclForce := none, gclPend := none,
    gclHold := none, fwd := [], handles := List.replicate 64 (0, 0), d2d := true, faultAt := none, goodAt := none, hrxLeft := 1, servo := (0, 0),
    ptp := Ptp.reset }

/-- The servo and holdover (R390-R395). `rates` are the rates in force since an instant, newest first. -/
structure Tim where
  integ : Rat
  good : Nat
  rates : List (Nat × Rat)
  holdRate : Rat                 -- rate_avg
  entryT : Option Int             -- T_entry in 1/16 °C; none without a reading
  holdStart : Nat
  xo : Option Int                -- crystal temperature of the last round, in 1/16 °C
  learnBin : Option Nat          -- bin of the running second, rounds spent in it, sum of rates over them
  learnRounds : Nat
  learnSum : Rat
  residence : List Nat           -- seconds spent in each bin
  deriving DecidableEq, Repr

def Tim.reset : Tim :=
  { integ := 0, good := 0, rates := [], holdRate := 0, entryT := none, holdStart := 0, xo := none, learnBin := none, learnRounds := 0,
    learnSum := 0, residence := List.replicate 32 0 }

/-- A calibration set (R464): temperature and its good records: lane equalisation by lane, training record by channel,
crystal table (valid mask and 32 bins), sensor matrix by sensor. -/
structure CalSet where
  temp : Int
  lanes : List (Nat × List Nat)
  dram : List (Nat × List Nat)
  xo : Option (List Nat)
  sens : List (Nat × List Nat)
  deriving DecidableEq, Repr

/-- A snapshot of the holder's state (R371). -/
structure Mirror where
  frame : Nat
  taken : Nat
  pre : List PreFilter
  frags : List Frag
  pol : List Buckets
  queues : List (Rat × Rat × Buckets)
  vt : List Rat
  integ : Rat
  good : Nat
  mean : Option Rat
  handles : List (Nat × Nat)
  deriving DecidableEq, Repr

/-- A switch-over (R374-R377): its cause, the instants of its phases, whether it goes to die `next` cold. -/
structure SwitchOver where
  cause : Nat
  detect : Nat
  released : Nat
  granted : Option Nat
  restored : Option Nat
  cold : Bool
  deriving DecidableEq, Repr

/-- Fail-over (R369-R378). -/
structure Fov where
  holder : Nat
  standby : Nat                  -- 2 SYNCING, 3 STANDBY, 4 STALE
  beat : List (Option Nat)       -- last heartbeat of each die at the arbiter
  mirrorBeat : Option Nat
  mirrorUp : Bool
  snap : Option Mirror
  transit : Option Mirror
  sent : Bool                    -- the snapshot of the last frame end has been sent (R371)
  missed : Nat
  request : Option Nat           -- a managed switch-over is asked for: cause 4 or 5
  fault : List Bool              -- internal fault of each die
  sw : Option SwitchOver
  announcing : Option SwitchOver -- restored, with PATH_CHANGE datagrams still to be sent (R376)
  lostAt : List (Option Nat)     -- instant at which each link went down
  force : List Bool              -- ILK_FORCE_A, ILK_FORCE_B
  digests : List (Option Nat)    -- configuration digest of each die, none before its first comparison and while it is off (R373)
  silent : Bool                  -- the absence of the holder's heartbeat has been found (R374)
  armed : Bool
  deriving DecidableEq, Repr

def Fov.reset : Fov :=
  { holder := 0, standby := 2, beat := [none, none], mirrorBeat := none, mirrorUp := false, snap := none, transit := none, sent := false, missed := 0,
    request := none, fault := [false, false], sw := none, announcing := none, lostAt := [none, none], force := [false, false], digests := [none, none],
    silent := false, armed := false }

end Sys2Proof.Machine
end

