-- ==== Sys2Proof/Machine/StateMgmt.lean ====
section
/-! DEFINITION. The state of the DRAM controllers, the content store, the serial lanes, Marigold, power, temperature,
security and service (R399-R520). Instants are monotonic time since reset in units of 2^-32 ns. -/

namespace Sys2Proof.Machine

/-- A line in a write queue (R402): who wrote it, in which class, and the row that its write will activate (bank, row). -/
structure QWrite where
  line : Nat
  who : Nat
  rt : Bool
  act : Option (Nat × Nat)
  deriving DecidableEq, Repr

/-- A read that waits in a controller's queue (R402, R410): who reads, the class, the line, what the ECC will find, the activate it needs, and
what the line held when the read came. -/
structure QRead where
  who : Nat
  rt : Bool
  line : Nat
  err : Nat
  bit : Nat
  act : Option (Nat × Nat)
  data : Option (List Byte)
  deriving DecidableEq, Repr

/-- A DRAM controller (R402-R413). `trigs` are the neighbour refreshes of the last millisecond (requester, bank, instant),
`thr` the throttles (requester, bank, end, last activate), `ces` the corrected errors of the last hour. -/
structure Chan where
  refLast : Nat
  softAt : Nat                   -- start of the soft-boundary count
  rq : List QRead                -- reads that wait, oldest first
  wq : List QWrite
  retry : List (Bool × Nat)      -- the 64-entry retry buffer, newest first: whether a write, and the line (R405)
  replayEnd : Nat                -- end of the replay that runs or ran last
  failed : Bool                  -- three replays in a row have failed
  fenceDue : Bool                -- a FENCE that came during a replay, taken up after it (15, after R424)
  rtOver : Nat                   -- real-time triggers above TRIG_LIMIT (R410)
  banks : List (Nat × List (Nat × Nat))    -- activate tables: bank, its rows with their counts
  window : Nat
  trigs : List (Nat × Nat × Nat)
  thr : List (Nat × Nat × Nat × Nat)
  ces : List Nat
  scrub : Nat                    -- next line of the patrol scrub, from the start of the channel
  record : List Nat                -- training record (R411)
  dqs : Int                      -- steps applied to the DQS delay since training
  drift : Int                    -- steps still to be applied
  dqsAt : Nat
  driftAt : Nat
  deriving DecidableEq, Repr

def Chan.reset : Chan :=
  { refLast := 0, softAt := 0, rq := [], wq := [], retry := [], replayEnd := 0, failed := false, fenceDue := false, rtOver := 0, banks := [], window := 0, trigs := [], thr := [], ces := [], scrub := 0,
    record := List.replicate 384 0, dqs := 0, drift := 0, dqsAt := 0, driftAt := 0 }

structure Dmc where
  chans : List Chan
  trainFrom : Nat                -- instant at which training began at start
  deriving DecidableEq, Repr

def Dmc.reset : Dmc := { chans := List.replicate 12 Chan.reset, trainFrom := 0 }

/-- A stored segment (R419, R420): its number, its header and its datagrams. Which drives hold it, their metadata say. -/
structure Seg where
  num : Nat
  len : Nat
  enc : Bool
  firstFrame : Nat
  frames : Nat
  count : Nat
  firstSeq : Nat
  grams : List (List Byte)
  deriving DecidableEq, Repr

/-- A playback engine that runs (R421, R422). `next` datagrams of loop `loop` have been delivered. -/
structure Play where
  session : Nat
  seg : Nat
  loops : Option Nat             -- none with INFINITE 1
  lead : Nat
  start : Nat                    -- F_start
  s0 : Nat
  loop : Nat
  next : Nat
  deriving DecidableEq, Repr

/-- A drive slot (R416-R418): presence, power, whether the drive is up, the two copies of its metadata, the segments that the copy in force
names, controller resets in a row, the I/O queue pairs that exist, and an INIT that waits for Marigold. -/
structure Drive where
  present : Bool
  power : Bool
  ready : Bool
  copies : List (Option MetaCopy)
  nums : List Nat
  resets : Nat
  queues : List Nat
  initDue : Bool
  deriving DecidableEq, Repr

def Drive.reset : Drive := 
  { present := false, power := false, ready := false, copies := [none, none], nums := [], resets := 0, queues := [], initDue := false }

/-- The content store (R416-R428). -/
structure Nvs where
  segs : List Seg
  nextNum : Nat
  segw : Option (Option (Seg × List Bool) × Nat)   -- the write in progress: its segment and its drives, or the code that ends it
  segwWait : Bool                       -- it waits for Marigold to return (R33)
  segop : Option (Nat × Nat × Nat)      -- the operation in progress: OP, number, code
  segopWait : Bool                      -- it waits for Marigold to return (R33)
  plays : List (Option Play)
  nextSeq : List (Nat × Nat × Nat)      -- engine, session, and S0 of its next GO into it (R421)
  upAt : List Nat                       -- instants at which the links came up
  drives : List Drive
  fallback : Option (Nat × List Nat)    -- the session that fallback has enabled, and the network sessions it has closed
  deriving DecidableEq, Repr

def Nvs.reset : Nvs :=
  { segs := [], nextNum := 0, segw := none, segwWait := false, segop := none, segopWait := false, plays := List.replicate 4 none, nextSeq := [], upAt := [0, 0],
    drives := [Drive.reset, Drive.reset], fallback := none }

/-- A serial lane (R431-R440): retries made, the instant of its fault, targets of TXEQ, RXEQ0 and RXEQ1, and the instant of
the last step of each of its nine settings. -/
structure Lane where
  tries : Nat
  faultAt : Nat
  target : List Nat
  stepAt : List Nat
  checkAt : Option Nat           -- instant at which the running pattern check began (R434)
  deriving DecidableEq, Repr

def Lane.reset : Lane := { tries := 0, faultAt := 0, target := [0x83304, 0x1008, 0], stepAt := List.replicate 9 0, checkAt := none }

/-- Marigold, the control complex and the mailbox (R442-R445, R467). -/
structure Mgt where
  running : Bool
  restarting : Bool
  startedAt : Nat
  cpxRun : Bool                  -- the control complex is out of reset
  cpxRestart : Option Nat        -- it restarts, since this instant
  kickAt : Nat
  calBase : Nat                  -- CAL_CTRL.BASE as the last round took it (R470)
  deriving DecidableEq, Repr

def Mgt.reset : Mgt := { running := false, restarting := false, startedAt := 0, cpxRun := false, cpxRestart := none, kickAt := 0, calBase := 0 }

/-- Supplies, regulators and hold-up (R446-R463, R519, R520). -/
structure Pwr where
  above : Option Nat             -- the tile input has been above WARN + HYST since
  stop : Bool                    -- an ordered stop holds the device in reset
  hot : Bool                     -- the stop waits for the temperature to fall (R458)
  stopLog : Option LogEntry      -- the entry for the stop, in the AON retention register
  test : Option (Nat × Nat)      -- hold-up measurement: start, HOLD_SENSE at the start
  measured : Bool
  regs : List Bool               -- regulators on
  regNext : Option Nat           -- place in the start order of the regulator that is being switched on
  regAt : Nat                    -- instant at which the regulator switched on or off last was told
  vmode : List (Option Nat)      -- VOUT_MODE of each regulator, once read (R448)
  offs : List Nat                -- regulators still to be switched off at shut-down (R449)
  dead : List Nat                -- domains whose supply has failed at start
  ups : List Nat                 -- domains switched on that are not up yet
  stores : List Nat              -- estimates of persistent stores in progress
  step : Nat                     -- step of R519; 0 before Marigold runs, 9 when start-up is over
  shdn : Nat                     -- the orderly shut-down: 0 none, 1 fade, 2 panel, 3 tests, 5 regulators going off, 4 over
  shdnAt : Nat
  done : Bool                    -- SHDN_DONE
  load : Bool                    -- HOLD_LOAD_EN
  porst : Bool                   -- PORST_N has fallen, and the reset waits for the discharge (R515)
  low : Bool                     -- SHDN_REQ_N has been low for 1 ms (R520)
  deriving DecidableEq, Repr

def Pwr.reset : Pwr :=
  { above := none, stop := false, hot := false, stopLog := none, test := none, measured := false, regs := List.replicate 16 false,
    regNext := none, regAt := 0, vmode := List.replicate 16 none, offs := [], dead := [], ups := [], stores := [], step := 0, shdn := 0, shdnAt := 0, done := false, load := false, porst := false,
    low := false }

/-- Sensors and throttling (R450-R458). -/
structure Thm where
  off : List Nat                 -- rounds in a row in which sensor n differed too much
  broken : List Bool
  extOut : List Nat              -- rounds in a row out of range of external input j, and in range since
  extIn : List Nat
  extBad : List Bool
  grace : Option Nat             -- end of the grace time
  below : Option Nat             -- T_j has been below the trip of the requested level less HYST since
  stops : Nat                    -- rounds in a row at or above STOP
  bandSeen : Bool
  deriving DecidableEq, Repr

def Thm.reset : Thm :=
  { off := List.replicate 56 0, broken := List.replicate 56 false, extOut := List.replicate 16 0, extIn := List.replicate 16 0,
    extBad := List.replicate 16 false, grace := none, below := none, stops := 0, bandSeen := false }

/-- An owner key slot in OTP (R474). -/
structure Owner where
  digest : BitVec 256
  enrolled : Bool
  revoked : Bool
  deriving DecidableEq, Repr

/-- One kind of image in a boot record (R478). -/
structure BootKind where
  slot : Nat
  trial : Bool
  tries : Nat
  deriving DecidableEq, Repr

/-- A boot record: generation and the kinds MG, CPX, CAL. -/
structure BootRec where
  gen : Nat
  kinds : List BootKind
  deriving DecidableEq, Repr

/-- A copy of the boot record as the flash holds it: the record and the CRC-32C that closes it (R478). -/
structure BootCopy where
  data : BootRec
  crc : Nat
  deriving DecidableEq, Repr

/-- The image of a kind that runs: its ROLLBACK and the digest of its body. -/
structure RunImg where
  rollback : Nat
  digest : BitVec 256
  deriving DecidableEq, Repr

/-- An update (R484): kind, total length, signer, and the offsets and lengths written. -/
structure Update where
  kind : Nat
  total : Nat
  signer : List Byte
  parts : List (Nat × Nat)       -- offsets and lengths written
  deriving DecidableEq, Repr

/-- OTP, the boot flash and the security engine (R471-R491). Flash slots are MG A, MG B, CPX A, CPX B, CAL A, CAL B. -/
structure Sec where
  lifecycle : Nat
  secureBoot : Bool
  rootDigest : BitVec 256
  macs : List Nat                -- MAC addresses of the two ports, in OTP (R354)
  keyRev : Nat
  owners : List Owner
  arb : List Nat
  identity : List Byte           -- SM2 public key of the device; empty until the pair is generated (R473)
  idKey : Nat                    -- its private half, which only the security engine reads (R474)
  identityOk : Bool              -- the private half is there: generated, and not destroyed
  week : Nat                     -- manufacture week, in the identity certificate (R483)
  idSigner : List Byte           -- the key that has signed the identity certificate, and the signature
  idSign : List Byte
  mfgCert : List Byte            -- the key certificate of that key (R483)
  slots : List (List Byte)
  boots : List (Option BootCopy) -- the two copies of the boot record; none is erased
  bootDue : Option BootRec       -- a boot record that waits for the hold-up measurement (R485)
  nonce : List Byte
  seqs : List Nat
  update : Option Update
  images : List (Option RunImg)
  fallbacks : List Bool          -- a fallback was taken at this start
  recovery : Bool                -- the ROM waits in recovery
  recovered : Bool               -- an MG image from recovery runs
  rcv : List Nat                 -- words written so far, newest first
  kat : List Bool                -- SM2, SM3, SM4, ingest SM4 passed
  unlocked : Bool
  plain : Bool                   -- a content-store session with DECRYPT 0 has been enabled
  cpxOk : Bool
  testMode : Bool
  deriving DecidableEq, Repr

def Sec.reset : Sec :=
  { lifecycle := 0, secureBoot := true, rootDigest := 0, macs := [0, 0], keyRev := 0,
    owners := List.replicate 4 { digest := 0, enrolled := false, revoked := false }, arb := [0, 0, 0], identity := [], idKey := 0, identityOk := false,
    week := 0, idSigner := List.replicate 64 0, idSign := List.replicate 64 0, mfgCert := List.replicate 288 0, slots := List.replicate 6 [], boots := [none, none], bootDue := none, nonce := List.replicate 16 0, seqs := [0, 0], update := none,
    images := [none, none, none], fallbacks := [false, false, false], recovery := false, recovered := false, rcv := [],
    kat := [false, false, false, false], unlocked := false, plain := false, cpxOk := false, testMode := false }

/-- A results record (R500). -/
structure Results where
  uses : Nat
  serial : Nat
  gen : Nat
  frame : Nat
  time : Nat
  results : List Nat
  deriving DecidableEq, Repr

/-- Service (R492-R508). A test runs as: 0 TEST, 1 UNFENCE, 2 entry test at start, 3 full BIST at start, 4 BIST at
shut-down, 5 DRAM training at start. `since` holds, for a unit in FENCING, the frame, band and latches counted then. -/
structure Svc where
  tests : List (Nat × Nat)
  since : List (Nat × Nat × Nat)
  records : List (Option Results)
  usedUp : Bool                  -- the record in force counts as used up (R501)
  fused : List Nat
  failRun : List Nat             -- consecutive failures at shut-downs, by unit
  bist : List Nat                -- units whose BIST at shut-down is still to be started
  deriving DecidableEq, Repr

def Svc.reset : Svc :=
  { tests := [], since := [], records := [none, none], usedUp := false, fused := [], failRun := List.replicate 173 0, bist := [] }

end Sys2Proof.Machine
end

