-- ==== Sys2Proof/Machine/StateSynth.lean ====
section
/-! DEFINITION. The state of ray synthesis: parameter sets and calibration grid banks (R171-R175, R190, R193-R197). -/

namespace Sys2Proof.Machine

/-- What a frame is synthesised with (R175, R190): the SYN and SCN values in force for it, its timing, its scene
version with the planes that take part in composite order (index, descriptor, effective depth), and the class of each
lens region (0 LENS, 1 WIDE, 2 VIEW_INVARIANT) on a grid of `regX` x `regY` regions. -/
structure SynSet where
  frame : Nat
  en : Bool
  outPeak : Nat
  linearPeak : Nat
  vbfEn : Bool
  vbfWidth : Nat
  z2 : Nat
  z4 : Nat
  bdEn : Bool
  model : Bool
  flipX : Bool
  flipY : Bool
  pitchX : Nat
  pitchY : Nat
  lpitch : Nat
  slant : Int
  offset : Int
  viewsH : Nat
  viewsV : Nat
  tanh : Nat
  tanhWide : Nat
  tanv : Nat
  lpitchV : Nat
  offsetV : Int
  gridEn : Bool
  gridBank : Nat
  timing : Timing
  version : Option Version
  planes : List (Nat × PlaneDesc × Int)
  fits : List Nat                -- planes, from the nearest on, that each slice keeps resident (R122, R123)
  regX : Nat
  regY : Nat
  classes : List Nat
  deriving DecidableEq, Repr

/-- A calibration grid bank: `words` row by row (R195, R196). -/
structure GridBank where
  valid : Bool
  w : Nat
  h : Nat
  words : List Nat
  deriving DecidableEq, Repr

/-- Ray synthesis: the two parameter sets (front and back), the two grid banks, the load in flight with what it read,
and whether the last frame held a merged tile. -/
structure Syn where
  front : Option SynSet
  back : Option SynSet
  banks : List GridBank
  load : Option (Nat × Nat × Nat × Option (List Byte))   -- bank, W, H, bytes read
  merged : Nat                   -- merged tiles of the frame in progress
  mergedBefore : Bool
  bmin : Nat
  tmin : Nat
  deriving DecidableEq, Repr

def Syn.reset : Syn :=
  { front := none, back := none, banks := List.replicate 2 { valid := false, w := 0, h := 0, words := [] }, load := none,
    merged := 0, mergedBefore := false, bmin := 0, tmin := 0 }

end Sys2Proof.Machine
end

