-- ==== Sys2Proof/Machine/State.lean ====
section
/-! DEFINITION. The state of the KL-1800, its value right after reset, and why a step can stop. -/

namespace Sys2Proof.Machine

/-- What leaves the package, recorded newest first (log entry 5). An output whose changes the manual ties to no instant keeps its
reset level and is not recorded (log entry 196). -/
inductive Out where
  | msix (vector : Nat)
  | evtPin (pin : Nat) (level : Bool)
  | kst (session : Nat) (type : Nat) (bytes : List Byte)
  | link (lane idle : Nat) (blocks : List (Bool × List Byte))   -- `idle` IDLE blocks, then the blocks; true marks a control block (R300)
  | chain (chain : Nat) (words : List Nat)                 -- a chain frame, in the order shifted (R336)
  | lat (chain : Nat) (held : Bool)                        -- BKL_LAT of a chain held high, or let go (R323, R350)
  | rail (index : Nat) (on : Bool)                         -- PNL_RAIL_EN[n] (R320)
  | dischEn (level : Bool)
  | pmbus (addr : Nat) (bytes : List Nat)
  | net (path queue : Nat) (tag : Option (Nat × Nat)) (frame : Egress)   -- a frame sent by a path, with the VID and priority of its tag (R360)
  | dram (who addr : Nat) (data : Option (List Byte))     -- a line returned to a requester; none is poison (R406)
  | pin (name : String) (index : Nat) (level : Bool)      -- a static output pin
  | flash (offset : Nat) (bytes : List Byte)              -- a write to the boot flash (R477, R500, R505)
  | erase (offset size : Nat)                              -- an erasure of the boot flash (R483)
  | hostWrite (addr : Nat) (bytes : List Byte)            -- DMA into a host buffer (R444)
  | ilkObs (path : Nat)                                    -- ILK_OBS shows the holder (R370)
  | loadFault (core addr : Nat)                            -- a precise load access fault on a core of the control complex (R407)
  | ddr (channel : Nat) (cmd : DdrCmd)
  | nvme (drive queue : Nat) (cmd : NvmeCmd)               -- queue 0 is the admin pair (R416)
  deriving DecidableEq, Repr

/-- The machine. `regs` holds every register word in force by unprivileged address, `shadow` the written and not yet
committed words of RWS registers (R58). Instants are monotonic time since reset in units of 2^-32 ns. -/
structure State where
  pending : List Instr
  regs : Sparse Word
  shadow : Sparse Word
  now : Nat
  msiSent : Nat                  -- vectors asserted and unmasked when last looked at (R75)
  msixMask : Nat                 -- entries masked in the MSI-X table behind the host endpoint (R75)
  msixPend : Nat                 -- its pending-bit array
  mgtIrq : Sparse Nat            -- events that Marigold's own interrupt controller holds, by page base (R76)
  ras : Ras
  crv : Crv
  log : Log
  scn : Scn
  ing : Ing
  mbc : List MbcEng
  syn : Syn
  clusters : List Cluster        -- 64
  plc : Plc
  brc : Brc
  lyr : Lyr
  pnl : Pnl
  bkl : Bkl
  blt : Blt
  dram : Sparse Byte
  dimms : List (List Dimm)       -- the DIMMs fitted in each of the 12 channels (R399)
  timBase : Nat                  -- device time at instant timAnchor, in 2^-32 ns (R384)
  timAnchor : Nat
  timRate : Rat                  -- the rate of R390 in ppb, by which device time is slowed
  tim : Tim
  net : List NetPath             -- the two path dies
  fov : Fov
  cal : List (Option CalSet)     -- the 8 calibration sets in force (R464)
  calNext : Option (List (Option CalSet))   -- sets loaded by ACTIVATE, in force from the next housekeeping round (R485)
  dmc : Dmc
  nvs : Nvs
  lanes : List Lane              -- 84
  mgt : Mgt
  pwr : Pwr
  thm : Thm
  secu : Sec
  svc : Svc
  poison : List Nat              -- poisoned 64-byte lines, by address / 64 (R406)
  out : List Out
  free : Nat                     -- counter of the free values drawn (log entry 6)
  deriving DecidableEq, Repr

/-- The machine right after reset. -/
def State.reset : State :=
  { pending := [], regs := [], shadow := [], now := 0, msiSent := 0, msixMask := 0, msixPend := 0, mgtIrq := [], ras := Ras.reset, crv := Crv.reset, log := Log.reset,
    scn := Scn.reset, ing := Ing.reset, mbc := List.replicate 8 MbcEng.reset, syn := Syn.reset,
    clusters := List.replicate 64 Cluster.idle, plc := Plc.reset, brc := Brc.reset, lyr := Lyr.reset, pnl := Pnl.reset, bkl := Bkl.reset, blt := Blt.reset, dram := [], dimms := List.replicate 12 [],
    timBase := 0, timAnchor := 0, timRate := 0, tim := Tim.reset, net := [NetPath.reset, NetPath.reset],
    fov := Fov.reset, cal := List.replicate 8 none, calNext := none, dmc := Dmc.reset, nvs := Nvs.reset, lanes := List.replicate 84 Lane.reset, mgt := Mgt.reset,
    pwr := Pwr.reset, thm := Thm.reset, secu := Sec.reset, svc := Svc.reset, poison := [], out := [], free := 0 }

/-- Faults of the model. No command raises one: the block has no stop of its own. -/
inductive Fault where
  /-- Raised by no command; it is here because a fault type must have a name. Safe. -/
  | none
  deriving DecidableEq, Repr

/-- Refusals of the model. -/
inductive Refusal where
  /-- Raised by the dispatcher alone, for a command that has no meaning yet. Safe: nothing can be proved from it. -/
  | notModelled (mnemonic : String)
  deriving DecidableEq, Repr

end Sys2Proof.Machine
end

