-- ==== Sys2Proof/Machine/Ops.lean ====
section
/-! DEFINITION. The named operations over registers, pages, events, the log, device time and DRAM, and the recording of
a rejected write (R38-R75, R504-R506, R406). -/

namespace Sys2Proof.Machine

/-! ### Registers -/

/-- The word in force at unprivileged address `a`. -/
def State.rd (s : State) (a : Nat) : Nat := (Sparse.get resetWord s.regs a).toNat

/-- Put a word in force. -/
def State.wr (s : State) (a v : Nat) : State := { s with regs := Sparse.set resetWord s.regs a (BitVec.ofNat 32 v) }

/-- Bits [hi:lo] of the word in force. -/
def State.fld (s : State) (a hi lo : Nat) : Nat := bitsOf (s.rd a) hi lo

/-- One bit of the word in force. -/
def State.flag (s : State) (a i : Nat) : Bool := bitOf (s.rd a) i

/-- A word with bits [hi:lo] replaced. -/
def putBits (w hi lo v : Nat) : Nat :=
  w - bitsOf w hi lo * 2 ^ lo + v % 2 ^ (hi - lo + 1) * 2 ^ lo

/-- Replace bits [hi:lo] of the word in force. -/
def State.setFld (s : State) (a hi lo v : Nat) : State := s.wr a (putBits (s.rd a) hi lo v)

/-- Set or clear one bit of the word in force. -/
def State.setFlag (s : State) (a i : Nat) (b : Bool) : State := s.setFld a i i (if b then 1 else 0)

/-- Add to a counter, modulo 2^32. -/
def State.add (s : State) (a n : Nat) : State := s.wr a ((s.rd a + n) % 2 ^ 32)

/-- Add to a field that saturates. -/
def State.addSat (s : State) (a hi lo n : Nat) : State := s.setFld a hi lo (min (s.fld a hi lo + n) (2 ^ (hi - lo + 1) - 1))

/-- The value that will be in force after the commit: the shadow where one has been written (R58). -/
def State.rdShadow (s : State) (a : Nat) : Nat := ((s.shadow.find? (fun e => e.1 == a)).map (fun e => e.2.toNat)).getD (s.rd a)

/-- Write a shadow (R58). -/
def State.wrShadow (s : State) (a v : Nat) : State :=
  { s with shadow := (s.shadow.filter (fun e => e.1 < a)) ++ (a, BitVec.ofNat 32 v) :: s.shadow.filter (fun e => a < e.1) }

/-- Whether address `a` lies in the page with base `b`. -/
def inPage (b a : Nat) : Bool := decide (b ≤ a ∧ a < b + 0x1000)

/-- Put every shadow of a page in force together (R58). -/
def State.commitPage (s : State) (b : Nat) : State :=
  let s' := (s.shadow.filter (fun e => inPage b e.1)).foldl (fun t e => t.wr e.1 (s.rdShadow e.1)) s
  { s' with shadow := s.shadow.filter (fun e => !inPage b e.1) }

/-- Put every register of a page back to its reset value and drop its shadows; header words stay (R44). -/
def State.resetPage (s : State) (b : Nat) : State :=
  { s with regs := Sparse.drop (fun a => inPage (b + 0x40) a && inPage b a) s.regs,
           shadow := s.shadow.filter (fun e => !inPage b e.1) }

/-- The `n` bytes of words from `b` on return to reset, as a block inside a page does whose owner goes off (R429). -/
def State.resetBytes (s : State) (b n : Nat) : State := { s with regs := Sparse.drop (fun a => decide (b ≤ a ∧ a < b + n)) s.regs }

/-! ### Instants -/

/-- Units of 2^-32 ns in one nanosecond, microsecond, millisecond and second. -/
def ns : Nat := 2 ^ 32
def us : Nat := 1000 * ns
def ms : Nat := 1000 * us
def sec : Nat := 1000 * ms

/-- Time goes on to instant `t`; it never goes back. -/
def State.at (s : State) (t : Nat) : State := { s with now := max s.now t }

/-! ### Events and interrupts -/

/-- Events of the page with base `b` that Marigold's interrupt controller holds (R76). -/
def State.mgtEvents (s : State) (b : Nat) : Nat := Sparse.get (fun _ => 0) s.mgtIrq b

/-- Marigold's interrupt controller takes events of a page, whatever IRQ_ENABLE and the routing say (R76; log entry 136). -/
def State.tellMarigold (s : State) (b m : Nat) : State := { s with mgtIrq := Sparse.set (fun _ => 0) s.mgtIrq b (Nat.lor (s.mgtEvents b) m) }

/-- Marigold has dealt with events of a page (log entry 136). -/
def State.marigoldClears (s : State) (b m : Nat) : State :=
  { s with mgtIrq := Sparse.set (fun _ => 0) s.mgtIrq b (s.mgtEvents b - Nat.land (s.mgtEvents b) m) }

/-- A page's line at Marigold's interrupt controller (R76). -/
def State.marigoldLine (s : State) (b : Nat) : Bool := decide (s.mgtEvents b ≠ 0)

/-- Raise event `bit` of the page with base `b` (R49, R76). -/
def State.raise (s : State) (b bit : Nat) : State := (s.setFlag (b + 0x10) bit true).tellMarigold b (2 ^ bit)

/-- A page's summary line (R49). -/
def State.summary (s : State) (b : Nat) : Bool := decide (Nat.land (s.rd (b + 0x10)) (s.rd (b + 0x14)) ≠ 0)

/-- The routes in force: (page base, vector) of every ROUTE entry with EN 1 (R74). The reset value has EN 0, so only
written entries matter. -/
def State.routes (s : State) : List (Nat × Nat) :=
  s.regs.filterMap (fun e =>
    if 0x2800 ≤ e.1 ∧ e.1 < 0x3000 ∧ e.2.getLsbD 31 then
      let i := (e.1 - 0x2800) / 4
      some (i / 16 * 0x10000 + i % 16 * 0x1000, bitsOf e.2.toNat 5 0)
    else none)

/-- The set of asserted vectors as a 64-bit mask (R75). -/
def State.asserted (s : State) : Nat :=
  s.routes.foldl (fun m r => if s.summary r.1 then Nat.lor m (2 ^ r.2) else m) 0

/-- The vectors that are asserted and unmasked (R75). -/
def State.live (s : State) : Nat :=
  let mask := s.rd Reg.devIntcMaskLo + s.rd Reg.devIntcMaskHi * 2 ^ 32
  Nat.land s.asserted (2 ^ 64 - 1 - mask)

/-- Record something that leaves the package. -/
def State.emit (s : State) (o : Out) : State := { s with out := o :: s.out }

/-- Send the MSI-X message of vector `v` when its TARGET names the host; an entry that is masked in the host's table becomes
pending there instead (R74, R75; log entry 135). HEP being off or in reset holds nothing back (log entry 139). -/
def State.sendMsix (s : State) (v : Nat) : State :=
  if s.flag (Reg.devIntcTarget v) 0 then
    (if bitOf s.msixMask v then { s with msixPend := Nat.lor s.msixPend (2 ^ v) } else s.emit (.msix v))
  else s

/-- The pending-bit array is brought up to date: a vector that is no longer asserted and unmasked is not pending, and one whose entry
is no longer masked sends its message (PCIe 5.0, as R75 says; log entry 135). -/
def State.msixFollow (s : State) : State :=
  let pend := Nat.land s.msixPend s.live
  let free := (List.range 64).filter (fun v => bitOf pend v && !bitOf s.msixMask v)
  free.foldl State.sendMsix { s with msixPend := Nat.land pend s.msixMask }

/-- The interrupt line of a control complex core (R75). -/
def State.coreLine (s : State) (core : Nat) : Bool :=
  (List.range 64).any (fun v => bitOf s.live v && s.flag (Reg.devIntcTarget v) (1 + core))

/-- Every vector that has become both asserted and unmasked sends its message, the lowest first (R75; log entry 172). -/
def settle (s : State) : State :=
  let live := s.live
  let fresh := (List.range 64).filter (fun v => bitOf live v && !bitOf s.msiSent v)
  { fresh.foldl State.sendMsix s.msixFollow with msiSent := live }

/-- The end of every command. -/
def finish (s : State) : Host.Outcome State Fault Refusal := .next (settle s)

/-! ### Power domains, service units and page states -/

/-- Whether a power domain is on (R27, R446). -/
def State.domOn (s : State) (d : Nat) : Bool :=
  if d < 32 then s.flag Reg.pwrDomStat0 d else s.flag Reg.pwrDomStat1 (d - 32)

/-- The power domain of a service unit (R27, R492). -/
def unitDomain (u : Nat) : Nat :=
  if u < 64 then 6 + u / 8 else if u < 72 then 6 + (u - 64) else if u < 80 then 15 else if u < 96 then 16
  else if u < 112 then 6 + (u - 96) / 2 else if u < 119 then 18 else if u < 131 then 24 + (u - 119) / 2
  else if u < 133 then 30 else if u < 169 then 23 else if u < 171 then 32 + (u - 169) else if u = 171 then 2 else 1

/-- The service state of a unit (R43, R493): 0 ACTIVE, 1 FENCING, 2 FENCED, 3 TESTING, 4 FAILED, 5 OFF.
Units 171 and 172 are never fenced: they are ACTIVE while their domain is on. -/
def State.unitState (s : State) (u : Nat) : Nat :=
  if s.domOn (unitDomain u) then (if 171 ≤ u then 0 else s.fld (Reg.svcUnit u) 2 0) else 5

/-- PAGE_STATE of a page (R43, R44). A page that is no service unit's is ACTIVE while its domain is on (log entry 10);
in recovery the boot ROM presents the SEC page (R481). -/
def State.pageState (s : State) (p : PageDef) : Nat :=
  if s.domOn p.domain || (p.code == 0x1C && s.secu.recovery) then (match p.unit with | some u => s.fld (Reg.svcUnit u) 2 0 | none => 0) else 5

/-! ### Device time -/

/-- Device time at instant `t` in 2^-32 ns: the anchor value plus the elapsed time, slowed by the rate in force (R384, R390; log entry
183). -/
def State.deviceAt (s : State) (t : Nat) : Int :=
  let e : Int := (t : Int) - s.timAnchor
  (s.timBase : Int) + e - ((e : Rat) * s.timRate / 1000000000).ceil

/-- Device time now. -/
def State.device (s : State) : Nat := (s.deviceAt s.now).toNat

/-- Take a new anchor at the present instant, with a step and a new rate. -/
def State.anchor (s : State) (step : Int) (rate : Rat) : State :=
  { s with timBase := ((s.device : Int) + step).toNat, timAnchor := s.now, timRate := rate }

/-! ### DRAM -/

/-- Channel `c` presents a range of its own from `c` times 128 GiB (R401; log entry 11). -/
def chanBase (c : Nat) : Nat := 2 ^ 37 * c

/-- Bytes fitted on channel `c`. -/
def State.chanCap (s : State) (c : Nat) : Nat := 2 ^ 30 * (s.dimms.getD c []).foldl (fun a d => a + d.gib) 0

/-- Channels that are not FENCED, FAILED or OFF (R522). -/
def State.chanUsable (s : State) (c : Nat) : Bool :=
  let st := s.unitState (119 + c)
  decide (0 < s.chanCap c) && (st == 0 || st == 1 || st == 3)

/-- Whether bytes `a` to `a + n - 1` all lie in the DRAM of usable channels (R522). -/
def State.dramOk (s : State) (a n : Nat) : Bool :=
  decide (((List.range 12).map (fun c =>
    if s.chanUsable c then min (a + n) (chanBase c + s.chanCap c) - max a (chanBase c) else 0)).sum = n)

/-- What an unlisted DRAM byte reads as (log entry 4). -/
def dramDefault : Nat → Byte := fun _ => 0

/-- One DRAM byte. -/
def State.byte (s : State) (a : Nat) : Byte := Sparse.get dramDefault s.dram a

/-- Whether a 64-byte line is poisoned (R406). -/
def State.linePoisoned (s : State) (l : Nat) : Bool := s.poison.contains l

/-- Read bytes; `none` where the read returns poisoned data, outside the DRAM included (R406, R522). -/
def State.dramRead (s : State) (a n : Nat) : Option (List Byte) :=
  if s.dramOk a n && (List.range (if n = 0 then 0 else (a + n - 1) / 64 - a / 64 + 1)).all (fun i => !s.linePoisoned (a / 64 + i))
  then some ((List.range n).map (fun i => s.byte (a + i))) else none

/-- The longest readable start of a byte range: bytes before the first poisoned or missing one. -/
def State.readPrefix (s : State) : Nat → Nat → List Byte
  | _, 0 => []
  | a, n + 1 => match s.dramRead a 1 with
    | some b => b ++ s.readPrefix (a + 1) n
    | none => []

/-- Whether a write of `n` bytes at `a` covers the whole of line `l`. -/
def coversLine (a n l : Nat) : Bool := decide (a ≤ l * 64 ∧ l * 64 + 64 ≤ a + n)

/-- Write one byte, unless it lies outside the DRAM or in a poisoned line that the write does not cover (R406, R522). -/
def State.putByte (s : State) (a0 n : Nat) (a : Nat) (b : Byte) : State :=
  if s.dramOk a 1 && (!s.linePoisoned (a / 64) || coversLine a0 n (a / 64)) then
    { s with dram := Sparse.set dramDefault s.dram a b }
  else s

/-- Write bytes at rising addresses from `a`, as one request of `n` bytes at `a0`. -/
def State.putBytes (s : State) (a0 n : Nat) : Nat → List Byte → State
  | _, [] => s
  | a, b :: bs => (s.putByte a0 n a b).putBytes a0 n (a + 1) bs

/-- Write bytes as one request; lines covered whole lose their poison (R406). -/
def State.dramWrite (s : State) (a : Nat) (bs : List Byte) : State :=
  let s' := s.putBytes a bs.length a bs
  { s' with poison := s'.poison.filter (fun l => !(coversLine a bs.length l && s.dramOk (l * 64) 64)) }

/-- Mark a line poisoned (R406). -/
def State.poisonLine (s : State) (l : Nat) : State := if s.linePoisoned l then s else { s with poison := l :: s.poison }

/-! ### Free values -/

/-- Draw a value the manual leaves open (log entry 6). -/
def State.draw (s : State) : Nat × State := ((Config.freeValue s.free).toNat, { s with free := s.free + 1 })

/-! ### The log -/

/-- Stage a log entry (R504, R506); a full stage drops its oldest INFO entry, or the new one. -/
def State.stage (s : State) (e : LogEntry) : State :=
  if s.log.staged.length < 256 then { s with log := { s.log with staged := s.log.staged ++ [e] } }
  else
    let kept := match s.log.staged.findIdx? (fun x => x.severity == 0) with
      | some i => s.log.staged.eraseIdx i ++ [e]
      | none => s.log.staged
    ({ s with log := { s.log with staged := kept } }.addSat Reg.svcLogStaged 31 16 1).raise 0x1D0000 2

/-- FLAGS[1] of a log entry made now: device time is not valid (R391, R504). -/
def State.timeFlag (s : State) : Nat := if s.flag Reg.timStatus 2 then 0 else 2

/-- Log something at the present instant; `source` is block code * 256 + instance, `event` an error code, or 0x8000 with
page index [11:8] and event bit [4:0] (R504). Severities the manual does not name are INFO (log entry 12). -/
def State.logIt (s : State) (source event severity : Nat) (data : List Byte) : State :=
  s.stage { time := s.device, frame := s.ras.frame, source := source, event := event, severity := severity,
            flags := s.timeFlag, data := data.take 32 }

/-- The EVENT code of event `bit` of page index `p` (R504). -/
def evt (p bit : Nat) : Nat := 0x8000 + p * 256 + bit

/-! ### Rejected writes and commits -/

/-- Whether an address is privileged in the view it names, and its unprivileged address (R34, R35). Only Marigold can
form an address in the privileged view (R36). -/
def isPriv (who : Requester) (addr : Nat) : Bool := decide (who = .marigold) && decide (0x400000 ≤ addr % 0x800000)

/-- Code of a requester in the ERR aggregator (R71). -/
def requesterCode : Requester → Nat
  | .controlComplex => 0
  | .host => 1
  | .marigold => 2
  | .caravan => 3

/-- Word 0 of an entry of the ERR aggregator: VALID, the requester and the address (R71). -/
def errWord0 (who addr : Nat) : Nat := 2 ^ 31 + (who * 2 ^ 24 + addr % 2 ^ 23)

/-- Word 1 of an entry of the ERR aggregator: the raster line and the code (R71). -/
def errWord1 (line code : Nat) : Nat := line % 65536 * 65536 + code % 65536

/-- PAGE_ERR after a first rejection: STICKY, OFFSET and CODE (R46). -/
def pageErrWord (off code : Nat) : Nat := 2 ^ 31 + (off % 4096 * 65536 + code % 65536)

/-- Entry `h` of the ERR aggregator is about to be overwritten: noted where it has not been read (R72). -/
def State.errOverwrite (s : State) (h : Nat) : State :=
  if s.flag (Reg.devErrW0 h) 31 then (s.setFlag Reg.devErrLost 0 true).raise 0x1000 1 else s

/-- The words of entry `h` of the ERR aggregator (R71). -/
def State.errFill (s : State) (h who addr code data : Nat) : State :=
  (((s.wr (Reg.devErrW0 h) (errWord0 who addr)).wr (Reg.devErrW1 h) (errWord1 s.ras.line code)).wr (Reg.devErrW2 h) data).wr
    (Reg.devErrW3 h) (s.ras.frame % 2 ^ 32)

/-- The entry of the ERR aggregator that is written next (R71). -/
def State.errNext (s : State) : Nat := s.rd Reg.devErrHead % 64

/-- Append an entry to the ERR aggregator and raise DEV_ERR_REJECT (R53, R71, R72). `addr` names the view. -/
def State.errEntry (s : State) (who : Nat) (addr code data : Nat) : State :=
  ((((s.errOverwrite s.errNext).errFill s.errNext who addr code data).wr Reg.devErrHead ((s.errNext + 1) % 64)).add
    Reg.devErrTotal 1).raise 0x1000 0

/-- Record a rejection in a page's PAGE_ERR (R46, R47). -/
def State.pageErr (s : State) (base off code : Nat) : State :=
  if s.flag (base + 0xC) 31 then s.setFlag (base + 0xC) 30 true
  else s.wr (base + 0xC) (pageErrWord off code)

/-- The address of an access in the 8 MiB space as the ERR aggregator holds it: the view is the one the requester
reaches (R34-R36, R71). -/
def errAddr (who : Requester) (addr : Nat) : Nat := addr % 0x400000 + (if isPriv who addr then 0x400000 else 0)

/-- A rejected write to a page (R53): recorded, and nothing else changes. -/
def State.reject (s : State) (who : Requester) (addr code data : Nat) : State :=
  let a := addr % 0x400000
  (s.pageErr (a / 0x1000 * 0x1000) (a % 0x1000) code).errEntry (requesterCode who) (errAddr who addr) code data

/-- An unmapped write (R39): recorded in the ERR aggregator only. -/
def State.rejectUnmapped (s : State) (who : Requester) (addr data : Nat) : State :=
  s.errEntry (requesterCode who) (errAddr who addr) 0xB data

/-- A rejected commit (R62, R521): recorded on page `base` at offset `off`, that of the register whose value failed, which is also
the ADDR of its ERR entry (log entry 171); the requester is the control complex, whose registers make commits (log entry 13). -/
def State.rejectCommit (s : State) (base off code : Nat) : State :=
  (s.pageErr base off code).errEntry 0 (base + off) code 0

/-- The place of a code in the order of R54. -/
def codeRank (c : Nat) : Nat :=
  if c = 0xB then 0 else if c = 5 then 2 else if c = 4 then 3 else if c = 3 then 4 else if c = 8 then 5 else if c = 9 then 6
  else if c = 0xF then 7 else if c = 2 then 8 else if c = 1 then 9 else if c = 0xA then 10 else if c = 6 then 11
  else if c = 7 then 12 else if c = 0xD then 13 else if c = 0xE then 14 else if c = 0xC then 15 else 16 + c

/-- The first failing check in the order of R54; 0 where none fails. -/
def firstCode : List Nat → Nat
  | [] => 0
  | c :: cs => let r := firstCode cs; if c = 0 then r else if r = 0 ∨ codeRank c ≤ codeRank r then c else r

/-- `c` where a condition holds. -/
def codeIf (b : Bool) (c : Nat) : List Nat := if b then [c] else []

end Sys2Proof.Machine
end

