-- ==== Sys2Proof/Machine/Raster.lean ====
section
/-! DEFINITION. Raster time: ideal instants, phase error, relabels, the lock states, timing changes (R77-R92). -/

namespace Sys2Proof.Machine

/-- The timing that a set of register words names (R80). -/
def timingFrom (rd : Nat → Nat) : Timing :=
  { vactive := bitsOf (rd Reg.rasVactive) 15 0, vfront := bitsOf (rd Reg.rasVblank) 9 0,
    vsync := bitsOf (rd Reg.rasVblank) 19 10, vback := bitsOf (rd Reg.rasVblank) 29 20,
    hactive := bitsOf (rd Reg.rasHactive) 15 0, hfront := bitsOf (rd Reg.rasHfrontSync) 15 0,
    hsync := bitsOf (rd Reg.rasHfrontSync) 31 16, hback := bitsOf (rd Reg.rasHback) 15 0,
    regions := bitsOf (rd Reg.rasRegions) 1 0, periodNs := rd Reg.rasPeriodNs, periodFrac := rd Reg.rasPeriodFrac,
    horizon := bitsOf (rd Reg.rasHorizon) 6 0 }

/-- The timing that governs the next frame (R88, R91). -/
def State.nextT (s : State) : Timing := s.ras.nextTiming.getD s.ras.timing

/-- The HORIZON in force: from the latch edge on, that of the next frame (R88, R204). -/
def State.horizonNow (s : State) : Nat := if s.ras.latched then s.nextT.horizon else s.ras.timing.horizon

/-- a / b rounded up. -/
def ceilDiv (a b : Nat) : Nat := (a + b - 1) / b

/-- Bands of a region and tile columns of a band (R201). -/
def Timing.bands (t : Timing) : Nat := ceilDiv t.vactive 16
def Timing.cols (t : Timing) : Nat := ceilDiv t.hactive 1024

/-- A two's complement field as an integer. -/
def signedBits (v n : Nat) : Int := if v % 2 ^ n < 2 ^ (n - 1) then (v % 2 ^ n : Nat) else (v % 2 ^ n : Nat) - (2 ^ n : Nat)

/-- An integer as an n-bit two's complement word. -/
def toBits (n : Nat) (v : Int) : Nat := (v % (2 ^ n : Nat)).toNat

/-- An integer limited to a range. -/
def clampI (lo hi v : Int) : Int := if v < lo then lo else if hi < v then hi else v

/-- T_align in 2^-32 ns (R78). -/
def State.tAlign (s : State) : Nat :=
  ((s.rd Reg.rasAlignSecLo + s.rd Reg.rasAlignSecHi * 2 ^ 32) * 1000000000 + s.fld Reg.rasAlignNs 29 0) * ns

/-- TRIM in 2^-32 ns (R78, R80). -/
def State.trim (s : State) : Int := signedBits (s.fld Reg.rasTrim 15 0) 16 * (ns : Int)

/-- T_N (R78) in device time. -/
def State.tFrame (s : State) (n : Nat) : Nat := s.tAlign + n * s.ras.timing.period

/-- The ideal start of line `l` of frame `n` in device time (R78). -/
def State.idealStart (s : State) (n l : Nat) : Int :=
  (s.tFrame n : Int) + (l * s.ras.timing.period / s.ras.timing.vtotal : Nat) + s.trim

/-- The frame whose T_N lies nearest to a device time (R85). -/
def State.nearestFrame (s : State) (dev : Int) : Nat :=
  let p : Int := s.ras.timing.period
  if p = 0 then 0 else ((2 * (dev - s.tAlign) + p) / (2 * p)).toNat

/-- The first frame whose T_N lies after a device time. -/
def State.nextFrameAfter (s : State) (dev : Int) : Nat :=
  let p : Int := s.ras.timing.period
  if p = 0 then 0 else ((dev - s.tAlign) / p + 1).toNat

/-- The frame period as the raster runs it: P with the offset by which ACQUIRE pulls the phase in (R84). -/
def State.runPeriod (s : State) : Nat := ((s.ras.timing.period : Int) + s.ras.slew).toNat

/-- How long a span of device time lasts at the rate in force (R78, R390). -/
def State.spanOf (s : State) (dev : Int) : Int := ((dev : Rat) * 1000000000 / (1000000000 - s.timRate)).floor

/-- The device time that passes in a span at the rate in force (R78, R390). -/
def State.devSpan (s : State) (t : Nat) : Nat := ((t : Rat) * (1000000000 - s.timRate) / 1000000000).floor.toNat

/-- The instant of raster position `f:l` column `c`, on the raster as it runs now; spans are carried in device time (R77, R78, R84). -/
def State.posInstant (s : State) (f : Int) (l c : Nat) : Int :=
  let t := s.ras.timing
  let cols : Int := ((f - s.ras.frame) * t.vtotal + ((l : Int) - s.ras.line)) * t.htotal + c
  (s.ras.lineStart : Int) + s.spanOf (cols * s.runPeriod / (t.vtotal * t.htotal : Nat))

/-- The column the raster has reached at instant `t`, in device time (R77, R78). -/
def State.columnAt (s : State) (t : Nat) : Nat :=
  let tm := s.ras.timing
  if s.runPeriod = 0 then 0 else min (s.devSpan (t - s.ras.lineStart) * (tm.vtotal * tm.htotal) / s.runPeriod) (tm.htotal - 1)

/-- The monotonic instant of a device time, at the rate in force (R384, R393). -/
def State.instantOf (s : State) (dev : Int) : Int :=
  (s.now : Int) + s.spanOf (dev - s.deviceAt s.now)

/-! ### The Caravan's entries (R93-R99) -/

/-- The Caravan entry whose word 2 stands at address `a`. -/
def crvEntryOf (a : Nat) : Option Nat :=
  if 0x11800 ≤ a ∧ a < 0x11A00 then some ((a - 0x11800) / 16)
  else if 0x12100 ≤ a ∧ a < 0x13000 then some (32 + (a - 0x12100) / 16)
  else if 0x13100 ≤ a ∧ a < 0x14000 then some (272 + (a - 0x13100) / 16)
  else none

/-- Armed entries, by rising index: those whose word 2 has VALID 1 (R95). -/
def State.crvArmed (s : State) : List Nat :=
  s.regs.filterMap (fun e => match crvEntryOf e.1 with
    | some i => if e.1 = Reg.crvW i 2 ∧ e.2.getLsbD 31 then some i else none
    | none => none)

/-- The frame a MODE 0 stamp names, relative to the current frame (R97). -/
def State.stampDiff (s : State) (frame32 : Nat) : Int := signedBits (frame32 + (2 ^ 32 - s.ras.frame % 2 ^ 32)) 32

/-- Whether a periodic entry matches frame `f` (R95). -/
def periodMatches (w1 f : Nat) : Bool := w1 % 65536 != 0 && f % (w1 % 65536) == w1 / 65536

/-- The instant of an entry's stamp: MODE 0 its one instant, MODE 1 the occurrence in the current frame, if any. -/
def State.stampInstant (s : State) (e : Nat) : Option Int :=
  let w0 := s.rd (Reg.crvW e 0)
  let w1 := s.rd (Reg.crvW e 1)
  if s.flag (Reg.crvW e 2) 24 then
    (if periodMatches w1 s.ras.frame then some (s.posInstant s.ras.frame (w0 % 65536) (w0 / 65536)) else none)
  else some (s.posInstant ((s.ras.frame : Int) + s.stampDiff w1) (w0 % 65536) (w0 / 65536))

/-- Discard an entry unfired (R99, the situation table). -/
def State.crvMiss (s : State) (e : Nat) : State :=
  ((s.setFlag (Reg.crvW e 2) 31 false).add Reg.rasCrvMissedCount 1).raise 0x11000 2

/-- The occurrence of a periodic entry in this frame is over (R99). -/
def State.crvOver (s : State) (e : Nat) : State :=
  if s.crv.firedNow.contains e then s else { s with crv := { s.crv with firedNow := e :: s.crv.firedNow } }

/-- Whether entry `e` has reached its stamp in an earlier frame and waits for the dispatcher (R98). -/
def State.crvWaits (s : State) (e : Nat) : Bool := s.crv.waiting.any (fun w => w.2 == e)

/-- What a relabel, retime, timing change or a passing with EN 0 leaves behind: MODE 0 entries that have not been reached are
discarded, occurrences of MODE 1 entries are skipped and not counted, and entries whose line or column no longer exists are discarded
(situation table of R99). -/
def State.crvSweep (s : State) : State :=
  s.crvArmed.foldl (fun s e =>
    let w0 := s.rd (Reg.crvW e 0)
    if s.ras.timing.vtotal ≤ w0 % 65536 ∨ s.ras.timing.htotal ≤ w0 / 65536 then s.crvMiss e
    else if (match s.stampInstant e with | some i => decide (i < s.now) | none => false) then
      (if s.flag (Reg.crvW e 2) 24 then s.crvOver e else if s.crvWaits e then s else s.crvMiss e)
    else s) s

/-- While RAS_CRV_CTRL.EN is 0, entries whose stamps pass are discarded as missed, and occurrences of periodic ones skipped. -/
def State.crvDisabledSweep (s : State) : State :=
  if s.flag Reg.rasCrvCtrl 0 then s else { s with crv := { s.crv with waiting := [] } }.crvSweep

/-- Arming checks of R97 on a write of word 2 with VALID 1; the ranges of LINE and COLUMN are those in force. -/
def State.crvArmCodes (s : State) (e data : Nat) : List Nat :=
  let w0 := s.rd (Reg.crvW e 0)
  let w1 := s.rd (Reg.crvW e 1)
  let w3 := s.rd (Reg.crvW e 3)
  let act := bitsOf data 23 20
  let mode := bitOf data 24
  let page := bitsOf data 19 0 * 4 / 0x1000
  codeIf (s.flag (Reg.crvW e 2) 31) 9
  ++ codeIf ((mode && w1 % 65536 == 0) || (act == 3 && (w3 % 16 == 0 || bitsOf w3 19 8 == 0))) 2
  ++ codeIf (decide (s.ras.timing.vtotal ≤ w0 % 65536) || decide (s.ras.timing.htotal ≤ w0 / 65536) || decide (4 < act)
      || (mode && decide (w1 % 65536 ≤ w1 / 65536))) 1
  ++ codeIf ((act == 1 && decide (0x11 ≤ page ∧ page ≤ 0x13)) || (act == 0 && !bitOf data 25)) 6
  ++ codeIf (!mode && decide (s.posInstant ((s.ras.frame : Int) + s.stampDiff w1) (w0 % 65536) (w0 / 65536) < s.now + us)) 0x101

/-- A periodic entry armed behind its occurrence in the current frame waits for its next one. -/
def State.crvArmed1 (s : State) (e : Nat) : State :=
  if s.flag (Reg.crvW e 2) 24 && (match s.stampInstant e with | some i => decide (i < s.now) | none => false) then
    s.crvOver e
  else s

/-- Occurrences of armed entries that have been reached in this frame and have not been dispatched: instant and entry. -/
def State.crvReached (s : State) : List (Int × Nat) :=
  s.crvArmed.filterMap (fun e => match s.stampInstant e with
    | some i => if i ≤ s.now ∧ !s.crv.firedNow.contains e ∧ (s.flag (Reg.crvW e 2) 24 ∨ !s.crvWaits e) then some (i, e) else none
    | none => none)

/-- Everything that waits for the dispatcher, occurrences of earlier frames among it (R98). -/
def State.crvDue (s : State) : List (Int × Nat) := s.crv.waiting.filter (fun w => s.crvArmed.contains w.2) ++ s.crvReached

/-- The line-0 start that ends a frame keeps what has been reached and still waits for the dispatcher (R98). -/
def State.crvFrameEnd (s : State) : State := { s with crv := { s.crv with waiting := s.crvDue } }

/-- Whether an occurrence is dispatched before another: the earlier stamp, and of equal stamps the lower index (R98). -/
def crvBefore (a b : Int × Nat) : Bool := decide (a.1 < b.1 ∨ (a.1 = b.1 ∧ a.2 ≤ b.2))

/-- The occurrence of entry `e` that is dispatched next, if it is its turn: no other comes before it (R98). -/
def State.crvTurn (s : State) (e : Nat) : Option (Int × Nat) := s.crvDue.find? (fun d => d.2 == e && s.crvDue.all (crvBefore d))

/-- Whether entry `e` is the next to be dispatched: it is its turn, it is of action `act`, and 12.5 ns have passed since the last
dispatch (R98). -/
def State.crvNext (s : State) (e act : Nat) : Bool :=
  (s.crvTurn e).isSome && s.fld (Reg.crvW e 2) 23 20 == act &&
    (match s.crv.lastIssue with | some i => decide (2 * i + 25 * ns ≤ 2 * s.now) | none => true)

/-- The occurrence that has been dispatched is over: one of an earlier frame leaves the list, one of this frame is marked. -/
def State.crvTaken (s : State) (e : Nat) : State :=
  if s.crvWaits e then
    { s with crv := { s.crv with waiting := s.crv.waiting.eraseIdx (s.crv.waiting.findIdx (fun w => w.2 == e)) } }
  else s.crvOver e

/-- What every dispatch does beside the action: counters, LATE, VALID of a once entry, NOTIFY (R94-R98). RAS_CRV_LAST shows the
index and the LINE of the entry (log entry 137). -/
def State.crvFire (s : State) (e : Nat) (notify : Bool) : State :=
  let late := match s.crvTurn e with | some d => decide (d.1 + 150 * (ns : Int) < s.now) | none => false
  let once := !s.flag (Reg.crvW e 2) 24
  let notify := notify || s.flag (Reg.crvW e 2) 25
  let s := s.add Reg.rasCrvFiredCount 1
  let s := if late then (s.add Reg.rasCrvLateCount 1).raise 0x11000 1 else s
  let s := if once then s.setFlag (Reg.crvW e 2) 31 false else s.crvTaken e
  let s := if notify then (s.wr Reg.rasCrvLast (e + s.fld (Reg.crvW e 0) 15 0 * 65536)).raise 0x11000 0 else s
  { s with crv := { s.crv with lastIssue := some s.now } }

/-- A dispatch: nothing unless the entry is next; while EN is 0 a MODE 0 entry is discarded and a MODE 1 occurrence is
skipped (situation table of R99). -/
def State.crvDispatch (s : State) (e act : Nat) (notify : Bool) (action : State → State) : State :=
  if s.domOn 5 && s.crvNext e act then
    if s.flag Reg.rasCrvCtrl 0 then action (s.crvFire e notify)
    else if s.flag (Reg.crvW e 2) 24 then s.crvTaken e
    else s.crvMiss e
  else s

/-! ### EVT_OUT pins (R96) -/

/-- The levels at the balls. -/
def State.pinWord (s : State) : Nat :=
  s.crv.pins.zipIdx.foldl (fun a p => a + (if p.1.level then 2 ^ p.2 else 0)) 0

/-- Replace a pin; a change of level leaves the package. -/
def State.setPin (s : State) (k : Nat) (p : EvtPin) : State :=
  let old := (s.crv.pins.getD k p).level
  let s' := { s with crv := { s.crv with pins := s.crv.pins.set k p } }
  let s' := s'.wr Reg.rasCrvPins s'.pinWord
  if old = p.level then s' else s'.emit (.evtPin k p.level)

/-- PIN_SET with operand `d`. -/
def State.pinSetOp (s : State) (d : Nat) : State :=
  (List.range 4).foldl (fun s k =>
    if bitOf d (4 + k) then s.setPin k { base := bitOf d k, level := bitOf d k, pulseEnd := none } else s) s

/-- PIN_PULSE with operand `d`: a running pulse ends at the later of the two ends. -/
def State.pinPulseOp (s : State) (d : Nat) : State :=
  (List.range 4).foldl (fun s k =>
    if bitOf d k then
      match s.crv.pins[k]? with
      | some p =>
        let e := s.now + bitsOf d 19 8 * 10 * ns
        s.setPin k { base := p.base, level := !p.base, pulseEnd := some (max e (p.pulseEnd.getD 0)) }
      | none => s
    else s) s

/-- The end of a pulse: the pin returns to its base level. -/
def State.pinPulseEndOp (s : State) (k : Nat) : State :=
  match s.crv.pins[k]? with
  | some p => match p.pulseEnd with
    | some e => if e ≤ s.now then s.setPin k { base := p.base, level := p.base, pulseEnd := none } else s
    | none => s
  | none => s

/-- TIMESTAMP: device time and the entry index into the CAP registers (R94, R96). -/
def State.timestampOp (s : State) (e : Nat) : State :=
  let d := s.device / ns
  ((((s.wr Reg.rasCrvCapSecLo (d / 1000000000 % 2 ^ 32)).wr Reg.rasCrvCapSecHi (d / 1000000000 / 2 ^ 32)).wr Reg.rasCrvCapNs
    (d % 1000000000)).wr Reg.rasCrvCapIdx e)

/-! ### Lock state and relabels -/

/-- Line-0 starts after which step 5 ends when holdover begins now: one whole frame later (R92). -/
def State.holdWait (s : State) : Nat := s.ras.stepFrames + (if s.ras.line = 0 ∧ s.now = s.ras.frameStart then 1 else 2)

/-- Move the lock state; a change raises RAS_LOCK_CHANGE (R83). A holdover that begins in step 5 ends it one frame later (R92). -/
def State.setLock (s : State) (l : Nat) : State :=
  if s.ras.lock = l then s
  else { s with ras := { s.ras with lock := l, good := 0, holdFrames := if l = 3 ∧ s.ras.step = 5 then s.holdWait else s.ras.holdFrames } }.raise
    0x10000 4

/-- The lock state follows device time (R83): `valid` once device time has been valid, `holdover` in holdover. -/
def State.lockFollow (s : State) (valid holdover : Bool) : State :=
  if s.ras.lock = 0 then (if valid then s.setLock 1 else s)
  else if s.ras.lock = 3 then (if holdover then s else s.setLock 1)
  else if holdover then s.setLock 3 else s

/-- The phase error of a line-0 start at the present instant, in 2^-32 ns (R82). -/
def State.phaseErr (s : State) : Int := s.deviceAt s.now - s.idealStart s.ras.frame 0

/-- RAS_PHASE_ERR in nanoseconds, saturating (R80). -/
def State.reportPhase (s : State) : State :=
  s.wr Reg.rasPhaseErr (toBits 32 (clampI (-(2 ^ 31 - 1)) (2 ^ 31 - 1) (s.phaseErr / (ns : Int))))

/-- Relabel F at a line-0 start (R85); entries left behind are discarded. -/
def State.relabel (s : State) (f : Nat) : State :=
  ({ s with ras := { s.ras with frame := f % 2 ^ 64 } }.add Reg.rasRelabelCount 1).crvSweep

/-- The magnitude of an integer. -/
def absI (v : Int) : Int := if v < 0 then -v else v

/-- The line time in 2^-32 ns. -/
def Timing.lineTime (t : Timing) : Nat := if t.vtotal = 0 then 0 else t.period / t.vtotal

/-- By what ACQUIRE offsets a frame's period: at most SLEW_PPM, until the error is cancelled (R84). -/
def State.slewFor (s : State) : Int :=
  let most : Int := (s.fld Reg.rasLockCtrl 23 16 * s.ras.timing.period / 1000000 : Nat)
  clampI (-most) most (-s.phaseErr)

/-- What a line-0 start measures and does (R82-R85). `lit` says that the backlight is on. The lock rules take the error as
measured; what is reported and acted on in ACQUIRE is the error against the frame number that holds after a relabel (log entry 42).
A transition that becomes due carries the number the frame had before the relabel: everything tagged follows it (R85). -/
def State.line0Lock (s : State) (lit : Bool) : State :=
  let before := s.ras.frame
  let measured := absI s.phaseErr
  let first := s.ras.lock = 1 && !s.ras.acquired
  let far := s.ras.lock ≠ 0 && decide ((s.ras.timing.period : Int) < 2 * measured)
  let s := if first || far then s.relabel (s.nearestFrame (s.deviceAt s.now)) else s
  let s := if first then { s with ras := { s.ras with acquired := true } } else s
  let err := absI s.phaseErr
  let s := s.reportPhase
  let near := decide (measured < 50 * (ns : Int))
  let s := { s with ras := { s.ras with good := if near then s.ras.good + 1 else 0, slew := 0 } }
  if s.ras.lock = 2 then (if decide (75 * (ns : Int) < measured) then s.setLock 1 else s)
  else if s.ras.lock = 1 then
    if 16 ≤ s.ras.good then s.setLock 2
    else if s.ras.step = 0 && s.ras.transDue = none && s.flag Reg.rasLockCtrl 8 &&
        decide ((s.fld Reg.rasLockCtrl 7 0 * s.ras.timing.lineTime : Nat) < err) then
      { s with ras := { s.ras with transDue := some before, skipFade := !lit } }
    else { s with ras := { s.ras with slew := s.slewFor } }
  else s

/-! ### Timing changes -/

/-- Whether two timings differ in a timing register (R91); HORIZON is none of them. -/
def Timing.sameTiming (a b : Timing) : Bool := decide ({ a with horizon := 0 } = { b with horizon := 0 })

/-- |a - b| of naturals. -/
def natDist (a b : Nat) : Nat := (a - b) + (b - a)

/-- The conditions of a seamless change (R91). -/
def Timing.seamless (a b : Timing) : Bool :=
  a.vactive == b.vactive && a.hactive == b.hactive && a.regions == b.regions && a.period == b.period &&
  decide (natDist a.vfront b.vfront ≤ 64) && decide (natDist a.vsync b.vsync ≤ 64) && decide (natDist a.vback b.vback ≤ 64) &&
  decide (natDist a.hfront b.hfront ≤ 1024) && decide (natDist a.hsync b.hsync ≤ 1024) && decide (natDist a.hback b.hback ≤ 1024)

/-- The checks of R81 on the timing a group commit would put in force: codes in ascending order. -/
def State.timingCodes (s : State) (new : Timing) : List (Nat × Nat) :=
  let old := timingFrom s.rd
  (if (s.ras.step ≠ 0 ∨ s.ras.newTiming ≠ none) ∧ !new.sameTiming old then [(0x102, 0x40)] else []) ++
  (if new.period < 1600 * ns * new.vtotal then [(0x103, 0x58)] else []) ++
  (if 32768 * 18432 < new.hactive * new.vactive * new.regionCount ∨
      110 * new.period < new.hactive * new.vactive * new.regionCount * 3 * ns then [(0x104, 0x48)] else [])

/-- What the timing values of a group commit lead to (R88, R91, R92). -/
def State.takeTiming (s : State) (old new : Timing) : State :=
  if new.sameTiming old then
    (if new.horizon = s.ras.timing.horizon then s
     else { s with ras := { s.ras with nextTiming := some { s.ras.timing with horizon := new.horizon },
                                       newTiming := s.ras.newTiming.map (fun t => { t with horizon := new.horizon }) } })
  else if old.seamless new then { s with ras := { s.ras with nextTiming := some new } }
  else
    { s with ras := { s.ras with nextTiming := some { s.ras.timing with horizon := new.horizon }, newTiming := some new,
                                 transDue := some (s.ras.frame + 1), skipFade := false } }

/-- A line-0 start puts the pending timing in force; a change of a timing register discards entries that it leaves behind or without
their line or column (R88, R91, R99). -/
def State.applyNextTiming (s : State) : State :=
  match s.ras.nextTiming with
  | some t =>
    let s' := { s with ras := { s.ras with timing := t, nextTiming := none } }
    if t.sameTiming s.ras.timing then s' else s'.crvSweep
  | none => s

end Sys2Proof.Machine
end

