-- ==== Sys2Proof/Machine/Scene.lean ====
section
/-! DEFINITION. The scene store and the scene windows: versions, copy-on-write, units, the latch, window fills and
demand, block table queries (R100-R131). -/

namespace Sys2Proof.Machine

/-- A map of plane descriptors: a plane nobody has defined has none. -/
def noPlane : Nat → Option PlaneDesc := fun _ => none
/-- A directory: a block row without a page has page 0. -/
def noPage : Nat → Nat := fun _ => 0
/-- Block rows that no command has emptied: their entries were written in no version (R109). -/
def noBlank : Nat → Nat := fun _ => 0
/-- An entry that is EMPTY since version `t` (R108, R109). -/
def emptySince (t : Nat) : Entry := { Entry.empty with version := t }
/-- An entry that a table page does not list is EMPTY (R108). -/
def noEntry (t : Nat) : Nat → Entry := fun _ => emptySince t

/-- The descriptor of plane `p` in a version. -/
def Version.plane (v : Version) (p : Nat) : Option PlaneDesc := Sparse.get noPlane v.planes p

/-- The table page of block row `by_` of plane `p`. -/
def Version.pageId (v : Version) (p by_ : Nat) : Nat := Sparse.get noPage v.dir (p * 144 + by_)

/-- VERSION of the EMPTY entries of a block row without a page (R109). -/
def Version.blankOf (v : Version) (p by_ : Nat) : Nat := Sparse.get noBlank v.blank (p * 144 + by_)

/-- A table page by its number. -/
def Scn.page (c : Scn) (id : Nat) : Option TablePage := c.pages.find? (fun p => p.id == id)

/-- The entry of block (bx, by) of plane `p` in version `v` (R108). -/
def Scn.entry (c : Scn) (v : Version) (p bx by_ : Nat) : Entry :=
  match c.page (v.pageId p by_) with
  | some pg => Sparse.get (noEntry pg.base) pg.entries bx
  | none => emptySince (v.blankOf p by_)

/-- Every version the store holds (R111). -/
def Scn.versions (c : Scn) : List Version := c.front.toList ++ c.back.toList ++ c.pendingV ++ c.staging.toList

/-- The newest committed version: the newest pending one, otherwise the front one (R112, R145). -/
def Scn.newest (c : Scn) : Option Version := match c.pendingV.getLast? with | some v => some v | none => c.front

/-- Length of a unit's space: it starts on a 64-byte boundary (R107). -/
def unitSpace (n : Nat) : Nat := (n + 63) / 64 * 64

/-- Bytes in use: a directory of 36,864 bytes for each version, and the units and table pages (R108, R115). -/
def Scn.used (c : Scn) : Nat := c.versions.length * 36864 + (c.units.map (fun u => unitSpace u.2)).sum

/-- Bytes of the region. -/
def Scn.size (c : Scn) : Nat := match c.region with | some l => (l.map (fun x => x.2)).sum | none => 0

/-- Addresses of the units that a table page holds. -/
def TablePage.units (p : TablePage) : List Nat := p.entries.filterMap (fun e => if e.2.kind = 1 then some e.2.addr else none)

/-- Release what no version holds, with the window slots of the units released (R117, R119); SCN_STAT_FREED counts the units. The
old space of a unit that has been moved stays taken until the latch that frees it (R247). -/
def State.scnGc (s : State) : State :=
  let c := s.scn
  let ids := c.versions.flatMap (fun v => v.dir.map (fun e => e.2))
  let pages := c.pages.filter (fun p => ids.contains p.id)
  let held := pages.flatMap TablePage.units
  let units := c.units.filter (fun u => held.contains u.1 || pages.any (fun p => p.addr == u.1) || s.plc.freeing.contains u)
  let windows := c.windows.map (fun w => w.filter (fun x => held.contains x.addr))
  { s with scn := { c with pages := pages, units := units, windows := windows } }.add (Reg.scnStat 3)
    (c.units.countP (fun u => !units.contains u && !c.pages.any (fun p => p.addr == u.1)))

/-- Raise SCN_STORE_LOW when the free space has fallen below the reserve (R118). -/
def State.scnLowCheck (s : State) : State :=
  let low := s.scn.region.isSome && decide (s.scn.size - s.scn.used < s.rd Reg.scnStoreReserve * 2 ^ 20)
  let s' := { s with scn := { s.scn with lowRaised := low } }
  if low && !s.scn.lowRaised then s'.raise 0x20000 2 else s'

/-- The number of versions below which a new staging version may open (R111, R147). -/
def Scn.roomForVersion (c : Scn) : Bool := decide (c.versions.length ≤ 3)

/-! ### Allocation -/

/-- First 64-byte-aligned gap of `n` bytes at or above `lo` among units ordered by address. -/
def firstGap (n : Nat) : Nat → List (Nat × Nat) → Nat
  | lo, [] => lo
  | lo, (a, len) :: us => if lo + n ≤ a then lo else firstGap n (max lo (a + unitSpace len)) us

/-- The end of each channel's range that the unit spaces of the Oasis stand in, by tile position (R215; log entry 54). -/
def oasSpan : Nat := 2 * 36864 * 30720

/-- Where the space that Barchan places on channel `c` ends, below the Oasis (log entries 14 and 54). -/
def State.placeTop (s : State) (c : Nat) : Nat := chanBase c + (s.chanCap c - oasSpan)

/-- Where a unit of `n` bytes goes on channel `c`, whose scene space is the last `share` bytes of its range below the Oasis (log entry 14). -/
def State.gapOn (s : State) (c share n : Nat) : Option Nat :=
  let top := s.placeTop c
  let lo := max (chanBase c) (top - share)
  let a := firstGap (unitSpace n) lo (s.scn.units.filter (fun u => decide (lo ≤ u.1 ∧ u.1 < top)))
  if a + unitSpace n ≤ top ∧ s.chanUsable c ∧ s.unitState (119 + c) = 0 then some a else none

/-- Channels that data may be placed on: ACTIVE, fitted, and not being or about to be evacuated (R246, R248, R258). -/
def State.placeChannels (s : State) : List Nat :=
  (List.range 12).filter (fun c => s.unitState (119 + c) == 0 && decide (0 < s.chanCap c) && !s.plc.evacWait.contains c &&
    !s.plc.evac.any (fun e => e.channel == c))

/-- The channel order of R246 for a new unit of block (bx, by) of a plane: from list[(bx + 3 by + 5 plane) mod n] on. -/
def rotated {α : Type} (l : List α) (k : Nat) : List α := l.drop (k % max l.length 1) ++ l.take (k % max l.length 1)

/-- The scene space of channel `c` of the region. -/
def Scn.share (c : Scn) (chan : Nat) : Nat := ((c.region.getD []).find? (fun x => x.1 == chan)).elim 0 (fun x => x.2)

/-- The address of a new unit, if the scene space has room (R118, R246). A channel without scene space is passed over. -/
def State.placeUnit (s : State) (p bx by_ n : Nat) : Option Nat :=
  if s.scn.region.isSome && decide (s.scn.used + unitSpace n ≤ s.scn.size) then
    (rotated s.placeChannels (bx + 3 * by_ + 5 * p)).findSome? (fun c => s.gapOn c (s.scn.share c) n)
  else none

/-- Insert a unit in address order. -/
def insertUnit (u : Nat × Nat) : List (Nat × Nat) → List (Nat × Nat)
  | [] => [u]
  | v :: vs => if u.1 < v.1 then u :: v :: vs else v :: insertUnit u vs

/-- Take the space of a unit or a table page. -/
def State.takeSpace (s : State) (a n : Nat) : State := { s with scn := { s.scn with units := insertUnit (a, n) s.scn.units } }

/-- Store a unit's bytes in new space; `none` where no space is left. -/
def State.storeUnit (s : State) (p bx by_ : Nat) (bytes : List Byte) : Option (Nat × State) :=
  match s.placeUnit p bx by_ bytes.length with
  | none => none
  | some a =>
    some (a, (s.dramWrite a bytes).takeSpace a bytes.length)

/-! ### The staging version -/

/-- Whether another version than the staging one points at table page `id`. -/
def Scn.shared (c : Scn) (id : Nat) : Bool :=
  (c.front.toList ++ c.back.toList ++ c.pendingV).any (fun v => v.dir.any (fun e => e.2 == id))

/-- A new table page of the staging version for block row `by_` of plane `p`; `none` where no space is left. -/
def State.newPage (s : State) (v : Version) (p by_ base : Nat) (entries : Sparse Entry) : Option State :=
  match s.placeUnit p 0 by_ 4096 with
  | none => none
  | some a =>
    let id := s.scn.nextPage
    let v' := { v with dir := Sparse.set noPage v.dir (p * 144 + by_) id }
    let np : TablePage := { id := id, addr := a, base := base, entries := entries }
    some ({ s with scn := { s.scn with staging := some v', pages := s.scn.pages ++ [np], nextPage := id + 1 } }.takeSpace a 4096)

/-- Set one entry of the staging version, copying a shared table page first (R115); `none` where no space is left. -/
def State.setEntry (s : State) (p bx by_ : Nat) (e : Entry) : Option State :=
  match s.scn.staging with
  | none => some s
  | some v =>
    let e := { e with version := v.tag % 2 ^ 32 }
    let id := v.pageId p by_
    match s.scn.page id with
    | some pg =>
      if s.scn.shared id then (s.newPage v p by_ pg.base (Sparse.set (noEntry pg.base) pg.entries bx e)).map (fun s => s.add (Reg.scnStat 1) 1)
      else
        let pages := s.scn.pages.map (fun q => if q.id = id then { q with entries := Sparse.set (noEntry q.base) q.entries bx e } else q)
        some { s with scn := { s.scn with pages := pages } }
    | none => s.newPage v p by_ (v.blankOf p by_) (Sparse.set (noEntry (v.blankOf p by_)) [] bx e)

/-- The raw bytes of a block of one texel. -/
def fillBlock (texel : Nat) : List Byte := (List.replicate 4096 (leBytes 5 texel)).flatten

/-- How a block reads: its 20,480 raw bytes, with `unreadable` where it is BAD or its unit fails, and `bad` where the
unit failed its check value (R110, R139). -/
structure BlockRead where
  bytes : List Byte
  unreadable : Bool
  bad : Bool
  deriving DecidableEq, Repr

/-- Read an entry's block from DRAM (R110, R139, R157). -/
def State.readBlock (s : State) (e : Entry) : BlockRead :=
  if e.kind = 0 then { bytes := fillBlock 0, unreadable := false, bad := false }
  else if e.kind = 2 then { bytes := fillBlock e.texel, unreadable := false, bad := false }
  else if e.kind = 3 then { bytes := fillBlock 0, unreadable := true, bad := false }
  else match s.dramRead e.addr e.len with
    | none => { bytes := fillBlock 0, unreadable := true, bad := false }
    | some u =>
      let r := mbcUnit (some e.len) none u
      if r.code = 0 ∧ r.out.length = 20480 then { bytes := r.out, unreadable := false, bad := false }
      else { bytes := fillBlock 0, unreadable := true, bad := decide (r.code = 0x408) }

/-- Mark every entry that holds the unit at `addr` BAD, in every version (R124). The statistic and the report count one for the
unit, however many entries share it (log entry 141). -/
def State.markBad (s : State) (addr : Nat) : State :=
  let pages := s.scn.pages.map (fun p => { p with entries := p.entries.map (fun e =>
    if e.2.kind = 1 ∧ e.2.addr = addr then (e.1, { e.2 with kind := 3, addr := 0, len := 0 }) else e) })
  let s := { s with scn := { s.scn with pages := pages }, ing := { s.ing with repBad := s.ing.repBad + 1 } }
  ((s.add (Reg.scnStat 5) 1).raise 0x20000 5).scnGc

/-- Texel (i, j) of a block's raw bytes (R107). -/
def texelAt (block : List Byte) (i j : Nat) : Nat := leNat (slice block ((64 * j + i) * 5) 5)

/-- A block edited texel by texel. -/
def editBlock (block : List Byte) (f : Nat → Nat → Nat → Nat) : List Byte :=
  (List.range 4096).flatMap (fun k => leBytes 5 (f (k % 64) (k / 64) (texelAt block (k % 64) (k / 64))))

/-- Store an edited block as a new unit of the staging version (R115, R116); `none` where no space is left. -/
def State.storeEdited (s : State) (p bx by_ : Nat) (raw : List Byte) : Option State :=
  let mode := if s.flag Reg.scnCtrl 1 then 2 else 1
  let unit := mbcEncode mode Config.editPred.toNat 1 64 false raw
  match s.storeUnit p bx by_ unit with
  | none => none
  | some (a, s') => match s'.setEntry p bx by_ { kind := 1, addr := a, len := unit.length, texel := 0, version := 0 } with
    | none => none
    | some s'' => some (s''.add (Reg.scnStat 2) 1)

/-- The entry of the staging version. -/
def State.stagingEntry (s : State) (p bx by_ : Nat) : Entry :=
  match s.scn.staging with
  | some v => s.scn.entry v p bx by_
  | none => Entry.empty

/-- Edit part of one block of the staging version. The flag of the result says that the block was unreadable (R139). -/
def State.editPartial (s : State) (p bx by_ : Nat) (f : Nat → Nat → Nat → Nat) : Option (Bool × State) :=
  let e := s.stagingEntry p bx by_
  let r := s.readBlock e
  match s.storeEdited p bx by_ (editBlock r.bytes f) with
  | none => none
  | some s' => some (r.unreadable, if r.bad then s'.markBad e.addr else s')

/-! ### Opening, latching and retiring versions -/

/-- The latch cycle: line LATCH has begun and its latch has not been taken (R66). -/
def State.latchCycle (s : State) : Bool := s.ras.line == s.ras.timing.latch && !s.ras.latched

/-- The target of a staging version: in the latch cycle one that this latch would serve has moved on already, since a completion there
counts as after the latch (R146, R148). -/
def State.targetOf (s : State) (v : Version) : Nat := if s.latchCycle ∧ v.tag ≤ s.ras.frame + 1 then s.ras.frame + 2 else v.tag

/-- The first frame that a latch not yet begun can serve (R112). -/
def State.servable (s : State) : Nat := if s.ras.line < s.ras.timing.latch then s.ras.frame + 1 else s.ras.frame + 2

/-- The target of a new staging version (R112). -/
def State.newTarget (s : State) : Nat :=
  match s.scn.newest with
  | some v => max (v.tag + 1) s.servable
  | none => s.servable

/-- Open a staging version that shares everything with the newest version (R112, R115). Its directory is taken without a check of the
free space (log entry 142). -/
def State.openStaging (s : State) : State :=
  if s.scn.region.isSome && !s.scn.discard && !s.scn.release && s.scn.staging.isNone && s.scn.roomForVersion then
    let v := match s.scn.newest with
      | some n => { n with tag := s.newTarget, tagged := [] }
      | none => { tag := s.newTarget, planes := [], dir := [], blank := [], tagged := [] }
    { s with scn := { s.scn with staging := some v } }.scnLowCheck
  else s

/-- Retire the back version (R111, R117). -/
def State.retireBack (s : State) : State :=
  if s.scn.back.isSome then { s with scn := { s.scn with back := none } }.scnGc.scnLowCheck else s

/-- The latch of the scene (R111, R113, R126, R131); frame `n` is the one the latch serves. Where pending versions exist and none is
due yet, the latch is a hold (log entry 143). -/
def State.scnLatch (s : State) (n : Nat) : State :=
  if s.scn.discard then
    { s with scn := { s.scn with front := none, back := none, pendingV := [], staging := none, discard := false,
                                 release := true, waiting := none, heldLatch := false } }.scnGc
  else
    let due := s.scn.pendingV.filter (fun v => decide (v.tag ≤ n))
    let later := s.scn.pendingV.filter (fun v => !decide (v.tag ≤ n))
    match due.getLast? with
    | some v =>
      let back := if s.ras.line < s.ras.timing.vactive then s.scn.front else none
      ({ s with scn := { s.scn with front := some v, back := back, pendingV := later, heldLatch := false } }.raise 0x20000 0).scnGc
    | none =>
      let s := { s with scn := { s.scn with heldLatch := s.scn.front.isSome } }
      if s.scn.front.isSome then (s.raise 0x20000 1).add (Reg.scnStat 4) 1 else s

/-- Whether some enabled session has a gap open (R148). -/
def State.gapOpen (s : State) : Bool := s.ing.sessions.any (fun x => x.gapAt.isSome)

/-- The entries written in the staging version `v` carry the tag it will close with (R109, R111): a target that moves from `a` to `b`
takes them along. -/
def State.restamp (s : State) (v : Version) (a b : Nat) : State :=
  let own := fun (p : TablePage) => v.dir.any (fun e => e.2 == p.id) && !s.scn.shared p.id
  let move := fun (t : Nat) => if t = a % 2 ^ 32 then b % 2 ^ 32 else t
  let pages := s.scn.pages.map (fun p => if own p then
      { p with base := move p.base, entries := p.entries.map (fun e => (e.1, { e.2 with version := move e.2.version })) } else p)
  let blank := v.blank.foldl (fun m e => Sparse.set noBlank m e.1 (move e.2)) []
  { s with scn := { s.scn with pages := pages, staging := some { v with blank := blank } } }

/-- A staging version whose target the latch has reached incomplete moves its target on (R148). -/
def State.stagingLatch (s : State) (n : Nat) : State :=
  match s.scn.staging with
  | some v =>
    if v.tag ≤ n then
      let dropped := v.tagged.contains v.tag || s.gapOpen
      let s := s.restamp v v.tag (n + 1)
      let s := { s with scn := { s.scn with staging := s.scn.staging.map (fun x => { x with tag := n + 1 }) }, ing := { s.ing with dropped := dropped } }
      if dropped then (s.raise 0x30000 0).add (Reg.ingStat 8) 1 else s
    else { s with ing := { s.ing with dropped := false } }
  | none => { s with ing := { s.ing with dropped := false } }

/-- The release of a discarded region, at a line of vertical blanking (R131). -/
def State.storeRelease (s : State) : State :=
  if s.scn.release && decide (s.ras.timing.vactive ≤ s.ras.line) then
    { s with scn := { s.scn with release := false, region := none, lowRaised := false } }
  else s

/-! ### Depth and window demand -/

/-- rnd_0 of a / b: the nearest integer, ties toward +∞ (R169). -/
def rnd0 (a : Int) (b : Nat) : Int := (2 * a + b) / (2 * b)

/-- The effective depth of a plane depth, in units of 2^-8 mm (R104). -/
def State.zEff (s : State) (z : Int) : Int :=
  clampI (-(2 ^ 23)) (2 ^ 23 - 1)
    (rnd0 (z * s.fld Reg.scnDepthScale 15 0) 4096 + signedBits (s.fld Reg.scnDepthOffset 23 0) 24)

/-- The planes of a version that take part in synthesis, nearest first (R104). -/
def State.activePlanes (s : State) (v : Version) : List (Nat × PlaneDesc) :=
  let l := (List.range 32).filterMap (fun p => match v.plane p with
    | some d => if d.en && s.flag Reg.scnPlaneMask p then some (p, d) else none
    | none => none)
  l.mergeSort (fun a b => decide (s.zEff a.2.z < s.zEff b.2.z ∨ (s.zEff a.2.z = s.zEff b.2.z ∧ a.1 ≤ b.1)))

/-- Window demand of one plane over `cols` tile columns, in slots (R121), under the timing and HORIZON of the frame that the latch
serves (R204); lengths in units of 2^-44 texel. -/
def State.planeDemand (s : State) (cols : Nat) (d : PlaneDesc) : Nat :=
  let tan := s.fld Reg.synLnsTanh 17 0
  let tanv := if s.flag Reg.synLnsCtrl 0 then s.fld Reg.synLnsTanv 17 0 else 0
  let w := cols * 1024 * s.fld Reg.synLnsPitchX 23 0 * 16
  let h := s.nextT.horizon * s.fld Reg.synLnsPitchY 23 0 * 16
  let z := (absI (s.zEff d.z)).toNat
  let ex := w + z * 2 * tan
  let ey := h + z * 2 * tanv
  let wd := (absI d.a).toNat * ex + (absI d.b).toNat * ey + 2 * 2 ^ 44
  let hd := (absI d.c).toNat * ex + (absI d.d).toNat * ey + 2 * 2 ^ 44
  s.nextT.regionCount * min (ceilDiv wd (64 * 2 ^ 44) + 1) d.wblk * min (2 * ceilDiv hd (64 * 2 ^ 44) + 2) d.hblk

/-- The demand of the front version's planes, in composite order, for `cols` tile columns (R121). -/
def State.demands (s : State) (cols : Nat) : List Nat :=
  match s.scn.front with | some v => (s.activePlanes v).map (fun p => s.planeDemand cols p.2) | none => []

/-- How many planes of a list of demands fit into `room` slots, from the nearest on (R123). -/
def planesFit (room : Nat) : List Nat → Nat
  | [] => 0
  | d :: ds => if d ≤ room then planesFit (room - d) ds + 1 else 0

/-- The demand of every slice that owns columns, at a latch (R121, R123, R127): `owned` gives the tile columns of each slice. A slice in
FENCING keeps the columns of its plan, and its demand is counted (R226; log entry 144). -/
def State.windowLatch (s : State) (owned : List Nat) : State :=
  (List.range 8).foldl (fun s k =>
    let d := (s.demands (owned.getD k 0)).sum
    if s.unitState (64 + k) ≤ 1 then
      let o := decide (1228 < d)
      let s := s.wr (Reg.scnWin (4 * k)) (min d 4095 + (if o then 2 ^ 31 else 0))
      if o then s.raise 0x20000 4 else s
    else s.wr (Reg.scnWin (4 * k)) 0) s

/-- The planes, from the nearest on, whose blocks each slice keeps resident in the frame that the latch serves (R122, R123). -/
def State.planesResident (s : State) (owned : List Nat) : List Nat :=
  (List.range 8).map (fun k => planesFit 1228 (s.demands (owned.getD k 0)))

/-! ### Window slots -/

/-- The slot of slice `k` that holds the unit at `addr` (R119). -/
def State.winSlot (s : State) (k addr : Nat) : Option WinSlot :=
  (s.scn.windows.getD k []).find? (fun w => w.addr == addr)

/-- Replace the slots of a slice. -/
def State.setWindow (s : State) (k : Nat) (w : List WinSlot) : State :=
  { s with scn := { s.scn with windows := s.scn.windows.set k w } }

/-- Replace the units that a slice's lanes wait for. -/
def State.setWanted (s : State) (k : Nat) (l : List Nat) : State := { s with scn := { s.scn with wanted := s.scn.wanted.set k l } }

/-- Drop the least recently used of the slots that `keep` does not hold back; `none` where all are held back. -/
def dropOldest (keep : Nat → Bool) (w : List WinSlot) : Option (List WinSlot) :=
  ((w.filter (fun x => !keep x.addr)).foldl (fun (m : Option WinSlot) x =>
    match m with | some y => if x.lastUse < y.lastUse then some x else some y | none => some x) none).map
      (fun x => w.filter (fun y => y.addr != x.addr))

/-- The entry that a fill of block (bx, by) of plane `p` of the front (`which` 0) or back version reads for slice `k`, where
there is one to fill: the unit is not in the window and a window decoder of the slice is ACTIVE (R119, R122). -/
def State.fillEntry (s : State) (k which p bx by_ : Nat) : Option Entry :=
  match (if which = 0 then s.scn.front else s.scn.back) with
  | none => none
  | some v =>
    let e := s.scn.entry v p bx by_
    if e.kind ≠ 1 ∨ 8 ≤ k ∨ 2 ≤ s.unitState (64 + k) ∨ (s.unitState (96 + 2 * k) ≠ 0 ∧ s.unitState (97 + 2 * k) ≠ 0) ∨
        (s.winSlot k e.addr).isSome then none
    else some e

/-- A window decoder decodes an entry's unit into a slot of slice `k` (R119, R120, R124); `keep` names the units whose slots stay
(R123). -/
def State.windowFill (s : State) (k : Nat) (keep : Nat → Bool) (e : Entry) : State :=
  match s.dramRead e.addr e.len with
  | none => s.add (Reg.scnStat 6) 1
  | some u =>
    let r := mbcUnit (some e.len) none u
    if r.code ≠ 0 ∨ r.out.length ≠ 20480 then s.markBad e.addr
    else
      let w := s.scn.windows.getD k []
      match (if w.length < 1228 then some w else dropOldest keep w) with
      | none => s
      | some w =>
        let s := s.setWindow k (w ++ [{ addr := e.addr, data := r.out, lastUse := s.scn.useCount }])
        let s := s.setWanted k ((s.scn.wanted.getD k []).filter (fun a => a != e.addr))
        { s with scn := { s.scn with useCount := s.scn.useCount + 1 } }.add (Reg.scnWin (4 * k + 3)) 1

/-- A lane of slice `k` waits for the unit at `a` (R123, R191). -/
def State.waitFor (s : State) (k a : Nat) : State :=
  if (s.scn.wanted.getD k []).contains a then s else s.setWanted k (a :: s.scn.wanted.getD k [])

/-- Rays sample the units at `l` in slice `k`: their slots are the most recently used (R123). -/
def State.useSlots (s : State) (k : Nat) (l : List Nat) : State :=
  let w := (s.scn.windows.getD k []).map (fun x => if l.contains x.addr then { x with lastUse := s.scn.useCount } else x)
  { s.setWindow k w with scn := { (s.setWindow k w).scn with useCount := s.scn.useCount + 1 } }

/-! ### Registers of the SCN page -/

/-- Descriptor word `k` of a plane (R138). -/
def PlaneDesc.word (d : PlaneDesc) (k : Nat) : Nat :=
  if k = 0 then d.wblk + d.hblk * 2 ^ 16 + (if d.tf then 2 ^ 30 else 0) + (if d.en then 2 ^ 31 else 0)
  else if k = 1 then toBits 24 d.z else if k = 2 then toBits 32 d.a else if k = 3 then toBits 32 d.b
  else if k = 4 then toBits 32 d.c else if k = 5 then toBits 32 d.d else if k = 6 then toBits 32 d.tu else toBits 32 d.tv

/-- Entry words (R109). An entry that is EMPTY or BAD holds 0 in ADDR_LO (log entry 174). -/
def Entry.words (e : Entry) : List Nat :=
  if e.kind = 1 then [e.addr / 64 % 2 ^ 32, e.addr / 2 ^ 38 % 8 + e.len * 256 + 2 ^ 28, e.version, 0]
  else if e.kind = 2 then [e.texel % 2 ^ 32, 2 ^ 29, e.version, e.texel / 2 ^ 32 % 256]
  else [0, e.kind * 2 ^ 28, e.version, 0]

/-- What a query of BX, BY, PLANE and WHICH finds (R126-R128). One that finds no entry leaves 0 in SCN_QUERY_E0-E3 (log entry 176). -/
def State.queryOf (s : State) (q : Nat) : ScnQuery :=
  let which := bitsOf q 25 24
  let v := if which = 0 then s.scn.front else if which = 1 then s.scn.back else if which = 2 then s.scn.pendingV.head? else s.scn.staging
  match v with
  | none => { words := [0, 0, 0, 0], none := true }
  | some v => match v.plane (bitsOf q 20 16) with
    | none => { words := [0, 0, 0, 0], none := true }
    | some d =>
      if bitsOf q 7 0 < d.wblk ∧ bitsOf q 15 8 < d.hblk then
        { words := (s.scn.entry v (bitsOf q 20 16) (bitsOf q 7 0) (bitsOf q 15 8)).words, none := false }
      else { words := [0, 0, 0, 0], none := true }

/-- A query's result is put in place (R128, R129). -/
def State.queryDone (s : State) : State :=
  match s.scn.query with
  | none => s
  | some q =>
    let s := (List.range 4).foldl (fun s i => s.wr (Reg.scnQueryE i) (q.words.getD i 0)) s
    let s := s.wr Reg.scnQueryStat (if q.none then 2 else 1)
    ({ s with scn := { s.scn with query := none } }.setFlag Reg.scnQuery 31 false).raise 0x20000 6

/-- SCN_STATUS (R127). -/
def State.scnStatus (s : State) : Nat :=
  let c := s.scn
  let b := fun (x : Bool) (i : Nat) => if x then 2 ^ i else 0
  (match c.front with | some v => (s.activePlanes v).length | none => 0) + c.versions.length * 2 ^ 8 + b c.heldLatch 16 +
    b (c.region.isSome && decide (c.size - c.used < s.rd Reg.scnStoreReserve * 2 ^ 20)) 17 + b c.waiting.isSome 18 +
    b ((List.range 8).any (fun k => s.flag (Reg.scnWin (4 * k)) 31)) 19 + b c.back.isSome 20 + b (!c.pendingV.isEmpty) 21 +
    b c.staging.isSome 22

/-- Computed words of the SCN page, by offset; `none` where the stored word is read. -/
def State.scnRead (s : State) (off : Nat) : Option Nat :=
  if off = 0x5C then some s.scnStatus
  else if off = 0x60 then some ((s.scn.front.map (fun v => v.tag)).getD 0 % 2 ^ 32)
  else if off = 0x64 then some ((s.scn.back.map (fun v => v.tag)).getD 0 % 2 ^ 32)
  else if off = 0x68 then some ((s.scn.pendingV.head?.map (fun v => v.tag)).getD 0 % 2 ^ 32)
  else if off = 0x6C then some ((s.scn.staging.map (fun v => v.tag)).getD 0 % 2 ^ 32)
  else if off = 0x70 then some (if s.scn.release then 0 else s.scn.used / 2 ^ 20)
  else if off = 0x74 then some (if s.scn.release then 0 else (s.scn.size - s.scn.used) / 2 ^ 20)
  else if 0x400 ≤ off ∧ off < 0x800 then
    some (match s.scn.front with
      | some v => match v.plane ((off - 0x400) / 32) with | some d => d.word ((off - 0x400) / 4 % 8) | none => 0
      | none => 0)
  else if 0x800 ≤ off ∧ off < 0x880 then
    let k := (off - 0x800) / 16
    let st := s.unitState (64 + k)
    if st = 2 ∨ st = 4 ∨ st = 5 then some 0
    else if off % 16 = 0 then some (putBits (s.rd (Reg.scnWin (4 * k))) 21 16 (s.plc.shown.countP (fun o => o == k)))
    else if off % 16 = 4 then some (s.scn.windows.getD k []).length
    else none
  else none

/-- Bytes the Oasis holds: two slots of units and index entries for every tile position (R215). -/
def State.oasBytes (s : State) : Nat :=
  let t := s.ras.timing
  2 * (t.regionCount * t.bands * t.cols) * (30720 + 4)

/-- Bytes of the ACTIVE channels beside the Oasis and control complex memory (R24, R130, R249, R257). -/
def State.placeSpace (s : State) : Nat :=
  (((List.range 12).map (fun c => if s.unitState (119 + c) = 0 then s.chanCap c else 0)).sum) - s.oasBytes - Config.cpxBytes

/-- Block-specific checks of a write to the SCN page (R126, R128, R130). -/
def State.scnCheck (s : State) (off data : Nat) : List Nat :=
  let en := s.flag Reg.scnCtrl 0
  let busy := s.scn.discard || s.scn.release
  if off = 0x40 then
    codeIf (bitOf data 0 && busy) 9 ++
    codeIf (bitOf data 0 && !en && decide (s.placeSpace < s.fld Reg.scnStoreSize 10 0 * 2 ^ 30)) 0x201
  else if off = 0x44 then codeIf (en || busy) 9
  else if off = 0x80 then codeIf (bitOf data 31 && s.flag Reg.scnQuery 31) 9
  else []

/-- The region placed over the ACTIVE channels in proportion to their capacity (R130, R246; log entry 14). -/
def State.placeRegion (s : State) : List (Nat × Nat) :=
  let chans := (List.range 12).filter (fun c => s.unitState (119 + c) == 0 && decide (0 < s.chanCap c))
  let total := (chans.map s.chanCap).sum
  chans.map (fun c => (c, s.chanCap c * (s.fld Reg.scnStoreSize 10 0 * 2 ^ 30) / max total 1 / 64 * 64))

/-- The content cache gives way to the scene region: lines that stand in its space are dropped (R130, R250; log entry 177). -/
def State.cacheGive (s : State) : State :=
  { s with plc := { s.plc with cache := s.plc.cache.filter (fun e => decide (e.addr + 2 ^ 22 ≤ s.placeTop e.chan - s.scn.share e.chan)) } }

/-- Effects of an accepted write to the SCN page; `old` is the word before it (R126, R128). While a query runs, the result of the one
before stays in place (log entry 145). -/
def State.scnEffect (s : State) (off old data : Nat) : State :=
  if off = 0x40 then
    if bitOf data 0 && !bitOf old 0 then State.cacheGive { s with scn := { s.scn with region := some s.placeRegion } }
    else if !bitOf data 0 && bitOf old 0 then { s with scn := { s.scn with discard := true } }
    else s
  else if off = 0x80 then
    if bitOf data 31 then
      { s with scn := { s.scn with query := some (s.queryOf data) } }
    else s
  else s

end Sys2Proof.Machine
end

