-- ==== Sys2Proof/Machine/Ray.lean ====
section
/-! DEFINITION. The reference arithmetic of one ray (R168-R186): position, lens phase and direction, bilinear samples,
the view-band filter, compositing and the backdrop. Every quantity is an integer code in the unit R176 gives it. -/

namespace Sys2Proof.Machine

/-- Why a ray has no result yet, or never. -/
inductive RayStop where
  | absent      -- a block is not in the window: the lane waits (R123)
  | unreadable  -- a block is BAD, or its fill returns poisoned data: the tile is dropped (R124)
  deriving DecidableEq, Repr

/-- A linear sample of one channel with its alpha, in 2^-16 OUT_PEAK and 2^-18 (R176). -/
structure Sample where
  c : Nat
  a : Nat
  deriving DecidableEq, Repr

/-- Saturation to a signed 32-bit format. -/
def sat32 (v : Int) : Int := clampI (-(2 ^ 31)) (2 ^ 31 - 1) v

/-- x of subpixel `sp`, in 2^-16 mm (R170). -/
def SynSet.x (p : SynSet) (sp : Nat) : Int := sat32 (rnd0 ((2 * (sp : Int) + 1 - 3 * p.timing.hactive) * p.pitchX) 96)

/-- G, the number of global lines (R170). -/
def SynSet.lines (p : SynSet) : Nat := p.timing.regionCount * p.timing.vactive

/-- y of global line `g`, in 2^-16 mm (R170). -/
def SynSet.y (p : SynSet) (g : Nat) : Int := sat32 (rnd0 ((2 * (g : Int) + 1 - p.lines) * p.pitchY) 32)

/-- The nominal lens phase in 2^-24 period (R171). -/
def SynSet.phiNom (p : SynSet) (sp g : Nat) : Nat :=
  (rnd0 (((2 * (sp : Int) + 1) * 2 ^ 20 - p.slant * (2 * g + 1) + p.offset * 32) * 2 ^ 24) (2 * p.lpitch) % 2 ^ 24).toNat

/-- The vertical lens phase of a lenslet array (R174). -/
def SynSet.phiV (p : SynSet) (g : Nat) : Nat :=
  (rnd0 (((2 * (g : Int) + 1) * 2 ^ 20 + p.offsetV * 32) * 2 ^ 24) (2 * p.lpitchV) % 2 ^ 24).toNat

/-- Place of a coordinate in a grid of `n` nodes: the lower node and the weight in 2^-12 (R172). -/
def gridPlace (num den n : Nat) : Nat × Nat :=
  let v := num * (n - 1)
  let i := min (v / den) (n - 2)
  (i, min (rnd0 ((v - i * den) * 4096 : Nat) den).toNat 4095)

/-- Bilinear interpolation of node values at weights fx, fy in 2^-12; the result has `extra` more fraction bits. -/
def gridLerp (n00 n10 n01 n11 : Int) (fx fy extra : Nat) : Int :=
  rnd0 ((n00 * ((4096 - fx : Nat) * (4096 - fy : Nat)) + n10 * (fx * (4096 - fy : Nat)) + n01 * ((4096 - fx : Nat) * fy) +
    n11 * (fx * fy)) * 2 ^ extra) (2 ^ 24)

/-- The corrected phase (R172). -/
def SynSet.phiC (p : SynSet) (bank : GridBank) (sp g : Nat) : Nat :=
  let nom := p.phiNom sp g
  if !p.gridEn then nom
  else
    let gx := gridPlace (2 * sp + 1) (6 * p.timing.hactive) bank.w
    let gy := gridPlace (2 * g + 1) (2 * p.lines) bank.h
    let node := fun (i j : Nat) => bank.words.getD (j * bank.w + i) 0
    let dphi := fun (i j : Nat) => signedBits (node i j % 65536) 16
    let delta := fun (i j : Nat) => signedBits (node i j / 65536) 16
    let i := gx.1
    let j := gy.1
    let dp := gridLerp (dphi i j) (dphi (i + 1) j) (dphi i (j + 1)) (dphi (i + 1) (j + 1)) gx.2 gy.2 8
    let dl := gridLerp (delta i j) (delta (i + 1) j) (delta i (j + 1)) (delta (i + 1) (j + 1)) gx.2 gy.2 6
    let f := ((nom : Int) + dp) % 2 ^ 24
    (clampI 0 (2 ^ 24 - 1) (rnd0 (2 ^ 23 * 2 ^ 24 + (f - 2 ^ 23) * (2 ^ 24 + dl)) (2 ^ 24))).toNat

/-- The slope of a tap: view `q` of `views`, tap `j` of `taps`, filter width in sixteenths of a view step (R173, R183). -/
def slope (q views tan j taps width : Nat) (flip : Bool) : Int :=
  let num : Int := (2 * (q : Int) + 1 - views) * (16 * taps) + (2 * (j : Int) - taps + 1) * (if taps = 1 then 0 else width)
  let t := rnd0 (num * tan) (16 * taps * views)
  clampI (-131072) 131071 (if flip then -t else t)

/-- u and v of plane `d` at panel point (X, Y), in 2^-8 texel (R178). -/
def PlaneDesc.uv (d : PlaneDesc) (x y : Int) : Int × Int :=
  (sat32 (rnd0 (d.a * x + d.b * y + d.tu * 2 ^ 28) (2 ^ 28)), sat32 (rnd0 (d.c * x + d.d * y + d.tv * 2 ^ 28) (2 ^ 28)))

/-- Linear light of colour code `k` (R180). -/
def SynSet.linear (p : SynSet) (tf : Bool) (k : Nat) : Nat :=
  min (2 ^ 18 - 1)
    (if tf then Pq.code k 65536 p.outPeak else (rnd0 (k * p.linearPeak * 65536 : Nat) (1023 * p.outPeak)).toNat)

/-- Corner and weights of a bilinear sample at (u, v) in 2^-8 texel (R179). -/
def corner (u v : Int) : Int × Int × Nat × Nat :=
  ((u - 128) / 256, (v - 128) / 256, ((u - 128) % 256).toNat, ((v - 128) % 256).toNat)

/-- Four values weighted as R179 weights them. -/
def bilin (fu fv : Nat) (t00 t10 t01 t11 : Nat) : Nat :=
  (256 - fu) * (256 - fv) * t00 + fu * (256 - fv) * t10 + (256 - fu) * fv * t01 + fu * fv * t11

/-- Where texels come from: plane, column, row. -/
abbrev TexelSource := Nat → Int → Int → Except RayStop Nat

/-- A bilinear sample of channel `k` of plane `p` (R179, R180). -/
def samplePlane (ps : SynSet) (tex : TexelSource) (p : Nat) (d : PlaneDesc) (k : Nat) (u v : Int) : Except RayStop Sample :=
  let c := corner u v
  (tex p c.1 c.2.1).bind fun t00 => (tex p (c.1 + 1) c.2.1).bind fun t10 => (tex p c.1 (c.2.1 + 1)).bind fun t01 =>
  (tex p (c.1 + 1) (c.2.1 + 1)).bind fun t11 =>
    let ch := fun (t : Nat) => ps.linear d.tf (bitsOf t (10 * k + 9) (10 * k))
    let al := fun (t : Nat) => bitsOf t 39 30
    .ok { c := (rnd0 (bilin c.2.2.1 c.2.2.2 (ch t00) (ch t10) (ch t01) (ch t11) : Nat) 65536).toNat,
          a := (rnd0 (bilin c.2.2.1 c.2.2.2 (al t00) (al t10) (al t01) (al t11) * 4 : Nat) 1023).toNat }

/-- The state of compositing: C, T, plane samples taken, and whether C saturated (R181). -/
structure Comp where
  c : Nat
  t : Nat
  samples : Nat
  sat : Bool
  deriving DecidableEq, Repr

def Comp.start : Comp := { c := 0, t := 262144, samples := 0, sat := false }

/-- One plane composited front to back (R181). -/
def Comp.add (x : Comp) (s : Sample) (cost : Nat) : Comp :=
  let c := x.c + (rnd0 (x.t * s.c : Nat) (2 ^ 18)).toNat
  { c := min c (2 ^ 18 - 1), t := x.t - (rnd0 (x.t * s.a : Nat) (2 ^ 18)).toNat, samples := x.samples + cost,
    sat := x.sat || decide (2 ^ 18 - 1 < c) }

/-- The mean of tap values (R183). -/
def meanSample (l : List Sample) : Sample :=
  { c := (rnd0 ((l.map (fun s => s.c)).sum : Nat) l.length).toNat, a := (rnd0 ((l.map (fun s => s.a)).sum : Nat) l.length).toNat }

/-- A list of results in order, stopping at the first stop. -/
def collect {α : Type} : List (Except RayStop α) → Except RayStop (List α)
  | [] => .ok []
  | .error e :: _ => .error e
  | .ok a :: l => match collect l with
    | .ok as => .ok (a :: as)
    | .error e => .error e

/-- The direction of a ray: `none` for a VIEW_INVARIANT one; else view index, horizontal and vertical slopes. -/
structure RayDir where
  q : Nat
  tan : Nat
  tanY : Int
  deriving DecidableEq, Repr

/-- The sample of one plane: all its taps (R178, R183). -/
def samplePlaneTaps (ps : SynSet) (tex : TexelSource) (dir : Option RayDir) (taps : Nat) (k : Nat) (x y : Int)
    (pl : Nat × PlaneDesc × Int) : Except RayStop Sample :=
  let z := pl.2.2
  match dir with
  | none =>
    let uv := pl.2.1.uv x y
    samplePlane ps tex pl.1 pl.2.1 k uv.1 uv.2
  | some r =>
    match collect ((List.range taps).map (fun j =>
      let tx := slope r.q ps.viewsH r.tan j taps ps.vbfWidth ps.flipX
      let uv := pl.2.1.uv (sat32 (x + rnd0 (z * tx) 256)) (sat32 (y + rnd0 (z * r.tanY) 256))
      samplePlane ps tex pl.1 pl.2.1 k uv.1 uv.2)) with
    | .ok l => .ok (meanSample l)
    | .error e => .error e

/-- The tap count of a plane under a tap limit (R183). -/
def SynSet.tapsFor (p : SynSet) (limit : Nat) (dir : Option RayDir) (z : Int) : Nat :=
  if !p.vbfEn || dir.isNone then 1
  else
    let want := if (p.z4 * 256 : Nat) ≤ absI z then 4 else if (p.z2 * 256 : Nat) ≤ absI z then 2 else 1
    min want limit

/-- Composite planes in order, with the termination rule (R181). -/
def compositePlanes (ps : SynSet) (tex : TexelSource) (dir : Option RayDir) (limit k : Nat) (x y : Int) :
    List (Nat × PlaneDesc × Int) → Comp → Except RayStop Comp
  | [], c => .ok c
  | pl :: rest, c =>
    if c.t ≤ 256 then .ok c
    else
      let taps := ps.tapsFor limit dir pl.2.2
      match samplePlaneTaps ps tex dir taps k x y pl with
      | .ok s => compositePlanes ps tex dir limit k x y rest (c.add s taps)
      | .error e => .error e

/-- The panel point of a backdrop cell (R185). -/
def cellPoint (d : PlaneDesc) (i j : Int) : Int × Int :=
  let det := d.a * d.d - d.b * d.c
  let sg : Int := if det < 0 then -1 else 1
  let du := (2 * i + 1) * 256 - 2 * d.tu
  let dv := (2 * j + 1) * 256 - 2 * d.tv
  (sat32 (rnd0 (sg * (d.d * du - d.b * dv) * 2 ^ 27) (absI det).toNat), sat32 (rnd0 (sg * (d.a * dv - d.c * du) * 2 ^ 27) (absI det).toNat))

/-- A backdrop cell: C of one channel and coverage, with the group planes sampled (R185). -/
def backdropCell (ps : SynSet) (tex : TexelSource) (group : List (Nat × PlaneDesc × Int)) (k : Nat) (i j : Int) :
    Except RayStop (Sample × Nat) :=
  match group with
  | [] => .ok ({ c := 0, a := 0 }, 0)
  | pl :: _ =>
    let pt := cellPoint pl.2.1 i j
    match compositePlanes ps tex none 1 k pt.1 pt.2 group Comp.start with
    | .ok c => .ok ({ c := c.c, a := 262144 - c.t }, c.samples)
    | .error e => .error e

/-- A ray's result: colour, coverage, plane samples, whether it terminated early, whether C saturated, whether it is
VIEW_INVARIANT, and the backdrop cells it looked at with the planes each samples when built. -/
structure RayResult where
  color : Nat
  coverage : Nat
  samples : Nat
  terminated : Bool
  saturated : Bool
  invariant : Bool
  cells : List ((Int × Int) × Nat)
  deriving DecidableEq, Repr

/-- The output of a lane from C and T (R182). -/
def rayOut (c : Comp) (inv : Bool) (cells : List ((Int × Int) × Nat)) : RayResult :=
  { color := min (rnd0 c.c 4).toNat 16383, coverage := (rnd0 ((262144 - c.t) * 1023 : Nat) (2 ^ 18)).toNat,
    samples := c.samples, terminated := decide (c.t ≤ 256), saturated := c.sat, invariant := inv, cells := cells }

/-- The cell of `n` even parts of `total` that holds `v`: part x starts at the whole part of x total / n (R314). -/
def gridCell (n total v : Nat) : Nat := ((v + 1) * n - 1) / max total 1

/-- The class of the lens region of a subpixel (R175, R314). -/
def SynSet.classAt (p : SynSet) (col g : Nat) : Nat :=
  p.classes.getD (gridCell p.regY p.lines g * p.regX + gridCell p.regX p.timing.hactive col) 2

/-- The direction of the ray of subpixel `sp` on global line `g` (R173-R175). -/
def SynSet.dir (p : SynSet) (bank : GridBank) (sp g : Nat) : Option RayDir :=
  let cls := p.classAt (sp / 3) g
  if cls = 2 then none
  else
    let q := p.phiC bank sp g * p.viewsH / 2 ^ 24
    let ty := if p.model then slope (p.phiV g * p.viewsV / 2 ^ 24) p.viewsV p.tanv 0 1 0 p.flipY else 0
    some { q := q, tan := if cls = 1 then p.tanhWide else p.tanh, tanY := ty }

/-- One ray: subpixel `sp` of global line `g` with plane budget and tap limit of its tile (R168-R186). -/
def synthRay (ps : SynSet) (bank : GridBank) (tex : TexelSource) (budget limit sp g : Nat) : Except RayStop RayResult :=
  let dir := ps.dir bank sp g
  let k := sp % 3
  let x := ps.x sp
  let y := ps.y g
  if !ps.en then .ok (rayOut Comp.start dir.isNone [])
  else if ps.planes.length ≤ budget ∨ !ps.bdEn then
    match compositePlanes ps tex dir limit k x y ps.planes Comp.start with
    | .ok c => .ok (rayOut c dir.isNone [])
    | .error e => .error e
  else
    match compositePlanes ps tex dir limit k x y (ps.planes.take (budget - 1)) Comp.start with
    | .error e => .error e
    | .ok c =>
      let group := ps.planes.drop (budget - 1)
      match group with
      | [] => .ok (rayOut c dir.isNone [])
      | pl :: _ =>
        if c.t ≤ 256 then .ok (rayOut c dir.isNone [])
        else
          let z := pl.2.2
          let uv := match dir with
            | none => pl.2.1.uv x y
            | some r => pl.2.1.uv (sat32 (x + rnd0 (z * slope r.q ps.viewsH r.tan 0 1 0 ps.flipX) 256)) (sat32 (y + rnd0 (z * r.tanY) 256))
          let co := corner uv.1 uv.2
          let at_ := [(co.1, co.2.1), (co.1 + 1, co.2.1), (co.1, co.2.1 + 1), (co.1 + 1, co.2.1 + 1)]
          match collect (at_.map (fun ij => backdropCell ps tex group k ij.1 ij.2)) with
          | .error e => .error e
          | .ok cells =>
            let g := fun (i : Nat) => (cells.getD i ({ c := 0, a := 0 }, 0)).1
            let s : Sample :=
              { c := (rnd0 (bilin co.2.2.1 co.2.2.2 (g 0).c (g 1).c (g 2).c (g 3).c : Nat) 65536).toNat,
                a := (rnd0 (bilin co.2.2.1 co.2.2.2 (g 0).a (g 1).a (g 2).a (g 3).a : Nat) 65536).toNat }
            .ok (rayOut (c.add s 1) dir.isNone (at_.zip (cells.map (fun x => x.2))))

/-! ### Texels from the scene window -/

/-- Texels of a set's version, the raw bytes of a STORED block as `block` gives them (R103, R110, R179). -/
def State.texelsBy (s : State) (ps : SynSet) (block : Entry → Except RayStop (List Byte)) : TexelSource := fun p i j =>
  match ps.version with
  | none => .ok 0
  | some v => match v.plane p with
    | none => .ok 0
    | some d =>
      if i < 0 ∨ j < 0 ∨ (64 * d.wblk : Int) ≤ i ∨ (64 * d.hblk : Int) ≤ j then .ok 0
      else
        let bx := i.toNat / 64
        let by_ := j.toNat / 64
        let e := s.scn.entry v p bx by_
        if e.kind = 0 then .ok 0
        else if e.kind = 2 then .ok e.texel
        else if e.kind = 3 then .error .unreadable
        else match block e with
          | .error r => .error r
          | .ok d => .ok (texelAt d (i.toNat % 64) (j.toNat % 64))

/-- Texels for slice `k` from its window (R119, R123, R124); `but` names a unit taken as absent. -/
def State.texels (s : State) (ps : SynSet) (k : Nat) (but : Option Nat := none) : TexelSource :=
  s.texelsBy ps (fun e =>
    if but = some e.addr then .error .absent
    else match s.winSlot k e.addr with
      | none => .error (if (s.dramRead e.addr e.len).isNone then .unreadable else .absent)
      | some w => .ok w.data)

/-- Texels with every unit at hand but the one at `a`: those in slice `k`'s window from there, the others as they would be fetched
(R119, R120). -/
def State.texelsBut (s : State) (ps : SynSet) (k a : Nat) : TexelSource :=
  s.texelsBy ps (fun e =>
    if e.addr = a then .error .absent
    else match s.winSlot k e.addr with
      | some w => .ok w.data
      | none => let r := s.readBlock e
        if r.unreadable then .error .unreadable else .ok r.bytes)

/-- Whether a result is a wait for an absent block. -/
def waitsFor : Except RayStop RayResult → Bool
  | .error .absent => true
  | _ => false

/-- Whether an entry of plane `p` in a version holds the unit at `a`. -/
def State.planeHolds (s : State) (v : Version) (p a : Nat) : Bool :=
  (List.range 144).any (fun r => match s.scn.page (v.pageId p r) with | some pg => pg.units.contains a | none => false)

/-! ### Parameter sets, grid loads and registers of the SYN pages -/

/-- The parameter set that a latch puts in force for frame `f` (R175, R190): registers in force, the front version, the planes each
slice keeps resident, and the classes of the lens regions. -/
def State.synSetFor (s : State) (f : Nat) (timing : Timing) (fits : List Nat) (regX regY : Nat) (classes : List Nat) : SynSet :=
  let v := s.scn.front
  { frame := f, en := s.flag Reg.synCtrl 0, outPeak := s.fld Reg.synOutPeak 13 0, linearPeak := s.fld Reg.scnLinearPeak 13 0,
    vbfEn := s.flag Reg.synVbf 0, vbfWidth := s.fld Reg.synVbf 12 8, z2 := s.fld Reg.synVbfDepth 15 0,
    z4 := s.fld Reg.synVbfDepth 31 16, bdEn := s.flag Reg.synBdCtrl 0, model := s.flag Reg.synLnsCtrl 0,
    flipX := s.flag Reg.synLnsCtrl 1, flipY := s.flag Reg.synLnsCtrl 2, pitchX := s.fld Reg.synLnsPitchX 23 0,
    pitchY := s.fld Reg.synLnsPitchY 23 0, lpitch := s.fld Reg.synLnsLpitch 25 0,
    slant := signedBits (s.rd Reg.synLnsSlant) 32, offset := signedBits (s.rd Reg.synLnsOffset) 32,
    viewsH := s.fld Reg.synLnsViews 7 0, viewsV := s.fld Reg.synLnsViews 15 8, tanh := s.fld Reg.synLnsTanh 17 0,
    tanhWide := s.fld Reg.synLnsTanhWide 17 0, tanv := s.fld Reg.synLnsTanv 17 0, lpitchV := s.fld Reg.synLnsLpitchV 25 0,
    offsetV := signedBits (s.rd Reg.synLnsOffsetV) 32, gridEn := s.flag Reg.synLnsGrid 0,
    gridBank := if s.flag Reg.synLnsGrid 1 then 1 else 0, timing := timing, version := v,
    planes := match v with
      | some v => (s.activePlanes v).map (fun p => (p.1, p.2, s.zEff p.2.z))
      | none => [],
    fits := fits, regX := regX, regY := regY, classes := classes }

/-- The set that frame `f` is synthesised with. -/
def State.synSet (s : State) (f : Nat) : Option SynSet :=
  match s.syn.front with
  | some p => if p.frame = f then some p else
      (match s.syn.back with | some q => if q.frame = f then some q else none | none => none)
  | none => none

/-- The grid bank of a set. -/
def State.gridOf (s : State) (ps : SynSet) : GridBank := s.syn.banks.getD ps.gridBank { valid := false, w := 0, h := 0, words := [] }

/-- Image range of a grid load (R196, R522). -/
def gridLoadLen (ctrl : Nat) : Nat := 4 * (bitsOf ctrl 9 0 * bitsOf ctrl 24 16 + 1)

/-- Address in a LO/HI register pair. -/
def State.addr64 (s : State) (lo hi : Nat) : Nat := s.rd lo + s.rd hi * 2 ^ 32

/-- Whether a grid bank is in use (R197). -/
def State.gridInUse (s : State) (b : Nat) : Bool :=
  let uses := fun (p : Option SynSet) => match p with | some p => p.gridEn && p.gridBank == b | none => false
  let sh := s.rdShadow Reg.synLnsGrid
  uses s.syn.front || uses s.syn.back || (s.flag Reg.synLnsGrid 0 && (s.flag Reg.synLnsGrid 1 == (b == 1))) ||
  (s.flag Reg.devGcommit 1 && bitOf sh 0 && (bitOf sh 1 == (b == 1)))

/-- Checks of a write to a SYN page (R193, R197). -/
def State.synCheck (s : State) (page off data : Nat) : List Nat :=
  if page = 0 ∧ off = 0x4C then codeIf (decide (bitsOf data 31 16 < bitsOf data 15 0)) 6
  else if page = 0 ∧ off = 0x50 then
    codeIf (decide (bitsOf data 5 0 < bitsOf data 13 8) || decide (bitsOf data 17 16 < bitsOf data 19 18)) 6
  else if page = 2 ∧ off = 0x4C ∧ bitOf data 31 then
    codeIf s.syn.load.isSome 9 ++ codeIf (s.gridInUse (bitsOf data 28 28)) 6 ++
    codeIf (!s.dramOk (s.addr64 Reg.synGridLoadLo Reg.synGridLoadHi) (gridLoadLen data)) 0xB
  else []

/-- Effects of an accepted write to a SYN page: a grid load starts (R197). -/
def State.synEffect (s : State) (page off data : Nat) : State :=
  if page = 2 ∧ off = 0x4C ∧ bitOf data 31 then
    let b := bitsOf data 28 28
    let bytes := s.dramRead (s.addr64 Reg.synGridLoadLo Reg.synGridLoadHi) (gridLoadLen data)
    { s with syn := { s.syn with load := some (b, bitsOf data 9 0, bitsOf data 24 16, bytes),
                                 banks := s.syn.banks.set b { valid := false, w := 0, h := 0, words := [] } } }
  else s

/-- Words of an image followed by its CRC-32C (R196), if the check value matches. -/
def checkedWords (n : Nat) (bytes : List Byte) : Option (List Nat) :=
  if leNat (slice bytes (4 * n) 4) = crc32c (bytes.take (4 * n)) then some (leWords' n bytes) else none
where
  leWords' : Nat → List Byte → List Nat
    | 0, _ => []
    | n + 1, bs => leNat (bs.take 4) :: leWords' n (bs.drop 4)

/-- A grid load ends (R197, R198). -/
def State.gridLoaded (s : State) : State :=
  match s.syn.load with
  | none => s
  | some (b, w, h, bytes) =>
    let s := { s with syn := { s.syn with load := none } }.setFlag Reg.synGridLoadCtrl 31 false
    let dim := if b = 0 then Reg.synGridDim0 else Reg.synGridDim1
    let s := s.wr dim (w + h * 65536)
    match bytes.bind (checkedWords (w * h)) with
    | some words =>
      ({ s with syn := { s.syn with banks := s.syn.banks.set b { valid := true, w := w, h := h, words := words } } }.setFld
        Reg.synGridStat 31 16 0).raise 0x50000 0
    | none => (s.setFld Reg.synGridStat 31 16 0x502).raise 0x50000 1

/-- Computed words of the SYN pages. -/
def State.synRead (s : State) (page off : Nat) : Option Nat :=
  if page = 2 ∧ off = 0x50 then
    let v := fun (i : Nat) => if (s.syn.banks.getD i { valid := false, w := 0, h := 0, words := [] }).valid then 2 ^ i else 0
    some (putBits (s.rd Reg.synGridStat) 2 0 (v 0 + v 1 + (if s.syn.load.isSome then 4 else 0)))
  else none

/-- The checks of a group commit on the SYN pages, on shadow values: (code, page base, offset) (R194, R197, R521). -/
def State.synCommitCodes (s : State) : List (Nat × Nat × Nat) :=
  let g := s.rdShadow Reg.synLnsGrid
  let b := if bitOf g 1 then 1 else 0
  (if bitOf (s.rdShadow Reg.synLnsCtrl) 0 && decide (16 < bitsOf (s.rdShadow Reg.synLnsViews) 7 0) then [(1, 0x51000, 0x58)] else []) ++
  (if bitOf g 0 && (!(s.syn.banks.getD b { valid := false, w := 0, h := 0, words := [] }).valid) then [(0x501, 0x52000, 0x40)] else [])

end Sys2Proof.Machine
end

