-- ==== Sys2Proof/Machine/Barchan.lean ====
section
/-! DEFINITION. Barchan (R226-R258): stripes and drift, quality levels, planning, claims and steals, lost slices, migration,
evacuation and the registers of the PLC page. -/

namespace Sys2Proof.Machine

/-! ### Tile positions and costs -/

/-- The key of a tile position. -/
def posKey (r b c : Nat) : Nat := (r * 2048 + b) * 64 + c

/-- A cost entry without a measurement: 12 plane samples per ray of a full tile (R229). -/
def cost0 : Nat → CostEntry := fun _ =>
  { cost := 2304, budget := 0, taps := 0, incomplete := false, stolen := false, remote := false, planes := none }

/-- Rays of a tile: three subpixels of every column and line it covers (R201). -/
def tileCols (t : Timing) (col : Nat) : Nat := min 1024 (t.hactive - 1024 * col)
def tileLines (t : Timing) (band : Nat) : Nat := min 16 (t.vactive - 16 * band)
def tileRays (t : Timing) (band col : Nat) : Nat := 3 * tileCols t col * tileLines t band

/-- The timing and GUARD of frame `f`: the current one as latched, the next one as in force (R202, R213). -/
def State.guardOf (s : State) (f : Nat) : Nat :=
  if f = s.ras.frame then bitsOf (Sparse.get resetWord s.brc.force Reg.brcGuard).toNat 3 0 else s.fld Reg.brcGuard 3 0
def State.timingOf (s : State) (f : Nat) : Timing := if f = s.ras.frame then s.ras.timing else s.nextT

/-- The cost entry of a position. -/
def State.costAt (s : State) (r b c : Nat) : CostEntry := Sparse.get cost0 s.plc.costs (posKey r b c)

/-! ### Slices -/

/-- ACTIVE clusters of slice `k`; they serve only while the slice itself is ACTIVE (R200). -/
def State.activeClusters (s : State) (k : Nat) : Nat :=
  if s.unitState (64 + k) = 0 then (List.range 8).countP (fun c => s.unitState (8 * k + c) == 0) else 0

/-- Slices that count as ACTIVE for Barchan (R231, R244). -/
def State.liveSlices (s : State) : List Nat := (List.range 8).filter (fun k => s.activeClusters k != 0)

/-- The default stripes of R231: the slice of each of `t` tile columns. -/
def defaultOwner (live : List Nat) (t : Nat) : List Nat :=
  let n := live.length
  if n = 0 then []
  else (List.range t).map (fun c => live.getD (((List.range n).filter (fun i => decide (i * t / n ≤ c))).length - 1) 8)

/-- The bounds S1-S7 of a pair of PIN_BOUNDS words. -/
def boundsOf (w0 w1 : Nat) : List Nat :=
  [bitsOf w0 5 0, bitsOf w0 13 8, bitsOf w0 21 16, bitsOf w0 29 24, bitsOf w1 5 0, bitsOf w1 13 8, bitsOf w1 21 16]

/-- The slice of each column under the bounds of R252. -/
def pinnedOwner (bounds : List Nat) (t : Nat) : List Nat :=
  (List.range t).map (fun c => (bounds.filter (fun b => decide (b ≤ c))).length)

/-- Bounds that a column-to-slice list shows: the first column at or beyond each slice 1-7. -/
def boundOf (owner : List Nat) (k : Nat) : Nat := (owner.findIdx? (fun o => decide (k ≤ o))).getD owner.length

/-- A STRIPE word pair from a column-to-slice list (R255). -/
def stripeWord (owner : List Nat) (first n : Nat) : Nat :=
  ((List.range n).map (fun i => boundOf owner (first + i) % 64 * 2 ^ (8 * i))).sum

/-- Columns that slice `k` owns. -/
def ownedCount (owner : List Nat) (k : Nat) : Nat := owner.countP (fun o => o == k)

/-! ### Drift (R232) -/

/-- A stripe while bounds are moved. -/
structure Stripe where
  slice : Nat
  first : Nat
  count : Nat
  deriving DecidableEq, Repr

/-- Stripes of a column-to-slice list, from left to right. -/
def stripesOf (owner : List Nat) : List Stripe :=
  ((List.range 8).map (fun k => { slice := k, first := boundOf owner k, count := ownedCount owner k : Stripe })).filter
    (fun x => x.count != 0)

/-- Column-to-slice list of a run of stripes. -/
def ownerOf (l : List Stripe) : List Nat := l.flatMap (fun x => List.replicate x.count x.slice)

/-- The load of a stripe (R232): `col` gives a column's cost, `cap` a slice's capacity. -/
def Stripe.load (col cap : Nat → Rat) (x : Stripe) : Rat :=
  ((List.range x.count).map (fun i => col (x.first + i))).sum / cap x.slice

/-- Moves at one bound; the count of moves made so far comes back. -/
def driftBound (col cap : Nat → Rat) (hyst : Nat) : Nat → Nat → Stripe → Stripe → Stripe × Stripe × Nat
  | 0, m, a, b => (a, b, m)
  | n + 1, m, a, b =>
    let la := a.load col cap
    let lb := b.load col cap
    let limit := max la lb * (1 - (hyst : Rat) / 100)
    if la = lb then (a, b, m)
    else if lb < la then
      let e := col (a.first + a.count - 1)
      if a.count ≤ 1 then (a, b, m)
      else if max (la - e / cap a.slice) (lb + e / cap b.slice) ≤ limit then
        driftBound col cap hyst n (m + 1) { a with count := a.count - 1 } { b with first := b.first - 1, count := b.count + 1 }
      else (a, b, m)
    else
      let e := col b.first
      if b.count ≤ 1 then (a, b, m)
      else if max (lb - e / cap b.slice) (la + e / cap a.slice) ≤ limit then
        driftBound col cap hyst n (m + 1) { a with count := a.count + 1 } { b with first := b.first + 1, count := b.count - 1 }
      else (a, b, m)

/-- All bounds from left to right (R232). -/
def driftAll (col cap : Nat → Rat) (hyst n : Nat) : Nat → Stripe → List Stripe → List Stripe × Nat
  | m, a, [] => ([a], m)
  | m, a, b :: rest =>
    let r := driftBound col cap hyst n 0 a b
    let t := driftAll col cap hyst n (m + r.2.2) r.2.1 rest
    (r.1 :: t.1, t.2)

/-! ### Quality levels (R240-R242) -/

/-- A tile position while a plan is made: its level and plane budget, and K, the number of planes last seen. -/
structure PlanTile where
  key : Nat
  band : Nat
  cost : Rat
  level : Nat
  budget : Nat
  planes : Nat
  stepped : Bool

/-- The settings that bound quality: SYN_BUDGET, TAP_KEEP and SYN_BD_CTRL.EN as a plan takes them. -/
structure QualityCfg where
  maxB : Nat
  minB : Nat
  tapMax : Nat
  tapMin : Nat
  merge : Bool
  keep : Nat
  deriving DecidableEq, Repr

/-- Tap steps between the largest and the smallest tap limit (R241). -/
def QualityCfg.steps (q : QualityCfg) : Nat := q.tapMax - q.tapMin

/-- Plane budget and tap limit of a position at a level with budget `b` (R241). -/
def QualityCfg.setting (q : QualityCfg) (b level : Nat) : Nat × Nat :=
  if level ≤ q.steps then (q.maxB, 2 ^ (q.tapMax - level)) else (b, 2 ^ q.tapMin)

/-- A level and budget under the bounds that now hold (R241, R243). -/
def QualityCfg.clamp (q : QualityCfg) (level b : Nat) : Nat × Nat :=
  let b := max q.minB (min b q.maxB)
  if level ≤ q.steps then (level, q.maxB) else if !q.merge || q.maxB ≤ b then (q.steps, q.maxB) else (level, b)

/-- Whether a position stands above the lowest level, at which both settings have reached their minimum (R241). -/
def QualityCfg.above (q : QualityCfg) (t : PlanTile) : Bool := decide (t.level < q.steps) || (q.merge && decide (q.minB < t.budget))

/-- One step down: a tap step while there is one, then budget steps from B to min(B, K) - 1, at least MIN (R241, R242). -/
def QualityCfg.stepDown (q : QualityCfg) (t : PlanTile) : PlanTile :=
  if t.level < q.steps then { t with level := t.level + 1, cost := t.cost * q.keep / 100, stepped := true }
  else
    let m := min t.budget t.planes
    let b := max q.minB (m - 1)
    { t with level := t.level + 1, budget := b, cost := if m = 0 then t.cost else t.cost * b / m, stepped := true }

/-- One step up: a budget step raises B by one, the last of them to MAX (R242; log entry 147). -/
def QualityCfg.stepUp (q : QualityCfg) (t : PlanTile) : PlanTile :=
  { t with level := t.level - 1, budget := if t.level - 1 ≤ q.steps then q.maxB else min q.maxB (t.budget + 1) }

/-- P_b (R240): `run` bands from `b` on, capacity `cap` clocks per band period. -/
def pressure (cap : Rat) (run bands b : Nat) (l : List PlanTile) : Rat :=
  let n := min run (bands - b)
  16 * ((l.filter (fun t => decide (b ≤ t.band ∧ t.band < b + n))).map (fun t => t.cost)).sum / ((n : Rat) * cap)

/-- The tile of the run from band `b` that R242 steps next: the largest predicted cost, the lowest position among equals. -/
def nextStep (q : QualityCfg) (run b : Nat) (l : List PlanTile) : Option PlanTile :=
  l.foldl (fun m t =>
    if b ≤ t.band ∧ t.band < b + run ∧ !t.stepped ∧ q.above t then
      (match m with | some u => if u.cost < t.cost then some t else m | none => some t)
    else m) none

/-- Step tiles of the run from band `b` until its pressure is at most HIGH or none is left (R242). -/
def stepRun (q : QualityCfg) (cap high : Rat) (run bands b : Nat) : Nat → List PlanTile → List PlanTile
  | 0, l => l
  | n + 1, l =>
    if pressure cap run bands b l ≤ high then l
    else match nextStep q run b l with
      | none => l
      | some t => stepRun q cap high run bands b n (l.map (fun u => if u.key = t.key then q.stepDown u else u))

/-- Whether every run that holds band `b` is at or below LOW. -/
def allLow (cap low : Rat) (run bands b : Nat) (l : List PlanTile) : Bool :=
  (List.range bands).all (fun b' => !(decide (b' ≤ b ∧ b < b' + min run (bands - b'))) || decide (pressure cap run bands b' l ≤ low))

/-- A map of levels: a position without an entry is at level 0. -/
def level0 : Nat → Nat := fun _ => 0

/-! ### Planning (R226, R227) -/

/-- The hint that the plan for the next frame uses (R252). -/
def State.planHint (s : State) : Option (Nat × Nat × Nat × Nat) :=
  if s.flag Reg.plcHintCtrl 31 then
    some (s.fld Reg.plcHintRange 10 0, s.fld Reg.plcHintRange 26 16, s.fld Reg.plcHintCtrl 7 0, s.fld Reg.plcHintCtrl 15 8)
  else s.plc.hint

/-- The factor a hint puts on band `b`. -/
def hintFactor (h : Option (Nat × Nat × Nat × Nat)) (b : Nat) : Rat :=
  match h with
  | some (f, l, m, _) => if f ≤ b ∧ b ≤ l then (m : Rat) / 16 else 1
  | none => 1

/-- The planned cost of a position in units of 16 clocks (R240, R252). -/
def State.plannedCost (s : State) (r b c : Nat) : Rat := ((s.costAt r b c).cost : Rat) * hintFactor s.planHint b

/-- Clocks of a slice in one frame: the period times SLC_CLOCK (R232). -/
def State.frameClocks (s : State) (t : Timing) (k : Nat) : Rat := (t.period * s.fld (Reg.slcClock k) 11 0 : Nat) / ((1000 * ns : Nat) : Rat)

/-- Cap of R240 in clocks. -/
def State.bandCap (s : State) (t : Timing) : Rat :=
  ((List.range 8).map (fun k => (16 * s.activeClusters k : Nat) * s.frameClocks t k / (t.vtotal : Rat))).sum

/-- The stripes that PIN_STRIPES asks for, where each column they give has an ACTIVE slice (R252, R253). -/
def State.pinStripes (s : State) (t : Timing) : Option (List Nat) :=
  let pinned := pinnedOwner (boundsOf (s.rd Reg.plcPinBounds0) (s.rd Reg.plcPinBounds1)) t.cols
  if s.flag Reg.plcCtrl 6 && pinned.all s.liveSlices.contains then some pinned else none

/-- The stripes of the next plan, and the columns moved (R231, R232, R244, R252, R253). They start from those in force, after a loss
of a slice or a change of the ACTIVE slices from the default ones. -/
def State.planStripes (s : State) (t : Timing) : List Nat × Nat :=
  let live := s.liveSlices
  let old := match s.plc.plan with | some p => p.owner | none => []
  let base := if s.plc.lost.isEmpty ∧ old.length = t.cols ∧ (List.range 8).all (fun k => old.contains k == live.contains k) then old
    else defaultOwner live t.cols
  if s.flag Reg.plcCtrl 6 then ((s.pinStripes t).getD base, 0)
  else if s.flag Reg.plcCtrl 0 then
    let col := fun c => ((List.range t.regionCount).flatMap (fun r => (List.range t.bands).map (fun b => s.plannedCost r b c))).sum
    let cap := fun k => (s.activeClusters k : Rat) * s.frameClocks t k / 16
    match stripesOf base with
    | [] => (base, 0)
    | a :: rest =>
      let r := driftAll col cap (s.fld Reg.plcLoad 23 16) (s.fld Reg.plcCtrl 10 8) 0 a rest
      (ownerOf r.1, r.2)
  else (base, 0)

/-- The upper bound of the plane budget: MAX, or the cap of the throttling level enforced where that is lower (R456). -/
def State.budgetMax (s : State) : Nat :=
  let k := s.fld Reg.thmReq 6 4
  let m := s.fld Reg.synBudget 5 0
  if k = 0 then m else min m (s.fld (Reg.thmLvl (k - 1)) 17 12)

/-- The quality settings a plan takes. -/
def State.qualityCfg (s : State) : QualityCfg :=
  { maxB := s.budgetMax, minB := min (s.fld Reg.synBudget 13 8) s.budgetMax, tapMax := s.fld Reg.synBudget 17 16,
    tapMin := s.fld Reg.synBudget 19 18, merge := s.flag Reg.synBdCtrl 0, keep := s.fld Reg.plcSteal 23 16 }

/-- The level and the plane budget a position has now. -/
def State.levelAt (s : State) (key : Nat) : Nat × Nat :=
  match s.plc.plan with | some p => (Sparse.get level0 p.levels key, (Sparse.get (fun _ => p.set0) p.sets key).1) | none => (0, 0)

/-- Count one window-fill read of channel `c` in the current frame (R246). -/
def State.countFill (s : State) (c : Nat) : State :=
  match s.plc.fills with
  | f :: fs => { s with plc := { s.plc with fills := f.set c (f.getD c 0 + 1) :: fs } }
  | [] => { s with plc := { s.plc with fills := [(List.replicate 12 0).set c 1] } }

/-- A new frame of fill counts; 64 are kept. -/
def State.rollFills (s : State) : State := { s with plc := { s.plc with fills := (List.replicate 12 0 :: s.plc.fills).take 64 } }

/-- Window-fill reads of a channel over the last 64 frames. -/
def State.fillsOf (s : State) (c : Nat) : Nat := (s.plc.fills.map (fun f => f.getD c 0)).sum

/-- Whether a channel's fill reads exceed the channel mean by 25 % (R246). -/
def State.channelHot (s : State) (c : Nat) : Bool :=
  let l := s.placeChannels
  decide (5 * (l.map s.fillsOf).sum < 4 * l.length * s.fillsOf c)

/-- The tile positions as planning sees them, at the level and budget they have, clamped to the bounds that hold (R241, R243). Before
a first measurement K is taken as the largest budget (log entry 147). -/
def State.planTiles (s : State) (t : Timing) : List PlanTile :=
  let q := s.qualityCfg
  (List.range t.regionCount).flatMap (fun r => (List.range t.bands).flatMap (fun b => (List.range t.cols).map (fun c =>
    let e := s.costAt r b c
    let key := posKey r b c
    let l := if s.flag Reg.plcCtrl 3 then q.clamp (s.levelAt key).1 (s.levelAt key).2 else (0, q.maxB)
    { key := key, band := b, cost := s.plannedCost r b c, level := l.1, budget := l.2, planes := e.planes.getD q.maxB, stepped := false })))

/-- Unit 1/1024, saturating to 16 bits (R255). -/
def pressureCode (p : Rat) : Nat := min (p * 1024).floor.toNat 65535

/-- The words of a cost map copy (R230). -/
def State.costMap (s : State) (t : Timing) (levels : Sparse Nat) : List Byte :=
  (List.range t.regionCount).flatMap (fun r => (List.range t.bands).flatMap (fun b => (List.range t.cols).flatMap (fun c =>
    let e := s.costAt r b c
    leBytes 4 (e.cost + min (Sparse.get level0 levels (posKey r b c)) 63 * 2 ^ 16 + e.budget * 2 ^ 22 + e.taps * 2 ^ 27 +
      (if e.incomplete then 2 ^ 29 else 0) + (if e.stolen then 2 ^ 30 else 0) + (if e.remote then 2 ^ 31 else 0)))))

/-- One planning pass: the plan for the next frame with all it raises and counts (R226-R242, R252). -/
def State.planPass (s : State) : State :=
  let t := s.nextT
  let q := s.qualityCfg
  let run := max 1 ((s.horizonNow - s.fld Reg.brcGuard 3 0) / 16)
  let cap := s.bandCap t
  let on := s.flag Reg.plcCtrl 3
  let high : Rat := (s.fld Reg.plcLoad 7 0 : Rat) / 100
  let low : Rat := (s.fld Reg.plcLoad 15 8 : Rat) / 100
  let l0 := s.planTiles t
  let ps := (List.range t.bands).map (fun b => pressure cap run t.bands b l0)
  let l1 := if on then (List.range t.bands).foldl (fun l b => stepRun q cap high run t.bands b l.length l) l0 else l0
  let low' := (List.range t.bands).map (fun b => allLow cap low run t.bands b l1)
  let lows := (List.range t.bands).foldl (fun m b =>
    Sparse.set level0 m b (if on && low'.getD b false then Sparse.get level0 s.plc.lows b + 1 else 0)) s.plc.lows
  let up := fun (x : PlanTile) => on && !x.stepped && decide (0 < x.level) && decide (s.fld Reg.plcLoad 31 24 ≤ Sparse.get level0 lows x.band)
  let l2 := l1.map (fun x => if up x then q.stepUp x else x)
  let levels := l2.foldl (fun m x => Sparse.set level0 m x.key x.level) []
  let set0 := q.setting q.maxB 0
  let sets := l2.foldl (fun m x => Sparse.set (fun _ => set0) m x.key (q.setting x.budget x.level)) []
  let excess := on && (List.range t.bands).any (fun b => decide (high < pressure cap run t.bands b l1) &&
    l1.all (fun x => !(decide (b ≤ x.band ∧ x.band < b + run)) || !q.above x))
  let down := l1.countP (fun x => x.stepped)
  let st := s.planStripes t
  let plan : Plan :=
    { owner := st.1, levels := levels, sets := sets, set0 := set0, lmax := l2.foldl (fun m x => max m x.level) 0,
      moves := if s.flag Reg.plcCtrl 4 then s.placeChannels.filter s.channelHot else [] }
  let s := { s with plc := { s.plc with prep := some plan, lows := lows } }
  let s := ((s.add (Reg.plcStat 3) st.2).add (Reg.plcStat 4) down).add (Reg.plcStat 5) (l1.countP up)
  let s := s.wr Reg.plcPressure (pressureCode (ps.foldl max 0) + pressureCode (ps.sum / (t.bands : Rat)) * 2 ^ 16)
  let s := s.setFlag Reg.plcStatus 16 excess
  let s := if excess then s.raise 0x80000 0 else s
  if down ≠ 0 then s.raise 0x80000 1 else s

/-- Planning takes the hint: an armed one starts, a running one has a plan less left (R252, R255). -/
def State.takeHint (s : State) : State :=
  let h := match s.planHint with
    | some (f, l, m, n) => if 1 < n then some (f, l, m, n - 1) else none
    | none => none
  { s with plc := { s.plc with hint := h } }.setFlag Reg.plcHintCtrl 31 false

/-- A requested cost map copy is taken with the plan just made (R230). -/
def State.takeCostMap (s : State) : State :=
  if s.flag Reg.plcCostmapCtrl 31 ∧ s.plc.mapCopy = none then
    let levels := match s.plc.prep with | some p => p.levels | none => []
    { s with plc := { s.plc with mapCopy := some (s.addr64 Reg.plcCostmapLo Reg.plcCostmapHi, s.costMap s.ras.timing levels) } }
  else s

/-- The cost map copy ends (R230, R255). -/
def State.costMapDone (s : State) : State :=
  match s.plc.mapCopy with
  | none => s
  | some (a, bytes) =>
    let s := { s with plc := { s.plc with mapCopy := none } }.dramWrite a bytes
    ((s.setFlag Reg.plcCostmapCtrl 31 false).setFlag Reg.plcCostmapCtrl 0 true).raise 0x80000 6

/-- Whether planning starts on this line: 16 lines before the latch edge, where the next frame's LATCH is below 16 after this frame's
own latch (R226). -/
def State.planningLine (s : State) : Bool :=
  let t := s.ras.timing
  if s.ras.latched then decide (s.nextT.latch < 16) && s.ras.line == t.vtotal + s.nextT.latch - 16
  else decide (16 ≤ t.latch) && s.ras.line == t.latch - 16

/-- Whether Barchan restarts at this moment (R258). -/
def State.plcRestarting (s : State) : Bool := match s.plc.restartEnd with | some e => decide (s.now < e) | none => false

/-- PLANNING_START (R226). -/
def State.planningStart (s : State) : State :=
  if s.domOn 17 && s.planningLine && !s.plc.planned && !s.plcRestarting then
    let s := { s with plc := { s.plc with planned := true } }
    s.planPass.takeCostMap.takeHint
  else s

/-- The plan part of the latch (R226, R227, R244, R247). -/
def State.planLatch (s : State) : State :=
  let s := { s with plc := { s.plc with planned := false, lost := [] }, scn := { s.scn with units := s.scn.units.filter (fun u => !s.plc.freeing.contains u) } }
  let s := { s with plc := { s.plc with freeing := [] } }
  match s.plc.prep with
  | some p =>
    { s with plc := { s.plc with plan := some p, prep := none } }
  | none => if s.domOn 17 then s.raise 0x80000 7 else s

/-- The slice of each tile column in the plan in force; the default stripes before a first plan (R231). -/
def State.stripeOwner (s : State) (t : Timing) : List Nat :=
  match s.plc.plan with
  | some p => if p.owner.length = t.cols then p.owner else defaultOwner s.liveSlices t.cols
  | none => defaultOwner s.liveSlices t.cols

/-- Plane budget and tap limit of a tile position in the plan in force (R177, R226, R241). -/
def State.tileSetting (s : State) (key : Nat) : Nat × Nat :=
  match s.plc.plan with
  | some p => Sparse.get (fun _ => p.set0) p.sets key
  | none => s.qualityCfg.setting s.budgetMax 0

/-- A retime puts costs and levels back, and the stripes to the default ones unless they are pinned (R229, R252, R258). -/
def State.planRetime (s : State) : State :=
  let t := s.ras.timing
  let plan : Plan :=
    { owner := (s.pinStripes t).getD (defaultOwner s.liveSlices t.cols), levels := [], sets := [],
      set0 := s.qualityCfg.setting s.budgetMax 0, moves := [], lmax := 0 }
  { s with plc := { s.plc with costs := [], plan := some plan, prep := none, lows := [] } }

/-- The stripes in force become those of the current frame (R127). -/
def State.showStripes (s : State) : State := { s with plc := { s.plc with shown := s.stripeOwner s.ras.timing } }

/-! ### Tiles, queues and clusters (R234-R239) -/

/-- The order of a queue: frame, band, region, tile column (R234). -/
def Tile.rank (t : Tile) : Nat := ((t.frame * 2048 + t.band) * 4 + t.region) * 64 + t.col

/-- Whether a hold names a tile at its current epoch. -/
def Tile.isHold (t : Tile) (h : Hold) : Bool :=
  t.frame == h.frame && t.region == h.region && t.band == h.band && t.col == h.col

/-- The hold of a tile at its current epoch. -/
def Tile.hold (t : Tile) : Hold := { frame := t.frame, region := t.region, band := t.band, col := t.col, epoch := t.epoch }

/-- The tile a hold names. -/
def State.tileOf (s : State) (h : Hold) : Option Tile := s.brc.tiles.find? (fun t => t.isHold h)

/-- Replace a tile by name. -/
def State.setTile (s : State) (t : Tile) : State :=
  { s with brc := { s.brc with tiles := s.brc.tiles.map (fun u => if u.isHold t.hold then t else u) } }

/-- Ray `sub` of row `line` of a tile, on the texels that `tex` gives (R177). -/
def State.tileRay (s : State) (t : Tile) (ps : SynSet) (tex : TexelSource) (sub line : Nat) : Except RayStop RayResult :=
  synthRay ps (s.gridOf ps) tex t.budget t.taps (3 * 1024 * t.col + sub) (t.region * ps.timing.vactive + 16 * t.band + line)

/-- Whether a tile needs the unit at `a`: one of its rays cannot be formed without it (R120). -/
def State.tileNeeds (s : State) (t : Tile) (a : Nat) : Bool :=
  match s.synSet t.frame with
  | none => false
  | some ps =>
    let w := 3 * tileCols ps.timing t.col
    (List.range (tileRays ps.timing t.band t.col)).any (fun i => waitsFor (s.tileRay t ps (s.texelsBut ps t.home a) (i % w) (i / w)))

/-- Whether the unit at `a` is to be resident before a tile begins: the tile needs it, in one of the planes that its slice keeps
resident (R120, R122, R123). -/
def State.required (s : State) (t : Tile) (a : Nat) : Bool :=
  match s.synSet t.frame with
  | none => false
  | some ps => match ps.version with
    | none => false
    | some v => (ps.planes.take (ps.fits.getD t.home 0)).any (fun p => s.planeHolds v p.1 a) && s.tileNeeds t a

/-- Whether every block that is to be resident before a tile begins is in its slice's window; one that reads as poisoned never is
(R120, R122, R124). -/
def State.windowReady (s : State) (t : Tile) : Bool :=
  s.scn.units.all (fun u => (s.winSlot t.home u.1).isSome || (s.dramRead u.1 u.2).isNone || !s.required t u.1)

/-- Tiles whose windows are open and that slice `k`'s window serves. -/
def State.tilesAt (s : State) (k : Nat) : List Tile :=
  s.brc.tiles.filter (fun t => t.home == k && t.state != .stopped && t.state != .complete && t.state != .dropped)

/-- Whether slice `k`'s fill engine takes the unit at `a` next: a lane waits for it, or a tile is to find it resident, and no tile
of an earlier deadline lacks a block (R120, R123). -/
def State.fillDue (s : State) (k a : Nat) : Bool :=
  let tiles := s.tilesAt k
  (s.scn.wanted.getD k []).contains a ||
  tiles.any (fun t => s.required t a &&
    tiles.all (fun u => decide (t.frame * 2048 + t.band ≤ u.frame * 2048 + u.band) || s.windowReady u))

/-- Whether slice `k` keeps the unit at `a` resident for some tile (R123). -/
def State.keeps (s : State) (k a : Nat) : Bool := (s.tilesAt k).any (fun t => s.required t a)

/-- Slots that no tile of the slice within the horizon needs are released (R120), line by line (log entry 148). -/
def State.windowRelease (s : State) : State :=
  (List.range 8).foldl (fun s k =>
    let needed := fun (a : Nat) => (s.tilesAt k).any (fun t => s.tileNeeds t a)
    (s.setWindow k ((s.scn.windows.getD k []).filter (fun w => needed w.addr))).setWanted k ((s.scn.wanted.getD k []).filter needed)) s

/-- A cluster. -/
def State.cl (s : State) (u : Nat) : Cluster := s.clusters.getD u Cluster.idle

/-- Replace a cluster. -/
def State.setCl (s : State) (u : Nat) (c : Cluster) : State := { s with clusters := s.clusters.set u c }

/-- Tiles a cluster holds. -/
def Cluster.count (c : Cluster) : Nat := c.held.length + (if c.running.isSome then 1 else 0)

/-- The least of a list by a rank. -/
def leastBy {α : Type} (f : α → Nat) (l : List α) : Option α :=
  l.foldl (fun m x => match m with | some y => if f x < f y then some x else m | none => some x) none

/-- The head of slice `k`'s queue (R234). -/
def State.queueHead (s : State) (k : Nat) : Option Tile :=
  leastBy Tile.rank (s.brc.tiles.filter (fun t => t.state == .queued && t.queue == k))

/-- Whether a cluster takes and runs tiles: it is ACTIVE, and its slice is ACTIVE or FENCING (R494). -/
def State.clusterOn (s : State) (u : Nat) : Bool := s.unitState u == 0 && decide (s.unitState (64 + u / 8) ≤ 1) && decide (u < 64)

/-- CLUSTER_CLAIM (R234, R238). -/
def State.claim (s : State) (u : Nat) : State :=
  if s.clusterOn u && decide ((s.cl u).count < 2) && !s.plcRestarting then
    match s.queueHead (u / 8) with
    | none => s
    | some t =>
      let t := { t with state := .claimed, owner := some u, epoch := (t.epoch + 1) % 256, remote := u / 8 != t.home }
      (s.setTile t).setCl u { s.cl u with held := (s.cl u).held ++ [t.hold] }
  else s

/-- SLC_CL_TILE, SLC_CL_BUDGET and SLC_CL_SAMPLES of the running tile (R199). -/
def State.showTile (s : State) (u : Nat) (t : Option Tile) : State :=
  let k := u / 8
  let c := u % 8
  match t with
  | some t =>
    let s := s.wr (Reg.slcClTile k c) (t.frame % 256 + t.band % 2048 * 2 ^ 8 + t.col % 32 * 2 ^ 19 + t.epoch % 256 * 2 ^ 24)
    let s := s.wr (Reg.slcClBudget k c) (t.budget % 64 + Nat.log2 t.taps * 2 ^ 8 + (if t.merged then 2 ^ 16 else 0))
    s.wr (Reg.slcClSamples k c) (t.samples % 2 ^ 32)
  | none => ((s.wr (Reg.slcClTile k c) 0).wr (Reg.slcClBudget k c) 0).wr (Reg.slcClSamples k c) 0

/-- TILE_START (R234), once the blocks that are to be resident are in the window (R120): a victim may start a tile that has just been
stolen from it (R237). -/
def State.tileStart (s : State) (u : Nat) : State :=
  match (s.cl u).held, (s.cl u).running with
  | h :: rest, none =>
    if s.clusterOn u && (s.tileOf h).all s.windowReady then
      let s := s.setCl u { s.cl u with held := rest, running := some h, since := s.now, ran := 0, far := (s.tileOf h).any (fun t => t.home != u / 8) }
      match s.tileOf h with
      | some t =>
        if t.epoch = h.epoch ∧ t.state = .claimed then
          let t := { t with state := .started, startAt := s.now, ran := 0, cache := [] }
          let s := (s.setTile t).showTile u (some t)
          if t.merged then s.add (Reg.synStat 5) 1 else s
        else s.showTile u (some { t with epoch := h.epoch, samples := 0 })
      | none => s
    else s
  | _, _ => s

/-- The deadline of a band in 2^-32 ns from the present instant on (R202), with the values of its own frame. -/
def State.deadlineIn (s : State) (frame band guard_ : Nat) : Int :=
  let t := s.ras.timing
  let t' := s.timingOf frame
  let ahead : Int := (if frame = s.ras.frame then 0 else ((t.vtotal * t.lineTime : Nat) : Int)) +
    (((frame : Int) - s.ras.frame - 1).toNat * (t'.vtotal * t'.lineTime) : Nat)
  ahead + (16 * (band : Int) - guard_) * t'.lineTime - (s.ras.line : Int) * t.lineTime - ((s.now : Int) - s.ras.lineStart)

/-- Clocks that a planned cost stands for. -/
def State.planClocks (s : State) (t : Tile) : Nat := 16 * (s.costAt t.region t.band t.col).cost

/-- The planned work ahead of a tile and the tile itself (R235). -/
def State.workAhead (s : State) (t : Tile) : List Nat :=
  match t.state, t.owner with
  | .claimed, some u => ((s.cl u).running.toList.filterMap (fun h => s.tileOf h)).map s.planClocks ++ [s.planClocks t]
  | _, _ => ((s.brc.tiles.filter (fun x => x.state == .queued && x.queue == t.queue && decide (x.rank < t.rank))).mergeSort
      (fun a b => decide (a.rank ≤ b.rank))).map s.planClocks ++ [s.planClocks t]

/-- Whether a tile qualifies for a steal: its predicted finish lies later than its deadline less MARGIN (R235). How the
finish is predicted is left open (log entry 20). -/
def State.late (s : State) (t : Tile) : Bool :=
  let limit := s.deadlineIn t.frame t.band (s.guardOf t.frame) - (s.fld Reg.plcSteal 15 0 * ns : Nat)
  decide (limit < (Config.predictFinish (s.workAhead t) (s.fld (Reg.slcClock t.queue) 11 0) : Int))

/-- The tile that cluster `u` steals (R235). -/
def State.victim (s : State) (u : Nat) : Option Tile :=
  let max_ := s.fld Reg.plcCtrl 14 12
  let ok := fun (t : Tile) => decide (t.steals < max_) && s.late t
  let same := s.brc.tiles.filter (fun t => t.state == .claimed && t.owner.any (fun v => v != u && v / 8 == u / 8) && ok t)
  match leastBy Tile.rank same with
  | some t => some t
  | none =>
    if s.flag Reg.plcCtrl 2 then
      let thief := fun (t : Tile) => (Config.predictFinish [4 * s.planClocks t] (s.fld (Reg.slcClock (u / 8)) 11 0) : Int)
      let dist := fun (t : Tile) => natDist (match t.owner with | some v => v / 8 | none => t.queue) (u / 8)
      let other := s.brc.tiles.filter (fun t =>
        ((t.state == .queued && t.queue != u / 8) || (t.state == .claimed && t.owner.any (fun v => v / 8 != u / 8))) && ok t &&
        decide (thief t < s.deadlineIn t.frame t.band (s.guardOf t.frame) - (s.fld Reg.plcSteal 15 0 * ns : Nat)))
      leastBy (fun t => (t.frame * 2048 + t.band) * 65536 + dist t * 4096 + t.queue * 256 + t.region * 64 + t.col) other
    else none

/-- TILE_STEAL (R235-R238). -/
def State.steal (s : State) (u : Nat) : State :=
  if s.flag Reg.plcCtrl 1 && s.clusterOn u && (s.cl u).held.isEmpty && (s.queueHead (u / 8)).isNone && !s.plcRestarting then
    match s.victim u with
    | none => s
    | some t =>
      let old := t.hold
      let far := u / 8 != t.home
      let t' := { t with state := .claimed, owner := some u, epoch := (t.epoch + 1) % 256, steals := t.steals + 1, remote := far }
      let s' := (s.setTile t').setCl u { s.cl u with held := [t'.hold] }
      let s' := match t.owner with
        | some v => s'.setCl v { s'.cl v with revokes := (s'.cl v).revokes ++ [old] }
        | none => s'
      let s' := s'.add (Reg.plcStat 0) 1
      if far then s'.add (Reg.plcStat 1) 1 else s'
  else s

/-- What a cluster counts of a run: samples, busy clocks, window-wait clocks and backdrop cells (R189, R199). -/
def State.countRun (s : State) (u samples busy wait cells : Nat) : State :=
  let k := u / 8
  let c := u % 8
  (((s.add (Reg.slcClStatSamples k c) samples).add (Reg.slcClStatBusy k c) busy).add (Reg.slcClStatWait k c) wait).add
    (Reg.slcClStatBdCells k c) cells

/-- Clocks that a plane sample takes a lane: four where it reads another slice's window (R188). -/
def sampleClocks (far : Bool) : Nat := if far then 4 else 1

/-- Busy clocks of 16 lanes that have taken so many samples (R188). -/
def busyClocks (samples : Nat) (far : Bool) : Nat := ceilDiv (samples * sampleClocks far) 16

/-- 64-bit counter in a LO/HI pair. -/
def State.add64 (s : State) (lo hi n : Nat) : State :=
  let v := (s.rd lo + s.rd hi * 2 ^ 32 + n) % 2 ^ 64
  (s.wr lo (v % 2 ^ 32)).wr hi (v / 2 ^ 32)

/-- What the lanes of a run that ends early have done beyond the results admitted: rays finished and not admitted, the samples taken and
the cells built for those and for the unfinished ones. How many is not stated: free values, the samples at most `room`. The synthesis
counters take them in (R189, R193; log entry 149). -/
def State.cutShort (s : State) (room : Nat) : Nat × Nat × State :=
  let a := s.draw
  let b := a.2.draw
  let c := b.2.draw
  let samples := a.1 % (room + 1)
  let cells := b.1 % (samples / 3 + 1)
  let rays := c.1 % (3 * 1024 * 16 + 1)
  let s := ((c.2.add64 (Reg.synStat 0) (Reg.synStat 1) rays).add64 (Reg.synStat 2) (Reg.synStat 3) samples).add (Reg.synStat 6) cells
  (samples, cells, [4, 7, 8].foldl (fun (s : State) i => s.draw.2.add (Reg.synStat i) (s.draw.1 % (rays + 1))) s)

/-- Clocks that a cluster has run what it runs, each stretch at the slice clock of its time (R228). -/
def State.runClocks (s : State) (u : Nat) : Nat :=
  ((s.cl u).ran + (s.now - (s.cl u).since) * s.fld (Reg.slcClock (u / 8)) 11 0) / (1000 * ns)

/-- A victim that had started a stolen tile abandons it: none of its results is admitted (R189, R237). -/
def State.abandon (s : State) (u : Nat) : State :=
  let far := (s.cl u).far
  let clocks := s.runClocks u
  let r := s.cutShort (16 * clocks / sampleClocks far)
  let s := r.2.2.countRun u r.1 (busyClocks r.1 far) (clocks - busyClocks r.1 far) r.2.1
  (if far then s.add (Reg.slcStat (u / 8) 1) r.1 else s).showTile u none

/-- REVOKE_ARRIVE (R237): the victim drops the tile, and abandons it where it has started it. -/
def State.revokeArrive (s : State) (u : Nat) : State :=
  match (s.cl u).revokes with
  | [] => s
  | h :: rest =>
    let s := if (s.cl u).running = some h then (s.abandon u).setCl u { s.cl u with running := none } else s
    let c := s.cl u
    (s.setCl u { c with held := c.held.filter (fun x => x != h), revokes := rest }).add (Reg.plcStat 2) 1

/-- The running tile of a cluster ends, if it is this one. -/
def State.endRun (s : State) (t : Tile) : State :=
  match t.owner with
  | some u =>
    if (s.cl u).running = some t.hold then (s.setCl u { s.cl u with running := none }).showTile u none
    else s.setCl u { s.cl u with held := (s.cl u).held.filter (fun h => h != t.hold) }
  | none => s

/-- A claimed tile goes back to its queue with a new epoch (R238). -/
def State.unclaim (s : State) (h : Hold) : State :=
  match s.tileOf h with
  | some t => if t.state = .claimed ∧ t.epoch = h.epoch then
      s.setTile { t with state := .queued, owner := none, epoch := (t.epoch + 1) % 256, remote := false } else s
  | none => s

/-- A cluster has left ACTIVE: what it had claimed goes back (R244). -/
def State.clusterLeft (s : State) (u : Nat) : State :=
  ((s.cl u).held.foldl State.unclaim s).setCl u { s.cl u with held := [] }

/-! ### Measured costs (R189, R228, R229) -/

/-- Clocks that a tile has been run for, each stretch at the slice clock of its time (R228). -/
def State.ranFor (s : State) (t : Tile) : Nat :=
  match t.owner with
  | some u => t.ran + (s.now - t.startAt) * s.fld (Reg.slcClock (u / 8)) 11 0
  | none => t.ran
def State.elapsed (s : State) (t : Tile) : Nat := s.ranFor t / (1000 * ns)

/-- The slice clocks are about to change: the clocks of the running tiles are taken so far (R228). -/
def State.settleClocks (s : State) : State :=
  { s with brc := { s.brc with tiles := s.brc.tiles.map (fun t => if t.state = .started then { t with ran := s.ranFor t, startAt := s.now } else t) },
           clusters := s.clusters.zipIdx.map (fun c => if c.1.running.isSome then
             { c.1 with ran := c.1.ran + (s.now - c.1.since) * s.fld (Reg.slcClock (c.2 / 8)) 11 0, since := s.now } else c.1) }

/-- Busy clocks of a tile: one sample per lane clock, four for a remote one, over 16 lanes (R188). -/
def Tile.busy (t : Tile) : Nat := busyClocks t.samples t.remote

/-- Put a measurement into the cost map (R228-R230). -/
def State.recordCost (s : State) (t : Tile) (clocks16 : Nat) (incomplete : Bool) : State :=
  let e : CostEntry :=
    { cost := min clocks16 65535, budget := t.budget - 1, taps := Nat.log2 t.taps, incomplete := incomplete,
      stolen := decide (0 < t.steals), remote := t.remote, planes := some t.planes }
  { s with plc := { s.plc with costs := Sparse.set cost0 s.plc.costs (posKey t.region t.band t.col) e } }

/-- What the cluster counts at the end of a tile's run; one that is not done has samples in rays that were not admitted (R189, R199). -/
def State.countTile (s : State) (t : Tile) (done : Bool) : State :=
  match t.owner with
  | some u =>
    let k := u / 8
    let c := u % 8
    let clocks := s.elapsed t
    let r := if done then (0, 0, s) else s.cutShort (16 * clocks / sampleClocks t.remote - t.samples)
    let samples := t.samples + r.1
    let s := r.2.2.countRun u samples (busyClocks samples t.remote) (clocks - busyClocks samples t.remote) (t.cells + r.2.1)
    let s := if t.remote then s.add (Reg.slcStat k 1) samples else s
    if done then (s.add (Reg.slcClStatTiles k c) 1).add (Reg.slcStat k 0) 1 else s
  | none => s

/-- The cost of a tile that completes (R228). -/
def State.costDone (s : State) (t : Tile) : State :=
  let clocks := max (s.elapsed t) t.busy - (if t.remote then 3 * t.samples / 16 else 0)
  s.recordCost t (clocks / 16) false

/-- The cost of a tile dropped at its deadline (R229). -/
def State.costDropped (s : State) (t : Tile) (tm : Timing) : State :=
  let prev := (s.costAt t.region t.band t.col).cost
  if t.state = .started then
    let all := tileRays tm t.band t.col
    if all ≤ 16 * t.rays then s.recordCost t (s.elapsed t * all / max t.rays 1 / 16) true
    else s.recordCost t (max (2 * prev) (s.elapsed t / 16)) true
  else if t.state = .queued ∨ t.state = .claimed then s.recordCost t (2 * prev) true
  else s

/-! ### Lost slices (R244) -/

/-- The nearest live slice on the left and on the right of slice `k`. -/
def neighbours (live : List Nat) (k : Nat) : Option Nat × Option Nat :=
  ((live.filter (fun x => decide (x < k))).getLast?, (live.filter (fun x => decide (k < x))).head?)

/-- Hand the columns of slice `k` over: the left half, rounded up, to the left neighbour, the rest to the right. -/
def handOver (live : List Nat) (k : Nat) (owner : List Nat) : List Nat :=
  let first := boundOf owner k
  let n := ownedCount owner k
  let nb := neighbours live k
  let taker := fun (c : Nat) => match nb with
    | (some l, some r) => if c < first + (n + 1) / 2 then l else r
    | (some l, none) => l
    | (none, some r) => r
    | (none, none) => k
  owner.zipIdx.map (fun o => if o.1 = k then taker o.2 else o.1)

/-- Whether slice `k` has left ACTIVE with its window, or has no ACTIVE cluster left (R244). A slice that is FENCING keeps
its columns (R226). -/
def State.sliceGone (s : State) (k : Nat) : Bool := s.activeClusters k == 0 && s.unitState (64 + k) != 1

/-- The stripes in force as they were with slice `k`: those of the plan, before a first plan the default ones of R231. -/
def State.stripesWith (s : State) (k : Nat) : List Nat :=
  let t := s.ras.timing
  match s.plc.plan with
  | some p => if p.owner.length = t.cols then p.owner else s.stripeOwner t
  | none => defaultOwner ((List.range 8).filter (fun i => i == k || s.liveSlices.contains i)) t.cols

/-- A slice has left ACTIVE, or lost its last ACTIVE cluster: a pin that gives it columns is broken (R244, R253). -/
def State.pinLost (s : State) (k : Nat) : State :=
  if s.flag Reg.plcCtrl 6 && !s.flag Reg.plcStatus 19 && (pinnedOwner (boundsOf (s.rd Reg.plcPinBounds0) (s.rd Reg.plcPinBounds1)) s.ras.timing.cols).contains k then
    (s.setFlag Reg.plcStatus 19 true).raise 0x80000 4
  else s

/-- SLICE_LOST (R244): the neighbours take over in the frame that runs; the plan that has been built excludes the slice by R231. -/
def State.sliceLost (s : State) (k : Nat) : State :=
  let owner := s.stripesWith k
  if k < 8 ∧ s.sliceGone k ∧ owner.contains k ∧ !s.plc.lost.contains k then
    let live := s.liveSlices
    let new := handOver live k owner
    let plan : Plan := match s.plc.plan with
      | some p => { p with owner := new }
      | none => { owner := new, levels := [], sets := [], set0 := s.qualityCfg.setting s.budgetMax 0, moves := [], lmax := 0 }
    let prep := s.plc.prep.map (fun p => if p.owner.contains k then { p with owner := defaultOwner live p.owner.length } else p)
    let s := (List.range 8).foldl (fun s c => s.clusterLeft (8 * k + c)) s
    let s := (s.brc.tiles.filter (fun t => t.queue == k && t.state == .claimed)).foldl (fun s t =>
      (match t.owner with | some u => s.setCl u { s.cl u with held := (s.cl u).held.filter (fun h => h != t.hold) } | none => s).unclaim t.hold) s
    let tiles := s.brc.tiles.map (fun t =>
      if t.queue = k ∧ t.state = .queued then { t with queue := new.getD t.col k, home := new.getD t.col k } else t)
    let s := { s with brc := { s.brc with tiles := tiles },
                      plc := { s.plc with plan := some plan, prep := prep, lost := k :: s.plc.lost, shown := handOver live k s.plc.shown } }
    let s := s.setWindow k []
    ((s.add (Reg.plcStat 8) 1).raise 0x80000 5).pinLost k
  else s

/-- BARCHAN_RESTART (R258): a plan in preparation is lost, and claims are refused while it lasts (log entry 21). -/
def State.plcRestart (s : State) : State :=
  if s.domOn 17 then
    let t := s.ras.timing
    let during := s.plc.planned && decide (s.ras.line < s.ras.timing.latch ∨ t.latch < 16)
    { s with plc := { s.plc with restartEnd := some (s.now + 100 * us), prep := if during then none else s.plc.prep } }
  else s

/-! ### Moving data (R246-R250) -/

/-- The channel of an address. -/
def chanOf (a : Nat) : Nat := a / 2 ^ 37

/-- The channel of an Oasis position (R246). -/
def State.oasChannel (s : State) (r b t : Nat) : Nat :=
  let l := s.placeChannels
  l.getD ((t + 8 * r + b) % max l.length 1) 12

/-- Bytes of ACTIVE DRAM beside the scene store, the Oasis and control complex memory (R257). -/
def State.spareDram (s : State) : Nat := s.placeSpace - s.scn.size

/-! ### The content cache (R246, R250) -/

/-- Segments that valid pin entries name, with a VALID mask. -/
def State.pinnedSegs (s : State) (mask : Nat) : List Nat :=
  (List.range 16).filterMap (fun i => if bitOf mask i then some (s.rd (Reg.plcSegPin i)) else none)

/-- Whether a line is pinned (R252). -/
def State.linePinned (s : State) (e : CacheLine) : Bool := (s.pinnedSegs (s.rd Reg.plcSegPinValid)).contains e.seg

/-- Replace the lines of the cache. -/
def State.setCache (s : State) (l : List CacheLine) : State := { s with plc := { s.plc with cache := l } }

/-- Evict the least recently used line that is not pinned. -/
def State.evictLine (s : State) : State :=
  match (s.plc.cache.filter (fun e => !s.linePinned e)).foldl
      (fun (b : Option CacheLine) e => match b with | none => some e | some x => if e.use < x.use then some e else b) none with
  | some v => s.setCache (s.plc.cache.filter (fun e => e != v))
  | none => s

/-- Evict lines until at most `cap` are left, `n` at most (R249, R250). -/
def State.trimCache (cap : Nat) : Nat → State → State
  | 0, s => s
  | n + 1, s => if cap < s.plc.cache.length then State.trimCache cap n s.evictLine else s

/-- Lines that the cache holds at most: GIB GiB of 4 MiB each, and in an evacuation what the other channels have room for (R249, R250). -/
def State.cacheCap (s : State) : Nat :=
  if s.plc.evac.isSome then min (s.fld Reg.plcCache 9 0 * 256)
    (((s.placeChannels.map s.chanCap).sum - s.scn.size - s.oasBytes - Config.cpxBytes) / 2 ^ 22)
  else s.fld Reg.plcCache 9 0 * 256

/-- The channel of a line: the lines are interleaved over the ACTIVE channels (R246), in the order of their numbers (log entry 150). -/
def State.cacheChan (s : State) (line : Nat) : Nat := s.placeChannels.getD (line % max s.placeChannels.length 1) 12

/-- A line that the cache holds and that can be read. -/
def State.cacheLine (s : State) (seg line : Nat) : Option CacheLine :=
  s.plc.cache.find? (fun e => e.seg == seg && e.line == line && s.chanUsable e.chan)

/-- Whether the cache holds a line that can be read. -/
def State.cacheHas (s : State) (seg line : Nat) : Bool := (s.cacheLine seg line).isSome

/-- Where a line goes on channel `c`: the first place below the scene space, counted downwards, that no other line stands in (log
entry 150). -/
def State.cacheAddr (s : State) (c : Nat) : Nat :=
  let mine := s.plc.cache.filter (fun e => e.chan == c)
  let at_ := fun (j : Nat) => s.placeTop c - s.scn.share c - (j + 1) * 2 ^ 22
  at_ (((List.range (2 * mine.length + 1)).find? (fun j =>
    mine.all (fun e => decide (e.addr + 2 ^ 22 ≤ at_ j ∨ at_ j + 2 ^ 22 ≤ e.addr)))).getD 0)

/-- A line with bytes `bs` comes into the cache, where the least recently used line that is not pinned gives way (R24, R250). -/
def State.cacheFill (s : State) (seg line : Nat) (bs : List Byte) : State :=
  if s.cacheHas seg line then s
  else
    let s := s.setCache (s.plc.cache.filter (fun e => !(e.seg == seg && e.line == line)))
    let s := State.trimCache (s.cacheCap - 1) s.plc.cache.length s
    if s.plc.cache.length < s.cacheCap then
      let c := s.cacheChan line
      let a := s.cacheAddr c
      State.dramWrite { s with plc := { s.plc with cacheUse := s.plc.cacheUse + 1,
                                                   cache := s.plc.cache ++ [{ seg := seg, line := line, use := s.plc.cacheUse + 1, chan := c, addr := a }] } } a bs
    else s

/-- A playback reads a line through the cache (R250, R254, R421). -/
def State.cacheRead (s : State) (seg line : Nat) (bs : List Byte) : State :=
  if s.cacheHas seg line then
    let u := s.plc.cacheUse + 1
    { s with plc := { s.plc with cacheUse := u, cache := s.plc.cache.map (fun (e : CacheLine) => if e.seg == seg && e.line == line then { e with use := u } else e) } }.add
      (Reg.plcStat 9) 1
  else (s.cacheFill seg line bs).add (Reg.plcStat 10) 1

/-- Change every entry and window slot that holds a unit, or the place of a table page (R247). -/
def State.retagUnit (s : State) (a b : Nat) : State :=
  let pages := s.scn.pages.map (fun p => { p with addr := if p.addr = a then b else p.addr, entries := p.entries.map (fun e =>
    if e.2.kind = 1 ∧ e.2.addr = a then (e.1, { e.2 with addr := b }) else e) })
  let wins := s.scn.windows.map (fun w => w.map (fun x => if x.addr = a then { x with addr := b } else x))
  { s with scn := { s.scn with pages := pages, windows := wins } }

/-- Units and table pages that stand on a channel and have not been moved. -/
def State.unitsOn (s : State) (c : Nat) : List (Nat × Nat) := s.scn.units.filter (fun u => chanOf u.1 == c && !s.plc.freeing.contains u)

/-- Versions from the oldest on. -/
def Scn.byAge (c : Scn) : List Version := c.back.toList ++ c.front.toList ++ c.pendingV ++ c.staging.toList

/-- Whether a version holds the unit or the table page at `a`. -/
def Scn.holds (c : Scn) (v : Version) (a : Nat) : Bool :=
  c.pages.any (fun p => (p.addr == a || p.units.contains a) && v.dir.any (fun e => e.2 == p.id))

/-- The rank by age of the oldest version that holds the unit at `a`. -/
def Scn.age (c : Scn) (a : Nat) : Nat := c.byAge.findIdx (fun v => c.holds v a)

/-- Bytes moved by an evacuation are counted in MiB (R254). -/
def State.evacCount (s : State) (n : Nat) : State :=
  let m := s.plc.evacMoved
  { s with plc := { s.plc with evacMoved := m + n } }.add (Reg.plcStat 7) ((m + n) / 2 ^ 20 - m / 2 ^ 20)

/-- Whether the unit at `a` may move now: its channel is being evacuated, the oldest version first, or the plan in force moves units
off its channel (R226, R246, R248). -/
def State.mayMove (s : State) (a : Nat) : Bool :=
  let c := chanOf a
  if s.plc.evac.any (fun e => e.channel == c) then (s.unitsOn c).all (fun u => decide (s.scn.age a ≤ s.scn.age u.1))
  else s.plc.plan.any (fun p => p.moves.contains c)

/-- A page of control complex memory at `a` is copied off the channel that is being evacuated (R248): pages of 4 KiB, whose addresses on
the other channels are not stated (log entry 179). -/
def State.migrateCpx (s : State) (a dest : Nat) : State :=
  match s.plc.evac with
  | some e =>
    if e.channel = chanOf a ∧ a % 4096 = 0 ∧ e.cpx ≠ 0 ∧ dest ≠ chanOf a ∧ dest ∈ s.placeChannels then
      ({ s with plc := { s.plc with evac := some { e with cpx := e.cpx - 4096 } } }).evacCount (min 4096 e.cpx)
    else s
  | none => s

/-- UNIT_MIGRATE (R247): the unit or table page at `a` moves to channel `dest`. The old space is freed at the next latch; until then both
count against the free space (R118). -/
def State.migrate (s : State) (a dest : Nat) : State :=
  match (s.unitsOn (chanOf a)).find? (fun u => u.1 == a) with
  | some u =>
    if s.mayMove a && dest != chanOf a && s.placeChannels.contains dest then
      match s.gapOn dest (s.scn.share dest) u.2, s.dramRead u.1 u.2 with
      | some b, some bytes =>
        let s := (s.dramWrite b bytes).takeSpace b u.2
        let s := { s with plc := { s.plc with freeing := u :: s.plc.freeing } }
        let s := ((s.retagUnit a b).add (Reg.plcStat 6) 1).scnLowCheck
        if s.plc.evac.any (fun e => e.channel == chanOf a) then s.evacCount u.2 else s
      | _, _ => s
    else s
  | none => s.migrateCpx a dest

/-- Bytes that must leave channel `c`: units and table pages, Oasis positions, control complex memory (R248, R255). -/
def State.evacBytes (s : State) (c : Nat) : Nat :=
  ((s.unitsOn c).map (fun u => unitSpace u.2)).sum +
  (s.brc.oasis.map (fun o => (o.filter (fun e => e.2.channel == c)).length * 30724)).sum +
  (match s.plc.evac with | some e => if e.channel = c then e.cpx else 0 | none => 0)

/-- Whether the channels that would remain can hold what channel `c` holds: its scene units within the scene space of theirs, and all
that Barchan places, pinned cache lines included, beside each other (R249). -/
def State.evacFits (s : State) (c : Nat) : Bool :=
  let l := s.placeChannels.filter (fun x => x != c)
  let used := fun (x : Nat) => ((s.unitsOn x).map (fun u => unitSpace u.2)).sum
  decide (used c + (l.map used).sum ≤ (l.map s.scn.share).sum) &&
  decide ((l.map s.scn.share).sum + s.oasBytes + Config.cpxBytes + s.plc.cache.countP s.linePinned * 2 ^ 22 ≤ (l.map s.chanCap).sum)

/-- A pinned line moves to another channel (R248); one whose bytes cannot be read is dropped. -/
def State.moveLine (s : State) (e : CacheLine) : State :=
  let s := s.setCache (s.plc.cache.filter (fun x => x != e))
  match s.dramRead e.addr (2 ^ 22) with
  | some bs =>
    let c := s.cacheChan e.line
    let a := s.cacheAddr c
    (s.setCache (s.plc.cache ++ [{ e with chan := c, addr := a }])).dramWrite a bs
  | none => s

/-- An evacuation starts (R248): nothing new is placed on the channel, and its Oasis positions of the next frame's write slot go elsewhere
as they are written; the read slot stays until the frame ends. Its share of control complex memory is to be copied. Its cache lines that
are not pinned are dropped and the pinned ones copied; the cache gives way where the other channels have no room for it (R249). -/
def State.evacStart (s : State) (c : Nat) : State :=
  let cpx := Config.cpxBytes / (s.placeChannels.filter (fun x => x != c)).length.succ
  let s : State := { s with plc := { s.plc with evac := some { channel := c, until_ := s.ras.frame + 1, cpx := cpx } } }
  let pinned := s.plc.cache.filter (fun e => e.chan == c && s.linePinned e)
  let s := s.setCache (s.plc.cache.filter (fun e => e.chan != c || s.linePinned e))
  let s := pinned.foldl (fun s e => s.moveLine e) s
  (State.trimCache s.cacheCap s.plc.cache.length s).evacCount (pinned.length * 2 ^ 22)

/-- Whether nothing remains on the channel being evacuated (R248). -/
def State.evacEmpty (s : State) : Bool :=
  match s.plc.evac with
  | some e => decide (e.until_ < s.ras.frame) && (s.unitsOn e.channel).isEmpty && e.cpx == 0
  | none => false

/-! ### Registers of the PLC page -/

/-- Bounds that give a column to a slice that is not ACTIVE (R256). -/
def State.boundsDead (s : State) (w0 w1 : Nat) : Bool :=
  (pinnedOwner (boundsOf w0 w1) s.ras.timing.cols).any (fun k => !s.liveSlices.contains k)

/-- Bounds that decrease or exceed the tile columns in force (R256). -/
def State.boundsBad (s : State) (w0 w1 : Nat) : Bool :=
  let b := boundsOf w0 w1
  (b.zip (b.drop 1)).any (fun x => decide (x.2 < x.1)) || b.any (fun x => decide (s.ras.timing.cols < x))

/-- Checks of a write to the PLC page (R254-R257, R522). `segBytes` gives the bytes a segment holds in the store. -/
def State.plcCheck (s : State) (segBytes : Nat → Nat) (off data : Nat) : List Nat :=
  let w0 := s.rd Reg.plcPinBounds0
  let w1 := s.rd Reg.plcPinBounds1
  let pin := s.flag Reg.plcCtrl 6
  let bands := s.ras.timing.bands
  if off = 0x40 then codeIf (bitOf data 6 && !pin && s.boundsDead w0 w1) 0x802
  else if off = 0x44 then codeIf (decide (bitsOf data 7 0 ≤ bitsOf data 15 8)) 6
  else if off = 0x4C then codeIf (s.boundsBad data w1) 1 ++ codeIf (pin && s.boundsDead data w1) 0x802
  else if off = 0x50 then codeIf (s.boundsBad w0 data) 1 ++ codeIf (pin && s.boundsDead w0 data) 0x802
  else if off = 0x54 then
    codeIf s.plc.evac.isSome 9 ++ codeIf (decide (s.spareDram < bitsOf data 9 0 * 2 ^ 30)) 0x803
  else if off = 0x5C then
    codeIf (s.flag Reg.plcHintCtrl 31) 9 ++ codeIf (decide (bands ≤ bitsOf data 10 0) || decide (bands ≤ bitsOf data 26 16)) 1 ++
    codeIf (decide (bitsOf data 26 16 < bitsOf data 10 0)) 6
  else if off = 0x6C ∧ bitOf data 31 then
    codeIf (s.flag Reg.plcCostmapCtrl 31) 9 ++
    codeIf (!s.dramOk (s.addr64 Reg.plcCostmapLo Reg.plcCostmapHi) (4 * s.ras.timing.regionCount * bands * s.ras.timing.cols)) 0xB
  else if off = 0x70 then
    codeIf (decide (s.fld Reg.plcCache 9 0 * 2 ^ 29 < ((s.pinnedSegs data).map segBytes).sum) &&
      (List.range 16).any (fun i => bitOf data i && !s.flag Reg.plcSegPinValid i)) 7
  else if 0x200 ≤ off ∧ off < 0x240 then codeIf (s.flag Reg.plcSegPinValid ((off - 0x200) / 4)) 9
  else []

/-- Effects of an accepted write to the PLC page (R253, R255). -/
def State.plcEffect (s : State) (off data : Nat) : State :=
  if off = 0x40 then s.setFlag Reg.plcStatus 19 false
  else if off = 0x54 then State.trimCache s.cacheCap s.plc.cache.length s
  else if off = 0x6C ∧ bitOf data 31 then s.setFlag Reg.plcCostmapCtrl 0 false
  else s

/-- Computed words of the PLC page (R255). -/
def State.plcRead (s : State) (off : Nat) : Option Nat :=
  if off = 0x80 then
    let n := ((List.range 8).map s.activeClusters).sum
    some (putBits (putBits (putBits (putBits (s.rd Reg.plcStatus) 6 0 n) 11 8 s.liveSlices.length) 17 17 (if s.plc.evac.isSome then 1 else 0))
      18 18 (if s.plc.lost.isEmpty then 0 else 1) + min ((s.plc.plan.map (fun p => p.lmax)).getD 0) 63 * 2 ^ 24)
  else if off = 0x84 ∨ off = 0x88 then
    let owner := s.stripeOwner (if s.ras.latched then s.nextT else s.ras.timing)
    if owner.isEmpty then none else some (if off = 0x84 then stripeWord owner 1 4 else stripeWord owner 5 3)
  else if off = 0x90 then
    some (match s.plc.evac with
      | some e => e.channel % 16 + 16 + min (s.evacBytes e.channel / 2 ^ 20) (2 ^ 24 - 1) * 2 ^ 8
      | none => 0)
  else none

/-- Computed words of a slice page (R199): cluster states, ACTIVE clusters and queued tiles. -/
def State.slcRead (s : State) (k off : Nat) : Option Nat :=
  if off = 0x40 then some ((List.range 8).countP (fun c => s.unitState (8 * k + c) == 0) + min (s.brc.tiles.countP (fun t => t.state == .queued && t.queue == k)) 255 * 2 ^ 16)
  else if 0x400 ≤ off ∧ off < 0x800 ∧ (off - 0x400) % 0x80 = 0 then some (s.unitState (8 * k + (off - 0x400) / 0x80))
  else none

end Sys2Proof.Machine
end

