-- ==== Sys2Proof/Machine/Layers.lean ====
section
/-! DEFINITION. Flat layers (R259-R282): surfaces, filters, blending, readiness, decoders, commit checks, the automatic
lens map. -/

namespace Sys2Proof.Machine

/-- A word of the layer settings of a frame. -/
def LaySet.rd (l : LaySet) (a : Nat) : Nat := (Sparse.get resetWord l.regs a).toNat

/-- Bits of a word of the layer settings. -/
def LaySet.fld (l : LaySet) (a hi lo : Nat) : Nat := bitsOf (l.rd a) hi lo

/-- Address in a LO/HI pair of the layer settings. -/
def LaySet.addr (l : LaySet) (lo hi : Nat) : Nat := l.rd lo + l.rd hi * 2 ^ 32

/-- The settings that a latch puts in force for frame `f`. -/
def State.laySetFor (s : State) (f : Nat) (decoders : List Nat) : LaySet :=
  { frame := f, regs := s.regs.filter (fun e => decide (0x90000 ≤ e.1 ∧ e.1 < 0x98000)), outPeak := s.fld Reg.synOutPeak 13 0,
    hidden := s.lyr.hidden, decoders := decoders }

/-- The settings for frame `f`. -/
def State.laySet (s : State) (f : Nat) : Option LaySet :=
  match s.lyr.front with
  | some p => if p.frame = f then some p else
      (match s.lyr.back with | some q => if q.frame = f then some q else none | none => none)
  | none => none

/-! ### Formats (R263, R264) -/

/-- Whether a format is Y/C. -/
def isYc (fmt : Nat) : Bool := decide (4 ≤ fmt)
/-- Whether chroma has half width, and half height. -/
def halfW (fmt : Nat) : Bool := decide (4 ≤ fmt ∧ fmt ≤ 7)
def halfH (fmt : Nat) : Bool := fmt == 4 || fmt == 6
/-- Bytes of a pixel of plane 0, and of one chroma sample. -/
def lumaBytes (fmt : Nat) : Nat := if fmt = 0 then 3 else if fmt = 1 ∨ fmt = 2 then 4 else if fmt = 3 then 5
  else if fmt = 6 ∨ fmt = 7 ∨ fmt = 9 then 2 else 1
def chromaBytes (fmt : Nat) : Nat := if fmt = 6 ∨ fmt = 7 ∨ fmt = 9 then 2 else 1
/-- Twice the bytes per pixel of R269. -/
def rateBytes2 (fmt : Nat) : Nat :=
  if fmt = 0 then 6 else if fmt = 1 then 8 else if fmt = 2 then 8 else if fmt = 3 then 10 else if fmt = 4 then 3 else if fmt = 5 then 4
  else if fmt = 6 then 6 else if fmt = 7 then 8 else if fmt = 8 then 6 else 12

/-- An 8-bit code as a 10-bit one (R264). -/
def code8 (k : Nat) : Nat := 4 * k + k / 64

/-- A stored Y/C code as a 10-bit one; 10-bit containers hold it in [15:6]. -/
def ycCode (wide : Bool) (v : Nat) : Nat := if wide then v / 64 % 1024 else code8 v

/-- The channels R, G, B, A of a pixel of formats 0 to 3. -/
def rgbCodes (fmt : Nat) (bytes : List Byte) : List Nat :=
  let v := leNat bytes
  if fmt = 0 then [code8 (v % 256), code8 (v / 256 % 256), code8 (v / 65536 % 256), 1023]
  else if fmt = 1 then [code8 (v % 256), code8 (v / 256 % 256), code8 (v / 65536 % 256), code8 (v / 2 ^ 24 % 256)]
  else [bitsOf v 9 0, bitsOf v 19 10, bitsOf v 29 20, if fmt = 3 then bitsOf v 39 30 else 1023]

/-- BT.2020 non-constant-luminance conversion of channel `k` (R264). -/
def ycToRgb (full : Bool) (k y cb cr : Nat) : Nat :=
  let a : Int := if k = 0 then 0 else if k = 1 then -16455 else 188140
  let b : Int := if k = 0 then 147460 else if k = 1 then -57135 else 0
  let c : Int := a * ((cb : Int) - 512) + b * ((cr : Int) - 512)
  let r := if full then rnd0 (1023 * ((y : Int) * 100000 + c)) (1023 * 100000)
    else rnd0 (1023 * (((y : Int) - 64) * 896 * 100000 + c * 876)) (876 * 896 * 100000)
  (clampI 0 1023 r).toNat

/-! ### Reading a surface -/

/-- Settings of one layer. -/
structure LayCfg where
  fmt : Nat
  tiled : Bool
  alpha : Nat
  pq : Bool
  full : Bool
  base0 : Nat
  base1 : Nat
  base2 : Nat
  stride0 : Nat
  stride1 : Nat
  w : Nat
  h : Nat
  sx : Nat
  sy : Nat
  sw : Nat
  sh : Nat
  dx : Nat
  dy : Nat
  dw : Nat
  dh : Nat
  vtaps : Nat
  tw : Nat
  th : Nat
  deriving DecidableEq, Repr

/-- The settings of a layer from its register words. -/
def layCfg (rd : Nat → Nat) (n : Nat) : LayCfg :=
  let c := rd (Reg.lyrLCtrl n)
  { fmt := bitsOf c 7 4, tiled := bitOf c 8, alpha := bitsOf c 10 9, pq := bitOf c 11, full := bitOf c 12,
    base0 := rd (Reg.lyrLBase0Lo n) + rd (Reg.lyrLBase0Hi n) * 2 ^ 32, base1 := rd (Reg.lyrLBase1Lo n) + rd (Reg.lyrLBase1Hi n) * 2 ^ 32,
    base2 := rd (Reg.lyrLBase2Lo n) + rd (Reg.lyrLBase2Hi n) * 2 ^ 32, stride0 := bitsOf (rd (Reg.lyrLStride0 n)) 23 0,
    stride1 := bitsOf (rd (Reg.lyrLStride1 n)) 23 0, w := bitsOf (rd (Reg.lyrLSurfSize n)) 14 0, h := bitsOf (rd (Reg.lyrLSurfSize n)) 30 16,
    sx := bitsOf (rd (Reg.lyrLSrcPos n)) 14 0, sy := bitsOf (rd (Reg.lyrLSrcPos n)) 30 16, sw := bitsOf (rd (Reg.lyrLSrcSize n)) 14 0,
    sh := bitsOf (rd (Reg.lyrLSrcSize n)) 30 16, dx := bitsOf (rd (Reg.lyrLDstPos n)) 15 0, dy := bitsOf (rd (Reg.lyrLDstPos n)) 31 16,
    dw := bitsOf (rd (Reg.lyrLDstSize n)) 15 0, dh := bitsOf (rd (Reg.lyrLDstSize n)) 31 16, vtaps := bitsOf (rd (Reg.lyrLScale n)) 2 0,
    tw := 64 * 2 ^ bitsOf (rd (Reg.lyrLTile n)) 2 0, th := 16 * 2 ^ bitsOf (rd (Reg.lyrLTile n)) 5 4 }

/-- A read of surface bytes; poisoned data fails with the code of R157. -/
def State.layRead (s : State) (a n : Nat) : Except Nat (List Byte) :=
  match s.dramRead a n with | some b => .ok b | none => .error 0x409

/-- The MBC format of a TILED layer format (R265). -/
def tiledFormat (fmt : Nat) : Nat := if fmt = 0 then 3 else if fmt = 2 then 2 else 1

/-- A unit of a TILED surface: `none` where its entry is not VALID. A failed check of R157 steps 1 to 6 is an error; a
failed check value is not (R276). The second part tells a failed check value. -/
def State.layUnit (s : State) (c : LayCfg) (tx ty : Nat) : Except Nat (Option (List Byte × Bool)) :=
  match s.layRead (c.base0 + 8 * (ty * ceilDiv c.w c.tw + tx)) 8 with
  | .error e => .error e
  | .ok bs =>
    let w0 := leNat (bs.take 4)
    let w1 := leNat (bs.drop 4)
    if !bitOf w1 31 then .ok none
    else
      let a := (w0 + bitsOf w1 2 0 * 2 ^ 32) * 64
      let n := bitsOf w1 24 8
      if !s.dramOk a n then .error 0xB
      else match s.layRead a n with
        | .error e => .error e
        | .ok u =>
          let h := MbcHeader.read u
          let r := mbcPartial (some n) none u
          if r.1 ≠ 0 ∧ r.1 ≠ 0x408 then .error r.1
          else if h.format ≠ tiledFormat c.fmt ∨ h.rowPixels ≠ c.tw ∨ h.rawLen ≠ c.tw * c.th * lumaBytes c.fmt then .error 0x403
          else .ok (some (r.2, decide (r.1 = 0x408)))

/-- The channels R, G, B, A of source pixel (x, y) of an RGB surface. -/
def State.layRgb (s : State) (c : LayCfg) (x y : Nat) : Except Nat (List Nat) :=
  let px := lumaBytes c.fmt
  if c.tiled then
    match s.layUnit c (x / c.tw) (y / c.th) with
    | .error e => .error e
    | .ok none => .ok [0, 0, 0, 0]
    | .ok (some (u, _)) => .ok (rgbCodes c.fmt (slice u ((y % c.th * c.tw + x % c.tw) * px) px))
  else match s.layRead (c.base0 + y * c.stride0 + x * px) px with
    | .error e => .error e
    | .ok bs => .ok (rgbCodes c.fmt bs)

/-- Component 0 (Y), 1 (Cb) or 2 (Cr) at sample (x, y) of its plane. -/
def State.layYc (s : State) (c : LayCfg) (comp x y : Nat) : Except Nat Nat :=
  let wide := chromaBytes c.fmt == 2
  let n := chromaBytes c.fmt
  let a := if comp = 0 then c.base0 + y * c.stride0 + x * n
    else if halfW c.fmt then c.base1 + y * c.stride1 + x * 2 * n + (comp - 1) * n
    else (if comp = 1 then c.base1 else c.base2) + y * c.stride1 + x * n
  match s.layRead a n with
  | .error e => .error e
  | .ok bs => .ok (ycCode wide (leNat bs))

/-! ### Scaling (R266, R267) -/

/-- u and v of subpixel `sp` of global line `g`, in 2^-16 source pixels (R266). -/
def LayCfg.u (c : LayCfg) (sp : Nat) : Int := rnd0 (((c.sx * 6 * c.dw : Nat) + (2 * (sp : Int) + 1 - 6 * c.dx) * c.sw) * 65536) (6 * c.dw)
def LayCfg.v (c : LayCfg) (g : Nat) : Int := rnd0 (((c.sy * 2 * c.dh : Nat) + (2 * (g : Int) + 1 - 2 * c.dy) * c.sh) * 65536) (2 * c.dh)

/-- Results of a list of reads, the first error if there is one. -/
def gather {α : Type} : List (Except Nat α) → Except Nat (List α)
  | [] => .ok []
  | .error e :: _ => .error e
  | .ok a :: l => match gather l with
    | .ok as => .ok (a :: as)
    | .error e => .error e

/-- Tap `i` of phase `ph` of a coefficient table at address `a`. -/
def LaySet.tap (l : LaySet) (a ph i : Nat) : Int := signedBits (l.fld (a + ph * 16 + i / 2 * 4) (16 * (i % 2) + 15) (16 * (i % 2))) 16

/-- The polyphase filter (R267) around pixel (i0, j0) at phases (ph, pv), over a crop of `w` x `h` at (x0, y0). -/
def LaySet.filter (l : LaySet) (n taps x0 y0 w h : Nat) (get : Nat → Nat → Except Nat Nat) (i0 : Int) (ph : Nat) (j0 : Int) (pv : Nat) :
    Except Nat Nat :=
  let px := fun (i : Int) => (clampI x0 ((x0 : Int) + w - 1) i).toNat
  let py := fun (j : Int) => (clampI y0 ((y0 : Int) + h - 1) j).toNat
  match gather ((List.range 8).map (fun i => gather ((List.range taps).map (fun j =>
      get (px (i0 - 3 + i)) (py (j0 - (taps / 2 : Nat) + 1 + j)))))) with
  | .error e => .error e
  | .ok cols =>
    let sums := cols.zipIdx.map (fun c =>
      l.tap (0x90800 + n * 0x1000) ph c.2 *
        (c.1.zipIdx.map (fun y => l.tap (0x90C00 + n * 0x1000) pv (3 - taps / 2 + y.2) * (y.1 : Int))).sum)
    .ok (clampI 0 1023 (rnd0 sums.sum (2 ^ 24))).toNat

/-- The channels R, G, B, A of source pixel (x, y) of a surface without sub-sampling: Y/C codes are brought to RGB before scaling
(R264), and a format without alpha reads alpha 1,023 (R262). -/
def State.layPixel (s : State) (c : LayCfg) (x y : Nat) : Except Nat (List Nat) :=
  if isYc c.fmt then
    match s.layYc c 0 x y, s.layYc c 1 x y, s.layYc c 2 x y with
    | .ok y, .ok cb, .ok cr => .ok ((List.range 3).map (fun k => ycToRgb c.full k y cb cr) ++ [1023])
    | .error e, _, _ => .error e
    | _, .error e, _ => .error e
    | _, _, .error e => .error e
  else s.layRgb c x y

/-- Colour code of channel `k` and alpha code of layer `n` at (u, v), alpha filtered like the channels (R267). Sub-sampled chroma is
sampled at its own phase, and the conversion follows it (R264; log entry 52). -/
def State.laySample (s : State) (l : LaySet) (n : Nat) (c : LayCfg) (k : Nat) (u v : Int) : Except Nat (Nat × Nat) :=
  let i0 := (u - 32768) / 65536
  let ph := ((u - 32768) % 65536 * 64 / 65536).toNat
  let j0 := (v - 32768) / 65536
  let pv := ((v - 32768) % 65536 * 64 / 65536).toNat
  let full := fun (get : Nat → Nat → Except Nat Nat) => l.filter n c.vtaps c.sx c.sy c.sw c.sh get i0 ph j0 pv
  if halfW c.fmt then
    let ci := ((u - 32768) / 131072, ((u - 32768) % 131072 * 64 / 131072).toNat)
    let cj := if halfH c.fmt then ((v - 65536) / 131072, ((v - 65536) % 131072 * 64 / 131072).toNat) else (j0, pv)
    let dh := if halfH c.fmt then 2 else 1
    let chroma := fun (m : Nat) => l.filter n c.vtaps (c.sx / 2) (c.sy / dh) (c.sw / 2) (c.sh / dh) (s.layYc c m) ci.1 ci.2 cj.1 cj.2
    match full (s.layYc c 0), chroma 1, chroma 2, full (fun _ _ => .ok 1023) with
    | .ok y, .ok cb, .ok cr, .ok a => .ok (ycToRgb c.full k y cb cr, a)
    | .error e, _, _, _ => .error e
    | _, .error e, _, _ => .error e
    | _, _, .error e, _ => .error e
    | _, _, _, .error e => .error e
  else
    let ch := fun (m : Nat) => full (fun x y => match s.layPixel c x y with | .ok p => .ok (p.getD m 0) | .error e => .error e)
    match ch k, ch 3 with
    | .ok a, .ok b => .ok (a, b)
    | .error e, _ => .error e
    | _, .error e => .error e

/-- Colour and alpha of a layer at a subpixel from its codes (R262). -/
def LaySet.light (l : LaySet) (n : Nat) (c : LayCfg) (code alpha : Nat) : Nat × Nat :=
  let lin := min 16383 (if c.pq then Pq.code code 16384 l.outPeak
    else (rnd0 (code * l.fld (Reg.lyrLPeak n) 13 0 * 16384 : Nat) (1023 * l.outPeak)).toNat)
  let a := if c.alpha = 2 then l.fld (Reg.lyrLConst n) 9 0 else alpha
  (if c.alpha = 0 then lin else (rnd0 (lin * a : Nat) 1023).toNat, a)

/-- Whether layer `n` takes part in a frame. -/
def LaySet.shown (l : LaySet) (n : Nat) : Bool := l.fld (Reg.lyrLCtrl n) 0 0 == 1 && !l.hidden.contains n

/-- Whether the data of layer `n` can be decoded: a TILED surface needs a decoder that is in service (R275; log entry 154). -/
def State.decodable (s : State) (l : LaySet) (n : Nat) : Bool :=
  let d := l.decoders.getD (n - 1) 0
  !(layCfg l.rd n).tiled || (decide (1 ≤ d ∧ d ≤ 7) && decide (s.unitState (111 + d) ≤ 2))

/-- (c, a) of flat layer `n` at subpixel `sp` of global line `g` (R261, R266). -/
def State.layAt (s : State) (l : LaySet) (n sp g : Nat) : Except Nat (Nat × Nat) :=
  let c := layCfg l.rd n
  if l.shown n && decide (c.dx ≤ sp / 3 ∧ sp / 3 < c.dx + c.dw ∧ c.dy ≤ g ∧ g < c.dy + c.dh) then
    if !s.decodable l n then .error 0x906
    else match s.laySample l n c (sp % 3) (c.u sp) (c.v g) with
    | .ok ca => .ok (l.light n c ca.1 ca.2)
    | .error e => .error e
  else .ok (0, 0)

/-! ### The blend stack (R259-R261) -/

/-- The layer at position `p` (R260). -/
def LaySet.layerAt (l : LaySet) (p : Nat) : Nat := if l.fld Reg.lyrCtrl 0 0 = 1 then l.fld Reg.lyrOrder (4 * p + 2) (4 * p) else p

/-- The background of channel `k`. -/
def LaySet.bg (l : LaySet) (k : Nat) : Nat :=
  if k = 0 then l.fld Reg.lyrBgRg 13 0 else if k = 1 then l.fld Reg.lyrBgRg 29 16 else l.fld Reg.lyrBgB 13 0

/-- One step of the blend (R261). -/
def blend (acc c a : Nat) : Nat := min 16383 (c + (rnd0 (acc * (1023 - a) : Nat) 1023).toNat)

/-- The composed value of a subpixel and whether it is flat-covered (R261, R278), from the ray colour and coverage. -/
def State.compose (s : State) (l : LaySet) (sp g color coverage : Nat) : Except Nat (Nat × Bool) :=
  match gather ((List.range 8).map (fun p =>
    let n := l.layerAt p
    if n = 0 then .ok (color, coverage) else s.layAt l n sp g)) with
  | .error e => .error e
  | .ok cas =>
    let ray := ((List.range 8).find? (fun p => l.layerAt p == 0)).getD 8
    let flat := (List.range 8).any (fun p => decide (ray < p) && l.fld (Reg.lyrLCtrl (l.layerAt p)) 13 13 == 1 && (cas.getD p (0, 0)).2 == 1023)
    .ok (cas.foldl (fun acc ca => blend acc ca.1 ca.2) (l.bg (sp % 3)), flat)

/-! ### Readiness and decoders (R272-R275) -/

/-- Whether layer `n` is ready with DONE at `done`: EN, WAIT and TOKEN as `rd` gives them (R272). -/
def layReadyWith (rd : Nat → Nat) (n done : Nat) : Bool :=
  let c := rd (Reg.lyrLCtrl n)
  !(bitOf c 0 && bitOf c 14) || done == bitsOf (rd (Reg.lyrLToken n)) 15 0

/-- DONE of the seven layers. -/
def State.doneNow (s : State) : List Nat := (List.range 7).map (fun i => s.fld (Reg.lyrLDone (i + 1)) 15 0)

/-- Whether layer `n` is ready now. -/
def State.layReady (s : State) (rd : Nat → Nat) (n : Nat) : Bool := layReadyWith rd n (s.fld (Reg.lyrLDone n) 15 0)

/-- Whether layer `n` is ready at the latch: a DONE written in the latch cycle counts as after it (R282). -/
def State.latchReady (s : State) (rd : Nat → Nat) (n : Nat) : Bool := layReadyWith rd n (s.lyr.doneSeen.getD (n - 1) 0)

/-- Layers that are not ready at the latch under the shadows (R273). -/
def State.notReady (s : State) : List Nat := ((List.range 7).map (· + 1)).filter (fun n => !s.latchReady s.rdShadow n)

/-- A bit mask of layer numbers. -/
def layMask (l : List Nat) : Nat := (l.map (fun n => 2 ^ n)).sum

/-- The layer whose decoder carries each layer 1-7, 0 for none, under the settings `rd` (R275). -/
def State.assignDecoders (s : State) (rd : Nat → Nat) : List Nat :=
  let active := fun (n : Nat) => s.unitState (111 + n) == 0
  let tiled := fun (n : Nat) => bitOf (rd (Reg.lyrLCtrl n)) 0 && bitOf (rd (Reg.lyrLCtrl n)) 8
  (((List.range 7).map (· + 1)).foldl (fun (acc : List Nat × List Nat) n =>
    if active n || !tiled n then (acc.1 ++ [n], acc.2)
    else match ((List.range 7).map (· + 1)).find? (fun d => active d && !acc.2.contains d) with
      | some d => (acc.1 ++ [d], d :: acc.2)
      | none => (acc.1 ++ [0], acc.2)) ([], [])).1

/-- Enabled tiled layers without a decoder. -/
def State.noDecoder (s : State) (rd : Nat → Nat) : List Nat :=
  ((s.assignDecoders rd).zipIdx.filter (fun d => d.1 == 0)).map (fun d => d.2 + 1)

/-! ### Checks at a group commit (R267-R269, R276, R282, R521, R522) -/

/-- Regions that a layer's rectangle meets within the active area (R269). -/
def LayCfg.regionsMet (c : LayCfg) (t : Timing) : Nat :=
  (List.range t.regionCount).countP (fun r => decide (c.dx < t.hactive ∧ c.dy < (r + 1) * t.vactive ∧ r * t.vactive < c.dy + c.dh))

/-- The bytes that the estimate gives layer `n` for each line time (R269). -/
def layLineBytes (rd : Nat → Nat) (t : Timing) (n : Nat) : Rat :=
  let c := layCfg rd n
  if bitOf (rd (Reg.lyrLCtrl n)) 0 then 9 / 8 * (((rateBytes2 c.fmt * c.sw * c.sh * c.regionsMet t : Nat) : Rat) / ((2 * c.dh : Nat) : Rat)) else 0

/-- The read-rate estimate in bytes per second (R269). -/
def State.layRate (rd : Nat → Nat) (t : Timing) : Rat :=
  ((List.range 7).map (fun n => layLineBytes rd t (n + 1))).sum * (t.vtotal : Rat) / ((t.period : Rat) / ((sec : Nat) : Rat))

/-- Bytes that layer `n` reads in a frame at most: its part of the estimate in force (R269). -/
def layFrameBytes (rd : Nat → Nat) (t : Timing) (n : Nat) : Nat := (layLineBytes rd t n * (t.vtotal : Rat)).floor.toNat

/-- Bytes of a row of plane 0 and of the chroma planes. -/
def LayCfg.row0 (c : LayCfg) : Nat := c.w * lumaBytes c.fmt
def LayCfg.row1 (c : LayCfg) : Nat := if halfW c.fmt then ceilDiv c.w 2 * 2 * chromaBytes c.fmt else c.w * chromaBytes c.fmt

/-- SURFACE (0x0904): the offset it is recorded at (R282, R521). -/
def LayCfg.surfaceOff (c : LayCfg) : Option Nat :=
  let odd := fun (v : Nat) => v % 2 = 1
  if (c.tiled ∧ ¬(c.fmt = 0 ∨ c.fmt = 2 ∨ c.fmt = 3)) ∨ (c.tiled ∧ 65536 < c.tw * c.th * lumaBytes c.fmt) ∨
      (halfW c.fmt ∧ (odd c.sx ∨ odd c.sw)) ∨ (halfH c.fmt ∧ (odd c.sy ∨ odd c.sh)) ∨
      (¬c.tiled ∧ (c.stride0 < c.row0 ∨ (isYc c.fmt ∧ c.stride1 < c.row1))) then some 0x40
  else if c.w < c.sx + c.sw ∨ c.h < c.sy + c.sh then some 0x64
  else none

/-- Whether the plane ranges or the tile index lie in DRAM (R276, R522). -/
def State.surfaceIn (s : State) (c : LayCfg) : Bool :=
  if c.tiled then s.dramOk c.base0 (8 * (ceilDiv c.w c.tw * ceilDiv c.h c.th))
  else
    let ch := if halfH c.fmt then ceilDiv c.h 2 else c.h
    s.dramOk c.base0 (c.stride0 * (c.h - 1) + c.row0) &&
    (!isYc c.fmt || s.dramOk c.base1 (c.stride1 * (ch - 1) + c.row1)) &&
    (!(isYc c.fmt && !halfW c.fmt) || s.dramOk c.base2 (c.stride1 * (ch - 1) + c.row1))

/-- The failing checks of the LYR pages at a group commit, on shadow values: (code, page base, offset). -/
def State.lyrCommitCodes (s : State) (t : Timing) : List (Nat × Nat × Nat) :=
  let on := ((List.range 7).map (· + 1)).filter (fun n => bitOf (s.rdShadow (Reg.lyrLCtrl n)) 0)
  let each := on.flatMap (fun n =>
    let c := layCfg s.rdShadow n
    let b := 0x90000 + n * 0x1000
    (if s.surfaceIn c then [] else [(0xB, b, 0x44)]) ++
    (if 49152 < c.sw * c.vtaps then [(0x901, b, 0x6C)] else []) ++
    (if 8 * c.dw < c.sw ∨ 16 * c.sw < c.dw ∨ 8 * c.dh < c.sh ∨ 16 * c.sh < c.dh then [(0x902, b, 0x6C)] else []) ++
    (match c.surfaceOff with | some o => [(0x904, b, o)] | none => []))
  each ++
  (if ((s.rdShadow Reg.lyrBw % 1024 : Nat) : Rat) * 100000000 < State.layRate s.rdShadow t then [(0x903, 0x90000, 0x50)] else []) ++
  (s.noDecoder s.rdShadow).map (fun n => (0x906, 0x90000 + n * 0x1000, 0x40))

/-! ### The latch -/

/-- Layer settings of the next frame are put in force (R271, R274). Fences of decoders are taken up, and the layers pass to the
decoders that are ACTIVE (R275, R282). `late` are the layers that a commit just hid. -/
def State.lyrLatch (s : State) (f : Nat) (late : List Nat) : State :=
  let seen := s.lyr.hidden.filter (fun n => !late.contains n && s.flag (Reg.lyrLCtrl n) 0 && s.flag (Reg.lyrLCtrl n) 14 && s.latchReady s.rd n)
  let hidden := s.lyr.hidden.filter (fun n => late.contains n || (s.flag (Reg.lyrLCtrl n) 0 && s.flag (Reg.lyrLCtrl n) 14 && !s.latchReady s.rd n))
  let s := { s with lyr := { s.lyr with hidden := hidden } }
  let s := if seen.isEmpty then s else s.raise 0x90000 2
  let dec := s.assignDecoders s.rd
  let s := { s with lyr := { s.lyr with back := s.lyr.front, front := some (s.laySetFor f dec) } }
  let s := s.setFld Reg.lyrStatus 7 1 (layMask hidden / 2)
  (List.range 7).foldl (fun s i => s.setFld (Reg.lyrLStatus (i + 1)) 6 4 (dec.getD i 0)) s

/-- A group commit takes effect: unready layers are hidden, the estimate in force is shown (R269, R273). -/
def State.lyrCommitted (s : State) (t : Timing) (late : List Nat) : State :=
  let s := { s with lyr := { s.lyr with hidden := late ++ s.lyr.hidden.filter (fun n => !late.contains n) } }
  let s := s.wr Reg.lyrBwEst (min (State.layRate s.rd t / 10000000).floor.toNat 65535)
  if late.isEmpty then s else (s.add (Reg.lyrStat 1) late.length).raise 0x90000 1

/-! ### The automatic lens map (R277-R279) -/

/-- A count map. -/
def zeroMap : Nat → Nat := fun _ => 0

/-- RAS_FRAME_DONE: every region with a live subpixel updates its counts and its derived state (R278). -/
def State.lensMapUpdate (s : State) : State :=
  let fh := s.fld Reg.lyrLensMap 15 8
  let lf := s.fld Reg.lyrLensMap 23 16
  let step := fun (s : State) (e : Nat × Nat) =>
    let k := e.1
    let cov := e.2 == 1
    let c := if cov then Sparse.get zeroMap s.lyr.covered k + 1 else 0
    let u := if cov then 0 else Sparse.get zeroMap s.lyr.uncovered k + 1
    let was := Sparse.get zeroMap s.lyr.flat k
    let new := if was = 0 then (if fh ≤ c then 1 else 0) else (if lf ≤ u then 0 else 1)
    let s := { s with lyr := { s.lyr with covered := Sparse.set zeroMap s.lyr.covered k c,
                                          uncovered := Sparse.set zeroMap s.lyr.uncovered k u, flat := Sparse.set zeroMap s.lyr.flat k new } }
    if new = was then s
    else (s.add (Reg.lyrStat (if new = 1 then 5 else 6)) 1).raise 0x90000 5
  let acc := s.lyr.acc
  let s := acc.foldl step s
  let s := { s with lyr := { s.lyr with acc := [] } }
  let s := (List.range 64).foldl (fun s w =>
    let bits := fun (p : Nat → Bool) => ((List.range 32).map (fun k => if p (32 * w + k) then 2 ^ k else 0)).sum
    (s.wr (Reg.lyrCover w) (bits (fun k => Sparse.get zeroMap acc k == 1))).wr (Reg.lyrAutoFlat w) (bits (fun k => Sparse.get zeroMap s.lyr.flat k == 1))) s
  s.wr Reg.lyrFlatRegions (min s.lyr.flat.length 4095)

/-! ### Registers of the LYR pages -/

/-- Whether a LYR_ORDER value is a permutation (R260). -/
def isOrder (w : Nat) : Bool := (List.range 8).all (fun n => (List.range 8).any (fun p => bitsOf w (4 * p + 2) (4 * p) == n))

/-- Checks of a write to a LYR page (R260, R281). -/
def State.lyrCheck (_s : State) (page off data : Nat) : List Nat :=
  if page = 0 ∧ off = 0x44 then codeIf (!isOrder data) 0x905
  else if page ≠ 0 ∧ off = 0x78 then codeIf (!(bitsOf data 2 0 == 2 || bitsOf data 2 0 == 4 || bitsOf data 2 0 == 6) && bitsOf data 2 0 != 0) 1
  else []

/-- Computed words of the LYR pages (R280, R281). -/
def State.lyrRead (s : State) (page off : Nat) : Option Nat :=
  if page ≠ 0 ∧ off = 0x90 then
    let b := fun (x : Bool) (i : Nat) => if x then 2 ^ i else 0
    some (putBits (s.rd (Reg.lyrLStatus page)) 2 0 (b (s.layReady s.rdShadow page) 0 + b (s.lyr.hidden.contains page) 1 +
      b (s.flag (Reg.lyrLCtrl page) 0 && !s.lyr.hidden.contains page) 2))
  else none

end Sys2Proof.Machine
end

