-- ==== Sys2Proof/Machine/Backlight.lean ====
section
/-! DEFINITION. The backlight (R331-R351): zone levels, the light-spread model, slots and chain words, fades, derating, the
white-point loop, chain fences and the registers of the BKL page. -/

namespace Sys2Proof.Machine

/-! ### Sets and grid -/

/-- A word of a backlight set. -/
def BklSet.rd (p : BklSet) (a : Nat) : Nat := (Sparse.get resetWord p.regs a).toNat
def BklSet.fld (p : BklSet) (a hi lo : Nat) : Nat := bitsOf (p.rd a) hi lo
def BklSet.cols (p : BklSet) : Nat := p.fld Reg.bklGrid 9 0
def BklSet.rows (p : BklSet) : Nat := p.fld Reg.bklGrid 24 16
/-- H_z: lines of a zone (R331). -/
def BklSet.zoneLines (p : BklSet) : Nat := p.timing.regionCount * p.timing.vactive / max p.rows 1
/-- Z: zone rows of a region (R332). -/
def BklSet.regionRows (p : BklSet) : Nat := p.rows / p.timing.regionCount
/-- SLOT in lines (R334). -/
def BklSet.slotLines (p : BklSet) : Nat := 18 / p.timing.regionCount * p.zoneLines

/-- FULL for a GCLK divider (R338): a slot of `slot` lines of a timing, less the dead time, in counts of 20 ns * 2^s. -/
def fullCounts (t : Timing) (slot deadNs s : Nat) : Nat := (slot * t.period / max t.vtotal 1 - deadNs * ns) / (20 * ns * 2 ^ s)

/-- s of R338: the smallest divider whose FULL fits. -/
def gclkDiv (t : Timing) (slot deadNs : Nat) : Nat := ((List.range 6).find? (fun s => decide (fullCounts t slot deadNs s ≤ 65535))).getD 5

/-- FULL and START of a set (R338). -/
def BklSet.full (p : BklSet) : Nat := fullCounts p.timing p.slotLines (p.fld Reg.bklScan 31 16) p.gdiv
def BklSet.start (p : BklSet) : Nat := ceilDiv (p.fld Reg.bklScan 31 16) (20 * 2 ^ p.gdiv)

/-- A level map: a zone without a level is at 0. -/
def noLevel : Nat → Nat := fun _ => 0

/-- The set of frame `f`. -/
def State.bklSet (s : State) (f : Nat) : Option BklSet := s.bkl.sets.find? (fun p => p.frame == f)

/-- Replace a set. -/
def State.setBkl (s : State) (p : BklSet) : State :=
  { s with bkl := { s.bkl with sets := s.bkl.sets.map (fun q => if q.frame = p.frame then p else q) } }

/-- The latch makes the set of frame `f` (R348); two older sets are kept. -/
def State.bklLatch (s : State) (f : Nat) : State :=
  let regs := s.regs.filter (fun e => inPage 0xC0000 e.1)
  let t := s.nextT
  let p : BklSet := { frame := f, regs := regs, timing := t, gdiv := 0, levels := [], model := [] }
  let p := { p with gdiv := gclkDiv t p.slotLines (p.fld Reg.bklScan 31 16) }
  { s with bkl := { s.bkl with sets := (p :: s.bkl.sets).take 3 } }.setFld Reg.bklStatus 18 16 p.gdiv

/-! ### Fade factor (R343, R344) -/

/-- F at the present instant. -/
def State.bklF (s : State) : Nat :=
  match s.bkl.fade with
  | some f =>
    if f.stop ≤ s.now then f.v1
    else ((f.v0 : Int) + ((f.v1 : Int) - f.v0) * ((s.now - f.start : Nat) : Int) / ((f.stop - f.start : Nat) : Int)).toNat
  | none => s.fld Reg.bklFadeNow 16 0

/-- D in force (R345). -/
def State.bklD (s : State) : Nat := s.fld Reg.bklDerateNow 16 0

/-- Start a fade of `dur` from `v0` to `v1`; it ends at `now + dur`. -/
def State.fadeFrom (s : State) (v0 v1 dur : Nat) (host : Bool) : State :=
  { s with bkl := { s.bkl with fade := some { start := s.now, stop := s.now + dur, v0 := v0, v1 := v1, host := host } } }.setFld
    Reg.bklFadeNow 16 0 v0

/-- The fade that runs ends, if its end has come; a host fade reports it (R343). -/
def State.fadeEnd (s : State) : State :=
  match s.bkl.fade with
  | some f =>
    if f.stop ≤ s.now then
      let s := { s with bkl := { s.bkl with fade := none } }.setFld Reg.bklFadeNow 16 0 f.v1
      if f.host then (s.setFlag Reg.bklFade 31 false).raise 0xC0000 0 else s
    else s
  | none => s

/-- Whether a fade of a transition or of UP runs (R344). -/
def State.transFades (s : State) : Bool := match s.bkl.fade with | some f => !f.host | none => false

/-- The factor in force now is the one that the next fade-in goes to: a transition begins, or the panel leaves ON. While a fade of a
transition or of UP runs, or between the two of a transition, the factor before it stays (R344). -/
def State.hostRecord (s : State) : State :=
  if s.transFades ∨ s.ras.step ≠ 0 ∨ s.pnl.fadeDue then s else { s with bkl := { s.bkl with hostF := s.bklF } }

/-- A fade of a transition or of UP takes the place of a host fade, whose GO ends (R344). -/
def State.hostCut (s : State) : State :=
  if s.bkl.fade.isSome && !s.transFades then s.setFlag Reg.bklFade 31 false else s

/-- Fade-out of a mode transition, and fade-in after it or after UP (R344). -/
def State.transFadeOut (s : State) : State :=
  s.hostRecord.hostCut.fadeFrom s.bklF 0 (s.fld Reg.rasTransFade 13 0 * ms) false

def State.transFadeIn (s : State) : State := s.hostCut.fadeFrom 0 s.bkl.hostF (s.fld Reg.rasTransFade 29 16 * ms) false

/-- Hold every BKL_LAT high, or let go; a fenced chain's stays high (R322, R323, R344, R350). -/
def State.bklHold (s : State) (h : Bool) : State :=
  if s.bkl.hold = h then s
  else (List.range 36).foldl (fun s' c => if s.bkl.fenced.contains c then s' else s'.emit (.lat c h)) { s with bkl := { s.bkl with hold := h } }

/-- Whether the backlight is lit (R84). -/
def State.bklLit (s : State) : Bool := s.flag Reg.bklCtrl 0 && !s.bkl.hold && decide (0 < s.bklF)

/-! ### Zone levels (R339, R340) -/

/-- The bands that start within zone row `y`, in local numbers. -/
def BklSet.bandsOf (p : BklSet) (y : Nat) : List Nat :=
  let l0 := y % max p.regionRows 1 * p.zoneLines
  (List.range p.timing.bands).filter (fun b => decide (l0 ≤ 16 * b ∧ 16 * b < l0 + p.zoneLines))

/-- First column of zone column `x`. -/
def BklSet.zoneCol (p : BklSet) (x : Nat) : Nat := x * p.timing.hactive / max p.cols 1

/-- Zone statistics of the tile at a position, as R339 takes them. -/
def State.tileStats (s : State) (r b c : Nat) : List (Nat × Nat) := Sparse.get (fun _ => []) s.brc.stats (posKey r b c)

/-- The level of zone (x, y) (R339). -/
def State.zoneLevel (s : State) (p : BklSet) (x y : Nat) : Nat :=
  let r := y / max p.regionRows 1
  let c0 := p.zoneCol x
  let c1 := p.zoneCol (x + 1)
  let segs := (p.bandsOf y).flatMap (fun b =>
    ((List.range (ceilDiv p.timing.hactive 64)).filter (fun g => decide (c0 ≤ 64 * g ∧ 64 * g < c1))).map (fun g =>
      (s.tileStats r b (g / 16)).getD (g % 16) (0, 0)))
  let pk := segs.foldl (fun m g => max m g.1) 0
  let mn := (rnd0 ((segs.map (fun g => g.2)).sum : Nat) (max 1 ((c1 - c0) * p.zoneLines))).toNat
  let mix := p.fld Reg.bklDim 23 16
  let t := (rnd0 (mix * pk + (256 - mix) * mn : Nat) 256).toNat
  min 65535 (max (p.fld Reg.bklLevel 31 16) (rnd0 (t * 4 * p.fld Reg.bklLevel 9 0 : Nat) 256).toNat)

/-- Fix the levels of one zone row (R339, R340). -/
def State.fixRow (s : State) (p : BklSet) (y : Nat) : BklSet :=
  (List.range p.cols).foldl (fun q x =>
    let lam := s.zoneLevel p x y
    { q with levels := Sparse.set noLevel q.levels (y * 512 + x) lam,
             model := Sparse.set noLevel q.model (y * 512 + x) (rnd0 (lam * s.bklD : Nat) 65536).toNat }) p

/-- The deadline of band `b` of frame `f` fixes the zone rows whose first band it is (R339). -/
def State.fixLevels (s : State) (f b : Nat) : State :=
  match s.bklSet f with
  | some p => s.setBkl ((List.range p.rows).foldl (fun q y => if (p.bandsOf y).head? = some b then s.fixRow q y else q) p)
  | none => s

/-! ### The light-spread model (R341, R342) -/

/-- The group and chain of a zone (R332, R333). -/
def BklSet.scanIndex (p : BklSet) (y : Nat) : Nat :=
  p.timing.regionCount * (y % max p.regionRows 1) + y / max p.regionRows 1
def BklSet.group (p : BklSet) (y : Nat) : Nat := p.scanIndex y % 18
def BklSet.rowNumber (p : BklSet) (y : Nat) : Nat := p.scanIndex y / 18

/-- Whether a zone is dark because its chain, or the row-select chain of its group, is fenced (R350, R351). -/
def State.zoneDark (s : State) (p : BklSet) (x y : Nat) : Bool :=
  let g := p.group y
  s.bkl.fenced.contains (2 * g) || s.bkl.fenced.contains (2 * g + x / 256)

/-- The model level that zone (x, y) contributes to a band in zone row `yb` of frame `f` (R341, R342). -/
def State.modelLevel (s : State) (p : BklSet) (yb : Nat) (x y : Int) : Nat :=
  if x < 0 ∨ y < 0 ∨ (p.cols : Int) ≤ x ∨ (p.rows : Int) ≤ y then 0
  else
    let xn := x.toNat
    let yn := y.toNat
    let z := max p.regionRows 1
    let q := if yn % z ≤ yb % z then some p else s.bklSet (p.frame - 1)
    match q with
    | some q => if q.fld Reg.bklCtrl 0 0 = 0 ∨ s.zoneDark p xn yn then 0 else Sparse.get noLevel q.model (yn * 512 + xn)
    | none => 0

/-- Lrel at the centre of zone (x, y) (R341). -/
def State.lrelCentre (s : State) (p : BklSet) (yb x y : Nat) : Nat :=
  (rnd0 ((List.range 17).map (fun j => ((List.range 17).map (fun i =>
    p.fld (Reg.bklPsf (9 * natDist j 8 + natDist i 8)) 15 0 * s.modelLevel p yb ((x : Int) + i - 8) ((y : Int) + j - 8))).sum)).sum (2 ^ 18)).toNat

/-- The two nearest zones around a position and the weight of the second in 2^-8; `start` gives the first pixel of a
zone, positions are doubled. -/
def nearTwo (n : Nat) (start : Nat → Nat) (p : Nat) : Nat × Nat × Nat :=
  let centre := fun (x : Nat) => start x + start (x + 1)
  match ((List.range n).filter (fun x => decide (centre x ≤ p))).getLast? with
  | none => (0, 0, 0)
  | some x => if x + 1 < n then (x, x + 1, (rnd0 ((p - centre x) * 256 : Nat) (centre (x + 1) - centre x)).toNat) else (x, x, 0)

/-- Lrel at column `col` of global line `g` in frame `f` (R341, R342). -/
def State.lrel (s : State) (f col g : Nat) : Nat :=
  match s.bklSet f with
  | none => 16384
  | some p =>
    if p.fld Reg.bklCtrl 0 0 = 0 then 16384
    else
      let v := max p.timing.vactive 1
      let yb := (g / v * v + g % v / 16 * 16) / max p.zoneLines 1
      let cx := nearTwo p.cols p.zoneCol (2 * col + 1)
      let cy := nearTwo p.rows (fun y => y * p.zoneLines) (2 * g + 1)
      let a := fun (x y : Nat) => s.lrelCentre p yb x y
      (rnd0 (bilin cx.2.2 cy.2.2 (a cx.1 cy.1) (a cx.2.1 cy.1) (a cx.1 cy.2.1) (a cx.2.1 cy.2.1) : Nat) 65536).toNat

/-! ### Slots and chain frames (R334-R338, R340, R350) -/

/-- The frame whose slot of zone row `y` starts at raster position (frame, line), and its set (R334). -/
def State.slotSet (s : State) (y : Nat) : Option BklSet :=
  s.bkl.sets.find? (fun p =>
    let line := (y % max p.regionRows 1 + 1) * p.zoneLines + p.fld Reg.bklScan 12 0
    decide (y < p.rows) &&
    (if line < p.timing.vtotal then s.ras.frame == p.frame && s.ras.line == line
     else s.ras.frame == p.frame + 1 && s.ras.line == line - p.timing.vtotal))

/-- The channel word of a level (R336, R340). -/
def State.channelWord (s : State) (p : BklSet) (lam : Nat) : Nat :=
  let d := (rnd0 (lam * s.bklF * s.bklD : Nat) (2 ^ 32)).toNat
  let knee := p.fld Reg.bklDim 15 0
  if knee ≤ d then (rnd0 (d * 4095 : Nat) 65535).toNat + p.full * 2 ^ 12
  else (rnd0 (knee * 4095 : Nat) 65535).toNat + (rnd0 (p.full * d : Nat) knee).toNat * 2 ^ 12

/-- The chain frame of chain `c` for zone row `y`: driver 15 first, each a control word and channels 15 down to 0 (R336). -/
def State.chainFrame (s : State) (p : BklSet) (c y : Nat) (off : Bool) : List Nat :=
  let ctl := p.rowNumber y % 16 + p.fld Reg.bklCtrl 4 4 * 16 + (if off then 32 else 0) + p.start % 4096 * 64
  let offCtl := p.rowNumber y % 16 + p.fld Reg.bklCtrl 4 4 * 16 + 32 + p.start % 4096 * 64
  (List.range 16).flatMap (fun d' =>
    let d := 15 - d'
    let x0 := c % 2 * 256 + 16 * d
    (if x0 < p.cols then ctl else offCtl) :: (List.range 16).map (fun k =>
      let x := x0 + (15 - k)
      if off ∨ p.cols ≤ x then 0 else s.channelWord p (Sparse.get noLevel p.levels (y * 512 + x))))

/-- The FENCED words (R348). -/
def State.showFenced (s : State) : State :=
  let m := (s.bkl.fenced.map (fun c => 2 ^ c)).sum
  (s.wr Reg.bklChFencedLo (m % 2 ^ 32)).wr Reg.bklChFencedHi (m / 2 ^ 32)

/-- One chain at a slot of its group (R350). -/
def State.chainSlot (s : State) (p : BklSet) (y c : Nat) : State :=
  let off := p.fld Reg.bklCtrl 0 0 == 0
  match s.bkl.reqs.find? (fun r => r.1 == c) with
  | some (_, un) =>
    let s := { s with bkl := { s.bkl with reqs := s.bkl.reqs.filter (fun r => r.1 != c) } }
    let s := if s.fld Reg.bklChReq 5 0 = c then (s.setFlag Reg.bklChReq 8 false).setFlag Reg.bklChReq 9 false else s
    if un then
      let s := { s with bkl := { s.bkl with fenced := s.bkl.fenced.filter (fun x => x != c) } }.showFenced
      if s.bkl.hold then s else (s.emit (.lat c false)).emit (.chain c (s.chainFrame p c y off))
    else
      let s := if s.bkl.hold || s.bkl.fenced.contains c then s else (s.emit (.chain c (s.chainFrame p c y true))).emit (.lat c true)
      ({ s with bkl := { s.bkl with fenced := c :: s.bkl.fenced.filter (fun x => x != c) } }.showFenced).raise 0xC0000 4 |>.setFld (Reg.svcUnit (133 + c)) 2 0 2
  | none => if s.bkl.fenced.contains c ∨ s.bkl.hold then s else s.emit (.chain c (s.chainFrame p c y off))

/-- BKL_SLOT (R334, R337). -/
def State.bklSlot (s : State) (y : Nat) : State :=
  if s.domOn 23 && !s.bkl.slotRows.contains y then
    match s.slotSet y with
    | some p =>
      let s := { s with bkl := { s.bkl with slotRows := y :: s.bkl.slotRows } }
      let s := s.setFld Reg.bklFadeNow 16 0 s.bklF
      let on := p.fld Reg.bklCtrl 0 0 == 1 && !s.bkl.hold
      let s := if on then s.add (Reg.bklStat 0) 1 else s
      let s := s.setFlag Reg.bklStatus 0 on
      let g := p.group y
      (s.chainSlot p y (2 * g)).chainSlot p y (2 * g + 1)
    | none => s
  else s

/-! ### Derating (R345) -/

/-- The target of D for temperature `t` in 1/16 °C (`none`: broken or invalid); a throttling level caps it (R456). -/
def State.derateTarget (s : State) (t : Option Int) : Nat :=
  let lvl := s.fld Reg.thmReq 6 4
  let cap := if lvl = 0 then 65536 else 65536 * s.fld (Reg.thmLvl (lvl - 1)) 31 24 / 100
  min cap <|
  if !s.flag Reg.bklCtrl 3 then 65536
  else
    let floor_ := s.fld Reg.bklDerate 31 16
    match t with
    | none => floor_
    | some t =>
      let k : Int := 16 * s.fld Reg.bklDerate 7 0
      if t ≤ k then 65536
      else (max (floor_ : Int) (rnd0 (65536 * (16000 - (s.fld Reg.bklDerate 15 8 : Int) * (t - k))) 16000)).toNat

/-- One round of derating: D moves by at most 1,311 units a second (R345); DERATE_NOW shows the temperature in whole °C. -/
def State.derateRound (s : State) (t : Option Int) : State :=
  let target := s.derateTarget t
  let b := s.bkl
  let b := if target = b.dTarget then b else { b with dTarget := target, dFrom := s.bklD, dRounds := 0 }
  let n := b.dRounds + 1
  let step := 1311 * n / 1000
  let new := if b.dFrom ≤ target then min target (b.dFrom + step) else max target (b.dFrom - step)
  let old := s.bklD
  let s := { s with bkl := { b with dRounds := n } }.setFld Reg.bklDerateNow 16 0 new
  let s := match t with | some v => s.setFld Reg.bklDerateNow 31 24 (toBits 8 (v / 16)) | none => s
  let s := s.setFlag Reg.bklStatus 2 (decide (new < 65536))
  if (old = 65536) ≠ (new = 65536) then s.raise 0xC0000 1 else s

/-! ### The white-point loop (R346, R347) -/

/-- One row of a sensor matrix applied to counts, in 2^-14 (R346). `m` are the nine coefficients. -/
def matRow (m : List Int) (j : Nat) (c : List Nat) : Int :=
  (List.range 3).foldl (fun a i => a + m.getD (3 * j + i) 0 * (c.getD i 0 : Int)) 0

/-- The matrix of sensor `k` from its register words (R348). -/
def State.sensMatrix (s : State) (k : Nat) : List Int :=
  (List.range 9).map (fun i => signedBits (s.fld (0xC0200 + 0x14 * k + i / 2 * 4) (16 * (i % 2) + 15) (16 * (i % 2))) 16)

/-- Whether sensor `k` is in use (R346, R349). -/
def State.sensorOn (s : State) (k : Nat) : Bool :=
  s.flag Reg.bklWpCfg (8 + k) && s.fld (Reg.bklSensAddr (k / 4)) (8 * (k % 4) + 6) (8 * (k % 4)) != 0

/-- One step of a trim toward its target (R347): `num / g` against the target in 2^-14. -/
def trimStep (num g : Int) (target band : Int) (t : Int) : Int :=
  if (target + band) * g < num * 16384 then t - 1 else if num * 16384 < (target - band) * g then t + 1 else t

/-- A cycle of the white-point loop: readings by sensor, `none` where it did not answer. `mats` are the matrices. -/
def State.wpCycle (s : State) (reads : List (Option (List Nat))) (mats : List (List Int)) : State :=
  let used := (List.range 8).filter s.sensorOn
  let ok := fun (k : Nat) => match reads.getD k none with | some c => c.length == 3 && c.all (fun v => decide (v < 65535)) | none => false
  let valid := used.filter ok
  let bad := used.filter (fun k => !ok k)
  let s := (List.range 8).foldl (fun s k =>
    match reads.getD k none with
    | some c => if used.contains k then s.wr (Reg.bklSensRead k) (c.getD 1 0 % 65536 + (if ok k then 65536 else 0)) else s
    | none => s.setFlag (Reg.bklSensRead k) 16 false) s
  let s := s.setFld Reg.bklStatus 15 8 ((valid.map (fun k => 2 ^ k)).sum)
  let s := if bad.isEmpty then s else (s.add (Reg.bklStat 2) bad.length).raise 0xC0000 3
  let sum := fun (j : Nat) => (valid.map (fun k => matRow (mats.getD k []) j ((reads.getD k none).getD []))).sum
  let n : Int := valid.length
  if s.flag Reg.bklCtrl 2 && decide (2 ≤ valid.length) && decide ((s.fld Reg.bklWpCfg 31 16 : Int) * n * 16384 ≤ sum 1) then
    let band : Int := s.fld Reg.bklWpCfg 7 0
    let t := s.bkl.trims
    let r := trimStep (sum 0) (sum 1) (s.fld Reg.bklWpTarget 15 0) band t.1
    let b := trimStep (sum 2) (sum 1) (s.fld Reg.bklWpTarget 31 16) band t.2.2
    let r' := clampI (-512) 511 r
    let b' := clampI (-512) 511 b
    let lim := r ≠ r' ∨ b ≠ b'
    let s := { s with bkl := { s.bkl with trims := (r', 0, b') } }
    let s := s.add (Reg.bklStat 1) ((if r' = t.1 then 0 else 1) + (if b' = t.2.2 then 0 else 1))
    let s := s.setFlag Reg.bklStatus 3 (decide lim)
    if lim then s.raise 0xC0000 2 else s
  else s

/-- The latch puts the trims in force (R347). -/
def State.trimLatch (s : State) : State :=
  s.wr Reg.brcWpTrim (toBits 10 s.bkl.trims.1 + toBits 10 s.bkl.trims.2.1 * 2 ^ 10 + toBits 10 s.bkl.trims.2.2 * 2 ^ 20)

/-! ### Checks and registers -/

/-- The failing checks of the BKL page at a group commit, on shadow values (R331, R335, R521). -/
def State.bklCommitCodes (s : State) (t : Timing) : List (Nat × Nat × Nat) :=
  let rows := bitsOf (s.rdShadow Reg.bklGrid) 24 16
  let g := t.regionCount * t.vactive
  let hz := g / max rows 1
  let slot := 18 / t.regionCount * hz
  let settle := bitsOf (s.rdShadow Reg.bklScan) 12 0
  (if t.vtotal < settle + slot + hz + 1 ∨ slot * t.period < 200 * us * t.vtotal then [(0xC01, 0xC0000, 0x44)] else []) ++
  (if rows % 18 ≠ 0 ∨ rows % t.regionCount ≠ 0 ∨ g % max rows 1 ≠ 0 then [(0xC02, 0xC0000, 0x44)] else [])

/-- Checks of a write to the BKL page (R344, R349). -/
def State.bklCheck (s : State) (off data : Nat) : List Nat :=
  if off = 0x58 ∧ bitOf data 31 then codeIf s.transFades 9
  else if off = 0x6C then codeIf (bitOf data 8 && bitOf data 9) 6
  else []

/-- Effects of an accepted write to the BKL page: fades and chain requests (R343, R350). -/
def State.bklEffect (s : State) (off data : Nat) : State :=
  if off = 0x58 ∧ bitOf data 31 then
    let s := (s.fadeFrom s.bklF (bitsOf data 16 0) (bitsOf data 30 17 * ms) true).add (Reg.bklStat 3) 1
    if bitsOf data 30 17 = 0 then s.fadeEnd else s
  else s

/-- Computed words of the BKL page (R348). A chain request reads 1 until its chain takes it up (R349, R350). -/
def State.bklRead (s : State) (off : Nat) : Option Nat :=
  if off = 0x70 then some (putBits (s.rd Reg.bklStatus) 1 1 (if s.bkl.fade.isSome then 1 else 0))
  else if off = 0x74 then some s.bklF
  else if off = 0x6C then
    let c := s.fld Reg.bklChReq 5 0
    let un := s.bkl.reqs.contains (c, true) || s.svc.tests.contains (133 + c, 1)
    some (s.rd Reg.bklChReq - (if s.flag Reg.bklChReq 8 && !s.bkl.reqs.contains (c, false) then 2 ^ 8 else 0) -
      (if s.flag Reg.bklChReq 9 && !un then 2 ^ 9 else 0))
  else none

end Sys2Proof.Machine
end

