-- ==== Sys2Proof/Machine/Output.lean ====
section
/-! DEFINITION. Bands, deadlines and the Oasis (R201-R225): windows, admission, drops, the colour stage, dither, overdrive
(R312), Oasis units, snapshots, and the registers of the BRC pages. -/

namespace Sys2Proof.Machine

/-! ### Pair words (R205) -/

/-- A pair word that has not been written. -/
def unwritten : Nat → Nat := fun _ => 7 * 2 ^ 48

/-- Pack six values: mantissas in bytes 0-5, E in [50:48]. -/
def packPair (v : List Nat) : Nat :=
  let m := v.foldl max 0
  let e := (if m = 0 then 0 else Nat.log2 m + 1) - 8
  (v.zipIdx.map (fun x => min 255 (rnd0 x.1 (2 ^ e)).toNat * 2 ^ (8 * x.2))).sum + e * 2 ^ 48

/-- The value of subpixel `k` of a pair word. -/
def unpackPair (w k : Nat) : Nat := bitsOf w (8 * k + 7) (8 * k) * 2 ^ bitsOf w 50 48

/-! ### Admission (R206, R207) -/

/-- A subpixel map of a tile: 0 where nothing has been composed. -/
def noPart : Nat → Nat := fun _ => 0
/-- A statistics map. -/
def noSeg : Nat → Nat × Nat := fun _ => (0, 0)

/-- Build or use backdrop cells in the cluster's cache of 4,096 (R186). -/
def Tile.useCells (t : Tile) : List ((Int × Int) × Nat) → Tile
  | [] => t
  | (c, planes) :: rest =>
    if t.cache.contains c then ({ t with cache := t.cache.filter (fun x => x != c) ++ [c] } : Tile).useCells rest
    else
      let cache := t.cache ++ [c]
      ({ t with cache := if 4096 < cache.length then cache.drop 1 else cache, cells := t.cells + 1,
                samples := t.samples + 3 * planes } : Tile).useCells rest

/-- Whether subpixel `i` of row `l` of a tile of `w` columns has been admitted. -/
def Tile.has (t : Tile) (w l i : Nat) : Bool :=
  Sparse.get unwritten t.pairs (l * 512 + i / 6) != unwritten 0 || Sparse.get noPart t.part (l * 3 * w + i) != 0

/-- Put a composed value into a tile: zone statistics when its pixel is whole, the pair word when its pair is (R206, R207). -/
def Tile.put (t : Tile) (w l i v : Nat) : Tile :=
  let part := Sparse.set noPart t.part (l * 3 * w + i) (v + 1)
  let at_ := fun (j : Nat) => Sparse.get noPart part (l * 3 * w + j)
  let px := (List.range 3).map (fun k => at_ (i / 3 * 3 + k))
  let segs := if px.all (fun x => x != 0) then
      let m := px.foldl max 0 - 1
      let g := Sparse.get noSeg t.segs (i / 3 / 64)
      Sparse.set noSeg t.segs (i / 3 / 64) (max g.1 m, g.2 + m)
    else t.segs
  let pr := (List.range 6).map (fun k => at_ (i / 6 * 6 + k))
  if pr.all (fun x => x != 0) then
    { t with part := (List.range 6).foldl (fun p k => Sparse.set noPart p (l * 3 * w + i / 6 * 6 + k) 0) part, segs := segs,
             pairs := Sparse.set unwritten t.pairs (l * 512 + i / 6) (packPair (pr.map (fun x => x - 1))) }
  else { t with part := part, segs := segs }

/-- A tile stops being run and is DROPPED; Barchan receives its cost, marked incomplete (R208, R229, R124, R276). -/
def State.dropTile (s : State) (t : Tile) : State :=
  let s := (if t.state = .started then s.countTile t false else s).costDropped t (s.timingOf t.frame)
  (s.endRun t).setTile { t with state := .dropped, owner := none }

/-- The synthesis counters of one ray (R193). -/
def State.countRay (s : State) (r : RayResult) (cells : Nat) (samples : Nat) : State :=
  let b := fun (x : Bool) => if x then 1 else 0
  let s := (s.add64 (Reg.synStat 0) (Reg.synStat 1) 1).add64 (Reg.synStat 2) (Reg.synStat 3) samples
  (((s.add (Reg.synStat 4) (b r.terminated)).add (Reg.synStat 6) cells).add (Reg.synStat 7) (b r.invariant)).add (Reg.synStat 8) (b r.saturated)

/-- A tile all of whose pair words are written is COMPLETE (R207, R228). -/
def State.completeTile (s : State) (t : Tile) : State :=
  let s := (s.countTile t true).costDone t
  let s := (s.endRun t).setTile { t with state := .complete }
  let segs := (List.range 16).map (fun g => Sparse.get noSeg t.segs g)
  { s with brc := { s.brc with stats := Sparse.set (fun _ => []) s.brc.stats (posKey t.region t.band t.col) segs } }

/-- Whether the cluster that owns a tile runs it now. -/
def State.runsNow (s : State) (t : Tile) : Bool :=
  match t.owner with
  | some u => (s.cl u).running == some t.hold && decide (s.unitState u ≤ 1) && decide (s.unitState (64 + u / 8) ≤ 1)
  | none => false

/-- The units that a ray needs and that are not in its slice's window: its lane waits for them (R123). -/
def State.rayWants (s : State) (t : Tile) (ps : SynSet) (sub line : Nat) : List Nat :=
  (s.scn.units.filter (fun u => (s.winSlot t.home u.1).isNone && waitsFor (s.tileRay t ps (s.texelsBut ps t.home u.1) sub line))).map (fun u => u.1)

/-- The units in the window that a ray samples (R123). -/
def State.rayUses (s : State) (t : Tile) (ps : SynSet) (sub line : Nat) : List Nat :=
  ((s.scn.windows.getD t.home []).filter (fun x => waitsFor (s.tileRay t ps (s.texels ps t.home (some x.addr)) sub line))).map (fun x => x.addr)

/-- SLC_CL_SAMPLES of the cluster that runs a tile (R199). -/
def State.showSamples (s : State) (t : Tile) : State :=
  match t.owner with
  | some u => s.wr (Reg.slcClSamples (u / 8) (u % 8)) (t.samples % 2 ^ 32)
  | none => s

/-- A live ray result: synthesised, composed and put into its tile (R206). A ray whose block is absent waits, one that
needs an unreadable block drops its tile (R123, R124), one whose flat-layer data is unusable waits for the drop of R276. -/
def State.admitRay (s : State) (t : Tile) (ps : SynSet) (l : LaySet) (sub line : Nat) : State :=
  let w := tileCols ps.timing t.col
  let sp := 3 * 1024 * t.col + sub
  let g := t.region * ps.timing.vactive + 16 * t.band + line
  if !(s.runsNow t) || decide (3 * w ≤ sub) || decide (tileLines ps.timing t.band ≤ line) || t.has w line sub then s
  else match s.tileRay t ps (s.texels ps t.home) sub line with
    | .error .absent => (s.rayWants t ps sub line).foldl (fun (s : State) a => s.waitFor t.home a) (s.add (Reg.scnWin (4 * t.home + 2)) 1)
    | .error .unreadable => s.dropTile t
    | .ok r => match s.compose l sp g r.color r.coverage with
      | .error _ => s
      | .ok v =>
        let t1 := t.useCells r.cells
        let t1 := { t1 with samples := t1.samples + r.samples, rays := t1.rays + 1 }
        let s := s.useSlots t.home (s.rayUses t ps sub line)
        let s := s.countRay r (t1.cells - t.cells) (t1.samples - t.samples)
        let k := gridCell ps.regY ps.lines g * 64 + gridCell ps.regX ps.timing.hactive (sp / 3)
        let c := Sparse.get noPart t1.cover k
        let t1 := { t1.put w line sub v.1 with cover := Sparse.set noPart t1.cover k (if v.2 && c != 2 then 1 else 2) }
        let s := (s.setTile t1).showSamples t1
        if t1.rays = tileRays ps.timing t.band t.col then s.completeTile t1 else s

/-- RAY_RESULT_ADMIT (R206). -/
def State.rayArrive (s : State) (h : Hold) (sub line : Nat) : State :=
  if !s.domOn 16 then s
  else match s.tileOf h with
    | none => s.add (Reg.brcStat 2) 1
    | some t =>
      if t.state = .dropped ∨ t.state = .complete then s.add (Reg.brcStat 2) 1
      else if h.epoch ≠ t.epoch then
        let s := s.add (Reg.brcStat 3) 1
        if s.brc.stale then s else { s with brc := { s.brc with stale := true } }.raise 0x70000 4
      else match s.synSet t.frame, s.laySet t.frame with
        | some ps, some l => s.admitRay t ps l sub line
        | _, _ => s

/-! ### Windows (R202-R204) -/

/-- Band slots in use. -/
def State.slotsUsed (s : State) : Nat := ((s.brc.tiles.map (fun t => t.frame * 2048 + t.band)).eraseDups).length

/-- The tiles of band `b` of frame `f` (R203, R234). -/
def State.bandTiles (s : State) (f b : Nat) (t : Timing) : List Tile :=
  let owner := s.stripeOwner t
  let planes := match s.synSet f with | some p => p.planes.length | none => 0
  let merge := match s.synSet f with | some p => p.bdEn | none => true
  (List.range t.regionCount).flatMap (fun r => (List.range t.cols).map (fun c =>
    let q := s.tileSetting (posKey r b c)
    let budget := if merge then q.1 else max q.1 planes
    { frame := f, region := r, band := b, col := c, state := .queued, queue := owner.getD c 8, home := owner.getD c 8, owner := none,
      epoch := 0, steals := 0, remote := false, ran := 0, budget := budget, taps := q.2, planes := planes, merged := decide (budget < planes) && merge,
      startAt := 0, rays := 0, samples := 0, cells := 0, cache := [], part := [], pairs := [], segs := [], cover := [], held := none }))

/-- Open the windows that are due while band slots are free (R202-R204). -/
def State.openWindows : Nat → State → State
  | 0, s => s
  | n + 1, s =>
    if !s.domOn 16 || decide ((s.horizonNow + 31) / 16 ≤ s.slotsUsed) then s
    else
      let t := s.ras.timing
      let t' := s.nextT
      if s.brc.openCur < t.bands ∧ 16 * s.brc.openCur ≤ s.ras.line + t.horizon then
        let b := s.brc.openCur
        State.openWindows n { s with brc := { s.brc with tiles := s.brc.tiles ++ s.bandTiles s.ras.frame b t, openCur := b + 1 } }
      else if s.ras.latched ∧ s.brc.openNext < t'.bands ∧ t.vtotal + 16 * s.brc.openNext ≤ s.ras.line + t'.horizon then
        let b := s.brc.openNext
        State.openWindows n { s with brc := { s.brc with tiles := s.brc.tiles ++ s.bandTiles (s.ras.frame + 1) b t', openNext := b + 1 } }
      else s

/-! ### Oasis reads (R210, R216-R218) -/

/-- A map of Oasis entries. -/
def noEntryO : Nat → OasEntry := fun _ => { frame := 0, valid := false, rung := 0, channel := 0, addr := 0, len := 0 }

/-- The index entry of a tile position in the slot of frame `f`. -/
def State.oasEntry (s : State) (f key : Nat) : OasEntry := Sparse.get noEntryO (s.brc.oasis.getD (f % 2) []) key

/-- The bytes of a unit up to the first line of the DRAM that is poisoned (R24, R218). -/
def State.oasGood (s : State) (e : OasEntry) : List Byte :=  s.readPrefix e.addr e.len

/-- Oasis instances ACTIVE, and those whose streams they can carry (R219). -/
def State.oasInstances (s : State) : Nat := (List.range 16).countP (fun i => s.unitState (80 + i) == 0)

/-- Whether `inst` instances carry the streams of tile column `c` of region `r`: streams are given up from the highest tile column on
(R219). The same holds for the encode and the decode direction (log entry 151). -/
def streamed (inst : Nat) (t : Timing) (r c : Nat) : Bool := decide (c * t.regionCount + r < 10 * inst)

/-- The rows that the Oasis holds for a tile position in frame `f`, read with `inst` instances: `none` where the copy is not usable; the
code of a failed read and the rows decoded before it (R210, R217-R219). Values are the 10-bit read-back. -/
def State.oasRows (s : State) (inst f r b c : Nat) (tm : Timing) : Option (Nat × List (List (List Nat))) :=
  let w := tileCols tm c
  let lines := tileLines tm b
  let e := s.oasEntry f (posKey r b c)
  if !s.brc.oasOn || decide (f + 1 < s.brc.oasFrom) || !e.valid || e.frame != f % 65536 || !streamed inst tm r c then none
  else if !s.chanUsable e.channel then some (0x409, [])
  else
    let good := s.oasGood e
    let d := mbcPartial none (some 30720) good
    let r := if good.length < e.len then (0x409, d.2) else d
    let px := if e.rung = 0 then 4 else 3
    let val := fun (l x : Nat) =>
      let ch := channelsOf (if e.rung = 0 then 2 else 3) (slice r.2 ((l * w + x) * px) px)
      (ch.take 3).map (fun v => if e.rung = 0 then v else 4 * v + 2)
    let have_ := r.2.length / max (w * px) 1
    let n := if e.rung = 2 then min lines (2 * have_) else min lines have_
    some (r.1, (List.range n).map (fun l => (List.range w).map (fun x => val (if e.rung = 2 then l / 2 else l) x)))

/-- A failed read is counted and reported (R218). -/
def State.oasFail (s : State) (code : Nat) : State := if code = 0 then s else (s.add (Reg.brcOasStat 5) 1).raise 0x71000 0

/-! ### Deadlines (R208-R210) -/

/-- A tile that is not COMPLETE at its deadline becomes DROPPED, with its Oasis copy where there is one (R208-R210, R229). The copy of
the frame before is read under every tile, live or not; a failed read is counted and reported (R217, R218). -/
def State.deadlineTile (s : State) (t : Tile) : State :=
  let tm := s.timingOf t.frame
  let r := s.oasRows s.oasInstances (t.frame - 1) t.region t.band t.col tm
  let s := match r with | some x => s.oasFail x.1 | none => s
  if t.state = .complete then s.add (Reg.brcStat 0) 1
  else
    let s := if t.state = .dropped then s else s.dropTile t
    let t' := (s.tileOf t.hold).getD t
    let rows := match r with | some x => x.2 | none => []
    let s := s.setTile { t' with held := some { rows := rows } }
    if tileLines tm t.band ≤ rows.length then
      (s.wr Reg.brcLastMirage (t.band % 2048 + t.region * 2 ^ 11 + t.col % 32 * 2 ^ 13 + t.frame % 2 ^ 14 * 2 ^ 18)).add (Reg.brcStat 1) 1
    else (s.add (Reg.brcStat 4) 1).raise 0x70000 1

/-- The deadline of band `b` of frame `f` (R208, R339). -/
def State.bandDeadline (s : State) (f b : Nat) : State :=
  (s.brc.tiles.filter (fun t => t.frame == f && t.band == b)).foldl State.deadlineTile (s.fixLevels f b)

/-- The deadlines that fall on this line (R202). -/
def State.deadlines (s : State) : State :=
  let t := s.ras.timing
  let here := (List.range t.bands).filter (fun b => 16 * b == s.ras.line + s.guardOf s.ras.frame)
  let next := if s.ras.latched then
      (List.range s.nextT.bands).filter (fun b => t.vtotal + 16 * b == s.ras.line + s.guardOf (s.ras.frame + 1))
    else []
  next.foldl (fun s b => s.bandDeadline (s.ras.frame + 1) b) (here.foldl (fun s b => s.bandDeadline s.ras.frame b) s)

/-- The slot of a band is released when its last line starts; what was shown is counted (R203, R222, R278). -/
def State.releaseBand (s : State) (b : Nat) : State :=
  let mine := s.brc.tiles.filter (fun t => t.frame == s.ras.frame && t.band == b)
  let mir := mine.countP (fun t => match t.held with | some h => decide (tileLines s.ras.timing b ≤ h.rows.length) | none => false)
  let live := mine.filter (fun t => t.state == .complete)
  let acc := live.foldl (fun m t => t.cover.foldl (fun m e =>
    let old := Sparse.get noPart m e.1
    Sparse.set noPart m e.1 (max old e.2)) m) s.lyr.acc
  let merged := mine.countP (fun t => t.merged && t.startAt != 0)
  let bmin := mine.foldl (fun m t => if m = 0 then t.budget else min m t.budget) s.syn.bmin
  let tmin := mine.foldl (fun m t => if m = 0 then t.taps else min m t.taps) s.syn.tmin
  { s with brc := { s.brc with tiles := s.brc.tiles.filter (fun t => !(t.frame == s.ras.frame && t.band == b)), mirage := s.brc.mirage + mir },
           lyr := { s.lyr with acc := acc }, ing := { s.ing with repMirage := s.ing.repMirage + mir },
           syn := { s.syn with merged := s.syn.merged + merged, bmin := bmin, tmin := tmin } }

/-- The band whose slot is released at this line. -/
def State.releases (s : State) : State :=
  let t := s.ras.timing
  if s.ras.line < t.vactive ∧ (s.ras.line % 16 = 15 ∨ s.ras.line + 1 = t.vactive) then s.releaseBand (s.ras.line / 16) else s

/-! ### Compensation, colour, transfer and dither (R212-R214) -/

/-- How the output stage works on a frame: words of the BRC page and the banks. -/
structure OutSet where
  regs : Sparse Word
  trim : Nat
  deriving DecidableEq, Repr

/-- The settings for frame `f` (R213). -/
def State.outSet (s : State) (f : Nat) : OutSet :=
  { regs := if f = s.ras.frame then s.brc.force else s.regs.filter (fun e => inPage 0x70000 e.1), trim := s.rd Reg.brcWpTrim }

def OutSet.rd (o : OutSet) (a : Nat) : Nat := (Sparse.get resetWord o.regs a).toNat
/-- Panel depth in bits (R222). -/
def OutSet.depth (o : OutSet) : Nat := let d := bitsOf (o.rd Reg.brcCtrl) 5 4; if d = 0 then 8 else if d = 1 then 10 else 12

/-- Matrix coefficient (j, k). -/
def OutSet.matrix (o : OutSet) (j k : Nat) : Int :=
  let i := 3 * j + k
  signedBits (bitsOf (o.rd (Reg.brcMatrix0 + i / 2 * 4)) (16 * (i % 2) + 15) (16 * (i % 2))) 16

/-- Gain of channel `j` in 2^-15. -/
def OutSet.gain (o : OutSet) (j : Nat) : Nat :=
  if j = 0 then bitsOf (o.rd Reg.brcGainRg) 15 0 else if j = 1 then bitsOf (o.rd Reg.brcGainRg) 31 16 else bitsOf (o.rd Reg.brcGainB) 15 0

/-- The dither threshold at (ix, iy) (R214). -/
def ditherAt (ix iy : Nat) : Nat := ([0, 8, 2, 10, 12, 4, 14, 6, 3, 11, 1, 9, 15, 7, 13, 5]).getD (4 * (iy % 4) + ix % 4) 0

/-- The code of a 16-bit value (R214). -/
def OutSet.dither (o : OutSet) (y col g f : Nat) : Nat :=
  let d := o.depth
  let off := if bitOf (o.rd Reg.brcCtrl) 2 then ([(0, 0), (2, 2), (2, 0), (0, 2)]).getD (f % 4) (0, 0) else (0, 0)
  if bitOf (o.rd Reg.brcCtrl) 1 then min (2 ^ d - 1) ((y + ditherAt (col + off.1) (g + off.2) * 2 ^ (12 - d)) / 2 ^ (16 - d))
  else min (2 ^ d - 1) ((y + 2 ^ (15 - d)) / 2 ^ (16 - d))

/-- The transfer LUT on channel `j` (R213). -/
def lutApply (nodes : List Nat) (j v2 : Nat) : Nat :=
  let n := fun (i : Nat) => (nodes.getD (1025 * j + i) 0 : Int)
  let i := v2 / 16
  (n i + ((n (i + 1) - n i) * ((v2 % 16 : Nat) : Int) + 8) / 16).toNat

/-- The three codes of a pixel and the subpixels clamped on the way (R212-R214). -/
def OutSet.pixel (o : OutSet) (lut : Option (List Nat)) (v : List Nat) (lrel col g f : Nat) : List Nat × Nat :=
  let comp := bitOf (o.rd Reg.brcCtrl) 0
  let c1 := v.map (fun x => if comp then (rnd0 (x * 16384 : Nat) (max lrel (bitsOf (o.rd Reg.brcCompFloor) 15 0))).toNat else x)
  let v1 := c1.map (fun x => min 16383 x)
  let chan := fun (j : Nat) =>
    let w := rnd0 ((List.range 3).foldl (fun a k => a + o.matrix j k * (v1.getD k 0 : Int)) 0) (2 ^ 14)
    let gn := rnd0 (o.gain j * (8192 + signedBits (bitsOf o.trim (10 * j + 9) (10 * j)) 10)) 8192
    rnd0 (w * gn) (2 ^ 15)
  let raw := (List.range 3).map chan
  let v2 := raw.map (fun x => (clampI 0 16383 x).toNat)
  let ys := v2.zipIdx.map (fun x => match lut with | some n => lutApply n x.2 x.1 | none => 4 * x.1)
  (ys.map (fun y => o.dither y col g f),
   (c1.zip raw).countP (fun x => decide (16383 < x.1 ∨ x.2 < 0 ∨ 16383 < x.2)))

/-- The LUT in force for a set. -/
def State.lutOf (s : State) (o : OutSet) : Option (List Nat) :=
  let sel := o.rd Reg.brcLutSel
  if bitOf sel 0 then s.brc.luts.getD (bitsOf sel 1 1) none else none

/-- A 10-bit value at another depth (R217). -/
def rescale (d v : Nat) : Nat := if d = 8 then v / 4 else if d = 10 then v else 4 * v + 2
/-- A code of depth `d` as the 10-bit value the Oasis holds (R216). -/
def toTen (d v : Nat) : Nat := if d = 8 then 4 * v else if d = 10 then v else v / 4

/-! ### Overdrive (R312, R313) -/

/-- Overdrive of one code: `a` the previous value, both at depth `d`. -/
def overdrive (tab : List Nat) (band d code prev : Nat) : Nat :=
  let c := code * 2 ^ (12 - d)
  let a := prev * 2 ^ (12 - d)
  let ia := min (a / 256) 15
  let ic := min (c / 256) 15
  let fa := a - 256 * ia
  let fc := c - 256 * ic
  let n := fun (i j : Nat) => tab.getD (band * 289 + i * 17 + j) 0
  let out := clampI 0 4095 (rnd0 ((256 - fa) * (256 - fc) * n ia ic + fa * (256 - fc) * n (ia + 1) ic + (256 - fa) * fc * n ia (ic + 1) +
    fa * fc * n (ia + 1) (ic + 1) : Nat) 65536)
  min (2 ^ d - 1) (rnd0 out (2 ^ (12 - d))).toNat

/-- The overdrive table set in force for frame `f`, if overdrive is on. -/
def State.odOf (s : State) (f : Nat) : Option (List Nat) :=
  let c := if f = s.ras.frame then (Sparse.get resetWord s.pnl.force Reg.pnlLcdCtrl).toNat else s.rd Reg.pnlLcdCtrl
  if bitOf c 4 then s.pnl.odBanks.getD (bitsOf c 5 5) none else none

/-! ### One line (R211, R306) -/

/-- What a tile gives for one line: the codes before overdrive (for the Oasis) and the outputs after it. -/
structure LineTile where
  ten : Option (List (List Nat))
  outputs : List (Option Nat)
  clamped : Nat
  od : Nat                       -- 0 overdrive off, 1 done, 2 bypassed
  deriving DecidableEq, Repr

/-- Line `l` of a tile (R211, R212, R217, R312). -/
def State.tileLine (s : State) (o : OutSet) (t : Tile) (l : Nat) : LineTile :=
  let tm := s.timingOf t.frame
  let w := tileCols tm t.col
  let d := o.depth
  let g := t.region * tm.vactive + 16 * t.band + l
  if t.state = .complete then
    let lut := s.lutOf o
    let px := (List.range w).map (fun x =>
      let word := Sparse.get unwritten t.pairs (l * 512 + x / 2)
      o.pixel lut ((List.range 3).map (fun k => unpackPair word (3 * (x % 2) + k))) (s.lrel t.frame (1024 * t.col + x) g) (1024 * t.col + x) g t.frame)
    let codes := px.map (fun p => p.1)
    let prev := (s.oasRows s.brc.oasInst (t.frame - 1) t.region t.band t.col tm).bind (fun r => r.2[l]?)
    let out := match s.odOf t.frame, prev with
      | some tab, some row => codes.zipIdx.flatMap (fun c => c.1.zipIdx.map (fun k =>
          some (overdrive tab s.pnl.odBand d k.1 (rescale d ((row.getD c.2 []).getD k.2 0)))))
      | _, _ => codes.flatMap (fun c => c.map some)
    { ten := some (codes.map (fun c => c.map (toTen d))), outputs := out, clamped := (px.map (fun p => p.2)).sum,
      od := if (s.odOf t.frame).isNone then 0 else if prev.isSome then 1 else 2 }
  else match t.held.bind (fun h => h.rows[l]?) with
    | some row =>
      let codes := row.map (fun c => c.map (rescale d))
      let out := match s.odOf t.frame with
        | some tab => codes.flatMap (fun c => c.map (fun k => some (overdrive tab s.pnl.odBand d k k)))
        | none => codes.flatMap (fun c => c.map some)
      { ten := some (codes.map (fun c => c.map (toTen d))), outputs := out, clamped := 0, od := if (s.odOf t.frame).isNone then 0 else 1 }
    | none => { ten := none, outputs := List.replicate (3 * w) none, clamped := 0, od := 0 }

/-- Add a row of codes to the tile's record for the Oasis encoders (R215). -/
def addRow (row : List (List Nat)) (t : Tile) (l : List SentTile) : List SentTile :=
  let mine := fun (x : SentTile) => x.frame == t.frame && x.region == t.region && x.band == t.band && x.col == t.col
  if l.any mine then l.map (fun x => if mine x then { x with rows := x.rows ++ [row] } else x)
  else l ++ [{ frame := t.frame, region := t.region, band := t.band, col := t.col, rows := [row] }]

/-- Whether tiles of frame `f` go into the Oasis, as far as is known yet (R225). -/
def State.oasWrites (s : State) (f : Nat) : Bool := if f = s.ras.frame then s.brc.oasOn else s.flag Reg.brcOasCtrl 0

/-- The first line of a band: streams move to the instances that are ACTIVE now, and tiles whose streams none can take are left unstored
(R219). -/
def State.oasStreams (s : State) (f b : Nat) : State :=
  let s := { s with brc := { s.brc with oasInst := s.oasInstances } }
  let lost := s.brc.tiles.countP (fun x => x.frame == f && x.band == b && !streamed s.brc.oasInst (s.timingOf f) x.region x.col)
  if lost = 0 ∨ !s.oasWrites f then s else (s.add (Reg.brcOasStat 6) lost).raise 0x71000 1

/-- The output stage processes line `l` of frame `f` (R211): codes for the link, and codes for the Oasis. -/
def State.processLine (s : State) (f l : Nat) : State :=
  let s := if l % 16 = 0 then s.oasStreams f (l / 16) else s
  let o := s.outSet f
  let tm := s.timingOf f
  let b := l / 16
  let lines : List (List (Option Tile × LineTile)) := (List.range tm.regionCount).map (fun r => (List.range tm.cols).map (fun c =>
    match s.brc.tiles.find? (fun t => t.frame == f && t.region == r && t.band == b && t.col == c) with
    | some t => (some t, s.tileLine o t (l % 16))
    | none => (none, { ten := none, outputs := List.replicate (3 * tileCols tm c) none, clamped := 0, od := 0 : LineTile })))
  let all := lines.flatten
  let sent := all.foldl (fun m x => match x.1, x.2.ten with
    | some t, some row => if (f != s.ras.frame || s.brc.oasOn) && streamed s.brc.oasInst tm t.region t.col then addRow row t m else m
    | _, _ => m) s.brc.sent
  let s := { s with brc := { s.brc with sent := sent }, pnl := { s.pnl with codes := lines.map (fun (r : List (Option Tile × LineTile)) => r.flatMap (fun (x : Option Tile × LineTile) => x.2.outputs)) } }
  let s := s.add (Reg.brcStat 5) ((all.map (fun (x : Option Tile × LineTile) => x.2.clamped)).sum)
  let s := s.add (Reg.pnlLcdStat 0) (lines.countP (fun (r : List (Option Tile × LineTile)) => r.any (fun (x : Option Tile × LineTile) => x.2.od == 1)))
  s.add (Reg.pnlLcdStat 1) (lines.countP (fun (r : List (Option Tile × LineTile)) => r.any (fun (x : Option Tile × LineTile) => x.2.od == 2)))

/-- The line that the output stage processes during the line that starts now (R211, R213). -/
def State.outputStage (s : State) : State :=
  if !s.domOn 16 then { s with pnl := { s.pnl with codes := [] } }
  else if s.ras.line + 1 < s.ras.timing.vactive then s.processLine s.ras.frame (s.ras.line + 1)
  else if s.ras.line + 1 = s.ras.timing.vtotal then s.processLine (s.ras.frame + 1) 0
  else { s with pnl := { s.pnl with codes := [] } }

/-! ### Oasis writes (R215, R216, R219) -/

/-- A row of pixels as FORMAT 2 words or FORMAT 3 bytes. -/
def oasRaw (rung : Nat) (rows : List (List (List Nat))) : List Byte :=
  rows.flatMap (fun row => row.flatMap (fun p =>
    if rung = 0 then pixelOf 2 p else pixelOf 3 (p.map (fun v => v / 4))))

/-- Rung 2: each pair of lines averaged; a last line without a partner stands alone (R216). -/
def halveRows : List (List (List Nat)) → List (List (List Nat))
  | a :: b :: rest => (a.zip b).map (fun p => (p.1.zip p.2).map (fun v => (v.1 / 4 + v.2 / 4 + 1) / 2 * 4)) :: halveRows rest
  | l => l

/-- The unit of a tile: the first rung that fits in 30,720 bytes (R216). -/
def oasUnit (w : Nat) (rows : List (List (List Nat))) : Nat × List Byte :=
  let u0 := mbcEncodeIn (4 * w) 1 0x15 2 w false (oasRaw 0 rows)
  let u1 := mbcEncodeIn (3 * w) 1 0x15 3 w true (oasRaw 1 rows)
  if u0.length ≤ 30720 then (0, u0)
  else if u1.length ≤ 30720 then (1, u1)
  else
    let raw := oasRaw 1 (halveRows rows)
    let payload := storedBlocks 0 raw
    let h : MbcHeader := { mode := 1, trunc := true, pred := 0, format := 3, rowPixels := w, rawLen := raw.length, payloadLen := payload.length }
    (2, h.bytes ++ payload ++ leBytes 4 (crc32c raw))

/-- The address of the unit space of a tile position of frame `f`'s slot on channel `chan`: a fixed offset (R215; log entry 54). -/
def State.oasAddr (s : State) (t : Timing) (chan f r b c : Nat) : Nat :=
  s.placeTop chan + (f % 2 * (t.regionCount * t.bands * t.cols) + (r * t.bands + b) * t.cols + c) * 30720

/-- A unit is written as whole lines of 64 bytes, the last one filled with zeros (log entry 54). -/
def wholeLines (bs : List Byte) : List Byte := bs ++ List.replicate (ceilDiv bs.length 64 * 64 - bs.length) 0

/-- OASIS_UNIT_WRITE: the unit of a tile whose rows have all been sent is complete (R215, R216, R225). -/
def State.oasWrite (s : State) (h : Hold) : State :=
  let mine := fun (x : SentTile) => x.frame == h.frame && x.region == h.region && x.band == h.band && x.col == h.col
  match s.brc.sent.find? mine with
  | none => s
  | some x =>
    let t := s.timingOf x.frame
    if x.rows.length = tileLines t x.band then
      let u := oasUnit (tileCols t x.col) x.rows
      let chan := s.oasChannel x.region x.band x.col
      let e : OasEntry :=
        { frame := x.frame % 65536, valid := true, rung := u.1, channel := chan, addr := s.oasAddr t chan x.frame x.region x.band x.col,
          len := u.2.length }
      let slot := Sparse.set noEntryO (s.brc.oasis.getD (x.frame % 2) []) (posKey x.region x.band x.col) e
      let s := { s with brc := { s.brc with oasis := s.brc.oasis.set (x.frame % 2) slot, sent := s.brc.sent.filter (fun y => !mine y) } }
      let s := ((s.dramWrite e.addr (wholeLines u.2)).add (Reg.brcOasStat 0) 1).add64 (Reg.brcOasStat 3) (Reg.brcOasStat 4) u.2.length
      let s := if u.1 = 0 then s else s.add (Reg.brcOasStat u.1) 1
      s.setFlag Reg.brcOasStatus 1 false
    else s

/-- The Oasis is marked empty: VALID is cleared in both slots (R215). -/
def State.oasClear (s : State) : State :=
  { s with brc := { s.brc with oasis := s.brc.oasis.map (fun (o : Sparse OasEntry) => o.map (fun (e : Nat × OasEntry) => (e.1, { e.2 with valid := false }))) } }.setFlag Reg.brcOasStatus 1 true

/-- OAS_CTRL.EN is written as `en`: cleared, it marks the Oasis empty, and nothing is written or read from the next frame on; set again, it
lets writing resume with the next frame and reading with the frame after (R215, R225; log entry 152). -/
def State.oasSwitch (s : State) (was en : Bool) : State :=
  if was && !en then s.oasClear
  else if !was && en then { s with brc := { s.brc with oasFrom := s.ras.frame + 2 } }
  else s

/-- A frame starts: OAS_CTRL.EN counts for it; without EN the Oasis is empty, and rows gathered for it are dropped (R225). -/
def State.oasFrame (s : State) : State :=
  if s.flag Reg.brcOasCtrl 0 then { s with brc := { s.brc with oasOn := true } }
  else { s with brc := { s.brc with oasOn := false, sent := [] } }.oasClear

/-! ### Snapshots (R220, R225) -/

/-- W and H of a snapshot. -/
def snapSize (t : Timing) (d : Nat) : Nat × Nat := (ceilDiv t.hactive d, ceilDiv (t.regionCount * t.vactive) d)

/-- The pixel bytes of image row `j`: `none` for a tile whose row was not captured. -/
def State.snapRow (s : State) (f d j : Nat) : List (Option (List Byte)) :=
  let t := s.ras.timing
  let g := d * j
  let r := g / max t.vactive 1
  let l := g % max t.vactive 1
  let rows := (List.range t.cols).map (fun c => (s.oasRows s.brc.oasInst f r (l / 16) c t).bind (fun x => x.2[l % 16]?))
  (List.range (snapSize t d).1).map (fun i =>
    (rows.getD (d * i / 1024) none).map (fun row => ((row.getD (d * i % 1024) []).map (fun v => BitVec.ofNat 8 (v / 4)))))

/-- The image of a snapshot of frame `f` and the count of rows not wholly captured (R220). -/
def State.snapImage (s : State) (f d : Nat) : List Byte × Nat :=
  let t := s.ras.timing
  let sz := snapSize t d
  let rows := (List.range sz.2).map (fun j => s.snapRow f d j)
  let bad := rows.countP (fun r => r.any Option.isNone)
  let tf := s.tFrame f / ns
  let rungs := (s.brc.oasis.getD (f % 2) []).countP (fun e => e.2.valid && e.2.frame == f % 65536 && decide (1 ≤ e.2.rung))
  let header := leBytes 8 f ++ leBytes 8 (tf / 1000000000) ++ leBytes 4 (tf % 1000000000) ++ leBytes 2 sz.1 ++ leBytes 2 sz.2 ++ leBytes 1 d ++
    leBytes 3 0 ++ leBytes 4 s.brc.mirageFrame ++ leBytes 4 rungs ++ leBytes 4 bad ++ leBytes 24 0
  (header ++ rows.flatMap (fun r => r.flatMap (fun p => p.getD [0, 0, 0])), bad)

/-- BRC_SNAP_DONE (R220). -/
def State.snapDone (s : State) : State :=
  match s.brc.snap with
  | some p =>
    if p.capturing ∧ s.ras.timing.vactive ≤ s.ras.line then
      let im := s.snapImage p.frame p.d
      let s := { s with brc := { s.brc with snap := none } }.dramWrite p.addr im.1
      (s.wr Reg.brcSnapStat (4 + (if im.2 = 0 then 0 else 8) + p.frame % 65536 * 65536)).raise 0x71000 2 |>.setFlag Reg.brcSnapCtrl 31 false
    else s
  | none => s

/-- A new frame starts: an armed snapshot of the frame before runs, one whose frame has been passed over is discarded. -/
def State.snapFrame (s : State) : State :=
  match s.brc.snap with
  | some p =>
    if p.capturing ∨ p.frame + 1 < s.ras.frame then { s with brc := { s.brc with snap := none } }.setFld Reg.brcSnapStat 1 0 0 |>.setFlag Reg.brcSnapCtrl 31 false
    else if p.frame + 1 = s.ras.frame then { s with brc := { s.brc with snap := some { p with capturing := true } } }.setFld Reg.brcSnapStat 1 0 2
    else s
  | none => s

/-! ### Frame boundaries -/

/-- The names of frames move with a relabel or retime: frame `a` is now called `b` (R85). -/
def State.retag (s : State) (a b : Nat) : State :=
  if a = b then s
  else
    let f := fun (x : Nat) => x + b - a
    let h := fun (x : Hold) => { x with frame := f x.frame }
    { s with brc := { s.brc with tiles := s.brc.tiles.map (fun t => { t with frame := f t.frame }),
                                 sent := s.brc.sent.map (fun t => { t with frame := f t.frame }),
                                 oasFrom := if s.brc.oasFrom ≤ a then 0 else f s.brc.oasFrom },
             clusters := s.clusters.map (fun c => { c with held := c.held.map h, running := c.running.map h, revokes := c.revokes.map h }),
             syn := { s.syn with front := s.syn.front.map (fun p => { p with frame := f p.frame }), back := s.syn.back.map (fun p => { p with frame := f p.frame }) },
             lyr := { s.lyr with front := s.lyr.front.map (fun p => { p with frame := f p.frame }), back := s.lyr.back.map (fun p => { p with frame := f p.frame }) },
             bkl := { s.bkl with sets := s.bkl.sets.map (fun p => { p with frame := f p.frame }) } }

/-- The output band stage at a line-0 start (R215, R222, R224, R225). -/
def State.brcFrame (s : State) : State :=
  let old := s.ras.frame - 1
  let s := s.wr Reg.brcLastFrame (min s.brc.mirage 65535 + old % 65536 * 65536)
  let s := if s.brc.mirage ≠ 0 then s.raise 0x70000 0 else s
  let m := s.syn.merged
  let s := s.wr Reg.synStatus (min m 65535 + s.syn.bmin % 64 * 2 ^ 16 + Nat.log2 s.syn.tmin % 4 * 2 ^ 24)
  let s := if m ≠ 0 ∧ !s.syn.mergedBefore then s.raise 0x50000 2 else s
  { s with brc := { s.brc with mirageFrame := s.brc.mirage, mirage := 0, stale := false, openCur := s.brc.openNext, openNext := 0,
                               force := s.regs.filter (fun e => inPage 0x70000 e.1) },
           syn := { s.syn with merged := 0, mergedBefore := m != 0, bmin := 0, tmin := 0 } }.oasFrame.snapFrame

/-- A retime drops every tile and marks the Oasis empty (R92, R215); what its run has done is counted (R189). -/
def State.brcRetime (s : State) : State :=
  let s := s.brc.tiles.foldl (fun s t => (if t.state = .started then s.countTile t false else s).endRun t) s
  { s with brc := { s.brc with tiles := [], openCur := 0, openNext := 0, sent := [], stats := [] } }.oasClear

/-! ### LUT and overdrive loads (R223, R313) -/

/-- A LUT load ends (R223, R224). -/
def State.lutLoaded (s : State) : State :=
  match s.brc.lutLoad with
  | none => s
  | some (b, bytes) =>
    let s := { s with brc := { s.brc with lutLoad := none } }.setFlag Reg.brcLutLoadCtrl 31 false
    let ok := bytes.bind (fun bs => if leNat (slice bs 6152 4) = crc32c (bs.take 6152) then
      some ((List.range 3075).map (fun i => leNat (slice bs (2 * i) 2))) else none)
    match ok with
    | some nodes => ({ s with brc := { s.brc with luts := s.brc.luts.set b (some nodes) } }.setFld Reg.brcLutStat 31 16 0).raise 0x70000 2
    | none => (s.setFld Reg.brcLutStat 31 16 0x704).raise 0x70000 3

/-- An overdrive table load ends (R313). -/
def State.odLoaded (s : State) : State :=
  match s.pnl.odLoad with
  | none => s
  | some (b, bytes) =>
    let s := { s with pnl := { s.pnl with odLoad := none } }.setFlag Reg.pnlOdLoadCtrl 31 false
    let ok := bytes.bind (fun bs =>
      let nodes := (List.range 2312).map (fun i => leNat (slice bs (2 * i) 2))
      if leNat (slice bs 4624 4) = crc32c (bs.take 4624) ∧ nodes.all (fun n => decide (n < 4096)) then some nodes else none)
    match ok with
    | some nodes => ({ s with pnl := { s.pnl with odBanks := s.pnl.odBanks.set b (some nodes) } }.setFld Reg.pnlOdStat 31 16 0).raise 0xB1000 0
    | none => (s.setFld Reg.pnlOdStat 31 16 0xB03).raise 0xB1000 1

/-! ### Registers of the BRC pages -/

/-- The bank in force for the current frame, the one committed for the next, or the one a pending commit of the page names (R223,
R313). -/
def State.bankBusy (s : State) (page : Nat) (force : Sparse Word) (sel bit b : Nat) : Bool :=
  bitsOf (Sparse.get resetWord force sel).toNat bit bit == b || bitsOf (s.rd sel) bit bit == b || (s.flag (page + 0x1C) 1 && bitsOf (s.rdShadow sel) bit bit == b)

/-- LINK_CAPACITY (R304): whether a line of the given words does not fit. -/
def linkOver (t : Timing) (outputs depth : Nat) : Bool :=
  let blocks := t.hactive * t.period * 16 / (t.htotal * t.vtotal * 65 * ns)
  decide (blocks - 1 < 2 + ceilDiv (outputs * depth) 128)

/-- Depth of a CTRL word. -/
def depthOf (w : Nat) : Nat := let d := bitsOf w 5 4; if d = 0 then 8 else if d = 1 then 10 else 12

/-- The failing checks of a BRC commit beside GUARD_HORIZON, under timing `t` for the next frame (R224, R304). -/
def State.brcOwnCodes (s : State) (t : Timing) : List (Nat × Nat × Nat) :=
  let sel := s.rdShadow Reg.brcLutSel
  (if bitOf sel 0 ∧ (s.brc.luts.getD (bitsOf sel 1 1) none).isNone then [(0x702, 0x70000, 0x6C)] else []) ++
  (if linkOver t (s.fld Reg.pnlLinkCfg 13 0) (depthOf (s.rdShadow Reg.brcCtrl)) then [(0xB01, 0x70000, 0x40)] else [])

/-- The failing checks of a BRC commit (R224, R304). -/
def State.brcCommitCodes (s : State) : List (Nat × Nat × Nat) :=
  (if s.nextT.horizon < bitsOf (s.rdShadow Reg.brcGuard) 3 0 + 8 then [(0x701, 0x70000, 0x44)] else []) ++ s.brcOwnCodes s.nextT

/-- Checks of a write to a BRC page (R222-R225). -/
def State.brcCheck (s : State) (page off data : Nat) : List Nat :=
  if page = 0 then
    if off = 0x78 ∧ bitOf data 31 then
      codeIf s.brc.lutLoad.isSome 9 ++ codeIf (s.bankBusy 0x70000 s.brc.force Reg.brcLutSel 1 (bitsOf data 0 0)) 6 ++
      codeIf (!s.dramOk (s.addr64 Reg.brcLutLoadLo Reg.brcLutLoadHi) 6156) 0xB
    else []
  else
    let busy := s.brc.snap.isSome
    if 0x50 ≤ off ∧ off ≤ 0x60 then codeIf busy 9
    else if off = 0x64 then
      let d := 8 * 2 ^ bitsOf data 1 0
      let sz := snapSize s.ras.timing d
      let f := s.addr64 Reg.brcSnapFrameLo Reg.brcSnapFrameHi
      let len := s.rd Reg.brcSnapLen
      codeIf busy 9 ++
      (if bitOf data 31 then
        codeIf (len == 0) 2 ++ codeIf (decide (len < 64 + 3 * sz.1 * sz.2)) 7 ++
        codeIf (!s.dramOk (s.addr64 Reg.brcSnapAddrLo Reg.brcSnapAddrHi) (64 + 3 * sz.1 * sz.2)) 0xB ++
        codeIf (decide (f < s.ras.frame) || (f == s.ras.frame && decide (s.ras.timing.vtotal ≤ s.ras.line + 2))) 0x703
      else [])
    else []

/-- Effects of an accepted write to a BRC page (R215, R223, R225). -/
def State.brcEffect (s : State) (page off old data : Nat) : State :=
  if page = 0 then
    if off = 0x78 ∧ bitOf data 31 then
      let b := bitsOf data 0 0
      let bytes := s.dramRead (s.addr64 Reg.brcLutLoadLo Reg.brcLutLoadHi) 6156
      { s with brc := { s.brc with lutLoad := some (b, bytes), luts := s.brc.luts.set b none } }
    else s
  else if off = 0x40 then s.oasSwitch (bitOf old 0) (bitOf data 0)
  else if off = 0x64 ∧ bitOf data 31 then
    { s with brc := { s.brc with snap := some { frame := s.addr64 Reg.brcSnapFrameLo Reg.brcSnapFrameHi,
                                                addr := s.addr64 Reg.brcSnapAddrLo Reg.brcSnapAddrHi, d := 8 * 2 ^ bitsOf data 1 0,
                                                capturing := false } } }.wr Reg.brcSnapStat 1
  else s

/-- Computed words of the BRC pages (R222, R225). -/
def State.brcRead (s : State) (page off : Nat) : Option Nat :=
  let b := fun (x : Bool) (i : Nat) => if x then 2 ^ i else 0
  if page = 0 then
    if off = 0x7C then
      some (putBits (s.rd Reg.brcLutStat) 2 0 (b (s.brc.luts.getD 0 none).isSome 0 + b (s.brc.luts.getD 1 none).isSome 1 + b s.brc.lutLoad.isSome 2))
    else none
  else if off = 0x44 then
    let t := s.ras.timing
    let f := s.ras.frame - 1
    let all := (List.range t.regionCount).all (fun r => (List.range t.bands).all (fun bd => (List.range t.cols).all (fun c =>
      let e := s.oasEntry f (posKey r bd c)
      e.valid && e.frame == f % 65536)))
    some (putBits (putBits (s.rd Reg.brcOasStatus) 0 0 (b (all && decide (0 < s.ras.frame)) 0)) 20 16 s.oasInstances)
  else if off = 0x48 then some (if s.flag Reg.brcOasStatus 1 then 0 else s.oasBytes / 2 ^ 20)
  else if off = 0x4C then some ((List.range 16).map (fun i => b (s.unitState (80 + i) == 0) i)).sum
  else none

end Sys2Proof.Machine
end

