-- ==== Sys2Proof/Machine/Panel.lean ====
section
/-! DEFINITION. Panel drive (R298-R330): link blocks and lines, gate timing, driver register writes, the lens layer, rails,
discharge, crack loops, and the registers of the PNL pages. -/

namespace Sys2Proof.Machine

/-! ### Blocks (R300-R302) -/

/-- CRC-16 with polynomial 0x1021 and initial value 0xFFFF, not reflected (R302). -/
def crc16 (bs : List Byte) : Nat :=
  bs.foldl (fun c b => (List.range 8).foldl (fun c _ => if 0x8000 ≤ c then Nat.xor (c * 2 % 65536) 0x1021 else c * 2)
    (Nat.xor c (b.toNat * 256))) 0xFFFF

/-- A control block: TYPE, the bytes given, zeros, and the CRC (R302). -/
def ctlBlock (type : Nat) (body : List Byte) : Bool × List Byte :=
  let b := ((leBytes 1 type ++ body) ++ List.replicate 14 0).take 14
  (true, b ++ beBytes 2 (crc16 b))

/-- One step of the scrambler: stage k of the register is bit k - 1 (R301). -/
def lfsrStep (r : Nat) : Nat :=
  let fb := ([22, 20, 15, 7, 4, 1].countP (fun i => bitOf r i)) % 2
  r * 2 % 2 ^ 23 + fb

/-- `n` output bits as a number, first bit lowest, and the register after them. -/
def lfsrBits : Nat → Nat → Nat × Nat
  | 0, r => (0, r)
  | n + 1, r =>
    let x := lfsrBits n (lfsrStep r)
    (bitsOf r 22 22 + 2 * x.1, x.2)

/-- The bytes of a data block, scrambled (R301). -/
def scrambleBytes (r : Nat) : List Byte → List Byte × Nat
  | [] => ([], r)
  | b :: bs =>
    let x := lfsrBits 8 r
    let y := scrambleBytes x.2 bs
    (BitVec.ofNat 8 (Nat.xor b.toNat x.1) :: y.1, y.2)

/-- The blocks as sent; the register is loaded anew after a FRAME_START on lane `l` (R301). -/
def scramble (l : Nat) : Nat → List (Bool × List Byte) → List (Bool × List Byte) × Nat
  | r, [] => ([], r)
  | r, (true, b) :: bs =>
    let y := scramble l (if b.head? = some 0xB4 then 0x7FFF00 + l else r) bs
    ((true, b) :: y.1, y.2)
  | r, (false, b) :: bs =>
    let x := scrambleBytes r b
    let y := scramble l x.2 bs
    ((false, x.1) :: y.1, y.2)

/-! ### What the link sends (R303-R311, R321-R323) -/

/-- PNL_PWR_STATE.STATE: 0 OFF, 1 RISING, 2 CLEARING, 3 ON, 4 FALLING, 5 DISCHARGING. -/
def State.panel (s : State) : Nat := s.fld Reg.pnlPwrState 2 0
def State.setPanel (s : State) (v : Nat) : State := s.setFld Reg.pnlPwrState 2 0 v

/-- LNK_Ln_STATUS.STATE of lane `n` (R441). -/
def State.laneState (s : State) (n : Nat) : Nat := s.fld (Reg.lnkLStatus n) 2 0

/-- Whether the link transmits frames: from CLEARING to DISCHARGING (R321-R323). -/
def State.linkSends (s : State) : Bool := s.pnl.running && s.domOn 20 && decide (2 ≤ s.panel)

/-- Step 2 of a transition ends at this line 0: PARK_SETTLE whole frames have passed since the last region reached PARK (R92). -/
def State.dischDue (s : State) : Bool :=
  s.ras.step == 2 && s.ras.line == 0 && s.pnl.lens == [] && decide (s.fld Reg.pnlLnsCtrl 14 8 + 1 ≤ s.ras.stepFrames)

/-- Step 4 begins at this line 0: two whole frames of discharge have passed, or steps 1 to 3 are skipped (R84, R92). -/
def State.retimeDue (s : State) : Bool :=
  s.ras.line == 0 && ((s.ras.step == 3 && decide (2 ≤ s.ras.stepFrames)) ||
    (s.ras.step == 0 && s.ras.transDue == some s.ras.frame && s.ras.skipFade))

/-- DISCHARGE flags of data and control lanes, where the lines are discharge lines: in CLEARING for two whole frames, so that the
line 0 after them is a normal one (R321-R323), and in step 3 of a transition from the line 0 at which it begins (R92). -/
def State.dischFlags (s : State) : Option (Nat × Nat) :=
  if s.panel = 2 ∧ s.pnl.frames < 3 then some (1, 2) else if s.panel = 4 then some (7, 7) else if s.panel = 5 then some (1, 6)
  else if s.ras.step = 3 ∨ s.dischDue then some (1, 2) else none

/-- A word of the link and LCD pages in force for the current frame (R213). -/
def State.pnlW (s : State) (a : Nat) : Nat := (Sparse.get resetWord s.pnl.force a).toNat

/-- OUTPUTS and the groups in use (R299). -/
def State.outputsN (s : State) : Nat := max 1 (bitsOf (s.pnlW Reg.pnlLinkCfg) 13 0)
def State.groups (s : State) : Nat := min 12 (ceilDiv (3 * s.ras.timing.hactive) s.outputsN)

/-- Line polarity (R308). -/
def State.pol (s : State) (l : Nat) : Bool :=
  if bitsOf (s.pnlW Reg.pnlLcdCtrl) 1 0 = 0 then s.pnl.fpol else s.pnl.fpol != (l % 2 == 1)

/-- The span of outputs without codes (R306). -/
def repeatSpan (codes : List (Option Nat)) : Nat × Nat :=
  match codes.findIdx? Option.isNone with
  | none => (0, 0)
  | some f => (f, codes.length - f - (codes.reverse.takeWhile Option.isSome).length)

/-- The bits of a code at depth `d`, bit 0 first. -/
def codeBits (d v : Nat) : List Bool := (List.range d).map (fun i => bitOf v i)

/-- Bytes cut into data blocks of 16. -/
def dataBlocks : Nat → List Byte → List (Bool × List Byte)
  | 0, _ => []
  | n + 1, bs => (false, bs.take 16) :: dataBlocks n (bs.drop 16)

/-- The codes of group `k` of region `r`: outputs beyond the line are 0 (R299, R303). -/
def State.groupCodes (s : State) (r k : Nat) : List (Option Nat) :=
  let n := s.outputsN
  let total := 3 * s.ras.timing.hactive
  let mine := (((s.pnl.codes.getD r []).drop (n * k)).take n)
  (List.range n).map (fun i => if total ≤ n * k + i then some 0 else mine.getD i none)

/-- FRAME_START of the frame whose line 0 starts (R305). -/
def State.frameStart (s : State) : Bool × List Byte :=
  let t := s.ras.timing
  ctlBlock 0xB4 (leBytes 1 (if s.pnl.fpol then 1 else 0) ++ beBytes 8 s.ras.frame ++ beBytes 2 t.vactive ++ beBytes 2 t.vtotal)

/-- The blocks of a data lane for the current line, with its repeat span (R303-R306). -/
def State.dataLine (s : State) (r k : Nat) : List (Bool × List Byte) × Nat :=
  let l := s.ras.line
  match s.dischFlags with
  | some f => ([ctlBlock 0xB5 (leBytes 1 f.1 ++ beBytes 2 l)], 0)
  | none =>
    let depth := bitsOf (Sparse.get resetWord s.brc.force Reg.brcCtrl).toNat 5 4
    let d := if depth = 0 then 8 else if depth = 1 then 10 else 12
    let codes := s.groupCodes r k
    let active := decide (l < s.ras.timing.vactive)
    let span := if active then repeatSpan codes else (0, 0)
    let b := fun (x : Bool) (w : Nat) => if x then w else 0
    let start := ctlBlock 0xB1 (leBytes 1 (b (s.pol l) 1 + b (span.2 != 0) 2 + b (!active) 4) ++ beBytes 2 l ++ beBytes 2 (s.ras.frame % 65536) ++
      leBytes 1 (k + r * 16) ++ leBytes 1 (depth + bitsOf (s.pnlW Reg.pnlLcdCtrl) 1 0 * 4) ++ beBytes 2 span.1 ++ beBytes 2 span.2)
    if active then
      let n := ceilDiv (codes.length * d) 128
      let sent := codes.zipIdx.map (fun c => if span.1 ≤ c.2 ∧ c.2 < span.1 + span.2 then 0 else c.1.getD 0)
      let payload := packBits (16 * n) (sent.flatMap (codeBits d))
      ([start] ++ dataBlocks n payload ++ [ctlBlock 0xB2 (leBytes 1 0 ++ beBytes 2 l ++ beBytes 4 (crc32c payload))], span.2)
    else ([start], 0)

/-- Clock phases and STV that rise and fall in line `l` (R309). -/
def State.gateSets (s : State) (l : Nat) : Nat × Nat :=
  let t := s.ras.timing
  let c := s.pnlW Reg.pnlGateCfg
  let ph := max 1 (bitsOf c 3 0)
  let pre := bitsOf c 6 4
  let lead := bitsOf c 15 8
  let width := bitsOf c 19 16
  let rise := if l + pre < t.vactive then 2 ^ ((l + pre) % ph) else if t.vtotal ≤ l + pre then 2 ^ ((l + pre - t.vtotal) % ph) else 0
  let fall := if l < t.vactive then 2 ^ (l % ph) else 0
  let stvUp := if l + lead = t.vtotal then 256 else 0
  let stvDn := if l + lead + 1 = t.vtotal + width ∨ l + lead + 1 = width then 256 else 0
  (rise + stvUp, fall + stvDn)

/-- One block lasts 4.0625 ns (R300). -/
def blockTime : Nat := 65 * 2 ^ 28

/-- The slot of a line's first block: the first block boundary at or after the line's start (R303). -/
def State.lineSlot (s : State) : Nat := ceilDiv (s.ras.lineStart - s.pnl.linkStart) blockTime

/-- Nanoseconds from the first block of the line to column `c` (R310). -/
def State.gateNs (s : State) (c : Nat) : Nat :=
  let t := s.ras.timing
  let start := s.pnl.linkStart + s.lineSlot * blockTime
  (rnd0 ((s.ras.lineStart + c * t.period / max 1 (t.vtotal * t.htotal) : Nat) - (start : Int)) ns).toNat

/-- The GATE block (R310). -/
def State.gateBlock (s : State) : Bool × List Byte :=
  let l := s.ras.line
  let g := s.gateSets l
  let cols := s.pnlW Reg.pnlGateCols
  ctlBlock 0xC1 (leBytes 1 0 ++ beBytes 2 l ++ beBytes 2 g.1 ++ beBytes 2 g.2 ++
    beBytes 3 (if g.1 = 0 then 0 else s.gateNs (bitsOf cols 15 0)) ++ beBytes 3 (if g.2 = 0 then 0 else s.gateNs (bitsOf cols 31 16)))

/-! ### The lens layer (R314-R319) -/

/-- A map of lens regions. -/
def lensDefault : Nat → LensReg := fun _ => LensReg.park

def State.lensCols (s : State) : Nat := max 1 (s.fld Reg.pnlLnsGrid 6 0)
def State.lensRows (s : State) : Nat := max 1 (s.fld Reg.pnlLnsGrid 21 16)

/-- First global line of lens row `y` (R314). -/
def State.lensRowLine (s : State) (y : Nat) : Nat := y * (s.ras.timing.regionCount * s.ras.timing.vactive) / s.lensRows

/-- The temperature band in force (R454). -/
def State.band (s : State) : Nat := s.fld Reg.thmBand 2 0

/-- The words of a waveform: header (j = 0) and steps (R328). -/
def State.wfWord (s : State) (w j : Nat) : Nat := (Sparse.get (fun _ => 0) s.pnl.wf (w * 65 + j)).toNat

/-- The steady word of a state (R316). -/
def State.steady (s : State) (st : Nat) : Nat := s.rd (Reg.pnlLnsSteady (st * 8 + s.band))

/-- The step word that a waveform (target, index, first frame, length, band) gives in frame `f`; a region in state `st` that it has
not reached yet gets its steady word. -/
def State.runWord (s : State) (st f : Nat) (r : Nat × Nat × Nat × Nat × Nat) : Nat :=
  if f < r.2.2.1 then s.steady st
  else if f < r.2.2.1 + r.2.2.2.1 ∧ r.2.1 < 128 then s.wfWord r.2.1 (1 + (f - r.2.2.1)) else s.steady r.1

/-- The step word of region `k` in frame `f` before PHASE is filled in (R315-R319): after the latch of its last frame a waveform
still gives that frame's rows their word (R317). -/
def State.stepWord (s : State) (k f : Nat) : Nat :=
  if s.pnl.lensHold then 0
  else
    let g := Sparse.get lensDefault s.pnl.lens k
    match g.ending, g.run with
    | some e, some r => if f < r.2.2.1 then s.runWord g.state f e else s.runWord g.state f r
    | some e, none => s.runWord g.state f e
    | none, some r => s.runWord g.state f r
    | none, none => s.steady g.state

/-- The step word as sent: PHASE is filled in for every region (R315). -/
def State.stepSent (s : State) (x y f : Nat) (fpol : Bool) : Nat :=
  s.stepWord (64 * y + x) f + (x + y + (if fpol then 1 else 0)) % 2 * 2 ^ 20

/-- The region line after the current one. -/
def State.nextLine (s : State) : Nat := if s.ras.line + 1 = s.ras.timing.vtotal then 0 else s.ras.line + 1

/-- Lens rows of region `r` whose LENS_ROW goes out during the current line (R316). -/
def State.lensRowsSent (s : State) (r : Nat) : List Nat :=
  let t := s.ras.timing
  if t.vactive ≤ s.nextLine then [] else (List.range s.lensRows).filter (fun y => s.lensRowLine y == r * t.vactive + s.nextLine)

/-- LENS_ROW blocks that region `r` sends during the current line (R316). -/
def State.lensBlocks (s : State) (r : Nat) : List (Bool × List Byte) :=
  let last := s.ras.line + 1 = s.ras.timing.vtotal
  let f := if last then s.ras.frame + 1 else s.ras.frame
  let fp := if last then !s.pnl.fpol else s.pnl.fpol
  (s.lensRowsSent r).flatMap (fun y =>
    let n := s.lensCols
    let words := (List.range n).flatMap (fun x => beBytes 4 (s.stepSent x y f fp))
    ctlBlock 0xC2 (leBytes 1 y ++ leBytes 1 n ++ leBytes 1 (if fp then 1 else 0) ++ beBytes 2 (f % 65536)) ::
      dataBlocks (ceilDiv n 4) (words ++ List.replicate 16 0))

/-- Driver register writes sent in this line: the entries, and how many each lane has sent (R311). -/
def takeWrites : List RegWrite → List Nat → List RegWrite × List RegWrite
  | [], _ => ([], [])
  | w :: ws, n =>
    if (List.range 4).any (fun r => bitOf w.regions r && decide (8 ≤ n.getD r 0)) then ([], w :: ws)
    else
      let n' := (List.range 4).map (fun r => n.getD r 0 + (if bitOf w.regions r then 1 else 0))
      let x := takeWrites ws n'
      (w :: x.1, x.2)

/-- REG_WRITE blocks of a lane from its SEQ (R311). -/
def writeBlocks (r : Nat) : Nat → List RegWrite → List (Bool × List Byte)
  | _, [] => []
  | q, w :: ws =>
    if bitOf w.regions r then
      ctlBlock 0xC3 (leBytes 1 w.target ++ beBytes 2 w.addr ++ beBytes 4 w.data ++ beBytes 2 q) :: writeBlocks r ((q + 1) % 65536) ws
    else writeBlocks r q ws

/-- The blocks of control lane 48 + r for the current line: GATE, or DISCHARGE in its place, any LENS_ROW, and register writes. -/
def State.controlLine (s : State) (r : Nat) (ws : List RegWrite) : List (Bool × List Byte) :=
  let head := match s.dischFlags with
    | some f => ctlBlock 0xB5 (leBytes 1 f.2 ++ beBytes 2 s.ras.line)
    | none => s.gateBlock
  head :: (s.lensBlocks r ++ writeBlocks r (s.pnl.seq.getD r 0) ws)

/-- Lane `l` sends IDLE blocks up to block slot `slot`, then the blocks (R300, R301, R303); blocks still to be sent go first. A lane that
is coming up carries no traffic and sends IDLE blocks in its place (R431, R440). -/
def State.sendLane (s : State) (slot l : Nat) (bs : List (Bool × List Byte)) : State :=
  let x := scramble l (s.pnl.lfsr.getD l 0) bs
  let sent := s.pnl.slots.getD l 0
  let s := { s with pnl := { s.pnl with lfsr := s.pnl.lfsr.set l x.2, slots := s.pnl.slots.set l (max slot sent + bs.length) } }
  if s.laneState l = 2 then s.emit (.link l (slot - sent) x.1)
  else if s.laneState l = 1 then s.emit (.link l (slot - sent + bs.length) []) else s

/-- Every lane sends IDLE blocks up to block slot `slot`. -/
def State.sendIdle (s : State) (slot : Nat) : State := (List.range 52).foldl (fun s' l => s'.sendLane slot l []) s

/-- The blocks of lane `l` for the current line: none where its region or group is not in use (R298). -/
def State.laneLine (s : State) (ws : List RegWrite) (l : Nat) : List (Bool × List Byte) :=
  if l < 48 then (if l / 12 < s.ras.timing.regionCount ∧ l % 12 < s.groups then (s.dataLine (l / 12) (l % 12)).1 else [])
  else if l - 48 < s.ras.timing.regionCount then s.controlLine (l - 48) ws else []

/-- The lens rows that go out now at zero field because the drive is cut (R319). -/
def State.zeroRowsNow (s : State) : List Nat :=
  let rows := (List.range s.ras.timing.regionCount).flatMap s.lensRowsSent
  s.pnl.zeroRows.filter (fun y => !rows.contains y) ++ (if s.pnl.lensHold then rows else [])

/-- A line has been repeated (R89, R314): on line LATCH before the latch edge the report comes with that edge (R90). -/
def State.underrun (s : State) : State :=
  if s.ras.line = s.ras.timing.latch ∧ !s.ras.latched then { s with ras := { s.ras with underruns := s.ras.underruns + 1 } }
  else (s.add Reg.rasUnderrunCount 1).raise 0x10000 3

/-- The link sends the line that starts now, from the codes made ready for it (R303-R311). FRAME_START goes in the slot before
line 0, at which FPOL toggles (R302, R308; log entry 162). A lane without a line sends IDLE blocks. -/
def State.linkLine (s : State) : State :=
  if !s.pnl.running || !s.domOn 20 then s
  else if !s.linkSends || s.retimeDue then s.sendIdle s.lineSlot
  else
    let first := s.ras.line = 0
    let s := if first then { s with pnl := { s.pnl with fpol := !s.pnl.fpol } } else s
    let regions := s.ras.timing.regionCount
    let tw := takeWrites s.pnl.queue [0, 0, 0, 0]
    let spans := (List.range regions).flatMap (fun r => (List.range s.groups).map (fun k => (s.dataLine r k).2))
    let s1 := (List.range 52).foldl (fun s' l =>
      match s.laneLine tw.1 l with
      | [] => s'.sendLane s.lineSlot l []
      | bs => if first then s'.sendLane (s.lineSlot - 1) l (s.frameStart :: bs) else s'.sendLane s.lineSlot l bs) s
    let seq := (List.range 4).map (fun r => (s.pnl.seq.getD r 0 + tw.1.countP (fun w => bitOf w.regions r)) % 65536)
    let s1 := { s1 with pnl := { s1.pnl with queue := tw.2, seq := seq, zeroRows := s.zeroRowsNow } }
    let s1 := s1.add (Reg.pnlLcdStat 2) tw.1.length
    let s1 := if !tw.1.isEmpty && tw.2.isEmpty then s1.raise 0xB1000 2 else s1
    let s1 := if s.ras.line + 1 = s.ras.timing.vtotal then s1.add (Reg.pnlStat 0) 1 else s1
    if s.dischFlags.isSome then s1.add (Reg.pnlStat 4) 1
    else
      let s1 := s1.add (Reg.pnlStat 1) 1
      let n := spans.sum
      if n = 0 then s1
      else
        let s1 := { s1 with ing := { s1.ing with repLines := s1.ing.repLines + 1 } }
        let s1 := ((s1.add (Reg.pnlStat 2) 1).add (Reg.pnlStat 3) n).underrun
        if s1.pnl.repeated then s1 else { s1 with pnl := { s1.pnl with repeated := true } }.raise 0xB0000 0

/-! ### Lens states at the latch (R317-R319) -/

/-- The lens layer is held at zero field (R319, R321): EN 0, a crack or discharge, a transition from its lens park step to its
retime, or the panel is not ON. -/
def State.lensBlocked (s : State) : Bool :=
  !s.flag Reg.pnlLnsCtrl 0 || s.pnl.lensOff || decide (2 ≤ s.ras.step ∧ s.ras.step ≤ 4) || s.panel != 3

/-- The target of region `k` at the latch (R277, R318). -/
def State.lensTarget (s : State) (k : Nat) : Nat :=
  if s.flag Reg.lyrLensMap 0 && Sparse.get zeroMap s.lyr.flat k == 1 then 0
  else s.fld (Reg.pnlLnsTarget (k / 16)) (2 * (k % 16) + 1) (2 * (k % 16))

/-- Replace a region. -/
def State.setLens (s : State) (k : Nat) (g : LensReg) : State :=
  { s with pnl := { s.pnl with lens := Sparse.set lensDefault s.pnl.lens k g } }

/-- A waveform starts for frame `f` (R317); `e` is the one that ends before it. -/
def State.lensStart (s : State) (k old new f : Nat) (end_ : Option (Nat × Nat × Nat × Nat × Nat)) : State :=
  let b := s.band
  let e := s.fld (Reg.pnlLnsSel ((b * 16 + old * 4 + new) / 4)) (8 * (new % 4) + 7) (8 * (new % 4))
  let h := s.wfWord (e % 128) 0
  let ok := 128 ≤ e ∧ bitOf h 31
  let s := s.add (Reg.pnlLnsStatCnt 0) 1
  if ok then s.setLens k { state := old, run := some (new, e % 128, f, max 1 (bitsOf h 6 0), b), queued := none, ending := end_ }
  else ((s.setLens k { state := old, run := some (new, 128, f, 1, b), queued := none, ending := end_ }).add (Reg.pnlLnsStatCnt 3) 1).raise 0xB2000 0

/-- A settled region in state `st` takes target `tg` (R318). -/
def State.lensSettled (s : State) (k st tg f : Nat) (end_ : Option (Nat × Nat × Nat × Nat × Nat)) : State :=
  if tg = st then s.setLens k { state := st, run := none, queued := none, ending := end_ } else s.lensStart k st tg f end_

/-- One region at the latch before frame `f` (R318). -/
def State.lensRegion (s : State) (f k : Nat) : State :=
  let g := Sparse.get lensDefault s.pnl.lens k
  let tg := s.lensTarget k
  match g.run with
  | none => s.lensSettled k g.state tg f none
  | some (w, i, first, len, b) =>
    let end_ := some (w, i, first, len, b)
    if f < first + len then
      if tg = w then (s.setLens k { g with ending := none }).add (Reg.pnlLnsStatCnt 2) 1
      else (s.setLens k { g with queued := some tg, ending := none }).add (Reg.pnlLnsStatCnt 1) 1
    else match g.queued with
      | some q => if q = w then s.lensSettled k w tg f end_ else s.lensStart k w q f end_
      | none => s.lensSettled k w tg f end_

/-- Every region reaches PARK (R327). -/
def State.parked (s : State) (before : Bool) : State :=
  if before && s.pnl.lens.isEmpty then s.raise 0xB2000 1 else s

/-- The lens layer at the latch before frame `f`; regions outside the grid are in PARK. -/
def State.lensLatch (s : State) (f : Nat) : State :=
  if !s.domOn 22 then s
  else if s.lensBlocked then { s with pnl := { s.pnl with lensHold := true, lensBand := s.band } }
  else
    let was := !s.pnl.lens.isEmpty
    let keep := fun (e : Nat × LensReg) => decide (e.1 % 64 < s.lensCols ∧ e.1 / 64 < s.lensRows)
    let lens := if s.pnl.lensHold then [] else s.pnl.lens.filter keep
    let s := { s with pnl := { s.pnl with lensHold := false, lensBand := s.band, zeroRows := [], lens := lens } }
    let s := (List.range s.lensRows).foldl (fun s y => (List.range s.lensCols).foldl (fun s x => s.lensRegion f (64 * y + x)) s) s
    s.parked was

/-- Whether the current line is the first line of a lens row of some region. -/
def State.lensRowStart (s : State) : Bool :=
  (List.range s.lensRows).any (fun y => s.lensRowLine y % max 1 s.ras.timing.vactive == s.ras.line)

/-- The regions of a row that starts now reach PARK: the row was sent at zero field, or the link drives no panel (R319). -/
def State.rowParks (s : State) (y : Nat) : Bool :=
  s.lensRowLine y % max 1 s.ras.timing.vactive == s.ras.line && (s.pnl.zeroRows.contains y || !s.linkSends)

/-- LENS_ZERO_FIELD (R319): the rows that start now and whose drive has been cut. -/
def State.lensZero (s : State) : State :=
  if s.pnl.lensHold && !s.pnl.lens.isEmpty && s.lensRowStart then
    { s with pnl := { s.pnl with lens := s.pnl.lens.filter (fun e => !s.rowParks (e.1 / 64)) } }.parked true
  else s

/-- The drive of every region is cut from the next row start (R319). -/
def State.lensCut (s : State) : State := { s with pnl := { s.pnl with lensHold := true } }

/-- The classes of the lens regions for frame `f`: 0 LENS, 1 WIDE, 2 VIEW_INVARIANT (R175, R318). -/
def State.lensClasses (s : State) (f : Nat) : List Nat :=
  (List.range s.lensRows).flatMap (fun y => (List.range s.lensCols).map (fun x =>
    if s.pnl.lensHold then 2
    else
      let g := Sparse.get lensDefault s.pnl.lens (64 * y + x)
      let st := match g.run with
        | none => g.state
        | some (w, _, first, len, _) => if f < first + len then 3 else w
      if st = 1 then 0 else if st = 2 then 1 else 2))

/-- The first frame of a waveform when frame `a` is called `b`. -/
def runRetag (a b : Nat) (r : Nat × Nat × Nat × Nat × Nat) : Nat × Nat × Nat × Nat × Nat := (r.1, r.2.1, r.2.2.1 + b - a, r.2.2.2)

/-- The frame names in running waveforms move with a relabel (R85). -/
def State.lensRetag (s : State) (a b : Nat) : State :=
  { s with pnl := { s.pnl with lens := s.pnl.lens.map (fun (e : Nat × LensReg) =>
      (e.1, { e.2 with run := e.2.run.map (runRetag a b), ending := e.2.ending.map (runRetag a b) })) } }

/-! ### Rails, power and discharge (R320-R323) -/

/-- Marigold's PMBus master sends: it is enabled, and Marigold runs and does not restart (R443, R448). -/
def State.pmbusOn (s : State) : Bool := s.flag Reg.pwrPmbCfg 0 && s.mgt.running && !s.mgt.restarting

/-- CRC-8 with polynomial 0x07, the packet error code of PMBus (R448; log entry 34). -/
def crc8 (bs : List Nat) : Nat :=
  bs.foldl (fun c b => (List.range 8).foldl (fun c _ => if 0x80 ≤ c then Nat.xor (c * 2 % 256) 0x07 else c * 2) (Nat.xor c (b % 256))) 0

/-- The bytes of a write to address `a`, with its packet error code where PEC is 1 (R448). -/
def State.pmbWrite (s : State) (a : Nat) (bytes : List Nat) : List Nat :=
  if s.flag Reg.pwrPmbCfg 1 then bytes ++ [crc8 (2 * a :: bytes)] else bytes

/-- A transaction that failed `fails` times is tried again, twice at most; each failure counts (R448; log entry 34). -/
def State.pmbRetry (s : State) (a : Nat) (bytes : List Nat) (fails : Nat) : State :=
  (List.range (min fails 2)).foldl (fun s _ => s.emit (.pmbus a bytes)) (s.add (Reg.pwrStat 3) (min fails 3))

/-- A transaction and the tries that follow it. -/
def State.pmbSend (s : State) (a : Nat) (bytes : List Nat) (fails : Nat) : State := (s.emit (.pmbus a bytes)).pmbRetry a bytes fails

/-- Whether one of the three tries has been answered (R448). -/
def pmbAnswered (r : PmbRead) : Bool := decide (r.fails < 3)

/-- Whether a STATUS_WORD says power good without a fault (PMBus 1.3; log entry 34). -/
def statusGood (w : Nat) : Bool := !bitOf w 11 && decide (Nat.land w 0xF63E = 0)

/-- The OPERATION command that switches on or off (R448). -/
def operation (on : Bool) : List Nat := [0x01, if on then 0x80 else 0x00]

/-- Switch rail `n` (R320). -/
def State.railSwitch (s : State) (n : Nat) (on : Bool) : State :=
  let a := s.fld (Reg.pnlRail n) 6 0
  let s := s.emit (.rail n on)
  if a = 0 ∨ !s.pmbusOn then s else s.emit (.pmbus a (s.pmbWrite a (operation on)))

/-- The PMBus side of rail `n` once its delay has passed: further tries of OPERATION, and with PG_CHECK 1 STATUS_WORD. A transaction
that fails three times makes the regulator count as faulted (R448). True where the check of R321 passes. -/
def State.railAnswer (s : State) (n sent : Nat) (status : PmbRead) : Bool × State :=
  let a := s.fld (Reg.pnlRail n) 6 0
  let check := s.flag (Reg.pnlRail n) 8
  if a = 0 ∨ !s.pmbusOn then (!check || (pmbAnswered status && statusGood status.word), s)
  else
    let s1 := s.pmbRetry a (s.pmbWrite a (operation true)) sent
    let s1 := if check then s1.pmbSend a [0x79] status.fails else s1
    let dead := decide (3 ≤ sent) || (check && !pmbAnswered status)
    (!check || (pmbAnswered status && statusGood status.word), if dead then s1.raise 0x190000 4 else s1)

/-- Switch off rails n-1 down to 0. -/
def State.railsOff : Nat → State → State
  | 0, s => s
  | n + 1, s => State.railsOff n (s.railSwitch n false)

/-- Start or stop the lanes: each sends IDLE blocks from the start on (R301). -/
def State.linkRun (s : State) (on : Bool) : State :=
  if on = s.pnl.running then s
  else if on then
    { s with pnl := { s.pnl with running := true, linkStart := s.now, slots := List.replicate 52 0 } }.sendIdle 1
  else
    let s := s.sendIdle ((s.now - s.pnl.linkStart) / blockTime)
    { s with pnl := { s.pnl with running := false } }

/-- UP (R321). -/
def State.panelUp (s : State) : State :=
  let s := s.linkRun true
  let p := s.pnl
  let s := { s with pnl := { p with lensOff := p.lensSkip, lensSkip := false, rail := 1,
                                    railAt := s.now, frames := 0, cracks := List.replicate 4 { Crack.reset with live := true } } }
  let s := (s.setPanel 1).setFlag Reg.pnlPwrState 16 false
  (s.wr Reg.pnlCrackStat 0).railSwitch 0 true

/-- PANEL_RAIL_ON: the delay of the rail switched on last has passed (R321). -/
def State.panelRailOn (s : State) (sent : Nat) (status : PmbRead) : State :=
  let n := s.pnl.rail - 1
  if s.panel = 1 ∧ s.pnl.railAt + s.fld (Reg.pnlRail n) 23 16 * ms ≤ s.now then
    let r := s.railAnswer n sent status
    let s := r.2
    if !r.1 then
      let s := State.railsOff s.pnl.rail s
      let s := ((s.setPanel 0).setFlag Reg.pnlPwrState 16 true).setFld Reg.pnlPwrState 10 8 n
      let s := { s with pnl := { s.pnl with rail := 0 } }
      (s.errEntry 0 Reg.pnlPwrCtrl 0xB06 0).raise 0xB4000 0
    else if s.pnl.rail < 6 then
      { s with pnl := { s.pnl with rail := s.pnl.rail + 1, railAt := s.now } }.railSwitch (n + 1) true
    else ({ s with pnl := { s.pnl with frames := 0 } }).setPanel 2
  else s

/-- PANEL_CLEARING_END: two whole frames of DISCHARGE have been sent (R321); the backlight stays off for the first normal frame (R518). -/
def State.panelOn (s : State) : State :=
  if s.panel = 2 ∧ 3 ≤ s.pnl.frames then
    { s with pnl := { s.pnl with doneDue := true, fadeDue := true } }.setPanel 3
  else s

/-- DOWN (R322). -/
def State.panelDown (s : State) : State :=
  let s := s.hostRecord
  ({ s with pnl := { s.pnl with frames := 0, lensHold := true, fadeDue := false } }.setPanel 4).bklHold true

/-- PANEL_RAIL_OFF (R322). -/
def State.panelRailOff (s : State) : State :=
  let n := s.pnl.rail
  let due := if n = 6 then decide (3 ≤ s.pnl.frames) else decide (s.pnl.railAt + s.fld (Reg.pnlRail n) 31 24 * ms ≤ s.now)
  if s.panel = 4 ∧ 0 < n ∧ due then
    let s := { s with pnl := { s.pnl with rail := n - 1, railAt := s.now } }.railSwitch (n - 1) false
    if n = 1 then { s with pnl := { s.pnl with doneDue := true } }.setPanel 0 else s
  else s

/-- PNL_POWER_DONE (R329). -/
def State.panelDone (s : State) : State :=
  if s.pnl.doneDue then { s with pnl := { s.pnl with doneDue := false } }.raise 0xB4000 3 else s

/-- A discharge is triggered (R323); without effect while OFF or discharging. A transition is abandoned. -/
def State.discharge (s : State) : State :=
  if s.panel = 0 ∨ s.panel = 5 then s
  else
    let s := if s.panel = 3 then s.hostRecord else s
    let s := { s with pnl := { s.pnl with disch := some s.now, dischRails := false, dischEn := true, fadeDue := false, doneDue := false, lensOff := true, lensHold := true },
                      ras := { s.ras with step := 0, stepEnd := none, transDue := none, newTiming := none, skipFade := false } }
    ((((s.setPanel 5).emit (.dischEn true)).bklHold true).raise 0xB4000 2)

/-- DISCHARGE_HOLD_EXPIRE: rails LED to AVDD are switched off, 0.5 ms apart (R323). -/
def State.dischExpire (s : State) : State :=
  match s.pnl.disch with
  | some t =>
    if s.panel = 5 ∧ !s.pnl.dischRails ∧ t + s.fld Reg.pnlDischCfg 4 0 * ms ≤ s.now then
      State.railsOff 6 { s with pnl := { s.pnl with dischRails := true, rail := 0 } }
    else s
  | none => s

/-- DISCHARGE_END (R323). -/
def State.dischEnd (s : State) : State :=
  match s.pnl.disch with
  | some t =>
    if s.panel = 5 ∧ s.pnl.dischRails ∧ t + (s.fld Reg.pnlDischCfg 4 0 + 3) * ms ≤ s.now then
      let s := s.linkRun false
      (({ s with pnl := { s.pnl with disch := none, dischEn := false } }).setPanel 0).emit (.dischEn false)
    else s
  | none => s

/-! ### Crack loops (R324) -/

/-- What a broken loop does (R324). -/
def State.crackPolicy (s : State) (j : Nat) : State :=
  let p := s.fld (Reg.pnlCrackCfg j) 25 24
  if p = 2 then s.discharge
  else if p = 1 then
    let off := s.panel = 0
    let s := { s with pnl := { s.pnl with lensOff := true, lensHold := true, lensSkip := s.pnl.lensSkip || off } }
    if off then s else s.railSwitch 4 false
  else s

/-- One round of loop `j` with reading `v` in 10 ohms; the baseline is the mean of the first 16 rounds after UP (R324). -/
def State.crackRound (s : State) (j v : Nat) : State :=
  let v := min v 65535
  let c := s.pnl.cracks.getD j Crack.reset
  let known := c.count = 16
  let base := c.sum / 16
  let high := decide (s.fld (Reg.pnlCrackCfg j) 15 0 < v) || (known && decide (base * (100 + s.fld (Reg.pnlCrackCfg j) 23 16) < v * 100))
  let c1 := { c with sum := if known || !c.live then c.sum else c.sum + v, count := if known || !c.live then c.count else c.count + 1,
                     overRounds := if high then c.overRounds + 1 else 0 }
  let hit := !c.broken && decide (3 ≤ c1.overRounds)
  let c1 := { c1 with broken := c.broken || hit }
  let s := { s with pnl := { s.pnl with cracks := s.pnl.cracks.set j c1 } }
  let s := s.wr (Reg.pnlCrackOhm j) (v + (if c1.count = 16 then c1.sum / 16 % 65536 else 0) * 65536)
  if hit then (((s.setFlag Reg.pnlCrackStat j true).raise 0xB4000 1).logIt 0xB00 (evt 4 1) 0 []).crackPolicy j else s

/-! ### Registers of the PNL pages (R325-R330) -/

/-- Whether a region runs waveform `w`; the one that ends with the current frame runs to that frame's end (R317, R328). -/
def State.wfInUse (s : State) (w : Nat) : Bool :=
  s.pnl.lens.any (fun e => e.2.run.any (fun r => r.2.1 == w) ||
    e.2.ending.any (fun r => r.2.1 == w && decide (s.ras.frame < r.2.2.1 + r.2.2.2.1)))

/-- Targets that a REG_WRITE may name (R311). -/
def targetOk (t : Nat) : Bool := decide (t ≤ 0x10 ∧ t ≠ 0xC ∧ t ≠ 0xD ∧ t ≠ 0xE ∧ t ≠ 0xF) || decide (0x20 ≤ t ∧ t ≤ 0x2F) || t == 0xFF

/-- Checks of a write to a PNL page. -/
def State.pnlCheck (s : State) (page off data : Nat) : List Nat :=
  if page = 0 then
    if off = 0x40 then codeIf (s.flag Reg.pnlLinkCtrl 0 && !bitOf data 0 && s.panel != 0) 6 else []
  else if page = 1 then
    if off = 0x54 ∧ bitOf data 31 then
      codeIf s.pnl.odLoad.isSome 9 ++ codeIf (s.bankBusy 0xB1000 s.pnl.force Reg.pnlLcdCtrl 5 (bitsOf data 0 0)) 6 ++
      codeIf (!s.dramOk (s.addr64 Reg.pnlOdLoadLo Reg.pnlOdLoadHi) 4628) 0xB
    else if off = 0x5C then codeIf (!targetOk (bitsOf data 23 16)) 1
    else if off = 0x64 ∧ bitOf data 0 then
      codeIf (s.fld Reg.pnlRwAddr 27 24 == 0) 2 ++ codeIf (decide (64 ≤ s.pnl.queue.length)) 7
    else []
  else if page = 2 then
    if 0x1E0 ≤ off ∧ off < 0x200 then codeIf (data != 0) 1 else []
  else if page = 3 then
    if 0x44 ≤ off then codeIf (s.wfInUse (s.fld Reg.pnlWfSel 6 0)) 0xB05 else []
  else if off = 0x40 then
    let u := bitOf data 0
    let d := bitOf data 1
    let x := bitOf data 2
    codeIf ((u && s.panel != 0) || (d && s.panel != 3) || (x && (s.panel == 0 || s.panel == 5))) 0xF ++
    codeIf (decide (1 < [u, d, x].countP id) || (u && s.panel == 0 && !s.flag Reg.pnlLinkCtrl 0)) 6
  else []

/-- Effects of an accepted write to a PNL page. -/
def State.pnlEffect (s : State) (page off data : Nat) : State :=
  if page = 0 then (if off = 0x40 then s.linkRun (bitOf data 0) else s)
  else if page = 1 then
    if off = 0x54 ∧ bitOf data 31 then
      let b := bitsOf data 0 0
      let bytes := s.dramRead (s.addr64 Reg.pnlOdLoadLo Reg.pnlOdLoadHi) 4628
      { s with pnl := { s.pnl with odLoad := some (b, bytes), odBanks := s.pnl.odBanks.set b none } }
    else if off = 0x64 ∧ bitOf data 0 then
      let w := s.rd Reg.pnlRwAddr
      { s with pnl := { s.pnl with queue := s.pnl.queue ++
          [{ regions := bitsOf w 27 24, target := bitsOf w 23 16, addr := bitsOf w 15 0, data := s.rd Reg.pnlRwData }] } }
    else s
  else if page = 3 then
    if 0x44 ≤ off then
      let k := s.fld Reg.pnlWfSel 6 0 * 65 + (if off = 0x44 then 0 else 1 + (off - 0x100) / 4)
      { s with pnl := { s.pnl with wf := Sparse.set (fun _ => 0) s.pnl.wf k (BitVec.ofNat 32 data) } }.wr (0xB3000 + off) 0
    else s
  else if page = 4 ∧ off = 0x40 then
    if bitOf data 0 then s.panelUp else if bitOf data 1 then s.panelDown else if bitOf data 2 then s.discharge else s
  else s

/-- Computed words of the PNL pages. -/
def State.pnlRead (s : State) (page off : Nat) : Option Nat :=
  let b := fun (x : Bool) (i : Nat) => if x then 2 ^ i else 0
  if page = 0 then
    if off = 0x48 then some (b s.pnl.running 0 + b (s.linkSends && s.dischFlags.isSome) 1 + b s.pnl.fpol 2 + (if s.pnl.running then s.groups * 16 else 0)) else none
  else if page = 1 then
    if off = 0x58 then
      some (putBits (s.rd Reg.pnlOdStat) 6 0 (b (s.pnl.odBanks.getD 0 none).isSome 0 + b (s.pnl.odBanks.getD 1 none).isSome 1 +
        b s.pnl.odLoad.isSome 2 + s.pnl.odBand * 16))
    else if off = 0x64 then some ((64 - s.pnl.queue.length) * 256) else none
  else if page = 2 then
    if off = 0x48 then
      some (s.pnl.lens.countP (fun e => e.2.run.isSome) + s.pnl.lens.countP (fun e => e.2.queued.isSome) * 65536 + s.pnl.lensBand * 2 ^ 28)
    else if 0x600 ≤ off ∧ off < 0x800 then
      some (((List.range 16).map (fun i => (Sparse.get lensDefault s.pnl.lens (16 * ((off - 0x600) / 4) + i)).state * 4 ^ i)).sum)
    else if 0x800 ≤ off ∧ off < 0x900 then
      some (((List.range 32).map (fun i => b (Sparse.get lensDefault s.pnl.lens (32 * ((off - 0x800) / 4) + i)).run.isSome i)).sum)
    else none
  else if page = 3 then
    if off = 0x44 then some (s.wfWord (s.fld Reg.pnlWfSel 6 0) 0)
    else if 0x100 ≤ off ∧ off < 0x200 then some (s.wfWord (s.fld Reg.pnlWfSel 6 0) (1 + (off - 0x100) / 4)) else none
  else none

/-- The failing checks of a commit of the link page (R304, R325). -/
def State.linkCommitCodes (s : State) : List (Nat × Nat × Nat) :=
  let n := bitsOf (s.rdShadow Reg.pnlLinkCfg) 13 0
  (if 12 < ceilDiv (3 * s.nextT.hactive) (max 1 n) then [(6, 0xB0000, 0x44)] else []) ++
  (if linkOver s.nextT n (depthOf (s.rd Reg.brcCtrl)) then [(0xB01, 0xB0000, 0x44)] else [])

/-- The failing checks of a commit of the LCD page (R309, R326, R330). -/
def State.lcdCommitCodes (s : State) : List (Nat × Nat × Nat) :=
  let c := s.rdShadow Reg.pnlLcdCtrl
  let g := s.rdShadow Reg.pnlGateCfg
  let k := s.rdShadow Reg.pnlGateCols
  (if bitOf c 4 ∧ (s.pnl.odBanks.getD (bitsOf c 5 5) none).isNone then [(0xB02, 0xB1000, 0x40)] else []) ++
  (if bitsOf g 3 0 ≤ bitsOf g 6 4 then [(6, 0xB1000, 0x44)] else []) ++
  (if bitsOf k 31 16 ≤ bitsOf k 15 0 ∨ s.nextT.htotal ≤ bitsOf k 31 16 then [(6, 0xB1000, 0x48)] else [])

/-- The failing checks of a group commit on the panel: lens grid, link capacity, FALL_COL (R304, R314, R326). -/
def State.pnlGroupCodes (s : State) (new : Timing) : List (Nat × Nat × Nat) :=
  (if bitsOf (s.rdShadow Reg.pnlLnsGrid) 21 16 % new.regionCount ≠ 0 then [(0xB04, 0xB2000, 0x44)] else []) ++
  (if linkOver new (s.fld Reg.pnlLinkCfg 13 0) (depthOf (s.rd Reg.brcCtrl)) then [(0xB01, 0x10000, 0x48)] else []) ++
  (if new.htotal ≤ s.fld Reg.pnlGateCols 31 16 then [(6, 0xB1000, 0x48)] else [])

/-- First light: at line 0 of the second normal frame after UP the chains are let go and the fade-in starts; in a mode transition it
is the transition's own fade-in that follows (R344, R518). -/
def State.firstLight (s : State) : State :=
  if s.pnl.fadeDue then
    let s := { s with pnl := { s.pnl with fadeDue := false } }.bklHold false
    if s.ras.step = 0 then s.transFadeIn else s
  else s

/-- The panel at a line-0 start: registers in force, the band of the overdrive tables (R213, R313). -/
def State.pnlFrame (s : State) : State :=
  let force := s.regs.filter (fun e => inPage 0xB0000 e.1 || inPage 0xB1000 e.1)
  { s with pnl := { s.pnl with force := force, odBand := s.band,
                               repeated := false, frames := if s.panel = 2 ∨ s.panel = 4 then s.pnl.frames + 1 else s.pnl.frames } }.firstLight

end Sys2Proof.Machine
end

