-- ==== Sys2Proof/Machine/Blitter.lean ====
section
/-! DEFINITION. The blitter (R283-R297): descriptors and their checks, effective rectangles, copy order, bursts, completion,
and the registers of the BLT page. -/

namespace Sys2Proof.Machine

/-! ### Descriptors (R291) -/

/-- Bits of a word of a descriptor. -/
def BltCur.f (d : BltCur) (w hi lo : Nat) : Nat := bitsOf (d.words.getD w 0) hi lo
def BltCur.op (d : BltCur) : Nat := d.f 0 3 0
/-- PSIZE in bytes (R283). -/
def BltCur.p (d : BltCur) : Nat := ([1, 2, 4, 5]).getD (d.f 0 5 4) 1
def BltCur.w64 (d : BltCur) (w : Nat) : Nat := d.words.getD w 0 + d.words.getD (w + 1) 0 * 2 ^ 32
/-- Whether the operation has a source. -/
def BltCur.hasSrc (d : BltCur) : Bool := d.op == 0 || d.op == 2
/-- A pair of 15-bit fields of one word. -/
def BltCur.xy (d : BltCur) (w : Nat) : Nat × Nat := (d.f w 14 0, d.f w 30 16)

/-- The effective rectangle: first column and row, and the columns and rows behind the last (R284). -/
def BltCur.rect (d : BltCur) : Nat × Nat × Nat × Nat :=
  let at_ := d.xy 6
  let sz := d.xy 7
  let sw := d.xy 5
  let lo := if d.f 0 11 11 = 1 then d.xy 13 else (0, 0)
  let hi := if d.f 0 11 11 = 1 then d.xy 14 else (32768, 32768)
  (max at_.1 lo.1, max at_.2 lo.2, min (min (at_.1 + sz.1) sw.1) hi.1, min (min (at_.2 + sz.2) sw.2) hi.2)

/-- Columns and rows of the effective rectangle. -/
def BltCur.size (d : BltCur) : Nat × Nat := let r := d.rect; (r.2.2.1 - r.1, r.2.2.2 - r.2.1)
def BltCur.isEmpty (d : BltCur) : Bool := d.size.1 == 0 || d.size.2 == 0
/-- The source position of the effective rectangle's first pixel (R284). -/
def BltCur.src (d : BltCur) : Nat × Nat := let r := d.rect; (d.f 12 14 0 + r.1 - d.f 6 14 0, d.f 12 30 16 + r.2.1 - d.f 6 30 16)

/-- Byte spans of row `i` of the effective rectangle: destination, and source (R288). -/
def BltCur.dstSpan (d : BltCur) (i : Nat) : Nat × Nat :=
  let r := d.rect
  let a := d.w64 2 + (r.2.1 + i) * d.f 4 23 0 + r.1 * d.p
  (a, a + d.size.1 * d.p)
def BltCur.srcSpan (d : BltCur) (i : Nat) : Nat × Nat :=
  let q := d.src
  let row := d.w64 8 + (q.2 + i) * d.f 10 23 0
  if d.op = 2 then (row + q.1 / 8, row + (q.1 + d.size.1 + 7) / 8) else (row + q.1 * d.p, row + (q.1 + d.size.1) * d.p)

/-- Bits that R291 requires to be 0, word by word. -/
def bltMask (w : Nat) : Nat :=
  if w = 0 then 0x1F3F else if w = 1 then 0xFFFF0001 else if w = 4 ∨ w = 10 then 0xFFFFFF
  else if (5 ≤ w ∧ w ≤ 7) ∨ (11 ≤ w ∧ w ≤ 14) then 0x7FFF7FFF else if w = 16 ∨ w = 18 then 0xFF else if w ≤ 21 then 0xFFFFFFFF else 0

/-- The window (R285), which a descriptor takes when it is reached (R296). -/
def State.bltWindow (s : State) : Nat × Nat := (s.addr64 Reg.bltWinBaseLo Reg.bltWinBaseHi, s.addr64 Reg.bltWinLimitLo Reg.bltWinLimitHi)
def BltCur.inWindow (d : BltCur) (a b : Nat) : Bool := decide (d.win.1 ≤ a ∧ b ≤ d.win.2)

/-- Whether two spans meet. -/
def spansMeet (a b : Nat × Nat) : Bool := decide (a.1 < b.2 ∧ b.1 < a.2)

/-- Whether byte spans of the effective source and destination rows intersect (R288). -/
def BltCur.meets (d : BltCur) : Bool :=
  d.hasSrc && !d.isEmpty && (List.range d.size.2).any (fun i => (List.range d.size.2).any (fun j => spansMeet (d.srcSpan i) (d.dstSpan j)))

/-- The first failing check of R292; 0 where none fails. -/
def BltCur.check (d : BltCur) : Nat :=
  let src := d.hasSrc
  let p := d.p
  let zero := [d.f 4 23 0, (d.xy 5).1, (d.xy 5).2, (d.xy 7).1, (d.xy 7).2].contains 0 ||
    (src && [d.f 10 23 0, (d.xy 11).1, (d.xy 11).2].contains 0)
  let big := fun (w lim : Nat) => decide (lim < (d.xy w).1 ∨ lim < (d.xy w).2)
  let range := decide (2 < d.op) || big 5 16384 || big 6 16383 || big 7 16384 || (src && (big 11 16384 || big 12 16383)) ||
    (decide (1 ≤ d.op) && decide (256 ^ p ≤ d.w64 15)) || (d.op == 2 && d.f 0 10 10 == 0 && decide (256 ^ p ≤ d.w64 17))
  let compl := d.w64 19
  let n := d.size.2
  let outside := (!d.isEmpty && (!d.inWindow (d.dstSpan 0).1 (d.dstSpan (n - 1)).2 ||
      (src && !d.inWindow (d.srcSpan 0).1 (d.srcSpan (n - 1)).2))) ||
    (d.f 0 12 12 == 1 && !d.inWindow compl (compl + 4)) || decide (d.win.2 ≤ d.win.1)
  let srcOut := src && !d.isEmpty && decide ((d.xy 11).1 < d.src.1 + d.size.1 ∨ (d.xy 11).2 < d.src.2 + n)
  let stride := decide (d.f 4 23 0 < (d.xy 5).1 * p) || (d.op == 0 && decide (d.f 10 23 0 < (d.xy 11).1 * p)) ||
    (d.op == 2 && decide (d.f 10 23 0 < ceilDiv (d.xy 11).1 8))
  if (List.range 32).any (fun w => d.words.getD w 0 != Nat.land (d.words.getD w 0) (bltMask w)) then 3
  else if zero then 2
  else if range then 1
  else if d.f 0 12 12 = 1 ∧ compl % 4 ≠ 0 then 0xA
  else if d.f 0 11 11 = 1 ∧ ((d.xy 14).1 ≤ (d.xy 13).1 ∨ (d.xy 14).2 ≤ (d.xy 13).2) then 6
  else if outside then 0xB
  else if srcOut then 0xA01
  else if stride then 0xA02
  else if d.meets && (d.op == 2 || d.w64 2 != d.w64 8 || d.f 4 23 0 != d.f 10 23 0) then 0xA03
  else 0

/-! ### Pixels (R286-R289) -/

/-- Column and row, within the effective rectangle, of pixel number `i` in the order of R288. -/
def BltCur.order (d : BltCur) (i : Nat) : Nat × Nat :=
  let w := max 1 d.size.1
  let r := d.rect
  let q := d.src
  let y := i / w
  let x := i % w
  if d.op = 0 ∧ d.meets then (if q.1 < r.1 then d.size.1 - 1 - x else x, if q.2 < r.2.1 then d.size.2 - 1 - y else y)
  else (x, y)

/-- Whether a GLYPH reads a bitmap byte for column `x` of a row: a byte is read where the row enters it. -/
def BltCur.glyphRead (d : BltCur) (x : Nat) : Nat := if x = 0 ∨ (d.src.1 + x) % 8 = 0 then 1 else 0

/-- The colour of a GLYPH pixel, `some none` where it is left as it is; none for a poisoned read (R286). -/
def State.glyphColour (s : State) (d : BltCur) (x y : Nat) : Option (Option (List Byte)) :=
  let q := d.src
  let col := q.1 + x
  (s.dramRead (d.w64 8 + (q.2 + y) * d.f 10 23 0 + col / 8) 1).map (fun b =>
    if (b.getD 0 0).getLsbD (7 - col % 8) then some (leBytes d.p (d.w64 15))
    else if d.f 0 10 10 = 1 then none else some (leBytes d.p (d.w64 17)))

/-- DRAM traffic of pixel number `i` in bytes, reads and writes together (R289; log entry 26): a COPY reads what it writes, a GLYPH
reads its bitmap. -/
def State.bltCost (s : State) (d : BltCur) (i : Nat) : Nat :=
  let q := d.order i
  if d.op = 0 then 2 * d.p
  else if d.op = 1 then d.p
  else d.glyphRead q.1 + (match s.glyphColour d q.1 q.2 with | some none => 0 | _ => d.p)

/-- Where traffic of `n` bytes from byte `o` of pixel `i` on ends. -/
def State.bltAdvance (s : State) (d : BltCur) : Nat → Nat → Nat → Nat → Nat × Nat
  | 0, i, o, _ => (i, o)
  | k + 1, i, o, n =>
    let c := s.bltCost d i - o
    if c ≤ n then s.bltAdvance d k (i + 1) 0 (n - c) else (i, o + n)

/-- What bytes `a` to `b` of the traffic of pixel number `i` write: the address and the bytes; none for a poisoned read (R286). -/
def State.bltPart (s : State) (d : BltCur) (i a b : Nat) : Option (Nat × List Byte) :=
  let q := d.order i
  let to_ := (d.dstSpan q.2).1 + q.1 * d.p
  if d.op = 0 then (s.dramRead ((d.srcSpan q.2).1 + q.1 * d.p + a / 2) (b / 2 - a / 2)).map (fun bs => (to_ + a / 2, bs))
  else if d.op = 1 then some (to_ + a, slice (leBytes d.p (d.w64 15)) a (b - a))
  else
    let r := d.glyphRead q.1
    (s.glyphColour d q.1 q.2).map (fun c => (to_ + (a - r), slice (c.getD []) (a - r) ((b - r) - (a - r))))

/-- The writes of a burst: bytes that stand side by side make one request (R289, R406; log entry 26). -/
def joinRuns : List (Nat × List Byte) → List (Nat × List Byte)
  | [] => []
  | (a, bs) :: rest => match joinRuns rest with
    | (b, cs) :: r => if a + bs.length = b then (a, bs ++ cs) :: r else if b + cs.length = a then (b, cs ++ bs) :: r else (a, bs) :: (b, cs) :: r
    | [] => [(a, bs)]

/-- One burst of BURST bytes of traffic: every read comes before the writes; a poisoned read ends the descriptor (R289, R290, R293). -/
def State.bltBurstRun (s : State) (d : BltCur) : State × BltCur :=
  let total := d.size.1 * d.size.2
  let e := s.bltAdvance d (total - d.px) d.px d.off (1024 * 2 ^ s.fld Reg.bltPace 17 16)
  let parts := (List.range (e.1 - d.px + (if e.2 = 0 then 0 else 1))).map (fun j =>
    (d.px + j, if j = 0 then d.off else 0, if d.px + j = e.1 then e.2 else s.bltCost d (d.px + j)))
  let out := parts.map (fun x => s.bltPart d x.1 x.2.1 x.2.2)
  if out.any (fun x => x.isNone) then (s, { d with code := 0xA04, fin := true })
  else
    let s := (joinRuns (out.filterMap (fun x => x.filter (fun w => w.2 != [])))).foldl (fun s w => s.dramWrite w.1 w.2) s
    let s := s.add64 (Reg.bltStat 4) (Reg.bltStat 5) (parts.map (fun x => x.2.2 - x.2.1)).sum
    (s, { d with px := e.1, off := e.2, fin := decide (total ≤ e.1) })

/-- Up to `k` bursts. -/
def State.bltBursts : Nat → State → BltCur → State × BltCur
  | 0, s, d => (s, d)
  | k + 1, s, d => if d.fin then (s, d) else let x := s.bltBurstRun d; State.bltBursts k x.1 x.2

/-! ### The ring (R291-R294) -/

/-- Address of the descriptor at HEAD. -/
def State.bltDesc (s : State) : Nat := s.addr64 Reg.bltRingLo Reg.bltRingHi + 128 * s.fld Reg.bltRingHead 11 0

/-- HEAD behind the descriptor at HEAD. -/
def State.bltNext (s : State) : Nat := (s.fld Reg.bltRingHead 11 0 + 1) % max 1 (s.fld Reg.bltRingSize 12 0)

/-- Whether the ring has a descriptor to take. -/
def State.bltReady (s : State) : Bool :=
  s.domOn 19 && s.flag Reg.bltCtrl 0 && s.blt.cur.isNone && s.fld Reg.bltRingHead 11 0 != s.fld Reg.bltRingTail 11 0

/-- The descriptor at HEAD as read; a poisoned read gives the outcome 0x0A04. -/
def State.bltRead1 (s : State) : BltCur :=
  let d : BltCur := { words := [], held := false, checked := true, code := 0xA04, empty := false, px := 0, off := 0, win := s.bltWindow,
                      desc := s.bltDesc, next := s.bltNext, fin := true }
  match s.dramRead s.bltDesc 128 with
  | some bs => { d with words := (List.range 32).map (fun w => leNat (slice bs (4 * w) 4)), checked := false, code := 0, fin := false }
  | none => d

/-- Which operation command runs a descriptor: the one of its OP; COPY also takes those that name none (log entry 26). -/
def BltCur.runBy (d : BltCur) (op : Nat) : Bool := if op = 0 then d.op == 0 || decide (2 < d.op) else d.op == op

/-- COPY, FILL and GLYPH: the descriptor of that operation is taken or goes on, for at most `k` bursts (R286-R293). -/
def State.bltRun (s : State) (op k : Nat) : State :=
  let go := fun (s : State) (d : BltCur) =>
    let d1 := if d.checked then d else
      let c := d.check
      { d with checked := true, code := c, empty := c = 0 && d.isEmpty, fin := c ≠ 0 || d.isEmpty }
    let x := State.bltBursts k s d1
    { x.1 with blt := { cur := some x.2 } }.setFld Reg.bltStatus 1 0 1
  if !s.domOn 19 then s
  else match s.blt.cur with
    | some d => if d.held || d.fin || !d.runBy op then s else go s d
    | none =>
      let d := s.bltRead1
      if s.bltReady && d.f 0 8 8 == 0 && d.runBy op then go s d else s

/-- BLT_HELD (R294). -/
def State.bltHold (s : State) : State :=
  let d := s.bltRead1
  if s.bltReady && d.f 0 8 8 == 1 then
    ({ s with blt := { cur := some { d with held := true } } }.setFld Reg.bltStatus 1 0 2).raise 0xA0000 2
  else s

/-- BLT_DONE: STATUS, completion word, HEAD, events (R293, R297), at the place in the ring that the descriptor was taken from. A
completion word that fails the checks of its own address is not written (log entry 26). -/
def State.bltDone (s : State) : State :=
  match s.blt.cur with
  | some d =>
    if d.fin && s.domOn 19 then
      let s := s.dramWrite (d.desc + 4) (leBytes 4 ((if d.empty then 1 else 0) + d.code * 65536))
      let a := d.w64 19
      let s := if d.f 0 12 12 = 1 ∧ a % 4 = 0 ∧ d.inWindow a (a + 4) then s.dramWrite a (leBytes 4 (d.words.getD 21 0)) else s
      let s := (s.add (Reg.bltStat 0) 1).add (Reg.bltStat 1) (if d.code = 0 then 0 else 1)
      let s := s.add (Reg.bltStat 2) (if d.empty then 1 else 0)
      let s := ({ s with blt := { cur := none } }.wr Reg.bltRingHead d.next).wr Reg.bltStatus (d.code * 65536)
      let s := if d.f 0 9 9 = 1 then s.raise 0xA0000 0 else s
      let s := if d.code = 0 then s else s.raise 0xA0000 1
      if d.next = s.fld Reg.bltRingTail 11 0 then s.raise 0xA0000 3 else s
    else s
  | none => s

/-! ### Registers (R295, R296) -/

/-- Checks of a write to the BLT page. -/
def State.bltCheck (s : State) (off data : Nat) : List Nat :=
  if 0x44 ≤ off ∧ off ≤ 0x4C then codeIf (s.flag Reg.bltCtrl 0) 9
  else if off = 0x50 then codeIf (decide (s.fld Reg.bltRingSize 12 0 ≤ bitsOf data 11 0)) 1
  else if off = 0x5C then codeIf (bitOf data 0 && !(match s.blt.cur with | some d => d.held | none => false)) 0xF
  else []

/-- Effects of an accepted write to the BLT page: release, and EN cleared (R293, R294). -/
def State.bltEffect (s : State) (off old data : Nat) : State :=
  match s.blt.cur with
  | some d =>
    if off = 0x5C ∧ bitOf data 0 then
      ({ s with blt := { cur := some { d with held := false } } }.setFld Reg.bltStatus 1 0 1).add (Reg.bltStat 3) 1
    else if off = 0x40 ∧ bitOf old 0 ∧ !bitOf data 0 then
      if d.fin then s else { s with blt := { cur := some { d with held := false, code := 0xA05, fin := true } } }
    else s
  | none => s

/-- Computed words of the BLT page (R290). -/
def State.bltRead (s : State) (off : Nat) : Option Nat :=
  if off = 0x64 then
    let dead := s.fld Reg.bltPace 15 0
    some (if s.plc.evac.isSome then max dead (10 * s.fld Reg.bltPace 31 20) else dead)
  else none

end Sys2Proof.Machine
end

