-- ==== Sys2Proof/Machine/Sm.lean ====
section
/-! DEFINITION. The algorithms that the manual names by their standards: SM3 (GB/T 32905), SM4 (GB/T 32907) in GCM mode, and SM2
(GB/T 32918) (R136, R472, R488). Tables and constants are the standards' own (log entry 7). Pure functions on byte lists. -/

namespace Sys2Proof.Machine

/-- A value that is known by its equation and not by unfolding: no proof runs a cipher on symbols by accident. -/
opaque sealing {α : Type} (x : α) : { y : α // y = x } := ⟨x, rfl⟩

/-! ### SM3 -/

/-- 32-bit words of bytes, first byte highest; bytes behind the last whole word are left out. -/
def sm3Words : List Byte → List Word
  | a :: b :: c :: d :: l => (a ++ b ++ c ++ d : Word) :: sm3Words l
  | _ => []

/-- The eight registers of the compression function. -/
structure Sm3 where
  a : Word
  b : Word
  c : Word
  d : Word
  e : Word
  f : Word
  g : Word
  h : Word
  deriving DecidableEq, Repr

def Sm3.start : Sm3 :=
  { a := 0x7380166F, b := 0x4914B2B9, c := 0x172442D7, d := 0xDA8A0600, e := 0xA96F30BC, f := 0x163138AA, g := 0xE38DEE4D, h := 0xB0FB0E4E }

def Sm3.xor (x y : Sm3) : Sm3 :=
  { a := x.a ^^^ y.a, b := x.b ^^^ y.b, c := x.c ^^^ y.c, d := x.d ^^^ y.d, e := x.e ^^^ y.e, f := x.f ^^^ y.f, g := x.g ^^^ y.g, h := x.h ^^^ y.h }

/-- The digest that the registers hold. -/
def Sm3.digest (x : Sm3) : BitVec 256 := x.a ++ x.b ++ x.c ++ x.d ++ x.e ++ x.f ++ x.g ++ x.h

/-- The permutations P0 and P1. -/
def sm3P0 (x : Word) : Word := x ^^^ x.rotateLeft 9 ^^^ x.rotateLeft 17
def sm3P1 (x : Word) : Word := x ^^^ x.rotateLeft 15 ^^^ x.rotateLeft 23

/-- The Boolean functions FF and GG of round `j`. -/
def sm3FF (j : Nat) (x y z : Word) : Word := if j < 16 then x ^^^ y ^^^ z else (x &&& y) ||| (x &&& z) ||| (y &&& z)
def sm3GG (j : Nat) (x y z : Word) : Word := if j < 16 then x ^^^ y ^^^ z else (x &&& y) ||| (~~~x &&& z)

/-- The next word of the message expansion; `l` holds the words before it, newest first. -/
def sm3Next (l : List Word) : Word :=
  let w := fun (n : Nat) => l.getD (n - 1) 0
  sm3P1 (w 16 ^^^ w 9 ^^^ (w 3).rotateLeft 15) ^^^ (w 13).rotateLeft 7 ^^^ w 6

/-- The 68 words of a block's expansion. -/
def sm3Expand (block : List Word) : List Word := ((List.range 52).foldl (fun l _ => sm3Next l :: l) block.reverse).reverse

/-- One round of the compression function, with the expanded words `w`. -/
def sm3Round (w : List Word) (x : Sm3) (j : Nat) : Sm3 :=
  let t : Word := if j < 16 then 0x79CC4519 else 0x7A879D8A
  let ss1 := (x.a.rotateLeft 12 + x.e + t.rotateLeft (j % 32)).rotateLeft 7
  let tt1 := sm3FF j x.a x.b x.c + x.d + (ss1 ^^^ x.a.rotateLeft 12) + (w.getD j 0 ^^^ w.getD (j + 4) 0)
  let tt2 := sm3GG j x.e x.f x.g + x.h + ss1 + w.getD j 0
  { a := tt1, b := x.a, c := x.b.rotateLeft 9, d := x.c, e := sm3P0 tt2, f := x.e, g := x.f.rotateLeft 19, h := x.g }

/-- The compression function over one block of 16 words. -/
def sm3Compress (v : Sm3) (block : List Word) : Sm3 := ((List.range 64).foldl (sm3Round (sm3Expand block)) v).xor v

/-- The padding: a one bit, zeros, and the length in bits. -/
def sm3Pad (m : List Byte) : List Byte := m ++ [0x80] ++ List.replicate ((119 - m.length % 64) % 64) 0 ++ beBytes 8 (8 * m.length)

/-- The SM3 digest of a message. -/
def sm3Digest (m : List Byte) : BitVec 256 :=
  let w := sm3Words (sm3Pad m)
  ((List.range (w.length / 16)).foldl (fun v i => sm3Compress v ((w.drop (16 * i)).take 16)) Sm3.start).digest

/-- SM3 (R472). -/
def sm3 : List Byte → BitVec 256 := (sealing sm3Digest).1
theorem sm3_eq : sm3 = sm3Digest := (sealing sm3Digest).2

/-! ### SM4 -/

/-- The rows of the S-box, 16 bytes each. -/
def sm4Rows : List Nat :=
  [0xD690E9FECCE13DB716B614C228FB2C05, 0x2B679A762ABE04C3AA44132649860699, 0x9C4250F491EF987A33540B43EDCFAC62, 0xE4B31CA9C908E89580DF94FA758F3FA6,
   0x4707A7FCF37317BA83593C19E6854FA8, 0x686B81B27164DA8BF8EB0F4B70569D35, 0x1E240E5E6358D1A225227C3B01217887, 0xD40046579FD327524C3602E7A0C4C89E,
   0xEABF8AD240C738B5A3F7F2CEF96115A1, 0xE0AE5DA49B341A55AD933230F58CB1E3, 0x1DF6E22E8266CA60C02923AB0D534E6F, 0xD5DB3745DEFD8E2F03FF6A726D6C5B51,
   0x8D1BAF92BBDDBC7F11D95C411F105AD8, 0x0AC13188A5CD7BBD2D74D012B8E5B4B0, 0x8969974A0C96777E65B9F109C56EC684, 0x18F07DEC3ADC4D2079EE5F3ED7CB3948]

/-- The S-box. -/
def sm4Box (x : Byte) : Byte := BitVec.ofNat 8 (sm4Rows.getD (x.toNat / 16) 0 / 256 ^ (15 - x.toNat % 16))

/-- The S-box on each byte of a word. -/
def sm4Tau (x : Word) : Word := sm4Box (x.extractLsb' 24 8) ++ sm4Box (x.extractLsb' 16 8) ++ sm4Box (x.extractLsb' 8 8) ++ sm4Box (x.extractLsb' 0 8)

/-- The transformations T of the rounds and T' of the key schedule. -/
def sm4T (x : Word) : Word :=
  let b := sm4Tau x
  b ^^^ b.rotateLeft 2 ^^^ b.rotateLeft 10 ^^^ b.rotateLeft 18 ^^^ b.rotateLeft 24
def sm4T' (x : Word) : Word :=
  let b := sm4Tau x
  b ^^^ b.rotateLeft 13 ^^^ b.rotateLeft 23

/-- One round on four words, by a transformation and a round word; key schedule and cipher have the same form. -/
def sm4Round (f : Word → Word) (x : Word × Word × Word × Word) (k : Word) : Word × Word × Word × Word :=
  (x.2.1, x.2.2.1, x.2.2.2, x.1 ^^^ f (x.2.1 ^^^ x.2.2.1 ^^^ x.2.2.2 ^^^ k))

/-- The four words of a block. -/
def quarters (x : BitVec 128) : Word × Word × Word × Word := (x.extractLsb' 96 32, x.extractLsb' 64 32, x.extractLsb' 32 32, x.extractLsb' 0 32)

/-- The constant CK of round `i`. -/
def sm4Ck (i : Nat) : Word := BitVec.ofNat 32 (beNat ((List.range 4).map (fun j => BitVec.ofNat 8 (7 * (4 * i + j)))))

/-- The round keys of a key. -/
def sm4Keys (key : BitVec 128) : List Word :=
  let m := quarters (key ^^^ 0xA3B1BAC656AA3350677D9197B27022DC)
  ((List.range 32).foldl (fun (a : List Word × Word × Word × Word × Word) i => let x := sm4Round sm4T' a.2 (sm4Ck i); (a.1 ++ [x.2.2.2], x)) ([], m)).1

/-- SM4 encryption of one block. -/
def sm4Block (keys : List Word) (x : BitVec 128) : BitVec 128 :=
  let y := keys.foldl (sm4Round sm4T) (quarters x)
  y.2.2.2 ++ y.2.2.1 ++ y.2.1 ++ y.1

/-! ### GCM (R136) -/

/-- A product in GCM's field, whose bit 0 is the highest. -/
def gcmMul (x y : BitVec 128) : BitVec 128 :=
  ((List.range 128).foldl (fun (a : BitVec 128 × BitVec 128) i =>
    (if x.getMsbD i then a.1 ^^^ a.2 else a.1, if a.2.getLsbD 0 then (a.2 >>> 1) ^^^ (0xE1#128 <<< 120) else a.2 >>> 1)) (0, y)).1

/-- The blocks of bytes, the last one filled up with zeros. -/
def gcmBlocks (b : List Byte) : List (BitVec 128) :=
  (List.range ((b.length + 15) / 16)).map (fun i => let c := slice b (16 * i) 16; BitVec.ofNat 128 (beNat (c ++ List.replicate (16 - c.length) 0)))

/-- GHASH of additional data and ciphertext under hash key `h`. -/
def gcmHash (h : BitVec 128) (head cipher : List Byte) : BitVec 128 :=
  (gcmBlocks head ++ gcmBlocks cipher ++ [BitVec.ofNat 128 (8 * head.length * 2 ^ 64 + 8 * cipher.length)]).foldl (fun a b => gcmMul (a ^^^ b) h) 0

/-- Counter block `i` of a 96-bit nonce. -/
def gcmCounter (nonce : List Byte) (i : Nat) : BitVec 128 := BitVec.ofNat 128 (beNat nonce * 2 ^ 32 + i % 2 ^ 32)

/-- Encryption and decryption: the data under the key stream from counter 2 on. -/
def gcmXor (key : BitVec 128) (nonce data : List Byte) : List Byte :=
  let keys := sm4Keys key
  let stream := (List.range ((data.length + 15) / 16)).flatMap (fun i => beBytes 16 (sm4Block keys (gcmCounter nonce (i + 2))).toNat)
  List.zipWith (fun a b => a ^^^ b) data stream

/-- What a payload is encrypted to, and decrypted: key, nonce, data (R136). -/
def gcmCrypt : BitVec 128 → List Byte → List Byte → List Byte := (sealing gcmXor).1
theorem gcmCrypt_eq : gcmCrypt = gcmXor := (sealing gcmXor).2

/-- The tag of 16 bytes over additional data and ciphertext. -/
def gcmMac (key : BitVec 128) (nonce head cipher : List Byte) : List Byte :=
  let keys := sm4Keys key
  beBytes 16 (gcmHash (sm4Block keys 0) head cipher ^^^ sm4Block keys (gcmCounter nonce 1)).toNat

/-- The tag of a payload: key, nonce, additional data, ciphertext (R136). -/
def gcmTag : BitVec 128 → List Byte → List Byte → List Byte → List Byte := (sealing gcmMac).1
theorem gcmTag_eq : gcmTag = gcmMac := (sealing gcmMac).2

/-! ### SM2 -/

/-- The field, the curve's coefficients, its base point and the order of that point. -/
def sm2P : Nat := 0xFFFFFFFEFFFFFFFFFFFFFFFFFFFFFFFFFFFFFFFF00000000FFFFFFFFFFFFFFFF
def sm2A : Nat := 0xFFFFFFFEFFFFFFFFFFFFFFFFFFFFFFFFFFFFFFFF00000000FFFFFFFFFFFFFFFC
def sm2B : Nat := 0x28E9FA9E9D9F5E344D5A9E4BCF6509A7F39789F515AB8F92DDBCBD414D940E93
def sm2Gx : Nat := 0x32C4AE2C1F1981195F9904466A39C9948FE30BBFF2660BE1715A4589334C74C7
def sm2Gy : Nat := 0xBC3736A2F4F6779C59BDCEE36B692153D0A9877CC62A474002DF32E52139F0A0
def sm2N : Nat := 0xFFFFFFFEFFFFFFFFFFFFFFFFFFFFFFFF7203DF6B21C6052B53BBF40939D54123

/-- `b` to the power `e`, below 2^256, modulo `m`. -/
def powMod (m b e : Nat) : Nat :=
  (List.range 256).foldl (fun a i => let s := a * a % m; if bitOf e (255 - i) then s * b % m else s) 1

/-- The inverse modulo a prime. -/
def invMod (m x : Nat) : Nat := powMod m (x % m) (m - 2)

/-- A point of the curve; none is the point at infinity. -/
abbrev Point := Option (Nat × Nat)

/-- Whether coordinates are those of a point of the curve. -/
def onCurve (q : Nat × Nat) : Bool :=
  decide (q.1 < sm2P ∧ q.2 < sm2P ∧ q.2 * q.2 % sm2P = (q.1 * q.1 % sm2P * q.1 + sm2A * q.1 + sm2B) % sm2P)

/-- The third point of the line through two points with slope `l`, reflected. -/
def chord (l : Nat) (p q : Nat × Nat) : Nat × Nat :=
  let x := (l * l + (sm2P - p.1) + (sm2P - q.1)) % sm2P
  (x, (l * (p.1 + (sm2P - x)) + (sm2P - p.2)) % sm2P)

/-- The sum of two points. -/
def pointAdd : Point → Point → Point
  | none, q => q
  | p, none => p
  | some p, some q =>
    if p.1 ≠ q.1 then some (chord ((q.2 + (sm2P - p.2)) * invMod sm2P (q.1 + (sm2P - p.1)) % sm2P) p q)
    else if (p.2 + q.2) % sm2P = 0 then none
    else some (chord ((3 * p.1 * p.1 + sm2A) * invMod sm2P (2 * p.2) % sm2P) p q)

/-- A multiple of a point by a number below 2^256. -/
def pointMul (k : Nat) (p : Point) : Point :=
  (List.range 256).foldl (fun a i => let d := pointAdd a a; if bitOf k (255 - i) then pointAdd d p else d) none

def sm2G : Point := some (sm2Gx, sm2Gy)

/-- A point as bytes x‖y (R472), and the point that 64 bytes name. -/
def pointBytes (p : Point) : List Byte := match p with | some q => beBytes 32 q.1 ++ beBytes 32 q.2 | none => List.replicate 64 0
def bytesPoint (b : List Byte) : Nat × Nat := (beNat (slice b 0 32), beNat (slice b 32 32))

/-- The public key of a private one. -/
def sm2KeyOf (d : Nat) : List Byte := pointBytes (pointMul d sm2G)

/-- The public key x‖y of a private one (R472). -/
def sm2Public : Nat → List Byte := (sealing sm2KeyOf).1
theorem sm2Public_eq : sm2Public = sm2KeyOf := (sealing sm2KeyOf).2

/-- e = SM3(Z‖M), with Z over the user identity "1234567812345678", the curve and the public key (R472). -/
def sm2Digest (key msg : List Byte) : Nat :=
  let id : List Byte := [0x31, 0x32, 0x33, 0x34, 0x35, 0x36, 0x37, 0x38]
  let z := sm3 ([0x00, 0x80] ++ id ++ id ++ beBytes 32 sm2A ++ beBytes 32 sm2B ++ beBytes 32 sm2Gx ++ beBytes 32 sm2Gy ++ key)
  (sm3 (beBytes 32 z.toNat ++ msg)).toNat

/-- Verification of a signature r‖s of 64 bytes over a message, under a public key (R472). -/
def sm2Verifies (key msg sign : List Byte) : Bool :=
  let r := beNat (slice sign 0 32)
  let s := beNat (slice sign 32 32)
  let t := (r + s) % sm2N
  key.length == 64 && sign.length == 64 && onCurve (bytesPoint key) && decide (0 < r ∧ r < sm2N ∧ 0 < s ∧ s < sm2N ∧ t ≠ 0) &&
  (match pointAdd (pointMul s sm2G) (pointMul t (some (bytesPoint key))) with
    | some q => decide ((sm2Digest key msg + q.1) % sm2N = r)
    | none => false)

/-- SM2 verification: public key, message, signature (R472). -/
def sm2Verify : List Byte → List Byte → List Byte → Bool := (sealing sm2Verifies).1
theorem sm2Verify_eq : sm2Verify = sm2Verifies := (sealing sm2Verifies).2

/-- The signature of a message with a private key and the random number `k`; none where the standard draws another number. -/
def sm2Signature (d : Nat) (msg : List Byte) (k : Nat) : Option (List Byte) :=
  match pointMul k sm2G with
  | none => none
  | some q =>
    let r := (sm2Digest (sm2Public d) msg + q.1) % sm2N
    let s := invMod sm2N (1 + d) * ((k + (sm2N - r * d % sm2N)) % sm2N) % sm2N
    if r = 0 ∨ (r + k) % sm2N = 0 ∨ s = 0 then none else some (beBytes 32 r ++ beBytes 32 s)

/-- SM2 signing: private key, message, random number (R472). -/
def sm2Sign : Nat → List Byte → Nat → Option (List Byte) := (sealing sm2Signature).1
theorem sm2Sign_eq : sm2Sign = sm2Signature := (sealing sm2Signature).2

/-- Decryption of C1‖C3‖C2 for a message of 16 bytes with a private key (R488): none where C1 is no point of the curve in its
uncompressed form, the derived key is zero, or C3 does not match. -/
def sm2Opened (d : Nat) (b : List Byte) : Option (BitVec 128) :=
  let c1 := bytesPoint (slice b 1 64)
  if b.length ≠ 113 ∨ b.take 1 ≠ [0x04] ∨ !onCurve c1 then none
  else match pointMul d (some c1) with
    | none => none
    | some q =>
      let x := beBytes 32 q.1
      let y := beBytes 32 q.2
      let t := (beBytes 32 (sm3 (x ++ y ++ beBytes 4 1)).toNat).take 16
      let m := List.zipWith (fun u v => u ^^^ v) (slice b 97 16) t
      if t.all (fun u => u == 0) ∨ beBytes 32 (sm3 (x ++ m ++ y)).toNat ≠ slice b 65 32 then none else some (BitVec.ofNat 128 (beNat m))

/-- SM2 decryption of a wrapped key with a private key (R488). -/
def sm2Decrypt : Nat → List Byte → Option (BitVec 128) := (sealing sm2Opened).1
theorem sm2Decrypt_eq : sm2Decrypt = sm2Opened := (sealing sm2Opened).2

end Sys2Proof.Machine
end

