-- ==== Sys2Proof/Machine/Ingest.lean ====
section
/-! DEFINITION. Scene ingest: KST datagrams, sessions, update commands, completion, NACK and REPORT payloads, injection
(R132-R153, R163-R165). -/

namespace Sys2Proof.Machine

/-- Session `k`. -/
def State.sess (s : State) (k : Nat) : Session := s.ing.sessions.getD k Session.reset

/-- Replace session `k`. -/
def State.setSess (s : State) (k : Nat) (x : Session) : State :=
  { s with ing := { s.ing with sessions := s.ing.sessions.set k x } }

/-- SOURCE of a session (R164): 0 network, 1 content store, 2 firmware. -/
def State.sessSource (s : State) (k : Nat) : Nat := s.fld (Reg.ingSCtrl k) 3 2

/-- Bytes a datagram takes in the reassembly area. -/
def Dgram.size (d : Dgram) : Nat := 32 + d.payload.length

/-- Bytes in the reassembly area (R140). -/
def State.reasmUsed (s : State) : Nat := (s.ing.sessions.map (fun x => (x.buf.map Dgram.size).sum)).sum

/-- A session's error (R139, R151): the last code and the count, and an error record. -/
def State.sessError (s : State) (k seq code : Nat) : State :=
  let x := s.sess k
  let s := s.setSess k { x with records := if x.records.length < 8 then x.records ++ [(seq, code)] else x.records }
  (s.setFld (Reg.ingSErr k) 15 0 code).addSat (Reg.ingSErr k) 31 16 1

/-- A command error: counted, reported and raised (R139, R165). -/
def State.cmdError (s : State) (k seq code : Nat) : State :=
  let x := s.sess k
  (((s.setSess k { x with repErr := x.repErr + 1 }).sessError k seq code).add (Reg.ingStat 6) 1).raise 0x30000 3

/-- A session's change that waits for space is dropped with the session's commands (R118, R134). -/
def State.dropWaiting (s : State) (k : Nat) : State :=
  if s.scn.waiting = some k then { s with scn := { s.scn with waiting := none } } else s

/-- A session falls back to WAIT_KEY (R134); its buffered datagrams stay (R145). -/
def State.toWaitKey (s : State) (k : Nat) : State :=
  let x := s.sess k
  if x.state = 2 then
    ((s.dropWaiting k).setSess k { x with state := 1, applying := none, opened := none, gapAt := none, nacks := 0 }).raise 0x30000 1
  else s

/-- Open a gap where EXP is missing and a later datagram is buffered; close it otherwise (R140). -/
def State.gapUpdate (s : State) (k : Nat) : State :=
  let x := s.sess k
  let gap := x.state == 2 && !x.buf.any (fun d => d.seq == x.exp) && x.buf.any (fun d => decide (x.exp < d.seq))
  if gap then (match x.gapAt with | some _ => s | none => s.setSess k { x with gapAt := some s.now, nacks := 0 })
  else s.setSess k { x with gapAt := none, nacks := 0 }

/-- Put a datagram into a session's buffer, by rising SEQ. -/
def insertDgram (d : Dgram) : List Dgram → List Dgram
  | [] => [d]
  | e :: es => if d.seq < e.seq then d :: e :: es else e :: insertDgram d es

/-- Buffer a datagram, unless the reassembly area is full (R140). -/
def State.bufferDgram (s : State) (k : Nat) (d : Dgram) : State :=
  if s.fld Reg.ingReasmSize 11 0 * 2 ^ 20 < s.reasmUsed + d.size then s.raise 0x30000 4
  else
    let x := s.sess k
    (s.setSess k { x with buf := insertDgram d x.buf }).gapUpdate k

/-- The first key datagram buffered (R145). -/
def Session.firstKey (x : Session) : Option Dgram := x.buf.find? (fun d => d.isKey)

/-- Order an authenticated datagram into its session (R140, R145). -/
def State.orderDgram (s : State) (k : Nat) (d : Dgram) : State :=
  let x := s.sess k
  let dup := fun (s : State) =>
    let x := s.sess k
    s.setSess k { x with repDup := x.repDup + 1 }
  if x.buf.any (fun e => e.seq == d.seq) then dup (s.add (Reg.ingStat 3) 1)
  else if x.state = 2 then
    if d.seq < x.exp then dup (s.add (Reg.ingStat 3) 1)
    else if x.exp + 4095 < d.seq then dup (s.add (Reg.ingStat 4) 1)
    else s.bufferDgram k d
  else if d.isKey then s.bufferDgram k d
  else match x.firstKey with
    | some key =>
      if d.seq ≤ key.seq then dup (s.add (Reg.ingStat 3) 1)
      else if key.seq + 4096 < d.seq then dup (s.add (Reg.ingStat 4) 1)
      else s.bufferDgram k d
    | none => s

/-- The nonce of a datagram (R136). -/
def kstNonce (salt : List Byte) (dir stream seq : Nat) : List Byte :=
  salt ++ [BitVec.ofNat 8 dir, BitVec.ofNat 8 stream] ++ beBytes 6 seq

/-- What a sealed payload opens to, of its own length; `none` where its tag does not verify (R136, R137). -/
def gcmOpen (key : BitVec 128) (nonce head payload tag : List Byte) : Option (List Byte) :=
  if gcmTag key nonce head payload = tag then some (gcmCrypt key nonce payload) else none

/-- A discarded datagram that fails a check before AUTH (R137). -/
def State.kstHeaderFail (s : State) : State := s.add (Reg.ingStat 1) 1

/-- A datagram that has passed every check of R137; `adj` is what a replay adds to FRAME and SEQ (R421). -/
def State.kstAccept (s : State) (k : Nat) (reply : Option Reply) (adj : Int × Int) (bytes payload : List Byte) : State :=
  let x := s.sess k
  let s := s.setSess k { x with repRx := x.repRx + 1, reply := if reply.isSome then reply else x.reply }
  s.orderDgram k
    { seq := ((beNat (slice bytes 8 6) : Int) + adj.2).toNat, frame := ((beNat (slice bytes 16 8) : Int) + adj.1).toNat, base := beNat (slice bytes 24 8),
      isKey := bitOf (beNat (slice bytes 5 1)) 0, count := beNat (slice bytes 14 2), payload := payload }

/-- A datagram arrives at ingest (R137): `src` is the path it came by (0 network, 1 content store, 2 firmware), `inj`
the session an injection names, `reply` where a network datagram came from; with `stale` it was opened under a key that has since been
replaced, so that its tag does not verify (R371). With ING_CTRL.EN 0 every session counts as CLOSED (R164). -/
def State.kstArrive (s : State) (src : Nat) (inj : Option Nat) (reply : Option Reply) (adj : Int × Int)
    (bytes : List Byte) (stale : Bool := false) : State :=
  if !s.domOn 14 then s
  else
    let s := s.add (Reg.ingStat 0) 1
    let stream := beNat (slice bytes 4 1)
    let flags := beNat (slice bytes 5 1)
    let len := beNat (slice bytes 6 2)
    let x := s.sess stream
    let dec := s.flag (Reg.ingSCtrl stream) 4
    let slot := flags / 2 % 2
    let key := x.keys.getD slot KeySlot.reset
    if bytes.length < 32 ∨ beNat (slice bytes 0 2) ≠ 0x4B53 ∨ beNat (slice bytes 2 1) ≠ 1 ∨ beNat (slice bytes 3 1) ≠ 1 then s.kstHeaderFail
    else if 64 ≤ stream then s.kstHeaderFail
    else if 4 ≤ flags then s.kstHeaderFail
    else if len % 4 ≠ 0 ∨ 8904 < len ∨ bytes.length ≠ 32 + len + (if dec then 16 else 0) then s.kstHeaderFail
    else if !s.flag Reg.ingCtrl 0 ∨ x.state = 0 ∨ s.sessSource stream ≠ src ∨ (inj.isSome ∧ inj ≠ some stream) then s.kstHeaderFail
    else if dec && !key.loaded then s.kstHeaderFail
    else if dec then
      match (if stale then none else gcmOpen key.key (kstNonce key.salt 0 stream (beNat (slice bytes 8 6))) (bytes.take 32) (slice bytes 32 len)
          (slice bytes (32 + len) 16)) with
      | some plain => s.kstAccept stream reply adj bytes plain
      | none =>
        (((s.setSess stream { x with repRx := x.repRx + 1, repAuth := x.repAuth + 1 }).sessError stream (beNat (slice bytes 8 6)) 0x309).add
          (Reg.ingStat 2) 1).raise 0x30000 2
    else s.kstAccept stream reply adj bytes (slice bytes 32 len)

/-! ### Applying datagrams -/

/-- The staging version's target. -/
def State.target (s : State) : Option Nat := s.scn.staging.map (fun v => v.tag)

/-- Start applying a datagram; one without commands is over at once, unless bytes are left (R138, R144). -/
def State.startApplying (s : State) (k : Nat) (d : Dgram) : State :=
  let x := s.sess k
  let s := (s.setSess k { x with lastFrame := d.frame }).add (Reg.ingSRx k) 1
  let s := s.wr (Reg.ingSFrameLo k) (d.frame % 2 ^ 32)
  let x := s.sess k
  if d.count = 0 then (if d.payload = [] then s else (s.cmdError k d.seq 0x308).toWaitKey k)
  else s.setSess k { x with applying := some { seq := d.seq, frame := d.frame, left := d.count, payload := d.payload } }

/-- Take the datagram with SEQ EXP out of the buffer and apply it (R140, R142, R143). -/
def State.applyNext (s : State) (k : Nat) : State :=
  let x := s.sess k
  match x.buf.find? (fun d => d.seq == x.exp), s.target with
  | some d, some t =>
    if x.state ≠ 2 ∨ x.applying.isSome ∨ t < d.frame ∨ s.scn.waiting.isSome then s
    else
      let s := (s.setSess k { x with buf := x.buf.filter (fun e => e.seq != x.exp), exp := x.exp + 1 }).gapUpdate k
      if d.frame < x.lastFrame then (s.sessError k d.seq 0x30B).toWaitKey k else s.startApplying k d
  | _, _ => s

/-- Reset the planes of a session's mask in the staging version to those of `base`, or to undefined (R145). -/
def State.resetPlanes (s : State) (mask : Nat) (base : Option Version) : State :=
  match s.scn.staging with
  | none => s
  | some v =>
    let v' := (List.range 32).foldl (fun (v : Version) p =>
      if bitOf mask p then
        { v with planes := Sparse.set noPlane v.planes p (match base with | some b => b.plane p | none => none),
                 dir := (List.range 144).foldl (fun d r =>
                   Sparse.set noPage d (p * 144 + r) (match base with | some b => b.pageId p r | none => 0)) v.dir,
                 blank := (List.range 144).foldl (fun d r =>
                   Sparse.set noBlank d (p * 144 + r) (match base with | some b => b.blankOf p r | none => 0)) v.blank }
      else v) v
    { s with scn := { s.scn with staging := some v' } }.scnGc

/-- A complete staging version becomes pending (R146, R147); in the latch cycle one that the latch would serve is not complete any more. -/
def State.checkComplete (s : State) : State :=
  match s.scn.staging with
  | none => s
  | some v =>
    let gates := (List.range 64).filter (fun k => s.flag (Reg.ingSCtrl k) 0 && s.flag (Reg.ingSCtrl k) 1)
    if !gates.isEmpty && gates.all (fun k => (s.sess k).state == 2 && (s.sess k).doneFrame == some (s.targetOf v)) then
      { s with scn := { s.scn with staging := none, pendingV := s.scn.pendingV ++ [v] } }.add (Reg.ingStat 7) 1
    else s

/-- A session in WAIT_KEY accepts its first key datagram, or discards it with KEY_BASE (R145). The session that becomes ACTIVE may be the
last one that a complete version waited for (R146). -/
def State.keyAccept (s : State) (k : Nat) : State :=
  let x := s.sess k
  match x.firstKey, s.target with
  | some d, some t =>
    if x.state ≠ 1 ∨ t < d.frame ∨ s.scn.waiting.isSome then s
    else
      let newest := s.scn.newest
      if d.base = 0 ∨ newest.map (fun v => v.tag) = some d.base then
        let s := s.resetPlanes (s.rd (Reg.ingSPlanes k)) (if d.base = 0 then none else newest)
        let x' : Session :=
          { x with state := 2, exp := d.seq + 1, opened := none, gapAt := none, nacks := 0,
                   buf := x.buf.filter (fun e => decide (d.seq < e.seq ∧ e.seq ≤ d.seq + 4096)) }
        let s := s.setSess k x'
        (((s.gapUpdate k).raise 0x30000 6).startApplying k d).checkComplete
      else (s.setSess k { x with buf := x.buf.filter (fun e => e.seq != d.seq) }).sessError k d.seq 0x30A
  | _, _ => s

/-! ### Update commands (R138, R139) -/

/-- The limits of R101 and the zero bits of R138 on descriptor words. -/
def descriptorOk (w : List Nat) : Bool :=
  let g := fun i => w.getD i 0
  let wb := bitsOf (g 0) 8 0
  let hb := bitsOf (g 0) 23 16
  decide (1 ≤ wb ∧ wb ≤ 256 ∧ 1 ≤ hb ∧ hb ≤ 144) && bitsOf (g 0) 15 9 == 0 && bitsOf (g 0) 29 24 == 0 && bitsOf (g 1) 31 24 == 0 &&
  decide (signedBits (g 2) 32 * signedBits (g 5) 32 - signedBits (g 3) 32 * signedBits (g 4) 32 ≠ 0)

/-- A descriptor from its words (R138). -/
def planeOfWords (w : List Nat) : PlaneDesc :=
  let g := fun i => w.getD i 0
  { en := bitOf (g 0) 31, tf := bitOf (g 0) 30, wblk := bitsOf (g 0) 8 0, hblk := bitsOf (g 0) 23 16,
    z := signedBits (g 1) 24, a := signedBits (g 2) 32, b := signedBits (g 3) 32, c := signedBits (g 4) 32,
    d := signedBits (g 5) 32, tu := signedBits (g 6) 32, tv := signedBits (g 7) 32 }

/-- `n` big-endian 32-bit words. -/
def beWords : Nat → List Byte → List Nat
  | 0, _ => []
  | n + 1, bs => beNat (bs.take 4) :: beWords n (bs.drop 4)

/-- The body length that suits an OP, given the body (R138). -/
def bodyLenOk (op n : Nat) (body : List Byte) : Bool :=
  let pad4 := fun (x : Nat) => (x + 3) / 4 * 4
  if op = 1 then n == 32 else if op = 2 then n == 36
  else if op = 3 then decide (12 ≤ n) && n == 12 + pad4 (beNat (slice body 2 2))
  else if op = 4 then n == 16 else if op = 5 then n == 16
  else if op = 6 then decide (24 ≤ n) &&
    n == 24 + pad4 (beNat (slice body 6 1) * beNat (slice body 5 1) * ((beNat (slice body 4 1) + 7) / 8))
  else if op = 7 then n == 4 else if op = 8 then n == 0 else true

/-- One command taken from the front of what is left of a datagram. -/
structure KstCmd where
  op : Nat
  plane : Nat
  body : List Byte
  deriving DecidableEq, Repr

/-- The command at the front of a session's datagram; `none` with COMMAND_LENGTH (R138, R144). -/
def Applying.head (a : Applying) : Option KstCmd :=
  let n := beNat (slice a.payload 2 2)
  let body := slice a.payload 4 n
  let op := beNat (slice a.payload 0 1)
  if a.payload.length < 4 ∨ n % 4 ≠ 0 ∨ a.payload.length < 4 + n ∨ !bodyLenOk op n body then none
  else some { op := op, plane := beNat (slice a.payload 1 1), body := body }

/-- Move past the command at the front; bytes left behind the last one are a COMMAND_LENGTH failure (R138). -/
def State.nextCmd (s : State) (k : Nat) (a : Applying) (c : KstCmd) : State :=
  let x := s.sess k
  let rest := a.payload.drop (4 + c.body.length)
  if a.left = 1 then
    let s := s.setSess k { x with applying := none }
    if rest = [] then s else (s.cmdError k a.seq 0x308).toWaitKey k
  else s.setSess k { x with applying := some { a with left := a.left - 1, payload := rest } }

/-- The descriptor of a plane in the staging version. -/
def State.stagingPlane (s : State) (p : Nat) : Option PlaneDesc :=
  match s.scn.staging with
  | some v => v.plane p
  | none => none

/-- Set a descriptor of the staging version. -/
def State.setStagingPlane (s : State) (p : Nat) (d : PlaneDesc) : State :=
  match s.scn.staging with
  | some v => { s with scn := { s.scn with staging := some { v with planes := Sparse.set noPlane v.planes p (some d) } } }
  | none => s

/-- Empty a block row of the staging version: it has no page any more, and its entries were last written now (R109). -/
def State.clearRow (s : State) (p r : Nat) : State :=
  match s.scn.staging with
  | some v => { s with scn := { s.scn with staging := some { v with dir := Sparse.set noPage v.dir (p * 144 + r) 0,
                                                                    blank := Sparse.set noBlank v.blank (p * 144 + r) (v.tag % 2 ^ 32) } } }
  | none => s

/-- What applying a command comes to: done, with the error code it reports (0 for none), a wait for space (R118), or a hold until an
engine for edits is ACTIVE (R159). -/
inductive Applied where
  | done (code : Nat) (s : State)
  | wait
  | hold
  deriving DecidableEq, Repr

/-- DEFINE_PLANE (R138). -/
def State.cmdDefine (s : State) (c : KstCmd) : Applied :=
  let w := beWords 8 c.body
  if descriptorOk w then
    .done 0 ((List.range 144).foldl (fun s r => s.clearRow c.plane r) (s.setStagingPlane c.plane (planeOfWords w))).scnGc
  else .done 0x303 s

/-- Empty the entries of one block row from column `w` on, copying a shared page first (R115). -/
def State.trimRow (s : State) (p r w : Nat) : Option State :=
  match s.scn.staging with
  | none => some s
  | some v => match s.scn.page (v.pageId p r) with
    | none => some s
    | some pg => (pg.entries.filter (fun e => decide (w ≤ e.1))).foldl (fun o e => match o with
        | some s => s.setEntry p e.1 r Entry.empty
        | none => none) (some s)

/-- ALTER_PLANE: masked words are replaced; entries outside a smaller extent are released (R115, R138). -/
def State.cmdAlter (s : State) (c : KstCmd) (old : PlaneDesc) : Applied :=
  let mask := beNat (slice c.body 0 4)
  let neu := beWords 8 (c.body.drop 4)
  let w := (List.range 8).map (fun i => if bitOf mask i then neu.getD i 0 else old.word i)
  if !descriptorOk w then .done 0x303 s
  else
    let d := planeOfWords w
    let s1 := s.setStagingPlane c.plane d
    let s2 := (List.range 144).foldl (fun s r => if d.hblk ≤ r ∧ r < old.hblk then s.clearRow c.plane r else s) s1
    let s3 := if d.wblk < old.wblk then (List.range d.hblk).foldl (fun o r => match o with
        | some s => s.trimRow c.plane r d.wblk
        | none => none) (some s2)
      else some s2
    match s3 with
    | some s => .done 0 s.scnGc
    | none => .wait

/-- Store a completed scene block (R107, R139). -/
def State.finishBlock (s : State) (k : Nat) (o : OpenBlock) (unit : List Byte) : Applied :=
  let h := MbcHeader.read unit
  let ok := decide (20 ≤ unit.length) && leNat (slice unit 0 2) == 0x4D42 && h.format == 1 && h.rowPixels == 64 && h.rawLen == 20480 &&
    h.payloadLen + 20 == unit.length && decide (unit.length ≤ 24576)
  let close := fun (s : State) =>
    let x := s.sess k
    s.setSess k { x with opened := none }
  if !ok then .done 0x305 (close s)
  else match s.storeUnit o.plane o.bx o.brow unit with
    | none => .wait
    | some (a, s') =>
      match s'.setEntry o.plane o.bx o.brow { kind := 1, addr := a, len := unit.length, texel := 0, version := 0 } with
      | none => .wait
      | some s'' => .done 0 ((close s'').add (Reg.scnStat 0) 1).scnGc

/-- Note that the staging version holds a command tagged with this frame (R148). -/
def State.tagStaging (s : State) (f : Nat) : State :=
  match s.scn.staging with
  | some v => if v.tagged.contains f then s
    else { s with scn := { s.scn with staging := some { v with tagged := f :: v.tagged } } }
  | none => s

/-- WRITE_BLOCK (R139) of frame `f`: one that broke the open block and was then taken by itself reports the lost block, and is
a command the staging version holds. -/
def State.cmdWriteBlock (s : State) (k f : Nat) (c : KstCmd) : Applied :=
  let bx := beNat (slice c.body 0 1)
  let by_ := beNat (slice c.body 1 1)
  let fl := beNat (slice c.body 2 2)
  let total := beNat (slice c.body 4 4)
  let off := beNat (slice c.body 8 4)
  let data := slice c.body 12 fl
  let x := s.sess k
  let fits := match x.opened with
    | some o => o.plane == c.plane && o.bx == bx && o.brow == by_ && o.data.length == off && o.total == total
    | none => false
  let lost := x.opened.isSome && !fits
  let s := if lost then s.setSess k { x with opened := none } else s
  let held := if fits then (match x.opened with | some o => o.data | none => []) else []
  let code := if lost then 0x306 else 0
  if !fits && off ≠ 0 then .done 0x306 s
  else if total < off + fl then .done 0x306 (s.setSess k { (s.sess k) with opened := none })
  else
    let o : OpenBlock := { plane := c.plane, bx := bx, brow := by_, total := total, data := held ++ data }
    if off + fl = total then
      match s.finishBlock k o o.data with
      | .done e s => .done (if e = 0 then code else e) (if e = 0 then s.tagStaging f else s)
      | .wait => .wait
      | .hold => .hold
    else .done code ((s.setSess k { (s.sess k) with opened := some o }).tagStaging f)

/-- A texel of an entry's block: pixel (i, j). -/
def BlockRead.texel (r : BlockRead) (i j : Nat) : Nat := if r.unreadable then 0 else texelAt r.bytes i j

/-- The blocks that a texel range covers. -/
def blockRange (lo n : Nat) : List Nat := (List.range ((lo + n - 1) / 64 - lo / 64 + 1)).map (fun i => lo / 64 + i)

/-- Edit every block that a rectangle touches: `whole` sets an entry for a block covered whole, where it gives one; `f`
gives the texel at plane position (u, v). -/
def State.editRect (s : State) (p u v w h : Nat) (whole : Nat → Nat → Option Entry) (f : Nat → Nat → Nat → Nat) :
    Option (Bool × State) :=
  ((blockRange v h).flatMap (fun r => (blockRange u w).map (fun b => (b, r)))).foldl (fun o br => match o with
    | none => none
    | some (bad, s) =>
      let bx := br.1
      let by_ := br.2
      let covers := decide (u ≤ 64 * bx ∧ 64 * bx + 64 ≤ u + w ∧ v ≤ 64 * by_ ∧ 64 * by_ + 64 ≤ v + h)
      match (if covers then whole bx by_ else none) with
      | some e => (s.setEntry p bx by_ e).map (fun s => (bad, s))
      | none => (s.editPartial p bx by_ (fun i j old =>
          let tu := 64 * bx + i
          let tv := 64 * by_ + j
          if u ≤ tu ∧ tu < u + w ∧ v ≤ tv ∧ tv < v + h then f tu tv old else old)).map (fun x => (bad || x.1, x.2)))
    (some (false, s))

/-- FILL_REGION (R115, R139). -/
def State.cmdFill (s : State) (c : KstCmd) : Applied :=
  let g := fun i => beNat (slice c.body i 2)
  let texel := beNat (slice c.body 8 5)
  match s.editRect c.plane (g 0) (g 2) (g 4) (g 6)
      (fun _ _ => some { kind := 2, addr := 0, len := 0, texel := texel, version := 0 }) (fun _ _ _ => texel) with
  | none => .wait
  | some (bad, s) => .done (if bad then 0x30D else 0) s.scnGc

/-- COPY_REGION: the source is read as it stood before the command; whole aligned blocks are copied by reference (R115,
R139). -/
def State.cmdCopy (s : State) (c : KstCmd) : Applied :=
  let g := fun i => beNat (slice c.body i 2)
  let sp := beNat (slice c.body 0 1)
  let su := g 4
  let sv := g 6
  let w := g 8
  let h := g 10
  let du := g 12
  let dv := g 14
  let aligned := (su + 64 * 1024 - du % 64) % 64 == 0 && (sv + 64 * 1024 - dv % 64) % 64 == 0
  let src := fun (tu tv : Nat) => s.readBlock (s.stagingEntry sp ((su + (tu - du)) / 64) ((sv + (tv - dv)) / 64))
  let res := s.editRect c.plane du dv w h
    (fun bx by_ => if aligned then some (s.stagingEntry sp ((su + (64 * bx - du)) / 64) ((sv + (64 * by_ - dv)) / 64)) else none)
    (fun tu tv _ => (src tu tv).texel ((su + (tu - du)) % 64) ((sv + (tv - dv)) % 64))
  -- source blocks read texel by texel: those that feed a block not copied by reference
  let read := (blockRange dv h).flatMap (fun r => (blockRange du w).filterMap (fun b =>
    let covers := decide (du ≤ 64 * b ∧ 64 * b + 64 ≤ du + w ∧ dv ≤ 64 * r ∧ 64 * r + 64 ≤ dv + h)
    if covers && aligned then none else some (b, r)))
  let lo := fun (d k : Nat) => max d (64 * k) - d
  let hi := fun (d n k : Nat) => min (d + n) (64 * k + 64) - d
  let srcs := read.flatMap (fun br =>
    (blockRange (sv + lo dv br.2) (hi dv h br.2 - lo dv br.2)).flatMap (fun r =>
      (blockRange (su + lo du br.1) (hi du w br.1 - lo du br.1)).map (fun b => s.stagingEntry sp b r)))
  let badSrc := srcs.any (fun e => (s.readBlock e).unreadable)
  let failed := (srcs.filter (fun e => (s.readBlock e).bad)).map (fun e => e.addr)
  match res with
  | none => .wait
  | some (bad, s') => .done (if bad || badSrc then 0x30D else 0) (failed.eraseDups.foldl State.markBad s').scnGc

/-- GLYPH_RUN (R138, R139); later glyphs are drawn over earlier ones. Texels outside the plane are clipped. -/
def State.cmdGlyph (s : State) (c : KstCmd) (d : PlaneDesc) : Applied :=
  let g := fun i => beNat (slice c.body i 2)
  let b := fun i => beNat (slice c.body i 1)
  let u := g 0
  let v := g 2
  let gw := b 4
  let gh := b 5
  let n := b 6
  let clear := bitOf (b 7) 0
  let adv := g 8
  let fg := beNat (slice c.body 12 5)
  let bg := beNat (slice c.body 17 5)
  let bits := c.body.drop 24
  let w := min (u + (n - 1) * adv + gw) (64 * d.wblk) - u
  let h := min (v + gh) (64 * d.hblk) - v
  let bitAt := fun (k tu tv : Nat) =>
    let row := (gw + 7) / 8
    (bits.getD (k * gh * row + (tv - v) * row + (tu - (u + k * adv)) / 8) 0).getLsbD (7 - (tu - (u + k * adv)) % 8)
  let draw := fun (tu tv old : Nat) => (List.range n).foldl (fun t k =>
    let ox := u + k * adv
    if ox ≤ tu ∧ tu < ox + gw then (if bitAt k tu tv then fg else if clear then t else bg) else t) old
  if w = 0 ∨ h = 0 then .done 0 s
  else
    let touched := fun (bx : Nat) => (List.range n).any (fun k =>
      decide (u + k * adv < 64 * bx + 64 ∧ 64 * bx < u + k * adv + gw))
    let res := ((blockRange v h).flatMap (fun r => ((blockRange u w).filter touched).map (fun x => (x, r)))).foldl
      (fun o br => match o with
        | none => none
        | some (bad, s) => (s.editPartial c.plane br.1 br.2 (fun i j old =>
            let tu := 64 * br.1 + i
            let tv := 64 * br.2 + j
            if u ≤ tu ∧ tu < u + w ∧ v ≤ tv ∧ tv < v + h then draw tu tv old else old)).map (fun x => (bad || x.1, x.2)))
      (some (false, s))
    match res with
    | none => .wait
    | some (bad, s) => .done (if bad then 0x30D else 0) s.scnGc

/-- SET_DEPTH: word W1 alone (R139). -/
def State.cmdDepth (s : State) (c : KstCmd) (old : PlaneDesc) : Applied :=
  let w := beNat (slice c.body 0 4)
  if 2 ^ 24 ≤ w then .done 0x303 s else .done 0 (s.setStagingPlane c.plane { old with z := signedBits w 24 })

/-- COMMIT_FRAME (R146, R148, R149). -/
def State.cmdCommit (s : State) (k frame : Nat) : Applied :=
  match s.scn.staging with
  | none => .done 0 s
  | some v =>
    if frame < s.targetOf v then .done 0 (s.add (Reg.ingStat 9) 1)
    else
      let x := s.sess k
      .done 0 (((s.setSess k { x with doneFrame := some frame }).wr (Reg.ingSCommitLo k) (frame % 2 ^ 32)).checkComplete)

/-- The zero, range and region checks of a command (R139), in order; 0 where all pass. -/
def State.cmdCodes (s : State) (c : KstCmd) : Nat :=
  let g := fun i => beNat (slice c.body i 2)
  let b := fun i => beNat (slice c.body i 1)
  let d := s.stagingPlane c.plane
  let inside := fun (d : Option PlaneDesc) (u v w h : Nat) => match d with
    | some d => decide (u + w ≤ 64 * d.wblk ∧ v + h ≤ 64 * d.hblk)
    | none => true
  if c.op = 3 then
    if g 2 = 0 ∨ beNat (slice c.body 4 4) = 0 then 2
    else match d with | some d => if d.wblk ≤ b 0 ∨ d.hblk ≤ b 1 then 0x304 else 0 | none => 0
  else if c.op = 4 then
    if g 8 = 0 ∨ g 10 = 0 then 2
    else if !inside (s.stagingPlane (b 0)) (g 4) (g 6) (g 8) (g 10) || !inside d (g 12) (g 14) (g 8) (g 10) then 0x304 else 0
  else if c.op = 5 then
    if g 4 = 0 ∨ g 6 = 0 then 2 else if !inside d (g 0) (g 2) (g 4) (g 6) then 0x304 else 0
  else if c.op = 6 then
    if b 4 = 0 ∨ b 5 = 0 ∨ b 6 = 0 then 2 else if 64 < b 4 ∨ 64 < b 5 then 1 else 0
  else 0

/-- Whether a general engine named in EDIT_ENGINES is ACTIVE (R159). -/
def State.editEngine (s : State) : Bool := (List.range 8).any (fun n => s.flag Reg.ingCtrl (8 + n) && s.unitState (72 + n) == 0)

/-- Whether a command edits part of a block, in a plane of descriptor `d` (R115, R159). -/
def KstCmd.partial_ (c : KstCmd) (d : PlaneDesc) : Bool :=
  let g := fun i => beNat (slice c.body i 2)
  let off := fun (i : Nat) => g i % 64 != 0
  if c.op = 4 then off 8 || off 10 || off 12 || off 14 || (g 4 + 64 * 1024 - g 12 % 64) % 64 != 0 || (g 6 + 64 * 1024 - g 14 % 64) % 64 != 0
  else if c.op = 5 then off 0 || off 2 || off 4 || off 6
  else c.op == 6 && decide (g 0 < 64 * d.wblk ∧ g 2 < 64 * d.hblk)

/-- Apply one well-formed command (R139); the checks in their order first. -/
def State.runCmd (s : State) (k : Nat) (a : Applying) (c : KstCmd) : Applied :=
  let d := s.stagingPlane c.plane
  let code := s.cmdCodes c
  if c.op = 8 then s.cmdCommit k a.frame
  else if c.op = 0 ∨ 8 < c.op then .done 0x307 s
  else if 32 ≤ c.plane ∨ !s.flag (Reg.ingSPlanes k) c.plane then .done 0x301 s
  else if c.op = 1 then s.cmdDefine c
  else match d with
    | none => .done 0x302 s
    | some d =>
      if c.op = 4 ∧ (s.stagingPlane (beNat (slice c.body 0 1))).isNone then .done 0x302 s
      else if code ≠ 0 then .done code s
      else if c.partial_ d && !s.editEngine then .hold
      else if c.op = 2 then s.cmdAlter c d
      else if c.op = 3 then s.cmdWriteBlock k a.frame c
      else if c.op = 4 then s.cmdCopy c
      else if c.op = 5 then s.cmdFill c
      else if c.op = 6 then s.cmdGlyph c d
      else s.cmdDepth c d

/-- A change that waits for space (R118). -/
def State.waitSpace (s : State) (k : Nat) : State :=
  { s with scn := { s.scn with waiting := some k } }.raise 0x20000 3

/-- Apply the command at the front of session `k`'s datagram; `ops` are the OPs the caller may apply. Commands act on the staging version:
where a COMMIT_FRAME in the datagram has closed it, the rest waits for the next one (R139, R147). -/
def State.stepCmd (s : State) (k : Nat) (ops : Nat → Bool) : State :=
  match (s.sess k).applying with
  | none => s
  | some a => match a.head with
    | none =>
      if ops 0 && s.scn.staging.isSome then
        let s := s.cmdError k a.seq 0x308
        (s.setSess k { s.sess k with applying := none }).toWaitKey k
      else s
    | some c =>
      if !ops c.op || s.scn.staging.isNone then s
      else match s.runCmd k a c with
        | .wait => s.waitSpace k
        | .hold => s
        | .done code s =>
          let s := if (code = 0 ∨ code = 0x30D) ∧ c.op ≠ 8 then s.tagStaging a.frame else s
          let s := if code = 0 then s else s.cmdError k a.seq code
          (s.nextCmd k a c).scnLowCheck

/-- One update command row: nothing while a change waits for space, of whichever session (R118; log entry 175). -/
def State.updateCommand (s : State) (k op : Nat) : State :=
  if s.scn.waiting.isSome || !s.domOn 14 then s else s.stepCmd k (fun o => o == op)

/-- A change that waited goes on where there is space; with only the front and the staging version left, the staging
version is discarded and the sessions wait for a key (R118). The same is done where there is no front version (log entry 153). -/
def State.resumeChange (s : State) : State :=
  match s.scn.waiting with
  | none => s
  | some k =>
    let s0 := { s with scn := { s.scn with waiting := none } }
    let s1 := s0.stepCmd k (fun _ => true)
    if s1.scn.waiting = none then s1
    else if s.scn.back.isNone && s.scn.pendingV.isEmpty then
      let s2 := ({ s0 with scn := { s0.scn with staging := none } }.raise 0x20000 3).scnGc
      (List.range 64).foldl (fun s k => s.toWaitKey k) s2
    else s

/-! ### What ingest sends (R141, R150-R152) -/

/-- A KST datagram from session `k`, sealed with its newest key (R135, R136, R150). Its FRAME is the current frame's (log entry 178). -/
def State.kstBuild (s : State) (k type : Nat) (payload : List Byte) : List Byte × State :=
  let x := s.sess k
  let key := x.keys.getD x.newestSlot KeySlot.reset
  let head := beBytes 2 0x4B53 ++ [0x01, BitVec.ofNat 8 type, BitVec.ofNat 8 k, BitVec.ofNat 8 (2 * x.newestSlot)] ++
    beBytes 2 payload.length ++ beBytes 6 x.egress ++ beBytes 2 0 ++ beBytes 8 s.ras.frame ++ beBytes 8 0
  let nonce := kstNonce key.salt 1 k x.egress
  let cipher := gcmCrypt key.key nonce payload
  (head ++ cipher ++ gcmTag key.key nonce head cipher, s.setSess k { x with egress := x.egress + 1 })

/-- Missing sequence numbers as ranges (first, count), oldest first; `fuel` numbers are looked at from `seq` on. -/
def missingRanges (have_ : Nat → Bool) : Nat → Nat → List (Nat × Nat)
  | 0, _ => []
  | n + 1, seq =>
    let rest := missingRanges have_ n (seq + 1)
    if have_ seq then rest
    else match rest with
      | (f, c) :: r => if f = seq + 1 then (seq, c + 1) :: r else (seq, 1) :: rest
      | [] => [(seq, 1)]

/-- The ranges a NACK of session `x` carries: at most 32 (R141). -/
def Session.nackRanges (x : Session) : List (Nat × Nat) :=
  let top := x.buf.foldl (fun m d => max m d.seq) x.exp
  (missingRanges (fun q => x.buf.any (fun d => d.seq == q)) (top - x.exp) x.exp).take 32

/-- The payload of a NACK (R141). -/
def nackPayload (r : List (Nat × Nat)) : List Byte :=
  beBytes 2 r.length ++ beBytes 2 0 ++ r.flatMap (fun x => beBytes 6 x.1 ++ beBytes 2 x.2)

/-- Whether a NACK is due (R140): DELAY after the gap opened, then every INTERVAL, up to RETRIES. -/
def State.nackDue (s : State) (k : Nat) : Bool :=
  let x := s.sess k
  match x.gapAt with
  | none => false
  | some g => s.flag Reg.ingCtrl 1 && s.sessSource k == 0 && x.reply.isSome && decide (x.nacks < s.fld Reg.ingNackRetries 3 0) &&
    decide ((if x.nacks = 0 then g + s.fld Reg.ingNackTiming 15 0 * us else x.lastNack + s.fld Reg.ingNackTiming 31 16 * us) ≤ s.now)

/-- Whether a gap has outlasted its NACKs (R140, R150). -/
def State.gapTimedOut (s : State) (k : Nat) : Bool :=
  let x := s.sess k
  match x.gapAt with
  | none => false
  | some g =>
    if s.flag Reg.ingCtrl 1 && s.sessSource k == 0 then
      decide (s.fld Reg.ingNackRetries 3 0 ≤ x.nacks ∧ x.lastNack + s.fld Reg.ingNackTiming 31 16 * us ≤ s.now)
    else decide (g + s.fld Reg.ingNackTiming 15 0 * us ≤ s.now)

/-- The REPORT payload of session `k` for frame `f` (R151). -/
def State.reportPayload (s : State) (k f : Nat) : List Byte :=
  let x := s.sess k
  let sat := fun (n v : Nat) => beBytes n (min v (256 ^ n - 1))
  let flags := (if s.scn.heldShown then 1 else 0) + (if s.ing.dropped then 2 else 0) + (if x.gapAt.isSome then 4 else 0) +
    (if s.fld Reg.ingReasmSize 11 0 * 2 ^ 20 < s.reasmUsed + 32 then 8 else 0) + (if bitOf s.scnStatus 19 then 16 else 0)
  beBytes 8 f ++ beBytes 8 s.scn.shown ++ beBytes 8 ((s.scn.newest.map (fun v => v.tag)).getD 0) ++
  beBytes 6 x.exp ++ beBytes 1 x.state ++ beBytes 1 flags ++ sat 4 x.repRx ++ sat 2 x.repAuth ++ sat 2 x.repDup ++ sat 2 x.repErr ++
  sat 2 s.ing.repBad ++ sat 4 s.ing.repMirage ++ sat 4 s.ing.repLines ++ beBytes 2 x.records.length ++ beBytes 10 0 ++
  x.records.flatMap (fun r => beBytes 6 r.1 ++ beBytes 2 r.2)

/-- RAS_FRAME_DONE of frame `f`: each reporting session's REPORT is made up and its counts start anew (R151). -/
def State.frameReports (s : State) (f : Nat) : State :=
  let s := (List.range 64).foldl (fun s k =>
    let x := s.sess k
    if x.state = 0 then s
    else
      let due := s.sessSource k == 0 && s.flag (Reg.ingSCtrl k) 5
      s.setSess k { x with report := if due then some (s.reportPayload k f) else none, repRx := 0, repAuth := 0, repDup := 0,
                           repErr := 0, records := [] }) s
  { s with ing := { s.ing with repBad := 0, repMirage := 0, repLines := 0 },
           scn := { s.scn with heldShown := s.scn.heldLatch, shown := (s.scn.front.map (fun v => v.tag)).getD 0 } }

/-- The payload of a PATH_CHANGE (R152). -/
def State.pathChangePayload (s : State) (k path : Nat) (cold : Bool) : List Byte :=
  beBytes 8 s.ras.frame ++ beBytes 1 path ++ beBytes 1 (if cold then 1 else 0) ++ beBytes 6 (s.sess k).exp ++
  beBytes 8 ((s.scn.newest.map (fun v => v.tag)).getD 0)

/-! ### Opening and closing sessions, injection, registers (R134, R153, R164) -/

/-- A session becomes CLOSED; its key slots stay, everything buffered for it goes (R134, R145). -/
def State.shutSess (s : State) (k : Nat) : State :=
  let x := s.sess k
  (s.dropWaiting k).setSess k { Session.reset with keys := x.keys, newestSlot := x.newestSlot }

/-- Close a session, which may be the last one that a complete version waited for (R146). -/
def State.closeSess (s : State) (k : Nat) : State := (s.shutSess k).checkComplete

/-- Open a session in WAIT_KEY (R134, R150). -/
def State.openSess (s : State) (k : Nat) : State :=
  let x := s.sess k
  s.setSess k { Session.reset with state := 1, keys := x.keys, newestSlot := x.newestSlot }

/-- A network session goes to WAIT_KEY on a cold takeover (R134, R152). -/
def State.coldSessions (s : State) : State :=
  (List.range 64).foldl (fun s k => if s.sessSource k = 0 then s.toWaitKey k else s) s

/-- A started injection ends (R153, R164). -/
def State.injectDone (s : State) : State :=
  match s.ing.inject with
  | none => s
  | some (k, poisoned, bytes) =>
    let s := { s with ing := { s.ing with inject := none } }
    let s := if poisoned then s.kstHeaderFail.setFlag Reg.ingInjCtrl 30 true else s.kstArrive 2 (some k) none (0, 0) bytes
    (s.setFlag Reg.ingInjCtrl 31 false).raise 0x30000 5

/-- The injection's address. -/
def State.injAddr (s : State) : Nat := s.rd Reg.ingInjAddrLo + s.rd Reg.ingInjAddrHi * 2 ^ 32

/-- Whether a plane mask overlaps that of another enabled session (R132). -/
def State.maskOverlap (s : State) (k : Nat) : Bool :=
  (List.range 64).any (fun j => j != k && s.flag (Reg.ingSCtrl j) 0 &&
    decide (Nat.land (s.rd (Reg.ingSPlanes j)) (s.rd (Reg.ingSPlanes k)) ≠ 0))

/-- Block-specific checks of a write to the ING page (R164). -/
def State.ingCheck (s : State) (off data : Nat) : List Nat :=
  let en := s.flag Reg.ingCtrl 0
  if off = 0x40 then codeIf (en && bitsOf data 15 8 != s.fld Reg.ingCtrl 15 8) 9
  else if off = 0x4C then codeIf (en && bitsOf data 11 0 != s.fld Reg.ingReasmSize 11 0) 9
  else if off = 0x68 then
    codeIf (s.sessSource (bitsOf data 21 16) != 2) 6 ++
    (if bitOf data 31 then codeIf (s.flag Reg.ingInjCtrl 31) 9 ++ codeIf (!s.dramOk s.injAddr (bitsOf data 13 0)) 0xB else [])
  else if 0x400 ≤ off ∧ off < 0x400 + 64 * 0x30 then
    let k := (off - 0x400) / 0x30
    let w := (off - 0x400) % 0x30
    let open_ := s.flag (Reg.ingSCtrl k) 0
    if w = 0 then
      let src := bitsOf data 3 2
      codeIf (open_ && (src != s.sessSource k || bitOf data 4 != s.flag (Reg.ingSCtrl k) 4)) 9 ++
      (if bitOf data 0 then
        codeIf (s.rd (Reg.ingSPlanes k) == 0) 1 ++
        codeIf ((src == 0 && !bitOf data 4) || (src == 2 && bitOf data 4) || (src != 0 && bitOf data 5) || s.maskOverlap k) 6 ++
        codeIf (bitOf data 4 && !(s.sess k).keys.any (fun x => x.loaded)) 0x30C
       else [])
    else if w = 4 then codeIf (open_ && data != s.rd (Reg.ingSPlanes k)) 9
    else []
  else []

/-- Effects of an accepted write to the ING page. -/
def State.ingEffect (s : State) (off old data : Nat) : State :=
  if off = 0x40 then
    if bitOf old 0 && !bitOf data 0 then
      (List.range 64).foldl (fun s k => (s.setFlag (Reg.ingSCtrl k) 0 false).shutSess k) s
    else s
  else if off = 0x68 then
    if bitOf data 31 then
      let r := s.dramRead s.injAddr (bitsOf data 13 0)
      { s.setFlag Reg.ingInjCtrl 30 false with ing := { s.ing with inject := some (bitsOf data 21 16, r.isNone, r.getD []) } }
    else s
  else if 0x400 ≤ off ∧ off < 0x400 + 64 * 0x30 ∧ (off - 0x400) % 0x30 = 0 then
    let k := (off - 0x400) / 0x30
    if bitOf data 0 && !bitOf old 0 then s.openSess k
    else if !bitOf data 0 && bitOf old 0 then s.closeSess k
    else s.checkComplete
  else s

/-- Computed words of the ING page. -/
def State.ingRead (s : State) (off : Nat) : Option Nat :=
  if off = 0x50 then
    some ((if s.fld Reg.ingReasmSize 11 0 * 2 ^ 20 < s.reasmUsed + 32 then 1 else 0) +
      (s.ing.sessions.countP (fun x => x.state == 2)) * 2 ^ 8)
  else if 0x400 ≤ off ∧ off < 0x400 + 64 * 0x30 then
    let k := (off - 0x400) / 0x30
    let w := (off - 0x400) % 0x30
    let x := s.sess k
    if w = 0 then
      some (putBits (s.rd (Reg.ingSCtrl k)) 9 8
        ((if (x.keys.getD 0 KeySlot.reset).loaded then 1 else 0) + (if (x.keys.getD 1 KeySlot.reset).loaded then 2 else 0)))
    else if w = 8 then some (x.state + (if x.gapAt.isSome then 256 else 0))
    else if w = 0xC then some (x.exp % 2 ^ 32)
    else if w = 0x10 then some (x.exp / 2 ^ 32 % 65536)
    else none
  else none

end Sys2Proof.Machine
end

