-- ==== Sys2Proof/Machine/MbcEngine.lean ====
section
/-! DEFINITION. The eight general MBC engines: descriptor ring, jobs, stops and resumes (R159-R161, R166, R167). -/

namespace Sys2Proof.Machine

/-- Engine `n`. -/
def State.eng (s : State) (n : Nat) : MbcEng := s.mbc.getD n MbcEng.reset

/-- Replace engine `n`. -/
def State.setEng (s : State) (n : Nat) (e : MbcEng) : State := { s with mbc := s.mbc.set n e }

/-- The ring base of engine `n`. -/
def State.mbcRing (s : State) (n : Nat) : Nat := s.rd (Reg.mbcRingLo n) + s.rd (Reg.mbcRingHi n) * 2 ^ 32

/-- Address of the descriptor at the head of the ring. -/
def State.mbcHeadAddr (s : State) (n : Nat) : Nat := s.mbcRing n + 32 * s.rd (Reg.mbcRingHead n)

/-- `n` little-endian 32-bit words. -/
def leWords : Nat → List Byte → List Nat
  | 0, _ => []
  | n + 1, bs => leNat (bs.take 4) :: leWords n (bs.drop 4)

/-- The descriptor words at the head of the ring; none where the read returns poisoned data, as one outside the DRAM does
(R160, R522). -/
def State.mbcDesc (s : State) (n : Nat) : List Nat :=
  match s.dramRead (s.mbcHeadAddr n) 32 with
  | some b => leWords 8 b
  | none => []

/-- Source and destination of a descriptor (R160). -/
def descSrc (w : List Nat) : Nat := w.getD 2 0 + w.getD 3 0 * 2 ^ 32
def descDst (w : List Nat) : Nat := w.getD 4 0 + w.getD 5 0 * 2 ^ 32

/-- Checks of a descriptor before any work (R160): the first failing code, 0 where all pass. -/
def State.descCode (s : State) (w : List Nat) : Nat :=
  let g := fun i => w.getD i 0
  let op := bitsOf (g 0) 3 0
  if w = [] then 0x409
  else if bitsOf (g 0) 7 6 ≠ 0 ∨ bitsOf (g 0) 15 10 ≠ 0 ∨ bitsOf (g 0) 29 24 ≠ 0 ∨ bitOf (g 0) 31 then 3
  else if g 6 = 0 ∨ (op ≤ 1 ∧ g 7 = 0) then 2
  else if 2 < op ∨ (op = 1 ∧ bitsOf (g 0) 5 4 = 3) then 1
  else if !s.dramOk (descSrc w) (g 6) ∨ (op ≠ 2 ∧ !s.dramOk (descDst w) (g 7)) then 0xB
  else if op = 1 ∧ 65536 < g 6 then 0x404
  else if op = 1 ∧ !headerRules (bitsOf (g 0) 9 8) (bitsOf (g 0) 23 16) (bitsOf (g 1) 15 0) (g 6) then 0x403
  else 0

/-- Room of a job: the destination bytes given so far. -/
def MbcJob.room (j : MbcJob) : Nat := (j.chunks.map (fun c => c.2)).sum

/-- How the job stands with the source and the room given so far (R157, R161). -/
def MbcJob.result (j : MbcJob) (pre : Nat) : DecodeRes :=
  let op := bitsOf (j.words.getD 0 0) 3 0
  if pre ≠ 0 then { code := pre, stop := 0, out := [], consumed := 0 }
  else if op = 1 then
    if j.poisoned then { code := 0x409, stop := 0, out := [], consumed := 0 }
    else
      let w0 := j.words.getD 0 0
      let u := mbcEncode (bitsOf w0 5 4) (bitsOf w0 23 16) (bitsOf w0 9 8) (bitsOf (j.words.getD 1 0) 15 0) false j.input
      if j.room < u.length then { code := 0, stop := 1, out := u.take j.room, consumed := j.input.length }
      else { code := 0, stop := 0, out := u, consumed := j.input.length }
  else
    let r := mbcDecode none none (if op = 2 then 65536 else j.room) j.input
    if r.stop = 2 ∧ j.poisoned then { code := 0x409, stop := 0, out := [], consumed := r.consumed }
    else if op = 2 then { r with out := [] } else r

/-- Write output bytes over the destination chunks, in order. -/
def State.writeChunks (s : State) : List (Nat × Nat) → List Byte → State
  | [], _ => s
  | (a, n) :: cs, bs => (s.dramWrite a (bs.take n)).writeChunks cs (bs.drop n)

/-- Whether engine `n` may take the descriptor at its head (R160). -/
def State.mbcReady (s : State) (n : Nat) : Bool :=
  decide (n < 8) && s.flag (Reg.mbcCtrl n) 0 && (s.eng n).state == 0 && s.rd (Reg.mbcRingHead n) != s.rd (Reg.mbcRingTail n) &&
  s.unitState (72 + n) == 0

/-- Take the descriptor at the head (R160): the engine is RUNNING. `ops` are the OPs the caller takes. -/
def State.mbcTake (s : State) (n : Nat) (ops : Nat → Bool) : State :=
  let w := s.mbcDesc n
  if s.mbcReady n && ops (bitsOf (w.getD 0 0) 3 0) then
    let len := w.getD 6 0
    let input := if s.descCode w = 0 then s.readPrefix (descSrc w) len else []
    let e : MbcEng :=
      { state := 1, fetched := true,
        job := some { words := w, input := input, chunks := [(descDst w, w.getD 7 0)], written := 0,
                      poisoned := decide (input.length < len) } }
    (((s.setEng n e).setFld (Reg.mbcJobStat n) 2 0 1).wr (Reg.mbcInConsumed n) 0).wr (Reg.mbcOutProduced n) 0
  else s

/-- The end of a job: STATUS and lengths go into the descriptor, and the ring goes on (R160). -/
def State.mbcEnd (s : State) (n : Nat) (j : MbcJob) (code consumed produced : Nat) : State :=
  let a := s.mbcHeadAddr n
  let s := s.dramWrite (a + 6) (leBytes 2 code)
  let s := s.dramWrite (a + 24) (leBytes 4 consumed ++ leBytes 4 produced)
  let s := s.setEng n MbcEng.reset
  let s := s.wr (Reg.mbcRingHead n) ((s.rd (Reg.mbcRingHead n) + 1) % max (s.fld (Reg.mbcRingSize n) 12 0) 1)
  let s := s.wr (Reg.mbcJobStat n) (code % 65536 * 65536)
  let s := (s.wr (Reg.mbcInConsumed n) consumed).wr (Reg.mbcOutProduced n) produced
  let s := ((s.add (Reg.mbcStat n 0) 1).add (Reg.mbcStat n 1) consumed).add (Reg.mbcStat n 2) produced
  let s := if code = 0x408 then s.add (Reg.mbcStat n 3) 1 else if 0x401 ≤ code ∧ code ≤ 0x407 then s.add (Reg.mbcStat n 4) 1 else s
  let base := 0x40000 + 0x1000 * n
  let s := if bitOf (j.words.getD 0 0) 30 then s.raise base 0 else s
  let s := if code = 0 then s else s.raise base 2
  if s.rd (Reg.mbcRingHead n) = s.rd (Reg.mbcRingTail n) then s.raise base 3 else s

/-- A running job that comes to its end (R160). -/
def State.mbcJobDone (s : State) (n : Nat) : State :=
  match (s.eng n).job with
  | none => s
  | some j =>
    let r := j.result (s.descCode j.words)
    if (s.eng n).state ≠ 1 ∨ r.stop ≠ 0 then s
    else
      let out := if r.code = 0 then r.out else []
      (s.writeChunks j.chunks out).mbcEnd n j r.code r.consumed out.length

/-- A stopped or running job ends with CANCELLED (R161, R167). -/
def State.mbcCancel (s : State) (n : Nat) : State :=
  match (s.eng n).job with
  | none => s
  | some j => s.mbcEnd n j 0x40C (s.rd (Reg.mbcInConsumed n)) (s.rd (Reg.mbcOutProduced n))

/-- A running job that is out of space or out of source stops (R161); on an engine in FENCING it ends there (R167). -/
def State.mbcStopped (s : State) (n : Nat) : State :=
  match (s.eng n).job with
  | none => s
  | some j =>
    let r := j.result (s.descCode j.words)
    if (s.eng n).state ≠ 1 ∨ r.stop = 0 then s
    else
      let st := if r.stop = 1 then 2 else 3
      let s := s.writeChunks j.chunks r.out
      let s := s.setEng n { s.eng n with state := st, job := some { j with written := r.out.length } }
      let s := ((s.setFld (Reg.mbcJobStat n) 2 0 st).wr (Reg.mbcInConsumed n) r.consumed).wr (Reg.mbcOutProduced n) r.out.length
      let s := (s.add (Reg.mbcStat n 5) 1).raise (0x40000 + 0x1000 * n) 1
      if s.unitState (72 + n) = 1 then s.mbcCancel n else s

/-- The resume buffer of engine `n`. -/
def State.mbcResumeAddr (s : State) (n : Nat) : Nat := s.rd (Reg.mbcResumeAddrLo n) + s.rd (Reg.mbcResumeAddrHi n) * 2 ^ 32

/-- A RESUME write (R161). -/
def State.mbcResumeOp (s : State) (n data : Nat) : State :=
  match (s.eng n).job with
  | none => s
  | some j =>
    let len := s.rd (Reg.mbcResumeLen n)
    let a := s.mbcResumeAddr n
    if bitOf data 2 then s.mbcCancel n
    else
      let j := if bitOf data 0 then { j with chunks := j.chunks ++ [(a, len)] }
        else
          let more := s.readPrefix a len
          { j with input := j.input ++ more, poisoned := j.poisoned || decide (more.length < len) }
      (s.setEng n { s.eng n with state := 1, job := some j }).setFld (Reg.mbcJobStat n) 2 0 1

/-- Checks of a write to an MBC page (R159, R166, R167). -/
def State.mbcCheck (s : State) (n off data : Nat) : List Nat :=
  let en := s.flag (Reg.mbcCtrl n) 0
  if off = 0x40 then codeIf (bitOf data 0 && !en && s.flag Reg.ingCtrl (8 + n)) 6
  else if off = 0x44 ∨ off = 0x48 ∨ off = 0x4C then codeIf en 9
  else if off = 0x50 then codeIf (decide (s.fld (Reg.mbcRingSize n) 12 0 ≤ data)) 1
  else if off = 0x70 then
    let st := (s.eng n).state
    let ok := (data == 1 && st == 2) || (data == 2 && st == 3) || (data == 4 && (st == 2 || st == 3))
    codeIf (!ok && data != 0) 0xF ++ codeIf ((data == 1 || data == 2) && s.rd (Reg.mbcResumeLen n) == 0) 2
  else []

/-- Effects of an accepted write to an MBC page. -/
def State.mbcEffect (s : State) (n off old data : Nat) : State :=
  if off = 0x40 then (if bitOf old 0 && !bitOf data 0 then s.mbcCancel n else s)
  else if off = 0x70 then (if data = 0 then s else s.mbcResumeOp n data)
  else s

end Sys2Proof.Machine
end

