-- ==== Sys2Proof/Machine/Dram.lean ====
section
/-! DEFINITION. The DRAM controllers: queues, refresh, parity replay, ECC, scrubbing, row-disturbance protection, training,
and the DMC pages (R399-R415, R425, R426). -/

namespace Sys2Proof.Machine

def State.chan (s : State) (c : Nat) : Chan := s.dmc.chans.getD c Chan.reset
def State.setChan (s : State) (c : Nat) (x : Chan) : State := { s with dmc := { s.dmc with chans := s.dmc.chans.set c x } }

/-- Base of channel page `c`. -/
def dmcBase (c : Nat) : Nat := 0x140000 + 0x1000 * c

/-- The refreshes owed (R404), shown in STATUS.OWED. -/
def State.owed (s : State) (c : Nat) : Nat := s.fld (Reg.dmcChStatus c) 22 20
def State.setOwed (s : State) (c n : Nat) : State := s.setFld (Reg.dmcChStatus c) 22 20 n

/-- The refresh interval in force (R403): 3.9 µs, or 1.95 µs while the channel is hot. -/
def State.trefiTime (s : State) (c : Nat) : Nat := if s.flag (Reg.dmcChStatus c) 17 then 1950 * ns else 3900 * ns

/-! ### Refresh (R403, R404, R413) -/

/-- The time that a refresh takes: 295 ns for 16 Gb dies, as the example of R404 has it, and 410 ns for larger ones (JESD79-5; log entry
187). -/
def State.refreshTime (s : State) (c : Nat) : Nat :=
  if (((s.dimms.getD c [])[0]?).map (fun d => d.density)).getD 16 ≤ 16 then 295 * ns else 410 * ns

/-- `k` refreshes are issued. They interrupt real-time service, whose count restarts when it resumes, and one queued DQS step may be applied
with them. -/
def State.refreshNow (s : State) (c k : Nat) (pre : Bool) : State :=
  if k = 0 then s
  else
    let s := s.add (Reg.dmcChStat c 2) k
    let s := if pre then s.add (Reg.dmcChStat c 4) k else s
    let x : Chan := { s.chan c with softAt := max s.now (s.chan c).softAt + k * s.refreshTime c }
    if x.drift ≠ 0 ∧ x.dqsAt + 10 * us ≤ s.now then
      let d : Int := if 0 < x.drift then 1 else -1
      s.setChan c { x with dqs := x.dqs + d, drift := x.drift - d, dqsAt := s.now }
    else s.setChan c x

/-- TREFI (R404): a refresh becomes due. -/
def State.trefi (s : State) (c : Nat) : State :=
  let due := (s.chan c).refLast + s.trefiTime c
  if c < 12 ∧ s.chanUsable c ∧ due ≤ s.now then
    let s := s.setChan c { s.chan c with refLast := due }
    let n := s.owed c + 1
    if s.fld Reg.dmcRefresh 10 0 = 0 then (s.setOwed c 0).refreshNow c n false
    else if 4 < n then (s.setOwed c (n - 1)).refreshNow c 1 true
    else (s.setOwed c n).add (Reg.dmcChStat c 3) 1
  else s

/-- HARD_BOUNDARY (R404). With `raster`, the boundary is column HACTIVE of a raster line, which counts with RASTER_ALIGN 1. -/
def State.hardBoundary (s : State) (c : Nat) (raster : Bool) : State :=
  if c < 12 ∧ s.chanUsable c ∧ (!raster || (s.flag Reg.dmcRefresh 16 && decide (s.posInstant s.ras.frame s.ras.line s.ras.timing.hactive ≤ s.now))) then
    ((s.setChan c { s.chan c with softAt := s.now }).setOwed c 0).refreshNow c (s.owed c) false
  else s

/-- SOFT_BOUNDARY (R404). -/
def State.softBoundary (s : State) (c : Nat) : State :=
  let burst := s.fld Reg.dmcRefresh 10 0
  if c < 12 ∧ s.chanUsable c ∧ burst ≠ 0 ∧ (s.chan c).softAt + burst * ns ≤ s.now then
    let s := s.setChan c { s.chan c with softAt := s.now }
    if s.owed c = 4 then (s.setOwed c 3).refreshNow c 1 false else s
  else s

/-- A round's DIMM temperatures: the refresh rate doubles above HOT_T and returns at HOT_T - HYST (R403, R404). -/
def State.dimmTemps (s : State) (c : Nat) (temps : List Int) : State :=
  if s.chanUsable c then
    let temps := temps.take (s.dimms.getD c []).length
    let hot := (s.fld Reg.dmcCfg 7 0 : Int)
    let hyst := (s.fld Reg.dmcCfg 15 8 : Int)
    let s := s.wr (Reg.dmcChTemp c) (toBits 8 (temps.getD 0 0) + toBits 8 (temps.getD 1 0) * 256)
    let n := s.owed c
    if !s.flag (Reg.dmcChStatus c) 17 && temps.any (fun t => decide (hot < t)) then
      let s := (s.setFlag (Reg.dmcChStatus c) 17 true).raise (dmcBase c) 6
      (s.setOwed c (min (2 * n) 4)).refreshNow c (2 * n - 4) true
    else if s.flag (Reg.dmcChStatus c) 17 && temps.all (fun t => decide (t ≤ hot - hyst)) then
      (s.setFlag (Reg.dmcChStatus c) 17 false).setOwed c ((n + 1) / 2)
    else s
  else s

/-- DQS_DRIFT_CHECK (R413): the steps of drift measured since the last check are queued. -/
def State.driftCheck (s : State) (c : Nat) (steps : Int) : State :=
  let x := s.chan c
  if c < 12 ∧ s.chanUsable c ∧ x.driftAt + 100 * ms ≤ s.now then s.setChan c { x with drift := x.drift + steps, driftAt := s.now } else s

/-! ### Row-disturbance protection (R409, R410) -/

/-- One more activate of a row in its bank's table; the count it reaches (R409). -/
def bankActivate (row : Nat) (l : List (Nat × Nat)) : Nat × List (Nat × Nat) :=
  match l.find? (fun e => e.1 == row) with
  | some e => (e.2 + 1, l.map (fun x => if x.1 = row then (row, x.2 + 1) else x))
  | none =>
    if l.length < 32 then (1, l ++ [(row, 1)])
    else
      let low := l.foldl (fun m x => min m x.2) (l.getD 0 (0, 0)).2
      (low + 1, (l.eraseIdx ((l.findIdx? (fun x => x.2 == low)).getD 0)) ++ [(row, low + 1)])

/-- Whether a bulk requester may not activate a row of a bank yet (R410). -/
def State.throttled (s : State) (c who bank : Nat) : Bool :=
  (s.chan c).thr.any (fun e => e.1 == who && e.2.1 == bank && decide (s.now < e.2.2.1) && decide (s.now < e.2.2.2 + s.fld (Reg.dmcChRh c) 31 24 * 10 * ns))

/-- The neighbours of a row are refreshed: by RFM where RFM_EN is 1 and the DIMMs support it, else row by row (R409; log entry 189). -/
def State.neighbours (s : State) (c bank row : Nat) : State :=
  s.emit (.ddr c (if s.flag (Reg.dmcChCtrl c) 1 && (s.dimms.getD c []).all (fun d => d.rfm) then .rfm bank
    else .rows bank ((if 2 ≤ row then [row - 2] else []) ++ (if 1 ≤ row then [row - 1] else []) ++ [row + 1, row + 2])))

/-- An activate, its count, and the neighbour refresh and throttle that it may bring (R409, R410). -/
def State.activate (s : State) (c who : Nat) (rt : Bool) : Option (Nat × Nat) → State
  | none => s
  | some (bank, row) =>
    let x := s.chan c
    let w := s.now / (32 * ms)
    let banks := if x.window = w then x.banks else []
    let (n, table) := bankActivate row (((banks.find? (fun b => b.1 == bank)).map (fun b => b.2)).getD [])
    let full := decide (s.fld (Reg.dmcChRh c) 15 0 ≤ n)
    let table := if full then table.map (fun e => if e.1 = row then (row, 0) else e) else table
    let thr := (x.thr.filter (fun e => decide (s.now < e.2.2.1))).map (fun e => if e.1 = who ∧ e.2.1 = bank then (e.1, e.2.1, e.2.2.1, s.now) else e)
    let x := { x with window := w, banks := (bank, table) :: banks.filter (fun b => b.1 != bank), thr := thr }
    if full then
      let trigs := (who, bank, s.now) :: x.trigs.filter (fun e => decide (s.now < e.2.2 + ms))
      let much := decide (s.fld (Reg.dmcChRh c) 23 16 < trigs.countP (fun e => e.1 == who && e.2.1 == bank))
      let s := ((s.setChan c { x with trigs := trigs }).add (Reg.dmcChStat c 10) 1).neighbours c bank row
      if much && rt then (s.setChan c { s.chan c with rtOver := (s.chan c).rtOver + 1 }).raise (dmcBase c) 5
      else if much then
        ((s.setChan c { s.chan c with thr := (who, bank, s.now + ms, s.now) :: (s.chan c).thr.filter (fun e => !(e.1 == who && e.2.1 == bank)) }).add
          (Reg.dmcChStat c 11) 1).raise (dmcBase c) 4
      else s
    else s.setChan c x

/-! ### Reads, writes and ECC (R402, R406-R408) -/

/-- Record the last error of a channel (R425). -/
def State.dramErr (s : State) (c a who info : Nat) : State :=
  let off := a - chanBase c
  ((s.wr (Reg.dmcChErrLo c) (off % 2 ^ 32)).wr (Reg.dmcChErrHi c) (off / 2 ^ 32 % 64)).wr (Reg.dmcChErrInfo c) (info + who % 65536 * 65536)

/-- A corrected error: counted, and DMC_CE_LIMIT when the hour holds more than CE_LIMIT (R406, R408). -/
def State.corrected (s : State) (c a who bit : Nat) : State :=
  let s := ((s.dramErr c a who (bit % 256 * 256)).add (Reg.dmcChStat c 7) 1).raise (dmcBase c) 0
  let ces := s.now :: (s.chan c).ces.filter (fun t => decide (s.now < t + 3600 * sec))
  let s := s.setChan c { s.chan c with ces := ces }
  if s.fld Reg.dmcScrub 31 16 < ces.length then s.raise (dmcBase c) 7 else s

/-- Read the line at `a` from the DRAM. `err` is what the ECC finds: 1 a single-bit error, 2 an uncorrectable error that a
retry reads clean, 3 one that a retry corrects, 4 one that the retry finds again; otherwise nothing (R406). -/
def State.readLine (s : State) (c who a err bit : Nat) : State :=
  let l := a / 64
  if s.linePoisoned l then (s.dramErr c a who 2).add (Reg.dmcChStat c 9) 1
  else if err = 1 ∨ err = 3 then s.corrected c a who bit
  else if err = 4 then
    let s := ((((s.poisonLine l).dramErr c a who 3).add (Reg.dmcChStat c 8) 1).add (Reg.dmcChStat c 9) 1).raise (dmcBase c) 1
    s.logIt (0x1400 + c) (evt c 1) 2 (leBytes 8 a ++ leBytes 2 who)
  else s

/-- Whether the CE limit has just been raised by this command and Marigold is to fence the channel (R495). -/
def State.ceFence (old s : State) (c : Nat) : Bool := s.flag (dmcBase c + 0x10) 7 && !old.flag (dmcBase c + 0x10) 7

/-- Whether a channel issues commands now: no replay runs (R405). -/
def State.issues (s : State) (c : Nat) : Bool := decide ((s.chan c).replayEnd ≤ s.now)

/-- Whether a request whose command needs `act` may be issued now: a throttled requester waits (R405, R410). -/
def State.mayIssue (s : State) (c who : Nat) (rt : Bool) (act : Option (Nat × Nat)) : Bool :=
  s.issues c && (rt || match act with | none => true | some (bank, _) => !s.throttled c who bank)

/-- A command enters the retry buffer of its channel (R405). -/
def State.issued (s : State) (c : Nat) (write : Bool) (line : Nat) : State :=
  s.setChan c { s.chan c with retry := ((write, line) :: (s.chan c).retry).take 64 }

/-- Data go back to a requester; poison is a load access fault on a core of the control complex, requesters 0 to 3 (R407; log entry
188). -/
def State.answerRead (s : State) (who l : Nat) (data : Option (List Byte)) : State :=
  let s' := s.emit (.dram who l data)
  if data.isNone ∧ who < 4 then s'.emit (.loadFault who l) else s'

/-- A read is issued and answered (R402, R406). `err` 5 is a read that fails on a channel whose replays have failed: it returns poison
(R405). -/
def State.readNow (s : State) (c : Nat) (r : QRead) : State :=
  let s := ((s.activate c r.who r.rt r.act).issued c false r.line).add (Reg.dmcChStat c 0) 1
  if r.err = 5 ∧ (s.chan c).failed then s.answerRead r.who (r.line * 64) none
  else
    let s := s.readLine c r.who (r.line * 64) r.err r.bit
    s.answerRead r.who (r.line * 64) (if s.linePoisoned r.line then none else r.data)

/-- The place of the read that is served next: the oldest real-time one that may be issued, else the oldest that may (R402); none overtakes
an older one of its requester to its line. -/
def State.nextRead (s : State) (c : Nat) : Option Nat :=
  let l := (s.chan c).rq
  let free := fun (x : QRead × Nat) => s.mayIssue c x.1.who x.1.rt x.1.act && (l.take x.2).all (fun y => !(y.line == x.1.line && y.who == x.1.who))
  ((l.zipIdx.find? (fun x => x.1.rt && free x)).or (l.zipIdx.find? free)).map (fun x => x.2)

/-- Serve up to `k` of the reads that wait. -/
def State.serveReads : Nat → State → Nat → State
  | 0, s, _ => s
  | k + 1, s, c =>
    match s.nextRead c with
    | none => s
    | some i => match (s.chan c).rq[i]? with
      | none => s
      | some r => State.serveReads k ((s.setChan c { s.chan c with rq := (s.chan c).rq.eraseIdx i }).readNow c r) c

/-- The place of the write that is issued next: the oldest real-time one, else the oldest; none that is throttled, and none overtakes an
older one of its requester to its line (R22, R402, R410). -/
def State.nextWrite (s : State) (c : Nat) : Option Nat :=
  let l := (s.chan c).wq
  let free := fun (x : QWrite × Nat) => s.mayIssue c x.1.who x.1.rt x.1.act && (l.take x.2).all (fun y => !(y.line == x.1.line && y.who == x.1.who))
  ((l.zipIdx.find? (fun x => x.1.rt && free x)).or (l.zipIdx.find? free)).map (fun x => x.2)

/-- Issue up to `k` writes of the queue. -/
def State.drainWrites : Nat → State → Nat → State
  | 0, s, _ => s
  | k + 1, s, c =>
    match s.nextWrite c with
    | none => s
    | some i => match (s.chan c).wq[i]? with
      | none => s
      | some w => State.drainWrites k ((((s.setChan c { s.chan c with wq := (s.chan c).wq.eraseIdx i }).activate c w.who w.rt w.act).issued c true
          w.line).add (Reg.dmcChStat c 1) 1) c

/-- What waits is served (R402): reads first; then, while no read is pending, all writes, and otherwise, once the queue holds HIGH entries, a
batch down to LOW. With `idle` no read but those that wait in the queue is pending. -/
def State.chanServe (s : State) (c : Nat) (idle : Bool) : State :=
  let s := State.serveReads (s.chan c).rq.length s c
  let n := (s.chan c).wq.length
  if idle && (s.chan c).rq.isEmpty then State.drainWrites n s c
  else if s.fld (Reg.dmcChWq c) 5 0 ≤ n then State.drainWrites (n - s.fld (Reg.dmcChWq c) 13 8) s c
  else s

/-- DRAM_READ (R402, R406): a line that stands in the write queue is answered from there; any other read takes its place in the queue. -/
def State.dramServe (s : State) (who : Nat) (rt : Bool) (a err bit : Nat) (act : Option (Nat × Nat)) (idle : Bool) : State :=
  let c := a / 2 ^ 37
  let l := a / 64 * 64
  if c < 12 ∧ s.dramOk l 64 then
    let s := if (s.chan c).wq.any (fun w => w.line == a / 64) then (s.add (Reg.dmcChStat c 0) 1).answerRead who l (s.dramRead l 64)
      else s.setChan c { s.chan c with rq := (s.chan c).rq ++
        [{ who := who, rt := rt, line := a / 64, err := err, bit := bit, act := act, data := s.dramRead l 64 }] }
    s.chanServe c idle
  else s.answerRead who l none

/-- DRAM_WRITE (R402): the write takes its place in the queue; reads see it from there. -/
def State.dramQueue (s : State) (who : Nat) (rt : Bool) (a : Nat) (bs : List Byte) (act : Option (Nat × Nat)) (idle : Bool) : State :=
  let c := a / 2 ^ 37
  if c < 12 ∧ s.dramOk (a / 64 * 64) 64 then
    let s := s.dramWrite a (bs.take (64 - a % 64))
    (s.setChan c { s.chan c with wq := (s.chan c).wq ++ [{ line := a / 64, who := who, rt := rt, act := act }] }).chanServe c idle
  else s

/-- SCRUB_READ (R408): the next line of the channel. The requester field that a scrub leaves in ERR_INFO is not stated: a
free value. -/
def State.scrubRead (s : State) (c err bit : Nat) : State :=
  if c < 12 ∧ s.chanUsable c ∧ s.flag (Reg.dmcChCtrl c) 0 ∧ s.fld Reg.dmcScrub 7 0 ≠ 0 then
    let x := s.chan c
    let l := chanBase c / 64 + x.scrub
    let wrap := decide (s.chanCap c ≤ (x.scrub + 1) * 64)
    let (who, s) := s.draw
    let s := if s.linePoisoned l then s else s.readLine c who (l * 64) err bit
    let s := s.setChan c { s.chan c with scrub := if wrap then 0 else x.scrub + 1 }
    if wrap then s.add (Reg.dmcChStat c 12) 1 else s
  else s

/-! ### Command and address parity (R405) -/

/-- One replay: the driver's error status is cleared, and the last `since` commands go out again from the retry buffer. -/
def State.replay (s : State) (c since : Nat) : State :=
  (s.emit (.ddr c .clearError)).emit (.ddr c (.again ((s.chan c).retry.take since).reverse))

/-- DMC_CA_PARITY: `fails` replays in a row meet another parity error; `since` counts the commands since the oldest that the driver may have
blocked. The channel issues nothing until the replays are over, at most 2 us each (log entry 190), and real-time service starts its count
anew then (R404). True where the channel is to be fenced. -/
def State.caParity (s : State) (c fails since : Nat) : State × Bool :=
  if c < 12 ∧ s.chanUsable c then
    let n := min (fails + 1) 3
    let s := (s.add (Reg.dmcChStat c 5) (1 + min fails 3)).raise (dmcBase c) 2
    let s := (List.range n).foldl (fun s _ => s.replay c since) s
    let d := s.draw
    let stop := s.now + d.1 % (n * 2 * us + 1)
    let s := d.2.setChan c { s.chan c with replayEnd := stop, softAt := stop, failed := (s.chan c).failed || decide (3 ≤ fails) }
    if 3 ≤ fails then ((s.add (Reg.dmcChStat c 6) 1).raise (dmcBase c) 3, true) else (s, false)
  else (s, false)

/-! ### Training (R399, R400, R411, R412, R415) -/

/-- Whether the modules of a channel are a supported configuration (R399, R400). -/
def dimmsOk (l : List Dimm) : Bool :=
  decide (l.length = 1 ∨ l.length = 2) &&
  l.all (fun d => (d.gib == 16 || d.gib == 32 || d.gib == 64 || (d.gib == 128 && l.length == 1)) && (d.ranks == 1 || d.ranks == 2) &&
    (d.width == 4 || d.width == 8) && d.registered && d.ecc && (d.density == 16 || d.density == 24 || d.density == 32) && (d.speed == 4800 || d.speed == 5600 || (d.speed == 6400 && l.length == 1))) &&
  l.all (fun d => l.all (fun e => d.gib == e.gib && d.ranks == e.ranks && d.width == e.width && d.speed == e.speed))

/-- Whether the modules run at the speed of every other channel in use (R400). -/
def State.speedOk (s : State) (c : Nat) (l : List Dimm) : Bool :=
  (List.range 12).all (fun k => k == c || !s.chanUsable k || (s.dimms.getD k []).all (fun d => l.all (fun e => d.speed == e.speed)))

/-- Words of a list as little-endian bytes. -/
def wordBytes (l : List Nat) : List Byte := l.flatMap (leBytes 4)

/-- Whether a training record may be used with the modules fitted (R412). -/
def recordOk (r : List Nat) (l : List Dimm) : Bool :=
  r.length == 384 && r.getD 383 0 == crc32c (wordBytes (r.take 383)) &&
  r.getD 0 0 == ((l[0]?).map (fun d => d.serial)).getD 0 && r.getD 1 0 == ((l[1]?).map (fun d => d.serial)).getD 0

/-- A record made of trained values (R411). -/
def makeRecord (l : List Dimm) (vals : List Nat) : List Nat :=
  let w := (List.range 383).map (fun i =>
    if i < 2 then ((l[i]?).map (fun d => d.serial)).getD 0 else vals.getD (i - 2) 0 % 2 ^ 32)
  w ++ [crc32c (wordBytes w)]

/-- The two sets that bracket a temperature among those that hold a record, or the nearest set twice (R465). -/
def bracket (l : List (Int × List Nat)) (t : Int) : Option ((Int × List Nat) × (Int × List Nat)) :=
  let pick := fun (c : (Int × List Nat) → Bool) (better : Int → Int → Bool) =>
    (l.filter c).foldl (fun b e => match b with | none => some e | some x => if better e.1 x.1 then some e else b) none
  match pick (fun e => decide (e.1 ≤ t)) (fun a b => decide (b < a)), pick (fun e => decide (t ≤ e.1)) (fun a b => decide (a < b)) with
  | some a, some b => some (a, b)
  | some a, none => some (a, a)
  | none, some b => some (b, b)
  | none, none => none

/-- A value interpolated between two temperatures, rounded to the nearest step. -/
def lerpStep (t0 t1 t v0 v1 : Int) : Int := if t1 ≤ t0 then v0 else rnd0 (v0 * (t1 - t0) + (v1 - v0) * (t - t0)) (t1 - t0).toNat

/-- The training record that the calibration sets give for a channel at a DIMM temperature (R412, R465). -/
def State.calRecord (s : State) (c : Nat) (t : Int) (l : List Dimm) : Option (List Nat) :=
  let recs := s.cal.filterMap (fun x => x.bind (fun x => ((x.dram.find? (fun e => e.1 == c)).map (fun e => (x.temp, e.2)))))
  match bracket (recs.filter (fun r => recordOk r.2 l)) t with
  | some (a, b) =>
    some (makeRecord l ((List.range 381).map (fun i => (lerpStep a.1 b.1 t (a.2.getD (i + 2) 0) (b.2.getD (i + 2) 0)).toNat)))
  | none => none

/-- Drop what a channel holds (R414). -/
def State.dropChannel (s : State) (c : Nat) : State :=
  { s with dram := s.dram.filter (fun e => decide (e.1 / 2 ^ 37 ≠ c)), poison := s.poison.filter (fun l => decide (l / 2 ^ 31 ≠ c)) }

/-- What training one channel gives: the code for DMC_CH_SVC, whether the channel works, the record in force, and whether
it was restored. `verify` is the pattern test of a restored record, `full` the values of a full training where it succeeds,
`memory` the write and read-back of every line after UNFENCE (R411, R412, R415). -/
def State.trainResult (s : State) (c : Nat) (l : List Dimm) (t : Int) (verify memory : Bool) (full : Option (List Nat)) (start : Bool) :
    Nat × Bool × List Nat × Bool :=
  let x := s.chan c
  let memory := start || memory
  if !dimmsOk l || !s.speedOk c l then (0x1401, false, x.record, false)
  else
    let offered := if s.flag Reg.dmcTrainCtrl 0 then s.calRecord c t l
      else if !start || s.flag Reg.dmcTrainCtrl 16 then some x.record else none
    let usable := match offered with | some r => recordOk r l && verify | none => false
    let failed := offered.isSome && !usable
    if usable then (if memory then (0, true, offered.getD [], true) else (0x1402, false, x.record, false))
    else match full with
      | some v => if memory then (if failed then 0x1403 else 0, true, makeRecord l v, false) else (0x1402, false, x.record, false)
      | none => (0x1402, false, x.record, false)

/-- Put a trained channel into service: its population, its record, a fresh controller (R425). -/
def State.channelUp (s : State) (c : Nat) (l : List Dimm) (record : List Nat) (t : Int) : State :=
  let s := (s.dropChannel c).setChan c { Chan.reset with record := record, refLast := s.now, softAt := s.now, driftAt := s.now, dqsAt := s.now }
  let s := { s with dimms := s.dimms.set c l }
  let gib := (l.map (fun d => d.gib)).sum
  let s := s.wr (Reg.dmcChStatus c) (l.length + ((l[0]?).map (fun d => d.ranks)).getD 0 % 4 * 4 + gib % 512 * 256)
  s.wr (Reg.dmcChTemp c) (toBits 8 t)

/-! ### Registers of the DMC pages (R425, R426) -/

/-- Checks of a write to a DMC page. -/
def State.dmcCheck (s : State) (page off data : Nat) : List Nat :=
  if page < 12 then
    if off = 0x40 then codeIf (!bitOf data 8 && s.unitState (119 + page) != 2) 0xF
    else if off = 0x44 then codeIf (decide (bitsOf data 5 0 ≤ bitsOf data 13 8)) 6
    else []
  else if off = 0x54 then codeIf (s.flag Reg.dmcTrainStat 31) 0xF
  else []

/-- What a write to a DMC page starts. -/
def State.dmcEffect (s : State) (page off old data : Nat) : State :=
  if page < 12 then
    if off = 0x40 ∧ bitOf old 8 ≠ bitOf data 8 then
      let s := s.emit (.pin "DMC_PWREN" page (bitOf data 8))
      if bitOf data 8 then s else s.dropChannel page
    else s
  else if off = 0x54 then
    let c := s.fld Reg.dmcTrainIdx 3 0
    let x := s.chan c
    s.setChan c { x with record := x.record.set (s.fld Reg.dmcTrainIdx 24 16) data }
  else s

/-- Computed words of the DMC pages. -/
def State.dmcRead (s : State) (page off : Nat) : Option Nat :=
  if page < 12 then
    if off = 0x4C then
      some (putBits (putBits (s.rd (Reg.dmcChStatus page)) 23 23 (if (s.chan page).thr.any (fun e => decide (s.now < e.2.2.1)) then 1 else 0))
        24 24 (if s.issues page then 0 else 1))
    else none
  else if off = 0x54 then some ((s.chan (s.fld Reg.dmcTrainIdx 3 0)).record.getD (s.fld Reg.dmcTrainIdx 24 16) 0)
  else if off = 0x5C then some (((List.range 12).map (fun c => if s.unitState (119 + c) = 0 then 2 ^ c else 0)).sum)
  else none

end Sys2Proof.Machine
end

