-- ==== Sys2Proof/Machine/Lanes.lean ====
section
/-! DEFINITION. The 84 serial lanes: bring-up, loops, eye scans, equalisation, faults (R429-R441). -/

namespace Sys2Proof.Machine

def State.lane (s : State) (n : Nat) : Lane := s.lanes.getD n Lane.reset
def State.setLane (s : State) (n : Nat) (x : Lane) : State := { s with lanes := s.lanes.set n x }

/-- The power domain of a lane's owner (R17, R429). -/
def laneDomain (n : Nat) : Nat :=
  if n < 52 then 20 else if n < 60 then 32 else if n < 68 then 33 else if n < 76 then 30 else if n < 80 then 31 else 34

def lanePanel (n : Nat) : Bool := decide (n < 52)
def lanePcie (n : Nat) : Bool := decide (68 ≤ n ∧ n < 80)
/-- PAM4 lanes have three eyes (R429, R436). -/
def laneEyes (n : Nat) : Nat := if 52 ≤ n ∧ n < 68 then 3 else 1

/-- Whether the owner of a lane has enabled it (R431). -/
def State.laneOwned (s : State) (n : Nat) : Bool :=
  s.domOn (laneDomain n) &&
  (if n < 52 then s.flag Reg.pnlLinkCtrl 0 else if n < 68 then s.flag (Reg.npPortCtrl ((n - 52) / 8)) 0
   else if n < 76 then (s.nvs.drives.getD ((n - 68) / 4) Drive.reset).power else if n < 80 then true else s.domOn 32 && s.domOn 33)

/-- Whether the owner uses the lane (R435). -/
def State.laneInUse (s : State) (n : Nat) : Bool :=
  s.laneOwned n && (if n < 52 then true
    else if n < 68 then s.unitState (169 + (n - 52) / 8) != 2 && s.fov.holder == (n - 52) / 8
    else if n < 76 then s.unitState (131 + (n - 68) / 4) != 2 else true)

/-- A scan that runs is abandoned (R440). -/
def State.scanDrop (s : State) (n : Nat) : State :=
  if s.flag (Reg.lnkLStatus n) 16 then (s.setFlag (Reg.lnkLStatus n) 16 false).setFlag (Reg.lnkLStatus n) 17 false else s

/-- The nine settings of TXEQ, RXEQ0 and RXEQ1: word, high and low bit (R441). -/
def eqField (k : Nat) : Nat × Nat × Nat :=
  if k = 0 then (0, 5, 0) else if k = 1 then (0, 13, 8) else if k = 2 then (0, 21, 16) else if k = 3 then (1, 4, 0)
  else if k = 4 then (1, 12, 8) else (2, 8 * (k - 5) + 7, 8 * (k - 5))

/-- The value of a setting in a word list; DFE taps are signed. -/
def eqValue (w : List Nat) (k : Nat) : Int :=
  let f := eqField k
  let v := bitsOf (w.getD f.1 0) f.2.1 f.2.2
  if f.1 = 2 then signedBits v 8 else v

/-- A word list with a setting replaced. -/
def eqPut (w : List Nat) (k : Nat) (v : Int) : List Nat :=
  let f := eqField k
  w.set f.1 (putBits (w.getD f.1 0) f.2.1 f.2.2 (toBits (f.2.1 - f.2.2 + 1) v))

/-- The register source of a lane. -/
def State.eqRegs (s : State) (n : Nat) : List Nat := [s.rd (Reg.lnkLTxeq n), s.rd (Reg.lnkLRxeq0 n), s.rd (Reg.lnkLRxeq1 n)]
/-- The values in force. -/
def State.eqNow (s : State) (n : Nat) : List Nat := [s.rd (Reg.lnkLTxeqNow n), s.rd (Reg.lnkLRxeq0Now n), s.rd (Reg.lnkLRxeq1Now n)]
def State.setEqNow (s : State) (n : Nat) (w : List Nat) : State :=
  ((s.wr (Reg.lnkLTxeqNow n) (w.getD 0 0)).wr (Reg.lnkLRxeq0Now n) (w.getD 1 0)).wr (Reg.lnkLRxeq1Now n) (w.getD 2 0)

/-- The values that the calibration sets give at a lane temperature in 1/16 °C (R437, R465). -/
def State.eqCal (s : State) (n : Nat) (t : Int) : Option (List Nat) :=
  let recs := s.cal.filterMap (fun x => x.bind (fun x => (x.lanes.find? (fun e => e.1 == n)).map (fun e => (16 * x.temp, e.2))))
  (bracket recs t).map (fun ab => (List.range 9).foldl
    (fun w k => eqPut w k (lerpStep ab.1.1 ab.2.1 t (eqValue ab.1.2 k) (eqValue ab.2.2 k))) [0, 0, 0])

/-- A round's targets (R437): the values of the source that EQ_SRC selects. -/
def State.laneRound (s : State) (n : Nat) (t : Int) : State :=
  match s.flag Reg.lnkCtrl 0, s.eqCal n t with
  | true, some w => (s.setLane n { s.lane n with target := w }).setFlag (Reg.lnkLStatus n) 4 false
  | true, none => (s.setLane n { s.lane n with target := s.eqRegs n }).setFlag (Reg.lnkLStatus n) 4 true
  | false, _ => (s.setLane n { s.lane n with target := s.eqRegs n }).setFlag (Reg.lnkLStatus n) 4 false

/-- The sensor nearest to a lane (R437): a path lane's is the first of its die, a main-die lane's is not stated (log entry 35). -/
def laneSensor (n : Nat) : Nat := if 52 ≤ n ∧ n < 60 then 48 else if 60 ≤ n ∧ n < 68 then 52 else Config.laneSensor n % 48

/-- The temperature that a lane works with, in 1/16 °C (R437). -/
def State.laneTemp (s : State) (n : Nat) : Int := signedBits (s.fld (Reg.thmCh (laneSensor n)) 15 0) 16

/-- A panel lane that comes up sends IDLE blocks from now on (R301, R431 step 3). -/
def State.laneIdle (s : State) (n : Nat) : State :=
  if lanePanel n && s.pnl.running then
    let k := (s.now - s.pnl.linkStart) / blockTime
    { s with pnl := { s.pnl with slots := s.pnl.slots.set n (k + 1) } }.emit (.link n 1 [])
  else s

/-- The bit rate of a lane in kb/s (R429). -/
def laneRate (n : Nat) : Nat :=
  if n < 52 then 32000000 else if n < 68 then 53125000 else if n < 80 then Config.pcieRate n else 25781250

/-- PRBS_ERR and PRBS_BITS of a check that has run from `t`: the errors are what the medium brings (R434). -/
def State.prbsCounts (s : State) (n t : Nat) : Nat × Nat :=
  ((Config.prbsErrors n t s.now).toNat, min (2 ^ 32 - 1) ((s.now - t) * laneRate n * 1000 / (sec * 2 ^ 20)))

/-- A check ends and its counts stay (R434). -/
def State.prbsStop (s : State) (n : Nat) : State :=
  match (s.lane n).checkAt with
  | some t =>
    let c := s.prbsCounts n t
    ((s.wr (Reg.lnkLPrbsErr n) c.1).wr (Reg.lnkLPrbsBits n) c.2).setLane n { s.lane n with checkAt := none }
  | none => s

/-- The checker aligns anew, with counts of 0 (R434). -/
def State.prbsStart (s : State) (n : Nat) : State :=
  ((s.wr (Reg.lnkLPrbsErr n) 0).wr (Reg.lnkLPrbsBits n) 0).setLane n { s.lane n with checkAt := some s.now }

/-- Whether the checker of a lane has a sequence to align to: CHECK_EN, a pattern, and a receiver that runs (R434). -/
def State.prbsRuns (s : State) (n : Nat) : Bool :=
  s.flag (Reg.lnkLCtrl n) 6 && decide (s.fld (Reg.lnkLCtrl n) 5 4 ≠ 0) && (s.laneState n == 2 || s.laneState n == 3)

/-- The checker follows what the lane does: it aligns where it can run now, and stops where it cannot (R434). -/
def State.prbsFollow (s : State) (n : Nat) : State :=
  if !s.prbsRuns n then s.prbsStop n else if (s.lane n).checkAt.isNone then s.prbsStart n else s

/-- STATE of a lane, its READY bit, and its checker with it. -/
def State.setLaneState (s : State) (n v : Nat) : State :=
  let s := s.setFld (Reg.lnkLStatus n) 2 0 v
  (s.setFlag (Reg.lnkReady (n / 32)) (n % 32) (v == 2)).prbsFollow n

/-- Whether LOOP and PATTERN of a control word put a lane into LOOP: LOOP 3 merely permits it to a PCIe lane (R433). -/
def loops (n w : Nat) : Bool := (bitsOf w 1 0 != 0 && !(lanePcie n && bitsOf w 1 0 == 3)) || bitsOf w 5 4 != 0

/-- Whether LOOP or PATTERN of a lane is set. -/
def State.laneSet (s : State) (n : Nat) : Bool := s.fld (Reg.lnkLCtrl n) 1 0 != 0 || s.fld (Reg.lnkLCtrl n) 5 4 != 0

/-- A bring-up runs (R431 steps 1-3): loops and patterns of a lane in use return to 0 (R435). With `load` the start values come from the
source in force at the lane's temperature (R437); a retry keeps the values in force (R439). -/
def State.laneRun (s : State) (n : Nat) (load : Bool) : State :=
  let s := if s.laneInUse n then (s.setFld (Reg.lnkLCtrl n) 1 0 0).setFld (Reg.lnkLCtrl n) 5 4 0 else s
  let s := if load then
      let s := s.laneRound n (s.laneTemp n)
      let w := (s.lane n).target
      s.setEqNow n (if lanePcie n then w.set 0 (s.rd (Reg.lnkLTxeqNow n)) else w)
    else s
  (((s.scanDrop n).setFlag (Reg.lnkLStatus n) 3 false).setLaneState n 1).laneIdle n

/-- Bring-up with the source's start values; the count of retries begins anew. -/
def State.laneStart (s : State) (n : Nat) : State := (s.setLane n { s.lane n with tries := 0 }).laneRun n true

/-- The owner takes a lane into use: a loop or a pattern returns to 0, and the lane runs bring-up (R435). -/
def State.laneTaken (s : State) (n : Nat) : State := if s.laneInUse n && s.laneSet n then s.laneStart n else s

/-- LANE_ENABLE (R431, R435). -/
def State.laneEnable (s : State) (n : Nat) : State :=
  if n < 84 ∧ s.laneOwned n then (if s.laneState n = 0 ∨ s.laneState n = 3 then s.laneStart n else s.laneTaken n) else s

/-- LNK_LANE_READY (R431, R432): `tx` is what PCIe equalisation selected, `rx` what the receiver has adapted to. -/
def State.laneReady (s : State) (n tx : Nat) (rx : Nat × Nat) : State :=
  if n < 84 ∧ s.laneState n = 1 then
    let s := s.setLane n { s.lane n with tries := 0 }
    let s := if lanePcie n then s.wr (Reg.lnkLTxeqNow n) tx else s
    let s := if lanePanel n then s else s.setFlag (Reg.lnkLStatus n) 3 true
    let s := if s.flag (Reg.lnkLCtrl n) 8 && !lanePanel n then (s.wr (Reg.lnkLRxeq0Now n) rx.1).wr (Reg.lnkLRxeq1Now n) rx.2 else s
    (s.setLaneState n (if loops n (s.rd (Reg.lnkLCtrl n)) then 3 else 2)).raise 0x160000 1
  else s

/-- Whether a lane can lose its receiver's signal or lock: while READY, or in a retry, which fails where the receiver does not lock
(R439; log entry 193). -/
def State.mayLose (s : State) (n : Nat) : Bool := !lanePanel n && (s.laneState n == 2 || (s.laneState n == 1 && decide (0 < (s.lane n).tries)))

/-- LNK_LANE_FAULT (R439): `cause` is 1 PLL, 2 signal or CDR, 3 amplitude. -/
def State.laneFault (s : State) (n cause : Nat) : State :=
  if n < 84 ∧ (s.laneState n = 1 ∨ s.laneState n = 2 ∨ s.laneState n = 3) ∧ 1 ≤ cause ∧ cause ≤ 3 ∧ (cause = 2 → s.mayLose n) ∧ (cause = 3 → lanePanel n) then
    let s := (s.scanDrop n).setLaneState n 4
    let s := (s.setFld (Reg.lnkLStatus n) 6 5 cause).setFlag (Reg.lnkLStatus n) 3 false
    let s := (s.add (Reg.lnkLStatFaults n) 1).add (Reg.lnkStat 0) 1
    let s := s.setLane n { s.lane n with faultAt := s.now }
    let s := if s.flag Reg.lnkCtrl 1 && (s.lane n).tries == 3 then s.raise 0x160000 3 else s
    let s := s.raise 0x160000 0
    if lanePanel n then s.raise 0xB0000 1 else s
  else s

/-- LANE_RETRY (R439). -/
def State.laneRetry (s : State) (n : Nat) : State :=
  let x := s.lane n
  if n < 84 ∧ s.laneState n = 4 ∧ s.flag Reg.lnkCtrl 1 ∧ x.tries < 3 ∧ x.faultAt + 10 * ms ≤ s.now then
    ((s.setLane n { x with tries := x.tries + 1 }).laneRun n false).add (Reg.lnkStat 1) 1
  else s

/-- The block of a lane whose owner's domain has gone off: its words and what it holds are as after reset (R17, R429). -/
def State.laneClear (s : State) (n : Nat) : State :=
  ((s.resetBytes (Reg.lnkLCtrl n) 0x80).setFlag (Reg.lnkReady (n / 32)) (n % 32) false).setLane n Lane.reset

/-- The lanes of a domain that goes off. -/
def State.lanesClear (s : State) (d : Nat) : State := ((List.range 84).filter (fun n => laneDomain n == d)).foldl State.laneClear s

/-- Lanes whose owner has given them up go OFF. -/
def State.laneSweep (s : State) : State :=
  (List.range 84).foldl (fun s n =>
    if s.laneState n ≠ 0 ∧ s.laneState n ≠ 3 ∧ !s.laneOwned n then ((s.scanDrop n).setLaneState n 0).setFlag (Reg.lnkLStatus n) 3 false else s) s

/-- The open points on one side of the centre, as far as that side reaches: a side stops at its first point that is not open (R436). -/
def sideOpen (lim reach : Nat) (l : List Nat) : Nat := ((l.take reach).takeWhile (fun e => decide (e ≤ lim))).length
/-- Whether a side has come to its end. -/
def sideDone (lim reach : Nat) (l : List Nat) : Bool := decide (reach ≤ l.length ∨ sideOpen lim reach l < l.length)

/-- The run of open points that holds the centre (R436). -/
def axisOpen (lim : Nat) (reach : Nat × Nat) (a : ScanAxis) : Nat :=
  if lim < a.centre then 0 else sideOpen lim reach.1 a.below + 1 + sideOpen lim reach.2 a.above
/-- Whether an axis has come to its end, with counts that its bits allow. -/
def axisDone (lim bits : Nat) (reach : Nat × Nat) (a : ScanAxis) : Bool :=
  (decide (lim < a.centre) || (sideDone lim reach.1 a.below && sideDone lim reach.2 a.above)) &&
  (a.centre :: (a.below ++ a.above)).all (fun e => decide (e ≤ bits))

/-- How far the sampler goes from the centre: 32 phase points each way, 100 voltage points down and 99 up (R436). -/
def phaseReach : Nat × Nat := (32, 32)
def voltReach : Nat × Nat := (100, 99)

/-- ERR_LIMIT, and 10^DWELL (R436). -/
def State.scanLimit (s : State) : Nat := s.fld Reg.lnkScanCfg 15 8
def State.scanBits (s : State) : Nat := 10 ^ s.fld Reg.lnkScanCfg 3 0

/-- Whether the scan of every eye of a lane has come to its end. -/
def State.scanEnded (s : State) (n : Nat) (eyes : List EyeScan) : Bool :=
  eyes.length == laneEyes n &&
  eyes.all (fun e => axisDone s.scanLimit s.scanBits phaseReach e.phase && axisDone s.scanLimit s.scanBits voltReach e.volt)

/-- The smallest of the open runs of the eyes, across and up. -/
def State.leastOpen (s : State) (eyes : List EyeScan) : Nat × Nat :=
  (((eyes.map (fun e => axisOpen s.scanLimit phaseReach e.phase)).min?).getD 0, ((eyes.map (fun e => axisOpen s.scanLimit voltReach e.volt)).min?).getD 0)

/-- LNK_SCAN_DONE (R436): the differing bits at every point tried, for each eye. -/
def State.scanDone (s : State) (n : Nat) (eyes : List EyeScan) : State :=
  if n < 84 ∧ s.flag (Reg.lnkLStatus n) 16 ∧ s.scanEnded n eyes then
    let l := s.leastOpen eyes
    let s := s.wr (Reg.lnkLEye n) ((2000 * l.1 + 64) / 128 % 65536 + 2 * l.2 % 65536 * 65536)
    let s := s.wr (Reg.lnkLEyeInfo n) (s.ras.frame % 65536 + toBits 8 (s.laneTemp n / 16) * 65536)
    let s := (s.setFlag (Reg.lnkLStatus n) 16 false).setFlag (Reg.lnkLStatus n) 17 true
    (s.add (Reg.lnkStat 2) 1).raise 0x160000 2
  else s

/-- Whether a receiver adapts continuously (R438). -/
def State.adapts (s : State) (n : Nat) : Bool :=
  s.flag (Reg.lnkLCtrl n) 8 && !lanePanel n && (s.laneState n == 2 || s.laneState n == 3)

/-- The settings to which a receiver has adapted by a round: where it finds them is its own, so they are free values (R438; log entry 92). -/
def State.adaptRound (s : State) (n : Nat) : State :=
  if s.adapts n then
    let (v, s) := s.draw
    (s.wr (Reg.lnkLRxeq0Now n) (v % 32 + v / 32 % 32 * 256)).wr (Reg.lnkLRxeq1Now n) (v / 1024 % 2 ^ 32)
  else s

/-- EQ_SLEW_STEP (R438): setting `k` moves one step toward its target. -/
def State.slewStep (s : State) (n k : Nat) : State :=
  let x := s.lane n
  let w := s.eqNow n
  let v := eqValue w k
  let t := eqValue x.target k
  let tx := decide (k < 3)
  if n < 84 ∧ k < 9 ∧ s.laneState n ≠ 0 ∧ v ≠ t ∧ (if tx then !lanePcie n else !s.flag (Reg.lnkLCtrl n) 8) ∧
      x.stepAt.getD k 0 + (if tx then 100 else 10) * us ≤ s.now then
    (s.setEqNow n (eqPut w k (if v < t then v + 1 else v - 1))).setLane n { x with stepAt := x.stepAt.set k s.now }
  else s

/-! ### Registers of the LNK pages (R441) -/

/-- The lane and the word of an offset of lane page `page`. -/
def laneWord (page off : Nat) : Nat × Nat := ((page - 1) * 24 + (off - 0x400) / 0x80, (off - 0x400) % 0x80)

/-- Checks of a write to a LNK page. -/
def State.lnkCheck (s : State) (page off data : Nat) : List Nat :=
  if page = 0 ∨ off < 0x400 then []
  else
    let (n, w) := laneWord page off
    let scan := s.flag (Reg.lnkLStatus n) 16
    codeIf (!s.domOn (laneDomain n)) 5 ++
    (if w = 0 then
      codeIf (bitOf data 31 && scan) 9 ++ codeIf (bitOf data 31 && !scan && s.laneState n != 2 && s.laneState n != 3) 0x1601 ++
      codeIf (decide (bitsOf data 1 0 ≠ 0 ∨ bitsOf data 5 4 ≠ 0) && s.laneInUse n) 0x1602
     else if w = 8 then
      codeIf (lanePcie n || s.flag Reg.lnkCtrl 0 || decide (63 < bitsOf data 5 0 + bitsOf data 13 8 + bitsOf data 21 16)) 6
     else if w = 0x10 ∨ w = 0x14 then codeIf (s.flag Reg.lnkCtrl 0) 6
     else [])

/-- What a write to a LNK page starts. -/
def State.lnkEffect (s : State) (page off old data : Nat) : State :=
  if page = 0 ∨ off < 0x400 then s
  else
    let (n, w) := laneWord page off
    if w = 0 then
      let s := if bitsOf data 1 0 ≠ bitsOf old 1 0 ∨ bitsOf data 6 4 ≠ bitsOf old 6 4 then s.prbsStop n else s
      let s := if bitOf data 16 then s.laneStart n
        else if loops n data then s.setLaneState n 3 else if s.laneState n = 3 then s.setLaneState n 0 else s.prbsFollow n
      if bitOf data 31 then (s.setFlag (Reg.lnkLStatus n) 16 true).setFlag (Reg.lnkLStatus n) 17 false else s
    else if w = 8 ∨ w = 0x10 ∨ w = 0x14 then s.setLane n { s.lane n with target := s.eqRegs n }
    else s

/-- Computed words of the LNK pages: a lane block whose owner's domain is off reads zero, and the counts of a running check
move (R434, R441). -/
def State.lnkRead (s : State) (page off : Nat) : Option Nat :=
  if page = 0 ∨ off < 0x400 then none
  else
    let (n, w) := laneWord page off
    if !s.domOn (laneDomain n) then some 0
    else match (s.lane n).checkAt with
      | some t => if w = 0x28 then some (s.prbsCounts n t).1 else if w = 0x2C then some (s.prbsCounts n t).2 else none
      | none => none

end Sys2Proof.Machine
end

