-- ==== Sys2Proof/Machine/Net.lean ====
section
/-! DEFINITION. Network paths (R352-R368): reception and classification, reassembly, pre-filters, policing, egress queues,
the scheduler with shapers and gates, gate lists, the firmware rings, and the registers of pages 0 to 3 of a path die. -/

namespace Sys2Proof.Machine

/-! ### Path dies -/

def State.path (s : State) (x : Nat) : NetPath := s.net.getD x NetPath.reset
def State.setPath (s : State) (x : Nat) (p : NetPath) : State := { s with net := s.net.set x p }

/-- Base of a path die's page `p`. -/
def npBase (x p : Nat) : Nat := 0x100000 + 0x10000 * x + 0x1000 * p

/-- Whether die `x` is powered and in service. -/
def State.dieUsable (s : State) (x : Nat) : Bool := s.domOn (32 + x) && decide (s.unitState (169 + x) ≤ 1)
def State.linkUp (s : State) (x : Nat) : Bool := s.flag (Reg.npPortStatus x) 0
/-- Whether die `x` holds the grant and works. -/
def State.active (s : State) (x : Nat) : Bool := s.dieUsable x && s.linkUp x && s.fov.holder == x && s.fov.sw.isNone

/-- Whether all eight lanes of die `x` are READY: one that is not is out of traffic, and its link with it (R440). -/
def State.lanesReady (s : State) (x : Nat) : Bool := (List.range 8).all (fun i => s.laneState (52 + 8 * x + i) == 2)

/-- Whether frames leave the device: an ordered stop and a shut-down end it (R461, R520). -/
def State.egressOn (s : State) : Bool := !s.pwr.stop && decide (s.pwr.shdn < 3)

/-- Entries of a ring of `size` from HEAD to the producer index (R379). -/
def ringLen (size head tail : Nat) : Nat := (tail + size * 4096 - head) % size

/-- What a rate in Mb/s adds to a bucket in a time. -/
def txRate (mbps ticks : Nat) : Int := (mbps * ticks : Nat)

/-- Fill two buckets up to the present instant (R358, R363). -/
def Buckets.fill (b : Buckets) (now cir cbs pir pbs : Nat) : Buckets :=
  let d := now - b.at_
  { c := min (b.c + txRate cir d) (max b.c (bucketBytes cbs)), p := min (b.p + txRate pir d) (max b.p (bucketBytes pbs)), at_ := now }

/-- A bucket never stands above its depth (R359, R364). -/
def Buckets.cap (b : Buckets) (cbs pbs : Nat) : Buckets := { b with c := min b.c (bucketBytes cbs), p := min b.p (bucketBytes pbs) }

/-! ### Roles and arming (R369, R373) -/

/-- The role of die `x` (R369). -/
def State.role (s : State) (x : Nat) : Nat :=
  if !s.dieUsable x || !s.linkUp x then 0 else if s.fov.holder = x then 1 else s.fov.standby

/-- Whether the configuration digests of both dies are known and equal (R373). -/
def Fov.digestMatch (f : Fov) : Bool :=
  match f.digests with
  | [some a, some b] => a == b
  | _ => false

/-- Whether the digests of both dies are known and differ (R373). -/
def Fov.digestDiffer (f : Fov) : Bool :=
  match f.digests with
  | [some a, some b] => a != b
  | _ => false

/-- ARMED is looked at anew (R373); a standby die without its die-to-die interface could not take over (R33; log entry 156). -/
def State.fovArm (s : State) : State :=
  let o := 1 - s.fov.holder
  let a := s.flag Reg.fovCtrl 0 && s.role o == 3 && s.fov.digestMatch && (s.path o).d2d
  if a = s.fov.armed then s else { s with fov := { s.fov with armed := a } }.raise 0x120000 3

/-- The standby die has failed, lost its link or left service: what it mirrored is gone, and it synchronises anew when it returns
(R33, R369). -/
def State.standbyOut (s : State) : State :=
  { s with fov := { s.fov with standby := 2, snap := none, transit := none, missed := 0 } }.fovArm

/-! ### The link (R353) -/

/-- FOV_BOTH_DOWN is raised where neither path has link (R378). -/
def State.bothDown (s : State) : State := if s.linkUp 0 || s.linkUp 1 then s else s.raise 0x120000 5

/-- A change of the link's state; losing the second link raises FOV_BOTH_DOWN, and a standby die that loses its link is logged
(R33). -/
def State.linkSet (s : State) (x : Nat) (up : Bool) : State :=
  let s := (s.setFlag (Reg.npPortStatus x) 0 up).raise (npBase x 0) 0
  let s := { s with fov := { s.fov with lostAt := s.fov.lostAt.set x (if up then none else some s.now) } }
  let s := if s.fov.holder = x then s
    else if up then s.fovArm else s.standbyOut.logIt (0x1000 + 0x100 * x) (evt 0 0) 1 []
  s.bothDown

/-- What the PCS of die `x` reports at the present instant: alignment, local and remote fault (R353). -/
def State.pcsSeen (s : State) (x : Nat) (aligned lf rf : Bool) : State :=
  let s := ((s.setFlag (Reg.npPortStatus x) 1 aligned).setFlag (Reg.npPortStatus x) 2 lf).setFlag (Reg.npPortStatus x) 3 rf
  let p := s.path x
  s.setPath x (if aligned && !lf && !rf then { p with faultAt := none, goodAt := some (p.goodAt.getD s.now) }
    else { p with faultAt := some (p.faultAt.getD s.now), goodAt := none })

/-- LINK_DOWN with the states of the PCS: once the loss or fault has lasted NPx_LOSS.US, the link is down (R353; log entry 159). -/
def State.linkLost (s : State) (x : Nat) (aligned lf rf : Bool) : State :=
  if s.domOn (32 + x) then
    let s := s.pcsSeen x aligned lf rf
    match (s.path x).faultAt with
    | some t => if s.linkUp x ∧ t + s.fld (Reg.npLoss x) 9 0 * us ≤ s.now then s.linkSet x false else s
    | none => s
  else s

/-! ### Addresses (R354) -/

/-- The IPv6 address `a` of the tile. -/
def State.ip6 (s : State) (a : Nat) : Nat := (List.range 4).foldl (fun v w => v * 2 ^ 32 + s.rd (Reg.fovIp6 (4 * a + w))) 0

/-- Whether an address is one of the tile's. -/
def State.isTile (s : State) (v6 : Bool) (a : Nat) : Bool :=
  if v6 then (List.range 4).any (fun i => s.flag Reg.fovAddrValid i && s.ip6 i == a) else s.flag Reg.fovAddrValid 4 && s.rd Reg.fovIp4 == a

/-- The multicast addresses of PTP (R355). -/
def ptpGroup (v6 : Bool) (a : Nat) : Bool :=
  if v6 then a == 0xFF0E0000000000000000000000000181 || a == 0xFF02000000000000000000000000006B else a == 0xE0000181 || a == 0xE000006B

/-! ### The firmware receive ring (R379) -/

/-- A frame goes to the receive ring, whose entries from HEAD through TAIL are the device's; without a buffer it is lost (R379;
log entry 29). -/
def State.toHrx (s : State) (x : Nat) (bytes : List Byte) (cls : Nat) : State :=
  let h := s.fld (Reg.npHrxHead x) 11 0
  if (s.path x).hrxLeft = 0 then s
  else
    let s := s.setPath x { s.path x with hrxLeft := (s.path x).hrxLeft - 1 }
    let d := s.addr64 (Reg.npHrxLo x) (Reg.npHrxHi x) + 16 * h
    match s.dramRead d 16 with
    | none => s
    | some w =>
      let room := leNat (slice w 8 4) % 16384
      let n := min room bytes.length
      let s := s.dramWrite (leNat (w.take 8)) (bytes.take n)
      let status := (if room < bytes.length then 0x1004 + 0x100 * x else 0) + 2 ^ 31
      let s := s.dramWrite (d + 8) (leBytes 4 (n + cls * 2 ^ 20) ++ leBytes 4 status)
      (s.wr (Reg.npHrxHead x) ((h + 1) % max 1 (s.fld (Reg.npHrxSize x) 12 0))).raise (npBase x 0) 2

/-! ### Policing and forwarding (R357, R358) -/

/-- Bytes in the forwarding queue. -/
def NetPath.fwdBytes (p : NetPath) : Nat := (p.fwd.map (fun f => f.bytes.length)).sum

/-- Whether the holder is congested (R358): ING_REASM_FULL is event bit 4 of the ING page. -/
def State.congested (s : State) (x : Nat) : Bool :=
  decide (s.fld (Reg.npPolCong x) 15 0 * 1024 < (s.path x).fwdBytes) || s.flag 0x30010 4

/-- The colour of a datagram of `l` bytes on stream `k`: 0 green, 1 yellow, 2 red (R358). -/
def State.police (s : State) (x k l : Nat) : Nat × State :=
  if 64 ≤ k ∨ !s.flag (Reg.npPolCtrl x k) 0 then (0, s)
  else
    let p := s.path x
    let cbs := s.fld (Reg.npPolCbs x k) 23 0
    let pbs := s.fld (Reg.npPolPbs x k) 23 0
    let b := (((p.pol.getD k { c := 0, p := 0, at_ := 0 }).fill s.now (s.fld (Reg.npPolCir x k) 18 0) cbs (s.fld (Reg.npPolPir x k) 18 0) pbs).cap cbs pbs)
    let n := bucketBytes l
    let r := if b.p < n then (2, b) else if b.c < n then (1, { b with p := b.p - n }) else (0, { b with p := b.p - n, c := b.c - n })
    (r.1, s.setPath x { p with pol := p.pol.set k r.2 })

/-- Whether the pre-filter has recorded a SEQ; a number more than 4,096 below the highest has left the record (R357). -/
def PreFilter.has (f : PreFilter) (q : Nat) : Bool := f.seen.contains q

/-- Record a delivered SEQ. -/
def PreFilter.record (f : PreFilter) (q : Nat) : PreFilter :=
  let h := max q (f.high.getD q)
  { high := some h, seen := (q :: f.seen).filter (fun v => decide (h ≤ v + 4096)) }

/-- A KST datagram is policed, filtered and put into the forwarding queue (R355 step 6, R357, R358). -/
def State.forward (s : State) (x l : Nat) (reply : Reply) (bytes : List Byte) : State :=
  let k := beNat (slice bytes 4 1)
  let col := s.police x k l
  let s := col.2
  let drop := col.1 = 2 ∨ (col.1 = 1 ∧ s.congested x)
  let s := if k < 64 then
      (if drop then s.add (Reg.npPolStatDrop x k) 1 else if col.1 = 0 then s.add (Reg.npPolStatGreen x k) 1 else s)
    else s
  let p := s.path x
  if drop then s
  else if k < 64 && (p.pre.getD k PreFilter.empty).has (beNat (slice bytes 8 6)) then s.add (Reg.npStat x 10) 1
  else if Config.fwdQueueBytes < p.fwdBytes + bytes.length then (s.add (Reg.npStat x 11) 1).raise (npBase x 0) 1
  else
    let s := if col.1 = 1 then s.add (Reg.npPolStatYellow x k) 1 else s
    s.setPath x { p with fwd := p.fwd ++ [{ bytes := bytes, reply := reply, handle := p.handles.getD k (0, 0) }] }

/-- The path dies hold the key generations of session `k` that are loaded now, as the handle of its datagrams (R371). -/
def State.handleNow (s : State) (k : Nat) : State :=
  let g := fun (i : Nat) => ((s.sess k).keys.getD i KeySlot.reset).gen
  { s with net := s.net.map (fun p => { p with handles := p.handles.set k (g 0, g 1) }) }

/-- A datagram crosses to ingest; one that a path forwarded is recorded, and its handle is compared (R357, R371). -/
def State.crossing (s : State) (reply : Option Reply) (bytes : List Byte) : State :=
  let x := s.fov.holder
  let p := s.path x
  match p.fwd with
  | f :: rest =>
    if f.bytes = bytes ∧ some f.reply = reply then
      let k := beNat (slice bytes 4 1)
      let s := s.setPath x { p with fwd := rest, pre := p.pre.set k ((p.pre.getD k PreFilter.empty).record (beNat (slice bytes 8 6))) }
      let sel := beNat (slice bytes 5 1) / 2 % 2
      let gen := ((s.sess k).keys.getD sel KeySlot.reset).gen
      s.kstArrive 0 none reply (0, 0) bytes (gen != (if sel = 0 then f.handle.1 else f.handle.2))
    else s.kstArrive 0 none reply (0, 0) bytes
  | [] => s.kstArrive 0 none reply (0, 0) bytes

/-! ### Classification (R355, R356) -/

/-- Steps 5 to 8 of R355 on a whole IP packet. `l` is the frame's length through the FCS, `cast` says that it came in fragments. -/
def State.classifyIp (s : State) (x l mac : Nat) (v6 : Bool) (src dst proto : Nat) (data bytes : List Byte) : State :=
  let udp := proto == 17
  let sport := beNat (slice data 0 2)
  let dport := beNat (slice data 2 2)
  let body := (data.drop 8).take (beNat (slice data 4 2) - 8)
  let mgmt := (List.range 16).any (fun i => s.fld (Reg.npMgmtPort x i) 15 0 == dport &&
    ((udp && s.flag (Reg.npMgmtPort x i) 17) || (proto == 6 && s.flag (Reg.npMgmtPort x i) 16)))
  if !s.isTile v6 dst then s.add (Reg.npStat x 7) 1
  else if udp && dport == s.fld (Reg.npKstPort x) 15 0 && decide (32 ≤ body.length) && beNat (body.take 2) == 0x4B53 then
    s.forward x l { v6 := v6, addr := src, port := sport, mac := mac } body
  else if mgmt then s.toHrx x bytes 0
  else if s.flag (Reg.npPortCtrl x) 4 then s.toHrx x bytes 1
  else s.add (Reg.npStat x 7) 1

/-- Insert a part by offset. -/
def putPart (o : Nat) (d : List Byte) : List (Nat × List Byte) → List (Nat × List Byte)
  | [] => [(o, d)]
  | (a, b) :: r => if o < a then (o, d) :: (a, b) :: r else if o = a then (o, d) :: r else (a, b) :: putPart o d r

/-- The packet that parts make, from offset `n` on, if none is missing. -/
def joinParts : Nat → List (Nat × List Byte) → Option (List Byte)
  | _, [] => some []
  | n, (a, b) :: r => if a = n then (joinParts (n + b.length) r).map (fun x => b ++ x) else none

/-- A fragment addressed to the tile (R356). -/
def State.fragment (s : State) (x mac : Nat) (v6 : Bool) (src dst id off : Nat) (more : Bool) (proto : Nat) (data : List Byte) : State :=
  let p := s.path x
  let mine := fun (f : Frag) => f.v6 == v6 && f.src == src && f.dst == dst && f.id == id && f.proto == proto
  match (match p.frags.find? mine with
    | some f => some f
    | none => if 64 ≤ p.frags.length then none
        else some { v6 := v6, src := src, dst := dst, id := id, proto := proto, first := s.now, parts := [], total := none }) with
  | none => s.add (Reg.npStat x 9) 1
  | some f =>
    let f := { f with parts := putPart off data f.parts, total := if more then f.total else some (off + data.length) }
    let rest := p.frags.filter (fun g => !mine g)
    match joinParts 0 f.parts with
    | some whole =>
      if f.total = some whole.length then
        let s := s.setPath x { p with frags := rest }
        if proto = 17 ∧ 8992 + 8 < whole.length then s
        else s.classifyIp x (whole.length + (if v6 then 40 else 20) + 18) mac v6 src dst proto whole whole
      else s.setPath x { p with frags := rest ++ [f] }
    | none => s.setPath x { p with frags := rest ++ [f] }

/-- Whether an IP packet is PTP (R355 step 4). -/
def State.isPtp (s : State) (v6 : Bool) (dst proto : Nat) (data : List Byte) : Bool :=
  proto == 17 && (beNat (slice data 2 2) == 319 || beNat (slice data 2 2) == 320) && (s.isTile v6 dst || ptpGroup v6 dst)

/-- The messageType of a PTP message in a frame, if it holds one (R355 step 4). -/
def State.ptpKind (s : State) (b : RxBody) : Option Nat :=
  match b with
  | .ptp k => some k
  | .ip v6 _ dst none proto data => if s.isPtp v6 dst proto data then some (beNat (slice data 8 1) % 16) else none
  | _ => none

/-- A PTP message that the port does not support is discarded and counted (R388): all but Sync, Follow_Up, Delay_Resp and Announce,
whose contents come with commands of their own (log entry 27). An event message, of type 0 to 3, gets no stamp while the die-to-die
interface is down (R385, R398). -/
def State.ptpOther (s : State) (x k : Nat) : State :=
  if s.flag (Reg.npPtpCtrl x) 0 && !([0, 8, 9, 11].contains k) then
    let s := if k < 4 ∧ !(s.path x).d2d then s.add (Reg.npPtpStat x 6) 1 else s
    s.add (Reg.npPtpStat x 5) 1
  else s

/-- Bytes that a VLAN tag adds. -/
def State.tagBytes (s : State) (x : Nat) : Nat := if s.flag (Reg.npPortCtrl x) 3 then 4 else 0

/-- The MAC address of die `x` (R354). -/
def State.macOf (s : State) (x : Nat) : Nat := s.fld (Reg.npMacHi x) 15 0 * 2 ^ 32 + s.rd (Reg.npMacLo x)

/-- The IEEE 802.1Q tag of a frame that die `x` sends with priority `c` (R360). -/
def State.vlanTag (s : State) (x c : Nat) : Option (Nat × Nat) :=
  if s.flag (Reg.npPortCtrl x) 3 then some (s.fld (Reg.npVlan x) 11 0, c) else none

/-- A frame that the path sends at once, outside its queues: ARP replies and neighbour advertisements (R355, R376), at least 64 bytes
long. It has no queue whose class its tag could carry: the priority is a free value (log entry 157). Nothing leaves in a stop (R461). -/
def State.sendNow (s : State) (x : Nat) (f : Egress) : State :=
  if !s.egressOn then s else
  let d := s.draw
  let l := (match f with | .advert _ _ _ _ _ => 90 | _ => 46) + s.tagBytes x
  ((d.2.emit (.net x 16 (s.vlanTag x (d.1 % 8)) f)).add (Reg.npStat x 12) 1).add64 (Reg.npStat x 13) (Reg.npStat x 14) (max 64 l)

/-- A question is answered, and the answer counted (R355, R379). -/
def State.answer (s : State) (x : Nat) (f : Egress) : State :=
  if s.egressOn then (s.sendNow x f).add (Reg.npStat x 15) 1 else s

/-- The multicast address of all IPv6 nodes, and its MAC address. -/
def allNodes : Nat × Nat := (0xFF020000000000000000000000000001, 0x333300000001)

/-- The answer to a neighbour solicitation from `source`; one from the unspecified address goes to all nodes (log entry 27). -/
def State.advertFor (s : State) (x a source mac : Nat) : Egress :=
  if source = 0 then .advert a (s.macOf x) allNodes.1 allNodes.2 false else .advert a (s.macOf x) source mac true

/-- FRAME_RECEIVE (R352, R355); a link whose lanes are not all READY carries no traffic (R440). -/
def State.frameIn (s : State) (x : Nat) (f : RxFrame) : State :=
  if !s.dieUsable x || !s.linkUp x || !s.lanesReady x || !s.flag (Reg.npPortCtrl x) 0 then s
  else if !f.fcsOk then s.add (Reg.npStat x 3) 1
  else if s.fld (Reg.npMtu x) 13 0 < f.len then s.add (Reg.npStat x 4) 1
  else if f.len < 64 then s
  else if f.body = .pause then s.add (Reg.npStat x 5) 1
  else
    let s := (s.add (Reg.npStat x 0) 1).add64 (Reg.npStat x 1) (Reg.npStat x 2) f.len
    let ptp := s.ptpKind f.body
    if !s.active x then (match ptp with | some k => s.ptpOther x k | none => s.add (Reg.npStat x 8) 1)
    else
      let vlanEn := s.flag (Reg.npPortCtrl x) 1
      let bad := match f.vlan with
        | some v => !vlanEn || v != s.fld (Reg.npVlan x) 11 0
        | none => vlanEn && !s.flag (Reg.npPortCtrl x) 2
      if bad then s.add (Reg.npStat x 6) 1
      else match f.body with
        | .arp a who => if s.isTile false a then s.answer x (.arpReply a (s.macOf x) who f.srcMac)
          else if s.flag (Reg.npPortCtrl x) 4 then s.toHrx x f.bytes 1 else s.add (Reg.npStat x 7) 1
        | .solicit a who =>
          if s.isTile true a then s.answer x (s.advertFor x a who f.srcMac) else s.add (Reg.npStat x 7) 1
        | .ip v6 src dst frag proto data =>
          match ptp with
          | some k => s.ptpOther x k
          | none => match frag with
            | some (id, off, more) =>
              if s.isTile v6 dst then s.fragment x f.srcMac v6 src dst id off more proto data else s.add (Reg.npStat x 7) 1
            | none => s.classifyIp x f.len f.srcMac v6 src dst proto data f.bytes
        | .ptp k => s.ptpOther x k
        | .other => if s.flag (Reg.npPortCtrl x) 4 then s.toHrx x f.bytes 1 else s.add (Reg.npStat x 7) 1
        | .pause => s

/-- NPX_FRAG_TIMEOUT (R356). -/
def State.fragTimeout (s : State) (x : Nat) : State :=
  let p := s.path x
  let keep := p.frags.filter (fun f => decide (s.now < f.first + ms))
  if keep.length = p.frags.length then s else (s.setPath x { p with frags := keep }).raise (npBase x 0) 6

/-! ### Egress queues (R360-R363) -/

def State.queue (s : State) (x q : Nat) : EgQueue := (s.path x).queues.getD q EgQueue.reset
def State.setQueue (s : State) (x q : Nat) (v : EgQueue) : State := s.setPath x { s.path x with queues := (s.path x).queues.set q v }
def State.qClass (s : State) (x q : Nat) : Nat := s.fld (Reg.npQCfg x q) 2 0

/-- Bytes in a queue. -/
def EgQueue.used (v : EgQueue) : Nat := (v.frames.map (fun f => f.len)).sum

/-- Tags of a head frame of `l` bytes from a start tag (R362). -/
def State.tagged (s : State) (x q : Nat) (v : EgQueue) (start : Rat) : EgQueue :=
  match v.frames with
  | f :: _ => { v with start := start, finish := start + ((f.len * 256 : Nat) : Rat) / ((max 1 (s.fld (Reg.npQCfg x q) 15 8) : Nat) : Rat) }
  | [] => v

/-- A frame enters a queue, or is discarded at its tail (R360). -/
def State.enqueue (s : State) (x q : Nat) (f : EgFrame) : State :=
  let v := s.queue x q
  if 256 * 1024 < v.used + f.len then s.add (Reg.npQDrop x q) 1
  else
    let v' := { v with frames := v.frames ++ [f] }
    s.setQueue x q (if v.frames.isEmpty then s.tagged x q v' ((s.path x).vt.getD (s.qClass x q) 0) else v')

/-- Ingest's datagrams go to the holder's KST_Q (R150, R360). Frame lengths follow the address family. -/
def State.sendKst (s : State) (k type : Nat) (payload : List Byte) : State :=
  match (s.sess k).reply with
  | none => s
  | some r =>
    let b := s.kstBuild k type payload
    let s := b.2
    let x := s.fov.holder
    let l := b.1.length + 8 + (if r.v6 then 40 else 20) + 18 + s.tagBytes x
    s.enqueue x (s.fld (Reg.npEgMap x) 3 0) { frame := .kst k type r b.1, len := max 64 l, desc := none }

/-- Buckets of a queue at the present instant. -/
def State.qBuckets (s : State) (x q : Nat) : Buckets :=
  let cbs := s.fld (Reg.npQCbs x q) 23 0
  let pbs := s.fld (Reg.npQPbs x q) 23 0
  (((s.queue x q).bkt.fill s.now (s.fld (Reg.npQCir x q) 18 0) cbs (s.fld (Reg.npQPir x q) 18 0) pbs).cap cbs pbs)

/-! ### Gate lists (R365-R368) -/

/-- The entry in force at device time `t` and the time left in it. -/
def GclList.at_ (g : GclList) (t : Nat) : Nat × Nat :=
  let c := g.cycle * ns
  let ph := (((t : Int) - (g.base : Int)) % (max 1 c : Nat)).toNat
  go ph 0 g.entries
where
  go (ph i : Nat) : List (Nat × Nat) → Nat × Nat
    | [] => (0, 0)
    | (_, n) :: r => if ph < n * ns then (i, n * ns - ph) else go (ph - n * ns) (i + 1) r

/-- The windows of a list, one cycle long, from device time `t` on: gates and length in 2^-32 ns. -/
def GclList.windows (g : GclList) (t : Nat) : List (Nat × Nat) :=
  let e := g.at_ t
  ((g.entries.getD e.1 (0, 0)).1, e.2) :: (g.entries.drop (e.1 + 1) ++ g.entries.take (e.1 + 1)).map (fun v => (v.1, v.2 * ns))

/-- Time for which gate `c` stays open over consecutive windows. -/
def openRun (c : Nat) : List (Nat × Nat) → Nat
  | [] => 0
  | (g, n) :: r => if bitOf g c then n + openRun c r else 0

/-- The longest run of windows with gate `c` open. -/
def longestRun (c : Nat) : List (Nat × Nat) → Nat
  | [] => 0
  | e :: r => max (openRun c (e :: r)) (longestRun c r)

/-- The list that drives the gates of die `x`: none while it is disabled (R365). -/
def State.gates (s : State) (x : Nat) : Option GclList := if s.flag (Reg.npGclCtrl x) 0 then (s.path x).gclForce else none

/-- The entry in force of die `x` at device time `t` and the time left in it, a held entry included (R368). -/
def State.gateAt (s : State) (x : Nat) (g : GclList) (t : Nat) : Nat × Nat :=
  match (s.path x).gclHold with
  | some (e, stop) => if t < stop then (e, stop - t) else g.at_ t
  | none => g.at_ t

/-- The entry in force now. -/
def State.gateNow (s : State) (x : Nat) (g : GclList) : Nat × Nat := s.gateAt x g s.device

/-- The windows of die `x` from now on: a held entry first, then those at which the list goes on (R368). -/
def State.windowsNow (s : State) (x : Nat) (g : GclList) : List (Nat × Nat) :=
  match (s.path x).gclHold with
  | some (e, t) => if s.device < t then ((g.entries.getD e (0, 0)).1, t - s.device) :: g.windows t else g.windows s.device
  | none => g.windows s.device

/-- The time for which gate `c` of die `x` stays open; `none` where nothing bounds it (R366). A pending list cuts the window short,
the first one too. -/
def State.gateOpen (s : State) (x c : Nat) : Option Nat :=
  if !s.flag (Reg.npGclCtrl x) 0 then none
  else
    let own := (s.gates x).bind (fun g => if g.entries.all (fun v => bitOf v.1 c) then none else some (openRun c (s.windowsNow x g)))
    match own, (s.path x).gclPend with
    | some n, some p => some (min n (p.start - s.device))
    | none, some p => some (p.start - s.device)
    | n, none => n

/-- The time a frame takes on the medium (R366). -/
def frameTime (l : Nat) : Nat := ceilDiv ((l + 20) * ns) 50

/-- Whether a frame of `l` bytes can never pass gate `c` (R366). -/
def State.oversize (s : State) (x c l : Nat) : Bool :=
  match s.gates x with
  | none => false
  | some g => !g.entries.all (fun v => bitOf v.1 c) && decide (longestRun c ((g.entries ++ g.entries).map (fun v => (v.1, v.2 * ns))) < frameTime l)

/-- Mark a ring descriptor done (R379). -/
def State.descDone (s : State) (x : Nat) (d : Option Nat) (status : Nat) : State :=
  match d with
  | some a => (s.dramWrite (a + 12) (leBytes 4 (status + 2 ^ 31))).raise (npBase x 0) 3
  | none => s

/-- Remove the head of a queue: the next frame's start tag is the finish tag of the one that leaves (R362). -/
def State.popHead (s : State) (x q : Nat) : State :=
  let v := s.queue x q
  s.setQueue x q (s.tagged x q { v with frames := v.frames.drop 1 } v.finish)

/-- Frames that no gate window can carry are discarded at the head of their queues (R366). -/
def State.dropOversize (s : State) (x : Nat) : State :=
  (List.range 16).foldl (fun s q => match (s.queue x q).frames with
    | f :: _ => if s.oversize x (s.qClass x q) f.len then
        ((s.popHead x q).add (Reg.npGclStatOversize x) 1).raise (npBase x 0) 5 |>.descDone x f.desc 0
      else s
    | [] => s) s

/-- Whether a queue is eligible (R361, R363, R366). -/
def State.eligible (s : State) (x q : Nat) : Bool :=
  match (s.queue x q).frames with
  | [] => false
  | f :: _ =>
    let b := s.qBuckets x q
    (!s.flag (Reg.npQCfg x q) 16 || decide (0 ≤ b.c ∧ 0 ≤ b.p)) &&
    (match s.gateOpen x (s.qClass x q) with | none => true | some t => decide (frameTime f.len ≤ t))

/-- The queue that is served: highest class, smallest start tag, lowest index (R361). -/
def State.chosen (s : State) (x : Nat) : Option Nat :=
  (List.range 16).foldl (fun best q =>
    if !s.eligible x q then best
    else match best with
      | none => some q
      | some b =>
        if s.qClass x b < s.qClass x q ∨ (s.qClass x b = s.qClass x q ∧ (s.queue x q).start < (s.queue x b).start) then some q else best) none

/-- Stamp and count a Delay_Req as it leaves (R386, R398). -/
def State.stampDreq (s : State) (x : Nat) (f : Egress) : State :=
  match f with
  | .delayReq n _ _ _ =>
    let s := s.add (Reg.npPtpStat x 2) 1
    if (s.path x).d2d then
      let t3 : Int := (s.device : Int) + s.fld (Reg.npTsTxLat x) 23 0 * 2 ^ 24
      s.setPath x { s.path x with ptp := { (s.path x).ptp with dreq := some (n, t3) } }
    else s.add (Reg.npPtpStat x 6) 1
  | _ => s

/-- TRANSMISSION_OPPORTUNITY (R361-R366); a holder that has released, or that still restores, sends nothing (R374, R376), nor does a link
whose lanes are not all READY (R440). -/
def State.transmit (s : State) (x : Nat) : State :=
  if !s.dieUsable x || !s.linkUp x || !s.lanesReady x || (s.fov.holder == x && s.fov.sw.isSome) || decide (s.now < (s.path x).busyUntil) then s
  else
    let s := s.dropOversize x
    match s.chosen x with
    | none => s
    | some q => match (s.queue x q).frames with
      | [] => s
      | f :: _ =>
        let v := s.queue x q
        let b := s.qBuckets x q
        let n := bucketBytes f.len
        let s := s.setQueue x q { v with bkt := if s.flag (Reg.npQCfg x q) 16 then { b with c := b.c - n, p := b.p - n } else b }
        let c := s.qClass x q
        let s := s.setPath x { s.path x with vt := (s.path x).vt.set c v.start, busyUntil := s.now + frameTime f.len }
        let s := (s.popHead x q).emit (.net x q (s.vlanTag x c) f.frame)
        let s := ((s.add (Reg.npQStatTx x q) 1).add (Reg.npStat x 12) 1).add64 (Reg.npStat x 13) (Reg.npStat x 14) f.len
        (s.stampDreq x f.frame).descDone x f.desc 0

/-- Take one descriptor of the firmware transmit ring (R360, R379). -/
def State.htxTake (s : State) (x : Nat) : State :=
  let h := s.fld (Reg.npHtxHead x) 11 0
  let d := s.addr64 (Reg.npHtxLo x) (Reg.npHtxHi x) + 16 * h
  let s := s.wr (Reg.npHtxHead x) ((h + 1) % max 1 (s.fld (Reg.npHtxSize x) 12 0))
  match s.dramRead d 16 with
  | none => s
  | some w =>
    let len := leNat (slice w 8 4) % 16384
    let q := leNat (slice w 8 4) / 65536 % 16
    if len = 0 then s.descDone x (some d) 2
    else match s.dramRead (leNat (w.take 8)) len with
      | none => s.descDone x (some d) 0xB
      | some bytes =>
        let l := len + 4 + s.tagBytes x
        if 256 * 1024 < (s.queue x q).used + l then (s.add (Reg.npQDrop x q) 1).descDone x (some d) 7
        else s.enqueue x q { frame := .raw bytes, len := l, desc := some d }

/-- Take the descriptors up to TAIL; only the holder sends them. -/
def State.htxTakeAll (s : State) (x : Nat) : State :=
  if !s.active x || !s.flag (Reg.npPortCtrl x) 0 then s
  else
    let size := max 1 (s.fld (Reg.npHtxSize x) 12 0)
    let n := ringLen size (s.fld (Reg.npHtxHead x) 11 0) (s.fld (Reg.npHtxTail x) 11 0)
    (List.range n).foldl (fun s _ => s.htxTake x) s

/-- LINK_UP: all eight lanes are READY and the PCS is aligned without fault; after 1 ms of it the link is up (R353; log entry 159).
The holder then sends what the transmit ring holds. -/
def State.linkBack (s : State) (x : Nat) : State :=
  if s.dieUsable x && s.flag (Reg.npPortCtrl x) 0 && s.lanesReady x then
    let s := s.pcsSeen x true false false
    match (s.path x).goodAt with
    | some t => if !s.linkUp x && decide (t + ms ≤ s.now) then (s.linkSet x true).htxTakeAll x else s
    | none => s
  else s

/-! ### Gate-list control (R367, R368) -/

/-- Device time from a pair of second words and a nanosecond word. -/
def State.gclBase (s : State) (x : Nat) : Nat :=
  ((s.rd (Reg.npGclBaseSecLo x) + s.rd (Reg.npGclBaseSecHi x) * 2 ^ 32) * 1000000000 + s.fld (Reg.npGclBaseNs x) 29 0) * ns

/-- The start of a list: the smallest BASE + n CYCLE at least 2 us ahead (R367). -/
def gclStart (base cycle now : Nat) : Nat :=
  let c := max 1 (cycle * ns)
  if now + 2 * us ≤ base then base else base + ceilDiv (now + 2 * us - base) c * c

/-- Show a start time. -/
def State.showStart (s : State) (x t : Nat) : State :=
  let n := t / ns
  ((s.wr (Reg.npGclStartSecLo x) (n / 1000000000 % 2 ^ 32)).wr (Reg.npGclStartSecHi x) (n / 1000000000 / 2 ^ 32)).wr (Reg.npGclStartNs x) (n % 1000000000)

/-- The entries of a bank. -/
def State.gclEntries (s : State) (x bank n : Nat) : List (Nat × Nat) :=
  (List.range n).map (fun e => (s.fld (Reg.npGclEntry x (256 * bank + e)) 7 0, s.fld (Reg.npGclEntry x (256 * bank + e)) 31 8))

/-- GO: the prepared bank becomes pending (R367). -/
def State.gclGo (s : State) (x : Nat) : State :=
  let p := s.path x
  let bank := 1 - p.gclBank
  let cycle := s.rd (Reg.npGclCycle x)
  let base := s.gclBase x
  let start := gclStart base cycle s.device
  (s.setPath x { p with gclPend := some { bank := bank, cycle := cycle, base := base, start := start,
                                          entries := s.gclEntries x bank (s.fld (Reg.npGclLen x) 8 0) } }).showStart x start

/-- NPX_GCL_SWITCH: the pending list takes force at its start (R367). -/
def State.gclSwitch (s : State) (x : Nat) : State :=
  let p := s.path x
  match p.gclPend with
  | some g =>
    if g.start ≤ s.device then
      ((s.setPath x { p with gclPend := none, gclForce := some g, gclBank := g.bank, gclHold := none }).setFlag (Reg.npGclCtrl x) 31 false).raise (npBase x 0) 4
    else s
  | none => s

/-- The path die's clock has stepped from device time `old` (R368): the entry in force then, a held one too, is kept to its end. -/
def State.gclStep (s : State) (x old : Nat) : State :=
  let p := s.path x
  let hold := p.gclForce.map (fun g => let e := s.gateAt x g old; (e.1, old + e.2))
  let pend := p.gclPend.map (fun g => if g.start < s.device then { g with start := gclStart g.base g.cycle s.device } else g)
  let s' := s.setPath x { p with gclHold := hold, gclPend := pend }
  match pend with
  | some g => s'.showStart x g.start
  | none => s'

/-! ### Registers of pages 0 to 3 (R379-R382) -/

/-- Checks of a write to a path die's page. -/
def State.npCheck (s : State) (x page off data : Nat) : List Nat :=
  if page = 0 then
    let en := s.flag (Reg.npPortCtrl x) 0
    if off = 0x40 then codeIf (bitOf data 1 && (s.fld (Reg.npVlan x) 11 0 == 0 || s.fld (Reg.npVlan x) 11 0 == 4095)) 1
    else if off = 0x44 then codeIf (s.flag (Reg.npPortCtrl x) 1 && (bitsOf data 11 0 == 0 || bitsOf data 11 0 == 4095)) 1
    else if (0x70 ≤ off ∧ off ≤ 0x78) ∨ (0x84 ≤ off ∧ off ≤ 0x8C) then codeIf en 9
    else []
  else if page = 1 then
    if 0x100 ≤ off then
      let k := (off - 0x100) / 0x20
      let r := (off - 0x100) % 0x20
      if r = 0 then codeIf (decide (s.fld (Reg.npPolPir x k) 18 0 < bitsOf data 18 0)) 6
      else if r = 8 then codeIf (decide (bitsOf data 18 0 < s.fld (Reg.npPolCir x k) 18 0)) 6
      else if r = 4 ∨ r = 0xC then codeIf (decide (bitsOf data 23 0 < s.fld (Reg.npMtu x) 13 0)) 6
      else []
    else []
  else if page = 2 then
    if 0x100 ≤ off ∧ off < 0x300 then
      let q := (off - 0x100) / 0x20
      let r := (off - 0x100) % 0x20
      if r = 4 then codeIf (decide (s.fld (Reg.npQPir x q) 18 0 < bitsOf data 18 0)) 6
      else if r = 0xC then codeIf (decide (bitsOf data 18 0 < s.fld (Reg.npQCir x q) 18 0)) 6
      else if r = 8 ∨ r = 0x10 then codeIf (decide (bitsOf data 23 0 < s.fld (Reg.npMtu x) 13 0)) 6
      else []
    else []
  else if page = 3 then
    let p := s.path x
    if off = 0x40 then
      let go := bitOf data 31
      let cancel := bitOf data 30
      let bank := 1 - p.gclBank
      let n := s.fld (Reg.npGclLen x) 8 0
      codeIf (go && p.gclPend.isSome) 9 ++ codeIf (cancel && p.gclPend.isNone) 0xF ++ codeIf (go && cancel) 6 ++
      codeIf (go && ((s.gclEntries x bank n).map (fun e => e.2)).sum != s.rd (Reg.npGclCycle x)) (0x1001 + 0x100 * x)
    else if 0x800 ≤ off then
      let b := (off - 0x800) / 0x400
      codeIf ((match p.gclForce with | some g => g.bank == b | none => false) || (match p.gclPend with | some g => g.bank == b | none => false)) 9
    else []
  else []

/-- Effects of an accepted write to a path die's page: `old` is the word before it. -/
def State.npEffect (s : State) (x page off old data : Nat) : State :=
  let p := s.path x
  if page = 0 then
    if off = 0x90 then s.htxTakeAll x
    else if off = 0x7C then
      s.setPath x { p with hrxLeft := ringLen (max 1 (s.fld (Reg.npHrxSize x) 12 0)) (s.fld (Reg.npHrxHead x) 11 0) (bitsOf data 11 0) + 1 }
    else if off = 0x40 ∧ bitOf old 0 ∧ !bitOf data 0 then
      let s := s.setPath x { p with faultAt := none, goodAt := none }
      if s.linkUp x then s.linkSet x false else s
    else s
  else if page = 1 ∧ 0x100 ≤ off then
    let k := (off - 0x100) / 0x20
    let r := (off - 0x100) % 0x20
    let was := fun (o a : Nat) => if r = o then old else s.rd a
    let b := (p.pol.getD k { c := 0, p := 0, at_ := 0 }).fill s.now (was 0 (Reg.npPolCir x k)) (was 4 (Reg.npPolCbs x k)) (was 8 (Reg.npPolPir x k)) (was 0xC (Reg.npPolPbs x k))
    s.setPath x { p with pol := p.pol.set k (b.cap (s.rd (Reg.npPolCbs x k)) (s.rd (Reg.npPolPbs x k))) }
  else if page = 2 ∧ 0x100 ≤ off ∧ off < 0x300 then
    let q := (off - 0x100) / 0x20
    let r := (off - 0x100) % 0x20
    let was := fun (o a : Nat) => if r = o then old else s.rd a
    let v := s.queue x q
    let b := v.bkt.fill s.now (was 4 (Reg.npQCir x q)) (was 8 (Reg.npQCbs x q)) (was 0xC (Reg.npQPir x q)) (was 0x10 (Reg.npQPbs x q))
    s.setQueue x q { v with bkt := b.cap (s.rd (Reg.npQCbs x q)) (s.rd (Reg.npQPbs x q)) }
  else if page = 3 ∧ off = 0x40 then
    if bitOf data 31 then s.gclGo x
    else if bitOf data 30 then
      ((s.setPath x { p with gclPend := none }).setFlag (Reg.npGclCtrl x) 31 false).showStart x ((p.gclForce.map (fun g => g.start)).getD 0)
    else s
  else s

/-- A bucket level as its register shows it. -/
def bucketWord (v : Int) : Nat := toBits 32 (clampI (-(2 ^ 31)) (2 ^ 31 - 1) (v / (8000 * 2 ^ 32)))

/-- Computed words of a path die's pages. -/
def State.npRead (s : State) (x page off : Nat) : Option Nat :=
  let b := fun (v : Bool) (i : Nat) => if v then 2 ^ i else 0
  if page = 0 ∧ off = 0x5C then some (putBits (s.rd (Reg.npPortStatus x)) 4 4 (b (s.active x && s.congested x) 0))
  else if page = 2 ∧ 0x100 ≤ off ∧ off < 0x300 then
    let q := (off - 0x100) / 0x20
    if off % 0x20 = 0x14 then some (bucketWord (s.qBuckets x q).c)
    else if off % 0x20 = 0x18 then some (bucketWord (s.qBuckets x q).p) else none
  else if page = 3 ∧ off = 0x58 then
    let p := s.path x
    some (b p.gclForce.isSome 0 + b p.gclPend.isSome 1 + p.gclBank * 4 + (match p.gclForce with | some g => (s.gateNow x g).1 * 256 | none => 0))
  else none

end Sys2Proof.Machine
end

