-- ==== Sys2Proof/Machine/Time.lean ====
section
/-! DEFINITION. Device time (R384-R398): the servo and its states, holdover, crystal compensation, the PTP ports, and the
registers of the TIM page and of page 4 of a path die. -/

namespace Sys2Proof.Machine

/-! ### The state of device time (R391) -/

/-- TIM_STATUS.STATE: 0 FREE, 1 ACQUIRING, 2 LOCKED, 3 HOLDOVER. -/
def State.timState (s : State) : Nat := s.fld Reg.timStatus 1 0

/-- Move the state; the raster's lock state follows (R83, R391). -/
def State.setTim (s : State) (v : Nat) : State :=
  if s.timState = v then s
  else
    let s' := ((s.setFld Reg.timStatus 1 0 v).setFlag Reg.timStatus 2 (v != 0)).raise 0x130000 0
    let s' := if s.timState = 2 ∧ v ≠ 2 then s'.add (Reg.timStat 3) 1 else s'
    if s.domOn 5 then s'.lockFollow (v != 0) (v == 3) else s'

/-- A rational limited to a range. -/
def clampQ (lo hi v : Rat) : Rat := if v < lo then lo else if hi < v then hi else v

/-- Device time goes on at a new rate from the present instant, with a step (R390). What is kept for the holdover's mean is the
register's value (R394). -/
def State.setRate (s : State) (step : Int) (rate : Rat) : State :=
  let s' := s.anchor step rate
  let keep := (s.tim.rates.takeWhile (fun r => decide (s.now < r.1 + 255 * sec)))
  let old := (s.tim.rates.drop keep.length).take 1
  { s' with tim := { s'.tim with rates := (s.now, (rate.floor : Rat)) :: keep ++ old } }.wr Reg.timRate (toBits 32 rate.floor)

/-- The clocks of both path dies follow a step (R368, R385). -/
def State.clockStepped (s : State) (old : Nat) : State := (s.gclStep 0 old).gclStep 1 old

/-- The mean of the rate in force over the last `w` units of time (R394). -/
def meanRate (rates : List (Nat × Rat)) (now w : Nat) : Rat :=
  if w = 0 then 0 else go rates now / ((w : Nat) : Rat)
where
  go : List (Nat × Rat) → Nat → Rat
    | [], _ => 0
    | (t, r) :: rest, stop =>
      let a := max t (now - w)
      (if a < stop then ((stop - a : Nat) : Rat) * r else 0) + (if now - w < t then go rest (min t stop) else 0)

/-! ### Crystal compensation (R394, R395) -/

/-- Words of the compensation table: valid mask, then 32 bins (R395). -/
def State.xoWords (s : State) : List Nat :=
  if s.flag Reg.timCtrl 3 then
    match (s.cal.getD s.mgt.calBase none).bind (fun c => c.xo) with
    | some w => w
    | none => List.replicate 33 0
  else s.rd Reg.timXoValid :: (List.range 32).map (fun b => s.rd (Reg.timXoBin b))

/-- comp(T) in ppb, T in 1/16 °C: linear between the centres of the two nearest valid bins, the nearest bin outside them (R394). -/
def compAt (words : List Nat) (t : Int) : Rat :=
  let ok := (List.range 32).filter (fun b => bitOf (words.getD 0 0) b)
  let val := fun (b : Nat) => (signedBits (words.getD (1 + b) 0) 32 : Rat) / 256
  let centre := fun (b : Nat) => 16 * (-18 + 4 * (b : Int))
  match (ok.filter (fun b => decide (centre b ≤ t))).getLast?, ok.find? (fun b => decide (t < centre b)) with
  | some a, some b => val a + (val b - val a) * ((t - centre a : Int) : Rat) / ((centre b - centre a : Int) : Rat)
  | some a, none => val a
  | none, some b => val b
  | none, none => 0

/-- comp(T) - comp(T_entry), both from the table in force; 0 with COMP_EN 0, with no valid bin, and while the channel gives no
temperature (R394). -/
def State.compDelta (s : State) : Rat :=
  match s.tim.xo, s.tim.entryT with
  | some t, some e => if s.flag Reg.timCtrl 1 && s.flag Reg.timXoChan 8 then compAt s.xoWords t - compAt s.xoWords e else 0
  | _, _ => 0

/-! ### The servo (R390) -/

/-- Enter HOLDOVER (R391, R394). -/
def State.enterHold (s : State) : State :=
  if s.timState = 0 ∨ s.timState = 3 then s
  else
    let avg := meanRate s.tim.rates s.now (s.fld Reg.timHold 7 0 * sec)
    let s := { s with tim := { s.tim with holdRate := avg, entryT := s.tim.xo, holdStart := s.now } }.add (Reg.timStat 2) 1
    (s.setRate 0 avg).setTim 3

/-- The end of a holdover leaves its length in TIM_HOLD_SEC. -/
def State.leaveHold (s : State) : State :=
  if s.timState = 3 then s.wr Reg.timHoldSec ((s.now - s.tim.holdStart) / sec % 2 ^ 32) else s

/-- One sample of the servo, offset in 2^-32 ns (R390, R391). -/
def State.servo (s : State) (x : Nat) (off : Int) : State :=
  let s := ((s.add (Reg.timStat 0) 1).wr Reg.timOffset (toBits 32 (clampI (-(2 ^ 31)) (2 ^ 31 - 1) (off / ns)))).setFlag Reg.timStatus 3 (x == 1)
  let q : Rat := (off : Rat) / ((ns : Nat) : Rat)
  let first := s.timState = 0
  if first ∨ (((s.fld Reg.timStep 19 0 * ns : Nat) : Int) < absI off ∧ s.flag Reg.timCtrl 0) then
    let old := s.device
    let s := (((s.leaveHold.setRate (-off) s.timRate).add (Reg.timStat 1) 1).raise 0x130000 1).clockStepped old
    { s with tim := { s.tim with good := 0 } }.setTim 1
  else
    let integ := s.tim.integ + (s.fld Reg.timServo 31 16 : Rat) * q / 65536
    let rate := clampQ (-200000) 200000 (integ + (s.fld Reg.timServo 15 0 : Rat) * q / 256)
    let good := if absI off < ((s.fld Reg.timLock 15 0 * ns : Nat) : Int) then s.tim.good + 1 else 0
    let s := s.leaveHold.setRate 0 rate
    let s := { s with tim := { s.tim with integ := integ, good := good } }
    let s := if s.timState = 3 then s.setTim 1 else s
    if s.timState = 2 then (if good = 0 then s.setTim 1 else s)
    else if s.fld Reg.timLock 23 16 ≤ good then s.setTim 2 else s

/-- One housekeeping round: crystal temperature in 1/16 °C, holdover, learning (R394, R395). -/
def State.timRound (s : State) (t : Option Int) : State :=
  let t := if s.flag Reg.timXoChan 8 then t else none
  let s := { s with tim := { s.tim with xo := t } }
  let s := match t with | some v => s.wr Reg.timXoT (toBits 8 (v / 16)) | none => s
  if s.timState = 3 then
    let target := s.tim.holdRate + s.compDelta
    if target = s.timRate then s else s.setRate 0 (clampQ (s.timRate - 1) (s.timRate + 1) target)
  else if s.timState = 2 && s.flag Reg.timCtrl 2 && !s.flag Reg.timCtrl 3 then
    match t with
    | none => { s with tim := { s.tim with learnBin := none } }
    | some v =>
      if v < 16 * -20 ∨ 16 * 108 ≤ v then { s with tim := { s.tim with learnBin := none } }
      else
        let b := ((v + 16 * 20) / 64).toNat
        let m := s.tim
        let m := if m.learnBin = some b then m else { m with learnBin := some b, learnRounds := 0, learnSum := 0 }
        let m := { m with learnRounds := m.learnRounds + 1, learnSum := m.learnSum + (s.timRate.floor : Rat) }
        if m.learnRounds < 1000 then { s with tim := m }
        else
          let n := m.residence.getD b 0 + 1
          let old := signedBits (s.rd (Reg.timXoBin b)) 32
          let new := old + ((m.learnSum / 1000 * 256 - (old : Rat)) / 64).floor
          let s := { s with tim := { m with learnRounds := 0, learnSum := 0, residence := m.residence.set b n } }.wr (Reg.timXoBin b) (toBits 32 new)
          if 60 ≤ n then s.setFlag Reg.timXoValid b true else s
  else { s with tim := { s.tim with learnBin := none } }

/-! ### PTP ports (R386-R393) -/

def State.ptp (s : State) (x : Nat) : Ptp := (s.path x).ptp
def State.setPtp (s : State) (x : Nat) (p : Ptp) : State := s.setPath x { s.path x with ptp := p }

/-- NPx_PTP_STATUS.STATE: 0 DISABLED, 1 LISTENING, 2 UNCALIBRATED, 3 SLAVE, 4 FAULTY. -/
def State.ptpState (s : State) (x : Nat) : Nat := s.fld (Reg.npPtpStatus x) 2 0

/-- Move a port's state; the holder's port leaving SLAVE puts device time in HOLDOVER (R391). -/
def State.setPtpState (s : State) (x v : Nat) : State :=
  if s.ptpState x = v then s
  else
    let s' := (s.setFld (Reg.npPtpStatus x) 2 0 v).raise (npBase x 4) 0
    if s.ptpState x = 3 ∧ s.fov.holder = x then (s'.setFlag (Reg.npPtpStatus x) 9 false).enterHold else s'

/-- Whether the port of die `x` runs (R398). -/
def State.ptpRuns (s : State) (x : Nat) : Bool := s.dieUsable x && s.flag (Reg.npPtpCtrl x) 0

/-- A message interval in 2^-32 ns. -/
def intervalTime (i : Int) : Nat := if 0 ≤ i then sec * 2 ^ i.toNat else sec / 2 ^ (-i).toNat

/-- Device time of a stamp's seconds, widened to lie nearest to device time (R387), in 2^-32 ns. -/
def State.widen (s : State) (sec48 n : Nat) : Int :=
  let now : Int := s.device / (1000000000 * ns)
  let hi : Int := (2 * (now - (sec48 : Int)) + 2 ^ 48) / 2 ^ 49
  (((sec48 : Int) + hi * 2 ^ 48) * 1000000000 + n) * ns

/-- The middle value of a list, the mean of the middle two for an even count. -/
def median (l : List Rat) : Rat :=
  let a := l.mergeSort (fun x y => decide (x ≤ y))
  if a.length % 2 = 1 then a.getD (a.length / 2) 0 else (a.getD (a.length / 2 - 1) 0 + a.getD (a.length / 2) 0) / 2

/-- The delay a port works with: its own, or on the standby without Delay_Req that of the last snapshot (R393). -/
def State.pathDelay (s : State) (x : Nat) : Option Rat :=
  if s.fov.holder ≠ x ∧ !s.flag (Reg.npPtpCtrl x) 4 then s.fov.snap.bind (fun m => m.mean) else (s.ptp x).mean

/-- A complete Sync sample: the offset, and the servo on the holder (R389, R393). -/
def State.syncSample (s : State) (x : Nat) (p : SyncSample) : State :=
  let s := s.setPtp x { s.ptp x with last := some p, waiting := none }
  match s.pathDelay x with
  | none => s.setPtp x { s.ptp x with held := some p }
  | some d =>
    let off := ((p.t2 - p.t1 - p.corr : Int) : Rat) - d - ((signedBits (s.rd (Reg.npPtpAsym x)) 32 * 2 ^ 24 : Int) : Rat)
    let o := off.floor
    let s := s.wr (Reg.npPtpOffset x) (toBits 32 (clampI (-(2 ^ 31)) (2 ^ 31 - 1) (o / ns)))
    let s := s.setPtp x { s.ptp x with held := none }
    let s := if s.ptpState x = 2 then s.setPtpState x 3 else s
    if s.fov.holder = x && s.active x then (s.setFlag (Reg.npPtpStatus x) 9 true).servo x o else s

/-- Whether a message is for this port: its domain and its parent (R388). -/
def State.fromParent (s : State) (x : Nat) (m : PtpMsg) : Bool :=
  s.fld (Reg.npPtpCtrl x) 15 8 == m.domain && (s.ptp x).parent == some (m.clock, m.port)

/-- A correctionField in 2^-32 ns (R387). -/
def corrUnits (c : Int) : Int := c * 2 ^ 16

/-- SYNC: the start of its frame passed at the present instant (R386, R389). -/
def State.syncIn (s : State) (x : Nat) (m : PtpMsg) : State :=
  if !s.ptpRuns x then s else
  let s := if (s.path x).d2d then s else s.add (Reg.npPtpStat x 6) 1
  if s.fld (Reg.npPtpCtrl x) 15 8 != m.domain then s
  else if m.interval < -7 ∨ 1 < m.interval then s.add (Reg.npPtpStat x 5) 1
  else if !(s.path x).d2d || !s.fromParent x m then s
  else
    let s := s.add (Reg.npPtpStat x 0) 1
    let s := if (s.ptp x).waiting.isSome then s.add (Reg.npPtpStat x 5) 1 else s
    let t2 : Int := (s.device : Int) - s.fld (Reg.npTsRxLat x) 23 0 * 2 ^ 24
    let p := { s.ptp x with syncInterval := m.interval, lastSync := s.now, waiting := none }
    let s := (s.setPtp x p).setFlag (Reg.npPtpStatus x) 8 m.twoStep
    if m.twoStep then s.setPtp x { p with waiting := some (m.seq, { t1 := 0, t2 := t2, corr := corrUnits m.corr }, s.now) }
    else s.syncSample x { t1 := s.widen m.sec m.ns, t2 := t2, corr := corrUnits m.corr }

/-- FOLLOW_UP: it completes the Sync that waits for it, within one Sync interval (R389); a FAULTY port takes none (R385). -/
def State.followUp (s : State) (x : Nat) (m : PtpMsg) : State :=
  if !s.ptpRuns x || !s.fromParent x m then s
  else
    let s := s.add (Reg.npPtpStat x 1) 1
    if !(s.path x).d2d then s else
    match (s.ptp x).waiting with
    | some (q, p, t) =>
      if q ≠ m.seq then s
      else if t + intervalTime (s.ptp x).syncInterval < s.now then (s.setPtp x { s.ptp x with waiting := none }).add (Reg.npPtpStat x 5) 1
      else s.syncSample x { p with t1 := s.widen m.sec m.ns, corr := p.corr + corrUnits m.corr }
    | none => s

/-- The clock identity of die `x`: the EUI-64 of its MAC address (R388). -/
def State.clockId (s : State) (x : Nat) : Nat :=
  let m := s.macOf x
  m / 2 ^ 24 * 2 ^ 40 + 0xFFFE * 2 ^ 24 + m % 2 ^ 24

/-- The mean time between two Delay_Req: the master's, or before the first Delay_Resp the Sync interval (R388). -/
def State.dreqTime (s : State) (x : Nat) : Nat := intervalTime ((s.ptp x).dreqInterval.getD (s.ptp x).syncInterval)

/-- DELAY_REQ: the holder, or a standby with STBY_DREQ, queues a Delay_Req when one is due (R360, R388, R393). The time until the next
is a free value of at most twice the mean (log entry 186). -/
def State.delayReq (s : State) (x : Nat) : State :=
  if s.ptpRuns x && s.linkUp x && (s.path x).d2d && decide ((s.ptp x).dreqAt ≤ s.now) && (s.ptp x).last.isSome && (s.fov.holder == x || s.flag (Reg.npPtpCtrl x) 4) then
    let n := ((s.ptp x).dreqSeq + 1) % 65536
    let d := s.draw
    let s := d.2.setPtp x { s.ptp x with dreqSeq := n, dreq := none, dreqAt := s.now + d.1 % (2 * s.dreqTime x + 1) }
    let tr := s.fld (Reg.npPtpCtrl x) 2 1
    s.enqueue x (s.fld (Reg.npEgMap x) 11 8) { frame := .delayReq n tr (s.clockId x, 1) (if s.flag (Reg.npPtpCtrl x) 5 then (s.ptp x).parent else none), len := max 64 (44 + 18 + s.tagBytes x + (if tr = 0 then 0 else if tr = 1 then 28 else 48)), desc := none }
  else s

/-- DELAY_RESP to this port: a value of d for the median, and the master's logMinDelayReqInterval (R388, R389); a FAULTY port takes
none (R385). -/
def State.delayResp (s : State) (x : Nat) (m : PtpMsg) : State :=
  if !s.ptpRuns x || !s.fromParent x m || m.requesting != (s.clockId x, 1) then s
  else
    let s := (s.add (Reg.npPtpStat x 3) 1).setPtp x { s.ptp x with dreqInterval := some m.interval }
    if !(s.path x).d2d then s else
    match (s.ptp x).dreq, (s.ptp x).last with
    | some (q, t3), some p =>
      if q ≠ m.seq then s
      else
        let d : Rat := ((p.t2 - p.t1 - p.corr + (s.widen m.sec m.ns - t3 - corrUnits m.corr) : Int) : Rat) / 2
        let ds := (d :: (s.ptp x).delays).take (s.fld (Reg.npPtpTimeout x) 20 16)
        let mean := median ds
        let held := (s.ptp x).held
        let s := (s.setPtp x { s.ptp x with delays := ds, mean := some mean, dreq := none, held := none }).wr (Reg.npPtpDelay x)
          (toBits 32 (clampI 0 (2 ^ 32 - 1) (mean / 2 ^ 24).floor))
        match held with
        | some h => s.syncSample x h
        | none => s
    | _, _ => s

/-- Better in the sense of the best master clock algorithm's data set comparison (R388). -/
def betterMaster (a b : Foreign) : Bool :=
  let k := fun (f : Foreign) => [f.data.prio1, f.data.cls, f.data.accuracy, f.data.variance, f.data.prio2, f.data.gm, f.data.steps, f.clock, f.port]
  decide (k a < k b)

/-- Whether a foreign master qualifies: two Announce messages within four intervals (R388). -/
def Foreign.qualified (f : Foreign) (now : Nat) : Bool :=
  match f.prev with
  | some p => decide (now ≤ p + 4 * intervalTime f.interval)
  | none => false

/-- Choose the parent among the qualified foreign masters (R388, R392). The delays measured so far stay (log entry 164). -/
def State.chooseParent (s : State) (x : Nat) : State :=
  let p := s.ptp x
  let best := (p.foreign.filter (fun f => f.qualified s.now)).foldl (fun b f => match b with
    | none => some f
    | some g => if betterMaster f g then some f else some g) (none : Option Foreign)
  match best with
  | none => s
  | some f =>
    let new := p.parent ≠ some (f.clock, f.port)
    let s := s.setPtp x { p with parent := some (f.clock, f.port), annInterval := f.interval, waiting := if new then none else p.waiting }
    let s := ((s.wr (Reg.npPtpParentLo x) (f.clock % 2 ^ 32)).wr (Reg.npPtpParentHi x) (f.clock / 2 ^ 32)).wr (Reg.npPtpParentPort x) f.port
    let s := ((s.wr (Reg.npPtpGmIdLo x) (f.data.gm % 2 ^ 32)).wr (Reg.npPtpGmIdHi x) (f.data.gm / 2 ^ 32)).wr (Reg.npPtpGmQuality x)
      (f.data.cls % 256 + f.data.accuracy % 256 * 256 + f.data.variance % 65536 * 65536)
    let s := if s.fov.holder = x then s.wr Reg.timUtc (f.data.utc % 65536 + f.data.flags % 8 * 65536) else s
    let s := if new then s.raise (npBase x 4) 1 else s
    if s.ptpState x = 1 then (s.setPtp x { s.ptp x with lastSync := s.now }).setPtpState x 2 else s

/-- ANNOUNCE (R388, R391). -/
def State.announceIn (s : State) (x : Nat) (m : PtpMsg) (d : AnnounceData) : State :=
  if !s.ptpRuns x || s.fld (Reg.npPtpCtrl x) 15 8 != m.domain then s
  else if m.interval < -3 ∨ 3 < m.interval then s.add (Reg.npPtpStat x 5) 1
  else
    let s := s.add (Reg.npPtpStat x 4) 1
    let p := s.ptp x
    let mine := fun (f : Foreign) => f.clock == m.clock && f.port == m.port
    let f : Foreign := { clock := m.clock, port := m.port, data := d, last := s.now, prev := (p.foreign.find? mine).map (fun g => g.last), interval := m.interval }
    let p := { p with foreign := f :: p.foreign.filter (fun g => !mine g), lastAnn := if p.parent = some (m.clock, m.port) then s.now else p.lastAnn }
    let s := s.setPtp x p
    let before := (s.ptp x).parent
    let s := s.chooseParent x
    if (s.ptp x).parent = before then s else s.setPtp x { s.ptp x with lastAnn := s.now }

/-- PTP_TIMEOUT: the parent has been silent for ANN_TO announce intervals, or no Sync has come for SYNC_TO Sync intervals (R391). Where
another master qualifies it becomes the parent and the servo goes on (R392). A FAULTY port stays so (R385); a new holder may have had no
master at all. -/
def State.ptpTimeout (s : State) (x : Nat) : State :=
  let p := s.ptp x
  let ann := decide (p.lastAnn + s.fld (Reg.npPtpTimeout x) 3 0 * intervalTime p.annInterval ≤ s.now)
  let syn := decide (p.lastSync + s.fld (Reg.npPtpTimeout x) 11 8 * intervalTime p.syncInterval ≤ s.now)
  if s.ptpRuns x && (s.path x).d2d && p.parent.isSome && (ann || syn) then
    let s := s.raise (npBase x 4) 2
    let left := p.foreign.filter (fun f => p.parent != some (f.clock, f.port) && f.qualified s.now)
    let lone := ann && left.isEmpty
    let s := if ann then s.setPtp x { p with parent := none, foreign := left, waiting := none, lastAnn := s.now } else s
    let s := if ann then s.chooseParent x else s
    let s := if lone then s.setPtpState x 1 else if syn then s.setPtpState x 2 else s
    if s.fov.holder = x ∧ (lone ∨ syn) then s.enterHold else s
  else if s.fov.holder = x ∧ p.parent = none ∧ ann then s.enterHold
  else s

/-- The die-to-die interface goes down or returns (R385); that of the standby die counts as a fault of the die, which is logged
(R33; log entry 156). -/
def State.dieLink (s : State) (x : Nat) (up : Bool) : State :=
  let fell := (s.path x).d2d && !up
  let q := s.ptp x
  let s := s.setPath x { s.path x with d2d := up, ptp := if up then q else { q with waiting := none, held := none } }
  let s := if s.fov.holder = x then s
    else (if fell && s.dieUsable x then s.logIt (0x1000 + 0x100 * x) 5 1 [] else s).fovArm
  if !s.flag (Reg.npPtpCtrl x) 0 then s
  else if up then (if s.ptpState x = 4 then s.setPtpState x (if (s.ptp x).parent.isSome then 2 else 1) else s)
  else s.setPtpState x 4

/-! ### Registers (R397, R398) -/

/-- TIM_NOW_READ captures the other NOW words (R397). -/
def State.timCapture (s : State) : State :=
  let d := s.device
  let n := d / ns
  (((s.wr Reg.timNowSecLo (n / 1000000000 % 2 ^ 32)).wr Reg.timNowSecHi (n / 1000000000 / 2 ^ 32)).wr Reg.timNowNs (n % 1000000000)).wr Reg.timNowFrac
    (d % ns / 2 ^ 16)

/-- Checks of a write to the TIM page. -/
def State.timCheck (s : State) (off : Nat) : List Nat :=
  if 0x100 ≤ off ∧ off < 0x180 then codeIf (s.flag Reg.timCtrl 2 && !s.flag Reg.timCtrl 3) 9 else []

/-- Computed words of the TIM page. -/
def State.timRead (s : State) (off : Nat) : Option Nat :=
  if off = 0x74 then some (if s.timState = 3 then (s.now - s.tim.holdStart) / sec % 2 ^ 32 else s.rd Reg.timHoldSec) else none

/-- Checks of a write to the PTP page of die `x`. -/
def State.ptpCheck (s : State) (x off data : Nat) : List Nat :=
  if off = 0x40 then
    codeIf (s.flag (Reg.npPtpCtrl x) 0 && decide (s.rd (Reg.npPtpCtrl x) / 2 ≠ data / 2)) 9 ++
    codeIf (bitOf data 4 && bitsOf data 2 1 != 0) 6
  else if off = 0x44 then codeIf (bitsOf data 20 16 % 2 == 0 && bitsOf data 20 16 != 0) 1
  else []

/-- Effects of an accepted write to the PTP page: EN starts or stops the port (R388, R398). -/
def State.ptpEffect (s : State) (x off old data : Nat) : State :=
  if off = 0x40 ∧ bitOf old 0 ≠ bitOf data 0 then
    if bitOf data 0 then (s.setPtp x Ptp.reset).setPtpState x (if (s.path x).d2d then 1 else 4) else s.setPtpState x 0
  else s

end Sys2Proof.Machine
end

