-- ==== Sys2Proof/Machine/Failover.lean ====
section
/-! DEFINITION. The grant and fail-over (R16, R369-R378, R383): heartbeats, roles, snapshots, switch-over, restore, cold
takeover, digests, and the registers of the FOV page. -/

namespace Sys2Proof.Machine

/-! ### Roles and arming (R369, R373) -/

/-- Whether die `x` could hold the grant: heartbeat present and link up (R374). -/
def State.qualifies (s : State) (x : Nat) : Bool :=
  s.domOn (32 + x) && s.linkUp x && (match s.fov.beat.getD x none with | some t => decide (s.now < t + 50 * us) | none => false)

/-- The addresses of the words that the digest covers: the written words of pages 0 to 3 but the MAC address, which differs by
its meaning (R354, R373; log entry 30). -/
def digestAddrs (x : Nat) : List Nat :=
  [(0, rowsNpPort), (1, rowsNpPol), (2, rowsNpQ), (3, rowsNpGcl)].flatMap (fun p => p.2.flatMap (fun r =>
    if r.fields.any (fun f => f.kind == .rw) then
      ((List.range r.count).map (fun i => npBase x p.1 + r.base + r.stride * i)).filter (fun a => a != Reg.npMacLo x && a != Reg.npMacHi x)
    else []))

/-- The configuration digest of die `x` (R373). -/
def State.digest (s : State) (x : Nat) : Nat := crc32c ((digestAddrs x).flatMap (fun a => leBytes 4 (s.rd a)))

/-- The digests are taken and compared anew, after a write to a path page and when a die's pages come up or go: a die that is off has
none (R373; log entry 184). -/
def State.fovDigest (s : State) : State :=
  let s' := { s with fov := { s.fov with digests := (List.range 2).map (fun x => if s.domOn (32 + x) then some (s.digest x) else none) } }
  (if !s.fov.digestDiffer && s'.fov.digestDiffer then s'.raise 0x120000 4 else s').fovArm

/-- The holder keeps the grant; FOV_BOTH_DOWN is raised where it has no link either (R374). It is the die that held ACTIVE most
recently, so simultaneous requests leave it the grant as well (R16). -/
def State.keepGrant (s : State) : State := if s.linkUp s.fov.holder then s else s.raise 0x120000 5

/-! ### Heartbeats and the arbiter (R370, R374) -/

/-- HEARTBEAT: at the arbiter, or over the mirror link (R370, R372). -/
def State.heartbeat (s : State) (x : Nat) (mirror : Bool) : State :=
  if !s.domOn (32 + x) then s
  else if mirror then
    if s.fov.holder = x && (List.range 4).all (fun i => s.laneState (80 + i) == 2) then { s with fov := { s.fov with mirrorBeat := some s.now, mirrorUp := true } }
    else s
  else { s with fov := { s.fov with beat := s.fov.beat.set x (some s.now), silent := s.fov.silent && s.fov.holder != x } }

/-- Frames queued on a die that loses the grant are lost, and its ring descriptors complete with PATH_RELEASED (R375). -/
def State.dieReleased (s : State) (x : Nat) : State :=
  let s := (List.range 16).foldl (fun s q =>
    let v := s.queue x q
    let s := v.frames.foldl (fun s f => s.descDone x f.desc (0x1003 + 0x100 * x)) s
    (s.setQueue x q { v with frames := [] }).add (Reg.npQDrop x q) v.frames.length) s
  let size := max 1 (s.fld (Reg.npHtxSize x) 12 0)
  let n := ringLen size (s.fld (Reg.npHtxHead x) 11 0) (s.fld (Reg.npHtxTail x) 11 0)
  let s := (List.range n).foldl (fun s _ =>
    let h := s.fld (Reg.npHtxHead x) 11 0
    (s.descDone x (some (s.addr64 (Reg.npHtxLo x) (Reg.npHtxHi x) + 16 * h)) (0x1003 + 0x100 * x)).wr (Reg.npHtxHead x) ((h + 1) % size)) s
  (s.setPath x { s.path x with fwd := [] }).add (Reg.npStat x 11) (s.path x).fwd.length

/-- The servo of die `y` takes the place of that of die `x` (R378). -/
def State.servoSwap (s : State) (x y : Nat) : State :=
  let v := (s.path y).servo
  { s with tim := { s.tim with integ := v.1, good := v.2 } }.setPath x { s.path x with servo := (s.tim.integ, s.tim.good) }

/-- The grant moves to die `y` for a cause; `detect` is the instant at which the cause came about (R374, R375), and `y` takes its lanes
into use (R435). Without the mirror
link's domain every takeover is cold (R383). -/
def State.moveGrant (s : State) (y cause detect released : Nat) : State :=
  let x := 1 - y
  let warm := s.fov.armed && s.role y == 3 && s.fov.snap.isSome && s.domOn 34
  let s := ((s.dieReleased x).servoSwap x y).setFlag (Reg.npPtpStatus x) 9 false
  let w : SwitchOver := { cause := cause, detect := detect, released := released, granted := some s.now, restored := none, cold := !warm }
  let s := { s with fov := { s.fov with
    holder := y, standby := 2, request := none, transit := none, missed := 0, silent := false, announcing := none, sw := some w } }
  (List.range 8).foldl (fun s i => s.laneTaken (52 + 8 * y + i)) (s.emit (.ilkObs y)).fovArm

/-- HEARTBEAT_LOSS: the holder's heartbeat has been absent for 50 us (R374), counted from the start where it has sent none. The holder
stays silent until it sends one again: the other die takes over when it qualifies, then or later (log entry 185). -/
def State.beatLoss (s : State) : State :=
  let x := s.fov.holder
  let t := (s.fov.beat.getD x none).getD 0
  if t + 50 * us ≤ s.now ∧ s.fov.sw = none then
    let s' := if s.fov.silent then s else { s with fov := { s.fov with silent := true } }.add (Reg.fovStat 3) 1
    if s'.qualifies (1 - x) then s'.moveGrant (1 - x) 2 t s.now else if s.fov.silent then s' else s'.keepGrant
  else s

/-- GRANT_RELEASE: link loss with AUTO_EN, an internal fault of the die, or a managed switch-over, a force pin that is held
included (R374). -/
def State.release (s : State) (fault : Bool) : State :=
  let x := s.fov.holder
  let s := if fault then { s with fov := { s.fov with fault := s.fov.fault.set x true } } else s
  let cause := if s.fov.fault.getD x false then 3
    else match s.fov.request with
      | some c => c
      | none =>
        if !s.linkUp x && s.linkUp (1 - x) && s.flag Reg.fovCtrl 0 then 1
        else if s.fov.force.getD (1 - x) false && !s.fov.force.getD x false && s.qualifies (1 - x) then 5 else 0
  if cause = 0 ∨ s.fov.sw ≠ none then s
  else
    let detect := if cause = 1 then (s.path x).faultAt.getD s.now else s.now
    { s with fov := { s.fov with fault := s.fov.fault.set x false,
                                 sw := some { cause := cause, detect := detect, released := s.now, granted := none, restored := none, cold := false } } }

/-- GRANT: the other die takes ACTIVE, or the holder keeps it (R374; log entry 155). -/
def State.grant (s : State) : State :=
  match s.fov.sw with
  | some w =>
    if w.granted = none then
      let y := 1 - s.fov.holder
      if s.qualifies y then s.moveGrant y w.cause w.detect w.released
      else (({ s with fov := { s.fov with sw := none, request := none } }.setFld Reg.fovCtrl 9 8 0).htxTakeAll s.fov.holder).keepGrant
    else s
  | none => s

/-! ### Snapshots (R371, R372) -/

/-- The state that a snapshot of die `x` holds. It carries the number of the frame that has ended (R371, R376;
log entry 158). -/
def State.mirrorOf (s : State) (x : Nat) : Mirror :=
  let p := s.path x
  { frame := s.ras.frame - 1, taken := s.now, pre := p.pre, frags := p.frags, pol := p.pol,
    queues := p.queues.map (fun q => (q.start, q.finish, q.bkt)), vt := p.vt, integ := s.tim.integ, good := s.tim.good, mean := p.ptp.mean,
    handles := p.handles }

/-- A snapshot is missed: after two in a row the standby is STALE (R369). -/
def State.snapMissed (s : State) : State :=
  let n := s.fov.missed + 1
  let s := { s with fov := { s.fov with missed := n, transit := none } }
  if 2 ≤ n ∧ s.fov.standby = 3 then
    ({ s with fov := { s.fov with standby := 4 } }.add (Reg.fovStat 2) 1).raise 0x120000 2 |>.fovArm
  else s

/-- SNAPSHOT_SEND: within 10 us of RAS_FRAME_DONE the holder sends, whether or not its own link is up (R371). -/
def State.snapSend (s : State) : State :=
  let x := s.fov.holder
  if s.dieUsable x && s.fov.sw.isNone && s.domOn 34 && s.role (1 - x) != 0 && decide (s.now ≤ s.ras.frameStart + 10 * us) then
    let s := if s.fov.transit.isSome then s.snapMissed else s
    { s with fov := { s.fov with transit := some (s.mirrorOf x), sent := true } }
  else s

/-- A frame ends: a standby die has missed the snapshot of the frame end before where none has been sent (R369, R371). -/
def State.snapUnsent (s : State) : State :=
  let s := if s.fov.sent || s.role (1 - s.fov.holder) == 0 then s else s.snapMissed
  { s with fov := { s.fov with sent := false } }

/-- SNAPSHOT_RECEIVE: a good snapshot makes the standby STANDBY, a bad one is discarded (R371, R372). -/
def State.snapReceive (s : State) (good : Bool) : State :=
  match s.fov.transit with
  | none => s
  | some m =>
    if good && s.fov.mirrorUp then
      let back := s.fov.standby = 4
      let s := { s with fov := { s.fov with transit := none, snap := some m, missed := 0, standby := 3 } }.wr Reg.fovSnapFrame (m.frame % 2 ^ 32)
      let s := if back then s.logIt 0x1200 (evt 0 2) 0 [] else s
      s.fovArm
    else if good then { s with fov := { s.fov with transit := none } }
    else (s.add (Reg.fovStat 4) 1).snapMissed

/-- The mirror link has failed: a standby die is STALE (R372). -/
def State.mirrorFail (s : State) : State :=
  let s := { s with fov := { s.fov with mirrorUp := false, mirrorBeat := none, transit := none } }
  let r := s.role (1 - s.fov.holder)
  if r = 3 ∨ r = 2 then
    ((({ s with fov := { s.fov with standby := 4 } }.add (Reg.fovStat 2) 1).raise 0x120000 2).logIt 0x1200 (evt 0 2) 0 []).fovArm
  else s

/-- FOV_STALE: the mirror heartbeat has been missing for 30 us while the arbiter has the holder's, or the mirror lanes have lost
lock (R372). -/
def State.mirrorLost (s : State) : State :=
  let x := s.fov.holder
  let quiet := match s.fov.mirrorBeat with | some t => decide (t + 30 * us ≤ s.now) | none => false
  let beats := match s.fov.beat.getD x none with | some t => decide (s.now < t + 50 * us) | none => false
  let lanes := (List.range 4).all (fun i => s.laneState (80 + i) == 2)
  if s.fov.mirrorUp && ((quiet && beats) || !lanes) then s.mirrorFail else s

/-! ### Taking over (R375-R378) -/

/-- Credit buckets with the time since a snapshot, capped at their depths (R375): their instant stays that of the snapshot. -/
def State.restore (s : State) (y : Nat) (m : Mirror) : State :=
  let p := s.path y
  { s with tim := { s.tim with integ := m.integ, good := m.good } }.setPath y
    { p with pre := m.pre, frags := m.frags, pol := m.pol,
             queues := (p.queues.zip m.queues).map (fun (q : EgQueue × (Rat × Rat × Buckets)) => { q.1 with start := q.2.1, finish := q.2.2.1, bkt := q.2.2.2 }), vt := m.vt,
             handles := m.handles, ptp := { p.ptp with mean := m.mean } }

/-- A cold start: empty pre-filters, full buckets, fresh virtual times (R378). -/
def State.coldStart (s : State) (y : Nat) : State :=
  let p := s.path y
  let pol := (List.range 64).map (fun k => ({ c := bucketBytes (s.fld (Reg.npPolCbs y k) 23 0), p := bucketBytes (s.fld (Reg.npPolPbs y k) 23 0), at_ := s.now } : Buckets))
  let q := (List.range 16).map (fun q => { EgQueue.reset with bkt := { c := bucketBytes (s.fld (Reg.npQCbs y q) 23 0), p := bucketBytes (s.fld (Reg.npQPbs y q) 23 0), at_ := s.now } })
  s.setPath y { p with pre := List.replicate 64 PreFilter.empty, frags := [], pol := pol, queues := q, vt := List.replicate 8 0,
                       handles := (List.range 64).map (fun k => (((s.sess k).keys.getD 0 KeySlot.reset).gen, ((s.sess k).keys.getD 1 KeySlot.reset).gen)) }

/-- Announcements of the new holder (R376): neighbour advertisements, the ARP, and a PATH_CHANGE for each network session. -/
def State.announce (s : State) (y : Nat) (cold : Bool) : State :=
  let s := (List.range 4).foldl (fun s i =>
    if s.flag Reg.fovAddrValid i then s.sendNow y (.advert (s.ip6 i) (s.macOf y) allNodes.1 allNodes.2 false) else s) s
  let s := if s.flag Reg.fovAddrValid 4 then s.sendNow y (.arpReply (s.rd Reg.fovIp4) (s.macOf y) (s.rd Reg.fovIp4) 0xFFFFFFFFFFFF) else s
  (List.range 64).foldl (fun s k =>
    if s.sessSource k = 0 ∧ (s.sess k).state ≠ 0 then s.sendKst k 4 (s.pathChangePayload k y cold) else s) s

/-- A duration in whole microseconds, saturating at 255 (R383). -/
def phaseUs (a b : Nat) : Nat := min 255 ((b - a) / us)

/-- Whether a PATH_CHANGE datagram waits in a queue of die `y` (R376). -/
def State.changeWaits (s : State) (y : Nat) : Bool :=
  (s.path y).queues.any (fun q => q.frames.any (fun f => match f.frame with | .kst _ 4 _ _ => true | _ => false))

/-- The switch-over is done once every PATH_CHANGE has been sent (R376, R377, R383). -/
def State.announceEnd (s : State) : State :=
  match s.fov.announcing with
  | some w =>
    if s.changeWaits s.fov.holder then s
    else
      let g := w.granted.getD s.now
      let r := w.restored.getD s.now
      let s := { s with fov := { s.fov with announcing := none } }
      let s := s.wr Reg.fovLastSwitch (w.cause + (if w.cold then 16 else 0) + s.ras.frame % 65536 * 65536)
      let s := s.wr Reg.fovSwPhases
        (phaseUs w.detect w.released + phaseUs w.released g * 2 ^ 8 + phaseUs g r * 2 ^ 16 + phaseUs r s.now * 2 ^ 24)
      ((s.add (Reg.fovStat 0) 1).setFld Reg.fovCtrl 9 8 0).raise 0x120000 0
  | none => s

/-- The new holder works: it announces itself and takes what its transmit ring holds (R376). -/
def State.switched (s : State) (w : SwitchOver) (y : Nat) : State :=
  let s := { s with fov := { s.fov with sw := none, announcing := some { w with restored := some s.now } } }
  ((s.announce y w.cold).htxTakeAll y).fovArm.announceEnd

/-- STATE_RESTORE: a new holder from STANDBY restores the mirrored state (R375, R376). -/
def State.takeWarm (s : State) : State :=
  match s.fov.sw, s.fov.snap with
  | some w, some m =>
    if w.granted.isSome ∧ !w.cold then (({ s with fov := { s.fov with snap := none } }).restore s.fov.holder m).switched w s.fov.holder else s
  | _, _ => s

/-- FOV_COLD: a cold takeover (R378). -/
def State.takeCold (s : State) : State :=
  match s.fov.sw with
  | some w =>
    if w.granted.isSome ∧ w.cold then
      let y := s.fov.holder
      let s := (({ s with fov := { s.fov with snap := none } }).coldStart y).enterHold.coldSessions
      let s := ((s.add (Reg.fovStat 1) 1).raise 0x120000 1).logIt 0x1200 (evt 0 1) 0 []
      s.switched w y
    else s
  | none => s

/-! ### Requests (R374, R383) -/

/-- ILK_FORCE pins: one asserted alone asks for a switch-over to that die; both are ignored and logged (R374). -/
def State.forcePins (s : State) (a b : Bool) : State :=
  let s := { s with fov := { s.fov with force := [a, b] } }
  if a && b then s.logIt 0x1200 0 0 []
  else
    let y := if a then 0 else 1
    if (a || b) && s.fov.holder != y && s.qualifies y then { s with fov := { s.fov with request := some 5 } } else s

/-- Checks of a write to the FOV page (R383). -/
def State.fovCheck (s : State) (off data : Nat) : List Nat :=
  let o := 1 - s.fov.holder
  if off = 0x40 then
    codeIf (bitOf data 8 && !s.linkUp o) 6 ++ codeIf (bitOf data 8 && s.role o != 3 && !bitOf data 9) 0x1201
  else if off = 0x144 then
    let bad6 := fun (i : Nat) => let v := s.ip6 i; decide (v ≤ 1) || v / 2 ^ 120 == 0xFF
    let v4 := s.rd Reg.fovIp4
    let bad4 := decide (v4 = 0 ∨ v4 / 2 ^ 24 = 127 ∨ 0xE0 ≤ v4 / 2 ^ 24 ∧ v4 / 2 ^ 24 < 0xF0)
    codeIf ((List.range 4).any (fun i => bitOf data i && bad6 i) || (bitOf data 4 && bad4)) 0x1202
  else if 0x100 ≤ off ∧ off < 0x140 then codeIf (s.flag Reg.fovAddrValid ((off - 0x100) / 16)) 9
  else if off = 0x140 then codeIf (s.flag Reg.fovAddrValid 4) 9
  else []

/-- Effects of an accepted write to the FOV page. -/
def State.fovEffect (s : State) (off data : Nat) : State :=
  if off = 0x40 then
    (if bitOf data 8 then { s with fov := { s.fov with request := some 4 } } else s).fovArm
  else s

/-- Computed words of the FOV page. -/
def State.fovRead (s : State) (off : Nat) : Option Nat :=
  let b := fun (v : Bool) (i : Nat) => if v then 2 ^ i else 0
  if off = 0x48 then
    some (s.fov.holder + s.role 0 * 2 + s.role 1 * 16 + b s.fov.armed 8 + b s.fov.mirrorUp 9 + b s.fov.digestMatch 10 +
      b (s.fov.force.getD 0 false) 11 + b (s.fov.force.getD 1 false) 12)
  else if off = 0x58 then some ((s.fov.digests.getD 0 none).getD 0)
  else if off = 0x5C then some ((s.fov.digests.getD 1 none).getD 0)
  else none

end Sys2Proof.Machine
end

