-- ==== Sys2Proof/Machine/Holdup.lean ====
section
/-! DEFINITION. Hold-up energy and persistent stores (R460-R463). Store kinds are 0 log append, 1 calibration write,
2 firmware image block, 3 content-store metadata. -/

namespace Sys2Proof.Machine

/-- Half C V squared, in units of 0.5 nJ: C in 10 µF, V in 10 mV (R463). -/
def State.holdEnergy2 (s : State) : Nat := s.fld Reg.pwrHoldCap 15 0 * (s.fld Reg.pwrHoldV 15 0) ^ 2

/-- Whether a persistent store of a kind may start (R443, R460, R463). -/
def State.storeOk (s : State) (k : Nat) : Bool :=
  s.mgt.running && !s.mgt.restarting && s.fld Reg.pwrSupStat 1 0 == 0 && s.fld Reg.pwrHoldCap 15 0 != 0 &&
  decide ((s.fld Reg.pwrHoldReserve 15 0 + s.fld (Reg.pwrStoreEst k) 15 0 + s.pwr.stores.sum) * 2000000 ≤ s.holdEnergy2)

/-- A refused store counts (R463). -/
def State.refuseStore (s : State) : State := s.add (Reg.pwrStat 2) 1

/-- The device serial number as an integer and as 8 bytes. -/
def deviceSerial : Nat := Config.serial.toNat
def serialBytes : List Byte := leBytes 8 deviceSerial

end Sys2Proof.Machine
end

