-- ==== Sys2Proof/Machine/Store.lean ====
section
/-! DEFINITION. The content store: drives, segments, playback, fallback, and the NVS pages (R416-R424, R427, R428). -/

namespace Sys2Proof.Machine

def State.drive (s : State) (d : Nat) : Drive := s.nvs.drives.getD d Drive.reset
def State.setDrive (s : State) (d : Nat) (x : Drive) : State := { s with nvs := { s.nvs with drives := s.nvs.drives.set d x } }

/-- Base of drive page `d`. -/
def nvsDBase (d : Nat) : Nat := 0x151000 + 0x1000 * d

/-- Whether the drive can be read and written: it is up and its page is ACTIVE. -/
def State.driveOk (s : State) (d : Nat) : Bool := s.domOn 30 && (s.drive d).ready && s.unitState (131 + d) == 0

/-- Whether what a drive has begun can still complete: in FENCING too (R417). -/
def State.driveLive (s : State) (d : Nat) : Bool := s.domOn 30 && (s.drive d).ready && decide (s.unitState (131 + d) ≤ 1)

/-- Send a command to a drive; queue 0 is the admin pair (R416). -/
def State.nvme (s : State) (d queue : Nat) (c : NvmeCmd) : State := s.emit (.nvme d queue c)

/-! ### Segments (R418-R420, R251) -/

/-- The records of a segment body: `n` datagrams that fill it, each padded with zeros to a multiple of 4 bytes (R419). -/
def segRecords : Nat → List Byte → Option (List (List Byte))
  | 0, b => if b = [] then some [] else none
  | n + 1, b =>
    let l := leNat (b.take 2)
    let size := (2 + l + 3) / 4 * 4
    if b.length < size ∨ l < 32 ∨ 8952 < l ∨ (slice b (2 + l) (size - 2 - l)).any (fun x => x != 0) then none
    else (segRecords n (b.drop size)).map (fun r => slice b 2 l :: r)

/-- FRAME and SEQ of a datagram as stored (R135). -/
def gramFrame (g : List Byte) : Nat := beNat (slice g 16 8)
def gramSeq (g : List Byte) : Nat := beNat (slice g 8 6)

/-- Check a segment against R419. Its number and its drives are given afterwards. -/
def parseSeg (b : List Byte) : Option Seg :=
  let h := b.take 64
  let body := b.drop 64
  let first := leNat (slice h 8 8)
  let frames := leNat (slice h 16 4)
  let count := leNat (slice h 20 4)
  let seq := leNat (slice h 24 8)
  if h.length = 64 ∧ h.take 4 = [0x4B, 0x53, 0x45, 0x47] ∧ leNat (slice h 4 2) = 1 ∧ leNat (slice h 6 1) ≤ 1 ∧ leNat (slice h 7 1) = 0 ∧
      1 ≤ frames ∧ 1 ≤ count ∧ leNat (slice h 32 8) = body.length ∧ leNat (slice h 40 4) = crc32c body ∧
      (slice h 44 16).all (fun x => x == 0) ∧ leNat (slice h 60 4) = crc32c (h.take 60) then
    match segRecords count body with
    | some grams =>
      let fr := grams.map gramFrame
      let ok := grams.zipIdx.all (fun g => gramSeq g.1 == seq + g.2 && leNat (slice g.1 3 1) == 1) &&
        fr.all (fun f => decide (first ≤ f ∧ f < first + frames)) && (fr.zip (fr.drop 1)).all (fun p => decide (p.1 ≤ p.2)) && fr.head? == some first &&
        ((grams.head?).map (fun g => bitOf (leNat (slice g 5 1)) 0 && beNat (slice g 24 8) == 0)).getD false
      if ok then some { num := 0, len := b.length, enc := bitOf (leNat (slice h 6 1)) 0, firstFrame := first, frames := frames, count := count,
                        firstSeq := seq, grams := grams } else none
    | none => none
  else none

/-- The bytes of a segment as the drive holds them: its header and its records (R419). -/
def Seg.bytes (g : Seg) : List Byte :=
  let body := g.grams.flatMap (fun b => leBytes 2 b.length ++ b ++ List.replicate ((2 + b.length + 3) / 4 * 4 - 2 - b.length) 0)
  let head := [0x4B, 0x53, 0x45, 0x47] ++ leBytes 2 1 ++ leBytes 1 (if g.enc then 1 else 0) ++ leBytes 1 0 ++ leBytes 8 g.firstFrame ++
    leBytes 4 g.frames ++ leBytes 4 g.count ++ leBytes 8 g.firstSeq ++ leBytes 8 body.length ++ leBytes 4 (crc32c body) ++ leBytes 16 0
  head ++ leBytes 4 (crc32c head) ++ body

/-- Bytes of the 4 MiB line `l` of a segment (R246). -/
def Seg.lineBytes (g : Seg) (l : Nat) : List Byte := slice g.bytes (l * 2 ^ 22) (2 ^ 22)

/-- Extents of 64 MiB that a segment takes (R418). -/
def Seg.extents (g : Seg) : Nat := (g.len + 2 ^ 26 - 1) / 2 ^ 26

/-- Extents that the managed capacity of a drive holds behind its metadata (R416, R418). -/
def State.driveExtents (s : State) (d : Nat) : Nat := (s.rd (Reg.nvsDCap d) * 10 ^ 9 - 2 ^ 30) / 2 ^ 26

/-- Extents that the segments of a drive take. -/
def State.driveUsed (s : State) (d : Nat) : Nat :=
  ((s.nvs.segs.filter (fun g => (s.drive d).nums.contains g.num)).map (fun g => g.extents)).sum
def State.driveFree (s : State) (d : Nat) : Nat := s.driveExtents d - s.driveUsed d

/-- Whether the metadata in force of a usable drive names a segment. -/
def State.holds (s : State) (d n : Nat) : Bool := s.driveOk d && (s.drive d).nums.contains n

/-- A segment that a usable drive holds. -/
def State.segOf (s : State) (n : Nat) : Option Seg := s.nvs.segs.find? (fun g => g.num == n && (List.range 2).any (fun d => s.holds d n))

/-- Bytes of a segment, for the pins of the content cache (R252). -/
def State.segBytes (s : State) (n : Nat) : Nat := ((s.segOf n).map (fun g => g.len)).getD 0

/-- The drives that a new segment goes to (R251); none where space is lacking. -/
def State.segTargets (s : State) (g : Seg) : Option (List Bool) :=
  let up := (List.range 2).filter (fun d => s.driveOk d)
  let pick := if s.flag Reg.plcCtrl 5 then up
    else match up with
      | [a, b] => if s.driveFree a < s.driveFree b then [b] else [a]
      | l => l
  if pick.isEmpty ∨ pick.any (fun d => decide (s.driveFree d < g.extents)) then none else some ((List.range 2).map (fun d => pick.contains d))

/-- The bytes that the CRC-32C of a metadata copy covers; their form is the model's (R418; log entry 191). -/
def metaBytes (m : MetaCopy) : List Byte := leBytes 8 m.gen ++ leBytes 8 m.serial ++ leBytes 4 m.next ++ m.nums.flatMap (leBytes 4)

/-- Whether a copy is valid. -/
def metaValid (m : MetaCopy) : Bool := m.crc == crc32c (metaBytes m)

/-- The copy in force, with its place: the valid one of higher generation (R418). -/
def metaForce (l : List (Option MetaCopy)) : Option (Nat × MetaCopy) :=
  match (l.getD 0 none).filter metaValid, (l.getD 1 none).filter metaValid with
  | some a, some b => if a.gen < b.gen then some (1, b) else some (0, a)
  | some a, none => some (0, a)
  | none, some b => some (1, b)
  | none, none => none

/-- The copy that names `nums`, of generation `gen` (R418). -/
def makeMeta (gen next : Nat) (nums : List Nat) : MetaCopy :=
  let m : MetaCopy := { gen := gen, serial := deviceSerial, next := next, nums := nums, crc := 0 }
  { m with crc := crc32c (metaBytes m) }

/-- A metadata write on a drive: the copy that is not in force takes the next generation (R418). How many commands it takes is not stated, a
free value (log entry 88). -/
def State.metaWrite (s : State) (d : Nat) (nums : List Nat) : State :=
  let x := s.drive d
  let (i, g) := match metaForce x.copies with | some (i, m) => (1 - i, m.gen + 1) | none => (0, 1)
  let (v, s) := s.draw
  let s := s.setDrive d { x with copies := x.copies.set i (some (makeMeta g s.nvs.nextNum nums)), nums := nums }
  ((s.nvme d 1 (.write (v % 2 ^ 32))).nvme d 1 .flush).add (Reg.nvsDStat d 1) (v % 2 ^ 32)

/-- A persistent store of metadata begins, where it may (R418, R463). -/
def State.metaBegin (s : State) : State := { s with pwr := { s.pwr with stores := s.fld (Reg.pwrStoreEst 3) 15 0 :: s.pwr.stores } }
def State.metaEnd (s : State) : State := { s with pwr := { s.pwr with stores := s.pwr.stores.drop 1 } }

/-- The store of a segment begins; while Marigold restarts it waits (R33, R463). -/
def State.segStore (s : State) (x : Seg × List Bool) : State :=
  if s.mgt.restarting then { s with nvs := { s.nvs with segw := some (some x, 0), segwWait := true } }
  else if s.storeOk 3 then { s.metaBegin with nvs := { s.nvs with segw := some (some x, 0), segwWait := false } }
  else { s.refuseStore with nvs := { s.nvs with segw := some (none, 0xC), segwWait := false } }

/-- SEGMENT_WRITE (R420): the segment is checked, space is found and the stores begin. -/
def State.segWrite (s : State) : State :=
  let bytes := s.dramRead (s.addr64 Reg.nvsSegwLo Reg.nvsSegwHi) (s.rd Reg.nvsSegwLen)
  let s := s.wr Reg.nvsSegwCtrl (2 ^ 31)
  match bytes.bind parseSeg with
  | none => { s with nvs := { s.nvs with segw := some (none, 0x1501) } }
  | some g => match s.segTargets g with
    | none => { s with nvs := { s.nvs with segw := some (none, 0x1504) } }
    | some on => s.segStore (g, on)

/-- NVS_SEGW_DONE (R420, R427): the segment stands on the drives that are still there. -/
def State.segwDone (s : State) : State :=
  let over_ := fun (s : State) (code : Nat) => ({ s with nvs := { s.nvs with segw := none } }.wr Reg.nvsSegwCtrl (code * 65536 + 1)).raise 0x150000 0
  match s.nvs.segw with
  | none => s
  | some (none, code) => over_ s code
  | some (some (g, to_), _) =>
    if s.nvs.segwWait then s else
    let s := s.metaEnd
    let on := (List.range 2).filter (fun d => to_.getD d false && s.driveLive d)
    if on.isEmpty then over_ s 0x1506
    else
      let g := { g with num := s.nvs.nextNum }
      let s : State := { s with nvs := { s.nvs with segs := s.nvs.segs ++ [g], nextNum := s.nvs.nextNum + 1 } }
      let s := on.foldl (fun s d => s.metaWrite d ((s.drive d).nums ++ [g.num])) s
      over_ (s.wr Reg.nvsSegwNum g.num) 0

/-- The store of a delete begins; while Marigold restarts it waits (R33, R463). -/
def State.segDelete (s : State) (n : Nat) : State :=
  if s.mgt.restarting then { s with nvs := { s.nvs with segop := some (1, n, 0), segopWait := true } }
  else if s.storeOk 3 then { s.metaBegin with nvs := { s.nvs with segop := some (1, n, 0), segopWait := false } }
  else { s.refuseStore with nvs := { s.nvs with segop := some (1, n, 0xC), segopWait := false } }

/-- QUERY and DELETE (R427): the operation starts. -/
def State.segOp (s : State) (op : Nat) : State :=
  let n := s.rd Reg.nvsSegopNum
  if op = 0 then { s with nvs := { s.nvs with segop := some (0, n, 0), segopWait := false } } else s.segDelete n

/-- Whether a playback engine plays a segment. -/
def State.playing (s : State) (n : Nat) : Bool := s.nvs.plays.any (fun p => match p with | some p => p.seg == n | none => false)

/-- NVS_SEGOP_DONE (R427); the cache drops the lines of a segment that is deleted, a pinned one's too (R258). A delete that was refused for
hold-up energy ends with HOLDUP_LOW, as ERR shows it (R418; log entry 192). -/
def State.segopDone (s : State) : State :=
  match s.nvs.segop with
  | none => s
  | some (op, n, code) =>
    if s.nvs.segopWait then s else
    let s := ({ s with nvs := { s.nvs with segop := none } }.setFlag Reg.nvsSegop 31 false).raise 0x150000 1
    if op = 0 then
      match s.segOf n with
      | none => s
      | some g =>
        (((s.wr (Reg.nvsSegopR 0) g.frames).wr (Reg.nvsSegopR 1) g.count).wr (Reg.nvsSegopR 2) (ceilDiv g.len (2 ^ 20))).wr (Reg.nvsSegopR 3)
          (((List.range 2).map (fun d => if s.holds d n then 2 ^ d else 0)).sum)
    else if code ≠ 0 then s.rejectCommit 0x150000 0x64 code
    else
      let s := s.metaEnd
      let on := (List.range 2).filter (fun d => s.driveLive d && (s.drive d).nums.contains n)
      let s := on.foldl (fun s d => (s.metaWrite d ((s.drive d).nums.filter (fun m => m != n))).nvme d 1 .deallocate) s
      { s with plc := { s.plc with cache := s.plc.cache.filter (fun e => e.seg != n) } }

/-! ### Playback (R421-R423) -/

def State.play (s : State) (p : Nat) : Option Play := s.nvs.plays.getD p none
def State.setPlay (s : State) (p : Nat) (x : Option Play) : State := { s with nvs := { s.nvs with plays := s.nvs.plays.set p x } }

/-- F_start as the registers give it (R422). -/
def State.playStart (s : State) (p data : Nat) : Nat :=
  if bitOf data 9 then s.ras.frame + s.fld (Reg.nvsPbLead p) 3 0 + 1 else s.addr64 (Reg.nvsPbStartLo p) (Reg.nvsPbStartHi p)

/-- S0 of an engine's next GO into a session (R421). -/
def State.nextS0 (s : State) (p k : Nat) : Nat := ((s.nvs.nextSeq.find? (fun e => e.1 == p && e.2.1 == k)).map (fun e => e.2.2)).getD 0
def State.setS0 (s : State) (p k v : Nat) : State :=
  { s with nvs := { s.nvs with nextSeq := (p, k, v) :: s.nvs.nextSeq.filter (fun e => !(e.1 == p && e.2.1 == k)) } }

/-- The engine starts (R421, R422). -/
def State.playGo (s : State) (p k seg : Nat) (infinite : Bool) (start : Nat) : State :=
  let s := s.setPlay p (some { session := k, seg := seg, loops := if infinite then none else some (s.fld (Reg.nvsPbCount p) 15 0),
                               lead := s.fld (Reg.nvsPbLead p) 3 0, start := start, s0 := s.nextS0 p k, loop := 0, next := 0 })
  s.wr (Reg.nvsPbStat p) 1

/-- An engine stops (R422). -/
def State.playStop (s : State) (p : Nat) : State := (s.setPlay p none).setFld (Reg.nvsPbStat p) 1 0 0

/-- Whether all loops have been delivered. -/
def Play.over (x : Play) : Bool := match x.loops with | some n => decide (n ≤ x.loop) | none => false

/-- The adjusted frame of the next datagram (R421). -/
def Play.frame (x : Play) (g : Seg) : Nat := x.start + x.loop * g.frames + gramFrame (g.grams.getD x.next []) - g.firstFrame

/-- Where datagram `i` of a segment begins (R419). -/
def Seg.start (g : Seg) (i : Nat) : Nat := 64 + ((g.grams.take i).map (fun b => (2 + b.length + 3) / 4 * 4)).sum

/-- The 4 MiB lines that hold datagram `i` (R246). -/
def Seg.lines (g : Seg) (i : Nat) : List Nat :=
  let a := g.start i
  (List.range ((g.start (i + 1) - 1) / 2 ^ 22 - a / 2 ^ 22 + 1)).map (fun j => a / 2 ^ 22 + j)

/-- The lines that a playback enters with datagram `i`. -/
def Seg.entered (g : Seg) (i : Nat) : List Nat := (g.lines i).filter (fun l => i == 0 || l != (g.start i - 1) / 2 ^ 22)

/-- A line of a segment that is not in the cache is read from a drive that holds it: how many commands that takes, and how many of them end
in an error and are given again, is not stated: free values (R428; log entry 163). -/
def State.driveRead (s : State) (g : Seg) : State :=
  let d := if s.holds 0 g.num then 0 else 1
  let n := s.draw
  let e := n.2.draw
  let reads := n.1 % 2 ^ 32
  let errs := e.1 % (reads + 1)
  let s := ((e.2.nvme d 2 (.read reads)).add (Reg.nvsDStat d 0) reads).add (Reg.nvsDStat d 2) errs
  if errs = 0 then s else s.raise (nvsDBase d) 1

/-- A playback reads a line of its segment (R250, R421). -/
def State.segRead (s : State) (g : Seg) (line : Nat) : State :=
  if s.cacheHas g.num line then s.cacheRead g.num line [] else (s.cacheRead g.num line (g.lineBytes line)).driveRead g

/-- Read-ahead brings a line into the cache (R250). -/
def State.segAhead (s : State) (g : Seg) (line : Nat) : State :=
  if s.cacheHas g.num line then s else (s.cacheFill g.num line (g.lineBytes line)).driveRead g

/-- The bytes of a segment from `a` on that line `l` of the cache holds; `none` where it does not hold them or they cannot be read. -/
def State.linePart (s : State) (g : Seg) (a n l : Nat) : Option (List Byte) :=
  let lo := max a (l * 2 ^ 22)
  (s.cacheLine g.num l).bind (fun e => s.dramRead (e.addr + (lo - l * 2 ^ 22)) (min (a + n) ((l + 1) * 2 ^ 22) - lo))

/-- Datagram `i` of a segment as it is read through the cache (R24, R421); what the cache cannot give comes from the drive (log entry 180). -/
def State.gramAt (s : State) (g : Seg) (i : Nat) : List Byte :=
  let b := g.grams.getD i []
  let a := g.start i + 2
  let parts := (g.lines i).map (fun l => s.linePart g a b.length l)
  if parts.all Option.isSome then parts.flatMap (fun p => p.getD []) else b

/-- Deliver the datagrams that are due, in SEQ order (R421, R422), each line of the segment read through the cache (R250). -/
def State.deliver : Nat → State → Nat → Seg → State
  | 0, s, _, _ => s
  | n + 1, s, p, g => match s.play p with
    | none => s
    | some x =>
      if x.over || decide (s.ras.frame + x.lead < x.frame g) then s
      else
        let df := (x.start : Int) - g.firstFrame + x.loop * g.frames
        let ds := (x.s0 : Int) - g.firstSeq + x.loop * g.count
        let s := (g.entered x.next).foldl (fun s l => s.segRead g l) s
        let gram := s.gramAt g x.next
        let s := (s.wr (Reg.nvsPbFrame p) (x.frame g % 2 ^ 32)).setFld (Reg.nvsPbStat p) 1 0 2
        let s := s.kstArrive 1 (some x.session) none (df, ds) gram
        let s := s.setS0 p x.session ((gramSeq (g.grams.getD x.next []) : Int) + ds + 1).toNat
        let s := if x.next + 1 < g.count then s.setPlay p (some { x with next := x.next + 1 })
          else (s.setPlay p (some { x with next := 0, loop := x.loop + 1 })).addSat (Reg.nvsPbStat p) 31 16 1
        State.deliver n s p g

/-- PLAYBACK_DELIVER (R422). -/
def State.playDeliver (s : State) (p : Nat) : State :=
  match s.play p with
  | none => s
  | some x => match s.segOf x.seg with
    | none => s
    | some g =>
      if s.flag Reg.nvsCtrl 0 then
        State.deliver (g.count * ((s.ras.frame + x.lead - x.start) / max g.frames 1 + 1 - x.loop)) s p g
      else s

/-- NVS_PB_DONE (R422). -/
def State.playDone (s : State) (p : Nat) : State :=
  match s.play p with
  | some x => if x.over then (s.playStop p).raise 0x150000 2 else s
  | none => s

/-- NVS_PB_LOST (R423). -/
def State.playLost (s : State) (p : Nat) : State :=
  match s.play p with
  | some x => if (s.segOf x.seg).isNone then ((s.playStop p).raise 0x150000 3).logIt 0x1500 0x1506 2 (leBytes 4 x.seg) else s
  | none => s

/-- The 4 MiB lines of a segment that hold the datagrams up to an adjusted frame, those of later loops too (R246, R250). -/
def Play.linesTo (x : Play) (g : Seg) (f : Nat) : List Nat :=
  let last := (f - x.start) / max g.frames 1
  let loops := (List.range (last + 1 - x.loop)).map (· + x.loop)
  let due := (loops.filter (fun l => match x.loops with | some n => decide (l < n) | none => true)).flatMap (fun l =>
    (List.range g.grams.length).filter (fun i => (l != x.loop || decide (x.next ≤ i)) &&
      decide (x.start + l * g.frames + gramFrame (g.grams.getD i []) - g.firstFrame ≤ f)))
  (due.flatMap g.lines).eraseDups

/-- CACHE_READAHEAD (R250). -/
def State.readAhead (s : State) (p : Nat) : State :=
  match s.play p with
  | none => s
  | some x => match s.segOf x.seg with
    | none => s
    | some g =>
      let ahead := s.fld Reg.plcCache 31 16 * ms / max s.ras.timing.period 1
      if s.fld Reg.plcCache 31 16 = 0 then s else (x.linesTo g (s.ras.frame + x.lead + ahead)).foldl (fun s l => s.segAhead g l) s

/-! ### Fallback (R424) -/

/-- Whether no path has had link for DOWN_MS. -/
def State.downLong (s : State) : Bool :=
  (List.range 2).all (fun x => !s.linkUp x && decide ((s.fov.lostAt.getD x none).getD 0 + s.fld Reg.nvsFbTime 15 0 * ms ≤ s.now))

/-- Whether a path has held link for UP_MS. -/
def State.upLong (s : State) : Bool :=
  (List.range 2).any (fun x => s.linkUp x && decide (s.nvs.upAt.getD x 0 + s.fld Reg.nvsFbTime 31 16 * ms ≤ s.now))

/-- A link has come up: the instant counts for UP_MS. -/
def State.linkUpMark (s : State) (x : Nat) (was : Bool) : State :=
  if s.linkUp x && !was then { s with nvs := { s.nvs with upAt := s.nvs.upAt.set x s.now } } else s

/-- A session is enabled: each engine's next replay into it starts at SEQ 0 (R421), and plain content counts (R487). -/
def State.sessEnabled (s : State) (k : Nat) : State :=
  let s := { s with nvs := { s.nvs with nextSeq := s.nvs.nextSeq.filter (fun e => e.2.1 != k) } }
  if s.sessSource k = 1 ∧ !s.flag (Reg.ingSCtrl k) 4 then { s with secu := { s.secu with plain := true } } else s

/-- NVS_FALLBACK (R424). -/
def State.fallbackStart (s : State) : State :=
  let k := s.fld Reg.nvsFbSession 5 0
  if s.domOn 30 ∧ s.flag Reg.nvsCtrl 0 ∧ s.flag Reg.nvsCtrl 1 ∧ s.nvs.fallback.isNone ∧ s.downLong ∧ s.sessSource k = 1 ∧ !s.flag (Reg.ingSCtrl k) 0 then
    let s := s.playStop 0
    let closed := (List.range 64).filter (fun j => s.flag (Reg.ingSCtrl j) 0 && s.sessSource j == 0 &&
      decide (Nat.land (s.rd (Reg.ingSPlanes j)) (s.rd (Reg.ingSPlanes k)) ≠ 0))
    let s := closed.foldl (fun s j => (s.setFlag (Reg.ingSCtrl j) 0 false).closeSess j) s
    let s := ((s.setFlag (Reg.ingSCtrl k) 0 true).openSess k).sessEnabled k
    let s := { s with nvs := { s.nvs with fallback := some (k, closed) } }
    let seg := s.rd Reg.nvsFbSeg
    let s := if (s.segOf seg).isSome then s.playGo 0 k seg true (s.ras.frame + s.fld (Reg.nvsPbLead 0) 3 0 + 1) else s
    (s.raise 0x150000 4).logIt 0x1500 (evt 0 4) 1 []
  else s

/-- NVS_FALLBACK_END (R424). -/
def State.fallbackEnd (s : State) : State :=
  match s.nvs.fallback with
  | none => s
  | some (k, closed) =>
    if s.upLong then
      let s := s.playStop 0
      let s := (s.setFlag (Reg.ingSCtrl k) 0 false).closeSess k
      let s := closed.foldl (fun s j => (s.setFlag (Reg.ingSCtrl j) 0 true).openSess j) s
      { s with nvs := { s.nvs with fallback := none } }.raise 0x150000 5
    else s

/-! ### Drives (R416, R417, R428) -/

/-- The commands that bring a drive up: what the drive and its namespace are, the features, four I/O queue pairs of 256 entries with a
vector each, and the requests for events and health (R416; log entry 88). -/
def bringUp : List NvmeCmd :=
  [.identify 1, .identify 2, .identify 0, .setFeatures 7, .getFeatures 7, .setFeatures 0xB, .getFeatures 0xB] ++
  (List.range 4).flatMap (fun i => [.createCq (i + 1) 256 (i + 1), .createSq (i + 1) 256]) ++ [.getLog 1, .getLog 2, .asyncEvent]

/-- The controller of a drive is reset and its queues are made anew (R416). -/
def State.nvmeStart (s : State) (d : Nat) : State :=
  (bringUp.foldl (fun s c => s.nvme d 0 c) (s.nvme d 0 .reset)).setDrive d { s.drive d with queues := [1, 2, 3, 4] }

/-- META of a drive that is up (R418, R428): 1 valid, 2 not this tile's, which a drive without valid metadata is as well, since INIT is
accepted only then; 0 where the namespace cannot be used (log entry 88). -/
def metaCode (fmt : Bool) (copies : List (Option MetaCopy)) : Nat :=
  if !fmt then 0 else if (metaForce copies).any (fun m => m.2.serial == deviceSerial) then 1 else 2

/-- A drive is powered and brought up (R417): the copies of its metadata, capacity in GB, format, link, health. A drive that is not used
stays up without being ready. -/
def State.driveUp (s : State) (d : Nat) (copies : List (Option MetaCopy)) (cap : Nat) (fmt : Bool) (gen width health : Nat) : State :=
  let s := (s.emit (.pin "NVS_PWREN" d true)).emit (.pin "NVS_PERST_N" d true)
  let mt := metaCode fmt copies
  let ready := mt == 1
  let s := s.wr (Reg.nvsDStatus d) (1 + 2 + gen % 8 * 4 + width % 8 * 32 + (if ready then 256 else 0) + mt * 512 + (if fmt then 2048 else 0))
  let s := if s.fld (Reg.nvsDHealth d) 7 0 = health % 256 then s else s.raise (nvsDBase d) 2
  let s := (s.wr (Reg.nvsDCap d) (min cap 16000)).wr (Reg.nvsDHealth d) (health % 2 ^ 24)
  let m := if ready then metaForce copies else none
  let s := s.setDrive d { s.drive d with present := true, power := true, ready := ready, resets := 0, copies := copies,
                                         nums := (m.map (fun m => m.2.nums)).getD [] }
  let s : State := { s with nvs := { s.nvs with nextNum := max s.nvs.nextNum ((m.map (fun m => m.2.next)).getD 0) } }
  let s := (List.range 4).foldl (fun s i => s.laneEnable (68 + 4 * d + i)) (s.nvmeStart d)
  if fmt then s else (s.logIt (0x1501 + d) 0x1505 1 []).raise (nvsDBase d) 1

/-- A drive's controller no longer answers: what it was doing fails, and its queues are gone. -/
def State.driveCut (s : State) (d : Nat) : State :=
  (s.setDrive d { s.drive d with ready := false, queues := [], initDue := false }).setFlag (Reg.nvsDStatus d) 8 false |>.setFlag (Reg.nvsDStatus d) 1 false

/-- A drive's slot is without power: PERST is asserted and NVS_PWREN negated (R417). -/
def State.driveOff (s : State) (d : Nat) : State :=
  (((s.setDrive d { s.drive d with power := false }).emit (.pin "NVS_PERST_N" d false)).emit (.pin "NVS_PWREN" d false)).laneSweep

/-- A drive is taken out (R417). -/
def State.driveGone (s : State) (d : Nat) : State :=
  let s := s.driveCut d
  let s := s.setDrive d { s.drive d with present := false, copies := [none, none], nums := [] }
  ((s.wr (Reg.nvsDStatus d) (s.fld (Reg.nvsDStatus d) 10 9 * 512)).driveOff d).raise (nvsDBase d) 0

/-- A managed removal ends (R417): the metadata is written where the store may start, the drive gets a normal shutdown notification, then
PERST and power off. -/
def State.driveRemove (s : State) (d : Nat) : State :=
  let s := if (s.drive d).ready then (if s.storeOk 3 then s.metaWrite d (s.drive d).nums else s.refuseStore) else s
  let s := (s.drive d).queues.foldl (fun s q => (s.nvme d 0 (.deleteSq q)).nvme d 0 (.deleteCq q)) s
  ((s.nvme d 0 .shutdown).driveCut d).driveOff d

/-- INIT (R428): empty metadata. -/
def State.driveInit (s : State) (d : Nat) : State :=
  let s := (s.setDrive d { s.drive d with ready := s.flag (Reg.nvsDStatus d) 11, initDue := false }).metaWrite d []
  (s.setFld (Reg.nvsDStatus d) 10 9 1).setFlag (Reg.nvsDStatus d) 8 (s.flag (Reg.nvsDStatus d) 11)

/-- INIT begins; while Marigold restarts it waits (R33). -/
def State.initStore (s : State) (d : Nat) : State :=
  if s.mgt.restarting then s.setDrive d { s.drive d with initDue := true } else s.driveInit d

/-- The stores of the content store that waited for Marigold begin, or are refused (R33, R463). -/
def State.storesResume (s : State) : State :=
  let s := match s.nvs.segw with
    | some (some x, _) => if s.nvs.segwWait then s.segStore x else s
    | _ => s
  let s := match s.nvs.segop with
    | some (1, n, 0) => if s.nvs.segopWait then s.segDelete n else s
    | _ => s
  (List.range 2).foldl (fun s d =>
    if (s.drive d).initDue then
      (if s.storeOk 3 then s.driveInit d
       else (s.setDrive d { s.drive d with initDue := false }).refuseStore.rejectCommit (nvsDBase d) 0x40 0xC)
    else s) s

/-- A round's health of the drives that are up, from log page 02h; a change of critical warning is an event (R416, R428; log entry 88). -/
def State.healthRound (s : State) (l : List Nat) : State :=
  (List.range 2).foldl (fun s d =>
    match l[d]? with
    | some h =>
      if s.driveLive d then
        let s' := (s.nvme d 0 (.getLog 2)).wr (Reg.nvsDHealth d) (h % 2 ^ 24)
        if s.fld (Reg.nvsDHealth d) 7 0 = h % 256 then s' else s'.raise (nvsDBase d) 2
      else s
    | none => s) s

/-- NVME_COMMAND_TIMEOUT (R416): a command issued at `issued` has been outstanding for 2 s and is aborted; a failed abort resets the
controller. True where the drive is FAILED: three controller resets in a row. -/
def State.nvmeTimeout (s : State) (d issued : Nat) (aborted : Bool) : State × Bool :=
  if d < 2 ∧ s.driveOk d ∧ issued + 2 * sec ≤ s.now then
    let x := s.drive d
    let s := ((s.nvme d 0 .abort).add (Reg.nvsDStat d 3) 1).raise (nvsDBase d) 1
    if aborted then (s.setDrive d { x with resets := 0 }, false)
    else
      let s := s.add (Reg.nvsDStat d 4) 1
      if 3 ≤ x.resets + 1 then ((s.setDrive d { x with resets := 0, ready := false }).setFlag (Reg.nvsDStatus d) 8 false, true)
      else ((s.setDrive d { x with resets := x.resets + 1 }).nvmeStart d, false)
  else (s, false)

/-! ### Registers of the NVS pages (R427, R428) -/

/-- Checks of a GO of engine `p` (R421, R422, R427). -/
def State.playCodes (s : State) (p data : Nat) : List Nat :=
  let k := bitsOf data 5 0
  let g := s.segOf (s.rd (Reg.nvsPbSeg p))
  codeIf (s.play p).isSome 9 ++ codeIf g.isNone 0x1502 ++
  codeIf (s.sessSource k != 1 || (match g with | some g => g.enc != s.flag (Reg.ingSCtrl k) 4 | none => false)) 6 ++
  codeIf (decide (s.playStart p data < s.ras.frame + s.fld (Reg.nvsPbLead p) 3 0 + 1)) 0x1503

/-- Checks of a write to an NVS page. -/
def State.nvsCheck (s : State) (page off data : Nat) : List Nat :=
  if page = 0 then
    if off = 0x5C then codeIf (bitOf data 31 && s.nvs.segw.isSome) 9 ++
      codeIf (bitOf data 31 && decide (s.rd Reg.nvsSegwLen < 64)) 2 ++
      codeIf (bitOf data 31 && !s.dramOk (s.addr64 Reg.nvsSegwLo Reg.nvsSegwHi) (s.rd Reg.nvsSegwLen)) 0xB
    else if off = 0x64 then
      codeIf (bitOf data 31 && s.nvs.segop.isSome) 9 ++ codeIf (bitOf data 31 && (s.segOf (s.rd Reg.nvsSegopNum)).isNone) 0x1502 ++
      codeIf (bitOf data 31 && bitsOf data 1 0 == 1 && s.playing (s.rd Reg.nvsSegopNum)) 0x1507
    else if 0x200 ≤ off ∧ off < 0x280 then
      codeIf (off < 0x220 && s.nvs.fallback.isSome) 6 ++
      (if off % 0x20 = 0 ∧ bitOf data 31 then s.playCodes ((off - 0x200) / 0x20) data else [])
    else []
  else if off = 0x40 ∧ bitOf data 0 then
    codeIf (s.fld (Reg.nvsDStatus (page - 1)) 10 9 != 2) 6 ++ codeIf (!s.mgt.restarting && !s.storeOk 3) 0xC
  else []

/-- What a write to an NVS page starts. -/
def State.nvsEffect (s : State) (page off data : Nat) : State :=
  if page = 0 then
    if off = 0x5C ∧ bitOf data 31 then s.segWrite
    else if off = 0x64 ∧ bitOf data 31 then s.segOp (bitsOf data 1 0)
    else if 0x200 ≤ off ∧ off < 0x280 ∧ off % 0x20 = 0 then
      let p := (off - 0x200) / 0x20
      if bitOf data 31 then s.playGo p (bitsOf data 5 0) (s.rd (Reg.nvsPbSeg p)) (bitOf data 8) (s.playStart p data)
      else if bitOf data 30 then s.playStop p else s
    else s
  else if off = 0x40 ∧ bitOf data 0 then s.initStore (page - 1)
  else s

/-- Extents that are free for new segments: with SEG_MIRROR each one takes space on every usable drive (R251). -/
def State.storeFree (s : State) : Nat :=
  let l := ((List.range 2).filter (fun d => s.driveOk d)).map s.driveFree
  if s.flag Reg.plcCtrl 5 then l.min?.getD 0 else l.sum

/-- Computed words of the NVS pages. -/
def State.nvsRead (s : State) (page off : Nat) : Option Nat :=
  if page = 0 then
    if off = 0x80 then some (s.storeFree * 2 ^ 26 / 10 ^ 9)
    else if off = 0x84 then some (s.nvs.segs.countP (fun g => (s.segOf g.num).isSome))
    else none
  else if off = 0x4C then some (ceilDiv (s.driveUsed (page - 1) * 2 ^ 26) (10 ^ 9))
  else none

end Sys2Proof.Machine
end

