-- ==== Sys2Proof/Machine/Service.lean ====
section
/-! DEFINITION. Service units: fencing, tests and faults; the log in flash; the results record; the SVC page (R492-R508). -/

namespace Sys2Proof.Machine

def State.setUnit (s : State) (u v : Nat) : State := s.setFld (Reg.svcUnit u) 2 0 v

/-- A unit returns to FENCED or ACTIVE: a group commit waits for it no longer (R76). -/
def State.unitBack (s : State) (u v : Nat) : State :=
  { s.setUnit u v with lyr := { s.lyr with waits := s.lyr.waits.filter (fun w => w != u) } }

def State.fused (s : State) (u : Nat) : Bool := s.flag (Reg.svcUnit u) 4

/-- Block code * 256 + instance of a unit, for the log (R504). -/
def unitSource (u : Nat) : Nat :=
  if u < 64 then 0x600 + u / 8 else if u < 72 then 0x600 + (u - 64) else if u < 80 then 0x400 + (u - 72) else if u < 96 then 0x700 + (u - 80)
  else if u < 112 then 0x600 + (u - 96) / 2 else if u < 119 then 0x900 + (u - 111) else if u < 131 then 0x1400 + (u - 119)
  else if u < 133 then 0x1500 + (u - 131) else if u < 169 then 0xC00 + (u - 133) else if u < 171 then 0x1000 + (u - 169) * 256 else 0x1800

/-- Latch edges that have passed, as far as two instants can be told apart by them. -/
def State.latches (s : State) : Nat := s.ras.frame + (if s.ras.latched then 1 else 0)

/-! ### Requests (R493, R494) -/

/-- Requests: 0 FENCE, 1 UNFENCE, 2 TEST. The codes with which a request on unit `u` is rejected (R379, R493, R499). -/
def State.unitCodes (s : State) (u req : Nat) : List Nat :=
  let st := s.unitState u
  if 171 ≤ u ∧ req = 0 then [0x1D01]
  else if req = 0 then
    codeIf (decide (3 ≤ st)) 0xF ++ codeIf ((u == 169 || u == 170) && st == 0 && s.fov.holder == u - 169) 6 ++
    codeIf (decide (119 ≤ u ∧ u < 131) && st == 0 && !s.evacFits (u - 119)) 0x801
  else if req = 1 then codeIf (st != 0 && st != 2) 0xF
  else codeIf (st == 5) 5 ++ codeIf (st != 2 && st != 4 && st != 5) 0xF ++ codeIf (st == 4 && s.fused u) 0x1D02

/-- A FENCE takes effect on an ACTIVE unit (R494). While an evacuation runs, a channel's contents move after it (R258; log entry 168). -/
def State.fenceUnit (s : State) (u : Nat) : State :=
  if s.unitState u = 0 then
    let s := (s.setUnit u 1).add (Reg.svcStat 0) 1
    let s := { s with svc := { s.svc with since := (u, s.ras.frame * 65536 + s.ras.line / 16, s.latches) :: s.svc.since.filter (fun e => e.1 != u) } }
    if u < 64 then s.clusterLeft u
    else if u < 72 then s.pinLost (u - 64)
    else if u < 80 then (if 2 ≤ (s.eng (u - 72)).state then s.mbcCancel (u - 72) else s)
    else if 119 ≤ u ∧ u < 131 then
      (if s.plc.evac.isSome then { s with plc := { s.plc with evacWait := s.plc.evacWait ++ [u - 119] } } else s.evacStart (u - 119))
    else if 133 ≤ u ∧ u < 169 then
      { s with bkl := { s.bkl with reqs := s.bkl.reqs.filter (fun r => r.1 != u - 133) ++ [(u - 133, false)] } }
    else s
  else s

/-- A request that has passed its checks (R493). A channel that replays takes a FENCE up after the replay (table after R424). -/
def State.unitRequest (s : State) (u req : Nat) : State :=
  let st := s.unitState u
  if req = 0 then
    (if 119 ≤ u ∧ u < 131 ∧ st = 0 ∧ !s.issues (u - 119) then s.setChan (u - 119) { s.chan (u - 119) with fenceDue := true } else s.fenceUnit u)
  else if req = 1 then
    if st = 2 then ({ s.setUnit u 3 with svc := { s.svc with tests := s.svc.tests ++ [(u, 1)] } }).add (Reg.svcStat 1) 1 else s
  else { s.setUnit u 3 with svc := { s.svc with tests := s.svc.tests ++ [(u, 0)] } }

/-- A fence that the device itself asks for (R405, R495): a refused evacuation leaves the channel ACTIVE. -/
def State.selfFence (s : State) (u : Nat) : State :=
  if s.unitState u = 0 then
    if decide (119 ≤ u ∧ u < 131) && !s.evacFits (u - 119) then (s.raise 0x80000 3).logIt (unitSource u) 0x801 2 []
    else (s.fenceUnit u).logIt (unitSource u) (evt 0 7) 1 []
  else s

/-- DMC_CE_LIMIT has been raised for a channel (R495). -/
def State.ceService (s : State) (c : Nat) : State :=
  if s.flag Reg.svcCtrl 1 then s.selfFence (119 + c) else s.logIt (0x1400 + c) (evt c 7) 1 []

/-- A unit's own checks find a fault (R493). -/
def State.unitFault (s : State) (u : Nat) : State :=
  if s.unitState u ≤ 1 then
    let was := s.unitState u
    let s := ((s.setUnit u 4).raise 0x1D0000 0).logIt (unitSource u) (evt 0 0) 2 []
    if 64 ≤ u ∧ u < 72 ∧ was = 0 then s.pinLost (u - 64)
    else if 169 ≤ u ∧ u < 171 ∧ s.fov.holder ≠ u - 169 then s.standbyOut else s
  else s

/-- Whether a request on unit `u` waits to be taken up, so that its bit reads 1 (R48, R349, R508): a layer decoder's fence for the next
latch (R275; log entry 169), a chain's for its group's slot (R350), a channel's for the end of a replay (table after R424); every other
request is taken up at once. -/
def State.reqPending (s : State) (u req : Nat) : Bool :=
  if 112 ≤ u ∧ u < 119 then req == 0 && s.unitState u == 1 && s.svc.since.any (fun e => e.1 == u && e.2.2 == s.latches)
  else if 119 ≤ u ∧ u < 131 then req == 0 && (s.chan (u - 119)).fenceDue
  else if 133 ≤ u ∧ u < 169 then
    (if req = 0 then s.bkl.reqs.contains (u - 133, false)
     else req == 1 && (s.bkl.reqs.contains (u - 133, true) || s.svc.tests.contains (u, 1)))
  else false

/-- The request bits of unit `u` as a FENCE register shows them: [0] FENCE, [1] UNFENCE, [2] TEST (R48). -/
def State.fenceBits (s : State) (u : Nat) : Nat :=
  ((List.range 3).map (fun r => if s.reqPending u r then 2 ^ r else 0)).sum

/-- Whether the work of a unit in FENCING has drained (R494, R502). Channels and chains end their fencing elsewhere. -/
def State.drained (s : State) (u : Nat) : Bool :=
  let mark := ((s.svc.since.find? (fun e => e.1 == u)).map (fun e => e.2)).getD (0, 0)
  let open_ := fun (t : Tile) => t.state != .complete && t.state != .dropped
  if u < 64 then (s.cl u).running.isNone
  else if u < 72 then
    let k := u - 64
    !(s.stripeOwner s.nextT).contains k && !((s.plc.prep.map (fun p => p.owner)).getD []).contains k &&
      s.brc.tiles.all (fun t => !open_ t || (t.queue != k && t.home != k))
  else if u < 80 then (s.eng (u - 72)).job.isNone
  else if u < 96 then decide (s.ras.frame * 65536 + s.ras.line / 16 ≠ mark.1)
  else if u < 119 then decide (s.latches ≠ mark.2)
  else if u < 131 then false
  else if u < 133 then
    (match s.nvs.segw with | some (some x, _) => !x.2.getD (u - 131) false | _ => true) &&
      (match s.nvs.segop with | some (1, n, _) => !(s.drive (u - 131)).nums.contains n | _ => true)
  else if u < 169 then false
  else decide (u < 171)

/-- FENCING_DRAINED (R494). A drive completes what it has begun and writes its metadata first, where the store may start (R417, R418); while
Marigold restarts it waits (R33). -/
def State.fencingDrained (s : State) (u : Nat) : State :=
  if s.unitState u = 1 ∧ s.drained u ∧ !(decide (131 ≤ u ∧ u < 133) && s.mgt.restarting) then
    let s := { s with svc := { s.svc with since := s.svc.since.filter (fun e => e.1 != u) } }
    if 131 ≤ u ∧ u < 133 then
      (if (s.drive (u - 131)).ready && !s.storeOk 3 then (s.refuseStore.setUnit u 0).logIt (unitSource u) 0xC 1 [] else (s.driveRemove (u - 131)).setUnit u 2)
    else if 169 ≤ u then (s.setUnit u 2).standbyOut
    else
      let s := s.unitBack u 2
      let k := (u - 96) / 2
      if 96 ≤ u ∧ u < 112 ∧ s.unitState (96 + 2 * k) ≠ 0 ∧ s.unitState (97 + 2 * k) ≠ 0 then s.selfFence (64 + k) else s
  else s

/-! ### Faults in a slice (R191) -/

/-- The run of cluster `u` on what it holds as `h` stops (R191, R238): its tile has no owner from then on and a new epoch; a victim
that runs a tile stolen from it abandons it. What the run has done is counted (R189). -/
def State.stopRun (s : State) (u : Nat) (h : Hold) : State :=
  let s' := match s.tileOf h with
    | some t => if t.epoch = h.epoch ∧ t.owner = some u then
          ((s.countTile t false).setTile { t with state := .stopped, owner := none, epoch := (t.epoch + 1) % 256 }).showTile u none
        else s.abandon u
    | none => s.abandon u
  s'.setCl u { s'.cl u with running := none }

/-- RESIDUE_FAILURE (R191): the tile that the cluster runs stops and has no owner from then on; the cluster is FAILED. A cluster in
FENCING runs its tile to the end, and its check finds the fault as well (R493, R494). -/
def State.residueFailure (s : State) (u : Nat) : State :=
  if u < 64 ∧ s.unitState u ≤ 1 ∧ s.unitState (64 + u / 8) ≤ 1 then
    match (s.cl u).running with
    | none => s
    | some h =>
      let s := (s.stopRun u h).add (Reg.slcClStatFaults (u / 8) (u % 8)) 1
      ((s.clusterLeft u).unitFault u).raise (0x60000 + 0x1000 * (u / 8)) 0
  else s

/-- A whole slice that is still in use fails with its window (R244; log entry 181). -/
def State.sliceFails (s : State) (k : Nat) : State := if k < 8 ∧ s.unitState (64 + k) ≤ 1 ∧ !s.sliceGone k then s.unitFault (64 + k) else s

/-- WINDOW_ECC_ERROR (R191): a corrected error, or the slot that holds the unit at `addr` is invalidated and filled anew. -/
def State.windowEcc (s : State) (k addr : Nat) (corr : Bool) : State :=
  if k < 8 ∧ s.domOn (6 + k) then
    if corr then (s.add (Reg.slcStat k 2) 1).raise (0x60000 + 0x1000 * k) 1
    else
      let s := if (s.scn.windows.getD k []).any (fun w => w.addr == addr) then
          (s.setWindow k ((s.scn.windows.getD k []).filter (fun w => w.addr != addr))).waitFor k addr else s
      (s.add (Reg.slcStat k 3) 1).raise (0x60000 + 0x1000 * k) 2
  else s

/-- A waiting evacuation is refused when its turn comes: the channel stays ACTIVE (R249). -/
def State.evacRefuse (s : State) (c : Nat) : State :=
  ((s.unitBack (119 + c) 0).raise 0x80000 3).rejectCommit (0x140000 + 0x1000 * c) 0x20 0x801

/-- The first of the evacuations that wait whose channel is still FENCING and for which the other channels have room starts (R249, R258). -/
def State.evacTurn : List Nat → State → State
  | [], s => { s with plc := { s.plc with evacWait := [] } }
  | n :: rest, s =>
    if s.unitState (119 + n) = 1 then
      let s : State := { s with plc := { s.plc with evacWait := rest } }
      if s.evacFits n then s.evacStart n else State.evacTurn rest (s.evacRefuse n)
    else State.evacTurn rest s

/-- The next evacuation that waits starts (R258). -/
def State.evacNext (s : State) : State := State.evacTurn s.plc.evacWait s

/-- No evacuation runs. -/
def State.evacClear (s : State) : State := { s with plc := { s.plc with evac := none } }

/-- A FENCING channel whose contents have moved is FENCED, and its contents are discarded (R258, R414). -/
def State.evacFence (s : State) (c : Nat) : State :=
  if s.unitState (119 + c) = 1 then (s.dropChannel c).setUnit (119 + c) 2 else s

/-- A channel's evacuation has ended and its queues have drained: it is FENCED, its contents are discarded, and the next waiting one starts
(R248, R258, R414). -/
def State.evacDone (s : State) : State :=
  match s.plc.evac with
  | none => s
  | some e =>
    if s.evacEmpty then
      let s := s.chanServe e.channel true
      if (s.chan e.channel).rq.isEmpty && (s.chan e.channel).wq.isEmpty then ((s.evacClear.raise 0x80000 2).evacFence e.channel).evacNext else s
    else s

/-- A FENCE that came during a replay is taken up after it (table after R424). -/
def State.takeFence (s : State) (c : Nat) : State :=
  if (s.chan c).fenceDue && s.issues c then
    let s := s.setChan c { s.chan c with fenceDue := false }
    if s.unitState (119 + c) = 0 ∧ !s.evacFits c then (s.raise 0x80000 3).rejectCommit (0x140000 + 0x1000 * c) 0x20 0x801 else s.fenceUnit (119 + c)
  else s

/-! ### Tests (R496-R499) -/

/-- The lanes of a drive slot or of a path die. -/
def unitLanes (u : Nat) : List Nat :=
  if 131 ≤ u ∧ u < 133 then (List.range 4).map (68 + 4 * (u - 131) + ·)
  else if 169 ≤ u ∧ u < 171 then (List.range 8).map (52 + 8 * (u - 169) + ·) else []

/-- What going ACTIVE brings for a unit: a chain restarts at its group's next slot, a drive slot or a path die takes its lanes into use
(R435). -/
def State.unitActive (s : State) (u : Nat) : State :=
  let s := (unitLanes u).foldl State.laneTaken (s.unitBack u 0)
  if 133 ≤ u ∧ u < 169 then { s with bkl := { s.bkl with reqs := s.bkl.reqs.filter (fun r => r.1 != u - 133) ++ [(u - 133, true)] } } else s

/-- Start BISTs at shut-down, up to 8 at once (R498). -/
def State.bistFill (s : State) : State :=
  let n := 8 - s.svc.tests.length
  let go := s.svc.bist.take n
  { go.foldl (fun s u => s.setUnit u 3) s with svc := { s.svc with bist := s.svc.bist.drop n, tests := s.svc.tests ++ go.map (fun u => (u, 4)) } }

/-- Show a unit's run of failures. -/
def State.setFailRun (s : State) (u n : Nat) : State :=
  { s with svc := { s.svc with failRun := s.svc.failRun.set u n } }.setFld (Reg.svcUnit u) 7 5 (min n 3)

/-- A test that failed at an orderly shut-down: the third in a row blows the unit's fuse, where the store may start (R499). -/
def State.shutFail (s : State) (u : Nat) : State :=
  let n := min (s.svc.failRun.getD u 0 + 1) 3
  let s := s.setFailRun u n
  if n = 3 ∧ (u < 119 ∨ u = 169 ∨ u = 170) ∧ !s.fused u then
    if s.storeOk 2 then
      (({ s with svc := { s.svc with fused := u :: s.svc.fused } }.setFlag (Reg.svcUnit u) 4 true).raise 0x1D0000 3).logIt (unitSource u) (evt 0 3) 2 []
    else s.refuseStore
  else s

/-- Record a test's outcome (R508). -/
def State.testRecord (s : State) (u result ms_ : Nat) : State :=
  let s := s.wr Reg.svcBistLast (u + result % 256 * 256 + min ms_ 65535 * 65536)
  (s.setFld (Reg.svcUnit u) 15 8 result).add (Reg.svcStat 2) 1

/-- The end of a test of kind `k`: `res` 0 is a pass (R493, R496). -/
def State.testEnd (s : State) (u k res ms_ : Nat) : State :=
  let s := { s with svc := { s.svc with tests := s.svc.tests.filter (fun t => t.1 != u) } }
  let s := (s.testRecord u res ms_).raise 0x1D0000 1
  let s := if res = 0 then
      let s := s.setFailRun u 0
      if k = 0 ∨ k = 4 ∨ (k = 3 ∧ 119 ≤ u ∧ u < 131) ∨ (k = 2 ∧ 119 ≤ u ∧ u < 131) then s.unitBack u 2
      else if k = 3 ∧ 131 ≤ u ∧ u < 133 then s.setUnit u 5 else s.unitActive u
    else
      let s := (((s.setUnit u 4).add (Reg.svcStat 3) 1).raise 0x1D0000 0).logIt (unitSource u) (evt 0 0) 2 [BitVec.ofNat 8 res]
      if k = 4 then s.shutFail u else s
  s.bistFill

/-- The test that unit `u` runs. -/
def State.testOf (s : State) (u : Nat) : Option Nat := (s.svc.tests.find? (fun t => t.1 == u)).map (fun t => t.2)

/-- SVC_TEST_DONE (R496). An UNFENCE of a channel or a drive, and a channel's training at start, end by their own commands (R497). A test at
shut-down, whose end may blow a fuse, waits for a Marigold that restarts (R33). -/
def State.svcTestDone (s : State) (u res ms_ : Nat) : State :=
  match s.testOf u with
  | some k =>
    if s.unitState u = 3 ∧ res ≤ 5 ∧ res ≠ 4 ∧ k ≠ 5 ∧ !(k == 1 && decide (119 ≤ u ∧ u < 133)) ∧ !(k == 4 && s.mgt.restarting) then s.testEnd u k res ms_ else s
  | none => s

/-- DRAM_TRAINING (R411, R412, R415): the channel's test after UNFENCE or at start. -/
def State.dramTraining (s : State) (c : Nat) (l : List Dimm) (t : Int) (verify memory : Bool) (full : Option (List Nat)) : State :=
  match s.testOf (119 + c) with
  | some k =>
    let start := k == 5
    let waits := start && !s.flag Reg.dmcTrainCtrl 0 && !s.flag Reg.dmcTrainCtrl 16 &&
      decide (s.now < s.dmc.trainFrom + s.fld Reg.dmcTrainCtrl 15 8 * 100 * ms)
    if c < 12 ∧ s.unitState (119 + c) = 3 ∧ (k = 1 ∨ k = 5) ∧ !waits then
      let r := s.trainResult c l t verify memory full start
      let s := s.wr (Reg.dmcChSvc c) r.1
      let s := { s with svc := { s.svc with tests := s.svc.tests.filter (fun t => t.1 != 119 + c) } }
      let s := if l = [] then { s.setUnit (119 + c) 5 with dimms := s.dimms.set c [] }.wr (Reg.dmcChStatus c) 0
        else if r.2.1 then
          let s := (s.channelUp c l r.2.2.1 t).unitActive (119 + c)
          s.setFlag Reg.dmcTrainStat (if r.2.2.2 then c else 16 + c) true
        else
          let s := ((s.setUnit (119 + c) 4).raise 0x1D0000 0).logIt (unitSource (119 + c)) r.1 2 []
          s.raise 0x14F000 1
      if start && s.svc.tests.all (fun t => t.2 != 5) then
        ((s.setFlag Reg.dmcTrainStat 31 true).setFlag Reg.dmcTrainCtrl 16 false).raise 0x14F000 0
      else s.bistFill
    else s
  | none => s

/-- DRIVE_INSERT (R417): presence is seen; the drive is brought up unless its slot is FENCED. -/
def State.driveInsert (s : State) (d : Nat) (copies : List (Option MetaCopy)) (cap : Nat) (fmt : Bool) (gen width health : Nat) : State :=
  if d < 2 ∧ s.domOn 30 then
    let u := 131 + d
    let st := s.unitState u
    let s := if (s.drive d).present then s else (s.setDrive d { s.drive d with present := true }).raise (nvsDBase d) 0
    let s := s.setFlag (Reg.nvsDStatus d) 0 true
    if st = 5 ∨ (st = 0 ∧ !(s.drive d).ready) ∨ (st = 3 ∧ s.testOf u = some 1) then
      let s := { s with svc := { s.svc with tests := s.svc.tests.filter (fun t => t.1 != u) } }
      ((s.driveUp d copies cap fmt gen width health).setUnit u 0).bistFill
    else s
  else s

/-- DRIVE_SURPRISE_REMOVE (R417): with `present` the link alone is lost. -/
def State.driveLost (s : State) (d : Nat) (present : Bool) : State :=
  if d < 2 ∧ (s.drive d).present then
    (if present then s.driveCut d else s.driveGone d).setUnit (131 + d) (if s.unitState (131 + d) = 2 then 2 else 5)
  else s

/-! ### The log (R504-R507) -/

/-- Seconds and nanoseconds of a device time, as 8 and 4 bytes. -/
def timeBytes (t : Nat) : List Byte := leBytes 8 (t / sec) ++ leBytes 4 (t % sec / ns)

/-- Bytes 0-63 of a log entry (R504). -/
def LogEntry.bytes (e : LogEntry) (seq : Nat) : List Byte :=
  leBytes 8 seq ++ timeBytes e.time ++ leBytes 4 e.frame ++ leBytes 2 e.source ++ leBytes 2 e.event ++ leBytes 1 e.severity ++ leBytes 1 e.flags ++
    leBytes 2 e.data.length ++ (e.data ++ List.replicate (32 - e.data.length) 0)

/-- A digest as 32 bytes, first byte first. -/
def digestBytes (d : BitVec 256) : List Byte := beBytes 32 d.toNat

/-- The CHAIN before the next entry (R504): before entry 0 it is SM3 of the serial number. -/
def State.headChain (s : State) : BitVec 256 := if s.log.nextSeq = 0 then sm3 serialBytes else s.log.chain

/-- Flash offset of an entry: 240 sectors of 682 entries from 0x0310_0000 (R505). -/
def logOffset (seq : Nat) : Nat := 0x3100000 + seq / 682 % 240 * 65536 + 64 + seq % 682 * 96

/-- Append one entry (R505); the first of a sector writes the sector's header, and once the ring is full the oldest sector is erased for
it. -/
def State.logPut (s : State) (e : LogEntry) : State :=
  let q := s.log.nextSeq
  let s := if q % 682 = 0 ∧ 240 * 682 ≤ q then s.emit (.erase (logOffset q - 64) 0x10000) else s
  let prev := s.headChain
  let body := e.bytes q
  let chain := sm3 (digestBytes prev ++ body)
  let s := if q % 682 = 0 then s.emit (.flash (logOffset q - 64) ([0x53, 0x4C, 0x4F, 0x47] ++ leBytes 8 q ++ digestBytes prev)) else s
  let s := s.emit (.flash (logOffset q) (body ++ digestBytes chain))
  { s with log := { s.log with flash := (s.log.flash.filter (fun x => decide (q / 682 < x.1 / 682 + 240))) ++ [(q, e, chain)], nextSeq := q + 1, chain := chain } }

/-- Show the log's position (R508). -/
def State.logShow (s : State) : State :=
  let head := s.log.nextSeq - 1
  let first := ((s.log.flash.head?).map (fun x => x.1)).getD 0
  let s := (s.wr (Reg.svcLogPos 0) (head % 2 ^ 32)).wr (Reg.svcLogPos 1) (head / 2 ^ 32)
  let s := (s.wr (Reg.svcLogPos 2) (first % 2 ^ 32)).wr (Reg.svcLogPos 3) (first / 2 ^ 32)
  let b := digestBytes s.headChain
  (List.range 8).foldl (fun s i => s.wr (Reg.svcLogChain i) (leNat (slice b (4 * i) 4))) s

/-- LOG_APPEND (R505, R506): every staged entry, in one persistent store; while Marigold restarts it waits (R33). -/
def State.logAppend (s : State) : State :=
  if s.log.staged = [] ∨ s.mgt.restarting then s
  else if s.storeOk 0 then
    let s := { s.log.staged.foldl State.logPut s with log := { (s.log.staged.foldl State.logPut s).log with staged := [] } }
    s.logShow.add (Reg.svcStat 4) 1
  else s.refuseStore.add (Reg.svcStat 5) 1

/-! ### The results record (R500, R501) -/

def Results.bytes (r : Results) : List Byte :=
  let b := [0x53, 0x56, 0x43, 0x52] ++ leBytes 2 1 ++ leBytes 1 r.uses ++ [0] ++ leBytes 8 r.serial ++ leBytes 4 r.gen ++ leBytes 8 r.frame ++
    timeBytes r.time ++ List.replicate 20 0 ++ r.results.map (BitVec.ofNat 8) ++ [0, 0, 0]
  b ++ leBytes 4 (crc32c b)

/-- The copy of higher generation, and its place. -/
def State.recordNow (s : State) : Option (Nat × Results) :=
  match s.svc.records.getD 0 none, s.svc.records.getD 1 none with
  | some a, some b => if a.gen < b.gen then some (1, b) else some (0, a)
  | some a, none => some (0, a)
  | none, some b => some (1, b)
  | none, none => none

/-- Write a record into the other copy with the next generation (R500). -/
def State.recordWrite (s : State) (r : Results) : State :=
  let (i, g) := match s.recordNow with | some (i, x) => (1 - i, x.gen + 1) | none => (0, 0)
  let r := { r with gen := g }
  { s with svc := { s.svc with records := s.svc.records.set i (some r), usedUp := false } }.emit (.flash (0x3000000 + i * 0x10000) r.bytes)

/-- The record that this start may use (R501). -/
def State.recordUsable (s : State) : Option Results :=
  match s.recordNow with
  | some (_, r) => if !s.svc.usedUp ∧ r.serial = deviceSerial ∧ r.uses < s.fld Reg.svcCtrl 11 8 ∧ !s.flag Reg.svcCtrl 2 then some r else none
  | none => none

/-! ### Registers of the SVC page (R508) -/

/-- Checks of a write to SVC_UNIT_REQ: it writes UNIT, so it is refused while a request bit reads 1. -/
def State.svcCheck (s : State) (off data : Nat) : List Nat :=
  if off = 0x44 then
    let n := (List.range 3).filter (fun i => bitOf data (8 + i))
    codeIf (decide (1 < n.length)) 6 ++ codeIf (decide (s.fenceBits (s.fld Reg.svcUnitReq 7 0) ≠ 0)) 9 ++ (match n with | [r] => if bitsOf data 7 0 ≤ 172 then s.unitCodes (bitsOf data 7 0) r else [] | _ => [])
  else []

def State.svcEffect (s : State) (off data : Nat) : State :=
  if off = 0x44 then
    match (List.range 3).filter (fun i => bitOf data (8 + i)) with
    | [r] => s.unitRequest (bitsOf data 7 0) r
    | _ => s
  else s

/-- Computed words of the SVC page. A unit whose domain is off reads OFF (R493). -/
def State.svcRead (s : State) (off : Nat) : Option Nat :=
  if off = 0x48 then
    let n := fun (p : Nat → Bool) => min (((List.range 173).filter (fun u => p (s.unitState u))).length) 255
    some (s.fld Reg.svcStatus 0 0 + n (fun v => v == 4) * 2 ^ 8 + n (fun v => v == 1 || v == 2) * 2 ^ 16 + n (fun v => v == 3) * 2 ^ 24)
  else if off = 0x44 then some (putBits (s.rd Reg.svcUnitReq) 10 8 (s.fenceBits (s.fld Reg.svcUnitReq 7 0)))
  else if off = 0x60 then some (putBits (s.rd Reg.svcLogStaged) 8 0 s.log.staged.length)
  else if 0x400 ≤ off ∧ off ≤ 0x6B0 then
    let u := (off - 0x400) / 4
    some (putBits (s.rd (Reg.svcUnit u)) 2 0 (s.unitState u))
  else none

end Sys2Proof.Machine
end

