-- ==== Sys2Proof/Machine/Power.lean ====
section
/-! DEFINITION. Domains, regulators, supplies, the hold-up bank, the housekeeping round, throttling, and the PWR and THM
pages (R446-R463, R468, R469). -/

namespace Sys2Proof.Machine

/-! ### Domains (R27, R446, R447) -/

/-- Show a domain as powered or not. -/
def State.setDomStat (s : State) (d : Nat) (on : Bool) : State :=
  if d < 32 then s.setFlag Reg.pwrDomStat0 d on else s.setFlag Reg.pwrDomStat1 (d - 32) on
/-- Show a domain as requested on or not. -/
def State.setDomReq (s : State) (d : Nat) (on : Bool) : State :=
  if d < 32 then s.setFlag Reg.pwrDomOn0 d on else s.setFlag Reg.pwrDomOn1 (d - 32) on
def State.domReq (s : State) (d : Nat) : Bool := if d < 32 then s.flag Reg.pwrDomOn0 d else s.flag Reg.pwrDomOn1 (d - 32)

/-- The service units of a domain. -/
def domUnits (d : Nat) : List Nat := (List.range 171).filter (fun u => unitDomain u == d)

/-- What the blocks of a domain hold goes back to its value after reset (R12, R44, R489). -/
def State.resetBlock (s : State) (d : Nat) : State :=
  if d = 2 then { s with mgt := { s.mgt with cpxRun := false } }
  else if d = 5 then { s with ras := Ras.reset, crv := { Crv.reset with pins := s.crv.pins }, tim := Tim.reset, timBase := 0, timAnchor := s.now, timRate := 0 }
  else if 6 ≤ d ∧ d < 14 then
    { s with scn := { s.scn with windows := s.scn.windows.set (d - 6) [] },
             clusters := s.clusters.zipIdx.map (fun c => if c.2 / 8 = d - 6 then Cluster.idle else c.1) }
  else if d = 14 then { s with scn := { Scn.reset with windows := s.scn.windows }, ing := Ing.reset }
  else if d = 15 then { s with mbc := List.replicate 8 MbcEng.reset }
  else if d = 16 then { s with brc := Brc.reset }
  else if d = 17 then { s with plc := Plc.reset, syn := Syn.reset }
  else if d = 18 then { s with lyr := Lyr.reset }
  else if d = 19 then { s with blt := Blt.reset }
  else if d = 20 then { s with pnl := { s.pnl with running := false, lfsr := Pnl.reset.lfsr, slots := Pnl.reset.slots } }
  else if d = 21 then { s with pnl := { Pnl.reset with lens := s.pnl.lens, wf := s.pnl.wf } }
  else if d = 22 then { s with pnl := { s.pnl with lens := [], wf := [] } }
  else if d = 23 then { s with bkl := { Bkl.reset with hold := s.bkl.hold, fenced := List.range 36 } }
  else if 24 ≤ d ∧ d < 30 then
    let c := 2 * (d - 24)
    (((s.dropChannel c).dropChannel (c + 1)).setChan c { Chan.reset with record := (s.chan c).record }).setChan (c + 1)
      { Chan.reset with record := (s.chan (c + 1)).record }
  else if d = 30 then
    { s with nvs := { s.nvs with segw := none, segwWait := false, segop := none, segopWait := false, plays := List.replicate 4 none, nextSeq := [], fallback := none,
                                 drives := s.nvs.drives.map (fun (x : Drive) => { x with ready := false, power := false, queues := [], initDue := false }) } }
  else if d = 32 ∨ d = 33 then
    let s := { s with net := s.net.set (d - 32) NetPath.reset }
    (if s.fov.holder = d - 32 then s else s.standbyOut).fovDigest
  else if d = 34 then (if s.fov.mirrorUp then s.mirrorFail else s)
  else s

/-- A domain goes off: its pages and blocks lose what they hold, and its units are OFF. -/
def State.domainOff (s : State) (d : Nat) : State :=
  let s := (s.setDomReq d false).setDomStat d false
  let s := { s with pwr := { s.pwr with ups := s.pwr.ups.filter (fun x => x != d) },
                    svc := { s.svc with tests := s.svc.tests.filter (fun t => unitDomain t.1 != d) } }
  let s := ((allPages.filter (fun p => p.domain == d)).foldl (fun s p => s.resetPage p.base) s).resetBlock d
  (s.lanesClear d).laneSweep

/-- A domain is asked for (R447). -/
def State.domainOn (s : State) (d : Nat) : State :=
  if s.domOn d ∨ s.pwr.ups.contains d then s else { s.setDomReq d true with pwr := { s.pwr with ups := s.pwr.ups ++ [d] } }

/-- DOMAIN_UP (R447, R493): its units come up FENCED, a fused one FAILED. -/
def State.domainUp (s : State) (d : Nat) : State :=
  if s.pwr.ups.contains d then
    let s := { s with pwr := { s.pwr with ups := s.pwr.ups.filter (fun x => x != d) } }
    let s := if d = 23 then { s with bkl := { s.bkl with fenced := List.range 36 } } else s
    let s := if d = 32 ∨ d = 33 then
        let m := s.secu.macs.getD (d - 32) 0
        (s.wr (Reg.npMacLo (d - 32)) (m % 2 ^ 32)).wr (Reg.npMacHi (d - 32)) (m / 2 ^ 32 % 65536) else s
    (domUnits d).foldl (fun s u =>
      if s.svc.fused.contains u then ((s.setUnit u 4).setFlag (Reg.svcUnit u) 4 true).setFld (Reg.svcUnit u) 7 5 (s.svc.failRun.getD u 0)
      else (s.setUnit u 2).setFld (Reg.svcUnit u) 7 5 (s.svc.failRun.getD u 0))
      (if d = 32 ∨ d = 33 then (s.setDomStat d true).fovDigest else s.setDomStat d true)
  else s

/-- The codes with which switching a domain is rejected (R447). -/
def State.domainCodes (s : State) (d : Nat) (on : Bool) : List Nat :=
  codeIf (d == 0 || d == 1 || d == 3) 6 ++
  codeIf (!on && ((domUnits d).any (fun u => decide (s.unitState u ≠ 2 ∧ s.unitState u < 4)) || ((d == 32 || d == 33) && s.fov.holder == d - 32 && s.domOn d))) 0x1901

/-! ### Regulators (R448, R449) -/

/-- Entries in use, by GROUP and then by index (R449). -/
def State.regOrder (s : State) : List Nat :=
  (List.range 16).flatMap (fun g => (List.range 16).filter (fun i => s.flag (Reg.pwrReg i) 9 && s.fld (Reg.pwrReg i) 15 12 == g))

/-- The PMBus address of regulator `i`. -/
def State.regAddr (s : State) (i : Nat) : Nat := s.fld (Reg.pwrReg i) 6 0

/-- A regulator is told to switch on or off (R449). -/
def State.regSwitch (s : State) (i : Nat) (on : Bool) : State :=
  if s.pmbusOn then s.emit (.pmbus (s.regAddr i) (s.pmbWrite (s.regAddr i) (operation on))) else s

/-- A regulator counts as faulted, or reports a fault; the log entry carries `event` (R448, R449). -/
def State.regFault (s : State) (i event : Nat) : State := (s.raise 0x190000 4).logIt 0x1900 event 2 [BitVec.ofNat 8 i]

/-- The next regulator is told to switch on. -/
def State.regStart (s : State) (k : Nat) : State :=
  match s.regOrder[k]? with
  | some i => { s.regSwitch i true with pwr := { s.pwr with regNext := some k, regAt := s.now } }
  | none => { s with pwr := { s.pwr with regNext := none } }

/-- How regulator `i` answers at start: the state after its transactions, whether it is good, and whether it has not answered (R448,
R449). -/
def State.regAnswer (s : State) (i sent : Nat) (status : PmbRead) : State × Bool × Bool :=
  let check := s.flag (Reg.pwrReg i) 8
  let s1 := s.pmbRetry (s.regAddr i) (s.pmbWrite (s.regAddr i) (operation true)) sent
  let s1 := if check && decide (sent < 3) then s1.pmbSend (s.regAddr i) [0x79] status.fails else s1
  let silent := decide (3 ≤ sent) || (check && !pmbAnswered status)
  (s1, !silent && (!check || statusGood status.word), silent)

/-- REGULATOR_ON (R449): `feeds` are the domains that the board feeds from the regulator, which stay off where it fails (R520); one
that does not answer is logged with 0x1902 (R468). While Marigold restarts or its master does not run, nothing goes on (R443). -/
def State.regulatorOn (s : State) (sent : Nat) (status : PmbRead) (feeds : List Nat) : State :=
  match s.pwr.regNext with
  | none => s
  | some k => match s.regOrder[k]? with
    | none => s
    | some i =>
      if s.pmbusOn ∧ s.pwr.regAt + s.fld (Reg.pwrReg i) 23 16 * ms ≤ s.now then
        let r := s.regAnswer i sent status
        let s : State := { r.1 with pwr := { r.1.pwr with regs := r.1.pwr.regs.set i r.2.1 } }
        let s := if r.2.1 then s
          else { s with pwr := { s.pwr with dead := s.pwr.dead ++ feeds } }.regFault i (if r.2.2 then 0x1902 else evt 0 4)
        s.regStart (k + 1)
      else s

/-- READ_VOUT in 10 mV (PMBus 1.3; log entry 34): a mantissa with the exponent of VOUT_MODE in its linear format; in any other format
the value is free. -/
def State.voutWord (s : State) (mode v : Nat) : Nat × State :=
  if mode / 32 % 8 = 0 then
    let e := signedBits mode 5
    (min 65535 (if 0 ≤ e then v * 100 * 2 ^ e.toNat else v * 100 / 2 ^ (-e).toNat), s)
  else (s.draw.1 % 65536, s.draw.2)

/-- VOUT_MODE is read once for each regulator (R448). -/
def State.modeRead (s : State) (i : Nat) (mode : PmbRead) : State :=
  if (s.pwr.vmode.getD i none).isSome then s
  else
    let s := s.pmbSend (s.regAddr i) [0x20] mode.fails
    if pmbAnswered mode then { s with pwr := { s.pwr with vmode := s.pwr.vmode.set i (some mode.word) } } else s

/-- A round's reading of regulator `i` (R448, R449): one that does not answer counts as faulted, and a fault bit of a running one is
reported. -/
def State.regRead (s : State) (i : Nat) (r : RegRead) : State :=
  let s := s.modeRead i r.mode
  let s := (s.pmbSend (s.regAddr i) [0x79] r.status.fails).pmbSend (s.regAddr i) [0x8B] r.vout.fails
  let s := if pmbAnswered r.status then s.setFld (Reg.pwrRegStat i) 15 0 r.status.word else s
  match s.pwr.vmode.getD i none, pmbAnswered r.vout, pmbAnswered r.status with
  | some m, true, st =>
    let v := s.voutWord m r.vout.word
    let s := v.2.setFld (Reg.pwrRegStat i) 31 16 v.1
    if !st || (s.pwr.regs.getD i false && decide (Nat.land r.status.word 0xF63E ≠ 0)) then s.regFault i (evt 0 4) else s
  | _, _, _ => s.regFault i (evt 0 4)

/-- A round's reading of the regulators, once every 64 rounds (R449). -/
def State.regRound (s : State) (ans : List RegRead) : State :=
  if !s.pmbusOn then s
  else s.regOrder.foldl (fun s i => match ans[i]? with | some r => s.regRead i r | none => s) s

/-- Regulators still to be switched off, each after its OFF_DELAY (R449, R520). -/
def State.regsOff : List Nat → State → State
  | [], s => { s with pwr := { s.pwr with offs := [] } }
  | i :: l, s =>
    let at_ := s.pwr.regAt + s.fld (Reg.pwrReg i) 31 24 * ms
    if at_ ≤ s.now then State.regsOff l { s.regSwitch i false with pwr := { s.pwr with regs := s.pwr.regs.set i false, regAt := at_ } }
    else { s with pwr := { s.pwr with offs := i :: l } }

/-! ### The log while Marigold restarts (R443) -/

/-- A supply or thermal event: held in the AON retention register while Marigold is not running. -/
def State.hkLog (s : State) (source event severity : Nat) : State :=
  if s.mgt.running && !s.mgt.restarting then s.logIt source event severity []
  else
    { s with log := { s.log with retained := s.log.retained ++
        [{ time := s.device, frame := s.ras.frame, source := source, event := event, severity := severity, flags := 1 + s.timeFlag, data := [] }] } }

/-! ### Supplies and the ordered stop (R460, R461) -/

def State.supState (s : State) : Nat := s.fld Reg.pwrSupStat 1 0
/-- The level that a recovering supply must stay above: WARN + HYST. -/
def State.supRecover (s : State) : Nat := s.fld Reg.pwrSupCfg 11 0 + s.fld Reg.pwrSupCfg 31 24

/-- The domains in the order of R517. -/
def startOrder : List Nat :=
  [4, 5, 24, 25, 26, 27, 28, 29, 2, 14, 15, 17, 6, 7, 8, 9, 10, 11, 12, 13, 16, 18, 19, 20, 21, 22, 23, 30, 31, 32, 33, 34]

/-- Every domain but the always-on ones goes off, in reverse order; NOC last (R461, R517, R520). -/
def State.allOff (s : State) : State := ((startOrder.reverse ++ [3]).foldl State.domainOff s)

/-- The device holds reset: its DRAM is lost and Marigold's stack does not run (R461). -/
def State.heldOff (s : State) : State :=
  { s with dram := [], poison := [], mgt := { s.mgt with running := false }, pwr := { s.pwr with step := 0 } }

/-- Persistent stores in progress run to their end (R461). -/
def State.storesEnd (s : State) : State := s.segwDone.segopDone

/-- The stop's last step: stores in progress end, domains go off, and the device holds reset (R461). -/
def State.stopEnd (s : State) : State :=
  if s.pwr.stop && s.panel == 0 then
    s.storesEnd.allOff.heldOff
  else s

/-- Tests of a shut-down are abandoned (R498, R520). -/
def State.bistAbandon (s : State) : State := { s with svc := { s.svc with bist := [], tests := s.svc.tests.filter (fun t => t.2 != 4) } }

/-- The ordered stop (R461): the discharge is triggered, egress and raster stop, and domains go off when it is over. Heat that comes while
a stop runs holds the device in reset as well, and is logged (R458). -/
def State.orderedStop (s : State) (hot : Bool) (source event : Nat) : State :=
  if s.pwr.stop then
    if hot && !s.pwr.hot then { s.hkLog source event 3 with pwr := { s.pwr with hot := true } } else s
  else
    let e : LogEntry := { time := s.device, frame := s.ras.frame, source := source, event := event, severity := 3, flags := 1 + s.timeFlag, data := [] }
    let s := { s.discharge with pwr := { s.pwr with stop := true, hot := hot, stopLog := some e, above := none, shdn := 0 } }
    s.bistAbandon.stopEnd

/-- PWR_BRACE (R460): the tile input, in 10 mV. -/
def State.brace (s : State) (v : Nat) : State :=
  if s.supState = 0 ∧ v < s.fld Reg.pwrSupCfg 11 0 ∧ s.fld Reg.pwrSupCfg 23 12 ≤ v then
    let s := { s.setFld Reg.pwrSupStat 1 0 1 with pwr := { s.pwr with above := none } }
    ((s.add (Reg.pwrStat 0) 1).raise 0x190000 0).hkLog 0x1900 (evt 0 0) 1
  else s

/-- PWR_NORMAL (R460). -/
def State.normal (s : State) : State :=
  if s.supState == 1 && (match s.pwr.above with | some t => decide (t + s.fld Reg.pwrSupTime 7 0 * ms ≤ s.now) | none => false) then
    ((s.setFld Reg.pwrSupStat 1 0 0).raise 0x190000 1).hkLog 0x1900 (evt 0 1) 0
  else s

/-- PWR_FAIL (R460, R461). Where an ordered stop runs already, the change is logged. -/
def State.fail (s : State) (v : Nat) : State :=
  if s.supState < 2 ∧ v < s.fld Reg.pwrSupCfg 23 12 then
    let s := ((s.setFld Reg.pwrSupStat 1 0 2).add (Reg.pwrStat 1) 1).raise 0x190000 2
    if s.pwr.stop then s.hkLog 0x1900 (evt 0 2) 3 else s.orderedStop false 0x1900 (evt 0 2)
  else s

/-- A round's tile input. -/
def State.supRound (s : State) (v : Nat) : State :=
  let s := s.setFld Reg.pwrSupStat 27 16 v
  { s with pwr := { s.pwr with above := if s.supRecover < v then some (s.pwr.above.getD s.now) else none } }

/-! ### Hold-up energy (R462, R463) -/

/-- A round's bank voltage. -/
def State.holdRound (s : State) (v : Nat) : State :=
  let s := s.setFld Reg.pwrHoldV 15 0 v
  s.wr Reg.pwrHoldE (min (s.holdEnergy2 / 2000000) (2 ^ 32 - 1))

/-- HOLDUP_MEASURE (R462), in step 4 of start-up. -/
def State.holdMeasure (s : State) : State :=
  if s.pwr.step = 4 ∧ !s.pwr.measured ∧ s.pwr.test.isNone then
    { s.emit (.pin "HOLD_LOAD_EN" 0 true) with pwr := { s.pwr with test := some (s.now, s.fld Reg.pwrHoldV 15 0), load := true } }
  else s

/-- The end of the measurement: C in units of 10 µF. -/
def State.holdEnd (s : State) (c : Nat) : State :=
  let s := s.wr Reg.pwrHoldCap (min c 65535)
  let s := { s.emit (.pin "HOLD_LOAD_EN" 0 false) with pwr := { s.pwr with test := none, load := false, measured := true } }
  s.wr Reg.pwrHoldE (min (s.holdEnergy2 / 2000000) (2 ^ 32 - 1))

/-- PWR_HOLD_MEASURED (R462): the bank has fallen by V_DROP. -/
def State.holdMeasured (s : State) : State :=
  match s.pwr.test with
  | some (t, _) =>
    if s.now ≤ t + s.fld Reg.pwrHoldTest 31 24 * 10 * ms then
      (s.holdEnd (s.fld Reg.pwrHoldTest 11 0 * (s.now - t) * 1000 / (max 1 (s.fld Reg.pwrHoldTest 23 16) * sec))).raise 0x190000 5
    else s
  | none => s

/-- HOLDUP_MEASURE_TIMEOUT (R462). -/
def State.holdTimeout (s : State) : State :=
  match s.pwr.test with
  | some (t, _) =>
    if t + s.fld Reg.pwrHoldTest 31 24 * 10 * ms < s.now then ((s.holdEnd 0).raise 0x190000 3).hkLog 0x1900 (evt 0 3) 2 else s
  | none => s

/-! ### Sensors (R450-R453) -/

/-- Neighbours of a ring-oscillator sensor (R451). -/
def sensNear (n : Nat) : List Nat :=
  if n < 48 then
    (if 8 ≤ n then [n - 8] else []) ++ (if n + 8 < 48 then [n + 8] else []) ++ (if n % 8 = 0 then [] else [n - 1]) ++ (if n % 8 = 7 then [] else [n + 1])
  else (List.range 4).filterMap (fun i => let m := 48 + (n - 48) / 4 * 4 + i; if m = n then none else some m)

/-- Whether the domain of a channel is on (R450). -/
def State.sensOn (s : State) (n : Nat) : Bool := if n < 48 then true else if n < 52 then s.domOn 32 else s.domOn 33

/-- The median of the valid neighbours of a sensor, in 1/16 °C; none with fewer than two (R451). -/
def State.sensMedian (s : State) (v : List Int) (n : Nat) : Option Rat :=
  let l := (sensNear n).filter (fun m => s.sensOn m && !s.thm.broken.getD m false)
  if l.length < 2 then none else some (median (l.map (fun m => ((v.getD m 0 : Int) : Rat))))

/-- One sensor of a round (R451). -/
def State.sensRound (v : List Int) (s : State) (n : Nat) : State :=
  let x := v.getD n 0
  if !s.sensOn n then s.wr (Reg.thmCh n) 0
  else
    let med := s.sensMedian v n
    let far := s.flag Reg.thmCtrl 0 && (match med with
      | some m => let d := (x : Rat) - m; decide (((s.fld Reg.thmCtrl 11 8 * 16 : Nat) : Rat) < (if d < 0 then -d else d))
      | none => false)
    let cnt := if far then s.thm.off.getD n 0 + 1 else 0
    let hit := !s.thm.broken.getD n false && far && decide (s.fld Reg.thmCtrl 15 12 ≤ cnt)
    let bad := s.thm.broken.getD n false || hit
    let s := { s with thm := { s.thm with off := s.thm.off.set n (min cnt 15), broken := s.thm.broken.set n bad } }
    let s := if hit then (s.setFlag (if n < 32 then Reg.thmBroken0 else Reg.thmBroken1) (n % 32) true |>.raise 0x1A0000 3).hkLog 0x1A00 (evt 0 3) 2 else s
    let shown := if bad then (match med with | some m => m.floor | none => x) else x
    s.wr (Reg.thmCh n) (toBits 16 shown + 65536 + (if bad then 131072 else 0) + (if bad && med.isSome then 262144 else 0))

/-- Temperature of an NTC in 1/16 °C (R452): code of 4,096, NOM in 10 ohm, BETA. -/
def ntcTemp (code nom beta : Nat) : Int :=
  let x : Rat := ((Pq.ln (10000 * code * Pq.one / (4096 - code)) - Pq.ln (nom * 10 * Pq.one) : Int) : Rat) / (Pq.one : Rat)
  let inv : Rat := (100 : Rat) / 29815 + x / (beta : Rat)
  (16 * (1 / inv - 27315 / 100) + 1 / 2).floor

/-- The value of an NTC input as its channel shows it: for a code of 0, and where the formula's value does not fit the channel, the
manual states none, and it is a free value (log entry 182). -/
def State.ntcWord (s : State) (code nom beta : Nat) : Nat × State :=
  let t := ntcTemp code nom beta
  if code = 0 ∨ 4096 ≤ code ∨ t < -32768 ∨ 32767 < t then (s.draw.1 % 65536, s.draw.2) else (toBits 16 t, s)

/-- One external input of a round (R452). -/
def State.extRound (v : List Nat) (s : State) (j : Nat) : State :=
  let x := v.getD j 0
  let cfg := s.rd (Reg.thmExtCfg j)
  if bitsOf cfg 1 0 = 0 then s.wr (Reg.thmCh (56 + j)) 0
  else if bitsOf cfg 1 0 = 2 then s.wr (Reg.thmCh (56 + j)) (min x 65535 + 65536)
  else
    let inside := decide (82 ≤ x ∧ x ≤ 4013)
    let out := if inside then 0 else min (s.thm.extOut.getD j 0 + 1) 3
    let good := if inside then min (s.thm.extIn.getD j 0 + 1) 100 else 0
    let was := s.thm.extBad.getD j false
    let bad := if was then decide (good < 100) else decide (3 ≤ out)
    let s := { s with thm := { s.thm with extOut := s.thm.extOut.set j out, extIn := s.thm.extIn.set j good, extBad := s.thm.extBad.set j bad } }
    let s := s.setFlag Reg.thmExtBroken j bad
    let s := if bad && !was then s.raise 0x1A0000 5 else s
    let t := s.ntcWord x (bitsOf cfg 31 16) (bitsOf cfg 15 4)
    t.2.wr (Reg.thmCh (56 + j)) (t.1 + (if bad then 131072 else 65536))

/-- The reading of external input `j` in 1/16 °C, where it is a valid NTC reading. -/
def State.extSixteenth (s : State) (j : Nat) : Option Int :=
  let w := s.rd (Reg.thmCh (56 + j))
  if bitOf w 16 && !bitOf w 17 && s.fld (Reg.thmExtCfg j) 1 0 == 1 then some (signedBits (bitsOf w 15 0) 16) else none

/-- The panel temperature band of a round (R454). -/
def State.bandRound (s : State) : State :=
  let cfg := s.rd Reg.thmBandCfg
  let old := s.band
  let trip := fun (k : Nat) => 16 * signedBits (if k < 4 then s.fld Reg.thmBandT0 (8 * k + 7) (8 * k) else s.fld Reg.thmBandT1 (8 * (k - 4) + 7) (8 * (k - 4))) 8
  let w := s.rd (Reg.thmCh (56 + bitsOf cfg 3 0))
  if bitOf cfg 4 && (s.extSixteenth (bitsOf cfg 3 0)).isSome then
    let t := signedBits (bitsOf w 15 0) 16
    let up := (List.range 7).countP (fun k => decide (trip k ≤ t))
    let hy : Int := 16 * bitsOf cfg 19 16
    let hold := (List.range 7).countP (fun k => decide (trip k - hy ≤ t))
    let new := if !s.thm.bandSeen then up else if old < up then up else min old hold
    let s := { s with thm := { s.thm with bandSeen := true } }
    let s := (s.setFld Reg.thmBand 2 0 new).setFld Reg.thmBand 15 8 (toBits 8 (t / 16))
    if new ≠ old then s.raise 0x1A0000 4 else s
  else if s.thm.bandSeen then s
  else
    let s := s.setFld Reg.thmBand 2 0 (bitsOf cfg 10 8)
    if bitsOf cfg 10 8 ≠ old then s.raise 0x1A0000 4 else s

/-! ### Throttling (R455-R458) -/

def State.thmAsked (s : State) : Nat := s.fld Reg.thmReq 2 0
def State.enforced (s : State) : Nat := s.fld Reg.thmReq 6 4

/-- Enforce a level (R456, R457). -/
def State.enforce (s : State) (k : Nat) : State :=
  let s := if s.enforced < k then s.raise 0x1A0000 1 else s
  ({ s with thm := { s.thm with grace := none } }.setFld Reg.thmReq 6 4 k).setFlag Reg.thmReq 16 false

/-- The requested level changes (R457): a rise above the enforced level starts the grace time; a fall below it takes it along. -/
def State.ask (s : State) (k : Nat) : State :=
  let old := s.thmAsked
  let s : State := { s.setFld Reg.thmReq 2 0 k with thm := { s.thm with below := none } }
  if s.enforced < k then
    let s := if old ≤ s.enforced then s.raise 0x1A0000 0 else s
    if s.fld Reg.thmGrace 15 0 = 0 then s.enforce k
    else if s.thm.grace.isSome then s
    else { s.setFlag Reg.thmReq 16 true with thm := { s.thm with grace := some (s.now + s.fld Reg.thmGrace 15 0 * ms) } }
  else if k < s.enforced then s.enforce k
  else { s.setFlag Reg.thmReq 16 false with thm := { s.thm with grace := none } }

/-- Trip of level `k`, 1 to 4, in 1/16 °C (R469). -/
def State.trip (s : State) (k : Nat) : Int := 16 * s.fld Reg.thmTrip (8 * k - 1) (8 * k - 8)
def State.thmHyst (s : State) : Int := 16 * s.fld Reg.thmCrit 23 16

/-- T_j in 1/16 °C (R453): the largest valid or replaced reading; none where there is none. -/
def State.tj (s : State) : Option Int :=
  ((List.range 56).filter (fun n => let w := s.rd (Reg.thmCh n); bitOf w 16 && (!bitOf w 17 || bitOf w 18))).foldl
    (fun m n => let v := signedBits (s.fld (Reg.thmCh n) 15 0) 16; match m with | none => some v | some x => some (max x v)) none

/-- A round's throttling (R457, R458). -/
def State.thmRound (s : State) : State :=
  match s.tj with
  | none => s
  | some t =>
    let s := s.setFld Reg.thmReq 15 8 (toBits 8 (t / 16))
    let up := (([4, 3, 2, 1] : List Nat).find? (fun k => decide (s.trip k ≤ t))).getD 0
    let s := if s.thmAsked < up then s.ask up
      else if s.thmAsked ≠ 0 ∧ t < s.trip s.thmAsked - s.thmHyst then { s with thm := { s.thm with below := some (s.thm.below.getD s.now) } }
      else { s with thm := { s.thm with below := none } }
    let crit : Int := 16 * s.fld Reg.thmCrit 7 0
    let stop : Int := 16 * s.fld Reg.thmCrit 15 8
    let s := if crit ≤ t then ((if s.enforced < 4 then (s.setFld Reg.thmReq 2 0 4).enforce 4 else s).raise 0x1A0000 2) else s
    let n := if stop ≤ t then min (s.thm.stops + 1) 3 else 0
    let s := { s with thm := { s.thm with stops := n } }
    let s := if s.pwr.hot && decide (t < crit - s.thmHyst) then { s with pwr := { s.pwr with hot := false } } else s
    if n = 3 then s.orderedStop true 0x1A00 (evt 0 2) else s

/-- THROTTLE_GRACE_EXPIRE (R457). -/
def State.graceExpire (s : State) : State :=
  match s.thm.grace with
  | some e => if e ≤ s.now then (if s.enforced < s.thmAsked then s.enforce s.thmAsked else { s.setFlag Reg.thmReq 16 false with thm := { s.thm with grace := none } }) else s
  | none => s

/-- THROTTLE_HOLD_EXPIRE (R457). -/
def State.holdExpire (s : State) : State :=
  match s.thm.below with
  | some e => if e + s.fld Reg.thmGrace 31 16 * sec ≤ s.now ∧ s.thmAsked ≠ 0 then s.ask (s.thmAsked - 1) else s
  | none => s

/-- The slice clock of the enforced level, from the next latch edge (R456). -/
def State.thmLatch (s : State) : State :=
  let s := s.settleClocks
  let k := s.enforced
  let mhz := if k = 0 then 1500 else s.fld (Reg.thmLvl (k - 1)) 11 0
  (List.range 8).foldl (fun s i => if s.domOn (6 + i) then s.setFld (Reg.slcClock i) 11 0 mhz else s) s

/-- THM_SENS_CLR: every broken mark is cleared, those of the external inputs too (R451, R469). -/
def State.sensClear (s : State) : State :=
  { ((s.wr Reg.thmBroken0 0).wr Reg.thmBroken1 0).wr Reg.thmExtBroken 0 with
    thm := { s.thm with off := List.replicate 56 0, broken := List.replicate 56 false, extOut := List.replicate 16 0,
                        extIn := List.replicate 16 0, extBad := List.replicate 16 false } }

/-! ### The housekeeping round (R450) -/

/-- HOUSEKEEPING_ROUND (R450) and the checks that depend on it. -/
def State.housekeeping (s : State) (r : Round) : State :=
  let s := { s.add Reg.thmRounds 1 with mgt := { s.mgt with calBase := s.fld Reg.calCtrl 2 0 }, cal := s.calNext.getD s.cal, calNext := none }
  let s := (List.range 56).foldl (State.sensRound r.sens) s
  let s := (List.range 16).foldl (State.extRound r.ext) s
  let s := (List.range 4).foldl (fun s j =>
    if s.domOn 21 then (s.wr (Reg.thmCh (72 + j)) (min (r.crack.getD j 0) 65535 + 65536)).crackRound j (r.crack.getD j 0)
    else s.wr (Reg.thmCh (72 + j)) 0) s
  let s := (s.wr (Reg.thmCh 76) (r.sup % 65536 + 65536)).wr (Reg.thmCh 77) (r.hold % 65536 + 65536)
  let s := (List.range 50).foldl (fun s i => s.wr (Reg.thmCh (78 + i)) (r.rails.getD i 0 % 65536 + 65536)) s
  let s := (s.supRound r.sup).holdRound r.hold
  let s := s.bandRound.thmRound
  let s := if s.domOn 23 then s.derateRound (s.extSixteenth (s.fld Reg.bklCtrl 11 8)) else s
  let s := if s.domOn 5 then s.timRound (s.extSixteenth (s.fld Reg.timXoChan 3 0)) else s
  let s := (List.range 12).foldl (fun s c => s.dimmTemps c (r.dimm.getD c [])) s
  let s := (List.range 84).foldl (fun s n => if s.domOn (laneDomain n) then (s.laneRound n (s.laneTemp n)).adaptRound n else s) s
  let s := s.healthRound r.health
  if s.rd Reg.thmRounds % 64 = 0 then s.regRound r.regs else s

/-! ### Registers of the PWR and THM pages (R468, R469) -/

/-- Domains whose bit a write to PWR_DOM_ON0 or _ON1 changes, with the new value. -/
def State.domChanges (s : State) (off data : Nat) : List (Nat × Bool) :=
  if off = 0x40 then ((List.range 31).map (· + 1)).filterMap (fun d => if bitOf data d = s.domReq d then none else some (d, bitOf data d))
  else if off = 0x44 then (List.range 3).filterMap (fun i => if bitOf data i = s.domReq (32 + i) then none else some (32 + i, bitOf data i))
  else []

/-- Checks of a write to the PWR page. -/
def State.pwrCheck (s : State) (off data : Nat) : List Nat :=
  (s.domChanges off data).flatMap (fun d => s.domainCodes d.1 d.2) ++
  (if off = 0x50 then codeIf (decide (bitsOf data 11 0 ≤ bitsOf data 23 12)) 6
   else if 0x100 ≤ off ∧ off < 0x140 then codeIf (bitOf data 9 && bitsOf data 6 0 == 0) 1 else [])

/-- What a write to the PWR page starts; `old` is the word before it. -/
def State.pwrEffect (s : State) (off old data : Nat) : State :=
  if off = 0x40 ∨ off = 0x44 then
    let s0 := s.wr (0x190000 + off) old
    (s0.domChanges off data).foldl (fun s d => if d.2 then s.domainOn d.1 else s.domainOff d.1) s0
  else s

/-- Whether a list of signed bytes ascends. -/
def ascends (l : List Int) : Bool := (l.zip (l.drop 1)).all (fun p => decide (p.1 < p.2))
def byteList (w n : Nat) : List Int := (List.range n).map (fun i => signedBits (bitsOf w (8 * i + 7) (8 * i)) 8)
/-- The bytes of a word as numbers without sign: trips are in °C (R469). -/
def byteNats (w n : Nat) : List Int := (List.range n).map (fun i => (bitsOf w (8 * i + 7) (8 * i) : Int))

/-- Checks of a write to the THM page. -/
def State.thmCheck (s : State) (off data : Nat) : List Nat :=
  if off = 0x44 then codeIf (!ascends (byteNats data 4)) 0x1A01
  else if off = 0x48 then codeIf (decide (bitsOf data 15 8 < bitsOf data 7 0)) 6
  else if 0x54 ≤ off ∧ off ≤ 0x60 then codeIf (decide (bitsOf data 11 0 % 50 ≠ 0)) 1
  else if off = 0x68 then codeIf (!ascends (byteList data 4 ++ byteList (s.rd Reg.thmBandT1) 3)) 0x1A01
  else if off = 0x6C then codeIf (!ascends (byteList (s.rd Reg.thmBandT0) 4 ++ byteList data 3)) 0x1A01
  else if 0x400 ≤ off ∧ off < 0x440 then
    codeIf (bitsOf data 1 0 == 1 && bitsOf data 31 16 == 0) 2 ++
    codeIf (bitsOf data 1 0 == 1 && decide (bitsOf data 15 4 < 1000)) 1
  else []

def State.thmEffect (s : State) (off data : Nat) : State := if off = 0x80 ∧ bitOf data 0 then s.sensClear else s

end Sys2Proof.Machine
end

