-- ==== Sys2Proof/Machine/Secure.lean ====
section
/-! DEFINITION. Signed objects, boot, the mailbox envelope, the security services, calibration images, and the MGT, CAL and
SEC pages (R444-R445, R464-R467, R470-R491). -/

namespace Sys2Proof.Machine

/-! ### Signed objects (R475, R476) -/

/-- A signed object: its header fields and its body. -/
structure SignedObj where
  kind : Nat
  rollback : Nat
  signer : List Byte
  digest : List Byte
  head : List Byte
  sign : List Byte
  body : List Byte
  deriving DecidableEq, Repr

/-- Read the signed object that bytes begin with (R475). -/
def parseObj (b : List Byte) : Option SignedObj :=
  let len := leNat (slice b 16 4)
  let kind := leNat (slice b 6 2)
  let rb := leNat (slice b 8 4)
  if 192 ≤ b.length ∧ b.take 4 = [0x4B, 0x53, 0x49, 0x47] ∧ leNat (slice b 4 2) = 1 ∧ leNat (slice b 12 4) = 0 ∧ 1 ≤ len ∧ 192 + len ≤ b.length ∧
      (slice b 20 12).all (fun x => x == 0) ∧ rb ≤ 64 ∧ (3 < kind → rb = 0) then
    some { kind := kind, rollback := rb, signer := slice b 32 64, digest := slice b 96 32, head := b.take 128, sign := slice b 128 64, body := slice b 192 len }
  else none

/-- Bytes of an object, header and body. -/
def SignedObj.size (o : SignedObj) : Nat := 192 + o.body.length

/-- Whether digest and signature verify (R475). -/
def SignedObj.good (o : SignedObj) : Bool := o.digest == digestBytes (sm3 o.body) && sm2Verify o.signer o.head o.sign

/-- A key certificate: certified key, serial and usage (R476). -/
def SignedObj.certKey (o : SignedObj) : List Byte := o.body.take 64
def SignedObj.certSerial (o : SignedObj) : Nat := leNat (slice o.body 64 4)
def SignedObj.certUsage (o : SignedObj) : Nat := leNat (slice o.body 68 4)

/-- Whether the serial of a certificate is revoked (R474, R476). -/
def State.serialRevoked (s : State) (n : Nat) : Bool := bitOf s.secu.keyRev n

/-- The code with which a key certificate is refused for usage bit `u`; 0 where it is valid (R476, R484). -/
def State.certCode (s : State) (o : SignedObj) (u : Nat) : Nat :=
  if o.kind ≠ 7 ∨ o.body.length ≠ 96 ∨ 31 < o.certSerial ∨ (slice o.body 72 24).any (fun x => x != 0) then 0xD
  else if s.serialRevoked o.certSerial then 0x1C03
  else if digestBytes (sm3 o.signer) ≠ digestBytes s.secu.rootDigest ∨ !o.good ∨ !bitOf o.certUsage u then 0xD
  else 0

/-- The owner slot whose digest a public key has, enrolled (R474). -/
def State.ownerOf (s : State) (key : List Byte) : Option Nat :=
  s.secu.owners.findIdx? (fun o => o.enrolled && digestBytes o.digest == digestBytes (sm3 key))
def State.owner (s : State) (i : Nat) : Owner := s.secu.owners.getD i { digest := 0, enrolled := false, revoked := false }
/-- Whether a public key is an owner's, enrolled and not revoked. -/
def State.ownerOk (s : State) (key : List Byte) : Bool := match s.ownerOf key with | some i => !(s.owner i).revoked | none => false

/-- Largest body of an image kind (R477). -/
def bodyMax (k : Nat) : Nat := if k = 0 then 2 ^ 20 else if k = 1 then 2 ^ 24 - 192 else 2 ^ 19
/-- Bytes of a slot of an image kind (R477). -/
def slotSize (k : Nat) : Nat := if k = 0 then 2 ^ 21 else if k = 1 then 2 ^ 24 else 2 ^ 20

/-- Where a slot lies in the boot flash: MG A, MG B, CPX A, CPX B, CAL A, CAL B (R477). -/
def slotOffset (i : Nat) : Nat := [0x200000, 0x400000, 0x800000, 0x1800000, 0x2800000, 0x2900000].getD i 0

/-- The image object in the bytes of a slot: an MG slot opens with its key certificate (R477). -/
def slotImage (k : Nat) (b : List Byte) : Option (Option SignedObj × SignedObj) :=
  if k = 0 then match parseObj b with
    | some c => (parseObj (b.drop c.size)).map (fun i => (some c, i))
    | none => none
  else (parseObj b).map (fun i => (none, i))

/-- Verify an image of kind index `k` (0 MG, 1 CPX, 2 CAL): the code in the order of R484, and the image (R479, R480). -/
def State.verifyImage (s : State) (k : Nat) (b : List Byte) : Nat × Option SignedObj :=
  match slotImage k b with
  | none => (if k = 0 ∧ (parseObj b).any (fun o => o.kind == 2 || o.kind == 3) then 0x1C04 else 0xD, none)
  | some (cert, i) =>
    if i.kind ≠ k + 1 ∨ bodyMax k < i.body.length then (0x1C04, none)
    else if !s.secu.secureBoot then (0, some i)
    else
      let key := match cert with
        | some c => let r := s.certCode c 0; if r ≠ 0 then r else if c.certKey = i.signer then 0 else 0xD
        | none => match s.ownerOf i.signer with
          | some o => if (s.owner o).revoked then 0x1C03 else 0
          | none => 0x1C01
      if key ≠ 0 then (key, none)
      else if !i.good then (0xD, none)
      else if i.rollback < s.secu.arb.getD k 0 then (0xE, none)
      else (0, some i)

/-! ### The boot record (R478, R485) -/

def bootDefault : BootRec := { gen := 0, kinds := List.replicate 3 { slot := 0, trial := false, tries := 0 } }

/-- The bytes of a boot record before its CRC (R478; log entry 93). -/
def BootRec.bytes (r : BootRec) : List Byte :=
  leBytes 8 r.gen ++ r.kinds.flatMap (fun k => [BitVec.ofNat 8 k.slot, if k.trial then 1 else 0, BitVec.ofNat 8 k.tries, 0])

/-- The record of a copy, where its CRC holds (R478). -/
def State.bootCopy (s : State) (i : Nat) : Option BootRec :=
  (s.secu.boots.getD i none).bind (fun c => if c.crc = crc32c c.data.bytes then some c.data else none)

/-- The record that the flash holds: the valid copy of higher generation (R478). -/
def State.bootStored (s : State) : BootRec :=
  match s.bootCopy 0, s.bootCopy 1 with
  | some a, some b => if a.gen < b.gen then b else a
  | some a, none => a
  | none, some b => b
  | none, none => bootDefault

/-- The boot record in force: one that waits to be written counts. -/
def State.boot (s : State) : BootRec := s.secu.bootDue.getD s.bootStored

def BootRec.kind (r : BootRec) (k : Nat) : BootKind := r.kinds.getD k { slot := 0, trial := false, tries := 0 }
def BootRec.setKind (r : BootRec) (k : Nat) (x : BootKind) : BootRec := { r with kinds := r.kinds.set k x }

/-- A record takes a kind on trial back to its other slot (R485). -/
def BootRec.reverts (old new : BootRec) (k : Nat) : Bool := (old.kind k).trial && !(new.kind k).trial && (new.kind k).slot != (old.kind k).slot

/-- SEC_TRIAL_REVERT for each kind that a record written takes back (R485). -/
def State.revertEvents (s : State) (old new : BootRec) : State :=
  (List.range 3).foldl (fun s k => if old.reverts new k then (s.raise 0x1C0000 3).logIt 0x1C00 (evt 0 3) 2 [BitVec.ofNat 8 k] else s) s

/-- Put a boot record into the older copy, with the next generation and its CRC (R477, R478). -/
def State.bootPut (s : State) (r : BootRec) : State :=
  let g := fun (i : Nat) => match s.bootCopy i with | some x => x.gen + 1 | none => 0
  let i := if g 0 ≤ g 1 then 0 else 1
  let new := { r with gen := max (g 0) (g 1) }
  let c := crc32c new.bytes
  let s' : State := { s with secu := { s.secu with boots := s.secu.boots.set i (some { data := new, crc := c }), bootDue := none } }
  (s'.emit (.flash (0x10000 * i) (new.bytes ++ leBytes 4 c))).revertEvents s.bootStored new

/-- Write a boot record: a persistent store, which waits for the hold-up measurement at start (R474, R485). True where it has been or
will be written. -/
def State.bootWrite (s : State) (r : BootRec) : State × Bool :=
  if !s.pwr.measured then ({ s with secu := { s.secu with bootDue := some r } }, true)
  else if s.storeOk 2 then (s.bootPut r, true) else (s.refuseStore, false)

/-- 256 bits of the random source of the security engine (R482; log entry 6). -/
def State.draw256 (s : State) : Nat × State :=
  let (a, s) := s.draw
  let (b, s) := s.draw
  let (c, s) := s.draw
  let (d, s) := s.draw
  (a % 2 ^ 64 + b % 2 ^ 64 * 2 ^ 64 + c % 2 ^ 64 * 2 ^ 128 + d % 2 ^ 64 * 2 ^ 192, s)

/-- The identity key pair is generated at the first start in MANUFACTURE, and written into OTP where the store may start (R473, R474). -/
def State.identityStart (s : State) : State :=
  if s.secu.lifecycle = 0 ∧ s.secu.identity = [] then
    if s.storeOk 2 then
      let (v, s) := s.draw256
      let d := 1 + v % (sm2N - 2)
      { s with secu := { s.secu with identity := sm2Public d, idKey := d, identityOk := true } }
    else s.refuseStore
  else s

/-- The hold-up bank has been measured and Marigold runs: a boot record that has waited is written, or refused (R33, R485), and an identity
key that is still to be generated follows. -/
def State.bootFlush (s : State) : State :=
  if !s.pwr.measured || s.mgt.restarting then s
  else
    let s := match s.secu.bootDue with
      | none => s
      | some r => if s.storeOk 2 then s.bootPut r else { s.refuseStore with secu := { s.refuseStore.secu with bootDue := none } }
    s.identityStart

/-- A start of a kind (R485): TRIES counts, and the third try reverts; a refused write leaves both as they are. -/
def State.trialStart (s : State) (k : Nat) : State :=
  let r := s.boot
  let b := r.kind k
  if !b.trial then s
  else if 3 ≤ b.tries + 1 then (s.bootWrite (r.setKind k { slot := 1 - b.slot, trial := false, tries := 0 })).1
  else (s.bootWrite (r.setKind k { b with tries := b.tries + 1 })).1

/-- The image of a kind that starts: from the slot in force, or from the other, with the slot's code (R479, R480). -/
def State.bootImage (s : State) (k : Nat) : Option (SignedObj × Bool) × Nat :=
  let slot := (s.boot.kind k).slot
  match s.verifyImage k (s.secu.slots.getD (2 * k + slot) []) with
  | (_, some i) => (some (i, false), 0)
  | (c, none) => match s.verifyImage k (s.secu.slots.getD (2 * k + (1 - slot)) []) with
    | (_, some i) => (some (i, true), 0)
    | (_, none) => (none, c)

/-- An image of a kind runs. -/
def State.runImage (s : State) (k : Nat) (i : SignedObj) (fallback : Bool) : State :=
  { s with secu := { s.secu with images := s.secu.images.set k (some { rollback := i.rollback, digest := sm3 i.body }),
                                 fallbacks := s.secu.fallbacks.set k fallback } }

/-! ### The certified configuration (R487) -/

/-- SEC_CERTIFIED without IN_CONFIG: bits [8:1]. -/
def State.reasons (s : State) : Nat :=
  let x := s.secu
  let b := fun (c : Bool) (i : Nat) => if c then 2 ^ i else 0
  b (x.lifecycle != 1) 1 + b (!x.secureBoot) 2 + b x.unlocked 3 + b (x.kat.any (fun k => !k)) 4 + b x.recovered 5 + b (!x.cpxOk) 6 +
    b (!x.owners.any (fun o => o.enrolled && !o.revoked)) 7 + b x.plain 8

/-- SEC_CERT_CHANGE where IN_CONFIG has changed since `old` (R487). -/
def State.certCheck (s old : State) : State :=
  if (s.reasons == 0) = (old.reasons == 0) then s else (s.raise 0x1C0000 5).logIt 0x1C00 (evt 0 5) 1 []

/-! ### The mailbox (R444, R445, R482) -/

/-- The buffer address of channel `c`. -/
def State.mbAddr (s : State) (c : Nat) : Nat := s.addr64 (Reg.mgtMbAddrLo c) (Reg.mgtMbAddrHi c)

/-- The request of channel `c`: from DRAM, or for channel 1 the bytes `host` read by DMA (R444). -/
def State.mbRequest (s : State) (c : Nat) (host : List Byte) : Option (List Byte) :=
  let n := s.fld (Reg.mgtMbLen c) 15 0
  if c = 0 then s.dramRead (s.mbAddr 0) n else if host.length = n then some host else none

/-- Whether a request of channel `c` waits for Marigold. -/
def State.mbBusy (s : State) (c : Nat) : Bool := decide (c < 2) && s.flag (Reg.mgtMbCtrl c) 1 && s.mgt.running && !s.mgt.restarting

/-- The end of a request: the response, STATUS, DONE (R444). -/
def State.mbEnd (s : State) (c code : Nat) (resp : List Byte) : State :=
  let s := if resp = [] then s else if c = 0 then s.dramWrite (s.mbAddr 0) resp else s.emit (.hostWrite (s.mbAddr 1) resp)
  let s := s.wr (Reg.mgtMbStatus c) (code % 65536 + resp.length % 65536 * 65536)
  ((s.setFlag (Reg.mgtMbCtrl c) 1 false).setFlag (Reg.mgtMbCtrl c) 2 true).raise 0x180000 c

/-- What a service answers: an outcome code, a response, and the state it leaves. -/
abbrev Served := Nat × List Byte × State

/-- End a request with what its service answers; a response that does not fit ends it without the service's effect (R444). -/
def State.mbServe (s : State) (c : Nat) (r : Served) : State :=
  if r.1 = 0 ∧ s.fld (Reg.mgtMbRlen c) 15 0 < r.2.1.length then s.mbEnd c 0x1803 []
  else r.2.2.mbEnd c r.1 (if r.1 = 0 then r.2.1 else [])

/-- An unsigned service. -/
def State.openService (s : State) (c : Nat) (host : List Byte) (svc : Nat) (run : State → List Byte → Served) : State :=
  if s.mbBusy c then
    match s.mbRequest c host with
    | some b => if leNat (b.take 4) = svc then s.mbServe c (run s b) else s
    | none => s
  else s

/-- The envelope checks 1 to 4 of R482. -/
def State.envelope (s : State) (c : Nat) (b : List Byte) (plen : Nat → Bool) : Nat :=
  let n := leNat (slice b 4 4)
  if n % 4 ≠ 0 ∨ b.length ≠ 168 + n ∨ !plen n then 1
  else if leNat (slice b 32 8) ≠ deviceSerial ∨ slice b 8 16 ≠ s.secu.nonce ∨ leNat (slice b 24 8) ≤ s.secu.seqs.getD c 0 then 0x1C02
  else 0

/-- A signed service (R482): `signer` is the check of step 5 (0 where it passes). -/
def State.signedService (s : State) (c : Nat) (host : List Byte) (svc : Nat) (plen : Nat → Bool)
    (signer : State → List Byte → List Byte → Nat) (run : State → List Byte → List Byte → Served) : State :=
  if s.mbBusy c then
    match s.mbRequest c host with
    | none => s
    | some b =>
      if leNat (b.take 4) ≠ svc then s
      else
        let n := leNat (slice b 4 4)
        let key := slice b 40 64
        let params := slice b 104 n
        let e := s.envelope c b plen
        if e = 0x1C02 then ((s.add (Reg.secStat 1) 1).raise 0x1C0000 1).mbEnd c e []
        else if e ≠ 0 then s.mbEnd c e []
        else
          let k := signer s key params
          if k ≠ 0 then s.mbEnd c k []
          else if !sm2Verify key (b.take (104 + n)) (slice b (104 + n) 64) then ((s.add (Reg.secStat 0) 1).raise 0x1C0000 0).mbEnd c 0xD []
          else
            let s := { s with secu := { s.secu with seqs := s.secu.seqs.set c (leNat (slice b 24 8)) } }
            s.mbServe c (run s key params)
  else s

/-- Step 5 for the services signed by an owner key. -/
def ownerSigner (s : State) (key _ : List Byte) : Nat := if s.ownerOk key then 0 else 0x1C01

/-- A service refused with a code, without effect. -/
def State.no (s : State) (code : Nat) : Served := (code, [], s)
/-- A service done without a response. -/
def State.ok (s : State) : Served := (0, [], s)

/-- STATUS (R445): version, uptime in seconds and restart count, three words (log entry 36). A request whose code no row serves,
or whose buffer cannot be read, is ended here (R444, R445). -/
def State.svcStatusReq (s : State) (c : Nat) (host : List Byte) (listed : List Nat) : State :=
  if s.mbBusy c then
    match s.mbRequest c host with
    | none => s.mbEnd c 0x1803 []
    | some b =>
      let v := leNat (b.take 4)
      if v = 1 then
        s.mbServe c (0, leBytes 4 (s.fld Reg.mgtMgStatus 15 0) ++ leBytes 4 ((s.now - s.mgt.startedAt) / sec) ++ leBytes 4 (s.fld Reg.mgtMgStatus 23 16), s)
      else if listed.contains v then s else s.mbEnd c 0x1802 []
  else s

/-- The entries of the log with their SEQ and CHAIN, staged ones included (R507). -/
def State.logAll (s : State) : List (Nat × LogEntry × BitVec 256) :=
  let r := s.log.staged.foldl (fun (a : List (Nat × LogEntry × BitVec 256) × Nat × BitVec 256) e =>
    let ch := sm3 (digestBytes a.2.2 ++ e.bytes a.2.1)
    (a.1 ++ [(a.2.1, e, ch)], a.2.1 + 1, ch)) (s.log.flash, s.log.nextSeq, s.headChain)
  r.1

/-- LOG_READ (R507). -/
def State.svcLogRead (s : State) (b : List Byte) : Served :=
  let first := leNat (slice b 4 8)
  let mx := leNat (slice b 12 4)
  if b.length < 16 then s.no 1
  else if mx = 0 then s.no 2
  else if 512 < mx then s.no 1
  else
    let l := s.logAll
    let oldest := ((l.head?).map (fun e => e.1)).getD 0
    let got := (l.filter (fun e => decide (max first oldest ≤ e.1))).take mx
    let head := ((l.getLast?).map (fun e => e.1)).getD 0
    let chain := ((l.getLast?).map (fun e => e.2.2)).getD s.headChain
    (0, leBytes 8 oldest ++ leBytes 8 head ++ digestBytes chain ++ leBytes 4 got.length ++ leBytes 4 0 ++
      got.flatMap (fun e => e.2.1.bytes e.1 ++ digestBytes e.2.2), s)

/-- DOMAIN (R447): domain index and 1 on or 0 off; `answers` is whether its regulator answers. -/
def State.svcDomain (s : State) (answers : Bool) (p : List Byte) : Served :=
  let d := leNat (slice p 0 4)
  let on := leNat (slice p 4 4)
  if 34 < d ∨ 1 < on then s.no 1
  else
    let c := firstCode (s.domainCodes d (on == 1))
    if c ≠ 0 then s.no c
    else if !answers then (0x1902, [], (s.raise 0x190000 4).add (Reg.pwrStat 3) 1)
    else (if on = 1 then s.domainOn d else s.domainOff d).ok

/-! ### Updates (R483-R485) -/

/-- UPDATE_BEGIN. -/
def State.svcUpdateBegin (s : State) (key p : List Byte) : Served :=
  let k := leNat (slice p 0 4)
  let n := leNat (slice p 4 4)
  if s.secu.update.isSome then s.no 9
  else if k = 0 ∨ 3 < k ∨ slotSize (k - 1) < n then s.no 1
  else if n = 0 then s.no 2
  else if (s.boot.kind (k - 1)).trial then s.no 0xF
  else
    let i := 2 * (k - 1) + (1 - (s.boot.kind (k - 1)).slot)
    let s : State := { s with secu := { s.secu with slots := s.secu.slots.set i [], update := some { kind := k, total := n, signer := key, parts := [] } } }
    (s.emit (.erase (slotOffset i) (slotSize (k - 1)))).ok

/-- Put bytes into a flash slot; erased flash reads as ones. -/
def flashPut (b : List Byte) (off : Nat) (d : List Byte) : List Byte :=
  let b := if b.length < off + d.length then b ++ List.replicate (off + d.length - b.length) 0xFF else b
  b.take off ++ d ++ b.drop (off + d.length)

/-- UPDATE_BLOCK: a persistent store, of an image block or of a calibration image (R463). -/
def State.svcUpdateBlock (s : State) (p : List Byte) : Served :=
  let off := leNat (slice p 0 4)
  let d := p.drop 4
  match s.secu.update with
  | none => s.no 0xF
  | some u =>
    if (u.total + 4095) / 4096 * 4096 < off + d.length ∨ u.parts.any (fun x => decide (off < x.1 + x.2 ∧ x.1 < off + d.length)) then s.no 0x1C04
    else if !s.storeOk (if u.kind = 3 then 1 else 2) then s.refuseStore.no 0xC
    else
      let i := 2 * (u.kind - 1) + (1 - (s.boot.kind (u.kind - 1)).slot)
      let s : State := { s with secu := { s.secu with slots := s.secu.slots.set i (flashPut (s.secu.slots.getD i []) off d),
                                                      update := some { u with parts := u.parts ++ [(off, d.length)] } } }
      (s.emit (.flash (slotOffset i + off) d)).ok

/-- UPDATE_END. -/
def State.svcUpdateEnd (s : State) : Served :=
  match s.secu.update with
  | none => s.no 0xF
  | some u =>
    let k := u.kind - 1
    let b := s.boot.kind k
    let i := 1 - b.slot
    let s := { s with secu := { s.secu with update := none } }
    let r := s.verifyImage k ((s.secu.slots.getD (2 * k + i) []).take u.total)
    if !s.ownerOk u.signer then s.no 0x1C01
    else if r.1 ≠ 0 then
      (r.1, [], if r.1 = 0xD then (s.add (Reg.secStat 0) 1).raise 0x1C0000 0 else if r.1 = 0xE then s.add (Reg.secStat 2) 1 else s)
    else match s.bootWrite (s.boot.setKind k { slot := i, trial := true, tries := 0 }) with
      | (s, true) => (s.raise 0x1C0000 2).ok
      | (s, false) => s.no 0xC

/-! ### Calibration images (R464-R466, R470) -/

/-- Whether a record's KIND, INDEX and LEN are those of a kind that R464 lists. -/
def calKindOk (kind index len : Nat) : Bool :=
  (kind == 1 && decide (index < 84) && len == 12) || (kind == 2 && decide (index < 12) && len == 1536) || (kind == 3 && index == 0 && len == 132) ||
  (kind == 4 && decide (index < 8) && len == 20)

/-- Records of a set: kind, index and data of each good one, and how many are bad (R464). -/
def calRecords : Nat → List Byte → Option (List (Nat × Nat × List Byte) × Nat)
  | 0, _ => some ([], 0)
  | n + 1, b =>
    let len := leNat (slice b 4 4)
    if b.length < 12 + len then none
    else
      let good := leNat (slice b (8 + len) 4) == crc32c (b.take (8 + len)) && leNat (slice b 2 2) == 0 &&
        calKindOk (leNat (slice b 0 1)) (leNat (slice b 1 1)) len
      match calRecords n (b.drop (12 + len)) with
      | none => none
      | some (l, bad) => if good then some ((leNat (slice b 0 1), leNat (slice b 1 1), slice b 8 len) :: l, bad) else some (l, bad + 1)

/-- Words of a record. -/
def wordsLe (b : List Byte) : List Nat := (List.range (b.length / 4)).map (fun i => leNat (slice b (4 * i) 4))

/-- One set from its records. -/
def calSet (temp : Int) (l : List (Nat × Nat × List Byte)) : CalSet :=
  let of := fun (k : Nat) => l.filterMap (fun r => if r.1 = k then some (r.2.1, wordsLe r.2.2) else none)
  { temp := temp, lanes := of 1, dram := of 2, xo := ((of 3).head?).map (fun x => x.2), sens := of 4 }

/-- Read a calibration image: the code, its sets and the bad records (R464). -/
def State.calParse (s : State) (b : List Byte) : Nat × List CalSet × Nat :=
  let n := leNat (slice b 6 2)
  if b.length < 32 ∨ b.take 4 ≠ [0x4B, 0x43, 0x41, 0x4C] ∨ leNat (slice b 4 2) ≠ 1 ∨ n = 0 ∨ 8 < n ∨ leNat (slice b 16 4) ≠ b.length ∨
      (slice b 20 8).any (fun x => x != 0) ∨ leNat (slice b 28 4) ≠ crc32c (b.take 28) then (0x1B01, [], 0)
  else if leNat (slice b 8 8) ≠ deviceSerial then (0x1B02, [], 0)
  else
    let sets := (List.range n).map (fun i =>
      let e := slice b (32 + 16 * i) 16
      if b.length < leNat (slice e 4 4) + leNat (slice e 8 4) ∨ (slice e 1 3).any (fun x => x != 0) then none
      else (calRecords (leNat (slice e 12 4)) (slice b (leNat (slice e 4 4)) (leNat (slice e 8 4)))).map
        (fun r => (calSet (signedBits (leNat (slice e 0 1)) 8) r.1, r.2)))
    if sets.any Option.isNone then (0x1B01, [], 0)
    else (0, sets.filterMap (fun x => x.map (fun r => r.1)), (sets.map (fun x => (x.map (fun r => r.2)).getD 0)).sum)

/-- Show the sets in force (R470). -/
def State.calShow (s : State) (slot code : Nat) (loaded : Bool) : State :=
  let valid := ((List.range 8).map (fun i => if (s.cal.getD i none).isSome then 2 ^ i else 0)).sum
  let t := fun (i : Nat) => match s.cal.getD i none with | some c => toBits 8 c.temp | none => 0
  let s1 := s.wr Reg.calStatus (valid + (if loaded then 256 else 0) + slot * 512 + code * 65536)
  (s1.wr Reg.calTemp0 ((List.range 4).map (fun i => t i * 2 ^ (8 * i))).sum).wr Reg.calTemp1 ((List.range 4).map (fun i => t (4 + i) * 2 ^ (8 * i))).sum

/-- Load the calibration image in force (R464, R480). -/
def State.calLoad (s : State) : State :=
  let slot := (s.boot.kind 2).slot
  match s.bootImage 2 with
  | (none, code) =>
    (({ s with cal := List.replicate 8 none }.calShow slot code false).add (Reg.calStat 1) 1).raise 0x1B0000 1
  | (some (i, fb), _) =>
    let s := s.runImage 2 i fb
    let slot := if fb then 1 - slot else slot
    let r := s.calParse i.body
    if r.1 ≠ 0 then (({ s with cal := List.replicate 8 none }.calShow slot r.1 false).add (Reg.calStat 1) 1).raise 0x1B0000 1
    else
      let s := { s with cal := (List.range 8).map (fun j => r.2.1[j]?) }
      (((s.calShow slot 0 true).add (Reg.calStat 0) 1).add (Reg.calStat 2) r.2.2).raise 0x1B0000 0

/-- A record of an image (R464). -/
def calRecord (kind index : Nat) (data : List Byte) : List Byte :=
  let h := leBytes 1 kind ++ leBytes 1 index ++ [0, 0] ++ leBytes 4 data.length ++ data
  h ++ leBytes 4 (crc32c h)

/-- The records of a set. -/
def CalSet.records (c : CalSet) : List (List Byte) :=
  c.lanes.map (fun r => calRecord 1 r.1 (wordBytes r.2)) ++ c.dram.map (fun r => calRecord 2 r.1 (wordBytes r.2)) ++
    (match c.xo with | some w => [calRecord 3 0 (wordBytes w)] | none => []) ++ c.sens.map (fun r => calRecord 4 r.1 (wordBytes r.2))

/-- A calibration image of a list of sets (R464). -/
def State.calImage (s : State) (l : List CalSet) : List Byte :=
  let bodies := l.map (fun c => c.records.flatten)
  let base := 32 + 16 * l.length
  let starts := (List.range l.length).map (fun i => base + ((bodies.take i).map List.length).sum)
  let entries := (List.range l.length).flatMap (fun i =>
    let c := l.getD i { temp := 0, lanes := [], dram := [], xo := none, sens := [] }
    leBytes 1 (toBits 8 c.temp) ++ [0, 0, 0] ++ leBytes 4 (starts.getD i 0) ++ leBytes 4 (bodies.getD i []).length ++ leBytes 4 c.records.length)
  let total := base + (bodies.map List.length).sum
  let h := [0x4B, 0x43, 0x41, 0x4C] ++ leBytes 2 1 ++ leBytes 2 l.length ++ serialBytes ++ leBytes 4 total ++ List.replicate 8 0
  h ++ leBytes 4 (crc32c h) ++ entries ++ bodies.flatten

/-- The set of the values in force (R466), at the mean of the valid main-die sensors in whole °C. -/
def State.calNow (s : State) : CalSet :=
  let v := (List.range 48).filterMap (fun n => let w := s.rd (Reg.thmCh n); if bitOf w 16 && (!bitOf w 17 || bitOf w 18) then some (signedBits (bitsOf w 15 0) 16) else none)
  { temp := rnd0 v.sum (16 * max v.length 1),
    lanes := (List.range 84).map (fun n => (n, s.eqNow n)),
    dram := (List.range 12).filterMap (fun c => if s.chanUsable c then some (c, (s.chan c).record) else none),
    xo := some (s.rd Reg.timXoValid :: (List.range 32).map (fun i => s.rd (Reg.timXoBin i))),
    sens := (List.range 8).map (fun k => (k, (List.range 5).map (fun i => s.rd (0xC0200 + 0x14 * k + 4 * i)))) }

/-- CAL_CAPTURE (R466): the parameters are the address of the DRAM buffer (log entry 37). -/
def State.svcCalCapture (s : State) (p : List Byte) : Served :=
  let a := leNat (slice p 0 8)
  let new := s.calNow
  let old := s.cal.filterMap id
  let rest := old.filter (fun c => decide (2 < (c.temp - new.temp).natAbs))
  let fin := fun (s : State) (code : Nat) => (s.wr Reg.calCapStat (1 + code * 65536)).raise 0x1B0000 2
  if 8 ≤ rest.length then (7, [], fin s 7)
  else
    let img := s.calImage (rest ++ [new])
    if s.dramOk a img.length then (fin (s.dramWrite a img) 0).ok else (0x1803, [], fin s 0x1803)

/-! ### Starting images (R480, R485, R443, R467) -/

/-- The control complex restarts (R33, R467). -/
def State.cpxRestart (s : State) : State :=
  let s := { s with mgt := { s.mgt with cpxRun := false, cpxRestart := some s.now } }
  ((s.setFld Reg.mgtCpxStatus 1 0 1).addSat Reg.mgtCpxStatus 15 8 1).raise 0x180000 2

/-- CPX_IMAGE_RELEASE (R480): the image is verified and the control complex released, or it stays in reset. -/
def State.cpxRelease (s : State) : State :=
  if s.mgt.running ∧ !s.mgt.restarting ∧ s.domOn 2 ∧ (s.pwr.step = 8 ∨ s.mgt.cpxRestart.isSome) then
    let s := s.trialStart 1
    let r := s.bootImage 1
    let s := { s with pwr := { s.pwr with step := if s.pwr.step = 8 then 9 else s.pwr.step } }
    let s := { s with mgt := { s.mgt with cpxRestart := none } }.setFlag Reg.mgtCpxCtrl 0 false
    match r.1 with
    | some (i, fb) =>
      let s := s.runImage 1 i fb
      { s with secu := { s.secu with cpxOk := true }, mgt := { s.mgt with cpxRun := true, kickAt := s.now } }.setFld Reg.mgtCpxStatus 1 0 0
    | none => ({ s with secu := { s.secu with cpxOk := false } }.add (Reg.secStat 0) 1).raise 0x1C0000 0
  else s

/-- Marigold restarts (R443): READY falls, requests taken end with RESTARTED, and the MGT domain is off until it is back (R28); the
words of its pages stay (log entry 160). -/
def State.mgRestart (s : State) : State :=
  if s.mgt.running ∧ !s.mgt.restarting then
    let s := (List.range 2).foldl (fun s c => if s.flag (Reg.mgtMbCtrl c) 1 then s.mbEnd c 0x1804 [] else s) s
    let s := { s with mgt := { s.mgt with restarting := true }, secu := { s.secu with update := none } }
    (((s.setFlag Reg.mgtMgStatus 24 false).addSat Reg.mgtMgStatus 23 16 1).raise 0x180000 3).setDomStat 1 false
  else s

/-- Draw sixteen bytes of nonce (R482). -/
def State.newNonce (s : State) : State :=
  let (a, s) := s.draw
  let (b, s) := s.draw
  { s with secu := { s.secu with nonce := leBytes 8 a ++ leBytes 8 b, seqs := [0, 0] } }

/-- Marigold runs an MG image: version, READY, nonce (R467, R482). The version word of an image is not stated: a free value. -/
def State.mgStarted (s : State) : State :=
  let (v, s) := s.draw
  let s := { s.newNonce with mgt := { s.newNonce.mgt with running := true, restarting := false, startedAt := s.now } }
  ((s.setFld Reg.mgtMgStatus 15 0 v).setFlag Reg.mgtMgStatus 24 true).setDomStat 1 true

/-- Recovery: the ROM waits for an image, and the HEP domain is powered (R481). -/
def State.enterRecovery (s : State) : State :=
  { (s.setDomReq 31 true).setDomStat 31 true with secu := { s.secu with recovery := true, rcv := [] } }

/-- In recovery the HEP domain alone is powered: the others go off once the panel is OFF (R481; log entry 194). -/
def State.recoveryDomains (s : State) : State :=
  if s.secu.recovery && s.panel == 0 then ((startOrder.reverse ++ [3]).filter (fun d => d != 31)).foldl State.domainOff s else s

/-- Marigold finds no image at a restart: recovery, from which the start-up goes on anew (R479, R481). -/
def State.recoverAgain (s : State) : State :=
  let s := s.enterRecovery.setDomStat 1 true
  let s : State := { s with mgt := { s.mgt with running := false }, pwr := { s.pwr with step := 1 } }
  s.discharge.recoveryDomains

/-- An MG image from flash runs (R481, R487). -/
def State.fromFlash (s : State) : State := { s with secu := { s.secu with recovered := false } }

/-- The entries that the AON retention register has held are logged (R443). -/
def State.takeRetained (s : State) : State := s.log.retained.foldl State.stage { s with log := { s.log with retained := [] } }

/-- Marigold's restart is over. -/
def State.restartOver (s : State) : State := { s with mgt := { s.mgt with restarting := false } }

/-- MARIGOLD_READY (R443, R479): the ROM verifies the slot; held events are logged, and what has waited for Marigold goes on (R33). With
both slots bad it enters recovery (R481). -/
def State.mgReady (s : State) : State :=
  if s.mgt.running ∧ s.mgt.restarting then
    let s := s.restartOver.trialStart 0
    match s.bootImage 0 with
    | (some (i, fb), _) => (s.runImage 0 i fb).mgStarted.fromFlash.takeRetained.bootFlush.storesResume
    | (none, _) => s.recoverAgain
  else s

/-- ACTIVATE of a calibration image: it is loaded, and its sets apply from the next housekeeping round (R485). -/
def State.calActivate (s : State) : State :=
  let s' := (s.trialStart 2).calLoad
  { s' with cal := s.cal, calNext := some s'.cal }

/-- ACTIVATE (R485). -/
def State.svcActivate (s : State) (p : List Byte) : Served :=
  let k := leNat (slice p 0 4)
  if k = 1 then s.ok
  else if k = 2 then s.cpxRestart.ok
  else if k = 3 then s.calActivate.ok
  else s.no 1

/-- The kind whose activation restarts Marigold once the request has ended. -/
def activatesMg (s : State) (c : Nat) (host : List Byte) : Bool :=
  s.mbBusy c && (match s.mbRequest c host with | some b => leNat (b.take 4) == 0x33 && leNat (slice b 104 4) == 1 | none => false)

/-- COMMIT (R485): KIND and ADVANCE. -/
def State.svcCommit (s : State) (p : List Byte) : Served :=
  let k := leNat (slice p 0 4)
  let adv := leNat (slice p 4 4)
  if k = 0 ∨ 3 < k ∨ 1 < adv then s.no 1
  else match s.bootWrite (s.boot.setKind (k - 1) { (s.boot.kind (k - 1)) with trial := false }) with
    | (s, false) => s.no 0xC
    | (s, true) =>
      let rb := ((s.secu.images.getD (k - 1) none).map (fun i => i.rollback)).getD 0
      if adv = 1 ∧ s.secu.arb.getD (k - 1) 0 < rb then
        if s.storeOk 2 then { s with secu := { s.secu with arb := s.secu.arb.set (k - 1) rb } }.ok else s.refuseStore.no 0xC
      else s.ok

/-! ### Identity, attestation and keys (R473, R483, R486, R488-R490) -/

def State.lifecycleWord (s : State) : Nat :=
  let x := s.secu
  x.lifecycle + (if x.secureBoot then 256 else 0) + (if x.lifecycle ≠ 0 ∧ !x.unlocked then 512 else 0) + (if x.unlocked then 1024 else 0)
def State.certifiedWord (s : State) : Nat := s.reasons + (if s.reasons = 0 then 1 else 0)
def State.slotsWord (s : State) : Nat :=
  ((List.range 3).map (fun k => let b := s.boot.kind k
    (b.slot + (if b.trial then 2 else 0) + (if s.secu.fallbacks.getD k false then 4 else 0)) * 2 ^ (4 * k) + b.tries % 4 * 2 ^ (16 + 2 * k))).sum
def State.ownerWord (s : State) : Nat :=
  ((List.range 4).map (fun i => (if (s.owner i).enrolled then 2 ^ i else 0) + (if (s.owner i).revoked then 2 ^ (4 + i) else 0))).sum
def State.selftestWord (s : State) : Nat := ((List.range 4).map (fun i => if s.secu.kat.getD i false then 2 ^ i else 0)).sum

/-- The attestation report's body (R486). -/
def State.attestBody (s : State) (challenge : List Byte) : List Byte :=
  let img := fun (k : Nat) => s.secu.images.getD k none
  challenge ++ serialBytes ++ leBytes 8 s.ras.frame ++ timeBytes s.device ++ leBytes 4 s.lifecycleWord ++ leBytes 4 s.certifiedWord ++
    leBytes 4 s.slotsWord ++ (List.range 3).flatMap (fun k => leBytes 4 (s.secu.arb.getD k 0)) ++
    (List.range 3).flatMap (fun k => leBytes 4 (((img k).map (fun i => i.rollback)).getD 0)) ++
    (List.range 3).flatMap (fun k => match img k with | some i => digestBytes i.digest | none => List.replicate 32 0) ++
    (List.range 4).flatMap (fun i => digestBytes (s.owner i).digest) ++ leBytes 4 s.ownerWord ++ leBytes 4 s.selftestWord ++
    digestBytes (sm3 s.secu.identity) ++ List.replicate 88 0

/-- Bytes 0-127 of a signed object that is no image (R475). -/
def objHead (kind : Nat) (signer body : List Byte) : List Byte :=
  [0x4B, 0x53, 0x49, 0x47] ++ leBytes 2 1 ++ leBytes 2 kind ++ leBytes 4 0 ++ leBytes 4 0 ++ leBytes 4 body.length ++ List.replicate 12 0 ++
    signer ++ digestBytes (sm3 body)

/-- The device's signature, with a random number of its own (R472): one that the standard turns away is drawn anew, four times at most. -/
def State.sign (msg : List Byte) : Nat → State → List Byte × State
  | 0, s => (List.replicate 64 0, s)
  | n + 1, s =>
    match sm2Sign s.secu.idKey msg (1 + s.draw256.1 % (sm2N - 1)) with
    | some x => (x, s.draw256.2)
    | none => State.sign msg n s.draw256.2

/-- A KIND 5 object signed with the identity key (R475, R486). -/
def State.attestObj (s : State) (body : List Byte) : List Byte × State :=
  let h := objHead 5 s.secu.identity body
  let r := State.sign h 4 s
  (h ++ r.1 ++ body, r.2)

/-- The identity certificate's body: serial, part code, manufacture week and identity public key (R483). -/
def State.identityBody (s : State) : List Byte :=
  serialBytes ++ leBytes 4 0x4B4C1800 ++ leBytes 4 s.secu.week ++ s.secu.identity ++ List.replicate 48 0

/-- The identity certificate, a KIND 6 object, and the key certificate of its signer (R483). -/
def State.certs (s : State) : List Byte :=
  objHead 6 s.secu.idSigner s.identityBody ++ s.secu.idSign ++ s.identityBody ++ s.secu.mfgCert

/-- ATTEST (R486). -/
def State.svcAttest (s : State) (p : List Byte) : Served :=
  if !s.secu.identityOk then s.no 5
  else
    let r := s.attestObj (s.attestBody p)
    (0, r.1, r.2.add (Reg.secStat 4) 1)

/-- IDENTITY (R483). -/
def State.svcIdentity (s : State) : Served := if s.secu.identityOk then (0, s.certs, s) else s.no 5

/-- A session's key slot. -/
def State.setKey (s : State) (k slot : Nat) (x : KeySlot) : State :=
  s.setSess k { s.sess k with keys := (s.sess k).keys.set slot x }

/-- KEY_LOAD (R488). -/
def State.svcKeyLoad (s : State) (p : List Byte) : Served :=
  let k := leNat (slice p 0 1)
  let slot := leNat (slice p 1 1)
  if 63 < k ∨ 1 < slot ∨ (slice p 2 2).any (fun x => x != 0) ∨ (slice p 121 3).any (fun x => x != 0) then s.no 1
  else if !s.domOn 14 ∨ !s.secu.identityOk ∨ !s.secu.kat.all id then s.no 5
  else match sm2Decrypt s.secu.idKey (slice p 8 113) with
    | none => s.no 0x1C06
    | some key =>
      let gen := (s.fld (Reg.secKeygen k) (8 * slot + 7) (8 * slot) + 1) % 256
      let s := s.setSess k { s.sess k with newestSlot := slot }
      let s := s.setKey k slot { loaded := true, gen := gen, salt := slice p 4 4, key := key }
      let s := (s.setFld (Reg.secKeygen k) (8 * slot + 7) (8 * slot) gen).handleNow k
      (((s.raise 0x1C0000 4).raise 0x30000 7).add (Reg.secStat 3) 1).ok

/-- Clear a key slot; its generation stays (R483). -/
def State.clearKey (s : State) (k slot : Nat) : State :=
  let x := (s.sess k).keys.getD slot KeySlot.reset
  s.setKey k slot { KeySlot.reset with gen := x.gen }

/-- KEY_CLEAR (R483): session, slot and two zero bytes (log entry 37). -/
def State.svcKeyClear (s : State) (p : List Byte) : Served :=
  let k := leNat (slice p 0 1)
  let slot := leNat (slice p 1 1)
  if 63 < k ∨ 1 < slot then s.no 1 else if !s.domOn 14 then s.no 5 else ((s.clearKey k slot).raise 0x30000 7).ok

/-- Every key slot is cleared (R489, R490), which ING_KEY_SLOT tells (R165). -/
def State.clearKeys (s : State) : State := ((List.range 64).foldl (fun s k => (s.clearKey k 0).clearKey k 1) s).raise 0x30000 7

/-- OWNER_ENROL (R483): owner slot and public key. -/
def State.svcEnrol (s : State) (p : List Byte) : Served :=
  let i := leNat (slice p 0 4)
  if 3 < i then s.no 1
  else if (s.owner i).enrolled then s.no 6
  else if !s.storeOk 2 then s.refuseStore.no 0xC
  else { s with secu := { s.secu with owners := s.secu.owners.set i { digest := sm3 (slice p 4 64), enrolled := true, revoked := false } } }.ok

/-- Step 5 of OWNER_ENROL: an owner, or in MANUFACTURE the key being enrolled. -/
def enrolSigner (s : State) (key p : List Byte) : Nat := if s.ownerOk key ∨ (s.secu.lifecycle = 0 ∧ key = slice p 4 64) then 0 else 0x1C01

/-- OWNER_REVOKE (R483). -/
def State.svcRevoke (s : State) (p : List Byte) : Served :=
  let i := leNat (slice p 0 4)
  if 3 < i then s.no 1
  else if !(s.owner i).enrolled then s.no 6
  else if (List.range 4).all (fun j => j == i || !(s.owner j).enrolled || (s.owner j).revoked) then s.no 6
  else if !s.storeOk 2 then s.refuseStore.no 0xC
  else { s with secu := { s.secu with owners := s.secu.owners.set i { s.owner i with revoked := true } } }.ok

/-- Step 5 of OWNER_REVOKE: an owner other than the one revoked; the last owner's own request goes on to its CONFLICT. -/
def revokeSigner (s : State) (key p : List Byte) : Nat :=
  if !s.ownerOk key then 0x1C01
  else if s.ownerOf key = some (leNat (slice p 0 4)) ∧ (List.range 4).any (fun j => some j != s.ownerOf key && (s.owner j).enrolled && !(s.owner j).revoked) then 0x1C01
  else 0

/-- LIFECYCLE (R473). -/
def State.svcLifecycle (s : State) (p : List Byte) : Served :=
  let t := leNat (slice p 0 4)
  if 2 < t then s.no 1
  else if t ≤ s.secu.lifecycle ∨ (t = 1 ∧ !(s.owner 0).enrolled) then s.no 0xF
  else if !s.storeOk 2 then s.refuseStore.no 0xC
  else
    let s := { s with secu := { s.secu with lifecycle := t } }
    if t = 2 then { s.clearKeys with secu := { s.clearKeys.secu with identityOk := false, idKey := 0 } }.ok else s.ok

/-- Step 5 of TEST_UNLOCK: the certificate's key. -/
def unlockSigner (_ : State) (key p : List Byte) : Nat := match parseObj p with | some o => if o.certKey = key then 0 else 0x1C01 | none => 0x1C01

/-- TEST_UNLOCK (R490): in RETURNED a revoked serial does not matter. -/
def State.svcUnlock (s : State) (p : List Byte) : Served :=
  match parseObj p with
  | none => s.no 0xD
  | some o =>
    let c := if s.secu.lifecycle = 2 then { s with secu := { s.secu with keyRev := 0 } }.certCode o 2 else s.certCode o 2
    if s.secu.lifecycle = 0 then s.no 0xF
    else if c ≠ 0 then s.no c
    else { s.clearKeys with secu := { s.clearKeys.secu with unlocked := true } }.ok

/-! ### The test port (R490; log entry 195) -/

/-- The instructions of the IEEE 1149.1 port that the manual names, and the internal scan and debug chains behind it. -/
inductive Jtag where
  | idcode
  | bypass
  | samplePreload
  | extest
  | chains
  deriving DecidableEq, Repr

/-- What IDCODE shifts out. -/
def jtagIdcode : Word := 0x01800A5D

/-- Whether the port accepts an instruction in the device's lifecycle (R473, R490). -/
def State.jtagAccepts (s : State) : Jtag → Bool
  | .idcode | .bypass => true
  | .samplePreload | .extest => s.secu.lifecycle == 0 || s.secu.testMode
  | .chains => s.secu.lifecycle == 0 || s.secu.unlocked

/-! ### Registers of the MGT, CAL and SEC pages (R467, R470, R491) -/

/-- Checks of a write to the MGT page. -/
def State.mgtCheck (s : State) (who : Requester) (off data : Nat) : List Nat :=
  if 0x100 ≤ off ∧ off < 0x140 then
    let c := (off - 0x100) / 0x20
    let w := (off - 0x100) % 0x20
    codeIf (if c = 0 then who == .host else who == .controlComplex || who == .caravan) 0x1801 ++
    codeIf (s.flag (Reg.mgtMbCtrl c) 1 && (w < 0x10 || (w == 0x10 && bitOf data 0))) 9 ++
    codeIf (w == 0x10 && bitOf data 0 && s.mgt.restarting) 9
  else []

/-- What a write to the MGT page starts. -/
def State.mgtEffect (s : State) (off data : Nat) : State :=
  if off = 0x44 ∧ bitOf data 0 then s.cpxRestart
  else if off = 0x4C ∧ bitOf data 0 then { s with mgt := { s.mgt with kickAt := s.now } }
  else if (off = 0x110 ∨ off = 0x130) ∧ bitOf data 0 then s.setFlag (0x180000 + off) 1 true
  else s

/-- CPX_WATCHDOG_EXPIRE (R467). -/
def State.watchdog (s : State) : State :=
  let w := s.fld Reg.mgtCpxCtrl 31 16
  if s.mgt.cpxRun ∧ w ≠ 0 ∧ s.mgt.kickAt + w * ms ≤ s.now then s.cpxRestart.logIt 0x1800 (evt 0 2) 2 [] else s

/-- Checks of a write to the CAL page (R470). -/
def State.calCheck (s : State) (off data : Nat) : List Nat :=
  if off = 0x40 then codeIf (s.cal.getD (bitsOf data 2 0) none).isNone 0x1B03 else []

/-- Checks of a write to the SEC page (R481, R491). -/
def State.secCheck (s : State) (off data : Nat) : List Nat :=
  if off = 0x84 then codeIf (bitOf data 0 && s.flag Reg.secKatCtrl 0) 9
  else if off = 0x88 then codeIf (bitOf data 0 && !s.secu.recovery) 0xF
  else []

/-- RECOVERY_GO (R481): the pair written is verified under R479 and boots from SRAM. -/
def State.recoveryGo (s : State) : State :=
  let b := wordBytes s.secu.rcv.reverse
  let s := s.setFlag Reg.secRcvCtrl 0 false
  match s.verifyImage 0 b with
  | (_, some i) =>
    let s := s.setFld Reg.secRcvCtrl 31 16 0
    let s := { s with secu := { s.secu with recovery := false, recovered := true }, pwr := { s.pwr with step := max 2 s.pwr.step } }
    (s.runImage 0 i false).mgStarted
  | (c, none) => s.setFld Reg.secRcvCtrl 31 16 c

/-- What a write to the SEC page starts: where RESET_PTR and GO come together, the word count restarts first. -/
def State.secEffect (s : State) (off data : Nat) : State :=
  if off = 0x88 then
    let s : State := if bitOf data 1 then { s with secu := { s.secu with rcv := [] } } else s
    if bitOf data 0 then s.recoveryGo else s
  else if off = 0x8C then (if s.secu.recovery then { s with secu := { s.secu with rcv := data :: s.secu.rcv } } else s)
  else s

/-- SEC_KAT_DONE (R491). -/
def State.katDone (s : State) (res : List Bool) : State :=
  if s.flag Reg.secKatCtrl 0 ∧ res.length = 4 then
    let s := { s.setFlag Reg.secKatCtrl 0 false with secu := { s.secu with kat := res } }
    if res.all id then s else s.raise 0x1C0000 6
  else s

/-- Computed words of the SEC page. -/
def State.secRead (s : State) (off : Nat) : Option Nat :=
  let x := s.secu
  let dig := fun (l : List Byte) (i : Nat) => leNat (slice l (4 * i) 4)
  if off = 0x40 then some s.lifecycleWord
  else if off = 0x44 then some s.certifiedWord
  else if 0x48 ≤ off ∧ off < 0x58 then some (dig x.nonce ((off - 0x48) / 4))
  else if 0x58 ≤ off ∧ off < 0x68 then
    let i := (off - 0x58) / 4
    some (x.seqs.getD (i / 2) 0 / 2 ^ (32 * (i % 2)) % 2 ^ 32)
  else if 0x68 ≤ off ∧ off < 0x74 then some (x.arb.getD ((off - 0x68) / 4) 0)
  else if off = 0x74 then some s.slotsWord
  else if off = 0x78 then some s.ownerWord
  else if off = 0x7C then some x.keyRev
  else if off = 0x80 then some s.selftestWord
  else if 0x100 ≤ off ∧ off < 0x120 then some (if x.identity = [] then 0 else dig (digestBytes (sm3 x.identity)) ((off - 0x100) / 4))
  else if 0x120 ≤ off ∧ off < 0x180 then
    let k := (off - 0x120) / 32
    some (match x.images.getD k none with | some i => dig (digestBytes i.digest) ((off - 0x120) % 32 / 4) | none => 0)
  else none

end Sys2Proof.Machine
end

