-- ==== Sys2Proof/Machine/Startup.lean ====
section
/-! DEFINITION. Reset, start-up and shut-down (R461, R479-R481, R498-R501, R515-R520). -/

namespace Sys2Proof.Machine

/-! ### Reset (R461, R515, R516) -/

/-- The registers whose reset value is the device's own (R68). -/
def ownRegs : List Nat := [Reg.devRev, Reg.devSerialLo, Reg.devSerialHi]

/-- The levels that the device's outputs take in reset (R516). -/
def resetLevels : List Out :=
  (List.range 6).map (Out.rail · false) ++ [.dischEn false, .pin "HOLD_LOAD_EN" 0 false] ++ (List.range 4).map (Out.evtPin · false) ++
  [.pin "SHDN_DONE" 0 false] ++ (List.range 36).map (Out.lat · true) ++ (List.range 12).map (Out.pin "DMC_PWREN" · false) ++
  (List.range 12).map (Out.pin "DMC_RESET_N" · false) ++ (List.range 2).map (Out.pin "NVS_PWREN" · false) ++
  (List.range 2).map (Out.pin "NVS_PERST_N" · false) ++ [.ilkObs 0]

/-- The whole device is reset: OTP, the boot flash, the drives, the fitted DIMMs, the AON retention register, the levels of the
ILK_FORCE pins and of SHDN_REQ_N, and what has left the package stay. The outputs take their levels in reset (R516). -/
def State.powerOn (s : State) : State :=
  { State.reset with
    pending := s.pending, now := s.now, out := resetLevels.reverse ++ s.out, free := s.free, timAnchor := s.now, dimms := s.dimms,
    regs := s.regs.filter (fun e => ownRegs.contains e.1),
    log := { Log.reset with flash := s.log.flash, nextSeq := s.log.nextSeq, chain := s.log.chain, retained := s.log.retained },
    nvs := { Nvs.reset with segs := s.nvs.segs, nextNum := s.nvs.nextNum,
                            drives := s.nvs.drives.map (fun (d : Drive) => { d with ready := false, power := false, resets := 0, queues := [], initDue := false }) },
    pwr := { Pwr.reset with stopLog := s.pwr.stopLog, low := s.pwr.low },
    secu := { Sec.reset with lifecycle := s.secu.lifecycle, secureBoot := s.secu.secureBoot, rootDigest := s.secu.rootDigest,
                             macs := s.secu.macs, keyRev := s.secu.keyRev, owners := s.secu.owners, arb := s.secu.arb,
                             identity := s.secu.identity, idKey := s.secu.idKey, identityOk := s.secu.identityOk,
                             week := s.secu.week, idSigner := s.secu.idSigner, idSign := s.secu.idSign, mfgCert := s.secu.mfgCert,
                             slots := s.secu.slots, boots := s.secu.boots },
    fov := { Fov.reset with force := s.fov.force },
    svc := { Svc.reset with records := s.svc.records, usedUp := s.svc.usedUp, fused := s.svc.fused, failRun := s.svc.failRun } }

/-- PORST_ASSERT (R515): the discharge comes first where the panel is not OFF. -/
def State.porst (s : State) : State :=
  if s.panel = 0 then s.powerOn else { s.discharge with pwr := { s.discharge.pwr with porst := true } }

/-- What waits for the end of a discharge: a reset, the domains of a recovery, or the rest of an ordered stop (R461, R481, R515). -/
def State.afterDischarge (s : State) : State :=
  if s.panel ≠ 0 then s else if s.pwr.porst then s.powerOn else s.recoveryDomains.stopEnd

/-- HEP_PERST_N (R515): the endpoint's lanes lose their link; nothing else changes. -/
def State.hepReset (s : State) : State :=
  if s.domOn 31 then
    (List.range 4).foldl (fun s i => ((s.scanDrop (76 + i)).setLaneState (76 + i) 0).setFlag (Reg.lnkLStatus (76 + i)) 3 false) s
  else s

/-- RESTART_AFTER_STOP (R458, R461). -/
def State.restartAfterStop (s : State) : State :=
  match s.pwr.above with
  | some t => if s.pwr.stop ∧ !s.pwr.hot ∧ !s.mgt.running ∧ s.panel = 0 ∧ t + s.fld Reg.pwrSupTime 23 8 * ms ≤ s.now then s.powerOn else s
  | none => s

/-! ### The boot ROM (R479, R481) -/

/-- The grant after reset (R16, R33): path A, unless ILK_FORCE_B alone is asserted (R374). -/
def State.firstGrant (s : State) : State :=
  if s.fov.force.getD 1 false && !s.fov.force.getD 0 false then { s with fov := { s.fov with holder := 1 } }.emit (.ilkObs 1) else s

/-- RESET_RELEASE (R479): the arbiter grants, and the ROM starts. The arguments are the results of the known-answer tests and the level of
TEST_MODE. With TEST_MODE high in DEPLOYED or RETURNED the ROM boots nothing (R490). -/
def State.resetRelease (s : State) (kat : List Bool) (testMode : Bool) : State :=
  if s.pwr.step = 0 ∧ !s.mgt.running ∧ !s.secu.recovery ∧ !s.pwr.stop ∧ s.pwr.shdn = 0 ∧ !s.pwr.porst ∧ kat.length = 4 then
    let s := s.firstGrant
    let s : State := { s with secu := { s.secu with kat := kat, testMode := testMode }, pwr := { s.pwr with step := 1 } }
    if testMode && s.secu.lifecycle != 0 then s
    else if !(kat.take 3).all id then s.enterRecovery
    else
      let s := s.trialStart 0
      match s.bootImage 0 with
      | (none, _) => s.enterRecovery
      | (some (i, fb), _) =>
        let s := (s.runImage 0 i fb).mgStarted
        let s := (if s.log.nextSeq = 0 then s else s.logShow)
        let held := s.pwr.stopLog.toList ++ s.log.retained
        held.foldl State.stage { s with pwr := { s.pwr with step := 2, stopLog := none }, log := { s.log with retained := [] } }
  else s

/-! ### Start-up (R517, R519, R501) -/

/-- A unit starts a test of kind `k` at start. -/
def State.startTest (s : State) (k u : Nat) : State := { s.setUnit u 3 with svc := { s.svc with tests := s.svc.tests ++ [(u, k)] } }

/-- Step 6 (R501): with a usable record, entry tests and the record written back with USES one more; without one, full BIST. A
channel waits for its training and a drive slot for its drive. -/
def State.startTests (s : State) : State :=
  let units := (List.range 171).filter (fun u => s.unitState u == 2)
  match s.recordUsable with
  | some r =>
    let s := units.foldl (fun (s : State) u =>
      if r.results.getD u 4 ≠ 0 then s.setUnit u 4
      else if 119 ≤ u ∧ u < 131 then s
      else if 131 ≤ u ∧ u < 133 then s.setUnit u 5
      else s.startTest 2 u) (s.setFlag Reg.svcStatus 0 true)
    if s.storeOk 2 then s.recordWrite { r with uses := r.uses + 1 }
    else { s.refuseStore with svc := { s.refuseStore.svc with usedUp := true } }
  | none => units.foldl (State.startTest · 3) s

/-- Step 7: training of the channels that passed (R411, R412). -/
def State.startTraining (s : State) : State :=
  let l := (List.range 12).filter (fun c => s.unitState (119 + c) == 2)
  let s : State := { s with dmc := { s.dmc with trainFrom := s.now } }
  if l = [] then (s.setFlag Reg.dmcTrainStat 31 true).raise 0x14F000 0
  else l.foldl (fun (s : State) c => s.startTest 5 (119 + c)) s

def State.setStep (s : State) (k : Nat) : State := { s with pwr := { s.pwr with step := k } }

/-- An orderly shut-down begins: the backlight fades out (R520). -/
def State.shdnBegin (s : State) : State := { s.transFadeOut with pwr := { s.pwr with shdn := 1, shdnAt := s.now } }

/-- START_UP: the present step of R519 ends and the next begins. A shut-down that has been asked for before step 2 has ended begins
then (R520). -/
def State.startUp (s : State) : State :=
  if !s.mgt.running ∨ s.mgt.restarting ∨ s.pwr.stop ∨ s.pwr.shdn ≠ 0 then s
  else if s.pwr.low then s.shdnBegin
  else if s.pwr.step = 2 then (((s.trialStart 2).calLoad).setStep 4).regStart 0
  else if s.pwr.step = 4 then
    if s.pwr.regNext.isNone ∧ s.pwr.measured then
      (([3] ++ startOrder).filter (fun d => !s.pwr.dead.contains d)).foldl State.domainOn (s.setStep 5)
    else s
  else if s.pwr.step = 5 then (if s.pwr.ups = [] then (s.setStep 6).startTests else s)
  else if s.pwr.step = 6 then (if s.svc.tests.all (fun t => t.2 != 2 && t.2 != 3) then (s.setStep 7).startTraining else s)
  else if s.pwr.step = 7 then (if s.svc.tests.all (fun t => t.2 != 5) then s.setStep 8 else s)
  else s

/-! ### Orderly shut-down (R498, R500, R520) -/

/-- SHDN_REQ: SHDN_REQ_N has been low for 1 ms; taken once step 2 of start-up has ended. -/
def State.shdnReq (s : State) : State :=
  let s := { s with pwr := { s.pwr with low := true } }
  if 2 ≤ s.pwr.step ∧ s.pwr.shdn = 0 ∧ !s.pwr.stop ∧ s.mgt.running then s.shdnBegin else s

/-- Steps 3 and 4: egress and playback stop, drives are removed, the control complex is held in reset, and BIST starts. Tests that
run already complete, and their results count (R498). -/
def State.shdnTests (s : State) : State :=
  let s := (List.range 4).foldl State.playStop s
  let s := (List.range 2).foldl (fun (s : State) d => if (s.drive d).present then s.driveRemove d else s) s
  let s : State := { s with pwr := { s.pwr with shdn := 3 }, mgt := { s.mgt with cpxRun := false, cpxRestart := none } }
  let s := (List.range 173).foldl (fun (s : State) u => s.setFld (Reg.svcUnit u) 15 8 4) s
  if s.flag Reg.svcCtrl 0 then
    let run := s.svc.tests.filter (fun t => s.unitState t.1 == 3)
    { s with svc := { s.svc with tests := run, bist := (List.range 171).filter (fun u => s.unitState u != 5 && !s.fused u && run.all (fun t => t.1 != u)) } }.bistFill
  else s

/-- SHUTDOWN_BIST: after the fade the panel goes DOWN; once it is OFF, the drives are removed and the tests start (R498, R520). While
Marigold restarts nothing of it goes on (R33). -/
def State.shutdownBist (s : State) : State :=
  if s.pwr.stop ∨ s.mgt.restarting then s
  else if s.pwr.shdn = 1 then
    if (match s.bkl.fade with | some f => decide (f.stop ≤ s.now) | none => true) then
      if s.panel = 3 then { s.panelDown with pwr := { s.pwr with shdn := 2 } }
      else if s.panel = 0 then s.shdnTests else s
    else s
  else if s.pwr.shdn = 2 ∧ s.panel = 0 then s.shdnTests
  else s

/-- Results of the units in order: RESULT of the units tested, NOT_RUN of the others. -/
def State.shutResults (s : State) : List Nat := (List.range 173).map (fun u => s.fld (Reg.svcUnit u) 15 8)

/-- Steps 7 and 8 of R520: the board regulators go off in the reverse of their order, each after its OFF_DELAY (R449); after the last
one SHDN_DONE goes high. -/
def State.shdnRegs (s : State) : State :=
  let s := State.regsOff s.pwr.offs s
  if s.pwr.offs = [] then { s.emit (.pin "SHDN_DONE" 0 true) with pwr := { s.pwr with shdn := 4, shdnAt := s.now, done := true } } else s

/-- SHUTDOWN_COMPLETE: steps 5 to 8 of R520. While a regulator's OFF_DELAY runs, step 7 goes on with the next such command. -/
def State.shutdownComplete (s : State) : State :=
  if s.pwr.stop ∨ s.mgt.restarting then s
  else if s.pwr.shdn = 5 then s.shdnRegs
  else if s.pwr.shdn = 3 ∧ s.svc.bist = [] ∧ (s.flag Reg.svcCtrl 0 → s.svc.tests = []) then
    let s := if s.flag Reg.svcCtrl 0 then
        (if s.storeOk 2 then
          s.recordWrite { uses := 0, serial := deviceSerial, gen := 0, frame := s.ras.frame, time := s.device, results := s.shutResults }
        else s.refuseStore)
      else s
    let s := s.logAppend.allOff
    let s := (List.range 12).foldl (fun (s : State) c => s.emit (.pin "DMC_PWREN" c false)) s
    State.shdnRegs { s with pwr := { s.pwr with shdn := 5, regAt := s.now, offs := s.regOrder.reverse } }
  else s

/-- SHDN_REQ_N_RELEASE: after step 8, with the tile input above WARN + HYST, the device starts again (R520; log entry 167). -/
def State.shdnRelease (s : State) : State :=
  let s := { s with pwr := { s.pwr with low := false } }
  if s.pwr.shdn = 4 ∧ s.pwr.above.isSome then s.powerOn else s

end Sys2Proof.Machine
end

