-- ==== Sys2Proof/Machine/RegWrite.lean ====
section
/-! DEFINITION. Register accesses: what a word reads as, the checks of a write in the order of R54, what a write that passes
them stores and starts, and the commit registers (R38-R75). -/

namespace Sys2Proof.Machine

/-! ### Reads (R38-R44, R51) -/

/-- PRIV_MASK: bit n is 1 where bytes 128 n to 128 n + 127 hold a privileged field (R50). -/
def PageDef.privMask (p : PageDef) : Nat :=
  ((List.range 32).map (fun n => if p.rows.any (fun r => r.fields.any (fun f => f.kind == .prw) &&
    (List.range r.count).any (fun i => (r.base + r.stride * i) / 128 == n)) then 2 ^ n else 0)).sum

/-- PAGE_CAP (R43). -/
def PageDef.cap (p : PageDef) : Nat :=
  (if p.shadow then 1 else 0) + (if p.group then 2 else 0) + (if p.fenceable then 4 else 0) + (if p.privMask = 0 then 0 else 8) + p.capBlock * 65536

/-- PAGE_ID (R43). -/
def PageDef.pageId (p : PageDef) : Nat := p.code * 2 ^ 24 + p.inst * 65536 + p.index * 256 + 1

/-- COMMIT as it reads: an enrolled page mirrors the group (R59, R64). -/
def State.commitWord (s : State) (p : PageDef) : Nat :=
  let w := s.rd (p.base + 0x1C)
  if p.group then bitsOf w 31 16 * 65536 + (if s.flag Reg.devGcommit 1 then 2 else 0) + (if s.flag Reg.devGcommit 2 then 4 else 0) else w

/-- A header word as it reads (R42). -/
def State.headerRead (s : State) (p : PageDef) (off : Nat) : Nat :=
  if off = 0x00 then p.pageId
  else if off = 0x04 then p.cap
  else if off = 0x08 then s.pageState p
  else if off = 0x0C ∨ off = 0x10 ∨ off = 0x14 then s.rd (p.base + off)
  else if off = 0x1C then s.commitWord p
  else if off = 0x20 then (match p.unit with | some u => s.fenceBits u | none => 0)
  else if off = 0x24 then p.privMask
  else 0

/-- Words of the DEV pages that are given per device or computed (R68, R74; log entry 41). -/
def State.devRead (s : State) (page off : Nat) : Option Nat :=
  if page = 0 ∧ off = 0x44 then some (Config.devRev.toNat % 2 ^ 24)
  else if page = 0 ∧ off = 0x48 then some (Config.serial.toNat % 2 ^ 32)
  else if page = 0 ∧ off = 0x4C then some (Config.serial.toNat / 2 ^ 32)
  else if page = 2 ∧ off = 0x40 then some (s.asserted % 2 ^ 32) else if page = 2 ∧ off = 0x44 then some (s.asserted / 2 ^ 32) else none

/-- RAS_LOCK_STAT.STEP: the retime lasts one line, and step 5 follows it (R92). -/
def State.stepShown (s : State) : Nat :=
  if s.ras.step = 4 then (match s.ras.stepEnd with | some e => if e ≤ s.now then 5 else 4 | none => 4) else s.ras.step

/-- Computed words of the RAS pages (R80, R94). -/
def State.rasRead (s : State) (page off : Nat) : Option Nat :=
  let r := s.ras
  if page = 0 then
    let sh := timingFrom s.rdShadow
    if off = 0x74 then some (r.timing.vtotal % 65536 + sh.vtotal % 65536 * 65536)
    else if off = 0x78 then some (r.timing.htotal % 65536 + sh.htotal % 65536 * 65536)
    else if off = 0x7C then some r.timing.latch
    else if off = 0x84 then some (r.lock + (if r.step = 0 then 0 else 4) + s.stepShown * 16)
    else if off = 0x8C then some (r.frame % 2 ^ 32)
    else none
  else if page = 1 ∧ off = 0x44 then some s.crvArmed.length
  else none

/-- Words that a block computes when they are read. -/
def State.blockRead (s : State) (p : PageDef) (off : Nat) : Option Nat :=
  if p.code = 0x00 then s.devRead p.index off
  else if p.code = 0x01 then s.rasRead p.index off
  else if p.code = 0x02 then s.scnRead off
  else if p.code = 0x03 then s.ingRead off
  else if p.code = 0x05 then s.synRead p.index off
  else if p.code = 0x06 then s.slcRead p.index off
  else if p.code = 0x07 then s.brcRead p.index off
  else if p.code = 0x08 then s.plcRead off
  else if p.code = 0x09 then s.lyrRead p.index off
  else if p.code = 0x0A then s.bltRead off
  else if p.code = 0x0B then s.pnlRead p.index off
  else if p.code = 0x0C then s.bklRead off
  else if p.code = 0x10 ∨ p.code = 0x11 then s.npRead (p.code - 0x10) p.index off
  else if p.code = 0x12 then s.fovRead off
  else if p.code = 0x13 then s.timRead off
  else if p.code = 0x14 then s.dmcRead p.index off
  else if p.code = 0x15 then s.nvsRead p.index off
  else if p.code = 0x16 then s.lnkRead p.index off
  else if p.code = 0x1C then s.secRead off
  else if p.code = 0x1D then s.svcRead off
  else none

/-- The page that an access reaches; in recovery the SEC page alone is presented (R39, R481). -/
def State.reached (s : State) (a : Nat) : Option PageDef :=
  match pageOf a with
  | some p => if p.lastListed < a % 0x1000 / 4 * 4 ∨ (s.secu.recovery ∧ p.code ≠ 0x1C) then none else some p
  | none => none

/-- What a read of the aligned word at unprivileged address `a` returns (R38, R39, R44); a shadowed word reads as its shadow (R11). -/
def State.readWord (s : State) (a : Nat) : Nat :=
  match s.reached a with
  | none => 0
  | some p =>
    let off := a % 0x1000
    if off < 0x40 then s.headerRead p off
    else if s.pageState p = 5 then 0
    else match s.blockRead p off with
      | some v => v % 2 ^ 32
      | none => s.rdShadow a

/-- What a read access of `size` bytes at `addr` returns: a narrower read the addressed bytes of the word, a 64-bit read of the host
two words, the lower address first (R38). -/
def State.readAccess (s : State) (addr size : Nat) : Nat :=
  if size = 8 then s.readWord (addr % 0x400000) + s.readWord ((addr + 4) % 0x400000) * 2 ^ 32
  else s.readWord (addr % 0x400000 / 4 * 4) / 2 ^ (8 * (addr % 4)) % 2 ^ (8 * size)

/-! ### Checks of a write (R38, R39, R41, R45, R52-R57, R60) -/

/-- The bits of a row that no field covers. -/
def RegRow.reserved (r : RegRow) : Nat :=
  ((List.range 32).map (fun i => if r.fields.any (fun f => decide (f.lo ≤ i ∧ i ≤ f.hi)) then 0 else 2 ^ i)).sum

/-- A field's own checks: zero rule, range, and the multiple of an address or size (R57). -/
def fieldCodes (priv : Bool) (data : Nat) (f : FieldDef) : List Nat :=
  if f.kind = .ro ∨ f.kind = .w1c ∨ (f.kind = .prw ∧ !priv) then []
  else
    let v := bitsOf data f.hi f.lo
    let i : Int := if f.signed then signedBits v (f.hi - f.lo + 1) else v
    codeIf (v == 0 && f.zero == .zeroSize) 2 ++ codeIf (decide (i < f.min ∨ f.max < i)) 1 ++ codeIf (v % f.step != 0) 0xA

/-- Whether a write changes a privileged field (R52). -/
def privChanged (old data : Nat) (r : RegRow) : Bool :=
  r.fields.any (fun f => f.kind == .prw && bitsOf data f.hi f.lo != bitsOf old f.hi f.lo)

/-- Whether a commit of the page is pending (R60, R64). -/
def State.commitPending (s : State) (p : PageDef) : Bool := if p.group then s.flag Reg.devGcommit 1 else s.flag (p.base + 0x1C) 1

/-- Checks of a request in a page's FENCE register, or in another register that makes one (R48, R493). -/
def State.fenceCodes (s : State) (u : Option Nat) (data : Nat) : List Nat :=
  let n := (List.range 3).filter (fun i => bitOf data i)
  match u with
  | none => [6]
  | some u => codeIf (decide (1 < n.length)) 6 ++ (match n with | [r] => s.unitCodes u r | _ => [])

/-- Checks of a write to a header word (R42-R48, R59-R64). -/
def State.headerCodes (s : State) (p : PageDef) (off data : Nat) : List Nat :=
  if off = 0x04 then codeIf (decide (bitsOf data 15 4 ≠ 0)) 3
  else if off = 0x08 then codeIf (decide (bitsOf data 31 3 ≠ 0)) 3
  else if off = 0x0C then codeIf (decide (bitsOf data 29 28 ≠ 0)) 3
  else if off = 0x10 ∨ off = 0x14 ∨ off = 0x18 then codeIf (decide (Nat.land data p.events ≠ data)) 3
  else if off = 0x1C then
    let req := bitOf data 0
    let cancel := bitOf data 3
    codeIf (decide (bitsOf data 15 4 ≠ 0)) 3 ++ codeIf (req && !p.shadow) 1 ++ codeIf ((req && cancel) || (p.group && (req || cancel))) 6
  else if off = 0x20 then codeIf (decide (8 ≤ data)) 3 ++ s.fenceCodes p.unit data
  else if 0x28 ≤ off then codeIf (decide (data ≠ 0)) 3
  else []

/-- Checks of a write to a DEV page (R70, R75). -/
def State.devCheck (page off data : Nat) : List Nat :=
  if page = 0 ∧ off = 0x50 then codeIf (bitOf data 0 && bitOf data 3) 6
  else if page = 2 ∧ 0x800 ≤ off then codeIf (pageDef ((off - 0x800) / 4 / 16) ((off - 0x800) / 4 % 16)).isNone 0xB
  else []

/-- Checks of a write to a RAS page (R80, R97). The ACTION of an entry is checked where the write arms it (log entry 140). -/
def State.rasCheck (s : State) (a data : Nat) : List Nat :=
  if 0x1009C ≤ a ∧ a < 0x100AC then codeIf (decide (s.ras.timing.vtotal ≤ bitsOf data 15 0)) 1
  else match crvEntryOf a with
    | some e =>
      if a = Reg.crvW e 2 then (if bitOf data 31 then s.crvArmCodes e data else [])
      else codeIf (s.flag (Reg.crvW e 2) 31) 9
    | none => []

/-- Checks that a block makes on a write to one of its registers. -/
def State.blockCheck (s : State) (who : Requester) (p : PageDef) (off data : Nat) : List Nat :=
  if p.code = 0x00 then State.devCheck p.index off data
  else if p.code = 0x01 then s.rasCheck (p.base + off) data
  else if p.code = 0x02 then s.scnCheck off data
  else if p.code = 0x03 then s.ingCheck off data
  else if p.code = 0x04 then s.mbcCheck p.index off data
  else if p.code = 0x05 then s.synCheck p.index off data
  else if p.code = 0x06 then (if 0x404 ≤ off ∧ (off - 0x404) % 0x80 = 0 then s.fenceCodes (some (8 * p.index + (off - 0x404) / 0x80)) data else [])
  else if p.code = 0x07 then s.brcCheck p.index off data
  else if p.code = 0x08 then s.plcCheck s.segBytes off data
  else if p.code = 0x09 then s.lyrCheck p.index off data
  else if p.code = 0x0A then s.bltCheck off data
  else if p.code = 0x0B then s.pnlCheck p.index off data
  else if p.code = 0x0C then s.bklCheck off data ++ (if off = 0x6C ∧ bitsOf data 5 0 < 36 then s.fenceCodes (some (133 + bitsOf data 5 0)) (bitsOf data 9 8) else [])
  else if p.code = 0x10 ∨ p.code = 0x11 then
    (if p.index = 4 then s.ptpCheck (p.code - 0x10) off data else s.npCheck (p.code - 0x10) p.index off data)
  else if p.code = 0x12 then s.fovCheck off data
  else if p.code = 0x13 then s.timCheck off
  else if p.code = 0x14 then s.dmcCheck p.index off data
  else if p.code = 0x15 then s.nvsCheck p.index off data
  else if p.code = 0x16 then s.lnkCheck p.index off data
  else if p.code = 0x18 then s.mgtCheck who off data
  else if p.code = 0x19 then s.pwrCheck off data
  else if p.code = 0x1A then s.thmCheck off data
  else if p.code = 0x1B then s.calCheck off data
  else if p.code = 0x1C then s.secCheck off data
  else if p.code = 0x1D then s.svcCheck off data
  else []

/-- Checks of a write to a word behind the header. -/
def State.wordCodes (s : State) (who : Requester) (priv : Bool) (p : PageDef) (off data : Nat) : List Nat :=
  match rowFor p.rows off with
  | none => codeIf (decide (data ≠ 0)) 3 ++ (if p.code = 0x16 then s.lnkCheck p.index off data else [])
  | some (r, _) =>
    codeIf (!priv && privChanged (s.rd (p.base + off)) data r) 4 ++
    codeIf (decide (Nat.land data r.reserved ≠ 0)) 3 ++
    codeIf (r.fields.any (fun f => f.kind == .rws) && s.commitPending p) 8 ++
    r.fields.flatMap (fieldCodes priv data) ++ s.blockCheck who p off data

/-- Words that are accepted in every state of the instance (R45). -/
def alwaysOpen (off : Nat) : Bool := off == 0x0C || off == 0x10 || off == 0x14 || off == 0x20

/-- A mailbox GO while Marigold restarts is rejected with BUSY, although the MGT domain is off then (R28, R443; log entry 160). -/
def State.goHeld (s : State) (p : PageDef) (off data : Nat) : Bool :=
  p.code == 0x18 && s.mgt.restarting && (off == 0x110 || off == 0x130) && bitOf data 0

/-- The code with which a write to a page is rejected, 0 where it is accepted (R54). -/
def State.writeCode (s : State) (who : Requester) (priv : Bool) (p : PageDef) (addr size data : Nat) : Nat :=
  let off := addr % 0x1000
  if size ≠ 4 ∨ addr % 4 ≠ 0 then (if p.code = 0x00 ∧ (State.devCheck p.index (off / 4 * 4) 0).contains 0xB then 0xB else 0xA)
  else firstCode (codeIf (decide (s.pageState p ≠ 0 ∧ s.pageState p ≠ 2) && !alwaysOpen off && !s.goHeld p off data) 5 ++
    (if off < 0x40 then s.headerCodes p off data else s.wordCodes who priv p off data))

/-! ### What a write stores (R11, R41, R58) -/

/-- Triggers that read 1 until what they start has ended. Every other one reads 0 at once: the manual gives no point at which hardware
clears it, or what it starts is over with the write (log entry 134). The bits of the FENCE registers are computed (`fenceBits`). -/
def stickyMask (a : Nat) : Nat :=
  if [Reg.scnQuery, Reg.ingInjCtrl, Reg.synGridLoadCtrl, Reg.brcLutLoadCtrl, Reg.pnlOdLoadCtrl, Reg.brcSnapCtrl, Reg.plcHintCtrl,
      Reg.plcCostmapCtrl, Reg.bklFade, Reg.npGclCtrl 0, Reg.npGclCtrl 1, Reg.nvsSegwCtrl, Reg.nvsSegop].contains a then 2 ^ 31
  else if a = Reg.bklChReq then 0x300
  else if a = Reg.fovCtrl then 0x300
  else if a = Reg.dmcTrainCtrl then 0x10000
  else if [Reg.mgtCpxCtrl, Reg.secKatCtrl, Reg.secRcvCtrl].contains a then 1
  else 0

/-- One field of the word stored, in place. -/
def FieldDef.stored (f : FieldDef) (sticky old data : Nat) : Nat :=
  let m := fun w => bitsOf w f.hi f.lo
  (match f.kind with
   | .rw | .rws | .prw => m data
   | .ro => m old
   | .wo => 0
   | .w1c => m old - Nat.land (m old) (m data)
   | .w1s => Nat.lor (m old) (Nat.land (m data) (m sticky))) * 2 ^ f.lo

/-- The word that a write stores. -/
def RegRow.stored (r : RegRow) (sticky old data : Nat) : Nat := (r.fields.map (fun f => f.stored sticky old data)).sum

/-- Store a write: the shadow of an RWS word, the word itself otherwise (R58). -/
def State.storeWord (s : State) (a : Nat) (r : RegRow) (data : Nat) : State :=
  if r.fields.any (fun f => f.kind == .rws) then s.wrShadow a (r.stored 0 (s.rdShadow a) data)
  else s.wr a (r.stored (stickyMask a) (s.rd a) data)

/-! ### Commits (R58-R67) -/

/-- Frame in which a group request made now takes effect (R66). -/
def State.gcommitTarget (s : State) : Nat := (s.ras.frame + (if s.ras.line < s.ras.timing.latch then 1 else 2)) % 65536

/-- Which instances the pending group commit waits for (R76). -/
def State.groupWait (s : State) (l : List Nat) : State := { s with lyr := { s.lyr with waits := l } }

/-- A write to DEV_GCOMMIT that has passed its checks (R66, R70, R76). -/
def State.gcommitWrite (s : State) (data : Nat) : State :=
  let s := if bitOf data 2 then s.setFlag Reg.devGcommit 2 false else s
  if bitOf data 0 && !s.flag Reg.devGcommit 1 then (s.setFlag Reg.devGcommit 1 true).setFld Reg.devGcommit 31 16 s.gcommitTarget
  else if bitOf data 3 then (((s.setFlag Reg.devGcommit 1 false).setFld Reg.devGcommit 31 16 0).setFld Reg.lyrStatus 19 16 0).groupWait []
  else s

/-- A write to COMMIT that has passed its checks (R59, R76); the group's pages are left alone (R64). -/
def State.commitWrite (s : State) (p : PageDef) (data : Nat) : State :=
  if p.group then s
  else
    let a := p.base + 0x1C
    let s := if bitOf data 2 then s.setFlag a 2 false else s
    if bitOf data 0 then s.setFlag a 1 true
    else if bitOf data 3 then { s.setFlag a 1 false with ras := { s.ras with commitDue := s.ras.commitDue.filter (fun b => b != p.base),
                                                                             latchReqs := s.ras.latchReqs.filter (fun b => b != p.base) } }
    else s

/-! ### What a write starts -/

/-- A request in a FENCE register (R48). -/
def State.fenceWrite (s : State) (u : Option Nat) (data : Nat) : State :=
  match u, (List.range 3).filter (fun i => bitOf data i) with
  | some u, [r] => s.unitRequest u r
  | _, _ => s

/-- A write to a header word (R42-R49). -/
def State.headerWrite (s : State) (p : PageDef) (off data : Nat) : State :=
  let a := p.base + off
  if off = 0x0C then (if bitOf data 31 then s.wr a 0 else s)
  else if off = 0x10 then s.wr a (s.rd a - Nat.land (s.rd a) data)
  else if off = 0x14 then s.wr a data
  else if off = 0x18 then (s.wr (p.base + 0x10) (Nat.lor (s.rd (p.base + 0x10)) data)).tellMarigold p.base data
  else if off = 0x1C then s.commitWrite p data
  else if off = 0x20 then s.fenceWrite p.unit data
  else s

/-- What a write to a DEV page starts (R70, R75). -/
def State.devEffect (s : State) (page off data : Nat) : State :=
  if page = 0 ∧ off = 0x50 then s.gcommitWrite data
  else if page = 2 ∧ off = 0x50 then (if bitOf s.live (bitsOf data 5 0) then s.sendMsix (bitsOf data 5 0) else s)
  else s

/-- What a write to a RAS page starts: arming an entry (R97); what has passed while EN was 0 is over before EN is 1 (R99). -/
def State.rasEffect (s : State) (a old data : Nat) : State :=
  if a = Reg.rasCrvCtrl then (if bitOf old 0 then s else s.crvSweep) else
  match crvEntryOf a with
  | some e =>
    if a = Reg.crvW e 2 ∧ bitOf data 31 then
      { s with crv := { s.crv with firedNow := s.crv.firedNow.filter (fun x => x != e), waiting := s.crv.waiting.filter (fun x => x.2 != e) } }.crvArmed1 e
    else s
  | none => s

/-- What a write to the ING page starts; a session that is enabled restarts its playback numbering (R421). -/
def State.ingStart (s : State) (off old data : Nat) : State :=
  let s := s.ingEffect off old data
  if 0x400 ≤ off ∧ off < 0x400 + 64 * 0x30 ∧ (off - 0x400) % 0x30 = 0 ∧ bitOf data 0 ∧ !bitOf old 0 then s.sessEnabled ((off - 0x400) / 0x30) else s

/-- What a write to a path die's page starts; the digests follow pages 0 to 3 (R373). -/
def State.npStart (s : State) (x page off old data : Nat) : State :=
  if page = 4 then s.ptpEffect x off old data
  else
    let s := s.npEffect x page off old data
    (if page = 0 ∧ off = 0x40 then s.laneSweep else s).fovDigest

/-- What a write starts, by block; `old` is the word before it. -/
def State.blockEffect (s : State) (p : PageDef) (off old data : Nat) : State :=
  if p.code = 0x00 then s.devEffect p.index off data
  else if p.code = 0x01 then s.rasEffect (p.base + off) old data
  else if p.code = 0x02 then s.scnEffect off old data
  else if p.code = 0x03 then s.ingStart off old data
  else if p.code = 0x04 then s.mbcEffect p.index off old data
  else if p.code = 0x05 then s.synEffect p.index off data
  else if p.code = 0x06 then (if 0x404 ≤ off ∧ (off - 0x404) % 0x80 = 0 then s.fenceWrite (some (8 * p.index + (off - 0x404) / 0x80)) data else s)
  else if p.code = 0x07 then s.brcEffect p.index off old data
  else if p.code = 0x08 then s.plcEffect off data
  else if p.code = 0x0A then s.bltEffect off old data
  else if p.code = 0x0B then
    (if p.index = 0 ∧ off = 0x40 then (s.pnlEffect p.index off data).laneSweep else s.pnlEffect p.index off data)
  else if p.code = 0x0C then
    (if off = 0x6C then s.fenceWrite (some (133 + bitsOf data 5 0)) (bitsOf data 9 8) else s.bklEffect off data)
  else if p.code = 0x10 ∨ p.code = 0x11 then s.npStart (p.code - 0x10) p.index off old data
  else if p.code = 0x12 then s.fovEffect off data
  else if p.code = 0x14 then s.dmcEffect p.index off old data
  else if p.code = 0x15 then s.nvsEffect p.index off data
  else if p.code = 0x16 then s.lnkEffect p.index off old data
  else if p.code = 0x18 then s.mgtEffect off data
  else if p.code = 0x19 then s.pwrEffect off old data
  else if p.code = 0x1A then s.thmEffect off data
  else if p.code = 0x1C then s.secEffect off data
  else if p.code = 0x1D then s.svcEffect off data
  else s

/-- A write that has passed its checks. -/
def State.acceptWord (s : State) (p : PageDef) (a data : Nat) : State :=
  let off := a % 0x1000
  if off < 0x40 then s.headerWrite p off data
  else match rowFor p.rows off with
    | none => s
    | some (r, _) => (((s.storeWord a r data).blockEffect p off (s.rd a) data)).certCheck s

/-- A rejected write; a refused evacuation also raises PLC_EVAC_REFUSED (R249, R255), and a refused persistent store counts (R463). -/
def State.rejectWrite (s : State) (who : Requester) (addr code data : Nat) : State :=
  let s := s.reject who addr code data
  if code = 0x801 then s.raise 0x80000 3 else if code = 0xC then s.refuseStore else s

/-- A privileged write to IRQ_STATUS also clears what Marigold's interrupt controller holds of those events; no other write does
(R76; log entry 136). -/
def State.marigoldSees (s : State) (who : Requester) (addr : Nat) (p : PageDef) (data : Nat) : State :=
  if isPriv who addr ∧ addr % 0x1000 = 0x10 then s.marigoldClears p.base data else s

/-- A write of `size` bytes by `who` to `addr`, in the view that `addr` names (R34-R54). -/
def State.writeWord (s : State) (who : Requester) (addr size data : Nat) : State :=
  let a := addr % 0x400000
  match s.reached a with
  | none => s.rejectUnmapped who addr data
  | some p =>
    let c := s.writeCode who (isPriv who addr) p a size data
    if c = 0 then (s.acceptWord p a data).marigoldSees who addr p data else s.rejectWrite who addr c data

/-- A write of `data` with trigger bit `b` set, as the row that names the trigger makes it. -/
def State.trigger (s : State) (who : Requester) (addr b : Nat) (data : Word) : State :=
  s.writeWord who addr 4 (putBits data.toNat b b 1)

/-- A write of `data` with bit `b` clear, as the row that names the clearing makes it. -/
def State.untrigger (s : State) (who : Requester) (addr b : Nat) (data : Word) : State :=
  s.writeWord who addr 4 (putBits data.toNat b b 0)

/-- Bits of a word whose written ones act: a masked write leaves them 0 outside its mask. -/
def PageDef.oneBits (p : PageDef) (off : Nat) : Nat :=
  if off < 0x40 then (if off = 0x14 then 0 else 2 ^ 32 - 1)
  else match rowFor p.rows off with
    | some (r, _) => ((List.range 32).map (fun i => if r.fields.any (fun f => decide (f.lo ≤ i ∧ i ≤ f.hi) && (f.kind == .w1s || f.kind == .w1c)) then 2 ^ i else 0)).sum
    | none => 0

/-- PRIV_WRITE (R445): address, mask and value, in the privileged view; the SEC page is protected (R483). -/
def State.svcPrivWrite (s : State) (b : List Byte) : Served :=
  let a := leNat (slice b 0 4) % 0x400000
  let m := leNat (slice b 4 4)
  let v := leNat (slice b 8 4)
  if 0x1C0000 ≤ a ∧ a < 0x1C1000 then s.no 0x1C05
  else match s.reached a with
    | none => (0xB, [], s.rejectUnmapped .marigold (0x400000 + a) v)
    | some p =>
      let r := s.readWord a
      let w := r - Nat.land r (p.oneBits (a % 0x1000))
      let data := w - Nat.land w m + Nat.land v m
      let c := s.writeCode .marigold true p a 4 data
      if c = 0 then ((s.acceptWord p a data).marigoldSees .marigold (0x400000 + a) p data).ok else (c, [], s.rejectWrite .marigold (0x400000 + a) c data)

end Sys2Proof.Machine
end

