-- ==== Sys2Proof/Machine/CmdRegs.lean ====
section
/-! DEFINITION. The commands of the register model: writes, forced events, commits, interrupt routing (R38-R76). -/

namespace Sys2Proof.Machine

/-- A register write of `size` bytes; the host endpoint splits a 64-bit access into two, the lower address first (R38). Each is a
write of its own, after which the vectors settle (R75). -/
def State.writeAccess (s : State) (who : Requester) (addr size : Nat) (data : BitVec 64) : State :=
  if who = .host ∧ size = 8 then (settle (s.writeWord .host addr 4 (data.toNat % 2 ^ 32))).writeWord .host (addr + 4) 4 (data.toNat / 2 ^ 32)
  else s.writeWord who addr size (data.toNat % 2 ^ 32)

/-- REGISTER_WRITE (R53). -/
def execRegisterWrite (who : Requester) (addr size : Nat) (data : BitVec 64) (s : State) : Host.Outcome State Fault Refusal :=
  finish (s.writeAccess who addr size data)

/-- IRQ_FORCE (R42, R49). -/
def execIrqForce (who : Requester) (page : Nat) (data : Word) (s : State) : Host.Outcome State Fault Refusal :=
  finish (s.writeWord who (page * 0x1000 + 0x18) 4 data.toNat)

/-- COMMIT_REQ (R59, R60, R64). -/
def execCommitReq (who : Requester) (page : Nat) (data : Word) (s : State) : Host.Outcome State Fault Refusal :=
  finish (s.trigger who (page * 0x1000 + 0x1C) 0 data)

/-- COMMIT_CANCEL (R59, R64). -/
def execCommitCancel (who : Requester) (page : Nat) (data : Word) (s : State) : Host.Outcome State Fault Refusal :=
  finish (s.trigger who (page * 0x1000 + 0x1C) 3 data)

/-- The failing checks of a page that commits by itself: (code, page base, offset). -/
def State.ownCommitCodes (s : State) (base : Nat) : List (Nat × Nat × Nat) :=
  if base = 0x70000 then s.brcCommitCodes else if base = 0xB0000 then s.linkCommitCodes else if base = 0xB1000 then s.lcdCommitCodes else []

/-- The check that is recorded: the first in the order of R54, block-specific codes ascending (R521). -/
def firstCheck : List (Nat × Nat × Nat) → Option (Nat × Nat × Nat)
  | [] => none
  | c :: cs => match firstCheck cs with
    | some d => if codeRank d.1 < codeRank c.1 then some d else some c
    | none => some c

/-- The frame that a commit at the latch edge serves, as seen until the next latch (R87). -/
def State.servedFrame (s : State) : Nat := if s.ras.latched then s.ras.frame + 1 else s.ras.frame

/-- The commit point of a page that commits by itself (R61, R62, R86). -/
def State.commitPoint (s : State) (base : Nat) : State :=
  let s : State := { s with ras := { s.ras with commitDue := s.ras.commitDue.filter (fun b => b != base) } }
  match firstCheck (s.ownCommitCodes base) with
  | some c => (s.setFlag (base + 0x1C) 1 false).rejectCommit c.2.1 c.2.2 c.1
  | none => (((s.commitPage base).setFlag (base + 0x1C) 1 false).setFlag (base + 0x1C) 2 true).setFld (base + 0x1C) 31 16 (s.servedFrame % 65536)

/-- COMMIT_TAKE_EFFECT (R61, R62): for a page whose request was pending at the latch edge. -/
def execCommitTakeEffect (page : Nat) (s : State) : Host.Outcome State Fault Refusal :=
  finish (if s.ras.commitDue.contains (page * 0x1000) && s.flag (page * 0x1000 + 0x1C) 1 then s.commitPoint (page * 0x1000) else s)

/-- GCOMMIT_REQ (R66, R70). -/
def execGcommitReq (who : Requester) (data : Word) (s : State) : Host.Outcome State Fault Refusal :=
  finish (s.trigger who Reg.devGcommit 0 data)

/-- GCOMMIT_CANCEL (R64, R70). -/
def execGcommitCancel (who : Requester) (data : Word) (s : State) : Host.Outcome State Fault Refusal :=
  finish (s.trigger who Reg.devGcommit 3 data)

/-- DEV_INTC_EOI (R75). -/
def execDevIntcEoi (who : Requester) (data : Word) (s : State) : Host.Outcome State Fault Refusal :=
  finish (s.writeWord who Reg.devIntcEoi 4 data.toNat)

/-- DEV_INTC_MASK_WRITE (R75): `half` 0 for vectors 0 to 31, 1 for 32 to 63. -/
def execDevIntcMaskWrite (who : Requester) (half : Nat) (data : Word) (s : State) : Host.Outcome State Fault Refusal :=
  finish (s.writeWord who (if half = 0 then Reg.devIntcMaskLo else Reg.devIntcMaskHi) 4 data.toNat)

/-- DEV_INTC_ROUTE_WRITE (R75, R76). -/
def execDevIntcRouteWrite (who : Requester) (index : Nat) (data : Word) (s : State) : Host.Outcome State Fault Refusal :=
  finish (s.writeWord who (Reg.devIntcRoute index) 4 data.toNat)

end Sys2Proof.Machine
end

