-- ==== Sys2Proof/Machine/CmdLayers.lean ====
section
/-! DEFINITION. The commands of the flat layers and the blitter (R259-R297). -/

namespace Sys2Proof.Machine

/-- LYR_DONE_WRITE (R272). -/
def execLyrDoneWrite (who : Requester) (layer : Nat) (data : Word) (s : State) : Host.Outcome State Fault Refusal :=
  finish (s.writeWord who (Reg.lyrLDone layer) 4 data.toNat)

/-- The code with which the data of layer `n` fails for a tile of a frame with settings `l`; none where the tile can be composed
(R276). -/
def State.layerFault (s : State) (l : LaySet) (n : Nat) (x : Tile) : Option Nat :=
  let t := s.timingOf x.frame
  (List.range (tileLines t x.band)).findSome? (fun j => (List.range (3 * tileCols t x.col)).findSome? (fun i =>
    match s.layAt l n (3 * 1024 * x.col + i) (x.region * t.vactive + 16 * x.band + j) with
    | .error e => some e
    | .ok _ => none))

/-- Units of a TILED layer whose check value fails: known at the unit's end alone (R276). -/
def State.layerCheckFails (s : State) (l : LaySet) (n : Nat) : Nat :=
  let c := layCfg l.rd n
  if l.shown n && c.tiled && s.decodable l n then
    ((List.range (ceilDiv c.h c.th)).map (fun ty => (List.range (ceilDiv c.w c.tw)).countP (fun tx =>
      match s.layUnit c tx ty with | .ok (some u) => u.2 | _ => false))).sum
  else 0

/-- Tiles that are not COMPLETE and need the data of layer `n`, with the code that it fails with (R276). -/
def State.layerFaults (s : State) (n : Nat) : List (Tile × Nat) :=
  s.brc.tiles.filterMap (fun x =>
    if x.state = .complete ∨ x.state = .dropped then none
    else match s.laySet x.frame with
      | some l => if l.shown n then (s.layerFault l n x).map (fun e => (x, e)) else none
      | none => none)

/-- LYR_FAULT_DROP of layer `n` (R276). The code that FAULT records for a surface without a decoder is not stated: a free value (log
entry 154). -/
def State.layerDrop (s : State) (n : Nat) : State :=
  let bad := s.layerFaults n
  let checks := match s.lyr.front with | some l => s.layerCheckFails l n | none => 0
  let s := if checks = 0 then s else (s.add (Reg.lyrStat 4) checks).raise 0x90000 4
  match bad with
  | [] => s
  | (_, why) :: _ =>
    let d := s.draw
    let code := if why = 0x906 then d.1 % 65536 else why
    let s := if why = 0x906 then d.2 else s
    let s := bad.foldl (fun (s : State) x => s.dropTile x.1) s
    let s := (s.add (Reg.lyrStat 2) bad.length).add (Reg.lyrLStat n 3) 1
    let s := if 0x401 ≤ code ∧ code ≤ 0x407 then s.add (Reg.lyrStat 3) 1 else s
    (s.setFld (Reg.lyrLStatus n) 31 16 code).raise 0x90000 3

/-- LYR_FAULT_DROP (R276). -/
def execLyrFaultDrop (layer t : Nat) (s : State) : Host.Outcome State Fault Refusal :=
  finish (if 1 ≤ layer ∧ layer ≤ 7 ∧ s.domOn 16 then (s.at t).layerDrop layer else s)

/-! ### The blitter -/

/-- BLT_RING_TAIL (R291). -/
def execBltRingTail (who : Requester) (data : Word) (s : State) : Host.Outcome State Fault Refusal :=
  finish (s.writeWord who Reg.bltRingTail 4 data.toNat)

/-- COPY (R286, R288): `bursts` bursts of a COPY descriptor. -/
def execBltCopy (bursts t : Nat) (s : State) : Host.Outcome State Fault Refusal := finish ((s.at t).bltRun 0 bursts)

/-- FILL (R286). -/
def execBltFill (bursts t : Nat) (s : State) : Host.Outcome State Fault Refusal := finish ((s.at t).bltRun 1 bursts)

/-- GLYPH (R286, R288). -/
def execBltGlyph (bursts t : Nat) (s : State) : Host.Outcome State Fault Refusal := finish ((s.at t).bltRun 2 bursts)

/-- BLT_HELD (R294). -/
def execBltHeld (s : State) : Host.Outcome State Fault Refusal := finish s.bltHold

/-- BLT_RELEASE (R294). -/
def execBltRelease (who : Requester) (data : Word) (s : State) : Host.Outcome State Fault Refusal :=
  finish (s.trigger who Reg.bltRelease 0 data)

/-- BLT_DONE (R293). -/
def execBltDone (s : State) : Host.Outcome State Fault Refusal := finish s.bltDone

/-- BLT_DISABLE (R293, R296). -/
def execBltDisable (who : Requester) (data : Word) (s : State) : Host.Outcome State Fault Refusal :=
  finish (s.untrigger who Reg.bltCtrl 0 data)

end Sys2Proof.Machine
end

