-- ==== Sys2Proof/Machine/CmdMem.lean ====
section
/-! DEFINITION. The commands of the DRAM channels, the content store and the serial lanes (R399-R441). -/

namespace Sys2Proof.Machine

/-! ### DRAM channels (R399-R415) -/

/-- A corrected error beyond the limit fences the channel, or is logged (R495). -/
def State.ceWatch (s old : State) (c : Nat) : State := if State.ceFence old s c then s.ceService c else s

/-- DRAM_READ (R402, R406): a read of the line at `addr` by requester `client`; `found` is what the ECC finds, `act` the bank and the
row that must be activated for it, and `idle` says that no further read is pending on the channel. -/
def execDramRead (client : Nat) (realTime : Bool) (addr : Nat) (found : EccFind) (act : Option (Nat × Nat)) (idle : Bool) (t : Nat)
    (s : State) : Host.Outcome State Fault Refusal :=
  finish ((((s.at t).dramServe client realTime addr found.err found.bit act idle).ceWatch s (chanOf addr)).takeFence (chanOf addr))

/-- DRAM_WRITE (R402): `idle` says that no read is pending on the channel. -/
def execDramWrite (client : Nat) (realTime : Bool) (addr : Nat) (bytes : List Byte) (act : Option (Nat × Nat)) (idle : Bool) (t : Nat)
    (s : State) : Host.Outcome State Fault Refusal :=
  finish ((((s.at t).dramQueue client realTime addr bytes act idle).ceWatch s (chanOf addr)).takeFence (chanOf addr))

/-- TREFI (R404); requests that wait for the end of a throttle or of a replay go on. -/
def execTrefi (channel t : Nat) (s : State) : Host.Outcome State Fault Refusal :=
  finish (((((s.at t).trefi channel).chanServe channel true).ceWatch s channel).takeFence channel)

/-- HARD_BOUNDARY (R404): `raster` says that it is the end of a line's active columns. -/
def execHardBoundary (channel : Nat) (raster : Bool) (t : Nat) (s : State) : Host.Outcome State Fault Refusal :=
  finish ((s.at t).hardBoundary channel raster)

/-- SOFT_BOUNDARY (R404). -/
def execSoftBoundary (channel t : Nat) (s : State) : Host.Outcome State Fault Refusal := finish ((s.at t).softBoundary channel)

/-- DMC_CA_PARITY (R405): the replays that meet another parity error; the third in a row fences the channel. -/
def execDmcCaParity (channel : Nat) (replays : Replays) (t : Nat) (s : State) : Host.Outcome State Fault Refusal :=
  finish (let r := (s.at t).caParity channel replays.fails replays.since
    if r.2 then r.1.selfFence (119 + channel) else r.1)

/-- SCRUB_READ (R408). -/
def execScrubRead (channel err bit t : Nat) (s : State) : Host.Outcome State Fault Refusal :=
  finish (((s.at t).scrubRead channel err bit).ceWatch s channel)

/-- DRAM_TRAINING (R411, R412): the modules found, their temperature, whether the verification and the memory test pass, and what
a full training gives. -/
def execDramTraining (channel : Nat) (modules : List Dimm) (temp : Int) (verify memory : Bool) (full : Option (List Nat)) (t : Nat)
    (s : State) : Host.Outcome State Fault Refusal :=
  finish ((s.at t).dramTraining channel modules temp verify memory full)

/-- DQS_DRIFT_CHECK (R413). -/
def execDqsDriftCheck (channel : Nat) (steps : Int) (t : Nat) (s : State) : Host.Outcome State Fault Refusal :=
  finish ((s.at t).driftCheck channel steps)

/-- RESTORE (R412). -/
def execDmcRestore (who : Requester) (data : Word) (s : State) : Host.Outcome State Fault Refusal :=
  finish (s.trigger who Reg.dmcTrainCtrl 16 data)

/-- DIMM_PWR (R415). -/
def execDimmPwr (who : Requester) (channel : Nat) (data : Word) (s : State) : Host.Outcome State Fault Refusal :=
  finish (s.writeWord who (Reg.dmcChCtrl channel) 4 data.toNat)

/-! ### The content store (R416-R428) -/

/-- DRIVE_INSERT (R416, R417, R428): what the drive shows when it comes up. -/
def execDriveInsert (drive : Nat) (copies : List (Option MetaCopy)) (capacity : Nat) (format : Bool) (generation width health t : Nat) (s : State) :
    Host.Outcome State Fault Refusal :=
  finish ((s.at t).driveInsert drive copies capacity format generation width health)

/-- DRIVE_SURPRISE_REMOVE (R417): where the drive is still present, only its link is lost. -/
def execDriveSurpriseRemove (loss : DriveLoss) (t : Nat) (s : State) : Host.Outcome State Fault Refusal :=
  finish ((s.at t).driveLost loss.drive loss.present)

/-- NVME_COMMAND_TIMEOUT (R416): the third failed abort in a row fails the drive. -/
def execNvmeCommandTimeout (drive : Nat) (late : LateCommand) (t : Nat) (s : State) : Host.Outcome State Fault Refusal :=
  finish (let r := (s.at t).nvmeTimeout drive late.issued late.aborted
    if r.2 then r.1.unitFault (131 + drive) else r.1)

/-- INIT (R428). -/
def execDriveInit (who : Requester) (drive : Nat) (data : Word) (s : State) : Host.Outcome State Fault Refusal :=
  finish (s.trigger who (Reg.nvsDCtrl drive) 0 data)

/-- SEGMENT_WRITE (R420, R427). -/
def execSegmentWrite (who : Requester) (data : Word) (s : State) : Host.Outcome State Fault Refusal :=
  finish (s.trigger who Reg.nvsSegwCtrl 31 data)

/-- NVS_SEGW_DONE (R420, R427). -/
def execNvsSegwDone (t : Nat) (s : State) : Host.Outcome State Fault Refusal := finish (s.at t).segwDone

/-- QUERY (R427). -/
def execSegmentQuery (who : Requester) (data : Word) (s : State) : Host.Outcome State Fault Refusal :=
  finish (s.writeWord who Reg.nvsSegop 4 (putBits (putBits data.toNat 31 31 1) 1 0 0))

/-- DELETE (R427). -/
def execSegmentDelete (who : Requester) (data : Word) (s : State) : Host.Outcome State Fault Refusal :=
  finish (s.writeWord who Reg.nvsSegop 4 (putBits (putBits data.toNat 31 31 1) 1 0 1))

/-- NVS_SEGOP_DONE (R427). -/
def execNvsSegopDone (t : Nat) (s : State) : Host.Outcome State Fault Refusal := finish (s.at t).segopDone

/-- PLAYBACK_GO (R422). -/
def execPlaybackGo (who : Requester) (player : Nat) (data : Word) (s : State) : Host.Outcome State Fault Refusal :=
  finish (s.trigger who (Reg.nvsPbCtrl player) 31 data)

/-- STOP (R422). -/
def execPlaybackStop (who : Requester) (player : Nat) (data : Word) (s : State) : Host.Outcome State Fault Refusal :=
  finish (s.writeWord who (Reg.nvsPbCtrl player) 4 (putBits (putBits data.toNat 31 31 0) 30 30 1))

/-- PLAYBACK_DELIVER (R421, R422). -/
def execPlaybackDeliver (player t : Nat) (s : State) : Host.Outcome State Fault Refusal := finish ((s.at t).playDeliver player)

/-- NVS_PB_DONE (R422). -/
def execNvsPbDone (player t : Nat) (s : State) : Host.Outcome State Fault Refusal := finish ((s.at t).playDone player)

/-- NVS_PB_LOST (R423). -/
def execNvsPbLost (player t : Nat) (s : State) : Host.Outcome State Fault Refusal := finish ((s.at t).playLost player)

/-- NVS_FALLBACK (R424). -/
def execNvsFallback (t : Nat) (s : State) : Host.Outcome State Fault Refusal := finish (((s.at t).fallbackStart).certCheck s)

/-- NVS_FALLBACK_END (R424). -/
def execNvsFallbackEnd (t : Nat) (s : State) : Host.Outcome State Fault Refusal := finish (((s.at t).fallbackEnd).certCheck s)

/-! ### Serial lanes (R429-R441) -/

/-- LANE_ENABLE (R431). -/
def execLaneEnable (lane t : Nat) (s : State) : Host.Outcome State Fault Refusal := finish ((s.at t).laneEnable lane)

/-- LNK_LANE_READY (R431, R432): the transmit setting and the two receive words that bring-up ends with. -/
def execLnkLaneReady (lane tx rx0 rx1 t : Nat) (s : State) : Host.Outcome State Fault Refusal :=
  finish ((s.at t).laneReady lane tx (rx0, rx1))

/-- LNK_LANE_FAULT (R439): `cause` is 1 PLL, 2 signal, 3 amplitude. -/
def execLnkLaneFault (lane cause t : Nat) (s : State) : Host.Outcome State Fault Refusal := finish ((s.at t).laneFault lane cause)

/-- LANE_RETRY (R439). -/
def execLaneRetry (lane t : Nat) (s : State) : Host.Outcome State Fault Refusal := finish ((s.at t).laneRetry lane)

/-- RESTART (R440). -/
def execLaneRestart (who : Requester) (lane : Nat) (data : Word) (s : State) : Host.Outcome State Fault Refusal :=
  finish (s.trigger who (Reg.lnkLCtrl lane) 16 data)

/-- SCAN_GO (R436). -/
def execScanGo (who : Requester) (lane : Nat) (data : Word) (s : State) : Host.Outcome State Fault Refusal :=
  finish (s.trigger who (Reg.lnkLCtrl lane) 31 data)

/-- LNK_SCAN_DONE (R436): the differing bits at each point that the scan has tried, of each eye across and up. -/
def execLnkScanDone (lane : Nat) (phase volt : List ScanAxis) (t : Nat) (s : State) : Host.Outcome State Fault Refusal :=
  finish ((s.at t).scanDone lane (List.zipWith EyeScan.mk phase volt))

/-- EQ_SLEW_STEP (R438). -/
def execEqSlewStep (lane setting t : Nat) (s : State) : Host.Outcome State Fault Refusal := finish ((s.at t).slewStep lane setting)

end Sys2Proof.Machine
end

