-- ==== Sys2Proof/Machine/CmdMgmt.lean ====
section
/-! DEFINITION. The commands of management, power, temperature, security, service, start-up and shut-down (R442-R522). -/

namespace Sys2Proof.Machine

/-! ### Mailbox services (R444, R445, R482, R483) -/

/-- Service codes that have a row of their own beside STATUS. -/
def rowServices : List Nat :=
  [2, 0x10, 0x11, 0x20, 0x30, 0x31, 0x32, 0x33, 0x34, 0x35, 0x36, 0x37, 0x38, 0x39, 0x3A, 0x3B, 0x3C]

/-- STATUS (R445); a request that no row serves ends here with 0x1802. -/
def execMbStatus (channel : Nat) (host : List Byte) (t : Nat) (s : State) : Host.Outcome State Fault Refusal :=
  finish ((s.at t).svcStatusReq channel host rowServices)

/-- LOG_READ (R445, R507). -/
def execMbLogRead (channel : Nat) (host : List Byte) (t : Nat) (s : State) : Host.Outcome State Fault Refusal :=
  finish ((s.at t).openService channel host 2 State.svcLogRead)

/-- PRIV_WRITE (R445, R483). -/
def execMbPrivWrite (channel : Nat) (host : List Byte) (t : Nat) (s : State) : Host.Outcome State Fault Refusal :=
  finish (((s.at t).signedService channel host 0x10 (fun n => n == 12) ownerSigner (fun x _ p => x.svcPrivWrite p)).certCheck s)

/-- DOMAIN (R445, R447): `answers` says that the domain's regulator answers. -/
def execMbDomain (channel : Nat) (host : List Byte) (answers : Bool) (t : Nat) (s : State) : Host.Outcome State Fault Refusal :=
  finish (((s.at t).signedService channel host 0x11 (fun n => n == 8) ownerSigner (fun x _ p => x.svcDomain answers p)).certCheck s)

/-- CAL_CAPTURE (R445, R466). -/
def execMbCalCapture (channel : Nat) (host : List Byte) (t : Nat) (s : State) : Host.Outcome State Fault Refusal :=
  finish (((s.at t).signedService channel host 0x20 (fun n => n == 8) ownerSigner (fun x _ p => x.svcCalCapture p)).certCheck s)

/-- UPDATE_BEGIN (R483, R484). -/
def execMbUpdateBegin (channel : Nat) (host : List Byte) (t : Nat) (s : State) : Host.Outcome State Fault Refusal :=
  finish (((s.at t).signedService channel host 0x30 (fun n => n == 8) ownerSigner State.svcUpdateBegin).certCheck s)

/-- UPDATE_BLOCK (R483, R484): 4 to 60 KiB of data in steps of 4 KiB. -/
def execMbUpdateBlock (channel : Nat) (host : List Byte) (t : Nat) (s : State) : Host.Outcome State Fault Refusal :=
  finish (((s.at t).signedService channel host 0x31 (fun n => (n - 4) % 4096 == 0 && decide (4100 ≤ n ∧ n ≤ 61444)) ownerSigner
    (fun x _ p => x.svcUpdateBlock p)).certCheck s)

/-- UPDATE_END (R483, R484). -/
def execMbUpdateEnd (channel : Nat) (host : List Byte) (t : Nat) (s : State) : Host.Outcome State Fault Refusal :=
  finish (((s.at t).signedService channel host 0x32 (fun n => n == 0) ownerSigner (fun x _ _ => x.svcUpdateEnd)).certCheck s)

/-- ACTIVATE (R483, R485): an MG image starts with a restart of Marigold once the request has ended. -/
def execMbActivate (channel : Nat) (host : List Byte) (t : Nat) (s : State) : Host.Outcome State Fault Refusal :=
  finish (let u := (s.at t).signedService channel host 0x33 (fun n => n == 4) ownerSigner (fun x _ p => x.svcActivate p)
    let u := if activatesMg s channel host && u.fld (Reg.mgtMbStatus channel) 15 0 == 0 then u.mgRestart else u
    u.certCheck s)

/-- COMMIT (R483, R485). -/
def execMbCommit (channel : Nat) (host : List Byte) (t : Nat) (s : State) : Host.Outcome State Fault Refusal :=
  finish (((s.at t).signedService channel host 0x34 (fun n => n == 8) ownerSigner (fun x _ p => x.svcCommit p)).certCheck s)

/-- ATTEST (R483, R486). -/
def execMbAttest (channel : Nat) (host : List Byte) (t : Nat) (s : State) : Host.Outcome State Fault Refusal :=
  finish (((s.at t).signedService channel host 0x35 (fun n => n == 32) ownerSigner (fun x _ p => x.svcAttest p)).certCheck s)

/-- IDENTITY (R483). -/
def execMbIdentity (channel : Nat) (host : List Byte) (t : Nat) (s : State) : Host.Outcome State Fault Refusal :=
  finish (((s.at t).signedService channel host 0x36 (fun n => n == 0) ownerSigner (fun x _ _ => x.svcIdentity)).certCheck s)

/-- KEY_LOAD (R483, R488). -/
def execMbKeyLoad (channel : Nat) (host : List Byte) (t : Nat) (s : State) : Host.Outcome State Fault Refusal :=
  finish (((s.at t).signedService channel host 0x37 (fun n => n == 124) ownerSigner (fun x _ p => x.svcKeyLoad p)).certCheck s)

/-- KEY_CLEAR (R483). -/
def execMbKeyClear (channel : Nat) (host : List Byte) (t : Nat) (s : State) : Host.Outcome State Fault Refusal :=
  finish (((s.at t).signedService channel host 0x38 (fun n => n == 4) ownerSigner (fun x _ p => x.svcKeyClear p)).certCheck s)

/-- OWNER_ENROL (R483). -/
def execMbOwnerEnrol (channel : Nat) (host : List Byte) (t : Nat) (s : State) : Host.Outcome State Fault Refusal :=
  finish (((s.at t).signedService channel host 0x39 (fun n => n == 68) enrolSigner (fun x _ p => x.svcEnrol p)).certCheck s)

/-- OWNER_REVOKE (R483). -/
def execMbOwnerRevoke (channel : Nat) (host : List Byte) (t : Nat) (s : State) : Host.Outcome State Fault Refusal :=
  finish (((s.at t).signedService channel host 0x3A (fun n => n == 4) revokeSigner (fun x _ p => x.svcRevoke p)).certCheck s)

/-- LIFECYCLE (R473, R483). -/
def execMbLifecycle (channel : Nat) (host : List Byte) (t : Nat) (s : State) : Host.Outcome State Fault Refusal :=
  finish (((s.at t).signedService channel host 0x3B (fun n => n == 4) ownerSigner (fun x _ p => x.svcLifecycle p)).certCheck s)

/-- TEST_UNLOCK (R483, R490). -/
def execMbTestUnlock (channel : Nat) (host : List Byte) (t : Nat) (s : State) : Host.Outcome State Fault Refusal :=
  finish (((s.at t).signedService channel host 0x3C (fun n => n == 288) unlockSigner (fun x _ p => x.svcUnlock p)).certCheck s)

/-! ### Marigold and the control complex (R443, R467, R480) -/

/-- MARIGOLD_RESTART (R443). -/
def execMarigoldRestart (t : Nat) (s : State) : Host.Outcome State Fault Refusal := finish (s.at t).mgRestart

/-- MARIGOLD_READY (R443). -/
def execMarigoldReady (t : Nat) (s : State) : Host.Outcome State Fault Refusal := finish (((s.at t).mgReady).certCheck s)

/-- MGT_CPX_RESTART (R467). -/
def execMgtCpxRestart (who : Requester) (data : Word) (s : State) : Host.Outcome State Fault Refusal :=
  finish (s.trigger who Reg.mgtCpxCtrl 0 data)

/-- CPX_WATCHDOG_EXPIRE (R467). -/
def execCpxWatchdogExpire (t : Nat) (s : State) : Host.Outcome State Fault Refusal := finish (s.at t).watchdog

/-- MGT_CPX_KICK (R467). -/
def execMgtCpxKick (who : Requester) (data : Word) (s : State) : Host.Outcome State Fault Refusal :=
  finish (s.trigger who Reg.mgtCpxKick 0 data)

/-- CPX_IMAGE_RELEASE (R480). -/
def execCpxImageRelease (t : Nat) (s : State) : Host.Outcome State Fault Refusal := finish (((s.at t).cpxRelease).certCheck s)

/-! ### Power and temperature (R446-R463) -/

/-- DOMAIN_UP (R447). -/
def execDomainUp (domain t : Nat) (s : State) : Host.Outcome State Fault Refusal := finish ((s.at t).domainUp domain)

/-- REGULATOR_ON (R448, R449): the answer of the regulator, and the domains that it feeds. -/
def execRegulatorOn (answer : RegAnswer) (feeds : List Nat) (t : Nat) (s : State) : Host.Outcome State Fault Refusal :=
  finish ((s.at t).regulatorOn answer.sent answer.status feeds)

/-- HOUSEKEEPING_ROUND (R450). -/
def execHousekeepingRound (round : Round) (t : Nat) (s : State) : Host.Outcome State Fault Refusal :=
  finish ((s.at t).housekeeping round)

/-- THROTTLE_GRACE_EXPIRE (R457). -/
def execThrottleGraceExpire (t : Nat) (s : State) : Host.Outcome State Fault Refusal := finish (s.at t).graceExpire

/-- THROTTLE_HOLD_EXPIRE (R457). -/
def execThrottleHoldExpire (t : Nat) (s : State) : Host.Outcome State Fault Refusal := finish (s.at t).holdExpire

/-- THM_SENS_CLR (R451, R469). -/
def execThmSensClr (who : Requester) (data : Word) (s : State) : Host.Outcome State Fault Refusal :=
  finish (s.trigger who Reg.thmSensClr 0 data)

/-- PWR_BRACE (R460): the tile input in 10 mV. -/
def execPwrBrace (volts t : Nat) (s : State) : Host.Outcome State Fault Refusal := finish ((s.at t).brace volts)

/-- PWR_NORMAL (R460). -/
def execPwrNormal (t : Nat) (s : State) : Host.Outcome State Fault Refusal := finish (s.at t).normal

/-- PWR_FAIL (R460, R461). -/
def execPwrFail (volts t : Nat) (s : State) : Host.Outcome State Fault Refusal := finish ((s.at t).fail volts)

/-- RESTART_AFTER_STOP (R458, R461). -/
def execRestartAfterStop (t : Nat) (s : State) : Host.Outcome State Fault Refusal := finish (s.at t).restartAfterStop

/-- HOLDUP_MEASURE (R462). -/
def execHoldupMeasure (t : Nat) (s : State) : Host.Outcome State Fault Refusal := finish (s.at t).holdMeasure

/-- PWR_HOLD_MEASURED (R462): a boot record that has waited for it is stored (R485). -/
def execPwrHoldMeasured (t : Nat) (s : State) : Host.Outcome State Fault Refusal :=
  finish (if s.pwr.test.isSome && (s.at t).holdMeasured.pwr.test.isNone then (s.at t).holdMeasured.bootFlush else s)

/-- HOLDUP_MEASURE_TIMEOUT (R462). -/
def execHoldupMeasureTimeout (t : Nat) (s : State) : Host.Outcome State Fault Refusal :=
  finish (if s.pwr.test.isSome && (s.at t).holdTimeout.pwr.test.isNone then (s.at t).holdTimeout.bootFlush else s)

/-- NOC_DOMAIN_LOST (R33): an ordered stop with discharge and restart. -/
def execNocDomainLost (t : Nat) (s : State) : Host.Outcome State Fault Refusal :=
  finish (if s.domOn 3 then (s.at t).orderedStop false 0 0 else s)

/-! ### Service units and the log (R492-R508) -/

/-- The address of the register that a fence request comes through (R48, R200, R349, R493). -/
def fenceAddr : FencePort → Nat
  | .page n => n * 0x1000 + 0x20
  | .unit _ => Reg.svcUnitReq
  | .cluster n => 0x60404 + 0x1000 * (n / 8) + 0x80 * (n % 8)
  | .chain _ => Reg.bklChReq

/-- The word that makes request `r` (0 FENCE, 1 UNFENCE, 2 TEST) through a register. -/
def fenceWord (r : Nat) : FencePort → Nat
  | .page _ => 2 ^ r
  | .unit n => n % 256 + 2 ^ (8 + r)
  | .cluster _ => 2 ^ r
  | .chain n => n % 64 + 2 ^ (8 + r)

/-- FENCE (R493). -/
def execUnitFence (who : Requester) (port : FencePort) (s : State) : Host.Outcome State Fault Refusal :=
  finish (s.writeWord who (fenceAddr port) 4 (fenceWord 0 port))

/-- UNFENCE (R493, R497). -/
def execUnitUnfence (who : Requester) (port : FencePort) (s : State) : Host.Outcome State Fault Refusal :=
  finish (s.writeWord who (fenceAddr port) 4 (fenceWord 1 port))

/-- TEST (R493, R496). -/
def execUnitTest (who : Requester) (port : FencePort) (s : State) : Host.Outcome State Fault Refusal :=
  finish (s.writeWord who (fenceAddr port) 4 (fenceWord 2 port))

/-- FENCING_DRAINED (R494). -/
def execFencingDrained (unit t : Nat) (s : State) : Host.Outcome State Fault Refusal := finish ((s.at t).fencingDrained unit)

/-- SVC_TEST_DONE (R496): the result of a unit's test and its time in milliseconds. -/
def execSvcTestDone (unit result millis t : Nat) (s : State) : Host.Outcome State Fault Refusal :=
  finish ((s.at t).svcTestDone unit result millis)

/-- LOG_APPEND (R505, R506). -/
def execLogAppend (t : Nat) (s : State) : Host.Outcome State Fault Refusal := finish (s.at t).logAppend

/-- SVC_LOG_LOST (R506): something is to be logged while the stage is full. -/
def execSvcLogLost (source event severity : Nat) (data : List Byte) (t : Nat) (s : State) : Host.Outcome State Fault Refusal :=
  finish (if s.log.staged.length < 256 then s else (s.at t).logIt source event severity data)

/-! ### Reset, start-up and shut-down (R461, R479-R481, R491, R498-R501, R515-R520) -/

/-- PORST_ASSERT (R515). -/
def execPorstAssert (t : Nat) (s : State) : Host.Outcome State Fault Refusal := finish (s.at t).porst

/-- CORE_POWER_ON_RESET (R461). -/
def execCorePowerOnReset (t : Nat) (s : State) : Host.Outcome State Fault Refusal := finish (s.at t).powerOn

/-- HEP_PERST_N (R515). -/
def execHepPerstN (t : Nat) (s : State) : Host.Outcome State Fault Refusal := finish (s.at t).hepReset

/-- RESET_RELEASE (R479): the results of the known-answer tests and the level of TEST_MODE. -/
def execResetRelease (kat : List Bool) (testMode : Bool) (t : Nat) (s : State) : Host.Outcome State Fault Refusal :=
  finish (((s.at t).resetRelease kat testMode).certCheck s)

/-- RECOVERY_GO (R481). -/
def execRecoveryGo (who : Requester) (data : Word) (s : State) : Host.Outcome State Fault Refusal :=
  finish (s.trigger who Reg.secRcvCtrl 0 data)

/-- RESET_PTR (R491). -/
def execRcvResetPtr (who : Requester) (data : Word) (s : State) : Host.Outcome State Fault Refusal :=
  finish (s.trigger who Reg.secRcvCtrl 1 data)

/-- SEC_RCV_DATA (R481). -/
def execSecRcvData (who : Requester) (data : Word) (s : State) : Host.Outcome State Fault Refusal :=
  finish (s.writeWord who Reg.secRcvData 4 data.toNat)

/-- SEC_KAT_GO (R491). -/
def execSecKatGo (who : Requester) (data : Word) (s : State) : Host.Outcome State Fault Refusal :=
  finish (s.trigger who Reg.secKatCtrl 0 data)

/-- SEC_KAT_DONE (R491). -/
def execSecKatDone (kat : List Bool) (t : Nat) (s : State) : Host.Outcome State Fault Refusal :=
  finish (((s.at t).katDone kat).certCheck s)

/-- START_UP (R519): the present step ends and the next begins. -/
def execStartUp (t : Nat) (s : State) : Host.Outcome State Fault Refusal := finish (s.at t).startUp

/-- SHDN_REQ (R520). -/
def execShdnReq (t : Nat) (s : State) : Host.Outcome State Fault Refusal := finish (s.at t).shdnReq

/-- SHUTDOWN_BIST (R498, R520). -/
def execShutdownBist (t : Nat) (s : State) : Host.Outcome State Fault Refusal := finish (s.at t).shutdownBist

/-- SHUTDOWN_COMPLETE (R500, R520). -/
def execShutdownComplete (t : Nat) (s : State) : Host.Outcome State Fault Refusal := finish (s.at t).shutdownComplete

/-- SHDN_REQ_N_RELEASE (R520). -/
def execShdnReqNRelease (t : Nat) (s : State) : Host.Outcome State Fault Refusal := finish (s.at t).shdnRelease

end Sys2Proof.Machine
end

