-- ==== Sys2Proof/Machine/CmdNet.lean ====
section
/-! DEFINITION. The commands of the network paths, of failover and of network time (R352-R398). A path is 0 for A and 1 for B. -/

namespace Sys2Proof.Machine

/-! ### Frames and links (R352-R368) -/

/-- FRAME_RECEIVE (R355-R359). -/
def execFrameReceive (path : Nat) (frame : RxFrame) (t : Nat) (s : State) : Host.Outcome State Fault Refusal :=
  finish (if path < 2 then (s.at t).frameIn path frame else s)

/-- NPX_FRAG_TIMEOUT (R356). -/
def execNpxFragTimeout (path t : Nat) (s : State) : Host.Outcome State Fault Refusal :=
  finish (if path < 2 then (s.at t).fragTimeout path else s)

/-- LINK_DOWN (R353): the alignment and the local and remote fault that were found. -/
def execLinkDown (path : Nat) (aligned localFault remoteFault : Bool) (t : Nat) (s : State) : Host.Outcome State Fault Refusal :=
  finish (if path < 2 then (s.at t).linkLost path aligned localFault remoteFault else s)

/-- LINK_UP (R353). -/
def execLinkUp (path t : Nat) (s : State) : Host.Outcome State Fault Refusal :=
  finish (if path < 2 then ((s.at t).linkBack path).linkUpMark path (s.linkUp path) else s)

/-- TRANSMISSION_OPPORTUNITY (R361-R366); egress stops in an ordered stop and a shut-down (R461, R520). The last PATH_CHANGE that
leaves ends a switch-over (R376). -/
def execTransmissionOpportunity (path t : Nat) (s : State) : Host.Outcome State Fault Refusal :=
  finish (if path < 2 ∧ s.egressOn then ((s.at t).transmit path).announceEnd else s)

/-- NPX_HTX_TAIL (R360, R379). -/
def execNpxHtxTail (who : Requester) (path : Nat) (data : Word) (s : State) : Host.Outcome State Fault Refusal :=
  finish (s.writeWord who (Reg.npHtxTail path) 4 data.toNat)

/-- NPX_HRX_TAIL (R379). -/
def execNpxHrxTail (who : Requester) (path : Nat) (data : Word) (s : State) : Host.Outcome State Fault Refusal :=
  finish (s.writeWord who (Reg.npHrxTail path) 4 data.toNat)

/-- GCL_GO (R367). -/
def execGclGo (who : Requester) (path : Nat) (data : Word) (s : State) : Host.Outcome State Fault Refusal :=
  finish (s.trigger who (Reg.npGclCtrl path) 31 data)

/-- GCL_CANCEL (R367). -/
def execGclCancel (who : Requester) (path : Nat) (data : Word) (s : State) : Host.Outcome State Fault Refusal :=
  finish (s.trigger who (Reg.npGclCtrl path) 30 data)

/-- NPX_GCL_SWITCH (R367). -/
def execNpxGclSwitch (path t : Nat) (s : State) : Host.Outcome State Fault Refusal :=
  finish (if path < 2 then (s.at t).gclSwitch path else s)

/-! ### Failover (R369-R383) -/

/-- HEARTBEAT (R370): at the arbiter, or with `mirror` over the mirror link. -/
def execHeartbeat (path : Nat) (mirror : Bool) (t : Nat) (s : State) : Host.Outcome State Fault Refusal :=
  finish (if path < 2 then (s.at t).heartbeat path mirror else s)

/-- HEARTBEAT_LOSS (R374). -/
def execHeartbeatLoss (t : Nat) (s : State) : Host.Outcome State Fault Refusal := finish (s.at t).beatLoss

/-- GRANT_RELEASE (R374): `fault` says that the holder has met an internal fault. -/
def execGrantRelease (fault : Bool) (t : Nat) (s : State) : Host.Outcome State Fault Refusal := finish ((s.at t).release fault)

/-- GRANT (R374). -/
def execGrant (t : Nat) (s : State) : Host.Outcome State Fault Refusal := finish (s.at t).grant

/-- SNAPSHOT_SEND (R371). -/
def execSnapshotSend (t : Nat) (s : State) : Host.Outcome State Fault Refusal := finish (s.at t).snapSend

/-- SNAPSHOT_RECEIVE (R371, R372): `good` says that its check holds. -/
def execSnapshotReceive (good : Bool) (t : Nat) (s : State) : Host.Outcome State Fault Refusal := finish ((s.at t).snapReceive good)

/-- FOV_STALE (R372). -/
def execFovStale (t : Nat) (s : State) : Host.Outcome State Fault Refusal := finish (s.at t).mirrorLost

/-- STATE_RESTORE (R375, R376). -/
def execStateRestore (t : Nat) (s : State) : Host.Outcome State Fault Refusal := finish (s.at t).takeWarm

/-- FOV_COLD (R378). -/
def execFovCold (t : Nat) (s : State) : Host.Outcome State Fault Refusal := finish (s.at t).takeCold

/-- SWITCH (R374, R383). -/
def execFovSwitch (who : Requester) (data : Word) (s : State) : Host.Outcome State Fault Refusal :=
  finish (s.trigger who Reg.fovCtrl 8 data)

/-- ILK_FORCE (R374): the levels of the two pins. -/
def execIlkForce (a b : Bool) (t : Nat) (s : State) : Host.Outcome State Fault Refusal := finish ((s.at t).forcePins a b)

/-! ### Network time (R384-R398) -/

/-- SYNC (R386, R389). -/
def execPtpSync (path : Nat) (msg : PtpMsg) (t : Nat) (s : State) : Host.Outcome State Fault Refusal :=
  finish (if path < 2 then (s.at t).syncIn path msg else s)

/-- FOLLOW_UP (R389). -/
def execFollowUp (path : Nat) (msg : PtpMsg) (t : Nat) (s : State) : Host.Outcome State Fault Refusal :=
  finish (if path < 2 then (s.at t).followUp path msg else s)

/-- DELAY_REQ (R388). -/
def execDelayReq (path t : Nat) (s : State) : Host.Outcome State Fault Refusal :=
  finish (if path < 2 then (s.at t).delayReq path else s)

/-- DELAY_RESP (R389). -/
def execDelayResp (path : Nat) (msg : PtpMsg) (t : Nat) (s : State) : Host.Outcome State Fault Refusal :=
  finish (if path < 2 then (s.at t).delayResp path msg else s)

/-- ANNOUNCE (R388). -/
def execPtpAnnounce (path : Nat) (msg : PtpMsg) (data : AnnounceData) (t : Nat) (s : State) : Host.Outcome State Fault Refusal :=
  finish (if path < 2 then (s.at t).announceIn path msg data else s)

/-- PTP_TIMEOUT (R391). -/
def execPtpTimeout (path t : Nat) (s : State) : Host.Outcome State Fault Refusal :=
  finish (if path < 2 then (s.at t).ptpTimeout path else s)

/-- TIM_NOW_READ (R397): a read of TIM_NOW_SEC_LO captures the other NOW words. -/
def execTimNowRead (t : Nat) (s : State) : Host.Outcome State Fault Refusal :=
  finish (if s.domOn 5 then (s.at t).timCapture else s)

/-- DIE_TO_DIE_DOWN (R385). -/
def execDieToDieDown (path t : Nat) (s : State) : Host.Outcome State Fault Refusal :=
  finish (if path < 2 then (s.at t).dieLink path false else s)

/-- DIE_TO_DIE_UP (R385). -/
def execDieToDieUp (path t : Nat) (s : State) : Host.Outcome State Fault Refusal :=
  finish (if path < 2 then (s.at t).dieLink path true else s)

end Sys2Proof.Machine
end

