-- ==== Sys2Proof/Machine/CmdPanel.lean ====
section
/-! DEFINITION. The commands of panel drive, lens drive and the backlight (R298-R351). -/

namespace Sys2Proof.Machine

/-- PNL_RW_GO (R311). -/
def execPnlRwGo (who : Requester) (data : Word) (s : State) : Host.Outcome State Fault Refusal :=
  finish (s.trigger who Reg.pnlRwCtrl 0 data)

/-- PNL_OD_LOAD_GO (R313). -/
def execPnlOdLoadGo (who : Requester) (data : Word) (s : State) : Host.Outcome State Fault Refusal :=
  finish (s.trigger who Reg.pnlOdLoadCtrl 31 data)

/-- PNL_OD_LOADED (R313). -/
def execPnlOdLoaded (s : State) : Host.Outcome State Fault Refusal := finish s.odLoaded

/-- LENS_ZERO_FIELD (R319): at the first line of a lens row, a drive that has been cut falls to zero field. -/
def execLensZeroField (t : Nat) (s : State) : Host.Outcome State Fault Refusal := finish (s.at t).lensZero

/-- UP (R321). -/
def execPanelUp (who : Requester) (data : Word) (s : State) : Host.Outcome State Fault Refusal :=
  finish (s.trigger who Reg.pnlPwrCtrl 0 data)

/-- PANEL_RAIL_ON (R321, R448): the answer of the rail's regulator. -/
def execPanelRailOn (answer : RegAnswer) (t : Nat) (s : State) : Host.Outcome State Fault Refusal :=
  finish ((s.at t).panelRailOn answer.sent answer.status)

/-- PANEL_CLEARING_END (R321). -/
def execPanelClearingEnd (t : Nat) (s : State) : Host.Outcome State Fault Refusal := finish (s.at t).panelOn

/-- DOWN (R322). -/
def execPanelDown (who : Requester) (data : Word) (s : State) : Host.Outcome State Fault Refusal :=
  finish (s.trigger who Reg.pnlPwrCtrl 1 data)

/-- PANEL_RAIL_OFF (R322). -/
def execPanelRailOff (t : Nat) (s : State) : Host.Outcome State Fault Refusal := finish (s.at t).panelRailOff

/-- PNL_POWER_DONE (R329). -/
def execPnlPowerDone (s : State) : Host.Outcome State Fault Refusal := finish s.panelDone

/-- DISCHARGE_TRIGGER (R323): the trigger that is a write of PNL_PWR_CTRL.DISCHARGE; a failing supply and a crack are parts of
their own commands. -/
def execDischargeTrigger (who : Requester) (data : Word) (s : State) : Host.Outcome State Fault Refusal :=
  finish (s.trigger who Reg.pnlPwrCtrl 2 data)

/-- DISCHARGE_HOLD_EXPIRE (R323). -/
def execDischargeHoldExpire (t : Nat) (s : State) : Host.Outcome State Fault Refusal := finish (s.at t).dischExpire

/-- DISCHARGE_END (R323): a reset or an ordered stop that waited for it goes on (R461, R515). -/
def execDischargeEnd (t : Nat) (s : State) : Host.Outcome State Fault Refusal :=
  finish (if s.panel = 5 then ((s.at t).dischEnd).afterDischarge else s)

/-! ### The backlight -/

/-- BKL_SLOT (R334, R337): the slot of zone row `row` starts. -/
def execBklSlot (row t : Nat) (s : State) : Host.Outcome State Fault Refusal := finish ((s.at t).bklSlot row)

/-- BKL_FADE_GO (R343). -/
def execBklFadeGo (who : Requester) (data : Word) (s : State) : Host.Outcome State Fault Refusal :=
  finish (s.trigger who Reg.bklFade 31 data)

/-- BKL_FADE_DONE (R343). -/
def execBklFadeDone (t : Nat) (s : State) : Host.Outcome State Fault Refusal := finish (s.at t).fadeEnd

/-- The sensor matrices in use: the registers, or the calibration set that CAL_CTRL.BASE names (R346, R348). -/
def State.sensMats (s : State) : List (List Int) :=
  let l := match s.cal.getD s.mgt.calBase none with | some c => c.sens | none => []
  (List.range 8).map (fun k =>
    match (if s.flag Reg.bklCtrl 5 then l.find? (fun x => x.1 == k) else none) with
    | some x => (List.range 9).map (fun i => signedBits (bitsOf (x.2.getD (i / 2) 0) (16 * (i % 2) + 15) (16 * (i % 2))) 16)
    | none => s.sensMatrix k)

/-- WP_CYCLE (R346, R347): the readings of the eight sensors, none where a sensor did not answer. -/
def execWpCycle (reads : List (Option (List Nat))) (t : Nat) (s : State) : Host.Outcome State Fault Refusal :=
  finish (if s.domOn 23 then (s.at t).wpCycle reads s.sensMats else s)

end Sys2Proof.Machine
end

