-- ==== Sys2Proof/Machine/CmdRaster.lean ====
section
/-! DEFINITION. The commands of raster time: line starts, frame ends, the latch with the group commit, mode transitions and
the Caravan (R77-R99, and what the blocks do at those instants). -/

namespace Sys2Proof.Machine

/-- The raster runs: its domain is on and no ordered stop is in progress (R77, R461). -/
def State.rasterOn (s : State) : Bool := s.domOn 5 && !s.pwr.stop

/-- In an ordered stop the raster only paces the DISCHARGE lines of the discharge, until it ends (R323, R461; log entry 161). -/
def State.stopLines (s : State) : Bool := s.domOn 5 && s.pwr.stop && s.panel == 5

/-! ### Lines (R77, R89) -/

/-- Lines repeated on line LATCH are counted and reported with the latch edge (R89, R90). -/
def State.underrunsShow (s : State) : State :=
  if s.ras.underruns = 0 then s
  else ({ s with ras := { s.ras with underruns := 0 } }.raise 0x10000 3).add Reg.rasUnderrunCount s.ras.underruns

/-- The events of the line that starts, in ascending bit order; a ONCE comparator that matches disarms (R80, R89, R90). `latch` adds
RAS_LATCH: on line LATCH the events come with the latch edge, RAS_UNDERRUN among them. -/
def State.lineEvents (s : State) (latch : Bool) : State :=
  let s := if s.ras.line = s.ras.timing.vactive then s.raise 0x10000 0 else s
  let s := if latch then (s.raise 0x10000 1).underrunsShow else s
  (List.range 4).foldl (fun (s : State) n =>
    if s.flag (Reg.rasLmatch n) 31 && s.fld (Reg.rasLmatch n) 15 0 == s.ras.line then
      (if s.flag (Reg.rasLmatch n) 30 then s.setFlag (Reg.rasLmatch n) 31 false else s).raise 0x10000 (8 + n)
    else s) s

/-- Pages that commit by themselves at LATCH and have a request pending (R61, R86). -/
def State.ownPending (s : State) : List Nat := [0x70000, 0xB0000, 0xB1000].filter (fun b => s.flag (b + 0x1C) 1)

/-- The requests of pages that commit by themselves that came before line LATCH starts: those accepted in the latch cycle count as
after the latch (R66, R86, R87). -/
def State.latchReqsTake (s : State) : State :=
  { s with ras := { s.ras with latchReqs := s.ownPending }, lyr := { s.lyr with doneSeen := s.doneNow } }

/-- What the blocks do at the start of a line, in the order slot releases, deadlines, windows, window slots that
no tile needs any more (R120; log entry 148), link, output (R77, R203, R208, R305). -/
def State.lineActions (s : State) : State :=
  let s : State := { s with bkl := { s.bkl with slotRows := [] } }
  let s := s.crvDisabledSweep
  let s := if s.ras.line = s.ras.timing.latch then s.latchReqsTake else s.lineEvents false
  let s := if s.ras.line = s.ras.timing.vactive then s.retireBack else s
  (((s.releases).deadlines).openWindows 64).windowRelease.linkLine.outputStage

/-- LINE_START (R77, R89): line L + 1 starts. -/
def execLineStart (t : Nat) (s : State) : Host.Outcome State Fault Refusal :=
  finish (if s.rasterOn && decide (s.ras.line + 1 < s.ras.timing.vtotal) then
    let s := s.at t
    State.lineActions { s with ras := { s.ras with line := s.ras.line + 1, lineStart := s.now } }
  else if s.stopLines && decide (s.ras.line + 1 < s.ras.timing.vtotal) then
    let s := s.at t
    State.linkLine { s with ras := { s.ras with line := s.ras.line + 1, lineStart := s.now } }
  else s)

/-! ### Frames (R82-R85, R89) -/

/-- A pending group commit and a mode transition that is due keep their distance to the frames when they are relabelled from `a` to
`b` (R66, R85, R92). -/
def State.targetRetag (s : State) (a b : Nat) : State :=
  let s : State := { s with ras := { s.ras with transDue := s.ras.transDue.map (fun n => (n + b + (2 ^ 64 - a)) % 2 ^ 64) } }
  if s.flag Reg.devGcommit 1 then s.setFld Reg.devGcommit 31 16 ((s.fld Reg.devGcommit 31 16 + b % 65536 + (65536 - a % 65536)) % 65536) else s

/-- Everything tagged with a frame in the pipeline follows a relabel (R85). -/
def State.relabelled (s : State) (a b : Nat) : State :=
  if a = b then s else ((s.retag a b).lensRetag a b).targetRetag a b

/-- Bytes and units read for the layers in force: the counts are not stated, but the bytes stay within the estimate (R269, R281; log
entry 49). -/
def State.layerTraffic (s : State) : State :=
  match s.lyr.front with
  | none => s
  | some l => ((List.range 7).map (· + 1)).foldl (fun (s : State) n =>
      if l.shown n then
        let d := s.draw
        let b := d.1 % (layFrameBytes l.rd s.ras.timing n + 1)
        let u := d.2.draw
        let s := u.2
        let w := s.rd (Reg.lyrLStat n 0) + s.rd (Reg.lyrLStat n 1) * 2 ^ 32 + b
        ((s.wr (Reg.lyrLStat n 0) (w % 2 ^ 32)).wr (Reg.lyrLStat n 1) (w / 2 ^ 32 % 2 ^ 32)).add (Reg.lyrLStat n 2) u.1
      else s) s

/-- The step of a running transition at a line-0 start: frames are counted, in step 2 from the first line 0 after the last
region reached PARK; from the restart on step 5 counts (R92). -/
def State.stepLine0 (s : State) : State :=
  if s.ras.step = 0 ∨ (s.ras.step = 2 ∧ s.pnl.lens ≠ []) then s
  else if s.ras.step = 4 then { s with ras := { s.ras with step := 5, stepEnd := none, stepFrames := 0 } }
  else { s with ras := { s.ras with stepFrames := s.ras.stepFrames + 1 } }

/-- A retime that begins at this line 0 with the backlight off skips the fade-out, the lens park and the discharge (R84); the host
factor in force is still the one that step 6 goes to (R344). -/
def State.fadeSkip (s : State) (lit : Bool) : State :=
  if s.ras.transDue = some s.ras.frame then
    let s := if lit then s else s.hostRecord
    { s with ras := { s.ras with skipFade := !lit } }
  else s

/-- RAS_FRAME_DONE (R82-R85, R89): the frame ends and line 0 of the next one starts. -/
def execRasFrameDone (t : Nat) (s : State) : Host.Outcome State Fault Refusal :=
  finish (if s.rasterOn && s.ras.line + 1 == s.ras.timing.vtotal then
    let s := s.at t
    let f := s.ras.frame
    let s := s.crvFrameEnd
    let s : State := { s with ras := { s.ras with frame := (f + 1) % 2 ^ 64, line := 0, lineStart := s.now, frameStart := s.now, latched := false },
                              crv := { s.crv with firedNow := [] } }
    let s := (((s.snapUnsent.raise 0x10000 2).frameReports f).applyNextTiming).showStripes
    let s := (((s.brcFrame).rollFills).lensMapUpdate).pnlFrame.layerTraffic
    let a := s.ras.frame
    let s := s.line0Lock s.bklLit
    let s := (s.relabelled a s.ras.frame).fadeSkip s.bklLit
    (s.stepLine0).lineActions
  else if s.stopLines && s.ras.line + 1 == s.ras.timing.vtotal then
    let s := s.at t
    State.linkLine { s with ras := { s.ras with line := 0, lineStart := s.now } }
  else s)

/-! ### The latch (R63-R67, R86, R521) -/

/-- Page bases enrolled in the commit group (R63). -/
def enrolledPages : List Nat :=
  [0x10000, 0x20000, 0x50000, 0x51000, 0x52000, 0x90000, 0x91000, 0x92000, 0x93000, 0x94000, 0x95000, 0x96000, 0x97000, 0xB2000, 0xC0000]

/-- Pages that commit by themselves at this latch: their request came before it and is still pending (R61, R86, R87). -/
def State.dueAtLatch (s : State) : List Nat := s.ownPending.filter (fun b => s.ras.latchReqs.contains b)

/-- GUARD in force for the next frame: the committed one, where the page's commit takes this latch and passes its other checks (R213, R224;
log entry 113). -/
def State.guardNext (s : State) (new : Timing) : Nat :=
  bitsOf (if s.dueAtLatch.contains 0x70000 && (s.brcOwnCodes (s.takeTiming (timingFrom s.rd) new).nextT).isEmpty then s.rdShadow Reg.brcGuard
    else s.rd Reg.brcGuard) 3 0

/-- The group's checks at the commit point: (code, page base, offset) (R81, R194, R224, R282, R304, R331, R521). -/
def State.gcommitCodes (s : State) (new : Timing) : List (Nat × Nat × Nat) :=
  (s.timingCodes new).map (fun c => (c.1, 0x10000, c.2)) ++ s.synCommitCodes ++
  (if new.horizon < s.guardNext new + 8 then [(0x701, 0x10000, 0x60)] else []) ++
  s.lyrCommitCodes new ++ s.bklCommitCodes new ++ s.pnlGroupCodes new

/-- The end of a pending group commit: frame, deferrals and outcome are shown (R70). -/
def State.gcommitEnd (s : State) (outcome : Nat) : State :=
  let d := s.fld Reg.lyrStatus 19 16
  let s := s.wr Reg.devGcommitStat ((s.ras.frame + 1) % 65536 + d * 2 ^ 16 + outcome * 2 ^ 20)
  (((s.setFlag Reg.devGcommit 1 false).setFld Reg.devGcommit 31 16 0).setFld Reg.lyrStatus 19 16 0).groupWait []

/-- The enrolled instances that a group commit waits for: those FENCING or TESTING at its commit point, until they have returned to
FENCED or ACTIVE (R76). -/
def State.groupWaits (s : State) : List Nat :=
  ((List.range 7).map (112 + ·)).filter (fun u => s.unitState u == 1 || s.unitState u == 3 ||
    (s.lyr.waits.contains u && s.unitState u != 0 && s.unitState u != 2))

/-- The group commit is put off to the next latch: TARGET moves on (R67). -/
def State.gcommitLater (s : State) : State := s.setFld Reg.devGcommit 31 16 ((s.ras.frame + 2) % 65536)

/-- The group commit takes effect (R63, R65, R70, R91, R92, R273): `late` layers are hidden. -/
def State.gcommitTake (s : State) (new : Timing) (late : List Nat) : State :=
  let old := timingFrom s.rd
  let s := enrolledPages.foldl (fun (s : State) b => (s.commitPage b).setFld (b + 0x1C) 31 16 ((s.ras.frame + 1) % 65536)) s
  let s := (s.takeTiming old new).lyrCommitted new late
  let s := s.gcommitEnd (if late.isEmpty then 1 else 2)
  ((s.setFlag Reg.devGcommit 2 true).add Reg.devGcommitCount 1).raise 0x0000 0

/-- GROUP_COMMIT at the latch; the result names the layers that it hid. A request that came in the latch cycle waits for the
next latch (R66). -/
def State.groupCommit (s : State) : List Nat × State :=
  let not_ := s.notReady
  let s := s.setFld Reg.lyrStatus 15 9 (layMask not_ / 2)
  if !s.flag Reg.devGcommit 1 || s.fld Reg.devGcommit 31 16 == (s.ras.frame + 2) % 65536 then ([], s)
  else if !s.groupWaits.isEmpty then ([], (s.groupWait s.groupWaits).gcommitLater)
  else if !not_.isEmpty && decide (s.fld Reg.lyrStatus 19 16 + 1 ≤ s.fld Reg.lyrCtrl 11 8) then
    ([], (((s.groupWait []).gcommitLater).setFld Reg.lyrStatus 19 16 (s.fld Reg.lyrStatus 19 16 + 1)).add (Reg.lyrStat 0) 1 |>.raise 0x90000 0)
  else
    let new := timingFrom s.rdShadow
    match firstCheck (s.gcommitCodes new) with
    | some c => ([], ((s.gcommitEnd 3).rejectCommit c.2.1 c.2.2 c.1).raise 0x0000 1)
    | none => (not_, s.gcommitTake new not_)

/-- Tile columns that each slice owns in the plan in force. -/
def State.ownedCols (s : State) : List Nat :=
  let o := s.stripeOwner s.nextT
  (List.range 8).map (fun k => o.countP (fun x => x == k))

/-- LATCH (R86): group commit, plan, scene, lens targets, synthesis, layer and backlight settings for the next frame. -/
def execLatch (t : Nat) (s : State) : Host.Outcome State Fault Refusal :=
  finish (if s.rasterOn && s.ras.line == s.ras.timing.latch && !s.ras.latched then
    let s := s.at t
    let n := s.ras.frame + 1
    let g := s.groupCommit
    let s : State := { g.2 with ras := { g.2.ras with latched := true, commitDue := g.2.dueAtLatch, latchReqs := [] } }
    let s := ((s.planLatch).scnLatch n).stagingLatch n
    let s := (s.windowLatch s.ownedCols).lensLatch n
    let p := s.synSetFor n s.nextT (s.planesResident s.ownedCols) s.lensCols s.lensRows (s.lensClasses n)
    let s : State := { s with syn := { s.syn with back := s.syn.front, front := some p } }
    let s := ((s.lyrLatch n g.1).bklLatch n).trimLatch.thmLatch
    (s.openWindows 64).lineEvents true
  else s)

/-- RAS_FRAME_READ (R79): a read of RAS_FRAME_LO captures RAS_FRAME_HI and RAS_POS. -/
def execRasFrameRead (t : Nat) (s : State) : Host.Outcome State Fault Refusal :=
  finish (if s.domOn 5 then
    let s := s.at t
    (s.wr Reg.rasFrameHi (s.ras.frame / 2 ^ 32)).wr Reg.rasPos (s.ras.line % 65536 + s.columnAt s.now % 65536 * 65536)
  else s)

/-! ### Mode transitions (R84, R92) -/

def State.toStep (s : State) (k : Nat) (e : Option Nat) : State :=
  { s with ras := { s.ras with step := k, stepEnd := e, stepFrames := 0 } }

/-- TRANSITION_FADE_OUT: step 1 begins at line 0 of the frame it serves (R92). -/
def execTransitionFadeOut (t : Nat) (s : State) : Host.Outcome State Fault Refusal :=
  finish (if s.rasterOn && s.ras.step == 0 && s.ras.line == 0 && s.ras.transDue == some s.ras.frame && !s.ras.skipFade then
    let s := s.at t
    let s : State := { s with ras := { s.ras with transDue := none } }
    s.transFadeOut.toStep 1 (some (s.now + s.fld Reg.rasTransFade 13 0 * ms))
  else s)

/-- Whether the running fade of a transition has ended. -/
def State.fadeOver (s : State) : Bool := match s.ras.stepEnd with | some e => decide (e ≤ s.now) | none => false

/-- TRANSITION_LENS_PARK: the fade-out has ended (R92, R319). -/
def execTransitionLensPark (t : Nat) (s : State) : Host.Outcome State Fault Refusal :=
  finish (if s.rasterOn && s.ras.step == 1 && (s.at t).fadeOver then (((s.at t).fadeEnd).toStep 2 none).lensCut else s)

/-- TRANSITION_DISCHARGE: PARK_SETTLE whole frames have passed since the last region reached PARK (R92). -/
def execTransitionDischarge (t : Nat) (s : State) : Host.Outcome State Fault Refusal :=
  finish (if s.rasterOn && s.dischDue then (s.at t).toStep 3 none else s)

/-- A retime skips what is left of the frame before the restart: stamps up to it are discarded, occurrences in it skipped (R99). -/
def State.crvSkipFrame (s : State) : State :=
  s.crvArmed.foldl (fun s e =>
    if s.flag (Reg.crvW e 2) 24 then s.crvOver e
    else if !s.crvWaits e ∧ s.stampDiff (s.rd (Reg.crvW e 1)) ≤ 0 then s.crvMiss e else s) s

/-- Step 5 ends one frame after the restart where no lock can come (R92). -/
def State.reacquire (s : State) : State := { s with ras := { s.ras with holdFrames := 1 } }

/-- The new timing takes force, F is relabelled to the next T_N, at whose ideal instant the raster restarts, one line after the last
line of the frame before it began, and the Oasis is marked empty (R85, R92). The backlight works with the new timing from that frame on
(R334). -/
def State.retime (s : State) : State :=
  let s : State := { s with ras := { s.ras with timing := s.ras.newTiming.getD s.nextT, newTiming := none, nextTiming := none, transDue := none,
                                                skipFade := false } }
  let f := s.nextFrameAfter (s.deviceAt s.now - s.trim)
  let a := s.ras.frame + 1
  let start := (s.instantOf (s.idealStart f 0) - s.ras.timing.lineTime).toNat
  let s : State := { s with ras := { s.ras with line := s.ras.timing.vtotal - 1, lineStart := start, slew := 0 }, pnl := { s.pnl with codes := [] } }
  let s := (s.relabel (f + (2 ^ 64 - 1))).crvSkipFrame
  (((((s.relabelled a f).brcRetime).planRetime).bklLatch f).toStep 4 (some (s.now + s.ras.timing.lineTime))).reacquire

/-- TRANSITION_RETIME: two whole frames of discharge have passed; with the backlight off it begins at once (R84, R92). -/
def execTransitionRetime (t : Nat) (s : State) : Host.Outcome State Fault Refusal :=
  finish (if s.rasterOn && s.retimeDue then (s.at t).retime else s)

/-- TRANSITION_REACQUIRE_END: at a line-0 start in LOCKED, at least 16 frames after the restart, or in FREE or HOLDOVER one frame
after it or after holdover began; the frame that begins is written whole into the Oasis (R92). -/
def execTransitionReacquireEnd (t : Nat) (s : State) : Host.Outcome State Fault Refusal :=
  finish (if s.rasterOn && s.ras.step == 5 && s.ras.line == 0 &&
      ((s.ras.lock == 2 && decide (16 ≤ s.ras.stepFrames)) || ((s.ras.lock == 0 || s.ras.lock == 3) && decide (s.ras.holdFrames ≤ s.ras.stepFrames))) then
    (s.at t).toStep 6 none
  else s)

/-- TRANSITION_FADE_IN: the line 0 after the first whole frame (R92). -/
def execTransitionFadeIn (t : Nat) (s : State) : Host.Outcome State Fault Refusal :=
  finish (if s.rasterOn && s.ras.step == 6 && s.ras.line == 0 && s.ras.stepEnd.isNone && decide (1 ≤ s.ras.stepFrames) then
    let s := s.at t
    (s.toStep 6 (some (s.now + s.fld Reg.rasTransFade 29 16 * ms))).transFadeIn
  else s)

/-- RAS_TRANSITION_DONE: the fade-in has ended (R89, R92). -/
def execRasTransitionDone (t : Nat) (s : State) : Host.Outcome State Fault Refusal :=
  finish (if s.rasterOn && s.ras.step == 6 && (s.at t).fadeOver then
    (((s.at t).fadeEnd).toStep 0 none).raise 0x10000 5
  else s)

/-! ### The Caravan (R93-R99) -/

/-- CARAVAN_ARM (R97): word 2 of an entry is written with VALID 1. -/
def execCaravanArm (who : Requester) (entry : Nat) (data : Word) (s : State) : Host.Outcome State Fault Refusal :=
  finish (s.trigger who (Reg.crvW entry 2) 31 data)

/-- CARAVAN_DISARM (R97): word 2 of an entry is written with VALID 0. -/
def execCaravanDisarm (who : Requester) (entry : Nat) (data : Word) (s : State) : Host.Outcome State Fault Refusal :=
  finish (s.untrigger who (Reg.crvW entry 2) 31 data)

/-- NOTIFY (R96). -/
def execCrvNotify (entry t : Nat) (s : State) : Host.Outcome State Fault Refusal :=
  finish (if (s.at t).crvNext entry 0 then (s.at t).crvDispatch entry 0 true id else s)

/-- The action WRITE (R96, R99): the write as requester Caravan; a rejected one is counted. -/
def State.crvWriteOp (s : State) (addr data : Nat) : State :=
  let n := s.rd Reg.devErrTotal
  let s := s.writeWord .caravan addr 4 data
  if s.rd Reg.devErrTotal = n then s else (s.add Reg.rasCrvWfailCount 1).raise 0x11000 3

/-- WRITE (R96, R99). -/
def execCrvWrite (entry t : Nat) (s : State) : Host.Outcome State Fault Refusal :=
  finish (if (s.at t).crvNext entry 1 then
    (s.at t).crvDispatch entry 1 false (fun (x : State) => x.crvWriteOp (s.fld (Reg.crvW entry 2) 19 0 * 4) (s.rd (Reg.crvW entry 3)))
  else s)

/-- PIN_SET (R96). -/
def execPinSet (entry t : Nat) (s : State) : Host.Outcome State Fault Refusal :=
  finish (if (s.at t).crvNext entry 2 then
    (s.at t).crvDispatch entry 2 false (fun (x : State) => x.pinSetOp (s.rd (Reg.crvW entry 3)))
  else s)

/-- PIN_PULSE (R96). -/
def execPinPulse (entry t : Nat) (s : State) : Host.Outcome State Fault Refusal :=
  finish (if (s.at t).crvNext entry 3 then
    (s.at t).crvDispatch entry 3 false (fun (x : State) => x.pinPulseOp (s.rd (Reg.crvW entry 3)))
  else s)

/-- PIN_PULSE_END (R96). -/
def execPinPulseEnd (pin t : Nat) (s : State) : Host.Outcome State Fault Refusal :=
  finish (if ((s.crv.pins[pin]?).bind (fun p => p.pulseEnd)).any (fun e => decide (e ≤ max s.now t)) then (s.at t).pinPulseEndOp pin else s)

/-- TIMESTAMP (R96). -/
def execTimestamp (entry t : Nat) (s : State) : Host.Outcome State Fault Refusal :=
  finish (if (s.at t).crvNext entry 4 then
    (s.at t).crvDispatch entry 4 false (fun (x : State) => x.timestampOp entry)
  else s)

end Sys2Proof.Machine
end

