-- ==== Sys2Proof/Machine/CmdScene.lean ====
section
/-! DEFINITION. The commands of the scene store, of scene ingest and of the general MBC engines (R100-R167). -/

namespace Sys2Proof.Machine

/-! ### The scene store -/

/-- SCN_ENABLE (R130). -/
def execScnEnable (who : Requester) (data : Word) (s : State) : Host.Outcome State Fault Refusal :=
  finish (s.trigger who Reg.scnCtrl 0 data)

/-- SCN_DISABLE (R131). -/
def execScnDisable (who : Requester) (data : Word) (s : State) : Host.Outcome State Fault Refusal :=
  finish (s.untrigger who Reg.scnCtrl 0 data)

/-- SCN_STORE_RELEASE (R131): in vertical blanking after the discard. -/
def execScnStoreRelease (t : Nat) (s : State) : Host.Outcome State Fault Refusal :=
  finish (if s.scn.release && decide (s.ras.timing.vactive ≤ s.ras.line) then (s.at t).storeRelease else s)

/-- SCN_QUERY_GO (R128). -/
def execScnQueryGo (who : Requester) (data : Word) (s : State) : Host.Outcome State Fault Refusal :=
  finish (s.trigger who Reg.scnQuery 31 data)

/-- SCN_QUERY_DONE (R129). -/
def execScnQueryDone (s : State) : Host.Outcome State Fault Refusal := finish s.queryDone

/-- STAGING_OPEN (R112, R147). -/
def execStagingOpen (s : State) : Host.Outcome State Fault Refusal := finish s.openStaging

/-- STAGING_CHANGE_RESUME (R118). -/
def execStagingChangeResume (s : State) : Host.Outcome State Fault Refusal := finish s.resumeChange

/-- WINDOW_FILL (R119-R124): the fill engine takes a block that is due; the read counts for its channel (R246). -/
def execWindowFill (slice which plane bx brow : Nat) (s : State) : Host.Outcome State Fault Refusal :=
  finish (match s.fillEntry slice which plane bx brow with
    | some e => if s.fillDue slice e.addr then (s.countFill (chanOf e.addr)).windowFill slice (s.keeps slice) e else s
    | none => s)

/-! ### Ingest -/

/-- DATAGRAM_RECEIVE (R137, R140, R142): `source` 0 is the path, 1 the content store, 2 the firmware. -/
def execDatagramReceive (source : Nat) (bytes : List Byte) (reply : Option Reply) (t : Nat) (s : State) :
    Host.Outcome State Fault Refusal :=
  finish (if source = 0 then (s.at t).crossing reply bytes else (s.at t).kstArrive source none none (0, 0) bytes)

/-- DATAGRAM_APPLY (R138, R140, R142-R144): the next datagram, or in the one being applied a command that no row has: one that
breaks the payload's form, or an OP that is not listed. -/
def execDatagramApply (session : Nat) (s : State) : Host.Outcome State Fault Refusal :=
  finish (if (s.sess session).applying.isNone then s.applyNext session
  else if s.scn.waiting.isNone && s.domOn 14 then s.stepCmd session (fun o => o == 0 || decide (8 < o)) else s)

/-- KEY_ACCEPT (R145). -/
def execKeyAccept (session : Nat) (s : State) : Host.Outcome State Fault Refusal := finish (s.keyAccept session)

/-- DEFINE_PLANE (R138, OP 1). -/
def execDefinePlane (session : Nat) (s : State) : Host.Outcome State Fault Refusal := finish (s.updateCommand session 1)

/-- ALTER_PLANE (R138, OP 2). -/
def execAlterPlane (session : Nat) (s : State) : Host.Outcome State Fault Refusal := finish (s.updateCommand session 2)

/-- WRITE_BLOCK (R139, OP 3). -/
def execWriteBlock (session : Nat) (s : State) : Host.Outcome State Fault Refusal := finish (s.updateCommand session 3)

/-- COPY_REGION (R139, OP 4). -/
def execCopyRegion (session : Nat) (s : State) : Host.Outcome State Fault Refusal := finish (s.updateCommand session 4)

/-- FILL_REGION (R139, OP 5). -/
def execFillRegion (session : Nat) (s : State) : Host.Outcome State Fault Refusal := finish (s.updateCommand session 5)

/-- GLYPH_RUN (R139, OP 6). -/
def execGlyphRun (session : Nat) (s : State) : Host.Outcome State Fault Refusal := finish (s.updateCommand session 6)

/-- SET_DEPTH (R139, OP 7). -/
def execSetDepth (session : Nat) (s : State) : Host.Outcome State Fault Refusal := finish (s.updateCommand session 7)

/-- COMMIT_FRAME (R146, OP 8). -/
def execCommitFrame (session : Nat) (s : State) : Host.Outcome State Fault Refusal := finish (s.updateCommand session 8)

/-- A NACK goes out (R140, R141): the numbers it names are counted. -/
def State.nackOut (s : State) (k : Nat) : State :=
  let x := s.sess k
  let r := x.nackRanges
  let s := s.setSess k { x with nacks := x.nacks + 1, lastNack := s.now }
  let s := (s.add (Reg.ingStat 5) 1).add (Reg.ingSNacked k) (r.map (fun q => q.2)).sum
  s.sendKst k 2 (nackPayload r)

/-- NACK_SEND (R140). -/
def execNackSend (session t : Nat) (s : State) : Host.Outcome State Fault Refusal :=
  finish (if s.domOn 14 && (s.at t).nackDue session then (s.at t).nackOut session else s)

/-- GAP_TIMEOUT (R140, R150). -/
def execGapTimeout (session t : Nat) (s : State) : Host.Outcome State Fault Refusal :=
  finish (if s.domOn 14 && (s.at t).gapTimedOut session then (s.at t).toWaitKey session else s)

/-- REPORT (R151): within 10 µs of RAS_FRAME_DONE. -/
def execReportSend (session t : Nat) (s : State) : Host.Outcome State Fault Refusal :=
  finish (match (s.sess session).report with
    | some p =>
      if s.domOn 14 && decide (max s.now t ≤ s.ras.frameStart + 10 * us) then
        ((s.at t).setSess session { s.sess session with report := none }).sendKst session 3 p
      else s
    | none => s)

/-- INJECT_GO (R164). -/
def execInjectGo (who : Requester) (data : Word) (s : State) : Host.Outcome State Fault Refusal :=
  finish (s.trigger who Reg.ingInjCtrl 31 data)

/-- ING_INJECT_DONE (R153, R164). -/
def execIngInjectDone (s : State) : Host.Outcome State Fault Refusal := finish s.injectDone

/-- ING_ENABLE (R164). -/
def execIngEnable (who : Requester) (data : Word) (s : State) : Host.Outcome State Fault Refusal :=
  finish (s.trigger who Reg.ingCtrl 0 data)

/-- ING_DISABLE (R164). -/
def execIngDisable (who : Requester) (data : Word) (s : State) : Host.Outcome State Fault Refusal :=
  finish (s.untrigger who Reg.ingCtrl 0 data)

/-- SESSION_ENABLE (R134, R164). -/
def execSessionEnable (who : Requester) (session : Nat) (data : Word) (s : State) : Host.Outcome State Fault Refusal :=
  finish (s.trigger who (Reg.ingSCtrl session) 0 data)

/-- SESSION_CLOSE (R134). -/
def execSessionClose (who : Requester) (session : Nat) (data : Word) (s : State) : Host.Outcome State Fault Refusal :=
  finish (s.untrigger who (Reg.ingSCtrl session) 0 data)

/-! ### The general MBC engines -/

/-- MBC_RING_TAIL (R160). -/
def execMbcRingTail (who : Requester) (engine : Nat) (data : Word) (s : State) : Host.Outcome State Fault Refusal :=
  finish (s.writeWord who (Reg.mbcRingTail engine) 4 data.toNat)

/-- DECODE (R160, OP 0); a reserved OP is taken here, and its job ends with VALUE_RANGE. -/
def execMbcDecodeJob (engine : Nat) (s : State) : Host.Outcome State Fault Refusal :=
  finish (s.mbcTake engine (fun o => o == 0 || decide (3 ≤ o)))

/-- ENCODE (R160, OP 1). -/
def execMbcEncodeJob (engine : Nat) (s : State) : Host.Outcome State Fault Refusal := finish (s.mbcTake engine (fun o => o == 1))

/-- VERIFY (R160, OP 2). -/
def execMbcVerifyJob (engine : Nat) (s : State) : Host.Outcome State Fault Refusal := finish (s.mbcTake engine (fun o => o == 2))

/-- MBC_JOB_DONE (R160). -/
def execMbcJobDone (engine : Nat) (s : State) : Host.Outcome State Fault Refusal := finish (s.mbcJobDone engine)

/-- MBC_STOPPED (R161). -/
def execMbcStopped (engine : Nat) (s : State) : Host.Outcome State Fault Refusal := finish (s.mbcStopped engine)

/-- RESUME_OUT (R161). -/
def execMbcResumeOut (who : Requester) (engine : Nat) (s : State) : Host.Outcome State Fault Refusal :=
  finish (s.writeWord who (Reg.mbcResume engine) 4 1)

/-- RESUME_IN (R161). -/
def execMbcResumeIn (who : Requester) (engine : Nat) (s : State) : Host.Outcome State Fault Refusal :=
  finish (s.writeWord who (Reg.mbcResume engine) 4 2)

/-- CANCEL (R161). -/
def execMbcCancel (who : Requester) (engine : Nat) (s : State) : Host.Outcome State Fault Refusal :=
  finish (s.writeWord who (Reg.mbcResume engine) 4 4)

/-- MBC_DISABLE (R167). -/
def execMbcDisable (who : Requester) (engine : Nat) (data : Word) (s : State) : Host.Outcome State Fault Refusal :=
  finish (s.untrigger who (Reg.mbcCtrl engine) 0 data)

end Sys2Proof.Machine
end

