-- ==== Sys2Proof/Machine/CmdTiles.lean ====
section
/-! DEFINITION. The commands of ray synthesis, beam racing, the Oasis and Barchan (R168-R258). -/

namespace Sys2Proof.Machine

/-! ### Calibration grids (R195-R198) -/

/-- SYN_GRID_LOAD_GO (R197). -/
def execSynGridLoadGo (who : Requester) (data : Word) (s : State) : Host.Outcome State Fault Refusal :=
  finish (s.trigger who Reg.synGridLoadCtrl 31 data)

/-- SYN_GRID_LOADED (R197, R198). -/
def execSynGridLoaded (s : State) : Host.Outcome State Fault Refusal := finish s.gridLoaded

/-! ### Planning and tiles (R226-R245) -/

/-- PLANNING_START (R226). -/
def execPlanningStart (t : Nat) (s : State) : Host.Outcome State Fault Refusal := finish (s.at t).planningStart

/-- PLC_COSTMAP_DONE (R230). -/
def execPlcCostmapDone (s : State) : Host.Outcome State Fault Refusal := finish s.costMapDone

/-- CLUSTER_CLAIM (R234). -/
def execClusterClaim (cluster t : Nat) (s : State) : Host.Outcome State Fault Refusal := finish ((s.at t).claim cluster)

/-- TILE_START (R234). -/
def execTileStart (cluster t : Nat) (s : State) : Host.Outcome State Fault Refusal := finish ((s.at t).tileStart cluster)

/-- TILE_STEAL (R235, R236). -/
def execTileSteal (cluster t : Nat) (s : State) : Host.Outcome State Fault Refusal := finish ((s.at t).steal cluster)

/-- REVOKE_ARRIVE (R237). -/
def execRevokeArrive (cluster t : Nat) (s : State) : Host.Outcome State Fault Refusal := finish ((s.at t).revokeArrive cluster)

/-- RAY_RESULT_ADMIT (R206): the result of subpixel `sub` of line `line` of a tile, with the epoch it was issued under. -/
def execRayResultAdmit (frame region band col epoch sub line t : Nat) (s : State) : Host.Outcome State Fault Refusal :=
  finish ((s.at t).rayArrive { frame := frame, region := region, band := band, col := col, epoch := epoch } sub line)

/-- RESIDUE_FAILURE (R191). -/
def execResidueFailure (cluster t : Nat) (s : State) : Host.Outcome State Fault Refusal :=
  finish (if cluster < 64 then (s.at t).residueFailure cluster else s)

/-- WINDOW_ECC_ERROR (R191). -/
def execWindowEccError (slice addr : Nat) (corrected : Bool) (t : Nat) (s : State) : Host.Outcome State Fault Refusal :=
  finish ((s.at t).windowEcc slice addr corrected)

/-- SLICE_LOST (R244). -/
def execSliceLost (slice t : Nat) (s : State) : Host.Outcome State Fault Refusal := finish (((s.at t).sliceFails slice).sliceLost slice)

/-- BARCHAN_RESTART (R227). -/
def execBarchanRestart (t : Nat) (s : State) : Host.Outcome State Fault Refusal := finish (s.at t).plcRestart

/-! ### The Oasis, LUTs and snapshots (R213-R225) -/

/-- OASIS_UNIT_WRITE (R215). -/
def execOasisUnitWrite (frame region band col t : Nat) (s : State) : Host.Outcome State Fault Refusal :=
  finish ((s.at t).oasWrite { frame := frame, region := region, band := band, col := col, epoch := 0 })

/-- OASIS_CTRL_WRITE (R225). -/
def execOasisCtrlWrite (who : Requester) (data : Word) (s : State) : Host.Outcome State Fault Refusal :=
  finish (s.writeWord who Reg.brcOasCtrl 4 data.toNat)

/-- BRC_LUT_LOAD_GO (R223). -/
def execBrcLutLoadGo (who : Requester) (data : Word) (s : State) : Host.Outcome State Fault Refusal :=
  finish (s.trigger who Reg.brcLutLoadCtrl 31 data)

/-- BRC_LUT_LOADED (R223). -/
def execBrcLutLoaded (s : State) : Host.Outcome State Fault Refusal := finish s.lutLoaded

/-- SNAP_GO (R220, R225). -/
def execSnapGo (who : Requester) (data : Word) (s : State) : Host.Outcome State Fault Refusal :=
  finish (s.trigger who Reg.brcSnapCtrl 31 data)

/-- BRC_SNAP_DONE (R220). -/
def execBrcSnapDone (s : State) : Host.Outcome State Fault Refusal := finish s.snapDone

/-! ### Barchan's data placement (R230, R246-R252) -/

/-- PLC_HINT_GO (R252). -/
def execPlcHintGo (who : Requester) (data : Word) (s : State) : Host.Outcome State Fault Refusal :=
  finish (s.trigger who Reg.plcHintCtrl 31 data)

/-- PLC_COSTMAP_GO (R230). -/
def execPlcCostmapGo (who : Requester) (data : Word) (s : State) : Host.Outcome State Fault Refusal :=
  finish (s.trigger who Reg.plcCostmapCtrl 31 data)

/-- UNIT_MIGRATE (R247): the unit at `addr` moves to channel `dest`. -/
def execUnitMigrate (addr dest t : Nat) (s : State) : Host.Outcome State Fault Refusal := finish ((s.at t).migrate addr dest)

/-- PLC_EVAC_DONE (R248). -/
def execPlcEvacDone (t : Nat) (s : State) : Host.Outcome State Fault Refusal := finish (s.at t).evacDone

/-- CACHE_READAHEAD (R250): for playback engine `player`. -/
def execCacheReadahead (player t : Nat) (s : State) : Host.Outcome State Fault Refusal := finish ((s.at t).readAhead player)

end Sys2Proof.Machine
end

