-- ==== Sys2Proof/Machine/Dispatch.lean ====
section
/-! DEFINITION. One arm per command (R53 and the chapters); every arm is one call of the command's meaning. -/

namespace Sys2Proof.Machine

def exec (i : Instr) (s : State) : Host.Outcome State Fault Refusal :=
  match i with
  | .registerWrite who addr size data => Sys2Proof.Machine.execRegisterWrite who addr size data s
  | .irqForce who page data => Sys2Proof.Machine.execIrqForce who page data s
  | .commitReq who page data => Sys2Proof.Machine.execCommitReq who page data s
  | .commitCancel who page data => Sys2Proof.Machine.execCommitCancel who page data s
  | .commitTakeEffect page => Sys2Proof.Machine.execCommitTakeEffect page s
  | .gcommitReq who data => Sys2Proof.Machine.execGcommitReq who data s
  | .gcommitCancel who data => Sys2Proof.Machine.execGcommitCancel who data s
  | .devIntcEoi who data => Sys2Proof.Machine.execDevIntcEoi who data s
  | .devIntcMaskWrite who half data => Sys2Proof.Machine.execDevIntcMaskWrite who half data s
  | .devIntcRouteWrite who index data => Sys2Proof.Machine.execDevIntcRouteWrite who index data s
  | .lineStart t => Sys2Proof.Machine.execLineStart t s
  | .rasFrameDone t => Sys2Proof.Machine.execRasFrameDone t s
  | .latch t => Sys2Proof.Machine.execLatch t s
  | .rasFrameRead t => Sys2Proof.Machine.execRasFrameRead t s
  | .transitionFadeOut t => Sys2Proof.Machine.execTransitionFadeOut t s
  | .transitionLensPark t => Sys2Proof.Machine.execTransitionLensPark t s
  | .transitionDischarge t => Sys2Proof.Machine.execTransitionDischarge t s
  | .transitionRetime t => Sys2Proof.Machine.execTransitionRetime t s
  | .transitionReacquireEnd t => Sys2Proof.Machine.execTransitionReacquireEnd t s
  | .transitionFadeIn t => Sys2Proof.Machine.execTransitionFadeIn t s
  | .rasTransitionDone t => Sys2Proof.Machine.execRasTransitionDone t s
  | .caravanArm who entry data => Sys2Proof.Machine.execCaravanArm who entry data s
  | .caravanDisarm who entry data => Sys2Proof.Machine.execCaravanDisarm who entry data s
  | .crvNotify entry t => Sys2Proof.Machine.execCrvNotify entry t s
  | .crvWrite entry t => Sys2Proof.Machine.execCrvWrite entry t s
  | .pinSet entry t => Sys2Proof.Machine.execPinSet entry t s
  | .pinPulse entry t => Sys2Proof.Machine.execPinPulse entry t s
  | .pinPulseEnd pin t => Sys2Proof.Machine.execPinPulseEnd pin t s
  | .timestamp entry t => Sys2Proof.Machine.execTimestamp entry t s
  | .scnEnable who data => Sys2Proof.Machine.execScnEnable who data s
  | .scnDisable who data => Sys2Proof.Machine.execScnDisable who data s
  | .scnStoreRelease t => Sys2Proof.Machine.execScnStoreRelease t s
  | .scnQueryGo who data => Sys2Proof.Machine.execScnQueryGo who data s
  | .scnQueryDone => Sys2Proof.Machine.execScnQueryDone s
  | .stagingOpen => Sys2Proof.Machine.execStagingOpen s
  | .stagingChangeResume => Sys2Proof.Machine.execStagingChangeResume s
  | .windowFill slice which plane bx brow => Sys2Proof.Machine.execWindowFill slice which plane bx brow s
  | .datagramReceive source bytes reply t => Sys2Proof.Machine.execDatagramReceive source bytes reply t s
  | .datagramApply session => Sys2Proof.Machine.execDatagramApply session s
  | .keyAccept session => Sys2Proof.Machine.execKeyAccept session s
  | .definePlane session => Sys2Proof.Machine.execDefinePlane session s
  | .alterPlane session => Sys2Proof.Machine.execAlterPlane session s
  | .writeBlock session => Sys2Proof.Machine.execWriteBlock session s
  | .copyRegion session => Sys2Proof.Machine.execCopyRegion session s
  | .fillRegion session => Sys2Proof.Machine.execFillRegion session s
  | .glyphRun session => Sys2Proof.Machine.execGlyphRun session s
  | .setDepth session => Sys2Proof.Machine.execSetDepth session s
  | .commitFrame session => Sys2Proof.Machine.execCommitFrame session s
  | .nackSend session t => Sys2Proof.Machine.execNackSend session t s
  | .gapTimeout session t => Sys2Proof.Machine.execGapTimeout session t s
  | .reportSend session t => Sys2Proof.Machine.execReportSend session t s
  | .injectGo who data => Sys2Proof.Machine.execInjectGo who data s
  | .ingInjectDone => Sys2Proof.Machine.execIngInjectDone s
  | .ingEnable who data => Sys2Proof.Machine.execIngEnable who data s
  | .ingDisable who data => Sys2Proof.Machine.execIngDisable who data s
  | .sessionEnable who session data => Sys2Proof.Machine.execSessionEnable who session data s
  | .sessionClose who session data => Sys2Proof.Machine.execSessionClose who session data s
  | .mbcRingTail who engine data => Sys2Proof.Machine.execMbcRingTail who engine data s
  | .mbcDecodeJob engine => Sys2Proof.Machine.execMbcDecodeJob engine s
  | .mbcEncodeJob engine => Sys2Proof.Machine.execMbcEncodeJob engine s
  | .mbcVerifyJob engine => Sys2Proof.Machine.execMbcVerifyJob engine s
  | .mbcJobDone engine => Sys2Proof.Machine.execMbcJobDone engine s
  | .mbcStopped engine => Sys2Proof.Machine.execMbcStopped engine s
  | .mbcResumeOut who engine => Sys2Proof.Machine.execMbcResumeOut who engine s
  | .mbcResumeIn who engine => Sys2Proof.Machine.execMbcResumeIn who engine s
  | .mbcCancel who engine => Sys2Proof.Machine.execMbcCancel who engine s
  | .mbcDisable who engine data => Sys2Proof.Machine.execMbcDisable who engine data s
  | .synGridLoadGo who data => Sys2Proof.Machine.execSynGridLoadGo who data s
  | .synGridLoaded => Sys2Proof.Machine.execSynGridLoaded s
  | .planningStart t => Sys2Proof.Machine.execPlanningStart t s
  | .plcCostmapDone => Sys2Proof.Machine.execPlcCostmapDone s
  | .clusterClaim cluster t => Sys2Proof.Machine.execClusterClaim cluster t s
  | .tileStart cluster t => Sys2Proof.Machine.execTileStart cluster t s
  | .tileSteal cluster t => Sys2Proof.Machine.execTileSteal cluster t s
  | .revokeArrive cluster t => Sys2Proof.Machine.execRevokeArrive cluster t s
  | .rayResultAdmit frame region band col epoch sub line t => Sys2Proof.Machine.execRayResultAdmit frame region band col epoch sub line t s
  | .residueFailure cluster t => Sys2Proof.Machine.execResidueFailure cluster t s
  | .windowEccError slice addr corrected t => Sys2Proof.Machine.execWindowEccError slice addr corrected t s
  | .sliceLost slice t => Sys2Proof.Machine.execSliceLost slice t s
  | .oasisUnitWrite frame region band col t => Sys2Proof.Machine.execOasisUnitWrite frame region band col t s
  | .oasisCtrlWrite who data => Sys2Proof.Machine.execOasisCtrlWrite who data s
  | .brcLutLoadGo who data => Sys2Proof.Machine.execBrcLutLoadGo who data s
  | .brcLutLoaded => Sys2Proof.Machine.execBrcLutLoaded s
  | .snapGo who data => Sys2Proof.Machine.execSnapGo who data s
  | .brcSnapDone => Sys2Proof.Machine.execBrcSnapDone s
  | .plcHintGo who data => Sys2Proof.Machine.execPlcHintGo who data s
  | .plcCostmapGo who data => Sys2Proof.Machine.execPlcCostmapGo who data s
  | .unitMigrate addr dest t => Sys2Proof.Machine.execUnitMigrate addr dest t s
  | .plcEvacDone t => Sys2Proof.Machine.execPlcEvacDone t s
  | .cacheReadahead player t => Sys2Proof.Machine.execCacheReadahead player t s
  | .barchanRestart t => Sys2Proof.Machine.execBarchanRestart t s
  | .lyrDoneWrite who layer data => Sys2Proof.Machine.execLyrDoneWrite who layer data s
  | .lyrFaultDrop layer t => Sys2Proof.Machine.execLyrFaultDrop layer t s
  | .bltRingTail who data => Sys2Proof.Machine.execBltRingTail who data s
  | .bltCopy bursts t => Sys2Proof.Machine.execBltCopy bursts t s
  | .bltFill bursts t => Sys2Proof.Machine.execBltFill bursts t s
  | .bltGlyph bursts t => Sys2Proof.Machine.execBltGlyph bursts t s
  | .bltHeld => Sys2Proof.Machine.execBltHeld s
  | .bltRelease who data => Sys2Proof.Machine.execBltRelease who data s
  | .bltDone => Sys2Proof.Machine.execBltDone s
  | .bltDisable who data => Sys2Proof.Machine.execBltDisable who data s
  | .pnlRwGo who data => Sys2Proof.Machine.execPnlRwGo who data s
  | .pnlOdLoadGo who data => Sys2Proof.Machine.execPnlOdLoadGo who data s
  | .pnlOdLoaded => Sys2Proof.Machine.execPnlOdLoaded s
  | .lensZeroField t => Sys2Proof.Machine.execLensZeroField t s
  | .panelUp who data => Sys2Proof.Machine.execPanelUp who data s
  | .panelRailOn answer t => Sys2Proof.Machine.execPanelRailOn answer t s
  | .panelClearingEnd t => Sys2Proof.Machine.execPanelClearingEnd t s
  | .panelDown who data => Sys2Proof.Machine.execPanelDown who data s
  | .panelRailOff t => Sys2Proof.Machine.execPanelRailOff t s
  | .pnlPowerDone => Sys2Proof.Machine.execPnlPowerDone s
  | .dischargeTrigger who data => Sys2Proof.Machine.execDischargeTrigger who data s
  | .dischargeHoldExpire t => Sys2Proof.Machine.execDischargeHoldExpire t s
  | .dischargeEnd t => Sys2Proof.Machine.execDischargeEnd t s
  | .bklSlot row t => Sys2Proof.Machine.execBklSlot row t s
  | .bklFadeGo who data => Sys2Proof.Machine.execBklFadeGo who data s
  | .bklFadeDone t => Sys2Proof.Machine.execBklFadeDone t s
  | .wpCycle reads t => Sys2Proof.Machine.execWpCycle reads t s
  | .frameReceive path frame t => Sys2Proof.Machine.execFrameReceive path frame t s
  | .npxFragTimeout path t => Sys2Proof.Machine.execNpxFragTimeout path t s
  | .linkDown path aligned localFault remoteFault t => Sys2Proof.Machine.execLinkDown path aligned localFault remoteFault t s
  | .linkUp path t => Sys2Proof.Machine.execLinkUp path t s
  | .transmissionOpportunity path t => Sys2Proof.Machine.execTransmissionOpportunity path t s
  | .npxHtxTail who path data => Sys2Proof.Machine.execNpxHtxTail who path data s
  | .npxHrxTail who path data => Sys2Proof.Machine.execNpxHrxTail who path data s
  | .gclGo who path data => Sys2Proof.Machine.execGclGo who path data s
  | .gclCancel who path data => Sys2Proof.Machine.execGclCancel who path data s
  | .npxGclSwitch path t => Sys2Proof.Machine.execNpxGclSwitch path t s
  | .heartbeat path mirror t => Sys2Proof.Machine.execHeartbeat path mirror t s
  | .heartbeatLoss t => Sys2Proof.Machine.execHeartbeatLoss t s
  | .grantRelease fault t => Sys2Proof.Machine.execGrantRelease fault t s
  | .grant t => Sys2Proof.Machine.execGrant t s
  | .snapshotSend t => Sys2Proof.Machine.execSnapshotSend t s
  | .snapshotReceive good t => Sys2Proof.Machine.execSnapshotReceive good t s
  | .fovStale t => Sys2Proof.Machine.execFovStale t s
  | .stateRestore t => Sys2Proof.Machine.execStateRestore t s
  | .fovCold t => Sys2Proof.Machine.execFovCold t s
  | .fovSwitch who data => Sys2Proof.Machine.execFovSwitch who data s
  | .ilkForce a b t => Sys2Proof.Machine.execIlkForce a b t s
  | .ptpSync path msg t => Sys2Proof.Machine.execPtpSync path msg t s
  | .followUp path msg t => Sys2Proof.Machine.execFollowUp path msg t s
  | .delayReq path t => Sys2Proof.Machine.execDelayReq path t s
  | .delayResp path msg t => Sys2Proof.Machine.execDelayResp path msg t s
  | .ptpAnnounce path msg data t => Sys2Proof.Machine.execPtpAnnounce path msg data t s
  | .ptpTimeout path t => Sys2Proof.Machine.execPtpTimeout path t s
  | .timNowRead t => Sys2Proof.Machine.execTimNowRead t s
  | .dramRead client realTime addr found act idle t => Sys2Proof.Machine.execDramRead client realTime addr found act idle t s
  | .dramWrite client realTime addr bytes act idle t => Sys2Proof.Machine.execDramWrite client realTime addr bytes act idle t s
  | .trefi channel t => Sys2Proof.Machine.execTrefi channel t s
  | .hardBoundary channel raster t => Sys2Proof.Machine.execHardBoundary channel raster t s
  | .softBoundary channel t => Sys2Proof.Machine.execSoftBoundary channel t s
  | .dmcCaParity channel replays t => Sys2Proof.Machine.execDmcCaParity channel replays t s
  | .scrubRead channel err bit t => Sys2Proof.Machine.execScrubRead channel err bit t s
  | .dramTraining channel modules temp verify memory full t => Sys2Proof.Machine.execDramTraining channel modules temp verify memory full t s
  | .dqsDriftCheck channel steps t => Sys2Proof.Machine.execDqsDriftCheck channel steps t s
  | .dmcRestore who data => Sys2Proof.Machine.execDmcRestore who data s
  | .dimmPwr who channel data => Sys2Proof.Machine.execDimmPwr who channel data s
  | .driveInsert drive copies capacity format generation width health t => Sys2Proof.Machine.execDriveInsert drive copies capacity format generation width health t s
  | .driveSurpriseRemove loss t => Sys2Proof.Machine.execDriveSurpriseRemove loss t s
  | .nvmeCommandTimeout drive late t => Sys2Proof.Machine.execNvmeCommandTimeout drive late t s
  | .driveInit who drive data => Sys2Proof.Machine.execDriveInit who drive data s
  | .segmentWrite who data => Sys2Proof.Machine.execSegmentWrite who data s
  | .segmentQuery who data => Sys2Proof.Machine.execSegmentQuery who data s
  | .segmentDelete who data => Sys2Proof.Machine.execSegmentDelete who data s
  | .playbackGo who player data => Sys2Proof.Machine.execPlaybackGo who player data s
  | .playbackStop who player data => Sys2Proof.Machine.execPlaybackStop who player data s
  | .playbackDeliver player t => Sys2Proof.Machine.execPlaybackDeliver player t s
  | .nvsPbDone player t => Sys2Proof.Machine.execNvsPbDone player t s
  | .nvsPbLost player t => Sys2Proof.Machine.execNvsPbLost player t s
  | .nvsFallback t => Sys2Proof.Machine.execNvsFallback t s
  | .nvsFallbackEnd t => Sys2Proof.Machine.execNvsFallbackEnd t s
  | .laneEnable lane t => Sys2Proof.Machine.execLaneEnable lane t s
  | .lnkLaneReady lane tx rx0 rx1 t => Sys2Proof.Machine.execLnkLaneReady lane tx rx0 rx1 t s
  | .lnkLaneFault lane cause t => Sys2Proof.Machine.execLnkLaneFault lane cause t s
  | .laneRetry lane t => Sys2Proof.Machine.execLaneRetry lane t s
  | .laneRestart who lane data => Sys2Proof.Machine.execLaneRestart who lane data s
  | .scanGo who lane data => Sys2Proof.Machine.execScanGo who lane data s
  | .lnkScanDone lane phase volt t => Sys2Proof.Machine.execLnkScanDone lane phase volt t s
  | .eqSlewStep lane setting t => Sys2Proof.Machine.execEqSlewStep lane setting t s
  | .marigoldRestart t => Sys2Proof.Machine.execMarigoldRestart t s
  | .mbStatus channel host t => Sys2Proof.Machine.execMbStatus channel host t s
  | .mbLogRead channel host t => Sys2Proof.Machine.execMbLogRead channel host t s
  | .mbPrivWrite channel host t => Sys2Proof.Machine.execMbPrivWrite channel host t s
  | .mbDomain channel host answers t => Sys2Proof.Machine.execMbDomain channel host answers t s
  | .domainUp domain t => Sys2Proof.Machine.execDomainUp domain t s
  | .mbCalCapture channel host t => Sys2Proof.Machine.execMbCalCapture channel host t s
  | .mbUpdateBegin channel host t => Sys2Proof.Machine.execMbUpdateBegin channel host t s
  | .mbUpdateBlock channel host t => Sys2Proof.Machine.execMbUpdateBlock channel host t s
  | .mbUpdateEnd channel host t => Sys2Proof.Machine.execMbUpdateEnd channel host t s
  | .mbActivate channel host t => Sys2Proof.Machine.execMbActivate channel host t s
  | .mbCommit channel host t => Sys2Proof.Machine.execMbCommit channel host t s
  | .mbAttest channel host t => Sys2Proof.Machine.execMbAttest channel host t s
  | .mbIdentity channel host t => Sys2Proof.Machine.execMbIdentity channel host t s
  | .mbKeyLoad channel host t => Sys2Proof.Machine.execMbKeyLoad channel host t s
  | .mbKeyClear channel host t => Sys2Proof.Machine.execMbKeyClear channel host t s
  | .mbOwnerEnrol channel host t => Sys2Proof.Machine.execMbOwnerEnrol channel host t s
  | .mbOwnerRevoke channel host t => Sys2Proof.Machine.execMbOwnerRevoke channel host t s
  | .mbLifecycle channel host t => Sys2Proof.Machine.execMbLifecycle channel host t s
  | .mbTestUnlock channel host t => Sys2Proof.Machine.execMbTestUnlock channel host t s
  | .mgtCpxRestart who data => Sys2Proof.Machine.execMgtCpxRestart who data s
  | .cpxWatchdogExpire t => Sys2Proof.Machine.execCpxWatchdogExpire t s
  | .mgtCpxKick who data => Sys2Proof.Machine.execMgtCpxKick who data s
  | .housekeepingRound round t => Sys2Proof.Machine.execHousekeepingRound round t s
  | .throttleGraceExpire t => Sys2Proof.Machine.execThrottleGraceExpire t s
  | .throttleHoldExpire t => Sys2Proof.Machine.execThrottleHoldExpire t s
  | .thmSensClr who data => Sys2Proof.Machine.execThmSensClr who data s
  | .pwrBrace volts t => Sys2Proof.Machine.execPwrBrace volts t s
  | .pwrNormal t => Sys2Proof.Machine.execPwrNormal t s
  | .pwrFail volts t => Sys2Proof.Machine.execPwrFail volts t s
  | .restartAfterStop t => Sys2Proof.Machine.execRestartAfterStop t s
  | .holdupMeasure t => Sys2Proof.Machine.execHoldupMeasure t s
  | .pwrHoldMeasured t => Sys2Proof.Machine.execPwrHoldMeasured t s
  | .holdupMeasureTimeout t => Sys2Proof.Machine.execHoldupMeasureTimeout t s
  | .regulatorOn answer feeds t => Sys2Proof.Machine.execRegulatorOn answer feeds t s
  | .unitFence who port => Sys2Proof.Machine.execUnitFence who port s
  | .unitUnfence who port => Sys2Proof.Machine.execUnitUnfence who port s
  | .unitTest who port => Sys2Proof.Machine.execUnitTest who port s
  | .fencingDrained unit t => Sys2Proof.Machine.execFencingDrained unit t s
  | .svcTestDone unit result millis t => Sys2Proof.Machine.execSvcTestDone unit result millis t s
  | .logAppend t => Sys2Proof.Machine.execLogAppend t s
  | .svcLogLost source event severity data t => Sys2Proof.Machine.execSvcLogLost source event severity data t s
  | .porstAssert t => Sys2Proof.Machine.execPorstAssert t s
  | .resetRelease kat testMode t => Sys2Proof.Machine.execResetRelease kat testMode t s
  | .recoveryGo who data => Sys2Proof.Machine.execRecoveryGo who data s
  | .rcvResetPtr who data => Sys2Proof.Machine.execRcvResetPtr who data s
  | .secRcvData who data => Sys2Proof.Machine.execSecRcvData who data s
  | .secKatGo who data => Sys2Proof.Machine.execSecKatGo who data s
  | .cpxImageRelease t => Sys2Proof.Machine.execCpxImageRelease t s
  | .startUp t => Sys2Proof.Machine.execStartUp t s
  | .shdnReq t => Sys2Proof.Machine.execShdnReq t s
  | .shutdownBist t => Sys2Proof.Machine.execShutdownBist t s
  | .shutdownComplete t => Sys2Proof.Machine.execShutdownComplete t s
  | .hepPerstN t => Sys2Proof.Machine.execHepPerstN t s
  | .shdnReqNRelease t => Sys2Proof.Machine.execShdnReqNRelease t s
  | .corePowerOnReset t => Sys2Proof.Machine.execCorePowerOnReset t s
  | .marigoldReady t => Sys2Proof.Machine.execMarigoldReady t s
  | .nvsSegwDone t => Sys2Proof.Machine.execNvsSegwDone t s
  | .nvsSegopDone t => Sys2Proof.Machine.execNvsSegopDone t s
  | .dieToDieDown path t => Sys2Proof.Machine.execDieToDieDown path t s
  | .dieToDieUp path t => Sys2Proof.Machine.execDieToDieUp path t s
  | .nocDomainLost t => Sys2Proof.Machine.execNocDomainLost t s
  | .secKatDone kat t => Sys2Proof.Machine.execSecKatDone kat t s

end Sys2Proof.Machine
end

