-- ==== Sys2Proof/Safety.lean ====
section
/-! DEFINITION. What the statements speak of: sparse data in canonical form, answered vectors, the parts of the state, what a
command may touch, runs of several steps, and what it is for a write to be accepted. -/

namespace Sys2Proof.Machine

/-! ### Good states -/

/-- DRAM in its canonical form: addresses strictly rising, no entry equal to what an unlisted byte reads as. -/
def Memory.wf (m : Sparse Byte) : Bool := Sparse.wf dramDefault m

/-- The registers in their canonical form: addresses strictly rising, no entry equal to the word's reset value. -/
def Regs.wf (m : Sparse Word) : Bool := Sparse.wf resetWord m

/-- Every vector that is asserted and unmasked has sent its message, and no other counts as sent; none is pending in the MSI-X table
but such a vector whose entry there is masked (R75). -/
def State.vectorsSettled (s : State) : Prop :=
  s.msiSent = s.live ∧ s.msixPend = Nat.land (Nat.land s.msixPend s.live) s.msixMask

/-- The invariant of every step. -/
structure State.Good (s : State) : Prop where
  regs : Regs.wf s.regs = true
  dram : Memory.wf s.dram = true
  vectors : s.vectorsSettled

/-- What has left the package, the messages of the vectors apart. -/
def State.sent (s : State) : List Out := s.out.filter (fun o => match o with | .msix _ => false | _ => true)

/-! ### Runs -/

/-- The state after `n` steps; none where a step stops. -/
def State.after : Nat → State → Option State
  | 0, s => some s
  | n + 1, s => match step s with
    | .next u => u.after n
    | _ => none

/-! ### The parts of the state -/

/-- The parts of the state beside the registers, the queue and the messages of the vectors. -/
inductive Part where
  /-- Raster time (R77-R92). -/
  | ras
  /-- The Caravan (R93-R99). -/
  | crv
  /-- Staged log entries (R504-R506). -/
  | log
  /-- The scene store (R100-R133). -/
  | scn
  /-- Ingest (R134-R155). -/
  | ing
  /-- The general MBC engines (R156-R167). -/
  | mbc
  /-- Ray synthesis settings (R168-R198). -/
  | syn
  /-- Ray clusters (R199-R204). -/
  | clusters
  /-- Barchan (R226-R258). -/
  | plc
  /-- Beam racing and the Oasis (R203-R225). -/
  | brc
  /-- The flat layers (R259-R283). -/
  | lyr
  /-- The panel drive (R298-R329). -/
  | pnl
  /-- The backlight (R330-R351). -/
  | bkl
  /-- The blitter (R284-R297). -/
  | blt
  /-- Bytes of DRAM (R399-R407). -/
  | dram
  /-- Poisoned lines (R406). -/
  | poison
  /-- The modules fitted (R399). -/
  | dimms
  /-- Device time at the anchor (R384). -/
  | timBase
  /-- The anchor (R384). -/
  | timAnchor
  /-- The rate of device time (R393). -/
  | timRate
  /-- The servo of network time (R384-R398). -/
  | tim
  /-- The network paths (R352-R368). -/
  | net
  /-- Failover (R369-R383). -/
  | fov
  /-- Calibration images (R464-R466). -/
  | cal
  /-- DRAM controllers (R399-R415). -/
  | dmc
  /-- The content store (R416-R428). -/
  | nvs
  /-- Serial lanes (R429-R441). -/
  | lanes
  /-- Marigold (R442-R445). -/
  | mgt
  /-- Power (R446-R463). -/
  | pwr
  /-- Throttling (R451-R459). -/
  | thm
  /-- Security (R464-R491). -/
  | secu
  /-- Service units (R492-R503). -/
  | svc
  /-- The instant (the model's own field). -/
  | now
  /-- How many free values have been drawn (the model's own field). -/
  | free
  /-- The shadow of the committed settings (R61). -/
  | shadow
  /-- What has left the package, the messages of the vectors apart. -/
  | sent
  /-- The mask bits of the MSI-X table (R75). -/
  | msixTable
  /-- Calibration sets that wait for the next housekeeping round (R485). -/
  | calNext
  deriving DecidableEq, Repr

/-- Every part. -/
def Part.all : List Part :=
  [.ras, .crv, .log, .scn, .ing, .mbc, .syn, .clusters, .plc, .brc, .lyr, .pnl,
   .bkl, .blt, .dram, .poison, .dimms, .timBase, .timAnchor, .timRate, .tim, .net, .fov, .cal,
   .dmc, .nvs, .lanes, .mgt, .pwr, .thm, .secu, .svc,
   .now, .free, .shadow, .sent, .msixTable, .calNext]

/-- A part is the same in two states. -/
def Part.same : Part → State → State → Prop
  | .ras, s, t => t.ras = s.ras
  | .crv, s, t => t.crv = s.crv
  | .log, s, t => t.log = s.log
  | .scn, s, t => t.scn = s.scn
  | .ing, s, t => t.ing = s.ing
  | .mbc, s, t => t.mbc = s.mbc
  | .syn, s, t => t.syn = s.syn
  | .clusters, s, t => t.clusters = s.clusters
  | .plc, s, t => t.plc = s.plc
  | .brc, s, t => t.brc = s.brc
  | .lyr, s, t => t.lyr = s.lyr
  | .pnl, s, t => t.pnl = s.pnl
  | .bkl, s, t => t.bkl = s.bkl
  | .blt, s, t => t.blt = s.blt
  | .dram, s, t => t.dram = s.dram
  | .poison, s, t => t.poison = s.poison
  | .dimms, s, t => t.dimms = s.dimms
  | .timBase, s, t => t.timBase = s.timBase
  | .timAnchor, s, t => t.timAnchor = s.timAnchor
  | .timRate, s, t => t.timRate = s.timRate
  | .tim, s, t => t.tim = s.tim
  | .net, s, t => t.net = s.net
  | .fov, s, t => t.fov = s.fov
  | .cal, s, t => t.cal = s.cal
  | .dmc, s, t => t.dmc = s.dmc
  | .nvs, s, t => t.nvs = s.nvs
  | .lanes, s, t => t.lanes = s.lanes
  | .mgt, s, t => t.mgt = s.mgt
  | .pwr, s, t => t.pwr = s.pwr
  | .thm, s, t => t.thm = s.thm
  | .secu, s, t => t.secu = s.secu
  | .svc, s, t => t.svc = s.svc
  | .now, s, t => t.now = s.now
  | .free, s, t => t.free = s.free
  | .shadow, s, t => t.shadow = s.shadow
  | .sent, s, t => t.sent = s.sent
  | .msixTable, s, t => t.msixMask = s.msixMask
  | .calNext, s, t => t.calNext = s.calNext

/-- Every part but those listed. -/
def allBut (l : List Part) : List Part := Part.all.filter (fun p => !l.contains p)

/-- What a request in a FENCE register can touch: the unit's work and its service state (R48, R493-R497). -/
def fenceParts : List Part := [.mbc, .clusters, .plc, .brc, .bkl, .dram, .poison, .dmc, .svc]

/-- What a write behind the header of a block's page can touch, by block code (R37). -/
def blockParts (code : Nat) : List Part :=
  if code = 0x00 then [.lyr] else if code = 0x01 then [.crv] else if code = 0x02 then [.scn, .plc] else if code = 0x03 then [.scn, .ing, .nvs, .secu]
  else if code = 0x04 then [.mbc, .dram, .poison] else if code = 0x05 then [.syn] else if code = 0x06 then fenceParts
  else if code = 0x07 then [.brc] else if code = 0x08 then [.plc] else if code = 0x0A then [.blt] else if code = 0x0B then [.ras, .pnl, .bkl, .lanes, .sent]
  else if code = 0x0C then fenceParts
  else if code = 0x10 ∨ code = 0x11 then [.ras, .log, .dram, .poison, .timBase, .timAnchor, .timRate, .tim, .net, .fov, .lanes]
  else if code = 0x12 then [.fov] else if code = 0x14 then [.dram, .poison, .dmc, .sent]
  else if code = 0x15 then [.nvs, .pwr, .free, .sent]
  else if code = 0x16 then [.pnl, .lanes, .sent] else if code = 0x18 then [.mgt]
  else if code = 0x19 then allBut [.dimms, .cal, .thm, .secu, .now, .free, .sent, .msixTable, .calNext]
  else if code = 0x1A then [.thm] else if code = 0x1C then [.mgt, .pwr, .secu, .free] else if code = 0x1D then fenceParts
  else []

/-- What a write to a register can touch: in a header, COMMIT and FENCE alone (R42-R49); behind it, what its block keeps, the
shadow of a committed setting (R61), and the log, for a change of IN_CONFIG (R487). -/
def writeParts (addr : Nat) : List Part :=
  let a := addr % 0x400000
  if a % 0x1000 = 0x1C then [.ras] else if a % 0x1000 = 0x20 then fenceParts else if a % 0x1000 < 0x40 then []
  else .log :: .shadow :: blockParts (a / 0x10000)

/-- The parts that a command may touch; it leaves every other as it is. -/
def touches : Instr → List Part
  | .irqForce _ page _ => writeParts (page * 0x1000 + 0x18)
  | .commitReq _ page _ => writeParts (page * 0x1000 + 0x1C)
  | .commitCancel _ page _ => writeParts (page * 0x1000 + 0x1C)
  | .gcommitReq _ _ => writeParts Reg.devGcommit
  | .gcommitCancel _ _ => writeParts Reg.devGcommit
  | .devIntcEoi _ _ => writeParts Reg.devIntcEoi
  | .devIntcMaskWrite _ half _ => writeParts (if half = 0 then Reg.devIntcMaskLo else Reg.devIntcMaskHi)
  | .devIntcRouteWrite _ index _ => writeParts (Reg.devIntcRoute index)
  | .caravanArm _ entry _ => writeParts (Reg.crvW entry 2)
  | .caravanDisarm _ entry _ => writeParts (Reg.crvW entry 2)
  | .scnEnable _ _ => writeParts Reg.scnCtrl
  | .scnDisable _ _ => writeParts Reg.scnCtrl
  | .scnQueryGo _ _ => writeParts Reg.scnQuery
  | .injectGo _ _ => writeParts Reg.ingInjCtrl
  | .ingEnable _ _ => writeParts Reg.ingCtrl
  | .ingDisable _ _ => writeParts Reg.ingCtrl
  | .sessionEnable _ session _ => writeParts (Reg.ingSCtrl session)
  | .sessionClose _ session _ => writeParts (Reg.ingSCtrl session)
  | .mbcRingTail _ engine _ => writeParts (Reg.mbcRingTail engine)
  | .mbcResumeOut _ engine => writeParts (Reg.mbcResume engine)
  | .mbcResumeIn _ engine => writeParts (Reg.mbcResume engine)
  | .mbcCancel _ engine => writeParts (Reg.mbcResume engine)
  | .mbcDisable _ engine _ => writeParts (Reg.mbcCtrl engine)
  | .synGridLoadGo _ _ => writeParts Reg.synGridLoadCtrl
  | .oasisCtrlWrite _ _ => writeParts Reg.brcOasCtrl
  | .brcLutLoadGo _ _ => writeParts Reg.brcLutLoadCtrl
  | .snapGo _ _ => writeParts Reg.brcSnapCtrl
  | .plcHintGo _ _ => writeParts Reg.plcHintCtrl
  | .plcCostmapGo _ _ => writeParts Reg.plcCostmapCtrl
  | .lyrDoneWrite _ layer _ => writeParts (Reg.lyrLDone layer)
  | .bltRingTail _ _ => writeParts Reg.bltRingTail
  | .bltRelease _ _ => writeParts Reg.bltRelease
  | .bltDisable _ _ => writeParts Reg.bltCtrl
  | .pnlRwGo _ _ => writeParts Reg.pnlRwCtrl
  | .pnlOdLoadGo _ _ => writeParts Reg.pnlOdLoadCtrl
  | .panelUp _ _ => writeParts Reg.pnlPwrCtrl
  | .panelDown _ _ => writeParts Reg.pnlPwrCtrl
  | .dischargeTrigger _ _ => writeParts Reg.pnlPwrCtrl
  | .bklFadeGo _ _ => writeParts Reg.bklFade
  | .npxHtxTail _ path _ => writeParts (Reg.npHtxTail path)
  | .npxHrxTail _ path _ => writeParts (Reg.npHrxTail path)
  | .gclGo _ path _ => writeParts (Reg.npGclCtrl path)
  | .gclCancel _ path _ => writeParts (Reg.npGclCtrl path)
  | .fovSwitch _ _ => writeParts Reg.fovCtrl
  | .dmcRestore _ _ => writeParts Reg.dmcTrainCtrl
  | .dimmPwr _ channel _ => writeParts (Reg.dmcChCtrl channel)
  | .driveInit _ drive _ => writeParts (Reg.nvsDCtrl drive)
  | .segmentWrite _ _ => writeParts Reg.nvsSegwCtrl
  | .segmentQuery _ _ => writeParts Reg.nvsSegop
  | .segmentDelete _ _ => writeParts Reg.nvsSegop
  | .playbackGo _ player _ => writeParts (Reg.nvsPbCtrl player)
  | .playbackStop _ player _ => writeParts (Reg.nvsPbCtrl player)
  | .laneRestart _ lane _ => writeParts (Reg.lnkLCtrl lane)
  | .scanGo _ lane _ => writeParts (Reg.lnkLCtrl lane)
  | .mgtCpxRestart _ _ => writeParts Reg.mgtCpxCtrl
  | .mgtCpxKick _ _ => writeParts Reg.mgtCpxKick
  | .thmSensClr _ _ => writeParts Reg.thmSensClr
  | .unitFence _ port => writeParts (fenceAddr port)
  | .unitUnfence _ port => writeParts (fenceAddr port)
  | .unitTest _ port => writeParts (fenceAddr port)
  | .recoveryGo _ _ => writeParts Reg.secRcvCtrl
  | .rcvResetPtr _ _ => writeParts Reg.secRcvCtrl
  | .secRcvData _ _ => writeParts Reg.secRcvData
  | .secKatGo _ _ => writeParts Reg.secKatCtrl
  | .scnQueryDone | .stagingOpen =>
      [.scn]
  | .ingInjectDone =>
      [.ing]
  | .mbcDecodeJob _ | .mbcEncodeJob _ | .mbcVerifyJob _ =>
      [.mbc]
  | .synGridLoaded =>
      [.syn]
  | .brcLutLoaded =>
      [.brc]
  | .pnlOdLoaded | .pnlPowerDone =>
      [.pnl]
  | .bltHeld =>
      [.blt]
  | .rasFrameRead _ | .timNowRead _ | .lnkScanDone _ _ _ _ =>
      [.now]
  | .keyAccept _ =>
      [.scn, .ing]
  | .transitionDischarge _ | .transitionReacquireEnd _ =>
      [.ras, .now]
  | .crvNotify _ _ | .timestamp _ _ =>
      [.crv, .now]
  | .pwrNormal _ | .svcLogLost _ _ _ _ _ =>
      [.log, .now]
  | .scnStoreRelease _ | .windowEccError _ _ _ _ =>
      [.scn, .now]
  | .planningStart _ | .barchanRestart _ =>
      [.plc, .now]
  | .lensZeroField _ | .panelClearingEnd _ =>
      [.pnl, .now]
  | .bklFadeDone _ | .wpCycle _ _ =>
      [.bkl, .now]
  | .npxFragTimeout _ _ | .npxGclSwitch _ _ =>
      [.net, .now]
  | .heartbeat _ _ _ | .grantRelease _ _ | .snapshotSend _ =>
      [.fov, .now]
  | .hardBoundary _ _ _ | .softBoundary _ _ | .dqsDriftCheck _ _ _ =>
      [.dmc, .now]
  | .nvsPbDone _ _ =>
      [.nvs, .now]
  | .lnkLaneReady _ _ _ _ _ | .lnkLaneFault _ _ _ | .eqSlewStep _ _ _ | .hepPerstN _ =>
      [.lanes, .now]
  | .throttleGraceExpire _ | .throttleHoldExpire _ =>
      [.thm, .now]
  | .commitTakeEffect _ =>
      [.ras, .shadow]
  | .windowFill _ _ _ _ _ =>
      [.scn, .ing, .plc]
  | .mbcJobDone _ | .mbcStopped _ =>
      [.mbc, .dram, .poison]
  | .plcCostmapDone =>
      [.plc, .dram, .poison]
  | .brcSnapDone =>
      [.brc, .dram, .poison]
  | .bltDone =>
      [.blt, .dram, .poison]
  | .gapTimeout _ _ =>
      [.scn, .ing, .now]
  | .clusterClaim _ _ | .tileStart _ _ | .tileSteal _ _ =>
      [.clusters, .brc, .now]
  | .transitionFadeOut _ | .transitionFadeIn _ | .rasTransitionDone _ =>
      [.ras, .bkl, .now]
  | .datagramReceive _ _ _ _ | .nackSend _ _ | .reportSend _ _ =>
      [.ing, .net, .now]
  | .snapshotReceive _ _ | .fovStale _ | .ilkForce _ _ _ =>
      [.log, .fov, .now]
  | .nvsPbLost _ _ =>
      [.log, .nvs, .now]
  | .cpxWatchdogExpire _ =>
      [.log, .mgt, .now]
  | .pwrBrace _ _ =>
      [.log, .pwr, .now]
  | .shdnReq _ =>
      [.bkl, .pwr, .now]
  | .secKatDone _ _ =>
      [.log, .secu, .now]
  | .revokeArrive _ _ =>
      [.clusters, .now, .free]
  | .delayReq _ _ =>
      [.net, .now, .free]
  | .pinSet _ _ | .pinPulse _ _ | .pinPulseEnd _ _ =>
      [.crv, .now, .sent]
  | .logAppend _ =>
      [.log, .now, .sent]
  | .panelRailOn _ _ | .panelRailOff _ | .dischargeHoldExpire _ =>
      [.pnl, .now, .sent]
  | .bklSlot _ _ =>
      [.bkl, .now, .sent]
  | .holdupMeasure _ =>
      [.pwr, .now, .sent]
  | .stagingChangeResume | .datagramApply _ | .definePlane _ | .alterPlane _ | .writeBlock _ | .copyRegion _ | .fillRegion _
  | .glyphRun _ | .setDepth _ | .commitFrame _ =>
      [.scn, .ing, .dram, .poison]
  | .transitionLensPark _ =>
      [.ras, .pnl, .bkl, .now]
  | .oasisUnitWrite _ _ _ _ _ =>
      [.brc, .dram, .poison, .now]
  | .bltCopy _ _ | .bltFill _ _ | .bltGlyph _ _ =>
      [.blt, .dram, .poison, .now]
  | .linkDown _ _ _ _ _ =>
      [.log, .net, .fov, .now]
  | .domainUp _ _ =>
      [.bkl, .fov, .pwr, .now]
  | .mbStatus _ _ _ | .mbLogRead _ _ _ =>
      [.dram, .poison, .now, .sent]
  | .laneEnable _ _ | .laneRetry _ _ =>
      [.pnl, .lanes, .now, .sent]
  | .driveSurpriseRemove _ _ =>
      [.nvs, .lanes, .now, .sent]
  | .regulatorOn _ _ _ =>
      [.log, .pwr, .now, .sent]
  | .unitMigrate _ _ _ =>
      [.scn, .plc, .dram, .poison, .now]
  | .nvsFallbackEnd _ =>
      [.log, .scn, .ing, .nvs, .now]
  | .lyrFaultDrop _ _ =>
      [.clusters, .plc, .brc, .now, .free]
  | .nvmeCommandTimeout _ _ _ =>
      [.log, .fov, .nvs, .now, .sent]
  | .nvsSegwDone _ =>
      [.nvs, .pwr, .now, .free, .sent]
  | .nvsFallback _ =>
      [.log, .scn, .ing, .nvs, .secu, .now]
  | .rayResultAdmit _ _ _ _ _ _ _ _ =>
      [.scn, .clusters, .plc, .brc, .now, .free]
  | .residueFailure _ _ =>
      [.log, .clusters, .brc, .fov, .now, .free]
  | .transmissionOpportunity _ _ =>
      [.dram, .poison, .net, .fov, .now, .sent]
  | .mbCalCapture _ _ _ | .mbUpdateBegin _ _ _ | .mbUpdateBlock _ _ _ | .mbUpdateEnd _ _ _ | .mbCommit _ _ _ | .mbIdentity _ _ _
  | .mbOwnerEnrol _ _ _ | .mbOwnerRevoke _ _ _ =>
      [.log, .dram, .poison, .secu, .now, .sent]
  | .marigoldRestart _ =>
      [.dram, .poison, .mgt, .secu, .now, .sent]
  | .cpxImageRelease _ =>
      [.log, .mgt, .pwr, .secu, .now, .sent]
  | .cacheReadahead _ _ =>
      [.plc, .dram, .poison, .now, .free, .sent]
  | .frameReceive _ _ _ =>
      [.dram, .poison, .net, .now, .free, .sent]
  | .nvsSegopDone _ =>
      [.plc, .nvs, .pwr, .now, .free, .sent]
  | .pwrHoldMeasured _ | .holdupMeasureTimeout _ =>
      [.log, .pwr, .secu, .now, .free, .sent]
  | .ptpSync _ _ _ | .followUp _ _ _ | .delayResp _ _ _ | .ptpAnnounce _ _ _ _ | .ptpTimeout _ _ =>
      [.ras, .timBase, .timAnchor, .timRate, .tim, .net, .now]
  | .sliceLost _ _ =>
      [.log, .scn, .clusters, .plc, .brc, .fov, .now]
  | .linkUp _ _ =>
      [.log, .dram, .poison, .net, .fov, .nvs, .now]
  | .mbKeyClear _ _ _ | .mbLifecycle _ _ _ | .mbTestUnlock _ _ _ =>
      [.log, .ing, .dram, .poison, .secu, .now, .sent]
  | .driveInsert _ _ _ _ _ _ _ _ =>
      [.log, .pnl, .nvs, .lanes, .svc, .now, .sent]
  | .mbAttest _ _ _ =>
      [.log, .dram, .poison, .secu, .now, .free, .sent]
  | .plcEvacDone _ =>
      [.log, .plc, .lyr, .dram, .poison, .dmc, .now, .sent]
  | .mbKeyLoad _ _ _ =>
      [.log, .ing, .dram, .poison, .net, .secu, .now, .sent]
  | .svcTestDone _ _ _ _ =>
      [.log, .lyr, .pnl, .bkl, .lanes, .svc, .now, .sent]
  | .playbackDeliver _ _ =>
      [.ing, .plc, .dram, .poison, .nvs, .now, .free, .sent]
  | .resetRelease _ _ _ =>
      [.log, .fov, .mgt, .pwr, .secu, .now, .free, .sent]
  | .dieToDieDown _ _ | .dieToDieUp _ _ =>
      [.ras, .log, .timBase, .timAnchor, .timRate, .tim, .net, .fov, .now]
  | .heartbeatLoss _ | .grant _ =>
      [.pnl, .dram, .poison, .tim, .net, .fov, .lanes, .now, .sent]
  | .startUp _ =>
      [.log, .bkl, .cal, .dmc, .pwr, .secu, .svc, .now, .sent]
  | .stateRestore _ =>
      [.ing, .dram, .poison, .tim, .net, .fov, .now, .free, .sent]
  | .mbActivate _ _ _ =>
      [.log, .dram, .poison, .cal, .mgt, .secu, .now, .sent, .calNext]
  | .shutdownBist _ =>
      [.pnl, .bkl, .nvs, .lanes, .mgt, .pwr, .svc, .now, .free, .sent]
  | .transitionRetime _ =>
      [.ras, .crv, .syn, .clusters, .plc, .brc, .lyr, .pnl, .bkl, .now, .free]
  | .scrubRead _ _ _ _ =>
      [.log, .mbc, .clusters, .plc, .brc, .bkl, .dram, .poison, .dmc, .svc, .now, .free]
  | .latch _ =>
      [.ras, .scn, .ing, .syn, .clusters, .plc, .brc, .lyr, .pnl, .bkl, .now, .shadow]
  | .dramRead _ _ _ _ _ _ _ | .dramWrite _ _ _ _ _ _ _ | .trefi _ _ =>
      [.log, .mbc, .clusters, .plc, .brc, .bkl, .dram, .poison, .dmc, .svc, .now, .sent]
  | .dramTraining _ _ _ _ _ _ _ =>
      [.log, .lyr, .pnl, .bkl, .dram, .poison, .dimms, .dmc, .lanes, .svc, .now, .sent]
  | .dmcCaParity _ _ _ =>
      [.log, .mbc, .clusters, .plc, .brc, .bkl, .dram, .poison, .dmc, .svc, .now, .free, .sent]
  | .lineStart _ =>
      [.ras, .crv, .scn, .ing, .syn, .clusters, .plc, .brc, .lyr, .pnl, .bkl, .now, .free, .sent]
  | .rasFrameDone _ =>
      [.ras, .crv, .scn, .ing, .syn, .clusters, .plc, .brc, .lyr, .pnl, .bkl, .fov, .now, .free, .sent]
  | .fovCold _ =>
      [.ras, .log, .scn, .ing, .dram, .poison, .timBase, .timAnchor, .timRate, .tim, .net, .fov, .now, .free, .sent]
  | .fencingDrained _ _ =>
      [.log, .mbc, .clusters, .plc, .brc, .lyr, .bkl, .dram, .poison, .fov, .nvs, .lanes, .svc, .now, .free, .sent]
  | .shutdownComplete _ =>
      allBut [.dimms, .cal, .thm, .secu, .free, .msixTable, .calNext]
  | .mbDomain _ _ _ _ =>
      allBut [.dimms, .cal, .thm, .free, .msixTable, .calNext]
  | .pwrFail _ _ | .nocDomainLost _ =>
      allBut [.dimms, .cal, .thm, .secu, .msixTable, .calNext]
  | .registerWrite _ _ _ _ =>
      allBut [.dimms, .cal, .now, .msixTable, .calNext]
  | .marigoldReady _ =>
      allBut [.dimms, .cal, .thm, .msixTable, .calNext]
  | .crvWrite _ _ | .mbPrivWrite _ _ _ =>
      allBut [.dimms, .cal, .msixTable, .calNext]
  | .housekeepingRound _ _ =>
      allBut [.dimms, .secu, .msixTable]
  | .restartAfterStop _ | .porstAssert _ | .shdnReqNRelease _ | .corePowerOnReset _ =>
      allBut [.dimms, .free]
  | .dischargeEnd _ =>
      allBut [.dimms]

/-! ### Accepted and rejected writes -/

/-- The write passes every check and takes effect (R53, R54). -/
def State.accepts (s : State) (who : Requester) (addr data : Nat) : Prop :=
  ∃ p, s.reached (addr % 0x400000) = some p ∧ s.writeCode who (isPriv who addr) p (addr % 0x400000) 4 data = 0

/-- The words that recording a rejection in entry `h` of the ERR aggregator may change (R71-R73). -/
def errWords (h : Nat) : List Nat :=
  [0x1010, Reg.devErrHead, Reg.devErrLost, Reg.devErrTotal, Reg.devErrW0 h, Reg.devErrW1 h, Reg.devErrW2 h, Reg.devErrW3 h]

/-- A rejection is recorded in the ERR aggregator (R53, R71-R73). -/
structure ErrRecorded (s u : State) (who addr code data : Nat) : Prop where
  word0 : u.rd (Reg.devErrW0 s.errNext) = errWord0 who addr
  word1 : u.rd (Reg.devErrW1 s.errNext) = errWord1 s.ras.line code
  word2 : u.rd (Reg.devErrW2 s.errNext) = data % 2 ^ 32
  word3 : u.rd (Reg.devErrW3 s.errNext) = s.ras.frame % 2 ^ 32
  head : u.rd Reg.devErrHead = (s.errNext + 1) % 64
  total : u.rd Reg.devErrTotal = (s.rd Reg.devErrTotal + 1) % 2 ^ 32
  event : u.flag 0x1010 0 = true
  lost : s.flag (Reg.devErrW0 s.errNext) 31 = true → u.flag Reg.devErrLost 0 = true ∧ u.flag 0x1010 1 = true

/-- PAGE_ERR of the page at `base` after a rejection at offset `off` with `code` (R46, R47). -/
def State.pageErrAfter (s : State) (base off code : Nat) : Nat :=
  if s.flag (base + 0xC) 31 then putBits (s.rd (base + 0xC)) 30 30 1 else pageErrWord off code

/-- Words other than those listed are as before. -/
def State.wordsBut (s u : State) (l : List Nat) : Prop := ∀ x, x ∉ l → u.rd x = s.rd x

/-! ### Requests of the mailbox -/

/-- The key and the parameters of a signed request, and whether its signature verifies (R482). -/
def mbKey (b : List Byte) : List Byte := slice b 40 64
def mbParams (b : List Byte) : List Byte := slice b 104 (leNat (slice b 4 4))
def mbSigned (b : List Byte) : Bool :=
  sm2Verify (mbKey b) (b.take (104 + leNat (slice b 4 4))) (slice b (104 + leNat (slice b 4 4)) 64)

/-- The request `b` of channel `c` asks for service `svc` and passes the checks 1 to 5 of R482: `plen` is the service's check of the
length of its parameters, `signer` its check of the key. -/
def State.mbAsks (s : State) (c : Nat) (host : List Byte) (svc : Nat) (plen : Nat → Bool) (signer : State → List Byte → List Byte → Nat)
    (b : List Byte) : Prop :=
  s.mbBusy c = true ∧ s.mbRequest c host = some b ∧ leNat (b.take 4) = svc ∧ s.envelope c b plen = 0 ∧ signer s (mbKey b) (mbParams b) = 0

/-- A request of channel `c` has ended with a code: STATUS, BUSY, DONE and the event (R444). -/
def State.mbEnded (u : State) (c code : Nat) : Prop :=
  u.fld (Reg.mgtMbStatus c) 15 0 = code ∧ u.flag (Reg.mgtMbCtrl c) 1 = false ∧ u.flag (Reg.mgtMbCtrl c) 2 = true ∧
  u.flag 0x180010 c = true

/-- The device after a reset of the whole of it at instant `t` (R461, R515): what lies in OTP, flash, drives and modules is kept, and
DRAM, registers and services are as after reset. -/
structure State.WholeReset (s u : State) (t : Nat) : Prop where
  regs : ∀ x, u.rd x = if ownRegs.contains x then s.rd x else (resetWord x).toNat
  shadow : u.shadow = []
  dram : u.dram = [] ∧ u.poison = []
  dimms : u.dimms = s.dimms
  segs : u.nvs.segs = s.nvs.segs
  log : u.log.flash = s.log.flash ∧ u.log.nextSeq = s.log.nextSeq ∧ u.log.staged = []
  pwr : u.pwr = { Pwr.reset with stopLog := s.pwr.stopLog, low := s.pwr.low }
  scene : u.scn = Scn.reset ∧ u.ing = Ing.reset ∧ u.ras = Ras.reset
  keep : u.secu.lifecycle = s.secu.lifecycle ∧ u.secu.owners = s.secu.owners ∧ u.secu.slots = s.secu.slots ∧ u.secu.arb = s.secu.arb
  fuses : u.svc.fused = s.svc.fused ∧ u.svc.records = s.svc.records
  identity : u.secu.identity = s.secu.identity ∧ u.secu.idKey = s.secu.idKey
  out : u.out = resetLevels.reverse ++ s.out
  free : u.free = s.free ∧ u.now = max s.now t ∧ u.pending = s.pending

end Sys2Proof.Machine
end

