-- ==== Sys2Proof/Certificates/Slice0/Obligations.lean ====
section
/-! DEFINITION. The statements about the block, for the provers. -/

open Sys2Proof Sys2Proof.Machine

/-! ### The block as a whole -/

/-- A step runs the command at the front of the queue, and with nothing waiting changes nothing (02_register_model.md,
03_raster_time.md). The state after a step with command c at the front is what exec gives for c on the state whose queue is the
rest; with an empty queue a step answers the same state, for what comes about with time is a command of its own. The queue
stands for R40's order of arrival; that commands wait in one queue and that the empty queue idles is the model's choice (log
entry 40). -/
def Obligations.StepRunsFront : Prop :=
  ∀ s : State,
    (∀ (c : Instr) (q : List Instr), s.pending = c :: q → step s = exec c (s.withPending q)) ∧
    (s.pending = [] → step s = .next s)

/-- Every command completes in every state, leaves the queue alone and takes no time back (02_register_model.md,
95_what_each_step_holds.md). For every command and every state, exec answers a next state: no command of the table is refused
and none faults. The queue is as before, the instant and the count of free values drawn do not fall, every asserted and
unmasked vector has sent its message, and none but such a vector is left pending in the MSI-X table. -/
def Obligations.CommandsComplete : Prop :=
  ∀ (c : Instr) (s : State),
    ∃ u, exec c s = .next u ∧ u.pending = s.pending ∧ s.now ≤ u.now ∧ s.free ≤ u.free ∧ u.vectorsSettled

/-- The block takes waiting commands in order and takes all of them (02_register_model.md). After n steps, n at most the number
of commands waiting, exactly the first n have been taken and the rest wait in their order; once the queue is empty, further
steps change nothing. That the block idles then is the model's choice (log entry 40). -/
def Obligations.QueueInOrder : Prop :=
  ∀ (s : State) (n : Nat),
    (n ≤ s.pending.length → ∃ u, s.after n = some u ∧ u.pending = s.pending.drop n ∧ s.now ≤ u.now) ∧
    s.after (s.pending.length + n) = s.after s.pending.length

/-- The state after reset satisfies the invariant of every step (02_register_model.md). Registers and DRAM are in canonical form
right after reset, no vector is asserted, and no command waits. -/
def Obligations.ResetIsGood : Prop :=
  State.reset.Good ∧ State.reset.pending = [] ∧ State.reset.live = 0

/-- Every step keeps registers and DRAM in canonical form and every vector answered (02_register_model.md,
15_memory_and_content_store.md). For every state, reachable or not, that satisfies the invariant, the state after a step
satisfies it: addresses of the sparse registers and of DRAM strictly rise with no entry at its default, and the vectors that
count as sent are exactly those asserted and unmasked, and only such vectors are pending in the MSI-X table. -/
def Obligations.StepKeepsGood : Prop :=
  ∀ s u : State, s.Good → step s = .next u → u.Good

/-- Each command leaves alone every part of the state that is not its own (95_what_each_step_holds.md, 02_register_model.md).
For every command, `touches` lists the parts of the state that it may change; every other part is the same afterwards, whatever
the state and the operands. DRAM is such a part, so a command that does not list it stores nothing. A register write touches, by
its address, COMMIT's and FENCE's parts in a header and its block's parts behind it. -/
def Obligations.CommandsFrame : Prop :=
  ∀ (c : Instr) (s u : State) (p : Part), exec c s = .next u → p ∉ touches c → p.same s u


/-! ### The register model -/

/-- A rejected write changes nothing but the record of its rejection (R53, R46, R71, R72). A write that reaches a page and fails a check
changes no shadow, no part of the state and no register beside PAGE_ERR of that page and the words of the ERR aggregator (and PLC's
IRQ_STATUS for a refused evacuation, the count of refused stores for one that the hold-up supply does not allow). PAGE_ERR holds offset
and code, or MORE where it was STICKY; the aggregator's next entry holds address, requester, code, line, data and frame. R53's words on
the bus are not part of the model; a 64-bit write of the host is two writes (PlainWordsStored). -/
def Obligations.RejectedWrite : Prop :=
  ∀ (s : State) (who : Requester) (addr size : Nat) (data : BitVec 64) (p : PageDef) (c : Nat),
    let d := data.toNat % 2 ^ 32
    ¬(who = .host ∧ size = 8) → s.reached (addr % 0x400000) = some p →
    s.writeCode who (isPriv who addr) p (addr % 0x400000) size d = c → c ≠ 0 →
    ∃ u, exec (.registerWrite who addr size data) s = .next u ∧ (∀ q : Part, q.same s u) ∧
      ErrRecorded s u (requesterCode who) (errAddr who addr) c d ∧
      u.rd (p.base + 0xC) = s.pageErrAfter p.base addr c ∧
      s.wordsBut u (errWords s.errNext ++ [p.base + 0xC] ++ if c = 0x801 then [0x80010] else if c = 0xC then [Reg.pwrStat 2] else [])

/-- While STICKY is 1 a rejection keeps OFFSET and CODE, and is still recorded (R47). For every page whose PAGE_ERR is STICKY, a
rejected write and a rejected commit leave OFFSET and CODE, set MORE, and are recorded in the ERR aggregator. -/
def Obligations.StickyRejections : Prop :=
  ∀ (s : State) (p : PageDef), pageDef p.code p.index = some p → p.index < 16 → s.flag (p.base + 0xC) 31 = true →
    (∀ who addr code data, addr % 0x400000 / 0x1000 * 0x1000 = p.base →
      (s.reject who addr code data).fld (p.base + 0xC) 27 0 = s.fld (p.base + 0xC) 27 0 ∧
      (s.reject who addr code data).flag (p.base + 0xC) 30 = true ∧
      ErrRecorded s (s.reject who addr code data) (requesterCode who) (errAddr who addr) code data) ∧
    ∀ off code, (s.rejectCommit p.base off code).fld (p.base + 0xC) 27 0 = s.fld (p.base + 0xC) 27 0 ∧
      (s.rejectCommit p.base off code).flag (p.base + 0xC) 30 = true ∧
      ErrRecorded s (s.rejectCommit p.base off code) 0 (p.base + off) code 0

/-- An unmapped read returns zero; an unmapped write is recorded in the ERR aggregator only (R39). At an address with no page,
or behind the last word that the page's table lists, a read returns zero and a write of the word is rejected with
ADDRESS_WINDOW: the aggregator records it, and nothing else changes, no PAGE_ERR among it. A 64-bit write of the host is two
writes (PlainWordsStored). -/
def Obligations.UnmappedAccess : Prop :=
  ∀ (s : State) (who : Requester) (addr size : Nat) (data : BitVec 64), ¬(who = .host ∧ size = 8) →
    (pageOf (addr % 0x400000) = none ∨
      ∃ p, pageOf (addr % 0x400000) = some p ∧ p.lastListed < addr % 0x400000 % 0x1000 / 4 * 4) →
    s.readWord (addr % 0x400000) = 0 ∧
    ∃ u, exec (.registerWrite who addr size data) s = .next u ∧ (∀ q : Part, q.same s u) ∧
      ErrRecorded s u (requesterCode who) (errAddr who addr) 0xB (data.toNat % 2 ^ 32) ∧ s.wordsBut u (errWords s.errNext)

/-- An accepted write stores the fields of a plain word by their types and changes no other word (R11, R35, R53). For the words
of the flat-layer, network-time and calibration pages that have no shadowed field: RW and PRW fields take the written bits, RO
fields stay, write-only fields are not kept, W1C fields lose the bits written as 1; every other word, every shadow and every
part of the state is as before. A 64-bit write of the host is two 32-bit writes, the lower address first, and the vectors
settle after each (R38, R75). -/
def Obligations.PlainWordsStored : Prop :=
  (∀ (s : State) (who : Requester) (addr : Nat) (data : BitVec 64) (p : PageDef) (r : RegRow) (i : Nat),
    let a := addr % 0x400000
    let d := data.toNat % 2 ^ 32
    s.reached a = some p → s.writeCode who (isPriv who addr) p a 4 d = 0 →
    p.code = 0x09 ∨ p.code = 0x13 ∨ p.code = 0x1B → 0x40 ≤ a % 0x1000 →
    rowFor p.rows (a % 0x1000) = some (r, i) → (∀ f ∈ r.fields, f.kind ≠ .rws) →
    ∃ u, exec (.registerWrite who addr 4 data) s = .next u ∧ (∀ q : Part, q.same s u) ∧ s.wordsBut u [a] ∧
      ∀ f ∈ r.fields,
        (f.kind = .rw ∨ f.kind = .prw → u.fld a f.hi f.lo = bitsOf d f.hi f.lo) ∧
        (f.kind = .ro → u.fld a f.hi f.lo = s.fld a f.hi f.lo) ∧
        (f.kind = .wo → u.fld a f.hi f.lo = 0) ∧
        (f.kind = .w1c → ∀ k, f.lo ≤ k → k ≤ f.hi → u.flag a k = (s.flag a k && !bitOf d k))) ∧
  ∀ (s : State) (addr : Nat) (data : BitVec 64),
    exec (.registerWrite .host addr 8 data) s =
      .next (settle ((settle (s.writeWord .host addr 4 (data.toNat % 2 ^ 32))).writeWord .host (addr + 4) 4 (data.toNat / 2 ^ 32)))

/-- An accepted write of a shadowed word sets the shadow and leaves the word in force (R58, R11). For the shadowed words of the
raster timing page and of the flat-layer pages: the shadow takes the written fields, no word in force changes and no other
shadow does. -/
def Obligations.ShadowsWritten : Prop :=
  ∀ (s : State) (who : Requester) (addr : Nat) (data : BitVec 64) (p : PageDef) (r : RegRow) (i : Nat),
    let a := addr % 0x400000
    let d := data.toNat % 2 ^ 32
    s.reached a = some p → s.writeCode who (isPriv who addr) p a 4 d = 0 →
    p.code = 0x01 ∧ p.index = 0 ∨ p.code = 0x09 → 0x40 ≤ a % 0x1000 →
    rowFor p.rows (a % 0x1000) = some (r, i) → (∃ f ∈ r.fields, f.kind = .rws) →
    ∃ u, exec (.registerWrite who addr 4 data) s = .next u ∧ u.regs = s.regs ∧ (∀ q : Part, q ≠ .shadow → q.same s u) ∧
      (∀ f ∈ r.fields, f.kind = .rws → bitsOf (u.rdShadow a) f.hi f.lo = bitsOf d f.hi f.lo) ∧
      ∀ x, x ≠ a → u.rdShadow x = s.rdShadow x

/-- While a commit is pending its page's shadowed words refuse writes with COMMIT_PENDING (R60). A write to a word with shadowed
fields is rejected while the page's commit is pending: with COMMIT_PENDING where no check fails that R54 puts before it
(ADDRESS_WINDOW, NOT_ACTIVE, PRIVILEGE, RESERVED_BITS), and it is never accepted. A REQ written to a page without shadows is
rejected with VALUE_RANGE, where the page is open to writes and no reserved bit is set. What tile firmware must do is no part of
the device. -/
def Obligations.PendingCommitHoldsShadows : Prop :=
  ∀ (s : State) (who : Requester) (priv : Bool) (p : PageDef) (a data : Nat), a % 4 = 0 →
    (∀ r i, 0x40 ≤ a % 0x1000 → rowFor p.rows (a % 0x1000) = some (r, i) → (∃ f ∈ r.fields, f.kind = .rws) → s.commitPending p = true →
      s.writeCode who priv p a 4 data ≠ 0 ∧
      (s.pageState p = 0 ∨ s.pageState p = 2 → (∀ c ∈ s.wordCodes who priv p (a % 0x1000) data, c ∉ [0xB, 5, 4, 3]) →
        s.writeCode who priv p a 4 data = 8)) ∧
    (p.shadow = false → a % 0x1000 = 0x1C → bitOf data 0 = true → bitsOf data 15 4 = 0 → s.pageState p = 0 ∨ s.pageState p = 2 →
      s.writeCode who priv p a 4 data = 1)

/-- The COMMIT register of an enrolled page refuses REQ and CANCEL and mirrors the group (R64, R60, R63). A write with REQ or
CANCEL to COMMIT of an enrolled page is rejected with CONFLICT (where no earlier check fails) and changes no pending state;
COMMIT reads PENDING and DONE of the group, and a pending group commit counts as pending for every enrolled page. -/
def Obligations.EnrolledPagesFollowGroup : Prop :=
  ∀ (s : State) (who : Requester) (addr : Nat) (data : BitVec 64) (p : PageDef),
    let a := addr % 0x400000
    let d := data.toNat % 2 ^ 32
    s.reached a = some p → p.group = true → p.shadow = true → a % 0x1000 = 0x1C → addr % 4 = 0 →
    bitOf (s.commitWord p) 1 = s.flag Reg.devGcommit 1 ∧ bitOf (s.commitWord p) 2 = s.flag Reg.devGcommit 2 ∧
    s.commitPending p = s.flag Reg.devGcommit 1 ∧
    (bitOf d 0 = true ∨ bitOf d 3 = true → bitsOf d 15 4 = 0 → s.pageState p = 0 ∨ s.pageState p = 2 →
      s.writeCode who (isPriv who addr) p a 4 d = 6 ∧
      ∃ u, exec (.registerWrite who addr 4 data) s = .next u ∧ u.rd Reg.devGcommit = s.rd Reg.devGcommit ∧ u.rd a = s.rd a)

/-- Forced events, masks, routes and ends of interrupt take effect as accepted, and messages go out (R42, R49, R74, R75).
IRQ_FORCE sets the written bits of IRQ_STATUS and no other word. A mask write stores the mask, and every vector of it that is
asserted, now unmasked, not yet sent and delivered to the host sends its message, or becomes pending in the MSI-X table where its
entry there is masked. A route write stores the route, and an enabled route of an asserted page asserts its new vector at once. An
end of interrupt sends the message again, or makes it pending, exactly if the vector is asserted and unmasked and goes to the host.
How the MSI-X table's masks are held is the model's choice (log entry 135). -/
def Obligations.InterruptRegisters : Prop :=
  ∀ (s : State) (who : Requester) (data : Word),
    (∀ page, page < 0x400 → s.accepts who (page * 0x1000 + 0x18) data.toNat →
      ∃ u, exec (.irqForce who page data) s = .next u ∧ s.wordsBut u [page * 0x1000 + 0x10] ∧
        u.rd (page * 0x1000 + 0x10) = Nat.lor (s.rd (page * 0x1000 + 0x10)) data.toNat) ∧
    (∀ half, half < 2 → s.accepts who (0x2048 + 4 * half) data.toNat →
      ∃ u, exec (.devIntcMaskWrite who half data) s = .next u ∧ s.wordsBut u [0x2048 + 4 * half] ∧
        u.rd (0x2048 + 4 * half) = data.toNat ∧
        ∀ v, v < 64 → bitOf u.live v = true → bitOf s.msiSent v = false → s.flag (Reg.devIntcTarget v) 0 = true →
          (bitOf s.msixMask v = false → .msix v ∈ u.out) ∧ (bitOf s.msixMask v = true → bitOf u.msixPend v = true)) ∧
    (∀ i, i < 512 → s.accepts who (Reg.devIntcRoute i) data.toNat →
      ∃ u, exec (.devIntcRouteWrite who i data) s = .next u ∧ s.wordsBut u [Reg.devIntcRoute i] ∧
        u.rd (Reg.devIntcRoute i) = data.toNat ∧
        (data.getLsbD 31 = true → s.summary (i / 16 * 0x10000 + i % 16 * 0x1000) = true →
          bitOf u.asserted (bitsOf data.toNat 5 0) = true)) ∧
    (s.vectorsSettled → s.accepts who Reg.devIntcEoi data.toNat →
      let v := bitsOf data.toNat 5 0
      let sends := bitOf s.live v = true ∧ s.flag (Reg.devIntcTarget v) 0 = true
      ∃ u, exec (.devIntcEoi who data) s = .next u ∧ s.wordsBut u [Reg.devIntcEoi] ∧
        u.out = (if sends ∧ bitOf s.msixMask v = false then .msix v :: s.out else s.out) ∧
        u.msixPend = (if sends ∧ bitOf s.msixMask v = true then Nat.lor s.msixPend (2 ^ v) else s.msixPend))

/-- Requests and cancels of a commit set and clear PENDING and keep every shadow (R59, R60, R64, R66). An accepted REQ of a page
that commits by itself sets PENDING; CANCEL clears it and the page is no longer due; the group's REQ sets PENDING and, where
none was pending, TARGET to the frame that the latch rule gives; its CANCEL clears PENDING and TARGET. No shadow and no other
word in force changes, but the count of deferrals at the group's CANCEL. -/
def Obligations.CommitRequests : Prop :=
  ∀ (s : State) (who : Requester) (data : Word),
    (∀ page p, page < 0x400 → s.reached (page * 0x1000 + 0x1C) = some p → p.group = false →
      (s.accepts who (page * 0x1000 + 0x1C) (putBits data.toNat 0 0 1) →
        ∃ u, exec (.commitReq who page data) s = .next u ∧ u.flag (page * 0x1000 + 0x1C) 1 = true ∧ u.shadow = s.shadow ∧
          s.wordsBut u [page * 0x1000 + 0x1C] ∧ u.ras = s.ras) ∧
      (s.accepts who (page * 0x1000 + 0x1C) (putBits data.toNat 3 3 1) →
        ∃ u, exec (.commitCancel who page data) s = .next u ∧ u.flag (page * 0x1000 + 0x1C) 1 = false ∧ u.shadow = s.shadow ∧
          s.wordsBut u [page * 0x1000 + 0x1C] ∧ page * 0x1000 ∉ u.ras.commitDue)) ∧
    (s.accepts who Reg.devGcommit (putBits data.toNat 0 0 1) →
      ∃ u, exec (.gcommitReq who data) s = .next u ∧ u.flag Reg.devGcommit 1 = true ∧ u.shadow = s.shadow ∧
        s.wordsBut u [Reg.devGcommit] ∧
        u.fld Reg.devGcommit 31 16 = (if s.flag Reg.devGcommit 1 then s.fld Reg.devGcommit 31 16
          else (s.ras.frame + if s.ras.line < s.ras.timing.latch then 1 else 2) % 65536)) ∧
    (s.accepts who Reg.devGcommit (putBits data.toNat 3 3 1) →
      ∃ u, exec (.gcommitCancel who data) s = .next u ∧ u.flag Reg.devGcommit 1 = false ∧ u.fld Reg.devGcommit 31 16 = 0 ∧
        u.shadow = s.shadow ∧ s.wordsBut u [Reg.devGcommit, Reg.lyrStatus])

/-- A commit puts every shadow of its page in force at once, or nothing of it (R58, R61, R62, R59). For a page that commits by
itself and was due: where no check fails, every word behind its header reads as its shadow did, the page has no shadow left,
PENDING clears, DONE sets and LAST_FRAME names the frame served; words outside the page stay. Where a check fails, no word in
force and no shadow changes beside the record of the rejection, PENDING clears and DONE stays. A page that was not due, or whose
request was cancelled, has nothing to put in force. -/
def Obligations.CommitTakesEffect : Prop :=
  ∀ (s : State) (page : Nat), page < 0x400 → s.ras.commitDue.contains (page * 0x1000) = true → s.flag (page * 0x1000 + 0x1C) 1 = true →
    ∃ u, exec (.commitTakeEffect page) s = .next u ∧ u.flag (page * 0x1000 + 0x1C) 1 = false ∧ page * 0x1000 ∉ u.ras.commitDue ∧
      match firstCheck (State.ownCommitCodes { s with ras := { s.ras with commitDue := s.ras.commitDue.filter (fun b => b != page * 0x1000) } }
          (page * 0x1000)) with
      | none =>
        (∀ x, inPage (page * 0x1000) x = true → x ≠ page * 0x1000 + 0x1C → u.rd x = s.rdShadow x) ∧
        (∀ x, inPage (page * 0x1000) x = false → u.rd x = s.rd x ∧ u.rdShadow x = s.rdShadow x) ∧
        (∀ e ∈ u.shadow, inPage (page * 0x1000) e.1 = false) ∧
        u.flag (page * 0x1000 + 0x1C) 2 = true ∧ u.fld (page * 0x1000 + 0x1C) 31 16 = s.servedFrame % 65536
      | some (code, base, off) =>
        u.shadow = s.shadow ∧ ErrRecorded s u 0 (base + off) code 0 ∧
        u.flag (page * 0x1000 + 0x1C) 2 = s.flag (page * 0x1000 + 0x1C) 2 ∧
        s.wordsBut u (errWords s.errNext ++ [base + 0xC, page * 0x1000 + 0x1C])


/-! ### Raster time and the Caravan -/

/-- Line starts, frame ends and latches move the raster as the rules say (R77, R79, R82, R86, R88, R89). While the raster runs:
at a line start the line number rises by one and its start is the present instant (a repeated line is noted for the report at
the latch edge on line LATCH alone); at the end of the last line, line 0 of the
next frame starts, the pending timing values are in force, the latch is open again and, in FREE, the frame number rises by one;
at the latch edge the frame is latched once, RAS_LATCH is raised and the settings of synthesis move on. A read of RAS_FRAME_LO
captures RAS_FRAME_HI and RAS_POS and changes nothing else. -/
def Obligations.RasterAdvances : Prop :=
  ∀ (s : State) (t : Nat), s.rasterOn = true →
    (s.ras.line + 1 < s.ras.timing.vtotal →
      ∃ u k, exec (.lineStart t) s = .next u ∧ u.now = max s.now t ∧ k ≤ 1 ∧
        (s.ras.line + 1 = s.ras.timing.latch ∧ s.ras.latched = false ∨ k = 0) ∧
        u.ras = { s.ras with line := s.ras.line + 1, lineStart := max s.now t, underruns := s.ras.underruns + k,
                             latchReqs := if s.ras.line + 1 = s.ras.timing.latch then s.ownPending else s.ras.latchReqs }) ∧
    (s.ras.line + 1 = s.ras.timing.vtotal →
      ∃ u, exec (.rasFrameDone t) s = .next u ∧ u.now = max s.now t ∧ u.ras.line = 0 ∧ u.ras.lineStart = max s.now t ∧
        u.ras.frameStart = max s.now t ∧ u.ras.latched = false ∧
        u.ras.timing = s.ras.nextTiming.getD s.ras.timing ∧ u.ras.nextTiming = none ∧
        (s.ras.lock = 0 → u.ras.frame = (s.ras.frame + 1) % 2 ^ 64)) ∧
    (s.ras.line = s.ras.timing.latch → s.ras.latched = false →
      ∃ u, exec (.latch t) s = .next u ∧ u.now = max s.now t ∧ u.ras.latched = true ∧ u.ras.line = s.ras.line ∧
        u.ras.frame = s.ras.frame ∧ u.ras.timing = s.ras.timing ∧ u.syn.back = s.syn.front ∧ u.syn.front ≠ none ∧
        u.flag 0x10010 1 = true) ∧
    (∃ u, exec (.rasFrameRead t) s = .next u ∧ (∀ q : Part, q ≠ .now → q.same s u) ∧ u.now = max s.now t ∧
      s.wordsBut u [Reg.rasFrameHi, Reg.rasPos] ∧ u.rd Reg.rasFrameHi = s.ras.frame / 2 ^ 32 % 2 ^ 32 ∧
      u.rd Reg.rasPos = s.ras.line % 65536 + s.columnAt (max s.now t) % 65536 * 65536)

/-- A mode transition goes through its steps in order, each at its own condition (R84, R89, R92, R319). Step 1 starts at line 0 of the
frame it serves and lasts FADE_OUT; step 2 starts when the fade-out has ended and holds the lens drive; step 3 starts PARK_SETTLE whole
frames after every region has parked; retime puts the new timing in force two whole frames later, or at once with the backlight off;
re-acquisition ends at a line 0 in LOCKED (or in FREE or HOLDOVER, one frame after the restart or after holdover began); the fade-in
starts one whole frame later and lasts FADE_IN; its end ends the transition and raises RAS_TRANSITION_DONE. That LOCKED needs sixteen
frames is the model's reading (log entry 43). -/
def Obligations.ModeTransitionSteps : Prop :=
  ∀ (s : State) (t : Nat), s.rasterOn = true →
    (s.ras.step = 0 → s.ras.line = 0 → s.ras.transDue = some s.ras.frame → s.ras.skipFade = false →
      ∃ u, exec (.transitionFadeOut t) s = .next u ∧ u.ras.step = 1 ∧ u.ras.transDue = none ∧
        u.ras.stepEnd = some (max s.now t + s.fld Reg.rasTransFade 13 0 * ms)) ∧
    (∀ e, s.ras.step = 1 → s.ras.stepEnd = some e → e ≤ max s.now t →
      ∃ u, exec (.transitionLensPark t) s = .next u ∧ u.ras.step = 2 ∧ u.pnl = { s.pnl with lensHold := true }) ∧
    (s.ras.step = 2 → s.ras.line = 0 → s.pnl.lens = [] → s.fld Reg.pnlLnsCtrl 14 8 < s.ras.stepFrames →
      ∃ u, exec (.transitionDischarge t) s = .next u ∧ u.ras = { s.ras with step := 3, stepEnd := none, stepFrames := 0 } ∧
        u.regs = s.regs) ∧
    (s.ras.line = 0 → (s.ras.step = 3 ∧ 2 ≤ s.ras.stepFrames ∨ s.ras.step = 0 ∧ s.ras.transDue = some s.ras.frame ∧ s.ras.skipFade = true) →
      ∃ u, exec (.transitionRetime t) s = .next u ∧ u.ras.step = 4 ∧ u.ras.timing = s.ras.newTiming.getD s.nextT ∧
        u.ras.newTiming = none ∧ u.ras.transDue = none ∧ u.ras.line = u.ras.timing.vtotal - 1) ∧
    (s.ras.step = 5 → s.ras.line = 0 → (s.ras.lock = 2 ∧ 16 ≤ s.ras.stepFrames ∨ (s.ras.lock = 0 ∨ s.ras.lock = 3) ∧ s.ras.holdFrames ≤ s.ras.stepFrames) →
      ∃ u, exec (.transitionReacquireEnd t) s = .next u ∧ u.ras = { s.ras with step := 6, stepEnd := none, stepFrames := 0 } ∧
        u.regs = s.regs) ∧
    (s.ras.step = 6 → s.ras.line = 0 → s.ras.stepEnd = none → 1 ≤ s.ras.stepFrames →
      ∃ u, exec (.transitionFadeIn t) s = .next u ∧ u.ras.step = 6 ∧
        u.ras.stepEnd = some (max s.now t + s.fld Reg.rasTransFade 29 16 * ms)) ∧
    (∀ e, s.ras.step = 6 → s.ras.stepEnd = some e → e ≤ max s.now t →
      ∃ u, exec (.rasTransitionDone t) s = .next u ∧ u.ras = { s.ras with step := 0, stepEnd := none, stepFrames := 0 } ∧
        u.flag 0x10010 5 = true)

/-- An accepted write of word 2 arms or disarms a Caravan entry, and no other entry changes (R93, R95, R97). Arming sets VALID
with the written fields, disarming clears it; no other word changes and no write fires. -/
def Obligations.CaravanArming : Prop :=
  ∀ (s : State) (who : Requester) (e : Nat) (data : Word), e < 512 →
    (s.accepts who (Reg.crvW e 2) (putBits data.toNat 31 31 1) →
      ∃ u, exec (.caravanArm who e data) s = .next u ∧ u.flag (Reg.crvW e 2) 31 = true ∧
        u.fld (Reg.crvW e 2) 25 0 = bitsOf data.toNat 25 0 ∧ s.wordsBut u [Reg.crvW e 2] ∧ u.crv.lastIssue = s.crv.lastIssue) ∧
    (s.accepts who (Reg.crvW e 2) (putBits data.toNat 31 31 0) →
      ∃ u, exec (.caravanDisarm who e data) s = .next u ∧ u.flag (Reg.crvW e 2) 31 = false ∧
        s.wordsBut u [Reg.crvW e 2] ∧ u.crv = s.crv)

/-- The entry that is next fires its action, is counted and, fired once, is disarmed (R94, R95, R96, R98, R99). With the
dispatcher enabled, the entry that is due and next (its stamp reached, no earlier stamp waiting, 12.5 ns after the last dispatch) is
counted, leaves VALID where its stamp was one instant, is over for its frame where it is periodic, and takes the dispatch slot.
NOTIFY sets RAS_CRV_LAST and raises its event; WRITE makes the write as requester Caravan and counts a rejected one; PIN_SET drives
the selected pins and their bases; PIN_PULSE drives them to the inverse of the base until the later end; TIMESTAMP captures the entry
index and device time. With it disabled, a once entry is discarded and counted as missed, and an occurrence of a periodic one is
skipped. That RAS_CRV_LAST holds the LINE of the entry's stamp is the model's choice (log entry 137). -/
def Obligations.CaravanActions : Prop :=
  ∀ (s : State) (e t : Nat), e < 512 → s.domOn 5 = true →
    (∀ q ∈ [(Instr.crvNotify e t, 0), (.crvWrite e t, 1), (.pinSet e t, 2), (.pinPulse e t, 3), (.timestamp e t, 4)],
      (s.at t).crvNext e q.2 = true → s.flag Reg.rasCrvCtrl 0 = false →
      (s.flag (Reg.crvW e 2) 24 = false →
        ∃ u, exec q.1 s = .next u ∧ u.crv = s.crv ∧ u.flag (Reg.crvW e 2) 31 = false ∧
          u.rd Reg.rasCrvMissedCount = (s.rd Reg.rasCrvMissedCount + 1) % 2 ^ 32 ∧ u.flag 0x11010 2 = true ∧
          s.wordsBut u [Reg.crvW e 2, Reg.rasCrvMissedCount, 0x11010]) ∧
      (s.flag (Reg.crvW e 2) 24 = true →
        ∃ u, exec q.1 s = .next u ∧ u.regs = s.regs ∧ u.crv.pins = s.crv.pins ∧ u.crv.lastIssue = s.crv.lastIssue)) ∧
    (s.flag Reg.rasCrvCtrl 0 = true → (s.at t).crvNext e 0 = true →
      ∃ u, exec (.crvNotify e t) s = .next u ∧ u.crv.lastIssue = some (max s.now t) ∧ u.crv.pins = s.crv.pins ∧
        u.rd Reg.rasCrvFiredCount = (s.rd Reg.rasCrvFiredCount + 1) % 2 ^ 32 ∧
        (s.flag (Reg.crvW e 2) 24 = false → u.flag (Reg.crvW e 2) 31 = false) ∧
        (s.flag (Reg.crvW e 2) 24 = true → (∀ w ∈ s.crv.waiting, w.2 ≠ e) → e ∈ u.crv.firedNow) ∧
        u.rd Reg.rasCrvLast = e + s.fld (Reg.crvW e 0) 15 0 * 65536 ∧ u.flag 0x11010 0 = true ∧
        s.wordsBut u [Reg.crvW e 2, Reg.rasCrvFiredCount, Reg.rasCrvLateCount, Reg.rasCrvLast, 0x11010]) ∧
    (s.flag Reg.rasCrvCtrl 0 = true → (s.at t).crvNext e 1 = true →
      let x := (s.at t).crvFire e false
      let w := x.writeWord .caravan (s.fld (Reg.crvW e 2) 19 0 * 4) 4 (s.rd (Reg.crvW e 3))
      x.crv.lastIssue = some (max s.now t) ∧ x.rd Reg.rasCrvFiredCount = (s.rd Reg.rasCrvFiredCount + 1) % 2 ^ 32 ∧
      exec (.crvWrite e t) s = .next (settle (if w.rd Reg.devErrTotal = x.rd Reg.devErrTotal then w
        else (w.add Reg.rasCrvWfailCount 1).raise 0x11000 3))) ∧
    (s.flag Reg.rasCrvCtrl 0 = true → (s.at t).crvNext e 2 = true →
      ∃ u, exec (.pinSet e t) s = .next u ∧ u.crv.lastIssue = some (max s.now t) ∧
        u.rd Reg.rasCrvFiredCount = (s.rd Reg.rasCrvFiredCount + 1) % 2 ^ 32 ∧
        ∀ k, k < 4 → u.crv.pins[k]? = if s.flag (Reg.crvW e 3) (4 + k)
          then s.crv.pins[k]?.map (fun _ => { base := s.flag (Reg.crvW e 3) k, level := s.flag (Reg.crvW e 3) k, pulseEnd := none })
          else s.crv.pins[k]?) ∧
    (s.flag Reg.rasCrvCtrl 0 = true → (s.at t).crvNext e 3 = true →
      ∃ u, exec (.pinPulse e t) s = .next u ∧ u.crv.lastIssue = some (max s.now t) ∧
        u.rd Reg.rasCrvFiredCount = (s.rd Reg.rasCrvFiredCount + 1) % 2 ^ 32 ∧
        ∀ k, k < 4 → u.crv.pins[k]? = if s.flag (Reg.crvW e 3) k
          then s.crv.pins[k]?.map (fun p => EvtPin.mk p.base (!p.base)
            (some (max (max s.now t + s.fld (Reg.crvW e 3) 19 8 * 10 * ns) (p.pulseEnd.getD 0))))
          else s.crv.pins[k]?) ∧
    (s.flag Reg.rasCrvCtrl 0 = true → (s.at t).crvNext e 4 = true →
      ∃ u, exec (.timestamp e t) s = .next u ∧ u.crv.lastIssue = some (max s.now t) ∧ u.crv.pins = s.crv.pins ∧
        u.rd Reg.rasCrvFiredCount = (s.rd Reg.rasCrvFiredCount + 1) % 2 ^ 32 ∧ u.rd Reg.rasCrvCapIdx = e ∧
        u.rd Reg.rasCrvCapNs = (s.at t).device / ns % 1000000000 ∧
        u.rd Reg.rasCrvCapSecLo = (s.at t).device / ns / 1000000000 % 2 ^ 32) ∧
    ∀ k p n, s.crv.pins[k]? = some p → p.pulseEnd = some n → n ≤ max s.now t →
      ∃ u, exec (.pinPulseEnd k t) s = .next u ∧
        u.crv.pins = s.crv.pins.set k { base := p.base, level := p.base, pulseEnd := none } ∧ u.rd Reg.rasCrvPins = u.pinWord % 2 ^ 32 ∧
        s.wordsBut u [Reg.rasCrvPins]


/-! ### The scene store and ingest -/

/-- Enabling the scene store takes its region, disabling discards it, and queries answer (R126, R128, R129, R130, R131). An
accepted EN of SCN_CTRL from 0 to 1 takes a region of SCN_STORE_SIZE over the channels; from 1 to 0 it marks the versions for
the next latch; in vertical blanking after that the region is released. GO of SCN_QUERY starts a query, and its end puts the
entry's words and FOUND or NONE in place, clears GO and raises its event; until then the result of the query before stays. Where the
region lies, and that the old result stays, are the model's choices (log entries 14 and 145). -/
def Obligations.SceneRegionAndQueries : Prop :=
  ∀ (s : State) (who : Requester) (data : Word) (t : Nat),
    (s.accepts who Reg.scnCtrl (putBits data.toNat 0 0 1) → s.flag Reg.scnCtrl 0 = false →
      ∃ u, exec (.scnEnable who data) s = .next u ∧ u.flag Reg.scnCtrl 0 = true ∧
        u.scn = { s.scn with region := some s.placeRegion } ∧ s.wordsBut u [Reg.scnCtrl]) ∧
    (s.accepts who Reg.scnCtrl (putBits data.toNat 0 0 0) → s.flag Reg.scnCtrl 0 = true →
      ∃ u, exec (.scnDisable who data) s = .next u ∧ u.flag Reg.scnCtrl 0 = false ∧
        u.scn = { s.scn with discard := true } ∧ s.wordsBut u [Reg.scnCtrl]) ∧
    (s.scn.release = true → s.ras.timing.vactive ≤ s.ras.line →
      ∃ u, exec (.scnStoreRelease t) s = .next u ∧ u.scn.region = none ∧ u.scn.release = false ∧ u.regs = s.regs) ∧
    (s.accepts who Reg.scnQuery (putBits data.toNat 31 31 1) →
      ∃ u, exec (.scnQueryGo who data) s = .next u ∧ u.flag Reg.scnQuery 31 = true ∧
        u.scn = { s.scn with query := some (s.queryOf (putBits data.toNat 31 31 1)) } ∧ s.wordsBut u [Reg.scnQuery]) ∧
    ∀ q, s.scn.query = some q →
      ∃ u, exec .scnQueryDone s = .next u ∧ u.scn = { s.scn with query := none } ∧ u.flag Reg.scnQuery 31 = false ∧
        u.flag 0x20010 6 = true ∧ u.rd Reg.scnQueryStat = (if q.none then 2 else 1) ∧
        (∀ i, i < 4 → u.rd (Reg.scnQueryE i) = q.words.getD i 0 % 2 ^ 32) ∧
        s.wordsBut u [Reg.scnQuery, Reg.scnQueryStat, Reg.scnQueryE 0, Reg.scnQueryE 1, Reg.scnQueryE 2, Reg.scnQueryE 3, 0x20010]

/-- A staging version opens as a copy of the newest, windows fill from DRAM, a stalled change is given up (R112, R115, R118,
R119, R120, R122, R124). With a region, no staging version and room for one, a staging version opens with the target that R112
gives and the planes and directory of the newest version. A window fill that is due, of a stored unit that decodes, takes a free slot
of the slice or the least recently used one that no tile keeps, counted and most recently used; a unit that does not decode is marked
BAD and leaves the windows, and a poisoned read is counted. A change that waits and still finds no space, with only the front and the
staging version left, discards the staging version, and no session stays ACTIVE; with another version left to retire it waits on. That
a staging version opens without a check of the free space, and that one is discarded where there is no front version either, are
the model's choices (log entries 142 and 153), as is the count of BAD units (log entry 141). -/
def Obligations.SceneVersions : Prop :=
  ∀ s : State,
    (s.scn.region.isSome = true → s.scn.discard = false → s.scn.release = false → s.scn.staging = none →
        s.scn.versions.length ≤ 3 →
      ∃ u v, exec .stagingOpen s = .next u ∧ u.scn.staging = some v ∧ v.tag = s.newTarget ∧ v.tagged = [] ∧
        (∀ n, s.scn.newest = some n → v.planes = n.planes ∧ v.dir = n.dir) ∧
        (s.scn.newest = none → v.planes = [] ∧ v.dir = []) ∧
        u.scn.front = s.scn.front ∧ u.scn.pendingV = s.scn.pendingV ∧ u.scn.pages = s.scn.pages ∧ u.scn.units = s.scn.units ∧
        s.wordsBut u [0x20010]) ∧
    (∀ k which p bx brow e, s.fillEntry k which p bx brow = some e → s.fillDue k e.addr = true → s.dramRead e.addr e.len = none →
      ∃ u, exec (.windowFill k which p bx brow) s = .next u ∧ u.scn = s.scn ∧
        u.rd (Reg.scnStat 6) = (s.rd (Reg.scnStat 6) + 1) % 2 ^ 32 ∧ s.wordsBut u [Reg.scnStat 6]) ∧
    (∀ k which p bx brow e b, s.fillEntry k which p bx brow = some e → s.fillDue k e.addr = true → s.dramRead e.addr e.len = some b →
      let w := s.scn.windows.getD k []
      let room := if w.length < 1228 then some w else dropOldest (s.keeps k) w
      ∃ u, exec (.windowFill k which p bx brow) s = .next u ∧
        ((mbcUnit (some e.len) none b).code = 0 ∧ (mbcUnit (some e.len) none b).out.length = 20480 →
          (∀ r, room = some r → u.scn.windows = s.scn.windows.set k
              (r ++ [{ addr := e.addr, data := (mbcUnit (some e.len) none b).out, lastUse := s.scn.useCount }]) ∧
            u.scn.useCount = s.scn.useCount + 1 ∧ u.rd (Reg.scnWin (4 * k + 3)) = (s.rd (Reg.scnWin (4 * k + 3)) + 1) % 2 ^ 32) ∧
          (room = none → u.scn = s.scn) ∧ u.ing = s.ing) ∧
        (¬((mbcUnit (some e.len) none b).code = 0 ∧ (mbcUnit (some e.len) none b).out.length = 20480) →
          u.flag 0x20010 5 = true ∧ u.rd (Reg.scnStat 5) = (s.rd (Reg.scnStat 5) + 1) % 2 ^ 32 ∧
          (∀ l ∈ u.scn.windows, ∀ q ∈ l, q.addr ≠ e.addr) ∧
          ∀ pg ∈ u.scn.pages, ∀ x ∈ pg.entries, ¬(x.2.kind = 1 ∧ x.2.addr = e.addr))) ∧
    ∀ k, s.scn.waiting = some k →
      let w := State.stepCmd { s with scn := { s.scn with waiting := none } } k (fun _ => true)
      ∃ u, exec .stagingChangeResume s = .next u ∧
        (w.scn.waiting = none → u.scn = w.scn ∧ u.ing = w.ing ∧ u.dram = w.dram ∧ u.regs = w.regs) ∧
        (w.scn.waiting ≠ none → s.scn.back ≠ none ∨ s.scn.pendingV ≠ [] → u.scn = s.scn ∧ u.ing = s.ing ∧ u.dram = s.dram) ∧
        (w.scn.waiting ≠ none → s.scn.back = none → s.scn.pendingV = [] →
          u.scn.staging = none ∧ u.scn.waiting = none ∧ u.scn.front = s.scn.front ∧ u.dram = s.dram ∧
          ∀ j, j < 64 → (u.sess j).state ≠ 2)

/-- A datagram that passes every check is buffered in the order of its numbers (R137, R140, R136). With ingest enabled, a
datagram from the source its session names whose header passes, and whose tag passes where the session decrypts, is counted and
buffered by rising SEQ where its session is ACTIVE, SEQ is within the 4,096 numbers from EXP on and not held yet, and the
reassembly area has room. One whose tag fails is counted and raises its event, and nothing is buffered. A replay's shift does
not apply here; a datagram from the network carries the handle that the path gave it, and the key slot has not been loaded anew
since. -/
def Obligations.DatagramsArrive : Prop :=
  ∀ (s : State) (src k len seq t : Nat) (bytes : List Byte) (reply : Option Reply),
    s.flag Reg.ingCtrl 0 = true → s.domOn 14 = true → s.sessSource k = src → (s.sess k).state = 2 → k < 64 →
    beNat (slice bytes 0 2) = 0x4B53 → beNat (slice bytes 2 1) = 1 → beNat (slice bytes 3 1) = 1 → beNat (slice bytes 4 1) = k →
    beNat (slice bytes 5 1) < 4 → beNat (slice bytes 6 2) = len → len % 4 = 0 → len ≤ 8904 → beNat (slice bytes 8 6) = seq →
    bytes.length = 32 + len + (if s.flag (Reg.ingSCtrl k) 4 then 16 else 0) →
    (src = 0 → ∀ f rest, (s.path s.fov.holder).fwd = f :: rest → f.bytes = bytes → some f.reply = reply → s.flag (Reg.ingSCtrl k) 4 = true →
      ((s.sess k).keys.getD (beNat (slice bytes 5 1) / 2 % 2) KeySlot.reset).gen =
        (if beNat (slice bytes 5 1) / 2 % 2 = 0 then f.handle.1 else f.handle.2)) →
    let key := (s.sess k).keys.getD (beNat (slice bytes 5 1) / 2 % 2) KeySlot.reset
    let plain := if s.flag (Reg.ingSCtrl k) 4
      then gcmOpen key.key (kstNonce key.salt 0 k seq) (bytes.take 32) (slice bytes 32 len) (slice bytes (32 + len) 16)
      else some (slice bytes 32 len)
    (s.flag (Reg.ingSCtrl k) 4 = true → key.loaded = true) →
    ∃ u, exec (.datagramReceive src bytes (if src = 0 then reply else none) t) s = .next u ∧
      u.rd (Reg.ingStat 0) = (s.rd (Reg.ingStat 0) + 1) % 2 ^ 32 ∧
      (∀ pl, plain = some pl → (s.sess k).exp ≤ seq → seq ≤ (s.sess k).exp + 4095 → (∀ d ∈ (s.sess k).buf, d.seq ≠ seq) →
        s.reasmUsed + 32 + pl.length ≤ s.fld Reg.ingReasmSize 11 0 * 2 ^ 20 →
        (u.sess k).repRx = (s.sess k).repRx + 1 ∧
        (u.sess k).buf = insertDgram (Dgram.mk seq (beNat (slice bytes 16 8)) (beNat (slice bytes 24 8))
          (bitOf (beNat (slice bytes 5 1)) 0) (beNat (slice bytes 14 2)) pl) (s.sess k).buf) ∧
      (plain = none → (u.sess k).repAuth = (s.sess k).repAuth + 1 ∧ (u.sess k).buf = (s.sess k).buf ∧ u.flag 0x30010 2 = true)

/-- Datagrams are taken in order, a key opens a session, and a gap that outlasts its NACKs closes it (R138, R142, R143, R144,
R145, R150). The datagram with SEQ EXP is taken where the staging target has reached its frame: EXP moves on, and its commands
stand ready; one without commands and payload is over at once. In WAIT_KEY the first key datagram whose base is 0 or the newest
version makes the session ACTIVE from the number after it. A gap that has outlasted its NACKs puts the session back to WAIT_KEY
with its event. -/
def Obligations.DatagramsApplied : Prop :=
  ∀ (s : State) (k t : Nat),
    (∀ d g, (s.sess k).state = 2 → (s.sess k).applying = none → s.scn.waiting = none → s.target = some g →
        (s.sess k).buf.find? (fun d => d.seq == (s.sess k).exp) = some d → d.frame ≤ g → (s.sess k).lastFrame ≤ d.frame →
      ∃ u, exec (.datagramApply k) s = .next u ∧ (u.sess k).exp = (s.sess k).exp + 1 ∧ (u.sess k).lastFrame = d.frame ∧
        (u.sess k).buf = (s.sess k).buf.filter (fun e => e.seq != (s.sess k).exp) ∧
        (d.count ≠ 0 → (u.sess k).applying = some { seq := d.seq, frame := d.frame, left := d.count, payload := d.payload }) ∧
        (d.count = 0 → d.payload = [] → (u.sess k).applying = none ∧ (u.sess k).state = 2)) ∧
    (∀ d g, (s.sess k).state = 1 → s.scn.waiting = none → s.target = some g → (s.sess k).firstKey = some d → d.frame ≤ g →
        (d.base = 0 ∨ s.scn.newest.map (fun v => v.tag) = some d.base) → (d.count ≠ 0 ∨ d.payload = []) →
      ∃ u, exec (.keyAccept k) s = .next u ∧ (u.sess k).state = 2 ∧ (u.sess k).exp = d.seq + 1 ∧ u.flag 0x30010 6 = true ∧
        (u.sess k).buf = (s.sess k).buf.filter (fun e => decide (d.seq < e.seq ∧ e.seq ≤ d.seq + 4096))) ∧
    (s.domOn 14 = true → (s.at t).gapTimedOut k = true → (s.sess k).state = 2 →
      ∃ u, exec (.gapTimeout k t) s = .next u ∧ (u.sess k).state = 1 ∧ (u.sess k).gapAt = none ∧ (u.sess k).buf = (s.sess k).buf ∧
        u.flag 0x30010 1 = true ∧ s.wordsBut u [0x30010])

/-- Plane commands set descriptors of the staging version; a commit of every gating session ends it (R101, R138, R139, R146,
R148, R149). For the command at the front of a session's datagram, on a plane of its mask: DEFINE_PLANE sets the whole
descriptor with no block stored; ALTER_PLANE replaces the masked words, or waits for table space where it narrows the plane;
SET_DEPTH replaces Z alone; each tags the staging version with its frame. COMMIT_FRAME below the target is counted as stale; at
or above it the session is done with that frame, and the staging version becomes pending exactly if every gating session is
ACTIVE and done with the target; in the latch cycle the target has moved on already. -/
def Obligations.PlaneCommands : Prop :=
  ∀ (s : State) (k : Nat) (a : Applying) (c : KstCmd) (v : Version),
    s.scn.waiting = none → s.domOn 14 = true → (s.sess k).applying = some a → a.head = some c → s.scn.staging = some v →
    (c.plane < 32 → s.flag (Reg.ingSPlanes k) c.plane = true →
      (c.op = 1 → descriptorOk (beWords 8 c.body) = true →
        ∃ u x, exec (.definePlane k) s = .next u ∧ u.scn.staging = some x ∧ x.plane c.plane = some (planeOfWords (beWords 8 c.body)) ∧
          (∀ q, q ≠ c.plane → x.plane q = v.plane q) ∧ (∀ r, r < 144 → x.pageId c.plane r = 0) ∧ x.tag = v.tag ∧
          a.frame ∈ x.tagged ∧ u.dram = s.dram) ∧
      (∀ old, v.plane c.plane = some old →
        let w := (List.range 8).map (fun i => if bitOf (beNat (slice c.body 0 4)) i then (beWords 8 (c.body.drop 4)).getD i 0 else old.word i)
        (c.op = 2 → descriptorOk w = true →
          ∃ u, exec (.alterPlane k) s = .next u ∧ (old.wblk ≤ (planeOfWords w).wblk → u.scn.waiting = none) ∧
            (u.scn.waiting = none → ∃ x, u.scn.staging = some x ∧ x.plane c.plane = some (planeOfWords w) ∧
              (∀ q, q ≠ c.plane → x.plane q = v.plane q) ∧ x.tag = v.tag ∧ a.frame ∈ x.tagged) ∧
            (u.scn.waiting ≠ none → u.scn.waiting = some k ∧ u.scn.staging = some v ∧ u.ing = s.ing ∧ u.flag 0x20010 3 = true)) ∧
        (c.op = 7 → beNat (slice c.body 0 4) < 2 ^ 24 →
          ∃ u x, exec (.setDepth k) s = .next u ∧ u.scn.staging = some x ∧
            x.plane c.plane = some { old with z := signedBits (beNat (slice c.body 0 4)) 24 } ∧
            (∀ q, q ≠ c.plane → x.plane q = v.plane q) ∧ x.dir = v.dir ∧ a.frame ∈ x.tagged ∧
            u.scn.pages = s.scn.pages ∧ u.scn.units = s.scn.units ∧ u.dram = s.dram))) ∧
    (c.op = 8 →
      ∃ u, exec (.commitFrame k) s = .next u ∧ u.dram = s.dram ∧
        (a.frame < s.targetOf v → u.scn.staging = some v ∧ u.scn.pendingV = s.scn.pendingV ∧
          u.rd (Reg.ingStat 9) = (s.rd (Reg.ingStat 9) + 1) % 2 ^ 32) ∧
        (s.targetOf v ≤ a.frame → (u.sess k).doneFrame = some a.frame ∧ u.rd (Reg.ingSCommitLo k) = a.frame % 2 ^ 32 ∧
          let gates := fun j => s.flag (Reg.ingSCtrl j) 0 && s.flag (Reg.ingSCtrl j) 1
          let done := fun j => (s.sess j).state = 2 ∧ (if j = k then a.frame = s.targetOf v else (s.sess j).doneFrame = some (s.targetOf v))
          ((∃ j, j < 64 ∧ gates j = true) ∧ (∀ j, j < 64 → gates j = true → done j) →
            u.scn.staging = none ∧ u.scn.pendingV = s.scn.pendingV ++ [v]) ∧
          (¬((∃ j, j < 64 ∧ gates j = true) ∧ ∀ j, j < 64 → gates j = true → done j) →
            u.scn.staging = some v ∧ u.scn.pendingV = s.scn.pendingV)))

/-- Commands on blocks are applied whole, with their error noted, or wait for space or an engine with nothing applied (R115, R118, R139,
R107, R159). For WRITE_BLOCK, COPY_REGION, FILL_REGION and GLYPH_RUN at the front of a datagram: where what the command does is done, its
blocks, units and bytes stand as it leaves them and an error code is counted and noted; where space is short, the session waits and
nothing of it is applied; an edit of part of a block is held while no engine for edits is ACTIVE. A first or following fragment of a block
that is not yet whole only lengthens the open block. A fill or an aligned copy of whole blocks writes no DRAM. -/
def Obligations.BlockCommands : Prop :=
  ∀ (s : State) (k : Nat) (a : Applying) (c : KstCmd) (d : PlaneDesc),
    s.scn.waiting = none → s.domOn 14 = true → (s.sess k).applying = some a → a.head = some c → 3 ≤ c.op → c.op ≤ 6 → c.plane < 32 →
    s.flag (Reg.ingSPlanes k) c.plane = true → s.stagingPlane c.plane = some d → s.cmdCodes c = 0 →
    (c.op = 4 → (s.stagingPlane (beNat (slice c.body 0 1))).isSome = true) →
    let cmd : Instr := if c.op = 3 then .writeBlock k else if c.op = 4 then .copyRegion k else if c.op = 5 then .fillRegion k else .glyphRun k
    let what := if c.op = 3 then s.cmdWriteBlock k a.frame c else if c.op = 4 then s.cmdCopy c else if c.op = 5 then s.cmdFill c else s.cmdGlyph c d
    let g := fun i => beNat (slice c.body i 2)
    (c.partial_ d = true → s.editEngine = false →
      ∃ u, exec cmd s = .next u ∧ u.scn = s.scn ∧ u.ing = s.ing ∧ u.dram = s.dram ∧ u.regs = s.regs) ∧
    ((c.partial_ d = true → s.editEngine = true) → ∃ u, exec cmd s = .next u ∧
      (∀ code w, what = .done code w → u.scn.pages = w.scn.pages ∧ u.scn.units = w.scn.units ∧ u.dram = w.dram ∧ u.scn.waiting = none ∧
        (code ≠ 0 → u.fld (Reg.ingSErr k) 15 0 = (if a.left = 1 ∧ a.payload.drop (4 + c.body.length) ≠ [] then 0x308 else code % 65536) ∧
          u.flag 0x30010 3 = true)) ∧
      (what = .wait → u.scn.waiting = some k ∧ u.scn.staging = s.scn.staging ∧ u.scn.pages = s.scn.pages ∧ u.scn.units = s.scn.units ∧
        u.dram = s.dram ∧ u.ing = s.ing ∧ u.flag 0x20010 3 = true ∧ s.wordsBut u [0x20010]) ∧
      (c.op = 3 → beNat (slice c.body 8 4) + g 2 < beNat (slice c.body 4 4) →
        (beNat (slice c.body 8 4) = 0 → (s.sess k).opened = none →
          (u.sess k).opened = some (OpenBlock.mk c.plane (beNat (slice c.body 0 1)) (beNat (slice c.body 1 1))
            (beNat (slice c.body 4 4)) (slice c.body 12 (g 2))) ∨ (u.sess k).state = 1) ∧
        (∀ o, (s.sess k).opened = some o → o.plane = c.plane → o.bx = beNat (slice c.body 0 1) → o.brow = beNat (slice c.body 1 1) →
          o.total = beNat (slice c.body 4 4) → o.data.length = beNat (slice c.body 8 4) →
          (u.sess k).opened = some { o with data := o.data ++ slice c.body 12 (g 2) } ∨ (u.sess k).state = 1)) ∧
      (c.op = 5 → g 0 % 64 = 0 → g 2 % 64 = 0 → g 4 % 64 = 0 → g 6 % 64 = 0 → u.dram = s.dram) ∧
      (c.op = 4 → g 4 % 64 = 0 → g 6 % 64 = 0 → g 8 % 64 = 0 → g 10 % 64 = 0 → g 12 % 64 = 0 → g 14 % 64 = 0 → u.dram = s.dram))

/-- A NACK that is due and a REPORT of the frame just ended go out and are counted (R136, R140, R141, R150, R151). A NACK that
is due names the missing numbers, at most 32 ranges, counts itself and them, and notes its instant. The REPORT made up at the
frame's end goes out within 10 µs of it, once. Each is sealed under the session's newest key with the next egress number. -/
def Obligations.IngestSends : Prop :=
  ∀ (s : State) (k t : Nat), s.domOn 14 = true → (s.sess k).state ≠ 0 →
    ((s.at t).nackDue k = true →
      ∃ u, exec (.nackSend k t) s = .next u ∧ (u.sess k).nacks = (s.sess k).nacks + 1 ∧ (u.sess k).lastNack = max s.now t ∧
        (u.sess k).buf = (s.sess k).buf ∧ (u.sess k).egress = (s.sess k).egress + 1 ∧
        u.rd (Reg.ingStat 5) = (s.rd (Reg.ingStat 5) + 1) % 2 ^ 32 ∧
        u.rd (Reg.ingSNacked k) = (s.rd (Reg.ingSNacked k) + ((s.sess k).nackRanges.map (fun q => q.2)).sum) % 2 ^ 32 ∧
        (s.sess k).nackRanges.length ≤ 32) ∧
    (∀ p, (s.sess k).report = some p → max s.now t ≤ s.ras.frameStart + 10 * us →
      ∃ u, exec (.reportSend k t) s = .next u ∧ (u.sess k).report = none ∧
        (u.sess k).egress = (s.sess k).egress + (if (s.sess k).reply.isSome then 1 else 0) ∧
        (u.sess k).buf = (s.sess k).buf ∧ u.scn = s.scn)

/-- Sessions open waiting for a key and close with nothing left; injections run once and end with their event (R132, R134, R153,
R163, R164). An accepted EN of a session from 0 to 1 opens it in WAIT_KEY with its key slots kept; from 1 to 0 closes it with
all it buffered. EN of ING_CTRL set changes no session; cleared, every session is closed and its EN is 0. GO of an injection
reads its bytes, and its end clears GO and raises the event; a poisoned read is counted as a header failure and sets POISON. -/
def Obligations.SessionsAndInjection : Prop :=
  ∀ (s : State) (who : Requester) (data : Word),
    (∀ k, k < 64 →
      (s.accepts who (Reg.ingSCtrl k) (putBits data.toNat 0 0 1) → s.flag (Reg.ingSCtrl k) 0 = false →
        ∃ u, exec (.sessionEnable who k data) s = .next u ∧ u.flag (Reg.ingSCtrl k) 0 = true ∧ u.scn = s.scn ∧
          u.ing.sessions = s.ing.sessions.set k
            { Session.reset with state := 1, keys := (s.sess k).keys, newestSlot := (s.sess k).newestSlot }) ∧
      (s.accepts who (Reg.ingSCtrl k) (putBits data.toNat 0 0 0) → s.flag (Reg.ingSCtrl k) 0 = true →
        ∃ u, exec (.sessionClose who k data) s = .next u ∧ u.flag (Reg.ingSCtrl k) 0 = false ∧
          u.ing.sessions = s.ing.sessions.set k { Session.reset with keys := (s.sess k).keys, newestSlot := (s.sess k).newestSlot })) ∧
    (s.accepts who Reg.ingCtrl (putBits data.toNat 0 0 1) →
      ∃ u, exec (.ingEnable who data) s = .next u ∧ u.flag Reg.ingCtrl 0 = true ∧ u.ing = s.ing ∧ u.scn = s.scn ∧
        s.wordsBut u [Reg.ingCtrl]) ∧
    (s.accepts who Reg.ingCtrl (putBits data.toNat 0 0 0) → s.flag Reg.ingCtrl 0 = true →
      ∃ u, exec (.ingDisable who data) s = .next u ∧ u.flag Reg.ingCtrl 0 = false ∧
        ∀ k, k < 64 → (u.sess k).state = 0 ∧ (u.sess k).buf = [] ∧ (u.sess k).keys = (s.sess k).keys ∧ u.flag (Reg.ingSCtrl k) 0 = false) ∧
    (s.accepts who Reg.ingInjCtrl (putBits data.toNat 31 31 1) →
      ∃ u, exec (.injectGo who data) s = .next u ∧ u.flag Reg.ingInjCtrl 31 = true ∧ u.flag Reg.ingInjCtrl 30 = false ∧
        u.ing = { s.ing with inject := some (bitsOf data.toNat 21 16, (s.dramRead s.injAddr (bitsOf data.toNat 13 0)).isNone,
          (s.dramRead s.injAddr (bitsOf data.toNat 13 0)).getD []) } ∧ s.wordsBut u [Reg.ingInjCtrl]) ∧
    ∀ j bad bytes, s.ing.inject = some (j, bad, bytes) →
      ∃ u, exec .ingInjectDone s = .next u ∧ u.ing.inject = none ∧ u.flag Reg.ingInjCtrl 31 = false ∧ u.flag 0x30010 5 = true ∧
        (bad = true → u.flag Reg.ingInjCtrl 30 = true ∧ u.rd (Reg.ingStat 1) = (s.rd (Reg.ingStat 1) + 1) % 2 ^ 32 ∧
          u.ing.sessions = s.ing.sessions)


/-! ### MBC engines, tiles, Barchan and the Oasis -/

/-- A tail write queues descriptors and an idle engine takes the descriptor at its head (R160, R166, R167). An accepted write of
RING_TAIL moves the tail and starts nothing by itself. An enabled, ACTIVE and idle engine whose ring is not empty reads its head
descriptor and is RUNNING with it, by the row of its OP (a reserved OP is taken by the DECODE row, the model's choice, log entry
48): its source so far, its first destination buffer, both length registers 0, and no byte of memory written. -/
def Obligations.MbcJobsStart : Prop :=
  ∀ (s : State) (n : Nat), n < 8 →
    (∀ (who : Requester) (data : Word), s.accepts who (Reg.mbcRingTail n) data.toNat →
      ∃ u, exec (.mbcRingTail who n data) s = .next u ∧ u.rd (Reg.mbcRingTail n) = data.toNat ∧ u.mbc = s.mbc ∧ u.dram = s.dram ∧
        s.wordsBut u [Reg.mbcRingTail n]) ∧
    (s.flag (Reg.mbcCtrl n) 0 = true → (s.eng n).state = 0 → s.rd (Reg.mbcRingHead n) ≠ s.rd (Reg.mbcRingTail n) → s.unitState (72 + n) = 0 →
      let w := s.mbcDesc n
      let op := bitsOf (w.getD 0 0) 3 0
      ∃ u j, exec (if op = 1 then .mbcEncodeJob n else if op = 2 then .mbcVerifyJob n else .mbcDecodeJob n) s = .next u ∧
        u.mbc = s.mbc.set n { state := 1, job := some j, fetched := true } ∧ j.words = w ∧ j.written = 0 ∧
        j.chunks = [(descDst w, w.getD 7 0)] ∧ (s.descCode w = 0 → j.input = s.readPrefix (descSrc w) (w.getD 6 0)) ∧
        u.fld (Reg.mbcJobStat n) 2 0 = 1 ∧ u.rd (Reg.mbcInConsumed n) = 0 ∧ u.rd (Reg.mbcOutProduced n) = 0 ∧ u.dram = s.dram ∧
        s.wordsBut u [Reg.mbcJobStat n, Reg.mbcInConsumed n, Reg.mbcOutProduced n])

/-- A job that has come to its end fills in its descriptor; one out of space or source stops (R157, R160, R161). A RUNNING job
whose result needs neither space nor source ends: its output is written, STATUS stands in the descriptor's bytes 6 and 7 where
they can be written, the head moves on round the ring, the registers hold the code and the lengths, and the events follow INT,
the code and the ring running empty. One that needs more writes what it has and stops, OUT_FULL or IN_EMPTY, with its event; on an
engine in FENCING it ends there with CANCELLED (R167). -/
def Obligations.MbcJobsEnd : Prop :=
  ∀ (s : State) (n : Nat) (j : MbcJob), n < 8 → (s.eng n).state = 1 → (s.eng n).job = some j →
    let r := j.result (s.descCode j.words)
    let out := if r.code = 0 then r.out else []
    let a := s.mbcHeadAddr n
    (r.stop = 0 →
      ∃ u, exec (.mbcJobDone n) s = .next u ∧ u.mbc = s.mbc.set n MbcEng.reset ∧
        u.rd (Reg.mbcRingHead n) = (s.rd (Reg.mbcRingHead n) + 1) % max (s.fld (Reg.mbcRingSize n) 12 0) 1 ∧
        u.rd (Reg.mbcJobStat n) = r.code % 65536 * 65536 ∧ u.rd (Reg.mbcInConsumed n) = r.consumed % 2 ^ 32 ∧
        u.rd (Reg.mbcOutProduced n) = out.length % 2 ^ 32 ∧ u.rd (Reg.mbcStat n 0) = (s.rd (Reg.mbcStat n 0) + 1) % 2 ^ 32 ∧
        (bitOf (j.words.getD 0 0) 30 = true → u.flag (0x40010 + 0x1000 * n) 0 = true) ∧
        (r.code ≠ 0 → u.flag (0x40010 + 0x1000 * n) 2 = true) ∧
        (u.rd (Reg.mbcRingHead n) = s.rd (Reg.mbcRingTail n) → u.flag (0x40010 + 0x1000 * n) 3 = true) ∧
        (s.dramOk (a + 6) 1 = true → s.dramOk (a + 7) 1 = true → s.linePoisoned ((a + 6) / 64) = false →
          s.linePoisoned ((a + 7) / 64) = false →
          u.byte (a + 6) = BitVec.ofNat 8 r.code ∧ u.byte (a + 7) = BitVec.ofNat 8 (r.code / 256))) ∧
    (r.stop ≠ 0 →
      ∃ u, exec (.mbcStopped n) s = .next u ∧ u.flag (0x40010 + 0x1000 * n) 1 = true ∧
        u.rd (Reg.mbcInConsumed n) = r.consumed % 2 ^ 32 ∧ u.rd (Reg.mbcOutProduced n) = r.out.length % 2 ^ 32 ∧
        (s.unitState (72 + n) ≠ 1 →
          u.mbc = s.mbc.set n
            { state := if r.stop = 1 then 2 else 3, job := some { j with written := r.out.length }, fetched := (s.eng n).fetched } ∧
          u.dram = (s.writeChunks j.chunks r.out).dram ∧ u.fld (Reg.mbcJobStat n) 2 0 = (if r.stop = 1 then 2 else 3)) ∧
        (s.unitState (72 + n) = 1 →
          u.mbc = s.mbc.set n MbcEng.reset ∧ u.rd (Reg.mbcJobStat n) = 0x40C * 65536 ∧ u.flag (0x40010 + 0x1000 * n) 2 = true ∧
          u.rd (Reg.mbcRingHead n) = (s.rd (Reg.mbcRingHead n) + 1) % max (s.fld (Reg.mbcRingSize n) 12 0) 1))

/-- A stopped job goes on with more space or source, and CANCEL and a cleared EN end it (R161, R167). An accepted RESUME_OUT
adds the resume buffer to the destination, RESUME_IN adds its bytes to the source, and the job runs on. CANCEL, or EN written
from 1 to 0 with a job in hand, ends the job with CANCELLED: the engine is idle, the head moves on and the error event is
raised. -/
def Obligations.MbcResumes : Prop :=
  ∀ (s : State) (who : Requester) (n : Nat) (j : MbcJob) (data : Word), n < 8 → (s.eng n).job = some j →
    (s.accepts who (Reg.mbcResume n) 1 →
      ∃ u, exec (.mbcResumeOut who n) s = .next u ∧ u.fld (Reg.mbcJobStat n) 2 0 = 1 ∧ u.dram = s.dram ∧
        u.mbc = s.mbc.set n { s.eng n with
          state := 1, job := some { j with chunks := j.chunks ++ [(s.mbcResumeAddr n, s.rd (Reg.mbcResumeLen n))] } }) ∧
    (s.accepts who (Reg.mbcResume n) 2 →
      let more := s.readPrefix (s.mbcResumeAddr n) (s.rd (Reg.mbcResumeLen n))
      ∃ u, exec (.mbcResumeIn who n) s = .next u ∧ u.fld (Reg.mbcJobStat n) 2 0 = 1 ∧ u.dram = s.dram ∧
        u.mbc = s.mbc.set n { s.eng n with
          state := 1,
          job := some { j with input := j.input ++ more, poisoned := j.poisoned || decide (more.length < s.rd (Reg.mbcResumeLen n)) } }) ∧
    (s.accepts who (Reg.mbcResume n) 4 →
      ∃ u, exec (.mbcCancel who n) s = .next u ∧ u.mbc = s.mbc.set n MbcEng.reset ∧
        u.rd (Reg.mbcJobStat n) = 0x40C * 65536 ∧ u.flag (0x40010 + 0x1000 * n) 2 = true ∧
        u.rd (Reg.mbcRingHead n) = (s.rd (Reg.mbcRingHead n) + 1) % max (s.fld (Reg.mbcRingSize n) 12 0) 1) ∧
    (s.accepts who (Reg.mbcCtrl n) (putBits data.toNat 0 0 0) → s.flag (Reg.mbcCtrl n) 0 = true →
      ∃ u, exec (.mbcDisable who n data) s = .next u ∧ u.flag (Reg.mbcCtrl n) 0 = false ∧ u.mbc = s.mbc.set n MbcEng.reset ∧
        u.rd (Reg.mbcJobStat n) = 0x40C * 65536 ∧ u.flag (0x40010 + 0x1000 * n) 2 = true)

/-- Clusters claim, start and steal tiles in the order of R234, each with a new epoch (R234, R235, R236, R237, R238, R258). A
cluster with room claims the head of its slice's queue, which it then owns under the next epoch; an idle one starts the tile it
claimed first, where the epoch still matches and the window holds what it is to find there (R120); one with nothing to do steals the
victim that the rules name, which counts the steal and sends its former owner a revoke; an arriving revoke takes the tile from the
victim, running or not. While Barchan restarts nothing is claimed and nothing stolen. How a tile's finish is predicted, and what a
victim had done of a tile it abandons, is left open (free values, log entries 20 and 149). -/
def Obligations.TilesAndClusters : Prop :=
  ∀ (s : State) (c i : Nat),
    (∀ t, s.clusterOn c = true → (s.cl c).count < 2 → (s.at i).plcRestarting = false → s.queueHead (c / 8) = some t →
      let t' := { t with state := .claimed, owner := some c, epoch := (t.epoch + 1) % 256, remote := c / 8 != t.home }
      ∃ u, exec (.clusterClaim c i) s = .next u ∧ u.clusters = s.clusters.set c { s.cl c with held := (s.cl c).held ++ [t'.hold] } ∧
        u.tileOf t.hold = some t' ∧ u.regs = s.regs) ∧
    (∀ h rest t, (s.cl c).held = h :: rest → (s.cl c).running = none → s.clusterOn c = true → s.tileOf h = some t → t.epoch = h.epoch →
        t.state = .claimed → (s.at i).windowReady t = true →
      ∃ u, exec (.tileStart c i) s = .next u ∧
        u.clusters = s.clusters.set c { s.cl c with
          held := rest, running := some h, since := max s.now i, ran := 0, far := t.home != c / 8 } ∧
        u.tileOf h = some { t with state := .started, startAt := max s.now i, ran := 0, cache := [] } ∧
        u.fld (Reg.slcClTile (c / 8) (c % 8)) 31 24 = t.epoch % 256) ∧
    (∀ t, s.flag Reg.plcCtrl 1 = true → s.clusterOn c = true → (s.cl c).held = [] → s.queueHead (c / 8) = none →
        (s.at i).plcRestarting = false → (s.at i).victim c = some t →
      let t' := { t with
        state := .claimed, owner := some c, epoch := (t.epoch + 1) % 256, steals := t.steals + 1, remote := c / 8 != t.home }
      ∃ u, exec (.tileSteal c i) s = .next u ∧ u.tileOf t.hold = some t' ∧ t.steals < s.fld Reg.plcCtrl 14 12 ∧
        u.rd (Reg.plcStat 0) = (s.rd (Reg.plcStat 0) + 1) % 2 ^ 32 ∧
        ∀ v, t.owner = some v → v ≠ c → v < s.clusters.length → (u.cl v).revokes = (s.cl v).revokes ++ [t.hold]) ∧
    (∀ h rest, (s.cl c).revokes = h :: rest →
      ∃ u, exec (.revokeArrive c i) s = .next u ∧ u.brc = s.brc ∧
        u.rd (Reg.plcStat 2) = (s.rd (Reg.plcStat 2) + 1) % 2 ^ 32 ∧
        u.clusters = s.clusters.set c
          { s.cl c with held := (s.cl c).held.filter (fun x => x != h),
                        running := if (s.cl c).running = some h then none else (s.cl c).running, revokes := rest } ∧
        ((s.cl c).running = some h → u.rd (Reg.slcClTile (c / 8) (c % 8)) = 0) ∧
        ((s.cl c).running ≠ some h → s.wordsBut u [Reg.plcStat 2])) ∧
    ((s.at i).plcRestarting = true →
      (∃ u, exec (.clusterClaim c i) s = .next u ∧ u.clusters = s.clusters ∧ u.brc = s.brc) ∧
      ∃ u, exec (.tileSteal c i) s = .next u ∧ u.clusters = s.clusters ∧ u.brc = s.brc)

/-- Planning makes the next frame's plan once, hints and cost map copies are taken with it, a restart keeps the plan in force
(R226, R227, R230, R252, R255, R258). On the planning line, with Barchan on and not restarting, planning makes a plan for the
next frame, takes an armed hint and answers a request for the cost map. An accepted GO of a hint or a cost map copy stands until
then; the copy's end writes its words and raises its event. A restart lasts 100 µs (the model's choice, log entry 21) and
changes no cost and no plan in force. -/
def Obligations.BarchanPlans : Prop :=
  ∀ (s : State) (who : Requester) (data : Word) (t : Nat),
    (s.domOn 17 = true → s.planningLine = true → s.plc.planned = false → (s.at t).plcRestarting = false →
      ∃ u p, exec (.planningStart t) s = .next u ∧ u.plc.planned = true ∧ u.plc.prep = some p ∧ p.owner = (s.planStripes s.nextT).1 ∧
        u.plc.plan = s.plc.plan ∧ u.flag Reg.plcHintCtrl 31 = false ∧ (u.flag Reg.plcStatus 16 = true → u.flag 0x80010 0 = true) ∧
        (s.flag Reg.plcCostmapCtrl 31 = true → u.plc.mapCopy.isSome = true)) ∧
    (s.accepts who Reg.plcHintCtrl (putBits data.toNat 31 31 1) →
      ∃ u, exec (.plcHintGo who data) s = .next u ∧ u.flag Reg.plcHintCtrl 31 = true ∧ u.plc = s.plc ∧ s.wordsBut u [Reg.plcHintCtrl]) ∧
    (s.accepts who Reg.plcCostmapCtrl (putBits data.toNat 31 31 1) →
      ∃ u, exec (.plcCostmapGo who data) s = .next u ∧ u.flag Reg.plcCostmapCtrl 31 = true ∧ u.flag Reg.plcCostmapCtrl 0 = false ∧
        u.plc = s.plc ∧ s.wordsBut u [Reg.plcCostmapCtrl]) ∧
    (∀ a bytes, s.plc.mapCopy = some (a, bytes) →
      ∃ u, exec .plcCostmapDone s = .next u ∧ u.plc = { s.plc with mapCopy := none } ∧ u.dram = (s.dramWrite a bytes).dram ∧
        u.flag Reg.plcCostmapCtrl 31 = false ∧ u.flag Reg.plcCostmapCtrl 0 = true ∧ u.flag 0x80010 6 = true) ∧
    (s.domOn 17 = true →
      ∃ u, exec (.barchanRestart t) s = .next u ∧ u.plc.restartEnd = some (max s.now t + 100 * us) ∧ u.plc.costs = s.plc.costs ∧
        u.plc.plan = s.plc.plan ∧ u.regs = s.regs)

/-- A ray result is admitted once under its epoch, and faults in a slice stop exactly what they name (R191, R206, R207, R244).
With the output stage on: a result without a live tile is counted as late, one of an old epoch as stale with its event, and
neither changes a tile; one of the tile that runs, with its ray synthesised and composed, is admitted and counted, and the last
one completes the tile. A residue failure, of an ACTIVE cluster or one in FENCING, stops the running tile, leaves it without an owner
and with a new epoch, is counted and fails the cluster. An uncorrected window error drops the slot of that unit. A lost slice is
marked, its columns go to its neighbours, its clusters hold nothing, its window is empty, and a pin that gives it columns is broken; a
slice that is still in use fails with its window first (the model's reading of the command, log entry 181). -/
def Obligations.RaysAndSliceFaults : Prop :=
  ∀ (s : State) (i : Nat),
    (∀ h sub line, s.domOn 16 = true →
      ((s.tileOf h = none ∨ ∃ t, s.tileOf h = some t ∧ (t.state = .dropped ∨ t.state = .complete)) →
        ∃ u, exec (.rayResultAdmit h.frame h.region h.band h.col h.epoch sub line i) s = .next u ∧ u.brc = s.brc ∧
          u.rd (Reg.brcStat 2) = (s.rd (Reg.brcStat 2) + 1) % 2 ^ 32 ∧ s.wordsBut u [Reg.brcStat 2]) ∧
      (∀ t, s.tileOf h = some t → t.state ≠ .dropped → t.state ≠ .complete →
        (h.epoch ≠ t.epoch →
          ∃ u, exec (.rayResultAdmit h.frame h.region h.band h.col h.epoch sub line i) s = .next u ∧ u.brc = { s.brc with stale := true } ∧
            u.rd (Reg.brcStat 3) = (s.rd (Reg.brcStat 3) + 1) % 2 ^ 32 ∧ (s.brc.stale = false → u.flag 0x70010 4 = true)) ∧
        (h.epoch = t.epoch → ∀ ps l r v, s.synSet t.frame = some ps → s.laySet t.frame = some l → s.runsNow t = true →
          sub < 3 * tileCols ps.timing t.col → line < tileLines ps.timing t.band → t.has (tileCols ps.timing t.col) line sub = false →
          synthRay ps (s.gridOf ps) (s.texels ps t.home) t.budget t.taps (3 * 1024 * t.col + sub)
            (t.region * ps.timing.vactive + 16 * t.band + line) = .ok r →
          (s.at i).compose l (3 * 1024 * t.col + sub) (t.region * ps.timing.vactive + 16 * t.band + line) r.color r.coverage = .ok v →
          ∃ u x, exec (.rayResultAdmit h.frame h.region h.band h.col h.epoch sub line i) s = .next u ∧ u.tileOf h = some x ∧
            x.rays = t.rays + 1 ∧ x.epoch = t.epoch ∧ u.rd (Reg.synStat 0) = (s.rd (Reg.synStat 0) + 1) % 2 ^ 32 ∧
            x.state = (if t.rays + 1 = tileRays ps.timing t.band t.col then .complete else t.state)))) ∧
    (∀ c h, c < 64 → s.unitState c ≤ 1 → s.unitState (64 + c / 8) ≤ 1 → (s.cl c).running = some h →
      ∃ u, exec (.residueFailure c i) s = .next u ∧
        (∀ t, s.tileOf h = some t → t.epoch = h.epoch → t.owner = some c →
          u.tileOf h = some { t with state := .stopped, owner := none, epoch := (t.epoch + 1) % 256 }) ∧
        u.rd (Reg.slcClStatFaults (c / 8) (c % 8)) = (s.rd (Reg.slcClStatFaults (c / 8) (c % 8)) + 1) % 2 ^ 32 ∧
        (u.cl c).running = none ∧ (u.cl c).held = [] ∧ u.fld (Reg.svcUnit c) 2 0 = 4 ∧ u.flag (0x60010 + 0x1000 * (c / 8)) 0 = true) ∧
    (∀ k a, k < 8 → s.domOn (6 + k) = true →
      (∃ u, exec (.windowEccError k a true i) s = .next u ∧ u.scn = s.scn ∧
        u.rd (Reg.slcStat k 2) = (s.rd (Reg.slcStat k 2) + 1) % 2 ^ 32 ∧ u.flag (0x60010 + 0x1000 * k) 1 = true) ∧
      ∃ u, exec (.windowEccError k a false i) s = .next u ∧
        u.scn.windows = s.scn.windows.set k ((s.scn.windows.getD k []).filter (fun w => w.addr != a)) ∧
        u.rd (Reg.slcStat k 3) = (s.rd (Reg.slcStat k 3) + 1) % 2 ^ 32 ∧ u.flag (0x60010 + 0x1000 * k) 2 = true) ∧
    (∀ k, k < 8 → s.unitState (64 + k) ≤ 1 → s.sliceGone k = false →
      ∃ u, exec (.sliceLost k i) s = .next u ∧ u.unitState (64 + k) = 4 ∧ u.flag 0x1D0010 0 = true) ∧
    ∀ k, k < 8 → s.sliceGone k = true → (s.stripesWith k).contains k = true → s.plc.lost.contains k = false →
      ∃ u p, exec (.sliceLost k i) s = .next u ∧ u.plc.plan = some p ∧ p.owner = handOver s.liveSlices k (s.stripesWith k) ∧ u.plc.lost = k :: s.plc.lost ∧ u.scn.windows = s.scn.windows.set k [] ∧
        (∀ c, c < 8 → (u.cl (8 * k + c)).held = []) ∧ u.rd (Reg.plcStat 8) = (s.rd (Reg.plcStat 8) + 1) % 2 ^ 32 ∧
        u.flag 0x80010 5 = true ∧
        (s.flag Reg.plcCtrl 6 = true → s.flag Reg.plcStatus 19 = false →
          (pinnedOwner (boundsOf (s.rd Reg.plcPinBounds0) (s.rd Reg.plcPinBounds1)) s.ras.timing.cols).contains k = true →
          u.flag Reg.plcStatus 19 = true ∧ u.flag 0x80010 4 = true)

/-- Calibration grids, LUTs and overdrive tables are loaded into a bank that is invalid until their check passes (R196, R197,
R223, R313). An accepted GO marks the bank invalid and reads the image; at its end GO clears, and either the check value is
right, the bank holds the table and the event of success is raised, or the bank stays invalid, the status holds the code and the
event of failure is raised. -/
def Obligations.TableLoads : Prop :=
  ∀ (s : State) (who : Requester) (data : Word),
    (s.accepts who Reg.synGridLoadCtrl (putBits data.toNat 31 31 1) →
      ∃ u, exec (.synGridLoadGo who data) s = .next u ∧ u.flag Reg.synGridLoadCtrl 31 = true ∧ s.wordsBut u [Reg.synGridLoadCtrl] ∧
        u.syn.banks = s.syn.banks.set (bitsOf data.toNat 28 28) { valid := false, w := 0, h := 0, words := [] } ∧
        u.syn.load = some (bitsOf data.toNat 28 28, bitsOf data.toNat 9 0, bitsOf data.toNat 24 16,
          s.dramRead (s.addr64 Reg.synGridLoadLo Reg.synGridLoadHi) (gridLoadLen data.toNat))) ∧
    (∀ b w h bytes, s.syn.load = some (b, w, h, bytes) →
      ∃ u, exec .synGridLoaded s = .next u ∧ u.syn.load = none ∧ u.flag Reg.synGridLoadCtrl 31 = false ∧
        (∀ words, bytes.bind (checkedWords (w * h)) = some words →
          u.syn.banks = s.syn.banks.set b { valid := true, w := w, h := h, words := words } ∧ u.fld Reg.synGridStat 31 16 = 0 ∧
          u.flag 0x50010 0 = true) ∧
        (bytes.bind (checkedWords (w * h)) = none →
          u.syn.banks = s.syn.banks ∧ u.fld Reg.synGridStat 31 16 = 0x502 ∧ u.flag 0x50010 1 = true)) ∧
    (s.accepts who Reg.brcLutLoadCtrl (putBits data.toNat 31 31 1) →
      ∃ u, exec (.brcLutLoadGo who data) s = .next u ∧ u.flag Reg.brcLutLoadCtrl 31 = true ∧ s.wordsBut u [Reg.brcLutLoadCtrl] ∧
        u.brc = { s.brc with
          lutLoad := some (bitsOf data.toNat 0 0, s.dramRead (s.addr64 Reg.brcLutLoadLo Reg.brcLutLoadHi) 6156),
          luts := s.brc.luts.set (bitsOf data.toNat 0 0) none }) ∧
    (∀ b bytes, s.brc.lutLoad = some (b, bytes) →
      ∃ u, exec .brcLutLoaded s = .next u ∧ u.brc.lutLoad = none ∧ u.flag Reg.brcLutLoadCtrl 31 = false ∧
        (∀ bs, bytes = some bs → leNat (slice bs 6152 4) = crc32c (bs.take 6152) →
          u.brc.luts = s.brc.luts.set b (some ((List.range 3075).map (fun i => leNat (slice bs (2 * i) 2)))) ∧
          u.fld Reg.brcLutStat 31 16 = 0 ∧ u.flag 0x70010 2 = true) ∧
        ((∀ bs, bytes = some bs → leNat (slice bs 6152 4) ≠ crc32c (bs.take 6152)) →
          u.brc.luts = s.brc.luts ∧ u.fld Reg.brcLutStat 31 16 = 0x704 ∧ u.flag 0x70010 3 = true)) ∧
    (s.accepts who Reg.pnlOdLoadCtrl (putBits data.toNat 31 31 1) →
      ∃ u, exec (.pnlOdLoadGo who data) s = .next u ∧ u.flag Reg.pnlOdLoadCtrl 31 = true ∧ u.pnl.odLoad.isSome = true ∧
        u.pnl.odBanks = s.pnl.odBanks.set (bitsOf data.toNat 0 0) none) ∧
    ∀ b bytes, s.pnl.odLoad = some (b, bytes) →
      ∃ u, exec .pnlOdLoaded s = .next u ∧ u.pnl.odLoad = none ∧ u.flag Reg.pnlOdLoadCtrl 31 = false ∧
        (∀ bs, bytes = some bs → leNat (slice bs 4624 4) = crc32c (bs.take 4624) →
          (∀ k, k < 2312 → leNat (slice bs (2 * k) 2) < 4096) →
          u.pnl.odBanks = s.pnl.odBanks.set b (some ((List.range 2312).map (fun i => leNat (slice bs (2 * i) 2)))) ∧
          u.fld Reg.pnlOdStat 31 16 = 0 ∧ u.flag 0xB1010 0 = true) ∧
        ((∀ bs, bytes = some bs → leNat (slice bs 4624 4) ≠ crc32c (bs.take 4624) ∨ ∃ k, k < 2312 ∧ 4096 ≤ leNat (slice bs (2 * k) 2)) →
          u.pnl.odBanks = s.pnl.odBanks ∧ u.fld Reg.pnlOdStat 31 16 = 0xB03 ∧ u.flag 0xB1010 1 = true)

/-- Finished tiles get their Oasis unit, a switched-off Oasis is empty, and a snapshot is written in vertical blanking (R215,
R216, R220, R225). The unit of a tile whose rows have all been sent becomes the entry of its position in the slot of its frame,
is counted, its bytes stand at its address in DRAM as whole lines, and the Oasis is no longer empty. EN of the Oasis written from 1 to
0 clears VALID of every entry; from 0 to 1 reading waits until the frame after the next. An accepted
snapshot is armed; once it has captured its frame, in vertical blanking its image is written, GO clears and its event is raised.
Where the unit spaces lie, and that a unit fills its last line, is the model's choice (log entry 54). -/
def Obligations.OasisAndSnapshots : Prop :=
  ∀ (s : State) (i : Nat) (who : Requester) (data : Word),
    (∀ f r b c x, s.brc.sent.find? (fun x => x.frame == f && x.region == r && x.band == b && x.col == c) = some x →
        x.rows.length = tileLines (s.timingOf x.frame) x.band →
      let un := oasUnit (tileCols (s.timingOf x.frame) x.col) x.rows
      ∃ u, exec (.oasisUnitWrite f r b c i) s = .next u ∧ u.flag Reg.brcOasStatus 1 = false ∧
        u.rd (Reg.brcOasStat 0) = (s.rd (Reg.brcOasStat 0) + 1) % 2 ^ 32 ∧
        u.brc.oasis = s.brc.oasis.set (x.frame % 2) (Sparse.set noEntryO (s.brc.oasis.getD (x.frame % 2) []) (posKey x.region x.band x.col)
          { frame := x.frame % 65536, valid := true, rung := un.1, channel := s.oasChannel x.region x.band x.col,
            addr := s.oasAddr (s.timingOf x.frame) (s.oasChannel x.region x.band x.col) x.frame x.region x.band x.col, len := un.2.length }) ∧
        u.dram = (s.dramWrite (s.oasAddr (s.timingOf x.frame) (s.oasChannel x.region x.band x.col) x.frame x.region x.band x.col)
          (wholeLines un.2)).dram) ∧
    (s.accepts who Reg.brcOasCtrl data.toNat →
      ∃ u, exec (.oasisCtrlWrite who data) s = .next u ∧ u.flag Reg.brcOasCtrl 0 = data.getLsbD 0 ∧
        (s.flag Reg.brcOasCtrl 0 = true → data.getLsbD 0 = false →
          (∀ o ∈ u.brc.oasis, ∀ e ∈ o, e.2.valid = false) ∧ u.flag Reg.brcOasStatus 1 = true) ∧
        (s.flag Reg.brcOasCtrl 0 = false → data.getLsbD 0 = true → u.brc = { s.brc with oasFrom := s.ras.frame + 2 }) ∧
        (s.flag Reg.brcOasCtrl 0 = data.getLsbD 0 → u.brc = s.brc)) ∧
    (s.accepts who Reg.brcSnapCtrl (putBits data.toNat 31 31 1) →
      ∃ u, exec (.snapGo who data) s = .next u ∧ u.flag Reg.brcSnapCtrl 31 = true ∧ u.rd Reg.brcSnapStat = 1 ∧
        u.brc.snap = some
          { frame := s.addr64 Reg.brcSnapFrameLo Reg.brcSnapFrameHi, addr := s.addr64 Reg.brcSnapAddrLo Reg.brcSnapAddrHi,
            d := 8 * 2 ^ bitsOf data.toNat 1 0, capturing := false }) ∧
    ∀ p, s.brc.snap = some p → p.capturing = true → s.ras.timing.vactive ≤ s.ras.line →
      ∃ u, exec .brcSnapDone s = .next u ∧ u.brc = { s.brc with snap := none } ∧
        u.dram = (s.dramWrite p.addr (s.snapImage p.frame p.d).1).dram ∧ u.flag Reg.brcSnapCtrl 31 = false ∧
        u.flag Reg.brcSnapStat 2 = true ∧ u.fld Reg.brcSnapStat 31 16 = p.frame % 65536 ∧ u.flag 0x71010 2 = true

/-- Units move between channels without a reader noticing, an evacuated channel is fenced, and read-ahead fills the cache (R247,
R248, R250, R258). A unit or table page that may move (its channel is evacuated and no older version's unit stands on it, or the plan
moves units off its channel) is copied to free space elsewhere, every entry and window slot that named it names the copy, and its old
space is kept until the next latch. When nothing is left on a channel under evacuation nor in its queues, it is
FENCED and the event is raised. Read-ahead brings the lines of a running playback into the content cache where there is room. A page
of control complex memory leaves an evacuated channel as an amount alone (the model's choice, log entry 179). -/
def Obligations.DataMoves : Prop :=
  ∀ (s : State) (i : Nat),
    (∀ a dest un b bytes, (s.unitsOn (chanOf a)).find? (fun q => q.1 == a) = some un → s.mayMove a = true →
        dest ≠ chanOf a → s.placeChannels.contains dest = true →
        s.gapOn dest (s.scn.share dest) un.2 = some b → s.dramRead un.1 un.2 = some bytes →
      ∃ u, exec (.unitMigrate a dest i) s = .next u ∧ u.dram = (s.dramWrite b bytes).dram ∧
        u.scn.units = insertUnit (b, un.2) s.scn.units ∧ u.plc.freeing = un :: s.plc.freeing ∧
        u.rd (Reg.plcStat 6) = (s.rd (Reg.plcStat 6) + 1) % 2 ^ 32 ∧
        u.scn.windows = s.scn.windows.map (fun w => w.map (fun q => if q.addr = a then { q with addr := b } else q)) ∧
        (b ≠ a → ∀ p ∈ u.scn.pages, p.addr ≠ a ∧ ∀ e ∈ p.entries, ¬(e.2.kind = 1 ∧ e.2.addr = a))) ∧
    (∀ e a dest, s.plc.evac = some e → (s.unitsOn (chanOf a)).find? (fun q => q.1 == a) = none → e.channel = chanOf a → a % 4096 = 0 →
        e.cpx ≠ 0 → dest ≠ chanOf a → dest ∈ s.placeChannels →
      ∃ u, exec (.unitMigrate a dest i) s = .next u ∧ u.plc.evac = some { e with cpx := e.cpx - 4096 } ∧ u.dram = s.dram ∧ u.scn = s.scn) ∧
    (∀ e, s.plc.evac = some e → s.evacEmpty = true → s.plc.evacWait = [] → s.unitState (119 + e.channel) = 1 →
        (s.chan e.channel).rq = [] → (s.chan e.channel).wq = [] →
      ∃ u, exec (.plcEvacDone i) s = .next u ∧ u.plc.evac = none ∧ u.fld (Reg.svcUnit (119 + e.channel)) 2 0 = 2 ∧
        u.flag 0x80010 2 = true) ∧
    ∀ p x g, s.play p = some x → s.segOf x.seg = some g → s.fld Reg.plcCache 31 16 ≠ 0 →
      let lines := x.linesTo g (s.ras.frame + x.lead + s.fld Reg.plcCache 31 16 * ms / max s.ras.timing.period 1)
      ∃ u, exec (.cacheReadahead p i) s = .next u ∧ u.nvs = s.nvs ∧
        s.wordsBut u [Reg.nvsDStat 0 0, Reg.nvsDStat 1 0, Reg.nvsDStat 0 2, Reg.nvsDStat 1 2, nvsDBase 0 + 0x10, nvsDBase 1 + 0x10] ∧
        (s.plc.cache.length + lines.length ≤ s.cacheCap →
          ∀ l ∈ lines, ∃ e ∈ u.plc.cache, e.seg = x.seg ∧ e.line = l)


/-! ### Flat layers, the blitter, the panel and the backlight -/

/-- LYR_L_DONE takes a token, and a layer whose data fails drops the tiles that need it (R272, R276). An accepted write of
LYR_L_DONE stores the token of its layer and changes no other word. When the data of a shown layer fails for tiles that are not
complete, each of them is DROPPED, they are counted, the layer's status holds the first code and the event is raised; without a
failing tile no tile changes. When it is found out is the model's reading (log entry 60), and the code for a surface that no decoder
serves is a free value (log entry 154). -/
def Obligations.LayersDrop : Prop :=
  ∀ (s : State) (n t : Nat), 1 ≤ n → n ≤ 7 →
    (∀ (who : Requester) (data : Word), s.accepts who (Reg.lyrLDone n) data.toNat →
      ∃ u, exec (.lyrDoneWrite who n data) s = .next u ∧ u.rd (Reg.lyrLDone n) = data.toNat ∧ u.lyr = s.lyr ∧
        s.wordsBut u [Reg.lyrLDone n]) ∧
    (s.domOn 16 = true → (s.at t).layerFaults n = [] → ∃ u, exec (.lyrFaultDrop n t) s = .next u ∧ u.brc = s.brc ∧ u.clusters = s.clusters) ∧
    ∀ x code rest, s.domOn 16 = true → (s.at t).layerFaults n = (x, code) :: rest →
      ∃ u, exec (.lyrFaultDrop n t) s = .next u ∧ (code ≠ 0x906 → u.fld (Reg.lyrLStatus n) 31 16 = code % 65536) ∧ u.flag 0x90010 3 = true ∧
        u.rd (Reg.lyrStat 2) = (s.rd (Reg.lyrStat 2) + rest.length + 1) % 2 ^ 32 ∧
        ∀ y ∈ (x, code) :: rest, ∃ z, u.tileOf y.1.hold = some z ∧ z.state = .dropped

/-- A descriptor that the blitter takes writes no byte outside its window, and one that fails a check writes none (R285, R286, R292).
COPY, FILL and GLYPH take the descriptor at the head of the ring where it is read, not held and of their operation: it is checked, its
words and its place in the ring are kept, the status is RUNNING. Where a check of R292 fails its code is the outcome and nothing is
written; in every case no byte outside the window of BLT_WIN changes, whatever the descriptor holds. How many bursts one command runs is
its operand. -/
def Obligations.BlitterWindow : Prop :=
  ∀ (s : State) (op k t : Nat) (b : List Byte), s.bltReady = true → s.dramRead s.bltDesc 128 = some b → s.bltRead1.f 0 8 8 = 0 →
    s.bltRead1.runBy op = true → op ≤ 2 →
    ∃ u d, exec (if op = 0 then .bltCopy k t else if op = 1 then .bltFill k t else .bltGlyph k t) s = .next u ∧
      u.blt.cur = some d ∧ d.words = s.bltRead1.words ∧ d.win = s.bltWindow ∧ d.desc = s.bltDesc ∧ d.next = s.bltNext ∧ d.checked = true ∧ u.fld Reg.bltStatus 1 0 = 1 ∧
      (s.bltRead1.check ≠ 0 → d.code = s.bltRead1.check ∧ d.fin = true ∧ u.dram = s.dram) ∧
      (s.bltRead1.check = 0 → s.bltRead1.isEmpty = true → d.empty = true ∧ d.fin = true ∧ u.dram = s.dram) ∧
      ∀ a, a < s.bltWindow.1 ∨ s.bltWindow.2 ≤ a → u.byte a = s.byte a

/-- The blitter's ring: tails, held and released descriptors, ends and a cleared EN (R286, R290, R291, R293, R294, R296). An accepted tail
moves the tail alone. A descriptor with HOLD stops before its work with its event; an accepted release sets it running and counts it. A
finished descriptor leaves: the head moves on to the place that follows the one it was taken from, the status shows the outcome, the
counters and events follow. EN written from 1 to 0 ends the descriptor in hand as disabled. A running one goes on with the same words. -/
def Obligations.BlitterRing : Prop :=
  ∀ (s : State) (who : Requester) (data : Word) (k t : Nat),
    (s.accepts who Reg.bltRingTail data.toNat →
      ∃ u, exec (.bltRingTail who data) s = .next u ∧ u.rd Reg.bltRingTail = data.toNat ∧ u.blt = s.blt ∧ s.wordsBut u [Reg.bltRingTail]) ∧
    (s.bltReady = true → s.bltRead1.f 0 8 8 = 1 →
      ∃ u, exec .bltHeld s = .next u ∧ u.blt.cur = some { s.bltRead1 with held := true } ∧ u.fld Reg.bltStatus 1 0 = 2 ∧
        u.flag 0xA0010 2 = true) ∧
    (∀ d, s.blt.cur = some d →
      (s.accepts who Reg.bltRelease (putBits data.toNat 0 0 1) →
        ∃ u, exec (.bltRelease who data) s = .next u ∧ d.held = true ∧ u.blt.cur = some { d with held := false } ∧
          u.fld Reg.bltStatus 1 0 = 1 ∧ u.rd (Reg.bltStat 3) = (s.rd (Reg.bltStat 3) + 1) % 2 ^ 32) ∧
      (s.domOn 19 = true → d.held = false → d.fin = false → d.checked = true → d.op < 3 →
        ∃ u d', exec (if d.op = 0 then .bltCopy k t else if d.op = 1 then .bltFill k t else .bltGlyph k t) s = .next u ∧
          u.blt.cur = some d' ∧ d'.words = d.words ∧ d'.held = false ∧ d'.win = d.win ∧ d.px ≤ d'.px) ∧
      (s.domOn 19 = true → d.fin = true →
        ∃ u, exec .bltDone s = .next u ∧ u.blt.cur = none ∧ u.rd Reg.bltStatus = d.code * 65536 % 2 ^ 32 ∧
          u.rd Reg.bltRingHead = d.next % 2 ^ 32 ∧ u.rd (Reg.bltStat 0) = (s.rd (Reg.bltStat 0) + 1) % 2 ^ 32 ∧ (d.f 0 9 9 = 1 → u.flag 0xA0010 0 = true) ∧
          (d.code ≠ 0 → u.flag 0xA0010 1 = true)) ∧
      (s.accepts who Reg.bltCtrl (putBits data.toNat 0 0 0) → s.flag Reg.bltCtrl 0 = true → d.fin = false →
        ∃ u, exec (.bltDisable who data) s = .next u ∧ u.flag Reg.bltCtrl 0 = false ∧
          u.blt.cur = some { d with held := false, code := 0xA05, fin := true })) ∧
    (s.accepts who Reg.bltCtrl (putBits data.toNat 0 0 0) → s.blt.cur = none →
      ∃ u, exec (.bltDisable who data) s = .next u ∧ u.flag Reg.bltCtrl 0 = false ∧ u.blt = s.blt)

/-- The panel goes up and down rail by rail and reports the end (R320, R321, R322, R329). An accepted UP switches rail 0 on and is RAILS;
each delay that passes with power good (a STATUS_WORD answered at the third try at the latest, without a fault) switches the next rail on,
and the last brings CLEARING; a rail that is not good switches all off with its number and its event; after two whole frames the panel is
ON, its first light due and the backlight as it was (that it stays dark for the first normal frame is the model's choice, log entry 165).
An accepted DOWN is FALLING with the lens held; each delay switches the highest rail off, and the last leaves the panel OFF. The end
raises its event once. -/
def Obligations.PanelPower : Prop :=
  ∀ (s : State) (who : Requester) (data : Word) (t : Nat),
    (s.accepts who Reg.pnlPwrCtrl (putBits data.toNat 0 0 1) →
      ∃ u, exec (.panelUp who data) s = .next u ∧ u.panel = 1 ∧ u.pnl.rail = 1 ∧ u.pnl.railAt = s.now ∧ u.pnl.running = true ∧
        .rail 0 true ∈ u.out) ∧
    (s.panel = 1 → 1 ≤ s.pnl.rail → s.pnl.rail ≤ 6 → s.pnl.railAt + s.fld (Reg.pnlRail (s.pnl.rail - 1)) 23 16 * ms ≤ max s.now t →
      (∀ sent st, (pmbAnswered st = true ∧ statusGood st.word = true ∨ s.flag (Reg.pnlRail (s.pnl.rail - 1)) 8 = false) →
        ∃ u, exec (.panelRailOn ⟨sent, st⟩ t) s = .next u ∧
          (s.pnl.rail < 6 → u.pnl.rail = s.pnl.rail + 1 ∧ u.pnl.railAt = max s.now t ∧ u.panel = 1 ∧ .rail s.pnl.rail true ∈ u.out) ∧
          (s.pnl.rail = 6 → u.panel = 2 ∧ u.pnl.frames = 0)) ∧
      (∀ sent st, s.flag (Reg.pnlRail (s.pnl.rail - 1)) 8 = true → ¬(pmbAnswered st = true ∧ statusGood st.word = true) →
        ∃ u, exec (.panelRailOn ⟨sent, st⟩ t) s = .next u ∧ u.panel = 0 ∧ u.pnl.rail = 0 ∧ u.flag Reg.pnlPwrState 16 = true ∧
          u.fld Reg.pnlPwrState 10 8 = s.pnl.rail - 1 ∧ u.flag 0xB4010 0 = true ∧
          ∀ r, r < s.pnl.rail → .rail r false ∈ u.out)) ∧
    (s.panel = 2 → 3 ≤ s.pnl.frames →
      ∃ u, exec (.panelClearingEnd t) s = .next u ∧ u.panel = 3 ∧ u.pnl = { s.pnl with doneDue := true, fadeDue := true } ∧
        u.bkl = s.bkl) ∧
    (s.accepts who Reg.pnlPwrCtrl (putBits data.toNat 1 1 1) →
      ∃ u, exec (.panelDown who data) s = .next u ∧ u.panel = 4 ∧ u.pnl.frames = 0 ∧ u.pnl.lensHold = true ∧ u.bkl.hold = true) ∧
    (s.panel = 4 → 0 < s.pnl.rail →
        (if s.pnl.rail = 6 then 3 ≤ s.pnl.frames
          else s.pnl.railAt + s.fld (Reg.pnlRail s.pnl.rail) 31 24 * ms ≤ max s.now t) →
      ∃ u, exec (.panelRailOff t) s = .next u ∧ u.pnl.rail = s.pnl.rail - 1 ∧ u.pnl.railAt = max s.now t ∧
        .rail (s.pnl.rail - 1) false ∈ u.out ∧ u.panel = (if s.pnl.rail = 1 then 0 else 4) ∧
        (s.pnl.rail = 1 → u.pnl.doneDue = true)) ∧
    (s.pnl.doneDue = true →
      ∃ u, exec .pnlPowerDone s = .next u ∧ u.pnl = { s.pnl with doneDue := false } ∧ u.flag 0xB4010 3 = true ∧ s.wordsBut u [0xB4010])

/-- A discharge holds the backlight and the lens at once, switches the rails off in order and ends OFF (R319, R323, R329). An
accepted DISCHARGE is DISCHARGING with the enable driven, the latches and the lens held, any mode transition given up and its
event raised. After the hold the rails are switched off, and when they have fallen the enable is released and the panel is OFF.
A lens row whose drive is cut reaches zero field at its next row start, and once no row is left the event is raised. -/
def Obligations.PanelDischarge : Prop :=
  ∀ (s : State) (who : Requester) (data : Word) (t : Nat),
    (s.accepts who Reg.pnlPwrCtrl (putBits data.toNat 2 2 1) →
      ∃ u, exec (.dischargeTrigger who data) s = .next u ∧ u.panel = 5 ∧ u.pnl.disch = some s.now ∧ u.pnl.dischEn = true ∧
        u.pnl.lensHold = true ∧ u.bkl.hold = true ∧ u.ras.step = 0 ∧ u.ras.transDue = none ∧ .dischEn true ∈ u.out ∧
        u.flag 0xB4010 2 = true) ∧
    (∀ d, s.panel = 5 → s.pnl.disch = some d →
      (s.pnl.dischRails = false → d + s.fld Reg.pnlDischCfg 4 0 * ms ≤ max s.now t →
        ∃ u, exec (.dischargeHoldExpire t) s = .next u ∧ u.pnl = { s.pnl with dischRails := true, rail := 0 } ∧ u.regs = s.regs ∧
          ∀ r, r < 6 → .rail r false ∈ u.out) ∧
      (s.pnl.dischRails = true → d + (s.fld Reg.pnlDischCfg 4 0 + 3) * ms ≤ max s.now t → s.pwr.porst = false → s.pwr.stop = false →
          s.secu.recovery = false →
        ∃ u, exec (.dischargeEnd t) s = .next u ∧ u.panel = 0 ∧ u.pnl.disch = none ∧ u.pnl.dischEn = false ∧ u.pnl.running = false ∧
          u.pnl.lens = s.pnl.lens ∧ .dischEn false ∈ u.out)) ∧
    (s.pnl.lensHold = true → s.pnl.lens ≠ [] → s.lensRowStart = true →
      ∃ u, exec (.lensZeroField t) s = .next u ∧ u.pnl = { s.pnl with lens := s.pnl.lens.filter (fun e => !s.rowParks (e.1 / 64)) } ∧
        (u.pnl.lens = [] → u.flag 0xB2010 1 = true) ∧ s.wordsBut u [0xB2010]) ∧
    (s.accepts who Reg.pnlRwCtrl (putBits data.toNat 0 0 1) →
      ∃ u, exec (.pnlRwGo who data) s = .next u ∧ s.pnl.queue.length < 64 ∧
        u.pnl = { s.pnl with queue := s.pnl.queue ++
          [{ regions := s.fld Reg.pnlRwAddr 27 24, target := s.fld Reg.pnlRwAddr 23 16, addr := s.fld Reg.pnlRwAddr 15 0,
             data := s.rd Reg.pnlRwData }] })

/-- Slots drive their group's chains once, fades run to their end, and the white-point loop moves by single steps (R334, R337,
R343, R346, R347, R350). The slot of a zone row is taken once: a chain that is neither fenced nor asked for gets its frame, a
fence request taken up leaves the chain fenced with its unit FENCED and the event, an unfence request ends the fence. A host
fade starts from the factor in force and ends at its value, reporting its end; one without TIME ends at once (the model's
reading, log entry 66). The loop shows the valid sensors, and moves no trim by more than one or out of its range; with the loop
off, no trim moves. -/
def Obligations.BacklightRuns : Prop :=
  ∀ (s : State) (who : Requester) (data : Word) (y t : Nat),
    (∀ p, s.domOn 23 = true → s.bkl.slotRows.contains y = false → s.slotSet y = some p →
      ∃ u, exec (.bklSlot y t) s = .next u ∧ u.bkl.slotRows = y :: s.bkl.slotRows ∧
        ∀ c, c = 2 * p.group y ∨ c = 2 * p.group y + 1 →
          (s.bkl.reqs.find? (fun r => r.1 == c) = none → s.bkl.fenced.contains c = false → s.bkl.hold = false → ∃ w, .chain c w ∈ u.out) ∧
          (s.bkl.reqs.find? (fun r => r.1 == c) = some (c, false) →
            c ∈ u.bkl.fenced ∧ u.fld (Reg.svcUnit (133 + c)) 2 0 = 2 ∧ u.flag 0xC0010 4 = true) ∧
          (s.bkl.reqs.find? (fun r => r.1 == c) = some (c, true) → c ∉ u.bkl.fenced)) ∧
    (s.accepts who Reg.bklFade (putBits data.toNat 31 31 1) →
      ∃ u, exec (.bklFadeGo who data) s = .next u ∧ u.rd (Reg.bklStat 3) = (s.rd (Reg.bklStat 3) + 1) % 2 ^ 32 ∧
        (bitsOf data.toNat 30 17 ≠ 0 → u.flag Reg.bklFade 31 = true ∧
          u.bkl.fade = some { start := s.now, stop := s.now + bitsOf data.toNat 30 17 * ms, v0 := s.bklF,
                              v1 := bitsOf data.toNat 16 0, host := true }) ∧
        (bitsOf data.toNat 30 17 = 0 → u.bkl.fade = none ∧ u.flag Reg.bklFade 31 = false ∧
          u.fld Reg.bklFadeNow 16 0 = bitsOf data.toNat 16 0 ∧ u.flag 0xC0010 0 = true)) ∧
    (∀ f, s.bkl.fade = some f → f.stop ≤ max s.now t →
      ∃ u, exec (.bklFadeDone t) s = .next u ∧ u.fld Reg.bklFadeNow 16 0 = f.v1 % 2 ^ 17 ∧
        u.bkl = { s.bkl with fade := none } ∧
        (f.host = true → u.flag Reg.bklFade 31 = false ∧ u.flag 0xC0010 0 = true)) ∧
    ∀ reads, s.domOn 23 = true →
      ∃ u, exec (.wpCycle reads t) s = .next u ∧ (s.flag Reg.bklCtrl 2 = false → u.bkl = s.bkl) ∧
        (∀ k, k < 8 → u.flag Reg.bklStatus (8 + k) = (s.sensorOn k &&
          match reads.getD k none with | some c => c.length == 3 && c.all (fun v => decide (v < 65535)) | none => false)) ∧
        (-512 ≤ s.bkl.trims.1 → s.bkl.trims.1 ≤ 511 → -512 ≤ u.bkl.trims.1 ∧ u.bkl.trims.1 ≤ 511 ∧
          u.bkl.trims.1 - s.bkl.trims.1 ≤ 1 ∧ s.bkl.trims.1 - u.bkl.trims.1 ≤ 1)


/-! ### Network, failover and network time -/

/-- Received frames are counted, filtered and forwarded, and fragments that wait too long are given up (R352, R355, R356, R357, R358). On
an enabled die with link and its lanes READY: a frame with a bad FCS is counted and nothing else happens; on a die that is not the holder
a good frame that is not PTP is counted and goes no further; at the holder a KST datagram for the tile, of a stream without policing, not
delivered before, joins the forwarding queue where that has room for it (how much it holds is open, log entry 28) and is dropped and
counted otherwise. Packets whose first fragment is a millisecond old are dropped with the event. -/
def Obligations.FramesReceived : Prop :=
  ∀ (s : State) (x t : Nat) (f : RxFrame), x < 2 →
    (s.dieUsable x = true → s.linkUp x = true → s.lanesReady x = true → s.flag (Reg.npPortCtrl x) 0 = true →
      (f.fcsOk = false →
        ∃ u, exec (.frameReceive x f t) s = .next u ∧ u.net = s.net ∧ u.dram = s.dram ∧
          u.rd (Reg.npStat x 3) = (s.rd (Reg.npStat x 3) + 1) % 2 ^ 32 ∧ s.wordsBut u [Reg.npStat x 3]) ∧
      (f.fcsOk = true → 64 ≤ f.len → f.len ≤ s.fld (Reg.npMtu x) 13 0 → f.body ≠ .pause →
        (s.active x = false → (∀ k, f.body ≠ .ptp k) →
          (∀ v6 src dst proto data, f.body = .ip v6 src dst none proto data → s.isPtp v6 dst proto data = false) →
          ∃ u, exec (.frameReceive x f t) s = .next u ∧ u.net = s.net ∧ u.dram = s.dram ∧
            u.rd (Reg.npStat x 0) = (s.rd (Reg.npStat x 0) + 1) % 2 ^ 32 ∧ u.rd (Reg.npStat x 8) = (s.rd (Reg.npStat x 8) + 1) % 2 ^ 32) ∧
        (∀ v6 src dst data, s.active x = true → f.vlan = none → s.flag (Reg.npPortCtrl x) 1 = false →
          f.body = .ip v6 src dst none 17 data → s.isPtp v6 dst 17 data = false → s.isTile v6 dst = true →
          let body := (data.drop 8).take (beNat (slice data 4 2) - 8)
          let k := beNat (slice body 4 1)
          beNat (slice data 2 2) = s.fld (Reg.npKstPort x) 15 0 → 32 ≤ body.length → beNat (body.take 2) = 0x4B53 → k < 64 →
          s.flag (Reg.npPolCtrl x k) 0 = false → ((s.path x).pre.getD k PreFilter.empty).has (beNat (slice body 8 6)) = false →
          ∃ u, exec (.frameReceive x f t) s = .next u ∧ u.rd (Reg.npStat x 0) = (s.rd (Reg.npStat x 0) + 1) % 2 ^ 32 ∧
            ((s.path x).fwdBytes + body.length ≤ Config.fwdQueueBytes → u.net = s.net.set x { s.path x with
              fwd := (s.path x).fwd ++ [{ bytes := body, reply := { v6 := v6, addr := src, port := beNat (slice data 0 2), mac := f.srcMac },
                                          handle := (s.path x).handles.getD k (0, 0) }] }) ∧
            (Config.fwdQueueBytes < (s.path x).fwdBytes + body.length → u.net = s.net ∧ u.flag (npBase x 0 + 0x10) 1 = true ∧
              u.rd (Reg.npStat x 11) = (s.rd (Reg.npStat x 11) + 1) % 2 ^ 32)))) ∧
    ((∃ g ∈ (s.path x).frags, g.first + ms ≤ max s.now t) →
      ∃ u, exec (.npxFragTimeout x t) s = .next u ∧ u.flag (npBase x 0 + 0x10) 6 = true ∧ s.wordsBut u [npBase x 0 + 0x10] ∧
        u.net = s.net.set x { s.path x with frags := (s.path x).frags.filter (fun g => decide (max s.now t < g.first + ms)) })

/-- Links go down and come up with their event, egress sends the chosen frame, rings and gate lists move (R353, R360, R361,
R366, R367, R379). A fault that has lasted NPx_LOSS.US takes the link down, all eight lanes READY without a fault for 1 ms bring it
up, each with its event; before that the link stays and the instant is kept (that both commands carry what the PCS reports is the
model's reading, log entry 159). With the medium free, the die sends the head of the queue that its scheduler chooses, with its tag
where TAG_EN is set, and is busy for the frame's time; a Delay_Req counts as it leaves. A transmit tail written at the holder is taken
up to; a receive tail gives the device the entries through it. GO makes the prepared list pending at the start that R367 gives,
CANCEL drops it, and at its start it takes force. -/
def Obligations.LinksAndEgress : Prop :=
  ∀ (s : State) (x t : Nat) (who : Requester) (data : Word), x < 2 →
    (∀ al lf rf, x < s.net.length → s.domOn (32 + x) = true → s.linkUp x = true → (al = false ∨ lf = true ∨ rf = true) →
      let since := (s.path x).faultAt.getD (max s.now t)
      ∃ u, exec (.linkDown x al lf rf t) s = .next u ∧ (u.path x).faultAt = some since ∧ (u.path x).goodAt = none ∧
        u.flag (Reg.npPortStatus x) 1 = al ∧ u.flag (Reg.npPortStatus x) 2 = lf ∧ u.flag (Reg.npPortStatus x) 3 = rf ∧
        (since + s.fld (Reg.npLoss x) 9 0 * us ≤ max s.now t →
          u.linkUp x = false ∧ u.fov.lostAt = s.fov.lostAt.set x (some (max s.now t)) ∧ u.flag (npBase x 0 + 0x10) 0 = true) ∧
        (max s.now t < since + s.fld (Reg.npLoss x) 9 0 * us → u.linkUp x = true ∧ u.fov = s.fov)) ∧
    (x < s.net.length → s.dieUsable x = true → s.flag (Reg.npPortCtrl x) 0 = true → s.linkUp x = false →
        (∀ i, i < 8 → s.laneState (52 + 8 * x + i) = 2) →
      let since := (s.path x).goodAt.getD (max s.now t)
      ∃ u, exec (.linkUp x t) s = .next u ∧ (u.path x).goodAt = some since ∧ (u.path x).faultAt = none ∧
        (since + ms ≤ max s.now t →
          u.linkUp x = true ∧ u.fov.lostAt = s.fov.lostAt.set x none ∧ u.nvs.upAt = s.nvs.upAt.set x (max s.now t) ∧
          u.flag (npBase x 0 + 0x10) 0 = true) ∧
        (max s.now t < since + ms → u.linkUp x = false ∧ u.fov = s.fov)) ∧
    (∀ q f rest, s.pwr.stop = false → s.pwr.shdn < 3 → s.dieUsable x = true → s.linkUp x = true → s.lanesReady x = true → s.fov.sw = none →
        (s.path x).busyUntil ≤ max s.now t → s.gates x = none → (s.at t).chosen x = some q → (s.queue x q).frames = f :: rest →
      ∃ u, exec (.transmissionOpportunity x t) s = .next u ∧ .net x q (s.vlanTag x (s.qClass x q)) f.frame ∈ u.out ∧
        (u.queue x q).frames = rest ∧
        (∀ n tr a b, f.frame = .delayReq n tr a b → u.rd (Reg.npPtpStat x 2) = (s.rd (Reg.npPtpStat x 2) + 1) % 2 ^ 32) ∧
        (u.path x).busyUntil = max s.now t + frameTime f.len ∧ u.rd (Reg.npQStatTx x q) = (s.rd (Reg.npQStatTx x q) + 1) % 2 ^ 32) ∧
    (s.accepts who (Reg.npHtxTail x) data.toNat →
      ∃ u, exec (.npxHtxTail who x data) s = .next u ∧ u.rd (Reg.npHtxTail x) = data.toNat ∧
        (s.active x = true → s.flag (Reg.npPortCtrl x) 0 = true → s.fld (Reg.npHtxHead x) 11 0 < s.fld (Reg.npHtxSize x) 12 0 →
          s.fld (Reg.npHtxSize x) 12 0 ≤ 4096 →
          u.fld (Reg.npHtxHead x) 11 0 = data.toNat % s.fld (Reg.npHtxSize x) 12 0)) ∧
    (s.accepts who (Reg.npHrxTail x) data.toNat →
      ∃ u, exec (.npxHrxTail who x data) s = .next u ∧ u.rd (Reg.npHrxTail x) = data.toNat ∧ u.dram = s.dram ∧
        u.net = s.net.set x { s.path x with
          hrxLeft := ringLen (max 1 (s.fld (Reg.npHrxSize x) 12 0)) (s.fld (Reg.npHrxHead x) 11 0) (bitsOf data.toNat 11 0) + 1 }) ∧
    (s.accepts who (Reg.npGclCtrl x) (putBits data.toNat 31 31 1) →
      ∃ u g, exec (.gclGo who x data) s = .next u ∧ u.flag (Reg.npGclCtrl x) 31 = true ∧
        u.net = s.net.set x { s.path x with gclPend := some g } ∧ g.bank = 1 - (s.path x).gclBank ∧
        g.cycle = s.rd (Reg.npGclCycle x) ∧ g.start = gclStart (s.gclBase x) (s.rd (Reg.npGclCycle x)) s.device) ∧
    (s.accepts who (Reg.npGclCtrl x) (putBits data.toNat 30 30 1) →
      ∃ u, exec (.gclCancel who x data) s = .next u ∧ u.flag (Reg.npGclCtrl x) 31 = false ∧
        u.net = s.net.set x { s.path x with gclPend := none }) ∧
    ∀ g, (s.path x).gclPend = some g → g.start ≤ (s.at t).device →
      ∃ u, exec (.npxGclSwitch x t) s = .next u ∧ u.flag (Reg.npGclCtrl x) 31 = false ∧ u.flag (npBase x 0 + 0x10) 4 = true ∧
        u.net = s.net.set x { s.path x with gclPend := none, gclForce := some g, gclBank := g.bank, gclHold := none }

/-- The grant is released for a cause and moves only to a die that qualifies (R370, R371, R372, R374, R383). A heartbeat is noted at the
arbiter or over the mirror link. A holder silent for 50 µs loses the grant to a die that qualifies and keeps it otherwise; a holder that
has sent none yet counts as silent from the start (the model's reading, log entry 185). A request, an internal fault, a lost link or a
force pin that is held releases the grant with its cause; the grant then moves, or the holder keeps it and the request is over. A force
pin alone asks for its die, both ask for nothing. An accepted SWITCH is a request of cause 4; its COLD_OK reads 1 until the switch-over is
over (the model's choice, log entry 134). -/
def Obligations.GrantMoves : Prop :=
  ∀ (s : State) (t : Nat),
    (∀ x, x < 2 → s.domOn (32 + x) = true →
      (∃ u, exec (.heartbeat x false t) s = .next u ∧ u.fov = { s.fov with
          beat := s.fov.beat.set x (some (max s.now t)), silent := s.fov.silent && s.fov.holder != x } ∧ u.regs = s.regs) ∧
      (s.fov.holder = x → (∀ i, i < 4 → s.laneState (80 + i) = 2) →
        ∃ u, exec (.heartbeat x true t) s = .next u ∧ u.fov = { s.fov with mirrorBeat := some (max s.now t), mirrorUp := true } ∧
          u.regs = s.regs)) ∧
    (∀ b, (s.fov.beat.getD s.fov.holder none).getD 0 = b → b + 50 * us ≤ max s.now t → s.fov.sw = none →
      ((s.at t).qualifies (1 - s.fov.holder) = true →
        ∃ u w, exec (.heartbeatLoss t) s = .next u ∧ u.fov.holder = 1 - s.fov.holder ∧ u.fov.sw = some w ∧ w.cause = 2 ∧ w.detect = b ∧
          w.granted = some (max s.now t) ∧ .ilkObs (1 - s.fov.holder) ∈ u.out) ∧
      ((s.at t).qualifies (1 - s.fov.holder) = false →
        ∃ u, exec (.heartbeatLoss t) s = .next u ∧ u.fov.holder = s.fov.holder ∧ u.fov.sw = none ∧ u.net = s.net)) ∧
    (s.fov.sw = none → s.fov.fault.getD s.fov.holder false = false →
      (∀ c, s.fov.request = some c → c ≠ 0 → c ≠ 1 →
        ∃ u, exec (.grantRelease false t) s = .next u ∧ u.fov.holder = s.fov.holder ∧
          u.fov.sw = some { cause := c, detect := max s.now t, released := max s.now t, granted := none, restored := none, cold := false }) ∧
      (s.fov.request = none → s.linkUp s.fov.holder = false → s.linkUp (1 - s.fov.holder) = true → s.flag Reg.fovCtrl 0 = true →
        ∃ u w, exec (.grantRelease false t) s = .next u ∧ u.fov.sw = some w ∧ w.cause = 1 ∧ w.granted = none ∧
          w.detect = (s.path s.fov.holder).faultAt.getD (max s.now t)) ∧
      (s.fov.holder < s.fov.fault.length →
        ∃ u w, exec (.grantRelease true t) s = .next u ∧ u.fov.sw = some w ∧ w.cause = 3 ∧ w.granted = none) ∧
      (s.fov.request = none → s.linkUp s.fov.holder = true → s.fov.force.getD (1 - s.fov.holder) false = true →
          s.fov.force.getD s.fov.holder false = false → (s.at t).qualifies (1 - s.fov.holder) = true →
        ∃ u w, exec (.grantRelease false t) s = .next u ∧ u.fov.sw = some w ∧ w.cause = 5 ∧ w.granted = none)) ∧
    (∀ w, s.fov.sw = some w → w.granted = none →
      ((s.at t).qualifies (1 - s.fov.holder) = true →
        ∃ u v, exec (.grant t) s = .next u ∧ u.fov.holder = 1 - s.fov.holder ∧ u.fov.sw = some v ∧ v.cause = w.cause ∧
          v.granted = some (max s.now t) ∧ u.fov.request = none ∧ .ilkObs (1 - s.fov.holder) ∈ u.out) ∧
      ((s.at t).qualifies (1 - s.fov.holder) = false →
        ∃ u, exec (.grant t) s = .next u ∧ u.fov = { s.fov with sw := none, request := none } ∧ u.flag Reg.fovCtrl 8 = false)) ∧
    (∃ u, exec (.ilkForce true true t) s = .next u ∧ u.fov = { s.fov with force := [true, true] }) ∧
    (∀ a, s.fov.holder ≠ (if a then 0 else 1) → (s.at t).qualifies (if a then 0 else 1) = true →
      ∃ u, exec (.ilkForce a (!a) t) s = .next u ∧ u.fov = { s.fov with force := [a, !a], request := some 5 } ∧ u.regs = s.regs) ∧
    ∀ (who : Requester) (data : Word), s.accepts who Reg.fovCtrl (putBits data.toNat 8 8 1) →
      ∃ u, exec (.fovSwitch who data) s = .next u ∧ u.fov.request = some 4 ∧ u.fov.holder = s.fov.holder ∧ u.fov.sw = s.fov.sw ∧
        u.flag Reg.fovCtrl 8 = true ∧ u.flag Reg.fovCtrl 9 = (s.flag Reg.fovCtrl 9 || bitOf data.toNat 9)

/-- Snapshots arm the standby, and a new holder restores them or starts cold (R369, R371, R372, R375, R376, R377, R378). The
holder sends its state within 10 µs of the frame's end; a good one makes the other die STANDBY, a bad one is counted and leaves
the last good one. A silent mirror link makes the standby STALE with its event. A new holder from STANDBY restores the snapshot;
a cold one puts every network session out of ACTIVE and device time out of LOCKED; either way the switch-over is over, counted
and reported once no PATH_CHANGE waits to be sent. -/
def Obligations.SnapshotsAndTakeover : Prop :=
  ∀ (s : State) (t : Nat),
    (s.dieUsable s.fov.holder = true → s.fov.sw = none → s.domOn 34 = true → s.role (1 - s.fov.holder) ≠ 0 → max s.now t ≤ s.ras.frameStart + 10 * us →
        s.fov.transit = none →
      ∃ u, exec (.snapshotSend t) s = .next u ∧ u.fov = { s.fov with transit := some ((s.at t).mirrorOf s.fov.holder), sent := true } ∧ u.regs = s.regs) ∧
    (∀ m, s.fov.transit = some m →
      (s.fov.mirrorUp = true →
        ∃ u, exec (.snapshotReceive true t) s = .next u ∧ u.fov.snap = some m ∧ u.fov.standby = 3 ∧ u.fov.missed = 0 ∧ u.fov.transit = none ∧
          u.rd Reg.fovSnapFrame = m.frame % 2 ^ 32) ∧
      ∃ u, exec (.snapshotReceive false t) s = .next u ∧ u.fov.snap = s.fov.snap ∧ u.fov.transit = none ∧ u.fov.missed = s.fov.missed + 1 ∧
        u.rd (Reg.fovStat 4) = (s.rd (Reg.fovStat 4) + 1) % 2 ^ 32) ∧
    (∀ b m, s.fov.mirrorUp = true → s.fov.mirrorBeat = some m → m + 30 * us ≤ max s.now t → s.fov.beat.getD s.fov.holder none = some b →
        max s.now t < b + 50 * us → (s.role (1 - s.fov.holder) = 2 ∨ s.role (1 - s.fov.holder) = 3) →
      ∃ u, exec (.fovStale t) s = .next u ∧ u.fov.standby = 4 ∧ u.fov.mirrorUp = false ∧ u.fov.snap = s.fov.snap ∧ u.flag 0x120010 2 = true ∧
        u.rd (Reg.fovStat 2) = (s.rd (Reg.fovStat 2) + 1) % 2 ^ 32) ∧
    (∀ w x, x < 2 → s.egressOn = true → s.fov.announcing = some w →
      ∃ u, exec (.transmissionOpportunity x t) s = .next u ∧
        (u.changeWaits s.fov.holder = false → u.fov.announcing = none ∧ u.rd (Reg.fovStat 0) = (s.rd (Reg.fovStat 0) + 1) % 2 ^ 32 ∧
          u.flag Reg.fovCtrl 8 = false ∧ u.flag 0x120010 0 = true) ∧
        (u.changeWaits s.fov.holder = true → u.fov = s.fov)) ∧
    ∀ w g, s.fov.sw = some w → w.granted = some g →
      (∀ m, w.cold = false → s.fov.snap = some m →
        ∃ u, exec (.stateRestore t) s = .next u ∧ u.fov.sw = none ∧ u.fov.snap = none ∧ u.fov.holder = s.fov.holder ∧
          u.tim.integ = m.integ ∧ u.tim.good = m.good ∧
          (u.changeWaits s.fov.holder = false → u.rd (Reg.fovStat 0) = (s.rd (Reg.fovStat 0) + 1) % 2 ^ 32 ∧
            u.flag Reg.fovCtrl 8 = false ∧ u.flag 0x120010 0 = true) ∧
          (u.changeWaits s.fov.holder = true → u.fov.announcing.isSome = true ∧ u.rd (Reg.fovStat 0) = s.rd (Reg.fovStat 0)) ∧
          (s.fov.holder < s.net.length → (u.path s.fov.holder).pre = m.pre ∧ (u.path s.fov.holder).pol = m.pol)) ∧
      (w.cold = true →
        ∃ u, exec (.fovCold t) s = .next u ∧ u.fov.sw = none ∧ u.fov.snap = none ∧ u.fov.holder = s.fov.holder ∧
          u.rd (Reg.fovStat 1) = (s.rd (Reg.fovStat 1) + 1) % 2 ^ 32 ∧ u.flag 0x120010 1 = true ∧ u.timState ≠ 2 ∧
          ∀ k, k < 64 → s.sessSource k = 0 → (u.sess k).state ≠ 2)

/-- PTP messages of the parent are counted and give samples, and losses move the port's state (R385, R386, R388, R389, R391, R397). A
two-step Sync of the parent waits for its Follow_Up; the Follow_Up of its number in time makes it the last sample. A Delay_Req that is due
takes the next number, its response to this port gives the median delay and the master's interval. An Announce joins the foreign masters.
A timeout raises the event and takes the port to LISTENING, or to UNCALIBRATED, or to another qualified master. How long the next
Delay_Req waits is a free value of at most twice the mean (log entry 186). A lost clock interface makes an enabled port FAULTY, its return
takes it from there. A read of TIM_NOW_SEC_LO captures the device time whole. -/
def Obligations.NetworkTime : Prop :=
  ∀ (s : State) (x t : Nat) (m : PtpMsg), x < 2 →
    (s.ptpRuns x = true → s.fld (Reg.npPtpCtrl x) 15 8 = m.domain →
      (s.fromParent x m = true → m.twoStep = true → -7 ≤ m.interval → m.interval ≤ 1 → (s.path x).d2d = true →
        ∃ u, exec (.ptpSync x m t) s = .next u ∧ u.rd (Reg.npPtpStat x 0) = (s.rd (Reg.npPtpStat x 0) + 1) % 2 ^ 32 ∧
          u.flag (Reg.npPtpStatus x) 8 = true ∧ (u.ptp x).lastSync = max s.now t ∧
          (u.ptp x).waiting = some (m.seq, { t1 := 0, t2 := ((s.at t).device : Int) - s.fld (Reg.npTsRxLat x) 23 0 * 2 ^ 24,
                                             corr := corrUnits m.corr }, max s.now t)) ∧
      (∀ q p w, s.fromParent x m = true → (s.ptp x).waiting = some (q, p, w) → q = m.seq →
          max s.now t ≤ w + intervalTime (s.ptp x).syncInterval → (s.path x).d2d = true →
        ∃ u, exec (.followUp x m t) s = .next u ∧ u.rd (Reg.npPtpStat x 1) = (s.rd (Reg.npPtpStat x 1) + 1) % 2 ^ 32 ∧
          (u.ptp x).waiting = none ∧
          (u.ptp x).last = some { p with t1 := (s.at t).widen m.sec m.ns, corr := p.corr + corrUnits m.corr }) ∧
      (∀ q t3 p, s.fromParent x m = true → (s.ptp x).dreq = some (q, t3) → (s.ptp x).last = some p → q = m.seq →
          m.requesting = (s.clockId x, 1) → (s.path x).d2d = true →
        let d : Rat := ((p.t2 - p.t1 - p.corr + ((s.at t).widen m.sec m.ns - t3 - corrUnits m.corr) : Int) : Rat) / 2
        ∃ u, exec (.delayResp x m t) s = .next u ∧ u.rd (Reg.npPtpStat x 3) = (s.rd (Reg.npPtpStat x 3) + 1) % 2 ^ 32 ∧
          (u.ptp x).dreq = none ∧ (u.ptp x).dreqInterval = some m.interval ∧ (u.ptp x).mean = some (median ((d :: (s.ptp x).delays).take (s.fld (Reg.npPtpTimeout x) 20 16)))) ∧
      (∀ d, -3 ≤ m.interval → m.interval ≤ 3 → x < s.net.length →
        ∃ u, exec (.ptpAnnounce x m d t) s = .next u ∧ u.rd (Reg.npPtpStat x 4) = (s.rd (Reg.npPtpStat x 4) + 1) % 2 ^ 32 ∧
          ∃ f ∈ (u.ptp x).foreign, f.clock = m.clock ∧ f.port = m.port ∧ f.data = d ∧ f.last = max s.now t)) ∧
    (s.ptpRuns x = true → s.linkUp x = true → (s.path x).d2d = true → (s.ptp x).dreqAt ≤ max s.now t → (s.ptp x).last.isSome = true →
        (s.fov.holder = x ∨ s.flag (Reg.npPtpCtrl x) 4 = true) →
      ∃ u, exec (.delayReq x t) s = .next u ∧ (u.ptp x).dreqSeq = ((s.ptp x).dreqSeq + 1) % 65536 ∧ (u.ptp x).dreq = none ∧
        (u.ptp x).dreqAt ≤ max s.now t + 2 * s.dreqTime x ∧ u.rd (Reg.npPtpStat x 2) = s.rd (Reg.npPtpStat x 2)) ∧
    (s.ptpRuns x = true → (s.path x).d2d = true → (s.ptp x).parent.isSome = true →
      let ann := (s.ptp x).lastAnn + s.fld (Reg.npPtpTimeout x) 3 0 * intervalTime (s.ptp x).annInterval ≤ max s.now t
      let syn := (s.ptp x).lastSync + s.fld (Reg.npPtpTimeout x) 11 8 * intervalTime (s.ptp x).syncInterval ≤ max s.now t
      let left := (s.ptp x).foreign.filter (fun f => (s.ptp x).parent != some (f.clock, f.port) && f.qualified (max s.now t))
      (ann ∨ syn →
        ∃ u, exec (.ptpTimeout x t) s = .next u ∧ u.flag (npBase x 4 + 0x10) 2 = true ∧
          (ann → left = [] → u.ptpState x = 1 ∧ (u.ptp x).parent = none) ∧
          (ann → left ≠ [] → ∃ f ∈ left, (u.ptp x).parent = some (f.clock, f.port)) ∧
          (syn → ¬ann ∨ left ≠ [] → u.ptpState x = 2))) ∧
    (s.domOn 5 = true →
      ∃ u, exec (.timNowRead t) s = .next u ∧ u.rd Reg.timNowSecLo = (s.at t).device / ns / 1000000000 % 2 ^ 32 ∧
        u.rd Reg.timNowSecHi = (s.at t).device / ns / 1000000000 / 2 ^ 32 % 2 ^ 32 ∧ u.rd Reg.timNowNs = (s.at t).device / ns % 1000000000 ∧
        u.rd Reg.timNowFrac = (s.at t).device % ns / 2 ^ 16 ∧
        s.wordsBut u [Reg.timNowSecLo, Reg.timNowSecHi, Reg.timNowNs, Reg.timNowFrac]) ∧
    (s.flag (Reg.npPtpCtrl x) 0 = true →
      (∃ u, exec (.dieToDieDown x t) s = .next u ∧ u.net = s.net.set x
          { s.path x with d2d := false, ptp := { s.ptp x with waiting := none, held := none } } ∧ u.ptpState x = 4) ∧
      (s.ptpState x = 4 → x < s.net.length →
        ∃ u, exec (.dieToDieUp x t) s = .next u ∧ u.net = s.net.set x { s.path x with d2d := true } ∧
          u.ptpState x = (if (s.ptp x).parent.isSome then 2 else 1)))


/-! ### DRAM, the content store and the lanes -/

/-- DRAM reads return what was last written, poison is returned as poison, and a write changes its own bytes alone (R402, R406,
R407, R410). A read of a channel with no other read waiting is answered with its line's bytes, or with poison for a poisoned line, and
is counted; poison is a load access fault on a core of the control complex (that requesters 0-3 are its cores is the model's choice, log
entry 188). A corrected error returns the data with its event; an uncorrectable error that its retry finds again poisons the line; a
read that fails where the replays have failed returns poison. A write changes exactly its bytes of its line, and of a poisoned line only
a write of the whole line changes anything and lifts the poison. What a throttle or a replay holds back waits in its queue. Reads see
queued writes; with no read pending the queue drains. -/
def Obligations.DramAccess : Prop :=
  ∀ (s : State) (client addr t : Nat) (rt : Bool) (act : Option (Nat × Nat)),
    let c := addr / 2 ^ 37
    let line := addr / 64
    let data := (List.range 64).map (fun i => s.byte (line * 64 + i))
    let read := fun err bit idle => exec (.dramRead client rt addr ⟨err, bit⟩ act idle t) s
    let queued := ∃ w ∈ (s.chan c).wq, w.line = line
    c < 12 → c < s.dmc.chans.length → s.dramOk (line * 64) 64 = true → (s.chan c).rq = [] → (s.chan c).fenceDue = false →
    (∀ err bit idle, s.linePoisoned line = false → queued ∨ ((s.at t).mayIssue c client rt act = true ∧ (err = 0 ∨ err = 2)) →
      ∃ u, read err bit idle = .next u ∧ .dram client (line * 64) (some data) ∈ u.out ∧
        u.dram = s.dram ∧ u.poison = s.poison ∧ u.rd (Reg.dmcChStat c 0) = (s.rd (Reg.dmcChStat c 0) + 1) % 2 ^ 32) ∧
    ((s.at t).mayIssue c client rt act = true → ¬queued → ∀ err bit idle,
      (s.linePoisoned line = true → (err = 5 → (s.chan c).failed = false) →
        ∃ u, read err bit idle = .next u ∧ .dram client (line * 64) none ∈ u.out ∧ (client < 4 → .loadFault client (line * 64) ∈ u.out) ∧
          u.dram = s.dram ∧ u.poison = s.poison ∧ u.rd (Reg.dmcChStat c 9) = (s.rd (Reg.dmcChStat c 9) + 1) % 2 ^ 32) ∧
      (s.linePoisoned line = false → err = 1 ∨ err = 3 →
        ∃ u, read err bit idle = .next u ∧ .dram client (line * 64) (some data) ∈ u.out ∧
          u.flag (dmcBase c + 0x10) 0 = true ∧ u.rd (Reg.dmcChStat c 7) = (s.rd (Reg.dmcChStat c 7) + 1) % 2 ^ 32) ∧
      (s.linePoisoned line = false → err = 4 →
        ∃ u, read err bit idle = .next u ∧ .dram client (line * 64) none ∈ u.out ∧
          u.linePoisoned line = true ∧ u.dram = s.dram ∧ u.flag (dmcBase c + 0x10) 1 = true ∧
          u.rd (Reg.dmcChStat c 8) = (s.rd (Reg.dmcChStat c 8) + 1) % 2 ^ 32) ∧
      (err = 5 → (s.chan c).failed = true →
        ∃ u, read err bit idle = .next u ∧ .dram client (line * 64) none ∈ u.out ∧ u.dram = s.dram ∧ u.poison = s.poison)) ∧
    (∀ (bytes : List Byte) (idle : Bool),
      let whole := addr % 64 = 0 ∧ 64 ≤ bytes.length
      ∃ u, exec (.dramWrite client rt addr bytes act idle t) s = .next u ∧
        (∀ i, i < bytes.length → addr % 64 + i < 64 →
          u.byte (addr + i) = if s.linePoisoned line = true ∧ ¬whole then s.byte (addr + i) else bytes.getD i 0) ∧
        (∀ a, a < addr ∨ addr + bytes.length ≤ a ∨ a / 64 ≠ line → u.byte a = s.byte a) ∧
        (u.linePoisoned line = true ↔ s.linePoisoned line = true ∧ ¬whole) ∧
        (∀ l, l ≠ line → u.linePoisoned l = s.linePoisoned l) ∧
        (idle = true → (s.at t).issues c = true → (act = none ∨ rt = true) → (∀ w ∈ (s.chan c).wq, w.act = none ∨ w.rt = true) →
          (u.chan c).wq = [] ∧ u.rd (Reg.dmcChStat c 1) = (s.rd (Reg.dmcChStat c 1) + (s.chan c).wq.length + 1) % 2 ^ 32)) ∧
    ((s.at t).mayIssue c client rt act = false → ∀ err bit bytes idle,
      (¬queued → ∃ u, read err bit idle = .next u ∧ u.dram = s.dram ∧ u.poison = s.poison ∧
        (u.chan c).rq = [{ who := client, rt := rt, line := line, err := err, bit := bit, act := act, data := some data }]) ∧
      ((s.chan c).wq = [] → ∃ u, exec (.dramWrite client rt addr bytes act idle t) s = .next u ∧
        (u.chan c).wq = [{ line := line, who := client, rt := rt, act := act }]))

/-- Refreshes are owed and issued, scrubbing goes line by line, parity replays fence, training decides a channel's state (R404,
R405, R408, R411, R412, R413, R415). A refresh that comes due is owed, or issued where none is postponed or four are owed; a
hard boundary issues all that are owed, a soft one the fourth. A scrub moves to the next line and poisons one that stays
uncorrectable. A parity error clears the driver's error status and is replayed, at most 2 us a replay (how long is a free value, log
entry 190); three failed replays fence the channel. Measured drift is queued. RESTORE is kept; the module power follows its
bit and without it the contents are gone. Training ends as its result says. -/
def Obligations.DramUpkeep : Prop :=
  ∀ (s : State) (c t : Nat), c < 12 →
    (s.chanUsable c = true →
      ((s.chan c).refLast + s.trefiTime c ≤ max s.now t → (s.chan c).rq = [] → (s.chan c).fenceDue = false →
        ∃ u, exec (.trefi c t) s = .next u ∧ u.dram = s.dram ∧
          (s.fld Reg.dmcRefresh 10 0 = 0 → u.owed c = 0 ∧ u.rd (Reg.dmcChStat c 2) = (s.rd (Reg.dmcChStat c 2) + s.owed c + 1) % 2 ^ 32) ∧
          (s.fld Reg.dmcRefresh 10 0 ≠ 0 → s.owed c < 4 → u.owed c = s.owed c + 1 ∧ u.rd (Reg.dmcChStat c 2) = s.rd (Reg.dmcChStat c 2) ∧
            u.rd (Reg.dmcChStat c 3) = (s.rd (Reg.dmcChStat c 3) + 1) % 2 ^ 32) ∧
          (s.fld Reg.dmcRefresh 10 0 ≠ 0 → s.owed c = 4 → u.owed c = 4 ∧
            u.rd (Reg.dmcChStat c 2) = (s.rd (Reg.dmcChStat c 2) + 1) % 2 ^ 32 ∧
            u.rd (Reg.dmcChStat c 4) = (s.rd (Reg.dmcChStat c 4) + 1) % 2 ^ 32)) ∧
      (∃ u, exec (.hardBoundary c false t) s = .next u ∧ u.owed c = 0 ∧ u.dram = s.dram ∧
        u.rd (Reg.dmcChStat c 2) = (s.rd (Reg.dmcChStat c 2) + s.owed c) % 2 ^ 32) ∧
      (s.fld Reg.dmcRefresh 10 0 ≠ 0 → (s.chan c).softAt + s.fld Reg.dmcRefresh 10 0 * ns ≤ max s.now t →
        ∃ u, exec (.softBoundary c t) s = .next u ∧ u.owed c = (if s.owed c = 4 then 3 else s.owed c) ∧ u.dram = s.dram ∧
          u.rd (Reg.dmcChStat c 2) = (s.rd (Reg.dmcChStat c 2) + if s.owed c = 4 then 1 else 0) % 2 ^ 32) ∧
      (s.flag (Reg.dmcChCtrl c) 0 = true → s.fld Reg.dmcScrub 7 0 ≠ 0 →
        let x := s.chan c
        let wrap := s.chanCap c ≤ (x.scrub + 1) * 64
        (∀ bit, ∃ u, exec (.scrubRead c 0 bit t) s = .next u ∧ u.dram = s.dram ∧
          (s.linePoisoned (chanBase c / 64 + x.scrub) = false → u.poison = s.poison ∧ s.wordsBut u [Reg.dmcChStat c 12] ∧
            u.dmc = { s.dmc with chans := s.dmc.chans.set c { x with scrub := if wrap then 0 else x.scrub + 1 } } ∧
            u.rd (Reg.dmcChStat c 12) = (s.rd (Reg.dmcChStat c 12) + if wrap then 1 else 0) % 2 ^ 32)) ∧
        ∀ bit, s.linePoisoned (chanBase c / 64 + x.scrub) = false →
          ∃ u, exec (.scrubRead c 4 bit t) s = .next u ∧ u.linePoisoned (chanBase c / 64 + x.scrub) = true ∧ u.dram = s.dram ∧
            u.flag (dmcBase c + 0x10) 1 = true) ∧
      (∀ fails since, ∃ u, exec (.dmcCaParity c ⟨fails, since⟩ t) s = .next u ∧ u.flag (dmcBase c + 0x10) 2 = true ∧
        u.rd (Reg.dmcChStat c 5) = (s.rd (Reg.dmcChStat c 5) + 1 + min fails 3) % 2 ^ 32 ∧ .ddr c .clearError ∈ u.out ∧
        .ddr c (.again ((s.chan c).retry.take since).reverse) ∈ u.out ∧
        (c < s.dmc.chans.length → (u.chan c).replayEnd ≤ max s.now t + min (fails + 1) 3 * 2 * us) ∧
        (fails < 3 → u.dram = s.dram ∧ u.svc = s.svc ∧ u.unitState (119 + c) = s.unitState (119 + c)) ∧
        (3 ≤ fails → u.flag (dmcBase c + 0x10) 3 = true ∧
          (s.unitState (119 + c) = 0 → s.evacFits c = true → u.unitState (119 + c) = 1))) ∧
      (∀ steps, (s.chan c).driftAt + 100 * ms ≤ max s.now t →
        ∃ u, exec (.dqsDriftCheck c steps t) s = .next u ∧ u.regs = s.regs ∧
          u.dmc = { s.dmc with chans := s.dmc.chans.set c { s.chan c with drift := (s.chan c).drift + steps, driftAt := max s.now t } })) ∧
    (∀ (who : Requester) (data : Word),
      (s.accepts who Reg.dmcTrainCtrl (putBits data.toNat 16 16 1) →
        ∃ u, exec (.dmcRestore who data) s = .next u ∧ u.flag Reg.dmcTrainCtrl 16 = true ∧ u.dmc = s.dmc ∧ s.wordsBut u [Reg.dmcTrainCtrl]) ∧
      (s.accepts who (Reg.dmcChCtrl c) data.toNat →
        ∃ u, exec (.dimmPwr who c data) s = .next u ∧ u.flag (Reg.dmcChCtrl c) 8 = bitOf data.toNat 8 ∧ s.wordsBut u [Reg.dmcChCtrl c] ∧
          (∀ a, a / 2 ^ 37 ≠ c → u.byte a = s.byte a) ∧
          (s.flag (Reg.dmcChCtrl c) 8 = true → bitOf data.toNat 8 = false → ∀ a, a / 2 ^ 37 = c → u.byte a = dramDefault a) ∧
          (s.flag (Reg.dmcChCtrl c) 8 ≠ bitOf data.toNat 8 → .pin "DMC_PWREN" c (bitOf data.toNat 8) ∈ u.out))) ∧
    ∀ (l : List Dimm) (temp : Int) (verify memory : Bool) (full : Option (List Nat)) (k : Nat),
      s.unitState (119 + c) = 3 → 119 + c ∉ s.svc.bist → s.testOf (119 + c) = some k → (k = 1 ∨ k = 5 ∧ (s.flag Reg.dmcTrainCtrl 0 = true ∨
        s.flag Reg.dmcTrainCtrl 16 = true ∨ s.dmc.trainFrom + s.fld Reg.dmcTrainCtrl 15 8 * 100 * ms ≤ max s.now t)) →
      let r := s.trainResult c l temp verify memory full (k == 5)
      ∃ u, exec (.dramTraining c l temp verify memory full t) s = .next u ∧ u.testOf (119 + c) = none ∧
        u.rd (Reg.dmcChSvc c) = r.1 ∧
        (l = [] → u.unitState (119 + c) = 5 ∧ u.dimms = s.dimms.set c []) ∧
        (l ≠ [] → r.2.1 = true → u.unitState (119 + c) = 0 ∧ u.dimms = s.dimms.set c l ∧
          (c < s.dmc.chans.length → (u.chan c).record = r.2.2.1) ∧ u.flag Reg.dmcTrainStat (if r.2.2.2 then c else 16 + c) = true ∧
          ∀ a, a / 2 ^ 37 = c → u.byte a = dramDefault a) ∧
        (l ≠ [] → r.2.1 = false → u.unitState (119 + c) = 4 ∧ u.dimms = s.dimms ∧ u.flag 0x14F010 1 = true ∧ u.dram = s.dram)

/-- Drives come and go, and segments are stored, queried and deleted, each with its end (R416, R417, R418, R420, R427, R428).
INIT leaves a drive with empty metadata. A drive that comes up in a free slot is ACTIVE, and READY exactly if its format fits and its
metadata is valid and this tile's; one that is lost is OFF, or stays FENCED. A command that is outstanding for 2 s is aborted, and three
controller resets in a row fail a drive. SEGMENT_WRITE checks the segment, finds space and begins its store, and its end puts the segment
under the next number on the drives that are still there, or gives the code. QUERY shows a segment; DELETE removes it from the drives
and the cache. While Marigold restarts the stores wait. -/
def Obligations.ContentSegments : Prop :=
  ∀ (s : State) (who : Requester) (data : Word) (t : Nat),
    (∀ d, d < 2 →
      (s.accepts who (Reg.nvsDCtrl d) (putBits data.toNat 0 0 1) →
        ∃ u, exec (.driveInit who d data) s = .next u ∧ u.nvs.segs = s.nvs.segs ∧
          (s.mgt.restarting = true → d < s.nvs.drives.length → u.drive d = { s.drive d with initDue := true }) ∧
          (s.mgt.restarting = false → u.fld (Reg.nvsDStatus d) 10 9 = 1 ∧ u.flag (Reg.nvsDStatus d) 8 = s.flag (Reg.nvsDStatus d) 11 ∧
            (d < s.nvs.drives.length → (u.drive d).nums = [] ∧ (u.drive d).ready = s.flag (Reg.nvsDStatus d) 11))) ∧
      (∀ (copies : List (Option MetaCopy)) (cap gen width health : Nat) (fmt : Bool), s.domOn 30 = true →
          s.unitState (131 + d) = 5 ∨ (s.unitState (131 + d) = 0 ∧ (s.drive d).ready = false) → 131 + d ∉ s.svc.bist →
        ∃ u, exec (.driveInsert d copies cap fmt gen width health t) s = .next u ∧ u.unitState (131 + d) = 0 ∧
          u.flag (Reg.nvsDStatus d) 0 = true ∧ u.flag (Reg.nvsDStatus d) 8 = (metaCode fmt copies == 1) ∧ u.rd (Reg.nvsDCap d) = min cap 16000 ∧
          (d < s.nvs.drives.length → (u.drive d).ready = (metaCode fmt copies == 1) ∧
            ∀ i m, metaCode fmt copies = 1 → metaForce copies = some (i, m) → (u.drive d).nums = m.nums) ∧
          ((s.drive d).present = false → u.flag (nvsDBase d + 0x10) 0 = true)) ∧
      ((s.drive d).present = true → ∀ present,
        ∃ u, exec (.driveSurpriseRemove ⟨d, present⟩ t) s = .next u ∧ u.unitState (131 + d) = (if s.unitState (131 + d) = 2 then 2 else 5) ∧
          (u.drive d).present = present ∧ (u.drive d).ready = false ∧ u.nvs.segs = s.nvs.segs ∧ u.flag (Reg.nvsDStatus d) 8 = false ∧
          u.flag (Reg.nvsDStatus d) 1 = false ∧ (present = false → u.flag (nvsDBase d + 0x10) 0 = true) ∧
          (present = true → u.flag (Reg.nvsDStatus d) 0 = s.flag (Reg.nvsDStatus d) 0)) ∧
      (s.driveOk d = true → ∀ issued, issued + 2 * sec ≤ max s.now t →
        ∀ aborted, ∃ u, exec (.nvmeCommandTimeout d ⟨issued, aborted⟩ t) s = .next u ∧ u.flag (nvsDBase d + 0x10) 1 = true ∧
          u.rd (Reg.nvsDStat d 3) = (s.rd (Reg.nvsDStat d 3) + 1) % 2 ^ 32 ∧
          (aborted = true → (u.drive d).resets = 0 ∧ u.unitState (131 + d) = 0) ∧
          (aborted = false → u.rd (Reg.nvsDStat d 4) = (s.rd (Reg.nvsDStat d 4) + 1) % 2 ^ 32 ∧
            ((s.drive d).resets < 2 → (u.drive d).resets = (s.drive d).resets + 1 ∧ u.unitState (131 + d) = 0) ∧
            (2 ≤ (s.drive d).resets → u.unitState (131 + d) = 4 ∧ (u.drive d).ready = false ∧ u.flag 0x1D0010 0 = true)))) ∧
    (s.accepts who Reg.nvsSegwCtrl (putBits data.toNat 31 31 1) →
      let seg := (s.dramRead (s.addr64 Reg.nvsSegwLo Reg.nvsSegwHi) (s.rd Reg.nvsSegwLen)).bind parseSeg
      ∃ u, exec (.segmentWrite who data) s = .next u ∧ u.flag Reg.nvsSegwCtrl 31 = true ∧ u.nvs.segs = s.nvs.segs ∧
        (seg = none → u.nvs.segw = some (none, 0x1501)) ∧
        ∀ g, seg = some g →
          (s.segTargets g = none → u.nvs.segw = some (none, 0x1504)) ∧
          (∀ on, s.segTargets g = some on → u.nvs.segwWait = s.mgt.restarting ∧
            u.nvs.segw = if s.mgt.restarting || s.storeOk 3 then some (some (g, on), 0) else some (none, 0xC))) ∧
    (∀ x code, s.nvs.segw = some (x, code) → code < 2 ^ 15 → s.nvs.segwWait = true → x.isSome = true →
      ∃ u, exec (.nvsSegwDone t) s = .next u ∧ u.nvs = s.nvs) ∧
    (∀ x code, s.nvs.segw = some (x, code) → code < 2 ^ 15 → s.nvs.segwWait = false →
      ∃ u, exec (.nvsSegwDone t) s = .next u ∧ u.nvs.segw = none ∧ u.flag Reg.nvsSegwCtrl 31 = false ∧ u.flag 0x150010 0 = true ∧
        (x = none → u.nvs.segs = s.nvs.segs ∧ u.fld Reg.nvsSegwCtrl 30 16 = code) ∧
        ∀ g on, x = some (g, on) →
          let stays := fun d => d < 2 ∧ on.getD d false = true ∧ s.driveLive d = true
          ((∃ d, stays d) → u.nvs.segs = s.nvs.segs ++ [{ g with num := s.nvs.nextNum }] ∧
            (∀ d, stays d → (u.drive d).nums = (s.drive d).nums ++ [s.nvs.nextNum]) ∧ (∀ d, ¬stays d → u.drive d = s.drive d) ∧
            u.nvs.nextNum = s.nvs.nextNum + 1 ∧ u.rd Reg.nvsSegwNum = s.nvs.nextNum % 2 ^ 32 ∧ u.fld Reg.nvsSegwCtrl 30 16 = 0) ∧
          ((¬∃ d, stays d) → u.nvs.segs = s.nvs.segs ∧ u.nvs.drives = s.nvs.drives ∧ u.fld Reg.nvsSegwCtrl 30 16 = 0x1506)) ∧
    (s.accepts who Reg.nvsSegop (putBits (putBits data.toNat 31 31 1) 1 0 0) →
      ∃ u, exec (.segmentQuery who data) s = .next u ∧ u.flag Reg.nvsSegop 31 = true ∧
        u.nvs = { s.nvs with segop := some (0, s.rd Reg.nvsSegopNum, 0), segopWait := false } ∧ s.wordsBut u [Reg.nvsSegop]) ∧
    (s.accepts who Reg.nvsSegop (putBits (putBits data.toNat 31 31 1) 1 0 1) →
      ∃ u, exec (.segmentDelete who data) s = .next u ∧ u.flag Reg.nvsSegop 31 = true ∧
        u.nvs = { s.nvs with segop := some (1, s.rd Reg.nvsSegopNum, if s.mgt.restarting || s.storeOk 3 then 0 else 0xC),
                             segopWait := s.mgt.restarting }) ∧
    (∀ n, s.nvs.segop = some (1, n, 0) → s.nvs.segopWait = true → ∃ u, exec (.nvsSegopDone t) s = .next u ∧ u.nvs = s.nvs) ∧
    (∀ n code, s.nvs.segop = some (1, n, code) → code ≠ 0 → s.nvs.segopWait = false →
      ∃ u, exec (.nvsSegopDone t) s = .next u ∧ u.nvs = { s.nvs with segop := none } ∧ u.flag Reg.nvsSegop 31 = false ∧
        u.flag 0x150010 1 = true) ∧
    ∀ op n g, s.segOf n = some g → s.nvs.segopWait = false →
      (s.nvs.segop = some (0, n, op) →
        ∃ u, exec (.nvsSegopDone t) s = .next u ∧ u.nvs = { s.nvs with segop := none } ∧ u.flag Reg.nvsSegop 31 = false ∧
          u.flag 0x150010 1 = true ∧ u.rd (Reg.nvsSegopR 0) = g.frames % 2 ^ 32 ∧ u.rd (Reg.nvsSegopR 1) = g.count % 2 ^ 32 ∧
          u.rd (Reg.nvsSegopR 2) = ceilDiv g.len (2 ^ 20) % 2 ^ 32) ∧
      (s.nvs.segop = some (1, n, 0) →
        ∃ u, exec (.nvsSegopDone t) s = .next u ∧ u.segOf n = none ∧ u.nvs.segop = none ∧
          (∀ d, d < 2 → s.driveLive d = true → (u.drive d).nums = (s.drive d).nums.filter (fun m => m != n)) ∧
          u.plc.cache = s.plc.cache.filter (fun e => e.seg != n) ∧ u.flag Reg.nvsSegop 31 = false ∧ u.flag 0x150010 1 = true)

/-- Playback starts, delivers in order, stops and ends, and fallback takes the place of lost links until they return (R421,
R422, R423, R424). GO starts an engine on its session, segment and loops, STOP ends it. With EN 1 an engine whose next datagram
is due delivers it and moves on; one with nothing due waits. An engine with all loops delivered, or whose segment is gone, stops
with its event. With both links lost for DOWN_MS, fallback closes the network sessions that it overlaps and opens its own; with
a link held for UP_MS it closes the session that it opened and reopens them. -/
def Obligations.PlaybackAndFallback : Prop :=
  ∀ (s : State) (who : Requester) (data : Word) (t : Nat),
    (∀ p, p < 4 →
      (s.accepts who (Reg.nvsPbCtrl p) (putBits data.toNat 31 31 1) →
        let w := putBits data.toNat 31 31 1
        ∃ u, exec (.playbackGo who p data) s = .next u ∧ u.rd (Reg.nvsPbStat p) = 1 ∧ u.ing = s.ing ∧
          u.nvs.plays = s.nvs.plays.set p (some {
            session := bitsOf w 5 0, seg := s.rd (Reg.nvsPbSeg p), loops := if bitOf w 8 then none else some (s.fld (Reg.nvsPbCount p) 15 0),
            lead := s.fld (Reg.nvsPbLead p) 3 0, start := s.playStart p w, s0 := s.nextS0 p (bitsOf w 5 0),
            loop := 0, next := 0 })) ∧
      (s.accepts who (Reg.nvsPbCtrl p) (putBits (putBits data.toNat 31 31 0) 30 30 1) →
        ∃ u, exec (.playbackStop who p data) s = .next u ∧ u.nvs = { s.nvs with plays := s.nvs.plays.set p none } ∧
          u.fld (Reg.nvsPbStat p) 1 0 = 0 ∧ s.wordsBut u [Reg.nvsPbCtrl p, Reg.nvsPbStat p]) ∧
      (∀ x, s.play p = some x →
        (∀ g, s.segOf x.seg = some g → s.flag Reg.nvsCtrl 0 = true →
          (x.over = true ∨ s.ras.frame + x.lead < x.frame g →
            ∃ u, exec (.playbackDeliver p t) s = .next u ∧ u.nvs = s.nvs ∧ u.ing = s.ing ∧ u.regs = s.regs) ∧
          (x.over = false → x.frame g ≤ s.ras.frame + x.lead → g.firstFrame ≤ gramFrame (g.grams.getD x.next []) → 1 ≤ g.count → 1 ≤ g.frames →
            ∃ u y, exec (.playbackDeliver p t) s = .next u ∧ u.nvs.plays.getD p none = some y ∧
              (x.loop < y.loop ∨ y.loop = x.loop ∧ x.next < y.next) ∧ u.fld (Reg.nvsPbStat p) 1 0 = 2)) ∧
        (x.over = true →
          ∃ u, exec (.nvsPbDone p t) s = .next u ∧ u.nvs = { s.nvs with plays := s.nvs.plays.set p none } ∧
            u.fld (Reg.nvsPbStat p) 1 0 = 0 ∧ u.flag 0x150010 2 = true) ∧
        (s.segOf x.seg = none →
          ∃ u, exec (.nvsPbLost p t) s = .next u ∧ u.nvs = { s.nvs with plays := s.nvs.plays.set p none } ∧
            u.fld (Reg.nvsPbStat p) 1 0 = 0 ∧ u.flag 0x150010 3 = true))) ∧
    (let k := s.fld Reg.nvsFbSession 5 0
      let closed := (List.range 64).filter (fun j => s.flag (Reg.ingSCtrl j) 0 && s.sessSource j == 0 &&
        decide (Nat.land (s.rd (Reg.ingSPlanes j)) (s.rd (Reg.ingSPlanes k)) ≠ 0))
      (s.domOn 30 = true → s.flag Reg.nvsCtrl 0 = true → s.flag Reg.nvsCtrl 1 = true → s.nvs.fallback = none → (s.at t).downLong = true →
          s.sessSource k = 1 → s.flag (Reg.ingSCtrl k) 0 = false →
        ∃ u, exec (.nvsFallback t) s = .next u ∧ u.nvs.fallback = some (k, closed) ∧ u.flag (Reg.ingSCtrl k) 0 = true ∧
          (∀ j ∈ closed, u.flag (Reg.ingSCtrl j) 0 = false) ∧ u.flag 0x150010 4 = true) ∧
      ∀ k l, s.nvs.fallback = some (k, l) → k < 64 → (∀ j ∈ l, j < 64 ∧ j ≠ k) → (s.at t).upLong = true →
        ∃ u, exec (.nvsFallbackEnd t) s = .next u ∧ u.nvs.fallback = none ∧ u.flag (Reg.ingSCtrl k) 0 = false ∧
          (∀ j ∈ l, u.flag (Reg.ingSCtrl j) 0 = true) ∧ u.flag 0x150010 5 = true)

/-- Lanes come up, fail, retry, scan and step their settings as their state allows (R431, R432, R435, R436, R438, R439, R440,
R441). An enabled lane brings up with the settings of its source; it is READY, or LOOP where a loop or pattern is selected, which LOOP 3
of a PCIe lane is not. A fault takes it down with its cause, counts and event, and a retry after 10 ms brings it up again with the
settings in force, three times at most (that a retry may fail with cause 2 is the model's reading, log entry 193). RESTART brings up
afresh, GO starts a scan, and once every eye's scan has come to its end the smallest openings are shown with the frame and the lane's
temperature. A setting moves one step toward its target and no other setting moves. -/
def Obligations.SerialLanes : Prop :=
  ∀ (s : State) (n t : Nat), n < 84 →
    (s.laneOwned n = true → s.laneState n = 0 ∨ s.laneState n = 3 →
      ∃ u, exec (.laneEnable n t) s = .next u ∧ u.laneState n = 1 ∧ u.flag (Reg.lnkReady (n / 32)) (n % 32) = false ∧
        u.flag (Reg.lnkLStatus n) 3 = false ∧
        (lanePcie n = false → s.flag Reg.lnkCtrl 0 = false → n < s.lanes.length → u.eqNow n = s.eqRegs n) ∧
        (s.laneInUse n = true → u.fld (Reg.lnkLCtrl n) 1 0 = 0 ∧ u.fld (Reg.lnkLCtrl n) 5 4 = 0)) ∧
    (s.laneState n = 1 → ∀ tx rx0 rx1,
      let loops := (s.fld (Reg.lnkLCtrl n) 1 0 ≠ 0 ∧ ¬(lanePcie n = true ∧ s.fld (Reg.lnkLCtrl n) 1 0 = 3)) ∨ s.fld (Reg.lnkLCtrl n) 5 4 ≠ 0
      ∃ u, exec (.lnkLaneReady n tx rx0 rx1 t) s = .next u ∧ (¬loops → u.laneState n = 2) ∧ (loops → u.laneState n = 3) ∧
        u.flag 0x160010 1 = true ∧ (u.flag (Reg.lnkReady (n / 32)) (n % 32) = true ↔ ¬loops) ∧
        (lanePcie n = true → u.rd (Reg.lnkLTxeqNow n) = tx % 2 ^ 32) ∧
        (lanePanel n = false → s.flag (Reg.lnkLCtrl n) 8 = true → u.rd (Reg.lnkLRxeq0Now n) = rx0 % 2 ^ 32 ∧
          u.rd (Reg.lnkLRxeq1Now n) = rx1 % 2 ^ 32)) ∧
    (s.laneState n = 1 ∨ s.laneState n = 2 ∨ s.laneState n = 3 → ∀ cause, 1 ≤ cause → cause ≤ 3 →
        (cause = 2 → lanePanel n = false ∧ (s.laneState n = 2 ∨ s.laneState n = 1 ∧ 0 < (s.lane n).tries)) → (cause = 3 → lanePanel n = true) →
      ∃ u, exec (.lnkLaneFault n cause t) s = .next u ∧ u.laneState n = 4 ∧ u.fld (Reg.lnkLStatus n) 6 5 = cause ∧
        u.flag (Reg.lnkLStatus n) 16 = false ∧ u.flag (Reg.lnkReady (n / 32)) (n % 32) = false ∧ u.flag 0x160010 0 = true ∧
        u.rd (Reg.lnkLStatFaults n) = (s.rd (Reg.lnkLStatFaults n) + 1) % 2 ^ 32 ∧
        u.rd (Reg.lnkStat 0) = (s.rd (Reg.lnkStat 0) + 1) % 2 ^ 32 ∧ (lanePanel n = true → u.flag 0xB0010 1 = true)) ∧
    (s.laneState n = 4 → s.flag Reg.lnkCtrl 1 = true → (s.lane n).tries < 3 → (s.lane n).faultAt + 10 * ms ≤ max s.now t →
      ∃ u, exec (.laneRetry n t) s = .next u ∧ u.laneState n = 1 ∧ u.eqNow n = s.eqNow n ∧ u.rd (Reg.lnkStat 1) = (s.rd (Reg.lnkStat 1) + 1) % 2 ^ 32 ∧
        (n < s.lanes.length → (u.lane n).tries = (s.lane n).tries + 1)) ∧
    (∀ (who : Requester) (data : Word),
      (s.accepts who (Reg.lnkLCtrl n) (putBits data.toNat 16 16 1) →
        ∃ u, exec (.laneRestart who n data) s = .next u ∧ u.laneState n = 1 ∧ (n < s.lanes.length → (u.lane n).tries = 0)) ∧
      (s.accepts who (Reg.lnkLCtrl n) (putBits data.toNat 31 31 1) →
        ∃ u, exec (.scanGo who n data) s = .next u ∧ u.flag (Reg.lnkLStatus n) 16 = true ∧ u.flag (Reg.lnkLStatus n) 17 = false)) ∧
    (s.flag (Reg.lnkLStatus n) 16 = true → ∀ eyes, s.scanEnded n eyes = true →
      let l := s.leastOpen eyes
      ∃ u, exec (.lnkScanDone n (eyes.map EyeScan.phase) (eyes.map EyeScan.volt) t) s = .next u ∧ u.flag (Reg.lnkLStatus n) 16 = false ∧ u.flag (Reg.lnkLStatus n) 17 = true ∧
        u.flag 0x160010 2 = true ∧ u.rd (Reg.lnkStat 2) = (s.rd (Reg.lnkStat 2) + 1) % 2 ^ 32 ∧
        u.laneState n = s.laneState n ∧
        u.rd (Reg.lnkLEye n) = (2000 * l.1 + 64) / 128 % 65536 + 2 * l.2 % 65536 * 65536 ∧
        u.rd (Reg.lnkLEyeInfo n) = s.ras.frame % 65536 + toBits 8 (s.laneTemp n / 16) * 65536) ∧
    ∀ k, k < 9 → s.laneState n ≠ 0 →
      let v := eqValue (s.eqNow n) k
      let g := eqValue (s.lane n).target k
      v ≠ g → (k < 3 → lanePcie n = false) → (3 ≤ k → s.flag (Reg.lnkLCtrl n) 8 = false) →
        (s.lane n).stepAt.getD k 0 + (if k < 3 then 100 else 10) * us ≤ max s.now t →
      ∃ u, exec (.eqSlewStep n k t) s = .next u ∧ eqValue (u.eqNow n) k = (if v < g then v + 1 else v - 1) ∧
        (∀ j, j < 9 → j ≠ k → eqValue (u.eqNow n) j = eqValue (s.eqNow n) j) ∧
        s.wordsBut u [Reg.lnkLTxeqNow n, Reg.lnkLRxeq0Now n, Reg.lnkLRxeq1Now n]


/-! ### Management, security, power and service -/

/-- Marigold and the control complex restart and start by their images; requests end with their code and no effect where a check fails
(R443, R444, R445, R467, R480, R482, R507). A restart of the control complex, by command or by the watchdog, holds it in reset until its
image verifies. A restart of Marigold ends the requests taken with RESTARTED and its domain is off until it is back (that its words stay
is the model's choice, log entry 160); it runs again from a slot that verifies, else it waits in recovery, with the HEP domain alone
powered once the panel is OFF (that order is the model's choice, log entry 194). STATUS and LOG_READ answer their words; a code that no
row serves ends with 0x1802. A signed request whose envelope, signer or signature fails ends with that code and changes no part of the
security state. -/
def Obligations.MarigoldAndMailbox : Prop :=
  ∀ (s : State) (t : Nat),
    (∀ (who : Requester) (data : Word),
      (s.accepts who Reg.mgtCpxCtrl (putBits data.toNat 0 0 1) →
        ∃ u, exec (.mgtCpxRestart who data) s = .next u ∧ u.mgt = { s.mgt with cpxRun := false, cpxRestart := some s.now } ∧
          u.fld Reg.mgtCpxStatus 1 0 = 1 ∧ u.flag 0x180010 2 = true ∧ s.wordsBut u [Reg.mgtCpxCtrl, Reg.mgtCpxStatus, 0x180010]) ∧
      (s.accepts who Reg.mgtCpxKick (putBits data.toNat 0 0 1) →
        ∃ u, exec (.mgtCpxKick who data) s = .next u ∧ u.mgt = { s.mgt with kickAt := s.now } ∧ s.wordsBut u [Reg.mgtCpxKick])) ∧
    (s.mgt.cpxRun = true → s.fld Reg.mgtCpxCtrl 31 16 ≠ 0 → s.mgt.kickAt + s.fld Reg.mgtCpxCtrl 31 16 * ms ≤ max s.now t →
      ∃ u, exec (.cpxWatchdogExpire t) s = .next u ∧ u.mgt = { s.mgt with cpxRun := false, cpxRestart := some (max s.now t) } ∧
        u.flag 0x180010 2 = true) ∧
    (s.mgt.running = true → s.mgt.restarting = false → s.domOn 2 = true → s.pwr.step = 8 ∨ s.mgt.cpxRestart.isSome = true →
      ∃ u, exec (.cpxImageRelease t) s = .next u ∧ u.mgt.cpxRestart = none ∧
        (∀ i fb c, ((s.at t).trialStart 1).bootImage 1 = (some (i, fb), c) → u.mgt.cpxRun = true ∧ u.mgt.kickAt = max s.now t ∧
          u.secu.cpxOk = true ∧ u.fld Reg.mgtCpxStatus 1 0 = 0 ∧
          u.secu.images = s.secu.images.set 1 (some { rollback := i.rollback, digest := sm3 i.body })) ∧
        (∀ c, ((s.at t).trialStart 1).bootImage 1 = (none, c) → u.mgt.cpxRun = s.mgt.cpxRun ∧ u.secu.cpxOk = false ∧
          u.flag 0x1C0010 0 = true)) ∧
    (s.mgt.running = true → s.mgt.restarting = false →
      ∃ u, exec (.marigoldRestart t) s = .next u ∧ u.mgt = { s.mgt with restarting := true } ∧ u.flag Reg.mgtMgStatus 24 = false ∧
        u.domOn 1 = false ∧ u.secu = { s.secu with update := none } ∧ u.flag 0x180010 3 = true ∧
        ∀ c, c < 2 → s.flag (Reg.mgtMbCtrl c) 1 = true → u.mbEnded c 0x1804) ∧
    (s.mgt.running = true → s.mgt.restarting = true →
      ∃ u, exec (.marigoldReady t) s = .next u ∧ u.mgt.restarting = false ∧ u.domOn 1 = true ∧
        (∀ i fb c, ((s.at t).restartOver.trialStart 0).bootImage 0 = (some (i, fb), c) → u.mgt.running = true ∧
          u.flag Reg.mgtMgStatus 24 = true ∧ u.secu.seqs = [0, 0] ∧ u.log.retained = [] ∧ u.secu.recovered = false ∧
          u.secu.images = s.secu.images.set 0 (some { rollback := i.rollback, digest := sm3 i.body })) ∧
        (∀ c, ((s.at t).restartOver.trialStart 0).bootImage 0 = (none, c) → u.mgt.running = false ∧ u.secu.recovery = true ∧
          u.pwr.step = 1 ∧ u.domOn 31 = true ∧ (s.panel = 0 → ∀ d ∈ startOrder, d ≠ 31 → u.domOn d = false))) ∧
    ∀ (c : Nat) (host b : List Byte), s.mbBusy c = true → s.mbRequest c host = some b →
      (leNat (b.take 4) = 1 → 12 ≤ s.fld (Reg.mgtMbRlen c) 15 0 →
        let r := leBytes 4 (s.fld Reg.mgtMgStatus 15 0) ++ leBytes 4 ((max s.now t - s.mgt.startedAt) / sec) ++ leBytes 4 (s.fld Reg.mgtMgStatus 23 16)
        ∃ u, exec (.mbStatus c host t) s = .next u ∧ u.mbEnded c 0 ∧ u.fld (Reg.mgtMbStatus c) 31 16 = 12 ∧ u.secu = s.secu ∧
          (c = 0 → u.dram = (s.dramWrite (s.mbAddr 0) r).dram) ∧ (c = 1 → .hostWrite (s.mbAddr 1) r ∈ u.out)) ∧
      (leNat (b.take 4) ≠ 1 → rowServices.contains (leNat (b.take 4)) = false →
        ∃ u, exec (.mbStatus c host t) s = .next u ∧ u.mbEnded c 0x1802 ∧ u.secu = s.secu ∧ u.dram = s.dram) ∧
      (leNat (b.take 4) = 2 → 16 ≤ b.length →
        ∃ u, exec (.mbLogRead c host t) s = .next u ∧ u.log = s.log ∧ u.secu = s.secu ∧
          (leNat (slice b 12 4) = 0 → u.mbEnded c 2) ∧ (512 < leNat (slice b 12 4) → u.mbEnded c 1) ∧
          (1 ≤ leNat (slice b 12 4) → leNat (slice b 12 4) ≤ 512 → (s.svcLogRead b).2.1.length ≤ s.fld (Reg.mgtMbRlen c) 15 0 →
            u.mbEnded c 0 ∧ (c = 1 → .hostWrite (s.mbAddr 1) (s.svcLogRead b).2.1 ∈ u.out))) ∧
      ∀ answers,
        let signed : List (Instr × Nat × (Nat → Bool)) :=
          [(.mbPrivWrite c host t, 0x10, fun n => n == 12), (.mbDomain c host answers t, 0x11, fun n => n == 8),
           (.mbCalCapture c host t, 0x20, fun n => n == 8), (.mbUpdateBegin c host t, 0x30, fun n => n == 8),
           (.mbUpdateBlock c host t, 0x31, fun n => (n - 4) % 4096 == 0 && decide (4100 ≤ n ∧ n ≤ 61444)),
           (.mbUpdateEnd c host t, 0x32, fun n => n == 0), (.mbActivate c host t, 0x33, fun n => n == 4),
           (.mbCommit c host t, 0x34, fun n => n == 8), (.mbAttest c host t, 0x35, fun n => n == 32),
           (.mbIdentity c host t, 0x36, fun n => n == 0), (.mbKeyLoad c host t, 0x37, fun n => n == 124),
           (.mbKeyClear c host t, 0x38, fun n => n == 4), (.mbOwnerEnrol c host t, 0x39, fun n => n == 68),
           (.mbOwnerRevoke c host t, 0x3A, fun n => n == 4), (.mbLifecycle c host t, 0x3B, fun n => n == 4),
           (.mbTestUnlock c host t, 0x3C, fun n => n == 288)]
        ∀ q ∈ signed, leNat (b.take 4) = q.2.1 →
          (s.envelope c b q.2.2 ≠ 0 →
            ∃ u, exec q.1 s = .next u ∧ u.mbEnded c (s.envelope c b q.2.2) ∧ u.secu = s.secu ∧ u.pwr = s.pwr ∧ u.dram = s.dram ∧
              (s.envelope c b q.2.2 = 0x1C02 → u.flag 0x1C0010 1 = true ∧ u.rd (Reg.secStat 1) = (s.rd (Reg.secStat 1) + 1) % 2 ^ 32)) ∧
          (s.envelope c b q.2.2 = 0 → q.2.1 < 0x39 ∨ q.2.1 = 0x3B → s.ownerOk (mbKey b) = false →
            ∃ u, exec q.1 s = .next u ∧ u.mbEnded c 0x1C01 ∧ u.secu = s.secu ∧ u.pwr = s.pwr ∧ u.dram = s.dram) ∧
          (s.envelope c b q.2.2 = 0 → q.2.1 ≠ 0x3A → q.2.1 ≠ 0x3C → s.ownerOk (mbKey b) = true →
            ∃ u, exec q.1 s = .next u ∧ (mbSigned b = false → u.mbEnded c 0xD ∧ u.secu = s.secu ∧ u.pwr = s.pwr ∧ u.dram = s.dram ∧
              u.flag 0x1C0010 0 = true ∧ u.rd (Reg.secStat 0) = (s.rd (Reg.secStat 0) + 1) % 2 ^ 32))

/-- Signed requests of an owner write registers, switch domains, capture calibration, update, activate and commit images (R445,
R447, R466, R482, R483, R484, R485). For a request that passes the checks of its envelope and its signer, and whose signature
verifies: PRIV_WRITE makes its masked write or ends with the code that rejects it, the SEC page refused; DOMAIN asks for the
domain or switches it off; CAL_CAPTURE writes the image; UPDATE_BEGIN, BLOCK and END write a slot, at its place in the flash, and put the
new image on trial once it verifies; ACTIVATE restarts; COMMIT ends the trial. Each ends its request, and SEQ is taken. How ACTIVATE and
CAL_CAPTURE lay out their parameters is the model's choice (log entry 37). -/
def Obligations.MailboxFirmware : Prop :=
  ∀ (s : State) (c t : Nat) (host b : List Byte),
    let p := mbParams b
    let w := fun i => leNat (slice p i 4)
    (s.mbAsks c host 0x10 (fun n => n == 12) ownerSigner b →
      let a := w 0 % 0x400000
      (0x1C0000 ≤ a → a < 0x1D0000 →
        ∃ u, exec (.mbPrivWrite c host t) s = .next u ∧ (mbSigned b = true → u.mbEnded c 0x1C05 ∧ u.secu.arb = s.secu.arb)) ∧
      (¬(0x1C0000 ≤ a ∧ a < 0x1D0000) → ∀ q, s.reached a = some q →
        let x : State := { s.at t with secu := { s.secu with seqs := s.secu.seqs.set c (leNat (slice b 24 8)) } }
        let r := x.readWord a - Nat.land (x.readWord a) (q.oneBits (a % 0x1000))
        let v := r - Nat.land r (w 4) + Nat.land (w 8) (w 4)
        ∃ u, exec (.mbPrivWrite c host t) s = .next u ∧ (mbSigned b = true → u.mbEnded c (x.writeCode .marigold true q a 4 v % 65536) ∧
          (x.writeCode .marigold true q a 4 v = 0 →
            (x.acceptWord q a v).wordsBut u [Reg.mgtMbStatus c, Reg.mgtMbCtrl c, 0x180010, 0x1C0010, Reg.svcLogStaged, 0x1D0010])))) ∧
    (s.mbAsks c host 0x11 (fun n => n == 8) ownerSigner b → w 0 ≤ 34 → w 4 ≤ 1 → firstCode (s.domainCodes (w 0) (w 4 == 1)) = 0 →
      (∃ u, exec (.mbDomain c host true t) s = .next u ∧ (mbSigned b = true → u.mbEnded c 0 ∧
        (w 4 = 0 → u.domOn (w 0) = false) ∧
        (w 4 = 1 → s.domOn (w 0) = false → s.pwr.ups.contains (w 0) = false → u.domReq (w 0) = true ∧ u.pwr.ups = s.pwr.ups ++ [w 0]))) ∧
      ∃ u, exec (.mbDomain c host false t) s = .next u ∧ (mbSigned b = true → u.mbEnded c 0x1902 ∧ u.pwr = s.pwr ∧ u.flag 0x190010 4 = true)) ∧
    (s.mbAsks c host 0x20 (fun n => n == 8) ownerSigner b →
      let rest := (s.cal.filterMap id).filter (fun x => decide (2 < (x.temp - s.calNow.temp).natAbs))
      let img := s.calImage (rest ++ [s.calNow])
      let a := leNat (slice p 0 8)
      rest.length < 8 → s.dramOk a img.length = true →
      ∃ u, exec (.mbCalCapture c host t) s = .next u ∧ (mbSigned b = true → u.mbEnded c 0 ∧ u.dram = (s.dramWrite a img).dram ∧
        u.rd Reg.calCapStat = 1 ∧ u.flag 0x1B0010 2 = true ∧ u.cal = s.cal)) ∧
    (s.mbAsks c host 0x30 (fun n => n == 8) ownerSigner b → s.secu.update = none → 1 ≤ w 0 → w 0 ≤ 3 → 1 ≤ w 4 →
        w 4 ≤ slotSize (w 0 - 1) → (s.boot.kind (w 0 - 1)).trial = false →
      ∃ u, exec (.mbUpdateBegin c host t) s = .next u ∧ (mbSigned b = true → u.mbEnded c 0 ∧
        u.secu.update = some { kind := w 0, total := w 4, signer := mbKey b, parts := [] } ∧
        u.secu.slots = s.secu.slots.set (2 * (w 0 - 1) + (1 - (s.boot.kind (w 0 - 1)).slot)) [])) ∧
    (s.mbAsks c host 0x31 (fun n => (n - 4) % 4096 == 0 && decide (4100 ≤ n ∧ n ≤ 61444)) ownerSigner b → ∀ x, s.secu.update = some x →
      let d := p.drop 4
      let i := 2 * (x.kind - 1) + (1 - (s.boot.kind (x.kind - 1)).slot)
      let may := s.storeOk (if x.kind = 3 then 1 else 2)
      w 0 + d.length ≤ (x.total + 4095) / 4096 * 4096 → (∀ e ∈ x.parts, w 0 + d.length ≤ e.1 ∨ e.1 + e.2 ≤ w 0) →
      ∃ u, exec (.mbUpdateBlock c host t) s = .next u ∧ (mbSigned b = true →
        (may = true → .flash (slotOffset i + w 0) d ∈ u.out ∧ u.mbEnded c 0 ∧ u.secu.update = some { x with parts := x.parts ++ [(w 0, d.length)] } ∧
          u.secu.slots = s.secu.slots.set i (flashPut (s.secu.slots.getD i []) (w 0) d)) ∧
        (may = false → u.mbEnded c 0xC ∧ u.secu.slots = s.secu.slots))) ∧
    (s.mbAsks c host 0x32 (fun n => n == 0) ownerSigner b → ∀ x, s.secu.update = some x →
      let k := x.kind - 1
      let i := 1 - (s.boot.kind k).slot
      let r := s.verifyImage k ((s.secu.slots.getD (2 * k + i) []).take x.total)
      ∃ u, exec (.mbUpdateEnd c host t) s = .next u ∧ (mbSigned b = true → u.secu.update = none ∧ u.secu.slots = s.secu.slots ∧
        (s.ownerOk x.signer = false → u.mbEnded c 0x1C01) ∧
        (s.ownerOk x.signer = true → r.1 ≠ 0 → r.1 < 65536 → u.mbEnded c r.1 ∧ u.secu.boots = s.secu.boots) ∧
        (s.ownerOk x.signer = true → r.1 = 0 → s.pwr.measured = false ∨ (s.storeOk 2 = true ∧ s.secu.boots.length = 2) →
          u.mbEnded c 0 ∧ u.flag 0x1C0010 2 = true ∧ u.boot.kinds = s.boot.kinds.set k { slot := i, trial := true, tries := 0 }))) ∧
    (s.mbAsks c host 0x33 (fun n => n == 4) ownerSigner b →
      ∃ u, exec (.mbActivate c host t) s = .next u ∧ (mbSigned b = true →
        (w 0 = 1 → u.mbEnded c 0 ∧ u.mgt.restarting = true ∧ u.flag Reg.mgtMgStatus 24 = false) ∧
        (w 0 = 2 → u.mbEnded c 0 ∧ u.mgt.cpxRun = false ∧ u.mgt.cpxRestart = some (max s.now t)) ∧
        (w 0 = 3 → u.mbEnded c 0) ∧ (w 0 = 0 ∨ 3 < w 0 → u.mbEnded c 1 ∧ u.mgt = s.mgt))) ∧
    (s.mbAsks c host 0x34 (fun n => n == 8) ownerSigner b → 1 ≤ w 0 → w 0 ≤ 3 → w 4 = 0 →
        s.pwr.measured = false ∨ (s.storeOk 2 = true ∧ s.secu.boots.length = 2) →
      ∃ u, exec (.mbCommit c host t) s = .next u ∧ (mbSigned b = true → u.mbEnded c 0 ∧ u.secu.arb = s.secu.arb ∧
        u.boot.kinds = s.boot.kinds.set (w 0 - 1) { s.boot.kind (w 0 - 1) with trial := false }))

/-- Signed requests attest, give the identity, load and clear keys, enrol and revoke owners, and move the lifecycle (R473, R474, R482,
R483, R486, R488, R489, R490). For a request that passes the checks of its envelope and its signer, and whose signature verifies: ATTEST
and IDENTITY answer with the report and the certificates; KEY_LOAD puts a decrypted key into its slot with the next generation; KEY_CLEAR
clears it; OWNER_ENROL and OWNER_REVOKE set their slot; LIFECYCLE moves on, and RETURNED destroys the identity key and clears every key;
TEST_UNLOCK outside MANUFACTURE unlocks, opens the chains behind the test port and clears every key where its certificate holds. -/
def Obligations.MailboxIdentity : Prop :=
  ∀ (s : State) (c t : Nat) (host b : List Byte),
    let p := mbParams b
    let w := fun i => leNat (slice p i 4)
    (s.mbAsks c host 0x35 (fun n => n == 32) ownerSigner b →
      (s.secu.identityOk = true →
        let r := ((s.at t).attestObj ((s.at t).attestBody p)).1
        ∃ u, exec (.mbAttest c host t) s = .next u ∧ (mbSigned b = true → r.length ≤ s.fld (Reg.mgtMbRlen c) 15 0 → u.mbEnded c 0 ∧
          u.rd (Reg.secStat 4) = (s.rd (Reg.secStat 4) + 1) % 2 ^ 32 ∧ (c = 1 → .hostWrite (s.mbAddr 1) r ∈ u.out))) ∧
      (s.secu.identityOk = false → ∃ u, exec (.mbAttest c host t) s = .next u ∧ (mbSigned b = true → u.mbEnded c 5))) ∧
    (s.mbAsks c host 0x36 (fun n => n == 0) ownerSigner b → s.secu.identityOk = true → s.certs.length ≤ s.fld (Reg.mgtMbRlen c) 15 0 →
      ∃ u, exec (.mbIdentity c host t) s = .next u ∧ (mbSigned b = true → u.mbEnded c 0 ∧
        (c = 1 → .hostWrite (s.mbAddr 1) s.certs ∈ u.out))) ∧
    (let k := leNat (slice p 0 1)
      let i := leNat (slice p 1 1)
      let old := (s.sess k).keys.getD i KeySlot.reset
      let gen := (s.fld (Reg.secKeygen k) (8 * i + 7) (8 * i) + 1) % 256
      k ≤ 63 → i ≤ 1 → s.domOn 14 = true →
      (s.mbAsks c host 0x37 (fun n => n == 124) ownerSigner b → (∀ x ∈ slice p 2 2 ++ slice p 121 3, x = 0) →
          s.secu.identityOk = true → s.secu.kat.all id = true →
        ∃ u, exec (.mbKeyLoad c host t) s = .next u ∧ (mbSigned b = true →
          (sm2Decrypt s.secu.idKey (slice p 8 113) = none → u.mbEnded c 0x1C06 ∧ u.ing = s.ing) ∧
          ∀ key, sm2Decrypt s.secu.idKey (slice p 8 113) = some key → u.mbEnded c 0 ∧
            u.ing.sessions = s.ing.sessions.set k { s.sess k with
              newestSlot := i,
              keys := (s.sess k).keys.set i { loaded := true, gen := gen, salt := slice p 4 4,
                                              key := key } } ∧
            u.fld (Reg.secKeygen k) (8 * i + 7) (8 * i) = gen ∧ u.flag 0x1C0010 4 = true ∧ u.flag 0x30010 7 = true)) ∧
      (s.mbAsks c host 0x38 (fun n => n == 4) ownerSigner b →
        ∃ u, exec (.mbKeyClear c host t) s = .next u ∧ (mbSigned b = true → u.mbEnded c 0 ∧ u.flag 0x30010 7 = true ∧
          u.ing.sessions = s.ing.sessions.set k { s.sess k with keys := (s.sess k).keys.set i { KeySlot.reset with gen := old.gen } }))) ∧
    (s.mbAsks c host 0x39 (fun n => n == 68) enrolSigner b → w 0 ≤ 3 → (s.owner (w 0)).enrolled = false → s.storeOk 2 = true →
      ∃ u, exec (.mbOwnerEnrol c host t) s = .next u ∧ (mbSigned b = true → u.mbEnded c 0 ∧
        u.secu.owners = s.secu.owners.set (w 0) { digest := sm3 (slice p 4 64), enrolled := true, revoked := false })) ∧
    (s.mbAsks c host 0x3A (fun n => n == 4) revokeSigner b → w 0 ≤ 3 → (s.owner (w 0)).enrolled = true → s.storeOk 2 = true →
        (∃ j, j < 4 ∧ j ≠ w 0 ∧ (s.owner j).enrolled = true ∧ (s.owner j).revoked = false) →
      ∃ u, exec (.mbOwnerRevoke c host t) s = .next u ∧ (mbSigned b = true → u.mbEnded c 0 ∧
        u.secu.owners = s.secu.owners.set (w 0) { s.owner (w 0) with revoked := true })) ∧
    (s.mbAsks c host 0x3B (fun n => n == 4) ownerSigner b → w 0 ≤ 2 →
      (s.secu.lifecycle < w 0 → (w 0 = 1 → (s.owner 0).enrolled = true) → s.storeOk 2 = true →
        ∃ u, exec (.mbLifecycle c host t) s = .next u ∧ (mbSigned b = true → u.mbEnded c 0 ∧ u.secu.lifecycle = w 0 ∧
          (w 0 = 2 → u.secu.identityOk = false ∧ u.secu.idKey = 0 ∧ ∀ k i, k < 64 → i < 2 → ((u.sess k).keys.getD i KeySlot.reset).loaded = false))) ∧
      (w 0 ≤ s.secu.lifecycle →
        ∃ u, exec (.mbLifecycle c host t) s = .next u ∧ (mbSigned b = true → u.mbEnded c 0xF ∧ u.secu.lifecycle = s.secu.lifecycle))) ∧
    (s.mbAsks c host 0x3C (fun n => n == 288) unlockSigner b → ∀ o, parseObj p = some o →
      ∃ u, exec (.mbTestUnlock c host t) s = .next u ∧ (mbSigned b = true →
        (s.secu.lifecycle = 0 → u.mbEnded c 0xF ∧ u.secu.unlocked = s.secu.unlocked) ∧
        (s.secu.lifecycle = 1 → s.certCode o 2 = 0 → u.mbEnded c 0 ∧ u.secu.unlocked = true ∧ u.jtagAccepts .chains = true ∧
          ∀ k i, k < 64 → i < 2 → ((u.sess k).keys.getD i KeySlot.reset).loaded = false) ∧
        (s.secu.lifecycle = 1 → s.certCode o 2 ≠ 0 → u.mbEnded c (s.certCode o 2) ∧ u.secu.unlocked = s.secu.unlocked)))

/-- Supplies, regulators, domains, the hold-up bank and throttling move at their events (R33, R447, R449, R450, R451, R457, R458, R460,
R461, R462). A regulator that answers good is on and the next is switched on; one that does not answer within three tries, or reports a
fault, is reported and its domains stay off; while Marigold restarts or its master does not run nothing goes on. A domain that comes up
has its units FENCED, fused ones FAILED. The tile input below WARN braces, below FAIL stops the device, and goes back to normal after its
time above. A loss of the NOC is an ordered stop. A round stores its readings. Grace and hold times move the level; SENS_CLR forgets
broken sensors and external inputs. A hold-up measurement ends with its capacity, or 0 on a timeout. -/
def Obligations.PowerAndTemperature : Prop :=
  ∀ (s : State) (t : Nat),
    (∀ k i feeds, s.pwr.regNext = some k → s.regOrder[k]? = some i → s.pwr.regAt + s.fld (Reg.pwrReg i) 23 16 * ms ≤ max s.now t →
      let next := if k + 1 < s.regOrder.length then some (k + 1) else none
      ∀ sent status,
        let good := sent < 3 ∧ (s.flag (Reg.pwrReg i) 8 = false ∨ (pmbAnswered status = true ∧ statusGood status.word = true))
        (s.pmbusOn = true → good →
          ∃ u, exec (.regulatorOn ⟨sent, status⟩ feeds t) s = .next u ∧ u.pwr.regs = s.pwr.regs.set i true ∧ u.pwr.dead = s.pwr.dead ∧
            u.pwr.regNext = next ∧ s.wordsBut u [Reg.pwrStat 3]) ∧
        (s.pmbusOn = true → ¬good →
          ∃ u, exec (.regulatorOn ⟨sent, status⟩ feeds t) s = .next u ∧ u.pwr.regs = s.pwr.regs.set i false ∧ u.pwr.dead = s.pwr.dead ++ feeds ∧
            u.pwr.regNext = next ∧ u.flag 0x190010 4 = true ∧
            (3 ≤ sent → u.rd (Reg.pwrStat 3) = (s.rd (Reg.pwrStat 3) + 3) % 2 ^ 32)) ∧
        (s.pmbusOn = false → ∃ u, exec (.regulatorOn ⟨sent, status⟩ feeds t) s = .next u ∧ u.pwr = s.pwr ∧ u.regs = s.regs)) ∧
    (∀ d, d < 35 → s.pwr.ups.contains d = true →
      ∃ u, exec (.domainUp d t) s = .next u ∧ u.domOn d = true ∧ u.pwr.ups = s.pwr.ups.filter (fun x => x != d) ∧
        ∀ n ∈ domUnits d, u.unitState n = if s.svc.fused.contains n then 4 else 2) ∧
    (∀ v, s.supState = 0 → v < s.fld Reg.pwrSupCfg 11 0 → s.fld Reg.pwrSupCfg 23 12 ≤ v →
      ∃ u, exec (.pwrBrace v t) s = .next u ∧ u.supState = 1 ∧ u.flag 0x190010 0 = true ∧ u.pwr.stop = s.pwr.stop ∧
        u.rd (Reg.pwrStat 0) = (s.rd (Reg.pwrStat 0) + 1) % 2 ^ 32) ∧
    (∀ x, s.supState = 1 → s.pwr.above = some x → x + s.fld Reg.pwrSupTime 7 0 * ms ≤ max s.now t →
      ∃ u, exec (.pwrNormal t) s = .next u ∧ u.supState = 0 ∧ u.flag 0x190010 1 = true ∧ u.pwr = s.pwr) ∧
    (∀ v, s.supState < 2 → v < s.fld Reg.pwrSupCfg 23 12 →
      ∃ u, exec (.pwrFail v t) s = .next u ∧ u.supState = 2 ∧ u.flag 0x190010 2 = true ∧ u.pwr.stop = true ∧
        u.rd (Reg.pwrStat 1) = (s.rd (Reg.pwrStat 1) + 1) % 2 ^ 32 ∧
        (s.panel = 0 → s.pwr.stop = false → u.dram = [] ∧ u.mgt.running = false ∧ ∀ d ∈ startOrder, u.domOn d = false)) ∧
    (s.domOn 3 = true → ∃ u, exec (.nocDomainLost t) s = .next u ∧ u.pwr.stop = true) ∧
    (∀ r : Round,
      ∃ u, exec (.housekeepingRound r t) s = .next u ∧ u.rd Reg.thmRounds = (s.rd Reg.thmRounds + 1) % 2 ^ 32 ∧
        u.fld Reg.pwrSupStat 27 16 = r.sup % 4096 ∧ u.fld Reg.pwrHoldV 15 0 = r.hold % 65536 ∧
        (s.flag Reg.thmCtrl 0 = false → ∀ n, n < 56 → s.sensOn n = true → s.thm.broken.getD n false = false →
          u.fld (Reg.thmCh n) 15 0 = toBits 16 (r.sens.getD n 0) ∧ u.flag (Reg.thmCh n) 16 = true)) ∧
    (∀ e, s.thm.grace = some e → e ≤ max s.now t → s.enforced < s.thmAsked →
      ∃ u, exec (.throttleGraceExpire t) s = .next u ∧ u.enforced = s.thmAsked ∧ u.thm = { s.thm with grace := none } ∧
        u.flag Reg.thmReq 16 = false ∧ u.flag 0x1A0010 1 = true) ∧
    (∀ e, s.thm.below = some e → e + s.fld Reg.thmGrace 31 16 * sec ≤ max s.now t → s.thmAsked ≠ 0 →
      ∃ u, exec (.throttleHoldExpire t) s = .next u ∧ u.thmAsked = s.thmAsked - 1 ∧
        (s.thmAsked - 1 < s.enforced → u.enforced = s.thmAsked - 1)) ∧
    (∀ (who : Requester) (data : Word), s.accepts who Reg.thmSensClr (putBits data.toNat 0 0 1) →
      ∃ u, exec (.thmSensClr who data) s = .next u ∧ u.rd Reg.thmBroken0 = 0 ∧ u.rd Reg.thmBroken1 = 0 ∧ u.rd Reg.thmExtBroken = 0 ∧
        (∀ n, u.thm.broken.getD n false = false ∧ u.thm.off.getD n 0 = 0 ∧ u.thm.extBad.getD n false = false) ∧
        s.wordsBut u [Reg.thmSensClr, Reg.thmBroken0, Reg.thmBroken1, Reg.thmExtBroken]) ∧
    (s.pwr.step = 4 → s.pwr.measured = false → s.pwr.test = none →
      ∃ u, exec (.holdupMeasure t) s = .next u ∧ u.pwr = { s.pwr with test := some (max s.now t, s.fld Reg.pwrHoldV 15 0), load := true } ∧
        .pin "HOLD_LOAD_EN" 0 true ∈ u.out) ∧
    ∀ x v, s.pwr.test = some (x, v) →
      (max s.now t ≤ x + s.fld Reg.pwrHoldTest 31 24 * 10 * ms →
        ∃ u, exec (.pwrHoldMeasured t) s = .next u ∧ u.pwr = { s.pwr with test := none, load := false, measured := true } ∧
          u.rd Reg.pwrHoldCap =
            min (s.fld Reg.pwrHoldTest 11 0 * (max s.now t - x) * 1000 / (max 1 (s.fld Reg.pwrHoldTest 23 16) * sec)) 65535 ∧
          u.flag 0x190010 5 = true ∧ .pin "HOLD_LOAD_EN" 0 false ∈ u.out) ∧
      (x + s.fld Reg.pwrHoldTest 31 24 * 10 * ms < max s.now t →
        ∃ u, exec (.holdupMeasureTimeout t) s = .next u ∧ u.pwr = { s.pwr with test := none, load := false, measured := true } ∧
          u.rd Reg.pwrHoldCap = 0 ∧ u.flag 0x190010 3 = true ∧ .pin "HOLD_LOAD_EN" 0 false ∈ u.out)

/-- Units are fenced, drained, tested and returned, and the log keeps every staged entry in order (R48, R493, R494, R496, R505,
R506, R508). A FENCE of an ACTIVE unit makes it FENCING, through whichever register it comes; UNFENCE of a FENCED unit and TEST
start its test; a channel that replays takes its FENCE up later. A drained unit is FENCED, but a drive that may not store its metadata;
while Marigold restarts a drive, a test at shut-down and the log wait. A passed test leads to ACTIVE or FENCED
by its kind, a failed one to FAILED, and both are recorded. LOG_APPEND moves all staged entries to flash in order where the
store may start. A full stage loses its oldest INFO entry, or the new one. -/
def Obligations.UnitsAndLog : Prop :=
  ∀ (s : State),
    (∀ (who : Requester) (port : FencePort) (n : Nat), n < 171 →
      (match port with
        | .page i => i < 0x400 ∧ (pageOf (i * 0x1000)).bind (fun q => q.unit) = some n
        | .unit i => i = n
        | .cluster i => i = n ∧ n < 64
        | .chain i => i < 36 ∧ n = 133 + i) →
      (s.accepts who (fenceAddr port) (fenceWord 0 port) → s.unitState n = 0 → (119 ≤ n → n < 131 → s.issues (n - 119) = true) →
        ∃ u, exec (.unitFence who port) s = .next u ∧ u.unitState n = 1 ∧ u.rd (Reg.svcStat 0) = (s.rd (Reg.svcStat 0) + 1) % 2 ^ 32) ∧
      (s.accepts who (fenceAddr port) (fenceWord 1 port) → s.unitState n = 2 →
        ∃ u, exec (.unitUnfence who port) s = .next u ∧ u.unitState n = 3 ∧ u.svc = { s.svc with tests := s.svc.tests ++ [(n, 1)] } ∧
          u.rd (Reg.svcStat 1) = (s.rd (Reg.svcStat 1) + 1) % 2 ^ 32) ∧
      (s.accepts who (fenceAddr port) (fenceWord 2 port) →
        ∃ u, exec (.unitTest who port) s = .next u ∧ u.unitState n = 3 ∧ u.svc = { s.svc with tests := s.svc.tests ++ [(n, 0)] })) ∧
    (∀ n t, n < 171 → s.unitState n = 1 → s.drained n = true → (131 ≤ n → n < 133 → s.mgt.restarting = false) →
      ∃ u, exec (.fencingDrained n t) s = .next u ∧
        u.unitState n = if 131 ≤ n ∧ n < 133 ∧ (s.drive (n - 131)).ready = true ∧ s.storeOk 3 = false then 0 else 2) ∧
    (∀ n res millis t k, s.testOf n = some k → s.unitState n = 3 → res ≤ 5 → res ≠ 4 → k ≠ 5 → (k = 1 → n < 119 ∨ 133 ≤ n) → (k = 4 → s.mgt.restarting = false) →
        n ∉ s.svc.bist →
      ∃ u, exec (.svcTestDone n res millis t) s = .next u ∧ u.rd Reg.svcBistLast = n + res * 256 + min millis 65535 * 65536 ∧
        u.fld (Reg.svcUnit n) 15 8 = res ∧ u.flag 0x1D0010 1 = true ∧ u.rd (Reg.svcStat 2) = (s.rd (Reg.svcStat 2) + 1) % 2 ^ 32 ∧
        (res ≠ 0 → u.unitState n = 4 ∧ u.flag 0x1D0010 0 = true ∧ u.rd (Reg.svcStat 3) = (s.rd (Reg.svcStat 3) + 1) % 2 ^ 32) ∧
        (res = 0 → (k = 0 ∨ k = 4 → u.unitState n = 2) ∧
          (k = 1 ∨ (k = 2 ∨ k = 3) ∧ (n < 119 ∨ 133 ≤ n) → u.unitState n = 0) ∧
          ((k = 2 ∨ k = 3) ∧ 119 ≤ n ∧ n < 131 → u.unitState n = 2) ∧ (k = 3 ∧ 131 ≤ n ∧ n < 133 → u.unitState n = 5))) ∧
    (∀ t, s.log.staged ≠ [] →
      (s.storeOk 0 = true →
        ∃ u, exec (.logAppend t) s = .next u ∧ u.log.staged = [] ∧ u.log.nextSeq = s.log.nextSeq + s.log.staged.length ∧
          u.rd (Reg.svcStat 4) = (s.rd (Reg.svcStat 4) + 1) % 2 ^ 32 ∧
          (u.log.flash.drop (u.log.flash.length - min s.log.staged.length 682)).map (fun e => (e.1, e.2.1)) =
            ((s.log.staged.zipIdx s.log.nextSeq).drop (s.log.staged.length - min s.log.staged.length 682)).map (fun e => (e.2, e.1)) ∧
          (∀ e, s.log.staged = [e] → u.log.chain = sm3 (digestBytes s.headChain ++ e.bytes s.log.nextSeq))) ∧
      (s.mgt.restarting = true → ∃ u, exec (.logAppend t) s = .next u ∧ u.log = s.log ∧ u.regs = s.regs) ∧
      (s.mgt.restarting = false → s.storeOk 0 = false →
        ∃ u, exec (.logAppend t) s = .next u ∧ u.log = s.log ∧ u.rd (Reg.svcStat 5) = (s.rd (Reg.svcStat 5) + 1) % 2 ^ 32 ∧
          u.rd (Reg.pwrStat 2) = (s.rd (Reg.pwrStat 2) + 1) % 2 ^ 32)) ∧
    ∀ source event severity data t, 256 ≤ s.log.staged.length →
      let e := LogEntry.mk (s.at t).device s.ras.frame source event severity 0 (data.take 32)
      ∃ u, exec (.svcLogLost source event severity data t) s = .next u ∧ u.flag 0x1D0010 2 = true ∧
        u.fld Reg.svcLogStaged 31 16 = min (s.fld Reg.svcLogStaged 31 16 + 1) 65535 ∧
        u.log = { s.log with staged := match s.log.staged.findIdx? (fun x => x.severity == 0) with
          | some i => s.log.staged.eraseIdx i ++ [e]
          | none => s.log.staged }

/-- The device boots, recovers, starts up step by step, shuts down in order and is reset whole (R461, R479, R480, R481, R491, R498, R501,
R515, R519, R520). After reset the arbiter grants to path A, or to B where its force pin alone is asserted (R16, R374), and the boot ROM
boots the image that verifies, or waits in recovery, where words written are verified as an image. A known-answer test runs and leaves its
results. Each step of start-up leads to the next once its condition holds. A shut-down that is asked for before step 2 has ended begins
then. A shut-down takes the panel down, tests the units, switches every domain off, then the board regulators, each after its OFF_DELAY,
and ends with SHDN_DONE. A reset of the whole device keeps what lies in OTP, flash, drives and modules, and nothing else; HEP_PERST_N
touches the endpoint's lanes alone. -/
def Obligations.StartAndShutdown : Prop :=
  ∀ (s : State) (t : Nat),
    (∀ kat testMode, s.pwr.step = 0 → s.mgt.running = false → s.secu.recovery = false → s.pwr.stop = false → s.pwr.shdn = 0 →
        s.pwr.porst = false → kat.length = 4 →
      let x : State := { s.at t with secu := { s.secu with kat := kat, testMode := testMode }, pwr := { s.pwr with step := 1 } }
      ∃ u, exec (.resetRelease kat testMode t) s = .next u ∧ u.secu.kat = kat ∧
        u.fov.holder = (if s.fov.force.getD 1 false = true ∧ s.fov.force.getD 0 false = false then 1 else s.fov.holder) ∧
        (testMode = true → s.secu.lifecycle ≠ 0 → u.mgt.running = false ∧ u.secu.recovery = false ∧ u.pwr.step = 1) ∧
        (testMode = false ∨ s.secu.lifecycle = 0 →
          ((kat.take 3).all id = false → u.secu.recovery = true ∧ u.mgt.running = false ∧ u.domOn 31 = true) ∧
          ((kat.take 3).all id = true →
            (∀ c, (x.trialStart 0).bootImage 0 = (none, c) → u.secu.recovery = true ∧ u.mgt.running = false) ∧
            ∀ i fb c, (x.trialStart 0).bootImage 0 = (some (i, fb), c) → u.mgt.running = true ∧ u.secu.recovery = false ∧ u.pwr.step = 2 ∧
              u.flag Reg.mgtMgStatus 24 = true ∧
              u.secu.images = s.secu.images.set 0 (some { rollback := i.rollback, digest := sm3 i.body })))) ∧
    (∀ (who : Requester) (data : Word),
      (s.accepts who Reg.secRcvCtrl (putBits data.toNat 0 0 1) →
        let rcv := if bitOf data.toNat 1 then [] else s.secu.rcv
        ∃ u, exec (.recoveryGo who data) s = .next u ∧ u.flag Reg.secRcvCtrl 0 = false ∧
          (∀ c i, s.verifyImage 0 (wordBytes rcv.reverse) = (c, some i) → u.secu.recovery = false ∧ u.secu.recovered = true ∧
            u.mgt.running = true ∧ 2 ≤ u.pwr.step ∧ u.fld Reg.secRcvCtrl 31 16 = 0) ∧
          (∀ c, s.verifyImage 0 (wordBytes rcv.reverse) = (c, none) → u.secu = { s.secu with rcv := rcv } ∧ u.mgt = s.mgt ∧
            u.fld Reg.secRcvCtrl 31 16 = c % 65536)) ∧
      (s.accepts who Reg.secRcvCtrl (putBits data.toNat 1 1 1) → bitOf data.toNat 0 = false →
        ∃ u, exec (.rcvResetPtr who data) s = .next u ∧ u.secu = { s.secu with rcv := [] }) ∧
      (s.accepts who Reg.secRcvData data.toNat →
        ∃ u, exec (.secRcvData who data) s = .next u ∧ u.mgt = s.mgt ∧
          u.secu = if s.secu.recovery = true then { s.secu with rcv := data.toNat :: s.secu.rcv } else s.secu) ∧
      (s.accepts who Reg.secKatCtrl (putBits data.toNat 0 0 1) →
        ∃ u, exec (.secKatGo who data) s = .next u ∧ u.flag Reg.secKatCtrl 0 = true ∧ u.secu = s.secu ∧ s.wordsBut u [Reg.secKatCtrl])) ∧
    (∀ kat, s.flag Reg.secKatCtrl 0 = true → kat.length = 4 →
      ∃ u, exec (.secKatDone kat t) s = .next u ∧ u.flag Reg.secKatCtrl 0 = false ∧ u.secu = { s.secu with kat := kat } ∧
        (kat.all id = false → u.flag 0x1C0010 6 = true)) ∧
    (s.mgt.running = true → s.mgt.restarting = false → s.pwr.stop = false → s.pwr.shdn = 0 →
      (s.pwr.low = true → ∃ u, exec (.startUp t) s = .next u ∧ u.pwr = { s.pwr with shdn := 1, shdnAt := max s.now t }) ∧
      (s.pwr.low = false → ∃ u, exec (.startUp t) s = .next u ∧
        (s.pwr.step = 2 → u.pwr.step = 4) ∧
        (s.pwr.step = 4 → s.pwr.regNext = none → s.pwr.measured = true → u.pwr.step = 5 ∧
          ∀ d ∈ 3 :: startOrder, d ∉ s.pwr.dead → s.domOn d = false → d ∈ u.pwr.ups) ∧
        (s.pwr.step = 5 → s.pwr.ups = [] → u.pwr.step = 6) ∧
        (s.pwr.step = 6 → (∀ x ∈ s.svc.tests, x.2 ≠ 2 ∧ x.2 ≠ 3) → u.pwr.step = 7) ∧
        (s.pwr.step = 7 → (∀ x ∈ s.svc.tests, x.2 ≠ 5) → u.pwr.step = 8))) ∧
    (2 ≤ s.pwr.step → s.pwr.shdn = 0 → s.pwr.stop = false → s.mgt.running = true →
      ∃ u, exec (.shdnReq t) s = .next u ∧ u.pwr = { s.pwr with shdn := 1, shdnAt := max s.now t, low := true }) ∧
    (s.pwr.step < 2 → ∃ u, exec (.shdnReq t) s = .next u ∧ u.pwr = { s.pwr with low := true } ∧ u.bkl = s.bkl) ∧
    (s.pwr.stop = false → s.mgt.restarting = false →
      (s.pwr.shdn = 1 → s.panel = 3 → (∀ f, s.bkl.fade = some f → f.stop ≤ max s.now t) →
        ∃ u, exec (.shutdownBist t) s = .next u ∧ u.pwr = { s.pwr with shdn := 2 } ∧ u.panel = 4) ∧
      (s.pwr.shdn = 2 → s.panel = 0 →
        ∃ u, exec (.shutdownBist t) s = .next u ∧ u.pwr.shdn = 3 ∧ u.mgt = { s.mgt with cpxRun := false, cpxRestart := none } ∧
          ∀ p, p < 4 → u.nvs.plays.getD p none = none) ∧
      (s.pwr.shdn = 3 → s.svc.bist = [] → (s.flag Reg.svcCtrl 0 = true → s.svc.tests = []) →
        ∃ u, exec (.shutdownComplete t) s = .next u ∧ (∀ d ∈ startOrder, u.domOn d = false) ∧
          ((∀ i ∈ s.regOrder, s.fld (Reg.pwrReg i) 31 24 = 0) → u.pwr.shdn = 4 ∧ u.pwr.done = true ∧ .pin "SHDN_DONE" 0 true ∈ u.out) ∧
          (∀ i l, s.regOrder.reverse = i :: l → s.fld (Reg.pwrReg i) 31 24 ≠ 0 → u.pwr.shdn = 5 ∧ u.pwr.offs = i :: l ∧ u.pwr.regAt = max s.now t)) ∧
      ∀ i l, s.pwr.shdn = 5 → s.pwr.offs = i :: l →
        let due := s.pwr.regAt + s.fld (Reg.pwrReg i) 31 24 * ms
        (max s.now t < due → ∃ u, exec (.shutdownComplete t) s = .next u ∧ u.pwr = s.pwr) ∧
        (due ≤ max s.now t → l = [] → ∃ u, exec (.shutdownComplete t) s = .next u ∧ u.pwr.shdn = 4 ∧ u.pwr.done = true ∧
          u.pwr.regs = s.pwr.regs.set i false ∧ .pin "SHDN_DONE" 0 true ∈ u.out)) ∧
    ((∃ u, exec (.corePowerOnReset t) s = .next u ∧ s.WholeReset u t) ∧
      (s.panel = 0 → ∃ u, exec (.porstAssert t) s = .next u ∧ s.WholeReset u t) ∧
      (s.panel ≠ 0 → ∃ u, exec (.porstAssert t) s = .next u ∧ u.pwr.porst = true ∧ u.panel = 5) ∧
      (∀ x, s.pwr.above = some x → s.pwr.shdn = 4 → ∃ u, exec (.shdnReqNRelease t) s = .next u ∧
        ({ s with pwr := { s.pwr with low := false } } : State).WholeReset u t) ∧
      (∀ x, s.pwr.above = some x → s.pwr.stop = true → s.pwr.hot = false → s.mgt.running = false → s.panel = 0 →
          x + s.fld Reg.pwrSupTime 23 8 * ms ≤ max s.now t →
        ∃ u, exec (.restartAfterStop t) s = .next u ∧ s.WholeReset u t)) ∧
    (s.domOn 31 = true →
      ∃ u, exec (.hepPerstN t) s = .next u ∧ (∀ i, i < 4 → u.laneState (76 + i) = 0) ∧ u.dram = s.dram ∧
        ∀ n, n < 84 → n < 76 ∨ 80 ≤ n → u.laneState n = s.laneState n ∧ u.lane n = s.lane n)

/-- After reset the block holds the values that the spec gives (R12, R68, R79, R446, R467, R469, R491, R493, R508, R515). Right
after reset the panel is OFF, the two always-on domains alone are on, no unit is ACTIVE, the frame counter is 0 and line 0
begins, path die A holds the grant, and the words listed read as their tables say. Values that the spec does not give are not
listed (log entry 3). -/
def Obligations.ResetValues : Prop :=
  State.reset.panel = 0 ∧ (∀ d, d < 35 → (State.reset.domOn d = true ↔ d < 2)) ∧ (∀ n, n < 171 → State.reset.unitState n = 5) ∧
  State.reset.ras.frame = 0 ∧ State.reset.ras.line = 0 ∧ State.reset.fov.holder = 0 ∧ State.reset.mgt.running = false ∧
  State.reset.log.staged = [] ∧ State.reset.shadow = [] ∧
  (∀ q ∈ [(Reg.devIntcMaskLo, 0xFFFFFFFF), (Reg.devIntcMaskHi, 0xFFFFFFFF), (Reg.mgtCpxCtrl, 0x03E80000), (Reg.pwrDomStat0, 3),
      (Reg.pwrSupCfg, 0x143FC438), (Reg.pwrHoldReserve, 0x1388), (Reg.svcCtrl, 0x301), (Reg.thmRounds, 0), (Reg.secSelftest, 0)],
    State.reset.rd q.1 = q.2)
end

