-- ==== Sys2Proof/Laws/Bits.lean ====
section
/-! SUPPORT. The laws of bit fields: replacing a field, reading it back, and reading the bits beside it. -/

namespace Sys2Proof.Machine

theorem bitsOf_testBit (w hi lo i : Nat) : (bitsOf w hi lo).testBit i = (decide (i < hi - lo + 1) && w.testBit (i + lo)) := by
  simp [bitsOf, Nat.testBit_mod_two_pow, Nat.testBit_div_two_pow]

/-- A word with a field replaced, as three pieces. -/
theorem putBits_eq (w hi lo v : Nat) :
    putBits w hi lo v = 2 ^ lo * (2 ^ (hi - lo + 1) * (w / 2 ^ lo / 2 ^ (hi - lo + 1)) + v % 2 ^ (hi - lo + 1)) + w % 2 ^ lo := by
  have e1 := Nat.div_add_mod w (2 ^ lo)
  have e2 := Nat.div_add_mod (w / 2 ^ lo) (2 ^ (hi - lo + 1))
  unfold putBits bitsOf
  generalize w / 2 ^ lo / 2 ^ (hi - lo + 1) = c at *
  generalize w / 2 ^ lo % 2 ^ (hi - lo + 1) = b at *
  generalize w % 2 ^ lo = r at *
  generalize v % 2 ^ (hi - lo + 1) = u at *
  rw [← e1, ← e2]
  have : 2 ^ lo * (2 ^ (hi - lo + 1) * c + b) + r = 2 ^ lo * (2 ^ (hi - lo + 1) * c) + r + b * 2 ^ lo := by ring
  rw [this, Nat.add_sub_cancel]
  ring

theorem putBits_testBit (w hi lo v i : Nat) (h : lo ≤ hi) :
    (putBits w hi lo v).testBit i = if lo ≤ i ∧ i ≤ hi then v.testBit (i - lo) else w.testBit i := by
  rw [putBits_eq w hi lo v, Nat.testBit_two_pow_mul_add _ (Nat.mod_lt _ (Nat.two_pow_pos lo))]
  by_cases h1 : i < lo
  · have : ¬ (lo ≤ i ∧ i ≤ hi) := by omega
    simp [h1, this, Nat.testBit_mod_two_pow]
  · rw [if_neg h1, Nat.testBit_two_pow_mul_add _ (Nat.mod_lt _ (Nat.two_pow_pos _))]
    by_cases h2 : i ≤ hi
    · have a : i - lo < hi - lo + 1 := by omega
      have b : lo ≤ i ∧ i ≤ hi := by omega
      simp [a, b, Nat.testBit_mod_two_pow]
    · have a : ¬ i - lo < hi - lo + 1 := by omega
      have b : ¬ (lo ≤ i ∧ i ≤ hi) := by omega
      have c : hi - lo + 1 + (lo + (i - lo - (hi - lo + 1))) = i + 0 := by omega
      rw [if_neg a, if_neg b, Nat.testBit_div_two_pow, Nat.testBit_div_two_pow]
      congr 1
      omega

/-- A field just replaced reads as what was put there. -/
theorem bitsOf_putBits_same (w hi lo v : Nat) (h : lo ≤ hi) : bitsOf (putBits w hi lo v) hi lo = v % 2 ^ (hi - lo + 1) := by
  apply Nat.eq_of_testBit_eq
  intro i
  rw [bitsOf_testBit, putBits_testBit _ _ _ _ _ h, Nat.testBit_mod_two_pow]
  by_cases a : i < hi - lo + 1
  · have b : lo ≤ i + lo ∧ i + lo ≤ hi := by omega
    simp [a, b]
  · simp [a]

/-- A field beside the one replaced keeps its value. -/
theorem bitsOf_putBits_other (w hi lo v hi' lo' : Nat) (h : lo ≤ hi) (hl : lo' ≤ hi') (g : hi' < lo ∨ hi < lo') :
    bitsOf (putBits w hi lo v) hi' lo' = bitsOf w hi' lo' := by
  apply Nat.eq_of_testBit_eq
  intro i
  rw [bitsOf_testBit, bitsOf_testBit, putBits_testBit _ _ _ _ _ h]
  by_cases a : i < hi' - lo' + 1
  · have b : ¬ (lo ≤ i + lo' ∧ i + lo' ≤ hi) := by omega
    simp [a, b]
  · simp [a]

theorem putBits_lt (w hi lo v : Nat) (h : lo ≤ hi) (hi32 : hi < 32) (hw : w < 2 ^ 32) : putBits w hi lo v < 2 ^ 32 := by
  apply Nat.lt_pow_two_of_testBit
  intro i hi'
  rw [putBits_testBit _ _ _ _ _ h, if_neg (by omega)]
  exact Nat.testBit_lt_two_pow (lt_of_lt_of_le hw (Nat.pow_le_pow_right (by decide) hi'))

/-- A flag is the least bit of a field of one bit. -/
theorem bitOf_eq (w i : Nat) : bitOf w i = (bitsOf w i i == 1) := by simp [bitOf, bitsOf]

theorem bitOf_testBit (w i : Nat) : bitOf w i = w.testBit i := by
  rw [Bool.eq_iff_iff]; simp [bitOf, Nat.testBit_eq_decide_div_mod_eq]

end Sys2Proof.Machine
end

