-- ==== Sys2Proof/Laws/Sparse.lean ====
section
/-! SUPPORT. The laws of the sparse map: a read after a write, other keys untouched, the canonical form kept. -/

namespace Sys2Proof.Machine

variable {α : Type} {d : Nat → α}

theorem Sparse.get_filter_same (m : Sparse α) (k : Nat) : Sparse.get d (m.filter (fun e => e.1 != k)) k = d k := by
  induction m with
  | nil => rfl
  | cons e m ih =>
    by_cases h : e.1 = k
    · simpa [h] using ih
    · simpa [h, Sparse.get, Ne.symm h] using ih

theorem Sparse.get_filter_ne (m : Sparse α) {k j : Nat} (h : j ≠ k) :
    Sparse.get d (m.filter (fun e => e.1 != k)) j = Sparse.get d m j := by
  induction m with
  | nil => rfl
  | cons e m ih =>
    by_cases hk : e.1 = k
    · have hj : ¬ j = e.1 := by omega
      simpa [hk, Sparse.get, hj, h] using ih
    · by_cases hj : j = e.1 <;> simp_all [Sparse.get]

theorem Sparse.get_put_same (m : Sparse α) (k : Nat) (v : α) (h : ∀ e ∈ m, e.1 ≠ k) : Sparse.get d (Sparse.put m k v) k = v := by
  induction m with
  | nil => simp [Sparse.put, Sparse.get]
  | cons e m ih =>
    have hk : ¬ k = e.1 := fun x => h e (by simp) x.symm
    have ih' := ih (fun e' he => h e' (by simp [he]))
    by_cases hlt : k < e.1 <;> simp [Sparse.put, Sparse.get, hlt, hk, ih']

theorem Sparse.get_put_ne (m : Sparse α) {k j : Nat} (v : α) (h : j ≠ k) : Sparse.get d (Sparse.put m k v) j = Sparse.get d m j := by
  induction m with
  | nil => simp [Sparse.put, Sparse.get, h]
  | cons e m ih => by_cases hlt : k < e.1 <;> simp [Sparse.put, Sparse.get, hlt, h, ih]

/-- A read of the key just written gives the value written. -/
@[simp] theorem Sparse.get_set_same [DecidableEq α] (m : Sparse α) (k : Nat) (v : α) : Sparse.get d (Sparse.set d m k v) k = v := by
  unfold Sparse.set
  split
  · rename_i h; rw [h]; exact Sparse.get_filter_same m k
  · exact Sparse.get_put_same _ k v (by simp)

/-- A write leaves every other key alone. -/
@[simp] theorem Sparse.get_set_ne [DecidableEq α] (m : Sparse α) {k j : Nat} (v : α) (h : j ≠ k) :
    Sparse.get d (Sparse.set d m k v) j = Sparse.get d m j := by
  unfold Sparse.set
  split
  · exact Sparse.get_filter_ne m h
  · rw [Sparse.get_put_ne _ v h, Sparse.get_filter_ne m h]

theorem Sparse.wfFrom_mono [DecidableEq α] {m : Sparse α} {lo lo' : Nat} (h : lo' ≤ lo) (w : Sparse.wfFrom d lo m = true) :
    Sparse.wfFrom d lo' m = true := by
  cases m with
  | nil => rfl
  | cons e m => simp only [Sparse.wfFrom, Bool.and_eq_true, decide_eq_true_eq] at *; exact ⟨⟨by omega, w.1.2⟩, w.2⟩

theorem Sparse.wfFrom_filter [DecidableEq α] (p : Nat × α → Bool) {m : Sparse α} {lo : Nat} (w : Sparse.wfFrom d lo m = true) :
    Sparse.wfFrom d lo (m.filter p) = true := by
  induction m generalizing lo with
  | nil => rfl
  | cons e m ih =>
    simp only [Sparse.wfFrom, Bool.and_eq_true] at w
    have w2 := ih w.2
    by_cases hp : p e = true
    · simp only [List.filter_cons, hp, if_true, Sparse.wfFrom, Bool.and_eq_true]; exact ⟨w.1, w2⟩
    · simp only [List.filter_cons, hp]
      refine Sparse.wfFrom_mono ?_ w2
      have := w.1.1
      simp only [decide_eq_true_eq] at this
      omega

theorem Sparse.wfFrom_put [DecidableEq α] {m : Sparse α} {lo k : Nat} {v : α} (w : Sparse.wfFrom d lo m = true) (hlo : lo ≤ k)
    (hv : v ≠ d k) (hk : ∀ e ∈ m, e.1 ≠ k) : Sparse.wfFrom d lo (Sparse.put m k v) = true := by
  induction m generalizing lo with
  | nil => simp [Sparse.put, Sparse.wfFrom, hlo, hv]
  | cons e m ih =>
    have he : e.1 ≠ k := hk e (by simp)
    simp only [Sparse.wfFrom, Bool.and_eq_true, decide_eq_true_eq, Bool.not_eq_true', decide_eq_false_iff_not] at w
    by_cases hlt : k < e.1
    · simp only [Sparse.put, hlt, if_true, Sparse.wfFrom, Bool.and_eq_true, decide_eq_true_eq, Bool.not_eq_true',
        decide_eq_false_iff_not]
      exact ⟨⟨hlo, hv⟩, ⟨hlt, w.1.2⟩, w.2⟩
    · have := ih w.2 (by omega) (fun e' h' => hk e' (by simp [h']))
      simp only [Sparse.put, hlt, if_false, Sparse.wfFrom, Bool.and_eq_true, decide_eq_true_eq, Bool.not_eq_true',
        decide_eq_false_iff_not]
      exact ⟨w.1, this⟩

/-- A write keeps the canonical form. -/
theorem Sparse.wf_set [DecidableEq α] {m : Sparse α} (w : Sparse.wf d m = true) (k : Nat) (v : α) :
    Sparse.wf d (Sparse.set d m k v) = true := by
  unfold Sparse.set Sparse.wf
  split
  · exact Sparse.wfFrom_filter _ w
  · rename_i h; exact Sparse.wfFrom_put (Sparse.wfFrom_filter _ w) (Nat.zero_le k) h (by simp)

/-- Dropping keys keeps the canonical form. -/
theorem Sparse.wf_filter [DecidableEq α] (p : Nat × α → Bool) {m : Sparse α} (w : Sparse.wf d m = true) :
    Sparse.wf d (m.filter p) = true := Sparse.wfFrom_filter p w

end Sys2Proof.Machine
end

