-- ==== Sys2Proof/Laws/State.lean ====
section
/-! SUPPORT. One lemma per field of the state and update, registers after a write, and the end of every command. -/

namespace Sys2Proof.Machine

@[simp] theorem State.wr_pending (s : State) (a v : Nat) : (s.wr a v).pending = s.pending := rfl
@[simp] theorem State.wr_shadow (s : State) (a v : Nat) : (s.wr a v).shadow = s.shadow := rfl
@[simp] theorem State.wr_now (s : State) (a v : Nat) : (s.wr a v).now = s.now := rfl
@[simp] theorem State.wr_msixMask (s : State) (a v : Nat) : (s.wr a v).msixMask = s.msixMask := rfl
@[simp] theorem State.wr_calNext (s : State) (a v : Nat) : (s.wr a v).calNext = s.calNext := rfl
@[simp] theorem State.wr_msixPend (s : State) (a v : Nat) : (s.wr a v).msixPend = s.msixPend := rfl
@[simp] theorem State.wr_mgtIrq (s : State) (a v : Nat) : (s.wr a v).mgtIrq = s.mgtIrq := rfl
@[simp] theorem State.wr_msiSent (s : State) (a v : Nat) : (s.wr a v).msiSent = s.msiSent := rfl
@[simp] theorem State.wr_ras (s : State) (a v : Nat) : (s.wr a v).ras = s.ras := rfl
@[simp] theorem State.wr_crv (s : State) (a v : Nat) : (s.wr a v).crv = s.crv := rfl
@[simp] theorem State.wr_log (s : State) (a v : Nat) : (s.wr a v).log = s.log := rfl
@[simp] theorem State.wr_scn (s : State) (a v : Nat) : (s.wr a v).scn = s.scn := rfl
@[simp] theorem State.wr_ing (s : State) (a v : Nat) : (s.wr a v).ing = s.ing := rfl
@[simp] theorem State.wr_mbc (s : State) (a v : Nat) : (s.wr a v).mbc = s.mbc := rfl
@[simp] theorem State.wr_syn (s : State) (a v : Nat) : (s.wr a v).syn = s.syn := rfl
@[simp] theorem State.wr_clusters (s : State) (a v : Nat) : (s.wr a v).clusters = s.clusters := rfl
@[simp] theorem State.wr_plc (s : State) (a v : Nat) : (s.wr a v).plc = s.plc := rfl
@[simp] theorem State.wr_brc (s : State) (a v : Nat) : (s.wr a v).brc = s.brc := rfl
@[simp] theorem State.wr_lyr (s : State) (a v : Nat) : (s.wr a v).lyr = s.lyr := rfl
@[simp] theorem State.wr_pnl (s : State) (a v : Nat) : (s.wr a v).pnl = s.pnl := rfl
@[simp] theorem State.wr_bkl (s : State) (a v : Nat) : (s.wr a v).bkl = s.bkl := rfl
@[simp] theorem State.wr_blt (s : State) (a v : Nat) : (s.wr a v).blt = s.blt := rfl
@[simp] theorem State.wr_dram (s : State) (a v : Nat) : (s.wr a v).dram = s.dram := rfl
@[simp] theorem State.wr_dimms (s : State) (a v : Nat) : (s.wr a v).dimms = s.dimms := rfl
@[simp] theorem State.wr_timBase (s : State) (a v : Nat) : (s.wr a v).timBase = s.timBase := rfl
@[simp] theorem State.wr_timAnchor (s : State) (a v : Nat) : (s.wr a v).timAnchor = s.timAnchor := rfl
@[simp] theorem State.wr_timRate (s : State) (a v : Nat) : (s.wr a v).timRate = s.timRate := rfl
@[simp] theorem State.wr_tim (s : State) (a v : Nat) : (s.wr a v).tim = s.tim := rfl
@[simp] theorem State.wr_net (s : State) (a v : Nat) : (s.wr a v).net = s.net := rfl
@[simp] theorem State.wr_fov (s : State) (a v : Nat) : (s.wr a v).fov = s.fov := rfl
@[simp] theorem State.wr_cal (s : State) (a v : Nat) : (s.wr a v).cal = s.cal := rfl
@[simp] theorem State.wr_dmc (s : State) (a v : Nat) : (s.wr a v).dmc = s.dmc := rfl
@[simp] theorem State.wr_nvs (s : State) (a v : Nat) : (s.wr a v).nvs = s.nvs := rfl
@[simp] theorem State.wr_lanes (s : State) (a v : Nat) : (s.wr a v).lanes = s.lanes := rfl
@[simp] theorem State.wr_mgt (s : State) (a v : Nat) : (s.wr a v).mgt = s.mgt := rfl
@[simp] theorem State.wr_pwr (s : State) (a v : Nat) : (s.wr a v).pwr = s.pwr := rfl
@[simp] theorem State.wr_thm (s : State) (a v : Nat) : (s.wr a v).thm = s.thm := rfl
@[simp] theorem State.wr_secu (s : State) (a v : Nat) : (s.wr a v).secu = s.secu := rfl
@[simp] theorem State.wr_svc (s : State) (a v : Nat) : (s.wr a v).svc = s.svc := rfl
@[simp] theorem State.wr_poison (s : State) (a v : Nat) : (s.wr a v).poison = s.poison := rfl
@[simp] theorem State.wr_out (s : State) (a v : Nat) : (s.wr a v).out = s.out := rfl
@[simp] theorem State.wr_free (s : State) (a v : Nat) : (s.wr a v).free = s.free := rfl

@[simp] theorem State.wrShadow_pending (s : State) (a v : Nat) : (s.wrShadow a v).pending = s.pending := rfl
@[simp] theorem State.wrShadow_regs (s : State) (a v : Nat) : (s.wrShadow a v).regs = s.regs := rfl
@[simp] theorem State.wrShadow_now (s : State) (a v : Nat) : (s.wrShadow a v).now = s.now := rfl
@[simp] theorem State.wrShadow_msixMask (s : State) (a v : Nat) : (s.wrShadow a v).msixMask = s.msixMask := rfl
@[simp] theorem State.wrShadow_calNext (s : State) (a v : Nat) : (s.wrShadow a v).calNext = s.calNext := rfl
@[simp] theorem State.wrShadow_msixPend (s : State) (a v : Nat) : (s.wrShadow a v).msixPend = s.msixPend := rfl
@[simp] theorem State.wrShadow_mgtIrq (s : State) (a v : Nat) : (s.wrShadow a v).mgtIrq = s.mgtIrq := rfl
@[simp] theorem State.wrShadow_msiSent (s : State) (a v : Nat) : (s.wrShadow a v).msiSent = s.msiSent := rfl
@[simp] theorem State.wrShadow_ras (s : State) (a v : Nat) : (s.wrShadow a v).ras = s.ras := rfl
@[simp] theorem State.wrShadow_crv (s : State) (a v : Nat) : (s.wrShadow a v).crv = s.crv := rfl
@[simp] theorem State.wrShadow_log (s : State) (a v : Nat) : (s.wrShadow a v).log = s.log := rfl
@[simp] theorem State.wrShadow_scn (s : State) (a v : Nat) : (s.wrShadow a v).scn = s.scn := rfl
@[simp] theorem State.wrShadow_ing (s : State) (a v : Nat) : (s.wrShadow a v).ing = s.ing := rfl
@[simp] theorem State.wrShadow_mbc (s : State) (a v : Nat) : (s.wrShadow a v).mbc = s.mbc := rfl
@[simp] theorem State.wrShadow_syn (s : State) (a v : Nat) : (s.wrShadow a v).syn = s.syn := rfl
@[simp] theorem State.wrShadow_clusters (s : State) (a v : Nat) : (s.wrShadow a v).clusters = s.clusters := rfl
@[simp] theorem State.wrShadow_plc (s : State) (a v : Nat) : (s.wrShadow a v).plc = s.plc := rfl
@[simp] theorem State.wrShadow_brc (s : State) (a v : Nat) : (s.wrShadow a v).brc = s.brc := rfl
@[simp] theorem State.wrShadow_lyr (s : State) (a v : Nat) : (s.wrShadow a v).lyr = s.lyr := rfl
@[simp] theorem State.wrShadow_pnl (s : State) (a v : Nat) : (s.wrShadow a v).pnl = s.pnl := rfl
@[simp] theorem State.wrShadow_bkl (s : State) (a v : Nat) : (s.wrShadow a v).bkl = s.bkl := rfl
@[simp] theorem State.wrShadow_blt (s : State) (a v : Nat) : (s.wrShadow a v).blt = s.blt := rfl
@[simp] theorem State.wrShadow_dram (s : State) (a v : Nat) : (s.wrShadow a v).dram = s.dram := rfl
@[simp] theorem State.wrShadow_dimms (s : State) (a v : Nat) : (s.wrShadow a v).dimms = s.dimms := rfl
@[simp] theorem State.wrShadow_timBase (s : State) (a v : Nat) : (s.wrShadow a v).timBase = s.timBase := rfl
@[simp] theorem State.wrShadow_timAnchor (s : State) (a v : Nat) : (s.wrShadow a v).timAnchor = s.timAnchor := rfl
@[simp] theorem State.wrShadow_timRate (s : State) (a v : Nat) : (s.wrShadow a v).timRate = s.timRate := rfl
@[simp] theorem State.wrShadow_tim (s : State) (a v : Nat) : (s.wrShadow a v).tim = s.tim := rfl
@[simp] theorem State.wrShadow_net (s : State) (a v : Nat) : (s.wrShadow a v).net = s.net := rfl
@[simp] theorem State.wrShadow_fov (s : State) (a v : Nat) : (s.wrShadow a v).fov = s.fov := rfl
@[simp] theorem State.wrShadow_cal (s : State) (a v : Nat) : (s.wrShadow a v).cal = s.cal := rfl
@[simp] theorem State.wrShadow_dmc (s : State) (a v : Nat) : (s.wrShadow a v).dmc = s.dmc := rfl
@[simp] theorem State.wrShadow_nvs (s : State) (a v : Nat) : (s.wrShadow a v).nvs = s.nvs := rfl
@[simp] theorem State.wrShadow_lanes (s : State) (a v : Nat) : (s.wrShadow a v).lanes = s.lanes := rfl
@[simp] theorem State.wrShadow_mgt (s : State) (a v : Nat) : (s.wrShadow a v).mgt = s.mgt := rfl
@[simp] theorem State.wrShadow_pwr (s : State) (a v : Nat) : (s.wrShadow a v).pwr = s.pwr := rfl
@[simp] theorem State.wrShadow_thm (s : State) (a v : Nat) : (s.wrShadow a v).thm = s.thm := rfl
@[simp] theorem State.wrShadow_secu (s : State) (a v : Nat) : (s.wrShadow a v).secu = s.secu := rfl
@[simp] theorem State.wrShadow_svc (s : State) (a v : Nat) : (s.wrShadow a v).svc = s.svc := rfl
@[simp] theorem State.wrShadow_poison (s : State) (a v : Nat) : (s.wrShadow a v).poison = s.poison := rfl
@[simp] theorem State.wrShadow_out (s : State) (a v : Nat) : (s.wrShadow a v).out = s.out := rfl
@[simp] theorem State.wrShadow_free (s : State) (a v : Nat) : (s.wrShadow a v).free = s.free := rfl

@[simp] theorem State.setFld_pending (s : State) (a hi lo v : Nat) : (s.setFld a hi lo v).pending = s.pending := rfl
@[simp] theorem State.setFld_shadow (s : State) (a hi lo v : Nat) : (s.setFld a hi lo v).shadow = s.shadow := rfl
@[simp] theorem State.setFld_now (s : State) (a hi lo v : Nat) : (s.setFld a hi lo v).now = s.now := rfl
@[simp] theorem State.setFld_msixMask (s : State) (a hi lo v : Nat) : (s.setFld a hi lo v).msixMask = s.msixMask := rfl
@[simp] theorem State.setFld_calNext (s : State) (a hi lo v : Nat) : (s.setFld a hi lo v).calNext = s.calNext := rfl
@[simp] theorem State.setFld_msixPend (s : State) (a hi lo v : Nat) : (s.setFld a hi lo v).msixPend = s.msixPend := rfl
@[simp] theorem State.setFld_mgtIrq (s : State) (a hi lo v : Nat) : (s.setFld a hi lo v).mgtIrq = s.mgtIrq := rfl
@[simp] theorem State.setFld_msiSent (s : State) (a hi lo v : Nat) : (s.setFld a hi lo v).msiSent = s.msiSent := rfl
@[simp] theorem State.setFld_ras (s : State) (a hi lo v : Nat) : (s.setFld a hi lo v).ras = s.ras := rfl
@[simp] theorem State.setFld_crv (s : State) (a hi lo v : Nat) : (s.setFld a hi lo v).crv = s.crv := rfl
@[simp] theorem State.setFld_log (s : State) (a hi lo v : Nat) : (s.setFld a hi lo v).log = s.log := rfl
@[simp] theorem State.setFld_scn (s : State) (a hi lo v : Nat) : (s.setFld a hi lo v).scn = s.scn := rfl
@[simp] theorem State.setFld_ing (s : State) (a hi lo v : Nat) : (s.setFld a hi lo v).ing = s.ing := rfl
@[simp] theorem State.setFld_mbc (s : State) (a hi lo v : Nat) : (s.setFld a hi lo v).mbc = s.mbc := rfl
@[simp] theorem State.setFld_syn (s : State) (a hi lo v : Nat) : (s.setFld a hi lo v).syn = s.syn := rfl
@[simp] theorem State.setFld_clusters (s : State) (a hi lo v : Nat) : (s.setFld a hi lo v).clusters = s.clusters := rfl
@[simp] theorem State.setFld_plc (s : State) (a hi lo v : Nat) : (s.setFld a hi lo v).plc = s.plc := rfl
@[simp] theorem State.setFld_brc (s : State) (a hi lo v : Nat) : (s.setFld a hi lo v).brc = s.brc := rfl
@[simp] theorem State.setFld_lyr (s : State) (a hi lo v : Nat) : (s.setFld a hi lo v).lyr = s.lyr := rfl
@[simp] theorem State.setFld_pnl (s : State) (a hi lo v : Nat) : (s.setFld a hi lo v).pnl = s.pnl := rfl
@[simp] theorem State.setFld_bkl (s : State) (a hi lo v : Nat) : (s.setFld a hi lo v).bkl = s.bkl := rfl
@[simp] theorem State.setFld_blt (s : State) (a hi lo v : Nat) : (s.setFld a hi lo v).blt = s.blt := rfl
@[simp] theorem State.setFld_dram (s : State) (a hi lo v : Nat) : (s.setFld a hi lo v).dram = s.dram := rfl
@[simp] theorem State.setFld_dimms (s : State) (a hi lo v : Nat) : (s.setFld a hi lo v).dimms = s.dimms := rfl
@[simp] theorem State.setFld_timBase (s : State) (a hi lo v : Nat) : (s.setFld a hi lo v).timBase = s.timBase := rfl
@[simp] theorem State.setFld_timAnchor (s : State) (a hi lo v : Nat) : (s.setFld a hi lo v).timAnchor = s.timAnchor := rfl
@[simp] theorem State.setFld_timRate (s : State) (a hi lo v : Nat) : (s.setFld a hi lo v).timRate = s.timRate := rfl
@[simp] theorem State.setFld_tim (s : State) (a hi lo v : Nat) : (s.setFld a hi lo v).tim = s.tim := rfl
@[simp] theorem State.setFld_net (s : State) (a hi lo v : Nat) : (s.setFld a hi lo v).net = s.net := rfl
@[simp] theorem State.setFld_fov (s : State) (a hi lo v : Nat) : (s.setFld a hi lo v).fov = s.fov := rfl
@[simp] theorem State.setFld_cal (s : State) (a hi lo v : Nat) : (s.setFld a hi lo v).cal = s.cal := rfl
@[simp] theorem State.setFld_dmc (s : State) (a hi lo v : Nat) : (s.setFld a hi lo v).dmc = s.dmc := rfl
@[simp] theorem State.setFld_nvs (s : State) (a hi lo v : Nat) : (s.setFld a hi lo v).nvs = s.nvs := rfl
@[simp] theorem State.setFld_lanes (s : State) (a hi lo v : Nat) : (s.setFld a hi lo v).lanes = s.lanes := rfl
@[simp] theorem State.setFld_mgt (s : State) (a hi lo v : Nat) : (s.setFld a hi lo v).mgt = s.mgt := rfl
@[simp] theorem State.setFld_pwr (s : State) (a hi lo v : Nat) : (s.setFld a hi lo v).pwr = s.pwr := rfl
@[simp] theorem State.setFld_thm (s : State) (a hi lo v : Nat) : (s.setFld a hi lo v).thm = s.thm := rfl
@[simp] theorem State.setFld_secu (s : State) (a hi lo v : Nat) : (s.setFld a hi lo v).secu = s.secu := rfl
@[simp] theorem State.setFld_svc (s : State) (a hi lo v : Nat) : (s.setFld a hi lo v).svc = s.svc := rfl
@[simp] theorem State.setFld_poison (s : State) (a hi lo v : Nat) : (s.setFld a hi lo v).poison = s.poison := rfl
@[simp] theorem State.setFld_out (s : State) (a hi lo v : Nat) : (s.setFld a hi lo v).out = s.out := rfl
@[simp] theorem State.setFld_free (s : State) (a hi lo v : Nat) : (s.setFld a hi lo v).free = s.free := rfl

@[simp] theorem State.setFlag_pending (s : State) (a i : Nat) (b : Bool) : (s.setFlag a i b).pending = s.pending := rfl
@[simp] theorem State.setFlag_shadow (s : State) (a i : Nat) (b : Bool) : (s.setFlag a i b).shadow = s.shadow := rfl
@[simp] theorem State.setFlag_now (s : State) (a i : Nat) (b : Bool) : (s.setFlag a i b).now = s.now := rfl
@[simp] theorem State.setFlag_msixMask (s : State) (a i : Nat) (b : Bool) : (s.setFlag a i b).msixMask = s.msixMask := rfl
@[simp] theorem State.setFlag_calNext (s : State) (a i : Nat) (b : Bool) : (s.setFlag a i b).calNext = s.calNext := rfl
@[simp] theorem State.setFlag_msixPend (s : State) (a i : Nat) (b : Bool) : (s.setFlag a i b).msixPend = s.msixPend := rfl
@[simp] theorem State.setFlag_mgtIrq (s : State) (a i : Nat) (b : Bool) : (s.setFlag a i b).mgtIrq = s.mgtIrq := rfl
@[simp] theorem State.setFlag_msiSent (s : State) (a i : Nat) (b : Bool) : (s.setFlag a i b).msiSent = s.msiSent := rfl
@[simp] theorem State.setFlag_ras (s : State) (a i : Nat) (b : Bool) : (s.setFlag a i b).ras = s.ras := rfl
@[simp] theorem State.setFlag_crv (s : State) (a i : Nat) (b : Bool) : (s.setFlag a i b).crv = s.crv := rfl
@[simp] theorem State.setFlag_log (s : State) (a i : Nat) (b : Bool) : (s.setFlag a i b).log = s.log := rfl
@[simp] theorem State.setFlag_scn (s : State) (a i : Nat) (b : Bool) : (s.setFlag a i b).scn = s.scn := rfl
@[simp] theorem State.setFlag_ing (s : State) (a i : Nat) (b : Bool) : (s.setFlag a i b).ing = s.ing := rfl
@[simp] theorem State.setFlag_mbc (s : State) (a i : Nat) (b : Bool) : (s.setFlag a i b).mbc = s.mbc := rfl
@[simp] theorem State.setFlag_syn (s : State) (a i : Nat) (b : Bool) : (s.setFlag a i b).syn = s.syn := rfl
@[simp] theorem State.setFlag_clusters (s : State) (a i : Nat) (b : Bool) : (s.setFlag a i b).clusters = s.clusters := rfl
@[simp] theorem State.setFlag_plc (s : State) (a i : Nat) (b : Bool) : (s.setFlag a i b).plc = s.plc := rfl
@[simp] theorem State.setFlag_brc (s : State) (a i : Nat) (b : Bool) : (s.setFlag a i b).brc = s.brc := rfl
@[simp] theorem State.setFlag_lyr (s : State) (a i : Nat) (b : Bool) : (s.setFlag a i b).lyr = s.lyr := rfl
@[simp] theorem State.setFlag_pnl (s : State) (a i : Nat) (b : Bool) : (s.setFlag a i b).pnl = s.pnl := rfl
@[simp] theorem State.setFlag_bkl (s : State) (a i : Nat) (b : Bool) : (s.setFlag a i b).bkl = s.bkl := rfl
@[simp] theorem State.setFlag_blt (s : State) (a i : Nat) (b : Bool) : (s.setFlag a i b).blt = s.blt := rfl
@[simp] theorem State.setFlag_dram (s : State) (a i : Nat) (b : Bool) : (s.setFlag a i b).dram = s.dram := rfl
@[simp] theorem State.setFlag_dimms (s : State) (a i : Nat) (b : Bool) : (s.setFlag a i b).dimms = s.dimms := rfl
@[simp] theorem State.setFlag_timBase (s : State) (a i : Nat) (b : Bool) : (s.setFlag a i b).timBase = s.timBase := rfl
@[simp] theorem State.setFlag_timAnchor (s : State) (a i : Nat) (b : Bool) : (s.setFlag a i b).timAnchor = s.timAnchor := rfl
@[simp] theorem State.setFlag_timRate (s : State) (a i : Nat) (b : Bool) : (s.setFlag a i b).timRate = s.timRate := rfl
@[simp] theorem State.setFlag_tim (s : State) (a i : Nat) (b : Bool) : (s.setFlag a i b).tim = s.tim := rfl
@[simp] theorem State.setFlag_net (s : State) (a i : Nat) (b : Bool) : (s.setFlag a i b).net = s.net := rfl
@[simp] theorem State.setFlag_fov (s : State) (a i : Nat) (b : Bool) : (s.setFlag a i b).fov = s.fov := rfl
@[simp] theorem State.setFlag_cal (s : State) (a i : Nat) (b : Bool) : (s.setFlag a i b).cal = s.cal := rfl
@[simp] theorem State.setFlag_dmc (s : State) (a i : Nat) (b : Bool) : (s.setFlag a i b).dmc = s.dmc := rfl
@[simp] theorem State.setFlag_nvs (s : State) (a i : Nat) (b : Bool) : (s.setFlag a i b).nvs = s.nvs := rfl
@[simp] theorem State.setFlag_lanes (s : State) (a i : Nat) (b : Bool) : (s.setFlag a i b).lanes = s.lanes := rfl
@[simp] theorem State.setFlag_mgt (s : State) (a i : Nat) (b : Bool) : (s.setFlag a i b).mgt = s.mgt := rfl
@[simp] theorem State.setFlag_pwr (s : State) (a i : Nat) (b : Bool) : (s.setFlag a i b).pwr = s.pwr := rfl
@[simp] theorem State.setFlag_thm (s : State) (a i : Nat) (b : Bool) : (s.setFlag a i b).thm = s.thm := rfl
@[simp] theorem State.setFlag_secu (s : State) (a i : Nat) (b : Bool) : (s.setFlag a i b).secu = s.secu := rfl
@[simp] theorem State.setFlag_svc (s : State) (a i : Nat) (b : Bool) : (s.setFlag a i b).svc = s.svc := rfl
@[simp] theorem State.setFlag_poison (s : State) (a i : Nat) (b : Bool) : (s.setFlag a i b).poison = s.poison := rfl
@[simp] theorem State.setFlag_out (s : State) (a i : Nat) (b : Bool) : (s.setFlag a i b).out = s.out := rfl
@[simp] theorem State.setFlag_free (s : State) (a i : Nat) (b : Bool) : (s.setFlag a i b).free = s.free := rfl

@[simp] theorem State.add_pending (s : State) (a n : Nat) : (s.add a n).pending = s.pending := rfl
@[simp] theorem State.add_shadow (s : State) (a n : Nat) : (s.add a n).shadow = s.shadow := rfl
@[simp] theorem State.add_now (s : State) (a n : Nat) : (s.add a n).now = s.now := rfl
@[simp] theorem State.add_msixMask (s : State) (a n : Nat) : (s.add a n).msixMask = s.msixMask := rfl
@[simp] theorem State.add_calNext (s : State) (a n : Nat) : (s.add a n).calNext = s.calNext := rfl
@[simp] theorem State.add_msixPend (s : State) (a n : Nat) : (s.add a n).msixPend = s.msixPend := rfl
@[simp] theorem State.add_mgtIrq (s : State) (a n : Nat) : (s.add a n).mgtIrq = s.mgtIrq := rfl
@[simp] theorem State.add_msiSent (s : State) (a n : Nat) : (s.add a n).msiSent = s.msiSent := rfl
@[simp] theorem State.add_ras (s : State) (a n : Nat) : (s.add a n).ras = s.ras := rfl
@[simp] theorem State.add_crv (s : State) (a n : Nat) : (s.add a n).crv = s.crv := rfl
@[simp] theorem State.add_log (s : State) (a n : Nat) : (s.add a n).log = s.log := rfl
@[simp] theorem State.add_scn (s : State) (a n : Nat) : (s.add a n).scn = s.scn := rfl
@[simp] theorem State.add_ing (s : State) (a n : Nat) : (s.add a n).ing = s.ing := rfl
@[simp] theorem State.add_mbc (s : State) (a n : Nat) : (s.add a n).mbc = s.mbc := rfl
@[simp] theorem State.add_syn (s : State) (a n : Nat) : (s.add a n).syn = s.syn := rfl
@[simp] theorem State.add_clusters (s : State) (a n : Nat) : (s.add a n).clusters = s.clusters := rfl
@[simp] theorem State.add_plc (s : State) (a n : Nat) : (s.add a n).plc = s.plc := rfl
@[simp] theorem State.add_brc (s : State) (a n : Nat) : (s.add a n).brc = s.brc := rfl
@[simp] theorem State.add_lyr (s : State) (a n : Nat) : (s.add a n).lyr = s.lyr := rfl
@[simp] theorem State.add_pnl (s : State) (a n : Nat) : (s.add a n).pnl = s.pnl := rfl
@[simp] theorem State.add_bkl (s : State) (a n : Nat) : (s.add a n).bkl = s.bkl := rfl
@[simp] theorem State.add_blt (s : State) (a n : Nat) : (s.add a n).blt = s.blt := rfl
@[simp] theorem State.add_dram (s : State) (a n : Nat) : (s.add a n).dram = s.dram := rfl
@[simp] theorem State.add_dimms (s : State) (a n : Nat) : (s.add a n).dimms = s.dimms := rfl
@[simp] theorem State.add_timBase (s : State) (a n : Nat) : (s.add a n).timBase = s.timBase := rfl
@[simp] theorem State.add_timAnchor (s : State) (a n : Nat) : (s.add a n).timAnchor = s.timAnchor := rfl
@[simp] theorem State.add_timRate (s : State) (a n : Nat) : (s.add a n).timRate = s.timRate := rfl
@[simp] theorem State.add_tim (s : State) (a n : Nat) : (s.add a n).tim = s.tim := rfl
@[simp] theorem State.add_net (s : State) (a n : Nat) : (s.add a n).net = s.net := rfl
@[simp] theorem State.add_fov (s : State) (a n : Nat) : (s.add a n).fov = s.fov := rfl
@[simp] theorem State.add_cal (s : State) (a n : Nat) : (s.add a n).cal = s.cal := rfl
@[simp] theorem State.add_dmc (s : State) (a n : Nat) : (s.add a n).dmc = s.dmc := rfl
@[simp] theorem State.add_nvs (s : State) (a n : Nat) : (s.add a n).nvs = s.nvs := rfl
@[simp] theorem State.add_lanes (s : State) (a n : Nat) : (s.add a n).lanes = s.lanes := rfl
@[simp] theorem State.add_mgt (s : State) (a n : Nat) : (s.add a n).mgt = s.mgt := rfl
@[simp] theorem State.add_pwr (s : State) (a n : Nat) : (s.add a n).pwr = s.pwr := rfl
@[simp] theorem State.add_thm (s : State) (a n : Nat) : (s.add a n).thm = s.thm := rfl
@[simp] theorem State.add_secu (s : State) (a n : Nat) : (s.add a n).secu = s.secu := rfl
@[simp] theorem State.add_svc (s : State) (a n : Nat) : (s.add a n).svc = s.svc := rfl
@[simp] theorem State.add_poison (s : State) (a n : Nat) : (s.add a n).poison = s.poison := rfl
@[simp] theorem State.add_out (s : State) (a n : Nat) : (s.add a n).out = s.out := rfl
@[simp] theorem State.add_free (s : State) (a n : Nat) : (s.add a n).free = s.free := rfl

@[simp] theorem State.raise_pending (s : State) (b i : Nat) : (s.raise b i).pending = s.pending := rfl
@[simp] theorem State.raise_shadow (s : State) (b i : Nat) : (s.raise b i).shadow = s.shadow := rfl
@[simp] theorem State.raise_now (s : State) (b i : Nat) : (s.raise b i).now = s.now := rfl
@[simp] theorem State.raise_msixMask (s : State) (b i : Nat) : (s.raise b i).msixMask = s.msixMask := rfl
@[simp] theorem State.raise_calNext (s : State) (b i : Nat) : (s.raise b i).calNext = s.calNext := rfl
@[simp] theorem State.raise_msixPend (s : State) (b i : Nat) : (s.raise b i).msixPend = s.msixPend := rfl
@[simp] theorem State.raise_msiSent (s : State) (b i : Nat) : (s.raise b i).msiSent = s.msiSent := rfl
@[simp] theorem State.raise_ras (s : State) (b i : Nat) : (s.raise b i).ras = s.ras := rfl
@[simp] theorem State.raise_crv (s : State) (b i : Nat) : (s.raise b i).crv = s.crv := rfl
@[simp] theorem State.raise_log (s : State) (b i : Nat) : (s.raise b i).log = s.log := rfl
@[simp] theorem State.raise_scn (s : State) (b i : Nat) : (s.raise b i).scn = s.scn := rfl
@[simp] theorem State.raise_ing (s : State) (b i : Nat) : (s.raise b i).ing = s.ing := rfl
@[simp] theorem State.raise_mbc (s : State) (b i : Nat) : (s.raise b i).mbc = s.mbc := rfl
@[simp] theorem State.raise_syn (s : State) (b i : Nat) : (s.raise b i).syn = s.syn := rfl
@[simp] theorem State.raise_clusters (s : State) (b i : Nat) : (s.raise b i).clusters = s.clusters := rfl
@[simp] theorem State.raise_plc (s : State) (b i : Nat) : (s.raise b i).plc = s.plc := rfl
@[simp] theorem State.raise_brc (s : State) (b i : Nat) : (s.raise b i).brc = s.brc := rfl
@[simp] theorem State.raise_lyr (s : State) (b i : Nat) : (s.raise b i).lyr = s.lyr := rfl
@[simp] theorem State.raise_pnl (s : State) (b i : Nat) : (s.raise b i).pnl = s.pnl := rfl
@[simp] theorem State.raise_bkl (s : State) (b i : Nat) : (s.raise b i).bkl = s.bkl := rfl
@[simp] theorem State.raise_blt (s : State) (b i : Nat) : (s.raise b i).blt = s.blt := rfl
@[simp] theorem State.raise_dram (s : State) (b i : Nat) : (s.raise b i).dram = s.dram := rfl
@[simp] theorem State.raise_dimms (s : State) (b i : Nat) : (s.raise b i).dimms = s.dimms := rfl
@[simp] theorem State.raise_timBase (s : State) (b i : Nat) : (s.raise b i).timBase = s.timBase := rfl
@[simp] theorem State.raise_timAnchor (s : State) (b i : Nat) : (s.raise b i).timAnchor = s.timAnchor := rfl
@[simp] theorem State.raise_timRate (s : State) (b i : Nat) : (s.raise b i).timRate = s.timRate := rfl
@[simp] theorem State.raise_tim (s : State) (b i : Nat) : (s.raise b i).tim = s.tim := rfl
@[simp] theorem State.raise_net (s : State) (b i : Nat) : (s.raise b i).net = s.net := rfl
@[simp] theorem State.raise_fov (s : State) (b i : Nat) : (s.raise b i).fov = s.fov := rfl
@[simp] theorem State.raise_cal (s : State) (b i : Nat) : (s.raise b i).cal = s.cal := rfl
@[simp] theorem State.raise_dmc (s : State) (b i : Nat) : (s.raise b i).dmc = s.dmc := rfl
@[simp] theorem State.raise_nvs (s : State) (b i : Nat) : (s.raise b i).nvs = s.nvs := rfl
@[simp] theorem State.raise_lanes (s : State) (b i : Nat) : (s.raise b i).lanes = s.lanes := rfl
@[simp] theorem State.raise_mgt (s : State) (b i : Nat) : (s.raise b i).mgt = s.mgt := rfl
@[simp] theorem State.raise_pwr (s : State) (b i : Nat) : (s.raise b i).pwr = s.pwr := rfl
@[simp] theorem State.raise_thm (s : State) (b i : Nat) : (s.raise b i).thm = s.thm := rfl
@[simp] theorem State.raise_secu (s : State) (b i : Nat) : (s.raise b i).secu = s.secu := rfl
@[simp] theorem State.raise_svc (s : State) (b i : Nat) : (s.raise b i).svc = s.svc := rfl
@[simp] theorem State.raise_poison (s : State) (b i : Nat) : (s.raise b i).poison = s.poison := rfl
@[simp] theorem State.raise_out (s : State) (b i : Nat) : (s.raise b i).out = s.out := rfl
@[simp] theorem State.raise_free (s : State) (b i : Nat) : (s.raise b i).free = s.free := rfl

@[simp] theorem State.at_pending (s : State) (t : Nat) : (s.at t).pending = s.pending := rfl
@[simp] theorem State.at_msixMask (s : State) (t : Nat) : (s.at t).msixMask = s.msixMask := rfl
@[simp] theorem State.at_calNext (s : State) (t : Nat) : (s.at t).calNext = s.calNext := rfl
@[simp] theorem State.at_msixPend (s : State) (t : Nat) : (s.at t).msixPend = s.msixPend := rfl
@[simp] theorem State.at_mgtIrq (s : State) (t : Nat) : (s.at t).mgtIrq = s.mgtIrq := rfl
@[simp] theorem State.at_regs (s : State) (t : Nat) : (s.at t).regs = s.regs := rfl
@[simp] theorem State.at_shadow (s : State) (t : Nat) : (s.at t).shadow = s.shadow := rfl
@[simp] theorem State.at_msiSent (s : State) (t : Nat) : (s.at t).msiSent = s.msiSent := rfl
@[simp] theorem State.at_ras (s : State) (t : Nat) : (s.at t).ras = s.ras := rfl
@[simp] theorem State.at_crv (s : State) (t : Nat) : (s.at t).crv = s.crv := rfl
@[simp] theorem State.at_log (s : State) (t : Nat) : (s.at t).log = s.log := rfl
@[simp] theorem State.at_scn (s : State) (t : Nat) : (s.at t).scn = s.scn := rfl
@[simp] theorem State.at_ing (s : State) (t : Nat) : (s.at t).ing = s.ing := rfl
@[simp] theorem State.at_mbc (s : State) (t : Nat) : (s.at t).mbc = s.mbc := rfl
@[simp] theorem State.at_syn (s : State) (t : Nat) : (s.at t).syn = s.syn := rfl
@[simp] theorem State.at_clusters (s : State) (t : Nat) : (s.at t).clusters = s.clusters := rfl
@[simp] theorem State.at_plc (s : State) (t : Nat) : (s.at t).plc = s.plc := rfl
@[simp] theorem State.at_brc (s : State) (t : Nat) : (s.at t).brc = s.brc := rfl
@[simp] theorem State.at_lyr (s : State) (t : Nat) : (s.at t).lyr = s.lyr := rfl
@[simp] theorem State.at_pnl (s : State) (t : Nat) : (s.at t).pnl = s.pnl := rfl
@[simp] theorem State.at_bkl (s : State) (t : Nat) : (s.at t).bkl = s.bkl := rfl
@[simp] theorem State.at_blt (s : State) (t : Nat) : (s.at t).blt = s.blt := rfl
@[simp] theorem State.at_dram (s : State) (t : Nat) : (s.at t).dram = s.dram := rfl
@[simp] theorem State.at_dimms (s : State) (t : Nat) : (s.at t).dimms = s.dimms := rfl
@[simp] theorem State.at_timBase (s : State) (t : Nat) : (s.at t).timBase = s.timBase := rfl
@[simp] theorem State.at_timAnchor (s : State) (t : Nat) : (s.at t).timAnchor = s.timAnchor := rfl
@[simp] theorem State.at_timRate (s : State) (t : Nat) : (s.at t).timRate = s.timRate := rfl
@[simp] theorem State.at_tim (s : State) (t : Nat) : (s.at t).tim = s.tim := rfl
@[simp] theorem State.at_net (s : State) (t : Nat) : (s.at t).net = s.net := rfl
@[simp] theorem State.at_fov (s : State) (t : Nat) : (s.at t).fov = s.fov := rfl
@[simp] theorem State.at_cal (s : State) (t : Nat) : (s.at t).cal = s.cal := rfl
@[simp] theorem State.at_dmc (s : State) (t : Nat) : (s.at t).dmc = s.dmc := rfl
@[simp] theorem State.at_nvs (s : State) (t : Nat) : (s.at t).nvs = s.nvs := rfl
@[simp] theorem State.at_lanes (s : State) (t : Nat) : (s.at t).lanes = s.lanes := rfl
@[simp] theorem State.at_mgt (s : State) (t : Nat) : (s.at t).mgt = s.mgt := rfl
@[simp] theorem State.at_pwr (s : State) (t : Nat) : (s.at t).pwr = s.pwr := rfl
@[simp] theorem State.at_thm (s : State) (t : Nat) : (s.at t).thm = s.thm := rfl
@[simp] theorem State.at_secu (s : State) (t : Nat) : (s.at t).secu = s.secu := rfl
@[simp] theorem State.at_svc (s : State) (t : Nat) : (s.at t).svc = s.svc := rfl
@[simp] theorem State.at_poison (s : State) (t : Nat) : (s.at t).poison = s.poison := rfl
@[simp] theorem State.at_out (s : State) (t : Nat) : (s.at t).out = s.out := rfl
@[simp] theorem State.at_free (s : State) (t : Nat) : (s.at t).free = s.free := rfl

@[simp] theorem State.emit_pending (s : State) (o : Out) : (s.emit o).pending = s.pending := rfl
@[simp] theorem State.emit_regs (s : State) (o : Out) : (s.emit o).regs = s.regs := rfl
@[simp] theorem State.emit_shadow (s : State) (o : Out) : (s.emit o).shadow = s.shadow := rfl
@[simp] theorem State.emit_now (s : State) (o : Out) : (s.emit o).now = s.now := rfl
@[simp] theorem State.emit_msixMask (s : State) (o : Out) : (s.emit o).msixMask = s.msixMask := rfl
@[simp] theorem State.emit_calNext (s : State) (o : Out) : (s.emit o).calNext = s.calNext := rfl
@[simp] theorem State.emit_msixPend (s : State) (o : Out) : (s.emit o).msixPend = s.msixPend := rfl
@[simp] theorem State.emit_mgtIrq (s : State) (o : Out) : (s.emit o).mgtIrq = s.mgtIrq := rfl
@[simp] theorem State.emit_msiSent (s : State) (o : Out) : (s.emit o).msiSent = s.msiSent := rfl
@[simp] theorem State.emit_ras (s : State) (o : Out) : (s.emit o).ras = s.ras := rfl
@[simp] theorem State.emit_crv (s : State) (o : Out) : (s.emit o).crv = s.crv := rfl
@[simp] theorem State.emit_log (s : State) (o : Out) : (s.emit o).log = s.log := rfl
@[simp] theorem State.emit_scn (s : State) (o : Out) : (s.emit o).scn = s.scn := rfl
@[simp] theorem State.emit_ing (s : State) (o : Out) : (s.emit o).ing = s.ing := rfl
@[simp] theorem State.emit_mbc (s : State) (o : Out) : (s.emit o).mbc = s.mbc := rfl
@[simp] theorem State.emit_syn (s : State) (o : Out) : (s.emit o).syn = s.syn := rfl
@[simp] theorem State.emit_clusters (s : State) (o : Out) : (s.emit o).clusters = s.clusters := rfl
@[simp] theorem State.emit_plc (s : State) (o : Out) : (s.emit o).plc = s.plc := rfl
@[simp] theorem State.emit_brc (s : State) (o : Out) : (s.emit o).brc = s.brc := rfl
@[simp] theorem State.emit_lyr (s : State) (o : Out) : (s.emit o).lyr = s.lyr := rfl
@[simp] theorem State.emit_pnl (s : State) (o : Out) : (s.emit o).pnl = s.pnl := rfl
@[simp] theorem State.emit_bkl (s : State) (o : Out) : (s.emit o).bkl = s.bkl := rfl
@[simp] theorem State.emit_blt (s : State) (o : Out) : (s.emit o).blt = s.blt := rfl
@[simp] theorem State.emit_dram (s : State) (o : Out) : (s.emit o).dram = s.dram := rfl
@[simp] theorem State.emit_dimms (s : State) (o : Out) : (s.emit o).dimms = s.dimms := rfl
@[simp] theorem State.emit_timBase (s : State) (o : Out) : (s.emit o).timBase = s.timBase := rfl
@[simp] theorem State.emit_timAnchor (s : State) (o : Out) : (s.emit o).timAnchor = s.timAnchor := rfl
@[simp] theorem State.emit_timRate (s : State) (o : Out) : (s.emit o).timRate = s.timRate := rfl
@[simp] theorem State.emit_tim (s : State) (o : Out) : (s.emit o).tim = s.tim := rfl
@[simp] theorem State.emit_net (s : State) (o : Out) : (s.emit o).net = s.net := rfl
@[simp] theorem State.emit_fov (s : State) (o : Out) : (s.emit o).fov = s.fov := rfl
@[simp] theorem State.emit_cal (s : State) (o : Out) : (s.emit o).cal = s.cal := rfl
@[simp] theorem State.emit_dmc (s : State) (o : Out) : (s.emit o).dmc = s.dmc := rfl
@[simp] theorem State.emit_nvs (s : State) (o : Out) : (s.emit o).nvs = s.nvs := rfl
@[simp] theorem State.emit_lanes (s : State) (o : Out) : (s.emit o).lanes = s.lanes := rfl
@[simp] theorem State.emit_mgt (s : State) (o : Out) : (s.emit o).mgt = s.mgt := rfl
@[simp] theorem State.emit_pwr (s : State) (o : Out) : (s.emit o).pwr = s.pwr := rfl
@[simp] theorem State.emit_thm (s : State) (o : Out) : (s.emit o).thm = s.thm := rfl
@[simp] theorem State.emit_secu (s : State) (o : Out) : (s.emit o).secu = s.secu := rfl
@[simp] theorem State.emit_svc (s : State) (o : Out) : (s.emit o).svc = s.svc := rfl
@[simp] theorem State.emit_poison (s : State) (o : Out) : (s.emit o).poison = s.poison := rfl
@[simp] theorem State.emit_free (s : State) (o : Out) : (s.emit o).free = s.free := rfl

@[simp] theorem State.withPending_regs (s : State) (q : List Instr) : (s.withPending q).regs = s.regs := rfl
@[simp] theorem State.withPending_shadow (s : State) (q : List Instr) : (s.withPending q).shadow = s.shadow := rfl
@[simp] theorem State.withPending_now (s : State) (q : List Instr) : (s.withPending q).now = s.now := rfl
@[simp] theorem State.withPending_msixMask (s : State) (q : List Instr) : (s.withPending q).msixMask = s.msixMask := rfl
@[simp] theorem State.withPending_calNext (s : State) (q : List Instr) : (s.withPending q).calNext = s.calNext := rfl
@[simp] theorem State.withPending_msixPend (s : State) (q : List Instr) : (s.withPending q).msixPend = s.msixPend := rfl
@[simp] theorem State.withPending_mgtIrq (s : State) (q : List Instr) : (s.withPending q).mgtIrq = s.mgtIrq := rfl
@[simp] theorem State.withPending_msiSent (s : State) (q : List Instr) : (s.withPending q).msiSent = s.msiSent := rfl
@[simp] theorem State.withPending_ras (s : State) (q : List Instr) : (s.withPending q).ras = s.ras := rfl
@[simp] theorem State.withPending_crv (s : State) (q : List Instr) : (s.withPending q).crv = s.crv := rfl
@[simp] theorem State.withPending_log (s : State) (q : List Instr) : (s.withPending q).log = s.log := rfl
@[simp] theorem State.withPending_scn (s : State) (q : List Instr) : (s.withPending q).scn = s.scn := rfl
@[simp] theorem State.withPending_ing (s : State) (q : List Instr) : (s.withPending q).ing = s.ing := rfl
@[simp] theorem State.withPending_mbc (s : State) (q : List Instr) : (s.withPending q).mbc = s.mbc := rfl
@[simp] theorem State.withPending_syn (s : State) (q : List Instr) : (s.withPending q).syn = s.syn := rfl
@[simp] theorem State.withPending_clusters (s : State) (q : List Instr) : (s.withPending q).clusters = s.clusters := rfl
@[simp] theorem State.withPending_plc (s : State) (q : List Instr) : (s.withPending q).plc = s.plc := rfl
@[simp] theorem State.withPending_brc (s : State) (q : List Instr) : (s.withPending q).brc = s.brc := rfl
@[simp] theorem State.withPending_lyr (s : State) (q : List Instr) : (s.withPending q).lyr = s.lyr := rfl
@[simp] theorem State.withPending_pnl (s : State) (q : List Instr) : (s.withPending q).pnl = s.pnl := rfl
@[simp] theorem State.withPending_bkl (s : State) (q : List Instr) : (s.withPending q).bkl = s.bkl := rfl
@[simp] theorem State.withPending_blt (s : State) (q : List Instr) : (s.withPending q).blt = s.blt := rfl
@[simp] theorem State.withPending_dram (s : State) (q : List Instr) : (s.withPending q).dram = s.dram := rfl
@[simp] theorem State.withPending_dimms (s : State) (q : List Instr) : (s.withPending q).dimms = s.dimms := rfl
@[simp] theorem State.withPending_timBase (s : State) (q : List Instr) : (s.withPending q).timBase = s.timBase := rfl
@[simp] theorem State.withPending_timAnchor (s : State) (q : List Instr) : (s.withPending q).timAnchor = s.timAnchor := rfl
@[simp] theorem State.withPending_timRate (s : State) (q : List Instr) : (s.withPending q).timRate = s.timRate := rfl
@[simp] theorem State.withPending_tim (s : State) (q : List Instr) : (s.withPending q).tim = s.tim := rfl
@[simp] theorem State.withPending_net (s : State) (q : List Instr) : (s.withPending q).net = s.net := rfl
@[simp] theorem State.withPending_fov (s : State) (q : List Instr) : (s.withPending q).fov = s.fov := rfl
@[simp] theorem State.withPending_cal (s : State) (q : List Instr) : (s.withPending q).cal = s.cal := rfl
@[simp] theorem State.withPending_dmc (s : State) (q : List Instr) : (s.withPending q).dmc = s.dmc := rfl
@[simp] theorem State.withPending_nvs (s : State) (q : List Instr) : (s.withPending q).nvs = s.nvs := rfl
@[simp] theorem State.withPending_lanes (s : State) (q : List Instr) : (s.withPending q).lanes = s.lanes := rfl
@[simp] theorem State.withPending_mgt (s : State) (q : List Instr) : (s.withPending q).mgt = s.mgt := rfl
@[simp] theorem State.withPending_pwr (s : State) (q : List Instr) : (s.withPending q).pwr = s.pwr := rfl
@[simp] theorem State.withPending_thm (s : State) (q : List Instr) : (s.withPending q).thm = s.thm := rfl
@[simp] theorem State.withPending_secu (s : State) (q : List Instr) : (s.withPending q).secu = s.secu := rfl
@[simp] theorem State.withPending_svc (s : State) (q : List Instr) : (s.withPending q).svc = s.svc := rfl
@[simp] theorem State.withPending_poison (s : State) (q : List Instr) : (s.withPending q).poison = s.poison := rfl
@[simp] theorem State.withPending_out (s : State) (q : List Instr) : (s.withPending q).out = s.out := rfl
@[simp] theorem State.withPending_free (s : State) (q : List Instr) : (s.withPending q).free = s.free := rfl
@[simp] theorem State.withPending_pending (s : State) (q : List Instr) : (s.withPending q).pending = q := rfl
@[simp] theorem State.at_now (s : State) (t : Nat) : (s.at t).now = max s.now t := rfl
@[simp] theorem State.emit_out (s : State) (o : Out) : (s.emit o).out = o :: s.out := rfl
@[simp] theorem State.rd_at (s : State) (t a : Nat) : (s.at t).rd a = s.rd a := rfl
@[simp] theorem State.rd_emit (s : State) (o : Out) (a : Nat) : (s.emit o).rd a = s.rd a := rfl
@[simp] theorem State.rd_withPending (s : State) (q : List Instr) (a : Nat) : (s.withPending q).rd a = s.rd a := rfl
@[simp] theorem State.domOn_at (s : State) (t d : Nat) : (s.at t).domOn d = s.domOn d := rfl
@[simp] theorem State.flag_at (s : State) (t a i : Nat) : (s.at t).flag a i = s.flag a i := rfl
@[simp] theorem State.fld_at (s : State) (t a h l : Nat) : (s.at t).fld a h l = s.fld a h l := rfl

/-! ### Registers after a write -/

theorem State.rd_lt (s : State) (a : Nat) : s.rd a < 2 ^ 32 := (Sparse.get resetWord s.regs a).isLt

/-- A register just written reads as the word written. -/
@[simp] theorem State.rd_wr_same (s : State) (a v : Nat) : (s.wr a v).rd a = v % 2 ^ 32 := by
  simp [State.rd, State.wr, BitVec.toNat_ofNat]

/-- A write leaves every other register alone. -/
@[simp] theorem State.rd_wr_ne (s : State) {a b : Nat} (v : Nat) (h : b ≠ a) : (s.wr a v).rd b = s.rd b := by
  simp [State.rd, State.wr, h]

/-- A write keeps the canonical form of the registers. -/
theorem State.wr_wf (s : State) (a v : Nat) (h : Sparse.wf resetWord s.regs = true) :
    Sparse.wf resetWord (s.wr a v).regs = true := Sparse.wf_set h _ _

@[simp] theorem State.rd_setFld_ne (s : State) {a b : Nat} (hi lo v : Nat) (h : b ≠ a) : (s.setFld a hi lo v).rd b = s.rd b :=
  s.rd_wr_ne _ h

theorem State.rd_setFld_same (s : State) (a hi lo v : Nat) (h : lo ≤ hi) (h32 : hi < 32) :
    (s.setFld a hi lo v).rd a = putBits (s.rd a) hi lo v := by
  rw [State.setFld, s.rd_wr_same, Nat.mod_eq_of_lt (putBits_lt _ _ _ _ h h32 (s.rd_lt a))]

/-- A field just set reads as what was put there. -/
theorem State.fld_setFld_same (s : State) (a hi lo v : Nat) (h : lo ≤ hi) (h32 : hi < 32) :
    (s.setFld a hi lo v).fld a hi lo = v % 2 ^ (hi - lo + 1) := by
  rw [State.fld, s.rd_setFld_same a hi lo v h h32, bitsOf_putBits_same _ _ _ _ h]

/-- Setting a field leaves the fields beside it alone. -/
theorem State.fld_setFld_other (s : State) (a hi lo v hi' lo' : Nat) (h : lo ≤ hi) (h32 : hi < 32) (hl : lo' ≤ hi')
    (g : hi' < lo ∨ hi < lo') : (s.setFld a hi lo v).fld a hi' lo' = s.fld a hi' lo' := by
  rw [State.fld, s.rd_setFld_same a hi lo v h h32, bitsOf_putBits_other _ _ _ _ _ _ h hl g, State.fld]

@[simp] theorem State.fld_setFld_ne (s : State) {a b : Nat} (hi lo v hi' lo' : Nat) (h : b ≠ a) :
    (s.setFld a hi lo v).fld b hi' lo' = s.fld b hi' lo' := by simp [State.fld, h]

@[simp] theorem State.flag_setFld_ne (s : State) {a b : Nat} (hi lo v i : Nat) (h : b ≠ a) :
    (s.setFld a hi lo v).flag b i = s.flag b i := by simp [State.flag, h]

@[simp] theorem State.rd_setFlag_ne (s : State) {a b : Nat} (i : Nat) (x : Bool) (h : b ≠ a) : (s.setFlag a i x).rd b = s.rd b :=
  s.rd_wr_ne _ h

/-- A flag just set or cleared reads so. -/
theorem State.flag_setFlag_same (s : State) (a i : Nat) (x : Bool) (h32 : i < 32) : (s.setFlag a i x).flag a i = x := by
  have := s.fld_setFld_same a i i (if x then 1 else 0) (Nat.le_refl i) h32
  rw [State.flag, bitOf_eq]
  unfold State.setFlag
  unfold State.fld at this
  rw [this]
  cases x <;> simp

/-- Setting a flag leaves the other flags alone. -/
theorem State.flag_setFlag_other (s : State) (a i j : Nat) (x : Bool) (h32 : i < 32) (h : j ≠ i) :
    (s.setFlag a i x).flag a j = s.flag a j := by
  have := s.fld_setFld_other a i i (if x then 1 else 0) j j (Nat.le_refl i) h32 (Nat.le_refl j) (by omega)
  unfold State.fld at this
  rw [State.flag, bitOf_eq, State.flag, bitOf_eq]
  unfold State.setFlag
  rw [this]

@[simp] theorem State.flag_setFlag_ne (s : State) {a b : Nat} (i j : Nat) (x : Bool) (h : b ≠ a) :
    (s.setFlag a i x).flag b j = s.flag b j := by simp [State.flag, h]

@[simp] theorem State.rd_add_ne (s : State) {a b : Nat} (n : Nat) (h : b ≠ a) : (s.add a n).rd b = s.rd b := s.rd_wr_ne _ h

/-- A counter counts modulo 2^32. -/
theorem State.rd_add_same (s : State) (a n : Nat) : (s.add a n).rd a = (s.rd a + n) % 2 ^ 32 := by simp [State.add]

@[simp] theorem State.rd_raise_ne (s : State) {b a : Nat} (i : Nat) (h : a ≠ b + 0x10) : (s.raise b i).rd a = s.rd a :=
  s.rd_wr_ne _ h

/-- An event just raised is set in IRQ_STATUS. -/
theorem State.flag_raise_same (s : State) (b i : Nat) (h : i < 32) : (s.raise b i).flag (b + 0x10) i = true :=
  s.flag_setFlag_same _ _ _ h

/-! ### What Marigold's interrupt controller holds changes nothing else (R76) -/

@[simp] theorem State.tellMarigold_pending (s : State) (b m : Nat) : (s.tellMarigold b m).pending = s.pending := rfl
@[simp] theorem State.tellMarigold_regs (s : State) (b m : Nat) : (s.tellMarigold b m).regs = s.regs := rfl
@[simp] theorem State.tellMarigold_shadow (s : State) (b m : Nat) : (s.tellMarigold b m).shadow = s.shadow := rfl
@[simp] theorem State.tellMarigold_now (s : State) (b m : Nat) : (s.tellMarigold b m).now = s.now := rfl
@[simp] theorem State.tellMarigold_msiSent (s : State) (b m : Nat) : (s.tellMarigold b m).msiSent = s.msiSent := rfl
@[simp] theorem State.tellMarigold_msixMask (s : State) (b m : Nat) : (s.tellMarigold b m).msixMask = s.msixMask := rfl
@[simp] theorem State.tellMarigold_calNext (s : State) (b m : Nat) : (s.tellMarigold b m).calNext = s.calNext := rfl
@[simp] theorem State.tellMarigold_msixPend (s : State) (b m : Nat) : (s.tellMarigold b m).msixPend = s.msixPend := rfl
@[simp] theorem State.tellMarigold_ras (s : State) (b m : Nat) : (s.tellMarigold b m).ras = s.ras := rfl
@[simp] theorem State.tellMarigold_crv (s : State) (b m : Nat) : (s.tellMarigold b m).crv = s.crv := rfl
@[simp] theorem State.tellMarigold_log (s : State) (b m : Nat) : (s.tellMarigold b m).log = s.log := rfl
@[simp] theorem State.tellMarigold_scn (s : State) (b m : Nat) : (s.tellMarigold b m).scn = s.scn := rfl
@[simp] theorem State.tellMarigold_ing (s : State) (b m : Nat) : (s.tellMarigold b m).ing = s.ing := rfl
@[simp] theorem State.tellMarigold_mbc (s : State) (b m : Nat) : (s.tellMarigold b m).mbc = s.mbc := rfl
@[simp] theorem State.tellMarigold_syn (s : State) (b m : Nat) : (s.tellMarigold b m).syn = s.syn := rfl
@[simp] theorem State.tellMarigold_clusters (s : State) (b m : Nat) : (s.tellMarigold b m).clusters = s.clusters := rfl
@[simp] theorem State.tellMarigold_plc (s : State) (b m : Nat) : (s.tellMarigold b m).plc = s.plc := rfl
@[simp] theorem State.tellMarigold_brc (s : State) (b m : Nat) : (s.tellMarigold b m).brc = s.brc := rfl
@[simp] theorem State.tellMarigold_lyr (s : State) (b m : Nat) : (s.tellMarigold b m).lyr = s.lyr := rfl
@[simp] theorem State.tellMarigold_pnl (s : State) (b m : Nat) : (s.tellMarigold b m).pnl = s.pnl := rfl
@[simp] theorem State.tellMarigold_bkl (s : State) (b m : Nat) : (s.tellMarigold b m).bkl = s.bkl := rfl
@[simp] theorem State.tellMarigold_blt (s : State) (b m : Nat) : (s.tellMarigold b m).blt = s.blt := rfl
@[simp] theorem State.tellMarigold_dram (s : State) (b m : Nat) : (s.tellMarigold b m).dram = s.dram := rfl
@[simp] theorem State.tellMarigold_dimms (s : State) (b m : Nat) : (s.tellMarigold b m).dimms = s.dimms := rfl
@[simp] theorem State.tellMarigold_timBase (s : State) (b m : Nat) : (s.tellMarigold b m).timBase = s.timBase := rfl
@[simp] theorem State.tellMarigold_timAnchor (s : State) (b m : Nat) : (s.tellMarigold b m).timAnchor = s.timAnchor := rfl
@[simp] theorem State.tellMarigold_timRate (s : State) (b m : Nat) : (s.tellMarigold b m).timRate = s.timRate := rfl
@[simp] theorem State.tellMarigold_tim (s : State) (b m : Nat) : (s.tellMarigold b m).tim = s.tim := rfl
@[simp] theorem State.tellMarigold_net (s : State) (b m : Nat) : (s.tellMarigold b m).net = s.net := rfl
@[simp] theorem State.tellMarigold_fov (s : State) (b m : Nat) : (s.tellMarigold b m).fov = s.fov := rfl
@[simp] theorem State.tellMarigold_cal (s : State) (b m : Nat) : (s.tellMarigold b m).cal = s.cal := rfl
@[simp] theorem State.tellMarigold_dmc (s : State) (b m : Nat) : (s.tellMarigold b m).dmc = s.dmc := rfl
@[simp] theorem State.tellMarigold_nvs (s : State) (b m : Nat) : (s.tellMarigold b m).nvs = s.nvs := rfl
@[simp] theorem State.tellMarigold_lanes (s : State) (b m : Nat) : (s.tellMarigold b m).lanes = s.lanes := rfl
@[simp] theorem State.tellMarigold_mgt (s : State) (b m : Nat) : (s.tellMarigold b m).mgt = s.mgt := rfl
@[simp] theorem State.tellMarigold_pwr (s : State) (b m : Nat) : (s.tellMarigold b m).pwr = s.pwr := rfl
@[simp] theorem State.tellMarigold_thm (s : State) (b m : Nat) : (s.tellMarigold b m).thm = s.thm := rfl
@[simp] theorem State.tellMarigold_secu (s : State) (b m : Nat) : (s.tellMarigold b m).secu = s.secu := rfl
@[simp] theorem State.tellMarigold_svc (s : State) (b m : Nat) : (s.tellMarigold b m).svc = s.svc := rfl
@[simp] theorem State.tellMarigold_poison (s : State) (b m : Nat) : (s.tellMarigold b m).poison = s.poison := rfl
@[simp] theorem State.tellMarigold_out (s : State) (b m : Nat) : (s.tellMarigold b m).out = s.out := rfl
@[simp] theorem State.tellMarigold_free (s : State) (b m : Nat) : (s.tellMarigold b m).free = s.free := rfl
@[simp] theorem State.tellMarigold_rd (s : State) (b m a : Nat) : (s.tellMarigold b m).rd a = s.rd a := rfl
@[simp] theorem State.tellMarigold_flag (s : State) (b m a i : Nat) : (s.tellMarigold b m).flag a i = s.flag a i := rfl
@[simp] theorem State.tellMarigold_fld (s : State) (b m a hi lo : Nat) : (s.tellMarigold b m).fld a hi lo = s.fld a hi lo := rfl
@[simp] theorem State.tellMarigold_rdShadow (s : State) (b m a : Nat) : (s.tellMarigold b m).rdShadow a = s.rdShadow a := rfl

@[simp] theorem State.marigoldClears_pending (s : State) (b m : Nat) : (s.marigoldClears b m).pending = s.pending := rfl
@[simp] theorem State.marigoldClears_regs (s : State) (b m : Nat) : (s.marigoldClears b m).regs = s.regs := rfl
@[simp] theorem State.marigoldClears_shadow (s : State) (b m : Nat) : (s.marigoldClears b m).shadow = s.shadow := rfl
@[simp] theorem State.marigoldClears_now (s : State) (b m : Nat) : (s.marigoldClears b m).now = s.now := rfl
@[simp] theorem State.marigoldClears_msiSent (s : State) (b m : Nat) : (s.marigoldClears b m).msiSent = s.msiSent := rfl
@[simp] theorem State.marigoldClears_msixMask (s : State) (b m : Nat) : (s.marigoldClears b m).msixMask = s.msixMask := rfl
@[simp] theorem State.marigoldClears_calNext (s : State) (b m : Nat) : (s.marigoldClears b m).calNext = s.calNext := rfl
@[simp] theorem State.marigoldClears_msixPend (s : State) (b m : Nat) : (s.marigoldClears b m).msixPend = s.msixPend := rfl
@[simp] theorem State.marigoldClears_ras (s : State) (b m : Nat) : (s.marigoldClears b m).ras = s.ras := rfl
@[simp] theorem State.marigoldClears_crv (s : State) (b m : Nat) : (s.marigoldClears b m).crv = s.crv := rfl
@[simp] theorem State.marigoldClears_log (s : State) (b m : Nat) : (s.marigoldClears b m).log = s.log := rfl
@[simp] theorem State.marigoldClears_scn (s : State) (b m : Nat) : (s.marigoldClears b m).scn = s.scn := rfl
@[simp] theorem State.marigoldClears_ing (s : State) (b m : Nat) : (s.marigoldClears b m).ing = s.ing := rfl
@[simp] theorem State.marigoldClears_mbc (s : State) (b m : Nat) : (s.marigoldClears b m).mbc = s.mbc := rfl
@[simp] theorem State.marigoldClears_syn (s : State) (b m : Nat) : (s.marigoldClears b m).syn = s.syn := rfl
@[simp] theorem State.marigoldClears_clusters (s : State) (b m : Nat) : (s.marigoldClears b m).clusters = s.clusters := rfl
@[simp] theorem State.marigoldClears_plc (s : State) (b m : Nat) : (s.marigoldClears b m).plc = s.plc := rfl
@[simp] theorem State.marigoldClears_brc (s : State) (b m : Nat) : (s.marigoldClears b m).brc = s.brc := rfl
@[simp] theorem State.marigoldClears_lyr (s : State) (b m : Nat) : (s.marigoldClears b m).lyr = s.lyr := rfl
@[simp] theorem State.marigoldClears_pnl (s : State) (b m : Nat) : (s.marigoldClears b m).pnl = s.pnl := rfl
@[simp] theorem State.marigoldClears_bkl (s : State) (b m : Nat) : (s.marigoldClears b m).bkl = s.bkl := rfl
@[simp] theorem State.marigoldClears_blt (s : State) (b m : Nat) : (s.marigoldClears b m).blt = s.blt := rfl
@[simp] theorem State.marigoldClears_dram (s : State) (b m : Nat) : (s.marigoldClears b m).dram = s.dram := rfl
@[simp] theorem State.marigoldClears_dimms (s : State) (b m : Nat) : (s.marigoldClears b m).dimms = s.dimms := rfl
@[simp] theorem State.marigoldClears_timBase (s : State) (b m : Nat) : (s.marigoldClears b m).timBase = s.timBase := rfl
@[simp] theorem State.marigoldClears_timAnchor (s : State) (b m : Nat) : (s.marigoldClears b m).timAnchor = s.timAnchor := rfl
@[simp] theorem State.marigoldClears_timRate (s : State) (b m : Nat) : (s.marigoldClears b m).timRate = s.timRate := rfl
@[simp] theorem State.marigoldClears_tim (s : State) (b m : Nat) : (s.marigoldClears b m).tim = s.tim := rfl
@[simp] theorem State.marigoldClears_net (s : State) (b m : Nat) : (s.marigoldClears b m).net = s.net := rfl
@[simp] theorem State.marigoldClears_fov (s : State) (b m : Nat) : (s.marigoldClears b m).fov = s.fov := rfl
@[simp] theorem State.marigoldClears_cal (s : State) (b m : Nat) : (s.marigoldClears b m).cal = s.cal := rfl
@[simp] theorem State.marigoldClears_dmc (s : State) (b m : Nat) : (s.marigoldClears b m).dmc = s.dmc := rfl
@[simp] theorem State.marigoldClears_nvs (s : State) (b m : Nat) : (s.marigoldClears b m).nvs = s.nvs := rfl
@[simp] theorem State.marigoldClears_lanes (s : State) (b m : Nat) : (s.marigoldClears b m).lanes = s.lanes := rfl
@[simp] theorem State.marigoldClears_mgt (s : State) (b m : Nat) : (s.marigoldClears b m).mgt = s.mgt := rfl
@[simp] theorem State.marigoldClears_pwr (s : State) (b m : Nat) : (s.marigoldClears b m).pwr = s.pwr := rfl
@[simp] theorem State.marigoldClears_thm (s : State) (b m : Nat) : (s.marigoldClears b m).thm = s.thm := rfl
@[simp] theorem State.marigoldClears_secu (s : State) (b m : Nat) : (s.marigoldClears b m).secu = s.secu := rfl
@[simp] theorem State.marigoldClears_svc (s : State) (b m : Nat) : (s.marigoldClears b m).svc = s.svc := rfl
@[simp] theorem State.marigoldClears_poison (s : State) (b m : Nat) : (s.marigoldClears b m).poison = s.poison := rfl
@[simp] theorem State.marigoldClears_out (s : State) (b m : Nat) : (s.marigoldClears b m).out = s.out := rfl
@[simp] theorem State.marigoldClears_free (s : State) (b m : Nat) : (s.marigoldClears b m).free = s.free := rfl
@[simp] theorem State.marigoldClears_rd (s : State) (b m a : Nat) : (s.marigoldClears b m).rd a = s.rd a := rfl
@[simp] theorem State.marigoldClears_flag (s : State) (b m a i : Nat) : (s.marigoldClears b m).flag a i = s.flag a i := rfl
@[simp] theorem State.marigoldClears_fld (s : State) (b m a hi lo : Nat) : (s.marigoldClears b m).fld a hi lo = s.fld a hi lo := rfl
@[simp] theorem State.marigoldClears_rdShadow (s : State) (b m a : Nat) : (s.marigoldClears b m).rdShadow a = s.rdShadow a := rfl

/-! ### The end of every command -/

theorem State.sendMsix_eq (s : State) (v : Nat) : s.sendMsix v = { s with out := (s.sendMsix v).out, msixPend := (s.sendMsix v).msixPend } := by
  unfold State.sendMsix; split
  · split <;> rfl
  · rfl

theorem State.foldl_sendMsix_eq (l : List Nat) (s : State) :
    l.foldl State.sendMsix s = { s with out := (l.foldl State.sendMsix s).out, msixPend := (l.foldl State.sendMsix s).msixPend } := by
  induction l generalizing s with
  | nil => rfl
  | cons v l ih =>
    have e := s.sendMsix_eq v
    rw [List.foldl_cons, ih (s.sendMsix v), e]

/-- Bringing the pending-bit array up to date sends messages and changes the array, and nothing else. -/
theorem State.msixFollow_eq (s : State) : s.msixFollow = { s with out := s.msixFollow.out, msixPend := s.msixFollow.msixPend } := by
  unfold State.msixFollow
  dsimp only
  rw [State.foldl_sendMsix_eq]

/-- The end of a command sends messages, or leaves them pending where the host masks the entry, and notes which vectors are answered;
nothing else changes. -/
theorem settle_eq (s : State) : settle s = { s with out := (settle s).out, msixPend := (settle s).msixPend, msiSent := s.live } := by
  unfold settle
  dsimp only
  rw [State.foldl_sendMsix_eq, State.msixFollow_eq]

@[simp] theorem settle_msiSent (s : State) : (settle s).msiSent = s.live := by rw [settle_eq]
@[simp] theorem settle_pending (s : State) : (settle s).pending = s.pending := by rw [settle_eq]
@[simp] theorem settle_regs (s : State) : (settle s).regs = s.regs := by rw [settle_eq]
@[simp] theorem settle_shadow (s : State) : (settle s).shadow = s.shadow := by rw [settle_eq]
@[simp] theorem settle_now (s : State) : (settle s).now = s.now := by rw [settle_eq]
@[simp] theorem settle_msixMask (s : State) : (settle s).msixMask = s.msixMask := by rw [settle_eq]
@[simp] theorem settle_calNext (s : State) : (settle s).calNext = s.calNext := by rw [settle_eq]
@[simp] theorem settle_mgtIrq (s : State) : (settle s).mgtIrq = s.mgtIrq := by rw [settle_eq]
@[simp] theorem settle_ras (s : State) : (settle s).ras = s.ras := by rw [settle_eq]
@[simp] theorem settle_crv (s : State) : (settle s).crv = s.crv := by rw [settle_eq]
@[simp] theorem settle_log (s : State) : (settle s).log = s.log := by rw [settle_eq]
@[simp] theorem settle_scn (s : State) : (settle s).scn = s.scn := by rw [settle_eq]
@[simp] theorem settle_ing (s : State) : (settle s).ing = s.ing := by rw [settle_eq]
@[simp] theorem settle_mbc (s : State) : (settle s).mbc = s.mbc := by rw [settle_eq]
@[simp] theorem settle_syn (s : State) : (settle s).syn = s.syn := by rw [settle_eq]
@[simp] theorem settle_clusters (s : State) : (settle s).clusters = s.clusters := by rw [settle_eq]
@[simp] theorem settle_plc (s : State) : (settle s).plc = s.plc := by rw [settle_eq]
@[simp] theorem settle_brc (s : State) : (settle s).brc = s.brc := by rw [settle_eq]
@[simp] theorem settle_lyr (s : State) : (settle s).lyr = s.lyr := by rw [settle_eq]
@[simp] theorem settle_pnl (s : State) : (settle s).pnl = s.pnl := by rw [settle_eq]
@[simp] theorem settle_bkl (s : State) : (settle s).bkl = s.bkl := by rw [settle_eq]
@[simp] theorem settle_blt (s : State) : (settle s).blt = s.blt := by rw [settle_eq]
@[simp] theorem settle_dram (s : State) : (settle s).dram = s.dram := by rw [settle_eq]
@[simp] theorem settle_dimms (s : State) : (settle s).dimms = s.dimms := by rw [settle_eq]
@[simp] theorem settle_timBase (s : State) : (settle s).timBase = s.timBase := by rw [settle_eq]
@[simp] theorem settle_timAnchor (s : State) : (settle s).timAnchor = s.timAnchor := by rw [settle_eq]
@[simp] theorem settle_timRate (s : State) : (settle s).timRate = s.timRate := by rw [settle_eq]
@[simp] theorem settle_tim (s : State) : (settle s).tim = s.tim := by rw [settle_eq]
@[simp] theorem settle_net (s : State) : (settle s).net = s.net := by rw [settle_eq]
@[simp] theorem settle_fov (s : State) : (settle s).fov = s.fov := by rw [settle_eq]
@[simp] theorem settle_cal (s : State) : (settle s).cal = s.cal := by rw [settle_eq]
@[simp] theorem settle_dmc (s : State) : (settle s).dmc = s.dmc := by rw [settle_eq]
@[simp] theorem settle_nvs (s : State) : (settle s).nvs = s.nvs := by rw [settle_eq]
@[simp] theorem settle_lanes (s : State) : (settle s).lanes = s.lanes := by rw [settle_eq]
@[simp] theorem settle_mgt (s : State) : (settle s).mgt = s.mgt := by rw [settle_eq]
@[simp] theorem settle_pwr (s : State) : (settle s).pwr = s.pwr := by rw [settle_eq]
@[simp] theorem settle_thm (s : State) : (settle s).thm = s.thm := by rw [settle_eq]
@[simp] theorem settle_secu (s : State) : (settle s).secu = s.secu := by rw [settle_eq]
@[simp] theorem settle_svc (s : State) : (settle s).svc = s.svc := by rw [settle_eq]
@[simp] theorem settle_poison (s : State) : (settle s).poison = s.poison := by rw [settle_eq]
@[simp] theorem settle_free (s : State) : (settle s).free = s.free := by rw [settle_eq]
@[simp] theorem settle_rd (s : State) (a : Nat) : (settle s).rd a = s.rd a := by simp [State.rd]
@[simp] theorem settle_flag (s : State) (a i : Nat) : (settle s).flag a i = s.flag a i := by simp [State.flag]
@[simp] theorem settle_fld (s : State) (a h l : Nat) : (settle s).fld a h l = s.fld a h l := by simp [State.fld]
@[simp] theorem settle_domOn (s : State) (d : Nat) : (settle s).domOn d = s.domOn d := by simp [State.domOn]
@[simp] theorem settle_byte (s : State) (a : Nat) : (settle s).byte a = s.byte a := by simp [State.byte]
@[simp] theorem settle_live (s : State) : (settle s).live = s.live := by rw [settle_eq]; rfl

/-- Vectors of `p` that are asserted and unmasked and whose entry in the MSI-X table is masked. -/
def pendOk (live mask p : Nat) : Prop := ∀ v, p.testBit v = true → live.testBit v = true ∧ mask.testBit v = true

theorem pendOk.land_eq {live mask p : Nat} (h : pendOk live mask p) : p = Nat.land (Nat.land p live) mask := by
  apply Nat.eq_of_testBit_eq
  intro i
  show p.testBit i = (p &&& live &&& mask).testBit i
  rw [Nat.testBit_and, Nat.testBit_and]
  cases e : p.testBit i
  · rfl
  · rw [(h i e).1, (h i e).2]; rfl

/-- A message that is sent, or left pending where its entry is masked, leaves no other vector pending. -/
theorem State.sendMsix_pendOk {live mask v : Nat} {s : State} (m : s.msixMask = mask) (l : live.testBit v = true)
    (h : pendOk live mask s.msixPend) : pendOk live mask (s.sendMsix v).msixPend := by
  unfold State.sendMsix
  split
  · split
    · rename_i b
      intro i e
      change (s.msixPend ||| 2 ^ v).testBit i = true at e
      rw [Nat.testBit_or, Nat.testBit_two_pow, Bool.or_eq_true, decide_eq_true_eq] at e
      rcases e with e | rfl
      · exact h i e
      · exact ⟨l, by rw [← bitOf_testBit, ← m]; exact b⟩
    · exact h
  · exact h

theorem State.foldl_sendMsix_pendOk {live mask : Nat} (l : List Nat) (s : State) (m : s.msixMask = mask)
    (lv : ∀ v ∈ l, live.testBit v = true) (h : pendOk live mask s.msixPend) : pendOk live mask (l.foldl State.sendMsix s).msixPend := by
  induction l generalizing s with
  | nil => exact h
  | cons v l ih =>
    exact ih (s.sendMsix v) (by rw [State.sendMsix_eq]; exact m) (fun w hw => lv w (List.mem_cons_of_mem _ hw))
      (State.sendMsix_pendOk m (lv v (List.mem_cons_self ..)) h)

/-- What is pending after a command is asserted and unmasked, and masked in the MSI-X table. -/
theorem settle_pendOk (s : State) :
    (settle s).msixPend = Nat.land (Nat.land (settle s).msixPend s.live) s.msixMask := by
  apply pendOk.land_eq
  have follow : pendOk s.live s.msixMask s.msixFollow.msixPend := by
    refine State.foldl_sendMsix_pendOk _ _ rfl ?_ ?_
    · intro v hv
      have e := (List.mem_filter.1 hv).2
      rw [Bool.and_eq_true, bitOf_testBit] at e
      have e := e.1
      change (s.msixPend &&& s.live).testBit v = true at e
      rw [Nat.testBit_and, Bool.and_eq_true] at e
      exact e.2
    · intro v e
      change (s.msixPend &&& s.live &&& s.msixMask).testBit v = true at e
      rw [Nat.testBit_and, Nat.testBit_and, Bool.and_eq_true, Bool.and_eq_true] at e
      exact ⟨e.1.2, e.2⟩
  refine State.foldl_sendMsix_pendOk _ s.msixFollow (by rw [State.msixFollow_eq]) ?_ follow
  intro v hv
  have e := (List.mem_filter.1 hv).2
  rw [Bool.and_eq_true, bitOf_testBit] at e
  exact e.1

end Sys2Proof.Machine
end

