-- ==== Sys2Proof/Laws/Kept.lean ====
section
/-! SUPPORT. What an operation may change: the parts of the state named by a mask, and how such facts compose. -/

namespace Sys2Proof.Machine

/-- What a command may change: the parts whose bit in `F` is set; the queue stays, time and the draws of free values go on, and
the sparse maps keep their canonical form. -/
structure Kept (F : Nat) (s t : State) : Prop where
  pending : t.pending = s.pending
  nowLe : s.now ≤ t.now
  freeLe : s.free ≤ t.free
  regsWf : Regs.wf s.regs = true → Regs.wf t.regs = true
  dramWf : Memory.wf s.dram = true → Memory.wf t.dram = true
  ras : F.testBit 0 = true ∨ t.ras = s.ras
  crv : F.testBit 1 = true ∨ t.crv = s.crv
  log : F.testBit 2 = true ∨ t.log = s.log
  scn : F.testBit 3 = true ∨ t.scn = s.scn
  ing : F.testBit 4 = true ∨ t.ing = s.ing
  mbc : F.testBit 5 = true ∨ t.mbc = s.mbc
  syn : F.testBit 6 = true ∨ t.syn = s.syn
  clusters : F.testBit 7 = true ∨ t.clusters = s.clusters
  plc : F.testBit 8 = true ∨ t.plc = s.plc
  brc : F.testBit 9 = true ∨ t.brc = s.brc
  lyr : F.testBit 10 = true ∨ t.lyr = s.lyr
  pnl : F.testBit 11 = true ∨ t.pnl = s.pnl
  bkl : F.testBit 12 = true ∨ t.bkl = s.bkl
  blt : F.testBit 13 = true ∨ t.blt = s.blt
  dram : F.testBit 14 = true ∨ t.dram = s.dram
  poison : F.testBit 15 = true ∨ t.poison = s.poison
  dimms : F.testBit 16 = true ∨ t.dimms = s.dimms
  timBase : F.testBit 17 = true ∨ t.timBase = s.timBase
  timAnchor : F.testBit 18 = true ∨ t.timAnchor = s.timAnchor
  timRate : F.testBit 19 = true ∨ t.timRate = s.timRate
  tim : F.testBit 20 = true ∨ t.tim = s.tim
  net : F.testBit 21 = true ∨ t.net = s.net
  fov : F.testBit 22 = true ∨ t.fov = s.fov
  cal : F.testBit 23 = true ∨ t.cal = s.cal
  dmc : F.testBit 24 = true ∨ t.dmc = s.dmc
  nvs : F.testBit 25 = true ∨ t.nvs = s.nvs
  lanes : F.testBit 26 = true ∨ t.lanes = s.lanes
  mgt : F.testBit 27 = true ∨ t.mgt = s.mgt
  pwr : F.testBit 28 = true ∨ t.pwr = s.pwr
  thm : F.testBit 29 = true ∨ t.thm = s.thm
  secu : F.testBit 30 = true ∨ t.secu = s.secu
  svc : F.testBit 31 = true ∨ t.svc = s.svc
  now : F.testBit 32 = true ∨ t.now = s.now
  free : F.testBit 33 = true ∨ t.free = s.free
  shadow : F.testBit 34 = true ∨ t.shadow = s.shadow
  out : F.testBit 35 = true ∨ t.sent = s.sent
  msixMask : F.testBit 36 = true ∨ t.msixMask = s.msixMask
  calNext : F.testBit 37 = true ∨ t.calNext = s.calNext

theorem Kept.refl (F : Nat) (s : State) : Kept F s s := by
  constructor <;> first | exact rfl | exact Nat.le_refl _ | exact id | exact .inr rfl

theorem Part.chain {α : Type} {F G : Nat} {i : Nat} {a b c : α} (sub : F ||| G = F) (h : F.testBit i = true ∨ b = a) (k : G.testBit i = true ∨ c = b) :
    F.testBit i = true ∨ c = a := by
  rcases h with h | rfl
  · exact .inl h
  · rcases k with k | rfl
    · left; rw [← sub, Nat.testBit_or, k, Bool.or_true]
    · exact .inr rfl

/-- A further step that changes parts of `G`, all among those of `F`. -/
theorem Kept.step {F G : Nat} {r s t : State} (k : Kept G s t) (sub : F ||| G = F) (h : Kept F r s) : Kept F r t where
  pending := k.pending.trans h.pending
  nowLe := Nat.le_trans h.nowLe k.nowLe
  freeLe := Nat.le_trans h.freeLe k.freeLe
  regsWf := fun w => k.regsWf (h.regsWf w)
  dramWf := fun w => k.dramWf (h.dramWf w)
  ras := Part.chain sub h.ras k.ras
  crv := Part.chain sub h.crv k.crv
  log := Part.chain sub h.log k.log
  scn := Part.chain sub h.scn k.scn
  ing := Part.chain sub h.ing k.ing
  mbc := Part.chain sub h.mbc k.mbc
  syn := Part.chain sub h.syn k.syn
  clusters := Part.chain sub h.clusters k.clusters
  plc := Part.chain sub h.plc k.plc
  brc := Part.chain sub h.brc k.brc
  lyr := Part.chain sub h.lyr k.lyr
  pnl := Part.chain sub h.pnl k.pnl
  bkl := Part.chain sub h.bkl k.bkl
  blt := Part.chain sub h.blt k.blt
  dram := Part.chain sub h.dram k.dram
  poison := Part.chain sub h.poison k.poison
  dimms := Part.chain sub h.dimms k.dimms
  timBase := Part.chain sub h.timBase k.timBase
  timAnchor := Part.chain sub h.timAnchor k.timAnchor
  timRate := Part.chain sub h.timRate k.timRate
  tim := Part.chain sub h.tim k.tim
  net := Part.chain sub h.net k.net
  fov := Part.chain sub h.fov k.fov
  cal := Part.chain sub h.cal k.cal
  dmc := Part.chain sub h.dmc k.dmc
  nvs := Part.chain sub h.nvs k.nvs
  lanes := Part.chain sub h.lanes k.lanes
  mgt := Part.chain sub h.mgt k.mgt
  pwr := Part.chain sub h.pwr k.pwr
  thm := Part.chain sub h.thm k.thm
  secu := Part.chain sub h.secu k.secu
  svc := Part.chain sub h.svc k.svc
  now := Part.chain sub h.now k.now
  free := Part.chain sub h.free k.free
  shadow := Part.chain sub h.shadow k.shadow
  out := Part.chain sub h.out k.out
  msixMask := Part.chain sub h.msixMask k.msixMask
  calNext := Part.chain sub h.calNext k.calNext


section
variable {F : Nat} {r : State} {α β γ δ : Type}

theorem Kept.ite {c : Prop} [Decidable c] {a b : State} (ha : Kept F r a) (hb : Kept F r b) : Kept F r (if c then a else b) := by
  split <;> assumption

theorem Kept.iteP (π : β → State) {c : Prop} [Decidable c] {a b : β} (ha : Kept F r (π a)) (hb : Kept F r (π b)) :
    Kept F r (π (if c then a else b)) := by
  split <;> assumption

theorem Kept.opt {o : Option α} {n : State} {f : α → State} (hn : Kept F r n) (hf : ∀ a, Kept F r (f a)) :
    Kept F r (Option.casesOn o n f) := by
  cases o
  · exact hn
  · exact hf _

theorem Kept.optP (π : β → State) {o : Option α} {n : β} {f : α → β} (hn : Kept F r (π n)) (hf : ∀ a, Kept F r (π (f a))) :
    Kept F r (π (Option.casesOn o n f)) := by
  cases o
  · exact hn
  · exact hf _

theorem Kept.optSt {o : Option State} {n : State} {f : State → State} (ho : ∀ a, o = some a → Kept F r a) (hn : Kept F r n)
    (hf : ∀ a, Kept F r a → Kept F r (f a)) : Kept F r (Option.casesOn o n f) := by
  cases o
  · exact hn
  · exact hf _ (ho _ rfl)

theorem Kept.optStP (π : β → State) {o : Option State} {n : β} {f : State → β} (ho : ∀ a, o = some a → Kept F r a) (hn : Kept F r (π n))
    (hf : ∀ a, Kept F r a → Kept F r (π (f a))) : Kept F r (π (Option.casesOn o n f)) := by
  cases o
  · exact hn
  · exact hf _ (ho _ rfl)

theorem Kept.list {l : List α} {n : State} {f : α → List α → State} (hn : Kept F r n) (hf : ∀ a l, Kept F r (f a l)) :
    Kept F r (List.casesOn l n f) := by
  cases l
  · exact hn
  · exact hf _ _

theorem Kept.listP (π : β → State) {l : List α} {n : β} {f : α → List α → β} (hn : Kept F r (π n)) (hf : ∀ a l, Kept F r (π (f a l))) :
    Kept F r (π (List.casesOn l n f)) := by
  cases l
  · exact hn
  · exact hf _ _

theorem Kept.prod {p : α × γ} {f : α → γ → State} (hf : ∀ a b, Kept F r (f a b)) : Kept F r (Prod.casesOn p f) := hf _ _

theorem Kept.prodP (π : β → State) {p : α × γ} {f : α → γ → β} (hf : ∀ a b, Kept F r (π (f a b))) : Kept F r (π (Prod.casesOn p f)) :=
  hf _ _

theorem Kept.bool {b : Bool} {x y : State} (hx : Kept F r x) (hy : Kept F r y) : Kept F r (Bool.casesOn b x y) := by
  cases b <;> assumption

theorem Kept.boolP (π : β → State) {b : Bool} {x y : β} (hx : Kept F r (π x)) (hy : Kept F r (π y)) : Kept F r (π (Bool.casesOn b x y)) := by
  cases b <;> assumption

theorem Kept.nat {n : Nat} {x : State} {f : Nat → State} (hx : Kept F r x) (hf : ∀ n, Kept F r (f n)) : Kept F r (Nat.casesOn n x f) := by
  cases n
  · exact hx
  · exact hf _

theorem Kept.natP (π : β → State) {n : Nat} {x : β} {f : Nat → β} (hx : Kept F r (π x)) (hf : ∀ n, Kept F r (π (f n))) :
    Kept F r (π (Nat.casesOn n x f)) := by
  cases n
  · exact hx
  · exact hf _

theorem Kept.except {e : Except γ α} {x : γ → State} {f : α → State} (hx : ∀ a, Kept F r (x a)) (hf : ∀ a, Kept F r (f a)) :
    Kept F r (Except.casesOn e x f) := by
  cases e
  · exact hx _
  · exact hf _

theorem Kept.exceptP (π : β → State) {e : Except γ α} {x : γ → β} {f : α → β} (hx : ∀ a, Kept F r (π (x a))) (hf : ∀ a, Kept F r (π (f a))) :
    Kept F r (π (Except.casesOn e x f)) := by
  cases e
  · exact hx _
  · exact hf _

theorem Kept.foldl {g : State → α → State} {l : List α} {i : State} (h : Kept F r i) (k : ∀ s a, Kept F r s → Kept F r (g s a)) :
    Kept F r (l.foldl g i) := by
  induction l generalizing i with
  | nil => exact h
  | cons a l ih => exact ih (k _ _ h)

theorem Kept.foldlP (π : β → State) {g : β → α → β} {l : List α} {i : β} (h : Kept F r (π i)) (k : ∀ x a, Kept F r (π x) → Kept F r (π (g x a))) :
    Kept F r (π (l.foldl g i)) := by
  induction l generalizing i with
  | nil => exact h
  | cons a l ih => exact ih (k _ _ h)

end

theorem Kept.via {F : Nat} {r s t : State} (k : Kept F s t) (h : Kept F r s) : Kept F r t := Kept.step k (Nat.or_self F) h

theorem Kept.trans {F : Nat} {r s t : State} (h : Kept F r s) (k : Kept F s t) : Kept F r t := Kept.step k (Nat.or_self F) h

theorem keptO_foldl {α : Type} {F : Nat} {r : State} (g : Option State → α → Option State) (l : List α) (i : Option State)
    (h : ∀ t, i = some t → Kept F r t) (k : ∀ o a, (∀ t, o = some t → Kept F r t) → ∀ t, g o a = some t → Kept F r t) :
    ∀ t, l.foldl g i = some t → Kept F r t := by
  induction l generalizing i with
  | nil => exact h
  | cons a l ih => exact ih _ (k _ _ h)

theorem keptOB_foldl {α β : Type} {F : Nat} {r : State} (g : Option (β × State) → α → Option (β × State)) (l : List α)
    (i : Option (β × State)) (h : ∀ t, i = some t → Kept F r t.2)
    (k : ∀ o a, (∀ t, o = some t → Kept F r t.2) → ∀ t, g o a = some t → Kept F r t.2) : ∀ t, l.foldl g i = some t → Kept F r t.2 := by
  induction l generalizing i with
  | nil => exact h
  | cons a l ih => exact ih _ (k _ _ h)


theorem Kept.u0 {F : Nat} {r x : State} {f_msiSent} {f_msixPend} {f_mgtIrq} (h : Kept F r x) (sub : F ||| 0 = F) :
    Kept F r ⟨x.pending, x.regs, x.shadow, x.now, f_msiSent, x.msixMask, f_msixPend, f_mgtIrq, x.ras, x.crv, x.log, x.scn, x.ing, x.mbc, x.syn, x.clusters, x.plc, x.brc, x.lyr, x.pnl, x.bkl, x.blt, x.dram, x.dimms, x.timBase, x.timAnchor, x.timRate, x.tim, x.net, x.fov, x.cal, x.calNext, x.dmc, x.nvs, x.lanes, x.mgt, x.pwr, x.thm, x.secu, x.svc, x.poison, x.out, x.free⟩ :=
  Kept.step (G := 0) (s := x) ⟨rfl, Nat.le_refl _, Nat.le_refl _, id, id, .inr rfl, .inr rfl, .inr rfl, .inr rfl, .inr rfl, .inr rfl, .inr rfl, .inr rfl, .inr rfl, .inr rfl, .inr rfl, .inr rfl, .inr rfl, .inr rfl, .inr rfl, .inr rfl, .inr rfl, .inr rfl, .inr rfl, .inr rfl, .inr rfl, .inr rfl, .inr rfl, .inr rfl, .inr rfl, .inr rfl, .inr rfl, .inr rfl, .inr rfl, .inr rfl, .inr rfl, .inr rfl, .inr rfl, .inr rfl, .inr rfl, .inr rfl, .inr rfl, .inr rfl⟩ sub h

theorem Kept.u1 {F : Nat} {r x : State} {f_msiSent} {f_msixPend} {f_mgtIrq} {f_ras} (h : Kept F r x) (sub : F ||| 1 = F) :
    Kept F r ⟨x.pending, x.regs, x.shadow, x.now, f_msiSent, x.msixMask, f_msixPend, f_mgtIrq, f_ras, x.crv, x.log, x.scn, x.ing, x.mbc, x.syn, x.clusters, x.plc, x.brc, x.lyr, x.pnl, x.bkl, x.blt, x.dram, x.dimms, x.timBase, x.timAnchor, x.timRate, x.tim, x.net, x.fov, x.cal, x.calNext, x.dmc, x.nvs, x.lanes, x.mgt, x.pwr, x.thm, x.secu, x.svc, x.poison, x.out, x.free⟩ :=
  Kept.step (G := 1) (s := x) ⟨rfl, Nat.le_refl _, Nat.le_refl _, id, id, .inl rfl, .inr rfl, .inr rfl, .inr rfl, .inr rfl, .inr rfl, .inr rfl, .inr rfl, .inr rfl, .inr rfl, .inr rfl, .inr rfl, .inr rfl, .inr rfl, .inr rfl, .inr rfl, .inr rfl, .inr rfl, .inr rfl, .inr rfl, .inr rfl, .inr rfl, .inr rfl, .inr rfl, .inr rfl, .inr rfl, .inr rfl, .inr rfl, .inr rfl, .inr rfl, .inr rfl, .inr rfl, .inr rfl, .inr rfl, .inr rfl, .inr rfl, .inr rfl, .inr rfl⟩ sub h

theorem Kept.u2 {F : Nat} {r x : State} {f_msiSent} {f_msixPend} {f_mgtIrq} {f_crv} (h : Kept F r x) (sub : F ||| 2 = F) :
    Kept F r ⟨x.pending, x.regs, x.shadow, x.now, f_msiSent, x.msixMask, f_msixPend, f_mgtIrq, x.ras, f_crv, x.log, x.scn, x.ing, x.mbc, x.syn, x.clusters, x.plc, x.brc, x.lyr, x.pnl, x.bkl, x.blt, x.dram, x.dimms, x.timBase, x.timAnchor, x.timRate, x.tim, x.net, x.fov, x.cal, x.calNext, x.dmc, x.nvs, x.lanes, x.mgt, x.pwr, x.thm, x.secu, x.svc, x.poison, x.out, x.free⟩ :=
  Kept.step (G := 2) (s := x) ⟨rfl, Nat.le_refl _, Nat.le_refl _, id, id, .inr rfl, .inl rfl, .inr rfl, .inr rfl, .inr rfl, .inr rfl, .inr rfl, .inr rfl, .inr rfl, .inr rfl, .inr rfl, .inr rfl, .inr rfl, .inr rfl, .inr rfl, .inr rfl, .inr rfl, .inr rfl, .inr rfl, .inr rfl, .inr rfl, .inr rfl, .inr rfl, .inr rfl, .inr rfl, .inr rfl, .inr rfl, .inr rfl, .inr rfl, .inr rfl, .inr rfl, .inr rfl, .inr rfl, .inr rfl, .inr rfl, .inr rfl, .inr rfl, .inr rfl⟩ sub h

theorem Kept.u3 {F : Nat} {r x : State} {f_msiSent} {f_msixPend} {f_mgtIrq} {f_ras} {f_crv} (h : Kept F r x) (sub : F ||| 3 = F) :
    Kept F r ⟨x.pending, x.regs, x.shadow, x.now, f_msiSent, x.msixMask, f_msixPend, f_mgtIrq, f_ras, f_crv, x.log, x.scn, x.ing, x.mbc, x.syn, x.clusters, x.plc, x.brc, x.lyr, x.pnl, x.bkl, x.blt, x.dram, x.dimms, x.timBase, x.timAnchor, x.timRate, x.tim, x.net, x.fov, x.cal, x.calNext, x.dmc, x.nvs, x.lanes, x.mgt, x.pwr, x.thm, x.secu, x.svc, x.poison, x.out, x.free⟩ :=
  Kept.step (G := 3) (s := x) ⟨rfl, Nat.le_refl _, Nat.le_refl _, id, id, .inl rfl, .inl rfl, .inr rfl, .inr rfl, .inr rfl, .inr rfl, .inr rfl, .inr rfl, .inr rfl, .inr rfl, .inr rfl, .inr rfl, .inr rfl, .inr rfl, .inr rfl, .inr rfl, .inr rfl, .inr rfl, .inr rfl, .inr rfl, .inr rfl, .inr rfl, .inr rfl, .inr rfl, .inr rfl, .inr rfl, .inr rfl, .inr rfl, .inr rfl, .inr rfl, .inr rfl, .inr rfl, .inr rfl, .inr rfl, .inr rfl, .inr rfl, .inr rfl, .inr rfl⟩ sub h

theorem Kept.u4 {F : Nat} {r x : State} {f_msiSent} {f_msixPend} {f_mgtIrq} {f_log} (h : Kept F r x) (sub : F ||| 4 = F) :
    Kept F r ⟨x.pending, x.regs, x.shadow, x.now, f_msiSent, x.msixMask, f_msixPend, f_mgtIrq, x.ras, x.crv, f_log, x.scn, x.ing, x.mbc, x.syn, x.clusters, x.plc, x.brc, x.lyr, x.pnl, x.bkl, x.blt, x.dram, x.dimms, x.timBase, x.timAnchor, x.timRate, x.tim, x.net, x.fov, x.cal, x.calNext, x.dmc, x.nvs, x.lanes, x.mgt, x.pwr, x.thm, x.secu, x.svc, x.poison, x.out, x.free⟩ :=
  Kept.step (G := 4) (s := x) ⟨rfl, Nat.le_refl _, Nat.le_refl _, id, id, .inr rfl, .inr rfl, .inl rfl, .inr rfl, .inr rfl, .inr rfl, .inr rfl, .inr rfl, .inr rfl, .inr rfl, .inr rfl, .inr rfl, .inr rfl, .inr rfl, .inr rfl, .inr rfl, .inr rfl, .inr rfl, .inr rfl, .inr rfl, .inr rfl, .inr rfl, .inr rfl, .inr rfl, .inr rfl, .inr rfl, .inr rfl, .inr rfl, .inr rfl, .inr rfl, .inr rfl, .inr rfl, .inr rfl, .inr rfl, .inr rfl, .inr rfl, .inr rfl, .inr rfl⟩ sub h

theorem Kept.u8 {F : Nat} {r x : State} {f_msiSent} {f_msixPend} {f_mgtIrq} {f_scn} (h : Kept F r x) (sub : F ||| 8 = F) :
    Kept F r ⟨x.pending, x.regs, x.shadow, x.now, f_msiSent, x.msixMask, f_msixPend, f_mgtIrq, x.ras, x.crv, x.log, f_scn, x.ing, x.mbc, x.syn, x.clusters, x.plc, x.brc, x.lyr, x.pnl, x.bkl, x.blt, x.dram, x.dimms, x.timBase, x.timAnchor, x.timRate, x.tim, x.net, x.fov, x.cal, x.calNext, x.dmc, x.nvs, x.lanes, x.mgt, x.pwr, x.thm, x.secu, x.svc, x.poison, x.out, x.free⟩ :=
  Kept.step (G := 8) (s := x) ⟨rfl, Nat.le_refl _, Nat.le_refl _, id, id, .inr rfl, .inr rfl, .inr rfl, .inl rfl, .inr rfl, .inr rfl, .inr rfl, .inr rfl, .inr rfl, .inr rfl, .inr rfl, .inr rfl, .inr rfl, .inr rfl, .inr rfl, .inr rfl, .inr rfl, .inr rfl, .inr rfl, .inr rfl, .inr rfl, .inr rfl, .inr rfl, .inr rfl, .inr rfl, .inr rfl, .inr rfl, .inr rfl, .inr rfl, .inr rfl, .inr rfl, .inr rfl, .inr rfl, .inr rfl, .inr rfl, .inr rfl, .inr rfl, .inr rfl⟩ sub h

theorem Kept.u16 {F : Nat} {r x : State} {f_msiSent} {f_msixPend} {f_mgtIrq} {f_ing} (h : Kept F r x) (sub : F ||| 16 = F) :
    Kept F r ⟨x.pending, x.regs, x.shadow, x.now, f_msiSent, x.msixMask, f_msixPend, f_mgtIrq, x.ras, x.crv, x.log, x.scn, f_ing, x.mbc, x.syn, x.clusters, x.plc, x.brc, x.lyr, x.pnl, x.bkl, x.blt, x.dram, x.dimms, x.timBase, x.timAnchor, x.timRate, x.tim, x.net, x.fov, x.cal, x.calNext, x.dmc, x.nvs, x.lanes, x.mgt, x.pwr, x.thm, x.secu, x.svc, x.poison, x.out, x.free⟩ :=
  Kept.step (G := 16) (s := x) ⟨rfl, Nat.le_refl _, Nat.le_refl _, id, id, .inr rfl, .inr rfl, .inr rfl, .inr rfl, .inl rfl, .inr rfl, .inr rfl, .inr rfl, .inr rfl, .inr rfl, .inr rfl, .inr rfl, .inr rfl, .inr rfl, .inr rfl, .inr rfl, .inr rfl, .inr rfl, .inr rfl, .inr rfl, .inr rfl, .inr rfl, .inr rfl, .inr rfl, .inr rfl, .inr rfl, .inr rfl, .inr rfl, .inr rfl, .inr rfl, .inr rfl, .inr rfl, .inr rfl, .inr rfl, .inr rfl, .inr rfl, .inr rfl, .inr rfl⟩ sub h

theorem Kept.u24 {F : Nat} {r x : State} {f_msiSent} {f_msixPend} {f_mgtIrq} {f_scn} {f_ing} (h : Kept F r x) (sub : F ||| 24 = F) :
    Kept F r ⟨x.pending, x.regs, x.shadow, x.now, f_msiSent, x.msixMask, f_msixPend, f_mgtIrq, x.ras, x.crv, x.log, f_scn, f_ing, x.mbc, x.syn, x.clusters, x.plc, x.brc, x.lyr, x.pnl, x.bkl, x.blt, x.dram, x.dimms, x.timBase, x.timAnchor, x.timRate, x.tim, x.net, x.fov, x.cal, x.calNext, x.dmc, x.nvs, x.lanes, x.mgt, x.pwr, x.thm, x.secu, x.svc, x.poison, x.out, x.free⟩ :=
  Kept.step (G := 24) (s := x) ⟨rfl, Nat.le_refl _, Nat.le_refl _, id, id, .inr rfl, .inr rfl, .inr rfl, .inl rfl, .inl rfl, .inr rfl, .inr rfl, .inr rfl, .inr rfl, .inr rfl, .inr rfl, .inr rfl, .inr rfl, .inr rfl, .inr rfl, .inr rfl, .inr rfl, .inr rfl, .inr rfl, .inr rfl, .inr rfl, .inr rfl, .inr rfl, .inr rfl, .inr rfl, .inr rfl, .inr rfl, .inr rfl, .inr rfl, .inr rfl, .inr rfl, .inr rfl, .inr rfl, .inr rfl, .inr rfl, .inr rfl, .inr rfl, .inr rfl⟩ sub h

theorem Kept.u32 {F : Nat} {r x : State} {f_msiSent} {f_msixPend} {f_mgtIrq} {f_mbc} (h : Kept F r x) (sub : F ||| 32 = F) :
    Kept F r ⟨x.pending, x.regs, x.shadow, x.now, f_msiSent, x.msixMask, f_msixPend, f_mgtIrq, x.ras, x.crv, x.log, x.scn, x.ing, f_mbc, x.syn, x.clusters, x.plc, x.brc, x.lyr, x.pnl, x.bkl, x.blt, x.dram, x.dimms, x.timBase, x.timAnchor, x.timRate, x.tim, x.net, x.fov, x.cal, x.calNext, x.dmc, x.nvs, x.lanes, x.mgt, x.pwr, x.thm, x.secu, x.svc, x.poison, x.out, x.free⟩ :=
  Kept.step (G := 32) (s := x) ⟨rfl, Nat.le_refl _, Nat.le_refl _, id, id, .inr rfl, .inr rfl, .inr rfl, .inr rfl, .inr rfl, .inl rfl, .inr rfl, .inr rfl, .inr rfl, .inr rfl, .inr rfl, .inr rfl, .inr rfl, .inr rfl, .inr rfl, .inr rfl, .inr rfl, .inr rfl, .inr rfl, .inr rfl, .inr rfl, .inr rfl, .inr rfl, .inr rfl, .inr rfl, .inr rfl, .inr rfl, .inr rfl, .inr rfl, .inr rfl, .inr rfl, .inr rfl, .inr rfl, .inr rfl, .inr rfl, .inr rfl, .inr rfl, .inr rfl⟩ sub h

theorem Kept.u64 {F : Nat} {r x : State} {f_msiSent} {f_msixPend} {f_mgtIrq} {f_syn} (h : Kept F r x) (sub : F ||| 64 = F) :
    Kept F r ⟨x.pending, x.regs, x.shadow, x.now, f_msiSent, x.msixMask, f_msixPend, f_mgtIrq, x.ras, x.crv, x.log, x.scn, x.ing, x.mbc, f_syn, x.clusters, x.plc, x.brc, x.lyr, x.pnl, x.bkl, x.blt, x.dram, x.dimms, x.timBase, x.timAnchor, x.timRate, x.tim, x.net, x.fov, x.cal, x.calNext, x.dmc, x.nvs, x.lanes, x.mgt, x.pwr, x.thm, x.secu, x.svc, x.poison, x.out, x.free⟩ :=
  Kept.step (G := 64) (s := x) ⟨rfl, Nat.le_refl _, Nat.le_refl _, id, id, .inr rfl, .inr rfl, .inr rfl, .inr rfl, .inr rfl, .inr rfl, .inl rfl, .inr rfl, .inr rfl, .inr rfl, .inr rfl, .inr rfl, .inr rfl, .inr rfl, .inr rfl, .inr rfl, .inr rfl, .inr rfl, .inr rfl, .inr rfl, .inr rfl, .inr rfl, .inr rfl, .inr rfl, .inr rfl, .inr rfl, .inr rfl, .inr rfl, .inr rfl, .inr rfl, .inr rfl, .inr rfl, .inr rfl, .inr rfl, .inr rfl, .inr rfl, .inr rfl, .inr rfl⟩ sub h

theorem Kept.u128 {F : Nat} {r x : State} {f_msiSent} {f_msixPend} {f_mgtIrq} {f_clusters} (h : Kept F r x) (sub : F ||| 128 = F) :
    Kept F r ⟨x.pending, x.regs, x.shadow, x.now, f_msiSent, x.msixMask, f_msixPend, f_mgtIrq, x.ras, x.crv, x.log, x.scn, x.ing, x.mbc, x.syn, f_clusters, x.plc, x.brc, x.lyr, x.pnl, x.bkl, x.blt, x.dram, x.dimms, x.timBase, x.timAnchor, x.timRate, x.tim, x.net, x.fov, x.cal, x.calNext, x.dmc, x.nvs, x.lanes, x.mgt, x.pwr, x.thm, x.secu, x.svc, x.poison, x.out, x.free⟩ :=
  Kept.step (G := 128) (s := x) ⟨rfl, Nat.le_refl _, Nat.le_refl _, id, id, .inr rfl, .inr rfl, .inr rfl, .inr rfl, .inr rfl, .inr rfl, .inr rfl, .inl rfl, .inr rfl, .inr rfl, .inr rfl, .inr rfl, .inr rfl, .inr rfl, .inr rfl, .inr rfl, .inr rfl, .inr rfl, .inr rfl, .inr rfl, .inr rfl, .inr rfl, .inr rfl, .inr rfl, .inr rfl, .inr rfl, .inr rfl, .inr rfl, .inr rfl, .inr rfl, .inr rfl, .inr rfl, .inr rfl, .inr rfl, .inr rfl, .inr rfl, .inr rfl, .inr rfl⟩ sub h

theorem Kept.u136 {F : Nat} {r x : State} {f_msiSent} {f_msixPend} {f_mgtIrq} {f_scn} {f_clusters} (h : Kept F r x) (sub : F ||| 136 = F) :
    Kept F r ⟨x.pending, x.regs, x.shadow, x.now, f_msiSent, x.msixMask, f_msixPend, f_mgtIrq, x.ras, x.crv, x.log, f_scn, x.ing, x.mbc, x.syn, f_clusters, x.plc, x.brc, x.lyr, x.pnl, x.bkl, x.blt, x.dram, x.dimms, x.timBase, x.timAnchor, x.timRate, x.tim, x.net, x.fov, x.cal, x.calNext, x.dmc, x.nvs, x.lanes, x.mgt, x.pwr, x.thm, x.secu, x.svc, x.poison, x.out, x.free⟩ :=
  Kept.step (G := 136) (s := x) ⟨rfl, Nat.le_refl _, Nat.le_refl _, id, id, .inr rfl, .inr rfl, .inr rfl, .inl rfl, .inr rfl, .inr rfl, .inr rfl, .inl rfl, .inr rfl, .inr rfl, .inr rfl, .inr rfl, .inr rfl, .inr rfl, .inr rfl, .inr rfl, .inr rfl, .inr rfl, .inr rfl, .inr rfl, .inr rfl, .inr rfl, .inr rfl, .inr rfl, .inr rfl, .inr rfl, .inr rfl, .inr rfl, .inr rfl, .inr rfl, .inr rfl, .inr rfl, .inr rfl, .inr rfl, .inr rfl, .inr rfl, .inr rfl, .inr rfl⟩ sub h

theorem Kept.u256 {F : Nat} {r x : State} {f_msiSent} {f_msixPend} {f_mgtIrq} {f_plc} (h : Kept F r x) (sub : F ||| 256 = F) :
    Kept F r ⟨x.pending, x.regs, x.shadow, x.now, f_msiSent, x.msixMask, f_msixPend, f_mgtIrq, x.ras, x.crv, x.log, x.scn, x.ing, x.mbc, x.syn, x.clusters, f_plc, x.brc, x.lyr, x.pnl, x.bkl, x.blt, x.dram, x.dimms, x.timBase, x.timAnchor, x.timRate, x.tim, x.net, x.fov, x.cal, x.calNext, x.dmc, x.nvs, x.lanes, x.mgt, x.pwr, x.thm, x.secu, x.svc, x.poison, x.out, x.free⟩ :=
  Kept.step (G := 256) (s := x) ⟨rfl, Nat.le_refl _, Nat.le_refl _, id, id, .inr rfl, .inr rfl, .inr rfl, .inr rfl, .inr rfl, .inr rfl, .inr rfl, .inr rfl, .inl rfl, .inr rfl, .inr rfl, .inr rfl, .inr rfl, .inr rfl, .inr rfl, .inr rfl, .inr rfl, .inr rfl, .inr rfl, .inr rfl, .inr rfl, .inr rfl, .inr rfl, .inr rfl, .inr rfl, .inr rfl, .inr rfl, .inr rfl, .inr rfl, .inr rfl, .inr rfl, .inr rfl, .inr rfl, .inr rfl, .inr rfl, .inr rfl, .inr rfl, .inr rfl⟩ sub h

theorem Kept.u264 {F : Nat} {r x : State} {f_msiSent} {f_msixPend} {f_mgtIrq} {f_scn} {f_plc} (h : Kept F r x) (sub : F ||| 264 = F) :
    Kept F r ⟨x.pending, x.regs, x.shadow, x.now, f_msiSent, x.msixMask, f_msixPend, f_mgtIrq, x.ras, x.crv, x.log, f_scn, x.ing, x.mbc, x.syn, x.clusters, f_plc, x.brc, x.lyr, x.pnl, x.bkl, x.blt, x.dram, x.dimms, x.timBase, x.timAnchor, x.timRate, x.tim, x.net, x.fov, x.cal, x.calNext, x.dmc, x.nvs, x.lanes, x.mgt, x.pwr, x.thm, x.secu, x.svc, x.poison, x.out, x.free⟩ :=
  Kept.step (G := 264) (s := x) ⟨rfl, Nat.le_refl _, Nat.le_refl _, id, id, .inr rfl, .inr rfl, .inr rfl, .inl rfl, .inr rfl, .inr rfl, .inr rfl, .inr rfl, .inl rfl, .inr rfl, .inr rfl, .inr rfl, .inr rfl, .inr rfl, .inr rfl, .inr rfl, .inr rfl, .inr rfl, .inr rfl, .inr rfl, .inr rfl, .inr rfl, .inr rfl, .inr rfl, .inr rfl, .inr rfl, .inr rfl, .inr rfl, .inr rfl, .inr rfl, .inr rfl, .inr rfl, .inr rfl, .inr rfl, .inr rfl, .inr rfl, .inr rfl, .inr rfl⟩ sub h

theorem Kept.u320 {F : Nat} {r x : State} {f_msiSent} {f_msixPend} {f_mgtIrq} {f_syn} {f_plc} (h : Kept F r x) (sub : F ||| 320 = F) :
    Kept F r ⟨x.pending, x.regs, x.shadow, x.now, f_msiSent, x.msixMask, f_msixPend, f_mgtIrq, x.ras, x.crv, x.log, x.scn, x.ing, x.mbc, f_syn, x.clusters, f_plc, x.brc, x.lyr, x.pnl, x.bkl, x.blt, x.dram, x.dimms, x.timBase, x.timAnchor, x.timRate, x.tim, x.net, x.fov, x.cal, x.calNext, x.dmc, x.nvs, x.lanes, x.mgt, x.pwr, x.thm, x.secu, x.svc, x.poison, x.out, x.free⟩ :=
  Kept.step (G := 320) (s := x) ⟨rfl, Nat.le_refl _, Nat.le_refl _, id, id, .inr rfl, .inr rfl, .inr rfl, .inr rfl, .inr rfl, .inr rfl, .inl rfl, .inr rfl, .inl rfl, .inr rfl, .inr rfl, .inr rfl, .inr rfl, .inr rfl, .inr rfl, .inr rfl, .inr rfl, .inr rfl, .inr rfl, .inr rfl, .inr rfl, .inr rfl, .inr rfl, .inr rfl, .inr rfl, .inr rfl, .inr rfl, .inr rfl, .inr rfl, .inr rfl, .inr rfl, .inr rfl, .inr rfl, .inr rfl, .inr rfl, .inr rfl, .inr rfl, .inr rfl⟩ sub h

theorem Kept.u512 {F : Nat} {r x : State} {f_msiSent} {f_msixPend} {f_mgtIrq} {f_brc} (h : Kept F r x) (sub : F ||| 512 = F) :
    Kept F r ⟨x.pending, x.regs, x.shadow, x.now, f_msiSent, x.msixMask, f_msixPend, f_mgtIrq, x.ras, x.crv, x.log, x.scn, x.ing, x.mbc, x.syn, x.clusters, x.plc, f_brc, x.lyr, x.pnl, x.bkl, x.blt, x.dram, x.dimms, x.timBase, x.timAnchor, x.timRate, x.tim, x.net, x.fov, x.cal, x.calNext, x.dmc, x.nvs, x.lanes, x.mgt, x.pwr, x.thm, x.secu, x.svc, x.poison, x.out, x.free⟩ :=
  Kept.step (G := 512) (s := x) ⟨rfl, Nat.le_refl _, Nat.le_refl _, id, id, .inr rfl, .inr rfl, .inr rfl, .inr rfl, .inr rfl, .inr rfl, .inr rfl, .inr rfl, .inr rfl, .inl rfl, .inr rfl, .inr rfl, .inr rfl, .inr rfl, .inr rfl, .inr rfl, .inr rfl, .inr rfl, .inr rfl, .inr rfl, .inr rfl, .inr rfl, .inr rfl, .inr rfl, .inr rfl, .inr rfl, .inr rfl, .inr rfl, .inr rfl, .inr rfl, .inr rfl, .inr rfl, .inr rfl, .inr rfl, .inr rfl, .inr rfl, .inr rfl, .inr rfl⟩ sub h

theorem Kept.u576 {F : Nat} {r x : State} {f_msiSent} {f_msixPend} {f_mgtIrq} {f_syn} {f_brc} (h : Kept F r x) (sub : F ||| 576 = F) :
    Kept F r ⟨x.pending, x.regs, x.shadow, x.now, f_msiSent, x.msixMask, f_msixPend, f_mgtIrq, x.ras, x.crv, x.log, x.scn, x.ing, x.mbc, f_syn, x.clusters, x.plc, f_brc, x.lyr, x.pnl, x.bkl, x.blt, x.dram, x.dimms, x.timBase, x.timAnchor, x.timRate, x.tim, x.net, x.fov, x.cal, x.calNext, x.dmc, x.nvs, x.lanes, x.mgt, x.pwr, x.thm, x.secu, x.svc, x.poison, x.out, x.free⟩ :=
  Kept.step (G := 576) (s := x) ⟨rfl, Nat.le_refl _, Nat.le_refl _, id, id, .inr rfl, .inr rfl, .inr rfl, .inr rfl, .inr rfl, .inr rfl, .inl rfl, .inr rfl, .inr rfl, .inl rfl, .inr rfl, .inr rfl, .inr rfl, .inr rfl, .inr rfl, .inr rfl, .inr rfl, .inr rfl, .inr rfl, .inr rfl, .inr rfl, .inr rfl, .inr rfl, .inr rfl, .inr rfl, .inr rfl, .inr rfl, .inr rfl, .inr rfl, .inr rfl, .inr rfl, .inr rfl, .inr rfl, .inr rfl, .inr rfl, .inr rfl, .inr rfl, .inr rfl⟩ sub h

theorem Kept.u640 {F : Nat} {r x : State} {f_msiSent} {f_msixPend} {f_mgtIrq} {f_clusters} {f_brc} (h : Kept F r x) (sub : F ||| 640 = F) :
    Kept F r ⟨x.pending, x.regs, x.shadow, x.now, f_msiSent, x.msixMask, f_msixPend, f_mgtIrq, x.ras, x.crv, x.log, x.scn, x.ing, x.mbc, x.syn, f_clusters, x.plc, f_brc, x.lyr, x.pnl, x.bkl, x.blt, x.dram, x.dimms, x.timBase, x.timAnchor, x.timRate, x.tim, x.net, x.fov, x.cal, x.calNext, x.dmc, x.nvs, x.lanes, x.mgt, x.pwr, x.thm, x.secu, x.svc, x.poison, x.out, x.free⟩ :=
  Kept.step (G := 640) (s := x) ⟨rfl, Nat.le_refl _, Nat.le_refl _, id, id, .inr rfl, .inr rfl, .inr rfl, .inr rfl, .inr rfl, .inr rfl, .inr rfl, .inl rfl, .inr rfl, .inl rfl, .inr rfl, .inr rfl, .inr rfl, .inr rfl, .inr rfl, .inr rfl, .inr rfl, .inr rfl, .inr rfl, .inr rfl, .inr rfl, .inr rfl, .inr rfl, .inr rfl, .inr rfl, .inr rfl, .inr rfl, .inr rfl, .inr rfl, .inr rfl, .inr rfl, .inr rfl, .inr rfl, .inr rfl, .inr rfl, .inr rfl, .inr rfl, .inr rfl⟩ sub h

theorem Kept.u768 {F : Nat} {r x : State} {f_msiSent} {f_msixPend} {f_mgtIrq} {f_plc} {f_brc} (h : Kept F r x) (sub : F ||| 768 = F) :
    Kept F r ⟨x.pending, x.regs, x.shadow, x.now, f_msiSent, x.msixMask, f_msixPend, f_mgtIrq, x.ras, x.crv, x.log, x.scn, x.ing, x.mbc, x.syn, x.clusters, f_plc, f_brc, x.lyr, x.pnl, x.bkl, x.blt, x.dram, x.dimms, x.timBase, x.timAnchor, x.timRate, x.tim, x.net, x.fov, x.cal, x.calNext, x.dmc, x.nvs, x.lanes, x.mgt, x.pwr, x.thm, x.secu, x.svc, x.poison, x.out, x.free⟩ :=
  Kept.step (G := 768) (s := x) ⟨rfl, Nat.le_refl _, Nat.le_refl _, id, id, .inr rfl, .inr rfl, .inr rfl, .inr rfl, .inr rfl, .inr rfl, .inr rfl, .inr rfl, .inl rfl, .inl rfl, .inr rfl, .inr rfl, .inr rfl, .inr rfl, .inr rfl, .inr rfl, .inr rfl, .inr rfl, .inr rfl, .inr rfl, .inr rfl, .inr rfl, .inr rfl, .inr rfl, .inr rfl, .inr rfl, .inr rfl, .inr rfl, .inr rfl, .inr rfl, .inr rfl, .inr rfl, .inr rfl, .inr rfl, .inr rfl, .inr rfl, .inr rfl, .inr rfl⟩ sub h

theorem Kept.u1024 {F : Nat} {r x : State} {f_msiSent} {f_msixPend} {f_mgtIrq} {f_lyr} (h : Kept F r x) (sub : F ||| 1024 = F) :
    Kept F r ⟨x.pending, x.regs, x.shadow, x.now, f_msiSent, x.msixMask, f_msixPend, f_mgtIrq, x.ras, x.crv, x.log, x.scn, x.ing, x.mbc, x.syn, x.clusters, x.plc, x.brc, f_lyr, x.pnl, x.bkl, x.blt, x.dram, x.dimms, x.timBase, x.timAnchor, x.timRate, x.tim, x.net, x.fov, x.cal, x.calNext, x.dmc, x.nvs, x.lanes, x.mgt, x.pwr, x.thm, x.secu, x.svc, x.poison, x.out, x.free⟩ :=
  Kept.step (G := 1024) (s := x) ⟨rfl, Nat.le_refl _, Nat.le_refl _, id, id, .inr rfl, .inr rfl, .inr rfl, .inr rfl, .inr rfl, .inr rfl, .inr rfl, .inr rfl, .inr rfl, .inr rfl, .inl rfl, .inr rfl, .inr rfl, .inr rfl, .inr rfl, .inr rfl, .inr rfl, .inr rfl, .inr rfl, .inr rfl, .inr rfl, .inr rfl, .inr rfl, .inr rfl, .inr rfl, .inr rfl, .inr rfl, .inr rfl, .inr rfl, .inr rfl, .inr rfl, .inr rfl, .inr rfl, .inr rfl, .inr rfl, .inr rfl, .inr rfl, .inr rfl⟩ sub h

theorem Kept.u1025 {F : Nat} {r x : State} {f_msiSent} {f_msixPend} {f_mgtIrq} {f_ras} {f_lyr} (h : Kept F r x) (sub : F ||| 1025 = F) :
    Kept F r ⟨x.pending, x.regs, x.shadow, x.now, f_msiSent, x.msixMask, f_msixPend, f_mgtIrq, f_ras, x.crv, x.log, x.scn, x.ing, x.mbc, x.syn, x.clusters, x.plc, x.brc, f_lyr, x.pnl, x.bkl, x.blt, x.dram, x.dimms, x.timBase, x.timAnchor, x.timRate, x.tim, x.net, x.fov, x.cal, x.calNext, x.dmc, x.nvs, x.lanes, x.mgt, x.pwr, x.thm, x.secu, x.svc, x.poison, x.out, x.free⟩ :=
  Kept.step (G := 1025) (s := x) ⟨rfl, Nat.le_refl _, Nat.le_refl _, id, id, .inl rfl, .inr rfl, .inr rfl, .inr rfl, .inr rfl, .inr rfl, .inr rfl, .inr rfl, .inr rfl, .inr rfl, .inl rfl, .inr rfl, .inr rfl, .inr rfl, .inr rfl, .inr rfl, .inr rfl, .inr rfl, .inr rfl, .inr rfl, .inr rfl, .inr rfl, .inr rfl, .inr rfl, .inr rfl, .inr rfl, .inr rfl, .inr rfl, .inr rfl, .inr rfl, .inr rfl, .inr rfl, .inr rfl, .inr rfl, .inr rfl, .inr rfl, .inr rfl, .inr rfl⟩ sub h

theorem Kept.u1616 {F : Nat} {r x : State} {f_msiSent} {f_msixPend} {f_mgtIrq} {f_ing} {f_syn} {f_brc} {f_lyr} (h : Kept F r x) (sub : F ||| 1616 = F) :
    Kept F r ⟨x.pending, x.regs, x.shadow, x.now, f_msiSent, x.msixMask, f_msixPend, f_mgtIrq, x.ras, x.crv, x.log, x.scn, f_ing, x.mbc, f_syn, x.clusters, x.plc, f_brc, f_lyr, x.pnl, x.bkl, x.blt, x.dram, x.dimms, x.timBase, x.timAnchor, x.timRate, x.tim, x.net, x.fov, x.cal, x.calNext, x.dmc, x.nvs, x.lanes, x.mgt, x.pwr, x.thm, x.secu, x.svc, x.poison, x.out, x.free⟩ :=
  Kept.step (G := 1616) (s := x) ⟨rfl, Nat.le_refl _, Nat.le_refl _, id, id, .inr rfl, .inr rfl, .inr rfl, .inr rfl, .inl rfl, .inr rfl, .inl rfl, .inr rfl, .inr rfl, .inl rfl, .inl rfl, .inr rfl, .inr rfl, .inr rfl, .inr rfl, .inr rfl, .inr rfl, .inr rfl, .inr rfl, .inr rfl, .inr rfl, .inr rfl, .inr rfl, .inr rfl, .inr rfl, .inr rfl, .inr rfl, .inr rfl, .inr rfl, .inr rfl, .inr rfl, .inr rfl, .inr rfl, .inr rfl, .inr rfl, .inr rfl, .inr rfl, .inr rfl⟩ sub h

theorem Kept.u2048 {F : Nat} {r x : State} {f_msiSent} {f_msixPend} {f_mgtIrq} {f_pnl} (h : Kept F r x) (sub : F ||| 2048 = F) :
    Kept F r ⟨x.pending, x.regs, x.shadow, x.now, f_msiSent, x.msixMask, f_msixPend, f_mgtIrq, x.ras, x.crv, x.log, x.scn, x.ing, x.mbc, x.syn, x.clusters, x.plc, x.brc, x.lyr, f_pnl, x.bkl, x.blt, x.dram, x.dimms, x.timBase, x.timAnchor, x.timRate, x.tim, x.net, x.fov, x.cal, x.calNext, x.dmc, x.nvs, x.lanes, x.mgt, x.pwr, x.thm, x.secu, x.svc, x.poison, x.out, x.free⟩ :=
  Kept.step (G := 2048) (s := x) ⟨rfl, Nat.le_refl _, Nat.le_refl _, id, id, .inr rfl, .inr rfl, .inr rfl, .inr rfl, .inr rfl, .inr rfl, .inr rfl, .inr rfl, .inr rfl, .inr rfl, .inr rfl, .inl rfl, .inr rfl, .inr rfl, .inr rfl, .inr rfl, .inr rfl, .inr rfl, .inr rfl, .inr rfl, .inr rfl, .inr rfl, .inr rfl, .inr rfl, .inr rfl, .inr rfl, .inr rfl, .inr rfl, .inr rfl, .inr rfl, .inr rfl, .inr rfl, .inr rfl, .inr rfl, .inr rfl, .inr rfl, .inr rfl, .inr rfl⟩ sub h

theorem Kept.u2049 {F : Nat} {r x : State} {f_msiSent} {f_msixPend} {f_mgtIrq} {f_ras} {f_pnl} (h : Kept F r x) (sub : F ||| 2049 = F) :
    Kept F r ⟨x.pending, x.regs, x.shadow, x.now, f_msiSent, x.msixMask, f_msixPend, f_mgtIrq, f_ras, x.crv, x.log, x.scn, x.ing, x.mbc, x.syn, x.clusters, x.plc, x.brc, x.lyr, f_pnl, x.bkl, x.blt, x.dram, x.dimms, x.timBase, x.timAnchor, x.timRate, x.tim, x.net, x.fov, x.cal, x.calNext, x.dmc, x.nvs, x.lanes, x.mgt, x.pwr, x.thm, x.secu, x.svc, x.poison, x.out, x.free⟩ :=
  Kept.step (G := 2049) (s := x) ⟨rfl, Nat.le_refl _, Nat.le_refl _, id, id, .inl rfl, .inr rfl, .inr rfl, .inr rfl, .inr rfl, .inr rfl, .inr rfl, .inr rfl, .inr rfl, .inr rfl, .inr rfl, .inl rfl, .inr rfl, .inr rfl, .inr rfl, .inr rfl, .inr rfl, .inr rfl, .inr rfl, .inr rfl, .inr rfl, .inr rfl, .inr rfl, .inr rfl, .inr rfl, .inr rfl, .inr rfl, .inr rfl, .inr rfl, .inr rfl, .inr rfl, .inr rfl, .inr rfl, .inr rfl, .inr rfl, .inr rfl, .inr rfl, .inr rfl⟩ sub h

theorem Kept.u2560 {F : Nat} {r x : State} {f_msiSent} {f_msixPend} {f_mgtIrq} {f_brc} {f_pnl} (h : Kept F r x) (sub : F ||| 2560 = F) :
    Kept F r ⟨x.pending, x.regs, x.shadow, x.now, f_msiSent, x.msixMask, f_msixPend, f_mgtIrq, x.ras, x.crv, x.log, x.scn, x.ing, x.mbc, x.syn, x.clusters, x.plc, f_brc, x.lyr, f_pnl, x.bkl, x.blt, x.dram, x.dimms, x.timBase, x.timAnchor, x.timRate, x.tim, x.net, x.fov, x.cal, x.calNext, x.dmc, x.nvs, x.lanes, x.mgt, x.pwr, x.thm, x.secu, x.svc, x.poison, x.out, x.free⟩ :=
  Kept.step (G := 2560) (s := x) ⟨rfl, Nat.le_refl _, Nat.le_refl _, id, id, .inr rfl, .inr rfl, .inr rfl, .inr rfl, .inr rfl, .inr rfl, .inr rfl, .inr rfl, .inr rfl, .inl rfl, .inr rfl, .inl rfl, .inr rfl, .inr rfl, .inr rfl, .inr rfl, .inr rfl, .inr rfl, .inr rfl, .inr rfl, .inr rfl, .inr rfl, .inr rfl, .inr rfl, .inr rfl, .inr rfl, .inr rfl, .inr rfl, .inr rfl, .inr rfl, .inr rfl, .inr rfl, .inr rfl, .inr rfl, .inr rfl, .inr rfl, .inr rfl, .inr rfl⟩ sub h

theorem Kept.u4096 {F : Nat} {r x : State} {f_msiSent} {f_msixPend} {f_mgtIrq} {f_bkl} (h : Kept F r x) (sub : F ||| 4096 = F) :
    Kept F r ⟨x.pending, x.regs, x.shadow, x.now, f_msiSent, x.msixMask, f_msixPend, f_mgtIrq, x.ras, x.crv, x.log, x.scn, x.ing, x.mbc, x.syn, x.clusters, x.plc, x.brc, x.lyr, x.pnl, f_bkl, x.blt, x.dram, x.dimms, x.timBase, x.timAnchor, x.timRate, x.tim, x.net, x.fov, x.cal, x.calNext, x.dmc, x.nvs, x.lanes, x.mgt, x.pwr, x.thm, x.secu, x.svc, x.poison, x.out, x.free⟩ :=
  Kept.step (G := 4096) (s := x) ⟨rfl, Nat.le_refl _, Nat.le_refl _, id, id, .inr rfl, .inr rfl, .inr rfl, .inr rfl, .inr rfl, .inr rfl, .inr rfl, .inr rfl, .inr rfl, .inr rfl, .inr rfl, .inr rfl, .inl rfl, .inr rfl, .inr rfl, .inr rfl, .inr rfl, .inr rfl, .inr rfl, .inr rfl, .inr rfl, .inr rfl, .inr rfl, .inr rfl, .inr rfl, .inr rfl, .inr rfl, .inr rfl, .inr rfl, .inr rfl, .inr rfl, .inr rfl, .inr rfl, .inr rfl, .inr rfl, .inr rfl, .inr rfl, .inr rfl⟩ sub h

theorem Kept.u5824 {F : Nat} {r x : State} {f_msiSent} {f_msixPend} {f_mgtIrq} {f_syn} {f_clusters} {f_brc} {f_lyr} {f_bkl} (h : Kept F r x) (sub : F ||| 5824 = F) :
    Kept F r ⟨x.pending, x.regs, x.shadow, x.now, f_msiSent, x.msixMask, f_msixPend, f_mgtIrq, x.ras, x.crv, x.log, x.scn, x.ing, x.mbc, f_syn, f_clusters, x.plc, f_brc, f_lyr, x.pnl, f_bkl, x.blt, x.dram, x.dimms, x.timBase, x.timAnchor, x.timRate, x.tim, x.net, x.fov, x.cal, x.calNext, x.dmc, x.nvs, x.lanes, x.mgt, x.pwr, x.thm, x.secu, x.svc, x.poison, x.out, x.free⟩ :=
  Kept.step (G := 5824) (s := x) ⟨rfl, Nat.le_refl _, Nat.le_refl _, id, id, .inr rfl, .inr rfl, .inr rfl, .inr rfl, .inr rfl, .inr rfl, .inl rfl, .inl rfl, .inr rfl, .inl rfl, .inl rfl, .inr rfl, .inl rfl, .inr rfl, .inr rfl, .inr rfl, .inr rfl, .inr rfl, .inr rfl, .inr rfl, .inr rfl, .inr rfl, .inr rfl, .inr rfl, .inr rfl, .inr rfl, .inr rfl, .inr rfl, .inr rfl, .inr rfl, .inr rfl, .inr rfl, .inr rfl, .inr rfl, .inr rfl, .inr rfl, .inr rfl, .inr rfl⟩ sub h

theorem Kept.u8192 {F : Nat} {r x : State} {f_msiSent} {f_msixPend} {f_mgtIrq} {f_blt} (h : Kept F r x) (sub : F ||| 8192 = F) :
    Kept F r ⟨x.pending, x.regs, x.shadow, x.now, f_msiSent, x.msixMask, f_msixPend, f_mgtIrq, x.ras, x.crv, x.log, x.scn, x.ing, x.mbc, x.syn, x.clusters, x.plc, x.brc, x.lyr, x.pnl, x.bkl, f_blt, x.dram, x.dimms, x.timBase, x.timAnchor, x.timRate, x.tim, x.net, x.fov, x.cal, x.calNext, x.dmc, x.nvs, x.lanes, x.mgt, x.pwr, x.thm, x.secu, x.svc, x.poison, x.out, x.free⟩ :=
  Kept.step (G := 8192) (s := x) ⟨rfl, Nat.le_refl _, Nat.le_refl _, id, id, .inr rfl, .inr rfl, .inr rfl, .inr rfl, .inr rfl, .inr rfl, .inr rfl, .inr rfl, .inr rfl, .inr rfl, .inr rfl, .inr rfl, .inr rfl, .inl rfl, .inr rfl, .inr rfl, .inr rfl, .inr rfl, .inr rfl, .inr rfl, .inr rfl, .inr rfl, .inr rfl, .inr rfl, .inr rfl, .inr rfl, .inr rfl, .inr rfl, .inr rfl, .inr rfl, .inr rfl, .inr rfl, .inr rfl, .inr rfl, .inr rfl, .inr rfl, .inr rfl, .inr rfl⟩ sub h

theorem Kept.u32768 {F : Nat} {r x : State} {f_msiSent} {f_msixPend} {f_mgtIrq} {f_poison} (h : Kept F r x) (sub : F ||| 32768 = F) :
    Kept F r ⟨x.pending, x.regs, x.shadow, x.now, f_msiSent, x.msixMask, f_msixPend, f_mgtIrq, x.ras, x.crv, x.log, x.scn, x.ing, x.mbc, x.syn, x.clusters, x.plc, x.brc, x.lyr, x.pnl, x.bkl, x.blt, x.dram, x.dimms, x.timBase, x.timAnchor, x.timRate, x.tim, x.net, x.fov, x.cal, x.calNext, x.dmc, x.nvs, x.lanes, x.mgt, x.pwr, x.thm, x.secu, x.svc, f_poison, x.out, x.free⟩ :=
  Kept.step (G := 32768) (s := x) ⟨rfl, Nat.le_refl _, Nat.le_refl _, id, id, .inr rfl, .inr rfl, .inr rfl, .inr rfl, .inr rfl, .inr rfl, .inr rfl, .inr rfl, .inr rfl, .inr rfl, .inr rfl, .inr rfl, .inr rfl, .inr rfl, .inr rfl, .inl rfl, .inr rfl, .inr rfl, .inr rfl, .inr rfl, .inr rfl, .inr rfl, .inr rfl, .inr rfl, .inr rfl, .inr rfl, .inr rfl, .inr rfl, .inr rfl, .inr rfl, .inr rfl, .inr rfl, .inr rfl, .inr rfl, .inr rfl, .inr rfl, .inr rfl, .inr rfl⟩ sub h

theorem Kept.u65536 {F : Nat} {r x : State} {f_msiSent} {f_msixPend} {f_mgtIrq} {f_dimms} (h : Kept F r x) (sub : F ||| 65536 = F) :
    Kept F r ⟨x.pending, x.regs, x.shadow, x.now, f_msiSent, x.msixMask, f_msixPend, f_mgtIrq, x.ras, x.crv, x.log, x.scn, x.ing, x.mbc, x.syn, x.clusters, x.plc, x.brc, x.lyr, x.pnl, x.bkl, x.blt, x.dram, f_dimms, x.timBase, x.timAnchor, x.timRate, x.tim, x.net, x.fov, x.cal, x.calNext, x.dmc, x.nvs, x.lanes, x.mgt, x.pwr, x.thm, x.secu, x.svc, x.poison, x.out, x.free⟩ :=
  Kept.step (G := 65536) (s := x) ⟨rfl, Nat.le_refl _, Nat.le_refl _, id, id, .inr rfl, .inr rfl, .inr rfl, .inr rfl, .inr rfl, .inr rfl, .inr rfl, .inr rfl, .inr rfl, .inr rfl, .inr rfl, .inr rfl, .inr rfl, .inr rfl, .inr rfl, .inr rfl, .inl rfl, .inr rfl, .inr rfl, .inr rfl, .inr rfl, .inr rfl, .inr rfl, .inr rfl, .inr rfl, .inr rfl, .inr rfl, .inr rfl, .inr rfl, .inr rfl, .inr rfl, .inr rfl, .inr rfl, .inr rfl, .inr rfl, .inr rfl, .inr rfl, .inr rfl⟩ sub h

theorem Kept.u917504 {F : Nat} {r x : State} {f_msiSent} {f_msixPend} {f_mgtIrq} {f_timBase} {f_timAnchor} {f_timRate} (h : Kept F r x) (sub : F ||| 917504 = F) :
    Kept F r ⟨x.pending, x.regs, x.shadow, x.now, f_msiSent, x.msixMask, f_msixPend, f_mgtIrq, x.ras, x.crv, x.log, x.scn, x.ing, x.mbc, x.syn, x.clusters, x.plc, x.brc, x.lyr, x.pnl, x.bkl, x.blt, x.dram, x.dimms, f_timBase, f_timAnchor, f_timRate, x.tim, x.net, x.fov, x.cal, x.calNext, x.dmc, x.nvs, x.lanes, x.mgt, x.pwr, x.thm, x.secu, x.svc, x.poison, x.out, x.free⟩ :=
  Kept.step (G := 917504) (s := x) ⟨rfl, Nat.le_refl _, Nat.le_refl _, id, id, .inr rfl, .inr rfl, .inr rfl, .inr rfl, .inr rfl, .inr rfl, .inr rfl, .inr rfl, .inr rfl, .inr rfl, .inr rfl, .inr rfl, .inr rfl, .inr rfl, .inr rfl, .inr rfl, .inr rfl, .inl rfl, .inl rfl, .inl rfl, .inr rfl, .inr rfl, .inr rfl, .inr rfl, .inr rfl, .inr rfl, .inr rfl, .inr rfl, .inr rfl, .inr rfl, .inr rfl, .inr rfl, .inr rfl, .inr rfl, .inr rfl, .inr rfl, .inr rfl, .inr rfl⟩ sub h

theorem Kept.u1048576 {F : Nat} {r x : State} {f_msiSent} {f_msixPend} {f_mgtIrq} {f_tim} (h : Kept F r x) (sub : F ||| 1048576 = F) :
    Kept F r ⟨x.pending, x.regs, x.shadow, x.now, f_msiSent, x.msixMask, f_msixPend, f_mgtIrq, x.ras, x.crv, x.log, x.scn, x.ing, x.mbc, x.syn, x.clusters, x.plc, x.brc, x.lyr, x.pnl, x.bkl, x.blt, x.dram, x.dimms, x.timBase, x.timAnchor, x.timRate, f_tim, x.net, x.fov, x.cal, x.calNext, x.dmc, x.nvs, x.lanes, x.mgt, x.pwr, x.thm, x.secu, x.svc, x.poison, x.out, x.free⟩ :=
  Kept.step (G := 1048576) (s := x) ⟨rfl, Nat.le_refl _, Nat.le_refl _, id, id, .inr rfl, .inr rfl, .inr rfl, .inr rfl, .inr rfl, .inr rfl, .inr rfl, .inr rfl, .inr rfl, .inr rfl, .inr rfl, .inr rfl, .inr rfl, .inr rfl, .inr rfl, .inr rfl, .inr rfl, .inr rfl, .inr rfl, .inr rfl, .inl rfl, .inr rfl, .inr rfl, .inr rfl, .inr rfl, .inr rfl, .inr rfl, .inr rfl, .inr rfl, .inr rfl, .inr rfl, .inr rfl, .inr rfl, .inr rfl, .inr rfl, .inr rfl, .inr rfl, .inr rfl⟩ sub h

theorem Kept.u1966083 {F : Nat} {r x : State} {f_msiSent} {f_msixPend} {f_mgtIrq} {f_ras} {f_crv} {f_timBase} {f_timAnchor} {f_timRate} {f_tim} (h : Kept F r x) (sub : F ||| 1966083 = F) :
    Kept F r ⟨x.pending, x.regs, x.shadow, x.now, f_msiSent, x.msixMask, f_msixPend, f_mgtIrq, f_ras, f_crv, x.log, x.scn, x.ing, x.mbc, x.syn, x.clusters, x.plc, x.brc, x.lyr, x.pnl, x.bkl, x.blt, x.dram, x.dimms, f_timBase, f_timAnchor, f_timRate, f_tim, x.net, x.fov, x.cal, x.calNext, x.dmc, x.nvs, x.lanes, x.mgt, x.pwr, x.thm, x.secu, x.svc, x.poison, x.out, x.free⟩ :=
  Kept.step (G := 1966083) (s := x) ⟨rfl, Nat.le_refl _, Nat.le_refl _, id, id, .inl rfl, .inl rfl, .inr rfl, .inr rfl, .inr rfl, .inr rfl, .inr rfl, .inr rfl, .inr rfl, .inr rfl, .inr rfl, .inr rfl, .inr rfl, .inr rfl, .inr rfl, .inr rfl, .inr rfl, .inl rfl, .inl rfl, .inl rfl, .inl rfl, .inr rfl, .inr rfl, .inr rfl, .inr rfl, .inr rfl, .inr rfl, .inr rfl, .inr rfl, .inr rfl, .inr rfl, .inr rfl, .inr rfl, .inr rfl, .inr rfl, .inr rfl, .inr rfl, .inr rfl⟩ sub h

theorem Kept.u2097152 {F : Nat} {r x : State} {f_msiSent} {f_msixPend} {f_mgtIrq} {f_net} (h : Kept F r x) (sub : F ||| 2097152 = F) :
    Kept F r ⟨x.pending, x.regs, x.shadow, x.now, f_msiSent, x.msixMask, f_msixPend, f_mgtIrq, x.ras, x.crv, x.log, x.scn, x.ing, x.mbc, x.syn, x.clusters, x.plc, x.brc, x.lyr, x.pnl, x.bkl, x.blt, x.dram, x.dimms, x.timBase, x.timAnchor, x.timRate, x.tim, f_net, x.fov, x.cal, x.calNext, x.dmc, x.nvs, x.lanes, x.mgt, x.pwr, x.thm, x.secu, x.svc, x.poison, x.out, x.free⟩ :=
  Kept.step (G := 2097152) (s := x) ⟨rfl, Nat.le_refl _, Nat.le_refl _, id, id, .inr rfl, .inr rfl, .inr rfl, .inr rfl, .inr rfl, .inr rfl, .inr rfl, .inr rfl, .inr rfl, .inr rfl, .inr rfl, .inr rfl, .inr rfl, .inr rfl, .inr rfl, .inr rfl, .inr rfl, .inr rfl, .inr rfl, .inr rfl, .inr rfl, .inl rfl, .inr rfl, .inr rfl, .inr rfl, .inr rfl, .inr rfl, .inr rfl, .inr rfl, .inr rfl, .inr rfl, .inr rfl, .inr rfl, .inr rfl, .inr rfl, .inr rfl, .inr rfl, .inr rfl⟩ sub h

theorem Kept.u4194304 {F : Nat} {r x : State} {f_msiSent} {f_msixPend} {f_mgtIrq} {f_fov} (h : Kept F r x) (sub : F ||| 4194304 = F) :
    Kept F r ⟨x.pending, x.regs, x.shadow, x.now, f_msiSent, x.msixMask, f_msixPend, f_mgtIrq, x.ras, x.crv, x.log, x.scn, x.ing, x.mbc, x.syn, x.clusters, x.plc, x.brc, x.lyr, x.pnl, x.bkl, x.blt, x.dram, x.dimms, x.timBase, x.timAnchor, x.timRate, x.tim, x.net, f_fov, x.cal, x.calNext, x.dmc, x.nvs, x.lanes, x.mgt, x.pwr, x.thm, x.secu, x.svc, x.poison, x.out, x.free⟩ :=
  Kept.step (G := 4194304) (s := x) ⟨rfl, Nat.le_refl _, Nat.le_refl _, id, id, .inr rfl, .inr rfl, .inr rfl, .inr rfl, .inr rfl, .inr rfl, .inr rfl, .inr rfl, .inr rfl, .inr rfl, .inr rfl, .inr rfl, .inr rfl, .inr rfl, .inr rfl, .inr rfl, .inr rfl, .inr rfl, .inr rfl, .inr rfl, .inr rfl, .inr rfl, .inl rfl, .inr rfl, .inr rfl, .inr rfl, .inr rfl, .inr rfl, .inr rfl, .inr rfl, .inr rfl, .inr rfl, .inr rfl, .inr rfl, .inr rfl, .inr rfl, .inr rfl, .inr rfl⟩ sub h

theorem Kept.u8388608 {F : Nat} {r x : State} {f_msiSent} {f_msixPend} {f_mgtIrq} {f_cal} (h : Kept F r x) (sub : F ||| 8388608 = F) :
    Kept F r ⟨x.pending, x.regs, x.shadow, x.now, f_msiSent, x.msixMask, f_msixPend, f_mgtIrq, x.ras, x.crv, x.log, x.scn, x.ing, x.mbc, x.syn, x.clusters, x.plc, x.brc, x.lyr, x.pnl, x.bkl, x.blt, x.dram, x.dimms, x.timBase, x.timAnchor, x.timRate, x.tim, x.net, x.fov, f_cal, x.calNext, x.dmc, x.nvs, x.lanes, x.mgt, x.pwr, x.thm, x.secu, x.svc, x.poison, x.out, x.free⟩ :=
  Kept.step (G := 8388608) (s := x) ⟨rfl, Nat.le_refl _, Nat.le_refl _, id, id, .inr rfl, .inr rfl, .inr rfl, .inr rfl, .inr rfl, .inr rfl, .inr rfl, .inr rfl, .inr rfl, .inr rfl, .inr rfl, .inr rfl, .inr rfl, .inr rfl, .inr rfl, .inr rfl, .inr rfl, .inr rfl, .inr rfl, .inr rfl, .inr rfl, .inr rfl, .inr rfl, .inl rfl, .inr rfl, .inr rfl, .inr rfl, .inr rfl, .inr rfl, .inr rfl, .inr rfl, .inr rfl, .inr rfl, .inr rfl, .inr rfl, .inr rfl, .inr rfl, .inr rfl⟩ sub h

theorem Kept.u16777216 {F : Nat} {r x : State} {f_msiSent} {f_msixPend} {f_mgtIrq} {f_dmc} (h : Kept F r x) (sub : F ||| 16777216 = F) :
    Kept F r ⟨x.pending, x.regs, x.shadow, x.now, f_msiSent, x.msixMask, f_msixPend, f_mgtIrq, x.ras, x.crv, x.log, x.scn, x.ing, x.mbc, x.syn, x.clusters, x.plc, x.brc, x.lyr, x.pnl, x.bkl, x.blt, x.dram, x.dimms, x.timBase, x.timAnchor, x.timRate, x.tim, x.net, x.fov, x.cal, x.calNext, f_dmc, x.nvs, x.lanes, x.mgt, x.pwr, x.thm, x.secu, x.svc, x.poison, x.out, x.free⟩ :=
  Kept.step (G := 16777216) (s := x) ⟨rfl, Nat.le_refl _, Nat.le_refl _, id, id, .inr rfl, .inr rfl, .inr rfl, .inr rfl, .inr rfl, .inr rfl, .inr rfl, .inr rfl, .inr rfl, .inr rfl, .inr rfl, .inr rfl, .inr rfl, .inr rfl, .inr rfl, .inr rfl, .inr rfl, .inr rfl, .inr rfl, .inr rfl, .inr rfl, .inr rfl, .inr rfl, .inr rfl, .inl rfl, .inr rfl, .inr rfl, .inr rfl, .inr rfl, .inr rfl, .inr rfl, .inr rfl, .inr rfl, .inr rfl, .inr rfl, .inr rfl, .inr rfl, .inr rfl⟩ sub h

theorem Kept.u33554432 {F : Nat} {r x : State} {f_msiSent} {f_msixPend} {f_mgtIrq} {f_nvs} (h : Kept F r x) (sub : F ||| 33554432 = F) :
    Kept F r ⟨x.pending, x.regs, x.shadow, x.now, f_msiSent, x.msixMask, f_msixPend, f_mgtIrq, x.ras, x.crv, x.log, x.scn, x.ing, x.mbc, x.syn, x.clusters, x.plc, x.brc, x.lyr, x.pnl, x.bkl, x.blt, x.dram, x.dimms, x.timBase, x.timAnchor, x.timRate, x.tim, x.net, x.fov, x.cal, x.calNext, x.dmc, f_nvs, x.lanes, x.mgt, x.pwr, x.thm, x.secu, x.svc, x.poison, x.out, x.free⟩ :=
  Kept.step (G := 33554432) (s := x) ⟨rfl, Nat.le_refl _, Nat.le_refl _, id, id, .inr rfl, .inr rfl, .inr rfl, .inr rfl, .inr rfl, .inr rfl, .inr rfl, .inr rfl, .inr rfl, .inr rfl, .inr rfl, .inr rfl, .inr rfl, .inr rfl, .inr rfl, .inr rfl, .inr rfl, .inr rfl, .inr rfl, .inr rfl, .inr rfl, .inr rfl, .inr rfl, .inr rfl, .inr rfl, .inl rfl, .inr rfl, .inr rfl, .inr rfl, .inr rfl, .inr rfl, .inr rfl, .inr rfl, .inr rfl, .inr rfl, .inr rfl, .inr rfl, .inr rfl⟩ sub h

theorem Kept.u67108864 {F : Nat} {r x : State} {f_msiSent} {f_msixPend} {f_mgtIrq} {f_lanes} (h : Kept F r x) (sub : F ||| 67108864 = F) :
    Kept F r ⟨x.pending, x.regs, x.shadow, x.now, f_msiSent, x.msixMask, f_msixPend, f_mgtIrq, x.ras, x.crv, x.log, x.scn, x.ing, x.mbc, x.syn, x.clusters, x.plc, x.brc, x.lyr, x.pnl, x.bkl, x.blt, x.dram, x.dimms, x.timBase, x.timAnchor, x.timRate, x.tim, x.net, x.fov, x.cal, x.calNext, x.dmc, x.nvs, f_lanes, x.mgt, x.pwr, x.thm, x.secu, x.svc, x.poison, x.out, x.free⟩ :=
  Kept.step (G := 67108864) (s := x) ⟨rfl, Nat.le_refl _, Nat.le_refl _, id, id, .inr rfl, .inr rfl, .inr rfl, .inr rfl, .inr rfl, .inr rfl, .inr rfl, .inr rfl, .inr rfl, .inr rfl, .inr rfl, .inr rfl, .inr rfl, .inr rfl, .inr rfl, .inr rfl, .inr rfl, .inr rfl, .inr rfl, .inr rfl, .inr rfl, .inr rfl, .inr rfl, .inr rfl, .inr rfl, .inr rfl, .inl rfl, .inr rfl, .inr rfl, .inr rfl, .inr rfl, .inr rfl, .inr rfl, .inr rfl, .inr rfl, .inr rfl, .inr rfl, .inr rfl⟩ sub h

theorem Kept.u134217728 {F : Nat} {r x : State} {f_msiSent} {f_msixPend} {f_mgtIrq} {f_mgt} (h : Kept F r x) (sub : F ||| 134217728 = F) :
    Kept F r ⟨x.pending, x.regs, x.shadow, x.now, f_msiSent, x.msixMask, f_msixPend, f_mgtIrq, x.ras, x.crv, x.log, x.scn, x.ing, x.mbc, x.syn, x.clusters, x.plc, x.brc, x.lyr, x.pnl, x.bkl, x.blt, x.dram, x.dimms, x.timBase, x.timAnchor, x.timRate, x.tim, x.net, x.fov, x.cal, x.calNext, x.dmc, x.nvs, x.lanes, f_mgt, x.pwr, x.thm, x.secu, x.svc, x.poison, x.out, x.free⟩ :=
  Kept.step (G := 134217728) (s := x) ⟨rfl, Nat.le_refl _, Nat.le_refl _, id, id, .inr rfl, .inr rfl, .inr rfl, .inr rfl, .inr rfl, .inr rfl, .inr rfl, .inr rfl, .inr rfl, .inr rfl, .inr rfl, .inr rfl, .inr rfl, .inr rfl, .inr rfl, .inr rfl, .inr rfl, .inr rfl, .inr rfl, .inr rfl, .inr rfl, .inr rfl, .inr rfl, .inr rfl, .inr rfl, .inr rfl, .inr rfl, .inl rfl, .inr rfl, .inr rfl, .inr rfl, .inr rfl, .inr rfl, .inr rfl, .inr rfl, .inr rfl, .inr rfl, .inr rfl⟩ sub h

theorem Kept.u268435456 {F : Nat} {r x : State} {f_msiSent} {f_msixPend} {f_mgtIrq} {f_pwr} (h : Kept F r x) (sub : F ||| 268435456 = F) :
    Kept F r ⟨x.pending, x.regs, x.shadow, x.now, f_msiSent, x.msixMask, f_msixPend, f_mgtIrq, x.ras, x.crv, x.log, x.scn, x.ing, x.mbc, x.syn, x.clusters, x.plc, x.brc, x.lyr, x.pnl, x.bkl, x.blt, x.dram, x.dimms, x.timBase, x.timAnchor, x.timRate, x.tim, x.net, x.fov, x.cal, x.calNext, x.dmc, x.nvs, x.lanes, x.mgt, f_pwr, x.thm, x.secu, x.svc, x.poison, x.out, x.free⟩ :=
  Kept.step (G := 268435456) (s := x) ⟨rfl, Nat.le_refl _, Nat.le_refl _, id, id, .inr rfl, .inr rfl, .inr rfl, .inr rfl, .inr rfl, .inr rfl, .inr rfl, .inr rfl, .inr rfl, .inr rfl, .inr rfl, .inr rfl, .inr rfl, .inr rfl, .inr rfl, .inr rfl, .inr rfl, .inr rfl, .inr rfl, .inr rfl, .inr rfl, .inr rfl, .inr rfl, .inr rfl, .inr rfl, .inr rfl, .inr rfl, .inr rfl, .inl rfl, .inr rfl, .inr rfl, .inr rfl, .inr rfl, .inr rfl, .inr rfl, .inr rfl, .inr rfl, .inr rfl⟩ sub h

theorem Kept.u268435460 {F : Nat} {r x : State} {f_msiSent} {f_msixPend} {f_mgtIrq} {f_log} {f_pwr} (h : Kept F r x) (sub : F ||| 268435460 = F) :
    Kept F r ⟨x.pending, x.regs, x.shadow, x.now, f_msiSent, x.msixMask, f_msixPend, f_mgtIrq, x.ras, x.crv, f_log, x.scn, x.ing, x.mbc, x.syn, x.clusters, x.plc, x.brc, x.lyr, x.pnl, x.bkl, x.blt, x.dram, x.dimms, x.timBase, x.timAnchor, x.timRate, x.tim, x.net, x.fov, x.cal, x.calNext, x.dmc, x.nvs, x.lanes, x.mgt, f_pwr, x.thm, x.secu, x.svc, x.poison, x.out, x.free⟩ :=
  Kept.step (G := 268435460) (s := x) ⟨rfl, Nat.le_refl _, Nat.le_refl _, id, id, .inr rfl, .inr rfl, .inl rfl, .inr rfl, .inr rfl, .inr rfl, .inr rfl, .inr rfl, .inr rfl, .inr rfl, .inr rfl, .inr rfl, .inr rfl, .inr rfl, .inr rfl, .inr rfl, .inr rfl, .inr rfl, .inr rfl, .inr rfl, .inr rfl, .inr rfl, .inr rfl, .inr rfl, .inr rfl, .inr rfl, .inr rfl, .inr rfl, .inl rfl, .inr rfl, .inr rfl, .inr rfl, .inr rfl, .inr rfl, .inr rfl, .inr rfl, .inr rfl, .inr rfl⟩ sub h

theorem Kept.u402653184 {F : Nat} {r x : State} {f_msiSent} {f_msixPend} {f_mgtIrq} {f_mgt} {f_pwr} (h : Kept F r x) (sub : F ||| 402653184 = F) :
    Kept F r ⟨x.pending, x.regs, x.shadow, x.now, f_msiSent, x.msixMask, f_msixPend, f_mgtIrq, x.ras, x.crv, x.log, x.scn, x.ing, x.mbc, x.syn, x.clusters, x.plc, x.brc, x.lyr, x.pnl, x.bkl, x.blt, x.dram, x.dimms, x.timBase, x.timAnchor, x.timRate, x.tim, x.net, x.fov, x.cal, x.calNext, x.dmc, x.nvs, x.lanes, f_mgt, f_pwr, x.thm, x.secu, x.svc, x.poison, x.out, x.free⟩ :=
  Kept.step (G := 402653184) (s := x) ⟨rfl, Nat.le_refl _, Nat.le_refl _, id, id, .inr rfl, .inr rfl, .inr rfl, .inr rfl, .inr rfl, .inr rfl, .inr rfl, .inr rfl, .inr rfl, .inr rfl, .inr rfl, .inr rfl, .inr rfl, .inr rfl, .inr rfl, .inr rfl, .inr rfl, .inr rfl, .inr rfl, .inr rfl, .inr rfl, .inr rfl, .inr rfl, .inr rfl, .inr rfl, .inr rfl, .inr rfl, .inl rfl, .inl rfl, .inr rfl, .inr rfl, .inr rfl, .inr rfl, .inr rfl, .inr rfl, .inr rfl, .inr rfl, .inr rfl⟩ sub h

theorem Kept.u536870912 {F : Nat} {r x : State} {f_msiSent} {f_msixPend} {f_mgtIrq} {f_thm} (h : Kept F r x) (sub : F ||| 536870912 = F) :
    Kept F r ⟨x.pending, x.regs, x.shadow, x.now, f_msiSent, x.msixMask, f_msixPend, f_mgtIrq, x.ras, x.crv, x.log, x.scn, x.ing, x.mbc, x.syn, x.clusters, x.plc, x.brc, x.lyr, x.pnl, x.bkl, x.blt, x.dram, x.dimms, x.timBase, x.timAnchor, x.timRate, x.tim, x.net, x.fov, x.cal, x.calNext, x.dmc, x.nvs, x.lanes, x.mgt, x.pwr, f_thm, x.secu, x.svc, x.poison, x.out, x.free⟩ :=
  Kept.step (G := 536870912) (s := x) ⟨rfl, Nat.le_refl _, Nat.le_refl _, id, id, .inr rfl, .inr rfl, .inr rfl, .inr rfl, .inr rfl, .inr rfl, .inr rfl, .inr rfl, .inr rfl, .inr rfl, .inr rfl, .inr rfl, .inr rfl, .inr rfl, .inr rfl, .inr rfl, .inr rfl, .inr rfl, .inr rfl, .inr rfl, .inr rfl, .inr rfl, .inr rfl, .inr rfl, .inr rfl, .inr rfl, .inr rfl, .inr rfl, .inr rfl, .inl rfl, .inr rfl, .inr rfl, .inr rfl, .inr rfl, .inr rfl, .inr rfl, .inr rfl, .inr rfl⟩ sub h

theorem Kept.u1073741824 {F : Nat} {r x : State} {f_msiSent} {f_msixPend} {f_mgtIrq} {f_secu} (h : Kept F r x) (sub : F ||| 1073741824 = F) :
    Kept F r ⟨x.pending, x.regs, x.shadow, x.now, f_msiSent, x.msixMask, f_msixPend, f_mgtIrq, x.ras, x.crv, x.log, x.scn, x.ing, x.mbc, x.syn, x.clusters, x.plc, x.brc, x.lyr, x.pnl, x.bkl, x.blt, x.dram, x.dimms, x.timBase, x.timAnchor, x.timRate, x.tim, x.net, x.fov, x.cal, x.calNext, x.dmc, x.nvs, x.lanes, x.mgt, x.pwr, x.thm, f_secu, x.svc, x.poison, x.out, x.free⟩ :=
  Kept.step (G := 1073741824) (s := x) ⟨rfl, Nat.le_refl _, Nat.le_refl _, id, id, .inr rfl, .inr rfl, .inr rfl, .inr rfl, .inr rfl, .inr rfl, .inr rfl, .inr rfl, .inr rfl, .inr rfl, .inr rfl, .inr rfl, .inr rfl, .inr rfl, .inr rfl, .inr rfl, .inr rfl, .inr rfl, .inr rfl, .inr rfl, .inr rfl, .inr rfl, .inr rfl, .inr rfl, .inr rfl, .inr rfl, .inr rfl, .inr rfl, .inr rfl, .inr rfl, .inl rfl, .inr rfl, .inr rfl, .inr rfl, .inr rfl, .inr rfl, .inr rfl, .inr rfl⟩ sub h

theorem Kept.u1207959552 {F : Nat} {r x : State} {f_msiSent} {f_msixPend} {f_mgtIrq} {f_mgt} {f_secu} (h : Kept F r x) (sub : F ||| 1207959552 = F) :
    Kept F r ⟨x.pending, x.regs, x.shadow, x.now, f_msiSent, x.msixMask, f_msixPend, f_mgtIrq, x.ras, x.crv, x.log, x.scn, x.ing, x.mbc, x.syn, x.clusters, x.plc, x.brc, x.lyr, x.pnl, x.bkl, x.blt, x.dram, x.dimms, x.timBase, x.timAnchor, x.timRate, x.tim, x.net, x.fov, x.cal, x.calNext, x.dmc, x.nvs, x.lanes, f_mgt, x.pwr, x.thm, f_secu, x.svc, x.poison, x.out, x.free⟩ :=
  Kept.step (G := 1207959552) (s := x) ⟨rfl, Nat.le_refl _, Nat.le_refl _, id, id, .inr rfl, .inr rfl, .inr rfl, .inr rfl, .inr rfl, .inr rfl, .inr rfl, .inr rfl, .inr rfl, .inr rfl, .inr rfl, .inr rfl, .inr rfl, .inr rfl, .inr rfl, .inr rfl, .inr rfl, .inr rfl, .inr rfl, .inr rfl, .inr rfl, .inr rfl, .inr rfl, .inr rfl, .inr rfl, .inr rfl, .inr rfl, .inl rfl, .inr rfl, .inr rfl, .inl rfl, .inr rfl, .inr rfl, .inr rfl, .inr rfl, .inr rfl, .inr rfl, .inr rfl⟩ sub h

theorem Kept.u1342177280 {F : Nat} {r x : State} {f_msiSent} {f_msixPend} {f_mgtIrq} {f_pwr} {f_secu} (h : Kept F r x) (sub : F ||| 1342177280 = F) :
    Kept F r ⟨x.pending, x.regs, x.shadow, x.now, f_msiSent, x.msixMask, f_msixPend, f_mgtIrq, x.ras, x.crv, x.log, x.scn, x.ing, x.mbc, x.syn, x.clusters, x.plc, x.brc, x.lyr, x.pnl, x.bkl, x.blt, x.dram, x.dimms, x.timBase, x.timAnchor, x.timRate, x.tim, x.net, x.fov, x.cal, x.calNext, x.dmc, x.nvs, x.lanes, x.mgt, f_pwr, x.thm, f_secu, x.svc, x.poison, x.out, x.free⟩ :=
  Kept.step (G := 1342177280) (s := x) ⟨rfl, Nat.le_refl _, Nat.le_refl _, id, id, .inr rfl, .inr rfl, .inr rfl, .inr rfl, .inr rfl, .inr rfl, .inr rfl, .inr rfl, .inr rfl, .inr rfl, .inr rfl, .inr rfl, .inr rfl, .inr rfl, .inr rfl, .inr rfl, .inr rfl, .inr rfl, .inr rfl, .inr rfl, .inr rfl, .inr rfl, .inr rfl, .inr rfl, .inr rfl, .inr rfl, .inr rfl, .inr rfl, .inl rfl, .inr rfl, .inl rfl, .inr rfl, .inr rfl, .inr rfl, .inr rfl, .inr rfl, .inr rfl, .inr rfl⟩ sub h

theorem Kept.u2147483648 {F : Nat} {r x : State} {f_msiSent} {f_msixPend} {f_mgtIrq} {f_svc} (h : Kept F r x) (sub : F ||| 2147483648 = F) :
    Kept F r ⟨x.pending, x.regs, x.shadow, x.now, f_msiSent, x.msixMask, f_msixPend, f_mgtIrq, x.ras, x.crv, x.log, x.scn, x.ing, x.mbc, x.syn, x.clusters, x.plc, x.brc, x.lyr, x.pnl, x.bkl, x.blt, x.dram, x.dimms, x.timBase, x.timAnchor, x.timRate, x.tim, x.net, x.fov, x.cal, x.calNext, x.dmc, x.nvs, x.lanes, x.mgt, x.pwr, x.thm, x.secu, f_svc, x.poison, x.out, x.free⟩ :=
  Kept.step (G := 2147483648) (s := x) ⟨rfl, Nat.le_refl _, Nat.le_refl _, id, id, .inr rfl, .inr rfl, .inr rfl, .inr rfl, .inr rfl, .inr rfl, .inr rfl, .inr rfl, .inr rfl, .inr rfl, .inr rfl, .inr rfl, .inr rfl, .inr rfl, .inr rfl, .inr rfl, .inr rfl, .inr rfl, .inr rfl, .inr rfl, .inr rfl, .inr rfl, .inr rfl, .inr rfl, .inr rfl, .inr rfl, .inr rfl, .inr rfl, .inr rfl, .inr rfl, .inr rfl, .inl rfl, .inr rfl, .inr rfl, .inr rfl, .inr rfl, .inr rfl, .inr rfl⟩ sub h

theorem Kept.u2415919104 {F : Nat} {r x : State} {f_msiSent} {f_msixPend} {f_mgtIrq} {f_pwr} {f_svc} (h : Kept F r x) (sub : F ||| 2415919104 = F) :
    Kept F r ⟨x.pending, x.regs, x.shadow, x.now, f_msiSent, x.msixMask, f_msixPend, f_mgtIrq, x.ras, x.crv, x.log, x.scn, x.ing, x.mbc, x.syn, x.clusters, x.plc, x.brc, x.lyr, x.pnl, x.bkl, x.blt, x.dram, x.dimms, x.timBase, x.timAnchor, x.timRate, x.tim, x.net, x.fov, x.cal, x.calNext, x.dmc, x.nvs, x.lanes, x.mgt, f_pwr, x.thm, x.secu, f_svc, x.poison, x.out, x.free⟩ :=
  Kept.step (G := 2415919104) (s := x) ⟨rfl, Nat.le_refl _, Nat.le_refl _, id, id, .inr rfl, .inr rfl, .inr rfl, .inr rfl, .inr rfl, .inr rfl, .inr rfl, .inr rfl, .inr rfl, .inr rfl, .inr rfl, .inr rfl, .inr rfl, .inr rfl, .inr rfl, .inr rfl, .inr rfl, .inr rfl, .inr rfl, .inr rfl, .inr rfl, .inr rfl, .inr rfl, .inr rfl, .inr rfl, .inr rfl, .inr rfl, .inr rfl, .inl rfl, .inr rfl, .inr rfl, .inl rfl, .inr rfl, .inr rfl, .inr rfl, .inr rfl, .inr rfl, .inr rfl⟩ sub h

theorem Kept.u17179869184 {F : Nat} {r x : State} {f_shadow} {f_msiSent} {f_msixPend} {f_mgtIrq} (h : Kept F r x) (sub : F ||| 17179869184 = F) :
    Kept F r ⟨x.pending, x.regs, f_shadow, x.now, f_msiSent, x.msixMask, f_msixPend, f_mgtIrq, x.ras, x.crv, x.log, x.scn, x.ing, x.mbc, x.syn, x.clusters, x.plc, x.brc, x.lyr, x.pnl, x.bkl, x.blt, x.dram, x.dimms, x.timBase, x.timAnchor, x.timRate, x.tim, x.net, x.fov, x.cal, x.calNext, x.dmc, x.nvs, x.lanes, x.mgt, x.pwr, x.thm, x.secu, x.svc, x.poison, x.out, x.free⟩ :=
  Kept.step (G := 17179869184) (s := x) ⟨rfl, Nat.le_refl _, Nat.le_refl _, id, id, .inr rfl, .inr rfl, .inr rfl, .inr rfl, .inr rfl, .inr rfl, .inr rfl, .inr rfl, .inr rfl, .inr rfl, .inr rfl, .inr rfl, .inr rfl, .inr rfl, .inr rfl, .inr rfl, .inr rfl, .inr rfl, .inr rfl, .inr rfl, .inr rfl, .inr rfl, .inr rfl, .inr rfl, .inr rfl, .inr rfl, .inr rfl, .inr rfl, .inr rfl, .inr rfl, .inr rfl, .inr rfl, .inr rfl, .inr rfl, .inl rfl, .inr rfl, .inr rfl, .inr rfl⟩ sub h

theorem Kept.u34359738368 {F : Nat} {r x : State} {f_msiSent} {f_msixPend} {f_mgtIrq} {f_out} (h : Kept F r x) (sub : F ||| 34359738368 = F) :
    Kept F r ⟨x.pending, x.regs, x.shadow, x.now, f_msiSent, x.msixMask, f_msixPend, f_mgtIrq, x.ras, x.crv, x.log, x.scn, x.ing, x.mbc, x.syn, x.clusters, x.plc, x.brc, x.lyr, x.pnl, x.bkl, x.blt, x.dram, x.dimms, x.timBase, x.timAnchor, x.timRate, x.tim, x.net, x.fov, x.cal, x.calNext, x.dmc, x.nvs, x.lanes, x.mgt, x.pwr, x.thm, x.secu, x.svc, x.poison, f_out, x.free⟩ :=
  Kept.step (G := 34359738368) (s := x) ⟨rfl, Nat.le_refl _, Nat.le_refl _, id, id, .inr rfl, .inr rfl, .inr rfl, .inr rfl, .inr rfl, .inr rfl, .inr rfl, .inr rfl, .inr rfl, .inr rfl, .inr rfl, .inr rfl, .inr rfl, .inr rfl, .inr rfl, .inr rfl, .inr rfl, .inr rfl, .inr rfl, .inr rfl, .inr rfl, .inr rfl, .inr rfl, .inr rfl, .inr rfl, .inr rfl, .inr rfl, .inr rfl, .inr rfl, .inr rfl, .inr rfl, .inr rfl, .inr rfl, .inr rfl, .inr rfl, .inl rfl, .inr rfl, .inr rfl⟩ sub h

theorem Kept.u137447342080 {F : Nat} {r x : State} {f_msiSent} {f_msixPend} {f_mgtIrq} {f_cal} {f_calNext} (h : Kept F r x) (sub : F ||| 137447342080 = F) :
    Kept F r ⟨x.pending, x.regs, x.shadow, x.now, f_msiSent, x.msixMask, f_msixPend, f_mgtIrq, x.ras, x.crv, x.log, x.scn, x.ing, x.mbc, x.syn, x.clusters, x.plc, x.brc, x.lyr, x.pnl, x.bkl, x.blt, x.dram, x.dimms, x.timBase, x.timAnchor, x.timRate, x.tim, x.net, x.fov, f_cal, f_calNext, x.dmc, x.nvs, x.lanes, x.mgt, x.pwr, x.thm, x.secu, x.svc, x.poison, x.out, x.free⟩ :=
  Kept.step (G := 137447342080) (s := x) ⟨rfl, Nat.le_refl _, Nat.le_refl _, id, id, .inr rfl, .inr rfl, .inr rfl, .inr rfl, .inr rfl, .inr rfl, .inr rfl, .inr rfl, .inr rfl, .inr rfl, .inr rfl, .inr rfl, .inr rfl, .inr rfl, .inr rfl, .inr rfl, .inr rfl, .inr rfl, .inr rfl, .inr rfl, .inr rfl, .inr rfl, .inr rfl, .inl rfl, .inr rfl, .inr rfl, .inr rfl, .inr rfl, .inr rfl, .inr rfl, .inr rfl, .inr rfl, .inr rfl, .inr rfl, .inr rfl, .inr rfl, .inr rfl, .inl rfl⟩ sub h

theorem Kept.u137581559808 {F : Nat} {r x : State} {f_msiSent} {f_msixPend} {f_mgtIrq} {f_cal} {f_calNext} {f_mgt} (h : Kept F r x) (sub : F ||| 137581559808 = F) :
    Kept F r ⟨x.pending, x.regs, x.shadow, x.now, f_msiSent, x.msixMask, f_msixPend, f_mgtIrq, x.ras, x.crv, x.log, x.scn, x.ing, x.mbc, x.syn, x.clusters, x.plc, x.brc, x.lyr, x.pnl, x.bkl, x.blt, x.dram, x.dimms, x.timBase, x.timAnchor, x.timRate, x.tim, x.net, x.fov, f_cal, f_calNext, x.dmc, x.nvs, x.lanes, f_mgt, x.pwr, x.thm, x.secu, x.svc, x.poison, x.out, x.free⟩ :=
  Kept.step (G := 137581559808) (s := x) ⟨rfl, Nat.le_refl _, Nat.le_refl _, id, id, .inr rfl, .inr rfl, .inr rfl, .inr rfl, .inr rfl, .inr rfl, .inr rfl, .inr rfl, .inr rfl, .inr rfl, .inr rfl, .inr rfl, .inr rfl, .inr rfl, .inr rfl, .inr rfl, .inr rfl, .inr rfl, .inr rfl, .inr rfl, .inr rfl, .inr rfl, .inr rfl, .inl rfl, .inr rfl, .inr rfl, .inr rfl, .inl rfl, .inr rfl, .inr rfl, .inr rfl, .inr rfl, .inr rfl, .inr rfl, .inr rfl, .inr rfl, .inr rfl, .inl rfl⟩ sub h

end Sys2Proof.Machine
end

