-- ==== Sys2Proof/Laws/KeptOps1.lean ====
section
/-! SUPPORT. Which parts of the state each shared operation may change. -/

namespace Sys2Proof.Machine

theorem State.emit_kept {s : State} {o : Out} : Kept 34359738368 s (State.emit s o) := by
  unfold State.emit
  exact (Kept.u34359738368 (Kept.refl _ _) rfl)

theorem State.sendMsix_kept {s : State} {v : Nat} : Kept 0 s (s.sendMsix v) := by
  unfold State.sendMsix
  split
  · split <;> constructor <;> first | exact rfl | exact Nat.le_refl _ | exact id | exact .inr rfl
  · exact Kept.refl _ _

theorem State.msixFollow_kept {s : State} : Kept 0 s (State.msixFollow s) := by
  unfold State.msixFollow
  exact (Kept.foldl (Kept.u0 (Kept.refl _ _) rfl) (fun _ _ h1 => (Kept.step State.sendMsix_kept rfl h1)))

theorem settle_kept {s : State} : Kept 0 s (settle s) := by
  unfold settle
  exact Kept.u0 (Kept.foldl State.msixFollow_kept (fun _ _ h => Kept.step State.sendMsix_kept rfl h)) rfl

theorem State.tellMarigold_kept {s : State} {b : ℕ} {m : ℕ} : Kept 0 s (State.tellMarigold s b m) := by
  unfold State.tellMarigold
  exact (Kept.u0 (Kept.refl _ _) rfl)

/-- What an update command may have changed when it is done. -/
def KeptA (F : Nat) (s : State) : Applied → Prop
  | .done _ t => Kept F s t
  | .wait => True
  | .hold => True

theorem State.wr_kept {s : State} {a v : Nat} : Kept 0 s (s.wr a v) := by
  constructor
  case regsWf => exact fun w => Sparse.wf_set w a _
  all_goals first | exact rfl | exact Nat.le_refl _ | exact id | exact .inr rfl

theorem State.setFld_kept {s : State} {a : ℕ} {hi : ℕ} {lo : ℕ} {v : ℕ} : Kept 0 s (State.setFld s a hi lo v) := by
  unfold State.setFld
  exact (Kept.step State.wr_kept rfl (Kept.refl _ _))

theorem State.setFlag_kept {s : State} {a : ℕ} {i : ℕ} {b : Bool} : Kept 0 s (State.setFlag s a i b) := by
  unfold State.setFlag
  exact (Kept.step State.setFld_kept rfl (Kept.refl _ _))

theorem State.raise_kept {s : State} {b : ℕ} {bit : ℕ} : Kept 0 s (State.raise s b bit) := by
  unfold State.raise
  exact (Kept.step State.tellMarigold_kept rfl (Kept.step State.setFlag_kept rfl (Kept.refl _ _)))

theorem State.setSess_kept {s : State} {k : ℕ} {x : Session} : Kept 16 s (State.setSess s k x) := by
  unfold State.setSess
  exact (Kept.u16 (Kept.refl _ _) rfl)

theorem State.dropWaiting_kept {s : State} {k : ℕ} : Kept 8 s (State.dropWaiting s k) := by
  unfold State.dropWaiting
  exact (Kept.ite (Kept.u8 (Kept.refl _ _) rfl) (Kept.refl _ _))

theorem State.toWaitKey_kept {s : State} {k : ℕ} : Kept 24 s (State.toWaitKey s k) := by
  unfold State.toWaitKey
  exact (Kept.ite (Kept.step State.raise_kept rfl (Kept.step State.setSess_kept rfl (Kept.step State.dropWaiting_kept rfl (Kept.refl _ _)))) (Kept.refl _ _))

theorem State.add_kept {s : State} {a : ℕ} {n : ℕ} : Kept 0 s (State.add s a n) := by
  unfold State.add
  exact (Kept.step State.wr_kept rfl (Kept.refl _ _))

theorem State.addSat_kept {s : State} {a : ℕ} {hi : ℕ} {lo : ℕ} {n : ℕ} : Kept 0 s (State.addSat s a hi lo n) := by
  unfold State.addSat
  exact (Kept.step State.setFld_kept rfl (Kept.refl _ _))

theorem State.sessError_kept {s : State} {k : ℕ} {seq : ℕ} {code : ℕ} : Kept 16 s (State.sessError s k seq code) := by
  unfold State.sessError
  exact (Kept.step State.addSat_kept rfl (Kept.step State.setFld_kept rfl (Kept.step State.setSess_kept rfl (Kept.refl _ _))))

theorem State.cmdError_kept {s : State} {k : ℕ} {seq : ℕ} {code : ℕ} : Kept 16 s (State.cmdError s k seq code) := by
  unfold State.cmdError
  exact (Kept.step State.raise_kept rfl (Kept.step State.add_kept rfl (Kept.step State.sessError_kept rfl (Kept.step State.setSess_kept rfl (Kept.refl _ _)))))

theorem State.waitSpace_kept {s : State} {k : ℕ} : Kept 8 s (State.waitSpace s k) := by
  unfold State.waitSpace
  exact (Kept.step State.raise_kept rfl (Kept.u8 (Kept.refl _ _) rfl))

theorem State.scnLowCheck_kept {s : State} : Kept 8 s (State.scnLowCheck s) := by
  unfold State.scnLowCheck
  extract_lets +onlyGivenNames -merge -useContext x1
  extract_lets +onlyGivenNames -merge -useContext x2
  extract_lets +onlyGivenNames -merge -useContext x3
  have k4 : Kept 8 s x3 := (Kept.u8 (Kept.refl _ _) rfl)
  exact (Kept.ite (Kept.step State.raise_kept rfl k4) k4)

theorem State.nextCmd_kept {s : State} {k : ℕ} {a : Applying} {c : KstCmd} : Kept 24 s (State.nextCmd s k a c) := by
  unfold State.nextCmd
  extract_lets +onlyGivenNames -merge -useContext x1
  extract_lets +onlyGivenNames -merge -useContext x2
  refine Kept.ite ?_ (Kept.step State.setSess_kept rfl (Kept.refl _ _))
  extract_lets +onlyGivenNames -merge -useContext x3
  have k4 : Kept 24 s x3 := (Kept.step State.setSess_kept rfl (Kept.refl _ _))
  exact (Kept.ite k4 (Kept.step State.toWaitKey_kept rfl (Kept.step State.cmdError_kept rfl k4)))

theorem State.tagStaging_kept {s : State} {f : ℕ} : Kept 8 s (State.tagStaging s f) := by
  unfold State.tagStaging
  split
  · exact (Kept.ite (Kept.refl _ _) (Kept.u8 (Kept.refl _ _) rfl))
  · exact (Kept.refl _ _)

theorem State.checkComplete_kept {s : State} : Kept 8 s (State.checkComplete s) := by
  unfold State.checkComplete
  split
  · exact (Kept.refl _ _)
  · exact (Kept.ite (Kept.step State.add_kept rfl (Kept.u8 (Kept.refl _ _) rfl)) (Kept.refl _ _))

theorem State.cmdCommit_kept {s : State} {k f : Nat} : KeptA 49176 s (s.cmdCommit k f) := by
  unfold State.cmdCommit
  dsimp only
  split
  · exact Kept.refl _ _
  · split
    · exact Kept.step State.add_kept rfl (Kept.refl _ _)
    · exact Kept.step State.checkComplete_kept rfl (Kept.step State.wr_kept rfl (Kept.step State.setSess_kept rfl (Kept.refl _ _)))

theorem State.scnGc_kept {s : State} : Kept 8 s (State.scnGc s) := by
  unfold State.scnGc
  exact (Kept.step State.add_kept rfl (Kept.u8 (Kept.refl _ _) rfl))

theorem State.clearRow_kept {s : State} {p : ℕ} {r : ℕ} : Kept 8 s (State.clearRow s p r) := by
  unfold State.clearRow
  split
  · exact (Kept.u8 (Kept.refl _ _) rfl)
  · exact (Kept.refl _ _)

theorem State.setStagingPlane_kept {s : State} {p : ℕ} {d : PlaneDesc} : Kept 8 s (State.setStagingPlane s p d) := by
  unfold State.setStagingPlane
  split
  · exact (Kept.u8 (Kept.refl _ _) rfl)
  · exact (Kept.refl _ _)

theorem State.cmdDefine_kept {s : State} {c : KstCmd} : KeptA 49176 s (s.cmdDefine c) := by
  unfold State.cmdDefine
  dsimp only
  split
  · exact Kept.step State.scnGc_kept rfl (Kept.foldl (Kept.step State.setStagingPlane_kept rfl (Kept.refl _ _))
      (fun _ _ h => Kept.step State.clearRow_kept rfl h))
  · exact Kept.refl _ _

theorem State.takeSpace_kept {s : State} {a : ℕ} {n : ℕ} : Kept 8 s (State.takeSpace s a n) := by
  unfold State.takeSpace
  exact (Kept.u8 (Kept.refl _ _) rfl)

theorem State.newPage_kept {s : State} {v : Version} {p by_ base : Nat} {entries : Sparse Entry} {t : State} (h : s.newPage v p by_ base entries = some t) :
    Kept 8 s t := by
  unfold State.newPage at h
  split at h
  · contradiction
  · obtain rfl := Option.some.inj h
    exact Kept.step State.takeSpace_kept rfl (Kept.u8 (Kept.refl _ _) rfl)

theorem State.setEntry_kept {s : State} {p bx by_ : Nat} {e : Entry} {t : State} (h : s.setEntry p bx by_ e = some t) : Kept 8 s t := by
  unfold State.setEntry at h
  dsimp only at h
  split at h
  · obtain rfl := Option.some.inj h; exact Kept.refl _ _
  · split at h
    · split at h
      · obtain ⟨t1, h1, rfl⟩ := Option.map_eq_some_iff.1 h
        exact Kept.step State.add_kept rfl (State.newPage_kept h1)
      · obtain rfl := Option.some.inj h; exact Kept.u8 (Kept.refl _ _) rfl
    · exact State.newPage_kept h

theorem State.trimRow_kept {s : State} {p r w : Nat} {t : State} (h : s.trimRow p r w = some t) : Kept 8 s t := by
  unfold State.trimRow at h
  split at h
  · injection h with h; subst h; exact Kept.refl _ _
  · split at h
    · injection h with h; subst h; exact Kept.refl _ _
    · refine keptO_foldl (F := 8) (r := s) _ _ (some s) (fun t e => ?_) (fun o e k => ?_) t h
      · injection e with e; subst e; exact Kept.refl _ _
      · intro t ht
        split at ht
        · exact Kept.step (State.setEntry_kept ht) rfl (k _ rfl)
        · contradiction

theorem State.cmdAlter_kept {s : State} {c : KstCmd} {old : PlaneDesc} : KeptA 49176 s (s.cmdAlter c old) := by
  unfold State.cmdAlter
  dsimp only
  split
  · exact Kept.refl _ _
  · split
    · rename_i d _ t h
      refine Kept.step State.scnGc_kept rfl ?_
      have k0 : Kept 49176 s ((List.range 144).foldl (fun (x : State) r => if (planeOfWords ((List.range 8).map (fun i => if bitOf (beNat (slice c.body 0 4)) i then (beWords 8 (c.body.drop 4)).getD i 0 else old.word i))).hblk ≤ r ∧ r < old.hblk then x.clearRow c.plane r else x) (s.setStagingPlane c.plane (planeOfWords ((List.range 8).map (fun i => if bitOf (beNat (slice c.body 0 4)) i then (beWords 8 (c.body.drop 4)).getD i 0 else old.word i))))) :=
        Kept.foldl (Kept.step State.setStagingPlane_kept rfl (Kept.refl _ _))
          (fun _ _ h => Kept.ite (Kept.step State.clearRow_kept rfl h) h)
      split at h
      · refine keptO_foldl (F := 49176) (r := s) _ _ (some _) (fun t e => ?_) (fun o br k => ?_) t h
        · injection e with e; subst e; exact k0
        · intro t ht
          split at ht
          · exact Kept.step (State.trimRow_kept ht) rfl (k _ rfl)
          · contradiction
      · injection h with h; subst h; exact k0
    · trivial

theorem State.putByte_kept {s : State} {a0 n a : Nat} {b : Byte} : Kept 16384 s (s.putByte a0 n a b) := by
  unfold State.putByte
  split
  · constructor
    case dramWf => exact fun w => Sparse.wf_set w a b
    case dram => exact .inl rfl
    all_goals first | exact rfl | exact Nat.le_refl _ | exact id | exact .inr rfl
  · exact Kept.refl _ _

theorem State.putBytes_kept {s : State} {a0 n a : Nat} {bs : List Byte} : Kept 16384 s (s.putBytes a0 n a bs) := by
  induction bs generalizing s a with
  | nil => exact Kept.refl _ _
  | cons b bs ih =>
    unfold State.putBytes
    exact Kept.trans State.putByte_kept ih

theorem State.dramWrite_kept {s : State} {a : ℕ} {bs : List Byte} : Kept 49152 s (State.dramWrite s a bs) := by
  unfold State.dramWrite
  exact (Kept.u32768 (Kept.step State.putBytes_kept rfl (Kept.refl _ _)) rfl)

theorem State.storeUnit_kept {s : State} {p bx by_ : Nat} {bs : List Byte} {x : Nat × State} (h : s.storeUnit p bx by_ bs = some x) :
    Kept 49160 s x.2 := by
  unfold State.storeUnit at h
  split at h
  · contradiction
  · injection h with h; subst h
    exact Kept.step State.takeSpace_kept rfl (Kept.step State.dramWrite_kept rfl (Kept.refl _ _))

theorem State.finishBlock_kept {s : State} {k : Nat} {o : OpenBlock} {unit : List Byte} : KeptA 49176 s (s.finishBlock k o unit) := by
  unfold State.finishBlock
  dsimp only
  split
  · exact Kept.step State.setSess_kept rfl (Kept.refl _ _)
  · split
    · trivial
    · rename_i h1
      split
      · trivial
      · rename_i h2
        exact Kept.step State.scnGc_kept rfl (Kept.step State.add_kept rfl (Kept.step State.setSess_kept rfl
          (Kept.step (State.setEntry_kept h2) rfl (Kept.step (State.storeUnit_kept h1) rfl (Kept.refl _ _)))))

theorem State.cmdWriteBlock_kept {s : State} {k f : Nat} {c : KstCmd} : KeptA 49176 s (s.cmdWriteBlock k f c) := by
  unfold State.cmdWriteBlock
  extract_lets bx by_ fl total off data x fits lost s1 held code o
  have k0 : Kept 49176 s s1 := Kept.ite (Kept.step State.setSess_kept rfl (Kept.refl _ _)) (Kept.refl _ _)
  clear_value o held s1
  split
  · exact k0
  · split
    · exact Kept.step State.setSess_kept rfl k0
    · split
      · split
        · rename_i e t h
          have k1 : KeptA 49176 s1 (.done e t) := h ▸ State.finishBlock_kept
          have k2 : Kept 49176 s1 t := k1
          refine Kept.trans k0 ?_
          exact Kept.ite (Kept.step State.tagStaging_kept rfl k2) k2
        · trivial
        · trivial
      · exact Kept.step State.tagStaging_kept rfl (Kept.step State.setSess_kept rfl k0)

theorem State.markBad_kept {s : State} {addr : ℕ} : Kept 24 s (State.markBad s addr) := by
  unfold State.markBad
  exact (Kept.step State.scnGc_kept rfl (Kept.step State.raise_kept rfl (Kept.step State.add_kept rfl (Kept.u24 (Kept.refl _ _) rfl))))

theorem State.storeEdited_kept {s : State} {p bx by_ : Nat} {raw : List Byte} {t : State} (h : s.storeEdited p bx by_ raw = some t) :
    Kept 49160 s t := by
  unfold State.storeEdited at h
  dsimp only at h
  split at h
  · contradiction
  · rename_i h1
    split at h
    · contradiction
    · rename_i h2
      injection h with h; subst h
      exact Kept.step State.add_kept rfl (Kept.step (State.setEntry_kept h2) rfl (State.storeUnit_kept h1))

theorem State.editPartial_kept {s : State} {p bx by_ : Nat} {f : Nat → Nat → Nat → Nat} {x : Bool × State}
    (h : s.editPartial p bx by_ f = some x) : Kept 49176 s x.2 := by
  unfold State.editPartial at h
  dsimp only at h
  split at h
  · contradiction
  · rename_i h1
    injection h with h; subst h
    have k := Kept.step (F := 49176) (State.storeEdited_kept h1) rfl (Kept.refl _ _)
    apply Kept.ite
    · exact Kept.step State.markBad_kept rfl k
    · exact k

theorem State.editRect_kept {s : State} {p u v w h : Nat} {g : Nat → Nat → Option Entry} {f : Nat → Nat → Nat → Nat} {x : Bool × State}
    (e : s.editRect p u v w h g f = some x) : Kept 49176 s x.2 := by
  unfold State.editRect at e
  refine keptOB_foldl (F := 49176) (r := s) _ _ (some (false, s)) (fun t e => ?_) (fun o br k => ?_) x e
  · injection e with e; subst e; exact Kept.refl _ _
  · intro t ht
    split at ht
    · contradiction
    · rename_i bad s1
      dsimp only at ht
      split at ht
      · rw [Option.map_eq_some_iff] at ht
        obtain ⟨s2, h2, rfl⟩ := ht
        exact Kept.step (s := s1) (State.setEntry_kept h2) rfl (k _ rfl)
      · rw [Option.map_eq_some_iff] at ht
        obtain ⟨s2, h2, rfl⟩ := ht
        exact Kept.step (s := s1) (t := s2.2) (State.editPartial_kept h2) rfl (k _ rfl)

theorem State.cmdCopy_kept {s : State} {c : KstCmd} : KeptA 49176 s (s.cmdCopy c) := by
  unfold State.cmdCopy
  dsimp only
  split
  · trivial
  · rename_i h
    exact Kept.step State.scnGc_kept rfl (Kept.foldl (State.editRect_kept h) (fun _ _ h => Kept.step State.markBad_kept rfl h))

theorem State.cmdFill_kept {s : State} {c : KstCmd} : KeptA 49176 s (s.cmdFill c) := by
  unfold State.cmdFill
  dsimp only
  split
  · trivial
  · rename_i h
    exact Kept.step State.scnGc_kept rfl (State.editRect_kept h)

theorem State.cmdGlyph_kept {s : State} {c : KstCmd} {d : PlaneDesc} : KeptA 49176 s (s.cmdGlyph c d) := by
  unfold State.cmdGlyph
  dsimp only
  split
  · exact Kept.refl _ _
  · split
    · trivial
    · rename_i bad t h
      refine Kept.step State.scnGc_kept rfl ?_
      refine keptOB_foldl (F := 49176) (r := s) _ _ (some (false, s)) (fun t e => ?_) (fun o br k => ?_) (bad, t) h
      · injection e with e; subst e; exact Kept.refl _ _
      · intro t ht
        split at ht
        · contradiction
        · rename_i bad1 s1
          rw [Option.map_eq_some_iff] at ht
          obtain ⟨s2, h2, rfl⟩ := ht
          exact Kept.step (s := s1) (t := s2.2) (State.editPartial_kept h2) rfl (k _ rfl)

theorem State.cmdDepth_kept {s : State} {c : KstCmd} {old : PlaneDesc} : KeptA 49176 s (s.cmdDepth c old) := by
  unfold State.cmdDepth
  dsimp only
  split
  · exact Kept.refl _ _
  · exact Kept.step State.setStagingPlane_kept rfl (Kept.refl _ _)

theorem KeptA.ite {F : Nat} {s : State} {c : Prop} [Decidable c] {a b : Applied} (ha : KeptA F s a) (hb : KeptA F s b) :
    KeptA F s (if c then a else b) := by
  split <;> assumption

theorem KeptA.same {F : Nat} {s : State} {n : Nat} : KeptA F s (.done n s) := Kept.refl F s

theorem State.runCmd_kept {s : State} {k : Nat} {a : Applying} {c : KstCmd} : KeptA 49176 s (s.runCmd k a c) := by
  unfold State.runCmd
  refine KeptA.ite State.cmdCommit_kept (KeptA.ite KeptA.same (KeptA.ite KeptA.same (KeptA.ite State.cmdDefine_kept ?_)))
  cases s.stagingPlane c.plane with
  | none => exact KeptA.same
  | some d =>
    exact KeptA.ite KeptA.same (KeptA.ite KeptA.same (KeptA.ite trivial (KeptA.ite State.cmdAlter_kept (KeptA.ite State.cmdWriteBlock_kept
      (KeptA.ite State.cmdCopy_kept (KeptA.ite State.cmdFill_kept (KeptA.ite State.cmdGlyph_kept State.cmdDepth_kept)))))))

theorem State.stepCmd_kept {s : State} {k : Nat} {ops : Nat → Bool} : Kept 49176 s (s.stepCmd k ops) := by
  unfold State.stepCmd
  dsimp only
  split
  · exact Kept.refl _ _
  · split
    · split
      · exact Kept.step State.toWaitKey_kept rfl (Kept.step State.setSess_kept rfl (Kept.step State.cmdError_kept rfl (Kept.refl _ _)))
      · exact Kept.refl _ _
    · split
      · exact Kept.refl _ _
      · rename_i a _ _ c _ _
        have k0 := State.runCmd_kept (s := s) (k := k) (a := a) (c := c)
        split
        · exact Kept.step State.waitSpace_kept rfl (Kept.refl _ _)
        · exact Kept.refl _ _
        · rename_i code t h
          rw [h] at k0
          have k1 : Kept 49176 s t := Kept.step k0 rfl (Kept.refl _ _)
          refine Kept.step State.scnLowCheck_kept rfl (Kept.step State.nextCmd_kept rfl ?_)
          split
          · split
            · exact Kept.step State.tagStaging_kept rfl k1
            · exact k1
          · refine Kept.step State.cmdError_kept rfl ?_
            split
            · exact Kept.step State.tagStaging_kept rfl k1
            · exact k1

theorem State.updateCommand_kept {s : State} {k : ℕ} {op : ℕ} : Kept 49176 s (State.updateCommand s k op) := by
  unfold State.updateCommand
  exact (Kept.ite (Kept.refl _ _) (Kept.step State.stepCmd_kept rfl (Kept.refl _ _)))

theorem State.plcRestart_kept {s : State} : Kept 256 s (State.plcRestart s) := by
  unfold State.plcRestart
  exact (Kept.ite (Kept.u256 (Kept.refl _ _) rfl) (Kept.refl _ _))

theorem State.at_kept {s : State} {t : Nat} : Kept 4294967296 s (s.at t) := by
  constructor
  case nowLe => exact Nat.le_max_left _ _
  case now => exact .inl rfl
  all_goals first | exact rfl | exact Nat.le_refl _ | exact id | exact .inr rfl

theorem State.fadeEnd_kept {s : State} : Kept 4096 s (State.fadeEnd s) := by
  unfold State.fadeEnd
  split
  · refine Kept.ite ?_ (Kept.refl _ _)
    extract_lets +onlyGivenNames -merge -useContext x1
    extract_lets +onlyGivenNames -merge -useContext x2
    have k3 : Kept 4096 s x2 := (Kept.step State.setFld_kept rfl (Kept.u4096 (Kept.refl _ _) rfl))
    exact (Kept.ite (Kept.step State.raise_kept rfl (Kept.step State.setFlag_kept rfl k3)) k3)
  · exact (Kept.refl _ _)

theorem State.errFill_kept {s : State} {h : ℕ} {who : ℕ} {addr : ℕ} {code : ℕ} {data : ℕ} : Kept 0 s (State.errFill s h who addr code data) := by
  unfold State.errFill
  exact (Kept.step State.wr_kept rfl (Kept.step State.wr_kept rfl (Kept.step State.wr_kept rfl (Kept.step State.wr_kept rfl (Kept.refl _ _)))))

theorem State.errOverwrite_kept {s : State} {h : ℕ} : Kept 0 s (State.errOverwrite s h) := by
  unfold State.errOverwrite
  exact (Kept.ite (Kept.step State.raise_kept rfl (Kept.step State.setFlag_kept rfl (Kept.refl _ _))) (Kept.refl _ _))

theorem State.errEntry_kept {s : State} {who : ℕ} {addr : ℕ} {code : ℕ} {data : ℕ} : Kept 0 s (State.errEntry s who addr code data) := by
  unfold State.errEntry
  exact (Kept.step State.raise_kept rfl (Kept.step State.add_kept rfl (Kept.step State.wr_kept rfl (Kept.step State.errFill_kept rfl (Kept.step State.errOverwrite_kept rfl (Kept.refl _ _))))))

theorem State.rejectUnmapped_kept {s : State} {who : Requester} {addr : ℕ} {data : ℕ} : Kept 0 s (State.rejectUnmapped s who addr data) := by
  unfold State.rejectUnmapped
  exact (Kept.step State.errEntry_kept rfl (Kept.refl _ _))

theorem State.marigoldClears_kept {s : State} {b : ℕ} {m : ℕ} : Kept 0 s (State.marigoldClears s b m) := by
  unfold State.marigoldClears
  exact (Kept.u0 (Kept.refl _ _) rfl)

theorem State.marigoldSees_kept {s : State} {who : Requester} {addr : ℕ} {p : PageDef} {data : ℕ} : Kept 0 s (State.marigoldSees s who addr p data) := by
  unfold State.marigoldSees
  exact (Kept.ite (Kept.step State.marigoldClears_kept rfl (Kept.refl _ _)) (Kept.refl _ _))

theorem State.commitWrite_kept {s : State} {p : PageDef} {data : ℕ} : Kept 1 s (State.commitWrite s p data) := by
  unfold State.commitWrite
  refine Kept.ite (Kept.refl _ _) ?_
  extract_lets +onlyGivenNames -merge -useContext x1
  extract_lets +onlyGivenNames -merge -useContext x2
  have k3 : Kept 1 s x2 := (Kept.ite (Kept.step State.setFlag_kept rfl (Kept.refl _ _)) (Kept.refl _ _))
  exact (Kept.ite (Kept.step State.setFlag_kept rfl k3) (Kept.ite (Kept.u1 (Kept.step State.setFlag_kept rfl k3) rfl) k3))

theorem State.setChan_kept {s : State} {c : ℕ} {x : Chan} : Kept 16777216 s (State.setChan s c x) := by
  unfold State.setChan
  exact (Kept.u16777216 (Kept.refl _ _) rfl)

theorem State.setCl_kept {s : State} {u : ℕ} {c : Cluster} : Kept 128 s (State.setCl s u c) := by
  unfold State.setCl
  exact (Kept.u128 (Kept.refl _ _) rfl)

theorem State.setTile_kept {s : State} {t : Tile} : Kept 512 s (State.setTile s t) := by
  unfold State.setTile
  exact (Kept.u512 (Kept.refl _ _) rfl)

theorem State.unclaim_kept {s : State} {h : Hold} : Kept 512 s (State.unclaim s h) := by
  unfold State.unclaim
  split
  · exact (Kept.ite (Kept.step State.setTile_kept rfl (Kept.refl _ _)) (Kept.refl _ _))
  · exact (Kept.refl _ _)

theorem State.clusterLeft_kept {s : State} {u : ℕ} : Kept 640 s (State.clusterLeft s u) := by
  unfold State.clusterLeft
  exact (Kept.step State.setCl_kept rfl (Kept.foldl (Kept.refl _ _) (fun _ _ h1 => (Kept.step State.unclaim_kept rfl h1))))

theorem State.setUnit_kept {s : State} {u : ℕ} {v : ℕ} : Kept 0 s (State.setUnit s u v) := by
  unfold State.setUnit
  exact (Kept.step State.setFld_kept rfl (Kept.refl _ _))

theorem State.pinLost_kept {s : State} {k : ℕ} : Kept 0 s (State.pinLost s k) := by
  unfold State.pinLost
  exact (Kept.ite (Kept.step State.raise_kept rfl (Kept.step State.setFlag_kept rfl (Kept.refl _ _))) (Kept.refl _ _))

theorem State.setEng_kept {s : State} {n : ℕ} {e : MbcEng} : Kept 32 s (State.setEng s n e) := by
  unfold State.setEng
  exact (Kept.u32 (Kept.refl _ _) rfl)

theorem State.mbcEnd_kept {s : State} {n : ℕ} {j : MbcJob} {code : ℕ} {consumed : ℕ} {produced : ℕ} : Kept 49184 s (State.mbcEnd s n j code consumed produced) := by
  unfold State.mbcEnd
  extract_lets +onlyGivenNames -merge -useContext x1
  extract_lets +onlyGivenNames -merge -useContext x2
  have k3 : Kept 49184 s x2 := (Kept.step State.dramWrite_kept rfl (Kept.refl _ _))
  extract_lets +onlyGivenNames -merge -useContext x4
  have k5 : Kept 49184 s x4 := (Kept.step State.dramWrite_kept rfl k3)
  extract_lets +onlyGivenNames -merge -useContext x6
  have k7 : Kept 49184 s x6 := (Kept.step State.setEng_kept rfl k5)
  extract_lets +onlyGivenNames -merge -useContext x8
  have k9 : Kept 49184 s x8 := (Kept.step State.wr_kept rfl k7)
  extract_lets +onlyGivenNames -merge -useContext x10
  have k11 : Kept 49184 s x10 := (Kept.step State.wr_kept rfl k9)
  extract_lets +onlyGivenNames -merge -useContext x12
  have k13 : Kept 49184 s x12 := (Kept.step State.wr_kept rfl (Kept.step State.wr_kept rfl k11))
  extract_lets +onlyGivenNames -merge -useContext x14
  have k15 : Kept 49184 s x14 := (Kept.step State.add_kept rfl (Kept.step State.add_kept rfl (Kept.step State.add_kept rfl k13)))
  extract_lets +onlyGivenNames -merge -useContext x16
  have k17 : Kept 49184 s x16 := (Kept.ite (Kept.step State.add_kept rfl k15) (Kept.ite (Kept.step State.add_kept rfl k15) k15))
  extract_lets +onlyGivenNames -merge -useContext x18
  extract_lets +onlyGivenNames -merge -useContext x19
  have k20 : Kept 49184 s x19 := (Kept.ite (Kept.step State.raise_kept rfl k17) k17)
  extract_lets +onlyGivenNames -merge -useContext x21
  have k22 : Kept 49184 s x21 := (Kept.ite k20 (Kept.step State.raise_kept rfl k20))
  exact (Kept.ite (Kept.step State.raise_kept rfl k22) k22)

theorem State.mbcCancel_kept {s : State} {n : ℕ} : Kept 49184 s (State.mbcCancel s n) := by
  unfold State.mbcCancel
  split
  · exact (Kept.refl _ _)
  · exact (Kept.step State.mbcEnd_kept rfl (Kept.refl _ _))

theorem State.evacCount_kept {s : State} {n : ℕ} : Kept 256 s (State.evacCount s n) := by
  unfold State.evacCount
  exact (Kept.step State.add_kept rfl (Kept.u256 (Kept.refl _ _) rfl))

theorem State.setCache_kept {s : State} {l : List CacheLine} : Kept 256 s (State.setCache s l) := by
  unfold State.setCache
  exact (Kept.u256 (Kept.refl _ _) rfl)

theorem State.evictLine_kept {s : State} : Kept 256 s (State.evictLine s) := by
  unfold State.evictLine
  split
  · exact (Kept.step State.setCache_kept rfl (Kept.refl _ _))
  · exact (Kept.refl _ _)

theorem State.trimCache_kept {cap : ℕ} {a1 : ℕ} {a2 : State} : Kept 256 a2 (State.trimCache cap a1 a2) := by
  unfold State.trimCache
  split
  · exact (Kept.refl _ _)
  · exact (Kept.ite (Kept.step State.trimCache_kept rfl (Kept.step State.evictLine_kept rfl (Kept.refl _ _))) (Kept.refl _ _))

theorem State.moveLine_kept {s : State} {e : CacheLine} : Kept 49408 s (State.moveLine s e) := by
  unfold State.moveLine
  extract_lets +onlyGivenNames -merge -useContext x1
  have k2 : Kept 49408 s x1 := (Kept.step State.setCache_kept rfl (Kept.refl _ _))
  split
  · exact (Kept.step State.dramWrite_kept rfl (Kept.step State.setCache_kept rfl k2))
  · exact k2

theorem State.evacStart_kept {s : State} {c : ℕ} : Kept 49408 s (State.evacStart s c) := by
  unfold State.evacStart
  exact (Kept.step State.evacCount_kept rfl (Kept.step State.trimCache_kept rfl (Kept.foldl (Kept.step State.setCache_kept rfl (Kept.u256 (Kept.refl _ _) rfl)) (fun _ _ h1 => (Kept.step State.moveLine_kept rfl h1)))))

theorem State.fenceUnit_kept {s : State} {u : ℕ} : Kept 2147537824 s (State.fenceUnit s u) := by
  unfold State.fenceUnit
  refine Kept.ite ?_ (Kept.refl _ _)
  extract_lets +onlyGivenNames -merge -useContext x1
  have k2 : Kept 2147537824 s x1 := (Kept.step State.add_kept rfl (Kept.step State.setUnit_kept rfl (Kept.refl _ _)))
  extract_lets +onlyGivenNames -merge -useContext x3
  extract_lets +onlyGivenNames -merge -useContext x4
  have k5 : Kept 2147537824 s x4 := (Kept.u2147483648 k2 rfl)
  exact (Kept.ite (Kept.step State.clusterLeft_kept rfl k5) (Kept.ite (Kept.step State.pinLost_kept rfl k5) (Kept.ite (Kept.ite (Kept.step State.mbcCancel_kept rfl k5) k5) (Kept.ite (Kept.ite (Kept.u256 k5 rfl) (Kept.step State.evacStart_kept rfl k5)) (Kept.ite (Kept.u4096 k5 rfl) k5)))))

theorem State.unitRequest_kept {s : State} {u : ℕ} {req : ℕ} : Kept 2164315040 s (State.unitRequest s u req) := by
  unfold State.unitRequest
  exact (Kept.ite (Kept.ite (Kept.step State.setChan_kept rfl (Kept.refl _ _)) (Kept.step State.fenceUnit_kept rfl (Kept.refl _ _))) (Kept.ite (Kept.ite (Kept.step State.add_kept rfl (Kept.u2147483648 (Kept.step State.setUnit_kept rfl (Kept.refl _ _)) rfl)) (Kept.refl _ _)) (Kept.u2147483648 (Kept.step State.setUnit_kept rfl (Kept.refl _ _)) rfl)))

theorem State.fenceWrite_kept {s : State} {u : Option ℕ} {data : ℕ} : Kept 2164315040 s (State.fenceWrite s u data) := by
  unfold State.fenceWrite
  split
  · exact (Kept.step State.unitRequest_kept rfl (Kept.refl _ _))
  · exact (Kept.refl _ _)

theorem State.headerWrite_kept {s : State} {p : PageDef} {off : ℕ} {data : ℕ} : Kept 2164315041 s (State.headerWrite s p off data) := by
  unfold State.headerWrite
  exact (Kept.ite (Kept.ite (Kept.step State.wr_kept rfl (Kept.refl _ _)) (Kept.refl _ _)) (Kept.ite (Kept.step State.wr_kept rfl (Kept.refl _ _)) (Kept.ite (Kept.step State.wr_kept rfl (Kept.refl _ _)) (Kept.ite (Kept.step State.tellMarigold_kept rfl (Kept.step State.wr_kept rfl (Kept.refl _ _))) (Kept.ite (Kept.step State.commitWrite_kept rfl (Kept.refl _ _)) (Kept.ite (Kept.step State.fenceWrite_kept rfl (Kept.refl _ _)) (Kept.refl _ _)))))))

theorem State.stage_kept {s : State} {e : LogEntry} : Kept 4 s (State.stage s e) := by
  unfold State.stage
  exact (Kept.ite (Kept.u4 (Kept.refl _ _) rfl) (Kept.step State.raise_kept rfl (Kept.step State.addSat_kept rfl (Kept.u4 (Kept.refl _ _) rfl))))

theorem State.logIt_kept {s : State} {source : ℕ} {event : ℕ} {severity : ℕ} {data : List Byte} : Kept 4 s (State.logIt s source event severity data) := by
  unfold State.logIt
  exact (Kept.step State.stage_kept rfl (Kept.refl _ _))

theorem State.certCheck_kept {s : State} {old : State} : Kept 4 s (State.certCheck s old) := by
  unfold State.certCheck
  exact (Kept.ite (Kept.refl _ _) (Kept.step State.logIt_kept rfl (Kept.step State.raise_kept rfl (Kept.refl _ _))))

theorem State.groupWait_kept {s : State} {l : List ℕ} : Kept 1024 s (State.groupWait s l) := by
  unfold State.groupWait
  exact (Kept.u1024 (Kept.refl _ _) rfl)

theorem State.gcommitWrite_kept {s : State} {data : ℕ} : Kept 1024 s (State.gcommitWrite s data) := by
  unfold State.gcommitWrite
  extract_lets +onlyGivenNames -merge -useContext x1
  have k2 : Kept 1024 s x1 := (Kept.ite (Kept.step State.setFlag_kept rfl (Kept.refl _ _)) (Kept.refl _ _))
  exact (Kept.ite (Kept.step State.setFld_kept rfl (Kept.step State.setFlag_kept rfl k2)) (Kept.ite (Kept.step State.groupWait_kept rfl (Kept.step State.setFld_kept rfl (Kept.step State.setFld_kept rfl (Kept.step State.setFlag_kept rfl k2)))) k2))

theorem State.devEffect_kept {s : State} {page : ℕ} {off : ℕ} {data : ℕ} : Kept 1024 s (State.devEffect s page off data) := by
  unfold State.devEffect
  exact (Kept.ite (Kept.step State.gcommitWrite_kept rfl (Kept.refl _ _)) (Kept.ite (Kept.ite (Kept.step State.sendMsix_kept rfl (Kept.refl _ _)) (Kept.refl _ _)) (Kept.refl _ _)))

theorem State.crvMiss_kept {s : State} {e : ℕ} : Kept 0 s (State.crvMiss s e) := by
  unfold State.crvMiss
  exact (Kept.step State.raise_kept rfl (Kept.step State.add_kept rfl (Kept.step State.setFlag_kept rfl (Kept.refl _ _))))

theorem State.crvOver_kept {s : State} {e : ℕ} : Kept 2 s (State.crvOver s e) := by
  unfold State.crvOver
  exact (Kept.ite (Kept.refl _ _) (Kept.u2 (Kept.refl _ _) rfl))

theorem State.crvSweep_kept {s : State} : Kept 2 s (State.crvSweep s) := by
  unfold State.crvSweep
  exact (Kept.foldl (Kept.refl _ _) (fun _ _ h1 => (Kept.ite (Kept.step State.crvMiss_kept rfl h1) (Kept.ite (Kept.ite (Kept.step State.crvOver_kept rfl h1) (Kept.ite h1 (Kept.step State.crvMiss_kept rfl h1))) h1))))

theorem State.crvArmed1_kept {s : State} {e : ℕ} : Kept 2 s (State.crvArmed1 s e) := by
  unfold State.crvArmed1
  exact (Kept.ite (Kept.step State.crvOver_kept rfl (Kept.refl _ _)) (Kept.refl _ _))

theorem State.rasEffect_kept {s : State} {a : ℕ} {old : ℕ} {data : ℕ} : Kept 2 s (State.rasEffect s a old data) := by
  unfold State.rasEffect
  refine Kept.ite (Kept.ite (Kept.refl _ _) (Kept.step State.crvSweep_kept rfl (Kept.refl _ _))) ?_
  split
  · exact (Kept.ite (Kept.step State.crvArmed1_kept rfl (Kept.u2 (Kept.refl _ _) rfl)) (Kept.refl _ _))
  · exact (Kept.refl _ _)

theorem State.cacheGive_kept {s : State} : Kept 256 s (State.cacheGive s) := by
  unfold State.cacheGive
  exact (Kept.u256 (Kept.refl _ _) rfl)

theorem State.scnEffect_kept {s : State} {off : ℕ} {old : ℕ} {data : ℕ} : Kept 264 s (State.scnEffect s off old data) := by
  unfold State.scnEffect
  exact (Kept.ite (Kept.ite (Kept.step State.cacheGive_kept rfl (Kept.u8 (Kept.refl _ _) rfl)) (Kept.ite (Kept.u8 (Kept.refl _ _) rfl) (Kept.refl _ _))) (Kept.ite (Kept.ite (Kept.u8 (Kept.refl _ _) rfl) (Kept.refl _ _)) (Kept.refl _ _)))

theorem State.sessEnabled_kept {s : State} {k : ℕ} : Kept 1107296256 s (State.sessEnabled s k) := by
  unfold State.sessEnabled
  extract_lets +onlyGivenNames -merge -useContext x1
  extract_lets +onlyGivenNames -merge -useContext x2
  have k3 : Kept 1107296256 s x2 := (Kept.u33554432 (Kept.refl _ _) rfl)
  exact (Kept.ite (Kept.u1073741824 k3 rfl) k3)

theorem State.shutSess_kept {s : State} {k : ℕ} : Kept 24 s (State.shutSess s k) := by
  unfold State.shutSess
  exact (Kept.step State.setSess_kept rfl (Kept.step State.dropWaiting_kept rfl (Kept.refl _ _)))

theorem State.openSess_kept {s : State} {k : ℕ} : Kept 16 s (State.openSess s k) := by
  unfold State.openSess
  exact (Kept.step State.setSess_kept rfl (Kept.refl _ _))

theorem State.closeSess_kept {s : State} {k : ℕ} : Kept 24 s (State.closeSess s k) := by
  unfold State.closeSess
  exact (Kept.step State.checkComplete_kept rfl (Kept.step State.shutSess_kept rfl (Kept.refl _ _)))

theorem State.ingEffect_kept {s : State} {off : ℕ} {old : ℕ} {data : ℕ} : Kept 24 s (State.ingEffect s off old data) := by
  unfold State.ingEffect
  exact (Kept.ite (Kept.ite (Kept.foldl (Kept.refl _ _) (fun _ _ h1 => (Kept.step State.shutSess_kept rfl (Kept.step State.setFlag_kept rfl h1)))) (Kept.refl _ _)) (Kept.ite (Kept.ite (Kept.u16 (Kept.step State.setFlag_kept rfl (Kept.refl _ _)) rfl) (Kept.refl _ _)) (Kept.ite (Kept.ite (Kept.step State.openSess_kept rfl (Kept.refl _ _)) (Kept.ite (Kept.step State.closeSess_kept rfl (Kept.refl _ _)) (Kept.step State.checkComplete_kept rfl (Kept.refl _ _)))) (Kept.refl _ _))))

theorem State.ingStart_kept {s : State} {off : ℕ} {old : ℕ} {data : ℕ} : Kept 1107296280 s (State.ingStart s off old data) := by
  unfold State.ingStart
  extract_lets +onlyGivenNames -merge -useContext x1
  have k2 : Kept 1107296280 s x1 := (Kept.step State.ingEffect_kept rfl (Kept.refl _ _))
  exact (Kept.ite (Kept.step State.sessEnabled_kept rfl k2) k2)

theorem State.mbcResumeOp_kept {s : State} {n : ℕ} {data : ℕ} : Kept 49184 s (State.mbcResumeOp s n data) := by
  unfold State.mbcResumeOp
  split
  · exact (Kept.refl _ _)
  · exact (Kept.ite (Kept.step State.mbcCancel_kept rfl (Kept.refl _ _)) (Kept.step State.setFld_kept rfl (Kept.step State.setEng_kept rfl (Kept.refl _ _))))

theorem State.mbcEffect_kept {s : State} {n : ℕ} {off : ℕ} {old : ℕ} {data : ℕ} : Kept 49184 s (State.mbcEffect s n off old data) := by
  unfold State.mbcEffect
  exact (Kept.ite (Kept.ite (Kept.step State.mbcCancel_kept rfl (Kept.refl _ _)) (Kept.refl _ _)) (Kept.ite (Kept.ite (Kept.refl _ _) (Kept.step State.mbcResumeOp_kept rfl (Kept.refl _ _))) (Kept.refl _ _)))

theorem State.synEffect_kept {s : State} {page : ℕ} {off : ℕ} {data : ℕ} : Kept 64 s (State.synEffect s page off data) := by
  unfold State.synEffect
  exact (Kept.ite (Kept.u64 (Kept.refl _ _) rfl) (Kept.refl _ _))

theorem State.oasClear_kept {s : State} : Kept 512 s (State.oasClear s) := by
  unfold State.oasClear
  exact (Kept.step State.setFlag_kept rfl (Kept.u512 (Kept.refl _ _) rfl))

theorem State.oasSwitch_kept {s : State} {was : Bool} {en : Bool} : Kept 512 s (State.oasSwitch s was en) := by
  unfold State.oasSwitch
  exact (Kept.ite (Kept.step State.oasClear_kept rfl (Kept.refl _ _)) (Kept.ite (Kept.u512 (Kept.refl _ _) rfl) (Kept.refl _ _)))

theorem State.brcEffect_kept {s : State} {page : ℕ} {off : ℕ} {old : ℕ} {data : ℕ} : Kept 512 s (State.brcEffect s page off old data) := by
  unfold State.brcEffect
  exact (Kept.ite (Kept.ite (Kept.u512 (Kept.refl _ _) rfl) (Kept.refl _ _)) (Kept.ite (Kept.step State.oasSwitch_kept rfl (Kept.refl _ _)) (Kept.ite (Kept.step State.wr_kept rfl (Kept.u512 (Kept.refl _ _) rfl)) (Kept.refl _ _))))

theorem State.plcEffect_kept {s : State} {off : ℕ} {data : ℕ} : Kept 256 s (State.plcEffect s off data) := by
  unfold State.plcEffect
  exact (Kept.ite (Kept.step State.setFlag_kept rfl (Kept.refl _ _)) (Kept.ite (Kept.step State.trimCache_kept rfl (Kept.refl _ _)) (Kept.ite (Kept.step State.setFlag_kept rfl (Kept.refl _ _)) (Kept.refl _ _))))

theorem State.bltEffect_kept {s : State} {off : ℕ} {old : ℕ} {data : ℕ} : Kept 8192 s (State.bltEffect s off old data) := by
  unfold State.bltEffect
  split
  · exact (Kept.ite (Kept.step State.add_kept rfl (Kept.step State.setFld_kept rfl (Kept.u8192 (Kept.refl _ _) rfl))) (Kept.ite (Kept.ite (Kept.refl _ _) (Kept.u8192 (Kept.refl _ _) rfl)) (Kept.refl _ _)))
  · exact (Kept.refl _ _)

theorem State.setLane_kept {s : State} {n : ℕ} {x : Lane} : Kept 67108864 s (State.setLane s n x) := by
  unfold State.setLane
  exact (Kept.u67108864 (Kept.refl _ _) rfl)

theorem State.prbsStop_kept {s : State} {n : ℕ} : Kept 67108864 s (State.prbsStop s n) := by
  unfold State.prbsStop
  split
  · exact (Kept.step State.setLane_kept rfl (Kept.step State.wr_kept rfl (Kept.step State.wr_kept rfl (Kept.refl _ _))))
  · exact (Kept.refl _ _)

theorem State.prbsStart_kept {s : State} {n : ℕ} : Kept 67108864 s (State.prbsStart s n) := by
  unfold State.prbsStart
  exact (Kept.step State.setLane_kept rfl (Kept.step State.wr_kept rfl (Kept.step State.wr_kept rfl (Kept.refl _ _))))

theorem State.prbsFollow_kept {s : State} {n : ℕ} : Kept 67108864 s (State.prbsFollow s n) := by
  unfold State.prbsFollow
  exact (Kept.ite (Kept.step State.prbsStop_kept rfl (Kept.refl _ _)) (Kept.ite (Kept.step State.prbsStart_kept rfl (Kept.refl _ _)) (Kept.refl _ _)))

theorem State.setLaneState_kept {s : State} {n : ℕ} {v : ℕ} : Kept 67108864 s (State.setLaneState s n v) := by
  unfold State.setLaneState
  exact (Kept.step State.prbsFollow_kept rfl (Kept.step State.setFlag_kept rfl (Kept.step State.setFld_kept rfl (Kept.refl _ _))))

theorem State.scanDrop_kept {s : State} {n : ℕ} : Kept 0 s (State.scanDrop s n) := by
  unfold State.scanDrop
  exact (Kept.ite (Kept.step State.setFlag_kept rfl (Kept.step State.setFlag_kept rfl (Kept.refl _ _))) (Kept.refl _ _))

theorem State.laneSweep_kept {s : State} : Kept 67108864 s (State.laneSweep s) := by
  unfold State.laneSweep
  exact (Kept.foldl (Kept.refl _ _) (fun _ _ h1 => (Kept.ite (Kept.step State.setFlag_kept rfl (Kept.step State.setLaneState_kept rfl (Kept.step State.scanDrop_kept rfl h1))) h1)))

theorem State.sendLane_kept {s : State} {slot : ℕ} {l : ℕ} {bs : List (Bool × List Byte)} : Kept 34359740416 s (State.sendLane s slot l bs) := by
  unfold State.sendLane
  extract_lets +onlyGivenNames -merge -useContext x1
  extract_lets +onlyGivenNames -merge -useContext x2
  extract_lets +onlyGivenNames -merge -useContext x3
  extract_lets +onlyGivenNames -merge -useContext x4
  have k5 : Kept 34359740416 s x4 := (Kept.u2048 (Kept.refl _ _) rfl)
  exact (Kept.ite (Kept.step State.emit_kept rfl k5) (Kept.ite (Kept.step State.emit_kept rfl k5) k5))

theorem State.sendIdle_kept {s : State} {slot : ℕ} : Kept 34359740416 s (State.sendIdle s slot) := by
  unfold State.sendIdle
  exact (Kept.foldl (Kept.refl _ _) (fun _ _ h1 => (Kept.step State.sendLane_kept rfl h1)))

theorem State.linkRun_kept {s : State} {on : Bool} : Kept 34359740416 s (State.linkRun s on) := by
  unfold State.linkRun
  exact (Kept.ite (Kept.refl _ _) (Kept.ite (Kept.step State.sendIdle_kept rfl (Kept.u2048 (Kept.refl _ _) rfl)) (Kept.u2048 (Kept.step State.sendIdle_kept rfl (Kept.refl _ _)) rfl)))

theorem State.railSwitch_kept {s : State} {n : ℕ} {on : Bool} : Kept 34359738368 s (State.railSwitch s n on) := by
  unfold State.railSwitch
  extract_lets +onlyGivenNames -merge -useContext x1
  extract_lets +onlyGivenNames -merge -useContext x2
  have k3 : Kept 34359738368 s x2 := (Kept.step State.emit_kept rfl (Kept.refl _ _))
  exact (Kept.ite k3 (Kept.step State.emit_kept rfl k3))

theorem State.setPanel_kept {s : State} {v : ℕ} : Kept 0 s (State.setPanel s v) := by
  unfold State.setPanel
  exact (Kept.step State.setFld_kept rfl (Kept.refl _ _))

theorem State.panelUp_kept {s : State} : Kept 34359740416 s (State.panelUp s) := by
  unfold State.panelUp
  exact (Kept.step State.railSwitch_kept rfl (Kept.step State.wr_kept rfl (Kept.step State.setFlag_kept rfl (Kept.step State.setPanel_kept rfl (Kept.u2048 (Kept.step State.linkRun_kept rfl (Kept.refl _ _)) rfl)))))

theorem State.bklHold_kept {s : State} {h : Bool} : Kept 34359742464 s (State.bklHold s h) := by
  unfold State.bklHold
  exact (Kept.ite (Kept.refl _ _) (Kept.foldl (Kept.u4096 (Kept.refl _ _) rfl) (fun _ _ h1 => (Kept.ite h1 (Kept.step State.emit_kept rfl h1)))))

theorem State.hostRecord_kept {s : State} : Kept 4096 s (State.hostRecord s) := by
  unfold State.hostRecord
  exact (Kept.ite (Kept.refl _ _) (Kept.u4096 (Kept.refl _ _) rfl))

theorem State.panelDown_kept {s : State} : Kept 34359744512 s (State.panelDown s) := by
  unfold State.panelDown
  exact (Kept.step State.bklHold_kept rfl (Kept.step State.setPanel_kept rfl (Kept.u2048 (Kept.step State.hostRecord_kept rfl (Kept.refl _ _)) rfl)))

theorem State.discharge_kept {s : State} : Kept 34359744513 s (State.discharge s) := by
  unfold State.discharge
  exact (Kept.ite (Kept.refl _ _) (Kept.step State.raise_kept rfl (Kept.step State.bklHold_kept rfl (Kept.step State.emit_kept rfl (Kept.step State.setPanel_kept rfl (Kept.u2049 (Kept.ite (Kept.step State.hostRecord_kept rfl (Kept.refl _ _)) (Kept.refl _ _)) rfl))))))

theorem State.pnlEffect_kept {s : State} {page : ℕ} {off : ℕ} {data : ℕ} : Kept 34359744513 s (State.pnlEffect s page off data) := by
  unfold State.pnlEffect
  exact (Kept.ite (Kept.ite (Kept.step State.linkRun_kept rfl (Kept.refl _ _)) (Kept.refl _ _)) (Kept.ite (Kept.ite (Kept.u2048 (Kept.refl _ _) rfl) (Kept.ite (Kept.u2048 (Kept.refl _ _) rfl) (Kept.refl _ _))) (Kept.ite (Kept.ite (Kept.step State.wr_kept rfl (Kept.u2048 (Kept.refl _ _) rfl)) (Kept.refl _ _)) (Kept.ite (Kept.ite (Kept.step State.panelUp_kept rfl (Kept.refl _ _)) (Kept.ite (Kept.step State.panelDown_kept rfl (Kept.refl _ _)) (Kept.ite (Kept.step State.discharge_kept rfl (Kept.refl _ _)) (Kept.refl _ _)))) (Kept.refl _ _)))))

theorem State.fadeFrom_kept {s : State} {v0 : ℕ} {v1 : ℕ} {dur : ℕ} {host : Bool} : Kept 4096 s (State.fadeFrom s v0 v1 dur host) := by
  unfold State.fadeFrom
  exact (Kept.step State.setFld_kept rfl (Kept.u4096 (Kept.refl _ _) rfl))

theorem State.bklEffect_kept {s : State} {off : ℕ} {data : ℕ} : Kept 4096 s (State.bklEffect s off data) := by
  unfold State.bklEffect
  refine Kept.ite ?_ (Kept.refl _ _)
  extract_lets +onlyGivenNames -merge -useContext x1
  have k2 : Kept 4096 s x1 := (Kept.step State.add_kept rfl (Kept.step State.fadeFrom_kept rfl (Kept.refl _ _)))
  exact (Kept.ite (Kept.step State.fadeEnd_kept rfl k2) k2)

theorem State.setLock_kept {s : State} {l : ℕ} : Kept 1 s (State.setLock s l) := by
  unfold State.setLock
  exact (Kept.ite (Kept.refl _ _) (Kept.step State.raise_kept rfl (Kept.u1 (Kept.refl _ _) rfl)))

theorem State.lockFollow_kept {s : State} {valid : Bool} {holdover : Bool} : Kept 1 s (State.lockFollow s valid holdover) := by
  unfold State.lockFollow
  exact (Kept.ite (Kept.ite (Kept.step State.setLock_kept rfl (Kept.refl _ _)) (Kept.refl _ _)) (Kept.ite (Kept.ite (Kept.refl _ _) (Kept.step State.setLock_kept rfl (Kept.refl _ _))) (Kept.ite (Kept.step State.setLock_kept rfl (Kept.refl _ _)) (Kept.refl _ _))))

theorem State.setTim_kept {s : State} {v : ℕ} : Kept 1 s (State.setTim s v) := by
  unfold State.setTim
  refine Kept.ite (Kept.refl _ _) ?_
  extract_lets +onlyGivenNames -merge -useContext x1
  have k2 : Kept 1 s x1 := (Kept.step State.raise_kept rfl (Kept.step State.setFlag_kept rfl (Kept.step State.setFld_kept rfl (Kept.refl _ _))))
  extract_lets +onlyGivenNames -merge -useContext x3
  have k4 : Kept 1 s x3 := (Kept.ite (Kept.step State.add_kept rfl k2) k2)
  exact (Kept.ite (Kept.step State.lockFollow_kept rfl k4) k4)

theorem State.anchor_kept {s : State} {step : ℤ} {rate : ℚ} : Kept 917504 s (State.anchor s step rate) := by
  unfold State.anchor
  exact (Kept.u917504 (Kept.refl _ _) rfl)

theorem State.setRate_kept {s : State} {step : ℤ} {rate : ℚ} : Kept 1966080 s (State.setRate s step rate) := by
  unfold State.setRate
  exact (Kept.step State.wr_kept rfl (Kept.u1048576 (Kept.step State.anchor_kept rfl (Kept.refl _ _)) rfl))

theorem State.enterHold_kept {s : State} : Kept 1966081 s (State.enterHold s) := by
  unfold State.enterHold
  exact (Kept.ite (Kept.refl _ _) (Kept.step State.setTim_kept rfl (Kept.step State.setRate_kept rfl (Kept.step State.add_kept rfl (Kept.u1048576 (Kept.refl _ _) rfl)))))

theorem State.setPtpState_kept {s : State} {x : ℕ} {v : ℕ} : Kept 1966081 s (State.setPtpState s x v) := by
  unfold State.setPtpState
  refine Kept.ite (Kept.refl _ _) ?_
  extract_lets +onlyGivenNames -merge -useContext x1
  have k2 : Kept 1966081 s x1 := (Kept.step State.raise_kept rfl (Kept.step State.setFld_kept rfl (Kept.refl _ _)))
  exact (Kept.ite (Kept.step State.enterHold_kept rfl (Kept.step State.setFlag_kept rfl k2)) k2)

theorem State.setPath_kept {s : State} {x : ℕ} {p : NetPath} : Kept 2097152 s (State.setPath s x p) := by
  unfold State.setPath
  exact (Kept.u2097152 (Kept.refl _ _) rfl)

theorem State.setPtp_kept {s : State} {x : ℕ} {p : Ptp} : Kept 2097152 s (State.setPtp s x p) := by
  unfold State.setPtp
  exact (Kept.step State.setPath_kept rfl (Kept.refl _ _))

theorem State.ptpEffect_kept {s : State} {x : ℕ} {off : ℕ} {old : ℕ} {data : ℕ} : Kept 4063233 s (State.ptpEffect s x off old data) := by
  unfold State.ptpEffect
  exact (Kept.ite (Kept.ite (Kept.step State.setPtpState_kept rfl (Kept.step State.setPtp_kept rfl (Kept.refl _ _))) (Kept.step State.setPtpState_kept rfl (Kept.refl _ _))) (Kept.refl _ _))

theorem State.fovArm_kept {s : State} : Kept 4194304 s (State.fovArm s) := by
  unfold State.fovArm
  exact (Kept.ite (Kept.refl _ _) (Kept.step State.raise_kept rfl (Kept.u4194304 (Kept.refl _ _) rfl)))

theorem State.fovDigest_kept {s : State} : Kept 4194304 s (State.fovDigest s) := by
  unfold State.fovDigest
  extract_lets +onlyGivenNames -merge -useContext x1
  extract_lets +onlyGivenNames -merge -useContext x2
  have k3 : Kept 4194304 s x2 := (Kept.u4194304 (Kept.refl _ _) rfl)
  exact (Kept.step State.fovArm_kept rfl (Kept.ite (Kept.step State.raise_kept rfl k3) k3))

theorem State.descDone_kept {s : State} {x : ℕ} {d : Option ℕ} {status : ℕ} : Kept 49152 s (State.descDone s x d status) := by
  unfold State.descDone
  split
  · exact (Kept.step State.raise_kept rfl (Kept.step State.dramWrite_kept rfl (Kept.refl _ _)))
  · exact (Kept.refl _ _)

theorem State.setQueue_kept {s : State} {x : ℕ} {q : ℕ} {v : EgQueue} : Kept 2097152 s (State.setQueue s x q v) := by
  unfold State.setQueue
  exact (Kept.step State.setPath_kept rfl (Kept.refl _ _))

theorem State.enqueue_kept {s : State} {x : ℕ} {q : ℕ} {f : EgFrame} : Kept 2097152 s (State.enqueue s x q f) := by
  unfold State.enqueue
  exact (Kept.ite (Kept.step State.add_kept rfl (Kept.refl _ _)) (Kept.step State.setQueue_kept rfl (Kept.refl _ _)))

theorem State.htxTake_kept {s : State} {x : ℕ} : Kept 2146304 s (State.htxTake s x) := by
  unfold State.htxTake
  extract_lets +onlyGivenNames -merge -useContext x1
  extract_lets +onlyGivenNames -merge -useContext x2
  extract_lets +onlyGivenNames -merge -useContext x3
  have k4 : Kept 2146304 s x3 := (Kept.step State.wr_kept rfl (Kept.refl _ _))
  split
  · exact k4
  · extract_lets +onlyGivenNames -merge -useContext x5
    extract_lets +onlyGivenNames -merge -useContext x6
    refine Kept.ite (Kept.step State.descDone_kept rfl k4) ?_
    split
    · exact (Kept.step State.descDone_kept rfl k4)
    · exact (Kept.ite (Kept.step State.descDone_kept rfl (Kept.step State.add_kept rfl k4)) (Kept.step State.enqueue_kept rfl k4))

theorem State.htxTakeAll_kept {s : State} {x : ℕ} : Kept 2146304 s (State.htxTakeAll s x) := by
  unfold State.htxTakeAll
  exact (Kept.ite (Kept.refl _ _) (Kept.foldl (Kept.refl _ _) (fun _ _ h1 => (Kept.step State.htxTake_kept rfl h1))))

theorem State.bothDown_kept {s : State} : Kept 0 s (State.bothDown s) := by
  unfold State.bothDown
  exact (Kept.ite (Kept.refl _ _) (Kept.step State.raise_kept rfl (Kept.refl _ _)))

theorem State.standbyOut_kept {s : State} : Kept 4194304 s (State.standbyOut s) := by
  unfold State.standbyOut
  exact (Kept.step State.fovArm_kept rfl (Kept.u4194304 (Kept.refl _ _) rfl))

theorem State.linkSet_kept {s : State} {x : ℕ} {up : Bool} : Kept 4194308 s (State.linkSet s x up) := by
  unfold State.linkSet
  extract_lets +onlyGivenNames -merge -useContext x1
  have k2 : Kept 4194308 s x1 := (Kept.step State.raise_kept rfl (Kept.step State.setFlag_kept rfl (Kept.refl _ _)))
  extract_lets +onlyGivenNames -merge -useContext x3
  extract_lets +onlyGivenNames -merge -useContext x4
  have k5 : Kept 4194308 s x4 := (Kept.u4194304 k2 rfl)
  exact (Kept.step State.bothDown_kept rfl (Kept.ite k5 (Kept.ite (Kept.step State.fovArm_kept rfl k5) (Kept.step State.logIt_kept rfl (Kept.step State.standbyOut_kept rfl k5)))))

theorem State.showStart_kept {s : State} {x : ℕ} {t : ℕ} : Kept 0 s (State.showStart s x t) := by
  unfold State.showStart
  exact (Kept.step State.wr_kept rfl (Kept.step State.wr_kept rfl (Kept.step State.wr_kept rfl (Kept.refl _ _))))

theorem State.gclGo_kept {s : State} {x : ℕ} : Kept 2097152 s (State.gclGo s x) := by
  unfold State.gclGo
  exact (Kept.step State.showStart_kept rfl (Kept.step State.setPath_kept rfl (Kept.refl _ _)))

theorem State.npEffect_kept {s : State} {x : ℕ} {page : ℕ} {off : ℕ} {old : ℕ} {data : ℕ} : Kept 6340612 s (State.npEffect s x page off old data) := by
  unfold State.npEffect
  extract_lets +onlyGivenNames -merge -useContext x1
  refine Kept.ite ?_ (Kept.ite (Kept.step State.setPath_kept rfl (Kept.refl _ _)) (Kept.ite (Kept.step State.setQueue_kept rfl (Kept.refl _ _)) (Kept.ite (Kept.ite (Kept.step State.gclGo_kept rfl (Kept.refl _ _)) (Kept.ite (Kept.step State.showStart_kept rfl (Kept.step State.setFlag_kept rfl (Kept.step State.setPath_kept rfl (Kept.refl _ _)))) (Kept.refl _ _))) (Kept.refl _ _))))
  refine Kept.ite (Kept.step State.htxTakeAll_kept rfl (Kept.refl _ _)) ?_
  refine Kept.ite (Kept.step State.setPath_kept rfl (Kept.refl _ _)) ?_
  refine Kept.ite ?_ (Kept.refl _ _)
  extract_lets +onlyGivenNames -merge -useContext x2
  have k3 : Kept 6340612 s x2 := (Kept.step State.setPath_kept rfl (Kept.refl _ _))
  exact (Kept.ite (Kept.step State.linkSet_kept rfl k3) k3)

theorem State.npStart_kept {s : State} {x : ℕ} {page : ℕ} {off : ℕ} {old : ℕ} {data : ℕ} : Kept 75415557 s (State.npStart s x page off old data) := by
  unfold State.npStart
  refine Kept.ite (Kept.step State.ptpEffect_kept rfl (Kept.refl _ _)) ?_
  extract_lets +onlyGivenNames -merge -useContext x1
  have k2 : Kept 75415557 s x1 := (Kept.step State.npEffect_kept rfl (Kept.refl _ _))
  exact (Kept.step State.fovDigest_kept rfl (Kept.ite (Kept.step State.laneSweep_kept rfl k2) k2))

theorem State.fovEffect_kept {s : State} {off : ℕ} {data : ℕ} : Kept 4194304 s (State.fovEffect s off data) := by
  unfold State.fovEffect
  exact (Kept.ite (Kept.step State.fovArm_kept rfl (Kept.ite (Kept.u4194304 (Kept.refl _ _) rfl) (Kept.refl _ _))) (Kept.refl _ _))

theorem State.dropChannel_kept {s : State} {c : Nat} : Kept 49152 s (s.dropChannel c) := by
  constructor
  case dramWf => exact fun w => Sparse.wf_filter _ w
  all_goals first | exact rfl | exact Nat.le_refl _ | exact id | exact .inr rfl | exact .inl rfl

theorem State.dmcEffect_kept {s : State} {page : ℕ} {off : ℕ} {old : ℕ} {data : ℕ} : Kept 34376564736 s (State.dmcEffect s page off old data) := by
  unfold State.dmcEffect
  refine Kept.ite ?_ (Kept.ite (Kept.step State.setChan_kept rfl (Kept.refl _ _)) (Kept.refl _ _))
  refine Kept.ite ?_ (Kept.refl _ _)
  extract_lets +onlyGivenNames -merge -useContext x1
  have k2 : Kept 34376564736 s x1 := (Kept.step State.emit_kept rfl (Kept.refl _ _))
  exact (Kept.ite k2 (Kept.step State.dropChannel_kept rfl k2))

theorem State.metaBegin_kept {s : State} : Kept 268435456 s (State.metaBegin s) := by
  unfold State.metaBegin
  exact (Kept.u268435456 (Kept.refl _ _) rfl)

theorem State.refuseStore_kept {s : State} : Kept 0 s (State.refuseStore s) := by
  unfold State.refuseStore
  exact (Kept.step State.add_kept rfl (Kept.refl _ _))

theorem State.segStore_kept {s : State} {x : Seg × List Bool} : Kept 301989888 s (State.segStore s x) := by
  unfold State.segStore
  exact (Kept.ite (Kept.u33554432 (Kept.refl _ _) rfl) (Kept.ite (Kept.u33554432 (Kept.step State.metaBegin_kept rfl (Kept.refl _ _)) rfl) (Kept.u33554432 (Kept.step State.refuseStore_kept rfl (Kept.refl _ _)) rfl)))

theorem State.segWrite_kept {s : State} : Kept 301989888 s (State.segWrite s) := by
  unfold State.segWrite
  extract_lets +onlyGivenNames -merge -useContext x1
  extract_lets +onlyGivenNames -merge -useContext x2
  have k3 : Kept 301989888 s x2 := (Kept.step State.wr_kept rfl (Kept.refl _ _))
  split
  · exact (Kept.u33554432 k3 rfl)
  · split
    · exact (Kept.u33554432 k3 rfl)
    · exact (Kept.step State.segStore_kept rfl k3)

theorem State.segDelete_kept {s : State} {n : ℕ} : Kept 301989888 s (State.segDelete s n) := by
  unfold State.segDelete
  exact (Kept.ite (Kept.u33554432 (Kept.refl _ _) rfl) (Kept.ite (Kept.u33554432 (Kept.step State.metaBegin_kept rfl (Kept.refl _ _)) rfl) (Kept.u33554432 (Kept.step State.refuseStore_kept rfl (Kept.refl _ _)) rfl)))

theorem State.segOp_kept {s : State} {op : ℕ} : Kept 301989888 s (State.segOp s op) := by
  unfold State.segOp
  exact (Kept.ite (Kept.u33554432 (Kept.refl _ _) rfl) (Kept.step State.segDelete_kept rfl (Kept.refl _ _)))

theorem State.setPlay_kept {s : State} {p : ℕ} {x : Option Play} : Kept 33554432 s (State.setPlay s p x) := by
  unfold State.setPlay
  exact (Kept.u33554432 (Kept.refl _ _) rfl)

theorem State.playGo_kept {s : State} {p : ℕ} {k : ℕ} {seg : ℕ} {infinite : Bool} {start : ℕ} : Kept 33554432 s (State.playGo s p k seg infinite start) := by
  unfold State.playGo
  exact (Kept.step State.wr_kept rfl (Kept.step State.setPlay_kept rfl (Kept.refl _ _)))

theorem State.playStop_kept {s : State} {p : ℕ} : Kept 33554432 s (State.playStop s p) := by
  unfold State.playStop
  exact (Kept.step State.setFld_kept rfl (Kept.step State.setPlay_kept rfl (Kept.refl _ _)))

theorem State.setDrive_kept {s : State} {d : ℕ} {x : Drive} : Kept 33554432 s (State.setDrive s d x) := by
  unfold State.setDrive
  exact (Kept.u33554432 (Kept.refl _ _) rfl)

theorem State.nvme_kept {s : State} {d : ℕ} {queue : ℕ} {c : NvmeCmd} : Kept 34359738368 s (State.nvme s d queue c) := by
  unfold State.nvme
  exact (Kept.step State.emit_kept rfl (Kept.refl _ _))

theorem State.draw_kept {s : State} : Kept 8589934592 s s.draw.2 := by
  constructor
  case freeLe => exact Nat.le_succ _
  case free => exact .inl rfl
  all_goals first | exact rfl | exact Nat.le_refl _ | exact id | exact .inr rfl

theorem State.metaWrite_kept {s : State} {d : ℕ} {nums : List ℕ} : Kept 42983227392 s (State.metaWrite s d nums) := by
  unfold State.metaWrite
  extract_lets +onlyGivenNames -merge -useContext x1
  split
  · exact (Kept.step State.add_kept rfl (Kept.step State.nvme_kept rfl (Kept.step State.nvme_kept rfl (Kept.step State.setDrive_kept rfl (Kept.step State.draw_kept rfl (Kept.refl _ _))))))

theorem State.driveInit_kept {s : State} {d : ℕ} : Kept 42983227392 s (State.driveInit s d) := by
  unfold State.driveInit
  exact (Kept.step State.setFlag_kept rfl (Kept.step State.setFld_kept rfl (Kept.step State.metaWrite_kept rfl (Kept.step State.setDrive_kept rfl (Kept.refl _ _)))))

theorem State.initStore_kept {s : State} {d : ℕ} : Kept 42983227392 s (State.initStore s d) := by
  unfold State.initStore
  exact (Kept.ite (Kept.step State.setDrive_kept rfl (Kept.refl _ _)) (Kept.step State.driveInit_kept rfl (Kept.refl _ _)))

theorem State.nvsEffect_kept {s : State} {page : ℕ} {off : ℕ} {data : ℕ} : Kept 43251662848 s (State.nvsEffect s page off data) := by
  unfold State.nvsEffect
  exact (Kept.ite (Kept.ite (Kept.step State.segWrite_kept rfl (Kept.refl _ _)) (Kept.ite (Kept.step State.segOp_kept rfl (Kept.refl _ _)) (Kept.ite (Kept.ite (Kept.step State.playGo_kept rfl (Kept.refl _ _)) (Kept.ite (Kept.step State.playStop_kept rfl (Kept.refl _ _)) (Kept.refl _ _))) (Kept.refl _ _)))) (Kept.ite (Kept.step State.initStore_kept rfl (Kept.refl _ _)) (Kept.refl _ _)))

theorem State.laneIdle_kept {s : State} {n : ℕ} : Kept 34359740416 s (State.laneIdle s n) := by
  unfold State.laneIdle
  exact (Kept.ite (Kept.step State.emit_kept rfl (Kept.u2048 (Kept.refl _ _) rfl)) (Kept.refl _ _))

theorem State.setEqNow_kept {s : State} {n : ℕ} {w : List ℕ} : Kept 0 s (State.setEqNow s n w) := by
  unfold State.setEqNow
  exact (Kept.step State.wr_kept rfl (Kept.step State.wr_kept rfl (Kept.step State.wr_kept rfl (Kept.refl _ _))))

theorem State.laneRound_kept {s : State} {n : ℕ} {t : ℤ} : Kept 67108864 s (State.laneRound s n t) := by
  unfold State.laneRound
  split
  · exact (Kept.step State.setFlag_kept rfl (Kept.step State.setLane_kept rfl (Kept.refl _ _)))
  · exact (Kept.step State.setFlag_kept rfl (Kept.step State.setLane_kept rfl (Kept.refl _ _)))
  · exact (Kept.step State.setFlag_kept rfl (Kept.step State.setLane_kept rfl (Kept.refl _ _)))

theorem State.laneRun_kept {s : State} {n : ℕ} {load : Bool} : Kept 34426849280 s (State.laneRun s n load) := by
  unfold State.laneRun
  extract_lets +onlyGivenNames -merge -useContext x1
  have k2 : Kept 34426849280 s x1 := (Kept.ite (Kept.step State.setFld_kept rfl (Kept.step State.setFld_kept rfl (Kept.refl _ _))) (Kept.refl _ _))
  exact (Kept.step State.laneIdle_kept rfl (Kept.step State.setLaneState_kept rfl (Kept.step State.setFlag_kept rfl (Kept.step State.scanDrop_kept rfl (Kept.ite (Kept.step State.setEqNow_kept rfl (Kept.step State.laneRound_kept rfl k2)) k2)))))

theorem State.laneStart_kept {s : State} {n : ℕ} : Kept 34426849280 s (State.laneStart s n) := by
  unfold State.laneStart
  exact (Kept.step State.laneRun_kept rfl (Kept.step State.setLane_kept rfl (Kept.refl _ _)))

theorem State.lnkEffect_kept {s : State} {page : ℕ} {off : ℕ} {old : ℕ} {data : ℕ} : Kept 34426849280 s (State.lnkEffect s page off old data) := by
  unfold State.lnkEffect
  refine Kept.ite (Kept.refl _ _) ?_
  split
  · refine Kept.ite ?_ (Kept.ite (Kept.step State.setLane_kept rfl (Kept.refl _ _)) (Kept.refl _ _))
    extract_lets +onlyGivenNames -merge -useContext x1
    have k2 : Kept 34426849280 s x1 := (Kept.ite (Kept.step State.prbsStop_kept rfl (Kept.refl _ _)) (Kept.refl _ _))
    extract_lets +onlyGivenNames -merge -useContext x3
    have k4 : Kept 34426849280 s x3 := (Kept.ite (Kept.step State.laneStart_kept rfl k2) (Kept.ite (Kept.step State.setLaneState_kept rfl k2) (Kept.ite (Kept.step State.setLaneState_kept rfl k2) (Kept.step State.prbsFollow_kept rfl k2))))
    exact (Kept.ite (Kept.step State.setFlag_kept rfl (Kept.step State.setFlag_kept rfl k4)) k4)

theorem State.cpxRestart_kept {s : State} : Kept 134217728 s (State.cpxRestart s) := by
  unfold State.cpxRestart
  exact (Kept.step State.raise_kept rfl (Kept.step State.addSat_kept rfl (Kept.step State.setFld_kept rfl (Kept.u134217728 (Kept.refl _ _) rfl))))

theorem State.mgtEffect_kept {s : State} {off : ℕ} {data : ℕ} : Kept 134217728 s (State.mgtEffect s off data) := by
  unfold State.mgtEffect
  exact (Kept.ite (Kept.step State.cpxRestart_kept rfl (Kept.refl _ _)) (Kept.ite (Kept.u134217728 (Kept.refl _ _) rfl) (Kept.ite (Kept.step State.setFlag_kept rfl (Kept.refl _ _)) (Kept.refl _ _))))

theorem State.setDomReq_kept {s : State} {d : ℕ} {on : Bool} : Kept 0 s (State.setDomReq s d on) := by
  unfold State.setDomReq
  exact (Kept.ite (Kept.step State.setFlag_kept rfl (Kept.refl _ _)) (Kept.step State.setFlag_kept rfl (Kept.refl _ _)))

theorem State.domainOn_kept {s : State} {d : ℕ} : Kept 268435456 s (State.domainOn s d) := by
  unfold State.domainOn
  exact (Kept.ite (Kept.refl _ _) (Kept.u268435456 (Kept.step State.setDomReq_kept rfl (Kept.refl _ _)) rfl))

theorem State.resetBytes_kept {s : State} {b n : Nat} : Kept 0 s (s.resetBytes b n) := by
  constructor
  case regsWf => exact fun w => Sparse.wf_filter _ w
  all_goals first | exact rfl | exact Nat.le_refl _ | exact id | exact .inr rfl

theorem State.laneClear_kept {s : State} {n : ℕ} : Kept 67108864 s (State.laneClear s n) := by
  unfold State.laneClear
  exact (Kept.step State.setLane_kept rfl (Kept.step State.setFlag_kept rfl (Kept.step State.resetBytes_kept rfl (Kept.refl _ _))))

theorem State.lanesClear_kept {s : State} {d : ℕ} : Kept 67108864 s (State.lanesClear s d) := by
  unfold State.lanesClear
  exact (Kept.foldl (Kept.refl _ _) (fun _ _ h1 => (Kept.step State.laneClear_kept rfl h1)))

theorem State.mirrorFail_kept {s : State} : Kept 4194308 s (State.mirrorFail s) := by
  unfold State.mirrorFail
  extract_lets +onlyGivenNames -merge -useContext x1
  extract_lets +onlyGivenNames -merge -useContext x2
  have k3 : Kept 4194308 s x2 := (Kept.u4194304 (Kept.refl _ _) rfl)
  exact (Kept.ite (Kept.step State.fovArm_kept rfl (Kept.step State.logIt_kept rfl (Kept.step State.raise_kept rfl (Kept.step State.add_kept rfl (Kept.u4194304 k3 rfl))))) k3)

theorem State.resetBlock_kept {s : State} {d : ℕ} : Kept 192872447 s (State.resetBlock s d) := by
  unfold State.resetBlock
  refine Kept.ite (Kept.u134217728 (Kept.refl _ _) rfl) ?_
  refine Kept.ite (Kept.u1966083 (Kept.refl _ _) rfl) ?_
  refine Kept.ite (Kept.u136 (Kept.refl _ _) rfl) ?_
  refine Kept.ite (Kept.u24 (Kept.refl _ _) rfl) ?_
  refine Kept.ite (Kept.u32 (Kept.refl _ _) rfl) ?_
  refine Kept.ite (Kept.u512 (Kept.refl _ _) rfl) ?_
  refine Kept.ite (Kept.u320 (Kept.refl _ _) rfl) ?_
  refine Kept.ite (Kept.u1024 (Kept.refl _ _) rfl) ?_
  refine Kept.ite (Kept.u8192 (Kept.refl _ _) rfl) ?_
  refine Kept.ite (Kept.u2048 (Kept.refl _ _) rfl) ?_
  refine Kept.ite (Kept.u2048 (Kept.refl _ _) rfl) ?_
  refine Kept.ite (Kept.u2048 (Kept.refl _ _) rfl) ?_
  refine Kept.ite (Kept.u4096 (Kept.refl _ _) rfl) ?_
  refine Kept.ite (Kept.step State.setChan_kept rfl (Kept.step State.setChan_kept rfl (Kept.step State.dropChannel_kept rfl (Kept.step State.dropChannel_kept rfl (Kept.refl _ _))))) ?_
  refine Kept.ite (Kept.u33554432 (Kept.refl _ _) rfl) ?_
  refine Kept.ite ?_ (Kept.ite (Kept.ite (Kept.step State.mirrorFail_kept rfl (Kept.refl _ _)) (Kept.refl _ _)) (Kept.refl _ _))
  extract_lets +onlyGivenNames -merge -useContext x1
  have k2 : Kept 192872447 s x1 := (Kept.u2097152 (Kept.refl _ _) rfl)
  exact (Kept.step State.fovDigest_kept rfl (Kept.ite k2 (Kept.step State.standbyOut_kept rfl k2)))

theorem State.resetPage_kept {s : State} {b : Nat} : Kept 17179869184 s (s.resetPage b) := by
  constructor
  case regsWf => exact fun w => Sparse.wf_filter _ w
  case shadow => exact .inl rfl
  all_goals first | exact rfl | exact Nat.le_refl _ | exact id | exact .inr rfl

theorem State.setDomStat_kept {s : State} {d : ℕ} {on : Bool} : Kept 0 s (State.setDomStat s d on) := by
  unfold State.setDomStat
  exact (Kept.ite (Kept.step State.setFlag_kept rfl (Kept.refl _ _)) (Kept.step State.setFlag_kept rfl (Kept.refl _ _)))

theorem State.domainOff_kept {s : State} {d : ℕ} : Kept 19855769599 s (State.domainOff s d) := by
  unfold State.domainOff
  exact (Kept.step State.laneSweep_kept rfl (Kept.step State.lanesClear_kept rfl (Kept.step State.resetBlock_kept rfl (Kept.foldl (Kept.u2415919104 (Kept.step State.setDomStat_kept rfl (Kept.step State.setDomReq_kept rfl (Kept.refl _ _))) rfl) (fun _ _ h1 => (Kept.step State.resetPage_kept rfl h1))))))

theorem State.pwrEffect_kept {s : State} {off : ℕ} {old : ℕ} {data : ℕ} : Kept 19855769599 s (State.pwrEffect s off old data) := by
  unfold State.pwrEffect
  exact (Kept.ite (Kept.foldl (Kept.step State.wr_kept rfl (Kept.refl _ _)) (fun _ _ h1 => (Kept.ite (Kept.step State.domainOn_kept rfl h1) (Kept.step State.domainOff_kept rfl h1)))) (Kept.refl _ _))

theorem State.sensClear_kept {s : State} : Kept 536870912 s (State.sensClear s) := by
  unfold State.sensClear
  exact (Kept.u536870912 (Kept.step State.wr_kept rfl (Kept.step State.wr_kept rfl (Kept.step State.wr_kept rfl (Kept.refl _ _)))) rfl)

theorem State.thmEffect_kept {s : State} {off : ℕ} {data : ℕ} : Kept 536870912 s (State.thmEffect s off data) := by
  unfold State.thmEffect
  exact (Kept.ite (Kept.step State.sensClear_kept rfl (Kept.refl _ _)) (Kept.refl _ _))

theorem State.newNonce_kept {s : State} : Kept 9663676416 s (State.newNonce s) := by
  unfold State.newNonce
  exact (Kept.u1073741824 (Kept.step State.draw_kept rfl (Kept.step State.draw_kept rfl (Kept.refl _ _))) rfl)

theorem State.mgStarted_kept {s : State} : Kept 9797894144 s (State.mgStarted s) := by
  unfold State.mgStarted
  exact (Kept.step State.setDomStat_kept rfl (Kept.step State.setFlag_kept rfl (Kept.step State.setFld_kept rfl (Kept.u134217728 (Kept.step State.newNonce_kept rfl (Kept.step State.draw_kept rfl (Kept.refl _ _))) rfl))))

theorem State.runImage_kept {s : State} {k : ℕ} {i : SignedObj} {fallback : Bool} : Kept 1073741824 s (State.runImage s k i fallback) := by
  unfold State.runImage
  exact (Kept.u1073741824 (Kept.refl _ _) rfl)

theorem State.recoveryGo_kept {s : State} : Kept 10066329600 s (State.recoveryGo s) := by
  unfold State.recoveryGo
  extract_lets +onlyGivenNames -merge -useContext x1
  extract_lets +onlyGivenNames -merge -useContext x2
  have k3 : Kept 10066329600 s x2 := (Kept.step State.setFlag_kept rfl (Kept.refl _ _))
  split
  · exact (Kept.step State.mgStarted_kept rfl (Kept.step State.runImage_kept rfl (Kept.u1342177280 (Kept.step State.setFld_kept rfl k3) rfl)))
  · exact (Kept.step State.setFld_kept rfl k3)

theorem State.secEffect_kept {s : State} {off : ℕ} {data : ℕ} : Kept 10066329600 s (State.secEffect s off data) := by
  unfold State.secEffect
  refine Kept.ite ?_ (Kept.ite (Kept.ite (Kept.u1073741824 (Kept.refl _ _) rfl) (Kept.refl _ _)) (Kept.refl _ _))
  extract_lets +onlyGivenNames -merge -useContext x1
  extract_lets +onlyGivenNames -merge -useContext x2
  have k3 : Kept 10066329600 s x2 := (Kept.ite (Kept.u1073741824 (Kept.refl _ _) rfl) (Kept.refl _ _))
  exact (Kept.ite (Kept.step State.recoveryGo_kept rfl k3) k3)

theorem State.svcEffect_kept {s : State} {off : ℕ} {data : ℕ} : Kept 2164315040 s (State.svcEffect s off data) := by
  unfold State.svcEffect
  refine Kept.ite ?_ (Kept.refl _ _)
  split
  · exact (Kept.step State.unitRequest_kept rfl (Kept.refl _ _))
  · exact (Kept.refl _ _)

theorem State.blockEffect_kept {s : State} {p : PageDef} {off : ℕ} {old : ℕ} {data : ℕ} : Kept 64416055295 s (State.blockEffect s p off old data) := by
  unfold State.blockEffect
  exact (Kept.ite (Kept.step State.devEffect_kept rfl (Kept.refl _ _)) (Kept.ite (Kept.step State.rasEffect_kept rfl (Kept.refl _ _)) (Kept.ite (Kept.step State.scnEffect_kept rfl (Kept.refl _ _)) (Kept.ite (Kept.step State.ingStart_kept rfl (Kept.refl _ _)) (Kept.ite (Kept.step State.mbcEffect_kept rfl (Kept.refl _ _)) (Kept.ite (Kept.step State.synEffect_kept rfl (Kept.refl _ _)) (Kept.ite (Kept.ite (Kept.step State.fenceWrite_kept rfl (Kept.refl _ _)) (Kept.refl _ _)) (Kept.ite (Kept.step State.brcEffect_kept rfl (Kept.refl _ _)) (Kept.ite (Kept.step State.plcEffect_kept rfl (Kept.refl _ _)) (Kept.ite (Kept.step State.bltEffect_kept rfl (Kept.refl _ _)) (Kept.ite (Kept.ite (Kept.step State.laneSweep_kept rfl (Kept.step State.pnlEffect_kept rfl (Kept.refl _ _))) (Kept.step State.pnlEffect_kept rfl (Kept.refl _ _))) (Kept.ite (Kept.ite (Kept.step State.fenceWrite_kept rfl (Kept.refl _ _)) (Kept.step State.bklEffect_kept rfl (Kept.refl _ _))) (Kept.ite (Kept.step State.npStart_kept rfl (Kept.refl _ _)) (Kept.ite (Kept.step State.fovEffect_kept rfl (Kept.refl _ _)) (Kept.ite (Kept.step State.dmcEffect_kept rfl (Kept.refl _ _)) (Kept.ite (Kept.step State.nvsEffect_kept rfl (Kept.refl _ _)) (Kept.ite (Kept.step State.lnkEffect_kept rfl (Kept.refl _ _)) (Kept.ite (Kept.step State.mgtEffect_kept rfl (Kept.refl _ _)) (Kept.ite (Kept.step State.pwrEffect_kept rfl (Kept.refl _ _)) (Kept.ite (Kept.step State.thmEffect_kept rfl (Kept.refl _ _)) (Kept.ite (Kept.step State.secEffect_kept rfl (Kept.refl _ _)) (Kept.ite (Kept.step State.svcEffect_kept rfl (Kept.refl _ _)) (Kept.refl _ _)))))))))))))))))))))))

end Sys2Proof.Machine
end

