-- ==== Sys2Proof/Laws/KeptOps2.lean ====
section
/-! SUPPORT. Which parts of the state each shared operation may change. -/

namespace Sys2Proof.Machine

theorem State.wrShadow_kept {s : State} {a : ℕ} {v : ℕ} : Kept 17179869184 s (State.wrShadow s a v) := by
  unfold State.wrShadow
  exact (Kept.u17179869184 (Kept.refl _ _) rfl)

theorem State.storeWord_kept {s : State} {a : ℕ} {r : RegRow} {data : ℕ} : Kept 17179869184 s (State.storeWord s a r data) := by
  unfold State.storeWord
  exact (Kept.ite (Kept.step State.wrShadow_kept rfl (Kept.refl _ _)) (Kept.step State.wr_kept rfl (Kept.refl _ _)))

theorem State.acceptWord_kept {s : State} {p : PageDef} {a : ℕ} {data : ℕ} : Kept 64416055295 s (State.acceptWord s p a data) := by
  unfold State.acceptWord
  extract_lets +onlyGivenNames -merge -useContext x1
  refine Kept.ite (Kept.step State.headerWrite_kept rfl (Kept.refl _ _)) ?_
  split
  · exact (Kept.refl _ _)
  · exact (Kept.step State.certCheck_kept rfl (Kept.step State.blockEffect_kept rfl (Kept.step State.storeWord_kept rfl (Kept.refl _ _))))

theorem State.pageErr_kept {s : State} {base : ℕ} {off : ℕ} {code : ℕ} : Kept 0 s (State.pageErr s base off code) := by
  unfold State.pageErr
  exact (Kept.ite (Kept.step State.setFlag_kept rfl (Kept.refl _ _)) (Kept.step State.wr_kept rfl (Kept.refl _ _)))

theorem State.reject_kept {s : State} {who : Requester} {addr : ℕ} {code : ℕ} {data : ℕ} : Kept 0 s (State.reject s who addr code data) := by
  unfold State.reject
  exact (Kept.step State.errEntry_kept rfl (Kept.step State.pageErr_kept rfl (Kept.refl _ _)))

theorem State.rejectWrite_kept {s : State} {who : Requester} {addr : ℕ} {code : ℕ} {data : ℕ} : Kept 0 s (State.rejectWrite s who addr code data) := by
  unfold State.rejectWrite
  extract_lets +onlyGivenNames -merge -useContext x1
  have k2 : Kept 0 s x1 := (Kept.step State.reject_kept rfl (Kept.refl _ _))
  exact (Kept.ite (Kept.step State.raise_kept rfl k2) (Kept.ite (Kept.step State.refuseStore_kept rfl k2) k2))

theorem State.writeWord_kept {s : State} {who : Requester} {addr : ℕ} {size : ℕ} {data : ℕ} : Kept 64416055295 s (State.writeWord s who addr size data) := by
  unfold State.writeWord
  extract_lets +onlyGivenNames -merge -useContext x1
  split
  · exact (Kept.step State.rejectUnmapped_kept rfl (Kept.refl _ _))
  · exact (Kept.ite (Kept.step State.marigoldSees_kept rfl (Kept.step State.acceptWord_kept rfl (Kept.refl _ _))) (Kept.step State.rejectWrite_kept rfl (Kept.refl _ _)))

theorem State.trigger_kept {s : State} {who : Requester} {addr : ℕ} {b : ℕ} {data : Word} : Kept 64416055295 s (State.trigger s who addr b data) := by
  unfold State.trigger
  exact (Kept.step State.writeWord_kept rfl (Kept.refl _ _))

theorem State.showFenced_kept {s : State} : Kept 0 s (State.showFenced s) := by
  unfold State.showFenced
  exact (Kept.step State.wr_kept rfl (Kept.step State.wr_kept rfl (Kept.refl _ _)))

theorem State.chainSlot_kept {s : State} {p : BklSet} {y : ℕ} {c : ℕ} : Kept 34359742464 s (State.chainSlot s p y c) := by
  unfold State.chainSlot
  extract_lets +onlyGivenNames -merge -useContext x1
  split
  · extract_lets +onlyGivenNames -merge -useContext x2
    extract_lets +onlyGivenNames -merge -useContext x3
    have k4 : Kept 34359742464 s x3 := (Kept.u4096 (Kept.refl _ _) rfl)
    extract_lets +onlyGivenNames -merge -useContext x5
    have k6 : Kept 34359742464 s x5 := (Kept.ite (Kept.step State.setFlag_kept rfl (Kept.step State.setFlag_kept rfl k4)) k4)
    refine Kept.ite ?_ (Kept.step State.setFld_kept rfl (Kept.step State.raise_kept rfl (Kept.step State.showFenced_kept rfl (Kept.u4096 (Kept.ite k6 (Kept.step State.emit_kept rfl (Kept.step State.emit_kept rfl k6))) rfl))))
    extract_lets +onlyGivenNames -merge -useContext x7
    extract_lets +onlyGivenNames -merge -useContext x8
    have k9 : Kept 34359742464 s x8 := (Kept.step State.showFenced_kept rfl (Kept.u4096 k6 rfl))
    exact (Kept.ite k9 (Kept.step State.emit_kept rfl (Kept.step State.emit_kept rfl k9)))
  · exact (Kept.ite (Kept.refl _ _) (Kept.step State.emit_kept rfl (Kept.refl _ _)))

theorem State.bklSlot_kept {s : State} {y : ℕ} : Kept 34359742464 s (State.bklSlot s y) := by
  unfold State.bklSlot
  refine Kept.ite ?_ (Kept.refl _ _)
  split
  · extract_lets +onlyGivenNames -merge -useContext x1
    extract_lets +onlyGivenNames -merge -useContext x2
    have k3 : Kept 34359742464 s x2 := (Kept.u4096 (Kept.refl _ _) rfl)
    extract_lets +onlyGivenNames -merge -useContext x4
    have k5 : Kept 34359742464 s x4 := (Kept.step State.setFld_kept rfl k3)
    exact (Kept.step State.chainSlot_kept rfl (Kept.step State.chainSlot_kept rfl (Kept.step State.setFlag_kept rfl (Kept.ite (Kept.step State.add_kept rfl k5) k5))))
  · exact (Kept.refl _ _)

theorem State.add64_kept {s : State} {lo : ℕ} {hi : ℕ} {n : ℕ} : Kept 0 s (State.add64 s lo hi n) := by
  unfold State.add64
  exact (Kept.step State.wr_kept rfl (Kept.step State.wr_kept rfl (Kept.refl _ _)))

theorem State.bltBurstRun_kept {s : State} {d : BltCur} : Kept 49152 s (State.bltBurstRun s d).1 := by
  unfold State.bltBurstRun
  exact (Kept.iteP Prod.fst (Kept.refl _ _) (Kept.step State.add64_kept rfl (Kept.foldl (Kept.refl _ _) (fun _ _ h1 => (Kept.step State.dramWrite_kept rfl h1)))))

theorem State.bltBursts_kept {n : Nat} {s : State} {d : BltCur} : Kept 49152 s (State.bltBursts n s d).1 := by
  induction n generalizing s d with
  | zero => exact Kept.refl _ _
  | succ n ih =>
    unfold State.bltBursts
    split
    · exact Kept.refl _ _
    · exact Kept.trans State.bltBurstRun_kept ih

theorem State.bltRun_kept {s : State} {op : ℕ} {k : ℕ} : Kept 57344 s (State.bltRun s op k) := by
  unfold State.bltRun
  extract_lets +onlyGivenNames -merge -useContext x1
  refine Kept.ite (Kept.refl _ _) ?_
  split
  · refine Kept.ite (Kept.refl _ _) ?_
    unfold x1
    exact (Kept.step State.setFld_kept rfl (Kept.u8192 (Kept.step State.bltBursts_kept rfl (Kept.refl _ _)) rfl))
  · extract_lets +onlyGivenNames -merge -useContext x2
    refine Kept.ite ?_ (Kept.refl _ _)
    unfold x1
    exact (Kept.step State.setFld_kept rfl (Kept.u8192 (Kept.step State.bltBursts_kept rfl (Kept.refl _ _)) rfl))

theorem State.untrigger_kept {s : State} {who : Requester} {addr : ℕ} {b : ℕ} {data : Word} : Kept 64416055295 s (State.untrigger s who addr b data) := by
  unfold State.untrigger
  exact (Kept.step State.writeWord_kept rfl (Kept.refl _ _))

theorem State.bltDone_kept {s : State} : Kept 57344 s (State.bltDone s) := by
  unfold State.bltDone
  split
  · refine Kept.ite ?_ (Kept.refl _ _)
    extract_lets +onlyGivenNames -merge -useContext x1
    have k2 : Kept 57344 s x1 := (Kept.step State.dramWrite_kept rfl (Kept.refl _ _))
    extract_lets +onlyGivenNames -merge -useContext x3
    extract_lets +onlyGivenNames -merge -useContext x4
    have k5 : Kept 57344 s x4 := (Kept.ite (Kept.step State.dramWrite_kept rfl k2) k2)
    extract_lets +onlyGivenNames -merge -useContext x6
    have k7 : Kept 57344 s x6 := (Kept.step State.add_kept rfl (Kept.step State.add_kept rfl k5))
    extract_lets +onlyGivenNames -merge -useContext x8
    have k9 : Kept 57344 s x8 := (Kept.step State.add_kept rfl k7)
    extract_lets +onlyGivenNames -merge -useContext x10
    have k11 : Kept 57344 s x10 := (Kept.step State.wr_kept rfl (Kept.step State.wr_kept rfl (Kept.u8192 k9 rfl)))
    extract_lets +onlyGivenNames -merge -useContext x12
    have k13 : Kept 57344 s x12 := (Kept.ite (Kept.step State.raise_kept rfl k11) k11)
    extract_lets +onlyGivenNames -merge -useContext x14
    have k15 : Kept 57344 s x14 := (Kept.ite k13 (Kept.step State.raise_kept rfl k13))
    exact (Kept.ite (Kept.step State.raise_kept rfl k15) k15)
  · exact (Kept.refl _ _)

theorem State.bltHold_kept {s : State} : Kept 8192 s (State.bltHold s) := by
  unfold State.bltHold
  exact (Kept.ite (Kept.step State.raise_kept rfl (Kept.step State.setFld_kept rfl (Kept.u8192 (Kept.refl _ _) rfl))) (Kept.refl _ _))

theorem State.lutLoaded_kept {s : State} : Kept 512 s (State.lutLoaded s) := by
  unfold State.lutLoaded
  split
  · exact (Kept.refl _ _)
  · extract_lets +onlyGivenNames -merge -useContext x1
    extract_lets +onlyGivenNames -merge -useContext x2
    have k3 : Kept 512 s x2 := (Kept.step State.setFlag_kept rfl (Kept.u512 (Kept.refl _ _) rfl))
    extract_lets +onlyGivenNames -merge -useContext x4
    clear_value x4
    split
    · exact (Kept.step State.raise_kept rfl (Kept.step State.setFld_kept rfl (Kept.u512 k3 rfl)))
    · exact (Kept.step State.raise_kept rfl (Kept.step State.setFld_kept rfl k3))

theorem State.snapDone_kept {s : State} : Kept 49664 s (State.snapDone s) := by
  unfold State.snapDone
  split
  · exact (Kept.ite (Kept.step State.setFlag_kept rfl (Kept.step State.raise_kept rfl (Kept.step State.wr_kept rfl (Kept.step State.dramWrite_kept rfl (Kept.u512 (Kept.refl _ _) rfl))))) (Kept.refl _ _))
  · exact (Kept.refl _ _)

theorem State.driveRead_kept {s : State} {g : Seg} : Kept 42949672960 s (State.driveRead s g) := by
  unfold State.driveRead
  extract_lets +onlyGivenNames -merge -useContext x1
  extract_lets +onlyGivenNames -merge -useContext x2
  have k3 : Kept 42949672960 s x2.2 := (Kept.step State.draw_kept rfl (Kept.refl _ _))
  extract_lets +onlyGivenNames -merge -useContext x4
  have k5 : Kept 42949672960 s x4.2 := (Kept.step State.draw_kept rfl k3)
  extract_lets +onlyGivenNames -merge -useContext x6
  extract_lets +onlyGivenNames -merge -useContext x7
  extract_lets +onlyGivenNames -merge -useContext x8
  have k9 : Kept 42949672960 s x8 := (Kept.step State.add_kept rfl (Kept.step State.add_kept rfl (Kept.step State.nvme_kept rfl k5)))
  exact (Kept.ite k9 (Kept.step State.raise_kept rfl k9))

theorem State.cacheFill_kept {s : State} {seg : ℕ} {line : ℕ} {bs : List Byte} : Kept 49408 s (State.cacheFill s seg line bs) := by
  unfold State.cacheFill
  refine Kept.ite (Kept.refl _ _) ?_
  extract_lets +onlyGivenNames -merge -useContext x1
  have k2 : Kept 49408 s x1 := (Kept.step State.setCache_kept rfl (Kept.refl _ _))
  extract_lets +onlyGivenNames -merge -useContext x3
  have k4 : Kept 49408 s x3 := (Kept.step State.trimCache_kept rfl k2)
  exact (Kept.ite (Kept.step State.dramWrite_kept rfl (Kept.u256 k4 rfl)) k4)

theorem State.segAhead_kept {s : State} {g : Seg} {line : ℕ} : Kept 42949722368 s (State.segAhead s g line) := by
  unfold State.segAhead
  exact (Kept.ite (Kept.refl _ _) (Kept.step State.driveRead_kept rfl (Kept.step State.cacheFill_kept rfl (Kept.refl _ _))))

theorem State.readAhead_kept {s : State} {p : ℕ} : Kept 42949722368 s (State.readAhead s p) := by
  unfold State.readAhead
  split
  · exact (Kept.refl _ _)
  · split
    · exact (Kept.refl _ _)
    · exact (Kept.ite (Kept.refl _ _) (Kept.foldl (Kept.refl _ _) (fun _ _ h1 => (Kept.step State.segAhead_kept rfl h1))))

theorem State.claim_kept {s : State} {u : ℕ} : Kept 640 s (State.claim s u) := by
  unfold State.claim
  refine Kept.ite ?_ (Kept.refl _ _)
  split
  · exact (Kept.refl _ _)
  · exact (Kept.step State.setCl_kept rfl (Kept.step State.setTile_kept rfl (Kept.refl _ _)))

theorem State.rejectCommit_kept {s : State} {base : ℕ} {off : ℕ} {code : ℕ} : Kept 0 s (State.rejectCommit s base off code) := by
  unfold State.rejectCommit
  exact (Kept.step State.errEntry_kept rfl (Kept.step State.pageErr_kept rfl (Kept.refl _ _)))

theorem State.commitPage_kept {s : State} {b : ℕ} : Kept 17179869184 s (State.commitPage s b) := by
  unfold State.commitPage
  exact (Kept.u17179869184 (Kept.foldl (Kept.refl _ _) (fun _ _ h1 => (Kept.step State.wr_kept rfl h1))) rfl)

theorem State.commitPoint_kept {s : State} {base : ℕ} : Kept 17179869185 s (State.commitPoint s base) := by
  unfold State.commitPoint
  extract_lets +onlyGivenNames -merge -useContext x1
  extract_lets +onlyGivenNames -merge -useContext x2
  have k3 : Kept 17179869185 s x2 := (Kept.u1 (Kept.refl _ _) rfl)
  split
  · exact (Kept.step State.rejectCommit_kept rfl (Kept.step State.setFlag_kept rfl k3))
  · exact (Kept.step State.setFld_kept rfl (Kept.step State.setFlag_kept rfl (Kept.step State.setFlag_kept rfl (Kept.step State.commitPage_kept rfl k3))))

theorem State.powerOn_kept {s : State} : Kept 261992939519 s s.powerOn := by
  constructor
  case regsWf => exact fun w => Sparse.wf_filter _ w
  case dramWf => exact fun _ => rfl
  all_goals first | exact rfl | exact Nat.le_refl _ | exact id | exact .inr rfl | exact .inl rfl

theorem State.revertEvents_kept {s : State} {old : BootRec} {new : BootRec} : Kept 4 s (State.revertEvents s old new) := by
  unfold State.revertEvents
  exact (Kept.foldl (Kept.refl _ _) (fun _ _ h1 => (Kept.ite (Kept.step State.logIt_kept rfl (Kept.step State.raise_kept rfl h1)) h1)))

theorem State.bootPut_kept {s : State} {r : BootRec} : Kept 35433480196 s (State.bootPut s r) := by
  unfold State.bootPut
  exact (Kept.step State.revertEvents_kept rfl (Kept.step State.emit_kept rfl (Kept.u1073741824 (Kept.refl _ _) rfl)))

theorem State.bootWrite_kept {s : State} {r : BootRec} : Kept 35433480196 s (State.bootWrite s r).1 := by
  unfold State.bootWrite
  exact (Kept.iteP Prod.fst (Kept.u1073741824 (Kept.refl _ _) rfl) (Kept.iteP Prod.fst (Kept.step State.bootPut_kept rfl (Kept.refl _ _)) (Kept.step State.refuseStore_kept rfl (Kept.refl _ _))))

theorem State.trialStart_kept {s : State} {k : ℕ} : Kept 35433480196 s (State.trialStart s k) := by
  unfold State.trialStart
  exact (Kept.ite (Kept.refl _ _) (Kept.ite (Kept.step State.bootWrite_kept rfl (Kept.refl _ _)) (Kept.step State.bootWrite_kept rfl (Kept.refl _ _))))

theorem State.cpxRelease_kept {s : State} : Kept 35836133380 s (State.cpxRelease s) := by
  unfold State.cpxRelease
  refine Kept.ite ?_ (Kept.refl _ _)
  extract_lets +onlyGivenNames -merge -useContext x1
  have k2 : Kept 35836133380 s x1 := (Kept.step State.trialStart_kept rfl (Kept.refl _ _))
  extract_lets +onlyGivenNames -merge -useContext x3
  extract_lets +onlyGivenNames -merge -useContext x4
  extract_lets +onlyGivenNames -merge -useContext x5
  have k6 : Kept 35836133380 s x5 := (Kept.u268435456 k2 rfl)
  extract_lets +onlyGivenNames -merge -useContext x7
  extract_lets +onlyGivenNames -merge -useContext x8
  have k9 : Kept 35836133380 s x8 := (Kept.step State.setFlag_kept rfl (Kept.u134217728 k6 rfl))
  split
  · exact (Kept.step State.setFld_kept rfl (Kept.u1207959552 (Kept.step State.runImage_kept rfl k9) rfl))
  · exact (Kept.step State.raise_kept rfl (Kept.step State.add_kept rfl (Kept.u1073741824 k9 rfl)))

theorem State.watchdog_kept {s : State} : Kept 134217732 s (State.watchdog s) := by
  unfold State.watchdog
  exact (Kept.ite (Kept.step State.logIt_kept rfl (Kept.step State.cpxRestart_kept rfl (Kept.refl _ _))) (Kept.refl _ _))

theorem State.crvTaken_kept {s : State} {e : ℕ} : Kept 2 s (State.crvTaken s e) := by
  unfold State.crvTaken
  exact (Kept.ite (Kept.u2 (Kept.refl _ _) rfl) (Kept.step State.crvOver_kept rfl (Kept.refl _ _)))

theorem State.crvFire_kept {s : State} {e : ℕ} {notify : Bool} : Kept 2 s (State.crvFire s e notify) := by
  unfold State.crvFire
  extract_lets +onlyGivenNames -merge -useContext x1
  extract_lets +onlyGivenNames -merge -useContext x2
  extract_lets +onlyGivenNames -merge -useContext x3
  extract_lets +onlyGivenNames -merge -useContext x4
  have k5 : Kept 2 s x4 := (Kept.step State.add_kept rfl (Kept.refl _ _))
  extract_lets +onlyGivenNames -merge -useContext x6
  have k7 : Kept 2 s x6 := (Kept.ite (Kept.step State.raise_kept rfl (Kept.step State.add_kept rfl k5)) k5)
  extract_lets +onlyGivenNames -merge -useContext x8
  have k9 : Kept 2 s x8 := (Kept.ite (Kept.step State.setFlag_kept rfl k7) (Kept.step State.crvTaken_kept rfl k7))
  exact (Kept.u2 (Kept.ite (Kept.step State.raise_kept rfl (Kept.step State.wr_kept rfl k9)) k9) rfl)

theorem State.crvWriteOp_kept {s : State} {addr : ℕ} {data : ℕ} : Kept 64416055295 s (State.crvWriteOp s addr data) := by
  unfold State.crvWriteOp
  extract_lets +onlyGivenNames -merge -useContext x1
  extract_lets +onlyGivenNames -merge -useContext x2
  have k3 : Kept 64416055295 s x2 := (Kept.step State.writeWord_kept rfl (Kept.refl _ _))
  exact (Kept.ite k3 (Kept.step State.raise_kept rfl (Kept.step State.add_kept rfl k3)))

theorem State.gapUpdate_kept {s : State} {k : ℕ} : Kept 16 s (State.gapUpdate s k) := by
  unfold State.gapUpdate
  extract_lets +onlyGivenNames -merge -useContext x1
  extract_lets +onlyGivenNames -merge -useContext x2
  refine Kept.ite ?_ (Kept.step State.setSess_kept rfl (Kept.refl _ _))
  split
  · exact (Kept.refl _ _)
  · exact (Kept.step State.setSess_kept rfl (Kept.refl _ _))

theorem State.startApplying_kept {s : State} {k : ℕ} {d : Dgram} : Kept 24 s (State.startApplying s k d) := by
  unfold State.startApplying
  extract_lets +onlyGivenNames -merge -useContext x1
  extract_lets +onlyGivenNames -merge -useContext x2
  have k3 : Kept 24 s x2 := (Kept.step State.add_kept rfl (Kept.step State.setSess_kept rfl (Kept.refl _ _)))
  extract_lets +onlyGivenNames -merge -useContext x4
  have k5 : Kept 24 s x4 := (Kept.step State.wr_kept rfl k3)
  exact (Kept.ite (Kept.ite k5 (Kept.step State.toWaitKey_kept rfl (Kept.step State.cmdError_kept rfl k5))) (Kept.step State.setSess_kept rfl k5))

theorem State.applyNext_kept {s : State} {k : ℕ} : Kept 24 s (State.applyNext s k) := by
  unfold State.applyNext
  extract_lets +onlyGivenNames -merge -useContext x1
  split
  · refine Kept.ite (Kept.refl _ _) ?_
    extract_lets +onlyGivenNames -merge -useContext x2
    have k3 : Kept 24 s x2 := (Kept.step State.gapUpdate_kept rfl (Kept.step State.setSess_kept rfl (Kept.refl _ _)))
    exact (Kept.ite (Kept.step State.toWaitKey_kept rfl (Kept.step State.sessError_kept rfl k3)) (Kept.step State.startApplying_kept rfl k3))
  · exact (Kept.refl _ _)

theorem State.kstHeaderFail_kept {s : State} : Kept 0 s (State.kstHeaderFail s) := by
  unfold State.kstHeaderFail
  exact (Kept.step State.add_kept rfl (Kept.refl _ _))

theorem State.bufferDgram_kept {s : State} {k : ℕ} {d : Dgram} : Kept 16 s (State.bufferDgram s k d) := by
  unfold State.bufferDgram
  exact (Kept.ite (Kept.step State.raise_kept rfl (Kept.refl _ _)) (Kept.step State.gapUpdate_kept rfl (Kept.step State.setSess_kept rfl (Kept.refl _ _))))

theorem State.orderDgram_kept {s : State} {k : ℕ} {d : Dgram} : Kept 16 s (State.orderDgram s k d) := by
  unfold State.orderDgram
  extract_lets +onlyGivenNames -merge -useContext x1
  extract_lets +onlyGivenNames -merge -useContext x2
  refine Kept.ite ?_ ?_
  · unfold x2
    exact (Kept.step State.setSess_kept rfl (Kept.step State.add_kept rfl (Kept.refl _ _)))
  · refine Kept.ite ?_ ?_
    · refine Kept.ite ?_ ?_
      · unfold x2
        exact (Kept.step State.setSess_kept rfl (Kept.step State.add_kept rfl (Kept.refl _ _)))
      · refine Kept.ite ?_ (Kept.step State.bufferDgram_kept rfl (Kept.refl _ _))
        unfold x2
        exact (Kept.step State.setSess_kept rfl (Kept.step State.add_kept rfl (Kept.refl _ _)))
    · refine Kept.ite (Kept.step State.bufferDgram_kept rfl (Kept.refl _ _)) ?_
      split
      · refine Kept.ite ?_ ?_
        · unfold x2
          exact (Kept.step State.setSess_kept rfl (Kept.step State.add_kept rfl (Kept.refl _ _)))
        · refine Kept.ite ?_ (Kept.step State.bufferDgram_kept rfl (Kept.refl _ _))
          unfold x2
          exact (Kept.step State.setSess_kept rfl (Kept.step State.add_kept rfl (Kept.refl _ _)))
      · exact (Kept.refl _ _)

theorem State.kstAccept_kept {s : State} {k : ℕ} {reply : Option Reply} {adj : ℤ × ℤ} {bytes : List Byte} {payload : List Byte} : Kept 16 s (State.kstAccept s k reply adj bytes payload) := by
  unfold State.kstAccept
  exact (Kept.step State.orderDgram_kept rfl (Kept.step State.setSess_kept rfl (Kept.refl _ _)))

theorem State.kstArrive_kept {s : State} {src : ℕ} {inj : Option ℕ} {reply : Option Reply} {adj : ℤ × ℤ} {bytes : List Byte} {stale : optParam Bool false} : Kept 16 s (State.kstArrive s src inj reply adj bytes stale) := by
  unfold State.kstArrive
  refine Kept.ite (Kept.refl _ _) ?_
  extract_lets +onlyGivenNames -merge -useContext x1
  have k2 : Kept 16 s x1 := (Kept.step State.add_kept rfl (Kept.refl _ _))
  extract_lets +onlyGivenNames -merge -useContext x3
  extract_lets +onlyGivenNames -merge -useContext x4
  extract_lets +onlyGivenNames -merge -useContext x5
  extract_lets +onlyGivenNames -merge -useContext x6
  extract_lets +onlyGivenNames -merge -useContext x7
  extract_lets +onlyGivenNames -merge -useContext x8
  extract_lets +onlyGivenNames -merge -useContext x9
  refine Kept.ite (Kept.step State.kstHeaderFail_kept rfl k2) ?_
  refine Kept.ite (Kept.step State.kstHeaderFail_kept rfl k2) ?_
  refine Kept.ite (Kept.step State.kstHeaderFail_kept rfl k2) ?_
  refine Kept.ite (Kept.step State.kstHeaderFail_kept rfl k2) ?_
  refine Kept.ite (Kept.step State.kstHeaderFail_kept rfl k2) ?_
  refine Kept.ite (Kept.step State.kstHeaderFail_kept rfl k2) ?_
  refine Kept.ite ?_ (Kept.step State.kstAccept_kept rfl k2)
  split
  · exact (Kept.step State.kstAccept_kept rfl k2)
  · exact (Kept.step State.raise_kept rfl (Kept.step State.add_kept rfl (Kept.step State.sessError_kept rfl (Kept.step State.setSess_kept rfl k2))))

theorem State.crossing_kept {s : State} {reply : Option Reply} {bytes : List Byte} : Kept 2097168 s (State.crossing s reply bytes) := by
  unfold State.crossing
  extract_lets +onlyGivenNames -merge -useContext x1
  extract_lets +onlyGivenNames -merge -useContext x2
  split
  · exact (Kept.ite (Kept.step State.kstArrive_kept rfl (Kept.step State.setPath_kept rfl (Kept.refl _ _))) (Kept.step State.kstArrive_kept rfl (Kept.refl _ _)))
  · exact (Kept.step State.kstArrive_kept rfl (Kept.refl _ _))

theorem State.delayReq_kept {s : State} {x : ℕ} : Kept 8592031744 s (State.delayReq s x) := by
  unfold State.delayReq
  exact (Kept.ite (Kept.step State.enqueue_kept rfl (Kept.step State.setPtp_kept rfl (Kept.step State.draw_kept rfl (Kept.refl _ _)))) (Kept.refl _ _))

theorem State.gclStep_kept {s : State} {x : ℕ} {old : ℕ} : Kept 2097152 s (State.gclStep s x old) := by
  unfold State.gclStep
  extract_lets +onlyGivenNames -merge -useContext x1
  extract_lets +onlyGivenNames -merge -useContext x2
  extract_lets +onlyGivenNames -merge -useContext x3
  extract_lets +onlyGivenNames -merge -useContext x4
  have k5 : Kept 2097152 s x4 := (Kept.step State.setPath_kept rfl (Kept.refl _ _))
  clear_value x3
  split
  · exact (Kept.step State.showStart_kept rfl k5)
  · exact k5

theorem State.clockStepped_kept {s : State} {old : ℕ} : Kept 2097152 s (State.clockStepped s old) := by
  unfold State.clockStepped
  exact (Kept.step State.gclStep_kept rfl (Kept.step State.gclStep_kept rfl (Kept.refl _ _)))

theorem State.leaveHold_kept {s : State} : Kept 0 s (State.leaveHold s) := by
  unfold State.leaveHold
  exact (Kept.ite (Kept.step State.wr_kept rfl (Kept.refl _ _)) (Kept.refl _ _))

theorem State.servo_kept {s : State} {x : ℕ} {off : ℤ} : Kept 4063233 s (State.servo s x off) := by
  unfold State.servo
  extract_lets +onlyGivenNames -merge -useContext x1
  have k2 : Kept 4063233 s x1 := (Kept.step State.setFlag_kept rfl (Kept.step State.wr_kept rfl (Kept.step State.add_kept rfl (Kept.refl _ _))))
  extract_lets +onlyGivenNames -merge -useContext x3
  extract_lets +onlyGivenNames -merge -useContext x4
  refine Kept.ite (Kept.step State.setTim_kept rfl (Kept.u1048576 (Kept.step State.clockStepped_kept rfl (Kept.step State.raise_kept rfl (Kept.step State.add_kept rfl (Kept.step State.setRate_kept rfl (Kept.step State.leaveHold_kept rfl k2))))) rfl)) ?_
  extract_lets +onlyGivenNames -merge -useContext x5
  extract_lets +onlyGivenNames -merge -useContext x6
  extract_lets +onlyGivenNames -merge -useContext x7
  extract_lets +onlyGivenNames -merge -useContext x8
  have k9 : Kept 4063233 s x8 := (Kept.step State.setRate_kept rfl (Kept.step State.leaveHold_kept rfl k2))
  extract_lets +onlyGivenNames -merge -useContext x10
  extract_lets +onlyGivenNames -merge -useContext x11
  have k12 : Kept 4063233 s x11 := (Kept.u1048576 k9 rfl)
  extract_lets +onlyGivenNames -merge -useContext x13
  have k14 : Kept 4063233 s x13 := (Kept.ite (Kept.step State.setTim_kept rfl k12) k12)
  exact (Kept.ite (Kept.ite (Kept.step State.setTim_kept rfl k14) k14) (Kept.ite (Kept.step State.setTim_kept rfl k14) k14))

theorem State.syncSample_kept {s : State} {x : ℕ} {p : SyncSample} : Kept 4063233 s (State.syncSample s x p) := by
  unfold State.syncSample
  extract_lets +onlyGivenNames -merge -useContext x1
  extract_lets +onlyGivenNames -merge -useContext x2
  have k3 : Kept 4063233 s x2 := (Kept.step State.setPtp_kept rfl (Kept.refl _ _))
  split
  · exact (Kept.step State.setPtp_kept rfl k3)
  · extract_lets +onlyGivenNames -merge -useContext x4
    extract_lets +onlyGivenNames -merge -useContext x5
    extract_lets +onlyGivenNames -merge -useContext x6
    have k7 : Kept 4063233 s x6 := (Kept.step State.wr_kept rfl k3)
    extract_lets +onlyGivenNames -merge -useContext x8
    extract_lets +onlyGivenNames -merge -useContext x9
    have k10 : Kept 4063233 s x9 := (Kept.step State.setPtp_kept rfl k7)
    extract_lets +onlyGivenNames -merge -useContext x11
    have k12 : Kept 4063233 s x11 := (Kept.ite (Kept.step State.setPtpState_kept rfl k10) k10)
    exact (Kept.ite (Kept.step State.servo_kept rfl (Kept.step State.setFlag_kept rfl k12)) k12)

theorem State.delayResp_kept {s : State} {x : ℕ} {m : PtpMsg} : Kept 4063233 s (State.delayResp s x m) := by
  unfold State.delayResp
  refine Kept.ite (Kept.refl _ _) ?_
  extract_lets +onlyGivenNames -merge -useContext x1
  extract_lets +onlyGivenNames -merge -useContext x2
  have k3 : Kept 4063233 s x2 := (Kept.step State.setPtp_kept rfl (Kept.step State.add_kept rfl (Kept.refl _ _)))
  refine Kept.ite k3 ?_
  split
  · refine Kept.ite k3 ?_
    extract_lets +onlyGivenNames -merge -useContext x4
    extract_lets +onlyGivenNames -merge -useContext x5
    extract_lets +onlyGivenNames -merge -useContext x6
    extract_lets +onlyGivenNames -merge -useContext x7
    extract_lets +onlyGivenNames -merge -useContext x8
    extract_lets +onlyGivenNames -merge -useContext x9
    have k10 : Kept 4063233 s x9 := (Kept.step State.wr_kept rfl (Kept.step State.setPtp_kept rfl k3))
    clear_value x7
    split
    · exact (Kept.step State.syncSample_kept rfl k10)
    · exact k10
  · exact k3

theorem State.dieLink_kept {s : State} {x : ℕ} {up : Bool} : Kept 8257541 s (State.dieLink s x up) := by
  unfold State.dieLink
  extract_lets +onlyGivenNames -merge -useContext x1
  extract_lets +onlyGivenNames -merge -useContext x2
  extract_lets +onlyGivenNames -merge -useContext x3
  extract_lets +onlyGivenNames -merge -useContext x4
  have k5 : Kept 8257541 s x4 := (Kept.step State.setPath_kept rfl (Kept.refl _ _))
  extract_lets +onlyGivenNames -merge -useContext x6
  have k7 : Kept 8257541 s x6 := (Kept.ite k5 (Kept.step State.fovArm_kept rfl (Kept.ite (Kept.step State.logIt_kept rfl k5) k5)))
  exact (Kept.ite k7 (Kept.ite (Kept.ite (Kept.step State.setPtpState_kept rfl k7) k7) (Kept.step State.setPtpState_kept rfl k7)))

theorem State.heldOff_kept {s : State} : Kept 402702336 s s.heldOff := by
  constructor
  case dramWf => exact fun _ => rfl
  all_goals first | exact rfl | exact Nat.le_refl _ | exact id | exact .inr rfl | exact .inl rfl

theorem State.allOff_kept {s : State} : Kept 19855769599 s (State.allOff s) := by
  unfold State.allOff
  exact (Kept.foldl (Kept.refl _ _) (fun _ _ h1 => (Kept.step State.domainOff_kept rfl h1)))

theorem State.metaEnd_kept {s : State} : Kept 268435456 s (State.metaEnd s) := by
  unfold State.metaEnd
  exact (Kept.u268435456 (Kept.refl _ _) rfl)

theorem State.segopDone_kept {s : State} : Kept 43251663104 s (State.segopDone s) := by
  unfold State.segopDone
  split
  · exact (Kept.refl _ _)
  · refine Kept.ite (Kept.refl _ _) ?_
    extract_lets +onlyGivenNames -merge -useContext x1
    extract_lets +onlyGivenNames -merge -useContext x2
    have k3 : Kept 43251663104 s x2 := (Kept.step State.raise_kept rfl (Kept.step State.setFlag_kept rfl (Kept.u33554432 (Kept.refl _ _) rfl)))
    refine Kept.ite ?_ (Kept.ite (Kept.step State.rejectCommit_kept rfl k3) (Kept.u256 (Kept.foldl (Kept.step State.metaEnd_kept rfl k3) (fun _ _ h4 => (Kept.step State.nvme_kept rfl (Kept.step State.metaWrite_kept rfl h4)))) rfl))
    split
    · exact k3
    · exact (Kept.step State.wr_kept rfl (Kept.step State.wr_kept rfl (Kept.step State.wr_kept rfl (Kept.step State.wr_kept rfl k3))))

theorem State.segwDone_kept {s : State} : Kept 43251662848 s (State.segwDone s) := by
  unfold State.segwDone
  extract_lets +onlyGivenNames -merge -useContext x1
  split
  · exact (Kept.refl _ _)
  · unfold x1
    exact (Kept.step State.raise_kept rfl (Kept.step State.wr_kept rfl (Kept.u33554432 (Kept.refl _ _) rfl)))
  · refine Kept.ite (Kept.refl _ _) ?_
    extract_lets +onlyGivenNames -merge -useContext x2
    have k3 : Kept 43251662848 s x2 := (Kept.step State.metaEnd_kept rfl (Kept.refl _ _))
    extract_lets +onlyGivenNames -merge -useContext x4
    refine Kept.ite ?_ ?_
    · unfold x1
      exact (Kept.step State.raise_kept rfl (Kept.step State.wr_kept rfl (Kept.u33554432 k3 rfl)))
    · extract_lets +onlyGivenNames -merge -useContext x5
      extract_lets +onlyGivenNames -merge -useContext x6
      extract_lets +onlyGivenNames -merge -useContext x7
      have k8 : Kept 43251662848 s x7 := (Kept.u33554432 k3 rfl)
      extract_lets +onlyGivenNames -merge -useContext x9
      have k10 : Kept 43251662848 s x9 := (Kept.foldl k8 (fun _ _ h11 => (Kept.step State.metaWrite_kept rfl h11)))
      unfold x1
      exact (Kept.step State.raise_kept rfl (Kept.step State.wr_kept rfl (Kept.u33554432 (Kept.step State.wr_kept rfl k10) rfl)))

theorem State.storesEnd_kept {s : State} : Kept 43251663104 s (State.storesEnd s) := by
  unfold State.storesEnd
  exact (Kept.step State.segopDone_kept rfl (Kept.step State.segwDone_kept rfl (Kept.refl _ _)))

theorem State.stopEnd_kept {s : State} : Kept 62805442559 s (State.stopEnd s) := by
  unfold State.stopEnd
  exact (Kept.ite (Kept.step State.heldOff_kept rfl (Kept.step State.allOff_kept rfl (Kept.step State.storesEnd_kept rfl (Kept.refl _ _)))) (Kept.refl _ _))

theorem State.recoveryDomains_kept {s : State} : Kept 19855769599 s (State.recoveryDomains s) := by
  unfold State.recoveryDomains
  exact (Kept.ite (Kept.foldl (Kept.refl _ _) (fun _ _ h1 => (Kept.step State.domainOff_kept rfl h1))) (Kept.refl _ _))

theorem State.afterDischarge_kept {s : State} : Kept 270582874111 s (State.afterDischarge s) := by
  unfold State.afterDischarge
  exact (Kept.ite (Kept.refl _ _) (Kept.ite (Kept.step State.powerOn_kept rfl (Kept.refl _ _)) (Kept.step State.stopEnd_kept rfl (Kept.step State.recoveryDomains_kept rfl (Kept.refl _ _)))))

theorem State.dischEnd_kept {s : State} : Kept 34359740416 s (State.dischEnd s) := by
  unfold State.dischEnd
  split
  · exact (Kept.ite (Kept.step State.emit_kept rfl (Kept.step State.setPanel_kept rfl (Kept.u2048 (Kept.step State.linkRun_kept rfl (Kept.refl _ _)) rfl))) (Kept.refl _ _))
  · exact (Kept.refl _ _)

theorem State.railsOff_kept {n : Nat} {s : State} : Kept 34359738368 s (State.railsOff n s) := by
  induction n generalizing s with
  | zero => exact Kept.refl _ _
  | succ n ih => exact Kept.trans State.railSwitch_kept ih

theorem State.dischExpire_kept {s : State} : Kept 34359740416 s (State.dischExpire s) := by
  unfold State.dischExpire
  split
  · exact (Kept.ite (Kept.step State.railsOff_kept rfl (Kept.u2048 (Kept.refl _ _) rfl)) (Kept.refl _ _))
  · exact (Kept.refl _ _)

theorem State.selfFence_kept {s : State} {u : ℕ} : Kept 2147537828 s (State.selfFence s u) := by
  unfold State.selfFence
  exact (Kept.ite (Kept.ite (Kept.step State.logIt_kept rfl (Kept.step State.raise_kept rfl (Kept.refl _ _))) (Kept.step State.logIt_kept rfl (Kept.step State.fenceUnit_kept rfl (Kept.refl _ _)))) (Kept.refl _ _))

theorem State.replay_kept {s : State} {c : ℕ} {since : ℕ} : Kept 34359738368 s (State.replay s c since) := by
  unfold State.replay
  exact (Kept.step State.emit_kept rfl (Kept.step State.emit_kept rfl (Kept.refl _ _)))

theorem State.caParity_kept {s : State} {c : ℕ} {fails : ℕ} {since : ℕ} : Kept 42966450176 s (State.caParity s c fails since).1 := by
  unfold State.caParity
  refine Kept.iteP Prod.fst ?_ (Kept.refl _ _)
  extract_lets +onlyGivenNames -merge -useContext x1
  extract_lets +onlyGivenNames -merge -useContext x2
  have k3 : Kept 42966450176 s x2 := (Kept.step State.raise_kept rfl (Kept.step State.add_kept rfl (Kept.refl _ _)))
  extract_lets +onlyGivenNames -merge -useContext x4
  have k5 : Kept 42966450176 s x4 := (Kept.foldl k3 (fun _ _ h6 => (Kept.step State.replay_kept rfl h6)))
  extract_lets +onlyGivenNames -merge -useContext x7
  have k8 : Kept 42966450176 s x7.2 := (Kept.step State.draw_kept rfl k5)
  extract_lets +onlyGivenNames -merge -useContext x9
  extract_lets +onlyGivenNames -merge -useContext x10
  extract_lets +onlyGivenNames -merge -useContext x11
  have k12 : Kept 42966450176 s x11 := (Kept.step State.setChan_kept rfl k8)
  exact (Kept.iteP Prod.fst (Kept.step State.raise_kept rfl (Kept.step State.add_kept rfl k12)) k12)

theorem State.domainUp_kept {s : State} {d : ℕ} : Kept 272633856 s (State.domainUp s d) := by
  unfold State.domainUp
  refine Kept.ite ?_ (Kept.refl _ _)
  extract_lets +onlyGivenNames -merge -useContext x1
  extract_lets +onlyGivenNames -merge -useContext x2
  have k3 : Kept 272633856 s x2 := (Kept.u268435456 (Kept.refl _ _) rfl)
  extract_lets +onlyGivenNames -merge -useContext x4
  extract_lets +onlyGivenNames -merge -useContext x5
  have k6 : Kept 272633856 s x5 := (Kept.ite (Kept.u4096 k3 rfl) k3)
  extract_lets +onlyGivenNames -merge -useContext x7
  extract_lets +onlyGivenNames -merge -useContext x8
  have k9 : Kept 272633856 s x8 := (Kept.ite (Kept.step State.wr_kept rfl (Kept.step State.wr_kept rfl k6)) k6)
  exact (Kept.foldl (Kept.ite (Kept.step State.fovDigest_kept rfl (Kept.step State.setDomStat_kept rfl k9)) (Kept.step State.setDomStat_kept rfl k9)) (fun _ _ h10 => (Kept.ite (Kept.step State.setFld_kept rfl (Kept.step State.setFlag_kept rfl (Kept.step State.setUnit_kept rfl h10))) (Kept.step State.setFld_kept rfl (Kept.step State.setUnit_kept rfl h10)))))

theorem State.driftCheck_kept {s : State} {c : ℕ} {steps : ℤ} : Kept 16777216 s (State.driftCheck s c steps) := by
  unfold State.driftCheck
  exact (Kept.ite (Kept.step State.setChan_kept rfl (Kept.refl _ _)) (Kept.refl _ _))

theorem State.takeFence_kept {s : State} {c : ℕ} : Kept 2164315040 s (State.takeFence s c) := by
  unfold State.takeFence
  refine Kept.ite ?_ (Kept.refl _ _)
  extract_lets +onlyGivenNames -merge -useContext x1
  extract_lets +onlyGivenNames -merge -useContext x2
  have k3 : Kept 2164315040 s x2 := (Kept.step State.setChan_kept rfl (Kept.refl _ _))
  exact (Kept.ite (Kept.step State.rejectCommit_kept rfl (Kept.step State.raise_kept rfl k3)) (Kept.step State.fenceUnit_kept rfl k3))

theorem State.ceService_kept {s : State} {c : ℕ} : Kept 2147537828 s (State.ceService s c) := by
  unfold State.ceService
  exact (Kept.ite (Kept.step State.selfFence_kept rfl (Kept.refl _ _)) (Kept.step State.logIt_kept rfl (Kept.refl _ _)))

theorem State.ceWatch_kept {s : State} {old : State} {c : ℕ} : Kept 2147537828 s (State.ceWatch s old c) := by
  unfold State.ceWatch
  exact (Kept.ite (Kept.step State.ceService_kept rfl (Kept.refl _ _)) (Kept.refl _ _))

theorem State.issued_kept {s : State} {c : ℕ} {write : Bool} {line : ℕ} : Kept 16777216 s (State.issued s c write line) := by
  unfold State.issued
  exact (Kept.step State.setChan_kept rfl (Kept.refl _ _))

theorem State.neighbours_kept {s : State} {c : ℕ} {bank : ℕ} {row : ℕ} : Kept 34359738368 s (State.neighbours s c bank row) := by
  unfold State.neighbours
  exact (Kept.step State.emit_kept rfl (Kept.refl _ _))

theorem State.activate_kept {s : State} {c : ℕ} {who : ℕ} {rt : Bool} {a4 : Option (ℕ × ℕ)} : Kept 34376515584 s (State.activate s c who rt a4) := by
  unfold State.activate
  split
  · exact (Kept.refl _ _)
  · extract_lets +onlyGivenNames -merge -useContext x1
    extract_lets +onlyGivenNames -merge -useContext x2
    extract_lets +onlyGivenNames -merge -useContext x3
    split
    · extract_lets +onlyGivenNames -merge -useContext x4
      extract_lets +onlyGivenNames -merge -useContext x5
      extract_lets +onlyGivenNames -merge -useContext x6
      extract_lets +onlyGivenNames -merge -useContext x7
      refine Kept.ite ?_ (Kept.step State.setChan_kept rfl (Kept.refl _ _))
      extract_lets +onlyGivenNames -merge -useContext x8
      extract_lets +onlyGivenNames -merge -useContext x9
      extract_lets +onlyGivenNames -merge -useContext x10
      have k11 : Kept 34376515584 s x10 := (Kept.step State.neighbours_kept rfl (Kept.step State.add_kept rfl (Kept.step State.setChan_kept rfl (Kept.refl _ _))))
      exact (Kept.ite (Kept.step State.raise_kept rfl (Kept.step State.setChan_kept rfl k11)) (Kept.ite (Kept.step State.raise_kept rfl (Kept.step State.add_kept rfl (Kept.step State.setChan_kept rfl k11))) k11))

theorem State.drainWrites_kept {a0 : ℕ} {a1 : State} {a2 : ℕ} : Kept 34376515584 a1 (State.drainWrites a0 a1 a2) := by
  unfold State.drainWrites
  split
  · exact (Kept.refl _ _)
  · split
    · exact (Kept.refl _ _)
    · split
      · exact (Kept.refl _ _)
      · exact (Kept.step State.drainWrites_kept rfl (Kept.step State.add_kept rfl (Kept.step State.issued_kept rfl (Kept.step State.activate_kept rfl (Kept.step State.setChan_kept rfl (Kept.refl _ _))))))

theorem State.answerRead_kept {s : State} {who : ℕ} {l : ℕ} {data : Option (List Byte)} : Kept 34359738368 s (State.answerRead s who l data) := by
  unfold State.answerRead
  extract_lets +onlyGivenNames -merge -useContext x1
  have k2 : Kept 34359738368 s x1 := (Kept.step State.emit_kept rfl (Kept.refl _ _))
  exact (Kept.ite (Kept.step State.emit_kept rfl k2) k2)

theorem State.dramErr_kept {s : State} {c : ℕ} {a : ℕ} {who : ℕ} {info : ℕ} : Kept 0 s (State.dramErr s c a who info) := by
  unfold State.dramErr
  exact (Kept.step State.wr_kept rfl (Kept.step State.wr_kept rfl (Kept.step State.wr_kept rfl (Kept.refl _ _))))

theorem State.corrected_kept {s : State} {c : ℕ} {a : ℕ} {who : ℕ} {bit : ℕ} : Kept 16777216 s (State.corrected s c a who bit) := by
  unfold State.corrected
  extract_lets +onlyGivenNames -merge -useContext x1
  have k2 : Kept 16777216 s x1 := (Kept.step State.raise_kept rfl (Kept.step State.add_kept rfl (Kept.step State.dramErr_kept rfl (Kept.refl _ _))))
  extract_lets +onlyGivenNames -merge -useContext x3
  extract_lets +onlyGivenNames -merge -useContext x4
  extract_lets +onlyGivenNames -merge -useContext x5
  have k6 : Kept 16777216 s x5 := (Kept.step State.setChan_kept rfl k2)
  exact (Kept.ite (Kept.step State.raise_kept rfl k6) k6)

theorem State.poisonLine_kept {s : State} {l : ℕ} : Kept 32768 s (State.poisonLine s l) := by
  unfold State.poisonLine
  exact (Kept.ite (Kept.refl _ _) (Kept.u32768 (Kept.refl _ _) rfl))

theorem State.readLine_kept {s : State} {c : ℕ} {who : ℕ} {a : ℕ} {err : ℕ} {bit : ℕ} : Kept 16809988 s (State.readLine s c who a err bit) := by
  unfold State.readLine
  exact (Kept.ite (Kept.step State.add_kept rfl (Kept.step State.dramErr_kept rfl (Kept.refl _ _))) (Kept.ite (Kept.step State.corrected_kept rfl (Kept.refl _ _)) (Kept.ite (Kept.step State.logIt_kept rfl (Kept.step State.raise_kept rfl (Kept.step State.add_kept rfl (Kept.step State.add_kept rfl (Kept.step State.dramErr_kept rfl (Kept.step State.poisonLine_kept rfl (Kept.refl _ _))))))) (Kept.refl _ _))))

theorem State.readNow_kept {s : State} {c : ℕ} {r : QRead} : Kept 34376548356 s (State.readNow s c r) := by
  unfold State.readNow
  extract_lets +onlyGivenNames -merge -useContext x1
  have k2 : Kept 34376548356 s x1 := (Kept.step State.add_kept rfl (Kept.step State.issued_kept rfl (Kept.step State.activate_kept rfl (Kept.refl _ _))))
  exact (Kept.ite (Kept.step State.answerRead_kept rfl k2) (Kept.step State.answerRead_kept rfl (Kept.step State.readLine_kept rfl k2)))

theorem State.serveReads_kept {a0 : ℕ} {a1 : State} {a2 : ℕ} : Kept 34376548356 a1 (State.serveReads a0 a1 a2) := by
  unfold State.serveReads
  split
  · exact (Kept.refl _ _)
  · split
    · exact (Kept.refl _ _)
    · split
      · exact (Kept.refl _ _)
      · exact (Kept.step State.serveReads_kept rfl (Kept.step State.readNow_kept rfl (Kept.step State.setChan_kept rfl (Kept.refl _ _))))

theorem State.chanServe_kept {s : State} {c : ℕ} {idle : Bool} : Kept 34376548356 s (State.chanServe s c idle) := by
  unfold State.chanServe
  extract_lets +onlyGivenNames -merge -useContext x1
  have k2 : Kept 34376548356 s x1 := (Kept.step State.serveReads_kept rfl (Kept.refl _ _))
  exact (Kept.ite (Kept.step State.drainWrites_kept rfl k2) (Kept.ite (Kept.step State.drainWrites_kept rfl k2) k2))

theorem State.dramServe_kept {s : State} {who : ℕ} {rt : Bool} {a : ℕ} {err : ℕ} {bit : ℕ} {act : Option (ℕ × ℕ)} {idle : Bool} : Kept 34376548356 s (State.dramServe s who rt a err bit act idle) := by
  unfold State.dramServe
  exact (Kept.ite (Kept.step State.chanServe_kept rfl (Kept.ite (Kept.step State.answerRead_kept rfl (Kept.step State.add_kept rfl (Kept.refl _ _))) (Kept.step State.setChan_kept rfl (Kept.refl _ _)))) (Kept.step State.answerRead_kept rfl (Kept.refl _ _)))

theorem State.laneTaken_kept {s : State} {n : ℕ} : Kept 34426849280 s (State.laneTaken s n) := by
  unfold State.laneTaken
  exact (Kept.ite (Kept.step State.laneStart_kept rfl (Kept.refl _ _)) (Kept.refl _ _))

theorem State.unitBack_kept {s : State} {u : ℕ} {v : ℕ} : Kept 1024 s (State.unitBack s u v) := by
  unfold State.unitBack
  exact (Kept.u1024 (Kept.step State.setUnit_kept rfl (Kept.refl _ _)) rfl)

theorem State.unitActive_kept {s : State} {u : ℕ} : Kept 34426854400 s (State.unitActive s u) := by
  unfold State.unitActive
  extract_lets +onlyGivenNames -merge -useContext x1
  have k2 : Kept 34426854400 s x1 := (Kept.foldl (Kept.step State.unitBack_kept rfl (Kept.refl _ _)) (fun _ _ h3 => (Kept.step State.laneTaken_kept rfl h3)))
  exact (Kept.ite (Kept.u4096 k2 rfl) k2)

theorem State.channelUp_kept {s : State} {c : ℕ} {l : List Dimm} {record : List ℕ} {t : ℤ} : Kept 16891904 s (State.channelUp s c l record t) := by
  unfold State.channelUp
  exact (Kept.step State.wr_kept rfl (Kept.step State.wr_kept rfl (Kept.u65536 (Kept.step State.setChan_kept rfl (Kept.step State.dropChannel_kept rfl (Kept.refl _ _))) rfl)))

theorem State.bistFill_kept {s : State} : Kept 2147483648 s (State.bistFill s) := by
  unfold State.bistFill
  exact (Kept.u2147483648 (Kept.foldl (Kept.refl _ _) (fun _ _ h1 => (Kept.step State.setUnit_kept rfl h1))) rfl)

theorem State.dramTraining_kept {s : State} {c : ℕ} {l : List Dimm} {t : ℤ} {verify : Bool} {memory : Bool} {full : Option (List ℕ)} : Kept 36591229956 s (State.dramTraining s c l t verify memory full) := by
  unfold State.dramTraining
  split
  · extract_lets +onlyGivenNames -merge -useContext x1
    extract_lets +onlyGivenNames -merge -useContext x2
    refine Kept.ite ?_ (Kept.refl _ _)
    extract_lets +onlyGivenNames -merge -useContext x3
    extract_lets +onlyGivenNames -merge -useContext x4
    have k5 : Kept 36591229956 s x4 := (Kept.step State.wr_kept rfl (Kept.refl _ _))
    extract_lets +onlyGivenNames -merge -useContext x6
    extract_lets +onlyGivenNames -merge -useContext x7
    have k8 : Kept 36591229956 s x7 := (Kept.u2147483648 k5 rfl)
    extract_lets +onlyGivenNames -merge -useContext x9
    have k10 : Kept 36591229956 s x9 := (Kept.step State.setUnit_kept rfl k8)
    extract_lets +onlyGivenNames -merge -useContext x11
    have k12 : Kept 36591229956 s x11 := (Kept.step State.unitActive_kept rfl (Kept.step State.channelUp_kept rfl k8))
    extract_lets +onlyGivenNames -merge -useContext x13
    have k14 : Kept 36591229956 s x13 := (Kept.step State.logIt_kept rfl (Kept.step State.raise_kept rfl (Kept.step State.setUnit_kept rfl k8)))
    extract_lets +onlyGivenNames -merge -useContext x15
    have k16 : Kept 36591229956 s x15 := (Kept.ite (Kept.step State.wr_kept rfl (Kept.u65536 k10 rfl)) (Kept.ite (Kept.step State.setFlag_kept rfl k12) (Kept.step State.raise_kept rfl k14)))
    exact (Kept.ite (Kept.step State.raise_kept rfl (Kept.step State.setFlag_kept rfl (Kept.step State.setFlag_kept rfl k16))) (Kept.step State.bistFill_kept rfl k16))
  · exact (Kept.refl _ _)

theorem State.dramQueue_kept {s : State} {who : ℕ} {rt : Bool} {a : ℕ} {bs : List Byte} {act : Option (ℕ × ℕ)} {idle : Bool} : Kept 34376564740 s (State.dramQueue s who rt a bs act idle) := by
  unfold State.dramQueue
  exact (Kept.ite (Kept.step State.chanServe_kept rfl (Kept.step State.setChan_kept rfl (Kept.step State.dramWrite_kept rfl (Kept.refl _ _)))) (Kept.refl _ _))

theorem State.laneEnable_kept {s : State} {n : ℕ} : Kept 34426849280 s (State.laneEnable s n) := by
  unfold State.laneEnable
  exact (Kept.ite (Kept.ite (Kept.step State.laneStart_kept rfl (Kept.refl _ _)) (Kept.step State.laneTaken_kept rfl (Kept.refl _ _))) (Kept.refl _ _))

theorem State.nvmeStart_kept {s : State} {d : ℕ} : Kept 34393292800 s (State.nvmeStart s d) := by
  unfold State.nvmeStart
  exact (Kept.step State.setDrive_kept rfl (Kept.foldl (Kept.step State.nvme_kept rfl (Kept.refl _ _)) (fun _ _ h1 => (Kept.step State.nvme_kept rfl h1))))

theorem State.driveUp_kept {s : State} {d : ℕ} {copies : List (Option MetaCopy)} {cap : ℕ} {fmt : Bool} {gen : ℕ} {width : ℕ} {health : ℕ} : Kept 34460403716 s (State.driveUp s d copies cap fmt gen width health) := by
  unfold State.driveUp
  extract_lets +onlyGivenNames -merge -useContext x1
  have k2 : Kept 34460403716 s x1 := (Kept.step State.emit_kept rfl (Kept.step State.emit_kept rfl (Kept.refl _ _)))
  extract_lets +onlyGivenNames -merge -useContext x3
  extract_lets +onlyGivenNames -merge -useContext x4
  extract_lets +onlyGivenNames -merge -useContext x5
  have k6 : Kept 34460403716 s x5 := (Kept.step State.wr_kept rfl k2)
  extract_lets +onlyGivenNames -merge -useContext x7
  have k8 : Kept 34460403716 s x7 := (Kept.ite k6 (Kept.step State.raise_kept rfl k6))
  extract_lets +onlyGivenNames -merge -useContext x9
  have k10 : Kept 34460403716 s x9 := (Kept.step State.wr_kept rfl (Kept.step State.wr_kept rfl k8))
  extract_lets +onlyGivenNames -merge -useContext x11
  extract_lets +onlyGivenNames -merge -useContext x12
  extract_lets +onlyGivenNames -merge -useContext x13
  have k14 : Kept 34460403716 s x13 := (Kept.step State.setDrive_kept rfl k10)
  extract_lets +onlyGivenNames -merge -useContext x15
  extract_lets +onlyGivenNames -merge -useContext x16
  have k17 : Kept 34460403716 s x16 := (Kept.u33554432 k14 rfl)
  extract_lets +onlyGivenNames -merge -useContext x18
  have k19 : Kept 34460403716 s x18 := (Kept.foldl (Kept.step State.nvmeStart_kept rfl k17) (fun _ _ h20 => (Kept.step State.laneEnable_kept rfl h20)))
  exact (Kept.ite k19 (Kept.step State.raise_kept rfl (Kept.step State.logIt_kept rfl k19)))

theorem State.driveInsert_kept {s : State} {d : ℕ} {copies : List (Option MetaCopy)} {cap : ℕ} {fmt : Bool} {gen : ℕ} {width : ℕ} {health : ℕ} : Kept 36607887364 s (State.driveInsert s d copies cap fmt gen width health) := by
  unfold State.driveInsert
  refine Kept.ite ?_ (Kept.refl _ _)
  extract_lets +onlyGivenNames -merge -useContext x1
  extract_lets +onlyGivenNames -merge -useContext x2
  extract_lets +onlyGivenNames -merge -useContext x3
  extract_lets +onlyGivenNames -merge -useContext x4
  have k5 : Kept 36607887364 s x4 := (Kept.ite (Kept.refl _ _) (Kept.step State.raise_kept rfl (Kept.step State.setDrive_kept rfl (Kept.refl _ _))))
  extract_lets +onlyGivenNames -merge -useContext x6
  have k7 : Kept 36607887364 s x6 := (Kept.step State.setFlag_kept rfl k5)
  exact (Kept.ite (Kept.step State.bistFill_kept rfl (Kept.step State.setUnit_kept rfl (Kept.step State.driveUp_kept rfl (Kept.u2147483648 k7 rfl)))) k7)

theorem State.driveCut_kept {s : State} {d : ℕ} : Kept 33554432 s (State.driveCut s d) := by
  unfold State.driveCut
  exact (Kept.step State.setFlag_kept rfl (Kept.step State.setFlag_kept rfl (Kept.step State.setDrive_kept rfl (Kept.refl _ _))))

theorem State.driveOff_kept {s : State} {d : ℕ} : Kept 34460401664 s (State.driveOff s d) := by
  unfold State.driveOff
  exact (Kept.step State.laneSweep_kept rfl (Kept.step State.emit_kept rfl (Kept.step State.emit_kept rfl (Kept.step State.setDrive_kept rfl (Kept.refl _ _)))))

theorem State.driveGone_kept {s : State} {d : ℕ} : Kept 34460401664 s (State.driveGone s d) := by
  unfold State.driveGone
  exact (Kept.step State.raise_kept rfl (Kept.step State.driveOff_kept rfl (Kept.step State.wr_kept rfl (Kept.step State.setDrive_kept rfl (Kept.step State.driveCut_kept rfl (Kept.refl _ _))))))

theorem State.driveLost_kept {s : State} {d : ℕ} {present : Bool} : Kept 34460401664 s (State.driveLost s d present) := by
  unfold State.driveLost
  exact (Kept.ite (Kept.step State.setUnit_kept rfl (Kept.ite (Kept.step State.driveCut_kept rfl (Kept.refl _ _)) (Kept.step State.driveGone_kept rfl (Kept.refl _ _)))) (Kept.refl _ _))

theorem State.slewStep_kept {s : State} {n : ℕ} {k : ℕ} : Kept 67108864 s (State.slewStep s n k) := by
  unfold State.slewStep
  exact (Kept.ite (Kept.step State.setLane_kept rfl (Kept.step State.setEqNow_kept rfl (Kept.refl _ _))) (Kept.refl _ _))

theorem State.driveRemove_kept {s : State} {d : ℕ} : Kept 43050336256 s (State.driveRemove s d) := by
  unfold State.driveRemove
  exact (Kept.step State.driveOff_kept rfl (Kept.step State.driveCut_kept rfl (Kept.step State.nvme_kept rfl (Kept.foldl (Kept.ite (Kept.ite (Kept.step State.metaWrite_kept rfl (Kept.refl _ _)) (Kept.step State.refuseStore_kept rfl (Kept.refl _ _))) (Kept.refl _ _)) (fun _ _ h1 => (Kept.step State.nvme_kept rfl (Kept.step State.nvme_kept rfl h1)))))))

theorem State.fencingDrained_kept {s : State} {u : ℕ} : Kept 45202069412 s (State.fencingDrained s u) := by
  unfold State.fencingDrained
  refine Kept.ite ?_ (Kept.refl _ _)
  extract_lets +onlyGivenNames -merge -useContext x1
  extract_lets +onlyGivenNames -merge -useContext x2
  have k3 : Kept 45202069412 s x2 := (Kept.u2147483648 (Kept.refl _ _) rfl)
  refine Kept.ite (Kept.ite (Kept.step State.logIt_kept rfl (Kept.step State.setUnit_kept rfl (Kept.step State.refuseStore_kept rfl k3))) (Kept.step State.setUnit_kept rfl (Kept.step State.driveRemove_kept rfl k3))) ?_
  refine Kept.ite (Kept.step State.standbyOut_kept rfl (Kept.step State.setUnit_kept rfl k3)) ?_
  extract_lets +onlyGivenNames -merge -useContext x4
  have k5 : Kept 45202069412 s x4 := (Kept.step State.unitBack_kept rfl k3)
  exact (Kept.ite (Kept.step State.selfFence_kept rfl k5) k5)

theorem State.followUp_kept {s : State} {x : ℕ} {m : PtpMsg} : Kept 4063233 s (State.followUp s x m) := by
  unfold State.followUp
  refine Kept.ite (Kept.refl _ _) ?_
  extract_lets +onlyGivenNames -merge -useContext x1
  have k2 : Kept 4063233 s x1 := (Kept.step State.add_kept rfl (Kept.refl _ _))
  refine Kept.ite k2 ?_
  split
  · exact (Kept.ite k2 (Kept.ite (Kept.step State.add_kept rfl (Kept.step State.setPtp_kept rfl k2)) (Kept.step State.syncSample_kept rfl k2)))
  · exact k2

theorem State.announceEnd_kept {s : State} : Kept 4194304 s (State.announceEnd s) := by
  unfold State.announceEnd
  split
  · exact (Kept.ite (Kept.refl _ _) (Kept.step State.raise_kept rfl (Kept.step State.setFld_kept rfl (Kept.step State.add_kept rfl (Kept.step State.wr_kept rfl (Kept.step State.wr_kept rfl (Kept.u4194304 (Kept.refl _ _) rfl)))))))
  · exact (Kept.refl _ _)

theorem State.kstBuild_kept {s : State} {k : ℕ} {type : ℕ} {payload : List Byte} : Kept 16 s (State.kstBuild s k type payload).2 := by
  unfold State.kstBuild
  exact (Kept.step State.setSess_kept rfl (Kept.refl _ _))

theorem State.sendKst_kept {s : State} {k : ℕ} {type : ℕ} {payload : List Byte} : Kept 2097168 s (State.sendKst s k type payload) := by
  unfold State.sendKst
  split
  · exact (Kept.refl _ _)
  · exact (Kept.step State.enqueue_kept rfl (Kept.step State.kstBuild_kept rfl (Kept.refl _ _)))

theorem State.sendNow_kept {s : State} {x : ℕ} {f : Egress} : Kept 42949672960 s (State.sendNow s x f) := by
  unfold State.sendNow
  exact (Kept.ite (Kept.refl _ _) (Kept.step State.add64_kept rfl (Kept.step State.add_kept rfl (Kept.step State.emit_kept rfl (Kept.step State.draw_kept rfl (Kept.refl _ _))))))

theorem State.announce_kept {s : State} {y : ℕ} {cold : Bool} : Kept 42951770128 s (State.announce s y cold) := by
  unfold State.announce
  extract_lets +onlyGivenNames -merge -useContext x1
  have k2 : Kept 42951770128 s x1 := (Kept.foldl (Kept.refl _ _) (fun _ _ h3 => (Kept.ite (Kept.step State.sendNow_kept rfl h3) h3)))
  exact (Kept.foldl (Kept.ite (Kept.step State.sendNow_kept rfl k2) k2) (fun _ _ h4 => (Kept.ite (Kept.step State.sendKst_kept rfl h4) h4)))

theorem State.switched_kept {s : State} {w : SwitchOver} {y : ℕ} : Kept 42956013584 s (State.switched s w y) := by
  unfold State.switched
  exact (Kept.step State.announceEnd_kept rfl (Kept.step State.fovArm_kept rfl (Kept.step State.htxTakeAll_kept rfl (Kept.step State.announce_kept rfl (Kept.u4194304 (Kept.refl _ _) rfl)))))

theorem State.coldSessions_kept {s : State} : Kept 24 s (State.coldSessions s) := by
  unfold State.coldSessions
  exact (Kept.foldl (Kept.refl _ _) (fun _ _ h1 => (Kept.ite (Kept.step State.toWaitKey_kept rfl h1) h1)))

theorem State.coldStart_kept {s : State} {y : ℕ} : Kept 2097152 s (State.coldStart s y) := by
  unfold State.coldStart
  exact (Kept.step State.setPath_kept rfl (Kept.refl _ _))

theorem State.takeCold_kept {s : State} : Kept 42957979677 s (State.takeCold s) := by
  unfold State.takeCold
  split
  · exact (Kept.ite (Kept.step State.switched_kept rfl (Kept.step State.logIt_kept rfl (Kept.step State.raise_kept rfl (Kept.step State.add_kept rfl (Kept.step State.coldSessions_kept rfl (Kept.step State.enterHold_kept rfl (Kept.step State.coldStart_kept rfl (Kept.u4194304 (Kept.refl _ _) rfl)))))))) (Kept.refl _ _))
  · exact (Kept.refl _ _)

theorem State.mirrorLost_kept {s : State} : Kept 4194308 s (State.mirrorLost s) := by
  unfold State.mirrorLost
  exact (Kept.ite (Kept.step State.mirrorFail_kept rfl (Kept.refl _ _)) (Kept.refl _ _))

theorem State.ptpOther_kept {s : State} {x : ℕ} {k : ℕ} : Kept 0 s (State.ptpOther s x k) := by
  unfold State.ptpOther
  exact (Kept.ite (Kept.step State.add_kept rfl (Kept.ite (Kept.step State.add_kept rfl (Kept.refl _ _)) (Kept.refl _ _))) (Kept.refl _ _))

theorem State.answer_kept {s : State} {x : ℕ} {f : Egress} : Kept 42949672960 s (State.answer s x f) := by
  unfold State.answer
  exact (Kept.ite (Kept.step State.add_kept rfl (Kept.step State.sendNow_kept rfl (Kept.refl _ _))) (Kept.refl _ _))

theorem State.toHrx_kept {s : State} {x : ℕ} {bytes : List Byte} {cls : ℕ} : Kept 2146304 s (State.toHrx s x bytes cls) := by
  unfold State.toHrx
  extract_lets +onlyGivenNames -merge -useContext x1
  refine Kept.ite (Kept.refl _ _) ?_
  extract_lets +onlyGivenNames -merge -useContext x2
  extract_lets +onlyGivenNames -merge -useContext x3
  have k4 : Kept 2146304 s x3 := (Kept.step State.setPath_kept rfl (Kept.refl _ _))
  extract_lets +onlyGivenNames -merge -useContext x5
  split
  · exact k4
  · exact (Kept.step State.raise_kept rfl (Kept.step State.wr_kept rfl (Kept.step State.dramWrite_kept rfl (Kept.step State.dramWrite_kept rfl k4))))

theorem State.police_kept {s : State} {x : ℕ} {k : ℕ} {l : ℕ} : Kept 2097152 s (State.police s x k l).2 := by
  unfold State.police
  exact (Kept.iteP Prod.snd (Kept.refl _ _) (Kept.step State.setPath_kept rfl (Kept.refl _ _)))

theorem State.forward_kept {s : State} {x : ℕ} {l : ℕ} {reply : Reply} {bytes : List Byte} : Kept 2097152 s (State.forward s x l reply bytes) := by
  unfold State.forward
  extract_lets +onlyGivenNames -merge -useContext x1
  extract_lets +onlyGivenNames -merge -useContext x2
  have k3 : Kept 2097152 s x2.2 := (Kept.step State.police_kept rfl (Kept.refl _ _))
  extract_lets +onlyGivenNames -merge -useContext x4
  have k5 : Kept 2097152 s x4 := k3
  extract_lets +onlyGivenNames -merge -useContext x6
  extract_lets +onlyGivenNames -merge -useContext x7
  have k8 : Kept 2097152 s x7 := (Kept.ite (Kept.ite (Kept.step State.add_kept rfl k5) (Kept.ite (Kept.step State.add_kept rfl k5) k5)) k5)
  exact (Kept.ite k8 (Kept.ite (Kept.step State.add_kept rfl k8) (Kept.ite (Kept.step State.raise_kept rfl (Kept.step State.add_kept rfl k8)) (Kept.step State.setPath_kept rfl (Kept.ite (Kept.step State.add_kept rfl k8) k8)))))

theorem State.classifyIp_kept {s : State} {x : ℕ} {l : ℕ} {mac : ℕ} {v6 : Bool} {src : ℕ} {dst : ℕ} {proto : ℕ} {data : List Byte} {bytes : List Byte} : Kept 2146304 s (State.classifyIp s x l mac v6 src dst proto data bytes) := by
  unfold State.classifyIp
  exact (Kept.ite (Kept.step State.add_kept rfl (Kept.refl _ _)) (Kept.ite (Kept.step State.forward_kept rfl (Kept.refl _ _)) (Kept.ite (Kept.step State.toHrx_kept rfl (Kept.refl _ _)) (Kept.ite (Kept.step State.toHrx_kept rfl (Kept.refl _ _)) (Kept.step State.add_kept rfl (Kept.refl _ _))))))

theorem State.fragment_kept {s : State} {x : ℕ} {mac : ℕ} {v6 : Bool} {src : ℕ} {dst : ℕ} {id : ℕ} {off : ℕ} {more : Bool} {proto : ℕ} {data : List Byte} : Kept 2146304 s (State.fragment s x mac v6 src dst id off more proto data) := by
  unfold State.fragment
  extract_lets +onlyGivenNames -merge -useContext x1
  extract_lets +onlyGivenNames -merge -useContext x2
  split
  · exact (Kept.step State.add_kept rfl (Kept.refl _ _))
  · extract_lets +onlyGivenNames -merge -useContext x3
    extract_lets +onlyGivenNames -merge -useContext x4
    split
    · refine Kept.ite ?_ (Kept.step State.setPath_kept rfl (Kept.refl _ _))
      extract_lets +onlyGivenNames -merge -useContext x5
      have k6 : Kept 2146304 s x5 := (Kept.step State.setPath_kept rfl (Kept.refl _ _))
      exact (Kept.ite k6 (Kept.step State.classifyIp_kept rfl k6))
    · exact (Kept.step State.setPath_kept rfl (Kept.refl _ _))

theorem State.frameIn_kept {s : State} {x : ℕ} {f : RxFrame} : Kept 42951819264 s (State.frameIn s x f) := by
  unfold State.frameIn
  refine Kept.ite (Kept.refl _ _) ?_
  refine Kept.ite (Kept.step State.add_kept rfl (Kept.refl _ _)) ?_
  refine Kept.ite (Kept.step State.add_kept rfl (Kept.refl _ _)) ?_
  refine Kept.ite (Kept.refl _ _) ?_
  refine Kept.ite (Kept.step State.add_kept rfl (Kept.refl _ _)) ?_
  extract_lets +onlyGivenNames -merge -useContext x1
  have k2 : Kept 42951819264 s x1 := (Kept.step State.add64_kept rfl (Kept.step State.add_kept rfl (Kept.refl _ _)))
  extract_lets +onlyGivenNames -merge -useContext x3
  refine Kept.ite ?_ ?_
  · clear_value x3
    split
    · exact (Kept.step State.ptpOther_kept rfl k2)
    · exact (Kept.step State.add_kept rfl k2)
  · extract_lets +onlyGivenNames -merge -useContext x4
    extract_lets +onlyGivenNames -merge -useContext x5
    refine Kept.ite (Kept.step State.add_kept rfl k2) ?_
    split
    · exact (Kept.ite (Kept.step State.answer_kept rfl k2) (Kept.ite (Kept.step State.toHrx_kept rfl k2) (Kept.step State.add_kept rfl k2)))
    · exact (Kept.ite (Kept.step State.answer_kept rfl k2) (Kept.step State.add_kept rfl k2))
    · clear_value x3
      split
      · exact (Kept.step State.ptpOther_kept rfl k2)
      · split
        · exact (Kept.ite (Kept.step State.fragment_kept rfl k2) (Kept.step State.add_kept rfl k2))
        · exact (Kept.step State.classifyIp_kept rfl k2)
    · exact (Kept.step State.ptpOther_kept rfl k2)
    · exact (Kept.ite (Kept.step State.toHrx_kept rfl k2) (Kept.step State.add_kept rfl k2))
    · exact k2

theorem State.servoSwap_kept {s : State} {x : ℕ} {y : ℕ} : Kept 3145728 s (State.servoSwap s x y) := by
  unfold State.servoSwap
  exact (Kept.step State.setPath_kept rfl (Kept.u1048576 (Kept.refl _ _) rfl))

theorem State.dieReleased_kept {s : State} {x : ℕ} : Kept 2146304 s (State.dieReleased s x) := by
  unfold State.dieReleased
  exact (Kept.step State.add_kept rfl (Kept.step State.setPath_kept rfl (Kept.foldl (Kept.foldl (Kept.refl _ _) (fun _ _ h1 => (Kept.step State.add_kept rfl (Kept.step State.setQueue_kept rfl (Kept.foldl h1 (fun _ _ h2 => (Kept.step State.descDone_kept rfl h2))))))) (fun _ _ h3 => (Kept.step State.wr_kept rfl (Kept.step State.descDone_kept rfl h3))))))

theorem State.moveGrant_kept {s : State} {y : ℕ} {cause : ℕ} {detect : ℕ} {released : ℕ} : Kept 34434238464 s (State.moveGrant s y cause detect released) := by
  unfold State.moveGrant
  exact (Kept.foldl (Kept.step State.fovArm_kept rfl (Kept.step State.emit_kept rfl (Kept.u4194304 (Kept.step State.setFlag_kept rfl (Kept.step State.servoSwap_kept rfl (Kept.step State.dieReleased_kept rfl (Kept.refl _ _)))) rfl))) (fun _ _ h1 => (Kept.step State.laneTaken_kept rfl h1)))

theorem State.keepGrant_kept {s : State} : Kept 0 s (State.keepGrant s) := by
  unfold State.keepGrant
  exact (Kept.ite (Kept.refl _ _) (Kept.step State.raise_kept rfl (Kept.refl _ _)))

theorem State.grant_kept {s : State} : Kept 34434238464 s (State.grant s) := by
  unfold State.grant
  split
  · exact (Kept.ite (Kept.ite (Kept.step State.moveGrant_kept rfl (Kept.refl _ _)) (Kept.step State.keepGrant_kept rfl (Kept.step State.htxTakeAll_kept rfl (Kept.step State.setFld_kept rfl (Kept.u4194304 (Kept.refl _ _) rfl))))) (Kept.refl _ _))
  · exact (Kept.refl _ _)

theorem State.release_kept {s : State} {fault : Bool} : Kept 4194304 s (State.release s fault) := by
  unfold State.release
  extract_lets +onlyGivenNames -merge -useContext x1
  extract_lets +onlyGivenNames -merge -useContext x2
  extract_lets +onlyGivenNames -merge -useContext x3
  have k4 : Kept 4194304 s x3 := (Kept.ite (Kept.u4194304 (Kept.refl _ _) rfl) (Kept.refl _ _))
  exact (Kept.ite k4 (Kept.u4194304 k4 rfl))

theorem State.refreshNow_kept {s : State} {c : ℕ} {k : ℕ} {pre : Bool} : Kept 16777216 s (State.refreshNow s c k pre) := by
  unfold State.refreshNow
  refine Kept.ite (Kept.refl _ _) ?_
  extract_lets +onlyGivenNames -merge -useContext x1
  have k2 : Kept 16777216 s x1 := (Kept.step State.add_kept rfl (Kept.refl _ _))
  extract_lets +onlyGivenNames -merge -useContext x3
  have k4 : Kept 16777216 s x3 := (Kept.ite (Kept.step State.add_kept rfl k2) k2)
  exact (Kept.ite (Kept.step State.setChan_kept rfl k4) (Kept.step State.setChan_kept rfl k4))

theorem State.setOwed_kept {s : State} {c : ℕ} {n : ℕ} : Kept 0 s (State.setOwed s c n) := by
  unfold State.setOwed
  exact (Kept.step State.setFld_kept rfl (Kept.refl _ _))

theorem State.hardBoundary_kept {s : State} {c : ℕ} {raster : Bool} : Kept 16777216 s (State.hardBoundary s c raster) := by
  unfold State.hardBoundary
  exact (Kept.ite (Kept.step State.refreshNow_kept rfl (Kept.step State.setOwed_kept rfl (Kept.step State.setChan_kept rfl (Kept.refl _ _)))) (Kept.refl _ _))

theorem State.heartbeat_kept {s : State} {x : ℕ} {mirror : Bool} : Kept 4194304 s (State.heartbeat s x mirror) := by
  unfold State.heartbeat
  exact (Kept.ite (Kept.refl _ _) (Kept.ite (Kept.ite (Kept.u4194304 (Kept.refl _ _) rfl) (Kept.refl _ _)) (Kept.u4194304 (Kept.refl _ _) rfl)))

theorem State.beatLoss_kept {s : State} : Kept 34434238464 s (State.beatLoss s) := by
  unfold State.beatLoss
  extract_lets +onlyGivenNames -merge -useContext x1
  extract_lets +onlyGivenNames -merge -useContext x2
  refine Kept.ite ?_ (Kept.refl _ _)
  extract_lets +onlyGivenNames -merge -useContext x3
  extract_lets +onlyGivenNames -merge -useContext x4
  have k5 : Kept 34434238464 s x4 := (Kept.ite (Kept.refl _ _) (Kept.step State.add_kept rfl (Kept.u4194304 (Kept.refl _ _) rfl)))
  exact (Kept.ite (Kept.step State.moveGrant_kept rfl k5) (Kept.ite k5 (Kept.step State.keepGrant_kept rfl k5)))

theorem State.hepReset_kept {s : State} : Kept 67108864 s (State.hepReset s) := by
  unfold State.hepReset
  exact (Kept.ite (Kept.foldl (Kept.refl _ _) (fun _ _ h1 => (Kept.step State.setFlag_kept rfl (Kept.step State.setLaneState_kept rfl (Kept.step State.scanDrop_kept rfl h1))))) (Kept.refl _ _))

theorem State.holdMeasure_kept {s : State} : Kept 34628173824 s (State.holdMeasure s) := by
  unfold State.holdMeasure
  exact (Kept.ite (Kept.u268435456 (Kept.step State.emit_kept rfl (Kept.refl _ _)) rfl) (Kept.refl _ _))

theorem State.draw256_kept {s : State} : Kept 8589934592 s (State.draw256 s).2 := by
  unfold State.draw256
  exact (Kept.step State.draw_kept rfl (Kept.step State.draw_kept rfl (Kept.step State.draw_kept rfl (Kept.step State.draw_kept rfl (Kept.refl _ _)))))

theorem State.identityStart_kept {s : State} : Kept 9663676416 s (State.identityStart s) := by
  unfold State.identityStart
  exact (Kept.ite (Kept.ite (Kept.u1073741824 (Kept.step State.draw256_kept rfl (Kept.refl _ _)) rfl) (Kept.step State.refuseStore_kept rfl (Kept.refl _ _))) (Kept.refl _ _))

theorem State.bootFlush_kept {s : State} : Kept 44023414788 s (State.bootFlush s) := by
  unfold State.bootFlush
  refine Kept.ite (Kept.refl _ _) ?_
  extract_lets +onlyGivenNames -merge -useContext x1
  have k2 : Kept 44023414788 s x1 := (Kept.step State.refuseStore_kept rfl (Kept.refl _ _))
  extract_lets +onlyGivenNames -merge -useContext x3
  extract_lets +onlyGivenNames -merge -useContext x4
  have k5 : Kept 44023414788 s x4 := by
    unfold x4
    split
    · exact (Kept.refl _ _)
    · exact (Kept.ite (Kept.step State.bootPut_kept rfl (Kept.refl _ _)) (Kept.u1073741824 k2 rfl))
  exact (Kept.step State.identityStart_kept rfl k5)

theorem State.hkLog_kept {s : State} {source : ℕ} {event : ℕ} {severity : ℕ} : Kept 4 s (State.hkLog s source event severity) := by
  unfold State.hkLog
  exact (Kept.ite (Kept.step State.logIt_kept rfl (Kept.refl _ _)) (Kept.u4 (Kept.refl _ _) rfl))

theorem State.holdEnd_kept {s : State} {c : ℕ} : Kept 34628173824 s (State.holdEnd s c) := by
  unfold State.holdEnd
  exact (Kept.step State.wr_kept rfl (Kept.u268435456 (Kept.step State.emit_kept rfl (Kept.step State.wr_kept rfl (Kept.refl _ _))) rfl))

theorem State.holdTimeout_kept {s : State} : Kept 34628173828 s (State.holdTimeout s) := by
  unfold State.holdTimeout
  split
  · exact (Kept.ite (Kept.step State.hkLog_kept rfl (Kept.step State.raise_kept rfl (Kept.step State.holdEnd_kept rfl (Kept.refl _ _)))) (Kept.refl _ _))
  · exact (Kept.refl _ _)

theorem State.regFault_kept {s : State} {i : ℕ} {event : ℕ} : Kept 4 s (State.regFault s i event) := by
  unfold State.regFault
  exact (Kept.step State.logIt_kept rfl (Kept.step State.raise_kept rfl (Kept.refl _ _)))

theorem State.voutWord_kept {s : State} {mode : ℕ} {v : ℕ} : Kept 8589934592 s (State.voutWord s mode v).2 := by
  unfold State.voutWord
  exact (Kept.iteP Prod.snd (Kept.refl _ _) (Kept.step State.draw_kept rfl (Kept.refl _ _)))

theorem State.pmbRetry_kept {s : State} {a : ℕ} {bytes : List ℕ} {fails : ℕ} : Kept 34359738368 s (State.pmbRetry s a bytes fails) := by
  unfold State.pmbRetry
  exact (Kept.foldl (Kept.step State.add_kept rfl (Kept.refl _ _)) (fun _ _ h1 => (Kept.step State.emit_kept rfl h1)))

theorem State.pmbSend_kept {s : State} {a : ℕ} {bytes : List ℕ} {fails : ℕ} : Kept 34359738368 s (State.pmbSend s a bytes fails) := by
  unfold State.pmbSend
  exact (Kept.step State.pmbRetry_kept rfl (Kept.step State.emit_kept rfl (Kept.refl _ _)))

end Sys2Proof.Machine
end

