-- ==== Sys2Proof/Laws/KeptOps3.lean ====
section
/-! SUPPORT. Which parts of the state each shared operation may change. -/

namespace Sys2Proof.Machine

theorem State.modeRead_kept {s : State} {i : ℕ} {mode : PmbRead} : Kept 34628173824 s (State.modeRead s i mode) := by
  unfold State.modeRead
  refine Kept.ite (Kept.refl _ _) ?_
  extract_lets +onlyGivenNames -merge -useContext x1
  have k2 : Kept 34628173824 s x1 := (Kept.step State.pmbSend_kept rfl (Kept.refl _ _))
  exact (Kept.ite (Kept.u268435456 k2 rfl) k2)

theorem State.regRead_kept {s : State} {i : ℕ} {r : RegRead} : Kept 43218108420 s (State.regRead s i r) := by
  unfold State.regRead
  extract_lets +onlyGivenNames -merge -useContext x1
  have k2 : Kept 43218108420 s x1 := (Kept.step State.modeRead_kept rfl (Kept.refl _ _))
  extract_lets +onlyGivenNames -merge -useContext x3
  have k4 : Kept 43218108420 s x3 := (Kept.step State.pmbSend_kept rfl (Kept.step State.pmbSend_kept rfl k2))
  extract_lets +onlyGivenNames -merge -useContext x5
  have k6 : Kept 43218108420 s x5 := (Kept.ite (Kept.step State.setFld_kept rfl k4) k4)
  split
  · extract_lets +onlyGivenNames -merge -useContext x7
    have k8 : Kept 43218108420 s x7.2 := (Kept.step State.voutWord_kept rfl k6)
    extract_lets +onlyGivenNames -merge -useContext x9
    have k10 : Kept 43218108420 s x9 := (Kept.step State.setFld_kept rfl k8)
    exact (Kept.ite (Kept.step State.regFault_kept rfl k10) k10)
  · exact (Kept.step State.regFault_kept rfl k6)

theorem State.regRound_kept {s : State} {ans : List RegRead} : Kept 43218108420 s (State.regRound s ans) := by
  unfold State.regRound
  refine Kept.ite (Kept.refl _ _) ?_
  refine Kept.foldl (Kept.refl _ _) (fun a3 b4 h5 => ?_)
  split
  · exact (Kept.step State.regRead_kept rfl h5)
  · exact h5

theorem State.healthRound_kept {s : State} {l : List ℕ} : Kept 34359738368 s (State.healthRound s l) := by
  unfold State.healthRound
  refine Kept.foldl (Kept.refl _ _) (fun a2 b3 h4 => ?_)
  split
  · refine Kept.ite ?_ h4
    extract_lets +onlyGivenNames -merge -useContext x5
    have k6 : Kept 34359738368 s x5 := (Kept.step State.wr_kept rfl (Kept.step State.nvme_kept rfl h4))
    exact (Kept.ite k6 (Kept.step State.raise_kept rfl k6))
  · exact h4

theorem State.adaptRound_kept {s : State} {n : ℕ} : Kept 8589934592 s (State.adaptRound s n) := by
  unfold State.adaptRound
  exact (Kept.ite (Kept.step State.wr_kept rfl (Kept.step State.wr_kept rfl (Kept.step State.draw_kept rfl (Kept.refl _ _)))) (Kept.refl _ _))

theorem State.dimmTemps_kept {s : State} {c : ℕ} {temps : List ℤ} : Kept 16777216 s (State.dimmTemps s c temps) := by
  unfold State.dimmTemps
  refine Kept.ite ?_ (Kept.refl _ _)
  extract_lets +onlyGivenNames -merge -useContext x1
  extract_lets +onlyGivenNames -merge -useContext x2
  extract_lets +onlyGivenNames -merge -useContext x3
  extract_lets +onlyGivenNames -merge -useContext x4
  have k5 : Kept 16777216 s x4 := (Kept.step State.wr_kept rfl (Kept.refl _ _))
  exact (Kept.ite (Kept.step State.refreshNow_kept rfl (Kept.step State.setOwed_kept rfl (Kept.step State.raise_kept rfl (Kept.step State.setFlag_kept rfl k5)))) (Kept.ite (Kept.step State.setOwed_kept rfl (Kept.step State.setFlag_kept rfl k5)) k5))

theorem State.timRound_kept {s : State} {t : Option ℤ} : Kept 1966080 s (State.timRound s t) := by
  unfold State.timRound
  extract_lets +onlyGivenNames -merge -useContext x1
  extract_lets +onlyGivenNames -merge -useContext x2
  extract_lets +onlyGivenNames -merge -useContext x3
  have k4 : Kept 1966080 s x3 := (Kept.u1048576 (Kept.refl _ _) rfl)
  extract_lets +onlyGivenNames -merge -useContext x5
  have k6 : Kept 1966080 s x5 := by
    unfold x5
    clear_value x1
    split
    · exact (Kept.step State.wr_kept rfl k4)
    · exact k4
  refine Kept.ite (Kept.ite k6 (Kept.step State.setRate_kept rfl k6)) ?_
  refine Kept.ite ?_ (Kept.u1048576 k6 rfl)
  clear_value x1
  split
  · exact (Kept.u1048576 k6 rfl)
  · refine Kept.ite (Kept.u1048576 k6 rfl) ?_
    extract_lets +onlyGivenNames -merge -useContext x7
    extract_lets +onlyGivenNames -merge -useContext x8
    extract_lets +onlyGivenNames -merge -useContext x9
    extract_lets +onlyGivenNames -merge -useContext x10
    refine Kept.ite (Kept.u1048576 k6 rfl) ?_
    extract_lets +onlyGivenNames -merge -useContext x11
    extract_lets +onlyGivenNames -merge -useContext x12
    extract_lets +onlyGivenNames -merge -useContext x13
    extract_lets +onlyGivenNames -merge -useContext x14
    have k15 : Kept 1966080 s x14 := (Kept.step State.wr_kept rfl (Kept.u1048576 k6 rfl))
    exact (Kept.ite (Kept.step State.setFlag_kept rfl k15) k15)

theorem State.derateRound_kept {s : State} {t : Option ℤ} : Kept 4096 s (State.derateRound s t) := by
  unfold State.derateRound
  extract_lets +onlyGivenNames -merge -useContext x1
  extract_lets +onlyGivenNames -merge -useContext x2
  extract_lets +onlyGivenNames -merge -useContext x3
  extract_lets +onlyGivenNames -merge -useContext x4
  extract_lets +onlyGivenNames -merge -useContext x5
  extract_lets +onlyGivenNames -merge -useContext x6
  extract_lets +onlyGivenNames -merge -useContext x7
  extract_lets +onlyGivenNames -merge -useContext x8
  have k9 : Kept 4096 s x8 := (Kept.step State.setFld_kept rfl (Kept.u4096 (Kept.refl _ _) rfl))
  extract_lets +onlyGivenNames -merge -useContext x10
  have k11 : Kept 4096 s x10 := by
    unfold x10
    split
    · exact (Kept.step State.setFld_kept rfl k9)
    · exact k9
  extract_lets +onlyGivenNames -merge -useContext x12
  have k13 : Kept 4096 s x12 := (Kept.step State.setFlag_kept rfl k11)
  exact (Kept.ite (Kept.step State.raise_kept rfl k13) k13)

theorem State.bistAbandon_kept {s : State} : Kept 2147483648 s (State.bistAbandon s) := by
  unfold State.bistAbandon
  exact (Kept.u2147483648 (Kept.refl _ _) rfl)

theorem State.orderedStop_kept {s : State} {hot : Bool} {source : ℕ} {event : ℕ} : Kept 62805442559 s (State.orderedStop s hot source event) := by
  unfold State.orderedStop
  exact (Kept.ite (Kept.ite (Kept.u268435456 (Kept.step State.hkLog_kept rfl (Kept.refl _ _)) rfl) (Kept.refl _ _)) (Kept.step State.stopEnd_kept rfl (Kept.step State.bistAbandon_kept rfl (Kept.u268435456 (Kept.step State.discharge_kept rfl (Kept.refl _ _)) rfl))))

theorem State.enforce_kept {s : State} {k : ℕ} : Kept 536870912 s (State.enforce s k) := by
  unfold State.enforce
  exact (Kept.step State.setFlag_kept rfl (Kept.step State.setFld_kept rfl (Kept.u536870912 (Kept.ite (Kept.step State.raise_kept rfl (Kept.refl _ _)) (Kept.refl _ _)) rfl)))

theorem State.ask_kept {s : State} {k : ℕ} : Kept 536870912 s (State.ask s k) := by
  unfold State.ask
  extract_lets +onlyGivenNames -merge -useContext x1
  extract_lets +onlyGivenNames -merge -useContext x2
  have k3 : Kept 536870912 s x2 := (Kept.step State.setFld_kept rfl (Kept.refl _ _))
  extract_lets +onlyGivenNames -merge -useContext x4
  extract_lets +onlyGivenNames -merge -useContext x5
  have k6 : Kept 536870912 s x5 := (Kept.u536870912 k3 rfl)
  refine Kept.ite ?_ (Kept.ite (Kept.step State.enforce_kept rfl k6) (Kept.u536870912 (Kept.step State.setFlag_kept rfl k6) rfl))
  extract_lets +onlyGivenNames -merge -useContext x7
  have k8 : Kept 536870912 s x7 := (Kept.ite (Kept.step State.raise_kept rfl k6) k6)
  exact (Kept.ite (Kept.step State.enforce_kept rfl k8) (Kept.ite k8 (Kept.u536870912 (Kept.step State.setFlag_kept rfl k8) rfl)))

theorem State.thmRound_kept {s : State} : Kept 63342313471 s (State.thmRound s) := by
  unfold State.thmRound
  split
  · exact (Kept.refl _ _)
  · extract_lets +onlyGivenNames -merge -useContext x1
    have k2 : Kept 63342313471 s x1 := (Kept.step State.setFld_kept rfl (Kept.refl _ _))
    extract_lets +onlyGivenNames -merge -useContext x3
    extract_lets +onlyGivenNames -merge -useContext x4
    extract_lets +onlyGivenNames -merge -useContext x5
    extract_lets +onlyGivenNames -merge -useContext x6
    have k7 : Kept 63342313471 s x6 := (Kept.ite (Kept.step State.ask_kept rfl k2) (Kept.ite (Kept.u536870912 k2 rfl) (Kept.u536870912 k2 rfl)))
    extract_lets +onlyGivenNames -merge -useContext x8
    extract_lets +onlyGivenNames -merge -useContext x9
    extract_lets +onlyGivenNames -merge -useContext x10
    have k11 : Kept 63342313471 s x10 := (Kept.ite (Kept.step State.raise_kept rfl (Kept.ite (Kept.step State.enforce_kept rfl (Kept.step State.setFld_kept rfl k7)) k7)) k7)
    extract_lets +onlyGivenNames -merge -useContext x12
    extract_lets +onlyGivenNames -merge -useContext x13
    extract_lets +onlyGivenNames -merge -useContext x14
    have k15 : Kept 63342313471 s x14 := (Kept.u536870912 k11 rfl)
    extract_lets +onlyGivenNames -merge -useContext x16
    extract_lets +onlyGivenNames -merge -useContext x17
    have k18 : Kept 63342313471 s x17 := (Kept.ite (Kept.u268435456 k15 rfl) k15)
    exact (Kept.ite (Kept.step State.orderedStop_kept rfl k18) k18)

theorem State.bandRound_kept {s : State} : Kept 536870912 s (State.bandRound s) := by
  unfold State.bandRound
  extract_lets +onlyGivenNames -merge -useContext x1
  extract_lets +onlyGivenNames -merge -useContext x2
  extract_lets +onlyGivenNames -merge -useContext x3
  extract_lets +onlyGivenNames -merge -useContext x4
  refine Kept.ite ?_ ?_
  · extract_lets +onlyGivenNames -merge -useContext x5
    extract_lets +onlyGivenNames -merge -useContext x6
    extract_lets +onlyGivenNames -merge -useContext x7
    extract_lets +onlyGivenNames -merge -useContext x8
    extract_lets +onlyGivenNames -merge -useContext x9
    extract_lets +onlyGivenNames -merge -useContext x10
    extract_lets +onlyGivenNames -merge -useContext x11
    have k12 : Kept 536870912 s x11 := (Kept.u536870912 (Kept.refl _ _) rfl)
    extract_lets +onlyGivenNames -merge -useContext x13
    have k14 : Kept 536870912 s x13 := (Kept.step State.setFld_kept rfl (Kept.step State.setFld_kept rfl k12))
    exact (Kept.ite (Kept.step State.raise_kept rfl k14) k14)
  · refine Kept.ite (Kept.refl _ _) ?_
    extract_lets +onlyGivenNames -merge -useContext x15
    have k16 : Kept 536870912 s x15 := (Kept.step State.setFld_kept rfl (Kept.refl _ _))
    exact (Kept.ite (Kept.step State.raise_kept rfl k16) k16)

theorem State.holdRound_kept {s : State} {v : ℕ} : Kept 0 s (State.holdRound s v) := by
  unfold State.holdRound
  exact (Kept.step State.wr_kept rfl (Kept.step State.setFld_kept rfl (Kept.refl _ _)))

theorem State.supRound_kept {s : State} {v : ℕ} : Kept 268435456 s (State.supRound s v) := by
  unfold State.supRound
  exact (Kept.u268435456 (Kept.step State.setFld_kept rfl (Kept.refl _ _)) rfl)

theorem State.crackPolicy_kept {s : State} {j : ℕ} : Kept 34359744513 s (State.crackPolicy s j) := by
  unfold State.crackPolicy
  extract_lets +onlyGivenNames -merge -useContext x1
  refine Kept.ite (Kept.step State.discharge_kept rfl (Kept.refl _ _)) ?_
  refine Kept.ite ?_ (Kept.refl _ _)
  extract_lets +onlyGivenNames -merge -useContext x2
  extract_lets +onlyGivenNames -merge -useContext x3
  extract_lets +onlyGivenNames -merge -useContext x4
  have k5 : Kept 34359744513 s x4 := (Kept.u2048 (Kept.refl _ _) rfl)
  exact (Kept.ite k5 (Kept.step State.railSwitch_kept rfl k5))

theorem State.crackRound_kept {s : State} {j : ℕ} {v : ℕ} : Kept 34359744517 s (State.crackRound s j v) := by
  unfold State.crackRound
  extract_lets +onlyGivenNames -merge -useContext x1
  extract_lets +onlyGivenNames -merge -useContext x2
  extract_lets +onlyGivenNames -merge -useContext x3
  extract_lets +onlyGivenNames -merge -useContext x4
  extract_lets +onlyGivenNames -merge -useContext x5
  extract_lets +onlyGivenNames -merge -useContext x6
  extract_lets +onlyGivenNames -merge -useContext x7
  extract_lets +onlyGivenNames -merge -useContext x8
  extract_lets +onlyGivenNames -merge -useContext x9
  extract_lets +onlyGivenNames -merge -useContext x10
  have k11 : Kept 34359744517 s x10 := (Kept.u2048 (Kept.refl _ _) rfl)
  extract_lets +onlyGivenNames -merge -useContext x12
  have k13 : Kept 34359744517 s x12 := (Kept.step State.wr_kept rfl k11)
  exact (Kept.ite (Kept.step State.crackPolicy_kept rfl (Kept.step State.logIt_kept rfl (Kept.step State.raise_kept rfl (Kept.step State.setFlag_kept rfl k13)))) k13)

theorem State.ntcWord_kept {s : State} {code : ℕ} {nom : ℕ} {beta : ℕ} : Kept 8589934592 s (State.ntcWord s code nom beta).2 := by
  unfold State.ntcWord
  exact (Kept.iteP Prod.snd (Kept.step State.draw_kept rfl (Kept.refl _ _)) (Kept.refl _ _))

theorem State.extRound_kept {v : List ℕ} {s : State} {j : ℕ} : Kept 9126805504 s (State.extRound v s j) := by
  unfold State.extRound
  extract_lets +onlyGivenNames -merge -useContext x1
  extract_lets +onlyGivenNames -merge -useContext x2
  refine Kept.ite (Kept.step State.wr_kept rfl (Kept.refl _ _)) ?_
  refine Kept.ite (Kept.step State.wr_kept rfl (Kept.refl _ _)) ?_
  extract_lets +onlyGivenNames -merge -useContext x3
  extract_lets +onlyGivenNames -merge -useContext x4
  extract_lets +onlyGivenNames -merge -useContext x5
  extract_lets +onlyGivenNames -merge -useContext x6
  extract_lets +onlyGivenNames -merge -useContext x7
  extract_lets +onlyGivenNames -merge -useContext x8
  extract_lets +onlyGivenNames -merge -useContext x9
  have k10 : Kept 9126805504 s x9 := (Kept.u536870912 (Kept.refl _ _) rfl)
  extract_lets +onlyGivenNames -merge -useContext x11
  have k12 : Kept 9126805504 s x11 := (Kept.step State.setFlag_kept rfl k10)
  exact (Kept.step State.wr_kept rfl (Kept.step State.ntcWord_kept rfl (Kept.ite (Kept.step State.raise_kept rfl k12) k12)))

theorem State.sensRound_kept {v : List ℤ} {s : State} {n : ℕ} : Kept 536870916 s (State.sensRound v s n) := by
  unfold State.sensRound
  extract_lets +onlyGivenNames -merge -useContext x1
  refine Kept.ite (Kept.step State.wr_kept rfl (Kept.refl _ _)) ?_
  extract_lets +onlyGivenNames -merge -useContext x2
  extract_lets +onlyGivenNames -merge -useContext x3
  extract_lets +onlyGivenNames -merge -useContext x4
  extract_lets +onlyGivenNames -merge -useContext x5
  extract_lets +onlyGivenNames -merge -useContext x6
  extract_lets +onlyGivenNames -merge -useContext x7
  extract_lets +onlyGivenNames -merge -useContext x8
  have k9 : Kept 536870916 s x8 := (Kept.u536870912 (Kept.refl _ _) rfl)
  exact (Kept.step State.wr_kept rfl (Kept.ite (Kept.step State.hkLog_kept rfl (Kept.step State.raise_kept rfl (Kept.step State.setFlag_kept rfl k9))) k9))

theorem State.housekeeping_kept {s : State} {r : Round} : Kept 200789655551 s (State.housekeeping s r) := by
  unfold State.housekeeping
  extract_lets +onlyGivenNames -merge -useContext x1
  have k2 : Kept 200789655551 s x1 := (Kept.step State.add_kept rfl (Kept.refl _ _))
  extract_lets +onlyGivenNames -merge -useContext x3
  extract_lets +onlyGivenNames -merge -useContext x4
  have k5 : Kept 200789655551 s x4 := (Kept.u137581559808 k2 rfl)
  extract_lets +onlyGivenNames -merge -useContext x6
  have k7 : Kept 200789655551 s x6 := (Kept.foldl k5 (fun _ _ h8 => (Kept.step State.sensRound_kept rfl h8)))
  extract_lets +onlyGivenNames -merge -useContext x9
  have k10 : Kept 200789655551 s x9 := (Kept.foldl k7 (fun _ _ h11 => (Kept.step State.extRound_kept rfl h11)))
  extract_lets +onlyGivenNames -merge -useContext x12
  have k13 : Kept 200789655551 s x12 := (Kept.foldl k10 (fun _ _ h14 => (Kept.ite (Kept.step State.crackRound_kept rfl (Kept.step State.wr_kept rfl h14)) (Kept.step State.wr_kept rfl h14))))
  extract_lets +onlyGivenNames -merge -useContext x15
  have k16 : Kept 200789655551 s x15 := (Kept.step State.wr_kept rfl (Kept.step State.wr_kept rfl k13))
  extract_lets +onlyGivenNames -merge -useContext x17
  have k18 : Kept 200789655551 s x17 := (Kept.foldl k16 (fun _ _ h19 => (Kept.step State.wr_kept rfl h19)))
  extract_lets +onlyGivenNames -merge -useContext x20
  have k21 : Kept 200789655551 s x20 := (Kept.step State.holdRound_kept rfl (Kept.step State.supRound_kept rfl k18))
  extract_lets +onlyGivenNames -merge -useContext x22
  have k23 : Kept 200789655551 s x22 := (Kept.step State.thmRound_kept rfl (Kept.step State.bandRound_kept rfl k21))
  extract_lets +onlyGivenNames -merge -useContext x24
  have k25 : Kept 200789655551 s x24 := (Kept.ite (Kept.step State.derateRound_kept rfl k23) k23)
  extract_lets +onlyGivenNames -merge -useContext x26
  have k27 : Kept 200789655551 s x26 := (Kept.ite (Kept.step State.timRound_kept rfl k25) k25)
  extract_lets +onlyGivenNames -merge -useContext x28
  have k29 : Kept 200789655551 s x28 := (Kept.foldl k27 (fun _ _ h30 => (Kept.step State.dimmTemps_kept rfl h30)))
  extract_lets +onlyGivenNames -merge -useContext x31
  have k32 : Kept 200789655551 s x31 := (Kept.foldl k29 (fun _ _ h33 => (Kept.ite (Kept.step State.adaptRound_kept rfl (Kept.step State.laneRound_kept rfl h33)) h33)))
  extract_lets +onlyGivenNames -merge -useContext x34
  have k35 : Kept 200789655551 s x34 := (Kept.step State.healthRound_kept rfl k32)
  exact (Kept.ite (Kept.step State.regRound_kept rfl k35) k35)

theorem State.forcePins_kept {s : State} {a : Bool} {b : Bool} : Kept 4194308 s (State.forcePins s a b) := by
  unfold State.forcePins
  extract_lets +onlyGivenNames -merge -useContext x1
  extract_lets +onlyGivenNames -merge -useContext x2
  have k3 : Kept 4194308 s x2 := (Kept.u4194304 (Kept.refl _ _) rfl)
  exact (Kept.ite (Kept.step State.logIt_kept rfl k3) (Kept.ite (Kept.u4194304 k3 rfl) k3))

theorem State.injectDone_kept {s : State} : Kept 16 s (State.injectDone s) := by
  unfold State.injectDone
  split
  · exact (Kept.refl _ _)
  · extract_lets +onlyGivenNames -merge -useContext x1
    extract_lets +onlyGivenNames -merge -useContext x2
    have k3 : Kept 16 s x2 := (Kept.u16 (Kept.refl _ _) rfl)
    exact (Kept.step State.raise_kept rfl (Kept.step State.setFlag_kept rfl (Kept.ite (Kept.step State.setFlag_kept rfl (Kept.step State.kstHeaderFail_kept rfl k3)) (Kept.step State.kstArrive_kept rfl k3))))

theorem State.resetPlanes_kept {s : State} {mask : ℕ} {base : Option Version} : Kept 8 s (State.resetPlanes s mask base) := by
  unfold State.resetPlanes
  split
  · exact (Kept.refl _ _)
  · exact (Kept.step State.scnGc_kept rfl (Kept.u8 (Kept.refl _ _) rfl))

theorem State.keyAccept_kept {s : State} {k : ℕ} : Kept 24 s (State.keyAccept s k) := by
  unfold State.keyAccept
  extract_lets +onlyGivenNames -merge -useContext x1
  split
  · exact (Kept.ite (Kept.refl _ _) (Kept.ite (Kept.step State.checkComplete_kept rfl (Kept.step State.startApplying_kept rfl (Kept.step State.raise_kept rfl (Kept.step State.gapUpdate_kept rfl (Kept.step State.setSess_kept rfl (Kept.step State.resetPlanes_kept rfl (Kept.refl _ _))))))) (Kept.step State.sessError_kept rfl (Kept.step State.setSess_kept rfl (Kept.refl _ _)))))
  · exact (Kept.refl _ _)

theorem State.laneRetry_kept {s : State} {n : ℕ} : Kept 34426849280 s (State.laneRetry s n) := by
  unfold State.laneRetry
  exact (Kept.ite (Kept.step State.add_kept rfl (Kept.step State.laneRun_kept rfl (Kept.step State.setLane_kept rfl (Kept.refl _ _)))) (Kept.refl _ _))

theorem State.underrunsShow_kept {s : State} : Kept 1 s (State.underrunsShow s) := by
  unfold State.underrunsShow
  exact (Kept.ite (Kept.refl _ _) (Kept.step State.add_kept rfl (Kept.step State.raise_kept rfl (Kept.u1 (Kept.refl _ _) rfl))))

theorem State.lineEvents_kept {s : State} {latch : Bool} : Kept 1 s (State.lineEvents s latch) := by
  unfold State.lineEvents
  extract_lets +onlyGivenNames -merge -useContext x1
  have k2 : Kept 1 s x1 := (Kept.ite (Kept.step State.raise_kept rfl (Kept.refl _ _)) (Kept.refl _ _))
  exact (Kept.foldl (Kept.ite (Kept.step State.underrunsShow_kept rfl (Kept.step State.raise_kept rfl k2)) k2) (fun _ _ h3 => (Kept.ite (Kept.step State.raise_kept rfl (Kept.ite (Kept.step State.setFlag_kept rfl h3) h3)) h3)))

theorem State.openWindows_kept {n : Nat} {s : State} : Kept 512 s (State.openWindows n s) := by
  induction n generalizing s with
  | zero => exact Kept.refl _ _
  | succ n ih =>
    unfold State.openWindows
    dsimp only
    split
    · exact Kept.refl _ _
    · split
      · exact Kept.trans (Kept.u512 (Kept.refl _ _) rfl) ih
      · split
        · exact Kept.trans (Kept.u512 (Kept.refl _ _) rfl) ih
        · exact Kept.refl _ _

theorem State.settleClocks_kept {s : State} : Kept 640 s (State.settleClocks s) := by
  unfold State.settleClocks
  exact (Kept.u640 (Kept.refl _ _) rfl)

theorem State.thmLatch_kept {s : State} : Kept 640 s (State.thmLatch s) := by
  unfold State.thmLatch
  exact (Kept.foldl (Kept.step State.settleClocks_kept rfl (Kept.refl _ _)) (fun _ _ h1 => (Kept.ite (Kept.step State.setFld_kept rfl h1) h1)))

theorem State.trimLatch_kept {s : State} : Kept 0 s (State.trimLatch s) := by
  unfold State.trimLatch
  exact (Kept.step State.wr_kept rfl (Kept.refl _ _))

theorem State.bklLatch_kept {s : State} {f : ℕ} : Kept 4096 s (State.bklLatch s f) := by
  unfold State.bklLatch
  exact (Kept.step State.setFld_kept rfl (Kept.u4096 (Kept.refl _ _) rfl))

theorem State.lyrLatch_kept {s : State} {f : ℕ} {late : List ℕ} : Kept 1024 s (State.lyrLatch s f late) := by
  unfold State.lyrLatch
  extract_lets +onlyGivenNames -merge -useContext x1
  extract_lets +onlyGivenNames -merge -useContext x2
  extract_lets +onlyGivenNames -merge -useContext x3
  extract_lets +onlyGivenNames -merge -useContext x4
  have k5 : Kept 1024 s x4 := (Kept.u1024 (Kept.refl _ _) rfl)
  exact (Kept.foldl (Kept.step State.setFld_kept rfl (Kept.u1024 (Kept.ite k5 (Kept.step State.raise_kept rfl k5)) rfl)) (fun _ _ h6 => (Kept.step State.setFld_kept rfl h6)))

theorem State.parked_kept {s : State} {before : Bool} : Kept 0 s (State.parked s before) := by
  unfold State.parked
  exact (Kept.ite (Kept.step State.raise_kept rfl (Kept.refl _ _)) (Kept.refl _ _))

theorem State.setLens_kept {s : State} {k : ℕ} {g : LensReg} : Kept 2048 s (State.setLens s k g) := by
  unfold State.setLens
  exact (Kept.u2048 (Kept.refl _ _) rfl)

theorem State.lensStart_kept {s : State} {k : ℕ} {old : ℕ} {new : ℕ} {f : ℕ} {end_ : Option (ℕ × ℕ × ℕ × ℕ × ℕ)} : Kept 2048 s (State.lensStart s k old new f end_) := by
  unfold State.lensStart
  extract_lets +onlyGivenNames -merge -useContext x1
  extract_lets +onlyGivenNames -merge -useContext x2
  extract_lets +onlyGivenNames -merge -useContext x3
  extract_lets +onlyGivenNames -merge -useContext x4
  extract_lets +onlyGivenNames -merge -useContext x5
  have k6 : Kept 2048 s x5 := (Kept.step State.add_kept rfl (Kept.refl _ _))
  exact (Kept.ite (Kept.step State.setLens_kept rfl k6) (Kept.step State.raise_kept rfl (Kept.step State.add_kept rfl (Kept.step State.setLens_kept rfl k6))))

theorem State.lensSettled_kept {s : State} {k : ℕ} {st : ℕ} {tg : ℕ} {f : ℕ} {end_ : Option (ℕ × ℕ × ℕ × ℕ × ℕ)} : Kept 2048 s (State.lensSettled s k st tg f end_) := by
  unfold State.lensSettled
  exact (Kept.ite (Kept.step State.setLens_kept rfl (Kept.refl _ _)) (Kept.step State.lensStart_kept rfl (Kept.refl _ _)))

theorem State.lensRegion_kept {s : State} {f : ℕ} {k : ℕ} : Kept 2048 s (State.lensRegion s f k) := by
  unfold State.lensRegion
  extract_lets +onlyGivenNames -merge -useContext x1
  extract_lets +onlyGivenNames -merge -useContext x2
  split
  · exact (Kept.step State.lensSettled_kept rfl (Kept.refl _ _))
  · extract_lets +onlyGivenNames -merge -useContext x3
    refine Kept.ite (Kept.ite (Kept.step State.add_kept rfl (Kept.step State.setLens_kept rfl (Kept.refl _ _))) (Kept.step State.add_kept rfl (Kept.step State.setLens_kept rfl (Kept.refl _ _)))) ?_
    split
    · exact (Kept.ite (Kept.step State.lensSettled_kept rfl (Kept.refl _ _)) (Kept.step State.lensStart_kept rfl (Kept.refl _ _)))
    · exact (Kept.step State.lensSettled_kept rfl (Kept.refl _ _))

theorem State.lensLatch_kept {s : State} {f : ℕ} : Kept 2048 s (State.lensLatch s f) := by
  unfold State.lensLatch
  exact (Kept.ite (Kept.refl _ _) (Kept.ite (Kept.u2048 (Kept.refl _ _) rfl) (Kept.step State.parked_kept rfl (Kept.foldl (Kept.u2048 (Kept.refl _ _) rfl) (fun _ _ h1 => (Kept.foldl h1 (fun _ _ h2 => (Kept.step State.lensRegion_kept rfl h2))))))))

theorem State.windowLatch_kept {s : State} {owned : List ℕ} : Kept 0 s (State.windowLatch s owned) := by
  unfold State.windowLatch
  refine Kept.foldl (Kept.refl _ _) (fun a2 b3 h4 => ?_)
  extract_lets +onlyGivenNames -merge -useContext x5
  refine Kept.ite ?_ (Kept.step State.wr_kept rfl h4)
  extract_lets +onlyGivenNames -merge -useContext x6
  extract_lets +onlyGivenNames -merge -useContext x7
  have k8 : Kept 0 s x7 := (Kept.step State.wr_kept rfl h4)
  exact (Kept.ite (Kept.step State.raise_kept rfl k8) k8)

theorem State.restamp_kept {s : State} {v : Version} {a : ℕ} {b : ℕ} : Kept 8 s (State.restamp s v a b) := by
  unfold State.restamp
  exact (Kept.u8 (Kept.refl _ _) rfl)

theorem State.stagingLatch_kept {s : State} {n : ℕ} : Kept 24 s (State.stagingLatch s n) := by
  unfold State.stagingLatch
  split
  · refine Kept.ite ?_ (Kept.u16 (Kept.refl _ _) rfl)
    extract_lets +onlyGivenNames -merge -useContext x1
    extract_lets +onlyGivenNames -merge -useContext x2
    have k3 : Kept 24 s x2 := (Kept.step State.restamp_kept rfl (Kept.refl _ _))
    extract_lets +onlyGivenNames -merge -useContext x4
    extract_lets +onlyGivenNames -merge -useContext x5
    extract_lets +onlyGivenNames -merge -useContext x6
    have k7 : Kept 24 s x6 := (Kept.u24 k3 rfl)
    exact (Kept.ite (Kept.step State.add_kept rfl (Kept.step State.raise_kept rfl k7)) k7)
  · exact (Kept.u16 (Kept.refl _ _) rfl)

theorem State.scnLatch_kept {s : State} {n : ℕ} : Kept 8 s (State.scnLatch s n) := by
  unfold State.scnLatch
  refine Kept.ite (Kept.step State.scnGc_kept rfl (Kept.u8 (Kept.refl _ _) rfl)) ?_
  extract_lets +onlyGivenNames -merge -useContext x1
  extract_lets +onlyGivenNames -merge -useContext x2
  split
  · exact (Kept.step State.scnGc_kept rfl (Kept.step State.raise_kept rfl (Kept.u8 (Kept.refl _ _) rfl)))
  · extract_lets +onlyGivenNames -merge -useContext x3
    extract_lets +onlyGivenNames -merge -useContext x4
    have k5 : Kept 8 s x4 := (Kept.u8 (Kept.refl _ _) rfl)
    exact (Kept.ite (Kept.step State.add_kept rfl (Kept.step State.raise_kept rfl k5)) k5)

theorem State.planLatch_kept {s : State} : Kept 264 s (State.planLatch s) := by
  unfold State.planLatch
  extract_lets +onlyGivenNames -merge -useContext x1
  extract_lets +onlyGivenNames -merge -useContext x2
  extract_lets +onlyGivenNames -merge -useContext x3
  have k4 : Kept 264 s x3 := (Kept.u264 (Kept.refl _ _) rfl)
  extract_lets +onlyGivenNames -merge -useContext x5
  extract_lets +onlyGivenNames -merge -useContext x6
  have k7 : Kept 264 s x6 := (Kept.u256 k4 rfl)
  split
  · exact (Kept.u256 k7 rfl)
  · exact (Kept.ite (Kept.step State.raise_kept rfl k7) k7)

theorem State.gcommitLater_kept {s : State} : Kept 0 s (State.gcommitLater s) := by
  unfold State.gcommitLater
  exact (Kept.step State.setFld_kept rfl (Kept.refl _ _))

theorem State.gcommitEnd_kept {s : State} {outcome : ℕ} : Kept 1024 s (State.gcommitEnd s outcome) := by
  unfold State.gcommitEnd
  exact (Kept.step State.groupWait_kept rfl (Kept.step State.setFld_kept rfl (Kept.step State.setFld_kept rfl (Kept.step State.setFlag_kept rfl (Kept.step State.wr_kept rfl (Kept.refl _ _))))))

theorem State.lyrCommitted_kept {s : State} {t : Timing} {late : List ℕ} : Kept 1024 s (State.lyrCommitted s t late) := by
  unfold State.lyrCommitted
  extract_lets +onlyGivenNames -merge -useContext x1
  extract_lets +onlyGivenNames -merge -useContext x2
  have k3 : Kept 1024 s x2 := (Kept.u1024 (Kept.refl _ _) rfl)
  extract_lets +onlyGivenNames -merge -useContext x4
  have k5 : Kept 1024 s x4 := (Kept.step State.wr_kept rfl k3)
  exact (Kept.ite k5 (Kept.step State.raise_kept rfl (Kept.step State.add_kept rfl k5)))

theorem State.takeTiming_kept {s : State} {old : Timing} {new : Timing} : Kept 1 s (State.takeTiming s old new) := by
  unfold State.takeTiming
  exact (Kept.ite (Kept.ite (Kept.refl _ _) (Kept.u1 (Kept.refl _ _) rfl)) (Kept.ite (Kept.u1 (Kept.refl _ _) rfl) (Kept.u1 (Kept.refl _ _) rfl)))

theorem State.gcommitTake_kept {s : State} {new : Timing} {late : List ℕ} : Kept 17179870209 s (State.gcommitTake s new late) := by
  unfold State.gcommitTake
  exact (Kept.step State.raise_kept rfl (Kept.step State.add_kept rfl (Kept.step State.setFlag_kept rfl (Kept.step State.gcommitEnd_kept rfl (Kept.step State.lyrCommitted_kept rfl (Kept.step State.takeTiming_kept rfl (Kept.foldl (Kept.refl _ _) (fun _ _ h1 => (Kept.step State.setFld_kept rfl (Kept.step State.commitPage_kept rfl h1))))))))))

theorem State.groupCommit_kept {s : State} : Kept 17179870209 s (State.groupCommit s).2 := by
  unfold State.groupCommit
  extract_lets +onlyGivenNames -merge -useContext x1
  extract_lets +onlyGivenNames -merge -useContext x2
  have k3 : Kept 17179870209 s x2 := (Kept.step State.setFld_kept rfl (Kept.refl _ _))
  refine Kept.iteP Prod.snd k3 ?_
  refine Kept.iteP Prod.snd (Kept.step State.gcommitLater_kept rfl (Kept.step State.groupWait_kept rfl k3)) ?_
  refine Kept.iteP Prod.snd (Kept.step State.raise_kept rfl (Kept.step State.add_kept rfl (Kept.step State.setFld_kept rfl (Kept.step State.gcommitLater_kept rfl (Kept.step State.groupWait_kept rfl k3))))) ?_
  extract_lets +onlyGivenNames -merge -useContext x4
  split
  · exact (Kept.step State.raise_kept rfl (Kept.step State.rejectCommit_kept rfl (Kept.step State.gcommitEnd_kept rfl k3)))
  · exact (Kept.step State.gcommitTake_kept rfl k3)

theorem State.lensZero_kept {s : State} : Kept 2048 s (State.lensZero s) := by
  unfold State.lensZero
  exact (Kept.ite (Kept.step State.parked_kept rfl (Kept.u2048 (Kept.refl _ _) rfl)) (Kept.refl _ _))

theorem State.oasStreams_kept {s : State} {f : ℕ} {b : ℕ} : Kept 512 s (State.oasStreams s f b) := by
  unfold State.oasStreams
  extract_lets +onlyGivenNames -merge -useContext x1
  extract_lets +onlyGivenNames -merge -useContext x2
  have k3 : Kept 512 s x2 := (Kept.u512 (Kept.refl _ _) rfl)
  exact (Kept.ite k3 (Kept.step State.raise_kept rfl (Kept.step State.add_kept rfl k3)))

theorem State.processLine_kept {s : State} {f : ℕ} {l : ℕ} : Kept 2560 s (State.processLine s f l) := by
  unfold State.processLine
  exact (Kept.step State.add_kept rfl (Kept.step State.add_kept rfl (Kept.step State.add_kept rfl (Kept.u2560 (Kept.ite (Kept.step State.oasStreams_kept rfl (Kept.refl _ _)) (Kept.refl _ _)) rfl))))

theorem State.outputStage_kept {s : State} : Kept 2560 s (State.outputStage s) := by
  unfold State.outputStage
  exact (Kept.ite (Kept.u2048 (Kept.refl _ _) rfl) (Kept.ite (Kept.step State.processLine_kept rfl (Kept.refl _ _)) (Kept.ite (Kept.step State.processLine_kept rfl (Kept.refl _ _)) (Kept.u2048 (Kept.refl _ _) rfl))))

theorem State.underrun_kept {s : State} : Kept 1 s (State.underrun s) := by
  unfold State.underrun
  exact (Kept.ite (Kept.u1 (Kept.refl _ _) rfl) (Kept.step State.raise_kept rfl (Kept.step State.add_kept rfl (Kept.refl _ _))))

theorem State.linkLine_kept {s : State} : Kept 34359740433 s (State.linkLine s) := by
  unfold State.linkLine
  refine Kept.ite (Kept.refl _ _) ?_
  refine Kept.ite (Kept.step State.sendIdle_kept rfl (Kept.refl _ _)) ?_
  extract_lets +onlyGivenNames -merge -useContext x1
  extract_lets +onlyGivenNames -merge -useContext x2
  extract_lets +onlyGivenNames -merge -useContext x3
  have k4 : Kept 34359740433 s x3 := (Kept.ite (Kept.u2048 (Kept.refl _ _) rfl) (Kept.refl _ _))
  extract_lets +onlyGivenNames -merge -useContext x5
  extract_lets +onlyGivenNames -merge -useContext x6
  extract_lets +onlyGivenNames -merge -useContext x7
  extract_lets +onlyGivenNames -merge -useContext x8
  have k9 : Kept 34359740433 s x8 := by
    unfold x8
    refine Kept.foldl k4 (fun a12 b13 h14 => ?_)
    split
    · exact (Kept.step State.sendLane_kept rfl h14)
    · exact (Kept.ite (Kept.step State.sendLane_kept rfl h14) (Kept.step State.sendLane_kept rfl h14))
  extract_lets +onlyGivenNames -merge -useContext x15
  extract_lets +onlyGivenNames -merge -useContext x16
  extract_lets +onlyGivenNames -merge -useContext x17
  have k18 : Kept 34359740433 s x17 := (Kept.u2048 k9 rfl)
  extract_lets +onlyGivenNames -merge -useContext x19
  have k20 : Kept 34359740433 s x19 := (Kept.step State.add_kept rfl k18)
  extract_lets +onlyGivenNames -merge -useContext x21
  have k22 : Kept 34359740433 s x21 := (Kept.ite (Kept.step State.raise_kept rfl k20) k20)
  extract_lets +onlyGivenNames -merge -useContext x23
  have k24 : Kept 34359740433 s x23 := (Kept.ite (Kept.step State.add_kept rfl k22) k22)
  refine Kept.ite (Kept.step State.add_kept rfl k24) ?_
  extract_lets +onlyGivenNames -merge -useContext x25
  have k26 : Kept 34359740433 s x25 := (Kept.step State.add_kept rfl k24)
  extract_lets +onlyGivenNames -merge -useContext x27
  refine Kept.ite k26 ?_
  extract_lets +onlyGivenNames -merge -useContext x28
  extract_lets +onlyGivenNames -merge -useContext x29
  have k30 : Kept 34359740433 s x29 := (Kept.u16 k26 rfl)
  extract_lets +onlyGivenNames -merge -useContext x31
  have k32 : Kept 34359740433 s x31 := (Kept.step State.underrun_kept rfl (Kept.step State.add_kept rfl (Kept.step State.add_kept rfl k30)))
  exact (Kept.ite k32 (Kept.step State.raise_kept rfl (Kept.u2048 k32 rfl)))

theorem State.setWanted_kept {s : State} {k : ℕ} {l : List ℕ} : Kept 8 s (State.setWanted s k l) := by
  unfold State.setWanted
  exact (Kept.u8 (Kept.refl _ _) rfl)

theorem State.setWindow_kept {s : State} {k : ℕ} {w : List WinSlot} : Kept 8 s (State.setWindow s k w) := by
  unfold State.setWindow
  exact (Kept.u8 (Kept.refl _ _) rfl)

theorem State.windowRelease_kept {s : State} : Kept 8 s (State.windowRelease s) := by
  unfold State.windowRelease
  exact (Kept.foldl (Kept.refl _ _) (fun _ _ h1 => (Kept.step State.setWanted_kept rfl (Kept.step State.setWindow_kept rfl h1))))

theorem State.oasFail_kept {s : State} {code : ℕ} : Kept 0 s (State.oasFail s code) := by
  unfold State.oasFail
  exact (Kept.ite (Kept.refl _ _) (Kept.step State.raise_kept rfl (Kept.step State.add_kept rfl (Kept.refl _ _))))

theorem State.showTile_kept {s : State} {u : ℕ} {t : Option Tile} : Kept 0 s (State.showTile s u t) := by
  unfold State.showTile
  extract_lets +onlyGivenNames -merge -useContext x1
  extract_lets +onlyGivenNames -merge -useContext x2
  split
  · exact (Kept.step State.wr_kept rfl (Kept.step State.wr_kept rfl (Kept.step State.wr_kept rfl (Kept.refl _ _))))
  · exact (Kept.step State.wr_kept rfl (Kept.step State.wr_kept rfl (Kept.step State.wr_kept rfl (Kept.refl _ _))))

theorem State.endRun_kept {s : State} {t : Tile} : Kept 128 s (State.endRun s t) := by
  unfold State.endRun
  split
  · exact (Kept.ite (Kept.step State.showTile_kept rfl (Kept.step State.setCl_kept rfl (Kept.refl _ _))) (Kept.step State.setCl_kept rfl (Kept.refl _ _)))
  · exact (Kept.refl _ _)

theorem State.recordCost_kept {s : State} {t : Tile} {clocks16 : ℕ} {incomplete : Bool} : Kept 256 s (State.recordCost s t clocks16 incomplete) := by
  unfold State.recordCost
  exact (Kept.u256 (Kept.refl _ _) rfl)

theorem State.costDropped_kept {s : State} {t : Tile} {tm : Timing} : Kept 256 s (State.costDropped s t tm) := by
  unfold State.costDropped
  exact (Kept.ite (Kept.ite (Kept.step State.recordCost_kept rfl (Kept.refl _ _)) (Kept.step State.recordCost_kept rfl (Kept.refl _ _))) (Kept.ite (Kept.step State.recordCost_kept rfl (Kept.refl _ _)) (Kept.refl _ _)))

theorem State.countRun_kept {s : State} {u : ℕ} {samples : ℕ} {busy : ℕ} {wait : ℕ} {cells : ℕ} : Kept 0 s (State.countRun s u samples busy wait cells) := by
  unfold State.countRun
  exact (Kept.step State.add_kept rfl (Kept.step State.add_kept rfl (Kept.step State.add_kept rfl (Kept.step State.add_kept rfl (Kept.refl _ _)))))

theorem State.cutShort_kept {s : State} {room : ℕ} : Kept 8589934592 s (State.cutShort s room).2.2 := by
  unfold State.cutShort
  exact (Kept.foldl (Kept.step State.add_kept rfl (Kept.step State.add64_kept rfl (Kept.step State.add64_kept rfl (Kept.step State.draw_kept rfl (Kept.step State.draw_kept rfl (Kept.step State.draw_kept rfl (Kept.refl _ _))))))) (fun _ _ h1 => (Kept.step State.add_kept rfl (Kept.step State.draw_kept rfl h1))))

theorem State.countTile_kept {s : State} {t : Tile} {done : Bool} : Kept 8589934592 s (State.countTile s t done) := by
  unfold State.countTile
  split
  · extract_lets +onlyGivenNames -merge -useContext x1
    extract_lets +onlyGivenNames -merge -useContext x2
    extract_lets +onlyGivenNames -merge -useContext x3
    extract_lets +onlyGivenNames -merge -useContext x4
    have k5 : Kept 8589934592 s x4.2.2 := (Kept.iteP (fun (x : ℕ × ℕ × State) => x.2.2) (Kept.refl _ _) (Kept.step State.cutShort_kept rfl (Kept.refl _ _)))
    extract_lets +onlyGivenNames -merge -useContext x6
    extract_lets +onlyGivenNames -merge -useContext x7
    have k8 : Kept 8589934592 s x7 := (Kept.step State.countRun_kept rfl k5)
    extract_lets +onlyGivenNames -merge -useContext x9
    have k10 : Kept 8589934592 s x9 := (Kept.ite (Kept.step State.add_kept rfl k8) k8)
    exact (Kept.ite (Kept.step State.add_kept rfl (Kept.step State.add_kept rfl k10)) k10)
  · exact (Kept.refl _ _)

theorem State.dropTile_kept {s : State} {t : Tile} : Kept 8589935488 s (State.dropTile s t) := by
  unfold State.dropTile
  exact (Kept.step State.setTile_kept rfl (Kept.step State.endRun_kept rfl (Kept.step State.costDropped_kept rfl (Kept.ite (Kept.step State.countTile_kept rfl (Kept.refl _ _)) (Kept.refl _ _)))))

theorem State.deadlineTile_kept {s : State} {t : Tile} : Kept 8589935488 s (State.deadlineTile s t) := by
  unfold State.deadlineTile
  extract_lets +onlyGivenNames -merge -useContext x1
  extract_lets +onlyGivenNames -merge -useContext x2
  extract_lets +onlyGivenNames -merge -useContext x3
  have k4 : Kept 8589935488 s x3 := by
    unfold x3
    clear_value x2
    split
    · exact (Kept.step State.oasFail_kept rfl (Kept.refl _ _))
    · exact (Kept.refl _ _)
  refine Kept.ite (Kept.step State.add_kept rfl k4) ?_
  extract_lets +onlyGivenNames -merge -useContext x5
  have k6 : Kept 8589935488 s x5 := (Kept.ite k4 (Kept.step State.dropTile_kept rfl k4))
  extract_lets +onlyGivenNames -merge -useContext x7
  extract_lets +onlyGivenNames -merge -useContext x8
  extract_lets +onlyGivenNames -merge -useContext x9
  have k10 : Kept 8589935488 s x9 := (Kept.step State.setTile_kept rfl k6)
  exact (Kept.ite (Kept.step State.add_kept rfl (Kept.step State.wr_kept rfl k10)) (Kept.step State.raise_kept rfl (Kept.step State.add_kept rfl k10)))

theorem State.setBkl_kept {s : State} {p : BklSet} : Kept 4096 s (State.setBkl s p) := by
  unfold State.setBkl
  exact (Kept.u4096 (Kept.refl _ _) rfl)

theorem State.fixLevels_kept {s : State} {f : ℕ} {b : ℕ} : Kept 4096 s (State.fixLevels s f b) := by
  unfold State.fixLevels
  split
  · exact (Kept.step State.setBkl_kept rfl (Kept.refl _ _))
  · exact (Kept.refl _ _)

theorem State.bandDeadline_kept {s : State} {f : ℕ} {b : ℕ} : Kept 8589939584 s (State.bandDeadline s f b) := by
  unfold State.bandDeadline
  exact (Kept.foldl (Kept.step State.fixLevels_kept rfl (Kept.refl _ _)) (fun _ _ h1 => (Kept.step State.deadlineTile_kept rfl h1)))

theorem State.deadlines_kept {s : State} : Kept 8589939584 s (State.deadlines s) := by
  unfold State.deadlines
  exact (Kept.foldl (Kept.foldl (Kept.refl _ _) (fun _ _ h1 => (Kept.step State.bandDeadline_kept rfl h1))) (fun _ _ h2 => (Kept.step State.bandDeadline_kept rfl h2)))

theorem State.releaseBand_kept {s : State} {b : ℕ} : Kept 1616 s (State.releaseBand s b) := by
  unfold State.releaseBand
  exact (Kept.u1616 (Kept.refl _ _) rfl)

theorem State.releases_kept {s : State} : Kept 1616 s (State.releases s) := by
  unfold State.releases
  exact (Kept.ite (Kept.step State.releaseBand_kept rfl (Kept.refl _ _)) (Kept.refl _ _))

theorem State.retireBack_kept {s : State} : Kept 8 s (State.retireBack s) := by
  unfold State.retireBack
  exact (Kept.ite (Kept.step State.scnLowCheck_kept rfl (Kept.step State.scnGc_kept rfl (Kept.u8 (Kept.refl _ _) rfl))) (Kept.refl _ _))

theorem State.latchReqsTake_kept {s : State} : Kept 1025 s (State.latchReqsTake s) := by
  unfold State.latchReqsTake
  exact (Kept.u1025 (Kept.refl _ _) rfl)

theorem State.crvDisabledSweep_kept {s : State} : Kept 2 s (State.crvDisabledSweep s) := by
  unfold State.crvDisabledSweep
  exact (Kept.ite (Kept.refl _ _) (Kept.step State.crvSweep_kept rfl (Kept.u2 (Kept.refl _ _) rfl)))

theorem State.lineActions_kept {s : State} : Kept 42949681115 s (State.lineActions s) := by
  unfold State.lineActions
  extract_lets +onlyGivenNames -merge -useContext x1
  extract_lets +onlyGivenNames -merge -useContext x2
  have k3 : Kept 42949681115 s x2 := (Kept.u4096 (Kept.refl _ _) rfl)
  extract_lets +onlyGivenNames -merge -useContext x4
  have k5 : Kept 42949681115 s x4 := (Kept.step State.crvDisabledSweep_kept rfl k3)
  extract_lets +onlyGivenNames -merge -useContext x6
  have k7 : Kept 42949681115 s x6 := (Kept.ite (Kept.step State.latchReqsTake_kept rfl k5) (Kept.step State.lineEvents_kept rfl k5))
  exact (Kept.step State.outputStage_kept rfl (Kept.step State.linkLine_kept rfl (Kept.step State.windowRelease_kept rfl (Kept.step State.openWindows_kept rfl (Kept.step State.deadlines_kept rfl (Kept.step State.releases_kept rfl (Kept.ite (Kept.step State.retireBack_kept rfl k7) k7)))))))

theorem State.pcsSeen_kept {s : State} {x : ℕ} {aligned : Bool} {lf : Bool} {rf : Bool} : Kept 2097152 s (State.pcsSeen s x aligned lf rf) := by
  unfold State.pcsSeen
  exact (Kept.step State.setPath_kept rfl (Kept.step State.setFlag_kept rfl (Kept.step State.setFlag_kept rfl (Kept.step State.setFlag_kept rfl (Kept.refl _ _)))))

theorem State.linkLost_kept {s : State} {x : ℕ} {aligned : Bool} {lf : Bool} {rf : Bool} : Kept 6291460 s (State.linkLost s x aligned lf rf) := by
  unfold State.linkLost
  refine Kept.ite ?_ (Kept.refl _ _)
  extract_lets +onlyGivenNames -merge -useContext x1
  have k2 : Kept 6291460 s x1 := (Kept.step State.pcsSeen_kept rfl (Kept.refl _ _))
  split
  · exact (Kept.ite (Kept.step State.linkSet_kept rfl k2) k2)
  · exact k2

theorem State.linkUpMark_kept {s : State} {x : ℕ} {was : Bool} : Kept 33554432 s (State.linkUpMark s x was) := by
  unfold State.linkUpMark
  exact (Kept.ite (Kept.u33554432 (Kept.refl _ _) rfl) (Kept.refl _ _))

theorem State.linkBack_kept {s : State} {x : ℕ} : Kept 6340612 s (State.linkBack s x) := by
  unfold State.linkBack
  refine Kept.ite ?_ (Kept.refl _ _)
  extract_lets +onlyGivenNames -merge -useContext x1
  have k2 : Kept 6340612 s x1 := (Kept.step State.pcsSeen_kept rfl (Kept.refl _ _))
  split
  · exact (Kept.ite (Kept.step State.htxTakeAll_kept rfl (Kept.step State.linkSet_kept rfl k2)) k2)
  · exact k2

theorem State.laneFault_kept {s : State} {n : ℕ} {cause : ℕ} : Kept 67108864 s (State.laneFault s n cause) := by
  unfold State.laneFault
  refine Kept.ite ?_ (Kept.refl _ _)
  extract_lets +onlyGivenNames -merge -useContext x1
  have k2 : Kept 67108864 s x1 := (Kept.step State.setLaneState_kept rfl (Kept.step State.scanDrop_kept rfl (Kept.refl _ _)))
  extract_lets +onlyGivenNames -merge -useContext x3
  have k4 : Kept 67108864 s x3 := (Kept.step State.setFlag_kept rfl (Kept.step State.setFld_kept rfl k2))
  extract_lets +onlyGivenNames -merge -useContext x5
  have k6 : Kept 67108864 s x5 := (Kept.step State.add_kept rfl (Kept.step State.add_kept rfl k4))
  extract_lets +onlyGivenNames -merge -useContext x7
  extract_lets +onlyGivenNames -merge -useContext x8
  have k9 : Kept 67108864 s x8 := (Kept.step State.setLane_kept rfl k6)
  extract_lets +onlyGivenNames -merge -useContext x10
  have k11 : Kept 67108864 s x10 := (Kept.ite (Kept.step State.raise_kept rfl k9) k9)
  extract_lets +onlyGivenNames -merge -useContext x12
  have k13 : Kept 67108864 s x12 := (Kept.step State.raise_kept rfl k11)
  exact (Kept.ite (Kept.step State.raise_kept rfl k13) k13)

theorem State.laneReady_kept {s : State} {n : ℕ} {tx : ℕ} {rx : ℕ × ℕ} : Kept 67108864 s (State.laneReady s n tx rx) := by
  unfold State.laneReady
  refine Kept.ite ?_ (Kept.refl _ _)
  extract_lets +onlyGivenNames -merge -useContext x1
  extract_lets +onlyGivenNames -merge -useContext x2
  have k3 : Kept 67108864 s x2 := (Kept.step State.setLane_kept rfl (Kept.refl _ _))
  extract_lets +onlyGivenNames -merge -useContext x4
  have k5 : Kept 67108864 s x4 := (Kept.ite (Kept.step State.wr_kept rfl k3) k3)
  extract_lets +onlyGivenNames -merge -useContext x6
  have k7 : Kept 67108864 s x6 := (Kept.ite k5 (Kept.step State.setFlag_kept rfl k5))
  exact (Kept.step State.raise_kept rfl (Kept.step State.setLaneState_kept rfl (Kept.ite (Kept.step State.wr_kept rfl (Kept.step State.wr_kept rfl k7)) k7)))

theorem State.scanDone_kept {s : State} {n : ℕ} {eyes : List EyeScan} : Kept 0 s (State.scanDone s n eyes) := by
  unfold State.scanDone
  exact (Kept.ite (Kept.step State.raise_kept rfl (Kept.step State.add_kept rfl (Kept.step State.setFlag_kept rfl (Kept.step State.setFlag_kept rfl (Kept.step State.wr_kept rfl (Kept.step State.wr_kept rfl (Kept.refl _ _))))))) (Kept.refl _ _))

theorem State.logShow_kept {s : State} : Kept 0 s (State.logShow s) := by
  unfold State.logShow
  exact (Kept.foldl (Kept.step State.wr_kept rfl (Kept.step State.wr_kept rfl (Kept.step State.wr_kept rfl (Kept.step State.wr_kept rfl (Kept.refl _ _))))) (fun _ _ h1 => (Kept.step State.wr_kept rfl h1)))

theorem State.logPut_kept {s : State} {e : LogEntry} : Kept 34359738372 s (State.logPut s e) := by
  unfold State.logPut
  extract_lets +onlyGivenNames -merge -useContext x1
  extract_lets +onlyGivenNames -merge -useContext x2
  have k3 : Kept 34359738372 s x2 := (Kept.ite (Kept.step State.emit_kept rfl (Kept.refl _ _)) (Kept.refl _ _))
  exact (Kept.u4 (Kept.step State.emit_kept rfl (Kept.ite (Kept.step State.emit_kept rfl k3) k3)) rfl)

theorem State.logAppend_kept {s : State} : Kept 34359738372 s (State.logAppend s) := by
  unfold State.logAppend
  exact (Kept.ite (Kept.refl _ _) (Kept.ite (Kept.step State.add_kept rfl (Kept.step State.logShow_kept rfl (Kept.u4 (Kept.foldl (Kept.refl _ _) (fun _ _ h1 => (Kept.step State.logPut_kept rfl h1))) rfl))) (Kept.step State.add_kept rfl (Kept.step State.refuseStore_kept rfl (Kept.refl _ _)))))

theorem State.layerDrop_kept {s : State} {n : ℕ} : Kept 8589935488 s (State.layerDrop s n) := by
  unfold State.layerDrop
  extract_lets +onlyGivenNames -merge -useContext x1
  extract_lets +onlyGivenNames -merge -useContext x2
  extract_lets +onlyGivenNames -merge -useContext x3
  have k4 : Kept 8589935488 s x3 := (Kept.ite (Kept.refl _ _) (Kept.step State.raise_kept rfl (Kept.step State.add_kept rfl (Kept.refl _ _))))
  clear_value x1
  split
  · exact k4
  · extract_lets +onlyGivenNames -merge -useContext x5
    have k6 : Kept 8589935488 s x5.2 := (Kept.step State.draw_kept rfl k4)
    extract_lets +onlyGivenNames -merge -useContext x7
    extract_lets +onlyGivenNames -merge -useContext x8
    have k9 : Kept 8589935488 s x8 := (Kept.ite k6 k4)
    extract_lets +onlyGivenNames -merge -useContext x10
    have k11 : Kept 8589935488 s x10 := (Kept.foldl k9 (fun _ _ h12 => (Kept.step State.dropTile_kept rfl h12)))
    extract_lets +onlyGivenNames -merge -useContext x13
    have k14 : Kept 8589935488 s x13 := (Kept.step State.add_kept rfl (Kept.step State.add_kept rfl k11))
    exact (Kept.step State.raise_kept rfl (Kept.step State.setFld_kept rfl (Kept.ite (Kept.step State.add_kept rfl k14) k14)))

theorem State.storesResume_kept {s : State} : Kept 43251662848 s (State.storesResume s) := by
  unfold State.storesResume
  extract_lets +onlyGivenNames -merge -useContext x1
  have k2 : Kept 43251662848 s x1 := by
    unfold x1
    split
    · exact (Kept.ite (Kept.step State.segStore_kept rfl (Kept.refl _ _)) (Kept.refl _ _))
    · exact (Kept.refl _ _)
  extract_lets +onlyGivenNames -merge -useContext x3
  have k4 : Kept 43251662848 s x3 := by
    unfold x3
    split
    · exact (Kept.ite (Kept.step State.segDelete_kept rfl k2) k2)
    · exact k2
  exact (Kept.foldl k4 (fun _ _ h5 => (Kept.ite (Kept.ite (Kept.step State.driveInit_kept rfl h5) (Kept.step State.rejectCommit_kept rfl (Kept.step State.refuseStore_kept rfl (Kept.step State.setDrive_kept rfl h5)))) h5)))

theorem State.takeRetained_kept {s : State} : Kept 4 s (State.takeRetained s) := by
  unfold State.takeRetained
  exact (Kept.foldl (Kept.u4 (Kept.refl _ _) rfl) (fun _ _ h1 => (Kept.step State.stage_kept rfl h1)))

theorem State.fromFlash_kept {s : State} : Kept 1073741824 s (State.fromFlash s) := by
  unfold State.fromFlash
  exact (Kept.u1073741824 (Kept.refl _ _) rfl)

theorem State.restartOver_kept {s : State} : Kept 134217728 s (State.restartOver s) := by
  unfold State.restartOver
  exact (Kept.u134217728 (Kept.refl _ _) rfl)

theorem State.enterRecovery_kept {s : State} : Kept 1073741824 s (State.enterRecovery s) := by
  unfold State.enterRecovery
  exact (Kept.u1073741824 (Kept.step State.setDomStat_kept rfl (Kept.step State.setDomReq_kept rfl (Kept.refl _ _))) rfl)

theorem State.recoverAgain_kept {s : State} : Kept 55289249791 s (State.recoverAgain s) := by
  unfold State.recoverAgain
  exact (Kept.step State.recoveryDomains_kept rfl (Kept.step State.discharge_kept rfl (Kept.u402653184 (Kept.step State.setDomStat_kept rfl (Kept.step State.enterRecovery_kept rfl (Kept.refl _ _))) rfl)))

theorem State.mgReady_kept {s : State} : Kept 63879184383 s (State.mgReady s) := by
  unfold State.mgReady
  refine Kept.ite ?_ (Kept.refl _ _)
  extract_lets +onlyGivenNames -merge -useContext x1
  have k2 : Kept 63879184383 s x1 := (Kept.step State.trialStart_kept rfl (Kept.step State.restartOver_kept rfl (Kept.refl _ _)))
  split
  · exact (Kept.step State.storesResume_kept rfl (Kept.step State.bootFlush_kept rfl (Kept.step State.takeRetained_kept rfl (Kept.step State.fromFlash_kept rfl (Kept.step State.mgStarted_kept rfl (Kept.step State.runImage_kept rfl k2))))))
  · exact (Kept.step State.recoverAgain_kept rfl k2)

theorem State.mbEnd_kept {s : State} {c : ℕ} {code : ℕ} {resp : List Byte} : Kept 34359787520 s (State.mbEnd s c code resp) := by
  unfold State.mbEnd
  exact (Kept.step State.raise_kept rfl (Kept.step State.setFlag_kept rfl (Kept.step State.setFlag_kept rfl (Kept.step State.wr_kept rfl (Kept.ite (Kept.refl _ _) (Kept.ite (Kept.step State.dramWrite_kept rfl (Kept.refl _ _)) (Kept.step State.emit_kept rfl (Kept.refl _ _))))))))

theorem State.mgRestart_kept {s : State} : Kept 35567747072 s (State.mgRestart s) := by
  unfold State.mgRestart
  exact (Kept.ite (Kept.step State.setDomStat_kept rfl (Kept.step State.raise_kept rfl (Kept.step State.addSat_kept rfl (Kept.step State.setFlag_kept rfl (Kept.u1207959552 (Kept.foldl (Kept.refl _ _) (fun _ _ h1 => (Kept.ite (Kept.step State.mbEnd_kept rfl h1) h1))) rfl))))) (Kept.refl _ _))

theorem State.ok_kept {s : State} : Kept 0 s (State.ok s).2.2 := by
  unfold State.ok
  exact (Kept.refl _ _)

theorem State.calShow_kept {s : State} {slot : ℕ} {code : ℕ} {loaded : Bool} : Kept 0 s (State.calShow s slot code loaded) := by
  unfold State.calShow
  exact (Kept.step State.wr_kept rfl (Kept.step State.wr_kept rfl (Kept.step State.wr_kept rfl (Kept.refl _ _))))

theorem State.calLoad_kept {s : State} : Kept 1082130432 s (State.calLoad s) := by
  unfold State.calLoad
  extract_lets +onlyGivenNames -merge -useContext x1
  split
  · exact (Kept.step State.raise_kept rfl (Kept.step State.add_kept rfl (Kept.step State.calShow_kept rfl (Kept.u8388608 (Kept.refl _ _) rfl))))
  · extract_lets +onlyGivenNames -merge -useContext x2
    have k3 : Kept 1082130432 s x2 := (Kept.step State.runImage_kept rfl (Kept.refl _ _))
    exact (Kept.ite (Kept.step State.raise_kept rfl (Kept.step State.add_kept rfl (Kept.step State.calShow_kept rfl (Kept.u8388608 k3 rfl)))) (Kept.step State.raise_kept rfl (Kept.step State.add_kept rfl (Kept.step State.add_kept rfl (Kept.step State.calShow_kept rfl (Kept.u8388608 k3 rfl))))))

theorem State.calActivate_kept {s : State} : Kept 172880822276 s (State.calActivate s) := by
  unfold State.calActivate
  exact (Kept.u137447342080 (Kept.step State.calLoad_kept rfl (Kept.step State.trialStart_kept rfl (Kept.refl _ _))) rfl)

theorem State.no_kept {s : State} {code : ℕ} : Kept 0 s (State.no s code).2.2 := by
  unfold State.no
  exact (Kept.refl _ _)

theorem State.svcActivate_kept {s : State} {p : List Byte} : Kept 173015040004 s (State.svcActivate s p).2.2 := by
  unfold State.svcActivate
  exact (Kept.iteP (fun (x : Served) => x.2.2) (Kept.step State.ok_kept rfl (Kept.refl _ _)) (Kept.iteP (fun (x : Served) => x.2.2) (Kept.step State.ok_kept rfl (Kept.step State.cpxRestart_kept rfl (Kept.refl _ _))) (Kept.iteP (fun (x : Served) => x.2.2) (Kept.step State.ok_kept rfl (Kept.step State.calActivate_kept rfl (Kept.refl _ _))) (Kept.step State.no_kept rfl (Kept.refl _ _)))))

theorem State.sign_kept {msg : List Byte} {n : Nat} {s : State} : Kept 8589934592 s (State.sign msg n s).2 := by
  induction n generalizing s with
  | zero => exact Kept.refl _ _
  | succ n ih =>
    rw [State.sign]
    split
    · exact Kept.step State.draw256_kept rfl (Kept.refl _ _)
    · exact Kept.trans (Kept.step State.draw256_kept rfl (Kept.refl _ _)) ih

theorem State.attestObj_kept {s : State} {body : List Byte} : Kept 8589934592 s (State.attestObj s body).2 := by
  unfold State.attestObj
  exact (Kept.step State.sign_kept rfl (Kept.refl _ _))

theorem State.svcAttest_kept {s : State} {p : List Byte} : Kept 8589934592 s (State.svcAttest s p).2.2 := by
  unfold State.svcAttest
  exact (Kept.iteP (fun (x : Served) => x.2.2) (Kept.step State.no_kept rfl (Kept.refl _ _)) (Kept.step State.add_kept rfl (Kept.step State.attestObj_kept rfl (Kept.refl _ _))))

theorem State.svcCalCapture_kept {s : State} {p : List Byte} : Kept 49152 s (s.svcCalCapture p).2.2 := by
  unfold State.svcCalCapture
  extract_lets a new old rest fin img
  have kf : ∀ (x : State) (c : Nat), Kept 49152 s x → Kept 49152 s (fin x c) := fun x c h =>
    Kept.step State.raise_kept rfl (Kept.step State.wr_kept rfl h)
  clear_value fin
  split
  · exact kf _ _ (Kept.refl _ _)
  · split
    · exact kf _ _ (Kept.step State.dramWrite_kept rfl (Kept.refl _ _))
    · exact kf _ _ (Kept.refl _ _)

theorem State.svcCommit_kept {s : State} {p : List Byte} : Kept 35433480196 s (s.svcCommit p).2.2 := by
  unfold State.svcCommit
  extract_lets k adv
  split
  · exact Kept.step State.no_kept rfl (Kept.refl _ _)
  · split
    · rename_i h
      have k2 := State.bootWrite_kept (s := s) (r := s.boot.setKind (k - 1) { (s.boot.kind (k - 1)) with trial := false })
      rw [h] at k2
      exact Kept.step State.no_kept rfl k2
    · rename_i s1 h
      have k2 : Kept 35433480196 s s1 := by
        have k3 := State.bootWrite_kept (s := s) (r := s.boot.setKind (k - 1) { (s.boot.kind (k - 1)) with trial := false })
        rw [h] at k3
        exact k3
      extract_lets rb
      split
      · split
        · exact Kept.step State.ok_kept rfl (Kept.u1073741824 k2 rfl)
        · exact Kept.step State.no_kept rfl (Kept.step State.refuseStore_kept rfl k2)
      · exact Kept.step State.ok_kept rfl k2

theorem State.svcDomain_kept {s : State} {answers : Bool} {p : List Byte} : Kept 19855769599 s (State.svcDomain s answers p).2.2 := by
  unfold State.svcDomain
  exact (Kept.iteP (fun (x : Served) => x.2.2) (Kept.step State.no_kept rfl (Kept.refl _ _)) (Kept.iteP (fun (x : Served) => x.2.2) (Kept.step State.no_kept rfl (Kept.refl _ _)) (Kept.iteP (fun (x : ℕ × List Byte × State) => x.2.2) (Kept.step State.add_kept rfl (Kept.step State.raise_kept rfl (Kept.refl _ _))) (Kept.step State.ok_kept rfl (Kept.ite (Kept.step State.domainOn_kept rfl (Kept.refl _ _)) (Kept.step State.domainOff_kept rfl (Kept.refl _ _)))))))

theorem State.svcIdentity_kept {s : State} : Kept 0 s (State.svcIdentity s).2.2 := by
  unfold State.svcIdentity
  exact (Kept.iteP (fun (x : ℕ × List Byte × State) => x.2.2) (Kept.refl _ _) (Kept.step State.no_kept rfl (Kept.refl _ _)))

theorem State.setKey_kept {s : State} {k : ℕ} {slot : ℕ} {x : KeySlot} : Kept 16 s (State.setKey s k slot x) := by
  unfold State.setKey
  exact (Kept.step State.setSess_kept rfl (Kept.refl _ _))

theorem State.clearKey_kept {s : State} {k : ℕ} {slot : ℕ} : Kept 16 s (State.clearKey s k slot) := by
  unfold State.clearKey
  exact (Kept.step State.setKey_kept rfl (Kept.refl _ _))

theorem State.svcKeyClear_kept {s : State} {p : List Byte} : Kept 16 s (State.svcKeyClear s p).2.2 := by
  unfold State.svcKeyClear
  exact (Kept.iteP (fun (x : Served) => x.2.2) (Kept.step State.no_kept rfl (Kept.refl _ _)) (Kept.iteP (fun (x : Served) => x.2.2) (Kept.step State.no_kept rfl (Kept.refl _ _)) (Kept.step State.ok_kept rfl (Kept.step State.raise_kept rfl (Kept.step State.clearKey_kept rfl (Kept.refl _ _))))))

theorem State.handleNow_kept {s : State} {k : ℕ} : Kept 2097152 s (State.handleNow s k) := by
  unfold State.handleNow
  exact (Kept.u2097152 (Kept.refl _ _) rfl)

theorem State.svcKeyLoad_kept {s : State} {p : List Byte} : Kept 2097168 s (State.svcKeyLoad s p).2.2 := by
  unfold State.svcKeyLoad
  extract_lets +onlyGivenNames -merge -useContext x1
  extract_lets +onlyGivenNames -merge -useContext x2
  refine Kept.iteP (fun (x : Served) => x.2.2) (Kept.step State.no_kept rfl (Kept.refl _ _)) ?_
  refine Kept.iteP (fun (x : Served) => x.2.2) (Kept.step State.no_kept rfl (Kept.refl _ _)) ?_
  split
  · exact (Kept.step State.no_kept rfl (Kept.refl _ _))
  · exact (Kept.step State.ok_kept rfl (Kept.step State.add_kept rfl (Kept.step State.raise_kept rfl (Kept.step State.raise_kept rfl (Kept.step State.handleNow_kept rfl (Kept.step State.setFld_kept rfl (Kept.step State.setKey_kept rfl (Kept.step State.setSess_kept rfl (Kept.refl _ _)))))))))

theorem State.clearKeys_kept {s : State} : Kept 16 s (State.clearKeys s) := by
  unfold State.clearKeys
  exact (Kept.step State.raise_kept rfl (Kept.foldl (Kept.refl _ _) (fun _ _ h1 => (Kept.step State.clearKey_kept rfl (Kept.step State.clearKey_kept rfl h1)))))

theorem State.svcLifecycle_kept {s : State} {p : List Byte} : Kept 1073741840 s (State.svcLifecycle s p).2.2 := by
  unfold State.svcLifecycle
  extract_lets +onlyGivenNames -merge -useContext x1
  refine Kept.iteP (fun (x : Served) => x.2.2) (Kept.step State.no_kept rfl (Kept.refl _ _)) ?_
  refine Kept.iteP (fun (x : Served) => x.2.2) (Kept.step State.no_kept rfl (Kept.refl _ _)) ?_
  refine Kept.iteP (fun (x : Served) => x.2.2) (Kept.step State.no_kept rfl (Kept.step State.refuseStore_kept rfl (Kept.refl _ _))) ?_
  extract_lets +onlyGivenNames -merge -useContext x2
  extract_lets +onlyGivenNames -merge -useContext x3
  have k4 : Kept 1073741840 s x3 := (Kept.u1073741824 (Kept.refl _ _) rfl)
  exact (Kept.iteP (fun (x : Served) => x.2.2) (Kept.step State.ok_kept rfl (Kept.u1073741824 (Kept.step State.clearKeys_kept rfl k4) rfl)) (Kept.step State.ok_kept rfl k4))

theorem State.svcLogRead_kept {s : State} {b : List Byte} : Kept 0 s (State.svcLogRead s b).2.2 := by
  unfold State.svcLogRead
  exact (Kept.iteP (fun (x : Served) => x.2.2) (Kept.step State.no_kept rfl (Kept.refl _ _)) (Kept.iteP (fun (x : Served) => x.2.2) (Kept.step State.no_kept rfl (Kept.refl _ _)) (Kept.iteP (fun (x : Served) => x.2.2) (Kept.step State.no_kept rfl (Kept.refl _ _)) (Kept.refl _ _))))

theorem State.svcEnrol_kept {s : State} {p : List Byte} : Kept 1073741824 s (State.svcEnrol s p).2.2 := by
  unfold State.svcEnrol
  exact (Kept.iteP (fun (x : Served) => x.2.2) (Kept.step State.no_kept rfl (Kept.refl _ _)) (Kept.iteP (fun (x : Served) => x.2.2) (Kept.step State.no_kept rfl (Kept.refl _ _)) (Kept.iteP (fun (x : Served) => x.2.2) (Kept.step State.no_kept rfl (Kept.step State.refuseStore_kept rfl (Kept.refl _ _))) (Kept.step State.ok_kept rfl (Kept.u1073741824 (Kept.refl _ _) rfl)))))

theorem State.svcRevoke_kept {s : State} {p : List Byte} : Kept 1073741824 s (State.svcRevoke s p).2.2 := by
  unfold State.svcRevoke
  exact (Kept.iteP (fun (x : Served) => x.2.2) (Kept.step State.no_kept rfl (Kept.refl _ _)) (Kept.iteP (fun (x : Served) => x.2.2) (Kept.step State.no_kept rfl (Kept.refl _ _)) (Kept.iteP (fun (x : Served) => x.2.2) (Kept.step State.no_kept rfl (Kept.refl _ _)) (Kept.iteP (fun (x : Served) => x.2.2) (Kept.step State.no_kept rfl (Kept.step State.refuseStore_kept rfl (Kept.refl _ _))) (Kept.step State.ok_kept rfl (Kept.u1073741824 (Kept.refl _ _) rfl))))))

theorem State.svcPrivWrite_kept {s : State} {b : List Byte} : Kept 64416055295 s (State.svcPrivWrite s b).2.2 := by
  unfold State.svcPrivWrite
  extract_lets +onlyGivenNames -merge -useContext x1
  extract_lets +onlyGivenNames -merge -useContext x2
  extract_lets +onlyGivenNames -merge -useContext x3
  refine Kept.iteP (fun (x : Served) => x.2.2) (Kept.step State.no_kept rfl (Kept.refl _ _)) ?_
  split
  · exact (Kept.step State.rejectUnmapped_kept rfl (Kept.refl _ _))
  · exact (Kept.iteP (fun (x : Served) => x.2.2) (Kept.step State.ok_kept rfl (Kept.step State.marigoldSees_kept rfl (Kept.step State.acceptWord_kept rfl (Kept.refl _ _)))) (Kept.step State.rejectWrite_kept rfl (Kept.refl _ _)))

theorem State.svcStatusReq_kept {s : State} {c : ℕ} {host : List Byte} {listed : List ℕ} : Kept 34359787520 s (State.svcStatusReq s c host listed) := by
  unfold State.svcStatusReq
  refine Kept.ite ?_ (Kept.refl _ _)
  split
  · exact (Kept.step State.mbEnd_kept rfl (Kept.refl _ _))
  · extract_lets +onlyGivenNames -merge -useContext x1
    refine Kept.ite ?_ (Kept.ite (Kept.refl _ _) (Kept.step State.mbEnd_kept rfl (Kept.refl _ _)))
    unfold State.mbServe
    exact (Kept.ite (Kept.step State.mbEnd_kept rfl (Kept.refl _ _)) (Kept.step State.mbEnd_kept rfl (Kept.refl _ _)))

theorem State.svcUnlock_kept {s : State} {p : List Byte} : Kept 1073741840 s (State.svcUnlock s p).2.2 := by
  unfold State.svcUnlock
  split
  · exact (Kept.step State.no_kept rfl (Kept.refl _ _))
  · exact (Kept.iteP (fun (x : Served) => x.2.2) (Kept.step State.no_kept rfl (Kept.refl _ _)) (Kept.iteP (fun (x : Served) => x.2.2) (Kept.step State.no_kept rfl (Kept.refl _ _)) (Kept.step State.ok_kept rfl (Kept.u1073741824 (Kept.step State.clearKeys_kept rfl (Kept.refl _ _)) rfl))))

theorem State.svcUpdateBegin_kept {s : State} {key : List Byte} {p : List Byte} : Kept 35433480192 s (State.svcUpdateBegin s key p).2.2 := by
  unfold State.svcUpdateBegin
  exact (Kept.iteP (fun (x : Served) => x.2.2) (Kept.step State.no_kept rfl (Kept.refl _ _)) (Kept.iteP (fun (x : Served) => x.2.2) (Kept.step State.no_kept rfl (Kept.refl _ _)) (Kept.iteP (fun (x : Served) => x.2.2) (Kept.step State.no_kept rfl (Kept.refl _ _)) (Kept.iteP (fun (x : Served) => x.2.2) (Kept.step State.no_kept rfl (Kept.refl _ _)) (Kept.step State.ok_kept rfl (Kept.step State.emit_kept rfl (Kept.u1073741824 (Kept.refl _ _) rfl)))))))

theorem State.svcUpdateBlock_kept {s : State} {p : List Byte} : Kept 35433480192 s (State.svcUpdateBlock s p).2.2 := by
  unfold State.svcUpdateBlock
  extract_lets +onlyGivenNames -merge -useContext x1
  extract_lets +onlyGivenNames -merge -useContext x2
  split
  · exact (Kept.step State.no_kept rfl (Kept.refl _ _))
  · exact (Kept.iteP (fun (x : Served) => x.2.2) (Kept.step State.no_kept rfl (Kept.refl _ _)) (Kept.iteP (fun (x : Served) => x.2.2) (Kept.step State.no_kept rfl (Kept.step State.refuseStore_kept rfl (Kept.refl _ _))) (Kept.step State.ok_kept rfl (Kept.step State.emit_kept rfl (Kept.u1073741824 (Kept.refl _ _) rfl)))))

theorem State.svcUpdateEnd_kept {s : State} : Kept 35433480196 s s.svcUpdateEnd.2.2 := by
  unfold State.svcUpdateEnd
  split
  · exact Kept.step State.no_kept rfl (Kept.refl _ _)
  · extract_lets k b i x1 s1 r
    have k1 : Kept 35433480196 s s1 := Kept.u1073741824 (Kept.refl _ _) rfl
    clear_value s1 r
    split
    · exact Kept.step State.no_kept rfl k1
    · split
      · show Kept 35433480196 s _
        dsimp only
        refine Kept.ite (Kept.step State.raise_kept rfl (Kept.step State.add_kept rfl k1)) ?_
        exact Kept.ite (Kept.step State.add_kept rfl k1) k1
      · split
        · rename_i h
          have k2 := State.bootWrite_kept (s := s1) (r := s1.boot.setKind k { slot := i, trial := true, tries := 0 })
          rw [h] at k2
          exact Kept.step State.ok_kept rfl (Kept.step State.raise_kept rfl (Kept.step k2 rfl k1))
        · rename_i h
          have k2 := State.bootWrite_kept (s := s1) (r := s1.boot.setKind k { slot := i, trial := true, tries := 0 })
          rw [h] at k2
          exact Kept.step State.no_kept rfl (Kept.step k2 rfl k1)

theorem State.mbcTake_kept {s : State} {n : ℕ} {ops : ℕ → Bool} : Kept 32 s (State.mbcTake s n ops) := by
  unfold State.mbcTake
  exact (Kept.ite (Kept.step State.wr_kept rfl (Kept.step State.wr_kept rfl (Kept.step State.setFld_kept rfl (Kept.step State.setEng_kept rfl (Kept.refl _ _))))) (Kept.refl _ _))

theorem State.writeChunks_kept {s : State} {cs : List (Nat × Nat)} {bs : List Byte} : Kept 49152 s (s.writeChunks cs bs) := by
  induction cs generalizing s bs with
  | nil => exact Kept.refl _ _
  | cons c cs ih => exact Kept.trans (State.dramWrite_kept (s := s) (a := c.1) (bs := bs.take c.2)) ih

theorem State.mbcJobDone_kept {s : State} {n : ℕ} : Kept 49184 s (State.mbcJobDone s n) := by
  unfold State.mbcJobDone
  split
  · exact (Kept.refl _ _)
  · exact (Kept.ite (Kept.refl _ _) (Kept.step State.mbcEnd_kept rfl (Kept.step State.writeChunks_kept rfl (Kept.refl _ _))))

theorem State.mbcStopped_kept {s : State} {n : ℕ} : Kept 49184 s (State.mbcStopped s n) := by
  unfold State.mbcStopped
  split
  · exact (Kept.refl _ _)
  · extract_lets +onlyGivenNames -merge -useContext x1
    refine Kept.ite (Kept.refl _ _) ?_
    extract_lets +onlyGivenNames -merge -useContext x2
    extract_lets +onlyGivenNames -merge -useContext x3
    have k4 : Kept 49184 s x3 := (Kept.step State.writeChunks_kept rfl (Kept.refl _ _))
    extract_lets +onlyGivenNames -merge -useContext x5
    extract_lets +onlyGivenNames -merge -useContext x6
    have k7 : Kept 49184 s x6 := (Kept.step State.setEng_kept rfl k4)
    extract_lets +onlyGivenNames -merge -useContext x8
    have k9 : Kept 49184 s x8 := (Kept.step State.wr_kept rfl (Kept.step State.wr_kept rfl (Kept.step State.setFld_kept rfl k7)))
    extract_lets +onlyGivenNames -merge -useContext x10
    have k11 : Kept 49184 s x10 := (Kept.step State.raise_kept rfl (Kept.step State.add_kept rfl k9))
    exact (Kept.ite (Kept.step State.mbcCancel_kept rfl k11) k11)

theorem State.nackOut_kept {s : State} {k : ℕ} : Kept 2097168 s (State.nackOut s k) := by
  unfold State.nackOut
  exact (Kept.step State.sendKst_kept rfl (Kept.step State.add_kept rfl (Kept.step State.add_kept rfl (Kept.step State.setSess_kept rfl (Kept.refl _ _)))))

theorem State.fragTimeout_kept {s : State} {x : ℕ} : Kept 2097152 s (State.fragTimeout s x) := by
  unfold State.fragTimeout
  exact (Kept.ite (Kept.refl _ _) (Kept.step State.raise_kept rfl (Kept.step State.setPath_kept rfl (Kept.refl _ _))))

theorem State.gclSwitch_kept {s : State} {x : ℕ} : Kept 2097152 s (State.gclSwitch s x) := by
  unfold State.gclSwitch
  extract_lets +onlyGivenNames -merge -useContext x1
  split
  · exact (Kept.ite (Kept.step State.raise_kept rfl (Kept.step State.setFlag_kept rfl (Kept.step State.setPath_kept rfl (Kept.refl _ _)))) (Kept.refl _ _))
  · exact (Kept.refl _ _)

end Sys2Proof.Machine
end

