-- ==== Sys2Proof/Laws/KeptOps4.lean ====
section
/-! SUPPORT. Which parts of the state each shared operation may change. -/

namespace Sys2Proof.Machine

theorem State.unitFault_kept {s : State} {u : ℕ} : Kept 4194308 s (State.unitFault s u) := by
  unfold State.unitFault
  refine Kept.ite ?_ (Kept.refl _ _)
  extract_lets +onlyGivenNames -merge -useContext x1
  extract_lets +onlyGivenNames -merge -useContext x2
  have k3 : Kept 4194308 s x2 := (Kept.step State.logIt_kept rfl (Kept.step State.raise_kept rfl (Kept.step State.setUnit_kept rfl (Kept.refl _ _))))
  exact (Kept.ite (Kept.step State.pinLost_kept rfl k3) (Kept.ite (Kept.step State.standbyOut_kept rfl k3) k3))

theorem State.nvmeTimeout_kept {s : State} {d : ℕ} {issued : ℕ} {aborted : Bool} : Kept 34393292800 s (State.nvmeTimeout s d issued aborted).1 := by
  unfold State.nvmeTimeout
  refine Kept.iteP Prod.fst ?_ (Kept.refl _ _)
  extract_lets +onlyGivenNames -merge -useContext x1
  extract_lets +onlyGivenNames -merge -useContext x2
  have k3 : Kept 34393292800 s x2 := (Kept.step State.raise_kept rfl (Kept.step State.add_kept rfl (Kept.step State.nvme_kept rfl (Kept.refl _ _))))
  refine Kept.iteP Prod.fst (Kept.step State.setDrive_kept rfl k3) ?_
  extract_lets +onlyGivenNames -merge -useContext x4
  have k5 : Kept 34393292800 s x4 := (Kept.step State.add_kept rfl k3)
  exact (Kept.iteP Prod.fst (Kept.step State.setFlag_kept rfl (Kept.step State.setDrive_kept rfl k5)) (Kept.step State.nvmeStart_kept rfl (Kept.step State.setDrive_kept rfl k5)))

theorem State.fallbackStart_kept {s : State} : Kept 1107296284 s (State.fallbackStart s) := by
  unfold State.fallbackStart
  extract_lets +onlyGivenNames -merge -useContext x1
  refine Kept.ite ?_ (Kept.refl _ _)
  extract_lets +onlyGivenNames -merge -useContext x2
  have k3 : Kept 1107296284 s x2 := (Kept.step State.playStop_kept rfl (Kept.refl _ _))
  extract_lets +onlyGivenNames -merge -useContext x4
  extract_lets +onlyGivenNames -merge -useContext x5
  have k6 : Kept 1107296284 s x5 := (Kept.foldl k3 (fun _ _ h7 => (Kept.step State.closeSess_kept rfl (Kept.step State.setFlag_kept rfl h7))))
  extract_lets +onlyGivenNames -merge -useContext x8
  have k9 : Kept 1107296284 s x8 := (Kept.step State.sessEnabled_kept rfl (Kept.step State.openSess_kept rfl (Kept.step State.setFlag_kept rfl k6)))
  extract_lets +onlyGivenNames -merge -useContext x10
  extract_lets +onlyGivenNames -merge -useContext x11
  have k12 : Kept 1107296284 s x11 := (Kept.u33554432 k9 rfl)
  exact (Kept.step State.logIt_kept rfl (Kept.step State.raise_kept rfl (Kept.ite (Kept.step State.playGo_kept rfl k12) k12)))

theorem State.fallbackEnd_kept {s : State} : Kept 33554456 s (State.fallbackEnd s) := by
  unfold State.fallbackEnd
  split
  · exact (Kept.refl _ _)
  · exact (Kept.ite (Kept.step State.raise_kept rfl (Kept.u33554432 (Kept.foldl (Kept.step State.closeSess_kept rfl (Kept.step State.setFlag_kept rfl (Kept.step State.playStop_kept rfl (Kept.refl _ _)))) (fun _ _ h1 => (Kept.step State.openSess_kept rfl (Kept.step State.setFlag_kept rfl h1)))) rfl)) (Kept.refl _ _))

theorem State.playDone_kept {s : State} {p : ℕ} : Kept 33554432 s (State.playDone s p) := by
  unfold State.playDone
  split
  · exact (Kept.ite (Kept.step State.raise_kept rfl (Kept.step State.playStop_kept rfl (Kept.refl _ _))) (Kept.refl _ _))
  · exact (Kept.refl _ _)

theorem State.playLost_kept {s : State} {p : ℕ} : Kept 33554436 s (State.playLost s p) := by
  unfold State.playLost
  split
  · exact (Kept.ite (Kept.step State.logIt_kept rfl (Kept.step State.raise_kept rfl (Kept.step State.playStop_kept rfl (Kept.refl _ _)))) (Kept.refl _ _))
  · exact (Kept.refl _ _)

theorem State.oasWrite_kept {s : State} {h : Hold} : Kept 49664 s (State.oasWrite s h) := by
  unfold State.oasWrite
  extract_lets +onlyGivenNames -merge -useContext x1
  split
  · exact (Kept.refl _ _)
  · extract_lets +onlyGivenNames -merge -useContext x2
    refine Kept.ite ?_ (Kept.refl _ _)
    extract_lets +onlyGivenNames -merge -useContext x3
    extract_lets +onlyGivenNames -merge -useContext x4
    extract_lets +onlyGivenNames -merge -useContext x5
    extract_lets +onlyGivenNames -merge -useContext x6
    extract_lets +onlyGivenNames -merge -useContext x7
    extract_lets +onlyGivenNames -merge -useContext x8
    have k9 : Kept 49664 s x8 := (Kept.u512 (Kept.refl _ _) rfl)
    extract_lets +onlyGivenNames -merge -useContext x10
    have k11 : Kept 49664 s x10 := (Kept.step State.add64_kept rfl (Kept.step State.add_kept rfl (Kept.step State.dramWrite_kept rfl k9)))
    exact (Kept.step State.setFlag_kept rfl (Kept.ite k11 (Kept.step State.add_kept rfl k11)))

theorem State.panelOn_kept {s : State} : Kept 2048 s (State.panelOn s) := by
  unfold State.panelOn
  exact (Kept.ite (Kept.step State.setPanel_kept rfl (Kept.u2048 (Kept.refl _ _) rfl)) (Kept.refl _ _))

theorem State.panelRailOff_kept {s : State} : Kept 34359740416 s (State.panelRailOff s) := by
  unfold State.panelRailOff
  extract_lets +onlyGivenNames -merge -useContext x1
  extract_lets +onlyGivenNames -merge -useContext x2
  refine Kept.ite ?_ (Kept.refl _ _)
  extract_lets +onlyGivenNames -merge -useContext x3
  extract_lets +onlyGivenNames -merge -useContext x4
  have k5 : Kept 34359740416 s x4 := (Kept.step State.railSwitch_kept rfl (Kept.u2048 (Kept.refl _ _) rfl))
  exact (Kept.ite (Kept.step State.setPanel_kept rfl (Kept.u2048 k5 rfl)) k5)

theorem State.railAnswer_kept {s : State} {n : ℕ} {sent : ℕ} {status : PmbRead} : Kept 34359738368 s (State.railAnswer s n sent status).2 := by
  unfold State.railAnswer
  extract_lets +onlyGivenNames -merge -useContext x1
  extract_lets +onlyGivenNames -merge -useContext x2
  refine Kept.iteP Prod.snd (Kept.refl _ _) ?_
  extract_lets +onlyGivenNames -merge -useContext x3
  have k4 : Kept 34359738368 s x3 := (Kept.step State.pmbRetry_kept rfl (Kept.refl _ _))
  extract_lets +onlyGivenNames -merge -useContext x5
  have k6 : Kept 34359738368 s x5 := (Kept.ite (Kept.step State.pmbSend_kept rfl k4) k4)
  exact (Kept.ite (Kept.step State.raise_kept rfl k6) k6)

theorem State.panelRailOn_kept {s : State} {sent : ℕ} {status : PmbRead} : Kept 34359740416 s (State.panelRailOn s sent status) := by
  unfold State.panelRailOn
  extract_lets +onlyGivenNames -merge -useContext x1
  refine Kept.ite ?_ (Kept.refl _ _)
  extract_lets +onlyGivenNames -merge -useContext x2
  have k3 : Kept 34359740416 s x2.2 := (Kept.step State.railAnswer_kept rfl (Kept.refl _ _))
  extract_lets +onlyGivenNames -merge -useContext x4
  have k5 : Kept 34359740416 s x4 := k3
  exact (Kept.ite (Kept.step State.raise_kept rfl (Kept.step State.errEntry_kept rfl (Kept.u2048 (Kept.step State.setFld_kept rfl (Kept.step State.setFlag_kept rfl (Kept.step State.setPanel_kept rfl (Kept.step State.railsOff_kept rfl k5)))) rfl))) (Kept.ite (Kept.step State.railSwitch_kept rfl (Kept.u2048 k5 rfl)) (Kept.step State.setPanel_kept rfl (Kept.u2048 k5 rfl))))

theorem State.setPin_kept {s : State} {k : ℕ} {p : EvtPin} : Kept 34359738370 s (State.setPin s k p) := by
  unfold State.setPin
  extract_lets +onlyGivenNames -merge -useContext x1
  extract_lets +onlyGivenNames -merge -useContext x2
  extract_lets +onlyGivenNames -merge -useContext x3
  have k4 : Kept 34359738370 s x3 := (Kept.u2 (Kept.refl _ _) rfl)
  extract_lets +onlyGivenNames -merge -useContext x5
  have k6 : Kept 34359738370 s x5 := (Kept.step State.wr_kept rfl k4)
  exact (Kept.ite k6 (Kept.step State.emit_kept rfl k6))

theorem State.pinPulseOp_kept {s : State} {d : ℕ} : Kept 34359738370 s (State.pinPulseOp s d) := by
  unfold State.pinPulseOp
  refine Kept.foldl (Kept.refl _ _) (fun a2 b3 h4 => ?_)
  refine Kept.ite ?_ h4
  split
  · exact (Kept.step State.setPin_kept rfl h4)
  · exact h4

theorem State.pinPulseEndOp_kept {s : State} {k : ℕ} : Kept 34359738370 s (State.pinPulseEndOp s k) := by
  unfold State.pinPulseEndOp
  split
  · split
    · exact (Kept.ite (Kept.step State.setPin_kept rfl (Kept.refl _ _)) (Kept.refl _ _))
    · exact (Kept.refl _ _)
  · exact (Kept.refl _ _)

theorem State.pinSetOp_kept {s : State} {d : ℕ} : Kept 34359738370 s (State.pinSetOp s d) := by
  unfold State.pinSetOp
  exact (Kept.foldl (Kept.refl _ _) (fun _ _ h1 => (Kept.ite (Kept.step State.setPin_kept rfl h1) h1)))

theorem State.takeHint_kept {s : State} : Kept 256 s (State.takeHint s) := by
  unfold State.takeHint
  exact (Kept.step State.setFlag_kept rfl (Kept.u256 (Kept.refl _ _) rfl))

theorem State.takeCostMap_kept {s : State} : Kept 256 s (State.takeCostMap s) := by
  unfold State.takeCostMap
  exact (Kept.ite (Kept.u256 (Kept.refl _ _) rfl) (Kept.refl _ _))

theorem State.planPass_kept {s : State} : Kept 256 s (State.planPass s) := by
  unfold State.planPass
  extract_lets +onlyGivenNames -merge -useContext x1
  extract_lets +onlyGivenNames -merge -useContext x2
  extract_lets +onlyGivenNames -merge -useContext x3
  extract_lets +onlyGivenNames -merge -useContext x4
  extract_lets +onlyGivenNames -merge -useContext x5
  extract_lets +onlyGivenNames -merge -useContext x6
  extract_lets +onlyGivenNames -merge -useContext x7
  extract_lets +onlyGivenNames -merge -useContext x8
  extract_lets +onlyGivenNames -merge -useContext x9
  extract_lets +onlyGivenNames -merge -useContext x10
  extract_lets +onlyGivenNames -merge -useContext x11
  extract_lets +onlyGivenNames -merge -useContext x12
  extract_lets +onlyGivenNames -merge -useContext x13
  extract_lets +onlyGivenNames -merge -useContext x14
  extract_lets +onlyGivenNames -merge -useContext x15
  extract_lets +onlyGivenNames -merge -useContext x16
  extract_lets +onlyGivenNames -merge -useContext x17
  extract_lets +onlyGivenNames -merge -useContext x18
  extract_lets +onlyGivenNames -merge -useContext x19
  extract_lets +onlyGivenNames -merge -useContext x20
  extract_lets +onlyGivenNames -merge -useContext x21
  extract_lets +onlyGivenNames -merge -useContext x22
  extract_lets +onlyGivenNames -merge -useContext x23
  have k24 : Kept 256 s x23 := (Kept.u256 (Kept.refl _ _) rfl)
  extract_lets +onlyGivenNames -merge -useContext x25
  have k26 : Kept 256 s x25 := (Kept.step State.add_kept rfl (Kept.step State.add_kept rfl (Kept.step State.add_kept rfl k24)))
  extract_lets +onlyGivenNames -merge -useContext x27
  have k28 : Kept 256 s x27 := (Kept.step State.wr_kept rfl k26)
  extract_lets +onlyGivenNames -merge -useContext x29
  have k30 : Kept 256 s x29 := (Kept.step State.setFlag_kept rfl k28)
  extract_lets +onlyGivenNames -merge -useContext x31
  have k32 : Kept 256 s x31 := (Kept.ite (Kept.step State.raise_kept rfl k30) k30)
  exact (Kept.ite (Kept.step State.raise_kept rfl k32) k32)

theorem State.planningStart_kept {s : State} : Kept 256 s (State.planningStart s) := by
  unfold State.planningStart
  exact (Kept.ite (Kept.step State.takeHint_kept rfl (Kept.step State.takeCostMap_kept rfl (Kept.step State.planPass_kept rfl (Kept.u256 (Kept.refl _ _) rfl)))) (Kept.refl _ _))

theorem State.setS0_kept {s : State} {p : ℕ} {k : ℕ} {v : ℕ} : Kept 33554432 s (State.setS0 s p k v) := by
  unfold State.setS0
  exact (Kept.u33554432 (Kept.refl _ _) rfl)

theorem State.cacheRead_kept {s : State} {seg : ℕ} {line : ℕ} {bs : List Byte} : Kept 49408 s (State.cacheRead s seg line bs) := by
  unfold State.cacheRead
  exact (Kept.ite (Kept.step State.add_kept rfl (Kept.u256 (Kept.refl _ _) rfl)) (Kept.step State.add_kept rfl (Kept.step State.cacheFill_kept rfl (Kept.refl _ _))))

theorem State.segRead_kept {s : State} {g : Seg} {line : ℕ} : Kept 42949722368 s (State.segRead s g line) := by
  unfold State.segRead
  exact (Kept.ite (Kept.step State.cacheRead_kept rfl (Kept.refl _ _)) (Kept.step State.driveRead_kept rfl (Kept.step State.cacheRead_kept rfl (Kept.refl _ _))))

theorem State.deliver_kept {a0 : ℕ} {a1 : State} {a2 : ℕ} {a3 : Seg} : Kept 42983276816 a1 (State.deliver a0 a1 a2 a3) := by
  unfold State.deliver
  split
  · exact (Kept.refl _ _)
  · split
    · exact (Kept.refl _ _)
    · refine Kept.ite (Kept.refl _ _) ?_
      extract_lets +onlyGivenNames -merge -useContext x1
      extract_lets +onlyGivenNames -merge -useContext x2
      extract_lets +onlyGivenNames -merge -useContext x3
      have k4 : Kept 42983276816 a1 x3 := (Kept.foldl (Kept.refl _ _) (fun _ _ h5 => (Kept.step State.segRead_kept rfl h5)))
      extract_lets +onlyGivenNames -merge -useContext x6
      extract_lets +onlyGivenNames -merge -useContext x7
      have k8 : Kept 42983276816 a1 x7 := (Kept.step State.setFld_kept rfl (Kept.step State.wr_kept rfl k4))
      extract_lets +onlyGivenNames -merge -useContext x9
      have k10 : Kept 42983276816 a1 x9 := (Kept.step State.kstArrive_kept rfl k8)
      extract_lets +onlyGivenNames -merge -useContext x11
      have k12 : Kept 42983276816 a1 x11 := (Kept.step State.setS0_kept rfl k10)
      exact (Kept.step State.deliver_kept rfl (Kept.ite (Kept.step State.setPlay_kept rfl k12) (Kept.step State.addSat_kept rfl (Kept.step State.setPlay_kept rfl k12))))

theorem State.playDeliver_kept {s : State} {p : ℕ} : Kept 42983276816 s (State.playDeliver s p) := by
  unfold State.playDeliver
  split
  · exact (Kept.refl _ _)
  · split
    · exact (Kept.refl _ _)
    · exact (Kept.ite (Kept.step State.deliver_kept rfl (Kept.refl _ _)) (Kept.refl _ _))

theorem State.costMapDone_kept {s : State} : Kept 49408 s (State.costMapDone s) := by
  unfold State.costMapDone
  split
  · exact (Kept.refl _ _)
  · exact (Kept.step State.raise_kept rfl (Kept.step State.setFlag_kept rfl (Kept.step State.setFlag_kept rfl (Kept.step State.dramWrite_kept rfl (Kept.u256 (Kept.refl _ _) rfl)))))

theorem State.evacRefuse_kept {s : State} {c : ℕ} : Kept 1024 s (State.evacRefuse s c) := by
  unfold State.evacRefuse
  exact (Kept.step State.rejectCommit_kept rfl (Kept.step State.raise_kept rfl (Kept.step State.unitBack_kept rfl (Kept.refl _ _))))

theorem State.evacTurn_kept {l : List Nat} {s : State} : Kept 50432 s (State.evacTurn l s) := by
  induction l generalizing s with
  | nil => exact Kept.u256 (Kept.refl _ _) rfl
  | cons n l ih =>
    rw [State.evacTurn]
    split
    · dsimp only
      split
      · exact Kept.step State.evacStart_kept rfl (Kept.u256 (Kept.refl _ _) rfl)
      · exact Kept.trans (Kept.step State.evacRefuse_kept rfl (Kept.u256 (Kept.refl _ _) rfl)) ih
    · exact ih

theorem State.evacNext_kept {s : State} : Kept 50432 s (State.evacNext s) := by
  unfold State.evacNext
  exact (Kept.step State.evacTurn_kept rfl (Kept.refl _ _))

theorem State.evacFence_kept {s : State} {c : ℕ} : Kept 49152 s (State.evacFence s c) := by
  unfold State.evacFence
  exact (Kept.ite (Kept.step State.setUnit_kept rfl (Kept.step State.dropChannel_kept rfl (Kept.refl _ _))) (Kept.refl _ _))

theorem State.evacClear_kept {s : State} : Kept 256 s (State.evacClear s) := by
  unfold State.evacClear
  exact (Kept.u256 (Kept.refl _ _) rfl)

theorem State.evacDone_kept {s : State} : Kept 34376566020 s (State.evacDone s) := by
  unfold State.evacDone
  split
  · exact (Kept.refl _ _)
  · refine Kept.ite ?_ (Kept.refl _ _)
    extract_lets +onlyGivenNames -merge -useContext x1
    have k2 : Kept 34376566020 s x1 := (Kept.step State.chanServe_kept rfl (Kept.refl _ _))
    exact (Kept.ite (Kept.step State.evacNext_kept rfl (Kept.step State.evacFence_kept rfl (Kept.step State.raise_kept rfl (Kept.step State.evacClear_kept rfl k2)))) k2)

theorem State.odLoaded_kept {s : State} : Kept 2048 s (State.odLoaded s) := by
  unfold State.odLoaded
  split
  · exact (Kept.refl _ _)
  · extract_lets +onlyGivenNames -merge -useContext x1
    extract_lets +onlyGivenNames -merge -useContext x2
    have k3 : Kept 2048 s x2 := (Kept.step State.setFlag_kept rfl (Kept.u2048 (Kept.refl _ _) rfl))
    extract_lets +onlyGivenNames -merge -useContext x4
    clear_value x4
    split
    · exact (Kept.step State.raise_kept rfl (Kept.step State.setFld_kept rfl (Kept.u2048 k3 rfl)))
    · exact (Kept.step State.raise_kept rfl (Kept.step State.setFld_kept rfl k3))

theorem State.panelDone_kept {s : State} : Kept 2048 s (State.panelDone s) := by
  unfold State.panelDone
  exact (Kept.ite (Kept.step State.raise_kept rfl (Kept.u2048 (Kept.refl _ _) rfl)) (Kept.refl _ _))

theorem State.porst_kept {s : State} : Kept 261992939519 s (State.porst s) := by
  unfold State.porst
  exact (Kept.ite (Kept.step State.powerOn_kept rfl (Kept.refl _ _)) (Kept.u268435456 (Kept.step State.discharge_kept rfl (Kept.refl _ _)) rfl))

theorem State.chooseParent_kept {s : State} {x : ℕ} : Kept 4063233 s (State.chooseParent s x) := by
  unfold State.chooseParent
  extract_lets +onlyGivenNames -merge -useContext x1
  extract_lets +onlyGivenNames -merge -useContext x2
  clear_value x2
  split
  · exact (Kept.refl _ _)
  · extract_lets +onlyGivenNames -merge -useContext x3
    extract_lets +onlyGivenNames -merge -useContext x4
    have k5 : Kept 4063233 s x4 := (Kept.step State.setPtp_kept rfl (Kept.refl _ _))
    extract_lets +onlyGivenNames -merge -useContext x6
    have k7 : Kept 4063233 s x6 := (Kept.step State.wr_kept rfl (Kept.step State.wr_kept rfl (Kept.step State.wr_kept rfl k5)))
    extract_lets +onlyGivenNames -merge -useContext x8
    have k9 : Kept 4063233 s x8 := (Kept.step State.wr_kept rfl (Kept.step State.wr_kept rfl (Kept.step State.wr_kept rfl k7)))
    extract_lets +onlyGivenNames -merge -useContext x10
    have k11 : Kept 4063233 s x10 := (Kept.ite (Kept.step State.wr_kept rfl k9) k9)
    extract_lets +onlyGivenNames -merge -useContext x12
    have k13 : Kept 4063233 s x12 := (Kept.ite (Kept.step State.raise_kept rfl k11) k11)
    exact (Kept.ite (Kept.step State.setPtpState_kept rfl (Kept.step State.setPtp_kept rfl k13)) k13)

theorem State.announceIn_kept {s : State} {x : ℕ} {m : PtpMsg} {d : AnnounceData} : Kept 4063233 s (State.announceIn s x m d) := by
  unfold State.announceIn
  refine Kept.ite (Kept.refl _ _) ?_
  refine Kept.ite (Kept.step State.add_kept rfl (Kept.refl _ _)) ?_
  extract_lets +onlyGivenNames -merge -useContext x1
  have k2 : Kept 4063233 s x1 := (Kept.step State.add_kept rfl (Kept.refl _ _))
  extract_lets +onlyGivenNames -merge -useContext x3
  extract_lets +onlyGivenNames -merge -useContext x4
  extract_lets +onlyGivenNames -merge -useContext x5
  extract_lets +onlyGivenNames -merge -useContext x6
  extract_lets +onlyGivenNames -merge -useContext x7
  have k8 : Kept 4063233 s x7 := (Kept.step State.setPtp_kept rfl k2)
  extract_lets +onlyGivenNames -merge -useContext x9
  extract_lets +onlyGivenNames -merge -useContext x10
  have k11 : Kept 4063233 s x10 := (Kept.step State.chooseParent_kept rfl k8)
  exact (Kept.ite k11 (Kept.step State.setPtp_kept rfl k11))

theorem State.syncIn_kept {s : State} {x : ℕ} {m : PtpMsg} : Kept 4063233 s (State.syncIn s x m) := by
  unfold State.syncIn
  refine Kept.ite (Kept.refl _ _) ?_
  extract_lets +onlyGivenNames -merge -useContext x1
  have k2 : Kept 4063233 s x1 := (Kept.ite (Kept.refl _ _) (Kept.step State.add_kept rfl (Kept.refl _ _)))
  refine Kept.ite k2 ?_
  refine Kept.ite (Kept.step State.add_kept rfl k2) ?_
  refine Kept.ite k2 ?_
  extract_lets +onlyGivenNames -merge -useContext x3
  have k4 : Kept 4063233 s x3 := (Kept.step State.add_kept rfl k2)
  extract_lets +onlyGivenNames -merge -useContext x5
  have k6 : Kept 4063233 s x5 := (Kept.ite (Kept.step State.add_kept rfl k4) k4)
  extract_lets +onlyGivenNames -merge -useContext x7
  extract_lets +onlyGivenNames -merge -useContext x8
  extract_lets +onlyGivenNames -merge -useContext x9
  extract_lets +onlyGivenNames -merge -useContext x10
  have k11 : Kept 4063233 s x10 := (Kept.step State.setFlag_kept rfl (Kept.step State.setPtp_kept rfl k6))
  exact (Kept.ite (Kept.step State.setPtp_kept rfl k11) (Kept.step State.syncSample_kept rfl k11))

theorem State.ptpTimeout_kept {s : State} {x : ℕ} : Kept 4063233 s (State.ptpTimeout s x) := by
  unfold State.ptpTimeout
  extract_lets +onlyGivenNames -merge -useContext x1
  extract_lets +onlyGivenNames -merge -useContext x2
  extract_lets +onlyGivenNames -merge -useContext x3
  refine Kept.ite ?_ (Kept.ite (Kept.step State.enterHold_kept rfl (Kept.refl _ _)) (Kept.refl _ _))
  extract_lets +onlyGivenNames -merge -useContext x4
  have k5 : Kept 4063233 s x4 := (Kept.step State.raise_kept rfl (Kept.refl _ _))
  extract_lets +onlyGivenNames -merge -useContext x6
  extract_lets +onlyGivenNames -merge -useContext x7
  extract_lets +onlyGivenNames -merge -useContext x8
  have k9 : Kept 4063233 s x8 := (Kept.ite (Kept.step State.setPtp_kept rfl k5) k5)
  extract_lets +onlyGivenNames -merge -useContext x10
  have k11 : Kept 4063233 s x10 := (Kept.ite (Kept.step State.chooseParent_kept rfl k9) k9)
  extract_lets +onlyGivenNames -merge -useContext x12
  have k13 : Kept 4063233 s x12 := (Kept.ite (Kept.step State.setPtpState_kept rfl k11) (Kept.ite (Kept.step State.setPtpState_kept rfl k11) k11))
  exact (Kept.ite (Kept.step State.enterHold_kept rfl k13) k13)

theorem State.brace_kept {s : State} {v : ℕ} : Kept 268435460 s (State.brace s v) := by
  unfold State.brace
  exact (Kept.ite (Kept.step State.hkLog_kept rfl (Kept.step State.raise_kept rfl (Kept.step State.add_kept rfl (Kept.u268435456 (Kept.step State.setFld_kept rfl (Kept.refl _ _)) rfl)))) (Kept.refl _ _))

theorem State.fail_kept {s : State} {v : ℕ} : Kept 62805442559 s (State.fail s v) := by
  unfold State.fail
  refine Kept.ite ?_ (Kept.refl _ _)
  extract_lets +onlyGivenNames -merge -useContext x1
  have k2 : Kept 62805442559 s x1 := (Kept.step State.raise_kept rfl (Kept.step State.add_kept rfl (Kept.step State.setFld_kept rfl (Kept.refl _ _))))
  exact (Kept.ite (Kept.step State.hkLog_kept rfl k2) (Kept.step State.orderedStop_kept rfl k2))

theorem State.holdMeasured_kept {s : State} : Kept 34628173824 s (State.holdMeasured s) := by
  unfold State.holdMeasured
  split
  · exact (Kept.ite (Kept.step State.raise_kept rfl (Kept.step State.holdEnd_kept rfl (Kept.refl _ _))) (Kept.refl _ _))
  · exact (Kept.refl _ _)

theorem State.normal_kept {s : State} : Kept 4 s (State.normal s) := by
  unfold State.normal
  exact (Kept.ite (Kept.step State.hkLog_kept rfl (Kept.step State.raise_kept rfl (Kept.step State.setFld_kept rfl (Kept.refl _ _)))) (Kept.refl _ _))

theorem State.stepLine0_kept {s : State} : Kept 1 s (State.stepLine0 s) := by
  unfold State.stepLine0
  exact (Kept.ite (Kept.refl _ _) (Kept.ite (Kept.u1 (Kept.refl _ _) rfl) (Kept.u1 (Kept.refl _ _) rfl)))

theorem State.fadeSkip_kept {s : State} {lit : Bool} : Kept 4097 s (State.fadeSkip s lit) := by
  unfold State.fadeSkip
  exact (Kept.ite (Kept.u1 (Kept.ite (Kept.refl _ _) (Kept.step State.hostRecord_kept rfl (Kept.refl _ _))) rfl) (Kept.refl _ _))

theorem State.targetRetag_kept {s : State} {a : ℕ} {b : ℕ} : Kept 1 s (State.targetRetag s a b) := by
  unfold State.targetRetag
  extract_lets +onlyGivenNames -merge -useContext x1
  extract_lets +onlyGivenNames -merge -useContext x2
  have k3 : Kept 1 s x2 := (Kept.u1 (Kept.refl _ _) rfl)
  exact (Kept.ite (Kept.step State.setFld_kept rfl k3) k3)

theorem State.lensRetag_kept {s : State} {a : ℕ} {b : ℕ} : Kept 2048 s (State.lensRetag s a b) := by
  unfold State.lensRetag
  exact (Kept.u2048 (Kept.refl _ _) rfl)

theorem State.retag_kept {s : State} {a : ℕ} {b : ℕ} : Kept 5824 s (State.retag s a b) := by
  unfold State.retag
  exact (Kept.ite (Kept.refl _ _) (Kept.u5824 (Kept.refl _ _) rfl))

theorem State.relabelled_kept {s : State} {a : ℕ} {b : ℕ} : Kept 7873 s (State.relabelled s a b) := by
  unfold State.relabelled
  exact (Kept.ite (Kept.refl _ _) (Kept.step State.targetRetag_kept rfl (Kept.step State.lensRetag_kept rfl (Kept.step State.retag_kept rfl (Kept.refl _ _)))))

theorem State.reportPhase_kept {s : State} : Kept 0 s (State.reportPhase s) := by
  unfold State.reportPhase
  exact (Kept.step State.wr_kept rfl (Kept.refl _ _))

theorem State.relabel_kept {s : State} {f : ℕ} : Kept 3 s (State.relabel s f) := by
  unfold State.relabel
  exact (Kept.step State.crvSweep_kept rfl (Kept.step State.add_kept rfl (Kept.u1 (Kept.refl _ _) rfl)))

theorem State.line0Lock_kept {s : State} {lit : Bool} : Kept 3 s (State.line0Lock s lit) := by
  unfold State.line0Lock
  extract_lets +onlyGivenNames -merge -useContext x1
  extract_lets +onlyGivenNames -merge -useContext x2
  extract_lets +onlyGivenNames -merge -useContext x3
  extract_lets +onlyGivenNames -merge -useContext x4
  extract_lets +onlyGivenNames -merge -useContext x5
  have k6 : Kept 3 s x5 := (Kept.ite (Kept.step State.relabel_kept rfl (Kept.refl _ _)) (Kept.refl _ _))
  extract_lets +onlyGivenNames -merge -useContext x7
  extract_lets +onlyGivenNames -merge -useContext x8
  have k9 : Kept 3 s x8 := (Kept.ite (Kept.u1 k6 rfl) k6)
  extract_lets +onlyGivenNames -merge -useContext x10
  extract_lets +onlyGivenNames -merge -useContext x11
  have k12 : Kept 3 s x11 := (Kept.step State.reportPhase_kept rfl k9)
  extract_lets +onlyGivenNames -merge -useContext x13
  extract_lets +onlyGivenNames -merge -useContext x14
  extract_lets +onlyGivenNames -merge -useContext x15
  have k16 : Kept 3 s x15 := (Kept.u1 k12 rfl)
  exact (Kept.ite (Kept.ite (Kept.step State.setLock_kept rfl k16) k16) (Kept.ite (Kept.ite (Kept.step State.setLock_kept rfl k16) (Kept.ite (Kept.u1 k16 rfl) (Kept.u1 k16 rfl))) k16))

theorem State.layerTraffic_kept {s : State} : Kept 8589934592 s (State.layerTraffic s) := by
  unfold State.layerTraffic
  split
  · exact (Kept.refl _ _)
  · exact (Kept.foldl (Kept.refl _ _) (fun _ _ h1 => (Kept.ite (Kept.step State.add_kept rfl (Kept.step State.wr_kept rfl (Kept.step State.wr_kept rfl (Kept.step State.draw_kept rfl (Kept.step State.draw_kept rfl h1))))) h1)))

theorem State.hostCut_kept {s : State} : Kept 0 s (State.hostCut s) := by
  unfold State.hostCut
  exact (Kept.ite (Kept.step State.setFlag_kept rfl (Kept.refl _ _)) (Kept.refl _ _))

theorem State.transFadeIn_kept {s : State} : Kept 4096 s (State.transFadeIn s) := by
  unfold State.transFadeIn
  exact (Kept.step State.fadeFrom_kept rfl (Kept.step State.hostCut_kept rfl (Kept.refl _ _)))

theorem State.firstLight_kept {s : State} : Kept 34359744512 s (State.firstLight s) := by
  unfold State.firstLight
  refine Kept.ite ?_ (Kept.refl _ _)
  extract_lets +onlyGivenNames -merge -useContext x1
  extract_lets +onlyGivenNames -merge -useContext x2
  have k3 : Kept 34359744512 s x2 := (Kept.step State.bklHold_kept rfl (Kept.u2048 (Kept.refl _ _) rfl))
  exact (Kept.ite (Kept.step State.transFadeIn_kept rfl k3) k3)

theorem State.pnlFrame_kept {s : State} : Kept 34359744512 s (State.pnlFrame s) := by
  unfold State.pnlFrame
  exact (Kept.step State.firstLight_kept rfl (Kept.u2048 (Kept.refl _ _) rfl))

theorem State.lensMapUpdate_kept {s : State} : Kept 1024 s (State.lensMapUpdate s) := by
  unfold State.lensMapUpdate
  extract_lets +onlyGivenNames -merge -useContext x1
  extract_lets +onlyGivenNames -merge -useContext x2
  extract_lets +onlyGivenNames -merge -useContext x3
  extract_lets +onlyGivenNames -merge -useContext x5
  extract_lets +onlyGivenNames -merge -useContext x7
  have k8 : Kept 1024 s x7 := by
    unfold x7
    refine Kept.foldl (Kept.refl _ _) (fun a11 b12 h13 => ?_)
    unfold x3
    extract_lets +onlyGivenNames -merge -useContext x14
    extract_lets +onlyGivenNames -merge -useContext x15
    extract_lets +onlyGivenNames -merge -useContext x16
    extract_lets +onlyGivenNames -merge -useContext x17
    extract_lets +onlyGivenNames -merge -useContext x18
    extract_lets +onlyGivenNames -merge -useContext x19
    extract_lets +onlyGivenNames -merge -useContext x20
    extract_lets +onlyGivenNames -merge -useContext x21
    have k22 : Kept 1024 s x21 := (Kept.u1024 h13 rfl)
    exact (Kept.ite k22 (Kept.step State.raise_kept rfl (Kept.step State.add_kept rfl k22)))
  exact (Kept.step State.wr_kept rfl (Kept.foldl (Kept.u1024 k8 rfl) (fun _ _ h23 => (Kept.step State.wr_kept rfl (Kept.step State.wr_kept rfl h23)))))

theorem State.rollFills_kept {s : State} : Kept 256 s (State.rollFills s) := by
  unfold State.rollFills
  exact (Kept.u256 (Kept.refl _ _) rfl)

theorem State.snapFrame_kept {s : State} : Kept 512 s (State.snapFrame s) := by
  unfold State.snapFrame
  split
  · exact (Kept.ite (Kept.step State.setFlag_kept rfl (Kept.step State.setFld_kept rfl (Kept.u512 (Kept.refl _ _) rfl))) (Kept.ite (Kept.step State.setFld_kept rfl (Kept.u512 (Kept.refl _ _) rfl)) (Kept.refl _ _)))
  · exact (Kept.refl _ _)

theorem State.oasFrame_kept {s : State} : Kept 512 s (State.oasFrame s) := by
  unfold State.oasFrame
  exact (Kept.ite (Kept.u512 (Kept.refl _ _) rfl) (Kept.step State.oasClear_kept rfl (Kept.u512 (Kept.refl _ _) rfl)))

theorem State.brcFrame_kept {s : State} : Kept 576 s (State.brcFrame s) := by
  unfold State.brcFrame
  extract_lets +onlyGivenNames -merge -useContext x1
  extract_lets +onlyGivenNames -merge -useContext x2
  have k3 : Kept 576 s x2 := (Kept.step State.wr_kept rfl (Kept.refl _ _))
  extract_lets +onlyGivenNames -merge -useContext x4
  have k5 : Kept 576 s x4 := (Kept.ite (Kept.step State.raise_kept rfl k3) k3)
  extract_lets +onlyGivenNames -merge -useContext x6
  extract_lets +onlyGivenNames -merge -useContext x7
  have k8 : Kept 576 s x7 := (Kept.step State.wr_kept rfl k5)
  exact (Kept.step State.snapFrame_kept rfl (Kept.step State.oasFrame_kept rfl (Kept.u576 (Kept.ite (Kept.step State.raise_kept rfl k8) k8) rfl)))

theorem State.showStripes_kept {s : State} : Kept 256 s (State.showStripes s) := by
  unfold State.showStripes
  exact (Kept.u256 (Kept.refl _ _) rfl)

theorem State.applyNextTiming_kept {s : State} : Kept 3 s (State.applyNextTiming s) := by
  unfold State.applyNextTiming
  split
  · extract_lets +onlyGivenNames -merge -useContext x1
    extract_lets +onlyGivenNames -merge -useContext x2
    have k3 : Kept 3 s x2 := (Kept.u1 (Kept.refl _ _) rfl)
    exact (Kept.ite k3 (Kept.step State.crvSweep_kept rfl k3))
  · exact (Kept.refl _ _)

theorem State.frameReports_kept {s : State} {f : ℕ} : Kept 24 s (State.frameReports s f) := by
  unfold State.frameReports
  exact (Kept.u24 (Kept.foldl (Kept.refl _ _) (fun _ _ h1 => (Kept.ite h1 (Kept.step State.setSess_kept rfl h1)))) rfl)

theorem State.snapMissed_kept {s : State} : Kept 4194304 s (State.snapMissed s) := by
  unfold State.snapMissed
  extract_lets +onlyGivenNames -merge -useContext x1
  extract_lets +onlyGivenNames -merge -useContext x2
  extract_lets +onlyGivenNames -merge -useContext x3
  have k4 : Kept 4194304 s x3 := (Kept.u4194304 (Kept.refl _ _) rfl)
  exact (Kept.ite (Kept.step State.fovArm_kept rfl (Kept.step State.raise_kept rfl (Kept.step State.add_kept rfl (Kept.u4194304 k4 rfl)))) k4)

theorem State.snapUnsent_kept {s : State} : Kept 4194304 s (State.snapUnsent s) := by
  unfold State.snapUnsent
  exact (Kept.u4194304 (Kept.ite (Kept.refl _ _) (Kept.step State.snapMissed_kept rfl (Kept.refl _ _))) rfl)

theorem State.crvFrameEnd_kept {s : State} : Kept 2 s (State.crvFrameEnd s) := by
  unfold State.crvFrameEnd
  exact (Kept.u2 (Kept.refl _ _) rfl)

theorem State.toStep_kept {s : State} {k : ℕ} {e : Option ℕ} : Kept 1 s (State.toStep s k e) := by
  unfold State.toStep
  exact (Kept.u1 (Kept.refl _ _) rfl)

theorem State.waitFor_kept {s : State} {k : ℕ} {a : ℕ} : Kept 8 s (State.waitFor s k a) := by
  unfold State.waitFor
  exact (Kept.ite (Kept.refl _ _) (Kept.step State.setWanted_kept rfl (Kept.refl _ _)))

theorem State.costDone_kept {s : State} {t : Tile} : Kept 256 s (State.costDone s t) := by
  unfold State.costDone
  exact (Kept.step State.recordCost_kept rfl (Kept.refl _ _))

theorem State.completeTile_kept {s : State} {t : Tile} : Kept 8589935488 s (State.completeTile s t) := by
  unfold State.completeTile
  exact (Kept.u512 (Kept.step State.setTile_kept rfl (Kept.step State.endRun_kept rfl (Kept.step State.costDone_kept rfl (Kept.step State.countTile_kept rfl (Kept.refl _ _))))) rfl)

theorem State.showSamples_kept {s : State} {t : Tile} : Kept 0 s (State.showSamples s t) := by
  unfold State.showSamples
  split
  · exact (Kept.step State.wr_kept rfl (Kept.refl _ _))
  · exact (Kept.refl _ _)

theorem State.countRay_kept {s : State} {r : RayResult} {cells : ℕ} {samples : ℕ} : Kept 0 s (State.countRay s r cells samples) := by
  unfold State.countRay
  exact (Kept.step State.add_kept rfl (Kept.step State.add_kept rfl (Kept.step State.add_kept rfl (Kept.step State.add_kept rfl (Kept.step State.add64_kept rfl (Kept.step State.add64_kept rfl (Kept.refl _ _)))))))

theorem State.useSlots_kept {s : State} {k : ℕ} {l : List ℕ} : Kept 8 s (State.useSlots s k l) := by
  unfold State.useSlots
  exact (Kept.u8 (Kept.step State.setWindow_kept rfl (Kept.refl _ _)) rfl)

theorem State.admitRay_kept {s : State} {t : Tile} {ps : SynSet} {l : LaySet} {sub : ℕ} {line : ℕ} : Kept 8589935496 s (State.admitRay s t ps l sub line) := by
  unfold State.admitRay
  extract_lets +onlyGivenNames -merge -useContext x1
  extract_lets +onlyGivenNames -merge -useContext x2
  extract_lets +onlyGivenNames -merge -useContext x3
  refine Kept.ite (Kept.refl _ _) ?_
  split
  · exact (Kept.foldl (Kept.step State.add_kept rfl (Kept.refl _ _)) (fun _ _ h4 => (Kept.step State.waitFor_kept rfl h4)))
  · exact (Kept.step State.dropTile_kept rfl (Kept.refl _ _))
  · split
    · exact (Kept.refl _ _)
    · extract_lets +onlyGivenNames -merge -useContext x5
      extract_lets +onlyGivenNames -merge -useContext x6
      extract_lets +onlyGivenNames -merge -useContext x7
      have k8 : Kept 8589935496 s x7 := (Kept.step State.useSlots_kept rfl (Kept.refl _ _))
      extract_lets +onlyGivenNames -merge -useContext x9
      have k10 : Kept 8589935496 s x9 := (Kept.step State.countRay_kept rfl k8)
      extract_lets +onlyGivenNames -merge -useContext x11
      extract_lets +onlyGivenNames -merge -useContext x12
      extract_lets +onlyGivenNames -merge -useContext x13
      extract_lets +onlyGivenNames -merge -useContext x14
      extract_lets +onlyGivenNames -merge -useContext x15
      have k16 : Kept 8589935496 s x15 := (Kept.step State.showSamples_kept rfl (Kept.step State.setTile_kept rfl k10))
      exact (Kept.ite (Kept.step State.completeTile_kept rfl k16) k16)

theorem State.rayArrive_kept {s : State} {h : Hold} {sub : ℕ} {line : ℕ} : Kept 8589935496 s (State.rayArrive s h sub line) := by
  unfold State.rayArrive
  refine Kept.ite (Kept.refl _ _) ?_
  split
  · exact (Kept.step State.add_kept rfl (Kept.refl _ _))
  · refine Kept.ite (Kept.step State.add_kept rfl (Kept.refl _ _)) ?_
    refine Kept.ite ?_ ?_
    · extract_lets +onlyGivenNames -merge -useContext x1
      have k2 : Kept 8589935496 s x1 := (Kept.step State.add_kept rfl (Kept.refl _ _))
      exact (Kept.ite k2 (Kept.step State.raise_kept rfl (Kept.u512 k2 rfl)))
    · split
      · exact (Kept.step State.admitRay_kept rfl (Kept.refl _ _))
      · exact (Kept.refl _ _)

theorem State.writeAccess_kept {s : State} {who : Requester} {addr : ℕ} {size : ℕ} {data : BitVec 64} : Kept 64416055295 s (State.writeAccess s who addr size data) := by
  unfold State.writeAccess
  exact (Kept.ite (Kept.step State.writeWord_kept rfl (Kept.step settle_kept rfl (Kept.step State.writeWord_kept rfl (Kept.refl _ _)))) (Kept.step State.writeWord_kept rfl (Kept.refl _ _)))

theorem State.regSwitch_kept {s : State} {i : ℕ} {on : Bool} : Kept 34359738368 s (State.regSwitch s i on) := by
  unfold State.regSwitch
  exact (Kept.ite (Kept.step State.emit_kept rfl (Kept.refl _ _)) (Kept.refl _ _))

theorem State.regStart_kept {s : State} {k : ℕ} : Kept 34628173824 s (State.regStart s k) := by
  unfold State.regStart
  split
  · exact (Kept.u268435456 (Kept.step State.regSwitch_kept rfl (Kept.refl _ _)) rfl)
  · exact (Kept.u268435456 (Kept.refl _ _) rfl)

theorem State.regAnswer_kept {s : State} {i : ℕ} {sent : ℕ} {status : PmbRead} : Kept 34359738368 s (State.regAnswer s i sent status).1 := by
  unfold State.regAnswer
  extract_lets +onlyGivenNames -merge -useContext x1
  extract_lets +onlyGivenNames -merge -useContext x2
  have k3 : Kept 34359738368 s x2 := (Kept.step State.pmbRetry_kept rfl (Kept.refl _ _))
  exact (Kept.ite (Kept.step State.pmbSend_kept rfl k3) k3)

theorem State.regulatorOn_kept {s : State} {sent : ℕ} {status : PmbRead} {feeds : List ℕ} : Kept 34628173828 s (State.regulatorOn s sent status feeds) := by
  unfold State.regulatorOn
  split
  · exact (Kept.refl _ _)
  · split
    · exact (Kept.refl _ _)
    · refine Kept.ite ?_ (Kept.refl _ _)
      extract_lets +onlyGivenNames -merge -useContext x1
      have k2 : Kept 34628173828 s x1.1 := (Kept.step State.regAnswer_kept rfl (Kept.refl _ _))
      extract_lets +onlyGivenNames -merge -useContext x3
      have k4 : Kept 34628173828 s x3 := k2
      extract_lets +onlyGivenNames -merge -useContext x5
      extract_lets +onlyGivenNames -merge -useContext x6
      have k7 : Kept 34628173828 s x6 := (Kept.u268435456 k4 rfl)
      exact (Kept.step State.regStart_kept rfl (Kept.ite k7 (Kept.step State.regFault_kept rfl (Kept.u268435456 k7 rfl))))

theorem State.firstGrant_kept {s : State} : Kept 34363932672 s (State.firstGrant s) := by
  unfold State.firstGrant
  exact (Kept.ite (Kept.step State.emit_kept rfl (Kept.u4194304 (Kept.refl _ _) rfl)) (Kept.refl _ _))

theorem State.resetRelease_kept {s : State} {kat : List Bool} {testMode : Bool} : Kept 44430262276 s (State.resetRelease s kat testMode) := by
  unfold State.resetRelease
  refine Kept.ite ?_ (Kept.refl _ _)
  extract_lets +onlyGivenNames -merge -useContext x1
  have k2 : Kept 44430262276 s x1 := (Kept.step State.firstGrant_kept rfl (Kept.refl _ _))
  extract_lets +onlyGivenNames -merge -useContext x3
  extract_lets +onlyGivenNames -merge -useContext x4
  extract_lets +onlyGivenNames -merge -useContext x5
  have k6 : Kept 44430262276 s x5 := (Kept.u1342177280 k2 rfl)
  refine Kept.ite k6 ?_
  refine Kept.ite (Kept.step State.enterRecovery_kept rfl k6) ?_
  extract_lets +onlyGivenNames -merge -useContext x7
  have k8 : Kept 44430262276 s x7 := (Kept.step State.trialStart_kept rfl k6)
  split
  · exact (Kept.step State.enterRecovery_kept rfl k8)
  · extract_lets +onlyGivenNames -merge -useContext x9
    have k10 : Kept 44430262276 s x9 := (Kept.step State.mgStarted_kept rfl (Kept.step State.runImage_kept rfl k8))
    exact (Kept.foldl (Kept.u268435460 (Kept.ite k10 (Kept.step State.logShow_kept rfl k10)) rfl) (fun _ _ h11 => (Kept.step State.stage_kept rfl h11)))

theorem State.abandon_kept {s : State} {u : ℕ} : Kept 8589934592 s (State.abandon s u) := by
  unfold State.abandon
  extract_lets +onlyGivenNames -merge -useContext x1
  extract_lets +onlyGivenNames -merge -useContext x2
  extract_lets +onlyGivenNames -merge -useContext x3
  have k4 : Kept 8589934592 s x3.2.2 := (Kept.step State.cutShort_kept rfl (Kept.refl _ _))
  extract_lets +onlyGivenNames -merge -useContext x5
  have k6 : Kept 8589934592 s x5 := (Kept.step State.countRun_kept rfl k4)
  exact (Kept.step State.showTile_kept rfl (Kept.ite (Kept.step State.add_kept rfl k6) k6))

theorem State.stopRun_kept {s : State} {u : ℕ} {h : Hold} : Kept 8589935232 s (State.stopRun s u h) := by
  unfold State.stopRun
  extract_lets +onlyGivenNames -merge -useContext x1
  have k2 : Kept 8589935232 s x1 := by
    unfold x1
    split
    · exact (Kept.ite (Kept.step State.showTile_kept rfl (Kept.step State.setTile_kept rfl (Kept.step State.countTile_kept rfl (Kept.refl _ _)))) (Kept.step State.abandon_kept rfl (Kept.refl _ _)))
    · exact (Kept.step State.abandon_kept rfl (Kept.refl _ _))
  exact (Kept.step State.setCl_kept rfl k2)

theorem State.residueFailure_kept {s : State} {u : ℕ} : Kept 8594129540 s (State.residueFailure s u) := by
  unfold State.residueFailure
  refine Kept.ite ?_ (Kept.refl _ _)
  split
  · exact (Kept.refl _ _)
  · exact (Kept.step State.raise_kept rfl (Kept.step State.unitFault_kept rfl (Kept.step State.clusterLeft_kept rfl (Kept.step State.add_kept rfl (Kept.step State.stopRun_kept rfl (Kept.refl _ _))))))

theorem State.restartAfterStop_kept {s : State} : Kept 261992939519 s (State.restartAfterStop s) := by
  unfold State.restartAfterStop
  split
  · exact (Kept.ite (Kept.step State.powerOn_kept rfl (Kept.refl _ _)) (Kept.refl _ _))
  · exact (Kept.refl _ _)

theorem State.revokeArrive_kept {s : State} {u : ℕ} : Kept 8589934720 s (State.revokeArrive s u) := by
  unfold State.revokeArrive
  split
  · exact (Kept.refl _ _)
  · exact (Kept.step State.add_kept rfl (Kept.step State.setCl_kept rfl (Kept.ite (Kept.step State.setCl_kept rfl (Kept.step State.abandon_kept rfl (Kept.refl _ _))) (Kept.refl _ _))))

theorem State.queryDone_kept {s : State} : Kept 8 s (State.queryDone s) := by
  unfold State.queryDone
  split
  · exact (Kept.refl _ _)
  · exact (Kept.step State.raise_kept rfl (Kept.step State.setFlag_kept rfl (Kept.u8 (Kept.step State.wr_kept rfl (Kept.foldl (Kept.refl _ _) (fun _ _ h1 => (Kept.step State.wr_kept rfl h1)))) rfl)))

theorem State.storeRelease_kept {s : State} : Kept 8 s (State.storeRelease s) := by
  unfold State.storeRelease
  exact (Kept.ite (Kept.u8 (Kept.refl _ _) rfl) (Kept.refl _ _))

theorem State.scrubRead_kept {s : State} {c : ℕ} {err : ℕ} {bit : ℕ} : Kept 8606744580 s (State.scrubRead s c err bit) := by
  unfold State.scrubRead
  refine Kept.ite ?_ (Kept.refl _ _)
  extract_lets +onlyGivenNames -merge -useContext x1
  extract_lets +onlyGivenNames -merge -useContext x2
  extract_lets +onlyGivenNames -merge -useContext x3
  split
  · rename_i r4 r5 r6
    have k7 : Kept 8606744580 s r5 := by
      show Kept 8606744580 s (r4, r5).2
      rw [← r6]
      exact (Kept.step State.draw_kept rfl (Kept.refl _ _))
    extract_lets +onlyGivenNames -merge -useContext x8
    have k9 : Kept 8606744580 s x8 := (Kept.ite k7 (Kept.step State.readLine_kept rfl k7))
    extract_lets +onlyGivenNames -merge -useContext x10
    extract_lets +onlyGivenNames -merge -useContext x11
    have k12 : Kept 8606744580 s x11 := (Kept.step State.setChan_kept rfl k9)
    exact (Kept.ite (Kept.step State.add_kept rfl k12) k12)

theorem State.katDone_kept {s : State} {res : List Bool} : Kept 1073741824 s (State.katDone s res) := by
  unfold State.katDone
  refine Kept.ite ?_ (Kept.refl _ _)
  extract_lets +onlyGivenNames -merge -useContext x1
  have k2 : Kept 1073741824 s x1 := (Kept.step State.setFlag_kept rfl (Kept.refl _ _))
  extract_lets +onlyGivenNames -merge -useContext x3
  extract_lets +onlyGivenNames -merge -useContext x4
  have k5 : Kept 1073741824 s x4 := (Kept.u1073741824 k2 rfl)
  exact (Kept.ite k5 (Kept.step State.raise_kept rfl k5))

theorem State.transFadeOut_kept {s : State} : Kept 4096 s (State.transFadeOut s) := by
  unfold State.transFadeOut
  exact (Kept.step State.fadeFrom_kept rfl (Kept.step State.hostCut_kept rfl (Kept.step State.hostRecord_kept rfl (Kept.refl _ _))))

theorem State.shdnBegin_kept {s : State} : Kept 268439552 s (State.shdnBegin s) := by
  unfold State.shdnBegin
  exact (Kept.u268435456 (Kept.step State.transFadeOut_kept rfl (Kept.refl _ _)) rfl)

theorem State.shdnReq_kept {s : State} : Kept 268439552 s (State.shdnReq s) := by
  unfold State.shdnReq
  extract_lets +onlyGivenNames -merge -useContext x1
  extract_lets +onlyGivenNames -merge -useContext x2
  have k3 : Kept 268439552 s x2 := (Kept.u268435456 (Kept.refl _ _) rfl)
  exact (Kept.ite (Kept.step State.shdnBegin_kept rfl k3) k3)

theorem State.shdnRelease_kept {s : State} : Kept 261992939519 s (State.shdnRelease s) := by
  unfold State.shdnRelease
  extract_lets +onlyGivenNames -merge -useContext x1
  extract_lets +onlyGivenNames -merge -useContext x2
  have k3 : Kept 261992939519 s x2 := (Kept.u268435456 (Kept.refl _ _) rfl)
  exact (Kept.ite (Kept.step State.powerOn_kept rfl k3) k3)

theorem State.shdnTests_kept {s : State} : Kept 45600473088 s (State.shdnTests s) := by
  unfold State.shdnTests
  extract_lets +onlyGivenNames -merge -useContext x1
  have k2 : Kept 45600473088 s x1 := (Kept.foldl (Kept.refl _ _) (fun _ _ h3 => (Kept.step State.playStop_kept rfl h3)))
  extract_lets +onlyGivenNames -merge -useContext x4
  have k5 : Kept 45600473088 s x4 := (Kept.foldl k2 (fun _ _ h6 => (Kept.ite (Kept.step State.driveRemove_kept rfl h6) h6)))
  extract_lets +onlyGivenNames -merge -useContext x7
  extract_lets +onlyGivenNames -merge -useContext x8
  extract_lets +onlyGivenNames -merge -useContext x9
  have k10 : Kept 45600473088 s x9 := (Kept.u402653184 k5 rfl)
  extract_lets +onlyGivenNames -merge -useContext x11
  have k12 : Kept 45600473088 s x11 := (Kept.foldl k10 (fun _ _ h13 => (Kept.step State.setFld_kept rfl h13)))
  exact (Kept.ite (Kept.step State.bistFill_kept rfl (Kept.u2147483648 k12 rfl)) k12)

theorem State.shutdownBist_kept {s : State} : Kept 45600479232 s (State.shutdownBist s) := by
  unfold State.shutdownBist
  exact (Kept.ite (Kept.refl _ _) (Kept.ite (Kept.ite (Kept.ite (Kept.u268435456 (Kept.step State.panelDown_kept rfl (Kept.refl _ _)) rfl) (Kept.ite (Kept.step State.shdnTests_kept rfl (Kept.refl _ _)) (Kept.refl _ _))) (Kept.refl _ _)) (Kept.ite (Kept.step State.shdnTests_kept rfl (Kept.refl _ _)) (Kept.refl _ _))))

theorem State.regsOff_kept {a0 : List ℕ} {a1 : State} : Kept 34628173824 a1 (State.regsOff a0 a1) := by
  unfold State.regsOff
  split
  · exact (Kept.u268435456 (Kept.refl _ _) rfl)
  · exact (Kept.ite (Kept.step State.regsOff_kept rfl (Kept.u268435456 (Kept.step State.regSwitch_kept rfl (Kept.refl _ _)) rfl)) (Kept.u268435456 (Kept.refl _ _) rfl))

theorem State.shdnRegs_kept {s : State} : Kept 34628173824 s (State.shdnRegs s) := by
  unfold State.shdnRegs
  extract_lets +onlyGivenNames -merge -useContext x1
  have k2 : Kept 34628173824 s x1 := (Kept.step State.regsOff_kept rfl (Kept.refl _ _))
  exact (Kept.ite (Kept.u268435456 (Kept.step State.emit_kept rfl k2) rfl) k2)

theorem State.recordWrite_kept {s : State} {r : Results} : Kept 36507222016 s (State.recordWrite s r) := by
  unfold State.recordWrite
  split
  · exact (Kept.step State.emit_kept rfl (Kept.u2147483648 (Kept.refl _ _) rfl))

theorem State.shutdownComplete_kept {s : State} : Kept 54215507967 s (State.shutdownComplete s) := by
  unfold State.shutdownComplete
  exact (Kept.ite (Kept.refl _ _) (Kept.ite (Kept.step State.shdnRegs_kept rfl (Kept.refl _ _)) (Kept.ite (Kept.step State.shdnRegs_kept rfl (Kept.u268435456 (Kept.foldl (Kept.step State.allOff_kept rfl (Kept.step State.logAppend_kept rfl (Kept.ite (Kept.ite (Kept.step State.recordWrite_kept rfl (Kept.refl _ _)) (Kept.step State.refuseStore_kept rfl (Kept.refl _ _))) (Kept.refl _ _)))) (fun _ _ h1 => (Kept.step State.emit_kept rfl h1))) rfl)) (Kept.refl _ _))))

theorem State.sliceLost_kept {s : State} {k : ℕ} : Kept 904 s (State.sliceLost s k) := by
  unfold State.sliceLost
  extract_lets +onlyGivenNames -merge -useContext x3
  refine Kept.ite ?_ (Kept.refl _ _)
  extract_lets +onlyGivenNames -merge -useContext x10
  extract_lets +onlyGivenNames -merge -useContext x13
  extract_lets +onlyGivenNames -merge -useContext x16
  extract_lets +onlyGivenNames -merge -useContext x19
  extract_lets +onlyGivenNames -merge -useContext x22
  have k23 : Kept 904 s x22 := (Kept.foldl (Kept.refl _ _) (fun _ _ h24 => (Kept.step State.clusterLeft_kept rfl h24)))
  extract_lets +onlyGivenNames -merge -useContext x26
  have k27 : Kept 904 s x26 := by
    unfold x26
    refine Kept.foldl k23 (fun a30 b31 h32 => ?_)
    refine Kept.step State.unclaim_kept rfl ?_
    split
    · exact (Kept.step State.setCl_kept rfl h32)
    · exact h32
  exact (Kept.step State.pinLost_kept rfl (Kept.step State.raise_kept rfl (Kept.step State.add_kept rfl (Kept.step State.setWindow_kept rfl (Kept.u768 k27 rfl)))))

theorem State.sliceFails_kept {s : State} {k : ℕ} : Kept 4194308 s (State.sliceFails s k) := by
  unfold State.sliceFails
  exact (Kept.ite (Kept.step State.unitFault_kept rfl (Kept.refl _ _)) (Kept.refl _ _))

theorem State.snapReceive_kept {s : State} {good : Bool} : Kept 4194308 s (State.snapReceive s good) := by
  unfold State.snapReceive
  split
  · exact (Kept.refl _ _)
  · refine Kept.ite ?_ (Kept.ite (Kept.u4194304 (Kept.refl _ _) rfl) (Kept.step State.snapMissed_kept rfl (Kept.step State.add_kept rfl (Kept.refl _ _))))
    extract_lets +onlyGivenNames -merge -useContext x1
    extract_lets +onlyGivenNames -merge -useContext x2
    extract_lets +onlyGivenNames -merge -useContext x3
    have k4 : Kept 4194308 s x3 := (Kept.step State.wr_kept rfl (Kept.u4194304 (Kept.refl _ _) rfl))
    exact (Kept.step State.fovArm_kept rfl (Kept.ite (Kept.step State.logIt_kept rfl k4) k4))

theorem State.snapSend_kept {s : State} : Kept 4194304 s (State.snapSend s) := by
  unfold State.snapSend
  exact (Kept.ite (Kept.u4194304 (Kept.ite (Kept.step State.snapMissed_kept rfl (Kept.refl _ _)) (Kept.refl _ _)) rfl) (Kept.refl _ _))

theorem State.softBoundary_kept {s : State} {c : ℕ} : Kept 16777216 s (State.softBoundary s c) := by
  unfold State.softBoundary
  extract_lets +onlyGivenNames -merge -useContext x1
  refine Kept.ite ?_ (Kept.refl _ _)
  extract_lets +onlyGivenNames -merge -useContext x2
  extract_lets +onlyGivenNames -merge -useContext x3
  have k4 : Kept 16777216 s x3 := (Kept.step State.setChan_kept rfl (Kept.refl _ _))
  exact (Kept.ite (Kept.step State.refreshNow_kept rfl (Kept.step State.setOwed_kept rfl k4)) k4)

theorem State.resumeChange_kept {s : State} : Kept 49176 s (State.resumeChange s) := by
  unfold State.resumeChange
  split
  · exact (Kept.refl _ _)
  · extract_lets +onlyGivenNames -merge -useContext x1
    extract_lets +onlyGivenNames -merge -useContext x2
    have k3 : Kept 49176 s x2 := (Kept.u8 (Kept.refl _ _) rfl)
    exact (Kept.ite (Kept.step State.stepCmd_kept rfl k3) (Kept.ite (Kept.foldl (Kept.step State.scnGc_kept rfl (Kept.step State.raise_kept rfl (Kept.u8 k3 rfl))) (fun _ _ h4 => (Kept.step State.toWaitKey_kept rfl h4))) (Kept.refl _ _)))

theorem State.openStaging_kept {s : State} : Kept 8 s (State.openStaging s) := by
  unfold State.openStaging
  exact (Kept.ite (Kept.step State.scnLowCheck_kept rfl (Kept.u8 (Kept.refl _ _) rfl)) (Kept.refl _ _))

theorem State.setStep_kept {s : State} {k : ℕ} : Kept 268435456 s (State.setStep s k) := by
  unfold State.setStep
  exact (Kept.u268435456 (Kept.refl _ _) rfl)

theorem State.startTest_kept {s : State} {k : ℕ} {u : ℕ} : Kept 2147483648 s (State.startTest s k u) := by
  unfold State.startTest
  exact (Kept.u2147483648 (Kept.step State.setUnit_kept rfl (Kept.refl _ _)) rfl)

theorem State.startTests_kept {s : State} : Kept 36507222016 s (State.startTests s) := by
  unfold State.startTests
  extract_lets +onlyGivenNames -merge -useContext x1
  split
  · extract_lets +onlyGivenNames -merge -useContext x2
    have k3 : Kept 36507222016 s x2 := (Kept.foldl (Kept.step State.setFlag_kept rfl (Kept.refl _ _)) (fun _ _ h4 => (Kept.ite (Kept.step State.setUnit_kept rfl h4) (Kept.ite h4 (Kept.ite (Kept.step State.setUnit_kept rfl h4) (Kept.step State.startTest_kept rfl h4))))))
    exact (Kept.ite (Kept.step State.recordWrite_kept rfl k3) (Kept.u2147483648 (Kept.step State.refuseStore_kept rfl k3) rfl))
  · exact (Kept.foldl (Kept.refl _ _) (fun _ _ h5 => (Kept.step State.startTest_kept rfl h5)))

theorem State.startTraining_kept {s : State} : Kept 2164260864 s (State.startTraining s) := by
  unfold State.startTraining
  extract_lets +onlyGivenNames -merge -useContext x1
  extract_lets +onlyGivenNames -merge -useContext x2
  extract_lets +onlyGivenNames -merge -useContext x3
  have k4 : Kept 2164260864 s x3 := (Kept.u16777216 (Kept.refl _ _) rfl)
  exact (Kept.ite (Kept.step State.raise_kept rfl (Kept.step State.setFlag_kept rfl k4)) (Kept.foldl k4 (fun _ _ h5 => (Kept.step State.startTest_kept rfl h5))))

theorem State.startUp_kept {s : State} : Kept 37874569220 s (State.startUp s) := by
  unfold State.startUp
  exact (Kept.ite (Kept.refl _ _) (Kept.ite (Kept.step State.shdnBegin_kept rfl (Kept.refl _ _)) (Kept.ite (Kept.step State.regStart_kept rfl (Kept.step State.setStep_kept rfl (Kept.step State.calLoad_kept rfl (Kept.step State.trialStart_kept rfl (Kept.refl _ _))))) (Kept.ite (Kept.ite (Kept.foldl (Kept.step State.setStep_kept rfl (Kept.refl _ _)) (fun _ _ h1 => (Kept.step State.domainOn_kept rfl h1))) (Kept.refl _ _)) (Kept.ite (Kept.ite (Kept.step State.startTests_kept rfl (Kept.step State.setStep_kept rfl (Kept.refl _ _))) (Kept.refl _ _)) (Kept.ite (Kept.ite (Kept.step State.startTraining_kept rfl (Kept.step State.setStep_kept rfl (Kept.refl _ _))) (Kept.refl _ _)) (Kept.ite (Kept.ite (Kept.step State.setStep_kept rfl (Kept.refl _ _)) (Kept.refl _ _)) (Kept.refl _ _))))))))

theorem State.restore_kept {s : State} {y : ℕ} {m : Mirror} : Kept 3145728 s (State.restore s y m) := by
  unfold State.restore
  exact (Kept.step State.setPath_kept rfl (Kept.u1048576 (Kept.refl _ _) rfl))

theorem State.takeWarm_kept {s : State} : Kept 42957062160 s (State.takeWarm s) := by
  unfold State.takeWarm
  split
  · exact (Kept.ite (Kept.step State.switched_kept rfl (Kept.step State.restore_kept rfl (Kept.u4194304 (Kept.refl _ _) rfl))) (Kept.refl _ _))
  · exact (Kept.refl _ _)

theorem State.setFailRun_kept {s : State} {u : ℕ} {n : ℕ} : Kept 2147483648 s (State.setFailRun s u n) := by
  unfold State.setFailRun
  exact (Kept.step State.setFld_kept rfl (Kept.u2147483648 (Kept.refl _ _) rfl))

theorem State.testRecord_kept {s : State} {u : ℕ} {result : ℕ} {ms_ : ℕ} : Kept 0 s (State.testRecord s u result ms_) := by
  unfold State.testRecord
  exact (Kept.step State.add_kept rfl (Kept.step State.setFld_kept rfl (Kept.step State.wr_kept rfl (Kept.refl _ _))))

theorem State.shutFail_kept {s : State} {u : ℕ} : Kept 2147483652 s (State.shutFail s u) := by
  unfold State.shutFail
  extract_lets +onlyGivenNames -merge -useContext x1
  extract_lets +onlyGivenNames -merge -useContext x2
  have k3 : Kept 2147483652 s x2 := (Kept.step State.setFailRun_kept rfl (Kept.refl _ _))
  exact (Kept.ite (Kept.ite (Kept.step State.logIt_kept rfl (Kept.step State.raise_kept rfl (Kept.step State.setFlag_kept rfl (Kept.u2147483648 k3 rfl)))) (Kept.step State.refuseStore_kept rfl k3)) k3)

theorem State.testEnd_kept {s : State} {u : ℕ} {k : ℕ} {res : ℕ} {ms_ : ℕ} : Kept 36574338052 s (State.testEnd s u k res ms_) := by
  unfold State.testEnd
  extract_lets +onlyGivenNames -merge -useContext x1
  extract_lets +onlyGivenNames -merge -useContext x2
  have k3 : Kept 36574338052 s x2 := (Kept.u2147483648 (Kept.refl _ _) rfl)
  extract_lets +onlyGivenNames -merge -useContext x4
  have k5 : Kept 36574338052 s x4 := (Kept.step State.raise_kept rfl (Kept.step State.testRecord_kept rfl k3))
  extract_lets +onlyGivenNames -merge -useContext x6
  have k7 : Kept 36574338052 s x6 := (Kept.step State.setFailRun_kept rfl k5)
  extract_lets +onlyGivenNames -merge -useContext x8
  have k9 : Kept 36574338052 s x8 := (Kept.step State.logIt_kept rfl (Kept.step State.raise_kept rfl (Kept.step State.add_kept rfl (Kept.step State.setUnit_kept rfl k5))))
  exact (Kept.step State.bistFill_kept rfl (Kept.ite (Kept.ite (Kept.step State.unitBack_kept rfl k7) (Kept.ite (Kept.step State.setUnit_kept rfl k7) (Kept.step State.unitActive_kept rfl k7))) (Kept.ite (Kept.step State.shutFail_kept rfl k9) k9)))

theorem State.svcTestDone_kept {s : State} {u : ℕ} {res : ℕ} {ms_ : ℕ} : Kept 36574338052 s (State.svcTestDone s u res ms_) := by
  unfold State.svcTestDone
  split
  · exact (Kept.ite (Kept.step State.testEnd_kept rfl (Kept.refl _ _)) (Kept.refl _ _))
  · exact (Kept.refl _ _)

theorem State.gridLoaded_kept {s : State} : Kept 64 s (State.gridLoaded s) := by
  unfold State.gridLoaded
  split
  · exact (Kept.refl _ _)
  · extract_lets +onlyGivenNames -merge -useContext x1
    extract_lets +onlyGivenNames -merge -useContext x2
    have k3 : Kept 64 s x2 := (Kept.step State.setFlag_kept rfl (Kept.u64 (Kept.refl _ _) rfl))
    extract_lets +onlyGivenNames -merge -useContext x4
    extract_lets +onlyGivenNames -merge -useContext x5
    have k6 : Kept 64 s x5 := (Kept.step State.wr_kept rfl k3)
    split
    · exact (Kept.step State.raise_kept rfl (Kept.step State.setFld_kept rfl (Kept.u64 k6 rfl)))
    · exact (Kept.step State.raise_kept rfl (Kept.step State.setFld_kept rfl k6))

theorem State.graceExpire_kept {s : State} : Kept 536870912 s (State.graceExpire s) := by
  unfold State.graceExpire
  split
  · exact (Kept.ite (Kept.ite (Kept.step State.enforce_kept rfl (Kept.refl _ _)) (Kept.u536870912 (Kept.step State.setFlag_kept rfl (Kept.refl _ _)) rfl)) (Kept.refl _ _))
  · exact (Kept.refl _ _)

theorem State.holdExpire_kept {s : State} : Kept 536870912 s (State.holdExpire s) := by
  unfold State.holdExpire
  split
  · exact (Kept.ite (Kept.step State.ask_kept rfl (Kept.refl _ _)) (Kept.refl _ _))
  · exact (Kept.refl _ _)

theorem State.tileStart_kept {s : State} {u : ℕ} : Kept 640 s (State.tileStart s u) := by
  unfold State.tileStart
  split
  · refine Kept.ite ?_ (Kept.refl _ _)
    extract_lets +onlyGivenNames -merge -useContext x1
    extract_lets +onlyGivenNames -merge -useContext x2
    have k3 : Kept 640 s x2 := (Kept.step State.setCl_kept rfl (Kept.refl _ _))
    split
    · refine Kept.ite ?_ (Kept.step State.showTile_kept rfl k3)
      extract_lets +onlyGivenNames -merge -useContext x4
      extract_lets +onlyGivenNames -merge -useContext x5
      have k6 : Kept 640 s x5 := (Kept.step State.showTile_kept rfl (Kept.step State.setTile_kept rfl k3))
      exact (Kept.ite (Kept.step State.add_kept rfl k6) k6)
    · exact k3
  · exact (Kept.refl _ _)

theorem State.steal_kept {s : State} {u : ℕ} : Kept 640 s (State.steal s u) := by
  unfold State.steal
  refine Kept.ite ?_ (Kept.refl _ _)
  split
  · exact (Kept.refl _ _)
  · extract_lets +onlyGivenNames -merge -useContext x1
    extract_lets +onlyGivenNames -merge -useContext x2
    extract_lets +onlyGivenNames -merge -useContext x3
    extract_lets +onlyGivenNames -merge -useContext x4
    extract_lets +onlyGivenNames -merge -useContext x5
    have k6 : Kept 640 s x5 := (Kept.step State.setCl_kept rfl (Kept.step State.setTile_kept rfl (Kept.refl _ _)))
    extract_lets +onlyGivenNames -merge -useContext x7
    have k8 : Kept 640 s x7 := by
      unfold x7
      split
      · exact (Kept.step State.setCl_kept rfl k6)
      · exact k6
    extract_lets +onlyGivenNames -merge -useContext x9
    have k10 : Kept 640 s x9 := (Kept.step State.add_kept rfl k8)
    exact (Kept.ite (Kept.step State.add_kept rfl k10) k10)

theorem State.timCapture_kept {s : State} : Kept 0 s (State.timCapture s) := by
  unfold State.timCapture
  exact (Kept.step State.wr_kept rfl (Kept.step State.wr_kept rfl (Kept.step State.wr_kept rfl (Kept.step State.wr_kept rfl (Kept.refl _ _)))))

theorem State.timestampOp_kept {s : State} {e : ℕ} : Kept 0 s (State.timestampOp s e) := by
  unfold State.timestampOp
  exact (Kept.step State.wr_kept rfl (Kept.step State.wr_kept rfl (Kept.step State.wr_kept rfl (Kept.step State.wr_kept rfl (Kept.refl _ _)))))

theorem State.lensCut_kept {s : State} : Kept 2048 s (State.lensCut s) := by
  unfold State.lensCut
  exact (Kept.u2048 (Kept.refl _ _) rfl)

theorem State.reacquire_kept {s : State} : Kept 1 s (State.reacquire s) := by
  unfold State.reacquire
  exact (Kept.u1 (Kept.refl _ _) rfl)

theorem State.planRetime_kept {s : State} : Kept 256 s (State.planRetime s) := by
  unfold State.planRetime
  exact (Kept.u256 (Kept.refl _ _) rfl)

theorem State.brcRetime_kept {s : State} : Kept 8589935232 s (State.brcRetime s) := by
  unfold State.brcRetime
  exact (Kept.step State.oasClear_kept rfl (Kept.u512 (Kept.foldl (Kept.refl _ _) (fun _ _ h1 => (Kept.step State.endRun_kept rfl (Kept.ite (Kept.step State.countTile_kept rfl h1) h1)))) rfl))

theorem State.crvSkipFrame_kept {s : State} : Kept 2 s (State.crvSkipFrame s) := by
  unfold State.crvSkipFrame
  exact (Kept.foldl (Kept.refl _ _) (fun _ _ h1 => (Kept.ite (Kept.step State.crvOver_kept rfl h1) (Kept.ite (Kept.step State.crvMiss_kept rfl h1) h1))))

theorem State.retime_kept {s : State} : Kept 8589942723 s (State.retime s) := by
  unfold State.retime
  exact (Kept.step State.reacquire_kept rfl (Kept.step State.toStep_kept rfl (Kept.step State.bklLatch_kept rfl (Kept.step State.planRetime_kept rfl (Kept.step State.brcRetime_kept rfl (Kept.step State.relabelled_kept rfl (Kept.step State.crvSkipFrame_kept rfl (Kept.step State.relabel_kept rfl (Kept.u2049 (Kept.u1 (Kept.refl _ _) rfl) rfl)))))))))

theorem State.popHead_kept {s : State} {x : ℕ} {q : ℕ} : Kept 2097152 s (State.popHead s x q) := by
  unfold State.popHead
  exact (Kept.step State.setQueue_kept rfl (Kept.refl _ _))

theorem State.dropOversize_kept {s : State} {x : ℕ} : Kept 2146304 s (State.dropOversize s x) := by
  unfold State.dropOversize
  refine Kept.foldl (Kept.refl _ _) (fun a2 b3 h4 => ?_)
  split
  · exact (Kept.ite (Kept.step State.descDone_kept rfl (Kept.step State.raise_kept rfl (Kept.step State.add_kept rfl (Kept.step State.popHead_kept rfl h4)))) h4)
  · exact h4

theorem State.stampDreq_kept {s : State} {x : ℕ} {f : Egress} : Kept 2097152 s (State.stampDreq s x f) := by
  unfold State.stampDreq
  split
  · extract_lets +onlyGivenNames -merge -useContext x1
    have k2 : Kept 2097152 s x1 := (Kept.step State.add_kept rfl (Kept.refl _ _))
    exact (Kept.ite (Kept.step State.setPath_kept rfl k2) (Kept.step State.add_kept rfl k2))
  · exact (Kept.refl _ _)

theorem State.transmit_kept {s : State} {x : ℕ} : Kept 34361884672 s (State.transmit s x) := by
  unfold State.transmit
  refine Kept.ite (Kept.refl _ _) ?_
  extract_lets +onlyGivenNames -merge -useContext x1
  have k2 : Kept 34361884672 s x1 := (Kept.step State.dropOversize_kept rfl (Kept.refl _ _))
  split
  · exact k2
  · split
    · exact k2
    · exact (Kept.step State.descDone_kept rfl (Kept.step State.stampDreq_kept rfl (Kept.step State.add64_kept rfl (Kept.step State.add_kept rfl (Kept.step State.add_kept rfl (Kept.step State.emit_kept rfl (Kept.step State.popHead_kept rfl (Kept.step State.setPath_kept rfl (Kept.step State.setQueue_kept rfl k2)))))))))

theorem State.trefi_kept {s : State} {c : ℕ} : Kept 16777216 s (State.trefi s c) := by
  unfold State.trefi
  extract_lets +onlyGivenNames -merge -useContext x1
  refine Kept.ite ?_ (Kept.refl _ _)
  extract_lets +onlyGivenNames -merge -useContext x2
  extract_lets +onlyGivenNames -merge -useContext x3
  have k4 : Kept 16777216 s x3 := (Kept.step State.setChan_kept rfl (Kept.refl _ _))
  exact (Kept.ite (Kept.step State.refreshNow_kept rfl (Kept.step State.setOwed_kept rfl k4)) (Kept.ite (Kept.step State.refreshNow_kept rfl (Kept.step State.setOwed_kept rfl k4)) (Kept.step State.add_kept rfl (Kept.step State.setOwed_kept rfl k4))))

theorem State.retagUnit_kept {s : State} {a : ℕ} {b : ℕ} : Kept 8 s (State.retagUnit s a b) := by
  unfold State.retagUnit
  exact (Kept.u8 (Kept.refl _ _) rfl)

theorem State.migrateCpx_kept {s : State} {a : ℕ} {dest : ℕ} : Kept 256 s (State.migrateCpx s a dest) := by
  unfold State.migrateCpx
  split
  · exact (Kept.ite (Kept.step State.evacCount_kept rfl (Kept.u256 (Kept.refl _ _) rfl)) (Kept.refl _ _))
  · exact (Kept.refl _ _)

theorem State.migrate_kept {s : State} {a : ℕ} {dest : ℕ} : Kept 49416 s (State.migrate s a dest) := by
  unfold State.migrate
  split
  · refine Kept.ite ?_ (Kept.refl _ _)
    split
    · extract_lets +onlyGivenNames -merge -useContext x1
      have k2 : Kept 49416 s x1 := (Kept.step State.takeSpace_kept rfl (Kept.step State.dramWrite_kept rfl (Kept.refl _ _)))
      extract_lets +onlyGivenNames -merge -useContext x3
      extract_lets +onlyGivenNames -merge -useContext x4
      have k5 : Kept 49416 s x4 := (Kept.u256 k2 rfl)
      extract_lets +onlyGivenNames -merge -useContext x6
      have k7 : Kept 49416 s x6 := (Kept.step State.scnLowCheck_kept rfl (Kept.step State.add_kept rfl (Kept.step State.retagUnit_kept rfl k5)))
      exact (Kept.ite (Kept.step State.evacCount_kept rfl k7) k7)
    · exact (Kept.refl _ _)
  · exact (Kept.step State.migrateCpx_kept rfl (Kept.refl _ _))

theorem State.windowEcc_kept {s : State} {k : ℕ} {addr : ℕ} {corr : Bool} : Kept 8 s (State.windowEcc s k addr corr) := by
  unfold State.windowEcc
  exact (Kept.ite (Kept.ite (Kept.step State.raise_kept rfl (Kept.step State.add_kept rfl (Kept.refl _ _))) (Kept.step State.raise_kept rfl (Kept.step State.add_kept rfl (Kept.ite (Kept.step State.waitFor_kept rfl (Kept.step State.setWindow_kept rfl (Kept.refl _ _))) (Kept.refl _ _))))) (Kept.refl _ _))

theorem State.windowFill_kept {s : State} {k : ℕ} {keep : ℕ → Bool} {e : Entry} : Kept 24 s (State.windowFill s k keep e) := by
  unfold State.windowFill
  split
  · exact (Kept.step State.add_kept rfl (Kept.refl _ _))
  · extract_lets +onlyGivenNames -merge -useContext x1
    refine Kept.ite (Kept.step State.markBad_kept rfl (Kept.refl _ _)) ?_
    extract_lets +onlyGivenNames -merge -useContext x2
    split
    · exact (Kept.refl _ _)
    · exact (Kept.step State.add_kept rfl (Kept.u8 (Kept.step State.setWanted_kept rfl (Kept.step State.setWindow_kept rfl (Kept.refl _ _))) rfl))

theorem State.countFill_kept {s : State} {c : ℕ} : Kept 256 s (State.countFill s c) := by
  unfold State.countFill
  split
  · exact (Kept.u256 (Kept.refl _ _) rfl)
  · exact (Kept.u256 (Kept.refl _ _) rfl)

theorem State.wpCycle_kept {s : State} {reads : List (Option (List ℕ))} {mats : List (List ℤ)} : Kept 4096 s (State.wpCycle s reads mats) := by
  unfold State.wpCycle
  extract_lets +onlyGivenNames -merge -useContext x1
  extract_lets +onlyGivenNames -merge -useContext x2
  extract_lets +onlyGivenNames -merge -useContext x3
  extract_lets +onlyGivenNames -merge -useContext x4
  extract_lets +onlyGivenNames -merge -useContext x5
  have k6 : Kept 4096 s x5 := by
    unfold x5
    refine Kept.foldl (Kept.refl _ _) (fun a9 b10 h11 => ?_)
    split
    · exact (Kept.ite (Kept.step State.wr_kept rfl h11) h11)
    · exact (Kept.step State.setFlag_kept rfl h11)
  extract_lets +onlyGivenNames -merge -useContext x12
  have k13 : Kept 4096 s x12 := (Kept.step State.setFld_kept rfl k6)
  extract_lets +onlyGivenNames -merge -useContext x14
  have k15 : Kept 4096 s x14 := (Kept.ite k13 (Kept.step State.raise_kept rfl (Kept.step State.add_kept rfl k13)))
  extract_lets +onlyGivenNames -merge -useContext x16
  extract_lets +onlyGivenNames -merge -useContext x17
  refine Kept.ite ?_ k15
  extract_lets +onlyGivenNames -merge -useContext x18
  extract_lets +onlyGivenNames -merge -useContext x19
  extract_lets +onlyGivenNames -merge -useContext x20
  extract_lets +onlyGivenNames -merge -useContext x21
  extract_lets +onlyGivenNames -merge -useContext x22
  extract_lets +onlyGivenNames -merge -useContext x23
  extract_lets +onlyGivenNames -merge -useContext x24
  extract_lets +onlyGivenNames -merge -useContext x25
  extract_lets +onlyGivenNames -merge -useContext x26
  have k27 : Kept 4096 s x26 := (Kept.u4096 k15 rfl)
  extract_lets +onlyGivenNames -merge -useContext x28
  have k29 : Kept 4096 s x28 := (Kept.step State.add_kept rfl k27)
  extract_lets +onlyGivenNames -merge -useContext x30
  have k31 : Kept 4096 s x30 := (Kept.step State.setFlag_kept rfl k29)
  exact (Kept.ite (Kept.step State.raise_kept rfl k31) k31)

end Sys2Proof.Machine
end

