-- ==== Sys2Proof/Laws/KeptCmd.lean ====
section
/-! SUPPORT. Which parts of the state each command may change. -/

namespace Sys2Proof.Machine

/-- A command that completes with only the parts of `F` changed and every vector answered. -/
def Runs (F : Nat) (s : State) (o : Host.Outcome State Fault Refusal) : Prop := ∃ t, o = .next t ∧ Kept F s t ∧ t.vectorsSettled

theorem settle_settled (s : State) : (settle s).vectorsSettled :=
  ⟨by rw [settle_msiSent, settle_live], by rw [settle_live, settle_msixMask]; exact settle_pendOk s⟩

theorem Runs.finish {F : Nat} {s t : State} (k : Kept F s t) : Runs F s (Sys2Proof.Machine.finish t) :=
  ⟨_, rfl, Kept.step settle_kept (Nat.or_zero F) k, settle_settled _⟩

theorem execAlterPlane_kept {session : ℕ} {s : State} : Runs 49176 s (execAlterPlane session s) := by
  unfold execAlterPlane
  refine Runs.finish ?_
  exact (Kept.step State.updateCommand_kept rfl (Kept.refl _ _))

theorem execBarchanRestart_kept {t : ℕ} {s : State} : Runs 4294967552 s (execBarchanRestart t s) := by
  unfold execBarchanRestart
  refine Runs.finish ?_
  exact (Kept.step State.plcRestart_kept rfl (Kept.step State.at_kept rfl (Kept.refl _ _)))

theorem execBklFadeDone_kept {t : ℕ} {s : State} : Runs 4294971392 s (execBklFadeDone t s) := by
  unfold execBklFadeDone
  refine Runs.finish ?_
  exact (Kept.step State.fadeEnd_kept rfl (Kept.step State.at_kept rfl (Kept.refl _ _)))

theorem execBklFadeGo_kept {who : Requester} {data : Word} {s : State} : Runs 64416055295 s (execBklFadeGo who data s) := by
  unfold execBklFadeGo
  refine Runs.finish ?_
  exact (Kept.step State.trigger_kept rfl (Kept.refl _ _))

theorem execBklSlot_kept {row : ℕ} {t : ℕ} {s : State} : Runs 38654709760 s (execBklSlot row t s) := by
  unfold execBklSlot
  refine Runs.finish ?_
  exact (Kept.step State.bklSlot_kept rfl (Kept.step State.at_kept rfl (Kept.refl _ _)))

theorem execBltCopy_kept {bursts : ℕ} {t : ℕ} {s : State} : Runs 4295024640 s (execBltCopy bursts t s) := by
  unfold execBltCopy
  refine Runs.finish ?_
  exact (Kept.step State.bltRun_kept rfl (Kept.step State.at_kept rfl (Kept.refl _ _)))

theorem execBltDisable_kept {who : Requester} {data : Word} {s : State} : Runs 64416055295 s (execBltDisable who data s) := by
  unfold execBltDisable
  refine Runs.finish ?_
  exact (Kept.step State.untrigger_kept rfl (Kept.refl _ _))

theorem execBltDone_kept {s : State} : Runs 57344 s (execBltDone s) := by
  unfold execBltDone
  refine Runs.finish ?_
  exact (Kept.step State.bltDone_kept rfl (Kept.refl _ _))

theorem execBltFill_kept {bursts : ℕ} {t : ℕ} {s : State} : Runs 4295024640 s (execBltFill bursts t s) := by
  unfold execBltFill
  refine Runs.finish ?_
  exact (Kept.step State.bltRun_kept rfl (Kept.step State.at_kept rfl (Kept.refl _ _)))

theorem execBltGlyph_kept {bursts : ℕ} {t : ℕ} {s : State} : Runs 4295024640 s (execBltGlyph bursts t s) := by
  unfold execBltGlyph
  refine Runs.finish ?_
  exact (Kept.step State.bltRun_kept rfl (Kept.step State.at_kept rfl (Kept.refl _ _)))

theorem execBltHeld_kept {s : State} : Runs 8192 s (execBltHeld s) := by
  unfold execBltHeld
  refine Runs.finish ?_
  exact (Kept.step State.bltHold_kept rfl (Kept.refl _ _))

theorem execBltRelease_kept {who : Requester} {data : Word} {s : State} : Runs 64416055295 s (execBltRelease who data s) := by
  unfold execBltRelease
  refine Runs.finish ?_
  exact (Kept.step State.trigger_kept rfl (Kept.refl _ _))

theorem execBltRingTail_kept {who : Requester} {data : Word} {s : State} : Runs 64416055295 s (execBltRingTail who data s) := by
  unfold execBltRingTail
  refine Runs.finish ?_
  exact (Kept.step State.writeWord_kept rfl (Kept.refl _ _))

theorem execBrcLutLoadGo_kept {who : Requester} {data : Word} {s : State} : Runs 64416055295 s (execBrcLutLoadGo who data s) := by
  unfold execBrcLutLoadGo
  refine Runs.finish ?_
  exact (Kept.step State.trigger_kept rfl (Kept.refl _ _))

theorem execBrcLutLoaded_kept {s : State} : Runs 512 s (execBrcLutLoaded s) := by
  unfold execBrcLutLoaded
  refine Runs.finish ?_
  exact (Kept.step State.lutLoaded_kept rfl (Kept.refl _ _))

theorem execBrcSnapDone_kept {s : State} : Runs 49664 s (execBrcSnapDone s) := by
  unfold execBrcSnapDone
  refine Runs.finish ?_
  exact (Kept.step State.snapDone_kept rfl (Kept.refl _ _))

theorem execCacheReadahead_kept {player : ℕ} {t : ℕ} {s : State} : Runs 47244689664 s (execCacheReadahead player t s) := by
  unfold execCacheReadahead
  refine Runs.finish ?_
  exact (Kept.step State.readAhead_kept rfl (Kept.step State.at_kept rfl (Kept.refl _ _)))

theorem execCaravanArm_kept {who : Requester} {entry : ℕ} {data : Word} {s : State} : Runs 64416055295 s (execCaravanArm who entry data s) := by
  unfold execCaravanArm
  refine Runs.finish ?_
  exact (Kept.step State.trigger_kept rfl (Kept.refl _ _))

theorem execCaravanDisarm_kept {who : Requester} {entry : ℕ} {data : Word} {s : State} : Runs 64416055295 s (execCaravanDisarm who entry data s) := by
  unfold execCaravanDisarm
  refine Runs.finish ?_
  exact (Kept.step State.untrigger_kept rfl (Kept.refl _ _))

theorem execClusterClaim_kept {cluster : ℕ} {t : ℕ} {s : State} : Runs 4294967936 s (execClusterClaim cluster t s) := by
  unfold execClusterClaim
  refine Runs.finish ?_
  exact (Kept.step State.claim_kept rfl (Kept.step State.at_kept rfl (Kept.refl _ _)))

theorem execCommitCancel_kept {who : Requester} {page : ℕ} {data : Word} {s : State} : Runs 64416055295 s (execCommitCancel who page data s) := by
  unfold execCommitCancel
  refine Runs.finish ?_
  exact (Kept.step State.trigger_kept rfl (Kept.refl _ _))

theorem execCommitFrame_kept {session : ℕ} {s : State} : Runs 49176 s (execCommitFrame session s) := by
  unfold execCommitFrame
  refine Runs.finish ?_
  exact (Kept.step State.updateCommand_kept rfl (Kept.refl _ _))

theorem execCommitReq_kept {who : Requester} {page : ℕ} {data : Word} {s : State} : Runs 64416055295 s (execCommitReq who page data s) := by
  unfold execCommitReq
  refine Runs.finish ?_
  exact (Kept.step State.trigger_kept rfl (Kept.refl _ _))

theorem execCommitTakeEffect_kept {page : ℕ} {s : State} : Runs 17179869185 s (execCommitTakeEffect page s) := by
  unfold execCommitTakeEffect
  refine Runs.finish ?_
  exact (Kept.ite (Kept.step State.commitPoint_kept rfl (Kept.refl _ _)) (Kept.refl _ _))

theorem execCopyRegion_kept {session : ℕ} {s : State} : Runs 49176 s (execCopyRegion session s) := by
  unfold execCopyRegion
  refine Runs.finish ?_
  exact (Kept.step State.updateCommand_kept rfl (Kept.refl _ _))

theorem execCorePowerOnReset_kept {t : ℕ} {s : State} : Runs 266287906815 s (execCorePowerOnReset t s) := by
  unfold execCorePowerOnReset
  refine Runs.finish ?_
  exact (Kept.step State.powerOn_kept rfl (Kept.step State.at_kept rfl (Kept.refl _ _)))

theorem execCpxImageRelease_kept {t : ℕ} {s : State} : Runs 40131100676 s (execCpxImageRelease t s) := by
  unfold execCpxImageRelease
  refine Runs.finish ?_
  exact (Kept.step State.certCheck_kept rfl (Kept.step State.cpxRelease_kept rfl (Kept.step State.at_kept rfl (Kept.refl _ _))))

theorem execCpxWatchdogExpire_kept {t : ℕ} {s : State} : Runs 4429185028 s (execCpxWatchdogExpire t s) := by
  unfold execCpxWatchdogExpire
  refine Runs.finish ?_
  exact (Kept.step State.watchdog_kept rfl (Kept.step State.at_kept rfl (Kept.refl _ _)))

theorem execCrvNotify_kept {entry : ℕ} {t : ℕ} {s : State} : Runs 4294967298 s (execCrvNotify entry t s) := by
  unfold execCrvNotify
  refine Runs.finish ?_
  refine Kept.ite ?_ (Kept.refl _ _)
  unfold State.crvDispatch
  exact (Kept.ite (Kept.ite (Kept.step State.crvFire_kept rfl (Kept.step State.at_kept rfl (Kept.refl _ _))) (Kept.ite (Kept.step State.crvTaken_kept rfl (Kept.step State.at_kept rfl (Kept.refl _ _))) (Kept.step State.crvMiss_kept rfl (Kept.step State.at_kept rfl (Kept.refl _ _))))) (Kept.step State.at_kept rfl (Kept.refl _ _)))

theorem execCrvWrite_kept {entry : ℕ} {t : ℕ} {s : State} : Runs 68711022591 s (execCrvWrite entry t s) := by
  unfold execCrvWrite
  refine Runs.finish ?_
  refine Kept.ite ?_ (Kept.refl _ _)
  unfold State.crvDispatch
  exact (Kept.ite (Kept.ite (Kept.step State.crvWriteOp_kept rfl (Kept.step State.crvFire_kept rfl (Kept.step State.at_kept rfl (Kept.refl _ _)))) (Kept.ite (Kept.step State.crvTaken_kept rfl (Kept.step State.at_kept rfl (Kept.refl _ _))) (Kept.step State.crvMiss_kept rfl (Kept.step State.at_kept rfl (Kept.refl _ _))))) (Kept.step State.at_kept rfl (Kept.refl _ _)))

theorem execDatagramApply_kept {session : ℕ} {s : State} : Runs 49176 s (execDatagramApply session s) := by
  unfold execDatagramApply
  refine Runs.finish ?_
  exact (Kept.ite (Kept.step State.applyNext_kept rfl (Kept.refl _ _)) (Kept.ite (Kept.step State.stepCmd_kept rfl (Kept.refl _ _)) (Kept.refl _ _)))

theorem execDatagramReceive_kept {source : ℕ} {bytes : List Byte} {reply : Option Reply} {t : ℕ} {s : State} : Runs 4297064464 s (execDatagramReceive source bytes reply t s) := by
  unfold execDatagramReceive
  refine Runs.finish ?_
  exact (Kept.ite (Kept.step State.crossing_kept rfl (Kept.step State.at_kept rfl (Kept.refl _ _))) (Kept.step State.kstArrive_kept rfl (Kept.step State.at_kept rfl (Kept.refl _ _))))

theorem execDefinePlane_kept {session : ℕ} {s : State} : Runs 49176 s (execDefinePlane session s) := by
  unfold execDefinePlane
  refine Runs.finish ?_
  exact (Kept.step State.updateCommand_kept rfl (Kept.refl _ _))

theorem execDelayReq_kept {path : ℕ} {t : ℕ} {s : State} : Runs 12886999040 s (execDelayReq path t s) := by
  unfold execDelayReq
  refine Runs.finish ?_
  exact (Kept.ite (Kept.step State.delayReq_kept rfl (Kept.step State.at_kept rfl (Kept.refl _ _))) (Kept.refl _ _))

theorem execDelayResp_kept {path : ℕ} {msg : PtpMsg} {t : ℕ} {s : State} : Runs 4299030529 s (execDelayResp path msg t s) := by
  unfold execDelayResp
  refine Runs.finish ?_
  exact (Kept.ite (Kept.step State.delayResp_kept rfl (Kept.step State.at_kept rfl (Kept.refl _ _))) (Kept.refl _ _))

theorem execDevIntcEoi_kept {who : Requester} {data : Word} {s : State} : Runs 64416055295 s (execDevIntcEoi who data s) := by
  unfold execDevIntcEoi
  refine Runs.finish ?_
  exact (Kept.step State.writeWord_kept rfl (Kept.refl _ _))

theorem execDevIntcMaskWrite_kept {who : Requester} {half : ℕ} {data : Word} {s : State} : Runs 64416055295 s (execDevIntcMaskWrite who half data s) := by
  unfold execDevIntcMaskWrite
  refine Runs.finish ?_
  exact (Kept.step State.writeWord_kept rfl (Kept.refl _ _))

theorem execDevIntcRouteWrite_kept {who : Requester} {index : ℕ} {data : Word} {s : State} : Runs 64416055295 s (execDevIntcRouteWrite who index data s) := by
  unfold execDevIntcRouteWrite
  refine Runs.finish ?_
  exact (Kept.step State.writeWord_kept rfl (Kept.refl _ _))

theorem execDieToDieDown_kept {path : ℕ} {t : ℕ} {s : State} : Runs 4303224837 s (execDieToDieDown path t s) := by
  unfold execDieToDieDown
  refine Runs.finish ?_
  exact (Kept.ite (Kept.step State.dieLink_kept rfl (Kept.step State.at_kept rfl (Kept.refl _ _))) (Kept.refl _ _))

theorem execDieToDieUp_kept {path : ℕ} {t : ℕ} {s : State} : Runs 4303224837 s (execDieToDieUp path t s) := by
  unfold execDieToDieUp
  refine Runs.finish ?_
  exact (Kept.ite (Kept.step State.dieLink_kept rfl (Kept.step State.at_kept rfl (Kept.refl _ _))) (Kept.refl _ _))

theorem execDimmPwr_kept {who : Requester} {channel : ℕ} {data : Word} {s : State} : Runs 64416055295 s (execDimmPwr who channel data s) := by
  unfold execDimmPwr
  refine Runs.finish ?_
  exact (Kept.step State.writeWord_kept rfl (Kept.refl _ _))

theorem execDischargeEnd_kept {t : ℕ} {s : State} : Runs 274877841407 s (execDischargeEnd t s) := by
  unfold execDischargeEnd
  refine Runs.finish ?_
  exact (Kept.ite (Kept.step State.afterDischarge_kept rfl (Kept.step State.dischEnd_kept rfl (Kept.step State.at_kept rfl (Kept.refl _ _)))) (Kept.refl _ _))

theorem execDischargeHoldExpire_kept {t : ℕ} {s : State} : Runs 38654707712 s (execDischargeHoldExpire t s) := by
  unfold execDischargeHoldExpire
  refine Runs.finish ?_
  exact (Kept.step State.dischExpire_kept rfl (Kept.step State.at_kept rfl (Kept.refl _ _)))

theorem execDischargeTrigger_kept {who : Requester} {data : Word} {s : State} : Runs 64416055295 s (execDischargeTrigger who data s) := by
  unfold execDischargeTrigger
  refine Runs.finish ?_
  exact (Kept.step State.trigger_kept rfl (Kept.refl _ _))

theorem execDmcCaParity_kept {channel : ℕ} {replays : Replays} {t : ℕ} {s : State} : Runs 49408955300 s (execDmcCaParity channel replays t s) := by
  unfold execDmcCaParity
  refine Runs.finish ?_
  extract_lets +onlyGivenNames -merge -useContext x1
  have k2 : Kept 49408955300 s x1.1 := (Kept.step State.caParity_kept rfl (Kept.step State.at_kept rfl (Kept.refl _ _)))
  exact (Kept.ite (Kept.step State.selfFence_kept rfl k2) k2)

theorem execDmcRestore_kept {who : Requester} {data : Word} {s : State} : Runs 64416055295 s (execDmcRestore who data s) := by
  unfold execDmcRestore
  refine Runs.finish ?_
  exact (Kept.step State.trigger_kept rfl (Kept.refl _ _))

theorem execDomainUp_kept {domain : ℕ} {t : ℕ} {s : State} : Runs 4567601152 s (execDomainUp domain t s) := by
  unfold execDomainUp
  refine Runs.finish ?_
  exact (Kept.step State.domainUp_kept rfl (Kept.step State.at_kept rfl (Kept.refl _ _)))

theorem execDqsDriftCheck_kept {channel : ℕ} {steps : ℤ} {t : ℕ} {s : State} : Runs 4311744512 s (execDqsDriftCheck channel steps t s) := by
  unfold execDqsDriftCheck
  refine Runs.finish ?_
  exact (Kept.step State.driftCheck_kept rfl (Kept.step State.at_kept rfl (Kept.refl _ _)))

theorem execDramRead_kept {client : ℕ} {realTime : Bool} {addr : ℕ} {found : EccFind} {act : Option (ℕ × ℕ)} {idle : Bool} {t : ℕ} {s : State} : Runs 40819020708 s (execDramRead client realTime addr found act idle t s) := by
  unfold execDramRead
  refine Runs.finish ?_
  exact (Kept.step State.takeFence_kept rfl (Kept.step State.ceWatch_kept rfl (Kept.step State.dramServe_kept rfl (Kept.step State.at_kept rfl (Kept.refl _ _)))))

theorem execDramTraining_kept {channel : ℕ} {modules : List Dimm} {temp : ℤ} {verify : Bool} {memory : Bool} {full : Option (List ℕ)} {t : ℕ} {s : State} : Runs 40886197252 s (execDramTraining channel modules temp verify memory full t s) := by
  unfold execDramTraining
  refine Runs.finish ?_
  exact (Kept.step State.dramTraining_kept rfl (Kept.step State.at_kept rfl (Kept.refl _ _)))

theorem execDramWrite_kept {client : ℕ} {realTime : Bool} {addr : ℕ} {bytes : List Byte} {act : Option (ℕ × ℕ)} {idle : Bool} {t : ℕ} {s : State} : Runs 40819020708 s (execDramWrite client realTime addr bytes act idle t s) := by
  unfold execDramWrite
  refine Runs.finish ?_
  exact (Kept.step State.takeFence_kept rfl (Kept.step State.ceWatch_kept rfl (Kept.step State.dramQueue_kept rfl (Kept.step State.at_kept rfl (Kept.refl _ _)))))

theorem execDriveInit_kept {who : Requester} {drive : ℕ} {data : Word} {s : State} : Runs 64416055295 s (execDriveInit who drive data s) := by
  unfold execDriveInit
  refine Runs.finish ?_
  exact (Kept.step State.trigger_kept rfl (Kept.refl _ _))

theorem execDriveInsert_kept {drive : ℕ} {copies : List (Option MetaCopy)} {capacity : ℕ} {format : Bool} {generation : ℕ} {width : ℕ} {health : ℕ} {t : ℕ} {s : State} : Runs 40902854660 s (execDriveInsert drive copies capacity format generation width health t s) := by
  unfold execDriveInsert
  refine Runs.finish ?_
  exact (Kept.step State.driveInsert_kept rfl (Kept.step State.at_kept rfl (Kept.refl _ _)))

theorem execDriveSurpriseRemove_kept {loss : DriveLoss} {t : ℕ} {s : State} : Runs 38755368960 s (execDriveSurpriseRemove loss t s) := by
  unfold execDriveSurpriseRemove
  refine Runs.finish ?_
  exact (Kept.step State.driveLost_kept rfl (Kept.step State.at_kept rfl (Kept.refl _ _)))

theorem execEqSlewStep_kept {lane : ℕ} {setting : ℕ} {t : ℕ} {s : State} : Runs 4362076160 s (execEqSlewStep lane setting t s) := by
  unfold execEqSlewStep
  refine Runs.finish ?_
  exact (Kept.step State.slewStep_kept rfl (Kept.step State.at_kept rfl (Kept.refl _ _)))

theorem execFencingDrained_kept {unit : ℕ} {t : ℕ} {s : State} : Runs 49497036708 s (execFencingDrained unit t s) := by
  unfold execFencingDrained
  refine Runs.finish ?_
  exact (Kept.step State.fencingDrained_kept rfl (Kept.step State.at_kept rfl (Kept.refl _ _)))

theorem execFillRegion_kept {session : ℕ} {s : State} : Runs 49176 s (execFillRegion session s) := by
  unfold execFillRegion
  refine Runs.finish ?_
  exact (Kept.step State.updateCommand_kept rfl (Kept.refl _ _))

theorem execFollowUp_kept {path : ℕ} {msg : PtpMsg} {t : ℕ} {s : State} : Runs 4299030529 s (execFollowUp path msg t s) := by
  unfold execFollowUp
  refine Runs.finish ?_
  exact (Kept.ite (Kept.step State.followUp_kept rfl (Kept.step State.at_kept rfl (Kept.refl _ _))) (Kept.refl _ _))

theorem execFovCold_kept {t : ℕ} {s : State} : Runs 47252946973 s (execFovCold t s) := by
  unfold execFovCold
  refine Runs.finish ?_
  exact (Kept.step State.takeCold_kept rfl (Kept.step State.at_kept rfl (Kept.refl _ _)))

theorem execFovStale_kept {t : ℕ} {s : State} : Runs 4299161604 s (execFovStale t s) := by
  unfold execFovStale
  refine Runs.finish ?_
  exact (Kept.step State.mirrorLost_kept rfl (Kept.step State.at_kept rfl (Kept.refl _ _)))

theorem execFovSwitch_kept {who : Requester} {data : Word} {s : State} : Runs 64416055295 s (execFovSwitch who data s) := by
  unfold execFovSwitch
  refine Runs.finish ?_
  exact (Kept.step State.trigger_kept rfl (Kept.refl _ _))

theorem execFrameReceive_kept {path : ℕ} {frame : RxFrame} {t : ℕ} {s : State} : Runs 47246786560 s (execFrameReceive path frame t s) := by
  unfold execFrameReceive
  refine Runs.finish ?_
  exact (Kept.ite (Kept.step State.frameIn_kept rfl (Kept.step State.at_kept rfl (Kept.refl _ _))) (Kept.refl _ _))

theorem execGapTimeout_kept {session : ℕ} {t : ℕ} {s : State} : Runs 4294967320 s (execGapTimeout session t s) := by
  unfold execGapTimeout
  refine Runs.finish ?_
  exact (Kept.ite (Kept.step State.toWaitKey_kept rfl (Kept.step State.at_kept rfl (Kept.refl _ _))) (Kept.refl _ _))

theorem execGclCancel_kept {who : Requester} {path : ℕ} {data : Word} {s : State} : Runs 64416055295 s (execGclCancel who path data s) := by
  unfold execGclCancel
  refine Runs.finish ?_
  exact (Kept.step State.trigger_kept rfl (Kept.refl _ _))

theorem execGclGo_kept {who : Requester} {path : ℕ} {data : Word} {s : State} : Runs 64416055295 s (execGclGo who path data s) := by
  unfold execGclGo
  refine Runs.finish ?_
  exact (Kept.step State.trigger_kept rfl (Kept.refl _ _))

theorem execGcommitCancel_kept {who : Requester} {data : Word} {s : State} : Runs 64416055295 s (execGcommitCancel who data s) := by
  unfold execGcommitCancel
  refine Runs.finish ?_
  exact (Kept.step State.trigger_kept rfl (Kept.refl _ _))

theorem execGcommitReq_kept {who : Requester} {data : Word} {s : State} : Runs 64416055295 s (execGcommitReq who data s) := by
  unfold execGcommitReq
  refine Runs.finish ?_
  exact (Kept.step State.trigger_kept rfl (Kept.refl _ _))

theorem execGlyphRun_kept {session : ℕ} {s : State} : Runs 49176 s (execGlyphRun session s) := by
  unfold execGlyphRun
  refine Runs.finish ?_
  exact (Kept.step State.updateCommand_kept rfl (Kept.refl _ _))

theorem execGrant_kept {t : ℕ} {s : State} : Runs 38729205760 s (execGrant t s) := by
  unfold execGrant
  refine Runs.finish ?_
  exact (Kept.step State.grant_kept rfl (Kept.step State.at_kept rfl (Kept.refl _ _)))

theorem execGrantRelease_kept {fault : Bool} {t : ℕ} {s : State} : Runs 4299161600 s (execGrantRelease fault t s) := by
  unfold execGrantRelease
  refine Runs.finish ?_
  exact (Kept.step State.release_kept rfl (Kept.step State.at_kept rfl (Kept.refl _ _)))

theorem execHardBoundary_kept {channel : ℕ} {raster : Bool} {t : ℕ} {s : State} : Runs 4311744512 s (execHardBoundary channel raster t s) := by
  unfold execHardBoundary
  refine Runs.finish ?_
  exact (Kept.step State.hardBoundary_kept rfl (Kept.step State.at_kept rfl (Kept.refl _ _)))

theorem execHeartbeat_kept {path : ℕ} {mirror : Bool} {t : ℕ} {s : State} : Runs 4299161600 s (execHeartbeat path mirror t s) := by
  unfold execHeartbeat
  refine Runs.finish ?_
  exact (Kept.ite (Kept.step State.heartbeat_kept rfl (Kept.step State.at_kept rfl (Kept.refl _ _))) (Kept.refl _ _))

theorem execHeartbeatLoss_kept {t : ℕ} {s : State} : Runs 38729205760 s (execHeartbeatLoss t s) := by
  unfold execHeartbeatLoss
  refine Runs.finish ?_
  exact (Kept.step State.beatLoss_kept rfl (Kept.step State.at_kept rfl (Kept.refl _ _)))

theorem execHepPerstN_kept {t : ℕ} {s : State} : Runs 4362076160 s (execHepPerstN t s) := by
  unfold execHepPerstN
  refine Runs.finish ?_
  exact (Kept.step State.hepReset_kept rfl (Kept.step State.at_kept rfl (Kept.refl _ _)))

theorem execHoldupMeasure_kept {t : ℕ} {s : State} : Runs 38923141120 s (execHoldupMeasure t s) := by
  unfold execHoldupMeasure
  refine Runs.finish ?_
  exact (Kept.step State.holdMeasure_kept rfl (Kept.step State.at_kept rfl (Kept.refl _ _)))

theorem execHoldupMeasureTimeout_kept {t : ℕ} {s : State} : Runs 48586817540 s (execHoldupMeasureTimeout t s) := by
  unfold execHoldupMeasureTimeout
  refine Runs.finish ?_
  exact (Kept.ite (Kept.step State.bootFlush_kept rfl (Kept.step State.holdTimeout_kept rfl (Kept.step State.at_kept rfl (Kept.refl _ _)))) (Kept.refl _ _))

theorem execHousekeepingRound_kept {round : Round} {t : ℕ} {s : State} : Runs 205084622847 s (execHousekeepingRound round t s) := by
  unfold execHousekeepingRound
  refine Runs.finish ?_
  exact (Kept.step State.housekeeping_kept rfl (Kept.step State.at_kept rfl (Kept.refl _ _)))

theorem execIlkForce_kept {a : Bool} {b : Bool} {t : ℕ} {s : State} : Runs 4299161604 s (execIlkForce a b t s) := by
  unfold execIlkForce
  refine Runs.finish ?_
  exact (Kept.step State.forcePins_kept rfl (Kept.step State.at_kept rfl (Kept.refl _ _)))

theorem execIngDisable_kept {who : Requester} {data : Word} {s : State} : Runs 64416055295 s (execIngDisable who data s) := by
  unfold execIngDisable
  refine Runs.finish ?_
  exact (Kept.step State.untrigger_kept rfl (Kept.refl _ _))

theorem execIngEnable_kept {who : Requester} {data : Word} {s : State} : Runs 64416055295 s (execIngEnable who data s) := by
  unfold execIngEnable
  refine Runs.finish ?_
  exact (Kept.step State.trigger_kept rfl (Kept.refl _ _))

theorem execIngInjectDone_kept {s : State} : Runs 16 s (execIngInjectDone s) := by
  unfold execIngInjectDone
  refine Runs.finish ?_
  exact (Kept.step State.injectDone_kept rfl (Kept.refl _ _))

theorem execInjectGo_kept {who : Requester} {data : Word} {s : State} : Runs 64416055295 s (execInjectGo who data s) := by
  unfold execInjectGo
  refine Runs.finish ?_
  exact (Kept.step State.trigger_kept rfl (Kept.refl _ _))

theorem execIrqForce_kept {who : Requester} {page : ℕ} {data : Word} {s : State} : Runs 64416055295 s (execIrqForce who page data s) := by
  unfold execIrqForce
  refine Runs.finish ?_
  exact (Kept.step State.writeWord_kept rfl (Kept.refl _ _))

theorem execKeyAccept_kept {session : ℕ} {s : State} : Runs 24 s (execKeyAccept session s) := by
  unfold execKeyAccept
  refine Runs.finish ?_
  exact (Kept.step State.keyAccept_kept rfl (Kept.refl _ _))

theorem execLaneEnable_kept {lane : ℕ} {t : ℕ} {s : State} : Runs 38721816576 s (execLaneEnable lane t s) := by
  unfold execLaneEnable
  refine Runs.finish ?_
  exact (Kept.step State.laneEnable_kept rfl (Kept.step State.at_kept rfl (Kept.refl _ _)))

theorem execLaneRestart_kept {who : Requester} {lane : ℕ} {data : Word} {s : State} : Runs 64416055295 s (execLaneRestart who lane data s) := by
  unfold execLaneRestart
  refine Runs.finish ?_
  exact (Kept.step State.trigger_kept rfl (Kept.refl _ _))

theorem execLaneRetry_kept {lane : ℕ} {t : ℕ} {s : State} : Runs 38721816576 s (execLaneRetry lane t s) := by
  unfold execLaneRetry
  refine Runs.finish ?_
  exact (Kept.step State.laneRetry_kept rfl (Kept.step State.at_kept rfl (Kept.refl _ _)))

theorem execLatch_kept {t : ℕ} {s : State} : Runs 21474844633 s (execLatch t s) := by
  unfold execLatch
  refine Runs.finish ?_
  exact (Kept.ite (Kept.step State.lineEvents_kept rfl (Kept.step State.openWindows_kept rfl (Kept.step State.thmLatch_kept rfl (Kept.step State.trimLatch_kept rfl (Kept.step State.bklLatch_kept rfl (Kept.step State.lyrLatch_kept rfl (Kept.u64 (Kept.step State.lensLatch_kept rfl (Kept.step State.windowLatch_kept rfl (Kept.step State.stagingLatch_kept rfl (Kept.step State.scnLatch_kept rfl (Kept.step State.planLatch_kept rfl (Kept.u1 (Kept.step State.groupCommit_kept rfl (Kept.step State.at_kept rfl (Kept.refl _ _))) rfl)))))) rfl))))))) (Kept.refl _ _))

theorem execLensZeroField_kept {t : ℕ} {s : State} : Runs 4294969344 s (execLensZeroField t s) := by
  unfold execLensZeroField
  refine Runs.finish ?_
  exact (Kept.step State.lensZero_kept rfl (Kept.step State.at_kept rfl (Kept.refl _ _)))

theorem execLineStart_kept {t : ℕ} {s : State} : Runs 47244648411 s (execLineStart t s) := by
  unfold execLineStart
  refine Runs.finish ?_
  exact (Kept.ite (Kept.step State.lineActions_kept rfl (Kept.u1 (Kept.step State.at_kept rfl (Kept.refl _ _)) rfl)) (Kept.ite (Kept.step State.linkLine_kept rfl (Kept.u1 (Kept.step State.at_kept rfl (Kept.refl _ _)) rfl)) (Kept.refl _ _)))

theorem execLinkDown_kept {path : ℕ} {aligned : Bool} {localFault : Bool} {remoteFault : Bool} {t : ℕ} {s : State} : Runs 4301258756 s (execLinkDown path aligned localFault remoteFault t s) := by
  unfold execLinkDown
  refine Runs.finish ?_
  exact (Kept.ite (Kept.step State.linkLost_kept rfl (Kept.step State.at_kept rfl (Kept.refl _ _))) (Kept.refl _ _))

theorem execLinkUp_kept {path : ℕ} {t : ℕ} {s : State} : Runs 4334862340 s (execLinkUp path t s) := by
  unfold execLinkUp
  refine Runs.finish ?_
  exact (Kept.ite (Kept.step State.linkUpMark_kept rfl (Kept.step State.linkBack_kept rfl (Kept.step State.at_kept rfl (Kept.refl _ _)))) (Kept.refl _ _))

theorem execLnkLaneFault_kept {lane : ℕ} {cause : ℕ} {t : ℕ} {s : State} : Runs 4362076160 s (execLnkLaneFault lane cause t s) := by
  unfold execLnkLaneFault
  refine Runs.finish ?_
  exact (Kept.step State.laneFault_kept rfl (Kept.step State.at_kept rfl (Kept.refl _ _)))

theorem execLnkLaneReady_kept {lane : ℕ} {tx : ℕ} {rx0 : ℕ} {rx1 : ℕ} {t : ℕ} {s : State} : Runs 4362076160 s (execLnkLaneReady lane tx rx0 rx1 t s) := by
  unfold execLnkLaneReady
  refine Runs.finish ?_
  exact (Kept.step State.laneReady_kept rfl (Kept.step State.at_kept rfl (Kept.refl _ _)))

theorem execLnkScanDone_kept {lane : ℕ} {phase : List ScanAxis} {volt : List ScanAxis} {t : ℕ} {s : State} : Runs 4294967296 s (execLnkScanDone lane phase volt t s) := by
  unfold execLnkScanDone
  refine Runs.finish ?_
  exact (Kept.step State.scanDone_kept rfl (Kept.step State.at_kept rfl (Kept.refl _ _)))

theorem execLogAppend_kept {t : ℕ} {s : State} : Runs 38654705668 s (execLogAppend t s) := by
  unfold execLogAppend
  refine Runs.finish ?_
  exact (Kept.step State.logAppend_kept rfl (Kept.step State.at_kept rfl (Kept.refl _ _)))

theorem execLyrDoneWrite_kept {who : Requester} {layer : ℕ} {data : Word} {s : State} : Runs 64416055295 s (execLyrDoneWrite who layer data s) := by
  unfold execLyrDoneWrite
  refine Runs.finish ?_
  exact (Kept.step State.writeWord_kept rfl (Kept.refl _ _))

theorem execLyrFaultDrop_kept {layer : ℕ} {t : ℕ} {s : State} : Runs 12884902784 s (execLyrFaultDrop layer t s) := by
  unfold execLyrFaultDrop
  refine Runs.finish ?_
  exact (Kept.ite (Kept.step State.layerDrop_kept rfl (Kept.step State.at_kept rfl (Kept.refl _ _))) (Kept.refl _ _))

theorem execMarigoldReady_kept {t : ℕ} {s : State} : Runs 68174151679 s (execMarigoldReady t s) := by
  unfold execMarigoldReady
  refine Runs.finish ?_
  exact (Kept.step State.certCheck_kept rfl (Kept.step State.mgReady_kept rfl (Kept.step State.at_kept rfl (Kept.refl _ _))))

theorem execMarigoldRestart_kept {t : ℕ} {s : State} : Runs 39862714368 s (execMarigoldRestart t s) := by
  unfold execMarigoldRestart
  refine Runs.finish ?_
  exact (Kept.step State.mgRestart_kept rfl (Kept.step State.at_kept rfl (Kept.refl _ _)))

theorem execMbActivate_kept {channel : ℕ} {host : List Byte} {t : ℕ} {s : State} : Runs 177310056452 s (execMbActivate channel host t s) := by
  unfold execMbActivate
  refine Runs.finish ?_
  extract_lets +onlyGivenNames -merge -useContext x1
  have k2 : Kept 177310056452 s x1 := by
    unfold x1
    unfold State.signedService
    refine Kept.ite ?_ (Kept.step State.at_kept rfl (Kept.refl _ _))
    split
    · exact (Kept.step State.at_kept rfl (Kept.refl _ _))
    · refine Kept.ite (Kept.step State.at_kept rfl (Kept.refl _ _)) ?_
      extract_lets +onlyGivenNames -merge -useContext x3
      extract_lets +onlyGivenNames -merge -useContext x4
      extract_lets +onlyGivenNames -merge -useContext x5
      extract_lets +onlyGivenNames -merge -useContext x6
      refine Kept.ite (Kept.step State.mbEnd_kept rfl (Kept.step State.raise_kept rfl (Kept.step State.add_kept rfl (Kept.step State.at_kept rfl (Kept.refl _ _))))) ?_
      refine Kept.ite (Kept.step State.mbEnd_kept rfl (Kept.step State.at_kept rfl (Kept.refl _ _))) ?_
      extract_lets +onlyGivenNames -merge -useContext x7
      refine Kept.ite (Kept.step State.mbEnd_kept rfl (Kept.step State.at_kept rfl (Kept.refl _ _))) ?_
      refine Kept.ite (Kept.step State.mbEnd_kept rfl (Kept.step State.raise_kept rfl (Kept.step State.add_kept rfl (Kept.step State.at_kept rfl (Kept.refl _ _))))) ?_
      extract_lets +onlyGivenNames -merge -useContext x8
      extract_lets +onlyGivenNames -merge -useContext x9
      have k10 : Kept 177310056452 s x9 := (Kept.u1073741824 (Kept.step State.at_kept rfl (Kept.refl _ _)) rfl)
      unfold State.mbServe
      exact (Kept.ite (Kept.step State.mbEnd_kept rfl k10) (Kept.step State.mbEnd_kept rfl (Kept.step State.svcActivate_kept rfl k10)))
  exact (Kept.step State.certCheck_kept rfl (Kept.ite (Kept.step State.mgRestart_kept rfl k2) k2))

theorem execMbAttest_kept {channel : ℕ} {host : List Byte} {t : ℕ} {s : State} : Runs 48318431236 s (execMbAttest channel host t s) := by
  unfold execMbAttest
  refine Runs.finish ?_
  refine Kept.step State.certCheck_kept rfl ?_
  unfold State.signedService
  refine Kept.ite ?_ (Kept.step State.at_kept rfl (Kept.refl _ _))
  split
  · exact (Kept.step State.at_kept rfl (Kept.refl _ _))
  · refine Kept.ite (Kept.step State.at_kept rfl (Kept.refl _ _)) ?_
    extract_lets +onlyGivenNames -merge -useContext x1
    extract_lets +onlyGivenNames -merge -useContext x2
    extract_lets +onlyGivenNames -merge -useContext x3
    extract_lets +onlyGivenNames -merge -useContext x4
    refine Kept.ite (Kept.step State.mbEnd_kept rfl (Kept.step State.raise_kept rfl (Kept.step State.add_kept rfl (Kept.step State.at_kept rfl (Kept.refl _ _))))) ?_
    refine Kept.ite (Kept.step State.mbEnd_kept rfl (Kept.step State.at_kept rfl (Kept.refl _ _))) ?_
    extract_lets +onlyGivenNames -merge -useContext x5
    refine Kept.ite (Kept.step State.mbEnd_kept rfl (Kept.step State.at_kept rfl (Kept.refl _ _))) ?_
    refine Kept.ite (Kept.step State.mbEnd_kept rfl (Kept.step State.raise_kept rfl (Kept.step State.add_kept rfl (Kept.step State.at_kept rfl (Kept.refl _ _))))) ?_
    extract_lets +onlyGivenNames -merge -useContext x6
    extract_lets +onlyGivenNames -merge -useContext x7
    have k8 : Kept 48318431236 s x7 := (Kept.u1073741824 (Kept.step State.at_kept rfl (Kept.refl _ _)) rfl)
    unfold State.mbServe
    exact (Kept.ite (Kept.step State.mbEnd_kept rfl k8) (Kept.step State.mbEnd_kept rfl (Kept.step State.svcAttest_kept rfl k8)))

theorem execMbCalCapture_kept {channel : ℕ} {host : List Byte} {t : ℕ} {s : State} : Runs 39728496644 s (execMbCalCapture channel host t s) := by
  unfold execMbCalCapture
  refine Runs.finish ?_
  refine Kept.step State.certCheck_kept rfl ?_
  unfold State.signedService
  refine Kept.ite ?_ (Kept.step State.at_kept rfl (Kept.refl _ _))
  split
  · exact (Kept.step State.at_kept rfl (Kept.refl _ _))
  · refine Kept.ite (Kept.step State.at_kept rfl (Kept.refl _ _)) ?_
    extract_lets +onlyGivenNames -merge -useContext x1
    extract_lets +onlyGivenNames -merge -useContext x2
    extract_lets +onlyGivenNames -merge -useContext x3
    extract_lets +onlyGivenNames -merge -useContext x4
    refine Kept.ite (Kept.step State.mbEnd_kept rfl (Kept.step State.raise_kept rfl (Kept.step State.add_kept rfl (Kept.step State.at_kept rfl (Kept.refl _ _))))) ?_
    refine Kept.ite (Kept.step State.mbEnd_kept rfl (Kept.step State.at_kept rfl (Kept.refl _ _))) ?_
    extract_lets +onlyGivenNames -merge -useContext x5
    refine Kept.ite (Kept.step State.mbEnd_kept rfl (Kept.step State.at_kept rfl (Kept.refl _ _))) ?_
    refine Kept.ite (Kept.step State.mbEnd_kept rfl (Kept.step State.raise_kept rfl (Kept.step State.add_kept rfl (Kept.step State.at_kept rfl (Kept.refl _ _))))) ?_
    extract_lets +onlyGivenNames -merge -useContext x6
    extract_lets +onlyGivenNames -merge -useContext x7
    have k8 : Kept 39728496644 s x7 := (Kept.u1073741824 (Kept.step State.at_kept rfl (Kept.refl _ _)) rfl)
    unfold State.mbServe
    exact (Kept.ite (Kept.step State.mbEnd_kept rfl k8) (Kept.step State.mbEnd_kept rfl (Kept.step State.svcCalCapture_kept rfl k8)))

theorem execMbCommit_kept {channel : ℕ} {host : List Byte} {t : ℕ} {s : State} : Runs 39728496644 s (execMbCommit channel host t s) := by
  unfold execMbCommit
  refine Runs.finish ?_
  refine Kept.step State.certCheck_kept rfl ?_
  unfold State.signedService
  refine Kept.ite ?_ (Kept.step State.at_kept rfl (Kept.refl _ _))
  split
  · exact (Kept.step State.at_kept rfl (Kept.refl _ _))
  · refine Kept.ite (Kept.step State.at_kept rfl (Kept.refl _ _)) ?_
    extract_lets +onlyGivenNames -merge -useContext x1
    extract_lets +onlyGivenNames -merge -useContext x2
    extract_lets +onlyGivenNames -merge -useContext x3
    extract_lets +onlyGivenNames -merge -useContext x4
    refine Kept.ite (Kept.step State.mbEnd_kept rfl (Kept.step State.raise_kept rfl (Kept.step State.add_kept rfl (Kept.step State.at_kept rfl (Kept.refl _ _))))) ?_
    refine Kept.ite (Kept.step State.mbEnd_kept rfl (Kept.step State.at_kept rfl (Kept.refl _ _))) ?_
    extract_lets +onlyGivenNames -merge -useContext x5
    refine Kept.ite (Kept.step State.mbEnd_kept rfl (Kept.step State.at_kept rfl (Kept.refl _ _))) ?_
    refine Kept.ite (Kept.step State.mbEnd_kept rfl (Kept.step State.raise_kept rfl (Kept.step State.add_kept rfl (Kept.step State.at_kept rfl (Kept.refl _ _))))) ?_
    extract_lets +onlyGivenNames -merge -useContext x6
    extract_lets +onlyGivenNames -merge -useContext x7
    have k8 : Kept 39728496644 s x7 := (Kept.u1073741824 (Kept.step State.at_kept rfl (Kept.refl _ _)) rfl)
    unfold State.mbServe
    exact (Kept.ite (Kept.step State.mbEnd_kept rfl k8) (Kept.step State.mbEnd_kept rfl (Kept.step State.svcCommit_kept rfl k8)))

theorem execMbDomain_kept {channel : ℕ} {host : List Byte} {answers : Bool} {t : ℕ} {s : State} : Runs 59584217087 s (execMbDomain channel host answers t s) := by
  unfold execMbDomain
  refine Runs.finish ?_
  refine Kept.step State.certCheck_kept rfl ?_
  unfold State.signedService
  refine Kept.ite ?_ (Kept.step State.at_kept rfl (Kept.refl _ _))
  split
  · exact (Kept.step State.at_kept rfl (Kept.refl _ _))
  · refine Kept.ite (Kept.step State.at_kept rfl (Kept.refl _ _)) ?_
    extract_lets +onlyGivenNames -merge -useContext x1
    extract_lets +onlyGivenNames -merge -useContext x2
    extract_lets +onlyGivenNames -merge -useContext x3
    extract_lets +onlyGivenNames -merge -useContext x4
    refine Kept.ite (Kept.step State.mbEnd_kept rfl (Kept.step State.raise_kept rfl (Kept.step State.add_kept rfl (Kept.step State.at_kept rfl (Kept.refl _ _))))) ?_
    refine Kept.ite (Kept.step State.mbEnd_kept rfl (Kept.step State.at_kept rfl (Kept.refl _ _))) ?_
    extract_lets +onlyGivenNames -merge -useContext x5
    refine Kept.ite (Kept.step State.mbEnd_kept rfl (Kept.step State.at_kept rfl (Kept.refl _ _))) ?_
    refine Kept.ite (Kept.step State.mbEnd_kept rfl (Kept.step State.raise_kept rfl (Kept.step State.add_kept rfl (Kept.step State.at_kept rfl (Kept.refl _ _))))) ?_
    extract_lets +onlyGivenNames -merge -useContext x6
    extract_lets +onlyGivenNames -merge -useContext x7
    have k8 : Kept 59584217087 s x7 := (Kept.u1073741824 (Kept.step State.at_kept rfl (Kept.refl _ _)) rfl)
    unfold State.mbServe
    exact (Kept.ite (Kept.step State.mbEnd_kept rfl k8) (Kept.step State.mbEnd_kept rfl (Kept.step State.svcDomain_kept rfl k8)))

theorem execMbIdentity_kept {channel : ℕ} {host : List Byte} {t : ℕ} {s : State} : Runs 39728496644 s (execMbIdentity channel host t s) := by
  unfold execMbIdentity
  refine Runs.finish ?_
  refine Kept.step State.certCheck_kept rfl ?_
  unfold State.signedService
  refine Kept.ite ?_ (Kept.step State.at_kept rfl (Kept.refl _ _))
  split
  · exact (Kept.step State.at_kept rfl (Kept.refl _ _))
  · refine Kept.ite (Kept.step State.at_kept rfl (Kept.refl _ _)) ?_
    extract_lets +onlyGivenNames -merge -useContext x1
    extract_lets +onlyGivenNames -merge -useContext x2
    extract_lets +onlyGivenNames -merge -useContext x3
    extract_lets +onlyGivenNames -merge -useContext x4
    refine Kept.ite (Kept.step State.mbEnd_kept rfl (Kept.step State.raise_kept rfl (Kept.step State.add_kept rfl (Kept.step State.at_kept rfl (Kept.refl _ _))))) ?_
    refine Kept.ite (Kept.step State.mbEnd_kept rfl (Kept.step State.at_kept rfl (Kept.refl _ _))) ?_
    extract_lets +onlyGivenNames -merge -useContext x5
    refine Kept.ite (Kept.step State.mbEnd_kept rfl (Kept.step State.at_kept rfl (Kept.refl _ _))) ?_
    refine Kept.ite (Kept.step State.mbEnd_kept rfl (Kept.step State.raise_kept rfl (Kept.step State.add_kept rfl (Kept.step State.at_kept rfl (Kept.refl _ _))))) ?_
    extract_lets +onlyGivenNames -merge -useContext x6
    extract_lets +onlyGivenNames -merge -useContext x7
    have k8 : Kept 39728496644 s x7 := (Kept.u1073741824 (Kept.step State.at_kept rfl (Kept.refl _ _)) rfl)
    unfold State.mbServe
    exact (Kept.ite (Kept.step State.mbEnd_kept rfl k8) (Kept.step State.mbEnd_kept rfl (Kept.step State.svcIdentity_kept rfl k8)))

theorem execMbKeyClear_kept {channel : ℕ} {host : List Byte} {t : ℕ} {s : State} : Runs 39728496660 s (execMbKeyClear channel host t s) := by
  unfold execMbKeyClear
  refine Runs.finish ?_
  refine Kept.step State.certCheck_kept rfl ?_
  unfold State.signedService
  refine Kept.ite ?_ (Kept.step State.at_kept rfl (Kept.refl _ _))
  split
  · exact (Kept.step State.at_kept rfl (Kept.refl _ _))
  · refine Kept.ite (Kept.step State.at_kept rfl (Kept.refl _ _)) ?_
    extract_lets +onlyGivenNames -merge -useContext x1
    extract_lets +onlyGivenNames -merge -useContext x2
    extract_lets +onlyGivenNames -merge -useContext x3
    extract_lets +onlyGivenNames -merge -useContext x4
    refine Kept.ite (Kept.step State.mbEnd_kept rfl (Kept.step State.raise_kept rfl (Kept.step State.add_kept rfl (Kept.step State.at_kept rfl (Kept.refl _ _))))) ?_
    refine Kept.ite (Kept.step State.mbEnd_kept rfl (Kept.step State.at_kept rfl (Kept.refl _ _))) ?_
    extract_lets +onlyGivenNames -merge -useContext x5
    refine Kept.ite (Kept.step State.mbEnd_kept rfl (Kept.step State.at_kept rfl (Kept.refl _ _))) ?_
    refine Kept.ite (Kept.step State.mbEnd_kept rfl (Kept.step State.raise_kept rfl (Kept.step State.add_kept rfl (Kept.step State.at_kept rfl (Kept.refl _ _))))) ?_
    extract_lets +onlyGivenNames -merge -useContext x6
    extract_lets +onlyGivenNames -merge -useContext x7
    have k8 : Kept 39728496660 s x7 := (Kept.u1073741824 (Kept.step State.at_kept rfl (Kept.refl _ _)) rfl)
    unfold State.mbServe
    exact (Kept.ite (Kept.step State.mbEnd_kept rfl k8) (Kept.step State.mbEnd_kept rfl (Kept.step State.svcKeyClear_kept rfl k8)))

theorem execMbKeyLoad_kept {channel : ℕ} {host : List Byte} {t : ℕ} {s : State} : Runs 39730593812 s (execMbKeyLoad channel host t s) := by
  unfold execMbKeyLoad
  refine Runs.finish ?_
  refine Kept.step State.certCheck_kept rfl ?_
  unfold State.signedService
  refine Kept.ite ?_ (Kept.step State.at_kept rfl (Kept.refl _ _))
  split
  · exact (Kept.step State.at_kept rfl (Kept.refl _ _))
  · refine Kept.ite (Kept.step State.at_kept rfl (Kept.refl _ _)) ?_
    extract_lets +onlyGivenNames -merge -useContext x1
    extract_lets +onlyGivenNames -merge -useContext x2
    extract_lets +onlyGivenNames -merge -useContext x3
    extract_lets +onlyGivenNames -merge -useContext x4
    refine Kept.ite (Kept.step State.mbEnd_kept rfl (Kept.step State.raise_kept rfl (Kept.step State.add_kept rfl (Kept.step State.at_kept rfl (Kept.refl _ _))))) ?_
    refine Kept.ite (Kept.step State.mbEnd_kept rfl (Kept.step State.at_kept rfl (Kept.refl _ _))) ?_
    extract_lets +onlyGivenNames -merge -useContext x5
    refine Kept.ite (Kept.step State.mbEnd_kept rfl (Kept.step State.at_kept rfl (Kept.refl _ _))) ?_
    refine Kept.ite (Kept.step State.mbEnd_kept rfl (Kept.step State.raise_kept rfl (Kept.step State.add_kept rfl (Kept.step State.at_kept rfl (Kept.refl _ _))))) ?_
    extract_lets +onlyGivenNames -merge -useContext x6
    extract_lets +onlyGivenNames -merge -useContext x7
    have k8 : Kept 39730593812 s x7 := (Kept.u1073741824 (Kept.step State.at_kept rfl (Kept.refl _ _)) rfl)
    unfold State.mbServe
    exact (Kept.ite (Kept.step State.mbEnd_kept rfl k8) (Kept.step State.mbEnd_kept rfl (Kept.step State.svcKeyLoad_kept rfl k8)))

theorem execMbLifecycle_kept {channel : ℕ} {host : List Byte} {t : ℕ} {s : State} : Runs 39728496660 s (execMbLifecycle channel host t s) := by
  unfold execMbLifecycle
  refine Runs.finish ?_
  refine Kept.step State.certCheck_kept rfl ?_
  unfold State.signedService
  refine Kept.ite ?_ (Kept.step State.at_kept rfl (Kept.refl _ _))
  split
  · exact (Kept.step State.at_kept rfl (Kept.refl _ _))
  · refine Kept.ite (Kept.step State.at_kept rfl (Kept.refl _ _)) ?_
    extract_lets +onlyGivenNames -merge -useContext x1
    extract_lets +onlyGivenNames -merge -useContext x2
    extract_lets +onlyGivenNames -merge -useContext x3
    extract_lets +onlyGivenNames -merge -useContext x4
    refine Kept.ite (Kept.step State.mbEnd_kept rfl (Kept.step State.raise_kept rfl (Kept.step State.add_kept rfl (Kept.step State.at_kept rfl (Kept.refl _ _))))) ?_
    refine Kept.ite (Kept.step State.mbEnd_kept rfl (Kept.step State.at_kept rfl (Kept.refl _ _))) ?_
    extract_lets +onlyGivenNames -merge -useContext x5
    refine Kept.ite (Kept.step State.mbEnd_kept rfl (Kept.step State.at_kept rfl (Kept.refl _ _))) ?_
    refine Kept.ite (Kept.step State.mbEnd_kept rfl (Kept.step State.raise_kept rfl (Kept.step State.add_kept rfl (Kept.step State.at_kept rfl (Kept.refl _ _))))) ?_
    extract_lets +onlyGivenNames -merge -useContext x6
    extract_lets +onlyGivenNames -merge -useContext x7
    have k8 : Kept 39728496660 s x7 := (Kept.u1073741824 (Kept.step State.at_kept rfl (Kept.refl _ _)) rfl)
    unfold State.mbServe
    exact (Kept.ite (Kept.step State.mbEnd_kept rfl k8) (Kept.step State.mbEnd_kept rfl (Kept.step State.svcLifecycle_kept rfl k8)))

theorem execMbLogRead_kept {channel : Nat} {host : List Byte} {t : Nat} {s : State} : Runs 38654754816 s (execMbLogRead channel host t s) := by
  unfold execMbLogRead State.openService State.mbServe
  refine Runs.finish (Kept.ite ?_ (Kept.step State.at_kept rfl (Kept.refl _ _)))
  cases (s.at t).mbRequest channel host with
  | none => exact Kept.step State.at_kept rfl (Kept.refl _ _)
  | some b =>
    refine Kept.ite (Kept.ite ?_ ?_) (Kept.step State.at_kept rfl (Kept.refl _ _))
    · exact Kept.step State.mbEnd_kept rfl (Kept.step State.at_kept rfl (Kept.refl _ _))
    · exact Kept.step State.mbEnd_kept rfl (Kept.step State.svcLogRead_kept rfl (Kept.step State.at_kept rfl (Kept.refl _ _)))

theorem execMbOwnerEnrol_kept {channel : ℕ} {host : List Byte} {t : ℕ} {s : State} : Runs 39728496644 s (execMbOwnerEnrol channel host t s) := by
  unfold execMbOwnerEnrol
  refine Runs.finish ?_
  refine Kept.step State.certCheck_kept rfl ?_
  unfold State.signedService
  refine Kept.ite ?_ (Kept.step State.at_kept rfl (Kept.refl _ _))
  split
  · exact (Kept.step State.at_kept rfl (Kept.refl _ _))
  · refine Kept.ite (Kept.step State.at_kept rfl (Kept.refl _ _)) ?_
    extract_lets +onlyGivenNames -merge -useContext x1
    extract_lets +onlyGivenNames -merge -useContext x2
    extract_lets +onlyGivenNames -merge -useContext x3
    extract_lets +onlyGivenNames -merge -useContext x4
    refine Kept.ite (Kept.step State.mbEnd_kept rfl (Kept.step State.raise_kept rfl (Kept.step State.add_kept rfl (Kept.step State.at_kept rfl (Kept.refl _ _))))) ?_
    refine Kept.ite (Kept.step State.mbEnd_kept rfl (Kept.step State.at_kept rfl (Kept.refl _ _))) ?_
    extract_lets +onlyGivenNames -merge -useContext x5
    refine Kept.ite (Kept.step State.mbEnd_kept rfl (Kept.step State.at_kept rfl (Kept.refl _ _))) ?_
    refine Kept.ite (Kept.step State.mbEnd_kept rfl (Kept.step State.raise_kept rfl (Kept.step State.add_kept rfl (Kept.step State.at_kept rfl (Kept.refl _ _))))) ?_
    extract_lets +onlyGivenNames -merge -useContext x6
    extract_lets +onlyGivenNames -merge -useContext x7
    have k8 : Kept 39728496644 s x7 := (Kept.u1073741824 (Kept.step State.at_kept rfl (Kept.refl _ _)) rfl)
    unfold State.mbServe
    exact (Kept.ite (Kept.step State.mbEnd_kept rfl k8) (Kept.step State.mbEnd_kept rfl (Kept.step State.svcEnrol_kept rfl k8)))

theorem execMbOwnerRevoke_kept {channel : ℕ} {host : List Byte} {t : ℕ} {s : State} : Runs 39728496644 s (execMbOwnerRevoke channel host t s) := by
  unfold execMbOwnerRevoke
  refine Runs.finish ?_
  refine Kept.step State.certCheck_kept rfl ?_
  unfold State.signedService
  refine Kept.ite ?_ (Kept.step State.at_kept rfl (Kept.refl _ _))
  split
  · exact (Kept.step State.at_kept rfl (Kept.refl _ _))
  · refine Kept.ite (Kept.step State.at_kept rfl (Kept.refl _ _)) ?_
    extract_lets +onlyGivenNames -merge -useContext x1
    extract_lets +onlyGivenNames -merge -useContext x2
    extract_lets +onlyGivenNames -merge -useContext x3
    extract_lets +onlyGivenNames -merge -useContext x4
    refine Kept.ite (Kept.step State.mbEnd_kept rfl (Kept.step State.raise_kept rfl (Kept.step State.add_kept rfl (Kept.step State.at_kept rfl (Kept.refl _ _))))) ?_
    refine Kept.ite (Kept.step State.mbEnd_kept rfl (Kept.step State.at_kept rfl (Kept.refl _ _))) ?_
    extract_lets +onlyGivenNames -merge -useContext x5
    refine Kept.ite (Kept.step State.mbEnd_kept rfl (Kept.step State.at_kept rfl (Kept.refl _ _))) ?_
    refine Kept.ite (Kept.step State.mbEnd_kept rfl (Kept.step State.raise_kept rfl (Kept.step State.add_kept rfl (Kept.step State.at_kept rfl (Kept.refl _ _))))) ?_
    extract_lets +onlyGivenNames -merge -useContext x6
    extract_lets +onlyGivenNames -merge -useContext x7
    have k8 : Kept 39728496644 s x7 := (Kept.u1073741824 (Kept.step State.at_kept rfl (Kept.refl _ _)) rfl)
    unfold State.mbServe
    exact (Kept.ite (Kept.step State.mbEnd_kept rfl k8) (Kept.step State.mbEnd_kept rfl (Kept.step State.svcRevoke_kept rfl k8)))

theorem execMbPrivWrite_kept {channel : ℕ} {host : List Byte} {t : ℕ} {s : State} : Runs 68711022591 s (execMbPrivWrite channel host t s) := by
  unfold execMbPrivWrite
  refine Runs.finish ?_
  refine Kept.step State.certCheck_kept rfl ?_
  unfold State.signedService
  refine Kept.ite ?_ (Kept.step State.at_kept rfl (Kept.refl _ _))
  split
  · exact (Kept.step State.at_kept rfl (Kept.refl _ _))
  · refine Kept.ite (Kept.step State.at_kept rfl (Kept.refl _ _)) ?_
    extract_lets +onlyGivenNames -merge -useContext x1
    extract_lets +onlyGivenNames -merge -useContext x2
    extract_lets +onlyGivenNames -merge -useContext x3
    extract_lets +onlyGivenNames -merge -useContext x4
    refine Kept.ite (Kept.step State.mbEnd_kept rfl (Kept.step State.raise_kept rfl (Kept.step State.add_kept rfl (Kept.step State.at_kept rfl (Kept.refl _ _))))) ?_
    refine Kept.ite (Kept.step State.mbEnd_kept rfl (Kept.step State.at_kept rfl (Kept.refl _ _))) ?_
    extract_lets +onlyGivenNames -merge -useContext x5
    refine Kept.ite (Kept.step State.mbEnd_kept rfl (Kept.step State.at_kept rfl (Kept.refl _ _))) ?_
    refine Kept.ite (Kept.step State.mbEnd_kept rfl (Kept.step State.raise_kept rfl (Kept.step State.add_kept rfl (Kept.step State.at_kept rfl (Kept.refl _ _))))) ?_
    extract_lets +onlyGivenNames -merge -useContext x6
    extract_lets +onlyGivenNames -merge -useContext x7
    have k8 : Kept 68711022591 s x7 := (Kept.u1073741824 (Kept.step State.at_kept rfl (Kept.refl _ _)) rfl)
    unfold State.mbServe
    exact (Kept.ite (Kept.step State.mbEnd_kept rfl k8) (Kept.step State.mbEnd_kept rfl (Kept.step State.svcPrivWrite_kept rfl k8)))

theorem execMbStatus_kept {channel : ℕ} {host : List Byte} {t : ℕ} {s : State} : Runs 38654754816 s (execMbStatus channel host t s) := by
  unfold execMbStatus
  refine Runs.finish ?_
  exact (Kept.step State.svcStatusReq_kept rfl (Kept.step State.at_kept rfl (Kept.refl _ _)))

theorem execMbTestUnlock_kept {channel : ℕ} {host : List Byte} {t : ℕ} {s : State} : Runs 39728496660 s (execMbTestUnlock channel host t s) := by
  unfold execMbTestUnlock
  refine Runs.finish ?_
  refine Kept.step State.certCheck_kept rfl ?_
  unfold State.signedService
  refine Kept.ite ?_ (Kept.step State.at_kept rfl (Kept.refl _ _))
  split
  · exact (Kept.step State.at_kept rfl (Kept.refl _ _))
  · refine Kept.ite (Kept.step State.at_kept rfl (Kept.refl _ _)) ?_
    extract_lets +onlyGivenNames -merge -useContext x1
    extract_lets +onlyGivenNames -merge -useContext x2
    extract_lets +onlyGivenNames -merge -useContext x3
    extract_lets +onlyGivenNames -merge -useContext x4
    refine Kept.ite (Kept.step State.mbEnd_kept rfl (Kept.step State.raise_kept rfl (Kept.step State.add_kept rfl (Kept.step State.at_kept rfl (Kept.refl _ _))))) ?_
    refine Kept.ite (Kept.step State.mbEnd_kept rfl (Kept.step State.at_kept rfl (Kept.refl _ _))) ?_
    extract_lets +onlyGivenNames -merge -useContext x5
    refine Kept.ite (Kept.step State.mbEnd_kept rfl (Kept.step State.at_kept rfl (Kept.refl _ _))) ?_
    refine Kept.ite (Kept.step State.mbEnd_kept rfl (Kept.step State.raise_kept rfl (Kept.step State.add_kept rfl (Kept.step State.at_kept rfl (Kept.refl _ _))))) ?_
    extract_lets +onlyGivenNames -merge -useContext x6
    extract_lets +onlyGivenNames -merge -useContext x7
    have k8 : Kept 39728496660 s x7 := (Kept.u1073741824 (Kept.step State.at_kept rfl (Kept.refl _ _)) rfl)
    unfold State.mbServe
    exact (Kept.ite (Kept.step State.mbEnd_kept rfl k8) (Kept.step State.mbEnd_kept rfl (Kept.step State.svcUnlock_kept rfl k8)))

theorem execMbUpdateBegin_kept {channel : ℕ} {host : List Byte} {t : ℕ} {s : State} : Runs 39728496644 s (execMbUpdateBegin channel host t s) := by
  unfold execMbUpdateBegin
  refine Runs.finish ?_
  refine Kept.step State.certCheck_kept rfl ?_
  unfold State.signedService
  refine Kept.ite ?_ (Kept.step State.at_kept rfl (Kept.refl _ _))
  split
  · exact (Kept.step State.at_kept rfl (Kept.refl _ _))
  · refine Kept.ite (Kept.step State.at_kept rfl (Kept.refl _ _)) ?_
    extract_lets +onlyGivenNames -merge -useContext x1
    extract_lets +onlyGivenNames -merge -useContext x2
    extract_lets +onlyGivenNames -merge -useContext x3
    extract_lets +onlyGivenNames -merge -useContext x4
    refine Kept.ite (Kept.step State.mbEnd_kept rfl (Kept.step State.raise_kept rfl (Kept.step State.add_kept rfl (Kept.step State.at_kept rfl (Kept.refl _ _))))) ?_
    refine Kept.ite (Kept.step State.mbEnd_kept rfl (Kept.step State.at_kept rfl (Kept.refl _ _))) ?_
    extract_lets +onlyGivenNames -merge -useContext x5
    refine Kept.ite (Kept.step State.mbEnd_kept rfl (Kept.step State.at_kept rfl (Kept.refl _ _))) ?_
    refine Kept.ite (Kept.step State.mbEnd_kept rfl (Kept.step State.raise_kept rfl (Kept.step State.add_kept rfl (Kept.step State.at_kept rfl (Kept.refl _ _))))) ?_
    extract_lets +onlyGivenNames -merge -useContext x6
    extract_lets +onlyGivenNames -merge -useContext x7
    have k8 : Kept 39728496644 s x7 := (Kept.u1073741824 (Kept.step State.at_kept rfl (Kept.refl _ _)) rfl)
    unfold State.mbServe
    exact (Kept.ite (Kept.step State.mbEnd_kept rfl k8) (Kept.step State.mbEnd_kept rfl (Kept.step State.svcUpdateBegin_kept rfl k8)))

theorem execMbUpdateBlock_kept {channel : ℕ} {host : List Byte} {t : ℕ} {s : State} : Runs 39728496644 s (execMbUpdateBlock channel host t s) := by
  unfold execMbUpdateBlock
  refine Runs.finish ?_
  refine Kept.step State.certCheck_kept rfl ?_
  unfold State.signedService
  refine Kept.ite ?_ (Kept.step State.at_kept rfl (Kept.refl _ _))
  split
  · exact (Kept.step State.at_kept rfl (Kept.refl _ _))
  · refine Kept.ite (Kept.step State.at_kept rfl (Kept.refl _ _)) ?_
    extract_lets +onlyGivenNames -merge -useContext x1
    extract_lets +onlyGivenNames -merge -useContext x2
    extract_lets +onlyGivenNames -merge -useContext x3
    extract_lets +onlyGivenNames -merge -useContext x4
    refine Kept.ite (Kept.step State.mbEnd_kept rfl (Kept.step State.raise_kept rfl (Kept.step State.add_kept rfl (Kept.step State.at_kept rfl (Kept.refl _ _))))) ?_
    refine Kept.ite (Kept.step State.mbEnd_kept rfl (Kept.step State.at_kept rfl (Kept.refl _ _))) ?_
    extract_lets +onlyGivenNames -merge -useContext x5
    refine Kept.ite (Kept.step State.mbEnd_kept rfl (Kept.step State.at_kept rfl (Kept.refl _ _))) ?_
    refine Kept.ite (Kept.step State.mbEnd_kept rfl (Kept.step State.raise_kept rfl (Kept.step State.add_kept rfl (Kept.step State.at_kept rfl (Kept.refl _ _))))) ?_
    extract_lets +onlyGivenNames -merge -useContext x6
    extract_lets +onlyGivenNames -merge -useContext x7
    have k8 : Kept 39728496644 s x7 := (Kept.u1073741824 (Kept.step State.at_kept rfl (Kept.refl _ _)) rfl)
    unfold State.mbServe
    exact (Kept.ite (Kept.step State.mbEnd_kept rfl k8) (Kept.step State.mbEnd_kept rfl (Kept.step State.svcUpdateBlock_kept rfl k8)))

theorem execMbUpdateEnd_kept {channel : ℕ} {host : List Byte} {t : ℕ} {s : State} : Runs 39728496644 s (execMbUpdateEnd channel host t s) := by
  unfold execMbUpdateEnd
  refine Runs.finish ?_
  refine Kept.step State.certCheck_kept rfl ?_
  unfold State.signedService
  refine Kept.ite ?_ (Kept.step State.at_kept rfl (Kept.refl _ _))
  split
  · exact (Kept.step State.at_kept rfl (Kept.refl _ _))
  · refine Kept.ite (Kept.step State.at_kept rfl (Kept.refl _ _)) ?_
    extract_lets +onlyGivenNames -merge -useContext x1
    extract_lets +onlyGivenNames -merge -useContext x2
    extract_lets +onlyGivenNames -merge -useContext x3
    extract_lets +onlyGivenNames -merge -useContext x4
    refine Kept.ite (Kept.step State.mbEnd_kept rfl (Kept.step State.raise_kept rfl (Kept.step State.add_kept rfl (Kept.step State.at_kept rfl (Kept.refl _ _))))) ?_
    refine Kept.ite (Kept.step State.mbEnd_kept rfl (Kept.step State.at_kept rfl (Kept.refl _ _))) ?_
    extract_lets +onlyGivenNames -merge -useContext x5
    refine Kept.ite (Kept.step State.mbEnd_kept rfl (Kept.step State.at_kept rfl (Kept.refl _ _))) ?_
    refine Kept.ite (Kept.step State.mbEnd_kept rfl (Kept.step State.raise_kept rfl (Kept.step State.add_kept rfl (Kept.step State.at_kept rfl (Kept.refl _ _))))) ?_
    extract_lets +onlyGivenNames -merge -useContext x6
    extract_lets +onlyGivenNames -merge -useContext x7
    have k8 : Kept 39728496644 s x7 := (Kept.u1073741824 (Kept.step State.at_kept rfl (Kept.refl _ _)) rfl)
    unfold State.mbServe
    exact (Kept.ite (Kept.step State.mbEnd_kept rfl k8) (Kept.step State.mbEnd_kept rfl (Kept.step State.svcUpdateEnd_kept rfl k8)))

theorem execMbcCancel_kept {who : Requester} {engine : ℕ} {s : State} : Runs 64416055295 s (execMbcCancel who engine s) := by
  unfold execMbcCancel
  refine Runs.finish ?_
  exact (Kept.step State.writeWord_kept rfl (Kept.refl _ _))

theorem execMbcDecodeJob_kept {engine : ℕ} {s : State} : Runs 32 s (execMbcDecodeJob engine s) := by
  unfold execMbcDecodeJob
  refine Runs.finish ?_
  exact (Kept.step State.mbcTake_kept rfl (Kept.refl _ _))

theorem execMbcDisable_kept {who : Requester} {engine : ℕ} {data : Word} {s : State} : Runs 64416055295 s (execMbcDisable who engine data s) := by
  unfold execMbcDisable
  refine Runs.finish ?_
  exact (Kept.step State.untrigger_kept rfl (Kept.refl _ _))

theorem execMbcEncodeJob_kept {engine : ℕ} {s : State} : Runs 32 s (execMbcEncodeJob engine s) := by
  unfold execMbcEncodeJob
  refine Runs.finish ?_
  exact (Kept.step State.mbcTake_kept rfl (Kept.refl _ _))

theorem execMbcJobDone_kept {engine : ℕ} {s : State} : Runs 49184 s (execMbcJobDone engine s) := by
  unfold execMbcJobDone
  refine Runs.finish ?_
  exact (Kept.step State.mbcJobDone_kept rfl (Kept.refl _ _))

theorem execMbcResumeIn_kept {who : Requester} {engine : ℕ} {s : State} : Runs 64416055295 s (execMbcResumeIn who engine s) := by
  unfold execMbcResumeIn
  refine Runs.finish ?_
  exact (Kept.step State.writeWord_kept rfl (Kept.refl _ _))

theorem execMbcResumeOut_kept {who : Requester} {engine : ℕ} {s : State} : Runs 64416055295 s (execMbcResumeOut who engine s) := by
  unfold execMbcResumeOut
  refine Runs.finish ?_
  exact (Kept.step State.writeWord_kept rfl (Kept.refl _ _))

theorem execMbcRingTail_kept {who : Requester} {engine : ℕ} {data : Word} {s : State} : Runs 64416055295 s (execMbcRingTail who engine data s) := by
  unfold execMbcRingTail
  refine Runs.finish ?_
  exact (Kept.step State.writeWord_kept rfl (Kept.refl _ _))

theorem execMbcStopped_kept {engine : ℕ} {s : State} : Runs 49184 s (execMbcStopped engine s) := by
  unfold execMbcStopped
  refine Runs.finish ?_
  exact (Kept.step State.mbcStopped_kept rfl (Kept.refl _ _))

theorem execMbcVerifyJob_kept {engine : ℕ} {s : State} : Runs 32 s (execMbcVerifyJob engine s) := by
  unfold execMbcVerifyJob
  refine Runs.finish ?_
  exact (Kept.step State.mbcTake_kept rfl (Kept.refl _ _))

theorem execMgtCpxKick_kept {who : Requester} {data : Word} {s : State} : Runs 64416055295 s (execMgtCpxKick who data s) := by
  unfold execMgtCpxKick
  refine Runs.finish ?_
  exact (Kept.step State.trigger_kept rfl (Kept.refl _ _))

theorem execMgtCpxRestart_kept {who : Requester} {data : Word} {s : State} : Runs 64416055295 s (execMgtCpxRestart who data s) := by
  unfold execMgtCpxRestart
  refine Runs.finish ?_
  exact (Kept.step State.trigger_kept rfl (Kept.refl _ _))

theorem execNackSend_kept {session : ℕ} {t : ℕ} {s : State} : Runs 4297064464 s (execNackSend session t s) := by
  unfold execNackSend
  refine Runs.finish ?_
  exact (Kept.ite (Kept.step State.nackOut_kept rfl (Kept.step State.at_kept rfl (Kept.refl _ _))) (Kept.refl _ _))

theorem execNocDomainLost_kept {t : ℕ} {s : State} : Runs 67100409855 s (execNocDomainLost t s) := by
  unfold execNocDomainLost
  refine Runs.finish ?_
  exact (Kept.ite (Kept.step State.orderedStop_kept rfl (Kept.step State.at_kept rfl (Kept.refl _ _))) (Kept.refl _ _))

theorem execNpxFragTimeout_kept {path : ℕ} {t : ℕ} {s : State} : Runs 4297064448 s (execNpxFragTimeout path t s) := by
  unfold execNpxFragTimeout
  refine Runs.finish ?_
  exact (Kept.ite (Kept.step State.fragTimeout_kept rfl (Kept.step State.at_kept rfl (Kept.refl _ _))) (Kept.refl _ _))

theorem execNpxGclSwitch_kept {path : ℕ} {t : ℕ} {s : State} : Runs 4297064448 s (execNpxGclSwitch path t s) := by
  unfold execNpxGclSwitch
  refine Runs.finish ?_
  exact (Kept.ite (Kept.step State.gclSwitch_kept rfl (Kept.step State.at_kept rfl (Kept.refl _ _))) (Kept.refl _ _))

theorem execNpxHrxTail_kept {who : Requester} {path : ℕ} {data : Word} {s : State} : Runs 64416055295 s (execNpxHrxTail who path data s) := by
  unfold execNpxHrxTail
  refine Runs.finish ?_
  exact (Kept.step State.writeWord_kept rfl (Kept.refl _ _))

theorem execNpxHtxTail_kept {who : Requester} {path : ℕ} {data : Word} {s : State} : Runs 64416055295 s (execNpxHtxTail who path data s) := by
  unfold execNpxHtxTail
  refine Runs.finish ?_
  exact (Kept.step State.writeWord_kept rfl (Kept.refl _ _))

theorem execNvmeCommandTimeout_kept {drive : ℕ} {late : LateCommand} {t : ℕ} {s : State} : Runs 38692454404 s (execNvmeCommandTimeout drive late t s) := by
  unfold execNvmeCommandTimeout
  refine Runs.finish ?_
  extract_lets +onlyGivenNames -merge -useContext x1
  have k2 : Kept 38692454404 s x1.1 := (Kept.step State.nvmeTimeout_kept rfl (Kept.step State.at_kept rfl (Kept.refl _ _)))
  exact (Kept.ite (Kept.step State.unitFault_kept rfl k2) k2)

theorem execNvsFallback_kept {t : ℕ} {s : State} : Runs 5402263580 s (execNvsFallback t s) := by
  unfold execNvsFallback
  refine Runs.finish ?_
  exact (Kept.step State.certCheck_kept rfl (Kept.step State.fallbackStart_kept rfl (Kept.step State.at_kept rfl (Kept.refl _ _))))

theorem execNvsFallbackEnd_kept {t : ℕ} {s : State} : Runs 4328521756 s (execNvsFallbackEnd t s) := by
  unfold execNvsFallbackEnd
  refine Runs.finish ?_
  exact (Kept.step State.certCheck_kept rfl (Kept.step State.fallbackEnd_kept rfl (Kept.step State.at_kept rfl (Kept.refl _ _))))

theorem execNvsPbDone_kept {player : ℕ} {t : ℕ} {s : State} : Runs 4328521728 s (execNvsPbDone player t s) := by
  unfold execNvsPbDone
  refine Runs.finish ?_
  exact (Kept.step State.playDone_kept rfl (Kept.step State.at_kept rfl (Kept.refl _ _)))

theorem execNvsPbLost_kept {player : ℕ} {t : ℕ} {s : State} : Runs 4328521732 s (execNvsPbLost player t s) := by
  unfold execNvsPbLost
  refine Runs.finish ?_
  exact (Kept.step State.playLost_kept rfl (Kept.step State.at_kept rfl (Kept.refl _ _)))

theorem execNvsSegopDone_kept {t : ℕ} {s : State} : Runs 47546630400 s (execNvsSegopDone t s) := by
  unfold execNvsSegopDone
  refine Runs.finish ?_
  exact (Kept.step State.segopDone_kept rfl (Kept.step State.at_kept rfl (Kept.refl _ _)))

theorem execNvsSegwDone_kept {t : ℕ} {s : State} : Runs 47546630144 s (execNvsSegwDone t s) := by
  unfold execNvsSegwDone
  refine Runs.finish ?_
  exact (Kept.step State.segwDone_kept rfl (Kept.step State.at_kept rfl (Kept.refl _ _)))

theorem execOasisCtrlWrite_kept {who : Requester} {data : Word} {s : State} : Runs 64416055295 s (execOasisCtrlWrite who data s) := by
  unfold execOasisCtrlWrite
  refine Runs.finish ?_
  exact (Kept.step State.writeWord_kept rfl (Kept.refl _ _))

theorem execOasisUnitWrite_kept {frame : ℕ} {region : ℕ} {band : ℕ} {col : ℕ} {t : ℕ} {s : State} : Runs 4295016960 s (execOasisUnitWrite frame region band col t s) := by
  unfold execOasisUnitWrite
  refine Runs.finish ?_
  exact (Kept.step State.oasWrite_kept rfl (Kept.step State.at_kept rfl (Kept.refl _ _)))

theorem execPanelClearingEnd_kept {t : ℕ} {s : State} : Runs 4294969344 s (execPanelClearingEnd t s) := by
  unfold execPanelClearingEnd
  refine Runs.finish ?_
  exact (Kept.step State.panelOn_kept rfl (Kept.step State.at_kept rfl (Kept.refl _ _)))

theorem execPanelDown_kept {who : Requester} {data : Word} {s : State} : Runs 64416055295 s (execPanelDown who data s) := by
  unfold execPanelDown
  refine Runs.finish ?_
  exact (Kept.step State.trigger_kept rfl (Kept.refl _ _))

theorem execPanelRailOff_kept {t : ℕ} {s : State} : Runs 38654707712 s (execPanelRailOff t s) := by
  unfold execPanelRailOff
  refine Runs.finish ?_
  exact (Kept.step State.panelRailOff_kept rfl (Kept.step State.at_kept rfl (Kept.refl _ _)))

theorem execPanelRailOn_kept {answer : RegAnswer} {t : ℕ} {s : State} : Runs 38654707712 s (execPanelRailOn answer t s) := by
  unfold execPanelRailOn
  refine Runs.finish ?_
  exact (Kept.step State.panelRailOn_kept rfl (Kept.step State.at_kept rfl (Kept.refl _ _)))

theorem execPanelUp_kept {who : Requester} {data : Word} {s : State} : Runs 64416055295 s (execPanelUp who data s) := by
  unfold execPanelUp
  refine Runs.finish ?_
  exact (Kept.step State.trigger_kept rfl (Kept.refl _ _))

theorem execPinPulse_kept {entry : ℕ} {t : ℕ} {s : State} : Runs 38654705666 s (execPinPulse entry t s) := by
  unfold execPinPulse
  refine Runs.finish ?_
  refine Kept.ite ?_ (Kept.refl _ _)
  unfold State.crvDispatch
  exact (Kept.ite (Kept.ite (Kept.step State.pinPulseOp_kept rfl (Kept.step State.crvFire_kept rfl (Kept.step State.at_kept rfl (Kept.refl _ _)))) (Kept.ite (Kept.step State.crvTaken_kept rfl (Kept.step State.at_kept rfl (Kept.refl _ _))) (Kept.step State.crvMiss_kept rfl (Kept.step State.at_kept rfl (Kept.refl _ _))))) (Kept.step State.at_kept rfl (Kept.refl _ _)))

theorem execPinPulseEnd_kept {pin : ℕ} {t : ℕ} {s : State} : Runs 38654705666 s (execPinPulseEnd pin t s) := by
  unfold execPinPulseEnd
  refine Runs.finish ?_
  exact (Kept.ite (Kept.step State.pinPulseEndOp_kept rfl (Kept.step State.at_kept rfl (Kept.refl _ _))) (Kept.refl _ _))

theorem execPinSet_kept {entry : ℕ} {t : ℕ} {s : State} : Runs 38654705666 s (execPinSet entry t s) := by
  unfold execPinSet
  refine Runs.finish ?_
  refine Kept.ite ?_ (Kept.refl _ _)
  unfold State.crvDispatch
  exact (Kept.ite (Kept.ite (Kept.step State.pinSetOp_kept rfl (Kept.step State.crvFire_kept rfl (Kept.step State.at_kept rfl (Kept.refl _ _)))) (Kept.ite (Kept.step State.crvTaken_kept rfl (Kept.step State.at_kept rfl (Kept.refl _ _))) (Kept.step State.crvMiss_kept rfl (Kept.step State.at_kept rfl (Kept.refl _ _))))) (Kept.step State.at_kept rfl (Kept.refl _ _)))

theorem execPlanningStart_kept {t : ℕ} {s : State} : Runs 4294967552 s (execPlanningStart t s) := by
  unfold execPlanningStart
  refine Runs.finish ?_
  exact (Kept.step State.planningStart_kept rfl (Kept.step State.at_kept rfl (Kept.refl _ _)))

theorem execPlaybackDeliver_kept {player : ℕ} {t : ℕ} {s : State} : Runs 47278244112 s (execPlaybackDeliver player t s) := by
  unfold execPlaybackDeliver
  refine Runs.finish ?_
  exact (Kept.step State.playDeliver_kept rfl (Kept.step State.at_kept rfl (Kept.refl _ _)))

theorem execPlaybackGo_kept {who : Requester} {player : ℕ} {data : Word} {s : State} : Runs 64416055295 s (execPlaybackGo who player data s) := by
  unfold execPlaybackGo
  refine Runs.finish ?_
  exact (Kept.step State.trigger_kept rfl (Kept.refl _ _))

theorem execPlaybackStop_kept {who : Requester} {player : ℕ} {data : Word} {s : State} : Runs 64416055295 s (execPlaybackStop who player data s) := by
  unfold execPlaybackStop
  refine Runs.finish ?_
  exact (Kept.step State.writeWord_kept rfl (Kept.refl _ _))

theorem execPlcCostmapDone_kept {s : State} : Runs 49408 s (execPlcCostmapDone s) := by
  unfold execPlcCostmapDone
  refine Runs.finish ?_
  exact (Kept.step State.costMapDone_kept rfl (Kept.refl _ _))

theorem execPlcCostmapGo_kept {who : Requester} {data : Word} {s : State} : Runs 64416055295 s (execPlcCostmapGo who data s) := by
  unfold execPlcCostmapGo
  refine Runs.finish ?_
  exact (Kept.step State.trigger_kept rfl (Kept.refl _ _))

theorem execPlcEvacDone_kept {t : ℕ} {s : State} : Runs 38671533316 s (execPlcEvacDone t s) := by
  unfold execPlcEvacDone
  refine Runs.finish ?_
  exact (Kept.step State.evacDone_kept rfl (Kept.step State.at_kept rfl (Kept.refl _ _)))

theorem execPlcHintGo_kept {who : Requester} {data : Word} {s : State} : Runs 64416055295 s (execPlcHintGo who data s) := by
  unfold execPlcHintGo
  refine Runs.finish ?_
  exact (Kept.step State.trigger_kept rfl (Kept.refl _ _))

theorem execPnlOdLoadGo_kept {who : Requester} {data : Word} {s : State} : Runs 64416055295 s (execPnlOdLoadGo who data s) := by
  unfold execPnlOdLoadGo
  refine Runs.finish ?_
  exact (Kept.step State.trigger_kept rfl (Kept.refl _ _))

theorem execPnlOdLoaded_kept {s : State} : Runs 2048 s (execPnlOdLoaded s) := by
  unfold execPnlOdLoaded
  refine Runs.finish ?_
  exact (Kept.step State.odLoaded_kept rfl (Kept.refl _ _))

theorem execPnlPowerDone_kept {s : State} : Runs 2048 s (execPnlPowerDone s) := by
  unfold execPnlPowerDone
  refine Runs.finish ?_
  exact (Kept.step State.panelDone_kept rfl (Kept.refl _ _))

theorem execPnlRwGo_kept {who : Requester} {data : Word} {s : State} : Runs 64416055295 s (execPnlRwGo who data s) := by
  unfold execPnlRwGo
  refine Runs.finish ?_
  exact (Kept.step State.trigger_kept rfl (Kept.refl _ _))

theorem execPorstAssert_kept {t : ℕ} {s : State} : Runs 266287906815 s (execPorstAssert t s) := by
  unfold execPorstAssert
  refine Runs.finish ?_
  exact (Kept.step State.porst_kept rfl (Kept.step State.at_kept rfl (Kept.refl _ _)))

theorem execPtpAnnounce_kept {path : ℕ} {msg : PtpMsg} {data : AnnounceData} {t : ℕ} {s : State} : Runs 4299030529 s (execPtpAnnounce path msg data t s) := by
  unfold execPtpAnnounce
  refine Runs.finish ?_
  exact (Kept.ite (Kept.step State.announceIn_kept rfl (Kept.step State.at_kept rfl (Kept.refl _ _))) (Kept.refl _ _))

theorem execPtpSync_kept {path : ℕ} {msg : PtpMsg} {t : ℕ} {s : State} : Runs 4299030529 s (execPtpSync path msg t s) := by
  unfold execPtpSync
  refine Runs.finish ?_
  exact (Kept.ite (Kept.step State.syncIn_kept rfl (Kept.step State.at_kept rfl (Kept.refl _ _))) (Kept.refl _ _))

theorem execPtpTimeout_kept {path : ℕ} {t : ℕ} {s : State} : Runs 4299030529 s (execPtpTimeout path t s) := by
  unfold execPtpTimeout
  refine Runs.finish ?_
  exact (Kept.ite (Kept.step State.ptpTimeout_kept rfl (Kept.step State.at_kept rfl (Kept.refl _ _))) (Kept.refl _ _))

theorem execPwrBrace_kept {volts : ℕ} {t : ℕ} {s : State} : Runs 4563402756 s (execPwrBrace volts t s) := by
  unfold execPwrBrace
  refine Runs.finish ?_
  exact (Kept.step State.brace_kept rfl (Kept.step State.at_kept rfl (Kept.refl _ _)))

theorem execPwrFail_kept {volts : ℕ} {t : ℕ} {s : State} : Runs 67100409855 s (execPwrFail volts t s) := by
  unfold execPwrFail
  refine Runs.finish ?_
  exact (Kept.step State.fail_kept rfl (Kept.step State.at_kept rfl (Kept.refl _ _)))

theorem execPwrHoldMeasured_kept {t : ℕ} {s : State} : Runs 48586817540 s (execPwrHoldMeasured t s) := by
  unfold execPwrHoldMeasured
  refine Runs.finish ?_
  exact (Kept.ite (Kept.step State.bootFlush_kept rfl (Kept.step State.holdMeasured_kept rfl (Kept.step State.at_kept rfl (Kept.refl _ _)))) (Kept.refl _ _))

theorem execPwrNormal_kept {t : ℕ} {s : State} : Runs 4294967300 s (execPwrNormal t s) := by
  unfold execPwrNormal
  refine Runs.finish ?_
  exact (Kept.step State.normal_kept rfl (Kept.step State.at_kept rfl (Kept.refl _ _)))

theorem execRasFrameDone_kept {t : ℕ} {s : State} : Runs 47248842715 s (execRasFrameDone t s) := by
  unfold execRasFrameDone
  refine Runs.finish ?_
  exact (Kept.ite (Kept.step State.lineActions_kept rfl (Kept.step State.stepLine0_kept rfl (Kept.step State.fadeSkip_kept rfl (Kept.step State.relabelled_kept rfl (Kept.step State.line0Lock_kept rfl (Kept.step State.layerTraffic_kept rfl (Kept.step State.pnlFrame_kept rfl (Kept.step State.lensMapUpdate_kept rfl (Kept.step State.rollFills_kept rfl (Kept.step State.brcFrame_kept rfl (Kept.step State.showStripes_kept rfl (Kept.step State.applyNextTiming_kept rfl (Kept.step State.frameReports_kept rfl (Kept.step State.raise_kept rfl (Kept.step State.snapUnsent_kept rfl (Kept.u3 (Kept.step State.crvFrameEnd_kept rfl (Kept.step State.at_kept rfl (Kept.refl _ _))) rfl)))))))))))))))) (Kept.ite (Kept.step State.linkLine_kept rfl (Kept.u1 (Kept.step State.at_kept rfl (Kept.refl _ _)) rfl)) (Kept.refl _ _)))

theorem execRasFrameRead_kept {t : ℕ} {s : State} : Runs 4294967296 s (execRasFrameRead t s) := by
  unfold execRasFrameRead
  refine Runs.finish ?_
  exact (Kept.ite (Kept.step State.wr_kept rfl (Kept.step State.wr_kept rfl (Kept.step State.at_kept rfl (Kept.refl _ _)))) (Kept.refl _ _))

theorem execRasTransitionDone_kept {t : ℕ} {s : State} : Runs 4294971393 s (execRasTransitionDone t s) := by
  unfold execRasTransitionDone
  refine Runs.finish ?_
  exact (Kept.ite (Kept.step State.raise_kept rfl (Kept.step State.toStep_kept rfl (Kept.step State.fadeEnd_kept rfl (Kept.step State.at_kept rfl (Kept.refl _ _))))) (Kept.refl _ _))

theorem execRayResultAdmit_kept {frame : ℕ} {region : ℕ} {band : ℕ} {col : ℕ} {epoch : ℕ} {sub : ℕ} {line : ℕ} {t : ℕ} {s : State} : Runs 12884902792 s (execRayResultAdmit frame region band col epoch sub line t s) := by
  unfold execRayResultAdmit
  refine Runs.finish ?_
  exact (Kept.step State.rayArrive_kept rfl (Kept.step State.at_kept rfl (Kept.refl _ _)))

theorem execRcvResetPtr_kept {who : Requester} {data : Word} {s : State} : Runs 64416055295 s (execRcvResetPtr who data s) := by
  unfold execRcvResetPtr
  refine Runs.finish ?_
  exact (Kept.step State.trigger_kept rfl (Kept.refl _ _))

theorem execRecoveryGo_kept {who : Requester} {data : Word} {s : State} : Runs 64416055295 s (execRecoveryGo who data s) := by
  unfold execRecoveryGo
  refine Runs.finish ?_
  exact (Kept.step State.trigger_kept rfl (Kept.refl _ _))

theorem execRegisterWrite_kept {who : Requester} {addr : ℕ} {size : ℕ} {data : BitVec 64} {s : State} : Runs 64416055295 s (execRegisterWrite who addr size data s) := by
  unfold execRegisterWrite
  refine Runs.finish ?_
  exact (Kept.step State.writeAccess_kept rfl (Kept.refl _ _))

theorem execRegulatorOn_kept {answer : RegAnswer} {feeds : List ℕ} {t : ℕ} {s : State} : Runs 38923141124 s (execRegulatorOn answer feeds t s) := by
  unfold execRegulatorOn
  refine Runs.finish ?_
  exact (Kept.step State.regulatorOn_kept rfl (Kept.step State.at_kept rfl (Kept.refl _ _)))

theorem execReportSend_kept {session : ℕ} {t : ℕ} {s : State} : Runs 4297064464 s (execReportSend session t s) := by
  unfold execReportSend
  refine Runs.finish ?_
  split
  · exact (Kept.ite (Kept.step State.sendKst_kept rfl (Kept.step State.setSess_kept rfl (Kept.step State.at_kept rfl (Kept.refl _ _)))) (Kept.refl _ _))
  · exact (Kept.refl _ _)

theorem execResetRelease_kept {kat : List Bool} {testMode : Bool} {t : ℕ} {s : State} : Runs 48725229572 s (execResetRelease kat testMode t s) := by
  unfold execResetRelease
  refine Runs.finish ?_
  exact (Kept.step State.certCheck_kept rfl (Kept.step State.resetRelease_kept rfl (Kept.step State.at_kept rfl (Kept.refl _ _))))

theorem execResidueFailure_kept {cluster : ℕ} {t : ℕ} {s : State} : Runs 12889096836 s (execResidueFailure cluster t s) := by
  unfold execResidueFailure
  refine Runs.finish ?_
  exact (Kept.ite (Kept.step State.residueFailure_kept rfl (Kept.step State.at_kept rfl (Kept.refl _ _))) (Kept.refl _ _))

theorem execRestartAfterStop_kept {t : ℕ} {s : State} : Runs 266287906815 s (execRestartAfterStop t s) := by
  unfold execRestartAfterStop
  refine Runs.finish ?_
  exact (Kept.step State.restartAfterStop_kept rfl (Kept.step State.at_kept rfl (Kept.refl _ _)))

theorem execRevokeArrive_kept {cluster : ℕ} {t : ℕ} {s : State} : Runs 12884902016 s (execRevokeArrive cluster t s) := by
  unfold execRevokeArrive
  refine Runs.finish ?_
  exact (Kept.step State.revokeArrive_kept rfl (Kept.step State.at_kept rfl (Kept.refl _ _)))

theorem execScanGo_kept {who : Requester} {lane : ℕ} {data : Word} {s : State} : Runs 64416055295 s (execScanGo who lane data s) := by
  unfold execScanGo
  refine Runs.finish ?_
  exact (Kept.step State.trigger_kept rfl (Kept.refl _ _))

theorem execScnDisable_kept {who : Requester} {data : Word} {s : State} : Runs 64416055295 s (execScnDisable who data s) := by
  unfold execScnDisable
  refine Runs.finish ?_
  exact (Kept.step State.untrigger_kept rfl (Kept.refl _ _))

theorem execScnEnable_kept {who : Requester} {data : Word} {s : State} : Runs 64416055295 s (execScnEnable who data s) := by
  unfold execScnEnable
  refine Runs.finish ?_
  exact (Kept.step State.trigger_kept rfl (Kept.refl _ _))

theorem execScnQueryDone_kept {s : State} : Runs 8 s (execScnQueryDone s) := by
  unfold execScnQueryDone
  refine Runs.finish ?_
  exact (Kept.step State.queryDone_kept rfl (Kept.refl _ _))

theorem execScnQueryGo_kept {who : Requester} {data : Word} {s : State} : Runs 64416055295 s (execScnQueryGo who data s) := by
  unfold execScnQueryGo
  refine Runs.finish ?_
  exact (Kept.step State.trigger_kept rfl (Kept.refl _ _))

theorem execScnStoreRelease_kept {t : ℕ} {s : State} : Runs 4294967304 s (execScnStoreRelease t s) := by
  unfold execScnStoreRelease
  refine Runs.finish ?_
  exact (Kept.ite (Kept.step State.storeRelease_kept rfl (Kept.step State.at_kept rfl (Kept.refl _ _))) (Kept.refl _ _))

theorem execScrubRead_kept {channel : ℕ} {err : ℕ} {bit : ℕ} {t : ℕ} {s : State} : Runs 15049216932 s (execScrubRead channel err bit t s) := by
  unfold execScrubRead
  refine Runs.finish ?_
  exact (Kept.step State.ceWatch_kept rfl (Kept.step State.scrubRead_kept rfl (Kept.step State.at_kept rfl (Kept.refl _ _))))

theorem execSecKatDone_kept {kat : List Bool} {t : ℕ} {s : State} : Runs 5368709124 s (execSecKatDone kat t s) := by
  unfold execSecKatDone
  refine Runs.finish ?_
  exact (Kept.step State.certCheck_kept rfl (Kept.step State.katDone_kept rfl (Kept.step State.at_kept rfl (Kept.refl _ _))))

theorem execSecKatGo_kept {who : Requester} {data : Word} {s : State} : Runs 64416055295 s (execSecKatGo who data s) := by
  unfold execSecKatGo
  refine Runs.finish ?_
  exact (Kept.step State.trigger_kept rfl (Kept.refl _ _))

theorem execSecRcvData_kept {who : Requester} {data : Word} {s : State} : Runs 64416055295 s (execSecRcvData who data s) := by
  unfold execSecRcvData
  refine Runs.finish ?_
  exact (Kept.step State.writeWord_kept rfl (Kept.refl _ _))

theorem execSegmentDelete_kept {who : Requester} {data : Word} {s : State} : Runs 64416055295 s (execSegmentDelete who data s) := by
  unfold execSegmentDelete
  refine Runs.finish ?_
  exact (Kept.step State.writeWord_kept rfl (Kept.refl _ _))

theorem execSegmentQuery_kept {who : Requester} {data : Word} {s : State} : Runs 64416055295 s (execSegmentQuery who data s) := by
  unfold execSegmentQuery
  refine Runs.finish ?_
  exact (Kept.step State.writeWord_kept rfl (Kept.refl _ _))

theorem execSegmentWrite_kept {who : Requester} {data : Word} {s : State} : Runs 64416055295 s (execSegmentWrite who data s) := by
  unfold execSegmentWrite
  refine Runs.finish ?_
  exact (Kept.step State.trigger_kept rfl (Kept.refl _ _))

theorem execSessionClose_kept {who : Requester} {session : ℕ} {data : Word} {s : State} : Runs 64416055295 s (execSessionClose who session data s) := by
  unfold execSessionClose
  refine Runs.finish ?_
  exact (Kept.step State.untrigger_kept rfl (Kept.refl _ _))

theorem execSessionEnable_kept {who : Requester} {session : ℕ} {data : Word} {s : State} : Runs 64416055295 s (execSessionEnable who session data s) := by
  unfold execSessionEnable
  refine Runs.finish ?_
  exact (Kept.step State.trigger_kept rfl (Kept.refl _ _))

theorem execSetDepth_kept {session : ℕ} {s : State} : Runs 49176 s (execSetDepth session s) := by
  unfold execSetDepth
  refine Runs.finish ?_
  exact (Kept.step State.updateCommand_kept rfl (Kept.refl _ _))

theorem execShdnReq_kept {t : ℕ} {s : State} : Runs 4563406848 s (execShdnReq t s) := by
  unfold execShdnReq
  refine Runs.finish ?_
  exact (Kept.step State.shdnReq_kept rfl (Kept.step State.at_kept rfl (Kept.refl _ _)))

theorem execShdnReqNRelease_kept {t : ℕ} {s : State} : Runs 266287906815 s (execShdnReqNRelease t s) := by
  unfold execShdnReqNRelease
  refine Runs.finish ?_
  exact (Kept.step State.shdnRelease_kept rfl (Kept.step State.at_kept rfl (Kept.refl _ _)))

theorem execShutdownBist_kept {t : ℕ} {s : State} : Runs 49895446528 s (execShutdownBist t s) := by
  unfold execShutdownBist
  refine Runs.finish ?_
  exact (Kept.step State.shutdownBist_kept rfl (Kept.step State.at_kept rfl (Kept.refl _ _)))

theorem execShutdownComplete_kept {t : ℕ} {s : State} : Runs 58510475263 s (execShutdownComplete t s) := by
  unfold execShutdownComplete
  refine Runs.finish ?_
  exact (Kept.step State.shutdownComplete_kept rfl (Kept.step State.at_kept rfl (Kept.refl _ _)))

theorem execSliceLost_kept {slice : ℕ} {t : ℕ} {s : State} : Runs 4299162508 s (execSliceLost slice t s) := by
  unfold execSliceLost
  refine Runs.finish ?_
  exact (Kept.step State.sliceLost_kept rfl (Kept.step State.sliceFails_kept rfl (Kept.step State.at_kept rfl (Kept.refl _ _))))

theorem execSnapGo_kept {who : Requester} {data : Word} {s : State} : Runs 64416055295 s (execSnapGo who data s) := by
  unfold execSnapGo
  refine Runs.finish ?_
  exact (Kept.step State.trigger_kept rfl (Kept.refl _ _))

theorem execSnapshotReceive_kept {good : Bool} {t : ℕ} {s : State} : Runs 4299161604 s (execSnapshotReceive good t s) := by
  unfold execSnapshotReceive
  refine Runs.finish ?_
  exact (Kept.step State.snapReceive_kept rfl (Kept.step State.at_kept rfl (Kept.refl _ _)))

theorem execSnapshotSend_kept {t : ℕ} {s : State} : Runs 4299161600 s (execSnapshotSend t s) := by
  unfold execSnapshotSend
  refine Runs.finish ?_
  exact (Kept.step State.snapSend_kept rfl (Kept.step State.at_kept rfl (Kept.refl _ _)))

theorem execSoftBoundary_kept {channel : ℕ} {t : ℕ} {s : State} : Runs 4311744512 s (execSoftBoundary channel t s) := by
  unfold execSoftBoundary
  refine Runs.finish ?_
  exact (Kept.step State.softBoundary_kept rfl (Kept.step State.at_kept rfl (Kept.refl _ _)))

theorem execStagingChangeResume_kept {s : State} : Runs 49176 s (execStagingChangeResume s) := by
  unfold execStagingChangeResume
  refine Runs.finish ?_
  exact (Kept.step State.resumeChange_kept rfl (Kept.refl _ _))

theorem execStagingOpen_kept {s : State} : Runs 8 s (execStagingOpen s) := by
  unfold execStagingOpen
  refine Runs.finish ?_
  exact (Kept.step State.openStaging_kept rfl (Kept.refl _ _))

theorem execStartUp_kept {t : ℕ} {s : State} : Runs 42169536516 s (execStartUp t s) := by
  unfold execStartUp
  refine Runs.finish ?_
  exact (Kept.step State.startUp_kept rfl (Kept.step State.at_kept rfl (Kept.refl _ _)))

theorem execStateRestore_kept {t : ℕ} {s : State} : Runs 47252029456 s (execStateRestore t s) := by
  unfold execStateRestore
  refine Runs.finish ?_
  exact (Kept.step State.takeWarm_kept rfl (Kept.step State.at_kept rfl (Kept.refl _ _)))

theorem execSvcLogLost_kept {source : ℕ} {event : ℕ} {severity : ℕ} {data : List Byte} {t : ℕ} {s : State} : Runs 4294967300 s (execSvcLogLost source event severity data t s) := by
  unfold execSvcLogLost
  refine Runs.finish ?_
  exact (Kept.ite (Kept.refl _ _) (Kept.step State.logIt_kept rfl (Kept.step State.at_kept rfl (Kept.refl _ _))))

theorem execSvcTestDone_kept {unit : ℕ} {result : ℕ} {millis : ℕ} {t : ℕ} {s : State} : Runs 40869305348 s (execSvcTestDone unit result millis t s) := by
  unfold execSvcTestDone
  refine Runs.finish ?_
  exact (Kept.step State.svcTestDone_kept rfl (Kept.step State.at_kept rfl (Kept.refl _ _)))

theorem execSynGridLoadGo_kept {who : Requester} {data : Word} {s : State} : Runs 64416055295 s (execSynGridLoadGo who data s) := by
  unfold execSynGridLoadGo
  refine Runs.finish ?_
  exact (Kept.step State.trigger_kept rfl (Kept.refl _ _))

theorem execSynGridLoaded_kept {s : State} : Runs 64 s (execSynGridLoaded s) := by
  unfold execSynGridLoaded
  refine Runs.finish ?_
  exact (Kept.step State.gridLoaded_kept rfl (Kept.refl _ _))

theorem execThmSensClr_kept {who : Requester} {data : Word} {s : State} : Runs 64416055295 s (execThmSensClr who data s) := by
  unfold execThmSensClr
  refine Runs.finish ?_
  exact (Kept.step State.trigger_kept rfl (Kept.refl _ _))

theorem execThrottleGraceExpire_kept {t : ℕ} {s : State} : Runs 4831838208 s (execThrottleGraceExpire t s) := by
  unfold execThrottleGraceExpire
  refine Runs.finish ?_
  exact (Kept.step State.graceExpire_kept rfl (Kept.step State.at_kept rfl (Kept.refl _ _)))

theorem execThrottleHoldExpire_kept {t : ℕ} {s : State} : Runs 4831838208 s (execThrottleHoldExpire t s) := by
  unfold execThrottleHoldExpire
  refine Runs.finish ?_
  exact (Kept.step State.holdExpire_kept rfl (Kept.step State.at_kept rfl (Kept.refl _ _)))

theorem execTileStart_kept {cluster : ℕ} {t : ℕ} {s : State} : Runs 4294967936 s (execTileStart cluster t s) := by
  unfold execTileStart
  refine Runs.finish ?_
  exact (Kept.step State.tileStart_kept rfl (Kept.step State.at_kept rfl (Kept.refl _ _)))

theorem execTileSteal_kept {cluster : ℕ} {t : ℕ} {s : State} : Runs 4294967936 s (execTileSteal cluster t s) := by
  unfold execTileSteal
  refine Runs.finish ?_
  exact (Kept.step State.steal_kept rfl (Kept.step State.at_kept rfl (Kept.refl _ _)))

theorem execTimNowRead_kept {t : ℕ} {s : State} : Runs 4294967296 s (execTimNowRead t s) := by
  unfold execTimNowRead
  refine Runs.finish ?_
  exact (Kept.ite (Kept.step State.timCapture_kept rfl (Kept.step State.at_kept rfl (Kept.refl _ _))) (Kept.refl _ _))

theorem execTimestamp_kept {entry : ℕ} {t : ℕ} {s : State} : Runs 4294967298 s (execTimestamp entry t s) := by
  unfold execTimestamp
  refine Runs.finish ?_
  refine Kept.ite ?_ (Kept.refl _ _)
  unfold State.crvDispatch
  exact (Kept.ite (Kept.ite (Kept.step State.timestampOp_kept rfl (Kept.step State.crvFire_kept rfl (Kept.step State.at_kept rfl (Kept.refl _ _)))) (Kept.ite (Kept.step State.crvTaken_kept rfl (Kept.step State.at_kept rfl (Kept.refl _ _))) (Kept.step State.crvMiss_kept rfl (Kept.step State.at_kept rfl (Kept.refl _ _))))) (Kept.step State.at_kept rfl (Kept.refl _ _)))

theorem execTransitionDischarge_kept {t : ℕ} {s : State} : Runs 4294967297 s (execTransitionDischarge t s) := by
  unfold execTransitionDischarge
  refine Runs.finish ?_
  exact (Kept.ite (Kept.step State.toStep_kept rfl (Kept.step State.at_kept rfl (Kept.refl _ _))) (Kept.refl _ _))

theorem execTransitionFadeIn_kept {t : ℕ} {s : State} : Runs 4294971393 s (execTransitionFadeIn t s) := by
  unfold execTransitionFadeIn
  refine Runs.finish ?_
  exact (Kept.ite (Kept.step State.transFadeIn_kept rfl (Kept.step State.toStep_kept rfl (Kept.step State.at_kept rfl (Kept.refl _ _)))) (Kept.refl _ _))

theorem execTransitionFadeOut_kept {t : ℕ} {s : State} : Runs 4294971393 s (execTransitionFadeOut t s) := by
  unfold execTransitionFadeOut
  refine Runs.finish ?_
  exact (Kept.ite (Kept.step State.toStep_kept rfl (Kept.step State.transFadeOut_kept rfl (Kept.u1 (Kept.step State.at_kept rfl (Kept.refl _ _)) rfl))) (Kept.refl _ _))

theorem execTransitionLensPark_kept {t : ℕ} {s : State} : Runs 4294973441 s (execTransitionLensPark t s) := by
  unfold execTransitionLensPark
  refine Runs.finish ?_
  exact (Kept.ite (Kept.step State.lensCut_kept rfl (Kept.step State.toStep_kept rfl (Kept.step State.fadeEnd_kept rfl (Kept.step State.at_kept rfl (Kept.refl _ _))))) (Kept.refl _ _))

theorem execTransitionReacquireEnd_kept {t : ℕ} {s : State} : Runs 4294967297 s (execTransitionReacquireEnd t s) := by
  unfold execTransitionReacquireEnd
  refine Runs.finish ?_
  exact (Kept.ite (Kept.step State.toStep_kept rfl (Kept.step State.at_kept rfl (Kept.refl _ _))) (Kept.refl _ _))

theorem execTransitionRetime_kept {t : ℕ} {s : State} : Runs 12884910019 s (execTransitionRetime t s) := by
  unfold execTransitionRetime
  refine Runs.finish ?_
  exact (Kept.ite (Kept.step State.retime_kept rfl (Kept.step State.at_kept rfl (Kept.refl _ _))) (Kept.refl _ _))

theorem execTransmissionOpportunity_kept {path : ℕ} {t : ℕ} {s : State} : Runs 38661046272 s (execTransmissionOpportunity path t s) := by
  unfold execTransmissionOpportunity
  refine Runs.finish ?_
  exact (Kept.ite (Kept.step State.announceEnd_kept rfl (Kept.step State.transmit_kept rfl (Kept.step State.at_kept rfl (Kept.refl _ _)))) (Kept.refl _ _))

theorem execTrefi_kept {channel : ℕ} {t : ℕ} {s : State} : Runs 40819020708 s (execTrefi channel t s) := by
  unfold execTrefi
  refine Runs.finish ?_
  exact (Kept.step State.takeFence_kept rfl (Kept.step State.ceWatch_kept rfl (Kept.step State.chanServe_kept rfl (Kept.step State.trefi_kept rfl (Kept.step State.at_kept rfl (Kept.refl _ _))))))

theorem execUnitFence_kept {who : Requester} {port : FencePort} {s : State} : Runs 64416055295 s (execUnitFence who port s) := by
  unfold execUnitFence
  refine Runs.finish ?_
  exact (Kept.step State.writeWord_kept rfl (Kept.refl _ _))

theorem execUnitMigrate_kept {addr : ℕ} {dest : ℕ} {t : ℕ} {s : State} : Runs 4295016712 s (execUnitMigrate addr dest t s) := by
  unfold execUnitMigrate
  refine Runs.finish ?_
  exact (Kept.step State.migrate_kept rfl (Kept.step State.at_kept rfl (Kept.refl _ _)))

theorem execUnitTest_kept {who : Requester} {port : FencePort} {s : State} : Runs 64416055295 s (execUnitTest who port s) := by
  unfold execUnitTest
  refine Runs.finish ?_
  exact (Kept.step State.writeWord_kept rfl (Kept.refl _ _))

theorem execUnitUnfence_kept {who : Requester} {port : FencePort} {s : State} : Runs 64416055295 s (execUnitUnfence who port s) := by
  unfold execUnitUnfence
  refine Runs.finish ?_
  exact (Kept.step State.writeWord_kept rfl (Kept.refl _ _))

theorem execWindowEccError_kept {slice : ℕ} {addr : ℕ} {corrected : Bool} {t : ℕ} {s : State} : Runs 4294967304 s (execWindowEccError slice addr corrected t s) := by
  unfold execWindowEccError
  refine Runs.finish ?_
  exact (Kept.step State.windowEcc_kept rfl (Kept.step State.at_kept rfl (Kept.refl _ _)))

theorem execWindowFill_kept {slice : ℕ} {which : ℕ} {plane : ℕ} {bx : ℕ} {brow : ℕ} {s : State} : Runs 280 s (execWindowFill slice which plane bx brow s) := by
  unfold execWindowFill
  refine Runs.finish ?_
  split
  · exact (Kept.ite (Kept.step State.windowFill_kept rfl (Kept.step State.countFill_kept rfl (Kept.refl _ _))) (Kept.refl _ _))
  · exact (Kept.refl _ _)

theorem execWpCycle_kept {reads : List (Option (List ℕ))} {t : ℕ} {s : State} : Runs 4294971392 s (execWpCycle reads t s) := by
  unfold execWpCycle
  refine Runs.finish ?_
  exact (Kept.ite (Kept.step State.wpCycle_kept rfl (Kept.step State.at_kept rfl (Kept.refl _ _))) (Kept.refl _ _))

theorem execWriteBlock_kept {session : ℕ} {s : State} : Runs 49176 s (execWriteBlock session s) := by
  unfold execWriteBlock
  refine Runs.finish ?_
  exact (Kept.step State.updateCommand_kept rfl (Kept.refl _ _))

end Sys2Proof.Machine
end

