-- ==== Sys2Proof/Laws/Parts.lean ====
section
/-! SUPPORT. From masks to lists of parts: what an operation leaves alone, by part, and what a register write can touch. -/

namespace Sys2Proof.Machine

/-- The bit that stands for a part in a mask. -/
def partBit : Part → Nat
  | .ras => 0
  | .crv => 1
  | .log => 2
  | .scn => 3
  | .ing => 4
  | .mbc => 5
  | .syn => 6
  | .clusters => 7
  | .plc => 8
  | .brc => 9
  | .lyr => 10
  | .pnl => 11
  | .bkl => 12
  | .blt => 13
  | .dram => 14
  | .poison => 15
  | .dimms => 16
  | .timBase => 17
  | .timAnchor => 18
  | .timRate => 19
  | .tim => 20
  | .net => 21
  | .fov => 22
  | .cal => 23
  | .dmc => 24
  | .nvs => 25
  | .lanes => 26
  | .mgt => 27
  | .pwr => 28
  | .thm => 29
  | .secu => 30
  | .svc => 31
  | .now => 32
  | .free => 33
  | .shadow => 34
  | .sent => 35
  | .msixTable => 36
  | .calNext => 37

/-- The mask of a list of parts. -/
def maskOf (l : List Part) : Nat := l.foldr (fun p m => 2 ^ partBit p ||| m) 0

theorem partBit_inj (p q : Part) (h : partBit p = partBit q) : p = q := by
  cases p <;> cases q <;> first | rfl | exact absurd h (by decide)

theorem maskOf_testBit (l : List Part) (p : Part) (h : p ∉ l) : (maskOf l).testBit (partBit p) = false := by
  induction l with
  | nil => exact Nat.zero_testBit _
  | cons q l ih =>
    have hq : partBit q ≠ partBit p := fun e => h (partBit_inj q p e ▸ List.mem_cons_self ..)
    have hl : p ∉ l := fun e => h (List.mem_cons_of_mem _ e)
    show (2 ^ partBit q ||| maskOf l).testBit (partBit p) = false
    rw [Nat.testBit_or, ih hl, Nat.testBit_two_pow_of_ne hq]; rfl

/-- A part whose bit is clear is the same. -/
theorem Kept.part {F : Nat} {s t : State} (k : Kept F s t) (p : Part) (h : F.testBit (partBit p) = false) : p.same s t := by
  cases p
  case ras => exact k.ras.resolve_left (fun e => Bool.noConfusion (h.symm.trans e))
  case crv => exact k.crv.resolve_left (fun e => Bool.noConfusion (h.symm.trans e))
  case log => exact k.log.resolve_left (fun e => Bool.noConfusion (h.symm.trans e))
  case scn => exact k.scn.resolve_left (fun e => Bool.noConfusion (h.symm.trans e))
  case ing => exact k.ing.resolve_left (fun e => Bool.noConfusion (h.symm.trans e))
  case mbc => exact k.mbc.resolve_left (fun e => Bool.noConfusion (h.symm.trans e))
  case syn => exact k.syn.resolve_left (fun e => Bool.noConfusion (h.symm.trans e))
  case clusters => exact k.clusters.resolve_left (fun e => Bool.noConfusion (h.symm.trans e))
  case plc => exact k.plc.resolve_left (fun e => Bool.noConfusion (h.symm.trans e))
  case brc => exact k.brc.resolve_left (fun e => Bool.noConfusion (h.symm.trans e))
  case lyr => exact k.lyr.resolve_left (fun e => Bool.noConfusion (h.symm.trans e))
  case pnl => exact k.pnl.resolve_left (fun e => Bool.noConfusion (h.symm.trans e))
  case bkl => exact k.bkl.resolve_left (fun e => Bool.noConfusion (h.symm.trans e))
  case blt => exact k.blt.resolve_left (fun e => Bool.noConfusion (h.symm.trans e))
  case dram => exact k.dram.resolve_left (fun e => Bool.noConfusion (h.symm.trans e))
  case poison => exact k.poison.resolve_left (fun e => Bool.noConfusion (h.symm.trans e))
  case dimms => exact k.dimms.resolve_left (fun e => Bool.noConfusion (h.symm.trans e))
  case timBase => exact k.timBase.resolve_left (fun e => Bool.noConfusion (h.symm.trans e))
  case timAnchor => exact k.timAnchor.resolve_left (fun e => Bool.noConfusion (h.symm.trans e))
  case timRate => exact k.timRate.resolve_left (fun e => Bool.noConfusion (h.symm.trans e))
  case tim => exact k.tim.resolve_left (fun e => Bool.noConfusion (h.symm.trans e))
  case net => exact k.net.resolve_left (fun e => Bool.noConfusion (h.symm.trans e))
  case fov => exact k.fov.resolve_left (fun e => Bool.noConfusion (h.symm.trans e))
  case cal => exact k.cal.resolve_left (fun e => Bool.noConfusion (h.symm.trans e))
  case dmc => exact k.dmc.resolve_left (fun e => Bool.noConfusion (h.symm.trans e))
  case nvs => exact k.nvs.resolve_left (fun e => Bool.noConfusion (h.symm.trans e))
  case lanes => exact k.lanes.resolve_left (fun e => Bool.noConfusion (h.symm.trans e))
  case mgt => exact k.mgt.resolve_left (fun e => Bool.noConfusion (h.symm.trans e))
  case pwr => exact k.pwr.resolve_left (fun e => Bool.noConfusion (h.symm.trans e))
  case thm => exact k.thm.resolve_left (fun e => Bool.noConfusion (h.symm.trans e))
  case secu => exact k.secu.resolve_left (fun e => Bool.noConfusion (h.symm.trans e))
  case svc => exact k.svc.resolve_left (fun e => Bool.noConfusion (h.symm.trans e))
  case now => exact k.now.resolve_left (fun e => Bool.noConfusion (h.symm.trans e))
  case free => exact k.free.resolve_left (fun e => Bool.noConfusion (h.symm.trans e))
  case shadow => exact k.shadow.resolve_left (fun e => Bool.noConfusion (h.symm.trans e))
  case sent => exact k.out.resolve_left (fun e => Bool.noConfusion (h.symm.trans e))
  case msixTable => exact k.msixMask.resolve_left (fun e => Bool.noConfusion (h.symm.trans e))
  case calNext => exact k.calNext.resolve_left (fun e => Bool.noConfusion (h.symm.trans e))

theorem maskOf_mem {l : List Part} {p : Part} (h : p ∈ l) : maskOf l ||| 2 ^ partBit p = maskOf l := by
  induction l with
  | nil => contradiction
  | cons q l ih =>
    show (2 ^ partBit q ||| maskOf l) ||| 2 ^ partBit p = 2 ^ partBit q ||| maskOf l
    rcases List.mem_cons.1 h with e | e
    · rw [← e, Nat.or_comm (2 ^ partBit p) (maskOf l), Nat.or_assoc, Nat.or_self]
    · rw [Nat.or_assoc, ih e]

/-- The mask of a shorter list lies in that of a longer one. -/
theorem maskOf_sub {l q : List Part} (h : ∀ p ∈ q, p ∈ l) : maskOf l ||| maskOf q = maskOf l := by
  induction q with
  | nil => exact Nat.or_zero _
  | cons a q ih =>
    show maskOf l ||| (2 ^ partBit a ||| maskOf q) = maskOf l
    rw [← Nat.or_assoc, maskOf_mem (h a (List.mem_cons_self ..)), ih (fun p hp => h p (List.mem_cons_of_mem _ hp))]

/-- Parts outside the list are the same. -/
theorem Kept.parts {l : List Part} {s t : State} (k : Kept (maskOf l) s t) (p : Part) (h : p ∉ l) : p.same s t :=
  k.part p (maskOf_testBit l p h)

theorem Kept.mono {F G : Nat} {s t : State} (k : Kept G s t) (sub : F ||| G = F) : Kept F s t := k.step sub (Kept.refl F s)

theorem pageDef_place_all : ∀ c < 30, ∀ i < 16, ((pageDef c i).all (fun p => p.code == c && p.index == i)) = true := by
  decide +kernel

theorem pageDef_high (c i : Nat) (h : 30 ≤ c) : pageDef c i = none := by
  have e : groupPages c = [] := by
    unfold groupPages
    repeat rw [if_neg (by omega)]
  unfold pageDef
  rw [if_neg (by omega), if_neg (by omega), e]; rfl

/-- A page stands where the table lists it. -/
theorem pageDef_place {c i : Nat} {p : PageDef} (hi : i < 16) (h : pageDef c i = some p) : p.code = c ∧ p.index = i := by
  by_cases hc : c < 30
  · have e := pageDef_place_all c hc i hi
    rw [h] at e
    simpa using e
  · rw [pageDef_high c i (by omega)] at h; exact absurd h (by simp)

theorem pageOf_place {a : Nat} {p : PageDef} (h : pageOf a = some p) : p.code = a / 0x10000 ∧ p.index = a / 0x1000 % 16 := by
  unfold pageOf at h
  split at h
  · exact pageDef_place (by omega) h
  · contradiction

/-- A page that an access reaches stands where its address says. -/
theorem State.reached_place {s : State} {a : Nat} {p : PageDef} (h : s.reached a = some p) :
    p.code = a / 0x10000 ∧ p.index = a / 0x1000 % 16 := by
  unfold State.reached at h
  split at h
  · split at h
    · contradiction
    · exact pageOf_place (by rw [← Option.some.inj h]; assumption)
  · contradiction

/-- Its base is the address of its first word. -/
theorem State.reached_base {s : State} {a : Nat} {p : PageDef} (h : s.reached a = some p) : p.base = a / 0x1000 * 0x1000 := by
  have := State.reached_place h
  unfold PageDef.base; omega

/-! ### What a register write can touch -/

theorem State.blockEffect_parts {s : State} {p : PageDef} {off old data : Nat} :
    Kept (maskOf (blockParts p.code)) s (s.blockEffect p off old data) := by
  unfold State.blockEffect
  by_cases h : p.code = 0x00
  · rw [if_pos h, h]; exact State.devEffect_kept
  rw [if_neg h]; clear h
  by_cases h : p.code = 0x01
  · rw [if_pos h, h]; exact State.rasEffect_kept
  rw [if_neg h]; clear h
  by_cases h : p.code = 0x02
  · rw [if_pos h, h]; exact State.scnEffect_kept
  rw [if_neg h]; clear h
  by_cases h : p.code = 0x03
  · rw [if_pos h, h]; exact State.ingStart_kept
  rw [if_neg h]; clear h
  by_cases h : p.code = 0x04
  · rw [if_pos h, h]; exact State.mbcEffect_kept
  rw [if_neg h]; clear h
  by_cases h : p.code = 0x05
  · rw [if_pos h, h]; exact State.synEffect_kept
  rw [if_neg h]; clear h
  by_cases h : p.code = 0x06
  · rw [if_pos h, h]; exact Kept.ite State.fenceWrite_kept (Kept.refl _ _)
  rw [if_neg h]; clear h
  by_cases h : p.code = 0x07
  · rw [if_pos h, h]; exact State.brcEffect_kept
  rw [if_neg h]; clear h
  by_cases h : p.code = 0x08
  · rw [if_pos h, h]; exact State.plcEffect_kept
  rw [if_neg h]; clear h
  by_cases h : p.code = 0x0A
  · rw [if_pos h, h]; exact State.bltEffect_kept
  rw [if_neg h]; clear h
  by_cases h : p.code = 0x0B
  · rw [if_pos h, h]
    have k {t : State} : Kept (maskOf (blockParts 0x0B)) t (t.pnlEffect p.index off data) := State.pnlEffect_kept.mono rfl
    exact Kept.ite (Kept.step State.laneSweep_kept rfl k) k
  rw [if_neg h]; clear h
  by_cases h : p.code = 0x0C
  · rw [if_pos h, h]; exact Kept.ite State.fenceWrite_kept (State.bklEffect_kept.mono rfl)
  rw [if_neg h]; clear h
  by_cases h : p.code = 0x10 ∨ p.code = 0x11
  · rw [if_pos h]
    rcases h with h | h <;> rw [h] <;> exact State.npStart_kept
  rw [if_neg h]; clear h
  by_cases h : p.code = 0x12
  · rw [if_pos h, h]; exact State.fovEffect_kept
  rw [if_neg h]; clear h
  by_cases h : p.code = 0x14
  · rw [if_pos h, h]; exact State.dmcEffect_kept
  rw [if_neg h]; clear h
  by_cases h : p.code = 0x15
  · rw [if_pos h, h]; exact State.nvsEffect_kept
  rw [if_neg h]; clear h
  by_cases h : p.code = 0x16
  · rw [if_pos h, h]; exact State.lnkEffect_kept
  rw [if_neg h]; clear h
  by_cases h : p.code = 0x18
  · rw [if_pos h, h]; exact State.mgtEffect_kept
  rw [if_neg h]; clear h
  by_cases h : p.code = 0x19
  · rw [if_pos h, h]; exact State.pwrEffect_kept
  rw [if_neg h]; clear h
  by_cases h : p.code = 0x1A
  · rw [if_pos h, h]; exact State.thmEffect_kept
  rw [if_neg h]; clear h
  by_cases h : p.code = 0x1C
  · rw [if_pos h, h]; exact State.secEffect_kept
  rw [if_neg h]; clear h
  by_cases h : p.code = 0x1D
  · rw [if_pos h, h]; exact State.svcEffect_kept
  rw [if_neg h]; exact (Kept.refl _ _)

theorem State.acceptWord_parts {s : State} {p : PageDef} {a data : Nat} (h : p.code = a / 0x10000) (ha : a < 0x400000) :
    Kept (maskOf (writeParts a)) s (s.acceptWord p a data) := by
  unfold State.acceptWord writeParts
  rw [Nat.mod_eq_of_lt ha]
  dsimp only
  by_cases h0 : a % 0x1000 < 0x40
  · rw [if_pos h0]
    unfold State.headerWrite
    by_cases h1 : a % 0x1000 = 0x1C
    · rw [if_pos h1]
      simp only [h1]
      exact State.commitWrite_kept
    · rw [if_neg h1]
      by_cases h2 : a % 0x1000 = 0x20
      · rw [if_pos h2]
        simp only [h2]
        exact State.fenceWrite_kept
      · rw [if_neg h2, if_pos h0]
        dsimp only
        rw [if_neg h1, if_neg h2]
        exact Kept.ite (Kept.ite State.wr_kept (Kept.refl _ _)) (Kept.ite State.wr_kept (Kept.ite State.wr_kept (Kept.ite (Kept.step State.tellMarigold_kept rfl State.wr_kept) (Kept.refl _ _))))
  · rw [if_neg h0, if_neg (by omega), if_neg (by omega), if_neg h0]
    split
    · exact Kept.refl _ _
    · have k0 : ∀ r, Kept (maskOf (.log :: .shadow :: blockParts p.code)) s (s.storeWord a r data) := fun r =>
        Kept.mono State.storeWord_kept (maskOf_sub (by simp) (q := [.shadow]))
      rw [← h]
      exact Kept.step State.certCheck_kept (maskOf_sub (by simp) (q := [.log]))
        (Kept.step State.blockEffect_parts (maskOf_sub (fun x hx => by simp [hx])) (k0 _))

/-- A register write touches nothing outside what its address allows. -/
theorem State.writeWord_parts {s : State} {who : Requester} {addr size data : Nat} :
    Kept (maskOf (writeParts addr)) s (s.writeWord who addr size data) := by
  have e : writeParts addr = writeParts (addr % 0x400000) := by unfold writeParts; rw [Nat.mod_mod]
  unfold State.writeWord
  dsimp only
  split
  · exact Kept.mono State.rejectUnmapped_kept (Nat.or_zero _)
  · rename_i p hp
    refine Kept.ite ?_ (Kept.mono State.rejectWrite_kept (Nat.or_zero _))
    rw [e]
    refine Kept.step State.marigoldSees_kept (Nat.or_zero _) ?_
    exact State.acceptWord_parts (State.reached_place hp).1 (Nat.mod_lt _ (by decide))

end Sys2Proof.Machine
end

