-- ==== Sys2Proof/Laws/Write.lean ====
section
/-! SUPPORT. Register writes, once: what recording a rejection does, and what an accepted, a rejected and an unmapped write are. -/

namespace Sys2Proof.Machine

/-! ### The shadows are untouched by words in force -/

theorem State.wr_shadow_eq (s : State) (a v : Nat) : (s.wr a v).shadow = s.shadow := rfl
theorem State.setFld_shadow_eq (s : State) (a hi lo v : Nat) : (s.setFld a hi lo v).shadow = s.shadow := rfl
theorem State.setFlag_shadow_eq (s : State) (a i : Nat) (b : Bool) : (s.setFlag a i b).shadow = s.shadow := rfl
theorem State.add_shadow_eq (s : State) (a n : Nat) : (s.add a n).shadow = s.shadow := rfl
theorem State.raise_shadow_eq (s : State) (b i : Nat) : (s.raise b i).shadow = s.shadow := rfl

/-- Words that are written are the only ones that change. -/
theorem State.wordsBut_refl (s : State) (l : List Nat) : s.wordsBut s l := fun _ _ => rfl

theorem State.wordsBut_wr {s t : State} {l : List Nat} {a v : Nat} (h : s.wordsBut t l) (m : a ∈ l) : s.wordsBut (t.wr a v) l :=
  fun x hx => by
    have ne : x ≠ a := fun e => hx (by rw [e]; exact m)
    rw [State.rd_wr_ne _ _ ne]; exact h x hx

theorem State.wordsBut_setFld {s t : State} {l : List Nat} {a hi lo v : Nat} (h : s.wordsBut t l) (m : a ∈ l) :
    s.wordsBut (t.setFld a hi lo v) l := State.wordsBut_wr h m

theorem State.wordsBut_setFlag {s t : State} {l : List Nat} {a i : Nat} {b : Bool} (h : s.wordsBut t l) (m : a ∈ l) :
    s.wordsBut (t.setFlag a i b) l := State.wordsBut_wr h m

theorem State.wordsBut_add {s t : State} {l : List Nat} {a n : Nat} (h : s.wordsBut t l) (m : a ∈ l) : s.wordsBut (t.add a n) l :=
  State.wordsBut_wr h m

theorem State.wordsBut_raise {s t : State} {l : List Nat} {b i : Nat} (h : s.wordsBut t l) (m : b + 0x10 ∈ l) :
    s.wordsBut (t.raise b i) l := State.wordsBut_wr h m

theorem State.wordsBut_mono {s t : State} {l m : List Nat} (h : s.wordsBut t l) (sub : ∀ x ∈ l, x ∈ m) : s.wordsBut t m :=
  fun x hx => h x (fun e => hx (sub x e))

theorem State.wordsBut_settle {s t : State} {l : List Nat} (h : s.wordsBut t l) : s.wordsBut (settle t) l :=
  fun x hx => by rw [settle_rd]; exact h x hx

/-! ### Recording a rejection (R46, R47, R53, R71-R73) -/

theorem errWord0_lt (who addr : Nat) (h : who < 8) : errWord0 who addr < 2 ^ 32 := by unfold errWord0; omega
theorem errWord1_lt (line code : Nat) : errWord1 line code < 2 ^ 32 := by unfold errWord1; omega
theorem pageErrWord_lt (off code : Nat) : pageErrWord off code < 2 ^ 32 := by unfold pageErrWord; omega

theorem State.errOverwrite_words (s : State) (h : Nat) : s.wordsBut (s.errOverwrite h) (errWords h) := by
  unfold State.errOverwrite
  split
  · exact State.wordsBut_raise (State.wordsBut_setFlag (State.wordsBut_refl _ _) (by simp [errWords])) (by simp [errWords])
  · exact State.wordsBut_refl _ _

theorem State.errFill_words (s : State) (h who addr code data : Nat) :
    s.wordsBut (s.errFill h who addr code data) [Reg.devErrW0 h, Reg.devErrW1 h, Reg.devErrW2 h, Reg.devErrW3 h] := by
  unfold State.errFill
  refine State.wordsBut_wr (State.wordsBut_wr (State.wordsBut_wr (State.wordsBut_wr (State.wordsBut_refl _ _) ?_) ?_) ?_) ?_ <;> simp

theorem State.wordsBut_trans {s t u : State} {l : List Nat} (h : s.wordsBut t l) (k : t.wordsBut u l) : s.wordsBut u l :=
  fun x hx => (k x hx).trans (h x hx)

theorem State.errEntry_words (s : State) (who addr code data : Nat) : s.wordsBut (s.errEntry who addr code data) (errWords s.errNext) := by
  unfold State.errEntry
  generalize s.errNext = h
  have k1 := s.errOverwrite_words h
  generalize s.errOverwrite h = s1 at *
  have k2 := State.wordsBut_trans k1 (State.wordsBut_mono (s1.errFill_words h who addr code data) (m := errWords h) (by simp [errWords]))
  generalize s1.errFill h who addr code data = s2 at *
  exact State.wordsBut_raise (State.wordsBut_add (State.wordsBut_wr k2 (by simp [errWords])) (by simp [errWords])) (by simp [errWords])

theorem State.errOverwrite_shadow (s : State) (h : Nat) : (s.errOverwrite h).shadow = s.shadow := by
  unfold State.errOverwrite; split <;> rfl

theorem State.errOverwrite_ras (s : State) (h : Nat) : (s.errOverwrite h).ras = s.ras := by
  unfold State.errOverwrite; split <;> rfl

theorem State.errEntry_shadow (s : State) (who addr code data : Nat) : (s.errEntry who addr code data).shadow = s.shadow := by
  unfold State.errEntry State.errFill
  rw [State.raise_shadow_eq, State.add_shadow_eq, State.wr_shadow_eq, State.wr_shadow_eq, State.wr_shadow_eq, State.wr_shadow_eq,
    State.wr_shadow_eq, State.errOverwrite_shadow]

/-- The four words of an entry. -/
theorem State.errFill_rd (s : State) (h who addr code data : Nat) (hw : who < 8) :
    (s.errFill h who addr code data).rd (Reg.devErrW0 h) = errWord0 who addr ∧
    (s.errFill h who addr code data).rd (Reg.devErrW1 h) = errWord1 s.ras.line code ∧
    (s.errFill h who addr code data).rd (Reg.devErrW2 h) = data % 2 ^ 32 ∧
    (s.errFill h who addr code data).rd (Reg.devErrW3 h) = s.ras.frame % 2 ^ 32 := by
  have e0 := Nat.mod_eq_of_lt (errWord0_lt who addr hw)
  have e1 := Nat.mod_eq_of_lt (errWord1_lt s.ras.line code)
  unfold State.errFill
  generalize errWord0 who addr = w0 at *
  generalize errWord1 s.ras.line code = w1 at *
  generalize s.ras.frame = f
  unfold Reg.devErrW0 Reg.devErrW1 Reg.devErrW2 Reg.devErrW3
  refine ⟨?_, ?_, ?_, ?_⟩
  · rw [State.rd_wr_ne _ _ (by omega), State.rd_wr_ne _ _ (by omega), State.rd_wr_ne _ _ (by omega), State.rd_wr_same, e0]
  · rw [State.rd_wr_ne _ _ (by omega), State.rd_wr_ne _ _ (by omega), State.rd_wr_same, e1]
  · rw [State.rd_wr_ne _ _ (by omega), State.rd_wr_same]
  · rw [State.rd_wr_same, Nat.mod_mod]

theorem State.errEntry_recorded (s : State) (who addr code data : Nat) (hw : who < 8) :
    ErrRecorded s (s.errEntry who addr code data) who addr code data := by
  have hn : s.errNext < 64 := Nat.mod_lt _ (by decide)
  have l1 : s.flag (Reg.devErrW0 s.errNext) 31 = true →
      (s.errOverwrite s.errNext).flag Reg.devErrLost 0 = true ∧ (s.errOverwrite s.errNext).flag 0x1010 1 = true := by
    intro hu
    unfold State.errOverwrite
    rw [if_pos hu]
    refine ⟨?_, State.flag_raise_same _ 0x1000 1 (by decide)⟩
    rw [State.flag, State.rd_raise_ne _ _ (by decide), ← State.flag, State.flag_setFlag_same _ _ _ _ (by decide)]
  have t1 : (s.errOverwrite s.errNext).rd Reg.devErrTotal = s.rd Reg.devErrTotal := by
    unfold State.errOverwrite
    split
    · rw [State.rd_raise_ne _ _ (by decide), State.rd_setFlag_ne _ _ _ (by decide)]
    · rfl
  have r1 := s.errOverwrite_ras s.errNext
  have f := (s.errOverwrite s.errNext).errFill_rd s.errNext who addr code data hw
  have k := (s.errOverwrite s.errNext).errFill_words s.errNext who addr code data
  rw [r1] at f
  have out : ∀ x u : State, u = ((x.wr Reg.devErrHead ((s.errNext + 1) % 64)).add Reg.devErrTotal 1).raise 0x1000 0 →
      (∀ a, a ≠ 0x1040 → a ≠ 0x1048 → a ≠ 0x1010 → u.rd a = x.rd a) ∧ u.rd 0x1040 = (s.errNext + 1) % 64 ∧
      u.rd 0x1048 = (x.rd 0x1048 + 1) % 2 ^ 32 ∧ u.flag 0x1010 0 = true ∧ u.flag 0x1010 1 = x.flag 0x1010 1 := by
    intro x u e
    subst e
    refine ⟨fun a h1 h2 h3 => ?_, ?_, ?_, State.flag_raise_same _ 0x1000 0 (by decide), ?_⟩
    · rw [State.rd_raise_ne _ _ h3, State.rd_add_ne _ _ (show a ≠ Reg.devErrTotal from h2), State.rd_wr_ne _ _ (show a ≠ Reg.devErrHead from h1)]
    · rw [State.rd_raise_ne _ _ (by decide), State.rd_add_ne _ _ (by decide)]
      exact (State.rd_wr_same _ _ _).trans (Nat.mod_eq_of_lt (by omega))
    · rw [State.rd_raise_ne _ _ (by decide)]
      refine (State.rd_add_same _ _ _).trans ?_
      rw [State.rd_wr_ne _ _ (by decide)]; rfl
    · rw [State.raise, State.tellMarigold_flag, State.flag_setFlag_other _ _ _ _ _ (by decide) (by decide), State.flag, State.rd_add_ne _ _ (by decide),
        State.rd_wr_ne _ _ (by decide)]; rfl
  have o := out _ (s.errEntry who addr code data) rfl
  generalize s.errEntry who addr code data = u at *
  generalize (s.errOverwrite s.errNext).errFill s.errNext who addr code data = x at *
  have a0 : ∀ i, (i = 0 ∨ i = 4 ∨ i = 8 ∨ i = 12) → u.rd (0x1100 + i + 0x10 * s.errNext) = x.rd (0x1100 + i + 0x10 * s.errNext) :=
    fun i hi => o.1 _ (by omega) (by omega) (by omega)
  constructor
  · exact (a0 0 (by omega)).trans f.1
  · exact (a0 4 (by omega)).trans f.2.1
  · exact (a0 8 (by omega)).trans f.2.2.1
  · exact (a0 12 (by omega)).trans f.2.2.2
  · exact o.2.1
  · refine o.2.2.1.trans ?_
    rw [show x.rd 0x1048 = s.rd Reg.devErrTotal from (k _ (by simp [Reg.devErrW0, Reg.devErrW1, Reg.devErrW2, Reg.devErrW3]; omega)).trans t1]
  · exact o.2.2.2.1
  · intro hu
    have l := l1 hu
    refine ⟨?_, ?_⟩
    · rw [State.flag, show u.rd Reg.devErrLost = x.rd Reg.devErrLost from o.1 _ (by decide) (by decide) (by decide),
        k _ (by simp [Reg.devErrW0, Reg.devErrW1, Reg.devErrW2, Reg.devErrW3, Reg.devErrLost]; omega)]
      exact l.1
    · rw [o.2.2.2.2, State.flag, k _ (by simp [Reg.devErrW0, Reg.devErrW1, Reg.devErrW2, Reg.devErrW3]; omega)]
      exact l.2

/-- What PAGE_ERR holds after a rejection. -/
theorem State.pageErr_rd (s : State) (base off code : Nat) : (s.pageErr base off code).rd (base + 0xC) = s.pageErrAfter base off code := by
  unfold State.pageErr State.pageErrAfter
  split
  · exact State.rd_setFld_same _ _ _ _ _ (by decide) (by decide)
  · rw [State.rd_wr_same, Nat.mod_eq_of_lt (pageErrWord_lt _ _)]

theorem State.pageErr_words (s : State) (base off code : Nat) : s.wordsBut (s.pageErr base off code) [base + 0xC] := by
  unfold State.pageErr
  split
  · exact State.wordsBut_setFlag (State.wordsBut_refl _ _) (by simp)
  · exact State.wordsBut_wr (State.wordsBut_refl _ _) (by simp)

theorem State.pageErr_shadow (s : State) (base off code : Nat) : (s.pageErr base off code).shadow = s.shadow := by
  unfold State.pageErr
  split
  · exact State.setFlag_shadow_eq _ _ _ _
  · exact State.wr_shadow_eq _ _ _

theorem State.pageErr_ras (s : State) (base off code : Nat) : (s.pageErr base off code).ras = s.ras := by
  unfold State.pageErr
  split
  · exact State.setFlag_ras _ _ _ _
  · exact State.wr_ras _ _ _

/-- A rejection recorded after PAGE_ERR is the same rejection. -/
theorem ErrRecorded.after_pageErr {s u : State} {base off code who addr c data : Nat} (hb : base % 0x1000 = 0)
    (h : ErrRecorded (s.pageErr base off code) u who addr c data) : ErrRecorded s u who addr c data := by
  have w := s.pageErr_words base off code
  have ne : ∀ x, x % 0x1000 ≠ 0xC → (s.pageErr base off code).rd x = s.rd x := fun x hx => w x (by simp; omega)
  have en : (s.pageErr base off code).errNext = s.errNext := by
    unfold State.errNext; rw [ne _ (by decide)]
  have hn : s.errNext < 64 := Nat.mod_lt _ (by decide)
  have r := s.pageErr_ras base off code
  obtain ⟨a, b, c, d, e, f, g, i⟩ := h
  rw [en] at a b c d e i
  rw [r] at b d
  rw [ne _ (by decide)] at f
  refine ⟨a, b, c, d, e, f, g, fun hf => i ?_⟩
  rw [State.flag, ne _ (by unfold Reg.devErrW0; omega)]; exact hf

/-! ### The three ends of a write -/

theorem State.certCheck_same (s old : State) (h : s.secu = old.secu) : s.certCheck old = s := by
  have e : s.reasons = old.reasons := by unfold State.reasons; rw [h]
  unfold State.certCheck; rw [e]; simp

theorem State.writeWord_unmapped {s : State} {who : Requester} {addr size data : Nat} (h : s.reached (addr % 0x400000) = none) :
    s.writeWord who addr size data = s.rejectUnmapped who addr data := by
  unfold State.writeWord; dsimp only; rw [h]

theorem State.writeWord_rejected {s : State} {who : Requester} {addr size data : Nat} {p : PageDef}
    (h : s.reached (addr % 0x400000) = some p) (c : s.writeCode who (isPriv who addr) p (addr % 0x400000) size data ≠ 0) :
    s.writeWord who addr size data =
      s.rejectWrite who addr (s.writeCode who (isPriv who addr) p (addr % 0x400000) size data) data := by
  unfold State.writeWord; dsimp only; rw [h]; exact if_neg c

theorem State.writeWord_accepted {s : State} {who : Requester} {addr size data : Nat} {p : PageDef}
    (h : s.reached (addr % 0x400000) = some p) (c : s.writeCode who (isPriv who addr) p (addr % 0x400000) size data = 0) :
    s.writeWord who addr size data = (s.acceptWord p (addr % 0x400000) data).marigoldSees who addr p data := by
  unfold State.writeWord; dsimp only; rw [h]; exact if_pos c

theorem requesterCode_lt (who : Requester) : requesterCode who < 8 := by cases who <;> decide

theorem State.reject_recorded (s : State) (who : Requester) (addr code data : Nat) :
    ErrRecorded s (s.reject who addr code data) (requesterCode who) (errAddr who addr) code data :=
  (State.errEntry_recorded _ _ _ _ _ (requesterCode_lt who)).after_pageErr (by omega)

theorem State.reject_words (s : State) (who : Requester) (addr code data : Nat) :
    s.wordsBut (s.reject who addr code data) (errWords s.errNext ++ [addr % 0x400000 / 0x1000 * 0x1000 + 0xC]) := by
  intro x hx
  have en : (s.pageErr (addr % 0x400000 / 0x1000 * 0x1000) (addr % 0x400000 % 0x1000) code).errNext = s.errNext := by
    unfold State.errNext
    rw [State.pageErr_words s _ _ _ _ (by simp [Reg.devErrHead]; omega)]
  unfold State.reject
  rw [State.errEntry_words _ _ _ _ _ x (by rw [en]; exact fun e => hx (List.mem_append_left _ e))]
  exact State.pageErr_words s _ _ _ x (fun e => hx (List.mem_append_right _ e))

theorem State.rejectCommit_recorded (s : State) (base off code : Nat) (hb : base % 0x1000 = 0) :
    ErrRecorded s (s.rejectCommit base off code) 0 (base + off) code 0 :=
  (State.errEntry_recorded _ _ _ _ _ (by decide)).after_pageErr hb

/-! ### Codes (R54) -/

theorem firstCode_eq_zero (l : List Nat) : firstCode l = 0 ↔ ∀ c ∈ l, c = 0 := by
  induction l with
  | nil => simp [firstCode]
  | cons c l ih =>
    simp only [firstCode, List.mem_cons, forall_eq_or_imp]
    by_cases h : c = 0
    · rw [if_pos h, ih]; simp [h]
    · rw [if_neg h]
      constructor
      · intro e
        split at e
        · exact absurd e h
        · rename_i n; rw [e] at n; exact absurd (Or.inl rfl) n
      · intro e; exact absurd e.1 h

end Sys2Proof.Machine
end

