-- ==== Sys2Proof/WellFormed.lean ====
section
/-! DEFINITION. Which commands name things that the block has: pages, entries, sessions, engines, clusters, channels, lanes and
drives within their numbers (R37, R74, R94, R134, R160, R353, R399, R416, R429, R446, R492). A command that names nothing changes
nothing but what a rejected write changes; no meaning leans on this check. -/

namespace Sys2Proof

/-- The page, unit, cluster or chain of a fence request exists (R37, R199, R333, R492). -/
def portOk : FencePort → Bool
  | .page n => decide (n < 0x400)
  | .unit n => decide (n < 173)
  | .cluster n => decide (n < 64)
  | .chain n => decide (n < 36)

/-- The command names only things that exist. -/
def Instr.wf : Instr → Bool
  | .registerWrite who _ size _ => decide (0 < size ∧ size ≤ 4) || (decide (who = .host) && size == 8)
  | .irqForce _ page _ | .commitReq _ page _ | .commitCancel _ page _ | .commitTakeEffect page => decide (page < 0x400)
  | .gcommitReq _ _ | .gcommitCancel _ _ | .devIntcEoi _ _ | .lineStart _ | .rasFrameDone _ | .latch _ | .rasFrameRead _
  | .transitionFadeOut _ | .transitionLensPark _ | .transitionDischarge _ | .transitionRetime _ | .transitionReacquireEnd _
  | .transitionFadeIn _ | .rasTransitionDone _ | .scnEnable _ _ | .scnDisable _ _ | .scnStoreRelease _ | .scnQueryGo _ _
  | .scnQueryDone | .stagingOpen | .stagingChangeResume | .injectGo _ _ | .ingInjectDone | .ingEnable _ _ | .ingDisable _ _
  | .synGridLoadGo _ _ | .synGridLoaded | .planningStart _ | .plcCostmapDone | .rayResultAdmit _ _ _ _ _ _ _ _
  | .oasisUnitWrite _ _ _ _ _ | .oasisCtrlWrite _ _ | .brcLutLoadGo _ _ | .brcLutLoaded | .snapGo _ _ | .brcSnapDone
  | .plcHintGo _ _ | .plcCostmapGo _ _ | .plcEvacDone _ | .barchanRestart _ | .bltRingTail _ _ | .bltCopy _ _ | .bltFill _ _
  | .bltGlyph _ _ | .bltHeld | .bltRelease _ _ | .bltDone | .bltDisable _ _ | .pnlRwGo _ _ | .pnlOdLoadGo _ _ | .pnlOdLoaded
  | .lensZeroField _ | .panelUp _ _ | .panelRailOn _ _ | .panelClearingEnd _ | .panelDown _ _ | .panelRailOff _ | .pnlPowerDone
  | .dischargeTrigger _ _ | .dischargeHoldExpire _ | .dischargeEnd _ | .bklFadeGo _ _ | .bklFadeDone _ | .heartbeatLoss _
  | .grantRelease _ _ | .grant _ | .snapshotSend _ | .snapshotReceive _ _ | .fovStale _ | .stateRestore _ | .fovCold _
  | .fovSwitch _ _ | .ilkForce _ _ _ | .timNowRead _ | .dmcRestore _ _ | .segmentWrite _ _ | .segmentQuery _ _
  | .segmentDelete _ _ | .nvsFallback _ | .nvsFallbackEnd _ | .marigoldRestart _ | .mgtCpxRestart _ _ | .cpxWatchdogExpire _
  | .mgtCpxKick _ _ | .housekeepingRound _ _ | .throttleGraceExpire _ | .throttleHoldExpire _ | .thmSensClr _ _ | .pwrBrace _ _
  | .pwrNormal _ | .pwrFail _ _ | .restartAfterStop _ | .holdupMeasure _ | .pwrHoldMeasured _ | .holdupMeasureTimeout _
  | .regulatorOn _ _ _ | .logAppend _ | .porstAssert _ | .recoveryGo _ _ | .rcvResetPtr _ _ | .secRcvData _ _ | .secKatGo _ _
  | .cpxImageRelease _ | .startUp _ | .shdnReq _ | .shutdownBist _ | .shutdownComplete _ | .hepPerstN _ | .shdnReqNRelease _
  | .corePowerOnReset _ | .marigoldReady _ | .nvsSegwDone _ | .nvsSegopDone _ | .nocDomainLost _ => true
  | .devIntcMaskWrite _ half _ => decide (half < 2)
  | .devIntcRouteWrite _ index _ => decide (index < 512)
  | .caravanArm _ entry _ | .caravanDisarm _ entry _ | .crvNotify entry _ | .crvWrite entry _ | .pinSet entry _
  | .pinPulse entry _ | .timestamp entry _ => decide (entry < 512)
  | .pinPulseEnd pin _ => decide (pin < 4)
  | .windowFill slice which _ _ _ => decide (slice < 8 ∧ which < 2)
  | .datagramReceive source _ _ _ => decide (source < 3)
  | .datagramApply session | .keyAccept session | .definePlane session | .alterPlane session | .writeBlock session
  | .copyRegion session | .fillRegion session | .glyphRun session | .setDepth session | .commitFrame session | .nackSend session _
  | .gapTimeout session _ | .reportSend session _ | .sessionEnable _ session _ | .sessionClose _ session _ => decide (session < 64)
  | .mbcRingTail _ engine _ | .mbcDecodeJob engine | .mbcEncodeJob engine | .mbcVerifyJob engine | .mbcJobDone engine
  | .mbcStopped engine | .mbcResumeOut _ engine | .mbcResumeIn _ engine | .mbcCancel _ engine | .mbcDisable _ engine _ => decide (engine < 8)
  | .clusterClaim cluster _ | .tileStart cluster _ | .tileSteal cluster _ | .revokeArrive cluster _ | .residueFailure cluster _ => decide (cluster < 64)
  | .windowEccError slice _ _ _ | .sliceLost slice _ => decide (slice < 8)
  | .unitMigrate _ dest _ => decide (dest < 12)
  | .cacheReadahead player _ | .playbackGo _ player _ | .playbackStop _ player _ | .playbackDeliver player _ | .nvsPbDone player _
  | .nvsPbLost player _ => decide (player < 4)
  | .lyrDoneWrite _ layer _ | .lyrFaultDrop layer _ => decide (1 ≤ layer ∧ layer ≤ 7)
  | .bklSlot row _ => decide (row < 288)
  | .wpCycle reads _ => decide (reads.length = 8)
  | .frameReceive path _ _ | .npxFragTimeout path _ | .linkDown path _ _ _ _ | .linkUp path _ | .transmissionOpportunity path _
  | .npxHtxTail _ path _ | .npxHrxTail _ path _ | .gclGo _ path _ | .gclCancel _ path _ | .npxGclSwitch path _
  | .heartbeat path _ _ | .ptpSync path _ _ | .followUp path _ _ | .delayReq path _ | .delayResp path _ _
  | .ptpAnnounce path _ _ _ | .ptpTimeout path _ | .dieToDieDown path _ | .dieToDieUp path _ => decide (path < 2)
  | .dramRead _ _ addr found _ _ _ => decide (addr % 64 = 0 ∧ found.err ≤ 5)
  | .dramWrite _ _ addr bytes _ _ _ => decide (1 ≤ bytes.length ∧ addr % 64 + bytes.length ≤ 64)
  | .trefi channel _ | .hardBoundary channel _ _ | .softBoundary channel _ | .dramTraining channel _ _ _ _ _ _
  | .dqsDriftCheck channel _ _ | .dimmPwr _ channel _ => decide (channel < 12)
  | .dmcCaParity channel replays _ => decide (channel < 12 ∧ replays.fails < 4 ∧ replays.since ≤ 64)
  | .scrubRead channel err _ _ => decide (channel < 12 ∧ err ≤ 4)
  | .driveInsert drive copies _ _ generation _ _ _ => decide (drive < 2 ∧ generation < 8 ∧ copies.length = 2)
  | .driveSurpriseRemove loss _ => decide (loss.drive < 2)
  | .nvmeCommandTimeout drive _ _ | .driveInit _ drive _ => decide (drive < 2)
  | .laneEnable lane _ | .laneRetry lane _ | .laneRestart _ lane _ | .scanGo _ lane _
  | .eqSlewStep lane _ _ => decide (lane < 84)
  | .lnkScanDone lane phase volt _ => decide (lane < 84 ∧ phase.length = volt.length)
  | .lnkLaneReady lane tx rx0 rx1 _ => decide (lane < 84 ∧ tx < 2 ^ 32 ∧ rx0 < 2 ^ 32 ∧ rx1 < 2 ^ 32)
  | .lnkLaneFault lane cause _ => decide (lane < 84 ∧ 1 ≤ cause ∧ cause ≤ 3)
  | .mbStatus channel _ _ | .mbLogRead channel _ _ | .mbPrivWrite channel _ _ | .mbDomain channel _ _ _
  | .mbCalCapture channel _ _ | .mbUpdateBegin channel _ _ | .mbUpdateBlock channel _ _ | .mbUpdateEnd channel _ _
  | .mbActivate channel _ _ | .mbCommit channel _ _ | .mbAttest channel _ _ | .mbIdentity channel _ _ | .mbKeyLoad channel _ _
  | .mbKeyClear channel _ _ | .mbOwnerEnrol channel _ _ | .mbOwnerRevoke channel _ _ | .mbLifecycle channel _ _
  | .mbTestUnlock channel _ _ => decide (channel < 2)
  | .domainUp domain _ => decide (domain < 35)
  | .unitFence _ port | .unitUnfence _ port | .unitTest _ port => decide (portOk port)
  | .fencingDrained unit _ => decide (unit < 173)
  | .svcTestDone unit result _ _ => decide (unit < 173 ∧ result < 2 ^ 16)
  | .svcLogLost source event severity _ _ => decide (source < 65536 ∧ event < 65536 ∧ severity < 4)
  | .resetRelease kat _ _ | .secKatDone kat _ => decide (kat.length = 4)

end Sys2Proof
end

