-- ==== Sys2Proof/Tests/Slice0.lean ====
section
/-! SUPPORT. Tests: a term that each check of WellFormed refuses, and for every statement with premises (clause by clause where it
has several) a concrete state and operands that meet them together, at the ends of their ranges. -/

-- One test at a time: each `decide +kernel` waits for the kernel, and elaborated side by side each of them would hold a
-- thread with a stack of its own while it waits.
set_option Elab.async false

namespace Sys2Proof.Tests
open Sys2Proof Sys2Proof.Machine

/-! ### States and tactics of the witnesses -/

/-- A power-up: every domain is on and every service unit ACTIVE; the listed words are put in force. -/
def on (l : List (Nat × Nat)) : State :=
  l.foldl (fun s e => s.wr e.1 e.2)
    { State.reset with regs := (0x190048, 0xFFFFFFFF) :: (0x19004C, 7) :: (List.range 171).map (fun u => (Reg.svcUnit u, 0)) }

/-- `accepts` from a check that evaluates. -/
theorem acceptsOf {s : State} {who : Requester} {addr data : Nat}
    (h : (match s.reached (addr % 0x400000) with
      | some p => decide (s.writeCode who (isPriv who addr) p (addr % 0x400000) 4 data = 0) | none => false) = true) :
    s.accepts who addr data := by
  unfold State.accepts
  split at h
  · rename_i p hp; exact ⟨p, hp, by simpa using h⟩
  · simp at h

theorem test_on_canonical : Regs.wf (on []).regs = true := by decide +kernel

/-- An optional value that is there and has a property, from a check that evaluates. -/
theorem someOf {α : Type} {o : Option α} {P : α → Prop} [DecidablePred P]
    (h : (match o with | some p => decide (P p) | none => false) = true) : ∃ p, o = some p ∧ P p := by
  split at h
  · exact ⟨_, rfl, by simpa using h⟩
  · simp at h

theorem writeCode_header {s : State} {who : Requester} {b : Bool} {p : PageDef} {addr data : Nat} (hs : s.pageState p = 0)
    (h : addr % 4 = 0 ∧ addr % 0x1000 < 0x40) (hc : s.headerCodes p (addr % 0x1000) data = []) : s.writeCode who b p addr 4 data = 0 := by
  simp [State.writeCode, hs, h.1, h.2, hc, codeIf, firstCode]

theorem writeCode_word {s : State} {who : Requester} {b : Bool} {p : PageDef} {addr data : Nat} (hs : s.pageState p = 0)
    (h : addr % 4 = 0 ∧ 0x40 ≤ addr % 0x1000) (hc : s.wordCodes who b p (addr % 0x1000) data = []) : s.writeCode who b p addr 4 data = 0 := by
  simp [State.writeCode, hs, h.1, Nat.not_lt.mpr h.2, hc, codeIf, firstCode]

/-- A powered state with another raster. -/
def ras (l : List (Nat × Nat)) (r : Ras) : State := { on l with ras := r }

/-- A module of 32 GiB on channel 0. -/
def fitted : List (List Dimm) := [{ gib := 32, ranks := 1, width := 8, serial := 1, speed := 6400, rfm := false, registered := true, ecc := true, density := 16 }] :: List.replicate 11 []

/-- A module on channel 0 with room beside control complex memory, whose size is open. -/
def roomy : List (List Dimm) := [{ gib := Config.cpxBytes + 64, ranks := 1, width := 8, serial := 1, speed := 6400, rfm := false, registered := true, ecc := true, density := 16 }] :: List.replicate 11 []

theorem chanCap_roomy {s : State} {l : List (List Dimm)} (h : s.dimms = roomy.take 1 ++ l) : s.chanCap 0 = 2 ^ 30 * (Config.cpxBytes + 64) := by
  unfold State.chanCap
  rw [h]
  exact congrArg (2 ^ 30 * ·) (Nat.zero_add _)

theorem roomy_has {s : State} {l : List (List Dimm)} (h : s.dimms = roomy.take 1 ++ l) : Config.cpxBytes + 2 ^ 36 ≤ s.chanCap 0 := by
  rw [chanCap_roomy h]
  omega

/-- A channel without units may be evacuated where channel 0 is the roomy one and no third one is fitted. -/
theorem evacFits_roomy {s : State} {c : Nat} {l : List (List Dimm)} (hd : s.dimms = roomy.take 1 ++ l) (hs : s.scn = Scn.reset)
    (hc : s.plc = Plc.reset) (h : c ≠ 0 ∧ (∀ x, x < 12 → s.unitState (119 + x) = 0) ∧ (∀ x ∈ List.range' 1 11, s.chanCap x = 0 ∨ x = c) ∧
      s.oasBytes ≤ 2 ^ 36) : s.evacFits c = true := by
  obtain ⟨h0, hu, hx, ho⟩ := h
  obtain ⟨g, hcap, hg⟩ : ∃ g, s.chanCap 0 = g ∧ Config.cpxBytes + 2 ^ 36 ≤ g := ⟨_, rfl, roomy_has hd⟩
  have hp : s.placeChannels.filter (fun x => x != c) = [0] := by
    have range : List.range 12 = 0 :: List.range' 1 11 := rfl
    have pos : 0 < s.chanCap 0 := by omega
    have rest : (List.range' 1 11).filter (fun x => (x != c) && (s.unitState (119 + x) == 0 && decide (0 < s.chanCap x) &&
        !s.plc.evacWait.contains x && !s.plc.evac.any (fun e => e.channel == x))) = [] := by
      rw [List.filter_eq_nil_iff]
      intro x hm
      rcases hx x hm with h | h <;> simp [h]
    unfold State.placeChannels
    rw [List.filter_filter, range, List.filter_cons_of_pos, rest]
    have z := hu 0 (by decide)
    simp only [Nat.add_zero] at z
    simp [hc, Plc.reset, pos, z, Ne.symm h0]
  simp only [State.evacFits, hp, State.unitsOn, hs, hc, Scn.reset, Plc.reset, Scn.share, hcap, List.map_cons, List.map_nil, List.sum_cons,
    List.sum_nil, List.filter_nil, List.countP_nil, Option.getD_none, List.find?_nil, Option.elim_none, Bool.and_eq_true, decide_eq_true_eq]
  omega

/-! ### WellFormed refuses -/

theorem test_wf_registers :
    ([.registerWrite .host 0 0 0, .registerWrite .host 0 5 0, .irqForce .host 0x400 0, .commitReq .host 0x400 0, .commitCancel .host 0x400 0,
      .commitTakeEffect 0x400, .devIntcMaskWrite .host 2 0, .devIntcRouteWrite .host 512 0, .caravanArm .host 512 0, .crvNotify 512 0,
      .pinPulseEnd 4 0] : List Instr).all (fun i => !i.wf) = true := by decide +kernel

theorem test_wf_scene :
    ([.windowFill 8 0 0 0 0, .windowFill 0 2 0 0 0, .datagramReceive 3 [] none 0, .datagramApply 64, .sessionEnable .host 64 0,
      .mbcDecodeJob 8, .mbcDisable .host 8 0, .clusterClaim 64 0, .residueFailure 64 0, .windowEccError 8 0 0 0, .sliceLost 8 0,
      .unitMigrate 0 12 0, .cacheReadahead 4 0, .playbackGo .host 4 0, .lyrDoneWrite .host 0 0, .lyrFaultDrop 8 0, .bklSlot 288 0,
      .wpCycle (List.replicate 7 none) 0] : List Instr).all (fun i => !i.wf) = true := by decide +kernel

theorem test_wf_outside :
    ([.linkUp 2 0, .gclGo .host 2 0, .dramRead 0 false 0 ⟨6, 0⟩ none false 0, .dramRead 0 false 1 ⟨0, 0⟩ none false 0,
      .dramWrite 0 false 0 (List.replicate 65 0) none false 0, .dramWrite 0 false 0 [] none false 0, .trefi 12 0, .dimmPwr .host 12 0,
      .dmcCaParity 0 ⟨4, 0⟩ 0, .dmcCaParity 12 ⟨0, 0⟩ 0, .dmcCaParity 0 ⟨0, 65⟩ 0, .scrubRead 12 0 0 0, .scrubRead 0 5 0 0,
      .driveInsert 0 [] 0 true 0 0 0 0, .driveSurpriseRemove ⟨2, false⟩ 0, .nvmeCommandTimeout 2 ⟨0, true⟩ 0, .lnkScanDone 0 [] [⟨0, [], []⟩] 0, .laneEnable 84 0,
      .lnkLaneReady 0 0 0 (2 ^ 32) 0, .lnkLaneFault 0 0 0, .lnkLaneFault 0 4 0] : List Instr).all (fun i => !i.wf) = true := by decide +kernel

theorem test_wf_services :
    ([.mbStatus 2 [] 0, .domainUp 35 0, .unitFence .host (.page 0x400), .unitFence .host (.unit 173), .unitTest .host (.cluster 64),
      .unitUnfence .host (.chain 36), .fencingDrained 173 0, .svcTestDone 0 (2 ^ 16) 0 0, .svcTestDone 173 0 0 0,
      .svcLogLost 65536 0 0 [] 0, .svcLogLost 0 65536 0 [] 0, .svcLogLost 0 0 4 [] 0, .resetRelease [true] false 0,
      .secKatDone [] 0, .revokeArrive 64 0, .tileStart 64 0, .tileSteal 64 0] : List Instr).all (fun i => !i.wf) = true := by decide +kernel

/-! ### The block as a whole -/

theorem witness_StepRunsFront :
    (∃ (s : State) (c : Instr) (q : List Instr), s.pending = c :: q) ∧ State.reset.pending = [] :=
  ⟨⟨State.reset.withPending [.stagingOpen], .stagingOpen, [], rfl⟩, rfl⟩

theorem witness_QueueInOrder : 1 ≤ (State.reset.withPending [.stagingOpen]).pending.length := by decide +kernel

theorem witness_StepKeepsGood : State.reset.Good ∧ ∃ u, step State.reset = .next u :=
  ⟨⟨by decide +kernel, by decide +kernel, by unfold State.vectorsSettled; decide +kernel⟩, _, rfl⟩

theorem witness_CommandsFrame :
    ∃ u, exec (.hepPerstN 0) State.reset = .next u ∧ Part.dram ∉ touches (.hepPerstN 0) := ⟨_, rfl, by decide +kernel⟩

/-! ### The register model -/

theorem witness_RejectedWrite :
    ∃ p, (on []).reached (0x10010 % 0x400000) = some p ∧
      ((on []).writeCode .host (isPriv .host 0x10010) p (0x10010 % 0x400000) 4 0x80000000 = 3 ∧ 3 ≠ 0) := someOf (by decide +kernel)

theorem witness_StickyRejections :
    ∃ p, pageDef 0x14 15 = some p ∧ p.code = 0x14 ∧ p.index = 15 ∧ p.index < 16 ∧
      (on [(0x14F00C, 0x80000000)]).flag (p.base + 0xC) 31 = true ∧ 0x14FFFF % 0x400000 / 0x1000 * 0x1000 = p.base :=
  someOf (by decide +kernel)

theorem witness_UnmappedAccess :
    pageOf (0x1E0000 % 0x400000) = none ∧
    ∃ p, pageOf (0x60 % 0x400000) = some p ∧ p.lastListed < 0x60 % 0x400000 % 0x1000 / 4 * 4 :=
  ⟨by decide +kernel, someOf (by decide +kernel)⟩
theorem witness_PlainWordsStored :
    ∃ p, (on []).reached (0x9708C) = some p ∧
      ((on []).writeCode .host (isPriv .host 0x9708C) p 0x9708C 4 0xFFFF = 0 ∧ p.code = 0x09 ∧ 0x40 ≤ 0x9708C % 0x1000 ∧
        (match rowFor p.rows (0x9708C % 0x1000) with
          | some r => decide (∀ f ∈ r.1.fields, f.kind ≠ .rws) | none => false) = true) := someOf (by decide +kernel)

theorem witness_ShadowsWritten_ras :
    ∃ p, (on []).reached 0x10070 = some p ∧
      ((on []).writeCode .host (isPriv .host 0x10070) p 0x10070 4 0x8000 = 0 ∧ (p.code = 0x01 ∧ p.index = 0) ∧ 0x40 ≤ 0x10070 % 0x1000 ∧
        (match rowFor p.rows (0x10070 % 0x1000) with
          | some r => decide (∃ f ∈ r.1.fields, f.kind = .rws) | none => false) = true) := someOf (by decide +kernel)

theorem witness_ShadowsWritten_layer :
    ∃ p, (on []).reached 0x97088 = some p ∧
      ((on []).writeCode .host (isPriv .host 0x97088) p 0x97088 4 0xFFFF = 0 ∧ p.code = 0x09 ∧ 0x40 ≤ 0x97088 % 0x1000 ∧
        (match rowFor p.rows (0x97088 % 0x1000) with
          | some r => decide (∃ f ∈ r.1.fields, f.kind = .rws) | none => false) = true) := someOf (by decide +kernel)

theorem witness_PendingCommitHoldsShadows :
    (∃ p, pageOf 0x10070 = some p ∧
      ((on [(Reg.devGcommit, 2)]).commitPending p = true ∧ (on [(Reg.devGcommit, 2)]).pageState p = 0 ∧
        (∀ c ∈ (on [(Reg.devGcommit, 2)]).wordCodes .host false p (0x10070 % 0x1000) 0, c ∉ [0xB, 5, 4, 3]) ∧
        (match rowFor p.rows (0x10070 % 0x1000) with
          | some r => decide (∃ f ∈ r.1.fields, f.kind = .rws) | none => false) = true)) ∧
    (∃ p, pageOf 0x130 = some p ∧ p.shadow = false ∧ 0x1C % 0x1000 = 0x1C ∧ bitOf 1 0 = true ∧ bitsOf 1 15 4 = 0 ∧
      (on []).pageState p = 0) := ⟨someOf (by decide +kernel), someOf (by decide +kernel)⟩

theorem witness_EnrolledPagesFollowGroup :
    ∃ p, (on []).reached (0x1001C % 0x400000) = some p ∧ p.group = true ∧ p.shadow = true ∧ 0x1001C % 0x400000 % 0x1000 = 0x1C ∧
      0x1001C % 4 = 0 ∧ bitOf 8 3 = true ∧ bitsOf 8 15 4 = 0 ∧ (on []).pageState p = 0 := someOf (by decide +kernel)

theorem witness_InterruptRegisters :
    (0x1D0 < 0x400 ∧ (on []).accepts .host (0x1D0 * 0x1000 + 0x18) 8) ∧ (on []).accepts .host (0x2048 + 4 * 1) 0xFFFFFFFF ∧
    (on []).accepts .host (Reg.devIntcRoute (0x1D0)) 0x8000003F ∧ (on []).vectorsSettled ∧ (on []).accepts .host Reg.devIntcEoi 63 :=
  ⟨⟨by decide, acceptsOf (by decide +kernel)⟩, acceptsOf (by decide +kernel), acceptsOf (by decide +kernel),
    by unfold State.vectorsSettled; decide +kernel, acceptsOf (by decide +kernel)⟩

theorem witness_CommitRequests :
    (∃ p, (on []).reached (0xB1 * 0x1000 + 0x1C) = some p ∧ p.group = false) ∧
    (on []).accepts .host (0xB1 * 0x1000 + 0x1C) (putBits 0 0 0 1) ∧ (on []).accepts .host (0xB1 * 0x1000 + 0x1C) (putBits 0 3 3 1) ∧
    (on []).accepts .host Reg.devGcommit (putBits 0 0 0 1) ∧ (on []).accepts .host Reg.devGcommit (putBits 0 3 3 1) :=
  ⟨someOf (by decide +kernel), acceptsOf (by decide +kernel), acceptsOf (by decide +kernel), acceptsOf (by decide +kernel),
    acceptsOf (by decide +kernel)⟩

theorem witness_CommitTakesEffect :
    let s := { on [(0xB101C, 2)] with ras := { Ras.reset with commitDue := [0xB1000] } }
    0xB1 < 0x400 ∧ s.ras.commitDue.contains (0xB1 * 0x1000) = true ∧ s.flag (0xB1 * 0x1000 + 0x1C) 1 = true := by decide +kernel
/-! ### Raster time and the Caravan -/

theorem witness_RasterAdvances :
    let line := fun n => ras [] { Ras.reset with line := n }
    (line 4638).rasterOn = true ∧ (line 4638).ras.line + 1 < (line 4638).ras.timing.vtotal ∧
    (line 4639).rasterOn = true ∧ (line 4639).ras.line + 1 = (line 4639).ras.timing.vtotal ∧ (line 4639).ras.lock = 0 ∧
    (line 4576).rasterOn = true ∧ (line 4576).ras.line = (line 4576).ras.timing.latch ∧ (line 4576).ras.latched = false := by decide +kernel

theorem witness_ModeTransitionSteps_fadeOut :
    let s := ras [] { Ras.reset with transDue := some 0 }
    s.rasterOn = true ∧ s.ras.step = 0 ∧ s.ras.line = 0 ∧ s.ras.transDue = some s.ras.frame ∧ s.ras.skipFade = false := by decide +kernel

theorem witness_ModeTransitionSteps_park :
    let s := ras [] { Ras.reset with step := 1, stepEnd := some ms }
    s.rasterOn = true ∧ s.ras.step = 1 ∧ s.ras.stepEnd = some ms ∧ ms ≤ max s.now ms := by decide +kernel

theorem witness_ModeTransitionSteps_discharge :
    let s := ras [] { Ras.reset with step := 2, stepFrames := 128 }
    s.rasterOn = true ∧ s.ras.step = 2 ∧ s.ras.line = 0 ∧ s.pnl.lens = [] ∧ s.fld Reg.pnlLnsCtrl 14 8 < s.ras.stepFrames := by decide +kernel

theorem witness_ModeTransitionSteps_retime :
    let s := ras [] { Ras.reset with step := 3, stepFrames := 2 }
    let v := ras [] { Ras.reset with transDue := some 0, skipFade := true }
    s.rasterOn = true ∧ s.ras.line = 0 ∧ s.ras.step = 3 ∧ 2 ≤ s.ras.stepFrames ∧
    v.rasterOn = true ∧ v.ras.line = 0 ∧ v.ras.step = 0 ∧ v.ras.transDue = some v.ras.frame ∧ v.ras.skipFade = true := by decide +kernel

theorem witness_ModeTransitionSteps_reacquire :
    let s := ras [] { Ras.reset with step := 5, stepFrames := 16, lock := 2 }
    let v := ras [] { Ras.reset with step := 5, stepFrames := 1, holdFrames := 1, lock := 3 }
    s.rasterOn = true ∧ s.ras.step = 5 ∧ s.ras.line = 0 ∧ s.ras.lock = 2 ∧ 16 ≤ s.ras.stepFrames ∧
    v.rasterOn = true ∧ v.ras.step = 5 ∧ v.ras.line = 0 ∧ v.ras.lock = 3 ∧ v.ras.holdFrames ≤ v.ras.stepFrames := by decide +kernel

theorem witness_ModeTransitionSteps_fadeIn :
    let s := ras [] { Ras.reset with step := 6, stepFrames := 1 }
    let v := ras [] { Ras.reset with step := 6, stepEnd := some ms }
    s.rasterOn = true ∧ s.ras.step = 6 ∧ s.ras.line = 0 ∧ s.ras.stepEnd = none ∧ 1 ≤ s.ras.stepFrames ∧
    v.rasterOn = true ∧ v.ras.step = 6 ∧ v.ras.stepEnd = some ms ∧ ms ≤ max v.now ms := by decide +kernel

theorem witness_CaravanArming :
    511 < 512 ∧ (on [(Reg.crvW 511 1, 1)]).accepts .host (Reg.crvW 511 2) (putBits 0x3000000 31 31 1) ∧
    (on [(Reg.crvW 511 2, 0x80000000)]).accepts .host (Reg.crvW 511 2) (putBits 0 31 31 0) :=
  ⟨by decide, acceptsOf (by decide +kernel), acceptsOf (by decide +kernel)⟩

/-- Entry 511 armed with an action and a stamp of instant 0; the dispatcher on or off. -/
def crv (en act : Nat) : State := on [(Reg.rasCrvCtrl, en), (Reg.crvW 511 2, 0x80000000 + act * 0x100000), (Reg.crvW 511 3, 0xFF)]

theorem witness_CaravanActions :
    511 < 512 ∧ (∀ act, act < 5 → (crv 0 act).domOn 5 = true ∧ ((crv 0 act).at (10 * sec)).crvNext 511 act = true ∧
      (crv 0 act).flag Reg.rasCrvCtrl 0 = false ∧ (crv 0 act).flag (Reg.crvW 511 2) 24 = false) ∧
    ∀ act, act < 5 → (crv 1 act).domOn 5 = true ∧ ((crv 1 act).at (10 * sec)).crvNext 511 act = true ∧
      (crv 1 act).flag Reg.rasCrvCtrl 0 = true := by decide +kernel

theorem witness_CaravanActions_periodic :
    ∀ en, en < 2 → ∀ act, act < 5 → let s := (crv en (act + 16)).wr (Reg.crvW 511 1) 1
      (s.at sec).crvNext 511 act = true ∧ s.flag (Reg.crvW 511 2) 24 = true ∧ s.flag Reg.rasCrvCtrl 0 = decide (en = 1) ∧
      ∀ w ∈ s.crv.waiting, w.2 ≠ 511 := by decide +kernel

theorem witness_CaravanActions_pulseEnd :
    let s := { on [] with crv := { Crv.reset with pins := List.replicate 4 { base := false, level := true, pulseEnd := some ns } } }
    s.domOn 5 = true ∧ ∃ p, s.crv.pins[3]? = some p ∧ p.pulseEnd = some ns ∧ ns ≤ max s.now ns :=
  ⟨by decide +kernel, someOf (by decide +kernel)⟩
/-! ### Images with their check value behind them -/

theorem crcStep_lt {c : Nat} (h : c < 2 ^ 32) : crcStep c < 2 ^ 32 := by
  unfold crcStep
  split
  · exact Nat.xor_lt_two_pow (by omega) (by decide)
  · omega

theorem crcSteps_lt {n : Nat} : ∀ {c : Nat}, c < 2 ^ 32 → crcSteps n c < 2 ^ 32 := by
  induction n with
  | zero => intro c h; exact h
  | succ n ih => intro c h; exact ih (crcStep_lt h)

theorem crc32c_lt (bs : List Byte) : crc32c bs < 2 ^ 32 := by
  have h : ∀ (l : List Byte) (c : Nat), c < 2 ^ 32 → l.foldl (fun c b => crcSteps 8 (Nat.xor c b.toNat)) c < 2 ^ 32 := by
    intro l
    induction l with
    | nil => intro c hc; exact hc
    | cons b l ih =>
      intro c hc
      exact ih _ (crcSteps_lt (Nat.xor_lt_two_pow hc (by have := b.isLt; omega)))
  exact Nat.xor_lt_two_pow (h bs _ (by decide)) (by decide)

theorem leNat_leBytes (n : Nat) : ∀ v, v < 256 ^ n → leNat (leBytes n v) = v := by
  induction n with
  | zero => intro v h; simp [leBytes, leNat] at *; omega
  | succ n ih =>
    intro v h
    have : v / 256 < 256 ^ n := by rw [Nat.pow_succ] at h; omega
    simp only [leBytes, leNat, ih _ this, BitVec.toNat_ofNat]
    omega

theorem length_leBytes (n : Nat) : ∀ v, (leBytes n v).length = n := by
  induction n with
  | zero => intro v; rfl
  | succ n ih => intro v; simp [leBytes, ih]

/-- An image of `n` bytes followed by its check value. -/
theorem image_checks (bs : List Byte) :
    leNat (slice (bs ++ leBytes 4 (crc32c bs)) bs.length 4) = crc32c ((bs ++ leBytes 4 (crc32c bs)).take bs.length) := by
  have h : slice (bs ++ leBytes 4 (crc32c bs)) bs.length 4 = leBytes 4 (crc32c bs) := by
    unfold slice
    rw [List.drop_left, List.take_of_length_le (by rw [length_leBytes])]
  rw [h, List.take_left, leNat_leBytes 4 _ (by have := crc32c_lt bs; omega)]

theorem slice_middle {a m c : List Byte} {i n : Nat} (hi : a.length = i) (hn : m.length = n) : slice (a ++ (m ++ c)) i n = m := by
  subst hi hn
  simp [slice]

/-! ### The scene store and ingest -/

/-- A region of 4 GiB beside the Oasis and control complex memory. -/
def spacious : State := { on [(Reg.scnStoreSize, 4)] with dimms := roomy }

theorem placeSpace_roomy {s : State} {l : List (List Dimm)} (h : s.dimms = roomy.take 1 ++ l) (hu : s.unitState 119 = 0) :
    2 ^ 36 - s.oasBytes ≤ s.placeSpace := by
  have room := roomy_has h
  have range : List.range 12 = 0 :: List.range' 1 11 := rfl
  have hu' : s.unitState (119 + 0) = 0 := hu
  unfold State.placeSpace
  rw [range, List.map_cons, List.sum_cons, if_pos hu']
  omega

/-- EN of SCN_CTRL is accepted where the region finds its space. -/
theorem scnCheck_enable {s : State} (h : s.flag Reg.scnCtrl 0 = false ∧ s.scn = Scn.reset ∧ s.fld Reg.scnStoreSize 10 0 = 4 ∧
    s.unitState 119 = 0 ∧ s.oasBytes ≤ 2 ^ 35) {l : List (List Dimm)} (hd : s.dimms = roomy.take 1 ++ l) : s.scnCheck 0x40 1 = [] := by
  have space := placeSpace_roomy hd h.2.2.2.1
  have := h.2.2.2.2
  have big : ¬s.placeSpace < 4 * 2 ^ 30 := by omega
  simp [State.scnCheck, h.1, h.2.1, h.2.2.1, Scn.reset, codeIf]
  omega

theorem wordCodes_scn {s : State} {who : Requester} {p : PageDef} {off data : Nat} (hc : p.code = 0x02) (check : s.scnCheck off data = [])
    (hw : (match rowFor p.rows off with
      | some r => decide (codeIf (!false && privChanged (s.rd (p.base + off)) data r.1) 4 ++ codeIf (decide (Nat.land data r.1.reserved ≠ 0)) 3 ++
          codeIf (r.1.fields.any (fun f => f.kind == .rws) && s.commitPending p) 8 ++ r.1.fields.flatMap (fieldCodes false data) = [])
      | none => false) = true) : s.wordCodes who false p off data = [] := by
  split at hw
  · rename_i r hrow
    simp only [decide_eq_true_eq] at hw
    simp only [State.wordCodes, hrow, State.blockCheck, hc, check]
    rw [hw]
    rfl
  · cases hw

theorem spacious_enables : spacious.accepts .host Reg.scnCtrl (putBits 0 0 0 1) := by
  obtain ⟨p, hr, hc, hs, hw⟩ : ∃ p, spacious.reached (Reg.scnCtrl % 0x400000) = some p ∧ p.code = 0x02 ∧ spacious.pageState p = 0 ∧
      (match rowFor p.rows 0x40 with
        | some r => decide (codeIf (!false && privChanged (spacious.rd (p.base + 0x40)) 1 r.1) 4 ++ codeIf (decide (Nat.land 1 r.1.reserved ≠ 0)) 3 ++
            codeIf (r.1.fields.any (fun f => f.kind == .rws) && spacious.commitPending p) 8 ++ r.1.fields.flatMap (fieldCodes false 1) = [])
        | none => false) = true := someOf (by decide +kernel)
  have priv : isPriv .host Reg.scnCtrl = false := by decide
  have check : spacious.scnCheck 0x40 1 = [] := scnCheck_enable (by decide +kernel) (l := List.replicate 11 []) rfl
  refine ⟨p, hr, ?_⟩
  rw [priv]
  exact writeCode_word hs (by decide +kernel) (wordCodes_scn hc check hw)

theorem witness_SceneRegionAndQueries :
    let rel := { ras [] { Ras.reset with line := 4608 } with scn := { Scn.reset with release := true } }
    (spacious.accepts .host Reg.scnCtrl (putBits 0 0 0 1) ∧ spacious.flag Reg.scnCtrl 0 = false) ∧
    ((on [(Reg.scnCtrl, 1)]).accepts .host Reg.scnCtrl (putBits 0 0 0 0) ∧ (on [(Reg.scnCtrl, 1)]).flag Reg.scnCtrl 0 = true) ∧
    (rel.scn.release = true ∧ rel.ras.timing.vactive ≤ rel.ras.line) ∧
    (on []).accepts .host Reg.scnQuery (putBits 0 31 31 1) ∧
    ∃ (s : State) (q : ScnQuery), s.scn.query = some q :=
  ⟨⟨spacious_enables, by decide +kernel⟩, ⟨acceptsOf (by decide +kernel), by decide +kernel⟩, by decide +kernel,
    acceptsOf (by decide +kernel), ⟨{ on [] with scn := { Scn.reset with query := some { words := [1, 2, 3, 4], none := false } } }, _, rfl⟩⟩

/-- A front version with a stored unit of `len` bytes at address 0 in the last block of the last plane. -/
def stored (len : Nat) (dram : Sparse Byte) (fit : List (List Dimm)) : State :=
  { on [] with
    dram := dram, dimms := fit,
    scn := { Scn.reset with
      front := some { tag := 1, planes := [], dir := [(31 * 144 + 143, 1)], blank := [], tagged := [] },
      pages := [{ id := 1, addr := 2 ^ 32, base := 0, entries := [(255, { kind := 1, addr := 0, len := len, texel := 0, version := 0 })] }],
      wanted := List.replicate 7 [] ++ [[0]] } }

theorem witness_SceneVersions_open :
    let s := { on [] with scn := { Scn.reset with region := some [], front := some { tag := 1, planes := [], dir := [], blank := [], tagged := [] } } }
    s.scn.region.isSome = true ∧ s.scn.discard = false ∧ s.scn.release = false ∧ s.scn.staging = none ∧
    s.scn.versions.length ≤ 3 ∧ s.scn.newest.isSome = true ∧ State.reset.scn.newest = none := by decide +kernel

theorem witness_SceneVersions_fill :
    (∃ e, (stored 20500 [] []).fillEntry 7 0 31 255 143 = some e ∧ (stored 20500 [] []).fillDue 7 e.addr = true ∧
      (stored 20500 [] []).dramRead e.addr e.len = none) ∧
    (∃ e, (stored 64 [] fitted).fillEntry 7 0 31 255 143 = some e ∧ (stored 64 [] fitted).fillDue 7 e.addr = true ∧
      (match (stored 64 [] fitted).dramRead e.addr e.len with
        | some b => decide (¬((mbcUnit (some e.len) none b).code = 0 ∧ (mbcUnit (some e.len) none b).out.length = 20480)) | none => false) = true) :=
  ⟨someOf (by decide +kernel), someOf (by decide +kernel)⟩


/-- Session 63 with a command at the front of its datagram, and plane 31 of its mask in the staging version. -/
def kst (session : Session) (planes : Sparse (Option PlaneDesc)) (tag : Nat) : State :=
  { on [(Reg.ingSPlanes 63, 0x80000000), (Reg.ingSCtrl 63, 3), (Reg.ingCtrl, 1)] with
    ing := { Ing.reset with sessions := List.replicate 63 Session.reset ++ [session] },
    scn := { Scn.reset with staging := some { tag := tag, planes := planes, dir := [], blank := [], tagged := [] } } }

/-- A command of frame 1 on a plane, the last of its datagram. -/
def cmd (op plane : Nat) (body : List Byte) : Session :=
  { Session.reset with
    state := 2,
    applying := some { seq := 0, frame := 1, left := 1, payload := [BitVec.ofNat 8 op, BitVec.ofNat 8 plane] ++ beBytes 2 body.length ++ body } }

/-- The words of a descriptor of 256 by 144 blocks, and the plane that they describe. -/
def planeWords : List Byte := [0x80, 144, 1, 0, 0, 0, 0, 0, 0, 1, 0, 0, 0, 0, 0, 0, 0, 0, 0, 0, 0, 1, 0, 0] ++ List.replicate 8 0
def plane : PlaneDesc := planeOfWords (beWords 8 planeWords)

/-- A block of an empty unit: its header and a check value, 20 bytes. -/
def emptyUnit : List Byte := [0x42, 0x4D, 1, 0, 0, 1, 64, 0, 0, 0x50, 0, 0, 0, 0, 0, 0, 0, 0, 0, 0]

theorem witness_SceneVersions_wait :
    let s := { kst (cmd 3 31 ([255, 143, 0, 20, 0, 0, 0, 20, 0, 0, 0, 0] ++ emptyUnit)) [(31, some plane)] 1 with
      scn := { Scn.reset with waiting := some 63, staging := some { tag := 1, planes := [(31, some plane)], dir := [], blank := [], tagged := [] } } }
    s.scn.waiting = some 63 ∧ (State.stepCmd { s with scn := { s.scn with waiting := none } } 63 (fun _ => true)).scn.waiting ≠ none ∧
    s.scn.back = none ∧ s.scn.pendingV = [] ∧
    (let v := { s with scn := { s.scn with pendingV := [{ tag := 0, planes := [], dir := [], blank := [], tagged := [] }] } }
     v.scn.waiting = some 63 ∧ (State.stepCmd { v with scn := { v.scn with waiting := none } } 63 (fun _ => true)).scn.waiting ≠ none ∧
     v.scn.pendingV ≠ []) := by decide +kernel

theorem witness_SceneVersions_resume :
    let s := { kst (cmd 8 0 []) [] 1 with scn := { Scn.reset with waiting := some 63 } }
    s.scn.waiting = some 63 ∧
    (State.stepCmd { s with scn := { s.scn with waiting := none } } 63 (fun _ => true)).scn.waiting = none := by decide +kernel

/-- An UPDATE of session 63 with SEQ 4095 and four bytes of payload, and room for a tag. -/
def dgram (tag : List Byte) : List Byte :=
  [0x4B, 0x53, 1, 1, 63, 0, 0, 4, 0, 0, 0, 0, 0x0F, 0xFF, 0, 0] ++ List.replicate 16 0 ++ [0, 0, 0, 0] ++ tag

theorem witness_DatagramsArrive :
    let s := on [(Reg.ingCtrl, 1), (Reg.ingSCtrl 63, 0x5)]
    let s := { s with ing := { Ing.reset with sessions := List.replicate 63 Session.reset ++ [{ Session.reset with state := 2 }] } }
    let b := dgram []
    s.flag Reg.ingCtrl 0 = true ∧ s.domOn 14 = true ∧ s.sessSource 63 = 1 ∧ (s.sess 63).state = 2 ∧ 63 < 64 ∧
    beNat (slice b 0 2) = 0x4B53 ∧ beNat (slice b 2 1) = 1 ∧ beNat (slice b 3 1) = 1 ∧ beNat (slice b 4 1) = 63 ∧
    beNat (slice b 5 1) < 4 ∧ beNat (slice b 6 2) = 4 ∧ 4 % 4 = 0 ∧ 4 ≤ 8904 ∧ beNat (slice b 8 6) = 4095 ∧
    b.length = 32 + 4 + (if s.flag (Reg.ingSCtrl 63) 4 then 16 else 0) ∧
    (1 = 0 → False) ∧ s.flag (Reg.ingSCtrl 63) 4 = false ∧
    (s.sess 63).exp ≤ 4095 ∧ 4095 ≤ (s.sess 63).exp + 4095 ∧ (∀ d ∈ (s.sess 63).buf, d.seq ≠ 4095) ∧
    s.reasmUsed + 32 + (slice b 32 4).length ≤ s.fld Reg.ingReasmSize 11 0 * 2 ^ 20 := by decide +kernel

theorem witness_DatagramsArrive_sealed :
    let key : KeySlot := { loaded := true, gen := 1, salt := [0, 0, 0, 0], key := 0 }
    let reply : Reply := { v6 := false, addr := 1, port := 1, mac := 1 }
    let b := dgram (List.replicate 16 0)
    let path : NetPath := { NetPath.reset with fwd := [{ bytes := b, reply := reply, handle := (1, 0) }] }
    let s := { on [(Reg.ingCtrl, 1), (Reg.ingSCtrl 63, 0x11)] with
      net := [path, path],
      ing := { Ing.reset with
        sessions := List.replicate 63 Session.reset ++ [{ Session.reset with state := 2, keys := [key, KeySlot.reset] }] } }
    s.flag Reg.ingCtrl 0 = true ∧ s.domOn 14 = true ∧ s.sessSource 63 = 0 ∧ (s.sess 63).state = 2 ∧
    beNat (slice b 0 2) = 0x4B53 ∧ beNat (slice b 2 1) = 1 ∧ beNat (slice b 3 1) = 1 ∧ beNat (slice b 4 1) = 63 ∧
    beNat (slice b 5 1) < 4 ∧ beNat (slice b 6 2) = 4 ∧ beNat (slice b 8 6) = 4095 ∧
    b.length = 32 + 4 + (if s.flag (Reg.ingSCtrl 63) 4 then 16 else 0) ∧
    (s.path s.fov.holder).fwd = [{ bytes := b, reply := reply, handle := (1, 0) }] ∧ s.flag (Reg.ingSCtrl 63) 4 = true ∧
    ((s.sess 63).keys.getD (beNat (slice b 5 1) / 2 % 2) KeySlot.reset).gen = (if beNat (slice b 5 1) / 2 % 2 = 0 then 1 else 0) ∧
    ((s.sess 63).keys.getD (beNat (slice b 5 1) / 2 % 2) KeySlot.reset).loaded = true := by decide +kernel

/-- A buffered datagram of frame 1. -/
def held (seq count : Nat) (key : Bool) (payload : List Byte) : Dgram :=
  { seq := seq, frame := 1, base := 0, isKey := key, count := count, payload := payload }

theorem witness_DatagramsApplied_next :
    let s := kst { Session.reset with state := 2, buf := [held 0 1 false [8, 0, 0, 0]] } [] 1
    let v := kst { Session.reset with state := 2, buf := [held 0 0 false []] } [] 1
    (s.sess 63).state = 2 ∧ (s.sess 63).applying = none ∧ s.scn.waiting = none ∧ s.target = some 1 ∧
    (s.sess 63).buf.find? (fun d => d.seq == (s.sess 63).exp) = some (held 0 1 false [8, 0, 0, 0]) ∧ 1 ≤ 1 ∧ (s.sess 63).lastFrame ≤ 1 ∧
    (v.sess 63).state = 2 ∧ (v.sess 63).applying = none ∧ v.scn.waiting = none ∧ v.target = some 1 ∧
    (v.sess 63).buf.find? (fun d => d.seq == (v.sess 63).exp) = some (held 0 0 false []) ∧ (v.sess 63).lastFrame ≤ 1 := by decide +kernel

theorem witness_DatagramsApplied_key :
    let s := kst { Session.reset with state := 1, buf := [held 7 0 true []] } [] 1
    (s.sess 63).state = 1 ∧ s.scn.waiting = none ∧ s.target = some 1 ∧ (s.sess 63).firstKey = some (held 7 0 true []) ∧
    (held 7 0 true []).frame ≤ 1 ∧ (held 7 0 true []).base = 0 ∧ (held 7 0 true []).payload = [] := by decide +kernel

theorem witness_DatagramsApplied_gap :
    let s := kst { Session.reset with state := 2, buf := [held 1 0 false []], gapAt := some 0, nacks := 3, lastNack := 0 } [] 1
    s.domOn 14 = true ∧ (s.at sec).gapTimedOut 63 = true ∧ (s.sess 63).state = 2 := by decide +kernel

theorem witness_PlaneCommands :
    ∀ c ∈ [(1, planeWords), (2, [0, 0, 0, 2] ++ planeWords), (7, [0, 0xFF, 0xFF, 0xFF]), (8, [])],
      let s := kst (cmd c.1 31 c.2) [(31, some plane)] 1
      s.scn.waiting = none ∧ s.domOn 14 = true ∧ s.scn.staging.isSome = true ∧ 31 < 32 ∧ s.flag (Reg.ingSPlanes 63) 31 = true ∧
      (match (s.sess 63).applying with
        | some a => decide (a.head = some { op := c.1, plane := 31, body := c.2 } ∧ a.frame = 1) | none => false) = true := by decide +kernel

theorem witness_PlaneCommands_operands :
    let s := kst (cmd 2 31 ([0, 0, 0, 2] ++ planeWords)) [(31, some plane)] 1
    let body : List Byte := [0, 0, 0, 2] ++ planeWords
    let w := (List.range 8).map (fun i => if bitOf (beNat (slice body 0 4)) i then (beWords 8 (body.drop 4)).getD i 0 else plane.word i)
    descriptorOk (beWords 8 planeWords) = true ∧ (s.scn.staging.bind (fun v => v.plane 31)) = some plane ∧ descriptorOk w = true ∧
    plane.wblk ≤ (planeOfWords w).wblk ∧ beNat (slice [0, 0xFF, 0xFF, 0xFF] 0 4) < 2 ^ 24 := by decide +kernel

theorem witness_PlaneCommands_commit :
    let s := kst (cmd 8 0 []) [] 1
    let early := kst (cmd 8 0 []) [] 2
    let gates := fun (s : State) (j : Nat) => s.flag (Reg.ingSCtrl j) 0 && s.flag (Reg.ingSCtrl j) 1
    (early.scn.staging.map early.targetOf = some 2 ∧ s.scn.staging.map s.targetOf = some 1) ∧ gates s 63 = true ∧ (s.sess 63).state = 2 ∧
    (∀ j, j < 64 → gates s j = true → j = 63) := by decide +kernel

theorem witness_BlockCommands :
    ∀ c ∈ ([(3, [255, 143, 0, 20, 0, 0, 0, 20, 0, 0, 0, 0] ++ emptyUnit), (3, [255, 143, 0, 4, 0, 0, 0, 20, 0, 0, 0, 0, 0x42, 0x4D, 1, 0]),
        (4, [31, 0, 0, 0, 0, 0, 0, 0, 0, 64, 0, 64, 0, 64, 0, 0]), (5, [0, 0, 0, 0, 0, 64, 0, 64, 0, 0, 0, 0, 1, 0, 0, 0]),
        (6, [0, 0, 0, 0, 8, 1, 1, 0, 0, 8, 0, 0, 0, 0, 0, 0, 1, 0, 0, 0, 0, 0, 0, 0, 0xFF, 0, 0, 0])] : List (Nat × List Byte)),
      let s := kst (cmd c.1 31 c.2) [(31, some plane)] 1
      s.scn.waiting = none ∧ s.domOn 14 = true ∧ 3 ≤ c.1 ∧ c.1 ≤ 6 ∧ 31 < 32 ∧ s.flag (Reg.ingSPlanes 63) 31 = true ∧
      s.stagingPlane 31 = some plane ∧ s.cmdCodes { op := c.1, plane := 31, body := c.2 } = 0 ∧
      (c.1 = 4 → (s.stagingPlane (beNat (slice c.2 0 1))).isSome = true) ∧
      (match (s.sess 63).applying with
        | some a => decide (a.head = some { op := c.1, plane := 31, body := c.2 }) | none => false) = true := by decide +kernel

theorem witness_BlockCommands_partial :
    let c : KstCmd := { op := 5, plane := 31, body := [0, 1, 0, 0, 0, 64, 0, 64, 0, 0, 0, 0, 1, 0, 0, 0] }
    let s := kst (cmd c.op 31 c.body) [(31, some plane)] 1
    c.partial_ plane = true ∧ s.cmdCodes c = 0 ∧ s.editEngine = false ∧ (s.wr Reg.ingCtrl 0x8001).editEngine = true := by decide +kernel

theorem witness_BlockCommands_wait :
    (kst (cmd 3 31 []) [(31, some plane)] 1).cmdWriteBlock 63 1
      { op := 3, plane := 31, body := [255, 143, 0, 20, 0, 0, 0, 20, 0, 0, 0, 0] ++ emptyUnit } = .wait := by decide +kernel

theorem witness_BlockCommands_continued :
    let s := kst { cmd 3 31 [] with opened := some { plane := 31, bx := 255, brow := 143, total := 20, data := [1, 2, 3, 4] } } [(31, some plane)] 1
    let body : List Byte := [255, 143, 0, 4, 0, 0, 0, 20, 0, 0, 0, 4, 5, 6, 7, 8]
    beNat (slice body 8 4) + beNat (slice body 2 2) < beNat (slice body 4 4) ∧
    (match (s.sess 63).opened with
      | some o => decide (o.plane = 31 ∧ o.bx = beNat (slice body 0 1) ∧ o.brow = beNat (slice body 1 1) ∧ o.total = beNat (slice body 4 4) ∧
          o.data.length = beNat (slice body 8 4)) | none => false) = true := by decide +kernel

theorem witness_IngestSends :
    let x : Session := { Session.reset with
      state := 2, buf := [held 1 0 false []], gapAt := some 0, reply := some { v6 := false, addr := 1, port := 1, mac := 1 } }
    let s := (kst x [] 1).wr Reg.ingCtrl 3
    let v := kst { Session.reset with state := 1, report := some [0] } [] 1
    s.domOn 14 = true ∧ (s.sess 63).state ≠ 0 ∧ (s.at sec).nackDue 63 = true ∧
    v.domOn 14 = true ∧ (v.sess 63).state ≠ 0 ∧ (v.sess 63).report = some [0] ∧ max v.now (10 * us) ≤ v.ras.frameStart + 10 * us := by
  decide +kernel

/-- Session 63 with plane 31 and a source, and memory to read from. -/
def session (ctrl : Nat) : State :=
  { on [(Reg.ingSPlanes 63, 0x80000000), (Reg.ingCtrl, 0xF01), (Reg.ingSCtrl 63, ctrl)] with dimms := fitted }

theorem witness_SessionsAndInjection :
    63 < 64 ∧ (session 4).accepts .host (Reg.ingSCtrl 63) (putBits 4 0 0 1) ∧ (session 4).flag (Reg.ingSCtrl 63) 0 = false ∧
    (session 5).accepts .host (Reg.ingSCtrl 63) (putBits 5 0 0 0) ∧ (session 5).flag (Reg.ingSCtrl 63) 0 = true ∧
    (session 4).accepts .host Reg.ingCtrl (putBits 0xF00 0 0 1) ∧ (session 4).accepts .host Reg.ingCtrl (putBits 0xF01 0 0 0) ∧
    (session 4).flag Reg.ingCtrl 0 = true ∧ (session 8).accepts .host Reg.ingInjCtrl (putBits 0x3F0024 31 31 1) ∧
    ∃ u : State, u.ing.inject = some (63, true, []) :=
  ⟨by decide, acceptsOf (by decide +kernel), by decide +kernel, acceptsOf (by decide +kernel), by decide +kernel,
    acceptsOf (by decide +kernel), acceptsOf (by decide +kernel), by decide +kernel, acceptsOf (by decide +kernel),
    ⟨{ on [] with ing := { Ing.reset with inject := some (63, true, []) } }, rfl⟩⟩
/-! ### A stored unit of a block that decodes -/

/-- The bytes of a block of zeros, and its unit. -/
def blank : List Byte := List.replicate 20480 0
def blankUnit : List Byte := [0x42, 0x4D, 1, 0, 0, 1, 64, 0, 0, 0x50, 0, 0, 0, 0x50, 0, 0] ++ (blank ++ leBytes 4 (crc32c blank))

theorem blank_decodes : mbcUnit (some 20500) none blankUnit = { code := 0, stop := 0, out := blank, consumed := 20500 } := by
  have hl : blank.length = 20480 := List.length_replicate ..
  have hc := crc32c_lt blank
  have len : blankUnit.length = 20500 := by simp only [blankUnit, List.length_append, hl, length_leBytes]; rfl
  have payload : slice blankUnit 16 20480 = blank := slice_middle rfl hl
  have check : leNat (slice blankUnit 20496 4) = crc32c blank := by
    have e : slice blankUnit 20496 4 = leBytes 4 (crc32c blank) := by
      have := slice_middle (a := [0x42, 0x4D, 1, 0, 0, 1, 64, 0, 0, 0x50, 0, 0, 0, 0x50, 0, 0] ++ blank) (m := leBytes 4 (crc32c blank)) (c := [])
        (i := 20496) (n := 4) (by simp only [List.length_append, hl]; rfl) (length_leBytes 4 _)
      simpa only [blankUnit, List.append_nil, List.append_assoc] using this
    rw [e, leNat_leBytes 4 _ (by omega)]
  have head : MbcHeader.read blankUnit = { mode := 0, trunc := false, pred := 0, format := 1, rowPixels := 64, rawLen := 20480, payloadLen := 20480 } := rfl
  have ok : headerCheck (some 20500) none blankUnit = 0 := by
    unfold headerCheck
    rw [head]
    rfl
  generalize blankUnit = b at *
  generalize blank = r at *
  simp [mbcUnit, mbcDecode, ok, head, len, payload, check, hl, applyPrediction]

/-- That unit in memory at address 0, with a check value. -/
def cells (v : Nat) : Sparse Byte :=
  [(0, 0x42), (1, 0x4D), (2, 1), (5, 1), (6, 64), (9, 0x50), (13, 0x50)] ++ (leBytes 4 v).zipIdx.map (fun x => (20496 + x.2, x.1))
def blankCells : Sparse Byte := cells (crc32c blank)

theorem cells_head (v i : Nat) (h : i < 16) :
    Sparse.get dramDefault (cells v) i = ([0x42, 0x4D, 1, 0, 0, 1, 64, 0, 0, 0x50, 0, 0, 0, 0x50, 0, 0] : List Byte).getD i 0 := by
  interval_cases i <;> rfl

theorem cells_middle (v i : Nat) (h : 16 ≤ i) (h' : i < 20496) : Sparse.get dramDefault (cells v) i = 0 := by
  simp only [cells, leBytes, List.zipIdx, List.map, Sparse.get, List.cons_append, List.nil_append]
  repeat rw [if_neg (by omega)]
  rfl

theorem cells_tail (v k : Nat) (h : k < 4) : Sparse.get dramDefault (cells v) (20496 + k) = (leBytes 4 v).getD k 0 := by
  interval_cases k <;> rfl

theorem blank_read : (stored 20500 blankCells fitted).dramRead 0 20500 = some blankUnit := by
  have ok : (stored 20500 blankCells fitted).dramOk 0 20500 = true := by decide +kernel
  have clean : ∀ l, (stored 20500 blankCells fitted).linePoisoned l = false := fun _ => rfl
  have list : (stored 20500 blankCells fitted).dramRead 0 20500 = some ((List.range 20500).map (fun i => Sparse.get dramDefault blankCells (0 + i))) := by
    unfold State.dramRead
    rw [ok, Bool.true_and, if_pos]
    · rfl
    · rw [List.all_eq_true]
      intro l _
      rw [clean]
      rfl
  refine list.trans (congrArg some ?_)
  have hl : blank.length = 20480 := List.length_replicate ..
  unfold blankUnit
  apply List.ext_getElem
  · simp only [List.length_map, List.length_range, List.length_append, hl, length_leBytes]; rfl
  · intro i h1 h2
    have hi : i < 20500 := Nat.lt_of_lt_of_eq h1 (by rw [List.length_map, List.length_range])
    rw [List.getElem_map, List.getElem_range, Nat.zero_add]
    by_cases c1 : i < 16
    · rw [List.getElem_append_left (by simpa using c1), blankCells, cells_head _ _ c1, List.getD_eq_getElem _ _ (by simpa using c1)]
    · rw [List.getElem_append_right (by simpa using c1)]
      by_cases c2 : i < 20496
      · rw [List.getElem_append_left (by rw [hl]; simp; omega), blankCells, cells_middle _ _ (by omega) c2]
        simp only [blank, List.getElem_replicate]
      · rw [List.getElem_append_right (by rw [hl]; simp; omega)]
        have e : Sparse.get dramDefault (cells (crc32c blank)) i = (leBytes 4 (crc32c blank)).getD (i - 20496) 0 := by
          rw [← cells_tail _ _ (by omega), Nat.add_sub_cancel' (by omega)]
        have o : i - [(0x42 : Byte), 0x4D, 1, 0, 0, 1, 64, 0, 0, 0x50, 0, 0, 0, 0x50, 0, 0].length - blank.length = i - 20496 := by
          simp only [hl, List.length_cons, List.length_nil]
          omega
        rw [blankCells, e, ← o]
        exact List.getD_eq_getElem _ _ _

theorem witness_SceneVersions_good :
    ∃ e, (stored 20500 blankCells fitted).fillEntry 7 0 31 255 143 = some e ∧ (stored 20500 blankCells fitted).fillDue 7 e.addr = true ∧
      (stored 20500 blankCells fitted).dramRead e.addr e.len = some blankUnit ∧ (mbcUnit (some e.len) none blankUnit).code = 0 ∧ (mbcUnit (some e.len) none blankUnit).out.length = 20480 := by
  refine ⟨{ kind := 1, addr := 0, len := 20500, texel := 0, version := 0 }, by decide +kernel, by decide +kernel, blank_read, ?_, ?_⟩
  · rw [blank_decodes]
  · rw [blank_decodes]; exact List.length_replicate ..

theorem witness_BlockCommands_done :
    ∀ c ∈ ([(4, [31, 0, 0, 0, 0, 0, 0, 0, 0, 64, 0, 64, 0, 64, 0, 0]), (5, [0, 0, 0, 0, 0, 64, 0, 64, 0, 0, 0, 0, 1, 0, 0, 0])] : List (Nat × List Byte)),
      let s := kst (cmd c.1 31 c.2) [(31, some plane)] 1
      let s := { s with dimms := fitted, scn := { s.scn with region := some [(0, 2 ^ 32)] } }
      (match (if c.1 = 4 then s.cmdCopy { op := c.1, plane := 31, body := c.2 } else s.cmdFill { op := c.1, plane := 31, body := c.2 }) with
        | .done code _ => code == 0 | .wait | .hold => false) = true := by decide +kernel
/-! ### Engines, tiles, Barchan, tables and snapshots -/

/-- Engine 7 with a ring of two descriptors at address 0 and memory behind it. -/
def engine (e : MbcEng) (head : Nat) (dram : Sparse Byte) : State :=
  { on [(Reg.mbcCtrl 7, 1), (Reg.mbcRingSize 7, 2), (Reg.mbcRingHead 7, head), (Reg.mbcRingTail 7, 1), (Reg.mbcResumeLen 7, 64)] with
    dimms := fitted, dram := dram, mbc := List.replicate 7 MbcEng.reset ++ [e] }

theorem witness_MbcJobsStart :
    (7 < 8 ∧ (engine MbcEng.reset 0 []).accepts .host (Reg.mbcRingTail 7) 1) ∧
    ∀ op, op < 16 →
      let s := engine MbcEng.reset 0 [(0, BitVec.ofNat 8 op), (24, 64), (28, 64)]
      s.flag (Reg.mbcCtrl 7) 0 = true ∧ (s.eng 7).state = 0 ∧ s.rd (Reg.mbcRingHead 7) ≠ s.rd (Reg.mbcRingTail 7) ∧
      s.unitState (72 + 7) = 0 ∧ bitsOf ((s.mbcDesc 7).getD 0 0) 3 0 = op ∧ (op ≤ 2 → s.descCode (s.mbcDesc 7) = 0) :=
  ⟨⟨by decide, acceptsOf (by decide +kernel)⟩, by decide +kernel⟩

/-- A decode job with an interrupt at its end; its source is `input` and its destination 64 bytes. -/
def job (input : List Byte) (space : Nat) : MbcJob :=
  { words := [0x40000000, 0, 4096, 0, 8192, 0, 64, 64], input := input, chunks := [(8192, space)], written := 0, poisoned := false }

/-- A unit of one byte 0. -/
def oneByte : List Byte := [0x42, 0x4D, 1, 0, 0, 0, 0, 0, 1, 0, 0, 0, 1, 0, 0, 0, 0] ++ leBytes 4 (crc32c [0])

theorem witness_MbcJobsEnd :
    ∀ c ∈ [(oneByte, 64, 0, 0), ([0x42, 0x4D, 2, 0, 0, 0, 0, 0, 1, 0, 0, 0, 1, 0, 0, 0, 0, 0, 0, 0, 0], 64, 0x402, 0), (oneByte, 0, 0, 1),
        (oneByte.take 17, 64, 0, 2)],
      let s := engine { state := 1, job := some (job c.1 c.2.1), fetched := true } 0 []
      7 < 8 ∧ (s.eng 7).state = 1 ∧ (s.eng 7).job = some (job c.1 c.2.1) ∧
      ((job c.1 c.2.1).result (s.descCode (job c.1 c.2.1).words)).code = c.2.2.1 ∧
      ((job c.1 c.2.1).result (s.descCode (job c.1 c.2.1).words)).stop = c.2.2.2 ∧
      bitOf ((job c.1 c.2.1).words.getD 0 0) 30 = true ∧ s.dramOk (s.mbcHeadAddr 7 + 6) 1 = true ∧ s.dramOk (s.mbcHeadAddr 7 + 7) 1 = true ∧
      s.linePoisoned ((s.mbcHeadAddr 7 + 6) / 64) = false ∧ s.linePoisoned ((s.mbcHeadAddr 7 + 7) / 64) = false := by decide +kernel

theorem witness_MbcResumes :
    let s := fun st => engine { state := st, job := some (job oneByte 0), fetched := true } 0 []
    7 < 8 ∧ ((s 2).eng 7).job = some (job oneByte 0) ∧ (s 2).accepts .host (Reg.mbcResume 7) 1 ∧
    ((s 3).eng 7).job = some (job oneByte 0) ∧ (s 3).accepts .host (Reg.mbcResume 7) 2 ∧ (s 3).accepts .host (Reg.mbcResume 7) 4 ∧
    (s 2).accepts .host (Reg.mbcCtrl 7) (putBits 1 0 0 0) ∧ (s 2).flag (Reg.mbcCtrl 7) 0 = true :=
  ⟨by decide, by decide +kernel, acceptsOf (by decide +kernel), by decide +kernel, acceptsOf (by decide +kernel), acceptsOf (by decide +kernel),
    acceptsOf (by decide +kernel), by decide +kernel⟩

theorem witness_MbcJobsEnd_fencing :
    let s := { engine { state := 1, job := some (job oneByte 0), fetched := true } 0 [] with
      regs := ((engine MbcEng.reset 0 []).wr (Reg.svcUnit 79) 1).regs }
    (s.eng 7).state = 1 ∧ (s.eng 7).job = some (job oneByte 0) ∧
    ((job oneByte 0).result (s.descCode (job oneByte 0).words)).stop ≠ 0 ∧ s.unitState (72 + 7) = 1 := by decide +kernel

/-- A tile in the last band and column of region 3, homed in slice 7. -/
def tile (state : TileState) (owner : Option Nat) : Tile :=
  { frame := 0, region := 3, band := 287, col := 31, state := state, queue := 7, home := 7, owner := owner, epoch := 255, steals := 0,
    remote := false, budget := 32, taps := 4, planes := 0, merged := false, startAt := 0, ran := 0, rays := 0, samples := 0, cells := 0, cache := [],
    part := [], pairs := [], segs := [], cover := [], held := none }

/-- Cluster 63 in a state, and tiles. -/
def tiles (c : Cluster) (ts : List Tile) : State :=
  { on [(Reg.plcCtrl, 0x7007)] with clusters := List.replicate 63 Cluster.idle ++ [c], brc := { Brc.reset with tiles := ts } }

theorem witness_TilesAndClusters_claim :
    let s := tiles { Cluster.idle with held := [(tile .claimed (some 63)).hold] } [tile .queued none]
    s.clusterOn 63 = true ∧ (s.cl 63).count < 2 ∧ (s.at ms).plcRestarting = false ∧ s.queueHead (63 / 8) = some (tile .queued none) := by
  decide +kernel

theorem witness_TilesAndClusters_start :
    let s := tiles { Cluster.idle with held := [(tile .claimed (some 63)).hold] } [tile .claimed (some 63)]
    (s.cl 63).held = [(tile .claimed (some 63)).hold] ∧ (s.cl 63).running = none ∧ s.clusterOn 63 = true ∧
    s.tileOf (tile .claimed (some 63)).hold = some (tile .claimed (some 63)) ∧
    (tile .claimed (some 63)).epoch = (tile .claimed (some 63)).hold.epoch ∧ (tile .claimed (some 63)).state = .claimed ∧
    (s.at ms).windowReady (tile .claimed (some 63)) = true := by decide +kernel

theorem witness_TilesAndClusters_steal :
    let s := tiles Cluster.idle [tile .claimed (some 62)]
    s.flag Reg.plcCtrl 1 = true ∧ s.clusterOn 63 = true ∧ (s.cl 63).held = [] ∧ s.queueHead (63 / 8) = none ∧
    (s.at sec).plcRestarting = false ∧ (s.at sec).victim 63 = some (tile .claimed (some 62)) ∧
    62 ≠ 63 ∧ 62 < s.clusters.length := by decide +kernel

theorem witness_TilesAndClusters_revoke :
    let h := (tile .claimed (some 63)).hold
    let s := tiles { Cluster.idle with running := some h, revokes := [h] } []
    let v := { s with plc := { Plc.reset with restartEnd := some sec } }
    (s.cl 63).revokes = h :: [] ∧ (s.cl 63).running = some h ∧ ((tiles { Cluster.idle with held := [h], revokes := [h] } []).cl 63).running ≠ some h ∧ (v.at ms).plcRestarting = true := by decide +kernel

theorem witness_BarchanPlans :
    let s := ras [(Reg.plcCostmapCtrl, 0x80000000)] { Ras.reset with line := 4560 }
    let v := { on [] with dimms := fitted }
    s.domOn 17 = true ∧ s.planningLine = true ∧ s.plc.planned = false ∧ (s.at ms).plcRestarting = false ∧
    s.flag Reg.plcCostmapCtrl 31 = true ∧ v.accepts .host Reg.plcHintCtrl (putBits 0xFFFF 31 31 1) ∧
    v.accepts .host Reg.plcCostmapCtrl (putBits 0 31 31 1) ∧ ∃ (u : State) (a : Nat) (b : List Byte), u.plc.mapCopy = some (a, b) :=
  ⟨by decide +kernel, by decide +kernel, by decide +kernel, by decide +kernel, by decide +kernel, acceptsOf (by decide +kernel),
    acceptsOf (by decide +kernel), ⟨{ on [] with plc := { Plc.reset with mapCopy := some (64, [1, 2, 3, 4]) } }, 64, [1, 2, 3, 4], rfl⟩⟩

theorem witness_RaysAndSliceFaults_late :
    let h := (tile .started (some 63)).hold
    let s := tiles Cluster.idle [tile .complete none]
    (on []).domOn 16 = true ∧ (on []).tileOf h = none ∧ s.domOn 16 = true ∧ s.tileOf h = some (tile .complete none) := by decide +kernel

/-- The settings of frame 0, synthesis off. -/
def settings : SynSet := { (on []).synSetFor 0 Timing.reset [] 1 1 [0] with en := false }
def layers : LaySet := (on []).laySetFor 0 [0, 1, 2, 3, 4, 5, 6, 7]

/-- Cluster 63 runs the tile. -/
def running : State :=
  let s := tiles { Cluster.idle with running := some (tile .started (some 63)).hold } [tile .started (some 63)]
  { s with syn := { Syn.reset with front := some settings }, lyr := { Lyr.reset with front := some layers } }

theorem witness_RaysAndSliceFaults_admit :
    let t := tile .started (some 63)
    running.domOn 16 = true ∧ running.tileOf t.hold = some t ∧ t.state ≠ .dropped ∧ t.state ≠ .complete ∧ t.hold.epoch = t.epoch ∧
    { t.hold with epoch := 254 }.epoch ≠ t.epoch ∧ running.tileOf { t.hold with epoch := 254 } = some t ∧
    running.synSet t.frame = some settings ∧ running.laySet t.frame = some layers ∧ running.runsNow t = true ∧
    3071 < 3 * tileCols settings.timing t.col ∧ 15 < tileLines settings.timing t.band ∧
    t.has (tileCols settings.timing t.col) 15 3071 = false ∧
    (match synthRay settings (running.gridOf settings) (running.texels settings t.home) t.budget t.taps (3 * 1024 * t.col + 3071)
        (t.region * settings.timing.vactive + 16 * t.band + 15) with
      | .ok r => (match (running.at ms).compose layers (3 * 1024 * t.col + 3071) (t.region * settings.timing.vactive + 16 * t.band + 15)
          r.color r.coverage with | .ok _ => true | .error _ => false)
      | .error _ => false) = true := by decide +kernel

theorem witness_RaysAndSliceFaults_faults :
    running.unitState 63 ≤ 1 ∧ running.unitState (64 + 63 / 8) ≤ 1 ∧ (tile .started (some 63)).owner = some 63 ∧ (running.cl 63).running = some (tile .started (some 63)).hold ∧
    running.tileOf (tile .started (some 63)).hold = some (tile .started (some 63)) ∧ 7 < 8 ∧ running.domOn (6 + 7) = true := by decide +kernel

theorem witness_RaysAndSliceFaults_slice :
    let s := on ((List.range 8).map (fun c => (Reg.svcUnit (56 + c), 4)))
    let s := { s with plc := { Plc.reset with plan := some { owner := List.replicate 32 7, levels := [], sets := [], set0 := (0, 0), moves := [], lmax := 0 } } }
    let v := { s with plc := Plc.reset }
    7 < 8 ∧ s.sliceGone 7 = true ∧ (s.stripesWith 7).contains 7 = true ∧ s.plc.lost.contains 7 = false ∧
    v.sliceGone 7 = true ∧ (v.stripesWith 7).contains 7 = true ∧
    ((on []).unitState (64 + 7) ≤ 1 ∧ (on []).sliceGone 7 = false) ∧
    (let p := { on ((Reg.plcCtrl, 0x42) :: (List.range 8).map (fun c => (Reg.svcUnit (56 + c), 4))) with plc := Plc.reset }
     p.sliceGone 7 = true ∧ (p.stripesWith 7).contains 7 = true ∧ p.plc.lost.contains 7 = false ∧ p.flag Reg.plcCtrl 6 = true ∧
     p.flag Reg.plcStatus 19 = false ∧
     (pinnedOwner (boundsOf (p.rd Reg.plcPinBounds0) (p.rd Reg.plcPinBounds1)) p.ras.timing.cols).contains 7 = true) := by decide +kernel

theorem witness_TableLoads_go :
    let s := { on [] with dimms := fitted }
    s.accepts .host Reg.synGridLoadCtrl (putBits 0x10020002 31 31 1) ∧ s.accepts .host Reg.brcLutLoadCtrl (putBits 1 31 31 1) ∧
    s.accepts .host Reg.pnlOdLoadCtrl (putBits 1 31 31 1) :=
  ⟨acceptsOf (by decide +kernel), acceptsOf (by decide +kernel), acceptsOf (by decide +kernel)⟩

theorem witness_TableLoads_grid :
    let bs : List Byte := List.replicate 16 7
    let s := fun b => { on [] with syn := { Syn.reset with load := some (1, 2, 2, b) } }
    (s (some (bs ++ leBytes 4 (crc32c bs)))).syn.load = some (1, 2, 2, some (bs ++ leBytes 4 (crc32c bs))) ∧
    ((some (bs ++ leBytes 4 (crc32c bs))).bind (checkedWords (2 * 2))).isSome = true ∧
    (s none).syn.load = some (1, 2, 2, none) ∧ (none : Option (List Byte)).bind (checkedWords (2 * 2)) = none :=
  ⟨rfl, by decide +kernel, rfl, rfl⟩

theorem witness_TableLoads_lut :
    let bs : List Byte := List.replicate 6152 0
    let s := fun b => { on [] with brc := { Brc.reset with lutLoad := some (1, b) } }
    (s (some (bs ++ leBytes 4 (crc32c bs)))).brc.lutLoad = some (1, some (bs ++ leBytes 4 (crc32c bs))) ∧
    leNat (slice (bs ++ leBytes 4 (crc32c bs)) 6152 4) = crc32c ((bs ++ leBytes 4 (crc32c bs)).take 6152) ∧
    (s none).brc.lutLoad = some (1, none) ∧ ∀ b, (none : Option (List Byte)) = some b → leNat (slice b 6152 4) ≠ crc32c (b.take 6152) :=
  ⟨rfl, by have := image_checks (List.replicate 6152 0); rwa [List.length_replicate] at this, rfl, by intro b h; cases h⟩

theorem witness_TableLoads_overdrive :
    let bs : List Byte := List.replicate 4624 0
    let im := bs ++ leBytes 4 (crc32c bs)
    let s := fun b => { on [] with pnl := { Pnl.reset with odLoad := some (1, b) } }
    (s (some im)).pnl.odLoad = some (1, some im) ∧ leNat (slice im 4624 4) = crc32c (im.take 4624) ∧
    (∀ k, k < 2312 → leNat (slice im (2 * k) 2) < 4096) ∧
    (s none).pnl.odLoad = some (1, none) ∧ ∀ b, (none : Option (List Byte)) = some b → leNat (slice b 4624 4) ≠ crc32c (b.take 4624) := by
  refine ⟨rfl, by have := image_checks (List.replicate 4624 0); rwa [List.length_replicate] at this, ?_, rfl, by intro b h; cases h⟩
  intro k hk
  have h : slice (List.replicate 4624 (0 : Byte) ++ leBytes 4 (crc32c (List.replicate 4624 0))) (2 * k) 2 = List.replicate 2 0 := by
    unfold slice
    rw [List.drop_append_of_le_length (by rw [List.length_replicate]; omega), List.drop_replicate,
      List.take_append_of_le_length (by rw [List.length_replicate]; omega), List.take_replicate]
    congr 1; omega
  rw [h]; decide

theorem witness_OasisAndSnapshots :
    let x : SentTile := { frame := 0, region := 3, band := 287, col := 31, rows := List.replicate 16 (List.replicate 1024 [0, 0, 0]) }
    let s := { on [] with brc := { Brc.reset with sent := [x] } }
    s.brc.sent.find? (fun x => x.frame == 0 && x.region == 3 && x.band == 287 && x.col == 31) = some x ∧
    x.rows.length = tileLines (s.timingOf x.frame) x.band ∧
    (on []).accepts .host Reg.brcOasCtrl 0 ∧ (on []).flag Reg.brcOasCtrl 0 = true ∧ (0 : Word).getLsbD 0 = false ∧
    (on [(Reg.brcOasCtrl, 0)]).accepts .host Reg.brcOasCtrl 1 ∧ (on [(Reg.brcOasCtrl, 0)]).flag Reg.brcOasCtrl 0 = false ∧ (1 : Word).getLsbD 0 = true ∧
    { on [(Reg.brcSnapLen, 0x80000000), (Reg.brcSnapFrameLo, 1)] with dimms := fitted }.accepts .host Reg.brcSnapCtrl (putBits 0 31 31 1) ∧
    (let p : Snap := { frame := 0, addr := 0, d := 64, capturing := true }
     let v := { ras [] { Ras.reset with line := 4608 } with brc := { Brc.reset with snap := some p } }
     v.brc.snap = some p ∧ p.capturing = true ∧ v.ras.timing.vactive ≤ v.ras.line) :=
  ⟨rfl, by decide +kernel, acceptsOf (by decide +kernel), by decide +kernel, by decide, acceptsOf (by decide +kernel), by decide +kernel,
    by decide, acceptsOf (by decide +kernel), by decide +kernel⟩

/-- A stored unit at address 0, channel 0 under evacuation, and a region over channels 0 and 11. -/
def evacuating : State :=
  { on [(Reg.svcUnit 119, 1)] with
    dimms := (fitted.take 1) ++ List.replicate 10 [] ++ (fitted.take 1),
    scn := { Scn.reset with units := [(0, 64)], region := some [(0, 2 ^ 30), (11, 2 ^ 30)] },
    plc := { Plc.reset with evac := some { channel := 0, until_ := 0, cpx := 0 } } }

theorem witness_DataMoves_migrate :
    let s := evacuating
    (s.unitsOn (chanOf 0)).find? (fun q => q.1 == 0) = some (0, 64) ∧ s.mayMove 0 = true ∧ 11 ≠ chanOf 0 ∧
    s.placeChannels.contains 11 = true ∧ (∃ b, s.gapOn 11 (s.scn.share 11) 64 = some b ∧ b ≠ 0) ∧ (s.dramRead 0 64).isSome = true :=
  ⟨by decide +kernel, by decide +kernel, by decide, by decide +kernel, someOf (by decide +kernel), by decide +kernel⟩

theorem witness_DataMoves_done :
    let s := { evacuating with scn := Scn.reset, ras := { Ras.reset with frame := 1 } }
    s.plc.evac = some { channel := 0, until_ := 0, cpx := 0 } ∧ s.evacEmpty = true ∧ s.plc.evacWait = [] ∧ s.unitState (119 + 0) = 1 ∧
    (s.chan 0).rq = [] ∧ (s.chan 0).wq = [] := by decide +kernel

theorem witness_DataMoves_complex :
    let s := { evacuating with plc := { Plc.reset with evac := some { channel := 0, until_ := 0, cpx := 4096 } } }
    s.plc.evac = some { channel := 0, until_ := 0, cpx := 4096 } ∧ (s.unitsOn (chanOf 8192)).find? (fun q => q.1 == 8192) = none ∧
    0 = chanOf 8192 ∧ 8192 % 4096 = 0 ∧ 4096 ≠ 0 ∧ 11 ≠ chanOf 8192 ∧ 11 ∈ s.placeChannels := by decide +kernel

/-- A segment of one datagram on drive 1, and player 3 that plays it to session 63. -/
def segment : Seg :=
  { num := 5, len := 128, enc := false, firstFrame := 0, frames := 1, count := 1, firstSeq := 0, grams := [dgram []] }

def playing (l : List (Nat × Nat)) (next : Nat) : State :=
  { on l with
    nvs := { Nvs.reset with
      segs := [segment], nextNum := 6,
      drives := [Drive.reset, { Drive.reset with present := true, power := true, ready := true, nums := [5] }],
      plays := [none, none, none, some { session := 63, seg := 5, loops := some 1, lead := 0, start := 0, s0 := 0, loop := 0, next := next }] } }

theorem witness_DataMoves_readahead :
    let s := playing [(Reg.plcCache, 0x00640010)] 0
    (match s.play 3 with
      | some x => (match s.segOf x.seg with
        | some g => decide (s.fld Reg.plcCache 31 16 ≠ 0 ∧
            x.linesTo g (s.ras.frame + x.lead + s.fld Reg.plcCache 31 16 * ms / max s.ras.timing.period 1) ≠ [] ∧
            s.plc.cache.length + (x.linesTo g (s.ras.frame + x.lead + s.fld Reg.plcCache 31 16 * ms / max s.ras.timing.period 1)).length
              ≤ s.cacheCap)
        | none => false)
      | none => false) = true := by decide +kernel
/-! ### Layers, the blitter, the panel and the backlight -/

/-- Layer 7 over the whole panel, from a surface of 64 by 64 pixels that no memory holds, and a tile that needs it. -/
def layered : State :=
  let s := on [(Reg.lyrLCtrl 7, 1), (Reg.lyrLStride0 7, 64), (Reg.lyrLSurfSize 7, 0x400040), (Reg.lyrLSrcSize 7, 0x400040),
    (Reg.lyrLDstSize 7, 0x48008000)]
  { s with brc := { Brc.reset with tiles := [tile .started (some 63)] }, lyr := { Lyr.reset with front := some (s.laySetFor 0 [0, 1, 2, 3, 4, 5, 6, 7]) } }

theorem witness_LayersDrop :
    1 ≤ 7 ∧ (on []).accepts .host (Reg.lyrLDone 7) 0xFFFF ∧ (on []).domOn 16 = true ∧ (on []).layerFaults 7 = [] ∧
    layered.domOn 16 = true ∧ ((layered.layerFaults 7).map (fun x => x.1)) = [tile .started (some 63)] :=
  ⟨by decide, acceptsOf (by decide +kernel), by decide +kernel, by decide +kernel, by decide +kernel, by decide +kernel⟩

/-- The blitter on, with a ring of two descriptors at address 0, the first of which starts with the given word. -/
def blit (w0 : Nat) (cur : Option BltCur) : State :=
  { on [(Reg.bltCtrl, 1), (Reg.bltRingSize, 2), (Reg.bltRingTail, 1), (Reg.bltWinLimitHi, 1)] with
    dimms := fitted,
    dram := ((leBytes 4 w0 ++ [0, 0, 0, 0, 0, 16, 0, 0, 0, 0, 0, 0, 8, 0, 0, 0, 8, 0, 8, 0, 0, 0, 0, 0, 8, 0, 8, 0, 0, 32, 0, 0, 0, 0, 0, 0,
      8, 0, 0, 0, 8, 0, 8, 0, 0, 0, 0, 0] : List Byte).zipIdx.map (fun x => (x.2, x.1))).filter (fun x => x.1 ≥ 0 && x.2 != 0),
    blt := { cur := cur } }

theorem witness_BlitterWindow :
    ∀ op, op ≤ 2 → (blit op none).bltReady = true ∧ ((blit op none).dramRead (blit op none).bltDesc 128).isSome = true ∧
      (blit op none).bltRead1.f 0 8 8 = 0 ∧ (blit op none).bltRead1.runBy op = true ∧ (blit op none).bltRead1.check = 0 ∧
      (blit (op + 0x80000000) none).bltRead1.runBy op = true ∧ (blit (op + 0x80000000) none).bltRead1.check ≠ 0 := by
  decide +kernel

/-- A descriptor that the blitter has taken. -/
def taken (op : Nat) (held fin : Bool) (code : Nat) : BltCur := { (blit op none).bltRead1 with held := held, checked := true, fin := fin, code := code }

theorem witness_BlitterRing :
    (blit 0 none).accepts .host Reg.bltRingTail 1 ∧ (blit 0x100 none).bltReady = true ∧ (blit 0x100 none).bltRead1.f 0 8 8 = 1 ∧
    (blit 0 (some (taken 0 true false 0))).accepts .host Reg.bltRelease (putBits 0 0 0 1) ∧
    ((blit 0 (some (taken 2 false false 0))).domOn 19 = true ∧ (taken 2 false false 0).op < 3 ∧ (taken 2 false false 0).checked = true) ∧
    ((taken 0x200 false true 0xA04).fin = true ∧ (taken 0x200 false true 0xA04).f 0 9 9 = 1) ∧
    (blit 0 (some (taken 0 false false 0))).accepts .host Reg.bltCtrl (putBits 1 0 0 0) ∧
    (blit 0 (some (taken 0 false false 0))).flag Reg.bltCtrl 0 = true ∧
    (blit 0 none).accepts .host Reg.bltCtrl (putBits 1 0 0 0) ∧ (blit 0 none).blt.cur = none :=
  ⟨acceptsOf (by decide +kernel), by decide +kernel, by decide +kernel, acceptsOf (by decide +kernel), by decide +kernel, by decide +kernel,
    acceptsOf (by decide +kernel), by decide +kernel, acceptsOf (by decide +kernel), by decide +kernel⟩

/-- The panel in a state, with rails on. -/
def panel (st : Nat) (p : Pnl) : State := { on [(Reg.pnlPwrState, st), (Reg.pnlLinkCtrl, 1)] with pnl := p }

theorem witness_PanelPower :
    (panel 0 Pnl.reset).accepts .host Reg.pnlPwrCtrl (putBits 0 0 0 1) ∧
    (∀ r, 1 ≤ r → r ≤ 6 → let s := { on ((Reg.pnlPwrState, 1) :: (List.range 6).map (fun i => (Reg.pnlRail i, 0x01010100))) with pnl := { Pnl.reset with rail := r } }
      s.panel = 1 ∧ 1 ≤ s.pnl.rail ∧ s.pnl.rail ≤ 6 ∧ s.pnl.railAt + s.fld (Reg.pnlRail (s.pnl.rail - 1)) 23 16 * ms ≤ max s.now sec ∧
      s.flag (Reg.pnlRail (s.pnl.rail - 1)) 8 = true) ∧
    (pmbAnswered { fails := 2, word := 0 } = true ∧ statusGood 0 = true ∧ pmbAnswered { fails := 3, word := 0 } = false ∧ statusGood 0x0800 = false) ∧
    (let s := panel 2 { Pnl.reset with frames := 3 }
     s.panel = 2 ∧ 3 ≤ s.pnl.frames) ∧
    (panel 3 Pnl.reset).accepts .host Reg.pnlPwrCtrl (putBits 0 1 1 1) ∧
    (let s := panel 4 { Pnl.reset with rail := 6, frames := 3 }
     s.panel = 4 ∧ 0 < s.pnl.rail ∧ s.pnl.rail = 6 ∧ 3 ≤ s.pnl.frames) ∧
    (let s := panel 4 { Pnl.reset with rail := 1 }
     s.panel = 4 ∧ 0 < s.pnl.rail ∧ s.pnl.rail ≠ 6 ∧ s.pnl.railAt + s.fld (Reg.pnlRail s.pnl.rail) 31 24 * ms ≤ max s.now sec) ∧
    (panel 3 { Pnl.reset with doneDue := true }).pnl.doneDue = true :=
  ⟨acceptsOf (by decide +kernel), by decide +kernel, by decide +kernel, by decide +kernel, acceptsOf (by decide +kernel), by decide +kernel,
    by decide +kernel, rfl⟩

theorem witness_PanelDischarge :
    (panel 3 Pnl.reset).accepts .host Reg.pnlPwrCtrl (putBits 0 2 2 1) ∧
    (let s := panel 5 { Pnl.reset with disch := some 0 }
     s.panel = 5 ∧ s.pnl.disch = some 0 ∧ s.pnl.dischRails = false ∧ 0 + s.fld Reg.pnlDischCfg 4 0 * ms ≤ max s.now sec) ∧
    (let s := panel 5 { Pnl.reset with disch := some 0, dischRails := true }
     s.panel = 5 ∧ s.pnl.disch = some 0 ∧ s.pnl.dischRails = true ∧ 0 + (s.fld Reg.pnlDischCfg 4 0 + 3) * ms ≤ max s.now sec ∧
     s.pwr.porst = false ∧ s.pwr.stop = false ∧ s.secu.recovery = false) ∧
    (let s := panel 3 { Pnl.reset with lens := [(0, { LensReg.park with state := 1 })] }
     s.pnl.lensHold = true ∧ s.pnl.lens ≠ [] ∧ s.lensRowStart = true) ∧
    { on [(Reg.pnlRwAddr, 0xF000000)] with pnl := { Pnl.reset with queue := List.replicate 63 { regions := 1, target := 0, addr := 0, data := 0 } } }.accepts
      .host Reg.pnlRwCtrl (putBits 0 0 0 1) :=
  ⟨acceptsOf (by decide +kernel), by decide +kernel, by decide +kernel, by decide +kernel, acceptsOf (by decide +kernel)⟩

/-- The settings of the backlight in frame 0. -/
def zones : BklSet :=
  { frame := 0, regs := [], timing := Timing.reset, gdiv := 0, levels := [], model := [] }

/-- The slot of the last zone row is due. -/
def slotDue (reqs : List (Nat × Bool)) : State :=
  { ras [] { Ras.reset with frame := 1, line := 2368 } with bkl := { Bkl.reset with sets := [zones], hold := false, reqs := reqs } }

theorem witness_BacklightRuns_slot :
    (slotDue []).domOn 23 = true ∧ (slotDue []).bkl.slotRows.contains 287 = false ∧ (slotDue []).slotSet 287 = some zones ∧
    35 = 2 * zones.group 287 + 1 ∧ (slotDue []).bkl.reqs.find? (fun r => r.1 == 35) = none ∧ (slotDue []).bkl.fenced.contains 35 = false ∧
    (slotDue []).bkl.hold = false ∧ (slotDue [(35, false)]).bkl.reqs.find? (fun r => r.1 == 35) = some (35, false) ∧
    (slotDue [(35, false)]).slotSet 287 = some zones ∧
    (slotDue [(35, true)]).bkl.reqs.find? (fun r => r.1 == 35) = some (35, true) ∧ (slotDue [(35, true)]).slotSet 287 = some zones := by
  decide +kernel

theorem witness_BacklightRuns_fade :
    (on []).accepts .host Reg.bklFade (putBits (0x8000 + 10000 * 0x20000) 31 31 1) ∧ bitsOf (0x8000 + 10000 * 0x20000) 30 17 ≠ 0 ∧
    (on []).accepts .host Reg.bklFade (putBits 0x8000 31 31 1) ∧ bitsOf 0x8000 30 17 = 0 ∧
    ∀ host : Bool, let f : BklFade := { start := 0, stop := ms, v0 := 0, v1 := 65536, host := host }
      { on [] with bkl := { Bkl.reset with fade := some f } }.bkl.fade = some f ∧ f.stop ≤ max (on []).now ms ∧ f.host = host :=
  ⟨acceptsOf (by decide +kernel), by decide, acceptsOf (by decide +kernel), by decide, by intro host; cases host <;> decide +kernel⟩

theorem witness_BacklightRuns_whitePoint :
    (on []).domOn 23 = true ∧ (on []).flag Reg.bklCtrl 2 = false ∧ 7 < 8 ∧ -512 ≤ (on []).bkl.trims.1 ∧ (on []).bkl.trims.1 ≤ 511 := by
  decide +kernel
/-! ### The network paths, fail-over and network time -/

/-- Path die B up and enabled, its lanes READY; it holds the grant where `holder` is 1. -/
def pathB (l : List (Nat × Nat)) (holder : Nat) (p : NetPath) : State :=
  { on ((List.range 16).map (fun i => (Reg.lnkLStatus (52 + i), 2)) ++
      [(Reg.npPortStatus 1, 1), (Reg.npPortCtrl 1, 1), (Reg.npPortStatus 0, 1), (Reg.npPortCtrl 0, 1)] ++ l) with
    net := [NetPath.reset, p], fov := { Fov.reset with holder := holder } }

/-- A frame of 64 bytes. -/
def frame (ok : Bool) (body : RxBody) : RxFrame := { fcsOk := ok, len := 64, vlan := none, srcMac := 1, body := body, bytes := [] }

/-- A KST datagram for session 63 behind a UDP header to the KST port of reset. -/
def udp : List Byte := beBytes 2 9 ++ beBytes 2 ((on []).fld (Reg.npKstPort 1) 15 0) ++ beBytes 2 44 ++ [0, 0] ++ dgram []

theorem witness_FramesReceived :
    (let s := pathB [] 0 NetPath.reset
     s.dieUsable 1 = true ∧ s.linkUp 1 = true ∧ s.lanesReady 1 = true ∧ s.flag (Reg.npPortCtrl 1) 0 = true ∧ (frame false .other).fcsOk = false ∧
     64 ≤ (frame true .other).len ∧ (frame true .other).len ≤ s.fld (Reg.npMtu 1) 13 0 ∧ (frame true .other).body ≠ .pause ∧
     s.active 1 = false) ∧
    (let s := pathB [(Reg.fovIp4, 0x0A000001), (Reg.fovAddrValid, 16)] 1 NetPath.reset
     let body := (udp.drop 8).take (beNat (slice udp 4 2) - 8)
     s.active 1 = true ∧ s.flag (Reg.npPortCtrl 1) 1 = false ∧ s.isPtp false 0x0A000001 17 udp = false ∧ s.isTile false 0x0A000001 = true ∧
     beNat (slice udp 2 2) = s.fld (Reg.npKstPort 1) 15 0 ∧ 32 ≤ body.length ∧ beNat (body.take 2) = 0x4B53 ∧
     beNat (slice body 4 1) = 63 ∧ s.flag (Reg.npPolCtrl 1 63) 0 = false ∧
     ((s.path 1).pre.getD 63 PreFilter.empty).has (beNat (slice body 8 6)) = false) := by decide +kernel

theorem witness_FramesReceived_standby : (∀ k, (frame true .other).body ≠ .ptp k) ∧
    ∀ v6 src dst proto data, (frame true .other).body = .ip v6 src dst none proto data → (on []).isPtp v6 dst proto data = false :=
  ⟨nofun, nofun⟩

theorem witness_FramesReceived_fragments :
    let g : Frag := { v6 := false, src := 1, dst := 2, id := 3, proto := 17, first := 0, parts := [], total := none }
    ∃ x ∈ ((pathB [] 0 { NetPath.reset with frags := [g] }).path 1).frags, x.first + ms ≤ max (on []).now ms := by decide +kernel

theorem witness_LinksAndEgress_links :
    (let s := pathB [] 0 NetPath.reset
     1 < 2 ∧ 1 < s.net.length ∧ s.domOn (32 + 1) = true ∧ s.linkUp 1 = true ∧ (s.path 1).faultAt.getD ms + s.fld (Reg.npLoss 1) 9 0 * us ≥ max s.now ms) ∧
    (let s := pathB [] 0 { NetPath.reset with faultAt := some 0 }
     (s.path 1).faultAt.getD (2 * ms) + s.fld (Reg.npLoss 1) 9 0 * us ≤ max s.now (2 * ms)) ∧
    (let s := { on ((Reg.npPortCtrl 1, 1) :: (List.range 8).map (fun i => (Reg.lnkLStatus (60 + i), 2))) with
       net := [NetPath.reset, { NetPath.reset with goodAt := some 0 }] }
     s.dieUsable 1 = true ∧ s.flag (Reg.npPortCtrl 1) 0 = true ∧ s.linkUp 1 = false ∧ (s.path 1).goodAt.getD ms + ms ≤ max s.now ms) ∧
    (let s := on ((Reg.npPortCtrl 1, 1) :: (List.range 8).map (fun i => (Reg.lnkLStatus (60 + i), 2)))
     1 < s.net.length ∧ s.dieUsable 1 = true ∧ s.flag (Reg.npPortCtrl 1) 0 = true ∧ s.linkUp 1 = false ∧ ∀ i, i < 8 → s.laneState (52 + 8 * 1 + i) = 2) := by
  decide +kernel

/-- A Delay_Req that waits in queue 15. -/
def waiting : EgFrame := { frame := .delayReq 65535 0 (1, 1) none, len := 64, desc := none }

theorem witness_LinksAndEgress_sends :
    let s := pathB [] 1 { NetPath.reset with queues := List.replicate 15 EgQueue.reset ++ [{ EgQueue.reset with frames := [waiting] }] }
    s.pwr.stop = false ∧ s.pwr.shdn < 3 ∧ s.dieUsable 1 = true ∧ s.linkUp 1 = true ∧ s.lanesReady 1 = true ∧ s.fov.sw = none ∧
    (s.path 1).busyUntil ≤ max s.now ms ∧ s.gates 1 = none ∧ (s.at ms).chosen 1 = some 15 ∧ (s.queue 1 15).frames = waiting :: [] ∧
    waiting.frame = .delayReq 65535 0 (1, 1) none := by
  decide +kernel

/-- Path die B with a prepared gate list of one entry that fills the cycle, and one that is pending. -/
def gateList (pend : Option GclList) : State :=
  pathB [(Reg.npGclEntry 1 256, 1000 * 256 + 255)] 1 { NetPath.reset with gclPend := pend }

theorem witness_LinksAndEgress_rings :
    (on []).accepts .host (Reg.npHtxTail 1) 0 ∧ (on []).accepts .host (Reg.npHrxTail 1) 0 ∧
    (let s := pathB [(Reg.npHtxSize 1, 4096)] 1 NetPath.reset
     s.accepts .host (Reg.npHtxTail 1) 4095 ∧ s.active 1 = true ∧ s.flag (Reg.npPortCtrl 1) 0 = true ∧
     s.fld (Reg.npHtxHead 1) 11 0 < s.fld (Reg.npHtxSize 1) 12 0 ∧ s.fld (Reg.npHtxSize 1) 12 0 ≤ 4096) :=
  ⟨acceptsOf (by decide +kernel), acceptsOf (by decide +kernel), acceptsOf (by decide +kernel), by decide +kernel⟩

theorem witness_LinksAndEgress_gates :
    (gateList none).accepts .host (Reg.npGclCtrl 1) (putBits 0 31 31 1) ∧
    (let g : GclList := { bank := 1, cycle := 1000, base := 0, start := 0, entries := [(255, 1000)] }
     (gateList (some g)).accepts .host (Reg.npGclCtrl 1) (putBits 0 30 30 1) ∧
     ((gateList (some g)).path 1).gclPend = some g ∧ g.start ≤ ((gateList (some g)).at ms).device) :=
  ⟨acceptsOf (by decide +kernel), acceptsOf (by decide +kernel), by decide +kernel⟩

/-- Both path dies up and heard; fail-over in a state. -/
def pair (f : Fov) : State :=
  { on [(Reg.npPortStatus 0, 1), (Reg.npPortStatus 1, 1), (Reg.npPortCtrl 0, 1), (Reg.npPortCtrl 1, 1), (Reg.fovCtrl, 1)] with fov := f }

/-- Both dies are heard at reset. -/
def heard (x : Nat) : Fov := { Fov.reset with holder := x, beat := [some 0, some 0] }

theorem witness_GrantMoves_silence :
    (on []).domOn (32 + 1) = true ∧
    ({ on [(Reg.lnkLStatus 80, 2), (Reg.lnkLStatus 81, 2), (Reg.lnkLStatus 82, 2), (Reg.lnkLStatus 83, 2)] with fov := heard 1 }.fov.holder = 1 ∧
     ∀ i, i < 4 → { on [(Reg.lnkLStatus 80, 2), (Reg.lnkLStatus 81, 2), (Reg.lnkLStatus 82, 2), (Reg.lnkLStatus 83, 2)] with
       fov := heard 1 }.laneState (80 + i) = 2) ∧
    (let s := pair { heard 0 with beat := [some 0, some (us)] }
     (s.fov.beat.getD s.fov.holder none).getD 0 = 0 ∧ 0 + 50 * us ≤ max s.now (50 * us) ∧ s.fov.sw = none ∧
     (s.at (50 * us)).qualifies (1 - s.fov.holder) = true) ∧
    (let s := pair { heard 0 with beat := [none, some (us)] }
     (s.fov.beat.getD s.fov.holder none).getD 0 = 0 ∧ 0 + 50 * us ≤ max s.now (50 * us) ∧ s.fov.sw = none ∧
     (s.at (50 * us)).qualifies (1 - s.fov.holder) = true) ∧
    (let s := pair (heard 0)
     (s.fov.beat.getD s.fov.holder none).getD 0 = 0 ∧ 0 + 50 * us ≤ max s.now (50 * us) ∧ s.fov.sw = none ∧
     (s.at (50 * us)).qualifies (1 - s.fov.holder) = false) := by decide +kernel

/-- A switch-over under way. -/
def moving (granted : Option Nat) (cold : Bool) : SwitchOver :=
  { cause := 4, detect := 0, released := 0, granted := granted, restored := none, cold := cold }

theorem witness_GrantMoves_release :
    (let s := pair { heard 0 with request := some 4 }
     s.fov.sw = none ∧ s.fov.fault.getD s.fov.holder false = false ∧ s.fov.request = some 4) ∧
    (let s := { pair (heard 0) with regs := (pair (heard 0)).regs.filter (fun e => e.1 != Reg.npPortStatus 0) }
     s.fov.sw = none ∧ s.fov.fault.getD s.fov.holder false = false ∧ s.fov.request = none ∧ s.linkUp s.fov.holder = false ∧
     s.linkUp (1 - s.fov.holder) = true ∧ s.flag Reg.fovCtrl 0 = true ∧ s.fov.holder < s.fov.fault.length) ∧
    (let s := pair { heard 0 with force := [false, true] }
     s.fov.sw = none ∧ s.fov.request = none ∧ s.linkUp s.fov.holder = true ∧ s.fov.force.getD (1 - s.fov.holder) false = true ∧
     s.fov.force.getD s.fov.holder false = false ∧ (s.at us).qualifies (1 - s.fov.holder) = true) ∧
    (let s := pair { heard 0 with sw := some (moving none false) }
     s.fov.sw = some (moving none false) ∧ (moving none false).granted = none ∧ (s.at us).qualifies (1 - s.fov.holder) = true ∧
     (s.at ms).qualifies (1 - s.fov.holder) = false) ∧
    (∀ a : Bool, let s := pair (heard (if a then 1 else 0))
     s.fov.holder ≠ (if a then 0 else 1) ∧ (s.at us).qualifies (if a then 0 else 1) = true) := by
  refine ⟨by decide +kernel, by decide +kernel, by decide +kernel, by decide +kernel, ?_⟩
  intro a; cases a <;> decide +kernel


theorem witness_GrantMoves_switch :
    (pair { heard 0 with standby := 3 }).accepts .host Reg.fovCtrl (putBits 1 8 8 1) ∧
    (pair (heard 0)).accepts .host Reg.fovCtrl (putBits 0x201 8 8 1) := ⟨acceptsOf (by decide +kernel), acceptsOf (by decide +kernel)⟩

/-- A snapshot as the holder would send it. -/
def mirror : Mirror := (pair (heard 0)).mirrorOf 0

theorem witness_SnapshotsAndTakeover :
    (let s := pair (heard 0)
     s.dieUsable s.fov.holder = true ∧ s.fov.sw = none ∧ s.domOn 34 = true ∧ s.role (1 - s.fov.holder) ≠ 0 ∧ max s.now (10 * us) ≤ s.ras.frameStart + 10 * us ∧
     s.fov.transit = none) ∧
    (let s := pair { heard 0 with transit := some mirror, mirrorUp := true }
     s.fov.transit = some mirror ∧ s.fov.mirrorUp = true) ∧
    (let s := pair { heard 0 with mirrorUp := true, mirrorBeat := some 0, standby := 3 }
     s.fov.mirrorUp = true ∧ s.fov.mirrorBeat = some 0 ∧ 0 + 30 * us ≤ max s.now (30 * us) ∧ s.fov.beat.getD s.fov.holder none = some 0 ∧
     max s.now (30 * us) < 0 + 50 * us ∧ (s.role (1 - s.fov.holder) = 2 ∨ s.role (1 - s.fov.holder) = 3)) ∧
    (let s := pair { heard 1 with announcing := some (moving (some 0) false) }
     let v := { s with net := [NetPath.reset, { NetPath.reset with queues := [{ EgQueue.reset with
       frames := [{ frame := .kst 63 4 { addr := 0, port := 0, mac := 0, v6 := false } [], len := 64, desc := none }] }] }] }
     1 < 2 ∧ s.egressOn = true ∧ s.fov.announcing = some (moving (some 0) false) ∧ s.changeWaits s.fov.holder = false ∧
     v.egressOn = true ∧ v.fov.announcing = some (moving (some 0) false) ∧ v.changeWaits v.fov.holder = true) ∧
    (let s := pair { heard 1 with sw := some (moving (some 0) false), snap := some mirror }
     s.fov.sw = some (moving (some 0) false) ∧ (moving (some 0) false).granted = some 0 ∧ (moving (some 0) false).cold = false ∧
     s.fov.snap = some mirror ∧ s.fov.holder < s.net.length) ∧
    (let s := pair { heard 1 with sw := some (moving (some 0) true) }
     s.fov.sw = some (moving (some 0) true) ∧ (moving (some 0) true).cold = true ∧ 63 < 64 ∧ s.sessSource 63 = 0) := by decide +kernel

/-- A PTP port of die B in a state, with the parent 7, port 1. -/
def ptpB (p : Ptp) : State := pathB [(Reg.npPtpCtrl 1, 1)] 1 { NetPath.reset with ptp := p }

/-- A port that has its parent. -/
def chosenParent : Ptp := { Ptp.reset with parent := some (7, 1) }

/-- A message of the parent, to the port whose MAC address is 0 where it is a Delay_Resp. -/
def message (interval : Int) : PtpMsg :=
  { domain := 0, clock := 7, port := 1, seq := 65535, interval := interval, corr := 0, sec := 1, ns := 999999999, twoStep := true,
    requesting := (0xFFFE000000, 1) }

/-- What an Announce of a master says. -/
def announced : AnnounceData :=
  { gm := 9, prio1 := 128, cls := 6, accuracy := 0x21, variance := 0, prio2 := 128, steps := 0, utc := 37, flags := 4 }

/-- Another master of whom two Announce messages came. -/
def foreign : Foreign := { clock := 9, port := 1, data := announced, last := 100 * sec, prev := some (99 * sec), interval := 0 }

/-- A sample of the parent's Sync. -/
def sample : SyncSample := { t1 := 0, t2 := 5, corr := 1 }

theorem witness_NetworkTime_messages :
    (∀ i ∈ [(-7 : Int), 1], (ptpB chosenParent).ptpRuns 1 = true ∧ (ptpB chosenParent).fld (Reg.npPtpCtrl 1) 15 8 = (message i).domain ∧
      (ptpB chosenParent).fromParent 1 (message i) = true ∧ (message i).twoStep = true ∧ -7 ≤ (message i).interval ∧ (message i).interval ≤ 1 ∧
      ((ptpB chosenParent).path 1).d2d = true) ∧
    (let s := ptpB { chosenParent with waiting := some (65535, sample, 0) }
     s.fromParent 1 (message 0) = true ∧ (s.ptp 1).waiting = some (65535, sample, 0) ∧ 65535 = (message 0).seq ∧
     max s.now sec ≤ 0 + intervalTime (s.ptp 1).syncInterval ∧ (s.path 1).d2d = true) ∧
    (let s := ptpB { chosenParent with dreq := some (65535, 9), last := some sample }
     s.fromParent 1 (message 0) = true ∧ (s.ptp 1).dreq = some (65535, 9) ∧ (s.ptp 1).last = some sample ∧
     (message 0).requesting = (s.clockId 1, 1) ∧ (s.path 1).d2d = true) ∧
    (∀ i ∈ [(-3 : Int), 3], -3 ≤ (message i).interval ∧ (message i).interval ≤ 3 ∧ 1 < (ptpB Ptp.reset).net.length) := by
  decide +kernel

theorem witness_NetworkTime_port :
    (let s := ptpB { chosenParent with last := some sample }
     s.ptpRuns 1 = true ∧ s.linkUp 1 = true ∧ (s.path 1).d2d = true ∧ (s.ptp 1).dreqAt ≤ max s.now 0 ∧ (s.ptp 1).last.isSome = true ∧ (s.fov.holder = 1 ∨ s.flag (Reg.npPtpCtrl 1) 4 = true)) ∧
    (let s := ptpB chosenParent
     s.ptpRuns 1 = true ∧ (s.path 1).d2d = true ∧ (s.ptp 1).parent.isSome = true ∧
     (s.ptp 1).foreign.filter (fun f => (s.ptp 1).parent != some (f.clock, f.port) && f.qualified (max s.now (100 * sec))) = [] ∧
     (s.ptp 1).lastSync + s.fld (Reg.npPtpTimeout 1) 11 8 * intervalTime (s.ptp 1).syncInterval ≤ max s.now (100 * sec) ∧
     (s.ptp 1).lastAnn + s.fld (Reg.npPtpTimeout 1) 3 0 * intervalTime (s.ptp 1).annInterval ≤ max s.now (100 * sec)) ∧
    (let s := ptpB { chosenParent with foreign := [foreign] }
     (s.ptp 1).foreign.filter (fun f => (s.ptp 1).parent != some (f.clock, f.port) && f.qualified (max s.now (100 * sec))) ≠ [] ∧
     (s.ptp 1).lastAnn + s.fld (Reg.npPtpTimeout 1) 3 0 * intervalTime (s.ptp 1).annInterval ≤ max s.now (100 * sec)) ∧
    (let s := ptpB { chosenParent with lastAnn := 100 * sec }
     (s.ptp 1).lastSync + s.fld (Reg.npPtpTimeout 1) 11 8 * intervalTime (s.ptp 1).syncInterval ≤ max s.now (100 * sec) ∧
     ¬(s.ptp 1).lastAnn + s.fld (Reg.npPtpTimeout 1) 3 0 * intervalTime (s.ptp 1).annInterval ≤ max s.now (100 * sec)) ∧
    (on []).domOn 5 = true ∧
    ((on [(Reg.npPtpCtrl 1, 1)]).flag (Reg.npPtpCtrl 1) 0 = true ∧ (on [(Reg.npPtpCtrl 1, 1), (Reg.npPtpStatus 1, 4)]).ptpState 1 = 4 ∧
     1 < (on [(Reg.npPtpCtrl 1, 1)]).net.length) := by decide +kernel

/-! ### DRAM, the content store and the lanes -/

/-- A module of 32 GiB. -/
def dimm : Dimm := { gib := 32, ranks := 1, width := 8, serial := 1, speed := 6400, rfm := false, registered := true, ecc := true, density := 16 }

/-- A channel 11 with its module, and words in force. -/
def chan11 (l : List (Nat × Nat)) (x : Chan) : State :=
  { on l with dimms := List.replicate 11 [] ++ [[dimm]], dmc := { Dmc.reset with chans := List.replicate 11 Chan.reset ++ [x] } }

theorem witness_DramAccess :
    (let a := 11 * 2 ^ 37 + 2 ^ 35 - 3
     a / 2 ^ 37 < 12 ∧
     (let s := chan11 [] { Chan.reset with wq := [{ line := 0, who := 0, rt := true, act := none }] }
      11 < s.dmc.chans.length ∧ s.dramOk (a / 64 * 64) 64 = true ∧ (s.chan 11).rq = [] ∧ (s.chan 11).fenceDue = false ∧
      (s.at ms).mayIssue 11 5 true (some (0, 0)) = true ∧ (s.at ms).issues 11 = true ∧ s.linePoisoned (a / 64) = false ∧
      (s.chan 11).failed = false ∧ (∀ w ∈ (s.chan 11).wq, w.line ≠ a / 64) ∧ ∀ w ∈ (s.chan 11).wq, w.act = none ∨ w.rt = true) ∧
     (let s := chan11 [] { Chan.reset with wq := [{ line := a / 64, who := 0, rt := true, act := none }] }
      11 < s.dmc.chans.length ∧ s.dramOk (a / 64 * 64) 64 = true ∧ (s.chan 11).rq = [] ∧ (s.chan 11).fenceDue = false ∧
      (s.at ms).mayIssue 11 5 true none = true ∧ s.linePoisoned (a / 64) = false ∧ ∃ w ∈ (s.chan 11).wq, w.line = a / 64) ∧
     (let s := { chan11 [] { Chan.reset with failed := true } with poison := [a / 64] }
      11 < s.dmc.chans.length ∧ s.dramOk (a / 64 * 64) 64 = true ∧ (s.chan 11).rq = [] ∧ (s.chan 11).fenceDue = false ∧
      (s.at ms).mayIssue 11 3 false none = true ∧ s.linePoisoned (a / 64) = true ∧ (s.chan 11).failed = true ∧
      ∀ w ∈ (s.chan 11).wq, w.line ≠ a / 64) ∧
     (let s := chan11 [] { Chan.reset with thr := [(5, 63, 2 * ms, ms)] }
      11 < s.dmc.chans.length ∧ s.dramOk (a / 64 * 64) 64 = true ∧ (s.chan 11).rq = [] ∧ (s.chan 11).fenceDue = false ∧
      (s.at ms).mayIssue 11 5 false (some (63, 7)) = false ∧ (s.chan 11).wq = [])) := by decide +kernel

theorem witness_DramUpkeep_refresh :
    11 < 12 ∧
    (∀ owed ∈ [0, 3, 4], ∀ soft ∈ [0, 1], let s := chan11 [(Reg.dmcChStatus 11, owed * 2 ^ 20), (Reg.dmcRefresh, soft)] Chan.reset
      s.chanUsable 11 = true ∧ (s.chan 11).refLast + s.trefiTime 11 ≤ max s.now (3900 * ns) ∧ (s.chan 11).rq = [] ∧ (s.chan 11).fenceDue = false ∧ s.owed 11 = owed ∧
      s.fld Reg.dmcRefresh 10 0 = soft ∧ (s.chan 11).softAt + s.fld Reg.dmcRefresh 10 0 * ns ≤ max s.now (3900 * ns)) := by decide +kernel

theorem witness_DramUpkeep_scrub :
    (∀ next ∈ [0, 2 ^ 29 - 1], let s := chan11 [(Reg.dmcChCtrl 11, 1), (Reg.dmcScrub, 1)] { Chan.reset with scrub := next }
      s.chanUsable 11 = true ∧ s.flag (Reg.dmcChCtrl 11) 0 = true ∧ s.fld Reg.dmcScrub 7 0 ≠ 0 ∧
      s.linePoisoned (chanBase 11 / 64 + (s.chan 11).scrub) = false) ∧
    (let s := { chan11 [] Chan.reset with dimms := roomy.take 1 ++ (List.replicate 10 [] ++ [[dimm]]) }
     (s.chanUsable 11 = true ∧ s.unitState (119 + 11) = 0 ∧ (s.chan 11).driftAt + 100 * ms ≤ max s.now (100 * ms)) ∧ s.evacFits 11 = true) :=
  ⟨by decide +kernel, by decide +kernel, evacFits_roomy rfl rfl rfl (by decide +kernel)⟩

theorem witness_DramUpkeep_power :
    (on []).accepts .host Reg.dmcTrainCtrl (putBits 0 16 16 1) ∧
    (on [(Reg.svcUnit 130, 2), (Reg.dmcChCtrl 11, 0x100)]).accepts .host (Reg.dmcChCtrl 11) 0 ∧
    (on [(Reg.svcUnit 130, 2), (Reg.dmcChCtrl 11, 0x100)]).flag (Reg.dmcChCtrl 11) 8 = true :=
  ⟨acceptsOf (by decide +kernel), acceptsOf (by decide +kernel), by decide +kernel⟩

theorem witness_DramUpkeep_training :
    (∀ k ∈ [1, 5], let s := { chan11 [(Reg.svcUnit 130, 3), (Reg.dmcTrainCtrl, 0x10000)] { Chan.reset with record := [] } with svc := { Svc.reset with tests := [(130, k)] } }
      s.unitState (119 + 11) = 3 ∧ 119 + 11 ∉ s.svc.bist ∧ s.testOf (119 + 11) = some k ∧ (k = 1 ∨ k = 5 ∧ (s.flag Reg.dmcTrainCtrl 0 = true ∨
        s.flag Reg.dmcTrainCtrl 16 = true ∨ s.dmc.trainFrom + s.fld Reg.dmcTrainCtrl 15 8 * 100 * ms ≤ max s.now 0)) ∧
      (s.trainResult 11 [dimm] 25 false true (some (List.replicate 96 1)) (k == 5)).2.1 = true ∧
      (s.trainResult 11 [dimm] 25 false true none (k == 5)).2.1 = false) := by decide +kernel

/-- The same, with Marigold running and hold-up energy for any store. -/
def stored1 (s : State) (l : List (Nat × Nat)) : State :=
  { l.foldl (fun s e => s.wr e.1 e.2) s with mgt := { Mgt.reset with running := true } }

/-- Hold-up energy for any store. -/
def energy : List (Nat × Nat) := [(Reg.pwrHoldCap, 65535), (Reg.pwrHoldV, 5000)]

theorem made_meta : metaForce [none, some (makeMeta 2 6 [5])] = some (1, makeMeta 2 6 [5]) ∧ metaCode true [none, some (makeMeta 2 6 [5])] = 1 := by
  have v : metaValid (makeMeta 2 6 [5]) = true := by simp only [metaValid, makeMeta, metaBytes, BEq.rfl]
  have f : metaForce [none, some (makeMeta 2 6 [5])] = some (1, makeMeta 2 6 [5]) := by
    simp [metaForce, Option.filter, v]
  have n : (makeMeta 2 6 [5]).serial = deviceSerial := rfl
  exact ⟨f, by simp [metaCode, f, n]⟩

theorem witness_ContentSegments_drives :
    1 < 2 ∧ (stored1 (on []) (energy ++ [(Reg.svcUnit 132, 0), (Reg.nvsDStatus 1, 0x401)])).accepts .host (Reg.nvsDCtrl 1) (putBits 0 0 0 1) ∧
    (let s := stored1 (on []) (energy ++ [(Reg.svcUnit 132, 0), (Reg.nvsDStatus 1, 0x401)])
     { s with mgt := { s.mgt with restarting := true } }.accepts .host (Reg.nvsDCtrl 1) (putBits 0 0 0 1)) ∧
    (let s := on [(Reg.svcUnit 132, 5)]
     s.domOn 30 = true ∧ s.unitState (131 + 1) = 5 ∧ 131 + 1 ∉ s.svc.bist) ∧
    ((on []).unitState (131 + 1) = 0 ∧ ((on []).drive 1).ready = false) ∧
    (metaForce [none, some (makeMeta 2 6 [5])] = some (1, makeMeta 2 6 [5]) ∧ metaCode true [none, some (makeMeta 2 6 [5])] = 1) ∧
    metaCode true [none, none] ≠ 1 ∧
    ((playing [] 0).drive 1).present = true ∧ ((playing [] 0).drive 0).present = false ∧ (playing [] 0).driveOk 1 = true ∧
    0 + 2 * sec ≤ max (playing [] 0).now (2 * sec) :=
  ⟨by decide, acceptsOf (by decide +kernel), acceptsOf (by decide +kernel), by decide +kernel, by decide +kernel,
    made_meta, by decide +kernel, by decide +kernel, by decide +kernel, by decide +kernel,
    by decide +kernel⟩

/-- A segment of one datagram, as its bytes lie in memory. -/
def segBytes : List Byte :=
  let gram := (dgram []).set 5 1
  let body := leBytes 2 36 ++ gram ++ [0, 0]
  let head := [0x4B, 0x53, 0x45, 0x47, 1, 0, 0, 0] ++ leBytes 8 0 ++ leBytes 4 1 ++ leBytes 4 1 ++ leBytes 8 0xFFF ++ leBytes 8 40 ++
    leBytes 4 (crc32c body) ++ List.replicate 16 0
  head ++ leBytes 4 (crc32c head) ++ body

/-- The segment of the test in memory at 0, ready to be written to drive 1. -/
def toStore (bytes : List Byte) : State :=
  let s := stored1 (playing [(Reg.nvsSegwLen, 104), (Reg.nvsDCap 1, 16000)] 0) energy
  { s with dimms := fitted, dram := (bytes.zipIdx.map (fun x => (x.2, x.1))).filter (fun x => x.2 != 0) }

theorem witness_ContentSegments_write :
    (toStore []).accepts .host Reg.nvsSegwCtrl (putBits 0 31 31 1) ∧
    ((toStore []).dramRead ((toStore []).addr64 Reg.nvsSegwLo Reg.nvsSegwHi) ((toStore []).rd Reg.nvsSegwLen)).bind parseSeg = none ∧
    (∃ g, ((toStore segBytes).dramRead ((toStore segBytes).addr64 Reg.nvsSegwLo Reg.nvsSegwHi) ((toStore segBytes).rd Reg.nvsSegwLen)).bind
       parseSeg = some g ∧ ((toStore segBytes).segTargets g = some [false, true] ∧
        { toStore segBytes with regs := (toStore segBytes).regs.filter (fun e => e.1 != Reg.nvsDCap 1) }.segTargets g = none)) ∧
    (toStore []).storeOk 3 = true ∧ (toStore segBytes).mgt.restarting = false :=
  ⟨acceptsOf (by decide +kernel), by decide +kernel, someOf (by decide +kernel), by decide +kernel, by decide +kernel⟩

theorem witness_ContentSegments_end :
    (∀ w ∈ [(none, 0x1504), (some (segment, [false, true]), 0), (some (segment, [true, false]), 0)],
      let s := { playing [(Reg.svcUnit 132, 1)] 0 with nvs := { (playing [] 0).nvs with segw := some w } }
      s.nvs.segw = some w ∧ w.2 < 2 ^ 15 ∧ s.nvs.segwWait = false ∧ s.driveLive 1 = true ∧ s.driveLive 0 = false) ∧
    (let s := { playing [] 0 with nvs := { (playing [] 0).nvs with
       segw := some (some (segment, [false, true]), 0), segwWait := true, segop := some (1, 5, 0), segopWait := true } }
     s.nvs.segw = some (some (segment, [false, true]), 0) ∧ s.nvs.segwWait = true ∧ s.nvs.segop = some (1, 5, 0) ∧ s.nvs.segopWait = true) ∧
    (let s := playing [(Reg.nvsSegopNum, 5)] 0
     s.accepts .host Reg.nvsSegop (putBits (putBits 0 31 31 1) 1 0 0)) ∧
    (let s := { playing [(Reg.nvsSegopNum, 5)] 0 with nvs := { (playing [] 0).nvs with plays := List.replicate 4 none } }
     s.accepts .host Reg.nvsSegop (putBits (putBits 0 31 31 1) 1 0 1)) ∧
    (∀ op ∈ [(0, 5, 0), (1, 5, 0), (1, 5, 0xC)], let s := { playing [] 0 with nvs := { (playing [] 0).nvs with segop := some op } }
     s.segOf 5 = some segment ∧ s.nvs.segop = some op ∧ s.nvs.segopWait = false ∧ s.driveLive 1 = true) :=
  ⟨by decide +kernel, by decide +kernel, acceptsOf (by decide +kernel), acceptsOf (by decide +kernel), by decide +kernel⟩

/-- A session 63 that takes the store's datagrams. -/
def player (l : List (Nat × Nat)) (p : Option Play) : State :=
  let s := playing ((Reg.ingCtrl, 1) :: (Reg.nvsCtrl, 1) :: (Reg.nvsPbSeg 3, 5) :: l) 0
  { s with nvs := { s.nvs with plays := [none, none, none, p] },
           ing := { Ing.reset with sessions := List.replicate 63 Session.reset ++ [{ Session.reset with state := 2 }] } }

/-- A player in its first loop of `loops`. -/
def play (loops : Option Nat) (start seg : Nat) : Play :=
  { session := 63, seg := seg, loops := loops, lead := 0, start := start, s0 := 0, loop := 0, next := 0 }

theorem witness_PlaybackAndFallback_play :
    3 < 4 ∧ (player [(Reg.ingSCtrl 63, 0x4)] none).accepts .host (Reg.nvsPbCtrl 3) (putBits (63 + 0x200) 31 31 1) ∧
    (player [] (some (play (some 1) 0 5))).accepts .host (Reg.nvsPbCtrl 3) (putBits (putBits 63 31 31 0) 30 30 1) ∧
    (∀ x ∈ [play (some 0) 0 5, play (some 1) 1 5], let s := player [] (some x)
      s.play 3 = some x ∧ s.segOf x.seg = some segment ∧ s.flag Reg.nvsCtrl 0 = true ∧ (x.over = true ∨ s.ras.frame + x.lead < x.frame segment)) ∧
    (∀ x ∈ [play (some 1) 0 5, play none 0 5], let s := player [(Reg.ingSCtrl 63, 0x5)] (some x)
      s.play 3 = some x ∧ s.segOf x.seg = some segment ∧ x.over = false ∧ x.frame segment ≤ s.ras.frame + x.lead ∧
      segment.firstFrame ≤ gramFrame (segment.grams.getD x.next []) ∧ 1 ≤ segment.count ∧ 1 ≤ segment.frames) ∧
    ((player [] (some (play none 0 9))).play 3 = some (play none 0 9) ∧ (player [] (some (play none 0 9))).segOf 9 = none) :=
  ⟨by decide, acceptsOf (by decide +kernel), acceptsOf (by decide +kernel), by decide +kernel, by decide +kernel, by decide +kernel⟩

/-- Fallback to session 63 is prepared; sessions 0 and 62 come from the network, and only 62 shows the same plane. -/
def fallback (f : Option (Nat × List Nat)) (l : List (Nat × Nat)) : State :=
  let s := on ([(Reg.nvsCtrl, 3), (Reg.nvsFbSession, 63), (Reg.ingSCtrl 63, if f.isSome then 5 else 4), (Reg.ingSCtrl 0, 1),
    (Reg.ingSCtrl 62, if f.isSome then 0 else 1), (Reg.ingSPlanes 63, 0x8001), (Reg.ingSPlanes 62, 0x8000), (Reg.ingSPlanes 0, 2)] ++ l)
  { s with nvs := { Nvs.reset with fallback := f } }

theorem witness_PlaybackAndFallback_fallback :
    (let s := fallback none []
     s.domOn 30 = true ∧ s.flag Reg.nvsCtrl 0 = true ∧ s.flag Reg.nvsCtrl 1 = true ∧ s.nvs.fallback = none ∧ (s.at (100 * sec)).downLong = true ∧
     s.fld Reg.nvsFbSession 5 0 = 63 ∧ s.sessSource 63 = 1 ∧ s.flag (Reg.ingSCtrl 63) 0 = false ∧
     (List.range 64).filter (fun j => s.flag (Reg.ingSCtrl j) 0 && s.sessSource j == 0 &&
        decide (Nat.land (s.rd (Reg.ingSPlanes j)) (s.rd (Reg.ingSPlanes 63)) ≠ 0)) = [62]) ∧
    (let s := fallback (some (63, [62])) [(Reg.npPortStatus 1, 1), (Reg.nvsFbSession, 62)]
     s.nvs.fallback = some (63, [62]) ∧ 63 < 64 ∧ (∀ j ∈ [62], j < 64 ∧ j ≠ 63) ∧ (s.at (100 * sec)).upLong = true) := by decide +kernel

/-- Lane `n` in a state, its owner there. -/
def serial (n st : Nat) (l : List (Nat × Nat)) : State := on ((Reg.lnkLStatus n, st) :: (Reg.npPortCtrl 1, 1) :: (Reg.lnkCtrl, 2) :: l)

theorem witness_SerialLanes_states :
    ∀ n ∈ [67, 79, 83], n < 84 ∧ (serial n 0 []).laneOwned n = true ∧ (serial n 0 []).laneState n = 0 ∧ (serial n 3 []).laneState n = 3 ∧
      (serial n 1 []).laneState n = 1 ∧ (serial n 1 [(Reg.lnkLCtrl n, 1)]).fld (Reg.lnkLCtrl n) 1 0 ≠ 0 ∧
      (serial n 1 [(Reg.lnkLCtrl n, 0x100)]).flag (Reg.lnkLCtrl n) 8 = true ∧
      (serial n 4 []).laneState n = 4 ∧ (serial n 4 []).flag Reg.lnkCtrl 1 = true ∧ ((serial n 4 []).lane n).tries < 3 ∧
      ((serial n 4 []).lane n).faultAt + 10 * ms ≤ max (serial n 4 []).now (10 * ms) := by decide +kernel

/-- The retry of lane 67 runs; the lane is READY with a link partner; lane 83 serves the panel. -/
theorem witness_SerialLanes_faults :
    (let s := { serial 67 1 [] with lanes := List.replicate 84 { Lane.reset with tries := 1 } }
     s.laneState 67 = 1 ∧ lanePanel 67 = false ∧ 0 < (s.lane 67).tries ∧ 67 < s.lanes.length) ∧
    (serial 67 2 []).laneState 67 = 2 ∧ (serial 51 2 []).laneState 51 = 2 ∧ lanePanel 51 = true ∧
    (let s := serial 67 0 []
     s.laneOwned 67 = true ∧ lanePcie 67 = false ∧ s.flag Reg.lnkCtrl 0 = false ∧ 67 < s.lanes.length) := by decide +kernel

/-- An eye whose scan has stopped at the points next to its centre, across and up. -/
def shut : EyeScan :=
  { phase := { centre := 0, below := [1], above := [1] }, volt := { centre := 0, below := [1], above := [0, 1] } }

theorem witness_SerialLanes_commands :
    (serial 83 2 []).accepts .host (Reg.lnkLCtrl 83) (putBits 0 16 16 1) ∧ (serial 83 2 []).accepts .host (Reg.lnkLCtrl 83) (putBits 0 31 31 1) ∧
    (serial 83 0x10002 []).flag (Reg.lnkLStatus 83) 16 = true ∧ (serial 83 0x10002 []).scanEnded 83 [shut] = true ∧
    (serial 83 0x10002 []).leastOpen [shut] = (1, 2) ∧
    (serial 67 0x10002 []).flag (Reg.lnkLStatus 67) 16 = true ∧ (serial 67 0x10002 []).scanEnded 67 [shut, shut, shut] = true :=
  ⟨acceptsOf (by decide +kernel), acceptsOf (by decide +kernel), by decide +kernel, by decide +kernel, by decide +kernel, by decide +kernel,
    by decide +kernel⟩

theorem witness_SerialLanes_slew :
    ∀ k, k < 9 → let s := serial 67 2 [(Reg.lnkLTxeqNow 67, 0x3F3F3F), (Reg.lnkLCtrl 67, 0)]
      let s := { s with lanes := List.replicate 84 { Lane.reset with target := [0, 0x0F0F, 0x01010101] } }
      s.laneState 67 ≠ 0 ∧ eqValue (s.eqNow 67) k ≠ eqValue (s.lane 67).target k ∧ lanePcie 67 = false ∧
      s.flag (Reg.lnkLCtrl 67) 8 = false ∧ (s.lane 67).stepAt.getD k 0 + (if k < 3 then 100 else 10) * us ≤ max s.now (100 * us) := by
  decide +kernel

/-! ### Management, security, power and service. The requests that follow pass every check before the signature; whether that
verifies hangs on the device's serial number, which is open (Config.serial). -/

/-- A key of zeros. -/
def zeroKey : List Byte := List.replicate 64 0

/-- A signed request with SEQ 1 and the nonce of reset. -/
def request (svc : Nat) (params : List Byte) : List Byte :=
  (leBytes 4 svc ++ leBytes 4 params.length ++ List.replicate 16 0 ++ leBytes 8 1) ++ (serialBytes ++ (zeroKey ++ (params ++ List.replicate 64 0)))

theorem length_serialBytes : serialBytes.length = 8 := length_leBytes 8 _

theorem length_request (svc : Nat) (params : List Byte) : (request svc params).length = 168 + params.length := by
  simp only [request, List.length_append, length_leBytes, length_serialBytes, zeroKey, List.length_replicate]
  omega

theorem size_request (svc : Nat) {params : List Byte} (h : params.length < 2 ^ 32) : leNat (slice (request svc params) 4 4) = params.length := by
  have e : slice (request svc params) 4 4 = leBytes 4 params.length := by
    unfold request
    rw [List.append_assoc, List.append_assoc, List.append_assoc]
    exact slice_middle (length_leBytes 4 svc) (length_leBytes 4 _)
  rw [e, leNat_leBytes 4 _ (by omega)]

theorem params_request (svc : Nat) {params : List Byte} (h : params.length < 2 ^ 32) : mbParams (request svc params) = params := by
  unfold mbParams
  rw [size_request svc h]
  unfold request
  rw [← List.append_assoc, ← List.append_assoc]
  exact slice_middle (by simp only [List.length_append, length_leBytes, length_serialBytes, zeroKey, List.length_replicate]) rfl

theorem key_request (svc : Nat) (params : List Byte) : mbKey (request svc params) = zeroKey := by
  unfold mbKey request
  rw [← List.append_assoc]
  exact slice_middle (by simp only [List.length_append, length_leBytes, length_serialBytes, List.length_replicate]) rfl

theorem service_request {svc : Nat} (params : List Byte) (h : svc < 2 ^ 32) : leNat ((request svc params).take 4) = svc := by
  have e : (request svc params).take 4 = leBytes 4 svc := by
    unfold request
    rw [List.append_assoc, List.append_assoc, List.append_assoc, List.take_append_of_le_length (by rw [length_leBytes]),
      List.take_of_length_le (by rw [length_leBytes])]
  rw [e, leNat_leBytes 4 _ (by omega)]

/-- The envelope of a request: its length, and whether nonce and SEQ are as the state has them. -/
theorem envelope_request (s : State) (svc : Nat) {params : List Byte} (plen : Nat → Bool) (hl : params.length < 2 ^ 32) :
    s.envelope 1 (request svc params) plen = if params.length % 4 ≠ 0 ∨ plen params.length = false then 1
      else if List.replicate 16 0 ≠ s.secu.nonce ∨ 1 ≤ s.secu.seqs.getD 1 0 then 0x1C02 else 0 := by
  have serial : leNat (slice (request svc params) 32 8) = deviceSerial := by
    unfold request
    rw [slice_middle (by simp only [List.length_append, length_leBytes, List.length_replicate]) length_serialBytes]
    exact leNat_leBytes 8 _ (Config.serial.isLt)
  have nonce : slice (request svc params) 8 16 = List.replicate 16 0 := by
    unfold request
    rw [List.append_assoc, List.append_assoc]
    exact slice_middle (by simp only [List.length_append, length_leBytes]) (List.length_replicate ..)
  have seq : leNat (slice (request svc params) 24 8) = 1 := by
    unfold request
    rw [List.append_assoc, slice_middle (by simp only [List.length_append, length_leBytes, List.length_replicate]) (length_leBytes 8 1),
      leNat_leBytes 8 1 (by decide)]
  unfold State.envelope
  simp only [size_request svc hl, length_request, serial, nonce, seq]
  simp [-List.reduceReplicate]

/-- The request that a waiting channel 1 takes. -/
theorem taken_request {s : State} {svc : Nat} {params : List Byte} (len : s.fld (Reg.mgtMbLen 1) 15 0 = 168 + params.length) :
    s.mbRequest 1 (request svc params) = some (request svc params) := by
  simp only [State.mbRequest, length_request, len]
  rfl

/-- A request is asked by a state whose channel 1 waits with its length. -/
theorem asked {s : State} {svc : Nat} {params : List Byte} {plen : Nat → Bool} {signer : State → List Byte → List Byte → Nat}
    (busy : s.mbBusy 1 = true) (len : s.fld (Reg.mgtMbLen 1) 15 0 = 168 + params.length) (nonce : s.secu.nonce = List.replicate 16 0)
    (seqs : s.secu.seqs = [0, 0]) (hsvc : svc < 2 ^ 32) (h4 : params.length % 4 = 0) (hl : params.length < 2 ^ 32)
    (hp : plen params.length = true) (sign : signer s zeroKey params = 0) :
    s.mbAsks 1 (request svc params) svc plen signer (request svc params) := by
  refine ⟨busy, taken_request len, service_request params hsvc, ?_, ?_⟩
  · rw [envelope_request s svc plen hl]
    simp [h4, hp, nonce, seqs]
  · rw [key_request, params_request svc hl]; exact sign

/-- The same, from one check that evaluates. -/
theorem askedOf {s : State} {svc : Nat} {params : List Byte} {plen : Nat → Bool} {signer : State → List Byte → List Byte → Nat}
    (h : s.mbBusy 1 = true ∧ s.fld (Reg.mgtMbLen 1) 15 0 = 168 + params.length ∧ s.secu.nonce = List.replicate 16 0 ∧ s.secu.seqs = [0, 0] ∧
      svc < 2 ^ 32 ∧ params.length % 4 = 0 ∧ params.length < 2 ^ 32 ∧ plen params.length = true) (sign : signer s zeroKey params = 0) :
    s.mbAsks 1 (request svc params) svc plen signer (request svc params) ∧ mbParams (request svc params) = params :=
  ⟨asked h.1 h.2.1 h.2.2.1 h.2.2.2.1 h.2.2.2.2.1 h.2.2.2.2.2.1 h.2.2.2.2.2.2.1 h.2.2.2.2.2.2.2 sign, params_request svc h.2.2.2.2.2.2.1⟩

/-- The owners: slot 0 holds the key of zeros, slot 3 another one. -/
def owners : List Owner :=
  [{ digest := sm3 zeroKey, enrolled := true, revoked := false }, { digest := 0, enrolled := false, revoked := false },
   { digest := 0, enrolled := false, revoked := false }, { digest := 1, enrolled := true, revoked := false }]

theorem owner_ok {s : State} (h : s.secu.owners = owners) : s.ownerOk zeroKey = true := by
  simp [State.ownerOk, State.ownerOf, State.owner, h, owners, List.findIdx?_cons]

theorem owner_signs {s : State} {params : List Byte} (h : s.secu.owners = owners) : ownerSigner s zeroKey params = 0 := by
  simp [ownerSigner, owner_ok h]

/-- Channel 1 waits with a request of `168 + n` bytes; Marigold runs, and the hold-up bank is full. -/
def box (n : Nat) (l : List (Nat × Nat)) : State :=
  let s := stored1 (on []) (energy ++ [(Reg.mgtMbCtrl 1, 2), (Reg.mgtMbLen 1, 168 + n), (Reg.mgtMbRlen 1, 65535)] ++ l)
  { s with secu := { Sec.reset with owners := owners, secureBoot := false, identityOk := true, kat := [true, true, true, false] } }

/-- A signed object of a kind with a body of zeros; with secure boot off its signature does not matter. -/
def object (kind n : Nat) : List Byte :=
  [0x4B, 0x53, 0x49, 0x47] ++ leBytes 2 1 ++ leBytes 2 kind ++ leBytes 4 0 ++ leBytes 4 0 ++ leBytes 4 n ++ List.replicate 172 0 ++ List.replicate n 0

/-- Marigold's slot A holds an image behind its key certificate, the control complex's slot A and slot B one each. -/
def bootable (s : State) : State :=
  { s with secu := { s.secu with secureBoot := false, slots := [object 7 96 ++ object 1 1, [], object 2 1, object 2 1, [], object 3 1] } }

theorem witness_MarigoldAndMailbox_complex :
    (on []).accepts .host Reg.mgtCpxCtrl (putBits 0x03E80000 0 0 1) ∧ (on []).accepts .host Reg.mgtCpxKick (putBits 0 0 0 1) ∧
    (let s := { on [] with mgt := { Mgt.reset with cpxRun := true } }
     s.mgt.cpxRun = true ∧ s.fld Reg.mgtCpxCtrl 31 16 ≠ 0 ∧ s.mgt.kickAt + s.fld Reg.mgtCpxCtrl 31 16 * ms ≤ max s.now sec) ∧
    (let s := { on [] with mgt := { Mgt.reset with running := true, cpxRestart := some 0 } }
     s.mgt.running = true ∧ s.mgt.restarting = false ∧ s.domOn 2 = true ∧ (s.pwr.step = 8 ∨ s.mgt.cpxRestart.isSome = true) ∧
     (((bootable s).trialStart 1).bootImage 1).1.isSome = true ∧ ((s.trialStart 1).bootImage 1).1.isSome = false) :=
  ⟨acceptsOf (by decide +kernel), acceptsOf (by decide +kernel), by decide +kernel, by decide +kernel⟩

theorem witness_MarigoldAndMailbox_marigold :
    (let s := { on [(Reg.mgtMbCtrl 1, 2)] with mgt := { Mgt.reset with running := true } }
     s.mgt.running = true ∧ s.mgt.restarting = false ∧ 1 < 2 ∧ s.flag (Reg.mgtMbCtrl 1) 1 = true) ∧
    (let s := { on [] with mgt := { Mgt.reset with running := true, restarting := true } }
     s.mgt.running = true ∧ s.mgt.restarting = true ∧ (((bootable s).restartOver.trialStart 0).bootImage 0).1.isSome = true ∧
     ((s.restartOver.trialStart 0).bootImage 0).1.isSome = false ∧ s.panel = 0) := by decide +kernel

theorem witness_MarigoldAndMailbox_open :
    (let s := box 0 [(Reg.mgtMbLen 1, 4), (Reg.mgtMbRlen 1, 12)]
     s.mbBusy 1 = true ∧ (∀ v ∈ [0, 1], s.mbRequest 1 (leBytes 4 v) = some (leBytes 4 v)) ∧ 12 ≤ s.fld (Reg.mgtMbRlen 1) 15 0 ∧
     leNat ((leBytes 4 0).take 4) ≠ 1 ∧ rowServices.contains (leNat ((leBytes 4 0).take 4)) = false) ∧
    (let s := box 0 [(Reg.mgtMbLen 1, 16), (Reg.mgtMbRlen 1, 56)]
     let b := fun n => leBytes 4 2 ++ leBytes 8 0 ++ leBytes 4 n
     s.mbBusy 1 = true ∧ ∀ n ∈ [0, 1, 512, 513], s.mbRequest 1 (b n) = some (b n) ∧ leNat ((b n).take 4) = 2 ∧ 16 ≤ (b n).length ∧
       leNat (slice (b n) 12 4) = n ∧ (1 ≤ n → n ≤ 512 → (s.svcLogRead (b n)).2.1.length ≤ s.fld (Reg.mgtMbRlen 1) 15 0)) := by decide +kernel

/-- For each signed service: a length of its parameters. -/
def lengths : List (Nat × Nat) :=
  [(0x10, 12), (0x11, 8), (0x20, 8), (0x30, 8), (0x31, 61444), (0x32, 0), (0x33, 4), (0x34, 8), (0x35, 32), (0x36, 0), (0x37, 124),
   (0x38, 4), (0x39, 68), (0x3A, 4), (0x3B, 4), (0x3C, 288)]

/-- Which length of the parameters a signed service takes. -/
def plenOf (svc : Nat) : Nat → Bool :=
  if svc = 0x31 then fun n => (n - 4) % 4096 == 0 && decide (4100 ≤ n ∧ n ≤ 61444)
  else fun n => n == ((lengths.find? (fun e => e.1 == svc)).map (fun e => e.2)).getD 0

theorem box_busy : ∀ e ∈ lengths, (box e.2 []).mbBusy 1 = true ∧ (box e.2 []).fld (Reg.mgtMbLen 1) 15 0 = 168 + e.2 ∧ e.2 % 4 = 0 ∧
    e.2 < 2 ^ 32 ∧ e.1 < 2 ^ 32 ∧ plenOf e.1 e.2 = true ∧ (box e.2 []).secu.nonce = List.replicate 16 0 ∧
    (box e.2 []).secu.seqs.getD 1 0 = 0 := by decide +kernel

/-- Every signed service is asked for: with an envelope of the wrong length, of another nonce, by a key of no owner, and by an owner. -/
theorem witness_MarigoldAndMailbox_signed :
    ∀ e ∈ lengths, let b := request e.1 (List.replicate e.2 0)
      (box e.2 []).mbBusy 1 = true ∧ (box e.2 []).mbRequest 1 b = some b ∧ leNat (b.take 4) = e.1 ∧
      (box e.2 []).envelope 1 b (fun _ => false) = 1 ∧
      { box e.2 [] with secu := { (box e.2 []).secu with seqs := [0, 1] } }.envelope 1 b (plenOf e.1) = 0x1C02 ∧
      (box e.2 []).envelope 1 b (plenOf e.1) = 0 ∧
      { box e.2 [] with secu := { (box e.2 []).secu with owners := Sec.reset.owners } }.ownerOk (mbKey b) = false ∧
      (box e.2 []).ownerOk (mbKey b) = true := by
  intro e he
  obtain ⟨busy, len, h4, hl, hs, hp, nonce, seqs⟩ := box_busy e he
  have n : (List.replicate e.2 (0 : Byte)).length = e.2 := List.length_replicate ..
  refine ⟨busy, taken_request (by rw [n]; exact len), service_request _ hs, ?_, ?_, ?_, ?_, ?_⟩
  · rw [envelope_request _ _ _ (by rw [n]; exact hl)]; simp
  · rw [envelope_request _ _ _ (by rw [n]; exact hl), n]; simp [h4, hp]
  · rw [envelope_request _ _ _ (by rw [n]; exact hl), n, nonce, seqs]; simp [h4, hp]
  · rw [key_request]
    have none : Sec.reset.owners = List.replicate 4 { digest := 0, enrolled := false, revoked := false } := rfl
    simp [State.ownerOk, State.ownerOf, none, List.replicate, List.findIdx?_cons]
  · rw [key_request]
    exact owner_ok rfl

/-- What a request of an owner must meet, with its parameters read back. -/
def asks (s : State) (svc : Nat) (plen : Nat → Bool) (params : List Byte) : Prop :=
  s.mbAsks 1 (request svc params) svc plen ownerSigner (request svc params) ∧ mbParams (request svc params) = params

theorem witness_MailboxFirmware_write :
    (∀ a ∈ [0x1C0000, 0x1CFFFC, Reg.mgtCpxCtrl, 0], let p := leBytes 4 a ++ leBytes 4 0xFF00 ++ leBytes 4 0x1200
      asks (box 12 []) 0x10 (fun n => n == 12) p ∧ leNat (slice p 0 4) = a ∧ leNat (slice p 4 4) = 0xFF00 ∧ leNat (slice p 8 4) = 0x1200) ∧
    ((box 12 []).reached Reg.mgtCpxCtrl).isSome = true ∧ ((box 12 []).reached 0).isSome = true := by
  refine ⟨fun a ha => ?_, by decide +kernel⟩
  simp only [List.mem_cons, List.not_mem_nil, or_false] at ha
  rcases ha with rfl | rfl | rfl | rfl <;> exact ⟨askedOf (by decide +kernel) (owner_signs rfl), by decide +kernel⟩

theorem witness_MailboxFirmware_domain :
    (let p := leBytes 4 34 ++ leBytes 4 1
     let s := box 8 [(0x19004C, 3)]
     asks s 0x11 (fun n => n == 8) p ∧ leNat (slice p 0 4) = 34 ∧ leNat (slice p 4 4) = 1 ∧ firstCode (s.domainCodes 34 true) = 0 ∧
     s.domOn 34 = false ∧ s.pwr.ups.contains 34 = false) ∧
    (let p := leBytes 4 34 ++ leBytes 4 0
     let s := box 8 []
     asks s 0x11 (fun n => n == 8) p ∧ leNat (slice p 0 4) = 34 ∧ leNat (slice p 4 4) = 0 ∧ firstCode (s.domainCodes 34 false) = 0) :=
  ⟨⟨askedOf (by decide +kernel) (owner_signs rfl), by decide +kernel⟩, ⟨askedOf (by decide +kernel) (owner_signs rfl), by decide +kernel⟩⟩

theorem witness_MailboxFirmware_capture :
    let p := leBytes 8 0
    let s := { box 8 [] with dimms := fitted, dmc := { Dmc.reset with chans := List.replicate 12 { Chan.reset with record := [] } } }
    asks s 0x20 (fun n => n == 8) p ∧ ((s.cal.filterMap id).filter (fun x => decide (2 < (x.temp - s.calNow.temp).natAbs))).length < 8 ∧
    s.dramOk (leNat (slice p 0 8)) (s.calImage ((s.cal.filterMap id).filter (fun x => decide (2 < (x.temp - s.calNow.temp).natAbs)) ++
      [s.calNow])).length = true := ⟨askedOf (by decide +kernel) (owner_signs rfl), by decide +kernel⟩

/-- An update of a kind of `n` bytes is under way, with the bytes `image` in its slot. -/
def updating (m kind n : Nat) (parts : List (Nat × Nat)) (image : List Byte) (signer : List Byte) : State :=
  { box m [] with secu := { (box m []).secu with
      slots := (List.replicate 6 []).set (2 * (kind - 1) + 1) image,
      update := some { kind := kind, total := n, signer := signer, parts := parts } } }

theorem witness_MailboxFirmware_begin :
    let p := leBytes 4 3 ++ leBytes 4 (2 ^ 20)
    let s := box 8 []
    asks s 0x30 (fun n => n == 8) p ∧ s.secu.update = none ∧ leNat (slice p 0 4) = 3 ∧ leNat (slice p 4 4) = 2 ^ 20 ∧
    leNat (slice p 4 4) ≤ slotSize (3 - 1) ∧ (s.boot.kind (3 - 1)).trial = false :=
  ⟨askedOf (by decide +kernel) (owner_signs rfl), by decide +kernel⟩

theorem witness_MailboxFirmware_block :
    let p := leBytes 4 4096 ++ List.replicate 4096 0
    ∀ s ∈ [updating 4100 3 8192 [(0, 4096)] [] zeroKey, { updating 4100 3 4097 [] [] zeroKey with mgt := { Mgt.reset with running := true }, regs := (box 4100 []).regs.filter (fun e => e.1 != Reg.pwrHoldCap) }],
      asks s 0x31 (fun n => (n - 4) % 4096 == 0 && decide (4100 ≤ n ∧ n ≤ 61444)) p ∧ leNat (slice p 0 4) = 4096 ∧
      ∃ x, s.secu.update = some x ∧ 4096 + (p.drop 4).length ≤ (x.total + 4095) / 4096 * 4096 ∧
        ∀ e ∈ x.parts, 4096 + (p.drop 4).length ≤ e.1 ∨ e.1 + e.2 ≤ 4096 := by
  intro p s hs
  simp only [List.mem_cons, List.not_mem_nil, or_false] at hs
  rcases hs with rfl | rfl <;>
    exact ⟨askedOf (by decide +kernel) (owner_signs rfl), by decide +kernel, ⟨_, rfl, by decide +kernel⟩⟩

theorem witness_MailboxFirmware_blockStore :
    (updating 4100 3 8192 [(0, 4096)] [] zeroKey).storeOk 1 = true ∧
    { updating 4100 3 4097 [] [] zeroKey with regs := (box 4100 []).regs.filter (fun e => e.1 != Reg.pwrHoldCap) }.storeOk 1 = false := by
  decide +kernel

theorem witness_MailboxFirmware_end :
    (let s := updating 0 3 193 [] (object 3 1) zeroKey
     asks s 0x32 (fun n => n == 0) [] ∧ s.ownerOk zeroKey = true ∧
     (s.verifyImage (3 - 1) ((s.secu.slots.getD (2 * (3 - 1) + (1 - (s.boot.kind (3 - 1)).slot)) []).take 193)).1 = 0 ∧ s.pwr.measured = false ∧
     s.storeOk 2 = true ∧ s.secu.boots.length = 2) ∧
    (let s := updating 0 3 193 [] (object 2 1) zeroKey
     asks s 0x32 (fun n => n == 0) [] ∧ s.ownerOk zeroKey = true ∧
     (s.verifyImage (3 - 1) ((s.secu.slots.getD (2 * (3 - 1) + (1 - (s.boot.kind (3 - 1)).slot)) []).take 193)).1 = 0x1C04) :=
  ⟨⟨askedOf (by decide +kernel) (owner_signs rfl), owner_ok rfl, by decide +kernel⟩,
   ⟨askedOf (by decide +kernel) (owner_signs rfl), owner_ok rfl, by decide +kernel⟩⟩

theorem witness_MailboxFirmware_activate :
    (∀ k ∈ [0, 1, 2, 3, 4], asks (box 4 []) 0x33 (fun n => n == 4) (leBytes 4 k) ∧ leNat (slice (leBytes 4 k) 0 4) = k) ∧
    (let p := leBytes 4 3 ++ leBytes 4 0
     asks (box 8 []) 0x34 (fun n => n == 8) p ∧ leNat (slice p 0 4) = 3 ∧ leNat (slice p 4 4) = 0 ∧ (box 8 []).pwr.measured = false ∧
     (box 8 []).storeOk 2 = true ∧ (box 8 []).secu.boots.length = 2) := by
  refine ⟨fun k hk => ?_, ⟨askedOf (by decide +kernel) (owner_signs rfl), by decide +kernel⟩⟩
  simp only [List.mem_cons, List.not_mem_nil, or_false] at hk
  rcases hk with rfl | rfl | rfl | rfl | rfl <;> exact ⟨askedOf (by decide +kernel) (owner_signs rfl), by decide +kernel⟩

theorem length_beBytes (n v : Nat) : (beBytes n v).length = n := by
  simp only [beBytes, List.length_reverse, length_leBytes]

theorem length_signature {d k : Nat} {msg x : List Byte} (h : sm2Sign d msg k = some x) : x.length = 64 := by
  rw [sm2Sign_eq] at h
  unfold sm2Signature at h
  split at h
  · cases h
  · simp only at h
    split at h
    · cases h
    · obtain rfl := Option.some.inj h
      rw [List.length_append, length_beBytes, length_beBytes]

/-- A signature has 64 bytes, whatever the random numbers. -/
theorem length_sign (msg : List Byte) (n : Nat) : ∀ s : State, (State.sign msg n s).1.length = 64 := by
  induction n with
  | zero => exact fun _ => List.length_replicate ..
  | succ n ih =>
    intro s
    unfold State.sign
    split
    · rename_i h; exact length_signature h
    · exact ih _

theorem length_attest {s : State} {body : List Byte} {n : Nat} (h : (objHead 5 s.secu.identity body).length + 64 + body.length ≤ n) :
    (s.attestObj body).1.length ≤ n := by
  simp only [State.attestObj, List.length_append, length_sign]
  exact h

theorem witness_MailboxIdentity_report :
    (let s := box 32 []
     asks s 0x35 (fun n => n == 32) (List.replicate 32 0) ∧ s.secu.identityOk = true ∧
     ((s.at ms).attestObj ((s.at ms).attestBody (List.replicate 32 0))).1.length ≤ s.fld (Reg.mgtMbRlen 1) 15 0) ∧
    (let s := { box 32 [] with secu := { (box 32 []).secu with identityOk := false } }
     asks s 0x35 (fun n => n == 32) (List.replicate 32 0) ∧ s.secu.identityOk = false) ∧
    (asks (box 0 []) 0x36 (fun n => n == 0) [] ∧ (box 0 []).secu.identityOk = true ∧
     (box 0 []).certs.length ≤ (box 0 []).fld (Reg.mgtMbRlen 1) 15 0) :=
  ⟨⟨askedOf (by decide +kernel) (owner_signs rfl), rfl, length_attest (by decide +kernel)⟩,
   ⟨askedOf (by decide +kernel) (owner_signs rfl), rfl⟩, ⟨askedOf (by decide +kernel) (owner_signs rfl), rfl, by decide +kernel⟩⟩

theorem witness_MailboxIdentity_keys :
    (let p := [63, 1, 0, 0] ++ List.replicate 117 7 ++ [0, 0, 0]
     asks (box 124 []) 0x37 (fun n => n == 124) p ∧ leNat (slice p 0 1) ≤ 63 ∧ leNat (slice p 1 1) ≤ 1 ∧ (box 124 []).domOn 14 = true ∧
     (∀ x ∈ slice p 2 2 ++ slice p 121 3, x = 0) ∧ (box 124 []).secu.identityOk = true ∧
     { box 124 [] with secu := { (box 124 []).secu with kat := List.replicate 4 true } }.secu.kat.all id = true) ∧
    (let p := [63, 1, 0, 0]
     asks (box 4 []) 0x38 (fun n => n == 4) p ∧ leNat (slice p 0 1) ≤ 63 ∧ leNat (slice p 1 1) ≤ 1 ∧ (box 4 []).domOn 14 = true) :=
  ⟨⟨askedOf (by decide +kernel) (owner_signs rfl), by decide +kernel⟩, ⟨askedOf (by decide +kernel) (owner_signs rfl), by decide +kernel⟩⟩

/-- A state of another lifecycle. -/
def inLife (n : Nat) (s : State) : State := { s with secu := { s.secu with lifecycle := n } }

theorem witness_MailboxIdentity_owners :
    (let p := leBytes 4 2 ++ List.replicate 64 9
     let s := box 68 []
     (s.mbAsks 1 (request 0x39 p) 0x39 (fun n => n == 68) enrolSigner (request 0x39 p) ∧ mbParams (request 0x39 p) = p) ∧
     leNat (slice p 0 4) ≤ 3 ∧ (s.owner (leNat (slice p 0 4))).enrolled = false ∧ s.storeOk 2 = true) ∧
    (let p := leBytes 4 3
     let s := box 4 []
     (s.owner (leNat (slice p 0 4))).enrolled = true ∧ leNat (slice p 0 4) ≤ 3 ∧ s.storeOk 2 = true ∧
     ∃ j, j < 4 ∧ j ≠ leNat (slice p 0 4) ∧ (s.owner j).enrolled = true ∧ (s.owner j).revoked = false) ∧
    (let p := leBytes 4 3
     let s := box 4 []
     s.mbAsks 1 (request 0x3A p) 0x3A (fun n => n == 4) revokeSigner (request 0x3A p) ∧ mbParams (request 0x3A p) = p) := by
  refine ⟨⟨askedOf (by decide +kernel) ?_, by decide +kernel⟩, ⟨by decide +kernel, by decide +kernel, by decide +kernel, ⟨0, by decide +kernel⟩⟩,
    askedOf (by decide +kernel) ?_⟩
  · simp [enrolSigner, owner_ok (s := box 68 []) rfl]
  · have h : (box 4 []).ownerOf zeroKey = some 0 := by simp [State.ownerOf, box, owners, List.findIdx?_cons]
    simp [revokeSigner, owner_ok (s := box 4 []) rfl, h, leBytes, slice, leNat]

theorem witness_MailboxIdentity_life :
    (∀ n ∈ [0, 1], ∀ w ∈ [1, 2], let s := inLife n (box 4 [])
      asks s 0x3B (fun n => n == 4) (leBytes 4 w) ∧ leNat (slice (leBytes 4 w) 0 4) ≤ 2 ∧ (s.owner 0).enrolled = true ∧ s.storeOk 2 = true ∧
      s.secu.lifecycle = n ∧ leNat (slice (leBytes 4 w) 0 4) = w) := by
  intro n hn w hw
  simp only [List.mem_cons, List.not_mem_nil, or_false] at hn hw
  rcases hn with rfl | rfl <;> rcases hw with rfl | rfl <;> exact ⟨askedOf (by decide +kernel) (owner_signs rfl), by decide +kernel⟩

theorem witness_MailboxIdentity_unlock :
    ∀ n ∈ [0, 1], let s := inLife n (box 288 [])
      (s.mbAsks 1 (request 0x3C (object 7 96)) 0x3C (fun n => n == 288) unlockSigner (request 0x3C (object 7 96)) ∧
        mbParams (request 0x3C (object 7 96)) = object 7 96) ∧ (∃ o, parseObj (object 7 96) = some o ∧ o.certKey = zeroKey) ∧ s.secu.lifecycle = n := by
  intro n hn
  simp only [List.mem_cons, List.not_mem_nil, or_false] at hn
  rcases hn with rfl | rfl <;> exact ⟨askedOf (by decide +kernel) (by decide +kernel), someOf (by decide +kernel), rfl⟩

theorem witness_PowerAndTemperature_regulators :
    (let s := { on [(Reg.pwrReg 15, 0x0A0300), (Reg.pwrPmbCfg, 1)] with pwr := { Pwr.reset with regNext := some 0 } }
     s.pwr.regNext = some 0 ∧ s.regOrder[0]? = some 15 ∧ s.pwr.regAt + s.fld (Reg.pwrReg 15) 23 16 * ms ≤ max s.now (10 * ms) ∧
     s.flag (Reg.pwrReg 15) 8 = true ∧ { s with mgt := { Mgt.reset with running := true } }.pmbusOn = true ∧ s.pmbusOn = false) ∧
    34 < 35 ∧ { on [] with pwr := { Pwr.reset with ups := [34] } }.pwr.ups.contains 34 = true := by decide +kernel

theorem witness_PowerAndTemperature_supply :
    (∀ v ∈ [1020, 1079], (on []).supState = 0 ∧ v < (on []).fld Reg.pwrSupCfg 11 0 ∧ (on []).fld Reg.pwrSupCfg 23 12 ≤ v) ∧
    (let s := { on [(Reg.pwrSupStat, 1)] with pwr := { Pwr.reset with above := some 0 } }
     s.supState = 1 ∧ s.pwr.above = some 0 ∧ 0 + s.fld Reg.pwrSupTime 7 0 * ms ≤ max s.now sec) ∧
    (let s := on [(Reg.pwrSupStat, 1)]
     s.supState < 2 ∧ 1019 < s.fld Reg.pwrSupCfg 23 12 ∧ s.panel = 0 ∧ s.pwr.stop = false ∧ s.domOn 3 = true) := by decide +kernel

theorem witness_PowerAndTemperature_throttle :
    ((on [(Reg.thmCtrl, 0)]).flag Reg.thmCtrl 0 = false ∧ 55 < 56 ∧ (on [(Reg.thmCtrl, 0)]).sensOn 55 = true ∧
     (on [(Reg.thmCtrl, 0)]).thm.broken.getD 55 false = false) ∧
    (let s := { on [(Reg.thmReq, 0x10034)] with thm := { Thm.reset with grace := some 7 } }
     s.thm.grace = some 7 ∧ 7 ≤ max s.now 7 ∧ s.enforced < s.thmAsked) ∧
    (let s := { on [(Reg.thmReq, 0x44)] with thm := { Thm.reset with below := some 0 } }
     s.thm.below = some 0 ∧ 0 + s.fld Reg.thmGrace 31 16 * sec ≤ max s.now (1000 * sec) ∧ s.thmAsked ≠ 0 ∧ s.thmAsked - 1 < s.enforced) ∧
    (on []).accepts .host Reg.thmSensClr (putBits 0 0 0 1) :=
  ⟨by decide +kernel, by decide +kernel, by decide +kernel, acceptsOf (by decide +kernel)⟩

theorem witness_PowerAndTemperature_holdup :
    (let s := { on [] with pwr := { Pwr.reset with step := 4 } }
     s.pwr.step = 4 ∧ s.pwr.measured = false ∧ s.pwr.test = none) ∧
    (let s := { on [(Reg.pwrHoldTest, 0x01010064)] with pwr := { Pwr.reset with test := some (0, 5000), load := true } }
     s.pwr.test = some (0, 5000) ∧ max s.now (10 * ms) ≤ 0 + s.fld Reg.pwrHoldTest 31 24 * 10 * ms ∧
     0 + s.fld Reg.pwrHoldTest 31 24 * 10 * ms < max s.now (10 * ms + 1)) := by decide +kernel

/-- A unit in a state. -/
def unit (n st : Nat) (f : State → State) : State := f (on [(Reg.svcUnit n, st)])

theorem witness_UnitsAndLog_requests :
    (0x142 < 0x400 ∧ (pageOf (0x142 * 0x1000)).bind (fun x => x.unit) = some 121 ∧ 63 < 64 ∧ 35 < 36 ∧ 168 = 133 + 35) ∧
    (∀ n ∈ [63, 121, 168, 170], n < 171 ∧ (unit n 0 id).unitState n = 0 ∧ (unit n 2 id).unitState n = 2 ∧
      (119 ≤ n → n < 131 → (unit n 0 id).issues (n - 119) = true)) := by decide +kernel

/-- The unit of channel 2, which may be evacuated to channel 0. -/
def leaving : State := { on [(Reg.svcUnit 121, 0)] with dimms := roomy }

/-- FENCE in the header of a unit that may leave is accepted. -/
theorem headerCodes_fence {s : State} {p : PageDef} {u : Nat} (hu : p.unit = some u) (h : s.unitState u = 0 ∧ 119 ≤ u ∧ u < 131)
    (fits : s.evacFits (u - 119) = true) : s.headerCodes p 0x20 1 = [] := by
  have a : ¬171 ≤ u := by omega
  have b : u ≠ 169 := by omega
  have c : u ≠ 170 := by omega
  have list : (List.range 3).filter (fun i => bitOf 1 i) = [0] := by decide
  simp [State.headerCodes, State.fenceCodes, State.unitCodes, hu, h.1, fits, a, b, c, list, codeIf]

theorem leaving_fenced : leaving.accepts .host (fenceAddr (.page 0x142)) (fenceWord 0 (.page 0x142)) := by
  obtain ⟨p, hr, hs, hu⟩ : ∃ p, leaving.reached (fenceAddr (.page 0x142) % 0x400000) = some p ∧ leaving.pageState p = 0 ∧ p.unit = some 121 :=
    someOf (by decide +kernel)
  have fits : leaving.evacFits 2 = true := evacFits_roomy (l := List.replicate 11 []) rfl rfl rfl (by decide +kernel)
  exact ⟨p, hr, writeCode_header hs (by decide +kernel) (headerCodes_fence hu (by decide +kernel) fits)⟩

theorem witness_UnitsAndLog_accepted :
    (unit 170 0 id).accepts .host (fenceAddr (.unit 170)) (fenceWord 0 (.unit 170)) ∧
    (unit 63 0 id).accepts .host (fenceAddr (.cluster 63)) (fenceWord 0 (.cluster 63)) ∧
    (unit 168 0 id).accepts .host (fenceAddr (.chain 35)) (fenceWord 0 (.chain 35)) ∧
    leaving.accepts .host (fenceAddr (.page 0x142)) (fenceWord 0 (.page 0x142)) ∧
    (unit 63 2 id).accepts .host (fenceAddr (.cluster 63)) (fenceWord 1 (.cluster 63)) ∧
    (unit 170 2 id).accepts .host (fenceAddr (.unit 170)) (fenceWord 1 (.unit 170)) ∧
    (unit 63 2 id).accepts .host (fenceAddr (.cluster 63)) (fenceWord 2 (.cluster 63)) ∧
    (unit 168 2 id).accepts .host (fenceAddr (.unit 168)) (fenceWord 2 (.unit 168)) ∧
    (unit 168 2 id).accepts .host (fenceAddr (.chain 35)) (fenceWord 1 (.chain 35)) := by
  refine ⟨?_, ?_, ?_, leaving_fenced, ?_, ?_, ?_, ?_, ?_⟩ <;> exact acceptsOf (by decide +kernel)

theorem witness_UnitsAndLog_tests :
    (∀ n ∈ [63, 131, 132], (unit n 1 id).unitState n = 1 ∧ (unit n 1 id).drained n = true ∧ (unit n 1 id).mgt.restarting = false) ∧
    (∀ q ∈ [(170, 0), (118, 1), (133, 1), (119, 2), (130, 3), (132, 3), (63, 4), (118, 2), (133, 3)],
      let s := unit q.1 3 (fun s => { s with svc := { Svc.reset with tests := [q] } })
      s.testOf q.1 = some q.2 ∧ s.unitState q.1 = 3 ∧ (5 ≤ 5 ∧ 5 ≠ 4) ∧ q.2 ≠ 5 ∧ (q.2 = 1 → q.1 < 119 ∨ 133 ≤ q.1) ∧
      s.mgt.restarting = false ∧ q.1 ∉ s.svc.bist ∧ q.1 < 171) := by
  decide +kernel

/-- A staged entry. -/
def entry (severity : Nat) : LogEntry := { time := 0, frame := 0, source := 0x1D00, event := 2, severity := severity, flags := 0, data := [] }

theorem witness_UnitsAndLog_log :
    (let s := stored1 { on [] with log := { Log.reset with staged := [entry 1] } } energy
     s.log.staged ≠ [] ∧ s.storeOk 0 = true ∧ s.log.staged = [entry 1]) ∧
    (let s := { on [] with log := { Log.reset with staged := [entry 1] } }
     s.log.staged ≠ [] ∧ s.storeOk 0 = false ∧ s.mgt.restarting = false ∧ { s with mgt := { s.mgt with restarting := true } }.mgt.restarting = true) ∧
    (let s := { on [] with log := { Log.reset with staged := List.replicate 255 (entry 1) ++ [entry 0] } }
     256 ≤ s.log.staged.length) := by decide +kernel

/-- At reset, with secure boot off. -/
def atReset : State := { State.reset with secu := { Sec.reset with secureBoot := false } }

theorem witness_StartAndShutdown_boot :
    (let s := atReset
     s.pwr.step = 0 ∧ s.mgt.running = false ∧ s.secu.recovery = false ∧ s.pwr.stop = false ∧ s.pwr.shdn = 0 ∧ s.pwr.porst = false ∧
     (s.secu.lifecycle = 0 ∧ (inLife 1 s).secu.lifecycle ≠ 0) ∧ ([true, true, true, false].take 3).all id = true ∧
     ([true, true, false, true].take 3).all id = false ∧ (s.trialStart 0).bootImage 0 = (none, 0xD) ∧
     (((bootable s).trialStart 0).bootImage 0).1.isSome = true) := by decide +kernel

/-- The boot ROM waits in recovery. -/
def recovering (words : List Nat) : State :=
  { on [] with secu := { Sec.reset with secureBoot := false, recovery := true, rcv := words } }

/-- The words of an image and its key certificate, newest first. -/
def imageWords : List Nat := ((List.range 121).map (fun i => leNat (slice (object 7 96 ++ object 1 4) (4 * i) 4))).reverse

theorem witness_StartAndShutdown_recovery :
    (recovering []).accepts .host Reg.secRcvCtrl (putBits 0 0 0 1) ∧ bitOf 0 1 = false ∧
    (recovering imageWords).accepts .host Reg.secRcvCtrl (putBits 2 0 0 1) ∧ bitOf 2 1 = true ∧
    (recovering []).accepts .host Reg.secRcvCtrl (putBits 0 1 1 1) ∧ bitOf 0 0 = false ∧ (recovering []).accepts .host Reg.secRcvData 0xFFFFFFFF ∧
    ((recovering []).verifyImage 0 (wordBytes [])).2.isSome = false ∧
    ((recovering imageWords).verifyImage 0 (wordBytes imageWords.reverse)).2.isSome = true ∧
    (on []).accepts .host Reg.secKatCtrl (putBits 0 0 0 1) ∧ (on [(Reg.secKatCtrl, 1)]).flag Reg.secKatCtrl 0 = true :=
  ⟨acceptsOf (by decide +kernel), by decide, acceptsOf (by decide +kernel), by decide, acceptsOf (by decide +kernel), by decide,
    acceptsOf (by decide +kernel), by decide +kernel, by decide +kernel, acceptsOf (by decide +kernel), by decide +kernel⟩

/-- Marigold runs, in a step of start-up. -/
def starting (p : Pwr) : State := { on [] with mgt := { Mgt.reset with running := true }, pwr := p }

theorem witness_StartAndShutdown_start :
    (∀ n ∈ [2, 4, 5, 6, 7], let s := starting { Pwr.reset with step := n, measured := true }
      s.mgt.running = true ∧ s.mgt.restarting = false ∧ s.pwr.stop = false ∧ s.pwr.shdn = 0 ∧ s.pwr.step = n ∧ s.pwr.low = false ∧ s.pwr.regNext = none ∧
      s.pwr.measured = true ∧ s.pwr.ups = [] ∧ (∀ x ∈ s.svc.tests, x.2 ≠ 2 ∧ x.2 ≠ 3 ∧ x.2 ≠ 5)) ∧
    (let s := { starting { Pwr.reset with step := 4, measured := true } with regs := [(0x190048, 3)] }
     34 ∈ 3 :: startOrder ∧ 34 ∉ s.pwr.dead ∧ s.domOn 34 = false) ∧
    (let s := starting { Pwr.reset with step := 2, low := true }
     s.mgt.running = true ∧ s.mgt.restarting = false ∧ s.pwr.stop = false ∧ s.pwr.shdn = 0 ∧ s.pwr.low = true) ∧
    (starting Pwr.reset).pwr.step < 2 := by decide +kernel

theorem witness_StartAndShutdown_down :
    (∀ n ∈ [1, 2, 3], ∀ p ∈ [0, 3], let s := { on [(Reg.pnlPwrState, p)] with pwr := { Pwr.reset with shdn := n } }
      s.pwr.stop = false ∧ s.mgt.restarting = false ∧ s.pwr.shdn = n ∧ s.panel = p ∧ s.bkl.fade = none ∧ s.svc.bist = [] ∧
      (s.flag Reg.svcCtrl 0 = true → s.svc.tests = [])) := by
  decide +kernel

/-- Regulator 15 alone serves the board, and goes off 10 ms after its turn comes. -/
theorem witness_StartAndShutdown_off :
    let s := { on [(Reg.pwrReg 15, 0x0A000200)] with pwr := { Pwr.reset with shdn := 5, offs := [15] } }
    s.pwr.stop = false ∧ s.mgt.restarting = false ∧ s.regOrder = [15] ∧ s.fld (Reg.pwrReg 15) 31 24 ≠ 0 ∧
    (on [(Reg.pwrReg 15, 0x200)]).regOrder = [15] ∧ (on [(Reg.pwrReg 15, 0x200)]).fld (Reg.pwrReg 15) 31 24 = 0 ∧
    s.pwr.shdn = 5 ∧ s.pwr.offs = 15 :: [] ∧ max s.now (9 * ms) < s.pwr.regAt + s.fld (Reg.pwrReg 15) 31 24 * ms ∧
    s.pwr.regAt + s.fld (Reg.pwrReg 15) 31 24 * ms ≤ max s.now (10 * ms) := by decide +kernel

theorem witness_StartAndShutdown_resets :
    (on []).panel = 0 ∧ (on [(Reg.pnlPwrState, 3)]).panel ≠ 0 ∧
    (let s := { on [] with pwr := { Pwr.reset with above := some 0, shdn := 4 } }
     s.pwr.above = some 0 ∧ s.pwr.shdn = 4) ∧
    (let s := { on [] with pwr := { Pwr.reset with above := some 0, stop := true } }
     s.pwr.above = some 0 ∧ s.pwr.stop = true ∧ s.pwr.hot = false ∧ s.mgt.running = false ∧ s.panel = 0 ∧
     0 + s.fld Reg.pwrSupTime 23 8 * ms ≤ max s.now (100 * sec)) ∧
    (on []).domOn 31 = true := by decide +kernel

/-! ### The spec's own worked figures -/

/-- The check values of the two CRCs over the ASCII digits 1 to 9 (R156, R302). -/
theorem test_crc_check_values :
    crc32c [0x31, 0x32, 0x33, 0x34, 0x35, 0x36, 0x37, 0x38, 0x39] = 0xE3069283 ∧
    crc16 [0x31, 0x32, 0x33, 0x34, 0x35, 0x36, 0x37, 0x38, 0x39] = 0x29B1 := by decide +kernel

/-- The standards' own examples: SM3 of "abc", SM4 of the block that is the key, and e of the SM2 example (R472). -/
theorem test_sm3 : sm3Digest [0x61, 0x62, 0x63] = 0x66c7f0f462eeedd9d1f2d46bdc10e4e24167c4875cf2f7a2297da02b8f4ba8e0 := by decide +kernel
theorem test_sm4 : sm4Block (sm4Keys 0x0123456789abcdeffedcba9876543210) 0x0123456789abcdeffedcba9876543210 =
    0x681edf34d206965e86b3e94f536e4246 := by decide +kernel
theorem test_sm2_points : onCurve (sm2Gx, sm2Gy) = true ∧ pointAdd sm2G (some (sm2Gx, sm2P - sm2Gy)) = none ∧
    onCurve (0x09F9DF311E5421A150DD7D161E4BC5C672179FAD1833FC076BB08FF356F35020,
      0xCCEA490CE26775A52DC6EA718CC1AA600AED05FBF35E084A6632F6072DA9AD13) = true := by decide +kernel

theorem test_sm2_digest : sm2Digest
      (beBytes 64 0x09F9DF311E5421A150DD7D161E4BC5C672179FAD1833FC076BB08FF356F35020CCEA490CE26775A52DC6EA718CC1AA600AED05FBF35E084A6632F6072DA9AD13)
      [0x6D, 0x65, 0x73, 0x73, 0x61, 0x67, 0x65, 0x20, 0x64, 0x69, 0x67, 0x65, 0x73, 0x74] =
    0xF0B43E94BA45ACCAACE692ED534382EB17E6AB5A19CE7B31F4486FDFC0D28640 := by
  unfold sm2Digest
  rw [sm3_eq]
  decide +kernel

/-- The error word of the shadow example of 02: a write to offset 0x48 rejected with code 8. -/
theorem test_page_error_word : pageErrWord 0x48 8 = 0x80480008 := by decide

/-- The position example of 03: 0.48 frames into frame 105,000,000,000, line 2,227, column 6,963. -/
def atExample : State := ras [] { State.reset.ras with line := 2227, lineStart := 0 }
theorem test_raster_position :
    atExample.nextFrameAfter (1750000000008000000 * ns) = 105000000001 ∧ 105000000000 % 2 ^ 32 = 0x727CDA00 ∧
    8000000 * ns * Timing.reset.vtotal / Timing.reset.period = 2227 ∧
    atExample.columnAt (8000000 * ns - 2227 * Timing.reset.period / Timing.reset.vtotal) = 6963 := by decide +kernel

/-- The lens settings of the ray example of 06: reset values, the filter off, both peaks 1,000 cd/m². -/
def raySet : SynSet := { (on []).synSetFor 0 Timing.reset [] 64 36 [0] with vbfEn := false, outPeak := 1000, linearPeak := 1000 }
def rayPlane (a tu tv : Int) (z : Int) : PlaneDesc :=
  PlaneDesc.mk true false 256 144 z a 0 0 a tu tv

/-- Position, grid place, phase and slope of the ray example of 06. The example prints fy 0.329102 (1,348 / 4,096); R172's own
formula, with 5,608.5 / 18,432 × 287 = 87.32853, gives 1,346, and the rule is followed (both nodes it weighs are equal). -/
theorem test_ray_geometry :
    rnd0 (raySet.x 60001 * 10000) 65536 = 2701538 ∧ rnd0 (raySet.y 5608 * 1000) 65536 = -269482 ∧
    raySet.phiNom 60001 5608 * 1000000 / 2 ^ 24 = 609419 ∧
    gridPlace (2 * 60001 + 1) (6 * raySet.timing.hactive) 512 = (311, 3676) ∧
    gridPlace (2 * 5608 + 1) (2 * raySet.lines) 288 = (87, 1346) ∧
    slope 79 128 raySet.tanh 0 1 raySet.vbfWidth false = 5777 := by decide +kernel

/-- The front sample of the ray example: where it falls and how it weighs its four texels. -/
theorem test_ray_front_sample :
    (let uv := (rayPlane 7018581 (8192 * 256) (4608 * 256) (-150 * 256)).uv
        (raySet.x 60001 + rnd0 (-150 * 256 * 5777) 256) (raySet.y 5608)
     corner uv.1 uv.2) = (9911, 2803, 65, 190) ∧
    bilin 65 190 1 0 0 0 = 12606 ∧ bilin 65 190 0 1 0 0 = 4290 ∧ bilin 65 190 0 0 1 0 = 36290 ∧ bilin 65 190 0 0 0 1 = 12350 ∧
    rnd0 (bilin 65 190 (raySet.linear false 180) (raySet.linear false 220) (raySet.linear false 200) (raySet.linear false 240) : Nat)
      65536 = 13133 ∧
    rnd0 (bilin 65 190 300 320 300 340 * 4 : Nat) 1023 = 79142 := by decide +kernel

/-- The texels of the ray example: green codes and alphas about the three sample points. -/
def rayTexels : TexelSource := fun p i j =>
  let t := fun (k a : Nat) => k * 2 ^ 10 + a * 2 ^ 30
  .ok (if p = 0 then
      (if (i, j) = (9911, 2803) then t 180 300 else if (i, j) = (9912, 2803) then t 220 320
       else if (i, j) = (9911, 2804) then t 200 300 else if (i, j) = (9912, 2804) then t 240 340 else 0)
    else if p = 1 then
      (if (i, j) = (5058, 1401) then t 400 512 else if (i, j) = (5059, 1401) then t 420 512
       else if (i, j) = (5058, 1402) then t 380 512 else if (i, j) = (5059, 1402) then t 410 512 else 0)
    else
      (if (i, j) = (2421, 926) then t 700 1023 else if (i, j) = (2422, 926) then t 700 1023
       else if (i, j) = (2421, 927) then t 690 1023 else if (i, j) = (2422, 927) then t 710 1023 else 0))

/-- The ray of 06 through its three planes, from view 79 on: C 46,839 and T 0, so colour 11,710 and coverage 1,023. -/
theorem test_ray_composite :
    (match compositePlanes raySet rayTexels (some (RayDir.mk 79 raySet.tanh 0)) 1 1 (raySet.x 60001) (raySet.y 5608)
        [(0, rayPlane 7018581 (8192 * 256) (4608 * 256) (-150 * 256), -150 * 256),
         (1, rayPlane 3509290 (4096 * 256) (2304 * 256) (200 * 256), 200 * 256),
         (2, rayPlane 877323 (2048 * 256) (1152 * 256) (2000 * 256), 2000 * 256)] Comp.start with
     | .ok c => decide (c = Comp.mk 46839 0 3 false) && (rayOut c false []).color == 11710 && (rayOut c false []).coverage == 1023
     | .error _ => false) = true := by decide +kernel

/-- The blend of the composed frame of 09: video, ray and ticker over a black background. -/
theorem test_blend : blend (blend (blend 0 2000 1023) 6000 600) 4000 512 = 7410 := by decide

/-- The two zones of the example of 12: channel words of levels 19,200 and 4,000 at full fade and 70 °C. -/
theorem test_channel_words :
    (let s := (on [(Reg.bklFadeNow, 65536), (Reg.bklDerateNow, 52429)]).bklLatch 1
     (s.bkl.sets.map (fun p => (s.channelWord p 19200, s.channelWord p 4000))).head? = some (0x0B3353C0, 0x04601200)) := by decide +kernel

end Sys2Proof.Tests
end

/-! SUPPORT. What a write stores, bit by bit: each field of a row by its type (R11), and no field reaching into another. -/

namespace Sys2Proof.Machine

/-! ### Bits of sums and differences -/

/-- Numbers without a common bit add up without a carry. -/
theorem testBit_add_of_disjoint {a b : Nat} (h : ∀ j, (a.testBit j && b.testBit j) = false) (i : Nat) :
    (a + b).testBit i = (a.testBit i || b.testBit i) := by
  have hlt : a + b < 2 ^ (a + b) := Nat.lt_two_pow_self
  have hand : BitVec.ofNat (a + b) a &&& BitVec.ofNat (a + b) b = 0#(a + b) := by
    refine BitVec.eq_of_getLsbD_eq fun j hj => ?_
    rw [BitVec.getLsbD_and, BitVec.getLsbD_ofNat, BitVec.getLsbD_ofNat, decide_eq_true hj, Bool.true_and, Bool.true_and, h j,
      BitVec.getLsbD_zero]
  have hor : a + b = a ||| b := by
    have e := congrArg BitVec.toNat (BitVec.add_eq_or_of_and_eq_zero _ _ hand)
    simpa [Nat.mod_eq_of_lt hlt, Nat.mod_eq_of_lt (show a < 2 ^ (a + b) by omega),
      Nat.mod_eq_of_lt (show b < 2 ^ (a + b) by omega)] using e
  rw [hor, Nat.testBit_or]

/-- Taking the common bits away leaves the bits that the second number does not have. -/
theorem testBit_sub_and (a b i : Nat) : (a - (a &&& b)).testBit i = (a.testBit i && !b.testBit i) := by
  have hsum : Nat.ldiff a b + (a &&& b) = a := by
    refine Nat.eq_of_testBit_eq fun j => ?_
    rw [testBit_add_of_disjoint (fun k => ?_), Nat.testBit_ldiff, Nat.testBit_and]
    · cases a.testBit j <;> cases b.testBit j <;> rfl
    · rw [Nat.testBit_ldiff, Nat.testBit_and]
      cases a.testBit k <;> cases b.testBit k <;> rfl
  have hdiff : a - (a &&& b) = Nat.ldiff a b := Nat.sub_eq_of_eq_add hsum.symm
  rw [hdiff, Nat.testBit_ldiff]

/-- Words that agree on the bits of a field agree on the field. -/
theorem bitsOf_congr {v w hi lo : Nat} (hle : lo ≤ hi) (h : ∀ i, lo ≤ i → i ≤ hi → v.testBit i = w.testBit i) :
    bitsOf v hi lo = bitsOf w hi lo := by
  refine Nat.eq_of_testBit_eq fun i => ?_
  rw [bitsOf_testBit, bitsOf_testBit]
  by_cases hi' : i < hi - lo + 1
  · rw [h (i + lo) (by omega) (by omega)]
  · simp [hi']

/-! ### One field -/

/-- The bit that a write leaves in a field of type `k` (R11); `sticky` says that a trigger reads 1 until its work has ended. -/
def FieldKind.storedBit (k : FieldKind) (sticky old data : Bool) : Bool :=
  match k with
  | .rw | .rws | .prw => data
  | .ro => old
  | .wo => false
  | .w1c => old && !data
  | .w1s => old || (data && sticky)

/-- A field stores its own bits, by its type, and no others. -/
theorem FieldDef.stored_testBit {f : FieldDef} (hf : f.lo ≤ f.hi) (sticky old data i : Nat) :
    (f.stored sticky old data).testBit i =
      (decide (f.lo ≤ i ∧ i ≤ f.hi) && f.kind.storedBit (sticky.testBit i) (old.testBit i) (data.testBit i)) := by
  have hin : f.lo ≤ i → (i - f.lo < f.hi - f.lo + 1 ↔ i ≤ f.hi) := fun _ => by omega
  have field : ∀ w, f.lo ≤ i → (bitsOf w f.hi f.lo).testBit (i - f.lo) = (decide (i ≤ f.hi) && w.testBit i) := fun w h => by
    rw [bitsOf_testBit, Nat.sub_add_cancel h, decide_eq_decide.2 (hin h)]
  unfold FieldDef.stored
  dsimp only
  rw [Nat.testBit_mul_two_pow]
  by_cases hlo : f.lo ≤ i
  · cases f.kind <;> by_cases hhi : i ≤ f.hi <;>
      simp [FieldKind.storedBit, hlo, hhi, field _ hlo, testBit_sub_and]
  · simp [hlo]

/-! ### A row of fields -/

/-- Two fields have no bit in common. -/
abbrev FieldDef.Beside (f g : FieldDef) : Prop := f.hi < g.lo ∨ g.hi < f.lo

/-- The fields of a row lie in the word and beside each other. -/
def RegRow.laid (r : RegRow) : Bool :=
  decide (r.fields.Pairwise FieldDef.Beside ∧ ∀ f ∈ r.fields, f.lo ≤ f.hi ∧ f.hi < 32)

theorem pageDef_rows_laid_all : ∀ c < 30, ∀ i < 16, ((pageDef c i).all (fun p => p.rows.all RegRow.laid)) = true := by
  decide +kernel

theorem pageDef_rows_laid {c i : Nat} {p : PageDef} {r : RegRow} (hi : i < 16) (h : pageDef c i = some p) (hr : r ∈ p.rows) :
    r.laid = true := by
  by_cases hc : c < 30
  · have hall := pageDef_rows_laid_all c hc i hi
    rw [h, Option.all_some, List.all_eq_true] at hall
    exact hall r hr
  · rw [pageDef_high c i (by omega)] at h
    exact absurd h (by simp)

theorem rowFor_mem {rows : List RegRow} {off i : Nat} {r : RegRow} (h : rowFor rows off = some (r, i)) : r ∈ rows := by
  induction rows with
  | nil => simp [rowFor] at h
  | cons q rows ih =>
    simp only [rowFor] at h
    split at h
    · obtain ⟨rfl, -⟩ : q = r ∧ _ := by simpa using h
      exact List.mem_cons_self ..
    · exact List.mem_cons_of_mem _ (ih h)

theorem State.reached_pageOf {s : State} {a : Nat} {p : PageDef} (h : s.reached a = some p) : pageOf a = some p := by
  unfold State.reached at h
  split at h
  · split at h
    · contradiction
    · rw [← Option.some.inj h]; assumption
  · contradiction

/-- Every row of a page that an access reaches is laid out so. -/
theorem State.reached_row_laid {s : State} {a off i : Nat} {p : PageDef} {r : RegRow} (h : s.reached a = some p)
    (hr : rowFor p.rows off = some (r, i)) : r.laid = true := by
  have hp := State.reached_pageOf h
  unfold pageOf at hp
  split at hp
  · exact pageDef_rows_laid (by omega) hp (rowFor_mem hr)
  · contradiction

/-- Fields that lie beside each other store their bits side by side. -/
theorem stored_sum_testBit {fs : List FieldDef} (hbeside : fs.Pairwise FieldDef.Beside)
    (hle : ∀ f ∈ fs, f.lo ≤ f.hi) (sticky old data i : Nat) :
    (fs.map (fun f : FieldDef => f.stored sticky old data)).sum.testBit i =
      fs.any (fun f : FieldDef => (f.stored sticky old data).testBit i) := by
  induction fs generalizing i with
  | nil => simp
  | cons f fs ih =>
    obtain ⟨hf, hfs⟩ := List.pairwise_cons.1 hbeside
    have ih := ih hfs (fun g hg => hle g (List.mem_cons_of_mem _ hg))
    rw [List.map_cons, List.sum_cons, List.any_cons, testBit_add_of_disjoint (fun j => ?_), ih]
    rw [ih, Bool.and_eq_false_imp]
    intro hj
    rw [FieldDef.stored_testBit (hle f (List.mem_cons_self ..)), Bool.and_eq_true, decide_eq_true_eq] at hj
    refine List.any_eq_false.2 fun g hg => ?_
    have hne : ¬ (g.lo ≤ j ∧ j ≤ g.hi) := by have := hf g hg; omega
    simp [FieldDef.stored_testBit (hle g (List.mem_cons_of_mem _ hg)), hne]

/-- In the word that a write stores, each field of the row holds its bits by its type. -/
theorem RegRow.stored_testBit {r : RegRow} (hr : r.laid = true) {f : FieldDef} (hf : f ∈ r.fields) (sticky old data : Nat) {i : Nat}
    (hlo : f.lo ≤ i) (hhi : i ≤ f.hi) :
    (r.stored sticky old data).testBit i = f.kind.storedBit (sticky.testBit i) (old.testBit i) (data.testBit i) := by
  obtain ⟨hbeside, hbits⟩ := of_decide_eq_true hr
  have hle : ∀ g ∈ r.fields, g.lo ≤ g.hi := fun g hg => (hbits g hg).1
  have hown : (f.stored sticky old data).testBit i = f.kind.storedBit (sticky.testBit i) (old.testBit i) (data.testBit i) := by
    simp [FieldDef.stored_testBit (hle f hf), hlo, hhi]
  have hsymm : Std.Symm FieldDef.Beside := ⟨fun _ _ => Or.symm⟩
  have honly : ∀ g ∈ r.fields, (g.stored sticky old data).testBit i = true → g = f := fun g hg hbit => by
    by_contra hne
    have hcover : g.lo ≤ i ∧ i ≤ g.hi := by
      rw [FieldDef.stored_testBit (hle g hg), Bool.and_eq_true, decide_eq_true_eq] at hbit
      exact hbit.1
    have := hbeside.forall hg hf hne
    omega
  rw [← hown, RegRow.stored, stored_sum_testBit hbeside hle, Bool.eq_iff_iff, List.any_eq_true]
  exact ⟨fun ⟨g, hg, hbit⟩ => honly g hg hbit ▸ hbit, fun hbit => ⟨f, hf, hbit⟩⟩

end Sys2Proof.Machine

/-! SUPPORT. An accepted write to a word behind the header, on pages where such a write starts nothing. -/

namespace Sys2Proof.Machine

/-- A 32-bit write is one write of the word (R38). -/
theorem exec_registerWrite_word (s : State) (who : Requester) (addr : Nat) (data : BitVec 64) :
    exec (.registerWrite who addr 4 data) s = .next (settle (s.writeWord who addr 4 (data.toNat % 2 ^ 32))) := by
  have h : ¬ (who = .host ∧ 4 = 8) := by simp
  show finish (s.writeAccess who addr 4 data) = _
  rw [State.writeAccess, if_neg h, finish]

/-- A 64-bit write of the host is two writes, with the vectors settled after each (R38, R75). -/
theorem exec_registerWrite_double (s : State) (addr : Nat) (data : BitVec 64) :
    exec (.registerWrite .host addr 8 data) s =
      .next (settle ((settle (s.writeWord .host addr 4 (data.toNat % 2 ^ 32))).writeWord .host (addr + 4) 4 (data.toNat / 2 ^ 32))) := by
  show finish (s.writeAccess .host addr 8 data) = _
  rw [State.writeAccess, if_pos ⟨rfl, rfl⟩, finish]

/-- A write behind the header is none that Marigold's interrupt controller sees (R76). -/
theorem State.marigoldSees_behind_header {s : State} {who : Requester} {addr data : Nat} {p : PageDef}
    (h : 0x40 ≤ addr % 0x400000 % 0x1000) : s.marigoldSees who addr p data = s := by
  rw [State.marigoldSees, if_neg (by omega)]

/-- An accepted write behind the header stores its word and starts what the block gives it. -/
theorem State.acceptWord_row {s : State} {p : PageDef} {a data i : Nat} {r : RegRow} (hoff : 0x40 ≤ a % 0x1000)
    (hrow : rowFor p.rows (a % 0x1000) = some (r, i)) :
    s.acceptWord p a data = ((s.storeWord a r data).blockEffect p (a % 0x1000) (s.rd a) data).certCheck s := by
  unfold State.acceptWord
  dsimp only
  rw [if_neg (by omega), hrow]

/-- A word without a shadowed field is stored itself. -/
theorem State.storeWord_plain {s : State} {a data : Nat} {r : RegRow} (hplain : ∀ f ∈ r.fields, f.kind ≠ .rws) :
    s.storeWord a r data = s.wr a (r.stored (stickyMask a) (s.rd a) data) := by
  have h : r.fields.any (fun f => f.kind == .rws) = false := by simpa using hplain
  simp [State.storeWord, h]

/-- A write to a page of the flat layers, of network time or of calibration starts nothing. -/
theorem State.blockEffect_none {s : State} {p : PageDef} {off old data : Nat} (h : p.code = 0x09 ∨ p.code = 0x13 ∨ p.code = 0x1B) :
    s.blockEffect p off old data = s := by
  unfold State.blockEffect
  rcases h with h | h | h <;> simp [h]

/-- So an accepted write to a plain word there puts the word in force and does nothing else. -/
theorem State.writeWord_plain {s : State} {who : Requester} {addr data i : Nat} {p : PageDef} {r : RegRow}
    (hp : s.reached (addr % 0x400000) = some p) (hacc : s.writeCode who (isPriv who addr) p (addr % 0x400000) 4 data = 0)
    (hcode : p.code = 0x09 ∨ p.code = 0x13 ∨ p.code = 0x1B) (hoff : 0x40 ≤ addr % 0x400000 % 0x1000)
    (hrow : rowFor p.rows (addr % 0x400000 % 0x1000) = some (r, i)) (hplain : ∀ f ∈ r.fields, f.kind ≠ .rws) :
    s.writeWord who addr 4 data =
      s.wr (addr % 0x400000) (r.stored (stickyMask (addr % 0x400000)) (s.rd (addr % 0x400000)) data) := by
  rw [State.writeWord_accepted hp hacc, State.marigoldSees_behind_header hoff, State.acceptWord_row hoff hrow,
    State.blockEffect_none hcode, State.storeWord_plain hplain]
  exact State.certCheck_same _ _ rfl

/-- Putting a word in force and settling the vectors leaves every part of the state alone. -/
theorem State.wr_settle_parts (s : State) (a v : Nat) (q : Part) : q.same s (settle (s.wr a v)) :=
  (Kept.step settle_kept rfl State.wr_kept).part q (Nat.zero_testBit _)

/-- A bit of a field after its word was written: by the field's type, from the old word and the data (R11). -/
theorem State.rd_wr_stored_testBit {s : State} {a i sticky data : Nat} {r : RegRow} {f : FieldDef} (hr : r.laid = true) (hf : f ∈ r.fields)
    (hlo : f.lo ≤ i) (hhi : i ≤ f.hi) :
    ((s.wr a (r.stored sticky (s.rd a) data)).rd a).testBit i =
      f.kind.storedBit (sticky.testBit i) ((s.rd a).testBit i) (data.testBit i) := by
  have h32 : i < 32 := by
    have := (of_decide_eq_true hr).2 f hf
    omega
  rw [State.rd_wr_same, Nat.testBit_mod_two_pow, decide_eq_true h32, Bool.true_and, RegRow.stored_testBit hr hf _ _ _ hlo hhi]

/-- What each field of a row reads as after its word was written, by its type. -/
theorem State.fld_wr_stored {s : State} {a sticky data : Nat} {r : RegRow} {f : FieldDef} (hr : r.laid = true) (hf : f ∈ r.fields)
    {u : State} (hu : u.rd a = (s.wr a (r.stored sticky (s.rd a) data)).rd a) :
    (f.kind = .rw ∨ f.kind = .prw → u.fld a f.hi f.lo = bitsOf data f.hi f.lo) ∧
    (f.kind = .ro → u.fld a f.hi f.lo = s.fld a f.hi f.lo) ∧
    (f.kind = .wo → u.fld a f.hi f.lo = 0) ∧
    (f.kind = .w1c → ∀ k, f.lo ≤ k → k ≤ f.hi → u.flag a k = (s.flag a k && !bitOf data k)) := by
  have hle : f.lo ≤ f.hi := ((of_decide_eq_true hr).2 f hf).1
  have hbit : ∀ i, f.lo ≤ i → i ≤ f.hi →
      (u.rd a).testBit i = f.kind.storedBit (sticky.testBit i) ((s.rd a).testBit i) (data.testBit i) := fun i hlo hhi => by
    rw [hu, State.rd_wr_stored_testBit hr hf hlo hhi]
  refine ⟨fun hk => ?_, fun hk => ?_, fun hk => ?_, fun hk k hlo hhi => ?_⟩
  · refine bitsOf_congr hle fun i hlo hhi => ?_
    rcases hk with hk | hk <;> rw [hbit i hlo hhi, hk] <;> rfl
  · refine bitsOf_congr hle fun i hlo hhi => ?_
    rw [hbit i hlo hhi, hk]; rfl
  · have hzero : bitsOf 0 f.hi f.lo = 0 := by simp [bitsOf]
    rw [State.fld, ← hzero]
    refine bitsOf_congr hle fun i hlo hhi => ?_
    rw [hbit i hlo hhi, hk, Nat.zero_testBit]; rfl
  · rw [State.flag, State.flag, bitOf_testBit, bitOf_testBit, bitOf_testBit, hbit k hlo hhi, hk]; rfl

/-- Settles O10: the write is one `wr` of the word that its row stores, and the fields of a row lie beside each other. -/
theorem plainWordsStored : Obligations.PlainWordsStored := by
  unfold Obligations.PlainWordsStored
  refine ⟨fun s who addr data p r i => ?_, exec_registerWrite_double⟩
  intro a d hp hacc hcode hoff hrow hplain
  have hw : s.writeWord who addr 4 d = s.wr a (r.stored (stickyMask a) (s.rd a) d) :=
    State.writeWord_plain hp hacc hcode hoff hrow hplain
  refine ⟨settle (s.wr a (r.stored (stickyMask a) (s.rd a) d)), ?_, State.wr_settle_parts s a _, ?_, fun f hf => ?_⟩
  · exact (exec_registerWrite_word s who addr data).trans (congrArg (fun t => Host.Outcome.next (settle t)) hw)
  · exact State.wordsBut_settle (State.wordsBut_wr (State.wordsBut_refl s [a]) (List.mem_singleton_self a))
  · exact State.fld_wr_stored (State.reached_row_laid hp hrow) hf (settle_rd _ a)

end Sys2Proof.Machine

/-! SUPPORT. What the block reads as right after reset (R12, R446, R493). -/

namespace Sys2Proof.Machine

/-- Right after reset a word in force is its reset value (R12). -/
theorem State.reset_rd (a : Nat) : State.reset.rd a = (resetWord a).toNat := rfl

theorem State.reset_domStat0 : State.reset.rd Reg.pwrDomStat0 = 3 := by
  rw [State.reset_rd]; decide +kernel

theorem State.reset_domStat1 : State.reset.rd Reg.pwrDomStat1 = 0 := by
  rw [State.reset_rd]; decide +kernel

/-- The always-on domains 0 and 1 alone are on after reset (R446). -/
theorem State.reset_domOn (d : Nat) : State.reset.domOn d = true ↔ d < 2 := by
  unfold State.domOn State.flag
  rw [State.reset_domStat0, State.reset_domStat1, bitOf_testBit, bitOf_testBit, Nat.zero_testBit]
  have hbits : Nat.testBit 3 d = decide (d < 2) := Nat.testBit_two_pow_sub_one 2 d
  rw [hbits]
  by_cases hd : d < 32
  · simp [hd]
  · simp [hd]; omega

/-- The service units that can be fenced all lie in switched domains (R492). -/
theorem unitDomain_switched {n : Nat} (h : n < 171) : 2 ≤ unitDomain n := by
  unfold unitDomain
  repeat' split
  all_goals omega

/-- So each of them is OFF after reset (R493). -/
theorem State.reset_unitState {n : Nat} (h : n < 171) : State.reset.unitState n = 5 := by
  have hoff : ¬ State.reset.domOn (unitDomain n) = true := by
    rw [State.reset_domOn]
    exact Nat.not_lt.2 (unitDomain_switched h)
  rw [State.unitState, if_neg hoff]

/-- Settles O60: the domains and the units by the reset value of the domain words, the other words by their tables. -/
theorem resetValues : Obligations.ResetValues := by
  unfold Obligations.ResetValues
  refine ⟨rfl, fun d _ => State.reset_domOn d, fun _ => State.reset_unitState, rfl, rfl, rfl, rfl, rfl, rfl, ?_⟩
  simp only [State.reset_rd]
  decide +kernel

end Sys2Proof.Machine

/-! SUPPORT. Which words in force an operation leaves as they were. -/

namespace Sys2Proof.Machine

/-- The words in force at the addresses of `K` are the same. -/
def WordsKept (K : Nat → Prop) (s u : State) : Prop := ∀ x, K x → u.rd x = s.rd x

section
variable {K G : Nat → Prop} {s t u : State} {α : Type}

theorem WordsKept.refl (K : Nat → Prop) (s : State) : WordsKept K s s := fun _ _ => rfl

/-- A further step that keeps the words of `G`, those of `K` among them. -/
theorem WordsKept.step (k : WordsKept G t u) (sub : ∀ x, K x → G x) (h : WordsKept K s t) : WordsKept K s u :=
  fun x hx => (k x (sub x hx)).trans (h x hx)

theorem WordsKept.trans (h : WordsKept K s t) (k : WordsKept K t u) : WordsKept K s u := k.step (fun _ hx => hx) h

/-- A step that leaves the registers alone. -/
theorem WordsKept.regs (h : WordsKept K s t) (e : u.regs = t.regs) : WordsKept K s u :=
  fun x hx => (show u.rd x = t.rd x by rw [State.rd, State.rd, e]).trans (h x hx)

theorem WordsKept.emit {o : Out} (h : WordsKept K s t) : WordsKept K s (t.emit o) := h

theorem WordsKept.wr {a v : Nat} (h : WordsKept K s t) (ha : ¬ K a) : WordsKept K s (t.wr a v) :=
  fun x hx => (t.rd_wr_ne v (fun e : x = a => ha (e ▸ hx))).trans (h x hx)

theorem WordsKept.setFld {a hi lo v : Nat} (h : WordsKept K s t) (ha : ¬ K a) : WordsKept K s (t.setFld a hi lo v) := h.wr ha

theorem WordsKept.setFlag {a i : Nat} {b : Bool} (h : WordsKept K s t) (ha : ¬ K a) : WordsKept K s (t.setFlag a i b) := h.wr ha

theorem WordsKept.add {a n : Nat} (h : WordsKept K s t) (ha : ¬ K a) : WordsKept K s (t.add a n) := h.wr ha

theorem WordsKept.addSat {a hi lo n : Nat} (h : WordsKept K s t) (ha : ¬ K a) : WordsKept K s (t.addSat a hi lo n) := h.wr ha

theorem WordsKept.raise {b i : Nat} (h : WordsKept K s t) (hb : ¬ K (b + 0x10)) : WordsKept K s (t.raise b i) := h.wr hb

theorem WordsKept.ite {c : Prop} [Decidable c] (ht : WordsKept K s t) (hu : WordsKept K s u) : WordsKept K s (if c then t else u) := by
  split <;> assumption

theorem WordsKept.iteOf {c : Prop} [Decidable c] (ht : c → WordsKept K s t) (hu : ¬ c → WordsKept K s u) :
    WordsKept K s (if c then t else u) := by
  split
  · exact ht ‹_›
  · exact hu ‹_›

theorem WordsKept.foldl {g : State → α → State} {l : List α} (h : WordsKept K s t)
    (k : ∀ r, ∀ a ∈ l, WordsKept K s r → WordsKept K s (g r a)) : WordsKept K s (l.foldl g t) := by
  induction l generalizing t with
  | nil => exact h
  | cons a l ih => exact ih (k t a (List.mem_cons_self ..) h) (fun r b hb => k r b (List.mem_cons_of_mem _ hb))

theorem WordsKept.fld {x : Nat} (h : WordsKept K s t) (hx : K x) (hi lo : Nat) : t.fld x hi lo = s.fld x hi lo := by
  rw [State.fld, State.fld, h x hx]

theorem WordsKept.flag {x : Nat} (h : WordsKept K s t) (hx : K x) (i : Nat) : t.flag x i = s.flag x i := by
  rw [State.flag, State.flag, h x hx]

/-- A step that can change the words of `l` alone keeps every other word. -/
theorem WordsKept.wordsBut {l : List Nat} (h : s.wordsBut u l) (out : ∀ x ∈ l, ¬ K x) : WordsKept K s u :=
  fun x hx => h x (fun hl => out x hl hx)

end

/-- Dropping other keys leaves a key alone. -/
theorem Sparse.get_drop_ne {α : Type} {d : Nat → α} {p : Nat → Bool} {k : Nat} (hk : p k = false) (m : Sparse α) :
    Sparse.get d (Sparse.drop p m) k = Sparse.get d m k := by
  unfold Sparse.drop
  induction m with
  | nil => rfl
  | cons e m ih =>
    by_cases he : p e.1 = true
    · have hne : k ≠ e.1 := fun h => by rw [h, he] at hk; exact Bool.noConfusion hk
      simp [he, Sparse.get, hne, ih]
    · simp [he, Sparse.get, ih]

theorem State.resetPage_words {K : Nat → Prop} {s t : State} {b : Nat} (h : WordsKept K s t) (out : ∀ x, K x → inPage b x = false) :
    WordsKept K s (t.resetPage b) := fun x hx => by
  have hkey : Sparse.get resetWord (t.resetPage b).regs x = Sparse.get resetWord t.regs x :=
    Sparse.get_drop_ne (p := fun a => inPage (b + 0x40) a && inPage b a) (by rw [out x hx, Bool.and_false]) t.regs
  rw [← h x hx, State.rd, hkey, State.rd]

theorem State.resetBytes_words {K : Nat → Prop} {s t : State} {b n : Nat} (h : WordsKept K s t) (out : ∀ x, K x → ¬ (b ≤ x ∧ x < b + n)) :
    WordsKept K s (t.resetBytes b n) := fun x hx => by
  have hkey : Sparse.get resetWord (t.resetBytes b n).regs x = Sparse.get resetWord t.regs x :=
    Sparse.get_drop_ne (p := fun a => decide (b ≤ a ∧ a < b + n)) (decide_eq_false (out x hx)) t.regs
  rw [← h x hx, State.rd, hkey, State.rd]

end Sys2Proof.Machine

/-! SUPPORT. Operations of the other blocks leave the words of the PWR and THM pages alone (R37). -/

namespace Sys2Proof.Machine

/-- An address in the pages PWR and THM (R37, R468, R469). -/
abbrev powerWord (x : Nat) : Prop := 0x190000 ≤ x ∧ x < 0x1B0000

/-! ### The log and rejected commits -/

theorem State.stage_words {s : State} {e : LogEntry} : WordsKept powerWord s (s.stage e) := by
  unfold State.stage
  exact .ite (.regs (.refl _ _) rfl) (.raise (.addSat (.regs (.refl _ _) rfl) (by decide)) (by decide))

theorem State.logIt_words {s : State} {source event severity : Nat} {data : List Byte} :
    WordsKept powerWord s (s.logIt source event severity data) := State.stage_words

theorem State.hkLog_words {s : State} {source event severity : Nat} : WordsKept powerWord s (s.hkLog source event severity) := by
  unfold State.hkLog
  exact .ite State.logIt_words (.regs (.refl _ _) rfl)

theorem errWords_outside {h : Nat} (hh : h < 64) : ∀ x ∈ errWords h, ¬ powerWord x := by
  intro x hx
  simp only [errWords, Reg.devErrHead, Reg.devErrLost, Reg.devErrTotal, Reg.devErrW0, Reg.devErrW1, Reg.devErrW2, Reg.devErrW3,
    List.mem_cons, List.not_mem_nil, or_false] at hx
  unfold powerWord
  omega

theorem State.rejectCommit_words {s : State} {base off code : Nat} (hb : ¬ powerWord (base + 0xC)) :
    WordsKept powerWord s (s.rejectCommit base off code) := by
  have hpage : WordsKept powerWord s (s.pageErr base off code) :=
    .wordsBut (State.pageErr_words s base off code) (fun x hx => List.mem_singleton.1 hx ▸ hb)
  exact hpage.trans (.wordsBut (State.errEntry_words _ _ _ _ _) (errWords_outside (Nat.mod_lt _ (by decide))))

/-! ### The panel (R320, R323, R324) -/

theorem State.hostRecord_words {s : State} : WordsKept powerWord s s.hostRecord := by
  unfold State.hostRecord
  exact .ite (.refl _ _) (.regs (.refl _ _) rfl)

theorem State.bklHold_words {s : State} {h : Bool} : WordsKept powerWord s (s.bklHold h) := by
  unfold State.bklHold
  exact .ite (.refl _ _) (.foldl (.regs (.refl _ _) rfl) (fun _ _ _ hr => .ite hr (.emit hr)))

theorem State.discharge_words {s : State} : WordsKept powerWord s s.discharge := by
  unfold State.discharge State.setPanel
  extract_lets +onlyGivenNames -merge s1 src1 src2 s2
  have h1 : WordsKept powerWord s s1 := .ite State.hostRecord_words (.refl _ _)
  have h2 : WordsKept powerWord s s2 := .regs h1 rfl
  exact .ite (.refl _ _) (.raise (.trans (.emit (.setFld h2 (by decide))) State.bklHold_words) (by decide))

theorem State.railSwitch_regs {s : State} {n : Nat} {on : Bool} : (s.railSwitch n on).regs = s.regs := by
  unfold State.railSwitch
  dsimp only
  split <;> rfl

theorem State.crackPolicy_words {s : State} {j : Nat} : WordsKept powerWord s (s.crackPolicy j) := by
  unfold State.crackPolicy
  exact .ite State.discharge_words
    (.ite (.ite (.regs (.refl _ _) rfl) (.regs (.regs (.refl _ _) rfl) State.railSwitch_regs)) (.refl _ _))

theorem State.crackRound_words {s : State} {j v : Nat} (hj : j < 4) : WordsKept powerWord s (s.crackRound j v) := by
  unfold State.crackRound
  extract_lets +onlyGivenNames -merge v c known base high c1 hit c2 src s1 s2
  have hohm : WordsKept powerWord s s2 := .wr (.regs (.refl _ _) rfl) (by unfold powerWord Reg.pnlCrackOhm; omega)
  exact .ite (.trans (.trans (.raise (.setFlag hohm (by decide)) (by decide)) State.logIt_words) State.crackPolicy_words) hohm

/-! ### Lanes (R429-R441) -/

theorem State.scanDrop_words {s : State} {n : Nat} (hn : n < 84) : WordsKept powerWord s (s.scanDrop n) := by
  have hout : ¬ powerWord (Reg.lnkLStatus n) := by unfold powerWord Reg.lnkLStatus; omega
  exact .ite (.setFlag (.setFlag (.refl _ _) hout) hout) (.refl _ _)

theorem State.prbsWords_words {s : State} {n e b : Nat} (hn : n < 84) :
    WordsKept powerWord s ((s.wr (Reg.lnkLPrbsErr n) e).wr (Reg.lnkLPrbsBits n) b) :=
  .wr (.wr (.refl _ _) (by unfold powerWord Reg.lnkLPrbsErr; omega)) (by unfold powerWord Reg.lnkLPrbsBits; omega)

theorem State.prbsStop_words {s : State} {n : Nat} (hn : n < 84) : WordsKept powerWord s (s.prbsStop n) := by
  unfold State.prbsStop
  split
  · exact .regs (State.prbsWords_words hn) rfl
  · exact .refl _ _

theorem State.prbsStart_words {s : State} {n : Nat} (hn : n < 84) : WordsKept powerWord s (s.prbsStart n) :=
  .regs (State.prbsWords_words hn) rfl

theorem State.prbsFollow_words {s : State} {n : Nat} (hn : n < 84) : WordsKept powerWord s (s.prbsFollow n) :=
  .ite (State.prbsStop_words hn) (.ite (State.prbsStart_words hn) (.refl _ _))

theorem lnkReady_outside {n : Nat} (hn : n < 84) : ¬ powerWord (Reg.lnkReady (n / 32)) := by
  unfold powerWord Reg.lnkReady; omega

theorem State.setLaneState_words {s : State} {n v : Nat} (hn : n < 84) : WordsKept powerWord s (s.setLaneState n v) :=
  .trans (.setFlag (.setFld (.refl _ _) (by unfold powerWord Reg.lnkLStatus; omega)) (lnkReady_outside hn)) (State.prbsFollow_words hn)

theorem State.laneClear_words {s : State} {n : Nat} (hn : n < 84) : WordsKept powerWord s (s.laneClear n) :=
  .regs (.setFlag (State.resetBytes_words (.refl _ _) (by unfold powerWord Reg.lnkLCtrl; omega)) (lnkReady_outside hn)) rfl

theorem State.lanesClear_words {s : State} {d : Nat} : WordsKept powerWord s (s.lanesClear d) :=
  .foldl (.refl _ _) (fun _ _ hn hr => hr.trans (State.laneClear_words (List.mem_range.1 (List.mem_filter.1 hn).1)))

theorem State.laneSweep_words {s : State} : WordsKept powerWord s s.laneSweep :=
  .foldl (.refl _ _) (fun _ n hmem hr => by
    have hn : n < 84 := List.mem_range.1 hmem
    exact .ite (.setFlag (.trans (hr.trans (State.scanDrop_words hn)) (State.setLaneState_words hn))
      (by unfold powerWord Reg.lnkLStatus; omega)) hr)

theorem State.laneRound_words {s : State} {n : Nat} {t : Int} (hn : n < 84) : WordsKept powerWord s (s.laneRound n t) := by
  have hout : ¬ powerWord (Reg.lnkLStatus n) := by unfold powerWord Reg.lnkLStatus; omega
  unfold State.laneRound
  split <;> exact .setFlag (.regs (.refl _ _) rfl) hout

theorem State.adaptRound_words {s : State} {n : Nat} (hn : n < 84) : WordsKept powerWord s (s.adaptRound n) :=
  .ite (.wr (.wr (.regs (.refl _ _) rfl) (by unfold powerWord Reg.lnkLRxeq0Now; omega)) (by unfold powerWord Reg.lnkLRxeq1Now; omega))
    (.refl _ _)

/-! ### Fail-over (R369-R373) -/

theorem State.fovArm_words {s : State} : WordsKept powerWord s s.fovArm :=
  .ite (.refl _ _) (.raise (.regs (.refl _ _) rfl) (by decide))

theorem State.standbyOut_words {s : State} : WordsKept powerWord s s.standbyOut := by
  unfold State.standbyOut
  exact .trans (.regs (.refl _ _) rfl) State.fovArm_words

theorem State.fovDigest_words {s : State} : WordsKept powerWord s s.fovDigest := by
  unfold State.fovDigest
  extract_lets +onlyGivenNames -merge src s1
  have h1 : WordsKept powerWord s s1 := .regs (.refl _ _) rfl
  exact .trans (.ite (.raise h1 (by decide)) h1) State.fovArm_words

theorem State.mirrorFail_words {s : State} : WordsKept powerWord s s.mirrorFail := by
  unfold State.mirrorFail
  extract_lets +onlyGivenNames -merge src s1 r
  have h1 : WordsKept powerWord s s1 := .regs (.refl _ _) rfl
  have h2 : WordsKept powerWord s { s1 with fov := { s1.fov with standby := 4 } } := .regs h1 rfl
  exact .ite (.trans (.trans (.raise (.add h2 (by decide)) (by decide)) State.logIt_words) State.fovArm_words) h1

/-! ### Memory and the content store (R403, R416-R427) -/

theorem State.refreshNow_words {s : State} {c k : Nat} {pre : Bool} (hc : c < 12) : WordsKept powerWord s (s.refreshNow c k pre) := by
  unfold State.refreshNow
  extract_lets +onlyGivenNames -merge s1 s2 x d
  have hcount : WordsKept powerWord s s2 :=
    .ite (.add (.add (.refl _ _) (by unfold powerWord Reg.dmcChStat; omega)) (by unfold powerWord Reg.dmcChStat; omega))
      (.add (.refl _ _) (by unfold powerWord Reg.dmcChStat; omega))
  exact .ite (.refl _ _) (.ite (.regs hcount rfl) (.regs hcount rfl))

theorem State.dimmTemps_words {s : State} {c : Nat} {temps : List Int} (hc : c < 12) : WordsKept powerWord s (s.dimmTemps c temps) := by
  have hstatus : ¬ powerWord (Reg.dmcChStatus c) := by unfold powerWord Reg.dmcChStatus; omega
  unfold State.dimmTemps
  extract_lets +onlyGivenNames -merge temps hot hyst s1 n s2
  have htemp : WordsKept powerWord s s1 := .wr (.refl _ _) (by unfold powerWord Reg.dmcChTemp; omega)
  have hhot : WordsKept powerWord s s2 := .raise (.setFlag htemp hstatus) (by unfold powerWord dmcBase; omega)
  exact .ite (.ite (.trans (.setFld hhot hstatus) (State.refreshNow_words hc))
    (.ite (.setFld (.setFlag htemp hstatus) hstatus) htemp)) (.refl _ _)

theorem State.metaWrite_words {s : State} {d : Nat} {nums : List Nat} (hd : d < 2) : WordsKept powerWord s (s.metaWrite d nums) :=
  .add (.regs (.refl _ _) rfl) (by unfold powerWord Reg.nvsDStat; omega)

theorem State.segwDone_words {s : State} : WordsKept powerWord s s.segwDone := by
  unfold State.segwDone
  extract_lets +onlyGivenNames -merge ended
  have hended : ∀ {t : State} {code : Nat}, WordsKept powerWord s t → WordsKept powerWord s (ended t code) :=
    fun h => .raise (.wr (.regs h rfl) (by decide)) (by decide)
  split
  · exact .refl _ _
  · exact hended (.refl _ _)
  · extract_lets +onlyGivenNames -merge s1 on src g s2 s3
    have hmeta : WordsKept powerWord s s1 := .regs (.refl _ _) rfl
    have hseg : WordsKept powerWord s s2 := .regs hmeta rfl
    have hwrite : WordsKept powerWord s s3 :=
      .foldl hseg (fun _ _ hd hr => hr.trans (State.metaWrite_words (List.mem_range.1 (List.mem_filter.1 hd).1)))
    exact .ite (.refl _ _) (.ite (hended hmeta) (hended (.wr hwrite (by decide))))

theorem State.metaEnd_regs (s : State) : s.metaEnd.regs = s.regs := rfl

theorem State.withPlc_regs (s : State) (x : Plc) : { s with plc := x }.regs = s.regs := rfl

theorem State.segopDone_words {s : State} : WordsKept powerWord s s.segopDone := by
  unfold State.segopDone
  split
  · exact .refl _ _
  · refine .ite (.refl _ _) ?_
    extract_lets +onlyGivenNames -merge src s1 s2 on s3
    have hend : WordsKept powerWord s s1 := .raise (.setFlag (.regs (.refl _ _) rfl) (by decide)) (by decide)
    have hmeta : WordsKept powerWord s s2 := .regs hend s1.metaEnd_regs
    have hwrite : WordsKept powerWord s s3 :=
      .foldl hmeta (fun _ _ hd hr => .emit (hr.trans (State.metaWrite_words (List.mem_range.1 (List.mem_filter.1 hd).1))))
    refine .ite ?_ (.ite (hend.trans (State.rejectCommit_words (by decide))) (.regs hwrite (s3.withPlc_regs _)))
    split
    · exact hend
    · exact .wr (.wr (.wr (.wr hend (by decide)) (by decide)) (by decide)) (by decide)

theorem State.storesEnd_words {s : State} : WordsKept powerWord s s.storesEnd := State.segwDone_words.trans State.segopDone_words

theorem State.healthRound_words {s : State} {l : List Nat} : WordsKept powerWord s (s.healthRound l) := by
  refine .foldl (.refl _ _) (fun r d hmem hr => ?_)
  have hd : d < 2 := List.mem_range.1 hmem
  split
  · have hword : ∀ {v : Nat}, WordsKept powerWord s ((r.nvme d 0 (.getLog 2)).wr (Reg.nvsDHealth d) v) :=
      .wr (.regs hr rfl) (by unfold powerWord Reg.nvsDHealth; omega)
    exact .ite (.ite hword (.raise hword (by unfold powerWord nvsDBase; omega))) hr
  · exact hr

/-! ### Device time and derating (R345, R394, R395) -/

theorem State.setRate_words {s : State} {step : Int} {rate : Rat} : WordsKept powerWord s (s.setRate step rate) :=
  .wr (.regs (.refl _ _) rfl) (by decide)

theorem State.derateRound_words {s : State} {t : Option Int} : WordsKept powerWord s (s.derateRound t) := by
  unfold State.derateRound
  extract_lets +onlyGivenNames -merge target b0 b n step new old s1 s2 s3
  have h1 : WordsKept powerWord s s1 := .setFld (.regs (.refl _ _) rfl) (by decide)
  have h2 : WordsKept powerWord s s2 := by
    unfold s2
    split
    · exact .setFld h1 (by decide)
    · exact h1
  have h3 : WordsKept powerWord s s3 := .setFlag h2 (by decide)
  exact .ite (.raise h3 (by decide)) h3

/-- The crystal bin of a temperature that the table covers. -/
theorem xoBin_outside {v : Int} (h : ¬ (v < 16 * -20 ∨ 16 * 108 ≤ v)) : ¬ powerWord (Reg.timXoBin ((v + 16 * 20) / 64).toNat) := by
  unfold powerWord Reg.timXoBin; omega

theorem State.timRound_words {s : State} {t : Option Int} : WordsKept powerWord s (s.timRound t) := by
  unfold State.timRound
  extract_lets +onlyGivenNames -merge t
  clear_value t
  extract_lets +onlyGivenNames -merge src s1 s2
  have h1 : WordsKept powerWord s s1 := .regs (.refl _ _) rfl
  cases t with
  | none =>
    have h2 : WordsKept powerWord s s2 := h1
    exact .ite (.ite h2 (h2.trans State.setRate_words)) (.ite (.regs h2 rfl) (.regs h2 rfl))
  | some v =>
    have h2 : WordsKept powerWord s s2 := .wr h1 (by decide)
    refine .ite (.ite h2 (h2.trans State.setRate_words)) (.ite (.iteOf (fun _ => .regs h2 rfl) (fun hbin => ?_)) (.regs h2 rfl))
    extract_lets +onlyGivenNames -merge b m0 m1 m2 n old new s3
    have h3 : WordsKept powerWord s s3 := .wr (.regs h2 rfl) (xoBin_outside hbin)
    exact .ite (.regs h2 rfl) (.ite (.setFlag h3 (by decide)) h3)

end Sys2Proof.Machine

/-! SUPPORT. Domains going off and the ordered stop (R446, R461): what they do to the PWR and THM words, and that a stop stays. -/

namespace Sys2Proof.Machine

/-! ### Domains (R27, R446, R447) -/

theorem WordsKept.domOn {K : Nat → Prop} {s t : State} (h : WordsKept K s t) (h0 : K Reg.pwrDomStat0) (h1 : K Reg.pwrDomStat1) (d : Nat) :
    t.domOn d = s.domOn d := by
  rw [State.domOn, State.domOn, h.flag h0, h.flag h1]

theorem State.domOn_setDomReq (s : State) (d e : Nat) (b : Bool) : (s.setDomReq d b).domOn e = s.domOn e := by
  have h : WordsKept (fun x => x = Reg.pwrDomStat0 ∨ x = Reg.pwrDomStat1) s (s.setDomReq d b) :=
    .ite (.setFlag (.refl _ _) (by decide)) (.setFlag (.refl _ _) (by decide))
  exact h.domOn (.inl rfl) (.inr rfl) e

/-- Showing a domain as powered or not shows it so, and every other domain as before. -/
theorem State.domOn_setDomStat (s : State) {d : Nat} (hd : d < 64) (e : Nat) (b : Bool) :
    (s.setDomStat d b).domOn e = if e = d then b else s.domOn e := by
  unfold State.setDomStat State.domOn
  by_cases hed : e = d
  · subst hed
    by_cases he : e < 32
    · simp [he, State.flag_setFlag_same]
    · simp [he, State.flag_setFlag_same _ _ _ _ (show e - 32 < 32 by omega)]
  · by_cases hlow : d < 32 <;> by_cases he : e < 32
    · simp [hlow, he, hed, State.flag_setFlag_other _ _ _ _ _ hlow hed]
    · simp [hlow, he, hed, Reg.pwrDomStat0, Reg.pwrDomStat1]
    · simp [hlow, he, hed, Reg.pwrDomStat0, Reg.pwrDomStat1]
    · simp [hlow, he, hed, State.flag_setFlag_other _ _ _ _ _ (show d - 32 < 32 by omega) (show e - 32 ≠ d - 32 by omega)]

theorem State.resetBlock_words {s : State} {d : Nat} : WordsKept powerWord s (s.resetBlock d) := by
  unfold State.resetBlock
  iterate 15 refine .ite (.regs (.refl _ _) rfl) ?_
  refine .ite ?_ (.ite (.ite State.mirrorFail_words (.refl _ _)) (.refl _ _))
  extract_lets +onlyGivenNames -merge s1
  have h1 : WordsKept powerWord s s1 := .regs (.refl _ _) rfl
  exact .trans (.ite h1 (h1.trans State.standbyOut_words)) State.fovDigest_words

/-- The pages PWR and THM belong to the always-on domain 0 alone. -/
theorem page_outside_power : ∀ p ∈ allPages, p.domain ≠ 0 → p.base + 0x1000 ≤ 0x190000 ∨ 0x1B0000 ≤ p.base := by decide +kernel

/-- A domain that goes off changes, of the PWR and THM words, those that show its request and its state alone. -/
theorem State.domainOff_shown {s : State} {d : Nat} (hd : d ≠ 0) :
    WordsKept powerWord ((s.setDomReq d false).setDomStat d false) (s.domainOff d) := by
  unfold State.domainOff
  generalize (s.setDomReq d false).setDomStat d false = t
  extract_lets +onlyGivenNames -merge s0 src1 src2 s1
  have h1 : WordsKept powerWord t s1 := .regs (.refl _ _) rfl
  refine .trans (.trans (.trans (.foldl h1 (fun _ p hp hr => ?_)) State.resetBlock_words) State.lanesClear_words)
    State.laneSweep_words
  obtain ⟨hpage, hdom⟩ := List.mem_filter.1 hp
  have hout := page_outside_power p hpage (by rw [beq_iff_eq.1 hdom]; exact hd)
  exact State.resetPage_words hr (fun x hx => decide_eq_false (by unfold powerWord at hx; omega))

theorem State.domOn_domainOff (s : State) {d : Nat} (hd : d ≠ 0) (h64 : d < 64) (e : Nat) :
    (s.domainOff d).domOn e = if e = d then false else s.domOn e := by
  rw [(State.domainOff_shown hd).domOn (by decide) (by decide), State.domOn_setDomStat _ h64, State.domOn_setDomReq]

/-- After domains have gone off, one is on where it was and is none of them. -/
theorem State.domOn_foldl_domainOff (l : List Nat) (s : State) (hl : ∀ d ∈ l, d ≠ 0 ∧ d < 64) (e : Nat) :
    (l.foldl State.domainOff s).domOn e = (s.domOn e && !l.contains e) := by
  induction l generalizing s with
  | nil => simp
  | cons d l ih =>
    obtain ⟨h0, h64⟩ := hl d (List.mem_cons_self ..)
    rw [List.foldl_cons, ih _ (fun c hc => hl c (List.mem_cons_of_mem _ hc)), State.domOn_domainOff s h0 h64, List.contains_cons]
    by_cases hed : e = d
    · simp [hed]
    · rw [if_neg hed, beq_eq_false_iff_ne.2 hed, Bool.false_or]

theorem State.domOn_allOff (s : State) {d : Nat} (hd : d ∈ startOrder) : s.allOff.domOn d = false := by
  rw [State.allOff, State.domOn_foldl_domainOff _ _ (by decide)]
  have hin : (startOrder.reverse ++ [3]).contains d = true := by
    rw [List.contains_iff_mem]
    exact List.mem_append_left _ (List.mem_reverse.2 hd)
  rw [hin, Bool.not_true, Bool.and_false]

/-! ### The ordered stop (R461) -/

theorem State.heldOff_regs (s : State) : s.heldOff.regs = s.regs := rfl
theorem State.heldOff_stop (s : State) : s.heldOff.pwr.stop = s.pwr.stop := rfl
theorem State.heldOff_dram (s : State) : s.heldOff.dram = [] := rfl
theorem State.heldOff_running (s : State) : s.heldOff.mgt.running = false := rfl
theorem State.heldOff_domOn (s : State) (d : Nat) : s.heldOff.domOn d = s.domOn d := rfl
theorem State.metaEnd_stop (s : State) : s.metaEnd.pwr.stop = s.pwr.stop := rfl
theorem State.withPlc_pwr (s : State) (x : Plc) : { s with plc := x }.pwr = s.pwr := rfl
theorem State.withPwr_regs (s : State) (p : Pwr) : { s with pwr := p }.regs = s.regs := rfl
theorem State.bistAbandon_regs (s : State) : s.bistAbandon.regs = s.regs := rfl
theorem State.bistAbandon_stop (s : State) : s.bistAbandon.pwr.stop = s.pwr.stop := rfl

/-- The words of the PWR and THM pages that show no domain. -/
abbrev stopWord (x : Nat) : Prop := powerWord x ∧ ¬ (0x190040 ≤ x ∧ x ≤ 0x19004C)

theorem State.domainOff_words {s : State} {d : Nat} (hd : d ≠ 0) : WordsKept stopWord s (s.domainOff d) := by
  have hreq : WordsKept stopWord s (s.setDomReq d false) := .ite (.setFlag (.refl _ _) (by decide)) (.setFlag (.refl _ _) (by decide))
  have hstat : WordsKept stopWord s ((s.setDomReq d false).setDomStat d false) :=
    .ite (.setFlag hreq (by decide)) (.setFlag hreq (by decide))
  exact (State.domainOff_shown hd).step (fun _ hx => hx.1) hstat

theorem State.allOff_words {s : State} : WordsKept stopWord s s.allOff := by
  have hdoms : ∀ d ∈ startOrder.reverse ++ [3], d ≠ 0 := by decide
  exact .foldl (.refl _ _) (fun _ d hd hr => hr.trans (State.domainOff_words (hdoms d hd)))

theorem State.stopEnd_words {s : State} : WordsKept stopWord s s.stopEnd := by
  unfold State.stopEnd
  have hoff : WordsKept stopWord s s.storesEnd.allOff :=
    (State.storesEnd_words.step (fun _ hx => hx.1) (.refl _ s)).trans State.allOff_words
  exact .ite (.regs hoff (State.heldOff_regs _)) (.refl _ _)

theorem State.orderedStop_words {s : State} {hot : Bool} {source event : Nat} : WordsKept stopWord s (s.orderedStop hot source event) := by
  unfold State.orderedStop
  have hdis : WordsKept stopWord s s.discharge := State.discharge_words.step (fun _ hx => hx.1) (.refl _ s)
  have hlog : WordsKept stopWord s (s.hkLog source event 3) := State.hkLog_words.step (fun _ hx => hx.1) (.refl _ s)
  exact .ite (.ite (.regs hlog (State.withPwr_regs _ _)) (.refl _ _))
    (.trans (.regs (.regs hdis (State.withPwr_regs _ _)) (State.bistAbandon_regs _)) State.stopEnd_words)

theorem State.domainOff_stop (s : State) (d : Nat) : (s.domainOff d).pwr.stop = s.pwr.stop := by
  have hpages : ∀ (l : List PageDef) (t : State), (l.foldl (fun s p => s.resetPage p.base) t).pwr = t.pwr := fun l t =>
    (Kept.foldl (Kept.refl _ t) (fun _ _ h => h.trans State.resetPage_kept)).part .pwr (by decide)
  have hstat : ((s.setDomReq d false).setDomStat d false).pwr = s.pwr :=
    ((State.setDomReq_kept (s := s)).trans State.setDomStat_kept).part .pwr (by decide)
  unfold State.domainOff
  rw [State.laneSweep_kept.part .pwr (by decide), State.lanesClear_kept.part .pwr (by decide),
    State.resetBlock_kept.part .pwr (by decide), hpages, hstat]

theorem State.allOff_stop (s : State) : s.allOff.pwr.stop = s.pwr.stop := by
  unfold State.allOff
  generalize startOrder.reverse ++ [3] = l
  induction l generalizing s with
  | nil => rfl
  | cons d l ih => rw [List.foldl_cons, ih, State.domainOff_stop]

theorem State.segwDone_stop (s : State) : s.segwDone.pwr.stop = s.pwr.stop := by
  unfold State.segwDone
  extract_lets +onlyGivenNames -merge ended
  have hended : ∀ (t : State) (code : Nat), (ended t code).pwr = t.pwr := fun _ _ => rfl
  split
  · rfl
  · rw [hended]
  · extract_lets +onlyGivenNames -merge s1 on src g s2 s3
    have hwrite : s3.pwr = s2.pwr :=
      (Kept.foldl (Kept.refl _ s2) (fun _ _ h => h.trans State.metaWrite_kept)).part .pwr (by decide)
    split
    · rfl
    · split
      · rw [hended]; exact s.metaEnd_stop
      · rw [hended, State.wr_pwr, hwrite]; exact s.metaEnd_stop

theorem State.segopDone_stop (s : State) : s.segopDone.pwr.stop = s.pwr.stop := by
  unfold State.segopDone
  split
  · rfl
  · extract_lets +onlyGivenNames -merge src s1 s2 on s3
    have hend : s1.pwr = s.pwr := (State.raise_pwr _ _ _).trans (State.setFlag_pwr _ _ _ _)
    clear_value on
    have hwrite : s3.pwr = s2.pwr :=
      (Kept.foldl (F := 42983227392) (Kept.refl _ s2) (fun _ _ h =>
        Kept.step State.nvme_kept rfl (h.trans State.metaWrite_kept))).part .pwr (by decide)
    split
    · rfl
    · split
      · split
        · rw [hend]
        · rw [State.wr_pwr, State.wr_pwr, State.wr_pwr, State.wr_pwr, hend]
      · split
        · rw [State.rejectCommit_kept.part .pwr (by decide), hend]
        · rw [s3.withPlc_pwr, hwrite, ← hend]; exact s1.metaEnd_stop

/-- Once the stop has been ordered it stays so to its end. -/
theorem State.stopEnd_stop (s : State) : s.stopEnd.pwr.stop = s.pwr.stop := by
  unfold State.stopEnd
  split
  · rw [State.heldOff_stop, State.allOff_stop, State.storesEnd, State.segopDone_stop, State.segwDone_stop]
  · rfl

theorem State.orderedStop_stop (s : State) (hot : Bool) (source event : Nat) : (s.orderedStop hot source event).pwr.stop = true := by
  unfold State.orderedStop
  split
  · rename_i hstop
    split
    · exact hstop
    · exact hstop
  · rw [State.stopEnd_stop, State.bistAbandon_stop]

/-- A discharge of a panel that is OFF does nothing (R323). -/
theorem State.discharge_off {s : State} (h : s.panel = 0) : s.discharge = s := if_pos (.inl h)

/-- With the panel OFF the stop ends at once: DRAM is lost, Marigold does not run, and every domain of R517 is off. -/
theorem State.stopEnd_off {s : State} (hstop : s.pwr.stop = true) (hpanel : s.panel = 0) :
    s.stopEnd.dram = [] ∧ s.stopEnd.mgt.running = false ∧ ∀ d ∈ startOrder, s.stopEnd.domOn d = false := by
  have h : s.stopEnd = s.storesEnd.allOff.heldOff := if_pos (by rw [hstop, hpanel]; rfl)
  rw [h, State.heldOff_dram, State.heldOff_running]
  exact ⟨rfl, rfl, fun d hd => (State.heldOff_domOn _ d).trans (State.domOn_allOff _ hd)⟩

theorem State.orderedStop_off {s : State} (hot : Bool) (source event : Nat) (hstop : s.pwr.stop = false) (hpanel : s.panel = 0) :
    (s.orderedStop hot source event).dram = [] ∧ (s.orderedStop hot source event).mgt.running = false ∧
      ∀ d ∈ startOrder, (s.orderedStop hot source event).domOn d = false := by
  unfold State.orderedStop
  rw [if_neg (by rw [hstop]; exact Bool.false_ne_true), State.discharge_off hpanel]
  exact State.stopEnd_off rfl hpanel

end Sys2Proof.Machine

/-! SUPPORT. The supply states, the hold-up measurement and the throttle levels after their events (R457, R460-R462). -/

namespace Sys2Proof.Machine

/-! ### The tile input (R460) -/

/-- PWR_BRACE (R460). -/
theorem State.brace_spec {s : State} {v : Nat} (hstate : s.supState = 0) (hwarn : v < s.fld Reg.pwrSupCfg 11 0)
    (hfail : s.fld Reg.pwrSupCfg 23 12 ≤ v) :
    (s.brace v).supState = 1 ∧ (s.brace v).flag 0x190010 0 = true ∧ (s.brace v).pwr.stop = s.pwr.stop ∧
      (s.brace v).rd (Reg.pwrStat 0) = (s.rd (Reg.pwrStat 0) + 1) % 2 ^ 32 := by
  unfold State.brace
  rw [if_pos ⟨hstate, hwarn, hfail⟩]
  extract_lets +onlyGivenNames -merge src src1 s1
  have h1 : s1.regs = (s.setFld Reg.pwrSupStat 1 0 1).regs := rfl
  have hlog := State.hkLog_words (s := (s1.add (Reg.pwrStat 0) 1).raise 0x190000 0) (source := 0x1900) (event := evt 0 0) (severity := 1)
  have hword : ∀ x, s1.rd x = (s.setFld Reg.pwrSupStat 1 0 1).rd x := fun x => by rw [State.rd, State.rd, h1]
  refine ⟨?_, ?_, ?_, ?_⟩
  · rw [State.supState, hlog.fld (by decide), State.fld, State.rd_raise_ne _ _ (by decide), State.rd_add_ne _ _ (by decide), hword]
    exact s.fld_setFld_same _ _ _ _ (by decide) (by decide)
  · rw [hlog.flag (by decide)]
    exact State.flag_raise_same _ 0x190000 0 (by decide)
  · rw [State.hkLog_kept.part .pwr (by decide), State.raise_pwr, State.add_pwr]
  · rw [hlog _ (by decide), State.rd_raise_ne _ _ (by decide), State.rd_add_same, hword, State.rd_setFld_ne _ _ _ _ (by decide)]

/-- PWR_NORMAL (R460). -/
theorem State.normal_spec {s : State} {x : Nat} (hstate : s.supState = 1) (habove : s.pwr.above = some x)
    (htime : x + s.fld Reg.pwrSupTime 7 0 * ms ≤ s.now) :
    s.normal.supState = 0 ∧ s.normal.flag 0x190010 1 = true ∧ s.normal.pwr = s.pwr := by
  unfold State.normal
  rw [if_pos (by simp [hstate, habove, htime])]
  have hlog := State.hkLog_words (s := (s.setFld Reg.pwrSupStat 1 0 0).raise 0x190000 1) (source := 0x1900) (event := evt 0 1) (severity := 0)
  refine ⟨?_, ?_, ?_⟩
  · rw [State.supState, hlog.fld (by decide), State.fld, State.rd_raise_ne _ _ (by decide)]
    exact s.fld_setFld_same _ _ _ _ (by decide) (by decide)
  · rw [hlog.flag (by decide)]
    exact State.flag_raise_same _ 0x190000 1 (by decide)
  · rw [State.hkLog_kept.part .pwr (by decide), State.raise_pwr, State.setFld_pwr]

/-- PWR_FAIL (R460, R461). -/
theorem State.fail_spec {s : State} {v : Nat} (hstate : s.supState < 2) (hfail : v < s.fld Reg.pwrSupCfg 23 12) :
    (s.fail v).supState = 2 ∧ (s.fail v).flag 0x190010 2 = true ∧ (s.fail v).pwr.stop = true ∧
      (s.fail v).rd (Reg.pwrStat 1) = (s.rd (Reg.pwrStat 1) + 1) % 2 ^ 32 ∧
      (s.panel = 0 → s.pwr.stop = false →
        (s.fail v).dram = [] ∧ (s.fail v).mgt.running = false ∧ ∀ d ∈ startOrder, (s.fail v).domOn d = false) := by
  unfold State.fail
  rw [if_pos ⟨hstate, hfail⟩]
  extract_lets +onlyGivenNames -merge s1
  have hsup : s1.fld Reg.pwrSupStat 1 0 = 2 := by
    rw [State.fld, State.rd_raise_ne _ _ (by decide), State.rd_add_ne _ _ (by decide)]
    exact s.fld_setFld_same _ _ _ _ (by decide) (by decide)
  have hevent : s1.flag 0x190010 2 = true := State.flag_raise_same _ 0x190000 2 (by decide)
  have hcount : s1.rd (Reg.pwrStat 1) = (s.rd (Reg.pwrStat 1) + 1) % 2 ^ 32 := by
    rw [State.rd_raise_ne _ _ (by decide), State.rd_add_same, State.rd_setFld_ne _ _ _ _ (by decide)]
  have hpwr : s1.pwr = s.pwr := by rw [State.raise_pwr, State.add_pwr, State.setFld_pwr]
  have hpanel : s1.panel = s.panel := by
    rw [State.panel, State.fld, State.rd_raise_ne _ _ (by decide), State.rd_add_ne _ _ (by decide), State.rd_setFld_ne _ _ _ _ (by decide)]
    rfl
  clear_value s1
  have hwords : WordsKept stopWord s1 (if s1.pwr.stop then s1.hkLog 0x1900 (evt 0 2) 3 else s1.orderedStop false 0x1900 (evt 0 2)) :=
    .ite (State.hkLog_words.step (fun _ hx => hx.1) (.refl _ _)) State.orderedStop_words
  refine ⟨(hwords.fld (by decide) 1 0).trans hsup, (hwords.flag (by decide) 2).trans hevent, ?_, (hwords _ (by decide)).trans hcount, ?_⟩
  · split
    · rename_i hstop
      rw [State.hkLog_kept.part .pwr (by decide)]
      exact hstop
    · exact State.orderedStop_stop _ _ _ _
  · intro h0 hstop
    rw [hpwr, hstop, if_neg Bool.false_ne_true]
    exact State.orderedStop_off _ _ _ (by rw [hpwr]; exact hstop) (hpanel.trans h0)

/-! ### The hold-up bank (R462) -/

theorem WordsKept.refuseStore {K : Nat → Prop} {s t : State} (h : WordsKept K s t) (hK : ¬ K (Reg.pwrStat 2)) : WordsKept K s t.refuseStore :=
  h.add hK

/-- The words of the PWR and THM pages but the count of refused stores. -/
abbrev holdWord (x : Nat) : Prop := powerWord x ∧ x ≠ Reg.pwrStat 2

theorem State.revertEvents_words {s : State} {old new : BootRec} : WordsKept powerWord s (s.revertEvents old new) :=
  .foldl (.refl _ _) (fun _ _ _ hr => .ite (.trans (.raise hr (by decide)) State.logIt_words) hr)

theorem State.bootPut_words {s : State} {r : BootRec} : WordsKept powerWord s (s.bootPut r) := by
  unfold State.bootPut
  extract_lets +onlyGivenNames -merge g i new c src s1
  have h1 : WordsKept powerWord s s1 := .regs (.refl _ _) rfl
  exact .trans (.emit h1) State.revertEvents_words

theorem State.draw256_regs (s : State) : s.draw256.2.regs = s.regs := rfl

theorem State.identityStart_words {s : State} : WordsKept holdWord s s.identityStart := by
  unfold State.identityStart
  exact .ite (.ite (.regs (.regs (.refl _ _) s.draw256_regs) rfl) (.refuseStore (.refl _ _) (by decide))) (.refl _ _)

theorem State.bootFlush_words {s : State} : WordsKept holdWord s s.bootFlush := by
  unfold State.bootFlush
  extract_lets +onlyGivenNames -merge src src1 s1
  have h1 : WordsKept holdWord s s1 := by
    unfold s1
    split
    · exact .refl _ _
    · exact .ite (State.bootPut_words.step (fun _ hx => hx.1) (.refl _ _)) (.regs (.refuseStore (.refl _ _) (by decide)) rfl)
  exact .ite (.refl _ _) (h1.trans State.identityStart_words)

/-- What has left the package stays recorded. -/
def OutKept (s u : State) : Prop := ∀ o ∈ s.out, o ∈ u.out

theorem OutKept.refl (s : State) : OutKept s s := fun _ ho => ho

theorem OutKept.trans {s t u : State} (h : OutKept s t) (k : OutKept t u) : OutKept s u := fun o ho => k o (h o ho)

theorem OutKept.same {s t : State} (e : t.out = s.out) : OutKept s t := fun _ ho => e ▸ ho

theorem State.emit_outKept (s : State) (o : Out) : OutKept s (s.emit o) := fun _ hp => List.mem_cons_of_mem _ hp

theorem State.sent_outKept {s t : State} (h : t.sent = s.sent) {o : Out} (ho : o ∈ s.sent) : o ∈ t.out :=
  (List.mem_filter.1 (h ▸ ho)).1

theorem State.stage_out (s : State) (e : LogEntry) : (s.stage e).out = s.out := by
  unfold State.stage
  split <;> rfl

theorem State.revertEvents_out (s : State) (old new : BootRec) : (s.revertEvents old new).out = s.out := by
  unfold State.revertEvents
  generalize List.range 3 = l
  induction l generalizing s with
  | nil => rfl
  | cons k l ih =>
    rw [List.foldl_cons, ih]
    split
    · exact State.stage_out _ _
    · rfl

theorem State.bootPut_outKept (s : State) (r : BootRec) : OutKept s (s.bootPut r) := by
  unfold State.bootPut
  extract_lets +onlyGivenNames -merge g i new c src s1
  have h1 : OutKept s s1 := .same rfl
  exact (h1.trans (s1.emit_outKept _)).trans (.same (State.revertEvents_out _ _ _))

theorem State.identityStart_out (s : State) : s.identityStart.out = s.out := by
  unfold State.identityStart
  split
  · split <;> rfl
  · rfl

theorem State.bootFlush_outKept (s : State) : OutKept s s.bootFlush := by
  unfold State.bootFlush
  extract_lets +onlyGivenNames -merge src src1 s1
  have h1 : OutKept s s1 := by
    unfold s1
    split
    · exact .refl _
    · split
      · exact State.bootPut_outKept _ _
      · exact .same rfl
  split
  · exact .refl _
  · exact h1.trans (.same (State.identityStart_out s1))

/-- A pin that has been driven stays recorded at the end of the command. -/
theorem settle_pin {s : State} {n : String} {i : Nat} {b : Bool} (h : .pin n i b ∈ s.out) : .pin n i b ∈ (settle s).out :=
  State.sent_outKept (settle_kept.part .sent (Nat.zero_testBit _)) (List.mem_filter.2 ⟨h, rfl⟩)

/-- HOLDUP_MEASURE (R462). -/
theorem State.holdMeasure_spec {s : State} (hstep : s.pwr.step = 4) (hmeasured : s.pwr.measured = false) (htest : s.pwr.test = none) :
    s.holdMeasure = { s.emit (.pin "HOLD_LOAD_EN" 0 true) with
      pwr := { s.pwr with test := some (s.now, s.fld Reg.pwrHoldV 15 0), load := true } } := by
  unfold State.holdMeasure
  rw [if_pos (by simp [hstep, hmeasured, htest])]

/-- What the end of a measurement leaves, an event and an entry of the log included: its capacity, and the load switched off (R462). -/
structure State.HoldEnded (s u : State) (c bit : Nat) : Prop where
  pwr : u.pwr = { s.pwr with test := none, load := false, measured := true }
  cap : u.rd Reg.pwrHoldCap = min c 65535
  event : u.flag 0x190010 bit = true
  pin : .pin "HOLD_LOAD_EN" 0 false ∈ u.out

theorem State.holdEnd_ended (s : State) (c : Nat) {bit : Nat} (hbit : bit < 32) : s.HoldEnded ((s.holdEnd c).raise 0x190000 bit) c bit where
  pwr := rfl
  cap := by
    have hcap : (s.holdEnd c).rd Reg.pwrHoldCap = (s.wr Reg.pwrHoldCap (min c 65535)).rd Reg.pwrHoldCap := State.rd_wr_ne _ _ (by decide)
    rw [State.rd_raise_ne _ _ (by decide), hcap, State.rd_wr_same]
    omega
  event := State.flag_raise_same _ _ _ hbit
  pin := List.mem_cons_self ..

theorem State.HoldEnded.log {s u : State} {c bit : Nat} (h : s.HoldEnded u c bit) (source event severity : Nat) :
    s.HoldEnded (u.hkLog source event severity) c bit where
  pwr := (State.hkLog_kept.part .pwr (by decide)).trans h.pwr
  cap := (State.hkLog_words _ (by decide)).trans h.cap
  event := (State.hkLog_words.flag (by decide) bit).trans h.event
  pin := by
    have hout : (u.hkLog source event severity).out = u.out := by
      unfold State.hkLog
      split
      · exact State.stage_out _ _
      · rfl
    rw [hout]
    exact h.pin

/-- The end of the command stores what has waited for the measurement (R485) and changes none of it. -/
theorem State.HoldEnded.flush {s u : State} {c bit : Nat} (h : s.HoldEnded u c bit) : s.HoldEnded (settle u.bootFlush) c bit where
  pwr := (settle_pwr _).trans ((State.bootFlush_kept.part .pwr (by decide)).trans h.pwr)
  cap := (settle_rd _ _).trans ((State.bootFlush_words _ (by decide)).trans h.cap)
  event := (settle_flag _ _ _).trans ((State.bootFlush_words.flag (by decide) bit).trans h.event)
  pin := settle_pin (u.bootFlush_outKept _ h.pin)

/-! ### Throttling (R456, R457) -/

theorem State.enforced_enforce (s : State) {k : Nat} (hk : k < 8) : (s.enforce k).enforced = k := by
  unfold State.enforce State.enforced
  extract_lets +onlyGivenNames -merge s1
  rw [State.setFlag, State.fld_setFld_other _ _ _ _ _ _ _ (by decide) (by decide) (by decide) (by decide),
    State.fld_setFld_same _ _ _ _ _ (by decide) (by decide)]
  exact Nat.mod_eq_of_lt hk

theorem State.thmAsked_enforce (s : State) (k : Nat) : (s.enforce k).thmAsked = s.thmAsked := by
  unfold State.enforce State.thmAsked
  extract_lets +onlyGivenNames -merge s1
  have h1 : s1.fld Reg.thmReq 2 0 = s.fld Reg.thmReq 2 0 := by
    unfold s1
    split
    · rw [State.fld, State.rd_raise_ne _ _ (by decide), State.fld]
    · rfl
  rw [State.setFlag, State.fld_setFld_other _ _ _ _ _ _ _ (by decide) (by decide) (by decide) (by decide),
    State.fld_setFld_other _ _ _ _ _ _ _ (by decide) (by decide) (by decide) (by decide)]
  exact h1

theorem State.flag16_enforce (s : State) (k : Nat) : (s.enforce k).flag Reg.thmReq 16 = false :=
  State.flag_setFlag_same _ _ _ _ (by decide)

theorem State.thm_enforce (s : State) (k : Nat) : (s.enforce k).thm = { s.thm with grace := none } := by
  unfold State.enforce
  extract_lets +onlyGivenNames -merge s1
  have h1 : s1.thm = s.thm := by
    unfold s1
    split <;> rfl
  rw [State.setFlag_thm, State.setFld_thm, h1]

/-- A rise of the enforced level is reported (R457). -/
theorem State.event_enforce (s : State) {k : Nat} (h : s.enforced < k) : (s.enforce k).flag 0x1A0010 1 = true := by
  unfold State.enforce
  rw [if_pos h]
  have hword : ∀ x : State, x.regs = (s.raise 0x1A0000 1).regs →
      ((x.setFld Reg.thmReq 6 4 k).setFlag Reg.thmReq 16 false).flag 0x1A0010 1 = true := fun x e => by
    rw [State.flag_setFlag_ne _ _ _ _ (by decide), State.flag_setFld_ne _ _ _ _ _ (by decide), State.flag, State.rd, e]
    exact State.flag_raise_same s 0x1A0000 1 (by decide)
  exact hword _ rfl

/-- THROTTLE_GRACE_EXPIRE (R457). -/
theorem State.graceExpire_eq {s : State} {e : Nat} (hgrace : s.thm.grace = some e) (htime : e ≤ s.now) (hrise : s.enforced < s.thmAsked) :
    s.graceExpire = s.enforce s.thmAsked := by
  unfold State.graceExpire
  rw [hgrace]
  exact (if_pos htime).trans (if_pos hrise)

theorem State.thmAsked_lt (s : State) : s.thmAsked < 8 := Nat.mod_lt _ (by decide)

/-- A level asked for is the requested one; below the enforced level it is enforced at once (R457). -/
theorem State.ask_spec (s : State) {k : Nat} (hk : k < 8) : (s.ask k).thmAsked = k ∧ (k < s.enforced → (s.ask k).enforced = k) := by
  unfold State.ask
  extract_lets +onlyGivenNames -merge old src src1 s1 s2
  have h1 : s1.thmAsked = k := (s.fld_setFld_same _ _ _ _ (by decide) (by decide)).trans (Nat.mod_eq_of_lt hk)
  have henf : s1.enforced = s.enforced := s.fld_setFld_other _ _ _ _ _ _ (by decide) (by decide) (by decide) (by decide)
  have h2 : s2.thmAsked = k := by
    unfold s2
    split
    · rw [State.thmAsked, State.fld, State.rd_raise_ne _ _ (by decide)]; exact h1
    · exact h1
  have hflag : ∀ (x : State) (b : Bool) (th : Thm), { x.setFlag Reg.thmReq 16 b with thm := th }.thmAsked = x.thmAsked :=
    fun x _ _ => x.fld_setFld_other _ _ _ _ _ _ (by decide) (by decide) (by decide) (by decide)
  rw [henf]
  split
  · rename_i hrise
    refine ⟨?_, fun hfall => absurd hfall (Nat.lt_asymm hrise)⟩
    split
    · exact (State.thmAsked_enforce s2 k).trans h2
    · split
      · exact h2
      · exact (hflag s2 true _).trans h2
  · split
    · exact ⟨(State.thmAsked_enforce s1 k).trans h1, fun _ => s1.enforced_enforce hk⟩
    · rename_i hfall
      exact ⟨(hflag s1 false _).trans h1, fun h => absurd h hfall⟩

/-- THROTTLE_HOLD_EXPIRE (R457). -/
theorem State.holdExpire_eq {s : State} {e : Nat} (hbelow : s.thm.below = some e) (htime : e + s.fld Reg.thmGrace 31 16 * sec ≤ s.now)
    (hasked : s.thmAsked ≠ 0) : s.holdExpire = s.ask (s.thmAsked - 1) := by
  unfold State.holdExpire
  rw [hbelow]
  exact if_pos ⟨htime, hasked⟩

end Sys2Proof.Machine

/-! SUPPORT. Regulators at start, domains that come up, and THM_SENS_CLR (R447, R449, R451). -/

namespace Sys2Proof.Machine

/-! ### Regulators (R448, R449) -/

theorem State.pmbRetry_regs (s : State) (a : Nat) (bytes : List Nat) (fails : Nat) :
    (s.pmbRetry a bytes fails).regs = (s.add (Reg.pwrStat 3) (min fails 3)).regs := by
  unfold State.pmbRetry
  generalize s.add (Reg.pwrStat 3) (min fails 3) = t
  induction List.range (min fails 2) generalizing t with
  | nil => rfl
  | cons k l ih => exact ih _

theorem State.pmbRetry_words {K : Nat → Prop} {s t : State} {a fails : Nat} {bytes : List Nat} (h : WordsKept K s t)
    (hK : ¬ K (Reg.pwrStat 3)) : WordsKept K s (t.pmbRetry a bytes fails) :=
  .regs (.add h hK) (State.pmbRetry_regs _ _ _ _)

theorem State.pmbSend_words {K : Nat → Prop} {s t : State} {a fails : Nat} {bytes : List Nat} (h : WordsKept K s t)
    (hK : ¬ K (Reg.pwrStat 3)) : WordsKept K s (t.pmbSend a bytes fails) :=
  State.pmbRetry_words (.emit h) hK

theorem State.regAnswer_words {s : State} {i sent : Nat} {status : PmbRead} :
    WordsKept (fun x => x ≠ Reg.pwrStat 3) s (s.regAnswer i sent status).1 := by
  unfold State.regAnswer
  extract_lets +onlyGivenNames -merge check s1
  have h1 : WordsKept (fun x => x ≠ Reg.pwrStat 3) s s1 := State.pmbRetry_words (.refl _ _) (fun h => h rfl)
  exact .ite (State.pmbSend_words h1 (fun h => h rfl)) h1

/-- The answer is good within three tries, with STATUS_WORD good where it is checked (R449). -/
theorem State.regAnswer_good (s : State) (i sent : Nat) (status : PmbRead) :
    (s.regAnswer i sent status).2.1 = true ↔
      sent < 3 ∧ (s.flag (Reg.pwrReg i) 8 = false ∨ (pmbAnswered status = true ∧ statusGood status.word = true)) := by
  unfold State.regAnswer
  dsimp only
  generalize s.flag (Reg.pwrReg i) 8 = check
  generalize pmbAnswered status = answered
  generalize statusGood status.word = good
  by_cases h : sent < 3
  · cases check <;> cases answered <;> cases good <;> simp [h]
  · simp [h]

/-- A regulator that never answers has failed three transactions (R448). -/
theorem State.regAnswer_failures {s : State} {i sent : Nat} {status : PmbRead} (h : 3 ≤ sent) :
    (s.regAnswer i sent status).1.rd (Reg.pwrStat 3) = (s.rd (Reg.pwrStat 3) + 3) % 2 ^ 32 := by
  have hskip : ¬ (s.flag (Reg.pwrReg i) 8 && decide (sent < 3)) = true := by simp; omega
  have hanswer : (s.regAnswer i sent status).1 = s.pmbRetry (s.regAddr i) (s.pmbWrite (s.regAddr i) (operation true)) sent := if_neg hskip
  rw [hanswer, State.rd, State.pmbRetry_regs, ← State.rd, State.rd_add_same, Nat.min_eq_right h]

theorem State.regFault_words {s : State} {i event : Nat} : WordsKept (fun x => powerWord x ∧ x ≠ 0x190010) s (s.regFault i event) :=
  State.logIt_words.step (fun _ hx => hx.1) (.raise (.refl _ _) (by decide))

theorem State.regFault_event (s : State) (i event : Nat) : (s.regFault i event).flag 0x190010 4 = true :=
  (State.logIt_words.flag (by decide) 4).trans (State.flag_raise_same s 0x190000 4 (by decide))

theorem WordsKept.regOrder {K : Nat → Prop} {s t : State} (h : WordsKept K s t) (hK : ∀ i < 16, K (Reg.pwrReg i)) :
    t.regOrder = s.regOrder := by
  unfold State.regOrder
  refine List.flatMap_congr fun g _ => List.filter_congr fun i hi => ?_
  have hreg := hK i (List.mem_range.1 hi)
  rw [h.flag hreg, h.fld hreg]

theorem State.regSwitch_regs (s : State) (i : Nat) (b : Bool) : (s.regSwitch i b).regs = s.regs := by
  unfold State.regSwitch
  split <;> rfl

theorem State.regStart_regs (s : State) (k : Nat) : (s.regStart k).regs = s.regs := by
  unfold State.regStart
  split
  · exact s.regSwitch_regs _ _
  · rfl

/-- The next regulator is switched on where there is one; those that are on, and the domains without a supply, stay (R449). -/
theorem State.regStart_pwr (s : State) (k : Nat) :
    (s.regStart k).pwr.regs = s.pwr.regs ∧ (s.regStart k).pwr.dead = s.pwr.dead ∧
      (s.regStart k).pwr.regNext = if k < s.regOrder.length then some k else none := by
  unfold State.regStart
  split
  · rename_i i hi
    obtain ⟨hk, -⟩ := List.getElem?_eq_some_iff.1 hi
    exact ⟨rfl, rfl, (if_pos hk).symm⟩
  · rename_i hi
    exact ⟨rfl, rfl, (if_neg (Nat.not_lt.2 (List.getElem?_eq_none_iff.1 hi))).symm⟩

/-- The state after the answer `r` of regulator `i` has been taken up; the domains of `dead` have no supply then. -/
def State.regTaken (s : State) (i : Nat) (r : State × Bool × Bool) (dead : List Nat) : State :=
  { r.1 with pwr := { s.pwr with regs := s.pwr.regs.set i r.2.1, dead := dead } }

theorem State.regTaken_regs (s : State) (i : Nat) (r : State × Bool × Bool) (dead : List Nat) : (s.regTaken i r dead).regs = r.1.regs := rfl

theorem State.regTaken_pwr (s : State) (i : Nat) (r : State × Bool × Bool) (dead : List Nat) :
    (s.regTaken i r dead).pwr = { s.pwr with regs := s.pwr.regs.set i r.2.1, dead := dead } := rfl

/-- REGULATOR_ON in its turn (R449): the answer is taken up, a failure reported, and the next regulator is switched on. -/
theorem State.regulatorOn_eq {s : State} {k i sent : Nat} {status : PmbRead} {feeds : List Nat} (hnext : s.pwr.regNext = some k)
    (hi : s.regOrder[k]? = some i) (hon : s.pmbusOn = true) (htime : s.pwr.regAt + s.fld (Reg.pwrReg i) 23 16 * ms ≤ s.now) :
    ∃ event, s.regulatorOn sent status feeds =
      (if (s.regAnswer i sent status).2.1 then s.regTaken i (s.regAnswer i sent status) s.pwr.dead
       else (s.regTaken i (s.regAnswer i sent status) (s.pwr.dead ++ feeds)).regFault i event).regStart (k + 1) := by
  have hpwr : (s.regAnswer i sent status).1.pwr = s.pwr := State.regAnswer_kept.part .pwr (by decide)
  refine ⟨if (s.regAnswer i sent status).2.2 then 0x1902 else evt 0 4, ?_⟩
  unfold State.regulatorOn State.regTaken
  rw [hnext]
  dsimp only
  rw [hi]
  dsimp only
  rw [if_pos ⟨hon, htime⟩, hpwr]

section
variable {s : State} {k i sent : Nat} {status : PmbRead} {feeds : List Nat} (hnext : s.pwr.regNext = some k)
  (hi : s.regOrder[k]? = some i) (hon : s.pmbusOn = true) (htime : s.pwr.regAt + s.fld (Reg.pwrReg i) 23 16 * ms ≤ s.now)
include hnext hi hon htime

theorem State.regulatorOn_good (hgood : (s.regAnswer i sent status).2.1 = true) :
    (s.regulatorOn sent status feeds).pwr.regs = s.pwr.regs.set i true ∧ (s.regulatorOn sent status feeds).pwr.dead = s.pwr.dead ∧
      (s.regulatorOn sent status feeds).pwr.regNext = (if k + 1 < s.regOrder.length then some (k + 1) else none) ∧
      s.wordsBut (s.regulatorOn sent status feeds) [Reg.pwrStat 3] := by
  obtain ⟨event, heq⟩ := State.regulatorOn_eq (sent := sent) (status := status) (feeds := feeds) hnext hi hon htime
  rw [heq, if_pos hgood]
  have hwords : WordsKept (fun x => x ≠ Reg.pwrStat 3) s (s.regTaken i (s.regAnswer i sent status) s.pwr.dead) :=
    .regs State.regAnswer_words (State.regTaken_regs _ _ _ _)
  obtain ⟨hregs, hdead, hnext'⟩ := (s.regTaken i (s.regAnswer i sent status) s.pwr.dead).regStart_pwr (k + 1)
  rw [hregs, hdead, hnext', hwords.regOrder (fun j _ => by unfold Reg.pwrReg Reg.pwrStat; omega)]
  refine ⟨by rw [State.regTaken_pwr, hgood], rfl, rfl, fun x hx => ?_⟩
  exact (hwords.regs (State.regStart_regs _ _)) x (fun e => hx (List.mem_singleton.2 e))

theorem State.regulatorOn_bad (hbad : ¬ (s.regAnswer i sent status).2.1 = true) :
    (s.regulatorOn sent status feeds).pwr.regs = s.pwr.regs.set i false ∧
      (s.regulatorOn sent status feeds).pwr.dead = s.pwr.dead ++ feeds ∧
      (s.regulatorOn sent status feeds).pwr.regNext = (if k + 1 < s.regOrder.length then some (k + 1) else none) ∧
      (s.regulatorOn sent status feeds).flag 0x190010 4 = true ∧
      (3 ≤ sent → (s.regulatorOn sent status feeds).rd (Reg.pwrStat 3) = (s.rd (Reg.pwrStat 3) + 3) % 2 ^ 32) := by
  obtain ⟨event, heq⟩ := State.regulatorOn_eq (sent := sent) (status := status) (feeds := feeds) hnext hi hon htime
  rw [heq, if_neg hbad]
  have h1 := s.regTaken_regs i (s.regAnswer i sent status) (s.pwr.dead ++ feeds)
  have hp1 := s.regTaken_pwr i (s.regAnswer i sent status) (s.pwr.dead ++ feeds)
  rw [Bool.not_eq_true] at hbad
  rw [hbad] at hp1
  generalize s.regTaken i (s.regAnswer i sent status) (s.pwr.dead ++ feeds) = s1 at h1 hp1 ⊢
  have hwords : WordsKept (fun x => (powerWord x ∧ x ≠ 0x190010) ∧ x ≠ Reg.pwrStat 3) s (s1.regFault i event) :=
    State.regFault_words.step (fun _ hx => hx.1) (.regs (State.regAnswer_words.step (fun _ hx => hx.2) (.refl _ s)) h1)
  have hpwr : (s1.regFault i event).pwr = s1.pwr := State.regFault_kept.part .pwr (by decide)
  obtain ⟨hregs, hdead, hnext'⟩ := (s1.regFault i event).regStart_pwr (k + 1)
  have hrd : ∀ x, ((s1.regFault i event).regStart (k + 1)).rd x = (s1.regFault i event).rd x := fun x => by
    rw [State.rd, State.rd, State.regStart_regs]
  rw [hregs, hdead, hnext', hpwr, hp1, hwords.regOrder (fun j _ => by unfold powerWord Reg.pwrReg Reg.pwrStat; omega)]
  refine ⟨rfl, rfl, rfl, ?_, fun h3 => ?_⟩
  · rw [State.flag, hrd]
    exact State.regFault_event _ _ _
  · rw [hrd, State.regFault_words _ (by decide), State.rd, h1]
    exact State.regAnswer_failures h3

end

/-- While Marigold restarts or its master does not run nothing goes on (R443). -/
theorem State.regulatorOn_idle {s : State} {sent : Nat} {status : PmbRead} {feeds : List Nat} (hoff : s.pmbusOn = false) :
    s.regulatorOn sent status feeds = s := by
  unfold State.regulatorOn
  split
  · rfl
  · split
    · rfl
    · exact if_neg (fun h => Bool.false_ne_true (hoff.symm.trans h.1))

/-! ### A domain that comes up (R447, R493) -/

/-- A unit of a domain that comes up. -/
def State.unitUp (s : State) (u : Nat) : State :=
  if s.svc.fused.contains u then ((s.setUnit u 4).setFlag (Reg.svcUnit u) 4 true).setFld (Reg.svcUnit u) 7 5 (s.svc.failRun.getD u 0)
  else (s.setUnit u 2).setFld (Reg.svcUnit u) 7 5 (s.svc.failRun.getD u 0)

theorem State.unitUp_words {K : Nat → Prop} {s t : State} {u : Nat} (h : WordsKept K s t) (hu : ¬ K (Reg.svcUnit u)) :
    WordsKept K s (t.unitUp u) :=
  .ite (.setFld (.setFlag (.setFld h hu) hu) hu) (.setFld (.setFld h hu) hu)

theorem State.unitUp_svc (s : State) (u : Nat) : (s.unitUp u).svc = s.svc := by
  unfold State.unitUp
  split <;> rfl

theorem State.unitUp_pwr (s : State) (u : Nat) : (s.unitUp u).pwr = s.pwr := by
  unfold State.unitUp
  split <;> rfl

theorem State.unitUp_state (s : State) (u : Nat) :
    (s.unitUp u).fld (Reg.svcUnit u) 2 0 = if s.svc.fused.contains u then 4 else 2 := by
  unfold State.unitUp State.setUnit State.setFlag
  split
  · rw [State.fld_setFld_other _ _ _ _ _ _ _ (by decide) (by decide) (by decide) (by decide),
      State.fld_setFld_other _ _ _ _ _ _ _ (by decide) (by decide) (by decide) (by decide)]
    exact State.fld_setFld_same _ _ _ _ _ (by decide) (by decide)
  · rw [State.fld_setFld_other _ _ _ _ _ _ _ (by decide) (by decide) (by decide) (by decide)]
    exact State.fld_setFld_same _ _ _ _ _ (by decide) (by decide)

theorem State.unitsUp_pwr (l : List Nat) (s : State) : (l.foldl State.unitUp s).pwr = s.pwr := by
  induction l generalizing s with
  | nil => rfl
  | cons u l ih => rw [List.foldl_cons, ih, State.unitUp_pwr]

/-- Each of the units is FENCED, a fused one FAILED. -/
theorem State.unitsUp_state {l : List Nat} {n : Nat} (s : State) (hn : n ∈ l) :
    (l.foldl State.unitUp s).fld (Reg.svcUnit n) 2 0 = if s.svc.fused.contains n then 4 else 2 := by
  induction l generalizing s with
  | nil => contradiction
  | cons u l ih =>
    rw [List.foldl_cons]
    by_cases hl : n ∈ l
    · rw [ih _ hl, State.unitUp_svc]
    · obtain rfl : n = u := (List.mem_cons.1 hn).resolve_right hl
      have hrest : WordsKept (fun x => x = Reg.svcUnit n) (s.unitUp n) (l.foldl State.unitUp (s.unitUp n)) :=
        .foldl (.refl _ _) (fun r a ha hr => State.unitUp_words hr (fun e => hl ((show a = n by unfold Reg.svcUnit at e; omega) ▸ ha)))
      rw [hrest.fld rfl, State.unitUp_state]

/-- DOMAIN_UP (R447, R493). -/
theorem State.domainUp_spec {s : State} {d : Nat} (hd : d < 35) (hup : s.pwr.ups.contains d = true) :
    (s.domainUp d).domOn d = true ∧ (s.domainUp d).pwr.ups = s.pwr.ups.filter (fun x => x != d) ∧
      ∀ n ∈ domUnits d, (s.domainUp d).unitState n = if s.svc.fused.contains n then 4 else 2 := by
  unfold State.domainUp
  rw [if_pos hup]
  extract_lets +onlyGivenNames -merge src s1 src2 s2 m s3
  have hpwr : s3.pwr.ups = s.pwr.ups.filter (fun x => x != d) := by
    unfold s3 s2
    split <;> split <;> rfl
  have hsvc : s3.svc = s.svc := by
    unfold s3 s2
    split <;> split <;> rfl
  clear_value s3
  have hbase : ∀ t : State, t = (if d = 32 ∨ d = 33 then (s3.setDomStat d true).fovDigest else s3.setDomStat d true) →
      t.domOn d = true ∧ t.pwr = s3.pwr ∧ t.svc = s3.svc := by
    rintro t rfl
    have hon : (s3.setDomStat d true).domOn d = true := by rw [State.domOn_setDomStat _ (by omega), if_pos rfl]
    have hkept : Kept 4194304 s3 (s3.setDomStat d true) := State.setDomStat_kept.mono rfl
    split
    · have hdigest := hkept.trans State.fovDigest_kept
      exact ⟨(State.fovDigest_words.domOn (by decide) (by decide) d).trans hon, hdigest.part .pwr (by decide), hdigest.part .svc (by decide)⟩
    · exact ⟨hon, hkept.part .pwr (by decide), hkept.part .svc (by decide)⟩
  obtain ⟨hon, hpwr', hsvc'⟩ := hbase _ rfl
  generalize (if d = 32 ∨ d = 33 then (s3.setDomStat d true).fovDigest else s3.setDomStat d true) = t at hon hpwr' hsvc' ⊢
  change ((domUnits d).foldl State.unitUp t).domOn d = true ∧ ((domUnits d).foldl State.unitUp t).pwr.ups = _ ∧
    ∀ n ∈ domUnits d, ((domUnits d).foldl State.unitUp t).unitState n = _
  have hwords : WordsKept powerWord t ((domUnits d).foldl State.unitUp t) :=
    .foldl (.refl _ _) (fun _ u _ hr => State.unitUp_words hr (by unfold powerWord Reg.svcUnit; omega))
  have hup' := (hwords.domOn (by decide) (by decide) d).trans hon
  refine ⟨hup', by rw [State.unitsUp_pwr, hpwr', hpwr], fun n hn => ?_⟩
  obtain ⟨hrange, hdom⟩ := List.mem_filter.1 hn
  have h171 : n < 171 := List.mem_range.1 hrange
  rw [State.unitState, beq_iff_eq.1 hdom, if_pos hup', if_neg (by omega), State.unitsUp_state t hn, hsvc', hsvc]

/-! ### THM_SENS_CLR (R451, R469) -/

theorem getD_replicate_self {α : Type} (n i : Nat) (a : α) : (List.replicate n a).getD i a = a := by
  rw [List.getD_eq_getElem?_getD, List.getElem?_replicate]
  split <;> rfl

theorem State.sensClear_words {s : State} : s.wordsBut s.sensClear [Reg.thmBroken0, Reg.thmBroken1, Reg.thmExtBroken] := by
  have h : s.wordsBut (((s.wr Reg.thmBroken0 0).wr Reg.thmBroken1 0).wr Reg.thmExtBroken 0) [Reg.thmBroken0, Reg.thmBroken1, Reg.thmExtBroken] :=
    State.wordsBut_wr (State.wordsBut_wr (State.wordsBut_wr (State.wordsBut_refl _ _) (by decide)) (by decide)) (by decide)
  exact h

theorem State.sensClear_marks (s : State) :
    s.sensClear.rd Reg.thmBroken0 = 0 ∧ s.sensClear.rd Reg.thmBroken1 = 0 ∧ s.sensClear.rd Reg.thmExtBroken = 0 := by
  have hregs : ∀ x, s.sensClear.rd x = (((s.wr Reg.thmBroken0 0).wr Reg.thmBroken1 0).wr Reg.thmExtBroken 0).rd x := fun _ => rfl
  rw [hregs, hregs, hregs]
  refine ⟨?_, ?_, State.rd_wr_same _ _ _⟩
  · rw [State.rd_wr_ne _ _ (by decide), State.rd_wr_ne _ _ (by decide)]
    exact State.rd_wr_same _ _ _
  · rw [State.rd_wr_ne _ _ (by decide)]
    exact State.rd_wr_same _ _ _

theorem State.sensClear_thm (s : State) (n : Nat) : s.sensClear.thm.broken.getD n false = false ∧ s.sensClear.thm.off.getD n 0 = 0 ∧
    s.sensClear.thm.extBad.getD n false = false :=
  ⟨getD_replicate_self 56 n false, getD_replicate_self 56 n 0, getD_replicate_self 16 n false⟩

theorem State.storeWord_words {s : State} {a data : Nat} {r : RegRow} : s.wordsBut (s.storeWord a r data) [a] := by
  unfold State.storeWord
  split
  · exact fun _ _ => rfl
  · exact State.wordsBut_wr (State.wordsBut_refl _ _) (List.mem_singleton_self a)

theorem State.storeWord_secu (s : State) (a data : Nat) (r : RegRow) : (s.storeWord a r data).secu = s.secu := by
  unfold State.storeWord
  split <;> rfl

theorem bitOf_trigger (w : Nat) : bitOf (putBits w 0 0 1) 0 = true := by
  rw [bitOf_eq, bitsOf_putBits_same _ _ _ _ (Nat.le_refl 0)]
  rfl

theorem thmSensClr_row : ((pageOf Reg.thmSensClr).bind (fun p => rowFor p.rows (Reg.thmSensClr % 0x1000))).isSome = true := by decide +kernel

/-- An accepted write of the trigger stores its word and clears every mark. -/
theorem State.trigger_sensClr {s : State} {who : Requester} {data : Word} (h : s.accepts who Reg.thmSensClr (putBits data.toNat 0 0 1)) :
    ∃ t, s.trigger who Reg.thmSensClr 0 data = t.sensClear ∧ s.wordsBut t [Reg.thmSensClr] := by
  obtain ⟨p, hp, hcode⟩ := h
  have ha : Reg.thmSensClr % 0x400000 = Reg.thmSensClr := by decide
  have hoff : 0x40 ≤ Reg.thmSensClr % 0x1000 := by decide
  rw [State.trigger, State.writeWord_accepted hp hcode, State.marigoldSees_behind_header (by rw [ha]; exact hoff), ha]
  rw [ha] at hp
  have hblock : p.code = 0x1A := (State.reached_place hp).1
  have hsome := thmSensClr_row
  rw [State.reached_pageOf hp, Option.bind_some] at hsome
  obtain ⟨⟨r, i⟩, hrow⟩ := Option.isSome_iff_exists.1 hsome
  refine ⟨s.storeWord Reg.thmSensClr r (putBits data.toNat 0 0 1), ?_, State.storeWord_words⟩
  rw [State.acceptWord_row hoff hrow]
  have heffect : ∀ t : State, t.blockEffect p (Reg.thmSensClr % 0x1000) (s.rd Reg.thmSensClr) (putBits data.toNat 0 0 1) = t.sensClear := by
    intro t
    have hthm : t.blockEffect p (Reg.thmSensClr % 0x1000) (s.rd Reg.thmSensClr) (putBits data.toNat 0 0 1) =
        t.thmEffect (Reg.thmSensClr % 0x1000) (putBits data.toNat 0 0 1) := by
      simp [State.blockEffect, hblock]
    exact hthm.trans (if_pos ⟨by decide, bitOf_trigger _⟩)
  rw [heffect]
  exact State.certCheck_same _ _ (State.storeWord_secu s _ _ _)

end Sys2Proof.Machine

/-! SUPPORT. The housekeeping round (R450): its readings stand until its end. -/

namespace Sys2Proof.Machine

/-! ### Sensors (R451) -/

/-- The words that a sensor can change besides its own channel: the sticky event and the broken marks. -/
abbrev sensMark (x : Nat) : Prop := x = 0x1A0010 ∨ x = Reg.thmBroken0 ∨ x = Reg.thmBroken1

theorem State.sensRound_words {s : State} {v : List Int} {n : Nat} :
    WordsKept (fun x => powerWord x ∧ ¬ sensMark x ∧ x ≠ Reg.thmCh n) s (s.sensRound v n) := by
  have hown : ¬ (powerWord (Reg.thmCh n) ∧ ¬ sensMark (Reg.thmCh n) ∧ Reg.thmCh n ≠ Reg.thmCh n) := fun h => h.2.2 rfl
  unfold State.sensRound
  extract_lets +onlyGivenNames -merge x med far cnt hit bad src s1 s2
  have h1 : WordsKept (fun x => powerWord x ∧ ¬ sensMark x ∧ x ≠ Reg.thmCh n) s s1 := .regs (.refl _ _) rfl
  have hmark : ¬ (powerWord (if n < 32 then Reg.thmBroken0 else Reg.thmBroken1) ∧ ¬ sensMark (if n < 32 then Reg.thmBroken0 else Reg.thmBroken1) ∧
      (if n < 32 then Reg.thmBroken0 else Reg.thmBroken1) ≠ Reg.thmCh n) := by
    split <;> exact fun h => h.2.1 (by decide)
  have h2 : WordsKept (fun x => powerWord x ∧ ¬ sensMark x ∧ x ≠ Reg.thmCh n) s s2 :=
    .ite (State.hkLog_words.step (fun _ hx => hx.1) (.raise (.setFlag h1 hmark) (fun h => h.2.1 (.inl rfl)))) h1
  exact .ite (.wr (.refl _ _) hown) (.wr h2 hown)

/-- What the reading of sensor `n` depends on: no plausibility check, its domain on, no broken mark. -/
structure State.SensPlain (s : State) (n : Nat) : Prop where
  check : s.flag Reg.thmCtrl 0 = false
  on : s.sensOn n = true
  valid : s.thm.broken.getD n false = false

theorem getD_set_self {α : Type} (l : List α) (n m : Nat) (a : α) : (l.set n (l.getD n a)).getD m a = l.getD m a := by
  rw [List.getD_eq_getElem?_getD, List.getD_eq_getElem?_getD, List.getElem?_set]
  split
  · rename_i h
    subst h
    split
    · rename_i hlt
      simp [List.getD_eq_getElem?_getD, hlt]
    · rename_i hlt
      simp [hlt]
  · rfl

/-- Without the plausibility check a sensor whose domain is on shows its reading, and no mark changes. -/
theorem State.sensRound_unchecked {s : State} (v : List Int) {n : Nat} (hcheck : s.flag Reg.thmCtrl 0 = false) (hon : s.sensOn n = true) :
    ∃ t : State, t.thm.broken = s.thm.broken.set n (s.thm.broken.getD n false) ∧
      ∃ w, s.sensRound v n = t.wr (Reg.thmCh n) w ∧ (s.thm.broken.getD n false = false → w = toBits 16 (v.getD n 0) + 65536) := by
  unfold State.sensRound
  simp only [hcheck, hon, Bool.false_and, Bool.and_false, Bool.or_false, Bool.not_true, Bool.false_eq_true, if_false]
  exact ⟨_, rfl, _, rfl, fun hvalid => by simp only [hvalid, Bool.false_and, Bool.false_eq_true, if_false, Nat.add_zero]⟩

theorem State.sensRound_broken {s : State} (v : List Int) (n m : Nat) (hcheck : s.flag Reg.thmCtrl 0 = false) :
    (s.sensRound v n).thm.broken.getD m false = s.thm.broken.getD m false := by
  by_cases hon : s.sensOn n = true
  · obtain ⟨t, hbroken, w, heq, -⟩ := s.sensRound_unchecked v hcheck hon
    rw [heq]
    change t.thm.broken.getD m false = _
    rw [hbroken, getD_set_self]
  · have hoff : s.sensRound v n = s.wr (Reg.thmCh n) 0 := if_pos (by simpa using hon)
    rw [hoff]
    rfl

/-- It depends on no words but those of THM_CTRL and of the domains shown. -/
theorem State.SensPlain.keep {s t : State} {n : Nat} {K : Nat → Prop} (h : s.SensPlain n) (hwords : WordsKept K s t) (hctrl : K Reg.thmCtrl)
    (h0 : K Reg.pwrDomStat0) (h1 : K Reg.pwrDomStat1) (hbroken : t.thm.broken.getD n false = s.thm.broken.getD n false) : t.SensPlain n where
  check := (hwords.flag hctrl 0).trans h.check
  on := by
    rw [State.sensOn, hwords.domOn h0 h1, hwords.domOn h0 h1]
    exact h.on
  valid := hbroken.trans h.valid

theorem State.sensRound_plain {s : State} (v : List Int) {n m : Nat} (h : s.SensPlain n) (hm : m < 56) : (s.sensRound v m).SensPlain n :=
  h.keep s.sensRound_words ⟨by decide, by decide, by unfold Reg.thmCh Reg.thmCtrl; omega⟩
    ⟨by decide, by decide, by unfold Reg.thmCh Reg.pwrDomStat0; omega⟩ ⟨by decide, by decide, by unfold Reg.thmCh Reg.pwrDomStat1; omega⟩
    (s.sensRound_broken v m n h.check)

/-- After the round over the sensors the channel of sensor `n` holds its reading, marked valid. -/
theorem State.sensors_shown {v : List Int} {n : Nat} {l : List Nat} {s : State} (h : s.SensPlain n) (hl : ∀ m ∈ l, m < 56) (hdup : l.Nodup)
    (hn : n ∈ l) : (l.foldl (State.sensRound v) s).rd (Reg.thmCh n) = (toBits 16 (v.getD n 0) + 65536) % 2 ^ 32 := by
  induction l generalizing s with
  | nil => contradiction
  | cons a l ih =>
    obtain ⟨ha, hrest⟩ := List.nodup_cons.1 hdup
    rw [List.foldl_cons]
    by_cases hnl : n ∈ l
    · exact ih (s.sensRound_plain v h (hl a (List.mem_cons_self ..))) (fun m hm => hl m (List.mem_cons_of_mem _ hm)) hrest hnl
    · obtain rfl : n = a := (List.mem_cons.1 hn).resolve_right hnl
      have h56 : n < 56 := hl n (List.mem_cons_self ..)
      have hkept : WordsKept (fun x => x = Reg.thmCh n) (s.sensRound v n) (l.foldl (State.sensRound v) (s.sensRound v n)) :=
        .foldl (.refl _ _) (fun r m hm hr => r.sensRound_words.step (fun x hx => by
          have hne : n ≠ m := fun e => hnl (e ▸ hm)
          unfold powerWord sensMark Reg.thmBroken0 Reg.thmBroken1
          unfold Reg.thmCh at hx ⊢
          omega) hr)
      obtain ⟨t, -, w, heq, hw⟩ := s.sensRound_unchecked v h.check h.on
      rw [hkept _ rfl, heq, State.rd_wr_same, hw h.valid]

/-! ### The steps after the sensors -/

/-- The words that show a round's sensors and count the rounds. -/
abbrev sensWord (x : Nat) : Prop := x = Reg.thmRounds ∨ 0x1A0200 ≤ x ∧ x < 0x1A0200 + 4 * 56

/-- The words that show a round's sensors and supplies. -/
abbrev roundWord (x : Nat) : Prop := sensWord x ∨ x = Reg.pwrSupStat ∨ x = Reg.pwrHoldV

theorem roundWord_stopWord {x : Nat} (h : roundWord x) : stopWord x := by
  unfold roundWord sensWord Reg.thmRounds Reg.pwrSupStat Reg.pwrHoldV at h
  unfold stopWord powerWord
  omega

theorem roundWord_powerWord {x : Nat} (h : roundWord x) : powerWord x := (roundWord_stopWord h).1

theorem ne_of_sensWord {x y : Nat} (hx : sensWord x) (hy : ¬ sensWord y) : x ≠ y := fun e => hy (e ▸ hx)

theorem thmCh_not_sensWord {n : Nat} (h : 56 ≤ n) : ¬ sensWord (Reg.thmCh n) := by
  unfold sensWord Reg.thmCh Reg.thmRounds
  omega

theorem State.ntcWord_regs (s : State) (code nom beta : Nat) : (s.ntcWord code nom beta).2.regs = s.regs := by
  unfold State.ntcWord
  dsimp only
  split <;> rfl

theorem State.extRound_words {s : State} {v : List Nat} {j : Nat} : WordsKept sensWord s (s.extRound v j) := by
  have hown : ¬ sensWord (Reg.thmCh (56 + j)) := thmCh_not_sensWord (by omega)
  unfold State.extRound
  extract_lets +onlyGivenNames -merge x cfg inside out good was bad src s1 s2 s3 r
  have h1 : WordsKept sensWord s s1 := .regs (.refl _ _) rfl
  have h2 : WordsKept sensWord s s2 := .setFlag h1 (by decide)
  have h3 : WordsKept sensWord s s3 := .ite (.raise h2 (by decide)) h2
  exact .ite (.wr (.refl _ _) hown) (.ite (.wr (.refl _ _) hown) (.wr (.regs h3 (State.ntcWord_regs _ _ _ _)) hown))

theorem State.supRound_words {s : State} {v : Nat} : WordsKept (fun x => x ≠ Reg.pwrSupStat) s (s.supRound v) := by
  unfold State.supRound
  exact .regs (.setFld (.refl _ _) (fun h => h rfl)) (State.withPwr_regs _ _)

theorem State.supRound_shown (s : State) (v : Nat) : (s.supRound v).fld Reg.pwrSupStat 27 16 = v % 4096 :=
  State.fld_setFld_same _ _ _ _ _ (by decide) (by decide)

theorem State.holdRound_words {s : State} {v : Nat} : WordsKept (fun x => x ≠ Reg.pwrHoldV ∧ x ≠ Reg.pwrHoldE) s (s.holdRound v) :=
  .wr (.setFld (.refl _ _) (fun h => h.1 rfl)) (fun h => h.2 rfl)

theorem State.holdRound_shown (s : State) (v : Nat) : (s.holdRound v).fld Reg.pwrHoldV 15 0 = v % 65536 := by
  have hset : (s.setFld Reg.pwrHoldV 15 0 v).fld Reg.pwrHoldV 15 0 = v % 65536 := State.fld_setFld_same _ _ _ _ _ (by decide) (by decide)
  rw [State.fld] at hset ⊢
  rw [State.holdRound, State.rd_wr_ne _ _ (by decide), hset]

theorem State.bandRound_words {s : State} : WordsKept roundWord s s.bandRound := by
  unfold State.bandRound
  extract_lets +onlyGivenNames -merge cfg old trip w t up hy hold new src s1 s2 s3
  have h1 : WordsKept roundWord s s1 := .regs (.refl _ _) rfl
  have h2 : WordsKept roundWord s s2 := .setFld (.setFld h1 (by decide)) (by decide)
  have h3 : WordsKept roundWord s s3 := .setFld (.refl _ _) (by decide)
  exact .ite (.ite (.raise h2 (by decide)) h2) (.ite (.refl _ _) (.ite (.raise h3 (by decide)) h3))

theorem WordsKept.enforce {s t : State} {k : Nat} (h : WordsKept roundWord s t) : WordsKept roundWord s (t.enforce k) := by
  unfold State.enforce
  extract_lets +onlyGivenNames -merge s1
  have h1 : WordsKept roundWord s s1 := .ite (.raise h (by decide)) h
  exact .setFlag (.setFld (.regs h1 rfl) (by decide)) (by decide)

theorem State.withThm_regs (s : State) (x : Thm) : { s with thm := x }.regs = s.regs := rfl

theorem WordsKept.ask {s t : State} {k : Nat} (h : WordsKept roundWord s t) : WordsKept roundWord s (t.ask k) := by
  unfold State.ask
  extract_lets +onlyGivenNames -merge old src src2 s1 s2
  have h1 : WordsKept roundWord s s1 := .regs (.setFld h (by decide)) (State.withThm_regs _ _)
  have h2 : WordsKept roundWord s s2 := .ite (.raise h1 (by decide)) h1
  exact .ite (.ite h2.enforce (.ite h2 (.regs (.setFlag h2 (by decide)) (State.withThm_regs _ _))))
    (.ite h1.enforce (.regs (.setFlag h1 (by decide)) (State.withThm_regs _ _)))

theorem State.thmRound_words {s : State} : WordsKept roundWord s s.thmRound := by
  unfold State.thmRound
  split
  · exact .refl _ _
  · extract_lets +onlyGivenNames -merge s1 up src2 src2' s2 crit stop s3 n src4 s4 src5 s5
    have h1 : WordsKept roundWord s s1 := .setFld (.refl _ _) (by decide)
    have h2 : WordsKept roundWord s s2 := .ite h1.ask (.ite (.regs h1 (State.withThm_regs _ _)) (.regs h1 (State.withThm_regs _ _)))
    have h3 : WordsKept roundWord s s3 := .ite (.raise (.ite (WordsKept.setFld h2 (by decide)).enforce h2) (by decide)) h2
    have h4 : WordsKept roundWord s s4 := .regs h3 (State.withThm_regs _ _)
    have h5 : WordsKept roundWord s s5 := .ite (.regs h4 (State.withPwr_regs _ _)) h4
    exact .ite (State.orderedStop_words.step (fun _ hx => roundWord_stopWord hx) h5) h5

/-! ### The regulators of every 64th round (R448) -/

theorem State.regOrder_lt {s : State} {i : Nat} (h : i ∈ s.regOrder) : i < 16 := by
  obtain ⟨g, -, hi⟩ := List.mem_flatMap.1 h
  exact List.mem_range.1 (List.mem_filter.1 hi).1

theorem State.voutWord_regs (s : State) (mode v : Nat) : (s.voutWord mode v).2.regs = s.regs := by
  unfold State.voutWord
  split <;> rfl

theorem State.modeRead_words {s : State} {i : Nat} {mode : PmbRead} : WordsKept roundWord s (s.modeRead i mode) := by
  unfold State.modeRead
  extract_lets +onlyGivenNames -merge s1
  have h1 : WordsKept roundWord s s1 := State.pmbSend_words (.refl _ _) (by decide)
  exact .ite (.refl _ _) (.ite (.regs h1 (State.withPwr_regs _ _)) h1)

theorem WordsKept.regFault {s t : State} {i event : Nat} (h : WordsKept roundWord s t) : WordsKept roundWord s (t.regFault i event) :=
  State.regFault_words.step (fun x hx => ⟨roundWord_powerWord hx, fun e => absurd (e ▸ hx) (by decide)⟩) h

theorem State.regRead_words {s : State} {i : Nat} {r : RegRead} (hi : i < 16) : WordsKept roundWord s (s.regRead i r) := by
  have hstat : ¬ roundWord (Reg.pwrRegStat i) := by
    unfold roundWord sensWord Reg.thmRounds Reg.pwrSupStat Reg.pwrHoldV Reg.pwrRegStat
    omega
  unfold State.regRead
  extract_lets +onlyGivenNames -merge s1 s2 s3
  have h2 : WordsKept roundWord s s2 := State.pmbSend_words (State.pmbSend_words State.modeRead_words (by decide)) (by decide)
  have h3 : WordsKept roundWord s s3 := .ite (.setFld h2 hstat) h2
  clear_value s3
  split
  · extract_lets +onlyGivenNames -merge v s4
    have h4 : WordsKept roundWord s s4 := .setFld (.regs h3 (State.voutWord_regs _ _ _)) hstat
    exact .ite h4.regFault h4
  · exact h3.regFault

theorem State.regRound_words {s : State} {ans : List RegRead} : WordsKept roundWord s (s.regRound ans) := by
  unfold State.regRound
  refine .ite (.refl _ _) (.foldl (.refl _ _) (fun r i hi hr => ?_))
  split
  · exact hr.trans (State.regRead_words (State.regOrder_lt hi))
  · exact hr

/-! ### The round -/

theorem bitsOf_valid_reading {w : Nat} (h : w < 65536) : bitsOf ((w + 65536) % 2 ^ 32) 15 0 = w ∧ bitOf ((w + 65536) % 2 ^ 32) 16 = true := by
  unfold bitsOf bitOf
  rw [beq_iff_eq]
  omega

theorem toBits_lt (n : Nat) (v : Int) : toBits n v < 2 ^ n := by
  have hpos : (0 : Int) < (2 ^ n : Nat) := by exact_mod_cast Nat.two_pow_pos n
  have hlt := Int.emod_lt_of_pos v hpos
  unfold toBits
  omega

theorem State.housekeeping_spec (s : State) (r : Round) :
    (s.housekeeping r).rd Reg.thmRounds = (s.rd Reg.thmRounds + 1) % 2 ^ 32 ∧
      (s.housekeeping r).fld Reg.pwrSupStat 27 16 = r.sup % 4096 ∧ (s.housekeeping r).fld Reg.pwrHoldV 15 0 = r.hold % 65536 ∧
      ∀ n, n < 56 → s.SensPlain n → (s.housekeeping r).fld (Reg.thmCh n) 15 0 = toBits 16 (r.sens.getD n 0) ∧
        (s.housekeeping r).flag (Reg.thmCh n) 16 = true := by
  unfold State.housekeeping
  extract_lets +onlyGivenNames -merge src src' s1 s2 s3 s4 s5 s6 s7 s8 s9 s10 s11 s12 s13
  have hcount : s1.rd Reg.thmRounds = (s.rd Reg.thmRounds + 1) % 2 ^ 32 := s.rd_add_same _ _
  have h1 : WordsKept (fun x => x ≠ Reg.thmRounds) s s1 := .regs (.add (.refl _ _) (fun h => h rfl)) rfl
  have hplain : ∀ n, s.SensPlain n → s1.SensPlain n := fun n h => h.keep h1 (by decide) (by decide) (by decide) rfl
  clear_value s1
  have h2 : WordsKept (fun x => x = Reg.thmRounds) s1 s2 :=
    .foldl (.refl _ _) (fun t n _ ht => t.sensRound_words.step (fun x hx => by
      unfold powerWord sensMark Reg.thmBroken0 Reg.thmBroken1 Reg.thmCh
      unfold Reg.thmRounds at hx
      omega) ht)
  have hshown : ∀ n, n < 56 → s.SensPlain n → s2.rd (Reg.thmCh n) = (toBits 16 (r.sens.getD n 0) + 65536) % 2 ^ 32 := fun n hn h =>
    State.sensors_shown (hplain n h) (fun m hm => List.mem_range.1 hm) List.nodup_range (List.mem_range.2 hn)
  clear_value s2
  have h3 : WordsKept sensWord s2 s3 := .foldl (.refl _ _) (fun _ _ _ ht => ht.trans State.extRound_words)
  have h4 : WordsKept sensWord s2 s4 := .foldl h3 (fun t j hj ht => by
    have hcrack : ¬ sensWord (Reg.thmCh (72 + j)) := thmCh_not_sensWord (by omega)
    exact .ite ((State.crackRound_words (List.mem_range.1 hj)).step (fun _ hx => roundWord_powerWord (.inl hx)) (.wr ht hcrack)) (.wr ht hcrack))
  have h5 : WordsKept sensWord s2 s5 := .wr (.wr h4 (thmCh_not_sensWord (by decide))) (thmCh_not_sensWord (by decide))
  have h6 : WordsKept sensWord s2 s6 := .foldl h5 (fun _ _ _ ht => .wr ht (thmCh_not_sensWord (by omega)))
  clear_value s6
  have hsup : WordsKept (fun x => x ≠ Reg.pwrHoldV ∧ x ≠ Reg.pwrHoldE) (s6.supRound r.sup) s7 := State.holdRound_words
  have h7 : WordsKept sensWord s2 s7 := hsup.step (fun x hx => ⟨ne_of_sensWord hx (by decide), ne_of_sensWord hx (by decide)⟩)
    (State.supRound_words.step (fun x hx => ne_of_sensWord hx (by decide)) h6)
  have hsupply : s7.fld Reg.pwrSupStat 27 16 = r.sup % 4096 := (hsup.fld (by decide) 27 16).trans (s6.supRound_shown r.sup)
  have hbank : s7.fld Reg.pwrHoldV 15 0 = r.hold % 65536 := (s6.supRound r.sup).holdRound_shown r.hold
  clear_value s7
  have h8 : WordsKept roundWord s7 s8 := State.bandRound_words.trans State.thmRound_words
  have h9 : WordsKept roundWord s7 s9 := .ite (State.derateRound_words.step (fun _ => roundWord_powerWord) h8) h8
  have h10 : WordsKept roundWord s7 s10 := .ite (State.timRound_words.step (fun _ => roundWord_powerWord) h9) h9
  have h11 : WordsKept roundWord s7 s11 :=
    .foldl h10 (fun _ _ hc ht => (State.dimmTemps_words (List.mem_range.1 hc)).step (fun _ => roundWord_powerWord) ht)
  have h12 : WordsKept roundWord s7 s12 := .foldl h11 (fun t n hmem ht => by
    have hn : n < 84 := List.mem_range.1 hmem
    exact .ite ((State.adaptRound_words hn).step (fun _ => roundWord_powerWord) ((State.laneRound_words hn).step (fun _ => roundWord_powerWord) ht)) ht)
  have h13 : WordsKept roundWord s7 s13 := State.healthRound_words.step (fun _ => roundWord_powerWord) h12
  clear_value s13
  have hend : WordsKept roundWord s7 (if s13.rd Reg.thmRounds % 64 = 0 then s13.regRound r.regs else s13) := .ite (h13.trans State.regRound_words) h13
  generalize (if s13.rd Reg.thmRounds % 64 = 0 then s13.regRound r.regs else s13) = u at hend ⊢
  have hsens : WordsKept sensWord s2 u := hend.step (fun _ => .inl) h7
  refine ⟨(hsens _ (.inl rfl)).trans ((h2 _ rfl).trans hcount), (hend.fld (by decide) 27 16).trans hsupply,
    (hend.fld (by decide) 15 0).trans hbank, fun n hn h => ?_⟩
  have hword : u.rd (Reg.thmCh n) = (toBits 16 (r.sens.getD n 0) + 65536) % 2 ^ 32 :=
    (hsens _ (.inr (by unfold Reg.thmCh; omega))).trans (hshown n hn h)
  rw [State.fld, State.flag, hword]
  exact bitsOf_valid_reading (toBits_lt 16 _)

end Sys2Proof.Machine

/-! SUPPORT. What the supply, regulator and temperature events leave once their command has ended, and O57. -/

namespace Sys2Proof.Machine

theorem settle_unitState (s : State) (n : Nat) : (settle s).unitState n = s.unitState n := by
  rw [State.unitState, State.unitState, settle_domOn, settle_fld]

theorem settle_supState (s : State) : (settle s).supState = s.supState := settle_fld _ _ _ _

theorem settle_enforced (s : State) : (settle s).enforced = s.enforced := settle_fld _ _ _ _

theorem settle_thmAsked (s : State) : (settle s).thmAsked = s.thmAsked := settle_fld _ _ _ _

/-! ### Regulators and domains (R447-R449) -/

section
variable {s : State} {t k i : Nat} {feeds : List Nat} (hnext : s.pwr.regNext = some k) (hi : s.regOrder[k]? = some i)
  (htime : s.pwr.regAt + s.fld (Reg.pwrReg i) 23 16 * ms ≤ max s.now t) (sent : Nat) (status : PmbRead)
include hnext hi htime

theorem exec_regulatorOn_good (hon : s.pmbusOn = true)
    (hgood : sent < 3 ∧ (s.flag (Reg.pwrReg i) 8 = false ∨ (pmbAnswered status = true ∧ statusGood status.word = true))) :
    ∃ u, exec (.regulatorOn ⟨sent, status⟩ feeds t) s = .next u ∧ u.pwr.regs = s.pwr.regs.set i true ∧ u.pwr.dead = s.pwr.dead ∧
      u.pwr.regNext = (if k + 1 < s.regOrder.length then some (k + 1) else none) ∧ s.wordsBut u [Reg.pwrStat 3] := by
  obtain ⟨hregs, hdead, hregNext, hwords⟩ := State.regulatorOn_good (s := s.at t) (feeds := feeds) hnext hi hon htime
    (((s.at t).regAnswer_good i sent status).2 hgood)
  refine ⟨settle _, rfl, ?_⟩
  rw [settle_pwr]
  exact ⟨hregs, hdead, hregNext, fun x hx => (settle_rd _ x).trans (hwords x hx)⟩

theorem exec_regulatorOn_bad (hon : s.pmbusOn = true)
    (hbad : ¬ (sent < 3 ∧ (s.flag (Reg.pwrReg i) 8 = false ∨ (pmbAnswered status = true ∧ statusGood status.word = true)))) :
    ∃ u, exec (.regulatorOn ⟨sent, status⟩ feeds t) s = .next u ∧ u.pwr.regs = s.pwr.regs.set i false ∧ u.pwr.dead = s.pwr.dead ++ feeds ∧
      u.pwr.regNext = (if k + 1 < s.regOrder.length then some (k + 1) else none) ∧ u.flag 0x190010 4 = true ∧
      (3 ≤ sent → u.rd (Reg.pwrStat 3) = (s.rd (Reg.pwrStat 3) + 3) % 2 ^ 32) := by
  have hspec := State.regulatorOn_bad (s := s.at t) (feeds := feeds) hnext hi hon htime
    (fun h => hbad (((s.at t).regAnswer_good i sent status).1 h))
  refine ⟨settle _, rfl, ?_⟩
  rw [settle_pwr, settle_flag, settle_rd]
  exact hspec

end

theorem exec_regulatorOn_idle {s : State} (t sent : Nat) (status : PmbRead) (feeds : List Nat) (hoff : s.pmbusOn = false) :
    ∃ u, exec (.regulatorOn ⟨sent, status⟩ feeds t) s = .next u ∧ u.pwr = s.pwr ∧ u.regs = s.regs := by
  have hidle : (s.at t).regulatorOn sent status feeds = s.at t := State.regulatorOn_idle hoff
  refine ⟨settle ((s.at t).regulatorOn sent status feeds), rfl, ?_⟩
  rw [settle_pwr, settle_regs, hidle]
  exact ⟨rfl, rfl⟩

theorem exec_domainUp {s : State} (t : Nat) {d : Nat} (hd : d < 35) (hup : s.pwr.ups.contains d = true) :
    ∃ u, exec (.domainUp d t) s = .next u ∧ u.domOn d = true ∧ u.pwr.ups = s.pwr.ups.filter (fun x => x != d) ∧
      ∀ n ∈ domUnits d, u.unitState n = if s.svc.fused.contains n then 4 else 2 := by
  obtain ⟨hon, hups, hunits⟩ := State.domainUp_spec (s := s.at t) hd hup
  refine ⟨settle _, rfl, (settle_domOn _ _).trans hon, ?_, fun n hn => (settle_unitState _ n).trans (hunits n hn)⟩
  rw [settle_pwr]
  exact hups

/-! ### The tile input (R33, R460, R461) -/

theorem exec_pwrBrace {s : State} (t : Nat) {v : Nat} (hstate : s.supState = 0) (hwarn : v < s.fld Reg.pwrSupCfg 11 0)
    (hfail : s.fld Reg.pwrSupCfg 23 12 ≤ v) :
    ∃ u, exec (.pwrBrace v t) s = .next u ∧ u.supState = 1 ∧ u.flag 0x190010 0 = true ∧ u.pwr.stop = s.pwr.stop ∧
      u.rd (Reg.pwrStat 0) = (s.rd (Reg.pwrStat 0) + 1) % 2 ^ 32 := by
  have hspec := State.brace_spec (s := s.at t) hstate hwarn hfail
  refine ⟨settle _, rfl, ?_⟩
  rw [settle_supState, settle_flag, settle_pwr, settle_rd]
  exact hspec

theorem exec_pwrNormal {s : State} {t x : Nat} (hstate : s.supState = 1) (habove : s.pwr.above = some x)
    (htime : x + s.fld Reg.pwrSupTime 7 0 * ms ≤ max s.now t) :
    ∃ u, exec (.pwrNormal t) s = .next u ∧ u.supState = 0 ∧ u.flag 0x190010 1 = true ∧ u.pwr = s.pwr := by
  have hspec := State.normal_spec (s := s.at t) hstate habove htime
  refine ⟨settle _, rfl, ?_⟩
  rw [settle_supState, settle_flag, settle_pwr]
  exact hspec

theorem exec_pwrFail {s : State} (t : Nat) {v : Nat} (hstate : s.supState < 2) (hfail : v < s.fld Reg.pwrSupCfg 23 12) :
    ∃ u, exec (.pwrFail v t) s = .next u ∧ u.supState = 2 ∧ u.flag 0x190010 2 = true ∧ u.pwr.stop = true ∧
      u.rd (Reg.pwrStat 1) = (s.rd (Reg.pwrStat 1) + 1) % 2 ^ 32 ∧
      (s.panel = 0 → s.pwr.stop = false → u.dram = [] ∧ u.mgt.running = false ∧ ∀ d ∈ startOrder, u.domOn d = false) := by
  have hspec := State.fail_spec (s := s.at t) hstate hfail
  refine ⟨settle _, rfl, ?_⟩
  simp only [settle_supState, settle_flag, settle_pwr, settle_rd, settle_dram, settle_mgt, settle_domOn]
  exact hspec

theorem exec_nocDomainLost {s : State} (t : Nat) (hon : s.domOn 3 = true) :
    ∃ u, exec (.nocDomainLost t) s = .next u ∧ u.pwr.stop = true := by
  refine ⟨settle (if s.domOn 3 then (s.at t).orderedStop false 0 0 else s), rfl, ?_⟩
  rw [settle_pwr, if_pos hon]
  exact State.orderedStop_stop _ _ _ _

/-! ### Rounds and throttling (R450, R451, R457) -/

theorem exec_housekeepingRound (s : State) (t : Nat) (r : Round) :
    ∃ u, exec (.housekeepingRound r t) s = .next u ∧ u.rd Reg.thmRounds = (s.rd Reg.thmRounds + 1) % 2 ^ 32 ∧
      u.fld Reg.pwrSupStat 27 16 = r.sup % 4096 ∧ u.fld Reg.pwrHoldV 15 0 = r.hold % 65536 ∧
      (s.flag Reg.thmCtrl 0 = false → ∀ n, n < 56 → s.sensOn n = true → s.thm.broken.getD n false = false →
        u.fld (Reg.thmCh n) 15 0 = toBits 16 (r.sens.getD n 0) ∧ u.flag (Reg.thmCh n) 16 = true) := by
  obtain ⟨hcount, hsup, hhold, hsens⟩ := (s.at t).housekeeping_spec r
  refine ⟨settle _, rfl, ?_⟩
  simp only [settle_rd, settle_fld, settle_flag]
  exact ⟨hcount, hsup, hhold, fun hcheck n hn hon hvalid => hsens n hn ⟨hcheck, hon, hvalid⟩⟩

theorem exec_throttleGraceExpire {s : State} {t e : Nat} (hgrace : s.thm.grace = some e) (htime : e ≤ max s.now t)
    (hrise : s.enforced < s.thmAsked) :
    ∃ u, exec (.throttleGraceExpire t) s = .next u ∧ u.enforced = s.thmAsked ∧ u.thm = { s.thm with grace := none } ∧
      u.flag Reg.thmReq 16 = false ∧ u.flag 0x1A0010 1 = true := by
  have heq : (s.at t).graceExpire = (s.at t).enforce (s.at t).thmAsked := State.graceExpire_eq hgrace htime hrise
  refine ⟨settle (s.at t).graceExpire, rfl, ?_⟩
  rw [settle_enforced, settle_thm, settle_flag, settle_flag, heq]
  exact ⟨State.enforced_enforce _ (State.thmAsked_lt _), State.thm_enforce _ _, State.flag16_enforce _ _, State.event_enforce _ hrise⟩

theorem exec_throttleHoldExpire {s : State} {t e : Nat} (hbelow : s.thm.below = some e)
    (htime : e + s.fld Reg.thmGrace 31 16 * sec ≤ max s.now t) (hasked : s.thmAsked ≠ 0) :
    ∃ u, exec (.throttleHoldExpire t) s = .next u ∧ u.thmAsked = s.thmAsked - 1 ∧
      (s.thmAsked - 1 < s.enforced → u.enforced = s.thmAsked - 1) := by
  have heq : (s.at t).holdExpire = (s.at t).ask ((s.at t).thmAsked - 1) := State.holdExpire_eq hbelow htime hasked
  have hlt : s.thmAsked < 8 := s.thmAsked_lt
  refine ⟨settle (s.at t).holdExpire, rfl, ?_⟩
  rw [settle_thmAsked, settle_enforced, heq]
  exact (s.at t).ask_spec (k := s.thmAsked - 1) (by omega)

theorem exec_thmSensClr {s : State} {who : Requester} {data : Word} (h : s.accepts who Reg.thmSensClr (putBits data.toNat 0 0 1)) :
    ∃ u, exec (.thmSensClr who data) s = .next u ∧ u.rd Reg.thmBroken0 = 0 ∧ u.rd Reg.thmBroken1 = 0 ∧ u.rd Reg.thmExtBroken = 0 ∧
      (∀ n, u.thm.broken.getD n false = false ∧ u.thm.off.getD n 0 = 0 ∧ u.thm.extBad.getD n false = false) ∧
      s.wordsBut u [Reg.thmSensClr, Reg.thmBroken0, Reg.thmBroken1, Reg.thmExtBroken] := by
  obtain ⟨v, heq, hword⟩ := State.trigger_sensClr h
  obtain ⟨hlow, hhigh, hext⟩ := v.sensClear_marks
  refine ⟨settle (s.trigger who Reg.thmSensClr 0 data), rfl, ?_⟩
  simp only [settle_rd, settle_thm, heq]
  refine ⟨hlow, hhigh, hext, v.sensClear_thm, fun x hx => ?_⟩
  obtain ⟨hown, hmarks⟩ := not_or.1 (fun h => hx (List.mem_cons.2 h))
  exact (settle_rd _ x).trans ((State.sensClear_words x hmarks).trans (hword x (fun h => hown (List.mem_singleton.1 h))))

/-! ### The hold-up bank (R462) -/

theorem exec_holdupMeasure {s : State} (t : Nat) (hstep : s.pwr.step = 4) (hmeasured : s.pwr.measured = false) (htest : s.pwr.test = none) :
    ∃ u, exec (.holdupMeasure t) s = .next u ∧ u.pwr = { s.pwr with test := some (max s.now t, s.fld Reg.pwrHoldV 15 0), load := true } ∧
      .pin "HOLD_LOAD_EN" 0 true ∈ u.out := by
  have heq := State.holdMeasure_spec (s := s.at t) hstep hmeasured htest
  refine ⟨settle (s.at t).holdMeasure, rfl, ?_, settle_pin ?_⟩
  · rw [settle_pwr, heq]
    rfl
  · rw [heq]
    exact List.mem_cons_self ..

theorem exec_pwrHoldMeasured {s : State} {t x v : Nat} (htest : s.pwr.test = some (x, v))
    (htime : max s.now t ≤ x + s.fld Reg.pwrHoldTest 31 24 * 10 * ms) :
    ∃ u, exec (.pwrHoldMeasured t) s = .next u ∧
      s.HoldEnded u (s.fld Reg.pwrHoldTest 11 0 * (max s.now t - x) * 1000 / (max 1 (s.fld Reg.pwrHoldTest 23 16) * sec)) 5 := by
  have heq : (s.at t).holdMeasured = ((s.at t).holdEnd
      (s.fld Reg.pwrHoldTest 11 0 * (max s.now t - x) * 1000 / (max 1 (s.fld Reg.pwrHoldTest 23 16) * sec))).raise 0x190000 5 := by
    have htest' : (s.at t).pwr.test = some (x, v) := htest
    unfold State.holdMeasured
    rw [htest']
    exact if_pos htime
  have hended := (s.at t).holdEnd_ended
    (s.fld Reg.pwrHoldTest 11 0 * (max s.now t - x) * 1000 / (max 1 (s.fld Reg.pwrHoldTest 23 16) * sec)) (bit := 5) (by decide)
  rw [← heq] at hended
  refine ⟨settle (s.at t).holdMeasured.bootFlush, congrArg finish (if_pos ?_), hended.flush.pwr, hended.flush.cap, hended.flush.event, hended.flush.pin⟩
  rw [htest, hended.pwr]
  rfl

theorem exec_holdupMeasureTimeout {s : State} {t x v : Nat} (htest : s.pwr.test = some (x, v))
    (htime : x + s.fld Reg.pwrHoldTest 31 24 * 10 * ms < max s.now t) :
    ∃ u, exec (.holdupMeasureTimeout t) s = .next u ∧ s.HoldEnded u 0 3 := by
  have heq : (s.at t).holdTimeout = (((s.at t).holdEnd 0).raise 0x190000 3).hkLog 0x1900 (evt 0 3) 2 := by
    have htest' : (s.at t).pwr.test = some (x, v) := htest
    unfold State.holdTimeout
    rw [htest']
    exact if_pos htime
  have hended := ((s.at t).holdEnd_ended 0 (bit := 3) (by decide)).log 0x1900 (evt 0 3) 2
  rw [← heq] at hended
  refine ⟨settle (s.at t).holdTimeout.bootFlush, congrArg finish (if_pos ?_), hended.flush.pwr, hended.flush.cap, hended.flush.event, hended.flush.pin⟩
  rw [htest, hended.pwr]
  rfl

/-! ### O57 -/

/-- Settles O57, clause by clause: what an event's operation does after it has recorded the event (logging, stopping the device,
storing a waiting boot record) keeps the words that show it. -/
theorem powerAndTemperature : Obligations.PowerAndTemperature := by
  unfold Obligations.PowerAndTemperature
  intro s t
  refine ⟨fun k i feeds hnext hi htime => ?_, fun _ => exec_domainUp t, fun _ => exec_pwrBrace t, fun _ => exec_pwrNormal,
    fun _ => exec_pwrFail t, exec_nocDomainLost t, exec_housekeepingRound s t, fun _ => exec_throttleGraceExpire,
    fun _ => exec_throttleHoldExpire, fun _ _ => exec_thmSensClr, exec_holdupMeasure t, fun x v htest => ⟨fun htime => ?_, fun htime => ?_⟩⟩
  · exact fun sent status => ⟨exec_regulatorOn_good hnext hi htime sent status, exec_regulatorOn_bad hnext hi htime sent status,
      exec_regulatorOn_idle t sent status feeds⟩
  · obtain ⟨u, hexec, hended⟩ := exec_pwrHoldMeasured htest htime
    exact ⟨u, hexec, hended.pwr, hended.cap, hended.event, hended.pin⟩
  · obtain ⟨u, hexec, hended⟩ := exec_holdupMeasureTimeout htest htime
    exact ⟨u, hexec, hended.pwr, hended.cap, hended.event, hended.pin⟩

end Sys2Proof.Machine

/-! SUPPORT. Rejected and unmapped writes (R39, R46, R47, R53, R71-R73), and O7, O8 and O9. -/

namespace Sys2Proof.Machine

/-! ### Where the words of the ERR aggregator lie -/

theorem State.errNext_lt (s : State) : s.errNext < 64 := Nat.mod_lt _ (by decide)

theorem errWords_range {h x : Nat} (hh : h < 64) (hx : x ∈ errWords h) : x = 0x1010 ∨ 0x1040 ≤ x ∧ x < 0x1500 := by
  simp only [errWords, Reg.devErrHead, Reg.devErrLost, Reg.devErrTotal, Reg.devErrW0, Reg.devErrW1, Reg.devErrW2, Reg.devErrW3,
    List.mem_cons, List.not_mem_nil, or_false] at hx
  omega

/-- PAGE_ERR and COMMIT of a page are no words of the ERR aggregator. -/
theorem State.header_notMem_errWords (s : State) {base off : Nat} (hb : base % 0x1000 = 0) (hoff : off < 0x10 ∨ 0x10 < off ∧ off < 0x40) :
    base + off ∉ errWords s.errNext := fun h => by
  have := errWords_range s.errNext_lt h
  omega

/-- A recorded rejection stays recorded while the words of its entry stay. -/
theorem ErrRecorded.kept {s u v : State} {who addr code data : Nat} (h : ErrRecorded s u who addr code data)
    (k : ∀ x ∈ errWords s.errNext, v.rd x = u.rd x) : ErrRecorded s v who addr code data := by
  have flag : ∀ x ∈ errWords s.errNext, ∀ i, v.flag x i = u.flag x i := fun x hx i => by rw [State.flag, State.flag, k x hx]
  exact {
    word0 := (k _ (by simp [errWords])).trans h.word0
    word1 := (k _ (by simp [errWords])).trans h.word1
    word2 := (k _ (by simp [errWords])).trans h.word2
    word3 := (k _ (by simp [errWords])).trans h.word3
    head := (k _ (by simp [errWords])).trans h.head
    total := (k _ (by simp [errWords])).trans h.total
    event := (flag _ (by simp [errWords]) 0).trans h.event
    lost := fun hu => ⟨(flag _ (by simp [errWords]) 0).trans (h.lost hu).1, (flag _ (by simp [errWords]) 1).trans (h.lost hu).2⟩ }

theorem ErrRecorded.settle {s u : State} {who addr code data : Nat} (h : ErrRecorded s u who addr code data) :
    ErrRecorded s (settle u) who addr code data := h.kept (fun _ _ => settle_rd u _)

/-! ### PAGE_ERR (R46, R47) -/

theorem PageDef.base_aligned (p : PageDef) : p.base % 0x1000 = 0 := by
  unfold PageDef.base
  omega

theorem State.errEntry_rd_header {s : State} {base off who addr code data : Nat} (hb : base % 0x1000 = 0)
    (hoff : off < 0x10 ∨ 0x10 < off ∧ off < 0x40) : (s.errEntry who addr code data).rd (base + off) = s.rd (base + off) :=
  State.errEntry_words s who addr code data _ (s.header_notMem_errWords hb hoff)

/-- While STICKY is 1, a rejection leaves OFFSET and CODE and sets MORE (R47). -/
theorem State.pageErr_errEntry_sticky {s : State} {base off code who addr data : Nat} (hb : base % 0x1000 = 0)
    (h : s.flag (base + 0xC) 31 = true) :
    ((s.pageErr base off code).errEntry who addr code data).fld (base + 0xC) 27 0 = s.fld (base + 0xC) 27 0 ∧
    ((s.pageErr base off code).errEntry who addr code data).flag (base + 0xC) 30 = true := by
  have hpage : s.pageErr base off code = s.setFlag (base + 0xC) 30 true := if_pos h
  rw [State.fld, State.flag, State.errEntry_rd_header hb (by decide), hpage]
  exact ⟨s.fld_setFld_other _ 30 30 _ 27 0 (by decide) (by decide) (by decide) (by decide), s.flag_setFlag_same _ 30 true (by decide)⟩

/-- Settles O8: the entry of the ERR aggregator leaves PAGE_ERR alone, and a STICKY PAGE_ERR takes MORE only. -/
theorem stickyRejections : Obligations.StickyRejections := by
  unfold Obligations.StickyRejections
  intro s p _ _ hsticky
  refine ⟨fun who addr code data haddr => ?_, fun off code => ?_⟩
  · obtain ⟨hfld, hmore⟩ := State.pageErr_errEntry_sticky (off := addr % 0x400000 % 0x1000) (code := code) (who := requesterCode who)
      (addr := errAddr who addr) (data := data) p.base_aligned hsticky
    rw [← haddr] at hfld hmore ⊢
    exact ⟨hfld, hmore, State.reject_recorded s who addr code data⟩
  · obtain ⟨hfld, hmore⟩ := State.pageErr_errEntry_sticky (off := off) (code := code) (who := 0) (addr := p.base + off) (data := 0)
      p.base_aligned hsticky
    exact ⟨hfld, hmore, State.rejectCommit_recorded s p.base off code p.base_aligned⟩

/-- After a rejected write PAGE_ERR of its page holds the offset and the code, or MORE. -/
theorem State.reject_pageErr (s : State) (who : Requester) (addr code data : Nat) :
    (s.reject who addr code data).rd (addr % 0x400000 / 0x1000 * 0x1000 + 0xC) =
      s.pageErrAfter (addr % 0x400000 / 0x1000 * 0x1000) addr code := by
  have hoff : pageErrWord (addr % 0x400000 % 0x1000) code = pageErrWord addr code := by
    unfold pageErrWord
    omega
  rw [State.reject, State.errEntry_rd_header (by omega) (by decide), State.pageErr_rd, State.pageErrAfter, State.pageErrAfter, hoff]

/-! ### A rejected write -/

/-- What a rejection does beside its record: the event of a refused evacuation, the count of a refused store. -/
def rejectWords (code : Nat) : List Nat := if code = 0x801 then [0x80010] else if code = 0xC then [Reg.pwrStat 2] else []

theorem State.rejectWrite_after (s : State) (who : Requester) (addr code data : Nat) :
    (s.reject who addr code data).wordsBut (s.rejectWrite who addr code data) (rejectWords code) := by
  unfold State.rejectWrite rejectWords
  dsimp only
  split
  · exact State.wordsBut_raise (State.wordsBut_refl _ _) (List.mem_singleton_self _)
  · split
    · exact State.wordsBut_add (State.wordsBut_refl _ _) (List.mem_singleton_self _)
    · exact State.wordsBut_refl _ _

theorem rejectWords_range {code x : Nat} (h : x ∈ rejectWords code) : x = 0x80010 ∨ x = Reg.pwrStat 2 := by
  unfold rejectWords at h
  split at h
  · exact .inl (List.mem_singleton.1 h)
  · split at h
    · exact .inr (List.mem_singleton.1 h)
    · cases h

theorem State.rejectWrite_words (s : State) (who : Requester) (addr code data : Nat) :
    s.wordsBut (s.rejectWrite who addr code data)
      (errWords s.errNext ++ [addr % 0x400000 / 0x1000 * 0x1000 + 0xC] ++ rejectWords code) :=
  State.wordsBut_trans (State.wordsBut_mono (s.reject_words who addr code data) (fun _ => List.mem_append_left _))
    (State.wordsBut_mono (s.rejectWrite_after who addr code data) (fun _ => List.mem_append_right _))

theorem State.rejectWrite_recorded (s : State) (who : Requester) (addr code data : Nat) :
    ErrRecorded s (s.rejectWrite who addr code data) (requesterCode who) (errAddr who addr) code data := by
  refine (s.reject_recorded who addr code data).kept (fun x hx => s.rejectWrite_after who addr code data x (fun h => ?_))
  have hrange := errWords_range s.errNext_lt hx
  have hword := rejectWords_range h
  unfold Reg.pwrStat at hword
  omega

theorem State.rejectWrite_pageErr (s : State) (who : Requester) (addr code data : Nat) :
    (s.rejectWrite who addr code data).rd (addr % 0x400000 / 0x1000 * 0x1000 + 0xC) =
      s.pageErrAfter (addr % 0x400000 / 0x1000 * 0x1000) addr code := by
  rw [← s.reject_pageErr who addr code data]
  refine s.rejectWrite_after who addr code data _ (fun h => ?_)
  have hword := rejectWords_range h
  unfold Reg.pwrStat at hword
  omega

/-- A write that is no 64-bit access of the host is one write of its size (R38). -/
theorem exec_registerWrite_single {who : Requester} {size : Nat} (h : ¬(who = .host ∧ size = 8)) (s : State) (addr : Nat) (data : BitVec 64) :
    exec (.registerWrite who addr size data) s = .next (settle (s.writeWord who addr size (data.toNat % 2 ^ 32))) := by
  show finish (s.writeAccess who addr size data) = _
  rw [State.writeAccess, if_neg h, finish]

/-- A command that changed no part before its end changes none at its end. -/
theorem Kept.settled_part {s t : State} (k : Kept 0 s t) (q : Part) : q.same s (settle t) :=
  (Kept.step settle_kept rfl k).part q (Nat.zero_testBit _)

/-- Settles O7: a rejected write is `State.rejectWrite`, whose words the lemmas above name. -/
theorem rejectedWrite : Obligations.RejectedWrite := by
  unfold Obligations.RejectedWrite
  intro s who addr size data p c d hsize hp hcode hc
  have hw : s.writeWord who addr size d = s.rejectWrite who addr c d :=
    (State.writeWord_rejected hp (hcode.symm ▸ hc)).trans (by rw [hcode])
  have hbase := State.reached_base hp
  refine ⟨settle (s.rejectWrite who addr c d), ?_, State.rejectWrite_kept.settled_part, (s.rejectWrite_recorded who addr c d).settle, ?_,
    State.wordsBut_settle ?_⟩
  · exact (exec_registerWrite_single hsize s addr data).trans (congrArg (fun t => Host.Outcome.next (settle t)) hw)
  · rw [settle_rd, hbase]
    exact s.rejectWrite_pageErr who addr c d
  · rw [hbase]
    exact s.rejectWrite_words who addr c d

/-! ### Unmapped accesses (R39) -/

theorem State.reached_unmapped {s : State} {a : Nat}
    (h : pageOf a = none ∨ ∃ p, pageOf a = some p ∧ p.lastListed < a % 0x1000 / 4 * 4) : s.reached a = none := by
  unfold State.reached
  rcases h with h | ⟨p, hp, hlast⟩
  · rw [h]
  · rw [hp]
    exact if_pos (.inl hlast)

theorem State.readWord_unmapped {s : State} {a : Nat} (h : s.reached a = none) : s.readWord a = 0 := by
  rw [State.readWord, h]

/-- Settles O9: such an address reaches no page, so a read gives 0 and a write is `State.rejectUnmapped`. -/
theorem unmappedAccess : Obligations.UnmappedAccess := by
  unfold Obligations.UnmappedAccess
  intro s who addr size data hsize hnone
  have hreach : s.reached (addr % 0x400000) = none := State.reached_unmapped hnone
  refine ⟨State.readWord_unmapped hreach, settle (s.rejectUnmapped who addr (data.toNat % 2 ^ 32)), ?_,
    State.rejectUnmapped_kept.settled_part, ?_, State.wordsBut_settle (State.errEntry_words s _ _ _ _)⟩
  · exact (exec_registerWrite_single hsize s addr data).trans
      (congrArg (fun t => Host.Outcome.next (settle t)) (State.writeWord_unmapped hreach))
  · exact (State.errEntry_recorded s _ _ _ _ (requesterCode_lt who)).settle

end Sys2Proof.Machine

/-! SUPPORT. Writes of shadowed words, and the codes of a write while a commit is pending (R54, R58, R60, R64), with O11, O12 and O13. -/

namespace Sys2Proof.Machine

/-! ### Shadows (R58) -/

/-- A shadow just written reads as the word written. -/
theorem State.rdShadow_wrShadow_same (s : State) (a v : Nat) : (s.wrShadow a v).rdShadow a = v % 2 ^ 32 := by
  have hbelow : (s.shadow.filter (fun e => e.1 < a)).find? (fun e => e.1 == a) = none := by
    rw [List.find?_eq_none]
    intro e he
    have := (List.mem_filter.1 he).2
    simp only [decide_eq_true_eq] at this
    simp only [beq_iff_eq]
    omega
  simp [State.rdShadow, State.wrShadow, List.find?_append, hbelow]

/-- A write of one shadow leaves every other shadow alone. -/
theorem State.rdShadow_wrShadow_ne (s : State) {a x : Nat} (v : Nat) (h : x ≠ a) : (s.wrShadow a v).rdShadow x = s.rdShadow x := by
  have hfind : (s.wrShadow a v).shadow.find? (fun e => e.1 == x) = s.shadow.find? (fun e => e.1 == x) := by
    have hax : (a == x) = false := beq_false_of_ne (Ne.symm h)
    have hside : ∀ q : Nat × Word → Bool, (∀ e, e.1 = x → q e = true) →
        (s.shadow.filter q).find? (fun e => e.1 == x) = s.shadow.find? (fun e => e.1 == x) := fun q hq => by
      rw [List.find?_filter]
      congr 1
      funext e
      by_cases he : e.1 = x <;> simp [he, hq]
    have hnone : ∀ q : Nat × Word → Bool, (∀ e, e.1 = x → q e = false) →
        (s.shadow.filter q).find? (fun e => e.1 == x) = none := fun q hq => by
      rw [List.find?_eq_none]
      intro e he hx
      have := (List.mem_filter.1 he).2
      rw [hq e (beq_iff_eq.1 hx)] at this
      cases this
    rw [State.wrShadow, List.find?_append, List.find?_cons, hax]
    rcases Nat.lt_or_gt_of_ne h with hlt | hgt
    · rw [hside _ (fun e he => by simp [he, hlt]), hnone _ (fun e he => by simp [he]; omega), Option.or_none]
    · rw [hnone _ (fun e he => by simp [he]; omega), hside _ (fun e he => by simp [he, hgt]), Option.none_or]
  have hrd : (s.wrShadow a v).rd x = s.rd x := rfl
  rw [State.rdShadow, hfind, hrd, State.rdShadow]

theorem settle_rdShadow (s : State) (a : Nat) : (settle s).rdShadow a = s.rdShadow a := by
  rw [State.rdShadow, settle_shadow, settle_rd, State.rdShadow]

/-- A word with a shadowed field stores its shadow. -/
theorem State.storeWord_shadowed {s : State} {a data : Nat} {r : RegRow} (h : ∃ f ∈ r.fields, f.kind = .rws) :
    s.storeWord a r data = s.wrShadow a (r.stored 0 (s.rdShadow a) data) :=
  if_pos (by simpa using h)

/-- A write behind the header of the raster timing page starts nothing: no Caravan entry lies there. -/
theorem State.rasEffect_timing {s : State} {a old data : Nat} (h : a < 0x11000) : s.rasEffect a old data = s := by
  have hentry : crvEntryOf a = none := by
    unfold crvEntryOf
    rw [if_neg (by omega), if_neg (by omega), if_neg (by omega)]
  rw [State.rasEffect, if_neg (by unfold Reg.rasCrvCtrl; omega), hentry]

theorem State.blockEffect_timing {s : State} {p : PageDef} {off old data : Nat} (hcode : p.code = 0x01) (hindex : p.index = 0)
    (hoff : off < 0x1000) : s.blockEffect p off old data = s := by
  have hras : s.blockEffect p off old data = s.rasEffect (p.base + off) old data := by simp [State.blockEffect, hcode]
  rw [hras]
  exact State.rasEffect_timing (by unfold PageDef.base; omega)

/-- An accepted write of a shadowed word on the raster timing page or a flat-layer page writes its shadow and does nothing else. -/
theorem State.writeWord_shadowed {s : State} {who : Requester} {addr data i : Nat} {p : PageDef} {r : RegRow}
    (hp : s.reached (addr % 0x400000) = some p) (hacc : s.writeCode who (isPriv who addr) p (addr % 0x400000) 4 data = 0)
    (hcode : p.code = 0x01 ∧ p.index = 0 ∨ p.code = 0x09) (hoff : 0x40 ≤ addr % 0x400000 % 0x1000)
    (hrow : rowFor p.rows (addr % 0x400000 % 0x1000) = some (r, i)) (hrws : ∃ f ∈ r.fields, f.kind = .rws) :
    s.writeWord who addr 4 data = s.wrShadow (addr % 0x400000) (r.stored 0 (s.rdShadow (addr % 0x400000)) data) := by
  have heffect : ∀ t : State, t.blockEffect p (addr % 0x400000 % 0x1000) (s.rd (addr % 0x400000)) data = t := fun t => by
    rcases hcode with ⟨hras, hpage⟩ | hlyr
    · exact State.blockEffect_timing hras hpage (Nat.mod_lt _ (by decide))
    · exact State.blockEffect_none (.inl hlyr)
  rw [State.writeWord_accepted hp hacc, State.marigoldSees_behind_header hoff, State.acceptWord_row hoff hrow, heffect,
    State.storeWord_shadowed hrws]
  exact State.certCheck_same _ _ rfl

/-- Settles O11: the write is one `wrShadow`, and in the stored word a shadowed field holds the bits written. -/
theorem shadowsWritten : Obligations.ShadowsWritten := by
  unfold Obligations.ShadowsWritten
  intro s who addr data p r i a d hp hacc hcode hoff hrow hrws
  have hlaid := State.reached_row_laid hp hrow
  have hkept : Kept (maskOf [.shadow]) s (settle (s.wrShadow a (r.stored 0 (s.rdShadow a) d))) :=
    Kept.step settle_kept rfl State.wrShadow_kept
  refine ⟨settle (s.wrShadow a (r.stored 0 (s.rdShadow a) d)), ?_, settle_regs _, fun q hq => hkept.parts q (by simpa using hq),
    fun f hf hkind => ?_, fun x hx => ?_⟩
  · exact (exec_registerWrite_word s who addr data).trans
      (congrArg (fun t => Host.Outcome.next (settle t)) (State.writeWord_shadowed hp hacc hcode hoff hrow hrws))
  · obtain ⟨hle, h32⟩ := (of_decide_eq_true hlaid).2 f hf
    rw [settle_rdShadow, State.rdShadow_wrShadow_same]
    refine bitsOf_congr hle fun j hlo hhi => ?_
    rw [Nat.testBit_mod_two_pow, decide_eq_true (show j < 32 by omega), Bool.true_and, RegRow.stored_testBit hlaid hf _ _ _ hlo hhi, hkind]
    rfl
  · rw [settle_rdShadow, State.rdShadow_wrShadow_ne _ _ hx]

/-! ### The code that is reported (R54) -/

/-- Where a check fails, the code reported is that of a failing check, and none comes before it in the order of R54. -/
theorem firstCode_min {l : List Nat} {c : Nat} (hc : c ∈ l) (hne : c ≠ 0) :
    firstCode l ≠ 0 ∧ firstCode l ∈ l ∧ codeRank (firstCode l) ≤ codeRank c := by
  induction l generalizing c with
  | nil => cases hc
  | cons d l ih =>
    by_cases hd : d = 0
    · have hl : c ∈ l := (List.mem_cons.1 hc).resolve_left (fun e => hne (e.trans hd))
      obtain ⟨hnz, hmem, hrank⟩ := ih hl hne
      have hfirst : firstCode (d :: l) = firstCode l := if_pos hd
      rw [hfirst]
      exact ⟨hnz, List.mem_cons_of_mem _ hmem, hrank⟩
    · by_cases hfirst : firstCode l = 0 ∨ codeRank d ≤ codeRank (firstCode l)
      · have heq : firstCode (d :: l) = d := (if_neg hd).trans (if_pos hfirst)
        rw [heq]
        refine ⟨hd, List.mem_cons_self .., ?_⟩
        rcases List.mem_cons.1 hc with rfl | hl
        · exact Nat.le_refl _
        · obtain ⟨hnz, -, hrank⟩ := ih hl hne
          exact (hfirst.resolve_left hnz).trans hrank
      · have heq : firstCode (d :: l) = firstCode l := (if_neg hd).trans (if_neg hfirst)
        obtain ⟨hnz, hlt⟩ := not_or.1 hfirst
        have hmem : firstCode l ∈ l := by
          obtain ⟨e, he, hez⟩ : ∃ e ∈ l, e ≠ 0 := by simpa [firstCode_eq_zero] using hnz
          exact (ih he hez).2.1
        rw [heq]
        refine ⟨hnz, List.mem_cons_of_mem _ hmem, ?_⟩
        rcases List.mem_cons.1 hc with rfl | hl
        · omega
        · exact (ih hl hne).2.2

/-- A failing check that comes before every other one is the one reported. -/
theorem firstCode_eq {l : List Nat} {c : Nat} (hc : c ∈ l) (hne : c ≠ 0) (hmin : ∀ d ∈ l, d ≠ 0 → d ≠ c → codeRank c < codeRank d) :
    firstCode l = c := by
  obtain ⟨hnz, hmem, hrank⟩ := firstCode_min hc hne
  by_contra hother
  have := hmin _ hmem hnz hother
  omega

/-- Before COMMIT_PENDING come ADDRESS_WINDOW, NOT_ACTIVE, PRIVILEGE and RESERVED_BITS alone. -/
theorem codeRank_pending_lt {c : Nat} (hc : c ≠ 8) (hout : c ∉ [0xB, 5, 4, 3]) : codeRank 8 < codeRank c := by
  have hpending : codeRank 8 = 5 := rfl
  simp only [List.mem_cons, List.not_mem_nil, or_false, not_or] at hout
  obtain ⟨h1, h2, h3, h4⟩ := hout
  have hlater : ∀ {q : Prop} [Decidable q] {m n : Nat}, 5 < m → 5 < n → 5 < if q then m else n := fun hm hn => by split <;> assumption
  rw [hpending, codeRank, if_neg h1, if_neg h2, if_neg h3, if_neg h4, if_neg hc]
  iterate 10 refine hlater (by decide) ?_
  omega

theorem State.writeCode_aligned {s : State} {who : Requester} {priv : Bool} {p : PageDef} {a data : Nat} (halign : a % 4 = 0) :
    s.writeCode who priv p a 4 data =
      firstCode (codeIf (decide (s.pageState p ≠ 0 ∧ s.pageState p ≠ 2) && !alwaysOpen (a % 0x1000) && !s.goHeld p (a % 0x1000) data) 5 ++
        (if a % 0x1000 < 0x40 then s.headerCodes p (a % 0x1000) data else s.wordCodes who priv p (a % 0x1000) data)) :=
  if_neg (by omega)

/-- A page that takes writes adds no check of its own. -/
theorem State.writeCode_open {s : State} {who : Requester} {priv : Bool} {p : PageDef} {a data : Nat} (halign : a % 4 = 0)
    (hopen : s.pageState p = 0 ∨ s.pageState p = 2) :
    s.writeCode who priv p a 4 data =
      firstCode (if a % 0x1000 < 0x40 then s.headerCodes p (a % 0x1000) data else s.wordCodes who priv p (a % 0x1000) data) := by
  have hstate : decide (s.pageState p ≠ 0 ∧ s.pageState p ≠ 2) = false := decide_eq_false (by omega)
  rw [State.writeCode_aligned halign, hstate]
  rfl

/-- A shadowed word's checks hold COMMIT_PENDING while the page's commit is pending (R60). -/
theorem State.pending_mem_wordCodes {s : State} {who : Requester} {priv : Bool} {p : PageDef} {off data i : Nat} {r : RegRow}
    (hrow : rowFor p.rows off = some (r, i)) (hrws : ∃ f ∈ r.fields, f.kind = .rws) (hpend : s.commitPending p = true) :
    8 ∈ s.wordCodes who priv p off data := by
  have hany : (r.fields.any (fun f => f.kind == .rws) && s.commitPending p) = true := by simpa [hpend] using hrws
  simp only [State.wordCodes, hrow, hany, codeIf, List.mem_append, if_true]
  exact .inl (.inl (.inr (List.mem_singleton_self 8)))

theorem State.headerCodes_commit (s : State) (p : PageDef) (data : Nat) :
    s.headerCodes p 0x1C data = codeIf (decide (bitsOf data 15 4 ≠ 0)) 3 ++ codeIf (bitOf data 0 && !p.shadow) 1 ++
      codeIf ((bitOf data 0 && bitOf data 3) || (p.group && (bitOf data 0 || bitOf data 3))) 6 := rfl

/-- The code of a write to COMMIT without a reserved bit set, of a page that takes writes. -/
theorem State.writeCode_commit {s : State} {who : Requester} {priv : Bool} {p : PageDef} {a data : Nat} (halign : a % 4 = 0)
    (hoff : a % 0x1000 = 0x1C) (hopen : s.pageState p = 0 ∨ s.pageState p = 2) (hres : bitsOf data 15 4 = 0) :
    s.writeCode who priv p a 4 data = firstCode (codeIf (bitOf data 0 && !p.shadow) 1 ++
      codeIf ((bitOf data 0 && bitOf data 3) || (p.group && (bitOf data 0 || bitOf data 3))) 6) := by
  rw [State.writeCode_open halign hopen, hoff, if_pos (by decide), State.headerCodes_commit, hres]
  rfl

/-- Settles O12: COMMIT_PENDING is among the codes of the word, and R54 puts only the four named codes before it. -/
theorem pendingCommitHoldsShadows : Obligations.PendingCommitHoldsShadows := by
  unfold Obligations.PendingCommitHoldsShadows
  intro s who priv p a data halign
  refine ⟨fun r i hoff hrow hrws hpend => ?_, fun hshadow hoff hreq hres hopen => ?_⟩
  · have hmem : 8 ∈ s.wordCodes who priv p (a % 0x1000) data := State.pending_mem_wordCodes hrow hrws hpend
    refine ⟨fun hzero => ?_, fun hopen hafter => ?_⟩
    · rw [State.writeCode_aligned halign, if_neg (Nat.not_lt.2 hoff), firstCode_eq_zero] at hzero
      exact absurd (hzero 8 (List.mem_append_right _ hmem)) (by decide)
    · rw [State.writeCode_open halign hopen, if_neg (Nat.not_lt.2 hoff)]
      exact firstCode_eq hmem (by decide) (fun d hd _ hother => codeRank_pending_lt hother (hafter d hd))
  · rw [State.writeCode_commit halign hoff hopen hres, hreq, hshadow]
    cases bitOf data 3 <;> cases p.group <;> rfl

/-! ### The COMMIT register of an enrolled page (R64) -/

/-- COMMIT of an enrolled page reads PENDING and DONE of the group. -/
theorem State.commitWord_group {s : State} {p : PageDef} (hgroup : p.group = true) :
    bitOf (s.commitWord p) 1 = s.flag Reg.devGcommit 1 ∧ bitOf (s.commitWord p) 2 = s.flag Reg.devGcommit 2 := by
  have hbits : ∀ (n : Nat) (x y : Bool), bitOf (n * 65536 + (if x then 2 else 0) + (if y then 4 else 0)) 1 = x ∧
      bitOf (n * 65536 + (if x then 2 else 0) + (if y then 4 else 0)) 2 = y := by
    intro n x y
    cases x <;> cases y <;> simp only [bitOf, if_true, Bool.false_eq_true, if_false, beq_iff_eq, beq_eq_false_iff_ne] <;> omega
  have hword : s.commitWord p = bitsOf (s.rd (p.base + 0x1C)) 31 16 * 65536 + (if s.flag Reg.devGcommit 1 then 2 else 0) +
      (if s.flag Reg.devGcommit 2 then 4 else 0) := if_pos hgroup
  rw [hword]
  exact hbits _ _ _

/-- A rejected write leaves DEV_GCOMMIT and the COMMIT registers alone. -/
theorem State.rejectWrite_commit (s : State) (who : Requester) {addr code data : Nat} (hcode : rejectWords code = []) :
    (s.rejectWrite who addr code data).rd Reg.devGcommit = s.rd Reg.devGcommit ∧
    ∀ x, x % 0x1000 = 0x1C → (s.rejectWrite who addr code data).rd x = s.rd x := by
  have hout : ∀ x, x = 0x50 ∨ x % 0x1000 = 0x1C →
      x ∉ errWords s.errNext ++ [addr % 0x400000 / 0x1000 * 0x1000 + 0xC] ++ rejectWords code := fun x hx h => by
    rw [hcode, List.append_nil, List.mem_append, List.mem_singleton] at h
    rcases h with h | h
    · have := errWords_range s.errNext_lt h
      omega
    · omega
  exact ⟨s.rejectWrite_words who addr code data _ (hout _ (.inl rfl)), fun x hx => s.rejectWrite_words who addr code data x (hout x (.inr hx))⟩

/-- Settles O13: CONFLICT is the one code left, and the rejection leaves both commit registers alone. -/
theorem enrolledPagesFollowGroup : Obligations.EnrolledPagesFollowGroup := by
  unfold Obligations.EnrolledPagesFollowGroup
  intro s who addr data p a d hp hgroup hshadow hoff halign
  obtain ⟨hpending, hdone⟩ := State.commitWord_group (s := s) hgroup
  refine ⟨hpending, hdone, if_pos hgroup, fun hreq hres hopen => ?_⟩
  have hcode : s.writeCode who (isPriv who addr) p a 4 d = 6 := by
    rw [State.writeCode_commit (by omega) hoff hopen hres, hshadow, hgroup]
    rcases hreq with h | h <;> rw [h]
    · cases bitOf d 3 <;> rfl
    · cases bitOf d 0 <;> rfl
  have hw : s.writeWord who addr 4 d = s.rejectWrite who addr 6 d :=
    (State.writeWord_rejected hp (hcode.symm ▸ by decide)).trans (by rw [hcode])
  obtain ⟨hgcommit, hcommit⟩ := s.rejectWrite_commit who (addr := addr) (data := d) (code := 6) rfl
  refine ⟨hcode, settle (s.rejectWrite who addr 6 d), ?_, (settle_rd _ _).trans hgcommit, (settle_rd _ _).trans (hcommit a hoff)⟩
  exact (exec_registerWrite_word s who addr data).trans (congrArg (fun t => Host.Outcome.next (settle t)) hw)

end Sys2Proof.Machine

/-! SUPPORT. Interrupts: vectors that are answered, routes in force, and the writes of IRQ_FORCE and of the interrupt controller
(R42, R49, R74, R75), with O14. -/

namespace Sys2Proof.Machine

/-! ### Accepted writes -/

/-- An accepted write is of an aligned word, and none of its checks fails. -/
theorem State.writeCode_zero {s : State} {who : Requester} {priv : Bool} {p : PageDef} {a data : Nat} (h : s.writeCode who priv p a 4 data = 0) :
    a % 4 = 0 ∧ ∀ c ∈ (if a % 0x1000 < 0x40 then s.headerCodes p (a % 0x1000) data else s.wordCodes who priv p (a % 0x1000) data), c = 0 := by
  have halign : a % 4 = 0 := by
    by_contra hodd
    have hcode : s.writeCode who priv p a 4 data =
        if p.code = 0x00 ∧ (State.devCheck p.index (a % 0x1000 / 4 * 4) 0).contains 0xB then 0xB else 0xA := if_pos (.inr hodd)
    rw [hcode] at h
    split at h <;> cases h
  rw [State.writeCode_aligned halign, firstCode_eq_zero] at h
  exact ⟨halign, fun c hc => h c (List.mem_append_right _ hc)⟩

theorem mem_codeIf {b : Bool} {c : Nat} (h : b = true) : c ∈ codeIf b c := by
  rw [codeIf, if_pos h]
  exact List.mem_singleton_self c

theorem State.marigoldSees_other {s : State} {who : Requester} {addr data : Nat} {p : PageDef} (h : addr % 0x1000 ≠ 0x10) :
    s.marigoldSees who addr p data = s := by
  rw [State.marigoldSees, if_neg (fun hpriv => h hpriv.2)]

/-- An accepted write of a plain word stores the word and starts what the block gives it. -/
theorem State.writeWord_row {s : State} {who : Requester} {addr data i : Nat} {p : PageDef} {r : RegRow}
    (hp : s.reached (addr % 0x400000) = some p) (hacc : s.writeCode who (isPriv who addr) p (addr % 0x400000) 4 data = 0)
    (hoff : 0x40 ≤ addr % 0x400000 % 0x1000) (hrow : rowFor p.rows (addr % 0x400000 % 0x1000) = some (r, i))
    (hplain : ∀ f ∈ r.fields, f.kind ≠ .rws) :
    s.writeWord who addr 4 data = ((s.wr (addr % 0x400000) (r.stored (stickyMask (addr % 0x400000)) (s.rd (addr % 0x400000)) data)).blockEffect
      p (addr % 0x400000 % 0x1000) (s.rd (addr % 0x400000)) data).certCheck s := by
  rw [State.writeWord_accepted hp hacc, State.marigoldSees_behind_header hoff, State.acceptWord_row hoff hrow, State.storeWord_plain hplain]

/-! ### Rows of plain fields -/

/-- The bits of a sum of different powers of two. -/
theorem sum_two_pow_testBit (c : Nat → Bool) (n j : Nat) :
    ((List.range n).map (fun i => if c i then 0 else 2 ^ i)).sum.testBit j = (decide (j < n) && !c j) := by
  induction n generalizing j with
  | zero => simp
  | succ n ih =>
    have htop : ∀ k, (if c n then 0 else 2 ^ n).testBit k = (decide (n = k) && !c n) := fun k => by
      cases c n <;> simp [Nat.testBit_two_pow]
    rw [List.range_succ, List.map_append, List.sum_append, List.map_singleton, List.sum_singleton, testBit_add_of_disjoint (fun k => ?_),
      ih, htop]
    · by_cases hj : j = n
      · simp [hj]
      · have hlt : j < n + 1 ↔ j < n := by omega
        simp [hlt, Ne.symm hj]
    · rw [ih, htop]
      by_cases hk : k < n
      · have hne : n ≠ k := by omega
        simp [hne]
      · simp [hk]

/-- The reserved bits of a row are those of the word that no field covers. -/
theorem RegRow.reserved_testBit (r : RegRow) (j : Nat) :
    r.reserved.testBit j = (decide (j < 32) && !r.fields.any (fun f => decide (f.lo ≤ j ∧ j ≤ f.hi))) :=
  sum_two_pow_testBit (fun j => r.fields.any (fun f => decide (f.lo ≤ j ∧ j ≤ f.hi))) 32 j

/-- A word of plain fields without a reserved bit set is stored as it is written (R11). -/
theorem RegRow.stored_rw {r : RegRow} (hr : r.laid = true) (hrw : ∀ f ∈ r.fields, f.kind = .rw) {sticky old data : Nat}
    (hres : Nat.land data r.reserved = 0) (h32 : data < 2 ^ 32) : r.stored sticky old data = data := by
  obtain ⟨hbeside, hbits⟩ := of_decide_eq_true hr
  have hle : ∀ f ∈ r.fields, f.lo ≤ f.hi := fun f hf => (hbits f hf).1
  refine Nat.eq_of_testBit_eq fun j => ?_
  by_cases hcover : ∃ f ∈ r.fields, f.lo ≤ j ∧ j ≤ f.hi
  · obtain ⟨f, hf, hlo, hhi⟩ := hcover
    rw [RegRow.stored_testBit hr hf _ _ _ hlo hhi, hrw f hf]
    rfl
  · have hstored : (r.stored sticky old data).testBit j = false := by
      rw [RegRow.stored, stored_sum_testBit hbeside hle, List.any_eq_false]
      intro f hf
      rw [FieldDef.stored_testBit (hle f hf), decide_eq_false (fun h => hcover ⟨f, hf, h⟩)]
      exact Bool.false_ne_true
    rw [hstored]
    by_cases hj : j < 32
    · have hreserved : r.reserved.testBit j = true := by
        rw [RegRow.reserved_testBit, decide_eq_true hj, Bool.true_and, Bool.not_eq_true', List.any_eq_false]
        exact fun f hf h => hcover ⟨f, hf, of_decide_eq_true h⟩
      have hand : (data &&& r.reserved).testBit j = false := by
        rw [show data &&& r.reserved = 0 from hres, Nat.zero_testBit]
      rwa [Nat.testBit_and, hreserved, Bool.and_true, eq_comm] at hand
    · exact (Nat.testBit_lt_two_pow (lt_of_lt_of_le h32 (Nat.pow_le_pow_right (by decide) (Nat.le_of_not_lt hj)))).symm

/-- An accepted write sets no reserved bit. -/
theorem State.accepted_reserved {s : State} {who : Requester} {priv : Bool} {p : PageDef} {a data i : Nat} {r : RegRow}
    (h : s.writeCode who priv p a 4 data = 0) (hoff : 0x40 ≤ a % 0x1000) (hrow : rowFor p.rows (a % 0x1000) = some (r, i)) :
    Nat.land data r.reserved = 0 := by
  have hcodes := (State.writeCode_zero h).2
  rw [if_neg (Nat.not_lt.2 hoff)] at hcodes
  by_contra hres
  have hmem : 3 ∈ s.wordCodes who priv p (a % 0x1000) data := by
    simp only [State.wordCodes, hrow, List.mem_append]
    exact .inl (.inl (.inl (.inr (mem_codeIf (decide_eq_true hres)))))
  exact absurd (hcodes 3 hmem) (by decide)

/-! ### The interrupt controller's page (R74) -/

theorem pageOf_intc {a : Nat} (h : a / 0x1000 = 2) : pageOf a = some (page 0 2 3 0 rowsDevIntc) := by
  have hcode : a / 0x10000 = 0 := by omega
  rw [pageOf, if_pos (by omega), hcode, h]
  rfl

/-- An accepted write to a word of that page other than EOI stores the word; EOI's starts what `devEffect` says. -/
theorem State.writeWord_intc {s : State} {who : Requester} {a data i : Nat} {r : RegRow} (ha : a / 0x1000 = 2) (hacc : s.accepts who a data)
    (hoff : 0x40 ≤ a % 0x1000) (hrow : rowFor rowsDevIntc (a % 0x1000) = some (r, i)) (hplain : ∀ f ∈ r.fields, f.kind ≠ .rws) :
    r.laid = true ∧ Nat.land data r.reserved = 0 ∧
    s.writeWord who a 4 data = (s.wr a (r.stored (stickyMask a) (s.rd a) data)).devEffect 2 (a % 0x1000) data := by
  obtain ⟨p, hp, hcode⟩ := hacc
  have hmod : a % 0x400000 = a := Nat.mod_eq_of_lt (by omega)
  rw [hmod] at hp hcode
  have hpage : p = page 0 2 3 0 rowsDevIntc := Option.some.inj ((State.reached_pageOf hp).symm.trans (pageOf_intc ha))
  have hrow' : rowFor p.rows (a % 0x1000) = some (r, i) := by rw [hpage]; exact hrow
  refine ⟨State.reached_row_laid hp hrow', State.accepted_reserved hcode hoff hrow', ?_⟩
  have hw := State.writeWord_row (s := s) (who := who) (addr := a) (data := data) (by rw [hmod]; exact hp) (by rw [hmod]; exact hcode)
    (by rw [hmod]; exact hoff) (by rw [hmod]; exact hrow') hplain
  rw [hmod] at hw
  have heffect : ∀ t : State, t.blockEffect p (a % 0x1000) (s.rd a) data = t.devEffect 2 (a % 0x1000) data := fun t => by rw [hpage]; rfl
  rw [hw, heffect]
  exact State.certCheck_same _ _ (State.devEffect_kept.secu.resolve_left (by decide))

theorem State.devEffect_intc {s : State} {off data : Nat} (h : off ≠ 0x50) : s.devEffect 2 off data = s := by
  rw [State.devEffect, if_neg (by omega), if_neg (by omega)]

/-- Its plain words are stored as they are written. -/
theorem State.writeWord_intc_rw {s : State} {who : Requester} {a i : Nat} {data : Word} {r : RegRow} (ha : a / 0x1000 = 2)
    (hacc : s.accepts who a data.toNat) (hoff : 0x40 ≤ a % 0x1000) (heoi : a % 0x1000 ≠ 0x50)
    (hrow : rowFor rowsDevIntc (a % 0x1000) = some (r, i)) (hrw : ∀ f ∈ r.fields, f.kind = .rw) :
    s.writeWord who a 4 data.toNat = s.wr a data.toNat := by
  obtain ⟨hlaid, hres, hw⟩ := State.writeWord_intc ha hacc hoff hrow (fun f hf => by rw [hrw f hf]; decide)
  rw [hw, State.devEffect_intc heoi, RegRow.stored_rw hlaid hrw hres data.isLt]

/-! ### Vectors that are answered (R75) -/

/-- The message of vector `v` has gone out, or waits in the MSI-X table where its entry there is masked. -/
def State.Answers (s : State) (v : Nat) : Prop :=
  (bitOf s.msixMask v = false → .msix v ∈ s.out) ∧ (bitOf s.msixMask v = true → bitOf s.msixPend v = true)

/-- A vector that goes to the host is answered by its message. -/
theorem State.sendMsix_answers {s : State} {v : Nat} (h : s.flag (Reg.devIntcTarget v) 0 = true) : (s.sendMsix v).Answers v := by
  rw [State.sendMsix, if_pos h]
  cases hmask : bitOf s.msixMask v
  · refine ⟨fun _ => List.mem_cons_self .., fun hm => ?_⟩
    exact absurd (hmask.symm.trans hm) Bool.false_ne_true
  · refine ⟨fun hm => absurd (hm.symm.trans hmask) Bool.false_ne_true, fun _ => ?_⟩
    show bitOf (s.msixPend ||| 2 ^ v) v = true
    rw [bitOf_testBit, Nat.testBit_or, Nat.testBit_two_pow_self, Bool.or_true]

/-- A message of another vector takes no answer back. -/
theorem State.Answers.sendMsix {s : State} {v : Nat} (h : s.Answers v) (w : Nat) : (s.sendMsix w).Answers v := by
  rw [State.sendMsix]
  split
  · split
    · refine ⟨h.1, fun hm => ?_⟩
      show bitOf (s.msixPend ||| 2 ^ w) v = true
      have hpend := h.2 hm
      rw [bitOf_testBit] at hpend
      rw [bitOf_testBit, Nat.testBit_or, hpend, Bool.true_or]
    · exact ⟨fun hm => List.mem_cons_of_mem _ (h.1 hm), h.2⟩
  · exact h

theorem State.Answers.foldl {s : State} {v : Nat} (h : s.Answers v) (l : List Nat) : (l.foldl State.sendMsix s).Answers v := by
  induction l generalizing s with
  | nil => exact h
  | cons w l ih => exact ih (h.sendMsix w)

theorem State.sendMsix_regs (s : State) (v : Nat) : (s.sendMsix v).regs = s.regs := by rw [State.sendMsix_eq]

theorem State.flag_of_regs {s t : State} (h : t.regs = s.regs) (a i : Nat) : t.flag a i = s.flag a i := by
  rw [State.flag, State.flag, State.rd, State.rd, h]

theorem State.foldl_sendMsix_answers {s : State} {v : Nat} {l : List Nat} (hv : v ∈ l) (h : s.flag (Reg.devIntcTarget v) 0 = true) :
    (l.foldl State.sendMsix s).Answers v := by
  induction l generalizing s with
  | nil => cases hv
  | cons w l ih =>
    rcases List.mem_cons.1 hv with rfl | hl
    · exact (State.sendMsix_answers h).foldl l
    · exact ih hl ((State.flag_of_regs (s.sendMsix_regs w) _ _).trans h)

/-- At the end of a command every vector is answered that has become both asserted and unmasked and goes to the host. -/
theorem settle_answers {s : State} {v : Nat} (hv : v < 64) (hlive : bitOf s.live v = true) (hsent : bitOf s.msiSent v = false)
    (htarget : s.flag (Reg.devIntcTarget v) 0 = true) : (settle s).Answers v := by
  have hregs : s.msixFollow.regs = s.regs := by rw [State.msixFollow_eq]
  have hfresh : v ∈ (List.range 64).filter (fun v => bitOf s.live v && !bitOf s.msiSent v) :=
    List.mem_filter.2 ⟨List.mem_range.2 hv, by rw [hlive, hsent]; rfl⟩
  exact State.foldl_sendMsix_answers hfresh ((State.flag_of_regs hregs _ _).trans htarget)

theorem State.sendMsix_out (s : State) (v : Nat) : (s.sendMsix v).out =
    if s.flag (Reg.devIntcTarget v) 0 = true ∧ bitOf s.msixMask v = false then .msix v :: s.out else s.out := by
  rw [State.sendMsix]
  cases s.flag (Reg.devIntcTarget v) 0 <;> cases bitOf s.msixMask v <;> rfl

theorem State.sendMsix_msixPend (s : State) (v : Nat) : (s.sendMsix v).msixPend =
    if s.flag (Reg.devIntcTarget v) 0 = true ∧ bitOf s.msixMask v = true then Nat.lor s.msixPend (2 ^ v) else s.msixPend := by
  rw [State.sendMsix]
  cases s.flag (Reg.devIntcTarget v) 0 <;> cases bitOf s.msixMask v <;> rfl

/-! ### Vectors that are settled -/

theorem State.vectorsSettled.pendOk {s : State} (h : s.vectorsSettled) : pendOk s.live s.msixMask s.msixPend := by
  intro v hv
  have hpend : (s.msixPend &&& s.live &&& s.msixMask).testBit v = true := (congrArg (fun n => n.testBit v) h.2).symm.trans hv
  rw [Nat.testBit_and, Nat.testBit_and, Bool.and_eq_true, Bool.and_eq_true] at hpend
  exact ⟨hpend.1.2, hpend.2⟩

/-- With every vector answered the end of a command does nothing. -/
theorem settle_of_settled {s : State} (h : s.vectorsSettled) : settle s = s := by
  have hfree : (List.range 64).filter (fun v => bitOf (Nat.land s.msixPend s.live) v && !bitOf s.msixMask v) = [] := by
    refine List.filter_eq_nil_iff.2 fun v _ hv => ?_
    rw [Bool.and_eq_true, bitOf_testBit, bitOf_testBit] at hv
    have hbit : (s.msixPend &&& s.live).testBit v = true := hv.1
    rw [Nat.testBit_and, Bool.and_eq_true] at hbit
    rw [(h.pendOk v hbit.1).2] at hv
    exact Bool.false_ne_true hv.2
  have hfollow : s.msixFollow = s := by
    rw [State.msixFollow, hfree]
    show { s with msixPend := Nat.land (Nat.land s.msixPend s.live) s.msixMask } = s
    rw [← h.2]
  have hfresh : (List.range 64).filter (fun v => bitOf s.live v && !bitOf s.msiSent v) = [] :=
    List.filter_eq_nil_iff.2 fun v _ hv => by
      rw [h.1] at hv
      cases hbit : bitOf s.live v <;> simp [hbit] at hv
  rw [settle, hfollow, hfresh]
  show { s with msiSent := s.live } = s
  rw [← h.1]

theorem State.sendMsix_live (s : State) (v : Nat) : (s.sendMsix v).live = s.live := by rw [State.sendMsix_eq]; rfl

/-- Sending the message of an asserted and unmasked vector again leaves every vector answered. -/
theorem State.vectorsSettled.sendMsix {s : State} (h : s.vectorsSettled) {v : Nat} (hv : bitOf s.live v = true) :
    (s.sendMsix v).vectorsSettled := by
  have hsent : (s.sendMsix v).msiSent = s.msiSent := by rw [State.sendMsix_eq]
  have hmask : (s.sendMsix v).msixMask = s.msixMask := by rw [State.sendMsix_eq]
  refine ⟨by rw [hsent, State.sendMsix_live, h.1], ?_⟩
  rw [State.sendMsix_live, hmask]
  exact (State.sendMsix_pendOk rfl (by rw [← bitOf_testBit]; exact hv) h.pendOk).land_eq

/-! ### Routes in force (R74, R75) -/

theorem Sparse.mem_put {α : Type} (m : Sparse α) (k : Nat) (v : α) : (k, v) ∈ Sparse.put m k v := by
  induction m with
  | nil => exact List.mem_singleton_self _
  | cons e m ih =>
    rw [Sparse.put]
    split
    · exact List.mem_cons_self ..
    · exact List.mem_cons_of_mem _ ih

theorem Sparse.filterMap_put {α β : Type} (m : Sparse α) {k : Nat} {v : α} {f : Nat × α → Option β} (h : f (k, v) = none) :
    (Sparse.put m k v).filterMap f = m.filterMap f := by
  induction m with
  | nil => simp [Sparse.put, h]
  | cons e m ih =>
    rw [Sparse.put]
    split
    · exact List.filterMap_cons_none h
    · rw [List.filterMap_cons, List.filterMap_cons, ih]

/-- A write of a key that `f` passes over leaves what `f` picks. -/
theorem Sparse.filterMap_set {α β : Type} [DecidableEq α] {d : Nat → α} (m : Sparse α) {k : Nat} (v : α) {f : Nat × α → Option β}
    (h : ∀ v, f (k, v) = none) : (Sparse.set d m k v).filterMap f = m.filterMap f := by
  have hfilter : (m.filter (fun e => e.1 != k)).filterMap f = m.filterMap f := by
    rw [List.filterMap_filter]
    refine List.filterMap_congr fun e _ => ?_
    by_cases he : e.1 = k
    · rw [if_neg (by simp [he]), ← h e.2, ← he]
    · rw [if_pos (by simp [he])]
  unfold Sparse.set
  split
  · exact hfilter
  · exact (Sparse.filterMap_put _ (h v)).trans hfilter

theorem State.routes_wr (s : State) {a : Nat} (v : Nat) (h : ¬(0x2800 ≤ a ∧ a < 0x3000)) : (s.wr a v).routes = s.routes :=
  Sparse.filterMap_set s.regs _ (fun _ => if_neg (fun hc => h ⟨hc.1, hc.2.1⟩))

/-- Every route is of a page, by its base. -/
theorem State.routes_aligned {s : State} {r : Nat × Nat} (h : r ∈ s.routes) : r.1 % 0x1000 = 0 := by
  obtain ⟨e, -, he⟩ := List.mem_filterMap.1 h
  split at he
  · obtain rfl := Option.some.inj he
    dsimp only
    omega
  · cases he

/-- A write to no IRQ_STATUS and no IRQ_ENABLE leaves the summary lines alone. -/
theorem State.summary_wr (s : State) {a b v : Nat} (hb : b % 0x1000 = 0) (h : a % 0x1000 ≠ 0x10 ∧ a % 0x1000 ≠ 0x14) :
    (s.wr a v).summary b = s.summary b := by
  rw [State.summary, State.rd_wr_ne s v (show b + 0x10 ≠ a by omega), State.rd_wr_ne s v (show b + 0x14 ≠ a by omega), State.summary]

/-- So does the set of asserted and unmasked vectors, where no route and no mask is written either. -/
theorem State.live_wr (s : State) {a : Nat} (v : Nat) (hroute : ¬(0x2800 ≤ a ∧ a < 0x3000)) (hhead : a % 0x1000 ≠ 0x10 ∧ a % 0x1000 ≠ 0x14)
    (hmask : a ≠ Reg.devIntcMaskLo ∧ a ≠ Reg.devIntcMaskHi) : (s.wr a v).live = s.live := by
  have hasserted : (s.wr a v).asserted = s.asserted := by
    rw [State.asserted, State.routes_wr s v hroute, State.asserted]
    refine List.foldl_ext _ _ _ fun m r hr => ?_
    rw [State.summary_wr s (State.routes_aligned hr) hhead]
  rw [State.live, hasserted, State.rd_wr_ne s v (Ne.symm hmask.1), State.rd_wr_ne s v (Ne.symm hmask.2), State.live]

/-- A vector is asserted by each of its routes whose page has an event raised and enabled. -/
theorem State.asserted_of_route {s : State} {b v : Nat} (hroute : (b, v) ∈ s.routes) (hsum : s.summary b = true) : bitOf s.asserted v = true := by
  have hkeep : ∀ (l : List (Nat × Nat)) (m : Nat), m.testBit v = true →
      (l.foldl (fun m r => if s.summary r.1 then Nat.lor m (2 ^ r.2) else m) m).testBit v = true := by
    intro l
    induction l with
    | nil => exact fun _ hm => hm
    | cons r l ih =>
      refine fun m hm => ih _ ?_
      dsimp only
      split
      · show (m ||| 2 ^ r.2).testBit v = true
        rw [Nat.testBit_or, hm, Bool.true_or]
      · exact hm
  obtain ⟨before, after, hsplit⟩ := List.append_of_mem hroute
  rw [bitOf_testBit, State.asserted, hsplit, List.foldl_append, List.foldl_cons]
  refine hkeep after _ ?_
  generalize before.foldl _ 0 = m
  rw [if_pos hsum]
  show (m ||| 2 ^ v).testBit v = true
  rw [Nat.testBit_or, Nat.testBit_two_pow_self, Bool.or_true]

theorem RegRow.index?_word (r : RegRow) {i : Nat} (hi : i < r.count) (hs : 0 < r.stride) : r.index? (r.base + r.stride * i) = some i := by
  have hsub : r.base + r.stride * i - r.base = r.stride * i := Nat.add_sub_cancel_left ..
  rw [RegRow.index?, hsub, Nat.mul_div_cancel_left i hs, if_pos ⟨Nat.le_add_right .., Nat.mul_mod_right .., hi⟩]

/-- A row that ends before an offset does not cover it. -/
theorem rowFor_cons_below {r : RegRow} {off : Nat} (l : List RegRow) (h : r.base + r.stride * r.count ≤ off) (hs : 0 < r.stride) :
    rowFor (r :: l) off = rowFor l off := by
  have hout : r.index? off = none := if_neg fun hc => by
    have := (Nat.div_lt_iff_lt_mul hs).1 hc.2.2
    rw [Nat.mul_comm r.count r.stride] at this
    omega
  rw [rowFor, hout]

/-- The row of the ROUTE entries. -/
def routeRow : RegRow := rowN "DEV_INTC_ROUTE" 0x800 4 512 0 [fAny 5 0 .rw, fAny 31 31 .rw]

theorem rowFor_route {i : Nat} (h : i < 512) : rowFor rowsDevIntc (Reg.devIntcRoute i % 0x1000) = some (routeRow, i) := by
  have hoff : Reg.devIntcRoute i % 0x1000 = 0x800 + 4 * i := by unfold Reg.devIntcRoute; omega
  have hbelow : ∀ (r : RegRow) (l : List RegRow), r.base + r.stride * r.count ≤ 0x800 → 0 < r.stride →
      rowFor (r :: l) (0x800 + 4 * i) = rowFor l (0x800 + 4 * i) := fun r l hr hs => rowFor_cons_below l (by omega) hs
  have hhit : routeRow.index? (0x800 + 4 * i) = some i := routeRow.index?_word h (by decide)
  rw [hoff, rowsDevIntc, hbelow _ _ (by decide) (by decide), hbelow _ _ (by decide) (by decide), hbelow _ _ (by decide) (by decide),
    hbelow _ _ (by decide) (by decide), hbelow _ _ (by decide) (by decide), hbelow _ _ (by decide) (by decide), ← routeRow, rowFor, hhit]

theorem resetWord_route {i : Nat} (h : i < 512) : resetWord (Reg.devIntcRoute i) = 0#32 := by
  rw [resetWord, pageOf_intc (by unfold Reg.devIntcRoute; omega)]
  simp only [page, rowFor_route h]
  rfl

/-- A route written with EN 1 is in force. -/
theorem State.mem_routes_wr (s : State) {i : Nat} {data : Word} (hi : i < 512) (hen : data.getLsbD 31 = true) :
    (i / 16 * 0x10000 + i % 16 * 0x1000, bitsOf data.toNat 5 0) ∈ (s.wr (Reg.devIntcRoute i) data.toNat).routes := by
  have hword : BitVec.ofNat 32 data.toNat = data := (BitVec.ofNat_toNat 32 data).trans (BitVec.setWidth_eq data)
  have hmem : (Reg.devIntcRoute i, data) ∈ (s.wr (Reg.devIntcRoute i) data.toNat).regs := by
    have hne : data ≠ resetWord (Reg.devIntcRoute i) := fun h => by
      rw [h, resetWord_route hi] at hen
      exact absurd hen (by decide)
    rw [State.wr, hword, Sparse.set, if_neg hne]
    exact Sparse.mem_put _ _ _
  have hindex : (Reg.devIntcRoute i - 0x2800) / 4 = i := by unfold Reg.devIntcRoute; omega
  refine List.mem_filterMap.2 ⟨_, hmem, ?_⟩
  rw [if_pos ⟨by unfold Reg.devIntcRoute; omega, by unfold Reg.devIntcRoute; omega, hen⟩]
  dsimp only
  rw [hindex]

/-! ### IRQ_FORCE, the masks, the routes and EOI -/

/-- An accepted write of IRQ_FORCE sets the written bits of IRQ_STATUS (R42, R49). -/
theorem State.writeWord_irqForce {s : State} {who : Requester} {page data : Nat} (hpage : page < 0x400)
    (hacc : s.accepts who (page * 0x1000 + 0x18) data) :
    s.writeWord who (page * 0x1000 + 0x18) 4 data =
      (s.wr (page * 0x1000 + 0x10) (Nat.lor (s.rd (page * 0x1000 + 0x10)) data)).tellMarigold (page * 0x1000) data := by
  obtain ⟨p, hp, hcode⟩ := hacc
  have hbase : p.base = page * 0x1000 := by
    rw [State.reached_base hp]
    omega
  have hoff : (page * 0x1000 + 0x18) % 0x400000 % 0x1000 = 0x18 := by omega
  rw [State.writeWord_accepted hp hcode, State.marigoldSees_other (by omega), State.acceptWord, hoff, ← hbase]
  rfl

theorem exec_irqForce {s : State} {who : Requester} {page : Nat} {data : Word} (hpage : page < 0x400)
    (hacc : s.accepts who (page * 0x1000 + 0x18) data.toNat) :
    ∃ u, exec (.irqForce who page data) s = .next u ∧ s.wordsBut u [page * 0x1000 + 0x10] ∧
      u.rd (page * 0x1000 + 0x10) = Nat.lor (s.rd (page * 0x1000 + 0x10)) data.toNat := by
  refine ⟨_, congrArg finish (State.writeWord_irqForce hpage hacc), State.wordsBut_settle ?_, ?_⟩
  · exact State.wordsBut_wr (State.wordsBut_refl _ _) (List.mem_singleton_self _)
  · rw [settle_rd, State.tellMarigold_rd, State.rd_wr_same]
    exact Nat.mod_eq_of_lt (Nat.or_lt_two_pow (s.rd_lt _) data.isLt)

theorem exec_devIntcMaskWrite {s : State} {who : Requester} {half : Nat} {data : Word} (hhalf : half < 2)
    (hacc : s.accepts who (0x2048 + 4 * half) data.toNat) :
    exec (.devIntcMaskWrite who half data) s = .next (settle (s.wr (0x2048 + 4 * half) data.toNat)) := by
  have haddr : (if half = 0 then Reg.devIntcMaskLo else Reg.devIntcMaskHi) = 0x2048 + 4 * half := by
    split
    · rename_i h
      rw [h]
      rfl
    · rw [show half = 1 by omega]
      rfl
  obtain ⟨r, hrow, hrw⟩ : ∃ r, rowFor rowsDevIntc ((0x2048 + 4 * half) % 0x1000) = some (r, 0) ∧ ∀ f ∈ r.fields, f.kind = .rw := by
    have hcase : half = 0 ∨ half = 1 := by omega
    rcases hcase with rfl | rfl <;> exact ⟨_, rfl, by simp [rwW, row1, fAny]⟩
  show finish (s.writeWord who _ 4 data.toNat) = _
  rw [haddr, State.writeWord_intc_rw (by omega) hacc (by omega) (by omega) hrow hrw, finish]

theorem exec_devIntcRouteWrite {s : State} {who : Requester} {i : Nat} {data : Word} (hi : i < 512)
    (hacc : s.accepts who (Reg.devIntcRoute i) data.toNat) :
    exec (.devIntcRouteWrite who i data) s = .next (settle (s.wr (Reg.devIntcRoute i) data.toNat)) := by
  show finish (s.writeWord who _ 4 data.toNat) = _
  have hroute : Reg.devIntcRoute i = 0x2800 + 4 * i := rfl
  rw [State.writeWord_intc_rw (by omega) hacc (by omega) (by omega) (rowFor_route hi) (by simp [routeRow, rowN, fAny]), finish]

/-- An accepted end of interrupt sends the message of its vector again where that is asserted and unmasked. -/
theorem State.writeWord_eoi {s : State} {who : Requester} {data : Nat} (hacc : s.accepts who Reg.devIntcEoi data) :
    ∃ w, s.writeWord who Reg.devIntcEoi 4 data =
      if bitOf s.live (bitsOf data 5 0) then (s.wr Reg.devIntcEoi w).sendMsix (bitsOf data 5 0) else s.wr Reg.devIntcEoi w := by
  obtain ⟨r, hrow, hwo⟩ : ∃ r, rowFor rowsDevIntc (Reg.devIntcEoi % 0x1000) = some (r, 0) ∧ ∀ f ∈ r.fields, f.kind ≠ .rws :=
    ⟨_, rfl, by simp [row1, fAny]⟩
  obtain ⟨-, -, hw⟩ := State.writeWord_intc (by decide) hacc (by decide) hrow hwo
  generalize r.stored _ _ _ = w at hw
  refine ⟨w, ?_⟩
  rw [hw, ← State.live_wr s w (a := Reg.devIntcEoi) (by decide) (by decide) (by decide)]
  rfl

theorem exec_devIntcEoi {s : State} {who : Requester} {data : Word} (hset : s.vectorsSettled) (hacc : s.accepts who Reg.devIntcEoi data.toNat) :
    let v := bitsOf data.toNat 5 0
    let sends := bitOf s.live v = true ∧ s.flag (Reg.devIntcTarget v) 0 = true
    ∃ u, exec (.devIntcEoi who data) s = .next u ∧ s.wordsBut u [Reg.devIntcEoi] ∧
      u.out = (if sends ∧ bitOf s.msixMask v = false then .msix v :: s.out else s.out) ∧
      u.msixPend = (if sends ∧ bitOf s.msixMask v = true then Nat.lor s.msixPend (2 ^ v) else s.msixPend) := by
  intro v sends
  obtain ⟨w, hw⟩ := State.writeWord_eoi hacc
  change s.writeWord who Reg.devIntcEoi 4 data.toNat = if bitOf s.live v then (s.wr Reg.devIntcEoi w).sendMsix v else s.wr Reg.devIntcEoi w at hw
  have hlive : (s.wr Reg.devIntcEoi w).live = s.live := s.live_wr w (by decide) (by decide) (by decide)
  have hset' : (s.wr Reg.devIntcEoi w).vectorsSettled := ⟨hset.1.trans hlive.symm, by rw [hlive]; exact hset.2⟩
  have hwords : s.wordsBut (s.wr Reg.devIntcEoi w) [Reg.devIntcEoi] := State.wordsBut_wr (State.wordsBut_refl _ _) (List.mem_singleton_self _)
  have htarget : (s.wr Reg.devIntcEoi w).flag (Reg.devIntcTarget v) 0 = s.flag (Reg.devIntcTarget v) 0 := by
    rw [State.flag, State.rd_wr_ne s w (by unfold Reg.devIntcTarget Reg.devIntcEoi; omega), State.flag]
  have hexec : ∀ t, s.writeWord who Reg.devIntcEoi 4 data.toNat = t → t.vectorsSettled → exec (.devIntcEoi who data) s = .next t :=
    fun t ht hts => (congrArg finish ht).trans (congrArg Host.Outcome.next (settle_of_settled hts))
  by_cases hv : bitOf s.live v = true
  · have hsends : sends ↔ s.flag (Reg.devIntcTarget v) 0 = true := and_iff_right hv
    rw [if_pos hv] at hw
    refine ⟨_, hexec _ hw (hset'.sendMsix (by rw [hlive]; exact hv)), fun x hx => ?_, ?_, ?_⟩
    · rw [← hwords x hx, State.rd, State.sendMsix_regs, State.rd]
    · rw [State.sendMsix_out, htarget]
      simp only [hsends]
      rfl
    · rw [State.sendMsix_msixPend, htarget]
      simp only [hsends]
      rfl
  · have hsends : ¬ sends := fun h => hv h.1
    rw [if_neg hv] at hw
    refine ⟨_, hexec _ hw hset', hwords, ?_, ?_⟩
    · rw [if_neg (fun h => hsends h.1)]
      rfl
    · rw [if_neg (fun h => hsends h.1)]
      rfl

/-- Settles O14: each write is one word of the interrupt controller or of IRQ_STATUS, and the end of the command answers the vectors. -/
theorem interruptRegisters : Obligations.InterruptRegisters := by
  unfold Obligations.InterruptRegisters
  intro s who data
  refine ⟨fun page hpage hacc => exec_irqForce hpage hacc, fun half hhalf hacc => ?_, fun i hi hacc => ?_, exec_devIntcEoi⟩
  · refine ⟨_, exec_devIntcMaskWrite hhalf hacc, State.wordsBut_settle ?_, ?_, fun v hv hlive hsent htarget => ?_⟩
    · exact State.wordsBut_wr (State.wordsBut_refl _ _) (List.mem_singleton_self _)
    · rw [settle_rd, State.rd_wr_same, Nat.mod_eq_of_lt data.isLt]
    · have hflag : (s.wr (0x2048 + 4 * half) data.toNat).flag (Reg.devIntcTarget v) 0 = true := by
        rw [State.flag, State.rd_wr_ne s _ (by unfold Reg.devIntcTarget; omega)]
        exact htarget
      rw [settle_live] at hlive
      have hanswers : (settle (s.wr (0x2048 + 4 * half) data.toNat)).Answers v := settle_answers hv hlive hsent hflag
      rwa [State.Answers, settle_msixMask] at hanswers
  · refine ⟨_, exec_devIntcRouteWrite hi hacc, State.wordsBut_settle ?_, ?_, fun hen hsum => ?_⟩
    · exact State.wordsBut_wr (State.wordsBut_refl _ _) (List.mem_singleton_self _)
    · rw [settle_rd, State.rd_wr_same, Nat.mod_eq_of_lt data.isLt]
    · have hasserted : (settle (s.wr (Reg.devIntcRoute i) data.toNat)).asserted = (s.wr (Reg.devIntcRoute i) data.toNat).asserted := by
        rw [settle_eq]
        rfl
      rw [hasserted]
      refine State.asserted_of_route (s.mem_routes_wr hi hen) ?_
      rw [State.summary_wr s (by omega) (by unfold Reg.devIntcRoute; omega)]
      exact hsum

end Sys2Proof.Machine

/-! SUPPORT. Requests, cancels and the commit point (R58-R62, R64, R66), with O15 and O16. -/

namespace Sys2Proof.Machine

theorem State.flag_setFld_other (s : State) (a hi lo v i : Nat) (h : lo ≤ hi) (h32 : hi < 32) (g : i < lo ∨ hi < i) :
    (s.setFld a hi lo v).flag a i = s.flag a i := by
  have hbit := s.fld_setFld_other a hi lo v i i h h32 (Nat.le_refl i) g
  rw [State.fld, State.fld] at hbit
  rw [State.flag, bitOf_eq, hbit, State.flag, bitOf_eq]

theorem State.fld_setFlag_other (s : State) (a i hi lo : Nat) (x : Bool) (h32 : i < 32) (h : lo ≤ hi) (g : hi < i ∨ i < lo) :
    (s.setFlag a i x).fld a hi lo = s.fld a hi lo := s.fld_setFld_other a i i _ hi lo (Nat.le_refl i) h32 h g

theorem bitOf_putBits_one (w i : Nat) : bitOf (putBits w i i 1) i = true := by
  rw [bitOf_eq, bitsOf_putBits_same _ _ _ _ (Nat.le_refl i), Nat.sub_self]
  rfl

/-! ### The COMMIT register of a page that commits by itself (R59) -/

/-- A written DONE is acknowledged (R59, R70). -/
def State.doneAck (s : State) (a data : Nat) : State := if bitOf data 2 then s.setFlag a 2 false else s

theorem State.doneAck_words (s : State) (a data : Nat) : s.wordsBut (s.doneAck a data) [a] := by
  unfold State.doneAck
  split
  · exact State.wordsBut_setFlag (State.wordsBut_refl _ _) (List.mem_singleton_self a)
  · exact State.wordsBut_refl _ _

theorem State.doneAck_kept (s : State) (a data : Nat) : Kept 0 s (s.doneAck a data) := Kept.ite State.setFlag_kept (Kept.refl _ _)

theorem State.doneAck_flag (s : State) (a data : Nat) : (s.doneAck a data).flag a 1 = s.flag a 1 := by
  unfold State.doneAck
  split
  · exact s.flag_setFlag_other a 2 1 false (by decide) (by decide)
  · rfl

theorem State.doneAck_fld (s : State) (a data : Nat) : (s.doneAck a data).fld a 31 16 = s.fld a 31 16 := by
  unfold State.doneAck
  split
  · exact s.fld_setFlag_other a 2 31 16 false (by decide) (by decide) (by decide)
  · rfl

/-- A cancelled request: PENDING is clear, and the page with base `b` is no longer due (R59, R87). -/
def State.commitCancelled (s : State) (b : Nat) : State :=
  { s.setFlag (b + 0x1C) 1 false with ras := { s.ras with commitDue := s.ras.commitDue.filter (fun x => x != b),
                                                          latchReqs := s.ras.latchReqs.filter (fun x => x != b) } }

theorem State.commitCancelled_rd (s : State) (b a : Nat) : (s.commitCancelled b).rd a = (s.setFlag (b + 0x1C) 1 false).rd a := rfl
theorem State.commitCancelled_shadow (s : State) (b : Nat) : (s.commitCancelled b).shadow = s.shadow := rfl

theorem State.commitCancelled_commitDue (s : State) (b : Nat) : b ∉ (s.commitCancelled b).ras.commitDue := fun h =>
  absurd (List.mem_filter.1 h).2 (by simp)

/-- What a write of COMMIT does, by its bits. -/
theorem State.commitWrite_eq (s : State) {p : PageDef} (data : Nat) (hgroup : p.group = false) :
    s.commitWrite p data = if bitOf data 0 then (s.doneAck (p.base + 0x1C) data).setFlag (p.base + 0x1C) 1 true
      else if bitOf data 3 then (s.doneAck (p.base + 0x1C) data).commitCancelled p.base
      else s.doneAck (p.base + 0x1C) data :=
  if_neg (by rw [hgroup]; exact Bool.false_ne_true)

/-- An accepted write of COMMIT with CANCEL has no REQ (R59). -/
theorem State.accepted_commit {s : State} {who : Requester} {priv : Bool} {p : PageDef} {a data : Nat}
    (hacc : s.writeCode who priv p a 4 data = 0) (hoff : a % 0x1000 = 0x1C) (hcancel : bitOf data 3 = true) : bitOf data 0 = false := by
  have hcodes := (State.writeCode_zero hacc).2
  rw [hoff, if_pos (by decide), State.headerCodes_commit] at hcodes
  by_contra hreq
  rw [Bool.not_eq_false] at hreq
  exact absurd (hcodes 6 (List.mem_append_right _ (mem_codeIf (by rw [hreq, hcancel]; rfl)))) (by decide)

/-- An accepted write of a page's COMMIT is `State.commitWrite`. -/
theorem State.writeWord_commit {s : State} {who : Requester} {page data : Nat} {p : PageDef} (hpage : page < 0x400)
    (hp : s.reached (page * 0x1000 + 0x1C) = some p) (hacc : s.accepts who (page * 0x1000 + 0x1C) data) :
    p.base = page * 0x1000 ∧ (bitOf data 3 = true → bitOf data 0 = false) ∧
    s.writeWord who (page * 0x1000 + 0x1C) 4 data = s.commitWrite p data := by
  obtain ⟨q, hq, hcode⟩ := hacc
  have hmod : (page * 0x1000 + 0x1C) % 0x400000 = page * 0x1000 + 0x1C := by omega
  have hqp : q = p := by
    rw [hmod, hp] at hq
    exact (Option.some.inj hq).symm
  subst hqp
  have hoff : (page * 0x1000 + 0x1C) % 0x400000 % 0x1000 = 0x1C := by omega
  refine ⟨?_, State.accepted_commit hcode hoff, ?_⟩
  · rw [State.reached_base hp]
    omega
  · rw [State.writeWord_accepted hq hcode, State.marigoldSees_other (by omega), State.acceptWord, hoff]
    rfl

theorem exec_commitReq {s : State} {who : Requester} {page : Nat} {data : Word} {p : PageDef} (hpage : page < 0x400)
    (hp : s.reached (page * 0x1000 + 0x1C) = some p) (hgroup : p.group = false)
    (hacc : s.accepts who (page * 0x1000 + 0x1C) (putBits data.toNat 0 0 1)) :
    ∃ u, exec (.commitReq who page data) s = .next u ∧ u.flag (page * 0x1000 + 0x1C) 1 = true ∧ u.shadow = s.shadow ∧
      s.wordsBut u [page * 0x1000 + 0x1C] ∧ u.ras = s.ras := by
  obtain ⟨hbase, -, hw⟩ := State.writeWord_commit hpage hp hacc
  rw [State.commitWrite_eq s _ hgroup, if_pos (bitOf_trigger _), hbase] at hw
  have hack := s.doneAck_kept (page * 0x1000 + 0x1C) (putBits data.toNat 0 0 1)
  refine ⟨_, congrArg finish hw, ?_, ?_, State.wordsBut_settle (State.wordsBut_setFlag (s.doneAck_words _ _) (List.mem_singleton_self _)), ?_⟩
  · rw [settle_flag]
    exact State.flag_setFlag_same _ _ 1 true (by decide)
  · rw [settle_shadow, State.setFlag_shadow_eq]
    exact hack.shadow.resolve_left (by decide)
  · rw [settle_ras, State.setFlag_ras]
    exact hack.ras.resolve_left (by decide)

theorem exec_commitCancel {s : State} {who : Requester} {page : Nat} {data : Word} {p : PageDef} (hpage : page < 0x400)
    (hp : s.reached (page * 0x1000 + 0x1C) = some p) (hgroup : p.group = false)
    (hacc : s.accepts who (page * 0x1000 + 0x1C) (putBits data.toNat 3 3 1)) :
    ∃ u, exec (.commitCancel who page data) s = .next u ∧ u.flag (page * 0x1000 + 0x1C) 1 = false ∧ u.shadow = s.shadow ∧
      s.wordsBut u [page * 0x1000 + 0x1C] ∧ page * 0x1000 ∉ u.ras.commitDue := by
  have hcancel := bitOf_putBits_one data.toNat 3
  obtain ⟨hbase, hreq, hw⟩ := State.writeWord_commit hpage hp hacc
  rw [State.commitWrite_eq s _ hgroup, hreq hcancel, if_neg Bool.false_ne_true, if_pos hcancel, hbase] at hw
  have hack := s.doneAck_kept (page * 0x1000 + 0x1C) (putBits data.toNat 3 3 1)
  have hwords := State.wordsBut_setFlag (i := 1) (b := false) (s.doneAck_words (page * 0x1000 + 0x1C) (putBits data.toNat 3 3 1))
    (List.mem_singleton_self _)
  refine ⟨_, congrArg finish hw, ?_, ?_, State.wordsBut_settle (fun x hx => ?_), ?_⟩
  · rw [settle_flag, State.flag, State.commitCancelled_rd]
    exact State.flag_setFlag_same _ _ 1 false (by decide)
  · rw [settle_shadow, State.commitCancelled_shadow]
    exact hack.shadow.resolve_left (by decide)
  · rw [State.commitCancelled_rd]
    exact hwords x hx
  · rw [settle_ras]
    exact State.commitCancelled_commitDue _ _

/-! ### The group's commit register (R64, R66, R70) -/

theorem pageOf_gcommit : pageOf Reg.devGcommit = some (page 0 0 3 3 rowsDevId) := rfl

/-- What a write of DEV_GCOMMIT does, by its bits. -/
theorem State.gcommitWrite_eq (s : State) (data : Nat) :
    s.gcommitWrite data = if bitOf data 0 && !(s.doneAck Reg.devGcommit data).flag Reg.devGcommit 1 then
        ((s.doneAck Reg.devGcommit data).setFlag Reg.devGcommit 1 true).setFld Reg.devGcommit 31 16 (s.doneAck Reg.devGcommit data).gcommitTarget
      else if bitOf data 3 then
        ((((s.doneAck Reg.devGcommit data).setFlag Reg.devGcommit 1 false).setFld Reg.devGcommit 31 16 0).setFld Reg.lyrStatus 19 16 0).groupWait []
      else s.doneAck Reg.devGcommit data := rfl

/-- A group request where none is pending names the frame it takes effect in (R66). -/
theorem State.gcommitWrite_req {s : State} {data : Nat} (hreq : bitOf data 0 = true) (hcancel : bitOf data 3 = false) :
    (s.gcommitWrite data).flag Reg.devGcommit 1 = true ∧
    (s.gcommitWrite data).fld Reg.devGcommit 31 16 =
      (if s.flag Reg.devGcommit 1 then s.fld Reg.devGcommit 31 16 else s.gcommitTarget) ∧
    (s.gcommitWrite data).shadow = s.shadow ∧ s.wordsBut (s.gcommitWrite data) [Reg.devGcommit] := by
  have hack := s.doneAck_kept Reg.devGcommit data
  have hwords := s.doneAck_words Reg.devGcommit data
  have htarget : (s.doneAck Reg.devGcommit data).gcommitTarget = s.gcommitTarget := by
    rw [State.gcommitTarget, hack.ras.resolve_left (by decide), State.gcommitTarget]
  have heq : s.gcommitWrite data = if s.flag Reg.devGcommit 1 then s.doneAck Reg.devGcommit data else
      ((s.doneAck Reg.devGcommit data).setFlag Reg.devGcommit 1 true).setFld Reg.devGcommit 31 16 s.gcommitTarget := by
    rw [State.gcommitWrite_eq, hreq, hcancel, s.doneAck_flag, htarget]
    cases s.flag Reg.devGcommit 1
    · exact if_pos rfl
    · exact (if_neg Bool.false_ne_true).trans (if_neg Bool.false_ne_true)
  have hlt : s.gcommitTarget < 2 ^ 16 := Nat.mod_lt _ (by decide)
  rw [heq]
  by_cases hpending : s.flag Reg.devGcommit 1 = true
  · rw [if_pos hpending, if_pos hpending]
    exact ⟨(s.doneAck_flag _ _).trans hpending, s.doneAck_fld _ _, hack.shadow.resolve_left (by decide), hwords⟩
  · rw [if_neg hpending, if_neg hpending]
    refine ⟨?_, ?_, ?_, State.wordsBut_setFld (State.wordsBut_setFlag hwords ?_) ?_⟩
    · rw [State.flag_setFld_other _ _ _ _ _ _ (by decide) (by decide) (by decide)]
      exact State.flag_setFlag_same _ _ 1 true (by decide)
    · rw [State.fld_setFld_same _ _ _ _ _ (by decide) (by decide)]
      exact Nat.mod_eq_of_lt hlt
    · rw [State.setFld_shadow_eq, State.setFlag_shadow_eq]
      exact hack.shadow.resolve_left (by decide)
    · exact List.mem_singleton_self _
    · exact List.mem_singleton_self _

theorem State.groupWait_rd (s : State) (l : List Nat) (a : Nat) : (s.groupWait l).rd a = s.rd a := rfl
theorem State.groupWait_shadow (s : State) (l : List Nat) : (s.groupWait l).shadow = s.shadow := rfl

/-- A group cancel clears PENDING, TARGET and the count of deferrals (R64, R76). -/
theorem State.gcommitWrite_cancel {s : State} {data : Nat} (hreq : bitOf data 0 = false) (hcancel : bitOf data 3 = true) :
    (s.gcommitWrite data).flag Reg.devGcommit 1 = false ∧ (s.gcommitWrite data).fld Reg.devGcommit 31 16 = 0 ∧
    (s.gcommitWrite data).shadow = s.shadow ∧ s.wordsBut (s.gcommitWrite data) [Reg.devGcommit, Reg.lyrStatus] := by
  have hack := s.doneAck_kept Reg.devGcommit data
  have hwords : s.wordsBut (s.doneAck Reg.devGcommit data) [Reg.devGcommit, Reg.lyrStatus] :=
    State.wordsBut_mono (s.doneAck_words Reg.devGcommit data) (fun _ => List.mem_append_left [Reg.lyrStatus])
  have heq : s.gcommitWrite data = ((((s.doneAck Reg.devGcommit data).setFlag Reg.devGcommit 1 false).setFld Reg.devGcommit 31 16 0).setFld
      Reg.lyrStatus 19 16 0).groupWait [] := by
    rw [State.gcommitWrite_eq, hreq, hcancel]
    exact (if_neg Bool.false_ne_true).trans (if_pos rfl)
  rw [heq]
  generalize s.doneAck Reg.devGcommit data = t at hack hwords
  have hcommit : ∀ v : State, ((v.setFld Reg.lyrStatus 19 16 0).groupWait []).rd Reg.devGcommit = v.rd Reg.devGcommit := fun v =>
    (State.groupWait_rd _ _ _).trans (State.rd_setFld_ne _ _ _ _ (by decide))
  refine ⟨?_, ?_, ?_, fun x hx => ?_⟩
  · rw [State.flag, hcommit, ← State.flag, State.flag_setFld_other _ _ _ _ _ _ (by decide) (by decide) (by decide)]
    exact State.flag_setFlag_same _ _ 1 false (by decide)
  · rw [State.fld, hcommit, ← State.fld, State.fld_setFld_same _ _ _ _ _ (by decide) (by decide)]
    rfl
  · rw [State.groupWait_shadow, State.setFld_shadow_eq, State.setFld_shadow_eq, State.setFlag_shadow_eq]
    exact hack.shadow.resolve_left (by decide)
  · rw [State.groupWait_rd]
    exact State.wordsBut_setFld (State.wordsBut_setFld (State.wordsBut_setFlag hwords (by decide)) (by decide)) (by decide) x hx

/-- An accepted write of DEV_GCOMMIT is `State.gcommitWrite` on a word that keeps PENDING and TARGET. -/
theorem State.writeWord_gcommit {s : State} {who : Requester} {data : Nat} (hacc : s.accepts who Reg.devGcommit data) :
    (bitOf data 0 && bitOf data 3) = false ∧
    ∃ t : State, s.writeWord who Reg.devGcommit 4 data = t.gcommitWrite data ∧ t.flag Reg.devGcommit 1 = s.flag Reg.devGcommit 1 ∧
      t.fld Reg.devGcommit 31 16 = s.fld Reg.devGcommit 31 16 ∧ t.ras = s.ras ∧ t.shadow = s.shadow ∧ s.wordsBut t [Reg.devGcommit] := by
  obtain ⟨p, hp, hcode⟩ := hacc
  change s.reached Reg.devGcommit = some p at hp
  change s.writeCode who _ p Reg.devGcommit 4 data = 0 at hcode
  obtain rfl : p = page 0 0 3 3 rowsDevId := Option.some.inj ((State.reached_pageOf hp).symm.trans pageOf_gcommit)
  obtain ⟨r, hrow, hfields⟩ : ∃ r, rowFor rowsDevId (Reg.devGcommit % 0x1000) = some (r, 0) ∧
      r.fields = [fAny 0 0 .w1s, fAny 1 1 .ro, fAny 2 2 .w1c, fAny 3 3 .w1s, fAny 31 16 .ro] := ⟨_, rfl, rfl⟩
  have hlaid : r.laid = true := State.reached_row_laid hp hrow
  have hplain : ∀ f ∈ r.fields, f.kind ≠ .rws := by rw [hfields]; decide
  have hstays : ∀ f ∈ r.fields, f.kind = .ro →
      (s.wr Reg.devGcommit (r.stored (stickyMask Reg.devGcommit) (s.rd Reg.devGcommit) data)).fld Reg.devGcommit f.hi f.lo =
        s.fld Reg.devGcommit f.hi f.lo := fun f hf hro => by
    obtain ⟨-, hstay, -⟩ := State.fld_wr_stored (s := s) (a := Reg.devGcommit) (sticky := stickyMask Reg.devGcommit) (data := data) hlaid hf rfl
    exact hstay hro
  refine ⟨?_, s.wr Reg.devGcommit (r.stored (stickyMask Reg.devGcommit) (s.rd Reg.devGcommit) data), ?_, ?_, ?_, rfl, rfl, ?_⟩
  · have hcodes := (State.writeCode_zero hcode).2
    rw [if_neg (by decide)] at hcodes
    by_contra hboth
    rw [Bool.not_eq_false] at hboth
    have hmem : 6 ∈ s.wordCodes who (isPriv who Reg.devGcommit) (page 0 0 3 3 rowsDevId) (Reg.devGcommit % 0x1000) data := by
      simp only [State.wordCodes, page, hrow, List.mem_append]
      exact .inr (mem_codeIf hboth)
    exact absurd (hcodes 6 hmem) (by decide)
  · have hw := State.writeWord_row (s := s) (who := who) (addr := Reg.devGcommit) (data := data) hp hcode (by decide) hrow hplain
    exact hw.trans (State.certCheck_same _ _ (State.gcommitWrite_kept.secu.resolve_left (by decide)))
  · have hro := hstays (fAny 1 1 .ro) (by rw [hfields]; decide) rfl
    change bitsOf _ 1 1 = bitsOf _ 1 1 at hro
    rw [State.flag, bitOf_eq, hro, State.flag, bitOf_eq]
  · exact hstays (fAny 31 16 .ro) (by rw [hfields]; decide) rfl
  · exact State.wordsBut_wr (State.wordsBut_refl _ _) (List.mem_singleton_self _)

theorem exec_gcommitReq {s : State} {who : Requester} {data : Word} (hacc : s.accepts who Reg.devGcommit (putBits data.toNat 0 0 1)) :
    ∃ u, exec (.gcommitReq who data) s = .next u ∧ u.flag Reg.devGcommit 1 = true ∧ u.shadow = s.shadow ∧
      s.wordsBut u [Reg.devGcommit] ∧
      u.fld Reg.devGcommit 31 16 = (if s.flag Reg.devGcommit 1 then s.fld Reg.devGcommit 31 16 else s.gcommitTarget) := by
  have hreq := bitOf_trigger data.toNat
  obtain ⟨hone, t, hw, hpending, htarget, hras, hshadow, hwords⟩ := State.writeWord_gcommit hacc
  rw [hreq, Bool.true_and] at hone
  obtain ⟨hflag, hfld, hshadow', hwords'⟩ := State.gcommitWrite_req (s := t) hreq hone
  have hframe : t.gcommitTarget = s.gcommitTarget := by rw [State.gcommitTarget, hras, State.gcommitTarget]
  rw [hpending, htarget, hframe] at hfld
  exact ⟨_, congrArg finish hw, (settle_flag _ _ _).trans hflag, (settle_shadow _).trans (hshadow'.trans hshadow),
    State.wordsBut_settle (State.wordsBut_trans hwords hwords'), (settle_fld _ _ _ _).trans hfld⟩

theorem exec_gcommitCancel {s : State} {who : Requester} {data : Word} (hacc : s.accepts who Reg.devGcommit (putBits data.toNat 3 3 1)) :
    ∃ u, exec (.gcommitCancel who data) s = .next u ∧ u.flag Reg.devGcommit 1 = false ∧ u.fld Reg.devGcommit 31 16 = 0 ∧
      u.shadow = s.shadow ∧ s.wordsBut u [Reg.devGcommit, Reg.lyrStatus] := by
  have hcancel := bitOf_putBits_one data.toNat 3
  obtain ⟨hone, t, hw, -, -, -, hshadow, hwords⟩ := State.writeWord_gcommit hacc
  rw [hcancel, Bool.and_true] at hone
  obtain ⟨hflag, hfld, hshadow', hwords'⟩ := State.gcommitWrite_cancel (s := t) hone hcancel
  have hwords'' := State.wordsBut_mono hwords (m := [Reg.devGcommit, Reg.lyrStatus]) (fun _ => List.mem_append_left [Reg.lyrStatus])
  exact ⟨_, congrArg finish hw, (settle_flag _ _ _).trans hflag, (settle_fld _ _ _ _).trans hfld,
    (settle_shadow _).trans (hshadow'.trans hshadow), State.wordsBut_settle (State.wordsBut_trans hwords'' hwords')⟩

/-- Settles O15: the request and the cancel of a page and of the group, one by one. -/
theorem commitRequests : Obligations.CommitRequests := by
  unfold Obligations.CommitRequests
  exact fun s who data => ⟨fun page p hpage hp hgroup => ⟨exec_commitReq hpage hp hgroup, exec_commitCancel hpage hp hgroup⟩,
    exec_gcommitReq, exec_gcommitCancel⟩

/-! ### Shadows put in force (R58) -/

theorem State.rdShadow_lt (s : State) (a : Nat) : s.rdShadow a < 2 ^ 32 := by
  rw [State.rdShadow]
  cases s.shadow.find? (fun e => e.1 == a) with
  | none => exact s.rd_lt a
  | some e => exact e.2.isLt

/-- Words put in force one after the other, each with the value that `g` gives its address. -/
theorem State.foldl_wr_rd (g : Nat → Nat) (l : List (Nat × Word)) (s : State) (x : Nat) :
    (l.foldl (fun t e => t.wr e.1 (g e.1)) s).rd x = if l.any (fun e => e.1 == x) then g x % 2 ^ 32 else s.rd x := by
  induction l generalizing s with
  | nil => rfl
  | cons e l ih =>
    rw [List.foldl_cons, ih, List.any_cons]
    by_cases hex : e.1 = x
    · subst hex
      cases l.any (fun e' => e'.1 == e.1) <;> simp
    · rw [beq_false_of_ne hex, Bool.false_or, State.rd_wr_ne s _ (Ne.symm hex)]

theorem State.rdShadow_of_absent {s : State} {x : Nat} (h : s.shadow.any (fun e => e.1 == x) = false) : s.rdShadow x = s.rd x := by
  have hnone : s.shadow.find? (fun e => e.1 == x) = none := List.find?_eq_none.2 (fun e he => List.any_eq_false.1 h e he)
  rw [State.rdShadow, hnone]
  rfl

theorem State.commitPage_rd (s : State) (b x : Nat) :
    (s.commitPage b).rd x = if (s.shadow.filter (fun e => inPage b e.1)).any (fun e => e.1 == x) then s.rdShadow x % 2 ^ 32 else s.rd x :=
  State.foldl_wr_rd s.rdShadow _ s x

/-- After a page's commit each of its words reads as its shadow did. -/
theorem State.commitPage_rd_inside (s : State) {b x : Nat} (h : inPage b x = true) : (s.commitPage b).rd x = s.rdShadow x := by
  have hany : (s.shadow.filter (fun e => inPage b e.1)).any (fun e => e.1 == x) = s.shadow.any (fun e => e.1 == x) := by
    rw [List.any_filter]
    congr 1
    funext e
    by_cases he : e.1 = x <;> simp [he, h]
  rw [State.commitPage_rd, hany]
  split
  · exact Nat.mod_eq_of_lt (s.rdShadow_lt x)
  · exact (State.rdShadow_of_absent (by rwa [Bool.not_eq_true] at *)).symm

/-- Words outside the page, and their shadows, stay. -/
theorem State.commitPage_outside (s : State) {b x : Nat} (h : inPage b x = false) :
    (s.commitPage b).rd x = s.rd x ∧ (s.commitPage b).rdShadow x = s.rdShadow x := by
  have hrd : (s.commitPage b).rd x = s.rd x := by
    rw [State.commitPage_rd, List.any_filter, if_neg]
    rw [Bool.not_eq_true, List.any_eq_false]
    intro e _
    by_cases he : e.1 = x <;> simp [he, h]
  have hfind : (s.commitPage b).shadow.find? (fun e => e.1 == x) = s.shadow.find? (fun e => e.1 == x) := by
    show (s.shadow.filter (fun e => !inPage b e.1)).find? (fun e => e.1 == x) = _
    rw [List.find?_filter]
    congr 1
    funext e
    by_cases he : e.1 = x <;> simp [he, h]
  exact ⟨hrd, by rw [State.rdShadow, hfind, hrd, State.rdShadow]⟩

theorem State.commitPage_shadow (s : State) (b : Nat) : ∀ e ∈ (s.commitPage b).shadow, inPage b e.1 = false := fun e he => by
  have := (List.mem_filter.1 he).2
  rwa [Bool.not_eq_true'] at this

/-! ### A commit that fails (R61, R62) -/

theorem firstCheck_mem {l : List (Nat × Nat × Nat)} {c : Nat × Nat × Nat} (h : firstCheck l = some c) : c ∈ l := by
  induction l generalizing c with
  | nil => cases h
  | cons d l ih =>
    rw [firstCheck] at h
    cases hl : firstCheck l with
    | none =>
      rw [hl] at h
      exact Option.some.inj h ▸ List.mem_cons_self ..
    | some e =>
      rw [hl] at h
      dsimp only at h
      split at h
      · exact Option.some.inj h ▸ List.mem_cons_of_mem _ (ih hl)
      · exact Option.some.inj h ▸ List.mem_cons_self ..

/-- The checks of a page that commits by itself are of its own registers. -/
theorem State.ownCommitCodes_page {s : State} {b : Nat} {c : Nat × Nat × Nat} (h : c ∈ s.ownCommitCodes b) : c.2.1 = b := by
  have hone : ∀ {q : Prop} [Decidable q] {d : Nat × Nat × Nat}, c ∈ (if q then [d] else []) → c = d := fun hd => by
    split at hd
    · exact List.mem_singleton.1 hd
    · cases hd
  unfold State.ownCommitCodes at h
  split at h
  · rename_i hb
    simp only [State.brcCommitCodes, State.brcOwnCodes, List.mem_append] at h
    rcases h with h | h | h <;> rw [hone h, hb]
  · split at h
    · rename_i hb
      simp only [State.linkCommitCodes, List.mem_append] at h
      rcases h with h | h <;> rw [hone h, hb]
    · split at h
      · rename_i hb
        simp only [State.lcdCommitCodes, List.mem_append] at h
        rcases h with (h | h) | h <;> rw [hone h, hb]
      · cases h

/-- What was recorded over a state with the same raster and the same words of the ERR aggregator is recorded over this one. -/
theorem ErrRecorded.over {s t u : State} {who addr code data : Nat} (h : ErrRecorded t u who addr code data) (hline : t.ras.line = s.ras.line)
    (hframe : t.ras.frame = s.ras.frame) (hwords : ∀ x ∈ errWords s.errNext, t.rd x = s.rd x) : ErrRecorded s u who addr code data := by
  have hnext : t.errNext = s.errNext := by rw [State.errNext, hwords _ (by simp [errWords]), State.errNext]
  obtain ⟨word0, word1, word2, word3, head, total, event, lost⟩ := h
  rw [hnext] at word0 word1 word2 word3 head lost
  rw [hline] at word1
  rw [hframe] at word3
  rw [hwords _ (by simp [errWords])] at total
  rw [State.flag, hwords _ (by simp [errWords])] at lost
  exact ⟨word0, word1, word2, word3, head, total, event, lost⟩

theorem State.rejectCommit_wordsBut (s : State) {b : Nat} (off code : Nat) (hb : b % 0x1000 = 0) :
    s.wordsBut (s.rejectCommit b off code) (errWords s.errNext ++ [b + 0xC]) := by
  have hpage := s.pageErr_words b off code
  have hnext : (s.pageErr b off code).errNext = s.errNext := by
    rw [State.errNext, hpage _ (by simp [Reg.devErrHead]; omega), State.errNext]
  have hentry := (s.pageErr b off code).errEntry_words 0 (b + off) code 0
  rw [hnext] at hentry
  exact State.wordsBut_trans (State.wordsBut_mono hpage (fun _ => List.mem_append_right _))
    (State.wordsBut_mono hentry (fun _ => List.mem_append_left _))

/-! ### The commit point -/

/-- The page's turn is over: it is no longer due (R61). -/
def State.notDue (s : State) (b : Nat) : State := { s with ras := { s.ras with commitDue := s.ras.commitDue.filter (fun x => x != b) } }

theorem State.notDue_ras (s : State) (b : Nat) : b ∉ (s.notDue b).ras.commitDue := fun h => absurd (List.mem_filter.1 h).2 (by simp)

/-- Where a check fails, PENDING clears and the rejection is recorded. -/
def State.commitFails (s : State) (b : Nat) (c : Nat × Nat × Nat) : State := ((s.notDue b).setFlag (b + 0x1C) 1 false).rejectCommit c.2.1 c.2.2 c.1

/-- Where none fails, the shadows are in force, PENDING clears, DONE sets and LAST_FRAME names the frame served. -/
def State.commitDone (s : State) (b : Nat) : State :=
  ((((s.notDue b).commitPage b).setFlag (b + 0x1C) 1 false).setFlag (b + 0x1C) 2 true).setFld (b + 0x1C) 31 16 (s.servedFrame % 65536)

theorem State.commitDone_ras (s : State) (b : Nat) : (s.commitDone b).ras = (s.notDue b).ras :=
  (State.commitPage_kept (s := s.notDue b) (b := b)).ras.resolve_left (by decide)

theorem State.commitDone_shadow (s : State) (b : Nat) : (s.commitDone b).shadow = ((s.notDue b).commitPage b).shadow := rfl

theorem State.commitFails_ras (s : State) (b : Nat) (c : Nat × Nat × Nat) : (s.commitFails b c).ras = (s.notDue b).ras :=
  (State.rejectCommit_kept (s := (s.notDue b).setFlag (b + 0x1C) 1 false)).ras.resolve_left (by decide)

theorem State.commitFails_shadow (s : State) (b : Nat) (c : Nat × Nat × Nat) : (s.commitFails b c).shadow = s.shadow :=
  (State.rejectCommit_kept (s := (s.notDue b).setFlag (b + 0x1C) 1 false)).shadow.resolve_left (by decide)

theorem State.commitPoint_eq (s : State) (b : Nat) :
    s.commitPoint b = match firstCheck ((s.notDue b).ownCommitCodes b) with
      | some c => s.commitFails b c
      | none => s.commitDone b := rfl

theorem State.commitDone_commit (s : State) (b : Nat) :
    (s.commitDone b).flag (b + 0x1C) 1 = false ∧ (s.commitDone b).flag (b + 0x1C) 2 = true ∧
    (s.commitDone b).fld (b + 0x1C) 31 16 = s.servedFrame % 65536 := by
  unfold State.commitDone
  refine ⟨?_, ?_, ?_⟩
  · rw [State.flag_setFld_other _ _ _ _ _ _ (by decide) (by decide) (by decide), State.flag_setFlag_other _ _ _ _ _ (by decide) (by decide)]
    exact State.flag_setFlag_same _ _ 1 false (by decide)
  · rw [State.flag_setFld_other _ _ _ _ _ _ (by decide) (by decide) (by decide)]
    exact State.flag_setFlag_same _ _ 2 true (by decide)
  · rw [State.fld_setFld_same _ _ _ _ _ (by decide) (by decide)]
    exact Nat.mod_mod _ _

/-- Beside COMMIT, what a commit leaves is what `State.commitPage` leaves. -/
theorem State.commitDone_rest (s : State) {b x : Nat} (h : x ≠ b + 0x1C) :
    (s.commitDone b).rd x = ((s.notDue b).commitPage b).rd x ∧ (s.commitDone b).rdShadow x = ((s.notDue b).commitPage b).rdShadow x := by
  have hrd : (s.commitDone b).rd x = ((s.notDue b).commitPage b).rd x := by
    unfold State.commitDone
    rw [State.rd_setFld_ne _ _ _ _ h, State.rd_setFlag_ne _ _ _ h, State.rd_setFlag_ne _ _ _ h]
  exact ⟨hrd, by rw [State.rdShadow, hrd]; rfl⟩

theorem State.commitFails_words (s : State) {b : Nat} {c : Nat × Nat × Nat} (hb : b % 0x1000 = 0) (hpage : c.2.1 = b) :
    s.wordsBut (s.commitFails b c) (errWords s.errNext ++ [c.2.1 + 0xC, b + 0x1C]) := by
  have hclear : s.wordsBut ((s.notDue b).setFlag (b + 0x1C) 1 false) [b + 0x1C] :=
    State.wordsBut_setFlag (t := s.notDue b) (fun _ _ => rfl) (List.mem_singleton_self _)
  have hnext : ((s.notDue b).setFlag (b + 0x1C) 1 false).errNext = s.errNext := by
    rw [State.errNext, hclear _ (by simp [Reg.devErrHead]; omega), State.errNext]
  have hreject := ((s.notDue b).setFlag (b + 0x1C) 1 false).rejectCommit_wordsBut c.2.2 c.1 (b := c.2.1) (by omega)
  rw [hnext] at hreject
  exact State.wordsBut_trans (State.wordsBut_mono hclear (fun _ hx => List.mem_append_right _ (List.mem_cons_of_mem _ hx)))
    (State.wordsBut_mono hreject (fun _ hx => List.mem_append.2 ((List.mem_append.1 hx).imp_right (List.mem_append_left [b + 0x1C]))))

theorem State.commitFails_recorded (s : State) {b : Nat} {c : Nat × Nat × Nat} (hb : b % 0x1000 = 0) (hpage : c.2.1 = b) :
    ErrRecorded s (s.commitFails b c) 0 (c.2.1 + c.2.2) c.1 0 := by
  refine (State.rejectCommit_recorded _ c.2.1 c.2.2 c.1 (by omega)).over rfl rfl (fun x hx => ?_)
  have hrange := errWords_range s.errNext_lt hx
  exact State.rd_setFlag_ne (s.notDue b) 1 false (by omega)

theorem State.commitFails_flags (s : State) {b : Nat} {c : Nat × Nat × Nat} (hb : b % 0x1000 = 0) (hpage : c.2.1 = b) :
    (s.commitFails b c).flag (b + 0x1C) 1 = false ∧ (s.commitFails b c).flag (b + 0x1C) 2 = s.flag (b + 0x1C) 2 := by
  have hrd : (s.commitFails b c).rd (b + 0x1C) = ((s.notDue b).setFlag (b + 0x1C) 1 false).rd (b + 0x1C) := by
    refine State.rejectCommit_wordsBut _ c.2.2 c.1 (b := c.2.1) (by omega) _ (fun h => ?_)
    rw [List.mem_append, List.mem_singleton] at h
    exact h.elim (State.header_notMem_errWords _ hb (by decide)) (by omega)
  rw [State.flag, State.flag, hrd]
  exact ⟨State.flag_setFlag_same _ _ 1 false (by decide), (s.notDue b).flag_setFlag_other _ 1 2 false (by decide) (by decide)⟩

theorem exec_commitTakeEffect {s : State} {page : Nat} (hdue : s.ras.commitDue.contains (page * 0x1000) = true)
    (hpending : s.flag (page * 0x1000 + 0x1C) 1 = true) :
    exec (.commitTakeEffect page) s = .next (settle (s.commitPoint (page * 0x1000))) :=
  congrArg finish (if_pos (by rw [hdue, hpending]; rfl))

/-- Settles O16: a commit point is `State.commitDone` or `State.commitFails`, by the first check that fails. -/
theorem commitTakesEffect : Obligations.CommitTakesEffect := by
  unfold Obligations.CommitTakesEffect
  intro s page _ hdue hpending
  have hb : page * 0x1000 % 0x1000 = 0 := Nat.mul_mod_left ..
  have hexec := exec_commitTakeEffect hdue hpending
  have hpoint := s.commitPoint_eq (page * 0x1000)
  generalize hcheck : firstCheck (State.ownCommitCodes _ (page * 0x1000)) = check
  change firstCheck ((s.notDue (page * 0x1000)).ownCommitCodes (page * 0x1000)) = check at hcheck
  rw [hcheck] at hpoint
  cases check with
  | none =>
    change s.commitPoint (page * 0x1000) = s.commitDone (page * 0x1000) at hpoint
    rw [hpoint] at hexec
    obtain ⟨hclear, hdone, hframe⟩ := s.commitDone_commit (page * 0x1000)
    refine ⟨_, hexec, (settle_flag _ _ _).trans hclear, ?_, fun x hin hx => ?_, fun x hout => ?_, ?_, (settle_flag _ _ _).trans hdone,
      (settle_fld _ _ _ _).trans hframe⟩
    · rw [settle_ras, State.commitDone_ras]
      exact s.notDue_ras _
    · rw [settle_rd, (s.commitDone_rest hx).1]
      exact (s.notDue _).commitPage_rd_inside hin
    · have hx : x ≠ page * 0x1000 + 0x1C := fun h => by
        rw [h, inPage, decide_eq_true (by omega)] at hout
        exact Bool.noConfusion hout
      obtain ⟨hrd, hshadow⟩ := s.commitDone_rest hx
      obtain ⟨hrd', hshadow'⟩ := (s.notDue (page * 0x1000)).commitPage_outside hout
      exact ⟨(settle_rd _ _).trans (hrd.trans hrd'), (settle_rdShadow _ _).trans (hshadow.trans hshadow')⟩
    · rw [settle_shadow, State.commitDone_shadow]
      exact State.commitPage_shadow _ _
  | some c =>
    change s.commitPoint (page * 0x1000) = s.commitFails (page * 0x1000) c at hpoint
    rw [hpoint] at hexec
    have hpage : c.2.1 = page * 0x1000 := State.ownCommitCodes_page (firstCheck_mem hcheck)
    obtain ⟨hclear, hdone⟩ := s.commitFails_flags hb hpage
    refine ⟨_, hexec, (settle_flag _ _ _).trans hclear, ?_, ?_, (s.commitFails_recorded hb hpage).settle, (settle_flag _ _ _).trans hdone,
      State.wordsBut_settle (s.commitFails_words hb hpage)⟩
    · rw [settle_ras, State.commitFails_ras]
      exact s.notDue_ras _
    · rw [settle_shadow, State.commitFails_shadow]

end Sys2Proof.Machine

/-! SUPPORT. Logging into a full stage (R504, R506), and the refutation of O58. -/

namespace Sys2Proof.Machine

theorem exec_svcLogLost {s : State} (h : 256 ≤ s.log.staged.length) (source event severity : Nat) (data : List Byte) (t : Nat) :
    exec (.svcLogLost source event severity data t) s = .next (settle ((s.at t).logIt source event severity data)) :=
  congrArg finish (if_neg (Nat.not_lt.2 h))

/-- A full stage that holds an INFO entry loses its oldest one for the new entry (R506). -/
theorem State.stage_full {s : State} {i : Nat} (e : LogEntry) (hfull : 256 ≤ s.log.staged.length)
    (hinfo : s.log.staged.findIdx? (fun x => x.severity == 0) = some i) : (s.stage e).log.staged = s.log.staged.eraseIdx i ++ [e] := by
  rw [State.stage, if_neg (Nat.not_lt.2 hfull), hinfo]
  rfl

/-- While device time is not valid an entry that is made carries FLAGS[1] (R391, R504). -/
theorem State.logIt_full_flags {s : State} {i : Nat} (source event severity : Nat) (data : List Byte) (hfull : 256 ≤ s.log.staged.length)
    (hinfo : s.log.staged.findIdx? (fun x => x.severity == 0) = some i) (htime : s.flag Reg.timStatus 2 = false) :
    (s.logIt source event severity data).log.staged.getLast?.map LogEntry.flags = some 2 := by
  have hflags : s.timeFlag = 2 := by rw [State.timeFlag, htime]; rfl
  rw [State.logIt, State.stage_full _ hfull hinfo, List.getLast?_append, List.getLast?_singleton, hflags]
  rfl

/-- A staged INFO entry. -/
def infoEntry : LogEntry := { time := 0, frame := 0, source := 0, event := 0, severity := 0, flags := 0, data := [] }

/-- The device right after reset, whose time is not valid, with a stage full of INFO entries. -/
def fullStage : State := { State.reset with log := { Log.reset with staged := List.replicate 256 infoEntry } }

theorem fullStage_timeInvalid : fullStage.flag Reg.timStatus 2 = false := by decide +kernel

theorem fullStage_info : fullStage.log.staged.findIdx? (fun x => x.severity == 0) = some 0 := by decide +kernel

/-- Refutes O58: its last clause says that the new entry has FLAGS 0, but where device time is not valid, as in `fullStage`, the entry
that takes the oldest INFO entry's place has FLAGS[1] set. -/
theorem not_unitsAndLog : ¬ Obligations.UnitsAndLog := by
  unfold Obligations.UnitsAndLog
  intro h
  have hfull : 256 ≤ fullStage.log.staged.length := by decide +kernel
  obtain ⟨-, -, -, -, hlost⟩ := h fullStage
  obtain ⟨u, hexec, -, -, hlog⟩ := hlost 0 0 0 [] 0 hfull
  have hu : settle ((fullStage.at 0).logIt 0 0 0 []) = u := Host.Outcome.next.inj ((exec_svcLogLost hfull 0 0 0 [] 0).symm.trans hexec)
  have hmodel : u.log.staged.getLast?.map LogEntry.flags = some 2 := by
    rw [← hu, settle_log]
    exact State.logIt_full_flags (s := fullStage.at 0) 0 0 0 [] hfull fullStage_info fullStage_timeInvalid
  have hclaim : u.log.staged.getLast?.map LogEntry.flags = some 0 := by
    rw [hlog, fullStage_info, List.getLast?_append, List.getLast?_singleton]
    rfl
  exact absurd (hmodel.symm.trans hclaim) (by decide)

end Sys2Proof.Machine

/-! SUPPORT. Word 2 of a Caravan entry: where it stands, what an accepted write of it does (R93, R95, R97), and O19. -/

namespace Sys2Proof.Machine

/-! ### The rows of the entries (R95) -/

/-- Rows that end before an offset do not cover it. -/
theorem rowFor_append_below {l : List RegRow} {off : Nat} (m : List RegRow)
    (h : ∀ r ∈ l, r.base + r.stride * r.count ≤ off ∧ 0 < r.stride) : rowFor (l ++ m) off = rowFor m off := by
  induction l with
  | nil => rfl
  | cons r l ih =>
    obtain ⟨hend, hstride⟩ := h r (List.mem_cons_self ..)
    rw [List.cons_append, rowFor_cons_below _ hend hstride, ih (fun q hq => h q (List.mem_cons_of_mem _ hq))]

/-- A row does not cover an offset between two of its words. -/
theorem RegRow.index?_between {r : RegRow} {off : Nat} (h : (off - r.base) % r.stride ≠ 0) : r.index? off = none :=
  if_neg (fun hc => h hc.2.1)

/-- The fields of word 2 of an entry. -/
def crvWord2Fields : List FieldDef := [fAny 19 0 .rw, fAny 23 20 .rw, fAny 24 24 .rw, fAny 25 25 .rw, fAny 31 31 .rw]

theorem crvWord2Fields_rw : ∀ f ∈ crvWord2Fields, f.kind = .rw := by decide

theorem rowFor_crvWord2 {base n k : Nat} (hk : k < n) :
    rowFor (rowsCrvEntries base n) (base + 8 + 0x10 * k) = some (rowN "RAS_CRV_W2" (base + 8) 0x10 n 0 crvWord2Fields, k) := by
  have hword0 : (rowN "RAS_CRV_W0" base 0x10 n 0 rwW).index? (base + 8 + 0x10 * k) = none :=
    RegRow.index?_between (by simp only [rowN]; omega)
  have hword1 : (rowN "RAS_CRV_W1" (base + 4) 0x10 n 0 rwW).index? (base + 8 + 0x10 * k) = none :=
    RegRow.index?_between (by simp only [rowN]; omega)
  have hword2 : (rowN "RAS_CRV_W2" (base + 8) 0x10 n 0 crvWord2Fields).index? (base + 8 + 0x10 * k) = some k :=
    RegRow.index?_word _ hk (show 0 < 0x10 by decide)
  rw [rowsCrvEntries, ← crvWord2Fields, rowFor, hword0]
  dsimp only
  rw [rowFor, hword1]
  dsimp only
  rw [rowFor, hword2]

theorem pageOf_ras {a i : Nat} (ha : a / 0x1000 = 0x10 + i) (hi : i < 16) : pageOf a = pageDef 1 i := by
  have hcode : a / 0x10000 = 1 := by omega
  have hindex : a / 0x1000 % 16 = i := by omega
  rw [pageOf, if_pos (by omega), hcode, hindex]

/-- Word 2 of every entry has a row of its own on its page. -/
theorem crvWord2_row {e : Nat} (he : e < 512) : ∃ p r i, pageOf (Reg.crvW e 2) = some p ∧
    rowFor p.rows (Reg.crvW e 2 % 0x1000) = some (r, i) ∧ r.fields = crvWord2Fields := by
  unfold Reg.crvW
  split
  · have hoff : (0x11800 + 0x10 * e + 4 * 2) % 0x1000 = 0x800 + 8 + 0x10 * e := by omega
    refine ⟨_, rowN "RAS_CRV_W2" (0x800 + 8) 0x10 32 0 crvWord2Fields, e, (pageOf_ras (i := 1) (by omega) (by decide)).trans rfl, ?_, rfl⟩
    rw [hoff]
    refine (rowFor_append_below _ (fun r hr => ?_)).trans (rowFor_crvWord2 (by omega))
    have hend : ∀ q ∈ rowsCrvCtrl.take 12, q.base + q.stride * q.count ≤ 0x800 ∧ 0 < q.stride := by decide
    have := hend r hr
    omega
  · split
    · have hoff : (0x12100 + 0x10 * (e - 32) + 4 * 2) % 0x1000 = 0x100 + 8 + 0x10 * (e - 32) := by omega
      refine ⟨_, rowN "RAS_CRV_W2" (0x100 + 8) 0x10 240 0 crvWord2Fields, e - 32, (pageOf_ras (i := 2) (by omega) (by decide)).trans rfl, ?_, rfl⟩
      rw [hoff]
      exact rowFor_crvWord2 (by omega)
    · have hoff : (0x13100 + 0x10 * (e - 272) + 4 * 2) % 0x1000 = 0x100 + 8 + 0x10 * (e - 272) := by omega
      refine ⟨_, rowN "RAS_CRV_W2" (0x100 + 8) 0x10 240 0 crvWord2Fields, e - 272, (pageOf_ras (i := 3) (by omega) (by decide)).trans rfl, ?_, rfl⟩
      rw [hoff]
      exact rowFor_crvWord2 (by omega)

theorem crvWord2_range {e : Nat} (he : e < 512) : 0x11800 ≤ Reg.crvW e 2 ∧ Reg.crvW e 2 < 0x14000 ∧ 0x40 ≤ Reg.crvW e 2 % 0x1000 := by
  unfold Reg.crvW
  split
  · omega
  · split <;> omega

theorem crvEntryOf_crvWord2 {e : Nat} (he : e < 512) : crvEntryOf (Reg.crvW e 2) = some e := by
  unfold crvEntryOf Reg.crvW
  split
  · rw [if_pos (by omega)]
    exact congrArg some (by omega)
  · split
    · rw [if_neg (by omega), if_pos (by omega)]
      exact congrArg some (by omega)
    · rw [if_neg (by omega), if_neg (by omega), if_pos (by omega)]
      exact congrArg some (by omega)

/-! ### Accepted writes of word 2 (R97) -/

/-- An accepted write of word 2 stores the data as written and starts what `rasEffect` says. -/
theorem State.writeWord_crvWord2 {s : State} {who : Requester} {e data : Nat} (he : e < 512) (hacc : s.accepts who (Reg.crvW e 2) data)
    (h32 : data < 2 ^ 32) :
    s.writeWord who (Reg.crvW e 2) 4 data = (s.wr (Reg.crvW e 2) data).rasEffect (Reg.crvW e 2) (s.rd (Reg.crvW e 2)) data := by
  obtain ⟨p, hp, hcode⟩ := hacc
  obtain ⟨q, r, i, hpage, hrow, hfields⟩ := crvWord2_row he
  obtain ⟨hlow, hhigh, hoff⟩ := crvWord2_range he
  generalize Reg.crvW e 2 = a at *
  have hmod : a % 0x400000 = a := Nat.mod_eq_of_lt (by omega)
  rw [← hmod] at hrow hoff
  have hrw : ∀ f ∈ r.fields, f.kind = .rw := by rw [hfields]; exact crvWord2Fields_rw
  obtain rfl : p = q := Option.some.inj ((State.reached_pageOf hp).symm.trans (hmod.symm ▸ hpage))
  have hstored : r.stored (stickyMask (a % 0x400000)) (s.rd (a % 0x400000)) data = data :=
    RegRow.stored_rw (State.reached_row_laid hp hrow) hrw (State.accepted_reserved hcode hoff hrow) h32
  have hblock : p.code = 0x01 := by rw [(State.reached_place hp).1]; omega
  have haddr : p.base + a % 0x1000 = a := by rw [State.reached_base hp]; omega
  have heffect : ∀ t : State, t.blockEffect p (a % 0x1000) (s.rd a) data = t.rasEffect a (s.rd a) data := fun t => by
    simp [State.blockEffect, hblock, haddr]
  rw [State.writeWord_row hp hcode hoff hrow (fun f hf => by rw [hrw f hf]; decide), hstored, hmod, heffect]
  exact State.certCheck_same _ _ (State.rasEffect_kept.secu.resolve_left (by decide))

theorem State.crvOver_regs (s : State) (e : Nat) : (s.crvOver e).regs = s.regs := by
  unfold State.crvOver
  split <;> rfl

theorem State.crvOver_lastIssue (s : State) (e : Nat) : (s.crvOver e).crv.lastIssue = s.crv.lastIssue := by
  unfold State.crvOver
  split <;> rfl

/-- What an arming leaves of the dispatcher: nothing of the entry waits any more, and its occurrence in this frame may be over. -/
def State.crvRearm (s : State) (e : Nat) : State :=
  { s with crv := { s.crv with firedNow := s.crv.firedNow.filter (fun x => x != e), waiting := s.crv.waiting.filter (fun x => x.2 != e) } }.crvArmed1 e

theorem State.crvRearm_regs (s : State) (e : Nat) : (s.crvRearm e).regs = s.regs :=
  (apply_ite State.regs _ _ _).trans (by rw [State.crvOver_regs]; exact ite_self _)

/-- Arming dispatches nothing (R97). -/
theorem State.crvRearm_lastIssue (s : State) (e : Nat) : (s.crvRearm e).crv.lastIssue = s.crv.lastIssue :=
  (apply_ite (fun t : State => t.crv.lastIssue) _ _ _).trans (by rw [State.crvOver_lastIssue]; exact ite_self _)

/-- A write of word 2 with VALID 1 arms the entry; with VALID 0 it starts nothing. -/
theorem State.rasEffect_crvWord2 (s : State) {e : Nat} (old data : Nat) (he : e < 512) :
    s.rasEffect (Reg.crvW e 2) old data = if bitOf data 31 then s.crvRearm e else s := by
  have hctrl : Reg.crvW e 2 ≠ Reg.rasCrvCtrl := by
    have := crvWord2_range he
    unfold Reg.rasCrvCtrl
    omega
  rw [State.rasEffect, if_neg hctrl, crvEntryOf_crvWord2 he]
  cases bitOf data 31
  · exact if_neg (fun h => Bool.false_ne_true h.2)
  · exact if_pos ⟨rfl, rfl⟩

theorem bitOf_putBits_zero (w i : Nat) : bitOf (putBits w i i 0) i = false := by
  rw [bitOf_eq, bitsOf_putBits_same _ _ _ _ (Nat.le_refl i), Nat.zero_mod]
  rfl

theorem exec_caravanArm {s : State} {who : Requester} {e : Nat} {data : Word} (he : e < 512)
    (hacc : s.accepts who (Reg.crvW e 2) (putBits data.toNat 31 31 1)) :
    exec (.caravanArm who e data) s = .next (settle ((s.wr (Reg.crvW e 2) (putBits data.toNat 31 31 1)).crvRearm e)) := by
  have hlt : putBits data.toNat 31 31 1 < 2 ^ 32 := putBits_lt _ _ _ _ (by decide) (by decide) data.isLt
  refine congrArg finish ((State.writeWord_crvWord2 he hacc hlt).trans ?_)
  rw [State.rasEffect_crvWord2 _ _ _ he, if_pos (bitOf_putBits_one _ _)]

theorem exec_caravanDisarm {s : State} {who : Requester} {e : Nat} {data : Word} (he : e < 512)
    (hacc : s.accepts who (Reg.crvW e 2) (putBits data.toNat 31 31 0)) :
    exec (.caravanDisarm who e data) s = .next (settle (s.wr (Reg.crvW e 2) (putBits data.toNat 31 31 0))) := by
  have hlt : putBits data.toNat 31 31 0 < 2 ^ 32 := putBits_lt _ _ _ _ (by decide) (by decide) data.isLt
  refine congrArg finish ((State.writeWord_crvWord2 he hacc hlt).trans ?_)
  rw [State.rasEffect_crvWord2 _ _ _ he, bitOf_putBits_zero, if_neg Bool.false_ne_true]

/-- Settles O19: the write stores word 2 as written, and beside it an arming touches the dispatcher's lists alone. -/
theorem caravanArming : Obligations.CaravanArming := by
  unfold Obligations.CaravanArming
  intro s who e data he
  have hword : ∀ v, s.wordsBut (s.wr (Reg.crvW e 2) v) [Reg.crvW e 2] := fun v =>
    State.wordsBut_wr (State.wordsBut_refl _ _) (List.mem_singleton_self _)
  have hstored : ∀ b, (s.wr (Reg.crvW e 2) (putBits data.toNat 31 31 b)).rd (Reg.crvW e 2) = putBits data.toNat 31 31 b := fun b =>
    (State.rd_wr_same _ _ _).trans (Nat.mod_eq_of_lt (putBits_lt _ _ _ _ (by decide) (by decide) data.isLt))
  refine ⟨fun hacc => ⟨_, exec_caravanArm he hacc, ?_⟩, fun hacc => ⟨_, exec_caravanDisarm he hacc, ?_⟩⟩
  · have hrd : ∀ x, (settle ((s.wr (Reg.crvW e 2) (putBits data.toNat 31 31 1)).crvRearm e)).rd x =
        (s.wr (Reg.crvW e 2) (putBits data.toNat 31 31 1)).rd x := fun x => by
      rw [settle_rd, State.rd, State.crvRearm_regs, State.rd]
    rw [State.flag, State.fld, hrd, hstored]
    refine ⟨bitOf_putBits_one _ _, ?_, fun x hx => (hrd x).trans (hword _ x hx), ?_⟩
    · exact bitsOf_putBits_other _ _ _ _ _ _ (by decide) (by decide) (by decide)
    · rw [settle_crv, State.crvRearm_lastIssue, State.wr_crv]
  · rw [State.flag, settle_rd, hstored, settle_crv]
    exact ⟨bitOf_putBits_zero _ _, State.wordsBut_settle (hword _), State.wr_crv _ _ _⟩

end Sys2Proof.Machine

/-! SUPPORT. The steps of a mode transition (R84, R92, R319), and O18. -/

namespace Sys2Proof.Machine

/-! ### What moves the step, the frame and the timing -/

theorem State.toStep_ras (s : State) (k : Nat) (e : Option Nat) :
    (s.toStep k e).ras = { s.ras with step := k, stepEnd := e, stepFrames := 0 } := rfl

theorem State.fadeOver_of {s : State} {e : Nat} (hend : s.ras.stepEnd = some e) (htime : e ≤ s.now) : s.fadeOver = true := by
  unfold State.fadeOver
  rw [hend]
  exact decide_eq_true htime

/-- A relabel renames the frame and nothing else of the raster (R85). -/
theorem State.relabel_ras (s : State) (f : Nat) : (s.relabel f).ras = { s.ras with frame := f % 2 ^ 64 } :=
  State.crvSweep_kept.ras.resolve_left (by decide)

theorem State.targetRetag_ras (s : State) (a b : Nat) : (s.targetRetag a b).ras =
    { s.ras with transDue := s.ras.transDue.map (fun n => (n + b + (2 ^ 64 - a)) % 2 ^ 64) } := by
  unfold State.targetRetag
  dsimp only
  split <;> rfl

/-- Of the raster, what follows a relabel is the transition that is due alone (R85). -/
theorem State.relabelled_ras (s : State) (a b : Nat) :
    ∃ g, (s.relabelled a b).ras = { s.ras with transDue := s.ras.transDue.map g } := by
  unfold State.relabelled
  split
  · exact ⟨id, by rw [Option.map_id_fun]; rfl⟩
  · refine ⟨fun n => (n + b + (2 ^ 64 - a)) % 2 ^ 64, (State.targetRetag_ras _ a b).trans ?_⟩
    rw [State.lensRetag_kept.ras.resolve_left (by decide), State.retag_kept.ras.resolve_left (by decide)]

/-- The new timing values in force, and nothing of the transition pending. -/
def State.takeNewTiming (s : State) : State :=
  { s with ras := { s.ras with timing := s.ras.newTiming.getD s.nextT, newTiming := none, nextTiming := none, transDue := none, skipFade := false } }

/-- The last line before the restart, which began at `start`. -/
def State.standOnLastLine (s : State) (start : Nat) : State :=
  { s with ras := { s.ras with line := s.ras.timing.vtotal - 1, lineStart := start, slew := 0 }, pnl := { s.pnl with codes := [] } }

theorem State.retime_eq (s : State) : ∃ (start a f g : Nat) (e : Option Nat),
    s.retime = (((((((s.takeNewTiming.standOnLastLine start).relabel g).crvSkipFrame.relabelled a f).brcRetime).planRetime).bklLatch f).toStep 4
      e).reacquire :=
  ⟨_, _, _, _, _, rfl⟩

/-- The retime puts the new timing in force and stands on the last line of the frame before the restart (R85, R92). -/
theorem State.retime_spec (s : State) : s.retime.ras.step = 4 ∧ s.retime.ras.timing = s.ras.newTiming.getD s.nextT ∧
    s.retime.ras.newTiming = none ∧ s.retime.ras.transDue = none ∧ s.retime.ras.line = s.retime.ras.timing.vtotal - 1 := by
  obtain ⟨start, a, f, g, e, heq⟩ := s.retime_eq
  obtain ⟨due, hretag⟩ := ((s.takeNewTiming.standOnLastLine start).relabel g).crvSkipFrame.relabelled_ras a f
  rw [heq, State.reacquire, State.toStep_ras, State.bklLatch_kept.ras.resolve_left (by decide),
    State.planRetime_kept.ras.resolve_left (by decide), State.brcRetime_kept.ras.resolve_left (by decide), hretag,
    State.crvSkipFrame_kept.ras.resolve_left (by decide), State.relabel_ras]
  exact ⟨rfl, rfl, rfl, rfl, rfl⟩

/-! ### The commands -/

section
variable {s : State} {t : Nat} (hon : s.rasterOn = true)
include hon

theorem exec_transitionFadeOut (hstep : s.ras.step = 0) (hline : s.ras.line = 0) (hdue : s.ras.transDue = some s.ras.frame)
    (hskip : s.ras.skipFade = false) : exec (.transitionFadeOut t) s =
      .next (settle ((State.transFadeOut { s.at t with ras := { s.ras with transDue := none } }).toStep 1
        (some (max s.now t + s.fld Reg.rasTransFade 13 0 * ms)))) :=
  congrArg finish (if_pos (by simp [hon, hstep, hline, hdue, hskip]))

theorem exec_transitionLensPark {e : Nat} (hstep : s.ras.step = 1) (hend : s.ras.stepEnd = some e) (htime : e ≤ max s.now t) :
    exec (.transitionLensPark t) s = .next (settle (((s.at t).fadeEnd).toStep 2 none).lensCut) :=
  congrArg finish (if_pos (by simp [hon, hstep, State.fadeOver_of (s := s.at t) hend htime]))

theorem exec_transitionDischarge (hstep : s.ras.step = 2) (hline : s.ras.line = 0) (hlens : s.pnl.lens = [])
    (hframes : s.fld Reg.pnlLnsCtrl 14 8 < s.ras.stepFrames) : exec (.transitionDischarge t) s = .next (settle ((s.at t).toStep 3 none)) :=
  congrArg finish (if_pos (by simp [hon, State.dischDue, hstep, hline, hlens, Nat.succ_le_of_lt hframes]))

theorem exec_transitionRetime (hline : s.ras.line = 0)
    (hdue : s.ras.step = 3 ∧ 2 ≤ s.ras.stepFrames ∨ s.ras.step = 0 ∧ s.ras.transDue = some s.ras.frame ∧ s.ras.skipFade = true) :
    exec (.transitionRetime t) s = .next (settle (s.at t).retime) := by
  have hretime : s.retimeDue = true := by
    rcases hdue with ⟨hstep, hframes⟩ | ⟨hstep, hframe, hskip⟩
    · simp [State.retimeDue, hline, hstep, hframes]
    · simp [State.retimeDue, hline, hstep, hframe, hskip]
  exact congrArg finish (if_pos (by rw [hon, hretime]; rfl))

theorem exec_transitionReacquireEnd (hstep : s.ras.step = 5) (hline : s.ras.line = 0)
    (hlock : s.ras.lock = 2 ∧ 16 ≤ s.ras.stepFrames ∨ (s.ras.lock = 0 ∨ s.ras.lock = 3) ∧ s.ras.holdFrames ≤ s.ras.stepFrames) :
    exec (.transitionReacquireEnd t) s = .next (settle ((s.at t).toStep 6 none)) :=
  congrArg finish (if_pos (by simpa [hon, hstep, hline] using hlock))

theorem exec_transitionFadeIn (hstep : s.ras.step = 6) (hline : s.ras.line = 0) (hend : s.ras.stepEnd = none) (hframes : 1 ≤ s.ras.stepFrames) :
    exec (.transitionFadeIn t) s =
      .next (settle ((s.at t).toStep 6 (some (max s.now t + s.fld Reg.rasTransFade 29 16 * ms))).transFadeIn) :=
  congrArg finish (if_pos (by simp [hon, hstep, hline, hend, hframes]))

theorem exec_rasTransitionDone {e : Nat} (hstep : s.ras.step = 6) (hend : s.ras.stepEnd = some e) (htime : e ≤ max s.now t) :
    exec (.rasTransitionDone t) s = .next (settle ((((s.at t).fadeEnd).toStep 0 none).raise 0x10000 5)) :=
  congrArg finish (if_pos (by simp [hon, hstep, State.fadeOver_of (s := s.at t) hend htime]))

end

/-- Settles O18, step by step: what a step does beside moving on (fades, the cut lens drive, the relabel of a retime) leaves the
raster's step, its end and its timing alone. -/
theorem modeTransitionSteps : Obligations.ModeTransitionSteps := by
  unfold Obligations.ModeTransitionSteps
  intro s t hon
  have hfadeEnd : (s.at t).fadeEnd.ras = s.ras := State.fadeEnd_kept.ras.resolve_left (by decide)
  refine ⟨fun hstep hline hdue hskip => ⟨_, exec_transitionFadeOut hon hstep hline hdue hskip, ?_⟩,
    fun e hstep hend htime => ⟨_, exec_transitionLensPark hon hstep hend htime, ?_⟩,
    fun hstep hline hlens hframes => ⟨_, exec_transitionDischarge hon hstep hline hlens hframes, ?_⟩,
    fun hline hdue => ⟨_, exec_transitionRetime hon hline hdue, ?_⟩,
    fun hstep hline hlock => ⟨_, exec_transitionReacquireEnd hon hstep hline hlock, ?_⟩,
    fun hstep hline hend hframes => ⟨_, exec_transitionFadeIn hon hstep hline hend hframes, ?_⟩,
    fun e hstep hend htime => ⟨_, exec_rasTransitionDone hon hstep hend htime, ?_⟩⟩
  · rw [settle_ras, State.toStep_ras, State.transFadeOut_kept.ras.resolve_left (by decide)]
    exact ⟨rfl, rfl, rfl⟩
  · have hpnl : (s.at t).fadeEnd.pnl = s.pnl := State.fadeEnd_kept.pnl.resolve_left (by decide)
    rw [settle_ras, settle_pnl, ← hpnl]
    exact ⟨rfl, rfl⟩
  · exact ⟨settle_ras _, settle_regs _⟩
  · rw [settle_ras]
    exact (s.at t).retime_spec
  · exact ⟨settle_ras _, settle_regs _⟩
  · rw [settle_ras, State.transFadeIn_kept.ras.resolve_left (by decide)]
    exact ⟨rfl, rfl⟩
  · rw [settle_ras, State.raise_ras, State.toStep_ras, hfadeEnd, settle_flag]
    exact ⟨rfl, State.flag_raise_same _ 0x10000 5 (by decide)⟩

end Sys2Proof.Machine

/-! SUPPORT. What a line start does to the raster (R77, R86, R89, R90): the entries left behind, the line's events, the link. -/

namespace Sys2Proof.Machine

/-! ### Entries left behind (R99) -/

theorem crvEntryOf_lt {a i : Nat} (h : crvEntryOf a = some i) : i < 512 := by
  unfold crvEntryOf at h
  split at h
  · obtain rfl := Option.some.inj h
    omega
  · split at h
    · obtain rfl := Option.some.inj h
      omega
    · split at h
      · obtain rfl := Option.some.inj h
        omega
      · cases h

theorem State.crvArmed_lt {s : State} {e : Nat} (h : e ∈ s.crvArmed) : e < 512 := by
  obtain ⟨w, -, hw⟩ := List.mem_filterMap.1 h
  split at hw
  · rename_i hentry
    split at hw
    · exact Option.some.inj hw ▸ crvEntryOf_lt hentry
    · cases hw
  · cases hw

/-- An address in none of the Caravan's pages. -/
abbrev outsideCrv (x : Nat) : Prop := ¬ (0x11000 ≤ x ∧ x < 0x14000)

theorem State.crvMiss_words {s : State} {e : Nat} (he : e < 512) : WordsKept outsideCrv s (s.crvMiss e) := by
  have hout : ¬ outsideCrv (Reg.crvW e 2) := by
    have := crvWord2_range he
    unfold outsideCrv
    omega
  exact .raise (.add (.setFlag (.refl _ _) hout) (by decide)) (by decide)

theorem State.crvSweep_words {s : State} : WordsKept outsideCrv s s.crvSweep :=
  .foldl (.refl _ _) (fun r e he hr => by
    have hmiss := hr.trans (r.crvMiss_words (State.crvArmed_lt he))
    exact .ite hmiss (.ite (.ite (.regs hr (State.crvOver_regs r e)) (.ite hr hmiss)) hr))

theorem State.crvDisabledSweep_words {s : State} : WordsKept outsideCrv s s.crvDisabledSweep :=
  .ite (.refl _ _) (.trans (.regs (.refl _ _) rfl) State.crvSweep_words)

/-- Which pages that commit by themselves have a request pending depends on their COMMIT registers alone (R61). -/
theorem WordsKept.ownPending {s t : State} (h : WordsKept outsideCrv s t) : t.ownPending = s.ownPending := by
  refine List.filter_congr fun b hb => h.flag ?_ 1
  simp only [List.mem_cons, List.not_mem_nil, or_false] at hb
  unfold outsideCrv
  omega

/-! ### The events of a line (R80, R89, R90) -/

/-- Comparator `n` looks at the line that starts. -/
def State.lineCompare (s : State) (n : Nat) : State :=
  if s.flag (Reg.rasLmatch n) 31 && s.fld (Reg.rasLmatch n) 15 0 == s.ras.line then
    (if s.flag (Reg.rasLmatch n) 30 then s.setFlag (Reg.rasLmatch n) 31 false else s).raise 0x10000 (8 + n)
  else s

/-- The event of the line behind the last one of the active picture. -/
def State.lineBlank (s : State) : State := if s.ras.line = s.ras.timing.vactive then s.raise 0x10000 0 else s

theorem State.lineEvents_eq (s : State) (latch : Bool) : s.lineEvents latch = (List.range 4).foldl State.lineCompare
    (if latch then (s.lineBlank.raise 0x10000 1).underrunsShow else s.lineBlank) := rfl

theorem State.lineBlank_ras (s : State) : s.lineBlank.ras = s.ras := by
  unfold State.lineBlank
  split <;> rfl

theorem State.lineCompare_kept {s : State} {n : Nat} : Kept 0 s (s.lineCompare n) :=
  Kept.ite (Kept.step State.raise_kept rfl (Kept.ite State.setFlag_kept (Kept.refl _ _))) (Kept.refl _ _)

theorem State.lineCompares_ras (s : State) (l : List Nat) : (l.foldl State.lineCompare s).ras = s.ras :=
  (Kept.foldl (Kept.refl 0 s) (fun _ _ h => h.trans State.lineCompare_kept)).ras.resolve_left (by decide)

/-- Repeated lines that were noted have been reported (R90). -/
theorem State.underrunsShow_ras (s : State) : s.underrunsShow.ras = { s.ras with underruns := 0 } := by
  unfold State.underrunsShow
  split
  · rename_i hnone
    rw [← hnone]
  · rfl

/-- The events of a line other than those of the latch edge leave the raster alone. -/
theorem State.lineEvents_ras (s : State) : (s.lineEvents false).ras = s.ras := by
  rw [State.lineEvents_eq, State.lineCompares_ras]
  exact s.lineBlank_ras

theorem State.lineEvents_latch_ras (s : State) : (s.lineEvents true).ras = { s.ras with underruns := 0 } := by
  rw [State.lineEvents_eq, State.lineCompares_ras, if_pos rfl, State.underrunsShow_ras, State.raise_ras, State.lineBlank_ras]

/-- An event that has been raised stays so while others are raised. -/
theorem State.flag_raise_of_flag {s : State} {b i : Nat} (j : Nat) (hj : j < 32) (h : s.flag (b + 0x10) i = true) :
    (s.raise b j).flag (b + 0x10) i = true := by
  by_cases hij : i = j
  · rw [hij]
    exact s.flag_raise_same b j hj
  · rw [State.raise, State.tellMarigold_flag, State.flag_setFlag_other _ _ _ _ _ hj hij]
    exact h

theorem State.lineCompare_event {s : State} {n : Nat} (hn : n < 4) (h : s.flag 0x10010 1 = true) :
    (s.lineCompare n).flag 0x10010 1 = true := by
  have hword : 0x10010 ≠ Reg.rasLmatch n := by
    unfold Reg.rasLmatch
    omega
  unfold State.lineCompare
  split
  · refine State.flag_raise_of_flag (b := 0x10000) (8 + n) (by omega) ?_
    split
    · rw [State.flag_setFlag_ne _ _ _ _ hword]
      exact h
    · exact h
  · exact h

theorem State.underrunsShow_event {s : State} (h : s.flag 0x10010 1 = true) : s.underrunsShow.flag 0x10010 1 = true := by
  unfold State.underrunsShow
  split
  · exact h
  · rw [State.flag, State.rd_add_ne _ _ (by decide)]
    exact State.flag_raise_of_flag (b := 0x10000) 3 (by decide) h

/-- The latch edge raises RAS_LATCH (R89). -/
theorem State.lineEvents_latch_event (s : State) : (s.lineEvents true).flag 0x10010 1 = true := by
  have hlatch : (s.lineBlank.raise 0x10000 1).underrunsShow.flag 0x10010 1 = true :=
    State.underrunsShow_event (State.flag_raise_same _ 0x10000 1 (by decide))
  rw [State.lineEvents_eq, if_pos rfl]
  refine List.foldlRecOn (motive := fun t : State => t.flag 0x10010 1 = true) (List.range 4) State.lineCompare hlatch
    (fun t ht n hn => State.lineCompare_event (List.mem_range.1 hn) ht)

/-! ### The link (R89, R90, R303) -/

/-- A repeated line has been noted for the report at the latch edge: on line LATCH before that edge alone (R90). -/
def Ras.repeatNoted (r q : Ras) : Prop := (r.line = r.timing.latch ∧ r.latched = false) ∧ q = { r with underruns := r.underruns + 1 }

theorem State.underrun_ras (s : State) : s.underrun.ras = s.ras ∨ s.ras.repeatNoted s.underrun.ras := by
  unfold State.underrun
  split
  · rename_i hcond
    exact .inr ⟨⟨hcond.1, by simpa using hcond.2⟩, rfl⟩
  · exact .inl rfl

/-- What `n` repeated groups of a line leave behind: counts, RAS_UNDERRUN and the panel's own event (R90, R303). -/
def State.lineRepeats (s : State) (n : Nat) : State :=
  if n = 0 then s
  else
    let s := { s with ing := { s.ing with repLines := s.ing.repLines + 1 } }
    let s := ((s.add (Reg.pnlStat 2) 1).add (Reg.pnlStat 3) n).underrun
    if s.pnl.repeated then s else { s with pnl := { s.pnl with repeated := true } }.raise 0xB0000 0

theorem State.lineRepeats_ras (s : State) (n : Nat) : (s.lineRepeats n).ras = s.ras ∨ s.ras.repeatNoted (s.lineRepeats n).ras := by
  unfold State.lineRepeats
  split
  · exact .inl rfl
  · extract_lets src s1 s2
    have hunderrun : s2.ras = s.ras ∨ s.ras.repeatNoted s2.ras := State.underrun_ras ((s1.add (Reg.pnlStat 2) 1).add (Reg.pnlStat 3) n)
    clear_value s2
    split <;> exact hunderrun

/-- Sending a line leaves the raster alone, unless it notes a repeated line. -/
theorem State.linkLine_ras (s : State) : s.linkLine.ras = s.ras ∨ s.ras.repeatNoted s.linkLine.ras := by
  unfold State.linkLine
  split
  · exact .inl rfl
  · split
    · exact .inl (State.sendIdle_kept.ras.resolve_left (by decide))
    · extract_lets +onlyGivenNames -merge first src s0 regions tw spans s1 seq src2 s2 s3 s4 s5
      have h0 : s0.ras = s.ras := by
        unfold s0
        split <;> rfl
      have h1 : s1.ras = s0.ras := by
        have hlane : Kept 34359740416 s0 s1 := Kept.foldl (Kept.refl _ s0) (fun r l hr => by
          split
          · exact Kept.step State.sendLane_kept rfl hr
          · exact Kept.ite (Kept.step State.sendLane_kept rfl hr) (Kept.step State.sendLane_kept rfl hr))
        exact hlane.ras.resolve_left (by decide)
      have h5 : s5.ras = s.ras := by
        have h4 : s4.ras = s.ras := (apply_ite State.ras _ _ _).trans ((ite_self _).trans (h1.trans h0))
        exact (apply_ite State.ras _ _ _).trans ((ite_self _).trans h4)
      clear_value s5
      split
      · exact .inl h5
      · rw [← h5]
        exact (s5.add (Reg.pnlStat 1) 1).lineRepeats_ras spans.sum

/-! ### A line start (R77, R86) -/

/-- What a line start does before the line is sent. -/
def State.lineReads (s : State) : State :=
  let s : State := { s with bkl := { s.bkl with slotRows := [] } }
  let s := s.crvDisabledSweep
  let s := if s.ras.line = s.ras.timing.latch then s.latchReqsTake else s.lineEvents false
  let s := if s.ras.line = s.ras.timing.vactive then s.retireBack else s
  (((s.releases).deadlines).openWindows 64).windowRelease

theorem State.lineActions_eq (s : State) : s.lineActions = s.lineReads.linkLine.outputStage := rfl

/-- The requests of pages that commit by themselves, as the line that starts notes them (R86). -/
def State.lineReqs (s : State) : List Nat := if s.ras.line = s.ras.timing.latch then s.ownPending else s.ras.latchReqs

theorem State.lineReads_ras (s : State) : s.lineReads.ras = { s.ras with latchReqs := s.lineReqs } := by
  have hsweep : (State.crvDisabledSweep { s with bkl := { s.bkl with slotRows := [] } }).ras = s.ras :=
    State.crvDisabledSweep_kept.ras.resolve_left (by decide)
  have hpending : (State.crvDisabledSweep { s with bkl := { s.bkl with slotRows := [] } }).ownPending = s.ownPending :=
    State.crvDisabledSweep_words.ownPending
  unfold State.lineReads State.lineReqs
  dsimp only
  rw [State.windowRelease_kept.ras.resolve_left (by decide), State.openWindows_kept.ras.resolve_left (by decide),
    State.deadlines_kept.ras.resolve_left (by decide), State.releases_kept.ras.resolve_left (by decide), apply_ite State.ras,
    State.retireBack_kept.ras.resolve_left (by decide), ite_self, hsweep]
  split
  · rw [State.latchReqsTake, hpending, hsweep]
  · rw [State.lineEvents_ras, hsweep]

/-- The actions of a line start note the requests, and at most one repeated line, on line LATCH (R86, R90). -/
theorem State.lineActions_ras (s : State) : ∃ k, k ≤ 1 ∧ (s.ras.line = s.ras.timing.latch ∧ s.ras.latched = false ∨ k = 0) ∧
    s.lineActions.ras = { s.ras with underruns := s.ras.underruns + k, latchReqs := s.lineReqs } := by
  rw [State.lineActions_eq, State.outputStage_kept.ras.resolve_left (by decide)]
  have hline := s.lineReads.linkLine_ras
  rw [s.lineReads_ras] at hline
  rcases hline with heq | ⟨hlatch, heq⟩
  · exact ⟨0, Nat.zero_le 1, .inr rfl, heq⟩
  · exact ⟨1, Nat.le_refl 1, .inl hlatch, heq⟩

/-- The state in which the actions of the next line start. -/
def State.onNextLine (s : State) (t : Nat) : State :=
  { s.at t with ras := { s.ras with line := s.ras.line + 1, lineStart := max s.now t } }

theorem exec_lineStart {s : State} {t : Nat} (hon : s.rasterOn = true) (hline : s.ras.line + 1 < s.ras.timing.vtotal) :
    exec (.lineStart t) s = .next (settle (s.onNextLine t).lineActions) :=
  congrArg finish (if_pos (by rw [hon, decide_eq_true hline]; rfl))

end Sys2Proof.Machine

/-! SUPPORT. Where the raster stands, and what a frame's end makes of it (R82, R84, R85, R88). -/

namespace Sys2Proof.Machine

/-! ### Where the raster stands -/

/-- Where the raster stands, and the timing it runs with. -/
structure RasPlace where
  frame : Nat
  line : Nat
  lineStart : Nat
  frameStart : Nat
  latched : Bool
  timing : Timing
  nextTiming : Option Timing

/-- The part of the raster that says where it stands. -/
def Ras.place (r : Ras) : RasPlace :=
  { frame := r.frame, line := r.line, lineStart := r.lineStart, frameStart := r.frameStart, latched := r.latched, timing := r.timing,
    nextTiming := r.nextTiming }

theorem State.relabelled_place (s : State) (a b : Nat) : (s.relabelled a b).ras.place = s.ras.place := by
  obtain ⟨g, hras⟩ := s.relabelled_ras a b
  rw [hras]
  rfl

/-- Stated for any value: the slew that the model gives is costly to evaluate. -/
theorem Ras.place_slew (r : Ras) (v : Int) : Ras.place { r with slew := v } = r.place := rfl

theorem place_ite {p : RasPlace} {c : Prop} [Decidable c] {a b : State} (ha : a.ras.place = p) (hb : b.ras.place = p) :
    (if c then a else b).ras.place = p := by
  split <;> assumption

theorem State.setLock_place (s : State) (l : Nat) : (s.setLock l).ras.place = s.ras.place := by
  unfold State.setLock
  split <;> rfl

theorem State.fadeSkip_place (s : State) (lit : Bool) : (s.fadeSkip lit).ras.place = s.ras.place := by
  unfold State.fadeSkip
  split
  · have hrecord : (if lit then s else s.hostRecord).ras = s.ras := by
      rw [apply_ite State.ras, State.hostRecord_kept.ras.resolve_left (by decide), ite_self]
    dsimp only
    rw [hrecord]
    rfl
  · rfl

theorem State.stepLine0_place (s : State) : s.stepLine0.ras.place = s.ras.place := by
  unfold State.stepLine0
  split
  · rfl
  · split <;> rfl

theorem State.lineActions_place (s : State) : s.lineActions.ras.place = s.ras.place := by
  obtain ⟨k, -, -, hras⟩ := s.lineActions_ras
  rw [hras]
  rfl

/-- The timing values that a commit left pending are in force, and none is pending (R88, R91). -/
theorem State.applyNextTiming_ras (s : State) :
    s.applyNextTiming.ras = { s.ras with timing := s.ras.nextTiming.getD s.ras.timing, nextTiming := none } := by
  unfold State.applyNextTiming
  split
  · rename_i timing hnext
    rw [hnext]
    dsimp only
    split
    · rfl
    · exact State.crvSweep_kept.ras.resolve_left (by decide)
  · rename_i hnext
    rw [hnext, Option.getD_none, ← hnext]

/-! ### Frame ends (R82, R84, R88) -/

/-- What the lock makes of the measured phase error at a line-0 start (R84): `err` is what is left of it after a relabel,
and `lost` says that it is too large for LOCKED. -/
def State.lockStep (s : State) (lit : Bool) (before : Nat) (lost : Bool) (err : Int) : State :=
  if s.ras.lock = 2 then (if lost then s.setLock 1 else s)
  else if s.ras.lock = 1 then
    if 16 ≤ s.ras.good then s.setLock 2
    else if s.ras.step = 0 && s.ras.transDue = none && s.flag Reg.rasLockCtrl 8 &&
        decide ((s.fld Reg.rasLockCtrl 7 0 * s.ras.timing.lineTime : Nat) < err) then
      { s with ras := { s.ras with transDue := some before, skipFade := !lit } }
    else { s with ras := { s.ras with slew := s.slewFor } }
  else s

theorem State.lockStep_place (s : State) (lit : Bool) (before : Nat) (lost : Bool) (err : Int) :
    (s.lockStep lit before lost err).ras.place = s.ras.place :=
  place_ite (place_ite (s.setLock_place 1) rfl) (place_ite (place_ite (s.setLock_place 2) (place_ite rfl (s.ras.place_slew s.slewFor))) rfl)

/-- The first line-0 start in ACQUIRE. -/
def State.lockFirst (s : State) : Bool := s.ras.lock = 1 && !s.ras.acquired

/-- A raster that is half a period off, or that has just left FREE, takes the nearest frame's number (R84, R85). -/
def State.lockRelabel (s : State) : State :=
  if s.lockFirst || (s.ras.lock ≠ 0 && decide ((s.ras.timing.period : Int) < 2 * absI s.phaseErr)) then
    s.relabel (s.nearestFrame (s.deviceAt s.now))
  else s

/-- The raster has been in ACQUIRE since FREE from its first line-0 start there on. -/
def State.lockAcquire (s : State) (first : Bool) : State := if first then { s with ras := { s.ras with acquired := true } } else s

/-- The measured phase error is shown and counts for the lock (R84). -/
def State.lockCount (s : State) (measured : Int) : State :=
  let s := s.reportPhase
  { s with ras := { s.ras with good := if decide (measured < 50 * (ns : Int)) then s.ras.good + 1 else 0, slew := 0 } }

theorem State.line0Lock_eq (s : State) (lit : Bool) : s.line0Lock lit =
    ((s.lockRelabel.lockAcquire s.lockFirst).lockCount (absI s.phaseErr)).lockStep lit s.ras.frame
      (decide (75 * (ns : Int) < absI s.phaseErr)) (absI (s.lockRelabel.lockAcquire s.lockFirst).phaseErr) := rfl

theorem State.lockRelabel_place (s : State) : ∃ f, s.lockRelabel.ras.place = { s.ras.place with frame := f } ∧
    (s.ras.lock = 0 → f = s.ras.frame) := by
  unfold State.lockRelabel
  split
  · rename_i hcond
    refine ⟨s.nearestFrame (s.deviceAt s.now) % 2 ^ 64, by rw [State.relabel_ras]; rfl, fun hlock => ?_⟩
    simp [State.lockFirst, hlock] at hcond
  · exact ⟨s.ras.frame, rfl, fun _ => rfl⟩

theorem State.lockAcquire_place (s : State) (first : Bool) : (s.lockAcquire first).ras.place = s.ras.place := by
  cases first <;> rfl

/-- A line-0 start pulls the raster to device time: the frame is renamed where it must be, and in FREE it is not (R84, R85). -/
theorem State.line0Lock_place (s : State) (lit : Bool) : ∃ f, (s.line0Lock lit).ras.place = { s.ras.place with frame := f } ∧
    (s.ras.lock = 0 → f = s.ras.frame) := by
  obtain ⟨f, hplace, hfree⟩ := s.lockRelabel_place
  refine ⟨f, ?_, hfree⟩
  rw [State.line0Lock_eq, State.lockStep_place, ← hplace]
  exact s.lockRelabel.lockAcquire_place s.lockFirst

/-- Line 0 of the next frame starts. -/
def State.frameTurn (s : State) : State :=
  let f := s.ras.frame
  let s := s.crvFrameEnd
  { s with ras := { s.ras with frame := (f + 1) % 2 ^ 64, line := 0, lineStart := s.now, frameStart := s.now, latched := false },
           crv := { s.crv with firedNow := [] } }

/-- What the blocks do behind the end of frame `f`, before the lock. -/
def State.frameWork (s : State) (f : Nat) : State :=
  let s := (((s.snapUnsent.raise 0x10000 2).frameReports f).applyNextTiming).showStripes
  (((s.brcFrame).rollFills).lensMapUpdate).pnlFrame.layerTraffic

/-- What the lock and a mode transition do at a line-0 start. -/
def State.frameLock (s : State) : State :=
  let a := s.ras.frame
  let s := s.line0Lock s.bklLit
  ((s.relabelled a s.ras.frame).fadeSkip s.bklLit).stepLine0

/-- The state behind a frame's end. -/
def State.onNextFrame (s : State) (t : Nat) : State := (((s.at t).frameTurn).frameWork s.ras.frame).frameLock.lineActions

theorem exec_rasFrameDone {s : State} {t : Nat} (hon : s.rasterOn = true) (hline : s.ras.line + 1 = s.ras.timing.vtotal) :
    exec (.rasFrameDone t) s = .next (settle (s.onNextFrame t)) :=
  congrArg finish (if_pos (by rw [hon, beq_iff_eq.2 hline]; rfl))

theorem State.frameWork_ras (s : State) (f : Nat) :
    (s.frameWork f).ras = { s.ras with timing := s.ras.nextTiming.getD s.ras.timing, nextTiming := none } := by
  have hreports : ((s.snapUnsent.raise 0x10000 2).frameReports f).ras = s.ras := by
    rw [State.frameReports_kept.ras.resolve_left (by decide), State.raise_ras, State.snapUnsent_kept.ras.resolve_left (by decide)]
  unfold State.frameWork
  dsimp only
  rw [State.layerTraffic_kept.ras.resolve_left (by decide), State.pnlFrame_kept.ras.resolve_left (by decide),
    State.lensMapUpdate_kept.ras.resolve_left (by decide), State.rollFills_kept.ras.resolve_left (by decide),
    State.brcFrame_kept.ras.resolve_left (by decide), State.showStripes_kept.ras.resolve_left (by decide), State.applyNextTiming_ras, hreports]

theorem State.frameLock_place (s : State) : ∃ f, s.frameLock.ras.place = { s.ras.place with frame := f } ∧
    (s.ras.lock = 0 → f = s.ras.frame) := by
  unfold State.frameLock
  dsimp only
  rw [State.stepLine0_place, State.fadeSkip_place, State.relabelled_place]
  exact s.line0Lock_place s.bklLit

theorem State.frameWork_kept {s : State} {f : Nat} : Kept 42953875291 s (s.frameWork f) :=
  .step State.layerTraffic_kept rfl (.step State.pnlFrame_kept rfl (.step State.lensMapUpdate_kept rfl (.step State.rollFills_kept rfl
    (.step State.brcFrame_kept rfl (.step State.showStripes_kept rfl (.step State.applyNextTiming_kept rfl
      (.step State.frameReports_kept rfl (.step State.raise_kept rfl (.step State.snapUnsent_kept rfl (.refl _ _))))))))))

theorem State.frameLock_kept {s : State} : Kept 7875 s s.frameLock :=
  .step State.stepLine0_kept rfl (.step State.fadeSkip_kept rfl (.step State.relabelled_kept rfl (.step State.line0Lock_kept rfl (.refl _ _))))

theorem State.onNextFrame_now (s : State) (t : Nat) : (s.onNextFrame t).now = max s.now t := by
  rw [State.onNextFrame, State.lineActions_kept.now.resolve_left (by decide), State.frameLock_kept.now.resolve_left (by decide),
    State.frameWork_kept.now.resolve_left (by decide)]
  rfl

/-- Where the raster stands behind a frame's end. -/
theorem State.onNextFrame_place (s : State) (t : Nat) : ∃ f, (s.onNextFrame t).ras.place =
    { frame := f, line := 0, lineStart := max s.now t, frameStart := max s.now t, latched := false,
      timing := s.ras.nextTiming.getD s.ras.timing, nextTiming := none } ∧ (s.ras.lock = 0 → f = (s.ras.frame + 1) % 2 ^ 64) := by
  obtain ⟨f, hplace, hfree⟩ := ((s.at t).frameTurn.frameWork s.ras.frame).frameLock_place
  rw [State.frameWork_ras] at hplace hfree
  exact ⟨f, (State.lineActions_place _).trans hplace, hfree⟩

end Sys2Proof.Machine

/-! SUPPORT. What the latch edge and a read of the position make of the raster (R63, R79, R86, R89), and O17. -/

namespace Sys2Proof.Machine

/-! ### The latch (R63, R86, R89) -/

theorem State.takeTiming_place (s : State) (old new : Timing) : ∃ n, (s.takeTiming old new).ras.place = { s.ras.place with nextTiming := n } := by
  unfold State.takeTiming
  split
  · split
    · exact ⟨s.ras.nextTiming, rfl⟩
    · exact ⟨_, rfl⟩
  · split
    · exact ⟨_, rfl⟩
    · exact ⟨_, rfl⟩

/-- A group commit that takes effect leaves a timing pending (R88, R91), and the raster stands where it stood. -/
theorem State.gcommitTake_place (s : State) (new : Timing) (late : List Nat) :
    ∃ n, (s.gcommitTake new late).ras.place = { s.ras.place with nextTiming := n } := by
  unfold State.gcommitTake
  extract_lets old committed taken ended
  have hcommitted : committed.ras = s.ras :=
    (Kept.foldl (Kept.refl 17179869184 s) (fun _ _ h => .step State.setFld_kept rfl (.step State.commitPage_kept rfl h))).ras.resolve_left (by decide)
  obtain ⟨n, hplace⟩ := committed.takeTiming_place old new
  rw [hcommitted] at hplace
  refine ⟨n, Eq.trans (congrArg Ras.place ?_) hplace⟩
  rw [State.raise_ras, State.add_ras, State.setFlag_ras, State.gcommitEnd_kept.ras.resolve_left (by decide),
    State.lyrCommitted_kept.ras.resolve_left (by decide)]

theorem State.groupCommit_place (s : State) : ∃ n, s.groupCommit.2.ras.place = { s.ras.place with nextTiming := n } := by
  have hsame : ∀ t : State, Kept 1024 s t → ∃ n, t.ras.place = { s.ras.place with nextTiming := n } := fun t ht =>
    ⟨s.ras.nextTiming, congrArg Ras.place (ht.ras.resolve_left (by decide))⟩
  unfold State.groupCommit
  extract_lets +onlyGivenNames -merge late s1
  have h1 : Kept 1024 s s1 := .step State.setFld_kept rfl (.refl _ _)
  split
  · exact hsame _ h1
  · split
    · exact hsame _ (.step State.gcommitLater_kept rfl (.step State.groupWait_kept rfl h1))
    · split
      · exact hsame _ (.step State.raise_kept rfl (.step State.add_kept rfl (.step State.setFld_kept rfl
          (.step State.gcommitLater_kept rfl (.step State.groupWait_kept rfl h1)))))
      · extract_lets new
        split
        · exact hsame _ (.step State.raise_kept rfl (.step State.rejectCommit_kept rfl (.step State.gcommitEnd_kept rfl h1)))
        · obtain ⟨n, hplace⟩ := s1.gcommitTake_place new late
          exact ⟨n, hplace⟩

/-- The latch edge takes the group commit and the requests of the pages that commit by themselves (R63, R86). -/
def State.latchCommit (s : State) : State :=
  let g := s.groupCommit
  { g.2 with ras := { g.2.ras with latched := true, commitDue := g.2.dueAtLatch, latchReqs := [] } }

/-- Plan, scene, windows and lens targets at the latch, for frame `n`. -/
def State.latchPlan (s : State) (n : Nat) : State :=
  let s := ((s.planLatch).scnLatch n).stagingLatch n
  (s.windowLatch s.ownedCols).lensLatch n

/-- The settings of synthesis at the latch, for frame `n`: those in force stand behind the new ones. -/
def State.latchSynth (s : State) (n : Nat) : State :=
  let p := s.synSetFor n s.nextT (s.planesResident s.ownedCols) s.lensCols s.lensRows (s.lensClasses n)
  { s with syn := { s.syn with back := s.syn.front, front := some p } }

/-- The settings of layers, backlight and clusters at the latch, for frame `n`; the layers of `late` are hidden. -/
def State.latchSettings (s : State) (n : Nat) (late : List Nat) : State :=
  (((s.lyrLatch n late).bklLatch n).trimLatch.thmLatch).openWindows 64

/-- The state behind the latch edge. -/
def State.onLatch (s : State) (t : Nat) : State :=
  (((((s.at t).latchCommit).latchPlan (s.ras.frame + 1)).latchSynth (s.ras.frame + 1)).latchSettings (s.ras.frame + 1)
    (s.at t).groupCommit.1).lineEvents true

theorem exec_latch {s : State} {t : Nat} (hon : s.rasterOn = true) (hline : s.ras.line = s.ras.timing.latch) (hopen : s.ras.latched = false) :
    exec (.latch t) s = .next (settle (s.onLatch t)) :=
  congrArg finish (if_pos (by rw [hon, beq_iff_eq.2 hline, hopen]; rfl))

theorem State.latchPlan_kept {s : State} {n : Nat} : Kept 2328 s (s.latchPlan n) :=
  .step State.lensLatch_kept rfl (.step State.windowLatch_kept rfl (.step State.stagingLatch_kept rfl
    (.step State.scnLatch_kept rfl (.step State.planLatch_kept rfl (.refl _ _)))))

theorem State.latchSettings_kept {s : State} {n : Nat} {late : List Nat} : Kept 5760 s (s.latchSettings n late) :=
  .step State.openWindows_kept rfl (.step State.thmLatch_kept rfl (.step State.trimLatch_kept rfl
    (.step State.bklLatch_kept rfl (.step State.lyrLatch_kept rfl (.refl _ _)))))

theorem State.onLatch_now (s : State) (t : Nat) : (s.onLatch t).now = max s.now t := by
  have hcommit : (s.at t).latchCommit.now = (s.at t).now := State.groupCommit_kept.now.resolve_left (by decide)
  rw [State.onLatch, State.lineEvents_kept.now.resolve_left (by decide), State.latchSettings_kept.now.resolve_left (by decide)]
  exact (State.latchPlan_kept.now.resolve_left (by decide)).trans hcommit

/-- Where the raster stands behind the latch edge: where it stood, latched. -/
theorem State.onLatch_place (s : State) (t : Nat) : ∃ n, (s.onLatch t).ras.place = { s.ras.place with latched := true, nextTiming := n } := by
  obtain ⟨n, hplace⟩ := (s.at t).groupCommit_place
  have hcommit : (s.at t).latchCommit.ras.place = { (s.at t).groupCommit.2.ras.place with latched := true } := rfl
  have hplan : ((s.at t).latchCommit.latchPlan (s.ras.frame + 1)).ras = (s.at t).latchCommit.ras := State.latchPlan_kept.ras.resolve_left (by decide)
  refine ⟨n, ?_⟩
  rw [hplace, ← hplan] at hcommit
  rw [State.onLatch, State.lineEvents_latch_ras, State.latchSettings_kept.ras.resolve_left (by decide)]
  exact hcommit

/-- The settings of synthesis move on at the latch (R86). -/
theorem State.onLatch_syn (s : State) (t : Nat) : (s.onLatch t).syn.back = s.syn.front ∧ (s.onLatch t).syn.front ≠ none := by
  have hcommit : (s.at t).latchCommit.syn = s.syn := State.groupCommit_kept.syn.resolve_left (by decide)
  have hplan : ((s.at t).latchCommit.latchPlan (s.ras.frame + 1)).syn = s.syn := (State.latchPlan_kept.syn.resolve_left (by decide)).trans hcommit
  rw [State.onLatch, State.lineEvents_kept.syn.resolve_left (by decide), State.latchSettings_kept.syn.resolve_left (by decide)]
  exact ⟨congrArg Syn.front hplan, Option.some_ne_none _⟩

/-! ### Reads of the position (R79) -/

/-- The state behind a read of RAS_FRAME_LO. -/
def State.onFrameRead (s : State) (t : Nat) : State :=
  ((s.at t).wr Reg.rasFrameHi (s.ras.frame / 2 ^ 32)).wr Reg.rasPos (s.ras.line % 65536 + s.columnAt (max s.now t) % 65536 * 65536)

theorem exec_rasFrameRead {s : State} {t : Nat} (hon : s.rasterOn = true) : exec (.rasFrameRead t) s = .next (settle (s.onFrameRead t)) :=
  congrArg finish (if_pos (Bool.and_eq_true_iff.1 hon).1)

theorem State.onFrameRead_kept {s : State} {t : Nat} : Kept (maskOf [.now]) s (settle (s.onFrameRead t)) :=
  .step settle_kept rfl (.step State.wr_kept rfl (.step State.wr_kept rfl (.step State.at_kept rfl (.refl _ _))))

theorem State.onFrameRead_wordsBut (s : State) (t : Nat) : s.wordsBut (settle (s.onFrameRead t)) [Reg.rasFrameHi, Reg.rasPos] :=
  have hat : s.wordsBut (s.at t) [Reg.rasFrameHi, Reg.rasPos] := fun _ _ => rfl
  State.wordsBut_settle (State.wordsBut_wr (State.wordsBut_wr hat (by decide)) (by decide))

theorem State.onFrameRead_rd (s : State) (t : Nat) : (s.onFrameRead t).rd Reg.rasFrameHi = s.ras.frame / 2 ^ 32 % 2 ^ 32 ∧
    (s.onFrameRead t).rd Reg.rasPos = s.ras.line % 65536 + s.columnAt (max s.now t) % 65536 * 65536 := by
  have hpos : s.ras.line % 65536 + s.columnAt (max s.now t) % 65536 * 65536 < 2 ^ 32 := by omega
  exact ⟨(State.rd_wr_ne _ _ (by decide)).trans (State.rd_wr_same _ _ _), (State.rd_wr_same _ _ _).trans (Nat.mod_eq_of_lt hpos)⟩

/-! ### O17 -/

/-- Settles O17, from what a line start, a frame's end and the latch edge each make of where the raster stands. -/
theorem rasterAdvances : Obligations.RasterAdvances := by
  unfold Obligations.RasterAdvances
  intro s t hon
  refine ⟨fun hline => ?_, fun hline => ?_, fun hline hopen => ?_, ?_⟩
  · obtain ⟨k, hk, hnoted, hras⟩ := (s.onNextLine t).lineActions_ras
    refine ⟨_, k, exec_lineStart hon hline, ?_, hk, hnoted, (settle_ras _).trans hras⟩
    rw [settle_now, State.lineActions_kept.now.resolve_left (by decide)]
    rfl
  · obtain ⟨f, hplace, hfree⟩ := s.onNextFrame_place t
    obtain ⟨hf, hzero, hstart, hframe, hlatched, htiming, hnext⟩ := RasPlace.mk.inj hplace
    refine ⟨_, exec_rasFrameDone hon hline, (settle_now _).trans (s.onNextFrame_now t), ?_⟩
    rw [settle_ras, hf]
    exact ⟨hzero, hstart, hframe, hlatched, htiming, hnext, hfree⟩
  · obtain ⟨n, hplace⟩ := s.onLatch_place t
    obtain ⟨hf, hkeep, -, -, hlatched, htiming, -⟩ := RasPlace.mk.inj hplace
    obtain ⟨hback, hfront⟩ := s.onLatch_syn t
    refine ⟨_, exec_latch hon hline hopen, (settle_now _).trans (s.onLatch_now t), ?_⟩
    rw [settle_ras, settle_syn, settle_flag]
    exact ⟨hlatched, hkeep, hf, htiming, hback, hfront, State.lineEvents_latch_event _⟩
  · obtain ⟨hhi, hpos⟩ := s.onFrameRead_rd t
    refine ⟨_, exec_rasFrameRead hon, fun q hq => State.onFrameRead_kept.parts q (by simpa using hq), settle_now _, s.onFrameRead_wordsBut t, ?_⟩
    rw [settle_rd, settle_rd]
    exact ⟨hhi, hpos⟩

end Sys2Proof.Machine

/-! SUPPORT. The SCN page's own registers: EN, queries and the region (R126, R128-R131), and O21. -/

namespace Sys2Proof.Machine

/-! ### Accepted writes to the SCN page (R126) -/

theorem pageOf_scn {a : Nat} (h : a / 0x1000 = 0x20) : pageOf a = some { groupPage (page 2 0 14 0x7F rowsScn) with capBlock := 1228 } := by
  have hcode : a / 0x10000 = 2 := by omega
  have hindex : a / 0x1000 % 16 = 0 := by omega
  rw [pageOf, if_pos (by omega), hcode, hindex]
  rfl

/-- An accepted write of a plain word of the SCN page stores the word and starts what `scnEffect` says. -/
theorem State.writeWord_scn {s : State} {who : Requester} {a data i : Nat} {r : RegRow} (ha : a / 0x1000 = 0x20) (hoff : 0x40 ≤ a % 0x1000)
    (hacc : s.accepts who a data) (hrow : rowFor rowsScn (a % 0x1000) = some (r, i)) (hplain : ∀ f ∈ r.fields, f.kind ≠ .rws) :
    r.laid = true ∧ s.writeWord who a 4 data =
      (s.wr a (r.stored (stickyMask a) (s.rd a) data)).scnEffect (a % 0x1000) (s.rd a) data := by
  obtain ⟨p, hp, hcode⟩ := hacc
  have hmod : a % 0x400000 = a := Nat.mod_eq_of_lt (by omega)
  have hpage := State.reached_pageOf hp
  rw [hmod, pageOf_scn ha] at hpage
  obtain rfl := Option.some.inj hpage
  refine ⟨State.reached_row_laid hp hrow, ?_⟩
  rw [State.writeWord_row hp hcode (by rwa [hmod]) (by rw [hmod]; exact hrow) hplain, hmod]
  exact State.certCheck_same _ _ (State.scnEffect_kept.secu.resolve_left (by decide))

/-- The row of SCN_CTRL. -/
def scnCtrlRow : RegRow := row1 "SCN_CTRL" 0x40 0 [fAny 0 0 .rw, fAny 1 1 .rw]

/-- The row of SCN_QUERY. -/
def scnQueryRow : RegRow := row1 "SCN_QUERY" 0x80 0 [fAny 7 0 .rw, fAny 15 8 .rw, fAny 20 16 .rw, fAny 25 24 .rw, fAny 31 31 .w1s]

theorem rowFor_scnCtrl : rowFor rowsScn (Reg.scnCtrl % 0x1000) = some (scnCtrlRow, 0) := rfl

theorem rowFor_scnQuery : rowFor rowsScn (Reg.scnQuery % 0x1000) = some (scnQueryRow, 0) := rfl

/-- SCN_CTRL after a write of `data`. -/
def State.scnCtrlStored (s : State) (data : Nat) : State := s.wr Reg.scnCtrl (scnCtrlRow.stored (stickyMask Reg.scnCtrl) (s.rd Reg.scnCtrl) data)

/-- SCN_QUERY after a write of `data`. -/
def State.scnQueryStored (s : State) (data : Nat) : State :=
  s.wr Reg.scnQuery (scnQueryRow.stored (stickyMask Reg.scnQuery) (s.rd Reg.scnQuery) data)

theorem State.writeWord_scnCtrl {s : State} {who : Requester} {data : Nat} (hacc : s.accepts who Reg.scnCtrl data) :
    (s.scnCtrlStored data).flag Reg.scnCtrl 0 = bitOf data 0 ∧
      s.writeWord who Reg.scnCtrl 4 data = (s.scnCtrlStored data).scnEffect 0x40 (s.rd Reg.scnCtrl) data := by
  obtain ⟨hlaid, hwrite⟩ := State.writeWord_scn (by decide) (by decide) hacc rowFor_scnCtrl (by decide)
  refine ⟨?_, hwrite⟩
  rw [State.flag, bitOf_testBit, bitOf_testBit]
  exact State.rd_wr_stored_testBit hlaid (List.mem_cons_self ..) (Nat.le_refl 0) (Nat.le_refl 0)

/-- GO of SCN_QUERY reads 1 until the result is in place (R126). -/
theorem State.writeWord_scnQuery {s : State} {who : Requester} {data : Nat} (hacc : s.accepts who Reg.scnQuery data) (hgo : bitOf data 31 = true) :
    (s.scnQueryStored data).flag Reg.scnQuery 31 = true ∧
      s.writeWord who Reg.scnQuery 4 data = (s.scnQueryStored data).scnEffect 0x80 (s.rd Reg.scnQuery) data := by
  obtain ⟨hlaid, hwrite⟩ := State.writeWord_scn (by decide) (by decide) hacc rowFor_scnQuery (by decide)
  refine ⟨?_, hwrite⟩
  have hsticky : (stickyMask Reg.scnQuery).testBit 31 = true := by decide
  rw [bitOf_testBit] at hgo
  rw [State.flag, bitOf_testBit]
  refine (State.rd_wr_stored_testBit (f := fAny 31 31 .w1s) hlaid (by decide) (Nat.le_refl 31) (Nat.le_refl 31)).trans ?_
  rw [hgo, hsticky]
  exact Bool.or_true _

/-! ### EN of SCN_CTRL (R130, R131) -/

theorem WordsKept.unitState {K : Nat → Prop} {s t : State} (h : WordsKept K s t) (h0 : K Reg.pwrDomStat0) (h1 : K Reg.pwrDomStat1) {u : Nat}
    (hu : K (Reg.svcUnit u)) : t.unitState u = s.unitState u := by
  rw [State.unitState, State.unitState, h.domOn h0 h1, h.fld hu]

/-- Where a region goes depends on the capacity fitted, the units' states and the size asked for. -/
theorem State.placeRegion_congr {s t : State} (hdimms : t.dimms = s.dimms) (hunit : ∀ n, t.unitState n = s.unitState n)
    (hsize : t.fld Reg.scnStoreSize 10 0 = s.fld Reg.scnStoreSize 10 0) : t.placeRegion = s.placeRegion := by
  have hcap : t.chanCap = s.chanCap := funext fun c => by rw [State.chanCap, State.chanCap, hdimms]
  simp only [State.placeRegion, hcap, hunit, hsize]

theorem State.placeRegion_scnCtrlStored (s : State) (data : Nat) : (s.scnCtrlStored data).placeRegion = s.placeRegion := by
  have hwords : WordsKept (fun x => x ≠ Reg.scnCtrl) s (s.scnCtrlStored data) := (WordsKept.refl _ s).wr (fun h => h rfl)
  refine State.placeRegion_congr rfl (fun n => hwords.unitState (by decide) (by decide) ?_) (hwords.fld (by decide) 10 0)
  unfold Reg.svcUnit Reg.scnCtrl
  omega

theorem exec_scnEnable {s : State} {who : Requester} {data : Word} (hacc : s.accepts who Reg.scnCtrl (putBits data.toNat 0 0 1))
    (hoff : s.flag Reg.scnCtrl 0 = false) :
    exec (.scnEnable who data) s = .next (settle (State.cacheGive { s.scnCtrlStored (putBits data.toNat 0 0 1) with
      scn := { s.scn with region := some s.placeRegion } })) := by
  refine congrArg finish ((State.writeWord_scnCtrl hacc).2.trans ?_)
  rw [← State.placeRegion_scnCtrlStored s (putBits data.toNat 0 0 1), State.scnEffect, if_pos rfl, if_pos]
  · rfl
  · rw [bitOf_putBits_one, show bitOf (s.rd Reg.scnCtrl) 0 = false from hoff]
    rfl

theorem exec_scnDisable {s : State} {who : Requester} {data : Word} (hacc : s.accepts who Reg.scnCtrl (putBits data.toNat 0 0 0))
    (hon : s.flag Reg.scnCtrl 0 = true) :
    exec (.scnDisable who data) s = .next (settle { s.scnCtrlStored (putBits data.toNat 0 0 0) with scn := { s.scn with discard := true } }) := by
  refine congrArg finish ((State.writeWord_scnCtrl hacc).2.trans ?_)
  rw [State.scnEffect, if_pos rfl, bitOf_putBits_zero, show bitOf (s.rd Reg.scnCtrl) 0 = true from hon]
  rfl

theorem exec_scnStoreRelease {s : State} {t : Nat} (hrelease : s.scn.release = true) (hblank : s.ras.timing.vactive ≤ s.ras.line) :
    exec (.scnStoreRelease t) s = .next (settle { s.at t with scn := { s.scn with release := false, region := none, lowRaised := false } }) := by
  have hdue : (s.scn.release && decide (s.ras.timing.vactive ≤ s.ras.line)) = true := by rw [hrelease, decide_eq_true hblank]; rfl
  exact congrArg finish ((if_pos hdue).trans (if_pos hdue))

/-! ### Queries (R128, R129) -/

/-- A query is on its way with the result that it will have. -/
def State.withQuery (s : State) (q : ScnQuery) : State := { s with scn := { s.scn with query := some q } }

theorem State.withQuery_rd (s : State) (q : ScnQuery) (a : Nat) : (s.withQuery q).rd a = s.rd a := rfl
theorem State.withQuery_flag (s : State) (q : ScnQuery) (a i : Nat) : (s.withQuery q).flag a i = s.flag a i := rfl
theorem State.withQuery_scn (s : State) (q : ScnQuery) : (s.withQuery q).scn = { s.scn with query := some q } := rfl

theorem State.scnQueryStored_scn (s : State) (data : Nat) : (s.scnQueryStored data).scn = s.scn := State.wr_scn _ _ _

/-- What a query finds depends on the scene store alone. -/
theorem State.queryOf_congr {s t : State} (h : t.scn = s.scn) (q : Nat) : t.queryOf q = s.queryOf q := by
  rw [State.queryOf, State.queryOf, h]

theorem exec_scnQueryGo {s : State} {who : Requester} {data : Word} (hacc : s.accepts who Reg.scnQuery (putBits data.toNat 31 31 1)) :
    exec (.scnQueryGo who data) s =
      .next (settle ((s.scnQueryStored (putBits data.toNat 31 31 1)).withQuery (s.queryOf (putBits data.toNat 31 31 1)))) := by
  refine congrArg finish ((State.writeWord_scnQuery hacc (bitOf_putBits_one _ _)).2.trans ?_)
  rw [State.scnEffect, if_neg (by decide), if_pos rfl, if_pos (bitOf_putBits_one _ _), State.queryOf_congr (s.scnQueryStored_scn _)]
  rfl

/-- Words written one after the other at different addresses each read as written. -/
theorem State.rd_foldl_wr {f v : Nat → Nat} (hf : ∀ i j, f i = f j → i = j) (s : State) {n i : Nat} (hi : i < n) :
    ((List.range n).foldl (fun t j => t.wr (f j) (v j)) s).rd (f i) = v i % 2 ^ 32 := by
  induction n with
  | zero => exact absurd hi (Nat.not_lt_zero i)
  | succ n ih =>
    rw [List.range_succ, List.foldl_append, List.foldl_cons, List.foldl_nil]
    by_cases h : i = n
    · rw [h, State.rd_wr_same]
    · rw [State.rd_wr_ne _ _ (fun e => h (hf _ _ e)), ih (by omega)]

/-- The entry words of a query's result are in place. -/
def State.queryWords (s : State) (q : ScnQuery) : State := (List.range 4).foldl (fun t i => t.wr (Reg.scnQueryE i) (q.words.getD i 0)) s

/-- SCN_QUERY_STAT after a query: FOUND or NONE. -/
def ScnQuery.stat (q : ScnQuery) : Nat := if q.none then 2 else 1

/-- The state at a query's end. -/
def State.queryShown (s : State) (q : ScnQuery) : State :=
  ({ (s.queryWords q).wr Reg.scnQueryStat q.stat with scn := { s.scn with query := none } }.setFlag Reg.scnQuery 31 false).raise 0x20000 6

theorem State.queryWords_scn (s : State) (q : ScnQuery) : (s.queryWords q).scn = s.scn :=
  (Kept.foldl (F := 0) (Kept.refl 0 s) (fun _ _ h => Kept.step State.wr_kept rfl h)).scn.resolve_left (by decide)

theorem exec_scnQueryDone {s : State} {q : ScnQuery} (hq : s.scn.query = some q) : exec .scnQueryDone s = .next (settle (s.queryShown q)) := by
  refine congrArg finish ?_
  have hscn : ((s.queryWords q).wr Reg.scnQueryStat q.stat).scn = s.scn := s.queryWords_scn q
  rw [State.queryShown, ← hscn, State.queryDone, hq]
  rfl

theorem State.queryShown_entry (s : State) (q : ScnQuery) {i : Nat} (hi : i < 4) :
    (s.queryShown q).rd (Reg.scnQueryE i) = q.words.getD i 0 % 2 ^ 32 := by
  have hword : Reg.scnQueryE i ≠ 0x20000 + 0x10 ∧ Reg.scnQueryE i ≠ Reg.scnQuery ∧ Reg.scnQueryE i ≠ Reg.scnQueryStat := by
    unfold Reg.scnQueryE Reg.scnQuery Reg.scnQueryStat
    omega
  obtain ⟨hevent, hgo, hstat⟩ := hword
  rw [State.queryShown, State.rd_raise_ne _ _ hevent, State.rd_setFlag_ne _ _ _ hgo]
  exact (State.rd_wr_ne _ _ hstat).trans (State.rd_foldl_wr (fun i j h => by unfold Reg.scnQueryE at h; omega) s hi)

theorem State.queryShown_stat (s : State) (q : ScnQuery) : (s.queryShown q).rd Reg.scnQueryStat = q.stat := by
  rw [State.queryShown, State.rd_raise_ne _ _ (by decide), State.rd_setFlag_ne _ _ _ (by decide)]
  refine (State.rd_wr_same _ _ _).trans ?_
  unfold ScnQuery.stat
  split <;> rfl

theorem State.queryShown_go (s : State) (q : ScnQuery) : (s.queryShown q).flag Reg.scnQuery 31 = false := by
  rw [State.queryShown, State.flag, State.rd_raise_ne _ _ (by decide)]
  exact State.flag_setFlag_same _ _ _ _ (by decide)

/-- The words that a query's end changes (R126, R129). -/
abbrev queryWordList : List Nat :=
  [Reg.scnQuery, Reg.scnQueryStat, Reg.scnQueryE 0, Reg.scnQueryE 1, Reg.scnQueryE 2, Reg.scnQueryE 3, 0x20010]

theorem State.queryShown_words (s : State) (q : ScnQuery) : s.wordsBut (s.queryShown q) queryWordList := by
  have hentry : ∀ i < 4, Reg.scnQueryE i ∈ queryWordList := by decide
  have hwords : s.wordsBut (s.queryWords q) queryWordList :=
    WordsKept.foldl (WordsKept.refl _ s) (fun r i hi h => h.wr (fun k => k (hentry i (List.mem_range.1 hi))))
  have hstat : s.wordsBut { (s.queryWords q).wr Reg.scnQueryStat q.stat with scn := { s.scn with query := none } } queryWordList :=
    WordsKept.regs (State.wordsBut_wr hwords (by decide)) rfl
  exact State.wordsBut_raise (State.wordsBut_setFlag hstat (by decide)) (by decide)

/-- Settles O21: each write stores its word and starts what `scnEffect` says, and a query's end puts its result in place. -/
theorem sceneRegionAndQueries : Obligations.SceneRegionAndQueries := by
  unfold Obligations.SceneRegionAndQueries
  intro s who data t
  have hctrl : ∀ v, s.wordsBut (s.scnCtrlStored v) [Reg.scnCtrl] := fun v =>
    State.wordsBut_wr (State.wordsBut_refl _ _) (List.mem_singleton_self _)
  have hquery : ∀ v, s.wordsBut (s.scnQueryStored v) [Reg.scnQuery] := fun v =>
    State.wordsBut_wr (State.wordsBut_refl _ _) (List.mem_singleton_self _)
  refine ⟨fun hacc hoff => ⟨_, exec_scnEnable hacc hoff, ?_⟩, fun hacc hon => ⟨_, exec_scnDisable hacc hon, ?_⟩,
    fun hrelease hblank => ⟨_, exec_scnStoreRelease hrelease hblank, ?_⟩, fun hacc => ⟨_, exec_scnQueryGo hacc, ?_⟩,
    fun q hq => ⟨_, exec_scnQueryDone hq, ?_⟩⟩
  · rw [settle_flag, settle_scn]
    exact ⟨(State.writeWord_scnCtrl hacc).1.trans (bitOf_putBits_one _ _), rfl, State.wordsBut_settle (hctrl _)⟩
  · rw [settle_flag, settle_scn]
    exact ⟨(State.writeWord_scnCtrl hacc).1.trans (bitOf_putBits_zero _ _), rfl, State.wordsBut_settle (hctrl _)⟩
  · rw [settle_scn, settle_regs]
    exact ⟨rfl, rfl, rfl⟩
  · rw [settle_flag, State.withQuery_flag, settle_scn, State.withQuery_scn, State.scnQueryStored_scn]
    exact ⟨(State.writeWord_scnQuery hacc (bitOf_putBits_one _ _)).1, rfl,
      fun x hx => ((settle_rd _ _).trans (State.withQuery_rd _ _ _)).trans (hquery _ x hx)⟩
  · rw [settle_scn, settle_flag, settle_flag, settle_rd]
    exact ⟨rfl, s.queryShown_go q, State.flag_raise_same _ 0x20000 6 (by decide), s.queryShown_stat q,
      fun i hi => (settle_rd _ _).trans (s.queryShown_entry q hi), State.wordsBut_settle (s.queryShown_words q)⟩

end Sys2Proof.Machine

/-! SUPPORT. Versions and the scene window: a staging version opens, a window fill ends, a session falls back to WAIT_KEY (R112, R117-R120,
R124, R134), and O22. -/

namespace Sys2Proof.Machine

/-! ### Opening a staging version (R112, R115) -/

theorem State.scnLowCheck_scn (s : State) : ∃ b, s.scnLowCheck.scn = { s.scn with lowRaised := b } := by
  unfold State.scnLowCheck
  dsimp only
  split <;> exact ⟨_, rfl⟩

theorem State.scnLowCheck_words (s : State) : s.wordsBut s.scnLowCheck [0x20010] := by
  unfold State.scnLowCheck
  dsimp only
  split
  · exact State.wordsBut_raise (fun _ _ => rfl) (List.mem_singleton_self _)
  · exact fun _ _ => rfl

/-- The staging version that opens over the newest version (R112, R115). -/
def State.openedVersion (s : State) : Version :=
  match s.scn.newest with
  | some n => { n with tag := s.newTarget, tagged := [] }
  | none => { tag := s.newTarget, planes := [], dir := [], blank := [], tagged := [] }

theorem State.openedVersion_of_newest {s : State} {n : Version} (h : s.scn.newest = some n) :
    s.openedVersion = { n with tag := s.newTarget, tagged := [] } := by
  rw [State.openedVersion, h]

theorem State.openedVersion_of_none {s : State} (h : s.scn.newest = none) :
    s.openedVersion = { tag := s.newTarget, planes := [], dir := [], blank := [], tagged := [] } := by
  rw [State.openedVersion, h]

theorem State.openedVersion_tag (s : State) : s.openedVersion.tag = s.newTarget ∧ s.openedVersion.tagged = [] := by
  unfold State.openedVersion
  split <;> exact ⟨rfl, rfl⟩

theorem exec_stagingOpen {s : State} (hregion : s.scn.region.isSome = true) (hdiscard : s.scn.discard = false) (hrelease : s.scn.release = false)
    (hstaging : s.scn.staging = none) (hroom : s.scn.versions.length ≤ 3) :
    exec .stagingOpen s = .next (settle { s with scn := { s.scn with staging := some s.openedVersion } }.scnLowCheck) := by
  have hopen : (s.scn.region.isSome && !s.scn.discard && !s.scn.release && s.scn.staging.isNone && s.scn.roomForVersion) = true := by
    rw [hregion, hdiscard, hrelease, hstaging, Scn.roomForVersion, decide_eq_true hroom]
    rfl
  exact congrArg finish (if_pos hopen)

/-! ### What the store releases and marks (R117, R119, R124) -/

theorem TablePage.mem_units {p : TablePage} {a : Nat} : a ∈ p.units ↔ ∃ x ∈ p.entries, x.2.kind = 1 ∧ x.2.addr = a := by
  rw [TablePage.units, List.mem_filterMap]
  refine exists_congr fun x => and_congr_right fun _ => ?_
  split <;> simp_all

theorem State.mem_scnGc_pages {s : State} {p : TablePage} (h : p ∈ s.scnGc.scn.pages) : p ∈ s.scn.pages := (List.mem_filter.1 h).1

/-- A slot that stays holds a unit of some page (R119). -/
theorem State.mem_scnGc_windows {s : State} {l : List WinSlot} {q : WinSlot} (hl : l ∈ s.scnGc.scn.windows) (hq : q ∈ l) :
    ∃ p ∈ s.scn.pages, q.addr ∈ p.units := by
  obtain ⟨w, -, rfl⟩ := List.mem_map.1 hl
  obtain ⟨p, hp, hheld⟩ := List.mem_flatMap.1 (List.contains_iff_mem.1 (List.mem_filter.1 hq).2)
  exact ⟨p, (List.mem_filter.1 hp).1, hheld⟩

theorem State.scnGc_words (s : State) : s.wordsBut s.scnGc [Reg.scnStat 3] :=
  State.wordsBut_add (fun _ _ => rfl) (List.mem_singleton_self _)

/-- A page after the unit at `addr` was found BAD: entries that hold it are BAD. -/
def TablePage.marked (addr : Nat) (p : TablePage) : TablePage :=
  { p with entries := p.entries.map (fun e => if e.2.kind = 1 ∧ e.2.addr = addr then (e.1, { e.2 with kind := 3, addr := 0, len := 0 }) else e) }

theorem TablePage.marked_entries {p : TablePage} {addr : Nat} : ∀ x ∈ (p.marked addr).entries, ¬(x.2.kind = 1 ∧ x.2.addr = addr) := by
  intro x hx
  obtain ⟨e, -, rfl⟩ := List.mem_map.1 hx
  split
  · exact fun h => absurd h.1 (show ¬ (3 : Nat) = 1 by decide)
  · assumption

/-- Entries marked, counted and reported, before what nothing holds is released. -/
def State.markedBad (s : State) (addr : Nat) : State :=
  ({ s with scn := { s.scn with pages := s.scn.pages.map (TablePage.marked addr) }, ing := { s.ing with repBad := s.ing.repBad + 1 } }.add
    (Reg.scnStat 5) 1).raise 0x20000 5

theorem State.markBad_eq (s : State) (addr : Nat) : s.markBad addr = (s.markedBad addr).scnGc := rfl

theorem State.markedBad_entries {s : State} {addr : Nat} {p : TablePage} (h : p ∈ (s.markedBad addr).scn.pages) :
    ∀ x ∈ p.entries, ¬(x.2.kind = 1 ∧ x.2.addr = addr) := by
  obtain ⟨q, -, rfl⟩ := List.mem_map.1 h
  exact TablePage.marked_entries

/-- No entry holds a unit that was found BAD any more, and no window (R119, R124). -/
theorem State.markBad_gone (s : State) (addr : Nat) : (∀ l ∈ (s.markBad addr).scn.windows, ∀ q ∈ l, q.addr ≠ addr) ∧
    ∀ p ∈ (s.markBad addr).scn.pages, ∀ x ∈ p.entries, ¬(x.2.kind = 1 ∧ x.2.addr = addr) := by
  rw [State.markBad_eq]
  refine ⟨fun l hl q hq haddr => ?_, fun p hp => State.markedBad_entries (State.mem_scnGc_pages hp)⟩
  obtain ⟨p, hp, hunits⟩ := State.mem_scnGc_windows hl hq
  obtain ⟨x, hx, hkind, hunit⟩ := TablePage.mem_units.1 hunits
  exact State.markedBad_entries hp x hx ⟨hkind, hunit.trans haddr⟩

theorem State.markBad_shown (s : State) (addr : Nat) : (s.markBad addr).flag 0x20010 5 = true ∧
    (s.markBad addr).rd (Reg.scnStat 5) = (s.rd (Reg.scnStat 5) + 1) % 2 ^ 32 := by
  have hkept : WordsKept (fun x => x ≠ Reg.scnStat 3) (s.markedBad addr) (s.markBad addr) :=
    WordsKept.wordsBut (State.scnGc_words _) (fun x hx h => h (List.mem_singleton.1 hx))
  refine ⟨(hkept.flag (by decide) 5).trans (State.flag_raise_same _ 0x20000 5 (by decide)), (hkept _ (by decide)).trans ?_⟩
  exact (State.rd_raise_ne _ _ (by decide)).trans (State.rd_add_same _ _ _)

/-! ### Window fills (R119, R120, R124) -/

/-- The unit of `len` bytes `b` decodes to a block (R107). -/
def unitDecodes (len : Nat) (b : List Byte) : Prop := (mbcUnit (some len) none b).code = 0 ∧ (mbcUnit (some len) none b).out.length = 20480

section
variable {s : State} {k : Nat} {keep : Nat → Bool} {e : Entry} {b : List Byte}

theorem State.windowFill_poisoned (h : s.dramRead e.addr e.len = none) : s.windowFill k keep e = s.add (Reg.scnStat 6) 1 := by
  rw [State.windowFill, h]

theorem State.windowFill_bad (h : s.dramRead e.addr e.len = some b) (hbad : ¬ unitDecodes e.len b) : s.windowFill k keep e = s.markBad e.addr := by
  rw [State.windowFill, h]
  exact if_pos (not_and_or.1 hbad)

/-- The slots of slice `k` that stay when one more is filled; `none` where no slot can be had. -/
def State.fillRoom (s : State) (k : Nat) (keep : Nat → Bool) : Option (List WinSlot) :=
  if (s.scn.windows.getD k []).length < 1228 then some (s.scn.windows.getD k []) else dropOldest keep (s.scn.windows.getD k [])

theorem State.windowFill_full (h : s.dramRead e.addr e.len = some b) (hgood : unitDecodes e.len b) (hroom : s.fillRoom k keep = none) :
    s.windowFill k keep e = s := by
  rw [State.windowFill, h]
  refine (if_neg (not_or.2 ⟨not_not.2 hgood.1, not_not.2 hgood.2⟩)).trans ?_
  rw [State.fillRoom] at hroom
  dsimp only
  rw [hroom]

/-- A slot of slice `k` is filled with the block that `b` decodes to. -/
def State.slotFilled (s : State) (k : Nat) (e : Entry) (b : List Byte) (r : List WinSlot) : State :=
  let t := s.setWindow k (r ++ [{ addr := e.addr, data := (mbcUnit (some e.len) none b).out, lastUse := s.scn.useCount }])
  let t := t.setWanted k ((t.scn.wanted.getD k []).filter (fun a => a != e.addr))
  { t with scn := { t.scn with useCount := t.scn.useCount + 1 } }.add (Reg.scnWin (4 * k + 3)) 1

theorem State.slotFilled_ing (s : State) (k : Nat) (e : Entry) (b : List Byte) (r : List WinSlot) : (s.slotFilled k e b r).ing = s.ing := rfl

theorem State.windowFill_filled {r : List WinSlot} (h : s.dramRead e.addr e.len = some b) (hgood : unitDecodes e.len b)
    (hroom : s.fillRoom k keep = some r) : s.windowFill k keep e = s.slotFilled k e b r := by
  rw [State.windowFill, h]
  refine (if_neg (not_or.2 ⟨not_not.2 hgood.1, not_not.2 hgood.2⟩)).trans ?_
  rw [State.fillRoom] at hroom
  dsimp only
  rw [hroom]
  rfl

/-- The count of a channel's fill reads is Barchan's (R246). -/
theorem State.countFill_eq (s : State) (c : Nat) : ∃ x, s.countFill c = { s with plc := x } := by
  unfold State.countFill
  split <;> exact ⟨_, rfl⟩

theorem exec_windowFill {which p bx brow : Nat} (hentry : s.fillEntry k which p bx brow = some e) (hdue : s.fillDue k e.addr = true) :
    ∃ x, exec (.windowFill k which p bx brow) s = .next (settle (State.windowFill { s with plc := x } k (s.keeps k) e)) := by
  obtain ⟨x, hx⟩ := s.countFill_eq (chanOf e.addr)
  refine ⟨x, congrArg finish ?_⟩
  rw [hentry, ← hx]
  exact if_pos hdue

end

/-! ### Sessions fall back to WAIT_KEY (R134) -/

/-- A session that has a state has its place in the list. -/
theorem State.sess_lt {s : State} {k : Nat} (h : s.sess k ≠ Session.reset) : k < s.ing.sessions.length := by
  by_contra hle
  exact h (List.getD_eq_default _ _ (Nat.le_of_not_lt hle))

theorem State.sess_setSess_same {s : State} {k : Nat} (x : Session) (h : k < s.ing.sessions.length) : (s.setSess k x).sess k = x := by
  simp [State.sess, State.setSess, List.getD_eq_getElem?_getD, h]

theorem State.sess_setSess_ne (s : State) {k j : Nat} (x : Session) (h : j ≠ k) : (s.setSess k x).sess j = s.sess j := by
  simp [State.sess, State.setSess, List.getD_eq_getElem?_getD, Ne.symm h]

theorem State.dropWaiting_none {s : State} {k : Nat} (h : s.scn.waiting = none) : s.dropWaiting k = s :=
  if_neg (fun e => by rw [h] at e; cases e)

theorem State.dropWaiting_ing (s : State) (k : Nat) : (s.dropWaiting k).ing = s.ing := State.dropWaiting_kept.ing.resolve_left (by decide)

theorem State.sess_of_ing {s t : State} (h : t.ing = s.ing) (j : Nat) : t.sess j = s.sess j := by rw [State.sess, State.sess, h]

/-- A session that falls back to WAIT_KEY. -/
def Session.fallen (x : Session) : Session := { x with state := 1, applying := none, opened := none, gapAt := none, nacks := 0 }

theorem State.toWaitKey_active {s : State} {k : Nat} (h : (s.sess k).state = 2) :
    s.toWaitKey k = ((s.dropWaiting k).setSess k (s.sess k).fallen).raise 0x30000 1 := if_pos h

theorem State.toWaitKey_idle {s : State} {k : Nat} (h : (s.sess k).state ≠ 2) : s.toWaitKey k = s := if_neg h

theorem State.toWaitKey_scn {s : State} (k : Nat) (h : s.scn.waiting = none) : (s.toWaitKey k).scn = s.scn := by
  by_cases hactive : (s.sess k).state = 2
  · rw [State.toWaitKey_active hactive, State.dropWaiting_none h]
    rfl
  · rw [State.toWaitKey_idle hactive]

theorem State.toWaitKey_sess_ne (s : State) {k j : Nat} (h : j ≠ k) : (s.toWaitKey k).sess j = s.sess j := by
  by_cases hactive : (s.sess k).state = 2
  · rw [State.toWaitKey_active hactive, State.sess_of_ing (State.raise_ing _ _ _), State.sess_setSess_ne _ _ h,
      State.sess_of_ing (s.dropWaiting_ing k)]
  · rw [State.toWaitKey_idle hactive]

/-- The session itself: it falls back where it was ACTIVE, and is left alone otherwise. -/
theorem State.toWaitKey_sess_same (s : State) (k : Nat) :
    (s.toWaitKey k).sess k = if (s.sess k).state = 2 then (s.sess k).fallen else s.sess k := by
  by_cases hactive : (s.sess k).state = 2
  · have hlt : k < (s.dropWaiting k).ing.sessions.length := by
      rw [State.dropWaiting_ing]
      exact State.sess_lt (fun h => by rw [h] at hactive; exact absurd hactive (by decide))
    rw [if_pos hactive, State.toWaitKey_active hactive, State.sess_of_ing (State.raise_ing _ _ _), State.sess_setSess_same _ hlt]
  · rw [if_neg hactive, State.toWaitKey_idle hactive]

theorem State.toWaitKey_not_active (s : State) (k : Nat) : ((s.toWaitKey k).sess k).state ≠ 2 := by
  rw [State.toWaitKey_sess_same]
  split
  · exact (by decide : (1 : Nat) ≠ 2)
  · assumption

/-- Sessions that fall back one after the other are ACTIVE no more, and none becomes ACTIVE. -/
theorem State.foldl_toWaitKey_state (l : List Nat) (s : State) {j : Nat} (h : j ∈ l ∨ (s.sess j).state ≠ 2) :
    ((l.foldl State.toWaitKey s).sess j).state ≠ 2 := by
  induction l generalizing s with
  | nil => exact h.resolve_left (List.not_mem_nil)
  | cons k l ih =>
    refine ih (s.toWaitKey k) ?_
    by_cases hjk : j = k
    · exact .inr (hjk ▸ s.toWaitKey_not_active k)
    · rw [State.toWaitKey_sess_ne s hjk]
      exact h.imp_left (fun hmem => (List.mem_cons.1 hmem).resolve_left hjk)

theorem State.foldl_toWaitKey_scn (l : List Nat) {s : State} (h : s.scn.waiting = none) : (l.foldl State.toWaitKey s).scn = s.scn := by
  induction l generalizing s with
  | nil => rfl
  | cons k l ih =>
    have hscn := State.toWaitKey_scn k h
    exact (ih (by rw [hscn]; exact h)).trans hscn

theorem State.foldl_toWaitKey_kept (l : List Nat) (s : State) : Kept 24 s (l.foldl State.toWaitKey s) :=
  Kept.foldl (Kept.refl _ _) (fun _ _ h => Kept.step State.toWaitKey_kept rfl h)

/-! ### A change that waits (R118) -/

/-- No change waits any more. -/
def State.noWait (s : State) : State := { s with scn := { s.scn with waiting := none } }

/-- The change that session `k` waits with, tried again. -/
def State.retried (s : State) (k : Nat) : State := s.noWait.stepCmd k (fun _ => true)

/-- The staging version is discarded, and its units released. -/
def State.stagingDropped (s : State) : State := ({ s.noWait with scn := { s.noWait.scn with staging := none } }.raise 0x20000 3).scnGc

section
variable {s : State} {k : Nat}

theorem State.resumeChange_done (hwait : s.scn.waiting = some k) (h : (s.retried k).scn.waiting = none) : s.resumeChange = s.retried k := by
  rw [State.resumeChange, hwait]
  exact if_pos h

theorem State.resumeChange_again (hwait : s.scn.waiting = some k) (h : (s.retried k).scn.waiting ≠ none)
    (hother : s.scn.back ≠ none ∨ s.scn.pendingV ≠ []) : s.resumeChange = s := by
  have hkeep : ¬(s.scn.back.isNone && s.scn.pendingV.isEmpty) = true := by
    rw [Bool.and_eq_true, Option.isNone_iff_eq_none, List.isEmpty_iff]
    exact fun hnone => hother.elim (fun hb => hb hnone.1) (fun hp => hp hnone.2)
  rw [State.resumeChange, hwait]
  exact (if_neg h).trans (if_neg hkeep)

theorem State.resumeChange_dropped (hwait : s.scn.waiting = some k) (h : (s.retried k).scn.waiting ≠ none)
    (hback : s.scn.back = none) (hpending : s.scn.pendingV = []) :
    s.resumeChange = (List.range 64).foldl State.toWaitKey s.stagingDropped := by
  have hdrop : (s.scn.back.isNone && s.scn.pendingV.isEmpty) = true := by rw [hback, hpending]; rfl
  rw [State.resumeChange, hwait]
  exact (if_neg h).trans (if_pos hdrop)

end

theorem State.stagingDropped_scn (s : State) : s.stagingDropped.scn.staging = none ∧ s.stagingDropped.scn.waiting = none ∧
    s.stagingDropped.scn.front = s.scn.front := ⟨rfl, rfl, rfl⟩

/-- Settles O22: an opening copies the newest version, a fill ends in one of four ways, and a change given up takes the staging version
with it. -/
theorem sceneVersions : Obligations.SceneVersions := by
  unfold Obligations.SceneVersions
  intro s
  refine ⟨fun hregion hdiscard hrelease hstaging hroom => ?_, fun k which p bx brow e hentry hdue hread => ?_,
    fun k which p bx brow e b hentry hdue hread => ?_, fun k hwait => ?_⟩
  · obtain ⟨b, hscn⟩ := State.scnLowCheck_scn { s with scn := { s.scn with staging := some s.openedVersion } }
    have hwords := State.scnLowCheck_words { s with scn := { s.scn with staging := some s.openedVersion } }
    obtain ⟨htag, htagged⟩ := s.openedVersion_tag
    refine ⟨_, s.openedVersion, exec_stagingOpen hregion hdiscard hrelease hstaging hroom, ?_⟩
    rw [settle_scn, hscn]
    refine ⟨rfl, htag, htagged, fun n hn => ?_, fun hn => ?_, rfl, rfl, rfl, rfl, State.wordsBut_settle hwords⟩
    · rw [State.openedVersion_of_newest hn]
      exact ⟨rfl, rfl⟩
    · rw [State.openedVersion_of_none hn]
      exact ⟨rfl, rfl⟩
  · obtain ⟨x, hexec⟩ := exec_windowFill hentry hdue
    refine ⟨_, hexec, ?_⟩
    rw [State.windowFill_poisoned (s := { s with plc := x }) hread, settle_scn, settle_rd]
    exact ⟨rfl, State.rd_add_same _ _ _, State.wordsBut_settle (State.wordsBut_add (fun _ _ => rfl) (List.mem_singleton_self _))⟩
  · obtain ⟨x, hexec⟩ := exec_windowFill hentry hdue
    refine ⟨_, hexec, fun hgood => ⟨fun r hr => ?_, fun hr => ?_, ?_⟩, fun hbad => ?_⟩
    · rw [State.windowFill_filled (s := { s with plc := x }) hread hgood hr, settle_scn, settle_rd]
      exact ⟨rfl, rfl, State.rd_add_same _ _ _⟩
    · rw [State.windowFill_full (s := { s with plc := x }) hread hgood hr, settle_scn]
    · rw [settle_ing]
      cases hr : State.fillRoom { s with plc := x } k (s.keeps k) with
      | none => rw [State.windowFill_full (s := { s with plc := x }) hread hgood hr]
      | some r =>
        rw [State.windowFill_filled (s := { s with plc := x }) hread hgood hr]
        exact State.slotFilled_ing _ _ _ _ _
    · obtain ⟨hevent, hcount⟩ := State.markBad_shown { s with plc := x } e.addr
      rw [State.windowFill_bad (s := { s with plc := x }) hread hbad, settle_scn, settle_flag, settle_rd]
      exact ⟨hevent, hcount, State.markBad_gone _ _⟩
  · refine ⟨_, rfl, fun hdone => ?_, fun hnot hother => ?_, fun hnot hback hpending => ?_⟩
    · rw [State.resumeChange_done hwait hdone, settle_scn, settle_ing, settle_dram, settle_regs]
      exact ⟨rfl, rfl, rfl, rfl⟩
    · rw [State.resumeChange_again hwait hnot hother, settle_scn, settle_ing, settle_dram]
      exact ⟨rfl, rfl, rfl⟩
    · obtain ⟨hstaging, hwaiting, hfront⟩ := s.stagingDropped_scn
      have hscn := State.foldl_toWaitKey_scn (List.range 64) hwaiting
      rw [State.resumeChange_dropped hwait hnot hback hpending, settle_scn, hscn, settle_dram]
      refine ⟨hstaging, hwaiting, hfront, (State.foldl_toWaitKey_kept _ _).dram.resolve_left (by decide), fun j hj => ?_⟩
      rw [State.sess_of_ing (settle_ing _)]
      exact State.foldl_toWaitKey_state _ _ (.inl (List.mem_range.2 hj))

end Sys2Proof.Machine

/-! SUPPORT. Update commands, once: the end of a command, and what the operations on blocks leave of the staging version (R118, R138,
R139). -/

namespace Sys2Proof.Machine

/-! ### The end of a command (R138, R139, R165) -/

/-- The staging version notes the frame of a command that was applied (R148). -/
def State.tagDone (t : State) (a : Applying) (c : KstCmd) (code : Nat) : State :=
  if (code = 0 ∨ code = 0x30D) ∧ c.op ≠ 8 then t.tagStaging a.frame else t

/-- A command's error code is counted and noted. -/
def State.cmdNoted (t : State) (k : Nat) (a : Applying) (code : Nat) : State := if code = 0 then t else t.cmdError k a.seq code

/-- A command is over, with its error code, and the session moves on to the next one. -/
def State.cmdOver (t : State) (k : Nat) (a : Applying) (c : KstCmd) (code : Nat) : State :=
  (((t.tagDone a c code).cmdNoted k a code).nextCmd k a c).scnLowCheck

/-- What applying a command leaves, by what it came to. -/
def State.cmdEnd (s : State) (k : Nat) (a : Applying) (c : KstCmd) : Applied → State
  | .done code t => t.cmdOver k a c code
  | .wait => s.waitSpace k
  | .hold => s

/-- Command `c` stands at the front of session `k`'s datagram and can be taken. -/
structure State.FrontCmd (s : State) (k : Nat) (a : Applying) (c : KstCmd) : Prop where
  waiting : s.scn.waiting = none
  dom : s.domOn 14 = true
  applying : (s.sess k).applying = some a
  head : a.head = some c
  staging : s.scn.staging ≠ none

section
variable {s : State} {k : Nat} {a : Applying} {c : KstCmd}

theorem State.FrontCmd.updateCommand (h : s.FrontCmd k a c) : s.updateCommand k c.op = s.cmdEnd k a c (s.runCmd k a c) := by
  have htaken : ¬(s.scn.waiting.isSome || !s.domOn 14) = true := by
    rw [h.waiting, h.dom]
    exact Bool.false_ne_true
  have hop : ¬(!(c.op == c.op) || s.scn.staging.isNone) = true := by
    rw [beq_self_eq_true, Option.isNone_eq_false_iff.2 (Option.isSome_iff_ne_none.2 h.staging)]
    exact Bool.false_ne_true
  rw [State.updateCommand, if_neg htaken, State.stepCmd, h.applying]
  dsimp only
  rw [h.head]
  dsimp only
  rw [if_neg hop]
  cases s.runCmd k a c <;> rfl

theorem State.FrontCmd.sess_lt (h : s.FrontCmd k a c) : k < s.ing.sessions.length :=
  State.sess_lt (fun e => by have happlying := h.applying; rw [e] at happlying; cases happlying)

end

/-! ### What the end of a command leaves -/

section
variable {s t : State} {k : Nat} {a : Applying} {c : KstCmd} {code : Nat}

theorem State.tagStaging_regs (s : State) (f : Nat) : (s.tagStaging f).regs = s.regs := by
  unfold State.tagStaging
  split
  · split <;> rfl
  · rfl

theorem State.tagStaging_scn (s : State) (f : Nat) : ∃ x, (s.tagStaging f).scn = { s.scn with staging := x } := by
  unfold State.tagStaging
  split
  · split <;> exact ⟨_, rfl⟩
  · exact ⟨_, rfl⟩

/-- The staging version differs in the frames it notes alone. -/
theorem State.tagStaging_version {v : Version} (f : Nat) (h : s.scn.staging = some v) :
    ∃ l, (s.tagStaging f).scn = { s.scn with staging := some { v with tagged := l } } ∧ f ∈ l := by
  unfold State.tagStaging
  rw [h]
  dsimp only
  split
  · next hmem => exact ⟨v.tagged, by rw [← h], List.contains_iff_mem.1 hmem⟩
  · exact ⟨_, rfl, List.mem_cons_self ..⟩

theorem State.tagDone_regs (t : State) (a : Applying) (c : KstCmd) (code : Nat) : (t.tagDone a c code).regs = t.regs :=
  (apply_ite State.regs _ _ _).trans (by rw [State.tagStaging_regs]; exact ite_self _)

theorem State.tagDone_ing (t : State) (a : Applying) (c : KstCmd) (code : Nat) : (t.tagDone a c code).ing = t.ing :=
  (apply_ite State.ing _ _ _).trans (by rw [State.tagStaging_kept.ing.resolve_left (by decide)]; exact ite_self _)

theorem State.tagDone_scn (t : State) (a : Applying) (c : KstCmd) (code : Nat) : ∃ x, (t.tagDone a c code).scn = { t.scn with staging := x } := by
  unfold State.tagDone
  split
  · exact t.tagStaging_scn a.frame
  · exact ⟨_, rfl⟩

theorem State.cmdError_scn (s : State) (k q code : Nat) : (s.cmdError k q code).scn = s.scn := State.cmdError_kept.scn.resolve_left (by decide)

theorem State.cmdNoted_scn (s : State) (k : Nat) (a : Applying) (code : Nat) : (s.cmdNoted k a code).scn = s.scn :=
  (apply_ite State.scn _ _ _).trans (by rw [State.cmdError_scn]; exact ite_self _)

/-- The session's datagram after its last command: bytes left behind it are a failure (R138). -/
theorem State.nextCmd_last (hleft : a.left = 1) (hrest : a.payload.drop (4 + c.body.length) ≠ []) :
    s.nextCmd k a c = ((s.setSess k { s.sess k with applying := none }).cmdError k a.seq 0x308).toWaitKey k :=
  (if_pos hleft).trans (if_neg hrest)

/-- Otherwise the session moves on. -/
theorem State.nextCmd_next (h : ¬(a.left = 1 ∧ a.payload.drop (4 + c.body.length) ≠ [])) :
    ∃ x, s.nextCmd k a c = s.setSess k { s.sess k with applying := x } := by
  by_cases hleft : a.left = 1
  · exact ⟨_, (if_pos hleft).trans (if_pos (not_not.1 (fun hrest => h ⟨hleft, hrest⟩)))⟩
  · exact ⟨_, if_neg hleft⟩

theorem State.nextCmd_scn (a : Applying) (c : KstCmd) (h : s.scn.waiting = none) : (s.nextCmd k a c).scn = s.scn := by
  by_cases hlast : a.left = 1 ∧ a.payload.drop (4 + c.body.length) ≠ []
  · have hscn := State.cmdError_scn (s.setSess k { s.sess k with applying := none }) k a.seq 0x308
    rw [State.nextCmd_last hlast.1 hlast.2, State.toWaitKey_scn k (by rw [hscn]; exact h), hscn]
    rfl
  · obtain ⟨x, hx⟩ := State.nextCmd_next (s := s) (k := k) hlast
    rw [hx]
    rfl

theorem State.cmdOver_scn (a : Applying) (c : KstCmd) (code : Nat) (h : t.scn.waiting = none) :
    ∃ b, (t.cmdOver k a c code).scn = { (t.tagDone a c code).scn with lowRaised := b } := by
  obtain ⟨x, hx⟩ := t.tagDone_scn a c code
  obtain ⟨b, hb⟩ := State.scnLowCheck_scn (((t.tagDone a c code).cmdNoted k a code).nextCmd k a c)
  refine ⟨b, hb.trans ?_⟩
  rw [State.nextCmd_scn a c (by rw [State.cmdNoted_scn, hx]; exact h), State.cmdNoted_scn]

/-- A command that is over changes the staging version and the note of low space, and no other part of the scene store. -/
theorem State.cmdOver_scene (a : Applying) (c : KstCmd) (code : Nat) (h : t.scn.waiting = none) :
    ∃ x b, (t.cmdOver k a c code).scn = { t.scn with staging := x, lowRaised := b } := by
  obtain ⟨x, hx⟩ := t.tagDone_scn a c code
  obtain ⟨b, hb⟩ := State.cmdOver_scn (k := k) a c code h
  exact ⟨x, b, by rw [hb, hx]⟩

/-- A command that was applied leaves its frame with the staging version. -/
theorem State.cmdOver_tagged {v : Version} (a : Applying) (hop : c.op ≠ 8) (h : t.scn.waiting = none) (hv : t.scn.staging = some v) :
    ∃ l b, (t.cmdOver k a c 0).scn = { t.scn with staging := some { v with tagged := l }, lowRaised := b } ∧ a.frame ∈ l := by
  obtain ⟨l, hl, hmem⟩ := State.tagStaging_version a.frame hv
  obtain ⟨b, hb⟩ := State.cmdOver_scn (k := k) a c 0 h
  refine ⟨l, b, ?_, hmem⟩
  rw [hb, State.tagDone, if_pos ⟨.inl rfl, hop⟩, hl]

theorem State.cmdOver_kept (t : State) (k : Nat) (a : Applying) (c : KstCmd) (code : Nat) : Kept 24 t (t.cmdOver k a c code) :=
  have htag : Kept 24 t (t.tagDone a c code) := Kept.ite (Kept.step State.tagStaging_kept rfl (Kept.refl _ _)) (Kept.refl _ _)
  .step State.scnLowCheck_kept rfl (.step State.nextCmd_kept rfl (Kept.ite htag (.step State.cmdError_kept rfl htag)))

theorem State.cmdOver_dram (t : State) (k : Nat) (a : Applying) (c : KstCmd) (code : Nat) : (t.cmdOver k a c code).dram = t.dram :=
  (t.cmdOver_kept k a c code).dram.resolve_left (by decide)

/-! ### Words (R139, R165) -/

/-- The words that errors of session `k` and low space change. -/
abbrev cmdWords (k : Nat) : List Nat := [Reg.ingSErr k, Reg.ingStat 6, 0x30010, 0x20010]

theorem State.cmdError_words (s : State) (k q code : Nat) : s.wordsBut (s.cmdError k q code) (cmdWords k) :=
  State.wordsBut_raise (State.wordsBut_add (State.wordsBut_setFld (State.wordsBut_setFld (fun _ _ => rfl) (by simp)) (by simp)) (by simp)) (by simp)

theorem State.toWaitKey_words (s : State) (k : Nat) : s.wordsBut (s.toWaitKey k) [0x30010] := by
  have hdrop : (s.dropWaiting k).regs = s.regs := (apply_ite State.regs _ _ _).trans (ite_self _)
  by_cases hactive : (s.sess k).state = 2
  · rw [State.toWaitKey_active hactive]
    exact State.wordsBut_raise (WordsKept.regs (WordsKept.refl _ s) hdrop) (List.mem_singleton_self _)
  · rw [State.toWaitKey_idle hactive]
    exact State.wordsBut_refl _ _

theorem State.nextCmd_words (s : State) (k : Nat) (a : Applying) (c : KstCmd) : s.wordsBut (s.nextCmd k a c) (cmdWords k) := by
  by_cases hlast : a.left = 1 ∧ a.payload.drop (4 + c.body.length) ≠ []
  · rw [State.nextCmd_last hlast.1 hlast.2]
    have herror := State.cmdError_words (s.setSess k { s.sess k with applying := none }) k a.seq 0x308
    exact State.wordsBut_trans herror (State.wordsBut_mono (State.toWaitKey_words _ k) (by simp))
  · obtain ⟨x, hx⟩ := State.nextCmd_next (s := s) (k := k) hlast
    rw [hx]
    exact fun _ _ => rfl

theorem State.cmdOver_words (t : State) (k : Nat) (a : Applying) (c : KstCmd) (code : Nat) : t.wordsBut (t.cmdOver k a c code) (cmdWords k) := by
  have htag : t.wordsBut (t.tagDone a c code) (cmdWords k) := WordsKept.regs (WordsKept.refl _ t) (t.tagDone_regs a c code)
  have hnoted : t.wordsBut ((t.tagDone a c code).cmdNoted k a code) (cmdWords k) :=
    WordsKept.ite htag (State.wordsBut_trans htag (State.cmdError_words _ _ _ _))
  exact State.wordsBut_trans (State.wordsBut_trans hnoted (State.nextCmd_words _ _ _ _)) (State.wordsBut_mono (State.scnLowCheck_words _) (by simp))

theorem State.cmdError_code (s : State) (k q code : Nat) : (s.cmdError k q code).fld (Reg.ingSErr k) 15 0 = code % 65536 := by
  have hne : Reg.ingSErr k ≠ 0x30000 + 0x10 ∧ Reg.ingSErr k ≠ Reg.ingStat 6 := by
    unfold Reg.ingSErr Reg.ingStat
    omega
  rw [State.cmdError, State.fld, State.rd_raise_ne _ _ hne.1, State.rd_add_ne _ _ hne.2]
  exact (State.fld_setFld_other _ _ 31 16 _ 15 0 (by decide) (by decide) (by decide) (by decide)).trans
    (State.fld_setFld_same _ _ 15 0 code (by decide) (by decide))

theorem State.cmdError_event (s : State) (k q code : Nat) : (s.cmdError k q code).flag 0x30010 3 = true :=
  State.flag_raise_same _ 0x30000 3 (by decide)

theorem State.toWaitKey_event {s : State} (k : Nat) {i : Nat} (h : s.flag 0x30010 i = true) : (s.toWaitKey k).flag 0x30010 i = true := by
  have hdrop : (s.dropWaiting k).regs = s.regs := (apply_ite State.regs _ _ _).trans (ite_self _)
  by_cases hactive : (s.sess k).state = 2
  · rw [State.toWaitKey_active hactive]
    refine State.flag_raise_of_flag (b := 0x30000) 1 (by decide) ?_
    rw [State.flag, State.rd, State.setSess, hdrop]
    exact h
  · rwa [State.toWaitKey_idle hactive]

/-- The code that a session shows after its command is over, where the command reported one: bytes left behind the last command
report COMMAND_LENGTH in their turn (R138). -/
theorem State.nextCmd_code (s : State) (k : Nat) (a : Applying) (c : KstCmd) : (s.nextCmd k a c).fld (Reg.ingSErr k) 15 0 =
    if a.left = 1 ∧ a.payload.drop (4 + c.body.length) ≠ [] then 0x308 else s.fld (Reg.ingSErr k) 15 0 := by
  by_cases hlast : a.left = 1 ∧ a.payload.drop (4 + c.body.length) ≠ []
  · have hne : Reg.ingSErr k ∉ [0x30010] := by
      rw [List.mem_singleton]
      unfold Reg.ingSErr
      omega
    rw [if_pos hlast, State.nextCmd_last hlast.1 hlast.2, State.fld, State.toWaitKey_words _ k _ hne]
    exact State.cmdError_code _ k a.seq 0x308
  · obtain ⟨x, hx⟩ := State.nextCmd_next (s := s) (k := k) hlast
    rw [if_neg hlast, hx]
    rfl

theorem State.nextCmd_event (k : Nat) (a : Applying) (c : KstCmd) (h : s.flag 0x30010 3 = true) : (s.nextCmd k a c).flag 0x30010 3 = true := by
  by_cases hlast : a.left = 1 ∧ a.payload.drop (4 + c.body.length) ≠ []
  · rw [State.nextCmd_last hlast.1 hlast.2]
    exact State.toWaitKey_event k (State.cmdError_event _ k a.seq 0x308)
  · obtain ⟨x, hx⟩ := State.nextCmd_next (s := s) (k := k) hlast
    rw [hx]
    exact h

/-- An error code is noted in the session's error word, and the event is raised (R139, R165). -/
theorem State.cmdOver_error (t : State) (k : Nat) (a : Applying) (c : KstCmd) (hcode : code ≠ 0) :
    (t.cmdOver k a c code).fld (Reg.ingSErr k) 15 0 =
      (if a.left = 1 ∧ a.payload.drop (4 + c.body.length) ≠ [] then 0x308 else code % 65536) ∧
    (t.cmdOver k a c code).flag 0x30010 3 = true := by
  have hlow := State.scnLowCheck_words (((t.tagDone a c code).cmdNoted k a code).nextCmd k a c)
  have hne : Reg.ingSErr k ∉ [0x20010] := by
    rw [List.mem_singleton]
    unfold Reg.ingSErr
    omega
  rw [State.cmdOver, State.fld, State.flag, hlow _ hne, hlow _ (by decide), State.cmdNoted, if_neg hcode]
  refine ⟨(State.nextCmd_code _ k a c).trans ?_, State.nextCmd_event k a c (State.cmdError_event _ k a.seq code)⟩
  rw [State.cmdError_code]

/-! ### The session (R134, R139) -/

/-- What a session keeps of its state, its open block and its last commit. -/
def Session.progress (x : Session) : Nat × Option OpenBlock × Option Nat := (x.state, x.opened, x.doneFrame)

theorem State.setSess_progress {x : Session} (h : x.progress = (s.sess k).progress) : ((s.setSess k x).sess k).progress = (s.sess k).progress := by
  by_cases hk : k < s.ing.sessions.length
  · rw [State.sess_setSess_same x hk, h]
  · rw [State.sess, State.setSess, List.set_eq_of_length_le (Nat.le_of_not_lt hk)]
    rfl

theorem State.sessError_ing (s : State) (k q code : Nat) : ∃ l, (s.sessError k q code).ing = (s.setSess k { s.sess k with records := l }).ing :=
  ⟨_, rfl⟩

theorem State.cmdError_ing (s : State) (k q code : Nat) :
    (s.cmdError k q code).ing = ((s.setSess k { s.sess k with repErr := (s.sess k).repErr + 1 }).sessError k q code).ing := rfl

theorem State.cmdError_progress (s : State) (k q code : Nat) : ((s.cmdError k q code).sess k).progress = (s.sess k).progress := by
  have hcount : ((s.setSess k { s.sess k with repErr := (s.sess k).repErr + 1 }).sess k).progress = (s.sess k).progress := State.setSess_progress rfl
  rw [State.sess_of_ing (s.cmdError_ing k q code), ← hcount]
  generalize s.setSess k { s.sess k with repErr := (s.sess k).repErr + 1 } = r
  obtain ⟨l, hl⟩ := r.sessError_ing k q code
  rw [State.sess_of_ing hl]
  exact State.setSess_progress rfl

/-- A session that moves on keeps its open block and its last commit, or falls back to WAIT_KEY. -/
theorem State.nextCmd_sess (s : State) (k : Nat) (a : Applying) (c : KstCmd) :
    ((s.nextCmd k a c).sess k).doneFrame = (s.sess k).doneFrame ∧
    (((s.nextCmd k a c).sess k).opened = (s.sess k).opened ∨ ((s.nextCmd k a c).sess k).state = 1) := by
  by_cases hlast : a.left = 1 ∧ a.payload.drop (4 + c.body.length) ≠ []
  · have hprogress := (State.cmdError_progress (s.setSess k { s.sess k with applying := none }) k a.seq 0x308).trans
      (State.setSess_progress (s := s) rfl)
    obtain ⟨-, hopened, hdone⟩ : _ ∧ _ ∧ _ := by simpa only [Session.progress, Prod.mk.injEq] using hprogress
    rw [State.nextCmd_last hlast.1 hlast.2, State.toWaitKey_sess_same]
    split
    · exact ⟨hdone, .inr rfl⟩
    · exact ⟨hdone, .inl hopened⟩
  · obtain ⟨x, hx⟩ := State.nextCmd_next (s := s) (k := k) hlast
    have hprogress := State.setSess_progress (s := s) (k := k) (x := { s.sess k with applying := x }) rfl
    obtain ⟨-, hopened, hdone⟩ : _ ∧ _ ∧ _ := by simpa only [Session.progress, Prod.mk.injEq] using hprogress
    rw [hx]
    exact ⟨hdone, .inl hopened⟩

theorem State.cmdOver_sess (t : State) (k : Nat) (a : Applying) (c : KstCmd) (code : Nat) :
    ((t.cmdOver k a c code).sess k).doneFrame = (t.sess k).doneFrame ∧
    (((t.cmdOver k a c code).sess k).opened = (t.sess k).opened ∨ ((t.cmdOver k a c code).sess k).state = 1) := by
  have hnoted : (((t.tagDone a c code).cmdNoted k a code).sess k).progress = (t.sess k).progress := by
    rw [← State.sess_of_ing (t.tagDone_ing a c code), State.cmdNoted]
    split
    · rfl
    · exact State.cmdError_progress _ k a.seq code
  obtain ⟨-, hopened, hdone⟩ : _ ∧ _ ∧ _ := by simpa only [Session.progress, Prod.mk.injEq] using hnoted
  have hlow : ∀ r : State, r.scnLowCheck.sess k = r.sess k := fun r => State.sess_of_ing (State.scnLowCheck_kept.ing.resolve_left (by decide)) k
  rw [State.cmdOver, hlow, ← hopened, ← hdone]
  exact State.nextCmd_sess _ k a c

end

end Sys2Proof.Machine

/-! SUPPORT. Operations on blocks and planes leave the staging version's tag and descriptors, and the change that waits, alone (R115,
R117, R118). -/

namespace Sys2Proof.Machine

/-- What operations on blocks keep of the scene store: the change that waits, and the tag and the descriptors of the staging version. -/
def Scn.face (c : Scn) : Option Nat × Option (Nat × Sparse (Option PlaneDesc)) := (c.waiting, c.staging.map (fun v => (v.tag, v.planes)))

theorem Scn.waiting_of_face {c e : Scn} (h : e.face = c.face) : e.waiting = c.waiting := congrArg Prod.fst h

theorem Scn.staging_of_face {c e : Scn} {v : Version} (h : e.face = c.face) (hv : c.staging = some v) :
    ∃ x, e.staging = some x ∧ x.tag = v.tag ∧ x.planes = v.planes := by
  have hstaging : e.staging.map (fun v => (v.tag, v.planes)) = some (v.tag, v.planes) := 
    (congrArg Prod.snd h).trans (congrArg (Option.map fun v : Version => (v.tag, v.planes)) hv)
  obtain ⟨x, hx, hpair⟩ := Option.map_eq_some_iff.1 hstaging
  exact ⟨x, hx, congrArg Prod.fst hpair, congrArg Prod.snd hpair⟩

/-- A fold over optional results keeps what each of its steps keeps. -/
theorem foldl_some_keeps {α β : Type} {P : β → Prop} (g : Option β → α → Option β) (l : List α) (i : Option β) (hi : ∀ t, i = some t → P t)
    (hg : ∀ o, ∀ a ∈ l, (∀ t, o = some t → P t) → ∀ t, g o a = some t → P t) : ∀ t, l.foldl g i = some t → P t := by
  induction l generalizing i with
  | nil => exact hi
  | cons a l ih => exact ih _ (hg i a (List.mem_cons_self ..) hi) (fun o b hb => hg o b (List.mem_cons_of_mem _ hb))

theorem State.foldl_face {α : Type} {g : State → α → State} (hg : ∀ s a, (g s a).scn.face = s.scn.face) (l : List α) (s : State) :
    (l.foldl g s).scn.face = s.scn.face := by
  induction l generalizing s with
  | nil => rfl
  | cons a l ih => exact (ih (g s a)).trans (hg s a)

/-! ### Entries and units -/

section
variable {s t : State} {p bx brow : Nat}

theorem State.scnGc_face (s : State) : s.scnGc.scn.face = s.scn.face := rfl

theorem State.clearRow_face (s : State) (p r : Nat) : (s.clearRow p r).scn.face = s.scn.face := by
  unfold State.clearRow
  split
  · next v hv => exact congrArg (Prod.mk _) (by rw [hv]; rfl)
  · rfl

theorem State.tagStaging_face (s : State) (f : Nat) : (s.tagStaging f).scn.face = s.scn.face := by
  unfold State.tagStaging
  split
  · next v hv =>
    split
    · rfl
    · exact congrArg (Prod.mk _) (by rw [hv]; rfl)
  · rfl

theorem State.markBad_face (s : State) (addr : Nat) : (s.markBad addr).scn.face = s.scn.face := rfl

theorem State.newPage_face {v : Version} {base : Nat} {entries : Sparse Entry} (hv : s.scn.staging = some v)
    (h : s.newPage v p brow base entries = some t) : t.scn.face = s.scn.face := by
  unfold State.newPage at h
  split at h
  · cases h
  · obtain rfl := Option.some.inj h
    exact congrArg (Prod.mk _) (by rw [hv]; rfl)

theorem State.setEntry_face {e : Entry} (h : s.setEntry p bx brow e = some t) : t.scn.face = s.scn.face := by
  unfold State.setEntry at h
  split at h
  · obtain rfl := Option.some.inj h
    rfl
  · next v hv =>
    dsimp only at h
    split at h
    · split at h
      · obtain ⟨r, hr, rfl⟩ := Option.map_eq_some_iff.1 h
        exact (State.newPage_face hv hr : r.scn.face = s.scn.face)
      · obtain rfl := Option.some.inj h
        rfl
    · exact State.newPage_face hv h

theorem State.trimRow_face {r w : Nat} (h : s.trimRow p r w = some t) : t.scn.face = s.scn.face := by
  unfold State.trimRow at h
  split at h
  · obtain rfl := Option.some.inj h
    rfl
  · split at h
    · obtain rfl := Option.some.inj h
      rfl
    · refine foldl_some_keeps (P := fun x : State => x.scn.face = s.scn.face) _ _ _ (fun x hx => ?_) (fun o e _ ho x hx => ?_) t h
      · rw [Option.some.inj hx]
      · split at hx
        · exact (State.setEntry_face hx).trans (ho _ rfl)
        · cases hx

theorem State.takeSpace_face (s : State) (a n : Nat) : (s.takeSpace a n).scn.face = s.scn.face := rfl

theorem State.storeUnit_face {bytes : List Byte} {x : Nat × State} (h : s.storeUnit p bx brow bytes = some x) : x.2.scn.face = s.scn.face := by
  unfold State.storeUnit at h
  split at h
  · cases h
  · obtain rfl := Option.some.inj h
    exact (State.takeSpace_face _ _ _).trans (congrArg Scn.face (State.dramWrite_kept.scn.resolve_left (by decide)))

theorem State.storeEdited_face {raw : List Byte} (h : s.storeEdited p bx brow raw = some t) : t.scn.face = s.scn.face := by
  unfold State.storeEdited at h
  dsimp only at h
  split at h
  · cases h
  · next hunit =>
    split at h
    · cases h
    · next hentry =>
      obtain rfl := Option.some.inj h
      exact (State.setEntry_face hentry).trans (State.storeUnit_face hunit)

theorem State.editPartial_face {f : Nat → Nat → Nat → Nat} {x : Bool × State} (h : s.editPartial p bx brow f = some x) :
    x.2.scn.face = s.scn.face := by
  unfold State.editPartial at h
  dsimp only at h
  split at h
  · cases h
  · next r hr =>
    obtain rfl := Option.some.inj h
    dsimp only
    split
    · exact (State.markBad_face r _).trans (State.storeEdited_face hr)
    · exact State.storeEdited_face hr

theorem State.editRect_face {u v w h : Nat} {whole : Nat → Nat → Option Entry} {f : Nat → Nat → Nat → Nat} {x : Bool × State}
    (e : s.editRect p u v w h whole f = some x) : x.2.scn.face = s.scn.face := by
  unfold State.editRect at e
  refine foldl_some_keeps (P := fun y : Bool × State => y.2.scn.face = s.scn.face) _ _ _ (fun y hy => ?_) (fun o br _ ho y hy => ?_) x e
  · rw [← Option.some.inj hy]
  · split at hy
    · cases hy
    · dsimp only at hy
      split at hy
      · obtain ⟨r, hr, rfl⟩ := Option.map_eq_some_iff.1 hy
        exact (State.setEntry_face hr).trans (ho _ rfl)
      · obtain ⟨r, hr, rfl⟩ := Option.map_eq_some_iff.1 hy
        exact (State.editPartial_face hr).trans (ho _ rfl)

end

/-! ### Commands on blocks -/

/-- What applying a command comes to, where it is done, keeps the face of the scene store. -/
def Applied.keepsFace (s : State) : Applied → Prop
  | .done _ t => t.scn.face = s.scn.face
  | .wait => True
  | .hold => True

section
variable {s t : State} {c : KstCmd} {code : Nat}

theorem Applied.keepsFace.waiting {r : Applied} (h : r.keepsFace s) (hr : r = .done code t) : t.scn.waiting = s.scn.waiting :=
  Scn.waiting_of_face (show (Applied.done code t).keepsFace s from hr ▸ h)

theorem State.finishBlock_face (s : State) (k : Nat) (o : OpenBlock) (unit : List Byte) : (s.finishBlock k o unit).keepsFace s := by
  unfold State.finishBlock
  dsimp only
  split
  · exact rfl
  · split
    · trivial
    · next hunit =>
      split
      · trivial
      · next hentry => exact (State.setEntry_face hentry).trans (State.storeUnit_face hunit)

theorem State.cmdWriteBlock_face (s : State) (k f : Nat) (c : KstCmd) : (s.cmdWriteBlock k f c).keepsFace s := by
  unfold State.cmdWriteBlock
  extract_lets bx brow fl total off data x fits lost s1 held code o
  have hlost : s1.scn.face = s.scn.face := congrArg Scn.face ((apply_ite State.scn _ _ _).trans (ite_self _))
  clear_value o held s1
  split
  · exact hlost
  · split
    · exact hlost
    · split
      · split
        · next e r hr =>
          have hdone : (Applied.done e r).keepsFace s1 := hr ▸ s1.finishBlock_face k _ _
          have hfinish : r.scn.face = s1.scn.face := hdone
          show (if e = 0 then r.tagStaging f else r).scn.face = s.scn.face
          split
          · exact (State.tagStaging_face r f).trans (hfinish.trans hlost)
          · exact hfinish.trans hlost
        · trivial
        · trivial
      · exact (State.tagStaging_face _ f).trans hlost

theorem State.cmdFill_face (s : State) (c : KstCmd) : (s.cmdFill c).keepsFace s := by
  unfold State.cmdFill
  dsimp only
  split
  · trivial
  · next hedit => exact (State.scnGc_face _).trans (State.editRect_face hedit)

theorem State.cmdCopy_face (s : State) (c : KstCmd) : (s.cmdCopy c).keepsFace s := by
  unfold State.cmdCopy
  dsimp only
  split
  · trivial
  · next hedit => exact ((State.scnGc_face _).trans (State.foldl_face State.markBad_face _ _)).trans (State.editRect_face hedit)

theorem State.cmdGlyph_face (s : State) (c : KstCmd) (d : PlaneDesc) : (s.cmdGlyph c d).keepsFace s := by
  unfold State.cmdGlyph
  dsimp only
  split
  · exact rfl
  · split
    · trivial
    · next bad t hedit =>
      refine (State.scnGc_face _).trans ?_
      refine foldl_some_keeps (P := fun y : Bool × State => y.2.scn.face = s.scn.face) _ _ _ (fun y hy => ?_) (fun o br _ ho y hy => ?_)
        (bad, t) hedit
      · rw [← Option.some.inj hy]
      · split at hy
        · cases hy
        · obtain ⟨r, hr, rfl⟩ := Option.map_eq_some_iff.1 hy
          exact (State.editPartial_face hr).trans (ho _ rfl)

end

end Sys2Proof.Machine

/-! SUPPORT. DEFINE_PLANE, ALTER_PLANE, SET_DEPTH and COMMIT_FRAME (R101, R138, R139, R146, R148, R149), and O25. -/

namespace Sys2Proof.Machine

/-! ### What each OP runs (R138, R139) -/

section
variable {s : State} {k : Nat} {a : Applying} {c : KstCmd}

/-- The plane of a command is one of the session's (R139). -/
theorem State.planeOwn {n : Nat} (hplane : c.plane < 32) (hmask : s.flag (Reg.ingSPlanes n) c.plane = true) :
    ¬(32 ≤ c.plane ∨ (!s.flag (Reg.ingSPlanes n) c.plane) = true) := by
  rw [hmask]
  exact fun h => h.elim (Nat.not_le.2 hplane) Bool.false_ne_true

theorem State.runCmd_define (hplane : c.plane < 32) (hmask : s.flag (Reg.ingSPlanes k) c.plane = true) (hop : c.op = 1) :
    s.runCmd k a c = s.cmdDefine c := by
  rw [State.runCmd, if_neg (by omega), if_neg (by omega), if_neg (State.planeOwn hplane hmask), if_pos hop]

theorem State.runCmd_commit (hop : c.op = 8) : s.runCmd k a c = s.cmdCommit k a.frame := if_pos hop

/-- The checks of a command on a plane that is defined pass (R139). -/
structure State.PlaneChecked (s : State) (k : Nat) (c : KstCmd) (d : PlaneDesc) : Prop where
  plane : c.plane < 32
  own : s.flag (Reg.ingSPlanes k) c.plane = true
  defined : s.stagingPlane c.plane = some d
  source : c.op = 4 → (s.stagingPlane (beNat (slice c.body 0 1))).isSome = true
  codes : s.cmdCodes c = 0

/-- What applying a command on a defined plane comes to, by its OP (R139). -/
def State.planeApplied (s : State) (k : Nat) (a : Applying) (c : KstCmd) (d : PlaneDesc) : Applied :=
  if c.op = 2 then s.cmdAlter c d else if c.op = 3 then s.cmdWriteBlock k a.frame c else if c.op = 4 then s.cmdCopy c
  else if c.op = 5 then s.cmdFill c else if c.op = 6 then s.cmdGlyph c d else s.cmdDepth c d

/-- A command whose checks pass runs as its OP says, or is held where it edits part of a block and no engine is ACTIVE (R139, R159). -/
theorem State.PlaneChecked.runCmd {d : PlaneDesc} (h : s.PlaneChecked k c d) (hlow : 2 ≤ c.op) (hhigh : c.op < 8) :
    s.runCmd k a c = if c.partial_ d && !s.editEngine then .hold else s.planeApplied k a c d := by
  have hfound : ¬(c.op = 4 ∧ (s.stagingPlane (beNat (slice c.body 0 1))).isNone = true) := fun hnone => by
    have hsome := h.source hnone.1
    rw [Option.isNone_iff_eq_none.1 hnone.2] at hsome
    cases hsome
  rw [State.runCmd, if_neg (by omega), if_neg (by omega), if_neg (State.planeOwn h.plane h.own), if_neg (by omega), h.defined]
  dsimp only
  rw [if_neg hfound, h.codes, if_neg (not_not.2 rfl), State.planeApplied]

theorem State.cmdCodes_descriptor (s : State) (h : c.op = 2 ∨ c.op = 7) : s.cmdCodes c = 0 := by
  unfold State.cmdCodes
  dsimp only
  rw [if_neg (by omega), if_neg (by omega), if_neg (by omega), if_neg (by omega)]

theorem KstCmd.partial_descriptor (d : PlaneDesc) (h : c.op = 2 ∨ c.op = 7) : c.partial_ d = false := by
  have hop : (c.op == 6) = false := beq_false_of_ne (by omega)
  unfold KstCmd.partial_
  dsimp only
  rw [if_neg (by omega), if_neg (by omega), hop, Bool.false_and]

/-- ALTER_PLANE and SET_DEPTH have no checks of a region, and edit no block. -/
theorem State.runCmd_descriptor {d : PlaneDesc} (hplane : c.plane < 32) (hmask : s.flag (Reg.ingSPlanes k) c.plane = true)
    (hd : s.stagingPlane c.plane = some d) (h : c.op = 2 ∨ c.op = 7) :
    s.runCmd k a c = if c.op = 2 then s.cmdAlter c d else s.cmdDepth c d := by
  have hchecked : s.PlaneChecked k c d := ⟨hplane, hmask, hd, fun h4 => by omega, s.cmdCodes_descriptor h⟩
  rw [hchecked.runCmd (by omega) (by omega), KstCmd.partial_descriptor d h, State.planeApplied, if_neg (show ¬ c.op = 3 by omega),
    if_neg (show ¬ c.op = 4 by omega), if_neg (show ¬ c.op = 5 by omega), if_neg (show ¬ c.op = 6 by omega)]
  rfl

end

/-! ### Descriptors of the staging version (R101) -/

section
variable {s : State} {v : Version} {p : Nat} {d : PlaneDesc}

theorem State.setStagingPlane_scn (p : Nat) (d : PlaneDesc) (h : s.scn.staging = some v) :
    (s.setStagingPlane p d).scn = { s.scn with staging := some { v with planes := Sparse.set noPlane v.planes p (some d) } } := by
  rw [State.setStagingPlane, h]

theorem State.stagingPlane_eq (p : Nat) (h : s.scn.staging = some v) : s.stagingPlane p = v.plane p := by rw [State.stagingPlane, h]

/-- The planes of a version after one descriptor was set. -/
theorem Version.plane_of_set {x : Version} (h : x.planes = Sparse.set noPlane v.planes p (some d)) :
    x.plane p = some d ∧ ∀ q, q ≠ p → x.plane q = v.plane q := by
  refine ⟨?_, fun q hq => ?_⟩ <;> rw [Version.plane, h]
  · exact Sparse.get_set_same _ _ _
  · exact Sparse.get_set_ne _ _ hq

/-- The staging version after a command that set one descriptor and changed no other. -/
theorem State.staging_of_face {t : State} (hv : s.scn.staging = some v) (hface : t.scn.face = (s.setStagingPlane p d).scn.face) :
    ∃ x, t.scn.staging = some x ∧ x.tag = v.tag ∧ x.plane p = some d ∧ ∀ q, q ≠ p → x.plane q = v.plane q := by
  obtain ⟨x, hx, htag, hplanes⟩ := Scn.staging_of_face hface (v := { v with planes := Sparse.set noPlane v.planes p (some d) })
    (by rw [State.setStagingPlane_scn p d hv])
  obtain ⟨hsame, hother⟩ := Version.plane_of_set hplanes
  exact ⟨x, hx, htag, hsame, hother⟩

theorem State.setStagingPlane_waiting (s : State) (p : Nat) (d : PlaneDesc) : (s.setStagingPlane p d).scn.waiting = s.scn.waiting := by
  unfold State.setStagingPlane
  split <;> rfl

end

/-! ### DEFINE_PLANE (R138) -/

/-- Every block row of plane `p` emptied. -/
def State.clearRows (s : State) (p : Nat) (l : List Nat) : State := l.foldl (fun t r => t.clearRow p r) s

theorem State.clearRows_face (s : State) (p : Nat) (l : List Nat) : (s.clearRows p l).scn.face = s.scn.face :=
  State.foldl_face (fun t r => t.clearRow_face p r) l s

theorem State.clearRow_staging {s : State} {v : Version} (p r : Nat) (h : s.scn.staging = some v) :
    (s.clearRow p r).scn.staging = some { v with dir := Sparse.set noPage v.dir (p * 144 + r) 0,
                                                 blank := Sparse.set noBlank v.blank (p * 144 + r) (v.tag % 2 ^ 32) } := by
  rw [State.clearRow, h]

/-- A row that was emptied has no page, whatever other rows are emptied after it. -/
theorem State.clearRows_pageId {p : Nat} (l : List Nat) {s : State} {v x : Version} (hv : s.scn.staging = some v)
    (hx : (s.clearRows p l).scn.staging = some x) {r : Nat} (hr : r ∈ l ∨ v.pageId p r = 0) : x.pageId p r = 0 := by
  induction l generalizing s v with
  | nil =>
    obtain rfl := Option.some.inj (hv.symm.trans hx)
    exact hr.resolve_left List.not_mem_nil
  | cons q l ih =>
    refine ih (State.clearRow_staging p q hv) hx ?_
    by_cases hrq : r = q
    · refine .inr ?_
      rw [hrq, Version.pageId]
      exact Sparse.get_set_same v.dir _ 0
    · refine hr.imp (fun hmem => (List.mem_cons.1 hmem).resolve_left hrq) (fun hzero => ?_)
      exact (Sparse.get_set_ne (d := noPage) (j := p * 144 + r) v.dir 0 (by omega)).trans hzero

/-- The state after DEFINE_PLANE set a plane's descriptor and emptied it. -/
def State.defined (s : State) (p : Nat) (d : PlaneDesc) : State := ((s.setStagingPlane p d).clearRows p (List.range 144)).scnGc

theorem State.cmdDefine_ok {s : State} {c : KstCmd} (h : descriptorOk (beWords 8 c.body) = true) :
    s.cmdDefine c = .done 0 (s.defined c.plane (planeOfWords (beWords 8 c.body))) := by
  rw [State.cmdDefine, State.defined, State.clearRows]
  exact if_pos h

theorem State.defined_face (s : State) (p : Nat) (d : PlaneDesc) : (s.defined p d).scn.face = (s.setStagingPlane p d).scn.face :=
  (State.scnGc_face _).trans (State.clearRows_face _ _ _)

theorem State.scnGc_staging (s : State) : s.scnGc.scn.staging = s.scn.staging := rfl

theorem State.defined_pageId {s : State} {p : Nat} {d : PlaneDesc} {v x : Version} (hv : s.scn.staging = some v)
    (hx : (s.defined p d).scn.staging = some x) {r : Nat} (hr : r < 144) : x.pageId p r = 0 := by
  have hset : (s.setStagingPlane p d).scn.staging = some _ := congrArg Scn.staging (State.setStagingPlane_scn p d hv)
  rw [State.defined, State.scnGc_staging] at hx
  exact State.clearRows_pageId _ hset hx (.inl (List.mem_range.2 hr))

theorem State.defined_dram (s : State) (p : Nat) (d : PlaneDesc) : (s.defined p d).dram = s.dram :=
  (Kept.step (F := 8) State.scnGc_kept rfl (Kept.foldl (State.setStagingPlane_kept) (fun _ _ h => Kept.step State.clearRow_kept rfl h))).dram.resolve_left
    (by decide)

/-! ### ALTER_PLANE (R115, R138) -/

/-- The descriptor words that ALTER_PLANE makes: the masked ones are replaced. -/
def KstCmd.altered (c : KstCmd) (old : PlaneDesc) : List Nat :=
  (List.range 8).map (fun i => if bitOf (beNat (slice c.body 0 4)) i then (beWords 8 (c.body.drop 4)).getD i 0 else old.word i)

/-- ALTER_PLANE sets the descriptor, or waits for table space where it narrows the plane. -/
theorem State.cmdAlter_ok {s : State} {c : KstCmd} {old : PlaneDesc} (h : descriptorOk (c.altered old) = true) :
    (∃ t, s.cmdAlter c old = .done 0 t ∧ t.scn.face = (s.setStagingPlane c.plane (planeOfWords (c.altered old))).scn.face) ∨
    (s.cmdAlter c old = .wait ∧ (planeOfWords (c.altered old)).wblk < old.wblk) := by
  have hok : ¬(!descriptorOk (c.altered old)) = true := by rw [h]; exact Bool.false_ne_true
  unfold State.cmdAlter
  refine (if_neg hok).symm ▸ ?_
  extract_lets d s1 s2 s3
  have hrows : s2.scn.face = s1.scn.face := State.foldl_face (fun t r => (apply_ite (fun x : State => x.scn.face) _ _ _).trans
    (by rw [State.clearRow_face]; exact ite_self _)) _ _
  have htrim : ∀ t, s3 = some t → t.scn.face = s2.scn.face := by
    intro t ht
    unfold s3 at ht
    split at ht
    · refine foldl_some_keeps (P := fun x : State => x.scn.face = s2.scn.face) _ _ _ (fun x hx => ?_) (fun o r _ ho x hx => ?_) t ht
      · rw [← Option.some.inj hx]
      · split at hx
        · exact (State.trimRow_face hx).trans (ho _ rfl)
        · cases hx
    · rw [← Option.some.inj ht]
  cases hs3 : s3 with
  | some t => exact .inl ⟨_, rfl, (State.scnGc_face t).trans ((htrim t hs3).trans hrows)⟩
  | none =>
    refine .inr ⟨rfl, ?_⟩
    by_contra hwide
    exact Option.some_ne_none s2 ((if_neg hwide).symm.trans hs3)

/-! ### SET_DEPTH (R139) -/

theorem State.cmdDepth_ok {s : State} {c : KstCmd} {old : PlaneDesc} (h : beNat (slice c.body 0 4) < 2 ^ 24) :
    s.cmdDepth c old = .done 0 (s.setStagingPlane c.plane { old with z := signedBits (beNat (slice c.body 0 4)) 24 }) :=
  if_neg (Nat.not_le.2 h)

/-! ### COMMIT_FRAME (R146, R148, R149) -/

/-- A session gates the completion of a version: it is enabled and its commit counts (R146). -/
def State.sessGates (s : State) (j : Nat) : Bool := s.flag (Reg.ingSCtrl j) 0 && s.flag (Reg.ingSCtrl j) 1

/-- Some session gates, and every one that does is ACTIVE and done with frame `f` (R146). -/
def State.allDone (s : State) (f : Nat) : Prop :=
  (∃ j, j < 64 ∧ s.sessGates j = true) ∧ ∀ j, j < 64 → s.sessGates j = true → (s.sess j).state = 2 ∧ (s.sess j).doneFrame = some f

section
variable {s : State} {v : Version}

theorem State.allDone_iff (s : State) (f : Nat) : (!((List.range 64).filter s.sessGates).isEmpty &&
    ((List.range 64).filter s.sessGates).all (fun k => (s.sess k).state == 2 && (s.sess k).doneFrame == some f)) = true ↔ s.allDone f := by
  rw [Bool.and_eq_true, Bool.not_eq_true', List.isEmpty_eq_false_iff_exists_mem, List.all_eq_true]
  refine and_congr (exists_congr fun j => ?_) (forall_congr' fun j => ?_)
  · rw [List.mem_filter, List.mem_range]
  · rw [List.mem_filter, List.mem_range, Bool.and_eq_true, beq_iff_eq, beq_iff_eq, and_imp]

theorem State.checkComplete_done (h : s.scn.staging = some v) (hdone : s.allDone (s.targetOf v)) :
    s.checkComplete.scn = { s.scn with staging := none, pendingV := s.scn.pendingV ++ [v] } := by
  rw [State.checkComplete, h]
  exact congrArg State.scn (if_pos ((s.allDone_iff (s.targetOf v)).2 hdone))

theorem State.checkComplete_open (h : s.scn.staging = some v) (hdone : ¬ s.allDone (s.targetOf v)) : s.checkComplete = s := by
  rw [State.checkComplete, h]
  exact if_neg (fun hd => hdone ((s.allDone_iff (s.targetOf v)).1 hd))

theorem State.checkComplete_words (s : State) : s.wordsBut s.checkComplete [Reg.ingStat 7] := by
  unfold State.checkComplete
  split
  · exact State.wordsBut_refl _ _
  · exact WordsKept.ite (State.wordsBut_add (fun _ _ => rfl) (List.mem_singleton_self _)) (State.wordsBut_refl _ _)

theorem State.checkComplete_ing (s : State) : s.checkComplete.ing = s.ing := State.checkComplete_kept.ing.resolve_left (by decide)

end

/-- Session `k` is done with frame `f`. -/
def State.committed (s : State) (k f : Nat) : State :=
  (s.setSess k { s.sess k with doneFrame := some f }).wr (Reg.ingSCommitLo k) (f % 2 ^ 32)

section
variable {s : State} {v : Version} {k f : Nat}

theorem State.cmdCommit_stale (h : s.scn.staging = some v) (hstale : f < s.targetOf v) : s.cmdCommit k f = .done 0 (s.add (Reg.ingStat 9) 1) := by
  rw [State.cmdCommit, h]
  exact if_pos hstale

theorem State.cmdCommit_taken (h : s.scn.staging = some v) (htarget : s.targetOf v ≤ f) :
    s.cmdCommit k f = .done 0 (s.committed k f).checkComplete := by
  rw [State.cmdCommit, h]
  exact if_neg (Nat.not_lt.2 htarget)

theorem State.committed_gates (s : State) (k f j : Nat) : (s.committed k f).sessGates j = s.sessGates j := by
  have hne : Reg.ingSCtrl j ≠ Reg.ingSCommitLo k := by
    unfold Reg.ingSCtrl Reg.ingSCommitLo
    omega
  rw [State.sessGates, State.sessGates, State.flag, State.flag, State.committed, State.rd_wr_ne _ _ hne]
  rfl

theorem State.committed_sess_same (hk : k < s.ing.sessions.length) : (s.committed k f).sess k = { s.sess k with doneFrame := some f } :=
  (State.sess_of_ing (State.wr_ing _ _ _) k).trans (State.sess_setSess_same _ hk)

theorem State.committed_sess_ne {j : Nat} (h : j ≠ k) : (s.committed k f).sess j = s.sess j :=
  (State.sess_of_ing (State.wr_ing _ _ _) j).trans (State.sess_setSess_ne s _ h)

/-- After a commit every gating session is done exactly if the others were and this one's frame is the target. -/
theorem State.committed_allDone (hk : k < s.ing.sessions.length) (g : Nat) : (s.committed k f).allDone g ↔
    (∃ j, j < 64 ∧ s.sessGates j = true) ∧
      ∀ j, j < 64 → s.sessGates j = true → (s.sess j).state = 2 ∧ (if j = k then f = g else (s.sess j).doneFrame = some g) := by
  unfold State.allDone
  simp only [State.committed_gates]
  refine and_congr Iff.rfl (forall_congr' fun j => imp_congr Iff.rfl (imp_congr Iff.rfl ?_))
  by_cases hjk : j = k
  · rw [hjk, State.committed_sess_same hk, if_pos rfl, Option.some_inj]
  · rw [State.committed_sess_ne hjk, if_neg hjk]

/-- What a commit at or above the target leaves of the store: the version is pending exactly if every gating session is done (R146). -/
theorem State.commit_scn (h : s.scn.staging = some v) :
    ((s.committed k f).allDone (s.targetOf v) →
      (s.committed k f).checkComplete.scn = { s.scn with staging := none, pendingV := s.scn.pendingV ++ [v] }) ∧
    (¬(s.committed k f).allDone (s.targetOf v) → (s.committed k f).checkComplete.scn = s.scn) :=
  ⟨State.checkComplete_done (s := s.committed k f) h, fun hopen => by rw [State.checkComplete_open (s := s.committed k f) h hopen]; rfl⟩

theorem State.commit_dram (s : State) (k f : Nat) : (s.committed k f).checkComplete.dram = s.dram :=
  (State.checkComplete_kept.dram.resolve_left (by decide)).trans rfl

theorem State.commit_word (s : State) (k f : Nat) : (s.committed k f).checkComplete.rd (Reg.ingSCommitLo k) = f % 2 ^ 32 := by
  have hne : Reg.ingSCommitLo k ∉ [Reg.ingStat 7] := by
    rw [List.mem_singleton]
    unfold Reg.ingSCommitLo Reg.ingStat
    omega
  rw [State.checkComplete_words _ _ hne]
  exact (State.rd_wr_same _ _ _).trans (Nat.mod_mod _ _)

end

/-! ### The commands on planes -/

section
variable {s t : State} {k : Nat} {a : Applying} {c : KstCmd} {v : Version} {code op : Nat}

/-- A command that is done: the row of its OP leaves what the command leaves, and the session moves on. -/
theorem State.FrontCmd.done (h : s.FrontCmd k a c) (hop : c.op = op) (hrun : s.runCmd k a c = .done code t) :
    s.updateCommand k op = t.cmdOver k a c code := by
  rw [← hop, h.updateCommand, hrun, State.cmdEnd]

theorem State.FrontCmd.wait (h : s.FrontCmd k a c) (hop : c.op = op) (hrun : s.runCmd k a c = .wait) : s.updateCommand k op = s.waitSpace k := by
  rw [← hop, h.updateCommand, hrun, State.cmdEnd]

theorem State.waitSpace_scn (s : State) (k : Nat) : (s.waitSpace k).scn = { s.scn with waiting := some k } := rfl

theorem State.waitSpace_event (s : State) (k : Nat) : (s.waitSpace k).flag 0x20010 3 = true := State.flag_raise_same _ 0x20000 3 (by decide)

theorem State.waitSpace_kept_parts (s : State) (k : Nat) : (s.waitSpace k).ing = s.ing ∧ (s.waitSpace k).dram = s.dram := ⟨rfl, rfl⟩

theorem State.waitSpace_words (s : State) (k : Nat) : s.wordsBut (s.waitSpace k) [0x20010] :=
  State.wordsBut_raise (fun _ _ => rfl) (List.mem_singleton_self _)

/-- A command that leaves plane `c.plane` with descriptor `d`, and the other planes and the tag as they were. -/
theorem State.cmdOver_plane {d : PlaneDesc} (a : Applying) (hop : c.op ≠ 8) (hwait : s.scn.waiting = none) (hv : s.scn.staging = some v)
    (hface : t.scn.face = (s.setStagingPlane c.plane d).scn.face) :
    ∃ x y b, t.scn.staging = some y ∧ (t.cmdOver k a c 0).scn = { t.scn with staging := some x, lowRaised := b } ∧ t.scn.waiting = none ∧
      x.dir = y.dir ∧ x.plane c.plane = some d ∧ (∀ q, q ≠ c.plane → x.plane q = v.plane q) ∧ x.tag = v.tag ∧ a.frame ∈ x.tagged := by
  obtain ⟨y, hy, htag, hplane, hother⟩ := State.staging_of_face hv hface
  have hnone : t.scn.waiting = none := (Scn.waiting_of_face hface).trans ((s.setStagingPlane_waiting _ _).trans hwait)
  obtain ⟨l, b, hscn, hmem⟩ := State.cmdOver_tagged (k := k) a hop hnone hy
  exact ⟨{ y with tagged := l }, y, b, hy, hscn, hnone, rfl, hplane, hother, htag, hmem⟩

theorem State.FrontCmd.define (h : s.FrontCmd k a c) (hv : s.scn.staging = some v) (hplane : c.plane < 32)
    (hmask : s.flag (Reg.ingSPlanes k) c.plane = true) (hop : c.op = 1) (hok : descriptorOk (beWords 8 c.body) = true) :
    ∃ u x, exec (.definePlane k) s = .next u ∧ u.scn.staging = some x ∧ x.plane c.plane = some (planeOfWords (beWords 8 c.body)) ∧
      (∀ q, q ≠ c.plane → x.plane q = v.plane q) ∧ (∀ r, r < 144 → x.pageId c.plane r = 0) ∧ x.tag = v.tag ∧
      a.frame ∈ x.tagged ∧ u.dram = s.dram := by
  have hrun : s.runCmd k a c = _ := (State.runCmd_define hplane hmask hop).trans (State.cmdDefine_ok hok)
  obtain ⟨x, y, b, hy, hscn, -, hdir, hset, hother, htag, hmem⟩ := State.cmdOver_plane (k := k) a (by omega) h.waiting hv
    (s.defined_face c.plane (planeOfWords (beWords 8 c.body)))
  refine ⟨_, x, congrArg finish (h.done hop hrun), ?_⟩
  rw [settle_scn, hscn, settle_dram, State.cmdOver_dram, State.defined_dram]
  refine ⟨rfl, hset, hother, fun r hr => ?_, htag, hmem, rfl⟩
  rw [Version.pageId, hdir]
  exact State.defined_pageId hv hy hr

theorem State.FrontCmd.alter (h : s.FrontCmd k a c) (hv : s.scn.staging = some v) (hplane : c.plane < 32)
    (hmask : s.flag (Reg.ingSPlanes k) c.plane = true) {old : PlaneDesc} (hold : v.plane c.plane = some old) (hop : c.op = 2)
    (hok : descriptorOk (c.altered old) = true) :
    ∃ u, exec (.alterPlane k) s = .next u ∧ (old.wblk ≤ (planeOfWords (c.altered old)).wblk → u.scn.waiting = none) ∧
      (u.scn.waiting = none → ∃ x, u.scn.staging = some x ∧ x.plane c.plane = some (planeOfWords (c.altered old)) ∧
        (∀ q, q ≠ c.plane → x.plane q = v.plane q) ∧ x.tag = v.tag ∧ a.frame ∈ x.tagged) ∧
      (u.scn.waiting ≠ none → u.scn.waiting = some k ∧ u.scn.staging = some v ∧ u.ing = s.ing ∧ u.flag 0x20010 3 = true) := by
  have hrun := State.runCmd_descriptor (k := k) (a := a) hplane hmask ((State.stagingPlane_eq c.plane hv).trans hold) (.inl hop)
  rw [if_pos hop] at hrun
  rcases State.cmdAlter_ok (s := s) hok with ⟨t, ht, hface⟩ | ⟨hwait, hnarrow⟩
  · obtain ⟨x, -, b, -, hscn, hnone, -, hset, hother, htag, hmem⟩ := State.cmdOver_plane (k := k) a (by omega) h.waiting hv hface
    refine ⟨_, congrArg finish (h.done hop (hrun.trans ht)), ?_⟩
    rw [settle_scn, hscn]
    exact ⟨fun _ => hnone, fun _ => ⟨x, rfl, hset, hother, htag, hmem⟩, fun hne => absurd hnone hne⟩
  · refine ⟨_, congrArg finish (h.wait hop (hrun.trans hwait)), ?_⟩
    rw [settle_scn, State.waitSpace_scn, settle_ing, settle_flag]
    exact ⟨fun hwide => absurd hnarrow (Nat.not_lt.2 hwide), fun hnone => absurd hnone (Option.some_ne_none k),
      fun _ => ⟨rfl, hv, (s.waitSpace_kept_parts k).1, s.waitSpace_event k⟩⟩

theorem State.FrontCmd.depth (h : s.FrontCmd k a c) (hv : s.scn.staging = some v) (hplane : c.plane < 32)
    (hmask : s.flag (Reg.ingSPlanes k) c.plane = true) {old : PlaneDesc} (hold : v.plane c.plane = some old) (hop : c.op = 7)
    (hok : beNat (slice c.body 0 4) < 2 ^ 24) :
    ∃ u x, exec (.setDepth k) s = .next u ∧ u.scn.staging = some x ∧
      x.plane c.plane = some { old with z := signedBits (beNat (slice c.body 0 4)) 24 } ∧
      (∀ q, q ≠ c.plane → x.plane q = v.plane q) ∧ x.dir = v.dir ∧ a.frame ∈ x.tagged ∧
      u.scn.pages = s.scn.pages ∧ u.scn.units = s.scn.units ∧ u.dram = s.dram := by
  have hrun := State.runCmd_descriptor (k := k) (a := a) hplane hmask ((State.stagingPlane_eq c.plane hv).trans hold) (.inr hop)
  rw [if_neg (by omega)] at hrun
  have hset := State.setStagingPlane_scn c.plane { old with z := signedBits (beNat (slice c.body 0 4)) 24 } hv
  have hdram := (State.setStagingPlane_kept (s := s) (p := c.plane)
    (d := { old with z := signedBits (beNat (slice c.body 0 4)) 24 })).dram.resolve_left (by decide)
  obtain ⟨x, y, b, hy, hscn, -, hdir, hplane, hother, -, hmem⟩ := State.cmdOver_plane (k := k) a (by omega) h.waiting hv
    (rfl : (s.setStagingPlane c.plane { old with z := signedBits (beNat (slice c.body 0 4)) 24 }).scn.face = _)
  refine ⟨_, x, congrArg finish (h.done hop (hrun.trans (State.cmdDepth_ok hok))), ?_⟩
  rw [settle_scn, hscn, settle_dram, State.cmdOver_dram, hdram]
  rw [hset] at hy ⊢
  obtain rfl := Option.some.inj hy
  exact ⟨rfl, hplane, hother, hdir, hmem, rfl, rfl, rfl⟩

theorem ingStat_not_cmdWord (k : Nat) : Reg.ingStat 9 ∉ cmdWords k := by
  simp only [List.mem_cons, List.not_mem_nil, or_false]
  unfold Reg.ingSErr Reg.ingStat
  omega

theorem ingSCommitLo_not_cmdWord (k : Nat) : Reg.ingSCommitLo k ∉ cmdWords k := by
  simp only [List.mem_cons, List.not_mem_nil, or_false]
  unfold Reg.ingSErr Reg.ingStat Reg.ingSCommitLo
  omega

/-- COMMIT_FRAME leaves the staging version's own record of frames alone: it is over without a mark (R146). -/
theorem State.cmdOver_commit (a : Applying) (hop : c.op = 8) (h : t.scn.waiting = none) :
    ∃ b, (t.cmdOver k a c 0).scn = { t.scn with lowRaised := b } := by
  obtain ⟨b, hb⟩ := State.cmdOver_scn (k := k) a c 0 h
  exact ⟨b, by rw [hb, State.tagDone, if_neg (fun hne => hne.2 hop)]⟩

theorem State.FrontCmd.commit_stale (h : s.FrontCmd k a c) (hv : s.scn.staging = some v) (hop : c.op = 8) (hstale : a.frame < s.targetOf v) :
    ∃ u, exec (.commitFrame k) s = .next u ∧ u.dram = s.dram ∧ u.scn.staging = some v ∧ u.scn.pendingV = s.scn.pendingV ∧
      u.rd (Reg.ingStat 9) = (s.rd (Reg.ingStat 9) + 1) % 2 ^ 32 := by
  have hrun := (State.runCmd_commit (s := s) (k := k) (a := a) hop).trans (State.cmdCommit_stale hv hstale)
  obtain ⟨b, hscn⟩ := State.cmdOver_commit (t := s.add (Reg.ingStat 9) 1) (k := k) a hop h.waiting
  refine ⟨_, congrArg finish (h.done hop hrun), ?_⟩
  rw [settle_scn, hscn, settle_dram, State.cmdOver_dram, settle_rd, State.cmdOver_words _ k a c 0 _ (ingStat_not_cmdWord k), State.rd_add_same]
  exact ⟨rfl, hv, rfl, rfl⟩

theorem State.FrontCmd.commit_taken (h : s.FrontCmd k a c) (hv : s.scn.staging = some v) (hop : c.op = 8) (htarget : s.targetOf v ≤ a.frame) :
    ∃ u, exec (.commitFrame k) s = .next u ∧ u.dram = s.dram ∧ (u.sess k).doneFrame = some a.frame ∧
      u.rd (Reg.ingSCommitLo k) = a.frame % 2 ^ 32 ∧
      ((s.committed k a.frame).allDone (s.targetOf v) → u.scn.staging = none ∧ u.scn.pendingV = s.scn.pendingV ++ [v]) ∧
      (¬(s.committed k a.frame).allDone (s.targetOf v) → u.scn.staging = some v ∧ u.scn.pendingV = s.scn.pendingV) := by
  have hrun := (State.runCmd_commit (s := s) (k := k) (a := a) hop).trans (State.cmdCommit_taken hv htarget)
  obtain ⟨hdone, hopen⟩ := State.commit_scn (k := k) (f := a.frame) hv
  have hnone : (s.committed k a.frame).checkComplete.scn.waiting = none := by
    by_cases hall : (s.committed k a.frame).allDone (s.targetOf v)
    · rw [hdone hall]; exact h.waiting
    · rw [hopen hall]; exact h.waiting
  have hsess : ((s.committed k a.frame).checkComplete.sess k).doneFrame = some a.frame := by
    rw [State.sess_of_ing (State.checkComplete_ing _), State.committed_sess_same h.sess_lt]
  obtain ⟨b, hscn⟩ := State.cmdOver_commit (k := k) a hop hnone
  refine ⟨_, congrArg finish (h.done hop hrun), ?_⟩
  rw [settle_scn, hscn, settle_dram, State.cmdOver_dram, State.commit_dram, State.sess_of_ing (settle_ing _),
    (State.cmdOver_sess _ k a c 0).1, hsess, settle_rd, State.cmdOver_words _ k a c 0 _ (ingSCommitLo_not_cmdWord k), State.commit_word]
  refine ⟨rfl, rfl, rfl, fun hall => ?_, fun hall => ?_⟩
  · rw [hdone hall]
    exact ⟨rfl, rfl⟩
  · rw [hopen hall]
    exact ⟨hv, rfl⟩

end

/-- Settles O25, OP by OP: what the command leaves of the staging version stays over the end of the command but for the frames noted. -/
theorem planeCommands : Obligations.PlaneCommands := by
  unfold Obligations.PlaneCommands
  intro s k a c v hwait hdom happlying hhead hv
  have h : s.FrontCmd k a c := ⟨hwait, hdom, happlying, hhead, fun hnone => by rw [hv] at hnone; cases hnone⟩
  refine ⟨fun hplane hmask => ⟨fun hop hok => h.define hv hplane hmask hop hok, fun old hold => ?_⟩, fun hop => ?_⟩
  · exact ⟨fun hop hok => h.alter hv hplane hmask hold hop hok, fun hop hok => h.depth hv hplane hmask hold hop hok⟩
  · rcases Nat.lt_or_ge a.frame (s.targetOf v) with hstale | htarget
    · obtain ⟨u, hexec, hdram, hkept⟩ := h.commit_stale hv hop hstale
      exact ⟨u, hexec, hdram, fun _ => hkept, fun htarget => absurd hstale (Nat.not_lt.2 htarget)⟩
    · obtain ⟨u, hexec, hdram, hdone, hword, hall, hopen⟩ := h.commit_taken hv hop htarget
      rw [State.committed_allDone h.sess_lt] at hall hopen
      exact ⟨u, hexec, hdram, fun hstale => absurd hstale (Nat.not_lt.2 htarget), fun _ => ⟨hdone, hword, hall, hopen⟩⟩

end Sys2Proof.Machine

/-! SUPPORT. Commands on blocks: fragments, whole blocks without a write of DRAM, and O26 (R107, R115, R118, R139, R159). -/

namespace Sys2Proof.Machine

/-! ### Fills and aligned copies write no DRAM (R115) -/

/-- Block `b` of a range that starts and ends at block borders lies within it. -/
theorem blockRange_covers {u w b : Nat} (hu : u % 64 = 0) (hw : w % 64 = 0) (hpos : w ≠ 0) (hb : b ∈ blockRange u w) :
    u ≤ 64 * b ∧ 64 * b + 64 ≤ u + w := by
  obtain ⟨i, hi, rfl⟩ := List.mem_map.1 hb
  have := List.mem_range.1 hi
  omega

section
variable {s : State} {c : KstCmd} {p u v w h : Nat}

/-- A rectangle of whole blocks, each with an entry of its own, is set entry by entry. -/
theorem State.editRect_dram {whole : Nat → Nat → Option Entry} {f : Nat → Nat → Nat → Nat} {x : Bool × State} (hu : u % 64 = 0) (hw : w % 64 = 0)
    (hv : v % 64 = 0) (hh : h % 64 = 0) (hw0 : w ≠ 0) (hh0 : h ≠ 0) (hwhole : ∀ bx brow, whole bx brow ≠ none)
    (e : s.editRect p u v w h whole f = some x) : x.2.dram = s.dram := by
  unfold State.editRect at e
  refine foldl_some_keeps (P := fun y : Bool × State => y.2.dram = s.dram) _ _ _ (fun y hy => ?_) (fun o br hbr ho y hy => ?_) x e
  · rw [← Option.some.inj hy]
  · obtain ⟨r, hr, hbr⟩ := List.mem_flatMap.1 hbr
    obtain ⟨b, hb, rfl⟩ := List.mem_map.1 hbr
    obtain ⟨hulow, huhigh⟩ := blockRange_covers hu hw hw0 hb
    obtain ⟨hvlow, hvhigh⟩ := blockRange_covers hv hh hh0 hr
    split at hy
    · cases hy
    · dsimp only at hy
      rw [if_pos (decide_eq_true ⟨hulow, huhigh, hvlow, hvhigh⟩)] at hy
      obtain ⟨e, he⟩ := Option.ne_none_iff_exists'.1 (hwhole b r)
      rw [he] at hy
      obtain ⟨t, ht, rfl⟩ := Option.map_eq_some_iff.1 hy
      exact ((State.setEntry_kept ht).dram.resolve_left (by decide)).trans (ho _ rfl)

/-- Where applying a command is done, it has written no DRAM. -/
def Applied.keepsDram (s : State) : Applied → Prop
  | .done _ t => t.dram = s.dram
  | .wait => True
  | .hold => True

/-- The 16-bit operands at the byte offsets `l` lie on block borders. -/
def KstCmd.onBorders (c : KstCmd) (l : List Nat) : Prop := ∀ i ∈ l, beNat (slice c.body i 2) % 64 = 0

theorem State.cmdFill_dram (hcodes : s.cmdCodes c = 0) (hop : c.op = 5) (h : c.onBorders [0, 2, 4, 6]) : (s.cmdFill c).keepsDram s := by
  have hsize : ¬(beNat (slice c.body 4 2) = 0 ∨ beNat (slice c.body 6 2) = 0) := fun hzero => by
    rw [State.cmdCodes, if_neg (by omega), if_neg (by omega), if_pos hop, if_pos hzero] at hcodes
    cases hcodes
  obtain ⟨hw0, hh0⟩ := not_or.1 hsize
  unfold State.cmdFill
  dsimp only
  split
  · trivial
  · next hedit =>
    exact (State.scnGc_kept.dram.resolve_left (by decide)).trans (State.editRect_dram (h 0 (by decide)) (h 4 (by decide)) (h 2 (by decide))
      (h 6 (by decide)) hw0 hh0 (fun _ _ => Option.some_ne_none _) hedit)

theorem State.cmdCopy_dram (hcodes : s.cmdCodes c = 0) (hop : c.op = 4) (h : c.onBorders [4, 6, 8, 10, 12, 14]) : (s.cmdCopy c).keepsDram s := by
  have hsize : ¬(beNat (slice c.body 8 2) = 0 ∨ beNat (slice c.body 10 2) = 0) := fun hzero => by
    rw [State.cmdCodes, if_neg (by omega), if_pos hop, if_pos hzero] at hcodes
    cases hcodes
  obtain ⟨hw0, hh0⟩ := not_or.1 hsize
  have hsu := h 4 (by decide)
  have hsv := h 6 (by decide)
  have hdu := h 12 (by decide)
  have hdv := h 14 (by decide)
  have haligned : ((beNat (slice c.body 4 2) + 64 * 1024 - beNat (slice c.body 12 2) % 64) % 64 == 0 &&
      (beNat (slice c.body 6 2) + 64 * 1024 - beNat (slice c.body 14 2) % 64) % 64 == 0) = true := by
    rw [Bool.and_eq_true, beq_iff_eq, beq_iff_eq]
    omega
  unfold State.cmdCopy
  dsimp only
  split
  · trivial
  · next bad t hedit =>
    have hrect : t.dram = s.dram := State.editRect_dram hdu (h 8 (by decide)) hdv (h 10 (by decide)) hw0 hh0
      (fun _ _ => by rw [if_pos haligned]; exact Option.some_ne_none _) hedit
    have hmarks : ∀ l : List Nat, Kept 24 t (l.foldl State.markBad t) := fun l =>
      Kept.foldl (Kept.refl _ _) (fun _ _ k => Kept.step State.markBad_kept rfl k)
    exact ((Kept.step State.scnGc_kept rfl (hmarks _)).dram.resolve_left (by decide)).trans hrect

end

/-! ### Fragments (R139) -/

/-- What the open block of a session holds for a fragment: nothing for a first one, its bytes so far for one that follows. -/
def Session.heldFor (x : Session) (c : KstCmd) (held : List Byte) : Prop :=
  (x.opened = none ∧ beNat (slice c.body 8 4) = 0 ∧ held = []) ∨
  ∃ o, x.opened = some o ∧ o.plane = c.plane ∧ o.bx = beNat (slice c.body 0 1) ∧ o.brow = beNat (slice c.body 1 1) ∧
    o.total = beNat (slice c.body 4 4) ∧ o.data.length = beNat (slice c.body 8 4) ∧ held = o.data

/-- The open block after a fragment. -/
def KstCmd.lengthened (c : KstCmd) (held : List Byte) : OpenBlock :=
  { plane := c.plane, bx := beNat (slice c.body 0 1), brow := beNat (slice c.body 1 1), total := beNat (slice c.body 4 4),
    data := held ++ slice c.body 12 (beNat (slice c.body 2 2)) }

/-- A fragment of a block that is not whole with it lengthens the open block, and that is all. -/
theorem State.cmdWriteBlock_fragment {s : State} {k f : Nat} {c : KstCmd} {held : List Byte} (hheld : (s.sess k).heldFor c held)
    (hpart : beNat (slice c.body 8 4) + beNat (slice c.body 2 2) < beNat (slice c.body 4 4)) :
    s.cmdWriteBlock k f c = .done 0 ((s.setSess k { s.sess k with opened := some (c.lengthened held) }).tagStaging f) := by
  have hlong : ¬ beNat (slice c.body 4 4) < beNat (slice c.body 8 4) + beNat (slice c.body 2 2) := by omega
  have hwhole : ¬ beNat (slice c.body 8 4) + beNat (slice c.body 2 2) = beNat (slice c.body 4 4) := by omega
  unfold State.cmdWriteBlock
  rcases hheld with ⟨hopened, hfirst, rfl⟩ | ⟨o, hopened, hplane, hbx, hbrow, htotal, hlength, rfl⟩
  · simp only [hopened, hfirst, Nat.zero_add] at hlong hwhole ⊢
    simp [hlong, hwhole, KstCmd.lengthened]
  · simp [hopened, hplane, hbx, hbrow, htotal, hlength, hlong, hwhole, KstCmd.lengthened]

/-! ### The commands on blocks -/

/-- What applying a command on blocks comes to, by its OP. -/
def State.blockApplied (s : State) (k : Nat) (a : Applying) (c : KstCmd) (d : PlaneDesc) : Applied :=
  if c.op = 3 then s.cmdWriteBlock k a.frame c else if c.op = 4 then s.cmdCopy c else if c.op = 5 then s.cmdFill c else s.cmdGlyph c d

/-- The row of a command on blocks, by its OP. -/
def KstCmd.blockRow (c : KstCmd) (k : Nat) : Instr :=
  if c.op = 3 then .writeBlock k else if c.op = 4 then .copyRegion k else if c.op = 5 then .fillRegion k else .glyphRun k

section
variable {s : State} {k : Nat} {a : Applying} {c : KstCmd} {d : PlaneDesc}

theorem exec_blockRow (hlow : 3 ≤ c.op) (hhigh : c.op ≤ 6) : exec (c.blockRow k) s = .next (settle (s.updateCommand k c.op)) := by
  have hops : c.op = 3 ∨ c.op = 4 ∨ c.op = 5 ∨ c.op = 6 := by omega
  unfold KstCmd.blockRow
  rcases hops with hop | hop | hop | hop <;> rw [hop] <;> rfl

/-- No command on blocks touches the change that waits. -/
theorem State.blockApplied_face (s : State) (k : Nat) (a : Applying) (c : KstCmd) (d : PlaneDesc) : (s.blockApplied k a c d).keepsFace s := by
  unfold State.blockApplied
  split
  · exact State.cmdWriteBlock_face s k a.frame c
  · split
    · exact State.cmdCopy_face s c
    · split
      · exact State.cmdFill_face s c
      · exact State.cmdGlyph_face s c d

theorem State.blockApplied_dram (hcodes : s.cmdCodes c = 0)
    (h : (c.op = 5 ∧ c.onBorders [0, 2, 4, 6]) ∨ (c.op = 4 ∧ c.onBorders [4, 6, 8, 10, 12, 14])) : (s.blockApplied k a c d).keepsDram s := by
  unfold State.blockApplied
  rcases h with ⟨hop, hborders⟩ | ⟨hop, hborders⟩
  · rw [if_neg (by omega), if_neg (by omega), if_pos hop]
    exact State.cmdFill_dram hcodes hop hborders
  · rw [if_neg (by omega), if_pos hop]
    exact State.cmdCopy_dram hcodes hop hborders

/-- A command on blocks that edits part of one is held while no engine for edits is ACTIVE (R159). -/
theorem State.PlaneChecked.held (h : s.PlaneChecked k c d) (hlow : 3 ≤ c.op) (hhigh : c.op ≤ 6) (hpartial : c.partial_ d = true)
    (hengine : s.editEngine = false) : s.runCmd k a c = .hold := by
  rw [h.runCmd (by omega) (by omega), hpartial, hengine]
  rfl

theorem State.PlaneChecked.block (h : s.PlaneChecked k c d) (hlow : 3 ≤ c.op) (hhigh : c.op ≤ 6)
    (hengine : c.partial_ d = true → s.editEngine = true) : s.runCmd k a c = s.blockApplied k a c d := by
  have hrun : ¬(c.partial_ d && !s.editEngine) = true := by
    rw [Bool.and_eq_true]
    exact fun hheld => by rw [hengine hheld.1] at hheld; exact Bool.false_ne_true hheld.2
  rw [h.runCmd (by omega) (by omega), if_neg hrun, State.planeApplied, if_neg (by omega), State.blockApplied]
  exact ite_congr rfl (fun _ => rfl) (fun h3 => ite_congr rfl (fun _ => rfl) (fun h4 => ite_congr rfl (fun _ => rfl) (fun h5 => if_pos (by omega))))

/-- Where a command on blocks is done, its blocks, units and bytes stand as it leaves them, and an error is counted and noted. -/
theorem State.blockApplied_done {t : State} {code : Nat} (h : s.FrontCmd k a c) (hdone : s.blockApplied k a c d = .done code t) :
    (t.cmdOver k a c code).scn.pages = t.scn.pages ∧ (t.cmdOver k a c code).scn.units = t.scn.units ∧ (t.cmdOver k a c code).dram = t.dram ∧
      (t.cmdOver k a c code).scn.waiting = none := by
  have hnone : t.scn.waiting = none := ((s.blockApplied_face k a c d).waiting hdone).trans h.waiting
  obtain ⟨x, b, hscn⟩ := State.cmdOver_scene (k := k) a c code hnone
  rw [hscn]
  exact ⟨rfl, rfl, State.cmdOver_dram _ _ _ _ _, hnone⟩

theorem State.cmdEnd_dram {r : Applied} (h : r.keepsDram s) : (s.cmdEnd k a c r).dram = s.dram := by
  cases r with
  | done code t => exact (t.cmdOver_dram k a c code).trans h
  | wait => exact (s.waitSpace_kept_parts k).2
  | hold => rfl

/-- The session's open block after a fragment, unless bytes left behind the last command close it (R138, R139). -/
theorem State.FrontCmd.fragment (h : s.FrontCmd k a c) (hop : c.op = 3) {held : List Byte} (hheld : (s.sess k).heldFor c held)
    (hpart : beNat (slice c.body 8 4) + beNat (slice c.body 2 2) < beNat (slice c.body 4 4)) :
    ((s.cmdEnd k a c (s.blockApplied k a c d)).sess k).opened = some (c.lengthened held) ∨
      ((s.cmdEnd k a c (s.blockApplied k a c d)).sess k).state = 1 := by
  have hsess : (((s.setSess k { s.sess k with opened := some (c.lengthened held) }).tagStaging a.frame).sess k).opened = some (c.lengthened held) := by
    rw [State.sess_of_ing (State.tagStaging_kept.ing.resolve_left (by decide)), State.sess_setSess_same _ h.sess_lt]
  rw [State.blockApplied, if_pos hop, State.cmdWriteBlock_fragment hheld hpart, State.cmdEnd]
  exact (State.cmdOver_sess _ k a c 0).2.imp_left (fun hopened => hopened.trans hsess)

end

/-- Settles O26: a command on blocks is held, waits, or is done, and its end touches neither blocks nor bytes. -/
theorem blockCommands : Obligations.BlockCommands := by
  unfold Obligations.BlockCommands
  intro s k a c d hwait hdom happlying hhead hlow hhigh hplane hmask hd hcodes hsource cmd what g
  have hstaging : s.scn.staging ≠ none := fun hnone => by rw [State.stagingPlane, hnone] at hd; cases hd
  have h : s.FrontCmd k a c := ⟨hwait, hdom, happlying, hhead, hstaging⟩
  have hchecked : s.PlaneChecked k c d := ⟨hplane, hmask, hd, hsource, hcodes⟩
  have hexec : exec cmd s = .next (settle (s.cmdEnd k a c (s.runCmd k a c))) := by
    rw [← h.updateCommand]
    exact exec_blockRow hlow hhigh
  refine ⟨fun hpartial hengine => ⟨_, hexec, ?_⟩, fun hengine => ⟨_, hexec, ?_⟩⟩
  · rw [hchecked.held hlow hhigh hpartial hengine, settle_scn, settle_ing, settle_dram, settle_regs]
    exact ⟨rfl, rfl, rfl, rfl⟩
  · rw [hchecked.block hlow hhigh hengine, settle_scn, settle_ing, settle_dram, settle_flag, settle_fld,
      settle_flag, State.sess_of_ing (settle_ing _)]
    refine ⟨fun code w hdone => ?_, fun hwaits => ?_, fun hop hpart => ⟨fun hfirst hopened => ?_, fun o hopened hoplane hbx hbrow htotal hlength => ?_⟩,
      fun hop hu hv hw hh => ?_, fun hop hsu hsv hw hh hdu hdv => ?_⟩
    · have happlied : s.blockApplied k a c d = .done code w := hdone
      obtain ⟨hpages, hunits, hdram, hnone⟩ := State.blockApplied_done h happlied
      rw [happlied]
      exact ⟨hpages, hunits, hdram, hnone, fun hcode => w.cmdOver_error k a c hcode⟩
    · rw [show s.blockApplied k a c d = .wait from hwaits]
      exact ⟨rfl, rfl, rfl, rfl, rfl, rfl, s.waitSpace_event k, State.wordsBut_settle (s.waitSpace_words k)⟩
    · exact h.fragment hop (.inl ⟨hopened, hfirst, rfl⟩) hpart
    · have hlengthened : c.lengthened o.data = { o with data := o.data ++ slice c.body 12 (g 2) } := by
        rw [KstCmd.lengthened, ← hoplane, ← hbx, ← hbrow, ← htotal]
      rw [← hlengthened]
      exact h.fragment hop (.inr ⟨o, hopened, hoplane, hbx, hbrow, htotal, hlength, rfl⟩) hpart
    · have hborders : c.onBorders [0, 2, 4, 6] := by simpa [KstCmd.onBorders] using ⟨hu, hv, hw, hh⟩
      exact State.cmdEnd_dram (State.blockApplied_dram hcodes (.inl ⟨hop, hborders⟩))
    · have hborders : c.onBorders [4, 6, 8, 10, 12, 14] := by simpa [KstCmd.onBorders] using ⟨hsu, hsv, hw, hh, hdu, hdv⟩
      exact State.cmdEnd_dram (State.blockApplied_dram hcodes (.inr ⟨hop, hborders⟩))

end Sys2Proof.Machine

/-! SUPPORT. Bytes of DRAM: what a write leaves there and what it leaves alone, and what a read rests on (R406, R522). -/

namespace Sys2Proof.Machine

/-! ### What a read rests on -/

/-- Which channels are usable rests on the capacity fitted and the units' states alone. -/
theorem State.dramOk_congr {s t : State} (hdimms : t.dimms = s.dimms) (hunit : ∀ u, t.unitState u = s.unitState u) (a n : Nat) :
    t.dramOk a n = s.dramOk a n := by
  have hcap : t.chanCap = s.chanCap := funext fun c => by rw [State.chanCap, State.chanCap, hdimms]
  have husable : t.chanUsable = s.chanUsable := funext fun c => by rw [State.chanUsable, State.chanUsable, hcap, hunit]
  rw [State.dramOk, State.dramOk, hcap, husable]

theorem State.dramRead_congr {s t : State} (hdimms : t.dimms = s.dimms) (hunit : ∀ u, t.unitState u = s.unitState u)
    (hdram : t.dram = s.dram) (hpoison : t.poison = s.poison) (a n : Nat) : t.dramRead a n = s.dramRead a n := by
  have hline : t.linePoisoned = s.linePoisoned := funext fun l => by rw [State.linePoisoned, State.linePoisoned, hpoison]
  have hbyte : t.byte = s.byte := funext fun x => by rw [State.byte, State.byte, hdram]
  rw [State.dramRead, State.dramRead, State.dramOk_congr hdimms hunit, hline, hbyte]

theorem State.readPrefix_congr {s t : State} (h : ∀ a n, t.dramRead a n = s.dramRead a n) (a n : Nat) :
    t.readPrefix a n = s.readPrefix a n := by
  induction n generalizing a with
  | zero => rfl
  | succ n ih => simp only [State.readPrefix, h, ih]

/-- A word outside the PWR page and the units' words changes no unit's state. -/
theorem State.unitState_wr (s : State) {a : Nat} (v : Nat) (h0 : Reg.pwrDomStat0 ≠ a) (h1 : Reg.pwrDomStat1 ≠ a)
    (hunits : ∀ u, Reg.svcUnit u ≠ a) (u : Nat) : (s.wr a v).unitState u = s.unitState u :=
  have hwords : WordsKept (fun x => x ≠ a) s (s.wr a v) := (WordsKept.refl _ s).wr (fun h => h rfl)
  hwords.unitState h0 h1 (hunits u)

/-- So a write of a word of the ING or the MBC pages leaves what a read of memory returns. -/
theorem State.dramRead_wr (s : State) {a : Nat} (v : Nat) (hlo : 0x30000 ≤ a) (hhi : a < 0x48000) (x n : Nat) :
    (s.wr a v).dramRead x n = s.dramRead x n := by
  refine State.dramRead_congr (s.wr_dimms a v) (s.unitState_wr v ?_ ?_ fun u => ?_) (s.wr_dram a v) (s.wr_poison a v) x n
  · unfold Reg.pwrDomStat0; omega
  · unfold Reg.pwrDomStat1; omega
  · unfold Reg.svcUnit; omega

/-! ### Writes -/

/-- The state with memory replaced, and its poison. -/
def State.withDram (s : State) (d : Sparse Byte) (p : List Nat) : State := { s with dram := d, poison := p }

theorem State.putByte_eq (s : State) (a0 n a : Nat) (b : Byte) : ∃ d, s.putByte a0 n a b = { s with dram := d } := by
  unfold State.putByte
  split <;> exact ⟨_, rfl⟩

theorem State.putBytes_eq (s : State) (a0 n a : Nat) (bs : List Byte) : ∃ d, s.putBytes a0 n a bs = { s with dram := d } := by
  induction bs generalizing s a with
  | nil => exact ⟨_, rfl⟩
  | cons b bs ih =>
    obtain ⟨d, hd⟩ := s.putByte_eq a0 n a b
    obtain ⟨e, he⟩ := ih (s.putByte a0 n a b) (a + 1)
    exact ⟨e, by rw [State.putBytes, he, hd]⟩

/-- A write changes bytes, and takes poison away (R406). -/
theorem State.dramWrite_eq (s : State) (a : Nat) (bs : List Byte) : ∃ d p, s.dramWrite a bs = s.withDram d p ∧ ∀ l ∈ p, l ∈ s.poison := by
  obtain ⟨d, hd⟩ := s.putBytes_eq a bs.length a bs
  refine ⟨d, (s.dramWrite a bs).poison, by rw [State.dramWrite, hd]; rfl, fun l hl => ?_⟩
  have hmem := (List.mem_filter.1 hl).1
  rwa [hd] at hmem

theorem State.writeChunks_eq (s : State) (cs : List (Nat × Nat)) (bs : List Byte) :
    ∃ d p, s.writeChunks cs bs = s.withDram d p ∧ ∀ l ∈ p, l ∈ s.poison := by
  induction cs generalizing s bs with
  | nil => exact ⟨s.dram, s.poison, rfl, fun _ h => h⟩
  | cons c cs ih =>
    obtain ⟨d, p, hs, hp⟩ := s.dramWrite_eq c.1 (bs.take c.2)
    obtain ⟨e, q, ht, hq⟩ := ih (s.dramWrite c.1 (bs.take c.2)) (bs.drop c.2)
    rw [hs] at ht hq
    exact ⟨e, q, by rw [State.writeChunks, hs, ht]; rfl, fun l hl => hp l (hq l hl)⟩

theorem State.putByte_byte_ne (s : State) (a0 n : Nat) {a x : Nat} (b : Byte) (h : x ≠ a) : (s.putByte a0 n a b).byte x = s.byte x := by
  unfold State.putByte
  split
  · exact Sparse.get_set_ne _ _ h
  · rfl

theorem State.putByte_byte_same {s : State} {a : Nat} (a0 n : Nat) (b : Byte) (hok : s.dramOk a 1 = true)
    (hline : s.linePoisoned (a / 64) = false) : (s.putByte a0 n a b).byte a = b := by
  rw [State.putByte, if_pos (by rw [hok, hline]; rfl)]
  exact Sparse.get_set_same _ _ _

/-- Bytes outside those written stay. -/
theorem State.putBytes_byte_out (s : State) (a0 n : Nat) {a x : Nat} (bs : List Byte) (h : x < a ∨ a + bs.length ≤ x) :
    (s.putBytes a0 n a bs).byte x = s.byte x := by
  induction bs generalizing s a with
  | nil => rfl
  | cons b bs ih =>
    rw [List.length_cons] at h
    rw [State.putBytes, ih _ (by omega), State.putByte_byte_ne _ _ _ _ (by omega)]

/-- A byte written stands in memory where its address lies in the DRAM and its line is not poisoned (R406, R522). -/
theorem State.putBytes_byte_in {s : State} {x : Nat} (a0 n : Nat) {a : Nat} (bs : List Byte) (hok : s.dramOk x 1 = true)
    (hline : s.linePoisoned (x / 64) = false) (i : Nat) (hx : x = a + i) (hi : i < bs.length) :
    (s.putBytes a0 n a bs).byte x = bs[i] := by
  induction bs generalizing s a i with
  | nil => exact absurd hi (Nat.not_lt_zero i)
  | cons b bs ih =>
    obtain ⟨d, hd⟩ := s.putByte_eq a0 n a b
    cases i with
    | zero =>
      subst hx
      rw [State.putBytes, State.putBytes_byte_out _ _ _ _ (by omega)]
      exact State.putByte_byte_same a0 n b hok hline
    | succ i =>
      rw [State.putBytes, hd]
      exact ih (s := { s with dram := d }) hok hline i (by omega) (Nat.lt_of_succ_lt_succ hi)

theorem State.dramWrite_byte_out (s : State) {a x : Nat} (bs : List Byte) (h : x < a ∨ a + bs.length ≤ x) :
    (s.dramWrite a bs).byte x = s.byte x := s.putBytes_byte_out a bs.length bs h

theorem State.dramWrite_byte_in {s : State} {a x : Nat} (bs : List Byte) (hok : s.dramOk x 1 = true)
    (hline : s.linePoisoned (x / 64) = false) (i : Nat) (hx : x = a + i) (hi : i < bs.length) : (s.dramWrite a bs).byte x = bs[i] :=
  State.putBytes_byte_in a bs.length bs hok hline i hx hi

/-- Lines that are not poisoned are not poisoned after a write. -/
theorem linePoisoned_of_subset {s t : State} {l : Nat} (hsub : ∀ l ∈ t.poison, l ∈ s.poison) (h : s.linePoisoned l = false) :
    t.linePoisoned l = false := by
  rw [State.linePoisoned, List.contains_eq_mem, decide_eq_false_iff_not] at h ⊢
  exact fun hl => h (hsub l hl)

end Sys2Proof.Machine

/-! SUPPORT. The general MBC engines' pages: accepted writes, the descriptor an idle engine takes, and O29 (R160, R166, R167). -/

namespace Sys2Proof.Machine

/-! ### Accepted writes to an MBC page (R166) -/

theorem pageOf_mbc {n a : Nat} (hn : n < 8) (h : a / 0x1000 = 0x40 + n) :
    pageOf a = some (unitPage (page 4 n 15 0xF rowsMbc) n (72 + n)) := by
  have hcode : a / 0x10000 = 4 := by omega
  have hindex : a / 0x1000 % 16 = n := by omega
  have hpages : groupPages 4 = (List.range 8).map (fun n => unitPage (page 4 n 15 0xF rowsMbc) n (72 + n)) := rfl
  rw [pageOf, if_pos (by omega), hcode, hindex, pageDef, if_neg (by omega), if_neg (by decide), hpages, List.getElem?_map,
    List.getElem?_range hn]
  rfl

theorem rowsMbc_plain : ∀ r ∈ rowsMbc, ∀ f ∈ r.fields, f.kind ≠ .rws := by decide

/-- An accepted write of a word of engine `n`'s page stores the word and starts what `mbcEffect` says. -/
theorem State.writeWord_mbc {s : State} {who : Requester} {n a off data i : Nat} {r : RegRow} (hn : n < 8) (ha : a = 0x40000 + 0x1000 * n + off)
    (hoff : 0x40 ≤ off ∧ off < 0x1000) (hacc : s.accepts who a data) (hrow : rowFor rowsMbc off = some (r, i)) :
    r.laid = true ∧ Nat.land data r.reserved = 0 ∧
    s.writeWord who a 4 data = (s.wr a (r.stored (stickyMask a) (s.rd a) data)).mbcEffect n off (s.rd a) data := by
  obtain ⟨p, hp, hcode⟩ := hacc
  have hmod : a % 0x400000 = a := Nat.mod_eq_of_lt (by omega)
  have hoffset : a % 0x1000 = off := by omega
  have hpage := State.reached_pageOf hp
  rw [hmod, pageOf_mbc hn (by omega)] at hpage
  obtain rfl := Option.some.inj hpage
  have hrow' : rowFor rowsMbc (a % 0x1000) = some (r, i) := by rw [hoffset]; exact hrow
  refine ⟨State.reached_row_laid hp hrow, State.accepted_reserved (a := a) (by rwa [hmod] at hcode) (by omega) hrow', ?_⟩
  rw [State.writeWord_row hp hcode (by rw [hmod, hoffset]; exact hoff.1) (by rw [hmod]; exact hrow') (rowsMbc_plain r (rowFor_mem hrow)), hmod, hoffset]
  exact State.certCheck_same _ _ (State.mbcEffect_kept.secu.resolve_left (by decide))

/-- RING_TAIL is stored as it is written, and a write of it starts nothing (R160). -/
theorem State.writeWord_mbcRingTail {s : State} {who : Requester} {n : Nat} {data : Word} (hn : n < 8)
    (hacc : s.accepts who (Reg.mbcRingTail n) data.toNat) :
    s.writeWord who (Reg.mbcRingTail n) 4 data.toNat = s.wr (Reg.mbcRingTail n) data.toNat := by
  obtain ⟨hlaid, hres, hwrite⟩ := State.writeWord_mbc (off := 0x50) (r := row1 "MBC_RING_TAIL" 0x50 0 [fAny 11 0 .rw]) (i := 0) hn
    (by unfold Reg.mbcRingTail; omega) (by decide) hacc rfl
  rw [hwrite, RegRow.stored_rw hlaid (by decide) hres data.isLt]
  rfl

/-! ### The descriptor at the head (R160) -/

/-- The job of a descriptor with words `w`, as an engine takes it. -/
def State.jobOf (s : State) (w : List Nat) : MbcJob :=
  let input := if s.descCode w = 0 then s.readPrefix (descSrc w) (w.getD 6 0) else []
  { words := w, input := input, chunks := [(descDst w, w.getD 7 0)], written := 0, poisoned := decide (input.length < w.getD 6 0) }

theorem State.jobOf_shape (s : State) (w : List Nat) : (s.jobOf w).words = w ∧ (s.jobOf w).written = 0 ∧
    (s.jobOf w).chunks = [(descDst w, w.getD 7 0)] ∧ (s.descCode w = 0 → (s.jobOf w).input = s.readPrefix (descSrc w) (w.getD 6 0)) :=
  ⟨rfl, rfl, rfl, fun hcode => if_pos hcode⟩

/-- Engine `n` has taken a job. -/
def State.jobTaken (s : State) (n : Nat) (j : MbcJob) : State :=
  (((s.setEng n { state := 1, job := some j, fetched := true }).setFld (Reg.mbcJobStat n) 2 0 1).wr (Reg.mbcInConsumed n) 0).wr
    (Reg.mbcOutProduced n) 0

section
variable {s : State} {n : Nat}

theorem State.mbcTake_ready {ops : Nat → Bool} (hready : s.mbcReady n = true) (hops : ops (bitsOf ((s.mbcDesc n).getD 0 0) 3 0) = true) :
    s.mbcTake n ops = s.jobTaken n (s.jobOf (s.mbcDesc n)) :=
  if_pos (by rw [hready, hops]; rfl)

/-- Each OP has one row that takes it; the reserved OPs are taken by the row of DECODE. -/
theorem exec_mbcJob (hready : s.mbcReady n = true) :
    exec (if bitsOf ((s.mbcDesc n).getD 0 0) 3 0 = 1 then .mbcEncodeJob n
      else if bitsOf ((s.mbcDesc n).getD 0 0) 3 0 = 2 then .mbcVerifyJob n else .mbcDecodeJob n) s =
      .next (settle (s.jobTaken n (s.jobOf (s.mbcDesc n)))) := by
  by_cases hencode : bitsOf ((s.mbcDesc n).getD 0 0) 3 0 = 1
  · rw [if_pos hencode]
    exact congrArg finish (State.mbcTake_ready hready (by rw [hencode]; rfl))
  rw [if_neg hencode]
  by_cases hverify : bitsOf ((s.mbcDesc n).getD 0 0) 3 0 = 2
  · rw [if_pos hverify]
    exact congrArg finish (State.mbcTake_ready hready (by rw [hverify]; rfl))
  · rw [if_neg hverify]
    refine congrArg finish (State.mbcTake_ready hready ?_)
    rw [Bool.or_eq_true, beq_iff_eq, decide_eq_true_eq]
    omega

theorem State.jobTaken_mbc (s : State) (n : Nat) (j : MbcJob) :
    (s.jobTaken n j).mbc = s.mbc.set n { state := 1, job := some j, fetched := true } := rfl

theorem State.jobTaken_dram (s : State) (n : Nat) (j : MbcJob) : (s.jobTaken n j).dram = s.dram := rfl

theorem State.jobTaken_words (s : State) (n : Nat) (j : MbcJob) :
    s.wordsBut (s.jobTaken n j) [Reg.mbcJobStat n, Reg.mbcInConsumed n, Reg.mbcOutProduced n] :=
  State.wordsBut_wr (State.wordsBut_wr (State.wordsBut_setFld (fun _ _ => rfl) (by simp)) (by simp)) (by simp)

/-- The engine is shown RUNNING, and nothing as consumed or produced. -/
theorem State.jobTaken_shown (s : State) (n : Nat) (j : MbcJob) : (s.jobTaken n j).fld (Reg.mbcJobStat n) 2 0 = 1 ∧
    (s.jobTaken n j).rd (Reg.mbcInConsumed n) = 0 ∧ (s.jobTaken n j).rd (Reg.mbcOutProduced n) = 0 := by
  have hin : Reg.mbcInConsumed n ≠ Reg.mbcOutProduced n := by unfold Reg.mbcInConsumed Reg.mbcOutProduced; omega
  have hstat : Reg.mbcJobStat n ≠ Reg.mbcInConsumed n ∧ Reg.mbcJobStat n ≠ Reg.mbcOutProduced n := by
    unfold Reg.mbcJobStat Reg.mbcInConsumed Reg.mbcOutProduced; omega
  refine ⟨?_, ?_, State.rd_wr_same _ _ _⟩
  · rw [State.jobTaken, State.fld, State.rd_wr_ne _ _ hstat.2, State.rd_wr_ne _ _ hstat.1]
    exact State.fld_setFld_same _ _ 2 0 1 (by decide) (by decide)
  · rw [State.jobTaken, State.rd_wr_ne _ _ hin]
    exact State.rd_wr_same _ _ _

end

/-- Settles O29: a tail write is one `wr`, and a ready engine takes the job of its head descriptor. -/
theorem mbcJobsStart : Obligations.MbcJobsStart := by
  unfold Obligations.MbcJobsStart
  intro s n hn
  refine ⟨fun who data hacc => ?_, fun hon hidle hwork hactive => ?_⟩
  · refine ⟨_, congrArg finish (State.writeWord_mbcRingTail hn hacc), ?_⟩
    rw [settle_rd, settle_mbc, settle_dram, State.rd_wr_same]
    exact ⟨Nat.mod_eq_of_lt data.isLt, rfl, rfl,
      State.wordsBut_settle (State.wordsBut_wr (State.wordsBut_refl _ _) (List.mem_singleton_self _))⟩
  · have hready : s.mbcReady n = true := by
      simp only [State.mbcReady, hon, hidle, hactive, decide_eq_true hn, bne_iff_ne.2 hwork, beq_self_eq_true, Bool.and_self]
    obtain ⟨hwords, hwritten, hchunks, hinput⟩ := s.jobOf_shape (s.mbcDesc n)
    obtain ⟨hstat, hin, hout⟩ := s.jobTaken_shown n (s.jobOf (s.mbcDesc n))
    refine ⟨_, s.jobOf (s.mbcDesc n), exec_mbcJob hready, ?_⟩
    rw [settle_mbc, settle_fld, settle_rd, settle_rd, settle_dram, State.jobTaken_mbc, State.jobTaken_dram]
    exact ⟨rfl, hwords, hwritten, hchunks, hinput, hstat, hin, hout, rfl, State.wordsBut_settle (s.jobTaken_words n _)⟩

end Sys2Proof.Machine

/-! SUPPORT. The end of a job, once, and what it leaves of the engine's words and of the descriptor; O30 and O31 (R157, R160, R161, R167). -/

namespace Sys2Proof.Machine

/-! ### The end of a job (R160) -/

/-- STATUS and the lengths in the descriptor at `a`. -/
def State.descFilled (s : State) (a code consumed produced : Nat) : State :=
  (s.dramWrite (a + 6) (leBytes 2 code)).dramWrite (a + 24) (leBytes 4 consumed ++ leBytes 4 produced)

/-- The head has moved on, and the registers hold the code and the lengths. -/
def State.jobShown (s : State) (n code consumed produced : Nat) : State :=
  (((s.wr (Reg.mbcRingHead n) ((s.rd (Reg.mbcRingHead n) + 1) % max (s.fld (Reg.mbcRingSize n) 12 0) 1)).wr
    (Reg.mbcJobStat n) (code % 65536 * 65536)).wr (Reg.mbcInConsumed n) consumed).wr (Reg.mbcOutProduced n) produced

/-- The counters of the page (R166). -/
def State.jobCounted (s : State) (n code consumed produced : Nat) : State :=
  let s := ((s.add (Reg.mbcStat n 0) 1).add (Reg.mbcStat n 1) consumed).add (Reg.mbcStat n 2) produced
  if code = 0x408 then s.add (Reg.mbcStat n 3) 1 else if 0x401 ≤ code ∧ code ≤ 0x407 then s.add (Reg.mbcStat n 4) 1 else s

/-- An event raised where a condition holds. -/
def State.raiseIf (s : State) (c : Prop) [Decidable c] (b i : Nat) : State := if c then s.raise b i else s

/-- The events of the descriptor: its INT, and an error where the code is one. -/
def State.codeEvents (s : State) (n : Nat) (j : MbcJob) (code : Nat) : State :=
  (s.raiseIf (bitOf (j.words.getD 0 0) 30) (0x40000 + 0x1000 * n) 0).raiseIf (code ≠ 0) (0x40000 + 0x1000 * n) 2

/-- The event of a ring that has run empty. -/
def State.emptyEvent (s : State) (n : Nat) : State :=
  s.raiseIf (s.rd (Reg.mbcRingHead n) = s.rd (Reg.mbcRingTail n)) (0x40000 + 0x1000 * n) 3

section
variable {s : State} {n code consumed produced : Nat} {j : MbcJob}

theorem State.descFilled_eq (s : State) (a code consumed produced : Nat) : ∃ d p, s.descFilled a code consumed produced = s.withDram d p := by
  obtain ⟨d, p, hfirst, -⟩ := s.dramWrite_eq (a + 6) (leBytes 2 code)
  obtain ⟨e, q, hsecond, -⟩ := (s.dramWrite (a + 6) (leBytes 2 code)).dramWrite_eq (a + 24) (leBytes 4 consumed ++ leBytes 4 produced)
  exact ⟨e, q, by rw [State.descFilled, hsecond, hfirst]; rfl⟩

/-- A job's end, part by part. -/
theorem State.mbcEnd_eq (s : State) (n : Nat) (j : MbcJob) (code consumed produced : Nat) : ∃ d p,
    s.descFilled (s.mbcHeadAddr n) code consumed produced = s.withDram d p ∧
    s.mbcEnd n j code consumed produced =
      (((((s.withDram d p).setEng n MbcEng.reset).jobShown n code consumed produced).jobCounted n code consumed produced).codeEvents n j code).emptyEvent n := by
  obtain ⟨d, p, h⟩ := s.descFilled_eq (s.mbcHeadAddr n) code consumed produced
  exact ⟨d, p, h, by rw [← h, State.mbcEnd, State.codeEvents, State.raiseIf, State.raiseIf, ite_not]; rfl⟩

theorem State.jobShown_wordsBut (s : State) (n code consumed produced : Nat) : s.wordsBut (s.jobShown n code consumed produced)
    [Reg.mbcRingHead n, Reg.mbcJobStat n, Reg.mbcInConsumed n, Reg.mbcOutProduced n] :=
  State.wordsBut_wr (State.wordsBut_wr (State.wordsBut_wr (State.wordsBut_wr (fun _ _ => rfl) (by simp)) (by simp)) (by simp)) (by simp)

/-- The head of a ring of at most 8,191 entries fits its word. -/
theorem State.ringHead_lt (s : State) (n h : Nat) : h % max (s.fld (Reg.mbcRingSize n) 12 0) 1 < 2 ^ 32 := by
  have hsize : s.fld (Reg.mbcRingSize n) 12 0 < 2 ^ 13 := Nat.mod_lt _ (by decide)
  have hmod : h % max (s.fld (Reg.mbcRingSize n) 12 0) 1 < max (s.fld (Reg.mbcRingSize n) 12 0) 1 := Nat.mod_lt _ (by omega)
  omega

theorem State.jobShown_words (s : State) (n code consumed produced : Nat) :
    (s.jobShown n code consumed produced).rd (Reg.mbcRingHead n) = (s.rd (Reg.mbcRingHead n) + 1) % max (s.fld (Reg.mbcRingSize n) 12 0) 1 ∧
    (s.jobShown n code consumed produced).rd (Reg.mbcJobStat n) = code % 65536 * 65536 ∧
    (s.jobShown n code consumed produced).rd (Reg.mbcInConsumed n) = consumed % 2 ^ 32 ∧
    (s.jobShown n code consumed produced).rd (Reg.mbcOutProduced n) = produced % 2 ^ 32 := by
  have hne : Reg.mbcRingHead n < Reg.mbcJobStat n ∧ Reg.mbcJobStat n < Reg.mbcInConsumed n ∧ Reg.mbcInConsumed n < Reg.mbcOutProduced n := by
    unfold Reg.mbcRingHead Reg.mbcJobStat Reg.mbcInConsumed Reg.mbcOutProduced; omega
  obtain ⟨hhead, hstat, hin⟩ := hne
  unfold State.jobShown
  refine ⟨?_, ?_, ?_, State.rd_wr_same _ _ _⟩
  · rw [State.rd_wr_ne _ _ (by omega), State.rd_wr_ne _ _ (by omega), State.rd_wr_ne _ _ (by omega), State.rd_wr_same,
      Nat.mod_eq_of_lt (s.ringHead_lt n _)]
  · rw [State.rd_wr_ne _ _ (by omega), State.rd_wr_ne _ _ (by omega), State.rd_wr_same, Nat.mod_eq_of_lt (by omega)]
  · rw [State.rd_wr_ne _ _ (by omega), State.rd_wr_same]

theorem State.jobCounted_wordsBut (s : State) (n code consumed produced : Nat) : s.wordsBut (s.jobCounted n code consumed produced)
    [Reg.mbcStat n 0, Reg.mbcStat n 1, Reg.mbcStat n 2, Reg.mbcStat n 3, Reg.mbcStat n 4] :=
  have hthree : s.wordsBut (((s.add (Reg.mbcStat n 0) 1).add (Reg.mbcStat n 1) consumed).add (Reg.mbcStat n 2) produced)
      [Reg.mbcStat n 0, Reg.mbcStat n 1, Reg.mbcStat n 2, Reg.mbcStat n 3, Reg.mbcStat n 4] :=
    State.wordsBut_add (State.wordsBut_add (State.wordsBut_add (fun _ _ => rfl) (by simp)) (by simp)) (by simp)
  WordsKept.ite (State.wordsBut_add hthree (by simp)) (WordsKept.ite (State.wordsBut_add hthree (by simp)) hthree)

theorem State.jobCounted_count (s : State) (n code consumed produced : Nat) :
    (s.jobCounted n code consumed produced).rd (Reg.mbcStat n 0) = (s.rd (Reg.mbcStat n 0) + 1) % 2 ^ 32 := by
  have hne : ∀ i, 0 < i → Reg.mbcStat n 0 ≠ Reg.mbcStat n i := fun i hi => by unfold Reg.mbcStat; omega
  have hthree : (((s.add (Reg.mbcStat n 0) 1).add (Reg.mbcStat n 1) consumed).add (Reg.mbcStat n 2) produced).rd (Reg.mbcStat n 0) =
      (s.rd (Reg.mbcStat n 0) + 1) % 2 ^ 32 := by
    rw [State.rd_add_ne _ _ (hne 2 (by decide)), State.rd_add_ne _ _ (hne 1 (by decide)), State.rd_add_same]
  rw [← hthree]
  unfold State.jobCounted
  split
  · exact State.rd_add_ne _ _ (hne 3 (by decide))
  · split
    · exact State.rd_add_ne _ _ (hne 4 (by decide))
    · rfl

/-- IRQ_STATUS of engine `n`'s page. -/
abbrev mbcIrq (n : Nat) : Nat := 0x40000 + 0x1000 * n + 0x10

/-- Where the words of the page stand beside IRQ_STATUS (R166). -/
theorem mbcIrq_places (n : Nat) : Reg.mbcCtrl n = mbcIrq n + 0x30 ∧ Reg.mbcRingTail n = mbcIrq n + 0x40 ∧ Reg.mbcRingHead n = mbcIrq n + 0x44 ∧
    Reg.mbcJobStat n = mbcIrq n + 0x48 ∧ Reg.mbcInConsumed n = mbcIrq n + 0x4C ∧ Reg.mbcOutProduced n = mbcIrq n + 0x50 ∧
    ∀ i, Reg.mbcStat n i = mbcIrq n + 0xF0 + 4 * i := by
  unfold Reg.mbcCtrl Reg.mbcRingTail Reg.mbcRingHead Reg.mbcJobStat Reg.mbcInConsumed Reg.mbcOutProduced Reg.mbcStat mbcIrq
  exact ⟨by omega, by omega, by omega, by omega, by omega, by omega, fun i => by omega⟩

section
variable {c : Prop} [Decidable c] {b i : Nat}

theorem State.raiseIf_wordsBut (s : State) : s.wordsBut (s.raiseIf c b i) [b + 0x10] :=
  WordsKept.ite (State.wordsBut_raise (fun _ _ => rfl) (List.mem_singleton_self _)) (State.wordsBut_refl _ _)

theorem State.raiseIf_raised (hi : i < 32) (h : c) : (s.raiseIf c b i).flag (b + 0x10) i = true := by
  rw [State.raiseIf, if_pos h]
  exact State.flag_raise_same _ _ _ hi

theorem State.raiseIf_flag {k : Nat} (hi : i < 32) (h : s.flag (b + 0x10) k = true) : (s.raiseIf c b i).flag (b + 0x10) k = true := by
  rw [State.raiseIf]
  split
  · exact State.flag_raise_of_flag i hi h
  · exact h

end

theorem State.jobEvents_wordsBut (s : State) (n : Nat) (j : MbcJob) (code : Nat) :
    s.wordsBut ((s.codeEvents n j code).emptyEvent n) [mbcIrq n] :=
  State.wordsBut_trans (State.wordsBut_trans s.raiseIf_wordsBut (State.raiseIf_wordsBut _)) (State.raiseIf_wordsBut _)

/-- Events raised before stay. -/
theorem State.jobEvents_flag {s : State} (n : Nat) (j : MbcJob) (code : Nat) {i : Nat} (h : s.flag (mbcIrq n) i = true) :
    ((s.codeEvents n j code).emptyEvent n).flag (mbcIrq n) i = true :=
  State.raiseIf_flag (by decide) (State.raiseIf_flag (by decide) (State.raiseIf_flag (by decide) h))

/-- The events that a job's end raises (R160). -/
theorem State.jobEvents_raised (s : State) (n : Nat) (j : MbcJob) (code : Nat) :
    (bitOf (j.words.getD 0 0) 30 = true → ((s.codeEvents n j code).emptyEvent n).flag (mbcIrq n) 0 = true) ∧
    (code ≠ 0 → ((s.codeEvents n j code).emptyEvent n).flag (mbcIrq n) 2 = true) ∧
    (s.rd (Reg.mbcRingHead n) = s.rd (Reg.mbcRingTail n) → ((s.codeEvents n j code).emptyEvent n).flag (mbcIrq n) 3 = true) := by
  refine ⟨fun hint => ?_, fun hcode => ?_, fun hempty => ?_⟩
  · exact State.raiseIf_flag (by decide) (State.raiseIf_flag (by decide) (State.raiseIf_raised (by decide) hint))
  · exact State.raiseIf_flag (by decide) (State.raiseIf_raised (by decide) hcode)
  · have hwords : s.wordsBut (s.codeEvents n j code) [mbcIrq n] := State.wordsBut_trans s.raiseIf_wordsBut (State.raiseIf_wordsBut _)
    have hhead : Reg.mbcRingHead n ∉ [mbcIrq n] := by rw [List.mem_singleton]; unfold Reg.mbcRingHead mbcIrq; omega
    have htail : Reg.mbcRingTail n ∉ [mbcIrq n] := by rw [List.mem_singleton]; unfold Reg.mbcRingTail mbcIrq; omega
    exact State.raiseIf_raised (by decide) (by rw [hwords _ hhead, hwords _ htail, hempty])

/-- The words that follow the ones of the end of a job: counters and events. -/
theorem State.jobEnd_wordsBut (s : State) (n : Nat) (j : MbcJob) (code consumed produced : Nat) {x : Nat} (hstat : x < Reg.mbcStat n 0)
    (hirq : x ≠ mbcIrq n) : (((s.jobCounted n code consumed produced).codeEvents n j code).emptyEvent n).rd x = s.rd x := by
  rw [State.jobEvents_wordsBut _ n j code x (by rwa [List.mem_singleton])]
  refine State.jobCounted_wordsBut s n code consumed produced x ?_
  simp only [List.mem_cons, List.not_mem_nil, or_false]
  unfold Reg.mbcStat at hstat ⊢
  omega

end

section
variable {s u : State}

theorem State.raiseIf_parts (s : State) (c : Prop) [Decidable c] (b i : Nat) : Kept 0 s (s.raiseIf c b i) :=
  Kept.ite (Kept.step State.raise_kept rfl (Kept.refl _ _)) (Kept.refl _ _)

/-- Counters and events are words alone. -/
theorem State.jobEnd_parts (s : State) (n : Nat) (j : MbcJob) (code consumed produced : Nat) :
    Kept 0 s (((s.jobCounted n code consumed produced).codeEvents n j code).emptyEvent n) := by
  have hadd : ∀ {t : State} (a m : Nat), Kept 0 s t → Kept 0 s (t.add a m) := fun _ _ h => Kept.step State.add_kept rfl h
  have hthree := hadd (Reg.mbcStat n 2) produced (hadd (Reg.mbcStat n 1) consumed (hadd (Reg.mbcStat n 0) 1 (Kept.refl 0 s)))
  have hcounted : Kept 0 s (s.jobCounted n code consumed produced) := Kept.ite (hadd _ _ hthree) (Kept.ite (hadd _ _ hthree) hthree)
  exact .step (State.raiseIf_parts _ _ _ _) rfl (.step (State.raiseIf_parts _ _ _ _) rfl (.step (State.raiseIf_parts _ _ _ _) rfl hcounted))

theorem State.jobEnd_mbc (s : State) (n : Nat) (j : MbcJob) (code consumed produced : Nat) :
    (((s.jobCounted n code consumed produced).codeEvents n j code).emptyEvent n).mbc = s.mbc :=
  (s.jobEnd_parts n j code consumed produced).mbc.resolve_left (by decide)

end

/-- What the end of a job leaves of the engine and of its words (R160). -/
structure JobEnded (s u : State) (n : Nat) (j : MbcJob) (code consumed produced : Nat) : Prop where
  mbc : u.mbc = s.mbc.set n MbcEng.reset
  head : u.rd (Reg.mbcRingHead n) = (s.rd (Reg.mbcRingHead n) + 1) % max (s.fld (Reg.mbcRingSize n) 12 0) 1
  stat : u.rd (Reg.mbcJobStat n) = code % 65536 * 65536
  consumed : u.rd (Reg.mbcInConsumed n) = consumed % 2 ^ 32
  produced : u.rd (Reg.mbcOutProduced n) = produced % 2 ^ 32
  count : u.rd (Reg.mbcStat n 0) = (s.rd (Reg.mbcStat n 0) + 1) % 2 ^ 32
  ctrl : u.rd (Reg.mbcCtrl n) = s.rd (Reg.mbcCtrl n)
  stay : ∀ i, s.flag (mbcIrq n) i = true → u.flag (mbcIrq n) i = true
  intr : bitOf (j.words.getD 0 0) 30 = true → u.flag (mbcIrq n) 0 = true
  error : code ≠ 0 → u.flag (mbcIrq n) 2 = true
  empty : u.rd (Reg.mbcRingHead n) = s.rd (Reg.mbcRingTail n) → u.flag (mbcIrq n) 3 = true

section
variable {s u : State} {n code consumed produced : Nat} {j : MbcJob}

/-- The engine, its words and its events after the end of a job, wherever the descriptor lies. -/
theorem State.jobEnded (s : State) (n : Nat) (j : MbcJob) (code consumed produced : Nat) : JobEnded s
    (((((s.setEng n MbcEng.reset).jobShown n code consumed produced).jobCounted n code consumed produced).codeEvents n j code).emptyEvent n)
    n j code consumed produced := by
  have hshown := State.jobShown_words (s.setEng n MbcEng.reset) n code consumed produced
  have hkept := State.jobShown_wordsBut (s.setEng n MbcEng.reset) n code consumed produced
  have hmbc : ((s.setEng n MbcEng.reset).jobShown n code consumed produced).mbc = s.mbc.set n MbcEng.reset := rfl
  generalize (s.setEng n MbcEng.reset).jobShown n code consumed produced = t at hshown hkept hmbc
  obtain ⟨hhead, hstat, hin, hout⟩ := hshown
  have hlater := fun x => t.jobEnd_wordsBut n j code consumed produced (x := x)
  obtain ⟨hint, herror, hempty⟩ := State.jobEvents_raised (t.jobCounted n code consumed produced) n j code
  have hcounted := t.jobCounted_wordsBut n code consumed produced
  obtain ⟨pctrl, ptail, phead, pstat, pin, pout, pcount⟩ := mbcIrq_places n
  have hpast := pcount 0
  have hfirst : ∀ x, x < Reg.mbcRingHead n ∨ Reg.mbcOutProduced n < x → t.rd x = s.rd x := fun x hx =>
    hkept x (by simp only [List.mem_cons, List.not_mem_nil, or_false]; omega)
  have hcounts : ∀ x, x < Reg.mbcStat n 0 → (t.jobCounted n code consumed produced).rd x = t.rd x := fun x hx =>
    t.jobCounted_wordsBut n code consumed produced x (by simp only [List.mem_cons, List.not_mem_nil, or_false, pcount] at hx ⊢; omega)
  refine ⟨(t.jobEnd_mbc n j code consumed produced).trans hmbc, (hlater _ ?_ ?_).trans hhead, (hlater _ ?_ ?_).trans hstat,
    (hlater _ ?_ ?_).trans hin, (hlater _ ?_ ?_).trans hout, ?_, (hlater _ ?_ ?_).trans (hfirst _ ?_),
    fun i h => State.jobEvents_flag n j code (i := i) ?_, hint, herror, fun h => hempty ?_⟩
  case refine_9 =>
    rw [State.jobEvents_wordsBut _ n j code _ (by rw [List.mem_singleton]; omega), State.jobCounted_count, hfirst _ (by omega)]
  case refine_13 => rwa [State.flag, hcounts _ (by omega), hfirst _ (by omega)]
  case refine_14 =>
    rw [hcounts _ (by omega), hcounts _ (by omega), hfirst (Reg.mbcRingTail n) (by omega), ← h, hlater _ (by omega) (by omega)]
  all_goals omega

theorem State.mbcEnd_ended (s : State) (n : Nat) (j : MbcJob) (code consumed produced : Nat) :
    JobEnded s (s.mbcEnd n j code consumed produced) n j code consumed produced := by
  obtain ⟨d, p, -, hend⟩ := s.mbcEnd_eq n j code consumed produced
  obtain ⟨hmbc, hhead, hstat, hin, hout, hcount, hctrl, hstay, hint, herror, hempty⟩ := (s.withDram d p).jobEnded n j code consumed produced
  rw [hend]
  exact ⟨hmbc, hhead, hstat, hin, hout, hcount, hctrl, hstay, hint, herror, hempty⟩

/-- The descriptor in memory is all that a job's end writes there. -/
theorem State.mbcEnd_dram (s : State) (n : Nat) (j : MbcJob) (code consumed produced : Nat) :
    (s.mbcEnd n j code consumed produced).dram = (s.descFilled (s.mbcHeadAddr n) code consumed produced).dram := by
  obtain ⟨d, p, hfilled, hend⟩ := s.mbcEnd_eq n j code consumed produced
  rw [hend, hfilled, (State.jobEnd_parts _ n j code consumed produced).dram.resolve_left (by decide)]
  rfl

/-- STATUS stands in bytes 6 and 7 of the descriptor, where they can be written (R160, R406, R522). -/
theorem State.mbcEnd_status {a : Nat} (ha : a = s.mbcHeadAddr n) (hlow : s.dramOk (a + 6) 1 = true) (hhigh : s.dramOk (a + 7) 1 = true)
    (hlowLine : s.linePoisoned ((a + 6) / 64) = false) (hhighLine : s.linePoisoned ((a + 7) / 64) = false) :
    (s.mbcEnd n j code consumed produced).byte (a + 6) = BitVec.ofNat 8 code ∧
    (s.mbcEnd n j code consumed produced).byte (a + 7) = BitVec.ofNat 8 (code / 256) := by
  have hbyte : ∀ x, (s.mbcEnd n j code consumed produced).byte x = (s.descFilled a code consumed produced).byte x := fun x => by
    rw [State.byte, State.byte, State.mbcEnd_dram, ha]
  have hfilled : s.descFilled a code consumed produced = (s.dramWrite (a + 6) [BitVec.ofNat 8 code, BitVec.ofNat 8 (code / 256)]).dramWrite
      (a + 24) (leBytes 4 consumed ++ leBytes 4 produced) := rfl
  rw [hbyte, hbyte, hfilled, State.dramWrite_byte_out (x := a + 6) _ _ (.inl (by omega)), State.dramWrite_byte_out (x := a + 7) _ _ (.inl (by omega))]
  exact ⟨State.dramWrite_byte_in [_, _] hlow hlowLine 0 rfl Nat.zero_lt_two,
    State.dramWrite_byte_in [_, _] hhigh hhighLine 1 rfl Nat.one_lt_two⟩

theorem State.mbcCancel_job (hjob : (s.eng n).job = some j) :
    s.mbcCancel n = s.mbcEnd n j 0x40C (s.rd (Reg.mbcInConsumed n)) (s.rd (Reg.mbcOutProduced n)) := by
  rw [State.mbcCancel, hjob]

/-- Memory is no word, and no engine. -/
theorem JobEnded.of_withDram {d : Sparse Byte} {p : List Nat} (h : JobEnded (s.withDram d p) u n j code consumed produced) :
    JobEnded s u n j code consumed produced :=
  ⟨h.mbc, h.head, h.stat, h.consumed, h.produced, h.count, h.ctrl, h.stay, h.intr, h.error, h.empty⟩

theorem JobEnded.settled (h : JobEnded s u n j code consumed produced) : JobEnded s (settle u) n j code consumed produced := by
  constructor <;> simp only [settle_mbc, settle_rd, settle_flag]
  exacts [h.mbc, h.head, h.stat, h.consumed, h.produced, h.count, h.ctrl, h.stay, h.intr, h.error, h.empty]

end

/-! ### Jobs that come to their end (R157, R160) -/

/-- The output of a job that ends: none with an error. -/
def DecodeRes.kept (r : DecodeRes) : List Byte := if r.code = 0 then r.out else []

section
variable {s : State} {n : Nat} {j : MbcJob} {r : DecodeRes}

theorem State.mbcJobDone_running (hrun : (s.eng n).state = 1) (hjob : (s.eng n).job = some j)
    (hr : j.result (s.descCode j.words) = r) (hstop : r.stop = 0) :
    s.mbcJobDone n = (s.writeChunks j.chunks r.kept).mbcEnd n j r.code r.consumed r.kept.length := by
  rw [State.mbcJobDone, hjob]
  dsimp only
  rw [hr, if_neg (by rw [hrun, hstop]; decide)]
  rfl

/-- What a job's end leaves, with its output in memory. -/
theorem State.mbcJobDone_ended (s : State) (n : Nat) (j : MbcJob) (r : DecodeRes) :
    JobEnded s ((s.writeChunks j.chunks r.kept).mbcEnd n j r.code r.consumed r.kept.length) n j r.code r.consumed r.kept.length := by
  obtain ⟨d, p, hwritten, -⟩ := s.writeChunks_eq j.chunks r.kept
  rw [hwritten]
  exact (State.mbcEnd_ended _ _ _ _ _ _).of_withDram

theorem State.mbcJobDone_status (s : State) (n : Nat) (j : MbcJob) (r : DecodeRes)
    (hlow : s.dramOk (s.mbcHeadAddr n + 6) 1 = true) (hhigh : s.dramOk (s.mbcHeadAddr n + 7) 1 = true)
    (hlowLine : s.linePoisoned ((s.mbcHeadAddr n + 6) / 64) = false) (hhighLine : s.linePoisoned ((s.mbcHeadAddr n + 7) / 64) = false) :
    ((s.writeChunks j.chunks r.kept).mbcEnd n j r.code r.consumed r.kept.length).byte (s.mbcHeadAddr n + 6) = BitVec.ofNat 8 r.code ∧
    ((s.writeChunks j.chunks r.kept).mbcEnd n j r.code r.consumed r.kept.length).byte (s.mbcHeadAddr n + 7) = BitVec.ofNat 8 (r.code / 256) := by
  obtain ⟨d, p, hwritten, hsub⟩ := s.writeChunks_eq j.chunks r.kept
  rw [hwritten]
  exact State.mbcEnd_status (s := s.withDram d p) rfl hlow hhigh (linePoisoned_of_subset hsub hlowLine) (linePoisoned_of_subset hsub hhighLine)

end

/-! ### Jobs that stop (R161, R167) -/

/-- The engine's state after its job has stopped: OUT_FULL or IN_EMPTY. -/
def DecodeRes.stopState (r : DecodeRes) : Nat := if r.stop = 1 then 2 else 3

/-- The words and the event of a stop. -/
def State.stopShown (s : State) (n : Nat) (r : DecodeRes) : State :=
  ((((s.setFld (Reg.mbcJobStat n) 2 0 r.stopState).wr (Reg.mbcInConsumed n) r.consumed).wr (Reg.mbcOutProduced n) r.out.length).add
    (Reg.mbcStat n 5) 1).raise (0x40000 + 0x1000 * n) 1

/-- The engine holds its stopped job. -/
def State.stopEng (s : State) (n : Nat) (j : MbcJob) (r : DecodeRes) : State :=
  s.setEng n { s.eng n with state := r.stopState, job := some { j with written := r.out.length } }

/-- The state after a stop, before an engine in FENCING ends its job. -/
def State.jobStopped (s : State) (n : Nat) (j : MbcJob) (r : DecodeRes) : State := ((s.writeChunks j.chunks r.out).stopEng n j r).stopShown n r

section
variable {s : State} {n : Nat} {j : MbcJob} {r : DecodeRes}

theorem State.mbcStopped_running (hrun : (s.eng n).state = 1) (hjob : (s.eng n).job = some j)
    (hr : j.result (s.descCode j.words) = r) (hstop : r.stop ≠ 0) :
    s.mbcStopped n = if (s.jobStopped n j r).unitState (72 + n) = 1 then (s.jobStopped n j r).mbcCancel n else s.jobStopped n j r := by
  rw [State.mbcStopped, hjob]
  dsimp only
  rw [hr, if_neg (by rw [hrun]; exact fun h => h.elim (fun hne => hne rfl) hstop)]
  rfl

theorem State.stopShown_wordsBut (s : State) (n : Nat) (r : DecodeRes) : s.wordsBut (s.stopShown n r)
    [Reg.mbcJobStat n, Reg.mbcInConsumed n, Reg.mbcOutProduced n, Reg.mbcStat n 5, mbcIrq n] :=
  State.wordsBut_raise (State.wordsBut_add (State.wordsBut_wr (State.wordsBut_wr (State.wordsBut_setFld (fun _ _ => rfl)
    (by simp)) (by simp)) (by simp)) (by simp)) (by simp)

theorem State.stopShown_words (s : State) (n : Nat) (r : DecodeRes) :
    (s.stopShown n r).fld (Reg.mbcJobStat n) 2 0 = r.stopState ∧ (s.stopShown n r).rd (Reg.mbcInConsumed n) = r.consumed % 2 ^ 32 ∧
    (s.stopShown n r).rd (Reg.mbcOutProduced n) = r.out.length % 2 ^ 32 ∧ (s.stopShown n r).flag (mbcIrq n) 1 = true := by
  obtain ⟨-, -, -, pstat, pin, pout, pcount⟩ := mbcIrq_places n
  have hcount := pcount 5
  have hirq : mbcIrq n = 0x40000 + 0x1000 * n + 0x10 := rfl
  have hlt : r.stopState < 8 := by unfold DecodeRes.stopState; split <;> decide
  refine ⟨?_, ?_, ?_, State.flag_raise_same _ _ 1 (by decide)⟩
  · rw [State.stopShown, State.fld, State.rd_raise_ne _ _ (by omega), State.rd_add_ne _ _ (by omega), State.rd_wr_ne _ _ (by omega),
      State.rd_wr_ne _ _ (by omega)]
    exact (State.fld_setFld_same _ _ 2 0 _ (by decide) (by decide)).trans (Nat.mod_eq_of_lt hlt)
  · rw [State.stopShown, State.rd_raise_ne _ _ (by omega), State.rd_add_ne _ _ (by omega), State.rd_wr_ne _ _ (by omega), State.rd_wr_same]
  · rw [State.stopShown, State.rd_raise_ne _ _ (by omega), State.rd_add_ne _ _ (by omega), State.rd_wr_same]

/-- An engine that has a job has its place in the list. -/
theorem State.eng_lt (h : (s.eng n).job = some j) : n < s.mbc.length := by
  by_contra hle
  rw [State.eng, List.getD_eq_default _ _ (Nat.le_of_not_lt hle)] at h
  cases h

theorem State.jobStopped_words (s : State) (n : Nat) (j : MbcJob) (r : DecodeRes) : s.wordsBut (s.jobStopped n j r)
    [Reg.mbcJobStat n, Reg.mbcInConsumed n, Reg.mbcOutProduced n, Reg.mbcStat n 5, mbcIrq n] := by
  obtain ⟨d, p, hwritten, -⟩ := s.writeChunks_eq j.chunks r.out
  have hregs : ((s.writeChunks j.chunks r.out).stopEng n j r).regs = s.regs := by rw [hwritten]; rfl
  exact State.wordsBut_trans (WordsKept.regs (WordsKept.refl _ s) hregs) (State.stopShown_wordsBut _ n r)

theorem State.jobStopped_mbc (s : State) (n : Nat) (j : MbcJob) (r : DecodeRes) : (s.jobStopped n j r).mbc = s.mbc.set n
    { s.eng n with state := r.stopState, job := some { j with written := r.out.length } } := by
  obtain ⟨d, p, hwritten, -⟩ := s.writeChunks_eq j.chunks r.out
  rw [State.jobStopped, hwritten]
  rfl

theorem State.jobStopped_dram (s : State) (n : Nat) (j : MbcJob) (r : DecodeRes) :
    (s.jobStopped n j r).dram = (s.writeChunks j.chunks r.out).dram := rfl

/-- A stop leaves the unit's state alone. -/
theorem State.jobStopped_unitState (s : State) (n : Nat) (j : MbcJob) (r : DecodeRes) (hn : n < 8) :
    (s.jobStopped n j r).unitState (72 + n) = s.unitState (72 + n) := by
  obtain ⟨-, -, -, pstat, pin, pout, pcount⟩ := mbcIrq_places n
  have hirq : mbcIrq n = 0x40000 + 0x1000 * n + 0x10 := rfl
  have hout : ∀ x, 0x48000 ≤ x → x ∉ [Reg.mbcJobStat n, Reg.mbcInConsumed n, Reg.mbcOutProduced n, Reg.mbcStat n 5, mbcIrq n] := fun x hx => by
    simp only [List.mem_cons, List.not_mem_nil, or_false, pcount]
    omega
  have hwords : WordsKept (fun x => 0x48000 ≤ x) s (s.jobStopped n j r) := fun x hx => s.jobStopped_words n j r x (hout x hx)
  exact hwords.unitState (by decide) (by decide) (by unfold Reg.svcUnit; omega)

/-- On an engine in FENCING the stopped job ends with CANCELLED (R167). -/
theorem State.jobStopped_cancelled (hjob : (s.eng n).job = some j) : ∃ i, JobEnded (s.jobStopped n j r) ((s.jobStopped n j r).mbcCancel n) n i
    0x40C ((s.jobStopped n j r).rd (Reg.mbcInConsumed n)) ((s.jobStopped n j r).rd (Reg.mbcOutProduced n)) := by
  have heng : ((s.jobStopped n j r).eng n).job = some { j with written := r.out.length } := by
    rw [State.eng, State.jobStopped_mbc, List.getD_eq_getElem?_getD, List.getElem?_set_self (State.eng_lt hjob)]
    rfl
  exact ⟨_, by rw [State.mbcCancel_job heng]; exact State.mbcEnd_ended _ _ _ _ _ _⟩

/-- So the engine is idle, its words hold CANCELLED and the lengths of the stop, and both events are raised. -/
theorem State.jobStopped_cancelled_shown (hjob : (s.eng n).job = some j) {u : State} (hu : u = (s.jobStopped n j r).mbcCancel n) :
    u.mbc = s.mbc.set n MbcEng.reset ∧ u.rd (Reg.mbcJobStat n) = 0x40C * 65536 ∧ u.rd (Reg.mbcInConsumed n) = r.consumed % 2 ^ 32 ∧
    u.rd (Reg.mbcOutProduced n) = r.out.length % 2 ^ 32 ∧ u.flag (mbcIrq n) 1 = true ∧ u.flag (mbcIrq n) 2 = true ∧
    u.rd (Reg.mbcRingHead n) = (s.rd (Reg.mbcRingHead n) + 1) % max (s.fld (Reg.mbcRingSize n) 12 0) 1 := by
  obtain ⟨i, hend⟩ := s.jobStopped_cancelled (n := n) (r := r) hjob
  obtain ⟨-, hin, hout, hevent⟩ := ((s.writeChunks j.chunks r.out).stopEng n j r).stopShown_words n r
  obtain ⟨-, -, phead, pstat, pin, pout, pcount⟩ := mbcIrq_places n
  have psize : Reg.mbcRingSize n = mbcIrq n + 0x3C := by unfold Reg.mbcRingSize mbcIrq; omega
  have hwords : ∀ x, mbcIrq n < x → x < Reg.mbcJobStat n → (s.jobStopped n j r).rd x = s.rd x := fun x hlow hhigh =>
    s.jobStopped_words n j r x (by simp only [List.mem_cons, List.not_mem_nil, or_false, pcount]; omega)
  subst hu
  refine ⟨by rw [hend.mbc, State.jobStopped_mbc, List.set_set], hend.stat, ?_, ?_, hend.stay 1 hevent, hend.error (by decide), ?_⟩
  · rw [hend.consumed, Nat.mod_eq_of_lt (State.rd_lt _ _)]
    exact hin
  · rw [hend.produced, Nat.mod_eq_of_lt (State.rd_lt _ _)]
    exact hout
  · rw [hend.head, State.fld, hwords _ (by omega) (by omega), hwords _ (by omega) (by omega)]
    rfl

end

theorem exec_mbcJobDone {s : State} {n : Nat} {j : MbcJob} {r : DecodeRes} (hrun : (s.eng n).state = 1) (hjob : (s.eng n).job = some j)
    (hr : j.result (s.descCode j.words) = r) (hstop : r.stop = 0) :
    exec (.mbcJobDone n) s = .next (settle ((s.writeChunks j.chunks r.kept).mbcEnd n j r.code r.consumed r.kept.length)) :=
  congrArg finish (State.mbcJobDone_running hrun hjob hr hstop)

/-- A stop, where it does not end the job. -/
theorem exec_mbcStopped_stays {s : State} {n : Nat} {j : MbcJob} {r : DecodeRes} (hn : n < 8) (hrun : (s.eng n).state = 1)
    (hjob : (s.eng n).job = some j) (hr : j.result (s.descCode j.words) = r) (hstop : r.stop ≠ 0) (hunit : s.unitState (72 + n) ≠ 1) :
    exec (.mbcStopped n) s = .next (settle (s.jobStopped n j r)) :=
  congrArg finish ((State.mbcStopped_running hrun hjob hr hstop).trans (if_neg (by rwa [State.jobStopped_unitState _ _ _ _ hn])))

theorem exec_mbcStopped_fencing {s : State} {n : Nat} {j : MbcJob} {r : DecodeRes} (hn : n < 8) (hrun : (s.eng n).state = 1)
    (hjob : (s.eng n).job = some j) (hr : j.result (s.descCode j.words) = r) (hstop : r.stop ≠ 0) (hunit : s.unitState (72 + n) = 1) :
    exec (.mbcStopped n) s = .next (settle ((s.jobStopped n j r).mbcCancel n)) :=
  congrArg finish ((State.mbcStopped_running hrun hjob hr hstop).trans (if_pos (by rwa [State.jobStopped_unitState _ _ _ _ hn])))

/-- Settles O30: the end of a job is `JobEnded`, and a stop ends it too where the engine is FENCING. -/
theorem mbcJobsEnd : Obligations.MbcJobsEnd := by
  unfold Obligations.MbcJobsEnd
  intro s n j hn hrun hjob
  have hirq : 0x40010 + 0x1000 * n = mbcIrq n := by unfold mbcIrq; omega
  rw [hirq]
  intro r out a
  refine ⟨fun hstop => ⟨_, exec_mbcJobDone hrun hjob rfl hstop, ?_⟩, fun hstop => ?_⟩
  · have hend := (s.mbcJobDone_ended n j r).settled
    have hstatus := s.mbcJobDone_status n j r
    refine ⟨hend.mbc, hend.head, hend.stat, hend.consumed, hend.produced, hend.count, hend.intr, hend.error, hend.empty, ?_⟩
    rw [settle_byte, settle_byte]
    exact hstatus
  · by_cases hunit : s.unitState (72 + n) = 1
    · obtain ⟨hmbc, hcode, hin, hout, hevent, herror, hhead⟩ := State.jobStopped_cancelled_shown (r := r) hjob rfl
      refine ⟨_, exec_mbcStopped_fencing hn hrun hjob rfl hstop hunit, ?_⟩
      simp only [settle_flag, settle_rd, settle_mbc]
      exact ⟨hevent, hin, hout, fun h => absurd hunit h, fun _ => ⟨hmbc, hcode, herror, hhead⟩⟩
    · obtain ⟨hstat, hin, hout, hevent⟩ := ((s.writeChunks j.chunks r.out).stopEng n j r).stopShown_words n r
      refine ⟨_, exec_mbcStopped_stays hn hrun hjob rfl hstop hunit, ?_⟩
      rw [settle_flag, settle_rd, settle_rd, settle_mbc, settle_dram, settle_fld]
      exact ⟨hevent, hin, hout, fun _ => ⟨s.jobStopped_mbc n j r, s.jobStopped_dram n j r, hstat⟩, fun h => absurd h hunit⟩

end Sys2Proof.Machine

/-! SUPPORT. RESUME writes and a cleared EN, and O31 (R161, R167). -/

namespace Sys2Proof.Machine

/-- The row of RESUME, whose bits read 0. -/
def mbcResumeRow : RegRow := row1 "MBC_RESUME" 0x70 0 [fAny 2 0 .wo]

/-- The row of MBC_CTRL. -/
def mbcCtrlRow : RegRow := row1 "MBC_CTRL" 0x40 0 [fAny 0 0 .rw]

section
variable {s : State} {who : Requester} {n data : Nat} {j : MbcJob}

/-- RESUME after a write of `data`. -/
def State.mbcResumeStored (s : State) (n data : Nat) : State :=
  s.wr (Reg.mbcResume n) (mbcResumeRow.stored (stickyMask (Reg.mbcResume n)) (s.rd (Reg.mbcResume n)) data)

/-- An accepted RESUME write that names something does it (R161). -/
theorem State.writeWord_mbcResume (hn : n < 8) (hacc : s.accepts who (Reg.mbcResume n) data) (hdata : data ≠ 0) :
    s.writeWord who (Reg.mbcResume n) 4 data = (s.mbcResumeStored n data).mbcResumeOp n data := by
  obtain ⟨-, -, hwrite⟩ := State.writeWord_mbc (off := 0x70) (r := mbcResumeRow) (i := 0) hn (by unfold Reg.mbcResume; omega) (by decide) hacc rfl
  rw [hwrite, State.mbcEffect, if_neg (by decide), if_pos rfl, if_neg hdata]
  rfl

/-- MBC_CTRL after a write of `data`. -/
def State.mbcCtrlStored (s : State) (n data : Nat) : State :=
  s.wr (Reg.mbcCtrl n) (mbcCtrlRow.stored (stickyMask (Reg.mbcCtrl n)) (s.rd (Reg.mbcCtrl n)) data)

/-- EN reads as written, and cleared it ends the job in hand (R167). -/
theorem State.writeWord_mbcCtrl (hn : n < 8) (hacc : s.accepts who (Reg.mbcCtrl n) data) (hon : s.flag (Reg.mbcCtrl n) 0 = true)
    (hoff : bitOf data 0 = false) : (s.mbcCtrlStored n data).flag (Reg.mbcCtrl n) 0 = false ∧
      s.writeWord who (Reg.mbcCtrl n) 4 data = (s.mbcCtrlStored n data).mbcCancel n := by
  obtain ⟨hlaid, -, hwrite⟩ := State.writeWord_mbc (off := 0x40) (r := mbcCtrlRow) (i := 0) hn (by unfold Reg.mbcCtrl; omega) (by decide) hacc rfl
  have hbit : ((s.mbcCtrlStored n data).rd (Reg.mbcCtrl n)).testBit 0 = data.testBit 0 :=
    State.rd_wr_stored_testBit (f := fAny 0 0 .rw) hlaid (List.mem_cons_self ..) (Nat.le_refl 0) (Nat.le_refl 0)
  refine ⟨by rw [State.flag, bitOf_testBit, hbit, ← bitOf_testBit, hoff], ?_⟩
  rw [hwrite, State.mbcEffect, if_pos rfl, if_pos (by rw [hoff, show bitOf (s.rd (Reg.mbcCtrl n)) 0 = true from hon]; rfl)]
  rfl

/-- The job goes on with what it has been given. -/
def State.jobResumed (s : State) (n : Nat) (j : MbcJob) : State :=
  (s.setEng n { s.eng n with state := 1, job := some j }).setFld (Reg.mbcJobStat n) 2 0 1

theorem State.jobResumed_shown (s : State) (n : Nat) (j : MbcJob) : (s.jobResumed n j).fld (Reg.mbcJobStat n) 2 0 = 1 :=
  State.fld_setFld_same _ _ 2 0 1 (by decide) (by decide)

theorem State.jobResumed_mbc (s : State) (n : Nat) (j : MbcJob) :
    (s.jobResumed n j).mbc = s.mbc.set n { s.eng n with state := 1, job := some j } := rfl

theorem State.jobResumed_dram (s : State) (n : Nat) (j : MbcJob) : (s.jobResumed n j).dram = s.dram := rfl

/-- The job with the resume buffer behind its destination. -/
def State.moreRoom (s : State) (n : Nat) (j : MbcJob) : MbcJob :=
  { j with chunks := j.chunks ++ [(s.mbcResumeAddr n, s.rd (Reg.mbcResumeLen n))] }

/-- The job with what can be read of the resume buffer behind its source. -/
def State.moreInput (s : State) (n : Nat) (j : MbcJob) : MbcJob :=
  let more := s.readPrefix (s.mbcResumeAddr n) (s.rd (Reg.mbcResumeLen n))
  { j with input := j.input ++ more, poisoned := j.poisoned || decide (more.length < s.rd (Reg.mbcResumeLen n)) }

theorem State.mbcResumeOp_out (hjob : (s.eng n).job = some j) : s.mbcResumeOp n 1 = s.jobResumed n (s.moreRoom n j) := by
  rw [State.mbcResumeOp, hjob]
  rfl

theorem State.mbcResumeOp_in (hjob : (s.eng n).job = some j) : s.mbcResumeOp n 2 = s.jobResumed n (s.moreInput n j) := by
  rw [State.mbcResumeOp, hjob]
  rfl

theorem State.mbcResumeOp_cancel (hjob : (s.eng n).job = some j) : s.mbcResumeOp n 4 = s.mbcCancel n := by
  rw [State.mbcResumeOp, hjob]
  rfl

theorem State.mbcResumeStored_rd (s : State) (n data : Nat) {x : Nat} (hx : x ≠ Reg.mbcResume n) : (s.mbcResumeStored n data).rd x = s.rd x :=
  State.rd_wr_ne _ _ hx

/-- The resume buffer is the one that the registers name before the write. -/
theorem State.mbcResumeStored_buffer (s : State) (n data : Nat) : (s.mbcResumeStored n data).mbcResumeAddr n = s.mbcResumeAddr n ∧
    (s.mbcResumeStored n data).rd (Reg.mbcResumeLen n) = s.rd (Reg.mbcResumeLen n) := by
  have hne : Reg.mbcResumeAddrLo n ≠ Reg.mbcResume n ∧ Reg.mbcResumeAddrHi n ≠ Reg.mbcResume n ∧ Reg.mbcResumeLen n ≠ Reg.mbcResume n := by
    unfold Reg.mbcResume Reg.mbcResumeLen Reg.mbcResumeAddrLo Reg.mbcResumeAddrHi
    omega
  obtain ⟨hlo, hhi, hlen⟩ := hne
  rw [State.mbcResumeAddr, State.mbcResumeStored_rd _ _ _ hlo, State.mbcResumeStored_rd _ _ _ hhi, State.mbcResumeStored_rd _ _ _ hlen]
  exact ⟨rfl, rfl⟩

theorem State.mbcResumeStored_moreRoom (s : State) (n data : Nat) (j : MbcJob) : (s.mbcResumeStored n data).moreRoom n j = s.moreRoom n j := by
  obtain ⟨haddr, hlen⟩ := s.mbcResumeStored_buffer n data
  rw [State.moreRoom, State.moreRoom, haddr, hlen]

theorem State.mbcResumeStored_moreInput (s : State) (data : Nat) (j : MbcJob) (hn : n < 8) :
    (s.mbcResumeStored n data).moreInput n j = s.moreInput n j := by
  obtain ⟨haddr, hlen⟩ := s.mbcResumeStored_buffer n data
  have hread : ∀ a m, (s.mbcResumeStored n data).readPrefix a m = s.readPrefix a m :=
    State.readPrefix_congr (State.dramRead_wr s _ (by unfold Reg.mbcResume; omega) (by unfold Reg.mbcResume; omega))
  rw [State.moreInput, State.moreInput, haddr, hlen, hread]

/-- A job given up, after a write of a word that says nothing of it (R161). -/
theorem State.mbcCancel_wr {a : Nat} (v : Nat) (hjob : (s.eng n).job = some j)
    (hout : a = Reg.mbcCtrl n ∨ a = Reg.mbcResume n) :
    ((s.wr a v).mbcCancel n).mbc = s.mbc.set n MbcEng.reset ∧ ((s.wr a v).mbcCancel n).rd (Reg.mbcJobStat n) = 0x40C * 65536 ∧
    ((s.wr a v).mbcCancel n).flag (mbcIrq n) 2 = true ∧
    ((s.wr a v).mbcCancel n).rd (Reg.mbcRingHead n) = (s.rd (Reg.mbcRingHead n) + 1) % max (s.fld (Reg.mbcRingSize n) 12 0) 1 ∧
    ((s.wr a v).mbcCancel n).rd (Reg.mbcCtrl n) = (s.wr a v).rd (Reg.mbcCtrl n) := by
  have hend := State.mbcEnd_ended (s.wr a v) n j 0x40C ((s.wr a v).rd (Reg.mbcInConsumed n)) ((s.wr a v).rd (Reg.mbcOutProduced n))
  have hne : Reg.mbcRingHead n ≠ a ∧ Reg.mbcRingSize n ≠ a := by
    unfold Reg.mbcCtrl Reg.mbcResume at hout
    unfold Reg.mbcRingHead Reg.mbcRingSize
    omega
  have hhead := hend.head
  rw [State.rd_wr_ne _ _ hne.1, State.fld, State.rd_wr_ne _ _ hne.2] at hhead
  rw [State.mbcCancel_job (s := s.wr a v) hjob]
  exact ⟨hend.mbc, hend.stat, hend.error (by decide), hhead, hend.ctrl⟩

end

/-- Settles O31: a resume gives the job in hand more room or more source, and CANCEL and a cleared EN are the end of a job. -/
theorem mbcResumes : Obligations.MbcResumes := by
  unfold Obligations.MbcResumes
  intro s who n j data hn hjob
  have hirq : 0x40010 + 0x1000 * n = mbcIrq n := by unfold mbcIrq; omega
  rw [hirq]
  refine ⟨fun hacc => ?_, fun hacc => ?_, fun hacc => ?_, fun hacc hon => ?_⟩
  · refine ⟨_, congrArg finish ((State.writeWord_mbcResume hn hacc (by decide)).trans (State.mbcResumeOp_out hjob)), ?_⟩
    rw [settle_fld, settle_dram, settle_mbc, State.mbcResumeStored_moreRoom]
    exact ⟨State.jobResumed_shown _ n _, State.jobResumed_dram _ n _, State.jobResumed_mbc _ n _⟩
  · refine ⟨_, congrArg finish ((State.writeWord_mbcResume hn hacc (by decide)).trans (State.mbcResumeOp_in hjob)), ?_⟩
    rw [settle_fld, settle_dram, settle_mbc, State.mbcResumeStored_moreInput s 2 j hn]
    exact ⟨State.jobResumed_shown _ n _, State.jobResumed_dram _ n _, State.jobResumed_mbc _ n _⟩
  · obtain ⟨hmbc, hcode, herror, hhead, -⟩ := State.mbcCancel_wr (s := s) _ hjob (.inr rfl)
    refine ⟨_, congrArg finish ((State.writeWord_mbcResume hn hacc (by decide)).trans (State.mbcResumeOp_cancel hjob)), ?_⟩
    rw [settle_mbc, settle_rd, settle_flag, settle_rd]
    exact ⟨hmbc, hcode, herror, hhead⟩
  · obtain ⟨hmbc, hcode, herror, -, hctrl⟩ := State.mbcCancel_wr (s := s) _ hjob (.inl rfl)
    obtain ⟨hflag, hwrite⟩ := State.writeWord_mbcCtrl hn hacc hon (bitOf_putBits_zero _ _)
    refine ⟨_, congrArg finish hwrite, ?_⟩
    rw [settle_mbc, settle_rd, settle_flag, settle_flag, State.flag, State.mbcCtrlStored, hctrl]
    exact ⟨hflag, hmbc, hcode, herror⟩

end Sys2Proof.Machine

/-! SUPPORT. Datagrams that arrive at ingest: the checks, the order, the buffer, and O23 (R136, R137, R140). -/

namespace Sys2Proof.Machine

/-! ### Gaps and the reassembly area (R140) -/

section
variable {s : State} {k : Nat}

theorem State.gapUpdate_regs (s : State) (k : Nat) : (s.gapUpdate k).regs = s.regs := by
  unfold State.gapUpdate
  dsimp only
  split
  · split <;> rfl
  · rfl

/-- A gap that opens or closes changes what the session keeps of its gap alone. -/
theorem State.gapUpdate_sess (hk : k < s.ing.sessions.length) :
    ∃ g m, (s.gapUpdate k).sess k = { s.sess k with gapAt := g, nacks := m } := by
  unfold State.gapUpdate
  dsimp only
  split
  · split
    · exact ⟨_, _, rfl⟩
    · exact ⟨_, _, State.sess_setSess_same _ hk⟩
  · exact ⟨_, _, State.sess_setSess_same _ hk⟩

/-- A session that keeps its buffer leaves the room of the reassembly area. -/
theorem State.reasmUsed_setSess {x : Session} (hk : k < s.ing.sessions.length) (hbuf : x.buf = (s.sess k).buf) :
    (s.setSess k x).reasmUsed = s.reasmUsed := by
  have hused : (x.buf.map Dgram.size).sum = (s.ing.sessions.map (fun x => (x.buf.map Dgram.size).sum))[k]'(by rwa [List.length_map]) := by
    rw [List.getElem_map, hbuf, State.sess, List.getD_eq_getElem _ _ hk]
  rw [State.reasmUsed, State.setSess, List.map_set, hused, List.set_getElem_self, State.reasmUsed]

/-! ### Ordering (R140, R145) -/

/-- A datagram is buffered where the reassembly area has room for it. -/
theorem State.bufferDgram_room {d : Dgram} (hroom : s.reasmUsed + d.size ≤ s.fld Reg.ingReasmSize 11 0 * 2 ^ 20) :
    s.bufferDgram k d = (s.setSess k { s.sess k with buf := insertDgram d (s.sess k).buf }).gapUpdate k :=
  if_neg (Nat.not_lt.2 hroom)

/-- In an ACTIVE session a new number within the window from EXP on is buffered. -/
theorem State.orderDgram_active {d : Dgram} (hactive : (s.sess k).state = 2) (hnew : ∀ e ∈ (s.sess k).buf, e.seq ≠ d.seq)
    (hlow : (s.sess k).exp ≤ d.seq) (hhigh : d.seq ≤ (s.sess k).exp + 4095) : s.orderDgram k d = s.bufferDgram k d := by
  have hany : ¬ (s.sess k).buf.any (fun e => e.seq == d.seq) = true := by
    rw [List.any_eq_true]
    exact fun ⟨e, he, heq⟩ => hnew e he (beq_iff_eq.1 heq)
  rw [State.orderDgram]
  dsimp only
  rw [if_neg hany, if_pos hactive, if_neg (Nat.not_lt.2 hlow), if_neg (Nat.not_lt.2 hhigh)]

/-! ### Arrivals change words of the page and sessions alone -/

/-- Words other than those of `l`, and the injection on its way, are as before. -/
structure IngKept (l : List Nat) (s t : State) : Prop where
  words : s.wordsBut t l
  inject : t.ing.inject = s.ing.inject

section
variable {l : List Nat} {r t : State}

theorem IngKept.refl (l : List Nat) (s : State) : IngKept l s s := ⟨State.wordsBut_refl s l, rfl⟩

theorem IngKept.trans (h : IngKept l r s) (g : IngKept l s t) : IngKept l r t :=
  ⟨State.wordsBut_trans h.words g.words, g.inject.trans h.inject⟩

theorem IngKept.mono {m : List Nat} (h : IngKept l s t) (hsub : ∀ x ∈ l, x ∈ m) : IngKept m s t := ⟨State.wordsBut_mono h.words hsub, h.inject⟩

theorem IngKept.ite {c : Prop} [Decidable c] (ht : IngKept l s t) (hr : IngKept l s r) : IngKept l s (if c then t else r) := by
  split <;> assumption

theorem IngKept.setSess (h : IngKept l s t) (k : Nat) (x : Session) : IngKept l s (t.setSess k x) := ⟨h.words, h.inject⟩

theorem IngKept.add {a : Nat} (h : IngKept l s t) (n : Nat) (ha : a ∈ l) : IngKept l s (t.add a n) := ⟨State.wordsBut_add h.words ha, h.inject⟩

theorem IngKept.setFld {a : Nat} (h : IngKept l s t) (hi lo v : Nat) (ha : a ∈ l) : IngKept l s (t.setFld a hi lo v) :=
  ⟨State.wordsBut_setFld h.words ha, h.inject⟩

theorem IngKept.raise {b : Nat} (h : IngKept l s t) (i : Nat) (hb : b + 0x10 ∈ l) : IngKept l s (t.raise b i) :=
  ⟨State.wordsBut_raise h.words hb, h.inject⟩

theorem IngKept.gapUpdate (h : IngKept l s t) (k : Nat) : IngKept l s (t.gapUpdate k) := by
  refine ⟨WordsKept.regs h.words (t.gapUpdate_regs k), Eq.trans ?_ h.inject⟩
  unfold State.gapUpdate
  dsimp only
  split
  · split <;> rfl
  · rfl

end

/-- The words that ordering a datagram changes: the counts of duplicates and of numbers outside the window, and the event of a full
reassembly area. -/
abbrev orderWords : List Nat := [Reg.ingStat 3, Reg.ingStat 4, 0x30010]

theorem State.bufferDgram_ingKept (s : State) (k : Nat) (d : Dgram) : IngKept orderWords s (s.bufferDgram k d) :=
  .ite ((IngKept.refl _ s).raise 4 (by decide)) (((IngKept.refl _ s).setSess k _).gapUpdate k)

theorem State.orderDgram_ingKept (s : State) (k : Nat) (d : Dgram) : IngKept orderWords s (s.orderDgram k d) := by
  have hdup : ∀ (i : Nat) (x : Session), Reg.ingStat i ∈ orderWords → IngKept orderWords s ((s.add (Reg.ingStat i) 1).setSess k x) :=
    fun i x hi => ((IngKept.refl _ s).add 1 hi).setSess k x
  have hbuffer := s.bufferDgram_ingKept k d
  unfold State.orderDgram
  dsimp only
  refine .ite (hdup 3 _ (by decide)) (.ite (.ite (hdup 3 _ (by decide)) (.ite (hdup 4 _ (by decide)) hbuffer)) (.ite hbuffer ?_))
  split
  · exact .ite (hdup 3 _ (by decide)) (.ite (hdup 4 _ (by decide)) hbuffer)
  · exact .refl _ s

theorem State.sessError_ingKept (s : State) (k seq code : Nat) : IngKept [Reg.ingSErr k] s (s.sessError k seq code) :=
  ((((IngKept.refl _ s).setSess k _).setFld 15 0 code (List.mem_singleton_self _)).setFld 31 16 _ (List.mem_singleton_self _))

/-! ### Checks (R137) -/

/-- The datagram in `bytes`, as its header and payload `pl` say. -/
def kstDgram (bytes pl : List Byte) : Dgram :=
  { seq := beNat (slice bytes 8 6), frame := beNat (slice bytes 16 8), base := beNat (slice bytes 24 8), isKey := bitOf (beNat (slice bytes 5 1)) 0,
    count := beNat (slice bytes 14 2), payload := pl }

/-- The session counts a datagram that has passed every check. -/
def State.kstCounted (s : State) (k : Nat) (reply : Option Reply) : State :=
  s.setSess k { s.sess k with repRx := (s.sess k).repRx + 1, reply := if reply.isSome then reply else (s.sess k).reply }

/-- Without a replay's shift a datagram keeps its own numbers (R421). -/
theorem State.kstAccept_unshifted (s : State) (k : Nat) (reply : Option Reply) (bytes pl : List Byte) :
    s.kstAccept k reply (0, 0) bytes pl = (s.kstCounted k reply).orderDgram k (kstDgram bytes pl) := by
  rw [State.kstAccept, kstDgram]
  simp only [Int.add_zero, Int.toNat_natCast]
  rfl

/-- A datagram whose tag fails is counted and noted, and raises its event (R136, R137). -/
def State.kstAuthFail (s : State) (k seq : Nat) : State :=
  (((s.setSess k { s.sess k with repRx := (s.sess k).repRx + 1, repAuth := (s.sess k).repAuth + 1 }).sessError k seq 0x309).add
    (Reg.ingStat 2) 1).raise 0x30000 2

/-- The key slot that a datagram of session `k` names. -/
def State.kstKey (s : State) (k : Nat) (bytes : List Byte) : KeySlot :=
  (s.sess k).keys.getD (beNat (slice bytes 5 1) / 2 % 2) KeySlot.reset

/-- What the payload opens to where the session decrypts, and the payload itself where it does not (R136). -/
def State.kstPlain (s : State) (k len : Nat) (bytes : List Byte) : Option (List Byte) :=
  if s.flag (Reg.ingSCtrl k) 4 then
    gcmOpen (s.kstKey k bytes).key (kstNonce (s.kstKey k bytes).salt 0 k (beNat (slice bytes 8 6))) (bytes.take 32) (slice bytes 32 len)
      (slice bytes (32 + len) 16)
  else some (slice bytes 32 len)

/-- A datagram for session `k` by path `src` whose header passes the checks of R137. -/
structure KstHeader (s : State) (src k len : Nat) (bytes : List Byte) : Prop where
  enabled : s.flag Reg.ingCtrl 0 = true
  source : s.sessSource k = src
  opened : (s.sess k).state ≠ 0
  low : k < 64
  magic : beNat (slice bytes 0 2) = 0x4B53
  version : beNat (slice bytes 2 1) = 1
  kind : beNat (slice bytes 3 1) = 1
  stream : beNat (slice bytes 4 1) = k
  flags : beNat (slice bytes 5 1) < 4
  length : beNat (slice bytes 6 2) = len
  words : len % 4 = 0
  most : len ≤ 8904
  size : bytes.length = 32 + len + (if s.flag (Reg.ingSCtrl k) 4 then 16 else 0)
  loaded : s.flag (Reg.ingSCtrl k) 4 = true → (s.kstKey k bytes).loaded = true

section
variable {src len : Nat} {bytes : List Byte} {reply : Option Reply} {stale : Bool}

/-- Counting it leaves the checks of a datagram as they are. -/
theorem KstHeader.counted (h : KstHeader s src k len bytes) : KstHeader (s.add (Reg.ingStat 0) 1) src k len bytes := by
  have hctrl : ∀ i, (s.add (Reg.ingStat 0) 1).flag (Reg.ingSCtrl k) i = s.flag (Reg.ingSCtrl k) i := fun i => by
    rw [State.flag, State.rd_add_ne _ _ (by unfold Reg.ingSCtrl Reg.ingStat; omega), State.flag]
  have hsource : (s.add (Reg.ingStat 0) 1).sessSource k = s.sessSource k := by
    rw [State.sessSource, State.fld, State.rd_add_ne _ _ (by unfold Reg.ingSCtrl Reg.ingStat; omega), State.sessSource, State.fld]
  have henabled : (s.add (Reg.ingStat 0) 1).flag Reg.ingCtrl 0 = s.flag Reg.ingCtrl 0 := by
    rw [State.flag, State.rd_add_ne _ _ (by decide), State.flag]
  exact { h with
    enabled := henabled.trans h.enabled
    source := hsource.trans h.source
    opened := h.opened
    size := by rw [hctrl]; exact h.size
    loaded := fun hdec => h.loaded ((hctrl 4).symm.trans hdec) }

theorem State.kstPlain_counted (s : State) (k len : Nat) (bytes : List Byte) : (s.add (Reg.ingStat 0) 1).kstPlain k len bytes = s.kstPlain k len bytes := by
  have hctrl : (s.add (Reg.ingStat 0) 1).flag (Reg.ingSCtrl k) 4 = s.flag (Reg.ingSCtrl k) 4 := by
    rw [State.flag, State.rd_add_ne _ _ (by unfold Reg.ingSCtrl Reg.ingStat; omega), State.flag]
  rw [State.kstPlain, hctrl]
  rfl

/-- A datagram whose header passes is counted, and accepted where its payload opens. -/
theorem State.kstArrive_passed (hdom : s.domOn 14 = true) (h : KstHeader s src k len bytes)
    (hstale : s.flag (Reg.ingSCtrl k) 4 = true → stale = false) : s.kstArrive src none reply (0, 0) bytes stale =
      (s.kstPlain k len bytes).elim ((s.add (Reg.ingStat 0) 1).kstAuthFail k (beNat (slice bytes 8 6)))
        (fun pl => (s.add (Reg.ingStat 0) 1).kstAccept k reply (0, 0) bytes pl) := by
  have hflag : (s.add (Reg.ingStat 0) 1).flag (Reg.ingSCtrl k) 4 = s.flag (Reg.ingSCtrl k) 4 := by
    rw [State.flag, State.rd_add_ne _ _ (by unfold Reg.ingSCtrl Reg.ingStat; omega), State.flag]
  rw [← hflag] at hstale
  rw [← State.kstPlain_counted, State.kstArrive, if_neg (by rw [hdom]; decide)]
  have hc := h.counted
  generalize s.add (Reg.ingStat 0) 1 = t at hc hstale
  have hlong : 32 ≤ bytes.length := by rw [hc.size]; omega
  dsimp only
  rw [hc.stream, hc.length, if_neg (by rw [hc.magic, hc.version, hc.kind]; omega), if_neg (Nat.not_le.2 hc.low), if_neg (Nat.not_le.2 hc.flags),
    if_neg (by rw [← hc.size]; have := hc.words; have := hc.most; omega),
    if_neg (by rw [hc.enabled, hc.source]; simp [hc.opened])]
  have hkey : (t.sess k).keys.getD (beNat (slice bytes 5 1) / 2 % 2) KeySlot.reset = t.kstKey k bytes := rfl
  rw [State.kstPlain, hkey]
  by_cases hdec : t.flag (Reg.ingSCtrl k) 4 = true
  · rw [hc.loaded hdec, hdec, hstale hdec]
    cases gcmOpen (t.kstKey k bytes).key (kstNonce (t.kstKey k bytes).salt 0 k (beNat (slice bytes 8 6))) (bytes.take 32)
      (slice bytes 32 len) (slice bytes (32 + len) 16) <;> rfl
  · rw [Bool.not_eq_true _ |>.mp hdec]
    rfl

/-! ### What an arrival leaves -/

theorem State.kstAccept_ingKept (s : State) (k : Nat) (reply : Option Reply) (adj : Int × Int) (bytes pl : List Byte) :
    IngKept orderWords s (s.kstAccept k reply adj bytes pl) := ((IngKept.refl _ s).setSess k _).trans (State.orderDgram_ingKept _ k _)

/-- The words that a failed tag changes. -/
abbrev authWords (k : Nat) : List Nat := [Reg.ingSErr k, Reg.ingStat 2, 0x30010]

theorem State.kstAuthFail_ingKept (s : State) (k seq : Nat) : IngKept (authWords k) s (s.kstAuthFail k seq) :=
  ((((IngKept.refl _ s).setSess k _).trans ((State.sessError_ingKept _ k seq 0x309).mono (by simp))).add 1 (by simp)).raise 2 (by simp)

/-- A datagram of an ACTIVE session, new and within the window, stands in the session's buffer where there is room (R140). -/
theorem State.kstAccept_buffered (hk : k < s.ing.sessions.length) (hactive : (s.sess k).state = 2)
    (hnew : ∀ e ∈ (s.sess k).buf, e.seq ≠ beNat (slice bytes 8 6)) (hlow : (s.sess k).exp ≤ beNat (slice bytes 8 6))
    (hhigh : beNat (slice bytes 8 6) ≤ (s.sess k).exp + 4095) {pl : List Byte}
    (hroom : s.reasmUsed + 32 + pl.length ≤ s.fld Reg.ingReasmSize 11 0 * 2 ^ 20) :
    ((s.kstAccept k reply (0, 0) bytes pl).sess k).repRx = (s.sess k).repRx + 1 ∧
    ((s.kstAccept k reply (0, 0) bytes pl).sess k).buf = insertDgram (kstDgram bytes pl) (s.sess k).buf := by
  have hcounted : (s.kstCounted k reply).sess k = _ := State.sess_setSess_same _ hk
  have hlen : k < (s.kstCounted k reply).ing.sessions.length := by rw [State.kstCounted, State.setSess, List.length_set]; exact hk
  have hused : (s.kstCounted k reply).reasmUsed = s.reasmUsed := State.reasmUsed_setSess hk rfl
  rw [State.kstAccept_unshifted, State.orderDgram_active (by rw [hcounted]; exact hactive) (by rw [hcounted]; exact hnew)
    (by rw [hcounted]; exact hlow) (by rw [hcounted]; exact hhigh),
    State.bufferDgram_room (by rw [hused, Dgram.size, ← Nat.add_assoc]; exact hroom), hcounted]
  obtain ⟨g, m, hsess⟩ := State.gapUpdate_sess (k := k) (s := (s.kstCounted k reply).setSess k
    { (s.kstCounted k reply).sess k with buf := insertDgram (kstDgram bytes pl) ((s.kstCounted k reply).sess k).buf })
    (by rw [State.setSess, List.length_set]; exact hlen)
  rw [State.sess_setSess_same _ hlen, hcounted] at hsess
  rw [hsess]
  exact ⟨rfl, rfl⟩

/-- A datagram whose tag fails is counted, and the buffer stays (R136). -/
theorem State.kstAuthFail_sess (seq : Nat) (hk : k < s.ing.sessions.length) : ((s.kstAuthFail k seq).sess k).repAuth = (s.sess k).repAuth + 1 ∧
    ((s.kstAuthFail k seq).sess k).buf = (s.sess k).buf := by
  have hcounted := State.sess_setSess_same { s.sess k with repRx := (s.sess k).repRx + 1, repAuth := (s.sess k).repAuth + 1 } hk
  have hlen : k < (s.setSess k { s.sess k with repRx := (s.sess k).repRx + 1, repAuth := (s.sess k).repAuth + 1 }).ing.sessions.length := by
    rw [State.setSess, List.length_set]; exact hk
  unfold State.kstAuthFail
  generalize s.setSess k { s.sess k with repRx := (s.sess k).repRx + 1, repAuth := (s.sess k).repAuth + 1 } = t at hcounted hlen
  obtain ⟨l, hl⟩ := t.sessError_ing k seq 0x309
  rw [State.sess_of_ing (State.raise_ing _ _ _), State.sess_of_ing (State.add_ing _ _ _), State.sess_of_ing hl, State.sess_setSess_same _ hlen, hcounted]
  exact ⟨rfl, rfl⟩

/-- What becomes of a datagram whose header passes, by what its payload opens to (R136, R137, R140). -/
theorem State.kstArrive_outcome (hdom : s.domOn 14 = true) (h : KstHeader s src k len bytes) (hactive : (s.sess k).state = 2)
    (hstale : s.flag (Reg.ingSCtrl k) 4 = true → stale = false) {u : State} (hu : u = s.kstArrive src none reply (0, 0) bytes stale) :
    u.rd (Reg.ingStat 0) = (s.rd (Reg.ingStat 0) + 1) % 2 ^ 32 ∧
    (∀ pl, s.kstPlain k len bytes = some pl → (s.sess k).exp ≤ beNat (slice bytes 8 6) → beNat (slice bytes 8 6) ≤ (s.sess k).exp + 4095 →
      (∀ d ∈ (s.sess k).buf, d.seq ≠ beNat (slice bytes 8 6)) → s.reasmUsed + 32 + pl.length ≤ s.fld Reg.ingReasmSize 11 0 * 2 ^ 20 →
      (u.sess k).repRx = (s.sess k).repRx + 1 ∧ (u.sess k).buf = insertDgram (kstDgram bytes pl) (s.sess k).buf) ∧
    (s.kstPlain k len bytes = none → (u.sess k).repAuth = (s.sess k).repAuth + 1 ∧ (u.sess k).buf = (s.sess k).buf ∧ u.flag 0x30010 2 = true) := by
  have hplace : k < s.ing.sessions.length := State.sess_lt (fun hreset => by rw [hreset] at hactive; cases hactive)
  have hcount := s.rd_add_same (Reg.ingStat 0) 1
  have hsize : (s.add (Reg.ingStat 0) 1).fld Reg.ingReasmSize 11 0 = s.fld Reg.ingReasmSize 11 0 := by
    rw [State.fld, State.rd_add_ne _ _ (by decide), State.fld]
  rw [State.kstArrive_passed hdom h hstale] at hu
  subst hu
  cases s.kstPlain k len bytes with
  | none =>
    obtain ⟨hauth, hbuf⟩ := State.kstAuthFail_sess (s := s.add (Reg.ingStat 0) 1) (beNat (slice bytes 8 6)) hplace
    have hwords := (State.kstAuthFail_ingKept (s.add (Reg.ingStat 0) 1) k (beNat (slice bytes 8 6))).words
    refine ⟨(hwords _ ?_).trans hcount, (by intro pl hpl; cases hpl), fun _ => ⟨hauth, hbuf, State.flag_raise_same _ 0x30000 2 (by decide)⟩⟩
    simp only [List.mem_cons, List.not_mem_nil, or_false]
    unfold Reg.ingSErr Reg.ingStat
    omega
  | some pl =>
    have hwords := (State.kstAccept_ingKept (s.add (Reg.ingStat 0) 1) k reply (0, 0) bytes pl).words
    refine ⟨(hwords _ (by decide)).trans hcount, fun q hpl hlow hhigh hnew hroom => ?_, (by intro hnone; cases hnone)⟩
    obtain rfl := Option.some.inj hpl
    exact State.kstAccept_buffered (s := s.add (Reg.ingStat 0) 1) hplace hactive hnew hlow hhigh (by rw [hsize]; exact hroom)

/-! ### The ways to ingest (R137, R357, R371) -/

/-- A datagram on its way to ingest: time goes on, and the path's queue with it. -/
def State.onWay (s : State) (now : Nat) (net : List NetPath) : State := { s with now := now, net := net }

/-- A datagram of the session's own source arrives at ingest, with the key that the path's handle names where it was forwarded; on its
way only the instant and the path's queue go on. -/
theorem exec_datagramReceive {t : Nat} (hsel : src = 0 → ∀ f rest, (s.path s.fov.holder).fwd = f :: rest → f.bytes = bytes → some f.reply = reply →
      s.flag (Reg.ingSCtrl k) 4 = true →
      (s.kstKey k bytes).gen = (if beNat (slice bytes 5 1) / 2 % 2 = 0 then f.handle.1 else f.handle.2))
    (hstream : beNat (slice bytes 4 1) = k) :
    ∃ now net r stale, exec (.datagramReceive src bytes (if src = 0 then reply else none) t) s =
      .next (settle ((s.onWay now net).kstArrive src none r (0, 0) bytes stale)) ∧
      (s.flag (Reg.ingSCtrl k) 4 = true → stale = false) := by
  by_cases hsrc : src = 0
  · subst hsrc
    have hexec : exec (.datagramReceive 0 bytes (if 0 = 0 then reply else none) t) s = .next (settle ((s.at t).crossing reply bytes)) := rfl
    rw [hexec, State.crossing]
    split
    · next f rest hfwd =>
      dsimp only
      split
      · next hmatch =>
        refine ⟨_, _, _, _, rfl, fun hdec => ?_⟩
        have hgen := hsel rfl f rest hfwd hmatch.1 hmatch.2 hdec
        rw [hstream]
        exact bne_eq_false_iff_eq.2 hgen
      · exact ⟨_, _, _, _, rfl, fun _ => rfl⟩
    · exact ⟨_, _, _, _, rfl, fun _ => rfl⟩
  · exact ⟨max s.now t, s.net, none, false, congrArg finish (if_neg hsrc), fun _ => rfl⟩

end

end

/-- Settles O23: a header that passes leaves the tag to decide, and the two outcomes are `kstAccept` and `kstAuthFail`. -/
theorem datagramsArrive : Obligations.DatagramsArrive := by
  unfold Obligations.DatagramsArrive
  intro s src k len seq t bytes reply hon hdom hsource hactive hk hmagic hversion hkind hstream hflags hlength hwords hmost hseq hsize hsel key
    plain hloaded
  subst hseq
  obtain ⟨now, net, r, stale, hexec, hstale⟩ := exec_datagramReceive (t := t) hsel hstream
  have hopened : (s.sess k).state ≠ 0 := fun hclosed => by rw [hactive] at hclosed; cases hclosed
  have hheader : KstHeader (s.onWay now net) src k len bytes := ⟨hon, hsource, hopened, hk, hmagic, hversion, hkind, hstream, hflags, hlength,
    hwords, hmost, hsize, hloaded⟩
  obtain ⟨hcount, hbuffered, hfailed⟩ := State.kstArrive_outcome (s := s.onWay now net) (reply := r) hdom hheader hactive hstale rfl
  refine ⟨_, hexec, ?_⟩
  rw [settle_rd, State.sess_of_ing (settle_ing _), settle_flag]
  exact ⟨hcount, hbuffered, hfailed⟩

end Sys2Proof.Machine

/-! SUPPORT. Datagrams that are taken, key datagrams, gaps that time out, and O24 (R138, R140, R142-R145, R150). -/

namespace Sys2Proof.Machine

section
variable {s : State} {k : Nat} {d : Dgram}

/-! ### Taking a datagram (R138, R143, R144) -/

/-- A command error changes what the session has counted and noted of errors alone (R139, R151). -/
theorem State.cmdError_sess (q code : Nat) (hk : k < s.ing.sessions.length) :
    ∃ l, (s.cmdError k q code).sess k = { s.sess k with repErr := (s.sess k).repErr + 1, records := l } := by
  have hcounted := State.sess_setSess_same { s.sess k with repErr := (s.sess k).repErr + 1 } hk
  have hlen : k < (s.setSess k { s.sess k with repErr := (s.sess k).repErr + 1 }).ing.sessions.length := by
    rw [State.setSess, List.length_set]; exact hk
  have hing := s.cmdError_ing k q code
  generalize s.setSess k { s.sess k with repErr := (s.sess k).repErr + 1 } = t at hcounted hlen hing
  obtain ⟨l, hl⟩ := t.sessError_ing k q code
  exact ⟨l, by rw [State.sess_of_ing hing, State.sess_of_ing hl, State.sess_setSess_same _ hlen, hcounted]⟩

/-- The session notes a datagram's frame, and its words count it and show the frame (R164). -/
def State.frameNoted (s : State) (k : Nat) (d : Dgram) : State :=
  ((s.setSess k { s.sess k with lastFrame := d.frame }).add (Reg.ingSRx k) 1).wr (Reg.ingSFrameLo k) (d.frame % 2 ^ 32)

theorem State.frameNoted_sess (hk : k < s.ing.sessions.length) : (s.frameNoted k d).sess k = { s.sess k with lastFrame := d.frame } :=
  State.sess_setSess_same _ hk

/-- What a session applies of a datagram with commands. -/
def Dgram.applying (d : Dgram) : Applying := { seq := d.seq, frame := d.frame, left := d.count, payload := d.payload }

theorem State.startApplying_commands (hcount : d.count ≠ 0) :
    s.startApplying k d = (s.frameNoted k d).setSess k { (s.frameNoted k d).sess k with applying := some d.applying } := if_neg hcount

theorem State.startApplying_empty (hcount : d.count = 0) (hpayload : d.payload = []) : s.startApplying k d = s.frameNoted k d :=
  (if_pos hcount).trans (if_pos hpayload)

theorem State.startApplying_left (hcount : d.count = 0) (hpayload : d.payload ≠ []) :
    s.startApplying k d = ((s.frameNoted k d).cmdError k d.seq 0x308).toWaitKey k :=
  (if_pos hcount).trans (if_neg hpayload)

/-- The commands of a datagram stand ready; one without commands and payload is over; one with bytes left closes the session. The
session's place in its numbers and its buffer stay in each case. -/
theorem State.startApplying_sess (d : Dgram) (hk : k < s.ing.sessions.length) {y : Session} (hy : y = (s.startApplying k d).sess k) :
    y.exp = (s.sess k).exp ∧ y.buf = (s.sess k).buf ∧ y.lastFrame = d.frame ∧
    (d.count ≠ 0 → y.applying = some d.applying ∧ y.state = (s.sess k).state) ∧
    (d.count = 0 → d.payload = [] → y.applying = (s.sess k).applying ∧ y.state = (s.sess k).state) := by
  have hnoted : (s.frameNoted k d).sess k = { s.sess k with lastFrame := d.frame } := State.frameNoted_sess hk
  have hlen : k < (s.frameNoted k d).ing.sessions.length := by
    rw [State.frameNoted, State.wr_ing, State.add_ing, State.setSess, List.length_set]; exact hk
  subst hy
  by_cases hcount : d.count = 0
  · by_cases hpayload : d.payload = []
    · rw [State.startApplying_empty hcount hpayload, hnoted]
      exact ⟨rfl, rfl, rfl, fun h => absurd hcount h, fun _ _ => ⟨rfl, rfl⟩⟩
    · obtain ⟨l, hl⟩ := State.cmdError_sess d.seq 0x308 hlen
      rw [hnoted] at hl
      rw [State.startApplying_left hcount hpayload, State.toWaitKey_sess_same, hl]
      split <;> exact ⟨rfl, rfl, rfl, fun h => absurd hcount h, fun _ h => absurd h hpayload⟩
  · rw [State.startApplying_commands hcount, State.sess_setSess_same _ hlen, hnoted]
    exact ⟨rfl, rfl, rfl, fun _ => ⟨rfl, rfl⟩, fun h => absurd h hcount⟩

/-- The datagram with number EXP leaves the buffer, and EXP moves on. -/
def Session.taken (x : Session) : Session := { x with buf := x.buf.filter (fun e => e.seq != x.exp), exp := x.exp + 1 }

theorem State.applyNext_taken {g : Nat} (hactive : (s.sess k).state = 2) (hidle : (s.sess k).applying = none) (hwait : s.scn.waiting = none)
    (htarget : s.target = some g) (hfind : (s.sess k).buf.find? (fun d => d.seq == (s.sess k).exp) = some d) (hframe : d.frame ≤ g)
    (hlast : (s.sess k).lastFrame ≤ d.frame) : s.applyNext k = ((s.setSess k (s.sess k).taken).gapUpdate k).startApplying k d := by
  have hready : ¬((s.sess k).state ≠ 2 ∨ (s.sess k).applying.isSome ∨ g < d.frame ∨ s.scn.waiting.isSome) := by
    rw [hactive, hidle, hwait]
    simp [hframe]
  rw [State.applyNext]
  dsimp only
  rw [hfind, htarget]
  dsimp only
  rw [if_neg hready, if_neg (Nat.not_lt.2 hlast)]
  rfl

theorem exec_datagramApply_next (hidle : (s.sess k).applying = none) : exec (.datagramApply k) s = .next (settle (s.applyNext k)) :=
  congrArg finish (if_pos (by rw [hidle]; rfl))

/-- The session has moved on by one number, and the datagram's commands stand ready. -/
theorem State.taken_shown (hactive : (s.sess k).state = 2) (hidle : (s.sess k).applying = none) {u : State}
    (hu : u = ((s.setSess k (s.sess k).taken).gapUpdate k).startApplying k d) :
    (u.sess k).exp = (s.sess k).exp + 1 ∧ (u.sess k).lastFrame = d.frame ∧
    (u.sess k).buf = (s.sess k).buf.filter (fun e => e.seq != (s.sess k).exp) ∧ (d.count ≠ 0 → (u.sess k).applying = some d.applying) ∧
    (d.count = 0 → d.payload = [] → (u.sess k).applying = none ∧ (u.sess k).state = 2) := by
  have hplace : k < s.ing.sessions.length := State.sess_lt (fun h => by rw [h] at hactive; cases hactive)
  have hlen : k < (s.setSess k (s.sess k).taken).ing.sessions.length := by rw [State.setSess, List.length_set]; exact hplace
  obtain ⟨g, m, hgap⟩ := State.gapUpdate_sess hlen
  rw [State.sess_setSess_same _ hplace] at hgap
  have hstay : k < ((s.setSess k (s.sess k).taken).gapUpdate k).ing.sessions.length :=
    State.sess_lt (fun h => by rw [h] at hgap; exact absurd ((congrArg Session.state hgap).trans hactive) (by decide))
  obtain ⟨hexp, hbuf, hframe, hcommands, hempty⟩ := State.startApplying_sess d hstay rfl
  rw [hgap] at hexp hbuf hcommands hempty
  subst hu
  exact ⟨hexp, hframe, hbuf, fun h => (hcommands h).1, fun h hp => ⟨(hempty h hp).1.trans hidle, (hempty h hp).2.trans hactive⟩⟩

/-! ### Key datagrams (R145) -/

/-- The session that accepts key datagram `d` is ACTIVE from the number after it. -/
def Session.keyed (x : Session) (d : Dgram) : Session :=
  { x with state := 2, exp := d.seq + 1, opened := none, gapAt := none, nacks := 0,
           buf := x.buf.filter (fun e => decide (d.seq < e.seq ∧ e.seq ≤ d.seq + 4096)) }

/-- The planes of the session's mask start from the base that a key datagram names. -/
def State.keyPlanes (s : State) (k : Nat) (d : Dgram) : State :=
  s.resetPlanes (s.rd (Reg.ingSPlanes k)) (if d.base = 0 then none else s.scn.newest)

/-- The session has accepted key datagram `d`. -/
def State.keyTaken (s : State) (k : Nat) (d : Dgram) : State :=
  ((((s.keyPlanes k d).setSess k ((s.sess k).keyed d)).gapUpdate k).raise 0x30000 6).startApplying k d

theorem State.keyAccept_taken {g : Nat} (hwaits : (s.sess k).state = 1) (hwait : s.scn.waiting = none) (htarget : s.target = some g)
    (hkey : (s.sess k).firstKey = some d) (hframe : d.frame ≤ g) (hbase : d.base = 0 ∨ s.scn.newest.map (fun v => v.tag) = some d.base) :
    s.keyAccept k = (s.keyTaken k d).checkComplete := by
  have hready : ¬((s.sess k).state ≠ 1 ∨ g < d.frame ∨ s.scn.waiting.isSome) := by
    rw [hwaits, hwait]
    simp [hframe]
  rw [State.keyAccept]
  dsimp only
  rw [hkey, htarget]
  dsimp only
  rw [if_neg hready, if_pos hbase]
  rfl

/-- The words of the session's page that a datagram without bytes left changes as it is taken. -/
theorem State.startApplying_words (h : d.count ≠ 0 ∨ d.payload = []) :
    s.wordsBut (s.startApplying k d) [Reg.ingSRx k, Reg.ingSFrameLo k] := by
  have hnoted : s.wordsBut (s.frameNoted k d) [Reg.ingSRx k, Reg.ingSFrameLo k] :=
    State.wordsBut_wr (State.wordsBut_add (fun _ _ => rfl) (by simp)) (by simp)
  by_cases hcount : d.count = 0
  · rw [State.startApplying_empty hcount (h.resolve_left (fun hne => hne hcount))]
    exact hnoted
  · rw [State.startApplying_commands hcount]
    exact hnoted

/-- The session is ACTIVE from the number after the key datagram, with what is buffered behind it, and the event is raised. -/
theorem State.keyTaken_shown (hplace : k < s.ing.sessions.length) (h : d.count ≠ 0 ∨ d.payload = []) :
    ((s.keyTaken k d).sess k).state = 2 ∧ ((s.keyTaken k d).sess k).exp = d.seq + 1 ∧
    ((s.keyTaken k d).sess k).buf = (s.sess k).buf.filter (fun e => decide (d.seq < e.seq ∧ e.seq ≤ d.seq + 4096)) ∧
    (s.keyTaken k d).flag 0x30010 6 = true := by
  have hing : (s.keyPlanes k d).ing = s.ing := State.resetPlanes_kept.ing.resolve_left (by decide)
  have hplanes : k < (s.keyPlanes k d).ing.sessions.length := by rw [hing]; exact hplace
  have hlen : k < ((s.keyPlanes k d).setSess k ((s.sess k).keyed d)).ing.sessions.length := by rw [State.setSess, List.length_set]; exact hplanes
  obtain ⟨g, m, hgap⟩ := State.gapUpdate_sess hlen
  rw [State.sess_setSess_same _ hplanes] at hgap
  unfold State.keyTaken
  generalize ((s.keyPlanes k d).setSess k ((s.sess k).keyed d)).gapUpdate k = t at hgap
  have hstay : k < (t.raise 0x30000 6).ing.sessions.length :=
    State.sess_lt (s := t) (fun hreset => by rw [hreset] at hgap; exact absurd (show (0 : Nat) = 2 from congrArg Session.state hgap) (by decide))
  obtain ⟨hexp, hbuf, -, hcommands, hempty⟩ := State.startApplying_sess d hstay rfl
  rw [State.sess_of_ing (t.raise_ing 0x30000 6), hgap] at hexp hbuf hcommands hempty
  refine ⟨?_, hexp, hbuf, ?_⟩
  · by_cases hcount : d.count = 0
    · exact (hempty hcount (h.resolve_left (fun hne => hne hcount))).2
    · exact (hcommands hcount).2
  · have hne : 0x30010 ∉ [Reg.ingSRx k, Reg.ingSFrameLo k] := by
      simp only [List.mem_cons, List.not_mem_nil, or_false]
      unfold Reg.ingSRx Reg.ingSFrameLo
      omega
    rw [State.flag, State.startApplying_words h _ hne]
    exact State.flag_raise_same t 0x30000 6 (by decide)

/-! ### Gaps that time out (R140, R150) -/

theorem exec_gapTimeout {t : Nat} (hdom : s.domOn 14 = true) (hover : (s.at t).gapTimedOut k = true) :
    exec (.gapTimeout k t) s = .next (settle ((s.at t).toWaitKey k)) :=
  congrArg finish (if_pos (by rw [hdom, hover]; rfl))

theorem State.toWaitKey_raised (hactive : (s.sess k).state = 2) : (s.toWaitKey k).flag 0x30010 1 = true := by
  rw [State.toWaitKey_active hactive]
  exact State.flag_raise_same _ 0x30000 1 (by decide)

end

/-- Settles O24: a datagram in turn is `Session.taken`, a key datagram `Session.keyed`, and a gap that outlasts its NACKs `Session.fallen`. -/
theorem datagramsApplied : Obligations.DatagramsApplied := by
  unfold Obligations.DatagramsApplied
  refine fun s k t => ⟨fun d g hactive hidle hwait htarget hfind hframe hlast => ?_, fun d g hwaits hwait htarget hkey hframe hbase hform => ?_,
    fun hdom hover hactive => ?_⟩
  · refine ⟨_, exec_datagramApply_next hidle, ?_⟩
    rw [State.sess_of_ing (settle_ing _)]
    exact State.taken_shown hactive hidle (State.applyNext_taken hactive hidle hwait htarget hfind hframe hlast)
  · have hplace : k < s.ing.sessions.length := State.sess_lt (fun h => by rw [h] at hwaits; cases hwaits)
    obtain ⟨hstate, hexp, hbuf, hevent⟩ := State.keyTaken_shown hplace hform
    refine ⟨_, congrArg finish (State.keyAccept_taken hwaits hwait htarget hkey hframe hbase), ?_⟩
    rw [State.sess_of_ing (settle_ing _), State.sess_of_ing (State.checkComplete_ing _), settle_flag, State.flag,
      State.checkComplete_words _ _ (by decide)]
    exact ⟨hstate, hexp, hevent, hbuf⟩
  · have hsess : ((s.at t).toWaitKey k).sess k = (s.sess k).fallen := ((s.at t).toWaitKey_sess_same k).trans (if_pos hactive)
    refine ⟨_, exec_gapTimeout hdom hover, ?_⟩
    rw [State.sess_of_ing (settle_ing _), hsess, settle_flag]
    exact ⟨rfl, rfl, rfl, State.toWaitKey_raised hactive, State.wordsBut_settle ((s.at t).toWaitKey_words k)⟩

end Sys2Proof.Machine

/-! SUPPORT. The ING page: sessions opened and closed, injections, and O28 (R132, R134, R153, R163, R164). -/

namespace Sys2Proof.Machine

/-! ### Accepted writes to the ING page (R164) -/

theorem pageOf_ing {a : Nat} (h : a / 0x1000 = 0x30) : pageOf a = some (page 3 0 14 0xFF rowsIng) := by
  have hcode : a / 0x10000 = 3 := by omega
  have hindex : a / 0x1000 % 16 = 0 := by omega
  rw [pageOf, if_pos (by omega), hcode, hindex]
  rfl

theorem rowsIng_plain : ∀ r ∈ rowsIng, ∀ f ∈ r.fields, f.kind ≠ .rws := by decide

/-- A word of the ING page after a write of `data`, by its row `r`. -/
def State.rowStored (s : State) (a : Nat) (r : RegRow) (data : Nat) : State := s.wr a (r.stored (stickyMask a) (s.rd a) data)

section
variable {s : State} {who : Requester} {a data i k : Nat} {r : RegRow}

/-- An accepted write of a word of the ING page stores the word and starts what `ingStart` says. -/
theorem State.writeWord_ing (ha : a / 0x1000 = 0x30) (hoff : 0x40 ≤ a % 0x1000) (hacc : s.accepts who a data)
    (hrow : rowFor rowsIng (a % 0x1000) = some (r, i)) :
    r.laid = true ∧ s.writeWord who a 4 data = ((s.rowStored a r data).ingStart (a % 0x1000) (s.rd a) data).certCheck s := by
  obtain ⟨p, hp, hcode⟩ := hacc
  have hmod : a % 0x400000 = a := Nat.mod_eq_of_lt (by omega)
  have hpage := State.reached_pageOf hp
  rw [hmod, pageOf_ing ha] at hpage
  obtain rfl := Option.some.inj hpage
  refine ⟨State.reached_row_laid hp hrow, ?_⟩
  rw [State.writeWord_row hp hcode (by rwa [hmod]) (by rw [hmod]; exact hrow) (rowsIng_plain r (rowFor_mem hrow)), hmod]
  rfl

theorem State.rowStored_rd (s : State) (a : Nat) (r : RegRow) (data : Nat) {x : Nat} (hx : x ≠ a) : (s.rowStored a r data).rd x = s.rd x :=
  State.rd_wr_ne _ _ hx

theorem State.rowStored_ing (s : State) (a : Nat) (r : RegRow) (data : Nat) : (s.rowStored a r data).ing = s.ing := rfl
theorem State.rowStored_scn (s : State) (a : Nat) (r : RegRow) (data : Nat) : (s.rowStored a r data).scn = s.scn := rfl

theorem State.rowStored_words (s : State) (a : Nat) (r : RegRow) (data : Nat) : s.wordsBut (s.rowStored a r data) [a] :=
  State.wordsBut_wr (State.wordsBut_refl _ _) (List.mem_singleton_self _)

/-- Bit 0 of a word whose first field is plain reads as written. -/
theorem State.rowStored_en (hlaid : r.laid = true) (hen : fAny 0 0 .rw ∈ r.fields) : (s.rowStored a r data).flag a 0 = bitOf data 0 := by
  rw [State.flag, bitOf_testBit, bitOf_testBit]
  exact State.rd_wr_stored_testBit hlaid hen (Nat.le_refl 0) (Nat.le_refl 0)

/-- What a write to a word before the sessions' starts is `ingEffect` alone. -/
theorem State.writeWord_ing_global (ha : a / 0x1000 = 0x30) (hoff : 0x40 ≤ a % 0x1000) (hlow : a % 0x1000 < 0x400)
    (hacc : s.accepts who a data) (hrow : rowFor rowsIng (a % 0x1000) = some (r, i)) :
    r.laid = true ∧ s.writeWord who a 4 data = (s.rowStored a r data).ingEffect (a % 0x1000) (s.rd a) data := by
  obtain ⟨hlaid, hwrite⟩ := State.writeWord_ing ha hoff hacc hrow
  refine ⟨hlaid, ?_⟩
  rw [hwrite, State.ingStart, if_neg (fun h => absurd h.1 (Nat.not_le.2 hlow))]
  exact State.certCheck_same _ _ (State.ingEffect_kept.secu.resolve_left (by decide))

/-! ### EN of a session (R134) -/

/-- The row of ING_S_CTRL. -/
def ingSCtrlRow : RegRow :=
  rowN "ING_S_CTRL" 0x400 0x30 64 0 [fAny 0 0 .rw, fAny 1 1 .rw, { fAny 3 2 .rw with max := 2 }, fAny 4 4 .rw, fAny 5 5 .rw, fAny 9 8 .ro]

theorem rowFor_ingSCtrl (hk : k < 64) : rowFor rowsIng (0x400 + 0x30 * k) = some (ingSCtrlRow, k) := by
  have hsplit : rowsIng = rowsIng.take 9 ++ (ingSCtrlRow :: rowsIng.drop 10) := rfl
  have hbelow : ∀ r ∈ rowsIng.take 9, r.base + r.stride * r.count ≤ 0x400 ∧ 0 < r.stride := by decide
  have hindex : ingSCtrlRow.index? (0x400 + 0x30 * k) = some k := RegRow.index?_word _ hk (show 0 < 0x30 by decide)
  rw [hsplit, rowFor_append_below _ (fun r hr => by have := hbelow r hr; omega), rowFor, hindex]

/-- Where a session's control word stands. -/
theorem ingSCtrl_place (hk : k < 64) : Reg.ingSCtrl k / 0x1000 = 0x30 ∧ Reg.ingSCtrl k % 0x1000 = 0x400 + 0x30 * k := by
  unfold Reg.ingSCtrl
  omega

theorem State.writeWord_ingSCtrl (hk : k < 64) (hacc : s.accepts who (Reg.ingSCtrl k) data) :
    (s.rowStored (Reg.ingSCtrl k) ingSCtrlRow data).flag (Reg.ingSCtrl k) 0 = bitOf data 0 ∧ s.writeWord who (Reg.ingSCtrl k) 4 data =
      ((s.rowStored (Reg.ingSCtrl k) ingSCtrlRow data).ingStart (0x400 + 0x30 * k) (s.rd (Reg.ingSCtrl k)) data).certCheck s := by
  obtain ⟨hpage, hoff⟩ := ingSCtrl_place hk
  obtain ⟨hlaid, hwrite⟩ := State.writeWord_ing (r := ingSCtrlRow) (i := k) hpage (by omega) hacc (by rw [hoff]; exact rowFor_ingSCtrl hk)
  rw [hoff] at hwrite
  exact ⟨State.rowStored_en hlaid (List.mem_cons_self ..), hwrite⟩

/-- What a write of a session's control word does to the session, by its EN before and after. -/
theorem State.ingEffect_session (s : State) (old data k : Nat) (hk : k < 64) : s.ingEffect (0x400 + 0x30 * k) old data =
    if bitOf data 0 && !bitOf old 0 then s.openSess k else if !bitOf data 0 && bitOf old 0 then s.closeSess k else s.checkComplete := by
  have hindex : (0x400 + 0x30 * k - 0x400) / 0x30 = k := by omega
  rw [State.ingEffect, if_neg (by omega), if_neg (by omega), if_pos (by omega), hindex]

theorem State.ingStart_open (s : State) {old : Nat} (hk : k < 64) (hdata : bitOf data 0 = true) (hold : bitOf old 0 = false) :
    s.ingStart (0x400 + 0x30 * k) old data = (s.openSess k).sessEnabled k := by
  have hindex : (0x400 + 0x30 * k - 0x400) / 0x30 = k := by omega
  have hcond : 0x400 ≤ 0x400 + 0x30 * k ∧ 0x400 + 0x30 * k < 0x400 + 64 * 0x30 ∧ (0x400 + 0x30 * k - 0x400) % 0x30 = 0 ∧ bitOf data 0 = true ∧
      (!bitOf old 0) = true := ⟨by omega, by omega, by omega, hdata, by rw [hold]; rfl⟩
  rw [State.ingStart, State.ingEffect_session _ _ _ _ hk, hindex, if_pos hcond, hdata, hold]
  rfl

theorem State.ingStart_close (s : State) {old : Nat} (hk : k < 64) (hdata : bitOf data 0 = false) (hold : bitOf old 0 = true) :
    s.ingStart (0x400 + 0x30 * k) old data = s.closeSess k := by
  rw [State.ingStart, State.ingEffect_session _ _ _ _ hk, if_neg (fun h => by rw [hdata] at h; exact Bool.false_ne_true h.2.2.2.1), hdata, hold]
  rfl

theorem State.stage_words_below (s : State) (e : LogEntry) : WordsKept (fun x => x < 0x1C0000) s (s.stage e) := by
  unfold State.stage
  exact .ite (.regs (.refl _ _) rfl) (.raise (.addSat (.regs (.refl _ _) rfl) (by decide)) (by decide))

theorem State.sessEnabled_regs (s : State) (k : Nat) : (s.sessEnabled k).regs = s.regs := by
  unfold State.sessEnabled
  dsimp only
  split <;> rfl

/-- SEC_CERT_CHANGE concerns the pages of security and of the log (R487, R504). -/
theorem State.certCheck_flag (s old : State) {x : Nat} (hx : x < 0x1C0000) (j : Nat) : (s.certCheck old).flag x j = s.flag x j := by
  have hwords : WordsKept (fun x => x < 0x1C0000) s (s.certCheck old) :=
    .ite (.refl _ _) (.trans (.raise (.refl _ _) (by decide)) (State.stage_words_below _ _))
  exact hwords.flag hx j

/-- A session that is closed, with its key slots. -/
def Session.shut (x : Session) : Session := { Session.reset with keys := x.keys, newestSlot := x.newestSlot }

theorem State.shutSess_ing (s : State) (k : Nat) : (s.shutSess k).ing.sessions = s.ing.sessions.set k (s.sess k).shut := by
  rw [State.shutSess, State.setSess, State.dropWaiting_ing]
  rfl

theorem State.shutSess_regs (s : State) (k : Nat) : (s.shutSess k).regs = s.regs :=
  (apply_ite State.regs _ _ _).trans (ite_self _)

/-! ### Sessions opened and closed -/

/-- A session that opens waits for its key (R134, R150). -/
def Session.waiting (x : Session) : Session := { Session.reset with state := 1, keys := x.keys, newestSlot := x.newestSlot }

/-- The state after an accepted EN of a session. -/
def State.sessionOpened (s : State) (k data : Nat) : State :=
  (((s.rowStored (Reg.ingSCtrl k) ingSCtrlRow data).openSess k).sessEnabled k).certCheck s

theorem exec_sessionEnable {data : Word} (hk : k < 64) (hacc : s.accepts who (Reg.ingSCtrl k) (putBits data.toNat 0 0 1))
    (hoff : s.flag (Reg.ingSCtrl k) 0 = false) :
    exec (.sessionEnable who k data) s = .next (settle (s.sessionOpened k (putBits data.toNat 0 0 1))) := by
  refine congrArg finish ((State.writeWord_ingSCtrl hk hacc).2.trans ?_)
  rw [State.ingStart_open _ hk (bitOf_putBits_one _ _) hoff]
  rfl

theorem State.sessionOpened_shown (hk : k < 64) (hacc : s.accepts who (Reg.ingSCtrl k) data) (hon : bitOf data 0 = true) :
    (s.sessionOpened k data).flag (Reg.ingSCtrl k) 0 = true ∧ (s.sessionOpened k data).scn = s.scn ∧
    (s.sessionOpened k data).ing.sessions = s.ing.sessions.set k (s.sess k).waiting := by
  have hplace : Reg.ingSCtrl k < 0x1C0000 := by unfold Reg.ingSCtrl; omega
  refine ⟨?_, ?_, ?_⟩
  · rw [State.sessionOpened, State.certCheck_flag _ _ hplace, State.flag, State.rd, State.sessEnabled_regs]
    exact (State.writeWord_ingSCtrl hk hacc).1.trans hon
  · rw [State.sessionOpened, State.certCheck_kept.scn.resolve_left (by decide), State.sessEnabled_kept.scn.resolve_left (by decide)]
    rfl
  · rw [State.sessionOpened, State.certCheck_kept.ing.resolve_left (by decide), State.sessEnabled_kept.ing.resolve_left (by decide)]
    rfl

theorem exec_sessionClose {data : Word} (hk : k < 64) (hacc : s.accepts who (Reg.ingSCtrl k) (putBits data.toNat 0 0 0))
    (hon : s.flag (Reg.ingSCtrl k) 0 = true) : exec (.sessionClose who k data) s =
      .next (settle ((s.rowStored (Reg.ingSCtrl k) ingSCtrlRow (putBits data.toNat 0 0 0)).closeSess k)) := by
  refine congrArg finish ((State.writeWord_ingSCtrl hk hacc).2.trans ?_)
  rw [State.ingStart_close _ hk (bitOf_putBits_zero _ _) hon]
  exact State.certCheck_same _ _ (State.closeSess_kept.secu.resolve_left (by decide))

theorem State.closeSess_flag (s : State) (k : Nat) {x : Nat} (hx : x ≠ Reg.ingStat 7) (i : Nat) : (s.closeSess k).flag x i = s.flag x i := by
  rw [State.closeSess, State.flag, State.checkComplete_words _ _ (by rwa [List.mem_singleton]), State.rd, State.shutSess_regs]
  rfl

theorem State.closeSess_sessions (s : State) (k : Nat) : (s.closeSess k).ing.sessions = s.ing.sessions.set k (s.sess k).shut := by
  rw [State.closeSess, State.checkComplete_ing, State.shutSess_ing]

/-! ### EN of ING_CTRL (R164) -/

/-- The row of ING_CTRL. -/
def ingCtrlRow : RegRow := row1 "ING_CTRL" 0x40 0xF00 [fAny 0 0 .rw, fAny 1 1 .rw, fRng 15 8 .rw 1 255]

theorem State.writeWord_ingCtrl (hacc : s.accepts who Reg.ingCtrl data) : (s.rowStored Reg.ingCtrl ingCtrlRow data).flag Reg.ingCtrl 0 = bitOf data 0 ∧
    s.writeWord who Reg.ingCtrl 4 data = (s.rowStored Reg.ingCtrl ingCtrlRow data).ingEffect 0x40 (s.rd Reg.ingCtrl) data := by
  obtain ⟨hlaid, hwrite⟩ := State.writeWord_ing_global (r := ingCtrlRow) (i := 0) (by decide) (by decide) (by decide) hacc rfl
  exact ⟨State.rowStored_en hlaid (List.mem_cons_self ..), hwrite⟩

theorem exec_ingEnable {data : Word} (hacc : s.accepts who Reg.ingCtrl (putBits data.toNat 0 0 1)) :
    exec (.ingEnable who data) s = .next (settle (s.rowStored Reg.ingCtrl ingCtrlRow (putBits data.toNat 0 0 1))) := by
  refine congrArg finish ((State.writeWord_ingCtrl hacc).2.trans ?_)
  rw [State.ingEffect, if_pos rfl, bitOf_putBits_one, Bool.not_true, Bool.and_false, if_neg Bool.false_ne_true]

/-- One session's part of a cleared EN of ING_CTRL. -/
def State.sessOff (s : State) (k : Nat) : State := (s.setFlag (Reg.ingSCtrl k) 0 false).shutSess k

theorem exec_ingDisable {data : Word} (hacc : s.accepts who Reg.ingCtrl (putBits data.toNat 0 0 0)) (hon : s.flag Reg.ingCtrl 0 = true) :
    exec (.ingDisable who data) s =
      .next (settle ((List.range 64).foldl State.sessOff (s.rowStored Reg.ingCtrl ingCtrlRow (putBits data.toNat 0 0 0)))) := by
  refine congrArg finish ((State.writeWord_ingCtrl hacc).2.trans ?_)
  rw [State.ingEffect, if_pos rfl, bitOf_putBits_zero, show bitOf (s.rd Reg.ingCtrl) 0 = true from hon]
  rfl

/-- A session that is closed stays so when it is closed again. -/
theorem Session.shut_shut (x : Session) : x.shut.shut = x.shut := rfl

theorem State.sessOff_sess (s : State) (k j : Nat) : (s.sessOff k).sess j = if j = k then (s.sess j).shut else s.sess j := by
  have hsessions : (s.sessOff k).ing.sessions = s.ing.sessions.set k (s.sess k).shut := State.shutSess_ing _ k
  rw [State.sess, hsessions, List.getD_eq_getElem?_getD, List.getElem?_set]
  by_cases hjk : j = k
  · subst hjk
    rw [if_pos rfl, if_pos rfl]
    split
    · rfl
    · next hout =>
      have hreset : s.sess j = Session.reset := List.getD_eq_default _ _ (Nat.le_of_not_lt hout)
      rw [hreset]
      rfl
  · rw [if_neg hjk, if_neg (Ne.symm hjk), ← List.getD_eq_getElem?_getD, State.sess]

theorem State.sessOff_words (s : State) (k : Nat) : s.wordsBut (s.sessOff k) [Reg.ingSCtrl k] :=
  WordsKept.regs (State.wordsBut_setFlag (State.wordsBut_refl s _) (List.mem_singleton_self _)) (State.shutSess_regs _ k)

theorem State.sessOff_flag (s : State) (k : Nat) : (s.sessOff k).flag (Reg.ingSCtrl k) 0 = false := by
  rw [State.sessOff, State.flag, State.rd, State.shutSess_regs]
  exact State.flag_setFlag_same s (Reg.ingSCtrl k) 0 false (by decide)

theorem ingSCtrl_inj {j k : Nat} (h : Reg.ingSCtrl j = Reg.ingSCtrl k) : j = k := by
  unfold Reg.ingSCtrl at h
  omega

/-- Sessions closed one after the other: those named are closed with EN 0, and the others and every other word stay. -/
theorem State.foldl_sessOff (l : List Nat) (s : State) :
    (∀ j, (l.foldl State.sessOff s).sess j = if j ∈ l then (s.sess j).shut else s.sess j) ∧
    (∀ j ∈ l, (l.foldl State.sessOff s).flag (Reg.ingSCtrl j) 0 = false) ∧
    ∀ x, (∀ j ∈ l, x ≠ Reg.ingSCtrl j) → (l.foldl State.sessOff s).rd x = s.rd x := by
  induction l generalizing s with
  | nil => exact ⟨fun j => rfl, fun j hj => absurd hj List.not_mem_nil, fun x _ => rfl⟩
  | cons k l ih =>
    obtain ⟨hsess, hflag, hwords⟩ := ih (s.sessOff k)
    refine ⟨fun j => ?_, fun j hj => ?_, fun x hx => ?_⟩
    · rw [List.foldl_cons, hsess, State.sessOff_sess]
      by_cases hjk : j = k
      · subst hjk
        rw [if_pos rfl, if_pos (List.mem_cons_self ..), Session.shut_shut, ite_self]
      · rw [if_neg hjk]
        exact if_congr (by rw [List.mem_cons, or_iff_right hjk]) rfl rfl
    · by_cases hjl : j ∈ l
      · exact hflag j hjl
      · obtain rfl := (List.mem_cons.1 hj).resolve_right hjl
        rw [List.foldl_cons, State.flag, hwords _ (fun i hi h => hjl (by rwa [ingSCtrl_inj h]))]
        exact s.sessOff_flag j
    · rw [List.foldl_cons, hwords x (fun j hj => hx j (List.mem_cons_of_mem _ hj))]
      exact s.sessOff_words k x (fun h => hx k (List.mem_cons_self ..) (List.mem_singleton.1 h))

/-! ### Injections (R153, R164) -/

/-- The row of ING_INJ_CTRL. -/
def ingInjCtrlRow : RegRow := row1 "ING_INJ_CTRL" 0x68 0 [fLen 13 0 .rw 32 8936, fAny 21 16 .rw, fAny 30 30 .ro, fAny 31 31 .w1s]

/-- An injection into session `j` is on its way with what memory gave for it. -/
def State.withInject (s : State) (j : Nat) (read : Option (List Byte)) : State :=
  { s with ing := { s.ing with inject := some (j, read.isNone, read.getD []) } }

theorem State.withInject_rd (s : State) (j : Nat) (read : Option (List Byte)) (x : Nat) : (s.withInject j read).rd x = s.rd x := rfl

theorem State.withInject_ing (s : State) (j : Nat) (read : Option (List Byte)) :
    (s.withInject j read).ing = { s.ing with inject := some (j, read.isNone, read.getD []) } := rfl

/-- The state after GO of an injection. -/
def State.injecting (s : State) (j : Nat) (read : Option (List Byte)) : State := (s.setFlag Reg.ingInjCtrl 30 false).withInject j read

theorem State.ingEffect_inject (s : State) {old : Nat} (hgo : bitOf data 31 = true) :
    s.ingEffect 0x68 old data = s.injecting (bitsOf data 21 16) (s.dramRead s.injAddr (bitsOf data 13 0)) := by
  rw [State.ingEffect, if_neg (by decide), if_pos rfl, if_pos hgo, State.injecting, State.withInject, State.setFlag_ing]

/-- GO of an injection reads 1 until it has ended, and its bytes are those that memory holds now. -/
theorem State.writeWord_ingInjCtrl (hacc : s.accepts who Reg.ingInjCtrl data) (hgo : bitOf data 31 = true) :
    (s.rowStored Reg.ingInjCtrl ingInjCtrlRow data).flag Reg.ingInjCtrl 31 = true ∧ s.writeWord who Reg.ingInjCtrl 4 data =
      (s.rowStored Reg.ingInjCtrl ingInjCtrlRow data).injecting (bitsOf data 21 16) (s.dramRead s.injAddr (bitsOf data 13 0)) := by
  obtain ⟨hlaid, hwrite⟩ := State.writeWord_ing_global (r := ingInjCtrlRow) (i := 0) (by decide) (by decide) (by decide) hacc rfl
  have haddr : (s.rowStored Reg.ingInjCtrl ingInjCtrlRow data).injAddr = s.injAddr := by
    rw [State.injAddr, State.rowStored_rd _ _ _ _ (by decide), State.rowStored_rd _ _ _ _ (by decide), State.injAddr]
  have hread : (s.rowStored Reg.ingInjCtrl ingInjCtrlRow data).dramRead s.injAddr (bitsOf data 13 0) = s.dramRead s.injAddr (bitsOf data 13 0) :=
    State.dramRead_wr s _ (by decide) (by decide) _ _
  refine ⟨?_, ?_⟩
  · have hsticky : (stickyMask Reg.ingInjCtrl).testBit 31 = true := by decide
    have hbit := State.rd_wr_stored_testBit (s := s) (a := Reg.ingInjCtrl) (sticky := stickyMask Reg.ingInjCtrl) (data := data)
      (f := fAny 31 31 .w1s) hlaid (by decide) (Nat.le_refl 31) (Nat.le_refl 31)
    rw [bitOf_testBit] at hgo
    rw [hgo, hsticky] at hbit
    rw [State.flag, bitOf_testBit]
    exact hbit.trans (Bool.or_true _)
  · rw [← hread, ← haddr]
    exact hwrite.trans (State.ingEffect_inject _ hgo)

theorem State.injecting_shown (s : State) (j : Nat) (read : Option (List Byte)) :
    (s.injecting j read).flag Reg.ingInjCtrl 31 = s.flag Reg.ingInjCtrl 31 ∧ (s.injecting j read).flag Reg.ingInjCtrl 30 = false ∧
    (s.injecting j read).ing = { s.ing with inject := some (j, read.isNone, read.getD []) } ∧ s.wordsBut (s.injecting j read) [Reg.ingInjCtrl] := by
  refine ⟨?_, ?_, ?_, fun x hx => ?_⟩
  · rw [State.flag, State.injecting, State.withInject_rd]
    exact State.flag_setFlag_other s Reg.ingInjCtrl 30 31 false (by decide) (by decide)
  · rw [State.flag, State.injecting, State.withInject_rd]
    exact State.flag_setFlag_same s Reg.ingInjCtrl 30 false (by decide)
  · rw [State.injecting, State.withInject_ing, State.setFlag_ing]
  · exact (State.withInject_rd _ j read x).trans (State.rd_setFlag_ne s 30 false (fun h => hx (List.mem_singleton.2 h)))

/-- No arrival starts or ends an injection (R137, R153). -/
theorem State.kstArrive_inject (s : State) (src : Nat) (inj : Option Nat) (reply : Option Reply) (adj : Int × Int) (bytes : List Byte)
    (stale : Bool) : (s.kstArrive src inj reply adj bytes stale).ing.inject = s.ing.inject := by
  have hfail : (s.add (Reg.ingStat 0) 1).kstHeaderFail.ing.inject = s.ing.inject := rfl
  have haccept : ∀ pl k, ((s.add (Reg.ingStat 0) 1).kstAccept k reply adj bytes pl).ing.inject = s.ing.inject :=
    fun pl k => (State.kstAccept_ingKept (s.add (Reg.ingStat 0) 1) k reply adj bytes pl).inject
  have hauth : ∀ k seq, ((s.add (Reg.ingStat 0) 1).kstAuthFail k seq).ing.inject = s.ing.inject :=
    fun k seq => (State.kstAuthFail_ingKept (s.add (Reg.ingStat 0) 1) k seq).inject
  have hite : ∀ {c : Prop} [Decidable c] {t u : State}, t.ing.inject = s.ing.inject → u.ing.inject = s.ing.inject →
      (if c then t else u).ing.inject = s.ing.inject := fun ht hu => by split <;> assumption
  unfold State.kstArrive
  dsimp only
  refine hite rfl (hite hfail (hite hfail (hite hfail (hite hfail (hite hfail (hite hfail (hite ?_ (haccept _ _))))))))
  split
  · exact haccept _ _
  · exact hauth _ _

theorem exec_injectGo {data : Word} (hacc : s.accepts who Reg.ingInjCtrl (putBits data.toNat 31 31 1)) : exec (.injectGo who data) s =
    .next (settle ((s.rowStored Reg.ingInjCtrl ingInjCtrlRow (putBits data.toNat 31 31 1)).injecting (bitsOf data.toNat 21 16)
      (s.dramRead s.injAddr (bitsOf data.toNat 13 0)))) := by
  have hsession := bitsOf_putBits_other data.toNat 31 31 1 21 16 (by decide) (by decide) (by decide)
  have hlength := bitsOf_putBits_other data.toNat 31 31 1 13 0 (by decide) (by decide) (by decide)
  have hwrite := (State.writeWord_ingInjCtrl hacc (bitOf_putBits_one _ _)).2
  rw [hsession, hlength] at hwrite
  exact congrArg finish hwrite

/-- No injection is on its way. -/
def State.noInject (s : State) : State := { s with ing := { s.ing with inject := none } }

/-- What an injection gives ingest: a poisoned read is a header that fails, and any other a datagram of the firmware's (R153). -/
def State.injected (s : State) (j : Nat) (bad : Bool) (bytes : List Byte) : State :=
  if bad then s.noInject.kstHeaderFail.setFlag Reg.ingInjCtrl 30 true else s.noInject.kstArrive 2 (some j) none (0, 0) bytes

/-- The end of an injection: GO is clear, and the event is raised. -/
def State.injectEnded (s : State) : State := (s.setFlag Reg.ingInjCtrl 31 false).raise 0x30000 5

theorem State.injectEnded_ing (s : State) : s.injectEnded.ing = s.ing := by rw [State.injectEnded, State.raise_ing, State.setFlag_ing]

theorem State.injectEnded_shown (s : State) : s.injectEnded.flag Reg.ingInjCtrl 31 = false ∧ s.injectEnded.flag 0x30010 5 = true ∧
    s.injectEnded.flag Reg.ingInjCtrl 30 = s.flag Reg.ingInjCtrl 30 ∧ s.injectEnded.rd (Reg.ingStat 1) = s.rd (Reg.ingStat 1) := by
  have hctrl : ∀ i, s.injectEnded.flag Reg.ingInjCtrl i = (s.setFlag Reg.ingInjCtrl 31 false).flag Reg.ingInjCtrl i := fun i => by
    rw [State.flag, State.injectEnded, State.rd_raise_ne _ _ (by decide), State.flag]
  rw [hctrl, hctrl]
  refine ⟨State.flag_setFlag_same _ _ 31 false (by decide), State.flag_raise_same _ 0x30000 5 (by decide),
    State.flag_setFlag_other _ _ 31 30 false (by decide) (by decide), ?_⟩
  rw [State.injectEnded, State.rd_raise_ne _ _ (by decide), State.rd_setFlag_ne _ _ _ (by decide)]

theorem exec_ingInjectDone {j : Nat} {bad : Bool} {bytes : List Byte} (h : s.ing.inject = some (j, bad, bytes)) :
    exec .ingInjectDone s = .next (settle (s.injected j bad bytes).injectEnded) := by
  refine congrArg finish ?_
  rw [State.injectDone, h]
  rfl

theorem State.injected_inject (s : State) (j : Nat) (bad : Bool) (bytes : List Byte) : (s.injected j bad bytes).ing.inject = none := by
  cases bad
  · exact State.kstArrive_inject s.noInject 2 (some j) none (0, 0) bytes false
  · rfl

/-- A poisoned read shows POISON, is counted as a failed header, and changes no session. -/
theorem State.injected_poisoned (s : State) (j : Nat) (bytes : List Byte) : (s.injected j true bytes).flag Reg.ingInjCtrl 30 = true ∧
    (s.injected j true bytes).rd (Reg.ingStat 1) = (s.rd (Reg.ingStat 1) + 1) % 2 ^ 32 ∧
    (s.injected j true bytes).ing.sessions = s.ing.sessions := by
  have hpoisoned : s.injected j true bytes = s.noInject.kstHeaderFail.setFlag Reg.ingInjCtrl 30 true := rfl
  rw [hpoisoned]
  refine ⟨State.flag_setFlag_same _ _ 30 true (by decide), ?_, ?_⟩
  · rw [State.rd_setFlag_ne _ _ _ (by decide), State.kstHeaderFail, State.rd_add_same]
    rfl
  · rw [State.setFlag_ing, State.kstHeaderFail, State.add_ing]
    rfl

end

/-- Settles O28: EN of a session opens or closes it alone, EN of ING_CTRL closes all of them, and an injection's end is its arrival. -/
theorem sessionsAndInjection : Obligations.SessionsAndInjection := by
  unfold Obligations.SessionsAndInjection
  intro s who data
  refine ⟨fun k hk => ⟨fun hacc hoff => ?_, fun hacc hon => ?_⟩, fun hacc => ?_, fun hacc hon => ?_, fun hacc => ?_, fun j bad bytes h => ?_⟩
  · obtain ⟨hflag, hscn, hsessions⟩ := State.sessionOpened_shown hk hacc (bitOf_putBits_one _ _)
    refine ⟨_, exec_sessionEnable hk hacc hoff, ?_⟩
    rw [settle_flag, settle_scn, settle_ing]
    exact ⟨hflag, hscn, hsessions⟩
  · have hne : Reg.ingSCtrl k ≠ Reg.ingStat 7 := by unfold Reg.ingSCtrl Reg.ingStat; omega
    refine ⟨_, exec_sessionClose hk hacc hon, ?_⟩
    rw [settle_flag, settle_ing, State.closeSess_flag _ _ hne, State.closeSess_sessions]
    exact ⟨(State.writeWord_ingSCtrl hk hacc).1.trans (bitOf_putBits_zero _ _), rfl⟩
  · refine ⟨_, exec_ingEnable hacc, ?_⟩
    rw [settle_flag, settle_ing, settle_scn, State.rowStored_ing, State.rowStored_scn]
    exact ⟨(State.writeWord_ingCtrl hacc).1.trans (bitOf_putBits_one _ _), rfl, rfl, State.wordsBut_settle (State.rowStored_words _ _ _ _)⟩
  · obtain ⟨hsess, hflag, hwords⟩ := State.foldl_sessOff (List.range 64) (s.rowStored Reg.ingCtrl ingCtrlRow (putBits data.toNat 0 0 0))
    have hctrl : ∀ j ∈ List.range 64, Reg.ingCtrl ≠ Reg.ingSCtrl j := fun j _ => by unfold Reg.ingCtrl Reg.ingSCtrl; omega
    refine ⟨_, exec_ingDisable hacc hon, ?_, fun k hk => ?_⟩
    · rw [settle_flag, State.flag, hwords _ hctrl]
      exact (State.writeWord_ingCtrl hacc).1.trans (bitOf_putBits_zero _ _)
    · rw [State.sess_of_ing (settle_ing _), hsess k, if_pos (List.mem_range.2 hk), settle_flag]
      exact ⟨rfl, rfl, rfl, hflag k (List.mem_range.2 hk)⟩
  · obtain ⟨hgo, hpoison, hing, hwords⟩ := State.injecting_shown (s.rowStored Reg.ingInjCtrl ingInjCtrlRow (putBits data.toNat 31 31 1))
      (bitsOf data.toNat 21 16) (s.dramRead s.injAddr (bitsOf data.toNat 13 0))
    refine ⟨_, exec_injectGo hacc, ?_⟩
    rw [settle_flag, settle_flag, settle_ing, hgo, hing, State.rowStored_ing]
    exact ⟨(State.writeWord_ingInjCtrl hacc (bitOf_putBits_one _ _)).1, hpoison, rfl,
      State.wordsBut_settle (State.wordsBut_trans (State.rowStored_words _ _ _ _) hwords)⟩
  · obtain ⟨hgo, hevent, hpoison, hcount⟩ := (s.injected j bad bytes).injectEnded_shown
    refine ⟨_, exec_ingInjectDone h, ?_⟩
    rw [settle_ing, settle_flag, settle_flag, settle_flag, settle_rd, State.injectEnded_ing, hpoison, hcount]
    refine ⟨s.injected_inject j bad bytes, hgo, hevent, fun hbad => ?_⟩
    subst hbad
    exact s.injected_poisoned j bytes

end Sys2Proof.Machine

/-! SUPPORT. Loads of calibration grids, LUTs and overdrive tables, with O35 (R196, R197, R223, R313). -/

namespace Sys2Proof.Machine

section
variable {s : State} {who : Requester} {a lo hi i : Nat} {r : RegRow} {p : PageDef}

/-! ### GO of a load -/

/-- An accepted write of a plain word stores the word and starts what the block of its page gives it. -/
theorem State.writeWord_onPage {data : Nat} (hpage : pageOf a = some p) (hrange : a < 0x400000) (hoff : 0x40 ≤ a % 0x1000)
    (hrow : rowFor p.rows (a % 0x1000) = some (r, i)) (hplain : ∀ f ∈ r.fields, f.kind ≠ .rws) (hacc : s.accepts who a data) :
    r.laid = true ∧ s.writeWord who a 4 data = ((s.rowStored a r data).blockEffect p (a % 0x1000) (s.rd a) data).certCheck s := by
  obtain ⟨q, hreached, hcode⟩ := hacc
  have hmod : a % 0x400000 = a := Nat.mod_eq_of_lt hrange
  obtain rfl : q = p := Option.some.inj ((State.reached_pageOf hreached).symm.trans (by rw [hmod, hpage]))
  have hwrite := State.writeWord_row hreached hcode (by rwa [hmod]) (by rwa [hmod]) hplain
  rw [hmod] at hreached hwrite
  exact ⟨State.reached_row_laid hreached hrow, hwrite⟩

/-- A trigger in bit 31 that reads 1 until its work has ended starts what the block of its page gives it. -/
theorem State.trigger_onPage {u : State} {data : Word} (hpage : pageOf a = some p) (hrange : a < 0x400000) (hoff : 0x40 ≤ a % 0x1000)
    (hrow : rowFor p.rows (a % 0x1000) = some (r, i)) (hplain : ∀ f ∈ r.fields, f.kind ≠ .rws) (hgo : fAny 31 31 .w1s ∈ r.fields)
    (hsticky : (stickyMask a).testBit 31 = true) (hacc : s.accepts who a (putBits data.toNat 31 31 1))
    (heffect : (s.rowStored a r (putBits data.toNat 31 31 1)).blockEffect p (a % 0x1000) (s.rd a) (putBits data.toNat 31 31 1) = u)
    (hsecu : u.secu = s.secu) :
    s.trigger who a 31 data = u ∧ (s.rowStored a r (putBits data.toNat 31 31 1)).flag a 31 = true := by
  obtain ⟨hlaid, hwrite⟩ := State.writeWord_onPage hpage hrange hoff hrow hplain hacc
  refine ⟨?_, ?_⟩
  · rw [State.trigger, hwrite, heffect]
    exact State.certCheck_same _ _ hsecu
  · have hone : (putBits data.toNat 31 31 1).testBit 31 = true := (bitOf_testBit _ _).symm.trans (bitOf_putBits_one _ _)
    rw [State.flag, bitOf_testBit]
    refine (State.rd_wr_stored_testBit hlaid hgo (Nat.le_refl 31) (Nat.le_refl 31)).trans ?_
    rw [hone, hsticky]
    exact Bool.or_true _

/-- GO of a load stays set over what is started with it, and no other word changes. -/
theorem State.rowStored_loading {u : State} {data : Nat} (hgo : (s.rowStored a r data).flag a 31 = true)
    (hrd : ∀ x, u.rd x = (s.rowStored a r data).rd x) : (settle u).flag a 31 = true ∧ s.wordsBut (settle u) [a] := by
  refine ⟨?_, State.wordsBut_settle fun x hx => (hrd x).trans (State.rowStored_words s a r data x hx)⟩
  rw [settle_flag, State.flag, hrd]
  exact hgo

/-- Storing a word outside the PWR page and the units' words, and beside a LO/HI pair, leaves what memory gives for the pair's address. -/
theorem State.dramRead_rowStored {data : Nat} (ha : a < 0x190000) (hlo : lo ≠ a) (hhi : hi ≠ a) (n : Nat) :
    (s.rowStored a r data).dramRead ((s.rowStored a r data).addr64 lo hi) n = s.dramRead (s.addr64 lo hi) n := by
  have haddr : (s.rowStored a r data).addr64 lo hi = s.addr64 lo hi := by
    rw [State.addr64, State.addr64, State.rowStored_rd _ _ _ _ hlo, State.rowStored_rd _ _ _ _ hhi]
  have h0 : Reg.pwrDomStat0 ≠ a := by unfold Reg.pwrDomStat0; omega
  have h1 : Reg.pwrDomStat1 ≠ a := by unfold Reg.pwrDomStat1; omega
  have hunits : ∀ u, Reg.svcUnit u ≠ a := fun u => by unfold Reg.svcUnit; omega
  rw [haddr]
  exact State.dramRead_congr (s.wr_dimms a _) (s.unitState_wr _ h0 h1 hunits) (s.wr_dram a _) (s.wr_poison a _) _ n

/-! ### The end of a load -/

/-- A load's end shows its code in STAT and raises its event. -/
def State.loadShown (s : State) (stat code b bit : Nat) : State := (s.setFld stat 31 16 code).raise b bit

theorem State.loadShown_syn (s : State) (stat code b bit : Nat) : (s.loadShown stat code b bit).syn = s.syn := by
  rw [State.loadShown, State.raise_syn, State.setFld_syn]
theorem State.loadShown_brc (s : State) (stat code b bit : Nat) : (s.loadShown stat code b bit).brc = s.brc := by
  rw [State.loadShown, State.raise_brc, State.setFld_brc]
theorem State.loadShown_pnl (s : State) (stat code b bit : Nat) : (s.loadShown stat code b bit).pnl = s.pnl := by
  rw [State.loadShown, State.raise_pnl, State.setFld_pnl]

theorem State.loadShown_rd (s : State) {stat b x : Nat} (code bit : Nat) (hstat : x ≠ stat) (hirq : x ≠ b + 0x10) :
    (s.loadShown stat code b bit).rd x = s.rd x := by
  rw [State.loadShown, State.rd_raise_ne _ _ hirq, State.rd_setFld_ne _ _ _ _ hstat]

/-- GO stays cleared at the end of a load, and STAT and the event say how it ended. -/
theorem State.loadShown_shown {ctrl stat code b bit : Nat} (hover : s.flag ctrl 31 = false) (hctrl : ctrl ≠ stat) (hirq : ctrl ≠ b + 0x10)
    (hstat : stat ≠ b + 0x10) (hcode : code < 65536) (hbit : bit < 32) :
    (s.loadShown stat code b bit).flag ctrl 31 = false ∧ (s.loadShown stat code b bit).fld stat 31 16 = code ∧
    (s.loadShown stat code b bit).flag (b + 0x10) bit = true := by
  refine ⟨?_, ?_, State.flag_raise_same _ _ _ hbit⟩
  · rw [State.flag, State.loadShown_rd _ _ _ hctrl hirq]
    exact hover
  · rw [State.fld, State.loadShown, State.rd_raise_ne _ _ hstat]
    exact (State.fld_setFld_same s stat 31 16 code (by decide) (by decide)).trans (Nat.mod_eq_of_lt hcode)

/-! ### Calibration grids (R196, R197) -/

/-- The row of SYN_GRID_LOAD_CTRL. -/
def synGridLoadRow : RegRow :=
  row1 "SYN_GRID_LOAD_CTRL" 0x4C 0x01200200 [fLen 9 0 .rw 2 512, fLen 24 16 .rw 2 288, fAny 28 28 .rw, fAny 31 31 .w1s]

/-- A grid of `w` times `h` is being loaded into bank `b`, which is invalid. -/
def State.gridLoading (s : State) (b w h : Nat) (bytes : Option (List Byte)) : State :=
  { s with syn := { s.syn with load := some (b, w, h, bytes),
                               banks := s.syn.banks.set b { valid := false, w := 0, h := 0, words := [] } } }

theorem State.gridLoading_secu (s : State) (b w h : Nat) (bytes : Option (List Byte)) : (s.gridLoading b w h bytes).secu = s.secu := rfl
theorem State.gridLoading_rd (s : State) (b w h : Nat) (bytes : Option (List Byte)) (x : Nat) : (s.gridLoading b w h bytes).rd x = s.rd x := rfl
theorem State.gridLoading_syn (s : State) (b w h : Nat) (bytes : Option (List Byte)) :
    (s.gridLoading b w h bytes).syn =
      { s.syn with load := some (b, w, h, bytes), banks := s.syn.banks.set b { valid := false, w := 0, h := 0, words := [] } } := rfl

theorem State.blockEffect_gridLoad (s : State) (old : Nat) {data : Nat} (hgo : bitOf data 31 = true) :
    s.blockEffect (groupPage (page 5 2 17 0 rowsSynGrid)) (Reg.synGridLoadCtrl % 0x1000) old data =
      s.gridLoading (bitsOf data 28 28) (bitsOf data 9 0) (bitsOf data 24 16)
        (s.dramRead (s.addr64 Reg.synGridLoadLo Reg.synGridLoadHi) (gridLoadLen data)) := by
  show s.synEffect 2 0x4C data = _
  rw [State.synEffect, if_pos ⟨rfl, rfl, hgo⟩]
  rfl

theorem State.trigger_synGridLoad {data : Word} (hacc : s.accepts who Reg.synGridLoadCtrl (putBits data.toNat 31 31 1)) :
    s.trigger who Reg.synGridLoadCtrl 31 data = (s.rowStored Reg.synGridLoadCtrl synGridLoadRow (putBits data.toNat 31 31 1)).gridLoading
      (bitsOf data.toNat 28 28) (bitsOf data.toNat 9 0) (bitsOf data.toNat 24 16)
      (s.dramRead (s.addr64 Reg.synGridLoadLo Reg.synGridLoadHi) (gridLoadLen data.toNat)) ∧
    (s.rowStored Reg.synGridLoadCtrl synGridLoadRow (putBits data.toNat 31 31 1)).flag Reg.synGridLoadCtrl 31 = true := by
  have hbank := bitsOf_putBits_other data.toNat 31 31 1 28 28 (by decide) (by decide) (by decide)
  have hwidth := bitsOf_putBits_other data.toNat 31 31 1 9 0 (by decide) (by decide) (by decide)
  have hheight := bitsOf_putBits_other data.toNat 31 31 1 24 16 (by decide) (by decide) (by decide)
  have hlen : gridLoadLen (putBits data.toNat 31 31 1) = gridLoadLen data.toNat := by
    rw [gridLoadLen, gridLoadLen, hwidth, hheight]
  refine State.trigger_onPage (p := groupPage (page 5 2 17 0 rowsSynGrid)) (i := 0) rfl (by decide) (by decide) rfl (by decide) (by decide)
    (by decide) hacc ?_ ((State.gridLoading_secu _ _ _ _ _).trans (s.wr_secu _ _))
  rw [State.blockEffect_gridLoad _ _ (bitOf_putBits_one _ _), hbank, hwidth, hheight, hlen,
    State.dramRead_rowStored (by decide) (by decide) (by decide)]

/-- A grid load is over: GO is clear, and DIM shows the size. -/
def State.gridLoadOver (s : State) (b w h : Nat) : State :=
  (({ s with syn := { s.syn with load := none } } : State).setFlag Reg.synGridLoadCtrl 31 false).wr
    (if b = 0 then Reg.synGridDim0 else Reg.synGridDim1) (w + h * 65536)

/-- Bank `b` holds `x`. -/
def State.withGrid (s : State) (b : Nat) (x : GridBank) : State := { s with syn := { s.syn with banks := s.syn.banks.set b x } }

theorem State.gridLoadOver_go (s : State) (b w h : Nat) : (s.gridLoadOver b w h).flag Reg.synGridLoadCtrl 31 = false := by
  have hdim : Reg.synGridLoadCtrl ≠ if b = 0 then Reg.synGridDim0 else Reg.synGridDim1 := by split <;> decide
  rw [State.flag, State.gridLoadOver, State.rd_wr_ne _ _ hdim]
  exact State.flag_setFlag_same _ _ 31 false (by decide)

theorem State.withGrid_flag (s : State) (b : Nat) (x : GridBank) (a i : Nat) : (s.withGrid b x).flag a i = s.flag a i := rfl
theorem State.withGrid_syn (s : State) (b : Nat) (x : GridBank) : (s.withGrid b x).syn = { s.syn with banks := s.syn.banks.set b x } := rfl

theorem State.gridLoadOver_syn (s : State) (b w h : Nat) : (s.gridLoadOver b w h).syn = { s.syn with load := none } := by
  rw [State.gridLoadOver, State.wr_syn, State.setFlag_syn]

theorem State.gridLoaded_good {b w h : Nat} {bytes : Option (List Byte)} {words : List Nat} (hload : s.syn.load = some (b, w, h, bytes))
    (hwords : bytes.bind (checkedWords (w * h)) = some words) : s.gridLoaded =
      ((s.gridLoadOver b w h).withGrid b { valid := true, w := w, h := h, words := words }).loadShown Reg.synGridStat 0 0x50000 0 := by
  rw [State.gridLoaded, hload]
  dsimp only
  rw [hwords]
  rfl

theorem State.gridLoaded_bad {b w h : Nat} {bytes : Option (List Byte)} (hload : s.syn.load = some (b, w, h, bytes))
    (hwords : bytes.bind (checkedWords (w * h)) = none) :
    s.gridLoaded = (s.gridLoadOver b w h).loadShown Reg.synGridStat 0x502 0x50000 1 := by
  rw [State.gridLoaded, hload]
  dsimp only
  rw [hwords]
  rfl

/-- A grid whose check value is right stands in its bank. -/
theorem State.gridLoaded_holds {b w h : Nat} {bytes : Option (List Byte)} {words : List Nat} (hload : s.syn.load = some (b, w, h, bytes))
    (hwords : bytes.bind (checkedWords (w * h)) = some words) :
    s.gridLoaded.syn = { s.syn with load := none, banks := s.syn.banks.set b { valid := true, w := w, h := h, words := words } } ∧
    s.gridLoaded.flag Reg.synGridLoadCtrl 31 = false ∧ s.gridLoaded.fld Reg.synGridStat 31 16 = 0 ∧ s.gridLoaded.flag 0x50010 0 = true := by
  rw [State.gridLoaded_good hload hwords]
  refine ⟨?_, State.loadShown_shown (b := 0x50000) ?_ (by decide) (by decide) (by decide) (by decide) (by decide)⟩
  · rw [State.loadShown_syn, State.withGrid_syn, State.gridLoadOver_syn]
  · exact (State.withGrid_flag _ _ _ _ _).trans (s.gridLoadOver_go b w h)

/-- Any other leaves its bank invalid. -/
theorem State.gridLoaded_fails {b w h : Nat} {bytes : Option (List Byte)} (hload : s.syn.load = some (b, w, h, bytes))
    (hwords : bytes.bind (checkedWords (w * h)) = none) : s.gridLoaded.syn = { s.syn with load := none } ∧
    s.gridLoaded.flag Reg.synGridLoadCtrl 31 = false ∧ s.gridLoaded.fld Reg.synGridStat 31 16 = 0x502 ∧ s.gridLoaded.flag 0x50010 1 = true := by
  rw [State.gridLoaded_bad hload hwords]
  refine ⟨?_, State.loadShown_shown (b := 0x50000) (s.gridLoadOver_go b w h) (by decide) (by decide) (by decide) (by decide) (by decide)⟩
  rw [State.loadShown_syn, State.gridLoadOver_syn]

/-! ### LUTs (R223) -/

/-- The row of BRC_LUT_LOAD_CTRL. -/
def brcLutLoadRow : RegRow := row1 "BRC_LUT_LOAD_CTRL" 0x78 0 [fAny 0 0 .rw, fAny 31 31 .w1s]

/-- A LUT is being loaded into bank `b`, which holds none. -/
def State.lutLoading (s : State) (b : Nat) (bytes : Option (List Byte)) : State :=
  { s with brc := { s.brc with lutLoad := some (b, bytes), luts := s.brc.luts.set b none } }

theorem State.lutLoading_secu (s : State) (b : Nat) (bytes : Option (List Byte)) : (s.lutLoading b bytes).secu = s.secu := rfl
theorem State.lutLoading_rd (s : State) (b : Nat) (bytes : Option (List Byte)) (x : Nat) : (s.lutLoading b bytes).rd x = s.rd x := rfl
theorem State.lutLoading_brc (s : State) (b : Nat) (bytes : Option (List Byte)) :
    (s.lutLoading b bytes).brc = { s.brc with lutLoad := some (b, bytes), luts := s.brc.luts.set b none } := rfl

theorem State.blockEffect_lutLoad (s : State) (old : Nat) {data : Nat} (hgo : bitOf data 31 = true) :
    s.blockEffect { page 7 0 16 0x1F rowsBrc with shadow := true } (Reg.brcLutLoadCtrl % 0x1000) old data =
      s.lutLoading (bitsOf data 0 0) (s.dramRead (s.addr64 Reg.brcLutLoadLo Reg.brcLutLoadHi) 6156) := by
  show s.brcEffect 0 0x78 old data = _
  rw [State.brcEffect, if_pos rfl, if_pos ⟨rfl, hgo⟩]
  rfl

theorem State.trigger_brcLutLoad {data : Word} (hacc : s.accepts who Reg.brcLutLoadCtrl (putBits data.toNat 31 31 1)) :
    s.trigger who Reg.brcLutLoadCtrl 31 data = (s.rowStored Reg.brcLutLoadCtrl brcLutLoadRow (putBits data.toNat 31 31 1)).lutLoading
      (bitsOf data.toNat 0 0) (s.dramRead (s.addr64 Reg.brcLutLoadLo Reg.brcLutLoadHi) 6156) ∧
    (s.rowStored Reg.brcLutLoadCtrl brcLutLoadRow (putBits data.toNat 31 31 1)).flag Reg.brcLutLoadCtrl 31 = true := by
  have hbank := bitsOf_putBits_other data.toNat 31 31 1 0 0 (by decide) (by decide) (by decide)
  refine State.trigger_onPage (p := { page 7 0 16 0x1F rowsBrc with shadow := true }) (i := 0) rfl (by decide) (by decide) rfl (by decide)
    (by decide) (by decide) hacc ?_ ((State.lutLoading_secu _ _ _).trans (s.wr_secu _ _))
  rw [State.blockEffect_lutLoad _ _ (bitOf_putBits_one _ _), hbank, State.dramRead_rowStored (by decide) (by decide) (by decide)]

/-- A LUT load is over, and GO is clear. -/
def State.lutLoadOver (s : State) : State := ({ s with brc := { s.brc with lutLoad := none } } : State).setFlag Reg.brcLutLoadCtrl 31 false

/-- LUT bank `b` holds `nodes`. -/
def State.withLut (s : State) (b : Nat) (nodes : List Nat) : State := { s with brc := { s.brc with luts := s.brc.luts.set b (some nodes) } }

/-- The nodes of an image whose check value is right. -/
def lutNodes (bytes : Option (List Byte)) : Option (List Nat) :=
  bytes.bind (fun bs => if leNat (slice bs 6152 4) = crc32c (bs.take 6152) then
    some ((List.range 3075).map (fun i => leNat (slice bs (2 * i) 2))) else none)

theorem lutNodes_good {bs : List Byte} (h : leNat (slice bs 6152 4) = crc32c (bs.take 6152)) :
    lutNodes (some bs) = some ((List.range 3075).map (fun i => leNat (slice bs (2 * i) 2))) := if_pos h

theorem lutNodes_bad {bytes : Option (List Byte)} (h : ∀ bs, bytes = some bs → leNat (slice bs 6152 4) ≠ crc32c (bs.take 6152)) :
    lutNodes bytes = none := by
  cases bytes with
  | none => rfl
  | some bs => exact if_neg (h bs rfl)

theorem State.lutLoadOver_go (s : State) : s.lutLoadOver.flag Reg.brcLutLoadCtrl 31 = false := State.flag_setFlag_same _ _ 31 false (by decide)

theorem State.lutLoadOver_brc (s : State) : s.lutLoadOver.brc = { s.brc with lutLoad := none } := by
  rw [State.lutLoadOver, State.setFlag_brc]

theorem State.withLut_flag (s : State) (b : Nat) (nodes : List Nat) (a i : Nat) : (s.withLut b nodes).flag a i = s.flag a i := rfl
theorem State.withLut_brc (s : State) (b : Nat) (nodes : List Nat) :
    (s.withLut b nodes).brc = { s.brc with luts := s.brc.luts.set b (some nodes) } := rfl

theorem State.lutLoaded_good {b : Nat} {bytes : Option (List Byte)} {nodes : List Nat} (hload : s.brc.lutLoad = some (b, bytes))
    (hnodes : lutNodes bytes = some nodes) : s.lutLoaded = (s.lutLoadOver.withLut b nodes).loadShown Reg.brcLutStat 0 0x70000 2 := by
  unfold lutNodes at hnodes
  rw [State.lutLoaded, hload]
  dsimp only
  rw [hnodes]
  rfl

theorem State.lutLoaded_bad {b : Nat} {bytes : Option (List Byte)} (hload : s.brc.lutLoad = some (b, bytes))
    (hnodes : lutNodes bytes = none) : s.lutLoaded = s.lutLoadOver.loadShown Reg.brcLutStat 0x704 0x70000 3 := by
  unfold lutNodes at hnodes
  rw [State.lutLoaded, hload]
  dsimp only
  rw [hnodes]
  rfl

/-- A LUT whose image passes its check stands in its bank. -/
theorem State.lutLoaded_holds {b : Nat} {bytes : Option (List Byte)} {nodes : List Nat} (hload : s.brc.lutLoad = some (b, bytes))
    (hnodes : lutNodes bytes = some nodes) :
    s.lutLoaded.brc = { s.brc with lutLoad := none, luts := s.brc.luts.set b (some nodes) } ∧
    s.lutLoaded.flag Reg.brcLutLoadCtrl 31 = false ∧ s.lutLoaded.fld Reg.brcLutStat 31 16 = 0 ∧ s.lutLoaded.flag 0x70010 2 = true := by
  rw [State.lutLoaded_good hload hnodes]
  refine ⟨?_, State.loadShown_shown (b := 0x70000) ?_ (by decide) (by decide) (by decide) (by decide) (by decide)⟩
  · rw [State.loadShown_brc, State.withLut_brc, State.lutLoadOver_brc]
  · exact (State.withLut_flag _ _ _ _ _).trans s.lutLoadOver_go

/-- Any other leaves its bank without one. -/
theorem State.lutLoaded_fails {b : Nat} {bytes : Option (List Byte)} (hload : s.brc.lutLoad = some (b, bytes))
    (hnodes : lutNodes bytes = none) : s.lutLoaded.brc = { s.brc with lutLoad := none } ∧
    s.lutLoaded.flag Reg.brcLutLoadCtrl 31 = false ∧ s.lutLoaded.fld Reg.brcLutStat 31 16 = 0x704 ∧ s.lutLoaded.flag 0x70010 3 = true := by
  rw [State.lutLoaded_bad hload hnodes]
  refine ⟨?_, State.loadShown_shown (b := 0x70000) s.lutLoadOver_go (by decide) (by decide) (by decide) (by decide) (by decide)⟩
  rw [State.loadShown_brc, State.lutLoadOver_brc]

/-! ### Overdrive tables (R313) -/

/-- The row of PNL_OD_LOAD_CTRL. -/
def pnlOdLoadRow : RegRow := row1 "PNL_OD_LOAD_CTRL" 0x54 0 [fAny 0 0 .rw, fAny 31 31 .w1s]

/-- An overdrive table is being loaded into bank `b`, which holds none. -/
def State.odLoading (s : State) (b : Nat) (bytes : Option (List Byte)) : State :=
  { s with pnl := { s.pnl with odLoad := some (b, bytes), odBanks := s.pnl.odBanks.set b none } }

theorem State.odLoading_secu (s : State) (b : Nat) (bytes : Option (List Byte)) : (s.odLoading b bytes).secu = s.secu := rfl
theorem State.odLoading_rd (s : State) (b : Nat) (bytes : Option (List Byte)) (x : Nat) : (s.odLoading b bytes).rd x = s.rd x := rfl
theorem State.odLoading_pnl (s : State) (b : Nat) (bytes : Option (List Byte)) :
    (s.odLoading b bytes).pnl = { s.pnl with odLoad := some (b, bytes), odBanks := s.pnl.odBanks.set b none } := rfl

theorem State.blockEffect_odLoad (s : State) (old : Nat) {data : Nat} (hgo : bitOf data 31 = true) :
    s.blockEffect { page 0xB 1 21 7 rowsPnlLcd with shadow := true } (Reg.pnlOdLoadCtrl % 0x1000) old data =
      s.odLoading (bitsOf data 0 0) (s.dramRead (s.addr64 Reg.pnlOdLoadLo Reg.pnlOdLoadHi) 4628) := by
  show s.pnlEffect 1 0x54 data = _
  rw [State.pnlEffect, if_neg (by decide), if_pos rfl, if_pos ⟨rfl, hgo⟩]
  rfl

theorem State.trigger_pnlOdLoad {data : Word} (hacc : s.accepts who Reg.pnlOdLoadCtrl (putBits data.toNat 31 31 1)) :
    s.trigger who Reg.pnlOdLoadCtrl 31 data = (s.rowStored Reg.pnlOdLoadCtrl pnlOdLoadRow (putBits data.toNat 31 31 1)).odLoading
      (bitsOf data.toNat 0 0) (s.dramRead (s.addr64 Reg.pnlOdLoadLo Reg.pnlOdLoadHi) 4628) ∧
    (s.rowStored Reg.pnlOdLoadCtrl pnlOdLoadRow (putBits data.toNat 31 31 1)).flag Reg.pnlOdLoadCtrl 31 = true := by
  have hbank := bitsOf_putBits_other data.toNat 31 31 1 0 0 (by decide) (by decide) (by decide)
  refine State.trigger_onPage (p := { page 0xB 1 21 7 rowsPnlLcd with shadow := true }) (i := 0) rfl (by decide) (by decide) rfl (by decide)
    (by decide) (by decide) hacc ?_ ((State.odLoading_secu _ _ _).trans (s.wr_secu _ _))
  rw [State.blockEffect_odLoad _ _ (bitOf_putBits_one _ _), hbank, State.dramRead_rowStored (by decide) (by decide) (by decide)]

/-- An overdrive load is over, and GO is clear. -/
def State.odLoadOver (s : State) : State := ({ s with pnl := { s.pnl with odLoad := none } } : State).setFlag Reg.pnlOdLoadCtrl 31 false

/-- Overdrive bank `b` holds `nodes`. -/
def State.withOd (s : State) (b : Nat) (nodes : List Nat) : State := { s with pnl := { s.pnl with odBanks := s.pnl.odBanks.set b (some nodes) } }

/-- The nodes of an image whose check value is right and none of whose nodes is too large. -/
def odNodes (bytes : Option (List Byte)) : Option (List Nat) :=
  bytes.bind (fun bs =>
    let nodes := (List.range 2312).map (fun i => leNat (slice bs (2 * i) 2))
    if leNat (slice bs 4624 4) = crc32c (bs.take 4624) ∧ nodes.all (fun n => decide (n < 4096)) then some nodes else none)

/-- The model's check of the nodes, node by node. -/
theorem odNodes_all (bs : List Byte) : ((List.range 2312).map (fun i => leNat (slice bs (2 * i) 2))).all (fun n => decide (n < 4096)) = true ↔
    ∀ k, k < 2312 → leNat (slice bs (2 * k) 2) < 4096 := by
  simp only [List.all_map, List.all_eq_true, List.mem_range, Function.comp_apply, decide_eq_true_eq]

theorem odNodes_good {bs : List Byte} (hcrc : leNat (slice bs 4624 4) = crc32c (bs.take 4624))
    (hnodes : ∀ k, k < 2312 → leNat (slice bs (2 * k) 2) < 4096) :
    odNodes (some bs) = some ((List.range 2312).map (fun i => leNat (slice bs (2 * i) 2))) := if_pos ⟨hcrc, (odNodes_all bs).2 hnodes⟩

theorem odNodes_bad {bytes : Option (List Byte)} (h : ∀ bs, bytes = some bs →
    leNat (slice bs 4624 4) ≠ crc32c (bs.take 4624) ∨ ∃ k, k < 2312 ∧ 4096 ≤ leNat (slice bs (2 * k) 2)) : odNodes bytes = none := by
  cases bytes with
  | none => rfl
  | some bs =>
    refine if_neg fun ⟨hcrc, hall⟩ => ?_
    obtain hne | ⟨k, hk, hlarge⟩ := h bs rfl
    · exact hne hcrc
    · exact absurd ((odNodes_all bs).1 hall k hk) (Nat.not_lt.2 hlarge)

theorem State.odLoadOver_go (s : State) : s.odLoadOver.flag Reg.pnlOdLoadCtrl 31 = false := State.flag_setFlag_same _ _ 31 false (by decide)

theorem State.odLoadOver_pnl (s : State) : s.odLoadOver.pnl = { s.pnl with odLoad := none } := by
  rw [State.odLoadOver, State.setFlag_pnl]

theorem State.withOd_flag (s : State) (b : Nat) (nodes : List Nat) (a i : Nat) : (s.withOd b nodes).flag a i = s.flag a i := rfl
theorem State.withOd_pnl (s : State) (b : Nat) (nodes : List Nat) :
    (s.withOd b nodes).pnl = { s.pnl with odBanks := s.pnl.odBanks.set b (some nodes) } := rfl

theorem State.odLoaded_good {b : Nat} {bytes : Option (List Byte)} {nodes : List Nat} (hload : s.pnl.odLoad = some (b, bytes))
    (hnodes : odNodes bytes = some nodes) : s.odLoaded = (s.odLoadOver.withOd b nodes).loadShown Reg.pnlOdStat 0 0xB1000 0 := by
  unfold odNodes at hnodes
  rw [State.odLoaded, hload]
  dsimp only at hnodes ⊢
  rw [hnodes]
  rfl

theorem State.odLoaded_bad {b : Nat} {bytes : Option (List Byte)} (hload : s.pnl.odLoad = some (b, bytes))
    (hnodes : odNodes bytes = none) : s.odLoaded = s.odLoadOver.loadShown Reg.pnlOdStat 0xB03 0xB1000 1 := by
  unfold odNodes at hnodes
  rw [State.odLoaded, hload]
  dsimp only at hnodes ⊢
  rw [hnodes]
  rfl

/-- An overdrive table whose image passes its check stands in its bank. -/
theorem State.odLoaded_holds {b : Nat} {bytes : Option (List Byte)} {nodes : List Nat} (hload : s.pnl.odLoad = some (b, bytes))
    (hnodes : odNodes bytes = some nodes) :
    s.odLoaded.pnl = { s.pnl with odLoad := none, odBanks := s.pnl.odBanks.set b (some nodes) } ∧
    s.odLoaded.flag Reg.pnlOdLoadCtrl 31 = false ∧ s.odLoaded.fld Reg.pnlOdStat 31 16 = 0 ∧ s.odLoaded.flag 0xB1010 0 = true := by
  rw [State.odLoaded_good hload hnodes]
  refine ⟨?_, State.loadShown_shown (b := 0xB1000) ?_ (by decide) (by decide) (by decide) (by decide) (by decide)⟩
  · rw [State.loadShown_pnl, State.withOd_pnl, State.odLoadOver_pnl]
  · exact (State.withOd_flag _ _ _ _ _).trans s.odLoadOver_go

/-- Any other leaves its bank without one. -/
theorem State.odLoaded_fails {b : Nat} {bytes : Option (List Byte)} (hload : s.pnl.odLoad = some (b, bytes))
    (hnodes : odNodes bytes = none) : s.odLoaded.pnl = { s.pnl with odLoad := none } ∧
    s.odLoaded.flag Reg.pnlOdLoadCtrl 31 = false ∧ s.odLoaded.fld Reg.pnlOdStat 31 16 = 0xB03 ∧ s.odLoaded.flag 0xB1010 1 = true := by
  rw [State.odLoaded_bad hload hnodes]
  refine ⟨?_, State.loadShown_shown (b := 0xB1000) s.odLoadOver_go (by decide) (by decide) (by decide) (by decide) (by decide)⟩
  rw [State.loadShown_pnl, State.odLoadOver_pnl]


end

/-- Settles O35: GO is one stored word and one load on its way, and the end of a load goes by what its check says of the image. -/
theorem tableLoads : Obligations.TableLoads := by
  unfold Obligations.TableLoads
  intro s who data
  refine ⟨fun hacc => ?_, fun b w h bytes hload => ?_, fun hacc => ?_, fun b bytes hload => ?_, fun hacc => ?_, fun b bytes hload => ?_⟩
  · obtain ⟨hstart, hgo⟩ := State.trigger_synGridLoad hacc
    obtain ⟨hflag, hwords⟩ := State.rowStored_loading hgo (State.gridLoading_rd _ _ _ _ _)
    refine ⟨_, congrArg finish hstart, hflag, hwords, ?_⟩
    rw [settle_syn, State.gridLoading_syn, State.rowStored, State.wr_syn]
    exact ⟨rfl, rfl⟩
  · refine ⟨settle s.gridLoaded, rfl, ?_⟩
    rw [settle_syn, settle_flag, settle_fld, settle_flag, settle_flag]
    cases hwords : bytes.bind (checkedWords (w * h)) with
    | some words =>
      obtain ⟨hsyn, hgo, hstat, hevent⟩ := State.gridLoaded_holds hload hwords
      rw [hsyn]
      refine ⟨rfl, hgo, fun l hl => ?_, fun hnone => nomatch hnone⟩
      obtain rfl := Option.some.inj hl
      exact ⟨rfl, hstat, hevent⟩
    | none =>
      obtain ⟨hsyn, hgo, hstat, hevent⟩ := State.gridLoaded_fails hload hwords
      rw [hsyn]
      exact ⟨rfl, hgo, fun l hl => (nomatch hl), fun _ => ⟨rfl, hstat, hevent⟩⟩
  · obtain ⟨hstart, hgo⟩ := State.trigger_brcLutLoad hacc
    obtain ⟨hflag, hwords⟩ := State.rowStored_loading hgo (State.lutLoading_rd _ _ _)
    refine ⟨_, congrArg finish hstart, hflag, hwords, ?_⟩
    rw [settle_brc, State.lutLoading_brc, State.rowStored, State.wr_brc]
  · refine ⟨settle s.lutLoaded, rfl, ?_⟩
    rw [settle_brc, settle_flag, settle_fld, settle_flag, settle_flag]
    by_cases hgood : ∃ bs, bytes = some bs ∧ leNat (slice bs 6152 4) = crc32c (bs.take 6152)
    · obtain ⟨bs, rfl, hcrc⟩ := hgood
      obtain ⟨hbrc, hgo, hstat, hevent⟩ := State.lutLoaded_holds hload (lutNodes_good hcrc)
      rw [hbrc]
      refine ⟨rfl, hgo, fun cs hcs _ => ?_, fun hbad => absurd hcrc (hbad bs rfl)⟩
      obtain rfl := Option.some.inj hcs
      exact ⟨rfl, hstat, hevent⟩
    · have hbad : ∀ bs, bytes = some bs → leNat (slice bs 6152 4) ≠ crc32c (bs.take 6152) := fun bs hbs hcrc => hgood ⟨bs, hbs, hcrc⟩
      obtain ⟨hbrc, hgo, hstat, hevent⟩ := State.lutLoaded_fails hload (lutNodes_bad hbad)
      rw [hbrc]
      exact ⟨rfl, hgo, fun bs hbs hcrc => absurd hcrc (hbad bs hbs), fun _ => ⟨rfl, hstat, hevent⟩⟩
  · obtain ⟨hstart, hgo⟩ := State.trigger_pnlOdLoad hacc
    obtain ⟨hflag, -⟩ := State.rowStored_loading hgo (State.odLoading_rd _ _ _)
    refine ⟨_, congrArg finish hstart, hflag, ?_⟩
    rw [settle_pnl, State.odLoading_pnl, State.rowStored, State.wr_pnl]
    exact ⟨rfl, rfl⟩
  · refine ⟨settle s.odLoaded, rfl, ?_⟩
    rw [settle_pnl, settle_flag, settle_fld, settle_flag, settle_flag]
    by_cases hgood : ∃ bs, bytes = some bs ∧ leNat (slice bs 4624 4) = crc32c (bs.take 4624) ∧
        ∀ k, k < 2312 → leNat (slice bs (2 * k) 2) < 4096
    · obtain ⟨bs, rfl, hcrc, hsmall⟩ := hgood
      obtain ⟨hpnl, hgo, hstat, hevent⟩ := State.odLoaded_holds hload (odNodes_good hcrc hsmall)
      rw [hpnl]
      refine ⟨rfl, hgo, fun cs hcs _ _ => ?_, fun hbad => ?_⟩
      · obtain rfl := Option.some.inj hcs
        exact ⟨rfl, hstat, hevent⟩
      · obtain hne | ⟨k, hk, hlarge⟩ := hbad bs rfl
        · exact absurd hcrc hne
        · exact absurd (hsmall k hk) (Nat.not_lt.2 hlarge)
    · have hnodes : odNodes bytes = none := odNodes_bad fun bs hbs => by
        by_contra hnot
        rw [not_or, not_not] at hnot
        exact hgood ⟨bs, hbs, hnot.1, fun k hk => Nat.lt_of_not_le fun hlarge => hnot.2 ⟨k, hk, hlarge⟩⟩
      obtain ⟨hpnl, hgo, hstat, hevent⟩ := State.odLoaded_fails hload hnodes
      rw [hpnl]
      exact ⟨rfl, hgo, fun bs hbs hcrc hsmall => absurd ⟨bs, hbs, hcrc, hsmall⟩ hgood, fun _ => ⟨rfl, hstat, hevent⟩⟩

end Sys2Proof.Machine

/-! SUPPORT. Tiles by name: what replacing a tile leaves of the others, and how claims are given back (R234, R238, R244). -/

namespace Sys2Proof.Machine

section
variable {s t : State} {x y : Tile} {g h : Hold}

/-! ### The tile a hold names -/

theorem Tile.isHold_iff : x.isHold g = true ↔ x.frame = g.frame ∧ x.region = g.region ∧ x.band = g.band ∧ x.col = g.col := by
  simp only [Tile.isHold, Bool.and_eq_true, beq_iff_eq, and_assoc]

theorem Tile.isHold_hold (x : Tile) : x.isHold x.hold = true := Tile.isHold_iff.2 ⟨rfl, rfl, rfl, rfl⟩

/-- Two holds that name one tile name the same tiles. -/
theorem Tile.isHold_congr (hg : x.isHold g = true) (hh : x.isHold h = true) (y : Tile) : y.isHold h = y.isHold g := by
  obtain ⟨hframe, hregion, hband, hcol⟩ := Tile.isHold_iff.1 hg
  obtain ⟨hframe', hregion', hband', hcol'⟩ := Tile.isHold_iff.1 hh
  rw [Tile.isHold, Tile.isHold, ← hframe, ← hregion, ← hband, ← hcol, hframe', hregion', hband', hcol']

theorem State.tileOf_of_tiles (h : t.brc.tiles = s.brc.tiles) (g : Hold) : t.tileOf g = s.tileOf g := by rw [State.tileOf, State.tileOf, h]

theorem State.tileOf_of_brc (h : t.brc = s.brc) (g : Hold) : t.tileOf g = s.tileOf g := State.tileOf_of_tiles (by rw [h]) g

theorem State.isHold_of_tileOf (h : s.tileOf g = some x) : x.isHold g = true :=
  List.find?_some (p := fun y : Tile => y.isHold g) h

theorem State.tileOf_congr (hg : x.isHold g = true) (hh : x.isHold h = true) : s.tileOf h = s.tileOf g := by
  rw [State.tileOf, State.tileOf, funext (Tile.isHold_congr hg hh)]

/-- Replacing a tile by one of the same name leaves which names stand in the list. -/
theorem Tile.isHold_replaced (x y : Tile) (g : Hold) : (if y.isHold x.hold then x else y).isHold g = y.isHold g := by
  split
  case isTrue hy =>
    obtain ⟨hframe, hregion, hband, hcol⟩ := Tile.isHold_iff.1 hy
    rw [Tile.isHold, Tile.isHold, hframe, hregion, hband, hcol]
    rfl
  case isFalse => rfl

/-- A tile that is replaced is found in its new form, and any other as before. -/
theorem State.tileOf_setTile (s : State) (x : Tile) (g : Hold) :
    (s.setTile x).tileOf g = (s.tileOf g).map (fun y => if y.isHold x.hold then x else y) := by
  rw [State.tileOf, State.setTile, List.find?_map, State.tileOf]
  exact congrArg (fun p => (s.brc.tiles.find? p).map _) (funext fun y => Tile.isHold_replaced x y g)

theorem State.tileOf_setTile_same (hg : s.tileOf g = some y) (hx : x.isHold g = true) : (s.setTile x).tileOf g = some x := by
  have hy : y.isHold x.hold = true := (Tile.isHold_congr hx x.isHold_hold y).trans (State.isHold_of_tileOf hg)
  rw [State.tileOf_setTile, hg, Option.map_some, if_pos hy]

theorem State.tileOf_setTile_ne (hx : x.isHold g = false) : (s.setTile x).tileOf g = s.tileOf g := by
  rw [State.tileOf_setTile]
  cases hg : s.tileOf g with
  | none => rfl
  | some y =>
    have hy : ¬ y.isHold x.hold = true := fun hy => by
      have hcontra := Tile.isHold_congr hy (State.isHold_of_tileOf hg) x
      rw [hx, x.isHold_hold] at hcontra
      exact Bool.noConfusion hcontra
    rw [Option.map_some, if_neg hy]

/-! ### Claims given back (R238, R244) -/

/-- A tile that is not claimed stays as it is when a claim is given back. -/
theorem State.unclaim_tileOf (hg : s.tileOf g = some x) (hstate : x.state ≠ .claimed) (h : Hold) : (s.unclaim h).tileOf g = some x := by
  unfold State.unclaim
  split
  case h_1 y hy =>
    split
    case isTrue hclaimed =>
      refine (State.tileOf_setTile_ne (Bool.eq_false_iff.2 fun hname => hstate ?_)).trans hg
      have hsame : s.tileOf h = s.tileOf g := State.tileOf_congr (x := y) hname (State.isHold_of_tileOf hy)
      obtain rfl : y = x := Option.some.inj (hy.symm.trans (hsame.trans hg))
      exact hclaimed.1
    case isFalse => exact hg
  case h_2 => exact hg

theorem State.unclaim_regs (s : State) (h : Hold) : (s.unclaim h).regs = s.regs := by
  unfold State.unclaim
  split
  · split <;> rfl
  · rfl

theorem State.foldl_unclaim_tileOf (hstate : x.state ≠ .claimed) (l : List Hold) (s : State) (hg : s.tileOf g = some x) :
    (l.foldl State.unclaim s).tileOf g = some x := by
  induction l generalizing s with
  | nil => exact hg
  | cons h l ih => exact ih (s.unclaim h) (State.unclaim_tileOf hg hstate h)

theorem State.foldl_unclaim_regs (l : List Hold) (s : State) : (l.foldl State.unclaim s).regs = s.regs := by
  induction l generalizing s with
  | nil => rfl
  | cons h l ih => exact (ih (s.unclaim h)).trans (s.unclaim_regs h)

theorem State.foldl_unclaim_kept (l : List Hold) (s : State) : Kept 512 s (l.foldl State.unclaim s) :=
  Kept.foldl (Kept.refl _ _) fun _ _ hk => State.unclaim_kept.via hk

/-! ### Clusters -/

theorem State.cl_setCl_same {c : Cluster} {u : Nat} (hu : u < s.clusters.length) : (s.setCl u c).cl u = c := by
  rw [State.cl, State.setCl, List.getD_eq_getElem?_getD, List.getElem?_set_self hu, Option.getD_some]

theorem State.cl_setCl_ne (s : State) (c : Cluster) {u v : Nat} (h : v ≠ u) : (s.setCl u c).cl v = s.cl v := by
  rw [State.cl, State.setCl, List.getD_eq_getElem?_getD, List.getElem?_set_ne (Ne.symm h), ← List.getD_eq_getElem?_getD, State.cl]

/-- A cluster outside the list is idle and cannot be replaced. -/
theorem State.setCl_outside {u : Nat} (hu : s.clusters.length ≤ u) (c : Cluster) : s.setCl u c = s := by
  rw [State.setCl, List.set_eq_of_length_le hu]

theorem State.cl_outside {u : Nat} (hu : s.clusters.length ≤ u) : s.cl u = Cluster.idle := by
  rw [State.cl, List.getD_eq_getElem?_getD, List.getElem?_eq_none hu, Option.getD_none]

theorem State.lt_of_running {u : Nat} (hrun : (s.cl u).running = some h) : u < s.clusters.length := by
  by_contra hout
  rw [State.cl_outside (Nat.le_of_not_lt hout)] at hrun
  exact nomatch hrun

theorem State.cl_of_clusters (h : t.clusters = s.clusters) (u : Nat) : t.cl u = s.cl u := by rw [State.cl, State.cl, h]

/-- A cluster that has left ACTIVE holds nothing, and every other one and what it runs are as before. -/
theorem State.clusterLeft_cl (s : State) (u v : Nat) : (s.clusterLeft u).cl v = if v = u then { s.cl u with held := [] } else s.cl v := by
  have hclusters : ((s.cl u).held.foldl State.unclaim s).clusters = s.clusters :=
    (State.foldl_unclaim_kept _ s).clusters.resolve_left (by decide)
  unfold State.clusterLeft
  by_cases hv : v = u
  · subst hv
    rw [if_pos rfl]
    by_cases hlt : v < s.clusters.length
    · exact State.cl_setCl_same (by rw [hclusters]; exact hlt)
    · rw [State.setCl_outside (by rw [hclusters]; exact Nat.le_of_not_lt hlt), State.cl_of_clusters hclusters,
        State.cl_outside (Nat.le_of_not_lt hlt)]
      rfl
  · rw [if_neg hv, State.cl_setCl_ne _ _ hv, State.cl_of_clusters hclusters]

theorem State.clusterLeft_regs (s : State) (u : Nat) : (s.clusterLeft u).regs = s.regs :=
  State.foldl_unclaim_regs (s.cl u).held s

theorem State.clusterLeft_tileOf (hg : s.tileOf g = some x) (hstate : x.state ≠ .claimed) (u : Nat) : (s.clusterLeft u).tileOf g = some x :=
  State.foldl_unclaim_tileOf hstate (s.cl u).held s hg

end

end Sys2Proof.Machine

/-! SUPPORT. The words that a cluster's run is counted in (R189, R193, R199). -/

namespace Sys2Proof.Machine

section
variable {s t : State} {x : Tile} {u : Nat}

/-- What a run of cluster `u` is shown and counted in. -/
abbrev runWords (u : Nat) : List Nat :=
  [Reg.slcClTile (u / 8) (u % 8), Reg.slcClBudget (u / 8) (u % 8), Reg.slcClSamples (u / 8) (u % 8), Reg.slcClStatTiles (u / 8) (u % 8),
    Reg.slcClStatSamples (u / 8) (u % 8), Reg.slcClStatBusy (u / 8) (u % 8), Reg.slcClStatWait (u / 8) (u % 8),
    Reg.slcClStatBdCells (u / 8) (u % 8), Reg.slcStat (u / 8) 0, Reg.slcStat (u / 8) 1]

/-- The synthesis counters. -/
abbrev synWords : List Nat := (List.range 9).map Reg.synStat

/-- They stand on the SLC pages, and the fault counter is not among them. -/
theorem runWords_range {w : Nat} (hw : w ∈ runWords u) :
    0x60000 ≤ w ∧ (u < 64 → w < 0x68000 ∧ w ≠ Reg.slcClStatFaults (u / 8) (u % 8)) := by
  simp only [runWords, List.mem_cons, List.not_mem_nil, or_false, Reg.slcClTile, Reg.slcClBudget, Reg.slcClSamples, Reg.slcClStatTiles,
    Reg.slcClStatSamples, Reg.slcClStatBusy, Reg.slcClStatWait, Reg.slcClStatBdCells, Reg.slcStat] at hw
  unfold Reg.slcClStatFaults
  omega

theorem synWords_range {w : Nat} (hw : w ∈ synWords) : w < 0x60000 := by
  obtain ⟨i, hi, rfl⟩ := List.mem_map.1 hw
  have := List.mem_range.1 hi
  unfold Reg.synStat
  omega

theorem WordsKept.add64 {K : Nat → Prop} {lo hi n : Nat} (h : WordsKept K s t) (hlo : ¬ K lo) (hhi : ¬ K hi) : WordsKept K s (t.add64 lo hi n) :=
  (h.wr hlo).wr hhi

theorem State.countRun_words (s : State) (u a b c d : Nat) : s.wordsBut (s.countRun u a b c d) (runWords u) := by
  unfold State.countRun
  exact State.wordsBut_add (State.wordsBut_add (State.wordsBut_add (State.wordsBut_add (State.wordsBut_refl _ _) (by simp)) (by simp))
    (by simp)) (by simp)

theorem State.showTile_none_words (s : State) (u : Nat) : s.wordsBut (s.showTile u none) (runWords u) :=
  State.wordsBut_wr (State.wordsBut_wr (State.wordsBut_wr (State.wordsBut_refl _ _) (by simp)) (by simp)) (by simp)

/-- A draw of a free value and the counter that takes it. -/
theorem WordsKept.drawAdd {K : Nat → Prop} {a n : Nat} (h : WordsKept K s t) (ha : ¬ K a) : WordsKept K s (t.draw.2.add a n) :=
  (h.regs rfl).add ha

theorem State.cutShort_words (s : State) (room : Nat) : s.wordsBut (s.cutShort room).2.2 synWords := by
  have hout : ∀ i < 9, ¬ Reg.synStat i ∉ synWords := fun i hi => not_not.2 (List.mem_map.2 ⟨i, List.mem_range.2 hi, rfl⟩)
  refine WordsKept.foldl (K := fun w => w ∉ synWords) ?_ fun r i hi hr => hr.drawAdd (hout i ?_)
  · refine WordsKept.add (WordsKept.add64 (WordsKept.add64 (WordsKept.regs (WordsKept.refl _ s) rfl) ?_ ?_) ?_ ?_) ?_ <;>
      exact hout _ (by decide)
  · simp only [List.mem_cons, List.not_mem_nil, or_false] at hi
    omega

/-- The samples of a run on another slice's window are counted by the slice. -/
theorem State.farSamples_words (h : s.wordsBut t (synWords ++ runWords u)) (far : Bool) (n : Nat) :
    s.wordsBut (if far then t.add (Reg.slcStat (u / 8) 1) n else t) (synWords ++ runWords u) :=
  WordsKept.ite (K := fun w => w ∉ synWords ++ runWords u) (State.wordsBut_add h (List.mem_append_right _ (by simp))) h

theorem State.countTile_stopped_words (howner : x.owner = some u) : s.wordsBut (s.countTile x false) (synWords ++ runWords u) := by
  rw [State.countTile, howner]
  dsimp only
  rw [if_neg Bool.false_ne_true]
  refine State.farSamples_words (State.wordsBut_trans ?_ (State.wordsBut_mono (State.countRun_words _ _ _ _ _ _)
    fun _ => List.mem_append_right _)) _ _
  exact State.wordsBut_mono (State.cutShort_words _ _) fun _ => List.mem_append_left _

theorem State.abandon_words (s : State) (u : Nat) : s.wordsBut (s.abandon u) (synWords ++ runWords u) := by
  have hrun : ∀ {r : State}, r.wordsBut (r.showTile u none) (synWords ++ runWords u) :=
    State.wordsBut_mono (State.showTile_none_words _ u) fun _ => List.mem_append_right _
  refine State.wordsBut_trans (State.farSamples_words (State.wordsBut_trans ?_ (State.wordsBut_mono (State.countRun_words _ _ _ _ _ _)
    fun _ => List.mem_append_right _)) _ _) hrun
  exact State.wordsBut_mono (State.cutShort_words _ _) fun _ => List.mem_append_left _

theorem State.countTile_done_words (howner : x.owner = some u) : s.wordsBut (s.countTile x true) (runWords u) := by
  rw [State.countTile, howner]
  dsimp only
  rw [if_pos rfl]
  refine State.wordsBut_add (State.wordsBut_add ?_ (by simp)) (by simp)
  exact WordsKept.ite (K := fun w => w ∉ runWords u) (State.wordsBut_add (State.countRun_words _ _ _ _ _ _) (by simp))
    (State.countRun_words _ _ _ _ _ _)

theorem State.endRun_words (howner : x.owner = some u) : s.wordsBut (s.endRun x) (runWords u) := by
  rw [State.endRun, howner]
  dsimp only
  split
  · exact State.showTile_none_words (s.setCl u _) u
  · exact State.wordsBut_refl _ _

end

end Sys2Proof.Machine

/-! SUPPORT. Ray results: late, stale and admitted (R206, R207). -/

namespace Sys2Proof.Machine

section
variable {s t : State} {x y : Tile} {g : Hold} {ps : SynSet} {l : LaySet} {r : RayResult} {v : Nat × Bool} {sub line i u : Nat}

/-! ### What an admission leaves of its tile -/

/-- A tile that has gone on in its run: its name, epoch, state and owner stay. -/
structure Tile.SameRun (x y : Tile) : Prop where
  hold : y.hold = x.hold
  state : y.state = x.state
  owner : y.owner = x.owner

theorem Tile.SameRun.epoch (h : x.SameRun y) : y.epoch = x.epoch := congrArg Hold.epoch h.hold

theorem Tile.SameRun.isHold (h : x.SameRun y) (g : Hold) : y.isHold g = x.isHold g := by
  have hname : ∀ z : Tile, z.isHold g = true ↔
      z.hold.frame = g.frame ∧ z.hold.region = g.region ∧ z.hold.band = g.band ∧ z.hold.col = g.col :=
    fun _ => Tile.isHold_iff
  rw [Bool.eq_iff_iff, hname, hname, h.hold]

theorem Tile.useCells_run (cells : List ((Int × Int) × Nat)) (x : Tile) : x.SameRun (x.useCells cells) ∧ (x.useCells cells).rays = x.rays := by
  induction cells generalizing x with
  | nil => exact ⟨⟨rfl, rfl, rfl⟩, rfl⟩
  | cons c cells ih =>
    unfold Tile.useCells
    split
    · obtain ⟨⟨hhold, hstate, howner⟩, hrays⟩ := ih { x with cache := x.cache.filter (fun e => e != c.1) ++ [c.1] }
      exact ⟨⟨hhold, hstate, howner⟩, hrays⟩
    · obtain ⟨⟨hhold, hstate, howner⟩, hrays⟩ := ih { x with
        cache := if 4096 < (x.cache ++ [c.1]).length then (x.cache ++ [c.1]).drop 1 else x.cache ++ [c.1], cells := x.cells + 1,
        samples := x.samples + 3 * c.2 }
      exact ⟨⟨hhold, hstate, howner⟩, hrays⟩

/-- A tile that one more ray has been taken for. -/
def Tile.withRay (x : Tile) (r : RayResult) : Tile :=
  { x.useCells r.cells with samples := (x.useCells r.cells).samples + r.samples, rays := (x.useCells r.cells).rays + 1 }

theorem Tile.withRay_run (x : Tile) (r : RayResult) : x.SameRun (x.withRay r) ∧ (x.withRay r).rays = x.rays + 1 := by
  obtain ⟨⟨hhold, hstate, howner⟩, hrays⟩ := Tile.useCells_run r.cells x
  exact ⟨⟨hhold, hstate, howner⟩, congrArg (· + 1) hrays⟩

/-- A tile with the composed value of a subpixel, and the lens region `k` marked as flat-covered or not. -/
def Tile.withValue (x : Tile) (w line sub k : Nat) (v : Nat × Bool) : Tile :=
  { x.put w line sub v.1 with cover := Sparse.set noPart x.cover k (if v.2 && Sparse.get noPart x.cover k != 2 then 1 else 2) }

theorem Tile.withValue_run (x : Tile) (w line sub k : Nat) (v : Nat × Bool) :
    x.SameRun (x.withValue w line sub k v) ∧ (x.withValue w line sub k v).rays = x.rays := by
  unfold Tile.withValue Tile.put
  dsimp only
  split <;> exact ⟨⟨rfl, rfl, rfl⟩, rfl⟩

/-- The tile that a ray is admitted into, with the ray. -/
def Tile.admitted (x : Tile) (ps : SynSet) (sub line : Nat) (r : RayResult) (v : Nat × Bool) : Tile :=
  (x.withRay r).withValue (tileCols ps.timing x.col) line sub
    (gridCell ps.regY ps.lines (x.region * ps.timing.vactive + 16 * x.band + line) * 64 +
      gridCell ps.regX ps.timing.hactive ((3 * 1024 * x.col + sub) / 3)) v

theorem Tile.admitted_run (x : Tile) (ps : SynSet) (sub line : Nat) (r : RayResult) (v : Nat × Bool) :
    x.SameRun (x.admitted ps sub line r v) ∧ (x.admitted ps sub line r v).rays = x.rays + 1 := by
  obtain ⟨hray, hrays⟩ := x.withRay_run r
  obtain ⟨hvalue, hsame⟩ := (x.withRay r).withValue_run (tileCols ps.timing x.col) line sub
    (gridCell ps.regY ps.lines (x.region * ps.timing.vactive + 16 * x.band + line) * 64 +
      gridCell ps.regX ps.timing.hactive ((3 * 1024 * x.col + sub) / 3)) v
  exact ⟨⟨hvalue.hold.trans hray.hold, hvalue.state.trans hray.state, hvalue.owner.trans hray.owner⟩, hsame.trans hrays⟩

/-! ### One result -/

/-- The synthesis counters have taken a ray of tile `x`, and the slots that it read have been used. -/
def State.rayCounted (s : State) (x : Tile) (ps : SynSet) (sub line : Nat) (r : RayResult) : State :=
  (s.useSlots x.home (s.rayUses x ps sub line)).countRay r ((x.withRay r).cells - x.cells) ((x.withRay r).samples - x.samples)

/-- A tile with a new ray stands in the place of the one before, and the last of `n` rays completes it. -/
def State.rayTaken (s : State) (n : Nat) (x : Tile) : State :=
  if x.rays = n then ((s.setTile x).showSamples x).completeTile x else (s.setTile x).showSamples x

theorem State.admitRay_taken (hruns : s.runsNow x = true) (hsub : sub < 3 * tileCols ps.timing x.col) (hline : line < tileLines ps.timing x.band)
    (hnew : x.has (tileCols ps.timing x.col) line sub = false) (hray : s.tileRay x ps (s.texels ps x.home) sub line = .ok r)
    (hcomp : s.compose l (3 * 1024 * x.col + sub) (x.region * ps.timing.vactive + 16 * x.band + line) r.color r.coverage = .ok v) :
    s.admitRay x ps l sub line =
      (s.rayCounted x ps sub line r).rayTaken (tileRays ps.timing x.band x.col) (x.admitted ps sub line r v) := by
  have hopen : ¬ (!(s.runsNow x) || decide (3 * tileCols ps.timing x.col ≤ sub) || decide (tileLines ps.timing x.band ≤ line) ||
      x.has (tileCols ps.timing x.col) line sub) = true := by
    rw [hruns, hnew, decide_eq_false (Nat.not_le.2 hsub), decide_eq_false (Nat.not_le.2 hline)]
    exact Bool.false_ne_true
  unfold State.admitRay
  dsimp only
  rw [if_neg hopen, hray]
  dsimp only
  rw [hcomp]
  rfl

theorem State.countRay_count (s : State) (r : RayResult) (cells samples : Nat) :
    (s.countRay r cells samples).rd (Reg.synStat 0) = (s.rd (Reg.synStat 0) + 1) % 2 ^ 32 := by
  have hlow : ∀ n, (s.add64 (Reg.synStat 0) (Reg.synStat 1) n).rd (Reg.synStat 0) = (s.rd (Reg.synStat 0) + n) % 2 ^ 32 := fun n => by
    rw [State.add64, State.rd_wr_ne _ _ (by decide), State.rd_wr_same]
    omega
  have hrest : WordsKept (fun a => a = Reg.synStat 0) (s.add64 (Reg.synStat 0) (Reg.synStat 1) 1) (s.countRay r cells samples) :=
    .add (.add (.add (.add (.add64 (.refl _ _) (by decide) (by decide)) (by decide)) (by decide)) (by decide)) (by decide)
  exact (hrest _ rfl).trans (hlow 1)

theorem State.rayCounted_count (s : State) (x : Tile) (ps : SynSet) (sub line : Nat) (r : RayResult) :
    (s.rayCounted x ps sub line r).rd (Reg.synStat 0) = (s.rd (Reg.synStat 0) + 1) % 2 ^ 32 :=
  State.countRay_count (s.useSlots x.home (s.rayUses x ps sub line)) r _ _

theorem State.rayCounted_brc (s : State) (x : Tile) (ps : SynSet) (sub line : Nat) (r : RayResult) :
    (s.rayCounted x ps sub line r).brc = s.brc :=
  (State.countRay_kept.brc.resolve_left (by decide)).trans (State.useSlots_kept.brc.resolve_left (by decide))

/-! ### The tile with it -/

/-- Words before the SLC pages. -/
abbrev beforeSlices (w : Nat) : Prop := w < 0x60000

theorem runWords_not_before : ∀ w ∈ runWords u, ¬ beforeSlices w := fun _ hw => Nat.not_lt.2 (runWords_range hw).1

theorem State.showSamples_words (howner : x.owner = some u) : WordsKept beforeSlices s (s.showSamples x) := by
  rw [State.showSamples, howner]
  refine (WordsKept.refl _ s).wr (Nat.not_lt.2 ?_)
  unfold Reg.slcClSamples
  omega

theorem State.completeTile_words (howner : x.owner = some u) : WordsKept beforeSlices s (s.completeTile x) :=
  have hcount : WordsKept beforeSlices s ((s.countTile x true).costDone x) :=
    .regs (.wordsBut (State.countTile_done_words howner) runWords_not_before) rfl
  (hcount.trans (.wordsBut (State.endRun_words howner) runWords_not_before)).regs rfl

theorem State.completeTile_tileOf (htile : s.tileOf g = some y) (hname : x.isHold g = true) :
    (s.completeTile x).tileOf g = some { x with state := .complete } := by
  have hbrc : (((s.countTile x true).costDone x).endRun x).brc = s.brc :=
    (State.endRun_kept.brc.resolve_left (by decide)).trans ((State.costDone_kept.brc.resolve_left (by decide)).trans
      (State.countTile_kept.brc.resolve_left (by decide)))
  exact State.tileOf_setTile_same (x := { x with state := .complete }) ((State.tileOf_of_brc hbrc g).trans htile) hname

/-- The tile that a ray result is for shows it, and is COMPLETE with its last one; the words before the SLC pages stay. -/
theorem State.rayTaken_shown {n : Nat} (htile : s.tileOf g = some x) (hrun : x.SameRun y) (howner : x.owner = some u) :
    (s.rayTaken n y).tileOf g = some { y with state := if y.rays = n then .complete else y.state } ∧
    WordsKept beforeSlices s (s.rayTaken n y) := by
  have hname : y.isHold g = true := (hrun.isHold g).trans (State.isHold_of_tileOf htile)
  have hput : ((s.setTile y).showSamples y).tileOf g = some y :=
    (State.tileOf_of_brc (State.showSamples_kept.brc.resolve_left (by decide)) g).trans (State.tileOf_setTile_same htile hname)
  have hwords : WordsKept beforeSlices s ((s.setTile y).showSamples y) :=
    State.showSamples_words (s := s.setTile y) (hrun.owner.trans howner)
  unfold State.rayTaken
  by_cases hlast : y.rays = n
  · rw [if_pos hlast, if_pos hlast]
    exact ⟨State.completeTile_tileOf hput hname, hwords.trans (State.completeTile_words (hrun.owner.trans howner))⟩
  · rw [if_neg hlast, if_neg hlast]
    exact ⟨hput, hwords⟩

/-! ### Arrivals (R206) -/

theorem State.rayArrive_late (hon : s.domOn 16 = true)
    (h : s.tileOf g = none ∨ ∃ x, s.tileOf g = some x ∧ (x.state = .dropped ∨ x.state = .complete)) :
    s.rayArrive g sub line = s.add (Reg.brcStat 2) 1 := by
  rw [State.rayArrive, hon]
  obtain hnone | ⟨x, htile, hover⟩ := h
  · rw [hnone]
    rfl
  · rw [htile]
    exact if_pos hover

/-- The first result of an old epoch in a frame raises its event. -/
def State.staleShown (s : State) : State :=
  if s.brc.stale then s else ({ s with brc := { s.brc with stale := true } } : State).raise 0x70000 4

theorem State.rayArrive_stale (hon : s.domOn 16 = true) (htile : s.tileOf g = some x) (hdropped : x.state ≠ .dropped)
    (hcomplete : x.state ≠ .complete) (hepoch : g.epoch ≠ x.epoch) : s.rayArrive g sub line = (s.add (Reg.brcStat 3) 1).staleShown := by
  rw [State.rayArrive, hon, htile]
  exact (if_neg (not_or.2 ⟨hdropped, hcomplete⟩)).trans (if_pos hepoch)

theorem State.staleShown_brc (s : State) : s.staleShown.brc = { s.brc with stale := true } := by
  unfold State.staleShown
  split
  case isTrue hstale => rw [← hstale]
  case isFalse => rw [State.raise_brc]

theorem State.staleShown_rd (s : State) {a : Nat} (ha : a ≠ 0x70010) : s.staleShown.rd a = s.rd a := by
  unfold State.staleShown
  split
  · rfl
  · exact State.rd_raise_ne _ _ ha

theorem State.staleShown_event (h : s.brc.stale = false) : s.staleShown.flag 0x70010 4 = true := by
  rw [State.staleShown, h]
  exact State.flag_raise_same _ 0x70000 4 (by decide)

theorem State.rayArrive_live (hon : s.domOn 16 = true) (htile : s.tileOf g = some x) (hdropped : x.state ≠ .dropped)
    (hcomplete : x.state ≠ .complete) (hepoch : g.epoch = x.epoch) (hps : s.synSet x.frame = some ps) (hl : s.laySet x.frame = some l) :
    s.rayArrive g sub line = s.admitRay x ps l sub line := by
  rw [State.rayArrive, hon, htile]
  refine (if_neg (not_or.2 ⟨hdropped, hcomplete⟩)).trans ((if_neg (not_not.2 hepoch)).trans ?_)
  rw [hps, hl]

theorem State.owner_of_runsNow (h : s.runsNow x = true) : ∃ u, x.owner = some u := by
  cases howner : x.owner with
  | some u => exact ⟨u, rfl⟩
  | none =>
    rw [State.runsNow, howner] at h
    exact nomatch h

end

end Sys2Proof.Machine

/-! SUPPORT. Faults of units: what a fault shows, residue failures, window errors and lost slices (R191, R244, R493). -/

namespace Sys2Proof.Machine

section
variable {s t : State} {x : Tile} {g h : Hold} {c i k u : Nat}

/-! ### A unit fails (R493) -/

theorem State.stage_wordsBut (s : State) (e : LogEntry) : s.wordsBut (s.stage e) [Reg.svcLogStaged, 0x1D0010] := by
  unfold State.stage
  exact WordsKept.ite (K := fun a => a ∉ [Reg.svcLogStaged, 0x1D0010]) (.regs (.refl _ _) rfl)
    (.raise (.addSat (.regs (.refl _ _) rfl) (by decide)) (by decide))

/-- A new log entry leaves an event of the SVC page raised. -/
theorem State.stage_event (e : LogEntry) (hi : s.flag 0x1D0010 i = true) : (s.stage e).flag 0x1D0010 i = true := by
  have hstaged : ∀ r : State, r.regs = s.regs → ((r.addSat Reg.svcLogStaged 31 16 1).raise 0x1D0000 2).flag 0x1D0010 i = true := fun r hr => by
    refine State.flag_raise_of_flag 2 (by decide) ?_
    rw [State.addSat, State.flag_setFld_ne _ _ _ _ _ (by decide), State.flag_of_regs hr]
    exact hi
  unfold State.stage
  split
  · exact hi
  · exact hstaged _ rfl

/-- Unit `u` is FAILED, with its event and its log entry. -/
def State.unitFailed (s : State) (u : Nat) : State := ((s.setUnit u 4).raise 0x1D0000 0).logIt (unitSource u) (evt 0 0) 2 []

theorem State.unitFailed_words (s : State) (u : Nat) : s.wordsBut (s.unitFailed u) [Reg.svcUnit u, Reg.svcLogStaged, 0x1D0010] :=
  State.wordsBut_trans (State.wordsBut_raise (State.wordsBut_setFld (State.wordsBut_refl _ _) (by simp)) (by simp))
    (State.wordsBut_mono (State.stage_wordsBut _ _) (by simp))

theorem svcUnit_alone (u : Nat) : Reg.svcUnit u ∉ [Reg.svcLogStaged, 0x1D0010] := by
  simp only [List.mem_cons, List.not_mem_nil, or_false, Reg.svcUnit, Reg.svcLogStaged]
  omega

theorem State.unitFailed_shown (s : State) (u : Nat) :
    (s.unitFailed u).fld (Reg.svcUnit u) 2 0 = 4 ∧ (s.unitFailed u).flag 0x1D0010 0 = true := by
  have hne : Reg.svcUnit u ≠ 0x1D0010 := fun h => svcUnit_alone u (by rw [h]; simp)
  refine ⟨?_, State.stage_event _ (State.flag_raise_same _ 0x1D0000 0 (by decide))⟩
  have hfld : ((s.setUnit u 4).raise 0x1D0000 0).fld (Reg.svcUnit u) 2 0 = 4 := by
    rw [State.fld, State.rd_raise_ne _ _ hne]
    exact State.fld_setFld_same s (Reg.svcUnit u) 2 0 4 (by decide) (by decide)
  rw [State.fld, State.unitFailed, State.logIt, State.stage_wordsBut _ _ _ (svcUnit_alone u)]
  exact hfld

theorem State.unitFault_cluster (hu : u < 64) (hstate : s.unitState u ≤ 1) : s.unitFault u = s.unitFailed u := by
  rw [State.unitFault, if_pos hstate]
  dsimp only
  rw [if_neg (by omega), if_neg (by omega)]
  rfl

/-- The fault of a window of a slice that is ACTIVE breaks a pin that gives the slice columns (R253). -/
theorem State.unitFault_window (hk : k < 8) (hstate : s.unitState (64 + k) ≤ 1) :
    s.unitFault (64 + k) = if s.unitState (64 + k) = 0 then (s.unitFailed (64 + k)).pinLost k else s.unitFailed (64 + k) := by
  rw [State.unitFault, if_pos hstate]
  dsimp only
  rw [if_neg (c := 169 ≤ 64 + k ∧ _) (by omega), Nat.add_sub_cancel_left]
  by_cases hactive : s.unitState (64 + k) = 0
  · rw [if_pos ⟨by omega, by omega, hactive⟩, if_pos hactive]
    rfl
  · rw [if_neg fun h => hactive h.2.2, if_neg hactive]
    rfl

theorem State.domOn_of_unitState (hstate : s.unitState u ≤ 1) : s.domOn (unitDomain u) = true := by
  by_contra hoff
  rw [State.unitState, if_neg hoff] at hstate
  omega

/-- A unit of a powered domain is in the state that its word shows. -/
theorem State.unitState_shown (hu : u < 171) (hon : s.domOn (unitDomain u) = true) : s.unitState u = s.fld (Reg.svcUnit u) 2 0 := by
  rw [State.unitState, if_pos hon, if_neg (by omega)]

/-! ### Residue failures (R191) -/

/-- The tile of a run that a residue failure has stopped. -/
def Tile.stoppedRun (x : Tile) : Tile := { x with state := .stopped, owner := none, epoch := (x.epoch + 1) % 256 }

theorem Tile.stoppedRun_isHold (x : Tile) (h : Hold) : x.stoppedRun.isHold h = x.isHold h := rfl

/-- A run that stops is taken off its cluster, and its tile is stopped if the run was its live one. -/
theorem State.stopRun_shown (s : State) (u : Nat) (h : Hold) : ∃ r, s.stopRun u h = r.setCl u { r.cl u with running := none } ∧
    r.clusters = s.clusters ∧ s.wordsBut r (synWords ++ runWords u) ∧
    ∀ x, s.tileOf h = some x → x.epoch = h.epoch → x.owner = some u → r.tileOf h = some x.stoppedRun := by
  have habandon : (s.abandon u).clusters = s.clusters := State.abandon_kept.clusters.resolve_left (by decide)
  unfold State.stopRun
  dsimp only
  split
  case h_1 x htile =>
    split
    case isTrue hlive =>
      refine ⟨_, rfl, ?_, ?_, fun y hy _ _ => ?_⟩
      · exact (State.showTile_kept.clusters.resolve_left (by decide)).trans (State.countTile_kept.clusters.resolve_left (by decide))
      · exact State.wordsBut_trans (State.countTile_stopped_words hlive.2)
          (State.wordsBut_mono (State.showTile_none_words (((s.countTile x false).setTile _)) u) fun _ => List.mem_append_right _)
      · obtain rfl := Option.some.inj (htile.symm.trans hy)
        have hcount : (s.countTile x false).tileOf h = some x :=
          (State.tileOf_of_brc (State.countTile_kept.brc.resolve_left (by decide)) h).trans htile
        exact (State.tileOf_of_brc (State.showTile_kept.brc.resolve_left (by decide)) h).trans
          (State.tileOf_setTile_same (x := x.stoppedRun) hcount ((x.stoppedRun_isHold h).trans (State.isHold_of_tileOf htile)))
    case isFalse hdead =>
      refine ⟨_, rfl, habandon, s.abandon_words u, fun y hy hepoch howner => ?_⟩
      obtain rfl := Option.some.inj (htile.symm.trans hy)
      exact absurd ⟨hepoch, howner⟩ hdead
  case h_2 hnone => exact ⟨_, rfl, habandon, s.abandon_words u, fun y hy => nomatch hnone.symm.trans hy⟩

/-- A word that a cluster's run and its fault leave alone, the cluster's fault counter among them. -/
abbrev residueWord (u a : Nat) : Prop := a = Reg.slcClStatFaults (u / 8) (u % 8) ∨ 0x190000 ≤ a

theorem State.stopRun_words (hu : u < 64) (h : Hold) : WordsKept (residueWord u) s (s.stopRun u h) := by
  obtain ⟨r, hr, -, hwords, -⟩ := s.stopRun_shown u h
  rw [hr]
  refine (WordsKept.wordsBut hwords fun a ha => ?_).regs rfl
  obtain hsyn | hrun := List.mem_append.1 ha
  · have := synWords_range hsyn
    unfold residueWord Reg.slcClStatFaults
    omega
  · have := (runWords_range hrun).2 hu
    unfold residueWord
    omega

theorem State.stopRun_cl (hrun : (s.cl u).running = some h) : (s.stopRun u h).cl u = { s.cl u with running := none } := by
  obtain ⟨r, hr, hclusters, -, -⟩ := s.stopRun_shown u h
  rw [hr, State.cl_setCl_same (by rw [hclusters]; exact State.lt_of_running hrun), State.cl_of_clusters hclusters]

theorem State.stopRun_tileOf (htile : s.tileOf h = some x) (hepoch : x.epoch = h.epoch) (howner : x.owner = some u) :
    (s.stopRun u h).tileOf h = some x.stoppedRun := by
  obtain ⟨r, hr, -, -, htiles⟩ := s.stopRun_shown u h
  rw [hr]
  exact htiles x htile hepoch howner

/-- The state after a residue failure in the run of `h` on cluster `u`, which has given its claims back. -/
def State.runFailed (s : State) (u : Nat) (h : Hold) : State :=
  ((s.stopRun u h).add (Reg.slcClStatFaults (u / 8) (u % 8)) 1).clusterLeft u

theorem State.runFailed_rest (hu : u < 64) (h : Hold) : WordsKept (fun a => 0x190000 ≤ a) s (s.runFailed u h) := by
  have hstop : WordsKept (fun a => 0x190000 ≤ a) s (s.stopRun u h) := fun a ha => State.stopRun_words hu h a (.inr ha)
  refine (hstop.add ?_).regs (State.clusterLeft_regs _ u)
  unfold Reg.slcClStatFaults
  omega

theorem State.runFailed_count (hu : u < 64) (h : Hold) : (s.runFailed u h).rd (Reg.slcClStatFaults (u / 8) (u % 8)) =
    (s.rd (Reg.slcClStatFaults (u / 8) (u % 8)) + 1) % 2 ^ 32 := by
  rw [State.runFailed, State.rd, State.clusterLeft_regs, ← State.rd, State.rd_add_same, State.stopRun_words hu h _ (.inl rfl)]

theorem State.runFailed_cl (hrun : (s.cl u).running = some h) : (s.runFailed u h).cl u = { s.cl u with running := none, held := [] } := by
  have hcl : ((s.stopRun u h).add (Reg.slcClStatFaults (u / 8) (u % 8)) 1).cl u = { s.cl u with running := none } := State.stopRun_cl hrun
  rw [State.runFailed, State.clusterLeft_cl, if_pos rfl, hcl]

theorem State.runFailed_tileOf (htile : s.tileOf h = some x) (hepoch : x.epoch = h.epoch) (howner : x.owner = some u) :
    (s.runFailed u h).tileOf h = some x.stoppedRun :=
  State.clusterLeft_tileOf (s := (s.stopRun u h).add (Reg.slcClStatFaults (u / 8) (u % 8)) 1) (State.stopRun_tileOf htile hepoch howner)
    (fun hstate => nomatch hstate) u

/-- A residue failure of an ACTIVE or FENCING cluster that runs a tile. -/
theorem State.residueFailure_eq (hu : u < 64) (hcluster : s.unitState u ≤ 1) (hwindow : s.unitState (64 + u / 8) ≤ 1)
    (hrun : (s.cl u).running = some h) :
    s.residueFailure u = ((s.runFailed u h).unitFailed u).raise (0x60000 + 0x1000 * (u / 8)) 0 := by
  have hstate : (s.runFailed u h).unitState u = s.unitState u :=
    (State.runFailed_rest hu h).unitState (by decide) (by decide) (by unfold Reg.svcUnit; omega)
  rw [State.residueFailure, if_pos ⟨hu, hcluster, hwindow⟩, hrun, ← State.unitFault_cluster hu (by rw [hstate]; exact hcluster)]
  rfl

theorem State.unitFailed_kept (s : State) (u : Nat) : Kept 4 s (s.unitFailed u) :=
  Kept.step State.logIt_kept rfl (Kept.step State.raise_kept rfl (Kept.step State.setFld_kept rfl (Kept.refl _ _)))

theorem State.residueFailure_shown (hu : u < 64) (hcluster : s.unitState u ≤ 1) (hwindow : s.unitState (64 + u / 8) ≤ 1)
    (hrun : (s.cl u).running = some h) :
    (∀ x, s.tileOf h = some x → x.epoch = h.epoch → x.owner = some u → (s.residueFailure u).tileOf h = some x.stoppedRun) ∧
    (s.residueFailure u).rd (Reg.slcClStatFaults (u / 8) (u % 8)) = (s.rd (Reg.slcClStatFaults (u / 8) (u % 8)) + 1) % 2 ^ 32 ∧
    (s.residueFailure u).cl u = { s.cl u with running := none, held := [] } ∧ (s.residueFailure u).fld (Reg.svcUnit u) 2 0 = 4 ∧
    (s.residueFailure u).flag (0x60010 + 0x1000 * (u / 8)) 0 = true := by
  have hkept := (s.runFailed u h).unitFailed_kept u
  have hirq : 0x60010 + 0x1000 * (u / 8) = 0x60000 + 0x1000 * (u / 8) + 0x10 := by omega
  have hcount : Reg.slcClStatFaults (u / 8) (u % 8) ≠ 0x60000 + 0x1000 * (u / 8) + 0x10 := by unfold Reg.slcClStatFaults; omega
  have hfaults : Reg.slcClStatFaults (u / 8) (u % 8) ∉ [Reg.svcUnit u, Reg.svcLogStaged, 0x1D0010] := by
    simp only [List.mem_cons, List.not_mem_nil, or_false, Reg.slcClStatFaults, Reg.svcUnit, Reg.svcLogStaged]
    omega
  have hunit : Reg.svcUnit u ≠ 0x60000 + 0x1000 * (u / 8) + 0x10 := by unfold Reg.svcUnit; omega
  rw [State.residueFailure_eq hu hcluster hwindow hrun, State.rd_raise_ne _ _ hcount, State.unitFailed_words _ _ _ hfaults,
    State.cl_of_clusters (State.raise_clusters _ _ _), State.cl_of_clusters (hkept.clusters.resolve_left (by decide)), hirq, State.fld,
    State.rd_raise_ne _ _ hunit]
  refine ⟨fun x htile hepoch howner => ?_, State.runFailed_count hu h, State.runFailed_cl hrun, (State.unitFailed_shown _ u).1,
    State.flag_raise_same _ _ 0 (by decide)⟩
  rw [State.tileOf_of_brc (State.raise_brc _ _ _), State.tileOf_of_brc (hkept.brc.resolve_left (by decide))]
  exact State.runFailed_tileOf htile hepoch howner

end

end Sys2Proof.Machine

/-! SUPPORT. Window errors and lost slices, with O34 (R191, R244, R253). -/

namespace Sys2Proof.Machine

section
variable {s t : State} {x : Tile} {g h : Hold} {a c i k u : Nat}

/-! ### Window errors (R191) -/

/-- An uncorrected error empties the slot that holds the unit at `a`, and a lane waits for it. -/
def State.slotDropped (s : State) (k a : Nat) : State :=
  if (s.scn.windows.getD k []).any (fun w => w.addr == a) then
    (s.setWindow k ((s.scn.windows.getD k []).filter (fun w => w.addr != a))).waitFor k a
  else s

theorem State.windowEcc_corrected (hk : k < 8) (hon : s.domOn (6 + k) = true) :
    s.windowEcc k a true = (s.add (Reg.slcStat k 2) 1).raise (0x60000 + 0x1000 * k) 1 := if_pos ⟨hk, hon⟩

theorem State.windowEcc_uncorrected (hk : k < 8) (hon : s.domOn (6 + k) = true) :
    s.windowEcc k a false = ((s.slotDropped k a).add (Reg.slcStat k 3) 1).raise (0x60000 + 0x1000 * k) 2 := if_pos ⟨hk, hon⟩

theorem State.waitFor_windows (s : State) (k a : Nat) : (s.waitFor k a).scn.windows = s.scn.windows := by
  unfold State.waitFor
  split <;> rfl

theorem State.waitFor_regs (s : State) (k a : Nat) : (s.waitFor k a).regs = s.regs := by
  unfold State.waitFor
  split <;> rfl

theorem State.slotDropped_regs (s : State) (k a : Nat) : (s.slotDropped k a).regs = s.regs := by
  unfold State.slotDropped
  split
  · exact State.waitFor_regs _ k a
  · rfl

/-- Whether or not a slot holds the unit, none holds it afterwards, and the others stay. -/
theorem State.slotDropped_windows (s : State) (k a : Nat) : (s.slotDropped k a).scn.windows =
    s.scn.windows.set k ((s.scn.windows.getD k []).filter (fun w => w.addr != a)) := by
  unfold State.slotDropped
  split
  case isTrue => exact State.waitFor_windows _ k a
  case isFalse hnone =>
    have hall : (s.scn.windows.getD k []).filter (fun w => w.addr != a) = s.scn.windows.getD k [] := by
      rw [List.filter_eq_self]
      intro w hw
      rw [bne_iff_ne]
      exact fun ha => hnone (List.any_eq_true.2 ⟨w, hw, beq_iff_eq.2 ha⟩)
    rw [hall]
    by_cases hk : k < s.scn.windows.length
    · rw [List.getD_eq_getElem _ _ hk, List.set_getElem_self]
    · rw [List.set_eq_of_length_le (Nat.le_of_not_lt hk)]

theorem slcStat_not_irq (k i : Nat) : Reg.slcStat k i ≠ 0x60000 + 0x1000 * k + 0x10 := by
  unfold Reg.slcStat
  omega

/-- An error of slice `k` is counted and raises its event. -/
theorem State.slcError_shown (s : State) (k i bit : Nat) (hbit : bit < 32) :
    ((s.add (Reg.slcStat k i) 1).raise (0x60000 + 0x1000 * k) bit).rd (Reg.slcStat k i) = (s.rd (Reg.slcStat k i) + 1) % 2 ^ 32 ∧
    ((s.add (Reg.slcStat k i) 1).raise (0x60000 + 0x1000 * k) bit).flag (0x60010 + 0x1000 * k) bit = true := by
  have hirq : 0x60010 + 0x1000 * k = 0x60000 + 0x1000 * k + 0x10 := by omega
  rw [State.rd_raise_ne _ _ (slcStat_not_irq k i), hirq]
  exact ⟨State.rd_add_same _ _ _, State.flag_raise_same _ _ _ hbit⟩

/-! ### Pins (R253) -/

theorem State.pinLost_words (s : State) (k : Nat) : s.wordsBut (s.pinLost k) [Reg.plcStatus, 0x80010] :=
  WordsKept.ite (K := fun w => w ∉ [Reg.plcStatus, 0x80010]) (.raise (.setFlag (.refl _ _) (by decide)) (by decide)) (.refl _ _)

/-- An event of the PLC page stays raised while a pin is broken. -/
theorem State.pinLost_event (hi : s.flag 0x80010 i = true) : (s.pinLost k).flag 0x80010 i = true := by
  unfold State.pinLost
  split
  · refine State.flag_raise_of_flag 4 (by decide) ?_
    rw [State.flag_setFlag_ne _ _ _ _ (by decide)]
    exact hi
  · exact hi

/-- Whether the pin in force gives slice `k` columns. -/
abbrev State.pinGives (s : State) (k : Nat) : Prop :=
  (pinnedOwner (boundsOf (s.rd Reg.plcPinBounds0) (s.rd Reg.plcPinBounds1)) s.ras.timing.cols).contains k = true

theorem State.pinLost_broken (hpin : s.flag Reg.plcCtrl 6 = true) (hwhole : s.flag Reg.plcStatus 19 = false) (hgives : s.pinGives k) :
    (s.pinLost k).flag Reg.plcStatus 19 = true ∧ (s.pinLost k).flag 0x80010 4 = true := by
  rw [State.pinLost, if_pos (by rw [hpin, hwhole, hgives]; rfl)]
  refine ⟨?_, State.flag_raise_same _ 0x80000 4 (by decide)⟩
  rw [State.flag, State.rd_raise_ne _ _ (by decide)]
  exact State.flag_setFlag_same s Reg.plcStatus 19 true (by decide)

/-! ### A lost slice (R244) -/

/-- What the clusters of slice `k` had claimed goes back. -/
def State.clustersLeft (s : State) (k : Nat) : State := (List.range 8).foldl (fun s c => s.clusterLeft (8 * k + c)) s

/-- The owner of a tile gives its claim back. -/
def State.ownerGives (s : State) (x : Tile) : State :=
  (match x.owner with
    | some u => s.setCl u { s.cl u with held := (s.cl u).held.filter (fun h => h != x.hold) }
    | none => s).unclaim x.hold

/-- Claims on the queue of slice `k` go back, whichever cluster holds them. -/
def State.queueLeft (s : State) (k : Nat) : State :=
  (s.brc.tiles.filter (fun t => t.queue == k && t.state == .claimed)).foldl State.ownerGives s

/-- Every claim of slice `k` and on its queue has been given back. -/
def State.claimsBack (s : State) (k : Nat) : State := (s.clustersLeft k).queueLeft k

theorem State.clustersLeft_cl (s : State) {k c : Nat} (l : List Nat) (hc : c ∈ l ∨ (s.cl (8 * k + c)).held = []) :
    ((l.foldl (fun s c => s.clusterLeft (8 * k + c)) s).cl (8 * k + c)).held = [] := by
  induction l generalizing s with
  | nil => exact hc.resolve_left (List.not_mem_nil)
  | cons d l ih =>
    refine ih (s.clusterLeft (8 * k + d)) ?_
    rw [State.clusterLeft_cl]
    by_cases hd : c = d
    · rw [if_pos (by rw [hd])]
      exact .inr rfl
    · rw [if_neg (by omega)]
      exact hc.imp_left fun hmem => (List.mem_cons.1 hmem).resolve_left hd

theorem State.ownerGives_regs (s : State) (x : Tile) : (s.ownerGives x).regs = s.regs := by
  unfold State.ownerGives
  rw [State.unclaim_regs]
  split <;> rfl

theorem State.ownerGives_kept (s : State) (x : Tile) : Kept 640 s (s.ownerGives x) := by
  unfold State.ownerGives
  refine Kept.step State.unclaim_kept rfl ?_
  split
  · exact Kept.step State.setCl_kept rfl (Kept.refl _ _)
  · exact Kept.refl _ _

/-- A cluster that holds nothing holds nothing after a claim has been given back. -/
theorem State.ownerGives_held (x : Tile) {v : Nat} (hv : (s.cl v).held = []) : ((s.ownerGives x).cl v).held = [] := by
  unfold State.ownerGives
  rw [State.cl_of_clusters (State.unclaim_kept.clusters.resolve_left (by decide))]
  split
  case h_1 u howner =>
    by_cases huv : v = u
    · subst huv
      by_cases hlt : v < s.clusters.length
      · rw [State.cl_setCl_same hlt, hv]
        rfl
      · rw [State.setCl_outside (Nat.le_of_not_lt hlt)]
        exact hv
    · rw [State.cl_setCl_ne _ _ huv]
      exact hv
  case h_2 => exact hv

theorem State.foldl_ownerGives_held (l : List Tile) {v : Nat} (hv : (s.cl v).held = []) : ((l.foldl State.ownerGives s).cl v).held = [] := by
  induction l generalizing s with
  | nil => exact hv
  | cons x l ih => exact ih (State.ownerGives_held x hv)

theorem State.claimsBack_held (s : State) (k : Nat) {c : Nat} (hc : c < 8) : ((s.claimsBack k).cl (8 * k + c)).held = [] :=
  State.foldl_ownerGives_held _ (State.clustersLeft_cl s (List.range 8) (.inl (List.mem_range.2 hc)))

theorem State.claimsBack_rd (s : State) (k a : Nat) : (s.claimsBack k).rd a = s.rd a :=
  have hwords : WordsKept (fun _ => True) s (s.claimsBack k) :=
    .foldl (.foldl (.refl _ s) fun _ _ _ hr => hr.regs (State.clusterLeft_regs _ _)) fun _ _ _ hr => hr.regs (State.ownerGives_regs _ _)
  hwords a trivial

theorem State.claimsBack_kept (s : State) (k : Nat) : Kept 640 s (s.claimsBack k) :=
  Kept.foldl (Kept.foldl (Kept.refl _ _) fun _ _ hr => State.clusterLeft_kept.via hr) fun r x hr => (State.ownerGives_kept r x).via hr

/-- The plan in force once slice `k` is lost: its columns are handed over. -/
def State.planWithout (s : State) (k : Nat) : Plan :=
  match s.plc.plan with
  | some p => { p with owner := handOver s.liveSlices k (s.stripesWith k) }
  | none => { owner := handOver s.liveSlices k (s.stripesWith k), levels := [], sets := [], set0 := s.qualityCfg.setting s.budgetMax 0,
              moves := [], lmax := 0 }

theorem State.planWithout_owner (s : State) (k : Nat) : (s.planWithout k).owner = handOver s.liveSlices k (s.stripesWith k) := by
  unfold State.planWithout
  split <;> rfl

/-- The plan in preparation once slice `k` is lost. -/
def State.prepWithout (s : State) (k : Nat) : Option Plan :=
  s.plc.prep.map (fun p => if p.owner.contains k then { p with owner := defaultOwner s.liveSlices p.owner.length } else p)

/-- Slice `k` is marked, with plan `p` in force and `q` in preparation; its queue goes to the slices that `p` names, and its window is
empty. -/
def State.sliceMarked (s : State) (k : Nat) (new : List Nat) (p : Plan) (q : Option Plan) (shown : List Nat) : State :=
  ({ s with
      brc := { s.brc with tiles := s.brc.tiles.map (fun t =>
        if t.queue = k ∧ t.state = .queued then { t with queue := new.getD t.col k, home := new.getD t.col k } else t) },
      plc := { s.plc with plan := some p, prep := q, lost := k :: s.plc.lost, shown := shown } } : State).setWindow k []

theorem State.sliceMarked_rd (s : State) (k : Nat) (new : List Nat) (p : Plan) (q : Option Plan) (shown : List Nat) (a : Nat) :
    (s.sliceMarked k new p q shown).rd a = s.rd a := rfl
theorem State.sliceMarked_ras (s : State) (k : Nat) (new : List Nat) (p : Plan) (q : Option Plan) (shown : List Nat) :
    (s.sliceMarked k new p q shown).ras = s.ras := rfl
theorem State.sliceMarked_plan (s : State) (k : Nat) (new : List Nat) (p : Plan) (q : Option Plan) (shown : List Nat) :
    (s.sliceMarked k new p q shown).plc.plan = some p ∧ (s.sliceMarked k new p q shown).plc.lost = k :: s.plc.lost := ⟨rfl, rfl⟩
theorem State.sliceMarked_windows (s : State) (k : Nat) (new : List Nat) (p : Plan) (q : Option Plan) (shown : List Nat) :
    (s.sliceMarked k new p q shown).scn.windows = s.scn.windows.set k [] := rfl
theorem State.sliceMarked_cl (s : State) (k : Nat) (new : List Nat) (p : Plan) (q : Option Plan) (shown : List Nat) (u : Nat) :
    (s.sliceMarked k new p q shown).cl u = s.cl u := rfl

/-- A slice that is lost, before a pin that gives it columns is broken: counted, with its event. -/
def State.sliceTaken (s : State) (k : Nat) : State :=
  (((s.claimsBack k).sliceMarked k (handOver s.liveSlices k (s.stripesWith k)) (s.planWithout k) (s.prepWithout k)
    (handOver s.liveSlices k (s.claimsBack k).plc.shown)).add (Reg.plcStat 8) 1).raise 0x80000 5

theorem State.sliceLost_eq (hk : k < 8) (hgone : s.sliceGone k = true) (hstripes : (s.stripesWith k).contains k = true)
    (hnew : s.plc.lost.contains k = false) : s.sliceLost k = (s.sliceTaken k).pinLost k := by
  rw [State.sliceLost, if_pos ⟨hk, hgone, hstripes, by rw [hnew]; rfl⟩, State.sliceTaken]
  extract_lets live new plan prep left claims
  have hclaims : claims = s.claimsBack k := rfl
  clear_value claims
  rw [← hclaims]
  rfl

theorem State.sliceTaken_words (s : State) (k : Nat) : s.wordsBut (s.sliceTaken k) [Reg.plcStat 8, 0x80010] := by
  intro a ha
  obtain ⟨hcount, hevent⟩ : a ≠ Reg.plcStat 8 ∧ a ≠ 0x80010 := by simpa using ha
  rw [State.sliceTaken, State.rd_raise_ne _ _ hevent, State.rd_add_ne _ _ hcount, State.sliceMarked_rd, s.claimsBack_rd]

theorem State.sliceTaken_ras (s : State) (k : Nat) : (s.sliceTaken k).ras = s.ras := by
  rw [State.sliceTaken, State.raise_ras, State.add_ras, State.sliceMarked_ras]
  exact (s.claimsBack_kept k).ras.resolve_left (by decide)

theorem State.sliceTaken_plan (s : State) (k : Nat) :
    (s.sliceTaken k).plc.plan = some (s.planWithout k) ∧ (s.sliceTaken k).plc.lost = k :: s.plc.lost := by
  rw [State.sliceTaken, State.raise_plc, State.add_plc, ← (s.claimsBack_kept k).plc.resolve_left (by decide)]
  exact State.sliceMarked_plan _ _ _ _ _ _

theorem State.sliceTaken_windows (s : State) (k : Nat) : (s.sliceTaken k).scn.windows = s.scn.windows.set k [] := by
  rw [State.sliceTaken, State.raise_scn, State.add_scn, State.sliceMarked_windows, (s.claimsBack_kept k).scn.resolve_left (by decide)]

theorem State.sliceTaken_held (s : State) (k : Nat) {c : Nat} (hc : c < 8) : ((s.sliceTaken k).cl (8 * k + c)).held = [] := by
  rw [State.sliceTaken, State.cl_of_clusters (State.raise_clusters _ _ _), State.cl_of_clusters (State.add_clusters _ _ _), State.sliceMarked_cl]
  exact s.claimsBack_held k hc

theorem State.sliceTaken_count (s : State) (k : Nat) : (s.sliceTaken k).rd (Reg.plcStat 8) = (s.rd (Reg.plcStat 8) + 1) % 2 ^ 32 := by
  rw [State.sliceTaken, State.rd_raise_ne _ _ (by decide), State.rd_add_same, State.sliceMarked_rd, s.claimsBack_rd]

theorem State.sliceTaken_event (s : State) (k : Nat) : (s.sliceTaken k).flag 0x80010 5 = true := State.flag_raise_same _ 0x80000 5 (by decide)

/-- A lost slice leaves its mark, its columns, its claims and its window as R244 says. -/
theorem State.sliceLost_shown (hk : k < 8) (hgone : s.sliceGone k = true) (hstripes : (s.stripesWith k).contains k = true)
    (hnew : s.plc.lost.contains k = false) : (s.sliceLost k).plc.plan = some (s.planWithout k) ∧ (s.sliceLost k).plc.lost = k :: s.plc.lost ∧
    (s.sliceLost k).scn.windows = s.scn.windows.set k [] ∧ (∀ c, c < 8 → ((s.sliceLost k).cl (8 * k + c)).held = []) ∧
    (s.sliceLost k).rd (Reg.plcStat 8) = (s.rd (Reg.plcStat 8) + 1) % 2 ^ 32 ∧ (s.sliceLost k).flag 0x80010 5 = true := by
  have hpin : Kept 0 (s.sliceTaken k) ((s.sliceTaken k).pinLost k) := State.pinLost_kept
  obtain ⟨hplan, hlost⟩ := s.sliceTaken_plan k
  rw [State.sliceLost_eq hk hgone hstripes hnew, hpin.plc.resolve_left (by decide), hpin.scn.resolve_left (by decide),
    State.pinLost_words _ _ _ (by decide)]
  refine ⟨hplan, hlost, s.sliceTaken_windows k, fun c hc => ?_, s.sliceTaken_count k, State.pinLost_event (s.sliceTaken_event k)⟩
  rw [State.cl_of_clusters (hpin.clusters.resolve_left (by decide))]
  exact s.sliceTaken_held k hc

theorem State.sliceLost_pin (hk : k < 8) (hgone : s.sliceGone k = true) (hstripes : (s.stripesWith k).contains k = true)
    (hnew : s.plc.lost.contains k = false) (hpin : s.flag Reg.plcCtrl 6 = true) (hwhole : s.flag Reg.plcStatus 19 = false)
    (hgives : s.pinGives k) : (s.sliceLost k).flag Reg.plcStatus 19 = true ∧ (s.sliceLost k).flag 0x80010 4 = true := by
  have hrd : ∀ a, a ∉ [Reg.plcStat 8, 0x80010] → (s.sliceTaken k).rd a = s.rd a := s.sliceTaken_words k
  rw [State.sliceLost_eq hk hgone hstripes hnew]
  refine State.pinLost_broken ?_ ?_ ?_
  · rw [State.flag, hrd _ (by decide)]
    exact hpin
  · rw [State.flag, hrd _ (by decide)]
    exact hwhole
  · unfold State.pinGives
    rw [hrd _ (by decide), hrd _ (by decide), s.sliceTaken_ras]
    exact hgives

/-! ### A slice that is still in use (log entry 181) -/

/-- A lost slice concerns the PLC page alone. -/
theorem State.sliceLost_words (s : State) (k : Nat) : WordsKept (fun a => 0x190000 ≤ a) s (s.sliceLost k) := by
  by_cases hlost : k < 8 ∧ s.sliceGone k ∧ (s.stripesWith k).contains k ∧ !s.plc.lost.contains k
  · obtain ⟨hk, hgone, hstripes, hnew⟩ := hlost
    rw [State.sliceLost_eq hk hgone hstripes (by simpa using hnew)]
    exact (WordsKept.wordsBut (s.sliceTaken_words k) (by decide)).trans (.wordsBut (State.pinLost_words _ k) (by decide))
  · rw [State.sliceLost, if_neg hlost]
    exact .refl _ _

theorem State.sliceFails_gone (hgone : s.sliceGone k = true) : s.sliceFails k = s :=
  if_neg fun h => by rw [hgone] at h; exact nomatch h.2.2

/-- A slice that is still in use fails with its window. -/
theorem State.sliceFails_shown (hk : k < 8) (hstate : s.unitState (64 + k) ≤ 1) (huse : s.sliceGone k = false) :
    WordsKept (fun a => 0x190000 ≤ a) (s.unitFailed (64 + k)) (s.sliceFails k) := by
  rw [State.sliceFails, if_pos ⟨hk, hstate, by rw [huse]; rfl⟩, State.unitFault_window hk hstate]
  exact .ite (.wordsBut (State.pinLost_words _ k) (by decide)) (.refl _ _)

theorem State.unitFailed_domOn (s : State) (u d : Nat) : (s.unitFailed u).domOn d = s.domOn d := by
  have hwords : WordsKept (fun a => a = Reg.pwrDomStat0 ∨ a = Reg.pwrDomStat1) s (s.unitFailed u) := .wordsBut (s.unitFailed_words u) (by
    simp only [List.mem_cons, List.not_mem_nil, or_false, Reg.svcUnit, Reg.svcLogStaged, Reg.pwrDomStat0, Reg.pwrDomStat1]
    omega)
  exact hwords.domOn (.inl rfl) (.inr rfl) d

theorem State.inUse_lost (hk : k < 8) (hstate : s.unitState (64 + k) ≤ 1) (huse : s.sliceGone k = false) :
    ((s.sliceFails k).sliceLost k).unitState (64 + k) = 4 ∧ ((s.sliceFails k).sliceLost k).flag 0x1D0010 0 = true := by
  have hafter : WordsKept (fun a => 0x190000 ≤ a) (s.unitFailed (64 + k)) ((s.sliceFails k).sliceLost k) :=
    (State.sliceFails_shown hk hstate huse).trans (State.sliceLost_words _ k)
  have hunit : 0x190000 ≤ Reg.svcUnit (64 + k) := by unfold Reg.svcUnit; omega
  obtain ⟨hfailed, hevent⟩ := s.unitFailed_shown (64 + k)
  have hon : ((s.sliceFails k).sliceLost k).domOn (unitDomain (64 + k)) = true := by
    rw [hafter.domOn (by decide) (by decide), State.unitFailed_domOn]
    exact State.domOn_of_unitState hstate
  refine ⟨?_, (hafter.flag (by decide) 0).trans hevent⟩
  rw [State.unitState_shown (by omega) hon, hafter.fld hunit]
  exact hfailed

end

/-- Settles O34: what an arrival, a residue failure, a window error and a lost slice each leave, with time moved on first. -/
theorem raysAndSliceFaults : Obligations.RaysAndSliceFaults := by
  unfold Obligations.RaysAndSliceFaults
  intro s i
  refine ⟨fun h sub line hon => ⟨fun hlate => ?_, fun t htile hdropped hcomplete => ⟨fun hepoch => ?_,
    fun hepoch ps l r v hps hl hruns hsub hline hnew hray hcomp => ?_⟩⟩, fun c h hc hcluster hwindow hrun => ?_,
    fun k a hk hon => ⟨?_, ?_⟩, fun k hk hstate huse => ?_, fun k hk hgone hstripes hnew => ?_⟩
  · refine ⟨_, congrArg finish (State.rayArrive_late (s := s.at i) hon hlate), ?_, ?_, ?_⟩
    · rw [settle_brc, State.add_brc, State.at_brc]
    · rw [settle_rd, State.rd_add_same, State.rd_at]
    · exact State.wordsBut_settle (State.wordsBut_add (State.wordsBut_refl s _) (List.mem_singleton_self _))
  · refine ⟨_, congrArg finish (State.rayArrive_stale (s := s.at i) hon htile hdropped hcomplete hepoch), ?_, ?_,
      fun hfirst => ?_⟩
    · rw [settle_brc, State.staleShown_brc, State.add_brc, State.at_brc]
    · rw [settle_rd, State.staleShown_rd _ (by decide), State.rd_add_same, State.rd_at]
    · rw [settle_flag]
      exact State.staleShown_event hfirst
  · obtain ⟨u, howner⟩ := State.owner_of_runsNow hruns
    obtain ⟨hrun, hrays⟩ := t.admitted_run ps sub line r v
    have htile' : ((s.at i).rayCounted t ps sub line r).tileOf h = some t :=
      (State.tileOf_of_brc (State.rayCounted_brc _ _ _ _ _ _) h).trans htile
    obtain ⟨hput, hwords⟩ := State.rayTaken_shown (n := tileRays ps.timing t.band t.col) htile' hrun howner
    have harrive := (State.rayArrive_live (s := s.at i) (sub := sub) (line := line) hon htile hdropped hcomplete hepoch hps hl).trans
      (State.admitRay_taken hruns hsub hline hnew hray hcomp)
    refine ⟨_, _, congrArg finish harrive, (State.tileOf_of_brc (settle_brc _) h).trans hput, hrays, hrun.epoch, ?_, ?_⟩
    · rw [settle_rd, hwords _ (by decide), State.rayCounted_count, State.rd_at]
    · rw [hrays, hrun.state]
  · obtain ⟨htiles, hcount, hcl, hunit, hevent⟩ := State.residueFailure_shown (s := s.at i) hc hcluster hwindow hrun
    refine ⟨settle ((s.at i).residueFailure c), congrArg finish (if_pos hc), fun t htile hepoch howner => ?_, ?_, ?_, ?_, ?_, ?_⟩
    · exact (State.tileOf_of_brc (settle_brc _) h).trans (htiles t htile hepoch howner)
    · rw [settle_rd, hcount, State.rd_at]
    · rw [State.cl_of_clusters (settle_clusters _), hcl]
    · rw [State.cl_of_clusters (settle_clusters _), hcl]
    · rw [settle_fld, hunit]
    · rw [settle_flag, hevent]
  · obtain ⟨hcount, hevent⟩ := (s.at i).slcError_shown k 2 1 (by decide)
    refine ⟨_, congrArg finish (State.windowEcc_corrected hk hon), ?_, ?_, ?_⟩
    · rw [settle_scn, State.raise_scn, State.add_scn, State.at_scn]
    · rw [settle_rd, hcount, State.rd_at]
    · rw [settle_flag, hevent]
  · obtain ⟨hcount, hevent⟩ := ((s.at i).slotDropped k a).slcError_shown k 3 2 (by decide)
    refine ⟨_, congrArg finish (State.windowEcc_uncorrected hk hon), ?_, ?_, ?_⟩
    · rw [settle_scn, State.raise_scn, State.add_scn, State.slotDropped_windows, State.at_scn]
    · rw [settle_rd, hcount, State.rd, State.slotDropped_regs, State.at_regs, State.rd]
    · rw [settle_flag, hevent]
  · obtain ⟨hunit, hevent⟩ := State.inUse_lost (s := s.at i) hk hstate huse
    refine ⟨settle (((s.at i).sliceFails k).sliceLost k), rfl, ?_, ?_⟩
    · rw [settle_unitState, hunit]
    · rw [settle_flag, hevent]
  · obtain ⟨hplan, hlost, hwindows, hheld, hcount, hevent⟩ := State.sliceLost_shown (s := s.at i) hk hgone hstripes hnew
    have hexec : exec (.sliceLost k i) s = .next (settle ((s.at i).sliceLost k)) :=
      congrArg (fun r : State => finish (r.sliceLost k)) (State.sliceFails_gone (s := s.at i) hgone)
    refine ⟨_, (s.at i).planWithout k, hexec, ?_, State.planWithout_owner _ _, ?_, ?_, fun c hc => ?_, ?_, ?_, fun hpin hwhole hgives => ?_⟩
    · rw [settle_plc, hplan]
    · rw [settle_plc, hlost, State.at_plc]
    · rw [settle_scn, hwindows, State.at_scn]
    · rw [State.cl_of_clusters (settle_clusters _)]
      exact hheld c hc
    · rw [settle_rd, hcount, State.rd_at]
    · rw [settle_flag, hevent]
    · rw [settle_flag, settle_flag]
      exact State.sliceLost_pin (s := s.at i) hk hgone hstripes hnew hpin hwhole hgives

end Sys2Proof.Machine

/-! SUPPORT. The Oasis and snapshots, with O36 (R215, R216, R220, R225). -/

namespace Sys2Proof.Machine

section
variable {s t : State} {who : Requester}

/-! ### What a write leaves in memory -/

theorem State.putByte_dram_congr (hok : ∀ x k, t.dramOk x k = s.dramOk x k) (hpoison : t.poison = s.poison) (hdram : t.dram = s.dram)
    (a0 n a : Nat) (b : Byte) : (t.putByte a0 n a b).dram = (s.putByte a0 n a b).dram := by
  have hline : t.linePoisoned (a / 64) = s.linePoisoned (a / 64) := by rw [State.linePoisoned, hpoison, State.linePoisoned]
  unfold State.putByte
  rw [hok, hline]
  split
  case isTrue => exact congrArg (fun d => Sparse.set dramDefault d a b) hdram
  case isFalse => exact hdram

theorem State.putBytes_dram_congr (hok : ∀ x k, t.dramOk x k = s.dramOk x k) (hpoison : t.poison = s.poison) (hdram : t.dram = s.dram)
    (a0 n a : Nat) (bs : List Byte) : (t.putBytes a0 n a bs).dram = (s.putBytes a0 n a bs).dram := by
  induction bs generalizing s t a with
  | nil => exact hdram
  | cons b bs ih =>
    have hbyte := State.putByte_dram_congr hok hpoison hdram a0 n a b
    obtain ⟨d, hd⟩ := s.putByte_eq a0 n a b
    obtain ⟨e, he⟩ := t.putByte_eq a0 n a b
    rw [hd, he] at hbyte
    rw [State.putBytes, State.putBytes, hd, he]
    exact ih (s := { s with dram := d }) (t := { t with dram := e }) hok hpoison hbyte (a + 1)

/-- A write leaves the same memory in two states that have the same memory and the same channels. -/
theorem State.dramWrite_dram_congr (hok : ∀ x k, t.dramOk x k = s.dramOk x k) (hpoison : t.poison = s.poison) (hdram : t.dram = s.dram)
    (a : Nat) (bs : List Byte) : (t.dramWrite a bs).dram = (s.dramWrite a bs).dram :=
  State.putBytes_dram_congr hok hpoison hdram a bs.length a bs

theorem State.dramWrite_rd (s : State) (a : Nat) (bs : List Byte) (x : Nat) : (s.dramWrite a bs).rd x = s.rd x := by
  obtain ⟨d, p, hwrite, -⟩ := s.dramWrite_eq a bs
  rw [hwrite]
  rfl

theorem State.dramWrite_brc (s : State) (a : Nat) (bs : List Byte) : (s.dramWrite a bs).brc = s.brc :=
  State.dramWrite_kept.brc.resolve_left (by decide)

/-! ### Units of the Oasis (R215, R216) -/

/-- The unit of a tile that has been sent: its rung and its bytes. -/
def State.sentUnit (s : State) (x : SentTile) : Nat × List Byte := oasUnit (tileCols (s.timingOf x.frame) x.col) x.rows

/-- The address of its unit space. -/
def State.sentAddr (s : State) (x : SentTile) : Nat :=
  s.oasAddr (s.timingOf x.frame) (s.oasChannel x.region x.band x.col) x.frame x.region x.band x.col

/-- The entry of its position. -/
def State.sentEntry (s : State) (x : SentTile) : OasEntry :=
  { frame := x.frame % 65536, valid := true, rung := (s.sentUnit x).1, channel := s.oasChannel x.region x.band x.col,
    addr := s.sentAddr x, len := (s.sentUnit x).2.length }

/-- Both slots, with that entry in the slot of its frame. -/
def State.sentOasis (s : State) (x : SentTile) : List (Sparse OasEntry) :=
  s.brc.oasis.set (x.frame % 2) (Sparse.set noEntryO (s.brc.oasis.getD (x.frame % 2) []) (posKey x.region x.band x.col) (s.sentEntry x))

/-- The entry stands in its slot, and the tile has left those being sent. -/
def State.withOasis (s : State) (oasis : List (Sparse OasEntry)) (sent : List SentTile) : State :=
  { s with brc := { s.brc with oasis := oasis, sent := sent } }

/-- A unit of so many bytes on a rung is counted, and the Oasis is no longer empty. -/
def State.oasCounted (s : State) (rung len : Nat) : State :=
  (if rung = 0 then (s.add (Reg.brcOasStat 0) 1).add64 (Reg.brcOasStat 3) (Reg.brcOasStat 4) len
    else ((s.add (Reg.brcOasStat 0) 1).add64 (Reg.brcOasStat 3) (Reg.brcOasStat 4) len).add (Reg.brcOasStat rung) 1).setFlag
    Reg.brcOasStatus 1 false

theorem State.oasCounted_brc (s : State) (rung len : Nat) : (s.oasCounted rung len).brc = s.brc := by
  rw [State.oasCounted, State.setFlag_brc]
  split
  case isTrue => rw [State.add64, State.wr_brc, State.wr_brc, State.add_brc]
  case isFalse => rw [State.add_brc, State.add64, State.wr_brc, State.wr_brc, State.add_brc]

theorem State.oasCounted_dram (s : State) (rung len : Nat) : (s.oasCounted rung len).dram = s.dram := by
  rw [State.oasCounted, State.setFlag_dram]
  split
  case isTrue => rw [State.add64, State.wr_dram, State.wr_dram, State.add_dram]
  case isFalse => rw [State.add_dram, State.add64, State.wr_dram, State.wr_dram, State.add_dram]

theorem State.oasCounted_filled (s : State) (rung len : Nat) : (s.oasCounted rung len).flag Reg.brcOasStatus 1 = false :=
  State.flag_setFlag_same _ _ 1 false (by decide)

theorem State.oasCounted_units (s : State) (rung len : Nat) :
    (s.oasCounted rung len).rd (Reg.brcOasStat 0) = (s.rd (Reg.brcOasStat 0) + 1) % 2 ^ 32 := by
  have hstatus : Reg.brcOasStat 0 ≠ Reg.brcOasStatus := by decide
  have hbytes : ((s.add (Reg.brcOasStat 0) 1).add64 (Reg.brcOasStat 3) (Reg.brcOasStat 4) len).rd (Reg.brcOasStat 0) =
      (s.rd (Reg.brcOasStat 0) + 1) % 2 ^ 32 := by
    rw [State.add64, State.rd_wr_ne _ _ (by decide), State.rd_wr_ne _ _ (by decide), State.rd_add_same]
  rw [State.oasCounted, State.rd_setFlag_ne _ _ _ hstatus]
  split
  case isTrue => exact hbytes
  case isFalse hrung =>
    have hother : Reg.brcOasStat 0 ≠ Reg.brcOasStat rung := by unfold Reg.brcOasStat; omega
    rw [State.rd_add_ne _ _ hother]
    exact hbytes

section
variable {h : Hold} {x : SentTile}
  (hfind : s.brc.sent.find? (fun x => x.frame == h.frame && x.region == h.region && x.band == h.band && x.col == h.col) = some x)
  (hrows : x.rows.length = tileLines (s.timingOf x.frame) x.band)
include hfind hrows

/-- The unit of a tile whose rows have all been sent is entered, written and counted. -/
theorem State.oasWrite_eq : ∃ sent, s.oasWrite h =
    ((s.withOasis (s.sentOasis x) sent).dramWrite (s.sentAddr x) (wholeLines (s.sentUnit x).2)).oasCounted (s.sentUnit x).1
      (s.sentUnit x).2.length := by
  refine ⟨s.brc.sent.filter fun x => !(x.frame == h.frame && x.region == h.region && x.band == h.band && x.col == h.col), ?_⟩
  rw [State.oasWrite]
  dsimp only
  rw [hfind]
  dsimp only
  rw [if_pos hrows]
  rfl

/-- What a complete unit leaves (R215, R225). -/
theorem State.oasWrite_shown : (s.oasWrite h).flag Reg.brcOasStatus 1 = false ∧
    (s.oasWrite h).rd (Reg.brcOasStat 0) = (s.rd (Reg.brcOasStat 0) + 1) % 2 ^ 32 ∧ (s.oasWrite h).brc.oasis = s.sentOasis x ∧
    (s.oasWrite h).dram = (s.dramWrite (s.sentAddr x) (wholeLines (s.sentUnit x).2)).dram := by
  obtain ⟨sent, hwrite⟩ := State.oasWrite_eq hfind hrows
  rw [hwrite]
  refine ⟨State.oasCounted_filled _ _ _, ?_, ?_, ?_⟩
  · rw [State.oasCounted_units, State.dramWrite_rd]
    rfl
  · rw [State.oasCounted_brc, State.dramWrite_brc]
    rfl
  · rw [State.oasCounted_dram]
    exact State.dramWrite_dram_congr (s := s) (t := s.withOasis (s.sentOasis x) sent) (fun _ _ => rfl) rfl rfl _ _

end

/-! ### EN of the Oasis (R215, R225) -/

/-- The row of BRC_OAS_CTRL. -/
def brcOasCtrlRow : RegRow := row1 "BRC_OAS_CTRL" 0x40 1 [fAny 0 0 .rw]

theorem State.oasClear_empty (s : State) : ∀ o ∈ s.oasClear.brc.oasis, ∀ e ∈ o, e.2.valid = false := by
  intro o ho e he
  rw [State.oasClear, State.setFlag_brc] at ho
  obtain ⟨slot, -, rfl⟩ := List.mem_map.1 ho
  obtain ⟨entry, -, rfl⟩ := List.mem_map.1 he
  rfl

theorem State.oasClear_status (s : State) : s.oasClear.flag Reg.brcOasStatus 1 = true := State.flag_setFlag_same _ _ 1 true (by decide)

theorem State.oasSwitch_off (s : State) : s.oasSwitch true false = s.oasClear := rfl
theorem State.oasSwitch_on (s : State) : s.oasSwitch false true = { s with brc := { s.brc with oasFrom := s.ras.frame + 2 } } := rfl
theorem State.oasSwitch_same (s : State) (en : Bool) : s.oasSwitch en en = s := by cases en <;> rfl

theorem State.oasSwitch_secu (s : State) (was en : Bool) : (s.oasSwitch was en).secu = s.secu := by
  cases was <;> cases en <;> rfl

theorem State.oasSwitch_rd (s : State) (was en : Bool) {x : Nat} (hx : x ≠ Reg.brcOasStatus) : (s.oasSwitch was en).rd x = s.rd x := by
  cases was <;> cases en
  case true.false => exact State.rd_setFlag_ne _ _ _ hx
  all_goals rfl

/-- An accepted write of OAS_CTRL stores EN and switches the Oasis. -/
theorem State.writeWord_brcOasCtrl {data : Nat} (hacc : s.accepts who Reg.brcOasCtrl data) : brcOasCtrlRow.laid = true ∧
    s.writeWord who Reg.brcOasCtrl 4 data =
      (s.rowStored Reg.brcOasCtrl brcOasCtrlRow data).oasSwitch (s.flag Reg.brcOasCtrl 0) (bitOf data 0) := by
  obtain ⟨hlaid, hwrite⟩ := State.writeWord_onPage (p := page 7 1 16 7 rowsOasis) (r := brcOasCtrlRow) (i := 0) rfl (by decide) (by decide)
    rfl (by decide) hacc
  refine ⟨hlaid, hwrite.trans (State.certCheck_same _ _ ?_)⟩
  exact (State.oasSwitch_secu _ _ _).trans (s.wr_secu _ _)

/-! ### Snapshots (R220, R225) -/

/-- The row of BRC_SNAP_CTRL. -/
def brcSnapCtrlRow : RegRow := row1 "BRC_SNAP_CTRL" 0x64 0 [fAny 1 0 .rw, fAny 31 31 .w1s]

theorem State.addr64_rowStored {a lo hi data : Nat} {r : RegRow} (hlo : lo ≠ a) (hhi : hi ≠ a) :
    (s.rowStored a r data).addr64 lo hi = s.addr64 lo hi := by
  rw [State.addr64, State.addr64, State.rowStored_rd _ _ _ _ hlo, State.rowStored_rd _ _ _ _ hhi]

/-- A snapshot is armed. -/
def State.snapArmed (s : State) (p : Snap) : State := ({ s with brc := { s.brc with snap := some p } } : State).wr Reg.brcSnapStat 1

/-- The snapshot that the words of its page ask for, with `data` for SNAP_CTRL. -/
def State.snapAsked (s : State) (data : Nat) : Snap :=
  { frame := s.addr64 Reg.brcSnapFrameLo Reg.brcSnapFrameHi, addr := s.addr64 Reg.brcSnapAddrLo Reg.brcSnapAddrHi,
    d := 8 * 2 ^ bitsOf data 1 0, capturing := false }

theorem State.snapArmed_brc (s : State) (p : Snap) : (s.snapArmed p).brc = { s.brc with snap := some p } := by
  rw [State.snapArmed, State.wr_brc]
theorem State.snapArmed_secu (s : State) (p : Snap) : (s.snapArmed p).secu = s.secu := by rw [State.snapArmed, State.wr_secu]
theorem State.snapArmed_stat (s : State) (p : Snap) : (s.snapArmed p).rd Reg.brcSnapStat = 1 := by
  rw [State.snapArmed, State.rd_wr_same, Nat.one_mod_two_pow (by decide)]
theorem State.snapArmed_go (s : State) (p : Snap) : (s.snapArmed p).flag Reg.brcSnapCtrl 31 = s.flag Reg.brcSnapCtrl 31 := by
  rw [State.flag, State.snapArmed, State.rd_wr_ne _ _ (by decide)]
  rfl

theorem State.blockEffect_snapGo (s : State) (old : Nat) {data : Nat} (hgo : bitOf data 31 = true) :
    s.blockEffect (page 7 1 16 7 rowsOasis) (Reg.brcSnapCtrl % 0x1000) old data = s.snapArmed (s.snapAsked data) := by
  show s.brcEffect 1 0x64 old data = _
  rw [State.brcEffect, if_neg (by decide), if_neg (by decide), if_pos ⟨rfl, hgo⟩]
  rfl

theorem State.trigger_brcSnapCtrl {data : Word} (hacc : s.accepts who Reg.brcSnapCtrl (putBits data.toNat 31 31 1)) :
    s.trigger who Reg.brcSnapCtrl 31 data =
      (s.rowStored Reg.brcSnapCtrl brcSnapCtrlRow (putBits data.toNat 31 31 1)).snapArmed (s.snapAsked data.toNat) ∧
    (s.rowStored Reg.brcSnapCtrl brcSnapCtrlRow (putBits data.toNat 31 31 1)).flag Reg.brcSnapCtrl 31 = true := by
  have hsize := bitsOf_putBits_other data.toNat 31 31 1 1 0 (by decide) (by decide) (by decide)
  refine State.trigger_onPage (p := page 7 1 16 7 rowsOasis) (i := 0) rfl (by decide) (by decide) rfl (by decide) (by decide) (by decide)
    hacc ?_ ((State.snapArmed_secu _ _).trans (s.wr_secu _ _))
  rw [State.blockEffect_snapGo _ _ (bitOf_putBits_one _ _), State.snapAsked, hsize, State.addr64_rowStored (by decide) (by decide),
    State.addr64_rowStored (by decide) (by decide), State.snapAsked]

/-- The end of a snapshot of frame `f`, `bad` of whose rows were not captured, in the words of its page. -/
def State.snapShown (s : State) (f bad : Nat) : State :=
  ((s.wr Reg.brcSnapStat (4 + (if bad = 0 then 0 else 8) + f % 65536 * 65536)).raise 0x71000 2).setFlag Reg.brcSnapCtrl 31 false

theorem State.snapShown_brc (s : State) (f bad : Nat) : (s.snapShown f bad).brc = s.brc := by
  rw [State.snapShown, State.setFlag_brc, State.raise_brc, State.wr_brc]
theorem State.snapShown_dram (s : State) (f bad : Nat) : (s.snapShown f bad).dram = s.dram := by
  rw [State.snapShown, State.setFlag_dram, State.raise_dram, State.wr_dram]

theorem State.snapShown_go (s : State) (f bad : Nat) : (s.snapShown f bad).flag Reg.brcSnapCtrl 31 = false :=
  State.flag_setFlag_same _ _ 31 false (by decide)

theorem State.snapShown_event (s : State) (f bad : Nat) : (s.snapShown f bad).flag 0x71010 2 = true := by
  rw [State.snapShown, State.flag_setFlag_ne _ _ _ _ (by decide)]
  exact State.flag_raise_same _ 0x71000 2 (by decide)

/-- STAT shows the snapshot done and the number of its frame. -/
theorem State.snapShown_stat (s : State) (f bad : Nat) :
    (s.snapShown f bad).flag Reg.brcSnapStat 2 = true ∧ (s.snapShown f bad).fld Reg.brcSnapStat 31 16 = f % 65536 := by
  have hstat : (s.snapShown f bad).rd Reg.brcSnapStat = (4 + (if bad = 0 then 0 else 8) + f % 65536 * 65536) % 2 ^ 32 := by
    rw [State.snapShown, State.rd_setFlag_ne _ _ _ (by decide), State.rd_raise_ne _ _ (by decide), State.rd_wr_same]
  rw [State.flag, State.fld, hstat, bitOf, bitsOf, beq_iff_eq]
  split <;> omega

section
variable {p : Snap} (hsnap : s.brc.snap = some p) (hcapturing : p.capturing = true) (hblank : s.ras.timing.vactive ≤ s.ras.line)
include hsnap hcapturing hblank

/-- In vertical blanking the image of a snapshot that has captured its frame is written. -/
theorem State.snapDone_eq : s.snapDone =
    (({ s with brc := { s.brc with snap := none } } : State).dramWrite p.addr (s.snapImage p.frame p.d).1).snapShown p.frame
      (s.snapImage p.frame p.d).2 := by
  rw [State.snapDone, hsnap]
  dsimp only
  rw [if_pos ⟨hcapturing, hblank⟩, State.snapShown]

/-- What the end of such a snapshot leaves (R220, R225). -/
theorem State.snapDone_shown : s.snapDone.brc = { s.brc with snap := none } ∧
    s.snapDone.dram = (s.dramWrite p.addr (s.snapImage p.frame p.d).1).dram ∧ s.snapDone.flag Reg.brcSnapCtrl 31 = false ∧
    s.snapDone.flag Reg.brcSnapStat 2 = true ∧ s.snapDone.fld Reg.brcSnapStat 31 16 = p.frame % 65536 ∧
    s.snapDone.flag 0x71010 2 = true := by
  rw [State.snapDone_eq hsnap hcapturing hblank]
  obtain ⟨hdone, hframe⟩ := State.snapShown_stat
    (({ s with brc := { s.brc with snap := none } } : State).dramWrite p.addr (s.snapImage p.frame p.d).1) p.frame
    (s.snapImage p.frame p.d).2
  refine ⟨?_, ?_, State.snapShown_go _ _ _, hdone, hframe, State.snapShown_event _ _ _⟩
  · rw [State.snapShown_brc, State.dramWrite_brc]
  · rw [State.snapShown_dram]
    exact State.dramWrite_dram_congr (s := s) (t := { s with brc := { s.brc with snap := none } }) (fun _ _ => rfl) rfl rfl _ _

end

end

/-- Settles O36: a unit is entered, written and counted; EN is one stored word and a switch; a snapshot is armed by GO and ends with its
image in memory. -/
theorem oasisAndSnapshots : Obligations.OasisAndSnapshots := by
  unfold Obligations.OasisAndSnapshots
  intro s i who data
  refine ⟨fun f r b c x hfind hrows => ?_, fun hacc => ?_, fun hacc => ?_, fun p hsnap hcapturing hblank => ?_⟩
  · obtain ⟨hfilled, hcount, hentry, hbytes⟩ := State.oasWrite_shown (s := s.at i)
      (h := { frame := f, region := r, band := b, col := c, epoch := 0 }) hfind hrows
    refine ⟨_, rfl, (settle_flag _ _ _).trans hfilled, (settle_rd _ _).trans hcount, ?_, (settle_dram _).trans (hbytes.trans ?_)⟩
    · rw [settle_brc]
      exact hentry
    · exact State.dramWrite_dram_congr (s := s) (t := s.at i) (fun _ _ => rfl) rfl rfl _ _
  · obtain ⟨hlaid, hwrite⟩ := State.writeWord_brcOasCtrl hacc
    have hen : (s.rowStored Reg.brcOasCtrl brcOasCtrlRow data.toNat).flag Reg.brcOasCtrl 0 = data.getLsbD 0 :=
      (State.rowStored_en hlaid (List.mem_singleton_self _)).trans (bitOf_testBit _ _)
    rw [show bitOf data.toNat 0 = data.getLsbD 0 from bitOf_testBit _ _] at hwrite
    refine ⟨_, congrArg finish hwrite, ?_, fun hon hoff => ?_, fun hoff hon => ?_, fun hsame => ?_⟩
    · rw [settle_flag, State.flag, State.oasSwitch_rd _ _ _ (by decide)]
      exact hen
    · rw [settle_brc, settle_flag, hon, hoff, State.oasSwitch_off]
      exact ⟨State.oasClear_empty _, State.oasClear_status _⟩
    · rw [settle_brc, hoff, hon, State.oasSwitch_on]
      rfl
    · rw [settle_brc, hsame, State.oasSwitch_same]
      rfl
  · obtain ⟨hstart, hgo⟩ := State.trigger_brcSnapCtrl hacc
    refine ⟨_, congrArg finish hstart, ?_, ?_, ?_⟩
    · rw [settle_flag, State.snapArmed_go]
      exact hgo
    · rw [settle_rd, State.snapArmed_stat]
    · rw [settle_brc, State.snapArmed_brc]
      rfl
  · refine ⟨settle s.snapDone, rfl, ?_⟩
    rw [settle_brc, settle_dram, settle_flag, settle_flag, settle_fld, settle_flag]
    exact State.snapDone_shown hsnap hcapturing hblank

end Sys2Proof.Machine

/-! SUPPORT. Claims, starts, steals and revokes of tiles, with O32 (R234-R238, R258). -/

namespace Sys2Proof.Machine

section
variable {s : State} {x y : Tile} {h : Hold} {rest : List Hold} {u v : Nat}

/-! ### The tile that a rule picks -/

theorem leastBy_mem {α : Type} {f : α → Nat} {l : List α} {a : α} (h : leastBy f l = some a) : a ∈ l := by
  refine foldl_some_keeps (P := fun b => b ∈ l) _ l none (fun b hb => nomatch hb) (fun o b hb ho c hc => ?_) a h
  cases o with
  | none => exact Option.some.inj hc ▸ hb
  | some d =>
    dsimp only at hc
    split at hc
    · exact Option.some.inj hc ▸ hb
    · exact ho c hc

theorem State.queueHead_mem {k : Nat} (h : s.queueHead k = some x) : x ∈ s.brc.tiles := (List.mem_filter.1 (leastBy_mem h)).1

/-- A victim is a tile whose steals have not reached MAX_STEALS (R235). -/
theorem State.victim_spec (h : s.victim u = some x) : x ∈ s.brc.tiles ∧ x.steals < s.fld Reg.plcCtrl 14 12 := by
  unfold State.victim at h
  dsimp only at h
  split at h
  case h_1 z hz =>
    obtain rfl := Option.some.inj h
    obtain ⟨hmem, hok⟩ := List.mem_filter.1 (leastBy_mem hz)
    simp only [Bool.and_eq_true, decide_eq_true_eq] at hok
    exact ⟨hmem, hok.2.1⟩
  case h_2 =>
    split at h
    case isTrue =>
      obtain ⟨hmem, hok⟩ := List.mem_filter.1 (leastBy_mem h)
      simp only [Bool.and_eq_true, decide_eq_true_eq] at hok
      exact ⟨hmem, hok.1.2.1⟩
    case isFalse => exact nomatch h

/-- A tile of the list that is replaced by one of its name is found in its new form. -/
theorem State.tileOf_replaced (hx : x ∈ s.brc.tiles) (hname : y.isHold x.hold = true) : (s.setTile y).tileOf x.hold = some y := by
  have hfound : (s.tileOf x.hold).isSome = true := List.find?_isSome.2 ⟨x, hx, x.isHold_hold⟩
  obtain ⟨z, hz⟩ := Option.isSome_iff_exists.1 hfound
  exact State.tileOf_setTile_same hz hname

/-! ### Claims (R234, R238) -/

/-- A tile as cluster `u` claims it: under the next epoch. -/
def Tile.claimedBy (x : Tile) (u : Nat) : Tile :=
  { x with state := .claimed, owner := some u, epoch := (x.epoch + 1) % 256, remote := u / 8 != x.home }

theorem State.claim_head (hon : s.clusterOn u = true) (hroom : (s.cl u).count < 2) (hruns : s.plcRestarting = false)
    (hhead : s.queueHead (u / 8) = some x) :
    s.claim u = (s.setTile (x.claimedBy u)).setCl u { s.cl u with held := (s.cl u).held ++ [(x.claimedBy u).hold] } := by
  rw [State.claim, if_pos (by rw [hon, decide_eq_true hroom, hruns]; rfl), hhead]
  rfl

theorem State.claim_restarting (hrestart : s.plcRestarting = true) : s.claim u = s :=
  if_neg (by rw [hrestart, Bool.not_true, Bool.and_false]; exact Bool.false_ne_true)

/-! ### Starts (R120, R234) -/

/-- A tile as it is started at instant `n`. -/
def Tile.startedAt (x : Tile) (n : Nat) : Tile := { x with state := .started, startAt := n, ran := 0, cache := [] }

/-- A cluster that starts, at instant `n`, the tile it claimed first. -/
def Cluster.starts (c : Cluster) (h : Hold) (rest : List Hold) (n : Nat) (far : Bool) : Cluster :=
  { c with held := rest, running := some h, since := n, ran := 0, far := far }

/-- A tile with merged planes is counted where it starts. -/
def State.mergedCounted (s : State) (x : Tile) : State := if x.merged then s.add (Reg.synStat 5) 1 else s

theorem State.tileStart_claimed (hheld : (s.cl u).held = h :: rest) (hidle : (s.cl u).running = none) (hon : s.clusterOn u = true)
    (htile : s.tileOf h = some x) (hepoch : x.epoch = h.epoch) (hstate : x.state = .claimed) (hready : s.windowReady x = true) :
    s.tileStart u = (((s.setCl u ((s.cl u).starts h rest s.now (x.home != u / 8))).setTile (x.startedAt s.now)).showTile u
      (some (x.startedAt s.now))).mergedCounted x := by
  have hfound : ∀ c, (s.setCl u c).tileOf h = some x := fun _ => htile
  unfold State.tileStart
  rw [hheld, hidle]
  dsimp only
  rw [htile, if_pos (by rw [hon, Option.all_some, hready]; rfl), hfound]
  dsimp only
  rw [if_pos ⟨hepoch, hstate⟩]
  rfl

/-- The running tile's word shows its epoch (R199). -/
theorem State.showTile_epoch (s : State) (u : Nat) (x : Tile) :
    (s.showTile u (some x)).fld (Reg.slcClTile (u / 8) (u % 8)) 31 24 = x.epoch % 256 := by
  have hbudget : Reg.slcClTile (u / 8) (u % 8) ≠ Reg.slcClBudget (u / 8) (u % 8) := by unfold Reg.slcClTile Reg.slcClBudget; omega
  have hsamples : Reg.slcClTile (u / 8) (u % 8) ≠ Reg.slcClSamples (u / 8) (u % 8) := by unfold Reg.slcClTile Reg.slcClSamples; omega
  rw [State.fld, State.showTile]
  rw [State.rd_wr_ne _ _ hsamples, State.rd_wr_ne _ _ hbudget, State.rd_wr_same, bitsOf]
  omega

theorem State.showTile_brc (s : State) (u : Nat) (o : Option Tile) : (s.showTile u o).brc = s.brc :=
  State.showTile_kept.brc.resolve_left (by decide)

theorem State.showTile_clusters (s : State) (u : Nat) (o : Option Tile) : (s.showTile u o).clusters = s.clusters :=
  State.showTile_kept.clusters.resolve_left (by decide)

theorem State.mergedCounted_kept (s : State) (x : Tile) : Kept 0 s (s.mergedCounted x) := Kept.ite State.add_kept (Kept.refl _ _)

theorem State.mergedCounted_rd (s : State) (x : Tile) {a : Nat} (ha : a ≠ Reg.synStat 5) : (s.mergedCounted x).rd a = s.rd a := by
  unfold State.mergedCounted
  split
  · exact State.rd_add_ne _ _ ha
  · rfl

/-! ### Steals (R235-R237) -/

/-- A tile as cluster `u` steals it: under the next epoch, the steal counted. -/
def Tile.stolenBy (x : Tile) (u : Nat) : Tile :=
  { x with state := .claimed, owner := some u, epoch := (x.epoch + 1) % 256, steals := x.steals + 1, remote := u / 8 != x.home }

/-- A revoke is on its way to the former owner, if there is one. -/
def State.revokeSent (s : State) (owner : Option Nat) (h : Hold) : State :=
  match owner with
  | some v => s.setCl v { s.cl v with revokes := (s.cl v).revokes ++ [h] }
  | none => s

/-- A steal is counted, one from another slice's window twice. -/
def State.stealCounted (s : State) (far : Bool) : State :=
  if far then (s.add (Reg.plcStat 0) 1).add (Reg.plcStat 1) 1 else s.add (Reg.plcStat 0) 1

theorem State.steal_victim (hsteal : s.flag Reg.plcCtrl 1 = true) (hon : s.clusterOn u = true) (hheld : (s.cl u).held = [])
    (hqueue : s.queueHead (u / 8) = none) (hruns : s.plcRestarting = false) (hvictim : s.victim u = some x) :
    s.steal u = (((s.setTile (x.stolenBy u)).setCl u { s.cl u with held := [(x.stolenBy u).hold] }).revokeSent x.owner x.hold).stealCounted
      (u / 8 != x.home) := by
  rw [State.steal, if_pos (by rw [hsteal, hon, hheld, hqueue, hruns]; rfl), hvictim]
  rfl

theorem State.steal_restarting (hrestart : s.plcRestarting = true) : s.steal u = s :=
  if_neg (by rw [hrestart, Bool.not_true, Bool.and_false]; exact Bool.false_ne_true)

theorem State.revokeSent_kept (s : State) (owner : Option Nat) (h : Hold) : Kept 128 s (s.revokeSent owner h) := by
  cases owner with
  | none => exact Kept.refl _ _
  | some v => exact State.setCl_kept

theorem State.revokeSent_regs (s : State) (owner : Option Nat) (h : Hold) : (s.revokeSent owner h).regs = s.regs := by
  cases owner <;> rfl

theorem State.stealCounted_kept (s : State) (far : Bool) : Kept 0 s (s.stealCounted far) :=
  Kept.ite (State.add_kept.step rfl State.add_kept) State.add_kept

theorem State.stealCounted_count (s : State) (far : Bool) : (s.stealCounted far).rd (Reg.plcStat 0) = (s.rd (Reg.plcStat 0) + 1) % 2 ^ 32 := by
  unfold State.stealCounted
  split
  · rw [State.rd_add_ne _ _ (by decide), State.rd_add_same]
  · exact State.rd_add_same _ _ _

/-- What a steal leaves: the tile is the thief's, the steal is counted, and a revoke is on its way to the former owner. -/
theorem State.steal_shown (hsteal : s.flag Reg.plcCtrl 1 = true) (hon : s.clusterOn u = true) (hheld : (s.cl u).held = [])
    (hqueue : s.queueHead (u / 8) = none) (hruns : s.plcRestarting = false) (hvictim : s.victim u = some x) :
    (s.steal u).tileOf x.hold = some (x.stolenBy u) ∧ (s.steal u).rd (Reg.plcStat 0) = (s.rd (Reg.plcStat 0) + 1) % 2 ^ 32 ∧
    ∀ v, x.owner = some v → v ≠ u → v < s.clusters.length → ((s.steal u).cl v).revokes = (s.cl v).revokes ++ [x.hold] := by
  rw [State.steal_victim hsteal hon hheld hqueue hruns hvictim]
  refine ⟨?_, ?_, fun v howner hne hv => ?_⟩
  · rw [State.tileOf_of_brc ((State.stealCounted_kept _ _).brc.resolve_left (by decide)),
      State.tileOf_of_brc ((State.revokeSent_kept _ _ _).brc.resolve_left (by decide))]
    exact State.tileOf_replaced (State.victim_spec hvictim).1 x.isHold_hold
  · rw [State.stealCounted_count, State.rd, State.revokeSent_regs]
    rfl
  · have hlast : ((s.setTile (x.stolenBy u)).setCl u { s.cl u with held := [(x.stolenBy u).hold] }).cl v = s.cl v :=
      State.cl_setCl_ne _ _ hne
    rw [State.cl_of_clusters ((State.stealCounted_kept _ _).clusters.resolve_left (by decide)), howner, State.revokeSent,
      State.cl_setCl_same (by rw [State.setCl, List.length_set]; exact hv), hlast]

/-! ### Revokes (R237) -/

/-- A victim that runs the tile it is to give up abandons it. -/
def State.runGivenUp (s : State) (u : Nat) (h : Hold) : State :=
  if (s.cl u).running = some h then (s.abandon u).setCl u { s.cl u with running := none } else s

/-- A cluster that has dropped the tile `h`, with the revokes that are still on their way. -/
def Cluster.dropped (c : Cluster) (h : Hold) (rest : List Hold) : Cluster :=
  { c with held := c.held.filter (fun x => x != h), revokes := rest }

theorem State.revokeArrive_first (hrevokes : (s.cl u).revokes = h :: rest) :
    s.revokeArrive u = ((s.runGivenUp u h).setCl u (((s.runGivenUp u h).cl u).dropped h rest)).add (Reg.plcStat 2) 1 := by
  rw [State.revokeArrive, hrevokes]
  rfl

theorem State.lt_of_revokes (hrevokes : (s.cl u).revokes = h :: rest) : u < s.clusters.length := by
  by_contra hout
  rw [State.cl_outside (Nat.le_of_not_lt hout)] at hrevokes
  exact nomatch hrevokes

theorem State.abandon_clusters (s : State) (u : Nat) : (s.abandon u).clusters = s.clusters :=
  State.abandon_kept.clusters.resolve_left (by decide)

theorem State.runGivenUp_kept (s : State) (u : Nat) (h : Hold) : Kept 8589934720 s (s.runGivenUp u h) :=
  Kept.ite (State.setCl_kept.step rfl (State.abandon_kept.step rfl (Kept.refl _ _))) (Kept.refl _ _)

/-- Whatever it runs, the victim then holds and runs the tile no more. -/
theorem State.runGivenUp_dropped (hu : u < s.clusters.length) (h : Hold) (rest : List Hold) :
    (s.runGivenUp u h).clusters.set u (((s.runGivenUp u h).cl u).dropped h rest) = s.clusters.set u
      { s.cl u with held := (s.cl u).held.filter (fun x => x != h),
                    running := if (s.cl u).running = some h then none else (s.cl u).running, revokes := rest } := by
  unfold State.runGivenUp
  split
  case isTrue hrun =>
    rw [State.cl_setCl_same (by rw [State.abandon_clusters]; exact hu), State.setCl, State.abandon_clusters, List.set_set]
    rfl
  case isFalse => rfl

/-- What a run of a cluster is shown and counted in stands beside the counter of revokes. -/
theorem plcStat_not_runWord (u : Nat) : Reg.plcStat 2 ∉ synWords ++ runWords u := by
  intro hmem
  rcases List.mem_append.1 hmem with hmem | hmem
  · exact absurd (synWords_range hmem) (by decide)
  · simp only [runWords, List.mem_cons, List.not_mem_nil, or_false, Reg.slcClTile, Reg.slcClBudget, Reg.slcClSamples, Reg.slcClStatTiles,
      Reg.slcClStatSamples, Reg.slcClStatBusy, Reg.slcClStatWait, Reg.slcClStatBdCells, Reg.slcStat, Reg.plcStat] at hmem
    omega

theorem State.runGivenUp_revokes (s : State) (u : Nat) (h : Hold) : (s.runGivenUp u h).rd (Reg.plcStat 2) = s.rd (Reg.plcStat 2) := by
  unfold State.runGivenUp
  split
  · exact State.abandon_words s u _ (plcStat_not_runWord u)
  · rfl

/-- A cluster that runs no tile shows none (R199). -/
theorem State.showTile_none (s : State) (u : Nat) : (s.showTile u none).rd (Reg.slcClTile (u / 8) (u % 8)) = 0 := by
  have hbudget : Reg.slcClTile (u / 8) (u % 8) ≠ Reg.slcClBudget (u / 8) (u % 8) := by unfold Reg.slcClTile Reg.slcClBudget; omega
  have hsamples : Reg.slcClTile (u / 8) (u % 8) ≠ Reg.slcClSamples (u / 8) (u % 8) := by unfold Reg.slcClTile Reg.slcClSamples; omega
  rw [State.showTile]
  rw [State.rd_wr_ne _ _ hsamples, State.rd_wr_ne _ _ hbudget, State.rd_wr_same, Nat.zero_mod]

theorem State.runGivenUp_shown (hrun : (s.cl u).running = some h) : (s.runGivenUp u h).rd (Reg.slcClTile (u / 8) (u % 8)) = 0 := by
  rw [State.runGivenUp, if_pos hrun]
  exact State.showTile_none _ u

/-- What an arriving revoke leaves (R237). -/
theorem State.revokeArrive_shown (hrevokes : (s.cl u).revokes = h :: rest) : (s.revokeArrive u).brc = s.brc ∧
    (s.revokeArrive u).rd (Reg.plcStat 2) = (s.rd (Reg.plcStat 2) + 1) % 2 ^ 32 ∧
    (s.revokeArrive u).clusters = s.clusters.set u
      { s.cl u with held := (s.cl u).held.filter (fun x => x != h),
                    running := if (s.cl u).running = some h then none else (s.cl u).running, revokes := rest } ∧
    ((s.cl u).running = some h → (s.revokeArrive u).rd (Reg.slcClTile (u / 8) (u % 8)) = 0) ∧
    ((s.cl u).running ≠ some h → s.wordsBut (s.revokeArrive u) [Reg.plcStat 2]) := by
  have hshown : Reg.slcClTile (u / 8) (u % 8) ≠ Reg.plcStat 2 := by unfold Reg.slcClTile Reg.plcStat; omega
  rw [State.revokeArrive_first hrevokes]
  refine ⟨?_, ?_, ?_, fun hrun => ?_, fun hrun => ?_⟩
  · exact (State.add_brc _ _ _).trans ((State.runGivenUp_kept s u h).brc.resolve_left (by decide))
  · rw [State.rd_add_same]
    exact congrArg (fun n => (n + 1) % 2 ^ 32) (State.runGivenUp_revokes s u h)
  · rw [State.add_clusters]
    exact State.runGivenUp_dropped (State.lt_of_revokes hrevokes) h rest
  · rw [State.rd_add_ne _ _ hshown]
    exact State.runGivenUp_shown hrun
  · rw [State.runGivenUp, if_neg hrun]
    exact State.wordsBut_add (State.wordsBut_refl _ _) (List.mem_singleton_self _)

end

/-- Settles O32: a claim, a start, a steal and a revoke one by one, with time moved on first. -/
theorem tilesAndClusters : Obligations.TilesAndClusters := by
  unfold Obligations.TilesAndClusters
  intro s c i
  refine ⟨fun x hon hroom hruns hhead => ?_, fun h rest x hheld hidle hon htile hepoch hstate hready => ?_,
    fun x hsteal hon hheld hqueue hruns hvictim => ?_, fun h rest hrevokes => ?_, fun hrestart => ⟨?_, ?_⟩⟩
  · refine ⟨_, congrArg finish (State.claim_head (s := s.at i) hon hroom hruns hhead), ?_, ?_, ?_⟩
    · rw [settle_clusters]
      rfl
    · rw [State.tileOf_of_brc (settle_brc _)]
      exact State.tileOf_replaced (s := s.at i) (State.queueHead_mem hhead) x.isHold_hold
    · rw [settle_regs]
      rfl
  · have hother : Reg.slcClTile (c / 8) (c % 8) ≠ Reg.synStat 5 := by unfold Reg.slcClTile Reg.synStat; omega
    refine ⟨_, congrArg finish (State.tileStart_claimed (s := s.at i) hheld hidle hon htile hepoch hstate hready), ?_, ?_, ?_⟩
    · rw [settle_clusters, (State.mergedCounted_kept _ _).clusters.resolve_left (by decide), State.showTile_clusters]
      rfl
    · rw [State.tileOf_of_brc (settle_brc _), State.tileOf_of_brc ((State.mergedCounted_kept _ _).brc.resolve_left (by decide)),
        State.tileOf_of_brc (State.showTile_brc _ _ _)]
      exact State.tileOf_setTile_same (s := (s.at i).setCl c _) (x := x.startedAt (s.at i).now) htile (State.isHold_of_tileOf (x := x) htile)
    · rw [settle_fld, State.fld, State.mergedCounted_rd _ _ hother]
      exact State.showTile_epoch _ c _
  · obtain ⟨htile, hcount, hrevoke⟩ := State.steal_shown (s := s.at i) hsteal hon hheld hqueue hruns hvictim
    refine ⟨settle ((s.at i).steal c), rfl, ?_, (State.victim_spec hvictim).2, (settle_rd _ _).trans hcount, fun v howner hne hv => ?_⟩
    · rw [State.tileOf_of_brc (settle_brc _)]
      exact htile
    · rw [State.cl_of_clusters (settle_clusters _)]
      exact hrevoke v howner hne hv
  · obtain ⟨hbrc, hcount, hclusters, hrun, hidle⟩ := State.revokeArrive_shown (s := s.at i) hrevokes
    exact ⟨settle ((s.at i).revokeArrive c), rfl, (settle_brc _).trans hbrc, (settle_rd _ _).trans hcount,
      (settle_clusters _).trans hclusters, fun h => (settle_rd _ _).trans (hrun h), fun h => State.wordsBut_settle (hidle h)⟩
  · exact ⟨_, congrArg finish (State.claim_restarting (s := s.at i) hrestart), settle_clusters _, settle_brc _⟩
  · exact ⟨_, congrArg finish (State.steal_restarting (s := s.at i) hrestart), settle_clusters _, settle_brc _⟩

end Sys2Proof.Machine

/-! SUPPORT. Planning, hints, cost map copies and restarts of Barchan, with O33 (R226, R227, R230, R252, R255, R258). -/

namespace Sys2Proof.Machine

section
variable {s : State} {who : Requester} {data : Word} {t : Nat}

/-! ### A planning pass (R226, R240, R242) -/

/-- A plan stands ready for the next frame, with the runs of low bands it was made from. -/
def State.withPrep (s : State) (p : Plan) (lows : Sparse Nat) : State := { s with plc := { s.plc with prep := some p, lows := lows } }

/-- A pass is counted: columns moved, steps down and steps up, and the pressure it found. -/
def State.planCounted (s : State) (moved down up code : Nat) : State :=
  (((s.add (Reg.plcStat 3) moved).add (Reg.plcStat 4) down).add (Reg.plcStat 5) up).wr Reg.plcPressure code

/-- A pass says whether too much load is left, and whether it has stepped tiles down. -/
def State.planJudged (s : State) (excess : Bool) (down : Nat) : State :=
  ((s.setFlag Reg.plcStatus 16 excess).raiseIf (excess = true) 0x80000 0).raiseIf (down ≠ 0) 0x80000 1

theorem State.planPass_eq (s : State) : ∃ p lows moved down up code excess,
    s.planPass = ((s.withPrep p lows).planCounted moved down up code).planJudged excess down ∧ p.owner = (s.planStripes s.nextT).1 :=
  ⟨_, _, _, _, _, _, _, rfl, rfl⟩

theorem State.planCounted_plc (s : State) (moved down up code : Nat) : (s.planCounted moved down up code).plc = s.plc := by
  rw [State.planCounted, State.wr_plc, State.add_plc, State.add_plc, State.add_plc]

theorem State.planCounted_words (s : State) (moved down up code : Nat) : s.wordsBut (s.planCounted moved down up code)
    [Reg.plcStat 3, Reg.plcStat 4, Reg.plcStat 5, Reg.plcPressure] :=
  State.wordsBut_wr (State.wordsBut_add (State.wordsBut_add (State.wordsBut_add (State.wordsBut_refl _ _) (by simp)) (by simp)) (by simp))
    (by simp)

theorem State.planJudged_plc (s : State) (excess : Bool) (down : Nat) : (s.planJudged excess down).plc = s.plc :=
  ((State.raiseIf_parts _ _ _ _).plc.resolve_left (by decide)).trans
    (((State.raiseIf_parts _ _ _ _).plc.resolve_left (by decide)).trans (State.setFlag_plc _ _ _ _))

theorem State.planJudged_words (s : State) (excess : Bool) (down : Nat) : s.wordsBut (s.planJudged excess down) [Reg.plcStatus, 0x80010] := by
  have hirq : ∀ x ∈ [0x80000 + 0x10], x ∈ [Reg.plcStatus, 0x80010] := by decide
  exact State.wordsBut_trans (State.wordsBut_trans (State.wordsBut_setFlag (State.wordsBut_refl _ _) (List.mem_cons_self ..))
    (State.wordsBut_mono (State.raiseIf_wordsBut _) hirq)) (State.wordsBut_mono (State.raiseIf_wordsBut _) hirq)

/-- Load that is left over raises its event (R242). -/
theorem State.planJudged_event {s : State} {excess : Bool} {down : Nat} (h : (s.planJudged excess down).flag Reg.plcStatus 16 = true) :
    (s.planJudged excess down).flag 0x80010 0 = true := by
  have hstatus : (s.planJudged excess down).flag Reg.plcStatus 16 = excess := by
    rw [State.flag, State.planJudged, State.raiseIf_wordsBut _ _ (by decide), State.raiseIf_wordsBut _ _ (by decide)]
    exact State.flag_setFlag_same s _ 16 excess (by decide)
  exact State.raiseIf_flag (by decide) (State.raiseIf_raised (by decide) (hstatus.symm.trans h))

/-- What a pass leaves: a plan with the stripes of R232, and the words that it is counted and judged in. -/
theorem State.planPass_shown (s : State) : ∃ p lows, s.planPass.plc = { s.plc with prep := some p, lows := lows } ∧
    p.owner = (s.planStripes s.nextT).1 ∧ s.planPass.rd Reg.plcCostmapCtrl = s.rd Reg.plcCostmapCtrl ∧
    (s.planPass.flag Reg.plcStatus 16 = true → s.planPass.flag 0x80010 0 = true) := by
  obtain ⟨p, lows, moved, down, up, code, excess, hpass, howner⟩ := s.planPass_eq
  refine ⟨p, lows, ?_, howner, ?_, ?_⟩
  · rw [hpass, State.planJudged_plc, State.planCounted_plc]
    rfl
  · rw [hpass, State.planJudged_words _ _ _ _ (by decide), State.planCounted_words _ _ _ _ _ _ (by decide)]
    rfl
  · rw [hpass]
    exact State.planJudged_event

/-! ### What is taken with the plan (R230, R252) -/

theorem State.takeHint_shown (s : State) : (∃ hint, s.takeHint.plc = { s.plc with hint := hint }) ∧
    s.takeHint.flag Reg.plcHintCtrl 31 = false ∧ ∀ a, a ≠ Reg.plcHintCtrl → s.takeHint.rd a = s.rd a := by
  refine ⟨⟨_, State.setFlag_plc _ _ _ _⟩, State.flag_setFlag_same _ _ 31 false (by decide), fun a ha => ?_⟩
  exact State.rd_setFlag_ne _ _ _ ha

/-- A copy of the cost map that was asked for is on its way, and taking it writes no word. -/
theorem State.takeCostMap_shown (s : State) : (∃ copy, s.takeCostMap.plc = { s.plc with mapCopy := copy }) ∧ s.takeCostMap.regs = s.regs ∧
    (s.flag Reg.plcCostmapCtrl 31 = true → s.takeCostMap.plc.mapCopy.isSome = true) := by
  unfold State.takeCostMap
  split
  case isTrue => exact ⟨⟨_, rfl⟩, rfl, fun _ => rfl⟩
  case isFalse hnot =>
    refine ⟨⟨s.plc.mapCopy, rfl⟩, rfl, fun hreq => ?_⟩
    rw [Option.isSome_iff_ne_none]
    exact fun hnone => hnot ⟨hreq, hnone⟩

/-- Planning for the next frame is on its way. -/
def State.planBegun (s : State) : State := { s with plc := { s.plc with planned := true } }

theorem State.planningStart_eq (hon : s.domOn 17 = true) (hline : s.planningLine = true) (hopen : s.plc.planned = false)
    (hruns : s.plcRestarting = false) : s.planningStart = s.planBegun.planPass.takeCostMap.takeHint := by
  rw [State.planningStart, if_pos (by rw [hon, hline, hopen, hruns]; rfl)]
  rfl

/-! ### What the stripes of a plan come from (R231, R232) -/

section
variable {u : State}

theorem State.rd_of_regs (hregs : u.regs = s.regs) : u.rd = s.rd := funext fun a => by rw [State.rd, State.rd, hregs]

theorem State.flag_eq_of_regs (hregs : u.regs = s.regs) : u.flag = s.flag := funext fun _ => funext fun _ => State.flag_of_regs hregs _ _

theorem State.fld_of_regs (hregs : u.regs = s.regs) : u.fld = s.fld :=
  funext fun a => funext fun hi => funext fun lo => by rw [State.fld, State.fld, State.rd_of_regs hregs]

theorem State.unitState_of_regs (hregs : u.regs = s.regs) : u.unitState = s.unitState := funext fun _ =>
  WordsKept.unitState (K := fun _ => True) ((WordsKept.refl _ s).regs hregs) trivial trivial trivial

theorem State.activeClusters_of_regs (hregs : u.regs = s.regs) : u.activeClusters = s.activeClusters := funext fun k => by
  rw [State.activeClusters, State.activeClusters, State.unitState_of_regs hregs]

theorem State.liveSlices_of_regs (hregs : u.regs = s.regs) : u.liveSlices = s.liveSlices := by
  rw [State.liveSlices, State.liveSlices, State.activeClusters_of_regs hregs]

theorem State.pinStripes_of_regs (hregs : u.regs = s.regs) : u.pinStripes = s.pinStripes := funext fun tm => by
  unfold State.pinStripes
  rw [State.rd_of_regs hregs, State.flag_eq_of_regs hregs, State.liveSlices_of_regs hregs]

theorem State.frameClocks_of_regs (hregs : u.regs = s.regs) (tm : Timing) : u.frameClocks tm = s.frameClocks tm := funext fun k => by
  rw [State.frameClocks, State.frameClocks, State.fld_of_regs hregs]

theorem State.planHint_congr (hregs : u.regs = s.regs) (hhint : u.plc.hint = s.plc.hint) : u.planHint = s.planHint := by
  unfold State.planHint
  rw [State.flag_eq_of_regs hregs, State.fld_of_regs hregs, hhint]

theorem State.plannedCost_congr (hregs : u.regs = s.regs) (hhint : u.plc.hint = s.plc.hint) (hcosts : u.plc.costs = s.plc.costs) :
    u.plannedCost = s.plannedCost := funext fun r => funext fun b => funext fun c => by
  rw [State.plannedCost, State.plannedCost, State.costAt, State.costAt, hcosts, State.planHint_congr hregs hhint]

/-- The stripes of the next plan come from the words in force, the plan in force, the slices lost, the hint and the costs. -/
theorem State.planStripes_congr (hregs : u.regs = s.regs) (hplan : u.plc.plan = s.plc.plan) (hlost : u.plc.lost = s.plc.lost)
    (hhint : u.plc.hint = s.plc.hint) (hcosts : u.plc.costs = s.plc.costs) (tm : Timing) : u.planStripes tm = s.planStripes tm := by
  unfold State.planStripes
  rw [State.liveSlices_of_regs hregs, hplan, hlost, State.flag_eq_of_regs hregs, State.pinStripes_of_regs hregs,
    State.plannedCost_congr hregs hhint hcosts, State.activeClusters_of_regs hregs, State.frameClocks_of_regs hregs, State.fld_of_regs hregs]

end

/-! ### Planning (R226) -/

/-- What planning leaves (R226, R230, R242, R252). -/
theorem State.planningStart_shown (hon : s.domOn 17 = true) (hline : s.planningLine = true) (hopen : s.plc.planned = false)
    (hruns : s.plcRestarting = false) : ∃ p, s.planningStart.plc.planned = true ∧ s.planningStart.plc.prep = some p ∧
    p.owner = (s.planStripes s.nextT).1 ∧ s.planningStart.plc.plan = s.plc.plan ∧ s.planningStart.flag Reg.plcHintCtrl 31 = false ∧
    (s.planningStart.flag Reg.plcStatus 16 = true → s.planningStart.flag 0x80010 0 = true) ∧
    (s.flag Reg.plcCostmapCtrl 31 = true → s.planningStart.plc.mapCopy.isSome = true) := by
  obtain ⟨p, lows, hplc, howner, hctrl, hexcess⟩ := s.planBegun.planPass_shown
  obtain ⟨⟨copy, hcopied⟩, hregs, hcopy⟩ := s.planBegun.planPass.takeCostMap_shown
  obtain ⟨⟨hint, hhinted⟩, hgo, hrd⟩ := s.planBegun.planPass.takeCostMap.takeHint_shown
  have hword : ∀ a, a ≠ Reg.plcHintCtrl → s.planningStart.rd a = s.planBegun.planPass.rd a := fun a ha => by
    rw [State.planningStart_eq hon hline hopen hruns, hrd a ha, State.rd, hregs, State.rd]
  have hend : s.planningStart.plc = { s.planBegun.plc with prep := some p, lows := lows, mapCopy := copy, hint := hint } := by
    rw [State.planningStart_eq hon hline hopen hruns, hhinted, hcopied, hplc]
  rw [hend]
  refine ⟨p, rfl, rfl, howner.trans (congrArg Prod.fst (State.planStripes_congr (s := s) (u := s.planBegun) rfl rfl rfl rfl rfl s.nextT)), rfl, ?_, fun h => ?_,
    fun h => ?_⟩
  · rw [State.planningStart_eq hon hline hopen hruns]
    exact hgo
  · rw [State.flag, hword _ (by decide)] at h ⊢
    exact hexcess h
  · have hasked : s.planBegun.planPass.flag Reg.plcCostmapCtrl 31 = true := by
      rw [State.flag, hctrl]
      exact h
    have hsome := hcopy hasked
    rw [hcopied] at hsome
    exact hsome

/-! ### GO of a hint and of a cost map copy (R230, R252) -/

/-- The row of PLC_HINT_CTRL. -/
def plcHintCtrlRow : RegRow := row1 "PLC_HINT_CTRL" 0x60 0 [fRng 7 0 .rw 1 255, fLen 15 8 .rw 1 255, fAny 31 31 .w1s]

/-- The row of PLC_COSTMAP_CTRL. -/
def plcCostmapCtrlRow : RegRow := row1 "PLC_COSTMAP_CTRL" 0x6C 0 [fAny 0 0 .ro, fAny 31 31 .w1s]

/-- A write to the PLC page starts what `plcEffect` gives. -/
theorem State.blockEffect_plc (s : State) (off old data : Nat) :
    s.blockEffect (page 8 0 17 0xFF rowsPlc) off old data = s.plcEffect off data := by
  unfold State.blockEffect
  iterate 8 rw [if_neg (by decide)]
  exact if_pos rfl

theorem State.blockEffect_hintGo (s : State) (old data : Nat) :
    s.blockEffect (page 8 0 17 0xFF rowsPlc) (Reg.plcHintCtrl % 0x1000) old data = s := by
  rw [State.blockEffect_plc, State.plcEffect, if_neg (by decide), if_neg (by decide), if_neg fun h => absurd h.1 (by decide)]

theorem State.blockEffect_costmapGo (s : State) (old : Nat) {data : Nat} (hgo : bitOf data 31 = true) :
    s.blockEffect (page 8 0 17 0xFF rowsPlc) (Reg.plcCostmapCtrl % 0x1000) old data = s.setFlag Reg.plcCostmapCtrl 0 false := by
  rw [State.blockEffect_plc, State.plcEffect, if_neg (by decide), if_neg (by decide), if_pos ⟨rfl, hgo⟩]

theorem State.rowStored_plc (s : State) (a : Nat) (r : RegRow) (d : Nat) : (s.rowStored a r d).plc = s.plc := rfl

theorem State.trigger_plcHint (hacc : s.accepts who Reg.plcHintCtrl (putBits data.toNat 31 31 1)) :
    s.trigger who Reg.plcHintCtrl 31 data = s.rowStored Reg.plcHintCtrl plcHintCtrlRow (putBits data.toNat 31 31 1) ∧
    (s.rowStored Reg.plcHintCtrl plcHintCtrlRow (putBits data.toNat 31 31 1)).flag Reg.plcHintCtrl 31 = true :=
  State.trigger_onPage (p := page 8 0 17 0xFF rowsPlc) (i := 0) rfl (by decide) (by decide) rfl (by decide) (by decide) (by decide) hacc
    (State.blockEffect_hintGo _ _ _) (s.wr_secu _ _)

theorem State.trigger_plcCostmap (hacc : s.accepts who Reg.plcCostmapCtrl (putBits data.toNat 31 31 1)) :
    s.trigger who Reg.plcCostmapCtrl 31 data =
      (s.rowStored Reg.plcCostmapCtrl plcCostmapCtrlRow (putBits data.toNat 31 31 1)).setFlag Reg.plcCostmapCtrl 0 false ∧
    (s.rowStored Reg.plcCostmapCtrl plcCostmapCtrlRow (putBits data.toNat 31 31 1)).flag Reg.plcCostmapCtrl 31 = true :=
  State.trigger_onPage (p := page 8 0 17 0xFF rowsPlc) (i := 0) rfl (by decide) (by decide) rfl (by decide) (by decide) (by decide) hacc
    (State.blockEffect_costmapGo _ _ (bitOf_putBits_one _ _)) ((State.setFlag_secu _ _ _ _).trans (s.wr_secu _ _))

/-! ### The end of a cost map copy, and a restart (R227, R230, R258) -/

/-- The end of a cost map copy, in the words of its page. -/
def State.costMapShown (s : State) : State :=
  ((s.setFlag Reg.plcCostmapCtrl 31 false).setFlag Reg.plcCostmapCtrl 0 true).raise 0x80000 6

theorem State.costMapShown_shown (s : State) : s.costMapShown.flag Reg.plcCostmapCtrl 31 = false ∧
    s.costMapShown.flag Reg.plcCostmapCtrl 0 = true ∧ s.costMapShown.flag 0x80010 6 = true := by
  have hctrl : ∀ i, s.costMapShown.flag Reg.plcCostmapCtrl i =
      ((s.setFlag Reg.plcCostmapCtrl 31 false).setFlag Reg.plcCostmapCtrl 0 true).flag Reg.plcCostmapCtrl i := fun i =>
    congrArg (fun w => bitOf w i) (State.rd_raise_ne _ _ (by decide))
  refine ⟨?_, ?_, State.flag_raise_same _ 0x80000 6 (by decide)⟩
  · rw [hctrl, State.flag_setFlag_other _ _ _ _ _ (by decide) (by decide)]
    exact State.flag_setFlag_same _ _ 31 false (by decide)
  · rw [hctrl]
    exact State.flag_setFlag_same _ _ 0 true (by decide)

/-- No cost map copy is on its way. -/
def State.noMapCopy (s : State) : State := { s with plc := { s.plc with mapCopy := none } }

theorem State.costMapDone_eq {a : Nat} {bytes : List Byte} (hcopy : s.plc.mapCopy = some (a, bytes)) :
    s.costMapDone = (s.noMapCopy.dramWrite a bytes).costMapShown := by
  rw [State.costMapDone, hcopy]
  rfl

theorem State.costMapShown_parts (s : State) : s.costMapShown.plc = s.plc ∧ s.costMapShown.dram = s.dram := by
  unfold State.costMapShown
  constructor
  · rw [State.raise_plc, State.setFlag_plc, State.setFlag_plc]
  · rw [State.raise_dram, State.setFlag_dram, State.setFlag_dram]

theorem State.dramWrite_plc (s : State) (a : Nat) (bs : List Byte) : (s.dramWrite a bs).plc = s.plc :=
  State.dramWrite_kept.plc.resolve_left (by decide)

/-- What the end of a cost map copy leaves beside its words. -/
theorem State.costMapDone_parts {a : Nat} {bytes : List Byte} (hcopy : s.plc.mapCopy = some (a, bytes)) :
    s.costMapDone.plc = { s.plc with mapCopy := none } ∧ s.costMapDone.dram = (s.dramWrite a bytes).dram := by
  rw [State.costMapDone_eq hcopy]
  obtain ⟨hplc, hdram⟩ := (s.noMapCopy.dramWrite a bytes).costMapShown_parts
  refine ⟨hplc.trans (State.dramWrite_plc _ _ _), hdram.trans ?_⟩
  exact State.dramWrite_dram_congr (s := s) (t := s.noMapCopy) (fun _ _ => rfl) rfl rfl _ _

/-- A restart drops at most the plan in preparation (R258). -/
theorem State.plcRestart_shown (hon : s.domOn 17 = true) : s.plcRestart.plc.restartEnd = some (s.now + 100 * us) ∧
    s.plcRestart.plc.costs = s.plc.costs ∧ s.plcRestart.plc.plan = s.plc.plan ∧ s.plcRestart.regs = s.regs := by
  rw [State.plcRestart, if_pos hon]
  exact ⟨rfl, rfl, rfl, rfl⟩

end

/-- Settles O33: planning by what its pass, the hint and the cost map leave; each GO is one stored word; and a copy's end and a restart. -/
theorem barchanPlans : Obligations.BarchanPlans := by
  unfold Obligations.BarchanPlans
  intro s who data t
  refine ⟨fun hon hline hopen hruns => ?_, fun hacc => ?_, fun hacc => ?_, fun a bytes hcopy => ?_, fun hon => ?_⟩
  · obtain ⟨p, hplanned, hprep, howner, hplan, hgo, hexcess, hcopy⟩ := State.planningStart_shown (s := s.at t) hon hline hopen hruns
    refine ⟨settle (s.at t).planningStart, p, rfl, ?_⟩
    rw [settle_plc, settle_flag, settle_flag, settle_flag]
    exact ⟨hplanned, hprep, howner.trans (congrArg Prod.fst (State.planStripes_congr (s := s) (u := s.at t) rfl rfl rfl rfl rfl s.nextT)), hplan, hgo, hexcess, hcopy⟩
  · obtain ⟨hstored, hgo⟩ := State.trigger_plcHint hacc
    obtain ⟨hstands, hwords⟩ := State.rowStored_loading hgo (fun _ => rfl)
    exact ⟨_, congrArg finish hstored, hstands, (settle_plc _).trans (State.rowStored_plc s _ _ _), hwords⟩
  · obtain ⟨hstored, hgo⟩ := State.trigger_plcCostmap hacc
    refine ⟨_, congrArg finish hstored, ?_, ?_, ?_, ?_⟩
    · rw [settle_flag, State.flag_setFlag_other _ _ _ _ _ (by decide) (by decide)]
      exact hgo
    · rw [settle_flag]
      exact State.flag_setFlag_same _ _ 0 false (by decide)
    · rw [settle_plc, State.setFlag_plc, State.rowStored_plc]
    · exact State.wordsBut_settle (State.wordsBut_setFlag (State.rowStored_words s _ _ _) (List.mem_singleton_self _))
  · obtain ⟨hplc, hdram⟩ := State.costMapDone_parts hcopy
    obtain ⟨hgo, hdone, hevent⟩ := (s.noMapCopy.dramWrite a bytes).costMapShown_shown
    refine ⟨settle s.costMapDone, rfl, (settle_plc _).trans hplc, (settle_dram _).trans hdram, ?_⟩
    rw [settle_flag, settle_flag, settle_flag, State.costMapDone_eq hcopy]
    exact ⟨hgo, hdone, hevent⟩
  · obtain ⟨hend, hcosts, hplan, hregs⟩ := State.plcRestart_shown (s := s.at t) hon
    refine ⟨settle (s.at t).plcRestart, rfl, ?_⟩
    rw [settle_plc, settle_regs, ← State.at_now]
    exact ⟨hend, hcosts, hplan, hregs⟩

end Sys2Proof.Machine

/-! SUPPORT. Units that move between channels, the end of an evacuation and read-ahead, with O37 (R247, R248, R250, R258). -/

namespace Sys2Proof.Machine

section
variable {s t : State} {a b c dest : Nat} {un : Nat × Nat} {bytes : List Byte} {e : Evac}

/-! ### A unit moves (R247) -/

/-- A table page after the unit or the page at `a` has moved to `b`. -/
def TablePage.moved (a b : Nat) (p : TablePage) : TablePage :=
  { p with addr := if p.addr = a then b else p.addr,
           entries := p.entries.map (fun x => if x.2.kind = 1 ∧ x.2.addr = a then (x.1, { x.2 with addr := b }) else x) }

/-- The slots of the scene windows after it. -/
def slotsMoved (a b : Nat) (l : List (List WinSlot)) : List (List WinSlot) :=
  l.map (fun w => w.map (fun q => if q.addr = a then { q with addr := b } else q))

/-- The old space of a unit is kept until the next latch. -/
def State.oldSpaceKept (s : State) (un : Nat × Nat) : State := { s with plc := { s.plc with freeing := un :: s.plc.freeing } }

/-- The unit `un`, which stands at `a`, is copied to `b`, and everything that named it names the copy. -/
def State.unitMoved (s : State) (un : Nat × Nat) (a b : Nat) (bytes : List Byte) : State :=
  (((((s.dramWrite b bytes).takeSpace b un.2).oldSpaceKept un).retagUnit a b).add (Reg.plcStat 6) 1).scnLowCheck

/-- Bytes moved off a channel that is being evacuated are counted. -/
def State.moveCounted (s : State) (c n : Nat) : State := if s.plc.evac.any (fun e => e.channel == c) then s.evacCount n else s

theorem State.migrate_moves (hunit : (s.unitsOn (chanOf a)).find? (fun q => q.1 == a) = some un) (hmay : s.mayMove a = true)
    (haway : dest ≠ chanOf a) (hplace : s.placeChannels.contains dest = true) (hgap : s.gapOn dest (s.scn.share dest) un.2 = some b)
    (hread : s.dramRead un.1 un.2 = some bytes) : s.migrate a dest = (s.unitMoved un a b bytes).moveCounted (chanOf a) un.2 := by
  unfold State.migrate
  rw [hunit]
  dsimp only
  rw [if_pos (by rw [hmay, hplace, bne_iff_ne.2 haway]; rfl), hgap, hread]
  rfl

theorem State.dramWrite_scn (s : State) (a : Nat) (bs : List Byte) : (s.dramWrite a bs).scn = s.scn :=
  State.dramWrite_kept.scn.resolve_left (by decide)

theorem State.unitMoved_scn (s : State) (un : Nat × Nat) (a b : Nat) (bytes : List Byte) : ∃ low, (s.unitMoved un a b bytes).scn =
    { s.scn with units := insertUnit (b, un.2) s.scn.units, pages := s.scn.pages.map (TablePage.moved a b),
                 windows := slotsMoved a b s.scn.windows, lowRaised := low } := by
  obtain ⟨low, hlow⟩ := State.scnLowCheck_scn
    ((((s.dramWrite b bytes).takeSpace b un.2).oldSpaceKept un).retagUnit a b |>.add (Reg.plcStat 6) 1)
  refine ⟨low, hlow.trans ?_⟩
  rw [State.add_scn, State.retagUnit, State.oldSpaceKept, State.takeSpace, State.dramWrite_scn]
  rfl

theorem State.oldSpaceKept_kept (s : State) (un : Nat × Nat) : Kept 256 s (s.oldSpaceKept un) := Kept.u256 (Kept.refl _ _) rfl

theorem State.unitMoved_dram (s : State) (un : Nat × Nat) (a b : Nat) (bytes : List Byte) :
    (s.unitMoved un a b bytes).dram = (s.dramWrite b bytes).dram := by
  have hkept : Kept 264 (s.dramWrite b bytes) (s.unitMoved un a b bytes) :=
    State.scnLowCheck_kept.step rfl (State.add_kept.step rfl (State.retagUnit_kept.step rfl ((State.oldSpaceKept_kept _ _).step rfl
      (State.takeSpace_kept.step rfl (Kept.refl _ _)))))
  exact hkept.dram.resolve_left (by decide)

theorem State.unitMoved_plc (s : State) (un : Nat × Nat) (a b : Nat) (bytes : List Byte) :
    (s.unitMoved un a b bytes).plc = { s.plc with freeing := un :: s.plc.freeing } := by
  have hlow : ∀ t : State, t.scnLowCheck.plc = t.plc := fun t => State.scnLowCheck_kept.plc.resolve_left (by decide)
  have hwrite : ∀ t : State, ((t.takeSpace b un.2).oldSpaceKept un).plc = { t.plc with freeing := un :: t.plc.freeing } := fun _ => rfl
  have hretag : ∀ t : State, (t.retagUnit a b).plc = t.plc := fun _ => rfl
  rw [State.unitMoved, hlow, State.add_plc, hretag, hwrite, State.dramWrite_plc]

theorem State.unitMoved_count (s : State) (un : Nat × Nat) (a b : Nat) (bytes : List Byte) :
    (s.unitMoved un a b bytes).rd (Reg.plcStat 6) = (s.rd (Reg.plcStat 6) + 1) % 2 ^ 32 := by
  have hretag : ∀ t : State, (((t.takeSpace b un.2).oldSpaceKept un).retagUnit a b).rd (Reg.plcStat 6) = t.rd (Reg.plcStat 6) := fun _ => rfl
  rw [State.unitMoved, State.scnLowCheck_words _ _ (by decide), State.rd_add_same, hretag, State.dramWrite_rd]

/-- Counting what is moved leaves the scene store, memory, the space kept and every word but its counter. -/
theorem State.moveCounted_spec (s : State) (c n : Nat) : Kept 256 s (s.moveCounted c n) ∧
    (s.moveCounted c n).plc.freeing = s.plc.freeing ∧ s.wordsBut (s.moveCounted c n) [Reg.plcStat 7] := by
  unfold State.moveCounted
  split
  · exact ⟨State.evacCount_kept, rfl, State.wordsBut_add (fun _ _ => rfl) (List.mem_singleton_self _)⟩
  · exact ⟨Kept.refl _ _, rfl, State.wordsBut_refl _ _⟩

/-- No entry names the place that a unit has left, nor does a table page stand there. -/
theorem TablePage.moved_left (hne : b ≠ a) (p : TablePage) : (p.moved a b).addr ≠ a ∧
    ∀ x ∈ (p.moved a b).entries, ¬(x.2.kind = 1 ∧ x.2.addr = a) := by
  constructor
  · unfold TablePage.moved
    dsimp only
    split
    · exact hne
    · assumption
  · intro x hx
    obtain ⟨y, -, rfl⟩ := List.mem_map.1 hx
    split
    · exact fun hnamed => hne hnamed.2
    · assumption

/-- What a move leaves (R247). -/
theorem State.migrate_shown (hunit : (s.unitsOn (chanOf a)).find? (fun q => q.1 == a) = some un) (hmay : s.mayMove a = true)
    (haway : dest ≠ chanOf a) (hplace : s.placeChannels.contains dest = true) (hgap : s.gapOn dest (s.scn.share dest) un.2 = some b)
    (hread : s.dramRead un.1 un.2 = some bytes) : (s.migrate a dest).dram = (s.dramWrite b bytes).dram ∧
    (s.migrate a dest).scn.units = insertUnit (b, un.2) s.scn.units ∧ (s.migrate a dest).plc.freeing = un :: s.plc.freeing ∧
    (s.migrate a dest).rd (Reg.plcStat 6) = (s.rd (Reg.plcStat 6) + 1) % 2 ^ 32 ∧
    (s.migrate a dest).scn.windows = slotsMoved a b s.scn.windows ∧
    (b ≠ a → ∀ p ∈ (s.migrate a dest).scn.pages, p.addr ≠ a ∧ ∀ x ∈ p.entries, ¬(x.2.kind = 1 ∧ x.2.addr = a)) := by
  obtain ⟨hkept, hfreeing, hwords⟩ := (s.unitMoved un a b bytes).moveCounted_spec (chanOf a) un.2
  obtain ⟨low, hscn⟩ := s.unitMoved_scn un a b bytes
  rw [State.migrate_moves hunit hmay haway hplace hgap hread, hkept.scn.resolve_left (by decide), hscn]
  refine ⟨(hkept.dram.resolve_left (by decide)).trans (s.unitMoved_dram un a b bytes), rfl, ?_, ?_, rfl, fun hne p hp => ?_⟩
  · rw [hfreeing, State.unitMoved_plc]
  · rw [hwords _ (by decide), State.unitMoved_count]
  · obtain ⟨q, -, rfl⟩ := List.mem_map.1 hp
    exact q.moved_left hne

/-! ### Control complex memory on an evacuated channel (R248) -/

/-- Of the control complex memory on the channel, so much is left to copy. -/
def State.cpxLeft (s : State) (e : Evac) (n : Nat) : State := { s with plc := { s.plc with evac := some { e with cpx := n } } }

theorem State.migrate_cpx (hevac : s.plc.evac = some e) (hunit : (s.unitsOn (chanOf a)).find? (fun q => q.1 == a) = none)
    (hchan : e.channel = chanOf a) (hpage : a % 4096 = 0) (hleft : e.cpx ≠ 0) (haway : dest ≠ chanOf a) (hplace : dest ∈ s.placeChannels) :
    s.migrate a dest = (s.cpxLeft e (e.cpx - 4096)).evacCount (min 4096 e.cpx) := by
  unfold State.migrate
  rw [hunit]
  dsimp only
  rw [State.migrateCpx, hevac]
  dsimp only
  rw [if_pos ⟨hchan, hpage, hleft, haway, hplace⟩]
  rfl

theorem State.evacCount_evac (s : State) (n : Nat) : (s.evacCount n).plc.evac = s.plc.evac := rfl
theorem State.cpxLeft_kept (s : State) (e : Evac) (n : Nat) : Kept 256 s (s.cpxLeft e n) := Kept.u256 (Kept.refl _ _) rfl

/-! ### The end of an evacuation (R248, R258) -/

/-- A channel with empty queues has nothing to serve. -/
theorem State.chanServe_idle (hrq : (s.chan c).rq = []) (hwq : (s.chan c).wq = []) : s.chanServe c true = s := by
  unfold State.chanServe
  rw [hrq]
  dsimp only [List.length_nil, State.serveReads]
  rw [hrq, hwq]
  rfl

/-- No evacuation waits. -/
def State.noEvacWait (s : State) : State := { s with plc := { s.plc with evacWait := [] } }

/-- A FENCING channel that is empty: its evacuation is over, and it is FENCED. -/
def State.channelFenced (s : State) (c : Nat) : State := ((s.evacClear.raise 0x80000 2).dropChannel c).setUnit (119 + c) 2

theorem State.evacClear_unitState (s : State) (n : Nat) : (s.evacClear.raise 0x80000 2).unitState n = s.unitState n :=
  WordsKept.unitState (K := fun x => x ≠ 0x80010) (((WordsKept.refl _ s).regs (u := s.evacClear) rfl).raise (fun h => h rfl)) (by decide)
    (by decide) (by unfold Reg.svcUnit; omega)

theorem State.evacDone_last (hevac : s.plc.evac = some e) (hempty : s.evacEmpty = true) (hwait : s.plc.evacWait = [])
    (hunit : s.unitState (119 + e.channel) = 1) (hrq : (s.chan e.channel).rq = []) (hwq : (s.chan e.channel).wq = []) :
    s.evacDone = (s.channelFenced e.channel).noEvacWait := by
  have hfence : (s.evacClear.raise 0x80000 2).evacFence e.channel = s.channelFenced e.channel :=
    if_pos ((State.evacClear_unitState s _).trans hunit)
  have hnone : (s.channelFenced e.channel).plc.evacWait = [] := hwait
  rw [State.evacDone, hevac]
  dsimp only
  rw [if_pos hempty, State.chanServe_idle hrq hwq, hrq, hwq, if_pos (c := (([] : List QRead).isEmpty && ([] : List QWrite).isEmpty) = true) rfl,
    hfence, State.evacNext, hnone]
  rfl

theorem State.channelFenced_shown (s : State) (c : Nat) : (s.channelFenced c).fld (Reg.svcUnit (119 + c)) 2 0 = 2 ∧
    (s.channelFenced c).flag 0x80010 2 = true := by
  have hother : 0x80010 ≠ Reg.svcUnit (119 + c) := by unfold Reg.svcUnit; omega
  refine ⟨State.fld_setFld_same _ _ 2 0 2 (by decide) (by decide), ?_⟩
  rw [State.channelFenced, State.setUnit, State.flag_setFld_ne _ _ _ _ _ hother]
  exact State.flag_raise_same s.evacClear 0x80000 2 (by decide)

end

/-! ### Read-ahead (R250) -/

section
variable {s t r : State} {g : Seg} {seg line l : Nat} {bs : List Byte}

/-- The words that reads from the drives are counted and shown in. -/
abbrev driveWords : List Nat :=
  [Reg.nvsDStat 0 0, Reg.nvsDStat 1 0, Reg.nvsDStat 0 2, Reg.nvsDStat 1 2, nvsDBase 0 + 0x10, nvsDBase 1 + 0x10]

/-- Lines have come into the cache or left it: beside the cache only memory and the drives' words have changed. -/
structure State.CacheMoved (s t : State) : Prop where
  plc : ∃ cache use, t.plc = { s.plc with cache := cache, cacheUse := use }
  rest : Kept 42949722368 s t
  words : s.wordsBut t driveWords

theorem State.CacheMoved.refl (s : State) : s.CacheMoved s := ⟨⟨_, _, rfl⟩, Kept.refl _ _, State.wordsBut_refl _ _⟩

theorem State.CacheMoved.trans (h : s.CacheMoved t) (k : t.CacheMoved r) : s.CacheMoved r := by
  obtain ⟨cache, use, hplc⟩ := h.plc
  obtain ⟨cache', use', hplc'⟩ := k.plc
  exact ⟨⟨cache', use', by rw [hplc', hplc]⟩, k.rest.step rfl h.rest, State.wordsBut_trans h.words k.words⟩

theorem State.CacheMoved.setCache (h : s.CacheMoved t) (l : List CacheLine) : s.CacheMoved (t.setCache l) :=
  h.trans ⟨⟨l, _, rfl⟩, State.setCache_kept.step rfl (Kept.refl _ _), fun _ _ => rfl⟩

theorem State.CacheMoved.evictLine (h : s.CacheMoved t) : s.CacheMoved t.evictLine := by
  unfold State.evictLine
  split
  · exact h.setCache _
  · exact h

theorem State.CacheMoved.trimCache (cap n : Nat) (h : s.CacheMoved t) : s.CacheMoved (State.trimCache cap n t) := by
  induction n generalizing t with
  | zero => exact h
  | succ n ih =>
    rw [State.trimCache]
    split
    · exact ih h.evictLine
    · exact h

theorem State.CacheMoved.dramWrite (h : s.CacheMoved t) (a : Nat) (bs : List Byte) : s.CacheMoved (t.dramWrite a bs) :=
  h.trans ⟨⟨_, _, State.dramWrite_plc t a bs⟩, State.dramWrite_kept.step rfl (Kept.refl _ _), fun x _ => t.dramWrite_rd a bs x⟩

/-- A line is entered at the end of the cache. -/
def State.lineEntered (s : State) (e : CacheLine) : State :=
  { s with plc := { s.plc with cacheUse := s.plc.cacheUse + 1, cache := s.plc.cache ++ [e] } }

theorem State.CacheMoved.lineEntered (h : s.CacheMoved t) (e : CacheLine) : s.CacheMoved (t.lineEntered e) :=
  h.trans ⟨⟨_, _, rfl⟩, Kept.u256 (Kept.refl _ _) rfl, fun _ _ => rfl⟩

/-- The cache without any line `line` of segment `seg`. -/
def State.lineCleared (s : State) (seg line : Nat) : State :=
  s.setCache (s.plc.cache.filter (fun e => !(e.seg == seg && e.line == line)))

/-- A line as it is entered. -/
def State.newLine (s : State) (seg line : Nat) : CacheLine :=
  { seg := seg, line := line, use := s.plc.cacheUse + 1, chan := s.cacheChan line, addr := s.cacheAddr (s.cacheChan line) }

/-- The cache with room made for one more line. -/
def State.roomMade (s : State) : State := State.trimCache (s.cacheCap - 1) s.plc.cache.length s

theorem State.cacheFill_missing (hmiss : s.cacheHas seg line = false) : s.cacheFill seg line bs =
    if (s.lineCleared seg line).roomMade.plc.cache.length < (s.lineCleared seg line).roomMade.cacheCap then
      ((s.lineCleared seg line).roomMade.lineEntered ((s.lineCleared seg line).roomMade.newLine seg line)).dramWrite
        ((s.lineCleared seg line).roomMade.newLine seg line).addr bs
    else (s.lineCleared seg line).roomMade := by
  rw [State.cacheFill, if_neg (by rw [hmiss]; exact Bool.false_ne_true)]
  rfl

theorem State.cacheFill_moved (s : State) (seg line : Nat) (bs : List Byte) : s.CacheMoved (s.cacheFill seg line bs) := by
  cases hmiss : s.cacheHas seg line with
  | true => rw [State.cacheFill, if_pos hmiss]; exact State.CacheMoved.refl s
  | false =>
    have hroom : s.CacheMoved (s.lineCleared seg line).roomMade := ((State.CacheMoved.refl s).setCache _).trimCache _ _
    rw [State.cacheFill_missing hmiss]
    split
    · exact (hroom.lineEntered _).dramWrite _ _
    · exact hroom

theorem driveWords_mem : ∀ d < 2, Reg.nvsDStat d 0 ∈ driveWords ∧ Reg.nvsDStat d 2 ∈ driveWords ∧ nvsDBase d + 0x10 ∈ driveWords := by decide

theorem State.driveRead_words (s : State) (g : Seg) : s.wordsBut (s.driveRead g) driveWords := by
  have hdrive : (if s.holds 0 g.num then 0 else 1) < 2 := by split <;> decide
  obtain ⟨hreads, herrors, hirq⟩ := driveWords_mem _ hdrive
  refine WordsKept.ite (K := fun x => x ∉ driveWords) ?_ (State.wordsBut_raise ?_ hirq) <;>
    exact State.wordsBut_add (State.wordsBut_add (fun _ _ => rfl) hreads) herrors

theorem State.driveRead_plc (s : State) (g : Seg) : (s.driveRead g).plc = s.plc := State.driveRead_kept.plc.resolve_left (by decide)

theorem State.CacheMoved.driveRead (h : s.CacheMoved t) (g : Seg) : s.CacheMoved (t.driveRead g) :=
  h.trans ⟨⟨_, _, State.driveRead_plc t g⟩, State.driveRead_kept.step rfl (Kept.refl _ _), State.driveRead_words t g⟩

theorem State.segAhead_moved (s : State) (g : Seg) (l : Nat) : s.CacheMoved (s.segAhead g l) := by
  unfold State.segAhead
  split
  · exact State.CacheMoved.refl s
  · exact (State.cacheFill_moved s _ _ _).driveRead g

theorem State.foldl_segAhead_moved (g : Seg) (lines : List Nat) (s : State) : s.CacheMoved (lines.foldl (fun s l => s.segAhead g l) s) := by
  induction lines generalizing s with
  | nil => exact State.CacheMoved.refl s
  | cons l lines ih => exact (State.segAhead_moved s g l).trans (ih (s.segAhead g l))

/-- How many lines the cache may hold does not rest on those it holds. -/
theorem State.CacheMoved.cacheCap (h : s.CacheMoved t) : t.cacheCap = s.cacheCap := by
  obtain ⟨cache, use, hplc⟩ := h.plc
  have hunit : ∀ n, t.unitState n = s.unitState n := fun n =>
    WordsKept.unitState (K := fun x => x ∉ driveWords) h.words (by decide) (by decide) (by
      simp only [List.mem_cons, List.not_mem_nil, or_false, Reg.svcUnit, Reg.nvsDStat, nvsDBase]; omega)
  have hfld : t.fld Reg.plcCache 9 0 = s.fld Reg.plcCache 9 0 := WordsKept.fld (K := fun x => x ∉ driveWords) h.words (by decide) 9 0
  have hcap : t.chanCap = s.chanCap := funext fun c => by
    rw [State.chanCap, State.chanCap, h.rest.dimms.resolve_left (by decide)]
  have hplace : t.placeChannels = s.placeChannels := by simp only [State.placeChannels, hunit, hcap, hplc]
  have hoas : t.oasBytes = s.oasBytes := by rw [State.oasBytes, State.oasBytes, h.rest.ras.resolve_left (by decide)]
  rw [State.cacheCap, State.cacheCap, hplc, hfld, hplace, hcap, hoas, h.rest.scn.resolve_left (by decide)]

/-! ### Read-ahead with room -/

/-- The cache holds a line of a segment. -/
def State.lineHeld (s : State) (seg l : Nat) : Prop := ∃ e ∈ s.plc.cache, e.seg = seg ∧ e.line = l

theorem State.trimCache_within {cap : Nat} (n : Nat) (h : s.plc.cache.length ≤ cap) : State.trimCache cap n s = s := by
  cases n with
  | zero => rfl
  | succ n => exact if_neg (Nat.not_lt.2 h)

/-- Where there is room, a line comes in and only older copies of it go. -/
theorem State.cacheFill_room (hmiss : s.cacheHas seg line = false) (hroom : s.plc.cache.length < s.cacheCap) :
    (s.cacheFill seg line bs).plc.cache =
      s.plc.cache.filter (fun e => !(e.seg == seg && e.line == line)) ++ [(s.lineCleared seg line).newLine seg line] := by
  have hlength : (s.lineCleared seg line).plc.cache.length ≤ s.plc.cache.length := List.length_filter_le _ _
  have hcap : (s.lineCleared seg line).cacheCap = s.cacheCap := ((State.CacheMoved.refl s).setCache _).cacheCap
  have hmade : (s.lineCleared seg line).roomMade = s.lineCleared seg line := State.trimCache_within _ (by omega)
  rw [State.cacheFill_missing hmiss, hmade, if_pos (by omega), State.dramWrite_plc]
  rfl

theorem State.segAhead_has (h : s.cacheHas g.num l = true) : s.segAhead g l = s := if_pos h

theorem State.segAhead_room (hmiss : s.cacheHas g.num l = false) (hroom : s.plc.cache.length < s.cacheCap) :
    (s.segAhead g l).plc.cache =
      s.plc.cache.filter (fun e => !(e.seg == g.num && e.line == l)) ++ [(s.lineCleared g.num l).newLine g.num l] := by
  rw [State.segAhead, if_neg (by rw [hmiss]; exact Bool.false_ne_true), State.driveRead_plc]
  exact State.cacheFill_room hmiss hroom

theorem State.lineHeld_of_cacheHas (h : s.cacheHas seg l = true) : s.lineHeld seg l := by
  obtain ⟨e, he⟩ := Option.isSome_iff_exists.1 h
  have hprop := List.find?_some he
  simp only [Bool.and_eq_true, beq_iff_eq] at hprop
  exact ⟨e, List.mem_of_find?_eq_some he, hprop.1⟩

/-- With room, read-ahead brings its line in, keeps those of the segment that are held, and takes one place at most. -/
theorem State.segAhead_held (hroom : s.plc.cache.length < s.cacheCap) : (s.segAhead g l).plc.cache.length ≤ s.plc.cache.length + 1 ∧
    ∀ k, k = l ∨ s.lineHeld g.num k → (s.segAhead g l).lineHeld g.num k := by
  cases hmiss : s.cacheHas g.num l with
  | true =>
    rw [State.segAhead_has hmiss]
    refine ⟨Nat.le_succ _, fun k hk => ?_⟩
    obtain rfl | hheld := hk
    · exact State.lineHeld_of_cacheHas hmiss
    · exact hheld
  | false =>
    have hnew : (s.segAhead g l).lineHeld g.num l := ⟨(s.lineCleared g.num l).newLine g.num l, by
      rw [State.segAhead_room hmiss hroom]
      exact List.mem_append_right _ (List.mem_singleton_self _), rfl, rfl⟩
    refine ⟨?_, fun k hk => ?_⟩
    · rw [State.segAhead_room hmiss hroom, List.length_append, List.length_singleton]
      exact Nat.succ_le_succ (List.length_filter_le _ _)
    · by_cases hkl : k = l
      · exact hkl ▸ hnew
      · obtain ⟨e, he, hseg, hline⟩ := hk.resolve_left hkl
        have hstays : (!(e.seg == g.num && e.line == l)) = true := by rw [hline, beq_eq_false_iff_ne.2 hkl, Bool.and_false]; rfl
        refine ⟨e, ?_, hseg, hline⟩
        rw [State.segAhead_room hmiss hroom]
        exact List.mem_append_left _ (List.mem_filter.2 ⟨he, hstays⟩)

theorem State.foldl_segAhead_held (g : Seg) (lines : List Nat) (s : State) (hroom : s.plc.cache.length + lines.length ≤ s.cacheCap) (k : Nat)
    (hk : k ∈ lines ∨ s.lineHeld g.num k) : (lines.foldl (fun s l => s.segAhead g l) s).lineHeld g.num k := by
  induction lines generalizing s with
  | nil => exact hk.resolve_left List.not_mem_nil
  | cons l lines ih =>
    rw [List.length_cons] at hroom
    obtain ⟨hlength, hheld⟩ := State.segAhead_held (s := s) (g := g) (l := l) (by omega)
    refine ih (s.segAhead g l) ?_ ?_
    · rw [(State.segAhead_moved s g l).cacheCap]
      omega
    · rw [List.mem_cons, or_assoc] at hk
      rcases hk with hk | hk | hk
      · exact .inr (hheld k (.inl hk))
      · exact .inl hk
      · exact .inr (hheld k (.inr hk))

theorem State.readAhead_lines {p : Nat} {x : Play} (hplay : s.play p = some x) (hseg : s.segOf x.seg = some g)
    (hahead : s.fld Reg.plcCache 31 16 ≠ 0) : s.readAhead p =
      (x.linesTo g (s.ras.frame + x.lead + s.fld Reg.plcCache 31 16 * ms / max s.ras.timing.period 1)).foldl (fun s l => s.segAhead g l) s := by
  rw [State.readAhead, hplay]
  dsimp only
  rw [hseg]
  exact if_neg hahead

theorem State.segOf_num {n : Nat} (h : s.segOf n = some g) : g.num = n := by
  have hfound := List.find?_some h
  rw [Bool.and_eq_true, beq_iff_eq] at hfound
  exact hfound.1

end

/-- Settles O37: a unit's move and a page's, the last channel's fencing, and what read-ahead brings in line by line. -/
theorem dataMoves : Obligations.DataMoves := by
  unfold Obligations.DataMoves
  intro s i
  refine ⟨fun a dest un b bytes hunit hmay haway hplace hgap hread => ?_, fun e a dest hevac hunit hchan hpage hleft haway hplace => ?_,
    fun e hevac hempty hwait hunit hrq hwq => ?_, fun p x g hplay hseg hahead => ?_⟩
  · obtain ⟨hdram, hunits, hfreeing, hcount, hwindows, hpages⟩ :=
      State.migrate_shown (s := s.at i) hunit hmay haway hplace hgap hread
    refine ⟨settle ((s.at i).migrate a dest), rfl, ?_⟩
    rw [settle_dram, settle_scn, settle_plc, settle_rd]
    exact ⟨hdram.trans (State.dramWrite_dram_congr (s := s) (t := s.at i) (fun _ _ => rfl) rfl rfl _ _), hunits, hfreeing, hcount, hwindows,
      hpages⟩
  · have hmoves := State.migrate_cpx (s := s.at i) hevac hunit hchan hpage hleft haway hplace
    have hkept : Kept 256 (s.at i) (((s.at i).cpxLeft e (e.cpx - 4096)).evacCount (min 4096 e.cpx)) :=
      State.evacCount_kept.step rfl (State.cpxLeft_kept _ _ _)
    refine ⟨_, congrArg finish hmoves, ?_, ?_, ?_⟩
    · rw [settle_plc, State.evacCount_evac]
      rfl
    · exact (settle_dram _).trans (hkept.dram.resolve_left (by decide))
    · exact (settle_scn _).trans (hkept.scn.resolve_left (by decide))
  · obtain ⟨hstate, hevent⟩ := (s.at i).channelFenced_shown e.channel
    refine ⟨_, congrArg finish (State.evacDone_last (s := s.at i) hevac hempty hwait hunit hrq hwq), ?_, ?_, ?_⟩
    · rw [settle_plc]
      rfl
    · exact (settle_fld _ _ _ _).trans hstate
    · exact (settle_flag _ _ _).trans hevent
  · intro lines
    have hmoved := State.foldl_segAhead_moved g lines (s.at i)
    refine ⟨_, congrArg finish (State.readAhead_lines (s := s.at i) hplay hseg hahead), ?_, ?_, fun hroom l hl => ?_⟩
    · exact (settle_nvs _).trans (hmoved.rest.nvs.resolve_left (by decide))
    · exact State.wordsBut_settle hmoved.words
    · rw [settle_plc, ← State.segOf_num hseg]
      exact State.foldl_segAhead_held g lines (s.at i) hroom l (.inl hl)

end Sys2Proof.Machine

/-! SUPPORT. The tokens of flat layers and the tiles that one drops, with O38 (R272, R276). -/

namespace Sys2Proof.Machine

section
variable {s : State} {who : Requester} {x y : Tile} {g : Hold} {n code : Nat} {bad rest : List (Tile × Nat)}

/-! ### LYR_L_DONE (R272) -/

/-- The row of LYR_L_DONE. -/
def lyrLDoneRow : RegRow := row1 "LYR_Ln_DONE" 0x8C 0 [fAny 15 0 .rw]

/-- The page of layer `n + 1`. -/
def lyrPage (n : Nat) : PageDef := unitPage (groupPage (page 9 (n + 1) 18 0 rowsLyrLayer)) (n + 1) (112 + n)

theorem pageOf_lyr {a : Nat} (hn : n < 7) (h : a / 0x1000 = 0x91 + n) : pageOf a = some (lyrPage n) := by
  have hcode : a / 0x10000 = 9 := by omega
  have hindex : a / 0x1000 % 16 = n + 1 := by omega
  have hpages : groupPages 9 = groupPage (page 9 0 18 0x3F rowsLyrGlobal) :: (List.range 7).map lyrPage := rfl
  rw [pageOf, if_pos (by omega), hcode, hindex, pageDef, if_neg (by omega), if_pos rfl, hpages, List.getElem?_cons_succ, List.getElem?_map,
    List.getElem?_range hn]
  rfl

/-- DONE is stored as it is written, and a write of it starts nothing. -/
theorem State.writeWord_lyrLDone {data : Word} (hlow : 1 ≤ n) (hhigh : n ≤ 7) (hacc : s.accepts who (Reg.lyrLDone n) data.toNat) :
    s.writeWord who (Reg.lyrLDone n) 4 data.toNat = s.wr (Reg.lyrLDone n) data.toNat := by
  obtain ⟨m, rfl⟩ : ∃ m, n = m + 1 := ⟨n - 1, by omega⟩
  generalize ha : Reg.lyrLDone (m + 1) = a at hacc ⊢
  obtain ⟨hpage, hoff, hmod⟩ : a / 0x1000 = 0x91 + m ∧ a % 0x1000 = 0x8C ∧ a % 0x400000 = a := by
    unfold Reg.lyrLDone at ha
    omega
  obtain ⟨p, hp, hcode⟩ := hacc
  rw [hmod] at hp hcode
  obtain rfl : p = lyrPage m := Option.some.inj ((State.reached_pageOf hp).symm.trans (pageOf_lyr (by omega) hpage))
  have hrow : rowFor (lyrPage m).rows (a % 0x1000) = some (lyrLDoneRow, 0) := by
    rw [hoff]
    rfl
  have hbehind : 0x40 ≤ a % 0x1000 := by omega
  have hwrite := State.writeWord_plain (s := s) (addr := a) (by rwa [hmod]) (by rwa [hmod]) (.inl rfl) (by rwa [hmod])
    (by rwa [hmod]) (by decide)
  rw [hwrite, hmod, RegRow.stored_rw (State.reached_row_laid hp hrow) (by decide) (State.accepted_reserved hcode hbehind hrow) data.isLt]

/-! ### A tile is dropped (R208, R229, R276) -/

/-- A dropped tile: no cluster runs it. -/
def Tile.asDropped (x : Tile) : Tile := { x with state := .dropped, owner := none }

/-- The run of a tile that is being dropped has been counted, its cost taken, and its cluster is free of it. -/
def State.runDropped (s : State) (x : Tile) : State :=
  ((if x.state = .started then s.countTile x false else s).costDropped x (s.timingOf x.frame)).endRun x

theorem State.dropTile_eq (s : State) (x : Tile) : s.dropTile x = (s.runDropped x).setTile x.asDropped := rfl

theorem State.runDropped_brc (s : State) (x : Tile) : (s.runDropped x).brc = s.brc := by
  have hcount : (if x.state = .started then s.countTile x false else s).brc = s.brc := by
    split
    · exact State.countTile_kept.brc.resolve_left (by decide)
    · rfl
  exact (State.endRun_kept.brc.resolve_left (by decide)).trans ((State.costDropped_kept.brc.resolve_left (by decide)).trans hcount)

/-- Dropping a tile changes, of the tiles, that one alone. -/
theorem State.dropTile_tileOf (s : State) (x : Tile) (g : Hold) :
    (s.dropTile x).tileOf g = (s.tileOf g).map (fun y => if y.isHold x.hold then x.asDropped else y) := by
  rw [State.dropTile_eq, State.tileOf_setTile, State.tileOf_of_brc (s.runDropped_brc x)]
  rfl

/-- A tile that is there stays there while another or itself is dropped; it is DROPPED if it is itself or has been so. -/
theorem State.dropTile_found (h : s.tileOf g = some y) (x : Tile) :
    ∃ z, (s.dropTile x).tileOf g = some z ∧ (x.isHold g = true ∨ y.state = .dropped → z.state = .dropped) := by
  refine ⟨_, by rw [State.dropTile_tileOf, h, Option.map_some], fun hdropped => ?_⟩
  split
  case isTrue => rfl
  case isFalse hother =>
    refine hdropped.resolve_left fun hx => hother ?_
    rw [Tile.isHold_congr hx x.isHold_hold]
    exact State.isHold_of_tileOf h

/-- Tiles are dropped one after the other. -/
def State.tilesDropped (s : State) (bad : List (Tile × Nat)) : State := bad.foldl (fun s e => s.dropTile e.1) s

/-- Each tile of the list that is there ends DROPPED, also where two entries name the same one. -/
theorem State.tilesDropped_found (bad : List (Tile × Nat)) (h : s.tileOf g = some y) :
    ∃ z, (s.tilesDropped bad).tileOf g = some z ∧ ((∃ e ∈ bad, e.1.isHold g = true) ∨ y.state = .dropped → z.state = .dropped) := by
  induction bad generalizing s y with
  | nil => exact ⟨y, h, fun hy => hy.resolve_left fun ⟨_, he, _⟩ => absurd he List.not_mem_nil⟩
  | cons e bad ih =>
    obtain ⟨w, hw, hfirst⟩ := State.dropTile_found h e.1
    obtain ⟨z, hz, hrest⟩ := ih hw
    refine ⟨z, hz, fun hcases => hrest ?_⟩
    rcases hcases with ⟨d, hd, hname⟩ | hy
    · rcases List.mem_cons.1 hd with rfl | hd
      · exact .inr (hfirst (.inl hname))
      · exact .inl ⟨d, hd, hname⟩
    · exact .inr (hfirst (.inr hy))

theorem State.tilesDropped_dropped {e : Tile × Nat} (he : e ∈ bad) (htile : e.1 ∈ s.brc.tiles) :
    ∃ z, (s.tilesDropped bad).tileOf e.1.hold = some z ∧ z.state = .dropped := by
  have hfound : (s.tileOf e.1.hold).isSome = true := List.find?_isSome.2 ⟨e.1, htile, e.1.isHold_hold⟩
  obtain ⟨y, hy⟩ := Option.isSome_iff_exists.1 hfound
  obtain ⟨z, hz, hdropped⟩ := State.tilesDropped_found bad hy
  exact ⟨z, hz, hdropped (.inl ⟨e, he, e.1.isHold_hold⟩)⟩

/-! ### The words that a dropped tile is counted in -/

/-- The words, whatever the number of a tile's cluster, in which no run is shown or counted: those behind the SYN pages that stand on
their page between the first two counters of a slice and its clusters. -/
abbrev besideRuns (w : Nat) : Prop := 0x60000 ≤ w ∧ 0x108 ≤ w % 0x1000 ∧ w % 0x1000 < 0x400

theorem runWords_not_beside {u : Nat} : ∀ w ∈ runWords u, ¬ besideRuns w := by
  intro w hw
  simp only [runWords, List.mem_cons, List.not_mem_nil, or_false, Reg.slcClTile, Reg.slcClBudget, Reg.slcClSamples, Reg.slcClStatTiles,
    Reg.slcClStatSamples, Reg.slcClStatBusy, Reg.slcClStatWait, Reg.slcClStatBdCells, Reg.slcStat] at hw
  unfold besideRuns
  omega

theorem stoppedWords_not_beside {u : Nat} : ∀ w ∈ synWords ++ runWords u, ¬ besideRuns w := fun w hw =>
  (List.mem_append.1 hw).elim (fun hsyn hw' => absurd hw'.1 (Nat.not_le.2 (synWords_range hsyn))) (runWords_not_beside w)

theorem State.countTile_beside (s : State) (x : Tile) : WordsKept besideRuns s (s.countTile x false) := by
  cases howner : x.owner with
  | some u => exact .wordsBut (State.countTile_stopped_words howner) stoppedWords_not_beside
  | none =>
    rw [State.countTile, howner]
    exact .refl _ s

theorem State.endRun_beside (s : State) (x : Tile) : WordsKept besideRuns s (s.endRun x) := by
  cases howner : x.owner with
  | some u => exact .wordsBut (State.endRun_words howner) runWords_not_beside
  | none =>
    rw [State.endRun, howner]
    exact .refl _ s

theorem State.costDropped_regs (s : State) (x : Tile) (tm : Timing) : (s.costDropped x tm).regs = s.regs := by
  unfold State.costDropped
  dsimp only
  split
  case isTrue => split <;> rfl
  case isFalse => split <;> rfl

theorem State.dropTile_beside (s : State) (x : Tile) : WordsKept besideRuns s (s.dropTile x) := by
  have hcount : WordsKept besideRuns s (if x.state = .started then s.countTile x false else s) := .ite (s.countTile_beside x) (.refl _ s)
  have hcost := hcount.regs (State.costDropped_regs _ x (s.timingOf x.frame))
  exact (hcost.trans (State.endRun_beside _ x)).regs rfl

theorem State.tilesDropped_beside (s : State) (bad : List (Tile × Nat)) : WordsKept besideRuns s (s.tilesDropped bad) :=
  .foldl (.refl _ s) fun r e _ hr => hr.trans (r.dropTile_beside e.1)

/-! ### The data of a layer fails (R276) -/

/-- Units of layer `n` whose check value fails have been counted, with their event. -/
def State.checksCounted (s : State) (n : Nat) : State :=
  let checks := match s.lyr.front with | some l => s.layerCheckFails l n | none => 0
  if checks = 0 then s else (s.add (Reg.lyrStat 4) checks).raise 0x90000 4

/-- The code that FAULT records where the data fails with `why`: a free value where no decoder serves the surface (log entry 154). -/
def State.faultCode (s : State) (why : Nat) : Nat := if why = 0x906 then s.draw.1 % 65536 else why

/-- The state once that free value has been drawn. -/
def State.faultDrawn (s : State) (why : Nat) : State := if why = 0x906 then s.draw.2 else s

/-- `k` dropped tiles of layer `n` are counted, its status holds the code, and the event is raised. -/
def State.faultShown (s : State) (n k code : Nat) : State :=
  let counted := (s.add (Reg.lyrStat 2) k).add (Reg.lyrLStat n 3) 1
  ((if 0x401 ≤ code ∧ code ≤ 0x407 then counted.add (Reg.lyrStat 3) 1 else counted).setFld (Reg.lyrLStatus n) 31 16 code).raise 0x90000 3

theorem State.layerDrop_none (h : s.layerFaults n = []) : s.layerDrop n = s.checksCounted n := by
  rw [State.layerDrop, h]
  rfl

theorem State.layerDrop_some (h : s.layerFaults n = (x, code) :: rest) :
    s.layerDrop n = ((((s.checksCounted n).faultDrawn code).tilesDropped ((x, code) :: rest)).faultShown n (rest.length + 1)
      ((s.checksCounted n).faultCode code)) := by
  rw [State.layerDrop, h]
  rfl

theorem State.layerFaults_mem {e : Tile × Nat} (he : e ∈ s.layerFaults n) : e.1 ∈ s.brc.tiles := by
  obtain ⟨x, hx, he⟩ := List.mem_filterMap.1 he
  split at he
  case isTrue => exact nomatch he
  case isFalse =>
    split at he
    case h_2 => exact nomatch he
    case h_1 =>
      split at he
      case isFalse => exact nomatch he
      case isTrue =>
        obtain ⟨c, -, rfl⟩ := Option.map_eq_some_iff.1 he
        exact hx

theorem State.checksCounted_parts (s : State) (n : Nat) :
    (s.checksCounted n).brc = s.brc ∧ (s.checksCounted n).clusters = s.clusters := by
  unfold State.checksCounted
  extract_lets checks
  split <;> exact ⟨rfl, rfl⟩

/-- A failing check is no dropped tile: it has a counter of its own. -/
theorem State.checksCounted_tilesCount (s : State) (n : Nat) : (s.checksCounted n).rd (Reg.lyrStat 2) = s.rd (Reg.lyrStat 2) := by
  unfold State.checksCounted
  extract_lets checks
  split
  · rfl
  · rw [State.rd_raise_ne _ _ (by decide), State.rd_add_ne _ _ (by decide)]

theorem State.faultDrawn_brc (s : State) (why : Nat) : (s.faultDrawn why).brc = s.brc := by
  unfold State.faultDrawn
  split <;> rfl

theorem State.faultDrawn_regs (s : State) (why : Nat) : (s.faultDrawn why).regs = s.regs := by
  unfold State.faultDrawn
  split <;> rfl

theorem State.faultShown_brc (s : State) (n k code : Nat) : (s.faultShown n k code).brc = s.brc := by
  unfold State.faultShown
  dsimp only
  rw [State.raise_brc, State.setFld_brc]
  split <;> rfl

theorem State.faultShown_shown (s : State) (n k code : Nat) :
    (s.faultShown n k code).fld (Reg.lyrLStatus n) 31 16 = code % 65536 ∧ (s.faultShown n k code).flag 0x90010 3 = true ∧
    (s.faultShown n k code).rd (Reg.lyrStat 2) = (s.rd (Reg.lyrStat 2) + k) % 2 ^ 32 := by
  have hirq : Reg.lyrLStatus n ≠ 0x90000 + 0x10 := by unfold Reg.lyrLStatus; omega
  have hstatus : Reg.lyrStat 2 ≠ Reg.lyrLStatus n := by unfold Reg.lyrStat Reg.lyrLStatus; omega
  have hlayer : Reg.lyrStat 2 ≠ Reg.lyrLStat n 3 := by unfold Reg.lyrStat Reg.lyrLStat; omega
  unfold State.faultShown
  extract_lets counted
  refine ⟨?_, State.flag_raise_same _ 0x90000 3 (by decide), ?_⟩
  · rw [State.fld, State.rd_raise_ne _ _ hirq]
    exact State.fld_setFld_same _ _ _ _ _ (by decide) (by decide)
  · rw [State.rd_raise_ne _ _ (by decide), State.rd_setFld_ne _ _ _ _ hstatus]
    have hcounted : counted.rd (Reg.lyrStat 2) = (s.rd (Reg.lyrStat 2) + k) % 2 ^ 32 :=
      (State.rd_add_ne _ _ hlayer).trans (State.rd_add_same _ _ _)
    split
    · exact (State.rd_add_ne _ _ (by decide)).trans hcounted
    · exact hcounted

/-- A fault of layer `n` leaves its code, its event, its count, and every tile that needs the data DROPPED. -/
theorem State.layerDrop_shown (h : s.layerFaults n = (x, code) :: rest) :
    (code ≠ 0x906 → (s.layerDrop n).fld (Reg.lyrLStatus n) 31 16 = code % 65536) ∧ (s.layerDrop n).flag 0x90010 3 = true ∧
    (s.layerDrop n).rd (Reg.lyrStat 2) = (s.rd (Reg.lyrStat 2) + rest.length + 1) % 2 ^ 32 ∧
    ∀ y ∈ (x, code) :: rest, ∃ z, (s.layerDrop n).tileOf y.1.hold = some z ∧ z.state = .dropped := by
  rw [State.layerDrop_some h]
  have hbrc : ((s.checksCounted n).faultDrawn code).brc = s.brc := (State.faultDrawn_brc _ _).trans (s.checksCounted_parts n).1
  have hbefore : ((s.checksCounted n).faultDrawn code).rd (Reg.lyrStat 2) = s.rd (Reg.lyrStat 2) := by
    rw [State.rd, State.faultDrawn_regs, ← State.rd, State.checksCounted_tilesCount]
  have hcode : code ≠ 0x906 → (s.checksCounted n).faultCode code = code := fun hstated => if_neg hstated
  generalize (s.checksCounted n).faultDrawn code = r at hbrc hbefore ⊢
  obtain ⟨hstatus, hevent, hcount⟩ := (r.tilesDropped ((x, code) :: rest)).faultShown_shown n (rest.length + 1)
    ((s.checksCounted n).faultCode code)
  refine ⟨fun hstated => ?_, hevent, ?_, fun y hy => ?_⟩
  · rw [hstatus, hcode hstated]
  · rw [hcount, r.tilesDropped_beside _ _ (by decide), hbefore, Nat.add_assoc]
  · rw [State.tileOf_of_brc (State.faultShown_brc _ _ _ _)]
    exact State.tilesDropped_dropped hy (hbrc ▸ State.layerFaults_mem (h ▸ hy))

theorem exec_lyrFaultDrop {t : Nat} (hlow : 1 ≤ n) (hhigh : n ≤ 7) (hon : s.domOn 16 = true) :
    exec (.lyrFaultDrop n t) s = .next (settle ((s.at t).layerDrop n)) := congrArg finish (if_pos ⟨hlow, hhigh, hon⟩)

end

/-- Settles O38: DONE is one stored word, and the layer's drop is its failing checks, then the tiles one by one, then the counts. -/
theorem layersDrop : Obligations.LayersDrop := by
  unfold Obligations.LayersDrop
  intro s n t hlow hhigh
  refine ⟨fun who data hacc => ?_, fun hon hnone => ?_, fun x code rest hon hsome => ?_⟩
  · refine ⟨_, congrArg finish (State.writeWord_lyrLDone hlow hhigh hacc), ?_, ?_, ?_⟩
    · rw [settle_rd, State.rd_wr_same, Nat.mod_eq_of_lt data.isLt]
    · rw [settle_lyr, State.wr_lyr]
    · exact State.wordsBut_settle (State.wordsBut_wr (State.wordsBut_refl _ _) (List.mem_singleton_self _))
  · obtain ⟨hbrc, hclusters⟩ := (s.at t).checksCounted_parts n
    refine ⟨_, exec_lyrFaultDrop hlow hhigh hon, ?_, ?_⟩
    · rw [settle_brc, State.layerDrop_none hnone, hbrc, State.at_brc]
    · rw [settle_clusters, State.layerDrop_none hnone, hclusters, State.at_clusters]
  · obtain ⟨hstatus, hevent, hcount, htiles⟩ := State.layerDrop_shown hsome
    refine ⟨_, exec_lyrFaultDrop hlow hhigh hon, fun hstated => ?_, ?_, ?_, fun y hy => ?_⟩
    · rw [settle_fld, hstatus hstated]
    · rw [settle_flag, hevent]
    · rw [settle_rd, hcount, State.rd_at]
    · rw [State.tileOf_of_brc (settle_brc _)]
      exact htiles y hy

end Sys2Proof.Machine

/-! SUPPORT. The blitter's bursts: what they keep of a descriptor, where they write, and O39 (R284-R289, R292). -/

namespace Sys2Proof.Machine

section
variable {s : State} {d d' : BltCur}

/-! ### The effective rectangle and the window (R284, R285, R288) -/

/-- Every pixel of the effective rectangle lies in the window. -/
def BltCur.Fits (d : BltCur) : Prop :=
  ∀ x y, x < d.size.1 → y < d.size.2 → d.win.1 ≤ (d.dstSpan y).1 + x * d.p ∧ (d.dstSpan y).1 + x * d.p + d.p ≤ d.win.2

theorem BltCur.dstSpan_end (d : BltCur) (i : Nat) : (d.dstSpan i).2 = (d.dstSpan i).1 + d.size.1 * d.p := rfl

theorem BltCur.dstSpan_mono (d : BltCur) {i j : Nat} (h : i ≤ j) : (d.dstSpan i).1 ≤ (d.dstSpan j).1 :=
  Nat.add_le_add_right (Nat.add_le_add_left (Nat.mul_le_mul_right _ (Nat.add_le_add_left h _)) _) _

/-- A descriptor that passes the checks of R292, and whose rectangle is not empty, has its first and last rows in the window. -/
theorem BltCur.inWindow_of_check (hcheck : d.check = 0) (hsome : d.isEmpty = false) :
    d.inWindow (d.dstSpan 0).1 (d.dstSpan (d.size.2 - 1)).2 = true := by
  by_contra hout
  unfold BltCur.check at hcheck
  extract_lets src p zero big range compl n outside srcOut stride at hcheck
  have houtside : outside = true := by simp [outside, n, hsome, Bool.eq_false_iff.2 hout]
  simp only [houtside, ↓reduceIte] at hcheck
  split_ifs at hcheck

/-- So all its pixels lie there. -/
theorem BltCur.fits_of_check (hcheck : d.check = 0) : d.Fits := by
  intro x y hx hy
  have hsome : d.isEmpty = false := by
    rw [BltCur.isEmpty, Bool.or_eq_false_iff, beq_eq_false_iff_ne, beq_eq_false_iff_ne]
    omega
  obtain ⟨hlow, hhigh⟩ := of_decide_eq_true (BltCur.inWindow_of_check hcheck hsome)
  have hfirst := d.dstSpan_mono (Nat.zero_le y)
  have hlast : (d.dstSpan y).1 ≤ (d.dstSpan (d.size.2 - 1)).1 := d.dstSpan_mono (by omega)
  have hrow : (x + 1) * d.p ≤ d.size.1 * d.p := Nat.mul_le_mul_right _ hx
  rw [BltCur.dstSpan_end] at hhigh
  rw [Nat.succ_mul] at hrow
  omega

/-- The order of R288 stays inside the effective rectangle. -/
theorem BltCur.order_lt {i : Nat} (h : i < d.size.1 * d.size.2) : (d.order i).1 < d.size.1 ∧ (d.order i).2 < d.size.2 := by
  have hcols : 0 < d.size.1 := Nat.pos_of_mul_pos_right (Nat.zero_lt_of_lt h)
  unfold BltCur.order
  extract_lets w r q y x
  have hw : w = d.size.1 := Nat.max_eq_right hcols
  have hx : x < d.size.1 := (congrArg (i % ·) hw).trans_lt (Nat.mod_lt _ hcols)
  have hy : y < d.size.2 := (congrArg (i / ·) hw).trans_lt (Nat.div_lt_of_lt_mul h)
  clear_value x y
  split
  case isFalse => exact ⟨hx, hy⟩
  case isTrue =>
    dsimp only
    constructor <;> split <;> omega

/-! ### What a part of a pixel's traffic writes (R286) -/

/-- A write lies between two addresses. -/
def writeWithin (lo hi : Nat) (w : Nat × List Byte) : Prop := lo ≤ w.1 ∧ w.1 + w.2.length ≤ hi

theorem writeWithin.mono {lo hi lo' hi' : Nat} {w : Nat × List Byte} (h : writeWithin lo hi w) (hlo : lo' ≤ lo) (hhi : hi ≤ hi') :
    writeWithin lo' hi' w := ⟨hlo.trans h.1, h.2.trans hhi⟩

theorem leBytes_length (n v : Nat) : (leBytes n v).length = n := by
  induction n generalizing v with
  | zero => rfl
  | succ n ih => rw [leBytes, List.length_cons, ih]

/-- Part of some bytes, at its place behind `a`, lies where they do. -/
theorem writeWithin_slice {bs : List Byte} {n : Nat} (hlen : bs.length ≤ n) (a off k : Nat) (hne : slice bs off k ≠ []) :
    writeWithin a (a + n) (a + off, slice bs off k) := by
  have hpos := List.length_pos_of_ne_nil hne
  unfold writeWithin
  simp only [slice, List.length_take, List.length_drop] at hpos ⊢
  omega

theorem State.dramRead_length {a n : Nat} {bs : List Byte} (h : s.dramRead a n = some bs) : bs.length = n := by
  obtain ⟨-, hbytes⟩ := Option.ite_none_right_eq_some.1 h
  obtain rfl := Option.some.inj hbytes
  rw [List.length_map, List.length_range]

/-- A colour is a pixel's bytes, or none where the pixel stays. -/
theorem State.glyphColour_length {x y : Nat} {c : Option (List Byte)} (h : s.glyphColour d x y = some c) : (c.getD []).length ≤ d.p := by
  unfold State.glyphColour at h
  dsimp only at h
  obtain ⟨b, -, rfl⟩ := Option.map_eq_some_iff.1 h
  split
  case isTrue => exact (leBytes_length _ _).le
  case isFalse =>
    split
    · exact Nat.zero_le _
    · exact (leBytes_length _ _).le

/-- What a part writes lies in its pixel; a COPY's part ends with its pixel. -/
theorem State.bltPart_within {i a b : Nat} {w : Nat × List Byte} (hpart : s.bltPart d i a b = some w) (hne : w.2 ≠ [])
    (hend : d.op = 0 → b ≤ 2 * d.p) :
    writeWithin ((d.dstSpan (d.order i).2).1 + (d.order i).1 * d.p) ((d.dstSpan (d.order i).2).1 + (d.order i).1 * d.p + d.p) w := by
  unfold State.bltPart at hpart
  dsimp only at hpart
  split at hpart
  case isTrue hcopy =>
    obtain ⟨bs, hread, rfl⟩ := Option.map_eq_some_iff.1 hpart
    have hlen := State.dramRead_length hread
    have hpos := List.length_pos_of_ne_nil hne
    have hb := hend hcopy
    refine ⟨Nat.le_add_right _ _, ?_⟩
    dsimp only at hpos ⊢
    omega
  case isFalse =>
    split at hpart
    case isTrue =>
      obtain rfl := Option.some.inj hpart
      exact writeWithin_slice (leBytes_length _ _).le _ _ _ hne
    case isFalse =>
      obtain ⟨c, hcolour, rfl⟩ := Option.map_eq_some_iff.1 hpart
      exact writeWithin_slice (State.glyphColour_length hcolour) _ _ _ hne

/-- Writes that are joined lie where their parts do. -/
theorem joinRuns_within {lo hi : Nat} {ws : List (Nat × List Byte)} (h : ∀ w ∈ ws, writeWithin lo hi w) :
    ∀ w ∈ joinRuns ws, writeWithin lo hi w := by
  induction ws with
  | nil => exact fun w hw => absurd hw List.not_mem_nil
  | cons v ws ih =>
    obtain ⟨hv, hws⟩ := List.forall_mem_cons.1 h
    have ih := ih hws
    obtain ⟨a, bs⟩ := v
    simp only [joinRuns]
    cases hrest : joinRuns ws with
    | nil => exact List.forall_mem_singleton.2 hv
    | cons u us =>
      rw [hrest] at ih
      obtain ⟨hu, hus⟩ := List.forall_mem_cons.1 ih
      obtain ⟨b, cs⟩ := u
      unfold writeWithin at hv hu
      dsimp only at hv hu ⊢
      split
      case isTrue hjoin =>
        refine List.forall_mem_cons.2 ⟨⟨hv.1, ?_⟩, hus⟩
        rw [List.length_append]
        omega
      case isFalse =>
        split
        case isTrue hjoin =>
          refine List.forall_mem_cons.2 ⟨⟨hu.1, ?_⟩, hus⟩
          rw [List.length_append]
          omega
        case isFalse => exact List.forall_mem_cons.2 ⟨hv, ih⟩

/-! ### One burst (R289) -/

/-- Traffic moves forward. -/
theorem State.le_bltAdvance (s : State) (d : BltCur) (k i o n : Nat) : i ≤ (s.bltAdvance d k i o n).1 := by
  induction k generalizing i o n with
  | zero => exact Nat.le_refl i
  | succ k ih =>
    rw [State.bltAdvance]
    split
    · exact (Nat.le_succ i).trans (ih _ _ _)
    · exact Nat.le_refl i

/-- Traffic ends within a pixel, or with the last one. -/
theorem State.bltAdvance_end (s : State) (d : BltCur) {k i o : Nat} (n : Nat) (hstart : k = 0 → o = 0) :
    (s.bltAdvance d k i o n).1 < i + k ∧ (s.bltAdvance d k i o n).2 < s.bltCost d (s.bltAdvance d k i o n).1 ∨
    (s.bltAdvance d k i o n).1 = i + k ∧ (s.bltAdvance d k i o n).2 = 0 := by
  induction k generalizing i o n with
  | zero => exact .inr ⟨rfl, hstart rfl⟩
  | succ k ih =>
    rw [State.bltAdvance]
    split
    case isTrue =>
      rw [Nat.add_comm k 1, ← Nat.add_assoc]
      exact ih _ (fun _ => rfl)
    case isFalse hwithin => exact .inl ⟨by dsimp only; omega, by dsimp only; omega⟩

theorem State.bltCost_copy (hcopy : d.op = 0) (i : Nat) : s.bltCost d i = 2 * d.p := if_pos hcopy

/-- Pixel and byte that the next burst reaches. -/
def State.burstEnd (s : State) (d : BltCur) : Nat × Nat :=
  s.bltAdvance d (d.size.1 * d.size.2 - d.px) d.px d.off (1024 * 2 ^ s.fld Reg.bltPace 17 16)

/-- The parts that it moves: each pixel with the first byte of its traffic and the byte behind the last. -/
def State.burstParts (s : State) (d : BltCur) : List (Nat × Nat × Nat) :=
  (List.range ((s.burstEnd d).1 - d.px + (if (s.burstEnd d).2 = 0 then 0 else 1))).map (fun j =>
    (d.px + j, if j = 0 then d.off else 0, if d.px + j = (s.burstEnd d).1 then (s.burstEnd d).2 else s.bltCost d (d.px + j)))

/-- The requests that it makes. -/
def State.burstWrites (s : State) (d : BltCur) : List (Nat × List Byte) :=
  joinRuns (((s.burstParts d).map (fun x => s.bltPart d x.1 x.2.1 x.2.2)).filterMap (fun x => x.filter (fun w => w.2 != [])))

/-- The state behind a burst, whose traffic is counted. -/
def State.burstDone (s : State) (d : BltCur) : State :=
  ((s.burstWrites d).foldl (fun s w => s.dramWrite w.1 w.2) s).add64 (Reg.bltStat 4) (Reg.bltStat 5)
    ((s.burstParts d).map (fun x => x.2.2 - x.2.1)).sum

theorem State.burstDone_dram (s : State) (d : BltCur) :
    (s.burstDone d).dram = ((s.burstWrites d).foldl (fun s w => s.dramWrite w.1 w.2) s).dram := by
  rw [State.burstDone, State.add64, State.wr_dram, State.wr_dram]

/-- The descriptor that has reached pixel and byte `e`. -/
def BltCur.advanced (d : BltCur) (e : Nat × Nat) : BltCur :=
  { d with px := e.1, off := e.2, fin := decide (d.size.1 * d.size.2 ≤ e.1) }

/-- A burst ends the descriptor at a poisoned read, and otherwise makes its writes. -/
theorem State.bltBurstRun_cases (s : State) (d : BltCur) :
    s.bltBurstRun d = (s, { d with code := 0xA04, fin := true }) ∨ s.bltBurstRun d = (s.burstDone d, d.advanced (s.burstEnd d)) := by
  unfold State.bltBurstRun
  extract_lets total e parts out
  split
  · exact .inl rfl
  · exact .inr rfl

/-- The parts of a burst lie in the rectangle, and a COPY's end with their pixels. -/
theorem State.burstParts_within (hpx : d.px < d.size.1 * d.size.2) :
    ∀ x ∈ s.burstParts d, x.1 < d.size.1 * d.size.2 ∧ (d.op = 0 → x.2.2 ≤ 2 * d.p) := by
  intro x hx
  obtain ⟨j, hj, rfl⟩ := List.mem_map.1 hx
  have hj := List.mem_range.1 hj
  have hmono : d.px ≤ (s.burstEnd d).1 := s.le_bltAdvance d _ _ _ _
  have hend : (s.burstEnd d).1 < d.size.1 * d.size.2 ∧ (s.burstEnd d).2 < s.bltCost d (s.burstEnd d).1 ∨
      (s.burstEnd d).1 = d.size.1 * d.size.2 ∧ (s.burstEnd d).2 = 0 := by
    have h := s.bltAdvance_end d (i := d.px) (o := d.off) (1024 * 2 ^ s.fld Reg.bltPace 17 16)
      (fun hnone : d.size.1 * d.size.2 - d.px = 0 => absurd hnone (by omega))
    rwa [Nat.add_sub_cancel' hpx.le] at h
  dsimp only
  refine ⟨?_, fun hcopy => ?_⟩
  · split at hj <;> omega
  · simp only [State.bltCost_copy hcopy] at hend ⊢
    split <;> omega

/-- The requests of a burst of a descriptor that fits lie in its window. -/
theorem State.burstWrites_within (hfits : d.Fits) (hpx : d.px < d.size.1 * d.size.2) :
    ∀ w ∈ s.burstWrites d, writeWithin d.win.1 d.win.2 w := by
  refine joinRuns_within fun w hw => ?_
  obtain ⟨out, hout, hw⟩ := List.mem_filterMap.1 hw
  obtain ⟨x, hx, rfl⟩ := List.mem_map.1 hout
  obtain ⟨hpart, hne⟩ := Option.filter_eq_some_iff.1 hw
  obtain ⟨hpixel, hend⟩ := State.burstParts_within hpx x hx
  obtain ⟨hcol, hrow⟩ := BltCur.order_lt hpixel
  obtain ⟨hlow, hhigh⟩ := hfits _ _ hcol hrow
  exact (State.bltPart_within hpart (bne_iff_ne.1 hne) hend).mono hlow hhigh

/-- Writes between two addresses leave the bytes outside. -/
theorem State.foldl_dramWrite_byte {lo hi x : Nat} {ws : List (Nat × List Byte)} (h : ∀ w ∈ ws, writeWithin lo hi w) (hx : x < lo ∨ hi ≤ x) :
    (ws.foldl (fun s w => s.dramWrite w.1 w.2) s).byte x = s.byte x := by
  induction ws generalizing s with
  | nil => rfl
  | cons w ws ih =>
    obtain ⟨⟨hlow, hhigh⟩, hws⟩ := List.forall_mem_cons.1 h
    rw [List.foldl_cons, ih hws, State.dramWrite_byte_out _ _ (by omega)]

/-! ### A descriptor in hand (R291, R293) -/

/-- One descriptor goes on as another: its words, its window and its place in the ring stay, and its pixels move forward. -/
structure BltCur.GoesOn (d d' : BltCur) : Prop where
  words : d'.words = d.words
  held : d'.held = d.held
  checked : d'.checked = d.checked
  empty : d'.empty = d.empty
  win : d'.win = d.win
  desc : d'.desc = d.desc
  next : d'.next = d.next
  px : d.px ≤ d'.px

theorem BltCur.GoesOn.refl (d : BltCur) : d.GoesOn d := ⟨rfl, rfl, rfl, rfl, rfl, rfl, rfl, Nat.le_refl _⟩

theorem BltCur.GoesOn.trans {d'' : BltCur} (h : d.GoesOn d') (k : d'.GoesOn d'') : d.GoesOn d'' :=
  ⟨k.words.trans h.words, k.held.trans h.held, k.checked.trans h.checked, k.empty.trans h.empty, k.win.trans h.win, k.desc.trans h.desc,
    k.next.trans h.next, h.px.trans k.px⟩

theorem State.bltBurstRun_goesOn (s : State) (d : BltCur) : d.GoesOn (s.bltBurstRun d).2 := by
  rcases s.bltBurstRun_cases d with h | h <;> rw [h]
  · exact ⟨rfl, rfl, rfl, rfl, rfl, rfl, rfl, Nat.le_refl _⟩
  · exact ⟨rfl, rfl, rfl, rfl, rfl, rfl, rfl, s.le_bltAdvance d _ _ _ _⟩

/-- A descriptor with only its completion left moves nothing more. -/
theorem State.bltBursts_fin (k : Nat) (s : State) (hfin : d.fin = true) : State.bltBursts k s d = (s, d) := by
  cases k with
  | zero => rfl
  | succ k => exact if_pos hfin

theorem State.bltBursts_step (k : Nat) (s : State) (hopen : d.fin = false) :
    State.bltBursts (k + 1) s d = State.bltBursts k (s.bltBurstRun d).1 (s.bltBurstRun d).2 := by
  rw [State.bltBursts, hopen]
  rfl

theorem State.bltBursts_goesOn (k : Nat) (s : State) (d : BltCur) : d.GoesOn (State.bltBursts k s d).2 := by
  induction k generalizing s d with
  | zero => exact .refl d
  | succ k ih =>
    cases hfin : d.fin with
    | true => rw [State.bltBursts_fin _ _ hfin]; exact .refl d
    | false =>
      rw [State.bltBursts_step _ _ hfin]
      exact (s.bltBurstRun_goesOn d).trans (ih _ _)

/-- A descriptor that keeps to its window: its pixels fit, and while it is not over some are left. -/
def BltCur.Bounded (d : BltCur) : Prop := d.fin = false → d.Fits ∧ d.px < d.size.1 * d.size.2

/-- The rectangle is that of the words, so a descriptor that goes on fits as before. -/
theorem BltCur.Fits.advanced (h : d.Fits) (e : Nat × Nat) : (d.advanced e).Fits := h

theorem State.bltBurstRun_bounded (hbounded : d.Bounded) (hopen : d.fin = false) : (s.bltBurstRun d).2.Bounded := by
  rcases s.bltBurstRun_cases d with h | h <;> rw [h] <;> intro hfin
  · exact nomatch hfin
  · exact ⟨(hbounded hopen).1.advanced _, Nat.lt_of_not_le (of_decide_eq_false hfin)⟩

theorem State.bltBurstRun_byte (hbounded : d.Bounded) (hopen : d.fin = false) {x : Nat} (hx : x < d.win.1 ∨ d.win.2 ≤ x) :
    (s.bltBurstRun d).1.byte x = s.byte x := by
  obtain ⟨hfits, hpx⟩ := hbounded hopen
  rcases s.bltBurstRun_cases d with h | h <;> rw [h]
  rw [State.byte, State.burstDone_dram, ← State.byte, State.foldl_dramWrite_byte (State.burstWrites_within hfits hpx) hx]

/-- Bursts leave every byte outside the window. -/
theorem State.bltBursts_byte (k : Nat) (s : State) (hbounded : d.Bounded) {x : Nat} (hx : x < d.win.1 ∨ d.win.2 ≤ x) :
    (State.bltBursts k s d).1.byte x = s.byte x := by
  induction k generalizing s d with
  | zero => rfl
  | succ k ih =>
    cases hfin : d.fin with
    | true => rw [State.bltBursts_fin _ _ hfin]
    | false =>
      have hgoes := s.bltBurstRun_goesOn d
      rw [State.bltBursts_step _ _ hfin, ih _ (State.bltBurstRun_bounded hbounded hfin) (by rwa [hgoes.win]),
        State.bltBurstRun_byte hbounded hfin hx]

/-! ### COPY, FILL and GLYPH (R286, R291, R292) -/

/-- The descriptor once the checks of R292 have been made. -/
def BltCur.checkMade (d : BltCur) : BltCur :=
  if d.checked then d
  else { d with checked := true, code := d.check, empty := d.check = 0 && d.isEmpty, fin := d.check ≠ 0 || d.isEmpty }

theorem BltCur.checkMade_checked (h : d.checked = true) : d.checkMade = d := if_pos h

theorem BltCur.checkMade_new (h : d.checked = false) : d.checkMade =
    { d with checked := true, code := d.check, empty := d.check = 0 && d.isEmpty, fin := d.check ≠ 0 || d.isEmpty } := by
  rw [BltCur.checkMade, h]
  rfl

/-- `d` is in hand and runs for up to `k` bursts, and the status shows it RUNNING. -/
def State.bltGo (s : State) (k : Nat) (d : BltCur) : State :=
  ({ (State.bltBursts k s d.checkMade).1 with blt := { cur := some (State.bltBursts k s d.checkMade).2 } } : State).setFld Reg.bltStatus 1 0 1

theorem State.bltGo_cur (s : State) (k : Nat) (d : BltCur) : (s.bltGo k d).blt.cur = some (State.bltBursts k s d.checkMade).2 := rfl

theorem State.bltGo_dram (s : State) (k : Nat) (d : BltCur) : (s.bltGo k d).dram = (State.bltBursts k s d.checkMade).1.dram := rfl

theorem State.bltGo_byte (s : State) (k : Nat) (d : BltCur) (x : Nat) :
    (s.bltGo k d).byte x = (State.bltBursts k s d.checkMade).1.byte x := rfl

theorem State.bltGo_status (s : State) (k : Nat) (d : BltCur) : (s.bltGo k d).fld Reg.bltStatus 1 0 = 1 :=
  State.fld_setFld_same _ _ 1 0 1 (by decide) (by decide)

theorem State.bltReady_parts (h : s.bltReady = true) : s.domOn 19 = true ∧ s.blt.cur = none := by
  simp only [State.bltReady, Bool.and_eq_true, Option.isNone_iff_eq_none] at h
  obtain ⟨⟨⟨hon, -⟩, hidle⟩, -⟩ := h
  exact ⟨hon, hidle⟩

/-- A ready descriptor that is not held is taken by the command of its operation. -/
theorem State.bltRun_takes {op : Nat} (k : Nat) (hready : s.bltReady = true) (hfree : s.bltRead1.f 0 8 8 = 0)
    (hop : s.bltRead1.runBy op = true) : s.bltRun op k = s.bltGo k s.bltRead1 := by
  obtain ⟨hon, hidle⟩ := State.bltReady_parts hready
  unfold State.bltRun
  extract_lets go
  rw [hon, hidle, hready, hfree, hop]
  rfl

/-- The descriptor in hand goes on under the command of its operation. -/
theorem State.bltRun_goesOn {op : Nat} (k : Nat) (hon : s.domOn 19 = true) (hcur : s.blt.cur = some d) (hheld : d.held = false)
    (hopen : d.fin = false) (hop : d.runBy op = true) : s.bltRun op k = s.bltGo k d := by
  unfold State.bltRun
  extract_lets go
  rw [hon, hcur]
  dsimp only
  rw [hheld, hopen, hop]
  rfl

theorem exec_bltRun {op : Nat} (hop : op ≤ 2) (k t : Nat) (s : State) :
    exec (if op = 0 then .bltCopy k t else if op = 1 then .bltFill k t else .bltGlyph k t) s = .next (settle ((s.at t).bltRun op k)) := by
  obtain rfl | rfl | rfl : op = 0 ∨ op = 1 ∨ op = 2 := by omega
  all_goals rfl

/-- The descriptor at the head, as read, has not been checked, and starts at its first pixel. -/
theorem State.bltRead1_read {b : List Byte} (h : s.dramRead s.bltDesc 128 = some b) : s.bltRead1.checked = false ∧ s.bltRead1.px = 0 := by
  rw [State.bltRead1, h]
  exact ⟨rfl, rfl⟩

/-- Whatever it holds, its place and its window are those of the registers (R293, R296). -/
theorem State.bltRead1_place (s : State) : s.bltRead1.win = s.bltWindow ∧ s.bltRead1.desc = s.bltDesc ∧ s.bltRead1.next = s.bltNext := by
  unfold State.bltRead1
  extract_lets d
  split <;> exact ⟨rfl, rfl, rfl⟩

/-- A descriptor that has just been checked keeps to its window. -/
theorem BltCur.checkMade_bounded (hnew : d.checked = false) (hpx : d.px = 0) : d.checkMade.Bounded := by
  rw [BltCur.checkMade_new hnew]
  intro hopen
  obtain ⟨hcheck, hempty⟩ := Bool.or_eq_false_iff.1 hopen
  refine ⟨BltCur.fits_of_check (d := d) (not_not.1 (of_decide_eq_false hcheck)), ?_⟩
  rw [BltCur.isEmpty, Bool.or_eq_false_iff, beq_eq_false_iff_ne, beq_eq_false_iff_ne] at hempty
  show d.px < d.size.1 * d.size.2
  rw [hpx]
  exact Nat.mul_pos (Nat.pos_of_ne_zero hempty.1) (Nat.pos_of_ne_zero hempty.2)

/-- What the ring offers does not depend on the instant. -/
theorem State.bltReady_at (s : State) (t : Nat) : (s.at t).bltReady = s.bltReady := rfl
theorem State.bltDesc_at (s : State) (t : Nat) : (s.at t).bltDesc = s.bltDesc := rfl
theorem State.bltNext_at (s : State) (t : Nat) : (s.at t).bltNext = s.bltNext := rfl
theorem State.bltWindow_at (s : State) (t : Nat) : (s.at t).bltWindow = s.bltWindow := rfl

theorem State.dramRead_at (s : State) (t a n : Nat) : (s.at t).dramRead a n = s.dramRead a n :=
  State.dramRead_congr (s.at_dimms t) (congrFun (State.unitState_of_regs (s.at_regs t))) (s.at_dram t) (s.at_poison t) a n

theorem State.bltRead1_at (s : State) (t : Nat) : (s.at t).bltRead1 = s.bltRead1 := by
  simp only [State.bltRead1, State.bltDesc_at, State.bltNext_at, State.bltWindow_at, State.dramRead_at]

/-- What the taken descriptor shows. -/
theorem State.bltGo_taken (k : Nat) (hnew : d.checked = false) (hpx : d.px = 0) :
    ∃ d', (s.bltGo k d).blt.cur = some d' ∧ d'.words = d.words ∧ d'.win = d.win ∧ d'.desc = d.desc ∧ d'.next = d.next ∧
      d'.checked = true ∧
      (d.check ≠ 0 → d'.code = d.check ∧ d'.fin = true ∧ (s.bltGo k d).dram = s.dram) ∧
      (d.check = 0 → d.isEmpty = true → d'.empty = true ∧ d'.fin = true ∧ (s.bltGo k d).dram = s.dram) ∧
      ∀ x, x < d.win.1 ∨ d.win.2 ≤ x → (s.bltGo k d).byte x = s.byte x := by
  have hmade := BltCur.checkMade_new hnew
  have hbytes := fun x => State.bltBursts_byte k s (BltCur.checkMade_bounded hnew hpx) (x := x)
  obtain ⟨hwords, -, hchecked, -, hwin, hdesc, hnext, -⟩ := s.bltBursts_goesOn k d.checkMade
  have hover : d.checkMade.fin = true → State.bltBursts k s d.checkMade = (s, d.checkMade) := State.bltBursts_fin k s
  refine ⟨_, s.bltGo_cur k d, ?_⟩
  rw [State.bltGo_dram, hwords, hwin, hdesc, hnext, hchecked]
  simp only [State.bltGo_byte]
  rw [hmade] at hbytes hover ⊢
  refine ⟨rfl, rfl, rfl, rfl, rfl, fun hfails => ?_, fun hpasses hempty => ?_, hbytes⟩
  · have hfin : (decide (d.check ≠ 0) || d.isEmpty) = true := by rw [decide_eq_true hfails, Bool.true_or]
    rw [hover hfin]
    exact ⟨rfl, hfin, rfl⟩
  · have hfin : (decide (d.check ≠ 0) || d.isEmpty) = true := by rw [hempty, Bool.or_true]
    rw [hover hfin]
    exact ⟨by rw [hempty, decide_eq_true hpasses]; rfl, hfin, rfl⟩

end

/-- Settles O39: the checks keep every pixel of the rectangle in the window, and every part of every burst lies in its pixel. -/
theorem blitterWindow : Obligations.BlitterWindow := by
  unfold Obligations.BlitterWindow
  intro s op k t b hready hread hfree hrun hop
  obtain ⟨hnew, hpx⟩ := State.bltRead1_read hread
  obtain ⟨hwin, hdesc, hnext⟩ := s.bltRead1_place
  obtain ⟨d, hcur, hwords, hwin', hdesc', hnext', hchecked, hfails, hempty, hbytes⟩ := State.bltGo_taken (s := s.at t) k hnew hpx
  have htaken : (s.at t).bltRun op k = (s.at t).bltGo k s.bltRead1 := by
    rw [State.bltRun_takes k ((s.bltReady_at t).trans hready) ((s.bltRead1_at t).symm ▸ hfree) ((s.bltRead1_at t).symm ▸ hrun), State.bltRead1_at]
  refine ⟨_, d, exec_bltRun hop k t s, ?_⟩
  rw [htaken, settle_blt, settle_fld, settle_dram, State.bltGo_status]
  rw [hwin] at hwin' hbytes
  exact ⟨hcur, hwords, hwin', hdesc'.trans hdesc, hnext'.trans hnext, hchecked, rfl, hfails, hempty, fun a ha => (settle_byte _ a).trans (hbytes a ha)⟩

end Sys2Proof.Machine

/-! SUPPORT. The blitter's ring: accepted writes to its page, a descriptor held, released, over or cancelled, and O40 (R291, R293-R297). -/

namespace Sys2Proof.Machine

section
variable {s : State} {who : Requester} {a data i : Nat} {r : RegRow} {d : BltCur}

/-! ### Accepted writes to the BLT page (R295, R296) -/

/-- The page of the blitter. -/
def bltPage : PageDef := page 0xA 0 19 0xF rowsBlt

theorem pageOf_blt (h : a / 0x1000 = 0xA0) : pageOf a = some bltPage := by
  have hcode : a / 0x10000 = 0xA := by omega
  have hindex : a / 0x1000 % 16 = 0 := by omega
  rw [pageOf, if_pos (by omega), hcode, hindex]
  rfl

theorem rowsBlt_plain : ∀ r ∈ rowsBlt, ∀ f ∈ r.fields, f.kind ≠ .rws := by decide

theorem State.blockEffect_blt (s : State) (off old data : Nat) : s.blockEffect bltPage off old data = s.bltEffect off old data := by
  unfold State.blockEffect
  iterate 9 rw [if_neg (by decide)]
  exact if_pos rfl

theorem State.blockCheck_blt (s : State) (who : Requester) (off data : Nat) : s.blockCheck who bltPage off data = s.bltCheck off data := by
  unfold State.blockCheck
  iterate 10 rw [if_neg (by decide)]
  exact if_pos rfl

/-- An accepted write of a word of the page stores the word and starts what `bltEffect` says; no check fails, and no reserved bit is
set. -/
theorem State.writeWord_blt (ha : a / 0x1000 = 0xA0) (hoff : 0x40 ≤ a % 0x1000) (hrow : rowFor rowsBlt (a % 0x1000) = some (r, i))
    (hacc : s.accepts who a data) :
    r.laid = true ∧ Nat.land data r.reserved = 0 ∧ (∀ c ∈ s.bltCheck (a % 0x1000) data, c = 0) ∧
    s.writeWord who a 4 data = (s.rowStored a r data).bltEffect (a % 0x1000) (s.rd a) data := by
  have hpage := pageOf_blt ha
  obtain ⟨hlaid, hwrite⟩ := State.writeWord_onPage hpage (by omega) hoff hrow (rowsBlt_plain r (rowFor_mem hrow)) hacc
  obtain ⟨p, hreached, hcode⟩ := hacc
  have hmod : a % 0x400000 = a := Nat.mod_eq_of_lt (by omega)
  rw [hmod] at hreached hcode
  obtain rfl : p = bltPage := Option.some.inj ((State.reached_pageOf hreached).symm.trans hpage)
  have hcodes := (State.writeCode_zero hcode).2
  rw [if_neg (Nat.not_lt.2 hoff), State.wordCodes, show rowFor bltPage.rows (a % 0x1000) = some (r, i) from hrow] at hcodes
  refine ⟨hlaid, State.accepted_reserved hcode hoff hrow, fun c hc => hcodes c (List.mem_append_right _ ?_), ?_⟩
  · rwa [State.blockCheck_blt]
  · rw [hwrite, State.blockEffect_blt]
    exact State.certCheck_same _ _ (State.bltEffect_kept.secu.resolve_left (by decide))

/-- The row of BLT_RING_TAIL. -/
def bltRingTailRow : RegRow := row1 "BLT_RING_TAIL" 0x50 0 [fAny 11 0 .rw]
/-- The row of BLT_RELEASE. -/
def bltReleaseRow : RegRow := row1 "BLT_RELEASE" 0x5C 0 [fAny 0 0 .wo]
/-- The row of BLT_CTRL. -/
def bltCtrlRow : RegRow := row1 "BLT_CTRL" 0x40 0 [fAny 0 0 .rw]

theorem State.rowStored_blt (s : State) (a : Nat) (r : RegRow) (data : Nat) : (s.rowStored a r data).blt = s.blt := rfl

/-- Without a descriptor in hand a write starts nothing. -/
theorem State.bltEffect_idle (hidle : s.blt.cur = none) (off old data : Nat) : s.bltEffect off old data = s := by
  rw [State.bltEffect, hidle]

/-- Nor does a write of the tail. -/
theorem State.bltEffect_tail (s : State) (old data : Nat) : s.bltEffect 0x50 old data = s := by
  unfold State.bltEffect
  split
  · rw [if_neg fun h => absurd h.1 (by decide), if_neg fun h => absurd h.1 (by decide)]
  · rfl

/-- The tail is stored as it is written (R291). -/
theorem State.writeWord_bltRingTail {data : Word} (hacc : s.accepts who Reg.bltRingTail data.toNat) :
    s.writeWord who Reg.bltRingTail 4 data.toNat = s.wr Reg.bltRingTail data.toNat := by
  obtain ⟨hlaid, hres, -, hwrite⟩ := State.writeWord_blt (r := bltRingTailRow) (i := 0) rfl (by decide) rfl hacc
  rw [hwrite, show Reg.bltRingTail % 0x1000 = 0x50 from rfl, State.bltEffect_tail, State.rowStored,
    RegRow.stored_rw hlaid (by decide) hres data.isLt]

/-! ### Release, and EN cleared (R293, R294) -/

/-- A held descriptor is released: it is shown RUNNING and counted. -/
def State.bltReleased (s : State) (d : BltCur) : State :=
  (({ s with blt := { cur := some { d with held := false } } } : State).setFld Reg.bltStatus 1 0 1).add (Reg.bltStat 3) 1

theorem State.bltReleased_cur (s : State) (d : BltCur) : (s.bltReleased d).blt.cur = some { d with held := false } := rfl

theorem State.bltReleased_shown (s : State) (d : BltCur) : (s.bltReleased d).fld Reg.bltStatus 1 0 = 1 ∧
    (s.bltReleased d).rd (Reg.bltStat 3) = (s.rd (Reg.bltStat 3) + 1) % 2 ^ 32 := by
  refine ⟨?_, ?_⟩
  · rw [State.fld, State.bltReleased, State.rd_add_ne _ _ (by decide)]
    exact State.fld_setFld_same _ _ 1 0 1 (by decide) (by decide)
  · rw [State.bltReleased, State.rd_add_same, State.rd_setFld_ne _ _ _ _ (by decide)]
    rfl

/-- A release is accepted only where a descriptor is held, and releases it. -/
theorem State.writeWord_bltRelease (hacc : s.accepts who Reg.bltRelease data) (hgo : bitOf data 0 = true) (hcur : s.blt.cur = some d) :
    d.held = true ∧ s.writeWord who Reg.bltRelease 4 data = (s.rowStored Reg.bltRelease bltReleaseRow data).bltReleased d := by
  obtain ⟨-, -, hcheck, hwrite⟩ := State.writeWord_blt (r := bltReleaseRow) (i := 0) rfl (by decide) rfl hacc
  refine ⟨?_, ?_⟩
  · by_contra hfree
    have hrejected : 0xF ∈ s.bltCheck (Reg.bltRelease % 0x1000) data := by
      rw [State.bltCheck, if_neg (by decide), if_neg (by decide), if_pos (by decide), hcur]
      exact mem_codeIf (by simp [hgo, hfree])
    exact absurd (hcheck _ hrejected) (by decide)
  · rw [hwrite, State.bltEffect, State.rowStored_blt, hcur]
    exact if_pos ⟨rfl, hgo⟩

/-- The descriptor in hand is cancelled: only its end is left. -/
def State.bltCancelled (s : State) (d : BltCur) : State :=
  { s with blt := { cur := some { d with held := false, code := 0xA05, fin := true } } }

theorem State.bltCancelled_cur (s : State) (d : BltCur) :
    (s.bltCancelled d).blt.cur = some { d with held := false, code := 0xA05, fin := true } := rfl

theorem State.bltCancelled_flag (s : State) (d : BltCur) (x j : Nat) : (s.bltCancelled d).flag x j = s.flag x j := rfl

/-- EN reads as written; written from 1 to 0 it cancels a descriptor that is not over. -/
theorem State.writeWord_bltCtrl_off (hacc : s.accepts who Reg.bltCtrl data) (hoff : bitOf data 0 = false) :
    (s.rowStored Reg.bltCtrl bltCtrlRow data).flag Reg.bltCtrl 0 = false ∧
    (s.blt.cur = none → s.writeWord who Reg.bltCtrl 4 data = s.rowStored Reg.bltCtrl bltCtrlRow data) ∧
    (s.blt.cur = some d → s.flag Reg.bltCtrl 0 = true → d.fin = false →
      s.writeWord who Reg.bltCtrl 4 data = (s.rowStored Reg.bltCtrl bltCtrlRow data).bltCancelled d) := by
  obtain ⟨hlaid, -, -, hwrite⟩ := State.writeWord_blt (r := bltCtrlRow) (i := 0) rfl (by decide) rfl hacc
  refine ⟨(State.rowStored_en hlaid (by decide)).trans hoff, fun hidle => ?_, fun hcur hon hopen => ?_⟩
  · rw [hwrite, State.bltEffect_idle (s := s.rowStored Reg.bltCtrl bltCtrlRow data) hidle]
  · rw [hwrite, State.bltEffect, State.rowStored_blt, hcur]
    dsimp only
    rw [if_neg fun h => absurd h.1 (by decide), if_pos ⟨rfl, hon, by rw [hoff]; rfl⟩, if_neg (by rw [hopen]; decide)]
    rfl

/-! ### HOLD (R294) -/

/-- A descriptor stops before its work, with its event. -/
def State.bltHeldAt (s : State) (d : BltCur) : State :=
  (({ s with blt := { cur := some { d with held := true } } } : State).setFld Reg.bltStatus 1 0 2).raise 0xA0000 2

theorem State.bltHold_ready (hready : s.bltReady = true) (hhold : s.bltRead1.f 0 8 8 = 1) : s.bltHold = s.bltHeldAt s.bltRead1 :=
  if_pos (by rw [hready, hhold]; rfl)

theorem State.bltHeldAt_cur (s : State) (d : BltCur) : (s.bltHeldAt d).blt.cur = some { d with held := true } := by
  rw [State.bltHeldAt, State.raise_blt, State.setFld_blt]

theorem State.bltHeldAt_shown (s : State) (d : BltCur) :
    (s.bltHeldAt d).fld Reg.bltStatus 1 0 = 2 ∧ (s.bltHeldAt d).flag 0xA0010 2 = true := by
  refine ⟨?_, State.flag_raise_same _ 0xA0000 2 (by decide)⟩
  rw [State.fld, State.bltHeldAt, State.rd_raise_ne _ _ (by decide)]
  exact State.fld_setFld_same _ _ 1 0 2 (by decide) (by decide)

/-! ### The end of a descriptor (R293, R297) -/

/-- Its STATUS and, where it asks for one in its window, its completion word are in memory. -/
def State.bltWritten (s : State) (d : BltCur) : State :=
  if d.f 0 12 12 = 1 ∧ d.w64 19 % 4 = 0 ∧ d.inWindow (d.w64 19) (d.w64 19 + 4) then
    (s.dramWrite (d.desc + 4) (leBytes 4 ((if d.empty then 1 else 0) + d.code * 65536))).dramWrite (d.w64 19) (leBytes 4 (d.words.getD 21 0))
  else s.dramWrite (d.desc + 4) (leBytes 4 ((if d.empty then 1 else 0) + d.code * 65536))

/-- It is counted, by its outcome. -/
def State.bltCounted (s : State) (d : BltCur) : State :=
  ((s.add (Reg.bltStat 0) 1).add (Reg.bltStat 1) (if d.code = 0 then 0 else 1)).add (Reg.bltStat 2) (if d.empty then 1 else 0)

/-- It leaves the ring: the head is behind it, and the status shows its outcome. -/
def State.bltLeft (s : State) (d : BltCur) : State :=
  (({ s with blt := { cur := none } } : State).wr Reg.bltRingHead d.next).wr Reg.bltStatus (d.code * 65536)

/-- BLT_DONE where it asks for it, and BLT_ERROR where it failed. -/
def State.bltTold (s : State) (d : BltCur) : State :=
  if d.code = 0 then (if d.f 0 9 9 = 1 then s.raise 0xA0000 0 else s)
  else (if d.f 0 9 9 = 1 then s.raise 0xA0000 0 else s).raise 0xA0000 1

/-- BLT_RING_EMPTY where the head has reached the tail. -/
def State.bltEmptied (s : State) (d : BltCur) : State :=
  if d.next = s.fld Reg.bltRingTail 11 0 then s.raise 0xA0000 3 else s

theorem State.bltDone_over (hcur : s.blt.cur = some d) (hfin : d.fin = true) (hon : s.domOn 19 = true) :
    s.bltDone = ((((s.bltWritten d).bltCounted d).bltLeft d).bltTold d).bltEmptied d := by
  rw [State.bltDone, hcur]
  exact if_pos (by rw [hfin, hon]; rfl)

theorem State.bltWritten_rd (s : State) (d : BltCur) (x : Nat) : (s.bltWritten d).rd x = s.rd x := by
  unfold State.bltWritten
  split
  · rw [State.dramWrite_rd, State.dramWrite_rd]
  · rw [State.dramWrite_rd]

theorem State.bltCounted_total (s : State) (d : BltCur) :
    (s.bltCounted d).rd (Reg.bltStat 0) = (s.rd (Reg.bltStat 0) + 1) % 2 ^ 32 := by
  rw [State.bltCounted, State.rd_add_ne _ _ (by decide), State.rd_add_ne _ _ (by decide), State.rd_add_same]

theorem State.bltLeft_shown (s : State) (d : BltCur) : (s.bltLeft d).rd Reg.bltStatus = d.code * 65536 % 2 ^ 32 ∧
    (s.bltLeft d).rd Reg.bltRingHead = d.next % 2 ^ 32 ∧ (s.bltLeft d).rd (Reg.bltStat 0) = s.rd (Reg.bltStat 0) := by
  refine ⟨State.rd_wr_same _ _ _, ?_, ?_⟩
  · rw [State.bltLeft, State.rd_wr_ne _ _ (by decide), State.rd_wr_same]
  · rw [State.bltLeft, State.rd_wr_ne _ _ (by decide), State.rd_wr_ne _ _ (by decide)]
    rfl

/-- The events change no other word, and no descriptor. -/
theorem State.bltTold_rd (s : State) (d : BltCur) {x : Nat} (hx : x ≠ 0xA0010) : (s.bltTold d).rd x = s.rd x := by
  have hdone : (if d.f 0 9 9 = 1 then s.raise 0xA0000 0 else s).rd x = s.rd x := by
    split
    · exact State.rd_raise_ne _ _ hx
    · rfl
  unfold State.bltTold
  split
  · exact hdone
  · exact (State.rd_raise_ne _ _ hx).trans hdone

theorem State.bltEmptied_rd (s : State) (d : BltCur) {x : Nat} (hx : x ≠ 0xA0010) : (s.bltEmptied d).rd x = s.rd x := by
  unfold State.bltEmptied
  split
  · exact State.rd_raise_ne _ _ hx
  · rfl

theorem State.bltTold_blt (s : State) (d : BltCur) : (s.bltTold d).blt = s.blt := by
  unfold State.bltTold
  split <;> split <;> rfl

theorem State.bltEmptied_blt (s : State) (d : BltCur) : (s.bltEmptied d).blt = s.blt := by
  unfold State.bltEmptied
  split <;> rfl

theorem State.bltTold_events (s : State) (d : BltCur) :
    (d.f 0 9 9 = 1 → (s.bltTold d).flag 0xA0010 0 = true) ∧ (d.code ≠ 0 → (s.bltTold d).flag 0xA0010 1 = true) := by
  refine ⟨fun hasked => ?_, fun hfailed => ?_⟩
  · have hdone : (s.raise 0xA0000 0).flag 0xA0010 0 = true := State.flag_raise_same s 0xA0000 0 (by decide)
    rw [State.bltTold, if_pos hasked]
    split
    · exact hdone
    · exact State.flag_raise_of_flag (b := 0xA0000) 1 (by decide) hdone
  · rw [State.bltTold, if_neg hfailed]
    exact State.flag_raise_same _ 0xA0000 1 (by decide)

/-- An event raised before stays. -/
theorem State.bltEmptied_flag (d : BltCur) {j : Nat} (h : s.flag 0xA0010 j = true) : (s.bltEmptied d).flag 0xA0010 j = true := by
  unfold State.bltEmptied
  split
  · exact State.flag_raise_of_flag (b := 0xA0000) 3 (by decide) h
  · exact h

/-- What the end of a descriptor shows. -/
theorem State.bltDone_shown (hcur : s.blt.cur = some d) (hfin : d.fin = true) (hon : s.domOn 19 = true) :
    s.bltDone.blt.cur = none ∧ s.bltDone.rd Reg.bltStatus = d.code * 65536 % 2 ^ 32 ∧ s.bltDone.rd Reg.bltRingHead = d.next % 2 ^ 32 ∧
    s.bltDone.rd (Reg.bltStat 0) = (s.rd (Reg.bltStat 0) + 1) % 2 ^ 32 ∧ (d.f 0 9 9 = 1 → s.bltDone.flag 0xA0010 0 = true) ∧
    (d.code ≠ 0 → s.bltDone.flag 0xA0010 1 = true) := by
  obtain ⟨hstatus, hhead, htotal⟩ := ((s.bltWritten d).bltCounted d).bltLeft_shown d
  obtain ⟨hdone, herror⟩ := (((s.bltWritten d).bltCounted d).bltLeft d).bltTold_events d
  rw [State.bltDone_over hcur hfin hon]
  refine ⟨?_, ?_, ?_, ?_, fun hasked => State.bltEmptied_flag d (hdone hasked), fun hfailed => State.bltEmptied_flag d (herror hfailed)⟩
  · rw [State.bltEmptied_blt, State.bltTold_blt]
    rfl
  · rw [State.bltEmptied_rd _ _ (by decide), State.bltTold_rd _ _ (by decide), hstatus]
  · rw [State.bltEmptied_rd _ _ (by decide), State.bltTold_rd _ _ (by decide), hhead]
  · rw [State.bltEmptied_rd _ _ (by decide), State.bltTold_rd _ _ (by decide), htotal, State.bltCounted_total, State.bltWritten_rd]

/-- The command of its OP runs a descriptor. -/
theorem BltCur.runBy_op (d : BltCur) : d.runBy d.op = true := by
  unfold BltCur.runBy
  split
  case isTrue hcopy => rw [hcopy]; rfl
  case isFalse => exact beq_self_eq_true _

end

/-- Settles O40: an accepted write stores its word and acts on the descriptor in hand, and the end of a descriptor is its writes, its
counts, its place in the ring and its events. -/
theorem blitterRing : Obligations.BlitterRing := by
  unfold Obligations.BlitterRing
  intro s who data k t
  refine ⟨fun hacc => ?_, fun hready hhold => ?_, fun d hcur => ⟨fun hacc => ?_, fun hon hheld hopen hchecked hop => ?_, fun hon hfin => ?_,
    fun hacc hon hopen => ?_⟩, fun hacc hidle => ?_⟩
  · refine ⟨_, congrArg finish (State.writeWord_bltRingTail hacc), ?_, ?_, ?_⟩
    · rw [settle_rd, State.rd_wr_same, Nat.mod_eq_of_lt data.isLt]
    · rw [settle_blt, State.wr_blt]
    · exact State.wordsBut_settle (State.wordsBut_wr (State.wordsBut_refl _ _) (List.mem_singleton_self _))
  · obtain ⟨hstatus, hevent⟩ := s.bltHeldAt_shown s.bltRead1
    refine ⟨_, congrArg finish (State.bltHold_ready hready hhold), ?_⟩
    rw [settle_blt, settle_fld, settle_flag, State.bltHeldAt_cur]
    exact ⟨rfl, hstatus, hevent⟩
  · obtain ⟨hheld, hwrite⟩ := State.writeWord_bltRelease hacc (bitOf_putBits_one _ _) hcur
    obtain ⟨hstatus, hcount⟩ := (s.rowStored Reg.bltRelease bltReleaseRow (putBits data.toNat 0 0 1)).bltReleased_shown d
    rw [State.rowStored_rd _ _ _ _ (by decide)] at hcount
    refine ⟨_, congrArg finish hwrite, ?_⟩
    rw [settle_blt, settle_fld, settle_rd, State.bltReleased_cur]
    exact ⟨hheld, rfl, hstatus, hcount⟩
  · obtain ⟨hwords, hheld', -, -, hwin, -, -, hpx⟩ := (s.at t).bltBursts_goesOn k d
    have hrun := State.bltRun_goesOn (s := s.at t) k hon hcur hheld hopen d.runBy_op
    refine ⟨_, (State.bltBursts k (s.at t) d).2, exec_bltRun (Nat.le_of_lt_succ hop) k t s, ?_⟩
    rw [hrun, settle_blt, State.bltGo_cur, BltCur.checkMade_checked hchecked]
    exact ⟨rfl, hwords, hheld'.trans hheld, hwin, hpx⟩
  · obtain ⟨hcur', hstatus, hhead, hcount, hdone, herror⟩ := State.bltDone_shown hcur hfin hon
    refine ⟨_, rfl, ?_⟩
    rw [settle_blt, settle_rd, settle_rd, settle_rd, settle_flag, settle_flag]
    exact ⟨hcur', hstatus, hhead, hcount, hdone, herror⟩
  · obtain ⟨hflag, -, hcancel⟩ := State.writeWord_bltCtrl_off (d := d) hacc (bitOf_putBits_zero _ _)
    refine ⟨_, congrArg finish (hcancel hcur hon hopen), ?_⟩
    rw [settle_flag, settle_blt, State.bltCancelled_flag, State.bltCancelled_cur]
    exact ⟨hflag, rfl⟩
  · obtain ⟨hflag, hstore, -⟩ := State.writeWord_bltCtrl_off (d := s.bltRead1) hacc (bitOf_putBits_zero _ _)
    refine ⟨_, congrArg finish (hstore hidle), ?_⟩
    rw [settle_flag, settle_blt, State.rowStored_blt]
    exact ⟨hflag, rfl⟩

end Sys2Proof.Machine

/-! SUPPORT. Every command by its constructor, and what holds of the block as a whole, with O1 to O6 (R40, R53, R75). -/

namespace Sys2Proof.Machine

/-! ### Every command -/

/-- More parts may be allowed to change than do. -/
theorem Runs.mono {F G : Nat} {s : State} {o : Host.Outcome State Fault Refusal} (k : Runs G s o) (sub : F ||| G = F) : Runs F s o := by
  obtain ⟨t, e, k, v⟩ := k
  exact ⟨t, e, k.mono sub, v⟩

/-- A command that is a register write touches what the address allows. -/
theorem runs_writeWord {s : State} {who : Requester} {addr size data : Nat} :
    Runs (maskOf (writeParts addr)) s (finish (s.writeWord who addr size data)) := Runs.finish State.writeWord_parts

/-- Every command completes, changes only the parts it may touch, and leaves every vector answered. -/
theorem exec_runs (s : State) (c : Instr) : Runs (maskOf (touches c)) s (exec c s) := by
  cases c <;> dsimp only [touches]
  case registerWrite => exact execRegisterWrite_kept.mono rfl
  case irqForce => exact runs_writeWord
  case commitReq => exact runs_writeWord
  case commitCancel => exact runs_writeWord
  case commitTakeEffect => exact execCommitTakeEffect_kept.mono rfl
  case gcommitReq => exact runs_writeWord
  case gcommitCancel => exact runs_writeWord
  case devIntcEoi => exact runs_writeWord
  case devIntcMaskWrite => exact runs_writeWord
  case devIntcRouteWrite => exact runs_writeWord
  case lineStart => exact execLineStart_kept.mono rfl
  case rasFrameDone => exact execRasFrameDone_kept.mono rfl
  case latch => exact execLatch_kept.mono rfl
  case rasFrameRead => exact execRasFrameRead_kept.mono rfl
  case transitionFadeOut => exact execTransitionFadeOut_kept.mono rfl
  case transitionLensPark => exact execTransitionLensPark_kept.mono rfl
  case transitionDischarge => exact execTransitionDischarge_kept.mono rfl
  case transitionRetime => exact execTransitionRetime_kept.mono rfl
  case transitionReacquireEnd => exact execTransitionReacquireEnd_kept.mono rfl
  case transitionFadeIn => exact execTransitionFadeIn_kept.mono rfl
  case rasTransitionDone => exact execRasTransitionDone_kept.mono rfl
  case caravanArm => exact runs_writeWord
  case caravanDisarm => exact runs_writeWord
  case crvNotify => exact execCrvNotify_kept.mono rfl
  case crvWrite => exact execCrvWrite_kept.mono rfl
  case pinSet => exact execPinSet_kept.mono rfl
  case pinPulse => exact execPinPulse_kept.mono rfl
  case pinPulseEnd => exact execPinPulseEnd_kept.mono rfl
  case timestamp => exact execTimestamp_kept.mono rfl
  case scnEnable => exact runs_writeWord
  case scnDisable => exact runs_writeWord
  case scnStoreRelease => exact execScnStoreRelease_kept.mono rfl
  case scnQueryGo => exact runs_writeWord
  case scnQueryDone => exact execScnQueryDone_kept.mono rfl
  case stagingOpen => exact execStagingOpen_kept.mono rfl
  case stagingChangeResume => exact execStagingChangeResume_kept.mono rfl
  case windowFill => exact execWindowFill_kept.mono rfl
  case datagramReceive => exact execDatagramReceive_kept.mono rfl
  case datagramApply => exact execDatagramApply_kept.mono rfl
  case keyAccept => exact execKeyAccept_kept.mono rfl
  case definePlane => exact execDefinePlane_kept.mono rfl
  case alterPlane => exact execAlterPlane_kept.mono rfl
  case writeBlock => exact execWriteBlock_kept.mono rfl
  case copyRegion => exact execCopyRegion_kept.mono rfl
  case fillRegion => exact execFillRegion_kept.mono rfl
  case glyphRun => exact execGlyphRun_kept.mono rfl
  case setDepth => exact execSetDepth_kept.mono rfl
  case commitFrame => exact execCommitFrame_kept.mono rfl
  case nackSend => exact execNackSend_kept.mono rfl
  case gapTimeout => exact execGapTimeout_kept.mono rfl
  case reportSend => exact execReportSend_kept.mono rfl
  case injectGo => exact runs_writeWord
  case ingInjectDone => exact execIngInjectDone_kept.mono rfl
  case ingEnable => exact runs_writeWord
  case ingDisable => exact runs_writeWord
  case sessionEnable => exact runs_writeWord
  case sessionClose => exact runs_writeWord
  case mbcRingTail => exact runs_writeWord
  case mbcDecodeJob => exact execMbcDecodeJob_kept.mono rfl
  case mbcEncodeJob => exact execMbcEncodeJob_kept.mono rfl
  case mbcVerifyJob => exact execMbcVerifyJob_kept.mono rfl
  case mbcJobDone => exact execMbcJobDone_kept.mono rfl
  case mbcStopped => exact execMbcStopped_kept.mono rfl
  case mbcResumeOut => exact runs_writeWord
  case mbcResumeIn => exact runs_writeWord
  case mbcCancel => exact runs_writeWord
  case mbcDisable => exact runs_writeWord
  case synGridLoadGo => exact runs_writeWord
  case synGridLoaded => exact execSynGridLoaded_kept.mono rfl
  case planningStart => exact execPlanningStart_kept.mono rfl
  case plcCostmapDone => exact execPlcCostmapDone_kept.mono rfl
  case clusterClaim => exact execClusterClaim_kept.mono rfl
  case tileStart => exact execTileStart_kept.mono rfl
  case tileSteal => exact execTileSteal_kept.mono rfl
  case revokeArrive => exact execRevokeArrive_kept.mono rfl
  case rayResultAdmit => exact execRayResultAdmit_kept.mono rfl
  case residueFailure => exact execResidueFailure_kept.mono rfl
  case windowEccError => exact execWindowEccError_kept.mono rfl
  case sliceLost => exact execSliceLost_kept.mono rfl
  case oasisUnitWrite => exact execOasisUnitWrite_kept.mono rfl
  case oasisCtrlWrite => exact runs_writeWord
  case brcLutLoadGo => exact runs_writeWord
  case brcLutLoaded => exact execBrcLutLoaded_kept.mono rfl
  case snapGo => exact runs_writeWord
  case brcSnapDone => exact execBrcSnapDone_kept.mono rfl
  case plcHintGo => exact runs_writeWord
  case plcCostmapGo => exact runs_writeWord
  case unitMigrate => exact execUnitMigrate_kept.mono rfl
  case plcEvacDone => exact execPlcEvacDone_kept.mono rfl
  case cacheReadahead => exact execCacheReadahead_kept.mono rfl
  case barchanRestart => exact execBarchanRestart_kept.mono rfl
  case lyrDoneWrite => exact runs_writeWord
  case lyrFaultDrop => exact execLyrFaultDrop_kept.mono rfl
  case bltRingTail => exact runs_writeWord
  case bltCopy => exact execBltCopy_kept.mono rfl
  case bltFill => exact execBltFill_kept.mono rfl
  case bltGlyph => exact execBltGlyph_kept.mono rfl
  case bltHeld => exact execBltHeld_kept.mono rfl
  case bltRelease => exact runs_writeWord
  case bltDone => exact execBltDone_kept.mono rfl
  case bltDisable => exact runs_writeWord
  case pnlRwGo => exact runs_writeWord
  case pnlOdLoadGo => exact runs_writeWord
  case pnlOdLoaded => exact execPnlOdLoaded_kept.mono rfl
  case lensZeroField => exact execLensZeroField_kept.mono rfl
  case panelUp => exact runs_writeWord
  case panelRailOn => exact execPanelRailOn_kept.mono rfl
  case panelClearingEnd => exact execPanelClearingEnd_kept.mono rfl
  case panelDown => exact runs_writeWord
  case panelRailOff => exact execPanelRailOff_kept.mono rfl
  case pnlPowerDone => exact execPnlPowerDone_kept.mono rfl
  case dischargeTrigger => exact runs_writeWord
  case dischargeHoldExpire => exact execDischargeHoldExpire_kept.mono rfl
  case dischargeEnd => exact execDischargeEnd_kept.mono rfl
  case bklSlot => exact execBklSlot_kept.mono rfl
  case bklFadeGo => exact runs_writeWord
  case bklFadeDone => exact execBklFadeDone_kept.mono rfl
  case wpCycle => exact execWpCycle_kept.mono rfl
  case frameReceive => exact execFrameReceive_kept.mono rfl
  case npxFragTimeout => exact execNpxFragTimeout_kept.mono rfl
  case linkDown => exact execLinkDown_kept.mono rfl
  case linkUp => exact execLinkUp_kept.mono rfl
  case transmissionOpportunity => exact execTransmissionOpportunity_kept.mono rfl
  case npxHtxTail => exact runs_writeWord
  case npxHrxTail => exact runs_writeWord
  case gclGo => exact runs_writeWord
  case gclCancel => exact runs_writeWord
  case npxGclSwitch => exact execNpxGclSwitch_kept.mono rfl
  case heartbeat => exact execHeartbeat_kept.mono rfl
  case heartbeatLoss => exact execHeartbeatLoss_kept.mono rfl
  case grantRelease => exact execGrantRelease_kept.mono rfl
  case grant => exact execGrant_kept.mono rfl
  case snapshotSend => exact execSnapshotSend_kept.mono rfl
  case snapshotReceive => exact execSnapshotReceive_kept.mono rfl
  case fovStale => exact execFovStale_kept.mono rfl
  case stateRestore => exact execStateRestore_kept.mono rfl
  case fovCold => exact execFovCold_kept.mono rfl
  case fovSwitch => exact runs_writeWord
  case ilkForce => exact execIlkForce_kept.mono rfl
  case ptpSync => exact execPtpSync_kept.mono rfl
  case followUp => exact execFollowUp_kept.mono rfl
  case delayReq => exact execDelayReq_kept.mono rfl
  case delayResp => exact execDelayResp_kept.mono rfl
  case ptpAnnounce => exact execPtpAnnounce_kept.mono rfl
  case ptpTimeout => exact execPtpTimeout_kept.mono rfl
  case timNowRead => exact execTimNowRead_kept.mono rfl
  case dramRead => exact execDramRead_kept.mono rfl
  case dramWrite => exact execDramWrite_kept.mono rfl
  case trefi => exact execTrefi_kept.mono rfl
  case hardBoundary => exact execHardBoundary_kept.mono rfl
  case softBoundary => exact execSoftBoundary_kept.mono rfl
  case dmcCaParity => exact execDmcCaParity_kept.mono rfl
  case scrubRead => exact execScrubRead_kept.mono rfl
  case dramTraining => exact execDramTraining_kept.mono rfl
  case dqsDriftCheck => exact execDqsDriftCheck_kept.mono rfl
  case dmcRestore => exact runs_writeWord
  case dimmPwr => exact runs_writeWord
  case driveInsert => exact execDriveInsert_kept.mono rfl
  case driveSurpriseRemove => exact execDriveSurpriseRemove_kept.mono rfl
  case nvmeCommandTimeout => exact execNvmeCommandTimeout_kept.mono rfl
  case driveInit => exact runs_writeWord
  case segmentWrite => exact runs_writeWord
  case segmentQuery => exact runs_writeWord
  case segmentDelete => exact runs_writeWord
  case playbackGo => exact runs_writeWord
  case playbackStop => exact runs_writeWord
  case playbackDeliver => exact execPlaybackDeliver_kept.mono rfl
  case nvsPbDone => exact execNvsPbDone_kept.mono rfl
  case nvsPbLost => exact execNvsPbLost_kept.mono rfl
  case nvsFallback => exact execNvsFallback_kept.mono rfl
  case nvsFallbackEnd => exact execNvsFallbackEnd_kept.mono rfl
  case laneEnable => exact execLaneEnable_kept.mono rfl
  case lnkLaneReady => exact execLnkLaneReady_kept.mono rfl
  case lnkLaneFault => exact execLnkLaneFault_kept.mono rfl
  case laneRetry => exact execLaneRetry_kept.mono rfl
  case laneRestart => exact runs_writeWord
  case scanGo => exact runs_writeWord
  case lnkScanDone => exact execLnkScanDone_kept.mono rfl
  case eqSlewStep => exact execEqSlewStep_kept.mono rfl
  case marigoldRestart => exact execMarigoldRestart_kept.mono rfl
  case mbStatus => exact execMbStatus_kept.mono rfl
  case mbLogRead => exact execMbLogRead_kept.mono rfl
  case mbPrivWrite => exact execMbPrivWrite_kept.mono rfl
  case mbDomain => exact execMbDomain_kept.mono rfl
  case domainUp => exact execDomainUp_kept.mono rfl
  case mbCalCapture => exact execMbCalCapture_kept.mono rfl
  case mbUpdateBegin => exact execMbUpdateBegin_kept.mono rfl
  case mbUpdateBlock => exact execMbUpdateBlock_kept.mono rfl
  case mbUpdateEnd => exact execMbUpdateEnd_kept.mono rfl
  case mbActivate => exact execMbActivate_kept.mono rfl
  case mbCommit => exact execMbCommit_kept.mono rfl
  case mbAttest => exact execMbAttest_kept.mono rfl
  case mbIdentity => exact execMbIdentity_kept.mono rfl
  case mbKeyLoad => exact execMbKeyLoad_kept.mono rfl
  case mbKeyClear => exact execMbKeyClear_kept.mono rfl
  case mbOwnerEnrol => exact execMbOwnerEnrol_kept.mono rfl
  case mbOwnerRevoke => exact execMbOwnerRevoke_kept.mono rfl
  case mbLifecycle => exact execMbLifecycle_kept.mono rfl
  case mbTestUnlock => exact execMbTestUnlock_kept.mono rfl
  case mgtCpxRestart => exact runs_writeWord
  case cpxWatchdogExpire => exact execCpxWatchdogExpire_kept.mono rfl
  case mgtCpxKick => exact runs_writeWord
  case housekeepingRound => exact execHousekeepingRound_kept.mono rfl
  case throttleGraceExpire => exact execThrottleGraceExpire_kept.mono rfl
  case throttleHoldExpire => exact execThrottleHoldExpire_kept.mono rfl
  case thmSensClr => exact runs_writeWord
  case pwrBrace => exact execPwrBrace_kept.mono rfl
  case pwrNormal => exact execPwrNormal_kept.mono rfl
  case pwrFail => exact execPwrFail_kept.mono rfl
  case restartAfterStop => exact execRestartAfterStop_kept.mono rfl
  case holdupMeasure => exact execHoldupMeasure_kept.mono rfl
  case pwrHoldMeasured => exact execPwrHoldMeasured_kept.mono rfl
  case holdupMeasureTimeout => exact execHoldupMeasureTimeout_kept.mono rfl
  case regulatorOn => exact execRegulatorOn_kept.mono rfl
  case unitFence => exact runs_writeWord
  case unitUnfence => exact runs_writeWord
  case unitTest => exact runs_writeWord
  case fencingDrained => exact execFencingDrained_kept.mono rfl
  case svcTestDone => exact execSvcTestDone_kept.mono rfl
  case logAppend => exact execLogAppend_kept.mono rfl
  case svcLogLost => exact execSvcLogLost_kept.mono rfl
  case porstAssert => exact execPorstAssert_kept.mono rfl
  case resetRelease => exact execResetRelease_kept.mono rfl
  case recoveryGo => exact runs_writeWord
  case rcvResetPtr => exact runs_writeWord
  case secRcvData => exact runs_writeWord
  case secKatGo => exact runs_writeWord
  case cpxImageRelease => exact execCpxImageRelease_kept.mono rfl
  case startUp => exact execStartUp_kept.mono rfl
  case shdnReq => exact execShdnReq_kept.mono rfl
  case shutdownBist => exact execShutdownBist_kept.mono rfl
  case shutdownComplete => exact execShutdownComplete_kept.mono rfl
  case hepPerstN => exact execHepPerstN_kept.mono rfl
  case shdnReqNRelease => exact execShdnReqNRelease_kept.mono rfl
  case corePowerOnReset => exact execCorePowerOnReset_kept.mono rfl
  case marigoldReady => exact execMarigoldReady_kept.mono rfl
  case nvsSegwDone => exact execNvsSegwDone_kept.mono rfl
  case nvsSegopDone => exact execNvsSegopDone_kept.mono rfl
  case dieToDieDown => exact execDieToDieDown_kept.mono rfl
  case dieToDieUp => exact execDieToDieUp_kept.mono rfl
  case nocDomainLost => exact execNocDomainLost_kept.mono rfl
  case secKatDone => exact execSecKatDone_kept.mono rfl

/-! ### The block as a whole -/

/-- Settles O1: a step is `exec` of the command at the front. -/
theorem stepRunsFront : Obligations.StepRunsFront := by
  unfold Obligations.StepRunsFront
  refine fun s => ⟨fun c q h => ?_, fun h => ?_⟩
  · unfold step; rw [h]
  · unfold step; rw [h]

/-- Settles O2: every command runs, and what runs keeps the queue and lets neither time nor the draws fall. -/
theorem commandsComplete : Obligations.CommandsComplete := by
  unfold Obligations.CommandsComplete
  intro c s
  obtain ⟨u, e, k, v⟩ := exec_runs s c
  exact ⟨u, e, k.pending, k.nowLe, k.freeLe, v⟩

/-- Settles O6: what runs changes only the parts of its list. -/
theorem commandsFrame : Obligations.CommandsFrame := by
  unfold Obligations.CommandsFrame
  intro c s u p e h
  obtain ⟨t, e', k, -⟩ := exec_runs s c
  rw [Host.Outcome.next.inj (e.symm.trans e')]
  exact k.parts p h

/-- A step takes the front command alone from the queue, and with it runs the command. -/
theorem step_takes_front {s : State} {c : Instr} {q : List Instr} (h : s.pending = c :: q) :
    ∃ u, step s = .next u ∧ Kept (maskOf (touches c)) (s.withPending q) u ∧ u.vectorsSettled := by
  rw [(stepRunsFront s).1 c q h]
  exact exec_runs _ c

/-- Settles O5: both sparse maps keep their canonical form under what a command may do, and every command ends with the vectors
answered. -/
theorem stepKeepsGood : Obligations.StepKeepsGood := by
  unfold Obligations.StepKeepsGood
  intro s u g e
  cases h : s.pending with
  | nil =>
    rw [(stepRunsFront s).2 h] at e
    exact Host.Outcome.next.inj e ▸ g
  | cons c q =>
    obtain ⟨t, e', k, v⟩ := step_takes_front h
    rw [Host.Outcome.next.inj (e.symm.trans e')]
    exact ⟨k.regsWf g.regs, k.dramWf g.dram, v⟩

/-- An empty queue stays as it is, however many steps follow. -/
theorem State.after_idle {s : State} (h : s.pending = []) (n : Nat) : s.after n = some s := by
  induction n with
  | zero => rfl
  | succ n ih => unfold State.after; rw [(stepRunsFront s).2 h]; exact ih

/-- Steps in a row. -/
theorem State.after_succ {s u : State} (h : step s = .next u) (n : Nat) : s.after (n + 1) = u.after n := by
  rw [State.after, h]

/-- Settles O3, by induction on the commands that wait. -/
theorem queueInOrder : Obligations.QueueInOrder := by
  unfold Obligations.QueueInOrder
  intro s n
  induction hq : s.pending generalizing s n with
  | nil =>
    refine ⟨fun hn => ⟨s, State.after_idle hq n, by simp [hq], Nat.le_refl _⟩, ?_⟩
    rw [State.after_idle hq, State.after_idle hq]
  | cons c q ih =>
    obtain ⟨u, e, k, -⟩ := step_takes_front hq
    have hu : u.pending = q := k.pending
    constructor
    · intro hn
      cases n with
      | zero => exact ⟨s, rfl, hq, Nat.le_refl _⟩
      | succ n =>
        obtain ⟨v, ev, pv, nv⟩ := (ih u n hu).1 (Nat.le_of_succ_le_succ hn)
        exact ⟨v, (State.after_succ e n).trans ev, pv, Nat.le_trans k.nowLe nv⟩
    · rw [List.length_cons, Nat.add_right_comm, State.after_succ e, State.after_succ e]
      exact (ih u n hu).2

/-- Settles O4: the sparse maps are empty right after reset, and no IRQ_STATUS word shows an event. -/
theorem resetIsGood : Obligations.ResetIsGood := by
  unfold Obligations.ResetIsGood
  have live : State.reset.live = 0 := by decide +kernel
  refine ⟨⟨rfl, rfl, ?_, rfl⟩, rfl, live⟩
  rw [live]; rfl

end Sys2Proof.Machine

/-! SUPPORT. Facts that the statements of several blocks use: accepted writes with their checks, and what stays recorded at the end of a
command (R11, R53, R54, R75). -/

namespace Sys2Proof.Machine

section
variable {s : State} {who : Requester} {a data i b : Nat} {r : RegRow} {p : PageDef}

/-! ### Accepted writes -/

/-- A word that is accepted has passed the checks of its block and sets no reserved bit. -/
theorem State.accepted_checks (hpage : pageOf a = some p) (hrange : a < 0x400000) (hoff : 0x40 ≤ a % 0x1000)
    (hrow : rowFor p.rows (a % 0x1000) = some (r, i)) (hacc : s.accepts who a data) :
    Nat.land data r.reserved = 0 ∧ ∀ c ∈ s.blockCheck who p (a % 0x1000) data, c = 0 := by
  obtain ⟨q, hreached, hcode⟩ := hacc
  rw [Nat.mod_eq_of_lt hrange] at hreached hcode
  obtain rfl : q = p := Option.some.inj ((State.reached_pageOf hreached).symm.trans hpage)
  have hcodes := (State.writeCode_zero hcode).2
  rw [if_neg (Nat.not_lt.2 hoff), State.wordCodes, hrow] at hcodes
  exact ⟨State.accepted_reserved hcode hoff hrow, fun c hc => hcodes c (List.mem_append_right _ hc)⟩

/-- A condition whose code is among checks that all pass does not hold. -/
theorem codeIf_zero {c : Bool} {k : Nat} {l : List Nat} (hk : k ≠ 0) (hsub : ∀ x ∈ codeIf c k, x ∈ l) (h : ∀ x ∈ l, x = 0) : c = false := by
  by_contra hc
  exact hk (h k (hsub k (mem_codeIf (by simpa using hc))))

/-- A word that starts what leaves the security state alone ends with that. -/
theorem State.writeWord_starts {u : State} (hpage : pageOf a = some p) (hrange : a < 0x400000) (hoff : 0x40 ≤ a % 0x1000)
    (hrow : rowFor p.rows (a % 0x1000) = some (r, i)) (hplain : ∀ f ∈ r.fields, f.kind ≠ .rws) (hacc : s.accepts who a data)
    (heffect : (s.rowStored a r data).blockEffect p (a % 0x1000) (s.rd a) data = u) (hsecu : u.secu = s.secu) :
    r.laid = true ∧ s.writeWord who a 4 data = u := by
  obtain ⟨hlaid, hwrite⟩ := State.writeWord_onPage hpage hrange hoff hrow hplain hacc
  exact ⟨hlaid, hwrite.trans (by rw [heffect]; exact State.certCheck_same _ _ hsecu)⟩

/-! ### What a stored word leaves -/

@[simp] theorem State.rowStored_pnl : (s.rowStored a r data).pnl = s.pnl := rfl
@[simp] theorem State.rowStored_bkl : (s.rowStored a r data).bkl = s.bkl := rfl
@[simp] theorem State.rowStored_ras : (s.rowStored a r data).ras = s.ras := rfl
@[simp] theorem State.rowStored_now : (s.rowStored a r data).now = s.now := rfl
@[simp] theorem State.rowStored_out : (s.rowStored a r data).out = s.out := rfl
@[simp] theorem State.rowStored_secu : (s.rowStored a r data).secu = s.secu := rfl
@[simp] theorem State.rowStored_net : (s.rowStored a r data).net = s.net := rfl
@[simp] theorem State.rowStored_fov : (s.rowStored a r data).fov = s.fov := rfl
@[simp] theorem State.rowStored_dmc : (s.rowStored a r data).dmc = s.dmc := rfl
@[simp] theorem State.rowStored_nvs : (s.rowStored a r data).nvs = s.nvs := rfl
@[simp] theorem State.rowStored_lanes : (s.rowStored a r data).lanes = s.lanes := rfl
@[simp] theorem State.rowStored_mgt : (s.rowStored a r data).mgt = s.mgt := rfl
@[simp] theorem State.rowStored_pwr : (s.rowStored a r data).pwr = s.pwr := rfl

/-! ### The end of a command -/

theorem State.sendMsix_outKept (s : State) (v : Nat) : OutKept s (s.sendMsix v) := by
  unfold State.sendMsix
  split
  · split
    · exact .same rfl
    · exact s.emit_outKept _
  · exact .refl s

theorem State.foldl_sendMsix_outKept (l : List Nat) (s : State) : OutKept s (l.foldl State.sendMsix s) := by
  induction l generalizing s with
  | nil => exact .refl s
  | cons v l ih => exact (s.sendMsix_outKept v).trans (ih _)

/-- What has left the package stays recorded at the end of a command. -/
theorem settle_outKept (s : State) : OutKept s (settle s) := by
  have hfollow : OutKept s s.msixFollow := fun o ho => State.foldl_sendMsix_outKept _ _ o ho
  exact fun o ho => State.foldl_sendMsix_outKept _ _ o (hfollow o ho)

@[simp] theorem settle_panel (s : State) : (settle s).panel = s.panel := settle_fld _ _ _ _
@[simp] theorem settle_laneState (s : State) (n : Nat) : (settle s).laneState n = s.laneState n := settle_fld _ _ _ _

/-- Words that no listed write concerns are as before, also when the command has ended. -/
theorem WordsKept.settle {K : Nat → Prop} {s t : State} (h : WordsKept K s t) : WordsKept K s (settle t) := h.regs (settle_regs t)

theorem WordsKept.at {K : Nat → Prop} {s : State} (t : Nat) : WordsKept K s (s.at t) := fun _ _ => rfl

end

end Sys2Proof.Machine

/-! SUPPORT. The panel's rails and its discharge, with UP, DOWN and DISCHARGE (R301, R319-R323). -/

namespace Sys2Proof.Machine

section
variable {s : State} {who : Requester} {data : Nat}

/-! ### Rails and lanes (R301, R320) -/

@[simp] theorem State.railSwitch_pnl (s : State) (n : Nat) (on : Bool) : (s.railSwitch n on).pnl = s.pnl :=
  State.railSwitch_kept.part .pnl rfl

@[simp] theorem State.railSwitch_rd (s : State) (n : Nat) (on : Bool) (a : Nat) : (s.railSwitch n on).rd a = s.rd a := by
  rw [State.rd, State.railSwitch_regs, State.rd]

@[simp] theorem State.railSwitch_panel (s : State) (n : Nat) (on : Bool) : (s.railSwitch n on).panel = s.panel := by
  rw [State.panel, State.fld, State.railSwitch_rd, State.panel, State.fld]

/-- A rail that is switched stays recorded, as does what was recorded before. -/
theorem State.railSwitch_outKept (s : State) (n : Nat) (on : Bool) : OutKept (s.emit (.rail n on)) (s.railSwitch n on) := by
  unfold State.railSwitch
  extract_lets +onlyGivenNames a s1
  split
  · exact .refl _
  · exact State.emit_outKept _ _

theorem State.railSwitch_recorded (s : State) (n : Nat) (on : Bool) : .rail n on ∈ (s.railSwitch n on).out :=
  s.railSwitch_outKept n on _ (List.mem_cons_self ..)

@[simp] theorem State.railsOff_pnl (n : Nat) (s : State) : (State.railsOff n s).pnl = s.pnl := by
  induction n generalizing s with
  | zero => rfl
  | succ n ih => exact (ih _).trans (s.railSwitch_pnl n false)

@[simp] theorem State.railsOff_regs (n : Nat) (s : State) : (State.railsOff n s).regs = s.regs := by
  induction n generalizing s with
  | zero => rfl
  | succ n ih => exact (ih _).trans State.railSwitch_regs

theorem State.railsOff_outKept (n : Nat) (s : State) : OutKept s (State.railsOff n s) := by
  induction n generalizing s with
  | zero => exact .refl s
  | succ n ih => exact ((s.emit_outKept _).trans (s.railSwitch_outKept n false)).trans (ih _)

/-- Each rail below `n` is switched off. -/
theorem State.railsOff_recorded (n : Nat) (s : State) {k : Nat} (hk : k < n) : .rail k false ∈ (State.railsOff n s).out := by
  induction n generalizing s with
  | zero => exact absurd hk (Nat.not_lt_zero k)
  | succ n ih =>
    rcases Nat.lt_succ_iff_lt_or_eq.1 hk with hlt | rfl
    · exact ih (s.railSwitch n false) hlt
    · exact State.railsOff_outKept k _ _ (s.railSwitch_recorded k false)

@[simp] theorem State.sendLane_regs (s : State) (slot l : Nat) (bs : List (Bool × List Byte)) : (s.sendLane slot l bs).regs = s.regs := by
  unfold State.sendLane
  extract_lets x sent t
  split
  · rfl
  · split <;> rfl

/-- A lane that sends keeps whether the link runs and the lens regions. -/
theorem State.sendLane_lens (s : State) (slot l : Nat) (bs : List (Bool × List Byte)) :
    (s.sendLane slot l bs).pnl.running = s.pnl.running ∧ (s.sendLane slot l bs).pnl.lens = s.pnl.lens := by
  unfold State.sendLane
  extract_lets x sent t
  split
  · exact ⟨rfl, rfl⟩
  · split <;> exact ⟨rfl, rfl⟩

@[simp] theorem State.sendIdle_regs (s : State) (slot : Nat) : (s.sendIdle slot).regs = s.regs := by
  unfold State.sendIdle
  generalize List.range 52 = l
  induction l generalizing s with
  | nil => rfl
  | cons x l ih => exact (ih _).trans (s.sendLane_regs _ _ _)

theorem State.sendIdle_lens (s : State) (slot : Nat) :
    (s.sendIdle slot).pnl.running = s.pnl.running ∧ (s.sendIdle slot).pnl.lens = s.pnl.lens := by
  unfold State.sendIdle
  generalize List.range 52 = l
  induction l generalizing s with
  | nil => exact ⟨rfl, rfl⟩
  | cons x l ih =>
    obtain ⟨hrun, hlens⟩ := s.sendLane_lens slot x []
    obtain ⟨hrun', hlens'⟩ := ih (s.sendLane slot x [])
    exact ⟨hrun'.trans hrun, hlens'.trans hlens⟩

@[simp] theorem State.linkRun_regs (s : State) (on : Bool) : (s.linkRun on).regs = s.regs := by
  unfold State.linkRun
  split
  · rfl
  · split <;> simp

@[simp] theorem State.linkRun_now (s : State) (on : Bool) : (s.linkRun on).now = s.now := State.linkRun_kept.part .now rfl

/-- The link runs as asked, over the same lens regions. -/
theorem State.linkRun_lens (s : State) (on : Bool) : (s.linkRun on).pnl.running = on ∧ (s.linkRun on).pnl.lens = s.pnl.lens := by
  unfold State.linkRun
  split
  case isTrue h => exact ⟨h.symm, rfl⟩
  case isFalse h =>
    split
    case isTrue hon => exact ⟨(State.sendIdle_lens _ 1).1.trans hon.symm, (State.sendIdle_lens _ 1).2⟩
    case isFalse hoff => exact ⟨by simpa using hoff, (State.sendIdle_lens s _).2⟩

/-! ### The state of the panel -/

theorem State.panel_setPanel (s : State) {v : Nat} (hv : v < 8) : (s.setPanel v).panel = v :=
  (State.fld_setFld_same s _ 2 0 v (by decide) (by decide)).trans (Nat.mod_eq_of_lt hv)

theorem State.panel_of_words {t : State} (h : t.rd Reg.pnlPwrState = s.rd Reg.pnlPwrState) : t.panel = s.panel := by
  rw [State.panel, State.fld, h, State.panel, State.fld]

@[simp] theorem State.bklHold_regs (s : State) (h : Bool) : (s.bklHold h).regs = s.regs := by
  unfold State.bklHold
  split
  · rfl
  · refine (List.foldlRecOn (motive := fun t : State => t.regs = s.regs) _ _ rfl fun t ht c _ => ?_)
    split
    · exact ht
    · exact ht

/-- The backlight is held as asked. -/
theorem State.bklHold_hold (s : State) (h : Bool) : (s.bklHold h).bkl.hold = h := by
  unfold State.bklHold
  split
  case isTrue hsame => exact hsame
  case isFalse =>
    refine (List.foldlRecOn (motive := fun t : State => t.bkl.hold = h) _ _ rfl fun t ht c _ => ?_)
    split
    · exact ht
    · exact ht

theorem State.bklHold_outKept (s : State) (h : Bool) : OutKept s (s.bklHold h) := by
  unfold State.bklHold
  split
  · exact .refl s
  · refine (List.foldlRecOn (motive := fun t : State => OutKept s t) _ _ (.same rfl) fun t ht c _ => ?_)
    split
    · exact ht
    · exact ht.trans (t.emit_outKept _)

@[simp] theorem State.bklHold_pnl (s : State) (h : Bool) : (s.bklHold h).pnl = s.pnl := State.bklHold_kept.part .pnl rfl
@[simp] theorem State.bklHold_ras (s : State) (h : Bool) : (s.bklHold h).ras = s.ras := State.bklHold_kept.part .ras rfl

@[simp] theorem State.hostRecord_regs (s : State) : s.hostRecord.regs = s.regs := by
  unfold State.hostRecord
  split <;> rfl

@[simp] theorem State.hostRecord_pnl (s : State) : s.hostRecord.pnl = s.pnl := State.hostRecord_kept.part .pnl rfl
@[simp] theorem State.hostRecord_now (s : State) : s.hostRecord.now = s.now := State.hostRecord_kept.part .now rfl

/-! ### UP, DOWN and DISCHARGE (R321-R323) -/

/-- UP switches rail 0 on. -/
theorem State.panelUp_spec (s : State) : s.panelUp.panel = 1 ∧ s.panelUp.pnl.rail = 1 ∧ s.panelUp.pnl.railAt = s.now ∧
    s.panelUp.pnl.running = true ∧ .rail 0 true ∈ s.panelUp.out := by
  refine ⟨?_, ?_, ?_, ?_, State.railSwitch_recorded _ 0 true⟩
  · rw [State.panelUp, State.railSwitch_panel]
    refine (State.panel_of_words (State.rd_wr_ne _ _ (by decide))).trans ?_
    exact (State.fld_setFld_other _ _ 16 16 _ 2 0 (by decide) (by decide) (by decide) (by decide)).trans (State.panel_setPanel _ (by decide))
  · rw [State.panelUp, State.railSwitch_pnl]; rfl
  · rw [State.panelUp, State.railSwitch_pnl]; exact s.linkRun_now true
  · rw [State.panelUp, State.railSwitch_pnl]; exact (s.linkRun_lens true).1

/-- DOWN holds the lens and the backlight. -/
theorem State.panelDown_spec (s : State) :
    s.panelDown.panel = 4 ∧ s.panelDown.pnl.frames = 0 ∧ s.panelDown.pnl.lensHold = true ∧ s.panelDown.bkl.hold = true := by
  refine ⟨?_, ?_, ?_, State.bklHold_hold _ true⟩
  · rw [State.panelDown, State.panel, State.fld, State.rd, State.bklHold_regs]
    exact State.panel_setPanel _ (by decide)
  · rw [State.panelDown, State.bklHold_pnl]; rfl
  · rw [State.panelDown, State.bklHold_pnl]; rfl

/-- The lens layer and the raster when a discharge begins. -/
def State.discharging (s : State) : State :=
  { s with pnl := { s.pnl with disch := some s.now, dischRails := false, dischEn := true, fadeDue := false, doneDue := false, lensOff := true,
                               lensHold := true },
           ras := { s.ras with step := 0, stepEnd := none, transDue := none, newTiming := none, skipFade := false } }

/-- A discharge that takes effect. -/
theorem State.discharge_eq (hoff : s.panel ≠ 0) (honce : s.panel ≠ 5) : s.discharge =
    ((((if s.panel = 3 then s.hostRecord else s).discharging.setPanel 5).emit (.dischEn true)).bklHold true).raise 0xB4000 2 :=
  if_neg (not_or.2 ⟨hoff, honce⟩)

/-- A discharge that takes effect drives the enable, holds the latches and the lens, and gives up a mode transition. -/
theorem State.discharge_spec (hoff : s.panel ≠ 0) (honce : s.panel ≠ 5) : s.discharge.panel = 5 ∧ s.discharge.pnl.disch = some s.now ∧
    s.discharge.pnl.dischEn = true ∧ s.discharge.pnl.lensHold = true ∧ s.discharge.bkl.hold = true ∧ s.discharge.ras.step = 0 ∧
    s.discharge.ras.transDue = none ∧ .dischEn true ∈ s.discharge.out ∧ s.discharge.flag 0xB4010 2 = true := by
  have hnow : (if s.panel = 3 then s.hostRecord else s).now = s.now := by
    split
    · exact s.hostRecord_now
    · rfl
  rw [State.discharge_eq hoff honce]
  generalize (if s.panel = 3 then s.hostRecord else s) = t at *
  have hpnl : ((((t.discharging.setPanel 5).emit (.dischEn true)).bklHold true).raise 0xB4000 2).pnl = t.discharging.pnl :=
    State.bklHold_pnl _ true
  have hras : ((((t.discharging.setPanel 5).emit (.dischEn true)).bklHold true).raise 0xB4000 2).ras = t.discharging.ras :=
    State.bklHold_ras _ true
  refine ⟨?_, ?_, ?_, ?_, State.bklHold_hold _ true, ?_, ?_, State.bklHold_outKept _ true _ (List.mem_cons_self ..),
    State.flag_raise_same _ 0xB4000 2 (by decide)⟩
  · refine (State.panel_of_words ?_).trans (t.discharging.panel_setPanel (v := 5) (by decide))
    rw [State.rd_raise_ne _ _ (by decide), State.rd, State.bklHold_regs]
    rfl
  · rw [hpnl]; exact congrArg some hnow
  · rw [hpnl]; rfl
  · rw [hpnl]; rfl
  · rw [hras]; rfl
  · rw [hras]; rfl

end

end Sys2Proof.Machine

/-! SUPPORT. Writes that start the panel, the answers of its rails, and O41 (R311, R321, R322, R329, R448). -/

namespace Sys2Proof.Machine

section
variable {s : State} {who : Requester} {data : Nat}

/-! ### Accepted writes to the power page and to PNL_RW_CTRL (R311, R329) -/

/-- The row of PNL_PWR_CTRL. -/
def pnlPwrCtrlRow : RegRow := row1 "PNL_PWR_CTRL" 0x40 0 [fAny 2 0 .w1s]
/-- The row of PNL_RW_CTRL. -/
def pnlRwCtrlRow : RegRow := row1 "PNL_RW_CTRL" 0x64 0x4000 [fAny 0 0 .w1s, fAny 14 8 .ro]

/-- What PNL_PWR_CTRL starts: UP, DOWN or DISCHARGE. -/
def State.pwrCtrlStarts (s : State) (data : Nat) : State :=
  if bitOf data 0 then s.panelUp else if bitOf data 1 then s.panelDown else if bitOf data 2 then s.discharge else s

/-- Of three requests that are one at most, one that is made stands alone. -/
theorem alone_of_three : ∀ u d x : Bool, [u, d, x].countP id ≤ 1 → (d = true → u = false) ∧ (x = true → u = false ∧ d = false) := by
  decide

/-- An accepted write of PNL_PWR_CTRL asks for one thing at most, and for a DISCHARGE only where one can begin. -/
theorem State.writeWord_pnlPwrCtrl (hacc : s.accepts who Reg.pnlPwrCtrl data) :
    s.writeWord who Reg.pnlPwrCtrl 4 data = (s.rowStored Reg.pnlPwrCtrl pnlPwrCtrlRow data).pwrCtrlStarts data ∧
    (bitOf data 1 = true → bitOf data 0 = false) ∧ (bitOf data 2 = true → bitOf data 0 = false ∧ bitOf data 1 = false) ∧ (bitOf data 2 = true → s.panel ≠ 0 ∧ s.panel ≠ 5) := by
  have hpage : pageOf Reg.pnlPwrCtrl = some (page 0xB 4 21 0xF rowsPnlPower) := rfl
  obtain ⟨-, hchecks⟩ := State.accepted_checks (i := 0) (r := pnlPwrCtrlRow) hpage (by decide) (by decide) rfl hacc
  change ∀ c ∈ s.pnlCheck 4 0x40 data, c = 0 at hchecks
  rw [State.pnlCheck, if_neg (by decide), if_neg (by decide), if_neg (by decide), if_neg (by decide), if_pos rfl] at hchecks
  have hstate := codeIf_zero (by decide) (fun x hx => List.mem_append_left _ hx) hchecks
  have hone := codeIf_zero (by decide) (fun x hx => List.mem_append_right _ hx) hchecks
  obtain ⟨hdown, hdisch⟩ := alone_of_three (bitOf data 0) (bitOf data 1) (bitOf data 2) (by simpa using (Bool.or_eq_false_iff.1 hone).1)
  refine ⟨?_, hdown, hdisch, fun hx => ?_⟩
  · refine (State.writeWord_starts (i := 0) (r := pnlPwrCtrlRow) hpage (by decide) (by decide) rfl (by decide) hacc ?_ ?_).2
    · rfl
    · exact (State.pnlEffect_kept (page := 4) (off := 0x40) (data := data)).part .secu rfl
  · simpa [hx] using (Bool.or_eq_false_iff.1 hstate).2

theorem State.writeWord_pnlRwCtrl (hacc : s.accepts who Reg.pnlRwCtrl data) (hgo : bitOf data 0 = true) :
    s.pnl.queue.length < 64 ∧ (s.writeWord who Reg.pnlRwCtrl 4 data).pnl = { s.pnl with queue := s.pnl.queue ++
      [{ regions := s.fld Reg.pnlRwAddr 27 24, target := s.fld Reg.pnlRwAddr 23 16, addr := s.fld Reg.pnlRwAddr 15 0,
         data := s.rd Reg.pnlRwData }] } := by
  have hpage : pageOf Reg.pnlRwCtrl = some { page 0xB 1 21 7 rowsPnlLcd with shadow := true } := rfl
  obtain ⟨-, hchecks⟩ := State.accepted_checks (i := 0) (r := pnlRwCtrlRow) hpage (by decide) (by decide) rfl hacc
  have hwrite := (State.writeWord_starts (i := 0) (r := pnlRwCtrlRow) hpage (by decide) (by decide) rfl (by decide) hacc
    (u := (s.rowStored Reg.pnlRwCtrl pnlRwCtrlRow data).pnlEffect 1 0x64 data) rfl
    ((State.pnlEffect_kept (page := 1) (off := 0x64) (data := data)).part .secu rfl)).2
  change ∀ c ∈ s.pnlCheck 1 0x64 data, c = 0 at hchecks
  rw [State.pnlCheck, if_neg (by decide), if_pos rfl, if_neg (fun h => absurd h.1 (by decide)), if_neg (by decide), if_pos ⟨rfl, hgo⟩] at hchecks
  have hroom := codeIf_zero (by decide) (fun x hx => List.mem_append_right _ hx) hchecks
  have haddr : (s.rowStored Reg.pnlRwCtrl pnlRwCtrlRow data).rd Reg.pnlRwAddr = s.rd Reg.pnlRwAddr := State.rowStored_rd _ _ _ _ (by decide)
  have hdata : (s.rowStored Reg.pnlRwCtrl pnlRwCtrlRow data).rd Reg.pnlRwData = s.rd Reg.pnlRwData := State.rowStored_rd _ _ _ _ (by decide)
  refine ⟨by simpa using hroom, ?_⟩
  rw [hwrite, State.pnlEffect, if_neg (by decide), if_pos rfl, if_neg (fun h => absurd h.1 (by decide)), if_pos ⟨rfl, hgo⟩, haddr, hdata]
  rfl

/-! ### The answer of a rail (R321, R448) -/

/-- The check of R321. -/
def State.railGood (s : State) (n : Nat) (status : PmbRead) : Bool :=
  !s.flag (Reg.pnlRail n) 8 || (pmbAnswered status && statusGood status.word)

/-- The words that a rail's answer leaves alone. -/
abbrev railWord (x : Nat) : Prop := x ≠ Reg.pwrStat 3 ∧ x ≠ 0x190010

theorem railWord_state : railWord Reg.pnlPwrState := by decide

theorem State.railAnswer_words (s : State) (n sent : Nat) (status : PmbRead) : WordsKept railWord s (s.railAnswer n sent status).2 := by
  unfold State.railAnswer
  extract_lets a check s1 s2 dead
  have h1 : WordsKept railWord s s1 := State.pmbRetry_words (.refl _ _) (fun h => h.1 rfl)
  have h2 : WordsKept railWord s s2 := .ite (State.pmbSend_words h1 (fun h => h.1 rfl)) h1
  split
  · exact .refl _ _
  · exact .ite (.raise h2 (fun h => h.2 rfl)) h2

theorem State.railAnswer_good (s : State) (n sent : Nat) (status : PmbRead) : (s.railAnswer n sent status).1 = s.railGood n status := by
  unfold State.railAnswer
  extract_lets a check s1 s2 dead
  split <;> rfl

/-! ### Rails in order (R321, R322) -/

/-- PNL_PWR_STATE shows rail `n` at fault and the panel OFF. -/
def State.railShown (s : State) (n : Nat) : State :=
  let t := ((s.setPanel 0).setFlag Reg.pnlPwrState 16 true).setFld Reg.pnlPwrState 10 8 n
  { t with pnl := { t.pnl with rail := 0 } }

/-- Every rail is switched off again, the one at fault is shown, and the failure is recorded. -/
def State.railFailed (s : State) (n : Nat) : State :=
  (((State.railsOff s.pnl.rail s).railShown n).errEntry 0 Reg.pnlPwrCtrl 0xB06 0).raise 0xB4000 0

/-- The next rail is switched on. -/
def State.railNext (s : State) (n : Nat) : State :=
  ({ s with pnl := { s.pnl with rail := s.pnl.rail + 1, railAt := s.now } } : State).railSwitch n true

/-- The last rail is good: CLEARING. -/
def State.railsDone (s : State) : State := ({ s with pnl := { s.pnl with frames := 0 } } : State).setPanel 2

/-- What follows once the delay of a rail has passed. -/
theorem State.panelRailOn_due {sent : Nat} {status : PmbRead} (hpanel : s.panel = 1)
    (hdue : s.pnl.railAt + s.fld (Reg.pnlRail (s.pnl.rail - 1)) 23 16 * ms ≤ s.now) :
    s.panelRailOn sent status =
      if !s.railGood (s.pnl.rail - 1) status then (s.railAnswer (s.pnl.rail - 1) sent status).2.railFailed (s.pnl.rail - 1)
      else if (s.railAnswer (s.pnl.rail - 1) sent status).2.pnl.rail < 6 then (s.railAnswer (s.pnl.rail - 1) sent status).2.railNext (s.pnl.rail - 1 + 1)
      else (s.railAnswer (s.pnl.rail - 1) sent status).2.railsDone := by
  rw [State.panelRailOn, if_pos ⟨hpanel, hdue⟩, ← State.railAnswer_good s _ sent status]
  simp only [State.railFailed, State.railShown, State.railNext, State.railsDone]

theorem State.withPnl_rd (s : State) (x : Pnl) (a : Nat) : ({ s with pnl := x } : State).rd a = s.rd a := rfl

theorem State.railShown_out (s : State) (n : Nat) : (s.railShown n).out = s.out := by
  rw [State.railShown]
  dsimp only
  rw [State.setFld_out, State.setFlag_out, State.setPanel, State.setFld_out]

theorem State.railShown_rail (s : State) (n : Nat) : (s.railShown n).pnl.rail = 0 := by rw [State.railShown]

theorem State.railShown_state (s : State) {n : Nat} (hn : n < 8) : (s.railShown n).fld Reg.pnlPwrState 2 0 = 0 ∧
    (s.railShown n).flag Reg.pnlPwrState 16 = true ∧ (s.railShown n).fld Reg.pnlPwrState 10 8 = n := by
  rw [State.fld, State.flag, State.fld, State.railShown, State.withPnl_rd, ← State.fld, ← State.flag, ← State.fld]
  refine ⟨?_, ?_, (State.fld_setFld_same _ _ 10 8 n (by decide) (by decide)).trans (Nat.mod_eq_of_lt hn)⟩
  · rw [State.fld_setFld_other _ _ 10 8 n 2 0 (by decide) (by decide) (by decide) (by decide), State.setFlag,
      State.fld_setFld_other _ _ 16 16 _ 2 0 (by decide) (by decide) (by decide) (by decide)]
    exact s.panel_setPanel (by decide)
  · rw [State.flag, bitOf_eq, ← State.fld,
      State.fld_setFld_other _ _ 10 8 n 16 16 (by decide) (by decide) (by decide) (by decide), State.fld, ← bitOf_eq]
    exact State.flag_setFlag_same _ _ 16 true (by decide)

theorem State.railFailed_word (s : State) (n : Nat) :
    (s.railFailed n).rd Reg.pnlPwrState = ((State.railsOff s.pnl.rail s).railShown n).rd Reg.pnlPwrState := by
  have hout : ∀ x : State, Reg.pnlPwrState ∉ errWords x.errNext := fun x hin => by
    have := errWords_range x.errNext_lt hin
    simp [Reg.pnlPwrState] at this
  rw [State.railFailed, State.rd_raise_ne _ _ (by decide), State.errEntry_words _ _ _ _ _ _ (hout _)]

theorem State.railFailed_spec (s : State) {n : Nat} (hn : n < 8) : (s.railFailed n).panel = 0 ∧ (s.railFailed n).pnl.rail = 0 ∧
    (s.railFailed n).flag Reg.pnlPwrState 16 = true ∧ (s.railFailed n).fld Reg.pnlPwrState 10 8 = n ∧ (s.railFailed n).flag 0xB4010 0 = true ∧
    ∀ r, r < s.pnl.rail → .rail r false ∈ (s.railFailed n).out := by
  obtain ⟨hoff, hflag, hnum⟩ := (State.railsOff s.pnl.rail s).railShown_state hn
  rw [State.panel, State.fld, State.flag, State.fld, s.railFailed_word]
  refine ⟨hoff, ?_, hflag, hnum, State.flag_raise_same _ 0xB4000 0 (by decide), fun r hr => ?_⟩
  · rw [State.railFailed, State.raise_pnl, State.errEntry_kept.pnl.resolve_left (by decide), State.railShown_rail]
  · have hrec : .rail r false ∈ ((State.railsOff s.pnl.rail s).railShown n).out := by
      rw [State.railShown_out]
      exact State.railsOff_recorded _ _ hr
    rw [State.railFailed, State.raise_out]
    exact State.sent_outKept (State.errEntry_kept.out.resolve_left (by decide)) (List.mem_filter.2 ⟨hrec, rfl⟩)

/-- PANEL_RAIL_OFF switches the highest rail off once it is due. -/
theorem State.panelRailOff_due (hpanel : s.panel = 4) (hrail : 0 < s.pnl.rail)
    (hdue : if s.pnl.rail = 6 then 3 ≤ s.pnl.frames else s.pnl.railAt + s.fld (Reg.pnlRail s.pnl.rail) 31 24 * ms ≤ s.now) :
    s.panelRailOff.pnl.rail = s.pnl.rail - 1 ∧ s.panelRailOff.pnl.railAt = s.now ∧ .rail (s.pnl.rail - 1) false ∈ s.panelRailOff.out ∧
    s.panelRailOff.panel = (if s.pnl.rail = 1 then 0 else 4) ∧ (s.pnl.rail = 1 → s.panelRailOff.pnl.doneDue = true) := by
  have hrec := State.railSwitch_recorded { s with pnl := { s.pnl with rail := s.pnl.rail - 1, railAt := s.now } } (s.pnl.rail - 1) false
  have hpnl := State.railSwitch_pnl { s with pnl := { s.pnl with rail := s.pnl.rail - 1, railAt := s.now } } (s.pnl.rail - 1) false
  have hstate := State.railSwitch_panel { s with pnl := { s.pnl with rail := s.pnl.rail - 1, railAt := s.now } } (s.pnl.rail - 1) false
  rw [State.panelRailOff, if_pos ⟨hpanel, hrail, by split <;> simp_all⟩]
  by_cases hlast : s.pnl.rail = 1
  · rw [if_pos hlast, if_pos hlast]
    exact ⟨congrArg Pnl.rail hpnl, congrArg Pnl.railAt hpnl, hrec, State.panel_setPanel _ (by decide), fun _ => rfl⟩
  · rw [if_neg hlast, if_neg hlast]
    exact ⟨congrArg Pnl.rail hpnl, congrArg Pnl.railAt hpnl, hrec, hstate.trans hpanel, fun h => absurd h hlast⟩

end

/-- Settles O41: UP and DOWN by what an accepted PNL_PWR_CTRL starts, and every rail by its delay and its regulator's answer. -/
theorem panelPower : Obligations.PanelPower := by
  unfold Obligations.PanelPower
  intro s who data t
  refine ⟨fun hacc => ?_, fun hpanel hlow hhigh hdue => ⟨fun sent st hgood => ?_, fun sent st hcheck hbad => ?_⟩, fun hpanel hframes => ?_,
    fun hacc => ?_, fun hpanel hrail hdue => ?_, fun hdone => ?_⟩
  · obtain ⟨hwrite, -, -, -⟩ := State.writeWord_pnlPwrCtrl hacc
    rw [State.pwrCtrlStarts, if_pos (bitOf_putBits_one _ _)] at hwrite
    obtain ⟨hpanel, hrail, hat, hrun, hout⟩ := (s.rowStored Reg.pnlPwrCtrl pnlPwrCtrlRow (putBits data.toNat 0 0 1)).panelUp_spec
    refine ⟨_, congrArg finish hwrite, ?_⟩
    rw [settle_panel, settle_pnl]
    exact ⟨hpanel, hrail, hat, hrun, settle_outKept _ _ hout⟩
  · have hok : (!s.railGood (s.pnl.rail - 1) st) = false := by
      rcases hgood with ⟨hans, hst⟩ | hoff <;> simp [State.railGood, *]
    have hrun := State.panelRailOn_due (s := s.at t) (sent := sent) (status := st) hpanel hdue
    rw [show (s.at t).railGood = s.railGood from rfl, State.at_pnl, hok, if_neg (by decide)] at hrun
    have hpnl : ((s.at t).railAnswer (s.pnl.rail - 1) sent st).2.pnl = s.pnl := State.railAnswer_kept.part .pnl rfl
    have hnow : ((s.at t).railAnswer (s.pnl.rail - 1) sent st).2.now = max s.now t := State.railAnswer_kept.part .now rfl
    have hwords := (s.at t).railAnswer_words (s.pnl.rail - 1) sent st
    generalize ((s.at t).railAnswer (s.pnl.rail - 1) sent st).2 = x at *
    refine ⟨_, congrArg finish hrun, fun hlt => ?_, fun hsix => ?_⟩
    · rw [hpnl, if_pos hlt, settle_panel, settle_pnl, State.railNext, State.railSwitch_pnl, State.railSwitch_panel, hpnl, hnow,
        Nat.sub_add_cancel hlow]
      refine ⟨rfl, rfl, (State.panel_of_words (hwords _ railWord_state)).trans hpanel, settle_outKept _ _ (State.railSwitch_recorded _ _ _)⟩
    · rw [hpnl, if_neg (by omega), settle_panel, settle_pnl]
      exact ⟨State.panel_setPanel _ (by decide), rfl⟩
  · have hfail : (!s.railGood (s.pnl.rail - 1) st) = true := by
      simp only [State.railGood, hcheck, Bool.not_true, Bool.false_or, Bool.not_eq_true', Bool.eq_false_iff, ne_eq, Bool.and_eq_true]
      exact hbad
    have hrun := State.panelRailOn_due (s := s.at t) (sent := sent) (status := st) hpanel hdue
    rw [show (s.at t).railGood = s.railGood from rfl, State.at_pnl, hfail, if_pos rfl] at hrun
    have hpnl : ((s.at t).railAnswer (s.pnl.rail - 1) sent st).2.pnl = s.pnl := State.railAnswer_kept.part .pnl rfl
    obtain ⟨hoff, hzero, hflag, hnum, hevent, hrails⟩ :=
      ((s.at t).railAnswer (s.pnl.rail - 1) sent st).2.railFailed_spec (n := s.pnl.rail - 1) (by omega)
    rw [hpnl] at hrails
    refine ⟨_, congrArg finish hrun, ?_⟩
    rw [settle_panel, settle_pnl, settle_flag, settle_fld, settle_flag]
    exact ⟨hoff, hzero, hflag, hnum, hevent, fun r hr => settle_outKept _ _ (hrails r hr)⟩
  · refine ⟨_, congrArg finish (if_pos ⟨hpanel, hframes⟩ : (s.at t).panelOn = _), ?_⟩
    rw [settle_panel, settle_pnl, settle_bkl]
    exact ⟨State.panel_setPanel _ (by decide), rfl, rfl⟩
  · obtain ⟨hwrite, hup, -, -⟩ := State.writeWord_pnlPwrCtrl hacc
    have hdown : bitOf (putBits data.toNat 1 1 1) 1 = true := bitOf_putBits_one _ _
    rw [State.pwrCtrlStarts, hup hdown, if_neg (by decide), if_pos hdown] at hwrite
    refine ⟨_, congrArg finish hwrite, ?_⟩
    rw [settle_panel, settle_pnl, settle_bkl]
    exact State.panelDown_spec _
  · obtain ⟨hr, hat, hout, hp, hd⟩ := State.panelRailOff_due (s := s.at t) hpanel hrail hdue
    refine ⟨_, rfl, ?_⟩
    rw [settle_panel, settle_pnl]
    exact ⟨hr, hat, settle_outKept _ _ hout, hp, hd⟩
  · refine ⟨_, congrArg finish (if_pos hdone : s.panelDone = _), ?_⟩
    rw [settle_pnl, settle_flag]
    exact ⟨rfl, State.flag_raise_same _ 0xB4000 3 (by decide),
      State.wordsBut_settle (State.wordsBut_raise (fun _ _ => rfl) (List.mem_singleton_self _))⟩

end Sys2Proof.Machine

/-! SUPPORT. The end of a discharge, and O42 (R319, R323). -/

namespace Sys2Proof.Machine

section
variable {s : State}

/-- DISCHARGE_END lets the enable go and stops the link; the panel is OFF. -/
theorem State.dischEnd_due {d : Nat} (hdisch : s.pnl.disch = some d) (hpanel : s.panel = 5) (hrails : s.pnl.dischRails = true)
    (hdue : d + (s.fld Reg.pnlDischCfg 4 0 + 3) * ms ≤ s.now) :
    s.dischEnd.panel = 0 ∧ s.dischEnd.pnl.disch = none ∧ s.dischEnd.pnl.dischEn = false ∧ s.dischEnd.pnl.running = false ∧
    s.dischEnd.pnl.lens = s.pnl.lens ∧ .dischEn false ∈ s.dischEnd.out ∧ s.dischEnd.pwr = s.pwr ∧ s.dischEnd.secu = s.secu := by
  obtain ⟨hrun, hlens⟩ := s.linkRun_lens false
  have hpwr : (s.linkRun false).pwr = s.pwr := State.linkRun_kept.part .pwr rfl
  have hsecu : (s.linkRun false).secu = s.secu := State.linkRun_kept.part .secu rfl
  have hend : s.dischEnd =
      ((({ s.linkRun false with pnl := { (s.linkRun false).pnl with disch := none, dischEn := false } } : State).setPanel 0).emit (.dischEn false)) := by
    rw [State.dischEnd, hdisch]
    exact if_pos ⟨hpanel, hrails, hdue⟩
  rw [hend]
  generalize s.linkRun false = x at *
  exact ⟨State.panel_setPanel _ (by decide), rfl, rfl, hrun, hlens, List.mem_cons_self .., hpwr, hsecu⟩

/-- With no reset, recovery or stop behind it, a discharge is over with its end. -/
theorem State.afterDischarge_idle (hporst : s.pwr.porst = false) (hstop : s.pwr.stop = false) (hrec : s.secu.recovery = false) :
    s.afterDischarge = s := by
  have hdomains : s.recoveryDomains = s := if_neg (by simp [hrec])
  have hend : s.stopEnd = s := if_neg (by simp [hstop])
  unfold State.afterDischarge
  split
  · rfl
  · rw [hporst, if_neg (by decide), hdomains, hend]

end

/-- Settles O42: a DISCHARGE by what its write starts, its hold and its end by their instants, and a lens row by the rows that start. -/
theorem panelDischarge : Obligations.PanelDischarge := by
  unfold Obligations.PanelDischarge
  intro s who data t
  refine ⟨fun hacc => ?_, fun d hpanel hdisch => ⟨fun hrails hdue => ?_, fun hrails hdue hporst hstop hrec => ?_⟩,
    fun hhold hlens hstart => ?_, fun hacc => ?_⟩
  · obtain ⟨hwrite, -, halone, hstate⟩ := State.writeWord_pnlPwrCtrl hacc
    have hgo : bitOf (putBits data.toNat 2 2 1) 2 = true := bitOf_putBits_one _ _
    rw [State.pwrCtrlStarts, (halone hgo).1, if_neg (by decide), (halone hgo).2, if_neg (by decide), if_pos hgo] at hwrite
    obtain ⟨hoff, honce⟩ := hstate hgo
    have hpanel : (s.rowStored Reg.pnlPwrCtrl pnlPwrCtrlRow (putBits data.toNat 2 2 1)).panel = s.panel :=
      State.panel_of_words (State.rowStored_rd _ _ _ _ (by decide))
    have hspec := State.discharge_spec (s := s.rowStored Reg.pnlPwrCtrl pnlPwrCtrlRow (putBits data.toNat 2 2 1))
      (by rwa [hpanel]) (by rwa [hpanel])
    obtain ⟨hp, hd, hen, hl, hb, hstep, hdue, hout, hevent⟩ := hspec
    refine ⟨_, congrArg finish hwrite, ?_⟩
    rw [settle_panel, settle_pnl, settle_bkl, settle_ras, settle_flag]
    exact ⟨hp, hd, hen, hl, hb, hstep, hdue, settle_outKept _ _ hout, hevent⟩
  · have hrun : (s.at t).dischExpire = State.railsOff 6 { s.at t with pnl := { s.pnl with dischRails := true, rail := 0 } } := by
      rw [State.dischExpire, State.at_pnl, hdisch]
      exact if_pos ⟨hpanel, by rw [hrails]; rfl, hdue⟩
    refine ⟨_, congrArg finish hrun, ?_⟩
    rw [settle_pnl, settle_regs, State.railsOff_pnl, State.railsOff_regs]
    exact ⟨rfl, rfl, fun r hr => settle_outKept _ _ (State.railsOff_recorded _ _ hr)⟩
  · obtain ⟨hoff, hnone, hen, hrun, hlens, hout, hpwr, hsecu⟩ := State.dischEnd_due (s := s.at t) hdisch hpanel hrails hdue
    have hidle : (s.at t).dischEnd.afterDischarge = (s.at t).dischEnd :=
      State.afterDischarge_idle (by rw [hpwr]; exact hporst) (by rw [hpwr]; exact hstop) (by rw [hsecu]; exact hrec)
    refine ⟨_, congrArg finish ((if_pos hpanel).trans hidle), ?_⟩
    rw [settle_panel, settle_pnl]
    exact ⟨hoff, hnone, hen, hrun, hlens, settle_outKept _ _ hout⟩
  · have hrun : (s.at t).lensZero =
        ({ s.at t with pnl := { s.pnl with lens := s.pnl.lens.filter (fun e => !s.rowParks (e.1 / 64)) } } : State).parked true :=
      if_pos (by
        rw [State.at_pnl, hhold, show (s.at t).lensRowStart = s.lensRowStart from rfl, hstart]
        simpa using hlens)
    refine ⟨_, congrArg finish hrun, ?_⟩
    rw [settle_pnl, settle_flag]
    unfold State.parked
    split
    case isTrue hempty =>
      exact ⟨rfl, fun _ => State.flag_raise_same _ 0xB2000 1 (by decide),
        State.wordsBut_settle (State.wordsBut_raise (fun _ _ => rfl) (List.mem_singleton_self _))⟩
    case isFalse hsome =>
      exact ⟨rfl, fun hempty => absurd (by simpa using hempty) hsome, State.wordsBut_settle (fun _ _ => rfl)⟩
  · obtain ⟨hroom, hpnl⟩ := State.writeWord_pnlRwCtrl hacc (bitOf_putBits_one _ _)
    refine ⟨_, rfl, hroom, ?_⟩
    rw [settle_pnl]
    exact hpnl

end Sys2Proof.Machine

/-! SUPPORT. What a path die makes of the frames that it receives, and O44 (R352-R358). -/

namespace Sys2Proof.Machine

/-! ### The counters of reception -/

section
variable {s t : State} {x : Nat}

/-- The words outside the port counters of both dies. -/
def outsideNetStat (a : Nat) : Prop := a < 0x100100 ∨ (0x100140 ≤ a ∧ a < 0x110100) ∨ 0x110140 ≤ a

theorem npStat_netStat (hx : x < 2) {i : Nat} (hi : i < 16) : ¬ outsideNetStat (Reg.npStat x i) := by
  unfold outsideNetStat Reg.npStat
  omega

theorem svcUnit_outsideNetStat (u : Nat) : outsideNetStat (Reg.svcUnit u) := by
  unfold outsideNetStat Reg.svcUnit
  omega

theorem fovIp6_outsideNetStat (i : Nat) : outsideNetStat (Reg.fovIp6 i) := by
  unfold outsideNetStat Reg.fovIp6
  omega

/-- The counters that every good frame counts in (R352). -/
def State.received (s : State) (x n : Nat) : State := (s.add (Reg.npStat x 0) 1).add64 (Reg.npStat x 1) (Reg.npStat x 2) n

theorem State.received_words (s : State) (hx : x < 2) (n : Nat) : WordsKept outsideNetStat s (s.received x n) :=
  ((WordsKept.refl _ s).add (npStat_netStat hx (by decide))).add64 (npStat_netStat hx (by decide)) (npStat_netStat hx (by decide))

theorem npStat_ne {i j : Nat} (h : i ≠ j) : Reg.npStat x i ≠ Reg.npStat x j := by
  unfold Reg.npStat
  omega

theorem State.rd_add64_ne (s : State) {a lo hi : Nat} (n : Nat) (hlo : a ≠ lo) (hhi : a ≠ hi) : (s.add64 lo hi n).rd a = s.rd a := by
  unfold State.add64
  rw [State.rd_wr_ne _ _ hhi, State.rd_wr_ne _ _ hlo]

theorem State.received_frames (s : State) (x n : Nat) : (s.received x n).rd (Reg.npStat x 0) = (s.rd (Reg.npStat x 0) + 1) % 2 ^ 32 := by
  rw [State.received, State.rd_add64_ne _ _ (npStat_ne (by decide)) (npStat_ne (by decide)), State.rd_add_same]

theorem State.received_rd (s : State) (x n : Nat) {i : Nat} (hi : 2 < i) : (s.received x n).rd (Reg.npStat x i) = s.rd (Reg.npStat x i) := by
  rw [State.received, State.rd_add64_ne _ _ (npStat_ne (by omega)) (npStat_ne (by omega)), State.rd_add_ne _ _ (npStat_ne (by omega))]

@[simp] theorem State.add64_net (s : State) (lo hi n : Nat) : (s.add64 lo hi n).net = s.net := by
  rw [State.add64, State.wr_net, State.wr_net]

@[simp] theorem State.add64_fov (s : State) (lo hi n : Nat) : (s.add64 lo hi n).fov = s.fov := by
  rw [State.add64, State.wr_fov, State.wr_fov]

@[simp] theorem State.add64_dram (s : State) (lo hi n : Nat) : (s.add64 lo hi n).dram = s.dram := by
  rw [State.add64, State.wr_dram, State.wr_dram]

@[simp] theorem State.received_net (s : State) (x n : Nat) : (s.received x n).net = s.net := by
  rw [State.received, State.add64_net, State.add_net]

@[simp] theorem State.received_fov (s : State) (x n : Nat) : (s.received x n).fov = s.fov := by
  rw [State.received, State.add64_fov, State.add_fov]

@[simp] theorem State.received_dram (s : State) (x n : Nat) : (s.received x n).dram = s.dram := by
  rw [State.received, State.add64_dram, State.add_dram]

theorem State.rd_setPath (s : State) (p : NetPath) (a : Nat) : (s.setPath x p).rd a = s.rd a := rfl

theorem State.setPath_net (s : State) (p : NetPath) : (s.setPath x p).net = s.net.set x p := rfl

/-! ### What reception reads -/

theorem WordsKept.dieUsable (h : WordsKept outsideNetStat s t) (x : Nat) : t.dieUsable x = s.dieUsable x := by
  unfold State.dieUsable
  rw [h.domOn (by unfold outsideNetStat; decide) (by unfold outsideNetStat; decide),
    h.unitState (by unfold outsideNetStat; decide) (by unfold outsideNetStat; decide) (svcUnit_outsideNetStat _)]

theorem WordsKept.active (h : WordsKept outsideNetStat s t) (hfov : t.fov = s.fov) (hx : x < 2) : t.active x = s.active x := by
  unfold State.active State.linkUp
  rw [h.dieUsable x, h.flag (show outsideNetStat (Reg.npPortStatus x) by unfold outsideNetStat Reg.npPortStatus; omega), hfov]

theorem WordsKept.ip6 (h : WordsKept outsideNetStat s t) (a : Nat) : t.ip6 a = s.ip6 a := by
  unfold State.ip6
  congr 1
  funext v w
  rw [h _ (fovIp6_outsideNetStat _)]

theorem WordsKept.isTile (h : WordsKept outsideNetStat s t) (v6 : Bool) (a : Nat) : t.isTile v6 a = s.isTile v6 a := by
  unfold State.isTile
  simp only [h.ip6, h.flag (show outsideNetStat Reg.fovAddrValid by unfold outsideNetStat; decide),
    h _ (show outsideNetStat Reg.fovIp4 by unfold outsideNetStat; decide)]

theorem WordsKept.isPtp (h : WordsKept outsideNetStat s t) (v6 : Bool) (dst proto : Nat) (data : List Byte) :
    t.isPtp v6 dst proto data = s.isPtp v6 dst proto data := by
  unfold State.isPtp
  rw [h.isTile]

/-! ### What a frame comes to -/

theorem State.frameIn_badFcs {f : RxFrame} (huse : s.dieUsable x = true) (hlink : s.linkUp x = true) (hlanes : s.lanesReady x = true)
    (hen : s.flag (Reg.npPortCtrl x) 0 = true) (hfcs : f.fcsOk = false) : s.frameIn x f = s.add (Reg.npStat x 3) 1 := by
  simp only [State.frameIn, huse, hlink, hlanes, hen, hfcs, Bool.not_true, Bool.or_self, Bool.false_eq_true, if_false, Bool.not_false, if_true]

/-- What a good frame of a length that the port takes has met. -/
structure State.TakesFrame (s : State) (x : Nat) (f : RxFrame) : Prop where
  usable : s.dieUsable x = true
  link : s.linkUp x = true
  lanes : s.lanesReady x = true
  enabled : s.flag (Reg.npPortCtrl x) 0 = true
  fcs : f.fcsOk = true
  longEnough : 64 ≤ f.len
  shortEnough : f.len ≤ s.fld (Reg.npMtu x) 13 0
  data : f.body ≠ .pause

theorem State.frameIn_standby {f : RxFrame} (h : s.TakesFrame x f) (hactive : (s.received x f.len).active x = false)
    (hptp : (s.received x f.len).ptpKind f.body = none) : s.frameIn x f = (s.received x f.len).add (Reg.npStat x 8) 1 := by
  obtain ⟨huse, hlink, hlanes, hen, hfcs, hmin, hmax, hdata⟩ := h
  rw [State.frameIn, if_neg (by simp [huse, hlink, hlanes, hen]), if_neg (by simp [hfcs]), if_neg (Nat.not_lt.2 hmax), if_neg (Nat.not_lt.2 hmin),
    if_neg hdata]
  dsimp only
  rw [← State.received]
  generalize s.received x f.len = r at hactive hptp ⊢
  rw [hactive, hptp, Bool.not_false, if_pos rfl]

theorem State.frameIn_packet {f : RxFrame} {v6 : Bool} {src dst proto : Nat} {data : List Byte} (h : s.TakesFrame x f)
    (hactive : (s.received x f.len).active x = true) (hvlan : f.vlan = none) (hfilter : (s.received x f.len).flag (Reg.npPortCtrl x) 1 = false)
    (hbody : f.body = .ip v6 src dst none proto data) (hptp : (s.received x f.len).isPtp v6 dst proto data = false) :
    s.frameIn x f = (s.received x f.len).classifyIp x f.len f.srcMac v6 src dst proto data f.bytes := by
  obtain ⟨huse, hlink, hlanes, hen, hfcs, hmin, hmax, hdata⟩ := h
  rw [State.frameIn, if_neg (by simp [huse, hlink, hlanes, hen]), if_neg (by simp [hfcs]), if_neg (Nat.not_lt.2 hmax), if_neg (Nat.not_lt.2 hmin),
    if_neg hdata]
  dsimp only
  rw [← State.received]
  generalize s.received x f.len = r at hactive hfilter hptp ⊢
  have hkind : r.ptpKind (.ip v6 src dst none proto data) = none := by rw [State.ptpKind, hptp, if_neg Bool.false_ne_true]
  rw [hactive, Bool.not_true, if_neg Bool.false_ne_true, hvlan, hbody, hkind]
  dsimp only
  rw [hfilter, Bool.false_and, if_neg Bool.false_ne_true]

/-- A KST datagram goes to the forwarding step (R355, step 6). -/
theorem State.classifyIp_kst {l mac src dst : Nat} {v6 : Bool} {data bytes : List Byte} (htile : s.isTile v6 dst = true)
    (hport : beNat (slice data 2 2) = s.fld (Reg.npKstPort x) 15 0) (hlen : 32 ≤ ((data.drop 8).take (beNat (slice data 4 2) - 8)).length)
    (hmagic : beNat (((data.drop 8).take (beNat (slice data 4 2) - 8)).take 2) = 0x4B53) :
    s.classifyIp x l mac v6 src dst 17 data bytes = s.forward x l { v6 := v6, addr := src, port := beNat (slice data 0 2), mac := mac }
      ((data.drop 8).take (beNat (slice data 4 2) - 8)) := by
  unfold State.classifyIp
  dsimp only
  rw [htile, hport, hmagic, decide_eq_true hlen]
  simp only [Bool.not_true, Bool.false_eq_true, if_false, beq_self_eq_true, Bool.and_self, if_true]

/-- A new datagram of a stream without policing: forwarded where the queue has room, else dropped (R357; log entry 28). -/
theorem State.forward_plain {l k : Nat} {reply : Reply} {bytes : List Byte} (hk : beNat (slice bytes 4 1) = k) (hstream : k < 64)
    (hpol : s.flag (Reg.npPolCtrl x k) 0 = false)
    (hnew : ((s.path x).pre.getD k PreFilter.empty).has (beNat (slice bytes 8 6)) = false) :
    s.forward x l reply bytes =
      if Config.fwdQueueBytes < (s.path x).fwdBytes + bytes.length then
        ((s.add (Reg.npPolStatGreen x k) 1).add (Reg.npStat x 11) 1).raise (npBase x 0) 1
      else (s.add (Reg.npPolStatGreen x k) 1).setPath x { s.path x with
        fwd := (s.path x).fwd ++ [{ bytes := bytes, reply := reply, handle := (s.path x).handles.getD k (0, 0) }] } := by
  have hgreen : s.police x k l = (0, s) := if_pos (.inr (by rw [hpol]; rfl))
  have hpath : (s.add (Reg.npPolStatGreen x k) 1).path x = s.path x := by rw [State.path, State.add_net, ← State.path]
  unfold State.forward
  rw [hk]
  dsimp only
  have hkeep : ¬ (0 = 2 ∨ 0 = 1 ∧ s.congested x = true) := fun h => h.elim (by decide) (fun h => absurd h.1 (by decide))
  rw [hgreen]
  dsimp only
  rw [if_pos hstream, if_neg hkeep, if_pos rfl, if_neg hkeep, hpath, hnew, Bool.and_false, if_neg Bool.false_ne_true,
    if_neg (show ¬ 0 = 1 by decide)]

theorem State.fragTimeout_due {g : Frag} (hg : g ∈ (s.path x).frags) (hold : g.first + ms ≤ s.now) :
    s.fragTimeout x = (s.setPath x { s.path x with frags := (s.path x).frags.filter (fun g => decide (s.now < g.first + ms)) }).raise (npBase x 0) 6 := by
  have hlost : ((s.path x).frags.filter (fun g => decide (s.now < g.first + ms))).length ≠ (s.path x).frags.length := by
    intro hall
    exact absurd (List.length_filter_eq_length_iff.1 hall g hg) (by simpa using hold)
  exact if_neg hlost

end

/-- Settles O44: a frame by what reception finds in it, then the packets whose first fragment is too old. -/
theorem framesReceived : Obligations.FramesReceived := by
  unfold Obligations.FramesReceived
  intro s x t f hx
  refine ⟨fun huse hlink hlanes hen => ⟨fun hfcs => ?_, fun hfcs hmin hmax hdata => ?_⟩, fun ⟨g, hg, hold⟩ => ?_⟩
  · have hrun := State.frameIn_badFcs (s := s.at t) (f := f) huse hlink hlanes hen hfcs
    refine ⟨_, congrArg finish ((if_pos hx).trans hrun), ?_⟩
    rw [settle_net, settle_dram, settle_rd, State.add_net, State.add_dram, State.rd_add_same]
    exact ⟨rfl, rfl, rfl, State.wordsBut_settle (State.wordsBut_add (fun _ _ => rfl) (List.mem_singleton_self _))⟩
  · have htakes : (s.at t).TakesFrame x f := ⟨huse, hlink, hlanes, hen, hfcs, hmin, hmax, hdata⟩
    have hwords : WordsKept outsideNetStat s ((s.at t).received x f.len) := (WordsKept.at t).trans (State.received_words _ hx _)
    have hactive : ((s.at t).received x f.len).active x = s.active x := hwords.active (State.received_fov _ _ _) hx
    refine ⟨fun hstandby hkind hpacket => ?_, fun v6 src dst data hholder hvlan hfilter hbody hptp htile => ?_⟩
    · have hptp : ((s.at t).received x f.len).ptpKind f.body = none := by
        cases hbody : f.body with
        | ptp k => exact absurd hbody (hkind k)
        | ip v6 src dst frag proto data =>
          cases frag with
          | none => rw [State.ptpKind, hwords.isPtp, hpacket v6 src dst proto data hbody]; rfl
          | some _ => rfl
        | arp | solicit | other | pause => rfl
      have hrun := State.frameIn_standby htakes (hactive.trans hstandby) hptp
      refine ⟨_, congrArg finish ((if_pos hx).trans hrun), ?_⟩
      rw [settle_net, settle_dram, settle_rd, settle_rd, State.add_net, State.add_dram, State.received_net, State.received_dram,
        State.rd_add_ne _ _ (npStat_ne (by decide)), State.received_frames, State.rd_add_same, State.received_rd _ _ _ (by decide)]
      exact ⟨rfl, rfl, rfl, rfl⟩
    · intro body k hport hlen hmagic hk hpol hnew
      have hrun := State.frameIn_packet htakes (hactive.trans hholder) hvlan
        ((hwords.flag (by unfold outsideNetStat Reg.npPortCtrl; omega) 1).trans hfilter) hbody ((hwords.isPtp ..).trans hptp)
      rw [State.classifyIp_kst ((hwords.isTile ..).trans htile)
        (hport.trans (hwords.fld (by unfold outsideNetStat Reg.npKstPort; omega) 15 0).symm) hlen hmagic,
        State.forward_plain (k := k) rfl hk ((hwords.flag (by unfold outsideNetStat Reg.npPolCtrl; omega) 0).trans hpol)
          (by rw [State.path, State.received_net]; exact hnew)] at hrun
      rw [show ((s.at t).received x f.len).path x = s.path x by rw [State.path, State.received_net]; rfl] at hrun
      split at hrun
      case isTrue hfull =>
        refine ⟨_, congrArg finish ((if_pos hx).trans hrun), ?_, fun hroom => absurd hroom (Nat.not_le.2 hfull), fun _ => ⟨?_, ?_, ?_⟩⟩
        · rw [settle_rd, State.rd_raise_ne _ _ (by unfold Reg.npStat npBase; omega), State.rd_add_ne _ _ (npStat_ne (by decide)),
            State.rd_add_ne _ _ (by unfold Reg.npStat Reg.npPolStatGreen; omega), State.received_frames]
          rfl
        · rw [settle_net, State.raise_net, State.add_net, State.add_net, State.received_net]
          rfl
        · rw [settle_flag]
          exact State.flag_raise_same _ _ _ (by decide)
        · rw [settle_rd, State.rd_raise_ne _ _ (by unfold Reg.npStat npBase; omega), State.rd_add_same,
            State.rd_add_ne _ _ (by unfold Reg.npStat Reg.npPolStatGreen; omega), State.received_rd _ _ _ (by decide)]
          rfl
      case isFalse hroom =>
        refine ⟨_, congrArg finish ((if_pos hx).trans hrun), ?_, fun _ => ?_, fun hfull => absurd hfull hroom⟩
        · rw [settle_rd, State.rd_setPath, State.rd_add_ne _ _ (by unfold Reg.npStat Reg.npPolStatGreen; omega), State.received_frames]
          rfl
        · rw [settle_net, State.setPath_net, State.add_net, State.received_net]
          rfl
  · have hrun := State.fragTimeout_due (s := s.at t) hg hold
    refine ⟨_, congrArg finish ((if_pos hx).trans hrun), ?_⟩
    rw [settle_flag, settle_net, State.flag_raise_same _ _ _ (by decide), State.raise_net, State.setPath_net]
    exact ⟨rfl, State.wordsBut_settle (State.wordsBut_raise (fun _ _ => rfl) (List.mem_singleton_self _)), rfl⟩

end Sys2Proof.Machine

/-! SUPPORT. The paths as parts of the state, events that stay raised, and links that go down and come up (R353, R378, R379). -/

namespace Sys2Proof.Machine

section
variable {s t u : State} {x y q a b i : Nat}

/-! ### Paths and queues -/

theorem State.path_of_net (h : t.net = s.net) (y : Nat) : t.path y = s.path y := by rw [State.path, State.path, h]

theorem State.path_setPath_same (p : NetPath) (hx : x < s.net.length) : (s.setPath x p).path x = p := by
  simp [State.path, State.setPath, hx]

theorem State.path_setPath_ne (s : State) (p : NetPath) (h : x ≠ y) : (s.setPath x p).path y = s.path y := by
  simp [State.path, State.setPath, List.getD_eq_getElem?_getD, List.getElem?_set_ne h]

theorem State.setPath_outside (p : NetPath) (hx : s.net.length ≤ x) : (s.setPath x p).net = s.net := List.set_eq_of_length_le hx

/-- All that has changed on the paths is in their queues. -/
def QueuesOnly (s t : State) : Prop := t.net.length = s.net.length ∧ ∀ y, t.path y = { s.path y with queues := (t.path y).queues }

theorem QueuesOnly.of_net (h : t.net = s.net) : QueuesOnly s t := ⟨by rw [h], fun y => by rw [State.path_of_net h]⟩

theorem QueuesOnly.refl (s : State) : QueuesOnly s s := .of_net rfl

theorem QueuesOnly.trans (h : QueuesOnly s t) (k : QueuesOnly t u) : QueuesOnly s u := by
  refine ⟨k.1.trans h.1, fun y => ?_⟩
  rw [k.2 y, h.2 y]

theorem QueuesOnly.faultAt (h : QueuesOnly s t) (y : Nat) : (t.path y).faultAt = (s.path y).faultAt := (congrArg NetPath.faultAt (h.2 y)).trans rfl

theorem QueuesOnly.goodAt (h : QueuesOnly s t) (y : Nat) : (t.path y).goodAt = (s.path y).goodAt := (congrArg NetPath.goodAt (h.2 y)).trans rfl

theorem QueuesOnly.setQueue (h : QueuesOnly s t) (x q : Nat) (v : EgQueue) : QueuesOnly s (t.setQueue x q v) := by
  refine h.trans ⟨List.length_set, fun y => ?_⟩
  unfold State.setQueue
  by_cases hxy : x = y
  · subst hxy
    by_cases hx : x < t.net.length
    · rw [State.path_setPath_same _ hx]
    · rw [State.path_of_net (State.setPath_outside _ (Nat.le_of_not_lt hx))]
  · rw [State.path_setPath_ne _ _ hxy]

/-! ### Events that stay raised -/

/-- Events of a word that are raised stay raised. -/
def EventsKept (a : Nat) (s t : State) : Prop := ∀ i, i < 32 → s.flag a i = true → t.flag a i = true

theorem EventsKept.of_rd (h : t.rd a = s.rd a) : EventsKept a s t := fun i _ hi => by rwa [State.flag, h]

theorem EventsKept.refl (a : Nat) (s : State) : EventsKept a s s := .of_rd rfl

theorem EventsKept.trans (h : EventsKept a s t) (k : EventsKept a t u) : EventsKept a s u := fun i hi hs => k i hi (h i hi hs)

theorem EventsKept.raise (h : EventsKept a s t) (b : Nat) {j : Nat} (hj : j < 32) : EventsKept a s (t.raise b j) := by
  refine h.trans fun i hi hs => ?_
  by_cases hb : a = b + 0x10
  · subst hb
    exact State.flag_raise_of_flag j hj hs
  · rwa [State.flag, State.rd_raise_ne _ _ hb]

theorem EventsKept.words {K : Nat → Prop} (h : EventsKept a s t) (hw : WordsKept K t u) (ha : K a) : EventsKept a s u :=
  h.trans (.of_rd (hw a ha))

/-! ### Alarms of the paths -/

/-- The words outside the event words of the failover and service pages and the count of staged log entries. -/
def outsideAlarms (a : Nat) : Prop := a ≠ 0x120010 ∧ a ≠ Reg.svcLogStaged ∧ a ≠ 0x1D0010

theorem State.fovArm_fov (s : State) : ∃ a, s.fovArm.fov = { s.fov with armed := a } := by
  unfold State.fovArm
  dsimp only
  split
  · exact ⟨_, rfl⟩
  · exact ⟨_, State.raise_fov _ _ _⟩

theorem State.fovArm_alarms (s : State) : WordsKept outsideAlarms s s.fovArm := by
  unfold State.fovArm
  exact .ite (.refl _ _) (.raise (.regs (.refl _ _) rfl) (by unfold outsideAlarms; decide))

theorem State.standbyOut_fov (s : State) :
    ∃ a, s.standbyOut.fov = { s.fov with standby := 2, snap := none, transit := none, missed := 0, armed := a } :=
  State.fovArm_fov _

theorem State.standbyOut_alarms (s : State) : WordsKept outsideAlarms s s.standbyOut :=
  (WordsKept.regs (.refl _ _) rfl).trans (State.fovArm_alarms _)

theorem State.logIt_alarms (s : State) (source event severity : Nat) (data : List Byte) :
    WordsKept outsideAlarms s (s.logIt source event severity data) :=
  .wordsBut (State.stage_wordsBut _ _) (by unfold outsideAlarms; decide)

theorem State.bothDown_alarms (s : State) : WordsKept outsideAlarms s s.bothDown := by
  unfold State.bothDown
  exact .ite (.refl _ _) (.raise (.refl _ _) (by unfold outsideAlarms; decide))

/-! ### A link changes (R353) -/

/-- It is noted since when the link of die `x` is lost. -/
def State.lossNoted (s : State) (x : Nat) (up : Bool) : State :=
  { s with fov := { s.fov with lostAt := s.fov.lostAt.set x (if up then none else some s.now) } }

/-- The link of die `x` is shown as it is now, with its event. -/
def State.linkShown (s : State) (x : Nat) (up : Bool) : State :=
  ((s.setFlag (Reg.npPortStatus x) 0 up).raise (npBase x 0) 0).lossNoted x up

theorem State.lossNoted_rd (s : State) (x : Nat) (up : Bool) (a : Nat) : (s.lossNoted x up).rd a = s.rd a := rfl

/-- What the standby makes of a change of its link. -/
def State.linkTold (s : State) (x : Nat) (up : Bool) : State :=
  if s.fov.holder = x then s else if up then s.fovArm else s.standbyOut.logIt (0x1000 + 0x100 * x) (evt 0 0) 1 []

theorem State.linkSet_eq (s : State) (x : Nat) (up : Bool) : s.linkSet x up = ((s.linkShown x up).linkTold x up).bothDown := by
  rw [State.linkSet, State.linkShown]
  generalize (s.setFlag (Reg.npPortStatus x) 0 up).raise (npBase x 0) 0 = shown
  rfl

theorem State.linkTold_alarms (s : State) (x : Nat) (up : Bool) : WordsKept outsideAlarms s (s.linkTold x up) :=
  .ite (.refl _ _) (.ite s.fovArm_alarms (s.standbyOut_alarms.trans (State.logIt_alarms _ _ _ _ _)))

theorem State.linkTold_lostAt (s : State) (x : Nat) (up : Bool) : (s.linkTold x up).fov.lostAt = s.fov.lostAt := by
  obtain ⟨a, ha⟩ := s.fovArm_fov
  obtain ⟨b, hb⟩ := s.standbyOut_fov
  unfold State.linkTold
  split
  · rfl
  split
  · rw [ha]
  · rw [show (s.standbyOut.logIt (0x1000 + 0x100 * x) (evt 0 0) 1 []).fov = _ from State.logIt_kept.fov.resolve_left (by decide), hb]

theorem State.linkSet_words (s : State) (x : Nat) (up : Bool) : WordsKept outsideAlarms (s.linkShown x up) (s.linkSet x up) := by
  rw [State.linkSet_eq]
  exact (State.linkTold_alarms _ _ _).trans (State.bothDown_alarms _)

theorem State.linkSet_lostAt (s : State) (x : Nat) (up : Bool) :
    (s.linkSet x up).fov.lostAt = s.fov.lostAt.set x (if up then none else some s.now) := by
  rw [State.linkSet_eq, show (((s.linkShown x up).linkTold x up).bothDown).fov = _ from State.bothDown_kept.fov.resolve_left (by decide),
    State.linkTold_lostAt, State.linkShown, State.lossNoted, State.raise_fov, State.setFlag_fov, State.raise_now, State.setFlag_now]

theorem npPortStatus_alarms (hx : x < 2) : outsideAlarms (Reg.npPortStatus x) := by
  unfold outsideAlarms Reg.npPortStatus Reg.svcLogStaged
  omega

theorem npEvents_alarms (hx : x < 2) (hb : b < 5) : outsideAlarms (npBase x b + 0x10) := by
  unfold outsideAlarms npBase Reg.svcLogStaged
  omega

theorem npPortStatus_ne_events (hx : x < 2) : Reg.npPortStatus x ≠ npBase x 0 + 0x10 := by
  unfold Reg.npPortStatus npBase
  omega

/-- The status word of a link that changes: its bit, and nothing else of it. -/
theorem State.linkSet_status (s : State) (hx : x < 2) (up : Bool) :
    (s.linkSet x up).rd (Reg.npPortStatus x) = (s.setFlag (Reg.npPortStatus x) 0 up).rd (Reg.npPortStatus x) := by
  rw [s.linkSet_words x up _ (npPortStatus_alarms hx), State.linkShown, State.lossNoted_rd, State.rd_raise_ne _ _ (npPortStatus_ne_events hx)]

theorem State.linkSet_linkUp (s : State) (hx : x < 2) (up : Bool) : (s.linkSet x up).linkUp x = up := by
  rw [State.linkUp, State.flag, s.linkSet_status hx, ← State.flag, State.flag_setFlag_same _ _ _ _ (by decide)]

theorem State.linkSet_event (s : State) (hx : x < 2) (up : Bool) : (s.linkSet x up).flag (npBase x 0 + 0x10) 0 = true := by
  rw [(s.linkSet_words x up).flag (npEvents_alarms hx (by decide)), State.linkShown, State.flag, State.lossNoted_rd, ← State.flag,
    State.flag_raise_same _ _ _ (by decide)]

/-! ### The transmit ring (R360, R379) -/

/-- The words outside the drop counters and the events of a path die. -/
def outsideDrops (x a : Nat) : Prop := a ≠ npBase x 0 + 0x10 ∧ (a < Reg.npQDrop x 0 ∨ Reg.npQDrop x 16 ≤ a)

theorem npQDrop_drops (hq : q < 16) : ¬ outsideDrops x (Reg.npQDrop x q) := by
  unfold outsideDrops Reg.npQDrop
  omega

theorem npHtxHead_drops : outsideDrops x (Reg.npHtxHead x) := by
  unfold outsideDrops npBase Reg.npHtxHead Reg.npQDrop
  omega

theorem npHtxSize_drops : outsideDrops x (Reg.npHtxSize x) := by
  unfold outsideDrops npBase Reg.npHtxSize Reg.npQDrop
  omega

theorem npHtxTail_drops : outsideDrops x (Reg.npHtxTail x) := by
  unfold outsideDrops npBase Reg.npHtxTail Reg.npQDrop
  omega

/-- What taking frames into queues leaves: only queues change on the paths, drop counters and events among the words. -/
structure DropsOnly (x : Nat) (s t : State) : Prop where
  queues : QueuesOnly s t
  words : WordsKept (outsideDrops x) s t
  events : EventsKept (npBase x 0 + 0x10) s t

theorem DropsOnly.refl (x : Nat) (s : State) : DropsOnly x s s := ⟨.refl s, .refl _ s, .refl _ s⟩

theorem DropsOnly.trans (h : DropsOnly x s t) (k : DropsOnly x t u) : DropsOnly x s u :=
  ⟨h.queues.trans k.queues, h.words.trans k.words, h.events.trans k.events⟩

theorem DropsOnly.descDone (h : DropsOnly x s t) (d : Option Nat) (status : Nat) : DropsOnly x s (t.descDone x d status) := by
  refine h.trans ?_
  unfold State.descDone
  split
  · refine ⟨.of_net ?_, .raise (fun a _ => State.dramWrite_rd _ _ _ a) (fun h => h.1 rfl), .raise (.of_rd (State.dramWrite_rd _ _ _ _)) _ (by decide)⟩
    rw [State.raise_net]
    exact State.dramWrite_kept.net.resolve_left (by decide)
  · exact .refl x t

theorem DropsOnly.dropped (h : DropsOnly x s t) (hq : q < 16) : DropsOnly x s (t.add (Reg.npQDrop x q) 1) :=
  h.trans ⟨.of_net (State.add_net _ _ _), .add (.refl _ _) (npQDrop_drops hq),
    .of_rd (State.rd_add_ne _ _ (by unfold npBase Reg.npQDrop; omega))⟩

theorem DropsOnly.setQueue (h : DropsOnly x s t) (q : Nat) (v : EgQueue) : DropsOnly x s (t.setQueue x q v) :=
  h.trans ⟨(QueuesOnly.refl t).setQueue x q v, fun _ _ => rfl, .of_rd rfl⟩

theorem DropsOnly.enqueue (h : DropsOnly x s t) (hq : q < 16) (f : EgFrame) : DropsOnly x s (t.enqueue x q f) := by
  unfold State.enqueue
  dsimp only
  split
  · exact h.dropped hq
  · exact h.setQueue q _

/-- HEAD goes past one descriptor. -/
def State.htxNext (s : State) (x : Nat) : State :=
  s.wr (Reg.npHtxHead x) ((s.fld (Reg.npHtxHead x) 11 0 + 1) % max 1 (s.fld (Reg.npHtxSize x) 12 0))

theorem State.htxNext_net (s : State) (x : Nat) : (s.htxNext x).net = s.net := by rw [State.htxNext, State.wr_net]

theorem State.htxNext_rd (s : State) (x : Nat) {a : Nat} (ha : a ≠ Reg.npHtxHead x) : (s.htxNext x).rd a = s.rd a := State.rd_wr_ne _ _ ha

/-- A descriptor that is taken moves HEAD, whatever it says. -/
theorem State.htxTake_drops (s : State) (x : Nat) : DropsOnly x (s.htxNext x) (s.htxTake x) := by
  unfold State.htxTake
  dsimp only
  rw [← State.htxNext]
  split
  · exact .refl x _
  · split
    · exact (DropsOnly.refl x _).descDone _ _
    split
    · exact (DropsOnly.refl x _).descDone _ _
    split
    · exact ((DropsOnly.refl x _).dropped (Nat.mod_lt _ (by decide))).descDone _ _
    · exact (DropsOnly.refl x _).enqueue (Nat.mod_lt _ (by decide)) _

/-- The words outside what taking a ring moves. -/
def outsideRing (x a : Nat) : Prop := outsideDrops x a ∧ a ≠ Reg.npHtxHead x

/-- What taking the ring leaves. -/
structure RingTaken (x : Nat) (s t : State) : Prop where
  queues : QueuesOnly s t
  words : WordsKept (outsideRing x) s t
  events : EventsKept (npBase x 0 + 0x10) s t

theorem RingTaken.refl (x : Nat) (s : State) : RingTaken x s s := ⟨.refl s, .refl _ s, .refl _ s⟩

theorem RingTaken.trans (h : RingTaken x s t) (k : RingTaken x t u) : RingTaken x s u :=
  ⟨h.queues.trans k.queues, h.words.trans k.words, h.events.trans k.events⟩

theorem State.htxTake_ring (s : State) (x : Nat) : RingTaken x s (s.htxTake x) := by
  obtain ⟨hqueues, hwords, hevents⟩ := s.htxTake_drops x
  refine ⟨.trans (.of_net (State.htxNext_net _ _)) hqueues, fun a ha => (hwords a ha.1).trans (State.htxNext_rd _ _ ha.2),
    .trans (.of_rd (State.htxNext_rd _ _ ?_)) hevents⟩
  unfold npBase Reg.npHtxHead
  omega

/-- Taking `n` descriptors. -/
theorem State.htxTakes_ring (l : List Nat) (s : State) (x : Nat) : RingTaken x s (l.foldl (fun s _ => s.htxTake x) s) := by
  induction l generalizing s with
  | nil => exact .refl x s
  | cons _ l ih =>
    rw [List.foldl_cons]
    exact (s.htxTake_ring x).trans (ih _)

theorem State.htxTakeAll_ring (s : State) (x : Nat) : RingTaken x s (s.htxTakeAll x) := by
  unfold State.htxTakeAll
  split
  · exact .refl x s
  · exact s.htxTakes_ring _ x

/-! ### A link that is lost or comes back (R353; log entry 159) -/

/-- What the PCS reports, as PORT_STATUS shows it. -/
def State.pcsShown (s : State) (x : Nat) (aligned lf rf : Bool) : State :=
  ((s.setFlag (Reg.npPortStatus x) 1 aligned).setFlag (Reg.npPortStatus x) 2 lf).setFlag (Reg.npPortStatus x) 3 rf

theorem State.pcsShown_flags (s : State) (x : Nat) (aligned lf rf : Bool) :
    let w := (s.pcsShown x aligned lf rf).flag (Reg.npPortStatus x)
    w 0 = s.linkUp x ∧ w 1 = aligned ∧ w 2 = lf ∧ w 3 = rf := by
  refine ⟨?_, ?_, ?_, ?_⟩
  · rw [State.pcsShown, State.flag_setFlag_other _ _ _ _ _ (by decide) (by decide), State.flag_setFlag_other _ _ _ _ _ (by decide) (by decide),
      State.flag_setFlag_other _ _ _ _ _ (by decide) (by decide), ← State.linkUp]
  · rw [State.pcsShown, State.flag_setFlag_other _ _ _ _ _ (by decide) (by decide), State.flag_setFlag_other _ _ _ _ _ (by decide) (by decide),
      State.flag_setFlag_same _ _ _ _ (by decide)]
  · rw [State.pcsShown, State.flag_setFlag_other _ _ _ _ _ (by decide) (by decide), State.flag_setFlag_same _ _ _ _ (by decide)]
  · rw [State.pcsShown, State.flag_setFlag_same _ _ _ _ (by decide)]

theorem State.pcsShown_words (s : State) (x : Nat) (aligned lf rf : Bool) : s.wordsBut (s.pcsShown x aligned lf rf) [Reg.npPortStatus x] :=
  State.wordsBut_setFlag (State.wordsBut_setFlag (State.wordsBut_setFlag (State.wordsBut_refl _ _) (by simp)) (by simp)) (by simp)

theorem State.pcsShown_net (s : State) (x : Nat) (aligned lf rf : Bool) : (s.pcsShown x aligned lf rf).net = s.net := by
  rw [State.pcsShown, State.setFlag_net, State.setFlag_net, State.setFlag_net]

theorem State.pcsShown_fov (s : State) (x : Nat) (aligned lf rf : Bool) : (s.pcsShown x aligned lf rf).fov = s.fov := by
  rw [State.pcsShown, State.setFlag_fov, State.setFlag_fov, State.setFlag_fov]

theorem State.pcsShown_now (s : State) (x : Nat) (aligned lf rf : Bool) : (s.pcsShown x aligned lf rf).now = s.now := by
  rw [State.pcsShown, State.setFlag_now, State.setFlag_now, State.setFlag_now]

theorem State.pcsSeen_fault {aligned lf rf : Bool} (h : aligned = false ∨ lf = true ∨ rf = true) :
    s.pcsSeen x aligned lf rf = (s.pcsShown x aligned lf rf).setPath x
      { s.path x with faultAt := some ((s.path x).faultAt.getD s.now), goodAt := none } := by
  have hbad : (aligned && !lf && !rf) = false := by
    rcases h with h | h | h <;> simp [h]
  unfold State.pcsSeen
  dsimp only
  rw [← State.pcsShown, hbad, State.path_of_net (State.pcsShown_net _ _ _ _ _), State.pcsShown_now]
  rfl

theorem State.pcsSeen_good : s.pcsSeen x true false false = (s.pcsShown x true false false).setPath x
    { s.path x with faultAt := none, goodAt := some ((s.path x).goodAt.getD s.now) } := by
  unfold State.pcsSeen
  dsimp only
  rw [← State.pcsShown, State.path_of_net (State.pcsShown_net _ _ _ _ _), State.pcsShown_now]
  rfl

end

end Sys2Proof.Machine

/-! SUPPORT. Links, the frames that leave, the rings and the gate lists, and O45 (R353, R360, R361, R366, R367, R379). -/

namespace Sys2Proof.Machine

section
variable {s t u : State} {who : Requester} {x q i j off data : Nat}

/-! ### A link that is lost or comes back (R353) -/

theorem State.pcsSeen_words (s : State) (x : Nat) (aligned lf rf : Bool) (a : Nat) :
    (s.pcsSeen x aligned lf rf).rd a = (s.pcsShown x aligned lf rf).rd a :=
  State.rd_setPath _ _ _

theorem State.pcsSeen_flags (s : State) (x : Nat) (aligned lf rf : Bool) :
    let u := s.pcsSeen x aligned lf rf
    u.linkUp x = s.linkUp x ∧ u.flag (Reg.npPortStatus x) 1 = aligned ∧ u.flag (Reg.npPortStatus x) 2 = lf ∧ u.flag (Reg.npPortStatus x) 3 = rf := by
  simp only [State.linkUp, State.flag, State.pcsSeen_words]
  exact State.pcsShown_flags s x aligned lf rf

theorem State.pcsSeen_fov (s : State) (x : Nat) (aligned lf rf : Bool) : (s.pcsSeen x aligned lf rf).fov = s.fov :=
  State.pcsShown_fov s x aligned lf rf

theorem State.pcsSeen_now (s : State) (x : Nat) (aligned lf rf : Bool) : (s.pcsSeen x aligned lf rf).now = s.now :=
  State.pcsShown_now s x aligned lf rf

/-- LINK_DOWN on a link that is up: once what is wrong has lasted long enough, the link is down. -/
theorem State.linkLost_fault {aligned lf rf : Bool} (hx : x < 2) (hlen : x < s.net.length) (hon : s.domOn (32 + x) = true) (hup : s.linkUp x = true)
    (h : aligned = false ∨ lf = true ∨ rf = true) :
    s.linkLost x aligned lf rf =
      if (s.path x).faultAt.getD s.now + s.fld (Reg.npLoss x) 9 0 * us ≤ s.now then (s.pcsSeen x aligned lf rf).linkSet x false
      else s.pcsSeen x aligned lf rf := by
  have hpath : ((s.pcsSeen x aligned lf rf).path x).faultAt = some ((s.path x).faultAt.getD s.now) := by
    rw [State.pcsSeen_fault h, State.path_setPath_same _ (by rw [State.pcsShown_net]; exact hlen)]
  have hloss : (s.pcsSeen x aligned lf rf).fld (Reg.npLoss x) 9 0 = s.fld (Reg.npLoss x) 9 0 := by
    rw [State.fld, State.pcsSeen_words, State.pcsShown_words s x aligned lf rf _ (by
      rw [List.mem_singleton]; unfold Reg.npLoss Reg.npPortStatus; omega), ← State.fld]
  rw [State.linkLost, if_pos hon]
  dsimp only
  rw [hpath]
  dsimp only
  rw [hloss, State.pcsSeen_now, (State.pcsSeen_flags s x aligned lf rf).1, hup]
  simp only [true_and]

/-- LINK_UP on a link that is down: after a millisecond it is up, and the holder takes what its ring holds. -/
theorem State.linkBack_good (hlen : x < s.net.length) (huse : s.dieUsable x = true) (hen : s.flag (Reg.npPortCtrl x) 0 = true)
    (hlanes : s.lanesReady x = true) (hdown : s.linkUp x = false) :
    s.linkBack x =
      if (s.path x).goodAt.getD s.now + ms ≤ s.now then ((s.pcsSeen x true false false).linkSet x true).htxTakeAll x
      else s.pcsSeen x true false false := by
  have hpath : ((s.pcsSeen x true false false).path x).goodAt = some ((s.path x).goodAt.getD s.now) := by
    rw [State.pcsSeen_good, State.path_setPath_same _ (by rw [State.pcsShown_net]; exact hlen)]
  rw [State.linkBack, if_pos (by rw [huse, hen, hlanes]; rfl)]
  dsimp only
  rw [hpath]
  dsimp only
  rw [State.pcsSeen_now, (State.pcsSeen_flags s x true false false).1, hdown]
  simp only [Bool.not_false, Bool.true_and, decide_eq_true_eq]

/-- It is noted since when the link of die `x` is up. -/
def State.upNoted (s : State) (x : Nat) : State := { s with nvs := { s.nvs with upAt := s.nvs.upAt.set x s.now } }

theorem State.linkUpMark_up {was : Bool} (hup : s.linkUp x = true) (hwas : was = false) : s.linkUpMark x was = s.upNoted x := by
  rw [State.linkUpMark, hup, hwas]
  exact if_pos rfl

theorem State.linkUpMark_down {was : Bool} (hdown : s.linkUp x = false) : s.linkUpMark x was = s := by
  rw [State.linkUpMark, hdown]
  exact if_neg Bool.false_ne_true

theorem State.lanesReady_of (h : ∀ i, i < 8 → s.laneState (52 + 8 * x + i) = 2) : s.lanesReady x = true := by
  simpa [State.lanesReady] using h

/-! ### Accepted writes to the pages of a path die -/

theorem State.writeWord_np {r : RegRow} {p : PageDef} (hx : x < 2) (hi : i < 4) (hp : pageDef (0x10 + x) i = some p) (hoff : 0x40 ≤ off)
    (hlast : off < 0x1000) (hrow : rowFor p.rows off = some (r, j)) (hplain : ∀ f ∈ r.fields, f.kind ≠ .rws)
    (hacc : s.accepts who (npBase x i + off) data) :
    r.laid = true ∧ Nat.land data r.reserved = 0 ∧ (∀ c ∈ s.npCheck x i off data, c = 0) ∧
      s.writeWord who (npBase x i + off) 4 data =
        (s.rowStored (npBase x i + off) r data).npStart x i off (s.rd (npBase x i + off)) data := by
  have hmod : (npBase x i + off) % 0x1000 = off := by unfold npBase; omega
  have hrange : npBase x i + off < 0x400000 := by unfold npBase; omega
  have hpage : pageOf (npBase x i + off) = some p := by
    rw [pageOf, if_pos hrange, show (npBase x i + off) / 0x10000 = 0x10 + x by unfold npBase; omega,
      show (npBase x i + off) / 0x1000 % 16 = i by unfold npBase; omega, hp]
  have hplace := pageDef_place_all (0x10 + x) (by omega) i (by omega)
  rw [hp] at hplace
  obtain ⟨hcode, hindex⟩ : p.code = 0x10 + x ∧ p.index = i := by simpa using hplace
  obtain ⟨hreserved, hchecks⟩ := State.accepted_checks hpage hrange (by rwa [hmod]) (by rwa [hmod]) hacc
  have hcheck : s.blockCheck who p off data = s.npCheck x i off data := by
    unfold State.blockCheck
    rw [hcode, hindex]
    repeat rw [if_neg (by omega)]
    rw [if_pos (by omega), if_neg (by omega), Nat.add_sub_cancel_left]
  have heffect : ∀ v : State, ∀ old, v.blockEffect p off old data = v.npStart x i off old data := by
    intro v old
    unfold State.blockEffect
    rw [hcode, hindex]
    repeat rw [if_neg (by omega)]
    rw [if_pos (by omega), Nat.add_sub_cancel_left]
  rw [hmod, hcheck] at hchecks
  obtain ⟨hlaid, hwrite⟩ := State.writeWord_starts (u := (s.rowStored (npBase x i + off) r data).npStart x i off (s.rd (npBase x i + off)) data)
    hpage hrange (by rwa [hmod]) (by rwa [hmod]) hplain hacc (by rw [hmod]; exact heffect _ _)
    (State.npStart_kept.secu.resolve_left (by decide))
  exact ⟨hlaid, hreserved, hchecks, hwrite⟩

/-- The digests of both dies, taken anew (R373). -/
def State.digestsTaken (s : State) : State :=
  { s with fov := { s.fov with digests := (List.range 2).map (fun x => if s.domOn (32 + x) then some (s.digest x) else none) } }

theorem State.fovDigest_alarms (s : State) : WordsKept outsideAlarms s s.fovDigest := by
  have htaken : WordsKept outsideAlarms s s.digestsTaken := .regs (.refl _ _) rfl
  exact (htaken.raise (by unfold outsideAlarms; decide) |>.ite htaken).trans
    (State.fovArm_alarms (if !s.fov.digestDiffer && s.digestsTaken.fov.digestDiffer then s.digestsTaken.raise 0x120000 4 else s.digestsTaken))

/-- The port page's rings: what a write starts, and then the digests (R373). -/
theorem State.npStart_ring (hi : i < 4) (hoff : i = 0 → off ≠ 0x40) (old : Nat) :
    s.npStart x i off old data = (s.npEffect x i off old data).fovDigest := by
  unfold State.npStart
  dsimp only
  rw [if_neg (by omega), if_neg (fun h => hoff h.1 h.2)]

/-- The rows of the rings' tails and of GCL_CTRL. -/
def npHtxTailRow : RegRow := row1 "NPx_HTX_TAIL" 0x90 0 [fAny 11 0 .rw]
def npHrxTailRow : RegRow := row1 "NPx_HRX_TAIL" 0x7C 0 [fAny 11 0 .rw]
def npGclCtrlRow : RegRow := row1 "NPx_GCL_CTRL" 0x40 0 [fAny 0 0 .rw, fAny 30 30 .w1s, fAny 31 31 .w1s]

/-- The port and gate-list pages of die `x`. -/
def npPortPage (x : Nat) : PageDef := unitPage (page (0x10 + x) 0 (32 + x) 0x7F rowsNpPort) x (169 + x)
def npGclPage (x : Nat) : PageDef := unitPage (page (0x10 + x) 3 (32 + x) 0 rowsNpGcl) x (169 + x)

theorem pageDef_npPort (hx : x < 2) : pageDef (0x10 + x) 0 = some (npPortPage x) := by
  interval_cases x <;> rfl

theorem pageDef_npGcl (hx : x < 2) : pageDef (0x10 + x) 3 = some (npGclPage x) := by
  interval_cases x <;> rfl

theorem npHtxTail_eq (x : Nat) : Reg.npHtxTail x = npBase x 0 + 0x90 := by unfold Reg.npHtxTail npBase; omega
theorem npHrxTail_eq (x : Nat) : Reg.npHrxTail x = npBase x 0 + 0x7C := by unfold Reg.npHrxTail npBase; omega
theorem npGclCtrl_eq (x : Nat) : Reg.npGclCtrl x = npBase x 3 + 0x40 := by unfold Reg.npGclCtrl npBase; omega

theorem State.writeWord_npHtxTail (hx : x < 2) (hacc : s.accepts who (Reg.npHtxTail x) data) :
    npHtxTailRow.laid = true ∧ Nat.land data npHtxTailRow.reserved = 0 ∧
      s.writeWord who (Reg.npHtxTail x) 4 data = ((s.rowStored (Reg.npHtxTail x) npHtxTailRow data).htxTakeAll x).fovDigest := by
  rw [npHtxTail_eq] at hacc ⊢
  obtain ⟨hlaid, hreserved, -, hwrite⟩ := State.writeWord_np (j := 0) (r := npHtxTailRow) hx (by decide) (pageDef_npPort hx) (by decide) (by decide) rfl
    (by decide) hacc
  refine ⟨hlaid, hreserved, hwrite.trans ?_⟩
  rw [State.npStart_ring (by decide) (by decide), State.npEffect, if_pos rfl, if_pos rfl]

theorem State.writeWord_npHrxTail (hx : x < 2) (hacc : s.accepts who (Reg.npHrxTail x) data) :
    npHrxTailRow.laid = true ∧ Nat.land data npHrxTailRow.reserved = 0 ∧
      s.writeWord who (Reg.npHrxTail x) 4 data = ((s.rowStored (Reg.npHrxTail x) npHrxTailRow data).setPath x { s.path x with
        hrxLeft := ringLen (max 1 (s.fld (Reg.npHrxSize x) 12 0)) (s.fld (Reg.npHrxHead x) 11 0) (bitsOf data 11 0) + 1 }).fovDigest := by
  have hsize : (s.rowStored (Reg.npHrxTail x) npHrxTailRow data).rd (Reg.npHrxSize x) = s.rd (Reg.npHrxSize x) :=
    State.rowStored_rd _ _ _ _ (by unfold Reg.npHrxSize Reg.npHrxTail; omega)
  have hhead : (s.rowStored (Reg.npHrxTail x) npHrxTailRow data).rd (Reg.npHrxHead x) = s.rd (Reg.npHrxHead x) :=
    State.rowStored_rd _ _ _ _ (by unfold Reg.npHrxHead Reg.npHrxTail; omega)
  rw [npHrxTail_eq] at hacc hsize hhead ⊢
  obtain ⟨hlaid, hreserved, -, hwrite⟩ := State.writeWord_np (j := 0) (r := npHrxTailRow) hx (by decide) (pageDef_npPort hx) (by decide) (by decide) rfl
    (by decide) hacc
  refine ⟨hlaid, hreserved, hwrite.trans ?_⟩
  rw [State.npStart_ring (by decide) (by decide), State.npEffect, if_pos rfl, if_neg (by decide), if_pos rfl, State.fld, State.fld, hsize, hhead,
    State.path_of_net State.rowStored_net, ← State.fld, ← State.fld]

/-- GO starts the prepared list; without it CANCEL drops the pending one. -/
theorem State.writeWord_npGclCtrl (hx : x < 2) (hacc : s.accepts who (Reg.npGclCtrl x) data) :
    npGclCtrlRow.laid = true ∧ (bitOf data 31 && bitOf data 30) = false ∧
      s.writeWord who (Reg.npGclCtrl x) 4 data =
        ((s.rowStored (Reg.npGclCtrl x) npGclCtrlRow data).npEffect x 3 0x40 (s.rd (Reg.npGclCtrl x)) data).fovDigest := by
  rw [npGclCtrl_eq] at hacc ⊢
  obtain ⟨hlaid, -, hchecks, hwrite⟩ := State.writeWord_np (j := 0) (r := npGclCtrlRow) hx (by decide) (pageDef_npGcl hx) (by decide) (by decide) rfl
    (by decide) hacc
  refine ⟨hlaid, ?_, hwrite.trans (State.npStart_ring (by decide) (by decide) _)⟩
  rw [State.npCheck, if_neg (by decide), if_neg (by decide), if_neg (by decide), if_pos rfl, if_pos rfl] at hchecks
  exact codeIf_zero (by decide) (fun c hc => List.mem_append_left _ (List.mem_append_right _ hc)) hchecks

end

end Sys2Proof.Machine

/-! SUPPORT. The frame that a die sends, HEAD of its transmit ring, and O45 (R353, R360-R367, R379). -/

namespace Sys2Proof.Machine

section
variable {s t u : State} {who : Requester} {x q i j off data : Nat} {f : EgFrame}

/-! ### The queue that is served (R361) -/

theorem State.chosen_lt (h : s.chosen x = some q) : q < 16 := by
  have hkeep : ∀ (l : List Nat) (best : Option Nat), (∀ r ∈ l, r < 16) → (∀ b, best = some b → b < 16) → ∀ q,
      l.foldl (fun best q => if !s.eligible x q then best else match best with
        | none => some q
        | some b => if s.qClass x b < s.qClass x q ∨ (s.qClass x b = s.qClass x q ∧ (s.queue x q).start < (s.queue x b).start) then some q
            else best) best = some q → q < 16 := by
    intro l
    induction l with
    | nil => exact fun best _ hbest => hbest
    | cons r l ih =>
      intro best hl hbest
      refine ih _ (fun k hk => hl k (List.mem_cons_of_mem _ hk)) ?_
      have hr : ∀ b, some r = some b → b < 16 := fun b hb => Option.some.inj hb ▸ hl r List.mem_cons_self
      by_cases heligible : s.eligible x r
      · cases best with
        | none => simpa [heligible] using hl r List.mem_cons_self
        | some c =>
          simp only [heligible, Bool.not_true, Bool.false_eq_true, if_false]
          split
          exacts [hr, hbest]
      · simpa [heligible] using hbest
  exact hkeep _ none (fun r hr => List.mem_range.1 hr) (fun _ hb => nomatch hb) q h

theorem State.oversize_open (h : s.gates x = none) (c l : Nat) : s.oversize x c l = false := by
  unfold State.oversize
  rw [h]

/-- Where no list drives the gates, no frame is too long for them. -/
theorem State.dropOversize_open (h : s.gates x = none) : s.dropOversize x = s := by
  unfold State.dropOversize
  generalize List.range 16 = l
  induction l with
  | nil => rfl
  | cons q l ih =>
    rw [List.foldl_cons]
    cases hframes : (s.queue x q).frames with
    | nil => exact ih
    | cons f rest =>
      dsimp only
      rw [State.oversize_open h, if_neg Bool.false_ne_true]
      exact ih

/-- A queue with a frame is one of the state's queues. -/
theorem State.queue_present {rest : List EgFrame} (h : (s.queue x q).frames = f :: rest) : x < s.net.length ∧ q < (s.path x).queues.length := by
  constructor
  · by_contra hx
    have hreset : s.path x = NetPath.reset := by simp [State.path, Nat.le_of_not_lt hx]
    have hempty : (NetPath.reset.queues.getD q EgQueue.reset).frames = [] := by
      simp only [NetPath.reset, List.getD_eq_getElem?_getD, List.getElem?_replicate]
      split <;> rfl
    rw [State.queue, hreset, hempty] at h
    cases h
  · by_contra hq
    rw [State.queue, List.getD_eq_default _ _ (Nat.le_of_not_lt hq)] at h
    cases h

/-! ### A frame leaves (R361-R366) -/

/-- The queue's buckets pay for the frame. -/
def State.paid (s : State) (x q : Nat) (f : EgFrame) : State :=
  let b := s.qBuckets x q
  let n := bucketBytes f.len
  s.setQueue x q { s.queue x q with bkt := if s.flag (Reg.npQCfg x q) 16 then { b with c := b.c - n, p := b.p - n } else b }

/-- The medium is busy with the frame, and the virtual time of its class goes on. -/
def State.busied (s : State) (x c : Nat) (f : EgFrame) (start : Rat) : State :=
  s.setPath x { s.path x with vt := (s.path x).vt.set c start, busyUntil := s.now + frameTime f.len }

/-- Frame `f` of queue `q` leaves the die with the priority of its class. -/
def State.sentOut (s : State) (x q c : Nat) (f : EgFrame) : State := (s.popHead x q).emit (.net x q (s.vlanTag x c) f.frame)

/-- A frame of `l` bytes that leaves is counted. -/
def State.sentCounted (s : State) (x q l : Nat) : State :=
  ((s.add (Reg.npQStatTx x q) 1).add (Reg.npStat x 12) 1).add64 (Reg.npStat x 13) (Reg.npStat x 14) l

/-- Everything that sending frame `f` does. -/
def State.frameSent (s : State) (x q : Nat) (f : EgFrame) : State :=
  let c := (s.paid x q f).qClass x q
  (((((s.paid x q f).busied x c f (s.queue x q).start).sentOut x q c f).sentCounted x q f.len).stampDreq x f.frame).descDone x f.desc 0

theorem State.transmit_chosen {rest : List EgFrame} (huse : s.dieUsable x = true) (hup : s.linkUp x = true) (hlanes : s.lanesReady x = true)
    (hsw : s.fov.sw = none) (hfree : (s.path x).busyUntil ≤ s.now) (hgates : s.gates x = none) (hq : s.chosen x = some q)
    (hframes : (s.queue x q).frames = f :: rest) : s.transmit x = s.frameSent x q f := by
  rw [State.transmit, if_neg (by simp [huse, hup, hlanes, hsw, hfree])]
  dsimp only
  rw [State.dropOversize_open hgates, hq]
  dsimp only
  unfold State.frameSent State.paid State.busied State.sentOut State.sentCounted
  simp only [hframes]

theorem State.setQueue_rd (s : State) (x q : Nat) (v : EgQueue) (a : Nat) : (s.setQueue x q v).rd a = s.rd a := rfl

theorem State.queue_setQueue_same (hx : x < s.net.length) (hq : q < (s.path x).queues.length) (v : EgQueue) : (s.setQueue x q v).queue x q = v := by
  rw [State.queue, State.setQueue, State.path_setPath_same _ hx]
  simp [hq]

theorem State.tagged_frames (s : State) (x q : Nat) (v : EgQueue) (start : Rat) : (s.tagged x q v start).frames = v.frames := by
  unfold State.tagged
  split <;> rfl

theorem State.paid_rd (s : State) (x q : Nat) (f : EgFrame) (a : Nat) : (s.paid x q f).rd a = s.rd a := State.setQueue_rd _ _ _ _ _

theorem State.busied_rd (s : State) (x c : Nat) (f : EgFrame) (start : Rat) (a : Nat) : (s.busied x c f start).rd a = s.rd a := State.rd_setPath _ _ _

theorem State.sentOut_rd (s : State) (x q c : Nat) (f : EgFrame) (a : Nat) : (s.sentOut x q c f).rd a = s.rd a := rfl

theorem State.paid_now (s : State) (x q : Nat) (f : EgFrame) : (s.paid x q f).now = s.now := rfl

theorem State.qClass_of_rd (h : ∀ a, t.rd a = s.rd a) (x q : Nat) : t.qClass x q = s.qClass x q := by
  rw [State.qClass, State.fld, h, ← State.fld, ← State.qClass]

theorem State.vlanTag_of_rd (h : ∀ a, t.rd a = s.rd a) (x c : Nat) : t.vlanTag x c = s.vlanTag x c := by
  rw [State.vlanTag, State.fld, State.flag, h, h, ← State.fld, ← State.flag, ← State.vlanTag]

/-- Both dies and their queues are as many as before. -/
theorem State.paid_shape (hx : x < s.net.length) (f : EgFrame) :
    (s.paid x q f).net.length = s.net.length ∧ ((s.paid x q f).path x).queues.length = (s.path x).queues.length := by
  refine ⟨List.length_set, ?_⟩
  rw [State.paid]
  dsimp only
  rw [State.setQueue, State.path_setPath_same _ hx]
  exact List.length_set

theorem State.busied_path (hx : x < s.net.length) (c : Nat) (f : EgFrame) (start : Rat) :
    (s.busied x c f start).path x = { s.path x with vt := (s.path x).vt.set c start, busyUntil := s.now + frameTime f.len } :=
  State.path_setPath_same _ hx

theorem State.busied_length (s : State) (x c : Nat) (f : EgFrame) (start : Rat) : (s.busied x c f start).net.length = s.net.length :=
  List.length_set

/-- The head leaves its queue; nothing else of the path is changed with it. -/
theorem State.popHead_spec (hx : x < s.net.length) (hq : q < (s.path x).queues.length) :
    ((s.popHead x q).queue x q).frames = (s.queue x q).frames.drop 1 ∧ ((s.popHead x q).path x).busyUntil = (s.path x).busyUntil := by
  constructor
  · rw [State.popHead, State.queue_setQueue_same hx hq, State.tagged_frames]
  · rw [State.popHead, State.setQueue, State.path_setPath_same _ hx]

theorem State.stampDreq_path (s : State) (x : Nat) (f : Egress) :
    ((s.stampDreq x f).path x).queues = (s.path x).queues ∧ ((s.stampDreq x f).path x).busyUntil = (s.path x).busyUntil := by
  have hadd : ∀ i, (s.add (Reg.npPtpStat x i) 1).path x = s.path x := fun i => State.path_of_net (State.add_net _ _ _) x
  unfold State.stampDreq
  split
  · dsimp only
    split
    · by_cases hx : x < s.net.length
      · rw [State.path_setPath_same _ (by rw [State.add_net]; exact hx), hadd]
        exact ⟨rfl, rfl⟩
      · rw [State.path_of_net (State.setPath_outside _ (by rw [State.add_net]; exact Nat.le_of_not_lt hx)), hadd]
        exact ⟨rfl, rfl⟩
    · rw [State.path_of_net (State.add_net _ _ _), hadd]
      exact ⟨rfl, rfl⟩
  · exact ⟨rfl, rfl⟩

/-- A Delay_Req counts as it leaves; no word but the PTP counters is concerned. -/
theorem State.stampDreq_words (s : State) (x : Nat) (f : Egress) : s.wordsBut (s.stampDreq x f) [Reg.npPtpStat x 2, Reg.npPtpStat x 6] := by
  have hadd : s.wordsBut (s.add (Reg.npPtpStat x 2) 1) [Reg.npPtpStat x 2, Reg.npPtpStat x 6] := State.wordsBut_add (State.wordsBut_refl _ _) (by simp)
  unfold State.stampDreq
  split
  · dsimp only
    split
    · exact fun a ha => (State.rd_setPath _ _ a).trans (hadd a ha)
    · exact State.wordsBut_add hadd (by simp)
  · exact State.wordsBut_refl _ _

theorem State.stampDreq_counts (s : State) (x n tr : Nat) (a : Nat × Nat) (b : Option (Nat × Nat)) :
    (s.stampDreq x (.delayReq n tr a b)).rd (Reg.npPtpStat x 2) = (s.rd (Reg.npPtpStat x 2) + 1) % 2 ^ 32 := by
  unfold State.stampDreq
  dsimp only
  split
  · rw [State.rd_setPath, State.rd_add_same]
  · rw [State.rd_add_ne _ _ (by unfold Reg.npPtpStat; omega), State.rd_add_same]

theorem State.sentCounted_words (s : State) (x q l : Nat) :
    s.wordsBut (s.sentCounted x q l) [Reg.npQStatTx x q, Reg.npStat x 12, Reg.npStat x 13, Reg.npStat x 14] :=
  State.wordsBut_wr (State.wordsBut_wr (State.wordsBut_add (State.wordsBut_add (State.wordsBut_refl _ _) (by simp)) (by simp)) (by simp)) (by simp)

theorem State.sentCounted_queue (s : State) (hq : q < 16) (l : Nat) :
    (s.sentCounted x q l).rd (Reg.npQStatTx x q) = (s.rd (Reg.npQStatTx x q) + 1) % 2 ^ 32 := by
  have hne : ∀ i < 16, Reg.npQStatTx x q ≠ Reg.npStat x i := fun i hi => by unfold Reg.npQStatTx Reg.npStat; omega
  rw [State.sentCounted, State.rd_add64_ne _ _ (hne 13 (by decide)) (hne 14 (by decide)), State.rd_add_ne _ _ (hne 12 (by decide)), State.rd_add_same]

theorem State.sentCounted_net (s : State) (x q l : Nat) : (s.sentCounted x q l).net = s.net := by
  rw [State.sentCounted, State.add64_net, State.add_net, State.add_net]

theorem State.descDone_net (s : State) (x : Nat) (d : Option Nat) (status : Nat) : (s.descDone x d status).net = s.net :=
  State.descDone_kept.net.resolve_left (by decide)

theorem State.descDone_rd (s : State) (x : Nat) (d : Option Nat) (status : Nat) {a : Nat} (ha : a ≠ npBase x 0 + 0x10) :
    (s.descDone x d status).rd a = s.rd a := by
  unfold State.descDone
  split
  · rw [State.rd_raise_ne _ _ ha, State.dramWrite_rd]
  · rfl

/-- What sending leaves of the die's path. -/
theorem State.frameSent_path {rest : List EgFrame} (hframes : (s.queue x q).frames = f :: rest) :
    ((s.frameSent x q f).queue x q).frames = rest ∧ ((s.frameSent x q f).path x).busyUntil = s.now + frameTime f.len := by
  obtain ⟨hx, hq⟩ := State.queue_present hframes
  obtain ⟨hlen, hqueues⟩ := State.paid_shape (q := q) hx f
  have hpaid : ((s.paid x q f).queue x q).frames = f :: rest := by
    rw [State.paid]
    dsimp only
    rw [State.queue_setQueue_same hx hq]
    exact hframes
  generalize hp : s.paid x q f = p at hlen hqueues hpaid
  have hnow : p.now = s.now := by rw [← hp, State.paid_now]
  have hbusy := State.busied_path (s := p) (x := x) (by rw [hlen]; exact hx) (p.qClass x q) f (s.queue x q).start
  have hblen := State.busied_length p x (p.qClass x q) f (s.queue x q).start
  generalize hb : p.busied x (p.qClass x q) f (s.queue x q).start = b at hbusy hblen
  have hbqueue : b.queue x q = p.queue x q := by rw [State.queue, hbusy, ← State.queue]
  obtain ⟨hpop, hpopBusy⟩ := State.popHead_spec (s := b) (x := x) (q := q) (by rw [hblen, hlen]; exact hx) (by rw [hbusy]; exact hqueues ▸ hq)
  have hpath : ((b.sentOut x q (p.qClass x q) f).sentCounted x q f.len).path x = (b.popHead x q).path x :=
    State.path_of_net (State.sentCounted_net _ _ _ _) x
  obtain ⟨hsq, hsb⟩ := State.stampDreq_path ((b.sentOut x q (p.qClass x q) f).sentCounted x q f.len) x f.frame
  have hdone : (s.frameSent x q f).path x = (((b.sentOut x q (p.qClass x q) f).sentCounted x q f.len).stampDreq x f.frame).path x := by
    rw [State.frameSent, hp, hb, State.path_of_net (State.descDone_net _ _ _ _)]
  constructor
  · rw [State.queue, hdone, hsq, hpath, ← State.queue, hpop, hbqueue, hpaid]
    rfl
  · rw [hdone, hsb, hpath, hpopBusy, hbusy, hnow]

theorem npQStatTx_ptp (hx : x < 2) (hq : q < 16) (i : Nat) (hi : i < 7) : Reg.npQStatTx x q ≠ Reg.npPtpStat x i := by
  unfold Reg.npQStatTx Reg.npPtpStat
  omega

theorem npQStatTx_events (hq : q < 16) : Reg.npQStatTx x q ≠ npBase x 0 + 0x10 := by
  unfold Reg.npQStatTx npBase
  omega

theorem npPtpStat_events (hi : i < 7) : Reg.npPtpStat x i ≠ npBase x 0 + 0x10 := by
  unfold Reg.npPtpStat npBase
  omega

/-- Before its frame is counted a die's words are as they were. -/
theorem State.sentOut_words (s : State) (x q c d : Nat) (f : EgFrame) (start : Rat) (a : Nat) :
    (((s.paid x q f).busied x c f start).sentOut x q d f).rd a = s.rd a := by
  rw [State.sentOut_rd, State.busied_rd, State.paid_rd]

theorem State.frameSent_counts (s : State) (hx : x < 2) (hq : q < 16) (f : EgFrame) :
    (s.frameSent x q f).rd (Reg.npQStatTx x q) = (s.rd (Reg.npQStatTx x q) + 1) % 2 ^ 32 := by
  rw [State.frameSent, State.descDone_rd _ _ _ _ (npQStatTx_events hq),
    State.stampDreq_words _ _ _ _ (by simp [npQStatTx_ptp hx hq]), State.sentCounted_queue _ hq, State.sentOut_words]

theorem State.frameSent_dreq (s : State) (hx : x < 2) {n tr : Nat} {a : Nat × Nat} {b : Option (Nat × Nat)} (hf : f.frame = .delayReq n tr a b) (hq : q < 16) :
    (s.frameSent x q f).rd (Reg.npPtpStat x 2) = (s.rd (Reg.npPtpStat x 2) + 1) % 2 ^ 32 := by
  have hport : ∀ i < 16, Reg.npPtpStat x 2 ≠ Reg.npStat x i := fun i hi => by unfold Reg.npPtpStat Reg.npStat; omega
  rw [State.frameSent, State.descDone_rd _ _ _ _ (npPtpStat_events (by decide)), hf, State.stampDreq_counts, State.sentCounted_words _ _ _ _ _ (by
    simp [hport, (npQStatTx_ptp hx hq 2 (by decide)).symm]), State.sentOut_words]

/-- The frame is recorded as sent, with the tag of its class. -/
theorem State.frameSent_out (s : State) (x q : Nat) (f : EgFrame) :
    .net x q (s.vlanTag x (s.qClass x q)) f.frame ∈ (s.frameSent x q f).out := by
  have hclass : (s.paid x q f).qClass x q = s.qClass x q := State.qClass_of_rd (State.paid_rd _ _ _ _) _ _
  have htag : ((s.paid x q f).busied x (s.qClass x q) f (s.queue x q).start).vlanTag x (s.qClass x q) = s.vlanTag x (s.qClass x q) :=
    State.vlanTag_of_rd (fun a => (State.busied_rd _ _ _ _ _ a).trans (State.paid_rd _ _ _ _ a)) _ _
  rw [State.frameSent, hclass]
  generalize (s.paid x q f).busied x (s.qClass x q) f (s.queue x q).start = b at htag
  have hout : .net x q (s.vlanTag x (s.qClass x q)) f.frame ∈ (b.sentOut x q (s.qClass x q) f).out := by
    rw [State.sentOut, htag]
    exact List.mem_cons_self
  have hcounted : OutKept (b.sentOut x q (s.qClass x q) f) ((b.sentOut x q (s.qClass x q) f).sentCounted x q f.len) := .same (by
    rw [State.sentCounted, State.add64, State.wr_out, State.wr_out, State.add_out, State.add_out])
  generalize (b.sentOut x q (s.qClass x q) f).sentCounted x q f.len = r at hcounted
  have hsent : ((r.stampDreq x f.frame).descDone x f.desc 0).sent = r.sent :=
    (State.descDone_kept.out.resolve_left (by decide)).trans (State.stampDreq_kept.out.resolve_left (by decide))
  exact State.sent_outKept hsent (List.mem_filter.2 ⟨hcounted _ hout, rfl⟩)

/-! ### The end of a switch-over (R376) -/

/-- The words outside those that the end of a switch-over shows. -/
def outsideSwitch (a : Nat) : Prop :=
  a ≠ Reg.fovLastSwitch ∧ a ≠ Reg.fovSwPhases ∧ a ≠ Reg.fovStat 0 ∧ a ≠ Reg.fovCtrl ∧ a ≠ 0x120010

theorem State.announceEnd_words (s : State) : WordsKept outsideSwitch s s.announceEnd := by
  unfold State.announceEnd
  split
  · split
    · exact .refl _ s
    · exact .raise (.setFld (.add (.wr (.wr (.regs (.refl _ s) rfl) (fun h => h.1 rfl)) (fun h => h.2.1 rfl)) (fun h => h.2.2.1 rfl))
        (fun h => h.2.2.2.1 rfl)) (fun h => h.2.2.2.2 rfl)
  · exact .refl _ s

/-! ### HEAD of the transmit ring (R379) -/

theorem fld_ringHead (h : s.rd a = n % 2 ^ 32) (hn : n < 4096) : s.fld a 11 0 = n := by
  rw [State.fld, h, bitsOf]
  omega

theorem State.htxTake_size (s : State) (x : Nat) : (s.htxTake x).fld (Reg.npHtxSize x) 12 0 = s.fld (Reg.npHtxSize x) 12 0 :=
  (s.htxTake_ring x).words.fld ⟨npHtxSize_drops, by unfold Reg.npHtxSize Reg.npHtxHead; omega⟩ 12 0

theorem State.htxTake_head (hsize : 0 < s.fld (Reg.npHtxSize x) 12 0) (hlast : s.fld (Reg.npHtxSize x) 12 0 ≤ 4096) :
    (s.htxTake x).fld (Reg.npHtxHead x) 11 0 = (s.fld (Reg.npHtxHead x) 11 0 + 1) % s.fld (Reg.npHtxSize x) 12 0 := by
  rw [(s.htxTake_drops x).words.fld npHtxHead_drops 11 0]
  refine fld_ringHead ?_ (Nat.lt_of_lt_of_le (Nat.mod_lt _ hsize) hlast)
  rw [State.htxNext, State.rd_wr_same, Nat.max_eq_right hsize]

/-- Each descriptor moves HEAD on by one. -/
theorem State.htxTakes_head (l : List Nat) (s : State) {n : Nat} (hn : s.fld (Reg.npHtxSize x) 12 0 = n) (hsize : 0 < n) (hlast : n ≤ 4096)
    (hhead : s.fld (Reg.npHtxHead x) 11 0 < n) :
    (l.foldl (fun s _ => s.htxTake x) s).fld (Reg.npHtxHead x) 11 0 = (s.fld (Reg.npHtxHead x) 11 0 + l.length) % n := by
  induction l generalizing s with
  | nil => exact (Nat.mod_eq_of_lt hhead).symm
  | cons _ l ih =>
    have hnext := State.htxTake_head (s := s) (x := x) (by rwa [hn]) (by rwa [hn])
    rw [hn] at hnext
    rw [List.foldl_cons, ih (s.htxTake x) ((s.htxTake_size x).trans hn) (by rw [hnext]; exact Nat.mod_lt _ hsize), hnext, Nat.mod_add_mod,
      List.length_cons, Nat.add_assoc, Nat.add_comm 1]

theorem ringLen_reaches {n h tail : Nat} (hh : h < n) : (h + ringLen n h tail) % n = tail % n := by
  rw [ringLen, Nat.add_mod_mod, show h + (tail + n * 4096 - h) = tail + n * 4096 by omega, Nat.add_mul_mod_self_left]

/-- The holder takes what lies before TAIL. -/
theorem State.htxTakeAll_head (hactive : s.active x = true) (hen : s.flag (Reg.npPortCtrl x) 0 = true)
    (hhead : s.fld (Reg.npHtxHead x) 11 0 < s.fld (Reg.npHtxSize x) 12 0) (hlast : s.fld (Reg.npHtxSize x) 12 0 ≤ 4096) :
    (s.htxTakeAll x).fld (Reg.npHtxHead x) 11 0 = s.fld (Reg.npHtxTail x) 11 0 % s.fld (Reg.npHtxSize x) 12 0 := by
  have hsize := Nat.lt_of_le_of_lt (Nat.zero_le _) hhead
  rw [State.htxTakeAll, hactive, hen, if_neg (by decide)]
  dsimp only
  rw [Nat.max_eq_right hsize, State.htxTakes_head _ s rfl hsize hlast hhead, List.length_range, ringLen_reaches hhead]

end

end Sys2Proof.Machine

/-! SUPPORT. Accepted tails and gate-list requests, and O45 (R353, R360, R361, R366, R367, R379). -/

namespace Sys2Proof.Machine

section
variable {s t u : State} {who : Requester} {x q i j off data : Nat}

/-- A word whose fields end at bit 11 and whose other bits are reserved is an index. -/
theorem ringIndex_lt {r : RegRow} (hfields : ∀ f ∈ r.fields, f.hi ≤ 11) (h32 : data < 2 ^ 32) (hres : Nat.land data r.reserved = 0) :
    data < 4096 := by
  refine Nat.lt_pow_two_of_testBit (n := 12) data fun i hi => ?_
  by_cases hlt : i < 32
  · have hbit : (data &&& r.reserved).testBit i = false := by rw [show data &&& r.reserved = 0 from hres, Nat.zero_testBit]
    have hfree : r.fields.any (fun f => decide (f.lo ≤ i ∧ i ≤ f.hi)) = false :=
      List.any_eq_false.2 fun f hf => by have := hfields f hf; simp; omega
    rwa [Nat.testBit_and, RegRow.reserved_testBit, hfree, decide_eq_true hlt, Bool.not_false, Bool.and_self, Bool.and_true] at hbit
  · exact Nat.testBit_lt_two_pow (Nat.lt_of_lt_of_le h32 (Nat.pow_le_pow_right (by decide) (Nat.le_of_not_lt hlt)))

/-- An index is stored as it is written. -/
theorem State.rowStored_index {r : RegRow} {a : Nat} (hlaid : r.laid = true) (hrw : ∀ f ∈ r.fields, f.kind = .rw) (h32 : data < 2 ^ 32)
    (hres : Nat.land data r.reserved = 0) : (s.rowStored a r data).rd a = data := by
  rw [State.rowStored, State.rd_wr_same, RegRow.stored_rw hlaid hrw hres h32, Nat.mod_eq_of_lt h32]

theorem npHtxTail_alarms (hx : x < 2) : outsideAlarms (Reg.npHtxTail x) := by
  unfold outsideAlarms Reg.npHtxTail Reg.svcLogStaged
  omega

theorem npHtxHead_alarms (hx : x < 2) : outsideAlarms (Reg.npHtxHead x) := by
  unfold outsideAlarms Reg.npHtxHead Reg.svcLogStaged
  omega

theorem npHrxTail_alarms (hx : x < 2) : outsideAlarms (Reg.npHrxTail x) := by
  unfold outsideAlarms Reg.npHrxTail Reg.svcLogStaged
  omega

theorem npGclCtrl_alarms (hx : x < 2) : outsideAlarms (Reg.npGclCtrl x) := by
  unfold outsideAlarms Reg.npGclCtrl Reg.svcLogStaged
  omega

theorem State.fovDigest_net (s : State) : s.fovDigest.net = s.net := State.fovDigest_kept.net.resolve_left (by decide)

theorem State.fovDigest_dram (s : State) : s.fovDigest.dram = s.dram := State.fovDigest_kept.dram.resolve_left (by decide)

/-! ### Tails of the rings (R379) -/

theorem npHtxTail_written (hx : x < 2) (h32 : data < 2 ^ 32) (hacc : s.accepts who (Reg.npHtxTail x) data) :
    (s.writeWord who (Reg.npHtxTail x) 4 data).rd (Reg.npHtxTail x) = data ∧
      (s.active x = true → s.flag (Reg.npPortCtrl x) 0 = true → s.fld (Reg.npHtxHead x) 11 0 < s.fld (Reg.npHtxSize x) 12 0 →
        s.fld (Reg.npHtxSize x) 12 0 ≤ 4096 →
        (s.writeWord who (Reg.npHtxTail x) 4 data).fld (Reg.npHtxHead x) 11 0 = data % s.fld (Reg.npHtxSize x) 12 0) := by
  obtain ⟨hlaid, hres, hwrite⟩ := State.writeWord_npHtxTail hx hacc
  have htail : (s.rowStored (Reg.npHtxTail x) npHtxTailRow data).rd (Reg.npHtxTail x) = data :=
    State.rowStored_index hlaid (by decide) h32 hres
  have hwords : ∀ a, a ≠ Reg.npHtxTail x → (s.rowStored (Reg.npHtxTail x) npHtxTailRow data).rd a = s.rd a := fun a => State.rowStored_rd _ _ _ _
  have hfov : (s.rowStored (Reg.npHtxTail x) npHtxTailRow data).fov = s.fov := State.rowStored_fov
  rw [hwrite]
  generalize s.rowStored (Reg.npHtxTail x) npHtxTailRow data = r at htail hwords hfov ⊢
  refine ⟨?_, fun hactive hen hhead hlast => ?_⟩
  · rw [State.fovDigest_alarms _ _ (npHtxTail_alarms hx), (r.htxTakeAll_ring x).words _ ⟨npHtxTail_drops, by unfold Reg.npHtxTail Reg.npHtxHead; omega⟩,
      htail]
  · have hkept : WordsKept (· ≠ Reg.npHtxTail x) s r := hwords
    have hsize : r.fld (Reg.npHtxSize x) 12 0 = s.fld (Reg.npHtxSize x) 12 0 := hkept.fld (by unfold Reg.npHtxSize Reg.npHtxTail; omega) 12 0
    have hfrom : r.fld (Reg.npHtxHead x) 11 0 = s.fld (Reg.npHtxHead x) 11 0 := hkept.fld (by unfold Reg.npHtxHead Reg.npHtxTail; omega) 11 0
    have huse : r.active x = s.active x := by
      unfold State.active State.dieUsable State.linkUp
      have hdom0 : Reg.pwrDomStat0 ≠ Reg.npHtxTail x := by unfold Reg.npHtxTail Reg.pwrDomStat0; omega
      have hdom1 : Reg.pwrDomStat1 ≠ Reg.npHtxTail x := by unfold Reg.npHtxTail Reg.pwrDomStat1; omega
      rw [hkept.domOn hdom0 hdom1, hkept.unitState hdom0 hdom1 (by unfold Reg.npHtxTail Reg.svcUnit; omega),
        hkept.flag (by unfold Reg.npHtxTail Reg.npPortStatus; omega), hfov]
    rw [(State.fovDigest_alarms _).fld (npHtxHead_alarms hx), State.htxTakeAll_head (huse.trans hactive)
      ((hkept.flag (by unfold Reg.npHtxTail Reg.npPortCtrl; omega) 0).trans hen) (by rw [hfrom, hsize]; exact hhead) (by rw [hsize]; exact hlast), hsize,
      fld_ringHead (htail.trans (Nat.mod_eq_of_lt h32).symm) (ringIndex_lt (by decide) h32 hres)]

theorem npHrxTail_written (hx : x < 2) (h32 : data < 2 ^ 32) (hacc : s.accepts who (Reg.npHrxTail x) data) :
    let u := s.writeWord who (Reg.npHrxTail x) 4 data
    u.rd (Reg.npHrxTail x) = data ∧ u.dram = s.dram ∧ u.net = s.net.set x { s.path x with
      hrxLeft := ringLen (max 1 (s.fld (Reg.npHrxSize x) 12 0)) (s.fld (Reg.npHrxHead x) 11 0) (bitsOf data 11 0) + 1 } := by
  obtain ⟨hlaid, hres, hwrite⟩ := State.writeWord_npHrxTail hx hacc
  have htail : (s.rowStored (Reg.npHrxTail x) npHrxTailRow data).rd (Reg.npHrxTail x) = data :=
    State.rowStored_index hlaid (by decide) h32 hres
  have hnet : (s.rowStored (Reg.npHrxTail x) npHrxTailRow data).net = s.net := State.rowStored_net
  have hdram : (s.rowStored (Reg.npHrxTail x) npHrxTailRow data).dram = s.dram := s.wr_dram _ _
  rw [hwrite]
  generalize s.rowStored (Reg.npHrxTail x) npHrxTailRow data = r at htail hnet hdram ⊢
  dsimp only
  rw [State.fovDigest_alarms _ _ (npHrxTail_alarms hx), State.fovDigest_dram, State.fovDigest_net, State.rd_setPath, State.setPath_net, hnet, htail]
  exact ⟨rfl, hdram, rfl⟩

/-! ### Gate lists (R367) -/

theorem State.showStart_words (s : State) (x t : Nat) :
    s.wordsBut (s.showStart x t) [Reg.npGclStartSecLo x, Reg.npGclStartSecHi x, Reg.npGclStartNs x] :=
  State.wordsBut_wr (State.wordsBut_wr (State.wordsBut_wr (State.wordsBut_refl _ _) (by simp)) (by simp)) (by simp)

theorem State.showStart_net (s : State) (x t : Nat) : (s.showStart x t).net = s.net := State.showStart_kept.net.resolve_left (by decide)

theorem npGclCtrl_start (x : Nat) : Reg.npGclCtrl x ∉ [Reg.npGclStartSecLo x, Reg.npGclStartSecHi x, Reg.npGclStartNs x] := by
  simp [Reg.npGclCtrl, Reg.npGclStartSecLo, Reg.npGclStartSecHi, Reg.npGclStartNs]

theorem npGclCtrl_sticky (hx : x < 2) : (stickyMask (Reg.npGclCtrl x)).testBit 31 = true := by
  interval_cases x <;> decide

/-- The trigger bits of GCL_CTRL as a write leaves them. -/
theorem npGclCtrl_go (hlaid : npGclCtrlRow.laid = true) (hx : x < 2) (hgo : bitOf data 31 = true) :
    (s.rowStored (Reg.npGclCtrl x) npGclCtrlRow data).flag (Reg.npGclCtrl x) 31 = true := by
  rw [State.flag, bitOf_testBit, State.rowStored, State.rd_wr_stored_testBit (f := fAny 31 31 .w1s) hlaid (by decide) (by decide) (by decide),
    npGclCtrl_sticky hx, ← bitOf_testBit data, hgo]
  exact Bool.or_true _

/-- The list that GO makes pending on die `x`. -/
def State.gclPrepared (s : State) (x : Nat) : GclList :=
  { bank := 1 - (s.path x).gclBank, cycle := s.rd (Reg.npGclCycle x), base := s.gclBase x,
    start := gclStart (s.gclBase x) (s.rd (Reg.npGclCycle x)) s.device,
    entries := s.gclEntries x (1 - (s.path x).gclBank) (s.fld (Reg.npGclLen x) 8 0) }

theorem State.gclGo_eq (s : State) (x : Nat) :
    s.gclGo x = (s.setPath x { s.path x with gclPend := some (s.gclPrepared x) }).showStart x (s.gclPrepared x).start := rfl

theorem State.wr_device (s : State) (a v : Nat) : (s.wr a v).device = s.device := by
  simp only [State.device, State.deviceAt, State.wr_timBase, State.wr_timAnchor, State.wr_timRate, State.wr_now]

theorem npGclCtrl_goes (hx : x < 2) (hgo : bitOf data 31 = true) (hacc : s.accepts who (Reg.npGclCtrl x) data) :
    let u := s.writeWord who (Reg.npGclCtrl x) 4 data
    u.flag (Reg.npGclCtrl x) 31 = true ∧ ∃ g, u.net = s.net.set x { s.path x with gclPend := some g } ∧ g.bank = 1 - (s.path x).gclBank ∧
      g.cycle = s.rd (Reg.npGclCycle x) ∧ g.start = gclStart (s.gclBase x) (s.rd (Reg.npGclCycle x)) s.device := by
  obtain ⟨hlaid, -, hwrite⟩ := State.writeWord_npGclCtrl hx hacc
  have hflag := npGclCtrl_go (s := s) hlaid hx hgo
  have hwords : ∀ a, a ≠ Reg.npGclCtrl x → (s.rowStored (Reg.npGclCtrl x) npGclCtrlRow data).rd a = s.rd a := fun a => State.rowStored_rd _ _ _ _
  have hnet : (s.rowStored (Reg.npGclCtrl x) npGclCtrlRow data).net = s.net := State.rowStored_net
  have hdevice : (s.rowStored (Reg.npGclCtrl x) npGclCtrlRow data).device = s.device := State.wr_device _ _ _
  rw [hwrite, State.npEffect, if_neg (by decide), if_neg (by decide), if_neg (by decide), if_pos (by decide), if_pos hgo, State.gclGo_eq]
  generalize s.rowStored (Reg.npGclCtrl x) npGclCtrlRow data = r at hflag hwords hnet hdevice ⊢
  have hcycle : r.rd (Reg.npGclCycle x) = s.rd (Reg.npGclCycle x) := hwords _ (by unfold Reg.npGclCycle Reg.npGclCtrl; omega)
  have hbase : r.gclBase x = s.gclBase x := by
    rw [State.gclBase, State.fld, hwords _ (by unfold Reg.npGclBaseSecLo Reg.npGclCtrl; omega),
      hwords _ (by unfold Reg.npGclBaseSecHi Reg.npGclCtrl; omega), hwords _ (by unfold Reg.npGclBaseNs Reg.npGclCtrl; omega), ← State.fld,
      ← State.gclBase]
  refine ⟨?_, r.gclPrepared x, ?_, ?_, hcycle, ?_⟩
  · rw [(State.fovDigest_alarms _).flag (npGclCtrl_alarms hx), State.flag, State.showStart_words _ _ _ _ (npGclCtrl_start x), State.rd_setPath,
      ← State.flag, hflag]
  · rw [State.fovDigest_net, State.showStart_net, State.setPath_net, hnet, State.path_of_net hnet]
  · rw [State.gclPrepared, State.path_of_net hnet]
  · rw [State.gclPrepared, hbase, hcycle, hdevice]

theorem npGclCtrl_cancels (hx : x < 2) (hcancel : bitOf data 30 = true) (hacc : s.accepts who (Reg.npGclCtrl x) data) :
    let u := s.writeWord who (Reg.npGclCtrl x) 4 data
    u.flag (Reg.npGclCtrl x) 31 = false ∧ u.net = s.net.set x { s.path x with gclPend := none } := by
  obtain ⟨-, hone, hwrite⟩ := State.writeWord_npGclCtrl hx hacc
  have hgo : ¬ bitOf data 31 = true := fun h => by simp [h, hcancel] at hone
  have hnet : (s.rowStored (Reg.npGclCtrl x) npGclCtrlRow data).net = s.net := State.rowStored_net
  rw [hwrite, State.npEffect, if_neg (by decide), if_neg (by decide), if_neg (by decide), if_pos (by decide), if_neg hgo, if_pos hcancel]
  generalize s.rowStored (Reg.npGclCtrl x) npGclCtrlRow data = r at hnet ⊢
  dsimp only
  constructor
  · rw [(State.fovDigest_alarms _).flag (npGclCtrl_alarms hx), State.flag, State.showStart_words _ _ _ _ (npGclCtrl_start x), ← State.flag,
      State.flag_setFlag_same _ _ _ _ (by decide)]
  · rw [State.fovDigest_net, State.showStart_net, State.setFlag_net, State.setPath_net, hnet, State.path_of_net hnet]

/-- The pending list takes force at its start. -/
theorem State.gclSwitch_due {g : GclList} (hpend : (s.path x).gclPend = some g) (hstart : g.start ≤ s.device) :
    s.gclSwitch x = ((s.setPath x { s.path x with gclPend := none, gclForce := some g, gclBank := g.bank, gclHold := none }).setFlag
      (Reg.npGclCtrl x) 31 false).raise (npBase x 0) 4 := by
  rw [State.gclSwitch]
  dsimp only
  rw [hpend]
  exact if_pos hstart

@[simp] theorem settle_path (s : State) (x : Nat) : (settle s).path x = s.path x := State.path_of_net (settle_net s) x

@[simp] theorem settle_queue (s : State) (x q : Nat) : (settle s).queue x q = s.queue x q := by rw [State.queue, settle_path, ← State.queue]

theorem State.queue_of_net (h : t.net = s.net) (x q : Nat) : t.queue x q = s.queue x q := by rw [State.queue, State.path_of_net h, ← State.queue]

theorem npQStatTx_switch (hx : x < 2) (hq : q < 16) : outsideSwitch (Reg.npQStatTx x q) := by
  unfold outsideSwitch Reg.npQStatTx Reg.fovLastSwitch Reg.fovSwPhases Reg.fovStat Reg.fovCtrl
  omega

theorem npPtpStat_switch (hx : x < 2) : outsideSwitch (Reg.npPtpStat x 2) := by
  unfold outsideSwitch Reg.npPtpStat Reg.fovLastSwitch Reg.fovSwPhases Reg.fovStat Reg.fovCtrl
  omega

theorem State.announceEnd_outKept (s : State) : OutKept s s.announceEnd := by
  unfold State.announceEnd
  split
  · split
    · exact .refl s
    · exact .same (by rw [State.raise_out, State.setFld_out, State.add_out, State.wr_out, State.wr_out])
  · exact .refl s

@[simp] theorem settle_linkUp (s : State) (x : Nat) : (settle s).linkUp x = s.linkUp x := settle_flag _ _ _

theorem State.linkSet_net (s : State) (x : Nat) (up : Bool) : (s.linkSet x up).net = s.net := State.linkSet_kept.net.resolve_left (by decide)

theorem State.linkSet_flag (s : State) (hx : x < 2) {up : Bool} (hi : i ≠ 0) :
    (s.linkSet x up).flag (Reg.npPortStatus x) i = s.flag (Reg.npPortStatus x) i := by
  rw [State.flag, s.linkSet_status hx, ← State.flag, State.flag_setFlag_other _ _ _ _ _ (by decide) hi]

theorem npPortStatus_ring (x : Nat) : outsideRing x (Reg.npPortStatus x) := by
  unfold outsideRing outsideDrops Reg.npPortStatus Reg.npHtxHead Reg.npQDrop npBase
  omega

end

/-- Settles O45: a link by how long it has been lost or good, a frame by its queue, then the tails and the gate lists by what their
writes start. -/
theorem linksAndEgress : Obligations.LinksAndEgress := by
  unfold Obligations.LinksAndEgress
  intro s x t who data hx
  have h32 : data.toNat < 2 ^ 32 := data.isLt
  refine ⟨fun al lf rf hlen hon hup hbad => ?_, fun hlen huse hen hdown hlanes => ?_,
    fun q f rest hstop hshdn huse hup hlanes hsw hfree hgates hq hframes => ?_, fun hacc => ?_, fun hacc => ?_, fun hacc => ?_, fun hacc => ?_,
    fun g hpend hstart => ?_⟩
  · have hrun := State.linkLost_fault (s := s.at t) hx hlen hon hup hbad
    have hflags := State.pcsSeen_flags (s.at t) x al lf rf
    have hpath : ((s.at t).pcsSeen x al lf rf).path x =
        { s.path x with faultAt := some ((s.path x).faultAt.getD (max s.now t)), goodAt := none } := by
      rw [State.pcsSeen_fault hbad, State.path_setPath_same _ (by rw [State.pcsShown_net]; exact hlen)]
      rfl
    have hfov : ((s.at t).pcsSeen x al lf rf).fov = s.fov := State.pcsSeen_fov _ _ _ _ _
    have hnow : ((s.at t).pcsSeen x al lf rf).now = max s.now t := State.pcsSeen_now _ _ _ _ _
    split at hrun
    case isTrue hlong =>
      refine ⟨_, congrArg finish ((if_pos hx).trans hrun), ?_⟩
      rw [settle_path, settle_linkUp, settle_fov, settle_flag, settle_flag, settle_flag, settle_flag, State.path_of_net (State.linkSet_net _ _ _), hpath,
        State.linkSet_linkUp _ hx, State.linkSet_lostAt, State.linkSet_event _ hx, State.linkSet_flag _ hx (by decide),
        State.linkSet_flag _ hx (by decide), State.linkSet_flag _ hx (by decide), hfov, hnow]
      exact ⟨rfl, rfl, hflags.2.1, hflags.2.2.1, hflags.2.2.2, fun _ => ⟨rfl, rfl, rfl⟩, fun hshort => absurd hlong (Nat.not_le.2 hshort)⟩
    case isFalse hshort =>
      refine ⟨_, congrArg finish ((if_pos hx).trans hrun), ?_⟩
      rw [settle_path, settle_linkUp, settle_fov, settle_flag, settle_flag, settle_flag, hpath, hfov, hflags.1]
      exact ⟨rfl, rfl, hflags.2.1, hflags.2.2.1, hflags.2.2.2, fun hlong => absurd hlong hshort, fun _ => ⟨hup, rfl⟩⟩
  · have hrun := State.linkBack_good (s := s.at t) hlen huse hen (State.lanesReady_of hlanes) hdown
    have hpath : ((s.at t).pcsSeen x true false false).path x =
        { s.path x with faultAt := none, goodAt := some ((s.path x).goodAt.getD (max s.now t)) } := by
      rw [State.pcsSeen_good, State.path_setPath_same _ (by rw [State.pcsShown_net]; exact hlen)]
      rfl
    have hfov : ((s.at t).pcsSeen x true false false).fov = s.fov := State.pcsSeen_fov _ _ _ _ _
    have hnow : ((s.at t).pcsSeen x true false false).now = max s.now t := State.pcsSeen_now _ _ _ _ _
    have hstill : ((s.at t).pcsSeen x true false false).linkUp x = false := ((State.pcsSeen_flags (s.at t) x true false false).1).trans hdown
    have hnvs : ((s.at t).pcsSeen x true false false).nvs = s.nvs := State.pcsSeen_kept.nvs.resolve_left (by decide)
    generalize (s.at t).pcsSeen x true false false = p at hrun hpath hfov hnow hstill hnvs
    split at hrun
    case isTrue hlong =>
      have hshown : ((p.linkSet x true).htxTakeAll x).linkUp x = true := by
        rw [State.linkUp, (State.htxTakeAll_ring _ x).words.flag (npPortStatus_ring x), ← State.linkUp, State.linkSet_linkUp _ hx]
      refine ⟨_, congrArg finish ((if_pos hx).trans ((congrArg (fun v => State.linkUpMark v x (s.linkUp x)) hrun).trans
        (State.linkUpMark_up hshown hdown))), ?_⟩
      have hring := (p.linkSet x true).htxTakeAll_ring x
      have hring1 : ((p.linkSet x true).htxTakeAll x).fov = (p.linkSet x true).fov := State.htxTakeAll_kept.fov.resolve_left (by decide)
      have hring2 : ((p.linkSet x true).htxTakeAll x).nvs = s.nvs :=
        (State.htxTakeAll_kept.nvs.resolve_left (by decide)).trans ((State.linkSet_kept.nvs.resolve_left (by decide)).trans hnvs)
      have hring3 : ((p.linkSet x true).htxTakeAll x).now = max s.now t :=
        (State.htxTakeAll_kept.now.resolve_left (by decide)).trans ((State.linkSet_kept.now.resolve_left (by decide)).trans hnow)
      have hevent : ((p.linkSet x true).htxTakeAll x).flag (npBase x 0 + 0x10) 0 = true := hring.events 0 (by decide) (State.linkSet_event _ hx _)
      have hgood := (hring.queues.goodAt x).trans (congrArg NetPath.goodAt ((State.path_of_net (p.linkSet_net x true) x).trans hpath))
      have hfault := (hring.queues.faultAt x).trans (congrArg NetPath.faultAt ((State.path_of_net (p.linkSet_net x true) x).trans hpath))
      have hlost : ((p.linkSet x true).htxTakeAll x).fov.lostAt = s.fov.lostAt.set x none := by
        rw [hring1, State.linkSet_lostAt, hfov]
        rfl
      generalize (p.linkSet x true).htxTakeAll x = r at hshown hring2 hring3 hevent hgood hfault hlost
      rw [settle_path, settle_linkUp, settle_fov, settle_nvs, settle_flag]
      exact ⟨hgood, hfault, fun _ => ⟨hshown, hlost, by rw [State.upNoted, hring2, hring3], hevent⟩, fun hshort => absurd hlong (Nat.not_le.2 hshort)⟩
    case isFalse hshort =>
      refine ⟨_, congrArg finish ((if_pos hx).trans ((congrArg (fun v => State.linkUpMark v x (s.linkUp x)) hrun).trans
        (State.linkUpMark_down hstill))), ?_⟩
      rw [settle_path, settle_linkUp, settle_fov, hpath, hfov, hstill]
      exact ⟨rfl, rfl, fun hlong => absurd hlong hshort, fun _ => ⟨rfl, rfl⟩⟩
  · have hrun := State.transmit_chosen (s := s.at t) huse hup hlanes hsw hfree hgates hq hframes
    have hlt := State.chosen_lt hq
    obtain ⟨hrest, hbusy⟩ := State.frameSent_path (s := s.at t) hframes
    have hcount := State.frameSent_counts (s.at t) hx hlt f
    have hout := State.frameSent_out (s.at t) x q f
    have hdreq : ∀ n tr a b, f.frame = .delayReq n tr a b →
        ((s.at t).frameSent x q f).rd (Reg.npPtpStat x 2) = (s.rd (Reg.npPtpStat x 2) + 1) % 2 ^ 32 :=
      fun _ _ _ _ hf => State.frameSent_dreq _ hx hf hlt
    have hegress : s.egressOn = true := by simp [State.egressOn, hstop, hshdn]
    refine ⟨_, congrArg finish ((if_pos ⟨hx, hegress⟩).trans (congrArg State.announceEnd hrun)), ?_⟩
    generalize (s.at t).frameSent x q f = r at hrest hbusy hcount hout hdreq
    have hnet : r.announceEnd.net = r.net := State.announceEnd_kept.net.resolve_left (by decide)
    have hkept : OutKept r (settle r.announceEnd) := fun o ho => settle_outKept _ o (State.announceEnd_outKept r o ho)
    rw [settle_path, settle_queue, settle_rd, settle_rd, State.path_of_net hnet, State.queue_of_net hnet, State.announceEnd_words _ _ (npQStatTx_switch hx hlt),
      State.announceEnd_words _ _ (npPtpStat_switch hx)]
    exact ⟨hkept _ hout, hrest, hdreq, hbusy, hcount⟩
  · obtain ⟨htail, hhead⟩ := npHtxTail_written hx h32 hacc
    refine ⟨_, rfl, ?_⟩
    rw [settle_rd, settle_fld]
    exact ⟨htail, hhead⟩
  · obtain ⟨htail, hdram, hnet⟩ := npHrxTail_written hx h32 hacc
    refine ⟨_, rfl, ?_⟩
    rw [settle_rd, settle_dram, settle_net]
    exact ⟨htail, hdram, hnet⟩
  · obtain ⟨hflag, g, hnet, hbank, hcycle, hstart⟩ := npGclCtrl_goes hx (bitOf_putBits_one _ _) hacc
    refine ⟨_, g, rfl, ?_⟩
    rw [settle_flag, settle_net]
    exact ⟨hflag, hnet, hbank, hcycle, hstart⟩
  · obtain ⟨hflag, hnet⟩ := npGclCtrl_cancels hx (bitOf_putBits_one _ _) hacc
    refine ⟨_, rfl, ?_⟩
    rw [settle_flag, settle_net]
    exact ⟨hflag, hnet⟩
  · have hrun := State.gclSwitch_due (s := s.at t) hpend hstart
    refine ⟨_, congrArg finish ((if_pos hx).trans hrun), ?_⟩
    rw [settle_flag, settle_flag, settle_net, State.raise_net, State.setFlag_net, State.flag_raise_same _ _ _ (by decide), State.flag,
      State.rd_raise_ne _ _ (by unfold Reg.npGclCtrl npBase; omega), ← State.flag, State.flag_setFlag_same _ _ _ _ (by decide)]
    exact ⟨rfl, rfl, rfl⟩

end Sys2Proof.Machine

/-! SUPPORT. The grant and what moves it, and O46 (R370-R374, R383). -/

namespace Sys2Proof.Machine

section
variable {s t u : State} {who : Requester} {x y n i data : Nat}

/-! ### What stays sent -/

/-- What has left the package, messages of vectors apart, is still recorded. -/
def SentKept (s t : State) : Prop := ∀ o ∈ s.sent, o ∈ t.sent

theorem SentKept.of_sent (h : t.sent = s.sent) : SentKept s t := fun _ ho => h ▸ ho

theorem SentKept.refl (s : State) : SentKept s s := .of_sent rfl

theorem SentKept.trans (h : SentKept s t) (k : SentKept t u) : SentKept s u := fun o ho => k o (h o ho)

theorem SentKept.emit (h : SentKept s t) (o : Out) : SentKept s (t.emit o) := fun p hp => by
  obtain ⟨hout, hkind⟩ := List.mem_filter.1 (h p hp)
  exact List.mem_filter.2 ⟨List.mem_cons_of_mem _ hout, hkind⟩

theorem SentKept.foldl {α : Type} {g : State → α → State} (l : List α) (s : State) (k : ∀ r a, SentKept r (g r a)) : SentKept s (l.foldl g s) := by
  induction l generalizing s with
  | nil => exact .refl s
  | cons a l ih =>
    rw [List.foldl_cons]
    exact (k s a).trans (ih _)

theorem SentKept.ite {c : Prop} [Decidable c] (ht : SentKept s t) (hu : SentKept s u) : SentKept s (if c then t else u) := by
  split
  exacts [ht, hu]

theorem settle_sentKept (s : State) : SentKept s (settle s) := .of_sent (settle_kept.out.resolve_left (Nat.zero_testBit _ ▸ Bool.false_ne_true))

/-! ### A die takes its lanes into use (R435) -/

theorem State.laneIdle_sentKept (s : State) (n : Nat) : SentKept s (s.laneIdle n) := by
  unfold State.laneIdle
  exact .ite (.emit (.of_sent rfl) _) (.refl s)

/-- Loops and patterns of a lane in use return to 0. -/
def State.laneFreed (s : State) (n : Nat) : State :=
  if s.laneInUse n then (s.setFld (Reg.lnkLCtrl n) 1 0 0).setFld (Reg.lnkLCtrl n) 5 4 0 else s

/-- The values that a bring-up begins with: those of the source in force at the lane's temperature. -/
def State.laneLoaded (s : State) (n : Nat) : State :=
  let r := s.laneRound n (s.laneTemp n)
  let w := (r.lane n).target
  r.setEqNow n (if lanePcie n then w.set 0 (r.rd (Reg.lnkLTxeqNow n)) else w)

/-- A lane in bring-up, before it sends. -/
def State.laneBegun (s : State) (n : Nat) : State := ((s.scanDrop n).setFlag (Reg.lnkLStatus n) 3 false).setLaneState n 1

theorem State.laneRun_eq (s : State) (n : Nat) (load : Bool) :
    s.laneRun n load = ((if load then (s.laneFreed n).laneLoaded n else s.laneFreed n).laneBegun n).laneIdle n := rfl

theorem State.laneFreed_kept : Kept 0 s (s.laneFreed n) := .ite (.step State.setFld_kept rfl (.step State.setFld_kept rfl (.refl _ _))) (.refl _ _)

theorem State.laneLoaded_kept : Kept 67108864 s (s.laneLoaded n) := .step State.setEqNow_kept rfl (.step State.laneRound_kept rfl (.refl _ _))

theorem State.laneBegun_kept : Kept 67108864 s (s.laneBegun n) :=
  .step State.setLaneState_kept rfl (.step State.setFlag_kept rfl (.step State.scanDrop_kept rfl (.refl _ _)))

theorem State.laneRun_sentKept (s : State) (n : Nat) (load : Bool) : SentKept s (s.laneRun n load) := by
  have hfreed : (s.laneFreed n).sent = s.sent := State.laneFreed_kept.out.resolve_left (by decide)
  have hload : ((s.laneFreed n).laneLoaded n).sent = s.sent := (State.laneLoaded_kept.out.resolve_left (by decide)).trans hfreed
  have hbegun : ∀ r : State, r.sent = s.sent → SentKept s ((r.laneBegun n).laneIdle n) := fun r hr =>
    .trans (.of_sent ((State.laneBegun_kept.out.resolve_left (by decide)).trans hr)) (State.laneIdle_sentKept _ _)
  rw [State.laneRun_eq]
  split
  exacts [hbegun _ hload, hbegun _ hfreed]

theorem State.laneTaken_sentKept (s : State) (n : Nat) : SentKept s (s.laneTaken n) := by
  unfold State.laneTaken State.laneStart
  exact .ite (.trans (.of_sent (State.setLane_kept.out.resolve_left (by decide))) (State.laneRun_sentKept _ _ _)) (.refl s)

/-- Die `y` takes its lanes into use. -/
def State.lanesTaken (s : State) (y : Nat) : State := (List.range 8).foldl (fun s i => s.laneTaken (52 + 8 * y + i)) s

theorem State.lanesTaken_fov (s : State) (y : Nat) : (s.lanesTaken y).fov = s.fov :=
  (Kept.foldl (F := 34426849280) (Kept.refl _ s) (fun _ _ h => State.laneTaken_kept.step rfl h)).fov.resolve_left (by decide)

theorem State.lanesTaken_sentKept (s : State) (y : Nat) : SentKept s (s.lanesTaken y) := .foldl _ _ (fun _ _ => State.laneTaken_sentKept _ _)

/-! ### The grant moves (R374, R375) -/

/-- What the die that loses the grant leaves behind. -/
def State.released (s : State) (y : Nat) : State := ((s.dieReleased (1 - y)).servoSwap (1 - y) y).setFlag (Reg.npPtpStatus (1 - y)) 9 false

/-- Die `y` holds the grant, with the switch-over `w` under way. -/
def State.granted (s : State) (y : Nat) (w : SwitchOver) : State :=
  { s with fov := { s.fov with holder := y, standby := 2, request := none, transit := none, missed := 0, silent := false, announcing := none, sw := some w } }

/-- The switch-over to die `y`: it is warm where the standby is armed with a snapshot and the mirror link is powered (R383). -/
def State.takeover (s : State) (y cause detect released : Nat) : SwitchOver :=
  { cause := cause, detect := detect, released := released, granted := some (s.released y).now, restored := none,
    cold := !(s.fov.armed && s.role y == 3 && s.fov.snap.isSome && s.domOn 34) }

theorem State.moveGrant_eq (s : State) (y cause detect released : Nat) : s.moveGrant y cause detect released =
    (((s.released y).granted y (s.takeover y cause detect released)).emit (.ilkObs y)).fovArm.lanesTaken y := rfl

theorem State.released_now (s : State) (y : Nat) : (s.released y).now = s.now := by
  rw [State.released, State.setFlag_now]
  exact (State.servoSwap_kept.now.resolve_left (by decide)).trans (State.dieReleased_kept.now.resolve_left (by decide))

/-- The grant is with die `y`, the switch-over goes on from the present instant, and the other die learns of it. -/
theorem State.moveGrant_spec (s : State) (y cause detect released : Nat) :
    let u := s.moveGrant y cause detect released
    u.fov.holder = y ∧ u.fov.request = none ∧
    (∃ w, u.fov.sw = some w ∧ w.cause = cause ∧ w.detect = detect ∧ w.granted = some s.now) ∧ .ilkObs y ∈ u.sent := by
  intro u
  have hu : u = _ := State.moveGrant_eq s y cause detect released
  have hnow : (s.takeover y cause detect released).granted = some s.now := congrArg some (s.released_now y)
  obtain ⟨a, ha⟩ := State.fovArm_fov (((s.released y).granted y (s.takeover y cause detect released)).emit (.ilkObs y))
  have hfov : u.fov = _ := (congrArg State.fov hu).trans ((State.lanesTaken_fov _ y).trans ha)
  have hsent : SentKept (((s.released y).granted y (s.takeover y cause detect released)).emit (.ilkObs y)) u := by
    rw [hu]
    exact .trans (.of_sent (State.fovArm_kept.out.resolve_left (by decide))) (State.lanesTaken_sentKept _ y)
  rw [hfov]
  exact ⟨rfl, rfl, ⟨_, rfl, rfl, rfl, hnow⟩, hsent _ (List.mem_filter.2 ⟨List.mem_cons_self, rfl⟩)⟩

/-- What a die needs to hold the grant is its domain, its link and its heartbeat. -/
theorem State.qualifies_congr {K : Nat → Prop} (h : WordsKept K s t) (h0 : K Reg.pwrDomStat0) (h1 : K Reg.pwrDomStat1) (hlink : K (Reg.npPortStatus x))
    (hbeat : t.fov.beat = s.fov.beat) (hnow : t.now = s.now) : t.qualifies x = s.qualifies x := by
  unfold State.qualifies State.linkUp
  rw [h.domOn h0 h1, h.flag hlink, hbeat, hnow]

end

end Sys2Proof.Machine

/-! SUPPORT. Causes of a switch-over, and O46 (R370-R374, R383). -/

namespace Sys2Proof.Machine

section
variable {s t u : State} {who : Requester} {x y n i c data : Nat}

theorem State.sent_out {o : Out} (h : o ∈ s.sent) : o ∈ (settle s).out := (List.mem_filter.1 (settle_sentKept s o h)).1

/-! ### Heartbeats (R370, R374) -/

theorem State.heartbeat_arbiter (hon : s.domOn (32 + x) = true) : s.heartbeat x false =
    { s with fov := { s.fov with beat := s.fov.beat.set x (some s.now), silent := s.fov.silent && s.fov.holder != x } } := by
  rw [State.heartbeat, hon]
  rfl

theorem State.heartbeat_mirror (hon : s.domOn (32 + x) = true) (hholder : s.fov.holder = x) (hlanes : ∀ i, i < 4 → s.laneState (80 + i) = 2) :
    s.heartbeat x true = { s with fov := { s.fov with mirrorBeat := some s.now, mirrorUp := true } } := by
  have hall : (List.range 4).all (fun i => s.laneState (80 + i) == 2) = true := by simpa using hlanes
  rw [State.heartbeat, hon, hholder, hall]
  simp

/-- The holder's silence is noted, and counted once. -/
def State.silence (s : State) : State :=
  if s.fov.silent then s else ({ s with fov := { s.fov with silent := true } } : State).add (Reg.fovStat 3) 1

theorem fovStat_ne_status (x : Nat) : Reg.npPortStatus x ≠ Reg.fovStat 3 := by
  unfold Reg.npPortStatus Reg.fovStat
  omega

theorem State.silence_words (s : State) : WordsKept (· ≠ Reg.fovStat 3) s s.silence := by
  unfold State.silence
  exact .ite (.refl _ s) (.add (.regs (.refl _ s) rfl) (fun h => h rfl))

theorem State.silence_fov (s : State) : s.silence.fov = { s.fov with silent := true } := by
  unfold State.silence
  split
  case isTrue h => rw [← h]
  case isFalse => rw [State.add_fov]

theorem State.silence_kept : Kept 4194304 s s.silence := .ite (.refl _ _) (.step State.add_kept rfl (.u4194304 (.refl _ _) rfl))

theorem State.silence_qualifies (s : State) (x : Nat) : s.silence.qualifies x = s.qualifies x :=
  State.qualifies_congr s.silence_words (by decide) (by decide) (fovStat_ne_status x) ((congrArg Fov.beat s.silence_fov).trans rfl)
    (State.silence_kept.now.resolve_left (by decide))

/-- A holder that has been silent long enough loses the grant to a die that qualifies. -/
theorem State.beatLoss_moves {b : Nat} (hbeat : (s.fov.beat.getD s.fov.holder none).getD 0 = b) (hlate : b + 50 * us ≤ s.now) (hsw : s.fov.sw = none)
    (hq : s.qualifies (1 - s.fov.holder) = true) : s.beatLoss = s.silence.moveGrant (1 - s.fov.holder) 2 b s.now := by
  rw [State.beatLoss]
  dsimp only
  rw [hbeat, if_pos ⟨hlate, hsw⟩, ← State.silence, State.silence_qualifies, hq, if_pos rfl]

/-- Else it keeps the grant. -/
theorem State.beatLoss_keeps {b : Nat} (hbeat : (s.fov.beat.getD s.fov.holder none).getD 0 = b) (hlate : b + 50 * us ≤ s.now) (hsw : s.fov.sw = none)
    (hq : s.qualifies (1 - s.fov.holder) = false) : s.beatLoss = s.silence ∨ s.beatLoss = s.silence.keepGrant := by
  rw [State.beatLoss]
  dsimp only
  rw [hbeat, if_pos ⟨hlate, hsw⟩, ← State.silence, State.silence_qualifies, hq, if_neg Bool.false_ne_true]
  split
  exacts [.inl rfl, .inr rfl]

/-! ### Releases (R374) -/

/-- The switch-over that begins with a release for cause `c`. -/
def State.releaseOf (s : State) (c : Nat) : SwitchOver :=
  { cause := c, detect := if c = 1 then (s.path s.fov.holder).faultAt.getD s.now else s.now, released := s.now, granted := none, restored := none,
    cold := false }

/-- The grant is released for cause `c`. -/
def State.releasedFor (s : State) (c : Nat) : State :=
  { s with fov := { s.fov with fault := s.fov.fault.set s.fov.holder false, sw := some (s.releaseOf c) } }

/-- An internal fault of the holder is noted. -/
def State.faulted (s : State) : State := { s with fov := { s.fov with fault := s.fov.fault.set s.fov.holder true } }

/-- The cause for which the holder would release the grant; 0 for none. -/
def State.releaseCause (s : State) : Nat :=
  if s.fov.fault.getD s.fov.holder false then 3
  else match s.fov.request with
    | some c => c
    | none =>
      if !s.linkUp s.fov.holder && s.linkUp (1 - s.fov.holder) && s.flag Reg.fovCtrl 0 then 1
      else if s.fov.force.getD (1 - s.fov.holder) false && !s.fov.force.getD s.fov.holder false && s.qualifies (1 - s.fov.holder) then 5 else 0

theorem State.release_cause (hsw : s.fov.sw = none) (hc : s.releaseCause = c) (hany : c ≠ 0) : s.release false = s.releasedFor c := by
  have hrun : s.release false = if s.releaseCause = 0 ∨ s.fov.sw ≠ none then s else s.releasedFor s.releaseCause := rfl
  rw [hrun, hc, if_neg (by simp [hany, hsw])]

theorem State.release_fault (hsw : s.fov.sw = none) (hholder : s.fov.holder < s.fov.fault.length) : s.release true = s.faulted.releasedFor 3 := by
  have hc : s.faulted.releaseCause = 3 := if_pos (by simp [State.faulted, hholder])
  exact State.release_cause (s := s.faulted) hsw hc (by decide)

/-! ### The grant, or its return (R374) -/

theorem State.grant_moves {w : SwitchOver} (hsw : s.fov.sw = some w) (hopen : w.granted = none) (hq : s.qualifies (1 - s.fov.holder) = true) :
    s.grant = s.moveGrant (1 - s.fov.holder) w.cause w.detect w.released := by
  rw [State.grant, hsw]
  dsimp only
  rw [if_pos hopen, hq, if_pos rfl]

/-- The request is over, and the holder goes on. -/
def State.requestOver (s : State) : State := ({ s with fov := { s.fov with sw := none, request := none } } : State).setFld Reg.fovCtrl 9 8 0

theorem State.grant_stays {w : SwitchOver} (hsw : s.fov.sw = some w) (hopen : w.granted = none) (hq : s.qualifies (1 - s.fov.holder) = false) :
    s.grant = (s.requestOver.htxTakeAll s.fov.holder).keepGrant := by
  rw [State.grant, hsw]
  dsimp only
  rw [if_pos hopen, hq, if_neg Bool.false_ne_true]
  rfl

theorem State.keepGrant_words (s : State) : WordsKept (· ≠ 0x120010) s s.keepGrant := by
  unfold State.keepGrant
  exact .ite (.refl _ s) (.raise (.refl _ s) (fun h => h rfl))

theorem fovCtrl_ring (x : Nat) : outsideRing x Reg.fovCtrl := by
  unfold outsideRing outsideDrops Reg.fovCtrl Reg.npHtxHead Reg.npQDrop npBase
  omega

/-! ### Requests (R374, R383) -/

/-- The row of FOV_CTRL. -/
def fovCtrlRow : RegRow := row1 "FOV_CTRL" 0x40 1 [fAny 0 0 .rw, fAny 8 8 .w1s, fAny 9 9 .w1s]

/-- A switch-over of cause `c` is asked for. -/
def State.requested (s : State) (c : Nat) : State := { s with fov := { s.fov with request := some c } }

theorem State.requested_fov (s : State) (c : Nat) : (s.requested c).fov = { s.fov with request := some c } := rfl

theorem State.requested_flag (s : State) (c a i : Nat) : (s.requested c).flag a i = s.flag a i := rfl

/-- An accepted SWITCH asks for a switch-over of cause 4. -/
theorem State.trigger_fovSwitch {data : Word} (hacc : s.accepts who Reg.fovCtrl (putBits data.toNat 8 8 1)) :
    fovCtrlRow.laid = true ∧
      s.trigger who Reg.fovCtrl 8 data = ((s.rowStored Reg.fovCtrl fovCtrlRow (putBits data.toNat 8 8 1)).requested 4).fovArm := by
  refine State.writeWord_starts (i := 0) (p := page 0x12 0 34 0x3F rowsFov) rfl (by decide) (by decide) rfl (by decide) hacc ?_ ?_
  · rw [show ∀ v : State, ∀ old d, v.blockEffect (page 0x12 0 34 0x3F rowsFov) (Reg.fovCtrl % 0x1000) old d = v.fovEffect 0x40 d from fun _ _ _ => rfl,
      State.fovEffect, if_pos rfl, if_pos (bitOf_putBits_one _ _)]
    rfl
  · exact State.fovArm_kept.secu.resolve_left (by decide)

theorem State.linkUp_at (s : State) (t x : Nat) : (s.at t).linkUp x = s.linkUp x := rfl

/-- A bit of a field that is cleared reads 0. -/
theorem State.flag_cleared (s : State) (a : Nat) {hi lo : Nat} (h32 : hi < 32) (hlo : lo ≤ i) (hhi : i ≤ hi) : (s.setFld a hi lo 0).flag a i = false := by
  rw [State.flag, bitOf_testBit, State.rd_setFld_same _ _ _ _ _ (Nat.le_trans hlo hhi) h32, putBits_testBit _ _ _ _ _ (Nat.le_trans hlo hhi),
    if_pos ⟨hlo, hhi⟩, Nat.zero_testBit]

/-- Both pins at once are noted and logged. -/
theorem State.forcePins_both (s : State) :
    s.forcePins true true = ({ s with fov := { s.fov with force := [true, true] } } : State).logIt 0x1200 0 0 [] := rfl

/-- One pin alone asks for its die. -/
theorem State.forcePins_one {a : Bool} (hholder : s.fov.holder ≠ (if a then 0 else 1)) (hq : s.qualifies (if a then 0 else 1) = true) :
    s.forcePins a (!a) = { s with fov := { s.fov with force := [a, !a], request := some 5 } } := by
  have hkept : ({ s with fov := { s.fov with force := [a, !a] } } : State).qualifies (if a then 0 else 1) = s.qualifies (if a then 0 else 1) := rfl
  rw [State.forcePins]
  dsimp only
  rw [if_neg (by simp), hkept, hq, if_pos (by simpa using hholder)]

/-- SWITCH reads 1 until the switch-over is over. -/
theorem fovCtrl_switch {data : Word} (hlaid : fovCtrlRow.laid = true) :
    (s.rowStored Reg.fovCtrl fovCtrlRow (putBits data.toNat 8 8 1)).flag Reg.fovCtrl 8 = true := by
  have hone := bitOf_putBits_one data.toNat 8
  rw [bitOf_testBit] at hone
  rw [State.flag, bitOf_testBit, State.rowStored, State.rd_wr_stored_testBit (f := fAny 8 8 .w1s) hlaid (by decide) (by decide) (by decide), hone]
  exact Bool.or_true _

/-- So does COLD_OK (log entry 134). -/
theorem fovCtrl_cold {data : Word} (hlaid : fovCtrlRow.laid = true) :
    (s.rowStored Reg.fovCtrl fovCtrlRow (putBits data.toNat 8 8 1)).flag Reg.fovCtrl 9 = (s.flag Reg.fovCtrl 9 || bitOf data.toNat 9) := by
  have hkept : bitOf (putBits data.toNat 8 8 1) 9 = bitOf data.toNat 9 := by
    rw [bitOf_eq, bitsOf_putBits_other _ _ _ _ _ _ (by decide) (by decide) (by decide), ← bitOf_eq]
  rw [State.flag, bitOf_testBit, State.rowStored, State.rd_wr_stored_testBit (f := fAny 9 9 .w1s) hlaid (by decide) (by decide) (by decide),
    ← bitOf_testBit (putBits data.toNat 8 8 1), hkept, ← bitOf_testBit (s.rd Reg.fovCtrl), ← State.flag,
    show (stickyMask Reg.fovCtrl).testBit 9 = true by decide]
  exact congrArg (s.flag Reg.fovCtrl 9 || ·) (Bool.and_true _)

end

/-- Settles O46: heartbeats and their absence, the causes of a release, the grant that follows, and the requests of pins and registers. -/
theorem grantMoves : Obligations.GrantMoves := by
  unfold Obligations.GrantMoves
  intro s t
  refine ⟨fun x hx hon => ⟨?_, fun hholder hlanes => ?_⟩, fun b hbeat hlate hsw => ⟨fun hq => ?_, fun hq => ?_⟩, fun hsw hfault => ⟨fun c hreq h0 h1 => ?_,
    fun hreq hdown hup hauto => ?_, fun hholder => ?_, fun hreq hup hforce hother hq => ?_⟩, fun w hsw hopen => ⟨fun hq => ?_, fun hq => ?_⟩, ?_,
    fun a hholder hq => ?_, fun who data hacc => ?_⟩
  · refine ⟨_, congrArg finish ((if_pos hx).trans (State.heartbeat_arbiter (s := s.at t) hon)), ?_⟩
    rw [settle_fov, settle_regs]
    exact ⟨rfl, rfl⟩
  · refine ⟨_, congrArg finish ((if_pos hx).trans (State.heartbeat_mirror (s := s.at t) hon hholder hlanes)), ?_⟩
    rw [settle_fov, settle_regs]
    exact ⟨rfl, rfl⟩
  · obtain ⟨hholder, -, ⟨w, hw, hcause, hdetect, hgranted⟩, hout⟩ := (s.at t).silence.moveGrant_spec (1 - s.fov.holder) 2 b (max s.now t)
    refine ⟨_, w, congrArg finish (State.beatLoss_moves (s := s.at t) hbeat hlate hsw hq), ?_⟩
    rw [settle_fov]
    exact ⟨hholder, hw, hcause, hdetect, hgranted.trans (congrArg some (State.silence_kept.now.resolve_left (by decide))), State.sent_out hout⟩
  · have hfov : (s.at t).silence.keepGrant.fov = (s.at t).silence.fov := State.keepGrant_kept.fov.resolve_left (by decide)
    have hnet : (s.at t).silence.net = s.net := State.silence_kept.net.resolve_left (by decide)
    have hkeep : (s.at t).silence.keepGrant.net = (s.at t).silence.net := State.keepGrant_kept.net.resolve_left (by decide)
    rcases State.beatLoss_keeps (s := s.at t) hbeat hlate hsw hq with hrun | hrun
    all_goals
      refine ⟨_, congrArg finish hrun, ?_⟩
      rw [settle_fov, settle_net]
    · rw [State.silence_fov, hnet]
      exact ⟨rfl, hsw, rfl⟩
    · rw [hfov, hkeep, State.silence_fov, hnet]
      exact ⟨rfl, hsw, rfl⟩
  · have hcause : (s.at t).releaseCause = c := by
      rw [State.releaseCause, State.at_fov, hfault, if_neg Bool.false_ne_true, hreq]
    refine ⟨_, congrArg finish (State.release_cause (s := s.at t) hsw hcause h0), ?_⟩
    rw [settle_fov, State.releasedFor, State.releaseOf, if_neg h1]
    exact ⟨rfl, rfl⟩
  · have hcause : (s.at t).releaseCause = 1 := by
      rw [State.releaseCause, State.at_fov, hfault, if_neg Bool.false_ne_true, hreq]
      exact if_pos (by rw [State.linkUp_at, State.linkUp_at, State.flag_at, hdown, hup, hauto]; rfl)
    refine ⟨_, (s.at t).releaseOf 1, congrArg finish (State.release_cause (s := s.at t) hsw hcause (by decide)), ?_⟩
    rw [settle_fov]
    exact ⟨rfl, rfl, rfl, rfl⟩
  · refine ⟨_, (s.at t).faulted.releaseOf 3, congrArg finish (State.release_fault (s := s.at t) hsw hholder), ?_⟩
    rw [settle_fov]
    exact ⟨rfl, rfl, rfl⟩
  · have hcause : (s.at t).releaseCause = 5 := by
      rw [State.releaseCause, State.at_fov, hfault, if_neg Bool.false_ne_true, hreq]
      dsimp only
      rw [State.linkUp_at, hup, Bool.not_true, Bool.false_and, Bool.false_and, if_neg Bool.false_ne_true]
      exact if_pos (by rw [hforce, hother, hq]; rfl)
    refine ⟨_, (s.at t).releaseOf 5, congrArg finish (State.release_cause (s := s.at t) hsw hcause (by decide)), ?_⟩
    rw [settle_fov]
    exact ⟨rfl, rfl, rfl⟩
  · obtain ⟨hholder, hreq, ⟨v, hv, hcause, -, hgranted⟩, hout⟩ := (s.at t).moveGrant_spec (1 - s.fov.holder) w.cause w.detect w.released
    refine ⟨_, v, congrArg finish (State.grant_moves (s := s.at t) hsw hopen hq), ?_⟩
    rw [settle_fov]
    exact ⟨hholder, hv, hcause, hgranted, hreq, State.sent_out hout⟩
  · refine ⟨_, congrArg finish (State.grant_stays (s := s.at t) hsw hopen hq), ?_⟩
    have hring := (s.at t).requestOver.htxTakeAll_ring s.fov.holder
    have hfov : ((s.at t).requestOver.htxTakeAll s.fov.holder).keepGrant.fov = (s.at t).requestOver.fov :=
      (State.keepGrant_kept.fov.resolve_left (by decide)).trans (State.htxTakeAll_kept.fov.resolve_left (by decide))
    rw [settle_fov, settle_flag, State.at_fov, hfov, (State.keepGrant_words _).flag (by decide), hring.words.flag (fovCtrl_ring _), State.requestOver,
      State.setFld_fov]
    exact ⟨rfl, State.flag_cleared _ _ (by decide) (by decide) (by decide)⟩
  · refine ⟨_, congrArg finish (State.forcePins_both (s.at t)), ?_⟩
    rw [settle_fov]
    exact State.logIt_kept.fov.resolve_left (by decide)
  · refine ⟨_, congrArg finish (State.forcePins_one (s := s.at t) hholder hq), ?_⟩
    rw [settle_fov, settle_regs]
    exact ⟨rfl, rfl⟩
  · obtain ⟨hlaid, hrun⟩ := State.trigger_fovSwitch hacc
    obtain ⟨a, ha⟩ := State.fovArm_fov ((s.rowStored Reg.fovCtrl fovCtrlRow (putBits data.toNat 8 8 1)).requested 4)
    have hwords := State.fovArm_alarms ((s.rowStored Reg.fovCtrl fovCtrlRow (putBits data.toNat 8 8 1)).requested 4)
    refine ⟨_, congrArg finish hrun, ?_⟩
    rw [settle_fov, settle_flag, settle_flag, ha, State.requested_fov, State.rowStored_fov, hwords.flag (by unfold outsideAlarms; decide), hwords.flag (by unfold outsideAlarms; decide),
      State.requested_flag, State.requested_flag]
    exact ⟨rfl, rfl, rfl, fovCtrl_switch hlaid, fovCtrl_cold hlaid⟩

end Sys2Proof.Machine

/-! SUPPORT. What a new holder announces, what a transmission leaves, and the end of a switch-over, for O47 (R361-R366, R375-R378). -/

namespace Sys2Proof.Machine

section
variable {s t u : State} {x y n i k a : Nat} {w : SwitchOver}

/-! ### Announcements (R376) -/

/-- The words outside the port counters and the drop counters of die `y`. -/
def outsideSends (y a : Nat) : Prop := (a < Reg.npStat y 0 ∨ Reg.npStat y 16 ≤ a) ∧ (a < Reg.npQDrop y 0 ∨ Reg.npQDrop y 16 ≤ a)

theorem npStat_sends (hi : i < 16) : ¬ outsideSends y (Reg.npStat y i) := by
  unfold outsideSends Reg.npStat
  omega

theorem npQDrop_sends (hi : i < 16) : ¬ outsideSends y (Reg.npQDrop y i) := by
  unfold outsideSends Reg.npQDrop
  omega

/-- What announcements of die `y` leave: frames in queues, counters, and the numbers of the sessions' datagrams. -/
structure Announced (y : Nat) (s t : State) : Prop where
  fov : t.fov = s.fov
  words : WordsKept (outsideSends y) s t
  queues : QueuesOnly s t
  states : ∀ k, (t.sess k).state = (s.sess k).state

theorem Announced.refl (y : Nat) (s : State) : Announced y s s := ⟨rfl, .refl _ s, .refl s, fun _ => rfl⟩

theorem Announced.trans (h : Announced y s t) (k : Announced y t u) : Announced y s u :=
  ⟨k.fov.trans h.fov, h.words.trans k.words, h.queues.trans k.queues, fun j => (k.states j).trans (h.states j)⟩

theorem Announced.foldl {g : State → Nat → State} (l : List Nat) (s : State) (hy : s.fov.holder = y)
    (k : ∀ r a, r.fov.holder = y → Announced y r (g r a)) : Announced y s (l.foldl g s) := by
  induction l generalizing s with
  | nil => exact .refl y s
  | cons a l ih =>
    rw [List.foldl_cons]
    exact (k s a hy).trans (ih _ (by rw [(k s a hy).fov, hy]))

theorem State.sendNow_announced (s : State) (y : Nat) (f : Egress) : Announced y s (s.sendNow y f) := by
  refine ⟨State.sendNow_kept.fov.resolve_left (by decide), ?_, .of_net (State.sendNow_kept.net.resolve_left (by decide)),
    fun k => congrArg Session.state (State.sess_of_ing (State.sendNow_kept.ing.resolve_left (by decide)) k)⟩
  unfold State.sendNow
  exact .ite (.refl _ s) (.add64 (.add (.emit (.regs (.refl _ s) rfl)) (npStat_sends (by decide))) (npStat_sends (by decide))
    (npStat_sends (by decide)))

theorem State.kstBuild_state (s : State) (k type : Nat) (payload : List Byte) (j : Nat) :
    ((s.kstBuild k type payload).2.sess j).state = (s.sess j).state := by
  by_cases hj : j = k
  · subst hj
    by_cases hlt : j < s.ing.sessions.length
    · exact (congrArg Session.state (State.sess_setSess_same { s.sess j with egress := (s.sess j).egress + 1 } hlt)).trans rfl
    · have hnone : (s.setSess j { s.sess j with egress := (s.sess j).egress + 1 }).sess j = s.sess j := by
        simp [State.sess, State.setSess, List.set_eq_of_length_le (Nat.le_of_not_lt hlt)]
      exact congrArg Session.state hnone
  · exact congrArg Session.state (State.sess_setSess_ne s { s.sess k with egress := (s.sess k).egress + 1 } hj)

theorem State.enqueue_announced (s : State) (x : Nat) {q : Nat} (hq : q < 16) (f : EgFrame) : Announced x s (s.enqueue x q f) := by
  refine ⟨State.enqueue_kept.fov.resolve_left (by decide), ?_, ((DropsOnly.refl x s).enqueue hq f).queues,
    fun k => congrArg Session.state (State.sess_of_ing (State.enqueue_kept.ing.resolve_left (by decide)) k)⟩
  unfold State.enqueue
  exact .ite (.add (.refl _ s) (npQDrop_sends hq)) (fun _ _ => rfl)

theorem npEgMap_queue (s : State) (x : Nat) : s.fld (Reg.npEgMap x) 3 0 < 16 := Nat.mod_lt _ (by decide)

theorem State.sendKst_announced (hy : s.fov.holder = y) (k type : Nat) (payload : List Byte) : Announced y s (s.sendKst k type payload) := by
  unfold State.sendKst
  split
  · exact .refl y s
  · have hbuilt : Announced y s (s.kstBuild k type payload).2 := ⟨rfl, fun _ _ => rfl, .of_net rfl, s.kstBuild_state k type payload⟩
    subst hy
    exact hbuilt.trans (State.enqueue_announced _ _ (npEgMap_queue _ _) _)

theorem State.announce_announced (hy : s.fov.holder = y) (cold : Bool) : Announced y s (s.announce y cold) := by
  unfold State.announce
  extract_lets adverts arps
  have hadverts : Announced y s adverts := .foldl _ s hy (fun r a _ => by
    split
    exacts [State.sendNow_announced _ _ _, .refl _ _])
  have harps : Announced y s arps := by
    refine hadverts.trans ?_
    show Announced y adverts (if _ then _ else _)
    split
    exacts [State.sendNow_announced _ _ _, .refl _ _]
  refine harps.trans (.foldl _ arps (by rw [harps.fov, hy]) (fun r k hr => ?_))
  split
  exacts [State.sendKst_announced hr _ _ _, .refl _ _]

/-! ### The end of a switch-over (R376, R383) -/

theorem State.changeWaits_of_net (h : t.net = s.net) (y : Nat) : t.changeWaits y = s.changeWaits y := by
  rw [State.changeWaits, State.path_of_net h, ← State.changeWaits]

theorem State.announceEnd_net (s : State) : s.announceEnd.net = s.net := State.announceEnd_kept.net.resolve_left (by decide)

/-- While a PATH_CHANGE waits the switch-over goes on. -/
theorem State.announceEnd_waits (h : s.changeWaits s.fov.holder = true) : s.announceEnd = s := by
  unfold State.announceEnd
  split
  · rw [if_pos h]
  · rfl

/-- The words that show the phases of a switch-over. -/
def State.phasesShown (s : State) (w : SwitchOver) : State :=
  let g := w.granted.getD s.now
  let r := w.restored.getD s.now
  let s := { s with fov := { s.fov with announcing := none } }
  let s := s.wr Reg.fovLastSwitch (w.cause + (if w.cold then 16 else 0) + s.ras.frame % 65536 * 65536)
  s.wr Reg.fovSwPhases (phaseUs w.detect w.released + phaseUs w.released g * 2 ^ 8 + phaseUs g r * 2 ^ 16 + phaseUs r s.now * 2 ^ 24)

theorem State.announceEnd_over (hw : s.fov.announcing = some w) (h : s.changeWaits s.fov.holder = false) :
    s.announceEnd = (((s.phasesShown w).add (Reg.fovStat 0) 1).setFld Reg.fovCtrl 9 8 0).raise 0x120000 0 := by
  rw [State.announceEnd, hw]
  dsimp only
  rw [h, if_neg Bool.false_ne_true]
  rfl

/-- Once none waits it is over: counted, its request clear, and reported. -/
theorem State.announceEnd_spec (hw : s.fov.announcing = some w) (h : s.changeWaits s.fov.holder = false) :
    s.announceEnd.fov = { s.fov with announcing := none } ∧ s.announceEnd.rd (Reg.fovStat 0) = (s.rd (Reg.fovStat 0) + 1) % 2 ^ 32 ∧
    s.announceEnd.flag Reg.fovCtrl 8 = false ∧ s.announceEnd.flag 0x120010 0 = true := by
  have hstat : (s.phasesShown w).rd (Reg.fovStat 0) = s.rd (Reg.fovStat 0) := by
    rw [State.phasesShown, State.rd_wr_ne _ _ (by decide), State.rd_wr_ne _ _ (by decide)]
    rfl
  have hfov : (s.phasesShown w).fov = { s.fov with announcing := none } := by
    rw [State.phasesShown, State.wr_fov, State.wr_fov]
  rw [State.announceEnd_over hw h]
  generalize s.phasesShown w = p at hstat hfov ⊢
  refine ⟨?_, ?_, ?_, State.flag_raise_same _ _ _ (by decide)⟩
  · rw [State.raise_fov, State.setFld_fov, State.add_fov, hfov]
  · rw [State.rd_raise_ne _ _ (by decide), State.rd_setFld_ne _ _ _ _ (by decide), State.rd_add_same, hstat]
  · rw [State.flag, State.rd_raise_ne _ _ (by decide), ← State.flag, State.flag_cleared _ _ (by decide) (by decide) (by decide)]

/-! ### What a transmission leaves (R361-R366) -/

/-- The words outside the pages of both path dies. -/
def outsidePaths (a : Nat) : Prop := a < 0x100000 ∨ 0x120000 ≤ a

theorem State.popHead_rd (s : State) (x q a : Nat) : (s.popHead x q).rd a = s.rd a := rfl

theorem State.dropOversize_words (s : State) (hx : x < 2) : WordsKept outsidePaths s (s.dropOversize x) := by
  have hevent : ∀ b, outsidePaths b → b ≠ npBase x 0 + 0x10 := fun b hb => by unfold outsidePaths at hb; unfold npBase; omega
  refine .foldl (.refl _ s) fun r q _ hr => ?_
  cases hframes : (r.queue x q).frames with
  | nil => exact hr
  | cons f rest =>
    dsimp only
    refine .ite (hr.trans fun b hb => ?_) hr
    rw [State.descDone_rd _ _ _ _ (hevent b hb), State.rd_raise_ne _ _ (hevent b hb),
      State.rd_add_ne _ _ (by unfold outsidePaths at hb; unfold Reg.npGclStatOversize; omega), State.popHead_rd]

theorem State.frameSent_words (s : State) (hx : x < 2) {q : Nat} (hq : q < 16) (f : EgFrame) : WordsKept outsidePaths s (s.frameSent x q f) := by
  intro b hb
  unfold outsidePaths at hb
  rw [State.frameSent, State.descDone_rd _ _ _ _ (by unfold npBase; omega),
    State.stampDreq_words _ _ _ _ (by simp only [List.mem_cons, List.not_mem_nil, or_false, Reg.npPtpStat]; omega),
    State.sentCounted_words _ _ _ _ _ (by simp only [List.mem_cons, List.not_mem_nil, or_false, Reg.npQStatTx, Reg.npStat]; omega), State.sentOut_words]

theorem State.transmit_words (s : State) (hx : x < 2) : WordsKept outsidePaths s (s.transmit x) := by
  unfold State.transmit
  refine .ite (.refl _ s) ?_
  have hdrop := s.dropOversize_words hx
  generalize s.dropOversize x = d at hdrop
  dsimp only
  cases hq : d.chosen x with
  | none => exact hdrop
  | some q =>
    cases hframes : (d.queue x q).frames with
    | nil => simpa only [hframes] using hdrop
    | cons f rest =>
      refine hdrop.trans ?_
      have hsent := d.frameSent_words hx (State.chosen_lt hq) f
      unfold State.frameSent State.paid State.busied State.sentOut State.sentCounted at hsent
      simpa only [hframes] using hsent

end

end Sys2Proof.Machine

/-! SUPPORT. Snapshots and takeovers, and O47 (R369-R378). -/

namespace Sys2Proof.Machine

section
variable {s t u : State} {x y n i k a : Nat} {w : SwitchOver}

/-! ### The new holder works (R376) -/

/-- The words that taking over does not count in, but the switch-over's own. -/
def outsideTakeover (y a : Nat) : Prop := outsideSends y a ∧ outsideRing y a ∧ outsideAlarms a

theorem fovStat_takeover (hi : i < 5) : outsideTakeover y (Reg.fovStat i) := by
  unfold outsideTakeover outsideSends outsideRing outsideDrops outsideAlarms npBase Reg.fovStat Reg.npStat Reg.npQDrop Reg.npHtxHead Reg.svcLogStaged
  omega

theorem timStatus_takeover : outsideTakeover y Reg.timStatus := by
  unfold outsideTakeover outsideSends outsideRing outsideDrops outsideAlarms npBase Reg.timStatus Reg.npStat Reg.npQDrop Reg.npHtxHead Reg.svcLogStaged
  omega

theorem fovEvents_sends : outsideSends y 0x120010 := by
  unfold outsideSends Reg.npStat Reg.npQDrop
  omega

/-- The switch-over `w` is done, and is announced from now on. -/
def State.takingOver (s : State) (w : SwitchOver) : State :=
  { s with fov := { s.fov with sw := none, announcing := some { w with restored := some s.now } } }

theorem State.switched_eq (s : State) (w : SwitchOver) (y : Nat) :
    s.switched w y = (((s.takingOver w).announce y w.cold).htxTakeAll y).fovArm.announceEnd := rfl

theorem EventsKept.ring (h : RingTaken y s t) (b : Nat) (hb : b = npBase y 0 + 0x10 ∨ outsideRing y b) : EventsKept b s t := by
  rcases hb with rfl | hb
  exacts [h.events, .of_rd (h.words _ hb)]

theorem fovEvents_ring (y : Nat) : 0x120010 = npBase y 0 + 0x10 ∨ outsideRing y 0x120010 := by
  unfold outsideRing outsideDrops npBase Reg.npQDrop Reg.npHtxHead
  omega

theorem State.fovArm_events (s : State) : EventsKept 0x120010 s s.fovArm := by
  unfold State.fovArm
  dsimp only
  split
  · exact .refl _ s
  · exact .raise (.of_rd rfl) _ (by decide)

theorem State.announceEnd_events (s : State) : EventsKept 0x120010 s s.announceEnd := by
  cases hw : s.fov.announcing with
  | none =>
    rw [State.announceEnd, hw]
    exact .refl _ s
  | some w =>
    cases hwaits : s.changeWaits s.fov.holder with
    | true =>
      rw [State.announceEnd_waits hwaits]
      exact .refl _ s
    | false =>
      rw [State.announceEnd_over hw hwaits]
      refine .raise (.of_rd ?_) _ (by decide)
      rw [State.rd_setFld_ne _ _ _ _ (by decide), State.rd_add_ne _ _ (by decide), State.phasesShown, State.rd_wr_ne _ _ (by decide),
        State.rd_wr_ne _ _ (by decide)]
      rfl

/-- Everything of a takeover before its end is looked at. -/
structure TakenOver (y : Nat) (w : SwitchOver) (s t : State) : Prop where
  fov : ∃ a, t.fov = { s.fov with sw := none, announcing := some { w with restored := some s.now }, armed := a }
  words : WordsKept (outsideTakeover y) s t
  queues : QueuesOnly s t
  states : ∀ k, (t.sess k).state = (s.sess k).state
  events : EventsKept 0x120010 s t

theorem State.switched_takenOver (hy : s.fov.holder = y) (w : SwitchOver) :
    TakenOver y w s (((s.takingOver w).announce y w.cold).htxTakeAll y).fovArm := by
  obtain ⟨hfov, hwords, hqueues, hstates⟩ := State.announce_announced (s := s.takingOver w) hy w.cold
  generalize (s.takingOver w).announce y w.cold = p at hfov hwords hqueues hstates ⊢
  have hring := p.htxTakeAll_ring y
  have hringFov : (p.htxTakeAll y).fov = p.fov := State.htxTakeAll_kept.fov.resolve_left (by decide)
  have hringIng : (p.htxTakeAll y).ing = p.ing := State.htxTakeAll_kept.ing.resolve_left (by decide)
  generalize p.htxTakeAll y = r at hring hringFov hringIng ⊢
  obtain ⟨a, ha⟩ := r.fovArm_fov
  have hnet : r.fovArm.net = r.net := State.fovArm_kept.net.resolve_left (by decide)
  have hing : r.fovArm.ing = r.ing := State.fovArm_kept.ing.resolve_left (by decide)
  refine ⟨⟨a, ?_⟩, fun b hb => ?_, ?_, fun k => ?_, ?_⟩
  · rw [ha, hringFov, hfov]
    rfl
  · exact (r.fovArm_alarms _ hb.2.2).trans ((hring.words _ hb.2.1).trans (hwords _ hb.1))
  · exact .trans (.of_net rfl) (hqueues.trans (hring.queues.trans (.of_net hnet)))
  · rw [State.sess_of_ing hing, State.sess_of_ing hringIng, hstates]
    rfl
  · exact .trans (.of_rd (hwords _ fovEvents_sends)) (.trans (.ring hring _ (fovEvents_ring y)) r.fovArm_events)

/-- What the new holder has done when its takeover ends or waits for its PATH_CHANGE. -/
theorem State.switched_spec (hy : s.fov.holder = y) (w : SwitchOver) :
    let u := s.switched w y
    (u.fov.sw = none ∧ u.fov.snap = s.fov.snap ∧ u.fov.holder = y) ∧
    (u.changeWaits y = false → u.rd (Reg.fovStat 0) = (s.rd (Reg.fovStat 0) + 1) % 2 ^ 32 ∧ u.flag Reg.fovCtrl 8 = false ∧ u.flag 0x120010 0 = true) ∧
    (u.changeWaits y = true → u.fov.announcing.isSome = true ∧ u.rd (Reg.fovStat 0) = s.rd (Reg.fovStat 0)) ∧
    QueuesOnly s u ∧ (∀ k, (u.sess k).state = (s.sess k).state) ∧ u.rd (Reg.fovStat 1) = s.rd (Reg.fovStat 1) ∧ u.rd Reg.timStatus = s.rd Reg.timStatus ∧
    EventsKept 0x120010 s u := by
  dsimp only
  obtain ⟨⟨a, hfov⟩, hwords, hqueues, hstates, hevents⟩ := State.switched_takenOver hy w
  rw [State.switched_eq]
  generalize (((s.takingOver w).announce y w.cold).htxTakeAll y).fovArm = p at hfov hwords hqueues hstates hevents ⊢
  have hing : p.announceEnd.ing = p.ing := State.announceEnd_kept.ing.resolve_left (by decide)
  have hannouncing : p.fov.announcing = some { w with restored := some s.now } := by rw [hfov]
  have hholder : p.fov.holder = y := by rw [hfov]; exact hy
  have hwaits : p.announceEnd.changeWaits y = p.changeWaits p.fov.holder := by rw [hholder, State.changeWaits_of_net p.announceEnd_net]
  have hend := State.announceEnd_spec (w := { w with restored := some s.now }) hannouncing
  rw [hwaits]
  refine ⟨?_, fun h => ?_, fun h => ?_, hqueues.trans (.of_net p.announceEnd_net), fun k => ?_, ?_, ?_, hevents.trans p.announceEnd_events⟩
  · cases h : p.changeWaits p.fov.holder with
    | true =>
      rw [State.announceEnd_waits h, hfov]
      exact ⟨rfl, rfl, hy⟩
    | false =>
      rw [(hend h).1, hfov]
      exact ⟨rfl, rfl, hy⟩
  · obtain ⟨-, hstat, hswitch, hevent⟩ := hend h
    exact ⟨by rw [hstat, hwords _ (fovStat_takeover (by decide))], hswitch, hevent⟩
  · rw [State.announceEnd_waits h, hannouncing]
    exact ⟨rfl, hwords _ (fovStat_takeover (by decide))⟩
  · rw [State.sess_of_ing hing, hstates]
  · rw [p.announceEnd_words _ (by unfold outsideSwitch; decide), hwords _ (fovStat_takeover (by decide))]
  · rw [p.announceEnd_words _ (by unfold outsideSwitch; decide), hwords _ timStatus_takeover]

/-! ### Warm and cold takeovers (R375, R378) -/

theorem State.takeWarm_eq {m : Mirror} (hsw : s.fov.sw = some w) (hsnap : s.fov.snap = some m) (hgranted : w.granted.isSome = true)
    (hwarm : w.cold = false) :
    s.takeWarm = (({ s with fov := { s.fov with snap := none } } : State).restore s.fov.holder m).switched w s.fov.holder := by
  rw [State.takeWarm, hsw, hsnap]
  exact if_pos ⟨hgranted, by rw [hwarm]; rfl⟩

/-- A cold start of die `y`, its sessions and device time included, before it is counted. -/
def State.coldBegun (s : State) : State :=
  ((({ s with fov := { s.fov with snap := none } } : State).coldStart s.fov.holder).enterHold).coldSessions

theorem State.takeCold_eq (hsw : s.fov.sw = some w) (hgranted : w.granted.isSome = true) (hcold : w.cold = true) :
    s.takeCold = (((s.coldBegun.add (Reg.fovStat 1) 1).raise 0x120000 1).logIt 0x1200 (evt 0 1) 0 []).switched w s.fov.holder := by
  rw [State.takeCold, hsw]
  exact if_pos ⟨hgranted, hcold⟩

/-- The sessions of the network are out of ACTIVE after a cold start. -/
theorem State.coldSessions_states (s : State) (hk : k < 64) (hsource : s.sessSource k = 0) : ((s.coldSessions).sess k).state ≠ 2 := by
  have hstep : ∀ (l : List Nat) (r : State), r.sessSource k = 0 → k ∈ l ∨ (r.sess k).state ≠ 2 →
      ((l.foldl (fun s k => if s.sessSource k = 0 then s.toWaitKey k else s) r).sess k).state ≠ 2 := by
    intro l
    induction l with
    | nil => exact fun r _ h => h.resolve_left List.not_mem_nil
    | cons j l ih =>
      intro r hr h
      rw [List.foldl_cons]
      have hsrc : (if r.sessSource j = 0 then r.toWaitKey j else r).sessSource k = 0 := by
        split
        · rw [State.sessSource, State.fld, r.toWaitKey_words j _ (by rw [List.mem_singleton]; unfold Reg.ingSCtrl; omega)]
          exact hr
        · exact hr
      refine ih _ hsrc ?_
      by_cases hj : j = k
      · subst hj
        rw [if_pos hr]
        exact .inr (r.toWaitKey_not_active j)
      · refine h.imp (fun hmem => (List.mem_cons.1 hmem).resolve_left (fun e => hj e.symm)) (fun hidle => ?_)
        split
        · rwa [State.toWaitKey_sess_ne _ (Ne.symm hj)]
        · exact hidle
  exact hstep _ s hsource (.inl (List.mem_range.2 hk))

/-! ### Device time goes to HOLDOVER (R83, R391) -/

/-- The words outside the network-time page and the raster's events. -/
def outsideTim (a : Nat) : Prop := a ≠ 0x10010 ∧ (a < 0x130000 ∨ 0x140000 ≤ a)

theorem State.setLock_words (s : State) (l : Nat) : WordsKept (· ≠ 0x10010) s (s.setLock l) := by
  unfold State.setLock
  exact .ite (.refl _ s) (.raise (.regs (.refl _ s) rfl) (fun h => h rfl))

theorem State.lockFollow_words (s : State) (valid holdover : Bool) : WordsKept (· ≠ 0x10010) s (s.lockFollow valid holdover) := by
  unfold State.lockFollow
  exact .ite (.ite (s.setLock_words _) (.refl _ s)) (.ite (.ite (.refl _ s) (s.setLock_words _)) (.ite (s.setLock_words _) (.refl _ s)))

/-- STATE of device time, its VALID bit and its event. -/
def State.timShown (s : State) (v : Nat) : State := ((s.setFld Reg.timStatus 1 0 v).setFlag Reg.timStatus 2 (v != 0)).raise 0x130000 0

/-- A lock that is lost is counted. -/
def State.timCounted (s : State) (v : Nat) : State := if s.timState = 2 ∧ v ≠ 2 then (s.timShown v).add (Reg.timStat 3) 1 else s.timShown v

theorem State.setTim_eq {v : Nat} (h : s.timState ≠ v) :
    s.setTim v = if s.domOn 5 then (s.timCounted v).lockFollow (v != 0) (v == 3) else s.timCounted v := if_neg h

theorem State.timShown_state (s : State) {v : Nat} (hv : v < 4) : (s.timShown v).timState = v := by
  rw [State.timState, State.timShown, State.fld, State.rd_raise_ne _ _ (by decide), ← State.fld, State.setFlag,
    State.fld_setFld_other _ _ _ _ _ _ _ (by decide) (by decide) (by decide) (by decide), State.fld_setFld_same _ _ _ _ _ (by decide) (by decide)]
  exact Nat.mod_eq_of_lt hv

theorem State.timCounted_state (s : State) {v : Nat} (hv : v < 4) : (s.timCounted v).timState = v := by
  unfold State.timCounted
  split
  · rw [State.timState, State.fld, State.rd_add_ne _ _ (by decide), ← State.fld, ← State.timState, s.timShown_state hv]
  · exact s.timShown_state hv

theorem State.setTim_state (s : State) {v : Nat} (hv : v < 4) : (s.setTim v).timState = v := by
  by_cases h : s.timState = v
  · rw [State.setTim, if_pos h, h]
  · rw [State.setTim_eq h]
    split
    · rw [State.timState, (State.lockFollow_words _ _ _).fld (by decide), ← State.timState, s.timCounted_state hv]
    · exact s.timCounted_state hv

theorem State.timCounted_words (s : State) (v : Nat) : WordsKept outsideTim s (s.timCounted v) := by
  have hshown : WordsKept outsideTim s (s.timShown v) :=
    .raise (.setFlag (.setFld (.refl _ s) (by unfold outsideTim; decide)) (by unfold outsideTim; decide)) (by unfold outsideTim; decide)
  exact .ite (hshown.add (by unfold outsideTim; decide)) hshown

theorem State.setTim_words (s : State) (v : Nat) : WordsKept outsideTim s (s.setTim v) := by
  by_cases h : s.timState = v
  · rw [State.setTim, if_pos h]
    exact .refl _ s
  · rw [State.setTim_eq h]
    exact .ite ((s.timCounted_words v).trans fun a ha => State.lockFollow_words _ _ _ a ha.1) (s.timCounted_words v)

/-- The rate of a holdover, as it begins. -/
def State.holdBegun (s : State) : State :=
  let avg := meanRate s.tim.rates s.now (s.fld Reg.timHold 7 0 * sec)
  (({ s with tim := { s.tim with holdRate := avg, entryT := s.tim.xo, holdStart := s.now } } : State).add (Reg.timStat 2) 1).setRate 0 avg

theorem State.enterHold_eq (s : State) : s.enterHold = if s.timState = 0 ∨ s.timState = 3 then s else s.holdBegun.setTim 3 := by
  rw [State.enterHold, State.holdBegun]

theorem State.setRate_rd (s : State) (step : Int) (rate : Rat) {a : Nat} (ha : a ≠ Reg.timRate) : (s.setRate step rate).rd a = s.rd a :=
  State.rd_wr_ne _ _ ha

theorem State.withTim_rd (s : State) (x : Tim) (a : Nat) : ({ s with tim := x } : State).rd a = s.rd a := rfl

theorem State.holdBegun_words (s : State) : WordsKept outsideTim s s.holdBegun := by
  intro a ha
  have hrate : a ≠ Reg.timRate := fun h => absurd ha (by rw [h]; unfold outsideTim; decide)
  have hstat : a ≠ Reg.timStat 2 := fun h => absurd ha (by rw [h]; unfold outsideTim; decide)
  rw [State.holdBegun, State.setRate_rd _ _ _ hrate, State.rd_add_ne _ _ hstat, State.withTim_rd]

theorem State.enterHold_words (s : State) : WordsKept outsideTim s s.enterHold := by
  rw [State.enterHold_eq]
  exact .ite (.refl _ s) (s.holdBegun_words.trans (State.setTim_words _ _))

theorem State.enterHold_unlocked (s : State) : s.enterHold.timState ≠ 2 := by
  rw [State.enterHold_eq]
  split
  case isTrue h => omega
  case isFalse => rw [State.setTim_state _ (by decide)]; decide

/-- A cold start leaves device time out of LOCKED, the network's sessions out of ACTIVE, and FOV's words alone. -/
theorem State.coldBegun_spec (s : State) :
    s.coldBegun.fov = { s.fov with snap := none } ∧ s.coldBegun.timState ≠ 2 ∧ s.coldBegun.rd (Reg.fovStat 1) = s.rd (Reg.fovStat 1) ∧
    ∀ k, k < 64 → s.sessSource k = 0 → (s.coldBegun.sess k).state ≠ 2 := by
  have hsessions : ∀ (l : List Nat) (r : State), r.wordsBut (l.foldl (fun s k => if s.sessSource k = 0 then s.toWaitKey k else s) r) [0x30010] := by
    intro l r
    exact WordsKept.foldl (K := fun a => a ∉ [0x30010]) (.refl _ r) fun v k _ hv =>
      WordsKept.ite (hv.trans (v.toWaitKey_words k)) hv
  have hstart : WordsKept (fun _ => True) s (({ s with fov := { s.fov with snap := none } } : State).coldStart s.fov.holder) := fun a _ => State.rd_setPath _ _ a
  have hfov : (({ s with fov := { s.fov with snap := none } } : State).coldStart s.fov.holder).fov = { s.fov with snap := none } :=
    State.coldStart_kept.fov.resolve_left (by decide)
  unfold State.coldBegun
  generalize ({ s with fov := { s.fov with snap := none } } : State).coldStart s.fov.holder = c at hstart hfov ⊢
  refine ⟨?_, ?_, ?_, fun k hk hsource => ?_⟩
  · exact (State.coldSessions_kept.fov.resolve_left (by decide)).trans ((State.enterHold_kept.fov.resolve_left (by decide)).trans hfov)
  · rw [State.timState, State.fld, State.coldSessions, hsessions _ _ _ (by decide), ← State.fld, ← State.timState]
    exact c.enterHold_unlocked
  · rw [State.coldSessions, hsessions _ _ _ (by decide), c.enterHold_words _ (by unfold outsideTim; decide), hstart _ trivial]
  · refine State.coldSessions_states _ hk ?_
    rw [State.sessSource, c.enterHold_words.fld (by unfold outsideTim Reg.ingSCtrl; omega), hstart.fld trivial]
    exact hsource

/-! ### Snapshots (R369, R371, R372) -/

theorem State.snapSend_due (huse : s.dieUsable s.fov.holder = true) (hsw : s.fov.sw = none) (hlink : s.domOn 34 = true)
    (hrole : s.role (1 - s.fov.holder) ≠ 0) (hnow : s.now ≤ s.ras.frameStart + 10 * us) (hidle : s.fov.transit = none) :
    s.snapSend = { s with fov := { s.fov with transit := some (s.mirrorOf s.fov.holder), sent := true } } := by
  rw [State.snapSend, huse, hsw, hlink, hidle]
  dsimp only
  rw [if_pos (by simp [hrole, hnow])]
  rfl

/-- The snapshot in transit is the standby's now. -/
def State.mirrored (s : State) (m : Mirror) : State :=
  ({ s with fov := { s.fov with transit := none, snap := some m, missed := 0, standby := 3 } } : State).wr Reg.fovSnapFrame (m.frame % 2 ^ 32)

theorem State.snapReceive_good {m : Mirror} (htransit : s.fov.transit = some m) (hup : s.fov.mirrorUp = true) :
    s.snapReceive true = (if s.fov.standby = 4 then (s.mirrored m).logIt 0x1200 (evt 0 2) 0 [] else s.mirrored m).fovArm := by
  rw [State.snapReceive, htransit]
  dsimp only
  rw [if_pos (by rw [hup]; rfl)]
  rfl

theorem State.snapReceive_bad {m : Mirror} (htransit : s.fov.transit = some m) : s.snapReceive false = (s.add (Reg.fovStat 4) 1).snapMissed := by
  rw [State.snapReceive, htransit]
  rfl

/-- One more snapshot is missed. -/
def State.missNoted (s : State) : State := { s with fov := { s.fov with missed := s.fov.missed + 1, transit := none } }

/-- The standby is STALE, and that is counted and reported. -/
def State.standbyStale (s : State) : State := (({ s with fov := { s.fov with standby := 4 } } : State).add (Reg.fovStat 2) 1).raise 0x120000 2

theorem State.snapMissed_eq (s : State) :
    s.snapMissed = if 2 ≤ s.fov.missed + 1 ∧ s.missNoted.fov.standby = 3 then s.missNoted.standbyStale.fovArm else s.missNoted := rfl

theorem State.standbyStale_words (s : State) : s.wordsBut s.standbyStale [Reg.fovStat 2, 0x120010] :=
  State.wordsBut_raise (State.wordsBut_add (fun _ _ => rfl) (by simp)) (by simp)

theorem State.standbyStale_fov (s : State) : s.standbyStale.fov = { s.fov with standby := 4 } := by rw [State.standbyStale, State.raise_fov, State.add_fov]

theorem State.snapMissed_spec (s : State) : s.snapMissed.fov.snap = s.fov.snap ∧ s.snapMissed.fov.transit = none ∧
    s.snapMissed.fov.missed = s.fov.missed + 1 ∧ s.snapMissed.rd (Reg.fovStat 4) = s.rd (Reg.fovStat 4) := by
  obtain ⟨a, ha⟩ := s.missNoted.standbyStale.fovArm_fov
  rw [State.snapMissed_eq]
  split
  · rw [ha, State.standbyStale_fov, State.fovArm_alarms _ _ (by unfold outsideAlarms; decide), State.standbyStale_words _ _ (by decide)]
    exact ⟨rfl, rfl, rfl, rfl⟩
  · exact ⟨rfl, rfl, rfl, rfl⟩

/-- The mirror link is down. -/
def State.mirrorGone (s : State) : State := { s with fov := { s.fov with mirrorUp := false, mirrorBeat := none, transit := none } }

theorem State.mirrorLost_quiet {b m : Nat} (hup : s.fov.mirrorUp = true) (hmirror : s.fov.mirrorBeat = some m) (hquiet : m + 30 * us ≤ s.now)
    (hbeat : s.fov.beat.getD s.fov.holder none = some b) (hpresent : s.now < b + 50 * us)
    (hrole : s.role (1 - s.fov.holder) = 2 ∨ s.role (1 - s.fov.holder) = 3) :
    s.mirrorLost = (s.mirrorGone.standbyStale.logIt 0x1200 (evt 0 2) 0 []).fovArm := by
  have hfail : s.mirrorLost = s.mirrorFail := by
    unfold State.mirrorLost
    exact if_pos (by rw [hup, hmirror, hbeat]; simp [hquiet, hpresent])
  have hgone : s.mirrorGone.role (1 - s.mirrorGone.fov.holder) = 3 ∨ s.mirrorGone.role (1 - s.mirrorGone.fov.holder) = 2 := hrole.symm
  rw [hfail, State.mirrorFail]
  exact if_pos hgone

end

end Sys2Proof.Machine

/-! SUPPORT. O47: snapshots arm the standby, and a new holder restores them or starts cold (R369-R378). -/

namespace Sys2Proof.Machine

section
variable {s : State} {y : Nat} {m : Mirror} {w : SwitchOver}

theorem State.snapReceive_good_spec (htransit : s.fov.transit = some m) (hup : s.fov.mirrorUp = true) :
    (s.snapReceive true).fov.snap = some m ∧ (s.snapReceive true).fov.standby = 3 ∧ (s.snapReceive true).fov.missed = 0 ∧
    (s.snapReceive true).fov.transit = none ∧ (s.snapReceive true).rd Reg.fovSnapFrame = m.frame % 2 ^ 32 := by
  have hframe : (s.mirrored m).rd Reg.fovSnapFrame = m.frame % 2 ^ 32 := by
    rw [State.mirrored, State.rd_wr_same, Nat.mod_mod]
  have hmirrored : (s.mirrored m).fov = { s.fov with transit := none, snap := some m, missed := 0, standby := 3 } := by
    rw [State.mirrored, State.wr_fov]
  have hlogged : ((s.mirrored m).logIt 0x1200 (evt 0 2) 0 []).fov = (s.mirrored m).fov := State.logIt_kept.fov.resolve_left (by decide)
  have hword := State.logIt_alarms (s.mirrored m) 0x1200 (evt 0 2) 0 [] Reg.fovSnapFrame (by unfold outsideAlarms; decide)
  rw [State.snapReceive_good htransit hup, State.fovArm_alarms _ Reg.fovSnapFrame (by unfold outsideAlarms; decide)]
  obtain ⟨a, ha⟩ := State.fovArm_fov (if s.fov.standby = 4 then (s.mirrored m).logIt 0x1200 (evt 0 2) 0 [] else s.mirrored m)
  rw [ha]
  split
  · rw [hlogged, hmirrored, hword, hframe]
    exact ⟨rfl, rfl, rfl, rfl, rfl⟩
  · rw [hmirrored, hframe]
    exact ⟨rfl, rfl, rfl, rfl, rfl⟩

/-- A path with what a snapshot holds of it. -/
def NetPath.restored (p : NetPath) (m : Mirror) : NetPath :=
  { p with pre := m.pre, frags := m.frags, pol := m.pol,
           queues := (p.queues.zip m.queues).map (fun (q : EgQueue × (Rat × Rat × Buckets)) => { q.1 with start := q.2.1, finish := q.2.2.1, bkt := q.2.2.2 }),
           vt := m.vt, handles := m.handles, ptp := { p.ptp with mean := m.mean } }

/-- The servo of a snapshot. -/
def State.servoRestored (s : State) (m : Mirror) : State := { s with tim := { s.tim with integ := m.integ, good := m.good } }

theorem State.restore_eq (s : State) (y : Nat) (m : Mirror) : s.restore y m = (s.servoRestored m).setPath y ((s.path y).restored m) := rfl

theorem State.restore_rd (s : State) (y : Nat) (m : Mirror) (a : Nat) : (s.restore y m).rd a = s.rd a := by
  rw [State.restore_eq, State.rd_setPath, State.servoRestored, State.withTim_rd]

/-- A warm takeover leaves the mirrored filters on a die that is there. -/
theorem State.restore_path (hy : y < s.net.length) : ((s.restore y m).path y).pre = m.pre ∧ ((s.restore y m).path y).pol = m.pol := by
  have hpath : (s.restore y m).path y = (s.path y).restored m := State.path_setPath_same (s := s.servoRestored m) _ hy
  rw [hpath]
  exact ⟨rfl, rfl⟩

/-- What a warm takeover restores, before the new holder works. -/
def State.warmBegun (s : State) (m : Mirror) : State := ({ s with fov := { s.fov with snap := none } } : State).restore s.fov.holder m

theorem State.warmBegun_spec (s : State) (m : Mirror) :
    (s.warmBegun m).fov = { s.fov with snap := none } ∧ (s.warmBegun m).tim.integ = m.integ ∧ (s.warmBegun m).tim.good = m.good ∧
    (∀ a, (s.warmBegun m).rd a = s.rd a) ∧
    (s.fov.holder < s.net.length → ((s.warmBegun m).path s.fov.holder).pre = m.pre ∧ ((s.warmBegun m).path s.fov.holder).pol = m.pol) :=
  ⟨rfl, rfl, rfl, State.restore_rd _ _ _, fun h => State.restore_path (s := ({ s with fov := { s.fov with snap := none } } : State)) h⟩

theorem QueuesOnly.filters {t : State} (h : QueuesOnly s t) (y : Nat) : (t.path y).pre = (s.path y).pre ∧ (t.path y).pol = (s.path y).pol :=
  ⟨(congrArg NetPath.pre (h.2 y)).trans rfl, (congrArg NetPath.pol (h.2 y)).trans rfl⟩

/-- The count and the event of a cold takeover, before the new holder works. -/
def State.coldShown (s : State) : State := ((s.coldBegun.add (Reg.fovStat 1) 1).raise 0x120000 1).logIt 0x1200 (evt 0 1) 0 []

theorem State.coldShown_spec (s : State) :
    s.coldShown.fov = { s.fov with snap := none } ∧ s.coldShown.timState ≠ 2 ∧
    s.coldShown.rd (Reg.fovStat 1) = (s.rd (Reg.fovStat 1) + 1) % 2 ^ 32 ∧ s.coldShown.flag 0x120010 1 = true ∧
    ∀ k, k < 64 → s.sessSource k = 0 → (s.coldShown.sess k).state ≠ 2 := by
  obtain ⟨hfov, htim, hstat, hstates⟩ := s.coldBegun_spec
  unfold State.coldShown
  generalize s.coldBegun = c at hfov htim hstat hstates ⊢
  have hlog := State.stage_wordsBut ((c.add (Reg.fovStat 1) 1).raise 0x120000 1)
  refine ⟨?_, ?_, ?_, ?_, fun k hk hsource => ?_⟩
  · exact (State.logIt_kept.fov.resolve_left (by decide)).trans ((State.raise_fov _ _ _).trans ((State.add_fov _ _ _).trans hfov))
  · rw [State.timState, State.fld, State.logIt, hlog _ _ (by decide), State.rd_raise_ne _ _ (by decide), State.rd_add_ne _ _ (by decide), ← State.fld,
      ← State.timState]
    exact htim
  · rw [State.logIt, hlog _ _ (by decide), State.rd_raise_ne _ _ (by decide), State.rd_add_same, hstat]
  · rw [State.flag, State.logIt, hlog _ _ (by decide), ← State.flag]
    exact State.flag_raise_same _ _ _ (by decide)
  · rw [State.sess_of_ing (State.logIt_kept.ing.resolve_left (by decide)), State.sess_of_ing (State.raise_ing _ _ _), State.sess_of_ing (State.add_ing _ _ _)]
    exact hstates k hk hsource

end

/-- Settles O47: what the holder sends and the standby makes of it, then what is left of a switch-over once its announcements have gone. -/
theorem snapshotsAndTakeover : Obligations.SnapshotsAndTakeover := by
  unfold Obligations.SnapshotsAndTakeover
  intro s t
  refine ⟨fun huse hsw hlink hrole hnow hidle => ?_, fun m htransit => ⟨fun hup => ?_, ?_⟩, fun b m hup hmirror hquiet hbeat hpresent hrole => ?_,
    fun w x hx hegress hannouncing => ?_, fun w g hsw hgranted => ⟨fun m hwarm hsnap => ?_, fun hcold => ?_⟩⟩
  · refine ⟨_, congrArg finish (State.snapSend_due (s := s.at t) huse hsw hlink hrole hnow hidle), ?_⟩
    rw [settle_fov, settle_regs]
    exact ⟨rfl, rfl⟩
  · refine ⟨_, rfl, ?_⟩
    rw [settle_fov, settle_rd]
    exact State.snapReceive_good_spec (s := s.at t) htransit hup
  · obtain ⟨hsnap, htransit', hmissed, hstat⟩ := ((s.at t).add (Reg.fovStat 4) 1).snapMissed_spec
    refine ⟨_, congrArg finish (State.snapReceive_bad (s := s.at t) htransit), ?_⟩
    rw [settle_fov, settle_rd, hsnap, htransit', hmissed, hstat, State.add_fov, State.rd_add_same]
    exact ⟨rfl, rfl, rfl, rfl⟩
  · refine ⟨_, congrArg finish (State.mirrorLost_quiet (s := s.at t) hup hmirror hquiet hbeat hpresent hrole.symm.symm), ?_⟩
    have hlog := State.logIt_alarms (s.at t).mirrorGone.standbyStale 0x1200 (evt 0 2) 0 []
    have hlogFov : ((s.at t).mirrorGone.standbyStale.logIt 0x1200 (evt 0 2) 0 []).fov = (s.at t).mirrorGone.standbyStale.fov :=
      State.logIt_kept.fov.resolve_left (by decide)
    have hevent : EventsKept 0x120010 (s.at t).mirrorGone.standbyStale ((s.at t).mirrorGone.standbyStale.logIt 0x1200 (evt 0 2) 0 []) :=
      .of_rd (State.stage_wordsBut _ _ _ (by decide))
    have hstale : (s.at t).mirrorGone.standbyStale.fov = { (s.at t).mirrorGone.fov with standby := 4 } := State.standbyStale_fov _
    have hcount : (s.at t).mirrorGone.standbyStale.rd (Reg.fovStat 2) = (s.rd (Reg.fovStat 2) + 1) % 2 ^ 32 := by
      rw [State.standbyStale, State.rd_raise_ne _ _ (by decide), State.rd_add_same]
      rfl
    have hraised : (s.at t).mirrorGone.standbyStale.flag 0x120010 2 = true := State.flag_raise_same _ _ _ (by decide)
    generalize (s.at t).mirrorGone.standbyStale.logIt 0x1200 (evt 0 2) 0 [] = r at hlog hlogFov hevent
    obtain ⟨a, ha⟩ := r.fovArm_fov
    rw [settle_fov, settle_flag, settle_rd, ha, hlogFov, hstale, r.fovArm_alarms _ (by unfold outsideAlarms; decide), hlog _ (by unfold outsideAlarms; decide),
      hcount]
    exact ⟨rfl, rfl, rfl, r.fovArm_events 2 (by decide) (hevent 2 (by decide) hraised), rfl⟩
  · obtain hwords := (s.at t).transmit_words hx
    have hfov : ((s.at t).transmit x).fov = s.fov := State.transmit_kept.fov.resolve_left (by decide)
    refine ⟨_, congrArg finish (if_pos ⟨hx, hegress⟩), ?_⟩
    generalize (s.at t).transmit x = r at hwords hfov
    rw [settle_fov, settle_rd, settle_flag, settle_flag, State.changeWaits_of_net (settle_net _), State.changeWaits_of_net r.announceEnd_net, ← hfov]
    refine ⟨fun hdone => ?_, fun hwaits => by rw [State.announceEnd_waits hwaits]⟩
    obtain ⟨hend, hstat, hswitch, hevent⟩ := State.announceEnd_spec (by rw [hfov]; exact hannouncing) hdone
    rw [hend, hstat, hwords _ (by unfold outsidePaths; decide)]
    exact ⟨rfl, rfl, hswitch, hevent⟩
  · have hrun := State.takeWarm_eq (s := s.at t) hsw hsnap (by rw [hgranted]; rfl) hwarm
    rw [← State.warmBegun, State.at_fov] at hrun
    obtain ⟨hfov, hinteg, hgood, hwords, hpath⟩ := (s.at t).warmBegun_spec m
    rw [State.at_fov] at hfov hpath
    generalize (s.at t).warmBegun m = r at hrun hfov hinteg hgood hwords hpath
    obtain ⟨⟨hsw', hsnap', hholder⟩, hdone, hwaits, hqueues, -⟩ := State.switched_spec (s := r) (y := s.fov.holder) (by rw [hfov]) w
    have htim : (r.switched w s.fov.holder).tim = r.tim := State.switched_kept.tim.resolve_left (by decide)
    obtain ⟨hpre, hpol⟩ := hqueues.filters s.fov.holder
    refine ⟨_, congrArg finish hrun, ?_⟩
    generalize r.switched w s.fov.holder = u at hsw' hsnap' hholder hdone hwaits htim hpre hpol
    rw [settle_fov, settle_tim, settle_rd, settle_flag, settle_flag, settle_path, State.changeWaits_of_net (settle_net _), htim, hpre, hpol, hsnap', hfov]
    rw [hwords] at hdone hwaits
    exact ⟨hsw', rfl, hholder, hinteg, hgood, hdone, hwaits, hpath⟩
  · have hrun := State.takeCold_eq (s := s.at t) hsw (by rw [hgranted]; rfl) hcold
    rw [← State.coldShown, State.at_fov] at hrun
    obtain ⟨hfov, htim, hstat, hevent, hstates⟩ := (s.at t).coldShown_spec
    generalize (s.at t).coldShown = c at hrun hfov htim hstat hevent hstates
    obtain ⟨⟨hsw', hsnap, hholder⟩, -, -, -, hsame, hcount, htime, hevents⟩ := State.switched_spec (s := c) (y := s.fov.holder) (by rw [hfov]; rfl) w
    refine ⟨_, congrArg finish hrun, ?_⟩
    generalize c.switched w s.fov.holder = u at hsw' hsnap hholder hsame hcount htime hevents
    have hstate : u.timState = c.timState := by rw [State.timState, State.fld, htime, ← State.fld, ← State.timState]
    rw [settle_fov, settle_rd, settle_flag, State.timState, settle_fld, ← State.timState, hstate, hcount, hstat, hsnap, hfov]
    exact ⟨hsw', rfl, hholder, rfl, hevents 1 (by decide) hevent, htim, fun k hk hsource => by
      rw [State.sess_of_ing (settle_ing _), hsame]
      exact hstates k hk hsource⟩

end Sys2Proof.Machine

/-! SUPPORT. PTP ports, their states, and the servo's samples, for O48 (R385-R393). -/

namespace Sys2Proof.Machine

section
variable {s t u : State} {x y i k a v : Nat} {m : PtpMsg}

/-! ### The ports' records -/

theorem State.ptp_of_net (h : t.net = s.net) (y : Nat) : t.ptp y = s.ptp y := congrArg NetPath.ptp (State.path_of_net h y)

theorem State.path_setPtp (hx : x < s.net.length) (p : Ptp) : (s.setPtp x p).path x = { s.path x with ptp := p } := State.path_setPath_same _ hx

theorem State.ptp_setPtp (hx : x < s.net.length) (p : Ptp) : (s.setPtp x p).ptp x = p := congrArg NetPath.ptp (State.path_setPtp hx p)

theorem State.setPtp_rd (s : State) (x : Nat) (p : Ptp) (a : Nat) : (s.setPtp x p).rd a = s.rd a := rfl

theorem State.setPtp_length (s : State) (x : Nat) (p : Ptp) : (s.setPtp x p).net.length = s.net.length := List.length_set

/-- A path change that leaves the port's record alone leaves every port's record alone. -/
theorem State.ptp_setPath_same {p : NetPath} (h : p.ptp = s.ptp x) (y : Nat) : (s.setPath x p).ptp y = s.ptp y := by
  by_cases hxy : x = y
  · subst hxy
    by_cases hx : x < s.net.length
    · exact (congrArg NetPath.ptp (State.path_setPath_same p hx)).trans h
    · exact State.ptp_of_net (State.setPath_outside _ (Nat.le_of_not_lt hx)) x
  · exact congrArg NetPath.ptp (State.path_setPath_ne s p hxy)

/-- A port that has met a parent, a sample or a Sync is that of a die that is there. -/
theorem State.path_present (h : s.ptp x ≠ Ptp.reset) : x < s.net.length := by
  by_contra hx
  exact h (by simp [State.ptp, State.path, Nat.le_of_not_lt hx, NetPath.reset])

theorem State.path_present_parent {p : Nat × Nat} (h : (s.ptp x).parent = some p) : x < s.net.length :=
  State.path_present (fun e => by rw [e] at h; cases h)

theorem State.path_present_last {p : SyncSample} (h : (s.ptp x).last = some p) : x < s.net.length :=
  State.path_present (fun e => by rw [e] at h; cases h)

theorem State.fromParent_parent (h : s.fromParent x m = true) : (s.ptp x).parent = some (m.clock, m.port) := by
  simpa using (Bool.and_eq_true_iff.1 h).2

/-! ### A port's state (R391) -/

/-- The words outside a port's status and events and outside device time. -/
def outsidePort (x a : Nat) : Prop := a ≠ Reg.npPtpStatus x ∧ a ≠ npBase x 4 + 0x10 ∧ outsideTim a

theorem npPtpStatus_tim (hx : x < 2) : outsideTim (Reg.npPtpStatus x) := by
  unfold outsideTim Reg.npPtpStatus
  omega

theorem npPtpEvents_tim (hx : x < 2) : outsideTim (npBase x 4 + 0x10) := by
  unfold outsideTim npBase
  omega

theorem npPtpStatus_ne_events : Reg.npPtpStatus x ≠ npBase x 4 + 0x10 := by
  unfold Reg.npPtpStatus npBase
  omega

/-- STATE of a port, with its event. -/
def State.portShown (s : State) (x v : Nat) : State := (s.setFld (Reg.npPtpStatus x) 2 0 v).raise (npBase x 4) 0

theorem State.setPtpState_eq (h : s.ptpState x ≠ v) : s.setPtpState x v =
    if s.ptpState x = 3 ∧ s.fov.holder = x then ((s.portShown x v).setFlag (Reg.npPtpStatus x) 9 false).enterHold else s.portShown x v := if_neg h

theorem State.portShown_state (s : State) (x : Nat) (hv : v < 8) : (s.portShown x v).ptpState x = v := by
  rw [State.ptpState, State.portShown, State.fld, State.rd_raise_ne _ _ npPtpStatus_ne_events, ← State.fld,
    State.fld_setFld_same _ _ _ _ _ (by decide) (by decide)]
  exact Nat.mod_eq_of_lt hv

theorem State.setPtpState_state (s : State) (hx : x < 2) (hv : v < 8) : (s.setPtpState x v).ptpState x = v := by
  by_cases h : s.ptpState x = v
  · rw [State.setPtpState, if_pos h, h]
  · rw [State.setPtpState_eq h]
    split
    · rw [State.ptpState, (State.enterHold_words _).fld (npPtpStatus_tim hx), State.setFlag,
        State.fld_setFld_other _ _ _ _ _ _ _ (by decide) (by decide) (by decide) (by decide), ← State.ptpState, s.portShown_state x hv]
    · exact s.portShown_state x hv

theorem State.setPtpState_words (s : State) (x v : Nat) : WordsKept (outsidePort x) s (s.setPtpState x v) := by
  have hshown : WordsKept (outsidePort x) s (s.portShown x v) := .raise (.setFld (.refl _ s) (fun h => h.1 rfl)) (fun h => h.2.1 rfl)
  unfold State.setPtpState
  rw [← State.portShown]
  exact .ite (.refl _ s) (.ite ((hshown.setFlag (fun h => h.1 rfl)).trans fun b hb => State.enterHold_words _ b hb.2.2) hshown)

theorem State.setPtpState_events (s : State) (hx : x < 2) (v : Nat) : EventsKept (npBase x 4 + 0x10) s (s.setPtpState x v) := by
  have hshown : EventsKept (npBase x 4 + 0x10) s (s.portShown x v) :=
    .raise (.of_rd (State.rd_setFld_ne _ _ _ _ npPtpStatus_ne_events.symm)) _ (by decide)
  by_cases h : s.ptpState x = v
  · rw [State.setPtpState, if_pos h]
    exact .refl _ s
  · rw [State.setPtpState_eq h]
    split
    · exact (hshown.trans (.of_rd (State.rd_setFlag_ne _ _ _ npPtpStatus_ne_events.symm))).words (State.enterHold_words _) (npPtpEvents_tim hx)
    · exact hshown

theorem State.setPtpState_net (s : State) (x v : Nat) : (s.setPtpState x v).net = s.net := State.setPtpState_kept.net.resolve_left (by decide)

theorem State.enterHold_net (s : State) : s.enterHold.net = s.net := State.enterHold_kept.net.resolve_left (by decide)

/-! ### The servo (R368, R390) -/

/-- The words outside device time, the raster's events and the shown starts of both gate lists. -/
def outsideServo (a : Nat) : Prop :=
  outsideTim a ∧ (a < Reg.npGclStartSecLo 0 ∨ Reg.npGclStartNs 0 < a) ∧ (a < Reg.npGclStartSecLo 1 ∨ Reg.npGclStartNs 1 < a)

/-- What a sample of the servo leaves: the ports' records, and the words outside what it concerns. -/
structure ServoRun (s t : State) : Prop where
  ports : ∀ y, t.ptp y = s.ptp y
  words : WordsKept outsideServo s t

theorem ServoRun.refl (s : State) : ServoRun s s := ⟨fun _ => rfl, .refl _ s⟩

theorem ServoRun.trans (h : ServoRun s t) (k : ServoRun t u) : ServoRun s u := ⟨fun y => (k.ports y).trans (h.ports y), h.words.trans k.words⟩

theorem ServoRun.ite {c : Prop} [Decidable c] (ht : ServoRun s t) (hu : ServoRun s u) : ServoRun s (if c then t else u) := by
  split
  exacts [ht, hu]

theorem ServoRun.of_tim (hnet : t.net = s.net) (hwords : WordsKept outsideTim s t) : ServoRun s t :=
  ⟨State.ptp_of_net hnet, fun a ha => hwords a ha.1⟩

theorem State.setTim_servo (s : State) (v : Nat) : ServoRun s (s.setTim v) := .of_tim (State.setTim_kept.net.resolve_left (by decide)) (s.setTim_words v)

theorem State.leaveHold_servo (s : State) : ServoRun s s.leaveHold := by
  unfold State.leaveHold
  exact .ite (.of_tim (State.wr_net _ _ _) (.wr (.refl _ s) (by unfold outsideTim; decide))) (.refl s)

theorem State.setRate_servo (s : State) (step : Int) (rate : Rat) : ServoRun s (s.setRate step rate) :=
  .of_tim (State.setRate_kept.net.resolve_left (by decide)) (fun a ha => State.setRate_rd _ _ _ (fun h => absurd ha (by rw [h]; unfold outsideTim; decide)))

theorem State.withTim_servo (s : State) (v : Tim) : ServoRun s { s with tim := v } := ⟨fun _ => rfl, fun _ _ => rfl⟩

theorem State.showStart_servo (s : State) (hx : x < 2) (v : Nat) : ServoRun s (s.showStart x v) := by
  refine ⟨State.ptp_of_net (State.showStart_net _ _ _), fun a ha => State.showStart_words s x v a ?_⟩
  unfold outsideServo outsideTim at ha
  simp only [List.mem_cons, List.not_mem_nil, or_false, Reg.npGclStartSecLo, Reg.npGclStartSecHi, Reg.npGclStartNs] at ha ⊢
  omega

theorem State.gclStep_servo (s : State) (hx : x < 2) (old : Nat) : ServoRun s (s.gclStep x old) := by
  unfold State.gclStep
  extract_lets p hold pend s'
  have hs' : ServoRun s s' := ⟨State.ptp_setPath_same rfl, fun _ _ => rfl⟩
  clear_value s' pend
  cases pend with
  | none => exact hs'
  | some g => exact hs'.trans (State.showStart_servo _ hx _)

theorem State.clockStepped_servo (s : State) (old : Nat) : ServoRun s (s.clockStepped old) :=
  (s.gclStep_servo (by decide) old).trans (State.gclStep_servo _ (by decide) old)

/-- The sample is counted and shown with its die (R390). -/
def State.offsetShown (s : State) (x : Nat) (off : Int) : State :=
  ((s.add (Reg.timStat 0) 1).wr Reg.timOffset (toBits 32 (clampI (-(2 ^ 31)) (2 ^ 31 - 1) (off / ns)))).setFlag Reg.timStatus 3 (x == 1)

/-- A step of device time by the offset (R390). -/
def State.servoStepped (s : State) (off : Int) : State :=
  let u := (((s.leaveHold.setRate (-off) s.timRate).add (Reg.timStat 1) 1).raise 0x130000 1).clockStepped s.device
  { u with tim := { u.tim with good := 0 } }.setTim 1

/-- The state of device time that follows a count of good samples (R391). -/
def State.servoJudged (s : State) (good : Nat) : State :=
  let u := if s.timState = 3 then s.setTim 1 else s
  if u.timState = 2 then (if good = 0 then u.setTim 1 else u) else if u.fld Reg.timLock 23 16 ≤ good then u.setTim 2 else u

/-- A new rate of device time (R390). -/
def State.servoSlewed (s : State) (integ rate : Rat) (good : Nat) : State :=
  let u := s.leaveHold.setRate 0 rate
  { u with tim := { u.tim with integ := integ, good := good } }.servoJudged good

theorem State.offsetShown_servo (s : State) (x : Nat) (off : Int) : ServoRun s (s.offsetShown x off) := by
  unfold State.offsetShown
  exact .of_tim (by rw [State.setFlag_net, State.wr_net, State.add_net])
    (.setFlag (.wr (.add (.refl _ s) (by unfold outsideTim; decide)) (by unfold outsideTim; decide)) (by unfold outsideTim; decide))

theorem State.servoStepped_servo (s : State) (off : Int) : ServoRun s (s.servoStepped off) := by
  have hrate : ServoRun s (s.leaveHold.setRate (-off) s.timRate) := (State.leaveHold_servo s).trans (State.setRate_servo _ _ _)
  have hcount : ServoRun s (((s.leaveHold.setRate (-off) s.timRate).add (Reg.timStat 1) 1).raise 0x130000 1) :=
    hrate.trans (.of_tim (by rw [State.raise_net, State.add_net]) (.raise (.add (.refl _ _) (by unfold outsideTim; decide)) (by unfold outsideTim; decide)))
  exact (hcount.trans (State.clockStepped_servo _ _)).trans ((State.withTim_servo _ _).trans (State.setTim_servo _ _))

theorem State.servoJudged_servo (s : State) (good : Nat) : ServoRun s (s.servoJudged good) := by
  have hleft : ServoRun s (if s.timState = 3 then s.setTim 1 else s) := .ite (State.setTim_servo s _) (.refl s)
  exact hleft.trans (.ite (.ite (State.setTim_servo _ _) (.refl _)) (.ite (State.setTim_servo _ _) (.refl _)))

theorem State.servoSlewed_servo (s : State) (integ rate : Rat) (good : Nat) : ServoRun s (s.servoSlewed integ rate good) :=
  ((State.leaveHold_servo s).trans (State.setRate_servo _ _ _)).trans ((State.withTim_servo _ _).trans (State.servoJudged_servo _ _))

theorem State.servo_run (s : State) (x : Nat) (off : Int) : ServoRun s (s.servo x off) := by
  have hrun : ∀ {c : Prop} [Decidable c] {integ rate : Rat} {good : Nat},
      ServoRun s (if c then (s.offsetShown x off).servoStepped off else (s.offsetShown x off).servoSlewed integ rate good) :=
    (State.offsetShown_servo s x off).trans (.ite (State.servoStepped_servo _ _) (State.servoSlewed_servo _ _ _ _))
  exact hrun

/-! ### Samples (R389, R393) -/

/-- The words that a sample concerns on a port's page. -/
def outsideSample (x a : Nat) : Prop := outsidePort x a ∧ a ≠ Reg.npPtpOffset x ∧ outsideServo a

/-- A complete sample is the port's last, and no Sync waits any more. -/
structure SampleTaken (x : Nat) (p : SyncSample) (s t : State) : Prop where
  port : ∃ h, t.ptp x = { s.ptp x with last := some p, waiting := none, held := h }
  words : WordsKept (outsideSample x) s t

/-- No sample waits for its delay any more (R393). -/
def State.sampleFreed (s : State) (x : Nat) : State := s.setPtp x { s.ptp x with held := none }

/-- A port that was not yet synchronised is SLAVE (R391). -/
def State.sampleSlave (s : State) (x : Nat) : State := if s.ptpState x = 2 then s.setPtpState x 3 else s

/-- The holder's sample goes to the servo (R389). -/
def State.sampleServed (s : State) (x : Nat) (o : Int) : State := if s.fov.holder = x && s.active x then (s.setFlag (Reg.npPtpStatus x) 9 true).servo x o else s

/-- What a sample does once its offset is known (R389, R393). -/
def State.sampleUsed (s : State) (x : Nat) (o : Int) : State :=
  (((s.wr (Reg.npPtpOffset x) (toBits 32 (clampI (-(2 ^ 31)) (2 ^ 31 - 1) (o / ns)))).sampleFreed x).sampleSlave x).sampleServed x o

theorem State.sampleFreed_rd (s : State) (x a : Nat) : (s.sampleFreed x).rd a = s.rd a := rfl

theorem State.sampleSlave_ptp (s : State) (x y : Nat) : (s.sampleSlave x).ptp y = s.ptp y := by
  unfold State.sampleSlave
  split
  exacts [State.ptp_of_net (State.setPtpState_net _ _ _) y, rfl]

theorem State.sampleServed_ptp (s : State) (x : Nat) (o : Int) (y : Nat) : (s.sampleServed x o).ptp y = s.ptp y := by
  unfold State.sampleServed
  split
  exacts [((State.servo_run _ _ _).ports y).trans (State.ptp_of_net (State.setFlag_net _ _ _ _) y), rfl]

theorem State.sampleUsed_ptp (o : Int) (hx : x < s.net.length) : (s.sampleUsed x o).ptp x = { s.ptp x with held := none } := by
  rw [State.sampleUsed, State.sampleServed_ptp, State.sampleSlave_ptp, State.sampleFreed, State.ptp_setPtp (by rw [State.wr_net]; exact hx),
    State.ptp_of_net (State.wr_net _ _ _)]

theorem State.sampleSlave_words (s : State) (x : Nat) : WordsKept (outsidePort x) s (s.sampleSlave x) := .ite (State.setPtpState_words s x 3) (.refl _ s)

theorem State.sampleServed_words (s : State) (x : Nat) (o : Int) : WordsKept (outsideSample x) s (s.sampleServed x o) :=
  .ite (WordsKept.trans (.setFlag (.refl _ s) (fun h => h.1.1 rfl)) fun a ha => (State.servo_run _ _ _).words a ha.2.2) (.refl _ s)

theorem State.sampleUsed_words (s : State) (x : Nat) (o : Int) : WordsKept (outsideSample x) s (s.sampleUsed x o) := by
  have hshown : WordsKept (outsideSample x) s (s.wr (Reg.npPtpOffset x) (toBits 32 (clampI (-(2 ^ 31)) (2 ^ 31 - 1) (o / ns)))) := .wr (.refl _ s) (fun h => h.2.1 rfl)
  unfold State.sampleUsed
  generalize s.wr (Reg.npPtpOffset x) _ = shown at hshown ⊢
  have hfreed : WordsKept (outsideSample x) s (shown.sampleFreed x) := hshown.trans fun a _ => State.sampleFreed_rd _ x a
  exact (hfreed.trans fun a ha => State.sampleSlave_words _ x a ha.1).trans (State.sampleServed_words _ x o)

theorem State.syncSample_taken (hx : x < s.net.length) (p : SyncSample) : SampleTaken x p s (s.syncSample x p) := by
  unfold State.syncSample
  have htaken : (s.setPtp x { s.ptp x with last := some p, waiting := none }).ptp x = { s.ptp x with last := some p, waiting := none } := State.ptp_setPtp hx _
  have hlen : x < (s.setPtp x { s.ptp x with last := some p, waiting := none }).net.length := hx.trans_eq (State.setPtp_length _ _ _).symm
  have hwords : WordsKept (outsideSample x) s (s.setPtp x { s.ptp x with last := some p, waiting := none }) := fun _ _ => rfl
  dsimp only
  generalize s.setPtp x { s.ptp x with last := some p, waiting := none } = taken at htaken hlen hwords ⊢
  cases taken.pathDelay x with
  | none => exact ⟨⟨some p, by dsimp only; rw [State.ptp_setPtp hlen, htaken]⟩, hwords.trans fun _ _ => rfl⟩
  | some d => exact ⟨⟨none, (State.sampleUsed_ptp _ hlen).trans (by rw [htaken])⟩, hwords.trans (State.sampleUsed_words _ _ _)⟩

end

end Sys2Proof.Machine

/-! SUPPORT. PTP messages: what a Sync, a Follow_Up, a Delay_Resp and an Announce leave, for O48 (R386-R389, R392). -/

namespace Sys2Proof.Machine

section
variable {s t u : State} {x y i k a v : Nat} {m : PtpMsg}

/-! ### The port's counters are no words of a sample or of a choice -/

theorem npPtpStat_sample (hx : x < 2) (hi : i < 16) : outsideSample x (Reg.npPtpStat x i) := by
  unfold outsideSample outsidePort outsideServo outsideTim Reg.npPtpStat Reg.npPtpStatus Reg.npPtpOffset npBase Reg.npGclStartSecLo Reg.npGclStartNs
  omega

theorem npPtpStat_inj (h : i ≠ k) : Reg.npPtpStat x i ≠ Reg.npPtpStat x k := by
  unfold Reg.npPtpStat
  omega

theorem State.add_device (s : State) (a n : Nat) : (s.add a n).device = s.device := State.wr_device _ _ _

theorem State.add_ptp (s : State) (a n y : Nat) : (s.add a n).ptp y = s.ptp y := State.ptp_of_net (State.add_net _ _ _) y

theorem State.wr_ptp (s : State) (a v y : Nat) : (s.wr a v).ptp y = s.ptp y := State.ptp_of_net (State.wr_net _ _ _) y

theorem settle_ptp (s : State) (y : Nat) : (settle s).ptp y = s.ptp y := State.ptp_of_net (settle_net _) y

theorem State.add_length (s : State) (a n : Nat) : (s.add a n).net.length = s.net.length := by rw [State.add_net]

/-! ### A Sync (R386, R389) -/

/-- A Sync of the parent is counted, and so is one that it overtakes. -/
def State.syncCounted (s : State) (x : Nat) : State :=
  let u := s.add (Reg.npPtpStat x 0) 1
  if (u.ptp x).waiting.isSome then u.add (Reg.npPtpStat x 5) 1 else u

/-- The port's record after a Sync of its parent. -/
def State.syncNoted (s : State) (x : Nat) (m : PtpMsg) : Ptp := { s.ptp x with syncInterval := m.interval, lastSync := s.now, waiting := none }

/-- The sample that waits for its Follow_Up. -/
def State.syncHalf (s : State) (x : Nat) (m : PtpMsg) : SyncSample :=
  { t1 := 0, t2 := (s.device : Int) - s.fld (Reg.npTsRxLat x) 23 0 * 2 ^ 24, corr := corrUnits m.corr }

theorem State.syncCounted_same (s : State) (x : Nat) :
    (s.syncCounted x).net = s.net ∧ (s.syncCounted x).now = s.now ∧ (s.syncCounted x).device = s.device ∧
    (s.syncCounted x).rd (Reg.npPtpStat x 0) = (s.rd (Reg.npPtpStat x 0) + 1) % 2 ^ 32 ∧ (s.syncCounted x).rd (Reg.npTsRxLat x) = s.rd (Reg.npTsRxLat x) := by
  have hlat : ∀ i, Reg.npTsRxLat x ≠ Reg.npPtpStat x i := fun i => by unfold Reg.npTsRxLat Reg.npPtpStat; omega
  unfold State.syncCounted
  dsimp only
  split
  · refine ⟨by rw [State.add_net, State.add_net], by rw [State.add_now, State.add_now], by rw [State.add_device, State.add_device], ?_, ?_⟩
    · rw [State.rd_add_ne _ _ (npPtpStat_inj (by decide)), State.rd_add_same]
    · rw [State.rd_add_ne _ _ (hlat 5), State.rd_add_ne _ _ (hlat 0)]
  · exact ⟨State.add_net _ _ _, State.add_now _ _ _, State.add_device _ _ _, State.rd_add_same _ _ _, State.rd_add_ne _ _ (hlat 0)⟩

theorem State.syncIn_twoStep (hruns : s.ptpRuns x = true) (hdomain : s.fld (Reg.npPtpCtrl x) 15 8 = m.domain) (hparent : s.fromParent x m = true)
    (htwo : m.twoStep = true) (hlow : -7 ≤ m.interval) (hhigh : m.interval ≤ 1) (hd2d : (s.path x).d2d = true) :
    s.syncIn x m = (((s.syncCounted x).setPtp x ((s.syncCounted x).syncNoted x m)).setFlag (Reg.npPtpStatus x) 8 true).setPtp x
      { (s.syncCounted x).syncNoted x m with waiting := some (m.seq, (s.syncCounted x).syncHalf x m, (s.syncCounted x).now) } := by
  have hin : ¬(m.interval < -7 ∨ 1 < m.interval) := by omega
  unfold State.syncIn
  rw [if_neg (by simp [hruns])]
  simp only [hd2d, if_true]
  rw [if_neg (by simp [hdomain]), if_neg hin, if_neg (by simp [hparent]), htwo]
  rfl

theorem State.syncIn_twoStep_spec (hx : x < 2) (hruns : s.ptpRuns x = true) (hdomain : s.fld (Reg.npPtpCtrl x) 15 8 = m.domain)
    (hparent : s.fromParent x m = true) (htwo : m.twoStep = true) (hlow : -7 ≤ m.interval) (hhigh : m.interval ≤ 1) (hd2d : (s.path x).d2d = true) :
    let u := s.syncIn x m
    u.rd (Reg.npPtpStat x 0) = (s.rd (Reg.npPtpStat x 0) + 1) % 2 ^ 32 ∧ u.flag (Reg.npPtpStatus x) 8 = true ∧ (u.ptp x).lastSync = s.now ∧
    (u.ptp x).waiting = some (m.seq, s.syncHalf x m, s.now) := by
  obtain ⟨hnet, hnow, hdev, hstat, hlat⟩ := s.syncCounted_same x
  have hpresent : x < s.net.length := State.path_present_parent (State.fromParent_parent hparent)
  have hhalf : (s.syncCounted x).syncHalf x m = s.syncHalf x m := by rw [State.syncHalf, hdev, State.fld, hlat, ← State.fld, ← State.syncHalf]
  have hneStat : Reg.npPtpStat x 0 ≠ Reg.npPtpStatus x := by unfold Reg.npPtpStat Reg.npPtpStatus; omega
  dsimp only
  rw [State.syncIn_twoStep hruns hdomain hparent htwo hlow hhigh hd2d, hhalf, hnow]
  have hnoted : ((s.syncCounted x).syncNoted x m).lastSync = s.now := hnow
  generalize (s.syncCounted x).syncNoted x m = p at hnoted ⊢
  generalize s.syncCounted x = c at hnet hstat ⊢
  have hlen : x < ((c.setPtp x p).setFlag (Reg.npPtpStatus x) 8 true).net.length := by rw [State.setFlag_net, State.setPtp_length, hnet]; exact hpresent
  rw [State.setPtp_rd, State.flag, State.setPtp_rd, ← State.flag, State.rd_setFlag_ne _ _ _ hneStat, State.setPtp_rd, hstat, State.ptp_setPtp hlen,
    State.flag_setFlag_same _ _ _ _ (by decide)]
  exact ⟨rfl, rfl, hnoted, rfl⟩

/-! ### A Follow_Up (R389) -/

theorem State.followUp_taken {q w : Nat} {p : SyncSample} (hruns : s.ptpRuns x = true) (hparent : s.fromParent x m = true)
    (hwait : (s.ptp x).waiting = some (q, p, w)) (hq : q = m.seq) (hnow : s.now ≤ w + intervalTime (s.ptp x).syncInterval) (hd2d : (s.path x).d2d = true) :
    s.followUp x m = (s.add (Reg.npPtpStat x 1) 1).syncSample x { p with t1 := s.widen m.sec m.ns, corr := p.corr + corrUnits m.corr } := by
  have hpath : ((s.add (Reg.npPtpStat x 1) 1).path x).d2d = true := by rw [State.path_of_net (State.add_net _ _ _)]; exact hd2d
  unfold State.followUp
  rw [if_neg (by simp [hruns, hparent])]
  simp only [hpath, State.add_ptp, hwait, State.add_now, State.widen, State.add_device]
  rw [if_neg (by simp), if_neg (not_not_intro hq), if_neg (Nat.not_lt.2 hnow)]

/-! ### A Delay_Resp (R388, R389) -/

/-- A Delay_Resp is counted, and the master's interval is noted. -/
def State.respCounted (s : State) (x : Nat) (m : PtpMsg) : State := (s.add (Reg.npPtpStat x 3) 1).setPtp x { s.ptp x with dreqInterval := some m.interval }

/-- The delays with one more, their median, and the delay that is shown. -/
def State.respShown (s : State) (x : Nat) (ds : List Rat) : State :=
  (s.setPtp x { s.ptp x with delays := ds, mean := some (median ds), dreq := none, held := none }).wr (Reg.npPtpDelay x)
    (toBits 32 (clampI 0 (2 ^ 32 - 1) (median ds / 2 ^ 24).floor))

/-- A sample that waited for the delay is taken now. -/
def State.respServed (s : State) (x : Nat) (held : Option SyncSample) : State :=
  match held with
  | some h => s.syncSample x h
  | none => s

/-- The delay that a Delay_Resp measures. -/
def State.respDelay (s : State) (p : SyncSample) (m : PtpMsg) (t3 : Int) : Rat :=
  ((p.t2 - p.t1 - p.corr + (s.widen m.sec m.ns - t3 - corrUnits m.corr) : Int) : Rat) / 2

theorem State.delayResp_taken {q : Nat} {t3 : Int} {p : SyncSample} (hruns : s.ptpRuns x = true) (hparent : s.fromParent x m = true)
    (hdreq : (s.ptp x).dreq = some (q, t3)) (hlast : (s.ptp x).last = some p) (hq : q = m.seq) (hreq : m.requesting = (s.clockId x, 1)) (hd2d : (s.path x).d2d = true) :
    s.delayResp x m = ((s.respCounted x m).respShown x ((s.respDelay p m t3 :: (s.ptp x).delays).take (s.fld (Reg.npPtpTimeout x) 20 16))).respServed x (s.ptp x).held := by
  have hlen : x < (s.add (Reg.npPtpStat x 3) 1).net.length := by rw [State.add_length]; exact State.path_present_parent (State.fromParent_parent hparent)
  have hptp : (s.respCounted x m).ptp x = { s.ptp x with dreqInterval := some m.interval } := State.ptp_setPtp hlen _
  have hpath : ((s.respCounted x m).path x).d2d = true := by
    rw [State.respCounted, State.path_setPtp hlen, State.path_of_net (State.add_net _ _ _)]
    exact hd2d
  have hwiden : (s.respCounted x m).widen m.sec m.ns = s.widen m.sec m.ns := by
    rw [State.widen, State.widen, ← State.add_device s (Reg.npPtpStat x 3) 1]
    rfl
  have htimeout : (s.respCounted x m).fld (Reg.npPtpTimeout x) 20 16 = s.fld (Reg.npPtpTimeout x) 20 16 := by
    rw [State.fld, State.respCounted, State.setPtp_rd, State.rd_add_ne _ _ (by unfold Reg.npPtpStat Reg.npPtpTimeout; omega), ← State.fld]
  unfold State.delayResp
  rw [if_neg (by simp [hruns, hparent, hreq]), ← State.respCounted]
  generalize s.respCounted x m = c at hptp hpath hwiden htimeout ⊢
  simp only [hpath, hptp, hdreq, hlast, hwiden, htimeout]
  rw [if_neg (by simp), if_neg (not_not_intro hq)]
  simp only [State.respServed, State.respShown, State.respDelay, hptp, hlast] <;> cases (s.ptp x).held <;> rfl

theorem State.respServed_spec (hx : x < 2) (hlen : x < s.net.length) (held : Option SyncSample) :
    let u := s.respServed x held
    u.rd (Reg.npPtpStat x 3) = s.rd (Reg.npPtpStat x 3) ∧ (u.ptp x).dreq = (s.ptp x).dreq ∧ (u.ptp x).dreqInterval = (s.ptp x).dreqInterval ∧
    (u.ptp x).mean = (s.ptp x).mean := by
  unfold State.respServed
  cases held with
  | none => exact ⟨rfl, rfl, rfl, rfl⟩
  | some h =>
    obtain ⟨⟨held, hport⟩, hwords⟩ := State.syncSample_taken hlen h
    dsimp only
    rw [hport, hwords _ (npPtpStat_sample hx (by decide))]
    exact ⟨rfl, rfl, rfl, rfl⟩

theorem State.delayResp_taken_spec {q : Nat} {t3 : Int} {p : SyncSample} (hx : x < 2) (hruns : s.ptpRuns x = true) (hparent : s.fromParent x m = true)
    (hdreq : (s.ptp x).dreq = some (q, t3)) (hlast : (s.ptp x).last = some p) (hq : q = m.seq) (hreq : m.requesting = (s.clockId x, 1)) (hd2d : (s.path x).d2d = true) :
    let u := s.delayResp x m
    u.rd (Reg.npPtpStat x 3) = (s.rd (Reg.npPtpStat x 3) + 1) % 2 ^ 32 ∧ (u.ptp x).dreq = none ∧ (u.ptp x).dreqInterval = some m.interval ∧
    (u.ptp x).mean = some (median ((s.respDelay p m t3 :: (s.ptp x).delays).take (s.fld (Reg.npPtpTimeout x) 20 16))) := by
  have hlen : x < (s.add (Reg.npPtpStat x 3) 1).net.length := by rw [State.add_length]; exact State.path_present_parent (State.fromParent_parent hparent)
  have hptp : (s.respCounted x m).ptp x = { s.ptp x with dreqInterval := some m.interval } := State.ptp_setPtp hlen _
  have hstat : (s.respCounted x m).rd (Reg.npPtpStat x 3) = (s.rd (Reg.npPtpStat x 3) + 1) % 2 ^ 32 := by rw [State.respCounted, State.setPtp_rd, State.rd_add_same]
  have hlen' : x < (s.respCounted x m).net.length := by rw [State.respCounted, State.setPtp_length]; exact hlen
  dsimp only
  rw [State.delayResp_taken hruns hparent hdreq hlast hq hreq hd2d]
  generalize (s.respDelay p m t3 :: (s.ptp x).delays).take (s.fld (Reg.npPtpTimeout x) 20 16) = ds
  generalize s.respCounted x m = c at hptp hstat hlen' ⊢
  have hshown : (c.respShown x ds).ptp x = { c.ptp x with delays := ds, mean := some (median ds), dreq := none, held := none } := by
    rw [State.respShown, State.wr_ptp, State.ptp_setPtp hlen']
  have hshownLen : x < (c.respShown x ds).net.length := by rw [State.respShown, State.wr_net, State.setPtp_length]; exact hlen'
  have hshownStat : (c.respShown x ds).rd (Reg.npPtpStat x 3) = (s.rd (Reg.npPtpStat x 3) + 1) % 2 ^ 32 := by
    rw [State.respShown, State.rd_wr_ne _ _ (by unfold Reg.npPtpStat Reg.npPtpDelay; omega), State.setPtp_rd, hstat]
  obtain ⟨hserved, hdreq', hinterval, hmean⟩ := State.respServed_spec hx hshownLen (s.ptp x).held
  rw [hserved, hdreq', hinterval, hmean, hshown, hshownStat, hptp]
  exact ⟨rfl, rfl, rfl, rfl⟩

end

end Sys2Proof.Machine

/-! SUPPORT. The choice of a parent and what losses make of a port, and O48 (R385, R388, R391, R392, R397). -/

namespace Sys2Proof.Machine

section
variable {s t u : State} {x y i k a v : Nat} {m : PtpMsg}

/-! ### The best master (R388) -/

/-- The better of two masters, where there is one yet. -/
def betterOf (b : Option Foreign) (f : Foreign) : Option Foreign :=
  match b with
  | none => some f
  | some g => if betterMaster f g then some f else some g

theorem betterOf_some (b : Option Foreign) (f : Foreign) : betterOf b f = some f ∨ betterOf b f = b ∧ b ≠ none := by
  unfold betterOf
  cases b with
  | none => exact Or.inl rfl
  | some g =>
    dsimp only
    split
    exacts [Or.inl rfl, Or.inr ⟨rfl, by simp⟩]

theorem bestOf_mem {l : List Foreign} {b : Option Foreign} {f : Foreign} (h : l.foldl betterOf b = some f) : f ∈ l ∨ b = some f := by
  induction l generalizing b with
  | nil => exact Or.inr h
  | cons g l ih =>
    rcases ih h with hl | hb
    · exact Or.inl (List.mem_cons_of_mem _ hl)
    · rcases betterOf_some b g with hg | ⟨hg, -⟩ <;> rw [hg] at hb
      · exact Or.inl (Option.some.inj hb ▸ List.mem_cons_self ..)
      · exact Or.inr hb

theorem bestOf_isSome {l : List Foreign} {b : Option Foreign} (h : b ≠ none ∨ l ≠ []) : l.foldl betterOf b ≠ none := by
  induction l generalizing b with
  | nil => exact h.resolve_right (fun h => h rfl)
  | cons g l ih => exact ih (Or.inl (by rcases betterOf_some b g with hg | ⟨hg, hb⟩ <;> rw [hg] <;> [simp; exact hb]))

/-! ### A new parent (R388, R392) -/

/-- The masters that qualify at a port. -/
def State.masters (s : State) (x : Nat) : List Foreign := (s.ptp x).foreign.filter (fun f => f.qualified s.now)

/-- The port's record with a master as its parent. -/
def State.parentTaken (s : State) (x : Nat) (f : Foreign) : State :=
  let p := s.ptp x
  s.setPtp x { p with parent := some (f.clock, f.port), annInterval := f.interval, waiting := if p.parent ≠ some (f.clock, f.port) then none else p.waiting }

/-- The words that show the parent and its grandmaster. -/
def State.parentShown (s : State) (x : Nat) (f : Foreign) : State :=
  let u := ((s.wr (Reg.npPtpParentLo x) (f.clock % 2 ^ 32)).wr (Reg.npPtpParentHi x) (f.clock / 2 ^ 32)).wr (Reg.npPtpParentPort x) f.port
  let u := ((u.wr (Reg.npPtpGmIdLo x) (f.data.gm % 2 ^ 32)).wr (Reg.npPtpGmIdHi x) (f.data.gm / 2 ^ 32)).wr (Reg.npPtpGmQuality x)
    (f.data.cls % 256 + f.data.accuracy % 256 * 256 + f.data.variance % 65536 * 65536)
  if u.fov.holder = x then u.wr Reg.timUtc (f.data.utc % 65536 + f.data.flags % 8 * 65536) else u

/-- A port that listened has a parent now (R391). -/
def State.parentStarted (s : State) (x : Nat) : State := if s.ptpState x = 1 then (s.setPtp x { s.ptp x with lastSync := s.now }).setPtpState x 2 else s

/-- A master, where one qualifies, becomes the parent. -/
def State.parentFrom (s : State) (x : Nat) (best : Option Foreign) : State :=
  match best with
  | none => s
  | some f => (if (s.ptp x).parent ≠ some (f.clock, f.port) then ((s.parentTaken x f).parentShown x f).raise (npBase x 4) 1
      else (s.parentTaken x f).parentShown x f).parentStarted x

theorem State.chooseParent_eq (s : State) (x : Nat) : s.chooseParent x = s.parentFrom x ((s.masters x).foldl betterOf none) := rfl

/-- The words that no choice of a parent concerns. -/
def outsideParent (x a : Nat) : Prop := outsidePort x a ∧ (a < Reg.npPtpParentLo x ∨ Reg.npPtpGmQuality x < a)

/-- What a choice of a parent leaves. -/
structure ParentChosen (x : Nat) (s t : State) : Prop where
  foreign : (t.ptp x).foreign = (s.ptp x).foreign
  length : t.net.length = s.net.length
  words : WordsKept (outsideParent x) s t
  events : EventsKept (npBase x 4 + 0x10) s t

theorem ParentChosen.refl (x : Nat) (s : State) : ParentChosen x s s := ⟨rfl, rfl, .refl _ s, .refl _ s⟩

theorem ParentChosen.trans (h : ParentChosen x s t) (k : ParentChosen x t u) : ParentChosen x s u :=
  ⟨k.foreign.trans h.foreign, k.length.trans h.length, h.words.trans k.words, h.events.trans k.events⟩

theorem ParentChosen.setPtp {p : Ptp} (h : ParentChosen x s t) (hx : x < s.net.length) (hp : p.foreign = (t.ptp x).foreign) : ParentChosen x s (t.setPtp x p) :=
  h.trans ⟨(congrArg Ptp.foreign (State.ptp_setPtp (by rw [h.length]; exact hx) p)).trans hp, State.setPtp_length _ _ _, fun a _ => State.setPtp_rd _ _ _ a,
    .of_rd (State.setPtp_rd _ _ _ _)⟩

theorem ParentChosen.of_net (hnet : t.net = s.net) (hwords : WordsKept (outsideParent x) s t) (hevents : EventsKept (npBase x 4 + 0x10) s t) : ParentChosen x s t :=
  ⟨congrArg Ptp.foreign (State.ptp_of_net hnet x), by rw [hnet], hwords, hevents⟩

theorem ParentChosen.wr (h : ParentChosen x s t) (hin : Reg.npPtpParentLo x ≤ a ∧ a ≤ Reg.npPtpGmQuality x ∨ 0x130000 ≤ a ∧ a < 0x140000)
    (hx : x < 2) (v : Nat) : ParentChosen x s (t.wr a v) := by
  refine h.trans (.of_net (State.wr_net _ _ _) (.wr (.refl _ t) fun hout => ?_) (.of_rd (State.rd_wr_ne _ _ ?_)))
  · unfold outsideParent outsidePort outsideTim at hout
    omega
  · unfold Reg.npPtpParentLo Reg.npPtpGmQuality at hin
    unfold npBase
    omega

theorem State.parentShown_chosen (s : State) (hx : x < 2) (f : Foreign) : ParentChosen x s (s.parentShown x f) := by
  have hwr : ∀ {t : State} {a v : Nat}, ParentChosen x s t → Reg.npPtpParentLo x ≤ a ∧ a ≤ Reg.npPtpGmQuality x → ParentChosen x s (t.wr a v) :=
    fun h ha => h.wr (Or.inl ha) hx _
  unfold State.parentShown
  have hshown := hwr (v := f.data.cls % 256 + f.data.accuracy % 256 * 256 + f.data.variance % 65536 * 65536) (a := Reg.npPtpGmQuality x)
    (hwr (v := f.data.gm / 2 ^ 32) (a := Reg.npPtpGmIdHi x) (hwr (v := f.data.gm % 2 ^ 32) (a := Reg.npPtpGmIdLo x)
    (hwr (v := f.port) (a := Reg.npPtpParentPort x) (hwr (v := f.clock / 2 ^ 32) (a := Reg.npPtpParentHi x)
    (hwr (v := f.clock % 2 ^ 32) (a := Reg.npPtpParentLo x) (.refl x s) (by unfold Reg.npPtpParentLo Reg.npPtpGmQuality; omega))
    (by unfold Reg.npPtpParentLo Reg.npPtpGmQuality Reg.npPtpParentHi; omega)) (by unfold Reg.npPtpParentLo Reg.npPtpGmQuality Reg.npPtpParentPort; omega))
    (by unfold Reg.npPtpParentLo Reg.npPtpGmQuality Reg.npPtpGmIdLo; omega)) (by unfold Reg.npPtpParentLo Reg.npPtpGmQuality Reg.npPtpGmIdHi; omega))
    (by unfold Reg.npPtpParentLo Reg.npPtpGmQuality; omega)
  dsimp only
  split
  · exact hshown.wr (Or.inr (by decide)) hx _
  · exact hshown

theorem State.parentShown_net (s : State) (x : Nat) (f : Foreign) : (s.parentShown x f).net = s.net := by
  unfold State.parentShown
  dsimp only
  split <;> simp only [State.wr_net]

theorem State.parentStarted_chosen (s : State) (hx : x < 2) (hlen : x < s.net.length) : ParentChosen x s (s.parentStarted x) := by
  unfold State.parentStarted
  split
  · exact ((ParentChosen.refl x s).setPtp (p := { s.ptp x with lastSync := s.now }) hlen rfl).trans (.of_net (State.setPtpState_net _ _ _)
      (fun a ha => State.setPtpState_words _ _ _ a ha.1) (State.setPtpState_events _ hx _))
  · exact .refl x s

theorem State.parentStarted_parent (hlen : x < s.net.length) : ((s.parentStarted x).ptp x).parent = (s.ptp x).parent := by
  unfold State.parentStarted
  split
  · rw [State.ptp_of_net (State.setPtpState_net _ _ _), State.ptp_setPtp hlen]
  · rfl

theorem State.chooseParent_chosen (s : State) (hx : x < 2) (hlen : x < s.net.length) : ParentChosen x s (s.chooseParent x) := by
  cases h : (s.masters x).foldl betterOf none with
  | none => rw [State.chooseParent_eq, h]; exact .refl x s
  | some f =>
    rw [State.chooseParent_eq, h]
    unfold State.parentFrom
    dsimp only
    have htaken : ParentChosen x s (s.parentTaken x f) := (ParentChosen.refl x s).setPtp hlen rfl
    have hshown := htaken.trans (State.parentShown_chosen (s.parentTaken x f) hx f)
    generalize (s.parentTaken x f).parentShown x f = w at hshown ⊢
    have hraised : ParentChosen x s (if (s.ptp x).parent ≠ some (f.clock, f.port) then w.raise (npBase x 4) 1 else w) := by
      split
      · exact hshown.trans (.of_net (State.raise_net _ _ _) (.raise (.refl _ w) (fun h => h.1.2.1 rfl)) ((EventsKept.refl _ w).raise _ (by decide)))
      · exact hshown
    exact hraised.trans (State.parentStarted_chosen _ hx (by rw [hraised.length]; exact hlen))

theorem State.chooseParent_parent (hx : x < 2) (hlen : x < s.net.length) (h : s.masters x ≠ []) :
    ∃ f ∈ s.masters x, ((s.chooseParent x).ptp x).parent = some (f.clock, f.port) := by
  obtain ⟨f, hf⟩ := Option.ne_none_iff_exists'.1 (bestOf_isSome (b := none) (Or.inr h))
  refine ⟨f, (bestOf_mem hf).resolve_right (by simp), ?_⟩
  rw [State.chooseParent_eq, hf]
  have htaken : ((s.parentTaken x f).ptp x).parent = some (f.clock, f.port) := congrArg Ptp.parent (State.ptp_setPtp hlen _)
  have hnet : ∀ w : State, w.net = (s.parentTaken x f).net → ((w.parentStarted x).ptp x).parent = some (f.clock, f.port) := fun w hw => by
    rw [State.parentStarted_parent (by rw [hw]; exact hlen.trans_eq (State.setPtp_length _ _ _).symm), State.ptp_of_net hw, htaken]
  refine hnet _ ?_
  split
  · rw [State.raise_net, State.parentShown_net]
  · exact State.parentShown_net _ _ _

/-! ### An Announce (R388) -/

/-- The record that an Announce makes of its master. -/
def State.announced (s : State) (x : Nat) (m : PtpMsg) (d : AnnounceData) : Foreign :=
  { clock := m.clock, port := m.port, data := d, last := s.now, prev := ((s.ptp x).foreign.find? (fun f => f.clock == m.clock && f.port == m.port)).map (fun g => g.last), interval := m.interval }

/-- The port's record once an Announce has joined its foreign masters. -/
def State.announceNoted (s : State) (x : Nat) (m : PtpMsg) (d : AnnounceData) : Ptp :=
  let p := s.ptp x
  { p with foreign := s.announced x m d :: p.foreign.filter (fun g => !(g.clock == m.clock && g.port == m.port)), lastAnn := if p.parent = some (m.clock, m.port) then s.now else p.lastAnn }

theorem State.announceIn_eq {d : AnnounceData} (hruns : s.ptpRuns x = true) (hdomain : s.fld (Reg.npPtpCtrl x) 15 8 = m.domain)
    (hlow : -3 ≤ m.interval) (hhigh : m.interval ≤ 3) :
    let c := s.add (Reg.npPtpStat x 4) 1
    let w := c.setPtp x (c.announceNoted x m d)
    s.announceIn x m d = if ((w.chooseParent x).ptp x).parent = (w.ptp x).parent then w.chooseParent x
      else (w.chooseParent x).setPtp x { (w.chooseParent x).ptp x with lastAnn := (w.chooseParent x).now } := by
  unfold State.announceIn
  rw [if_neg (by simp [hruns, hdomain]), if_neg (by omega)]
  rfl

theorem State.announceIn_spec {d : AnnounceData} (hx : x < 2) (hruns : s.ptpRuns x = true) (hdomain : s.fld (Reg.npPtpCtrl x) 15 8 = m.domain)
    (hlow : -3 ≤ m.interval) (hhigh : m.interval ≤ 3) (hlen : x < s.net.length) :
    (s.announceIn x m d).rd (Reg.npPtpStat x 4) = (s.rd (Reg.npPtpStat x 4) + 1) % 2 ^ 32 ∧
    ∃ f ∈ ((s.announceIn x m d).ptp x).foreign, f.clock = m.clock ∧ f.port = m.port ∧ f.data = d ∧ f.last = s.now := by
  have hout : outsideParent x (Reg.npPtpStat x 4) := by
    unfold outsideParent outsidePort outsideTim Reg.npPtpStat Reg.npPtpStatus npBase Reg.npPtpParentLo Reg.npPtpGmQuality
    omega
  have hstat := State.rd_add_same s (Reg.npPtpStat x 4) 1
  have hnow : (s.add (Reg.npPtpStat x 4) 1).now = s.now := State.add_now _ _ _
  have hlen' : x < (s.add (Reg.npPtpStat x 4) 1).net.length := by rw [State.add_length]; exact hlen
  rw [State.announceIn_eq hruns hdomain hlow hhigh]
  generalize s.add (Reg.npPtpStat x 4) 1 = c at hstat hnow hlen' ⊢
  have hnoted : ((c.setPtp x (c.announceNoted x m d)).ptp x).foreign = (c.announceNoted x m d).foreign := congrArg Ptp.foreign (State.ptp_setPtp hlen' _)
  have hwlen : x < (c.setPtp x (c.announceNoted x m d)).net.length := by rw [State.setPtp_length]; exact hlen'
  have hwstat : (c.setPtp x (c.announceNoted x m d)).rd (Reg.npPtpStat x 4) = (s.rd (Reg.npPtpStat x 4) + 1) % 2 ^ 32 := hstat
  have hmem : ∃ f ∈ (c.announceNoted x m d).foreign, f.clock = m.clock ∧ f.port = m.port ∧ f.data = d ∧ f.last = s.now :=
    ⟨c.announced x m d, List.mem_cons_self .., rfl, rfl, rfl, hnow⟩
  generalize c.setPtp x (c.announceNoted x m d) = w at hnoted hwlen hwstat ⊢
  have hchosen := w.chooseParent_chosen hx hwlen
  have hend : ParentChosen x w (if ((w.chooseParent x).ptp x).parent = (w.ptp x).parent then w.chooseParent x
      else (w.chooseParent x).setPtp x { (w.chooseParent x).ptp x with lastAnn := (w.chooseParent x).now }) := by
    split
    · exact hchosen
    · exact hchosen.setPtp hwlen rfl
  rw [hend.words _ hout, hend.foreign, hnoted, hwstat]
  exact ⟨rfl, hmem⟩

end

end Sys2Proof.Machine

/-! SUPPORT. Delay_Req, PTP timeouts, the die-to-die interface and the captured time, and O48 (R385, R388, R391, R397). -/

namespace Sys2Proof.Machine

section
variable {s t u : State} {x y i k a v : Nat} {m : PtpMsg}

/-! ### A Delay_Req (R360, R388) -/

/-- The port's record once its Delay_Req is queued; how long the next waits is a free value. -/
def State.delayNoted (s : State) (x : Nat) : Ptp :=
  { s.ptp x with dreqSeq := ((s.ptp x).dreqSeq + 1) % 65536, dreq := none, dreqAt := s.now + s.draw.1 % (2 * s.dreqTime x + 1) }

theorem State.delayReq_due (hruns : s.ptpRuns x = true) (hlink : s.linkUp x = true) (hd2d : (s.path x).d2d = true) (hat : (s.ptp x).dreqAt ≤ s.now)
    (hlast : (s.ptp x).last.isSome = true) (hwho : s.fov.holder = x ∨ s.flag (Reg.npPtpCtrl x) 4 = true) :
    ∃ f, s.delayReq x = (s.draw.2.setPtp x (s.delayNoted x)).enqueue x ((s.draw.2.setPtp x (s.delayNoted x)).fld (Reg.npEgMap x) 11 8) f := by
  unfold State.delayReq
  rw [if_pos (by simp [hruns, hlink, hd2d, hat, hlast, hwho])]
  exact ⟨_, rfl⟩

theorem State.delayReq_spec (hx : x < 2) (hruns : s.ptpRuns x = true) (hlink : s.linkUp x = true) (hd2d : (s.path x).d2d = true) (hat : (s.ptp x).dreqAt ≤ s.now)
    (hlast : (s.ptp x).last.isSome = true) (hwho : s.fov.holder = x ∨ s.flag (Reg.npPtpCtrl x) 4 = true) :
    let u := s.delayReq x
    (u.ptp x).dreqSeq = ((s.ptp x).dreqSeq + 1) % 65536 ∧ (u.ptp x).dreq = none ∧ (u.ptp x).dreqAt ≤ s.now + 2 * s.dreqTime x ∧
    u.rd (Reg.npPtpStat x 2) = s.rd (Reg.npPtpStat x 2) := by
  obtain ⟨p, hp⟩ := Option.isSome_iff_exists.1 hlast
  obtain ⟨f, hrun⟩ := State.delayReq_due hruns hlink hd2d hat hlast hwho
  have hptp : (s.draw.2.setPtp x (s.delayNoted x)).ptp x = s.delayNoted x := State.ptp_setPtp (State.path_present_last hp) _
  have hstat : (s.draw.2.setPtp x (s.delayNoted x)).rd (Reg.npPtpStat x 2) = s.rd (Reg.npPtpStat x 2) := rfl
  dsimp only
  rw [hrun]
  generalize s.draw.2.setPtp x (s.delayNoted x) = w at hptp hstat ⊢
  have hqueue : w.fld (Reg.npEgMap x) 11 8 < 16 := Nat.mod_lt _ (by decide)
  have hdrops : DropsOnly x w (w.enqueue x (w.fld (Reg.npEgMap x) 11 8) f) :=
    (DropsOnly.refl x w).enqueue hqueue f
  have hsame : (w.enqueue x (w.fld (Reg.npEgMap x) 11 8) f).ptp x = s.delayNoted x := (congrArg NetPath.ptp (hdrops.queues.2 x)).trans hptp
  rw [hsame, hdrops.words _ (by unfold outsideDrops Reg.npPtpStat npBase Reg.npQDrop; omega), hstat]
  exact ⟨rfl, rfl, Nat.add_le_add_left (Nat.le_of_lt_succ (Nat.mod_lt _ (Nat.succ_pos _))) _, rfl⟩

/-! ### Timeouts (R391, R392) -/

/-- A port whose parent has been silent gives it up, for another master where one qualifies. -/
def State.parentLeft (s : State) (x : Nat) (p : Ptp) (left : List Foreign) (ann : Bool) : State :=
  let w := if ann then s.setPtp x { p with parent := none, foreign := left, waiting := none, lastAnn := s.now } else s
  if ann then w.chooseParent x else w

/-- The state that a timeout leaves the port and device time in. -/
def State.timeoutShown (s : State) (x : Nat) (lone syn : Bool) : State :=
  let w := if lone then s.setPtpState x 1 else if syn then s.setPtpState x 2 else s
  if w.fov.holder = x ∧ (lone ∨ syn) then w.enterHold else w

/-- The other masters that qualify once the parent is gone. -/
def State.otherMasters (s : State) (x now : Nat) : List Foreign :=
  (s.ptp x).foreign.filter (fun f => (s.ptp x).parent != some (f.clock, f.port) && f.qualified now)

theorem State.ptpTimeout_due {ann syn : Bool}
    (hann : decide ((s.ptp x).lastAnn + s.fld (Reg.npPtpTimeout x) 3 0 * intervalTime (s.ptp x).annInterval ≤ s.now) = ann)
    (hsyn : decide ((s.ptp x).lastSync + s.fld (Reg.npPtpTimeout x) 11 8 * intervalTime (s.ptp x).syncInterval ≤ s.now) = syn)
    (hruns : s.ptpRuns x = true) (hd2d : (s.path x).d2d = true) (hparent : (s.ptp x).parent.isSome = true) (hdue : (ann || syn) = true) :
    let r := s.raise (npBase x 4) 2
    s.ptpTimeout x = (r.parentLeft x (s.ptp x) (s.otherMasters x r.now) ann).timeoutShown x (ann && (s.otherMasters x r.now).isEmpty) syn := by
  unfold State.ptpTimeout
  simp only [hann, hsyn]
  rw [if_pos (by simp [hruns, hd2d, hparent, hdue])]
  rfl

theorem State.timeoutShown_spec (s : State) (hx : x < 2) (lone syn : Bool) :
    (s.timeoutShown x lone syn).net = s.net ∧ EventsKept (npBase x 4 + 0x10) s (s.timeoutShown x lone syn) ∧
    (lone = true → (s.timeoutShown x lone syn).ptpState x = 1) ∧ (lone = false → syn = true → (s.timeoutShown x lone syn).ptpState x = 2) := by
  have hhold : ∀ w : State, (if w.fov.holder = x ∧ (lone ∨ syn) then w.enterHold else w).net = w.net ∧
      EventsKept (npBase x 4 + 0x10) w (if w.fov.holder = x ∧ (lone ∨ syn) then w.enterHold else w) ∧
      (if w.fov.holder = x ∧ (lone ∨ syn) then w.enterHold else w).ptpState x = w.ptpState x := fun w => by
    split
    · exact ⟨w.enterHold_net, (EventsKept.refl _ w).words w.enterHold_words (npPtpEvents_tim hx), w.enterHold_words.fld (npPtpStatus_tim hx) _ _⟩
    · exact ⟨rfl, .refl _ w, rfl⟩
  unfold State.timeoutShown
  dsimp only
  obtain ⟨hnet, hevents, hstate⟩ := hhold (if lone then s.setPtpState x 1 else if syn then s.setPtpState x 2 else s)
  rw [hnet, hstate]
  refine ⟨?_, EventsKept.trans ?_ hevents, fun h => ?_, fun h h' => ?_⟩
  · cases lone <;> cases syn <;> simp [State.setPtpState_net]
  · split
    · exact s.setPtpState_events hx _
    · split
      exacts [s.setPtpState_events hx _, .refl _ s]
  · rw [if_pos h]
    exact s.setPtpState_state hx (by decide)
  · rw [if_neg (by simp [h]), if_pos h']
    exact s.setPtpState_state hx (by decide)

theorem State.parentLeft_events (hx : x < 2) (hlen : x < s.net.length) (p : Ptp) (left : List Foreign) (ann : Bool) :
    EventsKept (npBase x 4 + 0x10) s (s.parentLeft x p left ann) := by
  unfold State.parentLeft
  cases ann with
  | false => exact .refl _ s
  | true =>
    have hset : EventsKept (npBase x 4 + 0x10) s (s.setPtp x { p with parent := none, foreign := left, waiting := none, lastAnn := s.now }) := .of_rd (State.setPtp_rd _ _ _ _)
    exact hset.trans (State.chooseParent_chosen _ hx (by rw [State.setPtp_length]; exact hlen)).events

theorem State.parentLeft_masters (hlen : x < s.net.length) (p : Ptp) (left : List Foreign) :
    (s.setPtp x { p with parent := none, foreign := left, waiting := none, lastAnn := s.now }).masters x = left.filter (fun f => f.qualified s.now) := by
  rw [State.masters, State.ptp_setPtp hlen]
  rfl

theorem State.parentLeft_none (hlen : x < s.net.length) (p : Ptp) : ((s.parentLeft x p [] true).ptp x).parent = none := by
  have hmasters := State.parentLeft_masters hlen p []
  have hptp := State.ptp_setPtp hlen { p with parent := none, foreign := [], waiting := none, lastAnn := s.now }
  have hrun : s.parentLeft x p [] true = (s.setPtp x { p with parent := none, foreign := [], waiting := none, lastAnn := s.now }).chooseParent x := rfl
  rw [hrun, State.chooseParent_eq, hmasters, List.filter_nil, List.foldl_nil, State.parentFrom, hptp]

theorem State.parentLeft_other (hx : x < 2) (hlen : x < s.net.length) (p : Ptp) {left : List Foreign} (hleft : left ≠ []) (hqual : ∀ f ∈ left, f.qualified s.now = true) :
    ∃ f ∈ left, ((s.parentLeft x p left true).ptp x).parent = some (f.clock, f.port) := by
  have hmasters : (s.setPtp x { p with parent := none, foreign := left, waiting := none, lastAnn := s.now }).masters x = left :=
    (State.parentLeft_masters hlen p left).trans (List.filter_eq_self.2 hqual)
  obtain ⟨f, hf, hparent⟩ := State.chooseParent_parent (s := s.setPtp x { p with parent := none, foreign := left, waiting := none, lastAnn := s.now }) hx
    (by rw [State.setPtp_length]; exact hlen) (by rw [hmasters]; exact hleft)
  exact ⟨f, hmasters ▸ hf, hparent⟩

theorem State.otherMasters_qualified (s : State) (x now : Nat) : ∀ f ∈ s.otherMasters x now, f.qualified now = true := fun _ hf =>
  (Bool.and_eq_true_iff.1 (List.mem_filter.1 hf).2).2

theorem State.ptpTimeout_spec {ann syn : Bool}
    (hann : decide ((s.ptp x).lastAnn + s.fld (Reg.npPtpTimeout x) 3 0 * intervalTime (s.ptp x).annInterval ≤ s.now) = ann)
    (hsyn : decide ((s.ptp x).lastSync + s.fld (Reg.npPtpTimeout x) 11 8 * intervalTime (s.ptp x).syncInterval ≤ s.now) = syn) (hx : x < 2)
    (hruns : s.ptpRuns x = true) (hd2d : (s.path x).d2d = true) (hparent : (s.ptp x).parent.isSome = true) (hdue : (ann || syn) = true) :
    let u := s.ptpTimeout x
    let left := s.otherMasters x s.now
    u.flag (npBase x 4 + 0x10) 2 = true ∧ (ann = true → left = [] → u.ptpState x = 1 ∧ (u.ptp x).parent = none) ∧
    (ann = true → left ≠ [] → ∃ f ∈ left, (u.ptp x).parent = some (f.clock, f.port)) ∧ (syn = true → ann = false ∨ left ≠ [] → u.ptpState x = 2) := by
  obtain ⟨p, hp⟩ := Option.isSome_iff_exists.1 hparent
  have hnow : (s.raise (npBase x 4) 2).now = s.now := State.raise_now _ _ _
  have hlen : x < (s.raise (npBase x 4) 2).net.length := by rw [State.raise_net]; exact State.path_present_parent hp
  have hraised : (s.raise (npBase x 4) 2).flag (npBase x 4 + 0x10) 2 = true := State.flag_raise_same _ _ _ (by decide)
  have hqual := s.otherMasters_qualified x s.now
  dsimp only
  rw [State.ptpTimeout_due hann hsyn hruns hd2d hparent hdue]
  generalize s.raise (npBase x 4) 2 = r at hnow hlen hraised ⊢
  rw [hnow]
  generalize s.otherMasters x s.now = left at hqual ⊢
  have hevent := State.parentLeft_events hx hlen (s.ptp x) left ann 2 (by decide) hraised
  obtain ⟨hnet, hevents, hlone, hsync⟩ := (r.parentLeft x (s.ptp x) left ann).timeoutShown_spec hx (ann && left.isEmpty) syn
  rw [State.ptp_of_net hnet]
  refine ⟨hevents 2 (by decide) hevent, fun ha hl => ?_, fun ha hl => ?_, fun hs hl => hsync ?_ hs⟩
  · subst hl
    subst ha
    exact ⟨hlone rfl, State.parentLeft_none hlen _⟩
  · subst ha
    exact State.parentLeft_other hx hlen _ hl (by rw [hnow]; exact hqual)
  · rcases hl with ha | hl
    · rw [ha, Bool.false_and]
    · rw [List.isEmpty_eq_false_iff.2 hl, Bool.and_false]

/-! ### The die-to-die interface (R385) -/

/-- The interface's state, and for the standby die what its loss brings with it (R33). -/
def State.dieNoted (s : State) (x : Nat) (up : Bool) : State :=
  let fell := (s.path x).d2d && !up
  let u := s.setPath x { s.path x with d2d := up, ptp := if up then s.ptp x else { s.ptp x with waiting := none, held := none } }
  if u.fov.holder = x then u else (if fell && u.dieUsable x then u.logIt (0x1000 + 0x100 * x) 5 1 [] else u).fovArm

/-- What the interface makes of the port (R385). -/
def State.dieFollowed (s : State) (x : Nat) (up : Bool) : State :=
  if !s.flag (Reg.npPtpCtrl x) 0 then s
  else if up then (if s.ptpState x = 4 then s.setPtpState x (if (s.ptp x).parent.isSome then 2 else 1) else s)
  else s.setPtpState x 4

theorem State.dieLink_eq (s : State) (x : Nat) (up : Bool) : s.dieLink x up = (s.dieNoted x up).dieFollowed x up := rfl

theorem State.dieNoted_net (s : State) (x : Nat) (up : Bool) :
    (s.dieNoted x up).net = s.net.set x { s.path x with d2d := up, ptp := if up then s.ptp x else { s.ptp x with waiting := none, held := none } } := by
  have hset : (s.setPath x { s.path x with d2d := up, ptp := if up then s.ptp x else { s.ptp x with waiting := none, held := none } }).net =
      s.net.set x { s.path x with d2d := up, ptp := if up then s.ptp x else { s.ptp x with waiting := none, held := none } } := rfl
  rw [← hset]
  unfold State.dieNoted
  dsimp only
  generalize s.setPath x _ = u
  split
  · rfl
  · rw [State.fovArm_kept.net.resolve_left (by decide)]
    split
    exacts [State.logIt_kept.net.resolve_left (by decide), rfl]

theorem State.dieNoted_words (s : State) (x : Nat) (up : Bool) : WordsKept outsideAlarms s (s.dieNoted x up) := by
  have hset : WordsKept outsideAlarms s (s.setPath x { s.path x with d2d := up, ptp := if up then s.ptp x else { s.ptp x with waiting := none, held := none } }) :=
    fun _ _ => rfl
  unfold State.dieNoted
  dsimp only
  generalize s.setPath x _ = u at hset ⊢
  exact .ite hset ((WordsKept.ite (hset.trans (State.logIt_alarms _ _ _ _ _)) hset).trans (State.fovArm_alarms _))

theorem npPtp_alarms (hx : x < 2) : outsideAlarms (Reg.npPtpCtrl x) ∧ outsideAlarms (Reg.npPtpStatus x) := by
  unfold outsideAlarms Reg.npPtpCtrl Reg.npPtpStatus Reg.svcLogStaged
  omega

theorem State.dieLink_down (hx : x < 2) (hen : s.flag (Reg.npPtpCtrl x) 0 = true) :
    (s.dieLink x false).net = s.net.set x { s.path x with d2d := false, ptp := { s.ptp x with waiting := none, held := none } } ∧ (s.dieLink x false).ptpState x = 4 := by
  have hflag := (s.dieNoted_words x false).flag (npPtp_alarms hx).1 0
  rw [State.dieLink_eq, State.dieFollowed, if_neg (by rw [hflag, hen]; decide), if_neg Bool.false_ne_true, State.setPtpState_net, State.dieNoted_net]
  exact ⟨rfl, State.setPtpState_state _ hx (by decide)⟩

theorem State.dieLink_up (hx : x < 2) (hen : s.flag (Reg.npPtpCtrl x) 0 = true) (hfaulty : s.ptpState x = 4) (hlen : x < s.net.length) :
    (s.dieLink x true).net = s.net.set x { s.path x with d2d := true } ∧ (s.dieLink x true).ptpState x = if (s.ptp x).parent.isSome then 2 else 1 := by
  have hflag := (s.dieNoted_words x true).flag (npPtp_alarms hx).1 0
  have hstate : (s.dieNoted x true).ptpState x = 4 := ((s.dieNoted_words x true).fld (npPtp_alarms hx).2 2 0).trans hfaulty
  have hnet := s.dieNoted_net x true
  have hptp : (s.dieNoted x true).ptp x = s.ptp x := by
    rw [State.ptp, State.path, hnet, List.getD_eq_getElem?_getD, List.getElem?_set_self hlen]
    rfl
  rw [State.dieLink_eq, State.dieFollowed, if_neg (by rw [hflag, hen]; decide), if_pos rfl, if_pos hstate, hptp, State.setPtpState_net, hnet]
  exact ⟨rfl, State.setPtpState_state _ hx (by split <;> decide)⟩

/-! ### The captured time (R397) -/

theorem State.timCapture_spec (s : State) :
    let u := s.timCapture
    u.rd Reg.timNowSecLo = s.device / ns / 1000000000 % 2 ^ 32 ∧ u.rd Reg.timNowSecHi = s.device / ns / 1000000000 / 2 ^ 32 % 2 ^ 32 ∧
    u.rd Reg.timNowNs = s.device / ns % 1000000000 ∧ u.rd Reg.timNowFrac = s.device % ns / 2 ^ 16 ∧
    s.wordsBut u [Reg.timNowSecLo, Reg.timNowSecHi, Reg.timNowNs, Reg.timNowFrac] := by
  have hlh : Reg.timNowSecLo ≠ Reg.timNowSecHi := by decide
  have hln : Reg.timNowSecLo ≠ Reg.timNowNs := by decide
  have hlf : Reg.timNowSecLo ≠ Reg.timNowFrac := by decide
  have hhn : Reg.timNowSecHi ≠ Reg.timNowNs := by decide
  have hhf : Reg.timNowSecHi ≠ Reg.timNowFrac := by decide
  have hnf : Reg.timNowNs ≠ Reg.timNowFrac := by decide
  unfold State.timCapture
  dsimp only
  refine ⟨?_, ?_, ?_, ?_, ?_⟩
  · rw [State.rd_wr_ne _ _ hlf, State.rd_wr_ne _ _ hln, State.rd_wr_ne _ _ hlh, State.rd_wr_same, Nat.mod_mod]
  · rw [State.rd_wr_ne _ _ hhf, State.rd_wr_ne _ _ hhn, State.rd_wr_same]
  · rw [State.rd_wr_ne _ _ hnf, State.rd_wr_same]
    exact Nat.mod_eq_of_lt ((Nat.mod_lt _ (by decide)).trans (by decide))
  · rw [State.rd_wr_same]
    exact Nat.mod_eq_of_lt ((Nat.div_le_self _ _).trans_lt (Nat.mod_lt _ (by decide)))
  · exact State.wordsBut_wr (State.wordsBut_wr (State.wordsBut_wr (State.wordsBut_wr (State.wordsBut_refl _ _) (by simp)) (by simp)) (by simp)) (by simp)

end

/-- Settles O48: each PTP message by what it leaves of its port, then the timeouts, the captured time and the die-to-die interface. -/
theorem networkTime : Obligations.NetworkTime := by
  unfold Obligations.NetworkTime
  intro s x t m hx
  refine ⟨fun hruns hdomain => ⟨fun hparent htwo hlow hhigh hd2d => ?_, fun q p w hparent hwait hq hnow hd2d => ?_,
    fun q t3 p hparent hdreq hlast hq hreq hd2d => ?_, fun d hlow hhigh hlen => ?_⟩, fun hruns hlink hd2d hat hlast hwho => ?_,
    fun hruns hd2d hparent hdue => ?_, fun hdom => ?_, fun hen => ⟨?_, fun hfaulty hlen => ?_⟩⟩
  · refine ⟨_, congrArg finish (if_pos hx), ?_⟩
    rw [settle_rd, settle_flag, settle_ptp]
    exact State.syncIn_twoStep_spec (s := s.at t) hx hruns hdomain hparent htwo hlow hhigh hd2d
  · refine ⟨_, congrArg finish ((if_pos hx).trans (State.followUp_taken (s := s.at t) hruns hparent hwait hq hnow hd2d)), ?_⟩
    have hlen : x < ((s.at t).add (Reg.npPtpStat x 1) 1).net.length := by
      rw [State.add_length]
      exact State.path_present_parent (State.fromParent_parent hparent)
    have hstat := State.rd_add_same (s.at t) (Reg.npPtpStat x 1) 1
    generalize (s.at t).add (Reg.npPtpStat x 1) 1 = c at hlen hstat
    obtain ⟨⟨held, hport⟩, hwords⟩ := State.syncSample_taken hlen { p with t1 := (s.at t).widen m.sec m.ns, corr := p.corr + corrUnits m.corr }
    rw [settle_rd, settle_ptp, hport, hwords _ (npPtpStat_sample hx (by decide)), hstat]
    exact ⟨rfl, rfl, rfl⟩
  · refine ⟨_, congrArg finish (if_pos hx), ?_⟩
    rw [settle_rd, settle_ptp]
    exact State.delayResp_taken_spec (s := s.at t) hx hruns hparent hdreq hlast hq hreq hd2d
  · refine ⟨_, congrArg finish (if_pos hx), ?_⟩
    rw [settle_rd, settle_ptp]
    exact State.announceIn_spec (s := s.at t) hx hruns hdomain hlow hhigh hlen
  · refine ⟨_, congrArg finish (if_pos hx), ?_⟩
    rw [settle_rd, settle_ptp]
    exact State.delayReq_spec (s := s.at t) hx hruns hlink hd2d hat hlast hwho
  · obtain ⟨hevent, hlone, hother, hsync⟩ := State.ptpTimeout_spec (s := s.at t) rfl rfl hx hruns hd2d hparent (Bool.or_eq_true_iff.2 (hdue.imp decide_eq_true decide_eq_true))
    refine ⟨_, congrArg finish (if_pos hx), ?_⟩
    rw [settle_flag, settle_ptp, State.ptpState, settle_fld]
    exact ⟨hevent, fun ha hl => hlone (decide_eq_true ha) hl, fun ha hl => hother (decide_eq_true ha) hl,
      fun hs hl => hsync (decide_eq_true hs) (hl.imp (fun h => decide_eq_false h) id)⟩
  · obtain ⟨hlo, hhi, hns, hfrac, hothers⟩ := (s.at t).timCapture_spec
    refine ⟨_, congrArg finish (if_pos hdom), ?_⟩
    rw [settle_rd, settle_rd, settle_rd, settle_rd]
    exact ⟨hlo, hhi, hns, hfrac, State.wordsBut_settle hothers⟩
  · obtain ⟨hnet, hstate⟩ := State.dieLink_down (s := s.at t) hx hen
    refine ⟨_, congrArg finish (if_pos hx), ?_⟩
    rw [settle_net, State.ptpState, settle_fld]
    exact ⟨hnet, hstate⟩
  · obtain ⟨hnet, hstate⟩ := State.dieLink_up (s := s.at t) hx hen hfaulty hlen
    refine ⟨_, congrArg finish (if_pos hx), ?_⟩
    rw [settle_net, State.ptpState, settle_fld]
    exact ⟨hnet, hstate⟩

end Sys2Proof.Machine

/-! SUPPORT. A poisoned line whose read waits for the end of a replay, for O49 (R402, R405, R406). -/

namespace Sys2Proof.Machine

/-- Channel 0 with one module, ACTIVE, its line 0 poisoned, in a replay that ends at instant 1. -/
def poisonedReplay : State :=
  { ((State.reset.wr Reg.pwrDomStat0 (2 ^ 24)).wr (Reg.svcUnit 119) 0) with
    dimms := [[{ gib := 16, ranks := 1, width := 8, serial := 1, speed := 4800, rfm := false, registered := true, ecc := true, density := 16 }]],
    poison := [0], dmc := { chans := [{ Chan.reset with replayEnd := 1 }], trainFrom := 0 } }

/-- The data that the reads of channel 0 wait with, after a command. -/
def waitingData : Host.Outcome State Fault Refusal → List (Option (List Byte))
  | .next u => (u.chan 0).rq.map (fun r => r.data)
  | _ => []

/-- The read waits, and what it waits with is poison. -/
theorem poisonedReplay_waits : waitingData (exec (.dramRead 0 true 0 ⟨0, 0⟩ none false 0) poisonedReplay) = [none] := by decide +kernel

/-- Refutes O49: of the reads that a replay holds back the statement says that each waits with its line's bytes, but the line may be poisoned;
then the model queues the read with poison in place of data, as R406 has it. -/
theorem not_dramAccess : ¬ Obligations.DramAccess := by
  unfold Obligations.DramAccess
  intro h
  obtain ⟨-, -, -, hwait⟩ := h poisonedReplay 0 0 0 true none (by decide) (by decide +kernel) (by decide +kernel) (by decide +kernel) (by decide +kernel)
  obtain ⟨u, hrun, -, -, hrq⟩ := (hwait (by decide +kernel) 0 0 [] false).1 (by decide +kernel)
  have hdata : waitingData (.next u) = [none] := (congrArg waitingData hrun).symm.trans poisonedReplay_waits
  have hsome : waitingData (.next u) = [some ((List.range 64).map (fun i => poisonedReplay.byte (0 / 64 * 64 + i)))] :=
    congrArg (List.map (fun r : QRead => r.data)) hrq
  exact absurd (hdata.symm.trans hsome) (by simp)

end Sys2Proof.Machine

/-! SUPPORT. What serving a channel without reads leaves, and refreshes, for O50 (R402-R404, R409, R410). -/

namespace Sys2Proof.Machine

section
variable {s t u : State} {c k n i a b : Nat}

/-! ### Channels -/

theorem State.chan_of_dmc (h : t.dmc = s.dmc) (c : Nat) : t.chan c = s.chan c := by rw [State.chan, State.chan, h]

theorem State.setChan_rd (s : State) (c : Nat) (x : Chan) (a : Nat) : (s.setChan c x).rd a = s.rd a := rfl

theorem State.chan_setChan_same (hc : c < s.dmc.chans.length) (x : Chan) : (s.setChan c x).chan c = x := by
  simp [State.chan, State.setChan, hc]

/-- What a change of a channel leaves alone is the same whether or not the channel is there. -/
theorem State.chan_setChan_part {β : Type} (f : Chan → β) (x : Chan) (h : f x = f (s.chan c)) : f ((s.setChan c x).chan c) = f (s.chan c) := by
  by_cases hc : c < s.dmc.chans.length
  · rw [State.chan_setChan_same hc, h]
  · simp [State.chan, State.setChan, List.set_eq_of_length_le (Nat.le_of_not_lt hc)]

theorem State.flag_raise_other (s : State) (b : Nat) {j : Nat} (hj : j < 32) (h : i ≠ j) : (s.raise b j).flag (b + 0x10) i = s.flag (b + 0x10) i := by
  rw [State.raise, State.tellMarigold_flag]
  exact State.flag_setFlag_other _ _ _ _ _ hj h

/-! ### Serving a channel whose reads are done (R402) -/

/-- The words of a channel that commands other than reads concern. -/
def outsideServe (c a : Nat) : Prop := a ≠ Reg.dmcChStat c 1 ∧ a ≠ Reg.dmcChStat c 10 ∧ a ≠ Reg.dmcChStat c 11 ∧ a ≠ dmcBase c + 0x10

theorem dmcChStat_serve (h1 : i ≠ 1) (h10 : i ≠ 10) (h11 : i ≠ 11) : outsideServe c (Reg.dmcChStat c i) := by
  unfold outsideServe Reg.dmcChStat dmcBase
  omega

/-- What activates and writes leave of a channel: its reads and its fence, the words they do not concern, and the limit event. -/
structure ChanServed (c : Nat) (s t : State) : Prop where
  reads : (t.chan c).rq = (s.chan c).rq
  fence : (t.chan c).fenceDue = (s.chan c).fenceDue
  words : WordsKept (outsideServe c) s t
  limit : t.flag (dmcBase c + 0x10) 7 = s.flag (dmcBase c + 0x10) 7

theorem ChanServed.refl (c : Nat) (s : State) : ChanServed c s s := ⟨rfl, rfl, .refl _ s, rfl⟩

theorem ChanServed.trans (h : ChanServed c s t) (k : ChanServed c t u) : ChanServed c s u :=
  ⟨k.reads.trans h.reads, k.fence.trans h.fence, h.words.trans k.words, k.limit.trans h.limit⟩

theorem ChanServed.setChan {x : Chan} (h : ChanServed c s t) (hrq : x.rq = (t.chan c).rq) (hfence : x.fenceDue = (t.chan c).fenceDue) :
    ChanServed c s (t.setChan c x) :=
  h.trans ⟨State.chan_setChan_part (fun y => y.rq) x hrq, State.chan_setChan_part (fun y => y.fenceDue) x hfence, fun a _ => State.setChan_rd t c x a,
    congrArg (fun w => bitOf w 7) (State.setChan_rd t c x _)⟩

theorem ChanServed.of_dmc (hdmc : t.dmc = s.dmc) (hwords : WordsKept (outsideServe c) s t) (hlimit : t.flag (dmcBase c + 0x10) 7 = s.flag (dmcBase c + 0x10) 7) :
    ChanServed c s t := ⟨by rw [State.chan_of_dmc hdmc], by rw [State.chan_of_dmc hdmc], hwords, hlimit⟩

theorem dmcChStat_ne_events : dmcBase c + 0x10 ≠ Reg.dmcChStat c i := by
  unfold dmcBase Reg.dmcChStat
  omega

theorem ChanServed.count (h : ChanServed c s t) (hi : i = 1 ∨ i = 10 ∨ i = 11) (n : Nat) : ChanServed c s (t.add (Reg.dmcChStat c i) n) := by
  refine h.trans (.of_dmc (State.add_dmc _ _ _) (.add (.refl _ t) fun hout => ?_) ?_)
  · obtain ⟨h1, h10, h11, -⟩ := hout
    rcases hi with rfl | rfl | rfl
    exacts [h1 rfl, h10 rfl, h11 rfl]
  · rw [State.flag, State.rd_add_ne _ _ dmcChStat_ne_events, ← State.flag]

theorem ChanServed.raise (h : ChanServed c s t) (hi : i < 32) (hne : i ≠ 7) : ChanServed c s (t.raise (dmcBase c) i) := by
  refine h.trans (.of_dmc (State.raise_dmc _ _ _) (.raise (.refl _ t) fun hout => hout.2.2.2 rfl) ?_)
  exact State.flag_raise_other t _ hi (Ne.symm hne)

theorem State.issued_served (s : State) (c : Nat) (write : Bool) (line : Nat) : ChanServed c s (s.issued c write line) :=
  (ChanServed.refl c s).setChan rfl rfl

theorem ChanServed.emit (h : ChanServed c s t) (o : Out) : ChanServed c s (t.emit o) := h.trans ⟨rfl, rfl, .emit (.refl _ t), rfl⟩

/-- What an activate leaves once its bank's table is known (R409, R410). -/
def State.activateEnd (s : State) (c who bank row : Nat) (rt full much : Bool) (x : Chan) (trigs : List (Nat × Nat × Nat)) : State :=
  if full then
    let u := ((s.setChan c { x with trigs := trigs }).add (Reg.dmcChStat c 10) 1).neighbours c bank row
    if much && rt then (u.setChan c { u.chan c with rtOver := (u.chan c).rtOver + 1 }).raise (dmcBase c) 5
    else if much then
      ((u.setChan c { u.chan c with thr := (who, bank, u.now + ms, u.now) :: (u.chan c).thr.filter (fun e => !(e.1 == who && e.2.1 == bank)) }).add
        (Reg.dmcChStat c 11) 1).raise (dmcBase c) 4
    else u
  else s.setChan c x

theorem State.activate_some (s : State) (c who : Nat) (rt : Bool) (bank row : Nat) : ∃ full much x trigs,
    s.activate c who rt (some (bank, row)) = s.activateEnd c who bank row rt full much x trigs ∧ x.rq = (s.chan c).rq ∧ x.fenceDue = (s.chan c).fenceDue :=
  ⟨_, _, _, _, rfl, rfl, rfl⟩

theorem State.activateEnd_served {x : Chan} (hrq : x.rq = (s.chan c).rq) (hfence : x.fenceDue = (s.chan c).fenceDue) (who bank row : Nat) (rt full much : Bool)
    (trigs : List (Nat × Nat × Nat)) : ChanServed c s (s.activateEnd c who bank row rt full much x trigs) := by
  have hnear : ChanServed c s (((s.setChan c { x with trigs := trigs }).add (Reg.dmcChStat c 10) 1).neighbours c bank row) :=
    .emit (.count (i := 10) (.setChan (x := { x with trigs := trigs }) (.refl c s) hrq hfence) (by decide) 1) _
  unfold State.activateEnd
  split
  · dsimp only
    generalize ((s.setChan c { x with trigs := trigs }).add (Reg.dmcChStat c 10) 1).neighbours c bank row = u at hnear ⊢
    split
    · exact .raise (.setChan hnear rfl rfl) (by decide) (by decide)
    · split
      · refine .raise (.count (i := 11) (.setChan hnear ?_ ?_) (by decide) 1) (by decide) (by decide) <;> rfl
      · exact hnear
  · exact (ChanServed.refl c s).setChan hrq hfence

theorem State.activate_served (s : State) (c who : Nat) (rt : Bool) (act : Option (Nat × Nat)) : ChanServed c s (s.activate c who rt act) := by
  cases act with
  | none => exact .refl c s
  | some p =>
    obtain ⟨full, much, x, trigs, hrun, hrq, hfence⟩ := s.activate_some c who rt p.1 p.2
    rw [hrun]
    exact State.activateEnd_served hrq hfence ..

theorem State.drainWrites_served (k : Nat) : ∀ s : State, ChanServed c s (State.drainWrites k s c) := by
  induction k with
  | zero => exact fun s => .refl c s
  | succ k ih =>
    intro s
    unfold State.drainWrites
    split
    · exact .refl c s
    · split
      · exact .refl c s
      · refine .trans (.count (i := 1) (.trans (.trans (.setChan (.refl c s) ?_ ?_) (State.activate_served _ _ _ _ _)) (State.issued_served _ _ _ _)) (by decide) 1) (ih _) <;> rfl

theorem State.chanServe_served (hrq : (s.chan c).rq = []) (idle : Bool) : ChanServed c s (s.chanServe c idle) := by
  have hreads : State.serveReads (s.chan c).rq.length s c = s := by rw [hrq]; rfl
  unfold State.chanServe
  rw [hreads]
  dsimp only
  split
  · exact State.drainWrites_served _ s
  · split
    exacts [State.drainWrites_served _ s, .refl c s]

/-- A command that does not raise the limit event brings no fence with it, and none is due. -/
theorem State.ceWatch_quiet {old : State} (h : s.flag (dmcBase c + 0x10) 7 = old.flag (dmcBase c + 0x10) 7) : s.ceWatch old c = s := by
  rw [State.ceWatch, State.ceFence, h, Bool.and_not_self]
  rfl

theorem State.takeFence_none (h : (s.chan c).fenceDue = false) : s.takeFence c = s := by
  rw [State.takeFence, h]
  rfl

/-! ### Refreshes (R404) -/

/-- What refreshes leave: the channel's reads and its fence, and the words beside their counts. -/
structure Refreshed (c : Nat) (s t : State) : Prop where
  reads : (t.chan c).rq = (s.chan c).rq
  fence : (t.chan c).fenceDue = (s.chan c).fenceDue
  words : WordsKept (fun a => a ≠ Reg.dmcChStat c 2 ∧ a ≠ Reg.dmcChStat c 4) s t

theorem Refreshed.setChan {x : Chan} (h : Refreshed c s t) (hrq : x.rq = (t.chan c).rq) (hfence : x.fenceDue = (t.chan c).fenceDue) : Refreshed c s (t.setChan c x) :=
  ⟨(State.chan_setChan_part (fun y => y.rq) x hrq).trans h.reads, (State.chan_setChan_part (fun y => y.fenceDue) x hfence).trans h.fence,
    h.words.trans fun a _ => State.setChan_rd t c x a⟩

/-- The refreshes are counted. -/
def State.refreshCounted (s : State) (c k : Nat) (pre : Bool) : State :=
  let u := s.add (Reg.dmcChStat c 2) k
  if pre then u.add (Reg.dmcChStat c 4) k else u

/-- The channel's clock for soft boundaries and its drift after refreshes (R404, R413). -/
def State.refreshMoved (s : State) (c k : Nat) : State :=
  let x : Chan := { s.chan c with softAt := max s.now (s.chan c).softAt + k * s.refreshTime c }
  if x.drift ≠ 0 ∧ x.dqsAt + 10 * us ≤ s.now then
    let d : Int := if 0 < x.drift then 1 else -1
    s.setChan c { x with dqs := x.dqs + d, drift := x.drift - d, dqsAt := s.now }
  else s.setChan c x

theorem State.refreshNow_eq (s : State) (c k : Nat) (pre : Bool) : s.refreshNow c k pre = if k = 0 then s else (s.refreshCounted c k pre).refreshMoved c k := rfl

theorem State.refreshMoved_spec (s : State) (c k : Nat) : Refreshed c s (s.refreshMoved c k) ∧ (s.refreshMoved c k).regs = s.regs := by
  have hrefl : Refreshed c s s := ⟨rfl, rfl, .refl _ s⟩
  unfold State.refreshMoved
  dsimp only
  split
  · exact ⟨hrefl.setChan rfl rfl, rfl⟩
  · exact ⟨hrefl.setChan rfl rfl, rfl⟩

theorem dmcChStat_inj (h : i ≠ k) : Reg.dmcChStat c i ≠ Reg.dmcChStat c k := by
  unfold Reg.dmcChStat
  omega

theorem State.refreshCounted_spec (s : State) (c k : Nat) (pre : Bool) : (s.refreshCounted c k pre).dmc = s.dmc ∧
    (s.refreshCounted c k pre).rd (Reg.dmcChStat c 2) = (s.rd (Reg.dmcChStat c 2) + k) % 2 ^ 32 ∧
    (s.refreshCounted c k pre).rd (Reg.dmcChStat c 4) = (s.rd (Reg.dmcChStat c 4) + if pre then k else 0) % 2 ^ 32 ∧
    WordsKept (fun a => a ≠ Reg.dmcChStat c 2 ∧ a ≠ Reg.dmcChStat c 4) s (s.refreshCounted c k pre) := by
  have h24 : Reg.dmcChStat c 2 ≠ Reg.dmcChStat c 4 := dmcChStat_inj (by decide)
  have hcount : WordsKept (fun a => a ≠ Reg.dmcChStat c 2 ∧ a ≠ Reg.dmcChStat c 4) s (s.add (Reg.dmcChStat c 2) k) := .add (.refl _ s) (fun h => h.1 rfl)
  cases pre with
  | false =>
    refine ⟨State.add_dmc _ _ _, State.rd_add_same _ _ _, ?_, hcount⟩
    exact (State.rd_add_ne _ _ h24.symm).trans (Nat.mod_eq_of_lt (State.rd_lt _ _)).symm
  | true =>
    refine ⟨(State.add_dmc _ _ _).trans (State.add_dmc _ _ _), (State.rd_add_ne _ _ h24).trans (State.rd_add_same _ _ _), ?_, hcount.add (fun h => h.2 rfl)⟩
    exact (State.rd_add_same _ _ _).trans (by rw [State.rd_add_ne _ _ h24.symm]; rfl)

theorem State.refreshNow_spec (s : State) (c k : Nat) (pre : Bool) : Refreshed c s (s.refreshNow c k pre) ∧
    (s.refreshNow c k pre).rd (Reg.dmcChStat c 2) = (s.rd (Reg.dmcChStat c 2) + k) % 2 ^ 32 ∧
    (s.refreshNow c k pre).rd (Reg.dmcChStat c 4) = (s.rd (Reg.dmcChStat c 4) + if pre then k else 0) % 2 ^ 32 := by
  rw [State.refreshNow_eq]
  split
  · next hk =>
    subst hk
    refine ⟨⟨rfl, rfl, .refl _ s⟩, (Nat.mod_eq_of_lt (State.rd_lt _ _)).symm, ?_⟩
    rw [ite_self, Nat.add_zero, Nat.mod_eq_of_lt (State.rd_lt _ _)]
  · obtain ⟨hdmc, h2, h4, hwords⟩ := s.refreshCounted_spec c k pre
    obtain ⟨⟨hreads, hfence, hmoved⟩, hregs⟩ := (s.refreshCounted c k pre).refreshMoved_spec c k
    generalize s.refreshCounted c k pre = w at hdmc h2 h4 hwords hreads hfence hmoved hregs ⊢
    have hrd : ∀ a, (w.refreshMoved c k).rd a = w.rd a := fun a => by rw [State.rd, State.rd, hregs]
    rw [hrd, hrd, h2, h4]
    exact ⟨⟨hreads.trans (by rw [State.chan_of_dmc hdmc]), hfence.trans (by rw [State.chan_of_dmc hdmc]), hwords.trans hmoved⟩, rfl, rfl⟩

/-! ### The refreshes owed (R404) -/

theorem dmcChStatus_ne_stat : Reg.dmcChStatus c ≠ Reg.dmcChStat c i := by
  unfold Reg.dmcChStatus Reg.dmcChStat
  omega

theorem dmcChStatus_ne_events : dmcBase c + 0x10 ≠ Reg.dmcChStatus c := by
  unfold Reg.dmcChStatus dmcBase
  omega

theorem State.setOwed_dmc (s : State) (c n : Nat) : (s.setOwed c n).dmc = s.dmc := State.setFld_dmc _ _ _ _ _

theorem State.setOwed_rd (s : State) (c n : Nat) (h : a ≠ Reg.dmcChStatus c) : (s.setOwed c n).rd a = s.rd a := State.rd_setFld_ne _ _ _ _ h

theorem State.setOwed_owed (s : State) (c : Nat) (hn : n < 8) : (s.setOwed c n).owed c = n := by
  rw [State.owed, State.setOwed, State.fld_setFld_same _ _ _ _ _ (by decide) (by decide)]
  exact Nat.mod_eq_of_lt hn

theorem Refreshed.owed (h : Refreshed c s t) : t.owed c = s.owed c := h.words.fld ⟨dmcChStatus_ne_stat, dmcChStatus_ne_stat⟩ _ _

theorem ChanServed.owed (h : ChanServed c s t) : t.owed c = s.owed c :=
  h.words.fld (by unfold outsideServe; exact ⟨dmcChStatus_ne_stat, dmcChStatus_ne_stat, dmcChStatus_ne_stat, dmcChStatus_ne_events.symm⟩) _ _

/-- A number of owed refreshes is set and some are issued. -/
theorem State.owedIssued_spec (s : State) (c k : Nat) (pre : Bool) (hn : n < 8) :
    let w := (s.setOwed c n).refreshNow c k pre
    w.owed c = n ∧ w.rd (Reg.dmcChStat c 2) = (s.rd (Reg.dmcChStat c 2) + k) % 2 ^ 32 ∧
    w.rd (Reg.dmcChStat c 4) = (s.rd (Reg.dmcChStat c 4) + if pre then k else 0) % 2 ^ 32 ∧
    (w.chan c).rq = (s.chan c).rq ∧ (w.chan c).fenceDue = (s.chan c).fenceDue ∧ w.flag (dmcBase c + 0x10) 7 = s.flag (dmcBase c + 0x10) 7 := by
  obtain ⟨hrefreshed, h2, h4⟩ := (s.setOwed c n).refreshNow_spec c k pre
  dsimp only
  rw [hrefreshed.owed, s.setOwed_owed c hn, h2, h4, hrefreshed.reads, hrefreshed.fence, hrefreshed.words.flag ⟨dmcChStat_ne_events, dmcChStat_ne_events⟩,
    State.setOwed_rd _ _ _ dmcChStatus_ne_stat.symm, State.setOwed_rd _ _ _ dmcChStatus_ne_stat.symm, State.chan_of_dmc (State.setOwed_dmc _ _ _), State.flag,
    State.setOwed_rd _ _ _ dmcChStatus_ne_events]
  exact ⟨rfl, rfl, rfl, rfl, rfl, rfl⟩

end

end Sys2Proof.Machine

/-! SUPPORT. Refresh intervals and boundaries, the scrub, and parity replays, for O50 (R404-R406, R408). -/

namespace Sys2Proof.Machine

section
variable {s t u : State} {c k n i a b : Nat}

/-! ### TREFI and the boundaries (R404) -/

/-- The interval that has passed is noted. -/
def State.trefiNoted (s : State) (c : Nat) : State := s.setChan c { s.chan c with refLast := (s.chan c).refLast + s.trefiTime c }

theorem State.trefi_due (hc : c < 12) (huse : s.chanUsable c = true) (hdue : (s.chan c).refLast + s.trefiTime c ≤ s.now) :
    let w := s.trefiNoted c
    s.trefi c = if w.fld Reg.dmcRefresh 10 0 = 0 then (w.setOwed c 0).refreshNow c (w.owed c + 1) false
      else if 4 < w.owed c + 1 then (w.setOwed c (w.owed c)).refreshNow c 1 true else (w.setOwed c (w.owed c + 1)).add (Reg.dmcChStat c 3) 1 := by
  unfold State.trefi
  exact if_pos ⟨hc, huse, hdue⟩

/-- What a refresh interval leaves for what follows it in the command. -/
structure TrefiDone (c : Nat) (s t : State) : Prop where
  reads : (t.chan c).rq = (s.chan c).rq
  fence : (t.chan c).fenceDue = (s.chan c).fenceDue
  limit : t.flag (dmcBase c + 0x10) 7 = s.flag (dmcBase c + 0x10) 7
  hidden : s.fld Reg.dmcRefresh 10 0 = 0 → t.owed c = 0 ∧ t.rd (Reg.dmcChStat c 2) = (s.rd (Reg.dmcChStat c 2) + s.owed c + 1) % 2 ^ 32
  postponed : s.fld Reg.dmcRefresh 10 0 ≠ 0 → s.owed c < 4 →
    t.owed c = s.owed c + 1 ∧ t.rd (Reg.dmcChStat c 2) = s.rd (Reg.dmcChStat c 2) ∧ t.rd (Reg.dmcChStat c 3) = (s.rd (Reg.dmcChStat c 3) + 1) % 2 ^ 32
  forced : s.fld Reg.dmcRefresh 10 0 ≠ 0 → s.owed c = 4 →
    t.owed c = 4 ∧ t.rd (Reg.dmcChStat c 2) = (s.rd (Reg.dmcChStat c 2) + 1) % 2 ^ 32 ∧ t.rd (Reg.dmcChStat c 4) = (s.rd (Reg.dmcChStat c 4) + 1) % 2 ^ 32

theorem State.owed_lt (s : State) (c : Nat) : s.owed c < 8 := Nat.mod_lt _ (by decide)

theorem State.trefiNoted_same (s : State) (c : Nat) : ((s.trefiNoted c).chan c).rq = (s.chan c).rq ∧ ((s.trefiNoted c).chan c).fenceDue = (s.chan c).fenceDue ∧
    ∀ a, (s.trefiNoted c).rd a = s.rd a :=
  ⟨State.chan_setChan_part (fun y => y.rq) _ rfl, State.chan_setChan_part (fun y => y.fenceDue) _ rfl, State.setChan_rd _ _ _⟩

theorem State.trefi_done (hc : c < 12) (huse : s.chanUsable c = true) (hdue : (s.chan c).refLast + s.trefiTime c ≤ s.now) : TrefiDone c s (s.trefi c) := by
  obtain ⟨hrq, hfence, hrd⟩ := s.trefiNoted_same c
  rw [State.trefi_due hc huse hdue]
  generalize s.trefiNoted c = w at hrq hfence hrd ⊢
  have howed : w.owed c = s.owed c := by rw [State.owed, State.fld, hrd]; rfl
  have hrefresh : w.fld Reg.dmcRefresh 10 0 = s.fld Reg.dmcRefresh 10 0 := by rw [State.fld, hrd]; rfl
  have hevent : w.flag (dmcBase c + 0x10) 7 = s.flag (dmcBase c + 0x10) 7 := by rw [State.flag, hrd]; rfl
  rw [howed, hrefresh]
  split
  · next h0 =>
    obtain ⟨ho, h2, -, hrq', hfence', hlimit⟩ := w.owedIssued_spec (n := 0) c (s.owed c + 1) false (by decide)
    rw [hrd] at h2
    exact ⟨hrq'.trans hrq, hfence'.trans hfence, hlimit.trans hevent, fun _ => ⟨ho, h2⟩, fun h => absurd h0 h, fun h => absurd h0 h⟩
  · next h0 =>
    split
    · obtain ⟨ho, h2, h4, hrq', hfence', hlimit⟩ := w.owedIssued_spec (n := s.owed c) c 1 true (s.owed_lt c)
      rw [hrd] at h2 h4
      exact ⟨hrq'.trans hrq, hfence'.trans hfence, hlimit.trans hevent, fun h => absurd h h0, fun _ h => by omega, fun _ h => ⟨ho.trans h, h2, h4⟩⟩
    · have ho := w.setOwed_owed (n := s.owed c + 1) c (by omega)
      have hdmc : ((w.setOwed c (s.owed c + 1)).add (Reg.dmcChStat c 3) 1).dmc = w.dmc := (State.add_dmc _ _ _).trans (State.setOwed_dmc _ _ _)
      have hstat : ∀ j, (w.setOwed c (s.owed c + 1)).rd (Reg.dmcChStat c j) = s.rd (Reg.dmcChStat c j) := fun j =>
        (State.setOwed_rd _ _ _ dmcChStatus_ne_stat.symm).trans (hrd _)
      refine ⟨by rw [State.chan_of_dmc hdmc, hrq], by rw [State.chan_of_dmc hdmc, hfence], ?_, fun h => absurd h h0, fun _ _ => ⟨?_, ?_, ?_⟩, fun _ h => by omega⟩
      · rw [State.flag, State.rd_add_ne _ _ dmcChStat_ne_events, State.setOwed_rd _ _ _ dmcChStatus_ne_events, ← State.flag, hevent]
      · rw [State.owed, State.fld, State.rd_add_ne _ _ dmcChStatus_ne_stat, ← State.fld, ← State.owed, ho]
      · rw [State.rd_add_ne _ _ (dmcChStat_inj (by decide)), hstat]
      · rw [State.rd_add_same, hstat]

theorem State.hardBoundary_spec (hc : c < 12) (huse : s.chanUsable c = true) :
    (s.hardBoundary c false).owed c = 0 ∧ (s.hardBoundary c false).rd (Reg.dmcChStat c 2) = (s.rd (Reg.dmcChStat c 2) + s.owed c) % 2 ^ 32 := by
  obtain ⟨ho, h2, -⟩ := (s.setChan c { s.chan c with softAt := s.now }).owedIssued_spec (n := 0) c (s.owed c) false (by decide)
  unfold State.hardBoundary
  rw [if_pos ⟨hc, huse, rfl⟩]
  exact ⟨ho, h2⟩

theorem State.softBoundary_spec (hc : c < 12) (huse : s.chanUsable c = true) (hburst : s.fld Reg.dmcRefresh 10 0 ≠ 0)
    (hat : (s.chan c).softAt + s.fld Reg.dmcRefresh 10 0 * ns ≤ s.now) :
    (s.softBoundary c).owed c = (if s.owed c = 4 then 3 else s.owed c) ∧
    (s.softBoundary c).rd (Reg.dmcChStat c 2) = (s.rd (Reg.dmcChStat c 2) + if s.owed c = 4 then 1 else 0) % 2 ^ 32 := by
  have hrun : s.softBoundary c = if (s.setChan c { s.chan c with softAt := s.now }).owed c = 4
      then ((s.setChan c { s.chan c with softAt := s.now }).setOwed c 3).refreshNow c 1 false else s.setChan c { s.chan c with softAt := s.now } :=
    if_pos ⟨hc, huse, hburst, hat⟩
  have howed : (s.setChan c { s.chan c with softAt := s.now }).owed c = s.owed c := rfl
  have hrd : ∀ a, (s.setChan c { s.chan c with softAt := s.now }).rd a = s.rd a := State.setChan_rd _ _ _
  rw [hrun]
  generalize s.setChan c { s.chan c with softAt := s.now } = w at howed hrd ⊢
  rw [howed]
  split
  · obtain ⟨ho, h2, -⟩ := w.owedIssued_spec (n := 3) c 1 false (by decide)
    rw [ho, h2, hrd]
    exact ⟨rfl, rfl⟩
  · rw [howed, hrd, Nat.add_zero, Nat.mod_eq_of_lt (State.rd_lt _ _)]
    exact ⟨rfl, rfl⟩

/-! ### The scrub (R408) -/

/-- The scrub goes on to the next line, from the end of the channel to its start. -/
def State.scrubMoved (s : State) (c line : Nat) (wrap : Bool) : State :=
  let u := s.setChan c { s.chan c with scrub := if wrap then 0 else line + 1 }
  if wrap then u.add (Reg.dmcChStat c 12) 1 else u

/-- The line that the scrub reads. -/
def State.scrubLine (s : State) (c : Nat) : Nat := chanBase c / 64 + (s.chan c).scrub

theorem State.scrubRead_next (hc : c < 12) (huse : s.chanUsable c = true) (hen : s.flag (Reg.dmcChCtrl c) 0 = true) (hrate : s.fld Reg.dmcScrub 7 0 ≠ 0) (err bit : Nat) :
    s.scrubRead c err bit = (if s.draw.2.linePoisoned (s.scrubLine c) then s.draw.2 else s.draw.2.readLine c s.draw.1 (s.scrubLine c * 64) err bit).scrubMoved c (s.chan c).scrub
      (decide (s.chanCap c ≤ ((s.chan c).scrub + 1) * 64)) := by
  unfold State.scrubRead
  exact if_pos ⟨hc, huse, hen, hrate⟩

theorem State.scrubMoved_spec (s : State) (c line : Nat) (wrap : Bool) :
    (s.scrubMoved c line wrap).dmc = { s.dmc with chans := s.dmc.chans.set c { s.chan c with scrub := if wrap then 0 else line + 1 } } ∧
    (s.scrubMoved c line wrap).dram = s.dram ∧ (s.scrubMoved c line wrap).poison = s.poison ∧ s.wordsBut (s.scrubMoved c line wrap) [Reg.dmcChStat c 12] ∧
    (s.scrubMoved c line wrap).rd (Reg.dmcChStat c 12) = (s.rd (Reg.dmcChStat c 12) + if wrap then 1 else 0) % 2 ^ 32 := by
  have hset : s.wordsBut (s.setChan c { s.chan c with scrub := if wrap then 0 else line + 1 }) [Reg.dmcChStat c 12] := fun a _ => State.setChan_rd _ _ _ a
  unfold State.scrubMoved
  cases wrap with
  | false => exact ⟨rfl, rfl, rfl, hset, (Nat.mod_eq_of_lt (State.rd_lt _ _)).symm⟩
  | true => exact ⟨State.add_dmc _ _ _, State.add_dram _ _ _, State.add_poison _ _ _, State.wordsBut_add hset (by simp), State.rd_add_same _ _ _⟩

theorem State.readLine_clean (hclean : s.linePoisoned (a / 64) = false) (who bit : Nat) : s.readLine c who a 0 bit = s := by
  unfold State.readLine
  rw [if_neg (by rw [hclean]; decide), if_neg (by decide), if_neg (by decide)]

/-- A read whose retry finds the error again (R406). -/
def State.linePoisons (s : State) (c who a : Nat) : State :=
  ((((s.poisonLine (a / 64)).dramErr c a who 3).add (Reg.dmcChStat c 8) 1).add (Reg.dmcChStat c 9) 1).raise (dmcBase c) 1

theorem State.readLine_again (hclean : s.linePoisoned (a / 64) = false) (who bit : Nat) :
    s.readLine c who a 4 bit = (s.linePoisons c who a).logIt (0x1400 + c) (evt c 1) 2 (leBytes 8 a ++ leBytes 2 who) := by
  unfold State.readLine
  rw [if_neg (by rw [hclean]; decide), if_neg (by decide), if_pos rfl]
  rfl

theorem State.poisonLine_poisoned (s : State) (l : Nat) : (s.poisonLine l).linePoisoned l = true := by
  unfold State.poisonLine
  split
  · next h => exact h
  · simp [State.linePoisoned]

theorem State.dramErr_same (s : State) (c a who info : Nat) : (s.dramErr c a who info).poison = s.poison ∧
    WordsKept (fun x => x ≠ Reg.dmcChErrLo c ∧ x ≠ Reg.dmcChErrHi c ∧ x ≠ Reg.dmcChErrInfo c) s (s.dramErr c a who info) :=
  ⟨rfl, .wr (.wr (.wr (.refl _ s) fun h => h.1 rfl) fun h => h.2.1 rfl) fun h => h.2.2 rfl⟩

theorem State.linePoisons_spec (s : State) (c who a : Nat) : (s.linePoisons c who a).linePoisoned (a / 64) = true ∧ (s.linePoisons c who a).flag (dmcBase c + 0x10) 1 = true ∧
    (s.linePoisons c who a).flag (dmcBase c + 0x10) 7 = s.flag (dmcBase c + 0x10) 7 := by
  have hpoison := s.poisonLine_poisoned (a / 64)
  have hwords : WordsKept (fun x => x ≠ Reg.dmcChErrLo c ∧ x ≠ Reg.dmcChErrHi c ∧ x ≠ Reg.dmcChErrInfo c) s ((s.poisonLine (a / 64)).dramErr c a who 3) := by
    refine WordsKept.trans ?_ ((s.poisonLine (a / 64)).dramErr_same c a who 3).2
    unfold State.poisonLine
    exact .ite (.refl _ s) fun _ _ => rfl
  have hsame := ((s.poisonLine (a / 64)).dramErr_same c a who 3).1
  unfold State.linePoisons
  generalize (s.poisonLine (a / 64)).dramErr c a who 3 = w at hwords hsame ⊢
  refine ⟨?_, State.flag_raise_same _ _ _ (by decide), ?_⟩
  · rw [State.linePoisoned, State.raise_poison, State.add_poison, State.add_poison, hsame, ← State.linePoisoned, hpoison]
  · rw [State.flag_raise_other _ _ (by decide) (by decide), State.flag, State.rd_add_ne _ _ dmcChStat_ne_events, State.rd_add_ne _ _ dmcChStat_ne_events, ← State.flag]
    exact hwords.flag (by unfold dmcBase Reg.dmcChErrLo Reg.dmcChErrHi Reg.dmcChErrInfo; omega) 7

/-! ### Measured drift (R413) -/

theorem State.driftCheck_due (hc : c < 12) (huse : s.chanUsable c = true) (hat : (s.chan c).driftAt + 100 * ms ≤ s.now) (steps : Int) :
    s.driftCheck c steps = s.setChan c { s.chan c with drift := (s.chan c).drift + steps, driftAt := s.now } := by
  unfold State.driftCheck
  exact if_pos ⟨hc, huse, hat⟩

end

end Sys2Proof.Machine

/-! SUPPORT. Parity replays, a channel's own fence, and the words that restore and power modules, for O50 (R405, R412, R415, R495). -/

namespace Sys2Proof.Machine

section
variable {s t u : State} {c k n i a b fails since data : Nat} {who : Requester}

/-! ### Replays (R405) -/

/-- A number of replays from the retry buffer. -/
def State.replays (s : State) (c since n : Nat) : State := (List.range n).foldl (fun s _ => s.replay c since) s

/-- The same state with other messages out. -/
def State.withOut (s : State) (o : List Out) : State := { s with out := o }

theorem State.replays_eq (s : State) (c since n : Nat) : ∃ o, s.replays c since n = s.withOut o ∧ (∀ x ∈ s.out, x ∈ o) ∧
    (0 < n → .ddr c .clearError ∈ o ∧ .ddr c (.again ((s.chan c).retry.take since).reverse) ∈ o) := by
  induction n with
  | zero => exact ⟨s.out, rfl, fun _ h => h, fun h => absurd h (by decide)⟩
  | succ n ih =>
    obtain ⟨o, ho, hkept, -⟩ := ih
    refine ⟨.ddr c (.again ((s.chan c).retry.take since).reverse) :: .ddr c .clearError :: o, ?_, fun x hx => by simp [hkept x hx], fun _ => by simp⟩
    rw [State.replays, List.range_succ, List.foldl_append, ← State.replays, ho]
    rfl

/-- The parity error is counted with its replays, and its event is raised. -/
def State.parityCounted (s : State) (c fails : Nat) : State := (s.add (Reg.dmcChStat c 5) (1 + min fails 3)).raise (dmcBase c) 2

/-- The channel issues nothing until its replays are over. -/
def State.replayHeld (s : State) (c fails n : Nat) : State :=
  let stop := s.now + s.draw.1 % (n * 2 * us + 1)
  s.draw.2.setChan c { s.chan c with replayEnd := stop, softAt := stop, failed := (s.chan c).failed || decide (3 ≤ fails) }

/-- What the replays of a parity error leave. -/
def State.parityReplayed (s : State) (c fails since : Nat) : State :=
  ((s.parityCounted c fails).replays c since (min (fails + 1) 3)).replayHeld c fails (min (fails + 1) 3)

theorem State.caParity_eq (hc : c < 12) (huse : s.chanUsable c = true) :
    s.caParity c fails since = if 3 ≤ fails then (((s.parityReplayed c fails since).add (Reg.dmcChStat c 6) 1).raise (dmcBase c) 3, true)
      else (s.parityReplayed c fails since, false) := by
  unfold State.caParity
  exact if_pos ⟨hc, huse⟩

/-- The words outside the pages of the memory channels. -/
def outsideDmc (a : Nat) : Prop := a < 0x140000 ∨ 0x150000 ≤ a

theorem dmcWords (hc : c < 12) : (∀ i, i < 64 → ¬ outsideDmc (Reg.dmcChStat c i)) ∧ ¬ outsideDmc (dmcBase c + 0x10) := by
  unfold outsideDmc Reg.dmcChStat dmcBase
  exact ⟨fun i hi => by omega, by omega⟩

theorem State.parityCounted_spec (s : State) (c fails : Nat) : (s.parityCounted c fails).flag (dmcBase c + 0x10) 2 = true ∧
    (s.parityCounted c fails).rd (Reg.dmcChStat c 5) = (s.rd (Reg.dmcChStat c 5) + 1 + min fails 3) % 2 ^ 32 ∧
    (s.parityCounted c fails).dmc = s.dmc ∧ (s.parityCounted c fails).now = s.now := by
  refine ⟨State.flag_raise_same _ _ _ (by decide), ?_, (State.raise_dmc _ _ _).trans (State.add_dmc _ _ _), (State.raise_now _ _ _).trans (State.add_now _ _ _)⟩
  rw [State.parityCounted, State.rd_raise_ne _ _ dmcChStat_ne_events.symm, State.rd_add_same, Nat.add_assoc]

/-- What a parity error leaves, whether or not its replays fail. -/
structure Replayed (c fails since : Nat) (s t : State) : Prop where
  event : t.flag (dmcBase c + 0x10) 2 = true
  count : t.rd (Reg.dmcChStat c 5) = (s.rd (Reg.dmcChStat c 5) + 1 + min fails 3) % 2 ^ 32
  cleared : .ddr c .clearError ∈ t.sent
  again : .ddr c (.again ((s.chan c).retry.take since).reverse) ∈ t.sent
  stop : c < s.dmc.chans.length → (t.chan c).replayEnd ≤ s.now + min (fails + 1) 3 * 2 * us

theorem State.replayHeld_rd (s : State) (c fails n a : Nat) : (s.replayHeld c fails n).rd a = s.rd a := rfl

theorem State.replayHeld_stop (hc : c < s.dmc.chans.length) : ((s.replayHeld c fails n).chan c).replayEnd ≤ s.now + n * 2 * us := by
  have hset : (s.replayHeld c fails n).chan c = _ := State.chan_setChan_same (s := s.draw.2) hc _
  rw [hset]
  exact Nat.add_le_add_left (Nat.le_of_lt_succ (Nat.mod_lt _ (Nat.succ_pos _))) _

theorem State.withOut_rd (s : State) (o : List Out) (a : Nat) : (s.withOut o).rd a = s.rd a := rfl

theorem State.parityReplayed_spec (s : State) (hc : c < 12) (fails since : Nat) :
    Replayed c fails since s (s.parityReplayed c fails since) ∧ WordsKept outsideDmc s (s.parityReplayed c fails since) := by
  obtain ⟨hevent, hcount, hdmc, hnow⟩ := s.parityCounted_spec c fails
  have hwords : WordsKept outsideDmc s (s.parityCounted c fails) := .raise (.add (.refl _ s) ((dmcWords hc).1 5 (by decide))) (dmcWords hc).2
  unfold State.parityReplayed
  generalize s.parityCounted c fails = w at hevent hcount hdmc hnow hwords ⊢
  obtain ⟨o, ho, -, hout⟩ := w.replays_eq c since (min (fails + 1) 3)
  obtain ⟨hclear, hagain⟩ := hout (by omega)
  rw [State.chan_of_dmc hdmc] at hagain
  rw [ho]
  refine ⟨⟨?_, ?_, List.mem_filter.2 ⟨hclear, rfl⟩, List.mem_filter.2 ⟨hagain, rfl⟩, fun hlen => ?_⟩, hwords.trans fun a _ => ?_⟩
  · rw [State.flag, State.replayHeld_rd, State.withOut_rd, ← State.flag, hevent]
  · rw [State.replayHeld_rd, State.withOut_rd, hcount]
  · rw [← hnow]
    exact State.replayHeld_stop (s := w.withOut o) (by rw [show (w.withOut o).dmc = s.dmc from hdmc]; exact hlen)
  · rw [State.replayHeld_rd, State.withOut_rd]

/-- The replays of a parity error have failed three times. -/
def State.parityFailed (s : State) (c fails since : Nat) : State := ((s.parityReplayed c fails since).add (Reg.dmcChStat c 6) 1).raise (dmcBase c) 3

theorem State.parityFailed_spec (s : State) (hc : c < 12) (fails since : Nat) :
    Replayed c fails since s (s.parityFailed c fails since) ∧ (s.parityFailed c fails since).flag (dmcBase c + 0x10) 3 = true ∧
    WordsKept outsideDmc s (s.parityFailed c fails since) := by
  obtain ⟨⟨hevent, hcount, hcleared, hagain, hstop⟩, hwords⟩ := s.parityReplayed_spec hc fails since
  unfold State.parityFailed
  generalize s.parityReplayed c fails since = w at hevent hcount hcleared hagain hstop hwords ⊢
  have hsent : SentKept w ((w.add (Reg.dmcChStat c 6) 1).raise (dmcBase c) 3) :=
    .of_sent ((State.raise_kept.out.resolve_left (by decide)).trans (State.add_kept.out.resolve_left (by decide)))
  refine ⟨⟨?_, ?_, hsent _ hcleared, hsent _ hagain, fun hlen => ?_⟩, State.flag_raise_same _ _ _ (by decide),
    (hwords.add ((dmcWords hc).1 6 (by decide))).raise (dmcWords hc).2⟩
  · rw [State.flag_raise_other _ _ (by decide) (by decide), State.flag, State.rd_add_ne _ _ dmcChStat_ne_events, ← State.flag, hevent]
  · rw [State.rd_raise_ne _ _ dmcChStat_ne_events.symm, State.rd_add_ne _ _ (dmcChStat_inj (by decide)), hcount]
  · rw [State.chan_of_dmc ((State.raise_dmc _ _ _).trans (State.add_dmc _ _ _))]
    exact hstop hlen

/-! ### A channel fences itself (R405, R495) -/

/-- The words that an evacuation's start leaves alone. -/
def outsideEvac (a : Nat) : Prop := a ≠ Reg.plcStat 7 ∧ a ∉ driveWords

theorem State.CacheMoved.moveLine (h : s.CacheMoved t) (e : CacheLine) : s.CacheMoved (t.moveLine e) := by
  have hleft := h.setCache (t.plc.cache.filter (fun x => x != e))
  unfold State.moveLine
  generalize t.setCache (t.plc.cache.filter (fun x => x != e)) = w at hleft
  dsimp only
  split
  · exact (hleft.setCache _).dramWrite _ _
  · exact hleft

theorem State.CacheMoved.moveLines (h : s.CacheMoved t) (l : List CacheLine) : s.CacheMoved (l.foldl (fun s e => s.moveLine e) t) := by
  induction l generalizing t with
  | nil => exact h
  | cons e l ih =>
    rw [List.foldl_cons]
    exact ih (h.moveLine e)

/-- An evacuation is entered with the share of control complex memory that it copies. -/
def State.evacEntered (s : State) (c : Nat) : State :=
  let cpx := Config.cpxBytes / (s.placeChannels.filter (fun x => x != c)).length.succ
  { s with plc := { s.plc with evac := some { channel := c, until_ := s.ras.frame + 1, cpx := cpx } } }

/-- The cache without the lines of a channel, its pinned lines moved. -/
def State.cacheLeft (s : State) (c : Nat) : State :=
  let pinned := s.plc.cache.filter (fun e => e.chan == c && s.linePinned e)
  let u := s.setCache (s.plc.cache.filter (fun e => e.chan != c || s.linePinned e))
  let u := pinned.foldl (fun s e => s.moveLine e) u
  State.trimCache u.cacheCap u.plc.cache.length u

theorem State.evacStart_eq (s : State) (c : Nat) : s.evacStart c = ((s.evacEntered c).cacheLeft c).evacCount
    (((s.evacEntered c).plc.cache.filter (fun e => e.chan == c && (s.evacEntered c).linePinned e)).length * 2 ^ 22) := rfl

theorem State.cacheLeft_moved (s : State) (c : Nat) : s.CacheMoved (s.cacheLeft c) :=
  (((State.CacheMoved.refl s).setCache _).moveLines _).trimCache _ _

theorem State.evacCount_words (s : State) (n : Nat) : WordsKept outsideEvac s (s.evacCount n) := by
  unfold State.evacCount
  exact .add (.regs (.refl _ s) rfl) (fun h => h.1 rfl)

theorem State.evacStart_words (s : State) (c : Nat) : WordsKept outsideEvac s (s.evacStart c) := by
  have hentered : WordsKept outsideEvac s (s.evacEntered c) := fun _ _ => rfl
  rw [State.evacStart_eq]
  generalize s.evacEntered c = w at hentered ⊢
  exact (hentered.trans (.wordsBut (w.cacheLeft_moved c).words fun x hx h => h.2 hx)).trans (State.evacCount_words _ _)

/-- The unit is FENCING, counted and dated. -/
def State.fenceNoted (s : State) (u : Nat) : State :=
  let w := (s.setUnit u 1).add (Reg.svcStat 0) 1
  { w with svc := { w.svc with since := (u, w.ras.frame * 65536 + w.ras.line / 16, w.latches) :: w.svc.since.filter (fun e => e.1 != u) } }

/-- The contents of a channel begin to move, at once or in their turn. -/
def State.evacBegun (s : State) (c : Nat) : State :=
  if s.plc.evac.isSome then { s with plc := { s.plc with evacWait := s.plc.evacWait ++ [c] } } else s.evacStart c

theorem State.fenceUnit_channel (hc : c < 12) (hact : s.unitState (119 + c) = 0) : s.fenceUnit (119 + c) = (s.fenceNoted (119 + c)).evacBegun c := by
  have hsub : 119 + c - 119 = c := Nat.add_sub_cancel_left _ _
  unfold State.fenceUnit
  rw [if_pos hact]
  dsimp only
  rw [if_neg (by omega), if_neg (by omega), if_neg (by omega), if_pos ⟨by omega, by omega⟩, hsub]
  rfl

theorem State.evacBegun_words (s : State) (c : Nat) : WordsKept outsideEvac s (s.evacBegun c) :=
  .ite (fun _ _ => rfl) (s.evacStart_words c)

/-- The words that a channel's own fence leaves alone. -/
def outsideFence (c a : Nat) : Prop :=
  outsideEvac a ∧ a ≠ Reg.svcUnit (119 + c) ∧ a ≠ Reg.svcStat 0 ∧ a ≠ Reg.svcLogStaged ∧ a ≠ 0x1D0010 ∧ a ≠ 0x80010

theorem State.fenceNoted_words (s : State) (c : Nat) : WordsKept (outsideFence c) s (s.fenceNoted (119 + c)) :=
  WordsKept.trans (.add (.setFld (.refl _ s) (fun h => h.2.1 rfl)) (fun h => h.2.2.1 rfl)) fun _ _ => rfl

theorem State.logIt_fence (s : State) (source event severity : Nat) (d : List Byte) : WordsKept (outsideFence c) s (s.logIt source event severity d) :=
  .wordsBut (State.stage_wordsBut _ _) (by
    intro x hx h
    rcases List.mem_cons.1 hx with rfl | hx
    · exact h.2.2.2.1 rfl
    · exact h.2.2.2.2.1 (List.mem_singleton.1 hx))

theorem State.selfFence_words (s : State) (hc : c < 12) : WordsKept (outsideFence c) s (s.selfFence (119 + c)) := by
  unfold State.selfFence
  refine .iteOf (fun hact => .ite ?_ ?_) fun _ => .refl _ s
  · exact WordsKept.trans (.raise (.refl _ s) fun h => h.2.2.2.2.2 rfl) (State.logIt_fence _ _ _ _ _)
  · rw [State.fenceUnit_channel hc hact]
    exact ((s.fenceNoted_words c).trans fun a ha => State.evacBegun_words _ _ a ha.1).trans (State.logIt_fence _ _ _ _ _)

theorem svcUnit_evac (hc : c < 12) : outsideEvac (Reg.svcUnit (119 + c)) := by
  unfold outsideEvac Reg.plcStat Reg.svcUnit
  refine ⟨by omega, fun h => ?_⟩
  simp only [List.mem_cons, List.not_mem_nil, or_false, Reg.nvsDStat, nvsDBase] at h
  omega

/-- The words that stay once the unit has been marked. -/
def outsideLater (a : Nat) : Prop := outsideEvac a ∧ a ≠ Reg.svcLogStaged ∧ a ≠ 0x1D0010

theorem outsideEvac_domain (h : a = Reg.pwrDomStat0 ∨ a = Reg.pwrDomStat1) : outsideEvac a := by
  rcases h with rfl | rfl <;> (unfold outsideEvac; decide)

theorem outsideLater_domain (h : a = Reg.pwrDomStat0 ∨ a = Reg.pwrDomStat1) : outsideLater a := by
  refine ⟨outsideEvac_domain h, ?_⟩
  rcases h with rfl | rfl <;> decide

theorem outsideFence_domain (h : a = Reg.pwrDomStat0 ∨ a = Reg.pwrDomStat1) : outsideFence c a := by
  rcases h with rfl | rfl
  · exact ⟨outsideEvac_domain (Or.inl rfl), by unfold Reg.svcUnit Reg.pwrDomStat0; omega, by decide⟩
  · exact ⟨outsideEvac_domain (Or.inr rfl), by unfold Reg.svcUnit Reg.pwrDomStat1; omega, by decide⟩

theorem svcUnit_later (hc : c < 12) : outsideLater (Reg.svcUnit (119 + c)) := by
  refine ⟨svcUnit_evac hc, ?_, ?_⟩
  · unfold Reg.svcUnit Reg.svcLogStaged
    omega
  · unfold Reg.svcUnit
    omega

theorem State.withSvc_rd (s : State) (v : Svc) (a : Nat) : { s with svc := v }.rd a = s.rd a := rfl

theorem State.fenceNoted_unit (s : State) (c : Nat) : (s.fenceNoted (119 + c)).fld (Reg.svcUnit (119 + c)) 2 0 = 1 := by
  have hadd : (s.fenceNoted (119 + c)).rd (Reg.svcUnit (119 + c)) = (s.setUnit (119 + c) 1).rd (Reg.svcUnit (119 + c)) :=
    (State.withSvc_rd _ _ _).trans (State.rd_add_ne _ _ (by unfold Reg.svcUnit Reg.svcStat; omega))
  rw [State.fld, hadd, ← State.fld, State.setUnit, State.fld_setFld_same _ _ _ _ _ (by decide) (by decide)]
  rfl

theorem State.selfFence_fencing (hc : c < 12) (hact : s.unitState (119 + c) = 0) (hfits : s.evacFits c = true) : (s.selfFence (119 + c)).unitState (119 + c) = 1 := by
  have hsub : 119 + c - 119 = c := Nat.add_sub_cancel_left _ _
  have hdom : s.domOn (unitDomain (119 + c)) = true := by
    by_contra h
    rw [State.unitState, if_neg h] at hact
    exact absurd hact (by decide)
  have hrun : s.selfFence (119 + c) = ((s.fenceNoted (119 + c)).evacBegun c).logIt (unitSource (119 + c)) (evt 0 7) 1 [] := by
    unfold State.selfFence
    rw [if_pos hact, hsub, hfits, if_neg (by simp), State.fenceUnit_channel hc hact]
  have hdomains : ∀ d, (s.fenceNoted (119 + c)).domOn d = s.domOn d := (s.fenceNoted_words c).domOn (outsideFence_domain (by decide)) (outsideFence_domain (by decide))
  have hnoted : (s.fenceNoted (119 + c)).unitState (119 + c) = 1 := by
    rw [State.unitState, hdomains, hdom, if_pos rfl, if_neg (by omega)]
    exact s.fenceNoted_unit c
  have hlater : WordsKept outsideLater (s.fenceNoted (119 + c)) (s.selfFence (119 + c)) := by
    rw [hrun]
    exact WordsKept.trans (fun a ha => State.evacBegun_words _ _ a ha.1) (.wordsBut (State.stage_wordsBut _ _) (by unfold outsideLater; simp))
  rw [hlater.unitState (outsideLater_domain (by decide)) (outsideLater_domain (by decide)) (svcUnit_later hc), hnoted]

end

end Sys2Proof.Machine

/-! SUPPORT. Dropped contents, the words of the memory channels, and training, for O50 (R411, R412, R414, R415). -/

namespace Sys2Proof.Machine

section
variable {s t u : State} {c k n i a b fails since data : Nat} {who : Requester}

/-! ### A channel loses what it holds (R414) -/

theorem Sparse.get_drop_same {α : Type} {d : Nat → α} {p : Nat → Bool} {k : Nat} (hk : p k = true) (m : Sparse α) : Sparse.get d (Sparse.drop p m) k = d k := by
  induction m with
  | nil => rfl
  | cons e m ih =>
    rw [Sparse.drop, List.filter_cons]
    split
    · next he =>
      have hne : k ≠ e.1 := fun h => by rw [← h, hk] at he; exact absurd he (by decide)
      rw [Sparse.get, if_neg hne]
      exact ih
    · exact ih

theorem State.dropChannel_dram (s : State) (c : Nat) : (s.dropChannel c).dram = Sparse.drop (fun a => decide (a / 2 ^ 37 = c)) s.dram := by
  unfold State.dropChannel Sparse.drop
  simp only [decide_not]

theorem State.dropChannel_byte_in (s : State) (h : a / 2 ^ 37 = c) : (s.dropChannel c).byte a = dramDefault a := by
  rw [State.byte, State.dropChannel_dram, Sparse.get_drop_same (decide_eq_true h)]

theorem State.dropChannel_byte_out (s : State) (h : a / 2 ^ 37 ≠ c) : (s.dropChannel c).byte a = s.byte a := by
  rw [State.byte, State.dropChannel_dram, Sparse.get_drop_ne (decide_eq_false h), ← State.byte]

theorem State.byte_of_dram (h : t.dram = s.dram) (a : Nat) : t.byte a = s.byte a := by rw [State.byte, State.byte, h]

/-! ### Accepted writes to the pages of the channels (R415, R425, R426) -/

/-- The rows of TRAIN_CTRL and of a channel's CTRL. -/
def dmcTrainRow : RegRow := row1 "DMC_TRAIN_CTRL" 0x4C 0 [fAny 0 0 .rw, fAny 15 8 .rw, fAny 16 16 .w1s]
def dmcChCtrlRow : RegRow := row1 "DMC_CH_CTRL" 0x40 0x103 [fAny 0 0 .rw, fAny 1 1 .rw, fAny 8 8 .rw]

/-- The page of channel `c`. -/
def dmcChPage (c : Nat) : PageDef := unitPage (page 0x14 c (24 + c / 2) 0xFF rowsDmc) c (119 + c)

theorem pageOf_dmcCh (hc : c < 12) : pageOf (Reg.dmcChCtrl c) = some (dmcChPage c) := by
  interval_cases c <;> rfl

theorem State.writeWord_dmcTrain (hacc : s.accepts who Reg.dmcTrainCtrl data) :
    dmcTrainRow.laid = true ∧ s.writeWord who Reg.dmcTrainCtrl 4 data = s.rowStored Reg.dmcTrainCtrl dmcTrainRow data :=
  State.writeWord_starts (p := dmcGlobalPage) rfl (by decide) (by decide) rfl (by decide) hacc rfl rfl

/-- The module power has followed its bit (R415). -/
def State.powerSet (s : State) (c : Nat) (on : Bool) : State :=
  let w := s.emit (.pin "DMC_PWREN" c on)
  if on then w else w.dropChannel c

theorem State.writeWord_dmcChCtrl (hc : c < 12) (hacc : s.accepts who (Reg.dmcChCtrl c) data) :
    dmcChCtrlRow.laid = true ∧ s.writeWord who (Reg.dmcChCtrl c) 4 data =
      if s.flag (Reg.dmcChCtrl c) 8 ≠ bitOf data 8 then (s.rowStored (Reg.dmcChCtrl c) dmcChCtrlRow data).powerSet c (bitOf data 8)
      else s.rowStored (Reg.dmcChCtrl c) dmcChCtrlRow data := by
  have hoff : Reg.dmcChCtrl c % 0x1000 = 0x40 := by unfold Reg.dmcChCtrl; omega
  refine State.writeWord_starts (pageOf_dmcCh hc) (by unfold Reg.dmcChCtrl; omega) (Nat.le_of_eq hoff.symm) (i := 0) (congrArg (rowFor rowsDmc) hoff) (by decide) hacc ?_ ?_
  · rw [hoff]
    have heffect : ∀ v : State, v.blockEffect (dmcChPage c) 0x40 (s.rd (Reg.dmcChCtrl c)) data = v.dmcEffect c 0x40 (s.rd (Reg.dmcChCtrl c)) data := fun v => rfl
    rw [heffect, State.dmcEffect, if_pos hc]
    simp only [true_and]
    rfl
  · split
    · rw [State.powerSet]
      split <;> rfl
    · rfl

theorem State.powerSet_spec (s : State) (c : Nat) (on : Bool) : (∀ a, (s.powerSet c on).rd a = s.rd a) ∧ .pin "DMC_PWREN" c on ∈ (s.powerSet c on).sent ∧
    (∀ a, a / 2 ^ 37 ≠ c → (s.powerSet c on).byte a = s.byte a) ∧ (on = false → ∀ a, a / 2 ^ 37 = c → (s.powerSet c on).byte a = dramDefault a) := by
  cases on with
  | true => exact ⟨fun _ => rfl, List.mem_filter.2 ⟨List.mem_cons_self .., rfl⟩, fun _ _ => rfl, fun h => absurd h (by decide)⟩
  | false => exact ⟨fun _ => rfl, List.mem_filter.2 ⟨List.mem_cons_self .., rfl⟩, fun a ha => State.dropChannel_byte_out _ ha, fun _ a ha => State.dropChannel_byte_in _ ha⟩

/-! ### Room for an evacuation after a parity error (R249) -/

/-- The parts and words that decide whether the other channels can hold what a channel holds. -/
structure RoomSame (s t : State) : Prop where
  plc : t.plc = s.plc
  scn : t.scn = s.scn
  brc : t.brc = s.brc
  ras : t.ras = s.ras
  dimms : t.dimms = s.dimms
  words : WordsKept outsideDmc s t

theorem RoomSame.unitState (h : RoomSame s t) (hn : n < 131) : t.unitState n = s.unitState n :=
  h.words.unitState (by unfold outsideDmc; decide) (by unfold outsideDmc; decide) (by unfold outsideDmc Reg.svcUnit; omega)

theorem RoomSame.evacFits (h : RoomSame s t) (c : Nat) : t.evacFits c = s.evacFits c := by
  have hcap : ∀ x, t.chanCap x = s.chanCap x := fun x => by rw [State.chanCap, State.chanCap, h.dimms]
  have hplace : t.placeChannels = s.placeChannels := by
    unfold State.placeChannels
    refine List.filter_congr fun x hx => ?_
    rw [h.unitState (by have := List.mem_range.1 hx; omega), hcap, h.plc]
  have hunits : ∀ x, t.unitsOn x = s.unitsOn x := fun x => by rw [State.unitsOn, State.unitsOn, h.scn, h.plc]
  have hoas : t.oasBytes = s.oasBytes := by rw [State.oasBytes, State.oasBytes, h.ras]
  have hpinned : t.linePinned = s.linePinned := by
    funext e
    unfold State.linePinned State.pinnedSegs
    rw [h.words Reg.plcSegPinValid (by unfold outsideDmc; decide), List.filterMap_congr fun j hj => ?_]
    have hlt := List.mem_range.1 hj
    rw [h.words (Reg.plcSegPin j) (by unfold outsideDmc Reg.plcSegPin; omega)]
  have hcaps : t.chanCap = s.chanCap := funext hcap
  unfold State.evacFits
  simp only [hplace, hunits, hoas, hpinned, hcaps, h.scn, h.plc]

end

end Sys2Proof.Machine

/-! SUPPORT. Training of a channel, and O50 (R411, R412, R415, R425). -/

namespace Sys2Proof.Machine

section
variable {s t u : State} {c k n i a b : Nat} {l : List Dimm}

/-! ### The tests that start at shut-down (R498) -/

/-- The words that neither the shut-down tests nor the end of training concern. -/
def outsideTests (s : State) (a : Nat) : Prop := a ≠ Reg.dmcTrainStat ∧ a ≠ Reg.dmcTrainCtrl ∧ a ≠ 0x14F010 ∧ ∀ x ∈ s.svc.bist, a ≠ Reg.svcUnit x

theorem State.setUnits_words (l : List Nat) (v : Nat) : ∀ s : State, WordsKept (fun a => ∀ x ∈ l, a ≠ Reg.svcUnit x) s (l.foldl (fun s u => s.setUnit u v) s) := by
  induction l with
  | nil => exact fun s => .refl _ s
  | cons x l ih =>
    intro s
    rw [List.foldl_cons]
    have hfirst : WordsKept (fun a => ∀ y ∈ x :: l, a ≠ Reg.svcUnit y) s (s.setUnit x v) := .setFld (.refl _ s) (fun h => h x (List.mem_cons_self ..) rfl)
    exact hfirst.trans fun a ha => ih _ a fun y hy => ha y (List.mem_cons_of_mem _ hy)

/-- The units whose tests start now. -/
def State.bistGo (s : State) : List Nat := s.svc.bist.take (8 - s.svc.tests.length)

theorem State.bistFill_words (s : State) : WordsKept (fun a => ∀ x ∈ s.svc.bist, a ≠ Reg.svcUnit x) s s.bistFill := fun a ha =>
  (State.withSvc_rd _ _ a).trans (State.setUnits_words s.bistGo 3 s a fun x hx => ha x (List.mem_of_mem_take hx))

theorem State.bistFill_tests (s : State) : s.bistFill.svc.tests = s.svc.tests ++ s.bistGo.map (fun u => (u, 4)) := rfl

theorem State.testOf_none : s.testOf n = none ↔ ∀ x ∈ s.svc.tests, x.1 ≠ n := by
  simp [State.testOf]

/-- What the end of training leaves beside what it shows. -/
structure TestsGone (n : Nat) (s t : State) : Prop where
  words : WordsKept (outsideTests s) s t
  stat : EventsKept Reg.dmcTrainStat s t
  event : EventsKept 0x14F010 s t
  dmc : t.dmc = s.dmc
  dimms : t.dimms = s.dimms
  dram : t.dram = s.dram
  test : s.testOf n = none → t.testOf n = none

theorem State.bistFill_gone (hn : n ∉ s.svc.bist) : TestsGone n s s.bistFill := by
  have hword : ∀ a, (∀ x ∈ s.svc.bist, a ≠ Reg.svcUnit x) → s.bistFill.rd a = s.rd a := s.bistFill_words
  refine ⟨fun a ha => hword a ha.2.2.2, .of_rd (hword _ fun x _ => ?_), .of_rd (hword _ fun x _ => ?_), State.bistFill_kept.dmc.resolve_left (by decide),
    State.bistFill_kept.dimms.resolve_left (by decide), State.bistFill_kept.dram.resolve_left (by decide), fun h => ?_⟩
  · unfold Reg.dmcTrainStat Reg.svcUnit
    omega
  · unfold Reg.svcUnit
    omega
  · rw [State.testOf_none] at h ⊢
    rw [State.bistFill_tests]
    intro x hx
    rcases List.mem_append.1 hx with hx | hx
    · exact h x hx
    · obtain ⟨y, hy, rfl⟩ := List.mem_map.1 hx
      exact fun e => hn (e ▸ List.mem_of_mem_take hy)

/-- The end of all training at start is shown. -/
def State.trainDone (s : State) : State := ((s.setFlag Reg.dmcTrainStat 31 true).setFlag Reg.dmcTrainCtrl 16 false).raise 0x14F000 0

theorem State.trainDone_gone (s : State) (n : Nat) : TestsGone n s s.trainDone := by
  refine ⟨.raise (.setFlag (.setFlag (.refl _ s) fun h => h.1 rfl) fun h => h.2.1 rfl) fun h => h.2.2.1 rfl, fun i hi hs => ?_, ?_,
    (State.raise_dmc _ _ _).trans ((State.setFlag_dmc _ _ _ _).trans (State.setFlag_dmc _ _ _ _)),
    (State.raise_dimms _ _ _).trans ((State.setFlag_dimms _ _ _ _).trans (State.setFlag_dimms _ _ _ _)),
    (State.raise_dram _ _ _).trans ((State.setFlag_dram _ _ _ _).trans (State.setFlag_dram _ _ _ _)), fun h => ?_⟩
  · rw [State.trainDone, State.flag, State.rd_raise_ne _ _ (by decide), State.rd_setFlag_ne _ _ _ (by decide), ← State.flag]
    by_cases h : i = 31
    · rw [h, State.flag_setFlag_same _ _ _ _ (by decide)]
    · rw [State.flag_setFlag_other _ _ _ _ _ (by decide) h, hs]
  · exact (EventsKept.trans (.of_rd (State.rd_setFlag_ne _ _ _ (by decide))) (.of_rd (State.rd_setFlag_ne _ _ _ (by decide)))).raise _ (by decide)
  · have hsvc : s.trainDone.svc = s.svc := (State.raise_svc _ _ _).trans ((State.setFlag_svc _ _ _ _).trans (State.setFlag_svc _ _ _ _))
    rw [State.testOf, hsvc]
    exact h

/-- What follows the training of one channel. -/
def State.trainNext (s : State) (start : Bool) : State := if start && s.svc.tests.all (fun t => t.2 != 5) then s.trainDone else s.bistFill

theorem State.trainNext_gone (start : Bool) (hn : n ∉ s.svc.bist) : TestsGone n s (s.trainNext start) := by
  unfold State.trainNext
  split
  exacts [s.trainDone_gone n, State.bistFill_gone hn]

/-! ### The result of training (R411, R412, R415, R425) -/

/-- The code is shown and the test is over. -/
def State.trainNoted (s : State) (c code : Nat) : State :=
  let w := s.wr (Reg.dmcChSvc c) code
  { w with svc := { w.svc with tests := w.svc.tests.filter (fun t => t.1 != 119 + c) } }

/-- A channel without modules is OFF. -/
def State.trainEmpty (s : State) (c : Nat) : State := { s.setUnit (119 + c) 5 with dimms := s.dimms.set c [] }.wr (Reg.dmcChStatus c) 0

/-- A trained channel is in service. -/
def State.trainUp (s : State) (c : Nat) (l : List Dimm) (record : List Nat) (temp : Int) (restored : Bool) : State :=
  ((s.channelUp c l record temp).unitActive (119 + c)).setFlag Reg.dmcTrainStat (if restored then c else 16 + c) true

/-- A channel whose training has failed. -/
def State.trainFailed (s : State) (c code : Nat) : State :=
  (((s.setUnit (119 + c) 4).raise 0x1D0000 0).logIt (unitSource (119 + c)) code 2 []).raise 0x14F000 1

/-- What the result of a channel's training leaves. -/
def State.trainShown (s : State) (c : Nat) (l : List Dimm) (temp : Int) (r : Nat × Bool × List Nat × Bool) : State :=
  if l = [] then s.trainEmpty c else if r.2.1 then s.trainUp c l r.2.2.1 temp r.2.2.2 else s.trainFailed c r.1

theorem State.dramTraining_eq {temp : Int} {verify memory : Bool} {full : Option (List Nat)} (hc : c < 12) (hstate : s.unitState (119 + c) = 3)
    (htest : s.testOf (119 + c) = some k) (hkind : k = 1 ∨ k = 5 ∧ (s.flag Reg.dmcTrainCtrl 0 = true ∨ s.flag Reg.dmcTrainCtrl 16 = true ∨
      s.dmc.trainFrom + s.fld Reg.dmcTrainCtrl 15 8 * 100 * ms ≤ s.now)) :
    let r := s.trainResult c l temp verify memory full (k == 5)
    s.dramTraining c l temp verify memory full = ((s.trainNoted c r.1).trainShown c l temp r).trainNext (k == 5) := by
  have hwaits : (k == 5 && !s.flag Reg.dmcTrainCtrl 0 && !s.flag Reg.dmcTrainCtrl 16 &&
      decide (s.now < s.dmc.trainFrom + s.fld Reg.dmcTrainCtrl 15 8 * 100 * ms)) = false := by
    rcases hkind with rfl | ⟨-, h | h | h⟩
    · rfl
    · simp [h]
    · simp [h]
    · simp [Nat.not_lt.2 h]
  have hkinds : k = 1 ∨ k = 5 := hkind.imp_right fun h => h.1
  unfold State.dramTraining
  simp only [htest, hwaits]
  rw [if_pos ⟨hc, hstate, hkinds, rfl⟩]
  rfl

end

end Sys2Proof.Machine

/-! SUPPORT. What training shows, and O50 (R404, R405, R408, R411-R415). -/

namespace Sys2Proof.Machine

section
variable {s t u : State} {c k n i a b v code : Nat} {l : List Dimm}

/-! ### What training shows (R411, R412, R415) -/

/-- The words of a channel's training, beside its unit's. -/
def outsideTraining (c a : Nat) : Prop :=
  a ≠ Reg.svcUnit (119 + c) ∧ a ≠ Reg.dmcChStatus c ∧ a ≠ Reg.dmcChTemp c ∧ a ≠ Reg.dmcTrainStat ∧ a ≠ 0x1D0010 ∧ a ≠ Reg.svcLogStaged ∧ a ≠ 0x14F010

theorem outsideTraining_code (hc : c < 12) : outsideTraining c (Reg.dmcChSvc c) := by
  unfold outsideTraining Reg.dmcChSvc Reg.svcUnit Reg.dmcChStatus Reg.dmcChTemp Reg.dmcTrainStat Reg.svcLogStaged
  omega

theorem outsideTraining_domain (hc : c < 12) (h : a = Reg.pwrDomStat0 ∨ a = Reg.pwrDomStat1) : outsideTraining c a := by
  unfold outsideTraining Reg.svcUnit Reg.dmcChStatus Reg.dmcChTemp Reg.dmcTrainStat Reg.svcLogStaged
  unfold Reg.pwrDomStat0 Reg.pwrDomStat1 at h
  omega

/-- What the result of training leaves its unit in. -/
structure TrainShown (c v : Nat) (s t : State) : Prop where
  unit : t.fld (Reg.svcUnit (119 + c)) 2 0 = v
  words : WordsKept (outsideTraining c) s t
  svc : t.svc = s.svc

theorem TrainShown.setUnit (h : WordsKept (outsideTraining c) s t) (hsvc : t.svc = s.svc) (hv : v < 8) : TrainShown c v s (t.setUnit (119 + c) v) := by
  refine ⟨?_, h.setFld fun h => h.1 rfl, (State.setFld_svc _ _ _ _ _).trans hsvc⟩
  rw [State.setUnit, State.fld_setFld_same _ _ _ _ _ (by decide) (by decide)]
  exact Nat.mod_eq_of_lt hv

theorem TrainShown.later (h : TrainShown c v s t) (hsvc : u.svc = t.svc) (hwords : WordsKept (outsideTraining c) t u)
    (hunit : u.rd (Reg.svcUnit (119 + c)) = t.rd (Reg.svcUnit (119 + c))) : TrainShown c v s u :=
  ⟨by rw [State.fld, hunit, ← State.fld, h.unit], h.words.trans hwords, hsvc.trans h.svc⟩

theorem State.withDimms_rd (s : State) (v : List (List Dimm)) (a : Nat) : { s with dimms := v }.rd a = s.rd a := rfl

theorem svcUnit_ne_dmc (h : a < 0x150000) : Reg.svcUnit n ≠ a := by
  unfold Reg.svcUnit
  omega

theorem dmcWord_lt (hc : c < 12) : Reg.dmcChStatus c < 0x150000 ∧ Reg.dmcChTemp c < 0x150000 ∧ Reg.dmcTrainStat < 0x150000 := by
  unfold Reg.dmcChStatus Reg.dmcChTemp Reg.dmcTrainStat
  omega

theorem State.trainEmpty_shown (s : State) (hc : c < 12) : TrainShown c 5 s (s.trainEmpty c) ∧ (s.trainEmpty c).dimms = s.dimms.set c [] := by
  have hset : TrainShown c 5 s (s.setUnit (119 + c) 5) := .setUnit (.refl _ s) rfl (by decide)
  refine ⟨?_, State.wr_dimms _ _ _⟩
  unfold State.trainEmpty
  generalize s.setUnit (119 + c) 5 = w at hset ⊢
  have hplain : WordsKept (outsideTraining c) w { w with dimms := s.dimms.set c [] } := fun a _ => State.withDimms_rd _ _ a
  exact hset.later ((State.wr_svc _ _ _).trans rfl) (hplain.wr fun h => h.2.1 rfl)
    ((State.rd_wr_ne _ _ (svcUnit_ne_dmc (dmcWord_lt hc).1)).trans (State.withDimms_rd _ _ _))

/-- A fresh controller, its channel empty. -/
def State.channelFresh (s : State) (c : Nat) (record : List Nat) : State :=
  let w := s.dropChannel c
  w.setChan c { Chan.reset with record := record, refLast := s.now, softAt := s.now, driftAt := s.now, dqsAt := s.now }

/-- The modules that a channel has been found to hold. -/
def State.withModules (s : State) (c : Nat) (l : List Dimm) : State := { s with dimms := s.dimms.set c l }

theorem State.channelUp_eq (s : State) (c : Nat) (l : List Dimm) (record : List Nat) (temp : Int) : s.channelUp c l record temp =
    (((s.channelFresh c record).withModules c l).wr (Reg.dmcChStatus c)
      (l.length + ((l[0]?).map (fun d => d.ranks)).getD 0 % 4 * 4 + (l.map (fun d => d.gib)).sum % 512 * 256)).wr (Reg.dmcChTemp c) (toBits 8 temp) := rfl

theorem State.withModules_spec (s : State) (c : Nat) (l : List Dimm) : (∀ a, (s.withModules c l).rd a = s.rd a) ∧ (s.withModules c l).svc = s.svc ∧
    (s.withModules c l).dmc = s.dmc ∧ (s.withModules c l).dram = s.dram := ⟨fun _ => rfl, rfl, rfl, rfl⟩

theorem State.channelFresh_spec (s : State) (c : Nat) (record : List Nat) : (∀ a, (s.channelFresh c record).rd a = s.rd a) ∧
    (s.channelFresh c record).svc = s.svc ∧ (s.channelFresh c record).dimms = s.dimms ∧ (s.channelFresh c record).dram = (s.dropChannel c).dram ∧
    (c < s.dmc.chans.length → ((s.channelFresh c record).chan c).record = record) :=
  ⟨fun _ => rfl, rfl, rfl, rfl, fun h => congrArg Chan.record (State.chan_setChan_same (s := s.dropChannel c) h _)⟩

theorem State.channelUp_spec (s : State) (c : Nat) (l : List Dimm) (record : List Nat) (temp : Int) :
    WordsKept (outsideTraining c) s (s.channelUp c l record temp) ∧ (s.channelUp c l record temp).svc = s.svc ∧
    (s.channelUp c l record temp).dimms = s.dimms.set c l ∧ (s.channelUp c l record temp).dram = (s.dropChannel c).dram ∧
    (c < s.dmc.chans.length → ((s.channelUp c l record temp).chan c).record = record) := by
  obtain ⟨hrd, hsvc, hdimms, hdram, hchan⟩ := s.channelFresh_spec c record
  obtain ⟨hrd', hsvc', hdmc', hdram'⟩ := (s.channelFresh c record).withModules_spec c l
  have hdimms' : ((s.channelFresh c record).withModules c l).dimms = s.dimms.set c l := rfl
  rw [State.channelUp_eq]
  have hplain : WordsKept (outsideTraining c) s ((s.channelFresh c record).withModules c l) := fun a _ => (hrd' a).trans (hrd a)
  refine ⟨(hplain.wr fun h => h.2.1 rfl).wr fun h => h.2.2.1 rfl, ?_, ?_, ?_, fun h => ?_⟩
  · rw [State.wr_svc, State.wr_svc, hsvc', hsvc]
  · rw [State.wr_dimms, State.wr_dimms, hdimms']
  · rw [State.wr_dram, State.wr_dram, hdram', hdram]
  · rw [State.chan_of_dmc ((State.wr_dmc _ _ _).trans ((State.wr_dmc _ _ _).trans hdmc')), hchan h]

theorem State.unitActive_channel (s : State) (hc : c < 12) : s.unitActive (119 + c) = s.unitBack (119 + c) 0 := by
  have hlanes : unitLanes (119 + c) = [] := by
    unfold unitLanes
    rw [if_neg (by omega), if_neg (by omega)]
  unfold State.unitActive
  rw [hlanes, if_neg (by omega)]
  rfl

theorem State.unitBack_rd (s : State) (u v a : Nat) : (s.unitBack u v).rd a = (s.setUnit u v).rd a := rfl

theorem State.trainUp_shown (s : State) (hc : c < 12) (l : List Dimm) (record : List Nat) (temp : Int) (restored : Bool) :
    let t := s.trainUp c l record temp restored
    TrainShown c 0 s t ∧ t.dimms = s.dimms.set c l ∧ (c < s.dmc.chans.length → (t.chan c).record = record) ∧
    t.flag Reg.dmcTrainStat (if restored then c else 16 + c) = true ∧ ∀ a, a / 2 ^ 37 = c → t.byte a = dramDefault a := by
  obtain ⟨hwords, hsvc, hdimms, hdram, hrecord⟩ := s.channelUp_spec c l record temp
  dsimp only
  unfold State.trainUp
  rw [State.unitActive_channel _ hc]
  generalize s.channelUp c l record temp = w at hwords hsvc hdimms hdram hrecord ⊢
  have hset : TrainShown c 0 s (w.setUnit (119 + c) 0) := .setUnit hwords hsvc (by decide)
  have hback : TrainShown c 0 s (w.unitBack (119 + c) 0) := hset.later rfl (fun a _ => State.unitBack_rd _ _ _ a) (State.unitBack_rd _ _ _ _)
  have hparts : (w.unitBack (119 + c) 0).dimms = w.dimms ∧ (w.unitBack (119 + c) 0).dmc = w.dmc ∧ (w.unitBack (119 + c) 0).dram = w.dram :=
    ⟨State.unitBack_kept.dimms.resolve_left (by decide), State.unitBack_kept.dmc.resolve_left (by decide), State.unitBack_kept.dram.resolve_left (by decide)⟩
  obtain ⟨hbdimms, hbdmc, hbdram⟩ := hparts
  generalize w.unitBack (119 + c) 0 = r at hback hbdimms hbdmc hbdram ⊢
  refine ⟨hback.later (State.setFlag_svc _ _ _ _) (.setFlag (.refl _ r) fun h => h.2.2.2.1 rfl) (State.rd_setFlag_ne _ _ _ (svcUnit_ne_dmc (dmcWord_lt hc).2.2)),
    ?_, fun h => ?_, State.flag_setFlag_same _ _ _ _ (by split <;> omega), fun a ha => ?_⟩
  · rw [State.setFlag_dimms, hbdimms, hdimms]
  · rw [State.chan_of_dmc ((State.setFlag_dmc _ _ _ _).trans hbdmc), hrecord h]
  · rw [State.byte_of_dram ((State.setFlag_dram _ _ _ _).trans (hbdram.trans hdram)), State.dropChannel_byte_in _ ha]

theorem State.trainFailed_shown (s : State) (c code : Nat) :
    let t := s.trainFailed c code
    TrainShown c 4 s t ∧ t.dimms = s.dimms ∧ t.flag 0x14F010 1 = true ∧ t.dram = s.dram := by
  have hset : TrainShown c 4 s (s.setUnit (119 + c) 4) := .setUnit (.refl _ s) rfl (by decide)
  have hparts : (s.setUnit (119 + c) 4).dimms = s.dimms ∧ (s.setUnit (119 + c) 4).dram = s.dram := ⟨State.setFld_dimms _ _ _ _ _, State.setFld_dram _ _ _ _ _⟩
  dsimp only
  unfold State.trainFailed
  generalize s.setUnit (119 + c) 4 = w at hset hparts ⊢
  have hraised : TrainShown c 4 s (w.raise 0x1D0000 0) := hset.later (State.raise_svc _ _ _) (.raise (.refl _ w) fun h => h.2.2.2.2.1 rfl)
    (State.rd_raise_ne _ _ (by unfold Reg.svcUnit; omega))
  have hrparts : (w.raise 0x1D0000 0).dimms = s.dimms ∧ (w.raise 0x1D0000 0).dram = s.dram :=
    ⟨(State.raise_dimms _ _ _).trans hparts.1, (State.raise_dram _ _ _).trans hparts.2⟩
  generalize w.raise 0x1D0000 0 = x at hraised hrparts ⊢
  have hlog := State.stage_wordsBut x
  have hlogged : TrainShown c 4 s (x.logIt (unitSource (119 + c)) code 2 []) := by
    refine hraised.later (State.logIt_kept.svc.resolve_left (by decide)) (.wordsBut (hlog _) fun y hy h => ?_) (hlog _ _ ?_)
    · rcases List.mem_cons.1 hy with rfl | hy
      · exact h.2.2.2.2.2.1 rfl
      · exact h.2.2.2.2.1 (List.mem_singleton.1 hy)
    · simp only [List.mem_cons, List.not_mem_nil, or_false, Reg.svcUnit, Reg.svcLogStaged]
      omega
  have hlparts : (x.logIt (unitSource (119 + c)) code 2 []).dimms = s.dimms ∧ (x.logIt (unitSource (119 + c)) code 2 []).dram = s.dram :=
    ⟨(State.logIt_kept.dimms.resolve_left (by decide)).trans hrparts.1, (State.logIt_kept.dram.resolve_left (by decide)).trans hrparts.2⟩
  generalize x.logIt (unitSource (119 + c)) code 2 [] = y at hlogged hlparts ⊢
  exact ⟨hlogged.later (State.raise_svc _ _ _) (.raise (.refl _ y) fun h => h.2.2.2.2.2.2 rfl) (State.rd_raise_ne _ _ (by unfold Reg.svcUnit; omega)),
    (State.raise_dimms _ _ _).trans hlparts.1, State.flag_raise_same _ _ _ (by decide), (State.raise_dram _ _ _).trans hlparts.2⟩

/-! ### The whole of a channel's training -/

theorem State.trainResult_code (s : State) (c : Nat) (l : List Dimm) (temp : Int) (verify memory : Bool) (full : Option (List Nat)) (start : Bool) :
    (s.trainResult c l temp verify memory full start).1 < 2 ^ 32 := by
  unfold State.trainResult
  dsimp only
  repeat' split
  all_goals norm_num

theorem State.trainNoted_spec (s : State) (c : Nat) (hcode : code < 2 ^ 32) :
    (s.trainNoted c code).rd (Reg.dmcChSvc c) = code ∧ (∀ a, a ≠ Reg.dmcChSvc c → (s.trainNoted c code).rd a = s.rd a) ∧
    (s.trainNoted c code).testOf (119 + c) = none ∧ (s.trainNoted c code).svc.bist = s.svc.bist ∧ (s.trainNoted c code).dmc = s.dmc ∧
    (s.trainNoted c code).dimms = s.dimms ∧ (s.trainNoted c code).dram = s.dram := by
  have hwr : (s.wr (Reg.dmcChSvc c) code).rd (Reg.dmcChSvc c) = code := (State.rd_wr_same _ _ _).trans (Nat.mod_eq_of_lt hcode)
  refine ⟨(State.withSvc_rd _ _ _).trans hwr, fun a ha => (State.withSvc_rd _ _ _).trans (State.rd_wr_ne _ _ ha), ?_, rfl, rfl, rfl, rfl⟩
  rw [State.testOf_none]
  intro x hx
  simpa using (List.mem_filter.1 hx).2

/-- What is seen of a channel once its training has ended. -/
theorem TrainShown.ended (h : TrainShown c v s t) (hc : c < 12) (hbist : 119 + c ∉ s.svc.bist) (htest : s.testOf (119 + c) = none)
    (hdom : s.domOn (unitDomain (119 + c)) = true) (start : Bool) :
    (t.trainNext start).testOf (119 + c) = none ∧ (t.trainNext start).rd (Reg.dmcChSvc c) = s.rd (Reg.dmcChSvc c) ∧
    (t.trainNext start).unitState (119 + c) = v := by
  have hgone : TestsGone (119 + c) t (t.trainNext start) := State.trainNext_gone start (by rw [h.svc]; exact hbist)
  have hunit : outsideTests t (Reg.svcUnit (119 + c)) := by
    refine ⟨svcUnit_ne_dmc (by decide), svcUnit_ne_dmc (by decide), svcUnit_ne_dmc (by decide), fun x hx e => hbist ?_⟩
    unfold Reg.svcUnit at e
    rw [h.svc] at hx
    rwa [show 119 + c = x by omega]
  have hcode : outsideTests t (Reg.dmcChSvc c) := by
    refine ⟨?_, ?_, ?_, fun x _ => ?_⟩
    · unfold Reg.dmcChSvc Reg.dmcTrainStat; omega
    · unfold Reg.dmcChSvc Reg.dmcTrainCtrl; omega
    · unfold Reg.dmcChSvc; omega
    · unfold Reg.dmcChSvc Reg.svcUnit; omega
  have hdomain : ∀ a, a = Reg.pwrDomStat0 ∨ a = Reg.pwrDomStat1 → outsideTests t a := fun a ha => by
    refine ⟨?_, ?_, ?_, fun x _ => ?_⟩
    · rcases ha with rfl | rfl <;> decide
    · rcases ha with rfl | rfl <;> decide
    · rcases ha with rfl | rfl <;> decide
    · unfold Reg.svcUnit
      unfold Reg.pwrDomStat0 Reg.pwrDomStat1 at ha
      omega
  have hdoms : (t.trainNext start).domOn (unitDomain (119 + c)) = true := by
    rw [hgone.words.domOn (hdomain _ (Or.inl rfl)) (hdomain _ (Or.inr rfl)), h.words.domOn (outsideTraining_domain hc (Or.inl rfl)) (outsideTraining_domain hc (Or.inr rfl)), hdom]
  refine ⟨hgone.test ?_, (hgone.words _ hcode).trans (h.words _ (outsideTraining_code hc)), ?_⟩
  · rw [State.testOf, h.svc]
    exact htest
  · rw [State.unitState, hdoms, if_pos rfl, if_neg (by omega), hgone.words.fld hunit, h.unit]

end

end Sys2Proof.Machine

/-! SUPPORT. O50: the upkeep of the memory channels (R404, R405, R408, R411-R415). -/

namespace Sys2Proof.Machine

section
variable {s t u : State} {c k n i a b fails since data : Nat} {who : Requester} {l : List Dimm}

theorem settle_chan (s : State) (c : Nat) : (settle s).chan c = s.chan c := State.chan_of_dmc (settle_dmc s) c

theorem settle_owed (s : State) (c : Nat) : (settle s).owed c = s.owed c := settle_fld _ _ _ _

theorem settle_testOf (s : State) (n : Nat) : (settle s).testOf n = s.testOf n := by rw [State.testOf, State.testOf, settle_svc]

theorem settle_linePoisoned (s : State) (n : Nat) : (settle s).linePoisoned n = s.linePoisoned n := by rw [State.linePoisoned, State.linePoisoned, settle_poison]

/-- TREFI as a whole: with no read waiting it is the refresh, then writes. -/
theorem State.trefi_whole (hc : c < 12) (huse : s.chanUsable c = true) (hdue : (s.chan c).refLast + s.trefiTime c ≤ s.now) (hrq : (s.chan c).rq = [])
    (hfence : (s.chan c).fenceDue = false) : ∃ u, ((((s.trefi c).chanServe c true).ceWatch s c).takeFence c) = u ∧ TrefiDone c s (s.trefi c) ∧
      ChanServed c (s.trefi c) u ∧ u.dram = s.dram := by
  have hdone := s.trefi_done hc huse hdue
  have hserved : ChanServed c (s.trefi c) ((s.trefi c).chanServe c true) := State.chanServe_served (hdone.reads.trans hrq) true
  refine ⟨_, ?_, hdone, hserved, (State.chanServe_kept.dram.resolve_left (by decide)).trans (State.trefi_kept.dram.resolve_left (by decide))⟩
  rw [State.ceWatch_quiet (hserved.limit.trans hdone.limit), State.takeFence_none (hserved.fence.trans (hdone.fence.trans hfence))]

/-- A parity error as a whole, the channel's own fence included. -/
def State.parityWhole (s : State) (c fails since : Nat) : State :=
  if (s.caParity c fails since).2 then (s.caParity c fails since).1.selfFence (119 + c) else (s.caParity c fails since).1

theorem State.parityWhole_passed (hc : c < 12) (huse : s.chanUsable c = true) (hfails : fails < 3) : s.parityWhole c fails since = s.parityReplayed c fails since := by
  rw [State.parityWhole, State.caParity_eq hc huse, if_neg (Nat.not_le.2 hfails)]
  rfl

theorem State.parityWhole_failed (hc : c < 12) (huse : s.chanUsable c = true) (hfails : 3 ≤ fails) :
    s.parityWhole c fails since = (s.parityFailed c fails since).selfFence (119 + c) := by
  rw [State.parityWhole, State.caParity_eq hc huse, if_pos hfails]
  rfl

theorem dmcWord_fence (hc : c < 12) (ha : ¬ outsideDmc a) : outsideFence c a := by
  unfold outsideDmc at ha
  unfold outsideFence outsideEvac Reg.plcStat Reg.svcUnit Reg.svcStat Reg.svcLogStaged
  refine ⟨⟨by omega, fun h => ?_⟩, by omega, by omega, by omega, by omega, by omega⟩
  simp only [List.mem_cons, List.not_mem_nil, or_false, Reg.nvsDStat, nvsDBase] at h
  omega

theorem Replayed.fenced (h : Replayed c fails since s t) (hc : c < 12) : Replayed c fails since s (t.selfFence (119 + c)) := by
  have hwords := t.selfFence_words hc
  have hsent : SentKept t (t.selfFence (119 + c)) := .of_sent (State.selfFence_kept.out.resolve_left (by decide))
  refine ⟨?_, ?_, hsent _ h.cleared, hsent _ h.again, fun hlen => ?_⟩
  · rw [hwords.flag (dmcWord_fence hc (dmcWords hc).2), h.event]
  · rw [hwords _ (dmcWord_fence hc ((dmcWords hc).1 5 (by decide))), h.count]
  · rw [State.chan_of_dmc (State.selfFence_kept.dmc.resolve_left (by decide))]
    exact h.stop hlen

theorem State.parityWhole_done (hc : c < 12) (huse : s.chanUsable c = true) : Replayed c fails since s (s.parityWhole c fails since) := by
  rcases Nat.lt_or_ge fails 3 with hfails | hfails
  · rw [State.parityWhole_passed hc huse hfails]
    exact (s.parityReplayed_spec hc fails since).1
  · rw [State.parityWhole_failed hc huse hfails]
    exact (s.parityFailed_spec hc fails since).1.fenced hc

theorem State.parityWhole_quiet (hc : c < 12) (huse : s.chanUsable c = true) (hfails : fails < 3) :
    (s.parityWhole c fails since).dram = s.dram ∧ (s.parityWhole c fails since).svc = s.svc ∧ (s.parityWhole c fails since).unitState (119 + c) = s.unitState (119 + c) := by
  have hkept : Kept 42966450176 s (s.caParity c fails since).1 := State.caParity_kept
  rw [State.caParity_eq hc huse, if_neg (Nat.not_le.2 hfails)] at hkept
  rw [State.parityWhole_passed hc huse hfails]
  exact ⟨hkept.dram.resolve_left (by decide), hkept.svc.resolve_left (by decide), (s.parityReplayed_spec hc fails since).2.unitState (by unfold outsideDmc; decide)
    (by unfold outsideDmc; decide) (by unfold outsideDmc Reg.svcUnit; omega)⟩

theorem State.parityFailed_room (hc : c < 12) (huse : s.chanUsable c = true) (hfails : 3 ≤ fails) : RoomSame s (s.parityFailed c fails since) := by
  have hkept : Kept 42966450176 s (s.caParity c fails since).1 := State.caParity_kept
  rw [State.caParity_eq hc huse, if_pos hfails] at hkept
  exact ⟨hkept.plc.resolve_left (by decide), hkept.scn.resolve_left (by decide), hkept.brc.resolve_left (by decide), hkept.ras.resolve_left (by decide),
    hkept.dimms.resolve_left (by decide), (s.parityFailed_spec hc fails since).2.2⟩

theorem State.parityWhole_fences (hc : c < 12) (huse : s.chanUsable c = true) (hfails : 3 ≤ fails) :
    (s.parityWhole c fails since).flag (dmcBase c + 0x10) 3 = true ∧
    (s.unitState (119 + c) = 0 → s.evacFits c = true → (s.parityWhole c fails since).unitState (119 + c) = 1) := by
  have hroom := State.parityFailed_room (since := since) hc huse hfails
  rw [State.parityWhole_failed hc huse hfails]
  refine ⟨?_, fun hact hfits => State.selfFence_fencing hc ((hroom.unitState (by omega)).trans hact) ((hroom.evacFits c).trans hfits)⟩
  rw [(State.selfFence_words _ hc).flag (dmcWord_fence hc (dmcWords hc).2), (s.parityFailed_spec hc fails since).2.1]

/-! ### A scrub as a whole (R408) -/

theorem State.scrubRead_clean (hc : c < 12) (huse : s.chanUsable c = true) (hen : s.flag (Reg.dmcChCtrl c) 0 = true) (hrate : s.fld Reg.dmcScrub 7 0 ≠ 0) (bit : Nat) :
    s.scrubRead c 0 bit = s.draw.2.scrubMoved c (s.chan c).scrub (decide (s.chanCap c ≤ ((s.chan c).scrub + 1) * 64)) := by
  rw [State.scrubRead_next hc huse hen hrate]
  have hread : (if s.draw.2.linePoisoned (s.scrubLine c) then s.draw.2 else s.draw.2.readLine c s.draw.1 (s.scrubLine c * 64) 0 bit) = s.draw.2 := by
    split
    · rfl
    · next h => exact State.readLine_clean (by rw [Nat.mul_div_cancel _ (by decide)]; simpa using h) _ _
  rw [hread]

theorem scrubWord_limit : dmcBase c + 0x10 ∉ [Reg.dmcChStat c 12] := by
  rw [List.mem_singleton]
  exact dmcChStat_ne_events

theorem State.scrubRead_again (hc : c < 12) (huse : s.chanUsable c = true) (hen : s.flag (Reg.dmcChCtrl c) 0 = true) (hrate : s.fld Reg.dmcScrub 7 0 ≠ 0) (bit : Nat)
    (hclean : s.linePoisoned (s.scrubLine c) = false) :
    let u := s.scrubRead c 4 bit
    u.linePoisoned (s.scrubLine c) = true ∧ u.flag (dmcBase c + 0x10) 1 = true ∧ u.flag (dmcBase c + 0x10) 7 = s.flag (dmcBase c + 0x10) 7 := by
  have hline : s.scrubLine c * 64 / 64 = s.scrubLine c := Nat.mul_div_cancel _ (by decide)
  have hclean' : s.draw.2.linePoisoned (s.scrubLine c * 64 / 64) = false := by rw [hline]; exact hclean
  have hdraw : s.draw.2.flag (dmcBase c + 0x10) 7 = s.flag (dmcBase c + 0x10) 7 := rfl
  obtain ⟨hpoison, hevent, hlimit⟩ := s.draw.2.linePoisons_spec c s.draw.1 (s.scrubLine c * 64)
  rw [hline] at hpoison
  dsimp only
  rw [State.scrubRead_next hc huse hen hrate, if_neg (by rw [hline] at hclean'; rw [hclean']; decide), State.readLine_again hclean']
  generalize s.draw.2.linePoisons c s.draw.1 (s.scrubLine c * 64) = w at hpoison hevent hlimit ⊢
  obtain ⟨-, -, hmoved, hwords, -⟩ := (w.logIt (0x1400 + c) (evt c 1) 2 (leBytes 8 (s.scrubLine c * 64) ++ leBytes 2 s.draw.1)).scrubMoved_spec c (s.chan c).scrub
    (decide (s.chanCap c ≤ ((s.chan c).scrub + 1) * 64))
  have hrd : ∀ i, ((w.logIt (0x1400 + c) (evt c 1) 2 (leBytes 8 (s.scrubLine c * 64) ++ leBytes 2 s.draw.1)).scrubMoved c (s.chan c).scrub
      (decide (s.chanCap c ≤ ((s.chan c).scrub + 1) * 64))).flag (dmcBase c + 0x10) i = w.flag (dmcBase c + 0x10) i := fun i => by
    rw [State.flag, hwords _ scrubWord_limit, State.logIt, State.stage_wordsBut _ _ _ (by
      simp only [List.mem_cons, List.not_mem_nil, or_false, dmcBase, Reg.svcLogStaged]
      omega), ← State.flag]
  rw [hrd, hrd, hevent, hlimit, hdraw, State.linePoisoned, hmoved, State.logIt_kept.poison.resolve_left (by decide), ← State.linePoisoned, hpoison]
  exact ⟨rfl, rfl, rfl⟩

/-! ### The words that restore and power modules (R412, R415) -/

theorem storedBit_sticky (old : Bool) : FieldKind.storedBit .w1s true old true = true := by
  cases old <;> rfl

theorem dmcTrain_restore (hlaid : dmcTrainRow.laid = true) (data : Nat) :
    (s.rowStored Reg.dmcTrainCtrl dmcTrainRow (putBits data 16 16 1)).flag Reg.dmcTrainCtrl 16 = true := by
  have hsticky : (stickyMask Reg.dmcTrainCtrl).testBit 16 = true := by decide
  have hset : (putBits data 16 16 1).testBit 16 = true := by rw [← bitOf_testBit, bitOf_putBits_one]
  rw [State.flag, bitOf_testBit, State.rowStored, State.rd_wr_stored_testBit (f := fAny 16 16 .w1s) hlaid (by decide) (by decide) (by decide), hsticky, hset]
  exact storedBit_sticky _

end

/-- Settles O50: refreshes, the scrub, parity, drift, the words that restore and power modules, and training, each by what it leaves. -/
theorem dramUpkeep : Obligations.DramUpkeep := by
  unfold Obligations.DramUpkeep
  intro s c t hc
  refine ⟨fun huse => ⟨fun hdue hrq hfence => ?_, ?_, fun hburst hat => ?_, fun hen hrate => ?_, fun fails since => ?_, fun steps hat => ?_⟩,
    fun who data => ⟨fun hacc => ?_, fun hacc => ?_⟩, fun l temp verify memory full k hstate hbist htest hkind => ?_⟩
  · obtain ⟨u, hrun, hdone, hserved, hdram⟩ := State.trefi_whole (s := s.at t) hc huse hdue hrq hfence
    refine ⟨_, congrArg finish hrun, ?_⟩
    rw [settle_dram, settle_owed, settle_rd, settle_rd, settle_rd, hserved.owed, hserved.words _ (dmcChStat_serve (by decide) (by decide) (by decide)),
      hserved.words _ (dmcChStat_serve (by decide) (by decide) (by decide)), hserved.words _ (dmcChStat_serve (by decide) (by decide) (by decide))]
    exact ⟨hdram, hdone.hidden, hdone.postponed, hdone.forced⟩
  · obtain ⟨howed, hstat⟩ := State.hardBoundary_spec (s := s.at t) hc huse
    refine ⟨_, rfl, ?_⟩
    rw [settle_owed, settle_dram, settle_rd]
    exact ⟨howed, State.hardBoundary_kept.dram.resolve_left (by decide), hstat⟩
  · obtain ⟨howed, hstat⟩ := State.softBoundary_spec (s := s.at t) hc huse hburst hat
    refine ⟨_, rfl, ?_⟩
    rw [settle_owed, settle_dram, settle_rd]
    exact ⟨howed, State.softBoundary_kept.dram.resolve_left (by decide), hstat⟩
  · refine ⟨fun bit => ?_, fun bit hclean => ?_⟩
    · have hrun : (s.at t).scrubRead c 0 bit = (s.at t).draw.2.scrubMoved c (s.chan c).scrub (decide (s.chanCap c ≤ ((s.chan c).scrub + 1) * 64)) :=
        State.scrubRead_clean (s := s.at t) hc huse hen hrate bit
      obtain ⟨hdmc, hdram, hpoison, hwords, hstat⟩ := (s.at t).draw.2.scrubMoved_spec c (s.chan c).scrub (decide (s.chanCap c ≤ ((s.chan c).scrub + 1) * 64))
      have hquiet : ((s.at t).scrubRead c 0 bit).ceWatch s c = (s.at t).scrubRead c 0 bit := State.ceWatch_quiet (by
        rw [hrun, State.flag]
        exact congrArg (fun w => bitOf w 7) (hwords _ scrubWord_limit))
      refine ⟨_, congrArg finish (hquiet.trans hrun), ?_⟩
      rw [settle_dram, settle_poison, settle_dmc, settle_rd, hdram, hpoison, hdmc, hstat]
      refine ⟨rfl, fun _ => ⟨rfl, State.wordsBut_settle hwords, ?_, ?_⟩⟩
      · simp only [decide_eq_true_eq]
        rfl
      · simp only [decide_eq_true_eq]
        rfl
    · obtain ⟨hpoison, hevent, hlimit⟩ := State.scrubRead_again (s := s.at t) hc huse hen hrate bit hclean
      refine ⟨_, congrArg finish (State.ceWatch_quiet hlimit), ?_⟩
      rw [settle_linePoisoned, settle_dram, settle_flag]
      exact ⟨hpoison, State.scrubRead_kept.dram.resolve_left (by decide), hevent⟩
  · have hdone := State.parityWhole_done (s := s.at t) (fails := fails) (since := since) hc huse
    obtain ⟨hevent, hcount, hcleared, hagain, hstop⟩ := hdone
    refine ⟨_, (rfl : _ = finish ((s.at t).parityWhole c fails since)), ?_⟩
    rw [settle_flag, settle_flag, settle_rd, settle_chan, settle_dram, settle_svc, settle_unitState]
    exact ⟨hevent, hcount, State.sent_out hcleared, State.sent_out hagain, hstop, fun h => State.parityWhole_quiet (s := s.at t) hc huse h,
      fun h => State.parityWhole_fences (s := s.at t) hc huse h⟩
  · refine ⟨_, congrArg finish (State.driftCheck_due (s := s.at t) hc huse hat steps), ?_⟩
    rw [settle_regs, settle_dmc]
    exact ⟨rfl, rfl⟩
  · obtain ⟨hlaid, hwrite⟩ := State.writeWord_dmcTrain hacc
    refine ⟨_, congrArg finish hwrite, ?_⟩
    rw [settle_flag, settle_dmc]
    refine ⟨?_, State.rowStored_dmc, State.wordsBut_settle (State.rowStored_words _ _ _ _)⟩
    exact dmcTrain_restore hlaid data.toNat
  · obtain ⟨hlaid, hwrite⟩ := State.writeWord_dmcChCtrl hc hacc
    have hbit : (s.rowStored (Reg.dmcChCtrl c) dmcChCtrlRow data.toNat).flag (Reg.dmcChCtrl c) 8 = bitOf data.toNat 8 := by
      rw [State.flag, bitOf_testBit, State.rowStored, State.rd_wr_stored_testBit (f := fAny 8 8 .rw) hlaid (by decide) (by decide) (by decide), bitOf_testBit]
      rfl
    have hwords := State.rowStored_words s (Reg.dmcChCtrl c) dmcChCtrlRow data.toNat
    have hbyte : ∀ a, (s.rowStored (Reg.dmcChCtrl c) dmcChCtrlRow data.toNat).byte a = s.byte a := fun _ => rfl
    refine ⟨_, congrArg finish hwrite, ?_⟩
    generalize s.rowStored (Reg.dmcChCtrl c) dmcChCtrlRow data.toNat = w at hbit hwords hbyte ⊢
    by_cases hmoves : s.flag (Reg.dmcChCtrl c) 8 = bitOf data.toNat 8
    · rw [if_neg (not_not_intro hmoves), settle_flag]
      simp only [settle_byte]
      exact ⟨hbit, State.wordsBut_settle hwords, fun a _ => hbyte a, fun hon hoff => absurd (hon.symm.trans (hmoves.trans hoff)) (by decide), fun h => absurd hmoves h⟩
    · obtain ⟨hrd, hpin, hout, hin⟩ := w.powerSet_spec c (bitOf data.toNat 8)
      rw [if_pos hmoves, settle_flag]
      simp only [settle_byte]
      refine ⟨?_, State.wordsBut_settle fun a ha => (hrd a).trans (hwords a ha), fun a ha => (hout a ha).trans (hbyte a), fun _ hoff => hin hoff, fun _ => State.sent_out hpin⟩
      rw [State.flag, hrd, ← State.flag, hbit]
  · have hdom : s.domOn (unitDomain (119 + c)) = true := by
      by_contra h
      rw [State.unitState, if_neg h] at hstate
      exact absurd hstate (by decide)
    have hresult : ∀ start, (s.at t).trainResult c l temp verify memory full start = s.trainResult c l temp verify memory full start := fun _ => rfl
    have hrun := State.dramTraining_eq (s := s.at t) (l := l) (temp := temp) (verify := verify) (memory := memory) (full := full) hc hstate htest hkind
    dsimp only at hrun ⊢
    rw [hresult] at hrun
    have hcode := s.trainResult_code c l temp verify memory full (k == 5)
    generalize s.trainResult c l temp verify memory full (k == 5) = r at hrun hcode ⊢
    obtain ⟨hsvc, hsame, htest', hbist', hdmc, hdimms, hdram⟩ := (s.at t).trainNoted_spec c hcode
    generalize (s.at t).trainNoted c r.1 = w at hrun hsvc hsame htest' hbist' hdmc hdimms hdram
    have hkept : WordsKept (· ≠ Reg.dmcChSvc c) s w := fun a ha => hsame a ha
    have hwdom : w.domOn (unitDomain (119 + c)) = true := by
      rw [hkept.domOn (by unfold Reg.dmcChSvc Reg.pwrDomStat0; omega) (by unfold Reg.dmcChSvc Reg.pwrDomStat1; omega), hdom]
    have hwbist : 119 + c ∉ w.svc.bist := hbist' ▸ hbist
    refine ⟨_, congrArg finish hrun, ?_⟩
    rw [settle_testOf, settle_rd, settle_unitState, settle_dimms, settle_chan, settle_flag, settle_flag, settle_dram]
    simp only [settle_byte]
    by_cases hl : l = []
    · obtain ⟨hshown, hdimms'⟩ := w.trainEmpty_shown hc
      obtain ⟨htested, hcoded, hunit⟩ := hshown.ended hc hwbist htest' hwdom (k == 5)
      have hgone := State.trainNext_gone (s := w.trainEmpty c) (n := 119 + c) (k == 5) (by rw [hshown.svc]; exact hwbist)
      rw [State.trainShown, if_pos hl]
      exact ⟨htested, hcoded.trans hsvc, fun _ => ⟨hunit, hgone.dimms.trans (hdimms'.trans (by rw [hdimms]; rfl))⟩, fun h => absurd hl h, fun h => absurd hl h⟩
    · rcases hok : r.2.1 with _ | _
      · obtain ⟨hshown, hdimms', hevent, hdram'⟩ := w.trainFailed_shown c r.1
        obtain ⟨htested, hcoded, hunit⟩ := hshown.ended hc hwbist htest' hwdom (k == 5)
        have hgone := State.trainNext_gone (s := w.trainFailed c r.1) (n := 119 + c) (k == 5) (by rw [hshown.svc]; exact hwbist)
        rw [State.trainShown, if_neg hl, hok, if_neg Bool.false_ne_true]
        exact ⟨htested, hcoded.trans hsvc, fun h => absurd h hl, fun _ h => absurd h (by decide), fun _ _ => ⟨hunit, hgone.dimms.trans (hdimms'.trans hdimms),
          hgone.event 1 (by decide) hevent, hgone.dram.trans (hdram'.trans hdram)⟩⟩
      · obtain ⟨hshown, hdimms', hrecord, hflag, hbytes⟩ := w.trainUp_shown hc l r.2.2.1 temp r.2.2.2
        obtain ⟨htested, hcoded, hunit⟩ := hshown.ended hc hwbist htest' hwdom (k == 5)
        have hgone := State.trainNext_gone (s := w.trainUp c l r.2.2.1 temp r.2.2.2) (n := 119 + c) (k == 5) (by rw [hshown.svc]; exact hwbist)
        rw [State.trainShown, if_neg hl, hok, if_pos rfl]
        refine ⟨htested, hcoded.trans hsvc, fun h => absurd h hl, fun _ _ => ⟨hunit, hgone.dimms.trans (hdimms'.trans (by rw [hdimms]; rfl)), fun h => ?_,
          hgone.stat _ (by split <;> omega) hflag, fun a ha => (State.byte_of_dram hgone.dram a).trans (hbytes a ha)⟩, fun _ h => absurd h (by decide)⟩
        rw [State.chan_of_dmc hgone.dmc]
        exact hrecord (by rw [hdmc]; exact h)

end Sys2Proof.Machine

/-! SUPPORT. The words of the serial lanes, for O51 and O53 (R429-R441). -/

namespace Sys2Proof.Machine

section
variable {s t u : State} {n k v i : Nat}

/-! ### Where the words of a lane lie (R441) -/

/-- The words that the checker of lane `n` does not show. -/
def outsidePrbs (n a : Nat) : Prop := a ≠ Reg.lnkLPrbsErr n ∧ a ≠ Reg.lnkLPrbsBits n

/-- The words that STATE of lane `n` does not concern. -/
def outsideState (n a : Nat) : Prop := outsidePrbs n a ∧ a ≠ Reg.lnkLStatus n ∧ a ≠ Reg.lnkReady (n / 32)

/-- The words that a bring-up of lane `n` leaves alone. -/
def outsideRun (n a : Nat) : Prop := outsideState n a ∧ a ≠ Reg.lnkLCtrl n ∧ a ≠ Reg.lnkLTxeqNow n ∧ a ≠ Reg.lnkLRxeq0Now n ∧ a ≠ Reg.lnkLRxeq1Now n

/-- The words outside the LNK pages. -/
def outsideLnk (a : Nat) : Prop := a < 0x160000 ∨ 0x165000 ≤ a

theorem outsideLnk.run (hn : n < 84) {a : Nat} (ha : outsideLnk a) : outsideRun n a := by
  unfold outsideLnk at ha
  unfold outsideRun outsideState outsidePrbs Reg.lnkLPrbsErr Reg.lnkLPrbsBits Reg.lnkLStatus Reg.lnkReady Reg.lnkLCtrl Reg.lnkLTxeqNow Reg.lnkLRxeq0Now Reg.lnkLRxeq1Now
  omega

theorem lnkReady_ne_status : Reg.lnkReady (n / 32) ≠ Reg.lnkLStatus n := by
  unfold Reg.lnkReady Reg.lnkLStatus
  omega

theorem lnkReady_outsidePrbs (hn : n < 84) : outsidePrbs n (Reg.lnkReady (n / 32)) := by
  unfold outsidePrbs Reg.lnkReady Reg.lnkLPrbsErr Reg.lnkLPrbsBits
  omega

theorem lnkLStatus_outsidePrbs : outsidePrbs n (Reg.lnkLStatus n) := by
  unfold outsidePrbs Reg.lnkLStatus Reg.lnkLPrbsErr Reg.lnkLPrbsBits
  omega

theorem lnkLCtrl_outsideState (hn : n < 84) : outsideState n (Reg.lnkLCtrl n) := by
  unfold outsideState outsidePrbs Reg.lnkLCtrl Reg.lnkLStatus Reg.lnkReady Reg.lnkLPrbsErr Reg.lnkLPrbsBits
  omega

theorem lnkEq_outsideState (hn : n < 84) :
    outsideState n (Reg.lnkLTxeqNow n) ∧ outsideState n (Reg.lnkLRxeq0Now n) ∧ outsideState n (Reg.lnkLRxeq1Now n) := by
  unfold outsideState outsidePrbs Reg.lnkLTxeqNow Reg.lnkLRxeq0Now Reg.lnkLRxeq1Now Reg.lnkLStatus Reg.lnkReady Reg.lnkLPrbsErr Reg.lnkLPrbsBits
  omega

/-! ### What a lane holds beside its words -/

/-- Every lane is as before but for the instant at which its checker aligned. -/
structure LanesChecked (s t : State) : Prop where
  count : t.lanes.length = s.lanes.length
  lane : ∀ m, ∃ c, t.lane m = { s.lane m with checkAt := c }

theorem LanesChecked.of_lanes (h : t.lanes = s.lanes) : LanesChecked s t :=
  ⟨congrArg _ h, fun m => ⟨(s.lane m).checkAt, by rw [State.lane, State.lane, h]⟩⟩

theorem LanesChecked.refl (s : State) : LanesChecked s s := .of_lanes rfl

theorem LanesChecked.trans (h : LanesChecked s t) (k : LanesChecked t u) : LanesChecked s u := by
  refine ⟨k.count.trans h.count, fun m => ?_⟩
  obtain ⟨c, hc⟩ := h.lane m
  obtain ⟨d, hd⟩ := k.lane m
  exact ⟨d, by rw [hd, hc]⟩

theorem LanesChecked.tries (h : LanesChecked s t) (m : Nat) : (t.lane m).tries = (s.lane m).tries := by
  obtain ⟨c, hc⟩ := h.lane m
  rw [hc]

theorem State.lane_setLane_same (x : Lane) (hn : n < s.lanes.length) : (s.setLane n x).lane n = x := by
  rw [State.lane, State.setLane]
  simp [hn]

theorem State.lane_setLane_ne (x : Lane) {m : Nat} (h : m ≠ n) : (s.setLane n x).lane m = s.lane m := by
  rw [State.lane, State.setLane, State.lane]
  simp [List.getD_eq_getElem?_getD, List.getElem?_set_ne (Ne.symm h)]

theorem State.setLane_count (s : State) (n : Nat) (x : Lane) : (s.setLane n x).lanes.length = s.lanes.length := List.length_set

theorem LanesChecked.check (s : State) (n : Nat) (c : Option Nat) : LanesChecked s (s.setLane n { s.lane n with checkAt := c }) := by
  refine ⟨s.setLane_count n _, fun m => ?_⟩
  by_cases h : m = n
  · subst h
    by_cases hm : m < s.lanes.length
    · exact ⟨c, State.lane_setLane_same _ hm⟩
    · refine ⟨(s.lane m).checkAt, ?_⟩
      rw [State.lane, State.lane, State.setLane]
      simp [Nat.le_of_not_lt hm]
  · exact ⟨(s.lane m).checkAt, State.lane_setLane_ne _ h⟩

theorem LanesChecked.ite {c : Prop} [Decidable c] (ht : LanesChecked s t) (hu : LanesChecked s u) : LanesChecked s (if c then t else u) := by
  split
  exacts [ht, hu]

/-! ### The checker and STATE of a lane (R432, R434) -/

theorem State.prbsStop_lane (s : State) (n : Nat) : WordsKept (outsidePrbs n) s (s.prbsStop n) ∧ LanesChecked s (s.prbsStop n) := by
  unfold State.prbsStop
  split
  · exact ⟨.regs (.wr (.wr (.refl _ s) fun h => h.1 rfl) fun h => h.2 rfl) rfl, .trans (t := (s.wr _ _).wr _ _) (.of_lanes rfl) (.check _ n none)⟩
  · exact ⟨.refl _ s, .refl s⟩

theorem State.prbsStart_lane (s : State) (n : Nat) : WordsKept (outsidePrbs n) s (s.prbsStart n) ∧ LanesChecked s (s.prbsStart n) :=
  ⟨.regs (.wr (.wr (.refl _ s) fun h => h.1 rfl) fun h => h.2 rfl) rfl, .trans (t := (s.wr _ _).wr _ _) (.of_lanes rfl) (.check _ n (some s.now))⟩

theorem State.prbsFollow_lane (s : State) (n : Nat) : WordsKept (outsidePrbs n) s (s.prbsFollow n) ∧ LanesChecked s (s.prbsFollow n) :=
  ⟨.ite (s.prbsStop_lane n).1 (.ite (s.prbsStart_lane n).1 (.refl _ s)), .ite (s.prbsStop_lane n).2 (.ite (s.prbsStart_lane n).2 (.refl s))⟩

/-- STATE of lane `n` has become `v`, and no other bit of its status has moved. -/
structure LaneShown (n v : Nat) (s t : State) : Prop where
  words : WordsKept (outsideState n) s t
  state : t.laneState n = v % 8
  ready : t.flag (Reg.lnkReady (n / 32)) (n % 32) = (v == 2)
  flags : ∀ i, 3 ≤ i → t.flag (Reg.lnkLStatus n) i = s.flag (Reg.lnkLStatus n) i
  fields : ∀ hi lo, 3 ≤ lo → lo ≤ hi → t.fld (Reg.lnkLStatus n) hi lo = s.fld (Reg.lnkLStatus n) hi lo
  lanes : LanesChecked s t

theorem State.setLaneState_shown (hn : n < 84) (s : State) (v : Nat) : LaneShown n v s (s.setLaneState n v) := by
  obtain ⟨hwords, hlanes⟩ := ((s.setFld (Reg.lnkLStatus n) 2 0 v).setFlag (Reg.lnkReady (n / 32)) (n % 32) (v == 2)).prbsFollow_lane n
  have hne : Reg.lnkLStatus n ≠ Reg.lnkReady (n / 32) := lnkReady_ne_status.symm
  refine ⟨.trans (.setFlag (.setFld (.refl _ s) fun h => h.2.1 rfl) fun h => h.2.2 rfl) fun a ha => hwords a ha.1, ?_, ?_, fun i hi => ?_, fun hi lo hlo hle => ?_,
    .trans (.of_lanes ((State.setFlag_lanes ..).trans (State.setFld_lanes ..))) hlanes⟩
  · rw [State.laneState]
    refine (hwords.fld lnkLStatus_outsidePrbs 2 0).trans ?_
    rw [State.fld, State.rd_setFlag_ne _ _ _ hne, ← State.fld, State.fld_setFld_same _ _ _ _ _ (by decide) (by decide)]
    rfl
  · refine (hwords.flag (lnkReady_outsidePrbs hn) _).trans ?_
    rw [State.flag_setFlag_same _ _ _ _ (Nat.mod_lt _ (by decide))]
  · refine (hwords.flag lnkLStatus_outsidePrbs i).trans ?_
    rw [State.flag, State.rd_setFlag_ne _ _ _ hne, ← State.flag, State.flag_setFld_other _ _ _ _ _ _ (by decide) (by decide) (.inr (by omega))]
  · refine (hwords.fld lnkLStatus_outsidePrbs hi lo).trans ?_
    rw [State.fld, State.rd_setFlag_ne _ _ _ hne, ← State.fld, State.fld_setFld_other _ _ _ _ _ _ _ (by decide) (by decide) hle (.inr (by omega))]

theorem State.scanDrop_spec (s : State) (n : Nat) : WordsKept (fun a => a ≠ Reg.lnkLStatus n) s (s.scanDrop n) ∧ (s.scanDrop n).flag (Reg.lnkLStatus n) 16 = false ∧
    (∀ i, i < 16 → (s.scanDrop n).flag (Reg.lnkLStatus n) i = s.flag (Reg.lnkLStatus n) i) ∧ (s.scanDrop n).lanes = s.lanes := by
  unfold State.scanDrop
  split
  · refine ⟨.setFlag (.setFlag (.refl _ s) fun h => h rfl) fun h => h rfl, ?_, fun i hi => ?_, (State.setFlag_lanes ..).trans (State.setFlag_lanes ..)⟩
    · rw [State.flag_setFlag_other _ _ _ _ _ (by decide) (by decide), State.flag_setFlag_same _ _ _ _ (by decide)]
    · rw [State.flag_setFlag_other _ _ _ _ _ (by decide) (by omega), State.flag_setFlag_other _ _ _ _ _ (by decide) (by omega)]
  · next h => exact ⟨.refl _ s, by simpa using h, fun _ _ => rfl, rfl⟩

/-! ### A bring-up (R431) -/

theorem State.laneRound_spec (s : State) (n : Nat) (x : Int) : WordsKept (fun a => a ≠ Reg.lnkLStatus n) s (s.laneRound n x) ∧
    (s.laneRound n x).lanes.length = s.lanes.length ∧ ∃ w, (s.laneRound n x).lanes = s.lanes.set n { s.lane n with target := w } ∧ (s.flag Reg.lnkCtrl 0 = false → w = s.eqRegs n) := by
  unfold State.laneRound
  split
  · next w hflag _ =>
    exact ⟨.setFlag (.regs (.refl _ s) rfl) fun h => h rfl, (congrArg _ (State.setFlag_lanes ..)).trans (s.setLane_count ..), w, State.setFlag_lanes .., fun h => by rw [hflag] at h; cases h⟩
  · exact ⟨.setFlag (.regs (.refl _ s) rfl) fun h => h rfl, (congrArg _ (State.setFlag_lanes ..)).trans (s.setLane_count ..), _, State.setFlag_lanes .., fun _ => rfl⟩
  · exact ⟨.setFlag (.regs (.refl _ s) rfl) fun h => h rfl, (congrArg _ (State.setFlag_lanes ..)).trans (s.setLane_count ..), _, State.setFlag_lanes .., fun _ => rfl⟩

/-- What a bring-up of lane `n` leaves, whichever values it begins with. -/
structure LaneRan (n : Nat) (s t : State) : Prop where
  words : WordsKept (outsideRun n) s t
  state : t.laneState n = 1
  ready : t.flag (Reg.lnkReady (n / 32)) (n % 32) = false
  locked : t.flag (Reg.lnkLStatus n) 3 = false
  freed : s.laneInUse n = true → t.fld (Reg.lnkLCtrl n) 1 0 = 0 ∧ t.fld (Reg.lnkLCtrl n) 5 4 = 0
  count : t.lanes.length = s.lanes.length
  tries : ∀ m, (t.lane m).tries = (s.lane m).tries

theorem State.laneFreed_spec (s : State) (n : Nat) : WordsKept (fun a => a ≠ Reg.lnkLCtrl n) s (s.laneFreed n) ∧ (s.laneFreed n).lanes = s.lanes ∧
    (s.laneInUse n = true → (s.laneFreed n).fld (Reg.lnkLCtrl n) 1 0 = 0 ∧ (s.laneFreed n).fld (Reg.lnkLCtrl n) 5 4 = 0) := by
  refine ⟨.ite (.setFld (.setFld (.refl _ s) fun h => h rfl) fun h => h rfl) (.refl _ s), State.laneFreed_kept.lanes.resolve_left (by decide), fun huse => ?_⟩
  rw [State.laneFreed, if_pos huse]
  constructor
  · rw [State.fld_setFld_other _ _ _ _ _ _ _ (by decide) (by decide) (by decide) (.inl (by decide)), State.fld_setFld_same _ _ _ _ _ (by decide) (by decide)]
    rfl
  · rw [State.fld_setFld_same _ _ _ _ _ (by decide) (by decide)]
    rfl

/-- Every lane is as before but for its targets. -/
theorem LaneTargets.tries {w : List Nat} (h : t.lanes = s.lanes.set n { s.lane n with target := w }) (m : Nat) : (t.lane m).tries = (s.lane m).tries := by
  have hset : t.lane m = (s.setLane n { s.lane n with target := w }).lane m := by rw [State.lane, h]; rfl
  rw [hset]
  by_cases hm : m = n
  · subst hm
    by_cases hlen : m < s.lanes.length
    · rw [State.lane_setLane_same _ hlen]
    · rw [State.lane, State.lane, State.setLane]
      simp [Nat.le_of_not_lt hlen]
  · rw [State.lane_setLane_ne _ hm]

theorem State.setEqNow_words (s : State) (n : Nat) (w : List Nat) :
    WordsKept (fun a => a ≠ Reg.lnkLTxeqNow n ∧ a ≠ Reg.lnkLRxeq0Now n ∧ a ≠ Reg.lnkLRxeq1Now n) s (s.setEqNow n w) :=
  .wr (.wr (.wr (.refl _ s) fun h => h.1 rfl) fun h => h.2.1 rfl) fun h => h.2.2 rfl

theorem State.eqNow_setEqNow (s : State) (n a b c : Nat) : (s.setEqNow n [a, b, c]).eqNow n = [a % 2 ^ 32, b % 2 ^ 32, c % 2 ^ 32] := by
  have h0 : Reg.lnkLTxeqNow n ≠ Reg.lnkLRxeq0Now n ∧ Reg.lnkLTxeqNow n ≠ Reg.lnkLRxeq1Now n ∧ Reg.lnkLRxeq0Now n ≠ Reg.lnkLRxeq1Now n := by
    unfold Reg.lnkLTxeqNow Reg.lnkLRxeq0Now Reg.lnkLRxeq1Now
    omega
  rw [State.eqNow, State.setEqNow, State.rd_wr_ne _ _ h0.2.1, State.rd_wr_ne _ _ h0.1, State.rd_wr_same, State.rd_wr_ne _ _ h0.2.2, State.rd_wr_same, State.rd_wr_same]
  rfl

/-- The words that loading the values of a source leaves alone. -/
def outsideLoad (n a : Nat) : Prop := a ≠ Reg.lnkLStatus n ∧ a ≠ Reg.lnkLTxeqNow n ∧ a ≠ Reg.lnkLRxeq0Now n ∧ a ≠ Reg.lnkLRxeq1Now n

theorem State.laneLoaded_spec (s : State) (n : Nat) : WordsKept (outsideLoad n) s (s.laneLoaded n) ∧ (s.laneLoaded n).lanes.length = s.lanes.length ∧
    (∀ m, ((s.laneLoaded n).lane m).tries = (s.lane m).tries) ∧
    (lanePcie n = false → s.flag Reg.lnkCtrl 0 = false → n < s.lanes.length → (s.laneLoaded n).eqNow n = s.eqRegs n) := by
  obtain ⟨hwords, hcount, w, hlanes, hregs⟩ := s.laneRound_spec n (s.laneTemp n)
  unfold State.laneLoaded
  extract_lets r x
  have hset : ∀ l, (r.setEqNow n l).lanes = r.lanes := fun l => rfl
  refine ⟨fun a ha => (r.setEqNow_words n _ a ha.2).trans (hwords a ha.1), (congrArg _ (hset _)).trans hcount, fun m => ?_, fun hpcie hsource hlen => ?_⟩
  · exact (congrArg Lane.tries (congrArg (fun l => l.getD m Lane.reset) (hset _))).trans (LaneTargets.tries hlanes m)
  · have hx : x = s.eqRegs n := by
      show (r.lane n).target = _
      rw [State.lane, hlanes, ← hregs hsource]
      simp [hlen]
    rw [hpcie, if_neg (by decide), hx, State.eqRegs, State.eqNow_setEqNow, Nat.mod_eq_of_lt (s.rd_lt _), Nat.mod_eq_of_lt (s.rd_lt _), Nat.mod_eq_of_lt (s.rd_lt _)]

theorem State.laneIdle_regs (s : State) (n : Nat) : (s.laneIdle n).regs = s.regs ∧ (s.laneIdle n).lanes = s.lanes := by
  unfold State.laneIdle
  split <;> exact ⟨rfl, rfl⟩

theorem State.laneBegun_spec (hn : n < 84) (s : State) : WordsKept (outsideState n) s (s.laneBegun n) ∧ (s.laneBegun n).laneState n = 1 ∧
    (s.laneBegun n).flag (Reg.lnkReady (n / 32)) (n % 32) = false ∧ (s.laneBegun n).flag (Reg.lnkLStatus n) 3 = false ∧ LanesChecked s (s.laneBegun n) := by
  obtain ⟨hwords, -, -, hlanes⟩ := s.scanDrop_spec n
  have hshown := ((s.scanDrop n).setFlag (Reg.lnkLStatus n) 3 false).setLaneState_shown hn 1
  refine ⟨.trans (.setFlag (fun a ha => hwords a ha.2.1) fun h => h.2.1 rfl) hshown.words, hshown.state, hshown.ready, ?_,
    .trans (.of_lanes ((State.setFlag_lanes ..).trans hlanes)) hshown.lanes⟩
  rw [State.laneBegun, hshown.flags 3 (by decide), State.flag_setFlag_same _ _ _ _ (by decide)]

theorem State.laneRun_ran (hn : n < 84) (s : State) (load : Bool) : LaneRan n s (s.laneRun n load) := by
  obtain ⟨hfwords, hflanes, hfreed⟩ := s.laneFreed_spec n
  obtain ⟨hlwords, hlcount, hltries, -⟩ := (s.laneFreed n).laneLoaded_spec n
  have hctrl : outsideLoad n (Reg.lnkLCtrl n) := by
    unfold outsideLoad Reg.lnkLCtrl Reg.lnkLStatus Reg.lnkLTxeqNow Reg.lnkLRxeq0Now Reg.lnkLRxeq1Now
    omega
  rw [State.laneRun_eq]
  have hmid : ∃ m, (if load then (s.laneFreed n).laneLoaded n else s.laneFreed n) = m ∧ WordsKept (outsideLoad n) (s.laneFreed n) m ∧
      m.lanes.length = s.lanes.length ∧ ∀ k, (m.lane k).tries = (s.lane k).tries := by
    refine ⟨_, rfl, .ite hlwords (.refl _ _), ?_, fun k => ?_⟩
    · split
      exacts [hlcount.trans (congrArg _ hflanes), congrArg _ hflanes]
    · have hk : (s.laneFreed n).lane k = s.lane k := by rw [State.lane, hflanes, ← State.lane]
      split
      · rw [hltries, hk]
      · rw [hk]
  obtain ⟨m, hm, hwords, hcount, htries⟩ := hmid
  rw [hm]
  obtain ⟨hbwords, hbstate, hbready, hblocked, hblanes⟩ := m.laneBegun_spec hn
  obtain ⟨hregs, hidle⟩ := (m.laneBegun n).laneIdle_regs n
  have hkept : WordsKept (fun _ => True) (m.laneBegun n) ((m.laneBegun n).laneIdle n) := .regs (.refl _ _) hregs
  refine ⟨fun a ha => ?_, (hkept.fld trivial 2 0).trans hbstate, (hkept.flag trivial _).trans hbready, (hkept.flag trivial _).trans hblocked, fun huse => ?_,
    (congrArg _ hidle).trans (hblanes.count.trans hcount), fun k => ?_⟩
  · obtain ⟨hstate, hne, htx, hrx0, hrx1⟩ := ha
    exact (hkept a trivial).trans ((hbwords a hstate).trans ((hwords a ⟨hstate.2.1, htx, hrx0, hrx1⟩).trans (hfwords a hne)))
  · have hfld : ∀ hi lo, ((m.laneBegun n).laneIdle n).fld (Reg.lnkLCtrl n) hi lo = (s.laneFreed n).fld (Reg.lnkLCtrl n) hi lo := fun hi lo =>
      (hkept.fld trivial hi lo).trans ((hbwords.fld (lnkLCtrl_outsideState hn) hi lo).trans (hwords.fld hctrl hi lo))
    rw [hfld, hfld]
    exact hfreed huse
  · rw [State.lane, hidle, ← State.lane, hblanes.tries, htries]

theorem State.laneStart_ran (hn : n < 84) (s : State) : LaneRan n (s.setLane n { s.lane n with tries := 0 }) (s.laneStart n) := State.laneRun_ran hn _ true

theorem LaneRan.outside (h : LaneRan n s t) (hn : n < 84) : WordsKept outsideLnk s t := fun a ha => h.words a (ha.run hn)

theorem State.laneStart_words (hn : n < 84) (s : State) : WordsKept outsideLnk s (s.laneStart n) := (s.laneStart_ran hn).outside hn

theorem State.laneEnable_words (s : State) (n : Nat) : WordsKept outsideLnk s (s.laneEnable n) :=
  .iteOf (fun h => .ite (s.laneStart_words h.1) (.ite (s.laneStart_words h.1) (.refl _ s))) fun _ => .refl _ s

theorem State.laneSweep_outside (s : State) : WordsKept outsideLnk s s.laneSweep := by
  refine .foldl (.refl _ s) fun r n hmem hr => ?_
  have hn : n < 84 := List.mem_range.1 hmem
  have hrun : ∀ {a}, outsideLnk a → outsideState n a := fun ha => (ha.run hn).1
  refine .ite (.setFlag (hr.trans ?_) fun h => (hrun h).2.1 rfl) hr
  exact fun a ha => (((r.scanDrop n).setLaneState_shown hn 0).words a (hrun ha)).trans ((r.scanDrop_spec n).1 a (hrun ha).2.1)

end

end Sys2Proof.Machine

/-! SUPPORT. Drives that come and go, for O51 (R416, R417, R428). -/

namespace Sys2Proof.Machine

section
variable {s t u : State} {d k i data : Nat} {who : Requester}

/-! ### The drives in the state -/

theorem State.drive_of_nvs (h : t.nvs = s.nvs) (d : Nat) : t.drive d = s.drive d := by rw [State.drive, State.drive, h]

theorem settle_drive (s : State) (d : Nat) : (settle s).drive d = s.drive d := State.drive_of_nvs (settle_nvs s) d

theorem State.drive_setDrive_same (x : Drive) (hd : d < s.nvs.drives.length) : (s.setDrive d x).drive d = x := by
  rw [State.drive, State.setDrive]
  simp [hd]

theorem State.drive_setDrive_ne (x : Drive) (h : k ≠ d) : (s.setDrive d x).drive k = s.drive k := by
  rw [State.drive, State.setDrive, State.drive]
  simp [List.getD_eq_getElem?_getD, List.getElem?_set_ne (Ne.symm h)]

theorem State.setDrive_count (s : State) (d : Nat) (x : Drive) : (s.setDrive d x).nvs.drives.length = s.nvs.drives.length := List.length_set

theorem State.setDrive_rd (s : State) (d : Nat) (x : Drive) (a : Nat) : (s.setDrive d x).rd a = s.rd a := rfl

theorem State.drive_in_range (h : s.drive d ≠ Drive.reset) : d < s.nvs.drives.length := by
  by_contra hd
  exact h (by rw [State.drive]; simp [Nat.le_of_not_lt hd])

theorem State.drive_present_lt (h : (s.drive d).present = true) : d < s.nvs.drives.length :=
  State.drive_in_range fun e => by rw [e] at h; cases h

theorem State.drive_ready_lt (h : (s.drive d).ready = true) : d < s.nvs.drives.length :=
  State.drive_in_range fun e => by rw [e] at h; cases h

/-- The words outside the NVS pages, the LNK pages and the log's. -/
def outsideNvs (a : Nat) : Prop := (a < 0x150000 ∨ 0x153000 ≤ a) ∧ outsideLnk a ∧ a ≠ Reg.svcLogStaged ∧ a ≠ 0x1D0010

theorem outsideNvs_units : outsideNvs Reg.pwrDomStat0 ∧ outsideNvs Reg.pwrDomStat1 ∧ ∀ n, n < 171 → outsideNvs (Reg.svcUnit n) := by
  refine ⟨?_, ?_, fun n hn => ?_⟩ <;> unfold outsideNvs outsideLnk Reg.svcLogStaged
  · decide
  · decide
  · unfold Reg.svcUnit; omega

theorem WordsKept.driveUnit (h : WordsKept outsideNvs s t) {n : Nat} (hn : n < 171) : t.unitState n = s.unitState n :=
  h.unitState outsideNvs_units.1 outsideNvs_units.2.1 (outsideNvs_units.2.2 n hn)

theorem State.unitState_setUnit (hd : d < 2) (hon : s.domOn 30 = true) (v : Nat) : (s.setUnit (131 + d) v).unitState (131 + d) = v % 8 := by
  have hdom : unitDomain (131 + d) = 30 := by interval_cases d <;> rfl
  have hkeep : (s.setUnit (131 + d) v).domOn 30 = true := by
    rw [← hon]
    exact WordsKept.domOn (K := fun a => a ≠ Reg.svcUnit (131 + d)) (.setFld (.refl _ s) fun h => h rfl) (by unfold Reg.pwrDomStat0 Reg.svcUnit; omega)
      (by unfold Reg.pwrDomStat1 Reg.svcUnit; omega) 30
  rw [State.unitState, hdom, if_pos hkeep, if_neg (by omega), State.setUnit, State.fld_setFld_same _ _ _ _ _ (by decide) (by decide)]
  rfl

/-- The words of a drive lie on its page. -/
theorem nvsD_inside (hd : d < 2) (a : Nat) (ha : a = Reg.nvsDStatus d ∨ a = Reg.nvsDCap d ∨ a = Reg.nvsDHealth d ∨ a = nvsDBase d + 0x10 ∨ (∃ j, j < 5 ∧ a = Reg.nvsDStat d j)) :
    ¬ outsideNvs a := by
  unfold outsideNvs
  rcases ha with h | h | h | h | ⟨j, hj, h⟩ <;> subst h
  · unfold Reg.nvsDStatus; omega
  · unfold Reg.nvsDCap; omega
  · unfold Reg.nvsDHealth; omega
  · unfold nvsDBase; omega
  · unfold Reg.nvsDStat; omega

/-! ### Metadata and INIT (R418, R428) -/

/-- A metadata write names the segments of its drive and changes nothing else of the store. -/
theorem State.metaWrite_spec (s : State) (d : Nat) (nums : List Nat) :
    ∃ c, (s.metaWrite d nums).nvs = { s.nvs with drives := s.nvs.drives.set d { s.drive d with copies := c, nums := nums } } :=
  ⟨_, (State.add_nvs ..).trans rfl⟩

theorem State.metaWrite_regs (s : State) (d : Nat) (nums : List Nat) : s.wordsBut (s.metaWrite d nums) [Reg.nvsDStat d 1] :=
  State.wordsBut_add (fun _ _ => rfl) (List.mem_singleton_self _)

theorem State.metaWrite_drive (s : State) (nums : List Nat) (hd : d < s.nvs.drives.length) :
    ((s.metaWrite d nums).drive d).nums = nums ∧ ((s.metaWrite d nums).drive d).ready = (s.drive d).ready := by
  obtain ⟨c, hc⟩ := s.metaWrite_spec d nums
  rw [State.drive, hc]
  simp [hd]

theorem nvsDStatus_ne_stat : Reg.nvsDStatus d ∉ [Reg.nvsDStat d 1] := by
  simp only [List.mem_singleton, Reg.nvsDStatus, Reg.nvsDStat]
  omega

/-- What INIT leaves of drive `d`. -/
structure DriveEmptied (d : Nat) (s t : State) : Prop where
  segs : t.nvs.segs = s.nvs.segs
  code : t.fld (Reg.nvsDStatus d) 10 9 = 1
  shown : t.flag (Reg.nvsDStatus d) 8 = s.flag (Reg.nvsDStatus d) 11
  drive : d < s.nvs.drives.length → (t.drive d).nums = [] ∧ (t.drive d).ready = s.flag (Reg.nvsDStatus d) 11

theorem State.driveInit_emptied (s : State) (d : Nat) : DriveEmptied d s (s.driveInit d) := by
  obtain ⟨c, hc⟩ := (s.setDrive d { s.drive d with ready := s.flag (Reg.nvsDStatus d) 11, initDue := false }).metaWrite_spec d []
  have hdrive := (s.setDrive d { s.drive d with ready := s.flag (Reg.nvsDStatus d) 11, initDue := false }).metaWrite_drive (d := d) []
  have hnvs : (s.driveInit d).nvs = ((s.setDrive d { s.drive d with ready := s.flag (Reg.nvsDStatus d) 11, initDue := false }).metaWrite d []).nvs :=
    (State.setFlag_nvs ..).trans (State.setFld_nvs ..)
  refine ⟨by rw [hnvs, hc]; rfl, ?_, ?_, fun hd => ?_⟩
  · rw [State.driveInit, State.fld_setFlag_other _ _ _ _ _ _ (by decide) (by decide) (.inr (by decide)), State.fld_setFld_same _ _ _ _ _ (by decide) (by decide)]
    rfl
  · rw [State.driveInit, State.flag_setFlag_same _ _ _ _ (by decide), State.flag, State.metaWrite_regs _ _ _ _ nvsDStatus_ne_stat, State.setDrive_rd, ← State.flag]
  · obtain ⟨hnums, hready⟩ := hdrive (by rw [State.setDrive_count]; exact hd)
    rw [State.drive_of_nvs hnvs, hnums, hready, State.drive_setDrive_same _ hd]
    exact ⟨rfl, rfl⟩

/-- The row of CTRL of a drive page, and the page. -/
def nvsDCtrlRow : RegRow := row1 "NVS_D_CTRL" 0x40 0 [fAny 0 0 .w1s]
def nvsDPage (d : Nat) : PageDef := unitPage (page 0x15 (d + 1) 30 7 rowsNvsDrive) d (131 + d)

theorem pageOf_nvsD (hd : d < 2) : pageOf (Reg.nvsDCtrl d) = some (nvsDPage d) := by
  interval_cases d <;> rfl

theorem State.writeWord_nvsDCtrl (hd : d < 2) (hacc : s.accepts who (Reg.nvsDCtrl d) data) (hbit : bitOf data 0 = true) :
    s.writeWord who (Reg.nvsDCtrl d) 4 data = (s.rowStored (Reg.nvsDCtrl d) nvsDCtrlRow data).initStore d := by
  have hoff : Reg.nvsDCtrl d % 0x1000 = 0x40 := by unfold Reg.nvsDCtrl; omega
  refine (State.writeWord_starts (pageOf_nvsD hd) (by unfold Reg.nvsDCtrl; omega) (Nat.le_of_eq hoff.symm) (i := 0) (congrArg (rowFor rowsNvsDrive) hoff) (by decide) hacc ?_ ?_).2
  · rw [hoff]
    have heffect : ∀ v : State, v.blockEffect (nvsDPage d) 0x40 (s.rd (Reg.nvsDCtrl d)) data = v.nvsEffect (d + 1) 0x40 data := fun v => rfl
    rw [heffect, State.nvsEffect, if_neg (Nat.succ_ne_zero d), if_pos ⟨rfl, hbit⟩]
    rfl
  · exact (State.initStore_kept.secu.resolve_left (by decide)).trans State.rowStored_secu

/-! ### A drive comes up (R417, R428) -/

/-- A change of critical warning is an event. -/
def State.healthNoted (s : State) (d health : Nat) : State := if s.fld (Reg.nvsDHealth d) 7 0 = health % 256 then s else s.raise (nvsDBase d) 2

/-- The slot shows a drive's status, capacity and health. -/
def State.statusShown (s : State) (d status cap health : Nat) : State :=
  (((s.wr (Reg.nvsDStatus d) status).healthNoted d health).wr (Reg.nvsDCap d) cap).wr (Reg.nvsDHealth d) (health % 2 ^ 24)

/-- What the slot shows of the drive that comes up, once it has power. -/
def State.driveSeen (s : State) (d : Nat) (copies : List (Option MetaCopy)) (cap : Nat) (fmt : Bool) (gen width health : Nat) : State :=
  ((s.emit (.pin "NVS_PWREN" d true)).emit (.pin "NVS_PERST_N" d true)).statusShown d (1 + 2 + gen % 8 * 4 + width % 8 * 32 + (if metaCode fmt copies == 1 then 256 else 0) +
    metaCode fmt copies * 512 + (if fmt then 2048 else 0)) (min cap 16000) health

/-- A drive that is up, with the segments that its metadata in force names. -/
def Drive.came (x : Drive) (copies : List (Option MetaCopy)) (ready : Bool) : Drive :=
  { x with present := true, power := true, ready := ready, resets := 0, copies := copies,
           nums := ((if ready then metaForce copies else none).map (fun m => m.2.nums)).getD [] }

/-- The store takes the drive over. -/
def State.driveTaken (s : State) (d : Nat) (copies : List (Option MetaCopy)) (ready : Bool) : State :=
  let t := s.setDrive d ((s.drive d).came copies ready)
  { t with nvs := { t.nvs with nextNum := max t.nvs.nextNum (((if ready then metaForce copies else none).map (fun m => m.2.next)).getD 0) } }

/-- The lanes of a drive's slot come up. -/
def State.driveLanes (s : State) (d : Nat) : State := (List.range 4).foldl (fun s i => s.laneEnable (68 + 4 * d + i)) s

/-- A format that the store does not use is an event. -/
def State.formatNoted (s : State) (d : Nat) (fmt : Bool) : State := if fmt then s else (s.logIt (0x1501 + d) 0x1505 1 []).raise (nvsDBase d) 1

theorem State.driveUp_eq (s : State) (d : Nat) (copies : List (Option MetaCopy)) (cap : Nat) (fmt : Bool) (gen width health : Nat) :
    s.driveUp d copies cap fmt gen width health =
      ((((s.driveSeen d copies cap fmt gen width health).driveTaken d copies (metaCode fmt copies == 1)).nvmeStart d).driveLanes d).formatNoted d fmt := rfl

theorem metaCode_le (fmt : Bool) (copies : List (Option MetaCopy)) : metaCode fmt copies ≤ 2 := by
  unfold metaCode
  split
  · decide
  · split <;> decide

/-- What a drive that comes up shows. -/
structure DriveShown (d : Nat) (ready : Bool) (cap : Nat) (t : State) : Prop where
  present : t.flag (Reg.nvsDStatus d) 0 = true
  ready : t.flag (Reg.nvsDStatus d) 8 = ready
  cap : t.rd (Reg.nvsDCap d) = min cap 16000

theorem DriveShown.words {K : Nat → Prop} {ready : Bool} {cap : Nat} (h : DriveShown d ready cap s) (hw : WordsKept K s t) (hstatus : K (Reg.nvsDStatus d)) (hcap : K (Reg.nvsDCap d)) :
    DriveShown d ready cap t :=
  ⟨(hw.flag hstatus 0).trans h.present, (hw.flag hstatus 8).trans h.ready, (hw _ hcap).trans h.cap⟩

theorem driveStatus_bits (gen width mt : Nat) (fmt : Bool) (hmt : mt ≤ 2) :
    let v := (1 + 2 + gen % 8 * 4 + width % 8 * 32 + (if mt == 1 then 256 else 0) + mt * 512 + (if fmt then 2048 else 0)) % 2 ^ 32
    bitOf v 0 = true ∧ bitOf v 8 = (mt == 1) := by
  dsimp only
  unfold bitOf
  interval_cases mt <;> cases fmt <;> refine ⟨beq_iff_eq.2 ?_, ?_⟩ <;> simp <;> omega

theorem State.healthNoted_spec (s : State) (d health : Nat) : WordsKept (fun a => a ≠ nvsDBase d + 0x10) s (s.healthNoted d health) ∧
    EventsKept (nvsDBase d + 0x10) s (s.healthNoted d health) := by
  unfold State.healthNoted
  split
  exacts [⟨.refl _ s, .refl _ s⟩, ⟨.raise (.refl _ s) fun h => h rfl, .raise (.refl _ s) _ (by decide)⟩]

theorem State.statusShown_spec (hd : d < 2) (s : State) (status cap health : Nat) :
    let t := s.statusShown d status cap health
    t.rd (Reg.nvsDStatus d) = status % 2 ^ 32 ∧ t.rd (Reg.nvsDCap d) = cap % 2 ^ 32 ∧ WordsKept outsideNvs s t ∧ EventsKept (nvsDBase d + 0x10) s t := by
  have hinside := nvsD_inside hd
  obtain ⟨hse, hsc, hsh, hch, hes, hec, heh⟩ : Reg.nvsDStatus d ≠ nvsDBase d + 0x10 ∧ Reg.nvsDStatus d ≠ Reg.nvsDCap d ∧ Reg.nvsDStatus d ≠ Reg.nvsDHealth d ∧
      Reg.nvsDCap d ≠ Reg.nvsDHealth d ∧ nvsDBase d + 0x10 ≠ Reg.nvsDStatus d ∧ nvsDBase d + 0x10 ≠ Reg.nvsDCap d ∧ nvsDBase d + 0x10 ≠ Reg.nvsDHealth d := by
    unfold Reg.nvsDStatus Reg.nvsDCap Reg.nvsDHealth nvsDBase
    omega
  obtain ⟨hwords, hevents⟩ := (s.wr (Reg.nvsDStatus d) status).healthNoted_spec d health
  dsimp only
  rw [State.statusShown]
  refine ⟨?_, ?_, .wr (.wr (.trans (.wr (.refl _ s) (hinside _ (.inl rfl))) fun a ha => hwords a fun h => hinside a (.inr (.inr (.inr (.inl h)))) ha)
    (hinside _ (.inr (.inl rfl)))) (hinside _ (.inr (.inr (.inl rfl)))), ?_⟩
  · rw [State.rd_wr_ne _ _ hsh, State.rd_wr_ne _ _ hsc, hwords _ hse, State.rd_wr_same]
  · rw [State.rd_wr_ne _ _ hch, State.rd_wr_same]
  · exact ((EventsKept.of_rd (State.rd_wr_ne _ _ hes)).trans hevents).trans (.of_rd ((State.rd_wr_ne _ _ heh).trans (State.rd_wr_ne _ _ hec)))

theorem State.statusShown_parts (s : State) (d status cap health : Nat) : (s.statusShown d status cap health).nvs = s.nvs ∧ (s.statusShown d status cap health).svc = s.svc := by
  have hnoted : ∀ w : State, (w.healthNoted d health).nvs = w.nvs ∧ (w.healthNoted d health).svc = w.svc := fun w => by
    unfold State.healthNoted
    split
    exacts [⟨rfl, rfl⟩, ⟨State.raise_nvs .., State.raise_svc ..⟩]
  exact ⟨(State.wr_nvs ..).trans ((State.wr_nvs ..).trans ((hnoted _).1.trans (State.wr_nvs ..))),
    (State.wr_svc ..).trans ((State.wr_svc ..).trans ((hnoted _).2.trans (State.wr_svc ..)))⟩

theorem State.driveSeen_spec (hd : d < 2) (s : State) (copies : List (Option MetaCopy)) (cap : Nat) (fmt : Bool) (gen width health : Nat) :
    let t := s.driveSeen d copies cap fmt gen width health
    DriveShown d (metaCode fmt copies == 1) cap t ∧ WordsKept outsideNvs s t ∧ EventsKept (nvsDBase d + 0x10) s t ∧ t.nvs = s.nvs ∧ t.svc = s.svc := by
  dsimp only
  unfold State.driveSeen
  have hemit : WordsKept (fun _ => True) s ((s.emit (.pin "NVS_PWREN" d true)).emit (.pin "NVS_PERST_N" d true)) := fun _ _ => rfl
  have hparts : ((s.emit (.pin "NVS_PWREN" d true)).emit (.pin "NVS_PERST_N" d true)).nvs = s.nvs ∧
    ((s.emit (.pin "NVS_PWREN" d true)).emit (.pin "NVS_PERST_N" d true)).svc = s.svc := ⟨rfl, rfl⟩
  obtain ⟨hbit0, hbit8⟩ := driveStatus_bits gen width (metaCode fmt copies) fmt (metaCode_le fmt copies)
  generalize (s.emit (.pin "NVS_PWREN" d true)).emit (.pin "NVS_PERST_N" d true) = e at hemit hparts ⊢
  generalize 1 + 2 + gen % 8 * 4 + width % 8 * 32 + (if metaCode fmt copies == 1 then 256 else 0) + metaCode fmt copies * 512 + (if fmt then 2048 else 0) = v at hbit0 hbit8 ⊢
  obtain ⟨hstatus, hcap, hwords, hevents⟩ := e.statusShown_spec hd v (min cap 16000) health
  obtain ⟨hnvs, hsvc⟩ := e.statusShown_parts d v (min cap 16000) health
  exact ⟨⟨by rw [State.flag, hstatus, hbit0], by rw [State.flag, hstatus, hbit8], by rw [hcap, Nat.mod_eq_of_lt (by omega)]⟩,
    WordsKept.trans (fun a _ => hemit a trivial) hwords, (EventsKept.of_rd (hemit _ trivial)).trans hevents, hnvs.trans hparts.1, hsvc.trans hparts.2⟩

theorem State.nvmes_same (l : List NvmeCmd) (q : Nat) : ∀ s : State, (l.foldl (fun s c => s.nvme d q c) s).nvs = s.nvs ∧ (l.foldl (fun s c => s.nvme d q c) s).regs = s.regs ∧
    (l.foldl (fun s c => s.nvme d q c) s).svc = s.svc := by
  induction l with
  | nil => exact fun s => ⟨rfl, rfl, rfl⟩
  | cons c l ih => exact fun s => ih (s.nvme d q c)

theorem State.nvmeStart_spec (s : State) (d : Nat) : (s.nvmeStart d).nvs = (s.setDrive d { s.drive d with queues := [1, 2, 3, 4] }).nvs ∧ (s.nvmeStart d).regs = s.regs := by
  obtain ⟨hnvs, hregs, -⟩ := State.nvmes_same (d := d) bringUp 0 (s.nvme d 0 .reset)
  rw [State.nvmeStart]
  generalize bringUp.foldl (fun s c => s.nvme d 0 c) (s.nvme d 0 .reset) = w at hnvs hregs
  refine ⟨?_, hregs⟩
  unfold State.setDrive
  dsimp only
  rw [hnvs]
  rfl

theorem State.driveLanes_words (s : State) (d : Nat) : WordsKept outsideLnk s (s.driveLanes d) :=
  .foldl (.refl _ s) fun r _ _ hr => hr.trans (r.laneEnable_words _)

theorem State.driveLanes_kept (s : State) (d : Nat) : Kept 34426849280 s (s.driveLanes d) :=
  .foldl (.refl _ s) fun _ _ hr => .step State.laneEnable_kept rfl hr

theorem nvsD_outsideLnk (hd : d < 2) : outsideLnk (Reg.nvsDStatus d) ∧ outsideLnk (Reg.nvsDCap d) ∧ outsideLnk (nvsDBase d + 0x10) := by
  unfold outsideLnk Reg.nvsDStatus Reg.nvsDCap nvsDBase
  omega

theorem nvsD_ne_log (hd : d < 2) : Reg.nvsDStatus d ∉ [Reg.svcLogStaged, 0x1D0010] ∧ Reg.nvsDCap d ∉ [Reg.svcLogStaged, 0x1D0010] ∧
    nvsDBase d + 0x10 ∉ [Reg.svcLogStaged, 0x1D0010] := by
  simp only [List.mem_cons, List.not_mem_nil, or_false, Reg.svcLogStaged, Reg.nvsDStatus, Reg.nvsDCap, nvsDBase]
  omega

theorem State.formatNoted_spec (hd : d < 2) (s : State) (fmt : Bool) : WordsKept (fun a => a ∉ [Reg.svcLogStaged, 0x1D0010] ∧ a ≠ nvsDBase d + 0x10) s (s.formatNoted d fmt) ∧
    EventsKept (nvsDBase d + 0x10) s (s.formatNoted d fmt) ∧ (s.formatNoted d fmt).nvs = s.nvs ∧ (s.formatNoted d fmt).svc = s.svc := by
  unfold State.formatNoted
  split
  · exact ⟨.refl _ s, .refl _ s, rfl, rfl⟩
  · refine ⟨.raise (fun a ha => State.stage_wordsBut _ _ a ha.1) fun h => h.2 rfl, ?_, (State.raise_nvs ..).trans (State.logIt_kept.nvs.resolve_left (by decide)),
      (State.raise_svc ..).trans (State.logIt_kept.svc.resolve_left (by decide))⟩
    exact EventsKept.raise (.of_rd (State.stage_wordsBut _ _ _ (nvsD_ne_log hd).2.2)) _ (by decide)

/-- What a drive that has come up leaves. -/
structure DriveCame (d : Nat) (copies : List (Option MetaCopy)) (ready : Bool) (cap : Nat) (s t : State) : Prop where
  shown : DriveShown d ready cap t
  words : WordsKept outsideNvs s t
  events : EventsKept (nvsDBase d + 0x10) s t
  svc : t.svc = s.svc
  drive : d < s.nvs.drives.length → (t.drive d).ready = ready ∧ ∀ i m, ready = true → metaForce copies = some (i, m) → (t.drive d).nums = m.nums

theorem State.driveUp_came (hd : d < 2) (s : State) (copies : List (Option MetaCopy)) (cap : Nat) (fmt : Bool) (gen width health : Nat) :
    DriveCame d copies (metaCode fmt copies == 1) cap s (s.driveUp d copies cap fmt gen width health) := by
  obtain ⟨hshown, hwords, hevents, hnvs, hsvc⟩ := s.driveSeen_spec hd copies cap fmt gen width health
  rw [State.driveUp_eq]
  generalize s.driveSeen d copies cap fmt gen width health = a at hshown hwords hevents hnvs hsvc ⊢
  generalize (metaCode fmt copies == 1) = ready at hshown ⊢
  have htaken : (a.driveTaken d copies ready).regs = a.regs := rfl
  obtain ⟨hsnvs, hsregs⟩ := (a.driveTaken d copies ready).nvmeStart_spec d
  have hssvc : ((a.driveTaken d copies ready).nvmeStart d).svc = a.svc := State.nvmeStart_kept.svc.resolve_left (by decide)
  generalize hb : (a.driveTaken d copies ready).nvmeStart d = b at hsnvs hsregs hssvc ⊢
  have hab : WordsKept (fun _ => True) a b := .regs (.refl _ a) (hsregs.trans htaken)
  have hlanes := b.driveLanes_words d
  have hlnvs : (b.driveLanes d).nvs = b.nvs := (b.driveLanes_kept d).nvs.resolve_left (by decide)
  have hlsvc : (b.driveLanes d).svc = b.svc := (b.driveLanes_kept d).svc.resolve_left (by decide)
  obtain ⟨hfwords, hfevents, hfnvs, hfsvc⟩ := (b.driveLanes d).formatNoted_spec hd fmt
  obtain ⟨hls, hlc, hle⟩ := nvsD_outsideLnk hd
  obtain ⟨hns, hnc, -⟩ := nvsD_ne_log hd
  have hse : Reg.nvsDStatus d ≠ nvsDBase d + 0x10 ∧ Reg.nvsDCap d ≠ nvsDBase d + 0x10 := by
    unfold Reg.nvsDStatus Reg.nvsDCap nvsDBase
    omega
  refine ⟨((hshown.words hab trivial trivial).words hlanes hls hlc).words hfwords ⟨hns, hse.1⟩ ⟨hnc, hse.2⟩, fun x hx => ?_,
    (((hevents.words hab trivial).words hlanes hle)).trans hfevents, hfsvc.trans (hlsvc.trans (hssvc.trans hsvc)), fun hlen => ?_⟩
  · have hxlog : x ∉ [Reg.svcLogStaged, 0x1D0010] := by
      simp only [List.mem_cons, List.not_mem_nil, or_false, not_or]
      exact ⟨hx.2.2.1, hx.2.2.2⟩
    exact (hfwords x ⟨hxlog, fun h => nvsD_inside hd x (.inr (.inr (.inr (.inl h)))) hx⟩).trans ((hlanes x hx.2.1).trans ((hab x trivial).trans (hwords x hx)))
  · have hdlen : d < (a.driveTaken d copies ready).nvs.drives.length := by
      show d < (a.nvs.drives.set d _).length
      rw [List.length_set, hnvs]
      exact hlen
    have halen : d < a.nvs.drives.length := by rw [hnvs]; exact hlen
    have hdrive : b.drive d = { (a.driveTaken d copies ready).drive d with queues := [1, 2, 3, 4] } :=
      (State.drive_of_nvs hsnvs d).trans (State.drive_setDrive_same _ hdlen)
    have htook : (a.driveTaken d copies ready).drive d = (a.drive d).came copies ready := State.drive_setDrive_same _ halen
    rw [State.drive_of_nvs (hfnvs.trans hlnvs), hdrive, htook]
    refine ⟨rfl, fun i m hready hforce => ?_⟩
    dsimp only [Drive.came]
    rw [hready, if_pos rfl, hforce]
    rfl

end

end Sys2Proof.Machine

/-! SUPPORT. Insertion, loss and time-out of a drive, for O51 (R416, R417). -/

namespace Sys2Proof.Machine

section
variable {s t u : State} {d k i data : Nat} {who : Requester}

/-! ### A drive is inserted (R417) -/

/-- Presence is seen, and its change is an event. -/
def State.presenceSeen (s : State) (d : Nat) : State :=
  (if (s.drive d).present then s else (s.setDrive d { s.drive d with present := true }).raise (nvsDBase d) 0).setFlag (Reg.nvsDStatus d) 0 true

/-- A test of the unit is over. -/
def State.testOver (s : State) (n : Nat) : State := { s with svc := { s.svc with tests := s.svc.tests.filter (fun t => t.1 != n) } }

theorem State.driveInsert_eq {copies : List (Option MetaCopy)} {cap gen width health : Nat} {fmt : Bool} (hd : d < 2) (hon : s.domOn 30 = true)
    (hstate : s.unitState (131 + d) = 5 ∨ (s.unitState (131 + d) = 0 ∧ (s.drive d).ready = false)) (hready : (s.drive d).ready = ((s.presenceSeen d).drive d).ready) :
    s.driveInsert d copies cap fmt gen width health =
      ((((s.presenceSeen d).testOver (131 + d)).driveUp d copies cap fmt gen width health).setUnit (131 + d) 0).bistFill := by
  unfold State.driveInsert
  rw [if_pos ⟨hd, hon⟩]
  refine if_pos ?_
  rcases hstate with h | ⟨h, hr⟩
  · exact .inl h
  · refine .inr (.inl ⟨h, ?_⟩)
    rw [hready] at hr
    show (!((s.presenceSeen d).drive d).ready) = true
    rw [hr]
    rfl

theorem State.presenceSeen_nvs (s : State) (d : Nat) : (s.presenceSeen d).nvs = s.nvs ∨ (s.presenceSeen d).nvs = (s.setDrive d { s.drive d with present := true }).nvs := by
  unfold State.presenceSeen
  split
  exacts [.inl (State.setFlag_nvs ..), .inr ((State.setFlag_nvs ..).trans (State.raise_nvs ..))]

theorem State.presenceSeen_ready (s : State) (d : Nat) : ((s.presenceSeen d).drive d).ready = (s.drive d).ready ∧ (s.presenceSeen d).nvs.drives.length = s.nvs.drives.length := by
  rcases s.presenceSeen_nvs d with h | h
  · exact ⟨by rw [State.drive_of_nvs h], by rw [h]⟩
  · refine ⟨?_, by rw [h, State.setDrive_count]⟩
    rw [State.drive_of_nvs h]
    by_cases hd : d < s.nvs.drives.length
    · rw [State.drive_setDrive_same _ hd]
    · have hout : ∀ w : State, w.nvs.drives.length = s.nvs.drives.length → w.drive d = Drive.reset := fun w hw => by
        rw [State.drive]
        simp [hw ▸ Nat.le_of_not_lt hd]
      rw [hout _ (State.setDrive_count ..), hout s rfl]

theorem State.presenceSeen_words (hd : d < 2) (s : State) : WordsKept outsideNvs s (s.presenceSeen d) ∧ (s.presenceSeen d).svc = s.svc ∧
    ((s.drive d).present = false → (s.presenceSeen d).flag (nvsDBase d + 0x10) 0 = true) := by
  have hinside := nvsD_inside hd
  refine ⟨.setFlag (.ite (.refl _ s) (.raise (fun _ _ => rfl) (hinside _ (.inr (.inr (.inr (.inl rfl))))))) (hinside _ (.inl rfl)), ?_, fun h => ?_⟩
  · unfold State.presenceSeen
    split
    exacts [State.setFlag_svc .., (State.setFlag_svc ..).trans (State.raise_svc ..)]
  · rw [State.presenceSeen, h, if_neg (by decide), State.flag, State.rd_setFlag_ne _ _ _ (by unfold nvsDBase Reg.nvsDStatus; omega), ← State.flag]
    exact State.flag_raise_same _ _ _ (by decide)

/-- What an insertion that brings its drive up leaves. -/
structure DriveInserted (d : Nat) (copies : List (Option MetaCopy)) (ready : Bool) (cap : Nat) (s t : State) : Prop where
  shown : DriveShown d ready cap t
  unit : t.unitState (131 + d) = 0
  drive : d < s.nvs.drives.length → (t.drive d).ready = ready ∧ ∀ i m, ready = true → metaForce copies = some (i, m) → (t.drive d).nums = m.nums
  event : (s.drive d).present = false → t.flag (nvsDBase d + 0x10) 0 = true

theorem State.driveInsert_inserted {copies : List (Option MetaCopy)} {cap gen width health : Nat} {fmt : Bool} (hd : d < 2) (hon : s.domOn 30 = true)
    (hstate : s.unitState (131 + d) = 5 ∨ (s.unitState (131 + d) = 0 ∧ (s.drive d).ready = false)) (hbist : 131 + d ∉ s.svc.bist) :
    DriveInserted d copies (metaCode fmt copies == 1) cap s (s.driveInsert d copies cap fmt gen width health) := by
  obtain ⟨hready, hcount⟩ := s.presenceSeen_ready d
  obtain ⟨hpwords, hpsvc, hpevent⟩ := s.presenceSeen_words hd
  rw [State.driveInsert_eq hd hon hstate hready.symm]
  generalize s.presenceSeen d = p at hready hcount hpwords hpsvc hpevent ⊢
  have hcame := (p.testOver (131 + d)).driveUp_came hd copies cap fmt gen width health
  have hbsvc : (p.testOver (131 + d)).svc.bist = s.svc.bist := congrArg (·.bist) hpsvc
  have hover : WordsKept outsideNvs s (p.testOver (131 + d)) := hpwords
  have hoverd : (p.testOver (131 + d)).nvs.drives.length = s.nvs.drives.length := hcount
  have hoverev : (s.drive d).present = false → (p.testOver (131 + d)).flag (nvsDBase d + 0x10) 0 = true := hpevent
  generalize p.testOver (131 + d) = q at hcame hbsvc hover hoverd hoverev ⊢
  obtain ⟨hshown, hwords, hevents, hsvc, hdrive⟩ := hcame
  generalize q.driveUp d copies cap fmt gen width health = v at hshown hwords hevents hsvc hdrive ⊢
  have hvon : v.domOn 30 = true := by rw [(hover.trans hwords).domOn outsideNvs_units.1 outsideNvs_units.2.1, hon]
  have hunit : (v.setUnit (131 + d) 0).unitState (131 + d) = 0 := State.unitState_setUnit hd hvon 0
  have hset : WordsKept (fun a => a < 0x1D0000) v (v.setUnit (131 + d) 0) := .setFld (.refl _ v) (by unfold Reg.svcUnit; omega)
  have hwsvc : (v.setUnit (131 + d) 0).svc.bist = s.svc.bist := (congrArg (·.bist) (State.setFld_svc ..)).trans ((congrArg (·.bist) hsvc).trans hbsvc)
  have hwnvs : (v.setUnit (131 + d) 0).nvs = v.nvs := State.setFld_nvs ..
  generalize v.setUnit (131 + d) 0 = w at hunit hset hwsvc hwnvs ⊢
  have hfill := w.bistFill_words
  rw [hwsvc] at hfill
  have hlow : ∀ a, a < 0x1D0000 → ∀ x ∈ s.svc.bist, a ≠ Reg.svcUnit x := fun a ha x _ => by unfold Reg.svcUnit; omega
  have hkeep : WordsKept (fun a => a < 0x1D0000) v w.bistFill := hset.trans fun a ha => hfill a (hlow a ha)
  have hs : Reg.nvsDStatus d < 0x1D0000 ∧ Reg.nvsDCap d < 0x1D0000 ∧ nvsDBase d + 0x10 < 0x1D0000 := by
    unfold Reg.nvsDStatus Reg.nvsDCap nvsDBase
    omega
  refine ⟨hshown.words hkeep hs.1 hs.2.1, ?_, fun hlen => ?_, fun hpres => ?_⟩
  · rw [hfill.unitState (hlow _ (by decide)) (hlow _ (by decide)) fun x hx hxe => ?_, hunit]
    have : x = 131 + d := by unfold Reg.svcUnit at hxe; omega
    exact hbist (this ▸ hx)
  · rw [State.drive_of_nvs ((State.bistFill_kept.nvs.resolve_left (by decide)).trans hwnvs)]
    exact hdrive (hoverd ▸ hlen)
  · rw [hkeep.flag hs.2.2]
    exact hevents 0 (by decide) (hoverev hpres)

/-! ### A drive is lost (R417) -/

/-- What the loss of a drive leaves. -/
structure DriveDropped (d : Nat) (s t : State) : Prop where
  segs : t.nvs.segs = s.nvs.segs
  ready : (t.drive d).ready = false
  valid : t.flag (Reg.nvsDStatus d) 8 = false
  power : t.flag (Reg.nvsDStatus d) 1 = false
  words : WordsKept outsideNvs s t

theorem State.driveCut_dropped (hd : d < 2) (s : State) (hlen : d < s.nvs.drives.length) :
    DriveDropped d s (s.driveCut d) ∧ ((s.driveCut d).drive d).present = (s.drive d).present ∧ (s.driveCut d).flag (Reg.nvsDStatus d) 0 = s.flag (Reg.nvsDStatus d) 0 ∧
    (s.driveCut d).nvs.drives.length = s.nvs.drives.length := by
  have hnvs : (s.driveCut d).nvs = (s.setDrive d { s.drive d with ready := false, queues := [], initDue := false }).nvs := (State.setFlag_nvs ..).trans (State.setFlag_nvs ..)
  have hdrive : (s.driveCut d).drive d = { s.drive d with ready := false, queues := [], initDue := false } :=
    (State.drive_of_nvs hnvs d).trans (State.drive_setDrive_same _ hlen)
  have hinside := nvsD_inside hd
  refine ⟨⟨by rw [hnvs]; rfl, by rw [hdrive], ?_, ?_, .setFlag (.setFlag (fun _ _ => rfl) (hinside _ (.inl rfl))) (hinside _ (.inl rfl))⟩, by rw [hdrive], ?_, by
    rw [hnvs, State.setDrive_count]⟩
  · rw [State.driveCut, State.flag_setFlag_other _ _ _ _ _ (by decide) (by decide), State.flag_setFlag_same _ _ _ _ (by decide)]
  · rw [State.driveCut, State.flag_setFlag_same _ _ _ _ (by decide)]
  · rw [State.driveCut, State.flag_setFlag_other _ _ _ _ _ (by decide) (by decide), State.flag_setFlag_other _ _ _ _ _ (by decide) (by decide), State.flag, State.setDrive_rd, ← State.flag]

theorem State.driveOff_spec (s : State) (d : Nat) : WordsKept outsideLnk s (s.driveOff d) ∧ (s.driveOff d).nvs = (s.setDrive d { s.drive d with power := false }).nvs := by
  have hoff : WordsKept outsideLnk s (((s.setDrive d { s.drive d with power := false }).emit (.pin "NVS_PERST_N" d false)).emit (.pin "NVS_PWREN" d false)) := fun _ _ => rfl
  rw [State.driveOff]
  exact ⟨hoff.trans (State.laneSweep_outside _), State.laneSweep_kept.nvs.resolve_left (by decide)⟩

theorem State.driveGone_dropped (hd : d < 2) (s : State) (hlen : d < s.nvs.drives.length) :
    DriveDropped d s (s.driveGone d) ∧ ((s.driveGone d).drive d).present = false ∧ (s.driveGone d).flag (nvsDBase d + 0x10) 0 = true := by
  obtain ⟨hcut, -, -, hcount⟩ := s.driveCut_dropped hd hlen
  unfold State.driveGone
  dsimp only
  generalize s.driveCut d = c at hcut hcount ⊢
  have hlen' : d < c.nvs.drives.length := hcount ▸ hlen
  let e := c.setDrive d { c.drive d with present := false, copies := [none, none], nums := [] }
  let m := e.fld (Reg.nvsDStatus d) 10 9 * 512
  obtain ⟨howords, honvs⟩ := (e.wr (Reg.nvsDStatus d) m).driveOff_spec d
  obtain ⟨hls, -, -⟩ := nvsD_outsideLnk hd
  have hed : (e.wr (Reg.nvsDStatus d) m).drive d = { c.drive d with present := false, copies := [none, none], nums := [] } :=
    (State.drive_of_nvs (State.wr_nvs ..) d).trans (State.drive_setDrive_same _ hlen')
  have hnvs : (((e.wr (Reg.nvsDStatus d) m).driveOff d).raise (nvsDBase d) 0).nvs =
      ((e.wr (Reg.nvsDStatus d) m).setDrive d { (e.wr (Reg.nvsDStatus d) m).drive d with power := false }).nvs := (State.raise_nvs ..).trans honvs
  have hdrive : (((e.wr (Reg.nvsDStatus d) m).driveOff d).raise (nvsDBase d) 0).drive d = { (e.wr (Reg.nvsDStatus d) m).drive d with power := false } :=
    (State.drive_of_nvs hnvs d).trans (State.drive_setDrive_same _ (by
      show d < (c.nvs.drives.set d _).length
      rw [List.length_set]
      exact hlen'))
  have hinside := nvsD_inside hd
  have hstatus : (((e.wr (Reg.nvsDStatus d) m).driveOff d).raise (nvsDBase d) 0).rd (Reg.nvsDStatus d) = m % 2 ^ 32 := by
    rw [State.rd_raise_ne _ _ (by unfold nvsDBase Reg.nvsDStatus; omega), howords _ hls, State.rd_wr_same]
  have hm : ∀ i, i < 9 → bitOf (m % 2 ^ 32) i = false := fun i hi => by
    have hlt : e.fld (Reg.nvsDStatus d) 10 9 < 4 := Nat.mod_lt _ (by decide)
    have hmod : m % 2 ^ 32 = e.fld (Reg.nvsDStatus d) 10 9 * 512 := Nat.mod_eq_of_lt (by show _ * 512 < _; omega)
    rw [hmod, bitOf]
    interval_cases i <;> simp <;> omega
  refine ⟨⟨?_, ?_, ?_, ?_, ?_⟩, ?_, State.flag_raise_same _ _ _ (by decide)⟩
  · rw [hnvs, ← hcut.segs]
    rfl
  · rw [hdrive, hed]
    exact hcut.ready
  · rw [State.flag, hstatus]
    exact hm 8 (by decide)
  · rw [State.flag, hstatus]
    exact hm 1 (by decide)
  · refine hcut.words.trans (.raise (.trans (.wr (fun _ _ => rfl) (hinside _ (.inl rfl))) fun a ha => howords a ha.2.1) (hinside _ (.inr (.inr (.inr (.inl rfl))))))
  · rw [hdrive, hed]

/-- What the loss of a drive that was present leaves. -/
structure DriveLost (d : Nat) (still : Bool) (s t : State) : Prop where
  unit : t.unitState (131 + d) = if s.unitState (131 + d) = 2 then 2 else 5
  here : (t.drive d).present = still
  ready : (t.drive d).ready = false
  segs : t.nvs.segs = s.nvs.segs
  valid : t.flag (Reg.nvsDStatus d) 8 = false
  power : t.flag (Reg.nvsDStatus d) 1 = false
  gone : still = false → t.flag (nvsDBase d + 0x10) 0 = true
  stays : still = true → t.flag (Reg.nvsDStatus d) 0 = s.flag (Reg.nvsDStatus d) 0

theorem State.unitState_lost (hd : d < 2) (hwords : WordsKept outsideNvs s t) :
    (t.setUnit (131 + d) (if s.unitState (131 + d) = 2 then 2 else 5)).unitState (131 + d) = if s.unitState (131 + d) = 2 then 2 else 5 := by
  have hdom : t.domOn 30 = s.domOn 30 := hwords.domOn outsideNvs_units.1 outsideNvs_units.2.1 30
  by_cases hon : s.domOn 30 = true
  · rw [State.unitState_setUnit hd (hdom.trans hon)]
    split <;> rfl
  · have hunit : unitDomain (131 + d) = 30 := by interval_cases d <;> rfl
    have hoff : s.unitState (131 + d) = 5 := by rw [State.unitState, hunit, if_neg hon]
    have hkeep : (t.setUnit (131 + d) (if s.unitState (131 + d) = 2 then 2 else 5)).domOn 30 = t.domOn 30 :=
      WordsKept.domOn (K := fun a => a ≠ Reg.svcUnit (131 + d)) (.setFld (.refl _ t) fun h => h rfl) (by unfold Reg.pwrDomStat0 Reg.svcUnit; omega)
        (by unfold Reg.pwrDomStat1 Reg.svcUnit; omega) 30
    rw [State.unitState, hunit, if_neg (by rw [hkeep, hdom]; exact hon), hoff, if_neg (by decide)]

theorem State.driveLost_lost (hd : d < 2) (hpres : (s.drive d).present = true) (present : Bool) : DriveLost d present s (s.driveLost d present) := by
  have hlen := State.drive_present_lt hpres
  obtain ⟨hcut, hcpres, hcflag, -⟩ := s.driveCut_dropped hd hlen
  obtain ⟨hgone, hgpres, hgevent⟩ := s.driveGone_dropped hd hlen
  have hdrop : ∃ m, (if present then s.driveCut d else s.driveGone d) = m ∧ DriveDropped d s m ∧ (m.drive d).present = present ∧
      (present = false → m.flag (nvsDBase d + 0x10) 0 = true) ∧ (present = true → m.flag (Reg.nvsDStatus d) 0 = s.flag (Reg.nvsDStatus d) 0) := by
    cases present
    · exact ⟨_, rfl, hgone, hgpres, fun _ => hgevent, fun h => absurd h (by decide)⟩
    · exact ⟨_, rfl, hcut, hcpres.trans hpres, fun h => absurd h (by decide), fun _ => hcflag⟩
  obtain ⟨m, hm, hdropped, hmpres, hmgone, hmstays⟩ := hdrop
  rw [State.driveLost, if_pos ⟨hd, hpres⟩, hm]
  have hunit := State.unitState_lost hd hdropped.words
  generalize hv : (if s.unitState (131 + d) = 2 then 2 else 5) = v at hunit ⊢
  have hset : WordsKept (fun a => a < 0x1D0000) m (m.setUnit (131 + d) v) := .setFld (.refl _ m) (by unfold Reg.svcUnit; omega)
  have hnvs : (m.setUnit (131 + d) v).nvs = m.nvs := State.setFld_nvs ..
  have hs : Reg.nvsDStatus d < 0x1D0000 ∧ nvsDBase d + 0x10 < 0x1D0000 := by
    unfold Reg.nvsDStatus nvsDBase
    omega
  exact ⟨hunit.trans hv.symm, by rw [State.drive_of_nvs hnvs, hmpres], by rw [State.drive_of_nvs hnvs, hdropped.ready], by rw [hnvs, hdropped.segs],
    (hset.flag hs.1 8).trans hdropped.valid, (hset.flag hs.1 1).trans hdropped.power, fun h => (hset.flag hs.2 0).trans (hmgone h), fun h => (hset.flag hs.1 0).trans (hmstays h)⟩

/-! ### A command is late (R416) -/

/-- The late command is aborted, counted and reported. -/
def State.lateAborted (s : State) (d : Nat) : State := ((s.nvme d 0 .abort).add (Reg.nvsDStat d 3) 1).raise (nvsDBase d) 1

/-- The controller of a drive is FAILED. -/
def State.driveFailed (s : State) (d : Nat) (x : Drive) : State := (s.setDrive d { x with resets := 0, ready := false }).setFlag (Reg.nvsDStatus d) 8 false

theorem State.nvmeTimeout_eq {issued : Nat} (hd : d < 2) (hok : s.driveOk d = true) (hlate : issued + 2 * sec ≤ s.now) (aborted : Bool) :
    s.nvmeTimeout d issued aborted =
      if aborted then ((s.lateAborted d).setDrive d { s.drive d with resets := 0 }, false)
      else if 3 ≤ (s.drive d).resets + 1 then (((s.lateAborted d).add (Reg.nvsDStat d 4) 1).driveFailed d (s.drive d), true)
      else ((((s.lateAborted d).add (Reg.nvsDStat d 4) 1).setDrive d { s.drive d with resets := (s.drive d).resets + 1 }).nvmeStart d, false) :=
  if_pos ⟨hd, hok, hlate⟩

/-- What a late command leaves in any case. -/
structure LateShown (d : Nat) (s t : State) : Prop where
  event : t.flag (nvsDBase d + 0x10) 1 = true
  count : t.rd (Reg.nvsDStat d 3) = (s.rd (Reg.nvsDStat d 3) + 1) % 2 ^ 32

theorem State.lateAborted_spec (s : State) (d : Nat) : LateShown d s (s.lateAborted d) ∧ WordsKept (fun a => a ≠ Reg.nvsDStat d 3 ∧ a ≠ nvsDBase d + 0x10) s (s.lateAborted d) ∧
    (s.lateAborted d).nvs = s.nvs := by
  have hne : Reg.nvsDStat d 3 ≠ nvsDBase d + 0x10 := by unfold Reg.nvsDStat nvsDBase; omega
  refine ⟨⟨State.flag_raise_same _ _ _ (by decide), ?_⟩, .raise (.add (fun _ _ => rfl) fun h => h.1 rfl) fun h => h.2 rfl,
    (State.raise_nvs ..).trans ((State.add_nvs ..).trans rfl)⟩
  rw [State.lateAborted, State.rd_raise_ne _ _ hne, State.rd_add_same]
  rfl

theorem LateShown.words {K : Nat → Prop} (h : LateShown d s t) (hw : WordsKept K t u) (hevent : K (nvsDBase d + 0x10)) (hcount : K (Reg.nvsDStat d 3)) : LateShown d s u :=
  ⟨(hw.flag hevent 1).trans h.event, (hw _ hcount).trans h.count⟩

/-- A time-out as a whole. -/
def State.timeoutWhole (s : State) (d issued : Nat) (aborted : Bool) : State :=
  if (s.nvmeTimeout d issued aborted).2 then (s.nvmeTimeout d issued aborted).1.unitFault (131 + d) else (s.nvmeTimeout d issued aborted).1

theorem State.timeoutWhole_eq {issued : Nat} (hd : d < 2) (hok : s.driveOk d = true) (hlate : issued + 2 * sec ≤ s.now) (aborted : Bool) :
    s.timeoutWhole d issued aborted =
      if aborted then (s.lateAborted d).setDrive d { s.drive d with resets := 0 }
      else if 3 ≤ (s.drive d).resets + 1 then (((s.lateAborted d).add (Reg.nvsDStat d 4) 1).driveFailed d (s.drive d)).unitFault (131 + d)
      else (((s.lateAborted d).add (Reg.nvsDStat d 4) 1).setDrive d { s.drive d with resets := (s.drive d).resets + 1 }).nvmeStart d := by
  rw [State.timeoutWhole, State.nvmeTimeout_eq hd hok hlate]
  cases aborted
  · by_cases h : 3 ≤ (s.drive d).resets + 1
    · simp only [Bool.false_eq_true, if_false, if_pos h, if_true]
    · simp only [Bool.false_eq_true, if_false, if_neg h]
  · simp only [if_true, Bool.false_eq_true, if_false]

theorem State.unitFault_drive (hd : d < 2) (hstate : s.unitState (131 + d) ≤ 1) : s.unitFault (131 + d) = s.unitFailed (131 + d) := by
  rw [State.unitFault, if_pos hstate]
  dsimp only
  rw [if_neg (by omega), if_neg (by omega)]
  rfl

theorem State.lateWords (hd : d < 2) (s : State) : WordsKept outsideNvs s ((s.lateAborted d).add (Reg.nvsDStat d 4) 1) := by
  have hinside := nvsD_inside hd
  have hcounts : ∀ j, j < 5 → ¬ outsideNvs (Reg.nvsDStat d j) := fun j hj => hinside _ (.inr (.inr (.inr (.inr ⟨j, hj, rfl⟩))))
  refine .add (fun a ha => (s.lateAborted_spec d).2.1 a ⟨fun h => hcounts 3 (by decide) (h ▸ ha), fun h => hinside a (.inr (.inr (.inr (.inl h)))) ha⟩) (hcounts 4 (by decide))

theorem State.timeout_aborted {issued : Nat} (hd : d < 2) (hok : s.driveOk d = true) (hlate : issued + 2 * sec ≤ s.now) :
    LateShown d s (s.timeoutWhole d issued true) ∧ ((s.timeoutWhole d issued true).drive d).resets = 0 ∧ (s.timeoutWhole d issued true).unitState (131 + d) = s.unitState (131 + d) := by
  obtain ⟨hshown, hwords, hnvs⟩ := s.lateAborted_spec d
  have hready : (s.drive d).ready = true := by
    rw [State.driveOk, Bool.and_eq_true, Bool.and_eq_true] at hok
    exact hok.1.2
  have hlen := State.drive_ready_lt hready
  rw [State.timeoutWhole_eq hd hok hlate, if_pos rfl]
  have hkeep : WordsKept (fun _ => True) (s.lateAborted d) ((s.lateAborted d).setDrive d { s.drive d with resets := 0 }) := fun a _ => State.setDrive_rd _ _ _ a
  refine ⟨hshown.words hkeep trivial trivial, ?_, ?_⟩
  · rw [State.drive_setDrive_same _ (by rw [hnvs]; exact hlen)]
  · rw [hkeep.unitState trivial trivial trivial, hwords.unitState ?_ ?_ ?_]
    all_goals unfold Reg.nvsDStat nvsDBase
    · unfold Reg.pwrDomStat0; omega
    · unfold Reg.pwrDomStat1; omega
    · unfold Reg.svcUnit; omega

/-- What a time-out whose abort fails leaves in any case. -/
structure ResetShown (d : Nat) (s t : State) : Prop where
  late : LateShown d s t
  count : t.rd (Reg.nvsDStat d 4) = (s.rd (Reg.nvsDStat d 4) + 1) % 2 ^ 32

theorem State.resetCounted (s : State) (d : Nat) : ResetShown d s ((s.lateAborted d).add (Reg.nvsDStat d 4) 1) := by
  obtain ⟨hshown, hwords, -⟩ := s.lateAborted_spec d
  have hne : nvsDBase d + 0x10 ≠ Reg.nvsDStat d 4 ∧ Reg.nvsDStat d 3 ≠ Reg.nvsDStat d 4 ∧ Reg.nvsDStat d 4 ≠ Reg.nvsDStat d 3 ∧ Reg.nvsDStat d 4 ≠ nvsDBase d + 0x10 := by
    unfold Reg.nvsDStat nvsDBase
    omega
  refine ⟨hshown.words (K := fun a => a ≠ Reg.nvsDStat d 4) (.add (.refl _ _) fun h => h rfl) hne.1 hne.2.1, ?_⟩
  rw [State.rd_add_same, hwords _ hne.2.2]

theorem ResetShown.words {K : Nat → Prop} (h : ResetShown d s t) (hw : WordsKept K t u) (hevent : K (nvsDBase d + 0x10)) (hcount : ∀ j, j < 5 → K (Reg.nvsDStat d j)) : ResetShown d s u :=
  ⟨h.late.words hw hevent (hcount 3 (by decide)), (hw _ (hcount 4 (by decide))).trans h.count⟩

theorem State.timeout_reset {issued : Nat} (hd : d < 2) (hok : s.driveOk d = true) (hlate : issued + 2 * sec ≤ s.now) (hfew : (s.drive d).resets < 2) :
    ResetShown d s (s.timeoutWhole d issued false) ∧ ((s.timeoutWhole d issued false).drive d).resets = (s.drive d).resets + 1 ∧
    (s.timeoutWhole d issued false).unitState (131 + d) = s.unitState (131 + d) := by
  have hready : (s.drive d).ready = true := by
    rw [State.driveOk, Bool.and_eq_true, Bool.and_eq_true] at hok
    exact hok.1.2
  have hcounted := s.resetCounted d
  have hwords := s.lateWords hd
  have hnvs : ((s.lateAborted d).add (Reg.nvsDStat d 4) 1).nvs = s.nvs := (State.add_nvs ..).trans (s.lateAborted_spec d).2.2
  rw [State.timeoutWhole_eq hd hok hlate, if_neg Bool.false_ne_true, if_neg (by omega)]
  generalize (s.lateAborted d).add (Reg.nvsDStat d 4) 1 = w at hcounted hwords hnvs ⊢
  have hlen : d < w.nvs.drives.length := hnvs ▸ State.drive_ready_lt hready
  obtain ⟨hsnvs, hsregs⟩ := (w.setDrive d { s.drive d with resets := (s.drive d).resets + 1 }).nvmeStart_spec d
  have hkeep : WordsKept (fun _ => True) w ((w.setDrive d { s.drive d with resets := (s.drive d).resets + 1 }).nvmeStart d) := .regs (fun _ _ => rfl) hsregs
  refine ⟨hcounted.words hkeep trivial fun _ _ => trivial, ?_, ?_⟩
  · rw [State.drive_of_nvs hsnvs, State.drive_setDrive_same _ (by rw [State.setDrive_count]; exact hlen), State.drive_setDrive_same _ hlen]
  · rw [hkeep.unitState trivial trivial trivial, hwords.driveUnit (by omega)]

theorem nvsD_ne_failed (hd : d < 2) {a : Nat} (ha : a < 0x160000) : a ∉ [Reg.svcUnit (131 + d), Reg.svcLogStaged, 0x1D0010] := by
  simp only [List.mem_cons, List.not_mem_nil, or_false, Reg.svcUnit, Reg.svcLogStaged]
  omega

theorem State.timeout_failed {issued : Nat} (hd : d < 2) (hok : s.driveOk d = true) (hlate : issued + 2 * sec ≤ s.now) (hmany : 2 ≤ (s.drive d).resets) :
    ResetShown d s (s.timeoutWhole d issued false) ∧ (s.timeoutWhole d issued false).unitState (131 + d) = 4 ∧ ((s.timeoutWhole d issued false).drive d).ready = false ∧
    (s.timeoutWhole d issued false).flag 0x1D0010 0 = true := by
  have hok' := hok
  rw [State.driveOk, Bool.and_eq_true, Bool.and_eq_true, beq_iff_eq] at hok'
  obtain ⟨⟨hon, hready⟩, hstate⟩ := hok'
  have hcounted := s.resetCounted d
  have hwords := s.lateWords hd
  have hnvs : ((s.lateAborted d).add (Reg.nvsDStat d 4) 1).nvs = s.nvs := (State.add_nvs ..).trans (s.lateAborted_spec d).2.2
  rw [State.timeoutWhole_eq hd hok hlate, if_neg Bool.false_ne_true, if_pos (by omega)]
  generalize (s.lateAborted d).add (Reg.nvsDStat d 4) 1 = w at hcounted hwords hnvs ⊢
  have hlen : d < w.nvs.drives.length := hnvs ▸ State.drive_ready_lt hready
  have hfwords : WordsKept (fun a => a ≠ Reg.nvsDStatus d) w (w.driveFailed d (s.drive d)) := .setFlag (fun _ _ => rfl) fun h => h rfl
  have hfdrive : (w.driveFailed d (s.drive d)).drive d = { s.drive d with resets := 0, ready := false } :=
    (State.drive_of_nvs (State.setFlag_nvs ..) d).trans (State.drive_setDrive_same _ hlen)
  have hfall : WordsKept outsideNvs s (w.driveFailed d (s.drive d)) := hwords.trans fun a ha => hfwords a fun h => nvsD_inside hd a (.inl h) ha
  have hcounted' : ResetShown d s (w.driveFailed d (s.drive d)) := hcounted.words hfwords (by unfold nvsDBase Reg.nvsDStatus; omega)
    fun j hj => by unfold Reg.nvsDStat Reg.nvsDStatus; omega
  have hfstate : (w.driveFailed d (s.drive d)).unitState (131 + d) ≤ 1 := by rw [hfall.driveUnit (by omega), hstate]; decide
  have hfon : (w.driveFailed d (s.drive d)).domOn (unitDomain (131 + d)) = true := State.domOn_of_unitState hfstate
  generalize w.driveFailed d (s.drive d) = f at hfdrive hcounted' hfstate hfon ⊢
  rw [State.unitFault_drive hd hfstate]
  obtain ⟨hshown, hevent⟩ := f.unitFailed_shown (131 + d)
  have hkeep : WordsKept (fun a => a < 0x160000) f (f.unitFailed (131 + d)) := fun a ha => f.unitFailed_words (131 + d) a (nvsD_ne_failed hd ha)
  refine ⟨hcounted'.words hkeep (by unfold nvsDBase; omega) fun j hj => by unfold Reg.nvsDStat; omega, ?_, ?_, hevent⟩
  · rw [State.unitState_shown (by omega) (by rw [State.unitFailed_domOn]; exact hfon), hshown]
  · rw [State.drive_of_nvs ((f.unitFailed_kept (131 + d)).nvs.resolve_left (by decide)), hfdrive]

end

end Sys2Proof.Machine

/-! SUPPORT. Segments that are stored, queried and deleted, for O51 (R418-R420, R427). -/

namespace Sys2Proof.Machine

section
variable {s t u : State} {d k i n code data : Nat} {who : Requester} {g : Seg} {on : List Bool}

/-! ### What decides where a segment goes -/

/-- The store and the words of drives and units are as before. -/
structure StoreSame (s t : State) : Prop where
  segs : t.nvs.segs = s.nvs.segs
  drives : t.nvs.drives = s.nvs.drives
  words : WordsKept (fun a => a ≠ Reg.nvsSegwCtrl ∧ a ≠ Reg.nvsSegop ∧ a ≠ 0x150010) s t

theorem StoreSame.drive (h : StoreSame s t) (d : Nat) : t.drive d = s.drive d := by rw [State.drive, State.drive, h.drives]

theorem StoreSame.domOn (h : StoreSame s t) (d : Nat) : t.domOn d = s.domOn d := h.words.domOn (by decide) (by decide) d

theorem StoreSame.unitState (h : StoreSame s t) (u : Nat) : t.unitState u = s.unitState u :=
  h.words.unitState (by decide) (by decide) (by unfold Reg.svcUnit Reg.nvsSegwCtrl Reg.nvsSegop; omega)

theorem StoreSame.driveOk (h : StoreSame s t) (d : Nat) : t.driveOk d = s.driveOk d := by
  rw [State.driveOk, State.driveOk, h.domOn, h.drive, h.unitState]

theorem StoreSame.driveLive (h : StoreSame s t) (d : Nat) : t.driveLive d = s.driveLive d := by
  rw [State.driveLive, State.driveLive, h.domOn, h.drive, h.unitState]

theorem StoreSame.segOf (h : StoreSame s t) (n : Nat) : t.segOf n = s.segOf n := by
  have hholds : ∀ d, t.holds d n = s.holds d n := fun d => by rw [State.holds, State.holds, h.driveOk, h.drive]
  rw [State.segOf, State.segOf, h.segs]
  simp only [hholds]

theorem StoreSame.segTargets (h : StoreSame s t) (g : Seg) : t.segTargets g = s.segTargets g := by
  have hok : t.driveOk = s.driveOk := funext h.driveOk
  have hfree : t.driveFree = s.driveFree := funext fun d => by
    have hcap : t.rd (Reg.nvsDCap d) = s.rd (Reg.nvsDCap d) := h.words _ (by unfold Reg.nvsDCap Reg.nvsSegwCtrl Reg.nvsSegop; omega)
    rw [State.driveFree, State.driveFree, State.driveExtents, State.driveExtents, State.driveUsed, State.driveUsed, hcap, h.segs, h.drive]
  rw [State.segTargets, State.segTargets, hok, hfree, h.words.flag (x := Reg.plcCtrl) (by decide)]

theorem StoreSame.of_word {a v : Nat} (ha : a = Reg.nvsSegwCtrl ∨ a = Reg.nvsSegop) : StoreSame s (s.wr a v) :=
  ⟨congrArg (·.segs) (State.wr_nvs ..), congrArg (·.drives) (State.wr_nvs ..), .wr (.refl _ s) fun h => ha.elim h.1 h.2.1⟩

theorem State.storeOk_of_words (hwords : WordsKept (fun a => a ≠ Reg.nvsSegwCtrl ∧ a ≠ Reg.nvsSegop) s t) (hmgt : t.mgt = s.mgt) (hpwr : t.pwr = s.pwr) : t.storeOk 3 = s.storeOk 3 := by
  have hhold : t.holdEnergy2 = s.holdEnergy2 := by
    rw [State.holdEnergy2, State.holdEnergy2, hwords.fld (x := Reg.pwrHoldCap) (by decide), hwords.fld (x := Reg.pwrHoldV) (by decide)]
  rw [State.storeOk, State.storeOk, hmgt, hpwr, hhold, hwords.fld (x := Reg.pwrSupStat) (by decide), hwords.fld (x := Reg.pwrHoldCap) (by decide),
    hwords.fld (x := Reg.pwrHoldReserve) (by decide), hwords.fld (x := Reg.pwrStoreEst 3) (by decide)]

/-! ### A segment write begins (R420) -/

/-- The write in progress. -/
def State.withSegw (s : State) (x : Option (Option (Seg × List Bool) × Nat)) (wait : Bool) : State := { s with nvs := { s.nvs with segw := x, segwWait := wait } }

theorem State.segWrite_bad (h : (s.dramRead (s.addr64 Reg.nvsSegwLo Reg.nvsSegwHi) (s.rd Reg.nvsSegwLen)).bind parseSeg = none) :
    s.segWrite = (s.wr Reg.nvsSegwCtrl (2 ^ 31)).withSegw (some (none, 0x1501)) (s.wr Reg.nvsSegwCtrl (2 ^ 31)).nvs.segwWait := by
  unfold State.segWrite
  simp only [h]
  rfl

theorem State.segWrite_full (h : (s.dramRead (s.addr64 Reg.nvsSegwLo Reg.nvsSegwHi) (s.rd Reg.nvsSegwLen)).bind parseSeg = some g) (hfull : s.segTargets g = none) :
    s.segWrite = (s.wr Reg.nvsSegwCtrl (2 ^ 31)).withSegw (some (none, 0x1504)) (s.wr Reg.nvsSegwCtrl (2 ^ 31)).nvs.segwWait := by
  have hfull' : (s.wr Reg.nvsSegwCtrl (2 ^ 31)).segTargets g = none := ((StoreSame.of_word (.inl rfl)).segTargets g).trans hfull
  unfold State.segWrite
  simp only [h, hfull']
  rfl

theorem State.segWrite_room (h : (s.dramRead (s.addr64 Reg.nvsSegwLo Reg.nvsSegwHi) (s.rd Reg.nvsSegwLen)).bind parseSeg = some g) (hroom : s.segTargets g = some on) :
    s.segWrite = (s.wr Reg.nvsSegwCtrl (2 ^ 31)).segStore (g, on) := by
  have hroom' : (s.wr Reg.nvsSegwCtrl (2 ^ 31)).segTargets g = some on := ((StoreSame.of_word (.inl rfl)).segTargets g).trans hroom
  unfold State.segWrite
  simp only [h, hroom']

/-- What the start of a segment's store leaves. -/
structure SegBegun (s t : State) (x : Seg × List Bool) : Prop where
  segw : t.nvs.segw = if s.mgt.restarting || s.storeOk 3 then some (some x, 0) else some (none, 0xC)
  wait : t.nvs.segwWait = s.mgt.restarting
  segs : t.nvs.segs = s.nvs.segs
  words : WordsKept (fun a => a ≠ Reg.pwrStat 2) s t

theorem State.segStore_begun (s : State) (x : Seg × List Bool) : SegBegun s (s.segStore x) x := by
  unfold State.segStore
  by_cases hrestart : s.mgt.restarting = true
  · rw [if_pos hrestart]
    exact ⟨by rw [hrestart]; rfl, hrestart.symm, rfl, fun _ _ => rfl⟩
  · rw [if_neg hrestart]
    by_cases hok : s.storeOk 3 = true
    · rw [if_pos hok]
      exact ⟨by rw [hok, Bool.or_true]; rfl, (eq_false_of_ne_true hrestart).symm, rfl, fun _ _ => rfl⟩
    · rw [if_neg hok]
      exact ⟨by rw [eq_false_of_ne_true hrestart, eq_false_of_ne_true hok]; rfl, (eq_false_of_ne_true hrestart).symm, rfl,
        .regs (.add (.refl _ s) fun h => h rfl) rfl⟩

/-- What an accepted SEGMENT_WRITE leaves, by what its checks find. -/
structure SegwStarted (s t : State) (seg : Option Seg) : Prop where
  busy : t.flag Reg.nvsSegwCtrl 31 = true
  segs : t.nvs.segs = s.nvs.segs
  bad : seg = none → t.nvs.segw = some (none, 0x1501)
  full : ∀ g, seg = some g → s.segTargets g = none → t.nvs.segw = some (none, 0x1504)
  room : ∀ g on, seg = some g → s.segTargets g = some on → t.nvs.segwWait = s.mgt.restarting ∧
    t.nvs.segw = if s.mgt.restarting || s.storeOk 3 then some (some (g, on), 0) else some (none, 0xC)

theorem State.segwBusy (s : State) : (s.wr Reg.nvsSegwCtrl (2 ^ 31)).flag Reg.nvsSegwCtrl 31 = true := by
  rw [State.flag, State.rd_wr_same]
  decide

theorem State.segWrite_started (s : State) : SegwStarted s s.segWrite ((s.dramRead (s.addr64 Reg.nvsSegwLo Reg.nvsSegwHi) (s.rd Reg.nvsSegwLen)).bind parseSeg) := by
  have hstore : (s.wr Reg.nvsSegwCtrl (2 ^ 31)).storeOk 3 = s.storeOk 3 := State.storeOk_of_words (.wr (.refl _ s) fun h => h.1 rfl) (State.wr_mgt ..) (State.wr_pwr ..)
  have hmgt : (s.wr Reg.nvsSegwCtrl (2 ^ 31)).mgt = s.mgt := State.wr_mgt ..
  have hsegs : (s.wr Reg.nvsSegwCtrl (2 ^ 31)).nvs.segs = s.nvs.segs := congrArg (·.segs) (State.wr_nvs ..)
  have hbusy := s.segwBusy
  cases hseg : (s.dramRead (s.addr64 Reg.nvsSegwLo Reg.nvsSegwHi) (s.rd Reg.nvsSegwLen)).bind parseSeg with
  | none =>
    rw [State.segWrite_bad hseg]
    exact ⟨hbusy, hsegs, fun _ => rfl, fun _ h => (nomatch h), fun _ _ h => (nomatch h)⟩
  | some g =>
    cases hto : s.segTargets g with
    | none =>
      rw [State.segWrite_full hseg hto]
      refine ⟨hbusy, hsegs, fun h => (nomatch h), fun _ _ _ => rfl, fun g' on hg hon => ?_⟩
      rw [← Option.some.inj hg, hto] at hon
      cases hon
    | some on =>
      rw [State.segWrite_room hseg hto]
      generalize s.wr Reg.nvsSegwCtrl (2 ^ 31) = w at hstore hmgt hsegs hbusy
      obtain ⟨hsegw, hwait, hws, hwords⟩ := w.segStore_begun (g, on)
      rw [hmgt, hstore] at hsegw
      rw [hmgt] at hwait
      refine ⟨(hwords.flag (by decide) 31).trans hbusy, hws.trans hsegs, fun h => (nomatch h), fun g' hg hon => ?_, fun g' on' hg hon => ?_⟩
      · rw [← Option.some.inj hg, hto] at hon
        cases hon
      · obtain rfl := Option.some.inj hg
        rw [hto] at hon
        obtain rfl := Option.some.inj hon
        exact ⟨hwait, hsegw⟩

/-- The rows of SEGW_CTRL and SEGOP, and their page. -/
def nvsSegwRow : RegRow := row1 "NVS_SEGW_CTRL" 0x5C 0 [fAny 31 31 .w1s, fAny 30 16 .ro, fAny 0 0 .ro]
def nvsSegopRow : RegRow := row1 "NVS_SEGOP" 0x64 0 [{ fAny 1 0 .rw with max := 1 }, fAny 31 31 .w1s]
def nvsPage : PageDef := page 0x15 0 30 0x3F rowsNvs

theorem State.nvsEffect_segw (w : State) (h : bitOf data 31 = true) : w.nvsEffect 0 0x5C data = w.segWrite := by
  rw [State.nvsEffect, if_pos rfl, if_pos ⟨rfl, h⟩]

theorem State.nvsEffect_segop (w : State) (h : bitOf data 31 = true) : w.nvsEffect 0 0x64 data = w.segOp (bitsOf data 1 0) := by
  rw [State.nvsEffect, if_pos rfl, if_neg (fun h => absurd h.1 (by decide)), if_pos ⟨rfl, h⟩]

theorem nvsPage_effect (w : State) (off old : Nat) : w.blockEffect nvsPage off old data = w.nvsEffect 0 off data := rfl

theorem State.writeWord_segw (hacc : s.accepts who Reg.nvsSegwCtrl data) (hbit : bitOf data 31 = true) :
    s.writeWord who Reg.nvsSegwCtrl 4 data = (s.rowStored Reg.nvsSegwCtrl nvsSegwRow data).segWrite := by
  refine (State.writeWord_starts (p := nvsPage) (i := 0) rfl (by decide) (by decide) rfl (by decide) hacc ((nvsPage_effect _ _ _).trans (State.nvsEffect_segw _ hbit)) ?_).2
  exact (State.segWrite_kept.secu.resolve_left (by decide)).trans State.rowStored_secu

theorem State.writeWord_segop (hacc : s.accepts who Reg.nvsSegop data) (hbit : bitOf data 31 = true) :
    nvsSegopRow.laid = true ∧ s.writeWord who Reg.nvsSegop 4 data = (s.rowStored Reg.nvsSegop nvsSegopRow data).segOp (bitsOf data 1 0) := by
  refine State.writeWord_starts (p := nvsPage) (i := 0) rfl (by decide) (by decide) rfl (by decide) hacc ((nvsPage_effect _ _ _).trans (State.nvsEffect_segop _ hbit)) ?_
  exact (State.segOp_kept.secu.resolve_left (by decide)).trans State.rowStored_secu

/-- An accepted SEGMENT_WRITE finds the segment that its words name. -/
theorem State.segwStored_seg (s : State) (data : Nat) : let w := s.rowStored Reg.nvsSegwCtrl nvsSegwRow data
    (w.dramRead (w.addr64 Reg.nvsSegwLo Reg.nvsSegwHi) (w.rd Reg.nvsSegwLen)).bind parseSeg =
      (s.dramRead (s.addr64 Reg.nvsSegwLo Reg.nvsSegwHi) (s.rd Reg.nvsSegwLen)).bind parseSeg := by
  intro w
  have hwords : ∀ a, a ≠ Reg.nvsSegwCtrl → w.rd a = s.rd a := fun a h => State.rowStored_rd _ _ _ _ h
  have hunit : ∀ u, w.unitState u = s.unitState u := fun u =>
    WordsKept.unitState (K := fun a => a ≠ Reg.nvsSegwCtrl) hwords (by decide) (by decide) (by unfold Reg.svcUnit Reg.nvsSegwCtrl; omega)
  have haddr : w.addr64 Reg.nvsSegwLo Reg.nvsSegwHi = s.addr64 Reg.nvsSegwLo Reg.nvsSegwHi := State.addr64_rowStored (by decide) (by decide)
  rw [haddr, hwords _ (by decide), State.dramRead_congr (t := w) (s := s) (State.wr_dimms ..) hunit (State.wr_dram ..) (State.wr_poison ..)]

theorem State.segwStored_started (s : State) (data : Nat) :
    SegwStarted s (s.rowStored Reg.nvsSegwCtrl nvsSegwRow data).segWrite ((s.dramRead (s.addr64 Reg.nvsSegwLo Reg.nvsSegwHi) (s.rd Reg.nvsSegwLen)).bind parseSeg) := by
  have hsame : StoreSame s (s.rowStored Reg.nvsSegwCtrl nvsSegwRow data) := StoreSame.of_word (.inl rfl)
  have hstore : (s.rowStored Reg.nvsSegwCtrl nvsSegwRow data).storeOk 3 = s.storeOk 3 :=
    State.storeOk_of_words (fun a h => State.rowStored_rd _ _ _ _ h.1) State.rowStored_mgt State.rowStored_pwr
  have hmgt : (s.rowStored Reg.nvsSegwCtrl nvsSegwRow data).mgt = s.mgt := State.rowStored_mgt
  obtain ⟨hbusy, hsegs, hbad, hfull, hroom⟩ := (s.rowStored Reg.nvsSegwCtrl nvsSegwRow data).segWrite_started
  rw [s.segwStored_seg data] at hbad hfull hroom
  refine ⟨hbusy, hsegs.trans hsame.segs, hbad, fun g hg hto => hfull g hg ((hsame.segTargets g).trans hto), fun g on hg hto => ?_⟩
  rw [← hmgt, ← hstore]
  exact hroom g on hg ((hsame.segTargets g).trans hto)

/-! ### Metadata on several drives (R418, R427) -/

/-- What metadata writes on the drives of `l` leave, each drive's numbers becoming `h` of them. -/
structure MetaWritten (h : List Nat → List Nat) (l : List Nat) (s t : State) : Prop where
  nvs : ∃ ds, t.nvs = { s.nvs with drives := ds }
  count : t.nvs.drives.length = s.nvs.drives.length
  ready : ∀ d, d < s.nvs.drives.length → (t.drive d).ready = (s.drive d).ready
  named : ∀ d ∈ l, (t.drive d).nums = h (s.drive d).nums
  other : ∀ d, d ∉ l → t.drive d = s.drive d
  words : WordsKept (fun a => a ∉ [Reg.nvsDStat 0 1, Reg.nvsDStat 1 1]) s t
  plc : t.plc = s.plc

/-- One drive's metadata write, with what may be sent after it. -/
structure MetaStep (h : List Nat → List Nat) (f : State → Nat → State) : Prop where
  nvs : ∀ r d, (f r d).nvs = (r.metaWrite d (h (r.drive d).nums)).nvs
  regs : ∀ r d, (f r d).regs = (r.metaWrite d (h (r.drive d).nums)).regs
  plc : ∀ r d, (f r d).plc = r.plc

theorem MetaStep.foldl {h : List Nat → List Nat} {f : State → Nat → State} (hf : MetaStep h f) (l : List Nat) (hl : l.Nodup) :
    ∀ s : State, (∀ d ∈ l, d < s.nvs.drives.length ∧ d < 2) → MetaWritten h l s (l.foldl f s) := by
  induction l with
  | nil => exact fun s _ => ⟨⟨_, rfl⟩, rfl, fun _ _ => rfl, fun _ h => (nomatch h), fun _ _ => rfl, .refl _ s, rfl⟩
  | cons d l ih =>
    intro s hs
    obtain ⟨hd, hl⟩ := List.nodup_cons.1 hl
    obtain ⟨hlen, htwo⟩ := hs d List.mem_cons_self
    obtain ⟨c, hc⟩ := s.metaWrite_spec d (h (s.drive d).nums)
    have hnvs := (hf.nvs s d).trans hc
    have hfirst : (f s d).drive d = { s.drive d with copies := c, nums := h (s.drive d).nums } :=
      (State.drive_of_nvs (s := s.setDrive d { s.drive d with copies := c, nums := h (s.drive d).nums }) hnvs d).trans (State.drive_setDrive_same _ hlen)
    have hrest : ∀ k, k ≠ d → (f s d).drive k = s.drive k := fun k hk =>
      (State.drive_of_nvs (s := s.setDrive d { s.drive d with copies := c, nums := h (s.drive d).nums }) hnvs k).trans (State.drive_setDrive_ne _ hk)
    have hcount : (f s d).nvs.drives.length = s.nvs.drives.length := by rw [hnvs]; exact List.length_set
    have hwords : WordsKept (fun a => a ∉ [Reg.nvsDStat 0 1, Reg.nvsDStat 1 1]) s (f s d) := by
      refine .regs (fun a ha => s.metaWrite_regs d _ a fun hmem => ha ?_) (hf.regs s d)
      rw [List.mem_singleton.1 hmem]
      interval_cases d <;> simp
    obtain ⟨⟨ds, hds⟩, hcount', hready, hnamed, hother, hwords', hplc⟩ := ih hl (f s d) fun k hk => by
      rw [hcount]
      exact hs k (List.mem_cons_of_mem _ hk)
    rw [List.foldl_cons]
    refine ⟨⟨ds, by rw [hds, hnvs]⟩, hcount'.trans hcount, fun k hk => ?_, fun k hk => ?_, fun k hk => ?_, hwords.trans hwords', hplc.trans (hf.plc s d)⟩
    · rw [hready k (hcount ▸ hk)]
      by_cases hkd : k = d
      · rw [hkd, hfirst]
      · rw [hrest k hkd]
    · rcases List.mem_cons.1 hk with rfl | hk
      · rw [hother k hd, hfirst]
      · rw [hnamed k hk, hrest k fun e => hd (e ▸ hk)]
    · rw [List.mem_cons, not_or] at hk
      rw [hother k hk.2, hrest k hk.1]

/-- The drives of the two slots for which `p` holds. -/
theorem mem_slots {p : Nat → Bool} : d ∈ (List.range 2).filter p ↔ d < 2 ∧ p d = true := by rw [List.mem_filter, List.mem_range]

theorem slots_nodup (p : Nat → Bool) : ((List.range 2).filter p).Nodup := List.nodup_range.filter _

theorem State.driveLive_lt (h : s.driveLive d = true) : d < s.nvs.drives.length := by
  rw [State.driveLive, Bool.and_eq_true, Bool.and_eq_true] at h
  exact State.drive_ready_lt h.1.2

/-! ### A segment write ends (R420, R427) -/

/-- The write is over with its code. -/
def State.segwOver (s : State) (code : Nat) : State := ({ s with nvs := { s.nvs with segw := none } }.wr Reg.nvsSegwCtrl (code * 65536 + 1)).raise 0x150000 0

/-- What the end of a segment write shows. -/
structure SegwEnded (code : Nat) (s t : State) : Prop where
  nvs : t.nvs = { s.nvs with segw := none }
  busy : t.flag Reg.nvsSegwCtrl 31 = false
  event : t.flag 0x150010 0 = true
  code : t.fld Reg.nvsSegwCtrl 30 16 = code
  words : WordsKept (fun a => a ≠ Reg.nvsSegwCtrl ∧ a ≠ 0x150010) s t

theorem State.segwOver_ended (s : State) (hcode : code < 2 ^ 15) : SegwEnded code s (s.segwOver code) := by
  have hword : (s.segwOver code).rd Reg.nvsSegwCtrl = code * 65536 + 1 := by
    rw [State.segwOver, State.rd_raise_ne _ _ (by decide), State.rd_wr_same, Nat.mod_eq_of_lt (by omega)]
  refine ⟨(State.raise_nvs ..).trans (State.wr_nvs ..), ?_, State.flag_raise_same _ _ _ (by decide), ?_, .raise (.wr (fun _ _ => rfl) fun h => h.1 rfl) fun h => h.2 rfl⟩
  · rw [State.flag, hword, bitOf, beq_eq_false_iff_ne]
    omega
  · rw [State.fld, hword, bitsOf]
    omega

theorem State.segwDone_waits {x : Seg × List Bool} (h : s.nvs.segw = some (some x, code)) (hwait : s.nvs.segwWait = true) : s.segwDone = s := by
  obtain ⟨g, on⟩ := x
  unfold State.segwDone
  simp only [h]
  exact if_pos hwait

theorem State.segwDone_code (h : s.nvs.segw = some (none, code)) : s.segwDone = s.segwOver code := by
  unfold State.segwDone
  simp only [h]
  rfl

/-- The slots whose drives are still there for a segment that was to go to those of `on`. -/
def State.segwSlots (s : State) (on : List Bool) : List Nat := (List.range 2).filter (fun d => on.getD d false && s.driveLive d)

/-- The segment joins the store under the next number. -/
def State.segJoined (s : State) (g : Seg) : State :=
  { s with nvs := { s.nvs with segs := s.nvs.segs ++ [{ g with num := s.nvs.nextNum }], nextNum := s.nvs.nextNum + 1 } }

theorem State.segwDone_stores (h : s.nvs.segw = some (some (g, on), code)) (hwait : s.nvs.segwWait = false) :
    s.segwDone = if (s.segwSlots on).isEmpty then s.metaEnd.segwOver 0x1506
      else (((s.segwSlots on).foldl (fun r d => r.metaWrite d ((r.drive d).nums ++ [s.nvs.nextNum])) (s.metaEnd.segJoined g)).wr Reg.nvsSegwNum s.nvs.nextNum).segwOver 0 := by
  unfold State.segwDone
  simp only [h]
  exact if_neg (by rw [hwait]; decide)

theorem metaStep_append (n : Nat) : MetaStep (· ++ [n]) (fun r d => r.metaWrite d ((r.drive d).nums ++ [n])) :=
  ⟨fun _ _ => rfl, fun _ _ => rfl, fun _ _ => State.metaWrite_kept.plc.resolve_left (by decide)⟩

/-- The end of a write whose segment stands on some drive. -/
structure SegStands (g : Seg) (on : List Bool) (s t : State) : Prop where
  segs : t.nvs.segs = s.nvs.segs ++ [{ g with num := s.nvs.nextNum }]
  named : ∀ d ∈ s.segwSlots on, (t.drive d).nums = (s.drive d).nums ++ [s.nvs.nextNum]
  other : ∀ d, d ∉ s.segwSlots on → t.drive d = s.drive d
  next : t.nvs.nextNum = s.nvs.nextNum + 1
  num : t.rd Reg.nvsSegwNum = s.nvs.nextNum % 2 ^ 32
  segw : t.nvs.segw = none
  busy : t.flag Reg.nvsSegwCtrl 31 = false
  event : t.flag 0x150010 0 = true
  code : t.fld Reg.nvsSegwCtrl 30 16 = 0

theorem State.segwDone_stands (h : s.nvs.segw = some (some (g, on), code)) (hwait : s.nvs.segwWait = false) (hsome : (s.segwSlots on).isEmpty = false) : SegStands g on s s.segwDone := by
  rw [State.segwDone_stores h hwait, if_neg (by rw [hsome]; decide)]
  have hslots : ∀ d ∈ s.segwSlots on, d < (s.metaEnd.segJoined g).nvs.drives.length ∧ d < 2 := fun d hd => by
    obtain ⟨htwo, hp⟩ := mem_slots.1 hd
    rw [Bool.and_eq_true] at hp
    exact ⟨State.driveLive_lt hp.2, htwo⟩
  have hwrote := (metaStep_append s.nvs.nextNum).foldl (s.segwSlots on) (slots_nodup _) (s.metaEnd.segJoined g) hslots
  generalize (s.segwSlots on).foldl (fun r d => r.metaWrite d ((r.drive d).nums ++ [s.nvs.nextNum])) (s.metaEnd.segJoined g) = w at hwrote ⊢
  obtain ⟨⟨ds, hds⟩, -, -, hnamed, hother, -, -⟩ := hwrote
  have hover := (w.wr Reg.nvsSegwNum s.nvs.nextNum).segwOver_ended (code := 0) (by decide)
  have hdrive : ∀ d, ((w.wr Reg.nvsSegwNum s.nvs.nextNum).segwOver 0).drive d = w.drive d := fun d => by
    rw [State.drive, hover.nvs, State.wr_nvs]
    rfl
  refine ⟨?_, fun d hd => (congrArg Drive.nums (hdrive d)).trans (hnamed d hd), fun d hd => (hdrive d).trans (hother d hd), ?_, ?_, ?_, hover.busy, hover.event, hover.code⟩
  · rw [hover.nvs, State.wr_nvs, hds]
    rfl
  · rw [hover.nvs, State.wr_nvs, hds]
    rfl
  · rw [hover.words _ (by decide), State.rd_wr_same]
  · rw [hover.nvs]

theorem State.segwDone_lost (h : s.nvs.segw = some (some (g, on), code)) (hwait : s.nvs.segwWait = false) (hnone : (s.segwSlots on).isEmpty = true) :
    SegwEnded 0x1506 s s.segwDone := by
  rw [State.segwDone_stores h hwait, if_pos hnone]
  obtain ⟨hnvs, hbusy, hevent, hcode, hwords⟩ := s.metaEnd.segwOver_ended (code := 0x1506) (by decide)
  exact ⟨hnvs, hbusy, hevent, hcode, hwords⟩

theorem State.segwSlots_isEmpty : (s.segwSlots on).isEmpty = true ↔ ¬∃ d, d < 2 ∧ on.getD d false = true ∧ s.driveLive d = true := by
  rw [List.isEmpty_iff, State.segwSlots, List.filter_eq_nil_iff]
  simp only [List.mem_range, Bool.and_eq_true, not_and, not_exists]

/-! ### QUERY and DELETE (R427) -/

/-- The operation in progress. -/
def State.withSegop (s : State) (x : Option (Nat × Nat × Nat)) (wait : Bool) : State := { s with nvs := { s.nvs with segop := x, segopWait := wait } }

theorem State.segDelete_nvs (s : State) (n : Nat) : (s.segDelete n).nvs =
      { s.nvs with segop := some (1, n, if s.mgt.restarting || s.storeOk 3 then 0 else 0xC), segopWait := s.mgt.restarting } ∧
    WordsKept (fun a => a ≠ Reg.pwrStat 2) s (s.segDelete n) := by
  unfold State.segDelete
  by_cases hrestart : s.mgt.restarting = true
  · rw [if_pos hrestart, hrestart]
    exact ⟨rfl, fun _ _ => rfl⟩
  · rw [if_neg hrestart, eq_false_of_ne_true hrestart]
    by_cases hok : s.storeOk 3 = true
    · rw [if_pos hok, hok]
      exact ⟨rfl, fun _ _ => rfl⟩
    · rw [if_neg hok, eq_false_of_ne_true hok]
      exact ⟨rfl, .regs (.add (.refl _ s) fun h => h rfl) rfl⟩

theorem segopStored_busy (hlaid : nvsSegopRow.laid = true) (hbit : bitOf data 31 = true) : (s.rowStored Reg.nvsSegop nvsSegopRow data).flag Reg.nvsSegop 31 = true := by
  have hsticky : (stickyMask Reg.nvsSegop).testBit 31 = true := by decide
  have hset : data.testBit 31 = true := by rw [← bitOf_testBit, hbit]
  rw [State.flag, bitOf_testBit, State.rowStored, State.rd_wr_stored_testBit (f := fAny 31 31 .w1s) hlaid (by decide) (by decide) (by decide), hsticky, hset]
  exact storedBit_sticky _

/-- The word that QUERY and DELETE write. -/
theorem segopWord (data op : Nat) (hop : op < 2) : bitOf (putBits (putBits data 31 31 1) 1 0 op) 31 = true ∧ bitsOf (putBits (putBits data 31 31 1) 1 0 op) 1 0 = op := by
  refine ⟨?_, ?_⟩
  · rw [bitOf_eq, bitsOf_putBits_other _ _ _ _ _ _ (by decide) (by decide) (.inr (by decide)), ← bitOf_eq, bitOf_putBits_one]
  · rw [bitsOf_putBits_same _ _ _ _ (by decide)]
    exact Nat.mod_eq_of_lt (by omega)

/-- The operation is over, with its event. -/
def State.segopOver (s : State) : State := ({ s with nvs := { s.nvs with segop := none } }.setFlag Reg.nvsSegop 31 false).raise 0x150000 1

theorem State.segopOver_same (s : State) : StoreSame s s.segopOver ∧ s.segopOver.nvs = { s.nvs with segop := none } ∧ s.segopOver.flag Reg.nvsSegop 31 = false ∧
    s.segopOver.flag 0x150010 1 = true ∧ s.segopOver.plc = s.plc := by
  have hnvs : s.segopOver.nvs = { s.nvs with segop := none } := (State.raise_nvs ..).trans (State.setFlag_nvs ..)
  refine ⟨⟨by rw [hnvs], by rw [hnvs], .raise (.setFlag (fun _ _ => rfl) fun h => h.2.1 rfl) fun h => h.2.2 rfl⟩, hnvs, ?_, State.flag_raise_same _ _ _ (by decide),
    (State.raise_plc ..).trans (State.setFlag_plc ..)⟩
  rw [State.segopOver, State.flag, State.rd_raise_ne _ _ (by decide), ← State.flag, State.flag_setFlag_same _ _ _ _ (by decide)]

/-- What QUERY shows of a segment. -/
def State.segShown (s : State) (n : Nat) (g : Seg) : State :=
  (((s.wr (Reg.nvsSegopR 0) g.frames).wr (Reg.nvsSegopR 1) g.count).wr (Reg.nvsSegopR 2) (ceilDiv g.len (2 ^ 20))).wr (Reg.nvsSegopR 3)
    (((List.range 2).map (fun d => if s.holds d n then 2 ^ d else 0)).sum)

/-- The drives that are there and hold segment `n`. -/
def State.segopSlots (s : State) (n : Nat) : List Nat := (List.range 2).filter (fun d => s.driveLive d && (s.drive d).nums.contains n)

/-- Segment `n` leaves a drive's metadata and its blocks. -/
def State.segRemoved (n : Nat) (s : State) (d : Nat) : State := (s.metaWrite d ((s.drive d).nums.filter (fun m => m != n))).nvme d 1 .deallocate

/-- Segment `n` leaves the cache. -/
def State.cacheDropped (s : State) (n : Nat) : State := { s with plc := { s.plc with cache := s.plc.cache.filter (fun e => e.seg != n) } }

theorem State.segopDone_waits {op : Nat} (h : s.nvs.segop = some (op, n, code)) (hwait : s.nvs.segopWait = true) : s.segopDone = s := by
  unfold State.segopDone
  simp only [h]
  exact if_pos hwait

theorem State.segopDone_query (h : s.nvs.segop = some (0, n, code)) (hwait : s.nvs.segopWait = false) (hseg : s.segOf n = some g) : s.segopDone = s.segopOver.segShown n g := by
  have hseg' : s.segopOver.segOf n = some g := (s.segopOver_same.1.segOf n).trans hseg
  rw [State.segopOver] at hseg'
  unfold State.segopDone
  simp only [h]
  rw [if_neg (by rw [hwait]; decide), if_pos trivial]
  simp only [hseg']
  rfl

theorem State.segopDone_refused (h : s.nvs.segop = some (1, n, code)) (hwait : s.nvs.segopWait = false) (hcode : code ≠ 0) :
    s.segopDone = s.segopOver.rejectCommit 0x150000 0x64 code := by
  unfold State.segopDone
  simp only [h]
  rw [if_neg (by rw [hwait]; decide), if_neg (by decide)]
  exact if_pos hcode

theorem State.segopDone_delete (h : s.nvs.segop = some (1, n, 0)) (hwait : s.nvs.segopWait = false) :
    s.segopDone = ((s.segopOver.metaEnd.segopSlots n).foldl (State.segRemoved n) s.segopOver.metaEnd).cacheDropped n := by
  unfold State.segopDone
  simp only [h]
  rw [if_neg (by rw [hwait]; decide), if_neg (by decide)]
  exact if_neg (by decide)

theorem metaStep_remove (n : Nat) : MetaStep (·.filter (fun m => m != n)) (State.segRemoved n) :=
  ⟨fun _ _ => State.emit_nvs .., fun _ _ => State.emit_regs .., fun _ _ => (State.emit_plc ..).trans (State.metaWrite_kept.plc.resolve_left (by decide))⟩

/-- What QUERY leaves. -/
structure SegQueried (g : Seg) (s t : State) : Prop where
  nvs : t.nvs = { s.nvs with segop := none }
  busy : t.flag Reg.nvsSegop 31 = false
  event : t.flag 0x150010 1 = true
  frames : t.rd (Reg.nvsSegopR 0) = g.frames % 2 ^ 32
  count : t.rd (Reg.nvsSegopR 1) = g.count % 2 ^ 32
  size : t.rd (Reg.nvsSegopR 2) = ceilDiv g.len (2 ^ 20) % 2 ^ 32

theorem State.segShown_words (s : State) (n : Nat) (g : Seg) : s.wordsBut (s.segShown n g) [Reg.nvsSegopR 0, Reg.nvsSegopR 1, Reg.nvsSegopR 2, Reg.nvsSegopR 3] :=
  State.wordsBut_wr (State.wordsBut_wr (State.wordsBut_wr (State.wordsBut_wr (State.wordsBut_refl _ _) (by simp)) (by simp)) (by simp)) (by simp)

theorem State.segopDone_queried (h : s.nvs.segop = some (0, n, code)) (hwait : s.nvs.segopWait = false) (hseg : s.segOf n = some g) : SegQueried g s s.segopDone := by
  obtain ⟨-, hnvs, hbusy, hevent, -⟩ := s.segopOver_same
  rw [State.segopDone_query h hwait hseg]
  generalize s.segopOver = w at hnvs hbusy hevent ⊢
  have hwords := w.segShown_words n g
  refine ⟨?_, ?_, ?_, ?_, ?_, ?_⟩
  · rw [State.segShown, State.wr_nvs, State.wr_nvs, State.wr_nvs, State.wr_nvs, hnvs]
  · rw [State.flag, hwords _ (by decide), ← State.flag, hbusy]
  · rw [State.flag, hwords _ (by decide), ← State.flag, hevent]
  · rw [State.segShown, State.rd_wr_ne _ _ (by decide), State.rd_wr_ne _ _ (by decide), State.rd_wr_ne _ _ (by decide), State.rd_wr_same]
  · rw [State.segShown, State.rd_wr_ne _ _ (by decide), State.rd_wr_ne _ _ (by decide), State.rd_wr_same]
  · rw [State.segShown, State.rd_wr_ne _ _ (by decide), State.rd_wr_same]

/-- What a refused delete leaves. -/
theorem State.segopDone_refusal (h : s.nvs.segop = some (1, n, code)) (hwait : s.nvs.segopWait = false) (hcode : code ≠ 0) :
    s.segopDone.nvs = { s.nvs with segop := none } ∧ s.segopDone.flag Reg.nvsSegop 31 = false ∧ s.segopDone.flag 0x150010 1 = true := by
  obtain ⟨-, hnvs, hbusy, hevent, -⟩ := s.segopOver_same
  rw [State.segopDone_refused h hwait hcode]
  generalize s.segopOver = w at hnvs hbusy hevent ⊢
  have hwords := w.rejectCommit_wordsBut (b := 0x150000) 0x64 code (by decide)
  have hnext : w.errNext < 64 := Nat.mod_lt _ (by decide)
  have hout : ∀ a, 0x150000 ≤ a → a ≠ 0x15000C → a ∉ errWords w.errNext ++ [0x150000 + 0xC] := fun a ha hne => by
    simp only [errWords, List.mem_append, List.mem_cons, List.not_mem_nil, or_false, Reg.devErrHead, Reg.devErrLost, Reg.devErrTotal, Reg.devErrW0, Reg.devErrW1, Reg.devErrW2, Reg.devErrW3]
    omega
  refine ⟨(State.rejectCommit_kept.nvs.resolve_left (by decide)).trans hnvs, ?_, ?_⟩
  · rw [State.flag, hwords _ (hout _ (by decide) (by decide)), ← State.flag, hbusy]
  · rw [State.flag, hwords _ (hout _ (by decide) (by decide)), ← State.flag, hevent]

/-- What a delete leaves. -/
structure SegDeleted (n : Nat) (s t : State) : Prop where
  gone : t.segOf n = none
  segop : t.nvs.segop = none
  named : ∀ d, d < 2 → s.driveLive d = true → (t.drive d).nums = (s.drive d).nums.filter (fun m => m != n)
  cache : t.plc.cache = s.plc.cache.filter (fun e => e.seg != n)
  busy : t.flag Reg.nvsSegop 31 = false
  event : t.flag 0x150010 1 = true

theorem nums_filter_self {l : List Nat} (h : l.contains n = false) : l.filter (fun m => m != n) = l := by
  refine List.filter_eq_self.2 fun m hm => ?_
  rw [bne_iff_ne]
  rintro rfl
  rw [List.contains_iff_mem.2 hm] at h
  cases h

theorem nums_filter_not {l : List Nat} : (l.filter (fun m => m != n)).contains n = false := by
  rw [← Bool.not_eq_true, List.contains_iff_mem, List.mem_filter]
  exact fun h => absurd h.2 (by simp)

theorem State.cacheDropped_same (s : State) (n : Nat) : (s.cacheDropped n).nvs = s.nvs ∧ WordsKept (fun _ => True) s (s.cacheDropped n) := ⟨rfl, .regs (.refl _ s) rfl⟩

/-- An operation is over, and nothing else has changed. -/
structure OpOver (s t : State) : Prop where
  same : StoreSame s t
  nvs : t.nvs = { s.nvs with segop := none }
  busy : t.flag Reg.nvsSegop 31 = false
  event : t.flag 0x150010 1 = true
  plc : t.plc = s.plc

theorem OpOver.metaEnd (h : OpOver s t) : OpOver s t.metaEnd := by
  have hkept : WordsKept (fun _ => True) t t.metaEnd := .regs (.refl _ t) t.metaEnd_regs
  exact ⟨⟨h.same.segs, h.same.drives, h.same.words.trans fun a _ => hkept a trivial⟩, h.nvs, (hkept.flag trivial 31).trans h.busy, (hkept.flag trivial 1).trans h.event, h.plc⟩

theorem OpOver.deleted {w : State} (hover : OpOver s w) : SegDeleted n s (((w.segopSlots n).foldl (State.segRemoved n) w).cacheDropped n) := by
  obtain ⟨hend, hnvs', hbusy', hevent', hplc'⟩ := hover
  have hslots : ∀ d ∈ w.segopSlots n, d < w.nvs.drives.length ∧ d < 2 := fun d hd => by
    obtain ⟨htwo, hp⟩ := mem_slots.1 hd
    rw [Bool.and_eq_true] at hp
    exact ⟨State.driveLive_lt hp.1, htwo⟩
  obtain ⟨⟨ds, hds⟩, -, hready, hnamed, hother, hwords, hkeep⟩ := (metaStep_remove n).foldl (w.segopSlots n) (slots_nodup _) w hslots
  generalize (w.segopSlots n).foldl (State.segRemoved n) w = v at hds hready hnamed hother hwords hkeep ⊢
  have hnums : ∀ d, d < 2 → w.driveLive d = true → (v.drive d).nums = (w.drive d).nums.filter (fun m => m != n) := fun d hd hlive => by
    by_cases hc : (w.drive d).nums.contains n = true
    · exact hnamed d (mem_slots.2 ⟨hd, by rw [hlive, hc]; rfl⟩)
    · rw [hother d fun hm => hc (by have := (mem_slots.1 hm).2; rw [Bool.and_eq_true] at this; exact this.2), nums_filter_self ((eq_false_of_ne_true hc))]
  refine ⟨?_, ?_, fun d hd hlive => ?_, ?_, ?_, ?_⟩
  · have hnone : ∀ d, d < 2 → (v.cacheDropped n).holds d n = false := fun d hd => by
      rw [State.holds]
      by_cases hok : (v.cacheDropped n).driveOk d = true
      · have hcopy : v.driveOk d = true := hok
        have hwd : w.driveOk d = true := by
          rw [State.driveOk, Bool.and_eq_true, Bool.and_eq_true] at hcopy ⊢
          have hlen : d < w.nvs.drives.length := by
            by_contra hout
            have hv : v.drive d = Drive.reset := by
              rw [hother d fun hm => hout (hslots d hm).1, State.drive]
              simp [Nat.le_of_not_lt hout]
            rw [hv] at hcopy
            exact absurd hcopy.1.2 (by decide)
          rw [hwords.domOn (by decide) (by decide), hready d hlen, hwords.unitState (by decide) (by decide) (by interval_cases d <;> decide)] at hcopy
          exact hcopy
        have hlive : w.driveLive d = true := by
          rw [State.driveOk, Bool.and_eq_true, Bool.and_eq_true, beq_iff_eq] at hwd
          rw [State.driveLive, hwd.1.1, hwd.1.2, hwd.2]
          rfl
        rw [State.drive_of_nvs (v.cacheDropped_same n).1, hnums d hd hlive, nums_filter_not, Bool.and_false]
      · rw [eq_false_of_ne_true hok, Bool.false_and]
    rw [State.segOf, List.find?_eq_none]
    intro g _ hg
    rw [Bool.and_eq_true, List.any_eq_true] at hg
    obtain ⟨d, hmem, hholds⟩ := hg.2
    rw [hnone d (List.mem_range.1 hmem)] at hholds
    cases hholds
  · rw [(v.cacheDropped_same n).1, hds, hnvs']
  · rw [← hend.drive d, State.drive_of_nvs (v.cacheDropped_same n).1]
    exact hnums d hd ((hend.driveLive d).trans hlive)
  · show v.plc.cache.filter _ = _
    rw [hkeep, hplc']
  · exact ((v.cacheDropped_same n).2.flag trivial 31).trans ((hwords.flag (by decide) 31).trans hbusy')
  · exact ((v.cacheDropped_same n).2.flag trivial 1).trans ((hwords.flag (by decide) 1).trans hevent')

theorem State.segopDone_deleted (h : s.nvs.segop = some (1, n, 0)) (hwait : s.nvs.segopWait = false) : SegDeleted n s s.segopDone := by
  obtain ⟨hsame, hnvs, hbusy, hevent, hplc⟩ := s.segopOver_same
  rw [State.segopDone_delete h hwait]
  exact (OpOver.metaEnd ⟨hsame, hnvs, hbusy, hevent, hplc⟩).deleted

end

end Sys2Proof.Machine

/-! SUPPORT. O51: the drives and the segments of the content store (R416-R420, R427, R428). -/

namespace Sys2Proof.Machine

section
variable {s t u : State} {d k i n code data : Nat} {who : Requester} {g : Seg} {on : List Bool}

/-! ### INIT as a whole (R428) -/

/-- What an accepted INIT leaves, by whether Marigold restarts. -/
theorem State.initStore_stored (hd : d < 2) (s : State) (data : Nat) : let t := (s.rowStored (Reg.nvsDCtrl d) nvsDCtrlRow data).initStore d
    t.nvs.segs = s.nvs.segs ∧ (s.mgt.restarting = true → d < s.nvs.drives.length → t.drive d = { s.drive d with initDue := true }) ∧
    (s.mgt.restarting = false → DriveEmptied d s t) := by
  have hnvs : (s.rowStored (Reg.nvsDCtrl d) nvsDCtrlRow data).nvs = s.nvs := State.rowStored_nvs
  have hmgt : (s.rowStored (Reg.nvsDCtrl d) nvsDCtrlRow data).mgt = s.mgt := State.rowStored_mgt
  have hflag : (s.rowStored (Reg.nvsDCtrl d) nvsDCtrlRow data).flag (Reg.nvsDStatus d) 11 = s.flag (Reg.nvsDStatus d) 11 := by
    rw [State.flag, State.rowStored_rd _ _ _ _ (by unfold Reg.nvsDStatus Reg.nvsDCtrl; omega), ← State.flag]
  generalize s.rowStored (Reg.nvsDCtrl d) nvsDCtrlRow data = w at hnvs hmgt hflag
  dsimp only
  rw [State.initStore, hmgt]
  have hdrive : w.drive d = s.drive d := State.drive_of_nvs hnvs d
  cases hrestart : s.mgt.restarting with
  | true =>
    rw [if_pos rfl]
    refine ⟨congrArg (·.segs) hnvs, fun _ hlen => ?_, (fun h => nomatch h)⟩
    rw [State.drive_setDrive_same _ (by rw [hnvs]; exact hlen), hdrive]
  | false =>
    rw [if_neg Bool.false_ne_true]
    obtain ⟨hsegs, hcode, hshown, hempty⟩ := w.driveInit_emptied d
    rw [hnvs] at hsegs hempty
    rw [hflag] at hshown hempty
    exact ⟨hsegs, (fun h => nomatch h), fun _ => ⟨hsegs, hcode, hshown, hempty⟩⟩

theorem State.segOp_query (s : State) : (s.segOp 0).nvs = { s.nvs with segop := some (0, s.rd Reg.nvsSegopNum, 0), segopWait := false } ∧
    WordsKept (fun _ => True) s (s.segOp 0) := by
  rw [State.segOp, if_pos rfl]
  exact ⟨rfl, .regs (.refl _ s) rfl⟩

/-- What an accepted QUERY or DELETE stores. -/
structure SegopStored (s t : State) : Prop where
  busy : t.flag Reg.nvsSegop 31 = true
  num : t.rd Reg.nvsSegopNum = s.rd Reg.nvsSegopNum
  nvs : t.nvs = s.nvs
  mgt : t.mgt = s.mgt
  store : t.storeOk 3 = s.storeOk 3
  words : s.wordsBut t [Reg.nvsSegop]

theorem State.segop_stored (hlaid : nvsSegopRow.laid = true) (hbit : bitOf data 31 = true) : SegopStored s (s.rowStored Reg.nvsSegop nvsSegopRow data) :=
  ⟨segopStored_busy hlaid hbit, State.rowStored_rd _ _ _ _ (by decide), State.rowStored_nvs, State.rowStored_mgt,
    State.storeOk_of_words (fun _ h => State.rowStored_rd _ _ _ _ h.2) State.rowStored_mgt State.rowStored_pwr, State.rowStored_words s _ _ _⟩

theorem SegopStored.query (h : SegopStored s t) : (t.segOp 0).flag Reg.nvsSegop 31 = true ∧
    (t.segOp 0).nvs = { s.nvs with segop := some (0, s.rd Reg.nvsSegopNum, 0), segopWait := false } ∧ s.wordsBut (t.segOp 0) [Reg.nvsSegop] := by
  obtain ⟨hnvs, hwords⟩ := t.segOp_query
  exact ⟨(hwords.flag trivial 31).trans h.busy, by rw [hnvs, h.nvs, h.num], fun a ha => (hwords a trivial).trans (h.words a ha)⟩

theorem SegopStored.delete (h : SegopStored s t) : (t.segOp 1).flag Reg.nvsSegop 31 = true ∧ (t.segOp 1).nvs =
    { s.nvs with segop := some (1, s.rd Reg.nvsSegopNum, if s.mgt.restarting || s.storeOk 3 then 0 else 0xC), segopWait := s.mgt.restarting } := by
  obtain ⟨hdnvs, hdwords⟩ := t.segDelete_nvs (t.rd Reg.nvsSegopNum)
  rw [h.nvs, h.mgt, h.store, h.num] at hdnvs
  rw [h.num] at hdwords
  rw [State.segOp, h.num, if_neg (by decide)]
  exact ⟨(hdwords.flag (by decide) 31).trans h.busy, hdnvs⟩

end

/-- Settles O51: drives and segments, each step by the lemma that says what it leaves. -/
theorem contentSegments : Obligations.ContentSegments := by
  unfold Obligations.ContentSegments
  intro s who data t
  refine ⟨fun d hd => ⟨fun hacc => ?_, fun copies cap gen width health fmt hon hstate hbist => ?_, fun hpres present => ?_, fun hok issued hlate aborted => ?_⟩,
    fun hacc => ?_, fun x code hsegw hcode hwait hx => ?_, fun x code hsegw hcode hwait => ?_, fun hacc => ?_, fun hacc => ?_, fun n hsegop hwait => ?_,
    fun n code hsegop hcode hwait => ?_, fun op n g hseg hwait => ⟨fun hsegop => ?_, fun hsegop => ?_⟩⟩
  · obtain ⟨hsegs, hwaits, hempty⟩ := State.initStore_stored hd s (putBits data.toNat 0 0 1)
    refine ⟨_, congrArg finish (State.writeWord_nvsDCtrl hd hacc (bitOf_putBits_one _ _)), ?_⟩
    rw [settle_nvs, settle_drive, settle_fld, settle_flag]
    exact ⟨hsegs, hwaits, fun h => ⟨(hempty h).code, (hempty h).shown, (hempty h).drive⟩⟩
  · have hin : DriveInserted d copies (metaCode fmt copies == 1) cap (s.at t) _ :=
      State.driveInsert_inserted (gen := gen) (width := width) (health := health) (s := s.at t) hd hon hstate hbist
    refine ⟨_, rfl, ?_⟩
    rw [settle_unitState, settle_flag, settle_flag, settle_rd, settle_drive, settle_flag]
    exact ⟨hin.unit, hin.shown.present, hin.shown.ready, hin.shown.cap, fun hlen => ⟨(hin.drive hlen).1, fun i m hcode => (hin.drive hlen).2 i m (beq_iff_eq.2 hcode)⟩, hin.event⟩
  · have hlost := State.driveLost_lost (s := s.at t) hd hpres present
    refine ⟨_, rfl, ?_⟩
    rw [settle_unitState, settle_drive, settle_nvs, settle_flag, settle_flag, settle_flag, settle_flag]
    exact ⟨hlost.unit, hlost.here, hlost.ready, hlost.segs, hlost.valid, hlost.power, hlost.gone, hlost.stays⟩
  · have hrun : exec (.nvmeCommandTimeout d ⟨issued, aborted⟩ t) s = finish ((s.at t).timeoutWhole d issued aborted) := rfl
    have hunit : s.unitState (131 + d) = 0 := by
      rw [State.driveOk, Bool.and_eq_true, beq_iff_eq] at hok
      exact hok.2
    refine ⟨_, hrun, ?_⟩
    rw [settle_flag, settle_rd, settle_drive, settle_unitState, settle_rd, settle_flag]
    cases aborted with
    | true =>
      obtain ⟨hlater, hresets, hstate⟩ := State.timeout_aborted (s := s.at t) hd hok hlate
      exact ⟨hlater.event, hlater.count, fun _ => ⟨hresets, hstate.trans hunit⟩, (fun h => nomatch h)⟩
    | false =>
      rcases Nat.lt_or_ge (s.drive d).resets 2 with hfew | hmany
      · obtain ⟨hreset, hresets, hstate⟩ := State.timeout_reset (s := s.at t) hd hok hlate hfew
        exact ⟨hreset.late.event, hreset.late.count, (fun h => nomatch h), fun _ => ⟨hreset.count, fun _ => ⟨hresets, hstate.trans hunit⟩, fun h => absurd h (Nat.not_le.2 hfew)⟩⟩
      · obtain ⟨hreset, hstate, hready, hevent⟩ := State.timeout_failed (s := s.at t) hd hok hlate hmany
        exact ⟨hreset.late.event, hreset.late.count, (fun h => nomatch h), fun _ => ⟨hreset.count, fun h => absurd h (Nat.not_lt.2 hmany), fun _ => ⟨hstate, hready, hevent⟩⟩⟩
  · obtain ⟨hbusy, hsegs, hbad, hfull, hroom⟩ := s.segwStored_started (putBits data.toNat 31 31 1)
    refine ⟨_, congrArg finish (State.writeWord_segw hacc (bitOf_putBits_one _ _)), ?_⟩
    rw [settle_flag, settle_nvs]
    exact ⟨hbusy, hsegs, hbad, fun g hg => ⟨hfull g hg, fun on hon => hroom g on hg hon⟩⟩
  · obtain ⟨y, rfl⟩ := Option.isSome_iff_exists.1 hx
    refine ⟨_, congrArg finish (State.segwDone_waits (s := s.at t) hsegw hwait), ?_⟩
    rw [settle_nvs]
    rfl
  · refine ⟨_, rfl, ?_⟩
    rw [settle_nvs, settle_flag, settle_flag, settle_fld, settle_rd]
    cases x with
    | none =>
      obtain ⟨hnvs, hbusy, hevent, hshown, -⟩ := (s.at t).segwOver_ended hcode
      rw [State.segwDone_code (s := s.at t) hsegw]
      exact ⟨by rw [hnvs], hbusy, hevent, fun _ => ⟨by rw [hnvs]; rfl, hshown⟩, (fun g on h => nomatch h)⟩
    | some x =>
      obtain ⟨g, on⟩ := x
      have hslots := State.segwSlots_isEmpty (s := s.at t) (on := on)
      by_cases hnone : ((s.at t).segwSlots on).isEmpty = true
      · obtain ⟨hnvs, hbusy, hevent, hshown, -⟩ := State.segwDone_lost (s := s.at t) hsegw hwait hnone
        refine ⟨by rw [hnvs], hbusy, hevent, (fun h => nomatch h), fun g' on' hx => ?_⟩
        obtain ⟨rfl, rfl⟩ := Prod.mk.inj (Option.some.inj hx)
        exact ⟨fun h => absurd h (hslots.1 hnone), fun _ => ⟨by rw [hnvs]; rfl, by rw [hnvs]; rfl, hshown⟩⟩
      · have hstands := State.segwDone_stands (s := s.at t) hsegw hwait (eq_false_of_ne_true hnone)
        refine ⟨hstands.segw, hstands.busy, hstands.event, (fun h => nomatch h), fun g' on' hx => ?_⟩
        obtain ⟨rfl, rfl⟩ := Prod.mk.inj (Option.some.inj hx)
        have hmem : ∀ d, d ∈ (s.at t).segwSlots on ↔ d < 2 ∧ on.getD d false = true ∧ s.driveLive d = true := fun d => by
          rw [State.segwSlots, mem_slots, Bool.and_eq_true]
          rfl
        refine ⟨fun _ => ⟨hstands.segs, fun d hd => ?_, fun d hd => ?_, hstands.next, hstands.num, hstands.code⟩, fun h => absurd (hslots.2 h) hnone⟩
        · rw [settle_drive]
          exact hstands.named d ((hmem d).2 hd)
        · rw [settle_drive]
          exact hstands.other d fun h => hd ((hmem d).1 h)
  · obtain ⟨hbit, hop⟩ := segopWord data.toNat 0 (by decide)
    obtain ⟨hlaid, hwrite⟩ := State.writeWord_segop hacc hbit
    obtain ⟨hbusy, hnvs, hwords⟩ := (State.segop_stored (s := s) hlaid hbit).query
    refine ⟨_, congrArg finish (hwrite.trans (by rw [hop])), ?_⟩
    rw [settle_flag, settle_nvs]
    exact ⟨hbusy, hnvs, State.wordsBut_settle hwords⟩
  · obtain ⟨hbit, hop⟩ := segopWord data.toNat 1 (by decide)
    obtain ⟨hlaid, hwrite⟩ := State.writeWord_segop hacc hbit
    obtain ⟨hbusy, hnvs⟩ := (State.segop_stored (s := s) hlaid hbit).delete
    refine ⟨_, congrArg finish (hwrite.trans (by rw [hop])), ?_⟩
    rw [settle_flag, settle_nvs]
    exact ⟨hbusy, hnvs⟩
  · refine ⟨_, congrArg finish (State.segopDone_waits (s := s.at t) hsegop hwait), ?_⟩
    rw [settle_nvs]
    rfl
  · obtain ⟨hnvs, hbusy, hevent⟩ := State.segopDone_refusal (s := s.at t) hsegop hwait hcode
    refine ⟨_, rfl, ?_⟩
    rw [settle_nvs, settle_flag, settle_flag]
    exact ⟨hnvs, hbusy, hevent⟩
  · obtain ⟨hnvs, hbusy, hevent, hframes, hcount, hsize⟩ := State.segopDone_queried (s := s.at t) hsegop hwait hseg
    refine ⟨_, rfl, ?_⟩
    rw [settle_nvs, settle_flag, settle_flag, settle_rd, settle_rd, settle_rd]
    exact ⟨hnvs, hbusy, hevent, hframes, hcount, hsize⟩
  · obtain ⟨hgone, hnone, hnamed, hcache, hbusy, hevent⟩ := State.segopDone_deleted (s := s.at t) hsegop hwait
    have hsettle : ∀ v : State, StoreSame v (settle v) := fun v => ⟨by rw [settle_nvs], by rw [settle_nvs], fun a _ => settle_rd v a⟩
    refine ⟨_, rfl, ?_⟩
    rw [(hsettle _).segOf, settle_nvs, settle_plc, settle_flag, settle_flag]
    exact ⟨hgone, hnone, fun d hd hlive => by rw [settle_drive]; exact hnamed d hd hlive, hcache, hbusy, hevent⟩

end Sys2Proof.Machine

/-! SUPPORT. Lanes that come up, fail, retry and are commanded, for O53 (R431-R440). -/

namespace Sys2Proof.Machine

section
variable {s t u : State} {n k v i data cause : Nat} {who : Requester}

/-! ### The settings in force after a bring-up (R437, R439) -/

theorem State.eqNow_of_words (h1 : t.rd (Reg.lnkLTxeqNow n) = s.rd (Reg.lnkLTxeqNow n)) (h2 : t.rd (Reg.lnkLRxeq0Now n) = s.rd (Reg.lnkLRxeq0Now n))
    (h3 : t.rd (Reg.lnkLRxeq1Now n) = s.rd (Reg.lnkLRxeq1Now n)) : t.eqNow n = s.eqNow n := by rw [State.eqNow, State.eqNow, h1, h2, h3]

theorem State.eqNow_of_kept {K : Nat → Prop} (h : WordsKept K s t) (h1 : K (Reg.lnkLTxeqNow n)) (h2 : K (Reg.lnkLRxeq0Now n)) (h3 : K (Reg.lnkLRxeq1Now n)) : t.eqNow n = s.eqNow n :=
  State.eqNow_of_words (h _ h1) (h _ h2) (h _ h3)

theorem settle_eqNow (s : State) (n : Nat) : (settle s).eqNow n = s.eqNow n := State.eqNow_of_words (settle_rd _ _) (settle_rd _ _) (settle_rd _ _)

theorem settle_lane (s : State) (n : Nat) : (settle s).lane n = s.lane n := by rw [State.lane, State.lane, settle_lanes]

theorem State.laneRun_eqNow (hn : n < 84) (s : State) (load : Bool) :
    (s.laneRun n load).eqNow n = (if load then (s.laneFreed n).laneLoaded n else s.laneFreed n).eqNow n := by
  rw [State.laneRun_eq]
  obtain ⟨htx, hrx0, hrx1⟩ := lnkEq_outsideState hn
  generalize (if load then (s.laneFreed n).laneLoaded n else s.laneFreed n) = m
  have hidle : WordsKept (fun _ => True) (m.laneBegun n) ((m.laneBegun n).laneIdle n) := .regs (.refl _ _) ((m.laneBegun n).laneIdle_regs n).1
  rw [State.eqNow_of_kept hidle trivial trivial trivial, State.eqNow_of_kept (m.laneBegun_spec hn).1 htx hrx0 hrx1]

theorem State.laneFreed_eq (s : State) (n : Nat) : (s.laneFreed n).eqNow n = s.eqNow n ∧ (s.laneFreed n).eqRegs n = s.eqRegs n := by
  have hwords := (s.laneFreed_spec n).1
  have hne : Reg.lnkLTxeqNow n ≠ Reg.lnkLCtrl n ∧ Reg.lnkLRxeq0Now n ≠ Reg.lnkLCtrl n ∧ Reg.lnkLRxeq1Now n ≠ Reg.lnkLCtrl n ∧ Reg.lnkLTxeq n ≠ Reg.lnkLCtrl n ∧
      Reg.lnkLRxeq0 n ≠ Reg.lnkLCtrl n ∧ Reg.lnkLRxeq1 n ≠ Reg.lnkLCtrl n := by
    unfold Reg.lnkLTxeqNow Reg.lnkLRxeq0Now Reg.lnkLRxeq1Now Reg.lnkLTxeq Reg.lnkLRxeq0 Reg.lnkLRxeq1 Reg.lnkLCtrl
    omega
  obtain ⟨h1, h2, h3, h4, h5, h6⟩ := hne
  exact ⟨State.eqNow_of_kept hwords h1 h2 h3, by rw [State.eqRegs, State.eqRegs, hwords _ h4, hwords _ h5, hwords _ h6]⟩

/-- A retry keeps the settings in force. -/
theorem State.laneRun_kept_eqNow (hn : n < 84) (s : State) : (s.laneRun n false).eqNow n = s.eqNow n := by
  rw [State.laneRun_eqNow hn, if_neg Bool.false_ne_true, (s.laneFreed_eq n).1]

/-- A bring-up afresh takes the settings of the register source where that is selected. -/
theorem State.laneStart_eqNow (hn : n < 84) (hpcie : lanePcie n = false) (hsource : s.flag Reg.lnkCtrl 0 = false) (hlen : n < s.lanes.length) :
    (s.laneStart n).eqNow n = s.eqRegs n := by
  obtain ⟨hfwords, hflanes, -⟩ := (s.setLane n { s.lane n with tries := 0 }).laneFreed_spec n
  obtain ⟨-, -, -, hload⟩ := ((s.setLane n { s.lane n with tries := 0 }).laneFreed n).laneLoaded_spec n
  rw [State.laneStart, State.laneRun_eqNow hn, if_pos rfl, hload hpcie ((hfwords.flag (by unfold Reg.lnkCtrl Reg.lnkLCtrl; omega) 0).trans hsource)
    (by rw [hflanes, State.setLane_count]; exact hlen), (State.laneFreed_eq _ n).2]
  rfl

/-- What an enabled lane shows. -/
theorem State.laneEnable_ran (hn : n < 84) (howned : s.laneOwned n = true) (hstate : s.laneState n = 0 ∨ s.laneState n = 3) : s.laneEnable n = s.laneStart n := by
  rw [State.laneEnable, if_pos ⟨hn, howned⟩, if_pos hstate]

/-! ### A lane is READY or in LOOP (R431-R433) -/

/-- The settings that bring-up ends with: those of PCIe equalisation and those of the receiver that adapts. -/
def State.laneSettled (s : State) (n tx : Nat) (rx : Nat × Nat) : State :=
  let s := s.setLane n { s.lane n with tries := 0 }
  let s := if lanePcie n then s.wr (Reg.lnkLTxeqNow n) tx else s
  let s := if lanePanel n then s else s.setFlag (Reg.lnkLStatus n) 3 true
  if s.flag (Reg.lnkLCtrl n) 8 && !lanePanel n then (s.wr (Reg.lnkLRxeq0Now n) rx.1).wr (Reg.lnkLRxeq1Now n) rx.2 else s

theorem State.laneReady_eq (hn : n < 84) (hstate : s.laneState n = 1) (tx : Nat) (rx : Nat × Nat) :
    s.laneReady n tx rx = ((s.laneSettled n tx rx).setLaneState n (if loops n ((s.laneSettled n tx rx).rd (Reg.lnkLCtrl n)) then 3 else 2)).raise 0x160000 1 := by
  rw [State.laneReady, if_pos ⟨hn, hstate⟩]
  rfl

/-- What the settings that bring-up ends with leave. -/
structure LaneSettings (n tx : Nat) (rx : Nat × Nat) (s t : State) : Prop where
  ctrl : t.rd (Reg.lnkLCtrl n) = s.rd (Reg.lnkLCtrl n)
  tx : lanePcie n = true → t.rd (Reg.lnkLTxeqNow n) = tx % 2 ^ 32
  rx : lanePanel n = false → s.flag (Reg.lnkLCtrl n) 8 = true → t.rd (Reg.lnkLRxeq0Now n) = rx.1 % 2 ^ 32 ∧ t.rd (Reg.lnkLRxeq1Now n) = rx.2 % 2 ^ 32

/-- The transmit setting is what PCIe equalisation selected. -/
def State.laneTx (s : State) (n tx : Nat) : State := if lanePcie n then s.wr (Reg.lnkLTxeqNow n) tx else s

/-- A receiver of the main die is locked. -/
def State.laneLocked (s : State) (n : Nat) : State := if lanePanel n then s else s.setFlag (Reg.lnkLStatus n) 3 true

/-- The receive settings are what the receiver has adapted to. -/
def State.laneRx (s : State) (n : Nat) (rx : Nat × Nat) : State :=
  if s.flag (Reg.lnkLCtrl n) 8 && !lanePanel n then (s.wr (Reg.lnkLRxeq0Now n) rx.1).wr (Reg.lnkLRxeq1Now n) rx.2 else s

theorem State.laneSettled_eq (s : State) (n tx : Nat) (rx : Nat × Nat) :
    s.laneSettled n tx rx = (((s.setLane n { s.lane n with tries := 0 }).laneTx n tx).laneLocked n).laneRx n rx := rfl

theorem State.laneTx_spec (s : State) (n tx : Nat) : WordsKept (fun a => a ≠ Reg.lnkLTxeqNow n) s (s.laneTx n tx) ∧
    (lanePcie n = true → (s.laneTx n tx).rd (Reg.lnkLTxeqNow n) = tx % 2 ^ 32) := by
  refine ⟨.ite (.wr (.refl _ s) fun h => h rfl) (.refl _ s), fun h => ?_⟩
  rw [State.laneTx, if_pos h, State.rd_wr_same]

theorem State.laneRx_spec (s : State) (n : Nat) (rx : Nat × Nat) : WordsKept (fun a => a ≠ Reg.lnkLRxeq0Now n ∧ a ≠ Reg.lnkLRxeq1Now n) s (s.laneRx n rx) ∧
    (lanePanel n = false → s.flag (Reg.lnkLCtrl n) 8 = true → (s.laneRx n rx).rd (Reg.lnkLRxeq0Now n) = rx.1 % 2 ^ 32 ∧ (s.laneRx n rx).rd (Reg.lnkLRxeq1Now n) = rx.2 % 2 ^ 32) := by
  refine ⟨.ite (.wr (.wr (.refl _ s) fun h => h.1 rfl) fun h => h.2 rfl) (.refl _ s), fun hpanel hadapt => ?_⟩
  have hne : Reg.lnkLRxeq0Now n ≠ Reg.lnkLRxeq1Now n := by
    unfold Reg.lnkLRxeq0Now Reg.lnkLRxeq1Now
    omega
  rw [State.laneRx, hpanel, hadapt, if_pos (by decide), State.rd_wr_ne _ _ hne, State.rd_wr_same, State.rd_wr_same]
  exact ⟨rfl, rfl⟩

theorem State.laneSettled_spec (s : State) (n tx : Nat) (rx : Nat × Nat) : LaneSettings n tx rx s (s.laneSettled n tx rx) := by
  have hne : Reg.lnkLCtrl n ≠ Reg.lnkLTxeqNow n ∧ Reg.lnkLCtrl n ≠ Reg.lnkLStatus n ∧ Reg.lnkLCtrl n ≠ Reg.lnkLRxeq0Now n ∧ Reg.lnkLCtrl n ≠ Reg.lnkLRxeq1Now n ∧
      Reg.lnkLTxeqNow n ≠ Reg.lnkLStatus n ∧ Reg.lnkLTxeqNow n ≠ Reg.lnkLRxeq0Now n ∧ Reg.lnkLTxeqNow n ≠ Reg.lnkLRxeq1Now n := by
    unfold Reg.lnkLCtrl Reg.lnkLTxeqNow Reg.lnkLStatus Reg.lnkLRxeq0Now Reg.lnkLRxeq1Now
    omega
  obtain ⟨hct, hcs, hc0, hc1, hts, ht0, ht1⟩ := hne
  rw [State.laneSettled_eq]
  have hset : WordsKept (fun _ => True) s (s.setLane n { s.lane n with tries := 0 }) := .regs (.refl _ s) rfl
  obtain ⟨htwords, htx⟩ := (s.setLane n { s.lane n with tries := 0 }).laneTx_spec n tx
  have hlocked : WordsKept (fun a => a ≠ Reg.lnkLStatus n) ((s.setLane n { s.lane n with tries := 0 }).laneTx n tx)
      (((s.setLane n { s.lane n with tries := 0 }).laneTx n tx).laneLocked n) := .ite (.refl _ _) (.setFlag (.refl _ _) fun h => h rfl)
  obtain ⟨hrwords, hrx⟩ := (((s.setLane n { s.lane n with tries := 0 }).laneTx n tx).laneLocked n).laneRx_spec n rx
  have hctrl := (hlocked _ hcs).trans ((htwords _ hct).trans (hset _ trivial))
  refine ⟨(hrwords _ ⟨hc0, hc1⟩).trans hctrl, fun h => (hrwords _ ⟨ht0, ht1⟩).trans ((hlocked _ hts).trans (htx h)), fun hpanel hadapt => hrx hpanel ?_⟩
  rw [State.flag, hctrl, ← State.flag, hadapt]

theorem lnkEvents_ne (hn : n < 84) : Reg.lnkLStatus n ≠ 0x160000 + 0x10 ∧ Reg.lnkReady (n / 32) ≠ 0x160000 + 0x10 ∧ Reg.lnkLTxeqNow n ≠ 0x160000 + 0x10 ∧
    Reg.lnkLRxeq0Now n ≠ 0x160000 + 0x10 ∧ Reg.lnkLRxeq1Now n ≠ 0x160000 + 0x10 := by
  unfold Reg.lnkLStatus Reg.lnkReady Reg.lnkLTxeqNow Reg.lnkLRxeq0Now Reg.lnkLRxeq1Now
  omega

/-- What the end of a bring-up leaves. -/
structure LaneUp (n tx : Nat) (rx : Nat × Nat) (s t : State) : Prop where
  state : t.laneState n = if loops n (s.rd (Reg.lnkLCtrl n)) then 3 else 2
  event : t.flag 0x160010 1 = true
  ready : t.flag (Reg.lnkReady (n / 32)) (n % 32) = !loops n (s.rd (Reg.lnkLCtrl n))
  tx : lanePcie n = true → t.rd (Reg.lnkLTxeqNow n) = tx % 2 ^ 32
  rx : lanePanel n = false → s.flag (Reg.lnkLCtrl n) 8 = true → t.rd (Reg.lnkLRxeq0Now n) = rx.1 % 2 ^ 32 ∧ t.rd (Reg.lnkLRxeq1Now n) = rx.2 % 2 ^ 32

theorem State.laneReady_up (hn : n < 84) (hstate : s.laneState n = 1) (tx : Nat) (rx : Nat × Nat) : LaneUp n tx rx s (s.laneReady n tx rx) := by
  obtain ⟨hctrl, htx, hrx⟩ := s.laneSettled_spec n tx rx
  rw [State.laneReady_eq hn hstate, hctrl]
  have hshown := (s.laneSettled n tx rx).setLaneState_shown hn (if loops n (s.rd (Reg.lnkLCtrl n)) then 3 else 2)
  obtain ⟨hns, hnr, hnt, hn0, hn1⟩ := lnkEvents_ne hn
  obtain ⟨ht, h0, h1⟩ := lnkEq_outsideState hn
  refine ⟨?_, State.flag_raise_same _ _ _ (by decide), ?_, fun h => ?_, fun hpanel hadapt => ?_⟩
  · rw [State.laneState, State.fld, State.rd_raise_ne _ _ hns, ← State.fld, ← State.laneState, hshown.state]
    split <;> rfl
  · rw [State.flag, State.rd_raise_ne _ _ hnr, ← State.flag, hshown.ready]
    cases loops n (s.rd (Reg.lnkLCtrl n)) <;> rfl
  · rw [State.rd_raise_ne _ _ hnt, hshown.words _ ht, htx h]
  · rw [State.rd_raise_ne _ _ hn0, State.rd_raise_ne _ _ hn1, hshown.words _ h0, hshown.words _ h1]
    exact hrx hpanel hadapt

theorem loops_iff (n w : Nat) : loops n w = true ↔ (bitsOf w 1 0 ≠ 0 ∧ ¬(lanePcie n = true ∧ bitsOf w 1 0 = 3)) ∨ bitsOf w 5 4 ≠ 0 := by
  unfold loops
  simp only [Bool.or_eq_true, Bool.and_eq_true, bne_iff_ne, Bool.not_eq_true', Bool.and_eq_false_iff, beq_eq_false_iff_ne, not_and_or, Bool.not_eq_true]

/-! ### A lane fails (R439) -/

/-- A failed lane shows its cause and is not locked. -/
def State.laneFaultShown (s : State) (n cause : Nat) : State :=
  (((s.scanDrop n).setLaneState n 4).setFld (Reg.lnkLStatus n) 6 5 cause).setFlag (Reg.lnkLStatus n) 3 false

/-- The instant of a fault is kept. -/
def State.laneFaultNoted (s : State) (n : Nat) : State := s.setLane n { s.lane n with faultAt := s.now }

/-- The fault is counted, and its instant kept. -/
def State.laneFaultCounted (s : State) (n : Nat) : State :=
  ((s.add (Reg.lnkLStatFaults n) 1).add (Reg.lnkStat 0) 1).laneFaultNoted n

/-- The events of a fault. -/
def State.laneFaultRaised (s : State) (n : Nat) : State :=
  let s := if s.flag Reg.lnkCtrl 1 && (s.lane n).tries == 3 then s.raise 0x160000 3 else s
  let s := s.raise 0x160000 0
  if lanePanel n then s.raise 0xB0000 1 else s

theorem State.laneFault_eq (hn : n < 84) (hstate : s.laneState n = 1 ∨ s.laneState n = 2 ∨ s.laneState n = 3) (h1 : 1 ≤ cause) (h3 : cause ≤ 3) (hlose : cause = 2 → s.mayLose n = true)
    (hpanel : cause = 3 → lanePanel n = true) : s.laneFault n cause = ((s.laneFaultShown n cause).laneFaultCounted n).laneFaultRaised n := by
  rw [State.laneFault, if_pos ⟨hn, hstate, h1, h3, hlose, hpanel⟩]
  rfl

theorem State.mayLose_of (hpanel : lanePanel n = false) (h : s.laneState n = 2 ∨ s.laneState n = 1 ∧ 0 < (s.lane n).tries) : s.mayLose n = true := by
  rw [State.mayLose, hpanel]
  rcases h with h | ⟨h, ht⟩
  · simp [h]
  · simp [h, ht]

/-- What a lane that has failed shows. -/
structure LaneFailed (n cause : Nat) (s t : State) : Prop where
  state : t.laneState n = 4
  cause : t.fld (Reg.lnkLStatus n) 6 5 = cause
  scan : t.flag (Reg.lnkLStatus n) 16 = false
  ready : t.flag (Reg.lnkReady (n / 32)) (n % 32) = false
  words : WordsKept (outsideState n) s t

theorem State.laneFaultShown_failed (hn : n < 84) (h3 : cause ≤ 3) (s : State) : LaneFailed n cause s (s.laneFaultShown n cause) := by
  obtain ⟨hdwords, hscan, -, -⟩ := s.scanDrop_spec n
  have hshown := (s.scanDrop n).setLaneState_shown hn 4
  have hne : Reg.lnkReady (n / 32) ≠ Reg.lnkLStatus n := lnkReady_ne_status
  refine ⟨?_, ?_, ?_, ?_, .setFlag (.setFld (WordsKept.trans (fun a ha => hdwords a ha.2.1) hshown.words) fun h => h.2.1 rfl) fun h => h.2.1 rfl⟩
  · rw [State.laneState, State.laneFaultShown, State.fld_setFlag_other _ _ _ _ _ _ (by decide) (by decide) (.inl (by decide)),
      State.fld_setFld_other _ _ _ _ _ _ _ (by decide) (by decide) (by decide) (.inl (by decide)), ← State.laneState, hshown.state]
  · rw [State.laneFaultShown, State.fld_setFlag_other _ _ _ _ _ _ (by decide) (by decide) (.inr (by decide)), State.fld_setFld_same _ _ _ _ _ (by decide) (by decide)]
    exact Nat.mod_eq_of_lt (by omega)
  · rw [State.laneFaultShown, State.flag_setFlag_other _ _ _ _ _ (by decide) (by decide), State.flag_setFld_other _ _ _ _ _ _ (by decide) (by decide) (.inr (by decide)),
      hshown.flags 16 (by decide), hscan]
  · rw [State.laneFaultShown, State.flag, State.rd_setFlag_ne _ _ _ hne, State.rd_setFld_ne _ _ _ _ hne, ← State.flag, hshown.ready]
    rfl

theorem State.laneFaultCounted_spec (hn : n < 84) (s : State) : (s.laneFaultCounted n).rd (Reg.lnkLStatFaults n) = (s.rd (Reg.lnkLStatFaults n) + 1) % 2 ^ 32 ∧
    (s.laneFaultCounted n).rd (Reg.lnkStat 0) = (s.rd (Reg.lnkStat 0) + 1) % 2 ^ 32 ∧ WordsKept (fun a => a ≠ Reg.lnkLStatFaults n ∧ a ≠ Reg.lnkStat 0) s (s.laneFaultCounted n) := by
  have hne : Reg.lnkLStatFaults n ≠ Reg.lnkStat 0 ∧ Reg.lnkStat 0 ≠ Reg.lnkLStatFaults n := by
    unfold Reg.lnkLStatFaults Reg.lnkStat
    omega
  have hset : ∀ w : State, WordsKept (fun _ => True) w (w.laneFaultNoted n) := fun w => .regs (.refl _ w) rfl
  have hadds : WordsKept (fun a => a ≠ Reg.lnkLStatFaults n ∧ a ≠ Reg.lnkStat 0) s ((s.add (Reg.lnkLStatFaults n) 1).add (Reg.lnkStat 0) 1) :=
    .add (.add (.refl _ s) fun h => h.1 rfl) fun h => h.2 rfl
  rw [State.laneFaultCounted]
  refine ⟨?_, ?_, hadds.trans fun a _ => hset _ a trivial⟩
  · rw [hset _ _ trivial, State.rd_add_ne _ _ hne.1, State.rd_add_same]
  · rw [hset _ _ trivial, State.rd_add_same, State.rd_add_ne _ _ hne.2]

theorem State.laneFaultRaised_spec (s : State) (n : Nat) : WordsKept (fun a => a ≠ 0x160010 ∧ a ≠ 0xB0010) s (s.laneFaultRaised n) ∧ (s.laneFaultRaised n).flag 0x160010 0 = true ∧
    (lanePanel n = true → (s.laneFaultRaised n).flag 0xB0010 1 = true) := by
  unfold State.laneFaultRaised
  extract_lets w x
  have hw : WordsKept (fun a => a ≠ 0x160010 ∧ a ≠ 0xB0010) s x := .raise (.ite (.raise (.refl _ s) fun h => h.1 rfl) (.refl _ s)) fun h => h.1 rfl
  have hx : x.flag 0x160010 0 = true := State.flag_raise_same w 0x160000 0 (by decide)
  refine ⟨.ite (.raise hw fun h => h.2 rfl) hw, ?_, fun h => ?_⟩
  · split
    · rw [State.flag, State.rd_raise_ne _ _ (by decide), ← State.flag, hx]
    · exact hx
  · rw [if_pos h]
    exact State.flag_raise_same x 0xB0000 1 (by decide)

/-- What a fault leaves. -/
structure LaneFaulted (n cause : Nat) (s t : State) : Prop where
  state : t.laneState n = 4
  cause : t.fld (Reg.lnkLStatus n) 6 5 = cause
  scan : t.flag (Reg.lnkLStatus n) 16 = false
  ready : t.flag (Reg.lnkReady (n / 32)) (n % 32) = false
  event : t.flag 0x160010 0 = true
  faults : t.rd (Reg.lnkLStatFaults n) = (s.rd (Reg.lnkLStatFaults n) + 1) % 2 ^ 32
  total : t.rd (Reg.lnkStat 0) = (s.rd (Reg.lnkStat 0) + 1) % 2 ^ 32
  panel : lanePanel n = true → t.flag 0xB0010 1 = true

theorem State.laneFault_faulted (hn : n < 84) (h3 : cause ≤ 3) (s : State) : LaneFaulted n cause s (((s.laneFaultShown n cause).laneFaultCounted n).laneFaultRaised n) := by
  obtain ⟨hstate, hcause, hscan, hready, hwords⟩ := s.laneFaultShown_failed hn h3
  generalize s.laneFaultShown n cause = a at hstate hcause hscan hready hwords ⊢
  obtain ⟨hfaults, htotal, hcwords⟩ := a.laneFaultCounted_spec hn
  obtain ⟨hrwords, hevent, hpanel⟩ := (a.laneFaultCounted n).laneFaultRaised_spec n
  have hboth : ∀ x, x ≠ Reg.lnkLStatFaults n → x ≠ Reg.lnkStat 0 → x ≠ 0x160010 → x ≠ 0xB0010 → ((a.laneFaultCounted n).laneFaultRaised n).rd x = a.rd x :=
    fun x h1 h2 h3 h4 => (hrwords x ⟨h3, h4⟩).trans (hcwords x ⟨h1, h2⟩)
  have hstatus := hboth (Reg.lnkLStatus n) (by unfold Reg.lnkLStatus Reg.lnkLStatFaults; omega) (by unfold Reg.lnkLStatus Reg.lnkStat; omega)
    (by unfold Reg.lnkLStatus; omega) (by unfold Reg.lnkLStatus; omega)
  have hrword := hboth (Reg.lnkReady (n / 32)) (by unfold Reg.lnkReady Reg.lnkLStatFaults; omega) (by unfold Reg.lnkReady Reg.lnkStat; omega)
    (by unfold Reg.lnkReady; omega) (by unfold Reg.lnkReady; omega)
  have hout : outsideState n (Reg.lnkLStatFaults n) ∧ outsideState n (Reg.lnkStat 0) := by
    unfold outsideState outsidePrbs Reg.lnkLStatFaults Reg.lnkStat Reg.lnkLStatus Reg.lnkReady Reg.lnkLPrbsErr Reg.lnkLPrbsBits
    omega
  refine ⟨?_, ?_, ?_, ?_, hevent, ?_, ?_, hpanel⟩
  · rw [State.laneState, State.fld, hstatus, ← State.fld, ← State.laneState, hstate]
  · rw [State.fld, hstatus, ← State.fld, hcause]
  · rw [State.flag, hstatus, ← State.flag, hscan]
  · rw [State.flag, hrword, ← State.flag, hready]
  · rw [hrwords _ (by unfold Reg.lnkLStatFaults; omega), hfaults, hwords _ hout.1]
  · rw [hrwords _ (by decide), htotal, hwords _ hout.2]

/-! ### A retry (R439) -/

/-- One more retry of the lane. -/
def State.retryNoted (s : State) (n : Nat) : State := s.setLane n { s.lane n with tries := (s.lane n).tries + 1 }

theorem State.laneRetry_eq (hn : n < 84) (hstate : s.laneState n = 4) (hauto : s.flag Reg.lnkCtrl 1 = true) (htries : (s.lane n).tries < 3) (hat : (s.lane n).faultAt + 10 * ms ≤ s.now) :
    s.laneRetry n = ((s.retryNoted n).laneRun n false).add (Reg.lnkStat 1) 1 :=
  if_pos ⟨hn, hstate, hauto, htries, hat⟩

/-- What a retry leaves. -/
structure LaneRetried (n : Nat) (s t : State) : Prop where
  state : t.laneState n = 1
  settings : t.eqNow n = s.eqNow n
  count : t.rd (Reg.lnkStat 1) = (s.rd (Reg.lnkStat 1) + 1) % 2 ^ 32
  tries : n < s.lanes.length → (t.lane n).tries = (s.lane n).tries + 1

theorem LaneRetried.counted (hstate : t.laneState n = 1) (heq : t.eqNow n = s.eqNow n) (hcount : t.rd (Reg.lnkStat 1) = s.rd (Reg.lnkStat 1))
    (htries : n < s.lanes.length → (t.lane n).tries = (s.lane n).tries + 1) : LaneRetried n s (t.add (Reg.lnkStat 1) 1) := by
  have hadd : WordsKept (fun a => a ≠ Reg.lnkStat 1) t (t.add (Reg.lnkStat 1) 1) := .add (.refl _ t) fun h => h rfl
  have hlane : (t.add (Reg.lnkStat 1) 1).lane n = t.lane n := by rw [State.lane, State.add_lanes, ← State.lane]
  refine ⟨?_, ?_, by rw [State.rd_add_same, hcount], fun h => by rw [hlane, htries h]⟩
  · rw [State.laneState, hadd.fld (by unfold Reg.lnkLStatus Reg.lnkStat; omega), ← State.laneState, hstate]
  · rw [State.eqNow_of_kept hadd (by unfold Reg.lnkLTxeqNow Reg.lnkStat; omega) (by unfold Reg.lnkLRxeq0Now Reg.lnkStat; omega) (by unfold Reg.lnkLRxeq1Now Reg.lnkStat; omega), heq]

theorem State.laneRetry_retried (hn : n < 84) (s : State) : LaneRetried n s (((s.retryNoted n).laneRun n false).add (Reg.lnkStat 1) 1) := by
  have hset : WordsKept (fun _ => True) s (s.retryNoted n) := .regs (.refl _ s) rfl
  have hlane : n < s.lanes.length → ((s.retryNoted n).lane n).tries = (s.lane n).tries + 1 := fun h => by
    rw [State.retryNoted, State.lane_setLane_same _ h]
  have hran := (s.retryNoted n).laneRun_ran hn false
  have hout : outsideRun n (Reg.lnkStat 1) := by
    unfold outsideRun outsideState outsidePrbs Reg.lnkStat Reg.lnkLStatus Reg.lnkReady Reg.lnkLPrbsErr Reg.lnkLPrbsBits Reg.lnkLCtrl Reg.lnkLTxeqNow Reg.lnkLRxeq0Now Reg.lnkLRxeq1Now
    omega
  exact .counted hran.state (((s.retryNoted n).laneRun_kept_eqNow hn).trans (State.eqNow_of_kept hset trivial trivial trivial))
    ((hran.words _ hout).trans (hset _ trivial)) fun h => (hran.tries n).trans (hlane h)

/-! ### RESTART and GO of a scan (R436, R440) -/

/-- The row of a lane's CTRL, and the page of lane block `k`. -/
def lnkCtrlRow (m : Nat) : RegRow := rowN "LNK_Ln_CTRL" 0x400 0x80 m 0x100 [fAny 1 0 .rw, fAny 5 4 .rw, fAny 6 6 .rw, fAny 8 8 .rw, fAny 16 16 .w1s, fAny 31 31 .w1s]
def laneCount (k : Nat) : Nat := if k = 3 then 12 else 24
def lanePage (k : Nat) : PageDef := page 0x16 (k + 1) 3 0 (rowsLnkLanes (laneCount k))

theorem pageOf_lane (hn : n < 84) : pageOf (Reg.lnkLCtrl n) = some (lanePage (n / 24)) := by
  have ha : Reg.lnkLCtrl n / 0x10000 = 0x16 ∧ Reg.lnkLCtrl n / 0x1000 % 16 = n / 24 + 1 ∧ Reg.lnkLCtrl n < 0x400000 := by
    unfold Reg.lnkLCtrl
    omega
  have hk : n / 24 < 4 := by omega
  rw [pageOf, if_pos ha.2.2, ha.1, ha.2.1]
  generalize n / 24 = k at hk ⊢
  interval_cases k <;> rfl

theorem rowFor_lnkCtrl {m j : Nat} (hj : j < m) : rowFor (rowsLnkLanes m) (0x400 + 0x80 * j) = some (lnkCtrlRow m, j) := by
  have hindex : (lnkCtrlRow m).index? (0x400 + 0x80 * j) = some j := by
    unfold RegRow.index?
    rw [if_pos ⟨by show 0x400 ≤ _; omega, by show (0x400 + 0x80 * j - 0x400) % 0x80 = 0; omega, by show (0x400 + 0x80 * j - 0x400) / 0x80 < m; omega⟩]
    show some ((0x400 + 0x80 * j - 0x400) / 0x80) = _
    congr 1
    omega
  have hcons : rowsLnkLanes m = lnkCtrlRow m :: (rowsLnkLanes m).tail := rfl
  rw [hcons, rowFor, hindex]

/-- A check that the new loop or pattern ends. -/
def State.checkerHeld (s : State) (n old data : Nat) : State := if bitsOf data 1 0 ≠ bitsOf old 1 0 ∨ bitsOf data 6 4 ≠ bitsOf old 6 4 then s.prbsStop n else s

/-- What the written loop, pattern and RESTART make of the lane. -/
def State.laneCommanded (s : State) (n data : Nat) : State :=
  if bitOf data 16 then s.laneStart n else if loops n data then s.setLaneState n 3 else if s.laneState n = 3 then s.setLaneState n 0 else s.prbsFollow n

/-- A scan that the write starts. -/
def State.scanCommanded (s : State) (n data : Nat) : State :=
  if bitOf data 31 then (s.setFlag (Reg.lnkLStatus n) 16 true).setFlag (Reg.lnkLStatus n) 17 false else s

theorem State.lnkEffect_ctrl (s : State) (n old data : Nat) :
    s.lnkEffect (n / 24 + 1) (0x400 + 0x80 * (n % 24)) old data = ((s.checkerHeld n old data).laneCommanded n data).scanCommanded n data := by
  have hword : laneWord (n / 24 + 1) (0x400 + 0x80 * (n % 24)) = (n, 0) := by
    unfold laneWord
    refine Prod.ext ?_ ?_ <;> dsimp only <;> omega
  unfold State.lnkEffect
  rw [if_neg (by omega), hword]
  rfl

theorem State.writeWord_lane (hn : n < 84) (hacc : s.accepts who (Reg.lnkLCtrl n) data) :
    s.writeWord who (Reg.lnkLCtrl n) 4 data = (((s.rowStored (Reg.lnkLCtrl n) (lnkCtrlRow (laneCount (n / 24))) data).checkerHeld n (s.rd (Reg.lnkLCtrl n)) data).laneCommanded n data).scanCommanded n data := by
  have hoff : Reg.lnkLCtrl n % 0x1000 = 0x400 + 0x80 * (n % 24) := by
    unfold Reg.lnkLCtrl
    omega
  have hj : n % 24 < laneCount (n / 24) := by
    unfold laneCount
    split <;> omega
  refine (State.writeWord_starts (pageOf_lane hn) (by unfold Reg.lnkLCtrl; omega) (by rw [hoff]; omega) (i := n % 24) (by rw [hoff]; exact rowFor_lnkCtrl hj) ?_ hacc ?_ ?_).2
  · intro f hf
    simp only [lnkCtrlRow, rowN, List.mem_cons, List.not_mem_nil, or_false] at hf
    rcases hf with rfl | rfl | rfl | rfl | rfl | rfl <;> decide
  · rw [hoff, ← State.lnkEffect_ctrl]
    rfl
  · rw [← State.lnkEffect_ctrl]
    exact (State.lnkEffect_kept.secu.resolve_left (by decide)).trans State.rowStored_secu

theorem State.checkerHeld_lanes (s : State) (n old data : Nat) : LanesChecked s (s.checkerHeld n old data) := .ite (s.prbsStop_lane n).2 (.refl s)

theorem State.scanCommanded_spec (s : State) (n data : Nat) : (s.scanCommanded n data).laneState n = s.laneState n ∧ (s.scanCommanded n data).lanes = s.lanes := by
  unfold State.scanCommanded
  split
  · refine ⟨?_, (State.setFlag_lanes ..).trans (State.setFlag_lanes ..)⟩
    rw [State.laneState, State.fld_setFlag_other _ _ _ _ _ _ (by decide) (by decide) (.inl (by decide)),
      State.fld_setFlag_other _ _ _ _ _ _ (by decide) (by decide) (.inl (by decide)), ← State.laneState]
  · exact ⟨rfl, rfl⟩

/-- RESTART brings the lane up afresh. -/
theorem State.restart_spec (hn : n < 84) (hbit : bitOf data 16 = true) (s : State) (old : Nat) :
    let t := ((s.checkerHeld n old data).laneCommanded n data).scanCommanded n data
    t.laneState n = 1 ∧ (n < s.lanes.length → (t.lane n).tries = 0) := by
  have hlanes := s.checkerHeld_lanes n old data
  have hrun : (s.checkerHeld n old data).laneCommanded n data = (s.checkerHeld n old data).laneStart n := if_pos hbit
  dsimp only
  rw [hrun]
  have hran := (s.checkerHeld n old data).laneStart_ran hn
  obtain ⟨hstate, hkeep⟩ := ((s.checkerHeld n old data).laneStart n).scanCommanded_spec n data
  refine ⟨hstate.trans hran.state, fun h => ?_⟩
  rw [State.lane, hkeep, ← State.lane, hran.tries, State.lane_setLane_same _ (by rw [hlanes.count]; exact h)]

theorem State.scanCommanded_go (hbit : bitOf data 31 = true) (s : State) (n : Nat) :
    (s.scanCommanded n data).flag (Reg.lnkLStatus n) 16 = true ∧ (s.scanCommanded n data).flag (Reg.lnkLStatus n) 17 = false := by
  rw [State.scanCommanded, if_pos hbit, State.flag_setFlag_other _ _ _ _ _ (by decide) (by decide), State.flag_setFlag_same _ _ _ _ (by decide),
    State.flag_setFlag_same _ _ _ _ (by decide)]
  exact ⟨rfl, rfl⟩

end

end Sys2Proof.Machine

/-! SUPPORT. Scans and steps of a lane's settings, and O53 (R436, R438). -/

namespace Sys2Proof.Machine

section
variable {s t u : State} {n k j data : Nat} {who : Requester} {eyes : List EyeScan} {w : List Nat} {v : Int}

/-! ### A scan ends (R436) -/

/-- The smallest openings are shown, with the frame and the lane's temperature. -/
def State.eyeShown (s : State) (n : Nat) (l : Nat × Nat) : State :=
  let s := s.wr (Reg.lnkLEye n) ((2000 * l.1 + 64) / 128 % 65536 + 2 * l.2 % 65536 * 65536)
  s.wr (Reg.lnkLEyeInfo n) (s.ras.frame % 65536 + toBits 8 (s.laneTemp n / 16) * 65536)

/-- The lane's scan is over and valid. -/
def State.scanOver (s : State) (n : Nat) : State := (s.setFlag (Reg.lnkLStatus n) 16 false).setFlag (Reg.lnkLStatus n) 17 true

theorem State.scanDone_eq (hn : n < 84) (hrun : s.flag (Reg.lnkLStatus n) 16 = true) (hend : s.scanEnded n eyes = true) :
    s.scanDone n eyes = (((s.eyeShown n (s.leastOpen eyes)).scanOver n).add (Reg.lnkStat 2) 1).raise 0x160000 2 := by
  rw [State.scanDone, if_pos ⟨hn, hrun, hend⟩]
  rfl

theorem State.laneTemp_wr (a v : Nat) (ha : a < 0x1A0000) : (s.wr a v).laneTemp n = s.laneTemp n := by
  rw [State.laneTemp, State.laneTemp, State.fld, State.rd_wr_ne _ _ (by unfold Reg.thmCh; omega), ← State.fld]

theorem State.eyeShown_spec (hn : n < 84) (s : State) (l : Nat × Nat) :
    (s.eyeShown n l).rd (Reg.lnkLEye n) = (2000 * l.1 + 64) / 128 % 65536 + 2 * l.2 % 65536 * 65536 ∧
    (s.eyeShown n l).rd (Reg.lnkLEyeInfo n) = s.ras.frame % 65536 + toBits 8 (s.laneTemp n / 16) * 65536 ∧
    WordsKept (fun a => a ≠ Reg.lnkLEye n ∧ a ≠ Reg.lnkLEyeInfo n) s (s.eyeShown n l) := by
  have hne : Reg.lnkLEye n ≠ Reg.lnkLEyeInfo n := by
    unfold Reg.lnkLEye Reg.lnkLEyeInfo
    omega
  have hbits := toBits_lt 8 (s.laneTemp n / 16)
  refine ⟨?_, ?_, .wr (.wr (.refl _ s) fun h => h.1 rfl) fun h => h.2 rfl⟩
  · rw [State.eyeShown, State.rd_wr_ne _ _ hne, State.rd_wr_same, Nat.mod_eq_of_lt (by omega)]
  · rw [State.eyeShown, State.rd_wr_same, State.laneTemp_wr _ _ (by unfold Reg.lnkLEye; omega), State.wr_ras, Nat.mod_eq_of_lt]
    have hframe : s.ras.frame % 65536 < 65536 := Nat.mod_lt _ (by decide)
    omega

/-- What the end of a scan leaves. -/
structure ScanShown (n : Nat) (l : Nat × Nat) (s t : State) : Prop where
  ended : t.flag (Reg.lnkLStatus n) 16 = false
  valid : t.flag (Reg.lnkLStatus n) 17 = true
  event : t.flag 0x160010 2 = true
  count : t.rd (Reg.lnkStat 2) = (s.rd (Reg.lnkStat 2) + 1) % 2 ^ 32
  state : t.laneState n = s.laneState n
  eye : t.rd (Reg.lnkLEye n) = (2000 * l.1 + 64) / 128 % 65536 + 2 * l.2 % 65536 * 65536
  info : t.rd (Reg.lnkLEyeInfo n) = s.ras.frame % 65536 + toBits 8 (s.laneTemp n / 16) * 65536

theorem State.scanOver_spec (s : State) (n : Nat) : (s.scanOver n).flag (Reg.lnkLStatus n) 16 = false ∧ (s.scanOver n).flag (Reg.lnkLStatus n) 17 = true ∧
    (s.scanOver n).laneState n = s.laneState n ∧ WordsKept (fun a => a ≠ Reg.lnkLStatus n) s (s.scanOver n) := by
  refine ⟨?_, ?_, ?_, .setFlag (.setFlag (.refl _ s) fun h => h rfl) fun h => h rfl⟩
  · rw [State.scanOver, State.flag_setFlag_other _ _ _ _ _ (by decide) (by decide), State.flag_setFlag_same _ _ _ _ (by decide)]
  · rw [State.scanOver, State.flag_setFlag_same _ _ _ _ (by decide)]
  · rw [State.laneState, State.scanOver, State.fld_setFlag_other _ _ _ _ _ _ (by decide) (by decide) (.inl (by decide)),
      State.fld_setFlag_other _ _ _ _ _ _ (by decide) (by decide) (.inl (by decide)), ← State.laneState]

theorem State.scanDone_shown (hn : n < 84) (s : State) (l : Nat × Nat) : ScanShown n l s ((((s.eyeShown n l).scanOver n).add (Reg.lnkStat 2) 1).raise 0x160000 2) := by
  obtain ⟨heye, hinfo, hewords⟩ := s.eyeShown_spec hn l
  obtain ⟨hover, hvalid, hstate, howords⟩ := (s.eyeShown n l).scanOver_spec n
  have hlast : ∀ w : State, WordsKept (fun a => a ≠ Reg.lnkStat 2 ∧ a ≠ 0x160010) w ((w.add (Reg.lnkStat 2) 1).raise 0x160000 2) := fun w =>
    .raise (.add (.refl _ w) fun h => h.1 rfl) fun h => h.2 rfl
  have hstatus : Reg.lnkLStatus n ≠ Reg.lnkStat 2 ∧ Reg.lnkLStatus n ≠ 0x160010 ∧ Reg.lnkLStatus n ≠ Reg.lnkLEye n ∧ Reg.lnkLStatus n ≠ Reg.lnkLEyeInfo n := by
    unfold Reg.lnkLStatus Reg.lnkStat Reg.lnkLEye Reg.lnkLEyeInfo
    omega
  have hshown : ∀ a, a = Reg.lnkLEye n ∨ a = Reg.lnkLEyeInfo n → a ≠ Reg.lnkStat 2 ∧ a ≠ 0x160010 ∧ a ≠ Reg.lnkLStatus n := fun a ha => by
    rcases ha with rfl | rfl
    · unfold Reg.lnkLStatus Reg.lnkStat Reg.lnkLEye
      omega
    · unfold Reg.lnkLStatus Reg.lnkStat Reg.lnkLEyeInfo
      omega
  have hstat : Reg.lnkStat 2 ≠ 0x160010 ∧ Reg.lnkStat 2 ≠ Reg.lnkLStatus n ∧ Reg.lnkStat 2 ≠ Reg.lnkLEye n ∧ Reg.lnkStat 2 ≠ Reg.lnkLEyeInfo n := by
    unfold Reg.lnkLStatus Reg.lnkStat Reg.lnkLEye Reg.lnkLEyeInfo
    omega
  obtain ⟨h1, h2, h3, h4⟩ := hstatus
  refine ⟨((hlast _).flag ⟨h1, h2⟩ 16).trans hover, ((hlast _).flag ⟨h1, h2⟩ 17).trans hvalid, State.flag_raise_same _ _ _ (by decide), ?_, ?_, ?_, ?_⟩
  · rw [State.rd_raise_ne _ _ hstat.1, State.rd_add_same, howords _ hstat.2.1, hewords _ hstat.2.2]
  · exact ((hlast _).fld ⟨h1, h2⟩ 2 0).trans (hstate.trans (hewords.fld ⟨h3, h4⟩ 2 0))
  · obtain ⟨ha, hb, hc⟩ := hshown _ (.inl rfl)
    rw [hlast _ _ ⟨ha, hb⟩, howords _ hc, heye]
  · obtain ⟨ha, hb, hc⟩ := hshown _ (.inr rfl)
    rw [hlast _ _ ⟨ha, hb⟩, howords _ hc, hinfo]

theorem zipWith_eyes (eyes : List EyeScan) : List.zipWith EyeScan.mk (eyes.map EyeScan.phase) (eyes.map EyeScan.volt) = eyes := by
  induction eyes with
  | nil => rfl
  | cons e l ih => rw [List.map_cons, List.map_cons, List.zipWith_cons_cons, ih]

/-! ### A setting and its neighbours (R438, R441) -/

theorem eqField_bounds (hk : k < 9) : (eqField k).1 < 3 ∧ (eqField k).2.2 ≤ (eqField k).2.1 ∧ (eqField k).2.1 < 32 ∧
    ((eqField k).1 = 2 → (eqField k).2.1 - (eqField k).2.2 + 1 = 8) := by
  revert hk
  revert k
  decide

/-- Two settings share no bit. -/
theorem eqField_apart (hk : k < 9) (hj : j < 9) (h : j ≠ k) : (eqField j).1 ≠ (eqField k).1 ∨ (eqField j).2.1 < (eqField k).2.2 ∨ (eqField k).2.1 < (eqField j).2.2 := by
  have hall : ∀ k, k < 9 → ∀ j, j < 9 → j ≠ k → (eqField j).1 ≠ (eqField k).1 ∨ (eqField j).2.1 < (eqField k).2.2 ∨ (eqField k).2.1 < (eqField j).2.2 := by decide
  exact hall k hk j hj h

/-- The values that a setting of `m` bits can take. -/
def inField (signed : Bool) (m : Nat) (v : Int) : Prop := if signed then -(2 ^ (m - 1) : Nat) ≤ v ∧ v < (2 ^ (m - 1) : Nat) else 0 ≤ v ∧ v < (2 ^ m : Nat)

/-- The values that setting `k` can take. -/
def eqRange (k : Nat) (v : Int) : Prop := if (eqField k).1 = 2 then -128 ≤ v ∧ v < 128 else 0 ≤ v ∧ v < (2 ^ ((eqField k).2.1 - (eqField k).2.2 + 1) : Nat)

theorem signedBits_range (x : Nat) : -128 ≤ signedBits x 8 ∧ signedBits x 8 < 128 := by
  unfold signedBits
  have hlt : x % 2 ^ 8 < 256 := Nat.mod_lt _ (by decide)
  split <;> omega

theorem eqValue_range (hk : k < 9) (w : List Nat) : eqRange k (eqValue w k) := by
  obtain ⟨-, -, -, h8⟩ := eqField_bounds hk
  unfold eqRange eqValue
  dsimp only
  split
  · exact signedBits_range _
  · exact ⟨Int.natCast_nonneg _, Int.ofNat_lt.2 (Nat.mod_lt _ (Nat.two_pow_pos _))⟩

/-- A step toward a value that the setting can take stays one that it can take. -/
theorem eqRange_step {v g : Int} (hv : eqRange k v) (hg : eqRange k g) (hne : v ≠ g) : eqRange k (if v < g then v + 1 else v - 1) := by
  unfold eqRange at hv hg ⊢
  split at hv
  · next h =>
    rw [if_pos h] at hg ⊢
    split <;> omega
  · next h =>
    rw [if_neg h] at hg ⊢
    split <;> omega

theorem signedBits_toBits (hv : -128 ≤ v ∧ v < 128) : signedBits (toBits 8 v) 8 = v := by
  unfold signedBits toBits
  omega

theorem toBits_of_nonneg {m : Nat} (h0 : 0 ≤ v) (hv : v < (2 ^ m : Nat)) : ((toBits m v : Nat) : Int) = v := by
  unfold toBits
  rw [Int.emod_eq_of_lt h0 hv, Int.toNat_of_nonneg h0]

theorem eqValue_eqPut_same (hk : k < 9) (hw : w.length = 3) (hv : eqRange k v) : eqValue (eqPut w k v) k = v := by
  obtain ⟨hword, hle, -, h8⟩ := eqField_bounds hk
  have hbits : bitsOf ((eqPut w k v).getD (eqField k).1 0) (eqField k).2.1 (eqField k).2.2 = toBits ((eqField k).2.1 - (eqField k).2.2 + 1) v := by
    have hget : (eqPut w k v).getD (eqField k).1 0 = putBits (w.getD (eqField k).1 0) (eqField k).2.1 (eqField k).2.2 (toBits ((eqField k).2.1 - (eqField k).2.2 + 1) v) := by
      unfold eqPut
      simp [hw, hword]
    rw [hget, bitsOf_putBits_same _ _ _ _ hle, Nat.mod_eq_of_lt (toBits_lt _ _)]
  unfold eqValue
  dsimp only
  rw [hbits]
  unfold eqRange at hv
  split
  · next h =>
    rw [if_pos h] at hv
    rw [h8 h]
    exact signedBits_toBits hv
  · next h =>
    rw [if_neg h] at hv
    exact toBits_of_nonneg hv.1 hv.2

theorem eqValue_eqPut_other (hk : k < 9) (hj : j < 9) (h : j ≠ k) (hw : w.length = 3) (v : Int) : eqValue (eqPut w k v) j = eqValue w j := by
  obtain ⟨hword, hle, -, -⟩ := eqField_bounds hk
  obtain ⟨-, hjle, -, -⟩ := eqField_bounds hj
  have hbits : bitsOf ((eqPut w k v).getD (eqField j).1 0) (eqField j).2.1 (eqField j).2.2 = bitsOf (w.getD (eqField j).1 0) (eqField j).2.1 (eqField j).2.2 := by
    by_cases hsame : (eqField j).1 = (eqField k).1
    · have hget : (eqPut w k v).getD (eqField j).1 0 = putBits (w.getD (eqField j).1 0) (eqField k).2.1 (eqField k).2.2 (toBits ((eqField k).2.1 - (eqField k).2.2 + 1) v) := by
        unfold eqPut
        simp [hsame, hw, hword]
      rw [hget, bitsOf_putBits_other _ _ _ _ _ _ hle hjle ((eqField_apart hk hj h).resolve_left (not_not.2 hsame))]
    · have hget : (eqPut w k v).getD (eqField j).1 0 = w.getD (eqField j).1 0 := by
        unfold eqPut
        simp [List.getD_eq_getElem?_getD, List.getElem?_set_ne (Ne.symm hsame)]
      rw [hget]
  unfold eqValue
  dsimp only
  rw [hbits]

theorem eqPut_words (hk : k < 9) (hlt : ∀ i, w.getD i 0 < 2 ^ 32) (v : Int) (i : Nat) : (eqPut w k v).getD i 0 < 2 ^ 32 := by
  obtain ⟨hword, hle, h32, -⟩ := eqField_bounds hk
  unfold eqPut
  dsimp only
  rw [List.getD_eq_getElem?_getD, List.getElem?_set]
  split
  · split
    · exact putBits_lt _ _ _ _ hle h32 (hlt _)
    · decide
  · rw [← List.getD_eq_getElem?_getD]
    exact hlt i

/-! ### One step of a setting (R438) -/

theorem State.eqNow_lt (s : State) (n i : Nat) : (s.eqNow n).getD i 0 < 2 ^ 32 := by
  unfold State.eqNow
  rcases i with _ | _ | _ | i
  · exact s.rd_lt _
  · exact s.rd_lt _
  · exact s.rd_lt _
  · exact Nat.two_pow_pos _

theorem State.eqNow_setEqNow_of (hw : w.length = 3) (hlt : ∀ i, w.getD i 0 < 2 ^ 32) : (s.setEqNow n w).eqNow n = w := by
  obtain ⟨a, b, c, rfl⟩ := List.length_eq_three.1 hw
  rw [State.eqNow_setEqNow, Nat.mod_eq_of_lt (a := a) (hlt 0), Nat.mod_eq_of_lt (a := b) (hlt 1), Nat.mod_eq_of_lt (a := c) (hlt 2)]

/-- Setting `k` is at `v`. -/
def State.eqMoved (s : State) (n k : Nat) (v : Int) : State :=
  (s.setEqNow n (eqPut (s.eqNow n) k v)).setLane n { s.lane n with stepAt := (s.lane n).stepAt.set k s.now }

theorem State.eqMoved_spec (hk : k < 9) (s : State) (n : Nat) (v : Int) : (s.eqMoved n k v).eqNow n = eqPut (s.eqNow n) k v ∧
    s.wordsBut (s.eqMoved n k v) [Reg.lnkLTxeqNow n, Reg.lnkLRxeq0Now n, Reg.lnkLRxeq1Now n] := by
  have hset : WordsKept (fun _ => True) (s.setEqNow n (eqPut (s.eqNow n) k v)) (s.eqMoved n k v) := .regs (.refl _ _) rfl
  have hlen : (eqPut (s.eqNow n) k v).length = 3 := List.length_set
  refine ⟨(State.eqNow_of_kept hset trivial trivial trivial).trans (State.eqNow_setEqNow_of hlen (eqPut_words hk (s.eqNow_lt n) v)), fun a ha => ?_⟩
  simp only [List.mem_cons, List.not_mem_nil, or_false, not_or] at ha
  exact (hset a trivial).trans (s.setEqNow_words n _ a ha)

theorem State.slewStep_eq (hn : n < 84) (hk : k < 9) (hstate : s.laneState n ≠ 0) (hne : eqValue (s.eqNow n) k ≠ eqValue (s.lane n).target k)
    (htx : k < 3 → lanePcie n = false) (hrx : 3 ≤ k → s.flag (Reg.lnkLCtrl n) 8 = false) (hat : (s.lane n).stepAt.getD k 0 + (if k < 3 then 100 else 10) * us ≤ s.now) :
    s.slewStep n k = s.eqMoved n k (if eqValue (s.eqNow n) k < eqValue (s.lane n).target k then eqValue (s.eqNow n) k + 1 else eqValue (s.eqNow n) k - 1) := by
  unfold State.slewStep
  refine if_pos ⟨hn, hk, hstate, hne, ?_, ?_⟩
  · by_cases h : k < 3
    · simp [h, htx h]
    · simp [h, hrx (Nat.le_of_not_lt h)]
  · simpa using hat

/-- The end of a bring-up, by whether a loop or a pattern is selected. -/
theorem LaneUp.shown {tx : Nat} {rx : Nat × Nat} (h : LaneUp n tx rx s t) :
    let looped := (s.fld (Reg.lnkLCtrl n) 1 0 ≠ 0 ∧ ¬(lanePcie n = true ∧ s.fld (Reg.lnkLCtrl n) 1 0 = 3)) ∨ s.fld (Reg.lnkLCtrl n) 5 4 ≠ 0
    (¬looped → t.laneState n = 2) ∧ (looped → t.laneState n = 3) ∧ t.flag 0x160010 1 = true ∧ (t.flag (Reg.lnkReady (n / 32)) (n % 32) = true ↔ ¬looped) ∧
    (lanePcie n = true → t.rd (Reg.lnkLTxeqNow n) = tx % 2 ^ 32) ∧
    (lanePanel n = false → s.flag (Reg.lnkLCtrl n) 8 = true → t.rd (Reg.lnkLRxeq0Now n) = rx.1 % 2 ^ 32 ∧ t.rd (Reg.lnkLRxeq1Now n) = rx.2 % 2 ^ 32) := by
  intro looped
  have hiff : loops n (s.rd (Reg.lnkLCtrl n)) = true ↔ looped := loops_iff n _
  refine ⟨fun hno => ?_, fun hyes => ?_, h.event, ?_, h.tx, h.rx⟩
  · rw [h.state, if_neg (mt hiff.1 hno)]
  · rw [h.state, if_pos (hiff.2 hyes)]
  · rw [h.ready, Bool.not_eq_true', ← Bool.not_eq_true, hiff]

end

/-- Settles O53: the lanes, each command by the lemma that says what it leaves of its lane. -/
theorem serialLanes : Obligations.SerialLanes := by
  unfold Obligations.SerialLanes
  intro s n t hn
  refine ⟨fun howned hstate => ?_, fun hstate tx rx0 rx1 => ?_, fun hstate cause h1 h3 hlose hpanel => ?_, fun hstate hauto htries hat => ?_,
    fun who data => ⟨fun hacc => ?_, fun hacc => ?_⟩, fun hrun eyes hend => ?_, fun k hk hstate => ?_⟩
  · have hran := (s.at t).laneStart_ran hn
    refine ⟨_, congrArg finish (State.laneEnable_ran (s := s.at t) hn howned hstate), ?_⟩
    rw [settle_laneState, settle_flag, settle_flag, settle_eqNow, settle_fld, settle_fld]
    exact ⟨hran.state, hran.ready, hran.locked, fun hpcie hsource hlen => State.laneStart_eqNow (s := s.at t) hn hpcie hsource hlen, hran.freed⟩
  · have hup := State.laneReady_up (s := s.at t) hn hstate tx (rx0, rx1)
    have hiff := loops_iff n (s.rd (Reg.lnkLCtrl n))
    refine ⟨_, rfl, ?_⟩
    rw [settle_laneState, settle_flag, settle_flag, settle_rd, settle_rd, settle_rd]
    exact hup.shown
  · have hfault := State.laneFault_faulted (cause := cause) hn h3 (s.at t)
    refine ⟨_, congrArg finish (State.laneFault_eq (s := s.at t) hn hstate h1 h3 (fun h => State.mayLose_of (hlose h).1 (hlose h).2) hpanel), ?_⟩
    rw [settle_laneState, settle_fld, settle_flag, settle_flag, settle_flag, settle_rd, settle_rd, settle_flag]
    exact ⟨hfault.state, hfault.cause, hfault.scan, hfault.ready, hfault.event, hfault.faults, hfault.total, hfault.panel⟩
  · have hretry := (s.at t).laneRetry_retried hn
    refine ⟨_, congrArg finish (State.laneRetry_eq (s := s.at t) hn hstate hauto htries hat), ?_⟩
    rw [settle_laneState, settle_eqNow, settle_rd, settle_lane]
    exact ⟨hretry.state, hretry.settings, hretry.count, hretry.tries⟩
  · obtain ⟨hstate, htries⟩ := State.restart_spec (data := putBits data.toNat 16 16 1) hn (bitOf_putBits_one _ _)
      (s.rowStored (Reg.lnkLCtrl n) (lnkCtrlRow (laneCount (n / 24))) (putBits data.toNat 16 16 1)) (s.rd (Reg.lnkLCtrl n))
    refine ⟨_, congrArg finish (State.writeWord_lane hn hacc), ?_⟩
    rw [settle_laneState, settle_lane]
    exact ⟨hstate, fun h => htries (by rw [State.rowStored_lanes]; exact h)⟩
  · refine ⟨_, congrArg finish (State.writeWord_lane hn hacc), ?_⟩
    rw [settle_flag, settle_flag]
    exact State.scanCommanded_go (bitOf_putBits_one _ _) _ n
  · have hshown := (s.at t).scanDone_shown hn (s.leastOpen eyes)
    refine ⟨_, congrArg finish ((congrArg (State.scanDone (s.at t) n) (zipWith_eyes eyes)).trans (State.scanDone_eq (s := s.at t) hn hrun hend)), ?_⟩
    rw [settle_flag, settle_flag, settle_flag, settle_rd, settle_laneState, settle_rd, settle_rd]
    exact ⟨hshown.ended, hshown.valid, hshown.event, hshown.count, hshown.state, hshown.eye, hshown.info⟩
  · intro v g hne htx hrx hat
    obtain ⟨heq, hwords⟩ := (s.at t).eqMoved_spec hk n (if v < g then v + 1 else v - 1)
    refine ⟨_, congrArg finish (State.slewStep_eq (s := s.at t) hn hk hstate hne htx hrx hat), ?_⟩
    rw [settle_eqNow]
    refine ⟨?_, fun j hj hjk => ?_, State.wordsBut_settle hwords⟩
    · exact (congrArg (eqValue · k) heq).trans (eqValue_eqPut_same hk rfl (eqRange_step (eqValue_range hk _) (eqValue_range hk _) hne))
    · exact (congrArg (eqValue · j) heq).trans (eqValue_eqPut_other hk hj hjk rfl _)

end Sys2Proof.Machine

/-! SUPPORT. How a request of the mailbox ends, for O54 and O56 (R444, R445, R482). -/

namespace Sys2Proof.Machine

section
variable {s t u : State} {c code svc now : Nat} {resp host b : List Byte} {r : Served} {plen : Nat → Bool}
  {signer : State → List Byte → List Byte → Nat} {run : State → List Byte → List Byte → Served}

/-! ### The end of a request (R444) -/

/-- The words that the end of a request of channel `c` writes. -/
abbrev mbWords (c : Nat) : List Nat := [Reg.mgtMbStatus c, Reg.mgtMbCtrl c, 0x180010]

theorem mbWords_place (hc : c < 2) {x : Nat} (h : x ∈ mbWords c) : 0x180000 ≤ x ∧ x < 0x181000 := by
  simp only [mbWords, List.mem_cons, List.not_mem_nil, or_false, Reg.mgtMbStatus, Reg.mgtMbCtrl] at h
  omega

/-- The response of a request stands in its buffer. -/
def State.answered (s : State) (c : Nat) (resp : List Byte) : State :=
  if resp = [] then s else if c = 0 then s.dramWrite (s.mbAddr 0) resp else s.emit (.hostWrite (s.mbAddr 1) resp)

theorem State.mbEnd_eq (s : State) (c code : Nat) (resp : List Byte) :
    s.mbEnd c code resp = (((((s.answered c resp).wr (Reg.mgtMbStatus c) (code % 65536 + resp.length % 65536 * 65536)).setFlag (Reg.mgtMbCtrl c) 1 false).setFlag
      (Reg.mgtMbCtrl c) 2 true).raise 0x180000 c) := rfl

theorem State.answered_rd (s : State) (c : Nat) (resp : List Byte) (x : Nat) : (s.answered c resp).rd x = s.rd x := by
  unfold State.answered
  split
  · rfl
  · split
    · exact State.dramWrite_rd _ _ _ _
    · rfl

theorem State.mbEnd_wordsBut (s : State) (c code : Nat) (resp : List Byte) : s.wordsBut (s.mbEnd c code resp) (mbWords c) := by
  have h : WordsKept (fun x => x ∉ mbWords c) s (s.mbEnd c code resp) :=
    .raise (.setFlag (.setFlag (.wr (fun x _ => s.answered_rd c resp x) (by simp)) (by simp)) (by simp)) (by simp)
  exact h

theorem State.mbEnd_secu : (s.mbEnd c code resp).secu = s.secu := State.mbEnd_kept.secu.resolve_left (by decide)
theorem State.mbEnd_pwr : (s.mbEnd c code resp).pwr = s.pwr := State.mbEnd_kept.pwr.resolve_left (by decide)
theorem State.mbEnd_mgt : (s.mbEnd c code resp).mgt = s.mgt := State.mbEnd_kept.mgt.resolve_left (by decide)
theorem State.mbEnd_ing : (s.mbEnd c code resp).ing = s.ing := State.mbEnd_kept.ing.resolve_left (by decide)
theorem State.mbEnd_log : (s.mbEnd c code resp).log = s.log := State.mbEnd_kept.log.resolve_left (by decide)

theorem State.mbEnd_dram : (s.mbEnd c code resp).dram = (s.answered c resp).dram := rfl

/-- Without a response no byte of DRAM changes. -/
theorem State.mbEnd_dram_silent : (s.mbEnd c code []).dram = s.dram := rfl

theorem State.answered_out (hresp : resp ≠ []) : .hostWrite (s.mbAddr 1) resp ∈ (s.answered 1 resp).out := by
  rw [State.answered, if_neg hresp, if_neg (by decide)]
  exact List.mem_cons_self ..

theorem State.mbEnd_out (hresp : resp ≠ []) : .hostWrite (s.mbAddr 1) resp ∈ (s.mbEnd 1 code resp).out := State.answered_out hresp

theorem State.mbEnd_status (s : State) (hc : c < 2) (code : Nat) (resp : List Byte) :
    (s.mbEnd c code resp).rd (Reg.mgtMbStatus c) = code % 65536 + resp.length % 65536 * 65536 := by
  have hctrl : Reg.mgtMbStatus c ≠ Reg.mgtMbCtrl c := by unfold Reg.mgtMbStatus Reg.mgtMbCtrl; omega
  rw [State.mbEnd_eq, State.rd_raise_ne _ _ (by unfold Reg.mgtMbStatus; omega), State.rd_setFlag_ne _ _ _ hctrl, State.rd_setFlag_ne _ _ _ hctrl,
    State.rd_wr_same, Nat.mod_eq_of_lt (by omega)]

theorem State.mbEnd_ended (s : State) (hc : c < 2) (hcode : code < 65536) (resp : List Byte) : (s.mbEnd c code resp).mbEnded c code := by
  refine ⟨?_, ?_, ?_, ?_⟩
  · rw [State.fld, s.mbEnd_status hc, bitsOf]
    omega
  · rw [State.mbEnd_eq, State.flag, State.rd_raise_ne _ _ (by unfold Reg.mgtMbCtrl; omega)]
    exact (State.flag_setFlag_other _ _ _ _ _ (by decide) (by decide)).trans (State.flag_setFlag_same _ _ _ _ (by decide))
  · rw [State.mbEnd_eq, State.flag, State.rd_raise_ne _ _ (by unfold Reg.mgtMbCtrl; omega)]
    exact State.flag_setFlag_same _ _ _ _ (by decide)
  · exact State.flag_raise_same _ _ _ (by omega)

theorem State.mbEnd_len (s : State) (hc : c < 2) (code : Nat) (hlen : resp.length < 65536) :
    (s.mbEnd c code resp).fld (Reg.mgtMbStatus c) 31 16 = resp.length := by
  rw [State.fld, s.mbEnd_status hc, bitsOf]
  omega

/-! ### What keeps the end of a request -/

theorem WordsKept.mbEnded {K : Nat → Prop} (h : WordsKept K t u) (hK : ∀ x ∈ mbWords c, K x) (hended : t.mbEnded c code) : u.mbEnded c code := by
  obtain ⟨hcode, hbusy, hdone, hevent⟩ := hended
  have hctrl : K (Reg.mgtMbCtrl c) := hK _ (by simp)
  exact ⟨(h.fld (hK _ (by simp)) 15 0).trans hcode, (h.flag hctrl 1).trans hbusy, (h.flag hctrl 2).trans hdone, (h.flag (hK _ (by simp)) c).trans hevent⟩

theorem State.mbEnded.settle (h : u.mbEnded c code) : (settle u).mbEnded c code :=
  (WordsKept.settle (.refl (fun _ => True) u)).mbEnded (fun _ _ => trivial) h

theorem State.certCheck_below (s old : State) : WordsKept (fun x => x < 0x1C0000) s (s.certCheck old) :=
  .ite (.refl _ _) (.trans (.raise (.refl _ _) (by decide)) (State.stage_words_below _ _))

theorem State.mbEnded.certCheck (h : u.mbEnded c code) (hc : c < 2) (old : State) : (u.certCheck old).mbEnded c code :=
  (u.certCheck_below old).mbEnded (fun _ hx => by have := mbWords_place hc hx; omega) h

/-! ### What a service answers ends its request (R444) -/

theorem State.mbServe_done (h0 : r.1 = 0) (hfit : r.2.1.length ≤ s.fld (Reg.mgtMbRlen c) 15 0) : s.mbServe c r = r.2.2.mbEnd c 0 r.2.1 := by
  rw [State.mbServe, if_neg (fun h => absurd hfit (Nat.not_le.2 h.2)), h0, if_pos rfl]

theorem State.mbServe_failed (h0 : r.1 ≠ 0) : s.mbServe c r = r.2.2.mbEnd c r.1 [] := by
  rw [State.mbServe, if_neg (fun h => h0 h.1), if_neg h0]

/-! ### A request that waits (R444) -/

theorem State.mbBusy_channel (h : s.mbBusy c = true) : c < 2 := by
  simp only [State.mbBusy, Bool.and_eq_true, decide_eq_true_eq] at h
  exact h.1.1.1

theorem State.openService_run {f : State → List Byte → Served} (hbusy : s.mbBusy c = true) (hreq : s.mbRequest c host = some b)
    (hsvc : leNat (b.take 4) = svc) : s.openService c host svc f = s.mbServe c (f s b) := by
  rw [State.openService, if_pos hbusy, hreq]
  exact if_pos hsvc

/-! ### The checks of a signed request (R482) -/

/-- A request refused with a code is counted and reported where it is a replay or of another device (R482). -/
def State.replayed (s : State) (c : Nat) : State := ((s.add (Reg.secStat 1) 1).raise 0x1C0000 1).mbEnd c 0x1C02 []

/-- A request whose signature does not verify is counted and reported (R482). -/
def State.forged (s : State) (c : Nat) : State := ((s.add (Reg.secStat 0) 1).raise 0x1C0000 0).mbEnd c 0xD []

/-- The number of a request that has passed its checks is taken (R482). -/
def State.seqTaken (s : State) (c : Nat) (b : List Byte) : State :=
  { s with secu := { s.secu with seqs := s.secu.seqs.set c (leNat (slice b 24 8)) } }

theorem State.signedService_request (hbusy : s.mbBusy c = true) (hreq : s.mbRequest c host = some b) (hsvc : leNat (b.take 4) = svc) :
    s.signedService c host svc plen signer run =
      if s.envelope c b plen = 0x1C02 then s.replayed c
      else if s.envelope c b plen ≠ 0 then s.mbEnd c (s.envelope c b plen) []
      else if signer s (mbKey b) (mbParams b) ≠ 0 then s.mbEnd c (signer s (mbKey b) (mbParams b)) []
      else if !mbSigned b then s.forged c
      else (s.seqTaken c b).mbServe c (run (s.seqTaken c b) (mbKey b) (mbParams b)) := by
  rw [State.signedService, if_pos hbusy, hreq]
  dsimp only
  rw [if_neg (not_not.2 hsvc)]
  by_cases h : s.envelope c b plen = 0x1C02
  · rw [if_pos h, if_pos h, h, State.replayed]
  · rw [if_neg h, if_neg h, mbKey, mbParams, mbSigned, mbKey, State.forged, State.seqTaken]

/-- Where the envelope or the signer fails, that code ends the request, and nothing of the security state changes. -/
structure State.Refused (s u : State) (c code : Nat) : Prop where
  ended : u.mbEnded c code
  secu : u.secu = s.secu
  pwr : u.pwr = s.pwr
  dram : u.dram = s.dram

theorem State.mbEnd_refused (hc : c < 2) (hcode : code < 65536) : s.Refused (s.mbEnd c code []) c code :=
  ⟨s.mbEnd_ended hc hcode [], State.mbEnd_secu, State.mbEnd_pwr, rfl⟩

theorem State.replayed_refused (hc : c < 2) : s.Refused (s.replayed c) c 0x1C02 :=
  ⟨State.mbEnd_ended _ hc (by decide) [], State.mbEnd_secu, State.mbEnd_pwr, rfl⟩

theorem State.forged_refused (hc : c < 2) : s.Refused (s.forged c) c 0xD :=
  ⟨State.mbEnd_ended _ hc (by decide) [], State.mbEnd_secu, State.mbEnd_pwr, rfl⟩

/-- What the refusal of a request counts and reports stands at its end. -/
theorem State.refusal_counted (hc : c < 2) {k : Nat} (hk : k < 2) :
    (((s.add (Reg.secStat k) 1).raise 0x1C0000 k).mbEnd c code []).flag 0x1C0010 k = true ∧
      (((s.add (Reg.secStat k) 1).raise 0x1C0000 k).mbEnd c code []).rd (Reg.secStat k) = (s.rd (Reg.secStat k) + 1) % 2 ^ 32 := by
  have hout : ∀ x, 0x1C0000 ≤ x → x ∉ mbWords c := fun x hx h => by have := mbWords_place hc h; omega
  refine ⟨?_, ?_⟩
  · rw [State.flag, State.mbEnd_wordsBut _ _ _ _ _ (hout _ (by decide))]
    exact State.flag_raise_same _ _ _ (by omega)
  · rw [State.mbEnd_wordsBut _ _ _ _ _ (hout _ (by unfold Reg.secStat; omega)), State.rd_raise_ne _ _ (by unfold Reg.secStat; omega), State.rd_add_same]

theorem State.envelope_code (s : State) (c : Nat) (b : List Byte) (plen : Nat → Bool) :
    s.envelope c b plen = 1 ∨ s.envelope c b plen = 0x1C02 ∨ s.envelope c b plen = 0 := by
  unfold State.envelope
  dsimp only
  split
  · exact .inl rfl
  · split
    · exact .inr (.inl rfl)
    · exact .inr (.inr rfl)

end

end Sys2Proof.Machine

/-! SUPPORT. The boot record at a start, and the control complex, for O54 (R467, R480, R485). -/

namespace Sys2Proof.Machine

section
variable {s t u : State} {k code data now : Nat} {who : Requester} {i : SignedObj} {fb : Bool}

/-! ### A start counts in the boot record (R478, R485) -/

/-- Of the security state, the boot record alone is another. -/
def Sec.RecordOnly (a b : Sec) : Prop := ∃ boots due, b = { a with boots := boots, bootDue := due }

theorem Sec.RecordOnly.refl (a : Sec) : a.RecordOnly a := ⟨a.boots, a.bootDue, rfl⟩

theorem State.bootPut_secu (s : State) (r : BootRec) : s.secu.RecordOnly (s.bootPut r).secu := by
  unfold State.bootPut
  exact ⟨_, _, State.revertEvents_kept.secu.resolve_left (by decide)⟩

theorem State.bootWrite_secu (s : State) (r : BootRec) : s.secu.RecordOnly (s.bootWrite r).1.secu := by
  unfold State.bootWrite
  split
  · exact ⟨_, _, rfl⟩
  · split
    · exact s.bootPut_secu r
    · exact .refl _

theorem State.trialStart_secu (s : State) (k : Nat) : s.secu.RecordOnly (s.trialStart k).secu := by
  unfold State.trialStart
  dsimp only
  split
  · exact .refl _
  · split <;> exact State.bootWrite_secu s _

/-- The words of the pages before security and the log, but the count of refused stores. -/
abbrev trialWord (x : Nat) : Prop := x < 0x1C0000 ∧ x ≠ Reg.pwrStat 2

theorem State.revertEvents_below (s : State) (old new : BootRec) : WordsKept (fun x => x < 0x1C0000) s (s.revertEvents old new) :=
  .foldl (.refl _ _) (fun _ _ _ hr => .ite (.trans (.raise hr (by decide)) (State.stage_words_below _ _)) hr)

theorem State.bootPut_below (s : State) (r : BootRec) : WordsKept (fun x => x < 0x1C0000) s (s.bootPut r) := by
  unfold State.bootPut
  extract_lets +onlyGivenNames -merge g i new c src s1
  have h1 : WordsKept (fun x => x < 0x1C0000) s s1 := .regs (.refl _ _) rfl
  exact .trans (.emit h1) (State.revertEvents_below _ _ _)

theorem State.bootWrite_below (s : State) (r : BootRec) : WordsKept trialWord s (s.bootWrite r).1 := by
  unfold State.bootWrite
  split
  · exact .regs (.refl _ _) rfl
  · split
    · exact (s.bootPut_below r).step (fun _ hx => hx.1) (.refl _ _)
    · exact .refuseStore (.refl _ _) (by decide)

theorem State.trialStart_below (s : State) (k : Nat) : WordsKept trialWord s (s.trialStart k) := by
  unfold State.trialStart
  dsimp only
  split
  · exact .refl _ _
  · split <;> exact State.bootWrite_below s _

theorem State.trialStart_mgt : (s.trialStart k).mgt = s.mgt := State.trialStart_kept.mgt.resolve_left (by decide)
theorem State.trialStart_now : (s.trialStart k).now = s.now := State.trialStart_kept.now.resolve_left (by decide)

/-! ### The certified configuration (R487) -/

theorem State.certCheck_mgt (old : State) : (s.certCheck old).mgt = s.mgt := State.certCheck_kept.mgt.resolve_left (by decide)
theorem State.certCheck_secu (old : State) : (s.certCheck old).secu = s.secu := State.certCheck_kept.secu.resolve_left (by decide)
theorem State.certCheck_pwr (old : State) : (s.certCheck old).pwr = s.pwr := State.certCheck_kept.pwr.resolve_left (by decide)

theorem State.certCheck_wordsBut (s old : State) : s.wordsBut (s.certCheck old) [0x1C0010, Reg.svcLogStaged, 0x1D0010] := by
  unfold State.certCheck
  split
  · exact State.wordsBut_refl _ _
  · exact State.wordsBut_trans (State.wordsBut_raise (State.wordsBut_refl _ _) (by simp))
      (State.wordsBut_mono (State.stage_wordsBut _ _) (by simp))

/-- SEC_CERT_CHANGE alone may join the events of the security page. -/
theorem State.certCheck_event (s old : State) {j : Nat} (hj : j ≠ 5) : (s.certCheck old).flag 0x1C0010 j = s.flag 0x1C0010 j := by
  unfold State.certCheck
  split
  · rfl
  · rw [State.logIt, State.flag, State.stage_wordsBut _ _ _ (by decide)]
    exact State.flag_raise_other s 0x1C0000 (by decide) hj

/-! ### Commands to the control complex (R467) -/

def mgtCpxCtrlRow : RegRow := row1 "MGT_CPX_CTRL" 0x44 0x03E80000 [fAny 0 0 .w1s, fAny 31 16 .rw]
def mgtCpxKickRow : RegRow := row1 "MGT_CPX_KICK" 0x4C 0 [fAny 0 0 .wo]
def mgtPage : PageDef := page 0x18 0 1 0xF rowsMgt

theorem State.trigger_cpxRestart {data : Word} (hacc : s.accepts who Reg.mgtCpxCtrl (putBits data.toNat 0 0 1)) :
    s.trigger who Reg.mgtCpxCtrl 0 data = (s.rowStored Reg.mgtCpxCtrl mgtCpxCtrlRow (putBits data.toNat 0 0 1)).cpxRestart := by
  refine (State.writeWord_starts (p := mgtPage) (i := 0) rfl (by decide) (by decide) rfl (by decide) hacc ?_ ?_).2
  · have heffect : ∀ (v : State) (old d : Nat), v.blockEffect mgtPage 0x44 old d = v.mgtEffect 0x44 d := fun _ _ _ => rfl
    exact (heffect _ _ _).trans (if_pos ⟨rfl, bitOf_trigger _⟩)
  · exact State.cpxRestart_kept.secu.resolve_left (by decide)

/-- The control complex has shown that it runs (R467). -/
def State.cpxKicked (s : State) : State := { s with mgt := { s.mgt with kickAt := s.now } }

theorem State.trigger_cpxKick {data : Word} (hacc : s.accepts who Reg.mgtCpxKick (putBits data.toNat 0 0 1)) :
    s.trigger who Reg.mgtCpxKick 0 data = (s.rowStored Reg.mgtCpxKick mgtCpxKickRow (putBits data.toNat 0 0 1)).cpxKicked := by
  refine (State.writeWord_starts (p := mgtPage) (i := 0) rfl (by decide) (by decide) rfl (by decide) hacc ?_ ?_).2
  · have heffect : ∀ (v : State) (old d : Nat), v.blockEffect mgtPage 0x4C old d = v.mgtEffect 0x4C d := fun _ _ _ => rfl
    refine (heffect _ _ _).trans ?_
    rw [State.mgtEffect, if_neg (by simp)]
    exact if_pos ⟨rfl, bitOf_trigger _⟩
  · rfl

theorem State.cpxRestart_mgt (s : State) : s.cpxRestart.mgt = { s.mgt with cpxRun := false, cpxRestart := some s.now } := rfl

theorem State.cpxRestart_wordsBut (s : State) : s.wordsBut s.cpxRestart [Reg.mgtCpxStatus, 0x180010] := by
  have h : WordsKept (fun x => x ∉ [Reg.mgtCpxStatus, 0x180010]) s s.cpxRestart :=
    .raise (.addSat (.setFld (.regs (.refl _ s) rfl) (by simp)) (by simp)) (by simp)
  exact h

theorem State.cpxRestart_held (s : State) : s.cpxRestart.fld Reg.mgtCpxStatus 1 0 = 1 ∧ s.cpxRestart.flag 0x180010 2 = true := by
  refine ⟨?_, State.flag_raise_same _ 0x180000 2 (by decide)⟩
  unfold State.cpxRestart State.addSat
  rw [State.fld, State.rd_raise_ne _ _ (by decide), ← State.fld, State.fld_setFld_other _ _ _ _ _ _ _ (by decide) (by decide) (by decide) (by decide)]
  exact State.fld_setFld_same _ _ _ _ _ (by decide) (by decide)

theorem State.watchdog_due (hrun : s.mgt.cpxRun = true) (hcfg : s.fld Reg.mgtCpxCtrl 31 16 ≠ 0)
    (hdue : s.mgt.kickAt + s.fld Reg.mgtCpxCtrl 31 16 * ms ≤ s.now) : s.watchdog = s.cpxRestart.logIt 0x1800 (evt 0 2) 2 [] :=
  if_pos ⟨hrun, hcfg, hdue⟩

/-! ### The release of the control complex (R480) -/

/-- The control complex restarts no longer, and step 9 of start-up follows step 8. -/
def State.cpxFreed (s : State) : State :=
  let s : State := { s with pwr := { s.pwr with step := if s.pwr.step = 8 then 9 else s.pwr.step } }
  ({ s with mgt := { s.mgt with cpxRestart := none } } : State).setFlag Reg.mgtCpxCtrl 0 false

/-- The control complex runs its image. -/
def State.cpxStarted (s : State) : State :=
  ({ s with secu := { s.secu with cpxOk := true }, mgt := { s.mgt with cpxRun := true, kickAt := s.now } } : State).setFld Reg.mgtCpxStatus 1 0 0

/-- The control complex has no image that verifies. -/
def State.cpxImageless (s : State) : State := (({ s with secu := { s.secu with cpxOk := false } } : State).add (Reg.secStat 0) 1).raise 0x1C0000 0

/-- The image of the control complex is released where it may. -/
def State.mayRelease (s : State) : Prop :=
  s.mgt.running = true ∧ s.mgt.restarting = false ∧ s.domOn 2 = true ∧ (s.pwr.step = 8 ∨ s.mgt.cpxRestart.isSome = true)

theorem State.cpxRelease_eq (h : s.mayRelease) : s.cpxRelease =
    match ((s.trialStart 1).bootImage 1).1 with
    | some (i, fb) => ((s.trialStart 1).cpxFreed.runImage 1 i fb).cpxStarted
    | none => (s.trialStart 1).cpxFreed.cpxImageless := by
  obtain ⟨hrun, hsteady, hdom, hdue⟩ := h
  unfold State.cpxRelease
  rw [if_pos ⟨hrun, by rw [hsteady]; rfl, hdom, hdue⟩]
  dsimp only
  cases ((s.trialStart 1).bootImage 1).1 with
  | none => rfl
  | some r => rfl

theorem State.cpxRelease_some {c : Nat} (h : s.mayRelease) (himg : (s.trialStart 1).bootImage 1 = (some (i, fb), c)) :
    s.cpxRelease = ((s.trialStart 1).cpxFreed.runImage 1 i fb).cpxStarted := by
  rw [State.cpxRelease_eq h, himg]

theorem State.cpxRelease_none {c : Nat} (h : s.mayRelease) (himg : (s.trialStart 1).bootImage 1 = (none, c)) :
    s.cpxRelease = (s.trialStart 1).cpxFreed.cpxImageless := by
  rw [State.cpxRelease_eq h, himg]

theorem State.cpxStarted_status (s : State) : s.cpxStarted.fld Reg.mgtCpxStatus 1 0 = 0 := State.fld_setFld_same _ _ _ _ _ (by decide) (by decide)

theorem Sec.RecordOnly.images {a b : Sec} (h : a.RecordOnly b) : b.images = a.images := by
  obtain ⟨boots, due, rfl⟩ := h
  rfl

theorem State.release_some {c : Nat} (h : s.mayRelease) (himg : (s.trialStart 1).bootImage 1 = (some (i, fb), c)) :
    s.cpxRelease.mgt.cpxRestart = none ∧ s.cpxRelease.mgt.cpxRun = true ∧ s.cpxRelease.mgt.kickAt = s.now ∧ s.cpxRelease.secu.cpxOk = true ∧
      s.cpxRelease.fld Reg.mgtCpxStatus 1 0 = 0 ∧ s.cpxRelease.secu.images = s.secu.images.set 1 (some { rollback := i.rollback, digest := sm3 i.body }) := by
  rw [State.cpxRelease_some h himg]
  refine ⟨rfl, rfl, State.trialStart_now, rfl, State.cpxStarted_status _, ?_⟩
  exact congrArg (fun l : List (Option RunImg) => l.set 1 _) (s.trialStart_secu 1).images

theorem State.release_none {c : Nat} (h : s.mayRelease) (himg : (s.trialStart 1).bootImage 1 = (none, c)) :
    s.cpxRelease.mgt.cpxRestart = none ∧ s.cpxRelease.mgt.cpxRun = s.mgt.cpxRun ∧ s.cpxRelease.secu.cpxOk = false ∧ s.cpxRelease.flag 0x1C0010 0 = true := by
  rw [State.cpxRelease_none h himg]
  exact ⟨rfl, (congrArg Mgt.cpxRun State.trialStart_mgt : (s.trialStart 1).mgt.cpxRun = s.mgt.cpxRun), rfl, State.flag_raise_same _ 0x1C0000 0 (by decide)⟩

end

end Sys2Proof.Machine

/-! SUPPORT. Marigold's restart, its return and recovery, for O54 (R443, R479, R481). -/

namespace Sys2Proof.Machine

section
variable {s t u : State} {c d k code : Nat} {resp : List Byte} {i : SignedObj} {fb : Bool}

/-! ### The restart (R443) -/

/-- The end of one channel's request leaves the other's as it ended. -/
theorem State.mbEnded.mbEnd (h : u.mbEnded c code) (hc : c < 2) (hne : d ≠ c) (hd : d < 2) (x : Nat) (resp : List Byte) : (u.mbEnd d x resp).mbEnded c code := by
  obtain ⟨hcode, hbusy, hdone, hevent⟩ := h
  have hstatus : Reg.mgtMbStatus c ∉ mbWords d := by simp only [mbWords, List.mem_cons, List.not_mem_nil, or_false, Reg.mgtMbStatus, Reg.mgtMbCtrl]; omega
  have hctrl : Reg.mgtMbCtrl c ∉ mbWords d := by simp only [mbWords, List.mem_cons, List.not_mem_nil, or_false, Reg.mgtMbStatus, Reg.mgtMbCtrl]; omega
  have hwords := u.mbEnd_wordsBut d x resp
  refine ⟨by rw [State.fld, hwords _ hstatus]; exact hcode, by rw [State.flag, hwords _ hctrl]; exact hbusy, by rw [State.flag, hwords _ hctrl]; exact hdone, ?_⟩
  rw [State.mbEnd_eq]
  refine State.flag_raise_of_flag d (by omega) ?_
  rw [State.flag, State.rd_setFlag_ne _ _ _ (by unfold Reg.mgtMbCtrl; omega), State.rd_setFlag_ne _ _ _ (by unfold Reg.mgtMbCtrl; omega),
    State.rd_wr_ne _ _ (by unfold Reg.mgtMbStatus; omega), State.answered_rd]
  exact hevent

/-- The request of channel `c`, where it waits, has ended with RESTARTED (R443). -/
def State.requestCut (s : State) (c : Nat) : State := if s.flag (Reg.mgtMbCtrl c) 1 then s.mbEnd c 0x1804 [] else s

/-- The requests of both channels have ended with RESTARTED. -/
def State.requestsCut (s : State) : State := (s.requestCut 0).requestCut 1

theorem State.requestCut_kept (s : State) (c : Nat) : (s.requestCut c).mgt = s.mgt ∧ (s.requestCut c).secu = s.secu := by
  unfold State.requestCut
  split
  · exact ⟨State.mbEnd_mgt, State.mbEnd_secu⟩
  · exact ⟨rfl, rfl⟩

theorem State.requestsCut_kept (s : State) : s.requestsCut.mgt = s.mgt ∧ s.requestsCut.secu = s.secu :=
  ⟨((s.requestCut 0).requestCut_kept 1).1.trans (s.requestCut_kept 0).1, ((s.requestCut 0).requestCut_kept 1).2.trans (s.requestCut_kept 0).2⟩

theorem State.requestsCut_ended (hc : c < 2) (hbusy : s.flag (Reg.mgtMbCtrl c) 1 = true) : s.requestsCut.mbEnded c 0x1804 := by
  unfold State.requestsCut
  rcases Nat.lt_or_ge c 1 with h0 | h1
  · obtain rfl : c = 0 := by omega
    have hended : (s.requestCut 0).mbEnded 0 0x1804 := by
      rw [State.requestCut, if_pos hbusy]
      exact s.mbEnd_ended (by decide) (by decide) []
    rw [State.requestCut]
    split
    · exact hended.mbEnd (by decide) (by decide) (by decide) _ _
    · exact hended
  · obtain rfl : c = 1 := by omega
    have hstill : (s.requestCut 0).flag (Reg.mgtMbCtrl 1) 1 = true := by
      rw [State.requestCut]
      split
      · rw [State.flag, s.mbEnd_wordsBut 0 0x1804 [] _ (by simp [Reg.mgtMbCtrl, Reg.mgtMbStatus])]
        exact hbusy
      · exact hbusy
    rw [State.requestCut, if_pos hstill]
    exact State.mbEnd_ended _ (by decide) (by decide) []

/-- Marigold restarts: its domain is off and no update goes on. -/
def State.mgHeld (s : State) : State :=
  let s := { s with mgt := { s.mgt with restarting := true }, secu := { s.secu with update := none } }
  (((s.setFlag Reg.mgtMgStatus 24 false).addSat Reg.mgtMgStatus 23 16 1).raise 0x180000 3).setDomStat 1 false

theorem State.mgRestart_eq (hrun : s.mgt.running = true) (hsteady : s.mgt.restarting = false) : s.mgRestart = s.requestsCut.mgHeld := by
  unfold State.mgRestart
  rw [if_pos ⟨hrun, by rw [hsteady]; rfl⟩]
  rfl

theorem State.setDomStat_words (s : State) (d : Nat) (on : Bool) : WordsKept (fun x => x ≠ Reg.pwrDomStat0 ∧ x ≠ Reg.pwrDomStat1) s (s.setDomStat d on) :=
  .ite (.setFlag (.refl _ _) (by simp)) (.setFlag (.refl _ _) (by simp))

theorem State.mgHeld_words (s : State) : WordsKept (fun x => x ∉ [Reg.mgtMgStatus, 0x180010, Reg.pwrDomStat0, Reg.pwrDomStat1]) s s.mgHeld :=
  (State.setDomStat_words _ _ _).step (fun _ hx => ⟨fun h => hx (by simp [h]), fun h => hx (by simp [h])⟩)
    (.raise (.addSat (.setFlag (.regs (.refl _ s) rfl) (by simp)) (by simp)) (by simp))

theorem State.mgHeld_shown (s : State) : s.mgHeld.flag Reg.mgtMgStatus 24 = false ∧ s.mgHeld.domOn 1 = false ∧ s.mgHeld.flag 0x180010 3 = true := by
  unfold State.mgHeld
  refine ⟨?_, ?_, ?_⟩
  · rw [(State.setDomStat_words _ _ _).flag (by decide), State.addSat, State.flag, State.rd_raise_ne _ _ (by decide), ← State.flag,
      State.flag_setFld_other _ _ _ _ _ _ (by decide) (by decide) (by decide)]
    exact State.flag_setFlag_same _ _ _ _ (by decide)
  · rw [State.domOn_setDomStat _ (by decide), if_pos rfl]
  · rw [(State.setDomStat_words _ _ _).flag (by decide)]
    exact State.flag_raise_same _ 0x180000 3 (by decide)

theorem State.mbEnded.mgHeld (h : u.mbEnded c code) (hc : c < 2) : u.mgHeld.mbEnded c code := by
  obtain ⟨hcode, hbusy, hdone, hevent⟩ := h
  have hstatus : Reg.mgtMbStatus c ∉ [Reg.mgtMgStatus, 0x180010, Reg.pwrDomStat0, Reg.pwrDomStat1] := by
    simp only [List.mem_cons, List.not_mem_nil, or_false, Reg.mgtMbStatus, Reg.mgtMgStatus, Reg.pwrDomStat0, Reg.pwrDomStat1]; omega
  have hctrl : Reg.mgtMbCtrl c ∉ [Reg.mgtMgStatus, 0x180010, Reg.pwrDomStat0, Reg.pwrDomStat1] := by
    simp only [List.mem_cons, List.not_mem_nil, or_false, Reg.mgtMbCtrl, Reg.mgtMgStatus, Reg.pwrDomStat0, Reg.pwrDomStat1]; omega
  refine ⟨(u.mgHeld_words.fld hstatus 15 0).trans hcode, (u.mgHeld_words.flag hctrl 1).trans hbusy, (u.mgHeld_words.flag hctrl 2).trans hdone, ?_⟩
  unfold State.mgHeld
  rw [(State.setDomStat_words _ _ _).flag (by decide)]
  refine State.flag_raise_of_flag 3 (by decide) ?_
  rw [State.addSat, State.flag, State.rd_setFld_ne _ _ _ _ (by decide), State.rd_setFlag_ne _ _ _ (by decide)]
  exact hevent

/-! ### Marigold runs again (R467, R479) -/

/-- The words that show Marigold and the domains. -/
abbrev wokenWord (x : Nat) : Prop := x = Reg.mgtMgStatus ∨ x = Reg.pwrDomStat0 ∨ x = Reg.pwrDomStat1

theorem wokenWord_below : ∀ x, wokenWord x → x < 0x1C0000 := by
  rintro x (rfl | rfl | rfl) <;> decide

theorem State.takeRetained_below (s : State) : WordsKept (fun x => x < 0x1C0000) s s.takeRetained :=
  .foldl (.regs (.refl _ _) rfl) (fun _ _ _ hr => hr.trans (State.stage_words_below _ _))

theorem State.stage_retained (s : State) (e : LogEntry) : (s.stage e).log.retained = s.log.retained := by
  unfold State.stage
  split <;> rfl

theorem State.foldl_stage_retained (l : List LogEntry) (s : State) : (l.foldl State.stage s).log.retained = s.log.retained := by
  induction l generalizing s with
  | nil => rfl
  | cons e l ih => rw [List.foldl_cons, ih, State.stage_retained]

theorem State.takeRetained_empty (s : State) : s.takeRetained.log.retained = [] := State.foldl_stage_retained _ _

theorem State.revertEvents_retained (s : State) (old new : BootRec) : (s.revertEvents old new).log.retained = s.log.retained := by
  unfold State.revertEvents
  generalize List.range 3 = l
  induction l generalizing s with
  | nil => rfl
  | cons k l ih =>
    rw [List.foldl_cons, ih]
    split
    · rw [State.logIt, State.stage_retained, State.raise_log]
    · rfl

theorem State.bootPut_retained (s : State) (r : BootRec) : (s.bootPut r).log.retained = s.log.retained := State.revertEvents_retained _ _ _

/-- What the boot record and the identity key leave of the security state. -/
structure Sec.Runs (a b : Sec) : Prop where
  seqs : b.seqs = a.seqs
  recovered : b.recovered = a.recovered
  images : b.images = a.images

theorem Sec.RecordOnly.runs {a b : Sec} (h : a.RecordOnly b) : a.Runs b := by
  obtain ⟨boots, due, rfl⟩ := h
  exact ⟨rfl, rfl, rfl⟩

theorem Sec.Runs.trans {a b c : Sec} (h : a.Runs b) (k : b.Runs c) : a.Runs c :=
  ⟨k.seqs.trans h.seqs, k.recovered.trans h.recovered, k.images.trans h.images⟩

theorem State.identityStart_runs (s : State) : s.secu.Runs s.identityStart.secu ∧ s.identityStart.log = s.log := by
  unfold State.identityStart
  split
  · split
    · exact ⟨⟨rfl, rfl, rfl⟩, rfl⟩
    · exact ⟨⟨rfl, rfl, rfl⟩, rfl⟩
  · exact ⟨⟨rfl, rfl, rfl⟩, rfl⟩

/-- The boot record that has waited is written, or given up (R485). -/
def State.recordFlushed (s : State) : State :=
  match s.secu.bootDue with
  | none => s
  | some r => if s.storeOk 2 then s.bootPut r else { s.refuseStore with secu := { s.refuseStore.secu with bootDue := none } }

theorem State.bootFlush_eq (s : State) : s.bootFlush = if !s.pwr.measured || s.mgt.restarting then s else s.recordFlushed.identityStart := rfl

theorem State.recordFlushed_runs (s : State) : s.secu.Runs s.recordFlushed.secu ∧ s.recordFlushed.log.retained = s.log.retained := by
  unfold State.recordFlushed
  split
  · exact ⟨⟨rfl, rfl, rfl⟩, rfl⟩
  · split
    · exact ⟨(s.bootPut_secu _).runs, s.bootPut_retained _⟩
    · exact ⟨⟨rfl, rfl, rfl⟩, rfl⟩

theorem State.bootFlush_runs (s : State) : s.secu.Runs s.bootFlush.secu ∧ s.bootFlush.log.retained = s.log.retained := by
  rw [State.bootFlush_eq]
  split
  · exact ⟨⟨rfl, rfl, rfl⟩, rfl⟩
  · obtain ⟨hsecu, hlog⟩ := s.recordFlushed_runs
    obtain ⟨hsecu2, hlog2⟩ := s.recordFlushed.identityStart_runs
    exact ⟨hsecu.trans hsecu2, (congrArg Log.retained hlog2).trans hlog⟩

theorem State.identityStart_below (s : State) : WordsKept trialWord s s.identityStart := by
  unfold State.identityStart
  exact .ite (.ite (.regs (.refl _ _) s.draw256_regs) (.refuseStore (.refl _ _) (by decide))) (.refl _ _)

theorem State.recordFlushed_below (s : State) : WordsKept trialWord s s.recordFlushed := by
  unfold State.recordFlushed
  split
  · exact .refl _ _
  · exact .ite ((s.bootPut_below _).step (fun _ hx => hx.1) (.refl _ _)) (.regs (.refuseStore (.refl _ s) (by decide)) rfl)

theorem State.bootFlush_below (s : State) : WordsKept trialWord s s.bootFlush := by
  rw [State.bootFlush_eq]
  exact .ite (.refl _ _) (s.recordFlushed_below.trans s.recordFlushed.identityStart_below)

theorem State.segStore_woken (s : State) (x : Seg × List Bool) : WordsKept wokenWord s (s.segStore x) :=
  .ite (.regs (.refl _ _) rfl) (.ite (.regs (.refl _ _) rfl) (.regs (.refuseStore (.refl _ s) (by decide)) rfl))

theorem State.segDelete_woken (s : State) (n : Nat) : WordsKept wokenWord s (s.segDelete n) :=
  .ite (.regs (.refl _ _) rfl) (.ite (.regs (.refl _ _) rfl) (.regs (.refuseStore (.refl _ s) (by decide)) rfl))

theorem driveWord_asleep (hd : d < 2) : ¬ wokenWord (Reg.nvsDStatus d) ∧ ¬ wokenWord (Reg.nvsDStat d 1) := by
  unfold wokenWord Reg.nvsDStatus Reg.nvsDStat Reg.mgtMgStatus Reg.pwrDomStat0 Reg.pwrDomStat1
  omega

theorem State.driveInit_woken (s : State) (hd : d < 2) : WordsKept wokenWord s (s.driveInit d) := by
  obtain ⟨hstatus, hstat⟩ := driveWord_asleep hd
  have hmeta : ∀ v : State, WordsKept wokenWord v (v.metaWrite d []) := fun v x hx =>
    v.metaWrite_regs _ _ _ (fun h => hstat (List.mem_singleton.1 h ▸ hx))
  exact .setFlag (.setFld (.trans (.regs (.refl _ s) rfl) (hmeta _)) hstatus) hstatus

theorem rejected_asleep (hd : d < 2) {h : Nat} (hh : h < 64) : ∀ x ∈ errWords h ++ [nvsDBase d + 0xC], ¬ wokenWord x := by
  intro x hx
  simp only [errWords, Reg.devErrHead, Reg.devErrLost, Reg.devErrTotal, Reg.devErrW0, Reg.devErrW1, Reg.devErrW2, Reg.devErrW3, List.mem_append,
    List.mem_cons, List.not_mem_nil, or_false, nvsDBase] at hx
  unfold wokenWord Reg.mgtMgStatus Reg.pwrDomStat0 Reg.pwrDomStat1
  omega

/-- An INIT that has waited begins, or is refused (R33, R463). -/
def State.initResumed (s : State) (d : Nat) : State :=
  if (s.drive d).initDue then
    (if s.storeOk 3 then s.driveInit d
     else (s.setDrive d { s.drive d with initDue := false }).refuseStore.rejectCommit (nvsDBase d) 0x40 0xC)
  else s

theorem State.initResumed_woken (s : State) (hd : d < 2) : WordsKept wokenWord s (s.initResumed d) := by
  have hbase : nvsDBase d % 0x1000 = 0 := by unfold nvsDBase; omega
  have hrefused : ∀ v : State, WordsKept wokenWord v (v.rejectCommit (nvsDBase d) 0x40 0xC) := fun v =>
    .wordsBut (v.rejectCommit_wordsBut 0x40 0xC hbase) (rejected_asleep hd (Nat.mod_lt _ (by decide)))
  have hstore : WordsKept wokenWord s (s.setDrive d { s.drive d with initDue := false }).refuseStore := .refuseStore (.regs (.refl _ s) rfl) (by decide)
  exact .ite (.ite (s.driveInit_woken hd) (hstore.trans (hrefused _))) (.refl _ _)

/-- A segment that has waited to be stored is stored. -/
def State.segwResumed (s : State) : State :=
  match s.nvs.segw with
  | some (some x, _) => if s.nvs.segwWait then s.segStore x else s
  | _ => s

/-- A segment that has waited to be deleted is deleted. -/
def State.segopResumed (s : State) : State :=
  match s.nvs.segop with
  | some (1, n, 0) => if s.nvs.segopWait then s.segDelete n else s
  | _ => s

theorem State.storesResume_eq (s : State) : s.storesResume = (List.range 2).foldl State.initResumed s.segwResumed.segopResumed := rfl

theorem State.storesResume_woken (s : State) : WordsKept wokenWord s s.storesResume := by
  have hstore : WordsKept wokenWord s s.segwResumed := by
    unfold State.segwResumed
    split
    · exact .ite (s.segStore_woken _) (.refl _ _)
    · exact .refl _ _
  have hdelete : ∀ v : State, WordsKept wokenWord v v.segopResumed := fun v => by
    unfold State.segopResumed
    split
    · exact .ite (v.segDelete_woken _) (.refl _ _)
    · exact .refl _ _
  rw [State.storesResume_eq]
  exact .foldl (hstore.trans (hdelete _)) (fun r _ hmem hr => hr.trans (r.initResumed_woken (List.mem_range.1 hmem)))

/-- Marigold runs an image from its slot, and what has waited for it goes on. -/
def State.mgResumed (s : State) (i : SignedObj) (fb : Bool) : State :=
  (s.runImage 0 i fb).mgStarted.fromFlash.takeRetained.bootFlush.storesResume

theorem State.mgStarted_shown (s : State) : s.mgStarted.flag Reg.mgtMgStatus 24 = true ∧ s.mgStarted.domOn 1 = true := by
  refine ⟨?_, (State.domOn_setDomStat _ (by decide) 1 true).trans (if_pos rfl)⟩
  exact ((State.setDomStat_words _ _ _).flag (by decide) 24).trans (State.flag_setFlag_same _ _ _ _ (by decide))

theorem State.mgResumed_words (s : State) (i : SignedObj) (fb : Bool) : WordsKept wokenWord (s.runImage 0 i fb).mgStarted (s.mgResumed i fb) := by
  have hwoken : ∀ x, wokenWord x → trialWord x := by rintro x (rfl | rfl | rfl) <;> decide
  exact ((s.runImage 0 i fb).mgStarted.fromFlash.takeRetained.bootFlush_below.step hwoken
    ((State.takeRetained_below _).step wokenWord_below (.regs (.refl _ _) rfl))).trans (State.storesResume_woken _)

theorem State.mgResumed_mgt (s : State) (i : SignedObj) (fb : Bool) : (s.mgResumed i fb).mgt = (s.runImage 0 i fb).mgStarted.mgt := by
  rw [State.mgResumed, State.storesResume_kept.mgt.resolve_left (by decide), State.bootFlush_kept.mgt.resolve_left (by decide),
    State.takeRetained_kept.mgt.resolve_left (by decide)]
  rfl

theorem State.mgResumed_log (s : State) (i : SignedObj) (fb : Bool) : (s.mgResumed i fb).log.retained = [] := by
  rw [State.mgResumed, State.storesResume_kept.log.resolve_left (by decide), (State.bootFlush_runs _).2, State.takeRetained_empty]

theorem State.mgResumed_secu (s : State) (i : SignedObj) (fb : Bool) : (s.mgResumed i fb).secu.seqs = [0, 0] ∧ (s.mgResumed i fb).secu.recovered = false ∧
    (s.mgResumed i fb).secu.images = s.secu.images.set 0 (some { rollback := i.rollback, digest := sm3 i.body }) := by
  have hretained : ((s.runImage 0 i fb).mgStarted.fromFlash.takeRetained).secu = (s.runImage 0 i fb).mgStarted.fromFlash.secu :=
    State.takeRetained_kept.secu.resolve_left (by decide)
  obtain ⟨hseqs, hrec, himages⟩ := (State.bootFlush_runs (s.runImage 0 i fb).mgStarted.fromFlash.takeRetained).1
  rw [State.mgResumed, State.storesResume_kept.secu.resolve_left (by decide), hseqs, hrec, himages, hretained]
  exact ⟨rfl, rfl, rfl⟩

theorem State.mgResumed_shown (s : State) (i : SignedObj) (fb : Bool) :
    (s.mgResumed i fb).flag Reg.mgtMgStatus 24 = true ∧ (s.mgResumed i fb).domOn 1 = true := by
  have hwords := s.mgResumed_words i fb
  obtain ⟨hready, hdom⟩ := (s.runImage 0 i fb).mgStarted_shown
  exact ⟨(hwords.flag (.inl rfl) 24).trans hready, (hwords.domOn (.inr (.inl rfl)) (.inr (.inr rfl)) 1).trans hdom⟩

/-! ### Recovery (R481) -/

theorem State.domainOff_secu (s : State) (d : Nat) : (s.domainOff d).secu = s.secu := State.domainOff_kept.secu.resolve_left (by decide)

theorem State.domainOff_step (s : State) (d : Nat) : (s.domainOff d).pwr.step = s.pwr.step := by
  have hpages : ∀ (l : List PageDef) (t : State), (l.foldl (fun s p => s.resetPage p.base) t).pwr = t.pwr := fun l t =>
    (Kept.foldl (Kept.refl _ t) (fun _ _ h => h.trans State.resetPage_kept)).part .pwr (by decide)
  have hstat : ((s.setDomReq d false).setDomStat d false).pwr = s.pwr :=
    ((State.setDomReq_kept (s := s)).trans State.setDomStat_kept).part .pwr (by decide)
  unfold State.domainOff
  rw [State.laneSweep_kept.part .pwr (by decide), State.lanesClear_kept.part .pwr (by decide),
    State.resetBlock_kept.part .pwr (by decide), hpages, hstat]

theorem State.mgt_ite {p : Prop} [Decidable p] {m : Mgt} (ht : t.mgt = m) (hu : u.mgt = m) : (if p then t else u).mgt = m := by
  split <;> assumption

/-- A block that is reset may hold the control complex; Marigold goes on. -/
theorem State.resetBlock_mgt (s : State) (d : Nat) : ∃ on, (s.resetBlock d).mgt = { s.mgt with cpxRun := on } := by
  by_cases h2 : d = 2
  · exact ⟨false, by rw [State.resetBlock, if_pos h2]⟩
  · refine ⟨s.mgt.cpxRun, ?_⟩
    rw [State.resetBlock, if_neg h2]
    iterate 14 refine State.mgt_ite rfl ?_
    refine State.mgt_ite ?_ (State.mgt_ite ?_ rfl)
    · exact State.fovDigest_kept.mgt.resolve_left (by decide) |>.trans (State.mgt_ite rfl (State.standbyOut_kept.mgt.resolve_left (by decide)))
    · exact State.mgt_ite (State.mirrorFail_kept.mgt.resolve_left (by decide)) rfl

theorem State.domainOff_mgt (s : State) (d : Nat) : ∃ on, (s.domainOff d).mgt = { s.mgt with cpxRun := on } := by
  have hpages : ∀ (l : List PageDef) (t : State), (l.foldl (fun s p => s.resetPage p.base) t).mgt = t.mgt := fun l t =>
    (Kept.foldl (Kept.refl _ t) (fun _ _ h => h.trans State.resetPage_kept)).part .mgt (by decide)
  have hstat : ((s.setDomReq d false).setDomStat d false).mgt = s.mgt :=
    ((State.setDomReq_kept (s := s)).trans State.setDomStat_kept).part .mgt (by decide)
  unfold State.domainOff
  rw [State.laneSweep_kept.part .mgt (by decide), State.lanesClear_kept.part .mgt (by decide)]
  obtain ⟨on, hreset⟩ := State.resetBlock_mgt _ d
  exact ⟨on, hreset.trans (by rw [hpages, hstat])⟩

/-- What recovery keeps while domains go off. -/
structure State.Recovering (s t : State) : Prop where
  secu : t.secu = s.secu
  step : t.pwr.step = s.pwr.step
  running : t.mgt.running = s.mgt.running
  restarting : t.mgt.restarting = s.mgt.restarting

theorem State.Recovering.domainOff (h : s.Recovering t) (d : Nat) : s.Recovering (t.domainOff d) := by
  obtain ⟨on, hmgt⟩ := t.domainOff_mgt d
  exact ⟨(t.domainOff_secu d).trans h.secu, (t.domainOff_step d).trans h.step, (congrArg Mgt.running hmgt).trans h.running,
    (congrArg Mgt.restarting hmgt).trans h.restarting⟩

theorem State.Recovering.foldl (h : s.Recovering t) (l : List Nat) : s.Recovering (l.foldl State.domainOff t) := by
  induction l generalizing t with
  | nil => exact h
  | cons d l ih => exact ih (h.domainOff d)

theorem State.Recovering.of_discharge (s : State) : s.Recovering s.discharge := by
  have hpwr : s.discharge.pwr = s.pwr := State.discharge_kept.pwr.resolve_left (by decide)
  have hmgt : s.discharge.mgt = s.mgt := State.discharge_kept.mgt.resolve_left (by decide)
  exact ⟨State.discharge_kept.secu.resolve_left (by decide), congrArg Pwr.step hpwr, congrArg Mgt.running hmgt, congrArg Mgt.restarting hmgt⟩

/-- The domains that recovery switches off: all but the always-on ones and the HEP domain (R481). -/
abbrev recoveryOff : List Nat := (startOrder.reverse ++ [3]).filter (fun d => d != 31)

theorem State.recoveryDomains_kept_all (s : State) : s.Recovering s.recoveryDomains := by
  unfold State.recoveryDomains
  split
  · exact State.Recovering.foldl ⟨rfl, rfl, rfl, rfl⟩ _
  · exact ⟨rfl, rfl, rfl, rfl⟩

theorem State.recoveryDomains_domOn (s : State) (hd : recoveryOff.contains d = false) : s.recoveryDomains.domOn d = s.domOn d := by
  unfold State.recoveryDomains
  split
  · rw [State.domOn_foldl_domainOff _ _ (by decide), hd, Bool.not_false, Bool.and_true]
  · rfl

theorem State.recoveryDomains_off (hrec : s.secu.recovery = true) (hpanel : s.panel = 0) (hd : d ∈ recoveryOff) : s.recoveryDomains.domOn d = false := by
  unfold State.recoveryDomains
  rw [if_pos (by rw [hrec, hpanel]; rfl), State.domOn_foldl_domainOff _ _ (by decide), List.contains_iff_mem.2 hd, Bool.not_true, Bool.and_false]

/-- Recovery is entered, and start-up goes on from its first step. -/
def State.recoveryEntered (s : State) : State :=
  { s.enterRecovery.setDomStat 1 true with
    mgt := { (s.enterRecovery.setDomStat 1 true).mgt with running := false }
    pwr := { (s.enterRecovery.setDomStat 1 true).pwr with step := 1 } }

theorem State.enterRecovery_regs (s : State) : s.enterRecovery.regs = ((s.setDomReq 31 true).setDomStat 31 true).regs := by
  rw [State.enterRecovery]

theorem State.recoveryEntered_regs (s : State) : s.recoveryEntered.regs = (s.enterRecovery.setDomStat 1 true).regs := by
  rw [State.recoveryEntered]

theorem State.recoverAgain_eq (s : State) : s.recoverAgain = s.recoveryEntered.discharge.recoveryDomains := rfl

/-- A word of no domain stands as recovery is entered. -/
theorem State.recoveryEntered_words (s : State) : WordsKept (fun x => ¬ (0x190040 ≤ x ∧ x ≤ 0x19004C)) s s.recoveryEntered := by
  have hreq : WordsKept (fun x => ¬ (0x190040 ≤ x ∧ x ≤ 0x19004C)) s (s.setDomReq 31 true) := .setFlag (.refl _ _) (by decide)
  have hstat : WordsKept (fun x => ¬ (0x190040 ≤ x ∧ x ≤ 0x19004C)) s ((s.setDomReq 31 true).setDomStat 31 true) := .setFlag hreq (by decide)
  have hentered : WordsKept (fun x => ¬ (0x190040 ≤ x ∧ x ≤ 0x19004C)) s s.enterRecovery := .regs hstat s.enterRecovery_regs
  have hshown : WordsKept (fun x => ¬ (0x190040 ≤ x ∧ x ≤ 0x19004C)) s (s.enterRecovery.setDomStat 1 true) :=
    (State.setDomStat_words _ 1 true).step (fun _ hx => ⟨fun h => hx (by rw [h]; decide), fun h => hx (by rw [h]; decide)⟩) hentered
  exact .regs hshown s.recoveryEntered_regs

theorem State.recoveryEntered_mgt (s : State) : s.recoveryEntered.mgt = { s.mgt with running := false } := by
  have hmgt : (s.enterRecovery.setDomStat 1 true).mgt = s.mgt :=
    (State.enterRecovery_kept.trans (State.setDomStat_kept.step rfl (.refl _ _))).mgt.resolve_left (by decide)
  show ({ (s.enterRecovery.setDomStat 1 true).mgt with running := false } : Mgt) = _
  rw [hmgt]

theorem State.recoveryEntered_secu (s : State) : s.recoveryEntered.secu.recovery = true := by
  have hsecu : (s.enterRecovery.setDomStat 1 true).secu = s.enterRecovery.secu := State.setDomStat_kept.secu.resolve_left (by decide)
  show (s.enterRecovery.setDomStat 1 true).secu.recovery = true
  rw [hsecu, State.enterRecovery]

theorem State.recoveryEntered_domOn (s : State) : s.recoveryEntered.domOn 31 = true ∧ s.recoveryEntered.domOn 1 = true := by
  have hdom : ∀ d, s.recoveryEntered.domOn d = (s.enterRecovery.setDomStat 1 true).domOn d :=
    (WordsKept.regs (.refl (fun _ => True) _) s.recoveryEntered_regs).domOn trivial trivial
  have hentered : s.enterRecovery.domOn 31 = ((s.setDomReq 31 true).setDomStat 31 true).domOn 31 :=
    (WordsKept.regs (.refl (fun _ => True) _) s.enterRecovery_regs).domOn trivial trivial 31
  rw [hdom, hdom, State.domOn_setDomStat _ (by decide), State.domOn_setDomStat _ (by decide), if_neg (by decide), if_pos rfl, hentered,
    State.domOn_setDomStat _ (by decide), if_pos rfl]
  exact ⟨rfl, rfl⟩

/-- What recovery shows. -/
structure State.InRecovery (s u : State) : Prop where
  running : u.mgt.running = false
  restarting : u.mgt.restarting = s.mgt.restarting
  recovery : u.secu.recovery = true
  step : u.pwr.step = 1
  hep : u.domOn 31 = true
  mgt : u.domOn 1 = true
  off : s.panel = 0 → ∀ d ∈ startOrder, d ≠ 31 → u.domOn d = false

theorem State.recoverAgain_spec (s : State) : s.InRecovery s.recoverAgain := by
  obtain ⟨hsecu, hstep, hrun, hsteady⟩ := State.Recovering.of_discharge s.recoveryEntered
  obtain ⟨hsecu2, hstep2, hrun2, hsteady2⟩ := s.recoveryEntered.discharge.recoveryDomains_kept_all
  obtain ⟨h31, h1⟩ := s.recoveryEntered_domOn
  have hdom : ∀ d, s.recoveryEntered.discharge.domOn d = s.recoveryEntered.domOn d := State.discharge_words.domOn (by decide) (by decide)
  have hrec := s.recoveryEntered_secu
  have hmgt := s.recoveryEntered_mgt
  rw [State.recoverAgain_eq]
  refine ⟨(hrun2.trans hrun).trans (congrArg Mgt.running hmgt), (hsteady2.trans hsteady).trans (by rw [hmgt]), (congrArg Sec.recovery (hsecu2.trans hsecu)).trans hrec, hstep2.trans hstep, ?_, ?_, fun hpanel d hd h31 => ?_⟩
  · rw [State.recoveryDomains_domOn _ (by decide), hdom, h31]
  · rw [State.recoveryDomains_domOn _ (by decide), hdom, h1]
  · have hoff : s.recoveryEntered.panel = 0 := (s.recoveryEntered_words.fld (by decide) 2 0).trans hpanel
    rw [State.discharge_off hoff]
    refine State.recoveryDomains_off hrec hoff (List.mem_filter.2 ⟨List.mem_append_left _ (List.mem_reverse.2 hd), ?_⟩)
    simpa using h31

/-! ### The end of the restart (R443, R479) -/

theorem State.mgReady_eq (hrun : s.mgt.running = true) (hrestart : s.mgt.restarting = true) : s.mgReady =
    match ((s.restartOver.trialStart 0).bootImage 0).1 with
    | some (i, fb) => (s.restartOver.trialStart 0).mgResumed i fb
    | none => (s.restartOver.trialStart 0).recoverAgain := by
  unfold State.mgReady
  rw [if_pos ⟨hrun, hrestart⟩]
  dsimp only
  rcases (s.restartOver.trialStart 0).bootImage 0 with ⟨_ | r, x⟩
  · rfl
  · rfl

theorem State.mgReady_some (hrun : s.mgt.running = true) (hrestart : s.mgt.restarting = true)
    (himg : (s.restartOver.trialStart 0).bootImage 0 = (some (i, fb), c)) : s.mgReady = (s.restartOver.trialStart 0).mgResumed i fb := by
  rw [State.mgReady_eq hrun hrestart, himg]

theorem State.mgReady_none (hrun : s.mgt.running = true) (hrestart : s.mgt.restarting = true)
    (himg : (s.restartOver.trialStart 0).bootImage 0 = (none, c)) : s.mgReady = (s.restartOver.trialStart 0).recoverAgain := by
  rw [State.mgReady_eq hrun hrestart, himg]

end

end Sys2Proof.Machine

/-! O54: Marigold and the control complex restart and start by their images, and requests end with their code (R443, R444, R445, R467,
R480, R482, R507). -/

namespace Sys2Proof.Machine

section
variable {s u : State} {c t svc code : Nat} {host b : List Byte} {plen : Nat → Bool} {op : Instr}
  {signer : State → List Byte → List Byte → Nat} {run : State → List Byte → List Byte → Served}

/-! ### STATUS (R445) -/

/-- The three words of STATUS: the version, the seconds since the start and the count of restarts. -/
def State.statusBytes (s : State) (t : Nat) : List Byte :=
  leBytes 4 (s.fld Reg.mgtMgStatus 15 0) ++ leBytes 4 ((max s.now t - s.mgt.startedAt) / sec) ++ leBytes 4 (s.fld Reg.mgtMgStatus 23 16)

theorem State.statusBytes_length (s : State) (t : Nat) : (s.statusBytes t).length = 12 := by
  simp [State.statusBytes, Tests.length_leBytes]

theorem State.svcStatusReq_status (hbusy : s.mbBusy c = true) (hreq : s.mbRequest c host = some b) (hsvc : leNat (b.take 4) = 1)
    (hfit : 12 ≤ s.fld (Reg.mgtMbRlen c) 15 0) : (s.at t).svcStatusReq c host rowServices = (s.at t).mbEnd c 0 (s.statusBytes t) := by
  have hbusy' : (s.at t).mbBusy c = true := hbusy
  have hreq' : (s.at t).mbRequest c host = some b := hreq
  rw [State.svcStatusReq, if_pos hbusy', hreq']
  dsimp only
  rw [if_pos hsvc]
  exact State.mbServe_done rfl ((s.statusBytes_length t).trans_le hfit)

theorem State.svcStatusReq_unlisted (hbusy : s.mbBusy c = true) (hreq : s.mbRequest c host = some b) (hsvc : leNat (b.take 4) ≠ 1)
    (hrow : rowServices.contains (leNat (b.take 4)) = false) : (s.at t).svcStatusReq c host rowServices = (s.at t).mbEnd c 0x1802 [] := by
  have hbusy' : (s.at t).mbBusy c = true := hbusy
  have hreq' : (s.at t).mbRequest c host = some b := hreq
  rw [State.svcStatusReq, if_pos hbusy', hreq']
  dsimp only
  rw [if_neg hsvc, hrow, if_neg Bool.false_ne_true]

/-- A response stands in DRAM, or has been sent to the host. -/
theorem State.mbEnd_answer (s : State) (t x : Nat) {resp : List Byte} (hresp : resp ≠ []) :
    (settle ((s.at t).mbEnd 0 x resp)).dram = (s.dramWrite (s.mbAddr 0) resp).dram ∧
      .hostWrite (s.mbAddr 1) resp ∈ (settle ((s.at t).mbEnd 1 x resp)).out := by
  refine ⟨?_, State.sent_out (List.mem_filter.2 ⟨State.mbEnd_out (s := s.at t) hresp, rfl⟩)⟩
  rw [settle_dram, State.mbEnd_dram, State.answered, if_neg hresp, if_pos rfl]
  exact State.dramWrite_dram_congr (s := s) (t := s.at t) (fun _ _ => rfl) rfl rfl _ _

/-! ### LOG_READ (R507) -/

theorem State.svcLogRead_state (s : State) (b : List Byte) : (s.svcLogRead b).2.2 = s := by
  unfold State.svcLogRead
  dsimp only
  repeat' split
  all_goals rfl

theorem State.svcLogRead_at (s : State) (t : Nat) (b : List Byte) :
    ((s.at t).svcLogRead b).1 = (s.svcLogRead b).1 ∧ ((s.at t).svcLogRead b).2.1 = (s.svcLogRead b).2.1 := by
  unfold State.svcLogRead
  dsimp only
  repeat' split
  all_goals exact ⟨rfl, rfl⟩

theorem State.svcLogRead_none (hlen : 16 ≤ b.length) (hmx : leNat (slice b 12 4) = 0) : (s.svcLogRead b).1 = 2 := by
  rw [State.svcLogRead, if_neg (Nat.not_lt.2 hlen), if_pos hmx]
  rfl

theorem State.svcLogRead_many (hlen : 16 ≤ b.length) (hmx : 512 < leNat (slice b 12 4)) : (s.svcLogRead b).1 = 1 := by
  rw [State.svcLogRead, if_neg (Nat.not_lt.2 hlen), if_neg (by omega), if_pos hmx]
  rfl

theorem State.svcLogRead_some (hlen : 16 ≤ b.length) (h1 : 1 ≤ leNat (slice b 12 4)) (hmx : leNat (slice b 12 4) ≤ 512) :
    (s.svcLogRead b).1 = 0 ∧ (s.svcLogRead b).2.1 ≠ [] := by
  rw [State.svcLogRead, if_neg (Nat.not_lt.2 hlen), if_neg (by omega), if_neg (by omega)]
  refine ⟨rfl, fun h => ?_⟩
  simp only [List.append_assoc, List.append_eq_nil_iff] at h
  obtain ⟨holdest, -⟩ := h
  exact absurd (congrArg List.length holdest) (by rw [Tests.length_leBytes]; decide)

theorem State.mbServe_kept (s : State) (c : Nat) (r : Served) (hr : r.2.2 = s) : (s.mbServe c r).log = s.log ∧ (s.mbServe c r).secu = s.secu := by
  unfold State.mbServe
  rw [hr]
  split <;> exact ⟨State.mbEnd_log, State.mbEnd_secu⟩

/-! ### A request that its checks refuse (R482) -/

/-- An instruction ends with what the signed service leaves, unless the request ends without an error. -/
def State.ServesBy (s : State) (c t : Nat) (host : List Byte) (op : Instr) (svc : Nat) (plen : Nat → Bool) (signer : State → List Byte → List Byte → Nat) : Prop :=
  ∃ run, ∀ u, (s.at t).signedService c host svc plen signer run = u → u.fld (Reg.mgtMbStatus c) 15 0 ≠ 0 → exec op s = .next (settle (u.certCheck s))

/-- What the requests that an owner's key signs have in common: the check of the key turns away whom it does not know. -/
def State.SignedBy (s : State) (c t : Nat) (host : List Byte) (q : Instr × Nat × (Nat → Bool)) : Prop :=
  ∃ signer, s.ServesBy c t host q.1 q.2.1 q.2.2 signer ∧
    (q.2.1 < 0x39 ∨ q.2.1 = 0x3B → ∀ key p, s.ownerOk key = false → signer (s.at t) key p = 0x1C01) ∧
    (q.2.1 ≠ 0x3A → q.2.1 ≠ 0x3C → ∀ key p, s.ownerOk key = true → signer (s.at t) key p = 0)

theorem ownerSigner_unknown (key p : List Byte) (h : s.ownerOk key = false) : ownerSigner (s.at t) key p = 0x1C01 :=
  if_neg (by rw [show (s.at t).ownerOk key = s.ownerOk key from rfl, h]; exact Bool.false_ne_true)

theorem ownerSigner_owner (key p : List Byte) (h : s.ownerOk key = true) : ownerSigner (s.at t) key p = 0 := if_pos h

/-- A service whose requests an owner signs. -/
theorem State.SignedBy.owner (h : s.ServesBy c t host op svc plen ownerSigner) : s.SignedBy c t host (op, svc, plen) :=
  ⟨ownerSigner, h, fun _ => ownerSigner_unknown, fun _ _ => ownerSigner_owner⟩

/-- The signed services (R445, R483): the instruction, its code and the length of its parameters. -/
def signedOps (c t : Nat) (host : List Byte) (answers : Bool) : List (Instr × Nat × (Nat → Bool)) :=
  [(.mbPrivWrite c host t, 0x10, fun n => n == 12), (.mbDomain c host answers t, 0x11, fun n => n == 8),
   (.mbCalCapture c host t, 0x20, fun n => n == 8), (.mbUpdateBegin c host t, 0x30, fun n => n == 8),
   (.mbUpdateBlock c host t, 0x31, fun n => (n - 4) % 4096 == 0 && decide (4100 ≤ n ∧ n ≤ 61444)),
   (.mbUpdateEnd c host t, 0x32, fun n => n == 0), (.mbActivate c host t, 0x33, fun n => n == 4),
   (.mbCommit c host t, 0x34, fun n => n == 8), (.mbAttest c host t, 0x35, fun n => n == 32),
   (.mbIdentity c host t, 0x36, fun n => n == 0), (.mbKeyLoad c host t, 0x37, fun n => n == 124),
   (.mbKeyClear c host t, 0x38, fun n => n == 4), (.mbOwnerEnrol c host t, 0x39, fun n => n == 68),
   (.mbOwnerRevoke c host t, 0x3A, fun n => n == 4), (.mbLifecycle c host t, 0x3B, fun n => n == 4),
   (.mbTestUnlock c host t, 0x3C, fun n => n == 288)]

/-- ACTIVATE restarts Marigold only where its request ends without an error (R485). -/
theorem State.servesBy_activate : s.ServesBy c t host (.mbActivate c host t) 0x33 (fun n => n == 4) ownerSigner := by
  refine ⟨fun x _ p => x.svcActivate p, fun u hu hcode => ?_⟩
  have hexec : exec (.mbActivate c host t) s = finish ((if activatesMg s c host && ((s.at t).signedService c host 0x33 (fun n => n == 4) ownerSigner
      (fun x _ p => x.svcActivate p)).fld (Reg.mgtMbStatus c) 15 0 == 0 then ((s.at t).signedService c host 0x33 (fun n => n == 4) ownerSigner
      (fun x _ p => x.svcActivate p)).mgRestart else (s.at t).signedService c host 0x33 (fun n => n == 4) ownerSigner (fun x _ p => x.svcActivate p)).certCheck s) := rfl
  rw [hexec, hu, beq_eq_false_iff_ne.2 hcode, Bool.and_false, if_neg Bool.false_ne_true, finish]

theorem State.signedOps_signed (s : State) (c t : Nat) (host : List Byte) (answers : Bool) : ∀ q ∈ signedOps c t host answers, s.SignedBy c t host q := by
  have hserved : ∀ {op : Instr} {svc : Nat} {plen : Nat → Bool} {signer run},
      exec op s = finish (((s.at t).signedService c host svc plen signer run).certCheck s) → s.ServesBy c t host op svc plen signer :=
    fun h => ⟨_, fun u hu _ => by rw [h, hu, finish]⟩
  intro q hq
  simp only [signedOps, List.mem_cons, List.not_mem_nil, or_false] at hq
  rcases hq with rfl | rfl | rfl | rfl | rfl | rfl | rfl | rfl | rfl | rfl | rfl | rfl | rfl | rfl | rfl | rfl
  case inr.inr.inr.inr.inr.inr.inl => exact .owner State.servesBy_activate
  case inr.inr.inr.inr.inr.inr.inr.inr.inr.inr.inr.inr.inl =>
    exact ⟨enrolSigner, hserved rfl, fun h => by simp at h, fun _ _ key p hkey => if_pos (.inl hkey)⟩
  case inr.inr.inr.inr.inr.inr.inr.inr.inr.inr.inr.inr.inr.inl =>
    exact ⟨revokeSigner, hserved rfl, fun h => by simp at h, fun h => absurd rfl h⟩
  case inr.inr.inr.inr.inr.inr.inr.inr.inr.inr.inr.inr.inr.inr.inr =>
    exact ⟨unlockSigner, hserved rfl, fun h => by simp at h, fun _ h => absurd rfl h⟩
  all_goals exact .owner (hserved rfl)

/-- A request refused with a code that is no success ends so. -/
theorem State.ServesBy.refused (h : s.ServesBy c t host op svc plen signer)
    (hfail : ∀ run, (s.at t).signedService c host svc plen signer run = u) (hu : s.Refused u c code) (hcode : code ≠ 0) :
    exec op s = .next (settle u) := by
  obtain ⟨run, hexec⟩ := h
  rw [hexec u (hfail run) (by rw [hu.ended.1]; exact hcode), State.certCheck_same _ _ hu.secu]

theorem State.Refused.of_at (h : (s.at t).Refused u c code) : s.Refused u c code := ⟨h.ended, h.secu, h.pwr, h.dram⟩

theorem State.Refused.settle (h : s.Refused u c code) : s.Refused (settle u) c code :=
  ⟨h.ended.settle, (settle_secu u).trans h.secu, (settle_pwr u).trans h.pwr, (settle_dram u).trans h.dram⟩

section
variable {q : Instr × Nat × (Nat → Bool)} (hbusy : s.mbBusy c = true) (hreq : s.mbRequest c host = some b) (hsvc : leNat (b.take 4) = q.2.1)
  (hq : s.SignedBy c t host q)
include hbusy hreq hsvc hq

theorem State.signed_envelope (henv : s.envelope c b q.2.2 ≠ 0) :
    ∃ u, exec q.1 s = .next u ∧ s.Refused u c (s.envelope c b q.2.2) ∧
      (s.envelope c b q.2.2 = 0x1C02 → u.flag 0x1C0010 1 = true ∧ u.rd (Reg.secStat 1) = (s.rd (Reg.secStat 1) + 1) % 2 ^ 32) := by
  obtain ⟨signer, hserves, -⟩ := hq
  have hc := State.mbBusy_channel hbusy
  have hcheck : (s.at t).envelope c b q.2.2 = s.envelope c b q.2.2 := rfl
  have hrun := fun run => State.signedService_request (s := s.at t) (plen := q.2.2) (signer := signer) (run := run) hbusy hreq hsvc
  by_cases hreplay : s.envelope c b q.2.2 = 0x1C02
  · have href : s.Refused ((s.at t).replayed c) c 0x1C02 := .of_at (State.replayed_refused hc)
    obtain ⟨hflag, hcount⟩ := State.refusal_counted (s := s.at t) (code := 0x1C02) hc (k := 1) (by decide)
    refine ⟨_, hserves.refused (fun run => (hrun run).trans (if_pos (hcheck.trans hreplay))) href (by decide), ?_, fun _ => ?_⟩
    · rw [hreplay]
      exact href.settle
    · rw [settle_flag, settle_rd]
      exact ⟨hflag, hcount⟩
  · have hcode : s.envelope c b q.2.2 < 65536 := by
      rcases s.envelope_code c b q.2.2 with h | h | h <;> rw [h] <;> decide
    have href : s.Refused ((s.at t).mbEnd c (s.envelope c b q.2.2) []) c (s.envelope c b q.2.2) := .of_at (State.mbEnd_refused hc hcode)
    refine ⟨_, hserves.refused (fun run => ?_) href henv, href.settle, fun h => absurd h hreplay⟩
    rw [hrun run, if_neg (by rw [hcheck]; exact hreplay), if_pos (by rw [hcheck]; exact henv), hcheck]

theorem State.signed_stranger (henv : s.envelope c b q.2.2 = 0) (howner : q.2.1 < 0x39 ∨ q.2.1 = 0x3B) (hkey : s.ownerOk (mbKey b) = false) :
    ∃ u, exec q.1 s = .next u ∧ s.Refused u c 0x1C01 := by
  obtain ⟨signer, hserves, hstranger, -⟩ := hq
  have hcheck : (s.at t).envelope c b q.2.2 = 0 := henv
  have href : s.Refused ((s.at t).mbEnd c 0x1C01 []) c 0x1C01 := .of_at (State.mbEnd_refused (State.mbBusy_channel hbusy) (by decide))
  refine ⟨_, hserves.refused (fun run => ?_) href (by decide), href.settle⟩
  rw [State.signedService_request (s := s.at t) hbusy hreq hsvc, hcheck, if_neg (by decide), if_neg (by decide), hstranger howner _ _ hkey, if_pos (by decide)]

theorem State.signed_forged (henv : s.envelope c b q.2.2 = 0) (h3A : q.2.1 ≠ 0x3A) (h3C : q.2.1 ≠ 0x3C) (hkey : s.ownerOk (mbKey b) = true)
    (hsign : mbSigned b = false) :
    ∃ u, exec q.1 s = .next u ∧ s.Refused u c 0xD ∧ u.flag 0x1C0010 0 = true ∧ u.rd (Reg.secStat 0) = (s.rd (Reg.secStat 0) + 1) % 2 ^ 32 := by
  obtain ⟨signer, hserves, -, howner⟩ := hq
  have hc := State.mbBusy_channel hbusy
  have hcheck : (s.at t).envelope c b q.2.2 = 0 := henv
  have href : s.Refused ((s.at t).forged c) c 0xD := .of_at (State.forged_refused hc)
  obtain ⟨hflag, hcount⟩ := State.refusal_counted (s := s.at t) (code := 0xD) hc (k := 0) (by decide)
  refine ⟨_, hserves.refused (fun run => ?_) href (by decide), href.settle, (settle_flag _ _ _).trans hflag, (settle_rd _ _).trans hcount⟩
  rw [State.signedService_request (s := s.at t) hbusy hreq hsvc, hcheck, if_neg (by decide), if_neg (by decide), howner h3A h3C _ _ hkey,
    if_neg (by decide), hsign, Bool.not_false, if_pos rfl]

end

end

end Sys2Proof.Machine

/-! O54 settled: the clauses of the control complex, of Marigold and of the mailbox, put together (R443-R445, R467, R480-R482, R507). -/

namespace Sys2Proof.Machine

section
variable {s : State} {c t : Nat} {host b : List Byte} {who : Requester} {data : Word}

theorem exec_mgtCpxRestart (hacc : s.accepts who Reg.mgtCpxCtrl (putBits data.toNat 0 0 1)) :
    ∃ u, exec (.mgtCpxRestart who data) s = .next u ∧ u.mgt = { s.mgt with cpxRun := false, cpxRestart := some s.now } ∧
      u.fld Reg.mgtCpxStatus 1 0 = 1 ∧ u.flag 0x180010 2 = true ∧ s.wordsBut u [Reg.mgtCpxCtrl, Reg.mgtCpxStatus, 0x180010] := by
  obtain ⟨hheld, hevent⟩ := (s.rowStored Reg.mgtCpxCtrl mgtCpxCtrlRow (putBits data.toNat 0 0 1)).cpxRestart_held
  refine ⟨_, congrArg finish (State.trigger_cpxRestart hacc), ?_⟩
  rw [settle_mgt, settle_fld, settle_flag]
  refine ⟨State.cpxRestart_mgt _, hheld, hevent, State.wordsBut_settle ?_⟩
  exact State.wordsBut_trans (State.wordsBut_mono (s.rowStored_words _ _ _) (by simp)) (State.wordsBut_mono (State.cpxRestart_wordsBut _) (by simp))

theorem exec_mgtCpxKick (hacc : s.accepts who Reg.mgtCpxKick (putBits data.toNat 0 0 1)) :
    ∃ u, exec (.mgtCpxKick who data) s = .next u ∧ u.mgt = { s.mgt with kickAt := s.now } ∧ s.wordsBut u [Reg.mgtCpxKick] := by
  refine ⟨_, congrArg finish (State.trigger_cpxKick hacc), settle_mgt _, State.wordsBut_settle fun x hx => ?_⟩
  exact s.rowStored_words Reg.mgtCpxKick mgtCpxKickRow (putBits data.toNat 0 0 1) x hx

theorem exec_cpxWatchdogExpire (hrun : s.mgt.cpxRun = true) (hcfg : s.fld Reg.mgtCpxCtrl 31 16 ≠ 0)
    (hdue : s.mgt.kickAt + s.fld Reg.mgtCpxCtrl 31 16 * ms ≤ max s.now t) :
    ∃ u, exec (.cpxWatchdogExpire t) s = .next u ∧ u.mgt = { s.mgt with cpxRun := false, cpxRestart := some (max s.now t) } ∧ u.flag 0x180010 2 = true := by
  have hlog : WordsKept (fun x => x < 0x1C0000) (s.at t).cpxRestart ((s.at t).cpxRestart.logIt 0x1800 (evt 0 2) 2 []) := State.stage_words_below _ _
  refine ⟨_, congrArg finish (State.watchdog_due (s := s.at t) hrun hcfg hdue), ?_⟩
  rw [settle_mgt, settle_flag, hlog.flag (by decide), State.logIt_kept.mgt.resolve_left (by decide)]
  exact ⟨(s.at t).cpxRestart_mgt, (s.at t).cpxRestart_held.2⟩

theorem exec_cpxImageRelease (hrun : s.mgt.running = true) (hsteady : s.mgt.restarting = false) (hdom : s.domOn 2 = true)
    (hdue : s.pwr.step = 8 ∨ s.mgt.cpxRestart.isSome = true) :
    ∃ u, exec (.cpxImageRelease t) s = .next u ∧ u.mgt.cpxRestart = none ∧
      (∀ i fb c, ((s.at t).trialStart 1).bootImage 1 = (some (i, fb), c) → u.mgt.cpxRun = true ∧ u.mgt.kickAt = max s.now t ∧
        u.secu.cpxOk = true ∧ u.fld Reg.mgtCpxStatus 1 0 = 0 ∧
        u.secu.images = s.secu.images.set 1 (some { rollback := i.rollback, digest := sm3 i.body })) ∧
      (∀ c, ((s.at t).trialStart 1).bootImage 1 = (none, c) → u.mgt.cpxRun = s.mgt.cpxRun ∧ u.secu.cpxOk = false ∧ u.flag 0x1C0010 0 = true) := by
  have hmay : (s.at t).mayRelease := ⟨hrun, hsteady, hdom, hdue⟩
  have hbelow := (s.at t).cpxRelease.certCheck_below s
  refine ⟨_, rfl, ?_⟩
  rw [settle_mgt, settle_secu, settle_fld, settle_flag, State.certCheck_mgt, State.certCheck_secu, hbelow.fld (by decide), State.certCheck_event _ _ (by decide)]
  rcases himg : ((s.at t).trialStart 1).bootImage 1 with ⟨_ | ⟨i, fb⟩, code⟩
  · obtain ⟨hnone, hheld, hok, hevent⟩ := State.release_none hmay himg
    exact ⟨hnone, fun i fb c h => (by simp at h), fun c h => ⟨hheld, hok, hevent⟩⟩
  · obtain ⟨hnone, hruns, hkick, hok, hstatus, himages⟩ := State.release_some hmay himg
    refine ⟨hnone, fun j gb c h => ?_, fun c h => (by simp at h)⟩
    obtain ⟨rfl, rfl⟩ : i = j ∧ fb = gb := by simp only [Prod.mk.injEq, Option.some.injEq] at h; exact h.1
    exact ⟨hruns, hkick, hok, hstatus, himages⟩

theorem exec_marigoldRestart (hrun : s.mgt.running = true) (hsteady : s.mgt.restarting = false) :
    ∃ u, exec (.marigoldRestart t) s = .next u ∧ u.mgt = { s.mgt with restarting := true } ∧ u.flag Reg.mgtMgStatus 24 = false ∧
      u.domOn 1 = false ∧ u.secu = { s.secu with update := none } ∧ u.flag 0x180010 3 = true ∧
      ∀ c, c < 2 → s.flag (Reg.mgtMbCtrl c) 1 = true → u.mbEnded c 0x1804 := by
  obtain ⟨hmgt, hsecu⟩ := (s.at t).requestsCut_kept
  obtain ⟨hready, hdom, hevent⟩ := (s.at t).requestsCut.mgHeld_shown
  have hheldMgt : (s.at t).requestsCut.mgHeld.mgt = { (s.at t).requestsCut.mgt with restarting := true } := rfl
  have hheldSecu : (s.at t).requestsCut.mgHeld.secu = { (s.at t).requestsCut.secu with update := none } := rfl
  refine ⟨_, congrArg finish (State.mgRestart_eq (s := s.at t) hrun hsteady), ?_⟩
  rw [settle_mgt, settle_secu, settle_flag, settle_flag, settle_domOn, hheldMgt, hheldSecu, hmgt, hsecu]
  refine ⟨rfl, hready, hdom, rfl, hevent, fun c hc hbusy => ?_⟩
  exact ((State.requestsCut_ended (s := s.at t) hc hbusy).mgHeld hc).settle

theorem exec_marigoldReady (hrun : s.mgt.running = true) (hrestart : s.mgt.restarting = true) :
    ∃ u, exec (.marigoldReady t) s = .next u ∧ u.mgt.restarting = false ∧ u.domOn 1 = true ∧
      (∀ i fb c, ((s.at t).restartOver.trialStart 0).bootImage 0 = (some (i, fb), c) → u.mgt.running = true ∧
        u.flag Reg.mgtMgStatus 24 = true ∧ u.secu.seqs = [0, 0] ∧ u.log.retained = [] ∧ u.secu.recovered = false ∧
        u.secu.images = s.secu.images.set 0 (some { rollback := i.rollback, digest := sm3 i.body })) ∧
      (∀ c, ((s.at t).restartOver.trialStart 0).bootImage 0 = (none, c) → u.mgt.running = false ∧ u.secu.recovery = true ∧
        u.pwr.step = 1 ∧ u.domOn 31 = true ∧ (s.panel = 0 → ∀ d ∈ startOrder, d ≠ 31 → u.domOn d = false)) := by
  have hbelow := (s.at t).mgReady.certCheck_below s
  have hdom : ∀ d, (settle ((s.at t).mgReady.certCheck s)).domOn d = (s.at t).mgReady.domOn d := fun d =>
    (settle_domOn _ _).trans (hbelow.domOn (by decide) (by decide) d)
  have hlog : ((s.at t).mgReady.certCheck s).log.retained = (s.at t).mgReady.log.retained := by
    unfold State.certCheck
    split
    · rfl
    · rw [State.logIt, State.stage_retained, State.raise_log]
  have htrial : ((s.at t).restartOver.trialStart 0).secu.images = s.secu.images := ((s.at t).restartOver.trialStart_secu 0).images
  have hmgt : ((s.at t).restartOver.trialStart 0).mgt = (s.at t).restartOver.mgt := State.trialStart_mgt
  have hpanel : ((s.at t).restartOver.trialStart 0).panel = s.panel := ((s.at t).restartOver.trialStart_below 0).fld (by decide) 2 0
  refine ⟨_, rfl, ?_⟩
  simp only [hdom]
  rw [settle_mgt, settle_secu, settle_pwr, settle_flag, settle_log, State.certCheck_mgt, State.certCheck_secu, State.certCheck_pwr, hbelow.flag (by decide), hlog]
  rcases himg : ((s.at t).restartOver.trialStart 0).bootImage 0 with ⟨_ | ⟨i, fb⟩, code⟩
  · obtain ⟨hdown, hsteady, hrec, hstep, hhep, hmg, hoff⟩ := ((s.at t).restartOver.trialStart 0).recoverAgain_spec
    rw [State.mgReady_none (s := s.at t) hrun hrestart himg]
    exact ⟨hsteady.trans (congrArg Mgt.restarting hmgt), hmg, fun i fb c h => (by simp at h),
      fun c h => ⟨hdown, hrec, hstep, hhep, fun h0 => hoff (hpanel.trans h0)⟩⟩
  · obtain ⟨hseqs, hrec, himages⟩ := ((s.at t).restartOver.trialStart 0).mgResumed_secu i fb
    obtain ⟨hready, hmg⟩ := ((s.at t).restartOver.trialStart 0).mgResumed_shown i fb
    have hruns := ((s.at t).restartOver.trialStart 0).mgResumed_mgt i fb
    rw [State.mgReady_some (s := s.at t) hrun hrestart himg, hruns]
    refine ⟨rfl, hmg, fun j gb c h => ?_, fun c h => (by simp at h)⟩
    obtain ⟨rfl, rfl⟩ : i = j ∧ fb = gb := by simp only [Prod.mk.injEq, Option.some.injEq] at h; exact h.1
    exact ⟨rfl, hready, hseqs, State.mgResumed_log _ _ _, hrec, himages.trans (by rw [htrial])⟩

/-! ### Open requests (R444, R445, R507) -/

theorem exec_mbStatus (hbusy : s.mbBusy c = true) (hreq : s.mbRequest c host = some b) (hsvc : leNat (b.take 4) = 1)
    (hfit : 12 ≤ s.fld (Reg.mgtMbRlen c) 15 0) :
    ∃ u, exec (.mbStatus c host t) s = .next u ∧ u.mbEnded c 0 ∧ u.fld (Reg.mgtMbStatus c) 31 16 = 12 ∧ u.secu = s.secu ∧
      (c = 0 → u.dram = (s.dramWrite (s.mbAddr 0) (s.statusBytes t)).dram) ∧ (c = 1 → .hostWrite (s.mbAddr 1) (s.statusBytes t) ∈ u.out) := by
  have hc := State.mbBusy_channel hbusy
  have hlen := s.statusBytes_length t
  have hsome : s.statusBytes t ≠ [] := fun h => absurd (hlen.symm.trans (congrArg List.length h)) (by decide)
  obtain ⟨hdram, hout⟩ := s.mbEnd_answer t 0 hsome
  have hshown := (s.at t).mbEnd_len hc 0 (resp := s.statusBytes t) (by rw [hlen]; decide)
  refine ⟨_, congrArg finish (State.svcStatusReq_status hbusy hreq hsvc hfit), (State.mbEnd_ended _ hc (by decide) _).settle,
    (settle_fld _ _ _ _).trans (hshown.trans hlen), (settle_secu _).trans State.mbEnd_secu, fun h => ?_, fun h => ?_⟩
  · rw [h]
    exact hdram
  · rw [h]
    exact hout

theorem exec_mbStatus_unlisted (hbusy : s.mbBusy c = true) (hreq : s.mbRequest c host = some b) (hsvc : leNat (b.take 4) ≠ 1)
    (hrow : rowServices.contains (leNat (b.take 4)) = false) :
    ∃ u, exec (.mbStatus c host t) s = .next u ∧ u.mbEnded c 0x1802 ∧ u.secu = s.secu ∧ u.dram = s.dram :=
  ⟨_, congrArg finish (State.svcStatusReq_unlisted hbusy hreq hsvc hrow), (State.mbEnd_ended _ (State.mbBusy_channel hbusy) (by decide) _).settle,
    (settle_secu _).trans State.mbEnd_secu, (settle_dram _).trans State.mbEnd_dram_silent⟩

theorem exec_mbLogRead (hbusy : s.mbBusy c = true) (hreq : s.mbRequest c host = some b) (hsvc : leNat (b.take 4) = 2) (hlen : 16 ≤ b.length) :
    ∃ u, exec (.mbLogRead c host t) s = .next u ∧ u.log = s.log ∧ u.secu = s.secu ∧
      (leNat (slice b 12 4) = 0 → u.mbEnded c 2) ∧ (512 < leNat (slice b 12 4) → u.mbEnded c 1) ∧
      (1 ≤ leNat (slice b 12 4) → leNat (slice b 12 4) ≤ 512 → (s.svcLogRead b).2.1.length ≤ s.fld (Reg.mgtMbRlen c) 15 0 →
        u.mbEnded c 0 ∧ (c = 1 → .hostWrite (s.mbAddr 1) (s.svcLogRead b).2.1 ∈ u.out)) := by
  have hc := State.mbBusy_channel hbusy
  have hstate := (s.at t).svcLogRead_state b
  obtain ⟨hlog, hsecu⟩ := (s.at t).mbServe_kept c _ hstate
  obtain ⟨hcode, hresp⟩ := s.svcLogRead_at t b
  refine ⟨_, congrArg finish (State.openService_run (s := s.at t) hbusy hreq hsvc), ?_⟩
  rw [settle_log, settle_secu]
  refine ⟨hlog, hsecu, fun hmx => ?_, fun hmx => ?_, fun h1 hmx hfit => ?_⟩
  · have h2 := hcode.trans (State.svcLogRead_none hlen hmx)
    rw [State.mbServe_failed (by rw [h2]; decide), h2]
    exact (State.mbEnd_ended _ hc (by decide) _).settle
  · have h1 := hcode.trans (State.svcLogRead_many hlen hmx)
    rw [State.mbServe_failed (by rw [h1]; decide), h1]
    exact (State.mbEnd_ended _ hc (by decide) _).settle
  · obtain ⟨h0, hsome⟩ := State.svcLogRead_some (s := s) hlen h1 hmx
    rw [State.mbServe_done (hcode.trans h0) (by rw [hresp]; exact hfit), hstate, hresp]
    refine ⟨(State.mbEnd_ended _ hc (by decide) _).settle, fun h => ?_⟩
    rw [h]
    exact (s.mbEnd_answer t 0 hsome).2

end

/-- Settles O54: every end of a request goes through `mbEnd`, which the settling of the vectors and the check of the configuration leave as
it is; images start by the slot that `bootImage` finds. -/
theorem marigoldAndMailbox : Obligations.MarigoldAndMailbox := by
  unfold Obligations.MarigoldAndMailbox
  intro s t
  refine ⟨fun who data => ⟨exec_mgtCpxRestart, exec_mgtCpxKick⟩, exec_cpxWatchdogExpire, exec_cpxImageRelease, exec_marigoldRestart, exec_marigoldReady,
    fun c host b hbusy hreq => ⟨exec_mbStatus hbusy hreq, exec_mbStatus_unlisted hbusy hreq, exec_mbLogRead hbusy hreq, ?_⟩⟩
  intro answers signed q hq hsvc
  have hsigned := s.signedOps_signed c t host answers q hq
  refine ⟨fun henv => ?_, fun henv howner hkey => ?_, fun henv h3A h3C hkey => ?_⟩
  · obtain ⟨u, hexec, ⟨hended, hsecu, hpwr, hdram⟩, hcount⟩ := State.signed_envelope hbusy hreq hsvc hsigned henv
    exact ⟨u, hexec, hended, hsecu, hpwr, hdram, hcount⟩
  · obtain ⟨u, hexec, hended, hsecu, hpwr, hdram⟩ := State.signed_stranger hbusy hreq hsvc hsigned henv howner hkey
    exact ⟨u, hexec, hended, hsecu, hpwr, hdram⟩
  · cases hsign : mbSigned b with
    | true =>
      obtain ⟨u, hexec, -⟩ := commandsComplete q.1 s
      exact ⟨u, hexec, fun h => absurd h (by decide)⟩
    | false =>
      obtain ⟨u, hexec, ⟨hended, hsecu, hpwr, hdram⟩, hflag, hcount⟩ := State.signed_forged hbusy hreq hsvc hsigned henv h3A h3C hkey hsign
      exact ⟨u, hexec, fun _ => ⟨hended, hsecu, hpwr, hdram, hflag, hcount⟩⟩

end Sys2Proof.Machine

/-! SUPPORT. What a signed request that passes its checks leaves at its end, for O56 (R444, R482, R487). -/

namespace Sys2Proof.Machine

section
variable {s u v w : State} {c t svc code : Nat} {host b resp : List Byte} {plen : Nat → Bool} {op : Instr} {r : Served}
  {signer : State → List Byte → List Byte → Nat} {run : State → List Byte → List Byte → Served}

/-- The state in which a request that has passed its checks is served. -/
def State.asked (s : State) (c t : Nat) (b : List Byte) : State := (s.at t).seqTaken c b

/-- The state at the end of a request that its service has answered with `r`. -/
def State.served (s : State) (c t : Nat) (b : List Byte) (r : Served) : State := settle (((s.asked c t b).mbServe c r).certCheck s)

/-- A signed request that passes the checks of its envelope and its signer, and whose signature verifies, is served. -/
theorem State.mbAsks.exec_served (h : s.mbAsks c host svc plen signer b)
    (hexec : exec op s = finish (((s.at t).signedService c host svc plen signer run).certCheck s))
    (hsigner : signer (s.at t) (mbKey b) (mbParams b) = signer s (mbKey b) (mbParams b)) :
    ∃ u, exec op s = .next u ∧ (mbSigned b = true → u = s.served c t b (run (s.asked c t b) (mbKey b) (mbParams b))) := by
  obtain ⟨hbusy, hreq, hsvc, henv, hkey⟩ := h
  refine ⟨_, hexec, fun hsign => ?_⟩
  have hcheck : (s.at t).envelope c b plen = 0 := henv
  rw [State.signedService_request (s := s.at t) hbusy hreq hsvc, hcheck, hsigner, hkey, hsign, if_neg (by decide), if_neg (by decide), if_neg (by decide),
    if_neg (by decide)]
  rfl

/-- The words that the end of a signed request may write. -/
abbrev servedWords (c : Nat) : List Nat := mbWords c ++ [0x1C0010, Reg.svcLogStaged, 0x1D0010]

/-- What a request with outcome `code` leaves of the state that its service has left. -/
structure State.EndsWith (w u : State) (c code : Nat) : Prop where
  ended : u.mbEnded c code
  secu : u.secu = w.secu
  ing : u.ing = w.ing
  words : w.wordsBut u (servedWords c)
  event : ∀ j, j ≠ 5 → u.flag 0x1C0010 j = w.flag 0x1C0010 j

theorem State.mbEnd_endsWith (hc : c < 2) (hcode : code < 65536) (w old : State) (resp : List Byte) :
    w.EndsWith (settle ((w.mbEnd c code resp).certCheck old)) c code := by
  have hend := w.mbEnd_wordsBut c code resp
  have hcert := (w.mbEnd c code resp).certCheck_wordsBut old
  refine ⟨((w.mbEnd_ended hc hcode resp).certCheck hc old).settle, ?_, ?_, ?_, fun j hj => ?_⟩
  · rw [settle_secu, State.certCheck_secu, State.mbEnd_secu]
  · rw [settle_ing, State.certCheck_kept.ing.resolve_left (by decide), State.mbEnd_ing]
  · exact State.wordsBut_settle (State.wordsBut_trans (State.wordsBut_mono hend fun _ => List.mem_append_left _)
      (State.wordsBut_mono hcert fun _ => List.mem_append_right _))
  · rw [settle_flag, State.certCheck_event _ _ hj, State.flag, hend _ fun h => by have := mbWords_place hc h; omega, State.flag]

theorem State.served_done (hc : c < 2) (h0 : r.1 = 0) (hfit : r.2.1.length ≤ s.fld (Reg.mgtMbRlen c) 15 0) : r.2.2.EndsWith (s.served c t b r) c 0 := by
  rw [State.served, State.mbServe_done (s := s.asked c t b) h0 hfit]
  exact State.mbEnd_endsWith hc (by decide) _ _ _

theorem State.served_failed (hc : c < 2) (hcode : r.1 = code) (h0 : code ≠ 0) (hmax : code < 65536) : r.2.2.EndsWith (s.served c t b r) c code := by
  rw [State.served, State.mbServe_failed (by rw [hcode]; exact h0), hcode]
  exact State.mbEnd_endsWith hc hmax _ _ _

/-- A service done without a response. -/
theorem State.served_ok (hc : c < 2) (w : State) : w.EndsWith (s.served c t b w.ok) c 0 := State.served_done (r := w.ok) hc rfl (Nat.zero_le _)

/-- A service refused with a code leaves what it was asked in. -/
theorem State.served_no (hc : c < 2) (w : State) (h0 : code ≠ 0) (hmax : code < 65536) : w.EndsWith (s.served c t b (w.no code)) c code :=
  State.served_failed (r := w.no code) hc rfl h0 hmax

/-- The response of channel 1 has been sent to the host. -/
theorem State.served_out (h0 : r.1 = 0) (hfit : r.2.1.length ≤ s.fld (Reg.mgtMbRlen 1) 15 0) (hresp : r.2.1 ≠ []) :
    .hostWrite (r.2.2.mbAddr 1) r.2.1 ∈ (s.served 1 t b r).out := by
  rw [State.served, State.mbServe_done (s := s.asked 1 t b) h0 hfit]
  refine State.sent_out ?_
  have hcert : ∀ w : State, (w.certCheck s).out = w.out := fun w => by
    unfold State.certCheck
    split
    · rfl
    · rw [State.logIt, State.stage_out, State.raise_out]
  rw [State.sent, hcert]
  exact List.mem_filter.2 ⟨State.mbEnd_out hresp, rfl⟩

end

end Sys2Proof.Machine

/-! O56: signed requests attest, give the identity, load and clear keys, enrol and revoke owners, and move the lifecycle (R473, R474, R482,
R483, R486, R488-R490). -/

namespace Sys2Proof.Machine

section
variable {s u v w : State} {c t k i code : Nat} {host b p : List Byte}

/-! ### Attestation and identity (R483, R486) -/

theorem State.sign_words (msg : List Byte) (n : Nat) (s : State) : WordsKept (fun _ => True) s (State.sign msg n s).2 := by
  induction n generalizing s with
  | zero => exact .refl _ _
  | succ n ih =>
    have hdraw : WordsKept (fun _ => True) s s.draw256.2 := .regs (.refl _ s) s.draw256_regs
    rw [State.sign]
    split
    · exact hdraw
    · exact hdraw.trans (ih _)

/-- The free values drawn for a signature depend on the key and the count of those drawn before. -/
theorem State.sign_congr {x y : State} (msg : List Byte) (n : Nat) (hkey : x.secu.idKey = y.secu.idKey) (hfree : x.free = y.free) :
    (State.sign msg n x).1 = (State.sign msg n y).1 := by
  induction n generalizing x y with
  | zero => rfl
  | succ n ih =>
    have hdraw : x.draw256.1 = y.draw256.1 := by unfold State.draw256 State.draw; rw [hfree]
    have hfree2 : x.draw256.2.free = y.draw256.2.free := by unfold State.draw256 State.draw; rw [hfree]
    rw [State.sign, State.sign, hkey, hdraw]
    cases sm2Sign y.secu.idKey msg (1 + y.draw256.1 % (sm2N - 1)) with
    | some x => rfl
    | none => exact ih hkey hfree2

theorem objHead_ne_nil (kind : Nat) (signer body rest : List Byte) : objHead kind signer body ++ rest ≠ [] := by
  simp [objHead]

/-- The report that a request asks for does not depend on its number. -/
theorem State.attest_asked (s : State) (c t : Nat) (b challenge : List Byte) :
    ((s.asked c t b).attestObj ((s.asked c t b).attestBody challenge)).1 = ((s.at t).attestObj ((s.at t).attestBody challenge)).1 := by
  have hbody : (s.asked c t b).attestBody challenge = (s.at t).attestBody challenge := rfl
  have hsign := fun msg => State.sign_congr (x := s.asked c t b) (y := s.at t) msg 4 rfl rfl
  have hidentity : (s.asked c t b).secu.identity = (s.at t).secu.identity := rfl
  rw [hbody, State.attestObj, State.attestObj]
  dsimp only
  rw [hsign, hidentity]

/-- What ATTEST answers with a valid identity key (R486). -/
def State.report (s : State) (challenge : List Byte) : Served :=
  (0, (s.attestObj (s.attestBody challenge)).1, (s.attestObj (s.attestBody challenge)).2.add (Reg.secStat 4) 1)

theorem State.svcAttest_ok (h : s.secu.identityOk = true) : s.svcAttest p = s.report p := by
  rw [State.svcAttest, h]
  rfl

theorem State.svcAttest_bad (h : s.secu.identityOk = false) : s.svcAttest p = s.no 5 := by
  rw [State.svcAttest, h]
  rfl

theorem State.report_ne_nil (s : State) (challenge : List Byte) : (s.report challenge).2.1 ≠ [] := by
  rw [State.report, State.attestObj, List.append_assoc]
  exact objHead_ne_nil _ _ _ _

/-- A report counts, and changes no other word. -/
theorem State.report_words (s : State) (challenge : List Byte) : WordsKept (fun x => x ≠ Reg.secStat 4) s (s.report challenge).2.2 :=
  .add ((State.sign_words _ 4 s).step (fun _ _ => trivial) (.refl _ s)) (by simp)

theorem State.report_counted (s : State) (challenge : List Byte) : (s.report challenge).2.2.rd (Reg.secStat 4) = (s.rd (Reg.secStat 4) + 1) % 2 ^ 32 := by
  rw [State.report, State.rd_add_same]
  exact congrArg (fun x => (x + 1) % 2 ^ 32) (State.sign_words _ 4 s _ trivial)

theorem WordsKept.mbAddr {K : Nat → Prop} (h : WordsKept K v w) (hlo : K (Reg.mgtMbAddrLo c)) (hhi : K (Reg.mgtMbAddrHi c)) : w.mbAddr c = v.mbAddr c := by
  rw [State.mbAddr, State.mbAddr, State.addr64, State.addr64, h _ hlo, h _ hhi]

theorem secStat_unserved (hc : c < 2) : Reg.secStat 4 ∉ servedWords c := by
  simp only [servedWords, mbWords, List.mem_append, List.mem_cons, List.not_mem_nil, or_false, Reg.secStat, Reg.mgtMbStatus, Reg.mgtMbCtrl, Reg.svcLogStaged]
  omega

theorem State.mbAsks.attest (h : s.mbAsks c host 0x35 (fun n => n == 32) ownerSigner b) (hok : s.secu.identityOk = true) :
    ∃ u, exec (.mbAttest c host t) s = .next u ∧ (mbSigned b = true →
      ((s.at t).attestObj ((s.at t).attestBody (mbParams b))).1.length ≤ s.fld (Reg.mgtMbRlen c) 15 0 → u.mbEnded c 0 ∧
        u.rd (Reg.secStat 4) = (s.rd (Reg.secStat 4) + 1) % 2 ^ 32 ∧
        (c = 1 → .hostWrite (s.mbAddr 1) ((s.at t).attestObj ((s.at t).attestBody (mbParams b))).1 ∈ u.out)) := by
  obtain ⟨u, hexec, hserved⟩ := h.exec_served (t := t) (op := .mbAttest c host t) (run := fun x _ p => x.svcAttest p) rfl rfl
  refine ⟨u, hexec, fun hsign hfit => ?_⟩
  have hc := State.mbBusy_channel h.1
  have hresp : ((s.asked c t b).report (mbParams b)).2.1 = _ := s.attest_asked c t b (mbParams b)
  rw [← hresp] at hfit ⊢
  rw [hserved hsign, State.svcAttest_ok (s := s.asked c t b) hok]
  have hend := State.served_done (s := s) (t := t) (b := b) (r := (s.asked c t b).report (mbParams b)) hc rfl hfit
  refine ⟨hend.ended, (hend.words _ (secStat_unserved hc)).trans (State.report_counted _ _), fun h1 => ?_⟩
  subst h1
  have hout := State.served_out (s := s) (t := t) (b := b) (r := (s.asked 1 t b).report (mbParams b)) rfl hfit (State.report_ne_nil _ _)
  rw [((s.asked 1 t b).report_words (mbParams b)).mbAddr (by decide) (by decide)] at hout
  exact hout

theorem State.mbAsks.attest_bad (h : s.mbAsks c host 0x35 (fun n => n == 32) ownerSigner b) (hbad : s.secu.identityOk = false) :
    ∃ u, exec (.mbAttest c host t) s = .next u ∧ (mbSigned b = true → u.mbEnded c 5) := by
  obtain ⟨u, hexec, hserved⟩ := h.exec_served (t := t) (op := .mbAttest c host t) (run := fun x _ p => x.svcAttest p) rfl rfl
  refine ⟨u, hexec, fun hsign => ?_⟩
  rw [hserved hsign, State.svcAttest_bad (s := s.asked c t b) hbad]
  exact (State.served_no (State.mbBusy_channel h.1) _ (by decide) (by decide)).ended

theorem State.certs_ne_nil (s : State) : s.certs ≠ [] := by
  rw [State.certs, List.append_assoc, List.append_assoc]
  exact objHead_ne_nil _ _ _ _

theorem State.mbAsks.identity (h : s.mbAsks c host 0x36 (fun n => n == 0) ownerSigner b) (hok : s.secu.identityOk = true)
    (hfit : s.certs.length ≤ s.fld (Reg.mgtMbRlen c) 15 0) :
    ∃ u, exec (.mbIdentity c host t) s = .next u ∧ (mbSigned b = true → u.mbEnded c 0 ∧ (c = 1 → .hostWrite (s.mbAddr 1) s.certs ∈ u.out)) := by
  obtain ⟨u, hexec, hserved⟩ := h.exec_served (t := t) (op := .mbIdentity c host t) (run := fun x _ _ => x.svcIdentity) rfl rfl
  refine ⟨u, hexec, fun hsign => ?_⟩
  have hc := State.mbBusy_channel h.1
  have hrun : (s.asked c t b).svcIdentity = (0, s.certs, s.asked c t b) := if_pos hok
  rw [hserved hsign, hrun]
  refine ⟨(State.served_done (r := (0, s.certs, s.asked c t b)) hc rfl hfit).ended, fun h1 => ?_⟩
  subst h1
  exact State.served_out (r := (0, s.certs, s.asked 1 t b)) rfl hfit s.certs_ne_nil

/-! ### Keys of the sessions (R483, R488-R490) -/

/-- What KEY_LOAD leaves (R488). -/
def State.keyLoaded (s : State) (k i : Nat) (salt : List Byte) (key : BitVec 128) : State :=
  let gen := (s.fld (Reg.secKeygen k) (8 * i + 7) (8 * i) + 1) % 256
  let s := s.setSess k { s.sess k with newestSlot := i }
  let s := s.setKey k i { loaded := true, gen := gen, salt := salt, key := key }
  let s := (s.setFld (Reg.secKeygen k) (8 * i + 7) (8 * i) gen).handleNow k
  ((s.raise 0x1C0000 4).raise 0x30000 7).add (Reg.secStat 3) 1

/-- KEY_LOAD may go on to its key: session, slot and padding are right, and the device may decrypt (R488). -/
structure State.MayLoad (s : State) (p : List Byte) : Prop where
  session : leNat (slice p 0 1) ≤ 63
  slot : leNat (slice p 1 1) ≤ 1
  zeros : ∀ x ∈ slice p 2 2 ++ slice p 121 3, x = 0
  ingest : s.domOn 14 = true
  identity : s.secu.identityOk = true
  tested : s.secu.kat.all id = true

theorem any_nonzero_of_zeros {l : List Byte} (h : ∀ x ∈ l, x = 0) : l.any (fun x => x != 0) = false := by
  rw [List.any_eq_false]
  intro x hx
  rw [h x hx]
  decide

theorem State.svcKeyLoad_eq (h : s.MayLoad p) : s.svcKeyLoad p = match sm2Decrypt s.secu.idKey (slice p 8 113) with
    | none => s.no 0x1C06
    | some key => (s.keyLoaded (leNat (slice p 0 1)) (leNat (slice p 1 1)) (slice p 4 4) key).ok := by
  obtain ⟨hk, hi, hzero, hdom, hid, hkat⟩ := h
  have hpad := any_nonzero_of_zeros fun x hx => hzero x (List.mem_append_left _ hx)
  have htail := any_nonzero_of_zeros fun x hx => hzero x (List.mem_append_right _ hx)
  rw [State.svcKeyLoad]
  dsimp only
  rw [hpad, htail, hdom, hid, hkat, if_neg (by simp; omega), if_neg (by simp)]
  cases sm2Decrypt s.secu.idKey (slice p 8 113) with
  | none => rfl
  | some key => rfl

theorem keygen_other (k : Nat) : Reg.secKeygen k ≠ 0x1C0010 ∧ Reg.secKeygen k ≠ 0x30010 ∧ Reg.secKeygen k ≠ Reg.secStat 3 := by
  unfold Reg.secKeygen Reg.secStat
  omega

theorem State.keyLoaded_ing (s : State) (k i : Nat) (salt : List Byte) (key : BitVec 128) : (s.keyLoaded k i salt key).ing.sessions =
    s.ing.sessions.set k { s.sess k with newestSlot := i, keys := (s.sess k).keys.set i { loaded := true, gen := (s.fld (Reg.secKeygen k) (8 * i + 7) (8 * i) + 1) % 256, salt := salt, key := key } } := by
  have hsess : (s.keyLoaded k i salt key).ing = ((s.setSess k { s.sess k with newestSlot := i }).setKey k i
      { loaded := true, gen := (s.fld (Reg.secKeygen k) (8 * i + 7) (8 * i) + 1) % 256, salt := salt, key := key }).ing := by
    unfold State.keyLoaded
    rw [State.add_ing, State.raise_ing, State.raise_ing, State.handleNow_kept.ing.resolve_left (by decide), State.setFld_ing]
  rw [hsess, State.setKey]
  rcases Nat.lt_or_ge k s.ing.sessions.length with hlt | hge
  · rw [State.sess_setSess_same _ hlt]
    simp [State.setSess]
  · simp [State.setSess, List.set_eq_of_length_le hge]

theorem State.keyLoaded_shown (s : State) (hi : i ≤ 1) (salt : List Byte) (key : BitVec 128) :
    (s.keyLoaded k i salt key).fld (Reg.secKeygen k) (8 * i + 7) (8 * i) = (s.fld (Reg.secKeygen k) (8 * i + 7) (8 * i) + 1) % 256 ∧
      (s.keyLoaded k i salt key).flag 0x1C0010 4 = true ∧ (s.keyLoaded k i salt key).flag 0x30010 7 = true := by
  obtain ⟨hsec, hing, hstat⟩ := keygen_other k
  have hhandle : ∀ x : State, (x.handleNow k).regs = x.regs := fun _ => rfl
  unfold State.keyLoaded
  refine ⟨?_, ?_, ?_⟩
  · rw [State.fld, State.rd_add_ne _ _ hstat, State.rd_raise_ne _ _ hing, State.rd_raise_ne _ _ hsec, State.rd, hhandle, ← State.rd, ← State.fld,
      State.fld_setFld_same _ _ _ _ _ (by omega) (by omega), show 8 * i + 7 - 8 * i + 1 = 8 by omega]
    exact Nat.mod_mod _ 256
  · rw [State.flag, State.rd_add_ne _ _ (by decide), State.rd_raise_ne _ _ (by decide)]
    exact State.flag_raise_same _ 0x1C0000 4 (by decide)
  · rw [State.flag, State.rd_add_ne _ _ (by decide)]
    exact State.flag_raise_same _ 0x30000 7 (by decide)

theorem keygen_unserved (hc : c < 2) (k : Nat) : Reg.secKeygen k ∉ servedWords c ∨ 63 < k := by
  simp only [servedWords, mbWords, List.mem_append, List.mem_cons, List.not_mem_nil, or_false, Reg.secKeygen, Reg.mgtMbStatus, Reg.mgtMbCtrl, Reg.svcLogStaged]
  omega

theorem ingestEvent_unserved (hc : c < 2) : 0x30010 ∉ servedWords c := by
  simp only [servedWords, mbWords, List.mem_append, List.mem_cons, List.not_mem_nil, or_false, Reg.mgtMbStatus, Reg.mgtMbCtrl, Reg.svcLogStaged]
  omega

theorem State.mbAsks.keyLoad (h : s.mbAsks c host 0x37 (fun n => n == 124) ownerSigner b) (hmay : s.MayLoad (mbParams b)) :
    let k := leNat (slice (mbParams b) 0 1)
    let i := leNat (slice (mbParams b) 1 1)
    let gen := (s.fld (Reg.secKeygen k) (8 * i + 7) (8 * i) + 1) % 256
    ∃ u, exec (.mbKeyLoad c host t) s = .next u ∧ (mbSigned b = true →
      (sm2Decrypt s.secu.idKey (slice (mbParams b) 8 113) = none → u.mbEnded c 0x1C06 ∧ u.ing = s.ing) ∧
      ∀ key, sm2Decrypt s.secu.idKey (slice (mbParams b) 8 113) = some key → u.mbEnded c 0 ∧
        u.ing.sessions = s.ing.sessions.set k { s.sess k with
          newestSlot := i, keys := (s.sess k).keys.set i { loaded := true, gen := gen, salt := slice (mbParams b) 4 4, key := key } } ∧
        u.fld (Reg.secKeygen k) (8 * i + 7) (8 * i) = gen ∧ u.flag 0x1C0010 4 = true ∧ u.flag 0x30010 7 = true) := by
  intro k i gen
  obtain ⟨u, hexec, hserved⟩ := h.exec_served (t := t) (op := .mbKeyLoad c host t) (run := fun x _ p => x.svcKeyLoad p) rfl rfl
  refine ⟨u, hexec, fun hsign => ?_⟩
  have hc := State.mbBusy_channel h.1
  have hload := State.svcKeyLoad_eq (s := s.asked c t b) (p := mbParams b) ⟨hmay.session, hmay.slot, hmay.zeros, hmay.ingest, hmay.identity, hmay.tested⟩
  have hidkey : (s.asked c t b).secu.idKey = s.secu.idKey := rfl
  rw [hserved hsign, hload, hidkey]
  refine ⟨fun hnone => ?_, fun key hkey => ?_⟩
  · rw [hnone]
    have hend := State.served_no (s := s) (t := t) (b := b) hc (s.asked c t b) (code := 0x1C06) (by decide) (by decide)
    exact ⟨hend.ended, hend.ing⟩
  · rw [hkey]
    have hend := State.served_ok (s := s) (t := t) (b := b) hc ((s.asked c t b).keyLoaded k i (slice (mbParams b) 4 4) key)
    obtain ⟨hgen, hevent, hslot⟩ := (s.asked c t b).keyLoaded_shown (k := k) hmay.slot (slice (mbParams b) 4 4) key
    have hword := (keygen_unserved hc k).resolve_right (Nat.not_lt.2 hmay.session)
    refine ⟨hend.ended, (congrArg _ hend.ing).trans (State.keyLoaded_ing _ _ _ _ _), ?_, (hend.event 4 (by decide)).trans hevent, ?_⟩
    · rw [State.fld, hend.words _ hword]
      exact hgen
    · rw [State.flag, hend.words _ (ingestEvent_unserved hc)]
      exact hslot

theorem State.mbAsks.keyClear (h : s.mbAsks c host 0x38 (fun n => n == 4) ownerSigner b) (hk : leNat (slice (mbParams b) 0 1) ≤ 63)
    (hi : leNat (slice (mbParams b) 1 1) ≤ 1) (hdom : s.domOn 14 = true) :
    let k := leNat (slice (mbParams b) 0 1)
    let i := leNat (slice (mbParams b) 1 1)
    ∃ u, exec (.mbKeyClear c host t) s = .next u ∧ (mbSigned b = true → u.mbEnded c 0 ∧ u.flag 0x30010 7 = true ∧
      u.ing.sessions = s.ing.sessions.set k { s.sess k with keys := (s.sess k).keys.set i { KeySlot.reset with gen := ((s.sess k).keys.getD i KeySlot.reset).gen } }) := by
  intro k i
  obtain ⟨u, hexec, hserved⟩ := h.exec_served (t := t) (op := .mbKeyClear c host t) (run := fun x _ p => x.svcKeyClear p) rfl rfl
  refine ⟨u, hexec, fun hsign => ?_⟩
  have hc := State.mbBusy_channel h.1
  have hasked : (s.asked c t b).domOn 14 = true := hdom
  have hrun : (s.asked c t b).svcKeyClear (mbParams b) = (((s.asked c t b).clearKey k i).raise 0x30000 7).ok := by
    rw [State.svcKeyClear, if_neg (by omega), hasked, if_neg (by decide)]
  rw [hserved hsign, hrun]
  have hend := State.served_ok (s := s) (t := t) (b := b) hc (((s.asked c t b).clearKey k i).raise 0x30000 7)
  refine ⟨hend.ended, ?_, (congrArg _ hend.ing).trans ?_⟩
  · rw [State.flag, hend.words _ (ingestEvent_unserved hc)]
    exact State.flag_raise_same _ 0x30000 7 (by decide)
  · rw [State.raise_ing]
    rfl

end

end Sys2Proof.Machine

/-! O56 settled: owners, the lifecycle and the test port, put together with attestation and keys (R473, R474, R483, R489, R490). -/

namespace Sys2Proof.Machine

section
variable {s u : State} {c t k i j slot : Nat} {host b p : List Byte} {o : SignedObj}

/-! ### Every key slot is cleared (R489, R490) -/

/-- Whether a key slot of a session holds a key. -/
def State.keyHeld (s : State) (k i : Nat) : Bool := ((s.sess k).keys.getD i KeySlot.reset).loaded

theorem State.keyHeld_of_ing (h : u.ing = s.ing) (k i : Nat) : u.keyHeld k i = s.keyHeld k i := by
  rw [State.keyHeld, State.keyHeld, State.sess_of_ing h]

theorem getD_set_loaded (l : List KeySlot) (slot i gen : Nat) : ((l.set slot { KeySlot.reset with gen := gen }).getD i KeySlot.reset).loaded =
    if slot = i then false else (l.getD i KeySlot.reset).loaded := by
  rw [List.getD_eq_getElem?_getD, List.getD_eq_getElem?_getD, List.getElem?_set]
  split
  · split <;> rfl
  · rfl

/-- A cleared slot holds no key, and no other slot takes one. -/
theorem State.clearKey_held (s : State) (k slot j i : Nat) :
    (s.clearKey k slot).keyHeld j i = if j = k ∧ slot = i then false else s.keyHeld j i := by
  rcases Nat.lt_or_ge k s.ing.sessions.length with hlt | hge
  · by_cases hjk : j = k
    · subst hjk
      rw [State.keyHeld, State.clearKey, State.setKey, State.sess_setSess_same _ hlt, getD_set_loaded, State.keyHeld]
      simp
    · rw [State.keyHeld, State.clearKey, State.setKey, State.sess_setSess_ne _ _ hjk, if_neg (fun h => hjk h.1), State.keyHeld]
  · have hsess : (s.clearKey k slot).sess j = s.sess j := by
      rw [State.clearKey, State.setKey, State.sess, State.setSess, List.set_eq_of_length_le hge, State.sess]
    rw [State.keyHeld, hsess, ← State.keyHeld]
    split
    · next h =>
      rw [h.1, State.keyHeld, State.sess, List.getD_eq_default _ _ hge, Session.reset]
      rcases i with _ | _ | i <;> rfl
    · rfl

/-- Both slots of session `k` are cleared. -/
def State.clearBoth (s : State) (k : Nat) : State := (s.clearKey k 0).clearKey k 1

theorem State.clearBoth_held (s : State) (k j i : Nat) : (s.clearBoth k).keyHeld j i = true → s.keyHeld j i = true ∧ ¬ (j = k ∧ i < 2) := by
  rw [State.clearBoth, State.clearKey_held, State.clearKey_held]
  intro h
  by_cases h1 : j = k ∧ 1 = i
  · rw [if_pos h1] at h
    exact absurd h Bool.false_ne_true
  · rw [if_neg h1] at h
    by_cases h0 : j = k ∧ 0 = i
    · rw [if_pos h0] at h
      exact absurd h Bool.false_ne_true
    · rw [if_neg h0] at h
      exact ⟨h, by omega⟩

theorem State.foldl_clearBoth_held (l : List Nat) (s : State) (i : Nat) : (l.foldl State.clearBoth s).keyHeld j i = true → s.keyHeld j i = true ∧ ¬ (j ∈ l ∧ i < 2) := by
  induction l generalizing s with
  | nil => exact fun h => ⟨h, fun hn => absurd hn.1 (List.not_mem_nil)⟩
  | cons k l ih =>
    intro h
    obtain ⟨hstep, hlater⟩ := ih _ h
    obtain ⟨hheld, hne⟩ := s.clearBoth_held k j i hstep
    refine ⟨hheld, fun ⟨hmem, hi⟩ => ?_⟩
    rcases List.mem_cons.1 hmem with rfl | hmem
    · exact hne ⟨rfl, hi⟩
    · exact hlater ⟨hmem, hi⟩

theorem State.clearKeys_held (s : State) (hk : k < 64) (hi : i < 2) : s.clearKeys.keyHeld k i = false := by
  have hing : s.clearKeys.keyHeld k i = ((List.range 64).foldl State.clearBoth s).keyHeld k i :=
    congrArg (fun x : Session => (x.keys.getD i KeySlot.reset).loaded) (State.sess_of_ing (State.raise_ing _ _ _) k)
  rw [hing]
  exact eq_false_of_ne_true fun h => (State.foldl_clearBoth_held _ _ _ h).2 ⟨List.mem_range.2 hk, hi⟩

theorem State.clearKeys_secu (s : State) : s.clearKeys.secu = s.secu := State.clearKeys_kept.secu.resolve_left (by decide)

/-! ### Owners (R474, R483) -/

/-- Owner slot `i` holds `o`. -/
def State.ownerSet (s : State) (i : Nat) (o : Owner) : State := { s with secu := { s.secu with owners := s.secu.owners.set i o } }

theorem State.svcEnrol_free (hw : leNat (slice p 0 4) ≤ 3) (hfree : (s.owner (leNat (slice p 0 4))).enrolled = false) (hstore : s.storeOk 2 = true) :
    s.svcEnrol p = (s.ownerSet (leNat (slice p 0 4)) { digest := sm3 (slice p 4 64), enrolled := true, revoked := false }).ok := by
  rw [State.svcEnrol]
  dsimp only
  rw [if_neg (by omega), hfree, if_neg Bool.false_ne_true, hstore, if_neg (by decide)]
  rfl

theorem State.mbAsks.enrol (h : s.mbAsks c host 0x39 (fun n => n == 68) enrolSigner b) (hw : leNat (slice (mbParams b) 0 4) ≤ 3)
    (hfree : (s.owner (leNat (slice (mbParams b) 0 4))).enrolled = false) (hstore : s.storeOk 2 = true) :
    ∃ u, exec (.mbOwnerEnrol c host t) s = .next u ∧ (mbSigned b = true → u.mbEnded c 0 ∧
      u.secu.owners = s.secu.owners.set (leNat (slice (mbParams b) 0 4)) { digest := sm3 (slice (mbParams b) 4 64), enrolled := true, revoked := false }) := by
  obtain ⟨u, hexec, hserved⟩ := h.exec_served (t := t) (op := .mbOwnerEnrol c host t) (run := fun x _ p => x.svcEnrol p) rfl rfl
  refine ⟨u, hexec, fun hsign => ?_⟩
  rw [hserved hsign, State.svcEnrol_free (s := s.asked c t b) hw hfree hstore]
  have hend := State.served_ok (s := s) (t := t) (b := b) (State.mbBusy_channel h.1) ((s.asked c t b).ownerSet (leNat (slice (mbParams b) 0 4))
    { digest := sm3 (slice (mbParams b) 4 64), enrolled := true, revoked := false })
  exact ⟨hend.ended, by rw [hend.secu]; rfl⟩

theorem State.others_remain (h : ∃ j, j < 4 ∧ j ≠ i ∧ (s.owner j).enrolled = true ∧ (s.owner j).revoked = false) :
    (List.range 4).all (fun j => j == i || !(s.owner j).enrolled || (s.owner j).revoked) = false := by
  obtain ⟨j, hj, hne, henrolled, hrevoked⟩ := h
  refine eq_false_of_ne_true fun hall => ?_
  have hlast := List.all_eq_true.1 hall j (List.mem_range.2 hj)
  rw [henrolled, hrevoked, beq_eq_false_iff_ne.2 hne] at hlast
  exact absurd hlast (by decide)

theorem State.svcRevoke_other (hw : leNat (slice p 0 4) ≤ 3) (henrolled : (s.owner (leNat (slice p 0 4))).enrolled = true) (hstore : s.storeOk 2 = true)
    (hother : ∃ j, j < 4 ∧ j ≠ leNat (slice p 0 4) ∧ (s.owner j).enrolled = true ∧ (s.owner j).revoked = false) :
    s.svcRevoke p = (s.ownerSet (leNat (slice p 0 4)) { s.owner (leNat (slice p 0 4)) with revoked := true }).ok := by
  rw [State.svcRevoke]
  dsimp only
  rw [if_neg (by omega), henrolled, if_neg (by decide), State.others_remain hother, if_neg Bool.false_ne_true, hstore, if_neg (by decide)]
  rfl

theorem State.mbAsks.revoke (h : s.mbAsks c host 0x3A (fun n => n == 4) revokeSigner b) (hw : leNat (slice (mbParams b) 0 4) ≤ 3)
    (henrolled : (s.owner (leNat (slice (mbParams b) 0 4))).enrolled = true) (hstore : s.storeOk 2 = true)
    (hother : ∃ j, j < 4 ∧ j ≠ leNat (slice (mbParams b) 0 4) ∧ (s.owner j).enrolled = true ∧ (s.owner j).revoked = false) :
    ∃ u, exec (.mbOwnerRevoke c host t) s = .next u ∧ (mbSigned b = true → u.mbEnded c 0 ∧
      u.secu.owners = s.secu.owners.set (leNat (slice (mbParams b) 0 4)) { s.owner (leNat (slice (mbParams b) 0 4)) with revoked := true }) := by
  obtain ⟨u, hexec, hserved⟩ := h.exec_served (t := t) (op := .mbOwnerRevoke c host t) (run := fun x _ p => x.svcRevoke p) rfl rfl
  refine ⟨u, hexec, fun hsign => ?_⟩
  rw [hserved hsign, State.svcRevoke_other (s := s.asked c t b) hw henrolled hstore hother]
  have hend := State.served_ok (s := s) (t := t) (b := b) (State.mbBusy_channel h.1) ((s.asked c t b).ownerSet (leNat (slice (mbParams b) 0 4))
    { (s.asked c t b).owner (leNat (slice (mbParams b) 0 4)) with revoked := true })
  exact ⟨hend.ended, by rw [hend.secu]; rfl⟩

/-! ### The lifecycle (R473) -/

/-- The lifecycle has moved to `n`. -/
def State.lifecycleAt (s : State) (n : Nat) : State := { s with secu := { s.secu with lifecycle := n } }

/-- A device that is RETURNED has no identity and no keys. -/
def State.returned (s : State) : State := { s.clearKeys with secu := { s.clearKeys.secu with identityOk := false, idKey := 0 } }

theorem State.returned_secu (s : State) : s.returned.secu = { s.secu with identityOk := false, idKey := 0 } :=
  congrArg (fun x : Sec => { x with identityOk := false, idKey := 0 }) s.clearKeys_secu

theorem State.returned_held (s : State) (hk : k < 64) (hi : i < 2) : s.returned.keyHeld k i = false :=
  (State.keyHeld_of_ing (by rw [State.returned]) k i).trans (s.clearKeys_held hk hi)

theorem State.svcLifecycle_on (hmax : leNat (slice p 0 4) ≤ 2) (hon : s.secu.lifecycle < leNat (slice p 0 4))
    (howner : leNat (slice p 0 4) = 1 → (s.owner 0).enrolled = true) (hstore : s.storeOk 2 = true) :
    s.svcLifecycle p = if leNat (slice p 0 4) = 2 then (s.lifecycleAt (leNat (slice p 0 4))).returned.ok else (s.lifecycleAt (leNat (slice p 0 4))).ok := by
  rw [State.svcLifecycle]
  dsimp only
  rw [if_neg (by omega), if_neg ?_, hstore, if_neg (by decide)]
  · rfl
  · rintro (h | ⟨h1, hfree⟩)
    · omega
    · rw [howner h1] at hfree
      exact absurd hfree (by decide)

theorem State.svcLifecycle_back (hmax : leNat (slice p 0 4) ≤ 2) (hback : leNat (slice p 0 4) ≤ s.secu.lifecycle) : s.svcLifecycle p = s.no 0xF := by
  rw [State.svcLifecycle]
  dsimp only
  rw [if_neg (by omega), if_pos (.inl hback)]

theorem State.mbAsks.lifecycle_on (h : s.mbAsks c host 0x3B (fun n => n == 4) ownerSigner b) (hmax : leNat (slice (mbParams b) 0 4) ≤ 2)
    (hon : s.secu.lifecycle < leNat (slice (mbParams b) 0 4)) (howner : leNat (slice (mbParams b) 0 4) = 1 → (s.owner 0).enrolled = true)
    (hstore : s.storeOk 2 = true) :
    ∃ u, exec (.mbLifecycle c host t) s = .next u ∧ (mbSigned b = true → u.mbEnded c 0 ∧ u.secu.lifecycle = leNat (slice (mbParams b) 0 4) ∧
      (leNat (slice (mbParams b) 0 4) = 2 → u.secu.identityOk = false ∧ u.secu.idKey = 0 ∧
        ∀ k i, k < 64 → i < 2 → ((u.sess k).keys.getD i KeySlot.reset).loaded = false)) := by
  obtain ⟨u, hexec, hserved⟩ := h.exec_served (t := t) (op := .mbLifecycle c host t) (run := fun x _ p => x.svcLifecycle p) rfl rfl
  refine ⟨u, hexec, fun hsign => ?_⟩
  have hc := State.mbBusy_channel h.1
  have hrun := State.svcLifecycle_on (s := s.asked c t b) hmax hon howner hstore
  rw [hserved hsign, hrun]
  by_cases h2 : leNat (slice (mbParams b) 0 4) = 2
  · rw [if_pos h2]
    have hend := State.served_ok (s := s) (t := t) (b := b) hc ((s.asked c t b).lifecycleAt (leNat (slice (mbParams b) 0 4))).returned
    have hsecu := hend.secu.trans (State.returned_secu _)
    refine ⟨hend.ended, by rw [hsecu]; rfl, fun _ => ⟨by rw [hsecu], by rw [hsecu], fun k i hk hi => ?_⟩⟩
    rw [State.sess_of_ing hend.ing]
    exact State.returned_held _ hk hi
  · rw [if_neg h2]
    have hend := State.served_ok (s := s) (t := t) (b := b) hc ((s.asked c t b).lifecycleAt (leNat (slice (mbParams b) 0 4)))
    exact ⟨hend.ended, by rw [hend.secu]; rfl, fun h => absurd h h2⟩

theorem State.mbAsks.lifecycle_back (h : s.mbAsks c host 0x3B (fun n => n == 4) ownerSigner b) (hmax : leNat (slice (mbParams b) 0 4) ≤ 2)
    (hback : leNat (slice (mbParams b) 0 4) ≤ s.secu.lifecycle) :
    ∃ u, exec (.mbLifecycle c host t) s = .next u ∧ (mbSigned b = true → u.mbEnded c 0xF ∧ u.secu.lifecycle = s.secu.lifecycle) := by
  obtain ⟨u, hexec, hserved⟩ := h.exec_served (t := t) (op := .mbLifecycle c host t) (run := fun x _ p => x.svcLifecycle p) rfl rfl
  refine ⟨u, hexec, fun hsign => ?_⟩
  have hrun := State.svcLifecycle_back (s := s.asked c t b) hmax hback
  have hend := State.served_no (s := s) (t := t) (b := b) (State.mbBusy_channel h.1) (s.asked c t b) (code := 0xF) (by decide) (by decide)
  rw [hserved hsign, hrun]
  exact ⟨hend.ended, by rw [hend.secu]; rfl⟩

/-! ### The test port (R490) -/

/-- A device that is unlocked has no keys. -/
def State.testUnlocked (s : State) : State := { s.clearKeys with secu := { s.clearKeys.secu with unlocked := true } }

theorem State.testUnlocked_secu (s : State) : s.testUnlocked.secu = { s.secu with unlocked := true } :=
  congrArg (fun x : Sec => { x with unlocked := true }) s.clearKeys_secu

theorem State.testUnlocked_held (s : State) (hk : k < 64) (hi : i < 2) : s.testUnlocked.keyHeld k i = false :=
  (State.keyHeld_of_ing (by rw [State.testUnlocked]) k i).trans (s.clearKeys_held hk hi)

theorem State.svcUnlock_made (ho : parseObj p = some o) (hlife : s.secu.lifecycle = 0) : s.svcUnlock p = s.no 0xF := by
  rw [State.svcUnlock, ho]
  exact if_pos hlife

theorem State.svcUnlock_owned (ho : parseObj p = some o) (hlife : s.secu.lifecycle = 1) :
    s.svcUnlock p = if s.certCode o 2 ≠ 0 then s.no (s.certCode o 2) else s.testUnlocked.ok := by
  have h0 : s.secu.lifecycle ≠ 0 := by rw [hlife]; decide
  have h2 : s.secu.lifecycle ≠ 2 := by rw [hlife]; decide
  rw [State.svcUnlock, ho]
  dsimp only
  rw [if_neg h2, if_neg h0]
  rfl

theorem State.certCode_lt (s : State) (o : SignedObj) (n : Nat) : s.certCode o n < 65536 := by
  unfold State.certCode
  repeat' split
  all_goals decide

theorem State.mbAsks.unlock (h : s.mbAsks c host 0x3C (fun n => n == 288) unlockSigner b) (ho : parseObj (mbParams b) = some o) :
    ∃ u, exec (.mbTestUnlock c host t) s = .next u ∧ (mbSigned b = true →
      (s.secu.lifecycle = 0 → u.mbEnded c 0xF ∧ u.secu.unlocked = s.secu.unlocked) ∧
      (s.secu.lifecycle = 1 → s.certCode o 2 = 0 → u.mbEnded c 0 ∧ u.secu.unlocked = true ∧ u.jtagAccepts .chains = true ∧
        ∀ k i, k < 64 → i < 2 → ((u.sess k).keys.getD i KeySlot.reset).loaded = false) ∧
      (s.secu.lifecycle = 1 → s.certCode o 2 ≠ 0 → u.mbEnded c (s.certCode o 2) ∧ u.secu.unlocked = s.secu.unlocked)) := by
  obtain ⟨u, hexec, hserved⟩ := h.exec_served (t := t) (op := .mbTestUnlock c host t) (run := fun x _ p => x.svcUnlock p) rfl rfl
  refine ⟨u, hexec, fun hsign => ?_⟩
  have hc := State.mbBusy_channel h.1
  have hcert : (s.asked c t b).certCode o 2 = s.certCode o 2 := rfl
  rw [hserved hsign]
  refine ⟨fun hlife => ?_, fun hlife hgood => ?_, fun hlife hbad => ?_⟩
  · rw [State.svcUnlock_made (s := s.asked c t b) ho hlife]
    have hend := State.served_no (s := s) (t := t) (b := b) hc (s.asked c t b) (code := 0xF) (by decide) (by decide)
    exact ⟨hend.ended, by rw [hend.secu]; rfl⟩
  · rw [State.svcUnlock_owned (s := s.asked c t b) ho hlife, hcert, if_neg (not_not.2 hgood)]
    have hend := State.served_ok (s := s) (t := t) (b := b) hc (s.asked c t b).testUnlocked
    have hopen : (s.served c t b (s.asked c t b).testUnlocked.ok).secu.unlocked = true := by rw [hend.secu, State.testUnlocked_secu]
    refine ⟨hend.ended, hopen, ?_, fun k i hk hi => ?_⟩
    · rw [State.jtagAccepts, hopen, Bool.or_true]
    · rw [State.sess_of_ing hend.ing]
      exact State.testUnlocked_held _ hk hi
  · rw [State.svcUnlock_owned (s := s.asked c t b) ho hlife, hcert, if_pos hbad]
    have hend := State.served_no (s := s) (t := t) (b := b) hc (s.asked c t b) hbad (s.certCode_lt o 2)
    exact ⟨hend.ended, by rw [hend.secu]; rfl⟩

end

/-- Settles O56: a request that has passed its checks is served in the state that has taken its number, and its end leaves what the service
has left. -/
theorem mailboxIdentity : Obligations.MailboxIdentity := by
  unfold Obligations.MailboxIdentity
  intro s c t host b p w
  refine ⟨fun h => ⟨h.attest, h.attest_bad⟩, fun h => h.identity, ?_, fun h => h.enrol, fun h => h.revoke, fun h hmax => ⟨h.lifecycle_on hmax, h.lifecycle_back hmax⟩,
    fun h o ho => h.unlock ho⟩
  intro k i old gen hk hi hdom
  exact ⟨fun h hzero hid hkat => h.keyLoad ⟨hk, hi, hzero, hdom, hid, hkat⟩, fun h => h.keyClear hk hi hdom⟩

end Sys2Proof.Machine

/-! SUPPORT. The boot ROM, recovery and known-answer tests, for O59 (R374, R479, R481, R490, R491). -/

namespace Sys2Proof.Machine

section
variable {s t u x y : State} {k c now code : Nat} {who : Requester} {i : SignedObj} {fb tm : Bool} {kat : List Bool} {b : List Byte}

/-! ### What an image hangs on (R479) -/

theorem State.verifyImage_congr (h : y.secu = x.secu) (k : Nat) (b : List Byte) : y.verifyImage k b = x.verifyImage k b := by
  unfold State.verifyImage State.certCode State.serialRevoked State.ownerOf State.owner
  rw [h]

theorem State.boot_congr (h : y.secu = x.secu) : y.boot = x.boot := by
  unfold State.boot State.bootStored State.bootCopy
  rw [h]

theorem State.bootImage_congr (h : y.secu = x.secu) (k : Nat) : y.bootImage k = x.bootImage k := by
  unfold State.bootImage
  simp only [State.verifyImage_congr h, State.boot_congr h, h]

/-- A start counts alike in two states that agree in what a store hangs on. -/
theorem State.bootWrite_secu_congr (h : y.secu = x.secu) (hpwr : y.pwr = x.pwr) (hstore : y.storeOk 2 = x.storeOk 2) (r : BootRec) :
    (y.bootWrite r).1.secu = (x.bootWrite r).1.secu := by
  have hput : (y.bootPut r).secu = (x.bootPut r).secu := by
    unfold State.bootPut State.bootCopy
    dsimp only
    rw [State.revertEvents_kept.secu.resolve_left (by decide), State.revertEvents_kept.secu.resolve_left (by decide), State.emit_secu, State.emit_secu, h]
  unfold State.bootWrite
  rw [hpwr, hstore]
  split
  · exact congrArg (fun z : Sec => { z with bootDue := some r }) h
  · split
    · exact hput
    · rw [State.refuseStore, State.refuseStore, State.add_secu, State.add_secu, h]

theorem State.trialStart_secu_congr (h : y.secu = x.secu) (hpwr : y.pwr = x.pwr) (hstore : y.storeOk 2 = x.storeOk 2) (k : Nat) :
    (y.trialStart k).secu = (x.trialStart k).secu := by
  unfold State.trialStart
  dsimp only
  rw [State.boot_congr h]
  split
  · exact h
  · split <;> exact State.bootWrite_secu_congr h hpwr hstore _

/-! ### The boot ROM (R479) -/

theorem State.firstGrant_holder (s : State) : s.firstGrant.fov.holder =
    if s.fov.force.getD 1 false = true ∧ s.fov.force.getD 0 false = false then 1 else s.fov.holder := by
  unfold State.firstGrant
  cases s.fov.force.getD 1 false <;> cases s.fov.force.getD 0 false <;> rfl

/-- The grant alone is another after the arbiter's first choice. -/
theorem State.firstGrant_same (s : State) : s.firstGrant = { s with fov := s.firstGrant.fov, out := s.firstGrant.out } := by
  unfold State.firstGrant
  split <;> rfl

/-- The ROM has the results of the known-answer tests, and the level of TEST_MODE. -/
def State.romStarted (s : State) (kat : List Bool) (tm : Bool) : State :=
  { s with secu := { s.secu with kat := kat, testMode := tm }, pwr := { s.pwr with step := 1 } }

/-- Marigold runs the image, and what the stop and the AON retention register have held is logged. -/
def State.booted (s : State) (i : SignedObj) (fb : Bool) : State :=
  let s := (s.runImage 0 i fb).mgStarted
  let s := (if s.log.nextSeq = 0 then s else s.logShow)
  let held := s.pwr.stopLog.toList ++ s.log.retained
  held.foldl State.stage { s with pwr := { s.pwr with step := 2, stopLog := none }, log := { s.log with retained := [] } }

/-- The ROM boots nothing in a test mode, enters recovery, or boots the image that verifies. -/
def State.romBoots (s : State) (kat : List Bool) (tm : Bool) : State :=
  if tm && s.secu.lifecycle != 0 then s
  else if !(kat.take 3).all id then s.enterRecovery
  else
    let s := s.trialStart 0
    match s.bootImage 0 with
    | (none, _) => s.enterRecovery
    | (some (i, fb), _) => s.booted i fb

/-- The ROM may start. -/
structure State.RomMay (s : State) (kat : List Bool) : Prop where
  step : s.pwr.step = 0
  running : s.mgt.running = false
  recovery : s.secu.recovery = false
  stop : s.pwr.stop = false
  shdn : s.pwr.shdn = 0
  porst : s.pwr.porst = false
  kat : kat.length = 4

theorem State.resetRelease_eq (h : s.RomMay kat) : s.resetRelease kat tm = (s.firstGrant.romStarted kat tm).romBoots kat tm := by
  obtain ⟨hstep, hrun, hrec, hstop, hshdn, hporst, hkat⟩ := h
  exact if_pos (by rw [hstep, hrun, hrec, hstop, hshdn, hporst, hkat]; decide)

theorem State.romBoots_test (h : tm = true) (hlife : s.secu.lifecycle ≠ 0) : s.romBoots kat tm = s := by
  rw [State.romBoots, h, bne_iff_ne.2 hlife]
  rfl

section
variable (h : tm = false ∨ s.secu.lifecycle = 0)
include h

theorem romMode : (tm && s.secu.lifecycle != 0) = false := by
  rcases h with h | h
  · rw [h, Bool.false_and]
  · rw [h, bne_self_eq_false, Bool.and_false]

theorem State.romBoots_bad (hkat : (kat.take 3).all id = false) : s.romBoots kat tm = s.enterRecovery := by
  rw [State.romBoots, romMode h, hkat]
  rfl

theorem State.romBoots_none (hkat : (kat.take 3).all id = true) (himg : (s.trialStart 0).bootImage 0 = (none, c)) :
    s.romBoots kat tm = (s.trialStart 0).enterRecovery := by
  rw [State.romBoots, romMode h, hkat]
  dsimp only
  rw [himg]
  rfl

theorem State.romBoots_some (hkat : (kat.take 3).all id = true) (himg : (s.trialStart 0).bootImage 0 = (some (i, fb), c)) :
    s.romBoots kat tm = (s.trialStart 0).booted i fb := by
  rw [State.romBoots, romMode h, hkat]
  dsimp only
  rw [himg]
  rfl

end

theorem State.foldl_stage_kept (l : List LogEntry) (s : State) : Kept 4 s (l.foldl State.stage s) :=
  .foldl (.refl _ s) (fun _ _ h => h.trans State.stage_kept)

theorem State.foldl_stage_below (l : List LogEntry) (s : State) : WordsKept (fun x => x < 0x1C0000) s (l.foldl State.stage s) :=
  .foldl (.refl _ s) (fun _ _ _ hr => hr.trans (State.stage_words_below _ _))

theorem State.logShow_below (s : State) : WordsKept (fun x => x < 0x1C0000) s s.logShow := by
  unfold State.logShow
  have hpos : ∀ k, ¬ Reg.svcLogPos k < 0x1C0000 := fun k => by unfold Reg.svcLogPos; omega
  exact .foldl (.wr (.wr (.wr (.wr (.refl _ s) (hpos 0)) (hpos 1)) (hpos 2)) (hpos 3)) (fun _ k _ hr => .wr hr (by unfold Reg.svcLogChain; omega))

/-- What Marigold's start from an image leaves. -/
structure State.BootedFrom (s u : State) (i : SignedObj) : Prop where
  running : u.mgt.running = true
  recovery : u.secu.recovery = s.secu.recovery
  kat : u.secu.kat = s.secu.kat
  images : u.secu.images = s.secu.images.set 0 (some { rollback := i.rollback, digest := sm3 i.body })
  step : u.pwr.step = 2
  ready : u.flag Reg.mgtMgStatus 24 = true
  fov : u.fov = s.fov

/-- A start draws a nonce, and clears the numbers of the requests (R482). -/
theorem State.mgStarted_secu (s : State) : ∃ n, s.mgStarted.secu = { s.secu with nonce := n, seqs := [0, 0] } := by
  have hsecu : s.mgStarted.secu = s.draw.2.newNonce.secu := by
    unfold State.mgStarted
    dsimp only
    rw [State.setDomStat_kept.secu.resolve_left (by decide), State.setFlag_secu, State.setFld_secu]
  exact ⟨s.draw.2.newNonce.secu.nonce, hsecu⟩

theorem State.mgStarted_running (s : State) : s.mgStarted.mgt.running = true := by
  have hmgt : s.mgStarted.mgt = { s.draw.2.newNonce.mgt with running := true, restarting := false, startedAt := s.draw.2.now } := by
    unfold State.mgStarted
    dsimp only
    exact (State.setDomStat_kept.mgt.resolve_left (by decide)).trans (by rw [State.setFlag_mgt, State.setFld_mgt])
  rw [hmgt]

/-- The rest of the start, once Marigold runs. -/
def State.bootLogged (s : State) : State :=
  let s := (if s.log.nextSeq = 0 then s else s.logShow)
  let held := s.pwr.stopLog.toList ++ s.log.retained
  held.foldl State.stage { s with pwr := { s.pwr with step := 2, stopLog := none }, log := { s.log with retained := [] } }

theorem State.bootLogged_kept (s : State) : s.bootLogged.mgt = s.mgt ∧ s.bootLogged.secu = s.secu ∧ s.bootLogged.fov = s.fov ∧ s.bootLogged.pwr.step = 2 ∧
    WordsKept (fun x => x < 0x1C0000) s s.bootLogged := by
  have hshow : Kept 0 s (if s.log.nextSeq = 0 then s else s.logShow) := .ite (.refl _ s) State.logShow_kept
  have hwords : WordsKept (fun x => x < 0x1C0000) s (if s.log.nextSeq = 0 then s else s.logShow) := .ite (.refl _ s) s.logShow_below
  unfold State.bootLogged
  extract_lets +onlyGivenNames -merge s2 held
  have h2 : Kept 0 s s2 := hshow
  have hbelow : WordsKept (fun x => x < 0x1C0000) s s2 := hwords
  clear_value s2 held
  have hlog := State.foldl_stage_kept held { s2 with pwr := { s2.pwr with step := 2, stopLog := none }, log := { s2.log with retained := [] } }
  have hstage := State.foldl_stage_below held { s2 with pwr := { s2.pwr with step := 2, stopLog := none }, log := { s2.log with retained := [] } }
  refine ⟨?_, ?_, ?_, ?_, .trans (.regs hbelow rfl) hstage⟩
  · rw [hlog.mgt.resolve_left (by decide)]
    exact h2.mgt.resolve_left (by decide)
  · rw [hlog.secu.resolve_left (by decide)]
    exact h2.secu.resolve_left (by decide)
  · rw [hlog.fov.resolve_left (by decide)]
    exact h2.fov.resolve_left (by decide)
  · rw [hlog.pwr.resolve_left (by decide)]

theorem State.booted_eq (s : State) (i : SignedObj) (fb : Bool) : s.booted i fb = (s.runImage 0 i fb).mgStarted.bootLogged := rfl

theorem State.booted_spec (s : State) (i : SignedObj) (fb : Bool) : s.BootedFrom (s.booted i fb) i := by
  obtain ⟨hmgt, hsecu, hfov, hstep, hwords⟩ := (s.runImage 0 i fb).mgStarted.bootLogged_kept
  obtain ⟨n, hstarted⟩ := (s.runImage 0 i fb).mgStarted_secu
  rw [State.booted_eq]
  refine ⟨by rw [hmgt, State.mgStarted_running], ?_, ?_, ?_, hstep, (hwords.flag (by decide) 24).trans (State.mgStarted_shown _).1,
    hfov.trans (State.mgStarted_kept.fov.resolve_left (by decide))⟩
  · rw [hsecu, hstarted]
    rfl
  · rw [hsecu, hstarted]
    rfl
  · rw [hsecu, hstarted]
    rfl

/-- What recovery shows as the ROM enters it. -/
theorem State.enterRecovery_shown (s : State) : s.enterRecovery.secu = { s.secu with recovery := true, rcv := [] } ∧ s.enterRecovery.mgt = s.mgt ∧
    s.enterRecovery.fov = s.fov ∧ s.enterRecovery.domOn 31 = true := by
  refine ⟨rfl, State.enterRecovery_kept.mgt.resolve_left (by decide), State.enterRecovery_kept.fov.resolve_left (by decide), ?_⟩
  rw [(WordsKept.regs (.refl (fun _ => True) _) s.enterRecovery_regs).domOn trivial trivial, State.domOn_setDomStat _ (by decide), if_pos rfl]

end

end Sys2Proof.Machine

/-! The first clauses of O59: the release from reset, recovery and the known-answer tests (R374, R479, R481, R490, R491). -/

namespace Sys2Proof.Machine

section
variable {s t u v : State} {c now data : Nat} {who : Requester} {i : SignedObj} {tm : Bool} {kat : List Bool}

/-! ### The release from reset (R479) -/

/-- The arbiter's first grant leaves what the ROM starts from. -/
theorem State.romStarted_same (s : State) (kat : List Bool) (tm : Bool) :
    s.firstGrant.romStarted kat tm = { s.romStarted kat tm with fov := s.firstGrant.fov, out := s.firstGrant.out } :=
  congrArg (fun z : State => z.romStarted kat tm) s.firstGrant_same

theorem State.romStarted_image (s : State) (kat : List Bool) (tm : Bool) :
    ((s.firstGrant.romStarted kat tm).trialStart 0).bootImage 0 = ((s.romStarted kat tm).trialStart 0).bootImage 0 := by
  rw [s.romStarted_same]
  refine State.bootImage_congr ?_ 0
  refine State.trialStart_secu_congr ?_ ?_ ?_ 0 <;> rfl

/-- What the ROM starts from. -/
structure State.RomFrom (s y : State) (kat : List Bool) : Prop where
  kat : y.secu.kat = kat
  recovery : y.secu.recovery = false
  images : y.secu.images = s.secu.images
  lifecycle : y.secu.lifecycle = s.secu.lifecycle
  running : y.mgt.running = false
  step : y.pwr.step = 1
  holder : y.fov.holder = if s.fov.force.getD 1 false = true ∧ s.fov.force.getD 0 false = false then 1 else s.fov.holder

theorem State.romStarted_from (h : s.RomMay kat) (tm : Bool) : s.RomFrom (s.firstGrant.romStarted kat tm) kat := by
  have hholder := s.firstGrant_holder
  rw [s.romStarted_same]
  exact ⟨rfl, h.recovery, rfl, rfl, h.running, rfl, hholder⟩

theorem State.trialStart_fov (s : State) : (s.trialStart 0).fov = s.fov := State.trialStart_kept.fov.resolve_left (by decide)

/-- The starts in recovery and with an image keep the results of the tests and the grant. -/
theorem State.romBoots_kept (s : State) (kat : List Bool) (tm : Bool) : (s.romBoots kat tm).secu.kat = s.secu.kat ∧ (s.romBoots kat tm).fov = s.fov := by
  have hrecord : (s.trialStart 0).secu.kat = s.secu.kat := by
    obtain ⟨boots, due, h⟩ := s.trialStart_secu 0
    rw [h]
  have hentered : ∀ v : State, v.enterRecovery.secu.kat = v.secu.kat ∧ v.enterRecovery.fov = v.fov := fun v => by
    obtain ⟨hsecu, -, hfov, -⟩ := v.enterRecovery_shown
    exact ⟨by rw [hsecu], hfov⟩
  unfold State.romBoots
  split
  · exact ⟨rfl, rfl⟩
  · split
    · exact hentered s
    · dsimp only
      split
      · exact ⟨(hentered _).1.trans hrecord, (hentered _).2.trans s.trialStart_fov⟩
      · next i fb x himg =>
        have hbooted := (s.trialStart 0).booted_spec i fb
        exact ⟨hbooted.kat.trans hrecord, hbooted.fov.trans s.trialStart_fov⟩

theorem Sec.RecordOnly.recovery {a b : Sec} (h : a.RecordOnly b) : b.recovery = a.recovery := by
  obtain ⟨boots, due, rfl⟩ := h
  rfl

theorem exec_resetRelease (h : s.RomMay kat) :
    ∃ u, exec (.resetRelease kat tm now) s = .next u ∧ u.secu.kat = kat ∧
      u.fov.holder = (if s.fov.force.getD 1 false = true ∧ s.fov.force.getD 0 false = false then 1 else s.fov.holder) ∧
      (tm = true → s.secu.lifecycle ≠ 0 → u.mgt.running = false ∧ u.secu.recovery = false ∧ u.pwr.step = 1) ∧
      (tm = false ∨ s.secu.lifecycle = 0 →
        ((kat.take 3).all id = false → u.secu.recovery = true ∧ u.mgt.running = false ∧ u.domOn 31 = true) ∧
        ((kat.take 3).all id = true →
          (∀ c, (((s.at now).romStarted kat tm).trialStart 0).bootImage 0 = (none, c) → u.secu.recovery = true ∧ u.mgt.running = false) ∧
          ∀ i fb c, (((s.at now).romStarted kat tm).trialStart 0).bootImage 0 = (some (i, fb), c) → u.mgt.running = true ∧ u.secu.recovery = false ∧ u.pwr.step = 2 ∧
            u.flag Reg.mgtMgStatus 24 = true ∧
            u.secu.images = s.secu.images.set 0 (some { rollback := i.rollback, digest := sm3 i.body }))) := by
  have hmay : (s.at now).RomMay kat := ⟨h.step, h.running, h.recovery, h.stop, h.shdn, h.porst, h.kat⟩
  have hfrom := State.romStarted_from hmay tm
  have himage := (s.at now).romStarted_image kat tm
  have hboots := State.resetRelease_eq (tm := tm) hmay
  have hkept := State.romBoots_kept ((s.at now).firstGrant.romStarted kat tm) kat tm
  rw [← hboots] at hkept
  have hbelow := ((s.at now).resetRelease kat tm).certCheck_below s
  refine ⟨_, rfl, ?_⟩
  rw [settle_secu, settle_fov, settle_mgt, settle_pwr, settle_domOn, settle_flag, State.certCheck_secu, State.certCheck_mgt, State.certCheck_pwr,
    State.certCheck_kept.fov.resolve_left (by decide), hbelow.domOn (by decide) (by decide), hbelow.flag (by decide)]
  refine ⟨hkept.1.trans hfrom.kat, (congrArg Fov.holder hkept.2).trans hfrom.holder, fun htm hlife => ?_, fun hmode => ?_⟩
  · rw [hboots, State.romBoots_test htm (by rw [hfrom.lifecycle]; exact hlife)]
    exact ⟨hfrom.running, hfrom.recovery, hfrom.step⟩
  · have hmode' : tm = false ∨ ((s.at now).firstGrant.romStarted kat tm).secu.lifecycle = 0 := hmode.imp id fun hlife => hfrom.lifecycle.trans hlife
    have htrial := ((s.at now).firstGrant.romStarted kat tm).trialStart_secu 0
    have hmgt : (((s.at now).firstGrant.romStarted kat tm).trialStart 0).mgt = ((s.at now).firstGrant.romStarted kat tm).mgt := State.trialStart_mgt
    rw [hboots]
    refine ⟨fun hkat => ?_, fun hkat => ⟨fun c himg => ?_, fun i fb c himg => ?_⟩⟩
    · obtain ⟨hsecu, hmgt, -, hdom⟩ := ((s.at now).firstGrant.romStarted kat tm).enterRecovery_shown
      rw [State.romBoots_bad hmode' hkat, hsecu, hmgt]
      exact ⟨rfl, hfrom.running, hdom⟩
    · obtain ⟨hsecu, hstill, -, -⟩ := (((s.at now).firstGrant.romStarted kat tm).trialStart 0).enterRecovery_shown
      rw [State.romBoots_none hmode' hkat (himage.trans himg), hsecu, hstill, hmgt]
      exact ⟨rfl, hfrom.running⟩
    · have hbooted := (((s.at now).firstGrant.romStarted kat tm).trialStart 0).booted_spec i fb
      rw [State.romBoots_some hmode' hkat (himage.trans himg)]
      exact ⟨hbooted.running, hbooted.recovery.trans (htrial.recovery.trans hfrom.recovery), hbooted.step, hbooted.ready,
        hbooted.images.trans (by rw [htrial.images, hfrom.images]; rfl)⟩

/-! ### Recovery (R481) -/

def secPage : PageDef := page 0x1C 0 4 0x7F rowsSec
def secRcvCtrlRow : RegRow := row1 "SEC_RCV_CTRL" 0x88 0 [fAny 0 0 .w1s, fAny 1 1 .w1s, fAny 31 16 .ro]
def secRcvDataRow : RegRow := row1 "SEC_RCV_DATA" 0x8C 0 [fAny 31 0 .wo]
def secKatCtrlRow : RegRow := row1 "SEC_KAT_CTRL" 0x84 0 [fAny 0 0 .w1s]

/-- The word count of recovery starts anew (R491). -/
def State.rcvCleared (s : State) (b : Bool) : State := if b then { s with secu := { s.secu with rcv := [] } } else s

theorem State.writeWord_rcvCtrl (hacc : s.accepts who Reg.secRcvCtrl data) : s.writeWord who Reg.secRcvCtrl 4 data =
    (if bitOf data 0 then ((s.rowStored Reg.secRcvCtrl secRcvCtrlRow data).rcvCleared (bitOf data 1)).recoveryGo
      else (s.rowStored Reg.secRcvCtrl secRcvCtrlRow data).rcvCleared (bitOf data 1)).certCheck s := by
  have heffect : ∀ (v : State) (old d : Nat), v.blockEffect secPage 0x88 old d = v.secEffect 0x88 d := fun _ _ _ => rfl
  refine (State.writeWord_onPage (p := secPage) (i := 0) (r := secRcvCtrlRow) rfl (by decide) (by decide) rfl (by decide) hacc).2.trans ?_
  rw [show Reg.secRcvCtrl % 0x1000 = 0x88 from rfl, heffect]
  rfl

theorem bitOf_putBits_other (w : Nat) {i j : Nat} (h : j ≠ i) (x : Nat) : bitOf (putBits w i i x) j = bitOf w j := by
  have hbits : ∀ y, bitOf y j = (bitsOf y j j == 1) := fun y => by
    unfold bitOf bitsOf
    simp
  rw [hbits, hbits, bitsOf_putBits_other _ _ _ _ _ _ (Nat.le_refl _) (Nat.le_refl _) (by omega)]

/-- Recovery is over, and start-up goes on from its second step. -/
def State.rcvOver (s : State) : State :=
  { s with secu := { s.secu with recovery := false, recovered := true }, pwr := { s.pwr with step := max 2 s.pwr.step } }

/-- What a recovery image that verifies starts. -/
def State.recovered (s : State) (i : SignedObj) : State :=
  (((s.setFlag Reg.secRcvCtrl 0 false).setFld Reg.secRcvCtrl 31 16 0).rcvOver.runImage 0 i false).mgStarted

theorem State.recoveryGo_some (h : s.verifyImage 0 (wordBytes s.secu.rcv.reverse) = (c, some i)) : s.recoveryGo = s.recovered i := by
  have hcheck : (s.setFlag Reg.secRcvCtrl 0 false).verifyImage 0 (wordBytes s.secu.rcv.reverse) = (c, some i) :=
    (State.verifyImage_congr (State.setFlag_secu _ _ _ _) _ _).trans h
  rw [State.recoveryGo]
  dsimp only
  rw [hcheck]
  rfl

theorem State.recoveryGo_none (h : s.verifyImage 0 (wordBytes s.secu.rcv.reverse) = (c, none)) :
    s.recoveryGo = (s.setFlag Reg.secRcvCtrl 0 false).setFld Reg.secRcvCtrl 31 16 c := by
  have hcheck : (s.setFlag Reg.secRcvCtrl 0 false).verifyImage 0 (wordBytes s.secu.rcv.reverse) = (c, none) :=
    (State.verifyImage_congr (State.setFlag_secu _ _ _ _) _ _).trans h
  rw [State.recoveryGo]
  dsimp only
  rw [hcheck]

/-- The result of a recovery image in its word. -/
theorem State.rcvCtrl_result (s : State) (c : Nat) :
    ((s.setFlag Reg.secRcvCtrl 0 false).setFld Reg.secRcvCtrl 31 16 c).flag Reg.secRcvCtrl 0 = false ∧
      ((s.setFlag Reg.secRcvCtrl 0 false).setFld Reg.secRcvCtrl 31 16 c).fld Reg.secRcvCtrl 31 16 = c % 65536 :=
  ⟨(State.flag_setFld_other _ _ _ _ _ _ (by decide) (by decide) (by decide)).trans (State.flag_setFlag_same _ _ _ _ (by decide)),
    State.fld_setFld_same _ _ _ _ _ (by decide) (by decide)⟩

theorem State.mgStarted_words (s : State) : WordsKept (fun x => x ≠ Reg.mgtMgStatus ∧ x ≠ Reg.pwrDomStat0 ∧ x ≠ Reg.pwrDomStat1) s s.mgStarted := by
  unfold State.mgStarted
  dsimp only
  exact (State.setDomStat_words _ _ _).step (fun _ hx => hx.2) (.setFlag (.setFld (.regs (.refl _ s) rfl) (by simp)) (by simp))

/-- What a recovery image that verifies leaves. -/
structure State.RecoveredBy (u : State) : Prop where
  recovery : u.secu.recovery = false
  recovered : u.secu.recovered = true
  running : u.mgt.running = true
  step : 2 ≤ u.pwr.step
  result : u.fld Reg.secRcvCtrl 31 16 = 0
  go : u.flag Reg.secRcvCtrl 0 = false

theorem State.recovered_spec (s : State) (i : SignedObj) : (s.recovered i).RecoveredBy := by
  obtain ⟨hgo, hresult⟩ := s.rcvCtrl_result 0
  unfold State.recovered
  generalize (s.setFlag Reg.secRcvCtrl 0 false).setFld Reg.secRcvCtrl 31 16 0 = v at hgo hresult
  obtain ⟨n, hsecu⟩ := (v.rcvOver.runImage 0 i false).mgStarted_secu
  have hword : (v.rcvOver.runImage 0 i false).mgStarted.rd Reg.secRcvCtrl = v.rd Reg.secRcvCtrl := (v.rcvOver.runImage 0 i false).mgStarted_words _ (by decide)
  have hpwr : (v.rcvOver.runImage 0 i false).mgStarted.pwr = v.rcvOver.pwr := State.mgStarted_kept.pwr.resolve_left (by decide)
  refine ⟨?_, ?_, State.mgStarted_running _, ?_, ?_, ?_⟩
  · rw [hsecu]
    rfl
  · rw [hsecu]
    rfl
  · rw [hpwr]
    exact Nat.le_max_left _ _
  · rw [State.fld, hword]
    exact hresult
  · rw [State.flag, hword]
    exact hgo

theorem State.certCheck_rcvCtrl (s old : State) : (s.certCheck old).rd Reg.secRcvCtrl = s.rd Reg.secRcvCtrl := s.certCheck_wordsBut old _ (by decide)

theorem exec_recoveryGo {d : Word} (hacc : s.accepts who Reg.secRcvCtrl (putBits d.toNat 0 0 1)) :
    let rcv := if bitOf d.toNat 1 then [] else s.secu.rcv
    ∃ u, exec (.recoveryGo who d) s = .next u ∧ u.flag Reg.secRcvCtrl 0 = false ∧
      (∀ c i, s.verifyImage 0 (wordBytes rcv.reverse) = (c, some i) → u.secu.recovery = false ∧ u.secu.recovered = true ∧
        u.mgt.running = true ∧ 2 ≤ u.pwr.step ∧ u.fld Reg.secRcvCtrl 31 16 = 0) ∧
      (∀ c, s.verifyImage 0 (wordBytes rcv.reverse) = (c, none) → u.secu = { s.secu with rcv := rcv } ∧ u.mgt = s.mgt ∧
        u.fld Reg.secRcvCtrl 31 16 = c % 65536) := by
  intro rcv
  have hwrite := State.writeWord_rcvCtrl hacc
  rw [if_pos (bitOf_putBits_one _ _), bitOf_putBits_other _ (by decide)] at hwrite
  have hstored : (s.rowStored Reg.secRcvCtrl secRcvCtrlRow (putBits d.toNat 0 0 1)).secu = s.secu := State.rowStored_secu
  have hstoredMgt : (s.rowStored Reg.secRcvCtrl secRcvCtrlRow (putBits d.toNat 0 0 1)).mgt = s.mgt := State.wr_mgt _ _ _
  generalize s.rowStored Reg.secRcvCtrl secRcvCtrlRow (putBits d.toNat 0 0 1) = v at hwrite hstored hstoredMgt
  have hsecu : (v.rcvCleared (bitOf d.toNat 1)).secu = { s.secu with rcv := rcv } := by
    rw [← hstored]
    unfold State.rcvCleared rcv
    split <;> simp_all
  have hmgt : (v.rcvCleared (bitOf d.toNat 1)).mgt = s.mgt := by
    rw [← hstoredMgt]
    unfold State.rcvCleared
    split <;> rfl
  generalize v.rcvCleared (bitOf d.toNat 1) = w at hwrite hsecu hmgt
  have hverify : ∀ x, w.verifyImage 0 x = s.verifyImage 0 x := fun x => by
    unfold State.verifyImage State.certCode State.serialRevoked State.ownerOf State.owner
    rw [hsecu]
  have hrcv : w.secu.rcv = rcv := congrArg Sec.rcv hsecu
  refine ⟨_, congrArg finish hwrite, ?_⟩
  rw [settle_flag, settle_secu, settle_mgt, settle_pwr, settle_fld, State.flag, State.fld, State.certCheck_rcvCtrl, State.certCheck_secu, State.certCheck_mgt,
    State.certCheck_pwr, ← State.flag, ← State.fld]
  rcases himg : s.verifyImage 0 (wordBytes rcv.reverse) with ⟨c, _ | i⟩
  · obtain ⟨hgo, hresult⟩ := w.rcvCtrl_result c
    rw [State.recoveryGo_none (by rw [hrcv, hverify]; exact himg)]
    refine ⟨hgo, fun c i h => (by simp at h), fun e h => ?_⟩
    obtain rfl : c = e := congrArg Prod.fst h
    rw [State.setFld_secu, State.setFlag_secu, State.setFld_mgt, State.setFlag_mgt]
    exact ⟨hsecu, hmgt, hresult⟩
  · rw [State.recoveryGo_some (by rw [hrcv, hverify]; exact himg)]
    obtain ⟨hrec, hdone, hrun, hstep, hresult, hgo⟩ := w.recovered_spec i
    exact ⟨hgo, fun _ _ _ => ⟨hrec, hdone, hrun, hstep, hresult⟩, fun e h => (by simp at h)⟩

theorem exec_rcvResetPtr {d : Word} (hacc : s.accepts who Reg.secRcvCtrl (putBits d.toNat 1 1 1)) (hgo : bitOf d.toNat 0 = false) :
    ∃ u, exec (.rcvResetPtr who d) s = .next u ∧ u.secu = { s.secu with rcv := [] } := by
  have hwrite := State.writeWord_rcvCtrl hacc
  rw [bitOf_putBits_one, bitOf_putBits_other _ (by decide), hgo, if_neg Bool.false_ne_true] at hwrite
  refine ⟨_, congrArg finish hwrite, ?_⟩
  rw [settle_secu, State.certCheck_secu, State.rcvCleared, if_pos rfl]
  exact congrArg (fun z : Sec => { z with rcv := [] }) State.rowStored_secu

/-- A word of a recovery image is taken while the device recovers. -/
def State.rcvTaken (s : State) (data : Nat) : State := if s.secu.recovery then { s with secu := { s.secu with rcv := data :: s.secu.rcv } } else s

theorem exec_secRcvData {d : Word} (hacc : s.accepts who Reg.secRcvData d.toNat) :
    ∃ u, exec (.secRcvData who d) s = .next u ∧ u.mgt = s.mgt ∧
      u.secu = if s.secu.recovery = true then { s.secu with rcv := d.toNat :: s.secu.rcv } else s.secu := by
  have heffect : ∀ (v : State) (old d : Nat), v.blockEffect secPage 0x8C old d = v.rcvTaken d := fun _ _ _ => rfl
  have hwrite := (State.writeWord_onPage (p := secPage) (i := 0) (r := secRcvDataRow) rfl (by decide) (by decide) rfl (by decide) hacc).2
  rw [show Reg.secRcvData % 0x1000 = 0x8C from rfl, heffect] at hwrite
  have hstored : (s.rowStored Reg.secRcvData secRcvDataRow d.toNat).secu = s.secu := State.rowStored_secu
  have hstoredMgt : (s.rowStored Reg.secRcvData secRcvDataRow d.toNat).mgt = s.mgt := State.wr_mgt _ _ _
  generalize s.rowStored Reg.secRcvData secRcvDataRow d.toNat = v at hwrite hstored hstoredMgt
  refine ⟨_, congrArg finish hwrite, ?_⟩
  rw [settle_mgt, settle_secu, State.certCheck_mgt, State.certCheck_secu, ← hstored, ← hstoredMgt]
  unfold State.rcvTaken
  split <;> exact ⟨rfl, rfl⟩

/-! ### Known-answer tests (R491) -/

theorem exec_secKatGo {d : Word} (hacc : s.accepts who Reg.secKatCtrl (putBits d.toNat 0 0 1)) :
    ∃ u, exec (.secKatGo who d) s = .next u ∧ u.flag Reg.secKatCtrl 0 = true ∧ u.secu = s.secu ∧ s.wordsBut u [Reg.secKatCtrl] := by
  obtain ⟨hlaid, hwrite⟩ := State.writeWord_starts (p := secPage) (i := 0) (r := secKatCtrlRow) (u := s.rowStored Reg.secKatCtrl secKatCtrlRow (putBits d.toNat 0 0 1))
    rfl (by decide) (by decide) rfl (by decide) hacc rfl State.rowStored_secu
  refine ⟨_, congrArg finish hwrite, ?_, (settle_secu _).trans State.rowStored_secu, State.wordsBut_settle (State.rowStored_words _ _ _ _)⟩
  have hsticky : (stickyMask Reg.secKatCtrl).testBit 0 = true := by decide
  have hset : (putBits d.toNat 0 0 1).testBit 0 = true := by rw [← bitOf_testBit, bitOf_putBits_one]
  rw [settle_flag, State.flag, bitOf_testBit, State.rowStored, State.rd_wr_stored_testBit (f := fAny 0 0 .w1s) hlaid (by decide) (by decide) (by decide), hsticky, hset]
  exact storedBit_sticky _

/-- The results of the known-answer tests stand. -/
def State.katShown (s : State) (kat : List Bool) : State := { s.setFlag Reg.secKatCtrl 0 false with secu := { s.secu with kat := kat } }

theorem State.katDone_eq (hgo : s.flag Reg.secKatCtrl 0 = true) (hkat : kat.length = 4) :
    s.katDone kat = if kat.all id then s.katShown kat else (s.katShown kat).raise 0x1C0000 6 := if_pos ⟨hgo, hkat⟩

theorem exec_secKatDone (hgo : s.flag Reg.secKatCtrl 0 = true) (hkat : kat.length = 4) :
    ∃ u, exec (.secKatDone kat now) s = .next u ∧ u.flag Reg.secKatCtrl 0 = false ∧ u.secu = { s.secu with kat := kat } ∧
      (kat.all id = false → u.flag 0x1C0010 6 = true) := by
  have hshown : ((s.at now).katShown kat).flag Reg.secKatCtrl 0 = false := State.flag_setFlag_same _ _ _ _ (by decide)
  have hsecu : ((s.at now).katShown kat).secu = { s.secu with kat := kat } := rfl
  refine ⟨_, congrArg (fun v : State => finish (v.certCheck s)) (State.katDone_eq (s := s.at now) hgo hkat), ?_⟩
  rw [settle_flag, settle_secu, settle_flag, State.flag, State.certCheck_wordsBut _ _ _ (by decide), ← State.flag, State.certCheck_secu, State.certCheck_event _ _ (by decide)]
  cases hall : kat.all id with
  | true => exact ⟨hshown, hsecu, fun h => absurd h (by decide)⟩
  | false =>
    rw [if_neg Bool.false_ne_true, State.raise_secu, State.flag, State.rd_raise_ne _ _ (by decide), ← State.flag]
    exact ⟨hshown, hsecu, fun _ => State.flag_raise_same _ 0x1C0000 6 (by decide)⟩

end

end Sys2Proof.Machine

/-! The next clauses of O59: start-up and shut-down (R498, R501, R519, R520). -/

namespace Sys2Proof.Machine

section
variable {s t u v : State} {d i k now : Nat} {l : List Nat}

/-! ### The steps of start-up (R519) -/

/-- Start-up goes on: Marigold runs, and no stop or shut-down does. -/
structure State.GoesOn (s : State) : Prop where
  running : s.mgt.running = true
  steady : s.mgt.restarting = false
  stop : s.pwr.stop = false
  shdn : s.pwr.shdn = 0

/-- What START_UP does in a step. -/
def State.stepOn (s : State) : State :=
  if s.pwr.low then s.shdnBegin
  else if s.pwr.step = 2 then (((s.trialStart 2).calLoad).setStep 4).regStart 0
  else if s.pwr.step = 4 then
    if s.pwr.regNext.isNone ∧ s.pwr.measured then
      (([3] ++ startOrder).filter (fun d => !s.pwr.dead.contains d)).foldl State.domainOn (s.setStep 5)
    else s
  else if s.pwr.step = 5 then (if s.pwr.ups = [] then (s.setStep 6).startTests else s)
  else if s.pwr.step = 6 then (if s.svc.tests.all (fun t => t.2 != 2 && t.2 != 3) then (s.setStep 7).startTraining else s)
  else if s.pwr.step = 7 then (if s.svc.tests.all (fun t => t.2 != 5) then s.setStep 8 else s)
  else s

theorem State.startUp_eq (h : s.GoesOn) : s.startUp = s.stepOn := by
  obtain ⟨hrun, hsteady, hstop, hshdn⟩ := h
  exact if_neg (by rw [hrun, hsteady, hstop, hshdn]; decide)

theorem State.regStart_step (s : State) (k : Nat) : (s.regStart k).pwr.step = s.pwr.step := by
  unfold State.regStart
  split <;> rfl

theorem State.stepOn_low (hlow : s.pwr.low = true) : s.stepOn.pwr = { s.pwr with shdn := 1, shdnAt := s.now } := by
  rw [State.stepOn, if_pos hlow, State.shdnBegin]

section
variable (hlow : s.pwr.low = false)
include hlow

theorem State.stepOn_two (hstep : s.pwr.step = 2) : s.stepOn.pwr.step = 4 := by
  rw [State.stepOn, hlow, if_neg Bool.false_ne_true, if_pos hstep, State.regStart_step, State.setStep]

theorem State.stepOn_five (hstep : s.pwr.step = 5) (hups : s.pwr.ups = []) : s.stepOn.pwr.step = 6 := by
  rw [State.stepOn, hlow, if_neg Bool.false_ne_true, hstep, if_neg (by decide), if_neg (by decide), if_pos rfl, if_pos hups,
    State.startTests_kept.pwr.resolve_left (by decide), State.setStep]

theorem State.stepOn_six (hstep : s.pwr.step = 6) (htests : ∀ x ∈ s.svc.tests, x.2 ≠ 2 ∧ x.2 ≠ 3) : s.stepOn.pwr.step = 7 := by
  have hall : s.svc.tests.all (fun t => t.2 != 2 && t.2 != 3) = true := List.all_eq_true.2 fun x hx => by
    rw [bne_iff_ne.2 (htests x hx).1, bne_iff_ne.2 (htests x hx).2]
    rfl
  rw [State.stepOn, hlow, if_neg Bool.false_ne_true, hstep, if_neg (by decide), if_neg (by decide), if_neg (by decide), if_pos rfl, if_pos hall,
    State.startTraining_kept.pwr.resolve_left (by decide), State.setStep]

theorem State.stepOn_seven (hstep : s.pwr.step = 7) (htests : ∀ x ∈ s.svc.tests, x.2 ≠ 5) : s.stepOn.pwr.step = 8 := by
  have hall : s.svc.tests.all (fun t => t.2 != 5) = true := List.all_eq_true.2 fun x hx => bne_iff_ne.2 (htests x hx)
  rw [State.stepOn, hlow, if_neg Bool.false_ne_true, hstep, if_neg (by decide), if_neg (by decide), if_neg (by decide), if_neg (by decide), if_pos rfl, if_pos hall,
    State.setStep]

end

/-- Domains asked for one after another stay asked for. -/
structure State.Asked (s t : State) : Prop where
  step : t.pwr.step = s.pwr.step
  on : ∀ d, t.domOn d = s.domOn d
  ups : ∀ d ∈ s.pwr.ups, d ∈ t.pwr.ups

theorem State.Asked.trans (h : s.Asked t) (g : t.Asked u) : s.Asked u :=
  ⟨g.step.trans h.step, fun d => (g.on d).trans (h.on d), fun d hd => g.ups d (h.ups d hd)⟩

theorem State.domainOn_asked (s : State) (d : Nat) : s.Asked (s.domainOn d) := by
  unfold State.domainOn
  split
  · exact ⟨rfl, fun _ => rfl, fun _ h => h⟩
  · exact ⟨rfl, fun e => (WordsKept.regs (.refl (fun _ => True) _) rfl).domOn trivial trivial e |>.trans (State.domOn_setDomReq s d e true),
      fun _ h => List.mem_append_left _ h⟩

theorem State.domainOn_ups (hoff : s.domOn d = false) : d ∈ (s.domainOn d).pwr.ups := by
  unfold State.domainOn
  split
  · next h =>
    rcases h with h | h
    · rw [hoff] at h
      exact absurd h Bool.false_ne_true
    · exact List.contains_iff_mem.1 h
  · exact List.mem_append_right _ (List.mem_singleton_self d)

theorem State.foldl_domainOn_asked (l : List Nat) (s : State) : s.Asked (l.foldl State.domainOn s) := by
  induction l generalizing s with
  | nil => exact ⟨rfl, fun _ => rfl, fun _ h => h⟩
  | cons d l ih => exact (s.domainOn_asked d).trans (ih _)

theorem State.foldl_domainOn_ups (hd : d ∈ l) (hoff : s.domOn d = false) : d ∈ (l.foldl State.domainOn s).pwr.ups := by
  induction l generalizing s with
  | nil => exact absurd hd List.not_mem_nil
  | cons e l ih =>
    rcases List.mem_cons.1 hd with rfl | hd
    · exact (State.foldl_domainOn_asked l _).ups d (State.domainOn_ups hoff)
    · exact ih hd (((s.domainOn_asked e).on d).trans hoff)

theorem State.stepOn_four (hlow : s.pwr.low = false) (hstep : s.pwr.step = 4) (hregs : s.pwr.regNext = none) (hmeasured : s.pwr.measured = true) :
    s.stepOn.pwr.step = 5 ∧ ∀ d ∈ 3 :: startOrder, d ∉ s.pwr.dead → s.domOn d = false → d ∈ s.stepOn.pwr.ups := by
  have hon : s.stepOn = (([3] ++ startOrder).filter (fun d => !s.pwr.dead.contains d)).foldl State.domainOn (s.setStep 5) := by
    rw [State.stepOn, hlow, if_neg Bool.false_ne_true, hstep, if_neg (by decide), if_pos rfl, hregs, hmeasured, if_pos ⟨rfl, rfl⟩]
  rw [hon]
  refine ⟨(State.foldl_domainOn_asked _ _).step, fun d hd hdead hoff => State.foldl_domainOn_ups ?_ hoff⟩
  refine List.mem_filter.2 ⟨hd, ?_⟩
  rw [eq_false_of_ne_true fun h => hdead (List.contains_iff_mem.1 h)]
  rfl

theorem exec_startUp_low (h : s.GoesOn) (hlow : s.pwr.low = true) :
    ∃ u, exec (.startUp now) s = .next u ∧ u.pwr = { s.pwr with shdn := 1, shdnAt := max s.now now } :=
  ⟨_, congrArg finish (State.startUp_eq (s := s.at now) ⟨h.running, h.steady, h.stop, h.shdn⟩), (settle_pwr _).trans (State.stepOn_low (s := s.at now) hlow)⟩

theorem exec_startUp (h : s.GoesOn) (hlow : s.pwr.low = false) :
    ∃ u, exec (.startUp now) s = .next u ∧
      (s.pwr.step = 2 → u.pwr.step = 4) ∧
      (s.pwr.step = 4 → s.pwr.regNext = none → s.pwr.measured = true → u.pwr.step = 5 ∧
        ∀ d ∈ 3 :: startOrder, d ∉ s.pwr.dead → s.domOn d = false → d ∈ u.pwr.ups) ∧
      (s.pwr.step = 5 → s.pwr.ups = [] → u.pwr.step = 6) ∧
      (s.pwr.step = 6 → (∀ x ∈ s.svc.tests, x.2 ≠ 2 ∧ x.2 ≠ 3) → u.pwr.step = 7) ∧
      (s.pwr.step = 7 → (∀ x ∈ s.svc.tests, x.2 ≠ 5) → u.pwr.step = 8) := by
  refine ⟨_, congrArg finish (State.startUp_eq (s := s.at now) ⟨h.running, h.steady, h.stop, h.shdn⟩), ?_⟩
  rw [settle_pwr]
  exact ⟨State.stepOn_two (s := s.at now) hlow, State.stepOn_four (s := s.at now) hlow, State.stepOn_five (s := s.at now) hlow,
    State.stepOn_six (s := s.at now) hlow, State.stepOn_seven (s := s.at now) hlow⟩

/-! ### A shut-down begins (R520) -/

theorem exec_shdnReq (hstep : 2 ≤ s.pwr.step) (hshdn : s.pwr.shdn = 0) (hstop : s.pwr.stop = false) (hrun : s.mgt.running = true) :
    ∃ u, exec (.shdnReq now) s = .next u ∧ u.pwr = { s.pwr with shdn := 1, shdnAt := max s.now now, low := true } :=
  ⟨_, congrArg finish (if_pos ⟨hstep, hshdn, by rw [show (s.at now).pwr.stop = false from hstop]; rfl, hrun⟩), settle_pwr _⟩

theorem exec_shdnReq_early (hstep : s.pwr.step < 2) : ∃ u, exec (.shdnReq now) s = .next u ∧ u.pwr = { s.pwr with low := true } ∧ u.bkl = s.bkl :=
  ⟨_, congrArg finish (if_neg fun h => absurd h.1 (Nat.not_le.2 hstep)), settle_pwr _, settle_bkl _⟩

end

end Sys2Proof.Machine

/-! The next clauses of O59: the tests of a shut-down and its end (R449, R498, R500, R520). -/

namespace Sys2Proof.Machine

section
variable {s t u v : State} {d i k p now : Nat} {l : List Nat}

/-! ### The panel goes down, and the tests begin (R498, R520) -/

theorem exec_shutdownBist_panel (hstop : s.pwr.stop = false) (hsteady : s.mgt.restarting = false) (hshdn : s.pwr.shdn = 1) (hpanel : s.panel = 3)
    (hfade : ∀ f, s.bkl.fade = some f → f.stop ≤ max s.now now) :
    ∃ u, exec (.shutdownBist now) s = .next u ∧ u.pwr = { s.pwr with shdn := 2 } ∧ u.panel = 4 := by
  have hbist : (s.at now).shutdownBist = { (s.at now).panelDown with pwr := { s.pwr with shdn := 2 } } := by
    have hstop' : (s.at now).pwr.stop = false := hstop
    have hsteady' : (s.at now).mgt.restarting = false := hsteady
    have hshdn' : (s.at now).pwr.shdn = 1 := hshdn
    have hpanel' : (s.at now).panel = 3 := hpanel
    rw [State.shutdownBist, hstop', hsteady', if_neg (by decide), if_pos hshdn']
    cases hfading : (s.at now).bkl.fade with
    | none => exact (if_pos rfl).trans (if_pos hpanel')
    | some f => exact (if_pos (decide_eq_true (hfade f hfading))).trans (if_pos hpanel')
  refine ⟨_, congrArg finish hbist, settle_pwr _, ?_⟩
  rw [State.panel, settle_fld]
  exact (s.at now).panelDown_spec.1

theorem State.laneSweep_nvs (s : State) : s.laneSweep.nvs = s.nvs := State.laneSweep_kept.nvs.resolve_left (by decide)

/-- Taking a drive out leaves what is played alone. -/
theorem State.driveRemove_plays (s : State) (d : Nat) : (s.driveRemove d).nvs.plays = s.nvs.plays := by
  have hmeta : ∀ (v : State) (nums : List Nat), (v.metaWrite d nums).nvs.plays = v.nvs.plays := fun v nums => by
    obtain ⟨c, hc⟩ := v.metaWrite_spec d nums
    rw [hc]
  have hqueues : ∀ (l : List Nat) (v : State), (l.foldl (fun s q => (s.nvme d 0 (.deleteSq q)).nvme d 0 (.deleteCq q)) v).nvs = v.nvs := fun l v => by
    induction l generalizing v with
    | nil => rfl
    | cons q l ih => exact ih _
  have hcut : ∀ v : State, (v.driveCut d).nvs.plays = v.nvs.plays := fun v => by
    rw [State.driveCut, State.setFlag_nvs, State.setFlag_nvs]
    rfl
  unfold State.driveRemove State.driveOff
  extract_lets +onlyGivenNames -merge s1 s2
  have h1 : s1.nvs.plays = s.nvs.plays := by
    unfold s1
    split
    · split
      · exact hmeta _ _
      · rw [State.refuseStore, State.add_nvs]
    · rfl
  have h2 : s2.nvs = s1.nvs := hqueues _ _
  clear_value s1 s2
  rw [State.laneSweep_nvs]
  show ((s2.nvme d 0 .shutdown).driveCut d).nvs.plays = _
  rw [hcut, ← h1, ← h2]
  rfl

/-- The playback engines have stopped. -/
def State.playsStopped (s : State) : State := (List.range 4).foldl State.playStop s

/-- The drives fitted have been taken out. -/
def State.drivesOut (s : State) : State := (List.range 2).foldl (fun (s : State) d => if (s.drive d).present then s.driveRemove d else s) s

theorem State.playStop_plays (s : State) (p : Nat) : (s.playStop p).nvs.plays = s.nvs.plays.set p none := by
  rw [State.playStop, State.setFld_nvs]
  rfl

theorem getD_set_none {α : Type} (l : List (Option α)) (p q : Nat) : (l.set q none).getD p none = if q = p then none else l.getD p none := by
  rw [List.getD_eq_getElem?_getD, List.getD_eq_getElem?_getD, List.getElem?_set]
  split
  · split <;> rfl
  · rfl

theorem State.foldl_playStop_none (l : List Nat) (s : State) (h : p ∈ l ∨ s.nvs.plays.getD p none = none) : (l.foldl State.playStop s).nvs.plays.getD p none = none := by
  induction l generalizing s with
  | nil => exact h.resolve_left List.not_mem_nil
  | cons q l ih =>
    refine ih _ ?_
    rw [State.playStop_plays, getD_set_none]
    rcases h with h | h
    · rcases List.mem_cons.1 h with rfl | h
      · exact .inr (if_pos rfl)
      · exact .inl h
    · rw [h, ite_self]
      exact .inr rfl

theorem State.drivesOut_plays (s : State) : s.drivesOut.nvs.plays = s.nvs.plays := by
  unfold State.drivesOut
  generalize List.range 2 = l
  induction l generalizing s with
  | nil => rfl
  | cons d l ih =>
    rw [List.foldl_cons, ih]
    split
    · exact s.driveRemove_plays d
    · rfl

theorem State.drivesOut_kept (s : State) : Kept 43050336256 s s.drivesOut :=
  .foldl (.refl _ s) (fun _ _ h => .ite (h.trans State.driveRemove_kept) h)

theorem State.playsStopped_kept (s : State) : Kept 33554432 s s.playsStopped :=
  .foldl (.refl _ s) (fun _ _ h => h.trans State.playStop_kept)

/-- The tests of a shut-down are at hand, and the control complex is held in reset. -/
def State.testsBegun (s : State) : State := { s with pwr := { s.pwr with shdn := 3 }, mgt := { s.mgt with cpxRun := false, cpxRestart := none } }

/-- No unit has been tested yet. -/
def State.testsDue (s : State) : State := (List.range 173).foldl (fun (s : State) u => s.setFld (Reg.svcUnit u) 15 8 4) s.testsBegun

/-- The tests of a shut-down run where they are enabled (R498). -/
def State.bistRun (s : State) : State :=
  if s.flag Reg.svcCtrl 0 then
    let run := s.svc.tests.filter (fun t => s.unitState t.1 == 3)
    { s with svc := { s.svc with tests := run, bist := (List.range 171).filter (fun u => s.unitState u != 5 && !s.fused u && run.all (fun t => t.1 != u)) } }.bistFill
  else s

theorem State.shdnTests_eq (s : State) : s.shdnTests = s.playsStopped.drivesOut.testsDue.bistRun := rfl

theorem State.bistRun_kept (s : State) : s.bistRun.pwr = s.pwr ∧ s.bistRun.mgt = s.mgt ∧ s.bistRun.nvs = s.nvs := by
  unfold State.bistRun
  split
  · exact ⟨State.bistFill_kept.pwr.resolve_left (by decide), State.bistFill_kept.mgt.resolve_left (by decide), State.bistFill_kept.nvs.resolve_left (by decide)⟩
  · exact ⟨rfl, rfl, rfl⟩

theorem State.testsDue_kept (s : State) : s.testsDue.pwr = { s.pwr with shdn := 3 } ∧ s.testsDue.mgt = { s.mgt with cpxRun := false, cpxRestart := none } ∧
    s.testsDue.nvs = s.nvs := by
  have hshown : Kept 0 s.testsBegun s.testsDue := .foldl (.refl _ s.testsBegun) (fun _ _ h => h.trans State.setFld_kept)
  exact ⟨hshown.pwr.resolve_left (by decide), hshown.mgt.resolve_left (by decide), hshown.nvs.resolve_left (by decide)⟩

theorem State.shdnTests_spec (s : State) : s.shdnTests.pwr.shdn = 3 ∧ s.shdnTests.mgt = { s.mgt with cpxRun := false, cpxRestart := none } ∧
    ∀ p, p < 4 → s.shdnTests.nvs.plays.getD p none = none := by
  obtain ⟨hpwr, hmgt, hnvs⟩ := s.playsStopped.drivesOut.testsDue.bistRun_kept
  obtain ⟨hpwr2, hmgt2, hnvs2⟩ := s.playsStopped.drivesOut.testsDue_kept
  have hmgt3 : s.playsStopped.drivesOut.mgt = s.mgt :=
    (State.drivesOut_kept _).mgt.resolve_left (by decide) |>.trans (s.playsStopped_kept.mgt.resolve_left (by decide))
  rw [State.shdnTests_eq, hpwr, hpwr2, hmgt, hmgt2, hnvs, hnvs2, hmgt3, State.drivesOut_plays]
  exact ⟨rfl, rfl, fun p hp => State.foldl_playStop_none _ _ (.inl (List.mem_range.2 hp))⟩

theorem exec_shutdownBist_tests (hstop : s.pwr.stop = false) (hsteady : s.mgt.restarting = false) (hshdn : s.pwr.shdn = 2) (hpanel : s.panel = 0) :
    ∃ u, exec (.shutdownBist now) s = .next u ∧ u.pwr.shdn = 3 ∧ u.mgt = { s.mgt with cpxRun := false, cpxRestart := none } ∧
      ∀ p, p < 4 → u.nvs.plays.getD p none = none := by
  have hbist : (s.at now).shutdownBist = (s.at now).shdnTests := by
    have hstop' : (s.at now).pwr.stop = false := hstop
    have hsteady' : (s.at now).mgt.restarting = false := hsteady
    have hshdn' : (s.at now).pwr.shdn = 2 := hshdn
    rw [State.shutdownBist, hstop', hsteady', if_neg (by decide), hshdn', if_neg (by decide), if_pos ⟨rfl, hpanel⟩]
  refine ⟨_, congrArg finish hbist, ?_⟩
  rw [settle_pwr, settle_mgt, settle_nvs]
  exact (s.at now).shdnTests_spec

/-! ### The board regulators go off (R449, R520) -/

theorem State.regSwitch_now (s : State) (i : Nat) (b : Bool) : (s.regSwitch i b).now = s.now := by
  unfold State.regSwitch
  split <;> rfl

/-- Regulators that go off change no word. -/
theorem State.regsOff_regs (l : List Nat) (s : State) : (State.regsOff l s).regs = s.regs := by
  induction l generalizing s with
  | nil => rfl
  | cons i l ih =>
    rw [State.regsOff]
    dsimp only
    split
    · rw [ih]
      exact s.regSwitch_regs i false
    · rfl

/-- Regulators without an OFF_DELAY go off at once. -/
theorem State.regsOff_at_once (l : List Nat) (s : State) (hdelay : ∀ i ∈ l, s.fld (Reg.pwrReg i) 31 24 = 0) (hat : s.pwr.regAt ≤ s.now) :
    (State.regsOff l s).pwr.offs = [] := by
  induction l generalizing s with
  | nil => rfl
  | cons i l ih =>
    have hword : ∀ a, (s.regSwitch i false).rd a = s.rd a := fun a => congrArg (fun m => (Sparse.get resetWord m a).toNat) (s.regSwitch_regs i false)
    have hdue : s.pwr.regAt + s.fld (Reg.pwrReg i) 31 24 * ms ≤ s.now := by
      rw [hdelay i (List.mem_cons_self ..), Nat.zero_mul, Nat.add_zero]
      exact hat
    rw [State.regsOff]
    dsimp only
    rw [if_pos hdue]
    refine ih _ (fun j hj => ?_) ?_
    · rw [State.fld]
      exact (congrArg (bitsOf · 31 24) (hword _)).trans (hdelay j (List.mem_cons_of_mem _ hj))
    · exact hdue.trans (Nat.le_of_eq (s.regSwitch_now i false).symm)

/-- A regulator whose OFF_DELAY runs holds up those that follow. -/
theorem State.regsOff_waits (h : s.now < s.pwr.regAt + s.fld (Reg.pwrReg i) 31 24 * ms) :
    State.regsOff (i :: l) s = { s with pwr := { s.pwr with offs := i :: l } } := if_neg (Nat.not_le.2 h)

theorem State.regsOff_last (h : s.pwr.regAt + s.fld (Reg.pwrReg i) 31 24 * ms ≤ s.now) :
    State.regsOff [i] s = { s.regSwitch i false with pwr := { s.pwr with regs := s.pwr.regs.set i false, regAt := s.pwr.regAt + s.fld (Reg.pwrReg i) 31 24 * ms, offs := [] } } :=
  if_pos h

/-- Every regulator is off: SHDN_DONE goes high. -/
def State.shdnOver (s : State) : State := { s.emit (.pin "SHDN_DONE" 0 true) with pwr := { s.pwr with shdn := 4, shdnAt := s.now, done := true } }

theorem State.shdnRegs_over (h : (State.regsOff s.pwr.offs s).pwr.offs = []) : s.shdnRegs = (State.regsOff s.pwr.offs s).shdnOver := if_pos h

theorem State.shdnRegs_waits (h : (State.regsOff s.pwr.offs s).pwr.offs ≠ []) : s.shdnRegs = State.regsOff s.pwr.offs s := if_neg h

theorem State.shdnRegs_regs (s : State) : s.shdnRegs.regs = s.regs := by
  unfold State.shdnRegs
  dsimp only
  split
  · exact State.regsOff_regs _ s
  · exact State.regsOff_regs _ s

theorem State.shdnOver_done (s : State) : s.shdnOver.pwr.shdn = 4 ∧ s.shdnOver.pwr.done = true ∧ .pin "SHDN_DONE" 0 true ∈ s.shdnOver.out :=
  ⟨rfl, rfl, List.mem_cons_self ..⟩

/-! ### The end of the shut-down (R500, R520) -/

/-- The results of the tests are recorded where the tests are enabled (R500). -/
def State.resultsKept (s : State) : State :=
  if s.flag Reg.svcCtrl 0 then
    (if s.storeOk 2 then
      s.recordWrite { uses := 0, serial := deviceSerial, gen := 0, frame := s.ras.frame, time := s.device, results := s.shutResults }
    else s.refuseStore)
  else s

/-- The modules have no power. -/
def State.modulesOff (s : State) : State := (List.range 12).foldl (fun (s : State) c => s.emit (.pin "DMC_PWREN" c false)) s

/-- The regulators are to go off in the reverse of their order. -/
def State.regsDue (s : State) : State := { s with pwr := { s.pwr with shdn := 5, regAt := s.now, offs := s.regOrder.reverse } }

theorem State.shutdownComplete_eq (hstop : s.pwr.stop = false) (hsteady : s.mgt.restarting = false) (hshdn : s.pwr.shdn = 3) (hbist : s.svc.bist = [])
    (htests : s.flag Reg.svcCtrl 0 = true → s.svc.tests = []) : s.shutdownComplete = s.resultsKept.logAppend.allOff.modulesOff.regsDue.shdnRegs := by
  rw [State.shutdownComplete, hstop, hsteady, if_neg (by decide), hshdn, if_neg (by decide), if_pos ⟨rfl, hbist, htests⟩]
  rfl

/-- The words of the PWR page that the end of a shut-down keeps: all but those that show domains and the count of refused stores. -/
abbrev shutWord (x : Nat) : Prop := stopWord x ∧ x ≠ Reg.pwrStat 2

theorem State.recordWrite_regs (s : State) (r : Results) : (s.recordWrite r).regs = s.regs := by
  unfold State.recordWrite
  split <;> rfl

theorem State.resultsKept_words (s : State) : WordsKept shutWord s s.resultsKept :=
  .ite (.ite (.regs (.refl _ s) (s.recordWrite_regs _)) (.refuseStore (.refl _ s) (by simp))) (.refl _ s)

theorem State.logPut_regs (s : State) (e : LogEntry) : (s.logPut e).regs = s.regs := by
  unfold State.logPut
  dsimp only
  split <;> split <;> rfl

theorem State.logShow_shut (s : State) : WordsKept shutWord s s.logShow := by
  unfold State.logShow
  have hpos : ∀ k, ¬ shutWord (Reg.svcLogPos k) := fun k h => by have := h.1.1.2; unfold Reg.svcLogPos at this; omega
  exact .foldl (.wr (.wr (.wr (.wr (.refl _ s) (hpos 0)) (hpos 1)) (hpos 2)) (hpos 3))
    (fun _ k _ hr => .wr hr (fun h => by have := h.1.1.2; unfold Reg.svcLogChain at this; omega))

theorem State.logAppend_words (s : State) : WordsKept shutWord s s.logAppend := by
  have hput : WordsKept shutWord s (s.log.staged.foldl State.logPut s) := .foldl (.refl _ s) (fun r e _ hr => .regs hr (r.logPut_regs e))
  have hshow : ∀ v : State, WordsKept shutWord v v.logShow := State.logShow_shut
  unfold State.logAppend
  exact .ite (.refl _ s) (.ite (.add ((WordsKept.regs hput rfl).trans (hshow _)) (by decide)) (.add (.refuseStore (.refl _ s) (by simp)) (by decide)))

end

end Sys2Proof.Machine

/-! SUPPORT. The end of a shut-down, the reset of the whole device and HEP_PERST_N, for O59 (R449, R461, R515, R520). -/

namespace Sys2Proof.Machine

section
variable {s t u : State} {now n i : Nat} {l : List Nat}

/-! ### The end of the shut-down (R520) -/

/-- Steps 5 and 6 of a shut-down. -/
def State.unitsOff (s : State) : State := s.resultsKept.logAppend.allOff.modulesOff

theorem State.modulesOff_regs (s : State) : s.modulesOff.regs = s.regs := by
  unfold State.modulesOff
  generalize List.range 12 = l
  induction l generalizing s with
  | nil => rfl
  | cons c l ih => exact ih _

theorem State.modulesOff_now (s : State) : s.modulesOff.now = s.now := by
  unfold State.modulesOff
  generalize List.range 12 = l
  induction l generalizing s with
  | nil => rfl
  | cons c l ih => exact ih _

theorem State.unitsOff_words (s : State) : WordsKept shutWord s s.unitsOff :=
  .regs (((s.resultsKept_words.trans (State.logAppend_words _)).trans (State.allOff_words.step (fun _ hx => hx.1) (.refl _ _)))) (State.modulesOff_regs _)

theorem State.unitsOff_now (s : State) : s.unitsOff.now = s.now := by
  have hresults : s.resultsKept.now = s.now := by
    unfold State.resultsKept
    split
    · split
      · exact State.recordWrite_kept.now.resolve_left (by decide)
      · exact State.add_now ..
    · rfl
  rw [State.unitsOff, State.modulesOff_now, State.allOff_kept.now.resolve_left (by decide), State.logAppend_kept.now.resolve_left (by decide), hresults]

theorem shutWord_pwrReg (hi : i < 16) : shutWord (Reg.pwrReg i) := by
  refine ⟨⟨?_, ?_⟩, ?_⟩
  · unfold powerWord Reg.pwrReg
    omega
  · unfold Reg.pwrReg
    omega
  · unfold Reg.pwrReg Reg.pwrStat
    omega

/-- What the regulators wait for is that the units are off. -/
theorem State.regsDue_spec (s : State) : s.regsDue.regs = s.regs ∧ s.regsDue.now = s.now ∧ s.regsDue.pwr.regAt = s.now ∧
    s.regsDue.pwr.offs = s.regOrder.reverse ∧ s.regsDue.pwr.shdn = 5 := ⟨rfl, rfl, rfl, rfl, rfl⟩

theorem State.unitsOff_regOrder (s : State) : s.unitsOff.regOrder = s.regOrder := s.unitsOff_words.regOrder (fun _ h => shutWord_pwrReg h)

/-- The OFF_DELAY of the regulators stands as the units go off. -/
theorem State.regsDue_delay (s : State) (h : i ∈ s.regOrder) : s.unitsOff.regsDue.fld (Reg.pwrReg i) 31 24 = s.fld (Reg.pwrReg i) 31 24 :=
  (WordsKept.regs s.unitsOff_words s.unitsOff.regsDue_spec.1).fld (shutWord_pwrReg (State.regOrder_lt h)) 31 24

/-- The modules and the regulators go off without a word that shows a domain. -/
theorem State.regsOut_domOn (s : State) (d : Nat) : s.modulesOff.regsDue.shdnRegs.domOn d = s.domOn d := by
  have hregs : s.modulesOff.regsDue.shdnRegs.regs = s.regs := (State.shdnRegs_regs _).trans (s.modulesOff.regsDue_spec.1.trans s.modulesOff_regs)
  exact (WordsKept.regs (.refl (fun _ => True) s) hregs).domOn trivial trivial d

theorem State.unitsOff_domOn (s : State) {d : Nat} (hd : d ∈ startOrder) : s.unitsOff.regsDue.shdnRegs.domOn d = false :=
  (State.regsOut_domOn _ d).trans (State.domOn_allOff _ hd)

/-- What the end of a shut-down leaves, with the regulators that wait for their OFF_DELAY. -/
structure State.ShutFrom (s u : State) : Prop where
  doms : ∀ d ∈ startOrder, u.domOn d = false
  atOnce : (∀ i ∈ s.regOrder, s.fld (Reg.pwrReg i) 31 24 = 0) → u.pwr.shdn = 4 ∧ u.pwr.done = true ∧ .pin "SHDN_DONE" 0 true ∈ u.out
  waits : ∀ i l, s.regOrder.reverse = i :: l → s.fld (Reg.pwrReg i) 31 24 ≠ 0 → u.pwr.shdn = 5 ∧ u.pwr.offs = i :: l ∧ u.pwr.regAt = s.now

theorem State.shdnRegs_at_once (hdelay : ∀ i ∈ s.pwr.offs, s.fld (Reg.pwrReg i) 31 24 = 0) (hat : s.pwr.regAt ≤ s.now) :
    s.shdnRegs.pwr.shdn = 4 ∧ s.shdnRegs.pwr.done = true ∧ .pin "SHDN_DONE" 0 true ∈ s.shdnRegs.out := by
  rw [State.shdnRegs_over (State.regsOff_at_once _ s hdelay hat)]
  exact State.shdnOver_done _

theorem State.shdnRegs_held (hoffs : s.pwr.offs = i :: l) (hearly : s.now < s.pwr.regAt + s.fld (Reg.pwrReg i) 31 24 * ms) :
    s.shdnRegs = { s with pwr := { s.pwr with offs := i :: l } } := by
  have hwait : State.regsOff s.pwr.offs s = { s with pwr := { s.pwr with offs := i :: l } } := by
    rw [hoffs]
    exact State.regsOff_waits hearly
  rw [State.shdnRegs_waits (by rw [hwait]; exact List.cons_ne_nil i l), hwait]

/-- A shut-down whose units are off, with every regulator in turn still on, ends as its OFF_DELAYs say. -/
theorem State.shdnRegs_shut {x : State} (hdoms : ∀ d ∈ startOrder, x.shdnRegs.domOn d = false) (hnow : x.now = s.now) (hat : x.pwr.regAt = s.now)
    (horder : x.pwr.offs = s.regOrder.reverse) (hshdn : x.pwr.shdn = 5)
    (hdelay : ∀ i ∈ s.regOrder, x.fld (Reg.pwrReg i) 31 24 = s.fld (Reg.pwrReg i) 31 24) : s.ShutFrom x.shdnRegs := by
  refine ⟨hdoms, fun hzero => State.shdnRegs_at_once (fun i hi => ?_) (by rw [hat, hnow]), fun i l hrev hslow => ?_⟩
  · rw [horder, List.mem_reverse] at hi
    rw [hdelay i hi, hzero i hi]
  · have hin : i ∈ s.regOrder := List.mem_reverse.1 (hrev ▸ List.mem_cons_self ..)
    rw [State.shdnRegs_held (horder.trans hrev) (by
      rw [hat, hnow, hdelay i hin]
      exact Nat.lt_add_of_pos_right (Nat.mul_pos (Nat.pos_of_ne_zero hslow) (by decide)))]
    exact ⟨hshdn, rfl, hat⟩

theorem State.unitsOff_shut (s : State) : s.ShutFrom s.unitsOff.regsDue.shdnRegs := by
  obtain ⟨-, hnow, hat, horder, hshdn⟩ := s.unitsOff.regsDue_spec
  exact State.shdnRegs_shut (fun _ hd => s.unitsOff_domOn hd) (hnow.trans s.unitsOff_now) (hat.trans s.unitsOff_now)
    (horder.trans (congrArg List.reverse s.unitsOff_regOrder)) hshdn (fun _ hi => s.regsDue_delay hi)

theorem State.shutdownComplete_shut (hstop : s.pwr.stop = false) (hsteady : s.mgt.restarting = false) (hshdn : s.pwr.shdn = 3) (hbist : s.svc.bist = [])
    (htests : s.flag Reg.svcCtrl 0 = true → s.svc.tests = []) : s.ShutFrom s.shutdownComplete := by
  rw [State.shutdownComplete_eq hstop hsteady hshdn hbist htests]
  exact s.unitsOff_shut

theorem exec_shutdownComplete_units (hstop : s.pwr.stop = false) (hsteady : s.mgt.restarting = false) (hshdn : s.pwr.shdn = 3) (hbist : s.svc.bist = [])
    (htests : s.flag Reg.svcCtrl 0 = true → s.svc.tests = []) :
    ∃ u, exec (.shutdownComplete now) s = .next u ∧ (∀ d ∈ startOrder, u.domOn d = false) ∧
      ((∀ i ∈ s.regOrder, s.fld (Reg.pwrReg i) 31 24 = 0) → u.pwr.shdn = 4 ∧ u.pwr.done = true ∧ .pin "SHDN_DONE" 0 true ∈ u.out) ∧
      (∀ i l, s.regOrder.reverse = i :: l → s.fld (Reg.pwrReg i) 31 24 ≠ 0 → u.pwr.shdn = 5 ∧ u.pwr.offs = i :: l ∧ u.pwr.regAt = max s.now now) := by
  obtain ⟨hdoms, hatOnce, hwaits⟩ := State.shutdownComplete_shut (s := s.at now) hstop hsteady hshdn hbist htests
  refine ⟨_, rfl, fun d hd => (settle_domOn _ d).trans (hdoms d hd), fun hzero => ?_, fun i l hrev hslow => ?_⟩
  · obtain ⟨h4, hdone, hpin⟩ := hatOnce hzero
    rw [settle_pwr]
    exact ⟨h4, hdone, settle_pin hpin⟩
  · rw [settle_pwr]
    exact hwaits i l hrev hslow

theorem State.shutdownComplete_regs (hstop : s.pwr.stop = false) (hsteady : s.mgt.restarting = false) (hshdn : s.pwr.shdn = 5) :
    s.shutdownComplete = s.shdnRegs := by
  rw [State.shutdownComplete, hstop, hsteady, if_neg (by decide), if_pos hshdn]

theorem exec_shutdownComplete_waits (hstop : s.pwr.stop = false) (hsteady : s.mgt.restarting = false) (hshdn : s.pwr.shdn = 5) (hoffs : s.pwr.offs = i :: l)
    (hearly : max s.now now < s.pwr.regAt + s.fld (Reg.pwrReg i) 31 24 * ms) : ∃ u, exec (.shutdownComplete now) s = .next u ∧ u.pwr = s.pwr := by
  have heq := (State.shutdownComplete_regs (s := s.at now) hstop hsteady hshdn).trans (State.shdnRegs_held (s := s.at now) hoffs hearly)
  refine ⟨_, congrArg finish heq, ?_⟩
  rw [settle_pwr, ← hoffs]
  rfl

theorem exec_shutdownComplete_last (hstop : s.pwr.stop = false) (hsteady : s.mgt.restarting = false) (hshdn : s.pwr.shdn = 5) (hoffs : s.pwr.offs = [i])
    (hdue : s.pwr.regAt + s.fld (Reg.pwrReg i) 31 24 * ms ≤ max s.now now) : ∃ u, exec (.shutdownComplete now) s = .next u ∧ u.pwr.shdn = 4 ∧
      u.pwr.done = true ∧ u.pwr.regs = s.pwr.regs.set i false ∧ .pin "SHDN_DONE" 0 true ∈ u.out := by
  have hlast := State.regsOff_last (s := s.at now) (i := i) hdue
  rw [← show (s.at now).pwr.offs = [i] from hoffs] at hlast
  have hempty : (State.regsOff (s.at now).pwr.offs (s.at now)).pwr.offs = [] := by rw [hlast]
  have hregs : (State.regsOff (s.at now).pwr.offs (s.at now)).shdnOver.pwr.regs = s.pwr.regs.set i false := congrArg (fun x : State => x.pwr.regs) hlast
  have heq := (State.shutdownComplete_regs (s := s.at now) hstop hsteady hshdn).trans (State.shdnRegs_over hempty)
  obtain ⟨h4, hdone, hpin⟩ := State.shdnOver_done (State.regsOff (s.at now).pwr.offs (s.at now))
  refine ⟨_, congrArg finish heq, ?_⟩
  rw [settle_pwr]
  exact ⟨h4, hdone, hregs, settle_pin hpin⟩

/-! ### The reset of the whole device (R461, R515) -/

/-- Nothing is sent where no vector is asserted and none is pending. -/
theorem settle_out_quiet (hlive : s.live = 0) (hpend : s.msixPend = 0) : (settle s).out = s.out := by
  have hnone : ∀ f : Nat → Bool, (List.range 64).filter (fun v => bitOf 0 v && f v) = [] := fun f =>
    List.filter_eq_nil_iff.2 fun v _ => by rw [show bitOf 0 v = false from by rw [bitOf, Nat.zero_div]; rfl]; exact Bool.false_ne_true
  unfold settle State.msixFollow
  dsimp only
  rw [hlive, hpend, hnone, show Nat.land 0 0 = 0 from rfl, hnone]
  rfl

/-- The words kept by a reset of the whole device are the device's own. -/
theorem State.powerOn_rd (s : State) (x : Nat) : s.powerOn.rd x = if ownRegs.contains x then s.rd x else (resetWord x).toNat := by
  have hregs : s.powerOn.regs = Sparse.drop (fun a => !ownRegs.contains a) s.regs :=
    List.filter_congr fun e _ => (Bool.not_not _).symm
  rw [State.rd, hregs]
  cases hown : ownRegs.contains x with
  | true => rw [Sparse.get_drop_ne (by rw [hown]; rfl), if_pos rfl, State.rd]
  | false => rw [Sparse.get_drop_same (by rw [hown]; rfl), if_neg Bool.false_ne_true]

/-- No route is in force after a reset of the whole device. -/
theorem State.powerOn_routes (s : State) : s.powerOn.routes = [] := by
  refine List.filterMap_eq_nil_iff.2 fun e he => if_neg fun h => ?_
  have hown : e.1 ∈ ownRegs := List.contains_iff_mem.1 (List.mem_filter.1 he).2
  have hlow : ∀ a ∈ ownRegs, a < 0x2800 := by decide
  exact Nat.not_lt.2 h.1 (hlow e.1 hown)

theorem State.powerOn_live (s : State) : s.powerOn.live = 0 := by
  rw [State.live, State.asserted, s.powerOn_routes]
  exact Nat.zero_and _

theorem State.powerOn_whole (s : State) : s.WholeReset (settle (s.at now).powerOn) now := by
  refine ⟨fun x => (settle_rd _ x).trans ((s.at now).powerOn_rd x), settle_shadow _, ⟨settle_dram _, settle_poison _⟩, settle_dimms _, ?_, ?_, settle_pwr _, ?_, ?_, ?_, ?_, ?_, ?_⟩
  · rw [settle_nvs]; rfl
  · rw [settle_log]; exact ⟨rfl, rfl, rfl⟩
  · rw [settle_scn, settle_ing, settle_ras]; exact ⟨rfl, rfl, rfl⟩
  · rw [settle_secu]; exact ⟨rfl, rfl, rfl, rfl⟩
  · rw [settle_svc]; exact ⟨rfl, rfl⟩
  · rw [settle_secu]; exact ⟨rfl, rfl⟩
  · exact settle_out_quiet (s.at now).powerOn_live rfl
  · rw [settle_free, settle_now, settle_pending]; exact ⟨rfl, rfl, rfl⟩

theorem exec_corePowerOnReset : ∃ u, exec (.corePowerOnReset now) s = .next u ∧ s.WholeReset u now := ⟨_, rfl, s.powerOn_whole⟩

theorem exec_porstAssert_off (hoff : s.panel = 0) : ∃ u, exec (.porstAssert now) s = .next u ∧ s.WholeReset u now :=
  ⟨_, congrArg finish (if_pos hoff), s.powerOn_whole⟩

/-- A discharge that runs stays, and any other panel that is not OFF is discharged. -/
theorem State.discharge_panel (hoff : s.panel ≠ 0) : s.discharge.panel = 5 := by
  by_cases honce : s.panel = 5
  · rw [State.discharge, if_pos (.inr honce), honce]
  · exact (State.discharge_spec hoff honce).1

theorem exec_porstAssert_on (hon : s.panel ≠ 0) : ∃ u, exec (.porstAssert now) s = .next u ∧ u.pwr.porst = true ∧ u.panel = 5 := by
  have heq : (s.at now).porst = { (s.at now).discharge with pwr := { (s.at now).discharge.pwr with porst := true } } := if_neg hon
  refine ⟨_, congrArg finish heq, ?_⟩
  rw [settle_pwr, settle_panel]
  exact ⟨rfl, State.discharge_panel (s := s.at now) hon⟩

theorem exec_shdnReqNRelease {x : Nat} (habove : s.pwr.above = some x) (hshdn : s.pwr.shdn = 4) :
    ∃ u, exec (.shdnReqNRelease now) s = .next u ∧ ({ s with pwr := { s.pwr with low := false } } : State).WholeReset u now := by
  have heq : (s.at now).shdnRelease = (({ s with pwr := { s.pwr with low := false } } : State).at now).powerOn :=
    if_pos ⟨hshdn, congrArg Option.isSome habove⟩
  exact ⟨_, congrArg finish heq, State.powerOn_whole _⟩

theorem exec_restartAfterStop {x : Nat} (habove : s.pwr.above = some x) (hstop : s.pwr.stop = true) (hhot : s.pwr.hot = false) (hrun : s.mgt.running = false)
    (hoff : s.panel = 0) (htime : x + s.fld Reg.pwrSupTime 23 8 * ms ≤ max s.now now) :
    ∃ u, exec (.restartAfterStop now) s = .next u ∧ s.WholeReset u now := by
  have heq : (s.at now).restartAfterStop = (s.at now).powerOn := by
    have habove' : (s.at now).pwr.above = some x := habove
    have hhot' : (s.at now).pwr.hot = false := hhot
    have hrun' : (s.at now).mgt.running = false := hrun
    rw [State.restartAfterStop, habove']
    dsimp only
    rw [hhot', hrun']
    exact if_pos ⟨hstop, rfl, rfl, hoff, htime⟩
  exact ⟨_, congrArg finish heq, s.powerOn_whole⟩

/-! ### HEP_PERST_N (R515) -/

/-- No lane but `n` has moved. -/
def LanesBut (n : Nat) (s t : State) : Prop := ∀ m, m ≠ n → t.lane m = s.lane m

theorem LanesBut.of_lanes (h : t.lanes = s.lanes) : LanesBut n s t := fun m _ => congrArg (·.getD m Lane.reset) h

theorem LanesBut.trans (h : LanesBut n s t) (g : LanesBut n t u) : LanesBut n s u := fun m hm => (g m hm).trans (h m hm)

theorem LanesBut.setLane (s : State) (n : Nat) (x : Lane) : LanesBut n s (s.setLane n x) := fun _ hm => State.lane_setLane_ne _ hm

/-- A checker that stops or begins is its own lane's. -/
theorem State.prbsFollow_lanesBut (s : State) (n : Nat) : LanesBut n s (s.prbsFollow n) := by
  have hstop : LanesBut n s (s.prbsStop n) := by
    unfold State.prbsStop
    split
    · exact .trans (t := (s.wr _ _).wr _ _) (.of_lanes rfl) (.setLane _ n _)
    · exact .of_lanes rfl
  unfold State.prbsFollow
  split
  · exact hstop
  · split
    · exact .trans (t := (s.wr _ _).wr _ _) (.of_lanes rfl) (.setLane _ n _)
    · exact .of_lanes rfl

theorem State.setLaneState_lanesBut (s : State) (n v : Nat) : LanesBut n s (s.setLaneState n v) :=
  .trans (.of_lanes ((State.setFlag_lanes ..).trans (State.setFld_lanes ..))) (State.prbsFollow_lanesBut _ n)

/-- Lane `n` loses its link. -/
def State.laneUnlinked (s : State) (n : Nat) : State := ((s.scanDrop n).setLaneState n 0).setFlag (Reg.lnkLStatus n) 3 false

theorem State.laneUnlinked_words (hn : n < 84) (s : State) : WordsKept (outsideState n) s (s.laneUnlinked n) :=
  .setFlag (((s.scanDrop_spec n).1.step (fun _ hx => hx.2.1) (.refl _ s)).trans (State.setLaneState_shown hn _ 0).words) (fun h => h.2.1 rfl)

theorem State.laneUnlinked_state (hn : n < 84) (s : State) : (s.laneUnlinked n).laneState n = 0 := by
  rw [State.laneState, State.laneUnlinked, State.fld_setFlag_other _ _ _ _ _ _ (by decide) (by decide) (.inl (by decide))]
  exact (State.setLaneState_shown hn _ 0).state

theorem State.laneUnlinked_lanesBut (s : State) (n : Nat) : LanesBut n s (s.laneUnlinked n) :=
  .trans (.trans (.of_lanes (s.scanDrop_spec n).2.2.2) (State.setLaneState_lanesBut _ n 0)) (.of_lanes (State.setFlag_lanes ..))

theorem lnkLStatus_outsideState {m : Nat} (hn : n < 84) (hm : m < 84) (h : m ≠ n) : outsideState n (Reg.lnkLStatus m) := by
  unfold outsideState outsidePrbs Reg.lnkLStatus Reg.lnkReady Reg.lnkLPrbsErr Reg.lnkLPrbsBits
  omega

theorem State.laneUnlinked_other {m : Nat} (hn : n < 84) (hm : m < 84) (h : m ≠ n) (s : State) :
    (s.laneUnlinked n).laneState m = s.laneState m ∧ (s.laneUnlinked n).lane m = s.lane m :=
  ⟨(s.laneUnlinked_words hn).fld (lnkLStatus_outsideState hn hm h) 2 0, s.laneUnlinked_lanesBut n m h⟩

/-- Lanes that lose their link show it, and the others stay. -/
theorem State.foldl_laneUnlinked (hl : ∀ n ∈ l, n < 84) (s : State) {m : Nat} (hm : m < 84) :
    (m ∈ l → (l.foldl State.laneUnlinked s).laneState m = 0) ∧
      (m ∉ l → (l.foldl State.laneUnlinked s).laneState m = s.laneState m ∧ (l.foldl State.laneUnlinked s).lane m = s.lane m) := by
  induction l generalizing s with
  | nil => exact ⟨fun h => (List.not_mem_nil h).elim, fun _ => ⟨rfl, rfl⟩⟩
  | cons n l ih =>
    obtain ⟨hin, hout⟩ := ih (fun k hk => hl k (List.mem_cons_of_mem _ hk)) (s.laneUnlinked n)
    have hn := hl n (List.mem_cons_self ..)
    refine ⟨fun h => ?_, fun h => ?_⟩
    · by_cases hml : m ∈ l
      · exact hin hml
      · obtain rfl := (List.mem_cons.1 h).resolve_right hml
        exact (hout hml).1.trans (s.laneUnlinked_state hn)
    · obtain ⟨hne, hml⟩ := not_or.1 (mt List.mem_cons.2 h)
      obtain ⟨hstate, hlane⟩ := State.laneUnlinked_other hn hm hne s
      exact ⟨(hout hml).1.trans hstate, (hout hml).2.trans hlane⟩

theorem State.hepReset_eq (h : s.domOn 31 = true) : s.hepReset = [76, 77, 78, 79].foldl State.laneUnlinked s := if_pos h

theorem exec_hepPerstN (hdom : s.domOn 31 = true) :
    ∃ u, exec (.hepPerstN now) s = .next u ∧ (∀ i, i < 4 → u.laneState (76 + i) = 0) ∧ u.dram = s.dram ∧
      ∀ n, n < 84 → n < 76 ∨ 80 ≤ n → u.laneState n = s.laneState n ∧ u.lane n = s.lane n := by
  have hdram : (s.at now).hepReset.dram = s.dram := State.hepReset_kept.dram.resolve_left (by decide)
  have heq : (s.at now).hepReset = [76, 77, 78, 79].foldl State.laneUnlinked (s.at now) := State.hepReset_eq hdom
  have hlost := fun m hm => State.foldl_laneUnlinked (l := [76, 77, 78, 79]) (by decide) (s.at now) (m := m) hm
  rw [← heq] at hlost
  refine ⟨_, rfl, fun i hi => ?_, (settle_dram _).trans hdram, fun n hn hother => ?_⟩
  · exact (settle_laneState _ _).trans ((hlost (76 + i) (by omega)).1 (by simp; omega))
  · rw [settle_laneState, settle_lane]
    exact (hlost n hn).2 (by simp; omega)

end

/-- Settles O59: clause by clause, from the lemmas about the ROM, recovery, start-up, shut-down and reset. -/
theorem startAndShutdown : Obligations.StartAndShutdown := by
  intro s t
  refine ⟨fun kat tm h0 h1 h2 h3 h4 h5 h6 => exec_resetRelease ⟨h0, h1, h2, h3, h4, h5, h6⟩,
    fun who d => ⟨fun h => exec_recoveryGo h, fun h hgo => exec_rcvResetPtr h hgo, fun h => exec_secRcvData h, fun h => exec_secKatGo h⟩,
    fun kat hgo hkat => exec_secKatDone hgo hkat, fun hrun hsteady hstop hshdn => ⟨fun h => exec_startUp_low ⟨hrun, hsteady, hstop, hshdn⟩ h,
      fun h => exec_startUp ⟨hrun, hsteady, hstop, hshdn⟩ h⟩,
    fun hstep hshdn hstop hrun => exec_shdnReq hstep hshdn hstop hrun, fun h => exec_shdnReq_early h, fun hstop hsteady => ⟨?_, ?_, ?_, ?_⟩,
    ⟨exec_corePowerOnReset, fun h => exec_porstAssert_off h, fun h => exec_porstAssert_on h, fun x h h4 => exec_shdnReqNRelease h h4,
      fun x habove hstop hhot hrun hoff htime => exec_restartAfterStop habove hstop hhot hrun hoff htime⟩,
    fun h => exec_hepPerstN h⟩
  · exact fun hshdn hpanel hfade => exec_shutdownBist_panel hstop hsteady hshdn hpanel hfade
  · exact fun hshdn hpanel => exec_shutdownBist_tests hstop hsteady hshdn hpanel
  · exact fun hshdn hbist htests => exec_shutdownComplete_units hstop hsteady hshdn hbist htests
  · intro i l hshdn hoffs
    refine ⟨fun hearly => exec_shutdownComplete_waits hstop hsteady hshdn hoffs hearly, fun hdue hl => ?_⟩
    subst hl
    exact exec_shutdownComplete_last hstop hsteady hshdn hoffs hdue

end Sys2Proof.Machine

/-! SUPPORT. The modulus of SM2 is prime, for O55 (R472): `sm2P + 1` has large known factors, and in a field of characteristic `q` with a
square root of `-1` an element of norm 1 has an order that divides `q - 1` or `q + 1`. -/

namespace Sys2Proof.Machine

section

/-! ### Double and add -/

theorem bits_split (k n : Nat) : k / 2 ^ n = 2 * (k / 2 ^ (n + 1)) + k / 2 ^ n % 2 := by
  rw [pow_succ, ← Nat.div_div_eq_div_mul]
  omega

/-- Doubling, and adding where the next bit of `k` is 1, comes to the `k`-th power: `R a x` says that `a` stands for `x`. -/
theorem foldl_bits {A M : Type} [Monoid M] (R : A → M → Prop) {dbl add : A → A} {y : M} {k : Nat} {one : A} (hdbl : ∀ a x, R a x → R (dbl a) (x * x))
    (hadd : ∀ a x, R a x → R (add a) (x * y)) (hone : R one 1) (hk : k < 2 ^ 256) :
    R ((List.range 256).foldl (fun a i => if bitOf k (255 - i) then add (dbl a) else dbl a) one) (y ^ k) := by
  have hsteps : ∀ n ≤ 256, R ((List.range n).foldl (fun a i => if bitOf k (255 - i) then add (dbl a) else dbl a) one) (y ^ (k / 2 ^ (256 - n))) := by
    intro n hn
    induction n with
    | zero =>
      rw [Nat.div_eq_of_lt hk, pow_zero]
      exact hone
    | succ n ih =>
      have hsplit := bits_split k (255 - n)
      have h := hdbl _ _ (ih (by omega))
      rw [← pow_add, ← Nat.two_mul, show 256 - n = 255 - n + 1 by omega] at h
      rw [List.range_succ, List.foldl_append, show 256 - (n + 1) = 255 - n by omega]
      by_cases hbit : bitOf k (255 - n) = true
      · have hone : k / 2 ^ (255 - n) % 2 = 1 := by simpa [bitOf] using hbit
        rw [hone] at hsplit
        have hsum := hadd _ _ h
        rw [← pow_succ, ← hsplit] at hsum
        simpa [hbit] using hsum
      · have hzero : k / 2 ^ (255 - n) % 2 = 0 := by simpa [bitOf] using hbit
        rw [hzero, Nat.add_zero] at hsplit
        rw [← hsplit] at h
        simpa [hbit] using h
  simpa using hsteps 256 (Nat.le_refl _)

/-! ### Complex numbers modulo `sm2P` -/

/-- The product of two complex numbers modulo `sm2P`. -/
def gaussMul (a b : Nat × Nat) : Nat × Nat := ((a.1 * b.1 + (sm2P - a.2 * b.2 % sm2P)) % sm2P, (a.1 * b.2 + a.2 * b.1) % sm2P)

/-- A power of a complex number modulo `sm2P`. -/
def gaussPow (b : Nat × Nat) (e : Nat) : Nat × Nat :=
  (List.range 256).foldl (fun a i => if bitOf e (255 - i) then gaussMul (gaussMul a a) b else gaussMul a a) (1, 0)

/-- The known part of `sm2P + 1`. -/
def sm2F : Nat := 2 ^ 64 * 257 ^ 2 * 65537 ^ 2 * 414721

/-- A complex number of norm 1, whose order is `sm2F`. -/
def gaussRoot : Nat × Nat :=
  (0xC00632F6A017E044D49EE48BFB3EC7163E69AC2907E61D628481C5041D94264B, 0xEDCD984F0725947B1211473E0C92D8079AC0F8E3577E1BB510B3444E9234FBCF)

/-- The norm of the difference of a complex number to 1. -/
def gaussGap (a : Nat × Nat) : Nat := (a.1 + (sm2P - 1)) * (a.1 + (sm2P - 1)) + a.2 * a.2

theorem gaussRoot_norm : (gaussRoot.1 * gaussRoot.1 + gaussRoot.2 * gaussRoot.2) % sm2P = 1 := by decide +kernel

theorem gaussRoot_pow : gaussPow gaussRoot sm2F = (1, 0) := by decide +kernel

theorem gaussRoot_gap : ∀ l ∈ [2, 257, 65537, 414721], Nat.gcd (gaussGap (gaussPow gaussRoot (sm2F / l))) sm2P = 1 := by decide +kernel

theorem sm2F_factor {l : Nat} (hl : l.Prime) (h : l ∣ sm2F) : l ∈ [2, 257, 65537, 414721] := by
  have hprimes : Nat.Prime 257 ∧ Nat.Prime 65537 ∧ Nat.Prime 414721 := by norm_num
  obtain ⟨h257, h65537, h414721⟩ := hprimes
  rw [sm2F, hl.dvd_mul, hl.dvd_mul, hl.dvd_mul] at h
  simp only [List.mem_cons, List.not_mem_nil, or_false]
  rcases h with ((h | h) | h) | h
  · exact .inl ((Nat.prime_dvd_prime_iff_eq hl Nat.prime_two).1 (hl.dvd_of_dvd_pow h))
  · exact .inr (.inl ((Nat.prime_dvd_prime_iff_eq hl h257).1 (hl.dvd_of_dvd_pow h)))
  · exact .inr (.inr (.inl ((Nat.prime_dvd_prime_iff_eq hl h65537).1 (hl.dvd_of_dvd_pow h))))
  · exact .inr (.inr (.inr ((Nat.prime_dvd_prime_iff_eq hl h414721).1 h)))

/-! ### In a field whose characteristic divides the modulus -/

section
variable {K : Type} [Field K] {i : K}

/-- The element of the field that a complex number stands for. -/
def gaussIn (i : K) (a : Nat × Nat) : K := a.1 + a.2 * i

variable (hp : (sm2P : K) = 0) (hi : i * i = -1)

include hp in
theorem cast_mod_sm2P (n : Nat) : ((n % sm2P : Nat) : K) = n := by
  conv_rhs => rw [← Nat.mod_add_div n sm2P, Nat.cast_add, Nat.cast_mul, hp, zero_mul, add_zero]

include hp in
theorem cast_sm2P_sub {n : Nat} (h : n ≤ sm2P) : ((sm2P - n : Nat) : K) = -n := by
  rw [Nat.cast_sub h, hp, zero_sub]

include hp hi in
theorem gaussIn_mul (a b : Nat × Nat) : gaussIn i (gaussMul a b) = gaussIn i a * gaussIn i b := by
  have hle : a.2 * b.2 % sm2P ≤ sm2P := (Nat.mod_lt _ (by decide)).le
  simp only [gaussIn, gaussMul, cast_mod_sm2P hp, cast_sm2P_sub hp hle, Nat.cast_add, Nat.cast_mul]
  linear_combination -((a.2 : K) * b.2) * hi

include hp hi in
theorem gaussIn_pow (b : Nat × Nat) {e : Nat} (he : e < 2 ^ 256) : gaussIn i (gaussPow b e) = gaussIn i b ^ e := by
  have h := foldl_bits (fun a x => gaussIn i a = x) (dbl := fun a => gaussMul a a) (add := fun a => gaussMul a b) (y := gaussIn i b) (one := (1, 0))
    (fun a x h => by rw [gaussIn_mul hp hi, h]) (fun a x h => by rw [gaussIn_mul hp hi, h]) (by simp [gaussIn]) he
  exact h

include hp hi in
/-- A power whose difference to 1 has a norm without a factor in common with the modulus is not 1. -/
theorem gaussIn_ne_one {a : Nat × Nat} (hgap : Nat.gcd (gaussGap a) sm2P = 1) : gaussIn i a ≠ 1 := by
  intro h
  have hgap0 : ((gaussGap a : Nat) : K) = 0 := by
    simp only [gaussGap, Nat.cast_add, Nat.cast_mul, cast_sm2P_sub hp (show 1 ≤ sm2P by decide)]
    rw [gaussIn] at h
    linear_combination (↑a.1 - 1 - ↑a.2 * i) * h + (a.2 : K) ^ 2 * hi
  have hbezout := congrArg (Int.cast (R := K)) (Nat.gcd_eq_gcd_ab (gaussGap a) sm2P)
  rw [hgap] at hbezout
  simp [hgap0, hp] at hbezout

include hp hi in
theorem orderOf_gaussRoot : orderOf (gaussIn i gaussRoot) = sm2F := by
  refine orderOf_eq_of_pow_and_pow_div_prime (by decide) ?_ fun l hl hdvd => ?_
  · rw [← gaussIn_pow hp hi _ (by decide), gaussRoot_pow]
    simp [gaussIn]
  · rw [← gaussIn_pow hp hi _ (lt_of_le_of_lt (Nat.div_le_self _ _) (by decide))]
    exact gaussIn_ne_one hp hi (gaussRoot_gap l (sm2F_factor hl hdvd))

include hp hi in
theorem gaussRoot_conj : (gaussRoot.1 - gaussRoot.2 * i) * gaussIn i gaussRoot = 1 := by
  have hnorm := congrArg (Nat.cast (R := K)) gaussRoot_norm
  rw [cast_mod_sm2P hp, Nat.cast_add, Nat.cast_mul, Nat.cast_mul, Nat.cast_one] at hnorm
  rw [gaussIn]
  linear_combination hnorm - (gaussRoot.2 : K) ^ 2 * hi

include hp hi in
/-- The characteristic is no less than the order of the root allows. -/
theorem sm2F_le_char {q : Nat} [hq : Fact q.Prime] [CharP K q] (hodd : q % 2 = 1) : sm2F ≤ q + 1 := by
  have hroot : ∀ n : Nat, 0 < n → gaussIn i gaussRoot ^ n = 1 → sm2F ≤ n := fun n hn h => by
    rw [← orderOf_gaussRoot hp hi]
    exact Nat.le_of_dvd hn (orderOf_dvd_of_pow_eq_one h)
  have hne : gaussIn i gaussRoot ≠ 0 := right_ne_zero_of_mul_eq_one (gaussRoot_conj hp hi)
  have hcast : ∀ n : Nat, (n : K) ^ q = n := fun n => map_natCast (frobenius K q) n
  have hpow : gaussIn i gaussRoot ^ q = gaussRoot.1 + gaussRoot.2 * i ^ q := by
    rw [gaussIn, add_pow_char, mul_pow, hcast, hcast]
  have hiq : i ^ q = i ∨ i ^ q = -i := by
    have hsplit : i ^ q = (-1) ^ (q / 2) * i := by
      conv_lhs => rw [show q = 2 * (q / 2) + 1 by omega, pow_succ, pow_mul, pow_two, hi]
    rcases neg_one_pow_eq_or K (q / 2) with h | h
    · exact .inl (by rw [hsplit, h, one_mul])
    · exact .inr (by rw [hsplit, h, neg_one_mul])
  have hq2 := hq.out.two_le
  rcases hiq with h | h
  · have hfix : gaussIn i gaussRoot ^ (q - 1) = 1 := by
      refine mul_right_cancel₀ hne ?_
      rw [← pow_succ, show q - 1 + 1 = q by omega, one_mul, hpow, h, ← gaussIn]
    exact (hroot (q - 1) (by omega) hfix).trans (by omega)
  · refine hroot (q + 1) (by omega) ?_
    rw [pow_succ, hpow, h, mul_neg, ← sub_eq_add_neg]
    exact gaussRoot_conj hp hi

end

/-- A factor of the modulus is no smaller than the order of the root allows. -/
theorem sm2F_le_factor {q : Nat} (hq : q.Prime) (hdvd : q ∣ sm2P) : sm2F ≤ q + 1 := by
  have hodd : q % 2 = 1 := by
    rcases hq.eq_two_or_odd with rfl | h
    · exact absurd hdvd (by decide)
    · exact h
  have : Fact q.Prime := ⟨hq⟩
  obtain ⟨i, hi⟩ := IsAlgClosed.exists_pow_nat_eq (-1 : AlgebraicClosure (ZMod q)) (n := 2) (by decide)
  exact sm2F_le_char ((CharP.cast_eq_zero_iff (AlgebraicClosure (ZMod q)) q sm2P).2 hdvd) ((pow_two i).symm.trans hi) hodd

theorem sm2P_lt_square : sm2P < (sm2F - 1) * (sm2F - 1) := by decide

/-- The modulus of SM2 is prime: its least factor would be at most its square root, and too small for the order of the root. -/
theorem sm2P_prime : Nat.Prime sm2P := by
  by_contra hprime
  have hne : sm2P ≠ 1 := by decide
  have hsq : sm2P.minFac ^ 2 ≤ sm2P := Nat.minFac_sq_le_self (by decide) hprime
  have hle : sm2F - 1 ≤ sm2P.minFac := Nat.sub_le_iff_le_add.2 (sm2F_le_factor (Nat.minFac_prime hne) (Nat.minFac_dvd sm2P))
  exact absurd ((pow_two _).symm.trans_le hsq) (Nat.not_le.2 (sm2P_lt_square.trans_le (Nat.mul_le_mul hle hle)))

end

end Sys2Proof.Machine

/-! SUPPORT. The points of SM2 are a group, for O55 (R472): the model's sums and multiples are those of Mathlib's elliptic curve. -/

namespace Sys2Proof.Machine

section
variable {F : Type} [Field F] {a b : Point} {p q : Nat × Nat}

/-! ### The field (R472) -/

theorem sm2P_cast (F : Type) [Field F] [CharP F sm2P] : (sm2P : F) = 0 := CharP.cast_eq_zero F sm2P

theorem powMod_cast [CharP F sm2P] (x : Nat) {e : Nat} (he : e < 2 ^ 256) : (powMod sm2P x e : F) = (x : F) ^ e := by
  have hmod := cast_mod_sm2P (sm2P_cast F)
  have h := foldl_bits (fun (a : Nat) (y : F) => (a : F) = y) (dbl := fun a => a * a % sm2P) (add := fun a => a * x % sm2P) (y := (x : F)) (one := 1)
    (fun a y h => by rw [hmod, Nat.cast_mul, h]) (fun a y h => by rw [hmod, Nat.cast_mul, h]) Nat.cast_one he
  exact h

theorem invMod_cast [CharP F sm2P] (x : Nat) : (invMod sm2P x : F) = (x : F)⁻¹ := by
  have : Fact (Nat.Prime sm2P) := ⟨sm2P_prime⟩
  have hfrob : (x : F) ^ sm2P = x := map_natCast (frobenius F sm2P) x
  rw [invMod, powMod_cast _ (by decide), cast_mod_sm2P (sm2P_cast F)]
  by_cases h0 : (x : F) = 0
  · rw [h0, inv_zero, zero_pow (by decide)]
  · refine eq_inv_of_mul_eq_one_left (mul_right_cancel₀ h0 ?_)
    rw [one_mul, ← pow_succ, ← pow_succ]
    exact hfrob

theorem cast_inj_sm2P [CharP F sm2P] {x y : Nat} (hx : x < sm2P) (hy : y < sm2P) (h : (x : F) = y) : x = y := CharP.natCast_injOn_Iio F sm2P hx hy h

/-! ### The curve (R472) -/

/-- The curve of SM2. -/
def sm2Curve (F : Type) [Field F] : WeierstrassCurve.Affine F := { a₁ := 0, a₂ := 0, a₃ := 0, a₄ := sm2A, a₆ := sm2B }

theorem sm2Curve_negY (x y : F) : (sm2Curve F).negY x y = -y := by simp [WeierstrassCurve.Affine.negY, sm2Curve]

theorem sm2Curve_addX (x y l : F) : (sm2Curve F).addX x y l = l * l - x - y := by
  simp [WeierstrassCurve.Affine.addX, sm2Curve]
  ring

theorem sm2Curve_addY (x y z l : F) : (sm2Curve F).addY x y z l = l * (x - (sm2Curve F).addX x y l) - z := by
  rw [WeierstrassCurve.Affine.addY, sm2Curve_negY, WeierstrassCurve.Affine.negAddY]
  ring

/-- The discriminant, over -16. -/
theorem sm2Curve_disc : (sm2Curve F).Δ = -(((16 * (4 * sm2A ^ 3 + 27 * sm2B ^ 2) : Nat)) : F) := by
  simp [WeierstrassCurve.Δ, WeierstrassCurve.b₂, WeierstrassCurve.b₄, WeierstrassCurve.b₆, WeierstrassCurve.b₈, sm2Curve]
  ring

theorem sm2Curve_smooth [CharP F sm2P] : (sm2Curve F).Δ ≠ 0 := by
  rw [sm2Curve_disc, neg_ne_zero, Ne, CharP.cast_eq_zero_iff F sm2P]
  decide

/-- A pair of coordinates, or none, names a point of the curve. -/
def Names (F : Type) [Field F] : Point → (sm2Curve F).Point → Prop
  | none, P => P = 0
  | some q, P => q.1 < sm2P ∧ q.2 < sm2P ∧ ∃ h : (sm2Curve F).Nonsingular q.1 q.2, P = .some _ _ h

theorem names_some {x y : F} {h : (sm2Curve F).Nonsingular x y} (h1 : q.1 < sm2P) (h2 : q.2 < sm2P) (hx : (q.1 : F) = x) (hy : (q.2 : F) = y) :
    Names F (some q) (.some x y h) := by
  subst hx
  subst hy
  exact ⟨h1, h2, h, rfl⟩

section
variable [CharP F sm2P]

/-- Coordinates that pass the model's check name a point. -/
theorem names_onCurve (h : onCurve q = true) : ∃ P, Names F (some q) P := by
  obtain ⟨h1, h2, heq⟩ := of_decide_eq_true h
  have hmod := cast_mod_sm2P (sm2P_cast F)
  have hcast := congrArg (Nat.cast (R := F)) heq
  simp only [hmod, Nat.cast_add, Nat.cast_mul] at hcast
  have hequation : (sm2Curve F).Equation q.1 q.2 := by
    rw [WeierstrassCurve.Affine.equation_iff]
    simp only [sm2Curve]
    linear_combination hcast
  exact ⟨_, h1, h2, (WeierstrassCurve.Affine.equation_iff_nonsingular_of_Δ_ne_zero sm2Curve_smooth).1 hequation, rfl⟩

/-- What names the same point is the same. -/
theorem names_unique {P : (sm2Curve F).Point} (ha : Names F a P) (hb : Names F b P) : a = b := by
  cases a with
  | none =>
    cases b with
    | none => rfl
    | some q =>
      obtain ⟨-, -, h, hP⟩ := hb
      exact absurd (hP.symm.trans ha) (WeierstrassCurve.Affine.Point.some_ne_zero h)
  | some p =>
    obtain ⟨hp1, hp2, h, hP⟩ := ha
    cases b with
    | none => exact absurd (hP.symm.trans hb) (WeierstrassCurve.Affine.Point.some_ne_zero h)
    | some q =>
      obtain ⟨hq1, hq2, g, hQ⟩ := hb
      obtain ⟨hx, hy⟩ := WeierstrassCurve.Affine.Point.some.inj (hP.symm.trans hQ)
      exact congrArg some (Prod.ext (cast_inj_sm2P hp1 hq1 hx) (cast_inj_sm2P hp2 hq2 hy))

/-! ### Sums and multiples (R472) -/

theorem sub_cast {x : Nat} (h : x < sm2P) : ((sm2P - x : Nat) : F) = -x := cast_sm2P_sub (sm2P_cast F) h.le

/-- The model's chord comes to the third point of the line with its slope. -/
theorem chord_cast (hp1 : p.1 < sm2P) (hp2 : p.2 < sm2P) (hq1 : q.1 < sm2P) (l : Nat) :
    ((chord l p q).1 : F) = (sm2Curve F).addX p.1 q.1 l ∧ ((chord l p q).2 : F) = (sm2Curve F).addY p.1 q.1 p.2 l := by
  have hmod := cast_mod_sm2P (sm2P_cast F)
  have hx : ((chord l p q).1 : F) = (sm2Curve F).addX p.1 q.1 l := by
    rw [sm2Curve_addX]
    simp only [chord, hmod, Nat.cast_add, Nat.cast_mul, sub_cast hp1, sub_cast hq1]
    ring
  have hlt : (chord l p q).1 < sm2P := Nat.mod_lt _ (by decide)
  refine ⟨hx, ?_⟩
  rw [sm2Curve_addY, ← hx]
  show (((l * (p.1 + (sm2P - (chord l p q).1)) + (sm2P - p.2)) % sm2P : Nat) : F) = _
  simp only [hmod, Nat.cast_add, Nat.cast_mul, sub_cast hp2, sub_cast hlt]
  ring

theorem names_chord (hp1 : p.1 < sm2P) (hp2 : p.2 < sm2P) (hq1 : q.1 < sm2P) {l : Nat} {k : F} (hl : (l : F) = k)
    {h : (sm2Curve F).Nonsingular ((sm2Curve F).addX p.1 q.1 k) ((sm2Curve F).addY p.1 q.1 p.2 k)} : Names F (some (chord l p q)) (.some _ _ h) := by
  subst hl
  obtain ⟨hx, hy⟩ := chord_cast (F := F) hp1 hp2 hq1 l
  exact names_some (Nat.mod_lt _ (by decide)) (Nat.mod_lt _ (by decide)) hx hy

section
variable [DecidableEq F]

theorem pointAdd_names {P Q : (sm2Curve F).Point} (ha : Names F a P) (hb : Names F b Q) : Names F (pointAdd a b) (P + Q) := by
  have hmod := cast_mod_sm2P (sm2P_cast F)
  cases a with
  | none =>
    obtain rfl : P = 0 := ha
    rw [zero_add]
    exact hb
  | some p =>
  cases b with
  | none =>
    obtain rfl : Q = 0 := hb
    rw [add_zero]
    exact ha
  | some q =>
  obtain ⟨hp1, hp2, h, rfl⟩ := ha
  obtain ⟨hq1, hq2, g, rfl⟩ := hb
  unfold pointAdd
  dsimp only
  by_cases hx : p.1 = q.1
  · have hx' : (p.1 : F) = q.1 := by rw [hx]
    rw [if_neg (not_not.2 hx)]
    by_cases hy : (p.2 + q.2) % sm2P = 0
    · have hy' : (p.2 : F) = (sm2Curve F).negY q.1 q.2 := by
        rw [sm2Curve_negY, eq_neg_iff_add_eq_zero, ← Nat.cast_add, ← hmod, hy, Nat.cast_zero]
      rw [if_pos hy]
      exact WeierstrassCurve.Affine.Point.add_of_Y_eq hx' hy'
    · have hy' : (p.2 : F) ≠ (sm2Curve F).negY q.1 q.2 := by
        rw [sm2Curve_negY, Ne, eq_neg_iff_add_eq_zero, ← Nat.cast_add, CharP.cast_eq_zero_iff F sm2P]
        exact fun h => hy (Nat.mod_eq_zero_of_dvd h)
      rw [if_neg hy, WeierstrassCurve.Affine.Point.add_of_Y_ne hy']
      refine names_chord hp1 hp2 hq1 ?_
      rw [WeierstrassCurve.Affine.slope_of_Y_ne hx' hy', sm2Curve_negY, hmod, Nat.cast_mul, invMod_cast, div_eq_mul_inv, sub_neg_eq_add]
      simp [sm2Curve]
      ring
  · have hx' : (p.1 : F) ≠ q.1 := fun h => hx (cast_inj_sm2P hp1 hq1 h)
    rw [if_pos hx, WeierstrassCurve.Affine.Point.add_of_X_ne hx']
    refine names_chord hp1 hp2 hq1 ?_
    rw [WeierstrassCurve.Affine.slope_of_X_ne hx', hmod, Nat.cast_mul, invMod_cast, Nat.cast_add, Nat.cast_add, sub_cast hp1, sub_cast hp2,
      ← div_eq_mul_inv, ← sub_eq_add_neg, ← sub_eq_add_neg, ← neg_sub, ← neg_sub (p.1 : F), neg_div_neg_eq]

theorem pointMul_names {P : (sm2Curve F).Point} (ha : Names F a P) {k : Nat} (hk : k < 2 ^ 256) : Names F (pointMul k a) (k • P) := by
  have h := foldl_bits (M := Multiplicative (sm2Curve F).Point) (fun (a : Point) P => Names F a P.toAdd) (dbl := fun d => pointAdd d d) (add := fun d => pointAdd d a)
    (y := Multiplicative.ofAdd P) (one := none) (fun _ _ h => pointAdd_names h h) (fun _ _ h => pointAdd_names h ha) rfl hk
  exact h

end

end

end

end Sys2Proof.Machine

/-! SUPPORT. The order of SM2's base point, for O55 (R472). -/

namespace Sys2Proof.Machine

/-- The base point has the order that the standard gives. -/
theorem sm2G_order : pointMul sm2N sm2G = none := by decide +kernel

/-- The double of the base point. -/
def sm2Double : Nat × Nat :=
  (0x56CEFD60D7C87C000D58EF57FA73BA4D9C0DFA08C08A7331495C2E1DA3F2BD52, 0x31B7E7E6CC8189F668535CE0F8EAF1BD6DE84C182F6C8E716F780D3A970A23C3)

theorem sm2G_onCurve : onCurve (sm2Gx, sm2Gy) = true := by decide

theorem sm2G_once : pointMul 1 sm2G = some (sm2Gx, sm2Gy) := by decide +kernel

theorem sm2G_twice : pointMul 2 sm2G = some sm2Double := by decide +kernel

end Sys2Proof.Machine

/-! SUPPORT. Every message has a signature that verifies under the base point as public key, for O55 (R472). The signing key is 1, and the
random number is 1 or 2. -/

namespace Sys2Proof.Machine

section
variable {k r e : Nat}

/-! ### The numbers of a signature -/

/-- The first number of a signature with digest `e` whose random multiple of the base point has the coordinate `x`. -/
def sm2R (e x : Nat) : Nat := (e + x) % sm2N

/-- Half the difference of `k` and `r` modulo the order: the second number of a signature with signing key 1. -/
def sm2S (k r : Nat) : Nat := (k + (sm2N - r)) * ((sm2N + 1) / 2) % sm2N

theorem sm2S_sum (hr : r < sm2N) (k : Nat) : (sm2S k r + (r + sm2S k r) % sm2N) % sm2N = k % sm2N := by
  unfold sm2S sm2N at *
  omega

/-- The numbers of a signature are in range. -/
structure SignsWith (r s : Nat) : Prop where
  rPos : 0 < r
  rLt : r < sm2N
  sPos : 0 < s
  sLt : s < sm2N
  sum : (r + s) % sm2N ≠ 0

theorem sm2S_zero (hr : r < sm2N) (hk : k < sm2N) (h : sm2S k r = 0) : r = k := by
  have hsum := sm2S_sum hr k
  rwa [h, Nat.zero_add, Nat.add_zero, Nat.mod_mod, Nat.mod_eq_of_lt hr, Nat.mod_eq_of_lt hk] at hsum

theorem sm2S_sum_zero (hr : r < sm2N) (hk : 0 < k) (hkn : k < sm2N) (h : (r + sm2S k r) % sm2N = 0) : r = sm2N - k := by
  have hsum := sm2S_sum hr k
  have hs : sm2S k r < sm2N := Nat.mod_lt _ (by decide)
  rw [h, Nat.add_zero, Nat.mod_eq_of_lt hs, Nat.mod_eq_of_lt hkn] at hsum
  rw [hsum] at h
  have hle : sm2N ≤ r + k := Nat.le_of_dvd (by omega) (Nat.dvd_of_mod_eq_zero h)
  rw [Nat.mod_eq_sub_mod hle, Nat.mod_eq_of_lt (by omega)] at h
  omega

theorem signsWith (hr : r < sm2N) (hk : 0 < k) (hkn : k < sm2N) (h0 : r ≠ 0) (h1 : r ≠ k) (h2 : r ≠ sm2N - k) : SignsWith r (sm2S k r) :=
  ⟨Nat.pos_of_ne_zero h0, hr, Nat.pos_of_ne_zero fun h => h1 (sm2S_zero hr hkn h), Nat.mod_lt _ (by decide), fun h => h2 (sm2S_sum_zero hr hk hkn h)⟩

/-- Of the random numbers 1 and 2 one gives a signature. -/
theorem sm2_signs (e : Nat) : SignsWith (sm2R e sm2Gx) (sm2S 1 (sm2R e sm2Gx)) ∨ SignsWith (sm2R e sm2Double.1) (sm2S 2 (sm2R e sm2Double.1)) := by
  have hlt : ∀ x, sm2R e x < sm2N := fun x => Nat.mod_lt _ (by decide)
  by_cases h : sm2R e sm2Gx = 0 ∨ sm2R e sm2Gx = 1 ∨ sm2R e sm2Gx = sm2N - 1
  · refine .inr (signsWith (hlt _) (by decide) (by decide) ?_ ?_ ?_)
    all_goals
      unfold sm2R sm2Gx sm2Double sm2N at *
      omega
  · obtain ⟨h0, h⟩ := not_or.1 h
    obtain ⟨h1, h2⟩ := not_or.1 h
    exact .inl (signsWith (hlt _) (by decide) (by decide) h0 h1 h2)

/-! ### The point of a signature -/

theorem sm2N_lt (h : k < sm2N) : k < 2 ^ 256 := h.trans (by decide)

theorem names_multiple_zero {F : Type} [Field F] [DecidableEq F] [CharP F sm2P] {a : Point} {P : (sm2Curve F).Point} (ha : Names F a P) (hk : k < 2 ^ 256)
    (h : pointMul k a = none) : k • P = 0 := by
  have hnames := pointMul_names ha hk
  rwa [h] at hnames

/-- In a field of the curve, with signing key 1, the point that a signature is checked against is the random multiple of the base point. -/
theorem sm2_point_names {F : Type} [Field F] [DecidableEq F] [CharP F sm2P] (hr : r < sm2N) (hk : k < sm2N) :
    pointAdd (pointMul (sm2S k r) (some (sm2Gx, sm2Gy))) (pointMul ((r + sm2S k r) % sm2N) (some (sm2Gx, sm2Gy))) = pointMul k (some (sm2Gx, sm2Gy)) := by
  obtain ⟨P, hP⟩ := names_onCurve (F := F) sm2G_onCurve
  have horder : sm2N • P = 0 := names_multiple_zero hP (by decide) sm2G_order
  have hmod : ∀ n : Nat, (n % sm2N) • P = n • P := fun n => by
    conv_rhs => rw [← Nat.mod_add_div n sm2N, add_nsmul, mul_nsmul, horder, nsmul_zero, add_zero]
  have hs : sm2S k r < sm2N := Nat.mod_lt _ (by decide)
  have hsum := pointAdd_names (pointMul_names hP (sm2N_lt hs)) (pointMul_names hP (k := (r + sm2S k r) % sm2N) (sm2N_lt (Nat.mod_lt _ (by decide))))
  rw [← add_nsmul, ← hmod, sm2S_sum hr, hmod] at hsum
  exact names_unique hsum (pointMul_names hP (sm2N_lt hk))

theorem sm2_point (hr : r < sm2N) (hk : k < sm2N) :
    pointAdd (pointMul (sm2S k r) sm2G) (pointMul ((r + sm2S k r) % sm2N) (some (sm2Gx, sm2Gy))) = pointMul k sm2G :=
  have : Fact (Nat.Prime sm2P) := ⟨sm2P_prime⟩
  sm2_point_names (F := ZMod sm2P) hr hk

/-! ### The bytes of a signature -/

theorem beNat_reverse (b : List Byte) : beNat b.reverse = leNat b := by
  rw [beNat, List.foldl_reverse]
  induction b with
  | nil => rfl
  | cons x b ih => rw [List.foldr_cons, ih, leNat, Nat.mul_comm, Nat.add_comm]

theorem beNat_beBytes {n v : Nat} (h : v < 256 ^ n) : beNat (beBytes n v) = v := (beNat_reverse _).trans (Tests.leNat_leBytes n v h)

/-- The base point as a public key. -/
def baseKey : List Byte := beBytes 32 sm2Gx ++ beBytes 32 sm2Gy

theorem baseKey_point : bytesPoint baseKey = (sm2Gx, sm2Gy) := by decide +kernel

/-- A signature as its two numbers. -/
def signBytes (r s : Nat) : List Byte := beBytes 32 r ++ beBytes 32 s

theorem length_signBytes (r s : Nat) : (signBytes r s).length = 64 := by
  rw [signBytes, List.length_append, Tests.length_beBytes, Tests.length_beBytes]

theorem signBytes_numbers {s : Nat} (hr : r < sm2N) (hs : s < sm2N) :
    beNat (slice (signBytes r s) 0 32) = r ∧ beNat (slice (signBytes r s) 32 32) = s := by
  have h256 : sm2N < 256 ^ 32 := by decide
  have hfirst : slice (signBytes r s) 0 32 = beBytes 32 r := Tests.slice_middle (a := []) rfl (Tests.length_beBytes 32 r)
  have hsecond : slice (signBytes r s) 32 32 = beBytes 32 s := by
    have h := Tests.slice_middle (a := beBytes 32 r) (c := []) (Tests.length_beBytes 32 r) (Tests.length_beBytes 32 s)
    rwa [List.append_nil] at h
  rw [hfirst, hsecond]
  exact ⟨beNat_beBytes (hr.trans h256), beNat_beBytes (hs.trans h256)⟩

/-- A signature with signing key 1 verifies. -/
theorem sm2Verifies_signBytes {msg : List Byte} {x y : Nat} (hk : k < sm2N) (hpoint : pointMul k sm2G = some (x, y))
    (h : SignsWith (sm2R (sm2Digest baseKey msg) x) (sm2S k (sm2R (sm2Digest baseKey msg) x))) :
    sm2Verifies baseKey msg (signBytes (sm2R (sm2Digest baseKey msg) x) (sm2S k (sm2R (sm2Digest baseKey msg) x))) = true := by
  obtain ⟨hr, hs⟩ := signBytes_numbers h.rLt h.sLt
  have hchecked : pointAdd (pointMul (sm2S k (sm2R (sm2Digest baseKey msg) x)) sm2G)
      (pointMul ((sm2R (sm2Digest baseKey msg) x + sm2S k (sm2R (sm2Digest baseKey msg) x)) % sm2N) (some (sm2Gx, sm2Gy))) = some (x, y) :=
    (sm2_point h.rLt hk).trans hpoint
  unfold sm2Verifies
  dsimp only
  rw [hr, hs, baseKey_point, hchecked, length_signBytes, sm2G_onCurve, decide_eq_true ⟨h.rPos, h.rLt, h.sPos, h.sLt, h.sum⟩]
  simp [sm2R, baseKey, Tests.length_beBytes]

/-- Every message has a signature that verifies under the base point. -/
theorem sm2Verify_exists (msg : List Byte) : ∃ sign : List Byte, sign.length = 64 ∧ sm2Verify baseKey msg sign = true := by
  rw [sm2Verify_eq]
  rcases sm2_signs (sm2Digest baseKey msg) with h | h
  · exact ⟨_, length_signBytes _ _, sm2Verifies_signBytes (by decide) sm2G_once h⟩
  · exact ⟨_, length_signBytes _ _, sm2Verifies_signBytes (by decide) sm2G_twice h⟩

end

end Sys2Proof.Machine

/-! O55 fails: a signed PRIV_WRITE to a word behind the SEC page, where no page lies, ends as an unmapped write and not with 0x1C05 (R53, R445,
R483). -/

namespace Sys2Proof.Machine

section
variable {s : State} {sign : List Byte}

/-- PRIV_WRITE of 0 to 0x1C1000, the first word behind the SEC page. -/
def behindParams : List Byte := leBytes 4 0x1C1000 ++ leBytes 4 0 ++ leBytes 4 0

/-- The header of the request: its service, the length of its parameters, the nonce of reset and SEQ 1. -/
def behindHead : List Byte := leBytes 4 0x10 ++ leBytes 4 12 ++ List.replicate 16 0 ++ leBytes 8 1

/-- The signed part of the request, with the base point as the owner's key. -/
def behindMsg : List Byte := behindHead ++ (serialBytes ++ (baseKey ++ behindParams))

/-- The request with its signature. -/
def behindRequest (sign : List Byte) : List Byte := behindMsg ++ sign

theorem length_baseKey : baseKey.length = 64 := by rw [baseKey, List.length_append, Tests.length_beBytes, Tests.length_beBytes]

theorem length_behindHead : behindHead.length = 32 := by decide
theorem length_behindParams : behindParams.length = 12 := by decide

theorem length_behindMsg : behindMsg.length = 116 := by
  rw [behindMsg, List.length_append, List.length_append, List.length_append, length_behindHead, Tests.length_serialBytes, length_baseKey, length_behindParams]

/-- The words of the request that lie in its header. -/
theorem behindRequest_head (sign : List Byte) {i n : Nat} (h : i + n ≤ 32) : slice (behindRequest sign) i n = slice behindHead i n := by
  rw [slice, slice, behindRequest, behindMsg, List.append_assoc, List.drop_append_of_le_length (by rw [length_behindHead]; omega),
    List.take_append_of_le_length (by rw [List.length_drop, length_behindHead]; omega)]

theorem behindRequest_serial (sign : List Byte) : leNat (slice (behindRequest sign) 32 8) = deviceSerial := by
  rw [behindRequest, behindMsg, List.append_assoc, List.append_assoc, Tests.slice_middle length_behindHead Tests.length_serialBytes]
  exact Tests.leNat_leBytes 8 _ Config.serial.isLt

theorem behindRequest_key (sign : List Byte) : mbKey (behindRequest sign) = baseKey := by
  have hfront : (behindHead ++ serialBytes).length = 40 := by rw [List.length_append, length_behindHead, Tests.length_serialBytes]
  have h : behindRequest sign = (behindHead ++ serialBytes) ++ (baseKey ++ (behindParams ++ sign)) := by simp only [behindRequest, behindMsg, List.append_assoc]
  rw [mbKey, h, Tests.slice_middle hfront length_baseKey]

theorem behindRequest_size (sign : List Byte) : leNat (slice (behindRequest sign) 4 4) = 12 := by
  rw [behindRequest_head sign (by decide)]
  decide

theorem behindRequest_params (sign : List Byte) : mbParams (behindRequest sign) = behindParams := by
  have hfront : (behindHead ++ (serialBytes ++ baseKey)).length = 104 := by
    rw [List.length_append, List.length_append, length_behindHead, Tests.length_serialBytes, length_baseKey]
  have h : behindRequest sign = (behindHead ++ (serialBytes ++ baseKey)) ++ (behindParams ++ sign) := by simp only [behindRequest, behindMsg, List.append_assoc]
  rw [mbParams, behindRequest_size, h, Tests.slice_middle hfront length_behindParams]

/-- The request is signed where its signature verifies. -/
theorem behindRequest_signed (hlen : sign.length = 64) (h : sm2Verify baseKey behindMsg sign = true) : mbSigned (behindRequest sign) = true := by
  have hmsg : (behindRequest sign).take 116 = behindMsg := List.take_left' length_behindMsg
  have hsign : slice (behindRequest sign) 116 64 = sign := by
    have h := Tests.slice_middle (c := []) length_behindMsg hlen
    rwa [List.append_nil] at h
  rw [mbSigned, behindRequest_key, behindRequest_size, hmsg, hsign, h]

/-! ### The state that the request is put to -/

/-- The base point is the key of the one owner. -/
def baseOwner : Owner := { digest := sm3 baseKey, enrolled := true, revoked := false }

/-- The base point's owner is the only one. -/
def State.ownedByBase (s : State) : State := { s with secu := { s.secu with owners := [baseOwner] } }

theorem State.ownedByBase_same (s : State) : s.ownedByBase.mbBusy 1 = s.mbBusy 1 ∧ s.ownedByBase.fld (Reg.mgtMbLen 1) 15 0 = s.fld (Reg.mgtMbLen 1) 15 0 ∧
    s.ownedByBase.secu.nonce = s.secu.nonce ∧ s.ownedByBase.secu.seqs = s.secu.seqs := ⟨rfl, rfl, rfl, rfl⟩

/-- Channel 1 waits with a request of 180 bytes. -/
def behindBox : State := (Tests.box 12 []).ownedByBase

theorem State.ownedByBase_ok (s : State) : s.ownedByBase.ownerOk baseKey = true := by
  simp [State.ownerOk, State.ownerOf, State.owner, State.ownedByBase, baseOwner, List.findIdx?_cons]

theorem behindBox_owner : behindBox.ownerOk baseKey = true := State.ownedByBase_ok _

theorem behindBox_shown : behindBox.mbBusy 1 = true ∧ behindBox.fld (Reg.mgtMbLen 1) 15 0 = 180 ∧ behindBox.secu.nonce = List.replicate 16 0 ∧
    behindBox.secu.seqs = [0, 0] := by
  obtain ⟨hbusy, hlen, hnonce, hseqs⟩ := (Tests.box 12 []).ownedByBase_same
  rw [behindBox, hbusy, hlen, hnonce, hseqs]
  decide +kernel

theorem behindBox_envelope (hlen : sign.length = 64) : behindBox.envelope 1 (behindRequest sign) (fun n => n == 12) = 0 := by
  obtain ⟨-, -, hnonce, hseqs⟩ := behindBox_shown
  have hlength : (behindRequest sign).length = 180 := by rw [behindRequest, List.length_append, length_behindMsg, hlen]
  have hwait : slice behindHead 8 16 = List.replicate 16 0 := by decide
  have hseq : leNat (slice behindHead 24 8) = 1 := by decide
  rw [State.envelope, behindRequest_size, hlength, behindRequest_serial, behindRequest_head sign (by decide), behindRequest_head sign (by decide), hnonce, hseqs,
    hwait, hseq, if_neg (by decide), if_neg (by simp)]

theorem behindBox_asks (hlen : sign.length = 64) : behindBox.mbAsks 1 (behindRequest sign) 0x10 (fun n => n == 12) ownerSigner (behindRequest sign) := by
  obtain ⟨hbusy, hsize, -, -⟩ := behindBox_shown
  have hlength : (behindRequest sign).length = 180 := by rw [behindRequest, List.length_append, length_behindMsg, hlen]
  refine ⟨hbusy, ?_, ?_, behindBox_envelope hlen, ?_⟩
  · rw [State.mbRequest, hsize, if_neg (by decide), if_pos hlength]
  · have h := behindRequest_head sign (i := 0) (n := 4) (by decide)
    rw [slice, List.drop_zero] at h
    rw [h]
    decide
  · rw [behindRequest_key, ownerSigner, behindBox_owner]
    rfl

/-- A PRIV_WRITE whose signature verifies is served. -/
theorem State.mbAsks.exec_privWrite {c t : Nat} {host b : List Byte} (h : s.mbAsks c host 0x10 (fun n => n == 12) ownerSigner b) :
    ∃ u, exec (.mbPrivWrite c host t) s = .next u ∧ (mbSigned b = true → u = s.served c t b ((s.asked c t b).svcPrivWrite (mbParams b))) :=
  h.exec_served (run := fun x _ p => x.svcPrivWrite p) rfl rfl

/-- A PRIV_WRITE behind the SEC page finds no page. -/
theorem State.svcPrivWrite_behind (s : State) : s.svcPrivWrite behindParams = (0xB, [], s.rejectUnmapped .marigold 0x5C1000 0) := by
  have hreached : s.reached 0x1C1000 = none := rfl
  have haddr : leNat (slice behindParams 0 4) % 0x400000 = 0x1C1000 := by decide
  have hmask : leNat (slice behindParams 4 4) = 0 := by decide
  have hvalue : leNat (slice behindParams 8 4) = 0 := by decide
  rw [State.svcPrivWrite, haddr, hmask, hvalue]
  dsimp only
  rw [if_neg (by decide), hreached]

end

/-- Refutes O55: a signed PRIV_WRITE of an owner to 0x1C1000, which lies in the statement's SEC page but behind the one page of that block,
is answered with 0xB, as every unmapped write is, and not with 0x1C05. -/
theorem not_mailboxFirmware : ¬ Obligations.MailboxFirmware := by
  intro h
  obtain ⟨sign, hlen, hverify⟩ := sm2Verify_exists behindMsg
  have hsigned := behindRequest_signed hlen hverify
  have hasks := behindBox_asks hlen
  obtain ⟨hwrite, -⟩ := h behindBox 1 0 (behindRequest sign) (behindRequest sign)
  obtain ⟨hprotected, -⟩ := hwrite hasks
  rw [behindRequest_params] at hprotected
  obtain ⟨u, hu, hclaim⟩ := hprotected (by decide) (by decide)
  obtain ⟨v, hv, hserved⟩ := hasks.exec_privWrite (t := 0)
  obtain rfl : u = v := Host.Outcome.next.inj (hu.symm.trans hv)
  have hends := hserved hsigned
  rw [behindRequest_params, State.svcPrivWrite_behind] at hends
  have hended : u.mbEnded 1 0xB := by
    rw [hends]
    exact (State.served_failed (code := 0xB) (by decide) rfl (by decide) (by decide)).ended
  obtain ⟨hcode, -⟩ := hended
  obtain ⟨⟨hclaimed, -⟩, -⟩ := hclaim hsigned
  exact absurd (hcode.symm.trans hclaimed) (by decide)

end Sys2Proof.Machine
